-- ==== Sys2Proof/Word.lean ====
section
/-!
DEFINITION. The word types of the CZ3208 model and their plainest arithmetic: bytes, 32-bit register words,
byte order, and the rounding words of R7.
-/
namespace Sys2Proof

/-- One byte. -/
abbrev Byte := BitVec 8
/-- One 32-bit register word (R10, R492). -/
abbrev Word := BitVec 32

/-- Saturate to the range `lo` to `hi` (R7, "Saturate"). -/
def satI (lo hi x : Int) : Int := if x < lo then lo else if hi < x then hi else x

/-- Saturate to a signed field of `w` bits. -/
def satS (w : Nat) (x : Int) : Int := satI (-(2 ^ (w - 1) : Int)) (2 ^ (w - 1) - 1) x

/-- Saturate to an unsigned field of `w` bits. -/
def satU (w : Nat) (x : Int) : Int := satI 0 (2 ^ w - 1) x

/-- Arithmetic shift right, which truncates toward minus infinity (R7, "Truncate"). -/
def asr (x : Int) (k : Nat) : Int := x / (2 ^ k : Int)

/-- Division rounded to nearest with ties away from zero (R7, "Round"); `d` is positive. -/
def roundDiv (x : Int) (d : Nat) : Int :=
  if 0 ≤ x then (2 * x + d) / (2 * d) else -((2 * (-x) + d) / (2 * d))

/-- The two's complement reading of the low `w` bits of `n`. -/
def toS (w n : Nat) : Int :=
  let m := n % 2 ^ w
  if m < 2 ^ (w - 1) then (m : Int) else (m : Int) - 2 ^ w

/-- The `w`-bit two's complement pattern of `x`. -/
def ofS (w : Nat) (x : Int) : Nat := (x % (2 ^ w : Int)).toNat

/-- Bits `lo` to `lo + w - 1` of `n`. -/
def bits (n lo w : Nat) : Nat := n / 2 ^ lo % 2 ^ w

/-- One bit of `n`. -/
def bit (n i : Nat) : Bool := n.testBit i

/-- 1 for true. -/
def b2n (b : Bool) : Nat := if b then 1 else 0

/-- Add with saturation at the largest value of a `w`-bit counter. -/
def incSat (w n : Nat) : Nat := if n + 1 < 2 ^ w then n + 1 else 2 ^ w - 1

/-- A number read from bytes, least significant byte first (R8, stored values). -/
def leNat : List Byte → Nat
  | [] => 0
  | b :: bs => b.toNat + 256 * leNat bs

/-- A number read from bytes, most significant byte first (R8, links; R412, session messages). -/
def beNat (bs : List Byte) : Nat := leNat bs.reverse

/-- The `k` bytes of `n`, least significant byte first. -/
def leBytes : Nat → Nat → List Byte
  | 0, _ => []
  | k + 1, n => BitVec.ofNat 8 n :: leBytes k (n / 256)

/-- The `k` bytes of `n`, most significant byte first. -/
def beBytes (k n : Nat) : List Byte := (leBytes k n).reverse

/-- `k` elements of a list from position `i`; short where the list ends. -/
def slice {α : Type} (l : List α) (i k : Nat) : List α := (l.drop i).take k

end Sys2Proof
end

