-- ==== Sys2Proof/Syntax.lean ====
section
/-!
DEFINITION. The commands of the CZ3208 block: one constructor per row of the opcode table. A command stands for an
access of a Person, for an event at a ball, a supply or a link, or for an event of the device's own sequencers.
-/
namespace Sys2Proof

/-- The paths an access arrives on (R11). -/
inductive Path where
  | al0 | al1 | spi | pmb | sess | fw
  deriving DecidableEq, Repr

/-- The Persons, with firmware, which is none (R11, Table 15.9). -/
inductive Person where
  | fw | p1 | p2 | p3
  deriving DecidableEq, Repr

/-- The events that lose the Control die (R325). -/
inductive CtCause where
  | lockstep | watchdog | heartbeat | loopPort | vcore
  deriving DecidableEq, Repr

/-- The supplies with a monitor of Table 2.4. -/
inductive Supply where
  | vaon | vdd33 | vddio | vcore | alIo
  deriving DecidableEq, Repr

/-- The two PLLs (Table 3.2). -/
inductive Pll where
  | front | control
  deriving DecidableEq, Repr

/-- A PMBus transaction after its command byte: a read, or a write of data bytes in the order received, with its PEC byte
where one came (R457). -/
inductive Xfer where
  | read
  | write (data : List Byte) (pec : Option Byte)
  deriving DecidableEq, Repr

/-- The IEEE 1149.1 instructions (R424); `zilura` is a test instruction of the maker, `other` any code that is none of these. -/
inductive TapInstr where
  | bypass | idcode | sample | extest | zilura | other
  deriving DecidableEq, Repr

/-- What the Basic Flash Parameter Table of a NOR says beside its density (R103): the 1-1-4 and 1-4-4 fast-read opcodes (0
for none) with their dummy counts, 4-byte-only addressing, and the quad-enable requirement: its method, whether the table asks for
a bit, whether the method allows a volatile write, and whether that write is 0x31 in place of 0x01. -/
structure Sfdp where
  op114 : BitVec 8
  dummy114 : BitVec 5
  op144 : BitVec 8
  dummy144 : BitVec 5
  addr4 : Bool
  method : BitVec 8
  qeBit : Bool
  qeVolatile : Bool
  qe31 : Bool
  deriving DecidableEq, Repr

/-- The readings of the four selector balls VSEL3 to VSEL0, converter codes (R234). -/
structure VselRead where
  x3 : BitVec 10
  x2 : BitVec 10
  x1 : BitVec 10
  x0 : BitVec 10
  deriving DecidableEq, Repr

/-- A frame of the Aedat Link that ends early or late (R239, R240): its rising edges, and the header, payload and CRC received. -/
structure AlCut where
  edges : Nat
  header : Byte
  payload : Word
  crc : Byte
  deriving DecidableEq, Repr

/-- The payload of a SETV or HINT frame, and how many ns before the end of the frame its answer goes out (R247). -/
structure AlAsk where
  payload : Word
  lead : BitVec 9
  deriving DecidableEq, Repr

/-- The commands of the block: one constructor per row of the opcode table. The first operand `t` is the instant of the
event, in nanoseconds since VAON first became good; the others are what the event carries. -/
inductive Instr where
  /-- A write access to a register that has no row of its own is checked field by field and applied or refused whole (R515). -/
  | registerWrite (t : Nat) (path : Path) (addr : BitVec 16) (data : Word)
  /-- The Front die receives a rail's duty word on the loop port, discards it on a parity failure and otherwise applies it to the phases (R14). -/
  | loopPortDutyWord (t : Nat) (r : Fin 8) (flip : BitVec 16) (flipParity : Bool)
  /-- Three parity failures in 16 updates, or a loop-port clock absent for 60 ns, sets LP_FAULT and hands every running rail to the Pronoun loop (R14). -/
  | loopPortFault (t : Nat) (r : Fin 8) (clockAbsent : Bool)
  /-- A 128-bit die bridge frame arrives, is checked against its CRC and is dispatched by class, or is discarded and counted (R15). -/
  | bridgeFrameReceive (t : Nat) (frame : BitVec 128)
  /-- An acknowledged frame is still unacknowledged 200 ns after it was sent and is sent again (R17). -/
  | bridgeResendTimeout (t : Nat) (frame : Fin 4)
  /-- The Control die takes a class 1 protection event from the Front die, records it and applies the derates and policy it calls for (R16). -/
  | protectionEventReceive (t : Nat)
  /-- The Front die acknowledges a class 3 phase-state request, which then takes effect and updates the Control die's mirror (R154). -/
  | phaseStateAck (t : Nat)
  /-- The answer to a class 4 Front-die register access arrives and completes the host or firmware access that issued it (R516). -/
  | bridgeRegisterAnswer (t : Nat)
  /-- Every 1 µs the Control die sends a heartbeat whose sequence number is one greater than the last (R18). -/
  | heartbeatSend (t : Nat)
  /-- The Front die receives a valid heartbeat, echoes it within 40 ns and stores its sequence number in HB_SEQ (R18). -/
  | heartbeatReceive (t : Nat) (seq : BitVec 8)
  /-- The Control die receives a heartbeat echo and compares its PSW_CRC with the CRC of its own mirror (R338). -/
  | heartbeatEchoReceive (t : Nat)
  /-- The Control die sends the class 3 rewrite of the phase's Front-die state, and its acknowledgement clears COH_HOLD (R339). -/
  | coherenceRewrite (t : Nat) (n : Fin 32)
  /-- The Front die declares the Control die lost on a reset, a heartbeat loss or a loop-port fault and hands the rails to the Pronoun loop, taking T15 or T16 (R325). -/
  | controlDieLost (t : Nat) (cause : CtCause)
  /-- No valid echo for 2.5 µs: the Control die sets HB_LOST, reports the fault and stops sending duty commands (R20). -/
  | frontDieLost (t : Nat)
  /-- The Front-die clock stops for 200 ns: every PWM ball goes to tri-state, every SEN goes low and FAULT_N is asserted (R21). -/
  | missingClock (t : Nat)
  /-- The two policy cores disagree and the Control die resets itself within 1 µs (R22). -/
  | lockstepMismatch (t : Nat)
  /-- The policy watchdog expires and the Control die resets itself (R22). -/
  | policyWatchdogExpiry (t : Nat)
  /-- Firmware restarts the policy watchdog through the core-local control register (R24). -/
  | watchdogRestart (t : Nat)
  /-- Every 100 ns the controller arbitrates a region's phase-add requests against its input budget (R31). -/
  | regionArbitration (t : Nat) (m : Fin 4)
  /-- A supply stays above its rising threshold for its filter time and is treated as good (R44). -/
  | supplyGood (t : Nat) (net : Supply)
  /-- VDDIO has stayed above 1.60 V for 200 µs and the controller selects the 1.8 V or 3.3 V mode, or evaluates again (R45). -/
  | vddioModeSelect (t : Nat) (mv : Nat)
  /-- VAON becomes not good: both dies take a full power-on reset and the device enters DORMANT by T1 (R49). -/
  | vaonPowerOnReset (t : Nat)
  /-- VDD33 becomes not good: PWM goes to tri-state, SEN goes low, VDD33_LOSS is set and the journal write path moves to VAON (R49). -/
  | vdd33Loss (t : Nat)
  /-- VCORE becomes not good while VDD33 is good: the Control die is reset and the core buck is restarted (R519). -/
  | vcoreLoss (t : Nat)
  /-- The core buck restart timer expires and the buck is started again (R519). -/
  | coreBuckRestart (t : Nat)
  /-- VDDIO becomes not good: host SPI, NOR and test port stop and any image read in progress fails (R49). -/
  | vddioLoss (t : Nat)
  /-- A pair of strap readings 100 µs apart is taken, and each strap's code is accepted, repeated or declared bad (R53). -/
  | strapRead (t : Nat) (strap : Fin 5) (ohm1 : Nat) (ohm2 : Nat)
  /-- The low-frequency oscillator starts running after the power-on reset is released, and wake events are accepted from then on (R65). -/
  | lfoscStart (t : Nat)
  /-- The filtered WAKE comparator reads high and gives a wake event (R67). -/
  | wakeBallRise (t : Nat)
  /-- WAKE has stayed below 1.0 V for 1 ms, which reads low and starts the orderly shutdown or T22 (R67). -/
  | wakeBallLow (t : Nat)
  /-- WAKE_PERIOD seconds have passed in DORMANT with TIMER_EN set, which gives a wake event (R66). -/
  | wakeTimerExpiry (t : Nat)
  /-- An accepted wake event starts WAKE by T2 while VDD33 is good, or stays pending (R66). -/
  | wakeEventAccept (t : Nat)
  /-- A timer or VDD33 wake reaches 60 s and the orderly shutdown begins (R68). -/
  | timedWakeLimit (t : Nat)
  /-- A write of SLEEP_REQ ends a timer or VDD33 wake with the orderly shutdown (R68). -/
  | sleepReq (t : Nat) (path : Path)
  /-- The reference is still not good 1.5 ms into WAKE: the PLLs switch to the backup reference and XTAL_FAIL is set (R69). -/
  | xtalStartTimeout (t : Nat)
  /-- The running reference stops or departs by more than 3 %, and the PLLs move to the backup oscillator within 1 µs (R70). -/
  | refClockFail (t : Nat) (departed : Bool)
  /-- A PLL loses lock: PLL_UNLOCK is set and an output beyond ±4 % becomes device-latching fault 0x5 (R72). -/
  | pllUnlock (t : Nat) (pll : Pll) (err : Int)
  /-- A PLL locks again with its output within ±4 % and record 0x0303 is written (R72). -/
  | pllRelock (t : Nat) (pll : Pll) (err : Int)
  /-- Supplies, clocks, straps and LINK_UP are all ready, and the device enters PARSE by T3 (R74). -/
  | wakeComplete (t : Nat)
  /-- T3 is not met 5 ms after T2: WAKE_FAIL_CNT is raised and the device returns to DORMANT by T4 (R74). -/
  | wakeTimeout (t : Nat)
  /-- A RESET_N low pulse longer than 1 µs resets both dies, stops the stages and holds the device in WAKE (R79). -/
  | resetNAssert (t : Nat)
  /-- RESET_N is released and WAKE continues (R79). -/
  | resetNRelease (t : Nat)
  /-- A write of SAFESTOP_CLR by P2 or P3 requests T21, which is taken at once, held until RAMPDOWN ends, or lapses (R80). -/
  | safestopClr (t : Nat) (path : Path)
  /-- Once the journal commit is done or deferred after a shutdown, an end of discharge, T22 or a VDD33 loss, the device enters DORMANT (R78). -/
  | dormantEntry (t : Nat)
  /-- A region enable reads off, and each rail of the region stops or disarms as its state requires (R520). -/
  | regionEnableOff (t : Nat) (m : Fin 4)
  /-- A region enable reads on, and its enabled rails arm (R81). -/
  | regionEnableOn (t : Nat) (m : Fin 4)
  /-- The Parser wakes and resets the NOR, reads SFDP and selects its read mode (R103). -/
  | norDiscovery (t : Nat) (sfdp : Bool) (density : BitVec 5) (table : Sfdp) (qe : Bool)
  /-- Both image headers have been read, and the Parser chooses a candidate copy or the strap profile (R106). -/
  | imageHeadersRead (t : Nat) (a : List Byte) (b : List Byte)
  /-- The last byte of a copy has been read and its tags, signature and content checked, and the copy is applied, its fallback tried, or T6 taken (R102). -/
  | imageCopyVerified (t : Nat) (copy : List Byte)
  /-- A data read fails, and the Parser restarts from SFDP after VDDIO is good, or gives up with T6 (R108). -/
  | norReadFail (t : Nat)
  /-- VDDIO is still not good 50 ms into a restart wait, which counts as no configuration that can be applied (R108). -/
  | norVddioWaitTimeout (t : Nat)
  /-- The controller applies the configuration in the steps of Table 4.8, sets DONE and enters PRECHECK by T5 (R111). -/
  | configApply (t : Nat)
  /-- At each update the rail engine runs its datapath on the error sample and sends the duty word (R125). -/
  | railEngineUpdate (t : Nat) (r : Fin 8) (flip : BitVec 11)
  /-- Every 20 ns the Front die converts a rail's error sample and applies its large-signal, plausibility and window comparisons (R119). -/
  | errorSample (t : Nat) (r : Fin 8) (vs : Int) (va : Int)
  /-- LS_MAX × 20 ns after the trip the large-signal action ends, and that direction cannot trip for 1 µs (R149). -/
  | lsMaxExpiry (t : Nat) (r : Fin 8)
  /-- The overshoot still holds BRAKE_DLY after the trip, and phases with positive current go to tri-state (R148). -/
  | brakeStart (t : Nat) (r : Fin 8)
  /-- The braking inhibit that followed BRK_N starts ends 10 ms after its window (R315). -/
  | brakeInhibitEnd (t : Nat) (r : Fin 8)
  /-- A BUS_V feedforward sample arrives in a class 5 frame and sets VIN_CODE and RVIN (R134). -/
  | vinSample (t : Nat) (sample : BitVec 12)
  /-- No feedforward sample has arrived for 10 µs: the last RVIN is kept and VIN_STALE is set (R135). -/
  | vinStale (t : Nat)
  /-- VIN_STALE has held for 1 ms, and every switching rail carries D = VSTALE_D (R304). -/
  | feedforwardStaleDerate (t : Nat)
  /-- The shadow copy of a newly selected set completes and the banks swap bumplessly (R144). -/
  | compensatorSwap (t : Nat) (r : Fin 8)
  /-- STORE_WR writes the staged coefficient set into the set store, or refuses it whole (R145). -/
  | storeWr (t : Nat) (path : Path) (r : Fin 8) (data : Word)
  /-- Every 320 ns the refreshed phase currents update I_SUM, the current fold and the load-line filter (R137). -/
  | iSumRefresh (t : Nat) (r : Fin 8)
  /-- The phase-current ADC samples IMON against REFIN, and the sample is converted to current (R157). -/
  | phaseCurrentSample (t : Nat) (n : Fin 32) (adc : Int)
  /-- Four consecutive saturated samples declare SENSE_RANGE and fail the phase (R160). -/
  | senseRange (t : Nat) (n : Fin 32)
  /-- At a phase period end, I_AVG is formed, the observer runs and the phase window is counted (R162). -/
  | phasePeriodEnd (t : Nat) (n : Fin 32)
  /-- OBS_CNT reaches OBS_N: the phase is FAILED and STOPPED, re-placed, and reported in a class 1 event (R164). -/
  | phaseFail (t : Nat) (n : Fin 32)
  /-- From the next update, the Control die drops the failed phase, applies FAIL_D, sends a ceiling notice and alerts (R166). -/
  | failureFollowup (t : Nat) (n : Fin 32)
  /-- An added phase completes OBS_SETTLE periods and enters ACTIVE (R181). -/
  | phaseSettled (t : Nat) (n : Fin 32)
  /-- The shed conditions have held for SHED_DWELL, and one phase enters SHEDDING (R182). -/
  | shedDwellExpiry (t : Nat) (r : Fin 8)
  /-- A shedding phase's current reaches 2 A or 2 × SHED_RAMP periods pass, and the phase goes IDLE (R183). -/
  | phaseShedComplete (t : Nat) (n : Fin 32)
  /-- The light-load condition has held for DE_DWELL, and diode emulation becomes active (R185). -/
  | deEntry (t : Nat) (r : Fin 8)
  /-- A phase's counter passes 0 and the phase turns on, applies pair overlap and moves its offset (R198). -/
  | phasePeriodStart (t : Nat) (n : Fin 32)
  /-- A write of FORCE_TRI stops the phase from its next period start, and a write of 0 returns it to IDLE (R204). -/
  | forceTri (t : Nat) (path : Path) (n : Fin 32) (data : Word)
  /-- A write to INVERT or SWAP is applied when the rail is OFF in SERVICE, and otherwise refused and recorded (R203). -/
  | overrideWrite (t : Nat) (path : Path) (n : Fin 32) (both : Bool) (data : Word)
  /-- FULL_CNT reaches BST_N, and a LOW refresh pulse is driven from the next period start (R207). -/
  | bootstrapRefresh (t : Nat) (n : Fin 32)
  /-- A TFLT input is read as fault after its 5 ns filter (R209). -/
  | tfltFault (t : Nat) (n : Fin 32) (fault : Bool)
  /-- The peak-current comparator trips outside blanking (R293). -/
  | peakCurrentTrip (t : Nat) (n : Fin 32)
  /-- The negative peak comparator trips while the ball is LOW, and the phase goes to tri-state until its next period (R294). -/
  | negPeakTrip (t : Nat) (n : Fin 32)
  /-- CUT_CNT reaches CUT_N: the rail fast-stops and enters HICCUP or LATCHED (R212). -/
  | hiccupEscalation (t : Nat) (n : Fin 32)
  /-- HIC_OFF − SEN_LEAD after the fast stop, SEN goes high again (R213). -/
  | hiccupSenRaise (t : Nat) (r : Fin 8)
  /-- HIC_OFF elapses: faulted phases are TFLT-latched and the rail enters RAMP if enough phases are live (R213). -/
  | hiccupRetry (t : Nat) (r : Fin 8)
  /-- After 1 s in REG or SHED with no cut, RETRY_CNT returns to 0 (R214). -/
  | retryCntClear (t : Nat) (r : Fin 8)
  /-- A TFLT fault lasting 2 µs stops the phase, which is TFLT-latched (R216). -/
  | tfltLatch (t : Nat) (n : Fin 32)
  /-- TFLT reads no-fault for 100 µs and the latched phase returns to IDLE, unless this was its third latch in 1 s (R217). -/
  | tfltLatchRelease (t : Nat) (n : Fin 32)
  /-- SEN has been high for SEN_LEAD, and the rail's pre-start tests or ramp may proceed (R218). -/
  | senLeadElapsed (t : Nat) (r : Fin 8)
  /-- SEN_LAG after the last phase goes to tri-state, SEN falls and the rail enters OFF or LATCHED (R219). -/
  | softStopSenFall (t : Nat) (r : Fin 8)
  /-- A SYNCI rising edge updates PER_MEAS and moves the followed rails' period starts toward it (R221). It lies `sub` ticks into its
  nanosecond; `off` is how it is resolved against that tick (R504), 2 for exactly. -/
  | synciEdge (t : Nat) (sub : BitVec 4) (off : BitVec 3)
  /-- No SYNCI edge arrives within 1.5 periods (`late`), or the period leaves ±10 %: SYNCI is lost and SYNC_LOCK clears (R222). -/
  | synciLost (t : Nat) (late : Bool)
  /-- An armed rail's turn in the start order comes after its predecessors and START_DELAY, and its ramp is started (R100). -/
  | railStartTurn (t : Nat) (r : Fin 8)
  /-- The pre-bias sample of VSP − VSN completes, and the rail enters RAMP from that code (R141). -/
  | rampStart (t : Nat) (r : Fin 8) (code : BitVec 12)
  /-- A host or service write of SP_CMD is checked as a set-point command and sets SP_TGT, or is refused (R231). -/
  | spCmd (t : Nat) (path : Path) (r : Fin 8) (data : Word)
  /-- A write of SP_WIN narrows the P1 window, moves SP_TGT if needed and queues WINDOW notices, or is refused (R232). -/
  | spWin (t : Nat) (path : Path) (r : Fin 8) (data : Word)
  /-- A selector code is valid and unchanged for 5 × VSEL_FILT samples, and is accepted as a command (R235). -/
  | vselCodeAccept (t : Nat) (x : VselRead)
  /-- The selector code stays invalid for 1 ms, and VSEL_INV is set (R235). -/
  | vselInvalid (t : Nat) (x : VselRead)
  /-- ALCLK stays low 45–50 ns, which ends the frame and fixes the next return-slot word (R239). -/
  | aedatFrameGap (t : Nat) (p : Fin 2) (f : AlCut)
  /-- ALCLK stays high for 45–50 ns: the frame in progress is discarded and CLK_STUCK is set (R240). -/
  | clkStuck (t : Nat) (p : Fin 2) (f : AlCut)
  /-- A NOP frame does nothing and collects the return slot and status (R242). -/
  | nop (t : Nat) (p : Fin 2) (seq : BitVec 4) (payload : Word)
  /-- A SETV frame is checked and, when acknowledged, writes SP_TGT at frame end (R247). -/
  | setv (t : Nat) (p : Fin 2) (seq : BitVec 4) (ask : AlAsk)
  /-- A CTX frame sets the port's context ID (R244). -/
  | ctx (t : Nat) (p : Fin 2) (seq : BitVec 4) (payload : Word)
  /-- A HINT frame refills tokens, is checked and writes a Tense entry and schedule entry (R266). -/
  | hint (t : Nat) (p : Fin 2) (seq : BitVec 4) (ask : AlAsk)
  /-- An UNHINT frame withdraws the context's pending hints for one rail (R269). -/
  | unhint (t : Nat) (p : Fin 2) (seq : BitVec 4) (payload : Word)
  /-- A READ frame starts a register read whose result goes out in a later return slot (R250). -/
  | read (t : Nat) (p : Fin 2) (seq : BitVec 4) (payload : Word)
  /-- A WADDR frame sets the port's write address for one WDATA (R244). -/
  | waddr (t : Nat) (p : Fin 2) (seq : BitVec 4) (payload : Word)
  /-- A WDATA frame writes the register at the write address as a P1 write (R244). -/
  | wdata (t : Nat) (p : Fin 2) (seq : BitVec 4) (payload : Word)
  /-- A NOTEACK frame removes the notice in service, and the next notice enters service (R253). -/
  | noteack (t : Nat) (p : Fin 2) (seq : BitVec 4) (payload : Word)
  /-- A PRESET frame resets the port's context, write address, outstanding read and credits (R255). -/
  | preset (t : Nat) (p : Fin 2) (seq : BitVec 4) (payload : Word)
  /-- A read result uncollected for 1 ms is discarded, and its credit is returned (R250). -/
  | readLost (t : Nat) (p : Fin 2)
  /-- No CRC-good frame arrives for AL_TMO: the port is declared silent, reset, and optionally returned to BOOT_CODE (R254). -/
  | aedatPortSilent (t : Nat) (p : Fin 2)
  /-- Every 440 ns the background sweep refills one context's hint tokens (R265). -/
  | tokenSweep (t : Nat) (x : BitVec 15)
  /-- ADD_LEAD before a hint's due time, phases are requested for the hinted step (R272). -/
  | hintPhaseRequest (t : Nat) (r : Fin 8) (x : BitVec 15) (slot : Fin 4)
  /-- RAMP_ADV before the due time, the entry takes its base and AEFF and starts rising, or becomes a shadow entry (R270). -/
  | hintRise (t : Nat) (r : Fin 8) (x : BitVec 15) (slot : Fin 4)
  /-- HOLD_T after the due time, the entry starts FALLING (R270). -/
  | hintHoldEnd (t : Nat) (r : Fin 8) (x : BitVec 15) (slot : Fin 4)
  /-- At its score time the entry is judged a hit or a miss, and the context weight is updated (R275). -/
  | hintScore (t : Nat) (r : Fin 8) (x : BitVec 15) (slot : Fin 4)
  /-- The output stays high for 4 updates against the hint: entries unwind and are scored as misses (R274). -/
  | earlyMiss (t : Nat) (r : Fin 8)
  /-- TN_CTX_SEL command 0b01 sets the context's weight to W_INIT (R277). -/
  | ctxResetWeight (t : Nat) (path : Path) (ctx : BitVec 15)
  /-- TN_CTX_SEL command 0b10 sets W to 0 and unwinds the context's entries unscored (R277). -/
  | ctxMute (t : Nat) (path : Path) (ctx : BitVec 15)
  /-- TN_CTX_SEL command 0b11 removes the context's entries unscored (R277). -/
  | ctxFlush (t : Nat) (path : Path) (ctx : BitVec 15)
  /-- An over-voltage or absolute over-voltage reading starts a crowbar on the rail (R298). -/
  | railOvervoltage (t : Nat) (r : Fin 8)
  /-- The output has stayed below half the reference for 1 µs, or CB_MAX elapses, and the rail fast-stops and latches (R298). -/
  | crowbarEnd (t : Nat) (r : Fin 8)
  /-- An under-voltage reading outside pulls PGOOD low (R299). -/
  | railUndervoltage (t : Nat) (r : Fin 8)
  /-- Under-voltage has persisted for UV_HIC_T, and the rail fast-stops into the retry logic (R299). -/
  | uvHiccupTimeout (t : Nat) (r : Fin 8)
  /-- After PG_DLY in REG, SHED or CARETAKEN with the window inside, PGOOD is released (R300). -/
  | pgoodRelease (t : Nat) (r : Fin 8)
  /-- The current sum has exceeded the limit sum for OC_SUST, and the rail fast-stops into the retry logic (R301). -/
  | railOvercurrent (t : Nat) (r : Fin 8)
  /-- PHW_CNT reaches PHW_N, and the phase stops until the next PRECHECK (R295). -/
  | phaseWindowStop (t : Nat) (n : Fin 32)
  /-- Two BUS_V samples at or above BUS_OV fast-stop every rail with device-latching fault 0x2 (R303). -/
  | busOvervoltage (t : Nat)
  /-- REFIN goes outside its window or drifts from REFIN_REF: the observer stops comparing and D = 96 applies (R305). -/
  | refinFault (t : Nat) (m : Fin 4) (mv : Nat)
  /-- After 1 ms of inside readings and a good round, the REFIN fault ends (R305). -/
  | refinFaultEnd (t : Nat) (m : Fin 4)
  /-- Two samples outside the sense window move the rail to its auxiliary sense with D = AUX_D, or soft-stop it (R307). -/
  | senseOpen (t : Nat) (r : Fin 8)
  /-- Eight upward parity failures in 64 updates make the Control die send a frozen-feedback request (R309). -/
  | frozenFeedbackRequest (t : Nat) (r : Fin 8)
  /-- Frozen feedback is declared, and the rail moves to its auxiliary sense with D = 64, or soft-stops (R309). -/
  | feedbackFrozen (t : Nat) (r : Fin 8)
  /-- The auxiliary sense clips for 32 samples or freezes, and the rail takes an open-loop soft stop and latches (R310). -/
  | auxSenseImplausible (t : Nat) (r : Fin 8)
  /-- Every 10 µs, REF_TRIM moves one code toward 0 (R312). -/
  | refTrimStep (t : Nat)
  /-- No two references agree for 3 rounds, which is device-latching fault 0x3 (R313). -/
  | noReferenceVote (t : Nat)
  /-- The 64 initial reference votes of PRECHECK complete, and rail testing may begin (R311). -/
  | precheckReferenceVote (t : Nat) (ab : Int) (bc : Int) (ca : Int)
  /-- A rail's pre-start test sequence ends, and the rail stays ARMED, returns to OFF or raises fault 0x1 (R316). -/
  | prestartTest (t : Nat) (r : Fin 8) (refin : Nat) (meas : List (Int × Int × Int)) (vsp : Int) (vsn : Int) (vsa : Int) (rise : Int)
  /-- A lease reaches its maximum, and its holder is stopped as Table 10.8 gives (R319). -/
  | leaseExpiry (t : Nat) (res : Fin 5)
  /-- A write of RAIL_CLR clears a LATCHED rail or a pre-start hold when its cause is absent (R292). -/
  | railClr (t : Nat) (path : Path) (data : Word)
  /-- A W1C write of FAULT_HOLD clears it, and FAULT_N is released if no other condition holds (R291). -/
  | faultHoldClear (t : Nat) (path : Path)
  /-- At each update, the Pronoun loop tracks the engine or computes the caretaker duty (R328). -/
  | pronounUpdate (t : Nat) (r : Fin 8)
  /-- 5 ms pass without warm adoption, and every CARETAKEN rail enters RAMPDOWN (R331). -/
  | caretakerTimeout (t : Nat)
  /-- Every held rail has stopped, and T18 or T19 follows (R331). -/
  | caretakerStopComplete (t : Nat)
  /-- The Control die leaves reset in CARETAKER, and its boot ROM runs the adoption checks and restores state (R334). -/
  | adoptionCheck (t : Nat) (hashOk : Bool) (digestOk : Bool) (eccOk : Bool)
  /-- Four parity-good duty words close to the Pronoun duty hand a rail back to its engine (R336). -/
  | railHandover (t : Nat) (r : Fin 8)
  /-- A rail has not been handed over 20 µs after its engine started, and adoption is refused with result 5 (R336). -/
  | adoptionHandoverTimeout (t : Nat) (r : Fin 8)
  /-- Every HK_ROUND ms, a housekeeping round starts, or is skipped while one runs (R343). -/
  | hkRoundStart (t : Nat)
  /-- A housekeeping slot's 16 conversions complete, and the channel result is taken (R344). -/
  | hkSlotComplete (t : Nat) (ch : Fin 32) (a : Int) (b : Int)
  /-- An on-demand conversion request is served at the next slot boundary (R345). -/
  | hkDemandRequest (t : Nat)
  /-- Channel 31 fails in two consecutive rounds: SELF_FAIL is set and later results read out of range (R346). -/
  | selfCheckFail (t : Nat)
  /-- STALE_MAX consecutive out-of-range readings make a sensor FAILED (R349). -/
  | sensorFailed (t : Nat) (k : Fin 47)
  /-- Every 1 µs the scanner converts one TFLT ball and completes its temperature sum (R348). -/
  | tfltScan (t : Nat) (n : Fin 32) (code : BitVec 10)
  /-- Every 100 µs the on-die shutdown comparators are strobed, and two high readings raise fault 0x7 (R354). -/
  | pkgTshutStrobe (t : Nat) (cmp : BitVec 6)
  /-- BAT_V, BAT_I and BAT_T are captured together and used for presence, charge estimate and hold-up checks (R376). -/
  | packCapture (t : Nat) (v : BitVec 14) (i : Int) (rho : BitVec 16)
  /-- Each millisecond the change of CC_RAW is added to CC_ACC (R377). -/
  | coulombCounterUpdate (t : Nat) (raw : BitVec 16)
  /-- The 16 start periods from WAIT complete, and the charger input is judged present or the charger retries (R365). -/
  | chargerInputCheck (t : Nat) (above : BitVec 16)
  /-- The 1 s retry wait ends, and the charger tries to start again (R365). -/
  | chargerRetry (t : Nat)
  /-- BAT_I stays at or below ITERM for TERM_T in CV, and the charger enters DONE with QREM full (R383). -/
  | chargeTermination (t : Nat)
  /-- BAT_V stays below the recharge level for 10 s in DONE, and charging restarts in CC (R367). -/
  | chargerRecharge (t : Nat)
  /-- Precharge exceeds PRE_TMAX: the charger faults and PACK_DEAD is set (R367). -/
  | chargerPreTimeout (t : Nat)
  /-- The charge timer reaches CHG_TIMER hours, and the charger faults with cause TIMER (R367). -/
  | chargerTimerExpiry (t : Nat)
  /-- BAT_V stays above the over-voltage level for 1 s, and the charger faults with cause OVP (R367). -/
  | chargerOvp (t : Nat)
  /-- A write of PK_CLR clears a charger fault and returns the charger to WAIT (R367). -/
  | pkClr (t : Nat) (path : Path) (data : Word)
  /-- 2 s after an insertion, the first estimate is set from the next capture and charging may resume (R382). -/
  | insertionHoldEnd (t : Nat)
  /-- The BUS_V comparator reads not good: the charger stops, HU_GATE switches on and HOLDUP is entered (R370). -/
  | inputLoss (t : Nat)
  /-- BUS_V has stayed above BUS_GOOD_R for 10 µs, and the comparator reads good (R368). -/
  | busGood (t : Nat)
  /-- Discharge current beyond IDIS_OC for 10 µs in HOLDUP fast-stops every rail and turns HU_GATE off (R372). -/
  | packOvercurrent (t : Nat)
  /-- Reverse current for 10 µs turns HU_GATE off and is judged as a probe (R372). -/
  | packReverseCurrent (t : Nat) (bus : BitVec 14)
  /-- Every HU_PROBE in HOLDUP, HU_GATE is turned off to probe the input (R373). -/
  | holdupProbe (t : Nat) (bus : BitVec 14)
  /-- The probe time ends, and the input is judged restored or HU_GATE turns on again (R373). -/
  | probeEnd (t : Nat) (bus : BitVec 14)
  /-- HU_TMAX elapses in HOLDUP, and the discharge ends with cause TIME (R374). -/
  | holdupTimeLimit (t : Nat)
  /-- The recovery rest after a restoration ends, and its last capture is applied as an OCV point (R381). -/
  | recoveryRestEnd (t : Nat)
  /-- A written PK_TEST request or the TEST_INT interval starts a pack test (R384). -/
  | pkTest (t : Nat) (who : Option (Path × Word))
  /-- The test's rest ends: an OCV point and V0 are taken and the charger enters TEST (R384). -/
  | packTestRestEnd (t : Nat)
  /-- After 2 s at ITEST, RFACT is computed from V1 and I1 (R384). -/
  | packTestMeasure (t : Nat)
  /-- One hour after an aborted test, the test is retried (R384). -/
  | packTestRetry (t : Nat)
  /-- A learning cycle open for more than 48 h is disqualified (R387). -/
  | learnTimeout (t : Nat)
  /-- An hour after the last pack record, a new one is queued (R389). -/
  | packRecordHourly (t : Nat)
  /-- An M1 HELLO is checked, and the device answers with CHALLENGE or a refusal (R414). -/
  | hello (t : Nat) (sid : BitVec 16) (nd : BitVec 128) (eph : BitVec 256) (k : BitVec 256)
  /-- An M3 AUTH is checked: certificate, binding and signature; the session opens with M4 or is refused (R414). -/
  | auth (t : Nat)
  /-- M3 does not arrive within 1 s of M2, which is a counted TIMEOUT failure (R414). -/
  | sessionHandshakeTimeout (t : Nat)
  /-- An M5 READ reads a register as P3 (R417). -/
  | sessionRead (t : Nat)
  /-- An M5 WRITE writes a register as P3 (R417). -/
  | sessionWrite (t : Nat)
  /-- An M5 CLOSE ends the session (R419). -/
  | close (t : Nat)
  /-- An M5 SERVICE requests T23 into SERVICE (R417). -/
  | service (t : Nat)
  /-- An M5 TAP_UNLOCK opens SAMPLE/PRELOAD and EXTEST on the test port (R424). -/
  | tapUnlock (t : Nat)
  /-- An M5 CLR_HEALTH sets a phase's FAIL_CNT to 0 in the journal (R417). -/
  | clrHealth (t : Nat)
  /-- An M7 ADD_KEY programs a key slot for the present generation (R421). -/
  | addKey (t : Nat)
  /-- An M7 TRANSFER writes the new owner's slot, raises OWN_GEN and retires earlier keys (R422). -/
  | transfer (t : Nat)
  /-- An M7 RETIRE_KEY retires a key slot unless the rules forbid it (R423). -/
  | retireKey (t : Nat)
  /-- An M7 ADD_IEK wraps and programs an image key (R421). -/
  | addIek (t : Nat) (iv : BitVec 96)
  /-- An M7 RETIRE_IEK retires an image key not used by the applied copy (R421). -/
  | retireIek (t : Nat)
  /-- An M7 TAP_DISABLE permanently disables test-port unlock (R421). -/
  | tapDisable (t : Nat)
  /-- An M7 DECOMMISSION destroys the PUF helper data and sets DECOMMISSIONED (R421). -/
  | decommission (t : Nat)
  /-- A write of SESS_CTRL.ABORT ends a handshake or the session (R419). -/
  | abort (t : Nat) (path : Path)
  /-- A write of SESS_MBOX pushes the next word of a host message (R412). -/
  | sessionMboxPush (t : Nat) (path : Path) (word : Word)
  /-- A read of SESS_MBOX pops the next word of the device's answer (R412). -/
  | sessionMboxPop (t : Nat) (path : Path)
  /-- No GO for IDLE_S seconds ends the session (R419). -/
  | sessionIdleTimeout (t : Nat)
  /-- The session lifetime elapses, and the session ends (R416). -/
  | sessionLifetimeExpiry (t : Nat)
  /-- The hold-off after counted failures ends, and new sessions may be attempted (R420). -/
  | lockoutEnd (t : Nat)
  /-- A P1 write of LOAD_CONSENT grants or withdraws consent for raw reads of its rails (R404). -/
  | loadConsent (t : Nat) (p : Fin 2) (data : Word)
  /-- A rail's consent reaches its duration and ends (R404). -/
  | consentExpiry (t : Nat) (r : Fin 8)
  /-- A shaped stream's window ends: the mean is quantised, WIN_CNT advances and firmware values are published (R401). -/
  | telemetryWindowEnd (t : Nat) (k : Fin 3)
  /-- A record enters the intake FIFO, or folds, displaces or is lost when the FIFO is full (R430). -/
  | recordIntake (t : Nat)
  /-- Every 40 ns the recorder stores one record, overwriting the oldest as its limits require (R431). -/
  | recordStore (t : Nat)
  /-- A rate-limit window of 1 ms ends and one record with its count is written if any events were counted (R518). -/
  | recordRateWindowEnd (t : Nat) (code : BitVec 16) (unit : Nat)
  /-- A write of REC_SEL captures the selected record or history entry into REC_DATA (R434). -/
  | recSel (t : Nat) (path : Path) (data : Word)
  /-- With AUTO set, a read of REC_DATA7 advances REC_SEL and captures the next record (R434). -/
  | recAutoAdvance (t : Nat) (path : Path)
  /-- A write of REC_CLR.CLR removes every non-sticky record (R435). -/
  | clr (t : Nat) (path : Path)
  /-- A write of CLR_STICKY from a CAL session removes every record (R435). -/
  | clrSticky (t : Nat) (path : Path)
  /-- The head of the commit queue passes the window, lease and charge checks and its commit starts, or is deferred (R442). -/
  | journalCommitStart (t : Nat) (vs : BitVec 11)
  /-- The payload is written and read back, and the commit word is written, or the commit is abandoned and requeued (R439). -/
  | journalCommitComplete (t : Nat) (ok : Bool) (drop : Nat)
  /-- The deferral interval ends, and the deferred commit is evaluated again (R445). -/
  | journalDeferRetry (t : Nat) (vs : BitVec 11)
  /-- Firmware stages an FW payload and requests its commit (R447). -/
  | fwJournalRequest (t : Nat) (payload : List Byte)
  /-- An SPI NOP transaction collects the previous result without an answer of its own (R453). -/
  | spiNop (t : Nat) (tag : BitVec 4)
  /-- An SPI READ transaction reads a register as P2 or P3, with its result returned in the next transaction (R453). -/
  | spiRead (t : Nat) (tag : BitVec 4) (addr : BitVec 16)
  /-- An SPI WRITE transaction writes a register as P2 or P3 (R453). -/
  | spiWrite (t : Nat) (tag : BitVec 4) (addr : BitVec 16) (data : Word)
  /-- A transaction with a CRC failure or a FORMAT error is not executed (R454). -/
  | spiFrameError (t : Nat) (edges : Nat) (raw : BitVec 80)
  /-- PMBus PAGE selects or reports the rail that rail-scoped commands address (R458). -/
  | page (t : Nat) (x : Xfer)
  /-- PMBus OPERATION returns whether the page's rail is switching (R459). -/
  | operation (t : Nat) (x : Xfer)
  /-- PMBus ON_OFF_CONFIG returns 0x16 (R459). -/
  | onOffConfig (t : Nat) (x : Xfer)
  /-- PMBus CLEAR_FAULTS clears the status bits of the page or of every page (R462). -/
  | clearFaults (t : Nat) (x : Xfer)
  /-- PMBus CAPABILITY returns 0xD0 (R459). -/
  | capability (t : Nat) (x : Xfer)
  /-- PMBus SMBALERT_MASK reads or sets the alert mask of a status command (R463). -/
  | smbalertMask (t : Nat) (x : Xfer)
  /-- PMBus VOUT_MODE returns 0x14 (R459). -/
  | voutMode (t : Nat) (x : Xfer)
  /-- PMBus VOUT_COMMAND sets the page's rail set-point as a host command, or reads it back (R460). -/
  | voutCommand (t : Nat) (x : Xfer)
  /-- PMBus STATUS_BYTE returns the low byte of STATUS_WORD (R461). -/
  | statusByte (t : Nat) (x : Xfer)
  /-- PMBus STATUS_WORD returns the page's status word (R461). -/
  | statusWord (t : Nat) (x : Xfer)
  /-- PMBus STATUS_VOUT returns the output-voltage status bits (R461). -/
  | statusVout (t : Nat) (x : Xfer)
  /-- PMBus STATUS_IOUT returns the output-current status bits (R461). -/
  | statusIout (t : Nat) (x : Xfer)
  /-- PMBus STATUS_INPUT returns the input status bits (R461). -/
  | statusInput (t : Nat) (x : Xfer)
  /-- PMBus STATUS_TEMPERATURE returns the temperature status bits (R461). -/
  | statusTemperature (t : Nat) (x : Xfer)
  /-- PMBus STATUS_CML returns the communication status bits (R461). -/
  | statusCml (t : Nat) (x : Xfer)
  /-- PMBus STATUS_MFR_SPECIFIC returns the manufacturer status bits (R461). -/
  | statusMfrSpecific (t : Nat) (x : Xfer)
  /-- PMBus READ_VIN returns the last BUS_V round value (R459). -/
  | readVin (t : Nat) (x : Xfer)
  /-- PMBus READ_VOUT returns the shaped rail voltage (R460). -/
  | readVout (t : Nat) (x : Xfer)
  /-- PMBus READ_IOUT returns the shaped rail current in LINEAR11 (R460). -/
  | readIout (t : Nat) (x : Xfer)
  /-- PMBus READ_TEMPERATURE_1 returns REG_TMAX of the rail's region (R459). -/
  | readTemperature1 (t : Nat) (x : Xfer)
  /-- PMBus READ_TEMPERATURE_2 returns PKG_TMAX (R459). -/
  | readTemperature2 (t : Nat) (x : Xfer)
  /-- PMBus READ_POUT returns the product of the shaped voltage and current (R460). -/
  | readPout (t : Nat) (x : Xfer)
  /-- PMBus PMBUS_REVISION returns 0x44 (R459). -/
  | pmbusRevision (t : Nat) (x : Xfer)
  /-- PMBus MFR_ID returns "ZILURA" (R459). -/
  | mfrId (t : Nat) (x : Xfer)
  /-- PMBus MFR_MODEL returns the part name (R459). -/
  | mfrModel (t : Nat) (x : Xfer)
  /-- PMBus MFR_REVISION returns the silicon revision digit (R459). -/
  | mfrRevision (t : Nat) (x : Xfer)
  /-- PMBus MFR_SERIAL returns DEV_ID0 and DEV_ID1 (R459). -/
  | mfrSerial (t : Nat) (x : Xfer)
  /-- PMBus MFR_REG_ADDR sets the register address and starts a read of it (R465). -/
  | mfrRegAddr (t : Nat) (x : Xfer)
  /-- PMBus MFR_REG_DATA reads or writes the addressed register as an SPI access would (R465). -/
  | mfrRegData (t : Nat) (x : Xfer)
  /-- PMBus MFR_REG_STATUS returns the result of the last register access (R464). -/
  | mfrRegStatus (t : Nat) (x : Xfer)
  /-- PMBus MFR_SESS_CTRL reads or writes SESS_CTRL (R464). -/
  | mfrSessCtrl (t : Nat) (x : Xfer)
  /-- PMBus MFR_SESS_STAT returns SESS_STAT (R464). -/
  | mfrSessStat (t : Nat) (x : Xfer)
  /-- PMBus MFR_SESS_MBOX pushes or pops mailbox words (R464). -/
  | mfrSessMbox (t : Nat) (x : Xfer)
  /-- PMBus MFR_REC_SEL writes REC_SEL of the PMBus bank (R464). -/
  | mfrRecSel (t : Nat) (x : Xfer)
  /-- PMBus MFR_REC_DATA returns the captured record in one transfer and advances it under AUTO (R464). -/
  | mfrRecData (t : Nat) (x : Xfer)
  /-- PMBus MFR_REC_NEWEST returns REC_NEWEST (R464). -/
  | mfrRecNewest (t : Nat) (x : Xfer)
  /-- PMBus MFR_RAIL_STATE returns RAIL_STATE (R464). -/
  | mfrRailState (t : Nat) (x : Xfer)
  /-- PMBus MFR_MODE returns MODE_STATUS (R464). -/
  | mfrMode (t : Nat) (x : Xfer)
  /-- PMBus MFR_PUB_SEL selects the published firmware value index (R464). -/
  | mfrPubSel (t : Nat) (x : Xfer)
  /-- PMBus MFR_PUB_DATA returns FW_PUB of the selected index (R467). -/
  | mfrPubData (t : Nat) (x : Xfer)
  /-- An unsupported command byte is NACKed, and the invalid-command bit is set (R459). -/
  | pmbusInvalidCommand (t : Nat) (code : Byte) (x : Xfer)
  /-- The controller wins an Alert Response Address read and releases SMBALERT_N (R463). -/
  | alertResponse (t : Nat)
  /-- A write of PMB_CLR acts as CLEAR_FAULTS on every page (R462). -/
  | pmbClr (t : Nat) (path : Path)
  /-- A controller's own general slot returns, and it strips the frame, checks for DUP_CTL and sends its next frame (R470). -/
  | cjOwnSlotReturn (t : Nat) (typ : BitVec 4) (src : BitVec 2) (seq : BitVec 2) (payload : BitVec 48) (crc : BitVec 16) (codeErr : Bool)
  /-- A member receives a TARGET frame and takes its DAC code, common target and F (R475). -/
  | target (t : Nat) (src : BitVec 2) (seq : BitVec 2) (payload : BitVec 48) (crc : BitVec 16) (codeErr : Bool)
  /-- A member receives RAILINFO and takes the spanning rail's state, limits and flags (R476). -/
  | railinfo (t : Nat) (src : BitVec 2) (seq : BitVec 2) (payload : BitVec 48) (crc : BitVec 16) (codeErr : Bool)
  /-- The leader receives a member's MSTAT and updates N_SYS_SW and ILIM_SYS (R474). -/
  | mstat (t : Nat) (src : BitVec 2) (seq : BitVec 2) (payload : BitVec 48) (crc : BitVec 16) (codeErr : Bool)
  /-- A RAILEV makes every controller fast-stop its part of the rail and take the carried state (R477). -/
  | railev (t : Nat) (src : BitVec 2) (seq : BitVec 2) (payload : BitVec 48) (crc : BitVec 16) (codeErr : Bool)
  /-- The leader receives a JOIN and welcomes or refuses the member (R472). -/
  | join (t : Nat) (src : BitVec 2) (seq : BitVec 2) (payload : BitVec 48) (crc : BitVec 16) (codeErr : Bool)
  /-- A member receives WELCOME and is joined, or records the refusal (R472). -/
  | welcome (t : Nat) (src : BitVec 2) (seq : BitVec 2) (payload : BitVec 48) (crc : BitVec 16) (codeErr : Bool)
  /-- A PING from a controller that holds no part of the spanning rail shows it is present (R471). -/
  | ping (t : Nat) (src : BitVec 2) (seq : BitVec 2) (payload : BitVec 48) (crc : BitVec 16) (codeErr : Bool)
  /-- The join interval ends, and a member without a WELCOME sends JOIN again (R472). -/
  | joinRetry (t : Nat)
  /-- 100 ms after PARSE with no WELCOME, the member records 0x1002 and holds its part ARMED (R472). -/
  | joinTimeout (t : Nat)
  /-- No good TARGET for 1 µs: the member islands on its own datapath with D = ISLAND_D (R478). -/
  | leaderLost (t : Nat)
  /-- An island lasts ISLAND_MAX, and the member soft-stops its part to OFF (R478). -/
  | islandTimeout (t : Nat)
  /-- The leader receives no MSTAT or PING from a member for 5 µs and declares it lost (R480). -/
  | memberLost (t : Nat) (c : Fin 4)
  /-- The leader's own frames stop returning for 1 µs, and RING_DOWN is set (R480). -/
  | ringDown (t : Nat)
  /-- The internal Aedat pad supply becomes not good: ALDI goes high impedance, ALALERT_N is released, a frame in progress is not executed and 0x080A is recorded (R256). -/
  | aedatPadSupplyLoss (t : Nat)
  /-- In each 400 kHz charger period the CHG_SW comparator is read and the current loop acts; 8 periods below 16.0 V or one above 62.0 V stop the charger, and the regulator's demand falling below ICHG_EFF takes CC to CV (R365). -/
  | chargerSwitchingPeriod (t : Nat) (sw : Nat) (demand : Nat)
  /-- Every 80 ns a target slot reaches the leader, which fills it with the DAC code, u and F of its latest engine update (R474). -/
  | targetSlotSend (t : Nat)
  /-- A frame of reserved TYPE 0xA to 0xF, or one whose CRC fails, is refused with FORMAT or CRC, uses no credit and is counted (R246). -/
  | aedatReservedTypeFrame (t : Nat) (p : Fin 2) (header : Byte) (payload : Word) (crc : Byte)
  /-- An IEEE 1149.1 instruction shifted in on TCK, TMS and TDI acts as BYPASS or IDCODE while the port is locked, or as SAMPLE/PRELOAD or EXTEST once unlocked (R424). -/
  | testPortInstruction (t : Nat) (i : TapInstr)
  deriving DecidableEq, Repr

end Sys2Proof
end

