-- ==== Sys2Proof/Decode.lean ====
section
/-!
DEFINITION. The word that spells a command. The opcode table gives no row any bits: a command is an access or an event,
not a word in a memory, so no word spells one.
-/
namespace Sys2Proof

/-- The command a word of `nbits` bits spells by the opcode table. No row of the table has bits. -/
def decodeTableWord (_nbits _w : Nat) : Option Instr := none

end Sys2Proof
end

