-- ==== Sys2Proof/Machine/Regs.lean ====
section
/-!
DEFINITION. The register fields of the device (Tables 17.1 to 17.17 and the register maps of every chapter): for each
field its register address, instance stride and count, bit position, width, access type (R9), read class (Table 14.2),
reset domain (R487), die (R516) and reset value. The rows follow the spec's register maps in chapter order.
-/
namespace Sys2Proof.Machine

/-- Access types of the register maps (Table 0.3, R398, R488). -/
inductive Acc where
  | ro | w1c | w1cP23 | rwP3 | rwP23 | rwP1 | woP3 | woP23 | fw
  deriving DecidableEq, Repr

/-- Read classes (Table 14.1); `port` is class RAIL for the block of one Aedat port. -/
inductive Cls where
  | opn | rail | port | host | shaped | raw | secret
  deriving DecidableEq, Repr

/-- Reset domains (R487); `l` is a bit that always shows the present state of a supply (SUPPLY_STATUS bits 7:2). -/
inductive Dom where
  | w | d | a | o | s | p | l
  deriving DecidableEq, Repr

/-- One register field, with all its instances (rail, phase, region, port or word of a multi-word value). -/
structure Fld where
  base : Nat
  stride : Nat
  count : Nat
  lo : Nat
  lostep : Nat
  width : Nat
  acc : Acc
  cls : Cls
  dom : Dom
  front : Bool
  img : Bool
  reset : Nat
  deriving DecidableEq, Repr

/-- Register address of instance `i` of a field. -/
def Fld.addr (f : Fld) (i : Nat) : Nat := f.base + f.stride * i
/-- Lowest bit of instance `i` of a field. -/
def Fld.pos (f : Fld) (i : Nat) : Nat := f.lo + f.lostep * i
/-- The key under which instance `i` of a field is kept in the register store: address × 32 + lowest bit. -/
def Fld.key (f : Fld) (i : Nat) : Nat := f.addr i * 32 + f.pos i

namespace F
/-- BRIDGE_STATUS.HB_SEQ: Sequence number of the last valid heartbeat received by the Front die (R21). -/
def BRIDGE_STATUS_HB_SEQ : Fld := ⟨0x10, 0x0, 1, 24, 0, 8, .ro, .host, .w, false, false, 0x0⟩
/-- BRIDGE_STATUS.LP_PARITY_CNT: Loop-port parity failures, all rails, saturating at 255 (R21). -/
def BRIDGE_STATUS_LP_PARITY_CNT : Fld := ⟨0x10, 0x0, 1, 16, 0, 8, .ro, .host, .w, false, false, 0x0⟩
/-- BRIDGE_STATUS.CRC_ERR_CNT: Bridge frames discarded for CRC failure, saturating at 4095 (R21). -/
def BRIDGE_STATUS_CRC_ERR_CNT : Fld := ⟨0x10, 0x0, 1, 4, 0, 12, .ro, .host, .w, false, false, 0x0⟩
/-- BRIDGE_STATUS.LP_FAULT: A loop-port fault has occurred (R21). -/
def BRIDGE_STATUS_LP_FAULT : Fld := ⟨0x10, 0x0, 1, 3, 0, 1, .w1c, .host, .w, false, false, 0x0⟩
/-- BRIDGE_STATUS.HB_LOST: A heartbeat or echo loss has occurred (R21). -/
def BRIDGE_STATUS_HB_LOST : Fld := ⟨0x10, 0x0, 1, 2, 0, 1, .w1c, .host, .w, false, false, 0x0⟩
/-- BRIDGE_STATUS.BRIDGE_FAULT: An acknowledged frame was abandoned (R21). -/
def BRIDGE_STATUS_BRIDGE_FAULT : Fld := ⟨0x10, 0x0, 1, 1, 0, 1, .w1c, .host, .w, false, false, 0x0⟩
/-- BRIDGE_STATUS.LINK_UP: 1 when both paths are trained and heartbeats are being exchanged (R21). -/
def BRIDGE_STATUS_LINK_UP : Fld := ⟨0x10, 0x0, 1, 0, 0, 1, .ro, .host, .w, false, false, 0x0⟩
/-- SUPPLY_STATUS.POR_FLAG: A VAON power-on reset has occurred (R519). -/
def SUPPLY_STATUS_POR_FLAG : Fld := ⟨0x18, 0x0, 1, 31, 0, 1, .w1c, .host, .a, true, false, 0x1⟩
/-- SUPPLY_STATUS.VDD33_LOSS: VDD33 became not good after leaving WAKE (R519). -/
def SUPPLY_STATUS_VDD33_LOSS : Fld := ⟨0x18, 0x0, 1, 30, 0, 1, .w1c, .host, .a, true, false, 0x0⟩
/-- SUPPLY_STATUS.VDDIO_LOSS: VDDIO became not good after leaving WAKE (R519). -/
def SUPPLY_STATUS_VDDIO_LOSS : Fld := ⟨0x18, 0x0, 1, 29, 0, 1, .w1c, .host, .a, true, false, 0x0⟩
/-- SUPPLY_STATUS.VCORE_LOSS: VCORE became not good after leaving WAKE (R519). -/
def SUPPLY_STATUS_VCORE_LOSS : Fld := ⟨0x18, 0x0, 1, 28, 0, 1, .w1c, .host, .a, true, false, 0x0⟩
/-- SUPPLY_STATUS.VDDIO_MODE: 1 = 3.3 V mode, 0 = 1.8 V mode; valid when VDDIO_GOOD is 1 (R519). -/
def SUPPLY_STATUS_VDDIO_MODE : Fld := ⟨0x18, 0x0, 1, 7, 0, 1, .ro, .host, .l, true, false, 0x1⟩
/-- SUPPLY_STATUS.AL_IO_GOOD: Aedat pad supply good (R519). -/
def SUPPLY_STATUS_AL_IO_GOOD : Fld := ⟨0x18, 0x0, 1, 6, 0, 1, .ro, .host, .l, true, false, 0x1⟩
/-- SUPPLY_STATUS.VCORE_GOOD: VCORE good (R519). -/
def SUPPLY_STATUS_VCORE_GOOD : Fld := ⟨0x18, 0x0, 1, 5, 0, 1, .ro, .host, .l, true, false, 0x1⟩
/-- SUPPLY_STATUS.VDDIO_GOOD: VDDIO good (R519). -/
def SUPPLY_STATUS_VDDIO_GOOD : Fld := ⟨0x18, 0x0, 1, 4, 0, 1, .ro, .host, .l, true, false, 0x1⟩
/-- SUPPLY_STATUS.VDD33_GOOD: VDD33 good (R519). -/
def SUPPLY_STATUS_VDD33_GOOD : Fld := ⟨0x18, 0x0, 1, 3, 0, 1, .ro, .host, .l, true, false, 0x1⟩
/-- SUPPLY_STATUS.VAON_GOOD: VAON good; reads 1 whenever the register can be read (R519). -/
def SUPPLY_STATUS_VAON_GOOD : Fld := ⟨0x18, 0x0, 1, 2, 0, 1, .ro, .host, .l, true, false, 0x1⟩
/-- STRAP_STATUS.STRAP_BAD: One bit per strap: bit 30 ADDR, 29 CFG3, 28 CFG2, 27 CFG1, 26 CFG0; 1 = bad, default applied (R55). -/
def STRAP_STATUS_STRAP_BAD : Fld := ⟨0x14, 0x0, 1, 26, 0, 5, .ro, .host, .s, true, false, 0x0⟩
/-- STRAP_STATUS.ADDR_CODE: Code used for ADDR (R55). -/
def STRAP_STATUS_ADDR_CODE : Fld := ⟨0x14, 0x0, 1, 23, 0, 3, .ro, .host, .s, true, false, 0x0⟩
/-- STRAP_STATUS.CFG3_CODE: Code used for CFG3 (R55). -/
def STRAP_STATUS_CFG3_CODE : Fld := ⟨0x14, 0x0, 1, 20, 0, 3, .ro, .host, .s, true, false, 0x0⟩
/-- STRAP_STATUS.CFG2_CODE: Code used for CFG2 (R55). -/
def STRAP_STATUS_CFG2_CODE : Fld := ⟨0x14, 0x0, 1, 17, 0, 3, .ro, .host, .s, true, false, 0x0⟩
/-- STRAP_STATUS.CFG1_CODE: Code used for CFG1 (R55). -/
def STRAP_STATUS_CFG1_CODE : Fld := ⟨0x14, 0x0, 1, 14, 0, 3, .ro, .host, .s, true, false, 0x0⟩
/-- STRAP_STATUS.CFG0_CODE: Code used for CFG0 (R55). -/
def STRAP_STATUS_CFG0_CODE : Fld := ⟨0x14, 0x0, 1, 11, 0, 3, .ro, .host, .s, true, false, 0x0⟩
/-- STRAP_STATUS.PM_ADDR: PMBus address in effect (R55). -/
def STRAP_STATUS_PM_ADDR : Fld := ⟨0x14, 0x0, 1, 4, 0, 7, .ro, .host, .s, true, false, 0x0⟩
/-- STRAP_STATUS.PROFILE: Strap profile latched from CFG1 b2 and CFG0 (R55); on a CZ1604 that applies profile 0 in its place (R117), ... (R55). -/
def STRAP_STATUS_PROFILE : Fld := ⟨0x14, 0x0, 1, 0, 0, 4, .ro, .host, .s, true, false, 0x0⟩
/-- CLK_STATUS.XTAL_FAIL: The reference failed or did not start (R72). -/
def CLK_STATUS_XTAL_FAIL : Fld := ⟨0x104, 0x0, 1, 31, 0, 1, .w1c, .opn, .w, true, false, 0x0⟩
/-- CLK_STATUS.PLL_UNLOCK: A PLL lost lock (R72). -/
def CLK_STATUS_PLL_UNLOCK : Fld := ⟨0x104, 0x0, 1, 30, 0, 1, .w1c, .opn, .w, true, false, 0x0⟩
/-- CLK_STATUS.CLK_SRC_SWITCH: The PLL reference switched to the backup oscillator while running (R72). -/
def CLK_STATUS_CLK_SRC_SWITCH : Fld := ⟨0x104, 0x0, 1, 29, 0, 1, .w1c, .opn, .w, true, false, 0x0⟩
/-- CLK_STATUS.REF_EXT: 1 = external clock on XIN declared by the image; valid after PARSE (R72). -/
def CLK_STATUS_REF_EXT : Fld := ⟨0x104, 0x0, 1, 7, 0, 1, .ro, .opn, .w, true, false, 0x0⟩
/-- CLK_STATUS.BACKUP_ACTIVE: The PLLs run from the backup oscillator (R72). -/
def CLK_STATUS_BACKUP_ACTIVE : Fld := ⟨0x104, 0x0, 1, 6, 0, 1, .ro, .opn, .w, true, false, 0x0⟩
/-- CLK_STATUS.XTAL_OK: The reference is good (R72). -/
def CLK_STATUS_XTAL_OK : Fld := ⟨0x104, 0x0, 1, 5, 0, 1, .ro, .opn, .w, true, false, 0x1⟩
/-- CLK_STATUS.FPLL_LOCK: Front PLL locked (R72). -/
def CLK_STATUS_FPLL_LOCK : Fld := ⟨0x104, 0x0, 1, 4, 0, 1, .ro, .opn, .w, true, false, 0x1⟩
/-- CLK_STATUS.CPLL_LOCK: Control PLL locked (R72). -/
def CLK_STATUS_CPLL_LOCK : Fld := ⟨0x104, 0x0, 1, 3, 0, 1, .ro, .opn, .w, true, false, 0x1⟩
/-- CLK_STATUS.LFOSC_OK: Low-frequency oscillator running (R72). -/
def CLK_STATUS_LFOSC_OK : Fld := ⟨0x104, 0x0, 1, 2, 0, 1, .ro, .opn, .w, true, false, 0x1⟩
/-- MODE_STATUS.MODE: Present device mode, coded 0x0–0xB (R89). -/
def MODE_STATUS_MODE : Fld := ⟨0x8, 0x0, 1, 28, 0, 4, .ro, .opn, .w, false, false, 0x2⟩
/-- MODE_STATUS.PREV_MODE: Mode before the last transition (R89). -/
def MODE_STATUS_PREV_MODE : Fld := ⟨0x8, 0x0, 1, 24, 0, 4, .ro, .opn, .w, false, false, 0x1⟩
/-- MODE_STATUS.LAST_TRANS: Number of the last transition in Table 3.3, 1–26 (R89). -/
def MODE_STATUS_LAST_TRANS : Fld := ⟨0x8, 0x0, 1, 19, 0, 5, .ro, .opn, .w, false, false, 0x3⟩
/-- MODE_STATUS.WAKE_SRC: Source of the last wake: bit 16 WAKE ball, bit 17 timer, bit 18 VDD33 (R89). -/
def MODE_STATUS_WAKE_SRC : Fld := ⟨0x8, 0x0, 1, 16, 0, 3, .ro, .opn, .a, false, false, 0x0⟩
/-- MODE_STATUS.WAKE_FAIL_CNT: Count of T4, saturating at 15; cleared by a VAON power-on reset (R89). -/
def MODE_STATUS_WAKE_FAIL_CNT : Fld := ⟨0x8, 0x0, 1, 12, 0, 4, .ro, .opn, .a, false, false, 0x0⟩
/-- MODE_STATUS.CT_FAIL_CNT: Count of T18 within the present 10 s window (R89). -/
def MODE_STATUS_CT_FAIL_CNT : Fld := ⟨0x8, 0x0, 1, 8, 0, 4, .ro, .opn, .w, false, false, 0x0⟩
/-- MODE_STATUS.SHUTDOWN_ACT: Orderly shutdown in progress (R89). -/
def MODE_STATUS_SHUTDOWN_ACT : Fld := ⟨0x8, 0x0, 1, 7, 0, 1, .ro, .opn, .w, false, false, 0x0⟩
/-- MODE_STATUS.WAKE_PEND: A wake event is pending (R89). -/
def MODE_STATUS_WAKE_PEND : Fld := ⟨0x8, 0x0, 1, 6, 0, 1, .ro, .opn, .w, false, false, 0x0⟩
/-- MODE_STATUS.SAFESTOP_CLR: 1 requests T21 (R89). -/
def MODE_STATUS_SAFESTOP_CLR : Fld := ⟨0x8, 0x0, 1, 5, 0, 1, .woP23, .opn, .w, false, false, 0x0⟩
/-- MODE_STATUS.SLEEP_REQ: 1 ends a timer or VDD33 wake (R68); firmware may also write it; ignored for a WAKE-ball wake (R89). -/
def MODE_STATUS_SLEEP_REQ : Fld := ⟨0x8, 0x0, 1, 4, 0, 1, .woP23, .opn, .w, false, false, 0x0⟩
/-- RAIL_STATE.ST: State of RAILr, Table 3.4 (R89). -/
def RAIL_STATE_ST : Fld := ⟨0xc, 0x0, 8, 0, 4, 4, .ro, .rail, .w, false, false, 0x0⟩
/-- WAKE_CTRL.TIMER_EN: 1 enables the wake timer in DORMANT (R89). -/
def WAKE_CTRL_TIMER_EN : Fld := ⟨0x100, 0x0, 1, 31, 0, 1, .rwP23, .host, .a, true, false, 0x0⟩
/-- WAKE_CTRL.VDD33_AUTO: 1 makes VDD33 becoming good a wake source (R89). -/
def WAKE_CTRL_VDD33_AUTO : Fld := ⟨0x100, 0x0, 1, 30, 0, 1, .rwP23, .host, .a, true, false, 0x0⟩
/-- WAKE_CTRL.WAKE_PERIOD: Wake timer period in seconds, 1–65,535, accurate to ±5 %; 0 disables the timer whatever TIMER_EN holds (R89). -/
def WAKE_CTRL_WAKE_PERIOD : Fld := ⟨0x100, 0x0, 1, 0, 0, 16, .rwP23, .host, .a, true, false, 0x0⟩
/-- PARSE_STATUS.SOURCE: 00 none; 01 copy A; 10 copy B; 11 strap profile (R118). -/
def PARSE_STATUS_SOURCE : Fld := ⟨0x20, 0x0, 1, 30, 0, 2, .ro, .opn, .p, false, false, 0x0⟩
/-- PARSE_STATUS.FALLBACK: First candidate failed; the other copy was applied (R118). -/
def PARSE_STATUS_FALLBACK : Fld := ⟨0x20, 0x0, 1, 29, 0, 1, .ro, .opn, .p, false, false, 0x0⟩
/-- PARSE_STATUS.A_RESULT: Result for copy A, Table 4.12 (R118). -/
def PARSE_STATUS_A_RESULT : Fld := ⟨0x20, 0x0, 1, 24, 0, 4, .ro, .opn, .p, false, false, 0x0⟩
/-- PARSE_STATUS.B_RESULT: Result for copy B, Table 4.12 (R118). -/
def PARSE_STATUS_B_RESULT : Fld := ⟨0x20, 0x0, 1, 20, 0, 4, .ro, .opn, .p, false, false, 0x0⟩
/-- PARSE_STATUS.READ_RETRY: Restarts under R108, 0–2 (R118). -/
def PARSE_STATUS_READ_RETRY : Fld := ⟨0x20, 0x0, 1, 18, 0, 2, .ro, .opn, .p, false, false, 0x0⟩
/-- PARSE_STATUS.QE_FALLBACK: Quad read unavailable (R104) (R118). -/
def PARSE_STATUS_QE_FALLBACK : Fld := ⟨0x20, 0x0, 1, 17, 0, 1, .ro, .opn, .p, false, false, 0x0⟩
/-- PARSE_STATUS.SVN_ADVANCED: Counter advanced in this PARSE (R109) (R118). -/
def PARSE_STATUS_SVN_ADVANCED : Fld := ⟨0x20, 0x0, 1, 16, 0, 1, .ro, .opn, .p, false, false, 0x0⟩
/-- PARSE_STATUS.APPLY_STEP: Last completed step of Table 4.8 (R118). -/
def PARSE_STATUS_APPLY_STEP : Fld := ⟨0x20, 0x0, 1, 4, 0, 4, .ro, .opn, .p, false, false, 0x0⟩
/-- PARSE_STATUS.DONE: Configuration applied (R118). -/
def PARSE_STATUS_DONE : Fld := ⟨0x20, 0x0, 1, 0, 0, 1, .ro, .opn, .p, false, false, 0x0⟩
/-- IMAGE_INFO.SVN: SVN of the applied copy; 0 for a strap profile (R118). -/
def IMAGE_INFO_SVN : Fld := ⟨0x24, 0x0, 1, 24, 0, 8, .ro, .opn, .p, false, false, 0x0⟩
/-- IMAGE_INFO.RB_COUNTER: OTP rollback counter, 0–64 (R118). -/
def IMAGE_INFO_RB_COUNTER : Fld := ⟨0x24, 0x0, 1, 16, 0, 8, .ro, .opn, .p, false, false, 0x0⟩
/-- IMAGE_INFO.NOR_DENSITY: log2 of the NOR density in MiB, 2–6; 0 when no NOR (R118). -/
def IMAGE_INFO_NOR_DENSITY : Fld := ⟨0x24, 0x0, 1, 11, 0, 5, .ro, .opn, .p, false, false, 0x0⟩
/-- IMAGE_INFO.LENGTH_KIB: LENGTH of the applied copy, rounded up to KiB (R118). -/
def IMAGE_INFO_LENGTH_KIB : Fld := ⟨0x24, 0x0, 1, 0, 0, 11, .ro, .opn, .p, false, false, 0x0⟩
/-- IMAGE_SEQ.SEQ: SEQ of the applied copy (R118). -/
def IMAGE_SEQ_SEQ : Fld := ⟨0x28, 0x0, 1, 0, 0, 32, .ro, .opn, .p, false, false, 0x0⟩
/-- CONFIG_HASH.HASH: CONFIG_HASH (R114); CONFIG_HASH0 holds digest bytes 0–3, most significant byte first (R118). -/
def CONFIG_HASH_HASH : Fld := ⟨0x40, 0x4, 8, 0, 0, 32, .ro, .host, .p, false, false, 0x0⟩
/-- ENG_CFG.RM: Modulator gain, 1.25 mΩ per code (R153). -/
def ENG_CFG_RM : Fld := ⟨0x1000, 0x100, 8, 24, 0, 8, .rwP3, .host, .w, false, true, 0x0⟩
/-- ENG_CFG.SS_RATE: Ramp rate, 0.125 mV/µs per code (R153). -/
def ENG_CFG_SS_RATE : Fld := ⟨0x1000, 0x100, 8, 16, 0, 8, .rwP3, .host, .w, false, true, 0x0⟩
/-- ENG_CFG.CL_STEP: Fold step per 320 ns (R153). -/
def ENG_CFG_CL_STEP : Fld := ⟨0x1000, 0x100, 8, 8, 0, 8, .rwP3, .host, .w, false, true, 0x0⟩
/-- ENG_CFG.RATE_SH: Update rate 50 MHz / 2^RATE_SH; writable only while the rail is OFF (R153). -/
def ENG_CFG_RATE_SH : Fld := ⟨0x1000, 0x100, 8, 0, 0, 3, .rwP3, .host, .w, false, true, 0x0⟩
/-- ENG_STATUS.ACT_SET: Active SET_ID (R153). -/
def ENG_STATUS_ACT_SET : Fld := ⟨0x1004, 0x100, 8, 26, 0, 6, .ro, .rail, .w, false, false, 0x0⟩
/-- ENG_STATUS.OP: Operating point (R143) (R153). -/
def ENG_STATUS_OP : Fld := ⟨0x1004, 0x100, 8, 23, 0, 3, .ro, .rail, .w, false, false, 0x0⟩
/-- ENG_STATUS.SWAP_PEND: Shadow copy or swap in progress (R153). -/
def ENG_STATUS_SWAP_PEND : Fld := ⟨0x1004, 0x100, 8, 22, 0, 1, .ro, .rail, .w, false, false, 0x0⟩
/-- ENG_STATUS.LSU_ACT: Undershoot action in progress (R153). -/
def ENG_STATUS_LSU_ACT : Fld := ⟨0x1004, 0x100, 8, 21, 0, 1, .ro, .rail, .w, false, false, 0x0⟩
/-- ENG_STATUS.LSD_ACT: Overshoot action in progress (R153). -/
def ENG_STATUS_LSD_ACT : Fld := ⟨0x1004, 0x100, 8, 20, 0, 1, .ro, .rail, .w, false, false, 0x0⟩
/-- ENG_STATUS.BRAKE_ACT: Braking in progress (R153). -/
def ENG_STATUS_BRAKE_ACT : Fld := ⟨0x1004, 0x100, 8, 19, 0, 1, .ro, .rail, .w, false, false, 0x0⟩
/-- ENG_STATUS.CL_ACT: Current fold engaged (R153). -/
def ENG_STATUS_CL_ACT : Fld := ⟨0x1004, 0x100, 8, 18, 0, 1, .ro, .rail, .w, false, false, 0x0⟩
/-- ENG_STATUS.AW_HOLD: hold_I set in the last update (R153). -/
def ENG_STATUS_AW_HOLD : Fld := ⟨0x1004, 0x100, 8, 17, 0, 1, .ro, .rail, .w, false, false, 0x0⟩
/-- ENG_STATUS.VIN_STALE: Feedforward sample stale (R135) (R153). -/
def ENG_STATUS_VIN_STALE : Fld := ⟨0x1004, 0x100, 8, 16, 0, 1, .ro, .rail, .w, false, false, 0x0⟩
/-- ENG_STATUS.D_EFF: Derate factor D in force, 0–128 (R153). -/
def ENG_STATUS_D_EFF : Fld := ⟨0x1004, 0x100, 8, 8, 0, 8, .ro, .rail, .w, false, false, 0x0⟩
/-- ENG_STATUS.N_LIVE: Live phases of the rail, 0–128 (R153). -/
def ENG_STATUS_N_LIVE : Fld := ⟨0x1004, 0x100, 8, 0, 0, 8, .ro, .rail, .w, false, false, 0x0⟩
/-- ENG_STICKY.BRAKE_S: Table 5.1 (R153). -/
def ENG_STICKY_BRAKE_S : Fld := ⟨0x1008, 0x100, 8, 18, 0, 1, .w1c, .host, .w, false, false, 0x0⟩
/-- ENG_STICKY.LSD_S: Table 5.1 (R153). -/
def ENG_STICKY_LSD_S : Fld := ⟨0x1008, 0x100, 8, 17, 0, 1, .w1c, .host, .w, false, false, 0x0⟩
/-- ENG_STICKY.LSU_S: Table 5.1 (R153). -/
def ENG_STICKY_LSU_S : Fld := ⟨0x1008, 0x100, 8, 16, 0, 1, .w1c, .host, .w, false, false, 0x0⟩
/-- ENG_STICKY.VIN_STALE_S: Table 5.1 (R153). -/
def ENG_STICKY_VIN_STALE_S : Fld := ⟨0x1008, 0x100, 8, 15, 0, 1, .w1c, .host, .w, false, false, 0x0⟩
/-- ENG_STICKY.COEF_REJ: Table 5.1 (R153). -/
def ENG_STICKY_COEF_REJ : Fld := ⟨0x1008, 0x100, 8, 14, 0, 1, .w1c, .host, .w, false, false, 0x0⟩
/-- ENG_STICKY.SWAP_CLAMP: Table 5.1 (R153). -/
def ENG_STICKY_SWAP_CLAMP : Fld := ⟨0x1008, 0x100, 8, 13, 0, 1, .w1c, .host, .w, false, false, 0x0⟩
/-- ENG_STICKY.DMIN_HIT: Table 5.1 (R153). -/
def ENG_STICKY_DMIN_HIT : Fld := ⟨0x1008, 0x100, 8, 12, 0, 1, .w1c, .host, .w, false, false, 0x0⟩
/-- ENG_STICKY.DMAX_HIT: Table 5.1 (R153). -/
def ENG_STICKY_DMAX_HIT : Fld := ⟨0x1008, 0x100, 8, 11, 0, 1, .w1c, .host, .w, false, false, 0x0⟩
/-- ENG_STICKY.NEG_HIT: Table 5.1 (R153). -/
def ENG_STICKY_NEG_HIT : Fld := ⟨0x1008, 0x100, 8, 10, 0, 1, .w1c, .host, .w, false, false, 0x0⟩
/-- ENG_STICKY.CL_HIT: Table 5.1 (R153). -/
def ENG_STICKY_CL_HIT : Fld := ⟨0x1008, 0x100, 8, 9, 0, 1, .w1c, .host, .w, false, false, 0x0⟩
/-- ENG_STICKY.FF_CLAMP: Table 5.1 (R153). -/
def ENG_STICKY_FF_CLAMP : Fld := ⟨0x1008, 0x100, 8, 8, 0, 1, .w1c, .host, .w, false, false, 0x0⟩
/-- ENG_STICKY.OUT_SAT: Table 5.1 (R153). -/
def ENG_STICKY_OUT_SAT : Fld := ⟨0x1008, 0x100, 8, 7, 0, 1, .w1c, .host, .w, false, false, 0x0⟩
/-- ENG_STICKY.AW_LO: Table 5.1 (R153). -/
def ENG_STICKY_AW_LO : Fld := ⟨0x1008, 0x100, 8, 6, 0, 1, .w1c, .host, .w, false, false, 0x0⟩
/-- ENG_STICKY.AW_HI: Table 5.1 (R153). -/
def ENG_STICKY_AW_HI : Fld := ⟨0x1008, 0x100, 8, 5, 0, 1, .w1c, .host, .w, false, false, 0x0⟩
/-- ENG_STICKY.ACC_SAT: Table 5.1 (R153). -/
def ENG_STICKY_ACC_SAT : Fld := ⟨0x1008, 0x100, 8, 4, 0, 1, .w1c, .host, .w, false, false, 0x0⟩
/-- ENG_STICKY.LL_CLAMP: Table 5.1 (R153). -/
def ENG_STICKY_LL_CLAMP : Fld := ⟨0x1008, 0x100, 8, 3, 0, 1, .w1c, .host, .w, false, false, 0x0⟩
/-- ENG_STICKY.PAR_REUSE: Table 5.1 (R153). -/
def ENG_STICKY_PAR_REUSE : Fld := ⟨0x1008, 0x100, 8, 2, 0, 1, .w1c, .host, .w, false, false, 0x0⟩
/-- ENG_STICKY.ADC_CLIP: Table 5.1 (R153). -/
def ENG_STICKY_ADC_CLIP : Fld := ⟨0x1008, 0x100, 8, 1, 0, 1, .w1c, .host, .w, false, false, 0x0⟩
/-- LOADLINE.LL_TAU: Current filter shift (R139) (R153). -/
def LOADLINE_LL_TAU : Fld := ⟨0x100c, 0x100, 8, 16, 0, 3, .rwP23, .host, .w, false, true, 0x0⟩
/-- LOADLINE.LL_R: Load line, 1.953125 µΩ per code; 0 disables (R153). -/
def LOADLINE_LL_R : Fld := ⟨0x100c, 0x100, 8, 0, 0, 12, .rwP23, .host, .w, false, true, 0x0⟩
/-- DUTY_LIM.DUTY_MAX: Upper duty limit, Q0.16 (R153). -/
def DUTY_LIM_DUTY_MAX : Fld := ⟨0x1010, 0x100, 8, 16, 0, 16, .rwP3, .host, .w, false, true, 0x0⟩
/-- DUTY_LIM.DUTY_MIN: Lower duty limit, Q0.16; a write not below DUTY_MAX is refused (R153). -/
def DUTY_LIM_DUTY_MIN : Fld := ⟨0x1010, 0x100, 8, 0, 0, 16, .rwP3, .host, .w, false, true, 0x0⟩
/-- DERATE.ILIM_RAIL: Rail current limit (R28), 0.125 A (R153). -/
def DERATE_ILIM_RAIL : Fld := ⟨0x1014, 0x100, 8, 16, 0, 16, .ro, .rail, .w, false, false, 0x0⟩
/-- DERATE.FW_DERATE: Firmware derate value (R29); 128 from each entry to WAKE and to PARSE; not image-loaded, so writes before D... (R153). -/
def DERATE_FW_DERATE : Fld := ⟨0x1014, 0x100, 8, 0, 0, 8, .rwP23, .rail, .p, false, false, 0x80⟩
/-- NEG_FF.NEG_LIM: Sink demand limit, 0.125 A, 0–0x7FFF (R153). -/
def NEG_FF_NEG_LIM : Fld := ⟨0x1018, 0x100, 8, 16, 0, 16, .rwP3, .host, .w, false, true, 0x0⟩
/-- VIN_FF.VIN_STALE: As ENG_STATUS (R153). -/
def VIN_FF_VIN_STALE : Fld := ⟨0x101c, 0x100, 8, 31, 0, 1, .ro, .host, .w, false, false, 0x0⟩
/-- VIN_FF.VIN_CODE: Feedforward input voltage, 0.15625 mV (R153). -/
def VIN_FF_VIN_CODE : Fld := ⟨0x101c, 0x100, 8, 0, 0, 17, .ro, .host, .w, false, false, 0x0⟩
/-- LS_CFG.BRAKE_EN: Body-diode braking allowed (R153). -/
def LS_CFG_BRAKE_EN : Fld := ⟨0x1020, 0x100, 8, 31, 0, 1, .rwP3, .host, .w, true, true, 0x0⟩
/-- LS_CFG.BRAKE_DLY: Braking delay, 20 ns per code (R153). -/
def LS_CFG_BRAKE_DLY : Fld := ⟨0x1020, 0x100, 8, 24, 0, 6, .rwP3, .host, .w, true, true, 0x0⟩
/-- LS_CFG.LS_MAX: Maximum action length, 20 ns per code, 1–63 (R153). -/
def LS_CFG_LS_MAX : Fld := ⟨0x1020, 0x100, 8, 16, 0, 6, .rwP3, .host, .w, true, true, 0x0⟩
/-- LS_CFG.LS_DN_TH: Overshoot threshold, 2 mV per code; 0 disables (R153). -/
def LS_CFG_LS_DN_TH : Fld := ⟨0x1020, 0x100, 8, 8, 0, 6, .rwP3, .host, .w, true, true, 0x0⟩
/-- LS_CFG.LS_UP_TH: Undershoot threshold, 2 mV per code; 0 disables (R153). -/
def LS_CFG_LS_UP_TH : Fld := ⟨0x1020, 0x100, 8, 0, 0, 6, .rwP3, .host, .w, true, true, 0x0⟩
/-- OP_BAND.NB3: Third phase-count threshold (R153). -/
def OP_BAND_NB3 : Fld := ⟨0x1024, 0x100, 8, 16, 0, 8, .rwP3, .host, .w, false, true, 0x0⟩
/-- OP_BAND.NB2: Second threshold (R153). -/
def OP_BAND_NB2 : Fld := ⟨0x1024, 0x100, 8, 8, 0, 8, .rwP3, .host, .w, false, true, 0x0⟩
/-- OP_BAND.NB1: First threshold; a write breaking R143 is refused (R153). -/
def OP_BAND_NB1 : Fld := ⟨0x1024, 0x100, 8, 0, 0, 8, .rwP3, .host, .w, false, true, 0x0⟩
/-- OP_MAP_LO.MAP0: SET_ID for OP 0 (R153). -/
def OP_MAP_LO_MAP0 : Fld := ⟨0x1028, 0x100, 8, 0, 0, 6, .rwP3, .host, .w, false, true, 0x0⟩
/-- OP_MAP_LO.MAP1: SET_ID for OP 1 (R153). -/
def OP_MAP_LO_MAP1 : Fld := ⟨0x1028, 0x100, 8, 8, 0, 6, .rwP3, .host, .w, false, true, 0x0⟩
/-- OP_MAP_LO.MAP2: SET_ID for OP 2 (R153). -/
def OP_MAP_LO_MAP2 : Fld := ⟨0x1028, 0x100, 8, 16, 0, 6, .rwP3, .host, .w, false, true, 0x0⟩
/-- OP_MAP_LO.MAP3: SET_ID for OP 3 (R153). -/
def OP_MAP_LO_MAP3 : Fld := ⟨0x1028, 0x100, 8, 24, 0, 6, .rwP3, .host, .w, false, true, 0x0⟩
/-- OP_MAP_HI.MAP4: SET_ID for OP 4 (R153). -/
def OP_MAP_HI_MAP4 : Fld := ⟨0x102c, 0x100, 8, 0, 0, 6, .rwP3, .host, .w, false, true, 0x0⟩
/-- OP_MAP_HI.MAP5: SET_ID for OP 5 (R153). -/
def OP_MAP_HI_MAP5 : Fld := ⟨0x102c, 0x100, 8, 8, 0, 6, .rwP3, .host, .w, false, true, 0x0⟩
/-- OP_MAP_HI.MAP6: SET_ID for OP 6 (R153). -/
def OP_MAP_HI_MAP6 : Fld := ⟨0x102c, 0x100, 8, 16, 0, 6, .rwP3, .host, .w, false, true, 0x0⟩
/-- OP_MAP_HI.MAP7: SET_ID for OP 7 (R153). -/
def OP_MAP_HI_MAP7 : Fld := ⟨0x102c, 0x100, 8, 24, 0, 6, .rwP3, .host, .w, false, true, 0x0⟩
/-- SET_CTRL.FORCE_EN: 1 selects FORCE_SET regardless of OP (R153). -/
def SET_CTRL_FORCE_EN : Fld := ⟨0x1030, 0x100, 8, 31, 0, 1, .rwP3, .host, .w, false, false, 0x0⟩
/-- SET_CTRL.FORCE_SET: Forced SET_ID (R153). -/
def SET_CTRL_FORCE_SET : Fld := ⟨0x1030, 0x100, 8, 24, 0, 6, .rwP3, .host, .w, false, false, 0x0⟩
/-- SET_CTRL.STORE_WR: 1 writes the staged set into STORE_ID (R145) (R153). -/
def SET_CTRL_STORE_WR : Fld := ⟨0x1030, 0x100, 8, 15, 0, 1, .woP3, .host, .w, false, false, 0x0⟩
/-- SET_CTRL.STORE_ID: Target SET_ID for a store write (R153). -/
def SET_CTRL_STORE_ID : Fld := ⟨0x1030, 0x100, 8, 8, 0, 6, .rwP3, .host, .w, false, false, 0x0⟩
/-- STORE_KP.M: Mantissa, Q1.15 (R153). -/
def STORE_KP_M : Fld := ⟨0x1034, 0x100, 1, 16, 0, 16, .rwP3, .secret, .w, false, false, 0x0⟩
/-- STORE_KP.SH: Shift, 0–15 (R153). -/
def STORE_KP_SH : Fld := ⟨0x1034, 0x100, 1, 0, 0, 4, .rwP3, .secret, .w, false, false, 0x0⟩
/-- STORE_KI.M: Mantissa, Q1.15 (R153). -/
def STORE_KI_M : Fld := ⟨0x1038, 0x100, 1, 16, 0, 16, .rwP3, .secret, .w, false, false, 0x0⟩
/-- STORE_KI.SH: Shift, 0–15 (R153). -/
def STORE_KI_SH : Fld := ⟨0x1038, 0x100, 1, 0, 0, 4, .rwP3, .secret, .w, false, false, 0x0⟩
/-- STORE_KD.M: Mantissa, Q1.15 (R153). -/
def STORE_KD_M : Fld := ⟨0x103c, 0x100, 1, 16, 0, 16, .rwP3, .secret, .w, false, false, 0x0⟩
/-- STORE_KD.SH: Shift, 0–15 (R153). -/
def STORE_KD_SH : Fld := ⟨0x103c, 0x100, 1, 0, 0, 4, .rwP3, .secret, .w, false, false, 0x0⟩
/-- STORE_KF.M: Mantissa, Q1.15 (R153). -/
def STORE_KF_M : Fld := ⟨0x1040, 0x100, 1, 16, 0, 16, .rwP3, .secret, .w, false, false, 0x0⟩
/-- STORE_KF.SH: Shift, 0–15 (R153). -/
def STORE_KF_SH : Fld := ⟨0x1040, 0x100, 1, 0, 0, 4, .rwP3, .secret, .w, false, false, 0x0⟩
/-- STORE_KO.M: Mantissa, Q1.15 (R153). -/
def STORE_KO_M : Fld := ⟨0x1044, 0x100, 1, 16, 0, 16, .rwP3, .secret, .w, false, false, 0x0⟩
/-- STORE_KO.SH: Shift, 0–15 (R153). -/
def STORE_KO_SH : Fld := ⟨0x1044, 0x100, 1, 0, 0, 4, .rwP3, .secret, .w, false, false, 0x0⟩
/-- STORE_CLAMP.IMAX: Integrator upper bound, Q1.15 (R153). -/
def STORE_CLAMP_IMAX : Fld := ⟨0x1048, 0x100, 1, 16, 0, 16, .rwP3, .secret, .w, false, false, 0x0⟩
/-- STORE_CLAMP.IMIN: Integrator lower bound, Q1.15 (R153). -/
def STORE_CLAMP_IMIN : Fld := ⟨0x1048, 0x100, 1, 0, 0, 16, .rwP3, .secret, .w, false, false, 0x0⟩
/-- MON_ERR.E1: Last e1, Q1.15 (R153). -/
def MON_ERR_E1 : Fld := ⟨0x1050, 0x100, 8, 16, 0, 16, .ro, .raw, .w, false, false, 0x0⟩
/-- MON_ERR.LLT: Last load-line term, Q1.15 (R153). -/
def MON_ERR_LLT : Fld := ⟨0x1050, 0x100, 8, 0, 0, 16, .ro, .raw, .w, false, false, 0x0⟩
/-- MON_DEMAND.UT: Last ut, 0.125 A (R153). -/
def MON_DEMAND_UT : Fld := ⟨0x1054, 0x100, 8, 16, 0, 16, .ro, .raw, .w, false, false, 0x0⟩
/-- MON_DEMAND.DUTY: Last duty word, Q0.16 (R153). -/
def MON_DEMAND_DUTY : Fld := ⟨0x1054, 0x100, 8, 0, 0, 16, .ro, .raw, .w, false, false, 0x0⟩
/-- MON_INT.I_HI: Integrator bits 39:8 (R153). -/
def MON_INT_I_HI : Fld := ⟨0x1058, 0x100, 8, 0, 0, 32, .ro, .raw, .w, false, false, 0x0⟩
/-- PH_STATE.FAIL_CNT: Failures recorded in the journal (R168) (R193). -/
def PH_STATE_FAIL_CNT : Fld := ⟨0x2000, 0x40, 32, 24, 0, 8, .ro, .host, .w, false, false, 0x0⟩
/-- PH_STATE.OBS_CNT: Observer count (R162) (R193). -/
def PH_STATE_OBS_CNT : Fld := ⟨0x2000, 0x40, 32, 20, 0, 4, .ro, .host, .w, false, false, 0x0⟩
/-- PH_STATE.FAIL_CAUSE: 0 none; 1 SENSE; 2 OPEN; 3 MISMATCH; 4 PARTNER (R193). -/
def PH_STATE_FAIL_CAUSE : Fld := ⟨0x2000, 0x40, 32, 17, 0, 3, .ro, .host, .w, false, false, 0x0⟩
/-- PH_STATE.HEALTH: Table 6.1 (R193). -/
def PH_STATE_HEALTH : Fld := ⟨0x2000, 0x40, 32, 15, 0, 2, .ro, .host, .w, false, false, 0x0⟩
/-- PH_STATE.SW_STATE: Table 6.1 (R193). -/
def PH_STATE_SW_STATE : Fld := ⟨0x2000, 0x40, 32, 12, 0, 3, .ro, .host, .w, false, false, 0x0⟩
/-- PH_STATE.PAIR_ID: Partner phase; valid when PAIRED is 1 (R193). -/
def PH_STATE_PAIR_ID : Fld := ⟨0x2000, 0x40, 32, 7, 0, 5, .ro, .host, .w, false, false, 0x0⟩
/-- PH_STATE.PAIRED: Phase is in a dual-phase stage (R193). -/
def PH_STATE_PAIRED : Fld := ⟨0x2000, 0x40, 32, 6, 0, 1, .ro, .host, .w, false, false, 0x0⟩
/-- PH_STATE.ASSIGNED: Phase belongs to a rail (R193). -/
def PH_STATE_ASSIGNED : Fld := ⟨0x2000, 0x40, 32, 5, 0, 1, .ro, .host, .w, false, false, 0x0⟩
/-- PH_STATE.RAIL: Rail of the phase (R193). -/
def PH_STATE_RAIL : Fld := ⟨0x2000, 0x40, 32, 0, 0, 3, .ro, .host, .w, false, false, 0x0⟩
/-- PH_CUR.I_AVG: Cycle-average current, signed, 0.125 A (R193). -/
def PH_CUR_I_AVG : Fld := ⟨0x2004, 0x40, 32, 16, 0, 12, .ro, .raw, .w, true, false, 0x0⟩
/-- PH_CUR.I_EST: Î rounded to whole codes, signed, 0.125 A (R193). -/
def PH_CUR_I_EST : Fld := ⟨0x2004, 0x40, 32, 0, 0, 12, .ro, .raw, .w, true, false, 0x0⟩
/-- PH_CFG.ILIM_PHASE: Phase current limit, 0.125 A; sealed in step 3 of Table 4.8 (R193). -/
def PH_CFG_ILIM_PHASE : Fld := ⟨0x2008, 0x40, 32, 16, 0, 16, .ro, .host, .w, false, true, 0x0⟩
/-- PH_CFG.SHARE_W: Share weight, 1–15; a write of 0 is refused (R193). -/
def PH_CFG_SHARE_W : Fld := ⟨0x2008, 0x40, 32, 12, 0, 4, .rwP23, .host, .w, false, true, 0x0⟩
/-- PH_CFG.KEEP_OFF: 1 asks that the phase stay shed (R181, R184) (R193). -/
def PH_CFG_KEEP_OFF : Fld := ⟨0x2008, 0x40, 32, 8, 0, 1, .rwP23, .host, .w, false, true, 0x0⟩
/-- PH_CFG.PAIR_BUDGET: Overlap budget, 2.5 ns (R193). -/
def PH_CFG_PAIR_BUDGET : Fld := ⟨0x2008, 0x40, 32, 0, 0, 8, .ro, .host, .w, false, true, 0x0⟩
/-- PH_MODEL.G_OBS: Observer gain, Q8.16 (R161) (R193). -/
def PH_MODEL_G_OBS : Fld := ⟨0x200c, 0x40, 32, 8, 0, 24, .ro, .host, .w, true, true, 0x0⟩
/-- PH_MODEL.R_PH: Loop resistance, 62.5 µΩ; takes effect at the next period (R193). -/
def PH_MODEL_R_PH : Fld := ⟨0x200c, 0x40, 32, 0, 0, 8, .rwP3, .host, .w, true, true, 0x0⟩
/-- PH_CAL.CAL_GAIN: Gain trim, Q2.14, 0x2000–0x6000; other values refused (R193). -/
def PH_CAL_CAL_GAIN : Fld := ⟨0x2010, 0x40, 32, 16, 0, 16, .rwP3, .host, .w, true, true, 0x4000⟩
/-- PH_CAL.CAL_OFS: Offset, signed, 0.125 A (R193). -/
def PH_CAL_CAL_OFS : Fld := ⟨0x2010, 0x40, 32, 0, 0, 7, .rwP3, .host, .w, true, true, 0x0⟩
/-- PH_PLACE.OFFSET: Placed offset in ticks (R173) (R193). -/
def PH_PLACE_OFFSET : Fld := ⟨0x2014, 0x40, 32, 12, 0, 20, .ro, .host, .w, true, false, 0x0⟩
/-- PH_PLACE.TRIM: Balance trim in force, signed, Q0.16 (R193). -/
def PH_PLACE_TRIM : Fld := ⟨0x2014, 0x40, 32, 0, 0, 12, .ro, .host, .w, true, false, 0x0⟩
/-- PH_STICKY.KEEPOFF_OVR: A KEEP_OFF request was overridden (R193). -/
def PH_STICKY_KEEPOFF_OVR : Fld := ⟨0x2018, 0x40, 32, 5, 0, 1, .w1c, .host, .w, true, false, 0x0⟩
/-- PH_STICKY.PAIR_CLAMP: On-time shortened for pair overlap (R174) (R193). -/
def PH_STICKY_PAIR_CLAMP : Fld := ⟨0x2018, 0x40, 32, 4, 0, 1, .w1c, .host, .w, true, false, 0x0⟩
/-- PH_STICKY.PAIR_SHIFT: Turn-on delayed for pair overlap (R174) (R193). -/
def PH_STICKY_PAIR_SHIFT : Fld := ⟨0x2018, 0x40, 32, 3, 0, 1, .w1c, .host, .w, true, false, 0x0⟩
/-- PH_STICKY.SENSE_RANGE: Sense out of range (R160) (R193). -/
def PH_STICKY_SENSE_RANGE : Fld := ⟨0x2018, 0x40, 32, 2, 0, 1, .w1c, .host, .w, true, false, 0x0⟩
/-- PH_STICKY.FAILED_S: Phase was failed (R193). -/
def PH_STICKY_FAILED_S : Fld := ⟨0x2018, 0x40, 32, 1, 0, 1, .w1c, .host, .w, true, false, 0x0⟩
/-- PH_STICKY.WATCH_S: Phase entered WATCH (R193). -/
def PH_STICKY_WATCH_S : Fld := ⟨0x2018, 0x40, 32, 0, 0, 1, .w1c, .host, .w, true, false, 0x0⟩
/-- PHC_HW.HW_ADD: Hardware add threshold, 0.125 A per phase (R193). -/
def PHC_HW_HW_ADD : Fld := ⟨0x1080, 0x100, 8, 16, 0, 16, .ro, .host, .w, false, true, 0x0⟩
/-- PHC_HW.HW_SHED: Hardware shed threshold, 0.125 A per phase (R193). -/
def PHC_HW_HW_SHED : Fld := ⟨0x1080, 0x100, 8, 0, 0, 16, .ro, .host, .w, false, true, 0x0⟩
/-- PHC_FW.FW_ADD: Firmware add threshold; 0 unset (R193). -/
def PHC_FW_FW_ADD : Fld := ⟨0x1084, 0x100, 8, 16, 0, 16, .rwP23, .host, .w, false, false, 0x0⟩
/-- PHC_FW.FW_SHED: Firmware shed threshold; 0 unset (R193). -/
def PHC_FW_FW_SHED : Fld := ⟨0x1084, 0x100, 8, 0, 0, 16, .rwP23, .host, .w, false, false, 0x0⟩
/-- PHC_CTRL.DE_EN: Firmware permission for diode emulation (R193). -/
def PHC_CTRL_DE_EN : Fld := ⟨0x1088, 0x100, 8, 31, 0, 1, .rwP23, .host, .w, false, false, 0x0⟩
/-- PHC_CTRL.DE_ALLOW: Hardware permission; image-loaded (R193). -/
def PHC_CTRL_DE_ALLOW : Fld := ⟨0x1088, 0x100, 8, 30, 0, 1, .ro, .host, .w, false, true, 0x0⟩
/-- PHC_CTRL.FW_NMIN: Firmware floor on switching phases, 0–32 (R193). -/
def PHC_CTRL_FW_NMIN : Fld := ⟨0x1088, 0x100, 8, 24, 0, 6, .rwP23, .host, .w, false, false, 0x0⟩
/-- PHC_CTRL.MIN_ACTIVE: Image-loaded (R193). -/
def PHC_CTRL_MIN_ACTIVE : Fld := ⟨0x1088, 0x100, 8, 18, 0, 6, .ro, .host, .w, false, true, 0x0⟩
/-- PHC_CTRL.MIN_LIVE: Image-loaded (R193). -/
def PHC_CTRL_MIN_LIVE : Fld := ⟨0x1088, 0x100, 8, 12, 0, 6, .ro, .host, .w, false, true, 0x0⟩
/-- PHC_CTRL.FAIL_D: Image-loaded (R193). -/
def PHC_CTRL_FAIL_D : Fld := ⟨0x1088, 0x100, 8, 0, 0, 8, .ro, .host, .w, false, true, 0x0⟩
/-- PHC_STATUS.N_SW: Switching phases *n* (R193). -/
def PHC_STATUS_N_SW : Fld := ⟨0x108c, 0x100, 8, 26, 0, 6, .ro, .host, .w, false, false, 0x0⟩
/-- PHC_STATUS.N_IDLE: IDLE live phases (R193). -/
def PHC_STATUS_N_IDLE : Fld := ⟨0x108c, 0x100, 8, 20, 0, 6, .ro, .host, .w, false, false, 0x0⟩
/-- PHC_STATUS.N_FAIL: FAILED and RETIRED phases (R193). -/
def PHC_STATUS_N_FAIL : Fld := ⟨0x108c, 0x100, 8, 14, 0, 6, .ro, .host, .w, false, false, 0x0⟩
/-- PHC_STATUS.DE_ACT: Diode emulation active (R193). -/
def PHC_STATUS_DE_ACT : Fld := ⟨0x108c, 0x100, 8, 13, 0, 1, .ro, .host, .w, false, false, 0x0⟩
/-- PHC_STATUS.ADD_PEND: Add request awaiting arbitration (R193). -/
def PHC_STATUS_ADD_PEND : Fld := ⟨0x108c, 0x100, 8, 12, 0, 1, .ro, .host, .w, false, false, 0x0⟩
/-- PHC_EFF.ADD_EFF: Add threshold in force (Table 6.2) (R193). -/
def PHC_EFF_ADD_EFF : Fld := ⟨0x1090, 0x100, 8, 16, 0, 16, .ro, .host, .w, false, false, 0x0⟩
/-- PHC_EFF.SHED_EFF: Shed threshold in force (Table 6.2) (R193). -/
def PHC_EFF_SHED_EFF : Fld := ⟨0x1090, 0x100, 8, 0, 0, 16, .ro, .host, .w, false, false, 0x0⟩
/-- PHC_OBS.OBS_WIN: 16–255; a write outside is refused (R193). -/
def PHC_OBS_OBS_WIN : Fld := ⟨0x1094, 0x100, 8, 24, 0, 8, .rwP3, .host, .w, false, true, 0x0⟩
/-- PHC_OBS.OBS_G: 2–6 (R193). -/
def PHC_OBS_OBS_G : Fld := ⟨0x1094, 0x100, 8, 20, 0, 3, .rwP3, .host, .w, false, true, 0x0⟩
/-- PHC_OBS.OBS_N: 1–15 (R193). -/
def PHC_OBS_OBS_N : Fld := ⟨0x1094, 0x100, 8, 16, 0, 4, .rwP3, .host, .w, false, true, 0x0⟩
/-- PHC_OBS.OBS_SETTLE: 1–64 periods (R193). -/
def PHC_OBS_OBS_SETTLE : Fld := ⟨0x1094, 0x100, 8, 8, 0, 8, .rwP3, .host, .w, false, true, 0x0⟩
/-- PHC_OBS.BAL_G: Balance gain (R193). -/
def PHC_OBS_BAL_G : Fld := ⟨0x1094, 0x100, 8, 0, 0, 8, .rwP23, .host, .w, false, true, 0x0⟩
/-- PHC_TIME.SHED_DWELL: 100 µs, 1–255 (R193). -/
def PHC_TIME_SHED_DWELL : Fld := ⟨0x1098, 0x100, 8, 24, 0, 8, .rwP23, .host, .w, false, true, 0x0⟩
/-- PHC_TIME.DE_DWELL: 100 µs, 1–255 (R193). -/
def PHC_TIME_DE_DWELL : Fld := ⟨0x1098, 0x100, 8, 16, 0, 8, .rwP23, .host, .w, false, true, 0x0⟩
/-- PHC_TIME.SHED_RAMP: Periods, 1–64 (R193). -/
def PHC_TIME_SHED_RAMP : Fld := ⟨0x1098, 0x100, 8, 8, 0, 8, .rwP23, .host, .w, false, true, 0x0⟩
/-- PHC_TIME.DE_MARGIN: 2.5 ns per code (R193). -/
def PHC_TIME_DE_MARGIN : Fld := ⟨0x1098, 0x100, 8, 0, 0, 7, .rwP3, .host, .w, false, true, 0x0⟩
/-- RGN_BUDGET.I_EST: Estimated input current (R187), signed, 0.125 A (R193). -/
def RGN_BUDGET_I_EST : Fld := ⟨0x3510, 0x4, 4, 16, 0, 16, .ro, .host, .w, false, false, 0x0⟩
/-- RGN_BUDGET.IN_BUDGET: Budget in force, 0.125 A; a write above the image value is refused (R193). -/
def RGN_BUDGET_IN_BUDGET : Fld := ⟨0x3510, 0x4, 4, 0, 0, 15, .rwP23, .host, .w, false, true, 0x0⟩
/-- RGN_CFG.IN_GAIN: Unsigned Q2.14 loss factor (R193). -/
def RGN_CFG_IN_GAIN : Fld := ⟨0x3520, 0x4, 4, 16, 0, 16, .ro, .host, .w, false, true, 0x0⟩
/-- RGN_CFG.IN_OFS: Fixed input draw, 0.125 A (R193). -/
def RGN_CFG_IN_OFS : Fld := ⟨0x3520, 0x4, 4, 0, 0, 15, .ro, .host, .w, false, true, 0x0⟩
/-- RGN_PRIO.PRIO: Nibble *k* (bits 4*k* + 3 to 4*k*) for rank *k*: bit 3 = rank used, bits 2:0 = rail; all 0 when no priority... (R193). -/
def RGN_PRIO_PRIO : Fld := ⟨0x3530, 0x4, 4, 0, 0, 32, .ro, .host, .w, false, true, 0x0⟩
/-- PWM_PERIOD.PERIOD: Period in ticks (R194) (R226). -/
def PWM_PERIOD_PERIOD : Fld := ⟨0x2020, 0x40, 32, 12, 0, 20, .ro, .host, .w, true, true, 0x0⟩
/-- PWM_TIME.BLANK: 2.5 ns, 0–128; other values refused (R226). -/
def PWM_TIME_BLANK : Fld := ⟨0x2024, 0x40, 32, 24, 0, 8, .rwP3, .host, .w, true, true, 0x0⟩
/-- PWM_TIME.MIN_ON: 2.5 ns (R226). -/
def PWM_TIME_MIN_ON : Fld := ⟨0x2024, 0x40, 32, 16, 0, 8, .ro, .host, .w, true, true, 0x0⟩
/-- PWM_TIME.MIN_OFF: 2.5 ns (R226). -/
def PWM_TIME_MIN_OFF : Fld := ⟨0x2024, 0x40, 32, 8, 0, 8, .ro, .host, .w, true, true, 0x0⟩
/-- PWM_TIME.BST_W: 2.5 ns, 16–80; other values refused (R226). -/
def PWM_TIME_BST_W : Fld := ⟨0x2024, 0x40, 32, 0, 0, 8, .rwP3, .host, .w, true, true, 0x0⟩
/-- PWM_CTRL.FORCE_TRI: 1 stops the phase (R204) (R226). -/
def PWM_CTRL_FORCE_TRI : Fld := ⟨0x2028, 0x40, 32, 31, 0, 1, .rwP23, .host, .w, true, false, 0x0⟩
/-- PWM_CTRL.INVERT: R203 (R226). -/
def PWM_CTRL_INVERT : Fld := ⟨0x2028, 0x40, 32, 30, 0, 1, .rwP3, .host, .w, true, true, 0x0⟩
/-- PWM_CTRL.SWAP: R203 (R226). -/
def PWM_CTRL_SWAP : Fld := ⟨0x2028, 0x40, 32, 29, 0, 1, .rwP3, .host, .w, true, true, 0x0⟩
/-- PWM_CTRL.PAIR_LS_BOTH: R205 (R226). -/
def PWM_CTRL_PAIR_LS_BOTH : Fld := ⟨0x2028, 0x40, 32, 28, 0, 1, .ro, .host, .w, true, true, 0x0⟩
/-- PWM_CTRL.BST_N: 1–64; other values refused (R226). -/
def PWM_CTRL_BST_N : Fld := ⟨0x2028, 0x40, 32, 16, 0, 7, .rwP3, .host, .w, true, true, 0x0⟩
/-- PWM_CTRL.CUT_N: 1–255 (R226). -/
def PWM_CTRL_CUT_N : Fld := ⟨0x2028, 0x40, 32, 8, 0, 8, .rwP3, .host, .w, true, true, 0x0⟩
/-- PWM_STATUS.LEVEL: Ball level: 00 TRI, 01 LOW, 10 HIGH (R226). -/
def PWM_STATUS_LEVEL : Fld := ⟨0x202c, 0x40, 32, 30, 0, 2, .ro, .host, .w, true, false, 0x0⟩
/-- PWM_STATUS.TFLT_FAULT: Present TFLT reading is fault (R226). -/
def PWM_STATUS_TFLT_FAULT : Fld := ⟨0x202c, 0x40, 32, 29, 0, 1, .ro, .host, .w, true, false, 0x0⟩
/-- PWM_STATUS.TFLT_LATCH: Phase is TFLT-latched (R216) (R226). -/
def PWM_STATUS_TFLT_LATCH : Fld := ⟨0x202c, 0x40, 32, 28, 0, 1, .ro, .host, .w, true, false, 0x0⟩
/-- PWM_STATUS.TFLT_LATCH_N: TFLT latches in the present 1 s window (R226). -/
def PWM_STATUS_TFLT_LATCH_N : Fld := ⟨0x202c, 0x40, 32, 26, 0, 2, .ro, .host, .w, true, false, 0x0⟩
/-- PWM_STATUS.CUT_SRC: Source of the last cut: 0 TFLT, 1 peak comparator (R226). -/
def PWM_STATUS_CUT_SRC : Fld := ⟨0x202c, 0x40, 32, 25, 0, 1, .ro, .host, .w, true, false, 0x0⟩
/-- PWM_STATUS.CUT_CNT: R211 (R226). -/
def PWM_STATUS_CUT_CNT : Fld := ⟨0x202c, 0x40, 32, 16, 0, 8, .ro, .host, .w, true, false, 0x0⟩
/-- PWM_STATUS.FULL_CNT: R207 (R226). -/
def PWM_STATUS_FULL_CNT : Fld := ⟨0x202c, 0x40, 32, 8, 0, 7, .ro, .host, .w, true, false, 0x0⟩
/-- PWM_STICKY.OVR_REJ: An override write was refused (R226). -/
def PWM_STICKY_OVR_REJ : Fld := ⟨0x2030, 0x40, 32, 5, 0, 1, .w1c, .host, .w, true, false, 0x0⟩
/-- PWM_STICKY.TFLT_LATCH_S: A TFLT latch occurred (R226). -/
def PWM_STICKY_TFLT_LATCH_S : Fld := ⟨0x2030, 0x40, 32, 4, 0, 1, .w1c, .host, .w, true, false, 0x0⟩
/-- PWM_STICKY.REFRESH_S: A bootstrap refresh pulse was inserted (R226). -/
def PWM_STICKY_REFRESH_S : Fld := ⟨0x2030, 0x40, 32, 3, 0, 1, .w1c, .host, .w, true, false, 0x0⟩
/-- PWM_STICKY.DUTY_SAT_S: d + TRIM was limited (R197) (R226). -/
def PWM_STICKY_DUTY_SAT_S : Fld := ⟨0x2030, 0x40, 32, 2, 0, 1, .w1c, .host, .w, true, false, 0x0⟩
/-- PWM_STICKY.MINON_S: Ton was raised to MIN_ON or set to 0 (R226). -/
def PWM_STICKY_MINON_S : Fld := ⟨0x2030, 0x40, 32, 1, 0, 1, .w1c, .host, .w, true, false, 0x0⟩
/-- PWM_STICKY.CUT_S: A cut occurred (R226). -/
def PWM_STICKY_CUT_S : Fld := ⟨0x2030, 0x40, 32, 0, 0, 1, .w1c, .host, .w, true, false, 0x0⟩
/-- PWM_TON.TON: Ton of the last period, ticks (R226). -/
def PWM_TON_TON : Fld := ⟨0x2034, 0x40, 32, 0, 0, 20, .ro, .raw, .w, true, false, 0x0⟩
/-- HIC_CFG.HIC_OFF: Off-time, 1–1,000 ms (R226). -/
def HIC_CFG_HIC_OFF : Fld := ⟨0x10a0, 0x100, 8, 16, 0, 10, .rwP3, .host, .w, true, true, 0x0⟩
/-- HIC_CFG.HIC_UNLIM: 1 = unlimited retries (R226). -/
def HIC_CFG_HIC_UNLIM : Fld := ⟨0x10a0, 0x100, 8, 7, 0, 1, .rwP3, .host, .w, true, true, 0x0⟩
/-- HIC_CFG.HIC_RETRY: Retries allowed, 0–15 (R226). -/
def HIC_CFG_HIC_RETRY : Fld := ⟨0x10a0, 0x100, 8, 0, 0, 4, .rwP3, .host, .w, true, true, 0x0⟩
/-- HIC_STATUS.RETRY_CNT: R212, R214 (R226). -/
def HIC_STATUS_RETRY_CNT : Fld := ⟨0x10a4, 0x100, 8, 28, 0, 4, .ro, .rail, .w, true, false, 0x0⟩
/-- HIC_STATUS.OFF_LEFT: Off-time remaining, ms, truncated (R226). -/
def HIC_STATUS_OFF_LEFT : Fld := ⟨0x10a4, 0x100, 8, 16, 0, 10, .ro, .rail, .w, true, false, 0x0⟩
/-- HIC_STATUS.HIC_ENTRIES: HICCUP entries since WAKE, saturating at 65,535 (R226). -/
def HIC_STATUS_HIC_ENTRIES : Fld := ⟨0x10a4, 0x100, 8, 0, 0, 16, .ro, .rail, .w, true, false, 0x0⟩
/-- SEN_CFG.SEN_LEAD: µs (R226). -/
def SEN_CFG_SEN_LEAD : Fld := ⟨0x10a8, 0x100, 8, 24, 0, 8, .ro, .host, .w, true, true, 0x0⟩
/-- SEN_CFG.SEN_LAG: µs (R226). -/
def SEN_CFG_SEN_LAG : Fld := ⟨0x10a8, 0x100, 8, 16, 0, 8, .ro, .host, .w, true, true, 0x0⟩
/-- SEN_CFG.SEN_STATE: Present level of the rail's SEN ball (R226). -/
def SEN_CFG_SEN_STATE : Fld := ⟨0x10a8, 0x100, 8, 0, 0, 1, .ro, .host, .w, true, false, 0x0⟩
/-- SYNC_CFG.SYNC_EN: 1 = rails in SYNC_RAILS follow SYNCI (R226). -/
def SYNC_CFG_SYNC_EN : Fld := ⟨0x120, 0x0, 1, 31, 0, 1, .rwP3, .host, .w, true, true, 0x0⟩
/-- SYNC_CFG.SYNCO_EN: 1 = SYNCO driven (R226). -/
def SYNC_CFG_SYNCO_EN : Fld := ⟨0x120, 0x0, 1, 30, 0, 1, .rwP3, .host, .w, true, true, 0x0⟩
/-- SYNC_CFG.SYNCO_RAIL: Rail whose period start drives SYNCO (R226). -/
def SYNC_CFG_SYNCO_RAIL : Fld := ⟨0x120, 0x0, 1, 27, 0, 3, .rwP3, .host, .w, true, true, 0x0⟩
/-- SYNC_CFG.SYNC_DLY: Delay from SYNCI edge to period start, ticks, below PERIOD (R226). -/
def SYNC_CFG_SYNC_DLY : Fld := ⟨0x120, 0x0, 1, 0, 0, 20, .rwP3, .host, .w, true, true, 0x0⟩
/-- SYNC_STATUS.SYNC_RAILS: Bit *r* = RAIL*r* follows SYNCI; loaded from the LINKS section; writable only as SYNC_CFG (R226). -/
def SYNC_STATUS_SYNC_RAILS : Fld := ⟨0x124, 0x0, 1, 24, 0, 8, .rwP3, .host, .w, true, true, 0x0⟩
/-- SYNC_STATUS.SYNC_LOCK: R221 (R226). -/
def SYNC_STATUS_SYNC_LOCK : Fld := ⟨0x124, 0x0, 1, 23, 0, 1, .ro, .host, .w, true, false, 0x0⟩
/-- SYNC_STATUS.SYNC_LOST: R222 (R226). -/
def SYNC_STATUS_SYNC_LOST : Fld := ⟨0x124, 0x0, 1, 22, 0, 1, .w1c, .host, .w, true, false, 0x0⟩
/-- SYNC_STATUS.SYNCI_PRESENT: R85 reading of SYNCI (R226). -/
def SYNC_STATUS_SYNCI_PRESENT : Fld := ⟨0x124, 0x0, 1, 21, 0, 1, .ro, .host, .w, true, false, 0x0⟩
/-- SYNC_STATUS.PER_MEAS: Measured SYNCI period, ticks (R226). -/
def SYNC_STATUS_PER_MEAS : Fld := ⟨0x124, 0x0, 1, 0, 0, 20, .ro, .host, .w, true, false, 0x0⟩
/-- SP_STATUS.SP_TGT: Target code (R227) (R261). -/
def SP_STATUS_SP_TGT : Fld := ⟨0x10b0, 0x100, 8, 20, 0, 12, .ro, .rail, .w, false, false, 0x0⟩
/-- SP_STATUS.DAC_CODE: Present DAC code (R261). -/
def SP_STATUS_DAC_CODE : Fld := ⟨0x10b0, 0x100, 8, 8, 0, 12, .ro, .rail, .w, false, false, 0x0⟩
/-- SP_STATUS.SP_OWNER: 0 boot; 1 VSEL; 2 AL0; 3 AL1; 4 host; 5 service (R261). -/
def SP_STATUS_SP_OWNER : Fld := ⟨0x10b0, 0x100, 8, 5, 0, 3, .ro, .rail, .w, false, false, 0x0⟩
/-- SP_STATUS.SLEWING: DAC code differs from SP_TGT (R261). -/
def SP_STATUS_SLEWING : Fld := ⟨0x10b0, 0x100, 8, 4, 0, 1, .ro, .rail, .w, false, false, 0x0⟩
/-- SP_CMD.CODE: Host or service command (R230, R231); a refused write is refused on its bus and sets SP_REJ (R261). -/
def SP_CMD_CODE : Fld := ⟨0x10b4, 0x100, 8, 0, 0, 12, .woP23, .host, .w, false, false, 0x0⟩
/-- SP_WIN.P1_MAX: P1 window in force, high (R232) (R261). -/
def SP_WIN_P1_MAX : Fld := ⟨0x10b8, 0x100, 8, 16, 0, 12, .rwP23, .rail, .w, false, true, 0x0⟩
/-- SP_WIN.P1_MIN: P1 window in force, low; both fields are written in one access (R261). -/
def SP_WIN_P1_MIN : Fld := ⟨0x10b8, 0x100, 8, 0, 0, 12, .rwP23, .rail, .w, false, true, 0x0⟩
/-- SP_CTRL.SLEW_UP: R229 (R261). -/
def SP_CTRL_SLEW_UP : Fld := ⟨0x10bc, 0x100, 8, 24, 0, 8, .ro, .rail, .w, false, true, 0x0⟩
/-- SP_CTRL.SLEW_DN: R229 (R261). -/
def SP_CTRL_SLEW_DN : Fld := ⟨0x10bc, 0x100, 8, 16, 0, 8, .ro, .rail, .w, false, true, 0x0⟩
/-- SP_CTRL.SRC_MASK: Bit 12 VSEL, 13 AL0, 14 AL1, 15 HOST (R261). -/
def SP_CTRL_SRC_MASK : Fld := ⟨0x10bc, 0x100, 8, 12, 0, 4, .ro, .rail, .w, false, true, 0x0⟩
/-- SP_CTRL.SRC_EN: Same bit order; loaded equal to SRC_MASK in step 6 of Table 4.8 (R230); bits outside SRC_MASK are held at 0 (R261). -/
def SP_CTRL_SRC_EN : Fld := ⟨0x10bc, 0x100, 8, 8, 0, 4, .rwP23, .rail, .w, false, true, 0x0⟩
/-- SP_CTRL.AL_SERVE: Bit 6 port 0, bit 7 port 1 (R261). -/
def SP_CTRL_AL_SERVE : Fld := ⟨0x10bc, 0x100, 8, 6, 0, 2, .ro, .rail, .w, false, true, 0x0⟩
/-- SP_CTRL.SP_REJ: A host or service command was refused (R261). -/
def SP_CTRL_SP_REJ : Fld := ⟨0x10bc, 0x100, 8, 2, 0, 1, .w1c, .rail, .w, false, false, 0x0⟩
/-- SP_CTRL.VSEL_REJ: A selector command was refused (R236) (R261). -/
def SP_CTRL_VSEL_REJ : Fld := ⟨0x10bc, 0x100, 8, 1, 0, 1, .w1c, .rail, .w, false, false, 0x0⟩
/-- SP_CTRL.WIN_MOVED: SP_TGT was moved by a window change (R232) (R261). -/
def SP_CTRL_WIN_MOVED : Fld := ⟨0x10bc, 0x100, 8, 0, 0, 1, .w1c, .rail, .w, false, false, 0x0⟩
/-- AL_CFG.PORT_EN: Port in use by CFG3 (R261). -/
def AL_CFG_PORT_EN : Fld := ⟨0x7000, 0x40, 2, 31, 0, 1, .ro, .port, .w, false, true, 0x0⟩
/-- AL_CFG.ON_SILENT: R254 (R261). -/
def AL_CFG_ON_SILENT : Fld := ⟨0x7000, 0x40, 2, 30, 0, 1, .rwP23, .port, .w, false, true, 0x0⟩
/-- AL_CFG.AL_TMO: Silence timeout, ms; 0 disables (R261). -/
def AL_CFG_AL_TMO : Fld := ⟨0x7000, 0x40, 2, 0, 0, 8, .rwP23, .port, .w, false, true, 0x0⟩
/-- AL_STATUS.CRED: Credits held by the load, 0–64 (R261). -/
def AL_STATUS_CRED : Fld := ⟨0x7004, 0x40, 2, 25, 0, 7, .ro, .port, .w, false, false, 0x0⟩
/-- AL_STATUS.THROT: As A5 (R261). -/
def AL_STATUS_THROT : Fld := ⟨0x7004, 0x40, 2, 24, 0, 1, .ro, .port, .w, false, false, 0x0⟩
/-- AL_STATUS.SILENT: Port silent (R254) (R261). -/
def AL_STATUS_SILENT : Fld := ⟨0x7004, 0x40, 2, 23, 0, 1, .ro, .port, .w, false, false, 0x0⟩
/-- AL_STATUS.RD_PEND: A read is outstanding (R261). -/
def AL_STATUS_RD_PEND : Fld := ⟨0x7004, 0x40, 2, 22, 0, 1, .ro, .port, .w, false, false, 0x0⟩
/-- AL_STATUS.NOTE_N: Notices queued, 0–40 (R261). -/
def AL_STATUS_NOTE_N : Fld := ⟨0x7004, 0x40, 2, 16, 0, 6, .ro, .port, .w, false, false, 0x0⟩
/-- AL_STATUS.CTX_ID: Present context ID (R261). -/
def AL_STATUS_CTX_ID : Fld := ⟨0x7004, 0x40, 2, 0, 0, 15, .ro, .port, .w, false, false, 0x0⟩
/-- AL_COUNT.CRC_ERR: Frames refused with CRC (R261). -/
def AL_COUNT_CRC_ERR : Fld := ⟨0x7008, 0x40, 2, 16, 0, 16, .ro, .port, .w, false, false, 0x0⟩
/-- AL_COUNT.FRAME_ERR: Framing errors (R240) (R261). -/
def AL_COUNT_FRAME_ERR : Fld := ⟨0x7008, 0x40, 2, 8, 0, 8, .ro, .port, .w, false, false, 0x0⟩
/-- AL_COUNT.NAK_CNT: Frames refused for any other reason (R261). -/
def AL_COUNT_NAK_CNT : Fld := ⟨0x7008, 0x40, 2, 0, 0, 8, .ro, .port, .w, false, false, 0x0⟩
/-- AL_STICKY.WR_FAIL: An acknowledged write failed (R244) (R261). -/
def AL_STICKY_WR_FAIL : Fld := ⟨0x700c, 0x40, 2, 7, 0, 1, .w1c, .port, .w, false, false, 0x0⟩
/-- AL_STICKY.READ_LOST: Read result discarded (R250) (R261). -/
def AL_STICKY_READ_LOST : Fld := ⟨0x700c, 0x40, 2, 6, 0, 1, .w1c, .port, .w, false, false, 0x0⟩
/-- AL_STICKY.NOTE_LOST: A notice was dropped (R253) (R261). -/
def AL_STICKY_NOTE_LOST : Fld := ⟨0x700c, 0x40, 2, 5, 0, 1, .w1c, .port, .w, false, false, 0x0⟩
/-- AL_STICKY.SILENT_S: Port was declared silent (R261). -/
def AL_STICKY_SILENT_S : Fld := ⟨0x700c, 0x40, 2, 4, 0, 1, .w1c, .port, .w, false, false, 0x0⟩
/-- AL_STICKY.RETRY_S: A retry was answered (R248) (R261). -/
def AL_STICKY_RETRY_S : Fld := ⟨0x700c, 0x40, 2, 3, 0, 1, .w1c, .port, .w, false, false, 0x0⟩
/-- AL_STICKY.TRUNC_S: A frame was truncated (R261). -/
def AL_STICKY_TRUNC_S : Fld := ⟨0x700c, 0x40, 2, 2, 0, 1, .w1c, .port, .w, false, false, 0x0⟩
/-- AL_STICKY.FRAME_S: Edges after edge 55 (R261). -/
def AL_STICKY_FRAME_S : Fld := ⟨0x700c, 0x40, 2, 1, 0, 1, .w1c, .port, .w, false, false, 0x0⟩
/-- AL_STICKY.CLK_STUCK: ALCLK held high (R261). -/
def AL_STICKY_CLK_STUCK : Fld := ⟨0x700c, 0x40, 2, 0, 0, 1, .w1c, .port, .w, false, false, 0x0⟩
/-- VSEL_STATUS.VSEL_FILT: Filter, 100 ns per code; a write of 0 is refused (R261). -/
def VSEL_STATUS_VSEL_FILT : Fld := ⟨0x7080, 0x0, 1, 24, 0, 8, .rwP3, .opn, .w, false, true, 0x0⟩
/-- VSEL_STATUS.VSEL_INV: Code invalid for 1 ms (R235) (R261). -/
def VSEL_STATUS_VSEL_INV : Fld := ⟨0x7080, 0x0, 1, 16, 0, 1, .w1c, .opn, .w, false, false, 0x0⟩
/-- VSEL_STATUS.BALLS: Two bits per ball, VSEL3 in 15:14 to VSEL0 in 9:8: 00 MID, 01 LOW, 10 HIGH (R261). -/
def VSEL_STATUS_BALLS : Fld := ⟨0x7080, 0x0, 1, 8, 0, 8, .ro, .opn, .w, false, false, 0x0⟩
/-- VSEL_STATUS.ACCEPTED: A code has been accepted since PARSE (R261). -/
def VSEL_STATUS_ACCEPTED : Fld := ⟨0x7080, 0x0, 1, 7, 0, 1, .ro, .opn, .w, false, false, 0x0⟩
/-- VSEL_STATUS.CODE: Last accepted code (R261). -/
def VSEL_STATUS_CODE : Fld := ⟨0x7080, 0x0, 1, 0, 0, 4, .ro, .opn, .w, false, false, 0x0⟩
/-- TN_CTRL.TN_EN: Bit 24 + *r* enables hints on RAIL*r*; bits outside TN_ALLOW are held at 0 (R285). -/
def TN_CTRL_TN_EN : Fld := ⟨0x5000, 0x0, 1, 24, 0, 8, .rwP23, .host, .w, false, true, 0x0⟩
/-- TN_CTRL.TN_ALLOW: Image permission per rail (R285). -/
def TN_CTRL_TN_ALLOW : Fld := ⟨0x5000, 0x0, 1, 16, 0, 8, .ro, .host, .w, false, true, 0x0⟩
/-- TN_WEIGHT.W_INIT: Initial weight (R285). -/
def TN_WEIGHT_W_INIT : Fld := ⟨0x5004, 0x0, 1, 24, 0, 8, .ro, .host, .w, false, true, 0x0⟩
/-- TN_WEIGHT.W_UP: Weight gain on a hit (R285). -/
def TN_WEIGHT_W_UP : Fld := ⟨0x5004, 0x0, 1, 16, 0, 8, .ro, .host, .w, false, true, 0x0⟩
/-- TN_WEIGHT.W_DN: Weight loss on a miss (R285). -/
def TN_WEIGHT_W_DN : Fld := ⟨0x5004, 0x0, 1, 8, 0, 8, .ro, .host, .w, false, true, 0x0⟩
/-- TN_WEIGHT.W_FLOOR: Weight below which a context is muted (R285). -/
def TN_WEIGHT_W_FLOOR : Fld := ⟨0x5004, 0x0, 1, 0, 0, 8, .ro, .host, .w, false, true, 0x0⟩
/-- TN_RATE.TK_MAX: Token limit (R285). -/
def TN_RATE_TK_MAX : Fld := ⟨0x5008, 0x0, 1, 24, 0, 4, .ro, .host, .w, false, true, 0x0⟩
/-- TN_RATE.TK_REFILL: Refill interval, 2 µs (R285). -/
def TN_RATE_TK_REFILL : Fld := ⟨0x5008, 0x0, 1, 16, 0, 8, .ro, .host, .w, false, true, 0x0⟩
/-- TN_RATE.LEAD_MAX: Longest lead, µs (R285). -/
def TN_RATE_LEAD_MAX : Fld := ⟨0x5008, 0x0, 1, 0, 0, 11, .ro, .host, .w, false, true, 0x0⟩
/-- TN_CTX_SEL.CMD: Context command (R277); 0b00 none (R285). -/
def TN_CTX_SEL_CMD : Fld := ⟨0x5010, 0x0, 1, 30, 0, 2, .woP23, .host, .w, false, false, 0x0⟩
/-- TN_CTX_SEL.CTX: Context for TN_CTX_DATA and CMD (R285). -/
def TN_CTX_SEL_CTX : Fld := ⟨0x5010, 0x0, 1, 0, 0, 15, .rwP23, .host, .w, false, false, 0x0⟩
/-- TN_CTX_DATA.WORD: Context word of CTX, Table 9.1; read by P2 and P3 only (R285). -/
def TN_CTX_DATA_WORD : Fld := ⟨0x5014, 0x0, 1, 0, 0, 32, .ro, .host, .w, false, false, 0x0⟩
/-- TN_SLEW.PRE_SLEW: 6.25 A/µs (R285). -/
def TN_SLEW_PRE_SLEW : Fld := ⟨0x5100, 0x20, 8, 24, 0, 8, .ro, .host, .w, false, true, 0x0⟩
/-- TN_SLEW.UNW_SLEW: 6.25 A/µs (R285). -/
def TN_SLEW_UNW_SLEW : Fld := ⟨0x5100, 0x20, 8, 16, 0, 8, .ro, .host, .w, false, true, 0x0⟩
/-- TN_SLEW.DEC_SLEW: 6.25 A/µs (R285). -/
def TN_SLEW_DEC_SLEW : Fld := ⟨0x5100, 0x20, 8, 8, 0, 8, .ro, .host, .w, false, true, 0x0⟩
/-- TN_SLEW.RAMP_ADV: 20 ns (R285). -/
def TN_SLEW_RAMP_ADV : Fld := ⟨0x5100, 0x20, 8, 0, 0, 8, .ro, .host, .w, false, true, 0x0⟩
/-- TN_TIME.ADD_LEAD: µs (R285). -/
def TN_TIME_ADD_LEAD : Fld := ⟨0x5104, 0x20, 8, 24, 0, 8, .ro, .host, .w, false, true, 0x0⟩
/-- TN_TIME.HOLD_T: 100 ns (R285). -/
def TN_TIME_HOLD_T : Fld := ⟨0x5104, 0x20, 8, 16, 0, 8, .ro, .host, .w, false, true, 0x0⟩
/-- TN_TIME.CONF_T: µs (R285). -/
def TN_TIME_CONF_T : Fld := ⟨0x5104, 0x20, 8, 8, 0, 8, .ro, .host, .w, false, true, 0x0⟩
/-- TN_TIME.MISS_TH: 2 mV (R285). -/
def TN_TIME_MISS_TH : Fld := ⟨0x5104, 0x20, 8, 0, 0, 6, .ro, .host, .w, false, true, 0x0⟩
/-- TN_CAP.F_POS_CAP: Positive limit on F, 0.125 A (R285). -/
def TN_CAP_F_POS_CAP : Fld := ⟨0x5108, 0x20, 8, 16, 0, 15, .rwP23, .host, .w, false, true, 0x0⟩
/-- TN_CAP.F_NEG_CAP: Negative limit on F, 0.125 A (R285). -/
def TN_CAP_F_NEG_CAP : Fld := ⟨0x5108, 0x20, 8, 0, 0, 15, .rwP23, .host, .w, false, true, 0x0⟩
/-- TN_HCAP.HINT_CAP: Limit on one entry's AEFF, 0.125 A (R285). -/
def TN_HCAP_HINT_CAP : Fld := ⟨0x510c, 0x20, 8, 0, 0, 15, .rwP23, .host, .w, false, true, 0x0⟩
/-- TN_STAT.F: Hint current in force, signed, 0.125 A (R285). -/
def TN_STAT_F : Fld := ⟨0x5110, 0x20, 8, 16, 0, 16, .ro, .raw, .w, false, false, 0x0⟩
/-- TN_STAT.N_SCHED: Schedule entries, 0–64 (R285). -/
def TN_STAT_N_SCHED : Fld := ⟨0x5110, 0x20, 8, 9, 0, 7, .ro, .rail, .w, false, false, 0x0⟩
/-- TN_STAT.SCHED_FULL_S: A HINT was refused because the schedule was full (R285). -/
def TN_STAT_SCHED_FULL_S : Fld := ⟨0x5110, 0x20, 8, 3, 0, 1, .w1c, .rail, .w, false, false, 0x0⟩
/-- TN_STAT.DISCARD_S: Entries were discarded (R278) (R285). -/
def TN_STAT_DISCARD_S : Fld := ⟨0x5110, 0x20, 8, 2, 0, 1, .w1c, .rail, .w, false, false, 0x0⟩
/-- TN_STAT.EARLY_MISS_S: Early miss (R274) (R285). -/
def TN_STAT_EARLY_MISS_S : Fld := ⟨0x5110, 0x20, 8, 1, 0, 1, .w1c, .rail, .w, false, false, 0x0⟩
/-- TN_STAT.FF_CAP_S: F_raw was limited (R271) (R285). -/
def TN_STAT_FF_CAP_S : Fld := ⟨0x5110, 0x20, 8, 0, 0, 1, .w1c, .rail, .w, false, false, 0x0⟩
/-- TN_SCORE.HITS: Entries scored as hits (R285). -/
def TN_SCORE_HITS : Fld := ⟨0x5114, 0x20, 8, 16, 0, 16, .ro, .host, .p, false, false, 0x0⟩
/-- TN_SCORE.MISSES: Entries scored as misses (R285). -/
def TN_SCORE_MISSES : Fld := ⟨0x5114, 0x20, 8, 0, 0, 16, .ro, .host, .p, false, false, 0x0⟩
/-- PROT_CFG.BUS_OV: Bus over-voltage threshold, 5 mV (R324). -/
def PROT_CFG_BUS_OV : Fld := ⟨0x3000, 0x0, 1, 20, 0, 12, .rwP3, .host, .w, true, true, 0x0⟩
/-- PROT_CFG.VSTALE_D: Derate for stale feedforward (R324). -/
def PROT_CFG_VSTALE_D : Fld := ⟨0x3000, 0x0, 1, 12, 0, 8, .rwP3, .host, .w, true, true, 0x0⟩
/-- PROT_CFG.HS_T: High-side short window, 10 µs (R324). -/
def PROT_CFG_HS_T : Fld := ⟨0x3000, 0x0, 1, 5, 0, 7, .ro, .host, .w, true, true, 0x0⟩
/-- PROT_CFG.FN_RAIL: 1 = FAULT_N also for a LATCHED rail (R324). -/
def PROT_CFG_FN_RAIL : Fld := ⟨0x3000, 0x0, 1, 0, 0, 1, .rwP3, .host, .w, true, true, 0x0⟩
/-- PROT_STATUS.DL_CAUSE: Last device-latching cause, Table 10.3 (R324). -/
def PROT_STATUS_DL_CAUSE : Fld := ⟨0x3004, 0x0, 1, 28, 0, 4, .ro, .host, .w, true, false, 0x0⟩
/-- PROT_STATUS.BUS_OV_ACT: Bus over-voltage present (R324). -/
def PROT_STATUS_BUS_OV_ACT : Fld := ⟨0x3004, 0x0, 1, 27, 0, 1, .ro, .host, .w, true, false, 0x0⟩
/-- PROT_STATUS.FAULT_N_ST: 1 = FAULT_N driven low (R324). -/
def PROT_STATUS_FAULT_N_ST : Fld := ⟨0x3004, 0x0, 1, 26, 0, 1, .ro, .host, .w, true, false, 0x0⟩
/-- PROT_STATUS.RAIL_LATCHED: Bit *r* = RAIL*r* LATCHED (R324). -/
def PROT_STATUS_RAIL_LATCHED : Fld := ⟨0x3004, 0x0, 1, 0, 0, 8, .ro, .host, .w, true, false, 0x0⟩
/-- REF_STATUS.REF_SEL: Selected reference: 00 A, 01 B, 10 C (R324). -/
def REF_STATUS_REF_SEL : Fld := ⟨0x3008, 0x0, 1, 30, 0, 2, .ro, .host, .w, true, false, 0x0⟩
/-- REF_STATUS.REF_OUT: Bit 27 A, 28 B, 29 C outvoted (R324). -/
def REF_STATUS_REF_OUT : Fld := ⟨0x3008, 0x0, 1, 27, 0, 3, .ro, .host, .w, true, false, 0x0⟩
/-- REF_STATUS.REF_DRIFT: Same order; disagreement above 0.3 % (R324). -/
def REF_STATUS_REF_DRIFT : Fld := ⟨0x3008, 0x0, 1, 24, 0, 3, .ro, .host, .w, true, false, 0x0⟩
/-- REF_STATUS.TRANSFER: REF_TRIM nonzero (R324). -/
def REF_STATUS_TRANSFER : Fld := ⟨0x3008, 0x0, 1, 23, 0, 1, .ro, .host, .w, true, false, 0x0⟩
/-- REF_STATUS.NOVOTE_CNT: Consecutive rounds without a vote (R324). -/
def REF_STATUS_NOVOTE_CNT : Fld := ⟨0x3008, 0x0, 1, 16, 0, 2, .ro, .host, .w, true, false, 0x0⟩
/-- REF_STATUS.REF_TRIM: Present trim, signed, codes (R324). -/
def REF_STATUS_REF_TRIM : Fld := ⟨0x3008, 0x0, 1, 0, 0, 8, .ro, .host, .w, true, false, 0x0⟩
/-- REF_DEV.E_AB: e_AB, signed, 0.01 %, rounded (R324). -/
def REF_DEV_E_AB : Fld := ⟨0x300c, 0x0, 1, 20, 0, 10, .ro, .host, .w, true, false, 0x0⟩
/-- REF_DEV.E_BC: e_BC, signed, 0.01 % (R324). -/
def REF_DEV_E_BC : Fld := ⟨0x300c, 0x0, 1, 10, 0, 10, .ro, .host, .w, true, false, 0x0⟩
/-- REF_DEV.E_CA: e_CA, signed, 0.01 % (R324). -/
def REF_DEV_E_CA : Fld := ⟨0x300c, 0x0, 1, 0, 0, 10, .ro, .host, .w, true, false, 0x0⟩
/-- LEASE_STATUS.JOURNAL_N: Journal lease expiries (R324). -/
def LEASE_STATUS_JOURNAL_N : Fld := ⟨0x3010, 0x0, 1, 28, 0, 4, .ro, .host, .w, false, false, 0x0⟩
/-- LEASE_STATUS.BRIDGE_N: Bridge lease expiries (R324). -/
def LEASE_STATUS_BRIDGE_N : Fld := ⟨0x3010, 0x0, 1, 24, 0, 4, .ro, .host, .w, false, false, 0x0⟩
/-- LEASE_STATUS.SPI_N: SPI lease expiries (R324). -/
def LEASE_STATUS_SPI_N : Fld := ⟨0x3010, 0x0, 1, 20, 0, 4, .ro, .host, .w, false, false, 0x0⟩
/-- LEASE_STATUS.PMBUS_N: PMBus lease expiries (R324). -/
def LEASE_STATUS_PMBUS_N : Fld := ⟨0x3010, 0x0, 1, 16, 0, 4, .ro, .host, .w, false, false, 0x0⟩
/-- LEASE_STATUS.HKADC_N: Housekeeping ADC lease expiries (R324). -/
def LEASE_STATUS_HKADC_N : Fld := ⟨0x3010, 0x0, 1, 12, 0, 4, .ro, .host, .w, false, false, 0x0⟩
/-- LEASE_STATUS.LEASE_EXP_S: One bit per resource, same order from bit 4 (journal) to bit 0 (ADC) (R324). -/
def LEASE_STATUS_LEASE_EXP_S : Fld := ⟨0x3010, 0x0, 1, 0, 0, 5, .w1c, .host, .w, false, false, 0x0⟩
/-- RAIL_CLR.CLR: Bit *r* = 1 requests the clear of RAIL*r* (R292) (R324). -/
def RAIL_CLR_CLR : Fld := ⟨0x3014, 0x0, 1, 0, 0, 8, .woP23, .host, .w, true, false, 0x0⟩
/-- FAULT_HOLD.FAULT_HOLD: R291 (R324). -/
def FAULT_HOLD_FAULT_HOLD : Fld := ⟨0x3018, 0x0, 1, 0, 0, 1, .w1cP23, .host, .a, true, false, 0x0⟩
/-- RP_WIN.OV_TH: 2.5 mV, 4–127 (R324). -/
def RP_WIN_OV_TH : Fld := ⟨0x3100, 0x20, 8, 24, 0, 8, .rwP3, .host, .w, true, true, 0x0⟩
/-- RP_WIN.UV_TH: 2.5 mV, 4–127 (R324). -/
def RP_WIN_UV_TH : Fld := ⟨0x3100, 0x20, 8, 16, 0, 8, .rwP3, .host, .w, true, true, 0x0⟩
/-- RP_WIN.OV_FILT: 20 ns, 1–15 (R324). -/
def RP_WIN_OV_FILT : Fld := ⟨0x3100, 0x20, 8, 12, 0, 4, .rwP3, .host, .w, true, true, 0x0⟩
/-- RP_WIN.UV_FILT: 100 ns, 1–255 (R324). -/
def RP_WIN_UV_FILT : Fld := ⟨0x3100, 0x20, 8, 0, 0, 8, .rwP3, .host, .w, true, true, 0x0⟩
/-- RP_TRACK.OV_LAG: µs (R324). -/
def RP_TRACK_OV_LAG : Fld := ⟨0x3104, 0x20, 8, 26, 0, 6, .rwP3, .host, .w, true, true, 0x0⟩
/-- RP_TRACK.UV_LAG: µs (R324). -/
def RP_TRACK_UV_LAG : Fld := ⟨0x3104, 0x20, 8, 20, 0, 6, .rwP3, .host, .w, true, true, 0x0⟩
/-- RP_TRACK.OV_ABS: Absolute over-voltage code (R324). -/
def RP_TRACK_OV_ABS : Fld := ⟨0x3104, 0x20, 8, 0, 0, 12, .rwP3, .host, .w, true, true, 0x0⟩
/-- RP_TIME.PG_DLY: 10 µs (R324). -/
def RP_TIME_PG_DLY : Fld := ⟨0x3108, 0x20, 8, 24, 0, 8, .rwP23, .host, .w, true, true, 0x0⟩
/-- RP_TIME.UV_HIC_T: 100 µs; 0 = warning only (R324). -/
def RP_TIME_UV_HIC_T : Fld := ⟨0x3108, 0x20, 8, 16, 0, 8, .rwP3, .host, .w, true, true, 0x0⟩
/-- RP_TIME.OC_SUST: 10 µs (R324). -/
def RP_TIME_OC_SUST : Fld := ⟨0x3108, 0x20, 8, 8, 0, 8, .rwP3, .host, .w, true, true, 0x0⟩
/-- RP_TIME.CB_MAX: µs (R324). -/
def RP_TIME_CB_MAX : Fld := ⟨0x3108, 0x20, 8, 0, 0, 8, .ro, .host, .w, true, true, 0x0⟩
/-- RP_SENSE.SNS_WIN: 5 mV, 4–63 (R324). -/
def RP_SENSE_SNS_WIN : Fld := ⟨0x310c, 0x20, 8, 24, 0, 6, .rwP3, .host, .w, true, true, 0x0⟩
/-- RP_SENSE.AUX_D: 64–128 (R324). -/
def RP_SENSE_AUX_D : Fld := ⟨0x310c, 0x20, 8, 16, 0, 8, .rwP3, .host, .w, true, true, 0x0⟩
/-- RP_SENSE.FRZ_DUTY: Q0.16, 16–4,096 (R324). -/
def RP_SENSE_FRZ_DUTY : Fld := ⟨0x310c, 0x20, 8, 0, 0, 13, .rwP3, .host, .w, true, true, 0x0⟩
/-- RP_PHW.PH_POS: 0.125 A (R324). -/
def RP_PHW_PH_POS : Fld := ⟨0x3110, 0x20, 8, 16, 0, 16, .rwP3, .host, .w, true, true, 0x0⟩
/-- RP_PHW.PH_NEG: 0.125 A (R324). -/
def RP_PHW_PH_NEG : Fld := ⟨0x3110, 0x20, 8, 0, 0, 16, .rwP3, .host, .w, true, true, 0x0⟩
/-- RP_MISC.PHW_N: Periods (R324). -/
def RP_MISC_PHW_N : Fld := ⟨0x3114, 0x20, 8, 24, 0, 8, .rwP3, .host, .w, true, true, 0x0⟩
/-- RP_MISC.BRK_N: Braking starts per 1 ms (R324). -/
def RP_MISC_BRK_N : Fld := ⟨0x3114, 0x20, 8, 16, 0, 8, .rwP23, .host, .w, true, true, 0x0⟩
/-- RP_MISC.BRK_TMAX: °C (R324). -/
def RP_MISC_BRK_TMAX : Fld := ⟨0x3114, 0x20, 8, 8, 0, 8, .rwP23, .host, .w, true, true, 0x0⟩
/-- RP_MISC.AUX_ALLOW: 1 = fall back to VSA (R324). -/
def RP_MISC_AUX_ALLOW : Fld := ⟨0x3114, 0x20, 8, 7, 0, 1, .rwP3, .host, .w, true, true, 0x0⟩
/-- RP_STATUS.LATCH_CAUSE: Table 10.4 (R324). -/
def RP_STATUS_LATCH_CAUSE : Fld := ⟨0x3118, 0x20, 8, 28, 0, 4, .ro, .rail, .w, true, false, 0x0⟩
/-- RP_STATUS.SNS_AUX: Rail on its auxiliary sense (R324). -/
def RP_STATUS_SNS_AUX : Fld := ⟨0x3118, 0x20, 8, 27, 0, 1, .ro, .rail, .w, true, false, 0x0⟩
/-- RP_STATUS.SNS_CAUSE: 0 open sense, 1 frozen feedback (R324). -/
def RP_STATUS_SNS_CAUSE : Fld := ⟨0x3118, 0x20, 8, 26, 0, 1, .ro, .rail, .w, true, false, 0x0⟩
/-- RP_STATUS.PGOOD_ST: 1 = PGOOD released (R324). -/
def RP_STATUS_PGOOD_ST : Fld := ⟨0x3118, 0x20, 8, 25, 0, 1, .ro, .rail, .w, true, false, 0x0⟩
/-- RP_STATUS.OV_RD: Over-voltage reading outside (R324). -/
def RP_STATUS_OV_RD : Fld := ⟨0x3118, 0x20, 8, 24, 0, 1, .ro, .rail, .w, true, false, 0x0⟩
/-- RP_STATUS.UV_RD: Under-voltage reading outside (R324). -/
def RP_STATUS_UV_RD : Fld := ⟨0x3118, 0x20, 8, 23, 0, 1, .ro, .rail, .w, true, false, 0x0⟩
/-- RP_STATUS.CB_ACT: Crowbar in progress (R324). -/
def RP_STATUS_CB_ACT : Fld := ⟨0x3118, 0x20, 8, 22, 0, 1, .ro, .rail, .w, true, false, 0x0⟩
/-- RP_STATUS.BRK_INH: Braking inhibited (R315) (R324). -/
def RP_STATUS_BRK_INH : Fld := ⟨0x3118, 0x20, 8, 21, 0, 1, .ro, .rail, .w, true, false, 0x0⟩
/-- RP_STATUS.PRE_HOLD: Pre-start hold stands (R316) (R324). -/
def RP_STATUS_PRE_HOLD : Fld := ⟨0x3118, 0x20, 8, 20, 0, 1, .ro, .rail, .w, true, false, 0x0⟩
/-- RP_STICKY.PRECHECK_S: A pre-start test failed (R324). -/
def RP_STICKY_PRECHECK_S : Fld := ⟨0x311c, 0x20, 8, 8, 0, 1, .w1c, .host, .w, true, false, 0x0⟩
/-- RP_STICKY.BRK_INH_S: Braking was inhibited (R324). -/
def RP_STICKY_BRK_INH_S : Fld := ⟨0x311c, 0x20, 8, 7, 0, 1, .w1c, .host, .w, true, false, 0x0⟩
/-- RP_STICKY.AUXBAD_S: Auxiliary sense implausible (R324). -/
def RP_STICKY_AUXBAD_S : Fld := ⟨0x311c, 0x20, 8, 6, 0, 1, .w1c, .host, .w, true, false, 0x0⟩
/-- RP_STICKY.FROZEN_S: Feedback frozen (R324). -/
def RP_STICKY_FROZEN_S : Fld := ⟨0x311c, 0x20, 8, 5, 0, 1, .w1c, .host, .w, true, false, 0x0⟩
/-- RP_STICKY.SNS_OPEN_S: Remote sense open (R324). -/
def RP_STICKY_SNS_OPEN_S : Fld := ⟨0x311c, 0x20, 8, 4, 0, 1, .w1c, .host, .w, true, false, 0x0⟩
/-- RP_STICKY.OC_S: Rail over-current escalation (R324). -/
def RP_STICKY_OC_S : Fld := ⟨0x311c, 0x20, 8, 3, 0, 1, .w1c, .host, .w, true, false, 0x0⟩
/-- RP_STICKY.UV_S: Under-voltage reading outside (R324). -/
def RP_STICKY_UV_S : Fld := ⟨0x311c, 0x20, 8, 2, 0, 1, .w1c, .host, .w, true, false, 0x0⟩
/-- RP_STICKY.OVABS_S: Absolute over-voltage (R324). -/
def RP_STICKY_OVABS_S : Fld := ⟨0x311c, 0x20, 8, 1, 0, 1, .w1c, .host, .w, true, false, 0x0⟩
/-- RP_STICKY.OV_S: Over-voltage (R324). -/
def RP_STICKY_OV_S : Fld := ⟨0x311c, 0x20, 8, 0, 0, 1, .w1c, .host, .w, true, false, 0x0⟩
/-- PKP_CFG.PK_LIM: Peak limit, 0.125 A (R324). -/
def PKP_CFG_PK_LIM : Fld := ⟨0x3400, 0x4, 32, 16, 0, 16, .rwP3, .host, .w, true, true, 0x0⟩
/-- PKP_CFG.NPK_LIM: Negative peak limit, 0.125 A; 0 off; a write of 0 over a nonzero image value is refused (R324). -/
def PKP_CFG_NPK_LIM : Fld := ⟨0x3400, 0x4, 32, 0, 0, 15, .rwP3, .host, .w, true, true, 0x0⟩
/-- PH_PROT.PK_MV: Peak threshold in force, mV (R324). -/
def PH_PROT_PK_MV : Fld := ⟨0x3480, 0x4, 32, 23, 0, 9, .ro, .host, .w, true, false, 0x0⟩
/-- PH_PROT.NPK_MV: Negative threshold magnitude, mV (R324). -/
def PH_PROT_NPK_MV : Fld := ⟨0x3480, 0x4, 32, 14, 0, 9, .ro, .host, .w, true, false, 0x0⟩
/-- PH_PROT.PRE_RES: Last pre-start result: 0 pass; 1 IMON offset; 2 IMON open; 3 high-side short; 4 TFLT-latched; 5 not tested (R324). -/
def PH_PROT_PRE_RES : Fld := ⟨0x3480, 0x4, 32, 11, 0, 3, .ro, .host, .w, true, false, 0x0⟩
/-- PH_PROT.PHW_STOP: Stopped by the phase window (R295) (R324). -/
def PH_PROT_PHW_STOP : Fld := ⟨0x3480, 0x4, 32, 10, 0, 1, .ro, .host, .w, true, false, 0x0⟩
/-- PH_PROT.NPK_S: Negative peak cut occurred (R324). -/
def PH_PROT_NPK_S : Fld := ⟨0x3480, 0x4, 32, 9, 0, 1, .w1c, .host, .w, true, false, 0x0⟩
/-- PH_PROT.PHW_CNT: Phase window count (R324). -/
def PH_PROT_PHW_CNT : Fld := ⟨0x3480, 0x4, 32, 0, 0, 8, .ro, .host, .w, true, false, 0x0⟩
/-- REFIN_STATUS.REFIN_FAULT: REFIN fault active (R305) (R324). -/
def REFIN_STATUS_REFIN_FAULT : Fld := ⟨0x3500, 0x4, 4, 31, 0, 1, .ro, .host, .w, true, false, 0x0⟩
/-- REFIN_STATUS.REFIN_FAULT_S: A REFIN fault occurred (R324). -/
def REFIN_STATUS_REFIN_FAULT_S : Fld := ⟨0x3500, 0x4, 4, 30, 0, 1, .w1c, .host, .w, true, false, 0x0⟩
/-- REFIN_STATUS.REFIN_REF: REFIN measured in the pre-start tests, 1 mV (R324). -/
def REFIN_STATUS_REFIN_REF : Fld := ⟨0x3500, 0x4, 4, 0, 0, 16, .ro, .host, .w, true, false, 0x0⟩
/-- CT_STATUS.CT_ACT: Pronoun loop drives at least one rail (R342). -/
def CT_STATUS_CT_ACT : Fld := ⟨0x60, 0x0, 1, 31, 0, 1, .ro, .host, .d, true, false, 0x0⟩
/-- CT_STATUS.CT_CAUSE: Cause of the last loss (R325) (R342). -/
def CT_STATUS_CT_CAUSE : Fld := ⟨0x60, 0x0, 1, 28, 0, 3, .ro, .host, .d, true, false, 0x0⟩
/-- CT_STATUS.ADOPT_RES: 0 adopted or none; else Table 11.1 (R342). -/
def CT_STATUS_ADOPT_RES : Fld := ⟨0x60, 0x0, 1, 24, 0, 4, .ro, .host, .d, true, false, 0x0⟩
/-- CT_STATUS.CT_RAILS: Bit *r* = RAIL*r* held at the last takeover (R342). -/
def CT_STATUS_CT_RAILS : Fld := ⟨0x60, 0x0, 1, 16, 0, 8, .ro, .host, .d, true, false, 0x0⟩
/-- CT_STATUS.CT_TIME: Duration of the last CARETAKER, 1 µs, saturating (R342). -/
def CT_STATUS_CT_TIME : Fld := ⟨0x60, 0x0, 1, 0, 0, 16, .ro, .host, .d, true, false, 0x0⟩
/-- CT_COUNT.ADOPT_OK: Warm adoptions completed (R342). -/
def CT_COUNT_ADOPT_OK : Fld := ⟨0x64, 0x0, 1, 16, 0, 16, .ro, .host, .d, true, false, 0x0⟩
/-- CT_COUNT.ADOPT_REF: Adoptions refused (R342). -/
def CT_COUNT_ADOPT_REF : Fld := ⟨0x64, 0x0, 1, 0, 0, 16, .ro, .host, .d, true, false, 0x0⟩
/-- COH_STATUS.COH_CNT: Coherence faults, saturating (R342). -/
def COH_STATUS_COH_CNT : Fld := ⟨0x68, 0x0, 1, 16, 0, 16, .ro, .host, .d, true, false, 0x0⟩
/-- COH_STATUS.LAST_PH: Phase of the last phase coherence fault (R342). -/
def COH_STATUS_LAST_PH : Fld := ⟨0x68, 0x0, 1, 11, 0, 5, .ro, .host, .d, true, false, 0x0⟩
/-- COH_STATUS.RCOH_S: A rail-state coherence fault occurred (R342). -/
def COH_STATUS_RCOH_S : Fld := ⟨0x68, 0x0, 1, 1, 0, 1, .w1c, .host, .d, true, false, 0x0⟩
/-- COH_STATUS.COH_S: A phase coherence fault occurred (R342). -/
def COH_STATUS_COH_S : Fld := ⟨0x68, 0x0, 1, 0, 0, 1, .w1c, .host, .d, true, false, 0x0⟩
/-- COH_HOLD.HOLD: Bit *n* = COH_HOLD set for PH*n* (R339) (R342). -/
def COH_HOLD_HOLD : Fld := ⟨0x6c, 0x0, 1, 0, 0, 32, .ro, .host, .d, true, false, 0x0⟩
/-- RETAIN_DIGEST.DIGEST: RETAIN_DIGEST (R333); RETAIN_DIGEST0 holds bytes 0–3, most significant byte first (R342). -/
def RETAIN_DIGEST_DIGEST : Fld := ⟨0x80, 0x4, 8, 0, 0, 32, .ro, .host, .d, true, false, 0x0⟩
/-- PN_MON.PN_DUTY: Last d_pn, Q0.16 (R342). -/
def PN_MON_PN_DUTY : Fld := ⟨0x10c0, 0x100, 8, 16, 0, 16, .ro, .raw, .w, true, false, 0x0⟩
/-- PN_MON.TRACK: 1 = tracking; 0 = driving or idle (R342). -/
def PN_MON_TRACK : Fld := ⟨0x10c0, 0x100, 8, 15, 0, 1, .ro, .raw, .w, true, false, 0x0⟩
/-- PN_MON.PN_HOLD: hold_J set in the last update (R342). -/
def PN_MON_PN_HOLD : Fld := ⟨0x10c0, 0x100, 8, 14, 0, 1, .ro, .raw, .w, true, false, 0x0⟩
/-- PN_MON.PN_INT: J10 >> 10, signed, saturated to 14 bits, 0.15625 mV (R342). -/
def PN_MON_PN_INT : Fld := ⟨0x10c0, 0x100, 8, 0, 0, 14, .ro, .raw, .w, true, false, 0x0⟩
/-- HK_CFG.HK_ROUND: ms; a write above the image value is refused (R360). -/
def HK_CFG_HK_ROUND : Fld := ⟨0x3800, 0x0, 1, 24, 0, 8, .rwP3, .host, .w, true, true, 0x0⟩
/-- HK_CFG.TD_HYS: °C (R360). -/
def HK_CFG_TD_HYS : Fld := ⟨0x3800, 0x0, 1, 16, 0, 8, .ro, .host, .w, true, true, 0x0⟩
/-- HK_CFG.STALE_MAX: Readings (R360). -/
def HK_CFG_STALE_MAX : Fld := ⟨0x3800, 0x0, 1, 8, 0, 8, .ro, .host, .w, true, true, 0x0⟩
/-- HK_CFG.ROR_N: Rounds (R360). -/
def HK_CFG_ROR_N : Fld := ⟨0x3800, 0x0, 1, 4, 0, 4, .ro, .host, .w, true, true, 0x0⟩
/-- HK_STATUS.ROUND_CNT: Rounds since WAKE, wrapping (R360). -/
def HK_STATUS_ROUND_CNT : Fld := ⟨0x3804, 0x0, 1, 16, 0, 16, .ro, .host, .w, true, false, 0x0⟩
/-- HK_STATUS.ROUND_SKIP: Skipped rounds, saturating (R360). -/
def HK_STATUS_ROUND_SKIP : Fld := ⟨0x3804, 0x0, 1, 8, 0, 8, .ro, .host, .w, true, false, 0x0⟩
/-- HK_STATUS.SELF_FAIL: R346 (R360). -/
def HK_STATUS_SELF_FAIL : Fld := ⟨0x3804, 0x0, 1, 7, 0, 1, .ro, .host, .w, true, false, 0x0⟩
/-- THERM_DERATE.D: Smallest thermal D in force, RGNm (R360). -/
def THERM_DERATE_D : Fld := ⟨0x3838, 0x0, 4, 0, 8, 8, .ro, .host, .w, true, false, 0x0⟩
/-- THERM_STATUS.LEVEL: Effective level per region, 3 bits each, RGN3 in bits 31:29 (R360). -/
def THERM_STATUS_LEVEL : Fld := ⟨0x383c, 0x0, 1, 20, 0, 12, .ro, .host, .w, true, false, 0x0⟩
/-- THERM_STATUS.ROR_ACT: Bit 16 + *m* for RGN*m* (R360). -/
def THERM_STATUS_ROR_ACT : Fld := ⟨0x383c, 0x0, 1, 16, 0, 4, .ro, .host, .w, true, false, 0x0⟩
/-- THERM_STATUS.LOWT_ACT: Same order (R360). -/
def THERM_STATUS_LOWT_ACT : Fld := ⟨0x383c, 0x0, 1, 12, 0, 4, .ro, .host, .w, true, false, 0x0⟩
/-- THERM_STATUS.NO_SENSOR: Same order (R350) (R360). -/
def THERM_STATUS_NO_SENSOR : Fld := ⟨0x383c, 0x0, 1, 8, 0, 4, .ro, .host, .w, true, false, 0x0⟩
/-- THERM_STATUS.PKG_WARN: R354 (R360). -/
def THERM_STATUS_PKG_WARN : Fld := ⟨0x383c, 0x0, 1, 7, 0, 1, .ro, .host, .w, true, false, 0x0⟩
/-- THERM_STATUS.PKG_SHUT: Fault 0x7 present (R360). -/
def THERM_STATUS_PKG_SHUT : Fld := ⟨0x383c, 0x0, 1, 6, 0, 1, .ro, .host, .w, true, false, 0x0⟩
/-- THERM_STATUS.CHG_OK: R356 (R360). -/
def THERM_STATUS_CHG_OK : Fld := ⟨0x383c, 0x0, 1, 5, 0, 1, .ro, .host, .w, true, false, 0x0⟩
/-- THERM_STATUS.JRN_OK: R357 (R360). -/
def THERM_STATUS_JRN_OK : Fld := ⟨0x383c, 0x0, 1, 4, 0, 1, .ro, .host, .w, true, false, 0x0⟩
/-- THERM_STICKY.SKIP_S: A round was skipped (R360). -/
def THERM_STICKY_SKIP_S : Fld := ⟨0x3840, 0x0, 1, 4, 0, 1, .w1c, .host, .w, true, false, 0x0⟩
/-- THERM_STICKY.FAIL_S: A sensor became FAILED (R360). -/
def THERM_STICKY_FAIL_S : Fld := ⟨0x3840, 0x0, 1, 3, 0, 1, .w1c, .host, .w, true, false, 0x0⟩
/-- THERM_STICKY.LOWT_S: A low-temperature limit acted (R360). -/
def THERM_STICKY_LOWT_S : Fld := ⟨0x3840, 0x0, 1, 2, 0, 1, .w1c, .host, .w, true, false, 0x0⟩
/-- THERM_STICKY.ROR_S: A rate-of-rise limit acted (R360). -/
def THERM_STICKY_ROR_S : Fld := ⟨0x3840, 0x0, 1, 1, 0, 1, .w1c, .host, .w, true, false, 0x0⟩
/-- THERM_STICKY.PKGW_S: The package warning acted (R360). -/
def THERM_STICKY_PKGW_S : Fld := ⟨0x3840, 0x0, 1, 0, 0, 1, .w1c, .host, .w, true, false, 0x0⟩
/-- HK_V0.VAON: Channel 21, 1.25 mV (R360). -/
def HK_V0_VAON : Fld := ⟨0x3844, 0x0, 1, 16, 0, 16, .ro, .host, .w, true, false, 0x0⟩
/-- HK_V0.VDD33: Channel 22, 0.3125 mV (R360). -/
def HK_V0_VDD33 : Fld := ⟨0x3844, 0x0, 1, 0, 0, 16, .ro, .host, .w, true, false, 0x0⟩
/-- HK_V1.VCORE: Channel 23, 0.078125 mV (R360). -/
def HK_V1_VCORE : Fld := ⟨0x3848, 0x0, 1, 16, 0, 16, .ro, .host, .w, true, false, 0x0⟩
/-- HK_V1.VDDIO: Channel 29, 0.3125 mV (R360). -/
def HK_V1_VDDIO : Fld := ⟨0x3848, 0x0, 1, 0, 0, 16, .ro, .host, .w, true, false, 0x0⟩
/-- STEP_T.S1: STEP_T1 (R351, R355) (R360). -/
def STEP_T_S1 : Fld := ⟨0x3850, 0x4, 4, 0, 0, 8, .rwP23, .host, .w, true, true, 0x0⟩
/-- STEP_T.S2: STEP_T2 (R351, R355) (R360). -/
def STEP_T_S2 : Fld := ⟨0x3850, 0x4, 4, 8, 0, 8, .rwP23, .host, .w, true, true, 0x0⟩
/-- STEP_T.S3: STEP_T3 (R351, R355) (R360). -/
def STEP_T_S3 : Fld := ⟨0x3850, 0x4, 4, 16, 0, 8, .rwP23, .host, .w, true, true, 0x0⟩
/-- STEP_T.S4: STEP_T4 (R351, R355) (R360). -/
def STEP_T_S4 : Fld := ⟨0x3850, 0x4, 4, 24, 0, 8, .rwP23, .host, .w, true, true, 0x0⟩
/-- STEP_D.S1: STEP_D1 (R351, R355) (R360). -/
def STEP_D_S1 : Fld := ⟨0x3860, 0x4, 4, 0, 0, 8, .rwP23, .host, .w, true, true, 0x0⟩
/-- STEP_D.S2: STEP_D2 (R351, R355) (R360). -/
def STEP_D_S2 : Fld := ⟨0x3860, 0x4, 4, 8, 0, 8, .rwP23, .host, .w, true, true, 0x0⟩
/-- STEP_D.S3: STEP_D3 (R351, R355) (R360). -/
def STEP_D_S3 : Fld := ⟨0x3860, 0x4, 4, 16, 0, 8, .rwP23, .host, .w, true, true, 0x0⟩
/-- STEP_D.S4: STEP_D4 (R351, R355) (R360). -/
def STEP_D_S4 : Fld := ⟨0x3860, 0x4, 4, 24, 0, 8, .rwP23, .host, .w, true, true, 0x0⟩
/-- TH_LIMITS.PKG_TSHUT: °C (R355) (R360). -/
def TH_LIMITS_PKG_TSHUT : Fld := ⟨0x3870, 0x0, 1, 24, 0, 8, .rwP23, .host, .w, true, true, 0x0⟩
/-- TH_LIMITS.PKG_TWARN: °C (R355) (R360). -/
def TH_LIMITS_PKG_TWARN : Fld := ⟨0x3870, 0x0, 1, 16, 0, 8, .rwP23, .host, .w, true, true, 0x0⟩
/-- TH_LIMITS.CHG_TMAX: °C (R360). -/
def TH_LIMITS_CHG_TMAX : Fld := ⟨0x3870, 0x0, 1, 8, 0, 8, .ro, .host, .w, true, true, 0x0⟩
/-- TH_LIMITS.CHG_TMIN: °C (R360). -/
def TH_LIMITS_CHG_TMIN : Fld := ⟨0x3870, 0x0, 1, 0, 0, 8, .ro, .host, .w, true, true, 0x0⟩
/-- PK_CFG.DESIGN_CAP: mAh (R392). -/
def PK_CFG_DESIGN_CAP : Fld := ⟨0x4000, 0x0, 1, 16, 0, 16, .ro, .host, .w, false, true, 0x0⟩
/-- PK_CFG.CHEM: 0 LFP, 1 NMC (R392). -/
def PK_CFG_CHEM : Fld := ⟨0x4000, 0x0, 1, 5, 0, 1, .ro, .host, .w, false, true, 0x0⟩
/-- PK_CFG.CELLS: 3 or 4 (R392). -/
def PK_CFG_CELLS : Fld := ⟨0x4000, 0x0, 1, 2, 0, 3, .ro, .host, .w, false, true, 0x0⟩
/-- PK_CFG.PACK_DECL: PACK section present (R392). -/
def PK_CFG_PACK_DECL : Fld := ⟨0x4000, 0x0, 1, 1, 0, 1, .ro, .host, .w, false, true, 0x0⟩
/-- PK_VOLT.BAT_V: Last capture, 1.25 mV (R392). -/
def PK_VOLT_BAT_V : Fld := ⟨0x4004, 0x0, 1, 16, 0, 16, .ro, .host, .w, false, false, 0x0⟩
/-- PK_VOLT.V_COMP: R374, 1.25 mV (R392). -/
def PK_VOLT_V_COMP : Fld := ⟨0x4004, 0x0, 1, 0, 0, 16, .ro, .host, .w, false, false, 0x0⟩
/-- PK_CUR.BAT_I: Signed, mA (R362) (R392). -/
def PK_CUR_BAT_I : Fld := ⟨0x4008, 0x0, 1, 12, 0, 20, .ro, .shaped, .w, false, false, 0x0⟩
/-- PK_SOC.RSOC: Reported, 0.01 % (R379) (R392). -/
def PK_SOC_RSOC : Fld := ⟨0x400c, 0x0, 1, 16, 0, 14, .ro, .opn, .w, false, false, 0x0⟩
/-- PK_SOC.ASOC: 0.01 % (R377) (R392). -/
def PK_SOC_ASOC : Fld := ⟨0x400c, 0x0, 1, 0, 0, 14, .ro, .opn, .w, false, false, 0x0⟩
/-- PK_QREM.QREM: mA·s (R392). -/
def PK_QREM_QREM : Fld := ⟨0x4010, 0x0, 1, 0, 0, 32, .ro, .host, .w, false, false, 0x0⟩
/-- PK_CAP.FCC: Learned capacity, mAh (R392). -/
def PK_CAP_FCC : Fld := ⟨0x4014, 0x0, 1, 16, 0, 16, .ro, .host, .w, false, false, 0x0⟩
/-- PK_CAP.CYC_CNT: R385 (R392). -/
def PK_CAP_CYC_CNT : Fld := ⟨0x4014, 0x0, 1, 0, 0, 16, .ro, .host, .w, false, false, 0x0⟩
/-- PK_LIFE.SOH: 0.1 % (R392). -/
def PK_LIFE_SOH : Fld := ⟨0x4018, 0x0, 1, 22, 0, 10, .ro, .host, .w, false, false, 0x0⟩
/-- PK_LIFE.RFACT: Unsigned Q2.14 (R384) (R392). -/
def PK_LIFE_RFACT : Fld := ⟨0x4018, 0x0, 1, 0, 0, 16, .ro, .host, .w, false, false, 0x0⟩
/-- PK_STATE.CHG_ST: Table 13.2 (R392). -/
def PK_STATE_CHG_ST : Fld := ⟨0x401c, 0x0, 1, 29, 0, 3, .ro, .host, .w, false, false, 0x0⟩
/-- PK_STATE.EOD_CAUSE: Table 13.4; 0 none (R392). -/
def PK_STATE_EOD_CAUSE : Fld := ⟨0x401c, 0x0, 1, 26, 0, 3, .ro, .host, .w, false, false, 0x0⟩
/-- PK_STATE.DISQ: Last cause, Table 13.5 (R392). -/
def PK_STATE_DISQ : Fld := ⟨0x401c, 0x0, 1, 22, 0, 4, .ro, .host, .w, false, false, 0x0⟩
/-- PK_STATE.CHG_FLT: 0 none; 1 TIMER; 2 PRE; 3 OVP (R392). -/
def PK_STATE_CHG_FLT : Fld := ⟨0x401c, 0x0, 1, 20, 0, 2, .ro, .host, .w, false, false, 0x0⟩
/-- PK_STATE.HU_ARM: R369 (R392). -/
def PK_STATE_HU_ARM : Fld := ⟨0x401c, 0x0, 1, 19, 0, 1, .ro, .host, .w, false, false, 0x0⟩
/-- PK_STATE.HU_ON: HU_GATE on (R392). -/
def PK_STATE_HU_ON : Fld := ⟨0x401c, 0x0, 1, 18, 0, 1, .ro, .host, .w, false, false, 0x0⟩
/-- PK_STATE.PRESENT: R363 (R392). -/
def PK_STATE_PRESENT : Fld := ⟨0x401c, 0x0, 1, 17, 0, 1, .ro, .host, .w, false, false, 0x0⟩
/-- PK_STATE.FULL: R383 (R392). -/
def PK_STATE_FULL : Fld := ⟨0x401c, 0x0, 1, 16, 0, 1, .ro, .host, .w, false, false, 0x0⟩
/-- PK_STATE.COARSE: R382 (R392). -/
def PK_STATE_COARSE : Fld := ⟨0x401c, 0x0, 1, 15, 0, 1, .ro, .host, .w, false, false, 0x0⟩
/-- PK_STATE.EOL: R385 (R392). -/
def PK_STATE_EOL : Fld := ⟨0x401c, 0x0, 1, 14, 0, 1, .ro, .host, .w, false, false, 0x0⟩
/-- PK_STATE.PACK_DEAD: R367 (R392). -/
def PK_STATE_PACK_DEAD : Fld := ⟨0x401c, 0x0, 1, 13, 0, 1, .ro, .host, .w, false, false, 0x0⟩
/-- PK_STATE.LRN_OPEN: A learning cycle is open (R392). -/
def PK_STATE_LRN_OPEN : Fld := ⟨0x401c, 0x0, 1, 12, 0, 1, .ro, .host, .w, false, false, 0x0⟩
/-- PK_STATE.TEST_ACT: Pack test running (R392). -/
def PK_STATE_TEST_ACT : Fld := ⟨0x401c, 0x0, 1, 11, 0, 1, .ro, .host, .w, false, false, 0x0⟩
/-- PK_STATE.CHG_IN: R365 (R392). -/
def PK_STATE_CHG_IN : Fld := ⟨0x401c, 0x0, 1, 10, 0, 1, .ro, .host, .w, false, false, 0x0⟩
/-- PK_CTRL.CHG_EN: Charging permitted; loaded as 1 at the end of PARSE (R392). -/
def PK_CTRL_CHG_EN : Fld := ⟨0x4020, 0x0, 1, 31, 0, 1, .rwP23, .host, .w, false, true, 0x0⟩
/-- PK_CTRL.LRN_VETO: R388 (R392). -/
def PK_CTRL_LRN_VETO : Fld := ⟨0x4020, 0x0, 1, 30, 0, 1, .rwP23, .host, .w, false, false, 0x0⟩
/-- PK_CTRL.PK_TEST: 1 requests a pack test (R392). -/
def PK_CTRL_PK_TEST : Fld := ⟨0x4020, 0x0, 1, 29, 0, 1, .woP23, .host, .w, false, false, 0x0⟩
/-- PK_CTRL.PK_CLR: 1 clears a charger fault (R392). -/
def PK_CTRL_PK_CLR : Fld := ⟨0x4020, 0x0, 1, 28, 0, 1, .woP23, .host, .w, false, false, 0x0⟩
/-- PK_CTRL.ICHG_FW: mA; 0 unset (R392). -/
def PK_CTRL_ICHG_FW : Fld := ⟨0x4020, 0x0, 1, 0, 0, 16, .rwP23, .host, .w, false, false, 0x0⟩
/-- PK_CC.CC_EPOCH: R377 (R392). -/
def PK_CC_CC_EPOCH : Fld := ⟨0x4024, 0x0, 1, 16, 0, 16, .ro, .host, .a, true, false, 0x0⟩
/-- PK_CC.DORM_MIN: Minutes of the last DORMANT stay (R392). -/
def PK_CC_DORM_MIN : Fld := ⟨0x4024, 0x0, 1, 0, 0, 16, .ro, .host, .a, true, false, 0x0⟩
/-- PK_CC_ACC.CC_ACC: Signed counter sum, 2.5 µV·s (R392). -/
def PK_CC_ACC_CC_ACC : Fld := ⟨0x4028, 0x0, 1, 0, 0, 32, .ro, .host, .d, true, false, 0x0⟩
/-- PK_STICKY.EOL_S: EOL set (R392). -/
def PK_STICKY_EOL_S : Fld := ⟨0x402c, 0x0, 1, 8, 0, 1, .w1c, .host, .w, false, false, 0x0⟩
/-- PK_STICKY.LRN_DQ_S: A cycle was disqualified (R392). -/
def PK_STICKY_LRN_DQ_S : Fld := ⟨0x402c, 0x0, 1, 7, 0, 1, .w1c, .host, .w, false, false, 0x0⟩
/-- PK_STICKY.LRN_OK_S: A cycle was accepted (R392). -/
def PK_STICKY_LRN_OK_S : Fld := ⟨0x402c, 0x0, 1, 6, 0, 1, .w1c, .host, .w, false, false, 0x0⟩
/-- PK_STICKY.OCV_S: An OCV point was applied (R392). -/
def PK_STICKY_OCV_S : Fld := ⟨0x402c, 0x0, 1, 5, 0, 1, .w1c, .host, .w, false, false, 0x0⟩
/-- PK_STICKY.PROBE_FAIL_S: R373 (R392). -/
def PK_STICKY_PROBE_FAIL_S : Fld := ⟨0x402c, 0x0, 1, 4, 0, 1, .w1c, .host, .w, false, false, 0x0⟩
/-- PK_STICKY.CHG_FLT_S: A charger fault occurred (R392). -/
def PK_STICKY_CHG_FLT_S : Fld := ⟨0x402c, 0x0, 1, 3, 0, 1, .w1c, .host, .w, false, false, 0x0⟩
/-- PK_STICKY.EOD_S: End of discharge (R392). -/
def PK_STICKY_EOD_S : Fld := ⟨0x402c, 0x0, 1, 2, 0, 1, .w1c, .host, .w, false, false, 0x0⟩
/-- PK_STICKY.RESTORE_S: Input restored (R392). -/
def PK_STICKY_RESTORE_S : Fld := ⟨0x402c, 0x0, 1, 1, 0, 1, .w1c, .host, .w, false, false, 0x0⟩
/-- PK_STICKY.HU_S: HOLDUP entered (R392). -/
def PK_STICKY_HU_S : Fld := ⟨0x402c, 0x0, 1, 0, 0, 1, .w1c, .host, .w, false, false, 0x0⟩
/-- HU_CFG.BUS_GOOD_R: 50 mV (R392). -/
def HU_CFG_BUS_GOOD_R : Fld := ⟨0x4030, 0x0, 1, 23, 0, 9, .ro, .host, .w, true, true, 0x0⟩
/-- HU_CFG.BUS_GOOD_F: 50 mV (R392). -/
def HU_CFG_BUS_GOOD_F : Fld := ⟨0x4030, 0x0, 1, 14, 0, 9, .ro, .host, .w, true, true, 0x0⟩
/-- HU_CFG.HU_FILT: 100 ns (R392). -/
def HU_CFG_HU_FILT : Fld := ⟨0x4030, 0x0, 1, 9, 0, 5, .ro, .host, .w, true, true, 0x0⟩
/-- HU_CFG.HU_D: 64–128; a write above the image value is refused (R34) (R392). -/
def HU_CFG_HU_D : Fld := ⟨0x4030, 0x0, 1, 0, 0, 8, .rwP23, .host, .w, true, true, 0x0⟩
/-- SEC_STATUS.LIFECYCLE: 0 MANUFACTURED; 1 UNOWNED; 2 OWNED; 3 DECOMMISSIONED (R426). -/
def SEC_STATUS_LIFECYCLE : Fld := ⟨0x200, 0x0, 1, 30, 0, 2, .ro, .opn, .o, false, false, 0x0⟩
/-- SEC_STATUS.OWN_GEN: Ownership generation, 0–7 (R426). -/
def SEC_STATUS_OWN_GEN : Fld := ⟨0x200, 0x0, 1, 27, 0, 3, .ro, .opn, .o, false, false, 0x0⟩
/-- SEC_STATUS.SESS_ST: 0 none; 1 handshake; 2 open (R426). -/
def SEC_STATUS_SESS_ST : Fld := ⟨0x200, 0x0, 1, 25, 0, 2, .ro, .opn, .o, false, false, 0x0⟩
/-- SEC_STATUS.SESS_BUS: 0 SPI; 1 PMBus (R426). -/
def SEC_STATUS_SESS_BUS : Fld := ⟨0x200, 0x0, 1, 24, 0, 1, .ro, .opn, .o, false, false, 0x0⟩
/-- SEC_STATUS.RAW_REQ: The open session holds RAWT (R426). -/
def SEC_STATUS_RAW_REQ : Fld := ⟨0x200, 0x0, 1, 23, 0, 1, .ro, .opn, .o, false, false, 0x0⟩
/-- SEC_STATUS.TAP_OPEN: Test port unlocked (R426). -/
def SEC_STATUS_TAP_OPEN : Fld := ⟨0x200, 0x0, 1, 22, 0, 1, .ro, .opn, .o, false, false, 0x0⟩
/-- SEC_STATUS.TAP_DIS: Unlock permanently refused (R426). -/
def SEC_STATUS_TAP_DIS : Fld := ⟨0x200, 0x0, 1, 21, 0, 1, .ro, .opn, .o, false, false, 0x0⟩
/-- SEC_STATUS.LOCKED_OUT: R420 hold-off running (R426). -/
def SEC_STATUS_LOCKED_OUT : Fld := ⟨0x200, 0x0, 1, 20, 0, 1, .ro, .opn, .o, false, false, 0x0⟩
/-- SEC_STATUS.SESS_ID: SID of the session in handshake or open; 0 when none (R426). -/
def SEC_STATUS_SESS_ID : Fld := ⟨0x200, 0x0, 1, 0, 0, 16, .ro, .opn, .o, false, false, 0x0⟩
/-- KEY_STATE.SLOT_ST: Two bits per slot, slot 0 in bits 1:0: 00 empty; 01 usable; 10 written for the next generation; 11 retired ... (R426). -/
def KEY_STATE_SLOT_ST : Fld := ⟨0x204, 0x0, 1, 0, 0, 24, .ro, .host, .o, false, false, 0x0⟩
/-- IEK_STATE.IEK_ST: Two bits per IEK, IEK0 in bits 1:0, coded as SLOT_ST (R426). -/
def IEK_STATE_IEK_ST : Fld := ⟨0x208, 0x0, 1, 0, 0, 16, .ro, .host, .o, false, false, 0x0⟩
/-- SLOT_TYPE.TYPE: Two bits per slot: 00 none or root; 01 IMAGE; 10 SERVICE; 11 both (R426). -/
def SLOT_TYPE_TYPE : Fld := ⟨0x20c, 0x0, 1, 0, 0, 24, .ro, .host, .o, false, false, 0x0⟩
/-- SESS_CTRL.GO: 1 submits the message in the mailbox (R426). -/
def SESS_CTRL_GO : Fld := ⟨0x210, 0x0, 1, 31, 0, 1, .woP23, .host, .w, false, false, 0x0⟩
/-- SESS_CTRL.ABORT: 1 ends a handshake, or the session, as CLOSE does (R426). -/
def SESS_CTRL_ABORT : Fld := ⟨0x210, 0x0, 1, 30, 0, 1, .woP23, .host, .w, false, false, 0x0⟩
/-- SESS_CTRL.LEN: Length of the message to submit, bytes, 1–536 (R426). -/
def SESS_CTRL_LEN : Fld := ⟨0x210, 0x0, 1, 0, 0, 12, .rwP23, .host, .w, false, false, 0x0⟩
/-- SESS_STAT.LAST_RES: Last RES or STAT returned (R426). -/
def SESS_STAT_LAST_RES : Fld := ⟨0x214, 0x0, 1, 24, 0, 8, .ro, .host, .w, false, false, 0x0⟩
/-- SESS_STAT.RX_LEN: Length of the answer in the mailbox, bytes (R426). -/
def SESS_STAT_RX_LEN : Fld := ⟨0x214, 0x0, 1, 12, 0, 12, .ro, .host, .w, false, false, 0x0⟩
/-- SESS_STAT.RX_READY: An answer waits (R426). -/
def SESS_STAT_RX_READY : Fld := ⟨0x214, 0x0, 1, 11, 0, 1, .ro, .host, .w, false, false, 0x0⟩
/-- SESS_STAT.BUSY: A message is in flight (R426). -/
def SESS_STAT_BUSY : Fld := ⟨0x214, 0x0, 1, 10, 0, 1, .ro, .host, .w, false, false, 0x0⟩
/-- SESS_STAT.IDLE_LEFT: Seconds before the idle limit, saturating (R426). -/
def SESS_STAT_IDLE_LEFT : Fld := ⟨0x214, 0x0, 1, 0, 0, 8, .ro, .host, .w, false, false, 0x0⟩
/-- SESS_MBOX.WORD: A write pushes the next word of a host message; a read pops the next word of the answer (R426). -/
def SESS_MBOX_WORD : Fld := ⟨0x218, 0x0, 1, 0, 0, 32, .rwP23, .host, .w, false, false, 0x0⟩
/-- SESS_RIGHTS.LIFE_LEFT: Minutes of session lifetime left (R426). -/
def SESS_RIGHTS_LIFE_LEFT : Fld := ⟨0x21c, 0x0, 1, 16, 0, 16, .ro, .host, .w, false, false, 0x0⟩
/-- SESS_RIGHTS.GRANTED: Rights held, Table 14.6 (R426). -/
def SESS_RIGHTS_GRANTED : Fld := ⟨0x21c, 0x0, 1, 0, 0, 8, .ro, .host, .w, false, false, 0x0⟩
/-- LOAD_CONSENT.CONS_ID: Must equal SESS_ID (R404) (R426). -/
def LOAD_CONSENT_CONS_ID : Fld := ⟨0x220, 0x0, 1, 16, 0, 16, .rwP1, .host, .w, false, false, 0x0⟩
/-- LOAD_CONSENT.CONS_RAIL: Bit *r* = consent for RAIL*r*; 0 withdraws (R426). -/
def LOAD_CONSENT_CONS_RAIL : Fld := ⟨0x220, 0x0, 1, 8, 0, 8, .rwP1, .host, .w, false, false, 0x0⟩
/-- LOAD_CONSENT.CONS_MIN: Minutes, 1–255 (R426). -/
def LOAD_CONSENT_CONS_MIN : Fld := ⟨0x220, 0x0, 1, 0, 0, 8, .rwP1, .host, .w, false, false, 0x0⟩
/-- CONSENT_STAT.CONS_IN: Bit *r* = consent in force for RAIL*r* (R426). -/
def CONSENT_STAT_CONS_IN : Fld := ⟨0x224, 0x0, 1, 24, 0, 8, .ro, .opn, .w, false, false, 0x0⟩
/-- CONSENT_STAT.CONS_LEFT: Minutes before the earliest consent ends (R426). -/
def CONSENT_STAT_CONS_LEFT : Fld := ⟨0x224, 0x0, 1, 16, 0, 8, .ro, .opn, .w, false, false, 0x0⟩
/-- CONSENT_STAT.PACK_RAW: Raw BAT_I readable under R404 (R426). -/
def CONSENT_STAT_PACK_RAW : Fld := ⟨0x224, 0x0, 1, 0, 0, 1, .ro, .opn, .w, false, false, 0x0⟩
/-- TLM_SHAPE.P1_DENY: Table 14.3 (R426). -/
def TLM_SHAPE_P1_DENY : Fld := ⟨0x228, 0x0, 1, 16, 0, 2, .ro, .opn, .w, false, true, 0x0⟩
/-- TLM_SHAPE.W_ADD: Table 14.3 (R426). -/
def TLM_SHAPE_W_ADD : Fld := ⟨0x228, 0x0, 1, 8, 0, 8, .ro, .opn, .w, false, true, 0x0⟩
/-- TLM_SHAPE.Q_ADD: Bits 3:0 of the Q_ADD byte in 4:1; 7:5 reserved (R426). -/
def TLM_SHAPE_Q_ADD : Fld := ⟨0x228, 0x0, 1, 1, 0, 7, .ro, .opn, .w, false, true, 0x0⟩
/-- TLM_SHAPE.CONS_ALLOW: Table 14.3 (R426). -/
def TLM_SHAPE_CONS_ALLOW : Fld := ⟨0x228, 0x0, 1, 0, 0, 1, .ro, .opn, .w, false, true, 0x0⟩
/-- AUTH_FAIL.FAIL_N: Counted failures (R420) (R426). -/
def AUTH_FAIL_FAIL_N : Fld := ⟨0x22c, 0x0, 1, 24, 0, 8, .ro, .host, .a, false, false, 0x0⟩
/-- AUTH_FAIL.LOCK_LEFT: Seconds of hold-off left, 0–1,280 (R426). -/
def AUTH_FAIL_LOCK_LEFT : Fld := ⟨0x22c, 0x0, 1, 0, 0, 11, .ro, .host, .a, false, false, 0x0⟩
/-- SEC_STICKY.TAP_S: The test port was unlocked (R426). -/
def SEC_STICKY_TAP_S : Fld := ⟨0x230, 0x0, 1, 5, 0, 1, .w1c, .host, .w, false, false, 0x0⟩
/-- SEC_STICKY.KEYOP_S: A key operation was carried out (R426). -/
def SEC_STICKY_KEYOP_S : Fld := ⟨0x230, 0x0, 1, 4, 0, 1, .w1c, .host, .w, false, false, 0x0⟩
/-- SEC_STICKY.CONS_S: Consent was granted or withdrawn (R426). -/
def SEC_STICKY_CONS_S : Fld := ⟨0x230, 0x0, 1, 3, 0, 1, .w1c, .host, .w, false, false, 0x0⟩
/-- SEC_STICKY.TAG_FAIL_S: A session ended on a tag or CSEQ failure (R426). -/
def SEC_STICKY_TAG_FAIL_S : Fld := ⟨0x230, 0x0, 1, 2, 0, 1, .w1c, .host, .w, false, false, 0x0⟩
/-- SEC_STICKY.SESS_FAIL_S: A session attempt was refused (R426). -/
def SEC_STICKY_SESS_FAIL_S : Fld := ⟨0x230, 0x0, 1, 1, 0, 1, .w1c, .host, .w, false, false, 0x0⟩
/-- SEC_STICKY.ACC_DENY_S: An access was refused by the matrix (R426). -/
def SEC_STICKY_ACC_DENY_S : Fld := ⟨0x230, 0x0, 1, 0, 0, 1, .w1c, .host, .w, false, false, 0x0⟩
/-- DEV_ID.HASH: SHA-256 of the identity public key; DEV_ID0 holds bytes 0–3, most significant byte first (R426). -/
def DEV_ID_HASH : Fld := ⟨0x260, 0x4, 8, 0, 0, 32, .ro, .opn, .o, false, false, 0x0⟩
/-- TLM_PH.WIN_CNT: Windows completed for the reader's class, modulo 256 (R426). -/
def TLM_PH_WIN_CNT : Fld := ⟨0x280, 0x4, 32, 24, 0, 8, .ro, .shaped, .w, true, false, 0x0⟩
/-- TLM_PH.I_SH: Shaped phase current, signed, 0.125 A (R426). -/
def TLM_PH_I_SH : Fld := ⟨0x280, 0x4, 32, 0, 0, 12, .ro, .shaped, .w, true, false, 0x0⟩
/-- TLM_RV.WIN_CNT: As TLM_PH (R426). -/
def TLM_RV_WIN_CNT : Fld := ⟨0x10d0, 0x100, 8, 24, 0, 8, .ro, .shaped, .w, true, false, 0x0⟩
/-- TLM_RV.V_SH: Shaped sense voltage, 0.125 mV (R426). -/
def TLM_RV_V_SH : Fld := ⟨0x10d0, 0x100, 8, 0, 0, 15, .ro, .shaped, .w, true, false, 0x0⟩
/-- TLM_RI.WIN_CNT: As TLM_PH (R426). -/
def TLM_RI_WIN_CNT : Fld := ⟨0x10d4, 0x100, 8, 24, 0, 8, .ro, .shaped, .w, true, false, 0x0⟩
/-- TLM_RI.I_SH: Shaped rail current, signed, 0.125 A (R426). -/
def TLM_RI_I_SH : Fld := ⟨0x10d4, 0x100, 8, 0, 0, 18, .ro, .shaped, .w, true, false, 0x0⟩
/-- REC_STATUS.N_REC: Records held, 0–4,096 (R451). -/
def REC_STATUS_N_REC : Fld := ⟨0x6000, 0x0, 1, 19, 0, 13, .ro, .host, .w, false, false, 0x0⟩
/-- REC_STATUS.N_STICKY: Sticky records held, 0–512 (R451). -/
def REC_STATUS_N_STICKY : Fld := ⟨0x6000, 0x0, 1, 9, 0, 10, .ro, .host, .w, false, false, 0x0⟩
/-- REC_STATUS.REC_MISS: A selected SEQ was not held (R451). -/
def REC_STATUS_REC_MISS : Fld := ⟨0x6000, 0x0, 1, 4, 0, 1, .w1c, .host, .d, false, false, 0x0⟩
/-- REC_STATUS.STICKY_LOST: R431 (R451). -/
def REC_STATUS_STICKY_LOST : Fld := ⟨0x6000, 0x0, 1, 3, 0, 1, .w1c, .host, .d, false, false, 0x0⟩
/-- REC_STATUS.OVERWRITE_S: R431 (R451). -/
def REC_STATUS_OVERWRITE_S : Fld := ⟨0x6000, 0x0, 1, 2, 0, 1, .w1c, .host, .d, false, false, 0x0⟩
/-- REC_STATUS.INTAKE_S: R430 displaced or lost a record (R451). -/
def REC_STATUS_INTAKE_S : Fld := ⟨0x6000, 0x0, 1, 1, 0, 1, .w1c, .host, .d, false, false, 0x0⟩
/-- REC_NEWEST.SEQ: SEQ of the newest record (R451). -/
def REC_NEWEST_SEQ : Fld := ⟨0x6004, 0x0, 1, 0, 0, 32, .ro, .host, .d, false, false, 0x0⟩
/-- REC_SEL.SEL: SEQ to read, or HSEQ when HIST = 1 (R451). -/
def REC_SEL_SEL : Fld := ⟨0x6008, 0x0, 1, 0, 0, 32, .rwP23, .host, .w, false, false, 0x0⟩
/-- REC_CTRL.INTAKE_DROP: Intake displacements, saturating (R451). -/
def REC_CTRL_INTAKE_DROP : Fld := ⟨0x600c, 0x0, 1, 16, 0, 16, .ro, .host, .w, false, false, 0x0⟩
/-- REC_CTRL.HIST: 1 selects the journal history (R441) (R451). -/
def REC_CTRL_HIST : Fld := ⟨0x600c, 0x0, 1, 1, 0, 1, .rwP3, .host, .w, false, false, 0x0⟩
/-- REC_CTRL.AUTO: 1 advances SEL after a read of REC_DATA7 (R451). -/
def REC_CTRL_AUTO : Fld := ⟨0x600c, 0x0, 1, 0, 0, 1, .rwP23, .host, .w, false, false, 0x0⟩
/-- REC_DATA.DATA: Record bytes 4*k* to 4*k* + 3 of the selected record, byte 4*k* in bits 7:0 (R451). -/
def REC_DATA_DATA : Fld := ⟨0x6010, 0x4, 8, 0, 0, 32, .ro, .host, .w, false, false, 0x0⟩
/-- REC_CLR.CLR_STICKY: 1 removes every record (R435) (R451). -/
def REC_CLR_CLR_STICKY : Fld := ⟨0x6030, 0x0, 1, 1, 0, 1, .woP3, .host, .w, false, false, 0x0⟩
/-- REC_CLR.CLR: 1 removes non-sticky records (R451). -/
def REC_CLR_CLR : Fld := ⟨0x6030, 0x0, 1, 0, 0, 1, .woP23, .host, .w, false, false, 0x0⟩
/-- JRN_STATUS.BUSY: A commit is in progress (R451). -/
def JRN_STATUS_BUSY : Fld := ⟨0x6040, 0x0, 1, 31, 0, 1, .ro, .host, .w, false, false, 0x0⟩
/-- JRN_STATUS.DEFER: The head of the queue is deferred (R451). -/
def JRN_STATUS_DEFER : Fld := ⟨0x6040, 0x0, 1, 30, 0, 1, .ro, .host, .w, false, false, 0x0⟩
/-- JRN_STATUS.PEND: Pending: bit 24 PACK, 25 HEALTH, 26 CAL, 27 SYS, 28 FW, 29 history (R451). -/
def JRN_STATUS_PEND : Fld := ⟨0x6040, 0x0, 1, 24, 0, 6, .ro, .host, .w, false, false, 0x0⟩
/-- JRN_STATUS.HIST_Q: History entries pending, 0–64 (R451). -/
def JRN_STATUS_HIST_Q : Fld := ⟨0x6040, 0x0, 1, 16, 0, 8, .ro, .host, .w, false, false, 0x0⟩
/-- JRN_STATUS.DEFER_CAUSE: 0 none; 1 charge; 2 temperature; 3 lease; 4 read-back failure (R451). -/
def JRN_STATUS_DEFER_CAUSE : Fld := ⟨0x6040, 0x0, 1, 13, 0, 3, .ro, .host, .w, false, false, 0x0⟩
/-- JRN_STATUS.HIST_DROP: Sticky records not journaled, saturating (R451). -/
def JRN_STATUS_HIST_DROP : Fld := ⟨0x6040, 0x0, 1, 0, 0, 13, .ro, .host, .w, false, false, 0x0⟩
/-- JRN_STICKY.LOST_S: A deferred commit was lost (R445) (R451). -/
def JRN_STICKY_LOST_S : Fld := ⟨0x6044, 0x0, 1, 4, 0, 1, .w1c, .host, .a, false, false, 0x0⟩
/-- JRN_STICKY.CAP_LOW_S: R444 (R451). -/
def JRN_STICKY_CAP_LOW_S : Fld := ⟨0x6044, 0x0, 1, 3, 0, 1, .w1c, .host, .w, false, false, 0x0⟩
/-- JRN_STICKY.SLOT_BAD_S: A slot failed its checks at start-up (R451). -/
def JRN_STICKY_SLOT_BAD_S : Fld := ⟨0x6044, 0x0, 1, 2, 0, 1, .w1c, .host, .w, false, false, 0x0⟩
/-- JRN_STICKY.HDROP_S: A sticky record was not journaled (R451). -/
def JRN_STICKY_HDROP_S : Fld := ⟨0x6044, 0x0, 1, 1, 0, 1, .w1c, .host, .w, false, false, 0x0⟩
/-- JRN_STICKY.DEFER_S: A commit was deferred (R451). -/
def JRN_STICKY_DEFER_S : Fld := ⟨0x6044, 0x0, 1, 0, 0, 1, .w1c, .host, .w, false, false, 0x0⟩
/-- JRN_CAP.C_MEAS: Measured capacitance, µF (R451). -/
def JRN_CAP_C_MEAS : Fld := ⟨0x6048, 0x0, 1, 16, 0, 16, .ro, .host, .w, false, false, 0x0⟩
/-- JRN_CAP.C_EFF: Capacitance used by R443, µF (R451). -/
def JRN_CAP_C_EFF : Fld := ⟨0x6048, 0x0, 1, 0, 0, 16, .ro, .host, .w, false, false, 0x0⟩
/-- JRN_LOAD.HIST_N: Valid history entries found, 0–5,120 (R451). -/
def JRN_LOAD_HIST_N : Fld := ⟨0x604c, 0x0, 1, 19, 0, 13, .ro, .host, .w, false, false, 0x0⟩
/-- JRN_LOAD.SLOT_USED: Two bits per type, PACK in bits 1:0 through FW in bits 9:8: 00 defaults, 01 slot A, 10 slot B (R451). -/
def JRN_LOAD_SLOT_USED : Fld := ⟨0x604c, 0x0, 1, 0, 0, 10, .ro, .host, .w, false, false, 0x0⟩
/-- JRN_VAON.V_S: Last journal VAON sample, 10 mV (R451). -/
def JRN_VAON_V_S : Fld := ⟨0x6050, 0x0, 1, 0, 0, 11, .ro, .host, .w, false, false, 0x0⟩
/-- SPI_STATUS.SPI_XCNT: Executed transactions, wrapping (R485). -/
def SPI_STATUS_SPI_XCNT : Fld := ⟨0x7100, 0x0, 1, 16, 0, 16, .ro, .host, .w, false, false, 0x0⟩
/-- SPI_STATUS.CRC_ERR: Transactions refused with CRC (R485). -/
def SPI_STATUS_CRC_ERR : Fld := ⟨0x7100, 0x0, 1, 8, 0, 8, .ro, .host, .w, false, false, 0x0⟩
/-- SPI_STATUS.FMT_ERR: Transactions refused with FORMAT (R485). -/
def SPI_STATUS_FMT_ERR : Fld := ⟨0x7100, 0x0, 1, 0, 0, 8, .ro, .host, .w, false, false, 0x0⟩
/-- PMB_STATUS.STATUS_CML: Table 16.4 (R485). -/
def PMB_STATUS_STATUS_CML : Fld := ⟨0x7104, 0x0, 1, 24, 0, 8, .ro, .host, .w, false, false, 0x0⟩
/-- PMB_STATUS.PAGE: Present PAGE (R485). -/
def PMB_STATUS_PAGE : Fld := ⟨0x7104, 0x0, 1, 16, 0, 8, .ro, .host, .w, false, false, 0x0⟩
/-- PMB_STATUS.PEC_ERR: Writes discarded under R457, saturating (R485). -/
def PMB_STATUS_PEC_ERR : Fld := ⟨0x7104, 0x0, 1, 8, 0, 8, .ro, .host, .w, false, false, 0x0⟩
/-- PMB_STATUS.ALERT: Condition of R463 (R485). -/
def PMB_STATUS_ALERT : Fld := ⟨0x7104, 0x0, 1, 0, 0, 1, .ro, .host, .w, false, false, 0x0⟩
/-- PMB_CLR.CLR: 1 acts as CLEAR_FAULTS on every page (R462) (R485). -/
def PMB_CLR_CLR : Fld := ⟨0x7108, 0x0, 1, 0, 0, 1, .woP23, .host, .w, false, false, 0x0⟩
/-- PMB_RSTAT.STATUS_WORD: Table 16.4 (R485). -/
def PMB_RSTAT_STATUS_WORD : Fld := ⟨0x10e0, 0x100, 8, 16, 0, 16, .ro, .host, .w, false, false, 0x0⟩
/-- PMB_RSTAT.STATUS_VOUT: Table 16.4 (R485). -/
def PMB_RSTAT_STATUS_VOUT : Fld := ⟨0x10e0, 0x100, 8, 8, 0, 8, .ro, .host, .w, false, false, 0x0⟩
/-- PMB_RSTAT.STATUS_IOUT: Table 16.4 (R485). -/
def PMB_RSTAT_STATUS_IOUT : Fld := ⟨0x10e0, 0x100, 8, 0, 0, 8, .ro, .host, .w, false, false, 0x0⟩
/-- PMB_RSTAT2.STATUS_MFR: Table 16.4 (R485). -/
def PMB_RSTAT2_STATUS_MFR : Fld := ⟨0x10e4, 0x100, 8, 24, 0, 8, .ro, .host, .w, false, false, 0x0⟩
/-- PMB_RSTAT2.STATUS_TEMP: Table 16.4 (R485). -/
def PMB_RSTAT2_STATUS_TEMP : Fld := ⟨0x10e4, 0x100, 8, 16, 0, 8, .ro, .host, .w, false, false, 0x0⟩
/-- PMB_RSTAT2.STATUS_INPUT: Table 16.4 (R485). -/
def PMB_RSTAT2_STATUS_INPUT : Fld := ⟨0x10e4, 0x100, 8, 8, 0, 8, .ro, .host, .w, false, false, 0x0⟩
/-- FW_PUB.VALUE: The value published at the last window end (R467) (R485). -/
def FW_PUB_VALUE : Fld := ⟨0x7140, 0x4, 16, 0, 0, 32, .ro, .host, .w, false, false, 0x0⟩
/-- FW_PUB_STAGE.VALUE: Written by firmware only; reads 0 to a host (R485). -/
def FW_PUB_STAGE_VALUE : Fld := ⟨0x7180, 0x4, 16, 0, 0, 32, .fw, .host, .w, false, false, 0x0⟩
/-- CJ_CFG.CJ_EN: CFG2 b0 (R485). -/
def CJ_CFG_CJ_EN : Fld := ⟨0x7200, 0x0, 1, 31, 0, 1, .ro, .host, .w, false, true, 0x0⟩
/-- CJ_CFG.CTL_NUM: CFG2 b2 b1 (R485). -/
def CJ_CFG_CTL_NUM : Fld := ⟨0x7200, 0x0, 1, 29, 0, 2, .ro, .host, .w, false, true, 0x0⟩
/-- CJ_CFG.LEADER: CTL_NUM = 0 with CJ_EN = 1 (R485). -/
def CJ_CFG_LEADER : Fld := ⟨0x7200, 0x0, 1, 28, 0, 1, .ro, .host, .w, false, true, 0x0⟩
/-- CJ_CFG.MEMBERS: Table 16.7 (R485). -/
def CJ_CFG_MEMBERS : Fld := ⟨0x7200, 0x0, 1, 24, 0, 4, .ro, .host, .w, false, true, 0x0⟩
/-- CJ_CFG.SYSTEM_ID: Table 16.7 (R485). -/
def CJ_CFG_SYSTEM_ID : Fld := ⟨0x7200, 0x0, 1, 0, 0, 24, .ro, .host, .w, false, true, 0x0⟩
/-- CJ_SPAN.SPAN_RAIL: 0xFF none (R485). -/
def CJ_SPAN_SPAN_RAIL : Fld := ⟨0x7204, 0x0, 1, 24, 0, 8, .ro, .host, .w, false, true, 0x0⟩
/-- CJ_SPAN.N_SYS_DECL: Declared phases (R485). -/
def CJ_SPAN_N_SYS_DECL : Fld := ⟨0x7204, 0x0, 1, 16, 0, 8, .ro, .host, .w, false, true, 0x0⟩
/-- CJ_SPAN.SYS_MIN_LIVE: A write below the image value is refused (R34) (R485). -/
def CJ_SPAN_SYS_MIN_LIVE : Fld := ⟨0x7204, 0x0, 1, 8, 0, 8, .rwP3, .host, .w, false, true, 0x0⟩
/-- CJ_SPAN.ISLAND_MAX: ms; a write above the image value is refused (R485). -/
def CJ_SPAN_ISLAND_MAX : Fld := ⟨0x7204, 0x0, 1, 0, 0, 8, .rwP3, .host, .w, false, true, 0x0⟩
/-- CJ_STATUS.LINK_OK: CJI receives a good stream (R485). -/
def CJ_STATUS_LINK_OK : Fld := ⟨0x7208, 0x0, 1, 31, 0, 1, .ro, .host, .w, false, false, 0x0⟩
/-- CJ_STATUS.RING_OK: Leader: its frames return; member: TARGET received within 1 µs (R485). -/
def CJ_STATUS_RING_OK : Fld := ⟨0x7208, 0x0, 1, 30, 0, 1, .ro, .host, .w, false, false, 0x0⟩
/-- CJ_STATUS.JOINED: Member: welcomed; leader: 1 (R485). -/
def CJ_STATUS_JOINED : Fld := ⟨0x7208, 0x0, 1, 29, 0, 1, .ro, .host, .w, false, false, 0x0⟩
/-- CJ_STATUS.ISLAND: R478 (R485). -/
def CJ_STATUS_ISLAND : Fld := ⟨0x7208, 0x0, 1, 28, 0, 1, .ro, .host, .w, false, false, 0x0⟩
/-- CJ_STATUS.PEER_LOST: R480 (R485). -/
def CJ_STATUS_PEER_LOST : Fld := ⟨0x7208, 0x0, 1, 27, 0, 1, .ro, .host, .w, false, false, 0x0⟩
/-- CJ_STATUS.DUP_CTL: R470 (R485). -/
def CJ_STATUS_DUP_CTL : Fld := ⟨0x7208, 0x0, 1, 26, 0, 1, .ro, .host, .w, false, false, 0x0⟩
/-- CJ_STATUS.PEERS_IN: Leader: bit *c* = CTL*c* joined and not lost (R485). -/
def CJ_STATUS_PEERS_IN : Fld := ⟨0x7208, 0x0, 1, 22, 0, 4, .ro, .host, .w, false, false, 0x0⟩
/-- CJ_STATUS.REASON: Last WELCOME REASON (R485). -/
def CJ_STATUS_REASON : Fld := ⟨0x7208, 0x0, 1, 18, 0, 4, .ro, .host, .w, false, false, 0x0⟩
/-- CJ_STATUS.N_SYS_SW: Last RAILINFO (R485). -/
def CJ_STATUS_N_SYS_SW : Fld := ⟨0x7208, 0x0, 1, 10, 0, 8, .ro, .host, .w, false, false, 0x0⟩
/-- CJ_ILIM.ILIM_SYS: 0.125 A (R485). -/
def CJ_ILIM_ILIM_SYS : Fld := ⟨0x720c, 0x0, 1, 15, 0, 17, .ro, .host, .w, false, false, 0x0⟩
/-- CJ_ILIM.PEER_D: 64–128; a write above the image value is refused (R485). -/
def CJ_ILIM_PEER_D : Fld := ⟨0x720c, 0x0, 1, 0, 0, 8, .rwP3, .host, .w, false, true, 0x0⟩
/-- CJ_COUNT.CRC_ERR: Frames discarded for CRC (R485). -/
def CJ_COUNT_CRC_ERR : Fld := ⟨0x7210, 0x0, 1, 16, 0, 16, .ro, .host, .w, false, false, 0x0⟩
/-- CJ_COUNT.CODE_ERR: Frames discarded for code or disparity errors (R485). -/
def CJ_COUNT_CODE_ERR : Fld := ⟨0x7210, 0x0, 1, 8, 0, 8, .ro, .host, .w, false, false, 0x0⟩
/-- CJ_COUNT.ISLAND_N: Islands entered (R485). -/
def CJ_COUNT_ISLAND_N : Fld := ⟨0x7210, 0x0, 1, 0, 0, 8, .ro, .host, .w, false, false, 0x0⟩
/-- CJ_STICKY.RING_DOWN_S: R480 (R485). -/
def CJ_STICKY_RING_DOWN_S : Fld := ⟨0x7214, 0x0, 1, 4, 0, 1, .w1c, .host, .w, false, false, 0x0⟩
/-- CJ_STICKY.REFUSED_S: A join was refused (R485). -/
def CJ_STICKY_REFUSED_S : Fld := ⟨0x7214, 0x0, 1, 3, 0, 1, .w1c, .host, .w, false, false, 0x0⟩
/-- CJ_STICKY.ISLAND_S: An island began (R485). -/
def CJ_STICKY_ISLAND_S : Fld := ⟨0x7214, 0x0, 1, 2, 0, 1, .w1c, .host, .w, false, false, 0x0⟩
/-- CJ_STICKY.LOST_S: A peer was lost (R485). -/
def CJ_STICKY_LOST_S : Fld := ⟨0x7214, 0x0, 1, 1, 0, 1, .w1c, .host, .w, false, false, 0x0⟩
/-- CJ_STICKY.ERR_S: A frame was discarded (R485). -/
def CJ_STICKY_ERR_S : Fld := ⟨0x7214, 0x0, 1, 0, 0, 1, .w1c, .host, .w, false, false, 0x0⟩
/-- CJ_DERATE.ISLAND_D: 64–128; a write above the image value is refused (R485). -/
def CJ_DERATE_ISLAND_D : Fld := ⟨0x7218, 0x0, 1, 0, 0, 8, .rwP3, .host, .w, false, true, 0x0⟩
/-- DEVICE_ID.PART: Part code (R5) (R490). -/
def DEVICE_ID_PART : Fld := ⟨0x0, 0x0, 1, 16, 0, 16, .ro, .opn, .o, false, false, 0x0⟩
/-- DEVICE_ID.REV: Silicon revision (R490). -/
def DEVICE_ID_REV : Fld := ⟨0x0, 0x0, 1, 12, 0, 4, .ro, .opn, .o, false, false, 0x1⟩
/-- TEMP_DIE.HI_STALE: Table 12.8, Table 17.9 (R360). -/
def TEMP_DIE_HI_STALE : Fld := ⟨0x3808, 0x4, 3, 31, 0, 1, .ro, .host, .w, true, false, 0x0⟩
/-- TEMP_DIE.HI_FAILED: Table 12.8, Table 17.9 (R360). -/
def TEMP_DIE_HI_FAILED : Fld := ⟨0x3808, 0x4, 3, 30, 0, 1, .ro, .host, .w, true, false, 0x0⟩
/-- TEMP_DIE.HI_TEMP: Table 12.8, Table 17.9 (R360). -/
def TEMP_DIE_HI_TEMP : Fld := ⟨0x3808, 0x4, 3, 16, 0, 12, .ro, .host, .w, true, false, 0x0⟩
/-- TEMP_DIE.LO_STALE: Table 12.8, Table 17.9 (R360). -/
def TEMP_DIE_LO_STALE : Fld := ⟨0x3808, 0x4, 3, 15, 0, 1, .ro, .host, .w, true, false, 0x0⟩
/-- TEMP_DIE.LO_FAILED: Table 12.8, Table 17.9 (R360). -/
def TEMP_DIE_LO_FAILED : Fld := ⟨0x3808, 0x4, 3, 14, 0, 1, .ro, .host, .w, true, false, 0x0⟩
/-- TEMP_DIE.LO_TEMP: Table 12.8, Table 17.9 (R360). -/
def TEMP_DIE_LO_TEMP : Fld := ⟨0x3808, 0x4, 3, 0, 0, 12, .ro, .host, .w, true, false, 0x0⟩
/-- TEMP_TS.HI_STALE: Table 12.8, Table 17.9 (R360). -/
def TEMP_TS_HI_STALE : Fld := ⟨0x3814, 0x4, 4, 31, 0, 1, .ro, .host, .w, true, false, 0x0⟩
/-- TEMP_TS.HI_FAILED: Table 12.8, Table 17.9 (R360). -/
def TEMP_TS_HI_FAILED : Fld := ⟨0x3814, 0x4, 4, 30, 0, 1, .ro, .host, .w, true, false, 0x0⟩
/-- TEMP_TS.HI_TEMP: Table 12.8, Table 17.9 (R360). -/
def TEMP_TS_HI_TEMP : Fld := ⟨0x3814, 0x4, 4, 16, 0, 12, .ro, .host, .w, true, false, 0x0⟩
/-- TEMP_TS.LO_STALE: Table 12.8, Table 17.9 (R360). -/
def TEMP_TS_LO_STALE : Fld := ⟨0x3814, 0x4, 4, 15, 0, 1, .ro, .host, .w, true, false, 0x0⟩
/-- TEMP_TS.LO_FAILED: Table 12.8, Table 17.9 (R360). -/
def TEMP_TS_LO_FAILED : Fld := ⟨0x3814, 0x4, 4, 14, 0, 1, .ro, .host, .w, true, false, 0x0⟩
/-- TEMP_TS.LO_TEMP: Table 12.8, Table 17.9 (R360). -/
def TEMP_TS_LO_TEMP : Fld := ⟨0x3814, 0x4, 4, 0, 0, 12, .ro, .host, .w, true, false, 0x0⟩
/-- TEMP_PACK.HI_STALE: Table 12.8, Table 17.9 (R360). -/
def TEMP_PACK_HI_STALE : Fld := ⟨0x3824, 0x0, 1, 31, 0, 1, .ro, .host, .w, true, false, 0x0⟩
/-- TEMP_PACK.HI_FAILED: Table 12.8, Table 17.9 (R360). -/
def TEMP_PACK_HI_FAILED : Fld := ⟨0x3824, 0x0, 1, 30, 0, 1, .ro, .host, .w, true, false, 0x0⟩
/-- TEMP_PACK.HI_TEMP: Table 12.8, Table 17.9 (R360). -/
def TEMP_PACK_HI_TEMP : Fld := ⟨0x3824, 0x0, 1, 16, 0, 12, .ro, .host, .w, true, false, 0x0⟩
/-- TEMP_PACK.LO_STALE: Table 12.8, Table 17.9 (R360). -/
def TEMP_PACK_LO_STALE : Fld := ⟨0x3824, 0x0, 1, 15, 0, 1, .ro, .host, .w, true, false, 0x0⟩
/-- TEMP_PACK.LO_FAILED: Table 12.8, Table 17.9 (R360). -/
def TEMP_PACK_LO_FAILED : Fld := ⟨0x3824, 0x0, 1, 14, 0, 1, .ro, .host, .w, true, false, 0x0⟩
/-- TEMP_PACK.LO_TEMP: Table 12.8, Table 17.9 (R360). -/
def TEMP_PACK_LO_TEMP : Fld := ⟨0x3824, 0x0, 1, 0, 0, 12, .ro, .host, .w, true, false, 0x0⟩
/-- TEMP_RMAX.HI_STALE: Table 12.8, Table 17.9 (R360). -/
def TEMP_RMAX_HI_STALE : Fld := ⟨0x3828, 0x4, 2, 31, 0, 1, .ro, .host, .w, true, false, 0x0⟩
/-- TEMP_RMAX.HI_FAILED: Table 12.8, Table 17.9 (R360). -/
def TEMP_RMAX_HI_FAILED : Fld := ⟨0x3828, 0x4, 2, 30, 0, 1, .ro, .host, .w, true, false, 0x0⟩
/-- TEMP_RMAX.HI_TEMP: Table 12.8, Table 17.9 (R360). -/
def TEMP_RMAX_HI_TEMP : Fld := ⟨0x3828, 0x4, 2, 16, 0, 12, .ro, .host, .w, true, false, 0x0⟩
/-- TEMP_RMAX.LO_STALE: Table 12.8, Table 17.9 (R360). -/
def TEMP_RMAX_LO_STALE : Fld := ⟨0x3828, 0x4, 2, 15, 0, 1, .ro, .host, .w, true, false, 0x0⟩
/-- TEMP_RMAX.LO_FAILED: Table 12.8, Table 17.9 (R360). -/
def TEMP_RMAX_LO_FAILED : Fld := ⟨0x3828, 0x4, 2, 14, 0, 1, .ro, .host, .w, true, false, 0x0⟩
/-- TEMP_RMAX.LO_TEMP: Table 12.8, Table 17.9 (R360). -/
def TEMP_RMAX_LO_TEMP : Fld := ⟨0x3828, 0x4, 2, 0, 0, 12, .ro, .host, .w, true, false, 0x0⟩
/-- TEMP_RMIN.HI_STALE: Table 12.8, Table 17.9 (R360). -/
def TEMP_RMIN_HI_STALE : Fld := ⟨0x3830, 0x4, 2, 31, 0, 1, .ro, .host, .w, true, false, 0x0⟩
/-- TEMP_RMIN.HI_FAILED: Table 12.8, Table 17.9 (R360). -/
def TEMP_RMIN_HI_FAILED : Fld := ⟨0x3830, 0x4, 2, 30, 0, 1, .ro, .host, .w, true, false, 0x0⟩
/-- TEMP_RMIN.HI_TEMP: Table 12.8, Table 17.9 (R360). -/
def TEMP_RMIN_HI_TEMP : Fld := ⟨0x3830, 0x4, 2, 16, 0, 12, .ro, .host, .w, true, false, 0x0⟩
/-- TEMP_RMIN.LO_STALE: Table 12.8, Table 17.9 (R360). -/
def TEMP_RMIN_LO_STALE : Fld := ⟨0x3830, 0x4, 2, 15, 0, 1, .ro, .host, .w, true, false, 0x0⟩
/-- TEMP_RMIN.LO_FAILED: Table 12.8, Table 17.9 (R360). -/
def TEMP_RMIN_LO_FAILED : Fld := ⟨0x3830, 0x4, 2, 14, 0, 1, .ro, .host, .w, true, false, 0x0⟩
/-- TEMP_RMIN.LO_TEMP: Table 12.8, Table 17.9 (R360). -/
def TEMP_RMIN_LO_TEMP : Fld := ⟨0x3830, 0x4, 2, 0, 0, 12, .ro, .host, .w, true, false, 0x0⟩
/-- TEMP_TFLT.HI_STALE: Table 12.8, Table 17.9 (R360). -/
def TEMP_TFLT_HI_STALE : Fld := ⟨0x3880, 0x4, 16, 31, 0, 1, .ro, .host, .w, true, false, 0x0⟩
/-- TEMP_TFLT.HI_FAILED: Table 12.8, Table 17.9 (R360). -/
def TEMP_TFLT_HI_FAILED : Fld := ⟨0x3880, 0x4, 16, 30, 0, 1, .ro, .host, .w, true, false, 0x0⟩
/-- TEMP_TFLT.HI_TEMP: Table 12.8, Table 17.9 (R360). -/
def TEMP_TFLT_HI_TEMP : Fld := ⟨0x3880, 0x4, 16, 16, 0, 12, .ro, .host, .w, true, false, 0x0⟩
/-- TEMP_TFLT.LO_STALE: Table 12.8, Table 17.9 (R360). -/
def TEMP_TFLT_LO_STALE : Fld := ⟨0x3880, 0x4, 16, 15, 0, 1, .ro, .host, .w, true, false, 0x0⟩
/-- TEMP_TFLT.LO_FAILED: Table 12.8, Table 17.9 (R360). -/
def TEMP_TFLT_LO_FAILED : Fld := ⟨0x3880, 0x4, 16, 14, 0, 1, .ro, .host, .w, true, false, 0x0⟩
/-- TEMP_TFLT.LO_TEMP: Table 12.8, Table 17.9 (R360). -/
def TEMP_TFLT_LO_TEMP : Fld := ⟨0x3880, 0x4, 16, 0, 0, 12, .ro, .host, .w, true, false, 0x0⟩
end F

/-- The fields of the device block. -/
def deviceFields : List Fld := [
  F.BRIDGE_STATUS_HB_SEQ, F.BRIDGE_STATUS_LP_PARITY_CNT, F.BRIDGE_STATUS_CRC_ERR_CNT, F.BRIDGE_STATUS_LP_FAULT,
  F.BRIDGE_STATUS_HB_LOST, F.BRIDGE_STATUS_BRIDGE_FAULT, F.BRIDGE_STATUS_LINK_UP, F.SUPPLY_STATUS_POR_FLAG,
  F.SUPPLY_STATUS_VDD33_LOSS, F.SUPPLY_STATUS_VDDIO_LOSS, F.SUPPLY_STATUS_VCORE_LOSS, F.SUPPLY_STATUS_VDDIO_MODE,
  F.SUPPLY_STATUS_AL_IO_GOOD, F.SUPPLY_STATUS_VCORE_GOOD, F.SUPPLY_STATUS_VDDIO_GOOD, F.SUPPLY_STATUS_VDD33_GOOD,
  F.SUPPLY_STATUS_VAON_GOOD, F.STRAP_STATUS_STRAP_BAD, F.STRAP_STATUS_ADDR_CODE, F.STRAP_STATUS_CFG3_CODE,
  F.STRAP_STATUS_CFG2_CODE, F.STRAP_STATUS_CFG1_CODE, F.STRAP_STATUS_CFG0_CODE, F.STRAP_STATUS_PM_ADDR,
  F.STRAP_STATUS_PROFILE, F.MODE_STATUS_MODE, F.MODE_STATUS_PREV_MODE, F.MODE_STATUS_LAST_TRANS,
  F.MODE_STATUS_WAKE_SRC, F.MODE_STATUS_WAKE_FAIL_CNT, F.MODE_STATUS_CT_FAIL_CNT, F.MODE_STATUS_SHUTDOWN_ACT,
  F.MODE_STATUS_WAKE_PEND, F.MODE_STATUS_SAFESTOP_CLR, F.MODE_STATUS_SLEEP_REQ, F.RAIL_STATE_ST,
  F.PARSE_STATUS_SOURCE, F.PARSE_STATUS_FALLBACK, F.PARSE_STATUS_A_RESULT, F.PARSE_STATUS_B_RESULT,
  F.PARSE_STATUS_READ_RETRY, F.PARSE_STATUS_QE_FALLBACK, F.PARSE_STATUS_SVN_ADVANCED, F.PARSE_STATUS_APPLY_STEP,
  F.PARSE_STATUS_DONE, F.IMAGE_INFO_SVN, F.IMAGE_INFO_RB_COUNTER, F.IMAGE_INFO_NOR_DENSITY, F.IMAGE_INFO_LENGTH_KIB,
  F.IMAGE_SEQ_SEQ, F.CONFIG_HASH_HASH, F.CT_STATUS_CT_ACT, F.CT_STATUS_CT_CAUSE, F.CT_STATUS_ADOPT_RES,
  F.CT_STATUS_CT_RAILS, F.CT_STATUS_CT_TIME, F.CT_COUNT_ADOPT_OK, F.CT_COUNT_ADOPT_REF, F.COH_STATUS_COH_CNT,
  F.COH_STATUS_LAST_PH, F.COH_STATUS_RCOH_S, F.COH_STATUS_COH_S, F.COH_HOLD_HOLD, F.RETAIN_DIGEST_DIGEST,
  F.DEVICE_ID_PART, F.DEVICE_ID_REV]
/-- The fields of the clock block. -/
def clockFields : List Fld := [
  F.CLK_STATUS_XTAL_FAIL, F.CLK_STATUS_PLL_UNLOCK, F.CLK_STATUS_CLK_SRC_SWITCH, F.CLK_STATUS_REF_EXT,
  F.CLK_STATUS_BACKUP_ACTIVE, F.CLK_STATUS_XTAL_OK, F.CLK_STATUS_FPLL_LOCK, F.CLK_STATUS_CPLL_LOCK,
  F.CLK_STATUS_LFOSC_OK, F.WAKE_CTRL_TIMER_EN, F.WAKE_CTRL_VDD33_AUTO, F.WAKE_CTRL_WAKE_PERIOD, F.SYNC_CFG_SYNC_EN,
  F.SYNC_CFG_SYNCO_EN, F.SYNC_CFG_SYNCO_RAIL, F.SYNC_CFG_SYNC_DLY, F.SYNC_STATUS_SYNC_RAILS, F.SYNC_STATUS_SYNC_LOCK,
  F.SYNC_STATUS_SYNC_LOST, F.SYNC_STATUS_SYNCI_PRESENT, F.SYNC_STATUS_PER_MEAS]
/-- The fields of the engine block. -/
def engineFields : List Fld := [
  F.ENG_CFG_RM, F.ENG_CFG_SS_RATE, F.ENG_CFG_CL_STEP, F.ENG_CFG_RATE_SH, F.ENG_STATUS_ACT_SET, F.ENG_STATUS_OP,
  F.ENG_STATUS_SWAP_PEND, F.ENG_STATUS_LSU_ACT, F.ENG_STATUS_LSD_ACT, F.ENG_STATUS_BRAKE_ACT, F.ENG_STATUS_CL_ACT,
  F.ENG_STATUS_AW_HOLD, F.ENG_STATUS_VIN_STALE, F.ENG_STATUS_D_EFF, F.ENG_STATUS_N_LIVE, F.ENG_STICKY_BRAKE_S,
  F.ENG_STICKY_LSD_S, F.ENG_STICKY_LSU_S, F.ENG_STICKY_VIN_STALE_S, F.ENG_STICKY_COEF_REJ, F.ENG_STICKY_SWAP_CLAMP,
  F.ENG_STICKY_DMIN_HIT, F.ENG_STICKY_DMAX_HIT, F.ENG_STICKY_NEG_HIT, F.ENG_STICKY_CL_HIT, F.ENG_STICKY_FF_CLAMP,
  F.ENG_STICKY_OUT_SAT, F.ENG_STICKY_AW_LO, F.ENG_STICKY_AW_HI, F.ENG_STICKY_ACC_SAT, F.ENG_STICKY_LL_CLAMP,
  F.ENG_STICKY_PAR_REUSE, F.ENG_STICKY_ADC_CLIP, F.LOADLINE_LL_TAU, F.LOADLINE_LL_R, F.DUTY_LIM_DUTY_MAX,
  F.DUTY_LIM_DUTY_MIN, F.DERATE_ILIM_RAIL, F.DERATE_FW_DERATE, F.NEG_FF_NEG_LIM, F.VIN_FF_VIN_STALE,
  F.VIN_FF_VIN_CODE, F.LS_CFG_BRAKE_EN, F.LS_CFG_BRAKE_DLY, F.LS_CFG_LS_MAX, F.LS_CFG_LS_DN_TH, F.LS_CFG_LS_UP_TH,
  F.OP_BAND_NB3, F.OP_BAND_NB2, F.OP_BAND_NB1, F.OP_MAP_LO_MAP0, F.OP_MAP_LO_MAP1, F.OP_MAP_LO_MAP2,
  F.OP_MAP_LO_MAP3, F.OP_MAP_HI_MAP4, F.OP_MAP_HI_MAP5, F.OP_MAP_HI_MAP6, F.OP_MAP_HI_MAP7, F.SET_CTRL_FORCE_EN,
  F.SET_CTRL_FORCE_SET, F.SET_CTRL_STORE_WR, F.SET_CTRL_STORE_ID, F.STORE_KP_M, F.STORE_KP_SH, F.STORE_KI_M,
  F.STORE_KI_SH, F.STORE_KD_M, F.STORE_KD_SH, F.STORE_KF_M, F.STORE_KF_SH, F.STORE_KO_M, F.STORE_KO_SH,
  F.STORE_CLAMP_IMAX, F.STORE_CLAMP_IMIN, F.MON_ERR_E1, F.MON_ERR_LLT, F.MON_DEMAND_UT, F.MON_DEMAND_DUTY,
  F.MON_INT_I_HI]
/-- The fields of the phase block. -/
def phaseFields : List Fld := [
  F.PH_STATE_FAIL_CNT, F.PH_STATE_OBS_CNT, F.PH_STATE_FAIL_CAUSE, F.PH_STATE_HEALTH, F.PH_STATE_SW_STATE,
  F.PH_STATE_PAIR_ID, F.PH_STATE_PAIRED, F.PH_STATE_ASSIGNED, F.PH_STATE_RAIL, F.PH_CUR_I_AVG, F.PH_CUR_I_EST,
  F.PH_CFG_ILIM_PHASE, F.PH_CFG_SHARE_W, F.PH_CFG_KEEP_OFF, F.PH_CFG_PAIR_BUDGET, F.PH_MODEL_G_OBS, F.PH_MODEL_R_PH,
  F.PH_CAL_CAL_GAIN, F.PH_CAL_CAL_OFS, F.PH_PLACE_OFFSET, F.PH_PLACE_TRIM, F.PH_STICKY_KEEPOFF_OVR,
  F.PH_STICKY_PAIR_CLAMP, F.PH_STICKY_PAIR_SHIFT, F.PH_STICKY_SENSE_RANGE, F.PH_STICKY_FAILED_S, F.PH_STICKY_WATCH_S]
/-- The fields of the railPhase block. -/
def railPhaseFields : List Fld := [
  F.PHC_HW_HW_ADD, F.PHC_HW_HW_SHED, F.PHC_FW_FW_ADD, F.PHC_FW_FW_SHED, F.PHC_CTRL_DE_EN, F.PHC_CTRL_DE_ALLOW,
  F.PHC_CTRL_FW_NMIN, F.PHC_CTRL_MIN_ACTIVE, F.PHC_CTRL_MIN_LIVE, F.PHC_CTRL_FAIL_D, F.PHC_STATUS_N_SW,
  F.PHC_STATUS_N_IDLE, F.PHC_STATUS_N_FAIL, F.PHC_STATUS_DE_ACT, F.PHC_STATUS_ADD_PEND, F.PHC_EFF_ADD_EFF,
  F.PHC_EFF_SHED_EFF, F.PHC_OBS_OBS_WIN, F.PHC_OBS_OBS_G, F.PHC_OBS_OBS_N, F.PHC_OBS_OBS_SETTLE, F.PHC_OBS_BAL_G,
  F.PHC_TIME_SHED_DWELL, F.PHC_TIME_DE_DWELL, F.PHC_TIME_SHED_RAMP, F.PHC_TIME_DE_MARGIN, F.HIC_CFG_HIC_OFF,
  F.HIC_CFG_HIC_UNLIM, F.HIC_CFG_HIC_RETRY, F.HIC_STATUS_RETRY_CNT, F.HIC_STATUS_OFF_LEFT, F.HIC_STATUS_HIC_ENTRIES,
  F.SEN_CFG_SEN_LEAD, F.SEN_CFG_SEN_LAG, F.SEN_CFG_SEN_STATE]
/-- The fields of the phaseProtection block. -/
def phaseProtectionFields : List Fld := [
  F.RGN_BUDGET_I_EST, F.RGN_BUDGET_IN_BUDGET, F.RGN_CFG_IN_GAIN, F.RGN_CFG_IN_OFS, F.RGN_PRIO_PRIO, F.PKP_CFG_PK_LIM,
  F.PKP_CFG_NPK_LIM, F.PH_PROT_PK_MV, F.PH_PROT_NPK_MV, F.PH_PROT_PRE_RES, F.PH_PROT_PHW_STOP, F.PH_PROT_NPK_S,
  F.PH_PROT_PHW_CNT, F.REFIN_STATUS_REFIN_FAULT, F.REFIN_STATUS_REFIN_FAULT_S, F.REFIN_STATUS_REFIN_REF]
/-- The fields of the pwm block. -/
def pwmFields : List Fld := [
  F.PWM_PERIOD_PERIOD, F.PWM_TIME_BLANK, F.PWM_TIME_MIN_ON, F.PWM_TIME_MIN_OFF, F.PWM_TIME_BST_W,
  F.PWM_CTRL_FORCE_TRI, F.PWM_CTRL_INVERT, F.PWM_CTRL_SWAP, F.PWM_CTRL_PAIR_LS_BOTH, F.PWM_CTRL_BST_N,
  F.PWM_CTRL_CUT_N, F.PWM_STATUS_LEVEL, F.PWM_STATUS_TFLT_FAULT, F.PWM_STATUS_TFLT_LATCH, F.PWM_STATUS_TFLT_LATCH_N,
  F.PWM_STATUS_CUT_SRC, F.PWM_STATUS_CUT_CNT, F.PWM_STATUS_FULL_CNT, F.PWM_STICKY_OVR_REJ, F.PWM_STICKY_TFLT_LATCH_S,
  F.PWM_STICKY_REFRESH_S, F.PWM_STICKY_DUTY_SAT_S, F.PWM_STICKY_MINON_S, F.PWM_STICKY_CUT_S, F.PWM_TON_TON]
/-- The fields of the railSetpoint block. -/
def railSetpointFields : List Fld := [
  F.SP_STATUS_SP_TGT, F.SP_STATUS_DAC_CODE, F.SP_STATUS_SP_OWNER, F.SP_STATUS_SLEWING, F.SP_CMD_CODE,
  F.SP_WIN_P1_MAX, F.SP_WIN_P1_MIN, F.SP_CTRL_SLEW_UP, F.SP_CTRL_SLEW_DN, F.SP_CTRL_SRC_MASK, F.SP_CTRL_SRC_EN,
  F.SP_CTRL_AL_SERVE, F.SP_CTRL_SP_REJ, F.SP_CTRL_VSEL_REJ, F.SP_CTRL_WIN_MOVED, F.PN_MON_PN_DUTY, F.PN_MON_TRACK,
  F.PN_MON_PN_HOLD, F.PN_MON_PN_INT, F.TLM_RV_WIN_CNT, F.TLM_RV_V_SH, F.TLM_RI_WIN_CNT, F.TLM_RI_I_SH,
  F.PMB_RSTAT_STATUS_WORD, F.PMB_RSTAT_STATUS_VOUT, F.PMB_RSTAT_STATUS_IOUT, F.PMB_RSTAT2_STATUS_MFR,
  F.PMB_RSTAT2_STATUS_TEMP, F.PMB_RSTAT2_STATUS_INPUT]
/-- The fields of the links block. -/
def linksFields : List Fld := [
  F.AL_CFG_PORT_EN, F.AL_CFG_ON_SILENT, F.AL_CFG_AL_TMO, F.AL_STATUS_CRED, F.AL_STATUS_THROT, F.AL_STATUS_SILENT,
  F.AL_STATUS_RD_PEND, F.AL_STATUS_NOTE_N, F.AL_STATUS_CTX_ID, F.AL_COUNT_CRC_ERR, F.AL_COUNT_FRAME_ERR,
  F.AL_COUNT_NAK_CNT, F.AL_STICKY_WR_FAIL, F.AL_STICKY_READ_LOST, F.AL_STICKY_NOTE_LOST, F.AL_STICKY_SILENT_S,
  F.AL_STICKY_RETRY_S, F.AL_STICKY_TRUNC_S, F.AL_STICKY_FRAME_S, F.AL_STICKY_CLK_STUCK, F.VSEL_STATUS_VSEL_FILT,
  F.VSEL_STATUS_VSEL_INV, F.VSEL_STATUS_BALLS, F.VSEL_STATUS_ACCEPTED, F.VSEL_STATUS_CODE, F.SPI_STATUS_SPI_XCNT,
  F.SPI_STATUS_CRC_ERR, F.SPI_STATUS_FMT_ERR, F.PMB_STATUS_STATUS_CML, F.PMB_STATUS_PAGE, F.PMB_STATUS_PEC_ERR,
  F.PMB_STATUS_ALERT, F.PMB_CLR_CLR, F.FW_PUB_VALUE, F.FW_PUB_STAGE_VALUE, F.CJ_CFG_CJ_EN, F.CJ_CFG_CTL_NUM,
  F.CJ_CFG_LEADER, F.CJ_CFG_MEMBERS, F.CJ_CFG_SYSTEM_ID, F.CJ_SPAN_SPAN_RAIL, F.CJ_SPAN_N_SYS_DECL,
  F.CJ_SPAN_SYS_MIN_LIVE, F.CJ_SPAN_ISLAND_MAX, F.CJ_STATUS_LINK_OK, F.CJ_STATUS_RING_OK, F.CJ_STATUS_JOINED,
  F.CJ_STATUS_ISLAND, F.CJ_STATUS_PEER_LOST, F.CJ_STATUS_DUP_CTL, F.CJ_STATUS_PEERS_IN, F.CJ_STATUS_REASON,
  F.CJ_STATUS_N_SYS_SW, F.CJ_ILIM_ILIM_SYS, F.CJ_ILIM_PEER_D, F.CJ_COUNT_CRC_ERR, F.CJ_COUNT_CODE_ERR,
  F.CJ_COUNT_ISLAND_N, F.CJ_STICKY_RING_DOWN_S, F.CJ_STICKY_REFUSED_S, F.CJ_STICKY_ISLAND_S, F.CJ_STICKY_LOST_S,
  F.CJ_STICKY_ERR_S, F.CJ_DERATE_ISLAND_D]
/-- The fields of the tense block. -/
def tenseFields : List Fld := [
  F.TN_CTRL_TN_EN, F.TN_CTRL_TN_ALLOW, F.TN_WEIGHT_W_INIT, F.TN_WEIGHT_W_UP, F.TN_WEIGHT_W_DN, F.TN_WEIGHT_W_FLOOR,
  F.TN_RATE_TK_MAX, F.TN_RATE_TK_REFILL, F.TN_RATE_LEAD_MAX, F.TN_CTX_SEL_CMD, F.TN_CTX_SEL_CTX, F.TN_CTX_DATA_WORD,
  F.TN_SLEW_PRE_SLEW, F.TN_SLEW_UNW_SLEW, F.TN_SLEW_DEC_SLEW, F.TN_SLEW_RAMP_ADV, F.TN_TIME_ADD_LEAD,
  F.TN_TIME_HOLD_T, F.TN_TIME_CONF_T, F.TN_TIME_MISS_TH, F.TN_CAP_F_POS_CAP, F.TN_CAP_F_NEG_CAP, F.TN_HCAP_HINT_CAP,
  F.TN_STAT_F, F.TN_STAT_N_SCHED, F.TN_STAT_SCHED_FULL_S, F.TN_STAT_DISCARD_S, F.TN_STAT_EARLY_MISS_S,
  F.TN_STAT_FF_CAP_S, F.TN_SCORE_HITS, F.TN_SCORE_MISSES]
/-- The fields of the protection block. -/
def protectionFields : List Fld := [
  F.PROT_CFG_BUS_OV, F.PROT_CFG_VSTALE_D, F.PROT_CFG_HS_T, F.PROT_CFG_FN_RAIL, F.PROT_STATUS_DL_CAUSE,
  F.PROT_STATUS_BUS_OV_ACT, F.PROT_STATUS_FAULT_N_ST, F.PROT_STATUS_RAIL_LATCHED, F.REF_STATUS_REF_SEL,
  F.REF_STATUS_REF_OUT, F.REF_STATUS_REF_DRIFT, F.REF_STATUS_TRANSFER, F.REF_STATUS_NOVOTE_CNT,
  F.REF_STATUS_REF_TRIM, F.REF_DEV_E_AB, F.REF_DEV_E_BC, F.REF_DEV_E_CA, F.LEASE_STATUS_JOURNAL_N,
  F.LEASE_STATUS_BRIDGE_N, F.LEASE_STATUS_SPI_N, F.LEASE_STATUS_PMBUS_N, F.LEASE_STATUS_HKADC_N,
  F.LEASE_STATUS_LEASE_EXP_S, F.RAIL_CLR_CLR, F.FAULT_HOLD_FAULT_HOLD]
/-- The fields of the railProtection block. -/
def railProtectionFields : List Fld := [
  F.RP_WIN_OV_TH, F.RP_WIN_UV_TH, F.RP_WIN_OV_FILT, F.RP_WIN_UV_FILT, F.RP_TRACK_OV_LAG, F.RP_TRACK_UV_LAG,
  F.RP_TRACK_OV_ABS, F.RP_TIME_PG_DLY, F.RP_TIME_UV_HIC_T, F.RP_TIME_OC_SUST, F.RP_TIME_CB_MAX, F.RP_SENSE_SNS_WIN,
  F.RP_SENSE_AUX_D, F.RP_SENSE_FRZ_DUTY, F.RP_PHW_PH_POS, F.RP_PHW_PH_NEG, F.RP_MISC_PHW_N, F.RP_MISC_BRK_N,
  F.RP_MISC_BRK_TMAX, F.RP_MISC_AUX_ALLOW, F.RP_STATUS_LATCH_CAUSE, F.RP_STATUS_SNS_AUX, F.RP_STATUS_SNS_CAUSE,
  F.RP_STATUS_PGOOD_ST, F.RP_STATUS_OV_RD, F.RP_STATUS_UV_RD, F.RP_STATUS_CB_ACT, F.RP_STATUS_BRK_INH,
  F.RP_STATUS_PRE_HOLD, F.RP_STICKY_PRECHECK_S, F.RP_STICKY_BRK_INH_S, F.RP_STICKY_AUXBAD_S, F.RP_STICKY_FROZEN_S,
  F.RP_STICKY_SNS_OPEN_S, F.RP_STICKY_OC_S, F.RP_STICKY_UV_S, F.RP_STICKY_OVABS_S, F.RP_STICKY_OV_S]
/-- The fields of the thermal block. -/
def thermalFields : List Fld := [
  F.HK_CFG_HK_ROUND, F.HK_CFG_TD_HYS, F.HK_CFG_STALE_MAX, F.HK_CFG_ROR_N, F.HK_STATUS_ROUND_CNT,
  F.HK_STATUS_ROUND_SKIP, F.HK_STATUS_SELF_FAIL, F.THERM_DERATE_D, F.THERM_STATUS_LEVEL, F.THERM_STATUS_ROR_ACT,
  F.THERM_STATUS_LOWT_ACT, F.THERM_STATUS_NO_SENSOR, F.THERM_STATUS_PKG_WARN, F.THERM_STATUS_PKG_SHUT,
  F.THERM_STATUS_CHG_OK, F.THERM_STATUS_JRN_OK, F.THERM_STICKY_SKIP_S, F.THERM_STICKY_FAIL_S, F.THERM_STICKY_LOWT_S,
  F.THERM_STICKY_ROR_S, F.THERM_STICKY_PKGW_S, F.HK_V0_VAON, F.HK_V0_VDD33, F.HK_V1_VCORE, F.HK_V1_VDDIO,
  F.STEP_T_S1, F.STEP_T_S2, F.STEP_T_S3, F.STEP_T_S4, F.STEP_D_S1, F.STEP_D_S2, F.STEP_D_S3, F.STEP_D_S4,
  F.TEMP_DIE_HI_STALE, F.TEMP_DIE_HI_FAILED, F.TEMP_DIE_HI_TEMP, F.TEMP_DIE_LO_STALE, F.TEMP_DIE_LO_FAILED,
  F.TEMP_DIE_LO_TEMP, F.TEMP_TS_HI_STALE, F.TEMP_TS_HI_FAILED, F.TEMP_TS_HI_TEMP, F.TEMP_TS_LO_STALE,
  F.TEMP_TS_LO_FAILED, F.TEMP_TS_LO_TEMP, F.TEMP_PACK_HI_STALE, F.TEMP_PACK_HI_FAILED, F.TEMP_PACK_HI_TEMP,
  F.TEMP_PACK_LO_STALE, F.TEMP_PACK_LO_FAILED, F.TEMP_PACK_LO_TEMP, F.TEMP_RMAX_HI_STALE, F.TEMP_RMAX_HI_FAILED,
  F.TEMP_RMAX_HI_TEMP, F.TEMP_RMAX_LO_STALE, F.TEMP_RMAX_LO_FAILED, F.TEMP_RMAX_LO_TEMP, F.TEMP_RMIN_HI_STALE,
  F.TEMP_RMIN_HI_FAILED, F.TEMP_RMIN_HI_TEMP, F.TEMP_RMIN_LO_STALE, F.TEMP_RMIN_LO_FAILED, F.TEMP_RMIN_LO_TEMP]
/-- The fields of the thermalLimits block. -/
def thermalLimitsFields : List Fld := [
  F.TH_LIMITS_PKG_TSHUT, F.TH_LIMITS_PKG_TWARN, F.TH_LIMITS_CHG_TMAX, F.TH_LIMITS_CHG_TMIN, F.TEMP_TFLT_HI_STALE,
  F.TEMP_TFLT_HI_FAILED, F.TEMP_TFLT_HI_TEMP, F.TEMP_TFLT_LO_STALE, F.TEMP_TFLT_LO_FAILED, F.TEMP_TFLT_LO_TEMP]
/-- The fields of the pack block. -/
def packFields : List Fld := [
  F.PK_CFG_DESIGN_CAP, F.PK_CFG_CHEM, F.PK_CFG_CELLS, F.PK_CFG_PACK_DECL, F.PK_VOLT_BAT_V, F.PK_VOLT_V_COMP,
  F.PK_CUR_BAT_I, F.PK_SOC_RSOC, F.PK_SOC_ASOC, F.PK_QREM_QREM, F.PK_CAP_FCC, F.PK_CAP_CYC_CNT, F.PK_LIFE_SOH,
  F.PK_LIFE_RFACT, F.PK_STATE_CHG_ST, F.PK_STATE_EOD_CAUSE, F.PK_STATE_DISQ, F.PK_STATE_CHG_FLT, F.PK_STATE_HU_ARM,
  F.PK_STATE_HU_ON, F.PK_STATE_PRESENT, F.PK_STATE_FULL, F.PK_STATE_COARSE, F.PK_STATE_EOL, F.PK_STATE_PACK_DEAD,
  F.PK_STATE_LRN_OPEN, F.PK_STATE_TEST_ACT, F.PK_STATE_CHG_IN, F.PK_CTRL_CHG_EN, F.PK_CTRL_LRN_VETO,
  F.PK_CTRL_PK_TEST, F.PK_CTRL_PK_CLR, F.PK_CTRL_ICHG_FW, F.PK_CC_CC_EPOCH, F.PK_CC_DORM_MIN, F.PK_CC_ACC_CC_ACC,
  F.PK_STICKY_EOL_S, F.PK_STICKY_LRN_DQ_S, F.PK_STICKY_LRN_OK_S, F.PK_STICKY_OCV_S, F.PK_STICKY_PROBE_FAIL_S,
  F.PK_STICKY_CHG_FLT_S, F.PK_STICKY_EOD_S, F.PK_STICKY_RESTORE_S, F.PK_STICKY_HU_S, F.HU_CFG_BUS_GOOD_R,
  F.HU_CFG_BUS_GOOD_F, F.HU_CFG_HU_FILT, F.HU_CFG_HU_D]
/-- The fields of the security block. -/
def securityFields : List Fld := [
  F.SEC_STATUS_LIFECYCLE, F.SEC_STATUS_OWN_GEN, F.SEC_STATUS_SESS_ST, F.SEC_STATUS_SESS_BUS, F.SEC_STATUS_RAW_REQ,
  F.SEC_STATUS_TAP_OPEN, F.SEC_STATUS_TAP_DIS, F.SEC_STATUS_LOCKED_OUT, F.SEC_STATUS_SESS_ID, F.KEY_STATE_SLOT_ST,
  F.IEK_STATE_IEK_ST, F.SLOT_TYPE_TYPE, F.SESS_CTRL_GO, F.SESS_CTRL_ABORT, F.SESS_CTRL_LEN, F.SESS_STAT_LAST_RES,
  F.SESS_STAT_RX_LEN, F.SESS_STAT_RX_READY, F.SESS_STAT_BUSY, F.SESS_STAT_IDLE_LEFT, F.SESS_MBOX_WORD,
  F.SESS_RIGHTS_LIFE_LEFT, F.SESS_RIGHTS_GRANTED, F.LOAD_CONSENT_CONS_ID, F.LOAD_CONSENT_CONS_RAIL,
  F.LOAD_CONSENT_CONS_MIN, F.CONSENT_STAT_CONS_IN, F.CONSENT_STAT_CONS_LEFT, F.CONSENT_STAT_PACK_RAW,
  F.TLM_SHAPE_P1_DENY, F.TLM_SHAPE_W_ADD, F.TLM_SHAPE_Q_ADD, F.TLM_SHAPE_CONS_ALLOW, F.AUTH_FAIL_FAIL_N,
  F.AUTH_FAIL_LOCK_LEFT, F.SEC_STICKY_TAP_S, F.SEC_STICKY_KEYOP_S, F.SEC_STICKY_CONS_S, F.SEC_STICKY_TAG_FAIL_S,
  F.SEC_STICKY_SESS_FAIL_S, F.SEC_STICKY_ACC_DENY_S, F.DEV_ID_HASH, F.TLM_PH_WIN_CNT, F.TLM_PH_I_SH]
/-- The fields of the recorder block. -/
def recorderFields : List Fld := [
  F.REC_STATUS_N_REC, F.REC_STATUS_N_STICKY, F.REC_STATUS_REC_MISS, F.REC_STATUS_STICKY_LOST,
  F.REC_STATUS_OVERWRITE_S, F.REC_STATUS_INTAKE_S, F.REC_NEWEST_SEQ, F.REC_SEL_SEL, F.REC_CTRL_INTAKE_DROP,
  F.REC_CTRL_HIST, F.REC_CTRL_AUTO, F.REC_DATA_DATA, F.REC_CLR_CLR_STICKY, F.REC_CLR_CLR, F.JRN_STATUS_BUSY,
  F.JRN_STATUS_DEFER, F.JRN_STATUS_PEND, F.JRN_STATUS_HIST_Q, F.JRN_STATUS_DEFER_CAUSE, F.JRN_STATUS_HIST_DROP,
  F.JRN_STICKY_LOST_S, F.JRN_STICKY_CAP_LOW_S, F.JRN_STICKY_SLOT_BAD_S, F.JRN_STICKY_HDROP_S, F.JRN_STICKY_DEFER_S,
  F.JRN_CAP_C_MEAS, F.JRN_CAP_C_EFF, F.JRN_LOAD_HIST_N, F.JRN_LOAD_SLOT_USED, F.JRN_VAON_V_S]
/-- Every register field of the device. -/
def allFields : List Fld :=
  deviceFields ++ clockFields ++ engineFields ++ phaseFields ++ railPhaseFields ++ phaseProtectionFields ++ pwmFields ++ railSetpointFields ++ linksFields ++ tenseFields ++ protectionFields ++ railProtectionFields ++ thermalFields ++ thermalLimitsFields ++ packFields ++ securityFields ++ recorderFields

/-- Does instance `i` of the field stand in the register at `a`? -/
def Fld.instAt (f : Fld) (a : Nat) : List Nat :=
  (List.range f.count).filter (fun i => f.addr i == a)

/-- The fields, with their instances, of the register at address `a`. Empty for an unassigned address (R10). -/
def fieldsAt (a : Nat) : List (Fld × Nat) :=
  allFields.flatMap (fun f =>
    if f.stride = 0 then
      if f.base = a then (List.range f.count).map (fun i => (f, i)) else []
    else if f.base ≤ a ∧ (a - f.base) % f.stride = 0 ∧ (a - f.base) / f.stride < f.count then
      [(f, (a - f.base) / f.stride)] else [])

/-- Does the store key `k` belong to field `f`? -/
def Fld.hasKey (f : Fld) (k : Nat) : Bool :=
  let a := k / 32
  if f.stride = 0 then
    f.base == a && (if f.lostep = 0 then k % 32 == f.lo
      else f.lo ≤ k % 32 && (k % 32 - f.lo) % f.lostep == 0 && (k % 32 - f.lo) / f.lostep < f.count)
  else f.base ≤ a && (a - f.base) % f.stride == 0 && (a - f.base) / f.stride < f.count && k % 32 == f.lo

/-- The field of a store key. -/
def fieldOfKey (k : Nat) : Option Fld := allFields.find? (fun f => f.hasKey k)

end Sys2Proof.Machine
end

