-- ==== Sys2Proof/Machine/Store.lean ====
section
/-!
DEFINITION. A sparse store of numbers: a list of (key, value) pairs in one canonical form (keys strictly rising, no
value 0), where an unlisted key reads 0. It holds the register fields, the image limits, the context table and the
hint rings.
-/
namespace Sys2Proof.Machine

/-- A sparse store. An unlisted key reads 0. -/
abbrev Store := List (Nat × Nat)

/-- Read one key. -/
def Store.get : Store → Nat → Nat
  | [], _ => 0
  | (k, v) :: m, a => if k = a then v else Store.get m a

/-- Put a nonzero value at its place among rising keys. -/
def Store.put : Store → Nat → Nat → Store
  | [], a, v => [(a, v)]
  | (k, x) :: m, a, v =>
    if k = a then (a, v) :: m
    else if a < k then (a, v) :: (k, x) :: m
    else (k, x) :: Store.put m a v

/-- Take a key out. -/
def Store.erase (m : Store) (a : Nat) : Store := m.filter (fun c => c.1 != a)

/-- Write one key. Writing 0 removes the entry, so equal contents are equal lists. -/
def Store.set (m : Store) (a v : Nat) : Store := if v = 0 then m.erase a else m.put a v

/-- The canonical form: keys strictly rising, no value 0. -/
abbrev Store.wf (m : Store) : Prop := m.Pairwise (fun x y => x.1 < y.1) ∧ ∀ c ∈ m, c.2 ≠ 0

/-- The store of a list of words: word `i` under key `i`. -/
def Store.ofWords (l : List Nat) : Store := (l.zipIdx.filter (fun x => x.1 != 0)).map (fun x => (x.2, x.1))

/-- Remove every entry whose key the test picks. -/
def Store.drop (m : Store) (p : Nat → Bool) : Store := m.filter (fun c => !p c.1)

end Sys2Proof.Machine
end

