-- ==== Sys2Proof/Machine/State.lean ====
section
/-!
DEFINITION. The state of the block, as plain data: the register store, and the typed parts the spec gives the machine
beside its registers; the faults and refusals; the state after reset.
-/
namespace Sys2Proof.Machine

/-! ## Modes, rail states, phase states -/

/-- Device modes (Table 3.8). -/
inductive Mode where
  | dormant | wake | parse | precheck | softstart | regulate | shed | holdup | hiccup | caretaker | safestop | service
  deriving DecidableEq, Repr

/-- Rail states (Table 3.4). -/
inductive RailState where
  | off | armed | ramp | reg | shed | hiccup | rampdown | latched | caretaken
  deriving DecidableEq, Repr

/-- Phase switching states (Table 6.1). -/
inductive Sw where
  | unused | idle | adding | active | shedding | stopped
  deriving DecidableEq, Repr

/-- Phase health states (Table 6.1). -/
inductive Health where
  | ok | watch | failed | retired
  deriving DecidableEq, Repr

/-- The three ball levels (R200). -/
inductive Level where
  | tri | low | high
  deriving DecidableEq, Repr

/-- A large-signal action on a rail (R147, R148, R298). -/
inductive LsAct where
  | none | under | over | crowbar
  deriving DecidableEq, Repr

/-- How a rail in RAMPDOWN goes on at the end of its ramp: OFF, or LATCHED with its fault (R288). -/
inductive StopKind where
  | toOff | toLatched
  deriving DecidableEq, Repr

/-! ## Records and bridge traffic -/

/-- One stored event record (Table 15.1); `detail` is the 16 DETAIL bytes. -/
structure Record where
  code : Nat
  flags : Nat
  mode : Nat
  seq : Nat
  epoch : Nat
  time : Nat
  detail : List Byte
  deriving DecidableEq, Repr

/-- An event on its way to the recorder: the stamp it took when it arose (R429), its detail items as
(bytes, value) pairs (R428), and the count of a rate-limited code (R518). -/
structure Evt where
  code : Nat
  unit : Nat
  items : List (Nat × Int)
  count : Option Nat
  front : Bool
  ct : Bool
  mode : Nat
  epoch : Nat
  time : Nat
  deriving DecidableEq, Repr

/-- An open rate-limit window of one code and unit (R518): the events counted since the last record and the last one. -/
structure RateWin where
  code : Nat
  unit : Nat
  count : Nat
  last : Evt
  openAt : Nat
  deriving DecidableEq, Repr

/-- What a class 1 protection event calls for on the Control die beside its record (R16, R307, R309). -/
inductive React where
  | none
  | auxDerate (rail : Nat) (d : Nat)
  deriving DecidableEq, Repr

/-- A class 1 protection event waiting on the Front die (Table 1.3, R327). -/
structure C1 where
  evt : Evt
  react : React
  deriving DecidableEq, Repr

/-- A class 3 phase-state request of the Control die (R154, R339). -/
inductive PsOp where
  | add | shed
  deriving DecidableEq, Repr

/-- A class 3 request in flight, with the predicted input increase of an add (R187) and its cause for record 0x0607. -/
structure PsReq where
  op : PsOp
  ph : Nat
  rsv : Nat
  cause : Nat := 0
  deriving DecidableEq, Repr

/-- A register access that waits for the Front die (R516). -/
structure Access where
  path : Path
  person : Person
  wr : Bool
  addr : Nat
  data : Nat
  deriving DecidableEq, Repr

/-- The die bridge and the loop port (R13 to R20): heartbeat numbers, the echo under way, the last valid heartbeat and echo (or
the instant at which the link came up), frames in flight. -/
structure Bridge where
  hbTx : Nat := 0
  hbExp : Option Nat := none
  hbRx : Option Nat := none
  echo : Option Nat := none
  echoBad : Nat := 0
  ecAt : Option Nat := none
  lastFrame : Option (BitVec 128) := none
  c3 : List PsReq := []
  c3Resends : Nat := 0
  c4 : List Access := []
  c4Resends : Nat := 0
  c4At : Nat := 0
  ansResends : Nat := 0
  applyResends : Nat := 0
  applyRestarts : Nat := 0
  fdLost : Bool := false
  clkLost : Bool := false
  deriving DecidableEq, Repr

/-! ## Supplies, wake, start-up -/

/-- Board inputs and supply sequencing (R44 to R85): the comparator readings and what the always-on domain waits for. -/
structure Power where
  ballWake : Bool := false
  wakePend : Nat := 0
  wakeAt : Nat := 0
  relAt : Nat := 0
  pllLost : Nat := 0
  buckAt : Nat := 0
  resetN : Bool := false
  wantSafestopClr : Bool := false
  en : Vector Bool 4 := Vector.replicate 4 false
  strapPairs : List Nat := [0, 0, 0, 0, 0]
  strapDone : List Bool := [false, false, false, false, false]
  strapsLatched : Bool := false
  lfosc : Bool := false
  fpllOff : Bool := false
  buckTry : Nat := 0
  vddActs : Bool := false
  cdUp : Bool := false
  cdLostAt : Nat := 0
  dormExit : Nat := 0
  dormEntry : Nat := 0
  testEnd : Nat := 0
  tnow0 : Nat := 0
  ctFails : List Nat := []
  wdogUs : Nat := 0
  wdogAt : Nat := 0
  romPolicy : Bool := true
  released : Bool := false
  noArm : Bool := false
  stopSet : Nat := 0
  noVote : Bool := false
  voted : Bool := false
  ctFault : Bool := false
  ctService : Bool := false
  ctAt : Nat := 0
  refused : Bool := false
  vddioSel : Bool := false
  cdCause : Nat := 0
  fdHash : List Nat := [0, 0, 0, 0, 0, 0, 0, 0]
  fdDigest : List Nat := [0, 0, 0, 0, 0, 0, 0, 0]
  porSeen : Bool := false
  retEmpty : Bool := false
  ctAdopt : Bool := false
  busV : Nat := 0
  busVAt : Option Nat := none
  busOvRun : Nat := 0
  staleAt : Nat := 0
  syncAt : Option Nat := none
  vselRd : Nat := 0
  vselTold : Bool := false
  vselAt : Nat := 0
  syncHist : List Nat := []
  deriving DecidableEq, Repr

/-- A command that the Parser issues to the NOR (Table 4.6): opcode, address where it has one, dummy clocks, data lines, clock in
kHz. -/
structure NorCmd where
  op : Nat
  addr : Option Nat := none
  dummy : Nat := 0
  lines : Nat := 1
  khz : Nat := 12500
  deriving DecidableEq, Repr

/-- The NOR as the Parser knows it (R103 to R108): what it discovered, the read it selected, the commands it issued last. -/
structure Parser where
  discovered : Bool := false
  table : Option Sfdp := none
  read : NorCmd := ⟨0x03, none, 0, 1, 25000⟩
  issued : List NorCmd := []
  sfdp : Bool := false
  quad : Bool := false
  density : Nat := 0
  waitAt : Nat := 0
  hdrA : List Byte := []
  hdrB : List Byte := []
  first : Nat := 0
  reading : Nat := 0
  both : Bool := false
  verified : List Byte := []
  source : Nat := 0
  xtalReq : Bool := false
  vaonCap : Nat := 0
  stopped : Bool := false
  waiting : Bool := false
  noNor : Bool := false
  fallback : Bool := false
  deriving DecidableEq, Repr

/-! ## Phases -/

/-- One phase: the Front die's phase-state entry, its measurement and timing state, and the image settings that have no
register field of their own. The instants of the PWM generator (`onAt`, `nextAt`, `leftAt`, `offAt`, `triAt`, `chgAt`, `bstTill`,
`hiFrom`, `seenAt`) are in ticks (R194). -/
structure Phase where
  sw : Sw := .unused
  health : Health := .ok
  obsCnt : Nat := 0
  failCause : Nat := 0
  gm : Nat := 0
  lnh : Nat := 0
  rank : Nat := 0
  pairFailBoth : Bool := false
  smpSum : Int := 0
  smpN : Nat := 0
  satRun : Nat := 0
  lastAdc : Int := 0
  ihat : Int := 0
  pred : Int := 0
  acc : Int := 0
  periods : Nat := 0
  shedFrom : Int := 0
  rsv : Nat := 0
  ton : Nat := 0
  ofsNow : Nat := 0
  onAt : Nat := 0
  nextAt : Nat := 0
  ended : Bool := true
  pulse : Bool := false
  pairCut : Nat := 0
  applied : Nat := 0
  hiFrom : Nat := 0
  seenAt : Nat := 0
  bstDue : Bool := false
  cutNow : Bool := false
  cutAny : Bool := false
  cutTflt : Bool := false
  cmpBad : Bool := false
  switched : Bool := false
  allHigh : Bool := false
  npkTri : Bool := false
  pairClamped : Bool := false
  pairShift : Nat := 0
  skipFirst : Bool := false
  triPend : Bool := false
  lsSince : Bool := false
  leftAt : Nat := 0
  faultSince : Option Nat := none
  okSince : Option Nat := none
  tfltTimes : List Nat := []
  tfltHeld : Bool := false
  cohTimes : List Nat := []
  cohStuck : Bool := false
  offAt : Nat := 0
  triAt : Nat := 0
  chgAt : Nat := 0
  bstTill : Nat := 0
  braking : Bool := false
  deriving DecidableEq, Repr

/-! ## Rails -/

/-- The RAIL section and the rail records of PHASE and PROTECTION that have no register field (Tables 4.4, 6.6, 10.13). -/
structure RailCfg where
  present : Bool := false
  region : Nat := 0
  enabled : Bool := false
  critical : Bool := false
  spans : Bool := false
  order : Nat := 0
  mask : Nat := 0
  boot : Nat := 0
  delay : Nat := 0
  divider : Nat := 4096
  retireN : Nat := 0
  balLim : Nat := 0
  phInCost : Nat := 0
  deEnter : Nat := 0
  deExit : Nat := 0
  hsI : Nat := 0
  hsDv : Nat := 0
  deriving DecidableEq, Repr

/-- One compensator set (R129): mantissas are signed, bounds are signed Q1.15. -/
structure Coefs where
  kpM : Int := 0
  kpS : Nat := 0
  kiM : Int := 0
  kiS : Nat := 0
  kdM : Int := 0
  kdS : Nat := 0
  kfM : Int := 0
  kfS : Nat := 0
  koM : Int := 0
  koS : Nat := 0
  imax : Int := 0
  imin : Int := 0
  deriving DecidableEq, Repr

/-- The states of one rail engine (R125, R126), its sampling block (R122) and the downward word it sends on the loop port: the
duty over its parity bit (R13). -/
structure Engine where
  cPrev : Int := 0
  word : Nat := 1
  blkSum : Int := 0
  blkN : Nat := 0
  blkDone : Bool := false
  eLast : Int := 0
  ePrev : Int := 0
  i : Int := 0
  df : Int := 0
  u : Int := 0
  y : Int := 0
  uDem : Int := 0
  ut : Int := 0
  ceil : Int := 32767
  hitHi : Bool := false
  hitLo : Bool := false
  llt : Int := 0
  iSum : Int := 0
  iF : Int := 0
  iSF : Int := 0
  sumHist : List Int := []
  act : Coefs := {}
  actId : Nat := 0
  selId : Nat := 0
  rvin : Nat := 0
  vinAt : Option Nat := none
  rampT0 : Nat := 0
  rampK : Nat := 0
  dac : Nat := 0
  par64 : List Bool := []
  commonU : Int := 0
  openLoop : Bool := false
  addOver : Nat := 0
  startCode : Nat := 0
  evtAt : Option Nat := none
  addWant : Nat := 0
  addCost : Nat := 0
  addWhy : Nat := 1
  deOver : Nat := 0
  lowSince : Option Nat := none
  deSince : Option Nat := none
  auxD : Option Nat := none
  failD : Bool := false
  staleD : Bool := false
  ff : Int := 0
  missPos : Nat := 0
  missNeg : Nat := 0
  clipAt : Option Nat := none
  deriving DecidableEq, Repr

/-- The Front die's side of a rail: sampling, the large-signal path, the windows, the stop in progress, and the tick at which its
rail counter last stood at 0 (R195). -/
structure Front where
  duty : Nat := 0
  dutyGood : Nat := 0
  lp16 : List Bool := []
  code : Int := 0
  snsRun : Nat := 0
  clipRun : Nat := 0
  frz : List (Int × Nat) := []
  frzDone : Bool := false
  ls : LsAct := .none
  lsAt : Nat := 0
  upRun : Nat := 0
  dnRun : Nat := 0
  noUpTill : Nat := 0
  noDnTill : Nat := 0
  brkN : Nat := 0
  brkWin : Nat := 0
  brkTill : Nat := 0
  brkRec : Nat := 0
  dacHist : List (Nat × Nat) := []
  ovRun : Nat := 0
  ovaRun : Nat := 0
  ovaVsa : Bool := false
  uvRun : Nat := 0
  cbLowAt : Option Nat := none
  cbCause : Nat := 0
  cbAt : Nat := 0
  pgAt : Nat := 0
  regAt : Nat := 0
  hicAt : Nat := 0
  senAt : Nat := 0
  senLead : Bool := false
  stop : StopKind := .toOff
  stopCause : Nat := 0
  fallAt : Option Nat := none
  j10 : Int := 0
  v : Int := 0
  dPn : Nat := 0
  holdJ : Bool := false
  vinF : Nat := 0
  rvinF : Nat := 0
  isum : Int := 0
  takenIn : RailState := .off
  ctDe : Bool := false
  handed : Bool := false
  newWord : Bool := false
  rcAt : Nat := 0
  failAt : Option Nat := none
  failPend : Bool := false
  engAt : Nat := 0
  tested : Bool := false
  started : Bool := false
  passed : Bool := false
  readyAt : Option Nat := none
  inStart : Bool := false
  refTrim : Int := 0
  vs : Int := 0
  va : Int := 0
  uvAt : Nat := 0
  ocAt : Option Nat := none
  frzReq : Bool := false
  was : RailState := .off
  wasAt : Nat := 0
  deriving DecidableEq, Repr

/-! ## Set-points and the Aedat ports -/

/-- The set-point side of a rail that has no register field (R229, R237, R260). For the update `upd` in which the rail last took a
command: what SP_TGT, its owner and its slew limit were before, and the commands accepted in it (source, code, SLEW), in the order of
R233. -/
structure SetPt where
  acc : Nat := 0
  slewLim : Option Nat := none
  vsel : List (Bool × Nat) := []
  spMin : Nat := 0
  spMax : Nat := 0
  p2Min : Nat := 0
  p2Max : Nat := 0
  p1Step : Nat := 0
  upd : Nat := 0
  tgt0 : Nat := 0
  own0 : Nat := 0
  lim0 : Option Nat := none
  cmds : List (Nat × Nat × Nat) := []
  deriving DecidableEq, Repr

/-- A queued notice (Table 8.9): its kind, rail, word, and the NSEQ it took on entering service. -/
structure Notice where
  kind : Nat
  rail : Nat
  word : Nat
  deriving DecidableEq, Repr

/-- The read outstanding on a port (R250): the SEQ of its READ, its result once ready (`none` for a read error), and when it
became ready. -/
structure PortRead where
  seq : Nat
  ready : Bool
  data : Option Nat
  readyAt : Nat
  deriving DecidableEq, Repr

/-! ## Tense -/

/-- The states of a schedule entry (Table 9.3). -/
inductive HintSt where
  | waiting | rising | holding | falling | unwinding | scoring
  deriving DecidableEq, Repr

/-- One schedule entry (R268), with the phases it still asks for (R272) and the updates in which it rose and in which a trip unwound it
(Table 9.6). -/
structure Hint where
  ctx : Nat
  slot : Nat
  a : Int
  due : Nat
  st : HintSt := .waiting
  c : Int := 0
  base : Int := 0
  aeff : Int := 0
  asked : Bool := false
  scored : Bool := false
  want : Nat := 0
  riseUpd : Nat := 0
  tripUpd : Nat := 0
  deriving DecidableEq, Repr

/-- One Aedat port: what it holds beside its registers. -/
structure Port where
  notes : List Notice := []
  nseq : Nat := 0
  noteLost : Bool := false
  wAddr : Option Nat := none
  last : Option (Nat × Nat) := none
  rd : Option PortRead := none
  held : Nat := 0
  busy : Nat := 0
  slot : Nat × Nat := (0, 0)
  fresh : Bool := true
  stuck : Bool := false
  ans : Nat := 0
  goodAt : Nat := 0
  deriving DecidableEq, Repr

/-! ## Rails whole -/

/-- One rail. -/
structure Rail where
  st : RailState := .off
  cfg : RailCfg := {}
  eng : Engine := {}
  fr : Front := {}
  sp : SetPt := {}
  tn : List Hint := []
  deriving DecidableEq, Repr

/-- What one host bus has selected in the recorder (R434): REC_SEL, the HIST and AUTO bits, the captured words, and whether
the selection in force missed without having been told. -/
structure RecBank where
  sel : Nat := 0
  hist : Bool := false
  auto : Bool := false
  cap : List Nat := []
  missDue : Bool := true
  deriving DecidableEq, Repr

/-- The event recorder and the paths into it (R427 to R435): class 1 events on the Front die, Control-die events on their way,
open rate windows, the intake FIFO, the records held (newest first), the last SEQ, and the banks of SPI and PMBus. -/
structure Recorder where
  c1q : List C1 := []
  evq : List Evt := []
  wins : List RateWin := []
  intake : List Evt := []
  recs : List Record := []
  seq : Nat := 0
  spi : RecBank := {}
  pmb : RecBank := {}
  deriving DecidableEq, Repr

/-- A journal commit in progress (R439): its type (1 to 5 of Table 15.4, 6 a history entry), its payload, the VAON sample it
started on, and whether VDD33 was not good. -/
structure Commit where
  kind : Nat
  payload : List Byte
  vs : Nat
  onVaon : Bool
  startAt : Nat
  deriving DecidableEq, Repr

/-- The journal store (R437 to R447): the MRAM by word, the commit queue, the commit in progress, the deferral. -/
structure Journal where
  mram : Store := []
  pend : List (Nat × List Byte) := []
  hist : List Record := []
  hseq : Nat := 0
  busy : Option Commit := none
  lastAt : List (Option Nat) := [none, none, none, none, none]
  deferred : Bool := false
  deferAt : Nat := 0
  changed : Nat := 0
  lost : Nat := 0
  ctN : List Nat := [0, 0, 0, 0, 0]
  ctLast : Nat := 0
  fw : List Byte := []
  deriving DecidableEq, Repr

/-! ## Temperature -/

/-- What a temperature input holds beside its register (R349). -/
structure Sens where
  bad : Nat := 0
  good : Nat := 0
  ever : Bool := false
  failed : Bool := false
  deriving DecidableEq, Repr

/-- One region's settings without a register (Table 12.7) and its level and rate history (R351, R352). -/
structure RegionTh where
  rorLim : Nat := 0
  lowtLim : Int := 0
  lowtD : Nat := 128
  lvl : Nat := 0
  eff : Nat := 0
  hist : List (Option Int) := []
  rise : Nat := 0
  fall : Nat := 0
  deriving DecidableEq, Repr

/-- The housekeeping round and the thermal settings without a register (R343 to R357). Sensors: 0 to 5 the die sensors, 6 to 13
TS0 to TS7, 14 BAT_T, 15 to 46 the TFLT inputs. -/
structure Thermal where
  running : Bool := false
  startAt : Option Nat := none
  next : Nat := 0
  demand : Nat := 0
  owed : Bool := false
  selfRun : Nat := 0
  selfZero : Int := 0
  selfHalf : Int := 0
  busV : Nat := 0
  chgI : Int := 0
  refAb : Int := 0
  refBc : Int := 0
  sens : List Sens := List.replicate 47 {}
  sum : List (Nat × Nat) := List.replicate 32 (0, 0)
  strobe : Nat := 0
  cmp : Nat := 0
  chgOut : Bool := false
  rgn : List RegionTh := [{}, {}, {}, {}]
  sensorD : Nat := 0
  batTab : Option Nat := none
  refinAt : List Nat := [0, 0, 0, 0]
  refinOk : List Bool := [true, true, true, true]
  trimAt : Nat := 0
  tfV0 : Nat := 0
  tfSlope : Nat := 0
  tfVmin : Nat := 0
  tsType : List Nat := [0, 0, 0, 0, 0, 0, 0, 0]
  tsRole : List Nat := [0, 0, 0, 0, 0, 0, 0, 0]
  tsEta : List Nat := [0, 0, 0, 0, 0, 0, 0, 0]
  ntc : List (List Nat) := [[], []]
  deriving DecidableEq, Repr

/-! ## Pack -/

/-- The PACK section's settings without a register (Table 13.9). -/
structure PackCfg where
  rshunt : Nat := 0
  rchg : Nat := 0
  vcv : Nat := 0
  vrech : Nat := 0
  vpre : Nat := 0
  veod : Nat := 0
  vmin : Nat := 0
  ichg : Nat := 0
  ipre : Nat := 0
  iterm : Nat := 0
  itest : Nat := 0
  restI : Nat := 0
  idisOc : Nat := 0
  huTmax : Nat := 0
  ocvTc : Int := 0
  huProbe : Nat := 0
  probeT : Nat := 0
  chgTimer : Nat := 0
  preTmax : Nat := 0
  termT : Nat := 0
  restT : Nat := 0
  slopeMin : Nat := 0
  swapD : Nat := 0
  lrnD : Nat := 0
  lrnTmin : Int := 0
  lrnTmax : Int := 0
  lrnStep : Nat := 0
  lrnImax : Nat := 0
  sohEol : Nat := 0
  disTmin : Int := 0
  disTmax : Int := 0
  testInt : Nat := 0
  eodN : Nat := 0
  ocv : List Nat := []
  qres : List Nat := []
  rpack : List Nat := []
  deriving DecidableEq, Repr

/-- The pack, charger and pack switch (R361 to R391): what they hold beside their registers. -/
structure Pack where
  cfg : PackCfg := {}
  inLost : Bool := false
  gate : Bool := false
  busGood : Bool := false
  huAt : Nat := 0
  huAcc : Int := 0
  probing : Bool := false
  probeV : Nat := 0
  probeRev : Bool := false
  floorRun : Nat := 0
  eodRun : Nat := 0
  upRun : Nat := 0
  dnRun : Nat := 0
  seen : Bool := false
  insHold : Bool := false
  firstEst : Bool := false
  ccRaw : Nat := 0
  qbase : Nat := 0
  cbase : Int := 0
  allow : Nat := 0
  iHist : List (Nat × Int) := []
  vUv : Nat := 0
  restAt : Option Nat := none
  recRest : Bool := false
  retryWait : Bool := false
  swLow : Nat := 0
  chgAt : Nat := 0
  test : Nat := 0
  testV0 : Nat := 0
  testRetry : Bool := false
  testAt : Nat := 0
  termAt : Option Nat := none
  rechAt : Option Nat := none
  ovpAt : Option Nat := none
  retryAt : Nat := 0
  insAt : Nat := 0
  probeAt : Nat := 0
  lrnRef : Nat := 0
  lrnAcc : Int := 0
  lrnAt : Nat := 0
  lrnOver : Nat := 0
  capAt : Nat := 0
  disAcc : Nat := 0
  disQ : Nat := 0
  disBase : Int := 0
  asocQ : Nat := 0
  recAt : Nat := 0
  eolTold : Bool := false
  jrec : Option (List Byte) := none
  deriving DecidableEq, Repr

/-! ## Security -/

/-- An OTP key slot (Table 14.5): the SHA-256 of a public key as a number (0: never programmed), its TYPE bits (1 IMAGE,
2 SERVICE, 0 root), GEN, ACTIVE and RETIRED. -/
structure KeySlot where
  hash : Nat := 0
  typ : Nat := 0
  gen : Nat := 0
  active : Bool := false
  retired : Bool := false
  deriving DecidableEq, Repr

/-- An OTP image-key slot (Table 14.5): the wrapped key with its IV and tag, and GEN. -/
structure Iek where
  used : Bool := false
  iv : Nat := 0
  ct : Nat := 0
  tag : Nat := 0
  gen : Nat := 0
  retired : Bool := false
  deriving DecidableEq, Repr

/-- The OTP of the part (R406, Table 14.5) and the PUF's device key (R408). The thermometers are held as their programmed
bits. The contents at `State.reset` are those of one part fresh from final test: a device key of zeros, the certificate of
the identity key it gives, and the hash of one root key. -/
structure Otp where
  unowned : Bool := true
  decomm : Bool := false
  ownBits : Nat := 0
  slots : List KeySlot :=
    { hash := 0xd875db7def232236aec738c6b0bb3e80142f5d0fd8f4df24fed6eef5cbb50d9f, active := true : KeySlot }
      :: List.replicate 11 {}
  ieks : List Iek := List.replicate 8 {}
  rbBits : Nat := 0
  cert : Nat := 0x8adf12a5ad1633bd6bc6ca547f22f01b1b93b4f583dc6282e159375106d2867971c093ea9f23505d481699713b3fc4091c4f1219ba742077ff225fbda132ee817cf27b188d034f7e8a52380304b51ac3c08969e277f21b35a60b48fc47669978824acede893f9968ad6d9a1a7a7962365845387dce1c38c4c9316d0b26fdb507
  puf : Bool := true
  kdev : Nat := 0
  tapDis : Bool := false
  failN : Nat := 0
  deriving DecidableEq, Repr

/-- An M5 READ or WRITE that waits for the Front die: its operation, address and CSEQ. -/
structure SessCmd where
  op : Nat
  addr : Nat
  cseq : Nat
  deriving DecidableEq, Repr

/-- The session mailbox, the handshake and the session (R412 to R420), the consents and the test port. -/
structure Sec where
  st : Nat := 0
  bus : Nat := 0
  sid : Nat := 0
  rights : Nat := 0
  slot : Nat := 0
  push : List Nat := []
  pop : List Nat := []
  rxLen : Nat := 0
  rxReady : Bool := false
  busy : Bool := false
  lastRes : Nat := 0
  msgBus : Nat := 0
  msg : List Byte := []
  m1 : List Byte := []
  m2 : List Byte := []
  eph : Nat := 0
  ks : List Byte := []
  cseq : Nat := 0
  hsAt : Nat := 0
  msgAt : Nat := 0
  goAt : Nat := 0
  openAt : Nat := 0
  lifeMin : Nat := 0
  wait : Option SessCmd := none
  ending : Option Nat := none
  lastFail : Nat := 0
  locked : Bool := false
  lockTold : Bool := false
  cons : List Nat := [0, 0, 0, 0, 0, 0, 0, 0]
  consMax : Nat := 30
  idleS : Nat := 60
  sessMax : Nat := 240
  rightsMask : Nat := 0x3F
  tapOpen : Bool := false
  tapMode : Nat := 0
  signer : Option Nat := none
  ieksUsed : List Nat := []
  deriving DecidableEq, Repr

/-- One shaped stream of one Person class (R401). -/
structure Stream where
  acc : Int := 0
  out : Int := 0
  cnt : Nat := 0
  deriving DecidableEq, Repr

/-- The shaped streams (Table 14.4): rail current and voltage for P1 and P2, phase current, pack current. -/
structure Telemetry where
  ri1 : List Stream := List.replicate 8 {}
  ri2 : List Stream := List.replicate 8 {}
  rv1 : List Stream := List.replicate 8 {}
  rv2 : List Stream := List.replicate 8 {}
  ph : List Stream := List.replicate 32 {}
  pkBase : Int := 0
  pkOut : Int := 0
  ends : List Nat := [0, 0, 0]
  deriving DecidableEq, Repr

/-! ## Host links -/

/-- A completed SPI READ or WRITE that has not been answered (R453). -/
structure SpiRes where
  op : Nat
  tag : Nat
  res : Nat
  data : Nat
  deriving DecidableEq, Repr

/-- The host SPI: the transaction that waits for the Front die, the result to report, and the words last driven on HSDO. -/
structure Spi where
  busy : Option (Nat × Nat) := none
  last : Option SpiRes := none
  word : Nat := 0xFFFFFFFF
  data : Nat := 0xFFFFFFFF
  deriving DecidableEq, Repr

/-- The PMBus interface: the register access port (R465), the masks (R463, keyed by page × 256 + command), the answer last
driven, and whether the last command byte was NACKed. -/
structure Pmbus where
  regAddr : Nat := 0
  regData : Option Nat := none
  regStatus : Nat := 15
  regBusy : Bool := false
  stretch : Bool := false
  pubSel : Nat := 0
  maskCmd : Nat := 0
  masks : Store := []
  released : Bool := false
  seen : Nat := 0
  out : List Byte := []
  nack : Bool := false
  deriving DecidableEq, Repr

/-- A frame of the Conjunction Link (R469, Table 16.6). -/
structure CjFrame where
  typ : Nat
  src : Nat
  seq : Nat
  payload : Nat
  deriving DecidableEq, Repr

/-- What the leader knows of a controller (R472 to R480). -/
structure Peer where
  joined : Bool := false
  lost : Bool := false
  seen : Option Nat := none
  lostAt : Nat := 0
  ready : Bool := false
  nSw : Nat := 0
  nLive : Nat := 0
  ilim : Nat := 0
  iLoc : Int := 0
  deriving DecidableEq, Repr

/-- The Conjunction Link interface (R468 to R482). -/
structure Cj where
  peers : List Peer := [{}, {}, {}, {}]
  seq : Nat := 0
  sent : Option Nat := none
  txq : List (Nat × Nat) := []
  outFrame : Option CjFrame := none
  target : Option CjFrame := none
  infoAt : Nat := 0
  infoLast : Nat := 0
  statAt : Nat := 0
  f : Int := 0
  rstate : Nat := 0
  evState : Option Nat := none
  prepos : Bool := false
  islandAt : Nat := 0
  goodRun : Nat := 0
  leaderLost : Bool := false
  lostAt : Nat := 0
  parseEnd : Nat := 0
  refused : Bool := false
  told : Bool := false
  taken : Bool := false
  ringAt : Nat := 0
  targetAt : Nat := 0
  leaderAt : Nat := 0
  joinAt : Option Nat := none
  deriving DecidableEq, Repr

/-- The whole block. -/
structure State where
  now : Nat := 0
  pending : List Instr := []
  cz1604 : Bool := false
  mode : Mode := .dormant
  regs : Store := []
  img : Store := []
  pow : Power := {}
  br : Bridge := {}
  par : Parser := {}
  sets : Store := []
  mirPh : List (Sw × Health × Nat × Nat) := List.replicate 32 (.unused, .ok, 0, 0)
  mirRail : List RailState := List.replicate 8 .off
  phases : Vector Phase 32 := Vector.replicate 32 {}
  rails : Vector Rail 8 := Vector.replicate 8 {}
  ports : Vector Port 2 := Vector.replicate 2 {}
  rcd : Recorder := {}
  spi : Spi := {}
  pmb : Pmbus := {}
  cj : Cj := {}
  otp : Otp := {}
  sec : Sec := {}
  tlm : Telemetry := {}
  jrn : Journal := {}
  pk : Pack := {}
  th : Thermal := {}
  ctx0 : Nat := 0
  ctxs : Store := []
  rings : Store := []
  code : List Byte := []
  entry : Nat := 0
  deriving DecidableEq, Repr

/-- The fields picked take their reset values (R487). -/
def resetRegs (m : Store) (p : Fld → Bool) : Store :=
  let kept := m.drop (fun k => match fieldOfKey k with
    | some f => p f
    | none => false)
  (allFields.filter (fun f => f.reset != 0 && p f)).foldl
    (fun m f => (List.range f.count).foldl (fun m i => m.set (f.key i) f.reset) m) kept

/-- What survives a VAON power-on reset: the part itself and its nonvolatile cells. -/
def State.keep (r s : State) : State := { r with cz1604 := s.cz1604, jrn.mram := s.jrn.mram, otp := s.otp }

/-- The block right after a VAON power-on reset: DORMANT, every register at its reset value, no supply but VAON good. -/
def State.reset : State :=
  let regs := resetRegs [] (fun _ => true)
  let off := [F.SUPPLY_STATUS_VDD33_GOOD, F.SUPPLY_STATUS_VDDIO_GOOD, F.SUPPLY_STATUS_VCORE_GOOD, F.SUPPLY_STATUS_AL_IO_GOOD,
    F.SUPPLY_STATUS_VDDIO_MODE, F.CLK_STATUS_LFOSC_OK]
  { regs := off.foldl (fun m f => m.set (f.key 0) 0) regs
    pow := { porSeen := true } }

/-- The faults of the block. No meaning raises one: every command the spec describes has an effect or none. -/
inductive Fault where
  /-- Raised by no command. Safe: a stop allows less than the hardware, never more. -/
  | unreachable
  deriving DecidableEq, Repr

/-- The refusals. -/
inductive Refusal where
  /-- A command whose meaning the model does not give yet. Raised by `exec` only. Safe. -/
  | notModelled (mnemonic : String)
  /-- A Zilura test instruction shifted into the test port of a MANUFACTURED part: the spec says that it exists and gives
  no effect (R424). Raised by TEST_PORT_INSTRUCTION. Safe. -/
  | manufacturerTest
  deriving DecidableEq, Repr

end Sys2Proof.Machine
end

