-- ==== Sys2Proof/Machine/Ops.lean ====
section
/-!
DEFINITION. The shared operations: registers, records, phase and rail states, stops, device-latching faults, notices
and mode transitions. Every meaning is written over these.
-/
namespace Sys2Proof

/-- Codes of Table 15.9. -/
def Person.code : Person → Nat
  | .fw => 0 | .p1 => 1 | .p2 => 2 | .p3 => 3
/-- Codes of CT_CAUSE (R325). -/
def CtCause.code : CtCause → Nat
  | .lockstep => 1 | .watchdog => 2 | .heartbeat => 3 | .loopPort => 4 | .vcore => 5

end Sys2Proof

namespace Sys2Proof.Machine

/-! ## Instances -/

/-- The rails of the package. -/
def allRails : List (Fin 8) := [0, 1, 2, 3, 4, 5, 6, 7]
/-- The phases of the package. -/
def allPhases : List (Fin 32) :=
  [0, 1, 2, 3, 4, 5, 6, 7, 8, 9, 10, 11, 12, 13, 14, 15, 16, 17, 18, 19, 20, 21, 22, 23, 24, 25, 26, 27, 28, 29, 30, 31]
/-- The regions. -/
def allRegions : List (Fin 4) := [0, 1, 2, 3]
/-- The Aedat ports. -/
def allPorts : List (Fin 2) := [0, 1]

/-- Apply `f` when `c` holds. -/
def State.when (s : State) (c : Bool) (f : State → State) : State := if c then f s else s

/-- The clock of the model moves forward to the instant of the event. -/
def State.at (s : State) (t : Nat) : State := { s with now := max s.now t }

/-! ## Registers -/

/-- Present value of a field. -/
def State.get (s : State) (f : Fld) (i : Nat := 0) : Nat := s.regs.get (f.key i)
/-- Present value of a signed field. -/
def State.getI (s : State) (f : Fld) (i : Nat := 0) : Int := toS f.width (s.get f i)
/-- A field read as a flag. -/
def State.flag (s : State) (f : Fld) (i : Nat := 0) : Bool := s.get f i != 0
/-- Set a field. -/
def State.set (s : State) (f : Fld) (i v : Nat) : State := { s with regs := s.regs.set (f.key i) (v % 2 ^ f.width) }
/-- Set a signed field. -/
def State.setI (s : State) (f : Fld) (i : Nat) (v : Int) : State := s.set f i (ofS f.width v)
/-- Set a field to 1. -/
def State.mark (s : State) (f : Fld) (i : Nat := 0) : State := s.set f i 1
/-- Set a field to 0. -/
def State.clear (s : State) (f : Fld) (i : Nat := 0) : State := s.set f i 0
/-- Set a field to a Boolean. -/
def State.setB (s : State) (f : Fld) (i : Nat) (b : Bool) : State := s.set f i (b2n b)
/-- Count up, saturating. -/
def State.inc (s : State) (f : Fld) (i : Nat := 0) : State := s.set f i (incSat f.width (s.get f i))
/-- Count up, wrapping. -/
def State.incWrap (s : State) (f : Fld) (i : Nat := 0) : State := s.set f i (s.get f i + 1)
/-- The image value of a protective field (R34). -/
def State.imgGet (s : State) (f : Fld) (i : Nat := 0) : Nat := s.img.get (f.key i)
/-- Eight registers of a group. -/
def State.words8 (s : State) (f : Fld) : List Nat := (List.range 8).map (fun i => s.get f i)
/-- Load a field from the configuration: its register and its image value (Table 4.8). -/
def State.load (s : State) (f : Fld) (i v : Nat) : State :=
  { s.set f i v with img := s.img.set (f.key i) (v % 2 ^ f.width) }

/-- The Front die's copy of an engine field (R140, R328), which follows every load and every write of it. -/
def State.copy (s : State) (f : Fld) (i : Nat := 0) : Nat := s.imgGet f i

/-! ## Typed parts -/

/-- One rail. -/
def State.rail (s : State) (r : Fin 8) : Rail := s.rails[r]
/-- Change one rail. -/
def State.modRail (s : State) (r : Fin 8) (f : Rail → Rail) : State :=
  { s with rails := s.rails.set r (f s.rails[r]) }
/-- One phase. -/
def State.ph (s : State) (n : Fin 32) : Phase := s.phases[n]
/-- Change one phase. -/
def State.modPh (s : State) (n : Fin 32) (f : Phase → Phase) : State :=
  { s with phases := s.phases.set n (f s.phases[n]) }
/-- State of a rail. -/
def State.st (s : State) (r : Fin 8) : RailState := (s.rail r).st
/-- Engine of a rail. -/
def State.eng (s : State) (r : Fin 8) : Engine := (s.rail r).eng
/-- Front-die side of a rail. -/
def State.fr (s : State) (r : Fin 8) : Front := (s.rail r).fr
/-- Settings of a rail without a register. -/
def State.cfg (s : State) (r : Fin 8) : RailCfg := (s.rail r).cfg
/-- Change the engine of a rail. -/
def State.modEng (s : State) (r : Fin 8) (f : Engine → Engine) : State := s.modRail r (fun x => { x with eng := f x.eng })
/-- Change the Front-die side of a rail. -/
def State.modFr (s : State) (r : Fin 8) (f : Front → Front) : State := s.modRail r (fun x => { x with fr := f x.fr })
/-- Change the set-point side of a rail. -/
def State.modSp (s : State) (r : Fin 8) (f : SetPt → SetPt) : State := s.modRail r (fun x => { x with sp := f x.sp })
/-- Fold over the rails. -/
def State.onRails (s : State) (f : State → Fin 8 → State) : State := allRails.foldl f s
/-- Fold over the phases. -/
def State.onPhases (s : State) (f : State → Fin 32 → State) : State := allPhases.foldl f s

/-- A rail is switching in RAMP, REG, SHED or RAMPDOWN (R74). -/
def RailState.switching : RailState → Bool
  | .ramp | .reg | .shed | .rampdown => true
  | _ => false
/-- Codes of Table 3.4. -/
def RailState.code : RailState → Nat
  | .off => 0 | .armed => 1 | .ramp => 2 | .reg => 3 | .shed => 4 | .hiccup => 5 | .rampdown => 6 | .latched => 7
  | .caretaken => 8
/-- Codes of Table 3.8. -/
def Mode.code : Mode → Nat
  | .dormant => 0 | .wake => 1 | .parse => 2 | .precheck => 3 | .softstart => 4 | .regulate => 5 | .shed => 6
  | .holdup => 7 | .hiccup => 8 | .caretaker => 9 | .safestop => 10 | .service => 11
/-- The running modes (R74). -/
def Mode.running : Mode → Bool
  | .softstart | .regulate | .shed | .hiccup | .holdup => true
  | _ => false
/-- Codes of Table 6.1. -/
def Sw.code : Sw → Nat
  | .unused => 0 | .idle => 1 | .adding => 2 | .active => 3 | .shedding => 4 | .stopped => 5
/-- A phase in ADDING, ACTIVE or SHEDDING switches. -/
def Sw.switching : Sw → Bool
  | .adding | .active | .shedding => true
  | _ => false
/-- Codes of Table 6.1. -/
def Health.code : Health → Nat
  | .ok => 0 | .watch => 1 | .failed => 2 | .retired => 3
/-- PWM_STATUS.LEVEL codes. -/
def Level.code : Level → Nat
  | .tri => 0 | .low => 1 | .high => 2

/-! ## Rails and their phases -/

/-- The rail of a phase. -/
def State.railOf (s : State) (n : Fin 32) : Fin 8 := Fin.ofNat 8 (s.get F.PH_STATE_RAIL n)
/-- The phase is assigned to the rail. -/
def State.onRail (s : State) (r : Fin 8) (n : Fin 32) : Bool := s.flag F.PH_STATE_ASSIGNED n && s.railOf n == r
/-- The phases assigned to a rail, in number order. -/
def State.phasesOf (s : State) (r : Fin 8) : List (Fin 32) := allPhases.filter (s.onRail r)
/-- The region of a rail. -/
def State.regionOf (s : State) (r : Fin 8) : Fin 4 := Fin.ofNat 4 (s.cfg r).region
/-- A phase is TFLT-latched, window-stopped, forced to tri-state or on coherence hold: not live (R169, R204, R216, R295, R339). -/
def State.blocked (s : State) (n : Fin 32) : Bool :=
  s.flag F.PWM_STATUS_TFLT_LATCH n || s.flag F.PH_PROT_PHW_STOP n || s.flag F.PWM_CTRL_FORCE_TRI n
    || (s.get F.COH_HOLD_HOLD).testBit n.val || (s.ph n).tfltHeld
/-- A phase is live: assigned, health OK or WATCH, and not stopped by a detector (R26, R154, R169). -/
def State.live (s : State) (n : Fin 32) : Bool :=
  s.flag F.PH_STATE_ASSIGNED n && ((s.ph n).health == .ok || (s.ph n).health == .watch) && !s.blocked n
/-- The live phases of a rail. -/
def State.liveOf (s : State) (r : Fin 8) : List (Fin 32) := (s.phasesOf r).filter s.live
/-- The switching phases of a rail. -/
def State.switchingOf (s : State) (r : Fin 8) : List (Fin 32) := (s.phasesOf r).filter (fun n => (s.ph n).sw.switching)
/-- The IDLE live phases of a rail. -/
def State.idleOf (s : State) (r : Fin 8) : List (Fin 32) :=
  (s.liveOf r).filter (fun n => (s.ph n).sw == .idle)
/-- Sum over phases. -/
def sumOver (l : List (Fin 32)) (f : Fin 32 → Int) : Int := l.foldl (fun a n => a + f n) 0
/-- The sum of ILIM_PHASE over the live phases (R28, R301). -/
def State.ilimSum (s : State) (r : Fin 8) : Nat := (s.liveOf r).foldl (fun a (n : Fin 32) => a + s.get F.PH_CFG_ILIM_PHASE n) 0

/-- The DAC code of a rail: the ramp or slew code with REF_TRIM added (R227, R312). -/
def State.dacCode (s : State) (r : Fin 8) : Nat := (satU 12 ((s.eng r).dac + (s.fr r).refTrim)).toNat

/-- Set the switching state of a phase. -/
def State.setSw (s : State) (n : Fin 32) (w : Sw) : State := s.modPh n (fun p => { p with sw := w })
/-- Set a ball level (R200). -/
def State.setLevel (s : State) (n : Fin 32) (l : Level) : State := s.set F.PWM_STATUS_LEVEL n l.code

/-- Codes of the levels read back. -/
def State.level (s : State) (n : Fin 32) : Level :=
  if s.get F.PWM_STATUS_LEVEL n == 2 then .high else if s.get F.PWM_STATUS_LEVEL n == 1 then .low else .tri

/-- The present instant in ticks of 78.125 ps: 64 ticks are 5 ns (R194). -/
def State.tick (s : State) : Nat := s.now * 64 / 5

/-- The number of the present 20 ns update, from 1. -/
def State.upd (s : State) : Nat := s.now / 20 + 1

/-- The last BUS_V sample is not older than 10 µs (R163). -/
def State.busFresh (s : State) : Bool := s.pow.busVAt.any (fun t => decide (s.now ≤ t + 10000))

/-- Bring the output of a phase to a level at a tick, keeping the instants that R162, R198, R201, R206 and the minimum off-time need. A
pulse that is ended by anything but a bootstrap refresh is over for its period (R198). -/
def State.toLevelAt (s : State) (n : Fin 32) (l : Level) (tk : Nat) : State :=
  let old := s.level n
  if old == l then s else
  let s := s.modPh n (fun p => { p with
    chgAt := tk
    offAt := if old == .high then tk else p.offAt
    triAt := if l == .tri then tk else p.triAt
    applied := if old == .high then p.applied + (tk - p.hiFrom) else p.applied
    hiFrom := if l == .high then tk else p.hiFrom
    pulse := p.pulse && (old != .high || decide (tk < p.bstTill))
    allHigh := p.allHigh && l == .high
    switched := p.switched || l == .high })
  s.setLevel n l
/-- Bring the output of a phase to a level now. -/
def State.toLevel (s : State) (n : Fin 32) (l : Level) : State := s.toLevelAt n l s.tick

/-- Every PWM ball of a rail goes TRI. -/
def State.triRail (s : State) (r : Fin 8) : State := (s.phasesOf r).foldl (fun s n => s.toLevel n .tri) s

/-- Insert a phase into a list of rising rank. -/
def rankInsert (rank : Fin 32 → Nat) (n : Fin 32) : List (Fin 32) → List (Fin 32)
  | [] => [n]
  | m :: l => if rank n < rank m then n :: m :: l else m :: rankInsert rank n l
/-- The phases in ascending rank; equal ranks keep their order. -/
def rankSort (rank : Fin 32 → Nat) (l : List (Fin 32)) : List (Fin 32) := l.foldl (fun acc n => rankInsert rank n acc) []

/-- The period of a phase in ticks: PER_MEAS while its rail follows a present SYNCI, else PERIOD (R194, R221). -/
def State.period (s : State) (n : Fin 32) : Nat :=
  if s.flag F.SYNC_CFG_SYNC_EN && (s.get F.SYNC_STATUS_SYNC_RAILS).testBit (s.railOf n).val
    && s.flag F.SYNC_STATUS_SYNCI_PRESENT then s.get F.SYNC_STATUS_PER_MEAS else s.get F.PWM_PERIOD_PERIOD n
/-- The period of a rail, which its phases share (R172). -/
def State.railPeriod (s : State) (r : Fin 8) : Nat :=
  match s.phasesOf r with
  | n :: _ => s.period n
  | [] => 0
/-- The ticks since a counter of the given period passed 0 at tick `z`. -/
def since (per z tk : Nat) : Nat := (tk + (per - z % per)) % per
/-- The rail counter RC (R195): it advances with the ticks, 32 in a base clock, and keeps the remainder at every wrap. Its count runs
from 0 at the instant 0 of the model's clock (DESIGN CHOICE, log 166). -/
def State.rc (s : State) (r : Fin 8) : Nat := since (s.railPeriod r) (s.fr r).rcAt s.tick
/-- The next tick at which PC_k of a phase passes 0 at its placed offset (R196). -/
def State.nextPass (s : State) (n : Fin 32) : Nat :=
  let per := s.period n
  s.tick + (per - since per ((s.fr (s.railOf n)).rcAt + s.get F.PH_PLACE_OFFSET n) s.tick)

/-- The placed offsets of a rail's switching phases in ascending PLACE_RANK: floor(k × PERIOD / n) (R173, R221). A phase that has not
turned on yet starts at its placed offset (R181). -/
def State.place (s : State) (r : Fin 8) : State :=
  let sw := rankSort (fun n => (s.ph n).rank) (s.switchingOf r)
  let n := sw.length
  (sw.foldl (fun (sk : State × Nat) (p : Fin 32) =>
    let o := sk.2 * sk.1.period p / n
    let s := sk.1.set F.PH_PLACE_OFFSET p o
    let s := s.when (s.ph p).skipFirst (fun s => s.modPh p (fun q => { q with ofsNow := o, nextAt := s.nextPass p }))
    (s, sk.2 + 1)) (s, 0)).1

/-- A rail has reached PGOOD or has left the start sequence: the first of these events of a start counts (R100). -/
def State.leftStart (s : State) (r : Fin 8) : State := s.modFr r (fun f => { f with readyAt := some (f.readyAt.getD s.now) })

/-- A rail takes a state. In OFF, ARMED and LATCHED its phases that no detector stopped read UNUSED; in HICCUP they
read IDLE (Table 6.1, R213). Outside REG, SHED and CARETAKEN PGOOD is low (R300) and
the under-voltage reading is inside (R299); outside the switching states the
Pronoun integrator is 0 (R329). -/
def State.setRail (s : State) (r : Fin 8) (st : RailState) : State :=
  let s := s.modRail r (fun x => { x with st := st })
  let s := if st == .off || st == .latched then s.leftStart r else s
  let s := if st == .off || st == .armed || st == .latched then
      (s.phasesOf r).foldl (fun s n => if (s.ph n).sw == .stopped then s else s.setSw n .unused) s
    else if st == .hiccup then
      (s.phasesOf r).foldl (fun s n => if (s.ph n).sw == .stopped then s else s.setSw n .idle) s
    else s
  let s := if st == .reg || st == .shed || st == .caretaken then s
    else ((s.clear F.RP_STATUS_PGOOD_ST r).clear F.RP_STATUS_UV_RD r).modFr r (fun f => { f with uvRun := 0 })
  if st.switching || st == .caretaken then s else s.modFr r (fun f => { f with j10 := 0, ls := .none })

/-- SEN of a rail. -/
def State.setSen (s : State) (r : Fin 8) (b : Bool) : State := s.setB F.SEN_CFG_SEN_STATE r b

/-- A rail stops: SEN is low, what its run had begun is over, and it takes the state given, OFF or LATCHED. -/
def State.railRest (s : State) (r : Fin 8) (st : RailState) : State :=
  let s := ((s.setRail r st).setSen r false).modEng r (fun e => { e with openLoop := false })
  s.modFr r (fun f => { f with tested := false, started := false, passed := false, fallAt := none, stop := .toOff,
                                stopCause := 0, frz := [], frzDone := false })
/-- When a rail enters OFF it returns to its main sense and drops the derate of the auxiliary one (R286, R308). -/
def State.railOff (s : State) (r : Fin 8) : State :=
  (((s.railRest r .off).clear F.RP_STATUS_SNS_AUX r).clear F.RP_STATUS_SNS_CAUSE r).modEng r (fun e => { e with auxD := none })

/-! ## Records -/

/-- The codes that their chapters mark rate-limited (R518). -/
def rateLimited : List Nat :=
  [0x0503, 0x0504, 0x0505, 0x0601, 0x0606, 0x0608, 0x0701, 0x0707, 0x0801, 0x0804, 0x0805, 0x0904,
   0x0905, 0x0908, 0x0A01, 0x0A05, 0x0D04, 0x0E01, 0x0F01, 0x0F07, 0x1001]

/-- Put an event on its way: a Front-die event into the class 1 path (R16; at most 32 while in CARETAKER, R327), a
Control-die event toward the intake. -/
def State.emit (s : State) (e : Evt) (react : React) : State :=
  if e.front then
    let q := s.rcd.c1q
    if e.ct && q.length ≥ 32 then
      match q.findIdx? (fun c => c.evt.count.isSome) with
      | some i =>
        let bump := fun (e : Evt) =>
          { e with items := e.items.take 2 ++ (e.items.drop 2).map (fun it => (it.1, it.2 + 1)) }
        let q' := (q.eraseIdx i).map (fun c => if c.evt.code == 0x0B01 then { c with evt := bump c.evt } else c)
        { s with rcd.c1q := q' ++ [⟨e, react⟩] }
      | none => s
    else { s with rcd.c1q := q ++ [⟨e, react⟩] }
  else { s with rcd.evq := s.rcd.evq ++ [e] }

/-- The stamp of an event (R427, R429). -/
def State.stamp (s : State) (front : Bool) (code unit : Nat) (items : List (Nat × Int)) : Evt :=
  { code := code, unit := unit, items := items, count := none, front := front, ct := s.mode == .caretaker,
    mode := s.mode.code, epoch := s.get F.PK_CC_CC_EPOCH, time := (s.now - s.pow.dormExit) / 1000 }

/-- Set bits of a status byte, which latch until CLEAR_FAULTS (R461). -/
def State.pmbBits (s : State) (f : Fld) (r v : Nat) : State := s.set f r (s.get f r ||| v)
/-- The status bits that an event record sets (Table 16.4). -/
def State.pmbRec (s : State) (code unit : Nat) (items : List (Nat × Int)) : State :=
  let all := fun (s : State) (f : Fld) (v : Nat) => (List.range 8).foldl (fun s r => s.pmbBits f r v) s
  if code = 0x0A03 ∨ code = 0x0A04 then (s.pmbBits F.PMB_RSTAT_STATUS_VOUT unit 128).pmbBits F.PMB_RSTAT_STATUS_WORD unit 32
  else if code = 0x0A06 then (s.pmbBits F.PMB_RSTAT_STATUS_IOUT unit 128).pmbBits F.PMB_RSTAT_STATUS_WORD unit 16
  else if code = 0x0A05 then if items.getD 2 (2, 0) = (2, 1) then s.pmbBits F.PMB_RSTAT_STATUS_VOUT unit 16 else s
  else if code = 0x0A0E then all s F.PMB_RSTAT2_STATUS_MFR 32
  else if code = 0x0A16 then
    if items.getD 0 (1, 0) = (1, 2) then all s F.PMB_RSTAT2_STATUS_INPUT 128
    else if items.getD 0 (1, 0) = (1, 7) then all s F.PMB_RSTAT2_STATUS_TEMP 128 else s
  else if code = 0x0901 then s.pmbBits F.PMB_RSTAT2_STATUS_MFR (items.getD 1 (1, 0)).2.toNat 4
  else if code = 0x0B05 then s.pmbBits F.PMB_RSTAT2_STATUS_MFR (s.railOf (Fin.ofNat 32 unit)) 2
  else if code = 0x0B08 then s.pmbBits F.PMB_RSTAT2_STATUS_MFR unit 2
  else if code = 0x0B01 then all s F.PMB_RSTAT2_STATUS_MFR 1
  else s

/-- The event that stands for those counted in a window: the last, with the largest second item of the codes that carry a
largest value (R518; 0x0503, 0x0504, 0x0606). -/
def Evt.after (old new : Evt) (fresh : Bool) : Evt :=
  if !fresh && (new.code == 0x0503 || new.code == 0x0504 || new.code == 0x0606) then
    { new with items := new.items.take 1 ++ (List.zip (old.items.drop 1) (new.items.drop 1)).map (fun x => (x.2.1, max x.1.2 x.2.2)) }
  else new

/-- An event arises. A rate-limited code is recorded at once with count 1 and opens its window, or is counted in the
open window of its unit (R518). -/
def State.raise (s : State) (front : Bool) (code unit : Nat) (items : List (Nat × Int)) (react : React := .none) : State :=
  let e := s.stamp front code unit items
  let s := s.pmbRec code unit items
  if rateLimited.contains code then
    if s.rcd.wins.any (fun w => w.code == code && w.unit == unit) then
      { s with rcd.wins := s.rcd.wins.map (fun w =>
          if w.code == code && w.unit == unit then { w with count := incSat 16 w.count, last := w.last.after e (w.count == 0) } else w) }
    else
      State.emit { s with rcd.wins := s.rcd.wins ++ [⟨code, unit, 0, e, s.now⟩] } { e with count := some 1 } react
  else s.emit e react

/-- A Front-die event. -/
def State.logF (s : State) (code unit : Nat) (items : List (Nat × Int)) (react : React := .none) : State :=
  s.raise true code unit items react
/-- A Control-die event. -/
def State.logC (s : State) (code unit : Nat) (items : List (Nat × Int)) : State := s.raise false code unit items

/-! ## Notices (R252, R253) -/

/-- Queue a notice on one port. DESIGN CHOICE (log 178): a notice that replaces one that is not in service keeps its place in the queue. -/
def Port.note (p : Port) (x : Notice) : Port :=
  let same := fun (y : Notice) => x.kind != 5 && y.kind == x.kind && (x.kind == 4 || y.rail == x.rail)
  match p.notes.findIdx? same with
  | some 0 => { p with notes := p.notes.set 0 x, nseq := (p.nseq + 1) % 16 }
  | some i => { p with notes := p.notes.set i x }
  | none =>
    if p.notes.length < 40 then { p with notes := p.notes ++ [x] }
    else match p.notes.findIdx? (fun y => y.kind == 5) with
      | some 0 => { p with notes := p.notes.drop 1 ++ [x], nseq := (p.nseq + 1) % 16, noteLost := true }
      | some i => { p with notes := p.notes.eraseIdx i ++ [x], noteLost := true }
      | none => { p with noteLost := true }

/-- One Aedat port. -/
def State.port (s : State) (p : Fin 2) : Port := s.ports[p]
/-- Change one port. -/
def State.modPort (s : State) (p : Fin 2) (f : Port → Port) : State := { s with ports := s.ports.set p (f s.ports[p]) }
/-- Port `p` serves rail `r` (AL_SERVE). -/
def State.serves (s : State) (p : Fin 2) (r : Fin 8) : Bool := (s.get F.SP_CTRL_AL_SERVE r).testBit p.val
/-- Queue a notice on a port in use, with its NOTE_LOST flag. -/
def State.noteOn (s : State) (p : Fin 2) (x : Notice) : State :=
  if s.flag F.AL_CFG_PORT_EN p then
    let s := s.modPort p (fun q => Port.note { q with noteLost := false } x)
    s.when (s.port p).noteLost (fun s => (s.mark F.AL_STICKY_NOTE_LOST p).logC 0x0808 p [(1, p.val), (2, 5)])
  else s
/-- Queue a notice on every port in use that serves the rail. -/
def State.noteRail (s : State) (r : Fin 8) (kind word : Nat) : State :=
  allPorts.foldl (fun s p => if s.serves p r then s.noteOn p ⟨kind, r.val, kind * 2 ^ 28 + r.val * 2 ^ 25 + word⟩ else s) s
/-- Queue a notice on every port in use. -/
def State.noteAll (s : State) (kind word : Nat) : State :=
  allPorts.foldl (fun s p => s.noteOn p ⟨kind, 0, kind * 2 ^ 28 + word⟩) s

/-! ## Mode transitions (R74) -/

/-- Take transition `n` of Table 3.3 into mode `m`, and record 0x0301. -/
def State.enter (s : State) (n : Nat) (m : Mode) : State :=
  let s' := ((s.set F.MODE_STATUS_PREV_MODE 0 s.mode.code).set F.MODE_STATUS_LAST_TRANS 0 n)
  let s' := { s' with mode := m }
  s'.raise (!s.pow.cdUp) 0x0301 0 [(1, n), (1, s.mode.code), (1, m.code)]

/-! ## Stops (R219, R288) -/

/-- End any large-signal action, crowbar or braking on a rail; an undershoot or overshoot action is recorded and counted with its
duration in updates (R149, R152). -/
def State.endLs (s : State) (r : Fin 8) : State :=
  let f := s.fr r
  let s := s.when (f.ls == .under || f.ls == .over) (fun s =>
    s.logF (if f.ls == .under then 0x0503 else 0x0504) r [(1, r.val), (2, min 65535 ((s.now - f.lsAt) / 20))])
  let s := s.modFr r (fun f => { f with
    ls := .none, upRun := 0, dnRun := 0, engAt := if f.ls == .none then f.engAt else s.now
    dutyGood := if f.ls == .none then f.dutyGood else 0 })
  let s := (s.phasesOf r).foldl (fun s n => s.modPh n (fun p => { p with braking := false })) s
  (((s.clear F.ENG_STATUS_LSU_ACT r).clear F.ENG_STATUS_LSD_ACT r).clear F.ENG_STATUS_BRAKE_ACT r).clear
    F.RP_STATUS_CB_ACT r

/-- Fast stop: every PWM ball of the rail goes TRI and its SEN goes low (R219). The caller gives the state entered. -/
def State.fastStop (s : State) (r : Fin 8) : State :=
  let s := ((s.endLs r).triRail r).setSen r false
  let s := s.modFr r (fun f => { f with fallAt := none })
  s.clear F.PHC_STATUS_DE_ACT r

/-- A rail takes LATCHED with its cause, and 0x0A14 is recorded (Table 10.4, R322). -/
def State.latchNow (s : State) (r : Fin 8) (cause : Nat) : State :=
  let s := (s.railRest r .latched).set F.RP_STATUS_LATCH_CAUSE r cause
  s.logF 0x0A14 r [(1, r.val), (1, cause)]

/-- Soft stop: the rail enters RAMPDOWN from the code it has reached (R142); only a switching or held rail stops so. -/
def State.softStop (s : State) (r : Fin 8) (k : StopKind) (cause : Nat) : State :=
  match s.st r with
  | .ramp | .reg | .shed | .caretaken =>
    let s := (s.setRail r .rampdown).clear F.PHC_STATUS_DE_ACT r
    let s := s.modEng r (fun e => { e with rampT0 := e.dac, rampK := 0 })
    s.modFr r (fun f => { f with stop := k, stopCause := cause, fallAt := none })
  | .rampdown => s.modFr r (fun f => if k == .toLatched then { f with stop := k, stopCause := cause } else f)
  | _ => s

/-- A rail that does not switch leaves the run: ARMED and HICCUP become OFF with SEN low (R78, R83). -/
def State.disarm (s : State) (r : Fin 8) : State :=
  match s.st r with
  | .armed | .hiccup => s.railOff r
  | _ => s

/-- Ask for the soft stop of the rails of a mask in the reverse of their start order (R78, R100, R520). -/
def State.stopInOrder (s : State) (mask : Nat) : State := { s with pow.stopSet := s.pow.stopSet ||| mask }

/-- One round of the ordered stop: the switching rail of the set that stands last in start order enters RAMPDOWN once no
later one switches (R100). Rails that no longer switch leave the set. -/
def State.stopRound (s : State) : State :=
  let inSet := allRails.filter (fun r => s.pow.stopSet.testBit r.val && (s.st r).switching)
  let mask := inSet.foldl (fun m r => m ||| 2 ^ r.val) 0
  let s : State := { s with pow.stopSet := mask }
  let last := inSet.foldl (fun (b : Option (Fin 8)) r => match b with
    | none => some r
    | some q => if (s.cfg q).order < (s.cfg r).order then some r else some q) none
  match last with
  | some r => if s.st r == .rampdown then s else s.softStop r .toOff 0
  | none => s

/-- A device-latching condition of Table 10.3 is present (R290, for T21). -/
def State.dlPresent (s : State) : Bool :=
  s.flag F.PROT_STATUS_BUS_OV_ACT || s.pow.noVote || (s.flag F.CLK_STATUS_BACKUP_ACTIVE && s.par.xtalReq)
    || !s.flag F.CLK_STATUS_FPLL_LOCK || !s.flag F.CLK_STATUS_CPLL_LOCK || s.pow.fpllOff
    || s.flag F.THERM_STATUS_PKG_SHUT

/-- Enter SAFESTOP by transition `n`: FAULT_HOLD is set; rails that are ARMED or in HICCUP become OFF (R80, R291, Table 3.5). -/
def State.enterSafestop (s : State) (n : Nat) : State :=
  let s := (s.mark F.FAULT_HOLD_FAULT_HOLD).onRails State.disarm
  (s.enter n .safestop)

/-- Stop the rails as Table 10.3 gives for a device-latching cause. -/
def State.dlStop (s : State) (cause : Nat) : State :=
  s.onRails (fun s r =>
    if cause == 3 || cause == 4 || cause == 6 then s.softStop r .toOff 0
    else match s.st r with
      | .ramp | .reg | .shed | .rampdown | .caretaken | .armed | .hiccup => (s.fastStop r).railOff r
      | _ => s)

/-- Adoption is refused (R331, R334): ADOPT_RES, ADOPT_REF, 0x0B03, and the soft stop of every CARETAKEN rail under the
Pronoun loop. A second refusal of the same takeover changes nothing. -/
def State.refuse (s : State) (res rail : Nat) : State :=
  if s.pow.refused then s else
  let s := ((s.set F.CT_STATUS_ADOPT_RES 0 res).inc F.CT_COUNT_ADOPT_REF)
  let s : State := { s with pow.refused := true, pow.ctAdopt := false }
  let s := s.logF 0x0B03 0 [(1, res), (1, rail)]
  s.onRails (fun s r => if s.st r == .caretaken then
    (s.softStop r .toOff 0).modFr r (fun f => { f with handed := false }) else s)

/-- A device-latching fault (R290, R332): DL_CAUSE and FAULT_HOLD are set, 0x0A16 is recorded, and the mode decides what
follows: kept in WAKE, T6 in PARSE, the stops of Table 10.3 and T9 in PRECHECK, the running modes and SERVICE, the stops
with adoption refused in CARETAKER. -/
def State.deviceLatch (s : State) (cause : Nat) : State :=
  if s.mode == .dormant then s else
  let s := (s.set F.PROT_STATUS_DL_CAUSE 0 cause).mark F.FAULT_HOLD_FAULT_HOLD
  let s := s.raise true 0x0A16 0 [(1, cause), (1, s.mode.code)]
  match s.mode with
  | .dormant | .wake => s
  | .parse => s.enterSafestop 6
  | .safestop => s.dlStop cause
  | .caretaker => State.refuse { s.dlStop cause with pow.ctFault := true } 7 0
  | _ => (s.dlStop cause).enterSafestop 9

/-- A rail-latching fault (R286 to R288). `fast` says which stop the fault calls for. A critical rail makes it
device-latching: the rail stops as its fault requires and T9 follows in the same update (R287). -/
def State.railLatch (s : State) (r : Fin 8) (cause : Nat) (fast : Bool) : State :=
  let s := if fast then (s.fastStop r).latchNow r cause else s.softStop r .toLatched cause
  s.when (s.cfg r).critical (fun s => s.deviceLatch 6)

/-- The retry logic of R212 from its comparison of RETRY_CNT, after the fast stop. A CARETAKEN rail latches with cause
0x6 (R215, R302); during an orderly shutdown and in SAFESTOP the rail enters OFF (Table 7.4, Table 3.5). `ph` is the phase that reached
CUT_N, for the record. -/
def State.retry (s : State) (r : Fin 8) (ph : Nat) : State :=
  let was := s.st r
  let s := s.fastStop r
  if was == .caretaken || s.mode == .caretaker then (s.latchNow r 6).when (s.cfg r).critical (fun s => s.deviceLatch 6)
  else if s.flag F.MODE_STATUS_SHUTDOWN_ACT || s.mode == .safestop then s.railOff r
  else if !s.flag F.HIC_CFG_HIC_UNLIM r && s.get F.HIC_CFG_HIC_RETRY r ≤ s.get F.HIC_STATUS_RETRY_CNT r then
    let s := s.logF 0x0703 r [(1, r.val), (2, b2n (s.cfg r).critical)]
    let s := s.latchNow r 5
    s.when (s.cfg r).critical (fun s => s.deviceLatch 6)
  else
    let s := (s.inc F.HIC_STATUS_RETRY_CNT r).inc F.HIC_STATUS_HIC_ENTRIES r
    let s := (s.setRail r .hiccup).modFr r (fun f => { f with hicAt := s.now })
    s.logF 0x0702 r [(1, r.val), (1, ph), (1, s.get F.HIC_STATUS_RETRY_CNT r)]

/-- Live phases below MIN_LIVE are a rail-latching fault (R167) on a rail in use, or ARMED with its pre-start tests passed: with a soft
stop where the rail switches, at once where it does not. -/
def State.checkMinLive (s : State) (r : Fin 8) : State :=
  let still := s.st r == .hiccup || (s.st r == .armed && (s.fr r).passed)
  let used := (s.st r).switching || s.st r == .caretaken || still
  if used && (s.liveOf r).length < s.get F.PHC_CTRL_MIN_LIVE r && (s.fr r).stop == .toOff then
    let s := s.logF 0x0604 r [(1, r.val), (1, (s.liveOf r).length)]
    s.railLatch r 4 still
  else s

/-- The output of a phase that switches goes to tri-state at its next period start, and one in tri-state stays there (R164, R219,
R339). -/
def State.triNext (s : State) (n : Fin 32) : State :=
  s.modPh n (fun p => { p with triPend := p.triPend || (p.sw.switching && s.level n != .tri) })
/-- A phase stops: SW_STATE STOPPED, its ball in tri-state from the next period start, the rail re-placed (R164, R169). -/
def State.stopPhase (s : State) (n : Fin 32) : State := ((s.triNext n).setSw n .stopped).place (s.railOf n)

/-! ## Alerts -/

/-- SMBALERT_N is asserted to the Second Person through the phase-failed bit of the rail (R166, R461, R463). -/
def State.failAlert (s : State) (r : Fin 8) : State := s.pmbBits F.PMB_RSTAT2_STATUS_MFR r 128

/-- Set bits of STATUS_CML (R461). -/
def State.cml (s : State) (v : Nat) : State := s.pmbBits F.PMB_STATUS_STATUS_CML 0 v

/-- The strapped NOR mode (Table 2.8). -/
def State.norMode (s : State) : Nat := s.get F.STRAP_STATUS_CFG1_CODE % 4
end Sys2Proof.Machine
end

