-- ==== Sys2Proof/Machine/Flags.lean ====
section
/-!
DEFINITION. The computed status of the block: the derate factor and the rail current limit (R28), the running mode
(R75), the drive of FAULT_N (R291) and the thresholds in force (Table 6.2).
-/
namespace Sys2Proof.Machine

/-- Present when `c` holds. -/
def only (c : Bool) (d : Nat) : List Nat := if c then [d] else []

/-- Every derate value active for a rail, from hardware and from firmware (R28): FW_DERATE, FAIL_D while a phase is out
(R166), AUX_D or 64 on the auxiliary sense (R307, R309), VSTALE_D (R304), 96 under a REFIN fault (R305), the thermal
derate of its region (R351 to R354), HU_D in HOLDUP (R371), ISLAND_D and PEER_D on a spanning rail (R478, R480). -/
def State.derates (s : State) (r : Fin 8) : List Nat :=
  let m := (s.cfg r).region
  [s.get F.DERATE_FW_DERATE r]
    ++ only (s.eng r).failD (s.get F.PHC_CTRL_FAIL_D r)
    ++ (s.eng r).auxD.toList
    ++ only ((s.eng r).staleD && (s.st r).switching) (s.get F.PROT_CFG_VSTALE_D)
    ++ only (s.flag F.REFIN_STATUS_REFIN_FAULT m) 96
    ++ only (s.get F.THERM_DERATE_D m != 0) (s.get F.THERM_DERATE_D m)
    ++ only (s.mode == .holdup && (s.st r).switching) (s.get F.HU_CFG_HU_D)
    ++ only ((s.cfg r).spans && s.flag F.CJ_STATUS_ISLAND) (s.get F.CJ_DERATE_ISLAND_D)
    ++ only ((s.cfg r).spans && s.flag F.CJ_STATUS_PEER_LOST) (s.get F.CJ_ILIM_PEER_D)

/-- The derate factor D in force: the smallest active value (R28). -/
def State.dEff (s : State) (r : Fin 8) : Nat := (s.derates r).foldl min 128

/-- The rail current limit of this package (R28). -/
def State.ilimRail (s : State) (r : Fin 8) : Nat := s.ilimSum r * s.dEff r / 128

/-- Members that the leader counts (R474, R480): joined and not lost. -/
def State.counted4 (s : State) : List Peer := s.cj.peers.filter (fun p => p.joined && !p.lost)
/-- The switching phases of a rail over the system (R474): on the leader its own and those of the last MSTAT of each member, on
a member the last RAILINFO. -/
def State.nSys (s : State) (r : Fin 8) : Nat :=
  if s.flag F.CJ_CFG_LEADER then (s.switchingOf r).length + (s.counted4.map Peer.nSw).sum else s.get F.CJ_STATUS_N_SYS_SW
/-- ILIM_SYS (R474). -/
def State.ilimSys (s : State) (r : Fin 8) : Nat :=
  if s.flag F.CJ_CFG_LEADER then s.ilimRail r + (s.counted4.map Peer.ilim).sum else s.get F.CJ_ILIM_ILIM_SYS
/-- The current limit of the whole rail that a CEILING notice carries (Table 8.9, R474). -/
def State.ceiling (s : State) (r : Fin 8) : Nat := if (s.cfg r).spans then min 131071 (s.ilimSys r) else s.ilimRail r

/-- The running mode of R75. -/
def State.runningMode (s : State) : Mode :=
  let any := fun (p : RailState → Bool) => allRails.any (fun r => p (s.st r))
  if any (· == .hiccup) && !any (fun x => x == .reg || x == .shed || x == .ramp) then .hiccup
  else if any (· == .shed) && !any (fun x => x == .reg || x == .ramp || x == .hiccup) then .shed
  else .regulate

/-- FAULT_N is driven low (R291). -/
def State.faultN (s : State) : Bool :=
  s.mode == .safestop || s.br.clkLost || s.pow.vddActs || s.pow.fpllOff || s.pow.resetN || s.flag F.FAULT_HOLD_FAULT_HOLD
    || (s.flag F.PROT_CFG_FN_RAIL && allRails.any (fun r => s.st r == .latched))

/-- The add threshold in force (Table 6.2). -/
def State.addEff (s : State) (r : Fin 8) : Nat :=
  let hw := s.get F.PHC_HW_HW_ADD r
  let fw := s.get F.PHC_FW_FW_ADD r
  if fw = 0 then hw else min hw fw
/-- The shed threshold in force (Table 6.2). -/
def State.shedEff (s : State) (r : Fin 8) : Nat :=
  let fw := s.get F.PHC_FW_FW_SHED r
  min (if fw = 0 then s.get F.PHC_HW_HW_SHED r else fw) (s.addEff r * 7 / 8)
/-- The floor on switching phases (Table 6.2). -/
def State.nFloor (s : State) (r : Fin 8) : Nat :=
  min (max (s.get F.PHC_CTRL_MIN_ACTIVE r) (s.get F.PHC_CTRL_FW_NMIN r)) (s.liveOf r).length
/-- Diode emulation is allowed on the rail (Table 6.2). -/
def State.deAllowed (s : State) (r : Fin 8) : Bool := s.flag F.PHC_CTRL_DE_ALLOW r && s.flag F.PHC_CTRL_DE_EN r

/-- The status bits of page `r` that alert, each under its mask (R461, R463): the byte commands, then the bits of STATUS_WORD
that summarise nothing. Masks are kept by page × 256 + command. -/
def State.alertOf (s : State) (r : Nat) : Nat :=
  let un := fun (cmd v : Nat) => v - (v &&& s.pmb.masks.get (r * 256 + cmd))
  let w := s.get F.PMB_RSTAT_STATUS_WORD r
  un 0x7A (s.get F.PMB_RSTAT_STATUS_VOUT r) + un 0x7B (s.get F.PMB_RSTAT_STATUS_IOUT r) * 2 ^ 8
    + un 0x7C (s.get F.PMB_RSTAT2_STATUS_INPUT r) * 2 ^ 16 + un 0x7D (s.get F.PMB_RSTAT2_STATUS_TEMP r) * 2 ^ 24
    + un 0x80 (s.get F.PMB_RSTAT2_STATUS_MFR r) * 2 ^ 32 + un 0x78 (w &&& 0x40) * 2 ^ 40 + un 0x79 ((w &&& 0xA00) / 256) * 2 ^ 48

/-- Every alerting status bit: STATUS_CML, then the pages (R463). -/
def State.alertBits (s : State) : Nat :=
  let c := s.get F.PMB_STATUS_STATUS_CML
  allRails.foldl (fun (a : Nat) (r : Fin 8) => a + s.alertOf r.val * 2 ^ (8 + 56 * r.val)) (c - (c &&& s.pmb.masks.get 0x7E))

/-- STATUS_WORD of a page with its summary bits (Table 16.4): 15 VOUT, 14 IOUT, 13 INPUT, 12 MFR, 2 TEMPERATURE, 1 CML, and
0 for a bit of the high byte that no other bit of the low byte covers: 5 covers VOUT, 4 IOUT, 3 INPUT. -/
def State.statusWord (s : State) (r : Fin 8) : Nat :=
  let on := fun (f : Fld) (i : Nat) => s.get f i != 0
  let w := s.get F.PMB_RSTAT_STATUS_WORD r
  let v := fun (c : Bool) (k : Nat) => if c then k else 0
  let w := w ||| (v (on F.PMB_RSTAT_STATUS_VOUT r) 0x8000 + v (on F.PMB_RSTAT_STATUS_IOUT r) 0x4000
    + v (on F.PMB_RSTAT2_STATUS_INPUT r) 0x2000 + v (on F.PMB_RSTAT2_STATUS_MFR r) 0x1000 + v (on F.PMB_RSTAT2_STATUS_TEMP r) 4
    + v (on F.PMB_STATUS_STATUS_CML 0) 2)
  let b := fun (i : Nat) => w.testBit i
  w ||| v ((b 15 && !b 5) || (b 14 && !b 4) || (b 13 && !b 3) || b 12 || b 11 || b 9) 1

/-- SMBALERT_N is driven low (R463): an alerting bit is set, the Alert Response Address has not released it, the Control die
drives it. -/
def State.smbAlert (s : State) : Bool :=
  s.alertBits != 0 && !s.pmb.released && s.pow.cdUp && s.mode != .caretaker

/-- Aedat credit returns are withheld (R251, R449): the record intake, the history queue or a notice queue is full. -/
def State.withheld (s : State) : Bool :=
  64 ≤ s.rcd.intake.length || 64 ≤ s.jrn.hist.length || allPorts.any (fun p => 40 ≤ (s.port p).notes.length)

end Sys2Proof.Machine
end

