-- ==== Sys2Proof/Machine/Hints.lean ====
section
/-!
DEFINITION. The Tense rings: context words (R262 to R265), schedule entries and their contributions (R268 to R271), scoring and
trust (R275), and the discard of R278.
-/
namespace Sys2Proof.Machine

/-! ## Context words (Table 9.1) -/

/-- A context word by its fields, parity apart. -/
structure Ctx where
  w : Nat
  tk : Nat
  stamp : Nat
  wp : Nat
  valid : Nat
  deriving DecidableEq, Repr

/-- Number of ones in the low `w` bits. -/
def ones (w n : Nat) : Nat := ((List.range w).filter (fun i => n.testBit i)).length
/-- The fields of a context word. -/
def ctxOf (n : Nat) : Ctx := ⟨bits n 24 8, bits n 20 4, bits n 7 13, bits n 5 2, bits n 1 4⟩
/-- The context word of its fields, with odd parity over all 32 bits. -/
def Ctx.word (c : Ctx) : Nat :=
  let n := c.w * 2 ^ 24 + c.tk * 2 ^ 20 + c.stamp * 2 ^ 7 + c.wp * 2 ^ 5 + c.valid * 2
  n + (1 - ones 32 n % 2)

/-- The context table as it stands: words equal to the initial word of R263 are not listed. -/
def State.ctxWord (s : State) (x : Nat) : Nat := s.ctxs.get x ^^^ s.ctx0
/-- Put a context word. -/
def State.putCtxWord (s : State) (x n : Nat) : State := { s with ctxs := s.ctxs.set x (n ^^^ s.ctx0) }
/-- Put a context's fields. -/
def State.putCtx (s : State) (x : Nat) (c : Ctx) : State := s.putCtxWord x c.word
/-- Present time in the 2 µs units of STAMP, modulo 2^13. -/
def State.stampNow (s : State) : Nat := (s.now - s.pow.tnow0) / 2000 % 8192
/-- The initial fields of a context (R263). -/
def State.ctxInit (s : State) : Ctx := ⟨s.get F.TN_WEIGHT_W_INIT, s.get F.TN_RATE_TK_MAX, s.stampNow, 0, 0⟩

/-- TNOW (R267). -/
def State.tnow (s : State) : Nat := (s.now - s.pow.tnow0) / 10 % 2 ^ 32
/-- The present time is at or after a time that lies `d` units from a due time (R267: difference modulo 2^32, signed). -/
def State.reached (s : State) (due : Nat) (d : Int) : Bool := decide (0 ≤ toS 32 (ofS 32 ((s.tnow : Int) - due - d)))

/-! ## The hint current (R271) -/

/-- The entries of a rail. -/
def State.hints (s : State) (r : Fin 8) : List Hint := (s.rail r).tn
/-- Replace the entries of a rail; N_SCHED follows. -/
def State.putHints (s : State) (r : Fin 8) (l : List Hint) : State :=
  (s.modRail r (fun x => { x with tn := l })).set F.TN_STAT_N_SCHED r l.length
/-- F before its limits. -/
def State.fRaw (s : State) (r : Fin 8) : Int := (s.hints r).foldl (fun a h => a + h.c) 0
/-- The upper limit on F. -/
def State.fHi (s : State) (r : Fin 8) : Int := min (s.get F.TN_CAP_F_POS_CAP r) (s.ilimRail r * 7 / 8)
/-- The lower limit on F, as a magnitude. -/
def State.fNeg (s : State) (r : Fin 8) : Int := s.get F.TN_CAP_F_NEG_CAP r
/-- Truncate toward zero of a quotient (R270). -/
def trunc0 (x : Int) (n : Nat) : Int := Int.tdiv x n
/-- The phases over which F divides (R271): those switching here, or across the system on a spanning rail. -/
def State.ffN (s : State) (r : Fin 8) : Nat :=
  max 1 (if (s.cfg r).spans then s.nSys r else (s.switchingOf r).length)
/-- This controller is a member, not the leader, on a spanning rail. -/
def State.isMember (s : State) (r : Fin 8) : Bool := (s.cfg r).spans && !s.flag F.CJ_CFG_LEADER
/-- F and ff take their values (R271). A member takes F from TARGET frames. -/
def State.putF (s : State) (r : Fin 8) : State :=
  if s.isMember r then s else
  let raw := s.fRaw r
  let f := satI (-s.fNeg r) (s.fHi r) raw
  let s := (s.setI F.TN_STAT_F r f).modEng r (fun g => { g with ff := satS 16 (trunc0 f (s.ffN r)) })
  if f != raw then s.mark F.TN_STAT_FF_CAP_S r else s

/-! ## Reading a context -/

/-- A context word that fails its parity is rewritten, and its entries leave every schedule (R263). -/
def State.ctxCheck (s : State) (x : Nat) : State :=
  if ones 32 (s.ctxWord x) % 2 = 1 then s else
  let s := s.putCtx x s.ctxInit
  let s := s.onRails (fun s r =>
    let l := s.hints r
    if l.any (fun h => h.ctx == x) then (s.putHints r (l.filter (fun h => h.ctx != x))).putF r else s)
  s.logC 0x0906 0 [(2, x)]

/-- Token refill (R265). -/
def refill (c : Ctx) (now tkMax tkRef : Nat) : Ctx :=
  let e := (now + 8192 - c.stamp) % 8192
  let m := e / tkRef
  let tk := min tkMax (c.tk + m)
  { c with tk := tk, stamp := if tk = tkMax then now else (c.stamp + m * tkRef) % 8192 }

/-- A context is checked and refilled; the answer is the state and the context's fields. -/
def State.ctxRefill (s : State) (x : Nat) : State :=
  let s := s.ctxCheck x
  s.putCtx x (refill (ctxOf (s.ctxWord x)) s.stampNow (s.get F.TN_RATE_TK_MAX) (s.get F.TN_RATE_TK_REFILL))
/-- The fields of a context. -/
def State.ctx (s : State) (x : Nat) : Ctx := ctxOf (s.ctxWord x)
/-- A context is muted (R276). -/
def State.muted (s : State) (x : Nat) : Bool := (s.ctx x).w < s.get F.TN_WEIGHT_W_FLOOR

/-- Free a ring slot (R264); its context word is read, and checked (R263). -/
def State.freeSlot (s : State) (h : Hint) : State :=
  let s := s.ctxCheck h.ctx
  let c := s.ctx h.ctx
  s.putCtx h.ctx { c with valid := if c.valid.testBit h.slot then c.valid - 2 ^ h.slot else c.valid }

/-- Entries picked by a test leave the schedule; their slots are freed. -/
def State.retire (s : State) (r : Fin 8) (p : Hint → Bool) : State :=
  let s := ((s.hints r).filter p).foldl State.freeSlot s
  s.putHints r ((s.hints r).filter (fun h => !p h))

/-! ## Scoring (R275) -/

/-- I_MEAN: the truncated mean of the last 8 refreshes of I_SUM. DESIGN CHOICE (log 175): with fewer than 8 since the rail started it is
the mean of those, and 0 with none. -/
def State.iMean (s : State) (r : Fin 8) : Int :=
  let l := (s.eng r).sumHist
  l.foldl (· + ·) 0 / (max 1 l.length : Nat)

/-- A TENSE notice (Table 9.4). -/
def State.noteTense (s : State) (r : Fin 8) (event w value : Nat) : State :=
  s.noteRail r 5 (event * 2 ^ 23 + w * 2 ^ 15 + value % 2 ^ 15)

/-- The weight of a context moves on a hit or a miss; crossing W_FLOOR mutes or restores it. A word that fails its parity is rewritten
instead: its entries leave unscored (R263). -/
def State.judge (s : State) (r : Fin 8) (x : Nat) (hit : Bool) : State :=
  if ones 32 (s.ctxWord x) % 2 = 0 then s.ctxCheck x else
  let c := s.ctx x
  let fl := s.get F.TN_WEIGHT_W_FLOOR
  let w := if hit then min 255 (c.w + s.get F.TN_WEIGHT_W_UP) else c.w - s.get F.TN_WEIGHT_W_DN
  let s := (s.putCtx x { c with w := w }).inc (if hit then F.TN_SCORE_HITS else F.TN_SCORE_MISSES) r
  if fl ≤ c.w && w < fl then (s.noteTense r 0 w x).logC 0x0901 r [(2, x), (1, r.val), (2, w)]
  else if c.w < fl && fl ≤ w then (s.noteTense r 1 w x).logC 0x0902 r [(2, x), (1, r.val), (2, w)]
  else s

/-- The step announced has arrived (R275). -/
def hitOf (h : Hint) (mean : Int) : Bool := decide (2 * |h.a| ≤ (if h.a < 0 then -1 else 1) * (mean - h.base))

/-- An entry unwinds, scored as given. -/
def Hint.unwind (h : Hint) (scored : Bool) : Hint := { h with st := .unwinding, scored := h.scored || scored }
/-- An entry in RISING or HOLDING. -/
def Hint.up (h : Hint) : Bool := h.st == .rising || h.st == .holding

/-- Entries picked by a test unwind and are scored at once as misses (R269, R274). -/
def State.unwindMiss (s : State) (r : Fin 8) (p : Hint → Bool) : State :=
  let hit := (s.hints r).filter p
  let s := s.putHints r ((s.hints r).map (fun h => if p h then h.unwind true else h))
  hit.foldl (fun s h => if h.scored then s else s.judge r h.ctx false) s

/-! ## Pre-positioning (R273) -/

/-- An entry pre-positions. -/
def Hint.prepos (h : Hint) : Bool := 0 < h.a && (h.up || (h.st == .waiting && h.asked))
/-- The rail pre-positions; on a member the leader's PREPOS stands for it (R475). -/
def State.prepos (s : State) (r : Fin 8) : Bool := (s.isMember r && s.cj.prepos) || (s.hints r).any Hint.prepos

/-! ## One update (R270) -/

/-- Move by at most `d` toward a value. -/
def toward (x y : Int) (d : Nat) : Int := if x < y then min y (x + d) else max y (x - d)

/-- The rise of an entry: `clAct` stops positive contributions from rising (R274). -/
def Hint.rise (h : Hint) (pre : Nat) (clAct : Bool) : Hint :=
  if h.st != .rising then h else
  let c := toward h.c h.aeff pre
  let c := if clAct && h.c < c && 0 < c then max h.c (min c 0) else c
  { h with c := c, st := if c == h.aeff then .holding else .rising }
/-- The hold of an entry ends: `past` says that its time has come. -/
def Hint.endHold (h : Hint) (past : Bool) : Hint := if h.up && past then { h with st := .falling } else h
/-- The way of a contribution back to 0. -/
def Hint.sink (h : Hint) (dec unw : Nat) : Hint :=
  let done := fun (h : Hint) => if h.c == 0 then { h with st := HintSt.scoring } else h
  match h.st with
  | .falling => done { h with c := toward h.c 0 dec }
  | .unwinding => done { h with c := toward h.c 0 unw }
  | _ => h
/-- One entry's step at an update (R270). -/
def Hint.step (h : Hint) (pre dec unw : Nat) (clAct past : Bool) : Hint := ((h.rise pre clAct).endHold past).sink dec unw

/-- Hints are enabled on the rail. -/
def State.tnOn (s : State) (r : Fin 8) : Bool := (s.get F.TN_CTRL_TN_EN).testBit r.val

/-- The counts of R274's early miss: consecutive updates with `e − LLT`, which the datapath keeps, beyond MISS_TH against the hint
current. -/
def State.missRun (s : State) (r : Fin 8) : State :=
  let d := (s.eng r).eLast
  let th : Int := s.get F.TN_TIME_MISS_TH r * 256
  let f := s.getI F.TN_STAT_F r
  s.modEng r (fun g => { g with
    missPos := if 0 < f ∧ d < -th then g.missPos + 1 else 0
    missNeg := if f < 0 ∧ th < d then g.missNeg + 1 else 0 })

/-- The schedule of a rail at one update: contributions move, scored entries at 0 retire, F and ff form (R270, R271, R281). -/
def State.tenseStep (s : State) (r : Fin 8) : State :=
  if !s.tnOn r || s.isMember r then s else
  let pre := s.get F.TN_SLEW_PRE_SLEW r
  let dec := s.get F.TN_SLEW_DEC_SLEW r
  let unw := s.get F.TN_SLEW_UNW_SLEW r
  let past := fun (h : Hint) => s.reached h.due (s.get F.TN_TIME_HOLD_T r * 10)
  let s := s.putHints r ((s.hints r).map (fun h => h.step pre dec unw (s.flag F.ENG_STATUS_CL_ACT r) (past h)))
  let s := (s.retire r (fun h => h.st == .scoring && h.scored)).putF r
  let raw := s.fRaw r
  let f := s.getI F.TN_STAT_F r
  let s := if f != raw then
      let lim : Int := if f < raw then s.fHi r else s.fNeg r
      let s := s.logC 0x0908 r [(1, r.val), (2, satS 16 raw), (2, lim)]
      match (s.eng r).clipAt with
      | some t => if s.now < t + 1000000 then s
          else (s.noteTense r 3 0 lim.toNat).modEng r (fun g => { g with clipAt := some s.now })
      | none => (s.noteTense r 3 0 lim.toNat).modEng r (fun g => { g with clipAt := some s.now })
    else s
  s.missRun r

/-- Entries unwind on a large-signal trip and are scored at their score time (R274). -/
def State.tripHints (s : State) (r : Fin 8) (positive : Bool) : State :=
  s.putHints r ((s.hints r).map (fun h => if h.up && (decide (0 < h.a) == positive)
    then { h.unwind false with tripUpd := s.upd } else h))

/-- Every entry of a rail is discarded unscored (R278); `cause` 1 the rail left REG and SHED, 2 TN_EN, 3 SERVICE, 4 a peer lost. -/
def State.discard (s : State) (r : Fin 8) (cause : Nat) : State :=
  let n := (s.hints r).length
  if n = 0 then s else
  let s := ((s.retire r (fun _ => true)).putF r).mark F.TN_STAT_DISCARD_S r
  (s.noteTense r 2 0 n).logC 0x0903 r [(1, r.val), (2, cause), (2, n)]

/-- F is clamped at once when a failure or a derate lowers F_hi (R280). -/
def State.clampRound (s : State) : State := s.onRails (fun s r => if s.fHi r < s.getI F.TN_STAT_F r then s.putF r else s)

/-- The phases that the entries of a rail still ask for (R272): an entry's request stands until it leaves HOLDING. Requests that stand
together are taken at the largest (DEDUCED, log 176). -/
def State.hintWant (s : State) (r : Fin 8) : Nat :=
  (s.hints r).foldl (fun a h => if h.st == .waiting || h.up then max a h.want else a) 0

/-- The discards of R278 in the update in which their cause arises. -/
def State.hintRound (s : State) : State :=
  s.onRails (fun s r =>
    if (s.hints r).isEmpty then s
    else if s.st r != .reg && s.st r != .shed then s.discard r 1
    else if !s.tnOn r then s.discard r 2
    else if s.mode == .service then s.discard r 3 else s)

/-- Warm adoption clears every VALID bit and keeps the context words (R279); a word that fails its parity waits for R263. -/
def State.clearValid (s : State) : State :=
  { s with ctxs := s.ctxs.foldl (fun m e =>
      let n := e.2 ^^^ s.ctx0
      if ones 32 n % 2 = 1 then m.set e.1 (({ ctxOf n with valid := 0 } : Ctx).word ^^^ s.ctx0) else m.set e.1 e.2) [] }

/-- PARSE writes every context word afresh and zero-fills the rings (R263). -/
def State.initCtxs (s : State) : State := { s with ctx0 := s.ctxInit.word, ctxs := [], rings := [] }

end Sys2Proof.Machine
end

