-- ==== Sys2Proof/Config.lean ====
section
/-!
DEFINITION. The free values of the model: results the spec does not state. Each is an opaque constant applied to the operands
it depends on, so nothing can be proved of it but what holds for every value.
-/
namespace Sys2Proof

/-- ASOC with a learned capacity of 0 (R377 states no quotient by 0). -/
opaque Config.asocOpen (qrem : Nat) : Nat
/-- RSOC_calc where the reserve equals the whole capacity (R378 states no quotient by 0). -/
opaque Config.rsocOpen (qrem : Nat) : Int
/-- RFACT and R_meas of a pack test whose current or pack resistance is 0 (R384 states no quotient by 0). -/
opaque Config.rfactOpen (dv i : Int) : Int
/-- The rate code with a learned capacity of 0 (R378). -/
opaque Config.rateOpen (i : Nat) : Nat
/-- SOH with a design capacity of 0 (R385). -/
opaque Config.sohOpen (fcc : Nat) : Nat
/-- The path item of record 0x0E01 for an access of firmware (Table 15.9 gives firmware no path code). -/
opaque Config.fwPathCode : Nat
/-- STAT of an M5 whose OP is none of R417's. -/
opaque Config.opStat (op : Nat) : BitVec 8
/-- RES of an M7 whose KOP is none of Table 14.11's, or whose payload does not have the operation's form. -/
opaque Config.keyRes (kop len : Nat) : BitVec 8
/-- Bytes 2 to 7 of an M4 that refuses (R413 states GRANTED, IDLE_S and LIFE_MIN of a session that opens). -/
opaque Config.m4Open (res : Nat) : BitVec 48
/-- The DATA plaintext of an M6 that returns no register value (R417). -/
opaque Config.m6Open (op stat : Nat) : BitVec 32
/-- The latch cause a member takes with a RAILINFO that reports LATCHED and carries no cause (Table 16.6). -/
opaque Config.cjLatchCause : BitVec 4
/-- The type of an abandoned bridge frame of a class (R15 gives the width of the field, not its codes). -/
opaque Config.bridgeType (cls : Nat) : BitVec 4
/-- The code of the record of a refused phase add (Table 1.7 says that it is recorded and gives no code). -/
opaque Config.refusedAddCode : BitVec 16
/-- CONFIG_HASH word `i` of a strap profile (R114: the digest is not published). -/
opaque Config.profileHash (small : Bool) (profile i : Nat) : BitVec 32
/-- RETAIN_DIGEST word `i` after an apply of an image or a profile (R333: the layout of the shadow is not published). -/
opaque Config.retainDigest (image : List Byte) (profile i : Nat) : BitVec 32

end Sys2Proof
end

