-- ==== Sys2Proof/Machine/Crc.lean ====
section
/-!
DEFINITION. The CRCs of the memories and links: CRC-32 of the image and the journal (Table 4.1, R438), CRC-8 of the Aedat Link
and the host SPI (R241, R452), CRC-8 of the SMBus (R457).
-/
namespace Sys2Proof.Machine

/-- `k` steps of the reflected CRC-32. -/
def crc32Steps : Nat → Nat → Nat
  | 0, c => c
  | k + 1, c => crc32Steps k (if c % 2 = 1 then (c / 2) ^^^ 0xEDB88320 else c / 2)
/-- CRC-32 of IEEE 802.3 over bytes (Table 4.1). -/
def crc32 (l : List Byte) : Nat :=
  (l.foldl (fun c b => crc32Steps 8 (c ^^^ b.toNat)) 0xFFFFFFFF) ^^^ 0xFFFFFFFF

/-- `k` steps of a CRC-8, most significant bit first. -/
def crc8Steps (poly : Nat) : Nat → Nat → Nat
  | 0, c => c
  | k + 1, c => crc8Steps poly k (if c.testBit 7 then (c * 2 % 256) ^^^ poly else c * 2 % 256)
/-- CRC-8 over bytes from an initial value. -/
def crc8 (poly init : Nat) (l : List Byte) : Nat := l.foldl (fun c b => crc8Steps poly 8 (c ^^^ b.toNat)) init
/-- The CRC-8 of the Aedat Link (R241) and of the host SPI (R452). -/
def linkCrc (l : List Byte) : Nat := crc8 0x2F 0xFF l ^^^ 0xFF
/-- The SMBus CRC-8 (R457). -/
def pec (l : List Byte) : Nat := crc8 0x07 0 l

end Sys2Proof.Machine
end

