-- ==== Sys2Proof/Machine/Jrn.lean ====
section
/-!
DEFINITION. Records as bytes (R427, R428), sticky codes (R432), and the journal: its layout in the MRAM, the commit queue and
the load at start-up (R437 to R447).
-/
namespace Sys2Proof.Machine

/-! ## Records as bytes -/

/-- Table 15.2. -/
def stickyCodes : List Nat :=
  [0x0101, 0x0102, 0x0103, 0x0105, 0x0201, 0x0203, 0x0204, 0x0302, 0x0404, 0x0407, 0x0602, 0x0605, 0x0703, 0x0706,
   0x0A03, 0x0A04, 0x0A0B, 0x0A0E, 0x0A0F, 0x0A10, 0x0A14, 0x0A16, 0x0B03, 0x0D03, 0x0D08, 0x0D0D,
   0x0E02, 0x0E03, 0x0E06, 0x0E08, 0x0E09, 0x0F02, 0x0F05]

/-- The items in order while each fits whole in `room` bytes (R428). -/
def packItems : Nat → List (Nat × Int) → List Byte
  | _, [] => []
  | room, (k, v) :: l => if k ≤ room then leBytes k (ofS (8 * k) v) ++ packItems (room - k) l else []

/-- The 16 DETAIL bytes; a count stands in the last two (R428). -/
def Evt.detail (e : Evt) : List Byte :=
  match e.count with
  | none => (packItems 16 e.items ++ List.replicate 16 0).take 16
  | some c => (packItems 14 e.items ++ List.replicate 14 0).take 14 ++ leBytes 2 (min c 65535)

/-- The record of an event, under sequence number `seq` and flags STICKY, NOTJ (R427). -/
def Evt.record (e : Evt) (seq : Nat) (sticky notj : Bool) : Record :=
  { code := e.code, flags := b2n sticky + 2 * b2n e.front + 4 * b2n e.ct + 8 * b2n notj, mode := e.mode * 16
    seq := seq, epoch := e.epoch, time := e.time, detail := e.detail }

/-- The 32 bytes of a record (Table 15.1). -/
def Record.bytes (r : Record) : List Byte :=
  leBytes 2 r.code ++ leBytes 1 r.flags ++ leBytes 1 r.mode ++ leBytes 4 r.seq ++ leBytes 2 r.epoch ++ leBytes 6 r.time
    ++ (r.detail ++ List.replicate 16 0).take 16

/-! ## The MRAM -/

/-- Write bytes as words from a word index. -/
def mramWrite (m : Store) : Nat → List Byte → Store
  | _, [] => m
  | w, b0 :: b1 :: b2 :: b3 :: l => mramWrite (m.set w (leNat [b0, b1, b2, b3])) (w + 1) l
  | w, l => m.set w (leNat l)
/-- Read `n` words as bytes. -/
def mramRead (m : Store) (w n : Nat) : List Byte := (List.range n).flatMap (fun i => leBytes 4 (m.get (w + i)))

/-- Slot A of a type, slot B, and the slot size, in words (Table 15.4). -/
def slotOf (k : Nat) : Nat × Nat × Nat :=
  match k with
  | 1 => (0x0, 0x10, 16)
  | 2 => (0x20, 0x30, 16)
  | 3 => (0x40, 0x80, 64)
  | 4 => (0xC0, 0xD0, 16)
  | _ => (0x400, 0x800, 1024)

/-- The commit word (R438). -/
def commitWord : Nat := 0x5A5AC3C3

/-- The check a slot fails (R440): 0 none, 1 COMMIT, 2 TYPE or VER, 3 LEN, 4 CRC. -/
def slotCheck (m : Store) (w size k : Nat) : Nat :=
  let h := m.get w
  let len := bits h 16 16
  if m.get (w + 3) ≠ commitWord then 1
  else if bits h 0 8 ≠ k ∨ bits h 8 8 ≠ 1 then 2
  else if size * 4 < 16 + len then 3
  else if crc32 (mramRead m w 2 ++ (mramRead m (w + 4) ((len + 3) / 4)).take len) ≠ m.get (w + 2) then 4
  else 0
/-- A slot holds any written content. -/
def slotWritten (m : Store) (w size : Nat) : Bool := m.any (fun c => w ≤ c.1 && c.1 < w + size)

/-- The newest valid slot of a type: 0 none, 1 A, 2 B (R440). -/
def newestSlot (m : Store) (k : Nat) : Nat :=
  let (a, b, size) := slotOf k
  let okA := slotCheck m a size k == 0
  let okB := slotCheck m b size k == 0
  if okA && okB then
    if 0 < toS 32 (m.get (b + 1) + 2 ^ 32 - m.get (a + 1)) then 2 else 1
  else if okA then 1 else if okB then 2 else 0
/-- The word where a slot begins. -/
def slotWord (k which : Nat) : Nat := if which = 2 then (slotOf k).2.1 else (slotOf k).1
/-- The payload of a valid slot. -/
def slotPayload (m : Store) (k which : Nat) : List Byte :=
  let w := slotWord k which
  let len := bits (m.get w) 16 16
  (mramRead m (w + 4) ((len + 3) / 4)).take len
/-- The slot a commit writes, and its new SEQ (R439). -/
def commitTarget (m : Store) (k : Nat) : Nat × Nat :=
  match newestSlot m k with
  | 1 => (slotWord k 2, (m.get (slotWord k 1 + 1) + 1) % 2 ^ 32)
  | 2 => (slotWord k 1, (m.get (slotWord k 2 + 1) + 1) % 2 ^ 32)
  | _ => (slotWord k 1, 1)

/-- The first word of history entry `n` (R441). -/
def histWord (n : Nat) : Nat := 0x1000 + 12 * (n % 5120)
/-- The ring numbers of the entries whose COMMIT stands and whose CRC passes. -/
def histValid (m : Store) : List Nat :=
  (m.filterMap (fun c => if 0x1000 ≤ c.1 ∧ c.1 < 0x10000 ∧ (c.1 - 0x1000) % 12 = 10 ∧ c.2 = commitWord
    then some ((c.1 - 0x1000) / 12) else none)).filter
    (fun n => crc32 (mramRead m (histWord n) 9) == m.get (histWord n + 9))

/-! ## Payloads -/

/-- The pack record (Table 13.6). -/
def State.packPayload (s : State) : List Byte :=
  leBytes 4 (s.get F.PK_QREM_QREM) ++ leBytes 2 (s.get F.PK_CAP_FCC) ++ leBytes 2 (s.get F.PK_LIFE_RFACT)
    ++ leBytes 2 (s.get F.PK_CAP_CYC_CNT) ++ leBytes 2 s.pk.disAcc ++ leBytes 2 (s.get F.PK_CC_CC_EPOCH)
    ++ leBytes 2 (b2n (s.flag F.PK_STATE_COARSE) + 2 * b2n (s.flag F.PK_STATE_FULL) + 4 * b2n (s.flag F.PK_STATE_EOL)
        + 8 * b2n (s.flag F.PK_STATE_PACK_DEAD))
    ++ leBytes 4 (s.get F.PK_CC_ACC_CC_ACC) ++ leBytes 2 (s.get F.PK_SOC_RSOC) ++ [0, 0]
/-- The HEALTH payload (Table 15.4). -/
def State.healthPayload (s : State) : List Byte := (List.range 32).map (fun n => BitVec.ofNat 8 (s.get F.PH_STATE_FAIL_CNT n))
/-- The CAL payload: PH_CAL of each phase. -/
def State.calPayload (s : State) : List Byte :=
  (List.range 32).flatMap (fun n => leBytes 4 (s.get F.PH_CAL_CAL_GAIN n * 65536 + s.get F.PH_CAL_CAL_OFS n))
/-- The SYS payload (Table 15.5). -/
def State.sysPayload (s : State) : List Byte :=
  leBytes 2 (s.get F.JRN_CAP_C_MEAS) ++ s.jrn.ctN.map (BitVec.ofNat 8) ++ [0] ++ leBytes 1 s.jrn.ctLast ++ [0, 0, 0]
    ++ leBytes 4 s.jrn.hseq ++ List.replicate 32 0
/-- The present content of a type. -/
def State.payload (s : State) (k : Nat) : List Byte :=
  match k with
  | 1 => s.packPayload
  | 2 => s.healthPayload
  | 3 => s.calPayload
  | 4 => s.sysPayload
  | _ => s.jrn.fw

/-! ## The commit queue -/

/-- Put a payload into the queue; a pending one of its type is replaced (R446). -/
def Journal.put (j : Journal) (k : Nat) (b : List Byte) : Journal :=
  { j with pend := j.pend.filter (fun x => x.1 != k) ++ [(k, b)] }
/-- The content of a type changed: the retention region marks it, and its commit is queued (R446, R447). -/
def State.journalChanged (s : State) (k : Nat) : State :=
  { s with jrn := { s.jrn.put k (s.payload k) with changed := s.jrn.changed ||| 2 ^ (k - 1) } }
/-- After warm adoption or PARSE every marked type is queued (R447). -/
def State.journalRequeue (s : State) : State :=
  [1, 2, 3, 4, 5].foldl (fun s k => if s.jrn.changed.testBit (k - 1) then s.journalChanged k else s) s

/-- A reset of registers leaves the content of every marked type as the retention region holds it (R168, R447): FAIL_CNT, the
calibration, C_MEAS. `old` is the state before the reset. -/
def State.keepMarked (s old : State) : State :=
  let m := s.jrn.changed
  let copy := fun (s : State) (f : Fld) (n : Fin 32) => s.load f n (old.get f n)
  let s := s.when (m.testBit 1) (fun s => s.onPhases (fun s n => s.set F.PH_STATE_FAIL_CNT n (old.get F.PH_STATE_FAIL_CNT n)))
  let s := s.when (m.testBit 2) (fun s => s.onPhases (fun s n => copy (copy s F.PH_CAL_CAL_GAIN n) F.PH_CAL_CAL_OFS n))
  s.when (m.testBit 3) (fun s => s.set F.JRN_CAP_C_MEAS 0 (old.get F.JRN_CAP_C_MEAS))

/-- PEND of JRN_STATUS. -/
def State.pendMask (s : State) : Nat :=
  [1, 2, 3, 4, 5].foldl (fun a k => if s.jrn.pend.any (fun x => x.1 == k) then a + 2 ^ (k - 1) else a) 0
    + (if s.jrn.hist.isEmpty then 0 else 32)

/-- Whether a type may be committed now: at most once per 100 ms while VDD33 is good (R446). -/
def State.jrnDue (s : State) (k : Nat) : Bool :=
  s.jrn.pend.any (fun x => x.1 == k) && (!s.flag F.SUPPLY_STATUS_VDD33_GOOD || match s.jrn.lastAt.getD (k - 1) none with
    | none => true
    | some t => t + 100000000 ≤ s.now)
/-- The head of the queue (R446): PACK, HEALTH, SYS, CAL, history, FW. -/
def State.jrnHead (s : State) : Option (Nat × List Byte) :=
  let typed := fun k => (s.jrn.pend.find? (fun x => x.1 == k)).map (fun x => (k, x.2))
  match [1, 2, 4, 3].find? s.jrnDue with
  | some k => typed k
  | none => match s.jrn.hist with
    | r :: _ => some (6, r.bytes)
    | [] => if s.jrnDue 5 then typed 5 else none

/-- C_EFF (R444), in µF. -/
def State.cEff (s : State) (cMeas : Nat) : Nat :=
  let cap := s.par.vaonCap * 8 / 10
  if cMeas = 0 then cap else min cap cMeas
/-- Bytes written by a commit: header and payload, or a history entry (R441, R443). -/
def Commit.bytes (k : Nat) (b : List Byte) : Nat := if k = 6 then 48 else 16 + b.length
/-- The time of a commit, t_w + 50 µs, in ns (R443). -/
def commitNs (n : Nat) : Nat := 60000 + 50 * n

/-- The head of the queue is deferred (R445). -/
def State.jrnDefer (s : State) (k cause : Nat) : State :=
  let s : State := { s with jrn.deferred := true, jrn.deferAt := s.now }
  let s := ((s.mark F.JRN_STATUS_DEFER).set F.JRN_STATUS_DEFER_CAUSE 0 cause).mark F.JRN_STICKY_DEFER_S
  s.logC 0x0F01 0 [(2, k), (1, cause), (2, s.get F.JRN_VAON_V_S)]

/-- Write header and payload of a commit with its commit word cleared (R439, R441). -/
def Journal.begin (j : Journal) (k : Nat) (b : List Byte) : Journal :=
  if k = 6 then
    let n := j.hseq + 1
    let w := histWord n
    let body := (b ++ List.replicate 32 0).take 32 ++ leBytes 4 n
    { j with mram := mramWrite j.mram w (body ++ leBytes 4 (crc32 body) ++ leBytes 4 0) }
  else
    let (w, seq) := commitTarget j.mram k
    let h := leBytes 1 k ++ leBytes 1 1 ++ leBytes 2 b.length ++ leBytes 4 seq
    { j with mram := mramWrite j.mram w (h ++ leBytes 4 (crc32 (h ++ b)) ++ leBytes 4 0 ++ b) }

/-- The commit in progress ends with its commit word (R439, R441). -/
def Journal.finish (j : Journal) (k now : Nat) : Journal :=
  if k = 6 then
    { j with mram := j.mram.set (histWord (j.hseq + 1) + 10) commitWord, hseq := j.hseq + 1, hist := j.hist.drop 1, busy := none }
  else
    let w := (commitTarget j.mram k).1
    { j with mram := j.mram.set (w + 3) commitWord, lastAt := j.lastAt.set (k - 1) (some now), busy := none }

/-- Evaluate the head of the queue with the VAON sample `vs` in 10 mV (R442, R443). -/
def State.jrnEval (s : State) (vs : Nat) : State :=
  if s.mode == .dormant || s.jrn.busy.isSome || s.jrn.deferred || !s.pow.cdUp then s else
  match s.jrnHead with
  | none => s
  | some (k, b) =>
    let s := s.set F.JRN_VAON_V_S 0 (min vs 2047)
    if !s.flag F.THERM_STATUS_JRN_OK then s.jrnDefer k 2
    else if vs < 330 || 10000 * s.get F.JRN_CAP_C_EFF * (vs - 330) < 45 * commitNs (Commit.bytes k b) then s.jrnDefer k 1
    else
      let s := ((s.clear F.JRN_STATUS_DEFER).set F.JRN_STATUS_DEFER_CAUSE 0 0).mark F.JRN_STATUS_BUSY
      let j := s.jrn.begin k b
      { s with jrn := { j with
          pend := if k = 6 then j.pend else j.pend.filter (fun x => x.1 != k)
          changed := if k = 6 then j.changed else j.changed &&& (63 - 2 ^ (k - 1))
          busy := some ⟨k, b, vs, !s.flag F.SUPPLY_STATUS_VDD33_GOOD, s.now⟩ } }

/-- A commit that ended without its commit word: its request returns to the queue unless a newer one is pending (R439, R442). -/
def State.jrnAbandon (s : State) : State :=
  match s.jrn.busy with
  | none => s
  | some c =>
    let j := { s.jrn with busy := none }
    let j := if c.kind = 6 then j
      else { (if j.pend.any (fun x => x.1 == c.kind) then j else j.put c.kind c.payload) with
              changed := j.changed ||| 2 ^ (c.kind - 1) }
    { (s.clear F.JRN_STATUS_BUSY) with jrn := j }

/-- C_MEAS of a commit on VAON alone, from the drop in µV (R444). -/
def State.capMeasured (s : State) (n dropUv : Nat) : State :=
  if dropUv = 0 then s else
  let c := min 65535 (roundDiv (45 * commitNs n : Nat) dropUv).toNat
  let s := (s.set F.JRN_CAP_C_MEAS 0 c).set F.JRN_CAP_C_EFF 0 (s.cEff c)
  let s := s.journalChanged 4
  s.when (2 * c < s.par.vaonCap) (fun s =>
    (s.mark F.JRN_STICKY_CAP_LOW_S).logC 0x0F05 0 [(2, c), (2, s.par.vaonCap)])

/-- A Control-die reset stops a commit before its commit word and empties the queue; the marks of changed types stay (R447). -/
def State.dropCommit (s : State) : State :=
  let s := s.jrnAbandon
  let s := (s.clear F.JRN_STATUS_DEFER).set F.JRN_STATUS_DEFER_CAUSE 0 0
  { s with jrn := { s.jrn with pend := [], hist := [], deferred := false } }

/-- Nothing is left to commit, or the head is deferred: DORMANT may follow (R78, R445). -/
def State.journalIdle (s : State) : Bool :=
  s.jrn.busy.isNone && (s.jrn.deferred || (s.jrn.pend.isEmpty && s.jrn.hist.isEmpty))

/-- Entry to DORMANT loses what is still queued (R445). -/
def State.jrnDormant (s : State) : State :=
  let s := s.jrnAbandon
  let m := s.pendMask
  let s := s.when (m != 0) (fun s => s.mark F.JRN_STICKY_LOST_S)
  { s with jrn := { s.jrn with pend := [], hist := [], deferred := false, changed := 0, lost := s.jrn.lost ||| m
                               lastAt := [none, none, none, none, none] } }
/-- The next WAKE records the loss (R445). -/
def State.jrnWake (s : State) : State :=
  if s.jrn.lost = 0 then s
  else State.logC { s with jrn.lost := 0 } 0x0F02 0 [(2, s.jrn.lost)]

/-! ## Start-up (R440, R441, step 4 of Table 4.8) -/

/-- One slot's record of a failed check. -/
def State.slotReport (s : State) (k which : Nat) : State :=
  let w := slotWord k which
  let c := slotCheck s.jrn.mram w (slotOf k).2.2 k
  if c ≠ 0 ∧ slotWritten s.jrn.mram w (slotOf k).2.2 then
    (s.mark F.JRN_STICKY_SLOT_BAD_S).logC 0x0F03 0 [(2, k), (2, which), (2, c)]
  else s

/-- Take the payload of a type into the working state. -/
def State.takePayload (s : State) (k : Nat) (b : List Byte) : State :=
  match k with
  | 1 => { s with pk.jrec := some b }
  | 2 => (List.range 32).foldl (fun s n => s.set F.PH_STATE_FAIL_CNT n (leNat (slice b n 1))) s
  | 3 => (List.range 32).foldl (fun s n =>
      let w := leNat (slice b (4 * n) 4)
      (s.load F.PH_CAL_CAL_GAIN n (bits w 16 16)).load F.PH_CAL_CAL_OFS n (bits w 0 7)) s
  | 4 => { (s.set F.JRN_CAP_C_MEAS 0 (leNat (slice b 0 2))) with
            jrn.ctN := (List.range 5).map (fun i => leNat (slice b (2 + i) 1)), jrn.ctLast := leNat (slice b 8 1) }
  | _ => { s with jrn.fw := b }
/-- The defaults of a type without a valid slot (R440). -/
def State.noPayload (s : State) (k : Nat) : State :=
  let s := s.logC 0x0F04 0 [(2, k)]
  match k with
  | 1 => { s with pk.jrec := none }
  | 2 => (List.range 32).foldl (fun s n => s.set F.PH_STATE_FAIL_CNT n 0) s
  | 3 => (List.range 32).foldl (fun s n => (s.load F.PH_CAL_CAL_GAIN n 0x4000).load F.PH_CAL_CAL_OFS n 0) s
  | 4 => { (s.set F.JRN_CAP_C_MEAS 0 0) with jrn.ctN := [0, 0, 0, 0, 0], jrn.ctLast := 0 }
  | _ => { s with jrn.fw := [] }

/-- Load one type (R440). A type marked as changed keeps what the retention region holds (R447). -/
def State.loadType (s : State) (k : Nat) : State :=
  let s := (s.slotReport k 1).slotReport k 2
  let which := newestSlot s.jrn.mram k
  let s := s.set F.JRN_LOAD_SLOT_USED 0 (s.get F.JRN_LOAD_SLOT_USED ||| which * 4 ^ (k - 1))
  if s.jrn.changed.testBit (k - 1) then s
  else if which = 0 then s.noPayload k else s.takePayload k (slotPayload s.jrn.mram k which)

/-- Load the journal: the five types, then the history ring. -/
def State.loadJournal (s : State) : State :=
  let s := [1, 2, 3, 4, 5].foldl State.loadType (s.set F.JRN_LOAD_SLOT_USED 0 0)
  let ring := histValid s.jrn.mram
  let s : State := { s with jrn.hseq := ring.foldl (fun a n => max a (s.jrn.mram.get (histWord n + 8))) 0 }
  let s := s.set F.JRN_LOAD_HIST_N 0 ring.length
  s.set F.JRN_CAP_C_EFF 0 (s.cEff (s.get F.JRN_CAP_C_MEAS))

end Sys2Proof.Machine
end

