-- ==== Sys2Proof/Machine/Sense.lean ====
section
/-!
DEFINITION. Temperature inputs: conversion (R347, R348), stale and failed sensors (R349), maxima and minima (R350), the thermal
derates (R351 to R354) and the windows of charging and journal writes (R356, R357).
-/
namespace Sys2Proof.Machine

/-! ## Half-words -/

/-- The half-word of a temperature: its value, STALE and FAILED fields and their instance. -/
structure TempReg where
  v : Fld
  stale : Fld
  failed : Fld
  i : Nat
  deriving DecidableEq, Repr

/-- The half-word of entry `k` of a register group, the even entry in the high half (Table 12.8). -/
def tempPair (hv hs hf lv ls lf : Fld) (k : Nat) : TempReg :=
  if k % 2 = 0 then ⟨hv, hs, hf, k / 2⟩ else ⟨lv, ls, lf, k / 2⟩
/-- The half-word of a sensor. -/
def sensReg (k : Nat) : TempReg :=
  if k < 6 then tempPair F.TEMP_DIE_HI_TEMP F.TEMP_DIE_HI_STALE F.TEMP_DIE_HI_FAILED F.TEMP_DIE_LO_TEMP F.TEMP_DIE_LO_STALE
    F.TEMP_DIE_LO_FAILED k
  else if k < 14 then tempPair F.TEMP_TS_HI_TEMP F.TEMP_TS_HI_STALE F.TEMP_TS_HI_FAILED F.TEMP_TS_LO_TEMP F.TEMP_TS_LO_STALE
    F.TEMP_TS_LO_FAILED (k - 6)
  else if k = 14 then ⟨F.TEMP_PACK_HI_TEMP, F.TEMP_PACK_HI_STALE, F.TEMP_PACK_HI_FAILED, 0⟩
  else tempPair F.TEMP_TFLT_HI_TEMP F.TEMP_TFLT_HI_STALE F.TEMP_TFLT_HI_FAILED F.TEMP_TFLT_LO_TEMP F.TEMP_TFLT_LO_STALE
    F.TEMP_TFLT_LO_FAILED (k - 15)
/-- The half-word of REG_TMAX of a region. -/
def tmaxReg (m : Nat) : TempReg :=
  tempPair F.TEMP_RMAX_HI_TEMP F.TEMP_RMAX_HI_STALE F.TEMP_RMAX_HI_FAILED F.TEMP_RMAX_LO_TEMP F.TEMP_RMAX_LO_STALE
    F.TEMP_RMAX_LO_FAILED m
/-- The half-word of REG_TMIN of a region. -/
def tminReg (m : Nat) : TempReg :=
  tempPair F.TEMP_RMIN_HI_TEMP F.TEMP_RMIN_HI_STALE F.TEMP_RMIN_HI_FAILED F.TEMP_RMIN_LO_TEMP F.TEMP_RMIN_LO_STALE
    F.TEMP_RMIN_LO_FAILED m
/-- The half-word of PKG_TMAX. -/
def pkgReg : TempReg := ⟨F.TEMP_PACK_LO_TEMP, F.TEMP_PACK_LO_STALE, F.TEMP_PACK_LO_FAILED, 0⟩

/-- The temperature of a half-word, in 0.125 °C. -/
def State.temp (s : State) (r : TempReg) : Int := s.getI r.v r.i
/-- The half-word reads FAILED. -/
def State.tempFailed (s : State) (r : TempReg) : Bool := s.flag r.failed r.i
/-- The half-word reads STALE. -/
def State.tempStale (s : State) (r : TempReg) : Bool := s.flag r.stale r.i
/-- Write a half-word: a value, or FAILED reading 0. -/
def State.putTemp (s : State) (r : TempReg) (v : Option Int) : State :=
  match v with
  | some x => ((s.setI r.v r.i (satS 12 x)).clear r.stale r.i).clear r.failed r.i
  | none => ((s.set r.v r.i 0).clear r.stale r.i).mark r.failed r.i

/-- What a sensor holds beside its half-word. -/
def State.sens (s : State) (k : Nat) : Sens := s.th.sens.getD k {}
/-- Change what a sensor holds. -/
def State.putSens (s : State) (k : Nat) (x : Sens) : State := { s with th.sens := s.th.sens.set k x }

/-- A sensor with no good reading since WAKE reads FAILED (R349). -/
def State.sensorsFresh (s : State) : State :=
  let s : State := { s with th := {} }
  (List.range 47).foldl (fun s k => s.mark (sensReg k).failed (sensReg k).i) s

/-! ## Conversion -/

/-- Segment `k` of a falling table that holds ρ: entry `k` ≥ ρ ≥ entry `k + 1`. -/
def ntcSeg : List Nat → Nat → Nat → Option (Nat × Nat × Nat)
  | a :: b :: l, rho, k => if b ≤ rho ∧ rho ≤ a then some (k, a, b) else ntcSeg (b :: l) rho (k + 1)
  | _, _, _ => none
/-- NTC: linear interpolation in the 17-point table, entry `k` at −40 + 12.5 k °C; none out of range (Table 12.2). -/
def ntcTemp (tab : List Nat) (rho : Nat) : Option Int :=
  match ntcSeg tab rho 0 with
  | some (k, a, b) => some (roundDiv ((-320 + 100 * (k : Int)) * ((a : Int) - b) + 100 * ((a : Int) - rho)) (a - b))
  | none => none
/-- Diode: V at 10 µA and ΔV, in µV; none out of range (Table 12.2). -/
def diodeTemp (eta : Nat) (v10 dv : Int) : Option Int :=
  let d : Nat := 5 * eta * 19843
  if v10 < 200000 ∨ 950000 < v10 ∨ d = 0 then none
  else
    let x := dv * 16384 * 4000 - 10926 * (eta * 19843 : Int)
    if x < -440 * (d : Int) ∨ 1400 * (d : Int) < x then none else some (roundDiv x d)
/-- TFLT: the sum S of 16 scans (R348); none below TF_VMIN or above 175 °C. -/
def tfltTemp (v0 slope vmin sum : Nat) : Option Int :=
  let t := roundDiv ((sum : Int) * 125000 - (v0 : Int) * 800000) (slope * 100)
  if sum * 15625 < vmin * 1000000 ∨ 1400 < t then none else some t

/-! ## Readings (R349) -/

/-- CHG_OK (R356), after a reading of BAT_T. -/
def State.chgWindow (s : State) : State :=
  let t := s.temp (sensReg 14)
  let lo : Int := (s.get F.TH_LIMITS_CHG_TMIN : Int) * 8
  let hi : Int := (s.get F.TH_LIMITS_CHG_TMAX : Int) * 8
  let good := !s.tempStale (sensReg 14) && !s.tempFailed (sensReg 14)
  let out := if !good then s.th.chgOut
    else if t < lo ∨ hi < t then true
    else if lo + 16 ≤ t ∧ t ≤ hi - 16 then false else s.th.chgOut
  let s : State := { s with th.chgOut := out }
  s.setB F.THERM_STATUS_CHG_OK 0 (good && !out)

/-- JRN_OK (R357): the CD sensors, else the FD sensors, lie between −40 °C and +125 °C. -/
def State.jrnWindow (s : State) : State :=
  let live := fun (l : List Nat) => l.filter (fun k => !s.tempFailed (sensReg k))
  let use := if (live [3, 4, 5]).isEmpty then live [0, 1, 2] else live [3, 4, 5]
  s.setB F.THERM_STATUS_JRN_OK 0 (!use.isEmpty && use.all (fun k => -320 ≤ s.temp (sensReg k) && s.temp (sensReg k) ≤ 1000))

/-- The windows that a sensor feeds. -/
def State.windowsOf (s : State) (k : Nat) : State :=
  if k = 14 then s.chgWindow else if k < 6 then s.jrnWindow else s

/-- One reading of a sensor; `none` is out of range. While FAILED is set the value stays 0 until the second good reading. -/
def State.reading (s : State) (k : Nat) (v : Option Int) : State :=
  let r := sensReg k
  let x := s.sens k
  match v with
  | none =>
    let s := s.putSens k { x with bad := x.bad + 1, good := 0 }
    (s.when (!s.tempFailed r) (fun s => s.mark r.stale r.i)).windowsOf k
  | some t =>
    if x.failed && x.good = 0 then s.putSens k { x with bad := 0, good := 1 }
    else
      let s := (s.putTemp r (some t)).putSens k { bad := 0, good := 1, ever := true, failed := false }
      (s.when x.failed (fun s => s.logF 0x0C03 0 [(2, k), (2, s.temp r)])).windowsOf k

/-! ## Maxima and minima (R350) -/

/-- The sensors of a region: the TFLT inputs of its phases and the TS inputs of its ROLE. -/
def State.regionSens (s : State) (m : Nat) : List Nat :=
  ((allPhases.filter (fun (n : Fin 32) => s.flag F.PH_STATE_ASSIGNED n && (s.regionOf (s.railOf n)).val == m)).map (fun n => 15 + n.val))
    ++ (List.range 8).filterMap (fun i =>
      if s.th.tsType.getD i 0 ≠ 0 ∧ s.th.tsRole.getD i 0 = m then some (6 + i) else none)
/-- The sensors of the package. -/
def State.pkgSens (s : State) : List Nat :=
  [0, 1, 2, 3, 4, 5] ++ (List.range 8).filterMap (fun i =>
    if s.th.tsType.getD i 0 ≠ 0 ∧ s.th.tsRole.getD i 0 = 4 then some (6 + i) else none)
/-- The temperatures of the sensors that are not FAILED. -/
def State.temps (s : State) (l : List Nat) : List Int :=
  (l.filter (fun k => !s.tempFailed (sensReg k))).map (fun k => s.temp (sensReg k))
/-- The largest of a list. -/
def maxOf : List Int → Option Int
  | [] => none
  | x :: l => some (l.foldl max x)
/-- The smallest of a list. -/
def minOf : List Int → Option Int
  | [] => none
  | x :: l => some (l.foldl min x)

/-- One region's part of a status field of 4 bits. -/
def State.rgnBit (s : State) (f : Fld) (m : Nat) (b : Bool) : State :=
  let w := s.get f
  s.set f 0 (if b then w ||| 2 ^ m else w &&& (2 ^ f.width - 1 - 2 ^ m))

/-- One region's settings and history. -/
def State.rgnTh (s : State) (m : Nat) : RegionTh := s.th.rgn.getD m {}
/-- Change them. -/
def State.putRgnTh (s : State) (m : Nat) (x : RegionTh) : State := { s with th.rgn := s.th.rgn.set m x }

/-! ## Derates -/

/-- The four step thresholds of a region, in 0.125 °C. -/
def State.stepT (s : State) (m k : Nat) : Int :=
  8 * ((match k with
    | 1 => s.get F.STEP_T_S1 m
    | 2 => s.get F.STEP_T_S2 m
    | 3 => s.get F.STEP_T_S3 m
    | _ => s.get F.STEP_T_S4 m : Nat) : Int)
/-- The derate of an effective level (R351). -/
def State.stepD (s : State) (m k : Nat) : Nat :=
  match k with
  | 0 => 128
  | 1 => s.get F.STEP_D_S1 m
  | 2 => s.get F.STEP_D_S2 m
  | 3 => s.get F.STEP_D_S3 m
  | _ => s.get F.STEP_D_S4 m

/-- The level after a maximum `t`: up to the highest threshold reached, down only below the hysteresis (R351). -/
def State.levelFor (s : State) (m lvl : Nat) (t : Int) : Nat :=
  let up := ([1, 2, 3, 4].filter (fun k => s.stepT m k ≤ t)).foldl max 0
  if lvl ≤ up then up
  else
    let hys : Int := 8 * (s.get F.HK_CFG_TD_HYS : Int)
    ([0, 1, 2, 3].find? (fun k => up ≤ k && decide (k < lvl) && decide (t < s.stepT m (k + 1) - hys))).getD lvl

/-- ROR_N from its 4-bit field, where 16 reads 0. -/
def State.rorN (s : State) : Nat := if s.get F.HK_CFG_ROR_N = 0 then 16 else s.get F.HK_CFG_ROR_N

/-- The rate of rise at a round end (R352). -/
def State.rorRound (s : State) (m : Nat) (t : Option Int) : State :=
  let x := s.rgnTh m
  let n := s.rorN
  let span : Int := (n : Int) * s.get F.HK_CFG_HK_ROUND
  let s := s.putRgnTh m { x with hist := (t :: x.hist).take 17 }
  match t, (x.hist.getD (n - 1) none) with
  | some now, some old =>
    let d := (now - old) * 125
    let act := (s.get F.THERM_STATUS_ROR_ACT).testBit m
    let rise := if (x.rorLim : Int) * span < d then x.rise + 1 else 0
    let fall := if 2 * d ≤ (x.rorLim : Int) * span then x.fall + 1 else 0
    let s := s.putRgnTh m { s.rgnTh m with rise := rise, fall := fall }
    if !act && 2 ≤ rise then
      let s := ((s.rgnBit F.THERM_STATUS_ROR_ACT m true).mark F.THERM_STICKY_ROR_S)
      (s.putRgnTh m { s.rgnTh m with fall := 0 }).logF 0x0C05 m [(1, m), (2, satS 16 (roundDiv d span.toNat))]
    else if act && n ≤ fall then s.rgnBit F.THERM_STATUS_ROR_ACT m false else s
  | _, _ => s.putRgnTh m { s.rgnTh m with rise := 0, fall := 0 }

/-- The low-temperature limit (R353). -/
def State.lowtEval (s : State) (m : Nat) (t : Option Int) : State :=
  let x := s.rgnTh m
  let act := (s.get F.THERM_STATUS_LOWT_ACT).testBit m
  match t with
  | none => s
  | some v =>
    if !act && decide (v < 8 * x.lowtLim) then
      ((s.rgnBit F.THERM_STATUS_LOWT_ACT m true).mark F.THERM_STICKY_LOWT_S).logF 0x0C06 m [(1, m), (2, v)]
    else if act && decide (8 * x.lowtLim + 8 * (s.get F.HK_CFG_TD_HYS : Int) ≤ v) then
      s.rgnBit F.THERM_STATUS_LOWT_ACT m false
    else s

/-- One region: maximum, minimum, sensors, level, rate, low temperature. -/
def State.regionEval (s : State) (roundEnd : Bool) (m : Nat) : State :=
  let l := s.regionSens m
  let hi := maxOf (s.temps l)
  let lo := minOf (s.temps l)
  let s := (s.putTemp (tmaxReg m) hi).putTemp (tminReg m) lo
  let bare := allPhases.any (fun (n : Fin 32) => s.flag F.PH_STATE_ASSIGNED n && (s.regionOf (s.railOf n)).val == m) && hi.isNone
  let was := (s.get F.THERM_STATUS_NO_SENSOR).testBit m
  let s := s.rgnBit F.THERM_STATUS_NO_SENSOR m bare
  let s := s.when (bare && !was) (fun s => s.logF 0x0C04 m [(1, m)])
  let s := match hi with
    | some t => s.putRgnTh m { s.rgnTh m with lvl := s.levelFor m (s.rgnTh m).lvl t }
    | none => s
  let s := s.when roundEnd (fun s => s.rorRound m hi)
  let s := s.lowtEval m lo
  let eff := min 4 ((s.rgnTh m).lvl + b2n ((s.get F.THERM_STATUS_ROR_ACT).testBit m))
  let old := (s.rgnTh m).eff
  let s := s.putRgnTh m { s.rgnTh m with eff := eff }
  let w := s.get F.THERM_STATUS_LEVEL
  let s := s.set F.THERM_STATUS_LEVEL 0 (w - bits w (3 * m) 3 * 2 ^ (3 * m) + eff * 2 ^ (3 * m))
  s.when (eff != old) (fun s => s.logF 0x0C08 m [(1, m), (1, old), (1, eff)])

/-- The package maximum and its warning (R350, R354). -/
def State.pkgEval (s : State) : State :=
  let hi := maxOf (s.temps s.pkgSens)
  let s := s.putTemp pkgReg hi
  match hi with
  | none => s
  | some t =>
    let warn : Int := 8 * (s.get F.TH_LIMITS_PKG_TWARN : Int)
    if !s.flag F.THERM_STATUS_PKG_WARN && decide (warn ≤ t) then
      let k := (s.pkgSens.find? (fun k => !s.tempFailed (sensReg k) && s.temp (sensReg k) == t)).getD 0
      ((s.mark F.THERM_STATUS_PKG_WARN).mark F.THERM_STICKY_PKGW_S).logF 0x0C07 0 [(2, k), (2, t)]
    else if s.flag F.THERM_STATUS_PKG_WARN && decide (t < warn - 8 * (s.get F.HK_CFG_TD_HYS : Int)) then
      s.clear F.THERM_STATUS_PKG_WARN
    else s

/-- PKG_SHUT: fault 0x7 is present (R354). -/
def State.pkgShut (s : State) : State :=
  let lim : Int := 8 * ((s.get F.TH_LIMITS_PKG_TSHUT : Int) - 10)
  s.setB F.THERM_STATUS_PKG_SHUT 0 (s.th.cmp != 0 || [0, 1, 2, 3, 4, 5].any (fun k =>
    !s.tempFailed (sensReg k) && decide (lim ≤ s.temp (sensReg k))))

/-- The smallest thermal derate of each region (THERM_DERATE). -/
def State.deratePub (s : State) : State :=
  [0, 1, 2, 3].foldl (fun s m =>
    let x := s.rgnTh m
    let d := min (s.stepD m x.eff) (min (if (s.get F.THERM_STATUS_NO_SENSOR).testBit m then s.th.sensorD else 128)
      (min (if (s.get F.THERM_STATUS_LOWT_ACT).testBit m then x.lowtD else 128) (if s.flag F.THERM_STATUS_PKG_WARN then 96 else 128)))
    s.set F.THERM_DERATE_D m d) s

/-- The thermal state recomputed, at a round end or after a TFLT sum (R350). It acts once the THERMAL values are loaded. -/
def State.thermEval (s : State) (roundEnd : Bool) : State :=
  if s.get F.HK_CFG_HK_ROUND = 0 then s else
  let s := [0, 1, 2, 3].foldl (fun s m => s.regionEval roundEnd m) s
  s.pkgEval.pkgShut.deratePub

end Sys2Proof.Machine
end

