-- ==== Sys2Proof/Machine/PackOps.lean ====
section
/-!
DEFINITION. The pack: presence (R363), charge and reserve (R377 to R379), open-circuit voltage (R380, R381), insertion and
removal (R363, R382), learning (R386 to R388), wear (R385), charger states (R366, R367) and the end of a discharge (R374).
-/
namespace Sys2Proof.Machine

/-! ## Shorthands -/

/-- Change what the pack holds beside its registers. -/
def State.modPk (s : State) (f : Pack → Pack) : State := { s with pk := f s.pk }
/-- The PACK section's settings. -/
def State.pkc (s : State) : PackCfg := s.pk.cfg
/-- CELLS. -/
def State.cells (s : State) : Nat := s.get F.PK_CFG_CELLS
/-- A condition that has stood since an instant, none where it does not stand, has stood for a time in ns. -/
def State.heldFor (s : State) (since : Option Nat) (ns : Nat) : Bool :=
  match since with
  | some t => t + ns ≤ s.now
  | none => false
/-- Since when a condition stands, after it was looked at again. -/
def State.sinceWhen (s : State) (since : Option Nat) (stands : Bool) : Option Nat :=
  if stands then some (since.getD s.now) else none
/-- BAT_V lies below a per-cell level in mV. -/
def State.batBelow (s : State) (mv : Nat) : Bool := 5 * s.get F.PK_VOLT_BAT_V < 4 * s.cells * mv
/-- BAT_V lies above a per-cell level in mV. -/
def State.batAbove (s : State) (mv : Nat) : Bool := 4 * s.cells * mv < 5 * s.get F.PK_VOLT_BAT_V
/-- BAT_I, in mA. -/
def State.batI (s : State) : Int := s.getI F.PK_CUR_BAT_I
/-- BAT_T, in 0.125 °C. -/
def State.batT (s : State) : Int := s.temp (sensReg 14)
/-- BAT_T reads FAILED. -/
def State.batTFailed (s : State) : Bool := s.tempFailed (sensReg 14)
/-- BAT_T lies within the discharge window. -/
def State.disWindow (s : State) : Bool :=
  !s.batTFailed && decide (8 * s.pkc.disTmin ≤ s.batT) && decide (s.batT ≤ 8 * s.pkc.disTmax)
/-- FCC_S, in mA·s (R377). -/
def State.fccS (s : State) : Nat := s.get F.PK_CAP_FCC * 3600
/-- CC_ACC as a signed number. -/
def State.ccAcc (s : State) : Int := s.getI F.PK_CC_ACC_CC_ACC
/-- A change of CC_ACC as charge in mA·s (R377). -/
def State.chargeOf (s : State) (d : Int) : Int := roundDiv (d * 2500) s.pkc.rshunt

/-- A pack record is queued for the journal (R389). -/
def State.queuePack (s : State) : State :=
  (s.modPk (fun p => { p with asocQ := s.get F.PK_SOC_ASOC, recAt := s.now })).journalChanged 1

/-! ## Interpolation in temperature -/

/-- The segment of −20, 0, 25, 45 °C that holds a temperature: index, its start and its width in 0.125 °C, and the temperature
held inside the range. A FAILED sensor counts as −20 °C (R374, R378). -/
def tempSeg (failed : Bool) (t : Int) : Nat × Int × Int :=
  if failed ∨ t ≤ -160 then (0, 0, 160)
  else if t < 0 then (0, t + 160, 160)
  else if t < 200 then (1, t, 200)
  else if t < 360 then (2, t - 200, 160)
  else (2, 160, 160)

/-- R_PACK(T), in 0.1 mΩ, truncated (R374). -/
def State.rPack (s : State) : Int :=
  let (k, dx, w) := tempSeg s.batTFailed s.batT
  let a : Int := s.pkc.rpack.getD k 0
  let b : Int := s.pkc.rpack.getD (k + 1) 0
  (a * (w - dx) + b * dx) / w

/-- The segment of the rate codes 5, 20, 50, 100, 200. -/
def rateSeg (rc : Nat) : Nat × Int × Int :=
  if rc ≤ 5 then (0, 0, 15)
  else if rc < 20 then (0, rc - 5, 15)
  else if rc < 50 then (1, rc - 20, 30)
  else if rc < 100 then (2, rc - 50, 50)
  else if rc < 200 then (3, rc - 100, 100)
  else (3, 100, 100)

/-- QRES%, in 0.01 %, interpolated in rate and temperature and truncated (R378). -/
def State.qresPct (s : State) (rc : Nat) : Int :=
  let (t, dt, wt) := tempSeg s.batTFailed s.batT
  let (r, dr, wr) := rateSeg rc
  let q := fun (i j : Nat) => 50 * ((s.pkc.qres.getD (5 * i + j) 0 : Nat) : Int)
  let row := fun (i : Nat) => q i r * (wr - dr) + q i (r + 1) * dr
  (row t * (wt - dt) + row (t + 1) * dt) / (wr * wt)

/-! ## Charge (R377 to R379) -/

/-- The mean discharge current over the last second, 0 when the pack is not discharging (R378). -/
def State.iDis (s : State) : Nat :=
  if 0 ≤ s.batI then 0
  else
    let l := (s.pk.iHist.filter (fun x => s.now < x.1 + 1000000000)).map (fun x => (-x.2).toNat)
    if l.isEmpty then (-s.batI).toNat else l.foldl (· + ·) 0 / l.length
/-- RC (R378). -/
def State.rateCode (s : State) : Nat :=
  if s.get F.PK_CAP_FCC = 0 then Config.rateOpen s.iDis else s.iDis * 10 / s.get F.PK_CAP_FCC

/-- QREM and ASOC follow the counter (R377); FULL ends below 99 % (R383). -/
def State.gauge (s : State) : State :=
  let fs := s.fccS
  let q := (satI 0 fs (s.pk.qbase + s.chargeOf (s.ccAcc - s.pk.cbase))).toNat
  let asoc := if fs = 0 then Config.asocOpen q else 10000 * q / fs
  let s := (s.set F.PK_QREM_QREM 0 q).set F.PK_SOC_ASOC 0 asoc
  s.when (asoc < 9900) (fun s => s.clear F.PK_STATE_FULL)

/-- Set QREM directly (R377). -/
def State.setQrem (s : State) (q : Nat) : State := (s.modPk (fun p => { p with qbase := q, cbase := s.ccAcc })).gauge

/-- RSOC_calc (R378). -/
def State.rsocCalc (s : State) : Nat :=
  let fs : Int := s.fccS
  let q : Int := s.get F.PK_QREM_QREM
  let res := fs * s.qresPct s.rateCode / 10000
  (satI 0 10000 (if fs = res then Config.rsocOpen q.toNat else 10000 * (q - res) / (fs - res))).toNat
/-- RSOC takes RSOC_calc at once. -/
def State.rsocJump (s : State) : State := (s.set F.PK_SOC_RSOC 0 s.rsocCalc).modPk (fun p => { p with allow := 0 })

/-- RSOC at a capture or a round end (R379). -/
def State.rsocStep (s : State) (roundEnd : Bool) : State :=
  let c := s.rsocCalc
  let now := s.get F.PK_SOC_RSOC
  if s.batI < -(s.pkc.restI : Int) then s.set F.PK_SOC_RSOC 0 (min now c)
  else
    let a := s.pk.allow + (if roundEnd then 5 * s.get F.HK_CFG_HK_ROUND else 0)
    let k := min (a / 100) (if now ≤ c then c - now else now - c)
    let v := if now ≤ c then now + k else now - k
    (s.set F.PK_SOC_RSOC 0 v).modPk (fun p => { p with allow := if v = c then 0 else a - 100 * k })

/-- V_COMP (R374), in µV, and its register. -/
def State.compVolt (s : State) : State :=
  let uv : Int := (s.get F.PK_VOLT_BAT_V : Int) * 1250 + |s.batI| * s.rPack * s.get F.PK_LIFE_RFACT / 163840
  (s.set F.PK_VOLT_V_COMP 0 (satU 16 (uv / 1250)).toNat).modPk (fun p => { p with vUv := uv.toNat })

/-- HU_ARM (R369). -/
def State.huArm (s : State) : State :=
  s.setB F.PK_STATE_HU_ARM 0 (s.flag F.PK_STATE_PRESENT && !s.flag F.PK_STATE_PACK_DEAD && s.disWindow
    && !s.batBelow s.pkc.veod && s.get F.PK_SOC_RSOC != 0)

/-! ## Wear (R385) -/

/-- SOH, and EOL with its record, after a change of FCC or RFACT. -/
def State.wear (s : State) : State :=
  let d := s.get F.PK_CFG_DESIGN_CAP
  let soh := if d = 0 then Config.sohOpen (s.get F.PK_CAP_FCC) else min 1023 (s.get F.PK_CAP_FCC * 1000 / d)
  let s := s.set F.PK_LIFE_SOH 0 soh
  if s.get F.PK_LIFE_SOH < s.pkc.sohEol * 10 ∨ 32768 ≤ s.get F.PK_LIFE_RFACT then
    let s := (s.mark F.PK_STATE_EOL).mark F.PK_STICKY_EOL_S
    if s.pk.eolTold then s
    else (s.modPk (fun p => { p with eolTold := true })).logC 0x0D0D 0 [(2, s.get F.PK_LIFE_SOH), (2, s.get F.PK_LIFE_RFACT)]
  else s.clear F.PK_STATE_EOL

/-- Discharge since the last account goes into DIS_ACC, and each whole FCC into CYC_CNT. -/
def State.disAccount (s : State) : State :=
  let d := s.ccAcc - s.pk.disBase
  let unit := s.pkc.rshunt * 3600
  let q := s.pk.disQ + (if d < 0 then (-d).toNat * 2500 else 0)
  let acc := s.pk.disAcc + (if unit = 0 then 0 else q / unit)
  let fcc := s.get F.PK_CAP_FCC
  let s := s.modPk (fun p => { p with disBase := s.ccAcc, disQ := if unit = 0 then 0 else q % unit
                                      disAcc := if fcc ≠ 0 ∧ fcc ≤ acc then acc - fcc else acc })
  s.when (fcc ≠ 0 && fcc ≤ acc) (fun s => s.inc F.PK_CAP_CYC_CNT)

/-! ## Learning (R386 to R388) -/

/-- The open cycle is disqualified (R387). -/
def State.lrnDisq (s : State) (cause : Nat) : State :=
  if s.flag F.PK_STATE_LRN_OPEN then
    let s := ((s.clear F.PK_STATE_LRN_OPEN).set F.PK_STATE_DISQ 0 cause).mark F.PK_STICKY_LRN_DQ_S
    (s.logC 0x0D0B 0 [(1, cause)]).queuePack
  else s
/-- A cycle opens at a reference point. -/
def State.lrnOpen (s : State) (asoc : Nat) : State :=
  (s.mark F.PK_STATE_LRN_OPEN).modPk (fun p => { p with lrnRef := asoc, lrnAcc := s.ccAcc, lrnAt := s.now, lrnOver := 0 })

/-- A reference point closes the open cycle (R386, R388) and opens a new one there. -/
def State.lrnPoint (s : State) (asoc : Nat) (coarse : Bool) : State :=
  let da : Nat := ((asoc : Int) - s.pk.lrnRef).natAbs
  let s :=
    if s.flag F.PK_STATE_LRN_OPEN && !coarse && decide (s.pkc.lrnD * 100 ≤ da) && da != 0 then
      let old := s.get F.PK_CAP_FCC
      let new := (s.chargeOf (s.ccAcc - s.pk.lrnAcc)).natAbs * 10000 / da / 3600
      let d := s.get F.PK_CFG_DESIGN_CAP
      if s.flag F.PK_CTRL_LRN_VETO then s.lrnDisq 7
      else if new * 100 < d * 50 ∨ d * 110 < new * 100 then s.lrnDisq 6
      else
        let fcc := max (old * (100 - s.pkc.lrnStep) / 100) (min new (old * (100 + s.pkc.lrnStep) / 100))
        let s := (s.set F.PK_CAP_FCC 0 fcc).mark F.PK_STICKY_LRN_OK_S
        let s := s.setQrem (s.fccS * asoc / 10000)
        ((s.logC 0x0D0A 0 [(2, old), (2, min new 65535), (2, fcc)]).wear).queuePack
    else s
  s.lrnOpen asoc

/-- The checks of an open cycle at a capture (R387), `ms` since the last one. -/
def State.lrnCheck (s : State) (ns : Nat) : State :=
  if !s.flag F.PK_STATE_LRN_OPEN then s
  else if s.tempStale (sensReg 14) || s.batTFailed || decide (s.batT < 8 * s.pkc.lrnTmin) || decide (8 * s.pkc.lrnTmax < s.batT) then
    s.lrnDisq 1
  else if s.flag F.HK_STATUS_SELF_FAIL then s.lrnDisq 4
  else if s.pkc.lrnImax * s.get F.PK_CAP_FCC < 10 * s.batI.natAbs then
    let t := s.pk.lrnOver + ns
    if 10000000000 < t then s.lrnDisq 2 else s.modPk (fun p => { p with lrnOver := t })
  else s

/-! ## Open-circuit voltage (R380, R381) -/

/-- The OCV reading of a capture, in mV per cell. -/
def State.ocv (s : State) : Int :=
  if s.cells = 0 then 0
  else ((s.get F.PK_VOLT_BAT_V * 5 / (4 * s.cells) : Nat) : Int) - s.pkc.ocvTc * (s.batT - 200) / 8000

/-- Find the interval of a rising table that holds `x`: index, start, width. -/
def ocvSeg : List Nat → Int → Nat → Option (Nat × Nat × Nat)
  | a :: b :: l, x, k => if (a : Int) ≤ x ∧ x < b then some (k, a, b - a) else ocvSeg (b :: l) x (k + 1)
  | _, _, _ => none
/-- ASOC_ocv, and whether its interval is steep enough (R380). -/
def State.ocvSoc (s : State) : Nat × Bool :=
  let x := s.ocv
  match ocvSeg s.pkc.ocv x 0 with
  | some (k, a, w) => (500 * k + (500 * (x - a) / w).toNat, s.pkc.slopeMin ≤ w)
  | none => if x < (s.pkc.ocv.headD 0 : Nat) then (0, true) else (10000, true)

/-- The pack has rested for REST_T (R380). -/
def State.rested (s : State) : Bool := s.heldFor s.pk.restAt (s.pkc.restT * 60000000000)

/-- Apply an OCV point at a place: 1 start-up, 2 recovery rest, 3 pack test (R380, R386, Table 13.7). -/
def State.ocvApply (s : State) (place : Nat) : State :=
  let (x, ok) := s.ocvSoc
  if s.batTFailed || !ok then s else
  let old := s.get F.PK_SOC_ASOC
  let coarse := s.flag F.PK_STATE_COARSE
  let s := ((s.setQrem (s.fccS * x / 10000)).clear F.PK_STATE_COARSE).mark F.PK_STICKY_OCV_S
  let s := s.logC 0x0D09 0 [(2, old), (2, s.get F.PK_SOC_ASOC), (2, place)]
  ((s.rsocJump).lrnPoint x coarse).queuePack

/-! ## Insertion and removal (R363, R382) -/

/-- The charger state. -/
def State.chg (s : State) : Nat := s.get F.PK_STATE_CHG_ST
/-- Put the charger into a state; what must stand for a time in it starts over. -/
def State.setChg (s : State) (k : Nat) : State :=
  (s.modPk (fun p => { p with termAt := none, rechAt := none })).set F.PK_STATE_CHG_ST 0 k
/-- The charger switches: PRE, CC, CV or TEST. -/
def State.chgOn (s : State) : Bool := s.chg == 2 || s.chg == 3 || s.chg == 4 || s.chg == 6

/-- A pack test aborts, is recorded and retried after 1 h (R384). -/
def State.testAbort (s : State) : State :=
  if s.pk.test = 0 then s else
  let s := (s.clear F.PK_STATE_TEST_ACT).modPk (fun p => { p with test := 0, testRetry := true, testAt := s.now })
  let s : State := { s with pow.testEnd := s.now }
  let s := s.when (s.chg == 6) (fun s => s.setChg 1)
  s.logC 0x0D0C 0 [(2, 0), (2, s.get F.PK_LIFE_RFACT)]

/-- A pack is newly inserted: the charger is held off for 2 s (R382), faults end (Table 13.2). -/
def State.inserted (s : State) : State :=
  let s := (s.lrnDisq 5).clear F.PK_STATE_PACK_DEAD
  let s := s.when (s.chg == 7) (fun s => (s.setChg 1).set F.PK_STATE_CHG_FLT 0 0)
  (s.modPk (fun p => { p with insHold := true, insAt := s.now, firstEst := false })).queuePack
/-- A pack is removed. -/
def State.removed (s : State) : State :=
  let was := s.chg
  let s := ((s.testAbort).setChg 0).clear F.PK_STATE_HU_ARM
  ((s.logC 0x0D06 0 [(1, was)]).lrnDisq 5).queuePack

/-- The hold ends: the pack counts as new, and the next capture sets its charge (R382). -/
def State.newPack (s : State) : State :=
  let s := (s.set F.PK_CAP_FCC 0 (s.get F.PK_CFG_DESIGN_CAP)).set F.PK_CAP_CYC_CNT 0 0
  let s := s.set F.PK_LIFE_RFACT 0 0x4000
  (s.modPk (fun p => { p with insHold := false, firstEst := true, disAcc := 0, disQ := 0, disBase := s.ccAcc, eolTold := false })).wear

/-- The first estimate of an inserted pack, from the next capture: no rest and no slope test (R382). -/
def State.firstEstimate (s : State) : State :=
  let x := (s.ocvSoc).1
  let s := ((s.modPk (fun p => { p with firstEst := false })).setQrem (s.fccS * x / 10000)).mark F.PK_STATE_COARSE
  ((s.logC 0x0D05 0 [(2, s.get F.PK_SOC_ASOC), (1, 1)]).rsocJump).queuePack

/-- The start-up estimate from the journal's pack record, with the pack present (R381). -/
def State.packStart (s : State) : State :=
  match s.pk.jrec with
  | none => s.inserted
  | some b =>
    let u := fun (o k : Nat) => leNat (slice b o k)
    let fl := u 14 2
    let s := ((s.set F.PK_CAP_FCC 0 (u 4 2)).set F.PK_LIFE_RFACT 0 (u 6 2)).set F.PK_CAP_CYC_CNT 0 (u 8 2)
    let s := ((((s.setB F.PK_STATE_COARSE 0 (bit fl 0)).setB F.PK_STATE_FULL 0 (bit fl 1)).setB F.PK_STATE_EOL 0 (bit fl 2)).setB
      F.PK_STATE_PACK_DEAD 0 (bit fl 3)).set F.PK_SOC_RSOC 0 (u 20 2)
    let same := u 12 2 == s.get F.PK_CC_CC_EPOCH
    let s := s.modPk (fun p => { p with disAcc := u 10 2, disBase := s.ccAcc, eolTold := bit fl 2, qbase := u 0 4
                                        cbase := if same then toS 32 (u 16 4) else s.ccAcc })
    let s := (s.gauge).wear
    if same then s
    else
      let (x, ok) := s.ocvSoc
      if s.pkc.restT ≤ s.get F.PK_CC_DORM_MIN && ok && !s.batTFailed then
        if s.pkc.swapD * 100 < ((x : Int) - s.get F.PK_SOC_ASOC).natAbs then s.inserted else s.ocvApply 1
      else s

/-- Presence after a capture (R363). The first present reading since WAKE is the start-up, not an insertion (R381). -/
def State.presence (s : State) : State :=
  let above := !s.batBelow 1500
  let below := s.batBelow 1000
  let s := s.modPk (fun p => { p with upRun := if above then p.upRun + 1 else 0, dnRun := if below then p.dnRun + 1 else 0 })
  if !s.flag F.PK_STATE_PRESENT && 2 ≤ s.pk.upRun then
    let s := s.mark F.PK_STATE_PRESENT
    if s.pk.seen then s.inserted else (s.modPk (fun p => { p with seen := true })).packStart
  else if s.flag F.PK_STATE_PRESENT && 2 ≤ s.pk.dnRun then
    (s.clear F.PK_STATE_PRESENT).removed
  else s

/-! ## Charging (R366, R367) -/

/-- ICHG_EFF (R366). -/
def State.ichgEff (s : State) : Nat :=
  let fw := s.get F.PK_CTRL_ICHG_FW
  if fw = 0 then s.pkc.ichg else min s.pkc.ichg fw

/-- The modes that allow charging (R366). -/
def chgMode : Mode → Bool
  | .softstart | .regulate | .shed | .hiccup | .caretaker | .service => true
  | _ => false

/-- The conditions of R366 but the rest and the test. -/
def State.chgBase (s : State) : Bool :=
  s.flag F.PK_STATE_PRESENT && !s.flag F.PK_STATE_PACK_DEAD && s.get F.PK_STATE_CHG_FLT == 0 && s.flag F.PK_CTRL_CHG_EN
    && s.flag F.THERM_STATUS_CHG_OK && chgMode s.mode && !s.pk.inLost && !s.pk.insHold
/-- Charging is allowed (R366). -/
def State.chgOk (s : State) : Bool := s.chgBase && !s.pk.recRest && s.pk.test == 0

/-- A charger fault (R367): 1 TIMER, 2 PRE, 3 OVP. -/
def State.chgFault (s : State) (cause : Nat) : State :=
  let s := ((s.setChg 7).set F.PK_STATE_CHG_FLT 0 cause).mark F.PK_STICKY_CHG_FLT_S
  s.logC 0x0D08 0 [(1, cause)]

/-- What ends with the conditions of R366, in each update: a charger that may not charge waits, one without a pack is OFF,
an OFF one waits once the pack is there and the mode allows; a test that may not go on aborts (R384). -/
def State.chargerRound (s : State) : State :=
  if !s.flag F.PK_CFG_PACK_DECL then s else
  let s := s.when (s.pk.test != 0 && !s.chgBase) State.testAbort
  let c := s.chg
  if c == 7 then s
  else if !s.flag F.PK_STATE_PRESENT then s.when (c != 0) (fun s => s.setChg 0)
  else if c == 0 then s.when (chgMode s.mode) (fun s => s.setChg 1)
  else if (c == 2 || c == 3 || c == 4 || c == 5) && !s.chgOk then s.setChg 1
  else if c == 6 && s.pk.test != 2 then s.setChg 1
  else s

/-- Entry to DONE (R383, R386, R389): full by definition. -/
def State.chgDone (s : State) : State :=
  let t := min 65535 ((s.now - s.pk.chgAt) / 1000000000)
  let s := ((s.setChg 5).mark F.PK_STATE_FULL).clear F.PK_STATE_COARSE
  let s := s.setQrem s.fccS
  let s := s.mark F.PK_STATE_FULL
  let s := (s.logC 0x0D07 0 [(4, s.get F.PK_QREM_QREM), (2, t)]).rsocJump
  (s.lrnPoint 10000 false).queuePack

/-! ## The pack switch and the end of a discharge (R370 to R375) -/

/-- HU_GATE. -/
def State.setGate (s : State) (b : Bool) : State := (s.modPk (fun p => { p with gate := b })).setB F.PK_STATE_HU_ON 0 b

/-- The pack switch acts: in HOLDUP, in CARETAKER and in SERVICE under a standing loss (R370, R375). -/
def State.huMode (s : State) : Bool := s.pk.inLost && (s.mode == .holdup || s.mode == .caretaker || s.mode == .service)

/-- The end of discharge, cause of Table 13.4. -/
def State.eod (s : State) (cause : Nat) : State :=
  if s.pow.noArm then s else
  let s := (s.set F.PK_STATE_EOD_CAUSE 0 cause).mark F.PK_STICKY_EOD_S
  let s := s.logC 0x0D03 0 [(1, cause), (2, s.get F.PK_VOLT_BAT_V), (2, s.get F.PK_VOLT_V_COMP), (2, s.get F.PK_SOC_RSOC)]
  let s : State := { s with pow.noArm := true }
  let s := s.when (decide (cause ≤ 4)) (fun s => (s.onRails State.disarm).stopInOrder 255)
  s.queuePack

/-- The Front die's own stop (R372): every rail stops fast, the pack is disconnected. -/
def State.huTrip (s : State) (cause : Nat) : State :=
  let s := s.onRails (fun s r => match s.st r with
    | .ramp | .reg | .shed | .rampdown | .caretaken | .armed | .hiccup => (s.fastStop r).railOff r
    | _ => s)
  (s.setGate false).eod cause

/-- The pack is disconnected once every rail is OFF at the end of a discharge or of an orderly shutdown (R374, R78). -/
def State.gateRound (s : State) : State :=
  if s.pk.gate && (s.pow.noArm || (s.mode == .holdup && s.flag F.MODE_STATUS_SHUTDOWN_ACT))
      && !allRails.any (fun r => (s.st r).switching || s.st r == .caretaken) then s.setGate false
  else s

/-- Everything of the pack that follows in each update. -/
def State.packRound (s : State) : State := s.chargerRound.gateRound

/-- The Control die's part of a capture or a round end: the account of charge, HU_ARM, the queue of R389. -/
def State.packEstimate (s : State) (roundEnd : Bool) : State :=
  if !s.pow.cdUp || s.mode == .caretaker || !s.flag F.PK_STATE_PRESENT then s else
  let s := (s.gauge.compVolt.rsocStep roundEnd).huArm
  s.when (100 ≤ ((s.get F.PK_SOC_ASOC : Int) - s.pk.asocQ).natAbs) State.queuePack

end Sys2Proof.Machine
end

