-- ==== Sys2Proof/Machine/Settle.lean ====
section
/-!
DEFINITION. What follows every command in the same update: the ordered stop, REG against SHED, a held SAFESTOP_CLR, the
running mode, the pack, the Control die's mirror, and the notices that a change of state queues. `run` wraps every meaning.
-/
namespace Sys2Proof.Machine

/-- Entry to PARSE by transition `n`: domain P takes its reset values, every LATCHED rail returns to OFF, the Parser
starts over (R29, R80, R487). A device-latching fault kept from WAKE that is still present takes T6 at once (R290). -/
def State.enterParse (s : State) (n : Nat) : State :=
  let s : State := { s with regs := resetRegs s.regs (fun f => f.dom == .p) }
  let s := s.onRails (fun s r => if s.st r == .latched || s.st r == .armed || s.st r == .hiccup then s.railOff r else s)
  let s : State := { s with par := {}, pow.released := false, pow.voted := false, pow.stopSet := 0, pow.wantSafestopClr := false, br.applyRestarts := 0, pmb.masks := [], tlm := {} }
  let s := ((s.clear F.PK_STATE_LRN_OPEN).clear F.VSEL_STATUS_ACCEPTED).set F.VSEL_STATUS_CODE 0 0
  let s := State.enter { s with pow.vselTold := false } n .parse
  s.when (s.flag F.FAULT_HOLD_FAULT_HOLD && s.dlPresent) (fun s => s.enterSafestop 6)

/-- A rail may arm (Table 3.4, Table 3.5, R78, R316): enabled by configuration, its region enable on, no pre-start hold, no
orderly shutdown, in PRECHECK, a running mode or SERVICE. -/
def State.mayArm (s : State) (r : Fin 8) : Bool :=
  s.st r == .off && (s.cfg r).present && (s.cfg r).enabled && s.pow.en[s.regionOf r] && !s.flag F.RP_STATUS_PRE_HOLD r
    && !s.flag F.MODE_STATUS_SHUTDOWN_ACT && !s.pow.noArm && !s.pow.vddActs && !((s.cfg r).spans && s.cj.refused)
    && (s.mode == .precheck || s.mode == .service || s.mode.running)

/-- A rail enters ARMED with SEN high (R218); its pre-start tests begin (R316). -/
def State.arm (s : State) (r : Fin 8) : State :=
  let s := (s.setRail r .armed).setSen r true
  s.modFr r (fun f => { f with senAt := s.now, senLead := false, tested := false, started := false, passed := false, readyAt := none
                               inStart := s.mode == .precheck })

/-- Every rail that may arm does. -/
def State.armRound (s : State) : State := s.onRails (fun s r => if s.mayArm r then s.arm r else s)

/-- A held SAFESTOP_CLR is evaluated in the update in which the last RAMPDOWN ends (R80): T21 when no device-latching
condition is present, else it lapses. -/
def State.clrRound (s : State) : State :=
  if s.pow.wantSafestopClr && s.mode == .safestop && !allRails.any (fun r => s.st r == .rampdown) then
    let s : State := { s with pow.wantSafestopClr := false }
    if s.dlPresent then s else (s.clear F.FAULT_HOLD_FAULT_HOLD).enterParse 21
  else s

/-- REG against SHED (R156): a rail in REG or SHED is in SHED while a live phase is IDLE or diode emulation is active. -/
def State.shedRound (s : State) : State :=
  s.onRails (fun s r =>
    let want := if !(s.idleOf r).isEmpty || s.flag F.PHC_STATUS_DE_ACT r then RailState.shed else RailState.reg
    if (s.st r == .reg || s.st r == .shed) && s.st r != want then s.modRail r (fun x => { x with st := want }) else s)

/-- T10 and T11: the running mode follows the rail states (R74, R75). -/
def State.modeRound (s : State) : State :=
  match s.mode with
  | .regulate | .shed | .hiccup => if s.runningMode == s.mode then s else s.enter 11 s.runningMode
  | .softstart =>
    if allRails.any (fun r => s.st r == .ramp || (s.st r == .armed && (s.fr r).inStart)) then s
    else s.enter 10 s.runningMode
  | _ => s

/-- One phase entry as the Control die sees it. -/
def Phase.entry (p : Phase) : Sw × Health × Nat × Nat := (p.sw, p.health, p.obsCnt, p.failCause)

/-- A mirror entry changes only when the Front die reports a change (R337). -/
def follow {α : Type} [DecidableEq α] (old new mir : List α) : List α :=
  List.zipWith (fun on m => if on.1 = on.2 then m else on.2) (List.zip old new) mir

/-- The Control die's mirror takes the changes of this update while the Control die runs (R337). -/
def State.mirrorRound (s0 s1 : State) : State :=
  if s1.pow.cdUp && s1.mode != .caretaker then
    { s1 with
      mirPh := follow (s0.phases.toList.map Phase.entry) (s1.phases.toList.map Phase.entry) s1.mirPh
      mirRail := follow (s0.rails.toList.map Rail.st) (s1.rails.toList.map Rail.st) s1.mirRail }
  else s1

/-- The state that a RAILST notice tells (R252): the rail enters REG from RAMP, though SHED may follow in the same update, or enters
HICCUP, LATCHED, or OFF from a switching state. -/
def railNoted (a b : RailState) : Option RailState :=
  if a == .ramp && (b == .reg || b == .shed) then some .reg
  else if a != b && (b == .hiccup || b == .latched || (b == .off && a.switching)) then some b else none

/-- The spanning rail, where this controller holds a part of it. -/
def State.spanRail (s : State) : Option (Fin 8) :=
  if s.flag F.CJ_CFG_CJ_EN && !s.flag F.CJ_STATUS_DUP_CTL then allRails.find? (fun r => (s.cfg r).present && (s.cfg r).spans) else none
/-- The payload of a RAILEV (Table 16.6). -/
def State.railEv (s : State) (r : Fin 8) : Nat :=
  r.val * 2 ^ 45 + (s.st r).code * 2 ^ 41 + s.get F.RP_STATUS_LATCH_CAUSE r * 2 ^ 37 + s.get F.HIC_STATUS_RETRY_CNT r * 2 ^ 33
/-- The system's live phases (R477): own, those of members not lost, and of members lost within the last ISLAND_MAX. -/
def State.sysLive (s : State) (r : Fin 8) : Nat :=
  (s.liveOf r).length + ((s.cj.peers.filter (fun p =>
    p.joined && (!p.lost || s.now < p.lostAt + s.get F.CJ_SPAN_ISLAND_MAX * 1000000))).map Peer.nLive).sum
/-- What the link follows in the same update (R477): a fast stop of this controller's part into HICCUP or LATCHED is announced by
RAILEV; on the leader too few live phases latch the rail with cause 4. A state taken from the link is not announced. -/
def State.cjRound (s0 s1 : State) : State :=
  match s1.spanRail with
  | none => s1
  | some r =>
    let low := s1.flag F.CJ_CFG_LEADER && ((s1.st r).switching || s1.st r == .hiccup) && s1.sysLive r < s1.get F.CJ_SPAN_SYS_MIN_LIVE
    let s := if low then s1.railLatch r 4 true else s1
    let ev := s0.st r != s.st r && (s.st r == .hiccup || s.st r == .latched) && !s.cj.taken
      && !(s0.st r == .rampdown && (s0.fr r).fallAt.isSome)
    { s with cj := { s.cj with taken := false, txq := if ev then (4, s.railEv r) :: s.cj.txq else s.cj.txq } }

/-- The notices that the change from `s0` to `s1` queues (Table 8.9): MODE, RAILST, CEILING. -/
def State.noteRound (s0 s1 : State) : State :=
  if !s1.pow.cdUp then s1 else
  let s := s1.when (s0.mode != s1.mode && (s0.mode == .holdup || s1.mode == .holdup || s1.mode == .safestop))
    (fun s => s.noteAll 4 s1.mode.code)
  s.onRails (fun s r =>
    let s := match railNoted (s0.st r) (s1.st r) with
      | some x => s.noteRail r 3 x.code
      | none => s
    s.when (s0.dEff r != s1.dEff r) (fun s => s.noteRail r 1 (s1.ceiling r)))

/-- PRECHECK completes (R316): the vote is done and no ARMED rail waits for its tests; T7 with a rail ARMED, else T8. -/
def State.precheckRound (s : State) : State :=
  if s.mode == .precheck && s.pow.voted && allRails.all (fun r => s.st r != .armed || (s.fr r).tested) then
    if allRails.any (fun r => s.st r == .armed) then s.enter 7 .softstart else s.enter 8 .regulate
  else s

/-- Held credit returns are released when the withholding ends (R251). -/
def State.creditRound (s : State) : State :=
  if s.withheld then s else
  allPorts.foldl (fun s p =>
    if (s.port p).held = 0 then s
    else (s.set F.AL_STATUS_CRED p (min 64 (s.get F.AL_STATUS_CRED p + (s.port p).held))).modPort p (fun q => { q with held := 0 })) s

/-- The PMBus status bits of a page whose conditions Table 16.4 gives as states and entries of its rail, its region and the
device. A rail that the configuration leaves unused has none (R458). -/
def State.pmbRail (s0 s : State) (r : Fin 8) : State :=
  if !(s.cfg r).present then s else
  let m := (s.regionOf r).val
  let v := fun (c : Bool) (k : Nat) => if c then k else 0
  let hic := s0.st r != .hiccup && s.st r == .hiccup
  let hu := s0.mode != .holdup && s.mode == .holdup
  let huAny := (s0.mode == .holdup) != (s.mode == .holdup)
  let on := (s.st r).switching || s.st r == .caretaken
  let s := s.pmbBits F.PMB_RSTAT_STATUS_WORD r
    (v (!on) 64 + v (!s.flag F.RP_STATUS_PGOOD_ST r) 2048 + v (s.st r == .latched) 512 + v hic 16 + v hu 8)
  let s := s.pmbBits F.PMB_RSTAT_STATUS_VOUT r (v (s.flag F.RP_STATUS_UV_RD r) 32)
  let s := s.pmbBits F.PMB_RSTAT_STATUS_IOUT r (v hic 128 + v (s.flag F.ENG_STATUS_CL_ACT r) 32)
  let s := s.pmbBits F.PMB_RSTAT2_STATUS_INPUT r (v hu 16)
  let s := s.pmbBits F.PMB_RSTAT2_STATUS_TEMP r
    (v (s.flag F.THERM_STATUS_PKG_WARN || 0 < (s.th.rgn.getD m {}).eff) 64 + v ((s.get F.THERM_STATUS_LOWT_ACT).testBit m) 32)
  s.pmbBits F.PMB_RSTAT2_STATUS_MFR r (v (s.flag F.RP_STATUS_SNS_AUX r) 64 + v huAny 16)

/-- The PMBus status follows the block while the Control die runs; a bit that sets again ends the release of SMBALERT_N that an
Alert Response Address read made (R461, R463). -/
def State.pmbRound (s0 s1 : State) : State :=
  if !s1.pow.cdUp || s1.mode == .wake || s1.mode == .dormant || s1.mode == .caretaker then s1 else
  let s := s1.onRails (fun s r => State.pmbRail s0 s r)
  let s := s.when (s.flag F.JRN_STICKY_SLOT_BAD_S) (fun s => s.cml 16)
  let now := s.alertBits
  { s with pmb.released := s.pmb.released && (now - (now &&& s.pmb.seen)) == 0, pmb.seen := now }

/-- A rail keeps the state it left and the instant at which it did (R247). -/
def State.wasRound (s0 s1 : State) : State :=
  s1.onRails (fun s r =>
    if s0.st r == s.st r || (s.fr r).wasAt == s.now then s else s.modFr r (fun f => { f with was := s0.st r, wasAt := s.now }))

/-- Everything that follows a command in the same update. -/
def settle (s0 s1 : State) : State :=
  let s := (State.cjRound s0 s1.stopRound).packRound.clrRound.armRound.precheckRound.shedRound.modeRound.hintRound.clampRound
  let s := State.wasRound s0 s
  (State.noteRound s0 (State.mirrorRound s0 (State.pmbRound s0 s))).creditRound

/-- Run a command's effect at instant `t`: the clock moves, the effect acts, the update settles. No effect moves the clock
itself or the queue of waiting commands. -/
def run (t : Nat) (f : State → State) (s : State) : Host.Outcome State Fault Refusal :=
  .next { settle (s.at t) (f (s.at t)) with now := (s.at t).now, pending := s.pending }

end Sys2Proof.Machine
end

