-- ==== Sys2Proof/Machine/Stage.lean ====
section
/-!
DEFINITION. The drive of the power stages: the level of each PWM ball (R202), the on-time of each phase (R197), cuts
(R210, R211), blanking (R206) and pairs (R174, R205).
-/
namespace Sys2Proof.Machine

/-- The partner of a phase in a dual-phase stage. -/
def State.partner (s : State) (n : Fin 32) : Option (Fin 32) :=
  if s.flag F.PH_STATE_PAIRED n then some (Fin.ofNat 32 (s.get F.PH_STATE_PAIR_ID n)) else none

/-- PC_k of a phase (R196): the ticks since its counter passed 0, which it did at its placed offset from the rail's count of 0. -/
def State.pcAt (s : State) (n : Fin 32) (tk : Nat) : Nat := tk - (s.ph n).onAt
/-- PC_k now. -/
def State.pc (s : State) (n : Fin 32) : Nat := s.pcAt n s.tick
/-- Where in the rail's period the present period of a phase started, in ticks. -/
def State.posOf (s : State) (n : Fin 32) : Nat := since (s.period n) (s.fr (s.railOf n)).rcAt (s.ph n).onAt

/-- Phase `n` is partner B of a pair whose two phases switch: its turn-on comes second after the rail's period start (R174). -/
def State.isB (s : State) (n : Fin 32) : Bool :=
  match s.partner n with
  | some a => (s.ph a).sw.switching && (s.ph n).sw.switching
      && (decide (s.posOf a < s.posOf n) || (s.posOf a == s.posOf n && decide (a < n)))
  | none => false

/-- The output voltage in units of 0.03125 mV (R162). -/
def State.voU (s : State) (r : Fin 8) : Int :=
  ((s.dacCode r : Int) * 20 - (s.fr r).code * 16) * (s.cfg r).divider / 4096
/-- The input voltage in units of 0.03125 mV (R162). -/
def State.vinU (s : State) : Int := (s.pow.busV : Int) * 160

/-- Predicted fall time under diode emulation, in ticks (R186); none where the output is not above 0. -/
def State.tFall (s : State) (n : Fin 32) : Option Int :=
  let vo := s.voU (s.railOf n)
  if vo ≤ 0 then none else some (((s.ph n).ton : Int) * (s.vinU - vo) / vo)

/-- MIN_OFF in ticks. -/
def State.minOff (s : State) (n : Fin 32) : Nat := s.get F.PWM_TIME_MIN_OFF n * 32
/-- The tick at which the pulse of the present period starts: at PC 0, or later by the shift of R174. -/
def State.pulseFrom (s : State) (n : Fin 32) : Nat := (s.ph n).onAt + (s.ph n).pairShift
/-- The tick at which the pulse of the present period ends (R198): Ton after its start less the part that R174 cut off, and never
before MIN_ON; at its start where the period has none. -/
def State.pulseTo (s : State) (n : Fin 32) : Nat :=
  let p := s.ph n
  if p.ton = 0 && !p.pulse then s.pulseFrom n else s.pulseFrom n + max (p.ton - p.pairCut) (s.get F.PWM_TIME_MIN_ON n * 32)
/-- The tick at which the low side goes off under diode emulation (R186); none where the fall has no end. -/
def State.lowTo (s : State) (n : Fin 32) : Option Nat :=
  (s.tFall n).map (fun f => s.pulseTo n + (f - (s.get F.PHC_TIME_DE_MARGIN (s.railOf n) : Int) * 32).toNat)

/-- The level that modulation gives at a tick (R198, R186, R201): the pulse, then LOW, or the low-side time of diode emulation and
tri-state to the next turn-on unless that is less than 40 ns away from its start. -/
def State.modulationAt (s : State) (n : Fin 32) (tk : Nat) : Level :=
  let p := s.ph n
  if p.pulse && decide (s.pulseFrom n ≤ tk) && decide (tk < s.pulseTo n) then .high
  else if s.flag F.PHC_STATUS_DE_ACT (s.railOf n) then
    if tk < s.pulseFrom n then (if s.level n == .tri then .tri else .low)
    else match s.lowTo n with
    | some e => if tk < e || p.nextAt < e + 512 then .low else .tri
    | none => .low
  else .low

/-- The rail holds its phases in tri-state while it switches: in RAMP before its pre-bias sample (R141), and at the end of RAMPDOWN once
each phase has passed its next period start (R219). -/
def State.heldTri (s : State) (n : Fin 32) : Bool :=
  let r := s.railOf n
  (s.st r == .ramp && !(s.fr r).started) || ((s.fr r).fallAt.isSome && !(s.ph n).triPend)

/-- The level of the output of a phase at a tick, by the first entry of R202 that applies, with the 40 ns rule of R201 and the refresh
of R208 before the first turn-on. -/
def State.driveAt (s : State) (n : Fin 32) (tk : Nat) : Level :=
  let r := s.railOf n
  let p := s.ph n
  let w := s.get F.PWM_TIME_BST_W n * 32
  let want : Level :=
    if s.br.clkLost || s.pow.vddActs || s.pow.resetN || s.pow.fpllOff then .tri
    else if !s.flag F.SEN_CFG_SEN_STATE r || (!p.sw.switching && !p.triPend) || s.heldTri n then .tri
    else if p.braking || p.npkTri then .tri
    else if s.level n != .high && p.offAt != 0 && decide (tk < p.offAt + s.minOff n) then .low
    else if p.cutNow && (s.fr r).ls != .under then .low
    else if tk < p.bstTill then .low
    else if p.skipFirst then (if p.nextAt ≤ tk + w && p.leftAt + w + 512 ≤ p.nextAt then .low else .tri)
    else if (s.fr r).ls == .over || (s.fr r).ls == .crowbar then .low
    else if (s.fr r).ls == .under && (!s.isB n || s.flag F.PWM_CTRL_PAIR_LS_BOTH n) then .high
    else s.modulationAt n tk
  if s.level n == .tri && want != .tri && p.triAt != 0 && decide (tk < p.triAt + 512) then .tri else want
/-- The level of the output of a phase now. -/
def State.drive (s : State) (n : Fin 32) : Level := s.driveAt n s.tick

/-- A phase is inside its blanking window at a tick: after a level change of its own ball or of its partner's (R206). -/
def State.blankedAt (s : State) (n : Fin 32) (tk : Nat) : Bool :=
  let near := fun (m : Fin 32) => (s.ph m).chgAt != 0 && decide (tk < (s.ph m).chgAt + s.get F.PWM_TIME_BLANK n * 32)
  near n || (match s.partner n with | some a => near a | none => false)
/-- A phase is inside its blanking window now. -/
def State.blanked (s : State) (n : Fin 32) : Bool := s.blankedAt n s.tick

/-- A cut ends the phase's high-side interval at a tick (R210, R211); `src` is 0 for TFLT, 1 for the peak comparator. -/
def State.cutAt (s : State) (n : Fin 32) (src tk : Nat) : State :=
  if s.level n == .high && !s.blankedAt n tk then
    let s := (s.mark F.PWM_STICKY_CUT_S n).set F.PWM_STATUS_CUT_SRC n src
    let s := s.when (!(s.ph n).cutAny) (fun s => s.inc F.PWM_STATUS_CUT_CNT n)
    let s := s.modPh n (fun p => { p with cutNow := true, cutAny := true, cutTflt := p.cutTflt || src == 0 })
    let s := s.modFr (s.railOf n) (fun f => { f with regAt := s.now })
    let s := s.toLevelAt n .low tk
    s.logF 0x0701 n [(1, n.val), (1, src), (1, s.get F.PWM_STATUS_CUT_CNT n)]
  else s

/-- The ticks at which time alone may change the level of a phase: the end of a minimum off-time, of a refresh and of the tri-state
hold, the refresh before the first turn-on, the ends of the pulse and of the low-side time, and the ends of the blanking windows, where a
fault reading that stands cuts. -/
def State.edges (s : State) (n : Fin 32) : List Nat :=
  let p := s.ph n
  let b := s.get F.PWM_TIME_BLANK n * 32
  [p.offAt + s.minOff n, p.bstTill, p.triAt + 512, p.nextAt - s.get F.PWM_TIME_BST_W n * 32, s.pulseFrom n, s.pulseTo n, p.chgAt + b]
    ++ (s.lowTo n).toList ++ ((s.partner n).map (fun a => (s.ph a).chgAt + b)).toList
/-- The first of these after the instant to which the phase has been followed, up to now. -/
def State.nextEdge (s : State) (n : Fin 32) : Option Nat :=
  ((s.edges n).filter (fun x => decide ((s.ph n).seenAt < x ∧ x ≤ s.tick))).foldl
    (fun (m : Option Nat) x => some (match m with
      | some y => min x y
      | none => x)) none
/-- One such tick: a fault reading that stands outside blanking cuts (R210), then the level follows R202. -/
def State.lookStep (s : State) (n : Fin 32) (tk : Nat) : State :=
  let s := s.modPh n (fun p => { p with seenAt := tk })
  let s := if s.flag F.PWM_STATUS_TFLT_FAULT n && s.flag F.SEN_CFG_SEN_STATE (s.railOf n) then s.cutAt n 0 tk else s
  s.toLevelAt n (s.driveAt n tk) tk
/-- At most `k` such ticks. -/
def State.lookN (s : State) (n : Fin 32) : Nat → State
  | 0 => s
  | k + 1 =>
    match s.nextEdge n with
    | none => s
    | some x => (s.lookStep n x).lookN n k
/-- The output of a phase is followed from the last look to now. A period holds at most twelve of these ticks. -/
def State.look (s : State) (n : Fin 32) : State := (s.lookN n 12).modPh n (fun p => { p with seenAt := s.tick })
/-- Follow every output of a rail. -/
def State.lookRail (s : State) (r : Fin 8) : State := (s.phasesOf r).foldl State.look s

/-- INVERT exchanges HIGH and LOW (R203). -/
def Level.flip : Level → Level
  | .tri => .tri
  | .low => .high
  | .high => .low
/-- The level of PWM ball `n` (R203): the output of phase `n`, or of its partner under SWAP, with HIGH and LOW exchanged by INVERT. INVERT
goes with the phase that drives the ball (DEDUCED, log 173). -/
def State.ball (s : State) (n : Fin 32) : Level :=
  let m := if s.flag F.PWM_CTRL_SWAP n then (s.partner n).getD n else n
  let l := (s.look m).level m
  if s.flag F.PWM_CTRL_INVERT m then l.flip else l

/-- Bring the output of a phase to the level R202 gives. -/
def State.redrive (s : State) (n : Fin 32) : State := (s.look n).toLevel n ((s.look n).drive n)
/-- Bring every ball of a rail to the level R202 gives. -/
def State.redriveRail (s : State) (r : Fin 8) : State := (s.phasesOf r).foldl State.redrive s

/-- The per-phase duty: the duty word with the trim, limited to the rail's duty range (R197). -/
def State.dPh (s : State) (r : Fin 8) (n : Fin 32) (d : Int) : Int :=
  satI (s.get F.DUTY_LIM_DUTY_MIN r) (s.get F.DUTY_LIM_DUTY_MAX r) (d + s.getI F.PH_PLACE_TRIM n)

/-- The on-time that a per-phase duty gives, in ticks, before the limits (R197). -/
def tonRaw (per : Nat) (dph : Int) : Nat := (roundDiv (dph * per) 65536).toNat
/-- The limits on the on-time (R197). -/
def tonLim (per minOn minOff t : Nat) : Nat :=
  let a := if t < minOn * 32 / 2 then 0 else max t (minOn * 32)
  min a (per - minOff * 32)

/-- Ton of one switching phase from a duty word (R197). MINON_S is set where Ton is raised to MIN_ON or set to 0, not where t itself is 0
(DEDUCED, log 167). -/
def State.tonPhase (s : State) (r : Fin 8) (d : Nat) (n : Fin 32) : State :=
  let lo : Int := s.get F.DUTY_LIM_DUTY_MIN r
  let hi : Int := s.get F.DUTY_LIM_DUTY_MAX r
  let sum : Int := d + s.getI F.PH_PLACE_TRIM n
  let t := tonRaw (s.period n) (s.dPh r n d)
  let mo := s.get F.PWM_TIME_MIN_ON n
  let ton := tonLim (s.period n) mo (s.get F.PWM_TIME_MIN_OFF n) t
  let s := s.when ((sum < lo || hi < sum) && lo ≤ (d : Int) && (d : Int) ≤ hi) (fun s => s.mark F.PWM_STICKY_DUTY_SAT_S n)
  let s := s.when (t < mo * 32 && t != 0) (fun s => s.mark F.PWM_STICKY_MINON_S n)
  s.modPh n (fun p => { p with ton := ton })
/-- A duty word arrives at one switching phase: the pulse in progress takes the new Ton, and one that has ended stays so (R198). -/
def State.dutyPhase (s : State) (r : Fin 8) (d : Nat) (n : Fin 32) : State := ((s.look n).tonPhase r d n).redrive n

/-- A duty word is applied to every switching phase of a rail (R14, R197, R198). -/
def State.applyDuty (s : State) (r : Fin 8) (d : Nat) : State :=
  (s.switchingOf r).foldl (fun s n => s.dutyPhase r d n) s

/-- A cut now. -/
def State.cut (s : State) (n : Fin 32) (src : Nat) : State := (s.look n).cutAt n src s.tick

/-- Length in ticks of the circular intersection of two on-windows within one period (R174). -/
def overlapTicks (per offA tonA offB tonB : Nat) : Nat :=
  let lin := fun (a la b lb : Nat) => min (a + la) (b + lb) - max a b
  lin offA tonA offB tonB + lin (offA + per) tonA offB tonB + lin offA tonA (offB + per) tonB

/-! ## Add requests and diode emulation -/

/-- Diode emulation ends at once (R185). -/
def State.endDe (s : State) (r : Fin 8) : State :=
  (s.clear F.PHC_STATUS_DE_ACT r).modEng r (fun g => { g with deSince := none, deOver := 0 })

/-- An event of R180, or a pre-positioning: diode emulation ends, the shed dwell restarts (R182, R185), and a KEEP_OFF phase keeps
switching in this update (R184, Table 6.3). -/
def State.addEvent (s : State) (r : Fin 8) : State :=
  (s.endDe r).modEng r (fun g => { g with lowSince := none, evtAt := some s.now })
/-- Ask region arbitration for `k` phases (R179, R180); the predicted increase is k × PH_IN_COST unless a figure is given; `cause` is
that of record 0x0607: 1 the add rule, 2 R180. An add request ends diode emulation and restarts the shed dwell (R182, R185). -/
def State.requestAdd (s : State) (r : Fin 8) (k : Nat) (cost : Option Nat) (cause : Nat) : State :=
  if k = 0 || !s.pow.cdUp || s.mode == .caretaker then s else
  let s := (s.endDe r).mark F.PHC_STATUS_ADD_PEND r
  s.modEng r (fun g =>
    let g := { g with lowSince := none }
    if g.addWant < k then { g with addWant := k, addCost := cost.getD (k * (s.cfg r).phInCost), addWhy := cause } else g)

/-- Sum over the live phases of the averaged currents (R137). -/
def State.currentSum (s : State) (r : Fin 8) : Int := sumOver (s.liveOf r) (fun n => s.getI F.PH_CUR_I_AVG n)

/-- The TFLT temperature of a phase, in eighths of a degree (Table 12.8). -/
def State.phTemp (s : State) (n : Fin 32) : Int :=
  if n.val % 2 = 0 then s.getI F.TEMP_TFLT_HI_TEMP (n.val / 2) else s.getI F.TEMP_TFLT_LO_TEMP (n.val / 2)

/-- Phase settings and placement say the phase is idle again after a stop ended: IDLE on a rail in use, else UNUSED. -/
def State.unstop (s : State) (n : Fin 32) : State :=
  let p := s.ph n
  let r := s.railOf n
  if p.sw == .stopped && !s.blocked n && (p.health == .ok || p.health == .watch) then
    s.setSw n (if (s.st r).switching || s.st r == .hiccup || s.st r == .caretaken then .idle else .unused)
  else s

end Sys2Proof.Machine
end

