-- ==== Sys2Proof/Machine/Bridge.lean ====
section
/-!
DEFINITION. The paths between the dies: loop port (R13, R14), bridge frames and resends (R15 to R17), heartbeat and echo
(R18 to R20), the missing-clock detector (R21), the coherence of the phase-state word (R337 to R340).
-/
namespace Sys2Proof.Machine

/-- One step of the CRC-16 with polynomial 0x1021, most significant bit first. -/
def crc16Bit (c : Nat) (b : Bool) : Nat :=
  let x := c * 2 % 65536
  if (c.testBit 15) != b then x ^^^ 0x1021 else x
/-- CRC-16, polynomial 0x1021, initial value 0xFFFF (R15, R338). -/
def crc16 (l : List Bool) : Nat := l.foldl crc16Bit 0xFFFF
/-- The low `w` bits of `n`, most significant first. -/
def bitsOf (w n : Nat) : List Bool := (List.range w).map (fun i => n.testBit (w - 1 - i))

/-- Odd parity holds over a 16-bit duty word and its parity bit (R13). -/
def oddParity (d : Nat) (p : Bool) : Bool :=
  (bitsOf 16 d).foldl (fun a b => a != b) p
/-- A loop-port word: its value of up to 16 bits over one odd-parity bit (R13). -/
def parityWord (d : Nat) : Nat := d * 2 + b2n (!oddParity d false)
/-- The upward word of a rail: the 10-bit pattern of its error code over one odd-parity bit (R13). -/
def upWord (code : Int) : Nat := parityWord (ofS 10 code)
/-- A loop-port word passes its parity check (R14). -/
def parityOk (w : Nat) : Bool := oddParity (w / 2) (w % 2 == 1)

/-- Handle the parity history of a rail (R14): the last 16 updates, newest first. -/
def Front.parity (f : Front) (bad : Bool) : Front := { f with lp16 := (bad :: f.lp16).take 16 }

/-- Three failures stand in the last 16 updates (R14). -/
def Front.lpBad (f : Front) : Bool := 3 ≤ (f.lp16.filter id).length

/-- The Pronoun loop drives the rail: in CARETAKER every rail that is not handed over (R326, R331, R336). -/
def State.pnDrives (s : State) (r : Fin 8) : Bool := s.mode == .caretaker && !(s.fr r).handed
/-- The engine's duty word drives the rail: it is not held by the Pronoun loop and no large-signal action acts (R150, R326). -/
def State.engineDrives (s : State) (r : Fin 8) : Bool := (s.fr r).ls == .none && s.pow.cdUp && !s.pnDrives r

/-- LOOP_PORT_DUTY_WORD (R14, R150): the word that the engine last sent arrives with the bits of `flip` turned over on its way. A
good word during a large-signal action is ignored. -/
def State.dutyWord (s : State) (r : Fin 8) (flip : Nat) : State :=
  let w := (s.eng r).word ^^^ flip
  let d := w / 2
  if !s.pow.cdUp || s.br.fdLost then s
  else if parityOk w then
    let s := s.modFr r (fun f => if f.ls == .none then
      { f.parity false with duty := d, newWord := true, dutyGood := f.dutyGood + 1 } else { f.parity false with dutyGood := 0 })
    s.when (s.engineDrives r) (fun s => s.applyDuty r d)
  else
    let s := s.inc F.BRIDGE_STATUS_LP_PARITY_CNT
    s.modFr r (fun f => { f.parity true with dutyGood := 0 })

def execLoopPortDutyWord (t : Nat) (r : Fin 8) (flip : BitVec 16) (flipParity : Bool) (s : State) :=
  run t (fun s => s.dutyWord r (flip.toNat * 2 + b2n flipParity)) s

/-- A bridge frame passes its CRC: the last 16 bits are the CRC of the first 112 (R15). -/
def frameOk (f : BitVec 128) : Bool := crc16 ((bitsOf 128 f.toNat).take 112) == f.toNat % 65536

/-- BRIDGE_FRAME_RECEIVE (R15): a frame whose CRC fails is counted; a good one is kept for its class, whose own command
follows. -/
def State.frameIn (s : State) (f : BitVec 128) : State :=
  if s.mode == .dormant then s
  else if frameOk f then { s with br.lastFrame := some f } else s.inc F.BRIDGE_STATUS_CRC_ERR_CNT

def execBridgeFrameReceive (t : Nat) (frame : BitVec 128) (s : State) := run t (fun s => s.frameIn frame) s

/-- PROTECTION_EVENT_RECEIVE (R16): the head of the class 1 events goes to the recorder and its derate applies. -/
def State.takeEvent (s : State) : State :=
  if !s.pow.cdUp then s else
  match s.rcd.c1q with
  | [] => s
  | c :: q =>
    let s : State := { s with rcd.c1q := q, rcd.evq := s.rcd.evq ++ [c.evt] }
    match c.react with
    | .none => s
    | .auxDerate r d => s.modEng (Fin.ofNat 8 r) (fun e => { e with auxD := some (min d (e.auxD.getD 128)) })

def execProtectionEventReceive (t : Nat) (s : State) := run t State.takeEvent s

/-- The accesses in class 4 frames become `l`; the oldest is first sent when it comes to the front (R319). -/
def State.withC4 (s : State) (l : List Access) : State :=
  { s with br := { s.br with c4 := l, c4At := if l.head? == s.br.c4.head? then s.br.c4At else s.now } }

/-- HEARTBEAT_SEND (R18). -/
def State.beat (s : State) : State :=
  if s.pow.cdUp then { s with br.hbTx := (s.br.hbTx + 1) % 256 } else s

def execHeartbeatSend (t : Nat) (s : State) := run t State.beat s

/-- The phase-state word of R338: the entries, then the rail states. `sw` gives state and health of each phase. -/
def pswBits (sw : List (Sw × Health)) (hold : Nat) (rails : List RailState) : List Bool :=
  ((List.zip (List.range 32) sw).flatMap (fun e =>
      bitsOf 3 e.2.1.code ++ bitsOf 2 e.2.2.code ++ [hold.testBit e.1, false, false]))
    ++ rails.flatMap (fun x => bitsOf 4 x.code)
/-- The Front die's PSW_CRC (R338). -/
def State.pswFront (s : State) : Nat :=
  crc16 (pswBits (s.phases.toList.map (fun p => (p.sw, p.health))) (s.get F.COH_HOLD_HOLD) (s.rails.toList.map Rail.st))
/-- The Control die's PSW_CRC over its mirror (R338). -/
def State.pswMirror (s : State) : Nat :=
  crc16 (pswBits (s.mirPh.map (fun e => (e.1, e.2.1))) (s.get F.COH_HOLD_HOLD) s.mirRail)

/-- HEARTBEAT_RECEIVE (R18, R19): a heartbeat with the expected sequence number is stored and echoed with PSW_CRC; any
other is not valid. DESIGN CHOICE (log 159): the number expected stays the last valid one plus 1, so that after a heartbeat that
was skipped no later one is valid until a die restarts. -/
def State.beatIn (s : State) (seq : Nat) : State :=
  if s.mode == .dormant || (s.br.hbExp.isSome && s.br.hbExp != some seq) then s else
  { (s.set F.BRIDGE_STATUS_HB_SEQ 0 seq) with
    br.hbExp := some ((seq + 1) % 256), br.hbRx := some s.now, br.echo := some s.pswFront }

def execHeartbeatReceive (t : Nat) (seq : BitVec 8) (s : State) := run t (fun s => s.beatIn seq.toNat) s

/-- A coherence fault of one phase (R339). A third fault of the phase within 1 s holds it to the next PRECHECK. -/
def State.cohPhase (s : State) (n : Fin 32) (mir : Sw × Health × Nat × Nat) : State :=
  let p := s.ph n
  let s : State := { s with mirPh := s.mirPh.set n.val p.entry }
  let s := s.set F.COH_HOLD_HOLD 0 (s.get F.COH_HOLD_HOLD ||| 2 ^ n.val)
  let s := if p.sw.switching then (s.setSw n .idle).modPh n (fun q => { q with triPend := true }) else s
  let times := ((s.now :: p.cohTimes).filter (fun x => s.now < x + 1000000000)).take 3
  let s := s.modPh n (fun q => { q with cohTimes := times, acc := 0, pred := 0, rsv := 0 })
  let s := (s.setI F.PH_PLACE_TRIM n 0)
  let s := ((s.mark F.COH_STATUS_COH_S).inc F.COH_STATUS_COH_CNT).set F.COH_STATUS_LAST_PH 0 n.val
  let s := s.logC 0x0B05 n [(1, n.val), (2, p.sw.code * 4 + p.health.code), (2, mir.1.code * 4 + mir.2.1.code)]
  let s := s.when (3 ≤ times.length && !p.cohStuck) (fun s =>
    (s.modPh n (fun q => { q with cohStuck := true })).logC 0x0B07 n [(1, n.val), (2, times.length)])
  let s := if s.flag F.PH_STATE_ASSIGNED n then (s.place (s.railOf n)).checkMinLive (s.railOf n) else s
  { s with br.c3 := s.br.c3.filter (fun q => q.ph != n.val) }

/-- A coherence fault of a rail state (R340). -/
def State.cohRail (s : State) (r : Fin 8) (mir : RailState) : State :=
  let s : State := { s with mirRail := s.mirRail.set r.val (s.st r) }
  (s.mark F.COH_STATUS_RCOH_S).logC 0x0B08 r [(1, r.val), (1, (s.st r).code), (1, mir.code)]

/-- Every entry that differs from the mirror is a coherence fault (R338). -/
def State.coherence (s : State) : State :=
  let s := s.onPhases (fun s n => match s.mirPh[n.val]? with
    | some m => if m.1 == (s.ph n).sw && m.2.1 == (s.ph n).health then s else s.cohPhase n m
    | none => s)
  s.onRails (fun s r => match s.mirRail[r.val]? with
    | some m => if m == s.st r then s else s.cohRail r m
    | none => s)

/-- HEARTBEAT_ECHO_RECEIVE (R20, R338): compared only while no class 3 frame is unacknowledged and no class 1 event is
unprocessed; two consecutive disagreements start the entry-by-entry comparison. DESIGN CHOICE (log 160): an echo that returns
after FRONT_DIE_LOST does not end the declared loss. -/
def State.echoIn (s : State) : State :=
  if !s.pow.cdUp then s else
  match s.br.echo with
  | none => s
  | some c =>
    let s : State := { s with br.echo := none, br.ecAt := some s.now }
    if !s.br.c3.isEmpty || !s.rcd.c1q.isEmpty then s
    else if c == s.pswMirror then { s with br.echoBad := 0 }
    else if s.br.echoBad = 0 then { s with br.echoBad := 1 }
    else State.coherence { s with br.echoBad := 0 }

def execHeartbeatEchoReceive (t : Nat) (s : State) := run t State.echoIn s

/-- COHERENCE_REWRITE (R339): the acknowledged rewrite clears COH_HOLD, unless a third fault holds it. -/
def State.rewrite (s : State) (n : Fin 32) : State :=
  if s.pow.cdUp && (s.get F.COH_HOLD_HOLD).testBit n.val && !(s.ph n).cohStuck then
    let s := s.set F.COH_HOLD_HOLD 0 (s.get F.COH_HOLD_HOLD - 2 ^ n.val)
    let s : State := { s with mirPh := s.mirPh.set n.val (s.ph n).entry }
    s.logC 0x0B06 n [(1, n.val)]
  else s

def execCoherenceRewrite (t : Nat) (n : Fin 32) (s : State) := run t (fun s => s.rewrite n) s

/-- 2.5 µs have passed since an instant (R19, R20). -/
def State.silentSince (s : State) (t0 : Option Nat) : Bool := t0.getD 0 + 2500 ≤ s.now

/-- FRONT_DIE_LOST (R20): no valid echo for 2.5 µs. The report on the host links is DESIGN CHOICE (log 161): bit 1 of STATUS_CML,
and with it SMBALERT_N and the ALERT bit of SPI, and a MODE notice on every Aedat port. -/
def State.frontLost (s : State) : State :=
  if !s.pow.cdUp || s.br.fdLost || !s.silentSince s.br.ecAt then s else
  let s := s.mark F.BRIDGE_STATUS_HB_LOST
  let s := s.logC 0x0102 0 [(2, 1), (1, s.get F.BRIDGE_STATUS_HB_SEQ)]
  { (s.cml 2).noteAll 4 s.mode.code with br.fdLost := true }

def execFrontDieLost (t : Nat) (s : State) := run t State.frontLost s

/-- Every PWM ball goes to tri-state and every SEN ball low (R21). -/
def State.allOff (s : State) : State := s.onRails (fun s r => (s.triRail r).setSen r false)

/-- MISSING_CLOCK (R21): FAULT_N follows br.clkLost. -/
def State.clockMissing (s : State) : State :=
  if s.mode == .dormant then s else State.allOff { s with br.clkLost := true }

def execMissingClock (t : Nat) (s : State) := run t State.clockMissing s

end Sys2Proof.Machine
end

