-- ==== Sys2Proof/Machine/Crypto.lean ====
section
/-!
DEFINITION. The cryptographic functions the spec names: SHA-256 and HMAC-SHA-256 (R96, R408, R413), AES-256-GCM (R97, R406,
R413), ECDSA and ECDH over P-256 (R95, R413, R415). Each is the public standard of that name.
-/
namespace Sys2Proof.Machine

/-! ## SHA-256 -/

/-- 32-bit rotation right. -/
def rotr (k x : Nat) : Nat := (x / 2 ^ k) ||| (x * 2 ^ (32 - k) % 2 ^ 32)
/-- The 64 round constants. -/
def shaK : List Nat :=
  [0x428a2f98, 0x71374491, 0xb5c0fbcf, 0xe9b5dba5, 0x3956c25b, 0x59f111f1, 0x923f82a4, 0xab1c5ed5]
  ++ [0xd807aa98, 0x12835b01, 0x243185be, 0x550c7dc3, 0x72be5d74, 0x80deb1fe, 0x9bdc06a7, 0xc19bf174]
  ++ [0xe49b69c1, 0xefbe4786, 0x0fc19dc6, 0x240ca1cc, 0x2de92c6f, 0x4a7484aa, 0x5cb0a9dc, 0x76f988da]
  ++ [0x983e5152, 0xa831c66d, 0xb00327c8, 0xbf597fc7, 0xc6e00bf3, 0xd5a79147, 0x06ca6351, 0x14292967]
  ++ [0x27b70a85, 0x2e1b2138, 0x4d2c6dfc, 0x53380d13, 0x650a7354, 0x766a0abb, 0x81c2c92e, 0x92722c85]
  ++ [0xa2bfe8a1, 0xa81a664b, 0xc24b8b70, 0xc76c51a3, 0xd192e819, 0xd6990624, 0xf40e3585, 0x106aa070]
  ++ [0x19a4c116, 0x1e376c08, 0x2748774c, 0x34b0bcb5, 0x391c0cb3, 0x4ed8aa4a, 0x5b9cca4f, 0x682e6ff3]
  ++ [0x748f82ee, 0x78a5636f, 0x84c87814, 0x8cc70208, 0x90befffa, 0xa4506ceb, 0xbef9a3f7, 0xc67178f2]
/-- The initial state. -/
def shaH : List Nat := [0x6a09e667, 0xbb67ae85, 0x3c6ef372, 0xa54ff53a, 0x510e527f, 0x9b05688c, 0x1f83d9ab, 0x5be0cd19]
/-- Grow the message schedule: the list holds the words so far, newest first. -/
def shaGrow : Nat → List Nat → List Nat
  | 0, w => w
  | n + 1, w =>
    let a := w.getD 1 0
    let b := w.getD 14 0
    let s1 := rotr 17 a ^^^ rotr 19 a ^^^ (a / 1024)
    let s0 := rotr 7 b ^^^ rotr 18 b ^^^ (b / 8)
    shaGrow n ((s1 + w.getD 6 0 + s0 + w.getD 15 0) % 2 ^ 32 :: w)
/-- One round on the eight working words. -/
def shaRound (v : List Nat) (kw : Nat × Nat) : List Nat :=
  match v with
  | [a, b, c, d, e, f, g, h] =>
    let s1 := rotr 6 e ^^^ rotr 11 e ^^^ rotr 25 e
    let ch := (e &&& f) ^^^ ((2 ^ 32 - 1 - e) &&& g)
    let t1 := h + s1 + ch + kw.1 + kw.2
    let s0 := rotr 2 a ^^^ rotr 13 a ^^^ rotr 22 a
    let mj := (a &&& b) ^^^ (a &&& c) ^^^ (b &&& c)
    [(t1 + s0 + mj) % 2 ^ 32, a, b, c, (d + t1) % 2 ^ 32, e, f, g]
  | _ => v
/-- One block of 64 bytes. -/
def shaBlock (h : List Nat) (b : List Byte) : List Nat :=
  let w := (List.range 16).map (fun i => beNat (slice b (4 * i) 4))
  let sched := (shaGrow 48 w.reverse).reverse
  let v := (List.zip shaK sched).foldl shaRound h
  List.zipWith (fun x y => (x + y) % 2 ^ 32) h v
/-- `n` blocks. -/
def shaBlocks : Nat → List Nat → List Byte → List Nat
  | 0, h, _ => h
  | n + 1, h, b => shaBlocks n (shaBlock h (b.take 64)) (b.drop 64)
/-- SHA-256. -/
def sha256 (m : List Byte) : List Byte :=
  let pad := 63 - (m.length + 8) % 64
  let b := m ++ [0x80#8] ++ List.replicate pad 0 ++ beBytes 8 (8 * m.length)
  (shaBlocks (b.length / 64) shaH b).flatMap (beBytes 4)
/-- HMAC-SHA-256. -/
def hmac (key m : List Byte) : List Byte :=
  let k := if key.length ≤ 64 then key else sha256 key
  let k := k ++ List.replicate (64 - k.length) 0
  sha256 (k.map (fun x => x ^^^ 0x5C#8) ++ sha256 (k.map (fun x => x ^^^ 0x36#8) ++ m))

/-! ## AES-256-GCM -/

/-- Doubling in GF(2^8). -/
def xtime (a : Nat) : Nat := if a < 128 then 2 * a else (2 * a % 256) ^^^ 0x1B
/-- Product in GF(2^8), over `n` bits of the second factor. -/
def gmul : Nat → Nat → Nat → Nat
  | 0, _, _ => 0
  | n + 1, a, b => (if b % 2 = 1 then a else 0) ^^^ gmul n (xtime a) (b / 2)
/-- `a` to the power 254: 0 for 0, else the inverse. -/
def ginv (a : Nat) : Nat :=
  let m := gmul 8
  let a2 := m a a
  let a4 := m a2 a2
  let a8 := m a4 a4
  let a16 := m a8 a8
  let a32 := m a16 a16
  let a64 := m a32 a32
  let a128 := m a64 a64
  m (m (m a2 a4) (m a8 a16)) (m (m a32 a64) a128)
/-- Rotation left in a byte. -/
def rotl8 (k x : Nat) : Nat := (x * 2 ^ k % 256) ||| (x / 2 ^ (8 - k))
/-- The S-box. -/
def sbox (a : Nat) : Nat :=
  let x := ginv a
  x ^^^ rotl8 1 x ^^^ rotl8 2 x ^^^ rotl8 3 x ^^^ rotl8 4 x ^^^ 0x63
/-- The S-box as a table. -/
def sboxTab : List Nat := (List.range 256).map sbox
/-- Substitute one word of four bytes. -/
def subWord (t : List Nat) (w : List Nat) : List Nat := w.map (fun x => t.getD x 0)
/-- Grow the key schedule: words newest first, `i` the index of the next. -/
def keyGrow (t : List Nat) : Nat → Nat → List (List Nat) → List (List Nat)
  | 0, _, ws => ws
  | n + 1, i, ws =>
    let p := ws.headD []
    let x := if i % 8 = 0 then
        List.zipWith (fun a b => a ^^^ b) (subWord t (p.drop 1 ++ p.take 1)) [2 ^ (i / 8 - 1), 0, 0, 0]
      else if i % 8 = 4 then subWord t p else p
    keyGrow t n (i + 1) (List.zipWith (fun a b => a ^^^ b) (ws.getD 7 []) x :: ws)
/-- The 15 round keys of a 32-byte key. -/
def roundKeys (t : List Nat) (key : List Byte) : List (List Nat) :=
  let w := (List.range 8).map (fun i => (slice key (4 * i) 4).map (fun b => b.toNat))
  let ws := (keyGrow t 52 8 w.reverse).reverse
  (List.range 15).map (fun i => (slice ws (4 * i) 4).flatten)
/-- ShiftRows on the 16 bytes by columns. -/
def shiftRows (s : List Nat) : List Nat := (List.range 16).map (fun i => s.getD ((i + 4 * (i % 4)) % 16) 0)
/-- MixColumns on one column. -/
def mixCol (c : List Nat) : List Nat :=
  let g := fun i => c.getD (i % 4) 0
  (List.range 4).map (fun i => xtime (g i) ^^^ (xtime (g (i + 1)) ^^^ g (i + 1)) ^^^ g (i + 2) ^^^ g (i + 3))
/-- Add a round key. -/
def addKey (s k : List Nat) : List Nat := List.zipWith (fun a b => a ^^^ b) s k
/-- One inner round. -/
def aesRound (t : List Nat) (s k : List Nat) : List Nat :=
  let x := shiftRows (subWord t s)
  addKey ((List.range 4).flatMap (fun i => mixCol (slice x (4 * i) 4))) k
/-- One block under the round keys. -/
def aesBlock (t : List Nat) (ks : List (List Nat)) (b : List Nat) : List Nat :=
  let s := ((ks.drop 1).take 13).foldl (aesRound t) (addKey b (ks.getD 0 []))
  addKey (shiftRows (subWord t s)) (ks.getD 14 [])
/-- The big-endian number of bytes. -/
def numOf (l : List Nat) : Nat := l.foldl (fun a b => a * 256 + b) 0
/-- Product in GF(2^128) with GCM's bit order, over `n` bits of `x` from the top. -/
def ghMul : Nat → Nat → Nat → Nat → Nat
  | 0, _, _, z => z
  | n + 1, x, v, z =>
    ghMul n x (if v % 2 = 1 then (v / 2) ^^^ (0xE1 * 2 ^ 120) else v / 2) (if x.testBit n then z ^^^ v else z)
/-- GHASH over whole blocks. -/
def ghash (h : Nat) : Nat → Nat → List Byte → Nat
  | 0, y, _ => y
  | n + 1, y, b => ghash h n (ghMul 128 (y ^^^ beNat (b.take 16)) h 0) (b.drop 16)
/-- Pad with zeros to whole blocks of 16. -/
def pad16 (b : List Byte) : List Byte := b ++ List.replicate ((16 - b.length % 16) % 16) 0
/-- The key stream applied from counter `c`. -/
def ctrApply (t : List Nat) (ks : List (List Nat)) (iv : Nat) : Nat → Nat → List Byte → List Byte
  | 0, _, _ => []
  | n + 1, c, b =>
    let k := aesBlock t ks ((beBytes 16 (iv * 2 ^ 32 + c % 2 ^ 32)).map (fun x => x.toNat))
    List.zipWith (fun x y => x ^^^ BitVec.ofNat 8 y) (b.take 16) k ++ ctrApply t ks iv n (c + 1) (b.drop 16)
/-- The tag over additional data and ciphertext. -/
def gcmTag (t : List Nat) (ks : List (List Nat)) (iv : Nat) (aad ct : List Byte) : List Byte :=
  let h := numOf (aesBlock t ks (List.replicate 16 0))
  let b := pad16 aad ++ pad16 ct ++ beBytes 8 (8 * aad.length) ++ beBytes 8 (8 * ct.length)
  let g := ghash h (b.length / 16) 0 b
  let e := numOf (aesBlock t ks ((beBytes 16 (iv * 2 ^ 32 + 1)).map (fun x => x.toNat)))
  beBytes 16 (g ^^^ e)
/-- AES-256-GCM encryption: ciphertext and tag. The IV is 12 bytes. -/
def gcmSeal (key iv aad pt : List Byte) : List Byte × List Byte :=
  let t := sboxTab
  let ks := roundKeys t key
  let ct := ctrApply t ks (beNat iv) ((pt.length + 15) / 16) 2 pt
  (ct, gcmTag t ks (beNat iv) aad ct)
/-- AES-256-GCM decryption: the plaintext, or none where the tag fails. -/
def gcmOpen (key iv aad ct tag : List Byte) : Option (List Byte) :=
  let t := sboxTab
  let ks := roundKeys t key
  if gcmTag t ks (beNat iv) aad ct = tag then some (ctrApply t ks (beNat iv) ((ct.length + 15) / 16) 2 ct) else none

/-! ## P-256 -/

/-- The field prime. -/
def p256P : Nat := 0xffffffff00000001000000000000000000000000ffffffffffffffffffffffff
/-- The group order. -/
def p256N : Nat := 0xffffffff00000000ffffffffffffffffbce6faada7179e84f3b9cac2fc632551
/-- The curve constant b; a is −3. -/
def p256B : Nat := 0x5ac635d8aa3a93e7b3ebbd55769886bc651d06b0cc53b0f63bce3c3e27d2604b
/-- The base point. -/
def p256G : Nat × Nat :=
  (0x6b17d1f2e12c4247f8bce6e563a440f277037d812deb33a0f4a13945d898c296,
   0x4fe342e2fe1a7f9b8ee7eb4a7c0f9e162bce33576b315ececbb6406837bf51f5)
/-- `b ^ e` modulo `m` over the low `n` bits of `e`, from the top. -/
def powMod (m b e : Nat) : Nat → Nat → Nat
  | 0, acc => acc
  | n + 1, acc => powMod m b e n (let q := acc * acc % m; if e.testBit n then q * b % m else q)
/-- Inverse modulo a prime. -/
def invMod (m a : Nat) : Nat := powMod m (a % m) (m - 2) 256 1
/-- A point lies on the curve. -/
def onCurve (q : Nat × Nat) : Bool :=
  q.1 < p256P && q.2 < p256P && (q.2 * q.2 + 3 * q.1) % p256P == (q.1 * q.1 * q.1 + p256B) % p256P
/-- Point addition; none is the point at infinity. -/
def ptAdd : Option (Nat × Nat) → Option (Nat × Nat) → Option (Nat × Nat)
  | none, b => b
  | a, none => a
  | some (x1, y1), some (x2, y2) =>
    if x1 = x2 ∧ (y1 + y2) % p256P = 0 then none
    else
      let l := if x1 = x2 then (3 * x1 * x1 + p256P - 3) * invMod p256P (2 * y1) % p256P
        else (y2 + p256P - y1) * invMod p256P (x2 + p256P - x1) % p256P
      let x3 := (l * l + 2 * p256P - x1 - x2) % p256P
      some (x3, (l * (x1 + p256P - x3) + p256P - y1) % p256P)
/-- Scalar product over the low `n` bits, from the top. -/
def ptMul (k : Nat) (q : Nat × Nat) : Nat → Option (Nat × Nat) → Option (Nat × Nat)
  | 0, acc => acc
  | n + 1, acc =>
    let d := ptAdd acc acc
    ptMul k q n (if k.testBit n then ptAdd d (some q) else d)
/-- `k` times a point. -/
def scalarMul (k : Nat) (q : Nat × Nat) : Option (Nat × Nat) := ptMul k q 256 none
/-- A point from 64 bytes X ‖ Y. -/
def ptOf (b : List Byte) : Nat × Nat := (beNat (slice b 0 32), beNat (slice b 32 32))
/-- The 64 bytes of a point. -/
def ptBytes (q : Option (Nat × Nat)) : List Byte :=
  match q with
  | some (x, y) => beBytes 32 x ++ beBytes 32 y
  | none => List.replicate 64 0
/-- ECDSA verification of a signature r ‖ s over a 32-byte digest by the key X ‖ Y. -/
def ecdsaOk (key digest sig : List Byte) : Bool :=
  let q := ptOf key
  let r := beNat (slice sig 0 32)
  let s := beNat (slice sig 32 32)
  if sig.length ≠ 64 ∨ r = 0 ∨ s = 0 ∨ p256N ≤ r ∨ p256N ≤ s ∨ !onCurve q then false
  else
    let w := invMod p256N s
    let e := beNat digest
    match ptAdd (scalarMul (e * w % p256N) p256G) (scalarMul (r * w % p256N) q) with
    | some (x, _) => x % p256N == r
    | none => false
/-- ECDSA signature by scalar `d` with the drawn number `k`. -/
def ecdsaSign (d k : Nat) (digest : List Byte) : List Byte :=
  match scalarMul (k % p256N) p256G with
  | some (x, _) =>
    let r := x % p256N
    beBytes 32 r ++ beBytes 32 (invMod p256N k * (beNat digest + r * d) % p256N)
  | none => List.replicate 64 0
/-- The ECDH secret: the X coordinate of the product, 32 bytes. -/
def ecdhX (d : Nat) (key : List Byte) : List Byte :=
  match scalarMul d (ptOf key) with
  | some (x, _) => beBytes 32 x
  | none => List.replicate 32 0

end Sys2Proof.Machine
end

