-- ==== Sys2Proof/Machine/Otp.lean ====
section
/-!
DEFINITION. The one-time-programmable store as the security block reads it (R406 to R410), the end of a session (R419) and the
failure count (R420).
-/
namespace Sys2Proof.Machine

/-! ## Thermometers, lifecycle, slots -/

/-- A thermometer item: one more than the index of its highest programmed bit (R407). -/
def thermo (n : Nat) : Nat := if n = 0 then 0 else n.log2 + 1
/-- OWN_GEN (Table 14.5). -/
def Otp.ownGen (o : Otp) : Nat := thermo o.ownBits
/-- LIFECYCLE by its codes: 0 MANUFACTURED, 1 UNOWNED, 2 OWNED, 3 DECOMMISSIONED (R406). -/
def Otp.life (o : Otp) : Nat :=
  if !o.unowned then 0 else if o.decomm then 3 else if 1 ≤ o.ownGen then 2 else 1
/-- One key slot. -/
def Otp.slot (o : Otp) (i : Nat) : KeySlot := o.slots.getD i {}
/-- One image-key slot. -/
def Otp.iek (o : Otp) (i : Nat) : Iek := o.ieks.getD i {}
/-- A key slot is usable (R409). -/
def Otp.usable (o : Otp) (i : Nat) : Bool :=
  let k := o.slot i
  i < 12 && o.life != 3 && k.active && !k.retired && (i == 0 || k.gen == o.ownGen)
/-- A slot of slots 1 to 11 written for the next generation (R409). -/
def Otp.nextGen (o : Otp) (i : Nat) : Bool :=
  let k := o.slot i
  0 < i && i < 12 && k.hash != 0 && k.gen == o.ownGen + 1 && !k.retired
/-- A slot that nothing was programmed into. -/
def Otp.emptySlot (o : Otp) (i : Nat) : Bool := (o.slot i).hash == 0 && i < 12
/-- SLOT_ST of a key slot: 0 empty, 1 usable, 2 written for the next generation, 3 retired or unusable (R409). -/
def Otp.slotSt (o : Otp) (i : Nat) : Nat :=
  if o.life == 3 then 3 else if o.usable i then 1 else if o.emptySlot i then 0 else if o.nextGen i then 2 else 3
/-- KEY_STATE.SLOT_ST. -/
def Otp.slotWord (o : Otp) : Nat := (List.range 12).foldl (fun a i => a + o.slotSt i * 4 ^ i) 0
/-- SLOT_TYPE.TYPE: the root slot reads 00 (R409). -/
def Otp.typeWord (o : Otp) : Nat := (List.range 12).foldl (fun a i => a + (if i = 0 then 0 else (o.slot i).typ % 4) * 4 ^ i) 0
/-- An image key is installed and of the present generation (R410). -/
def Otp.iekUsable (o : Otp) (i : Nat) : Bool :=
  i < 8 && (o.iek i).used && !(o.iek i).retired && (o.iek i).gen == o.ownGen && o.life != 3
/-- IEK_STATE.IEK_ST, coded as SLOT_ST. -/
def Otp.iekWord (o : Otp) : Nat :=
  (List.range 8).foldl (fun a i => a +
    (if !(o.iek i).used then 0 else if o.iekUsable i then 1 else if (o.iek i).gen == o.ownGen + 1 && !(o.iek i).retired then 2 else 3)
      * 4 ^ i) 0
/-- The PUF rebuild succeeds (R408). -/
def Otp.pufOk (o : Otp) : Bool := o.puf
/-- The rollback counter (R109). -/
def Otp.rollback (o : Otp) : Nat := thermo o.rbBits

/-- Bytes of a text. -/
def ascii (l : List Nat) : List Byte := l.map (BitVec.ofNat 8)
/-- The device key as bytes. -/
def Otp.kdevBytes (o : Otp) : List Byte := beBytes 32 o.kdev
/-- The scalar of the identity key IDK (R408). -/
def Otp.idk (o : Otp) : Nat := beNat (hmac o.kdevBytes (ascii [0x49, 0x44, 0x4B])) % p256N
/-- KWRAP (R408). -/
def Otp.kwrap (o : Otp) : List Byte := hmac o.kdevBytes (ascii [0x57, 0x52, 0x41, 0x50] ++ beBytes 1 o.ownGen)
/-- The device certificate (Table 14.5). -/
def Otp.certBytes (o : Otp) : List Byte := beBytes 128 o.cert
/-- The key hash of DEV_ID: SHA-256 of the identity public key. -/
def Otp.devId (o : Otp) : List Byte := sha256 (o.certBytes.take 64)
/-- The unwrapped image key of a slot (R410); none where the unwrapping fails. -/
def Otp.iekKey (o : Otp) (i : Nat) : Option (List Byte) :=
  let k := o.iek i
  gcmOpen o.kwrap (beBytes 12 k.iv) [] (beBytes 32 k.ct) (beBytes 16 k.tag)

/-- Change one key slot. -/
def Otp.putSlot (o : Otp) (i : Nat) (k : KeySlot) : Otp := { o with slots := o.slots.set i k }

/-! ## The end of a session -/

/-- A message of the bus that holds the handshake or session is in flight. -/
def Sec.inFlight (c : Sec) : Bool := c.busy && c.msgBus == c.bus
/-- The session state without a session: no rights, keys or handshake; a message of its bus dropped; consents over; the test
port locked. -/
def Sec.ended (c : Sec) : Sec :=
  { c with
    st := 0, bus := 0, sid := 0, rights := 0, slot := 0, m1 := [], m2 := [], eph := 0, ks := [], cseq := 0, wait := none
    ending := none, busy := c.busy && !c.inFlight, msg := if c.inFlight then [] else c.msg
    cons := [0, 0, 0, 0, 0, 0, 0, 0], tapOpen := false, tapMode := 0 }

/-- SERVICE's end (T24): the device enters PARSE. DESIGN CHOICE (log 179): rails that still switch are fast-stopped, since PARSE admits
no rail but in OFF or LATCHED (R83). -/
def State.serviceEnd (s : State) : State :=
  let s := s.onRails (fun s r => match s.st r with
    | .ramp | .reg | .shed | .rampdown | .armed | .hiccup => (s.fastStop r).railOff r
    | _ => s)
  s.enterParse 24

/-- A session ends with its cause (R419). A handshake under way is dropped without a record. By ABORT, the idle limit or the
lifetime it ends once a command in flight has completed (R425). -/
def State.endSession (s : State) (cause : Nat) : State :=
  if s.sec.st = 2 && s.sec.inFlight && (cause == 2 || cause == 3 || cause == 4) then
    { s with sec := { s.sec with ending := some (s.sec.ending.getD cause) } }
  else if s.sec.st = 2 then
    let sid := s.sec.sid
    let s : State := { s with sec := s.sec.ended }
    let s := s.logC 0x0E03 0 [(2, sid), (2, cause)]
    s.when (s.mode == .service && cause != 6 && cause != 7) State.serviceEnd
  else if s.sec.st = 1 then { s with sec := s.sec.ended }
  else s

/-- The mailbox starts over with the Control die. -/
def State.dropMailbox (s : State) : State :=
  { s with sec := { s.sec with push := [], pop := [], rxLen := 0, rxReady := false, busy := false, lastRes := 0, msg := [] } }

/-- The test port is forced to Test-Logic-Reset. -/
def State.dropTap (s : State) : State := { s with sec.tapMode := 0 }

/-! ## The failure count (R420) -/

/-- The hold-off of a failure count, in seconds. -/
def holdOff (n : Nat) : Nat := if n < 3 then 0 else 10 * 2 ^ (min n 10 - 3)
/-- A counted failure: FAIL_N and its OTP copy rise, and from the third on a hold-off begins. -/
def State.countFail (s : State) : State :=
  let n := min 255 (s.get F.AUTH_FAIL_FAIL_N + 1)
  let s : State := { s.set F.AUTH_FAIL_FAIL_N 0 n with otp.failN := n }
  { s with sec := { s.sec with lastFail := s.now, locked := decide (3 ≤ n), lockTold := false } }
/-- Seconds of hold-off left, rounded up. -/
def State.lockLeft (s : State) : Nat :=
  if s.sec.locked then ((s.sec.lastFail + holdOff (s.get F.AUTH_FAIL_FAIL_N) * 1000000000) - s.now + 999999999) / 1000000000 else 0
/-- At WAKE the larger of the held count and its OTP copy counts (R420); a count that only the OTP kept starts its hold-off
afresh. The PUF rebuild that fails is recorded (R408). -/
def State.securityWake (s : State) : State :=
  let a := s.get F.AUTH_FAIL_FAIL_N
  let s := if a < s.otp.failN then
      let s := s.set F.AUTH_FAIL_FAIL_N 0 s.otp.failN
      { s with sec := { s.sec with lastFail := s.now, locked := decide (3 ≤ s.otp.failN), lockTold := false } }
    else s
  s.when (!s.otp.pufOk) (fun s => s.logC 0x0E09 0 [])

end Sys2Proof.Machine
end

