-- ==== Sys2Proof/Machine/Drops.lean ====
section
/-!
DEFINITION. What a Control-die reset, an exit from DORMANT and a stop of the device take from the working state of the
session, the links, the hints, the recorder and the journal.
-/
namespace Sys2Proof.Machine

/-- What the host links and the Aedat and Conjunction Links had in flight is void (Table 1.7, R256, R327, R481). An access through
the register port of PMBus ends with BRIDGE. -/
def State.dropLinks (s : State) : State :=
  let p := s.pmb
  { s with
    spi := {}
    pmb := { p with regBusy := false, stretch := false, regStatus := if p.regBusy then 6 else p.regStatus, out := [] }
    ports := s.ports.map (fun q => { nseq := q.nseq : Port })
    cj := { s.cj with sent := none, txq := [], outFrame := none, target := none, goodRun := 0, evState := none, taken := false } }
/-- A Control-die reset loses every schedule (R279). -/
def State.dropHints (s : State) : State := s.onRails (fun s r => (s.putHints r []).putF r)
/-- The recorder is cleared and SEQ starts over (R429, R433): on exit from DORMANT and by RESET_N. -/
def State.clearRecorder (s : State) : State :=
  let s := (((s.clear F.REC_STATUS_REC_MISS).clear F.REC_STATUS_STICKY_LOST).clear F.REC_STATUS_OVERWRITE_S).clear F.REC_STATUS_INTAKE_S
  { (s.set F.REC_NEWEST_SEQ 0 0) with rcd := {} }
/-- Entry to DORMANT: what is still queued for the journal is lost (R445), the pack is disconnected. -/
def State.toDormant (s : State) : State := { s.jrnDormant with pk := {} }
/-- Exit from DORMANT: the recorder starts over (R433), CC_EPOCH advances, CC_ACC clears, DORM_MIN counts the stay (R377), and of the
stay only DORM_MIN counts toward the next pack test (R384). -/
def State.fromDormant (s : State) : State :=
  let s := s.clearRecorder
  let s := (s.incWrap F.PK_CC_CC_EPOCH).set F.PK_CC_ACC_CC_ACC 0 0
  let stay := s.now - s.pow.dormEntry
  let min := min 65535 (stay / 60000000000)
  { s.set F.PK_CC_DORM_MIN 0 min with pow.testEnd := s.pow.testEnd + (stay - min * 60000000000) }
/-- Every entry to WAKE: sensors without a good reading (R349), no pack, no VIN sample (R135), a lost commit is told (R445). -/
def State.dropWake (s : State) : State :=
  let s : State := { (s.endSession 6).dropMailbox.sensorsFresh with
    pk := {}, tlm := {}, spi := {}, pmb := {}, ports := Vector.replicate 2 {}, cj := {} }
  let s := s.onRails (fun s r => (s.mark F.VIN_FF_VIN_STALE r).mark F.ENG_STATUS_VIN_STALE r)
  s.jrnWake.securityWake

end Sys2Proof.Machine
end

