-- ==== Sys2Proof/Machine/Loss.lean ====
section
/-!
DEFINITION. Loss of the Control die (R22, R325 to R327), takeover by the Pronoun loop and its end (R84, R331, R332), and
the entry to WAKE (R74, R487).
-/
namespace Sys2Proof.Machine

/-- The wake in force came from the wake timer or VDD33 (R68). -/
def State.timedWake (s : State) : Bool := s.get F.MODE_STATUS_WAKE_SRC != 0 && !(s.get F.MODE_STATUS_WAKE_SRC).testBit 0

/-- Entry to WAKE by transition `n`: domains W and P take their reset values, every rail is OFF, both dies start over
(R80, R487); clocks and link are still to come up. The fields of the always-on domain stay, an orderly shutdown stays asked for, and
so does a VDD33 loss, whose T26 is evaluated again from WAKE (R77). The TFLT receivers start in their fault reading after an exit
from DORMANT (R85) and keep their reading over any other entry. -/
def State.wakeEntry (s : State) (n : Nat) : State :=
  let s0 := s
  let m := s.mode
  let held := s.flag F.MODE_STATUS_SHUTDOWN_ACT
  let tflt := fun (n : Fin 32) => s.flag F.PWM_STATUS_TFLT_FAULT n
  let s : State := { s with regs := resetRegs s.regs (fun f => f.dom == .w || f.dom == .p) }
  let s := (((s.clear F.CLK_STATUS_XTAL_OK).clear F.CLK_STATUS_FPLL_LOCK).clear F.CLK_STATUS_CPLL_LOCK).clear
    F.BRIDGE_STATUS_LINK_UP
  let p := s.pow
  let s : State := { s with
    mode := m, img := [], br := {}, par := {}
    mirPh := List.replicate 32 (.unused, .ok, 0, 0), mirRail := List.replicate 8 .off
    phases := Vector.replicate 32 {}, rails := Vector.replicate 8 {}
    pow := { p with cdUp := false, released := false, fdHash := List.replicate 8 0, fdDigest := List.replicate 8 0, stopSet := 0, wantSafestopClr := false, pllLost := 0
                    fpllOff := false, ctFault := false, ctService := false, ctAdopt := false, refused := false
                    noVote := false, wakeAt := s.now, staleAt := s.now } }
  let s := (s.keepMarked s0).dropWake
  let s := s.when held (fun s => s.mark F.MODE_STATUS_SHUTDOWN_ACT)
  let s := s.onPhases (fun s m => s.when (n == 2 || tflt m) (fun s => s.mark F.PWM_STATUS_TFLT_FAULT m))
  s.enter n .wake

/-- The times of the Conjunction Link count from here: nothing could be received before (R478, R480). -/
def State.cjAfresh (s : State) : State :=
  { s with cj := { s.cj with targetAt := s.now, leaderAt := s.now, ringAt := s.now
                             peers := s.cj.peers.map (fun p => { p with seen := p.seen.map (fun _ => s.now) }) } }
/-- The Control die runs again; the cause of its reset is recorded on return (R22). The times of R19 and R20 count from here. -/
def State.controlBack (s : State) : State :=
  let s : State := { ((s.cjAfresh.mark F.BRIDGE_STATUS_LINK_UP).when (s.pow.cdCause != 0) (fun s => s.cml 8)) with
    pow.cdUp := true, br.hbRx := some s.now, br.ecAt := some s.now }
  let s := s.when (s.pow.cdCause == 1 || s.pow.cdCause == 2) (fun s => s.logC 0x0105 0 [(1, s.pow.cdCause)])
  let c := s.pow.cdCause
  let s := s.when (c != 0) (fun s => State.journalChanged { s with jrn := { s.jrn with
    ctN := s.jrn.ctN.set (c - 1) (incSat 8 (s.jrn.ctN.getD (c - 1) 0)), ctLast := c } } 4)
  { s with pow.cdCause := 0 }

/-- The Control die resets: what it had in flight is void (Table 1.7, Table 11.4, R256, R279, R327, R419). -/
def State.controlReset (s : State) (c : CtCause) : State :=
  let s := (((s.endSession 7).dropMailbox.dropHints).dropCommit).dropLinks
  let s := s.onPhases (fun s n => s.modPh n (fun p => { p with rsv := 0 }))
  { s with
    pow := { s.pow with cdUp := false, cdLostAt := s.now, cdCause := c.code, ctAdopt := false, released := false
                        retEmpty := s.pow.retEmpty || c == .vcore }
    jrn := { s.jrn with changed := if c == .vcore then 0 else s.jrn.changed }
    br := { s.br with c3 := [], c4 := [], c3Resends := 0, c4Resends := 0, ansResends := 0, echo := none, echoBad := 0, hbExp := none
                      fdLost := false, hbTx := 0 } }

/-- Takeover by the Pronoun loop (R84, R326, T15). -/
def State.takeover (s : State) (c : CtCause) : State :=
  let held := allRails.filter (fun r => (s.st r).switching)
  let mask := held.foldl (fun m r => m + 2 ^ r.val) 0
  let svc := s.mode == .service
  let s := s.onRails (fun s r =>
    if (s.st r).switching then
      let de := s.flag F.PHC_STATUS_DE_ACT r
      let was := s.st r
      let s := s.modFr r (fun f => { f with
        takenIn := was, ctDe := de, handed := false, dutyGood := 0
        pgAt := if was == .reg || was == .shed then f.pgAt else s.now })
      s.modRail r (fun x => { x with st := .caretaken })
    else s.disarm r)
  let s := (((s.mark F.CT_STATUS_CT_ACT).set F.CT_STATUS_CT_CAUSE 0 c.code).set F.CT_STATUS_CT_RAILS 0 mask).set
    F.CT_STATUS_ADOPT_RES 0 0
  let s : State := { s with pow.ctAt := s.now, pow.ctService := svc, pow.ctFault := false, pow.refused := false, pow.stopSet := 0 }
  let s := s.enter 15 .caretaker
  s.logF 0x0B01 0 [(1, c.code), (1, mask), (2, 0)]

/-- The Front die declares the Control die lost (R325): T15 with a rail switching, T16 without; in CARETAKER handed-over
rails return to the Pronoun loop and the timer runs on (R331, Table 11.4); in SAFESTOP the die restarts. -/
def State.lose (s : State) (c : CtCause) : State :=
  let s := s.onRails (fun s r => s.discard r 1)
  match s.mode with
  | .dormant | .wake => s
  | .caretaker =>
    let s := (s.controlReset c).set F.CT_STATUS_CT_CAUSE 0 c.code
    s.onRails (fun s r => if s.st r == .caretaken then s.modFr r (fun f => { f with handed := false, dutyGood := 0 }) else s)
  | .safestop =>
    let s := (s.controlReset c).set F.CT_STATUS_CT_CAUSE 0 c.code
    let s := State.keepMarked { s with regs := resetRegs s.regs (fun f => f.dom == .w && !f.front && f.base != 0x0008) } s
    s.when (s.flag F.SUPPLY_STATUS_VCORE_GOOD) State.controlBack
  | .parse => ((s.controlReset c).set F.CT_STATUS_CT_CAUSE 0 c.code).wakeEntry 16
  | _ =>
    let s := s.controlReset c
    if allRails.any (fun r => (s.st r).switching) then s.takeover c
    else (s.set F.CT_STATUS_CT_CAUSE 0 c.code).wakeEntry 16

/-- LOOP_PORT_FAULT (R14): three parity failures in 16 updates of a rail, or the loop-port clock absent for 60 ns. DESIGN CHOICE
(log 162): the declared fault empties the 16-update history of the rail. -/
def State.loopFault (s : State) (r : Fin 8) (clk : Bool) : State :=
  if s.mode == .dormant || s.mode == .wake || !(clk || (s.fr r).lpBad) then s else
  let s := s.mark F.BRIDGE_STATUS_LP_FAULT
  let s := s.logF 0x0103 0 [(1, r.val), (2, if clk then 2 else 1)]
  let s := s.modFr r (fun f => { f with lp16 := [] })
  s.lose .loopPort

def execLoopPortFault (t : Nat) (r : Fin 8) (clockAbsent : Bool) (s : State) := run t (fun s => s.loopFault r clockAbsent) s

/-- The policy cores run, so a mismatch or a watchdog expiry can arise (R22, R24): the Control die runs and step 12 released them. -/
def State.coresRun (s : State) : Bool := s.pow.cdUp && s.pow.released

/-- A loss of this cause has come about (R325): a heartbeat loss after 2.5 µs without a valid heartbeat (R19), a reset of the die by
its cores, the loss of VCORE, a declared loop-port fault. -/
def State.lossDue (s : State) (c : CtCause) : Bool :=
  match c with
  | .heartbeat => s.pow.cdUp && s.silentSince s.br.hbRx
  | .lockstep | .watchdog => s.coresRun
  | .loopPort => s.pow.cdUp && s.flag F.BRIDGE_STATUS_LP_FAULT
  | .vcore => !s.flag F.SUPPLY_STATUS_VCORE_GOOD

/-- CONTROL_DIE_LOST (R19, R325). -/
def State.controlLost (s : State) (c : CtCause) : State :=
  if s.mode == .dormant || s.mode == .wake || !s.lossDue c then s else
  let s := s.when (c == .heartbeat) (fun s =>
    (s.mark F.BRIDGE_STATUS_HB_LOST).logF 0x0102 0 [(2, 0), (1, s.get F.BRIDGE_STATUS_HB_SEQ)])
  s.lose c

def execControlDieLost (t : Nat) (cause : CtCause) (s : State) := run t (fun s => s.controlLost cause) s

def execLockstepMismatch (t : Nat) (s : State) := run t (fun s => if s.coresRun then s.lose .lockstep else s) s

/-- WDOG_US have passed since the last restart of the policy watchdog (R24). -/
def State.wdogDue (s : State) : Bool := s.pow.wdogAt + s.pow.wdogUs * 1000 ≤ s.now

def execPolicyWatchdogExpiry (t : Nat) (s : State) :=
  run t (fun s => if s.coresRun && s.wdogDue then s.lose .watchdog else s) s

/-- WATCHDOG_RESTART (R24). -/
def State.kick (s : State) : State := if s.coresRun then { s with pow.wdogAt := s.now } else s

def execWatchdogRestart (t : Nat) (s : State) := run t State.kick s

/-- CARETAKER_TIMEOUT (R331): 5 ms from the declaration without adoption refuse it with result 6. -/
def State.ctTimeout (s : State) : State :=
  if s.mode == .caretaker && s.pow.ctAt + 5000000 ≤ s.now then s.refuse 6 0 else s

def execCaretakerTimeout (t : Nat) (s : State) := run t State.ctTimeout s

/-- T18 counts inside the present 10 s window (R332). -/
def State.ctFailN (s : State) : Nat := (s.pow.ctFails.filter (fun x => s.now < x + 10000000000)).length

/-- The failed takeovers of the last 10 s, with this one. -/
def State.ctCount (s : State) : State :=
  { s with pow.ctFails := (s.now :: s.pow.ctFails).filter (fun x => s.now < x + 10000000000) }
/-- CT_ACT ends with its time; 0x0B04. -/
def State.ctEnd (s : State) : State :=
  let s := (s.clear F.CT_STATUS_CT_ACT).set F.CT_STATUS_CT_TIME 0 (min 65535 ((s.now - s.pow.ctAt) / 1000))
  s.logF 0x0B04 0 [(1, s.get F.CT_STATUS_CT_RAILS), (1, s.ctFailN)]
/-- The Control die comes back where VCORE stands and it is not up. -/
def State.ctBack (s : State) : State := s.when (s.flag F.SUPPLY_STATUS_VCORE_GOOD && !s.pow.cdUp) State.controlBack
/-- T19: SAFESTOP, the Control die's part of domain W at its reset values. -/
def State.ctGiveUp (s : State) : State :=
  let s := State.keepMarked { s with regs := resetRegs s.regs (fun f => f.dom == .w && !f.front && f.base != 0x0008) } s
  s.ctBack.enterSafestop 19
/-- T18: PARSE, domain W at its reset values but the orderly shutdown asked for. -/
def State.ctRestart (s : State) : State :=
  let shut := s.get F.MODE_STATUS_SHUTDOWN_ACT
  let s := State.keepMarked { s with regs := resetRegs s.regs (fun f => f.dom == .w && f.base != 0x0104) } s
  State.enterParse (State.ctBack (s.set F.MODE_STATUS_SHUTDOWN_ACT 0 shut)) 18

/-- CARETAKER_STOP_COMPLETE (R331, R332): once adoption is refused and no rail is held or switching, T19 on the third T18
within 10 s or after a device-latching fault, else T18. The Control die leaves its reset without adopting (R487). -/
def State.ctStopped (s : State) : State :=
  if s.mode == .caretaker && s.pow.refused && !allRails.any (fun r => s.st r == .caretaken || (s.st r).switching) then
    let s := s.ctCount.ctEnd
    if s.pow.ctFault || 3 ≤ s.ctFailN then s.ctGiveUp else s.ctRestart
  else s

def execCaretakerStopComplete (t : Nat) (s : State) := run t State.ctStopped s

end Sys2Proof.Machine
end

