-- ==== Sys2Proof/Machine/Engine.lean ====
section
/-!
DEFINITION. The rail engine: the datapath of R125 bit by bit, the modulator, ramps (R141, R142), the slew (R229), operating
points and compensator sets (R129 to R145), and the bus feedforward (R134, R135, R304).
-/
namespace Sys2Proof.Machine

/-! ## Coefficients -/

/-- Product with a coefficient of mantissa `m` and shift `sh` (R124): the exact product shifted right by 25 − SH, rounded,
saturated to 40 bits. -/
def scale (x m : Int) (sh : Nat) : Int := satS 40 (roundDiv (x * m) (2 ^ (25 - sh)))
/-- Saturate to 40 bits. -/
def sat40 (x : Int) : Int := satS 40 x
/-- Saturate to 16 bits. -/
def sat16 (x : Int) : Int := satS 16 x
/-- A `sat40` of R124 or R125 limited its value. -/
def over40 (x : Int) : Bool := sat40 x != x
/-- The product limited by `scale` before saturation. -/
def scaleRaw (x m : Int) (sh : Nat) : Int := roundDiv (x * m) (2 ^ (25 - sh))

/-- ROM set 0 (Table 5.4). -/
def romSet0 : Coefs :=
  { kpM := 0x4000, kpS := 6, kiM := 0x0800, kiS := 0, kdM := 0x4000, kdS := 13, kfM := 0x4000, kfS := 8
    koM := 0x4000, koS := 9, imax := 0x0280, imin := -0x0280 }

/-- The items of a set in the store, in the order of Table 5.2, as 16-bit patterns. -/
def Coefs.items (c : Coefs) : List Nat :=
  [ofS 16 c.kpM, c.kpS, ofS 16 c.kiM, c.kiS, ofS 16 c.kdM, c.kdS, ofS 16 c.kfM, c.kfS, ofS 16 c.koM, c.koS,
   ofS 16 c.imax, ofS 16 c.imin]
/-- A set from its items. -/
def coefsOf (g : Nat → Nat) : Coefs :=
  { kpM := toS 16 (g 0), kpS := g 1, kiM := toS 16 (g 2), kiS := g 3, kdM := toS 16 (g 4), kdS := g 5
    kfM := toS 16 (g 6), kfS := g 7, koM := toS 16 (g 8), koS := g 9, imax := toS 16 (g 10), imin := toS 16 (g 11) }
/-- The set of an ID in the set store. -/
def State.setOf (s : State) (id : Nat) : Coefs := coefsOf (fun k => s.sets.get (id * 16 + k))
/-- Put a set into the store. -/
def State.putSet (s : State) (id : Nat) (c : Coefs) : State :=
  { s with sets := (List.zip (List.range 12) c.items).foldl (fun m x => m.set (id * 16 + x.1) x.2) s.sets }

/-- The ranges of Table 5.2, item by item: the number of the first item that fails, coded as Table 15.9. -/
def Coefs.firstBad (c : Coefs) : Option Nat :=
  if c.kpM < 0 ∨ 13 < c.kpS then some 0
  else if c.kiM < 0 ∨ 6 < c.kiS then some 1
  else if c.kdM < 0 ∨ 15 < c.kdS then some 2
  else if c.kfM < 1 ∨ 10 < c.kfS then some 3
  else if c.koM < 1 ∨ 10 < c.koS then some 4
  else if c.imax < 0 then some 5
  else if 0 < c.imin then some 6
  else none

/-! ## The datapath (R125) -/

/-- What one datapath run takes from outside the engine's states. -/
structure PathIn where
  e : Int
  llt : Int
  ff : Int
  vto : Int
  rm : Int
  rvin : Int
  dmin : Int
  dmax : Int
  lowlim : Int
  common : Option Int
  lsHold : Bool
  deriving DecidableEq, Repr

/-- The flags one run raises (Table 5.1). -/
structure PathFlags where
  accSat : Bool := false
  awHi : Bool := false
  awLo : Bool := false
  outSat : Bool := false
  ffClamp : Bool := false
  clHit : Bool := false
  negHit : Bool := false
  dmaxHit : Bool := false
  dminHit : Bool := false
  hold : Bool := false
  deriving DecidableEq, Repr

/-- The modulator: volts in 0.15625 mV units to a duty word within its limits, before and after the clamp (R125). -/
def dutyRaw (v rvin : Int) : Int := roundDiv (v * rvin) 65536
/-- The clamped duty. -/
def dutyOf (v rvin dmin dmax : Int) : Int := satI dmin dmax (dutyRaw v rvin)

/-- One run of the datapath: the new engine states, the duty word, the flags. -/
def datapath (g : Engine) (x : PathIn) : Engine × Int × PathFlags :=
  let c := g.act
  let e1 := sat16 (x.e - x.llt)
  let E := e1 * 2 ^ 15
  let P := scale E c.kpM c.kpS
  let hold := x.lsHold || (g.hitHi && 0 < E) || (g.hitLo && E < 0)
  let kiE := scale E c.kiM c.kiS
  let iRaw := sat40 (g.i + kiE)
  let i := if hold then g.i else satI (c.imin * 2 ^ 15) (c.imax * 2 ^ 15) iRaw
  let dE := sat40 (E - g.ePrev)
  let D := scale dE c.kdM c.kdS
  let dDf := sat40 (D - g.df)
  let kfD := scale dDf c.kfM c.kfS
  let df := sat40 (g.df + kfD)
  let y := sat40 (P + i + df)
  let dU := sat40 (y - g.u)
  let koU := scale dU c.koM c.koS
  let u40 := sat40 (g.u + koU)
  let uR := roundDiv u40 (2 ^ 15)
  let uOwn := sat16 uR
  let u := x.common.getD uOwn
  let s1 := sat16 (u + x.ff)
  let s2 := min s1 g.ceil
  let ut := max s2 (-x.lowlim)
  let v := satI 0 (2 ^ 23 - 1) (x.vto + ut * x.rm)
  let dR := dutyRaw v x.rvin
  let d := satI x.dmin x.dmax dR
  let acc := over40 (scaleRaw E c.kpM c.kpS) || (!hold && (over40 (scaleRaw E c.kiM c.kiS) || over40 (g.i + kiE)))
    || over40 (E - g.ePrev) || over40 (scaleRaw dE c.kdM c.kdS) || over40 (D - g.df) || over40 (scaleRaw dDf c.kfM c.kfS)
    || over40 (g.df + kfD) || over40 (P + i + df) || over40 (y - g.u) || over40 (scaleRaw dU c.koM c.koS)
    || over40 (g.u + koU)
  let fl : PathFlags :=
    { accSat := acc, awHi := !hold && c.imax * 2 ^ 15 < iRaw, awLo := !hold && iRaw < c.imin * 2 ^ 15
      outSat := uR != uOwn, ffClamp := s1 != u + x.ff, clHit := g.ceil < s1, negHit := s2 < -x.lowlim
      dmaxHit := x.dmax < dR, dminHit := dR < x.dmin, hold := hold }
  ({ g with eLast := e1, ePrev := E, i := i, df := df, u := u40, y := y, uDem := u, ut := ut
            hitHi := fl.clHit || fl.dmaxHit, hitLo := fl.negHit || fl.dminHit }, d, fl)

/-! ## One update of one rail -/

/-- A set-point code as a target voltage in 0.15625 mV units (R125). -/
def State.vtoOf (s : State) (r : Fin 8) (code : Nat) : Int := roundDiv ((code : Int) * 4 * (s.cfg r).divider) 4096
/-- VTO: the target voltage of the code that the DAC holds (R125). -/
def State.vto (s : State) (r : Fin 8) : Int := s.vtoOf r (s.dacCode r)

/-- The load-line term (R139) from the filtered current, before its limit. -/
def lltRaw (iF : Int) (llr : Nat) : Int := asr (asr iF 8 * llr) 5

/-- LOWLIM (R136). -/
def State.lowLim (s : State) (r : Fin 8) : Int :=
  if s.st r == .ramp then 0
  else if s.flag F.PHC_STATUS_DE_ACT r && (s.st r == .reg || s.st r == .shed) then 0
  else s.get F.NEG_FF_NEG_LIM r

/-- This controller is a member of the spanning rail and follows the leader's common target (R138, R478): not an island, and not
in a stop of its own (R477). RSTATE 6 is the leader's RAMPDOWN. -/
def State.follows (s : State) (r : Fin 8) : Bool :=
  s.isMember r && s.flag F.CJ_STATUS_JOINED && !s.flag F.CJ_STATUS_ISLAND && (s.st r != .rampdown || s.cj.rstate == 6)

/-- The operating point (R143). -/
def State.opOf (s : State) (r : Fin 8) : Nat :=
  let n := (s.switchingOf r).length
  b2n (s.flag F.PHC_STATUS_DE_ACT r) * 4 + b2n (s.get F.OP_BAND_NB1 r ≤ n) + b2n (s.get F.OP_BAND_NB2 r ≤ n)
    + b2n (s.get F.OP_BAND_NB3 r ≤ n)
/-- The set that OP_MAP holds for an operating point. -/
def State.mapOf (s : State) (r : Fin 8) (op : Nat) : Nat :=
  s.get ([F.OP_MAP_LO_MAP0, F.OP_MAP_LO_MAP1, F.OP_MAP_LO_MAP2, F.OP_MAP_LO_MAP3, F.OP_MAP_HI_MAP4, F.OP_MAP_HI_MAP5,
    F.OP_MAP_HI_MAP6, F.OP_MAP_HI_MAP7].getD op F.OP_MAP_LO_MAP0) r
/-- The selected set (R143). -/
def State.selOf (s : State) (r : Fin 8) (op : Nat) : Nat :=
  if s.flag F.SET_CTRL_FORCE_EN r then s.get F.SET_CTRL_FORCE_SET r else s.mapOf r op

/-- Make a set active without the bumpless step, as at entry to RAMP (Table 5.6, R335). -/
def State.takeSet (s : State) (r : Fin 8) : State :=
  let op := s.opOf r
  let id := s.selOf r op
  let c := s.setOf id
  let s := ((s.set F.ENG_STATUS_OP r op).set F.ENG_STATUS_ACT_SET r id).clear F.ENG_STATUS_SWAP_PEND r
  s.modEng r (fun g => { g with act := c, actId := id, selId := id })

/-- The operating point and the selection at every update; a selection that differs from the active set pends (R143, R144). -/
def State.select (s : State) (r : Fin 8) : State :=
  let op := s.opOf r
  let id := s.selOf r op
  let s := (s.set F.ENG_STATUS_OP r op).modEng r (fun g => { g with selId := id })
  if id = (s.eng r).actId then s else s.mark F.ENG_STATUS_SWAP_PEND r

/-- The fold engages in the first update with the current sum above the limit (R137). -/
def State.foldEngage (s : State) (r : Fin 8) : State :=
  if !s.flag F.ENG_STATUS_CL_ACT r && (s.ilimRail r : Int) < (s.eng r).iSum && (s.st r).switching then
    let s := (s.mark F.ENG_STATUS_CL_ACT r).modEng r (fun g => { g with ceil := g.ut })
    let s := (s.addEvent r).requestAdd r (s.idleOf r).length none 2
    s.logC 0x0507 r [(1, r.val), (2, satS 16 (s.eng r).iSum), (2, s.ilimRail r)]
  else s

/-- The duty word of the feedforward term alone, for a target voltage. -/
def State.ffDuty (s : State) (r : Fin 8) (vto : Int) : Int :=
  dutyOf vto (s.eng r).rvin (s.get F.DUTY_LIM_DUTY_MIN r) (s.get F.DUTY_LIM_DUTY_MAX r)
/-- The word sent before the first block after entry to RAMP has ended: the target is the ramp's start code (R122). -/
def State.startDuty (s : State) (r : Fin 8) : Int := s.ffDuty r (s.vtoOf r (s.eng r).startCode)

/-- Raise a sticky flag when the condition holds. -/
def State.stick (s : State) (f : Fld) (i : Nat) (b : Bool) : State := if b then s.mark f i else s

/-- The engine sends a duty word with its parity bit down the loop port, and shows it (R13). -/
def State.sendWord (s : State) (r : Fin 8) (d : Nat) : State :=
  (s.modEng r (fun g => { g with word := parityWord d })).set F.MON_DEMAND_DUTY r d

/-- Run the datapath on the error value `e` and publish what it gives (R125, R127, MON registers). -/
def State.runPath (s : State) (r : Fin 8) (e : Int) : State :=
  let g := s.eng r
  let raw := lltRaw g.iF (s.get F.LOADLINE_LL_R r)
  let llt := min raw 20480
  let x : PathIn :=
    { e := e, llt := llt, ff := if s.st r == .ramp then 0 else g.ff, vto := s.vto r, rm := s.get F.ENG_CFG_RM r
      rvin := g.rvin, dmin := s.get F.DUTY_LIM_DUTY_MIN r, dmax := s.get F.DUTY_LIM_DUTY_MAX r
      lowlim := s.lowLim r, common := if s.follows r then some g.commonU else none, lsHold := (s.fr r).ls != .none }
  let res := datapath g x
  let fl := res.2.2
  let s := s.modEng r (fun _ => { res.1 with llt := llt, blkDone := true })
  let open_ := g.openLoop && s.st r == .rampdown
  let duty := if open_ then s.ffDuty r (s.vto r) else res.2.1
  let s := s.when open_ (fun s => s.modEng r (fun g => { g with ut := 0 }))
  let s := (s.stick F.ENG_STICKY_LL_CLAMP r (20480 ≤ raw)).stick F.ENG_STICKY_ACC_SAT r fl.accSat
  let s := (s.stick F.ENG_STICKY_AW_HI r fl.awHi).stick F.ENG_STICKY_AW_LO r fl.awLo
  let s := (s.stick F.ENG_STICKY_OUT_SAT r fl.outSat).stick F.ENG_STICKY_FF_CLAMP r fl.ffClamp
  let s := (s.stick F.ENG_STICKY_CL_HIT r fl.clHit).stick F.ENG_STICKY_NEG_HIT r fl.negHit
  let s := (s.stick F.ENG_STICKY_DMAX_HIT r fl.dmaxHit).stick F.ENG_STICKY_DMIN_HIT r fl.dminHit
  let s := (s.setB F.ENG_STATUS_AW_HOLD r fl.hold).setI F.MON_ERR_E1 r res.1.eLast
  let s := (s.setI F.MON_ERR_LLT r llt).setI F.MON_DEMAND_UT r (s.eng r).ut
  (s.sendWord r duty.toNat).setI F.MON_INT_I_HI r (asr res.1.i 8)

/-- The target in sixty-fourths of a code after `k` updates of a ramp at `ss` × 0.125 mV/µs (R141). -/
def rampSteps (k ss : Nat) : Nat := k * ss * 32 / 125

/-- The ramp of R141 and R228: one update; at the final code, or when SP_TGT has fallen below the target, the rail enters REG. -/
def State.rampStep (s : State) (r : Fin 8) : State :=
  let g := s.eng r
  let k := g.rampK + 1
  let t64 := 64 * g.rampT0 + rampSteps k (s.copy F.ENG_CFG_SS_RATE r)
  let fin := s.get F.SP_STATUS_SP_TGT r
  if 64 * fin ≤ t64 then
    let cut := decide (fin < g.dac)
    let code := if cut then g.dac else fin
    let s := s.modEng r (fun g => { g with rampK := k, dac := code })
    let s := s.modSp r (fun q => { q with acc := code * 128 })
    let s := (s.setRail r .reg).modFr r (fun f => { f with pgAt := s.now, regAt := s.now })
    s
  else s.modEng r (fun g => { g with rampK := k, dac := t64 / 64 })

/-- A fall that has reached code 0 (R142): the soft stop begins, each phase to tri-state at its next period start (R219). -/
def State.fallEnd (s : State) (r : Fin 8) : State :=
  if (s.eng r).dac = 0 && (s.fr r).fallAt.isNone then
    let s := (s.endLs r).modFr r (fun f => { f with fallAt := some s.now })
    (s.phasesOf r).foldl State.triNext s
  else s
/-- One update of the fall of R142. -/
def State.fallStep (s : State) (r : Fin 8) : State :=
  let g := s.eng r
  let k := g.rampK + 1
  let dac := (64 * g.rampT0 - rampSteps k (s.copy F.ENG_CFG_SS_RATE r)) / 64
  (s.modEng r (fun g => { g with rampK := k, dac := dac })).fallEnd r

/-- The slew of R229: one 20 ns step of the accumulator toward SP_TGT × 128. -/
def State.slewStep (s : State) (r : Fin 8) : State :=
  let q := (s.rail r).sp
  let tgt := s.get F.SP_STATUS_SP_TGT r * 128
  let lim := fun (x : Nat) => match q.slewLim with
    | some l => min l x
    | none => x
  let a := if q.acc < tgt then min tgt (q.acc + lim (s.get F.SP_CTRL_SLEW_UP r))
    else max tgt (q.acc - lim (s.get F.SP_CTRL_SLEW_DN r))
  (s.modSp r (fun q => { q with acc := a })).modEng r (fun g => { g with dac := (2 * a + 128) / 256 })

/-- The target of the update, by rail state (R227). The code of a member follows the DAC field of TARGET, or holds while it is an
island, but for a fall (R475, R478). -/
def State.target (s : State) (r : Fin 8) : State :=
  if s.isMember r then
    if s.st r != .rampdown then s else if s.follows r then s.fallEnd r else s.fallStep r
  else match s.st r with
  | .ramp => if (s.fr r).started then s.rampStep r else s
  | .rampdown => s.fallStep r
  | .reg | .shed => s.slewStep r
  | _ => s

/-- The upward word of a rail as it arrives: the Front die's, with the bits of `flip` turned over on its way (R13). -/
def State.upIn (s : State) (r : Fin 8) (flip : Nat) : Nat := upWord (s.fr r).code ^^^ flip
/-- The error code the engine uses in this slot (R13, R120): that of the upward word, or the previous one when it failed parity. -/
def State.slotCode (s : State) (r : Fin 8) (flip : Nat) : Int :=
  let w := s.upIn r flip
  if parityOk w then toS 10 (w / 2) else (s.eng r).cPrev

/-- The engine of a rail runs: the rail switches under the Control die, or is being adopted (R335). -/
def State.engineRuns (s : State) (r : Fin 8) : Bool :=
  s.pow.cdUp && ((s.mode != .caretaker && (s.st r).switching && (s.st r != .ramp || (s.fr r).started)) || (s.pow.ctAdopt && s.st r == .caretaken))

/-- RAIL_ENGINE_UPDATE (R120 to R128, R141 to R143, R229): one 20 ns slot of one rail's engine; `flip` are the bits of the upward
word that the path turned over. -/
def State.engineUpdate (s : State) (r : Fin 8) (flip : Nat) : State :=
  if !s.engineRuns r then s else
  let c := s.slotCode r flip
  let parOk := parityOk (s.upIn r flip)
  let s := (s.stick F.ENG_STICKY_PAR_REUSE r (!parOk)).stick F.ENG_STICKY_ADC_CLIP r (c == 511 || c == -511)
  let s := s.modEng r (fun g => { g with cPrev := c, par64 := ((!parOk) :: g.par64).take 64 })
  let s := (((s.target r).select r).foldEngage r).tenseStep r
  let sh := s.get F.ENG_CFG_RATE_SH r
  let n := (s.eng r).blkN + 1
  let sum := (s.eng r).blkSum + c
  if n < 2 ^ sh then
    let s := s.modEng r (fun g => { g with blkN := n, blkSum := sum })
    if (s.eng r).blkDone then s else s.sendWord r (s.startDuty r).toNat
  else (s.modEng r (fun g => { g with blkN := 0, blkSum := 0 })).runPath r (sum * 64 / 2 ^ sh)

def execRailEngineUpdate (t : Nat) (r : Fin 8) (flip : BitVec 11) (s : State) := run t (fun s => s.engineUpdate r flip.toNat) s

/-- The bumpless swap of R144 on the engine states: Y of the last update is kept under the new set. -/
def swapInto (g : Engine) (c : Coefs) : Int × Bool :=
  let raw := g.y - scale g.ePrev c.kpM c.kpS - g.df
  let i := satI (c.imin * 2 ^ 15) (c.imax * 2 ^ 15) raw
  (i, i != raw)

/-- COMPENSATOR_SWAP (R144): the pending set becomes active; it waits while a large-signal action runs (Table 5.6). -/
def State.compSwap (s : State) (r : Fin 8) : State :=
  if s.flag F.ENG_STATUS_SWAP_PEND r && s.engineRuns r && (s.fr r).ls == .none then
    let g := s.eng r
    let c := s.setOf g.selId
    let w := swapInto g c
    let s := (s.stick F.ENG_STICKY_SWAP_CLAMP r w.2).clear F.ENG_STATUS_SWAP_PEND r
    let s := (s.set F.ENG_STATUS_ACT_SET r g.selId).modEng r (fun e => { e with i := w.1, act := c, actId := g.selId })
    s.logC 0x0501 r [(1, r.val), (1, g.actId), (1, g.selId), (1, s.get F.ENG_STATUS_OP r)]
  else s

def execCompensatorSwap (t : Nat) (r : Fin 8) (s : State) := run t (fun s => s.compSwap r) s

/-- The staged set (R145). -/
def State.staged (s : State) : Coefs :=
  coefsOf (fun k => match k with
    | 0 => s.get F.STORE_KP_M | 1 => s.get F.STORE_KP_SH | 2 => s.get F.STORE_KI_M | 3 => s.get F.STORE_KI_SH
    | 4 => s.get F.STORE_KD_M | 5 => s.get F.STORE_KD_SH | 6 => s.get F.STORE_KF_M | 7 => s.get F.STORE_KF_SH
    | 8 => s.get F.STORE_KO_M | 9 => s.get F.STORE_KO_SH | 10 => s.get F.STORE_CLAMP_IMAX | _ => s.get F.STORE_CLAMP_IMIN)

/-- The staged set passes Table 5.2 (R131). -/
def State.stagedOk (s : State) : Bool := s.staged.firstBad.isNone
/-- A store write refused (R131): COEF_REJ and record 0x0502. -/
def State.storeRefused (s : State) (r : Fin 8) (id : Nat) : State :=
  (s.mark F.ENG_STICKY_COEF_REJ r).logC 0x0502 0 [(1, id), (2, (s.staged.firstBad.getD 0 : Nat))]
/-- An accepted store write; a changed active set counts as a new selection (R145). -/
def State.storeWrite (s : State) (id : Nat) : State :=
  let old := s.setOf id
  let s := s.putSet id s.staged
  s.onRails (fun s r => if (s.eng r).actId == id && (s.eng r).selId == id && s.setOf id != old && (s.st r).switching
    then s.mark F.ENG_STATUS_SWAP_PEND r else s)

/-! ## Bus feedforward -/

/-- VIN_CODE of a sample of 5 mV (R134). -/
def vinCode (sample : Nat) : Nat := (satI 12800 131040 (sample * 32 : Nat)).toNat
/-- RVIN of a VIN_CODE (R134). -/
def rvinOf (code : Nat) : Nat := (2 * 2 ^ 32 + code) / (2 * code)

/-- The staleness flags of every rail. -/
def State.setStale (s : State) (b : Bool) : State :=
  s.onRails (fun s r => (s.setB F.ENG_STATUS_VIN_STALE r b).setB F.VIN_FF_VIN_STALE r b)

/-- VIN_SAMPLE (R134, R135, R303, R304, R328): from the start of PARSE; the Control die takes it while it runs. -/
def State.vinSample (s : State) (sample : Nat) : State :=
  if s.mode == .dormant || s.mode == .wake then s else
  let code := vinCode sample
  let run := if s.get F.PROT_CFG_BUS_OV != 0 && s.get F.PROT_CFG_BUS_OV ≤ sample then s.pow.busOvRun + 1 else 0
  let s := s.when (sample < s.get F.PROT_CFG_BUS_OV - 100) (fun s => s.clear F.PROT_STATUS_BUS_OV_ACT)
  let old := !s.busFresh
  let s : State := { s with pow.busV := sample, pow.busVAt := some s.now, pow.busOvRun := run }
  let s := s.when old (fun s => s.onPhases (fun s n => s.modPh n (fun p => { p with cmpBad := true })))
  let s := s.onRails (fun s r => s.modFr r (fun f => { f with vinF := code, rvinF := rvinOf code }))
  if !s.pow.cdUp then s else
  let s := s.onRails (fun s r => (s.set F.VIN_FF_VIN_CODE r code).modEng r
    (fun g => { g with rvin := rvinOf code, vinAt := some s.now, staleD := false }))
  s.setStale false

def execVinSample (t : Nat) (sample : BitVec 12) (s : State) := run t (fun s => s.vinSample sample.toNat) s

/-- The engine's last sample came 10 µs ago or earlier (R135). -/
def State.vinOld (s : State) : Bool := allRails.any (fun r => (s.eng r).vinAt.any (fun t => decide (t + 10000 ≤ s.now)))
/-- VIN_STALE (R135): no sample for 10 µs; the last RVIN is kept. -/
def State.vinStale (s : State) : State :=
  if !s.pow.cdUp || allRails.all (fun r => s.flag F.ENG_STATUS_VIN_STALE r) || !s.vinOld then s else
  let s := (State.setStale { s with pow.staleAt := s.now } true).onRails (fun s r => s.mark F.ENG_STICKY_VIN_STALE_S r)
  s.logC 0x0506 0 [(3, s.get F.VIN_FF_VIN_CODE 0)]

def execVinStale (t : Nat) (s : State) := run t State.vinStale s

/-- FEEDFORWARD_STALE_DERATE (R304): VIN_STALE has held for 1 ms; every switching rail carries VSTALE_D, once per episode. -/
def State.staleDerate (s : State) : State :=
  let hit := allRails.filter (fun r => (s.st r).switching)
  if !s.pow.cdUp || !s.flag F.ENG_STATUS_VIN_STALE 0 || s.now < s.pow.staleAt + 1000000 || hit.isEmpty
    || allRails.any (fun r => (s.eng r).staleD) then s else
  let mask := hit.foldl (fun m r => m + 2 ^ r.val) 0
  let s := s.onRails (fun s r => s.modEng r (fun g => { g with staleD := true }))
  s.logF 0x0A0C 0 [(2, mask)]

def execFeedforwardStaleDerate (t : Nat) (s : State) := run t State.staleDerate s

end Sys2Proof.Machine
end

