-- ==== Sys2Proof/Machine/Telemetry.lean ====
section
/-!
DEFINITION. Shaped telemetry (R401, R402): the accumulators at every refresh and the end of a window.
-/
namespace Sys2Proof.Machine

/-- A refresh adds the source value (R401). -/
def Stream.add (x : Stream) (v : Int) : Stream := { x with acc := toS 48 (ofS 48 (x.acc + v)) }
/-- The end of a window (R401): truncate by the window exponent, then to the quantum. -/
def Stream.close (x : Stream) (w q : Nat) : Stream :=
  { acc := 0, out := asr (asr x.acc w) q * 2 ^ q, cnt := (x.cnt + 1) % 256 }

/-- Change one stream of a list. -/
def modStream (l : List Stream) (i : Nat) (f : Stream → Stream) : List Stream := l.set i (f (l.getD i {}))

/-- The source values of a rail and of its phases at a refresh (Table 14.4). -/
def State.tlmAdd (s : State) (r : Fin 8) (sum : Int) : State :=
  let v : Int := (s.dacCode r : Int) * 5 - (s.fr r).code * 4
  let t := s.tlm
  { s with tlm := { t with
      ri1 := modStream t.ri1 r.val (fun x => x.add sum), ri2 := modStream t.ri2 r.val (fun x => x.add sum)
      rv1 := modStream t.rv1 r.val (fun x => x.add v), rv2 := modStream t.rv2 r.val (fun x => x.add v)
      ph := (s.phasesOf r).foldl (fun (l : List Stream) (n : Fin 32) => modStream l n.val (fun x => x.add (s.getI F.PH_CUR_I_AVG n))) t.ph } }

/-- An exponent that PERSONS adds: bits 1:0 for P1, bits 3:2 for P2 (Table 14.3). -/
def addOf (v : Nat) (p2 : Bool) : Nat := if p2 then bits v 2 2 else bits v 0 2

/-- The length of a window in ns (R401): 2^W refreshes of 320 ns, and 2^20 µs for the pack current. -/
def State.windowNs (s : State) (k : Nat) : Nat :=
  match k with
  | 0 => 2 ^ (12 + addOf (s.get F.TLM_SHAPE_W_ADD) false) * 320
  | 1 => 2 ^ (15 + addOf (s.get F.TLM_SHAPE_W_ADD) true) * 320
  | _ => 1048576000
/-- TNOW has reached the end of a window since the last one ended (R401): windows end at fixed instants. -/
def State.windowDue (s : State) (k : Nat) : Bool :=
  let at0 := fun (x : Nat) => (x - s.pow.tnow0) / s.windowNs k
  decide (at0 (s.tlm.ends.getD k 0) < at0 s.now)

/-- TELEMETRY_WINDOW_END (R400, R401): `k` 0 the P1 windows, 1 the P2 windows with the values firmware publishes, 2 the
pack-current window. -/
def State.windowClose (s : State) (k : Nat) : State :=
  if s.mode == .dormant || s.mode == .wake || !s.windowDue k then s else
  let s : State := { s with tlm.ends := s.tlm.ends.set k s.now }
  let p2 := k != 0
  let wa := addOf (s.get F.TLM_SHAPE_W_ADD) p2
  let qa := addOf (s.get F.TLM_SHAPE_Q_ADD) p2
  let t := s.tlm
  match k with
  | 0 => { s with tlm := { t with
      ri1 := t.ri1.map (fun x => x.close (12 + wa) (5 + qa)), rv1 := t.rv1.map (fun x => x.close (12 + wa) (4 + qa)) } }
  | 1 =>
    let s : State := { s with tlm := { t with
      ri2 := t.ri2.map (fun x => x.close (15 + wa) (3 + qa)), rv2 := t.rv2.map (fun x => x.close (15 + wa) (2 + qa))
      ph := t.ph.map (fun x => x.close (15 + wa) (3 + qa)) } }
    (List.range 16).foldl (fun s i => s.set F.FW_PUB_VALUE i (s.get F.FW_PUB_STAGE_VALUE i)) s
  | _ =>
    let d := s.getI F.PK_CC_ACC_CC_ACC - t.pkBase
    let q := 7 + qa
    let m := if s.pk.cfg.rshunt = 0 then 0 else d * 2500000000 / ((s.pk.cfg.rshunt : Int) * 1048576)
    { s with tlm := { t with pkBase := s.getI F.PK_CC_ACC_CC_ACC, pkOut := asr m q * 2 ^ q } }

def execTelemetryWindowEnd (t : Nat) (k : Fin 3) (s : State) := run t (fun s => s.windowClose k.val) s

end Sys2Proof.Machine
end

