-- ==== Sys2Proof/Machine/Section.lean ====
section
/-!
DEFINITION. Sections of the configuration as tables of items: where an item stands in its record, the range it must keep
(an image outside it is invalid, R102), and the register field it loads (Table 4.8). The RAIL section's engine bytes.
-/
namespace Sys2Proof.Machine

/-- An unsigned number of `k` bytes at offset `o`, least significant byte first (R94). -/
def rdU (b : List Byte) (o k : Nat) : Nat := leNat (slice b o k)
/-- A signed number of `k` bytes. -/
def rdS (b : List Byte) (o k : Nat) : Int := toS (8 * k) (rdU b o k)

/-- One item of a section record: bytes `off` to `off + size - 1`, bits `lo` to `lo + w - 1` of them. -/
structure Item where
  off : Nat
  size : Nat
  lo : Nat
  w : Nat
  low : Int
  high : Int
  sgn : Bool
  dst : Option Fld
  deriving DecidableEq, Repr

/-- A whole-byte item loaded into a field. -/
def itU (off size : Nat) (low high : Int) (f : Fld) : Item := ⟨off, size, 0, 8 * size, low, high, false, some f⟩
/-- A signed whole-byte item. -/
def itS (off size : Nat) (low high : Int) (f : Fld) : Item := ⟨off, size, 0, 8 * size, low, high, true, some f⟩
/-- A bit-field item. -/
def itB (off size lo w : Nat) (low high : Int) (f : Fld) : Item := ⟨off, size, lo, w, low, high, false, some f⟩
/-- Reserved bits, which must be 0. -/
def itZ (off size lo w : Nat) : Item := ⟨off, size, lo, w, 0, 0, false, none⟩
/-- A checked item that no register field holds. -/
def itC (off size : Nat) (low high : Int) : Item := ⟨off, size, 0, 8 * size, low, high, false, none⟩

/-- The bits of an item in a record. -/
def Item.raw (it : Item) (b : List Byte) : Nat := bits (rdU b it.off it.size) it.lo it.w
/-- The value of an item. -/
def Item.val (it : Item) (b : List Byte) : Int := if it.sgn then toS it.w (it.raw b) else it.raw b
/-- The item keeps its range. -/
def Item.ok (b : List Byte) (it : Item) : Bool := it.low ≤ it.val b && it.val b ≤ it.high
/-- Every item of a record keeps its range. -/
def itemsOk (l : List Item) (b : List Byte) : Bool := l.all (Item.ok b)
/-- Load instance `i` of every field the items name. -/
def State.loadItems (s : State) (l : List Item) (i : Nat) (b : List Byte) : State :=
  l.foldl (fun s it => match it.dst with
    | some f => s.load f i (it.raw b)
    | none => s) s

/-- RAIL section, bytes 16 to 47 (Table 5.8). -/
def railEngineItems : List Item :=
  [itU 16 1 0 4 F.ENG_CFG_RATE_SH, itU 17 1 1 255 F.ENG_CFG_RM, itB 18 2 0 12 0 4095 F.LOADLINE_LL_R, itZ 18 2 12 4,
   itU 20 1 0 7 F.LOADLINE_LL_TAU, itU 21 1 1 255 F.ENG_CFG_SS_RATE, itU 22 2 0 65535 F.DUTY_LIM_DUTY_MAX,
   itU 24 2 0 65535 F.DUTY_LIM_DUTY_MIN, itU 26 2 0 0x7FFF F.NEG_FF_NEG_LIM, itU 28 1 1 255 F.ENG_CFG_CL_STEP,
   itU 29 1 0 63 F.LS_CFG_LS_UP_TH, itU 30 1 0 63 F.LS_CFG_LS_DN_TH, itU 31 1 1 63 F.LS_CFG_LS_MAX,
   itB 32 1 7 1 0 1 F.LS_CFG_BRAKE_EN, itB 32 1 0 6 0 63 F.LS_CFG_BRAKE_DLY, itZ 32 1 6 1,
   itU 33 1 1 255 F.OP_BAND_NB1, itU 34 1 1 255 F.OP_BAND_NB2, itU 35 1 1 255 F.OP_BAND_NB3,
   itU 36 1 0 63 F.OP_MAP_LO_MAP0, itU 37 1 0 63 F.OP_MAP_LO_MAP1, itU 38 1 0 63 F.OP_MAP_LO_MAP2,
   itU 39 1 0 63 F.OP_MAP_LO_MAP3, itU 40 1 0 63 F.OP_MAP_HI_MAP4, itU 41 1 0 63 F.OP_MAP_HI_MAP5,
   itU 42 1 0 63 F.OP_MAP_HI_MAP6, itU 43 1 0 63 F.OP_MAP_HI_MAP7, itZ 44 4 0 32]

/-- Rules across the engine bytes: DUTY_MIN below DUTY_MAX, NB1 ≤ NB2 ≤ NB3 (Table 5.8, R143). -/
def railEngineRules (b : List Byte) : Bool :=
  rdU b 24 2 < rdU b 22 2 && rdU b 33 1 ≤ rdU b 34 1 && rdU b 34 1 ≤ rdU b 35 1

/-- A COMPENSATOR section (Table 5.3). -/
def compOk (b : List Byte) : Bool :=
  b.length == 32 && rdU b 0 1 ≤ 63 && rdU b 1 3 == 0 && rdU b 28 4 == 0
    && [4, 8, 12, 16, 20].all (fun o => rdU b (o + 2) 1 < 16 && rdU b (o + 3) 1 == 0)
    && (coefsOf (fun k => if k < 10 then (if k % 2 = 0 then rdU b (4 + 2 * k) 2 else rdU b (4 + 2 * k) 1)
        else rdU b (4 + 2 * k) 2)).firstBad.isNone
/-- The set a COMPENSATOR section holds. -/
def compSet (b : List Byte) : Coefs :=
  coefsOf (fun k => if k < 10 then (if k % 2 = 0 then rdU b (4 + 2 * k) 2 else rdU b (4 + 2 * k) 1) else rdU b (4 + 2 * k) 2)

end Sys2Proof.Machine
end

