-- ==== Sys2Proof/Machine/Phases.lean ====
section
/-!
DEFINITION. Phases: current (R157 to R160), observer (R162, R163), failures (R164 to R168), balance (R170), adding and shedding
(R178 to R184), diode emulation (R185), region budget (R187), the PHASE and REGION sections.
-/
namespace Sys2Proof.Machine

/-! ## Current -/

/-- A phase-current sample in 0.125 A units (R158). -/
def State.sampleI (s : State) (n : Fin 32) (adc : Int) : Int :=
  roundDiv (adc * 2000 * s.get F.PH_CAL_CAL_GAIN n) ((s.ph n).gm * 2 ^ 14) + s.getI F.PH_CAL_CAL_OFS n

/-- PHASE_CURRENT_SAMPLE (R157, R158, R160): `adc` is the signed 12-bit code. -/
def State.phaseSample (s : State) (n : Fin 32) (adc : Int) : State :=
  if !s.flag F.PH_STATE_ASSIGNED n || s.mode == .dormant then s else
  let a := satS 12 adc
  let i := s.sampleI n a
  s.modPh n (fun p => { p with
    smpSum := p.smpSum + i, smpN := p.smpN + 1, lastAdc := a
    satRun := if a == -2048 || a == 2047 then p.satRun + 1 else 0 })

def execPhaseCurrentSample (t : Nat) (n : Fin 32) (adc : Int) (s : State) := run t (fun s => s.phaseSample n adc) s

/-- The cycle-average current (R159): the truncated mean of a period with at least two samples. -/
def State.cycleAverage (s : State) (n : Fin 32) : State :=
  let p := s.ph n
  let s := if 2 ≤ p.smpN then s.setI F.PH_CUR_I_AVG n (satS 12 (p.smpSum / p.smpN)) else s
  s.modPh n (fun p => { p with smpSum := 0, smpN := 0 })

/-! ## The observer (R162) -/

/-- The predicted current of the period in Q8 (R162). -/
def observerPred (ihat vinU voU : Int) (ton per rph gobs : Nat) (de : Bool) : Int :=
  let vsw := vinU * ton / per
  let vr := asr (ihat * rph) 10
  let pred := ihat + asr ((vsw - voU - vr) * gobs) 13
  if de then max pred 0 else pred

/-- The observer compares in this period (R163); `cmpBad` holds a REFIN fault or an old BUS_V sample that stood earlier in it. -/
def State.compares (s : State) (n : Fin 32) : Bool :=
  let p := s.ph n
  let r := s.railOf n
  !(p.periods < s.get F.PHC_OBS_OBS_SETTLE r) && p.sw != .shedding && !p.lsSince && (s.fr r).ls == .none && !p.cutTflt
    && s.busFresh && !p.cmpBad && !s.flag F.REFIN_STATUS_REFIN_FAULT (s.regionOf r)

/-- The high-side on-time that was applied in the period, in ticks (R162). -/
def State.onTime (s : State) (n : Fin 32) : Nat :=
  let p := s.ph n
  if s.level n == .high then p.applied + (p.nextAt - p.hiFrom) else p.applied

/-- One run of the observer at a period end (R162). -/
def State.observe (s : State) (n : Fin 32) : State :=
  let r := s.railOf n
  let p := s.ph n
  let pred := observerPred p.ihat s.vinU (s.voU r) (s.onTime n) (s.period n) (s.get F.PH_MODEL_R_PH n) (s.get F.PH_MODEL_G_OBS n)
    (s.flag F.PHC_STATUS_DE_ACT r)
  let meas := s.getI F.PH_CUR_I_AVG n * 256
  let res := meas - pred
  let win : Int := s.get F.PHC_OBS_OBS_WIN r
  if s.compares n then
    let cnt := if win * 256 < res ∨ res < -(win * 256) then min (p.obsCnt + 1) 15
      else if -(win * 128) ≤ res ∧ res ≤ win * 128 then 0 else p.obsCnt
    let h := if p.health == .failed || p.health == .retired then p.health else if cnt = 0 then .ok else .watch
    let s := s.modPh n (fun q => { q with
      pred := pred, obsCnt := cnt, health := h, ihat := pred + asr res (s.get F.PHC_OBS_OBS_G r) })
    if p.health == .ok && h == .watch then
      (s.mark F.PH_STICKY_WATCH_S n).logF 0x0601 n [(1, n.val), (2, satS 16 (asr res 8)), (2, s.getI F.PH_CUR_I_AVG n)]
    else s
  else s.modPh n (fun q => { q with pred := pred, ihat := meas })

/-! ## Failed phases -/

/-- A phase is failed with a cause (R164), partner apart; R166 and R167 are still to follow. Record 0x0602 carries `pred`, like 0x0601 its
r, in whole codes of 0.125 A (R517). -/
def State.failOne (s : State) (n : Fin 32) (cause : Nat) : State :=
  let p := s.ph n
  if !s.flag F.PH_STATE_ASSIGNED n || p.health == .failed || p.health == .retired then s else
  let s := s.modPh n (fun q => { q with health := .failed, failCause := cause })
  let s := (s.stopPhase n).mark F.PH_STICKY_FAILED_S n
  let s := (s.inc F.PH_STATE_FAIL_CNT n).journalChanged 2
  let s := s.modFr (s.railOf n) (fun f => { f with failAt := some s.now, failPend := true })
  s.logF 0x0602 n [(1, n.val), (1, cause), (2, s.getI F.PH_CUR_I_AVG n), (2, satS 16 (asr p.pred 8)), (1, p.obsCnt)]

/-- A phase is failed, and its partner with it where the record of the phase says so, in phase-number order (R164, R165, Table 6.3).
Where only one record of a pair holds PAIR_FAIL_BOTH, that of the failing phase decides (DEDUCED, log 169). On a CARETAKEN rail the Front
die checks MIN_LIVE at once. -/
def State.failPhase (s : State) (n : Fin 32) (cause : Nat) : State :=
  let both := (s.ph n).pairFailBoth && (cause == 2 || cause == 3)
  let r := s.railOf n
  let s := match s.partner n with
    | some m => if !both then s.failOne n cause
      else if m < n then (s.failOne m 4).failOne n cause else (s.failOne n cause).failOne m 4
    | none => s.failOne n cause
  if s.st r == .caretaken then s.checkMinLive r else s

/-- The cause of a failure by OBS_CNT (R164). -/
def State.obsCause (s : State) (n : Fin 32) : Nat :=
  let i := s.getI F.PH_CUR_I_AVG n
  let win : Int := s.get F.PHC_OBS_OBS_WIN (s.railOf n)
  if -16 ≤ i ∧ i ≤ 16 ∧ (win * 256 < (s.ph n).pred ∨ (s.ph n).pred < -(win * 256)) then 2 else 3

/-- SENSE_RANGE (R160): four consecutive samples at a limit. -/
def State.senseRange (s : State) (n : Fin 32) : State :=
  if s.flag F.PH_STATE_ASSIGNED n && 4 ≤ (s.ph n).satRun && ((s.ph n).health == .ok || (s.ph n).health == .watch) then
    let s := (s.mark F.PH_STICKY_SENSE_RANGE n).logF 0x0609 n [(1, n.val), (2, (s.ph n).lastAdc)]
    s.failPhase n 1
  else s

def execSenseRange (t : Nat) (n : Fin 32) (s : State) := run t (fun s => s.senseRange n) s

/-- PHASE_FAIL (R164, R165): OBS_CNT has reached OBS_N. -/
def State.phaseFail (s : State) (n : Fin 32) : State :=
  let on := s.get F.PHC_OBS_OBS_N (s.railOf n)
  if (s.ph n).sw.switching && on != 0 && on ≤ (s.ph n).obsCnt then s.failPhase n (s.obsCause n) else s

def execPhaseFail (t : Nat) (n : Fin 32) (s : State) := run t (fun s => s.phaseFail n) s

/-- Some phase of the rail is FAILED or RETIRED. -/
def State.anyFailed (s : State) (r : Fin 8) : Bool :=
  (s.phasesOf r).any (fun n => (s.ph n).health == .failed || (s.ph n).health == .retired)

/-- FAILURE_FOLLOWUP (R166, R167): FAIL_D, the ceiling notice, record 0x0603, SMBALERT_N, MIN_LIVE, once for the failures of the rail
since the last. In CARETAKER it waits for adoption (Table 6.3). -/
def State.followup (s : State) (n : Fin 32) : State :=
  let r := s.railOf n
  if s.pow.cdUp && s.mode != .caretaker && s.flag F.PH_STATE_ASSIGNED n && (s.fr r).failPend
      && ((s.ph n).health == .failed || s.flag F.PH_PROT_PHW_STOP n) then
    let s := s.modFr r (fun f => { f with failPend := false })
    let d := s.dEff r
    let s := s.modEng r (fun g => { g with failD := s.anyFailed r })
    let s := s.when (s.dEff r == d) (fun s => s.noteRail r 1 (s.ceiling r))
    let s := s.logC 0x0603 r [(1, r.val), (1, (s.liveOf r).length), (2, s.ilimRail r)]
    (s.failAlert r).checkMinLive r
  else s

def execFailureFollowup (t : Nat) (n : Fin 32) (s : State) := run t (fun s => s.followup n) s

/-! ## Balance (R170, R171) -/

/-- Shedding and diode emulation act on the rail: it is in REG or SHED (R155). -/
def State.sheds (s : State) (r : Fin 8) : Bool := s.st r == .reg || s.st r == .shed

/-- The balance update of one rail at a refresh (R170): ACTIVE phases move toward their share. In REG and SHED a SHEDDING phase moves
toward its falling target: R171 holds the trim of a SHEDDING phase, R183 lets it follow its target, and R183 is taken (DEDUCED, log
170). PAIR_CLAMP holds either (R171). -/
def State.balance (s : State) (r : Fin 8) : State :=
  if (s.fr r).ls != .none || s.st r == .caretaken then s else
  let act := (s.phasesOf r).filter (fun n => (s.ph n).sw == .active)
  let iB := sumOver act (fun n => s.getI F.PH_CUR_I_AVG n)
  let wB := sumOver act (fun n => s.get F.PH_CFG_SHARE_W n)
  let lim : Int := (s.cfg r).balLim
  let g : Int := s.get F.PHC_OBS_BAL_G r
  (s.phasesOf r).foldl (fun s n =>
    let p := s.ph n
    let upd := fun (tgt : Int) =>
      let acc := satS 24 (p.acc + (tgt - s.getI F.PH_CUR_I_AVG n) * g)
      (s.modPh n (fun q => { q with acc := acc })).setI F.PH_PLACE_TRIM n (satI (-lim) lim (asr acc 8))
    if p.pairClamped then s
    else if p.sw == .active then upd (iB * s.get F.PH_CFG_SHARE_W n / wB)
    else if p.sw == .shedding && s.sheds r then
      let m : Int := s.get F.PHC_TIME_SHED_RAMP r
      upd (if m ≤ p.periods then 0 else p.shedFrom * (m - p.periods) / m)
    else s) s

/-! ## Region budget (R187) -/

/-- The region of a rail holds a CARETAKEN rail, so arbitration stops (R187). -/
def State.regionHeld (s : State) (m : Fin 4) : Bool := allRails.any (fun r => s.st r == .caretaken && s.regionOf r == m)

/-- The granted increases not yet ACTIVE (R187): those of ADDING phases, and of adds in flight. -/
def State.rsv (s : State) (m : Fin 4) : Int :=
  sumOver (allPhases.filter (fun (n : Fin 32) => s.flag F.PH_STATE_ASSIGNED n && s.regionOf (s.railOf n) == m)) (fun n => (s.ph n).rsv)
    + s.br.c3.foldl (fun a q => if s.regionOf (s.railOf (Fin.ofNat 32 q.ph)) == m then a + (q.rsv : Int) else a) (0 : Int)

/-- The estimated input current of a region (R187). -/
def State.regionEst (s : State) (m : Fin 4) : Int :=
  let sw := allPhases.filter (fun (n : Fin 32) => s.flag F.PH_STATE_ASSIGNED n && s.regionOf (s.railOf n) == m && (s.ph n).sw.switching)
  let sum := sumOver sw (fun n =>
    Int.tdiv (s.dPh (s.railOf n) n (s.fr (s.railOf n)).duty * s.getI F.PH_CUR_I_AVG n) 65536)
  Int.tdiv (sum * s.get F.RGN_CFG_IN_GAIN m) 16384 + s.get F.RGN_CFG_IN_OFS m + s.rsv m

/-- Publish the estimate, signed and held within its field. -/
def State.putEst (s : State) (m : Fin 4) : State := s.setI F.RGN_BUDGET_I_EST m (satS 16 (s.regionEst m))

/-! ## Adding -/

/-- `a` is served before `b` when phases are granted: not KEEP_OFF first, then the cooler, then the lower rank (R181). -/
def State.addBefore (s : State) (a b : Fin 32) : Bool :=
  let ka := s.get F.PH_CFG_KEEP_OFF a
  let kb := s.get F.PH_CFG_KEEP_OFF b
  if ka != kb then ka < kb
  else if s.phTemp a != s.phTemp b then s.phTemp a < s.phTemp b
  else (s.ph a).rank < (s.ph b).rank

/-- The first phase of a list under an order. -/
def firstBy (lt : Fin 32 → Fin 32 → Bool) : List (Fin 32) → Option (Fin 32)
  | [] => none
  | n :: l => match firstBy lt l with
    | some m => if lt m n then some m else some n
    | none => some n

/-- IDLE live phases without an add in flight. -/
def State.freeIdle (s : State) (r : Fin 8) : List (Fin 32) :=
  (s.idleOf r).filter (fun n => !s.br.c3.any (fun q => q.ph == n.val))

/-- Grant `k` phases of a rail, each with its part of the predicted increase. -/
def State.grant (s : State) (r : Fin 8) (cause : Nat) : Nat → Nat → State
  | 0, _ => s
  | k + 1, cost =>
    match firstBy s.addBefore (s.freeIdle r) with
    | none => s
    | some n =>
      let part := cost / (k + 1)
      State.grant { s with br.c3 := s.br.c3 ++ [⟨.add, n.val, part, cause⟩] } r cause k (cost - part)

/-- No request of the rail stands any longer. -/
def State.askDone (s : State) (r : Fin 8) : State :=
  let s := (s.clear F.PHC_STATUS_ADD_PEND r).modEng r (fun g => { g with addWant := 0, addCost := 0 })
  s.putHints r ((s.hints r).map (fun h => { h with want := 0 }))
/-- One rail's request at an arbitration (R31, R32, R187, R272). -/
def State.arbitrateRail (s : State) (r : Fin 8) : State :=
  let g := s.eng r
  let hw := s.hintWant r
  let k := min (max g.addWant hw) (s.freeIdle r).length
  let cost := if hw ≤ g.addWant then g.addCost else hw * (s.cfg r).phInCost
  if !s.flag F.PHC_STATUS_ADD_PEND r then s
  else if k = 0 then s.askDone r
  else if s.regionEst (s.regionOf r) + cost ≤ s.get F.RGN_BUDGET_IN_BUDGET (s.regionOf r) then
    (s.grant r (if hw ≤ g.addWant then g.addWhy else 2) k cost).askDone r
  else s.logC 0x0608 r [(1, r.val), (2, k), (2, s.get F.RGN_BUDGET_IN_BUDGET (s.regionOf r))]

/-- The rails of a region in the order they are served: PRIO where the region has one, else by number (R31). -/
def State.served (s : State) (m : Fin 4) : List (Fin 8) :=
  let own := allRails.filter (fun r => (s.cfg r).present && s.regionOf r == m)
  let pr := s.get F.RGN_PRIO_PRIO m
  let ranked := (List.range 8).filterMap (fun k =>
    let e := pr / 16 ^ k % 16
    if 8 ≤ e ∧ own.contains (Fin.ofNat 8 e) then some (Fin.ofNat 8 e) else none)
  ranked ++ own.filter (fun r => !ranked.contains r)

/-- A grant in flight is void: its phase is not an IDLE live one (Table 6.3, Table 7.4). -/
def State.void (s : State) (q : PsReq) : Bool :=
  q.op == .add && !(s.live (Fin.ofNat 32 q.ph) && (s.ph (Fin.ofNat 32 q.ph)).sw == .idle)
/-- REGION_ARBITRATION (R31, R32, R187): voided increases leave first; each request in order against the budget. -/
def State.arbitrate (s : State) (m : Fin 4) : State :=
  if !s.pow.cdUp || s.regionHeld m then s else
  let s : State := { s with br.c3 := s.br.c3.map (fun q => if s.void q then { q with rsv := 0 } else q) }
  let s := s.onPhases (fun s n => if (s.ph n).sw == .adding then s else s.modPh n (fun p => { p with rsv := 0 }))
  ((s.served m).foldl State.arbitrateRail s).putEst m

def execRegionArbitration (t : Nat) (m : Fin 4) (s : State) := run t (fun s => s.arbitrate m) s

/-- An added phase enters ADDING at its placed offset with trim 0 (R171, R181, R208). -/
def State.addPhase (s : State) (n : Fin 32) (rsv : Nat) : State :=
  let s := (s.setSw n .adding).modPh n (fun p => { p with
    acc := 0, periods := 0, rsv := rsv, skipFirst := true, leftAt := s.tick, seenAt := s.tick, ton := 0, pulse := false
    ended := true, cutNow := false, npkTri := false, triPend := false, braking := false, bstDue := false, ihat := s.getI F.PH_CUR_I_AVG n * 256 })
  (s.setI F.PH_PLACE_TRIM n 0).place (s.railOf n)

/-- A phase that a detector stopped refuses an add (Table 1.7), which is recorded under a code that the spec does not give. -/
def State.addRefused (s : State) (n : Fin 32) : State :=
  s.emit (s.stamp true Config.refusedAddCode.toNat n [(1, n.val)]) .none

/-- The addition of a KEEP_OFF phase overrides its request (R181). -/
def State.keepOffAdded (s : State) (n : Fin 32) (cause : Nat) : State :=
  s.when (s.flag F.PH_CFG_KEEP_OFF n) (fun s => (s.mark F.PH_STICKY_KEEPOFF_OVR n).logC 0x0607 n [(1, n.val), (2, cause)])
/-- PHASE_STATE_ACK (R154): the head of the class 3 requests takes effect; a stopped phase refuses it (Table 1.7). No
acknowledgement passes while a class 1 event waits (R16). -/
def State.phaseAck (s : State) : State :=
  if !s.rcd.c1q.isEmpty then s else
  match s.br.c3 with
  | [] => s
  | q :: rest =>
    let n : Fin 32 := Fin.ofNat 32 q.ph
    let s : State := { s with br.c3 := rest, br.c3Resends := 0 }
    match q.op with
    | .add =>
      if !s.live n then s.addRefused n
      else if (s.st (s.railOf n)).switching && (s.ph n).sw == .idle then (s.keepOffAdded n q.cause).addPhase n q.rsv
      else s
    | .shed =>
      if s.sheds (s.railOf n) && (s.ph n).sw == .active then
        (s.setSw n .shedding).modPh n (fun p => { p with shedFrom := s.getI F.PH_CUR_I_AVG n, periods := 0 })
      else s

def execPhaseStateAck (t : Nat) (s : State) := run t State.phaseAck s

/-- PHASE_SETTLED (R181): after OBS_SETTLE periods an added phase is ACTIVE; its increase leaves RSV (R187). -/
def State.phaseSettled (s : State) (n : Fin 32) : State :=
  if (s.ph n).sw == .adding && s.get F.PHC_OBS_OBS_SETTLE (s.railOf n) ≤ (s.ph n).periods then
    (s.setSw n .active).modPh n (fun p => { p with rsv := 0 })
  else s

def execPhaseSettled (t : Nat) (n : Fin 32) (s : State) := run t (fun s => s.phaseSettled n) s

/-! ## Shedding -/

/-- No add request, pre-positioning or large-signal action stands on the rail, which is in REG or SHED (R182). -/
def State.quiet (s : State) (r : Fin 8) : Bool :=
  s.pow.cdUp && !s.flag F.PHC_STATUS_ADD_PEND r && !s.prepos r && (s.fr r).ls == .none && (s.st r == .reg || s.st r == .shed)
/-- The shed conditions of R182. -/
def State.shedWanted (s : State) (r : Fin 8) : Bool :=
  let n := (s.switchingOf r).length
  s.quiet r && (s.eng r).iSF < ((n : Int) - 1) * s.shedEff r && s.nFloor r < n

/-- ACTIVE phases without a request in flight. -/
def State.freeActive (s : State) (r : Fin 8) : List (Fin 32) :=
  (s.phasesOf r).filter (fun n => (s.ph n).sw == .active && !s.br.c3.any (fun q => q.ph == n.val))

/-- The phase to shed (R183): in KEEP_OFF, else the hottest, ties to the higher rank. -/
def State.shedPick (s : State) (r : Fin 8) : Option (Fin 32) :=
  let act := s.freeActive r
  match act.find? (fun (n : Fin 32) => s.flag F.PH_CFG_KEEP_OFF n) with
  | some n => some n
  | none => firstBy (fun a b => if s.phTemp a != s.phTemp b then s.phTemp b < s.phTemp a else (s.ph b).rank < (s.ph a).rank) act

/-- Request the shed of a phase. -/
def State.requestShed (s : State) (n : Fin 32) : State := { s with br.c3 := s.br.c3 ++ [⟨.shed, n.val, 0, 0⟩] }

/-- SHED_DWELL_EXPIRY (R182, R183): the conditions have held for SHED_DWELL. -/
def State.shedDwell (s : State) (r : Fin 8) : State :=
  match (s.eng r).lowSince, s.shedPick r with
  | some t0, some n =>
    if s.shedWanted r && t0 + s.get F.PHC_TIME_SHED_DWELL r * 100000 ≤ s.now then
      (s.requestShed n).modEng r (fun g => { g with lowSince := some s.now })
    else s
  | _, _ => s

def execShedDwellExpiry (t : Nat) (r : Fin 8) (s : State) := run t (fun s => s.shedDwell r) s

/-- PHASE_SHED_COMPLETE (R183): at or below 2 A in a later period, or after 2 × SHED_RAMP periods, on a rail in REG or SHED (R155,
R190). Periods count from the end of the one in which the phase entered SHEDDING, which is the first (DESIGN CHOICE, log 171). -/
def State.shedDone (s : State) (n : Fin 32) : State :=
  let p := s.ph n
  if p.sw == .shedding && s.sheds (s.railOf n) && ((1 ≤ p.periods && s.getI F.PH_CUR_I_AVG n ≤ 16)
      || 2 * s.get F.PHC_TIME_SHED_RAMP (s.railOf n) ≤ p.periods) then
    (((s.look n).setSw n .idle).toLevel n .tri).place (s.railOf n)
  else s

def execPhaseShedComplete (t : Nat) (n : Fin 32) (s : State) := run t (fun s => s.shedDone n) s

/-- The conditions of R185 for diode emulation. -/
def State.deWanted (s : State) (r : Fin 8) : Bool :=
  s.quiet r && s.deAllowed r && (s.switchingOf r).length == s.nFloor r && (s.eng r).iSF < (s.cfg r).deEnter

/-- DE_ENTRY (R185): the conditions have held for DE_DWELL; refused in the update of a failure (Table 6.3). -/
def State.deEntry (s : State) (r : Fin 8) : State :=
  match (s.eng r).deSince with
  | some t0 =>
    if s.deWanted r && (s.fr r).failAt != some s.now && t0 + s.get F.PHC_TIME_DE_DWELL r * 100000 ≤ s.now then s.mark F.PHC_STATUS_DE_ACT r else s
  | none => s

def execDeEntry (t : Nat) (r : Fin 8) (s : State) := run t (fun s => s.deEntry r) s

/-! ## The 320 ns refresh -/

/-- The fold's step at a refresh (R137). -/
def State.foldStep (s : State) (r : Fin 8) : State :=
  if !s.flag F.ENG_STATUS_CL_ACT r then s.foldEngage r else
  let g := s.eng r
  let lim : Int := s.ilimRail r
  let st : Int := s.get F.ENG_CFG_CL_STEP r
  if lim < g.iSum then s.modEng r (fun g => { g with ceil := max (g.ceil - st) (-s.lowLim r) })
  else if g.iSum ≤ lim * 15 / 16 then
    let c := min (g.ceil + st) 32767
    let s := s.modEng r (fun g => { g with ceil := c })
    if c = 32767 then s.clear F.ENG_STATUS_CL_ACT r else s
  else s

/-- The load-line filter (R139). -/
def llFilter (iF iSum : Int) (tau : Nat) : Int := iF + asr (iSum * 256 - iF) tau

/-- The add rule (R179) at a refresh; a request whose condition no longer holds is withdrawn (R32). -/
def State.addRule (s : State) (r : Fin 8) : State :=
  let n := (s.switchingOf r).length
  let th := s.addEff r
  let i := (s.eng r).iSum
  let high := th != 0 && (n * th : Nat) < i && (s.st r).switching
  let s := s.modEng r (fun g => { g with addOver := if high then g.addOver + 1 else 0 })
  if high && 2 ≤ (s.eng r).addOver then
    s.requestAdd r (min (((i + th - 1) / th).toNat - n) (s.freeIdle r).length) none 1
  else if !high && (s.fr r).ls == .none && !s.flag F.ENG_STATUS_CL_ACT r && !(s.isMember r && s.cj.prepos) then
    (s.setB F.PHC_STATUS_ADD_PEND r (s.hintWant r != 0)).modEng r (fun g => { g with addWant := 0, addCost := 0 })
  else s

/-- Diode emulation ends above DE_EXIT at two refreshes, and while the rail pre-positions (R185). -/
def State.deExitRule (s : State) (r : Fin 8) : State :=
  let high := decide (((s.cfg r).deExit : Int) < (s.eng r).iSum)
  let s := s.modEng r (fun g => { g with deOver := if high then g.deOver + 1 else 0 })
  if s.flag F.PHC_STATUS_DE_ACT r && (2 ≤ (s.eng r).deOver || !s.deAllowed r || s.prepos r) then s.endDe r else s

/-- The dwell starts of R182 and R185. -/
def State.dwells (s : State) (r : Fin 8) : State :=
  let hold := fun (b : Bool) (o : Option Nat) => if b then some (o.getD s.now) else none
  s.modEng r (fun g => { g with lowSince := hold (s.shedWanted r) g.lowSince, deSince := hold (s.deWanted r) g.deSince })

/-- A KEEP_OFF phase that is ACTIVE is shed as soon as the floor allows and no add rule holds, with no dwell (R184; DEDUCED, log 172). -/
def State.keepOffShed (s : State) (r : Fin 8) : State :=
  if s.quiet r && (s.eng r).evtAt != some s.now && s.nFloor r < (s.switchingOf r).length && (s.eng r).addOver = 0 then
    match (s.freeActive r).find? (fun (n : Fin 32) => s.flag F.PH_CFG_KEEP_OFF n) with
    | some n => s.requestShed n
    | none => s
  else s

/-- I_SUM_REFRESH (R137, R139, R170, R179, R182, R184, R185, R187): the Control die takes the refreshed currents of a rail. -/
def State.refresh (s : State) (r : Fin 8) : State :=
  let sum := s.currentSum r
  let high := decide ((s.ilimSum r : Int) < sum)
  let s := s.modFr r (fun f => { f with isum := sum, ocAt := if high then some (f.ocAt.getD s.now) else none })
  let s := s.tlmAdd r sum
  let s := s.modEng r (fun g => { g with iF := llFilter g.iF sum (s.get F.LOADLINE_LL_TAU r) })
  if !s.pow.cdUp || s.mode == .caretaker then s else
  let s := s.modEng r (fun g => { g with
    iSum := sum, sumHist := (sum :: g.sumHist).take 8, iSF := g.iSF + asr (sum - g.iSF) 6 })
  let s := (((s.foldStep r).balance r).addRule r).deExitRule r
  ((s.dwells r).keepOffShed r).putEst (s.regionOf r)

def execISumRefresh (t : Nat) (r : Fin 8) (s : State) := run t (fun s => s.refresh r) s

/-! ## Sections -/

/-- PHASE section, phase record, items with a register field (Tables 6.5, 7.3). -/
def phaseItems : List Item :=
  [itC 1 1 0 31, itU 2 2 16 960 F.PH_CFG_ILIM_PHASE, itC 4 2 1000 20000, itC 6 2 10 2000, itU 8 1 0 255 F.PH_MODEL_R_PH,
   itU 9 1 1 15 F.PH_CFG_SHARE_W, itU 10 1 0 255 F.PH_CFG_PAIR_BUDGET, itB 11 1 1 1 0 1 F.PH_CFG_KEEP_OFF, itZ 11 1 2 6,
   itZ 12 4 0 32, itB 16 3 0 20 5120 85333 F.PWM_PERIOD_PERIOD, itZ 16 3 20 4, itU 19 1 0 128 F.PWM_TIME_BLANK,
   itU 20 1 0 80 F.PWM_TIME_MIN_ON, itU 21 1 8 80 F.PWM_TIME_MIN_OFF, itU 22 1 1 64 F.PWM_CTRL_BST_N,
   itU 23 1 16 80 F.PWM_TIME_BST_W, itU 24 1 1 255 F.PWM_CTRL_CUT_N, itB 25 1 0 1 0 1 F.PWM_CTRL_INVERT,
   itB 25 1 1 1 0 1 F.PWM_CTRL_SWAP, itB 25 1 2 1 0 1 F.PWM_CTRL_PAIR_LS_BOTH, itZ 25 1 3 5, itC 26 2 1 1000,
   itZ 28 1 4 3, itC 29 1 1 255, itC 30 1 1 255, itZ 31 1 0 8]

/-- Rail-wide items of a phase record, loaded once for the rail (Table 7.3). -/
def phaseRailItems : List Item :=
  [itU 26 2 1 1000 F.HIC_CFG_HIC_OFF, itB 28 1 0 4 0 15 F.HIC_CFG_HIC_RETRY, itB 28 1 7 1 0 1 F.HIC_CFG_HIC_UNLIM,
   itU 29 1 1 255 F.SEN_CFG_SEN_LEAD, itU 30 1 1 255 F.SEN_CFG_SEN_LAG]

/-- PHASE section, rail record, items with a register field (Table 6.6). -/
def phaseRecRailItems : List Item :=
  [itU 0 2 0 65535 F.PHC_HW_HW_ADD, itU 2 2 0 65535 F.PHC_HW_HW_SHED, itU 4 1 1 32 F.PHC_CTRL_MIN_ACTIVE,
   itU 5 1 1 32 F.PHC_CTRL_MIN_LIVE, itU 6 1 64 128 F.PHC_CTRL_FAIL_D, itC 7 1 0 15, itU 8 1 16 255 F.PHC_OBS_OBS_WIN,
   itB 9 1 0 4 1 15 F.PHC_OBS_OBS_N, itB 9 1 4 3 2 6 F.PHC_OBS_OBS_G, itZ 9 1 7 1, itU 10 1 1 64 F.PHC_OBS_OBS_SETTLE,
   itU 11 1 0 255 F.PHC_OBS_BAL_G, itC 12 2 0 2047, itU 14 1 1 64 F.PHC_TIME_SHED_RAMP,
   itU 15 1 1 255 F.PHC_TIME_SHED_DWELL, itB 18 1 7 1 0 1 F.PHC_CTRL_DE_ALLOW, itB 18 1 0 7 0 127 F.PHC_TIME_DE_MARGIN,
   itU 19 1 0 255 F.PHC_TIME_DE_DWELL, itZ 24 8 0 64]

/-- The observer gain of a phase record (R161), from its period in ticks: T_ns is PERIOD × 0.078125. -/
def gObs (period lnh : Nat) : Nat := (roundDiv ((period : Int) * 5 * 524288) (64 * 1000 * lnh)).toNat

/-- A phase record of an assigned phase keeps its rules (Tables 6.5, 7.3, R161). -/
def phaseRecOk (b : List Byte) : Bool :=
  itemsOk phaseItems b && (rdU b 0 1 ≤ 31 || (rdU b 0 1 == 255 && rdU b 10 1 == 0 && !bit (rdU b 25 1) 1))
    && (let g := gObs (bits (rdU b 16 3) 0 20) (rdU b 6 2); 0 < g && g < 2 ^ 24)

/-- A rail record of a rail with `n` phases and smallest limit `ilim` keeps its rules (Table 6.6, R178, R185). -/
def phaseRailOk (b : List Byte) (n ilim : Nat) : Bool :=
  itemsOk phaseRecRailItems b && rdU b 4 1 ≤ n && rdU b 5 1 ≤ n && rdU b 2 2 ≤ rdU b 0 2 * 7 / 8 && rdU b 0 2 ≤ ilim
    && (!bit (rdU b 18 1) 7 || (rdU b 20 2 < rdU b 22 2 && 1 ≤ rdU b 19 1))

/-- REGION section (Table 6.7). -/
def regionItems : List Item :=
  [itC 0 1 0 3, itZ 1 1 1 7, itU 2 2 1 0x7FFF F.RGN_BUDGET_IN_BUDGET, itU 4 2 0 0x7FFF F.RGN_CFG_IN_OFS,
   itU 6 2 0x4000 0x8000 F.RGN_CFG_IN_GAIN]

/-- The rails a REGION section ranks. -/
def regionPrio (b : List Byte) : List Nat := (slice b 8 8).map BitVec.toNat

/-- RGN_PRIO: nibble k holds rank k, bit 3 set when the rank is used; all 0 without PRIO_EN. -/
def prioWord (en : Bool) (l : List Nat) : Nat :=
  if en then (List.zip (List.range 8) l).foldl (fun a e => if e.2 < 8 then a + (8 + e.2) * 16 ^ e.1 else a) 0 else 0

end Sys2Proof.Machine
end

