-- ==== Sys2Proof/Machine/Pwm.lean ====
section
/-!
DEFINITION. The PWM generator: period starts and ends (R159, R173 to R177, R195 to R199, R207, R208, R211, R295), cuts (R209,
R210), the retry cycle (R212 to R215), TFLT latches (R216, R217), SEN (R218, R219), overrides (R203, R204), synchronisation
(R220 to R222), the start of ramps (R100, R126, R141, R155).
-/
namespace Sys2Proof.Machine

/-! ## Period start -/

/-- One period's part of a move from offset `a` to offset `b`: at most PERIOD / 16, the shorter way round (R177, R199). -/
def moveDelta (per a b : Nat) : Int :=
  let fwd := (b + per - a) % per
  let lim := per / 16
  if per = 0 then 0 else if fwd ≤ per - fwd then (min fwd lim : Nat) else -((min (per - fwd) lim : Nat) : Int)
/-- The offset after one period's part of a move. -/
def moveStep (per now aim : Nat) : Nat := if per = 0 then aim else (((now : Int) + moveDelta per now aim) % per).toNat

/-- The circular distance of two phase positions in ticks. -/
def circ (per a b : Nat) : Nat :=
  let d := (a + per - b) % per
  min d (per - d)

/-- Pair overlap of R174 for a phase that is partner B of a switching pair: the delay of its turn-on and the part of its on-time that is
cut off in this period. -/
def State.pairAdjust (s : State) (n : Fin 32) : State :=
  let p := s.ph n
  match s.partner n with
  | none => s
  | some a =>
    if !s.isB n || (s.fr (s.railOf n)).ls == .under then
      s.modPh n (fun q => { q with pairClamped := false, pairShift := 0, pairCut := 0 })
    else
      let per := s.period n
      let bud := s.get F.PH_CFG_PAIR_BUDGET n * 32
      let oa := s.posOf a
      let ob := s.posOf n
      let ta := (s.ph a).ton
      let lap := overlapTicks per oa ta ob p.ton
      let sh := if lap ≤ bud then 0 else min (lap - bud) (per / 4)
      let lap2 := overlapTicks per oa ta ((ob + sh) % per) p.ton
      let cut := lap2 - bud
      let s := s.stick F.PH_STICKY_PAIR_SHIFT n (sh != 0)
      let s := s.modPh n (fun q => { q with pairShift := sh, pairCut := cut, pairClamped := cut != 0 })
      if cut = 0 then s
      else (s.mark F.PH_STICKY_PAIR_CLAMP n).logF 0x0606 n [(1, n.val), (2, min cut 65535)]

/-- The first turn-on of a phase comes at least BST_W and 40 ns after it left tri-state, so that the refresh fits before it (R208). -/
def State.firstOk (s : State) (n : Fin 32) (tk : Nat) : Bool := decide ((s.ph n).leftAt + s.get F.PWM_TIME_BST_W n * 32 + 512 ≤ tk)

/-- The last tick up to now at which the counter of a phase passed 0. -/
def State.startTick (s : State) (n : Fin 32) : Nat :=
  (s.ph n).nextAt + s.period n * ((s.tick - (s.ph n).nextAt) / s.period n)
/-- A phase period ends and the next may start: the counter of a phase that is driven has passed 0 (R195, R196). -/
def State.passed (s : State) (n : Fin 32) : Bool :=
  decide ((s.ph n).nextAt ≤ s.tick) && s.period n != 0 && !(s.st (s.railOf n) == .ramp && !(s.fr (s.railOf n)).started)

/-- A phase that stops, or whose rail has ended its ramp down, goes to tri-state at its period start (R164, R204, R219). -/
def State.triStart (s : State) (n : Fin 32) (z : Nat) : State :=
  (s.modPh n (fun q => { q with triPend := false, cutNow := false, npkTri := false, pulse := false, onAt := z
                                nextAt := z + s.period n })).toLevelAt n .tri z

/-- A phase period starts at tick `z`: the move of the next start, the refresh that is due, Ton, the overlap of the pair, the pulse
(R174, R177, R196 to R199, R207, R208, R221). The move covers a placement and a move of the rail's period start together. -/
def State.startAt (s : State) (n : Fin 32) (z : Nat) : State :=
  let r := s.railOf n
  let per := s.period n
  let skip := (s.ph n).skipFirst && !s.firstOk n z
  let pos := since per (s.fr r).rcAt z
  let aim := s.get F.PH_PLACE_OFFSET n
  let w := max (s.get F.PWM_TIME_BST_W n) (s.get F.PWM_TIME_MIN_OFF n) * 32
  let s := s.modPh n (fun q => { q with
    ofsNow := moveStep per pos aim, onAt := z, nextAt := ((z + per : Nat) + moveDelta per pos aim).toNat, ended := false
    bstTill := if q.bstDue then z + w else q.bstTill, bstDue := false, applied := 0, hiFrom := z, pairShift := 0, pairCut := 0
    cutNow := false, cutAny := false, cutTflt := false, npkTri := false, lsSince := (s.fr r).ls != .none, skipFirst := skip
    cmpBad := s.flag F.REFIN_STATUS_REFIN_FAULT (s.regionOf r) })
  let s := (s.tonPhase r (if s.pnDrives r then (s.fr r).dPn else (s.fr r).duty) n).pairAdjust n
  let s := s.modPh n (fun q => { q with pulse := q.ton != 0 && !skip })
  let s := s.toLevelAt n (s.driveAt n z) z
  let s := s.modPh n (fun q => { q with seenAt := z, allHigh := s.level n == .high, switched := s.level n == .high })
  s.look n

/-- PHASE_PERIOD_START (R173, R174, R177, R196 to R202, R208): the counter of a driven phase has passed 0, and its period starts at that
tick. -/
def State.periodStart (s : State) (n : Fin 32) : State :=
  let p := s.ph n
  if !s.flag F.PH_STATE_ASSIGNED n || s.mode == .dormant || !(p.sw.switching || p.triPend) || !s.passed n then s
  else
    let z := s.startTick n
    let s := s.look n
    if p.triPend || s.heldTri n then s.triStart n z else s.startAt n z

def execPhasePeriodStart (t : Nat) (n : Fin 32) (s : State) := run t (fun s => s.periodStart n) s

/-! ## Period end -/

/-- The average-current window of a phase (R295). -/
def State.windowCount (s : State) (n : Fin 32) : State :=
  let r := s.railOf n
  let i := s.getI F.PH_CUR_I_AVG n
  if (s.fr r).ls != .none || (s.ph n).lsSince then s
  else if (s.get F.RP_PHW_PH_POS r : Int) < i ∨ i < -(s.get F.RP_PHW_PH_NEG r : Int) then s.inc F.PH_PROT_PHW_CNT n
  else s.set F.PH_PROT_PHW_CNT n 0

/-- FULL_CNT at a period end: a whole period of HIGH counts (R207). -/
def State.fullCount (s : State) (n : Fin 32) : State :=
  if (s.ph n).allHigh && s.level n == .high then s.inc F.PWM_STATUS_FULL_CNT n else s.set F.PWM_STATUS_FULL_CNT n 0
/-- The end of a period of a switching phase: observer, window, CUT_CNT, FULL_CNT, TON (R162, R163, R207, R211, R295). -/
def State.switchedEnd (s : State) (n : Fin 32) : State :=
  let s := ((s.cycleAverage n).observe n).windowCount n
  let p := s.ph n
  let s := if !p.cutAny && p.switched then s.set F.PWM_STATUS_CUT_CNT n 0 else s
  let s := (s.fullCount n).set F.PWM_TON_TON n p.ton
  s.modPh n (fun q => { q with periods := q.periods + 1, ended := true })
/-- PHASE_PERIOD_END (R159, R162, R163, R181, R183, R207, R211, R295): a switching phase ends the period that its counter's next pass of
0 closes, once. -/
def State.periodEnd (s : State) (n : Fin 32) : State :=
  if !s.flag F.PH_STATE_ASSIGNED n || s.mode == .dormant then s
  else if !(s.ph n).sw.switching then s.cycleAverage n
  else if (s.ph n).ended || !s.passed n then s
  else (s.look n).switchedEnd n

def execPhasePeriodEnd (t : Nat) (n : Fin 32) (s : State) := run t (fun s => s.periodEnd n) s

/-- PHASE_WINDOW_STOP (R295): the phase stops to the next PRECHECK; R166 steps 1, 4, 5 and R167 apply. -/
def State.windowStop (s : State) (n : Fin 32) : State :=
  let r := s.railOf n
  if (s.ph n).sw.switching && s.get F.RP_MISC_PHW_N r != 0 && s.get F.RP_MISC_PHW_N r ≤ s.get F.PH_PROT_PHW_CNT n then
    let s := (s.mark F.PH_PROT_PHW_STOP n).stopPhase n
    let s := s.logF 0x0A02 n [(1, n.val), (2, s.getI F.PH_CUR_I_AVG n), (1, s.get F.PH_PROT_PHW_CNT n)]
    if s.st r == .caretaken then s.checkMinLive r
    else (((s.noteRail r 1 (s.ceiling r)).failAlert r)).checkMinLive r
  else s

def execPhaseWindowStop (t : Nat) (n : Fin 32) (s : State) := run t (fun s => s.windowStop n) s

/-- BOOTSTRAP_REFRESH (R207): FULL_CNT has reached BST_N; the refresh follows from the next period start. -/
def State.bootRefresh (s : State) (n : Fin 32) : State :=
  if (s.ph n).sw.switching && s.get F.PWM_CTRL_BST_N n != 0 && s.get F.PWM_CTRL_BST_N n ≤ s.get F.PWM_STATUS_FULL_CNT n then
    let s := (s.set F.PWM_STATUS_FULL_CNT n 0).mark F.PWM_STICKY_REFRESH_S n
    (s.modPh n (fun p => { p with bstDue := true })).logF 0x0707 n [(1, n.val)]
  else s

def execBootstrapRefresh (t : Nat) (n : Fin 32) (s : State) := run t (fun s => s.bootRefresh n) s

/-! ## Cuts -/

/-- SEN of the phase's rail is high, so its TFLT ball is evaluated (R209). -/
def State.senHigh (s : State) (n : Fin 32) : Bool := s.flag F.SEN_CFG_SEN_STATE (s.railOf n)

/-- TFLT_FAULT (R209, R210): the filtered reading, fault or no fault; a fault outside blanking cuts. -/
def State.tfltRead (s : State) (n : Fin 32) (fault : Bool) : State :=
  if !s.senHigh n || s.mode == .dormant then s else
  let s := s.look n
  if fault then
    let s := (s.mark F.PWM_STATUS_TFLT_FAULT n).modPh n (fun p => { p with
      faultSince := some (p.faultSince.getD s.now), okSince := none })
    s.cut n 0
  else (s.clear F.PWM_STATUS_TFLT_FAULT n).modPh n (fun p => { p with
      faultSince := none, okSince := some (p.okSince.getD s.now) })

def execTfltFault (t : Nat) (n : Fin 32) (fault : Bool) (s : State) := run t (fun s => s.tfltRead n fault) s

/-- PEAK_CURRENT_TRIP (R210, R293): outside blanking, with PK_LIM in force. -/
def execPeakCurrentTrip (t : Nat) (n : Fin 32) (s : State) := run t (fun s => s.cut n 1) s

/-- NEG_PEAK_TRIP (R294): while the ball is LOW outside blanking; TRI until the next period start. -/
def State.negPeak (s : State) (n : Fin 32) : State :=
  let s := s.look n
  if s.get F.PKP_CFG_NPK_LIM n != 0 && s.level n == .low && !s.blanked n then
    let s := (s.modPh n (fun p => { p with npkTri := true })).toLevel n .tri
    (s.mark F.PH_PROT_NPK_S n).logF 0x0A01 n [(1, n.val)]
  else s

def execNegPeakTrip (t : Nat) (n : Fin 32) (s : State) := run t (fun s => s.negPeak n) s

/-- HICCUP_ESCALATION (R212, R215): CUT_CNT of a phase has reached CUT_N on a rail that runs. -/
def State.escalate (s : State) (n : Fin 32) : State :=
  let r := s.railOf n
  if s.flag F.PH_STATE_ASSIGNED n && s.get F.PWM_CTRL_CUT_N n != 0 && s.get F.PWM_CTRL_CUT_N n ≤ s.get F.PWM_STATUS_CUT_CNT n
      && ((s.st r).switching || s.st r == .caretaken) then s.retry r n.val
  else s

def execHiccupEscalation (t : Nat) (n : Fin 32) (s : State) := run t (fun s => s.escalate n) s

/-- The off-time of a rail in HICCUP, from the fast stop, in ns. -/
def State.hicOff (s : State) (r : Fin 8) : Nat := s.get F.HIC_CFG_HIC_OFF r * 1000000
/-- HICCUP_SEN_RAISE (R213): HIC_OFF − SEN_LEAD after the fast stop. -/
def State.hiccupSen (s : State) (r : Fin 8) : State :=
  if s.st r == .hiccup && !s.flag F.SEN_CFG_SEN_STATE r
      && decide ((s.fr r).hicAt + (s.hicOff r - s.get F.SEN_CFG_SEN_LEAD r * 1000) ≤ s.now) then
    (s.setSen r true).modFr r (fun f => { f with senAt := s.now, senLead := true })
  else s

def execHiccupSenRaise (t : Nat) (r : Fin 8) (s : State) := run t (fun s => s.hiccupSen r) s

/-- Latch a phase on its TFLT reading (R216, R217): its third latch within 1 s holds it to the next PRECHECK. -/
def State.latchTflt (s : State) (n : Fin 32) : State :=
  if s.flag F.PWM_STATUS_TFLT_LATCH n || !s.flag F.PH_STATE_ASSIGNED n then s else
  let times := ((s.now :: (s.ph n).tfltTimes).filter (fun x => s.now < x + 1000000000)).take 3
  let s := s.modPh n (fun p => { p with tfltTimes := times, tfltHeld := p.tfltHeld || 3 ≤ times.length })
  let s := ((s.mark F.PWM_STATUS_TFLT_LATCH n).mark F.PWM_STICKY_TFLT_LATCH_S n).set F.PWM_STATUS_TFLT_LATCH_N n times.length
  let s := ((s.stopPhase n).modPh n (fun p => { p with triPend := false })).toLevel n .tri
  let s := s.logF 0x0704 n [(1, n.val), (1, (s.st (s.railOf n)).code)]
  s.when (3 ≤ times.length) (fun s => s.logF 0x0706 n [(1, n.val)])

/-- A TFLT reading has stood for `d` ns with SEN high, from instant `t0` (R209, R216, R217). A reading that no command gave stands from
the exit of DORMANT (R85). -/
def State.tfltStood (s : State) (n : Fin 32) (t0 : Option Nat) (d : Nat) : Bool :=
  s.senHigh n && decide (max (t0.getD 0) (s.fr (s.railOf n)).senAt + d ≤ s.now)
/-- TFLT_LATCH (R216, R167): the fault reading has lasted 2 µs with SEN high. -/
def State.tfltLatch (s : State) (n : Fin 32) : State :=
  if s.flag F.PWM_STATUS_TFLT_FAULT n && s.tfltStood n (s.ph n).faultSince 2000 then
    (s.latchTflt n).checkMinLive (s.railOf n)
  else s

def execTfltLatch (t : Nat) (n : Fin 32) (s : State) := run t (fun s => s.tfltLatch n) s

/-- TFLT_LATCH_RELEASE (R217): no fault for 100 µs with SEN high; a phase held by its third latch stays STOPPED. -/
def State.tfltRelease (s : State) (n : Fin 32) : State :=
  if s.flag F.PWM_STATUS_TFLT_LATCH n && !s.flag F.PWM_STATUS_TFLT_FAULT n && !(s.ph n).tfltHeld
      && s.tfltStood n (s.ph n).okSince 100000 then
    ((s.clear F.PWM_STATUS_TFLT_LATCH n).unstop n).logF 0x0705 n [(1, n.val)]
  else s

def execTfltLatchRelease (t : Nat) (n : Fin 32) (s : State) := run t (fun s => s.tfltRelease n) s

/-! ## Ramps and stops -/

/-- A rail enters RAMP (R126, R155, R171, R211, R214): engine states and the fold start over, every live phase enters ADDING with its
balance at 0, CUT_CNT of its phases is 0, RETRY_CNT returns to 0 from ARMED. The ramp itself waits for the pre-bias sample (R141). -/
def State.enterRamp (s : State) (r : Fin 8) : State :=
  let s := s.when (s.st r == .armed) (fun s => s.set F.HIC_STATUS_RETRY_CNT r 0)
  let s := (s.setRail r .ramp).clear F.ENG_STATUS_CL_ACT r
  let s := s.modEng r (fun g => { g with
    ePrev := 0, i := 0, df := 0, u := 0, y := 0, uDem := 0, ut := 0, eLast := 0, ceil := 32767, hitHi := false, hitLo := false
    blkN := 0, blkSum := 0, blkDone := false, addWant := 0, addCost := 0, addOver := 0, openLoop := false, rampK := 0 })
  let s := s.modFr r (fun f => { f with started := false, ovRun := 0, ovaRun := 0, uvRun := 0, snsRun := 0, clipRun := 0 })
  let s := (s.phasesOf r).foldl (fun s (n : Fin 32) =>
    ((s.set F.PWM_STATUS_CUT_CNT n 0).setI F.PH_PLACE_TRIM n 0).modPh n (fun p => { p with acc := 0 })) s
  (s.liveOf r).foldl (fun s n => s.addPhase n 0) s

/-- The phases of a rail whose reading is fault are latched before a retry (R213). -/
def State.hicTflt (s : State) (r : Fin 8) : State :=
  (s.phasesOf r).foldl (fun s (n : Fin 32) => if s.flag F.PWM_STATUS_TFLT_FAULT n then s.latchTflt n else s) s

/-- HICCUP_RETRY (R213): HIC_OFF has elapsed with SEN high; faulted phases latch, then RAMP with enough live phases, else R167. A member
waits for RAILINFO instead (R476). -/
def State.hiccupRetry (s : State) (r : Fin 8) : State :=
  if s.st r != .hiccup || s.isMember r || !s.flag F.SEN_CFG_SEN_STATE r || decide (s.now < (s.fr r).hicAt + s.hicOff r) then s else
  let s := s.hicTflt r
  if s.get F.PHC_CTRL_MIN_LIVE r ≤ (s.liveOf r).length then s.enterRamp r else s.checkMinLive r

def execHiccupRetry (t : Nat) (r : Fin 8) (s : State) := run t (fun s => s.hiccupRetry r) s

/-- RETRY_CNT_CLEAR (R214): 1 s in REG or SHED with no cut. -/
def State.retryClear (s : State) (r : Fin 8) : State :=
  if (s.st r == .reg || s.st r == .shed) && (s.fr r).regAt + 1000000000 ≤ s.now then s.set F.HIC_STATUS_RETRY_CNT r 0 else s

def execRetryCntClear (t : Nat) (r : Fin 8) (s : State) := run t (fun s => s.retryClear r) s

/-- The rail's turn in the start order (R100): every earlier rail of the start has reached PGOOD or left the sequence, and
START_DELAY has elapsed since the last of these events. -/
def State.turnOf (s : State) (r : Fin 8) : Bool :=
  !(s.fr r).inStart || allRails.all (fun q =>
    !((s.cfg q).present && (s.cfg q).enabled && !s.isMember q && (s.fr q).inStart && decide ((s.cfg q).order < (s.cfg r).order))
      || (match (s.fr q).readyAt with
        | some x => x + (s.cfg r).delay * 10000 ≤ s.now
        | none => false))

/-- The link lets the rail ramp in its own start order (R476): the leader's spanning rail once every controller in MEMBERS is
joined and reports READY; a member's part ramps on RAILINFO only. -/
def State.linkAllows (s : State) (r : Fin 8) : Bool :=
  !(s.cfg r).spans || (s.flag F.CJ_CFG_LEADER && [1, 2, 3].all (fun c =>
    !(s.get F.CJ_CFG_MEMBERS).testBit c || (let p := s.cj.peers.getD c {}; p.joined && !p.lost && p.ready)))

/-- RAIL_START_TURN (R100, R134, R141, R167, R218): an ARMED rail whose tests passed, SEN_LEAD elapsed and turn came enters RAMP with
enough live phases. -/
def State.startTurn (s : State) (r : Fin 8) : State :=
  let run := s.mode == .softstart || s.mode == .regulate || s.mode == .shed || s.mode == .hiccup
  if run && s.st r == .armed && (s.fr r).passed && (s.fr r).senLead && (s.eng r).vinAt.isSome
      && !s.flag F.MODE_STATUS_SHUTDOWN_ACT && s.turnOf r && s.linkAllows r then
    if s.get F.PHC_CTRL_MIN_LIVE r ≤ (s.liveOf r).length then s.enterRamp r else s.checkMinLive r
  else s

def execRailStartTurn (t : Nat) (r : Fin 8) (s : State) := run t (fun s => s.startTurn r) s

/-- RAMP_START (R141, R208): the pre-bias sample, `code` the largest whole code not above it; the phases leave tri-state. -/
def State.rampStart (s : State) (r : Fin 8) (code : Nat) : State :=
  if s.st r == .ramp && !(s.fr r).started && s.mode != .caretaker then
    let t0 := min code (s.get F.SP_STATUS_SP_TGT r)
    let s := (s.modFr r (fun f => { f with started := true })).modEng r (fun g => { g with rampT0 := t0, rampK := 0, dac := t0, startCode := t0 })
    let s := s.modSp r (fun q => { q with acc := t0 * 128 })
    let s := (s.switchingOf r).foldl (fun s n => s.modPh n (fun p => { p with leftAt := s.tick, seenAt := s.tick })) s
    (s.place r).takeSet r
  else s

def execRampStart (t : Nat) (r : Fin 8) (code : BitVec 12) (s : State) := run t (fun s => s.rampStart r code.toNat) s

/-- SEN_LEAD_ELAPSED (R218): SEN of an ARMED rail has been high for SEN_LEAD. -/
def State.senLeadDone (s : State) (r : Fin 8) : State :=
  if s.st r == .armed && s.flag F.SEN_CFG_SEN_STATE r && decide ((s.fr r).senAt + s.get F.SEN_CFG_SEN_LEAD r * 1000 ≤ s.now) then
    s.modFr r (fun f => { f with senLead := true })
  else s

def execSenLeadElapsed (t : Nat) (r : Fin 8) (s : State) := run t (fun s => s.senLeadDone r) s

/-- Every phase of the rail is in tri-state, and has been for SEN_LAG (R219). -/
def State.lagPast (s : State) (r : Fin 8) : Bool :=
  (s.phasesOf r).all (fun n => !(s.ph n).triPend && s.level n == .tri
    && decide ((s.ph n).triAt + s.get F.SEN_CFG_SEN_LAG r * 12800 ≤ s.tick))
/-- SOFT_STOP_SEN_FALL (R219, R288): SEN_LAG after the last phase went to tri-state, SEN falls and the rail enters OFF, or
LATCHED with its fault. -/
def State.senFall (s : State) (r : Fin 8) : State :=
  if s.st r == .rampdown && (s.fr r).fallAt.isSome && s.lagPast r then
    let k := (s.fr r).stop
    let c := (s.fr r).stopCause
    let s := s.triRail r
    match k with
    | .toOff => s.railOff r
    | .toLatched => s.latchNow r c
  else s

def execSoftStopSenFall (t : Nat) (r : Fin 8) (s : State) := run t (fun s => s.senFall r) s

/-! ## Overrides -/

/-- A FORCE_TRI write acts (R204): 1 stops the phase from its next period start, 0 returns it to IDLE. -/
def State.forceTri (s : State) (n : Fin 32) (b : Bool) : State :=
  if b then
    let s := s.mark F.PWM_CTRL_FORCE_TRI n
    if s.flag F.PH_STATE_ASSIGNED n then (s.stopPhase n).checkMinLive (s.railOf n) else s
  else
    let s := s.clear F.PWM_CTRL_FORCE_TRI n
    if s.flag F.PH_STATE_ASSIGNED n then s.unstop n else s

/-- An INVERT write may act (R203): the rail OFF in SERVICE. -/
def State.overrideOk (s : State) (n : Fin 32) : Bool := s.mode == .service && s.st (s.railOf n) == .off

/-- A refused override (R203): OVR_REJ and record 0x070A; `field` 0 INVERT, 1 SWAP. -/
def State.overrideRefused (s : State) (n : Fin 32) (field : Nat) : State :=
  (s.mark F.PWM_STICKY_OVR_REJ n).logF 0x070A n [(1, n.val), (2, field), (1, (s.st (s.railOf n)).code)]

/-! ## Synchronisation -/

/-- The rails that follow SYNCI. -/
def State.syncRails (s : State) : List (Fin 8) := allRails.filter (fun r => (s.get F.SYNC_STATUS_SYNC_RAILS).testBit r.val)
/-- The PERIOD of the rails that follow SYNCI (they share one, R221). -/
def State.syncPeriod (s : State) : Nat :=
  match s.syncRails with
  | r :: _ => match s.phasesOf r with
    | n :: _ => s.get F.PWM_PERIOD_PERIOD n
    | [] => 0
  | [] => 0

/-- A measured period lies within ±10 % of PERIOD. -/
def near10 (per m : Nat) : Bool := per * 9 ≤ m * 10 && m * 10 ≤ per * 11

/-- The followed rails keep their present count when their period changes (R222), and are placed anew with it (R221): `f` changes the
period. -/
def State.rePeriod (s : State) (f : State → State) : State :=
  let s' := f (s.syncRails.foldl (fun s r => s.modFr r (fun x => { x with rcAt := s.tick - s.rc r })) s)
  s'.syncRails.foldl State.place s'

/-- SYNCI is lost (R222), `cause` 1 when no edge arrived in time, 2 when the period left ±10 %: the rails go on with PERIOD. -/
def State.syncGone (s : State) (cause : Nat) : State :=
  let s := s.rePeriod (fun s => s.clear F.SYNC_STATUS_SYNCI_PRESENT)
  let s := (s.clear F.SYNC_STATUS_SYNC_LOCK).mark F.SYNC_STATUS_SYNC_LOST
  State.logF { s with pow.syncHist := [] } 0x0709 0 [(3, s.get F.SYNC_STATUS_PER_MEAS), (2, cause)]

/-- The distance of a rail's period start from its aim, SYNC_DLY after the edge (R221). -/
def State.syncErr (s : State) (edge : Nat) (r : Fin 8) : Nat :=
  circ (s.railPeriod r) ((s.fr r).rcAt % s.railPeriod r) ((edge + s.get F.SYNC_CFG_SYNC_DLY) % s.railPeriod r)
/-- The period start of a followed rail moves toward its aim by at most PERIOD / 16 (R221). -/
def State.syncMove (s : State) (edge : Nat) (r : Fin 8) : State :=
  let per := s.railPeriod r
  let d := moveDelta per ((s.fr r).rcAt % per) ((edge + s.get F.SYNC_CFG_SYNC_DLY) % per)
  s.modFr r (fun f => { f with rcAt := ((f.rcAt + per : Nat) + d).toNat })

/-- A qualifying edge (R221): PER_MEAS is in force, the lock follows the distance that the edge finds, and the period starts move. -/
def State.syncGood (s : State) (edge m : Nat) : State :=
  let s := s.rePeriod (fun s => (s.set F.SYNC_STATUS_PER_MEAS 0 m).mark F.SYNC_STATUS_SYNCI_PRESENT)
  let err := s.syncRails.foldl (fun (a : Nat) r => max a (s.syncErr edge r)) 0
  let s := if err ≤ 32 && !s.flag F.SYNC_STATUS_SYNC_LOCK then (s.mark F.SYNC_STATUS_SYNC_LOCK).logF 0x0708 0 [(3, m)]
    else s.when (128 < err) (fun s => s.clear F.SYNC_STATUS_SYNC_LOCK)
  s.syncRails.foldl (fun s r => s.syncMove edge r) s

/-- No edge came within 1.5 × PER_MEAS of the previous one (R222). -/
def State.syncLate (s : State) (tk : Nat) : Bool :=
  s.pow.syncAt.any (fun a => decide (2 * a + 3 * s.get F.SYNC_STATUS_PER_MEAS < 2 * tk))

/-- SYNCI_EDGE (R85, R221, R222): the edge lies `sub` ticks into the nanosecond of the command, and is resolved 2 ticks before its own
to 2 after it (`off` 0 to 4: the 200 ps of R504). PER_MEAS is the mean of four periods, truncated (DESIGN CHOICE, log 168). -/
def State.syncEdge (s : State) (sub off : Nat) : State :=
  if !s.flag F.SYNC_CFG_SYNC_EN || s.mode == .dormant || s.mode == .wake then s else
  let edge := s.tick + sub % 13 + min off 4 - 2
  let s := s.when (s.flag F.SYNC_STATUS_SYNCI_PRESENT && s.syncLate edge) (fun s => s.syncGone 1)
  let h := match s.pow.syncAt with
    | none => []
    | some a => ((edge - a) :: s.pow.syncHist).take 4
  let s : State := { s with pow.syncAt := some edge, pow.syncHist := h }
  let m := h.foldl (· + ·) 0 / 4
  if h.length < 4 then s
  else if near10 s.syncPeriod m then s.syncGood edge m
  else if s.flag F.SYNC_STATUS_SYNCI_PRESENT then (s.set F.SYNC_STATUS_PER_MEAS 0 m).syncGone 2
  else s.set F.SYNC_STATUS_PER_MEAS 0 m

def execSynciEdge (t : Nat) (sub : BitVec 4) (off : BitVec 3) (s : State) := run t (fun s => s.syncEdge sub.toNat off.toNat) s

/-- SYNCI_LOST (R222): `late`, 1.5 × PER_MEAS have passed since the last edge; otherwise PER_MEAS is off PERIOD by more than 10 %. -/
def State.syncLost (s : State) (late : Bool) : State :=
  if !s.flag F.SYNC_STATUS_SYNCI_PRESENT then s
  else if late then s.when (s.syncLate s.tick) (fun s => State.syncGone { s with pow.syncAt := none } 1)
  else s.when (!near10 s.syncPeriod (s.get F.SYNC_STATUS_PER_MEAS)) (fun s => s.syncGone 2)

def execSynciLost (t : Nat) (late : Bool) (s : State) := run t (fun s => s.syncLost late) s

end Sys2Proof.Machine
end

