-- ==== Sys2Proof/Machine/Setpoint.lean ====
section
/-!
DEFINITION. Set-points: the checks of R231, windows (R232), the selector balls (R234 to R237), the set-point items of a
RAIL section (R259).
-/
namespace Sys2Proof.Machine

/-! ## Checks -/

/-- The source of a command is enabled for the rail (R230, R231): 1 VSEL, 2 AL0, 3 AL1, 4 host, 5 service. -/
def State.srcOn (s : State) (r : Fin 8) (src : Nat) : Bool := src == 5 || (s.get F.SP_CTRL_SRC_EN r).testBit (src - 1)

/-- The window of a source: P1 in force, P2, or the outer window (Table 8.1). -/
def State.window (s : State) (r : Fin 8) (src : Nat) : Nat × Nat :=
  let q := (s.rail r).sp
  if src == 5 then (q.spMin, q.spMax)
  else if src == 4 then (q.p2Min, q.p2Max)
  else (s.get F.SP_WIN_P1_MIN r, s.get F.SP_WIN_P1_MAX r)

/-- The set-point side of a rail with the present update opened: SP_TGT, its owner and its limit as they stand at its start. -/
def State.spNow (s : State) (r : Fin 8) : SetPt :=
  let q := (s.rail r).sp
  if q.upd = s.upd then q else { q with
    upd := s.upd, tgt0 := s.get F.SP_STATUS_SP_TGT r, own0 := s.get F.SP_STATUS_SP_OWNER r, lim0 := q.slewLim, cmds := [] }

/-- A code is within the P1 step of the target that the update started with, where the source is a P1 source with a limit (R231). -/
def State.stepOk (s : State) (r : Fin 8) (src code : Nat) : Bool :=
  let st := (s.rail r).sp.p1Step
  let tgt := (s.spNow r).tgt0
  4 ≤ src || st == 0 || (code ≤ tgt + st && tgt ≤ code + st)

/-- The device mode accepts a set-point command (R231 item 4). -/
def State.spMode (s : State) (src : Nat) : Bool :=
  s.mode == .precheck || s.mode.running || (s.mode == .service && src == 5)

/-- The rail state accepts a set-point command (R231 item 5). -/
def RailState.takesSp : RailState → Bool
  | .off | .armed | .ramp | .reg | .shed | .hiccup => true
  | _ => false

/-- The state of a rail `lead` ns ago, at the answer of the frame that ends now (R247). -/
def State.stAt (s : State) (r : Fin 8) (lead : Nat) : RailState := if s.now < (s.fr r).wasAt + lead then (s.fr r).was else s.st r

/-- The first check of R231 that fails with the rail in state `st`, by its code of Table 8.7: ACCESS 3, STATE 4, WINDOW 5. -/
def State.spCheckIn (s : State) (r : Fin 8) (src code : Nat) (st : RailState) : Option Nat :=
  let w := s.window r src
  if !s.srcOn r src then some 3
  else if !s.spMode src || !st.takesSp then some 4
  else if !(w.1 ≤ code && code ≤ w.2) || !s.stepOk r src code then some 5
  else none
/-- The first check of R231 that fails now. -/
def State.spCheck (s : State) (r : Fin 8) (src code : Nat) : Option Nat := s.spCheckIn r src code (s.st r)

/-! ## Acceptance -/

/-- SPMOVED to every port in use that serves the rail, but for the port that sent the command (Table 8.9). -/
def State.spMoved (s : State) (r : Fin 8) (own : Option (Fin 2)) : State :=
  let word := 6 * 2 ^ 28 + r.val * 2 ^ 25 + s.get F.SP_STATUS_SP_OWNER r * 2 ^ 12 + s.get F.SP_STATUS_SP_TGT r
  allPorts.foldl (fun s p => if s.serves p r && own != some p then s.noteOn p ⟨6, r.val, word⟩ else s) s

/-- SP_TGT changes to a code, with the slew limit of R229: `slew` is that of a SETV frame, 0 for any other command. -/
def State.putTgt (s : State) (r : Fin 8) (code slew : Nat) : State :=
  let same := code == s.get F.SP_STATUS_SP_TGT r
  let s := s.modSp r (fun q => { q with
    slewLim := if slew != 0 then some slew else if same then q.slewLim else none })
  s.set F.SP_STATUS_SP_TGT r code

/-- The order of R233: selector balls, Aedat port 1, Aedat port 0, host or service. -/
def spRank (src : Nat) : Nat := if src = 1 then 0 else if src = 3 then 1 else if src = 2 then 2 else 3
/-- A command takes its place among those of the update. -/
def spInsert (c : Nat × Nat × Nat) : List (Nat × Nat × Nat) → List (Nat × Nat × Nat)
  | [] => [c]
  | d :: l => if spRank c.1 < spRank d.1 then c :: d :: l else d :: spInsert c l
/-- The commands of the update are applied in their order to what it started with: each writes SP_TGT and sets SP_OWNER; the last
stands (R231, R233). -/
def State.spApply (s : State) (r : Fin 8) (q : SetPt) : State :=
  let s := s.modSp r (fun _ => { q with slewLim := q.lim0 })
  let s := (s.set F.SP_STATUS_SP_TGT r q.tgt0).set F.SP_STATUS_SP_OWNER r q.own0
  q.cmds.foldl (fun s c => (s.putTgt r c.2.1 c.2.2).set F.SP_STATUS_SP_OWNER r c.1) s

/-- An accepted command (R231). -/
def State.spAccept (s : State) (r : Fin 8) (src code slew : Nat) : State :=
  let own : Option (Fin 2) := if src == 2 then some 0 else if src == 3 then some 1 else none
  let q := s.spNow r
  (s.spApply r { q with cmds := spInsert (src, code, slew) q.cmds }).spMoved r own

/-- Record 0x0801: a command refused. -/
def State.spRefusedRec (s : State) (r : Fin 8) (src reason code : Nat) : State :=
  s.logC 0x0801 r [(2, src), (1, r.val), (2, reason), (2, code)]

/-- A host or service command refused: SP_REJ and record 0x0801. -/
def State.spRefused (s : State) (r : Fin 8) (src reason code : Nat) : State :=
  (s.mark F.SP_CTRL_SP_REJ r).spRefusedRec r src reason code

/-! ## The P1 window (R232) -/

/-- The P1 window may be narrowed so. -/
def State.winOk (s : State) (r : Fin 8) (lo hi : Nat) : Bool :=
  s.imgGet F.SP_WIN_P1_MIN r ≤ lo && hi ≤ s.imgGet F.SP_WIN_P1_MAX r && lo ≤ hi

/-- Record 0x0809. -/
def State.winRec (s : State) (r : Fin 8) (lo hi person refused : Nat) : State :=
  s.logC 0x0809 r [(1, r.val), (2, lo), (2, hi), (1, person), (2, refused)]

/-- What a new window makes of an update: SP_TGT moves to the nearer edge where a P1 source or the boot value owns it, and a selector
command of the same update is checked against the new window (R232, Table 8.12). -/
def State.winMove (s : State) (r : Fin 8) (lo hi : Nat) : SetPt :=
  let q := s.spNow r
  let c := min (max q.tgt0 lo) hi
  let q := if q.own0 ≤ 3 && c != q.tgt0 then { q with tgt0 := c, lim0 := none } else q
  let st := q.p1Step
  { q with cmds := q.cmds.filter (fun e => e.1 != 1
      || (lo ≤ e.2.1 && e.2.1 ≤ hi && (st == 0 || (e.2.1 ≤ q.tgt0 + st && q.tgt0 ≤ e.2.1 + st)))) }
/-- An accepted window. -/
def State.winWrite (s : State) (r : Fin 8) (lo hi person : Nat) : State :=
  let q0 := s.spNow r
  let s := (s.set F.SP_WIN_P1_MIN r lo).set F.SP_WIN_P1_MAX r hi
  let s := s.winRec r lo hi person 0
  let s := s.noteRail r 2 (hi * 2 ^ 12 + lo)
  let tgt := s.get F.SP_STATUS_SP_TGT r
  let q := s.winMove r lo hi
  let s := s.when (q.cmds.length < q0.cmds.length)
    (fun s => (s.mark F.SP_CTRL_VSEL_REJ r).logC 0x0803 r [(2, s.get F.VSEL_STATUS_CODE), (1, r.val), (2, 5)])
  let s := (s.spApply r q).when (q.tgt0 != q0.tgt0) (fun s => s.mark F.SP_CTRL_WIN_MOVED r)
  s.when (s.get F.SP_STATUS_SP_TGT r != tgt) (fun s => s.spMoved r none)

/-! ## Selector balls -/

/-- The selector command of one rail (R236). -/
def State.vselRail (s : State) (code : Nat) (r : Fin 8) : State :=
  if !(s.get F.SP_CTRL_SRC_EN r).testBit 0 then s else
  let e := (s.rail r).sp.vsel.getD code (false, 0)
  match (if e.1 then s.spCheck r 1 e.2 else some 8) with
  | none => s.spAccept r 1 e.2 0
  | some why => (s.mark F.SP_CTRL_VSEL_REJ r).logC 0x0803 r [(2, code), (1, r.val), (2, why)]

/-- The VSEL balls are read: CFG3 b2 is 1, the filter is loaded, the Control die runs and the pads are supplied (R46, R235, R237). -/
def State.vselOn (s : State) : Bool :=
  (s.get F.STRAP_STATUS_CFG3_CODE).testBit 2 && s.get F.VSEL_STATUS_VSEL_FILT != 0 && s.pow.cdUp && s.mode != .caretaker
    && s.flag F.SUPPLY_STATUS_AL_IO_GOOD

/-- The reading of one VSEL receiver (Table 8.2) from its last one and the input in thousandths of VAL: 0 MID, 1 LOW, 2 HIGH. -/
def vselBand (old x : Nat) : Nat :=
  if old = 1 ∧ x ≤ 400 then 1
  else if old = 2 ∧ 600 ≤ x then 2
  else if x < 300 then 1 else if 700 < x then 2 else 0
/-- The readings of the four balls, as VSEL_STATUS.BALLS packs them; VSEL0 first in the list. -/
def vselReads (old : Nat) (x : List Nat) : Nat :=
  (List.range 4).foldl (fun a i => a + vselBand (bits old (2 * i) 2) (x.getD i 0) * 4 ^ i) 0
/-- The code that readings show (R235): valid only while all four balls read LOW or HIGH. -/
def vselCode (b : Nat) : Option Nat :=
  if (List.range 4).all (fun i => bits b (2 * i) 2 != 0) then
    some ((List.range 4).foldl (fun a i => a + (if bits b (2 * i) 2 = 2 then 2 ^ i else 0)) 0)
  else none
/-- The receivers take a reading of their balls (R234). -/
def State.vselTake (s : State) (x : List Nat) : State :=
  let b := vselReads s.pow.vselRd x
  State.set { s with pow.vselRd := b, pow.vselTold := s.pow.vselTold && (vselCode b).isNone } F.VSEL_STATUS_BALLS 0 b

/-- A code is accepted: the first since PARSE, or one that differs from the last, is a command for every rail with SRC_VSEL. -/
def State.vselCommand (s : State) (code : Nat) : State :=
  let new := !s.flag F.VSEL_STATUS_ACCEPTED || s.get F.VSEL_STATUS_CODE != code
  let s := (s.set F.VSEL_STATUS_CODE 0 code).mark F.VSEL_STATUS_ACCEPTED
  if new then s.onRails (fun s r => s.vselRail code r) else s

/-- The readings of the selector balls, VSEL0 first. -/
def vselList (x : VselRead) : List Nat := [x.x0.toNat, x.x1.toNat, x.x2.toNat, x.x3.toNat]

/-- VSEL_CODE_ACCEPT (R235): the inputs have shown one valid code for VSEL_FILT, not counted from before the filter was loaded. -/
def State.vselAccept (s : State) (x : List Nat) : State :=
  if !s.vselOn then s else
  let s := s.vselTake x
  match vselCode s.pow.vselRd with
  | some c => if s.now < s.pow.vselAt + s.get F.VSEL_STATUS_VSEL_FILT * 100 then s else s.vselCommand c
  | none => s

def execVselCodeAccept (t : Nat) (x : VselRead) (s : State) := run t (fun s => s.vselAccept (vselList x)) s

/-- VSEL_INVALID (R235): the balls read no valid code for 1 ms, told once in an episode; the previous selection stands. An episode ends
with a valid reading (DEDUCED, log 174). -/
def State.vselInvalid (s : State) (x : List Nat) : State :=
  if !s.vselOn then s else
  let s := s.vselTake x
  if s.pow.vselTold || (vselCode s.pow.vselRd).isSome then s else
  State.logC { s.mark F.VSEL_STATUS_VSEL_INV with pow.vselTold := true } 0x0802 0 [(1, s.pow.vselRd)]

def execVselInvalid (t : Nat) (x : VselRead) (s : State) := run t (fun s => s.vselInvalid (vselList x)) s

/-! ## RAIL section, bytes 48 to 103 (Table 8.14) -/

/-- Items with a register field. -/
def railSpItems : List Item :=
  [itU 88 2 0 4095 F.SP_WIN_P1_MIN, itU 90 2 0 4095 F.SP_WIN_P1_MAX, itC 80 2 0 4095, itC 82 2 0 4095, itC 84 2 0 4095,
   itC 86 2 0 4095, itC 92 2 0 4095, itU 94 1 1 255 F.SP_CTRL_SLEW_UP, itU 95 1 1 255 F.SP_CTRL_SLEW_DN,
   itB 96 1 0 4 0 15 F.SP_CTRL_SRC_MASK, itZ 96 1 4 4, itB 97 1 0 2 0 3 F.SP_CTRL_AL_SERVE, itZ 97 1 2 6, itZ 98 6 0 48]

/-- Entry `i` of the VSEL table: VALID and code. -/
def vselEntry (b : List Byte) (i : Nat) : Bool × Nat :=
  let w := rdU b (48 + 2 * i) 2
  (w.testBit 15, w % 4096)

/-- The set-point rules of a RAIL section (R230, R237, R259); `boot` is BOOT_CODE, `cfg3` the code of strap CFG3. -/
def railSpRules (b : List Byte) (boot cfg3 : Nat) : Bool :=
  let ports := if cfg3.testBit 1 then 3 else 1
  let src := rdU b 96 1
  let serve := rdU b 97 1
  let lo := rdU b 88 2
  let hi := rdU b 90 2
  rdU b 80 2 ≤ rdU b 84 2 && rdU b 84 2 ≤ lo && lo ≤ boot && boot ≤ hi && hi ≤ rdU b 86 2 && rdU b 86 2 ≤ rdU b 82 2
    && (cfg3.testBit 2 || !src.testBit 0)
    && (!src.testBit 1 || serve.testBit 0) && (!src.testBit 2 || serve.testBit 1) && serve &&& ports == serve
    && (List.range 16).all (fun i =>
      rdU b (48 + 2 * i) 2 / 4096 % 8 == 0 && (!(vselEntry b i).1 || (lo ≤ (vselEntry b i).2 && (vselEntry b i).2 ≤ hi)))

/-- Load the set-point side of a rail: windows, sources, BOOT_CODE as the target with owner 0 (R227, R230). -/
def State.loadSp (s : State) (r : Fin 8) (b : List Byte) (boot : Nat) : State :=
  let s := s.loadItems railSpItems r b
  let s := s.load F.SP_CTRL_SRC_EN r (rdU b 96 1)
  let s := s.modSp r (fun q => { q with
    acc := boot * 128, slewLim := none, upd := 0, vsel := (List.range 16).map (vselEntry b), spMin := rdU b 80 2, spMax := rdU b 82 2
    p2Min := rdU b 84 2, p2Max := rdU b 86 2, p1Step := rdU b 92 2 })
  (s.set F.SP_STATUS_SP_TGT r boot).set F.SP_STATUS_SP_OWNER r 0

end Sys2Proof.Machine
end

