-- ==== Sys2Proof/Machine/Tense.lean ====
section
/-!
DEFINITION. Load hints: acceptance (R266), the timed steps of an entry (R270, R272, R276), the early miss (R274), the context
commands (R277), and the TENSE section (R285).
-/
namespace Sys2Proof.Machine

/-- TOKEN_SWEEP (R265): the background sweep refills one context. -/
def State.sweep (s : State) (x : Nat) : State := if s.pow.cdUp && s.get F.TN_RATE_TK_REFILL != 0 then s.ctxRefill x else s

def execTokenSweep (t : Nat) (x : BitVec 15) (s : State) := run t (fun s => s.sweep x.toNat) s

/-! ## Acceptance -/

/-- A5 of a port's answer (R245, R282): credit returns are withheld, or its context after a refill is muted or without a token. -/
def State.throt (s : State) (p : Fin 2) : Bool :=
  let x := s.get F.AL_STATUS_CTX_ID p
  let s' := s.ctxRefill x
  s.withheld || s'.muted x || (s'.ctx x).tk == 0

/-- The checks of Table 9.2 for a HINT after the refill of its context, by the codes of Table 8.7; `serves` says that the port
serves the rail, `st` the rail's state. -/
def State.hintCheck (s : State) (r : Fin 8) (x lead : Nat) (serves : Bool) (st : RailState) : Option Nat :=
  let c := s.ctx x
  if !serves || !s.tnOn r || s.isMember r || ((s.cfg r).spans && s.flag F.CJ_STATUS_PEER_LOST) then some 3
  else if (st != .reg && st != .shed) || s.mode == .service then some 4
  else if c.tk = 0 || s.get F.TN_RATE_LEAD_MAX * 100 < lead || 64 ≤ (s.hints r).length then some 6
  else if c.valid = 15 then some 7
  else none

/-- The first free slot of a ring from WP on (R264). -/
def freeOf (c : Ctx) : Nat :=
  (((List.range 4).map (fun k => (c.wp + k) % 4)).find? (fun k => !c.valid.testBit k)).getD c.wp

/-- An accepted hint with nonzero amplitude: one token, one slot, one schedule entry (R264, R265, R268). -/
def State.hintTake (s : State) (r : Fin 8) (x : Nat) (word : Nat) : State :=
  let a := toS 12 (bits word 17 12)
  let lead := bits word 0 17
  if a = 0 then s else
  let c := s.ctx x
  let k := freeOf c
  let s := s.putCtx x { c with tk := c.tk - 1, wp := (k + 1) % 4, valid := c.valid ||| 2 ^ k }
  let s : State := { s with rings := s.rings.set (4 * x + k) word }
  s.putHints r (s.hints r ++ [{ ctx := x, slot := k, a := a, due := (s.tnow + lead) % 2 ^ 32 }])

/-- An acknowledged UNHINT (R269). It comes before a rise of the same update (Table 9.6). -/
def State.unhint (s : State) (r : Fin 8) (x : Nat) : State :=
  let s := s.ctxCheck x
  let s := s.retire r (fun h => h.ctx == x && (h.st == .waiting || (h.riseUpd == s.upd && !h.scored && h.c == 0)))
  (s.unwindMiss r (fun h => h.ctx == x && h.up)).putF r

/-! ## Timed steps -/

/-- The entry of a context's slot on a rail. -/
def State.hintOf (s : State) (r : Fin 8) (x k : Nat) : Option Hint := (s.hints r).find? (fun h => h.ctx == x && h.slot == k)
/-- Change one entry. -/
def State.modHint (s : State) (r : Fin 8) (x k : Nat) (f : Hint → Hint) : State :=
  s.putHints r ((s.hints r).map (fun h => if h.ctx == x && h.slot == k then f h else h))

/-- The effective amplitude (R270). -/
def State.aeff (s : State) (r : Fin 8) (h : Hint) : Int :=
  let cap : Int := s.get F.TN_HCAP_HINT_CAP r
  satI (-cap) cap (trunc0 (h.a * (s.ctx h.ctx).w) 64)

/-- The phases that an entry asks for (R272). -/
def State.hintNeed (s : State) (r : Fin 8) (h : Hint) : Nat :=
  let th := s.addEff r
  if th = 0 then 0 else
  min (((s.eng r).iSF + s.aeff r h + th - 1) / th - (s.switchingOf r).length).toNat (s.idleOf r).length
/-- An entry pre-positions (R272, R273): diode emulation ends, the shed dwell restarts, and its phases are asked for. -/
def State.hintRequest (s : State) (r : Fin 8) (h : Hint) : State :=
  let k := if s.pow.cdUp then s.hintNeed r h else 0
  let s := (s.addEvent r).modHint r h.ctx h.slot (fun h => { h with want := k })
  s.when (k != 0) (fun s => s.mark F.PHC_STATUS_ADD_PEND r)

/-- HINT_PHASE_REQUEST (R270, R272): ADD_LEAD before the due time, a positive entry of a trusted context asks once. -/
def State.hintAsk (s : State) (r : Fin 8) (x k : Nat) : State :=
  let s := s.ctxCheck x
  match s.hintOf r x k with
  | none => s
  | some h =>
    if s.tnOn r && h.st == .waiting && 0 < h.a && !s.muted x && !h.asked && s.reached h.due (-(s.get F.TN_TIME_ADD_LEAD r * 100 : Nat)) then
      (s.modHint r x k (fun h => { h with asked := true })).hintRequest r h
    else s

def execHintPhaseRequest (t : Nat) (r : Fin 8) (x : BitVec 15) (slot : Fin 4) (s : State) :=
  run t (fun s => s.hintAsk r x.toNat slot) s

/-- HINT_RISE (R270, R273, R276): the entry takes its base and AEFF and rises, or is a shadow entry of a muted context. One whose hold
is already over falls in that update from contribution 0, so to SCORING. -/
def State.hintRise (s : State) (r : Fin 8) (x k : Nat) : State :=
  let s := s.ctxCheck x
  match s.hintOf r x k with
  | none => s
  | some h =>
    if s.tnOn r && h.st == .waiting && s.reached h.due (-(s.get F.TN_SLEW_RAMP_ADV r * 2 : Nat)) then
      let mut_ := s.muted x
      let a := s.aeff r h
      let m := s.iMean r
      let late := s.reached h.due (s.get F.TN_TIME_HOLD_T r * 10)
      let s := s.modHint r x k (fun h => { h with
        base := m, aeff := a, riseUpd := s.upd, st := if mut_ || late then .scoring else .rising })
      if mut_ || h.a ≤ 0 then s
      else if h.asked then s.addEvent r else s.hintRequest r h
    else s

def execHintRise (t : Nat) (r : Fin 8) (x : BitVec 15) (slot : Fin 4) (s : State) := run t (fun s => s.hintRise r x.toNat slot) s

/-- HINT_HOLD_END (R270). -/
def State.hintHoldEnd (s : State) (r : Fin 8) (x k : Nat) : State :=
  match s.hintOf r x k with
  | none => s
  | some h =>
    if s.tnOn r && h.up && s.reached h.due (s.get F.TN_TIME_HOLD_T r * 10) then
      s.modHint r x k (fun h => { h with st := .falling })
    else s

def execHintHoldEnd (t : Nat) (r : Fin 8) (x : BitVec 15) (slot : Fin 4) (s : State) := run t (fun s => s.hintHoldEnd r x.toNat slot) s

/-- The early miss of R274 acts on an entry at this update: it is risen, or was unwound by a trip of the same update (Table 9.6). -/
def State.early (s : State) (r : Fin 8) (h : Hint) : Bool :=
  (h.up || (h.tripUpd == s.upd && !h.scored))
    && ((decide (4 ≤ (s.eng r).missPos) && decide (0 < h.a)) || (decide (4 ≤ (s.eng r).missNeg) && decide (h.a < 0)))

/-- HINT_SCORE (R270, R275): an entry not yet scored is judged at its score time, as a miss where the early miss acts on it in the same
update (Table 9.6); at contribution 0 it retires. -/
def State.hintScore (s : State) (r : Fin 8) (x k : Nat) : State :=
  match s.hintOf r x k with
  | none => s
  | some h =>
    if s.tnOn r && !h.scored && s.reached h.due (s.get F.TN_TIME_CONF_T r * 100) then
      let s := (s.modHint r x k (fun h => { h with scored := true })).judge r x (hitOf h (s.iMean r) && !s.early r h)
      s.retire r (fun h => h.st == .scoring && h.scored)
    else s

def execHintScore (t : Nat) (r : Fin 8) (x : BitVec 15) (slot : Fin 4) (s : State) := run t (fun s => s.hintScore r x.toNat slot) s

/-- EARLY_MISS (R274): four consecutive updates against the hint current. -/
def State.earlyMiss (s : State) (r : Fin 8) : State :=
  if 4 ≤ (s.eng r).missPos || 4 ≤ (s.eng r).missNeg then
    let s := s.mark F.TN_STAT_EARLY_MISS_S r
    let s := s.unwindMiss r (s.early r)
    s.logC 0x0904 r [(1, r.val), (2, s.getI F.TN_STAT_F r)]
  else s

def execEarlyMiss (t : Nat) (r : Fin 8) (s : State) := run t (fun s => s.earlyMiss r) s

/-! ## Context commands (R277) -/

/-- TN_CTX_SEL.CMD acts: 1 W to W_INIT, 2 W to 0 with the risen entries unwinding unscored, 3 the entries removed unscored. -/
def State.ctxCmd (s : State) (cmd x person : Nat) : State :=
  if cmd = 0 then s else
  let s := s.ctxCheck x
  let c := s.ctx x
  let s := if cmd = 1 then s.putCtx x { c with w := s.get F.TN_WEIGHT_W_INIT }
    else if cmd = 2 then
      (s.putCtx x { c with w := 0 }).onRails (fun s r =>
        s.putHints r ((s.hints r).map (fun h => if h.ctx == x && h.up then h.unwind true else h)))
    else
      s.onRails (fun s r =>
        let s := s.retire r (fun h => h.ctx == x && h.c == 0)
        s.putHints r ((s.hints r).map (fun h => if h.ctx == x then h.unwind true else h)))
  s.logC 0x0907 0 [(2, x), (1, cmd), (1, person)]

/-! ## TENSE section -/

/-- Bytes 0 to 15 (Table 9.8). -/
def tenseItems : List Item :=
  [itU 0 1 0 255 F.TN_WEIGHT_W_INIT, itU 1 1 0 255 F.TN_WEIGHT_W_UP, itU 2 1 1 255 F.TN_WEIGHT_W_DN,
   itU 3 1 1 255 F.TN_WEIGHT_W_FLOOR, itU 4 1 1 15 F.TN_RATE_TK_MAX, itU 5 1 1 255 F.TN_RATE_TK_REFILL,
   itU 6 2 1 1310 F.TN_RATE_LEAD_MAX, itZ 8 8 0 64]

/-- A rail record (Table 9.9). -/
def tenseRailItems : List Item :=
  [itC 0 1 0 1, itU 1 1 1 255 F.TN_SLEW_PRE_SLEW, itU 2 1 1 255 F.TN_SLEW_UNW_SLEW, itU 3 1 1 255 F.TN_SLEW_DEC_SLEW,
   itU 4 1 0 255 F.TN_SLEW_RAMP_ADV, itU 5 1 0 255 F.TN_TIME_ADD_LEAD, itU 6 1 1 255 F.TN_TIME_HOLD_T,
   itU 7 1 1 255 F.TN_TIME_CONF_T, itU 8 1 1 63 F.TN_TIME_MISS_TH, itZ 9 1 0 8, itU 10 2 0 0x7FFF F.TN_HCAP_HINT_CAP,
   itU 12 2 0 0x7FFF F.TN_CAP_F_POS_CAP, itU 14 2 0 0x7FFF F.TN_CAP_F_NEG_CAP]

/-- The rules of a rail record across its items (R285); `enabled` says that the image enables the rail. -/
def tenseRailRules (b : List Byte) (enabled : Bool) : Bool :=
  (rdU b 0 1 == 0 || enabled) && rdU b 3 1 ≤ rdU b 2 1 && rdU b 6 1 < rdU b 7 1 * 10

end Sys2Proof.Machine
end

