-- ==== Sys2Proof/Machine/Protect.lean ====
section
/-!
DEFINITION. Error samples and large-signal actions (R119, R146 to R149, R180, R314, R315), rail windows and power good (R296 to
R302), sense plausibility (R307 to R310), references (R311 to R313), REFIN (R305), pre-start tests (R316, R317), clears (R292).
-/
namespace Sys2Proof.Machine

/-! ## References of the windows (R296) -/

/-- The Front die's load-line term (R140). -/
def State.fLlt (s : State) (r : Fin 8) : Int := min (lltRaw (s.eng r).iF (s.copy F.LOADLINE_LL_R r)) 20480

/-- Note the DAC code of a rail when it changes, keeping what the longest lag of 63 µs can reach. -/
def State.noteDac (s : State) (r : Fin 8) : State :=
  let c := s.dacCode r
  match (s.fr r).dacHist with
  | [] => s.modFr r (fun f => { f with dacHist := [(s.now, c)] })
  | (t0, c0) :: l =>
    if c0 = c then s
    else
      let l := (t0, c0) :: l
      let recent := l.takeWhile (fun e => s.now < e.1 + 63000)
      s.modFr r (fun f => { f with dacHist := (s.now, c) :: (recent ++ (l.drop recent.length).take 1) })

/-- The DAC codes held during the last `us` microseconds. -/
def State.heldCodes (s : State) (r : Fin 8) (us : Nat) : List Nat :=
  let l := (s.fr r).dacHist
  let recent := l.takeWhile (fun e => s.now < e.1 + us * 1000)
  s.dacCode r :: (recent ++ (l.drop recent.length).take 1).map (·.2)
/-- OVREF: the largest code of the last OV_LAG. -/
def State.ovRef (s : State) (r : Fin 8) : Nat := (s.heldCodes r (s.get F.RP_TRACK_OV_LAG r)).foldl max 0
/-- UVREF: the smallest code of the last UV_LAG. -/
def State.uvRef (s : State) (r : Fin 8) : Nat := (s.heldCodes r (s.get F.RP_TRACK_UV_LAG r)).foldl min 4095

/-- V_OV in units of 1/64 µV. -/
def State.vOv (s : State) (r : Fin 8) : Int :=
  (s.ovRef r : Int) * 40000 - s.fLlt r * 500 + s.get F.RP_WIN_OV_TH r * 160000
/-- V_UV in units of 1/64 µV. -/
def State.vUv (s : State) (r : Fin 8) : Int :=
  (s.uvRef r : Int) * 40000 - s.fLlt r * 500 - s.get F.RP_WIN_UV_TH r * 160000

/-! ## Large-signal actions -/

/-- `e − LLT` of the sample in force, in Q1.15 units. -/
def State.lsErr (s : State) (r : Fin 8) : Int := (s.fr r).code * 64 - s.fLlt r

/-- A large-signal action ends; the engine's duty words apply again, and a phase that was held LOW turns on at its next period start
(R149, R202). -/
def State.lsEnd (s : State) (r : Fin 8) : State :=
  let s := (s.lookRail r).endLs r
  let s := (s.phasesOf r).foldl (fun s n => s.modPh n (fun p => { p with pulse := p.pulse && s.level n == .high })) s
  s.redriveRail r

/-- A large-signal trip (R147, R148): every switching phase drives at once, diode emulation ends (R185), hints against it
unwind (R274); an undershoot requests every IDLE live phase (R180). -/
def State.lsTrip (s : State) (r : Fin 8) (under : Bool) : State :=
  let s := (s.lookRail r).modFr r (fun f => { f with ls := if under then .under else .over, lsAt := s.now, upRun := 0, dnRun := 0 })
  let s := s.mark (if under then F.ENG_STATUS_LSU_ACT else F.ENG_STATUS_LSD_ACT) r
  let s := s.mark (if under then F.ENG_STICKY_LSU_S else F.ENG_STICKY_LSD_S) r
  let s := (s.phasesOf r).foldl (fun s n => s.modPh n (fun p => { p with lsSince := true })) s
  let s := ((s.addEvent r).tripHints r (!under)).redriveRail r
  if under then s.requestAdd r (s.idleOf r).length none 2 else s

/-- The large-signal comparison at one sample (R146, R149, R308). While an undershoot action goes on, a phase whose minimum off-time has
ended drives HIGH again (R147, R210). After an end by LS_MAX the comparison runs on, and only the trip waits (R149). -/
def State.lsSample (s : State) (r : Fin 8) : State :=
  let d := s.lsErr r
  let up : Int := s.get F.LS_CFG_LS_UP_TH r
  let dn : Int := s.get F.LS_CFG_LS_DN_TH r
  match (s.fr r).ls with
  | .crowbar => s
  | .under => if |d| ≤ up / 2 * 256 then s.lsEnd r else s.redriveRail r
  | .over => if |d| ≤ dn / 2 * 256 then s.lsEnd r else s
  | .none =>
    let aux := s.flag F.RP_STATUS_SNS_AUX r
    let u := if up != 0 && !aux && up * 256 < d then min 2 ((s.fr r).upRun + 1) else 0
    let o := if dn != 0 && d < -(dn * 256) then min 2 ((s.fr r).dnRun + 1) else 0
    let s := s.modFr r (fun f => { f with upRun := u, dnRun := o })
    if 2 ≤ u && (s.fr r).noUpTill ≤ s.now then s.lsTrip r true
    else if 2 ≤ o && (s.fr r).noDnTill ≤ s.now then s.lsTrip r false else s

/-! ## One sample -/

/-- The rail switches, under either loop. -/
def State.drives (s : State) (r : Fin 8) : Bool := (s.st r).switching || s.st r == .caretaken

/-- The window readings at one sample (R297, R299); 2 mV of hysteresis toward the inside. -/
def State.windows (s : State) (r : Fin 8) (vs va : Int) : State :=
  let vOv := s.vOv r
  let vUv := s.vUv r
  let ovF := s.get F.RP_WIN_OV_FILT r
  let f := s.fr r
  let abs : Int := (s.get F.RP_TRACK_OV_ABS r * 625 : Nat)
  let ov := if vOv < vs * 64 then f.ovRun + 1 else 0
  let oa := if abs < vs ∨ abs < va then f.ovaRun + 1 else 0
  let s := s.modFr r (fun f => { f with ovRun := min ov 255, ovaRun := min oa 255, ovaVsa := decide (vs ≤ abs ∧ abs < va) })
  let s := if ovF != 0 && ovF ≤ ov then s.mark F.RP_STATUS_OV_RD r
    else if vs * 64 < vOv - 128000 then s.clear F.RP_STATUS_OV_RD r else s
  let uvOn := s.st r == .reg || s.st r == .shed || s.st r == .caretaken
  let uv := if uvOn && vs * 64 < vUv then f.uvRun + 1 else 0
  let s := s.modFr r (fun f => { f with uvRun := min uv 2000 })
  if !uvOn then s.clear F.RP_STATUS_UV_RD r
  else if s.get F.RP_WIN_UV_FILT r != 0 && s.get F.RP_WIN_UV_FILT r * 5 ≤ uv then
    if s.flag F.RP_STATUS_UV_RD r then s else (s.mark F.RP_STATUS_UV_RD r).modFr r (fun f => { f with uvAt := s.now })
  else if vUv + 128000 < vs * 64 then s.clear F.RP_STATUS_UV_RD r else s

/-- An over-voltage reading is outside. -/
def State.ovOut (s : State) (r : Fin 8) : Bool :=
  s.flag F.RP_STATUS_OV_RD r || (s.get F.RP_WIN_OV_FILT r != 0 && s.get F.RP_WIN_OV_FILT r ≤ (s.fr r).ovaRun)

/-- The last 64 samples, oldest last, are frozen (R309): each code within 1 LSB of the first, duty words that differ by `lim`. -/
def frozen (l : List (Int × Nat)) (lim : Nat) : Bool :=
  let c0 := (l.getLastD (0, 0)).1
  let hi := l.foldl (fun a e => max a e.2) 0
  let lo := l.foldl (fun a e => min a e.2) 65535
  l.length == 64 && l.all (fun e => decide (|e.1 - c0| ≤ 1)) && decide (lo + lim ≤ hi)
/-- The frozen-feedback rule at one sample (R309): every run of 64 samples counts. -/
def State.frozenSample (s : State) (r : Fin 8) : State :=
  s.modFr r (fun f =>
    let l := ((f.code, f.duty) :: f.frz).take 64
    { f with frz := l, frzDone := f.frzDone || frozen l (s.get F.RP_SENSE_FRZ_DUTY r) })

/-- The time since which VSP − VSN and VSA lie below half the OV reference (R298). -/
def State.crowbarLow (s : State) (r : Fin 8) (vs va : Int) : State :=
  let half : Int := s.ovRef r * 625
  let low := decide (vs * 2 < half ∧ va * 2 < half)
  s.modFr r (fun f => { f with cbLowAt := if low then some (f.cbLowAt.getD s.now) else none })

/-- The error code of a sample (R119): `v` is the sense in use, in µV. -/
def State.codeOf (s : State) (r : Fin 8) (v : Int) : Int := satI (-511) 511 (roundDiv ((s.dacCode r : Int) * 625 - v) 500)

/-- ERROR_SAMPLE (R119, R146, R296 to R299, R307, R309, R310): `vs` is VSP − VSN and `va` is VSA − AGND, in µV. -/
def State.errorSample (s : State) (r : Fin 8) (vs va : Int) : State :=
  if s.mode == .dormant || s.mode == .wake || !(s.cfg r).present then s else
  let s := (s.noteDac r).modFr r (fun f => { f with vs := vs, va := va })
  let aux := s.flag F.RP_STATUS_SNS_AUX r
  let sw := s.drives r
  let out := sw && !aux && decide ((s.get F.RP_SENSE_SNS_WIN r * 5000 : Int) < |vs - va|)
  let c := if out then (s.fr r).code else s.codeOf r (if aux then va else vs)
  let s := s.modFr r (fun f => { f with
    code := c, snsRun := if out then f.snsRun + 1 else 0
    clipRun := if sw && aux && (c == 511 || c == -511) then f.clipRun + 1 else 0 })
  let s := (s.windows r vs va).crowbarLow r vs va
  let s := if s.ovOut r || s.flag F.RP_STATUS_UV_RD r
    then (s.clear F.RP_STATUS_PGOOD_ST r).modFr r (fun f => { f with pgAt := s.now }) else s
  if sw then (s.frozenSample r).lsSample r else s

def execErrorSample (t : Nat) (r : Fin 8) (vs va : Int) (s : State) := run t (fun s => s.errorSample r vs va) s

/-- LS_MAX_EXPIRY (R149): the same direction cannot trip again for 1 µs. -/
def State.lsMax (s : State) (r : Fin 8) : State :=
  let f := s.fr r
  if (f.ls == .under || f.ls == .over) && f.lsAt + s.get F.LS_CFG_LS_MAX r * 20 ≤ s.now then
    (s.lsEnd r).modFr r (fun g => if f.ls == .under then { g with noUpTill := s.now + 1000 } else { g with noDnTill := s.now + 1000 })
  else s

def execLsMaxExpiry (t : Nat) (r : Fin 8) (s : State) := run t (fun s => s.lsMax r) s

/-! ## Braking (R148, R315) -/

/-- Record 0x0A12 and its sticky flag. -/
def State.brakeRec (s : State) (r : Fin 8) (cause : Nat) : State :=
  (s.mark F.RP_STICKY_BRK_INH_S r).logF 0x0A12 r [(1, r.val), (2, cause)]

/-- Some phase of the rail reports BRK_TMAX or more. -/
def State.brakeHot (s : State) (r : Fin 8) : Bool :=
  (s.phasesOf r).any (fun n => (s.get F.RP_MISC_BRK_TMAX r * 8 : Int) ≤ s.phTemp n)

/-- BRAKE_START (R148, R315): the overshoot still holds BRAKE_DLY after the trip; phases with positive observed current go to
tri-state. -/
def State.brakeStart (s : State) (r : Fin 8) : State :=
  let f := s.fr r
  let w := (s.now - s.pow.tnow0) / 1000000
  let s := s.modFr r (fun f => if f.brkWin == w then f else { f with brkWin := w, brkN := 0 })
  if !(f.ls == .over && s.flag F.LS_CFG_BRAKE_EN r && decide (f.lsAt + s.get F.LS_CFG_BRAKE_DLY r * 20 ≤ s.now)
      && decide (s.lsErr r < -(s.get F.LS_CFG_LS_DN_TH r * 256 : Int)) && !s.flag F.RP_STATUS_SNS_AUX r
      && !s.flag F.ENG_STATUS_BRAKE_ACT r && !s.flag F.RP_STATUS_BRK_INH r) then s
  else if s.brakeHot r then
    if f.brkRec != 0 && s.now < f.brkRec + 1000000 then s
    else (s.brakeRec r 2).modFr r (fun f => { f with brkRec := s.now })
  else
    let s := s.modFr r (fun f => { f with brkN := f.brkN + 1 })
    let s := s.lookRail r
    let s := (s.switchingOf r).foldl (fun s n => if 0 < (s.ph n).ihat then s.modPh n (fun p => { p with braking := true }) else s) s
    let s := (((s.mark F.ENG_STATUS_BRAKE_ACT r).mark F.ENG_STICKY_BRAKE_S r).logF 0x0505 r [(1, r.val)]).redriveRail r
    if s.get F.RP_MISC_BRK_N r ≤ (s.fr r).brkN then
      ((s.mark F.RP_STATUS_BRK_INH r).brakeRec r 1).modFr r (fun f => { f with
        brkTill := s.pow.tnow0 + (w + 1) * 1000000 + 10000000 })
    else s

def execBrakeStart (t : Nat) (r : Fin 8) (s : State) := run t (fun s => s.brakeStart r) s

/-- BRAKE_INHIBIT_END (R315). -/
def State.brakeInhEnd (s : State) (r : Fin 8) : State :=
  if s.flag F.RP_STATUS_BRK_INH r && (s.fr r).brkTill ≤ s.now then
    (s.clear F.RP_STATUS_BRK_INH r).modFr r (fun f => { f with brkN := 0 })
  else s

def execBrakeInhibitEnd (t : Nat) (r : Fin 8) (s : State) := run t (fun s => s.brakeInhEnd r) s

/-! ## Windows -/

/-- PGOOD is driven low (R300). -/
def State.pgLow (s : State) (r : Fin 8) : State := s.clear F.RP_STATUS_PGOOD_ST r

/-- RAIL_OVERVOLTAGE (R297, R298): the crowbar starts; it replaces any large-signal action and ends braking (R321). -/
def State.overvoltage (s : State) (r : Fin 8) : State :=
  if s.flag F.SEN_CFG_SEN_STATE r && s.ovOut r && (s.fr r).ls != .crowbar then
    let a := s.get F.RP_WIN_OV_FILT r ≤ (s.fr r).ovaRun
    let s := ((s.lookRail r).mark (if a then F.RP_STICKY_OVABS_S else F.RP_STICKY_OV_S) r).endLs r
    let s := ((s.mark F.RP_STATUS_CB_ACT r).pgLow r).modFr r (fun f => { f with
      ls := .crowbar, cbAt := s.now, cbCause := if a then 2 else 1, cbLowAt := none, brkRec := f.brkRec })
    let s := (s.phasesOf r).foldl (fun s n => s.modPh n (fun p => { p with pulse := false, lsSince := true })) s
    s.redriveRail r
  else s

def execRailOvervoltage (t : Nat) (r : Fin 8) (s : State) := run t (fun s => s.overvoltage r) s

/-- CROWBAR_END (R298): low for 1 µs or CB_MAX; the rail fast-stops and latches. -/
def State.crowbarEnd (s : State) (r : Fin 8) : State :=
  let f := s.fr r
  let low := match f.cbLowAt with
    | some t0 => decide (t0 + 1000 ≤ s.now)
    | none => false
  if f.ls == .crowbar && (low || f.cbAt + s.get F.RP_TIME_CB_MAX r * 1000 ≤ s.now) then
    let us := min 65535 ((s.now - f.cbAt) / 1000)
    let s := if f.cbCause = 2 then s.logF 0x0A04 r [(1, r.val), (2, b2n f.ovaVsa), (2, us)]
      else s.logF 0x0A03 r [(1, r.val), (2, s.ovRef r), (2, us)]
    s.railLatch r f.cbCause true
  else s

def execCrowbarEnd (t : Nat) (r : Fin 8) (s : State) := run t (fun s => s.crowbarEnd r) s

/-- The under-voltage reading is outside; it is evaluated in REG, SHED and CARETAKEN only (R299). -/
def State.uvOut (s : State) (r : Fin 8) : Bool :=
  s.flag F.RP_STATUS_UV_RD r && (s.st r == .reg || s.st r == .shed || s.st r == .caretaken)
/-- RAIL_UNDERVOLTAGE (R299, R300). -/
def State.undervoltage (s : State) (r : Fin 8) : State :=
  if s.uvOut r then
    ((s.mark F.RP_STICKY_UV_S r).pgLow r).logF 0x0A05 r [(1, r.val), (2, s.uvRef r), (2, 0)]
  else s

def execRailUndervoltage (t : Nat) (r : Fin 8) (s : State) := run t (fun s => s.undervoltage r) s

/-- UV_HICCUP_TIMEOUT (R299, R302): the fast stop and the retry logic; no phase reached CUT_N, so 0xFF stands for it. -/
def State.uvTimeout (s : State) (r : Fin 8) : State :=
  if s.uvOut r && s.get F.RP_TIME_UV_HIC_T r != 0
      && (s.fr r).uvAt + s.get F.RP_TIME_UV_HIC_T r * 100000 ≤ s.now then
    (s.logF 0x0A05 r [(1, r.val), (2, s.uvRef r), (2, 1)]).retry r 255
  else s

def execUvHiccupTimeout (t : Nat) (r : Fin 8) (s : State) := run t (fun s => s.uvTimeout r) s

/-- PGOOD_RELEASE (R300). -/
def State.pgRelease (s : State) (r : Fin 8) : State :=
  if (s.st r == .reg || s.st r == .shed || s.st r == .caretaken) && !s.ovOut r && !s.flag F.RP_STATUS_UV_RD r
      && (s.fr r).pgAt + s.get F.RP_TIME_PG_DLY r * 10000 ≤ s.now then
    (s.mark F.RP_STATUS_PGOOD_ST r).leftStart r
  else s

def execPgoodRelease (t : Nat) (r : Fin 8) (s : State) := run t (fun s => s.pgRelease r) s

/-- RAIL_OVERCURRENT (R301, R302). -/
def State.overcurrent (s : State) (r : Fin 8) : State :=
  match (s.fr r).ocAt with
  | some t0 =>
    if s.drives r && t0 + s.get F.RP_TIME_OC_SUST r * 10000 ≤ s.now then
      let s := (s.mark F.RP_STICKY_OC_S r).logF 0x0A06 r [(1, r.val), (2, satS 16 (s.fr r).isum), (2, s.ilimSum r)]
      (s.retry r 255).modFr r (fun f => { f with ocAt := none })
    else s
  | none => s

def execRailOvercurrent (t : Nat) (r : Fin 8) (s : State) := run t (fun s => s.overcurrent r) s

/-- BUS_OVERVOLTAGE (R303). -/
def State.busOver (s : State) : State :=
  if 2 ≤ s.pow.busOvRun then
    ((s.mark F.PROT_STATUS_BUS_OV_ACT).logF 0x0A0B 0 [(2, s.pow.busV)]).deviceLatch 2
  else s

def execBusOvervoltage (t : Nat) (s : State) := run t State.busOver s

/-! ## REFIN (R305) -/

/-- The comparator of a region reads outside (R305). -/
def refinOut (mv : Nat) : Bool := mv < 600 || 1500 < mv
/-- The reading of a round lies more than 50 mV from REFIN_REF, which the pre-start tests measured (R305). -/
def State.refinFar (s : State) (m : Fin 4) (mv : Nat) : Bool :=
  let r := s.get F.REFIN_STATUS_REFIN_REF m
  r != 0 && decide (50 < ((mv : Int) - r).natAbs)
/-- The region holds an assigned phase. -/
def State.hasPhases (s : State) (m : Fin 4) : Bool :=
  allPhases.any (fun (n : Fin 32) => s.flag F.PH_STATE_ASSIGNED n && s.regionOf (s.railOf n) == m)
/-- REFIN_FAULT: `mv` is the reading, of the comparator or of the round. A region without assigned phases raises none. What the end of the
fault waits for is kept: the last outside reading, and whether a good round has followed. -/
def State.refinFault (s : State) (m : Fin 4) (mv : Nat) : State :=
  if s.mode == .dormant || s.mode == .wake || !s.hasPhases m || !(refinOut mv || s.refinFar m mv) then s else
  let s : State := { s with
    th.refinOk := s.th.refinOk.set m.val false
    th.refinAt := if refinOut mv then s.th.refinAt.set m.val s.now else s.th.refinAt }
  if s.flag F.REFIN_STATUS_REFIN_FAULT m then s
  else
    let s := (s.mark F.REFIN_STATUS_REFIN_FAULT m).mark F.REFIN_STATUS_REFIN_FAULT_S m
    let s := s.onPhases (fun s n => if s.regionOf (s.railOf n) == m then s.modPh n (fun p => { p with cmpBad := true }) else s)
    s.logF 0x0A0A m [(1, m.val), (2, min mv 65535), (2, s.get F.REFIN_STATUS_REFIN_REF m)]

def execRefinFault (t : Nat) (m : Fin 4) (mv : Nat) (s : State) := run t (fun s => s.refinFault m mv) s

/-- REFIN_FAULT_END (R305): 1 ms of inside readings and a good round. -/
def State.refinEnd (s : State) (m : Fin 4) : State :=
  s.when (s.th.refinOk.getD m.val true && decide (s.th.refinAt.getD m.val 0 + 1000000 ≤ s.now))
    (fun s => s.clear F.REFIN_STATUS_REFIN_FAULT m)
def execRefinFaultEnd (t : Nat) (m : Fin 4) (s : State) := run t (fun s => s.refinEnd m) s

/-! ## Sense plausibility -/

/-- The open-loop soft stop of R288 and R310. -/
def State.openLoopStop (s : State) (r : Fin 8) : State :=
  (s.modEng r (fun g => { g with openLoop := true })).railLatch r 3 false

/-- The rail goes to its auxiliary sense (R307, R309). -/
def State.toAux (s : State) (r : Fin 8) (cause : Nat) : State :=
  ((s.mark F.RP_STATUS_SNS_AUX r).set F.RP_STATUS_SNS_CAUSE r cause).modFr r
    (fun f => { f with snsRun := 0, clipRun := 0, frz := [], frzDone := false, frzReq := false })

/-- SENSE_OPEN (R307): 1 in the record where VSP − VSN read below VSA, else 2. -/
def State.senseOpen (s : State) (r : Fin 8) : State :=
  if s.drives r && !s.flag F.RP_STATUS_SNS_AUX r && 2 ≤ (s.fr r).snsRun then
    let allow := s.flag F.RP_MISC_AUX_ALLOW r
    let ball := if (s.fr r).vs < (s.fr r).va then 1 else 2
    let s := (s.mark F.RP_STICKY_SNS_OPEN_S r).logF 0x0A07 r [(1, r.val), (2, ball), (1, b2n allow)]
      (if allow then .auxDerate r (s.get F.RP_SENSE_AUX_D r) else .none)
    if allow then s.toAux r 0 else s.openLoopStop r
  else s

def execSenseOpen (t : Nat) (r : Fin 8) (s : State) := run t (fun s => s.senseOpen r) s

/-- FROZEN_FEEDBACK_REQUEST (R309): the Control die's request of eight upward parity failures in 64 updates. -/
def State.frozenRequest (s : State) (r : Fin 8) : State :=
  if s.pow.cdUp && 8 ≤ ((s.eng r).par64.filter id).length then
    (s.modFr r (fun f => { f with frzReq := true })).modEng r (fun g => { g with par64 := [] })
  else s

def execFrozenFeedbackRequest (t : Nat) (r : Fin 8) (s : State) := run t (fun s => s.frozenRequest r) s

/-- FEEDBACK_FROZEN (R309) on the main sense. -/
def State.feedbackFrozen (s : State) (r : Fin 8) : State :=
  let f := s.fr r
  if s.drives r && !s.flag F.RP_STATUS_SNS_AUX r && (f.frzDone || f.frzReq) then
    let allow := s.flag F.RP_MISC_AUX_ALLOW r
    let s := (s.mark F.RP_STICKY_FROZEN_S r).logF 0x0A08 r [(1, r.val), (1, 0), (2, b2n (!f.frzDone))]
      (if allow then .auxDerate r 64 else .none)
    if allow then s.toAux r 1 else (s.openLoopStop r).modFr r (fun f => { f with frzDone := false, frzReq := false })
  else s

def execFeedbackFrozen (t : Nat) (r : Fin 8) (s : State) := run t (fun s => s.feedbackFrozen r) s

/-- AUX_SENSE_IMPLAUSIBLE (R310). -/
def State.auxBad (s : State) (r : Fin 8) : State :=
  let f := s.fr r
  if s.drives r && s.flag F.RP_STATUS_SNS_AUX r && (32 ≤ f.clipRun || f.frzDone || f.frzReq) then
    let s := (s.mark F.RP_STICKY_AUXBAD_S r).logF 0x0A09 r [(1, r.val), (2, if 32 ≤ f.clipRun then 1 else 2)]
    (s.openLoopStop r).modFr r (fun f => { f with frzDone := false, frzReq := false, clipRun := 0 })
  else s

def execAuxSenseImplausible (t : Nat) (r : Fin 8) (s : State) := run t (fun s => s.auxBad r) s

/-! ## References (R311 to R313) -/

/-- The deviations of the three ratios in parts per million. -/
structure Devs where
  ab : Int
  bc : Int
  ca : Int
  deriving DecidableEq, Repr

/-- The deviations that involve reference `i` among those in service, `out` the mask of outvoted references. -/
def Devs.of (d : Devs) (out i : Nat) : List Int :=
  let pair := fun (a b : Nat) (x : Int) => if (i == a || i == b) && !out.testBit a && !out.testBit b then [|x|] else []
  pair 0 1 d.ab ++ pair 1 2 d.bc ++ pair 2 0 d.ca
/-- The disagreement of a reference: the smaller magnitude of its deviations. -/
def Devs.dis (d : Devs) (out i : Nat) : Int := (d.of out i).foldl min 1000000
/-- The deviation between the two references other than `i`. -/
def Devs.other (d : Devs) (i : Nat) : Int := |if i = 0 then d.bc else if i = 1 then d.ca else d.ab|
/-- Two references in service agree within 0.6 %. -/
def Devs.vote (d : Devs) (out : Nat) : Bool := [0, 1, 2].any (fun i => !out.testBit i && d.dis out i ≤ 6000)

/-- REF_TRIM of a rail on a transfer (R312): round(code × (old / new − 1)) from the ratio old : new. -/
def trimOf (code : Nat) (num den : Int) : Int := if 0 < den then roundDiv ((code : Int) * num) den.toNat else 0

/-- The numerator and denominator of old / new − 1 from the deviations. -/
def Devs.step (d : Devs) (old new : Nat) : Int × Int :=
  if (old, new) = (0, 1) then (d.ab, 1000000) else if (old, new) = (1, 0) then (-d.ab, 1000000 + d.ab)
  else if (old, new) = (1, 2) then (d.bc, 1000000) else if (old, new) = (2, 1) then (-d.bc, 1000000 + d.bc)
  else if (old, new) = (2, 0) then (d.ca, 1000000) else (-d.ca, 1000000 + d.ca)

/-- The register view of the trims: the one of largest magnitude, and TRANSFER while any is not 0. -/
def State.showTrim (s : State) : State :=
  let big := allRails.foldl (fun (a : Int) r => if |a| < |(s.fr r).refTrim| then (s.fr r).refTrim else a) 0
  (s.setI F.REF_STATUS_REF_TRIM 0 (satS 8 big)).setB F.REF_STATUS_TRANSFER 0 (big != 0)

/-- The selected reference is outvoted: the rails move to the lower-lettered agreeing reference (R312). -/
def State.transfer (s : State) (d : Devs) (old new : Nat) : State :=
  let x := d.step old new
  let s := s.onRails (fun s r => s.modFr r (fun f => { f with refTrim := trimOf (s.eng r).dac x.1 x.2 }))
  State.showTrim { s.set F.REF_STATUS_REF_SEL 0 new with th.trimAt := s.now }

/-- One vote of R311: drift flags, the outvote, the count of rounds without a vote. -/
def State.refVote (s : State) (d : Devs) : State :=
  let out := s.get F.REF_STATUS_REF_OUT
  let e := fun (x : Int) => satS 10 (roundDiv x 100)
  let s := ((s.setI F.REF_DEV_E_AB 0 (e d.ab)).setI F.REF_DEV_E_BC 0 (e d.bc)).setI F.REF_DEV_E_CA 0 (e d.ca)
  let dev := [(2, e d.ab), (2, e d.bc), (2, e d.ca)]
  let old := s.get F.REF_STATUS_REF_DRIFT
  let drift := [0, 1, 2].filter (fun i => !out.testBit i && decide (3000 < d.dis out i))
  let s := drift.foldl (fun s i => if old.testBit i then s else s.logF 0x0A0D i ((1, (i : Int)) :: dev)) s
  let s := s.set F.REF_STATUS_REF_DRIFT 0 (drift.foldl (fun m i => m + 2 ^ i) 0)
  let s := if d.vote out then s.set F.REF_STATUS_NOVOTE_CNT 0 0 else s.set F.REF_STATUS_NOVOTE_CNT 0 (min 3 (s.get F.REF_STATUS_NOVOTE_CNT + 1))
  let s : State := if d.vote out then { s with pow.noVote := false } else s
  match [0, 1, 2].find? (fun i => out == 0 && decide (6000 < d.dis out i) && decide (d.other i ≤ 3000)) with
  | none => s
  | some i =>
    let s := s.set F.REF_STATUS_REF_OUT 0 (out + 2 ^ i)
    let sel := s.get F.REF_STATUS_REF_SEL
    let new := if i = 0 then 1 else 0
    let s := if sel = i then s.transfer d i new else s
    s.logF 0x0A0E 0 [(1, i), (1, s.get F.REF_STATUS_REF_SEL), (1, if sel = i then s.getI F.REF_STATUS_REF_TRIM else 0)]

/-- REF_TRIM_STEP (R312): every trim moves one code toward 0, 10 µs after the transfer or the last step. -/
def State.trimStep (s : State) : State :=
  if s.now < s.th.trimAt + 10000 then s else
  State.showTrim (State.onRails { s with th.trimAt := s.now }
    (fun s r => s.modFr r (fun f => { f with refTrim := toward f.refTrim 0 1 })))

def execRefTrimStep (t : Nat) (s : State) := run t State.trimStep s

/-- Fault 0x3 (R313). -/
def State.noVoteFault (s : State) : State :=
  let s := s.logF 0x0A0F 0 [(2, s.getI F.REF_DEV_E_AB), (2, s.getI F.REF_DEV_E_BC), (2, s.getI F.REF_DEV_E_CA)]
  State.deviceLatch { s with pow.noVote := true } 3

/-- NO_REFERENCE_VOTE (R313): three consecutive rounds without a vote. -/
def execNoReferenceVote (t : Nat) (s : State) :=
  run t (fun s => if s.get F.REF_STATUS_NOVOTE_CNT = 3 && !s.pow.noVote then s.noVoteFault else s) s

/-- PRECHECK_REFERENCE_VOTE (R311, R313): the 64 initial votes complete, with deviations in parts per million. -/
def State.precheckVote (s : State) (d : Devs) : State :=
  if s.mode != .precheck || s.flag F.MODE_STATUS_SHUTDOWN_ACT then s else
  let s := s.refVote d
  if s.get F.REF_STATUS_NOVOTE_CNT = 0 then { s with pow.voted := true } else s.noVoteFault

def execPrecheckReferenceVote (t : Nat) (ab bc ca : Int) (s : State) := run t (fun s => s.precheckVote ⟨ab, bc, ca⟩) s

/-! ## Pre-start tests -/

/-- A rail-level failure: record 0x0A11, the rail back to OFF with its pre-start hold (R316). -/
def State.preFail (s : State) (r : Fin 8) (test : Nat) (reading : Int) : State :=
  (s.mark F.RP_STICKY_PRECHECK_S r).logF 0x0A11 r [(1, r.val), (1, 255), (2, test), (2, satS 16 reading)]
/-- The rail returns to OFF under a pre-start hold. -/
def State.preHold (s : State) (r : Fin 8) : State := (s.railOff r).mark F.RP_STATUS_PRE_HOLD r

/-- The phase tests of one phase: zero-current and continuity codes of 0.25 mV, and its current in the short window. -/
def State.prePhase (s : State) (r : Fin 8) (n : Fin 32) (zero change : Int) : State :=
  let fail := fun (s : State) (res test : Nat) (x : Int) =>
    let s := ((s.set F.PH_PROT_PRE_RES n res).mark F.RP_STICKY_PRECHECK_S r).logF 0x0A11 r [(1, r.val), (1, n.val), (2, test), (2, satS 16 x)]
    s.failPhase n 1
  if 40 < |zero| then fail s 1 2 zero
  else if 40 ≤ change then fail s 2 3 change
  else s.set F.PH_PROT_PRE_RES n 0

/-- PRESTART_TEST (R316, R317): `refin` in mV; `meas` the codes of each phase of the rail in number order (zero current,
continuity change, short-window current); `vsp`, `vsn`, `vsa` the moves and `rise` the rise of VSA, in mV. -/
def State.prestart (s : State) (r : Fin 8) (refin : Nat) (meas : List (Int × Int × Int)) (vsp vsn vsa rise : Int) : State :=
  if s.st r != .armed || (s.fr r).passed || !(s.fr r).senLead || (s.mode == .precheck && !s.pow.voted) then s else
  let m := s.regionOf r
  let s := s.modFr r (fun f => { f with tested := true })
  if refin < 600 ∨ 1500 < refin then
    let s := s.preFail r 1 refin
    s.onRails (fun s q => if s.st q == .armed && s.regionOf q == m then s.preHold q else s)
  else
    let s := s.set F.REFIN_STATUS_REFIN_REF m refin
    let l := List.zip (s.phasesOf r) meas
    let s := l.foldl (fun s e =>
      if s.flag F.PWM_STATUS_TFLT_LATCH e.1 then s.set F.PH_PROT_PRE_RES e.1 4
      else if s.live e.1 then s.prePhase r e.1 e.2.1 e.2.2.1 else s.set F.PH_PROT_PRE_RES e.1 5) s
    let bad := [(4, vsp), (5, vsn), (6, vsa)].filter (fun x => decide (20 ≤ |x.2|))
    let s := bad.foldl (fun s x => s.preFail r x.1 x.2) s
    let hot := l.find? (fun e => decide (((s.cfg r).hsI : Int) < e.2.2.2))
    if hot.isSome || ((s.cfg r).hsDv * 5 : Int) < rise then
      let s := match hot with
        | some e => s.set F.PH_PROT_PRE_RES e.1 3
        | none => s
      let s := s.logF 0x0A10 r [(1, r.val), (1, match hot with | some e => e.1.val | none => 255),
        (2, satS 16 (match hot with | some e => e.2.2.2 | none => 0)), (2, satS 16 rise)]
      (s.mark F.RP_STICKY_PRECHECK_S r).deviceLatch 1
    else if !bad.isEmpty || (s.liveOf r).length < s.get F.PHC_CTRL_MIN_LIVE r then s.preHold r
    else s.modFr r (fun f => { f with passed := true })

def execPrestartTest (t : Nat) (r : Fin 8) (refin : Nat) (meas : List (Int × Int × Int)) (vsp vsn vsa rise : Int) (s : State) :=
  run t (fun s => s.prestart r refin meas vsp vsn vsa rise) s

/-! ## Clears (R291, R292) -/

/-- The latch cause of a rail is present (Table 10.4). -/
def State.latchPresent (s : State) (r : Fin 8) : Bool :=
  let f := s.fr r
  let abs : Int := (s.get F.RP_TRACK_OV_ABS r * 625 : Nat)
  match s.get F.RP_STATUS_LATCH_CAUSE r with
  | 1 => s.flag F.RP_STATUS_OV_RD r
  | 2 => decide (abs < f.vs ∨ abs < f.va)
  | 4 => (s.liveOf r).length < s.get F.PHC_CTRL_MIN_LIVE r
  | _ => false

/-- A RAIL_CLR bit is accepted (R292, R476). -/
def State.railClrOk (s : State) (r : Fin 8) : Bool :=
  s.mode.running && !(s.st r == .latched && s.latchPresent r) && !s.isMember r

/-- Record 0x0A15. -/
def State.railClrRec (s : State) (r : Fin 8) (person refused : Nat) : State :=
  s.logF 0x0A15 r [(1, r.val), (1, person), (2, refused)]

/-- An accepted clear: the rail enters OFF, or its pre-start hold ends. LATCH_CAUSE keeps its value (R80). -/
def State.railClr (s : State) (r : Fin 8) (person : Nat) : State :=
  let s := if s.st r == .latched then s.railOff r else s
  (s.clear F.RP_STATUS_PRE_HOLD r).railClrRec r person 0

/-! ## PROTECTION section (Tables 10.11 to 10.13) -/

/-- Bytes 0 to 15. -/
def protItems : List Item :=
  [itU 0 2 1200 4000 F.PROT_CFG_BUS_OV, itU 2 1 64 128 F.PROT_CFG_VSTALE_D, itU 3 1 5 100 F.PROT_CFG_HS_T,
   itB 4 1 0 1 0 1 F.PROT_CFG_FN_RAIL, itZ 4 1 1 7, itZ 5 11 0 88]
/-- A phase record. -/
def protPhaseItems : List Item := [itU 0 2 1 65535 F.PKP_CFG_PK_LIM, itU 2 2 0 0x7FFF F.PKP_CFG_NPK_LIM]
/-- A rail record. -/
def protRailItems : List Item :=
  [itU 0 1 4 127 F.RP_WIN_OV_TH, itU 1 1 4 127 F.RP_WIN_UV_TH, itU 2 1 1 15 F.RP_WIN_OV_FILT, itU 3 1 1 255 F.RP_WIN_UV_FILT,
   itU 4 1 0 63 F.RP_TRACK_OV_LAG, itU 5 1 0 63 F.RP_TRACK_UV_LAG, itU 6 2 0 4095 F.RP_TRACK_OV_ABS,
   itU 8 1 0 255 F.RP_TIME_PG_DLY, itU 9 1 0 255 F.RP_TIME_UV_HIC_T, itU 10 1 1 255 F.RP_TIME_OC_SUST,
   itU 11 1 1 255 F.RP_TIME_CB_MAX, itU 12 1 4 63 F.RP_SENSE_SNS_WIN, itU 13 1 64 128 F.RP_SENSE_AUX_D,
   itU 14 2 16 4096 F.RP_SENSE_FRZ_DUTY, itU 16 2 0 2047 F.RP_PHW_PH_POS, itU 18 2 16 2048 F.RP_PHW_PH_NEG,
   itU 20 1 1 255 F.RP_MISC_PHW_N, itU 21 1 1 255 F.RP_MISC_BRK_N, itU 22 1 25 150 F.RP_MISC_BRK_TMAX,
   itB 23 1 0 1 0 1 F.RP_MISC_AUX_ALLOW, itZ 23 1 1 7, itC 24 1 8 255, itC 25 1 4 100, itZ 26 6 0 48]

/-- PK_MV or NPK_MV of a limit (R293, R294). -/
def pkMv (lim gm : Nat) : Nat := (roundDiv ((lim * gm : Nat) : Int) 8000).toNat

/-- The rules of a phase record (R293, R294, R323). -/
def protPhaseRules (b : List Byte) (ilim gm : Nat) : Bool :=
  let pk := rdU b 0 2
  let npk := rdU b 2 2
  ilim ≤ pk && pk ≤ 2 * ilim && (npk == 0 || 16 ≤ npk) && 1 ≤ pkMv pk gm && pkMv pk gm ≤ 511
    && (npk == 0 || (1 ≤ pkMv npk gm && pkMv npk gm ≤ 511))
/-- The rules of a rail record (R323); `spMax` is SP_MAX, `ilims` the ILIM_PHASE of the rail's phases. -/
def protRailRules (b : List Byte) (spMax : Nat) (ilims : List Nat) : Bool :=
  spMax + 4 * rdU b 0 1 ≤ rdU b 6 2 && ilims.all (fun i => i ≤ rdU b 16 2)

end Sys2Proof.Machine
end

