-- ==== Sys2Proof/Machine/Wake.lean ====
section
/-!
DEFINITION. Supplies (R44 to R49, R519), straps (R53, R55), wake events (R65 to R68), clocks (R69 to R72), WAKE, RESET_N,
orderly shutdown (R78), entry to DORMANT, and the region enables (R81, R520).
-/
namespace Sys2Proof.Machine

/-! ## Orderly shutdown -/

/-- The orderly shutdown acts on the rails: ARMED and HICCUP rails become OFF, switching rails stop in order (R78). -/
def State.shutRails (s : State) : State := (s.onRails State.disarm).stopInOrder 255

/-- The orderly shutdown begins (R78). In WAKE and PARSE it is held to PRECHECK, in CARETAKER to adoption. -/
def State.shutdown (s : State) : State :=
  if s.mode == .dormant then s else
  let s := s.mark F.MODE_STATUS_SHUTDOWN_ACT
  match s.mode with
  | .dormant | .wake | .parse | .caretaker | .safestop => s
  | _ => s.shutRails

/-- WAKE_PEND shows a pending wake event (R66). -/
def State.pend (s : State) (src : Nat) : State :=
  { (s.mark F.MODE_STATUS_WAKE_PEND) with pow.wakePend := s.pow.wakePend ||| src }

/-- A wake event counts (R66, R78): in DORMANT, or once the device is on its way there. -/
def State.sleeping (s : State) : Bool := s.mode == .dormant || s.flag F.MODE_STATUS_SHUTDOWN_ACT || s.pow.vddActs

/-! ## Supplies -/

/-- SUPPLY_GOOD (R44, R46, R66, R519). VDDIO becomes good by this event only in the mode already selected (R45); the Aedat pads are
supplied from VDD33. -/
def State.supplyGood (s : State) : Supply → State
  | .vaon => s.mark F.SUPPLY_STATUS_VAON_GOOD
  | .vdd33 =>
    let s : State := { (s.mark F.SUPPLY_STATUS_VDD33_GOOD) with pow.vddActs := s.pow.vddActs && s.mode != .dormant }
    s.when (s.sleeping && s.flag F.WAKE_CTRL_VDD33_AUTO && s.pow.lfosc) (fun s => s.pend 4)
  | .vddio => s.when s.pow.vddioSel (fun s => s.mark F.SUPPLY_STATUS_VDDIO_GOOD)
  | .vcore =>
    if s.mode == .dormant then s else
    let s : State := { (s.mark F.SUPPLY_STATUS_VCORE_GOOD) with pow.buckTry := 0 }
    s.when (!s.pow.cdUp && (s.mode == .parse || s.mode == .safestop)) State.controlBack
  | .alIo => if s.mode == .dormant || !s.flag F.SUPPLY_STATUS_VDD33_GOOD then s else s.mark F.SUPPLY_STATUS_AL_IO_GOOD

def execSupplyGood (t : Nat) (net : Supply) (s : State) := run t (fun s => s.supplyGood net) s

/-- VDDIO_MODE_SELECT (R45), `mv` the reading in millivolts. -/
def State.vddioMode (s : State) (mv : Nat) : State :=
  if s.pow.vddioSel then s
  else if 2900 ≤ mv then
    { ((s.mark F.SUPPLY_STATUS_VDDIO_GOOD).mark F.SUPPLY_STATUS_VDDIO_MODE) with pow.vddioSel := true }
  else if 1600 ≤ mv && mv ≤ 1980 then
    { ((s.mark F.SUPPLY_STATUS_VDDIO_GOOD).clear F.SUPPLY_STATUS_VDDIO_MODE) with pow.vddioSel := true }
  else s.clear F.SUPPLY_STATUS_VDDIO_GOOD

def execVddioModeSelect (t : Nat) (mv : Nat) (s : State) := run t (fun s => s.vddioMode mv) s

/-- Losses count only after leaving WAKE (SUPPLY_STATUS bits 30:28). -/
def State.awake (s : State) : Bool := s.mode != .dormant && s.mode != .wake

/-- VAON_POWER_ON_RESET (R49, T1): everything but the board's NOR and the nonvolatile cells starts over in DORMANT. -/
def State.cold (s : State) : State :=
  { State.reset.keep s with now := s.now, pow := { State.reset.pow with dormEntry := s.now, testEnd := s.now } }

def execVaonPowerOnReset (t : Nat) (s : State) := run t State.cold s

/-- The Aedat pad supply is lost, and recorded with the ports in use (R256). -/
def State.padLoss (s : State) : State :=
  if !s.flag F.SUPPLY_STATUS_AL_IO_GOOD then s else
  let used := (List.range 2).foldl (fun a p => a + (if s.flag F.AL_CFG_PORT_EN p then 2 ^ p else 0)) 0
  (s.clear F.SUPPLY_STATUS_AL_IO_GOOD).logC 0x080A 0 [(2, used)]

/-- AEDAT_PAD_SUPPLY_LOSS (R256). -/
def execAedatPadSupplyLoss (t : Nat) (s : State) := run t State.padLoss s

/-- VDD33_LOSS (R49, R519): every ball to tri-state, every SEN low, FAULT_N driven; DORMANT follows by T26. The Aedat pads lose their
supply with it (R46). -/
def State.vddLoss (s : State) : State :=
  if !s.flag F.SUPPLY_STATUS_VDD33_GOOD then s else
  let s := (s.clear F.SUPPLY_STATUS_VDD33_GOOD).padLoss
  if s.mode == .dormant then s else
  let s := s.when s.awake (fun s => s.mark F.SUPPLY_STATUS_VDD33_LOSS)
  let s := s.logF 0x0201 0 [(1, s.mode.code)]
  let s := s.onRails (fun s r => match s.st r with
    | .off | .latched => s
    | _ => (s.fastStop r).railOff r)
  { s.allOff with pow.vddActs := true, pow.stopSet := 0 }

def execVdd33Loss (t : Nat) (s : State) := run t State.vddLoss s

/-- VCORE_LOSS while VDD33 is good (R49, R519). -/
def State.vcoreLoss (s : State) : State :=
  if !s.flag F.SUPPLY_STATUS_VCORE_GOOD || !s.flag F.SUPPLY_STATUS_VDD33_GOOD then s else
  let s := s.clear F.SUPPLY_STATUS_VCORE_GOOD
  let s := s.when s.awake (fun s => s.mark F.SUPPLY_STATUS_VCORE_LOSS)
  let s := s.logF 0x0203 0 [(1, s.mode.code)]
  State.lose { s with pow.buckTry := 1, pow.buckAt := s.now } .vcore

def execVcoreLoss (t : Nat) (s : State) := run t State.vcoreLoss s

/-- CORE_BUCK_RESTART (R519): 100 µs after the loss the buck starts again while VCORE is not good and VDD33 is, then every 10 ms. -/
def State.buckRestart (s : State) : State :=
  if s.pow.buckTry != 0 && s.flag F.SUPPLY_STATUS_VDD33_GOOD && !s.flag F.SUPPLY_STATUS_VCORE_GOOD
      && s.pow.buckAt + (if s.pow.buckTry = 1 then 100000 else 10000000) ≤ s.now then
    { s with pow.buckTry := s.pow.buckTry + 1, pow.buckAt := s.now }
  else s

def execCoreBuckRestart (t : Nat) (s : State) := run t State.buckRestart s

/-! ## Straps -/

/-- The code of a measured strap resistance in ohms (Table 2.7). -/
def strapCode (ohm : Nat) : Option Nat :=
  if ohm < 500 then some 0
  else if 1800 ≤ ohm ∧ ohm ≤ 2200 then some 1
  else if 3870 ≤ ohm ∧ ohm ≤ 4730 then some 2
  else if 6750 ≤ ohm ∧ ohm ≤ 8250 then some 3
  else if 10800 ≤ ohm ∧ ohm ≤ 13200 then some 4
  else if 18000 ≤ ohm ∧ ohm ≤ 22000 then some 5
  else if 32400 ≤ ohm ∧ ohm ≤ 39600 then some 6
  else if 90000 ≤ ohm ∧ ohm ≤ 110000 then some 7
  else none

/-- The code a bad strap uses (STRAP_STATUS). -/
def strapDefault (i : Nat) : Nat := if i = 1 then 2 else 0
/-- The code field of a strap: CFG0 to CFG3, ADDR. -/
def strapField : Nat → Fld
  | 0 => F.STRAP_STATUS_CFG0_CODE | 1 => F.STRAP_STATUS_CFG1_CODE | 2 => F.STRAP_STATUS_CFG2_CODE
  | 3 => F.STRAP_STATUS_CFG3_CODE | _ => F.STRAP_STATUS_ADDR_CODE

/-- One strap has its code, or is bad and takes its default (R53, R55). -/
def State.strapTaken (s : State) (i : Nat) (c : Option Nat) : State :=
  let s := s.set (strapField i) 0 (c.getD (strapDefault i))
  let bad := if c.isNone then 2 ^ i else 0
  let s := s.set F.STRAP_STATUS_STRAP_BAD 0 ((s.get F.STRAP_STATUS_STRAP_BAD ||| 2 ^ i) - 2 ^ i + bad)
  let c1 := s.get F.STRAP_STATUS_CFG1_CODE
  let b := s.get F.STRAP_STATUS_STRAP_BAD
  let prof := if b.testBit 0 || b.testBit 1 then 0 else c1 / 4 * 8 + s.get F.STRAP_STATUS_CFG0_CODE
  let s := (s.set F.STRAP_STATUS_PM_ADDR 0 (0x40 + s.get F.STRAP_STATUS_ADDR_CODE)).set F.STRAP_STATUS_PROFILE 0 prof
  let done := s.pow.strapDone.set i true
  { s with pow.strapDone := done, pow.strapsLatched := done.all id }

/-- STRAP_READ (R53): a pair of readings 100 µs apart; the fourth pair without agreement leaves the strap bad. -/
def State.strapRead (s : State) (i : Nat) (a b : Nat) : State :=
  if s.mode != .wake || s.pow.strapDone.getD i true then s else
  let n := s.pow.strapPairs.getD i 0 + 1
  let s : State := { s with pow.strapPairs := s.pow.strapPairs.set i n }
  match strapCode a, strapCode b with
  | some x, some y => if x = y then s.strapTaken i (some x) else if 4 ≤ n then s.strapTaken i none else s
  | _, _ => if 4 ≤ n then s.strapTaken i none else s

def execStrapRead (t : Nat) (strap : Fin 5) (ohm1 ohm2 : Nat) (s : State) := run t (fun s => s.strapRead strap ohm1 ohm2) s

/-! ## Wake events -/

/-- LFOSC_START (R65). -/
def State.lfoscStart (s : State) : State := { (s.mark F.CLK_STATUS_LFOSC_OK) with pow.lfosc := true }

def execLfoscStart (t : Nat) (s : State) := run t State.lfoscStart s

/-- WAKE_BALL_RISE (R66 to R68, R78): a wake event in DORMANT or once the device is on its way there; else a timer or
VDD33 wake counts from now on as a WAKE-ball wake. -/
def State.wakeRise (s : State) : State :=
  if !s.pow.lfosc then s else
  let s : State := { s with pow.ballWake := true }
  if s.sleeping then s.pend 1
  else s.when s.timedWake (fun s => s.set F.MODE_STATUS_WAKE_SRC 0 1)

def execWakeBallRise (t : Nat) (s : State) := run t State.wakeRise s

/-- WAKE_BALL_LOW (R67, R78): the orderly shutdown of a WAKE-ball wake. -/
def State.wakeLow (s : State) : State :=
  let s : State := { s with pow.ballWake := false }
  if s.mode == .dormant || s.timedWake then s else s.shutdown

def execWakeBallLow (t : Nat) (s : State) := run t State.wakeLow s

/-- WAKE_TIMER_EXPIRY (R66): TIMER_EN set and WAKE_PERIOD seconds, of an oscillator within ±5 %, since the entry to DORMANT. -/
def State.wakeTimer (s : State) : State :=
  s.when (s.mode == .dormant && s.pow.lfosc && s.flag F.WAKE_CTRL_TIMER_EN && s.get F.WAKE_CTRL_WAKE_PERIOD != 0
    && s.pow.dormEntry + s.get F.WAKE_CTRL_WAKE_PERIOD * 950000000 ≤ s.now) (fun s => s.pend 2)

def execWakeTimerExpiry (t : Nat) (s : State) := run t State.wakeTimer s

/-- WAKE_EVENT_ACCEPT (T2, R47, R66, R85): with VDD33 good, WAKE begins; straps are read anew and every input starts in its
not-good reading. Without VDD33 the event stays pending. -/
def State.wakeAccept (s : State) : State :=
  if s.mode == .dormant && s.pow.lfosc && s.pow.wakePend != 0 && s.flag F.SUPPLY_STATUS_VDD33_GOOD then
    let src := s.pow.wakePend
    let p := s.pow
    let s : State := { s with pow := { p with
      wakePend := 0, ballWake := false, vselRd := 0, vselTold := false, vddActs := false, strapPairs := [0, 0, 0, 0, 0], strapDone := [false, false, false, false, false]
      strapsLatched := false, en := Vector.replicate 4 false, resetN := true, dormExit := s.now, tnow0 := s.now
      cdCause := 0, retEmpty := true, ctFails := [] } }
    let s := (s.clear F.MODE_STATUS_WAKE_PEND).set F.MODE_STATUS_WAKE_SRC 0 src
    (s.fromDormant).wakeEntry 2
  else s

def execWakeEventAccept (t : Nat) (s : State) := run t State.wakeAccept s

/-- TIMED_WAKE_LIMIT (R68): 60 s after the wake. -/
def State.timedLimit (s : State) : State := s.when (s.timedWake && s.pow.dormExit + 60000000000 ≤ s.now) State.shutdown

def execTimedWakeLimit (t : Nat) (s : State) := run t State.timedLimit s

/-! ## Clocks -/

/-- A required crystal runs on the backup reference: T6 in PARSE, device-latching fault 0x4 in a later mode (R71). -/
def State.backupRun (s : State) : State :=
  if s.par.xtalReq && s.flag F.CLK_STATUS_BACKUP_ACTIVE then
    match s.mode with
    | .dormant | .wake => s
    | .parse => s.enterSafestop 6
    | _ => s.deviceLatch 4
  else s

/-- XTAL_START_TIMEOUT (R69): 1.5 ms after the start of WAKE. -/
def State.xtalTimeout (s : State) : State :=
  if s.mode == .wake && s.pow.wakeAt + 1500000 ≤ s.now && !s.flag F.CLK_STATUS_XTAL_OK && !s.flag F.CLK_STATUS_BACKUP_ACTIVE then
    ((s.mark F.CLK_STATUS_XTAL_FAIL).mark F.CLK_STATUS_BACKUP_ACTIVE).logF 0x0302 0 [(2, 1)]
  else s

def execXtalStartTimeout (t : Nat) (s : State) := run t State.xtalTimeout s

/-- REF_CLOCK_FAIL (R70, R71). -/
def State.refFail (s : State) (departed : Bool) : State :=
  if !s.awake || s.flag F.CLK_STATUS_BACKUP_ACTIVE then s else
  let s := ((((s.mark F.CLK_STATUS_XTAL_FAIL).mark F.CLK_STATUS_CLK_SRC_SWITCH).mark F.CLK_STATUS_BACKUP_ACTIVE).clear
    F.CLK_STATUS_XTAL_OK).logF 0x0302 0 [(2, if departed then 3 else 2)]
  s.backupRun

def execRefClockFail (t : Nat) (departed : Bool) (s : State) := run t (fun s => s.refFail departed) s

/-- The lock bit of a PLL. -/
def lockField : Pll → Fld
  | .front => F.CLK_STATUS_FPLL_LOCK
  | .control => F.CLK_STATUS_CPLL_LOCK
/-- The number of a PLL in record 0x0303. -/
def pllNo : Pll → Nat
  | .front => 0
  | .control => 1

/-- PLL_UNLOCK (R72), `err` the measured error in units of 0.01 %: beyond ±4 % it is fault 0x5 and the Front die acts as R21. In WAKE
the fault is kept (R290), and T3 waits for the lock. -/
def State.pllUnlock (s : State) (p : Pll) (err : Int) : State :=
  if s.mode == .dormant then s else
  let s : State := { s with pow.pllLost := s.pow.pllLost ||| 2 ^ pllNo p }
  let s := ((s.clear (lockField p)).mark F.CLK_STATUS_PLL_UNLOCK).logF 0x0303 0 [(2, pllNo p), (2, err)]
  if err < -400 || 400 < err then (State.allOff { s with pow.fpllOff := true }).deviceLatch 5 else s

def execPllUnlock (t : Nat) (pll : Pll) (err : Int) (s : State) := run t (fun s => s.pllUnlock pll err) s

/-- PLL_RELOCK (R72): a PLL that lost its lock has it again, within ±4 % of nominal. -/
def State.pllRelock (s : State) (p : Pll) (err : Int) : State :=
  if s.mode == .dormant || !s.pow.pllLost.testBit (pllNo p) || err < -400 || 400 < err then s else
  let s : State := { s with pow.pllLost := s.pow.pllLost - (s.pow.pllLost &&& 2 ^ pllNo p) }
  let s := (s.mark (lockField p)).logF 0x0303 0 [(2, pllNo p), (2, err)]
  s.when (s.pow.pllLost = 0) (fun s => { s with pow.fpllOff := false })

def execPllRelock (t : Nat) (pll : Pll) (err : Int) (s : State) := run t (fun s => s.pllRelock pll err) s

/-! ## WAKE, RESET_N -/

/-- WAKE_COMPLETE (T3): VDD33 and VCORE good, no PLL that lost its lock, straps latched, RESET_N released. Clocks and link are up
from here. -/
def State.wakeDone (s : State) : State :=
  if s.mode == .wake && s.flag F.SUPPLY_STATUS_VDD33_GOOD && s.flag F.SUPPLY_STATUS_VCORE_GOOD && s.pow.strapsLatched
      && !s.pow.resetN && s.pow.pllLost = 0 then
    let s := s.setB F.CLK_STATUS_XTAL_OK 0 (!s.flag F.CLK_STATUS_BACKUP_ACTIVE)
    let s := ((s.mark F.CLK_STATUS_FPLL_LOCK).mark F.CLK_STATUS_CPLL_LOCK).mark F.CLK_STATUS_LFOSC_OK
    let s := s.controlBack
    let s := s.when s.pow.porSeen (fun s => s.logC 0x0204 0 [])
    State.enterParse { s with pow.porSeen := false } 3
  else s

def execWakeComplete (t : Nat) (s : State) := run t State.wakeDone s

/-- Entry to DORMANT by transition `n`: domain D takes its reset values, both dies lose power (R64, R487, R519). -/
def State.dormantEntry (s : State) (n : Nat) : State :=
  let s := (s.endSession 6).dropMailbox.toDormant
  let s := s.enter n .dormant
  let s : State := { s with regs := resetRegs s.regs (fun f => f.dom == .d) }
  let s := (s.clear F.MODE_STATUS_SHUTDOWN_ACT).clear F.SUPPLY_STATUS_VCORE_GOOD
  let s := (s.clear F.SUPPLY_STATUS_AL_IO_GOOD).onRails (fun s r => s.set F.HIC_STATUS_RETRY_CNT r 0)
  { s.allOff with
    br := {}, par := {}, phases := Vector.replicate 32 {}, rails := Vector.replicate 8 {}
    pow := { s.pow with cdUp := false, vddActs := false, stopSet := 0, wantSafestopClr := false
                        noArm := false, fpllOff := false, resetN := false, dormEntry := s.now, retEmpty := true, buckTry := 0 } }

/-- WAKE_TIMEOUT (T4). The 5 ms count from the entry to WAKE, or from the release of RESET_N where that is later (log 163). -/
def State.wakeTimeout (s : State) : State :=
  if s.mode == .wake && !s.pow.resetN && max s.pow.wakeAt s.pow.relAt + 5000000 ≤ s.now then
    let s := s.inc F.MODE_STATUS_WAKE_FAIL_CNT
    (s.logF 0x0304 0 [(1, s.get F.MODE_STATUS_WAKE_FAIL_CNT)]).dormantEntry 4
  else s

def execWakeTimeout (t : Nat) (s : State) := run t State.wakeTimeout s

/-- RESET_N_ASSERT (R79, T25, R433): both dies but the always-on domain and the RWS fields; the straps stand. -/
def State.resetAssert (s : State) : State :=
  if s.mode == .dormant then s else
  let s := ((s.clearRecorder.endSession 6).controlReset .lockstep).allOff
  let s : State := { s with pow := { s.pow with resetN := true, cdCause := 0, retEmpty := true } }
  s.wakeEntry 25

def execResetNAssert (t : Nat) (s : State) := run t State.resetAssert s

/-- RESET_N_RELEASE (R79). -/
def execResetNRelease (t : Nat) (s : State) := run t (fun s => { s with pow.resetN := false, pow.relAt := s.now }) s

/-- The transition an entry to DORMANT takes once the journal commit is done or deferred: T26 after a VDD33 loss, T14 at the
end of discharge, T22 in SAFESTOP when the shutdown is that of a WAKE ball that reads low, T20 in every other orderly shutdown. -/
def State.dormantBy (s : State) : Option Nat :=
  let busy := allRails.any (fun r => (s.st r).switching || s.st r == .caretaken)
  if s.mode == .dormant then none
  else if s.pow.vddActs then some 26
  else if busy then none
  else if s.mode == .holdup then if s.pow.noArm then some 14 else if s.flag F.MODE_STATUS_SHUTDOWN_ACT then some 20 else none
  else if !s.flag F.MODE_STATUS_SHUTDOWN_ACT then none
  else if s.mode == .safestop then if !s.pow.ballWake && !s.timedWake then some 22 else some 20
  else if s.mode == .precheck || s.mode.running || s.mode == .service then some 20
  else none

/-- DORMANT_ENTRY (R78, T14, T20, T22, T26). -/
def State.goDormant (s : State) : State :=
  match s.dormantBy with
  | some n => if s.journalIdle then s.dormantEntry n else s
  | none => s

def execDormantEntry (t : Nat) (s : State) := run t State.goDormant s

/-! ## Region enables -/

/-- REGION_ENABLE_OFF (R520): switching rails stop in order, HICCUP and ARMED rails become OFF; the pre-start hold ends (R316). -/
def State.regionOff (s : State) (m : Fin 4) : State :=
  let s : State := { s with pow.en := s.pow.en.set m false }
  s.onRails (fun s r =>
    if s.regionOf r == m && (s.cfg r).present then
      let s := s.clear F.RP_STATUS_PRE_HOLD r
      match s.st r with
      | .ramp | .reg | .shed => s.stopInOrder (2 ^ r.val)
      | .hiccup | .armed => s.railOff r
      | _ => s
    else s)

def execRegionEnableOff (t : Nat) (m : Fin 4) (s : State) := run t (fun s => s.regionOff m) s

/-- REGION_ENABLE_ON (R81): the rails of the region arm as Table 3.4 gives. -/
def execRegionEnableOn (t : Nat) (m : Fin 4) (s : State) :=
  run t (fun s => if s.mode == .dormant then s else { s with pow.en := s.pow.en.set m true }) s

end Sys2Proof.Machine
end

