-- ==== Sys2Proof/Machine/Adopt.lean ====
section
/-!
DEFINITION. The Pronoun loop (R328 to R330), warm adoption (R333 to R336) and its end (R76).
-/
namespace Sys2Proof.Machine

/-! ## The Pronoun loop -/

/-- What one Pronoun update takes (R328). -/
structure PnIn where
  c : Int
  llt : Int
  vto : Int
  isum : Int
  n : Nat
  rm : Int
  vin : Int
  rvin : Int
  dmin : Int
  dmax : Int
  floor : Int
  deng : Int
  track : Bool
  hold : Bool
  openLoop : Bool
  deriving DecidableEq, Repr

/-- What one Pronoun update gives: c1, J10, v, d_pn. -/
structure PnOut where
  c1 : Int
  j10 : Int
  v : Int
  d : Int
  deriving DecidableEq, Repr

/-- The arithmetic of R328. In an open-loop soft stop the duty follows the target alone (R288). -/
def pronoun (j10 : Int) (x : PnIn) : PnOut :=
  let c1 := x.c - roundDiv x.llt 64
  let p := c1 * 16
  let dmp := asr (trunc0 x.isum x.n * x.rm) 2
  let j :=
    if x.track then (roundDiv (x.deng * x.vin) 65536 - x.vto - p + dmp) * 1024
    else if x.hold then j10
    else sat40 (j10 + c1 * 16)
  let v := if x.openLoop then x.vto else satI x.floor (2 ^ 23 - 1) (x.vto + p + asr j 10 - dmp)
  ⟨c1, j, v, satI x.dmin x.dmax (roundDiv (v * x.rvin) 65536)⟩

/-- PRONOUN_UPDATE (R328 to R331). -/
def State.pronounUpdate (s : State) (r : Fin 8) : State :=
  if s.mode == .dormant || s.mode == .wake || !s.drives r then s else
  let s := if s.mode == .caretaker && s.st r == .rampdown then s.fallStep r else s
  let f := s.fr r
  let pn := s.pnDrives r
  let track := s.engineDrives r && f.newWord
  let dmin : Int := s.copy F.DUTY_LIM_DUTY_MIN r
  let dmax : Int := s.copy F.DUTY_LIM_DUTY_MAX r
  let de := if pn then f.takenIn == .ramp || f.ctDe else s.flag F.PHC_STATUS_DE_ACT r
  let x : PnIn :=
    { c := f.code, llt := s.fLlt r, vto := s.vto r, isum := f.isum, n := max 1 (s.switchingOf r).length
      rm := s.copy F.ENG_CFG_RM r, vin := f.vinF, rvin := f.rvinF, dmin := dmin, dmax := dmax
      floor := if de then s.vto r else 0, deng := f.duty, track := track, hold := !pn || f.holdJ || f.ls != .none
      openLoop := (s.eng r).openLoop }
  let o := pronoun f.j10 x
  let raw := roundDiv (o.v * f.rvinF) 65536
  let hold := f.ls != .none || (dmax < raw && 0 < o.c1) || (raw < dmin && o.c1 < 0)
  let s := s.modFr r (fun f => { f with j10 := o.j10, v := o.v, dPn := o.d.toNat, holdJ := hold, newWord := false })
  let s := ((s.set F.PN_MON_PN_DUTY r o.d.toNat).setB F.PN_MON_TRACK r track).setB F.PN_MON_PN_HOLD r hold
  let s := s.setI F.PN_MON_PN_INT r (satS 14 (asr o.j10 10))
  if pn && f.ls == .none then s.applyDuty r o.d.toNat else s

def execPronounUpdate (t : Nat) (r : Fin 8) (s : State) := run t (fun s => s.pronounUpdate r) s

/-! ## Adoption -/

/-- The ports start as after PRESET with an empty notice queue (R256). DESIGN CHOICE (log 75): NSEQ carries on. -/
def State.portsAfresh (s : State) : State :=
  allPorts.foldl (fun s p =>
    let s : State := s.modPort p (fun q => { nseq := q.nseq, goodAt := s.now })
    (((s.set F.AL_STATUS_CRED p 64).set F.AL_STATUS_CTX_ID p 0).clear F.AL_STATUS_RD_PEND p).clear F.AL_STATUS_SILENT p) s
/-- Then a MODE notice, and a CEILING notice for each served rail. -/
def State.portsTell (s : State) : State :=
  (s.noteAll 4 s.mode.code).onRails (fun s r => if (s.cfg r).present then s.noteRail r 1 (s.ceiling r) else s)

/-- The engine preload of R335 with the Pronoun loop's last output. -/
def State.preload (s : State) (r : Fin 8) (u0 : Int) : State :=
  let g := s.eng r
  let c := g.act
  let e1 := sat16 ((s.fr r).code * 64 - s.fLlt r)
  let raw := u0 * 2 ^ 15 - scale (e1 * 2 ^ 15) c.kpM c.kpS
  let i := satI (c.imin * 2 ^ 15) (c.imax * 2 ^ 15) raw
  let s := (s.stick F.ENG_STICKY_SWAP_CLAMP r (i != raw)).clear F.ENG_STATUS_CL_ACT r
  s.modEng r (fun g => { g with
    u := u0 * 2 ^ 15, y := u0 * 2 ^ 15, uDem := u0, ut := u0, df := 0, eLast := e1, ePrev := e1 * 2 ^ 15, i := i, ceil := 32767
    hitHi := false, hitLo := false, blkN := 0, blkSum := 0, blkDone := true, ff := 0, commonU := u0 })

/-- One rail's engine is restored and starts (R335 steps 3 to 6). -/
def State.restoreRail (s : State) (r : Fin 8) : State :=
  if s.st r != .caretaken then s else
  let s := s.modSp r (fun q => { q with acc := (s.eng r).dac * 128, slewLim := none })
  let s := s.takeSet r
  let rm := s.get F.ENG_CFG_RM r
  let u0 := sat16 (if rm = 0 then 0 else roundDiv ((s.fr r).v - s.vto r) rm)
  (s.preload r u0).modFr r (fun f => { f with engAt := s.now, dutyGood := 0, handed := false })

/-- The rails of a test, as a mask. -/
def maskOf (p : Fin 8 → Bool) : Nat := allRails.foldl (fun m r => if p r then m + 2 ^ r.val else m) 0
/-- A switching rail whose region enable is off. -/
def State.disabled (s : State) (r : Fin 8) : Bool := (s.st r).switching && !s.pow.en[s.regionOf r]
/-- A rail handed back takes its state (R336). -/
def State.giveBack (s : State) (r : Fin 8) : State :=
  if s.st r != .caretaken then s else
  let k := (s.fr r).takenIn
  let s := s.modEng r (fun g => { g with rampT0 := g.dac, rampK := 0 })
  let s := s.modFr r (fun f => { f with handed := false, started := true, pgAt := s.now, regAt := s.now })
  s.setRail r (if k == .ramp || k == .rampdown then k else .reg)

/-- Every CARETAKEN rail has been handed over: the rails take their states, T17 by R76, 0x0B02, the notices; a shutdown or an
enable that went off resumes (R84, R336). -/
def State.adopted (s : State) : State :=
  if !s.pow.ctAdopt || allRails.any (fun r => s.st r == .caretaken && !(s.fr r).handed) then s else
  let mask := maskOf (fun r => s.st r == .caretaken)
  let s := s.onRails State.giveBack
  let us := min 65535 ((s.now - s.pow.ctAt) / 1000)
  let s : State := { s with pow.ctAdopt := false }
  let s := ((s.clear F.CT_STATUS_CT_ACT).set F.CT_STATUS_CT_TIME 0 us).set F.CT_STATUS_ADOPT_RES 0 0
  let s := (s.inc F.CT_COUNT_ADOPT_OK).logC 0x0B02 0 [(2, us), (1, mask)]
  let s := s.enter 17 (if s.pk.inLost && s.pk.gate then .holdup else s.runningMode)
  let s := s.noteAll 4 s.mode.code
  let off := maskOf s.disabled
  let s := s.when (off != 0) (fun s => s.stopInOrder off)
  s.when (s.flag F.MODE_STATUS_SHUTDOWN_ACT) State.shutRails

/-- The result of the checks of Table 11.1 that the boot ROM makes; none when they pass: the retained hash and digest, which
`hashOk` and `digestOk` say came through the reset unharmed, against the Front die's copies (R114, R333). -/
def State.adoptRes (s : State) (hashOk digestOk eccOk : Bool) : Option Nat :=
  if !hashOk || s.pow.retEmpty || s.words8 F.CONFIG_HASH_HASH != s.pow.fdHash then some 1
  else if !digestOk || s.words8 F.RETAIN_DIGEST_DIGEST != s.pow.fdDigest then some 2
  else if !eccOk then some 3
  else if s.pow.ctService then some 4
  else none

/-- The reset request of the Front die holds the Control die for 2 µs after a heartbeat loss or a loop-port fault (R325). -/
def State.heldInReset (s : State) : Bool := (s.pow.cdCause == 3 || s.pow.cdCause == 4) && s.now < s.pow.cdLostAt + 2000

/-- ADOPTION_CHECK (R334, R335, R256, R279): the Control die leaves reset in CARETAKER. -/
def State.adoptCheck (s : State) (hashOk digestOk eccOk : Bool) : State :=
  if s.mode != .caretaker || s.pow.cdUp || !s.flag F.SUPPLY_STATUS_VCORE_GOOD || s.heldInReset then s else
  let s := s.controlBack
  if s.pow.refused then s else
  match s.adoptRes hashOk digestOk eccOk with
  | some k => s.refuse k 0
  | none =>
    let s : State := { s with
      pow := { s.pow with ctAdopt := true, released := true, wdogAt := s.now }, mirPh := s.phases.toList.map Phase.entry, mirRail := s.rails.toList.map Rail.st }
    let s := s.portsAfresh.portsTell.clearValid
    (s.onRails State.restoreRail).adopted

def execAdoptionCheck (t : Nat) (hashOk digestOk eccOk : Bool) (s : State) := run t (fun s => s.adoptCheck hashOk digestOk eccOk) s

/-- RAIL_HANDOVER (R336): four consecutive parity-good words, the last within 256 of d_pn, no large-signal action, before the 5 ms
of R331 are over (Table 11.4). -/
def State.handover (s : State) (r : Fin 8) : State :=
  let f := s.fr r
  if s.pow.ctAdopt && s.st r == .caretaken && !f.handed && f.ls == .none && 4 ≤ f.dutyGood && s.now < s.pow.ctAt + 5000000
      && f.duty ≤ f.dPn + 256 && f.dPn ≤ f.duty + 256 then
    (((s.modFr r (fun f => { f with handed := true })).applyDuty r f.duty).adopted)
  else s

def execRailHandover (t : Nat) (r : Fin 8) (s : State) := run t (fun s => s.handover r) s

/-- ADOPTION_HANDOVER_TIMEOUT (R336): 20 µs after its engine started, or its large-signal action ended, a rail is not handed over:
result 5. -/
def State.handoverTimeout (s : State) (r : Fin 8) : State :=
  if s.pow.ctAdopt && s.st r == .caretaken && !(s.fr r).handed && (s.fr r).ls == .none && (s.fr r).engAt + 20000 ≤ s.now then s.refuse 5 r else s

def execAdoptionHandoverTimeout (t : Nat) (r : Fin 8) (s : State) := run t (fun s => s.handoverTimeout r) s

end Sys2Proof.Machine
end

