-- ==== Sys2Proof/Machine/Pack.lean ====
section
/-!
DEFINITION. The commands of the pack, the charger and the pack switch (R361 to R392), and the PACK section.
-/
namespace Sys2Proof.Machine

/-! ## Captures (R376) -/

/-- The measurements of a capture: BAT_T as its table gives, BAT_V, BAT_I, the rest in progress. -/
def State.capMeasure (s : State) (v : Nat) (i : Int) (rho : Nat) : State :=
  let bad := s.flag F.HK_STATUS_SELF_FAIL
  let s := match s.th.batTab with
    | some k => s.reading 14 (if bad then none else ntcTemp (s.th.ntc.getD k []) rho)
    | none => s
  if bad then s else
  let s := (s.set F.PK_VOLT_BAT_V 0 v).setI F.PK_CUR_BAT_I 0 (satS 20 (roundDiv (i * 12500) s.pkc.rshunt))
  s.modPk (fun p => { p with
    iHist := (s.now, s.batI) :: p.iHist.filter (fun x => s.now < x.1 + 1000000000)
    restAt := s.sinceWhen p.restAt (decide (s.batI.natAbs ≤ s.pkc.restI) && !s.chgOn)
    termAt := s.sinceWhen p.termAt (s.chg == 4 && decide (s.batI ≤ s.pkc.iterm))
    rechAt := s.sinceWhen p.rechAt (s.chg == 5 && s.batBelow (s.pkc.vcv - s.pkc.vrech))
    ovpAt := s.sinceWhen p.ovpAt (s.batAbove (s.pkc.vcv + 50)) })

/-- The raw floor of R372, in two consecutive captures. -/
def State.floorCheck (s : State) : State :=
  let s := s.modPk (fun p => { p with floorRun := if s.batBelow s.pkc.vmin then p.floorRun + 1 else 0 })
  s.when (s.huMode && s.pk.gate && 2 ≤ s.pk.floorRun) (fun s => s.huTrip 5)

/-- The Control die's end-of-discharge checks (R374): VOLT, SOC, TEMP. -/
def State.eodCheck (s : State) : State :=
  let low := (s.pk.vUv : Int) < (s.cells * s.pkc.veod * 1000 : Nat)
  let s := s.modPk (fun p => { p with eodRun := if low then p.eodRun + 1 else 0 })
  if !s.huMode || s.mode == .caretaker || !s.pk.gate || s.pow.noArm then s
  else if s.pkc.eodN ≤ s.pk.eodRun then s.eod 1
  else if s.get F.PK_SOC_RSOC = 0 then s.eod 2
  else if !s.disWindow then s.eod 4
  else s

/-- PACK_CAPTURE (R363, R372, R374, R376, R379, R382, R387): `v` and `i` the codes of channels 25 and 26, `rho` the ratio of
channel 27. -/
def State.capture (s : State) (v : Nat) (i : Int) (rho : Nat) : State :=
  if !s.flag F.PK_CFG_PACK_DECL || !s.flag F.SUPPLY_STATUS_VDD33_GOOD || !s.awake then s else
  let ns := s.now - s.pk.capAt
  let s := (s.capMeasure v i rho).modPk (fun p => { p with capAt := s.now })
  let s := (s.floorCheck).presence
  let s := s.when (s.chg == 2 && !s.batBelow (s.pkc.vpre + 100)) (fun s => (s.setChg 3).modPk (fun p => { p with chgAt := s.now }))
  if !s.pow.cdUp || s.mode == .caretaker then s else
  let s := s.when (s.pk.firstEst && s.flag F.PK_STATE_PRESENT) State.firstEstimate
  ((s.packEstimate false).disAccount.lrnCheck ns).eodCheck

def execPackCapture (t : Nat) (v : BitVec 14) (i : Int) (rho : BitVec 16) (s : State) :=
  run t (fun s => s.capture v.toNat i rho.toNat) s

/-- COULOMB_COUNTER_UPDATE (R377): `raw` is CC_RAW. -/
def State.coulomb (s : State) (raw : Nat) : State :=
  if s.mode == .dormant || !s.flag F.SUPPLY_STATUS_VDD33_GOOD then s else
  let d := toS 16 (raw + 65536 - s.pk.ccRaw)
  let s := (s.setI F.PK_CC_ACC_CC_ACC 0 (s.ccAcc + d)).modPk (fun p => { p with ccRaw := raw })
  s.when (s.pow.cdUp && s.mode != .caretaker && s.flag F.PK_CFG_PACK_DECL && s.flag F.PK_STATE_PRESENT) State.gauge

def execCoulombCounterUpdate (t : Nat) (raw : BitVec 16) (s : State) := run t (fun s => s.coulomb raw.toNat) s

/-! ## Charger -/

/-- CHARGER_INPUT_CHECK (R365): bit `i` says that period `i` of 16 read above 17.0 V; the last 8 decide. -/
def State.chgInput (s : State) (above : Nat) : State :=
  if s.chg == 1 && s.chgOk && !s.pk.retryWait && 4800 ≤ s.get F.HK_V0_VAON then
    if above / 256 % 256 = 255 then
      let s := (s.mark F.PK_STATE_CHG_IN).modPk (fun p => { p with swLow := 0, chgAt := s.now })
      if s.batBelow s.pkc.vpre then s.setChg 2 else s.setChg 3
    else (s.clear F.PK_STATE_CHG_IN).modPk (fun p => { p with retryWait := true, retryAt := s.now })
  else s

def execChargerInputCheck (t : Nat) (above : BitVec 16) (s : State) := run t (fun s => s.chgInput above.toNat) s

/-- CHARGER_RETRY (R365): 1 s after the charger stopped for its input. -/
def State.chgRetry (s : State) : State :=
  s.when (decide (s.pk.retryAt + 1000000000 ≤ s.now)) (fun s => s.modPk (fun p => { p with retryWait := false }))

def execChargerRetry (t : Nat) (s : State) := run t State.chgRetry s

/-- The charger stops for its input and waits 1 s (R365). -/
def State.chgInLost (s : State) : State :=
  ((s.clear F.PK_STATE_CHG_IN).setChg 1).modPk (fun p => { p with retryWait := true, retryAt := s.now, swLow := 0 })

/-- CHARGER_SWITCHING_PERIOD (R364, R365, R367): CHG_SW in mV and the regulator's demand in mA. It switches only with VAON at 6.0 V or
above. -/
def State.chgPeriod (s : State) (sw demand : Nat) : State :=
  if !s.chgOn || decide (s.get F.HK_V0_VAON < 4800) then s
  else if 62000 < sw then (s.chgInLost).logC 0x0D08 0 [(1, 4)]
  else
    let s := s.modPk (fun p => { p with swLow := if sw < 16000 then p.swLow + 1 else 0 })
    if 8 ≤ s.pk.swLow then s.chgInLost
    else if s.chg == 3 && decide (demand < s.ichgEff) then s.setChg 4 else s

def execChargerSwitchingPeriod (t : Nat) (sw demand : Nat) (s : State) := run t (fun s => s.chgPeriod sw demand) s

/-- CHARGE_TERMINATION (R367, R383): BAT_I at or below ITERM for TERM_T in CV. -/
def State.chgTerm (s : State) : State :=
  if s.chg == 4 && decide (s.batI ≤ s.pkc.iterm) && s.heldFor s.pk.termAt (s.pkc.termT * 1000000000) then s.chgDone else s

def execChargeTermination (t : Nat) (s : State) := run t State.chgTerm s

/-- CHARGER_RECHARGE (R367): below the recharge level for 10 s in DONE. -/
def State.chgAgain (s : State) : State :=
  if s.chg == 5 && s.batBelow (s.pkc.vcv - s.pkc.vrech) && s.heldFor s.pk.rechAt 10000000000
  then (s.setChg 3).modPk (fun p => { p with chgAt := s.now }) else s

def execChargerRecharge (t : Nat) (s : State) := run t State.chgAgain s

/-- CHARGER_PRE_TIMEOUT (R367): PRE_TMAX minutes in PRE. -/
def State.chgPreOver (s : State) : State :=
  if s.chg == 2 && decide (s.pk.chgAt + s.pkc.preTmax * 60000000000 ≤ s.now)
  then (s.chgFault 2).mark F.PK_STATE_PACK_DEAD else s

def execChargerPreTimeout (t : Nat) (s : State) := run t State.chgPreOver s

/-- CHARGER_TIMER_EXPIRY (R367): CHG_TIMER hours in CC and CV. -/
def State.chgTimerOver (s : State) : State :=
  if (s.chg == 3 || s.chg == 4) && decide (s.pk.chgAt + s.pkc.chgTimer * 3600000000000 ≤ s.now) then s.chgFault 1 else s

def execChargerTimerExpiry (t : Nat) (s : State) := run t State.chgTimerOver s

/-- CHARGER_OVP (R367), in any state but FAULT itself: above the over-voltage level for 1 s. -/
def State.chgOver (s : State) : State :=
  if s.flag F.PK_CFG_PACK_DECL && s.chg != 7 && s.batAbove (s.pkc.vcv + 50) && s.heldFor s.pk.ovpAt 1000000000
  then s.chgFault 3 else s

def execChargerOvp (t : Nat) (s : State) := run t State.chgOver s

/-- A charger fault is cleared (R367). -/
def State.pkClr (s : State) : State :=
  if s.chg == 7 then (s.setChg 1).set F.PK_STATE_CHG_FLT 0 0 else s

/-- INSERTION_HOLD_END (R382): 2 s after the insertion. -/
def State.insHoldEnd (s : State) : State :=
  if s.pk.insHold && decide (s.pk.insAt + 2000000000 ≤ s.now) then s.newPack else s

def execInsertionHoldEnd (t : Nat) (s : State) := run t State.insHoldEnd s

/-! ## Input loss and the pack switch -/

/-- The declared loss (R370, R375). -/
def State.lossDeclared (s : State) : State :=
  let s := s.modPk (fun p => { p with inLost := true })
  let s := s.chargerRound
  let on := allRails.any (fun r => (s.st r).switching || s.st r == .caretaken)
  let arm := s.flag F.PK_STATE_HU_ARM
  if !on then s else
  match s.mode with
  | .softstart | .regulate | .shed | .hiccup =>
    let s := (s.setGate arm).modPk (fun p => { p with
      huAt := s.now, probeAt := s.now, huAcc := s.ccAcc, floorRun := 0, eodRun := 0 })
    let s := (s.enter 12 .holdup).mark F.PK_STICKY_HU_S
    let s := s.logC 0x0D01 0 [(2, s.th.busV), (2, s.get F.PK_VOLT_BAT_V), (2, s.get F.PK_SOC_RSOC), (1, b2n arm)]
    let s := s.queuePack
    s.when (!arm) (fun s => s.huTrip 7)
  | .caretaker | .service =>
    let s := (s.setGate arm).modPk (fun p => { p with huAt := s.now, huAcc := s.ccAcc, floorRun := 0, eodRun := 0 })
    s.when (!arm && s.mode == .service) (fun s => s.huTrip 7)
  | _ => s

/-- A probe fails (R373): the pack goes on again, no new loss is declared. -/
def State.probeFail (s : State) (drop : Nat) : State :=
  let s := ((s.setGate true).modPk (fun p => { p with probing := false })).mark F.PK_STICKY_PROBE_FAIL_S
  s.logC 0x0D04 0 [(2, drop)]

/-- INPUT_LOSS (R368, R370, R373, R87): the comparator goes from good to not good. -/
def State.inputLoss (s : State) : State :=
  if !s.pk.busGood || s.mode == .dormant then s else
  let s := s.modPk (fun p => { p with busGood := false })
  if !s.flag F.PK_CFG_PACK_DECL then s
  else if s.pk.probing then s.probeFail 0
  else if s.pk.inLost then s else s.lossDeclared

def execInputLoss (t : Nat) (s : State) := run t State.inputLoss s

/-- BUS_GOOD (R368). A loss that found no rail to hold, or that the pack no longer serves, ends with it; in HOLDUP only a probe
restores (R373). -/
def State.busGoodAgain (s : State) : State :=
  if s.mode == .dormant then s else
  let s := s.modPk (fun p => { p with busGood := true })
  if s.pk.inLost && !s.pk.gate && !s.pk.probing && s.mode != .holdup then
    State.modPk { s with pow.noArm := false } (fun p => { p with inLost := false })
  else s

def execBusGood (t : Nat) (s : State) := run t State.busGoodAgain s

/-- PACK_OVERCURRENT (R372, R375). -/
def execPackOvercurrent (t : Nat) (s : State) :=
  run t (fun s => if s.huMode && s.pk.gate then s.huTrip 6 else s) s

/-- A probe begins (R373): HU_GATE off, `bus` the first BUS_V sample. A comparator that already reads not good fails it at once. -/
def State.probeStart (s : State) (bus : Nat) (rev : Bool) : State :=
  let s := (s.setGate false).modPk (fun p => { p with probing := true, probeV := bus, probeRev := rev, probeAt := s.now })
  s.when (!s.pk.busGood) (fun s => s.probeFail 0)

/-- PACK_REVERSE_CURRENT (R372): judged as a probe. During a probe the pack is already off. -/
def execPackReverseCurrent (t : Nat) (bus : BitVec 14) (s : State) :=
  run t (fun s => if s.huMode && s.pk.gate then s.probeStart bus.toNat true else s) s

/-- HOLDUP_PROBE (R373): HU_PROBE × 10 ms after the start of the last probe, or after the entry to HOLDUP. -/
def State.probeDue (s : State) (bus : Nat) : State :=
  if s.mode == .holdup && s.pk.inLost && s.pk.gate && decide (s.pk.probeAt + s.pkc.huProbe * 10000000 ≤ s.now)
  then s.probeStart bus false else s

def execHoldupProbe (t : Nat) (bus : BitVec 14) (s : State) := run t (fun s => s.probeDue bus.toNat) s

/-- The input is restored (R373, T13). -/
def State.restored (s : State) : State :=
  let drawn := -(s.chargeOf (s.ccAcc - s.pk.huAcc)) / 3600
  let s := s.logC 0x0D02 0 [(2, if s.pk.probeRev then 2 else 1), (2, min 65535 ((s.now - s.pk.huAt) / 1000000)), (2, satS 16 drawn)]
  let s := (s.setGate false).mark F.PK_STICKY_RESTORE_S
  let s : State := { s with pow.noArm := false }
  let s := s.modPk (fun p => { p with probing := false, inLost := false, recRest := true, restAt := none })
  let s := s.queuePack
  if s.mode == .holdup then s.enter 13 s.runningMode else s

/-- PROBE_END (R373), PROBE_T × 10 µs after the start: restored when the comparator read good throughout and BUS_V fell by 200 mV or less. -/
def State.probeEnd (s : State) (bus : Nat) : State :=
  if !s.pk.probing || decide (s.now < s.pk.probeAt + s.pkc.probeT * 10000) then s
  else if 5 * (s.pk.probeV - bus) ≤ 800 then s.restored else s.probeFail (s.pk.probeV - bus)

def execProbeEnd (t : Nat) (bus : BitVec 14) (s : State) := run t (fun s => s.probeEnd bus.toNat) s

/-- HOLDUP_TIME_LIMIT (R374): HU_TMAX s in HOLDUP. -/
def State.holdupOver (s : State) : State :=
  if s.mode == .holdup && s.pkc.huTmax != 0 && decide (s.pk.huAt + s.pkc.huTmax * 1000000000 ≤ s.now) then s.eod 3 else s

def execHoldupTimeLimit (t : Nat) (s : State) := run t State.holdupOver s

/-! ## Rest, test, learning -/

/-- RECOVERY_REST_END (R381). -/
def State.restEnd (s : State) : State :=
  if s.pk.recRest && s.rested then (s.modPk (fun p => { p with recRest := false })).ocvApply 2 else s

def execRecoveryRestEnd (t : Nat) (s : State) := run t State.restEnd s

/-- A pack test starts (R384), a recovery rest or not. -/
def State.testStart (s : State) : State :=
  if s.chgBase && s.pk.test == 0 && s.flag F.PK_CFG_PACK_DECL then
    ((s.mark F.PK_STATE_TEST_ACT).setChg 1).modPk (fun p => { p with test := 1, testRetry := false, restAt := none })
  else s

/-- PACK_TEST_REST_END (R384). -/
def State.testRested (s : State) : State :=
  if s.pk.test == 1 && s.rested then
    let s := s.modPk (fun p => { p with testV0 := s.get F.PK_VOLT_BAT_V, test := 2, testAt := s.now })
    (s.ocvApply 3).setChg 6
  else s

def execPackTestRestEnd (t : Nat) (s : State) := run t State.testRested s

/-- PACK_TEST_MEASURE (R384), after 2 s at ITEST: R_meas in 0.1 mΩ and RFACT in Q2.14. -/
def State.testMeasure (s : State) : State :=
  if s.pk.test == 2 && s.chg == 6 && decide (s.pk.testAt + 2000000000 ≤ s.now) then
    let dv : Int := (s.get F.PK_VOLT_BAT_V : Int) - s.pk.testV0
    let i := s.batI
    let r := s.rPack
    let open1 := Config.rfactOpen dv i
    let rmeas := if i = 0 then open1 else dv * 12500 / i
    let rf := satI 8192 65372 (if i * r = 0 then open1 else dv * 12500 * 16384 / (i * r))
    let s := (s.set F.PK_LIFE_RFACT 0 rf.toNat).logC 0x0D0C 0 [(2, satS 16 rmeas), (2, rf)]
    let s := ((s.clear F.PK_STATE_TEST_ACT).setChg 1).modPk (fun p => { p with test := 0 })
    let s : State := { s with pow.testEnd := s.now }
    (s.wear).queuePack
  else s

def execPackTestMeasure (t : Nat) (s : State) := run t State.testMeasure s

/-- PACK_TEST_RETRY (R384): 1 h after the abort. -/
def State.testAgain (s : State) : State :=
  if s.pk.testRetry && decide (s.pk.testAt + 3600000000000 ≤ s.now) then s.testStart else s

def execPackTestRetry (t : Nat) (s : State) := run t State.testAgain s

/-- LEARN_TIMEOUT (R387). -/
def execLearnTimeout (t : Nat) (s : State) :=
  run t (fun s => if s.flag F.PK_STATE_LRN_OPEN && decide (s.pk.lrnAt + 172800000000000 ≤ s.now) then s.lrnDisq 3 else s) s

/-- PACK_RECORD_HOURLY (R389): 1 h after the last queued record. -/
def State.recordHourly (s : State) : State :=
  if s.flag F.PK_CFG_PACK_DECL && s.pow.cdUp && s.flag F.PK_STATE_PRESENT && decide (s.pk.recAt + 3600000000000 ≤ s.now)
  then s.queuePack else s

def execPackRecordHourly (t : Nat) (s : State) := run t State.recordHourly s

/-! ## PACK section (Tables 13.1 and 13.9) -/

/-- The items of the PACK section that registers hold, and the ranges of all. -/
def packItems13 : List Item :=
  [itB 0 1 0 1 0 1 F.PK_CFG_CHEM, itZ 0 1 1 7, itB 1 1 0 3 3 4 F.PK_CFG_CELLS, itZ 1 1 3 5, itU 2 2 1000 6000 F.PK_CFG_DESIGN_CAP,
   itC 4 2 500 10000, itC 6 2 2000 50000, itC 18 2 100 6000, itC 20 2 10 1000, itC 22 2 10 1000, itC 24 2 100 3000,
   itC 26 2 1 500, itC 28 2 8 1600, itC 30 2 0 3600, itB 32 2 0 9 80 320 F.HU_CFG_BUS_GOOD_R, itC 32 2 80 320,
   itB 34 2 0 9 80 320 F.HU_CFG_BUS_GOOD_F, itC 34 2 80 320, itB 38 1 0 5 1 31 F.HU_CFG_HU_FILT, itC 38 1 1 31,
   itU 39 1 64 128 F.HU_CFG_HU_D, itC 40 1 1 255, itC 41 1 1 50, itC 42 1 1 24, itC 43 1 1 120, itC 44 1 1 255, itC 45 1 1 255,
   itC 46 1 1 255, itC 47 1 5 50, itC 48 1 20 90, itC 51 1 1 20, itC 52 1 1 255, itC 53 1 50 95, itC 57 1 1 15,
   itZ 58 6 0 48, itZ 106 2 0 16, itZ 136 8 0 64]

/-- Entries of 2 bytes. -/
def words16 (b : List Byte) (o n : Nat) : List Nat := (List.range n).map (fun i => rdU b (o + 2 * i) 2)
/-- Entries of 1 byte. -/
def bytesAt (b : List Byte) (o n : Nat) : List Nat := (List.range n).map (fun i => rdU b (o + i) 1)
/-- A strictly rising list. -/
def risingStrict : List Nat → Bool
  | a :: b :: l => decide (a < b) && risingStrict (b :: l)
  | _ => true

/-- The PACK section keeps its rules (R361, R392), `busOv` the BUS_OV of the PROTECTION section. -/
def packOk (b : List Byte) (busOv : Nat) : Bool :=
  let nmc := rdU b 0 1 == 1
  let u := fun o => rdU b o 2
  let range := fun (x lo hi : Nat) => decide (lo ≤ x) && decide (x ≤ hi)
  b.length == 144 && itemsOk packItems13 b
    && (if nmc then range (u 8) 4000 4200 && range (u 12) 2500 3200 && range (u 14) 2800 3400 && range (u 16) 2500 3200
        else range (u 8) 3400 3650 && range (u 12) 2000 2800 && range (u 14) 2500 3000 && range (u 16) 2000 2800)
    && range (u 10) 20 200
    && decide (u 16 < u 14) && decide (u 14 + u 10 < u 8) && decide (u 12 + u 10 < u 8)
    && decide (rdU b 1 1 * (u 8 + 50) + 500 ≤ busOv * 5)
    && decide (u 34 + 5 ≤ u 32)
    && risingStrict (words16 b 64 21)
    && (List.range 4).all (fun t => (List.range 5).all (fun r =>
        decide (rdU b (108 + 5 * t + r) 1 ≤ 200)
          && (r == 0 || decide (rdU b (108 + 5 * t + r - 1) 1 ≤ rdU b (108 + 5 * t + r) 1))
          && (t == 0 || decide (rdU b (108 + 5 * t + r) 1 ≤ rdU b (108 + 5 * (t - 1) + r) 1))))

/-- The settings of the PACK section. -/
def packCfgOf (b : List Byte) : PackCfg :=
  let u := fun o => rdU b o 2
  let c := fun o => rdU b o 1
  { rshunt := u 4, rchg := u 6, vcv := u 8, vrech := u 10, vpre := u 12, veod := u 14, vmin := u 16, ichg := u 18
    ipre := u 20, iterm := u 22, itest := u 24, restI := u 26, idisOc := u 28, huTmax := u 30, ocvTc := rdS b 36 2
    huProbe := c 40, probeT := c 41, chgTimer := c 42, preTmax := c 43, termT := c 44, restT := c 45, slopeMin := c 46
    swapD := c 47, lrnD := c 48, lrnTmin := rdS b 49 1, lrnTmax := rdS b 50 1, lrnStep := c 51, lrnImax := c 52
    sohEol := c 53, disTmin := rdS b 54 1, disTmax := rdS b 55 1, testInt := c 56, eodN := c 57, ocv := words16 b 64 21
    qres := bytesAt b 108 20, rpack := words16 b 128 4 }

/-- Step 9 of Table 4.8: the PACK section, or no pack; a pack already present takes its record (R381). -/
def State.loadPack (s : State) (b : Option (List Byte)) : State :=
  match b with
  | none => (s.load F.PK_CFG_PACK_DECL 0 0).modPk (fun p => { p with cfg := {} })
  | some b =>
    let s := ((s.loadItems packItems13 0 b).load F.PK_CFG_PACK_DECL 0 1).modPk (fun p => { p with cfg := packCfgOf b })
    s.when (s.flag F.PK_STATE_PRESENT && !s.jrn.changed.testBit 0) State.packStart

end Sys2Proof.Machine
end

