-- ==== Sys2Proof/Machine/Thermal.lean ====
section
/-!
DEFINITION. The housekeeping round and its channels (R343 to R346), the TFLT scanner (R348), failed sensors (R349), the package
comparators (R354) and the THERMAL section (R360).
-/
namespace Sys2Proof.Machine

/-! ## The round -/

/-- The Front die runs the round: past WAKE, with VDD33 good and the THERMAL values loaded (R343, Table 12.3). -/
def State.hkRuns (s : State) : Bool := s.awake && s.flag F.SUPPLY_STATUS_VDD33_GOOD && s.get F.HK_CFG_HK_ROUND != 0

/-- A round is due: HK_ROUND ms after the last one was (R343). -/
def State.hkDue (s : State) : Bool :=
  match s.th.startAt with
  | some t => t + s.get F.HK_CFG_HK_ROUND * 1000000 ≤ s.now
  | none => true

/-- HK_ROUND_START (R343, R344). -/
def State.hkStart (s : State) : State :=
  if !s.hkRuns then { s with th.running := false, th.startAt := none }
  else if !s.hkDue then s
  else
  let s : State := { s with th.startAt := some s.now }
  if s.th.running then
    let s := (s.inc F.HK_STATUS_ROUND_SKIP).mark F.THERM_STICKY_SKIP_S
    s.logF 0x0C09 0 [(1, s.get F.HK_STATUS_ROUND_SKIP)]
  else
    let s := s.incWrap F.HK_STATUS_ROUND_CNT
    { s with th.running := true, th.next := 0 }

def execHkRoundStart (t : Nat) (s : State) := run t State.hkStart s

/-- HK_DEMAND_REQUEST (R345): served before the next round slot, at once when no round runs. -/
def State.hkDemand (s : State) : State :=
  if !s.hkRuns then s
  else { s with th.demand := s.th.demand + 1, th.owed := s.th.owed || !s.th.running }

def execHkDemandRequest (t : Nat) (s : State) := run t State.hkDemand s

/-- A temperature channel: 0 to 5 a trimmed result in 0.125 °C, a TS input its ratio or its diode readings (R347). -/
def State.tempChannel (s : State) (ch : Nat) (a b : Int) : State :=
  if s.flag F.HK_STATUS_SELF_FAIL then s.reading ch none
  else if ch < 6 then s.reading ch (if a < -440 ∨ 1400 < a then none else some a)
  else
    let i := ch - 6
    match s.th.tsType.getD i 0 with
    | 0 => s
    | 1 => s.reading ch (ntcTemp (s.th.ntc.getD 0 []) a.toNat)
    | 2 => s.reading ch (ntcTemp (s.th.ntc.getD 1 []) a.toNat)
    | _ => s.reading ch (diodeTemp (s.th.tsEta.getD i 0) a b)

/-- A REFIN channel, in codes of 0.125 mV, against the reference measured before the start (R305). -/
def State.refinChannel (s : State) (m : Fin 4) (a : Int) : State :=
  let mv := a.toNat / 8
  if s.refinFar m mv then s.refinFault m mv else { s with th.refinOk := s.th.refinOk.set m.val true }

/-- Channel 31 (R346): `a` the zero reading, `b` the half-scale reading. -/
def State.selfCheck (s : State) (a b : Int) : State :=
  if 4 < |a| ∨ 8 < |b - 8192| then { s with th.selfRun := s.th.selfRun + 1, th.selfZero := a, th.selfHalf := b }
  else State.clear { s with th.selfRun := 0 } F.HK_STATUS_SELF_FAIL

/-- The round ends: maxima, rates and levels, and the pack's account (R350, R352, R369, R379). -/
def State.hkEnd (s : State) : State :=
  let s : State := { s with th.running := false }
  let s := s.thermEval true
  s.when (s.flag F.PK_CFG_PACK_DECL) (fun s => s.packEstimate true)

/-- What one channel's result does (Table 12.1). The pack channels act through their capture. -/
def State.hkResult (s : State) (ch : Nat) (a b : Int) : State :=
  let bad := s.flag F.HK_STATUS_SELF_FAIL
  if ch < 14 then s.tempChannel ch a b
  else if ch < 18 then if bad then s else s.refinChannel (Fin.ofNat 4 (ch - 14)) a
  else if ch = 18 then { s with th.refAb := a }
  else if ch = 19 then { s with th.refBc := a }
  else if ch = 20 then if bad then s else s.refVote ⟨s.th.refAb, s.th.refBc, a⟩
  else if ch = 21 then if bad then s else s.set F.HK_V0_VAON 0 a.toNat
  else if ch = 22 then if bad then s else s.set F.HK_V0_VDD33 0 a.toNat
  else if ch = 23 then if bad then s else s.set F.HK_V1_VCORE 0 a.toNat
  else if ch = 24 then if bad then s else { s with th.busV := a.toNat }
  else if ch = 28 then if bad then s else { s with th.chgI := a }
  else if ch = 29 then if bad then s else s.set F.HK_V1_VDDIO 0 a.toNat
  else if ch = 31 then s.selfCheck a b
  else s

/-- The channel whose slot comes next: an undeclared TS input is skipped, and channel 30 comes only on demand (R343). -/
def State.hkNext (s : State) : Nat :=
  ((List.range 32).find? (fun c => decide (s.th.next ≤ c) && c != 30
    && !(decide (6 ≤ c) && decide (c < 14) && s.th.tsType.getD (c - 6) 0 == 0))).getD 31

/-- HK_SLOT_COMPLETE (R343 to R345): the channels come in order; a waiting request (channel 30) comes before the next slot. -/
def State.hkSlot (s : State) (ch : Nat) (a b : Int) : State :=
  if !s.hkRuns then s
  else if ch = 30 then
    if s.th.owed then { s with th.demand := s.th.demand - 1, th.owed := decide (1 < s.th.demand) } else s
  else if !s.th.running || s.th.owed || ch != s.hkNext then s
  else
    let s := s.hkResult ch a b
    let s : State := { s with th.next := ch + 1, th.owed := decide (0 < s.th.demand) }
    s.when (ch == 31) State.hkEnd

def execHkSlotComplete (t : Nat) (ch : Fin 32) (a b : Int) (s : State) := run t (fun s => s.hkSlot ch.val a b) s

/-- SELF_CHECK_FAIL (R346). -/
def State.selfFail (s : State) : State :=
  if 2 ≤ s.th.selfRun && !s.flag F.HK_STATUS_SELF_FAIL then
    (s.mark F.HK_STATUS_SELF_FAIL).logF 0x0C01 0 [(2, satS 16 s.th.selfZero), (2, satS 16 s.th.selfHalf)]
  else s

def execSelfCheckFail (t : Nat) (s : State) := run t State.selfFail s

/-- SENSOR_FAILED (R349): STALE_MAX consecutive out-of-range readings. -/
def State.sensorFail (s : State) (k : Nat) : State :=
  let x := s.sens k
  if !x.failed && decide (s.get F.HK_CFG_STALE_MAX ≤ x.bad) && x.bad != 0 then
    let last := s.temp (sensReg k)
    let s := (s.putTemp (sensReg k) none).putSens k { x with failed := true, good := 0 }
    let s := (s.mark F.THERM_STICKY_FAIL_S).logF 0x0C02 0 [(2, k), (2, last)]
    (s.windowsOf k).thermEval false
  else s

def execSensorFailed (t : Nat) (k : Fin 47) (s : State) := run t (fun s => s.sensorFail k.val) s

/-! ## TFLT (R348) -/

/-- TFLT_SCAN: one ball's code joins its sum of 16 unless SEN is low or the ball reads fault; the sum gives a temperature. -/
def State.tfltScan (s : State) (n : Fin 32) (code : Nat) : State :=
  if !s.awake || !s.flag F.PH_STATE_ASSIGNED n || !s.flag F.SEN_CFG_SEN_STATE (s.railOf n) || s.flag F.PWM_STATUS_TFLT_FAULT n then s
  else
    let (k, sum) := s.th.sum.getD n.val (0, 0)
    if k + 1 < 16 then { s with th.sum := s.th.sum.set n.val (k + 1, sum + code) }
    else
      let s : State := { s with th.sum := s.th.sum.set n.val (0, 0) }
      let s := s.reading (15 + n.val) (if s.th.tfSlope == 0 then none else tfltTemp s.th.tfV0 s.th.tfSlope s.th.tfVmin (sum + code))
      s.thermEval false

def execTfltScan (t : Nat) (n : Fin 32) (code : BitVec 10) (s : State) := run t (fun s => s.tfltScan n code.toNat) s

/-! ## Package shutdown (R354) -/

/-- PKG_TSHUT_STROBE: the comparators of the six die sensors; two consecutive high readings of one are fault 0x7. -/
def State.tshut (s : State) (cmp : Nat) : State :=
  if !s.awake || s.get F.TH_LIMITS_PKG_TSHUT = 0 then s else
  let twice := s.th.cmp &&& cmp
  let was := s.th.strobe
  let s := State.pkgShut { s with th.cmp := cmp, th.strobe := twice }
  s.when (twice != 0 && was == 0) (fun s => s.deviceLatch 7)

def execPkgTshutStrobe (t : Nat) (cmp : BitVec 6) (s : State) := run t (fun s => s.tshut cmp.toNat) s

/-! ## THERMAL section (R360) -/

/-- Bytes 0 to 15 (Table 12.5). -/
def thermalItems : List Item :=
  [itU 0 1 1 100 F.HK_CFG_HK_ROUND, itU 1 1 110 150 F.TH_LIMITS_PKG_TSHUT, itU 2 1 90 145 F.TH_LIMITS_PKG_TWARN,
   itU 3 1 1 15 F.HK_CFG_TD_HYS, itU 4 1 0 44 F.TH_LIMITS_CHG_TMIN, itU 5 1 1 45 F.TH_LIMITS_CHG_TMAX,
   itU 6 1 1 255 F.HK_CFG_STALE_MAX, itC 7 1 32 128, itU 9 1 2 16 F.HK_CFG_ROR_N, itC 10 2 0 1500, itC 12 2 1000 20000,
   itC 14 1 5 100, itZ 15 1 0 8]
/-- A TS record (Table 12.6). -/
def tsItems : List Item := [itC 0 1 0 3, itC 1 1 0 4, itZ 4 4 0 32]
/-- A region record (Table 12.7). -/
def regionThItems : List Item :=
  [itU 0 1 0 255 F.STEP_T_S1, itU 1 1 0 255 F.STEP_T_S2, itU 2 1 0 255 F.STEP_T_S3, itU 3 1 0 255 F.STEP_T_S4,
   itU 4 1 32 128 F.STEP_D_S1, itU 5 1 32 128 F.STEP_D_S2, itU 6 1 32 128 F.STEP_D_S3, itU 7 1 32 128 F.STEP_D_S4,
   itC 8 1 1 255, ⟨9, 1, 0, 8, -60, 0, true, none⟩, itC 10 1 32 128, itZ 11 5 0 40]

/-- A strictly falling table. -/
def fallingStrict : List Nat → Bool
  | a :: b :: l => decide (b < a) && fallingStrict (b :: l)
  | _ => true
/-- NTC table `t` of the section. -/
def ntcTab (b : List Byte) (t : Nat) : List Nat := words16 b (80 + 34 * t) 17
/-- The order of R351. -/
def stepOrder (r : List Byte) : Bool :=
  decide (rdU r 0 1 < rdU r 1 1 ∧ rdU r 1 1 < rdU r 2 1 ∧ rdU r 2 1 < rdU r 3 1
    ∧ rdU r 5 1 ≤ rdU r 4 1 ∧ rdU r 6 1 ≤ rdU r 5 1 ∧ rdU r 7 1 ≤ rdU r 6 1)

/-- The THERMAL section keeps its rules (R360), `pack` whether a PACK section is present. -/
def thermalOk (b : List Byte) (pack : Bool) : Bool :=
  b.length == 212 && itemsOk thermalItems b && decide (rdU b 4 1 < rdU b 5 1) && decide (rdU b 2 1 < rdU b 1 1)
    && (List.range 8).all (fun i =>
        let r := slice b (16 + 8 * i) 8
        itemsOk tsItems r
          && (if rdU r 0 1 = 3 then decide (0x4000 ≤ rdU r 2 2 ∧ rdU r 2 2 ≤ 0x4666) else rdU r 2 2 == 0)
          && (!(rdU r 0 1 == 1) || fallingStrict (ntcTab b 0)) && (!(rdU r 0 1 == 2) || fallingStrict (ntcTab b 1)))
    && (List.range 4).all (fun m => itemsOk regionThItems (slice b (148 + 16 * m) 16) && stepOrder (slice b (148 + 16 * m) 16))
    && (match rdU b 8 1 with
        | 0 => fallingStrict (ntcTab b 0)
        | 1 => fallingStrict (ntcTab b 1)
        | 255 => !pack
        | _ => false)

/-- Load the THERMAL section (step 8 of Table 4.8). -/
def State.loadThermal (s : State) (b : List Byte) : State :=
  let s := s.loadItems thermalItems 0 b
  let s := (List.range 4).foldl (fun s m => s.loadItems regionThItems m (slice b (148 + 16 * m) 16)) s
  { s with th := { s.th with
      sensorD := rdU b 7 1, batTab := if rdU b 8 1 = 255 then none else some (rdU b 8 1)
      tfV0 := rdU b 10 2, tfSlope := rdU b 12 2, tfVmin := rdU b 14 1
      tsType := (List.range 8).map (fun i => rdU b (16 + 8 * i) 1), tsRole := (List.range 8).map (fun i => rdU b (17 + 8 * i) 1)
      tsEta := (List.range 8).map (fun i => rdU b (18 + 8 * i) 2), ntc := [ntcTab b 0, ntcTab b 1]
      rgn := (List.range 4).map (fun m =>
        let x := s.rgnTh m
        let r := slice b (148 + 16 * m) 16
        { x with rorLim := rdU r 8 1, lowtLim := rdS r 9 1, lowtD := rdU r 10 1 }) } }

/-- The strap default of the section (Tables 12.5 to 12.7): no TS input, no pack thermistor. -/
def thermalDefault : List Byte :=
  leBytes 1 10 ++ leBytes 1 140 ++ leBytes 1 125 ++ leBytes 1 5 ++ leBytes 1 0 ++ leBytes 1 45 ++ leBytes 1 10 ++ leBytes 1 96
    ++ leBytes 1 255 ++ leBytes 1 4 ++ leBytes 2 600 ++ leBytes 2 8000 ++ leBytes 1 20 ++ leBytes 1 0
    ++ List.replicate 132 0
    ++ (List.range 4).flatMap (fun _ => [100, 110, 120, 130, 112, 96, 80, 64].map (BitVec.ofNat 8) ++ leBytes 1 20
        ++ leBytes 1 (ofS 8 (-40)) ++ leBytes 1 128 ++ List.replicate 5 0)

end Sys2Proof.Machine
end

