-- ==== Sys2Proof/Machine/Recorder.lean ====
section
/-!
DEFINITION. The recorder's intake and store (R430, R431), rate windows (R518), and the journal's commits (R439, R442 to R447).
-/
namespace Sys2Proof.Machine

/-- The code is sticky (R432). -/
def sticky (code : Nat) : Bool := stickyCodes.contains code

/-- Index of the newest entry that is not sticky. -/
def newestPlain (l : List Evt) : Option Nat := (l.reverse.findIdx? (fun e => !sticky e.code)).map (fun i => l.length - 1 - i)

/-- A rate-limited record folds into the pending count of its code and unit (R430, R518). -/
def State.foldBack (s : State) (e : Evt) : State :=
  let k := e.count.getD 1
  if s.rcd.wins.any (fun w => w.code == e.code && w.unit == e.unit) then
    { s with rcd.wins := s.rcd.wins.map (fun w =>
        if w.code == e.code && w.unit == e.unit then { w with count := min 65535 (w.count + k) } else w) }
  else { s with rcd.wins := s.rcd.wins ++ [⟨e.code, e.unit, k, e, s.now⟩] }

/-- RECORD_INTAKE (R430). -/
def State.intake (s : State) : State :=
  if !s.pow.cdUp then s else
  match s.rcd.evq with
  | [] => s
  | e :: q =>
    let s : State := { s with rcd.evq := q }
    let l := s.rcd.intake
    if l.length < 64 then { s with rcd.intake := l ++ [e] }
    else if e.count.isSome then s.foldBack e
    else
      let s := (s.inc F.REC_CTRL_INTAKE_DROP).mark F.REC_STATUS_INTAKE_S
      match newestPlain l with
      | some i => { s with rcd.intake := l.eraseIdx i ++ [e] }
      | none => s.when (sticky e.code) (fun s => s.mark F.REC_STATUS_STICKY_LOST)

def execRecordIntake (t : Nat) (s : State) := run t State.intake s

/-- Erase the oldest record of a kind: the list is newest first. -/
def dropOldest (p : Record → Bool) (l : List Record) : List Record :=
  match l.reverse.findIdx? p with
  | some i => (l.reverse.eraseIdx i).reverse
  | none => l
/-- The oldest record of a kind. -/
def oldest (p : Record → Bool) (l : List Record) : Option Record := l.reverse.find? p
/-- The record is sticky. -/
def Record.isSticky (r : Record) : Bool := r.flags % 2 == 1

/-- A sticky record is queued for the history, or is marked NOTJ (R432, R446). -/
def State.histQueue (s : State) (r : Record) : State × Record :=
  if s.jrn.hist.length < 64 then ({ s with jrn.hist := s.jrn.hist ++ [r] }, r)
  else
    let s := (s.inc F.JRN_STATUS_HIST_DROP).mark F.JRN_STICKY_HDROP_S
    (s.logC 0x0F07 0 [(2, r.code)], { r with flags := r.flags + 8 })

/-- Room for one more record (R431). -/
def State.makeRoom (s : State) (isSticky : Bool) : State :=
  let l := s.rcd.recs
  if isSticky && 512 ≤ (l.filter Record.isSticky).length then
    let lost := (oldest Record.isSticky l).map (fun r => r.code)
    let s := State.mark { s with rcd.recs := dropOldest Record.isSticky l } F.REC_STATUS_STICKY_LOST
    s.logC 0x0F06 0 [(2, (lost.getD 0 : Nat))]
  else if 4096 ≤ l.length then
    State.mark { s with rcd.recs := dropOldest (fun r => !r.isSticky) l } F.REC_STATUS_OVERWRITE_S
  else s

/-- RECORD_STORE (R431, R432): the oldest entry of the intake takes its SEQ and is stored. -/
def State.recordStore (s : State) : State :=
  if !s.pow.cdUp then s else
  match s.rcd.intake with
  | [] => s
  | e :: q =>
    let s : State := { s with rcd.intake := q }
    let st := sticky e.code
    let seq := (s.rcd.seq + 1) % 2 ^ 32
    let r := e.record seq st false
    let (s, r) := if st then s.histQueue r else (s, r)
    let s := s.makeRoom st
    State.set { s with rcd.recs := r :: s.rcd.recs, rcd.seq := seq } F.REC_NEWEST_SEQ 0 seq

def execRecordStore (t : Nat) (s : State) := run t State.recordStore s

/-- RECORD_RATE_WINDOW_END (R518): 1 ms after the window opened. -/
def State.windowEnd (s : State) (code unit : Nat) : State :=
  match s.rcd.wins.find? (fun w => w.code == code && w.unit == unit) with
  | none => s
  | some w =>
    if s.now < w.openAt + 1000000 then s else
    let rest := s.rcd.wins.filter (fun w => !(w.code == code && w.unit == unit))
    if w.count = 0 then { s with rcd.wins := rest }
    else State.emit { s with rcd.wins := rest ++ [{ w with count := 0, openAt := s.now }] } { w.last with count := some w.count } .none

def execRecordRateWindowEnd (t : Nat) (code : BitVec 16) (unit : Nat) (s : State) :=
  run t (fun s => s.windowEnd code.toNat unit) s

/-! ## Journal -/

def execJournalCommitStart (t : Nat) (vs : BitVec 11) (s : State) := run t (fun s => s.jrnEval vs.toNat) s

/-- JOURNAL_COMMIT_COMPLETE (R439, R444, R445): `ok` the read-back, `drop` the fall of VAON in µV. -/
def State.commitDone (s : State) (ok : Bool) (drop : Nat) : State :=
  match s.jrn.busy with
  | none => s
  | some c =>
    if ok then
      let s : State := { (s.clear F.JRN_STATUS_BUSY) with jrn := s.jrn.finish c.kind s.now }
      s.when c.onVaon (fun s => s.capMeasured (Commit.bytes c.kind c.payload) drop)
    else (s.jrnAbandon).jrnDefer c.kind 4

def execJournalCommitComplete (t : Nat) (ok : Bool) (drop : Nat) (s : State) := run t (fun s => s.commitDone ok drop) s

/-- JOURNAL_DEFER_RETRY (R445): every 100 µs while VDD33 is not good, every 1 ms otherwise. -/
def State.deferRetry (s : State) (vs : Nat) : State :=
  if s.jrn.deferred && decide (s.jrn.deferAt + (if s.flag F.SUPPLY_STATUS_VDD33_GOOD then 1000000 else 100000) ≤ s.now) then
    State.jrnEval ((State.clear { s with jrn.deferred := false } F.JRN_STATUS_DEFER).set F.JRN_STATUS_DEFER_CAUSE 0 0) vs
  else s

def execJournalDeferRetry (t : Nat) (vs : BitVec 11) (s : State) := run t (fun s => s.deferRetry vs.toNat) s

/-- FW_JOURNAL_REQUEST (R447): at most 4,080 bytes, from the policy firmware, which runs on the released cores and under the ROM policy
does not act (R24). -/
def State.fwJournal (s : State) (b : List Byte) : State :=
  if s.coresRun && !s.pow.romPolicy && decide (b.length ≤ 4080) then State.journalChanged { s with jrn.fw := b } 5 else s

def execFwJournalRequest (t : Nat) (payload : List Byte) (s : State) := run t (fun s => s.fwJournal payload) s

end Sys2Proof.Machine
end

