-- ==== Sys2Proof/Machine/View.lean ====
section
/-!
DEFINITION. Register reads: who reads (R11, R393), the access matrix (R395 to R397, R404, R405), and the value of each field,
whether held in the register store or shown from the block's state.
-/
namespace Sys2Proof.Machine

/-! ## The reader -/

/-- A path with the Person behind it (R11). -/
structure Who where
  path : Path
  person : Person
  deriving DecidableEq, Repr

/-- A session is open on a bus: 0 SPI, 1 PMBus (R393). -/
def State.sessOn (s : State) (bus : Nat) : Bool := s.sec.st == 2 && s.sec.bus == bus
/-- The Person behind an access (R11, R393). -/
def State.who (s : State) (p : Path) : Who :=
  ⟨p, match p with
    | .al0 | .al1 => .p1
    | .spi => if s.sessOn 0 then .p3 else .p2
    | .pmb => if s.sessOn 1 then .p3 else .p2
    | .sess => .p3
    | .fw => .fw⟩
/-- The host bus whose bank an access uses (R434): 0 SPI, 1 PMBus. -/
def State.busOf (s : State) (p : Path) : Nat :=
  match p with
  | .pmb => 1
  | .sess => s.sec.bus
  | _ => 0
/-- The Aedat port of a path. -/
def portOf : Path → Fin 2
  | .al1 => 1
  | _ => 0
/-- The path's code of Table 15.9; the spec gives firmware none. -/
def State.pathCode (s : State) (p : Path) : Nat :=
  match p with
  | .al0 => 0
  | .al1 => 1
  | .spi => 2
  | .pmb => 3
  | .sess => 2 + s.sec.bus
  | .fw => Config.fwPathCode

/-- The session holds a right of Table 14.6. -/
def State.right (s : State) (b : Nat) : Bool := s.sec.st == 2 && s.sec.rights.testBit b

/-! ## The matrix -/

/-- A rail that is fused off on a CZ1604, and so for a phase (R2, R491). -/
def State.noRail (s : State) (r : Nat) : Bool := s.cz1604 && 4 ≤ r
/-- A phase fused off. -/
def State.noPhase (s : State) (n : Nat) : Bool := s.cz1604 && 16 ≤ n

/-- How many of the instances of a field are indexed by rail (8), phase (32) or neither (0). -/
def Fld.index (f : Fld) : Nat :=
  if f.count = 32 then 32
  else if f.count = 8 && (f.stride = 0x100 || f.stride = 0x20 || f == F.RAIL_STATE_ST) then 8 else 0
/-- The field instance belongs to a fused-off rail or phase (R491). -/
def State.fusedField (s : State) (f : Fld) (i : Nat) : Bool :=
  (f.index == 8 && s.noRail i) || (f.index == 32 && s.noPhase i)
    || (s.cz1604 && 8 ≤ i && (f.base == 0x3880))
/-- The bits of a mask field that name fused-off rails or phases (R491). -/
def fusedMask (f : Fld) : Nat :=
  if f == F.CT_STATUS_CT_RAILS || f == F.RAIL_CLR_CLR || f == F.LOAD_CONSENT_CONS_RAIL || f == F.CONSENT_STAT_CONS_IN
    || f == F.SYNC_STATUS_SYNC_RAILS || f == F.TN_CTRL_TN_EN || f == F.TN_CTRL_TN_ALLOW || f == F.PROT_STATUS_RAIL_LATCHED
  then 0xF0 else if f == F.COH_HOLD_HOLD then 0xFFFF0000 else 0

/-- The rail a field instance follows (R395, R404): its own, or that of its phase. -/
def State.railFor (s : State) (f : Fld) (i : Nat) : Fin 8 :=
  if f.index = 32 then s.railOf (Fin.ofNat 32 i) else Fin.ofNat 8 i

/-- Consent is in force for a rail. -/
def State.consented (s : State) (r : Nat) : Bool := s.sec.cons.getD r 0 != 0
/-- No rail switches. -/
def State.allStill (s : State) : Bool := !allRails.any (fun r => (s.st r).switching)
/-- Raw fields of the rails picked are readable by P3 (R404, R405). -/
def State.rawOk (s : State) (rails : List (Fin 8)) : Bool :=
  s.right 2 && ((s.flag F.TLM_SHAPE_CONS_ALLOW && rails.all (fun r => s.consented r.val)) || (s.mode == .service && s.allStill))
/-- The enabled rails. -/
def State.enabledRails (s : State) : List (Fin 8) := allRails.filter (fun r => (s.cfg r).present && (s.cfg r).enabled)

/-- The reader may read the field instance (Table 14.1, Table 14.4, R399). -/
def State.mayRead (s : State) (w : Who) (f : Fld) (i : Nat) : Bool :=
  let own := s.serves (portOf w.path) (s.railFor f i)
  let deny := s.get F.TLM_SHAPE_P1_DENY
  match f.cls, w.person with
  | .opn, _ => true
  | .secret, _ => false
  | .raw, .p3 => s.rawOk [s.railFor f i]
  | .raw, .fw => true
  | .raw, _ => false
  | .host, .p1 => false
  | .host, _ => true
  | .rail, .p1 => own && !deny.testBit 0
  | .port, .p1 => i == (portOf w.path).val && !deny.testBit 0
  | .shaped, .p1 => f.index == 8 && own && !deny.testBit 1
  | _, _ => true

/-! ## Values shown from the state -/

/-- The mirror's entry of a phase (R337). -/
def State.mir (s : State) (n : Nat) : Sw × Health × Nat × Nat := s.mirPh.getD n (.unused, .ok, 0, 0)
/-- How many phases of a rail the mirror's test picks. -/
def State.countMir (s : State) (r : Nat) (p : Fin 32 → Sw × Health × Nat × Nat → Bool) : Nat :=
  ((s.phasesOf (Fin.ofNat 8 r)).filter (fun n => p n (s.mir n.val))).length

/-- Device, engine, phase and PWM registers. -/
def State.viewA (s : State) (f : Fld) (i : Nat) : Option Nat :=
  let r : Fin 8 := Fin.ofNat 8 i
  let n : Fin 32 := Fin.ofNat 32 i
  if f = F.DEVICE_ID_PART then some (if s.cz1604 then 0x1604 else 0x3208)
  else if f = F.MODE_STATUS_MODE then some s.mode.code
  else if f = F.MODE_STATUS_CT_FAIL_CNT then some (min 15 s.ctFailN)
  else if f = F.RAIL_STATE_ST then some (s.mirRail.getD i .off).code
  else if f = F.IMAGE_INFO_RB_COUNTER then some s.otp.rollback
  else if f = F.ENG_STATUS_D_EFF then some (s.dEff r)
  else if f = F.ENG_STATUS_N_LIVE then some (s.liveOf r).length
  else if f = F.DERATE_ILIM_RAIL then some (min 65535 (s.ilimRail r))
  else if f = F.PH_STATE_OBS_CNT then some (s.mir i).2.2.1
  else if f = F.PH_STATE_FAIL_CAUSE then some (s.mir i).2.2.2
  else if f = F.PH_STATE_HEALTH then some (s.mir i).2.1.code
  else if f = F.PH_STATE_SW_STATE then some (s.mir i).1.code
  else if f = F.PH_CUR_I_EST then some (ofS 12 (satS 12 (roundDiv (s.ph n).ihat 256)))
  else if f = F.PHC_STATUS_N_SW then some (s.countMir i (fun _ e => e.1.switching))
  else if f = F.PHC_STATUS_N_IDLE then some (s.countMir i (fun m e => e.1 == .idle && s.live m))
  else if f = F.PHC_STATUS_N_FAIL then some (s.countMir i (fun _ e => e.2.1 == .failed || e.2.1 == .retired))
  else if f = F.PHC_EFF_ADD_EFF then some (s.addEff r)
  else if f = F.PHC_EFF_SHED_EFF then some (s.shedEff r)
  else if f = F.PWM_TON_TON then some (s.ph n).ton
  else if f = F.PWM_STATUS_LEVEL then some (s.ball n).code
  else if f = F.HIC_STATUS_OFF_LEFT then
    some (if s.st r == .hiccup then ((s.fr r).hicAt + s.get F.HIC_CFG_HIC_OFF i * 1000000 - s.now) / 1000000 else 0)
  else if f = F.SP_STATUS_DAC_CODE then some (s.dacCode r)
  else if f = F.SP_STATUS_SLEWING then some (b2n (s.dacCode r != s.get F.SP_STATUS_SP_TGT i))
  else none

/-- Links, hints, protection and PMBus. -/
def State.viewB (s : State) (w : Who) (f : Fld) (i : Nat) : Option Nat :=
  let r : Fin 8 := Fin.ofNat 8 i
  let n : Fin 32 := Fin.ofNat 32 i
  let p : Fin 2 := Fin.ofNat 2 i
  if f = F.AL_STATUS_THROT then some (b2n (s.throt p))
  else if f = F.AL_STATUS_NOTE_N then some (s.port p).notes.length
  else if f = F.AL_STATUS_RD_PEND then some (b2n (s.port p).rd.isSome)
  else if f = F.TN_CTX_DATA_WORD then some (if w.person = .fw then 0 else s.ctxWord (s.get F.TN_CTX_SEL_CTX))
  else if f = F.PROT_STATUS_FAULT_N_ST then some (b2n s.faultN)
  else if f = F.PROT_STATUS_RAIL_LATCHED then
    some (allRails.foldl (fun (a : Nat) (q : Fin 8) => a + (if s.st q == .latched then 2 ^ q.val else 0)) 0)
  else if f = F.PH_PROT_PK_MV then some (min 511 (pkMv (s.get F.PKP_CFG_PK_LIM i) (s.ph n).gm))
  else if f = F.PH_PROT_NPK_MV then some (min 511 (pkMv (s.get F.PKP_CFG_NPK_LIM i) (s.ph n).gm))
  else if f = F.JRN_STATUS_PEND then some s.pendMask
  else if f = F.JRN_STATUS_HIST_Q then some s.jrn.hist.length
  else if f = F.PMB_STATUS_ALERT then some (b2n (s.alertBits != 0))
  else if f = F.PMB_RSTAT_STATUS_WORD then some (s.statusWord r)
  else if f = F.CJ_STATUS_PEERS_IN then
    some (if s.flag F.CJ_CFG_LEADER then
      (List.range 4).foldl (fun a c => a + (if (s.cj.peers.getD c {}).joined && !(s.cj.peers.getD c {}).lost then 2 ^ c else 0)) 0
      else 0)
  else if f = F.FW_PUB_STAGE_VALUE then some (if w.person = .fw then s.get f i else 0)
  else none

/-- The rails under consent. -/
def State.consIn (s : State) : Nat := (List.range 8).foldl (fun a r => a + (if s.consented r then 2 ^ r else 0)) 0
/-- A time of `n` ns in units of `u` ns, rounded up. -/
def upTo (n u : Nat) : Nat := (n + u - 1) / u
/-- Minutes before the earliest consent ends, rounded up. -/
def State.consLeft (s : State) : Nat :=
  let l := s.sec.cons.filter (fun t => t != 0)
  match l with
  | [] => 0
  | t :: l => min 255 (upTo (l.foldl min t - s.now) 60000000000)

/-- Security registers. -/
def State.viewC (s : State) (f : Fld) (i : Nat) : Option Nat :=
  let c := s.sec
  if f = F.SEC_STATUS_LIFECYCLE then some s.otp.life
  else if f = F.SEC_STATUS_OWN_GEN then some s.otp.ownGen
  else if f = F.SEC_STATUS_SESS_ST then some c.st
  else if f = F.SEC_STATUS_SESS_BUS then some c.bus
  else if f = F.SEC_STATUS_RAW_REQ then some (b2n (s.right 2))
  else if f = F.SEC_STATUS_TAP_OPEN then some (b2n c.tapOpen)
  else if f = F.SEC_STATUS_TAP_DIS then some (b2n s.otp.tapDis)
  else if f = F.SEC_STATUS_LOCKED_OUT then some (b2n c.locked)
  else if f = F.SEC_STATUS_SESS_ID then some c.sid
  else if f = F.KEY_STATE_SLOT_ST then some s.otp.slotWord
  else if f = F.IEK_STATE_IEK_ST then some s.otp.iekWord
  else if f = F.SLOT_TYPE_TYPE then some s.otp.typeWord
  else if f = F.SESS_STAT_LAST_RES then some c.lastRes
  else if f = F.SESS_STAT_RX_LEN then some c.rxLen
  else if f = F.SESS_STAT_RX_READY then some (b2n c.rxReady)
  else if f = F.SESS_STAT_BUSY then some (b2n c.busy)
  else if f = F.SESS_STAT_IDLE_LEFT then
    some (if c.st = 2 then min 255 (upTo (c.goAt + c.idleS * 1000000000 - s.now) 1000000000) else 0)
  else if f = F.SESS_RIGHTS_LIFE_LEFT then
    some (if c.st = 2 then min 65535 (upTo (c.openAt + c.lifeMin * 60000000000 - s.now) 60000000000) else 0)
  else if f = F.SESS_RIGHTS_GRANTED then some (if c.st = 2 then c.rights else 0)
  else if f = F.CONSENT_STAT_CONS_IN then some s.consIn
  else if f = F.CONSENT_STAT_CONS_LEFT then some s.consLeft
  else if f = F.CONSENT_STAT_PACK_RAW then some (b2n (s.rawOk s.enabledRails))
  else if f = F.AUTH_FAIL_LOCK_LEFT then some (min 1280 s.lockLeft)
  else if f = F.DEV_ID_HASH then some (beNat (slice s.otp.devId (4 * i) 4))
  else none

/-- Shaped registers, at the reader's class (R401, R402). -/
def State.viewD (s : State) (w : Who) (f : Fld) (i : Nat) : Option Nat :=
  let one := w.person == .p1
  let ri := (if one then s.tlm.ri1 else s.tlm.ri2).getD i {}
  let rv := (if one then s.tlm.rv1 else s.tlm.rv2).getD i {}
  let ph := s.tlm.ph.getD i {}
  if f = F.TLM_RI_WIN_CNT then some ri.cnt
  else if f = F.TLM_RI_I_SH then some (ofS 18 (satS 18 ri.out))
  else if f = F.TLM_RV_WIN_CNT then some rv.cnt
  else if f = F.TLM_RV_V_SH then some (satU 15 rv.out).toNat
  else if f = F.TLM_PH_WIN_CNT then some ph.cnt
  else if f = F.TLM_PH_I_SH then some (ofS 12 (satS 12 ph.out))
  else if f = F.PK_CUR_BAT_I then
    some (if w.person = .p3 && s.rawOk s.enabledRails then s.get F.PK_CUR_BAT_I else ofS 20 (satS 20 s.tlm.pkOut))
  else none

/-! ## The recorder's banks (R434) -/

/-- The bank of a bus. -/
def State.bank (s : State) (bus : Nat) : RecBank := if bus = 1 then s.rcd.pmb else s.rcd.spi
/-- Change the bank of a bus. -/
def State.putBank (s : State) (bus : Nat) (b : RecBank) : State :=
  if bus = 1 then { s with rcd.pmb := b } else { s with rcd.spi := b }

/-- The history entry of an HSEQ (R441): its 32 bytes with HIST set in RFLAGS. -/
def State.histEntry (s : State) (h : Nat) : Option (List Byte) :=
  let n := h % 5120
  let b := mramRead s.jrn.mram (histWord n) 9
  if (histValid s.jrn.mram).contains n && leNat (slice b 32 4) == h then
    some ((slice b 0 2) ++ [BitVec.ofNat 8 ((leNat (slice b 2 1)) ||| 16)] ++ slice b 3 29)
  else none
/-- The bytes of the record that a bank selects. -/
def State.selected (s : State) (b : RecBank) : Option (List Byte) :=
  if b.hist then s.histEntry b.sel
  else (s.rcd.recs.find? (fun r => r.seq == b.sel)).map Record.bytes
/-- REC_SEL is written or advances: the record is captured afresh (R434). -/
def State.recSel (s : State) (bus sel : Nat) : State :=
  let b := { s.bank bus with sel := sel % 2 ^ 32 }
  match s.selected b with
  | some l => s.putBank bus { b with cap := (List.range 8).map (fun i => leNat (slice l (4 * i) 4)), missDue := false }
  | none => s.putBank bus { b with cap := [], missDue := true }

/-- The detail items that carry a measured current, duty or error code (R403): byte offset in DETAIL and width. -/
def measured (code : Nat) : List (Nat × Nat) :=
  if code = 0x0507 || code = 0x0A02 || code = 0x0A06 then [(1, 2)]
  else if code = 0x0601 then [(1, 2), (3, 2)]
  else if code = 0x0602 then [(2, 2), (4, 2)]
  else if code = 0x0A10 then [(2, 2)]
  else []
/-- A captured record as P2 receives it (R403): the low bits of measured items cleared to the P2 current quantum. -/
def State.quantised (s : State) (cap : List Nat) : List Nat :=
  let q := 3 + addOf (s.get F.TLM_SHAPE_Q_ADD) true
  let b := cap.flatMap (leBytes 4)
  let b := (measured (leNat (slice b 0 2))).foldl (fun b e =>
    let v := leNat (slice b (16 + e.1) e.2)
    b.take (16 + e.1) ++ leBytes e.2 (v / 2 ^ q * 2 ^ q) ++ b.drop (16 + e.1 + e.2)) b
  (List.range 8).map (fun i => leNat (slice b (4 * i) 4))
/-- REC_DATA as the reader receives it. -/
def State.recData (s : State) (w : Who) (i : Nat) : Nat :=
  let b := s.bank (s.busOf w.path)
  (if w.person = .p2 && b.cap != [] then s.quantised b.cap else b.cap).getD i 0

/-- Recorder registers. -/
def State.viewE (s : State) (w : Who) (f : Fld) (i : Nat) : Option Nat :=
  let b := s.bank (s.busOf w.path)
  if f = F.REC_STATUS_N_REC then some s.rcd.recs.length
  else if f = F.REC_STATUS_N_STICKY then some (s.rcd.recs.filter Record.isSticky).length
  else if f = F.REC_SEL_SEL then some b.sel
  else if f = F.REC_CTRL_HIST then some (b2n b.hist)
  else if f = F.REC_CTRL_AUTO then some (b2n b.auto)
  else if f = F.REC_DATA_DATA then some (s.recData w i)
  else if f = F.SESS_MBOX_WORD then some (s.sec.pop.getD 0 0)
  else none

/-! ## Reads -/

/-- A write-only field reads 0 (R9). -/
def Acc.wo : Acc → Bool
  | .woP3 | .woP23 => true
  | _ => false
/-- A step of Table 4.8 loads the field (R493). -/
def Fld.loaded (f : Fld) : Bool := f.img || f == F.PH_STATE_FAIL_CNT || f == F.JRN_CAP_C_MEAS
/-- PARSE is done (R493). -/
def State.parsed (s : State) : Bool := s.flag F.PARSE_STATUS_DONE

/-- The value of a field instance as the reader receives it. Before DONE a loaded field reads its reset value (R493). -/
def State.value (s : State) (w : Who) (f : Fld) (i : Nat) : Nat :=
  if f.acc.wo then 0
  else if f.loaded && !s.parsed then f.reset
  else
    let v := match s.viewA f i with
      | some v => v
      | none => match s.viewB w f i with
        | some v => v
        | none => match s.viewC f i with
          | some v => v
          | none => match s.viewD w f i with
            | some v => v
            | none => (s.viewE w f i).getD (s.get f i)
    if s.cz1604 then v - (v &&& fusedMask f) else v

/-- The fused-off ranges of a CZ1604 (Table 17.14). -/
def fusedAddr (a : Nat) : Bool :=
  let within := fun (lo hi : Nat) => lo ≤ a && a ≤ hi
  within 0x02C0 0x02FF || within 0x1400 0x17FF || within 0x2400 0x27FF || within 0x3180 0x31FF || within 0x3440 0x347F
    || within 0x34C0 0x34FF || within 0x5180 0x51FF
/-- STORE_KP to STORE_CLAMP stand at the same offsets in every rail block and are one set of registers (R145). -/
def normAddr (a : Nat) : Nat :=
  if 0x1000 ≤ a && a < 0x1800 && 0x34 ≤ a % 256 && a % 256 ≤ 0x48 then 0x1000 + a % 256 else a
/-- The field instances at an address; none for an unassigned or fused-off one (R10, R491). -/
def State.fieldsFor (s : State) (a : Nat) : List (Fld × Nat) :=
  if s.cz1604 && fusedAddr a then [] else fieldsAt (normAddr a)

/-- Results of an access (Table 16.2): OK 0, ACCESS 3, ADDRESS 4, VALUE 5. -/
def rOk : Nat := 0
/-- Result code ACCESS. -/
def rAccess : Nat := 3
/-- Result code ADDRESS. -/
def rAddress : Nat := 4
/-- Result code VALUE. -/
def rValue : Nat := 5

/-- The registers that stay open to the bus of an open session (R393). -/
def sessAddr (a : Nat) : Bool := a == 0x0200 || a == 0x0210 || a == 0x0214 || a == 0x0218
/-- The access comes unsealed on the bus of an open session and is refused (R393). -/
def State.sealOff (s : State) (p : Path) (a : Nat) : Bool :=
  !sessAddr a && ((p == .spi && s.sessOn 0) || (p == .pmb && s.sessOn 1))

/-- A refused access sets ACC_DENY_S and is recorded as 0x0E01 (R397, R9, R426). -/
def State.denied (s : State) (w : Who) (a : Nat) (wr : Bool) : State :=
  let c := s.pathCode w.path
  (s.mark F.SEC_STICKY_ACC_DENY_S).logC 0x0E01 c [(1, w.person.code), (2, c), (2, a), (2, b2n wr)]

/-- What a read of a register does beside answering: an answer word leaves the mailbox (R412); REC_DATA7 under AUTO advances the
selection, and a selection not held sets REC_MISS (R434). -/
def State.readEffect (s : State) (w : Who) (a : Nat) : State :=
  let bus := s.busOf w.path
  if a = 0x0218 then
    let l := s.sec.pop.drop 1
    { s with sec := { s.sec with pop := l, rxReady := s.sec.rxReady && !l.isEmpty } }
  else if 0x6010 ≤ a && a ≤ 0x602C then
    let b := s.bank bus
    let s := if b.missDue then (s.mark F.REC_STATUS_REC_MISS).putBank bus { b with missDue := false } else s
    if a = 0x602C && b.auto then s.recSel bus (b.sel + 1) else s
  else if a = 0x5014 && w.person != .fw then s.ctxCheck (s.get F.TN_CTX_SEL_CTX)
  else s

/-- The control die's registers can be reached. -/
def State.regsUp (s : State) : Bool :=
  s.pow.cdUp && s.mode != .caretaker && s.mode != .dormant && s.mode != .wake

/-- A read access: its result, its data and the state after it (R397, R486, R491). -/
def State.regRead (s : State) (w : Who) (a : Nat) : Nat × Nat × State :=
  if s.sealOff w.path a then (rAccess, 0, s.denied w a false)
  else
    let l := s.fieldsFor a
    if l.isEmpty then (rAddress, 0, s)
    else
      let seen := l.filter (fun e => s.mayRead w e.1 e.2)
      if seen.isEmpty then (rAccess, 0, s.denied w a false)
      else
        let v := (seen.filter (fun e => !s.fusedField e.1 e.2)).foldl
          (fun acc e => acc + s.value w e.1 e.2 % 2 ^ e.1.width * 2 ^ e.1.pos e.2) 0
        (rOk, v, s.readEffect w a)

end Sys2Proof.Machine
end

