-- ==== Sys2Proof/Machine/Access.lean ====
section
/-!
DEFINITION. Register writes: which fields a write counts as written (R515), the Person of each (R398, R400, R488), R493, each
field's own rule and the less protective writes (R34), and what an accepted write does.
-/
namespace Sys2Proof.Machine

/-! ## Fields counted as written (R515) -/

/-- The value a field holds for the reader's bus: the two bank fields of the recorder, else the register store. -/
def State.held (s : State) (w : Who) (f : Fld) (i : Nat) : Nat :=
  let b := s.bank (s.busOf w.path)
  if f = F.REC_SEL_SEL then b.sel else if f = F.REC_CTRL_HIST then b2n b.hist else if f = F.REC_CTRL_AUTO then b2n b.auto
  else s.get f i

/-- The value a write carries for a field instance, without the bits of fused-off resources (R491). -/
def State.carried (s : State) (f : Fld) (i v : Nat) : Nat :=
  let x := bits v (f.pos i) f.width
  if s.cz1604 then x - (x &&& fusedMask f) else x

/-- The field instance counts as written with value `x` (R515). The mailbox word acts on every value. -/
def State.counted (s : State) (w : Who) (f : Fld) (i x : Nat) : Bool :=
  match f.acc with
  | .ro => false
  | .w1c | .w1cP23 => x != 0
  | .woP3 | .woP23 => f == F.SP_CMD_CODE || x != 0
  | _ => f == F.SESS_MBOX_WORD || x != s.held w f i

/-- The field instances of a write that count, with their values. -/
def State.writes (s : State) (w : Who) (a v : Nat) : List (Fld × Nat × Nat) :=
  ((s.fieldsFor a).filter (fun e => !s.fusedField e.1 e.2)).filterMap (fun e =>
    let x := s.carried e.1 e.2 v
    if s.counted w e.1 e.2 x then some (e.1, e.2, x) else none)

/-- The Person may write the field (R9, R398, R400, R488). -/
def State.mayWrite (s : State) (p : Person) (f : Fld) : Bool :=
  match p, f.acc with
  | _, .ro => true
  | .p1, .rwP1 => true
  | .p1, _ => false
  | .fw, .rwP1 => false
  | .fw, _ => !(f.base == 0x0210 || f.base == 0x0218 || f == F.REC_CLR_CLR_STICKY)
  | _, .rwP1 | _, .fw => false
  | .p3, .rwP3 | .p3, .woP3 => s.right 1
  | _, .rwP3 | _, .woP3 => false
  | _, _ => true

/-! ## Less protective writes (R34) -/

/-- Limits that a larger value makes less protective. -/
def limitsUp : List Fld :=
  [F.PROT_CFG_BUS_OV, F.PROT_CFG_VSTALE_D, F.RP_WIN_OV_TH, F.RP_WIN_UV_TH, F.RP_WIN_OV_FILT, F.RP_WIN_UV_FILT, F.RP_TRACK_OV_LAG,
   F.RP_TRACK_UV_LAG, F.RP_TRACK_OV_ABS, F.RP_TIME_OC_SUST, F.RP_SENSE_SNS_WIN, F.RP_SENSE_AUX_D, F.RP_SENSE_FRZ_DUTY,
   F.RP_PHW_PH_POS, F.RP_PHW_PH_NEG, F.RP_MISC_PHW_N, F.RP_MISC_BRK_N, F.RP_MISC_BRK_TMAX, F.RP_MISC_AUX_ALLOW, F.PKP_CFG_PK_LIM,
   F.PWM_CTRL_CUT_N, F.HIC_CFG_HIC_RETRY, F.HIC_CFG_HIC_UNLIM, F.PHC_OBS_OBS_WIN, F.PHC_OBS_OBS_N, F.RGN_BUDGET_IN_BUDGET,
   F.TN_HCAP_HINT_CAP, F.TN_CAP_F_POS_CAP, F.TN_CAP_F_NEG_CAP, F.STEP_T_S1, F.STEP_T_S2, F.STEP_T_S3, F.STEP_T_S4, F.STEP_D_S1,
   F.STEP_D_S2, F.STEP_D_S3, F.STEP_D_S4, F.TH_LIMITS_PKG_TWARN, F.TH_LIMITS_PKG_TSHUT, F.HK_CFG_HK_ROUND, F.HU_CFG_HU_D,
   F.CJ_SPAN_ISLAND_MAX, F.CJ_ILIM_PEER_D, F.CJ_DERATE_ISLAND_D]
/-- Limits that a smaller value makes less protective. -/
def limitsDown : List Fld := [F.PROT_CFG_FN_RAIL, F.RP_TIME_PG_DLY, F.HIC_CFG_HIC_OFF, F.CJ_SPAN_SYS_MIN_LIVE]
/-- Limits whose 0 turns the detector off: less protective when larger, or 0 where the image has it on. -/
def limitsOff : List Fld := [F.RP_TIME_UV_HIC_T, F.PKP_CFG_NPK_LIM]

/-- The temperature steps of a region keep the order of R351. -/
def stepsOk (nv : Fld → Nat → Nat) (m : Nat) : Bool :=
  nv F.STEP_T_S1 m < nv F.STEP_T_S2 m && nv F.STEP_T_S2 m < nv F.STEP_T_S3 m && nv F.STEP_T_S3 m < nv F.STEP_T_S4 m
    && nv F.STEP_D_S2 m ≤ nv F.STEP_D_S1 m && nv F.STEP_D_S3 m ≤ nv F.STEP_D_S2 m && nv F.STEP_D_S4 m ≤ nv F.STEP_D_S3 m

/-- The write would make a limit less protective than the image's (R34, R355). -/
def State.lessProtective (s : State) (nv : Fld → Nat → Nat) (f : Fld) (i x : Nat) : Bool :=
  let g := s.imgGet f i
  (limitsUp.contains f && g < x) || (limitsDown.contains f && x < g)
    || (limitsOff.contains f && g != 0 && (x == 0 || g < x))
    || ((f.base == 0x3850 || f.base == 0x3860) && !stepsOk nv i)

/-! ## Ranges and conditions -/

/-- The ranges that the register maps give, beyond the width of the field. -/
def ranges : List (Fld × Nat × Nat) :=
  [(F.LS_CFG_LS_MAX, 1, 63), (F.PH_CFG_SHARE_W, 1, 15), (F.PH_CAL_CAL_GAIN, 0x2000, 0x6000), (F.PHC_CTRL_FW_NMIN, 0, 32),
   (F.PHC_OBS_OBS_WIN, 16, 255), (F.PHC_OBS_OBS_G, 2, 6), (F.PHC_OBS_OBS_N, 1, 15), (F.PHC_OBS_OBS_SETTLE, 1, 64),
   (F.PHC_TIME_SHED_DWELL, 1, 255), (F.PHC_TIME_DE_DWELL, 1, 255), (F.PHC_TIME_SHED_RAMP, 1, 64), (F.PWM_TIME_BLANK, 0, 128),
   (F.PWM_TIME_BST_W, 16, 80), (F.PWM_CTRL_BST_N, 1, 64), (F.PWM_CTRL_CUT_N, 1, 255), (F.HIC_CFG_HIC_OFF, 1, 1000),
   (F.VSEL_STATUS_VSEL_FILT, 1, 255), (F.NEG_FF_NEG_LIM, 0, 0x7FFF), (F.RP_WIN_OV_TH, 4, 127), (F.RP_WIN_UV_TH, 4, 127),
   (F.RP_WIN_OV_FILT, 1, 15), (F.RP_WIN_UV_FILT, 1, 255), (F.RP_SENSE_SNS_WIN, 4, 63), (F.RP_SENSE_AUX_D, 64, 128),
   (F.HU_CFG_HU_D, 64, 128), (F.CJ_ILIM_PEER_D, 64, 128), (F.CJ_DERATE_ISLAND_D, 64, 128), (F.RP_SENSE_FRZ_DUTY, 16, 4096),
   (F.ENG_CFG_RATE_SH, 0, 4)]
/-- The value keeps the field's range. -/
def inRange (f : Fld) (x : Nat) : Bool := ranges.all (fun e => e.1 != f || (e.2.1 ≤ x && x ≤ e.2.2))

/-- The rails named in the synchronisation settings, as they stand and as written. -/
def State.syncNamed (s : State) (nv : Fld → Nat → Nat) : List (Fin 8) :=
  let out := fun (v : Fld → Nat → Nat) => if v F.SYNC_CFG_SYNCO_EN 0 = 1 then 2 ^ v F.SYNC_CFG_SYNCO_RAIL 0 else 0
  let m := s.get F.SYNC_STATUS_SYNC_RAILS ||| nv F.SYNC_STATUS_SYNC_RAILS 0 ||| out (fun f i => s.get f i) ||| out nv
  allRails.filter (fun r => m.testBit r.val)
/-- A field of the synchronisation settings. -/
def Fld.isSync (f : Fld) : Bool := f.base == 0x0120 || f == F.SYNC_STATUS_SYNC_RAILS
/-- SYNC_DLY lies below the period of every phase that follows SYNCI. -/
def State.syncDlyOk (s : State) (nv : Fld → Nat → Nat) : Bool :=
  allPhases.all (fun n => !(s.flag F.PH_STATE_ASSIGNED n && (nv F.SYNC_STATUS_SYNC_RAILS 0).testBit (s.railOf n).val)
    || nv F.SYNC_CFG_SYNC_DLY 0 < s.get F.PWM_PERIOD_PERIOD n)

/-- The rails that a mask of request bits names. -/
def railsOf (m : Nat) : List (Fin 8) := allRails.filter (fun r => m.testBit r.val)

/-- The set-point source behind a write of SP_CMD (Table 8.1). -/
def spSource (p : Person) : Nat := if p = .p3 then 5 else 4

/-- A refusal of an accepted Person's write: its result and what the refusal itself does. -/
structure Refused where
  res : Nat
  act : State → State

/-- A field's own rule refuses the value (VALUE), with what the refusal records. `both` says that the access also writes the
partner of a pair (R203). -/
def State.fieldRule (s : State) (w : Who) (a : Nat) (nv : Fld → Nat → Nat) (both : Bool) (e : Fld × Nat × Nat) : Option Refused :=
  let f := e.1
  let i := e.2.1
  let x := e.2.2
  let r : Fin 8 := Fin.ofNat 8 i
  let n : Fin 32 := Fin.ofNat 32 i
  let value := some (Refused.mk rValue id)
  if s.lessProtective nv f i x then some ⟨rValue, fun s => s.logF 0x0104 0 [(2, a), (1, w.person.code)]⟩
  else if !inRange f x then value
  else if f.base = 0x1010 then if nv F.DUTY_LIM_DUTY_MIN i < nv F.DUTY_LIM_DUTY_MAX i then none else value
  else if f.base = 0x1024 then
    if 1 ≤ nv F.OP_BAND_NB1 i && nv F.OP_BAND_NB1 i ≤ nv F.OP_BAND_NB2 i && nv F.OP_BAND_NB2 i ≤ nv F.OP_BAND_NB3 i then none else value
  else if f = F.ENG_CFG_RATE_SH then if s.st r == .off then none else value
  else if f.isSync then
    if (s.syncNamed nv).all (fun r => s.st r == .off) then (if s.syncDlyOk nv then none else value)
    else some ⟨rValue, fun s => s.logC 0x0E01 (s.pathCode w.path)
      [(1, w.person.code), (2, s.pathCode w.path), (2, a), (2, 1)]⟩
  else if f = F.PWM_CTRL_INVERT then
    if s.overrideOk n then none else some ⟨rValue, fun s => s.overrideRefused n 0⟩
  else if f = F.PWM_CTRL_SWAP then
    if s.overrideOk n && both then none else some ⟨rValue, fun s => s.overrideRefused n 1⟩
  else if f = F.SET_CTRL_STORE_WR then
    if s.stagedOk then none else some ⟨rValue, fun s => s.storeRefused r (nv F.SET_CTRL_STORE_ID i)⟩
  else if f = F.SP_CMD_CODE then
    match s.spCheck r (spSource w.person) x with
    | none => none
    | some why => some ⟨rValue, fun s => s.spRefused r (spSource w.person) why x⟩
  else if f.base = 0x10B8 then
    if s.winOk r (nv F.SP_WIN_P1_MIN i) (nv F.SP_WIN_P1_MAX i) then none
    else some ⟨rValue, fun s => s.winRec r (nv F.SP_WIN_P1_MIN i) (nv F.SP_WIN_P1_MAX i) w.person.code 1⟩
  else if f = F.RAIL_CLR_CLR then
    if (railsOf x).all s.railClrOk then none
    else some ⟨rValue, fun s => (railsOf x).foldl (fun (s : State) (r : Fin 8) =>
      if s.railClrOk r then s else s.railClrRec r w.person.code 1) s⟩
  else if f = F.SESS_CTRL_GO then if s.sec.busy then value else none
  else if f.base = 0x0220 then
    if s.sec.st = 2 && nv F.LOAD_CONSENT_CONS_ID 0 = s.sec.sid && s.flag F.TLM_SHAPE_CONS_ALLOW then none
    else some ⟨rAccess, fun s => s.logC 0x0E01 (s.pathCode w.path)
      [(1, w.person.code), (2, s.pathCode w.path), (2, a), (2, 1)]⟩
  else none

/-! ## What accepted writes do -/

/-- CLEAR_FAULTS on the pages given, with STATUS_CML (R462). What stays present sets again at once. -/
def State.pmbClear (s : State) (pages : List (Fin 8)) : State :=
  let s := pages.foldl (fun (s : State) (r : Fin 8) =>
    [F.PMB_RSTAT_STATUS_WORD, F.PMB_RSTAT_STATUS_VOUT, F.PMB_RSTAT_STATUS_IOUT, F.PMB_RSTAT2_STATUS_MFR, F.PMB_RSTAT2_STATUS_TEMP,
     F.PMB_RSTAT2_STATUS_INPUT].foldl (fun (s : State) (f : Fld) => s.clear f r) s) s
  { (s.clear F.PMB_STATUS_STATUS_CML) with pmb.seen := 0 }

/-- CLR removes the records that are not sticky, CLR_STICKY every record; 0x0F08 follows (R435). -/
def State.recClear (s : State) (person : Nat) (all : Bool) : State :=
  let s : State := { s with rcd.recs := if all then [] else s.rcd.recs.filter Record.isSticky }
  s.logC 0x0F08 0 [(1, person), (2, b2n all)]

/-- A word pushed into the mailbox (R412). The longest message has 134 words. -/
def State.mboxPush (s : State) (x : Nat) : State :=
  { s with sec.push := if s.sec.push.length < 134 then s.sec.push ++ [x] else s.sec.push }

/-- GO submits the message in the mailbox (R412): LEN bytes of the words pushed. -/
def State.mboxGo (s : State) (bus : Nat) : State :=
  let len := s.get F.SESS_CTRL_LEN
  let msg := (s.sec.push.flatMap (beBytes 4) ++ List.replicate len 0).take len
  { s with sec := { s.sec with push := [], msg := msg, msgBus := bus, msgAt := s.now, busy := true
                               goAt := if s.sec.st = 2 && s.sec.bus = bus then s.now else s.sec.goAt } }

/-- LOAD_CONSENT by a port (R404): consent of the rails it serves, withdrawn by a mask of 0. -/
def State.consent (s : State) (p : Fin 2) (mask minutes : Nat) : State :=
  let own := maskOf (fun r => s.serves p r)
  let hit := if mask = 0 then own else mask &&& own
  let m := if mask = 0 then 0 else min minutes s.sec.consMax
  let cons := (List.range 8).map (fun r =>
    if hit.testBit r then (if m = 0 then 0 else s.now + m * 60000000000) else s.sec.cons.getD r 0)
  let s : State := { s with sec.cons := cons }
  (s.mark F.SEC_STICKY_CONS_S).logC 0x0E05 0 [(1, p.val), (1, hit), (1, m)]

/-- The action of a field beyond holding its value; `none` where the field only holds it. -/
def State.fieldAct (s : State) (w : Who) (nv : Fld → Nat → Nat) (e : Fld × Nat × Nat) : Option State :=
  let f := e.1
  let i := e.2.1
  let x := e.2.2
  let r : Fin 8 := Fin.ofNat 8 i
  let n : Fin 32 := Fin.ofNat 32 i
  let bus := s.busOf w.path
  if f.acc = .w1c || f.acc = .w1cP23 then some (s.set f i (s.get f i - (s.get f i &&& x)))
  else if f = F.MODE_STATUS_SAFESTOP_CLR then
    some (if s.mode == .safestop then { s with pow.wantSafestopClr := true } else s)
  else if f = F.MODE_STATUS_SLEEP_REQ then some (s.when s.timedWake State.shutdown)
  else if f = F.DERATE_FW_DERATE then some (s.set f i (min x 128))
  else if f.base = 0x1000 || f.base = 0x100C || f.base = 0x1010 || f.base = 0x2010 then
    some ((s.load f i x).when (f.base == 0x2010) (fun s => s.journalChanged 3))
  else if f = F.SET_CTRL_STORE_WR then some (s.storeWrite (nv F.SET_CTRL_STORE_ID i))
  else if f = F.SP_CMD_CODE then some (s.spAccept r (spSource w.person) x 0)
  else if f.base = 0x10B8 then
    some (if f = F.SP_WIN_P1_MIN || nv F.SP_WIN_P1_MIN i = s.get F.SP_WIN_P1_MIN i
      then s.winWrite r (nv F.SP_WIN_P1_MIN i) (nv F.SP_WIN_P1_MAX i) w.person.code else s)
  else if f = F.SP_CTRL_SRC_EN then some (s.set f i (x &&& s.get F.SP_CTRL_SRC_MASK i))
  else if f = F.TN_CTRL_TN_EN then some (s.set f i (x &&& s.get F.TN_CTRL_TN_ALLOW))
  else if f = F.TN_CTX_SEL_CMD then some (s.ctxCmd x (nv F.TN_CTX_SEL_CTX 0) w.person.code)
  else if f = F.PWM_CTRL_FORCE_TRI then some (s.forceTri n (x == 1))
  else if f = F.RAIL_CLR_CLR then some ((railsOf x).foldl (fun (s : State) (r : Fin 8) => s.railClr r w.person.code) s)
  else if f = F.PK_CTRL_PK_TEST then some s.testStart
  else if f = F.PK_CTRL_PK_CLR then some s.pkClr
  else if f = F.SESS_CTRL_GO then some (s.mboxGo bus)
  else if f = F.SESS_CTRL_ABORT then some (s.endSession 2)
  else if f = F.SESS_MBOX_WORD then some (s.mboxPush x)
  else if f = F.REC_SEL_SEL then some s
  else if f = F.REC_CTRL_HIST then some (s.putBank bus { s.bank bus with hist := x == 1 })
  else if f = F.REC_CTRL_AUTO then some (s.putBank bus { s.bank bus with auto := x == 1 })
  else if f = F.REC_CLR_CLR then some (s.recClear w.person.code false)
  else if f = F.REC_CLR_CLR_STICKY then some (s.recClear w.person.code true)
  else if f = F.PMB_CLR_CLR then some (s.pmbClear allRails)
  else none

/-- One field of an accepted write. -/
def State.fieldWrite (s : State) (w : Who) (nv : Fld → Nat → Nat) (e : Fld × Nat × Nat) : State :=
  (s.fieldAct w nv e).getD (s.set e.1 e.2.1 e.2.2)

/-- A field that holds a value comes before one that acts on it, so that an action sees the values of its own access. -/
def actsLast (l : List (Fld × Nat × Nat)) : List (Fld × Nat × Nat) :=
  l.filter (fun e => !e.1.acc.wo) ++ l.filter (fun e => e.1.acc.wo)

/-- What every write of REC_SEL does, the value that it holds included (R434). P1 has no access to the recorder. -/
def State.selEffect (s : State) (w : Who) (a v : Nat) : State :=
  if a = 0x6008 && w.person != .p1 then s.recSel (s.busOf w.path) v else s
/-- The consent that a write of LOAD_CONSENT gives or withdraws, where it changes a field of it (R404, R515). -/
def State.consentEffect (s : State) (w : Who) (nv : Fld → Nat → Nat) (l : List (Fld × Nat × Nat)) : State :=
  s.when (l.any (fun e => e.1.base == 0x0220))
    (fun s => s.consent (portOf w.path) (nv F.LOAD_CONSENT_CONS_RAIL 0) (nv F.LOAD_CONSENT_CONS_MIN 0))

/-- The first check of a write access: the seal of a session (R393), the address (R486), the Person of each field that counts
(R398), R493. OK where none fails. -/
def State.writeCheck (s : State) (w : Who) (a v : Nat) : Nat :=
  if s.sealOff w.path a then rAccess
  else if (s.fieldsFor a).isEmpty then rAddress
  else
    let l := s.writes w a v
    if l.any (fun e => !s.mayWrite w.person e.1) then rAccess
    else if l.any (fun e => e.1.img && !s.parsed && e.1.acc != .w1c) then rValue
    else rOk

/-- The value a field instance has after the write: the one carried where it stands in the register written. -/
def State.after (s : State) (w : Who) (a v : Nat) (f : Fld) (i : Nat) : Nat :=
  if (s.fieldsFor a).contains (f, i) && !s.fusedField f i then s.carried f i v else s.held w f i

/-- A write access: its result and the state after it (R515, R393, R398, R493, R34). -/
def State.regWrite (s : State) (w : Who) (a v : Nat) (both : Bool) : Nat × State :=
  let c := s.writeCheck w a v
  if c = rAccess then (c, s.denied w a true)
  else if c != rOk then (c, s)
  else
    let l := s.writes w a v
    let nv := s.after w a v
    match l.findSome? (s.fieldRule w a nv both) with
    | some q => (q.res, q.act s)
    | none => (rOk, (((actsLast l).foldl (fun s e => s.fieldWrite w nv e) s).consentEffect w nv l).selEffect w a v)

/-! ## The rows that are register writes -/

/-- A path reaches the registers: an Aedat port that is up (R46, R256), host SPI with VDDIO good (R49), a session that is open, the
firmware of an image while the policy cores run (the ROM policy writes nothing, R24). -/
def State.pathUp (s : State) (p : Path) : Bool :=
  s.regsUp && (match p with
    | .al0 | .al1 => s.flag F.AL_CFG_PORT_EN (portOf p) && s.flag F.SUPPLY_STATUS_AL_IO_GOOD
    | .spi => s.flag F.SUPPLY_STATUS_VDDIO_GOOD
    | .sess => s.sec.st == 2
    | .fw => s.coresRun && !s.pow.romPolicy
    | .pmb => true)

/-- A write access from a path (R11, R515). -/
def State.hostWrite (s : State) (p : Path) (a v : Nat) (both : Bool := false) : State :=
  if s.pathUp p then (s.regWrite (s.who p) a v both).2 else s

/-- REGISTER_WRITE (R515). -/
def execRegisterWrite (t : Nat) (path : Path) (addr : BitVec 16) (data : Word) (s : State) :=
  run t (fun s => s.hostWrite path addr.toNat data.toNat) s

/-- SLEEP_REQ (R68). -/
def execSleepReq (t : Nat) (path : Path) (s : State) := run t (fun s => s.hostWrite path 0x0008 16) s
/-- SAFESTOP_CLR (R80). -/
def execSafestopClr (t : Nat) (path : Path) (s : State) := run t (fun s => s.hostWrite path 0x0008 32) s
/-- STORE_WR (R145): the access carries the other bits of SET_CTRL. -/
def execStoreWr (t : Nat) (path : Path) (r : Fin 8) (data : Word) (s : State) :=
  run t (fun s => s.hostWrite path (0x1030 + 256 * r.val) (data.toNat ||| 0x8000)) s
/-- FORCE_TRI (R204): a write of PWM_CTRL. -/
def execForceTri (t : Nat) (path : Path) (n : Fin 32) (data : Word) (s : State) :=
  run t (fun s => s.hostWrite path (0x2028 + 64 * n.val) data.toNat) s
/-- The partner's PWM_CTRL takes the same SWAP in the same access (R203). -/
def State.swapBoth (s : State) (path : Path) (n : Fin 32) (data : Nat) : State :=
  let a := 0x2028 + 64 * n.val
  if !s.pathUp path then s else
  match s.partner n with
  | none => (s.regWrite (s.who path) a data false).2
  | some m =>
    let x := s.regWrite (s.who path) a data true
    if x.1 = rOk then x.2.set F.PWM_CTRL_SWAP m (bits data 29 1) else x.2
/-- OVERRIDE_WRITE (R203). -/
def execOverrideWrite (t : Nat) (path : Path) (n : Fin 32) (both : Bool) (data : Word) (s : State) :=
  run t (fun s => if both then s.swapBoth path n data.toNat else s.hostWrite path (0x2028 + 64 * n.val) data.toNat) s
/-- SP_CMD (R230, R231). -/
def execSpCmd (t : Nat) (path : Path) (r : Fin 8) (data : Word) (s : State) :=
  run t (fun s => s.hostWrite path (0x10B4 + 256 * r.val) data.toNat) s
/-- SP_WIN (R232). -/
def execSpWin (t : Nat) (path : Path) (r : Fin 8) (data : Word) (s : State) :=
  run t (fun s => s.hostWrite path (0x10B8 + 256 * r.val) data.toNat) s
/-- CTX_RESET_WEIGHT (R277). -/
def execCtxResetWeight (t : Nat) (path : Path) (ctx : BitVec 15) (s : State) :=
  run t (fun s => s.hostWrite path 0x5010 (2 ^ 30 + ctx.toNat)) s
/-- CTX_MUTE (R277). -/
def execCtxMute (t : Nat) (path : Path) (ctx : BitVec 15) (s : State) :=
  run t (fun s => s.hostWrite path 0x5010 (2 * 2 ^ 30 + ctx.toNat)) s
/-- CTX_FLUSH (R277). -/
def execCtxFlush (t : Nat) (path : Path) (ctx : BitVec 15) (s : State) :=
  run t (fun s => s.hostWrite path 0x5010 (3 * 2 ^ 30 + ctx.toNat)) s
/-- RAIL_CLR (R292). -/
def execRailClr (t : Nat) (path : Path) (data : Word) (s : State) := run t (fun s => s.hostWrite path 0x3014 data.toNat) s
/-- FAULT_HOLD_CLEAR (R291). -/
def execFaultHoldClear (t : Nat) (path : Path) (s : State) := run t (fun s => s.hostWrite path 0x3018 1) s
/-- PK_CLR (R367). -/
def execPkClr (t : Nat) (path : Path) (data : Word) (s : State) :=
  run t (fun s => s.hostWrite path 0x4020 (data.toNat ||| 0x10000000)) s
/-- PK_TEST (R384): by a write, or TEST_INT days after the last test ended. -/
def State.packTest (s : State) (who : Option (Path × Word)) : State :=
  match who with
  | some x => s.hostWrite x.1 0x4020 (x.2.toNat ||| 0x20000000)
  | none => if s.pkc.testInt = 0 || decide (s.now < s.pow.testEnd + s.pkc.testInt * 86400000000000) then s else s.testStart
def execPkTest (t : Nat) (who : Option (Path × Word)) (s : State) := run t (fun s => s.packTest who) s
/-- ABORT (R419). The access carries the length held. -/
def execAbort (t : Nat) (path : Path) (s : State) :=
  run t (fun s => s.hostWrite path 0x0210 (0x40000000 + s.get F.SESS_CTRL_LEN)) s
/-- SESSION_MBOX_PUSH (R412). -/
def execSessionMboxPush (t : Nat) (path : Path) (word : Word) (s : State) :=
  run t (fun s => s.hostWrite path 0x0218 word.toNat) s
/-- A read access from a path. -/
def State.hostRead (s : State) (p : Path) (a : Nat) : Nat × Nat × State :=
  if s.pathUp p then s.regRead (s.who p) a else (rAccess, 0, s)
/-- SESSION_MBOX_POP (R412). -/
def execSessionMboxPop (t : Nat) (path : Path) (s : State) := run t (fun s => (s.hostRead path 0x0218).2.2) s
/-- LOAD_CONSENT (R404): a P1 write through a port. -/
def execLoadConsent (t : Nat) (p : Fin 2) (data : Word) (s : State) :=
  run t (fun s => s.hostWrite (if p = 0 then .al0 else .al1) 0x0220 data.toNat) s
/-- CONSENT_EXPIRY (R404): the consent of a rail runs out. -/
def State.consentEnd (s : State) (r : Nat) : State :=
  if s.sec.cons.getD r 0 ≤ s.now then { s with sec.cons := s.sec.cons.set r 0 } else s
def execConsentExpiry (t : Nat) (r : Fin 8) (s : State) := run t (fun s => s.consentEnd r.val) s
/-- REC_SEL (R434). -/
def execRecSel (t : Nat) (path : Path) (data : Word) (s : State) := run t (fun s => s.hostWrite path 0x6008 data.toNat) s
/-- REC_AUTO_ADVANCE (R434): a read of REC_DATA7. -/
def execRecAutoAdvance (t : Nat) (path : Path) (s : State) := run t (fun s => (s.hostRead path 0x602C).2.2) s
/-- CLR (R435). -/
def execClr (t : Nat) (path : Path) (s : State) := run t (fun s => s.hostWrite path 0x6030 1) s
/-- CLR_STICKY (R435). -/
def execClrSticky (t : Nat) (path : Path) (s : State) := run t (fun s => s.hostWrite path 0x6030 2) s
/-- PMB_CLR (R462). -/
def execPmbClr (t : Nat) (path : Path) (s : State) := run t (fun s => s.hostWrite path 0x7108 1) s

end Sys2Proof.Machine
end

