-- ==== Sys2Proof/Machine/Hostbus.lean ====
section
/-!
DEFINITION. Accesses that travel between the dies (R516): which do, and how a path issues one. Host SPI (R452 to R455).
-/
namespace Sys2Proof.Machine

/-! ## Accesses over the bridge -/

/-- Fields of which the Front die keeps a copy (R516): those of R140 and R328, and every hardware safety limit (R34). -/
def copied : List Fld :=
  [F.ENG_CFG_RM, F.ENG_CFG_SS_RATE, F.LOADLINE_LL_R, F.LOADLINE_LL_TAU, F.DUTY_LIM_DUTY_MAX, F.DUTY_LIM_DUTY_MIN]
    ++ limitsUp ++ limitsDown ++ limitsOff
/-- The access travels in class 4 bridge frames (R516). -/
def State.bridged (s : State) (w : Who) (wr : Bool) (a v : Nat) : Bool :=
  (s.fieldsFor a).any (fun e => e.1.front) || (wr && (s.writes w a v).any (fun e => copied.contains e.1))

/-- How an access went: answered at once, or waiting for the Front die. -/
inductive Issued where
  | done (res data : Nat) (s : State)
  | waits (s : State)

/-- A path issues a read. One that the matrix lets pass and the Front die holds waits for its answer. -/
def State.issueRead (s : State) (w : Who) (a : Nat) : Issued :=
  let x := s.regRead w a
  if x.1 = rOk && s.bridged w false a 0 then
    .waits (s.withC4 (s.br.c4 ++ [⟨w.path, w.person, false, a, 0⟩]))
  else .done x.1 x.2.1 x.2.2
/-- A path issues a write. -/
def State.issueWrite (s : State) (w : Who) (a v : Nat) : Issued :=
  if s.writeCheck w a v = rOk && s.bridged w true a v then
    .waits (s.withC4 (s.br.c4 ++ [⟨w.path, w.person, true, a, v⟩]))
  else
    let x := s.regWrite w a v false
    .done x.1 0 x.2

/-! ## Host SPI -/

/-- The answer word of a transaction (Table 16.1). -/
def State.spiWord (s : State) (op tag res : Nat) : Nat :=
  op * 2 ^ 28 + tag * 2 ^ 24 + res * 2 ^ 20 + s.mode.code * 2 ^ 16 + b2n (s.alertBits != 0) * 2 ^ 15 + b2n (s.sessOn 0) * 2 ^ 14
    + s.get F.SPI_STATUS_SPI_XCNT % 256

/-- Host SPI answers: VDDIO is good, the Control die runs, and the device is not in CARETAKER (R49, R455). -/
def State.spiUp (s : State) : Bool := s.pathUp .spi

/-- What the controller drives in a transaction (R453): PENDING for a transaction that still executes, else the result not yet
answered, which is then answered, else NONE. -/
def State.spiAnswer (s : State) : State :=
  match s.spi.busy with
  | some e => { s with spi := { s.spi with word := s.spiWord e.1 e.2 7, data := 0 } }
  | none =>
    match s.spi.last with
    | some e => { s with spi := { s.spi with word := s.spiWord e.op e.tag e.res, data := e.data, last := none } }
    | none => { s with spi := { s.spi with word := s.spiWord 0 0 15, data := 0 } }

/-- The result of a READ or WRITE, to be answered by a later transaction. -/
def State.spiDone (s : State) (op tag res data : Nat) : State :=
  { s with spi := { s.spi with busy := none, last := some ⟨op, tag, res, data⟩ } }

/-- One SPI transaction whose frames pass their CRCs (R452 to R454). -/
def State.spiRun (s : State) (op tag : Nat) (f : State → Issued) : State :=
  if !s.spiUp then { s with spi := { s.spi with word := 0xFFFFFFFF, data := 0xFFFFFFFF } }
  else
    let was := s.spi.busy
    let s := s.spiAnswer
    if was.isSome then s
    else
      let s := s.incWrap F.SPI_STATUS_SPI_XCNT
      if op = 0 then s
      else
        match f s with
        | .done res data s => s.spiDone op tag res data
        | .waits s => { s with spi := { s.spi with busy := some (op, tag) } }

/-- A transaction refused with CRC or FORMAT (R454): counted, recorded, reported by the next answer. -/
def State.spiBad (s : State) (crc : Bool) (op tag : Nat) : State :=
  if !s.spiUp then { s with spi := { s.spi with word := 0xFFFFFFFF, data := 0xFFFFFFFF } }
  else
    let was := s.spi.busy
    let s := s.spiAnswer
    let s := if crc then s.inc F.SPI_STATUS_CRC_ERR else (s.inc F.SPI_STATUS_FMT_ERR).cml 2
    let s := s.logC 0x1001 0 [(2, 0), (2, if crc then 1 else 2)]
    if was.isSome then s else s.spiDone op tag (if crc then 1 else 2) 0

/-- SPI_NOP (R453). -/
def execSpiNop (t : Nat) (tag : BitVec 4) (s : State) := run t (fun s => s.spiRun 0 tag.toNat (fun s => .done 0 0 s)) s
/-- SPI_READ (R452 to R454): the low two address bits must be 0. -/
def execSpiRead (t : Nat) (tag : BitVec 4) (addr : BitVec 16) (s : State) :=
  run t (fun s => if addr.toNat % 4 = 0 then s.spiRun 1 tag.toNat (fun s => s.issueRead (s.who .spi) addr.toNat)
    else s.spiBad false 1 tag.toNat) s
/-- SPI_WRITE (R452 to R454). -/
def execSpiWrite (t : Nat) (tag : BitVec 4) (addr : BitVec 16) (data : Word) (s : State) :=
  run t (fun s => if addr.toNat % 4 = 0 then s.spiRun 2 tag.toNat (fun s => s.issueWrite (s.who .spi) addr.toNat data.toNat)
    else s.spiBad false 2 tag.toNat) s
/-- The CRC-8 of an SPI frame, over its 32 bits (R241, R452). -/
def spiCrc (w : Nat) : Nat := linkCrc (beBytes 4 w)
/-- The 80 bits on HSDO in a transaction, the first clocked out highest (Table 16.1, R455). -/
def State.hsdo (s : State) : Nat :=
  if s.spiUp then ((s.spi.word * 2 ^ 8 + spiCrc s.spi.word) * 2 ^ 32 + s.spi.data) * 2 ^ 8 + spiCrc s.spi.data else 2 ^ 80 - 1
/-- What is wrong with the bits of a transaction, the first clocked in highest, after a count of HSCK edges: some true a CRC, some
false the form. DEDUCED: without its 80 clocks a transaction has no CRC to fail. -/
def spiWrong (edges raw : Nat) : Option Bool :=
  let cmd := bits raw 48 32
  if edges ≠ 80 then some false
  else if spiCrc cmd != bits raw 40 8 || spiCrc (bits raw 8 32) != bits raw 0 8 then some true
  else if 3 ≤ bits cmd 28 4 || bits cmd 16 8 != 0 || bits cmd 0 2 != 0 then some false else none
/-- SPI_FRAME_ERROR (R454): a transaction whose CRC, clock count, OP or reserved bits are wrong. -/
def State.spiError (s : State) (edges raw : Nat) : State :=
  match spiWrong edges raw with
  | some crc => s.spiBad crc (bits raw 76 4) (bits raw 72 4)
  | none => s
def execSpiFrameError (t : Nat) (edges : Nat) (raw : BitVec 80) (s : State) := run t (fun s => s.spiError edges raw.toNat) s

end Sys2Proof.Machine
end

