-- ==== Sys2Proof/Machine/Aedat.lean ====
section
/-!
DEFINITION. The Aedat Link (R238 to R258): frames, their checks and answers, the return slot, credits, timeouts and recovery.
-/
namespace Sys2Proof.Machine

/-! ## The port -/

/-- A port takes frames (R238, R256): in use, PARSE complete, its pads supplied, the Control die running. -/
def State.portUp (s : State) (p : Fin 2) : Bool :=
  s.flag F.AL_CFG_PORT_EN p && s.flag F.SUPPLY_STATUS_AL_IO_GOOD && s.regsUp && s.mode != .parse && s.parsed
/-- The path of a port. -/
def pathOf (p : Fin 2) : Path := if p = 0 then .al0 else .al1
/-- The set-point source of a port (Table 8.1). -/
def portSource (p : Fin 2) : Nat := 2 + p.val

/-- A credit returns (R251): held while returns are withheld. The credits held and those of the load are never more than 64. -/
def State.credBack (s : State) (p : Fin 2) : State :=
  if s.withheld then s.modPort p (fun q => { q with held := min (q.held + 1) (64 - s.get F.AL_STATUS_CRED p) })
  else s.set F.AL_STATUS_CRED p (min 64 (s.get F.AL_STATUS_CRED p + 1))
/-- The port's register read that waits for the Front die is withdrawn. -/
def State.dropRead (s : State) (p : Fin 2) : State :=
  (s.modPort p (fun q => { q with rd := none })).withC4 (s.br.c4.filter (fun a => a.path != pathOf p || a.wr))

/-- The return word that Table 8.8 gives: header and payload. -/
def Port.slotWord (q : Port) : Nat × Nat :=
  match q.fresh, q.rd with
  | true, _ => (0, 0)
  | false, some ⟨seq, true, some d, _⟩ => (16 + seq, d)
  | false, some ⟨seq, true, none, _⟩ => (32 + seq, 0)
  | false, _ =>
    match q.notes with
    | n :: _ => (48 + q.nseq, n.word)
    | [] => (0, 0)
/-- The return word of 48 bits: header, payload, and the CRC of R241 over those 40 bits (R249). -/
def Port.returnWord (q : Port) : Nat :=
  (q.slot.1 * 2 ^ 32 + q.slot.2) * 256 + linkCrc (beBytes 1 q.slot.1 ++ beBytes 4 q.slot.2)
/-- The word is fixed when the gap before the frame is detected (R249). -/
def State.fixSlot (s : State) (p : Fin 2) : State := s.modPort p (fun q => { q with slot := q.slotWord })

/-- A frame carries the slot's word away: a read result is sent once (R250). Answers whether its credit comes back. -/
def State.slotLeaves (s : State) (p : Fin 2) : State × Bool :=
  let q := s.port p
  let rt := q.slot.1 / 16
  let s := s.modPort p (fun q => { q with fresh := false })
  if (rt = 1 || rt = 2) && q.rd.isSome then (s.modPort p (fun q => { q with rd := none }), true) else (s, false)

/-- PRESET's work (R255), and that of a silent port (R254): the notice queue and the rings stay. -/
def State.portReset (s : State) (p : Fin 2) : State :=
  let s := s.dropRead p
  let s := s.modPort p (fun q => { q with wAddr := none, last := none, held := 0, fresh := true, slot := (0, 0) })
  (s.set F.AL_STATUS_CTX_ID p 0).set F.AL_STATUS_CRED p (64 - (s.port p).busy)

/-! ## The answer (R245) -/

/-- A7: every rail the port serves is in REG or SHED, at its target, its window comparators inside. -/
def State.inWin (s : State) (p : Fin 2) : Bool :=
  let l := allRails.filter (s.serves p)
  !l.isEmpty && l.all (fun r => (s.st r == .reg || s.st r == .shed) && s.dacCode r == s.get F.SP_STATUS_SP_TGT r
    && !s.flag F.RP_STATUS_OV_RD r && !s.flag F.RP_STATUS_UV_RD r)
/-- The answer byte from the state bits, the ACK and the code. -/
def answerByte (inWin alert throt ack : Bool) (code : Nat) : Nat :=
  let a := b2n inWin * 128 + b2n alert * 64 + b2n throt * 32 + b2n ack * 16 + code % 8 * 2
  a + b2n ((bitsOf 8 a).foldl (fun x b => x != b) true)
/-- The controller drives the answer of a frame. A5 reads the word of the port's context, and so checks it (R263). -/
def State.putAns (s : State) (p : Fin 2) (ack : Bool) (code : Nat) : State :=
  let s := s.ctxCheck (s.get F.AL_STATUS_CTX_ID p)
  let a := answerByte (s.inWin p) (!(s.port p).notes.isEmpty) (s.throt p) ack code
  s.modPort p (fun q => { q with ans := a })
/-- The coarse credit of an acknowledgement. -/
def State.credCode (s : State) (p : Fin 2) : Nat := min 7 (s.get F.AL_STATUS_CRED p / 8)

/-! ## Frame types (Tables 8.4, 8.5) -/

/-- The type uses a credit. -/
def usesCredit (typ : Nat) : Bool := typ == 1 || typ == 3 || typ == 4 || typ == 5 || typ == 7
/-- The layout of a payload (R243): bits not named are 0; WDATA needs a write address; NOTEACK names the notice in service. -/
def State.formOk (s : State) (p : Fin 2) (typ w : Nat) : Bool :=
  match typ with
  | 0 => w == 0
  | 1 => bits w 24 5 == 0 && w % 16 == 0
  | 2 => w < 2 ^ 15
  | 3 => true
  | 4 => w % 2 ^ 29 == 0
  | 5 | 6 => w < 2 ^ 16 && w % 4 == 0
  | 7 => (s.port p).wAddr.isSome
  | 8 => w < 16 && !(s.port p).notes.isEmpty && w == (s.port p).nseq
  | 9 => w == 0xA5A55A5A
  | _ => false
/-- The rail a payload names. -/
def railBits (w : Nat) : Fin 8 := Fin.ofNat 8 (bits w 29 3)
/-- The Tense conditions of ACCESS (Table 9.2). -/
def State.hintAccess (s : State) (p : Fin 2) (r : Fin 8) : Bool :=
  s.serves p r && s.tnOn r && !s.isMember r && !((s.cfg r).spans && s.flag F.CJ_STATUS_PEER_LOST)

/-- The checks of Table 8.7 that follow CRC and FORMAT: the first that fails gives its reason. They are made at the answer, `lead` ns before
the frame's end (R245, R247). -/
def State.frameCheck (s : State) (p : Fin 2) (typ w lead : Nat) : Option Nat :=
  let r := railBits w
  if usesCredit typ && s.get F.AL_STATUS_CRED p == 0 then some 2
  else match typ with
  | 1 => if !s.serves p r then some 3 else s.spCheckIn r (portSource p) (bits w 12 12) (s.stAt r lead)
  | 3 => s.hintCheck r (s.get F.AL_STATUS_CTX_ID p) (bits w 0 17) (s.serves p r) (s.stAt r lead)
  | 4 => if s.hintAccess p r then none else some 3
  | 5 => if (s.regRead (s.who (pathOf p)) w).1 = rAccess then some 3 else if (s.port p).rd.isSome then some 4 else none
  | 7 => if (s.regWrite (s.who (pathOf p)) ((s.port p).wAddr.getD 0) w false).1 = rAccess then some 3 else none
  | _ => none

/-- What a refusal does beside the answer: NAK_CNT, and the record of the type (R258, R283, R397). -/
def State.frameRefused (s : State) (p : Fin 2) (typ w why : Nat) : State :=
  let s := s.inc F.AL_COUNT_NAK_CNT p
  let r := railBits w
  if typ = 1 then s.spRefusedRec r (portSource p) why (bits w 12 12)
  else if typ = 3 && 6 ≤ why then
    (s.when (why == 6 && decide (64 ≤ (s.hints r).length)) (fun s => s.mark F.TN_STAT_SCHED_FULL_S r)).logC 0x0905 p [(1, p.val), (2, why), (2, s.get F.AL_STATUS_CTX_ID p)]
  else if typ = 5 && why = 3 then (s.regRead (s.who (pathOf p)) w).2.2
  else if typ = 7 && why = 3 then (s.regWrite (s.who (pathOf p)) ((s.port p).wAddr.getD 0) w false).2
  else s

/-- A READ starts (R250): answered at once, or by BRIDGE_REGISTER_ANSWER. An address outside the map reads 0 (R10). -/
def State.portRead (s : State) (p : Fin 2) (seq a : Nat) : State :=
  match s.issueRead (s.who (pathOf p)) a with
  | .done _ d s => s.modPort p (fun q => { q with rd := some ⟨seq, true, some d, s.now⟩ })
  | .waits s => s.modPort p (fun q => { q with rd := some ⟨seq, false, none, 0⟩ })
/-- An acknowledged write failed (R244). -/
def State.portWrFail (s : State) (p : Fin 2) (a : Nat) : State :=
  (s.mark F.AL_STICKY_WR_FAIL p).logC 0x080B p [(1, p.val), (2, a)]
/-- A WDATA writes the register at the write address, which is then no longer valid (R244). -/
def State.portWrite (s : State) (p : Fin 2) (v : Nat) : State :=
  let a := (s.port p).wAddr.getD 0
  let s := s.modPort p (fun q => { q with wAddr := none })
  match s.issueWrite (s.who (pathOf p)) a v with
  | .done res _ s => (s.when (res == rValue) (fun s => s.portWrFail p a)).credBack p
  | .waits s => s.modPort p (fun q => { q with busy := q.busy + 1 })

/-- The action of an acknowledged frame at its end (R247), its credit's return among it. -/
def State.frameAct (s : State) (p : Fin 2) (typ seq w : Nat) : State :=
  let r := railBits w
  match typ with
  | 1 => (s.spAccept r (portSource p) (bits w 12 12) (bits w 4 8)).credBack p
  | 2 => s.set F.AL_STATUS_CTX_ID p w
  | 3 => (s.hintTake r (s.get F.AL_STATUS_CTX_ID p) w).credBack p
  | 4 => (s.unhint r (s.get F.AL_STATUS_CTX_ID p)).credBack p
  | 5 => s.portRead p seq w
  | 6 => s.modPort p (fun q => { q with wAddr := some w })
  | 7 => s.portWrite p w
  | 8 => s.modPort p (fun q => { q with notes := q.notes.drop 1, nseq := (q.nseq + 1) % 16 })
  | 9 => s.portReset p
  | _ => s

/-- The frame's 40 bits. -/
def frameBits (typ seq w : Nat) : Nat := (typ * 16 + seq) * 2 ^ 32 + w
/-- The frame is a retry (R248). -/
def State.isRetry (s : State) (p : Fin 2) (typ seq w : Nat) : Bool :=
  match (s.port p).last with
  | some e => e.1 == frameBits typ seq w && s.now ≤ e.2 + 100000
  | none => false

/-- The reason for which a frame whose CRC is good is refused; none where it is acknowledged. A HINT refills its context first (R265). -/
def State.refusal (s : State) (p : Fin 2) (typ w lead : Nat) : Option Nat :=
  if !s.formOk p typ w then some 1
  else if typ = 3 then (s.ctxRefill (s.get F.AL_STATUS_CTX_ID p)).frameCheck p typ w lead
  else s.frameCheck p typ w lead
/-- A frame whose CRC is good, at its end: retry, refusal, or acknowledgement and action. -/
def State.goodFrame (s : State) (p : Fin 2) (typ seq w lead : Nat) : State :=
  if s.isRetry p typ seq w then (s.putAns p true (s.credCode p)).mark F.AL_STICKY_RETRY_S p
  else
    let s := if typ = 3 && s.formOk p typ w then s.ctxRefill (s.get F.AL_STATUS_CTX_ID p) else s
    match (if s.formOk p typ w then s.frameCheck p typ w lead else some 1) with
    | some why => (s.putAns p false why).frameRefused p typ w why
    | none =>
      let s := if usesCredit typ then s.set F.AL_STATUS_CRED p (s.get F.AL_STATUS_CRED p - 1) else s
      let s := s.putAns p true (s.credCode p)
      let s := s.modPort p (fun q => { q with last := some (frameBits typ seq w, s.now) })
      let s := s.frameAct p typ seq w
      s.when (typ == 9) (fun s => s.logC 0x0807 p [(1, p.val), (1, s.get F.AL_STATUS_CRED p)])
/-- A frame that ends early or is discarded takes the slot's word with it, and the credit of a read result that left returns: it leaves
before the answer of the frame (DEDUCED, log 177). -/
def State.slotLost (s : State) (p : Fin 2) : State :=
  let x := s.slotLeaves p
  if x.2 then x.1.credBack p else x.1
/-- A complete frame on a port: the slot's word leaves, the frame is handled, SILENT clears. -/
def State.frame (s : State) (p : Fin 2) (typ seq w lead : Nat) : State :=
  if !s.portUp p || (s.port p).stuck then s else
  (((s.slotLost p).goodFrame p typ seq w lead).clear F.AL_STATUS_SILENT p).modPort p (fun q => { q with goodAt := s.now })
/-- A frame whose CRC fails (R246): refused with CRC, counted, recorded. -/
def State.badCrc (s : State) (p : Fin 2) : State :=
  if !s.portUp p || (s.port p).stuck then s else
  (((s.slotLost p).putAns p false 0).inc F.AL_COUNT_CRC_ERR p).logC 0x0804 p [(1, p.val)]
/-- The answer to a frame that reached edge 47 and does not complete: nothing else of it acts (R240, R245). -/
def State.answerOnly (s : State) (p : Fin 2) (header w crc : Nat) : State :=
  let typ := header / 16
  if linkCrc (beBytes 1 header ++ beBytes 4 w) != crc then s.putAns p false 0
  else if s.isRetry p typ (header % 16) w then s.putAns p true (s.credCode p)
  else match s.refusal p typ w 0 with
    | some why => s.putAns p false why
    | none => s.putAns p true (min 7 ((s.get F.AL_STATUS_CRED p - b2n (usesCredit typ)) / 8))

/-- NOP. -/
def execNop (t : Nat) (p : Fin 2) (seq : BitVec 4) (payload : Word) (s : State) :=
  run t (fun s => s.frame p 0 seq.toNat payload.toNat 0) s
/-- SETV (R247), with its answer `lead` ns before its end. -/
def execSetv (t : Nat) (p : Fin 2) (seq : BitVec 4) (ask : AlAsk) (s : State) :=
  run t (fun s => s.frame p 1 seq.toNat ask.payload.toNat ask.lead.toNat) s
/-- CTX (R244). -/
def execCtx (t : Nat) (p : Fin 2) (seq : BitVec 4) (payload : Word) (s : State) :=
  run t (fun s => s.frame p 2 seq.toNat payload.toNat 0) s
/-- HINT (R266), with its answer `lead` ns before its end. -/
def execHint (t : Nat) (p : Fin 2) (seq : BitVec 4) (ask : AlAsk) (s : State) :=
  run t (fun s => s.frame p 3 seq.toNat ask.payload.toNat ask.lead.toNat) s
/-- UNHINT (R269). -/
def execUnhint (t : Nat) (p : Fin 2) (seq : BitVec 4) (payload : Word) (s : State) :=
  run t (fun s => s.frame p 4 seq.toNat payload.toNat 0) s
/-- READ (R250). -/
def execRead (t : Nat) (p : Fin 2) (seq : BitVec 4) (payload : Word) (s : State) :=
  run t (fun s => s.frame p 5 seq.toNat payload.toNat 0) s
/-- WADDR (R244). -/
def execWaddr (t : Nat) (p : Fin 2) (seq : BitVec 4) (payload : Word) (s : State) :=
  run t (fun s => s.frame p 6 seq.toNat payload.toNat 0) s
/-- WDATA (R244). -/
def execWdata (t : Nat) (p : Fin 2) (seq : BitVec 4) (payload : Word) (s : State) :=
  run t (fun s => s.frame p 7 seq.toNat payload.toNat 0) s
/-- NOTEACK (R253). -/
def execNoteack (t : Nat) (p : Fin 2) (seq : BitVec 4) (payload : Word) (s : State) :=
  run t (fun s => s.frame p 8 seq.toNat payload.toNat 0) s
/-- PRESET (R255). -/
def execPreset (t : Nat) (p : Fin 2) (seq : BitVec 4) (payload : Word) (s : State) :=
  run t (fun s => s.frame p 9 seq.toNat payload.toNat 0) s

/-- The bytes under the CRC of R241: header, then the payload from its most significant byte. -/
def crcBytes (header : Nat) (w : Nat) : List Byte := beBytes 1 header ++ beBytes 4 w
/-- AEDAT_RESERVED_TYPE_FRAME (R246): a frame with its CRC as received. -/
def State.rawFrame (s : State) (p : Fin 2) (header w crc : Nat) : State :=
  if linkCrc (crcBytes header w) = crc then s.frame p (header / 16) (header % 16) w 0 else s.badCrc p
def execAedatReservedTypeFrame (t : Nat) (p : Fin 2) (header : Byte) (payload : Word) (crc : Byte) (s : State) :=
  run t (fun s => s.rawFrame p header.toNat payload.toNat crc.toNat) s

/-! ## Framing, timeouts, recovery -/

/-- What a frame in progress that ends after `edges` edges leaves: its slot's word is gone, and past edge 47 it was answered. -/
def State.cutShort (s : State) (p : Fin 2) (edges header w crc : Nat) : State :=
  (s.slotLost p).when (48 ≤ edges) (fun s => s.answerOnly p header w crc)
/-- AEDAT_FRAME_GAP (R239, R240, R249): the frame ends after `edges` rising edges; the next return word is fixed. `header`, `w` and `crc`
are what a frame that reached edge 47 carried. -/
def State.frameGap (s : State) (p : Fin 2) (edges header w crc : Nat) : State :=
  if !s.portUp p then s else
  let s :=
    if (s.port p).stuck then s.modPort p (fun q => { q with stuck := false })
    else if edges = 0 || edges = 56 then s
    else if edges < 56 then
      ((s.cutShort p edges header w crc).mark F.AL_STICKY_TRUNC_S p).logC 0x0805 p [(1, p.val), (2, 1), (2, edges)]
    else
      (((s.mark F.AL_STICKY_FRAME_S p).inc F.AL_COUNT_FRAME_ERR p)).logC 0x0805 p [(1, p.val), (2, 2), (2, edges)]
  s.fixSlot p
def execAedatFrameGap (t : Nat) (p : Fin 2) (f : AlCut) (s : State) :=
  run t (fun s => s.frameGap p f.edges f.header.toNat f.payload.toNat f.crc.toNat) s

/-- CLK_STUCK (R240): the frame in progress is discarded; nothing is read until the gap. -/
def State.clkStuck (s : State) (p : Fin 2) (edges header w crc : Nat) : State :=
  if !s.portUp p then s else
  let s := s.when (edges != 0 && edges < 56) (fun s => s.cutShort p edges header w crc)
  let s := s.modPort p (fun q => { q with stuck := true })
  (s.mark F.AL_STICKY_CLK_STUCK p).logC 0x0805 p [(1, p.val), (2, 3), (2, edges)]
def execClkStuck (t : Nat) (p : Fin 2) (f : AlCut) (s : State) :=
  run t (fun s => s.clkStuck p f.edges f.header.toNat f.payload.toNat f.crc.toNat) s

/-- READ_LOST (R250): a result that no frame collected for 1 ms since it was ready. -/
def State.readLost (s : State) (p : Fin 2) : State :=
  match (s.port p).rd with
  | some ⟨_, true, _, t0⟩ =>
    if s.now < t0 + 1000000 then s else
    let s := s.modPort p (fun q => { q with rd := none })
    (((s.modPort p (fun q => { q with slot := if q.slot.1 / 16 = 1 || q.slot.1 / 16 = 2 then q.slotWord else q.slot })).mark
      F.AL_STICKY_READ_LOST p)).credBack p
  | _ => s
def execReadLost (t : Nat) (p : Fin 2) (s : State) := run t (fun s => s.readLost p) s

/-- A rail whose command came from the silent port returns to BOOT_CODE within the P1 window, owned by boot (R254). -/
def State.bootRail (s : State) (p : Fin 2) (r : Fin 8) : State :=
  if s.get F.SP_STATUS_SP_OWNER r != portSource p then s else
  let c := min (max (s.cfg r).boot (s.get F.SP_WIN_P1_MIN r)) (s.get F.SP_WIN_P1_MAX r)
  (((s.putTgt r c 0).set F.SP_STATUS_SP_OWNER r 0).modSp r (fun q => { q with upd := 0 })).spMoved r none
/-- AEDAT_PORT_SILENT (R254): no frame with a good CRC for AL_TMO since the last one, or since the port started. -/
def State.portSilent (s : State) (p : Fin 2) : State :=
  if !s.portUp p || s.get F.AL_CFG_AL_TMO p == 0 || s.flag F.AL_STATUS_SILENT p
      || s.now < (s.port p).goodAt + s.get F.AL_CFG_AL_TMO p * 1000000 then s else
  let s := (s.mark F.AL_STATUS_SILENT p).mark F.AL_STICKY_SILENT_S p
  let s := s.logC 0x0806 p [(1, p.val), (1, s.get F.AL_CFG_AL_TMO p), (1, s.get F.AL_CFG_ON_SILENT p)]
  let s := s.portReset p
  if s.flag F.AL_CFG_ON_SILENT p then s.onRails (fun s r => s.bootRail p r) else s
def execAedatPortSilent (t : Nat) (p : Fin 2) (s : State) := run t (fun s => s.portSilent p) s

end Sys2Proof.Machine
end

