-- ==== Sys2Proof/Machine/Pmbus.lean ====
section
/-!
DEFINITION. PMBus (R456 to R467): the transaction, the standard commands of Table 16.3 and the manufacturer commands of
Table 16.5.
-/
namespace Sys2Proof.Machine

/-! ## The transaction -/

/-- The 8-bit address byte of the controller, for a write. -/
def State.pmbAddr (s : State) : Nat := s.get F.STRAP_STATUS_PM_ADDR * 2
/-- The PEC byte of a write: over the address byte, the command and the data (R457). -/
def State.pecByte (s : State) (code : Nat) (data : List Byte) : Byte :=
  BitVec.ofNat 8 (pec ([BitVec.ofNat 8 s.pmbAddr, BitVec.ofNat 8 code] ++ data))
/-- The bytes driven after a command, with the PEC byte that follows them (R457). -/
def State.pmbOut (s : State) (code : Nat) (b : List Byte) : State :=
  let hdr := [BitVec.ofNat 8 s.pmbAddr, BitVec.ofNat 8 code, BitVec.ofNat 8 (s.pmbAddr + 1)]
  { s with pmb := { s.pmb with out := b ++ [BitVec.ofNat 8 (pec (hdr ++ b))] } }
/-- A block: its byte count, then its bytes. -/
def block (b : List Byte) : List Byte := BitVec.ofNat 8 b.length :: b
/-- Invalid data (R458, R459, R461). -/
def State.pmbInvalid (s : State) : State := s.cml 64
/-- The command byte is NACKed. -/
def State.pmbNack (s : State) : State := { s with pmb := { s.pmb with nack := true, out := [] } }

/-- The commands that stay open on PMBus while a session is open there (R466). -/
def sessCommand (code : Nat) : Bool := (0xD0 ≤ code && code ≤ 0xD2) || (0xD4 ≤ code && code ≤ 0xD6)

/-- One transaction: `rd` answers a read, `wr` takes the data bytes of a write whose final byte is its PEC; none where the command has
no such access, which is invalid data (R457, R459, R466). -/
def State.pmbRun (s : State) (code : Nat) (x : Xfer) (rd : Option (State → State)) (wr : Option (List Byte → State → State)) :
    State :=
  if !s.regsUp then s.pmbNack
  else if s.sessOn 1 && !sessCommand code then s.pmbNack
  else
    let s : State := { s with pmb := { s.pmb with nack := false, out := [] } }
    match x with
    | .read => match rd with
      | some f => f s
      | none => s.pmbInvalid
    | .write data byte =>
      if byte != some (s.pecByte code data) then (s.inc F.PMB_STATUS_PEC_ERR).cml 32
      else match wr with
        | some f => f data s
        | none => s.pmbInvalid

/-! ## The page (R458) -/

/-- PAGE. -/
def State.page (s : State) : Nat := s.get F.PMB_STATUS_PAGE
/-- The rail of the page. -/
def State.pageRail (s : State) : Fin 8 := Fin.ofNat 8 s.page
/-- The rails that a page-wide command acts on. -/
def State.pageRails (s : State) : List (Fin 8) := if s.page = 0xFF then allRails else [s.pageRail]
/-- The page names a rail that the image uses. -/
def State.pageUsed (s : State) : Bool := (s.cfg s.pageRail).present
/-- A rail-scoped read: refused under PAGE 0xFF, 0 for a rail left unused, else the value. -/
def State.pageRead (s : State) (code k : Nat) (f : State → Fin 8 → Nat) : State :=
  if s.page = 0xFF then s.pmbInvalid
  else s.pmbOut code (leBytes k (if s.pageUsed then f s s.pageRail else 0))

/-! ## Number formats (R460) -/

/-- The least exponent from `lo` on, of `n` candidates, whose mantissa fits 11 signed bits; the last where none does. -/
def expFor (man : Int → Int) : Nat → Int → Int
  | 0, e => e
  | n + 1, e => if -1024 ≤ man e && man e ≤ 1023 then e else expFor man n (e + 1)
/-- A LINEAR11 word. -/
def linear11 (e m : Int) : Nat := ofS 5 e * 2048 + ofS 11 (satS 11 m)
/-- The mantissa of READ_IOUT at an exponent. -/
def iMan (i e : Int) : Int := asr i (e + 3).toNat
/-- The exponent of READ_IOUT. -/
def iExp (i : Int) : Int := expFor (iMan i) 7 (-3)
/-- The P2 rail current of TLM_RI. -/
def State.iShaped (s : State) (r : Fin 8) : Int := (s.tlm.ri2.getD r.val {}).out
/-- READ_VOUT: round(V_SH × DIVIDER / 8,000). -/
def State.voutWord (s : State) (r : Fin 8) : Nat :=
  (roundDiv ((satU 15 (s.tlm.rv2.getD r.val {}).out) * (s.cfg r).divider) 8000).toNat % 65536
/-- The truncated product of READ_VOUT and READ_IOUT at an exponent, in watts: VOUT counts 2^−12 V. -/
def poutMan (v m ie e : Int) : Int := asr (v * m * 2 ^ (ie + 3).toNat) (15 + e).toNat
/-- READ_POUT. -/
def State.poutWord (s : State) (r : Fin 8) : Nat :=
  let i := s.iShaped r
  let ie := iExp i
  let v : Int := s.voutWord r
  let e := expFor (poutMan v (iMan i ie) ie) 8 (-2)
  linear11 e (poutMan v (iMan i ie) ie e)
/-- A temperature of 0.125 °C as LINEAR11 at exponent −2. -/
def tempWord (t : Int) : Nat := linear11 (-2) (asr t 1)

/-! ## Standard commands (Table 16.3) -/

/-- A constant byte. -/
def State.pmbConst (s : State) (code : Nat) (x : Xfer) (b : Nat) : State :=
  s.pmbRun code x (some (fun s => s.pmbOut code (leBytes 1 b))) none

/-- PAGE. -/
def State.pmbPage (s : State) (x : Xfer) : State :=
  s.pmbRun 0x00 x (some (fun s => s.pmbOut 0 (leBytes 1 s.page)))
    (some (fun b s => match b with
      | [p] => if p.toNat = 0xFF || p.toNat < (if s.cz1604 then 4 else 8) then s.set F.PMB_STATUS_PAGE 0 p.toNat else s.pmbInvalid
      | _ => s.pmbInvalid))
def execPage (t : Nat) (x : Xfer) (s : State) := run t (fun s => s.pmbPage x) s

/-- OPERATION. -/
def execOperation (t : Nat) (x : Xfer) (s : State) :=
  run t (fun s => s.pmbRun 0x01 x (some (fun s => s.pageRead 0x01 1 (fun s r => if (s.st r).switching then 0x80 else 0))) none) s
/-- ON_OFF_CONFIG. -/
def execOnOffConfig (t : Nat) (x : Xfer) (s : State) := run t (fun s => s.pmbConst 0x02 x 0x16) s
/-- CLEAR_FAULTS (R462): a send byte. -/
def execClearFaults (t : Nat) (x : Xfer) (s : State) :=
  run t (fun s => s.pmbRun 0x03 x none (some (fun b s => if b.isEmpty then s.pmbClear s.pageRails else s.pmbInvalid))) s
/-- CAPABILITY. -/
def execCapability (t : Nat) (x : Xfer) (s : State) := run t (fun s => s.pmbConst 0x19 x 0xD0) s

/-- A status command that a mask may name. -/
def maskable (c : Nat) : Bool := (0x78 ≤ c && c ≤ 0x7E) || c == 0x80
/-- The key of a mask: one for the device-wide STATUS_CML, else page × 256 + command. -/
def maskKey (page c : Nat) : Nat := if c = 0x7E then 0x7E else page * 256 + c
/-- SMBALERT_MASK (R463). A read returns the command last named by a write, with its mask on the page. -/
def State.pmbMask (s : State) (x : Xfer) : State :=
  s.pmbRun 0x1B x
    (some (fun s => s.pageRead 0x1B 2 (fun s r => s.pmb.maskCmd + 256 * s.pmb.masks.get (maskKey r.val s.pmb.maskCmd))))
    (some (fun b s => match b with
      | [c, m] =>
        if maskable c.toNat then
          let s : State := { s with pmb.maskCmd := c.toNat }
          s.pageRails.foldl (fun (s : State) (r : Fin 8) =>
            { s with pmb.masks := s.pmb.masks.set (maskKey r.val c.toNat) m.toNat }) s
        else s.pmbInvalid
      | _ => s.pmbInvalid))
def execSmbalertMask (t : Nat) (x : Xfer) (s : State) := run t (fun s => s.pmbMask x) s

/-- VOUT_MODE. -/
def execVoutMode (t : Nat) (x : Xfer) (s : State) := run t (fun s => s.pmbConst 0x20 x 0x14) s

/-- A VOUT_COMMAND write (R460): a host set-point command. -/
def State.voutSet (s : State) (n : Nat) : State :=
  let r := s.pageRail
  let code := (roundDiv ((n : Int) * 1600) (s.cfg r).divider).toNat
  if s.page = 0xFF then s.pmbInvalid
  else match s.spCheck r 4 code with
    | none => s.spAccept r 4 code 0
    | some why => (s.spRefused r 4 why code).pmbInvalid
/-- VOUT_COMMAND. -/
def State.pmbVout (s : State) (x : Xfer) : State :=
  s.pmbRun 0x21 x
    (some (fun s => s.pageRead 0x21 2 (fun s r => (roundDiv ((s.get F.SP_STATUS_SP_TGT r * (s.cfg r).divider : Nat) : Int) 1600).toNat)))
    (some (fun b s => if b.length = 2 then s.voutSet (leNat b) else s.pmbInvalid))
def execVoutCommand (t : Nat) (x : Xfer) (s : State) := run t (fun s => s.pmbVout x) s

/-- A rail-scoped read of `k` bytes. -/
def State.pmbRail1 (s : State) (code k : Nat) (x : Xfer) (f : State → Fin 8 → Nat) : State :=
  s.pmbRun code x (some (fun s => s.pageRead code k f)) none

/-- STATUS_BYTE. -/
def execStatusByte (t : Nat) (x : Xfer) (s : State) := run t (fun s => s.pmbRail1 0x78 1 x (fun s r => s.statusWord r)) s
/-- STATUS_WORD. -/
def execStatusWord (t : Nat) (x : Xfer) (s : State) := run t (fun s => s.pmbRail1 0x79 2 x (fun s r => s.statusWord r)) s
/-- STATUS_VOUT. -/
def execStatusVout (t : Nat) (x : Xfer) (s : State) := run t (fun s => s.pmbRail1 0x7A 1 x (fun s r => s.get F.PMB_RSTAT_STATUS_VOUT r)) s
/-- STATUS_IOUT. -/
def execStatusIout (t : Nat) (x : Xfer) (s : State) := run t (fun s => s.pmbRail1 0x7B 1 x (fun s r => s.get F.PMB_RSTAT_STATUS_IOUT r)) s
/-- STATUS_INPUT. -/
def execStatusInput (t : Nat) (x : Xfer) (s : State) :=
  run t (fun s => s.pmbRail1 0x7C 1 x (fun s r => s.get F.PMB_RSTAT2_STATUS_INPUT r)) s
/-- STATUS_TEMPERATURE. -/
def execStatusTemperature (t : Nat) (x : Xfer) (s : State) :=
  run t (fun s => s.pmbRail1 0x7D 1 x (fun s r => s.get F.PMB_RSTAT2_STATUS_TEMP r)) s
/-- STATUS_CML, which is device-wide. -/
def execStatusCml (t : Nat) (x : Xfer) (s : State) :=
  run t (fun s => s.pmbRun 0x7E x (some (fun s => s.pmbOut 0x7E (leBytes 1 (s.get F.PMB_STATUS_STATUS_CML)))) none) s
/-- STATUS_MFR_SPECIFIC. -/
def execStatusMfrSpecific (t : Nat) (x : Xfer) (s : State) :=
  run t (fun s => s.pmbRail1 0x80 1 x (fun s r => s.get F.PMB_RSTAT2_STATUS_MFR r)) s
/-- READ_VIN: the round's BUS_V of 1.25 mV, truncated to 2^−5 V. -/
def execReadVin (t : Nat) (x : Xfer) (s : State) :=
  run t (fun s => s.pmbRun 0x88 x (some (fun s => s.pmbOut 0x88 (leBytes 2 (linear11 (-5) (s.th.busV / 25 : Nat))))) none) s
/-- READ_VOUT. -/
def execReadVout (t : Nat) (x : Xfer) (s : State) := run t (fun s => s.pmbRail1 0x8B 2 x State.voutWord) s
/-- READ_IOUT. -/
def State.ioutWord (s : State) (r : Fin 8) : Nat := linear11 (iExp (s.iShaped r)) (iMan (s.iShaped r) (iExp (s.iShaped r)))
def execReadIout (t : Nat) (x : Xfer) (s : State) := run t (fun s => s.pmbRail1 0x8C 2 x State.ioutWord) s
/-- READ_TEMPERATURE_1: REG_TMAX of the rail's region. -/
def execReadTemperature1 (t : Nat) (x : Xfer) (s : State) :=
  run t (fun s => s.pmbRail1 0x8D 2 x (fun s r => tempWord (s.temp (tmaxReg (s.regionOf r).val)))) s
/-- READ_TEMPERATURE_2: PKG_TMAX. -/
def execReadTemperature2 (t : Nat) (x : Xfer) (s : State) :=
  run t (fun s => s.pmbRun 0x8E x (some (fun s => s.pmbOut 0x8E (leBytes 2 (tempWord (s.temp pkgReg))))) none) s
/-- READ_POUT. -/
def execReadPout (t : Nat) (x : Xfer) (s : State) := run t (fun s => s.pmbRail1 0x96 2 x State.poutWord) s
/-- PMBUS_REVISION. -/
def execPmbusRevision (t : Nat) (x : Xfer) (s : State) := run t (fun s => s.pmbConst 0x98 x 0x44) s

/-- A constant block. -/
def State.pmbText (s : State) (code : Nat) (x : Xfer) (f : State → List Byte) : State :=
  s.pmbRun code x (some (fun s => s.pmbOut code (block (f s)))) none
/-- MFR_ID: "ZILURA". -/
def execMfrId (t : Nat) (x : Xfer) (s : State) := run t (fun s => s.pmbText 0x99 x (fun _ => ascii [0x5A, 0x49, 0x4C, 0x55, 0x52, 0x41])) s
/-- MFR_MODEL: "CZ3208" or "CZ1604". -/
def execMfrModel (t : Nat) (x : Xfer) (s : State) :=
  run t (fun s => s.pmbText 0x9A x (fun s => if s.cz1604 then ascii [0x43, 0x5A, 0x31, 0x36, 0x30, 0x34]
    else ascii [0x43, 0x5A, 0x33, 0x32, 0x30, 0x38])) s
/-- MFR_REVISION: the revision digit. -/
def execMfrRevision (t : Nat) (x : Xfer) (s : State) := run t (fun s => s.pmbText 0x9B x (fun _ => ascii [0x31])) s
/-- MFR_SERIAL: the first 8 bytes of the identity hash. -/
def execMfrSerial (t : Nat) (x : Xfer) (s : State) := run t (fun s => s.pmbText 0x9E x (fun s => s.otp.devId.take 8)) s

/-! ## Manufacturer commands (Table 16.5) -/

/-- A register read by the P2 or P3 of the bus, answered as a block of `k` words. -/
def State.pmbReg (s : State) (code a : Nat) : State :=
  let x := s.regRead (s.who .pmb) a
  let s := x.2.2
  if x.1 = rOk then s.pmbOut code (block (leBytes 4 x.2.1)) else (s.pmbOut code (block [])).cml 2
/-- A register write by the bus: a refused one is invalid data. -/
def State.pmbRegWrite (s : State) (a v : Nat) : State :=
  let x := s.regWrite (s.who .pmb) a v false
  if x.1 = rOk then x.2 else x.2.pmbInvalid
/-- A block write of one word: the count 4, then the bytes. -/
def blockWord (b : List Byte) : Option Nat := if b.length = 5 && (b.getD 0 0).toNat = 4 then some (leNat (b.drop 1)) else none

/-- MFR_REG_ADDR (R465): the address, whose read starts at once. -/
def State.pmbRegAddr (s : State) (a : Nat) : State :=
  if s.pmb.regBusy then s.pmbInvalid
  else
    let s : State := { s with pmb := { s.pmb with regAddr := a, regData := none } }
    match s.issueRead (s.who .pmb) a with
    | .done res data s => { s with pmb := { s.pmb with regStatus := res, regData := if res = rOk then some data else none } }
    | .waits s => { s with pmb := { s.pmb with regStatus := 7, regBusy := true } }
def execMfrRegAddr (t : Nat) (x : Xfer) (s : State) :=
  run t (fun s => s.pmbRun 0xD0 x none (some (fun b s => if b.length = 2 then s.pmbRegAddr (leNat b) else s.pmbInvalid))) s

/-- The answer of MFR_REG_DATA (R465). -/
def State.pmbRegAnswer (s : State) : State :=
  match s.pmb.regData with
  | some d => s.pmbOut 0xD1 (block (leBytes 4 d))
  | none => (s.pmbOut 0xD1 (block [])).cml 2
/-- MFR_REG_DATA (R465): a read not yet ready stretches the clock; a write is a register write. -/
def State.pmbRegData (s : State) (x : Xfer) : State :=
  s.pmbRun 0xD1 x
    (some (fun s => if s.pmb.regBusy then { s with pmb.stretch := true } else s.pmbRegAnswer))
    (some (fun b s => match blockWord b with
      | some v =>
        if s.pmb.regBusy then s.pmbInvalid
        else match s.issueWrite (s.who .pmb) s.pmb.regAddr v with
          | .done res _ s =>
            let s : State := { s with pmb.regStatus := res }
            s.when (res != rOk) State.pmbInvalid
          | .waits s => { s with pmb := { s.pmb with regStatus := 7, regBusy := true } }
      | none => s.pmbInvalid))
def execMfrRegData (t : Nat) (x : Xfer) (s : State) := run t (fun s => s.pmbRegData x) s
/-- MFR_REG_STATUS. -/
def execMfrRegStatus (t : Nat) (x : Xfer) (s : State) :=
  run t (fun s => s.pmbRun 0xD2 x (some (fun s => s.pmbOut 0xD2 (leBytes 1 s.pmb.regStatus))) none) s

/-- MFR_SESS_CTRL. -/
def execMfrSessCtrl (t : Nat) (x : Xfer) (s : State) :=
  run t (fun s => s.pmbRun 0xD4 x (some (fun s => s.pmbReg 0xD4 0x0210))
    (some (fun b s => match blockWord b with
      | some v => s.pmbRegWrite 0x0210 v
      | none => s.pmbInvalid))) s
/-- MFR_SESS_STAT. -/
def execMfrSessStat (t : Nat) (x : Xfer) (s : State) := run t (fun s => s.pmbRun 0xD5 x (some (fun s => s.pmbReg 0xD5 0x0214)) none) s

/-- Words pushed into the mailbox, least significant byte first on the bus (R8, R464). -/
def State.mboxWords (s : State) : Nat → List Byte → State
  | 0, _ => s
  | k + 1, b => (s.pmbRegWrite 0x0218 (leNat (b.take 4))).mboxWords k (b.drop 4)
/-- Words popped from the mailbox. -/
def State.mboxPops (s : State) : Nat → List Byte → State × List Byte
  | 0, acc => (s, acc)
  | k + 1, acc =>
    let x := s.regRead (s.who .pmb) 0x0218
    x.2.2.mboxPops k (acc ++ leBytes 4 x.2.1)
/-- MFR_SESS_MBOX: 4 to 32 bytes in whole words; a read returns the words of the answer that wait, at most eight. -/
def State.pmbMbox (s : State) (x : Xfer) : State :=
  s.pmbRun 0xD6 x
    (some (fun s =>
      let y := s.mboxPops (min 8 s.sec.pop.length) []
      y.1.pmbOut 0xD6 (block y.2)))
    (some (fun b s =>
      let n := (b.getD 0 0).toNat
      if b.length = n + 1 && n % 4 = 0 && 4 ≤ n && n ≤ 32 then s.mboxWords (n / 4) (b.drop 1) else s.pmbInvalid))
def execMfrSessMbox (t : Nat) (x : Xfer) (s : State) := run t (fun s => s.pmbMbox x) s

/-- MFR_REC_SEL. -/
def execMfrRecSel (t : Nat) (x : Xfer) (s : State) :=
  run t (fun s => s.pmbRun 0xD8 x none (some (fun b s => match blockWord b with
    | some v => s.pmbRegWrite 0x6008 v
    | none => s.pmbInvalid))) s
/-- The eight words of REC_DATA, read in order (R434). -/
def State.recWords (s : State) : Nat → List Byte → State × List Byte
  | 0, acc => (s, acc)
  | k + 1, acc =>
    let x := s.regRead (s.who .pmb) (0x602C - 4 * k)
    x.2.2.recWords k (acc ++ leBytes 4 x.2.1)
/-- MFR_REC_DATA. -/
def execMfrRecData (t : Nat) (x : Xfer) (s : State) :=
  run t (fun s => s.pmbRun 0xD9 x (some (fun s =>
    let y := s.recWords 8 []
    y.1.pmbOut 0xD9 (block y.2))) none) s
/-- MFR_REC_NEWEST. -/
def execMfrRecNewest (t : Nat) (x : Xfer) (s : State) := run t (fun s => s.pmbRun 0xDA x (some (fun s => s.pmbReg 0xDA 0x6004)) none) s
/-- MFR_RAIL_STATE. -/
def execMfrRailState (t : Nat) (x : Xfer) (s : State) := run t (fun s => s.pmbRun 0xDC x (some (fun s => s.pmbReg 0xDC 0x000C)) none) s
/-- MFR_MODE. -/
def execMfrMode (t : Nat) (x : Xfer) (s : State) := run t (fun s => s.pmbRun 0xDD x (some (fun s => s.pmbReg 0xDD 0x0008)) none) s
/-- MFR_PUB_SEL. -/
def execMfrPubSel (t : Nat) (x : Xfer) (s : State) :=
  run t (fun s => s.pmbRun 0xE0 x none (some (fun b s => match b with
    | [i] => if i.toNat < 16 then { s with pmb.pubSel := i.toNat } else s.pmbInvalid
    | _ => s.pmbInvalid))) s
/-- MFR_PUB_DATA (R467). -/
def execMfrPubData (t : Nat) (x : Xfer) (s : State) :=
  run t (fun s => s.pmbRun 0xE1 x (some (fun s => s.pmbReg 0xE1 (0x7140 + 4 * s.pmb.pubSel))) none) s

/-! ## Other events of the bus -/

/-- The command bytes that the controller supports (R459, R464). -/
def pmbCodes : List Nat :=
  [0x00, 0x01, 0x02, 0x03, 0x19, 0x1B, 0x20, 0x21, 0x78, 0x79, 0x7A, 0x7B, 0x7C, 0x7D, 0x7E, 0x80, 0x88, 0x8B, 0x8C, 0x8D, 0x8E, 0x96,
   0x98, 0x99, 0x9A, 0x9B, 0x9E, 0xD0, 0xD1, 0xD2, 0xD4, 0xD5, 0xD6, 0xD8, 0xD9, 0xDA, 0xDC, 0xDD, 0xE0, 0xE1]
/-- PMBUS_INVALID_COMMAND (R459, R464): any other command byte is NACKed. -/
def State.pmbUnknown (s : State) (code : Nat) : State :=
  if !s.regsUp || (s.sessOn 1 && !sessCommand code) then s.pmbNack
  else if pmbCodes.contains code then s
  else s.pmbNack.cml 128
def execPmbusInvalidCommand (t : Nat) (code : Byte) (_x : Xfer) (s : State) := run t (fun s => s.pmbUnknown code.toNat) s

/-- ALERT_RESPONSE (R463): the controller answers while it asserts SMBALERT_N, and so releases it. -/
def State.alertResponse (s : State) : State :=
  if s.smbAlert then { s with pmb := { s.pmb with released := true, nack := false, out := [BitVec.ofNat 8 s.pmbAddr] } }
  else s.pmbNack
def execAlertResponse (t : Nat) (s : State) := run t State.alertResponse s

end Sys2Proof.Machine
end

