-- ==== Sys2Proof/Machine/Session.lean ====
section
/-!
DEFINITION. Service sessions: the handshake (R413 to R416), session commands (R417), the ends of a session (R419), the lockout
(R420), key operations (R421 to R423) and the test port (R424).
-/
namespace Sys2Proof.Machine

/-! ## The mailbox answer -/

/-- Words of a message: the first byte in bits 31:24, the last word padded with 0 (R412). -/
def wordsOf (b : List Byte) : List Nat :=
  (List.range ((b.length + 3) / 4)).map (fun i => beNat (slice (b ++ [0, 0, 0]) (4 * i) 4))
/-- The device places an answer in the mailbox (R412): `res` is its RES or STAT. -/
def State.answer (s : State) (res : Nat) (b : List Byte) : State :=
  { s with sec := { s.sec with
      pop := wordsOf b, rxLen := b.length, rxReady := true, busy := false, msg := [], lastRes := res } }
/-- The answer to a session command; that of a session which ends meanwhile is discarded (R425). -/
def State.reply (s : State) (res : Nat) (b : List Byte) : State :=
  match s.sec.ending with
  | none => s.answer res b
  | some c => State.endSession { s with sec := { s.sec with busy := false, msg := [], lastRes := res } } c

/-- A message waits to be processed. -/
def State.msgWaits (s : State) : Bool := s.regsUp && s.sec.busy && s.sec.wait.isNone
/-- One byte of the message in flight. -/
def State.msgByte (s : State) (i : Nat) : Nat := beNat (slice s.sec.msg i 1)

/-! ## The handshake -/

/-- A session attempt refused with `res` (R414). -/
def State.attemptFailed (s : State) (bus res : Nat) : State :=
  let s := s.when (5 ≤ res && res ≤ 8) State.countFail
  (s.mark F.SEC_STICKY_SESS_FAIL_S).logC 0x0E04 bus [(2, bus), (2, res)]
/-- An M4 without its tag. -/
def m4Head (res : Nat) (rest : Nat) : List Byte := beBytes 1 4 ++ beBytes 1 res ++ beBytes 6 rest
/-- The tag of a device message without ciphertext (R413). -/
def State.devTag (s : State) (cseq : Nat) (head : List Byte) : List Byte :=
  (gcmSeal s.sec.ks (beBytes 4 1 ++ beBytes 4 cseq ++ beBytes 4 0) head []).2

/-- The form of an M1 (Table 14.7): MSG, VER, length, reserved rights, QH on the curve. -/
def helloOk (m : List Byte) : Bool :=
  m.length == 84 && beNat (slice m 0 2) == 0x0101 && beNat (slice m 2 2) < 64 && onCurve (ptOf (slice m 20 64))
/-- The first check of an M1 that fails (Table 14.8). -/
def State.helloRes (s : State) (m : List Byte) : Nat :=
  if !helloOk m then 1 else if s.sec.st != 0 then 2 else if s.sec.locked then 3
  else if s.otp.life == 3 || !s.otp.pufOk then 4 else 0

/-- M2 up to the end of the certificate. -/
def State.m2Head (s : State) (sid nd eph : Nat) : List Byte :=
  beBytes 2 0x0201 ++ beBytes 2 sid ++ beBytes 16 nd ++ ptBytes (scalarMul eph p256G) ++ s.otp.certBytes
/-- M2 with the signature by the identity key. -/
def State.m2 (s : State) (m1 : List Byte) (sid nd eph k : Nat) : List Byte :=
  let h := s.m2Head sid nd eph
  h ++ ecdsaSign s.otp.idk k (sha256 (m1 ++ h))
/-- The handshake that a good M1 starts. -/
def State.handshake (s : State) (m1 : List Byte) (sid nd eph k : Nat) : State :=
  let m2 := s.m2 m1 sid nd eph k
  let ks := hmac (ecdhX eph (slice m1 20 64)) (ascii [0x43, 0x5A, 0x53, 0x31] ++ sha256 (m1 ++ m2))
  let s : State := { s with sec := { s.sec with
    st := 1, bus := s.sec.msgBus, sid := sid, m1 := m1, m2 := m2, eph := eph, ks := ks, cseq := 0, hsAt := s.now, ending := none } }
  s.answer 0 m2

/-- HELLO: a message that comes while no handshake or session is open on its bus is taken as M1 (R414, R425). The nonces, the
ephemeral scalar and the signature's number are draws of the entropy source. -/
def State.hello (s : State) (sid nd eph k : Nat) : State :=
  if !s.msgWaits || (s.sec.st != 0 && s.sec.msgBus == s.sec.bus) then s else
  let m := s.sec.msg
  let res := s.helloRes m
  if res = 0 then s.handshake m sid nd eph k
  else
    let s := s.when (res == 3 && !s.sec.lockTold) (fun s =>
      State.logC { s with sec := { s.sec with lockTold := true } } 0x0E08 0
        [(1, s.get F.AUTH_FAIL_FAIL_N), (2, holdOff (s.get F.AUTH_FAIL_FAIL_N))])
    (s.attemptFailed s.sec.msgBus res).answer res (m4Head res (Config.m4Open res).toNat)
def execHello (t : Nat) (sid : BitVec 16) (nd : BitVec 128) (eph k : BitVec 256) (s : State) :=
  run t (fun s => s.hello sid.toNat nd.toNat eph.toNat k.toNat) s

/-- The service certificate of an M3. -/
def certOf (m3 : List Byte) : List Byte := slice m3 4 176
/-- The form of an M3 (Tables 14.7, 14.9): MSG, VER, length, the reserved bytes of both, the certificate's name and version. -/
def authOk (m : List Byte) : Bool :=
  let c := certOf m
  m.length == 244 && beNat (slice m 0 4) == 0x03010000 && beNat (slice c 0 4) == 0x435A5343 && beNat (slice c 5 1) == 1
    && beNat (slice c 6 2) < 64 && beNat (slice c 44 4) == 0
/-- The points of the curve with an X coordinate. -/
def liftX (x : Nat) : List (Nat × Nat) :=
  let y := powMod p256P ((x * x * x + (p256P - 3) * x + p256B) % p256P) ((p256P + 1) / 4) 256 1
  [(x, y), (x, (p256P - y) % p256P)].filter onCurve
/-- The public keys under which a signature over a digest can verify. -/
def signersOf (digest sig : List Byte) : List (Nat × Nat) :=
  let r := beNat (slice sig 0 32)
  let t := beNat (slice sig 32 32)
  let w := invMod p256N r
  (liftX r ++ liftX (r + p256N)).filterMap (fun q =>
    ptAdd (scalarMul (t * w % p256N) q) (scalarMul ((p256N - beNat digest % p256N) * w % p256N) p256G))
/-- A certificate's signature verifies with the public key whose SHA-256 is `hash` (R415). -/
def certSigned (hash : Nat) (cert : List Byte) : Bool :=
  let digest := sha256 (cert.take 112)
  let sig := slice cert 112 64
  (signersOf digest sig).any (fun q => beNat (sha256 (ptBytes (some q))) == hash && ecdsaOk (ptBytes (some q)) digest sig)

/-- The issuing slot may issue (R411). -/
def Otp.issues (o : Otp) (i : Nat) : Bool := o.usable i && (i == 0 || (o.slot i).typ.testBit 1)
/-- The rights a slot's certificates can grant (R411). -/
def Otp.slotRights (o : Otp) (i : Nat) : Nat := if i = 0 then (if o.life = 2 then 1 else 0x11) else 0x3F
/-- The granted set (R411). -/
def State.granted (s : State) (c : List Byte) : Nat :=
  beNat (slice s.sec.m1 2 2) &&& beNat (slice c 6 2) &&& s.sec.rightsMask &&& s.otp.slotRights (beNat (slice c 4 1))
/-- The binding of a certificate to the part (R414, R415). -/
def State.bound (s : State) (c : List Byte) : Bool :=
  let dev := slice c 12 32
  (beNat dev == 0 || dev == s.otp.devId) && beNat (slice c 8 1) == s.otp.ownGen && beNat (slice c 9 1) ≤ s.otp.rollback
/-- The first check of an M3 that fails (Table 14.8). -/
def State.authRes (s : State) (m : List Byte) : Nat :=
  let c := certOf m
  let i := beNat (slice c 4 1)
  if !authOk m then 1
  else if s.otp.life == 3 || !s.otp.pufOk then 4
  else if !s.otp.issues i || !certSigned (s.otp.slot i).hash c then 5
  else if !s.bound c then 6
  else if !ecdsaOk (slice c 48 64) (sha256 (s.sec.m1 ++ s.sec.m2 ++ m.take 180)) (slice m 180 64) then 7
  else if s.sec.hsAt + 1000000000 < s.sec.msgAt then 8
  else if s.granted c = 0 then 9 else 0

/-- The session opens (R413, R416, R420). -/
def State.openSession (s : State) (c : List Byte) : State :=
  let g := s.granted c
  let slot := beNat (slice c 4 1)
  let life := min (beNat (slice c 10 2)) s.sec.sessMax
  let s : State := { s.set F.AUTH_FAIL_FAIL_N 0 0 with otp.failN := 0 }
  let s : State := { s with sec := { s.sec with
    st := 2, rights := g, slot := slot, cseq := 0, goAt := s.now, openAt := s.now, lifeMin := life, locked := false, ending := none } }
  let s := s.logC 0x0E02 0 [(2, s.sec.bus), (2, s.sec.sid), (2, slot), (1, g)]
  let h := m4Head 0 (g * 2 ^ 32 + s.sec.idleS * 2 ^ 16 + life)
  s.answer 0 (h ++ s.devTag 0 h)
/-- AUTH: the message that comes from the bus of the handshake is taken as M3 (R414). -/
def State.auth (s : State) : State :=
  if !s.msgWaits || s.sec.st != 1 || s.sec.msgBus != s.sec.bus then s else
  let m := s.sec.msg
  let res := s.authRes m
  if res = 0 then s.openSession (certOf m)
  else
    let h := m4Head res (Config.m4Open res).toNat
    let s := (s.attemptFailed s.sec.bus res).answer res (h ++ s.devTag 0 h)
    { s with sec := s.sec.ended }
def execAuth (t : Nat) (s : State) := run t State.auth s

/-- An M3 came within 1 s of M2 and waits for its checks. -/
def State.authWaits (s : State) : Bool :=
  s.sec.busy && s.sec.msgBus == s.sec.bus && decide (s.sec.msgAt ≤ s.sec.hsAt + 1000000000)
/-- SESSION_HANDSHAKE_TIMEOUT (R414): a counted TIMEOUT, 1 s after M2 without an M3. -/
def State.handshakeTimeout (s : State) : State :=
  if s.sec.st == 1 && decide (s.sec.hsAt + 1000000000 ≤ s.now) && !s.authWaits then
    let s := s.attemptFailed s.sec.bus 8
    { s with sec := { s.sec.ended with lastRes := 8 } }
  else s
def execSessionHandshakeTimeout (t : Nat) (s : State) := run t State.handshakeTimeout s

/-! ## Session commands -/

/-- The MSG and operation bytes that name a row: M5 1 to 6, M7 1 to 7. -/
def named (m op : Nat) : Bool := (m == 5 && 1 ≤ op && op ≤ 6) || (m == 7 && 1 ≤ op && op ≤ 7)
/-- A session message stands ready for the row of `m` and `op`: it names that row, or none of the rows. -/
def State.readyFor (s : State) (m op : Nat) : Bool :=
  s.msgWaits && s.sec.st == 2 && s.sec.msgBus == s.sec.bus
    && ((s.msgByte 0 == m && s.msgByte 1 == op) || !named (s.msgByte 0) (s.msgByte 1))

/-- The plaintext of the session message in flight; none where it is no M5 or M7 of its length, its CSEQ is not the next or its
tag fails (R417). -/
def State.unseal (s : State) : Option (List Byte) :=
  let m := s.sec.msg
  let n := if s.msgByte 0 = 5 then 4 else beNat (slice m 2 2)
  if !((s.msgByte 0 == 5 || (s.msgByte 0 == 7 && n ≤ 512)) && m.length == 24 + n) then none
  else if beNat (slice m 4 4) != (s.sec.cseq + 1) % 2 ^ 32 then none
  else gcmOpen s.sec.ks (beBytes 4 0 ++ slice m 4 4 ++ beBytes 4 0) (m.take 8) (slice m 8 n) (slice m (8 + n) 16)
/-- A wrong CSEQ or tag (R417): the session ends with cause TAG and no answer. -/
def State.tagFail (s : State) : State :=
  State.endSession ((s.mark F.SEC_STICKY_TAG_FAIL_S)) 5

/-- M6 (R413, R417). -/
def State.m6 (s : State) (stat addr cseq data : Nat) : State :=
  let h := beBytes 1 6 ++ beBytes 1 stat ++ beBytes 2 addr ++ beBytes 4 cseq
  let x := gcmSeal s.sec.ks (beBytes 4 1 ++ beBytes 4 cseq ++ beBytes 4 0) h (beBytes 4 data)
  s.reply stat (h ++ x.1 ++ x.2)
/-- M6 of an operation that returns no register value. -/
def State.m6Plain (s : State) (op stat addr : Nat) : State := s.m6 stat addr s.sec.cseq (Config.m6Open op stat).toNat
/-- M8 (R413). -/
def State.m8 (s : State) (kop res : Nat) : State :=
  let h := beBytes 1 8 ++ beBytes 1 kop ++ beBytes 1 res ++ beBytes 1 0 ++ beBytes 4 s.sec.cseq
  s.reply res (h ++ s.devTag s.sec.cseq h)

/-- The STAT of an access result (R417): ACCESS 1, ADDRESS 3, a value its field refuses 2. -/
def statOf (res : Nat) : Nat := if res = rOk then 0 else if res = rAccess then 1 else if res = rAddress then 3 else 2

/-- One session message: verified, then carried out by `act` on its plaintext (R417). A message that names no operation is
answered with a STAT or RES the spec leaves open. -/
def State.sessionRun (s : State) (m op : Nat) (act : State → Nat → List Byte → State) : State :=
  if !s.readyFor m op then s else
  match s.unseal with
  | none => s.tagFail
  | some pt =>
    let a := beNat (slice s.sec.msg 2 2)
    let x := s.msgByte 1
    let s : State := { s with sec := { s.sec with cseq := (s.sec.cseq + 1) % 2 ^ 32 } }
    if s.msgByte 0 == m && x == op then act s a pt
    else if s.msgByte 0 = 5 then s.m6Plain x (Config.opStat x).toNat a
    else s.m8 x (Config.keyRes x pt.length).toNat

/-- READ: as Person P3; a Front-die field is answered by BRIDGE_REGISTER_ANSWER (R418, R516). -/
def State.sessRead (s : State) (a : Nat) (_ : List Byte) : State :=
  match s.issueRead (s.who .sess) a with
  | .waits s => { s with sec := { s.sec with wait := some ⟨1, a, s.sec.cseq⟩ } }
  | .done res data s =>
    if res = rOk then s.m6 0 a s.sec.cseq data else s.m6Plain 1 (statOf res) a
def execSessionRead (t : Nat) (s : State) := run t (fun s => s.sessionRun 5 1 State.sessRead) s

/-- WRITE: as Person P3. -/
def State.sessWrite (s : State) (a : Nat) (pt : List Byte) : State :=
  match s.issueWrite (s.who .sess) a (beNat pt) with
  | .waits s => { s with sec := { s.sec with wait := some ⟨2, a, s.sec.cseq⟩ } }
  | .done res _ s => s.m6Plain 2 (statOf res) a
def execSessionWrite (t : Nat) (s : State) := run t (fun s => s.sessionRun 5 2 State.sessWrite) s

/-- CLOSE (R419). -/
def State.sessClose (s : State) (a : Nat) (_ : List Byte) : State := (s.m6Plain 3 0 a).endSession 1
def execClose (t : Nat) (s : State) := run t (fun s => s.sessionRun 5 3 State.sessClose) s

/-- SERVICE may be entered: SAFESTOP, or REGULATE with every rail OFF (T23). -/
def State.serviceOk (s : State) : Bool :=
  s.mode == .safestop || (s.mode == .regulate && allRails.all (fun r => s.st r == .off))
/-- SERVICE (R417): T23. -/
def State.sessService (s : State) (a : Nat) (_ : List Byte) : State :=
  if !s.right 0 then s.m6Plain 4 1 a
  else if !s.serviceOk then s.m6Plain 4 2 a
  else (State.enter { s with pow.wantSafestopClr := false } 23 .service).m6Plain 4 0 a
def execService (t : Nat) (s : State) := run t (fun s => s.sessionRun 5 4 State.sessService) s

/-- SERVICE with no rail switching. -/
def State.atService (s : State) : Bool := s.mode == .service && s.allStill
/-- TAP_UNLOCK (R424). -/
def State.sessTap (s : State) (a : Nat) (_ : List Byte) : State :=
  if !s.right 3 then s.m6Plain 5 1 a
  else if !s.atService || s.otp.tapDis then s.m6Plain 5 2 a
  else
    let s : State := { s.mark F.SEC_STICKY_TAP_S with sec := { s.sec with tapOpen := true } }
    (s.logC 0x0E07 0 [(2, s.sec.sid)]).m6Plain 5 0 a
def execTapUnlock (t : Nat) (s : State) := run t (fun s => s.sessionRun 5 5 State.sessTap) s

/-- CLR_HEALTH (R417): the phase's FAIL_CNT in the phase-health record. -/
def State.sessHealth (s : State) (a : Nat) (_ : List Byte) : State :=
  if !s.right 5 then s.m6Plain 6 1 a
  else if s.mode != .service then s.m6Plain 6 2 a
  else if 32 ≤ a || s.noPhase a then s.m6Plain 6 3 a
  else ((s.set F.PH_STATE_FAIL_CNT a 0).journalChanged 2).m6Plain 6 0 a
def execClrHealth (t : Nat) (s : State) := run t (fun s => s.sessionRun 5 6 State.sessHealth) s

/-! ## Key operations -/

/-- What a key operation answers: RES, the slot or index recorded, the OTP after it. -/
structure KeyOut where
  res : Nat
  slot : Nat
  otp : Otp
  deriving DecidableEq, Repr

/-- A key operation may be carried out (R421). -/
def State.keysOk (s : State) : Bool :=
  s.right 4 && s.atService && s.flag F.SUPPLY_STATUS_VDD33_GOOD && -320 ≤ s.temp pkgReg && s.temp pkgReg ≤ 840
/-- One key operation: refused with 0x02 outside R421, recorded as 0x0E06, answered by M8. `after` follows the OTP. -/
def State.keyRun (s : State) (kop : Nat) (pt : List Byte) (op : Otp → List Byte → KeyOut) (after : State → KeyOut → State) : State :=
  let x := if s.keysOk then op s.otp pt else ⟨2, 0, s.otp⟩
  let s : State := { s with otp := x.otp }
  let s := if x.res = 0 then after (s.mark F.SEC_STICKY_KEYOP_S) x else s
  (s.logC 0x0E06 0 [(2, kop), (2, x.slot), (2, x.res)]).m8 kop x.res
/-- Nothing follows the OTP. -/
def noAfter (s : State) (_ : KeyOut) : State := s
/-- A payload without the operation's form. -/
def keyForm (kop : Nat) (o : Otp) (b : List Byte) : KeyOut := ⟨(Config.keyRes kop b.length).toNat, 0, o⟩

/-- The lowest empty slot of slots 1 to 11. -/
def Otp.firstEmpty (o : Otp) : Option Nat := (List.range 12).find? (fun i => 0 < i && o.emptySlot i)
/-- ADD_KEY: hash and TYPE, of the present generation. -/
def keyAdd (o : Otp) (b : List Byte) : KeyOut :=
  let typ := beNat (slice b 32 1)
  if b.length ≠ 33 ∨ 4 ≤ typ then keyForm 1 o b
  else if typ = 0 || o.life != 2 then ⟨1, 0, o⟩
  else match o.firstEmpty with
    | none => ⟨1, 0, o⟩
    | some i => ⟨0, i, o.putSlot i { hash := beNat (b.take 32), typ := typ, gen := o.ownGen, active := true }⟩
def execAddKey (t : Nat) (s : State) := run t (fun s => s.sessionRun 7 1 (fun s _ pt => s.keyRun 1 pt keyAdd noAfter)) s

/-- The slot that TRANSFER completes: one that holds the new hash for the next generation. -/
def Otp.written (o : Otp) (hash : Nat) : Option Nat := (List.range 12).find? (fun i => o.nextGen i && (o.slot i).hash == hash)
/-- A key slot after step 3 of R422. -/
def KeySlot.aged (gen : Nat) (k : KeySlot) : KeySlot := if k.hash != 0 && k.gen < gen then { k with retired := true } else k
/-- An image-key slot after step 3 of R422. -/
def Iek.aged (gen : Nat) (k : Iek) : Iek := if k.used && k.gen < gen then { k with retired := true } else k
/-- Steps 2 and 3 of R422. -/
def Otp.passOn (o : Otp) : Otp :=
  let gen := o.ownGen + 1
  { o with
    ownBits := o.ownBits ||| 2 ^ o.ownGen
    slots := o.slots.take 1 ++ (o.slots.drop 1).map (KeySlot.aged gen)
    ieks := o.ieks.map (Iek.aged gen) }
/-- TRANSFER on OTP (R422): steps 1 to 3. `slot` issued the present session's certificate. -/
def keyTransfer (slot : Nat) (o : Otp) (b : List Byte) : KeyOut :=
  let hash := beNat (b.take 32)
  let typ := beNat (slice b 32 1)
  let ruler := (slot == 0 && o.life == 1) || (slot != 0 && o.life == 2 && (o.slot slot).gen == o.ownGen)
  if b.length ≠ 33 ∨ 4 ≤ typ then keyForm 2 o b
  else if !typ.testBit 1 || o.ownGen == 7 || !ruler then ⟨1, 0, o⟩
  else match o.written hash with
    | some i => ⟨0, i, (o.putSlot i { o.slot i with active := true }).passOn⟩
    | none => match o.firstEmpty with
      | none => ⟨1, 0, o⟩
      | some i => ⟨0, i, (o.putSlot i { hash := hash, typ := typ, gen := o.ownGen + 1, active := true }).passOn⟩
/-- Step 4 of R422: the event recorder and the journal's event history are erased. -/
def State.eraseEvents (s : State) (_ : KeyOut) : State :=
  let s := { s with rcd.recs := [], jrn.hist := [], jrn.mram := s.jrn.mram.drop (fun w => 0x1000 ≤ w && w < 0x10000) }
  s.set F.JRN_LOAD_HIST_N 0 0
def execTransfer (t : Nat) (s : State) :=
  run t (fun s => s.sessionRun 7 2 (fun s _ pt => s.keyRun 2 pt (keyTransfer s.sec.slot) State.eraseEvents)) s

/-- RETIRE_KEY (R423). `signer` signed the copy applied in the present PARSE. -/
def keyRetire (signer : Option Nat) (o : Otp) (b : List Byte) : KeyOut :=
  let i := beNat b
  let o' := o.putSlot i { o.slot i with retired := true }
  let left := fun (bit : Nat) => (List.range 12).any (fun k => 0 < k && o'.usable k && (o'.slot k).typ.testBit bit)
  if b.length ≠ 1 ∨ 12 ≤ i then keyForm 3 o b
  else if i = 0 || signer == some i || !left 1 || !left 0 then ⟨1, i, o⟩
  else ⟨0, i, o'⟩
/-- RETIRE_KEY: when the slot issued the present session's certificate, M8 goes out and the session ends (R423). -/
def State.sessRetire (s : State) (pt : List Byte) : State :=
  let own := beNat pt == s.sec.slot && pt.length == 1
  let s := s.keyRun 3 pt (keyRetire s.sec.signer) noAfter
  s.when (own && (s.otp.slot s.sec.slot).retired) (fun s => s.endSession 8)
def execRetireKey (t : Nat) (s : State) := run t (fun s => s.sessionRun 7 3 (fun s _ pt => s.sessRetire pt)) s

/-- ADD_IEK: index and key, wrapped under KWRAP with a fresh IV. -/
def keyAddIek (iv : Nat) (o : Otp) (b : List Byte) : KeyOut :=
  let i := beNat (b.take 1)
  if b.length ≠ 33 ∨ 8 ≤ i then keyForm 4 o b
  else if (o.iek i).used then ⟨1, i, o⟩
  else
    let x := gcmSeal o.kwrap (beBytes 12 iv) [] (b.drop 1)
    ⟨0, i, { o with ieks := o.ieks.set i { used := true, iv := iv, ct := beNat x.1, tag := beNat x.2, gen := o.ownGen } }⟩
def execAddIek (t : Nat) (iv : BitVec 96) (s : State) :=
  run t (fun s => s.sessionRun 7 4 (fun s _ pt => s.keyRun 4 pt (keyAddIek iv.toNat) noAfter)) s

/-- RETIRE_IEK; `used` are the image keys of the applied copy's encrypted sections. -/
def keyRetireIek (used : List Nat) (o : Otp) (b : List Byte) : KeyOut :=
  let i := beNat b
  if b.length ≠ 1 ∨ 8 ≤ i then keyForm 5 o b
  else if used.contains i then ⟨1, i, o⟩
  else ⟨0, i, { o with ieks := o.ieks.set i { o.iek i with retired := true } }⟩
def execRetireIek (t : Nat) (s : State) :=
  run t (fun s => s.sessionRun 7 5 (fun s _ pt => s.keyRun 5 pt (keyRetireIek s.sec.ieksUsed) noAfter)) s

/-- TAP_DISABLE. -/
def keyTapDis (o : Otp) (b : List Byte) : KeyOut := if b.isEmpty then ⟨0, 0, { o with tapDis := true }⟩ else keyForm 6 o b
def execTapDisable (t : Nat) (s : State) := run t (fun s => s.sessionRun 7 6 (fun s _ pt => s.keyRun 6 pt keyTapDis noAfter)) s

/-- DECOMMISSION: the payload is "DECO"; the PUF helper data is destroyed. -/
def keyDeco (o : Otp) (b : List Byte) : KeyOut :=
  if b = ascii [0x44, 0x45, 0x43, 0x4F] then ⟨0, 0, { o with puf := false, decomm := true }⟩ else ⟨1, 0, o⟩
def execDecommission (t : Nat) (s : State) := run t (fun s => s.sessionRun 7 7 (fun s _ pt => s.keyRun 7 pt keyDeco noAfter)) s

/-! ## The ends of a session -/

/-- SESSION_IDLE_TIMEOUT (R416, R419): IDLE_S seconds without a GO. -/
def State.sessIdle (s : State) : State :=
  if s.sec.st == 2 && decide (s.sec.goAt + s.sec.idleS * 1000000000 ≤ s.now) then s.endSession 3 else s
def execSessionIdleTimeout (t : Nat) (s : State) := run t State.sessIdle s
/-- SESSION_LIFETIME_EXPIRY (R416, R419). -/
def State.sessLife (s : State) : State :=
  if s.sec.st == 2 && decide (s.sec.openAt + s.sec.lifeMin * 60000000000 ≤ s.now) then s.endSession 4 else s
def execSessionLifetimeExpiry (t : Nat) (s : State) := run t State.sessLife s
/-- LOCKOUT_END (R420): the hold-off of the last counted failure is over. -/
def State.lockoutEnd (s : State) : State :=
  if s.sec.lastFail + holdOff (s.get F.AUTH_FAIL_FAIL_N) * 1000000000 ≤ s.now then { s with sec := { s.sec with locked := false } }
  else s
def execLockoutEnd (t : Nat) (s : State) := run t State.lockoutEnd s

/-! ## The test port (R424) -/

/-- The codes of the instruction in force: 0 Test-Logic-Reset, 1 BYPASS, 2 IDCODE, 3 SAMPLE/PRELOAD, 4 EXTEST. -/
def tapCode (unlocked : Bool) : TapInstr → Nat
  | .idcode => 2
  | .sample => if unlocked then 3 else 1
  | .extest => if unlocked then 4 else 1
  | _ => 1
/-- IDCODE (R424). -/
def State.idcode (s : State) : Nat := if s.cz1604 then 0x1160454B else 0x1320854B
/-- The balls that R424 names follow boundary scan: EXTEST with BUS_V below 1.0 V (800 codes of 1.25 mV). -/
def State.extestDrives (s : State) : Bool := s.sec.tapMode == 4 && s.pow.busV < 800
/-- The test port takes an instruction while VDDIO is good (R49). -/
def State.tapInstr (s : State) (i : TapInstr) : State :=
  if s.flag F.SUPPLY_STATUS_VDDIO_GOOD then { s with sec := { s.sec with tapMode := tapCode s.sec.tapOpen i } } else s
/-- A test instruction of the maker on an unlocked port of a MANUFACTURED part: the spec gives it no effect. -/
def State.makerTest (s : State) (i : TapInstr) : Bool :=
  i == .zilura && s.otp.life == 0 && s.sec.tapOpen && s.flag F.SUPPLY_STATUS_VDDIO_GOOD
def execTestPortInstruction (t : Nat) (i : TapInstr) (s : State) : Host.Outcome State Fault Refusal :=
  if s.makerTest i then .refused .manufacturerTest else run t (fun s => s.tapInstr i) s

end Sys2Proof.Machine
end

