-- ==== Sys2Proof/Machine/Answers.lean ====
section
/-!
DEFINITION. Front-die register accesses that end: the answer of the Front die (R516), the frames that are abandoned (R17, R113), and
the leases that expire (R319).
-/
namespace Sys2Proof.Machine

/-- The result BRIDGE (Table 16.2). -/
def rBridge : Nat := 6

/-- The PMBus register port takes the result of its access (R465): a refused write is invalid data; a stretched read is answered. -/
def State.pmbDone (s : State) (wr : Bool) (res data : Nat) : State :=
  if !s.pmb.regBusy then s else
  let held := s.pmb.stretch
  let s : State := { s with pmb := { s.pmb with
    regBusy := false, stretch := false, regStatus := res, regData := if !wr && res = rOk then some data else none } }
  if wr then s.when (res != rOk) State.pmbInvalid else if held then s.pmbRegAnswer else s
/-- The session command that waited is answered by M6 (R417). -/
def State.sessDone (s : State) (res data : Nat) : State :=
  match s.sec.wait with
  | none => s
  | some c =>
    let s : State := { s with sec := { s.sec with wait := none } }
    if c.op = 1 && res = rOk then s.m6 0 c.addr c.cseq data
    else s.m6Plain c.op (if res = rBridge then 4 else statOf res) c.addr
/-- The Aedat port takes the result (R244, R250): a read that could not be completed is a read error. -/
def State.portDone (s : State) (p : Fin 2) (a : Access) (res data : Nat) : State :=
  if a.wr then
    let s := s.modPort p (fun q => { q with busy := q.busy - 1 })
    (s.when (res != rOk) (fun s => s.portWrFail p a.addr)).credBack p
  else
    match (s.port p).rd with
    | some ⟨seq, false, _, _⟩ =>
      s.modPort p (fun q => { q with rd := some ⟨seq, true, if res = rAccess || res = rBridge then none else some data, s.now⟩ })
    | _ => s
/-- An access that travelled over the bridge completes on the path that issued it. -/
def State.deliver (s : State) (a : Access) (res data : Nat) : State :=
  match a.path with
  | .spi => match s.spi.busy with
    | some e => s.spiDone e.1 e.2 res data
    | none => s
  | .pmb => s.pmbDone a.wr res data
  | .sess => s.sessDone res data
  | .al0 => s.portDone 0 a res data
  | .al1 => s.portDone 1 a res data
  | .fw => s

/-- The Front die carries out an access that crossed the bridge: its result, the data read, and the state after it. -/
def State.carryOut (s : State) (a : Access) : Nat × Nat × State :=
  let w : Who := ⟨a.path, a.person⟩
  if a.wr then let x := s.regWrite w a.addr a.data false; (x.1, 0, x.2) else s.regRead w a.addr
/-- The oldest access leaves the bridge. -/
def State.popAccess (s : State) (l : List Access) : State :=
  { s with br := { s.br with c4 := l, c4At := s.now, c4Resends := 0, ansResends := 0 } }
/-- BRIDGE_REGISTER_ANSWER (R516): the oldest access is carried out by the Front die and its answer completes it. No answer passes
while a class 1 event waits (R16). -/
def State.regAnswer (s : State) : State :=
  if !s.pow.cdUp || !s.rcd.c1q.isEmpty then s else
  match s.br.c4 with
  | [] => s
  | a :: l =>
    let x := (s.popAccess l).carryOut a
    x.2.2.deliver a x.1 x.2.1
def execBridgeRegisterAnswer (t : Nat) (s : State) := run t State.regAnswer s

/-! ## Abandoned frames -/

/-- A bridge fault, recorded by the die that sent the frame (R17). -/
def State.bridgeFault (s : State) (front : Bool) (cls : Nat) : State :=
  (s.mark F.BRIDGE_STATUS_BRIDGE_FAULT).raise front 0x0101 0 [(2, cls), (2, (Config.bridgeType cls).toNat)]
/-- The oldest access is abandoned: it ends with an error on the path that issued it. -/
def State.dropAccess (s : State) : State :=
  match s.br.c4 with
  | [] => s
  | a :: l => ((s.popAccess l).bridgeFault false 4).deliver a rBridge 0
/-- The answer of the Front die to the oldest access is abandoned: the access has been carried out, and it ends with an error on the
path that issued it. -/
def State.dropAnswer (s : State) : State :=
  match s.br.c4 with
  | [] => s
  | a :: l => (((s.popAccess l).carryOut a).2.2.bridgeFault true 4).deliver a rBridge 0
/-- An apply write is abandoned (R113): the apply starts over once; a second time no configuration can be applied (T6). -/
def State.dropApply (s : State) : State :=
  let s := s.bridgeFault false 4
  if s.br.applyRestarts = 0 then (State.set { s with br.applyResends := 0, br.applyRestarts := 1 } F.PARSE_STATUS_APPLY_STEP 0 0)
  else
    let s := s.logC 0x0404 0 [(1, s.get F.PARSE_STATUS_A_RESULT), (1, s.get F.PARSE_STATUS_B_RESULT)]
    (State.enterSafestop { s with par.stopped := true } 6)

/-- A configuration is being applied, so that its writes travel in class 4 frames (R113): a copy or a profile is chosen, or NOR mode
11 asks for the strap profile (R105). -/
def State.applying (s : State) : Bool := s.mode == .parse && !s.par.stopped && (s.par.source != 0 || s.norMode == 3)

/-- BRIDGE_RESEND_TIMEOUT (R17): a frame is sent again, at most 8 times, then abandoned. `k` 0 is a class 3 request, 1 a class 4
access, 2 a class 4 write of the apply, 3 the answer of the Front die to an access. -/
def State.resend (s : State) (k : Nat) : State :=
  if !s.pow.cdUp then s
  else match k with
  | 0 =>
    match s.br.c3 with
    | [] => s
    | _ :: l =>
      if s.br.c3Resends < 8 then { s with br.c3Resends := s.br.c3Resends + 1 }
      else State.bridgeFault { s with br.c3 := l, br.c3Resends := 0 } false 3
  | 1 =>
    if s.br.c4.isEmpty then s
    else if s.br.c4Resends < 8 then { s with br.c4Resends := s.br.c4Resends + 1 } else s.dropAccess
  | 2 =>
    if !s.applying then s
    else if s.br.applyResends < 8 then { s with br.applyResends := s.br.applyResends + 1 } else s.dropApply
  | _ =>
    if s.br.c4.isEmpty then s
    else if s.br.ansResends < 8 then { s with br.ansResends := s.br.ansResends + 1 } else s.dropAnswer
def execBridgeResendTimeout (t : Nat) (frame : Fin 4) (s : State) := run t (fun s => s.resend frame.val) s

/-! ## Leases (Table 10.8) -/

/-- The count of a resource. -/
def leaseField : Nat → Fld
  | 4 => F.LEASE_STATUS_JOURNAL_N
  | 3 => F.LEASE_STATUS_BRIDGE_N
  | 2 => F.LEASE_STATUS_SPI_N
  | 1 => F.LEASE_STATUS_PMBUS_N
  | _ => F.LEASE_STATUS_HKADC_N
/-- The holder that record 0x0A13 names: the commit's type, the path of the access, else 0. -/
def State.leaseHolder (s : State) (res : Nat) : Nat :=
  match res with
  | 4 => match s.jrn.busy with
    | some c => c.kind
    | none => 0
  | 3 => match s.br.c4 with
    | a :: _ => s.pathCode a.path
    | [] => 0
  | _ => 0
/-- The lease is held, of the journal and of the bridge for its maximum. The host frames and the conversion of the ADC are not part of
the state: their expiry is taken as it comes. -/
def State.leaseHeld (s : State) (res : Nat) : Bool :=
  match res with
  | 4 => s.jrn.busy.any (fun c => c.startAt + 2000000 ≤ s.now)
  | 3 => !s.br.c4.isEmpty && decide (s.br.c4At + 20000 ≤ s.now)
  | 2 => s.spiUp
  | 1 => s.regsUp
  | _ => s.mode != .dormant
/-- What the expiry does to the holder. -/
def State.leaseEnd (s : State) (res : Nat) : State :=
  match res with
  | 4 => s.jrnAbandon.jrnDefer ((s.jrn.busy.map Commit.kind).getD 0) 3
  | 3 => s.dropAccess
  | 2 => { s with spi := { s.spi with word := 0xFFFFFFFF, data := 0xFFFFFFFF } }
  | 1 => { s with pmb := { s.pmb with stretch := false, out := [], nack := false } }
  | _ => s
/-- LEASE_EXPIRY (R319). -/
def State.leaseExpiry (s : State) (res : Nat) : State :=
  if !s.leaseHeld res then s else
  let h := s.leaseHolder res
  let s := s.leaseEnd res
  let s := s.set F.LEASE_STATUS_LEASE_EXP_S 0 (s.get F.LEASE_STATUS_LEASE_EXP_S ||| 2 ^ res)
  (s.inc (leaseField res)).logC 0x0A13 0 [(2, res), (2, h)]
def execLeaseExpiry (t : Nat) (res : Fin 5) (s : State) := run t (fun s => s.leaseExpiry res.val) s

end Sys2Proof.Machine
end

