-- ==== Sys2Proof/Machine/Conjunction.lean ====
section
/-!
DEFINITION. The Conjunction Link (R468 to R482): frames received and sent, joining, the spanning rail on leader and member, islands,
lost peers; the LINKS section (R483).
-/
namespace Sys2Proof.Machine

/-! ## Frames -/

/-- The link takes part (R468, R472): enabled, PARSE complete, the Control die running. -/
def State.cjUp (s : State) : Bool := s.flag F.CJ_CFG_CJ_EN && s.regsUp && s.mode != .parse && s.parsed
/-- The controller's own number. -/
def State.ctl (s : State) : Nat := s.get F.CJ_CFG_CTL_NUM
/-- This controller leads (R472). -/
def State.leads (s : State) : Bool := s.flag F.CJ_CFG_LEADER
/-- The header byte of a frame (R469). -/
def cjHeader (typ src seq : Nat) : Nat := typ * 16 + src * 4 + seq
/-- The CRC-16 over header and payload (R469). -/
def cjCrc (typ src seq payload : Nat) : Nat := crc16 (bitsOf 56 (cjHeader typ src seq * 2 ^ 48 + payload))

/-- A frame received (R469): one with a code error or a failed CRC is discarded and counted. -/
def State.cjIn (s : State) (typ src seq payload crc : Nat) (codeErr : Bool) (f : State → State) : State :=
  if !s.cjUp then s
  else if codeErr then ((s.inc F.CJ_COUNT_CODE_ERR).mark F.CJ_STICKY_ERR_S).clear F.CJ_STATUS_LINK_OK
  else if cjCrc typ src seq payload != crc then (s.inc F.CJ_COUNT_CRC_ERR).mark F.CJ_STICKY_ERR_S
  else f (s.mark F.CJ_STATUS_LINK_OK)

/-- The controller takes part in the system: not a duplicate (R470). -/
def State.cjIs (s : State) (leader : Bool) : Bool := !s.flag F.CJ_STATUS_DUP_CTL && s.leads == leader

/-- What the link knows of a controller. -/
def State.peer (s : State) (c : Nat) : Peer := s.cj.peers.getD c {}
/-- Change it. -/
def State.putPeer (s : State) (c : Nat) (p : Peer) : State := { s with cj := { s.cj with peers := s.cj.peers.set c p } }
/-- Bit 3 of STATUS_MFR_SPECIFIC (Table 16.4): on the spanning rail's page, or on every page without one. -/
def State.peerAlert (s : State) : State :=
  match s.spanRail with
  | some r => s.pmbBits F.PMB_RSTAT2_STATUS_MFR r 8
  | none => allRails.foldl (fun (s : State) (r : Fin 8) => s.pmbBits F.PMB_RSTAT2_STATUS_MFR r 8) s
/-- Microseconds since an instant. -/
def State.usSince (s : State) (t : Nat) : Nat := (s.now - t) / 1000

/-! ## Peers found -/

/-- The leader hears a member: one that was lost is found again; PEER_LOST clears when no member is lost (R480). -/
def State.heard (s : State) (c : Nat) : State :=
  let p := s.peer c
  let s := s.putPeer c { p with seen := some s.now, lost := false }
  let s := if p.lost then s.logC 0x1005 0 [(1, c), (2, s.usSince p.lostAt)] else s
  if s.cj.peers.any (fun p => p.lost) then s else s.clear F.CJ_STATUS_PEER_LOST
/-- A member hears the leader again after it declared it lost without an island (R478, R485). -/
def State.leaderBack (s : State) : State :=
  if s.cj.leaderLost then
    State.logC { s with cj := { s.cj with leaderLost := false } } 0x1005 0 [(1, 0), (2, s.usSince s.cj.lostAt)]
  else s

/-- The leader's last good frame, TARGET or PING (R478). -/
def State.leaderHeard (s : State) (target : Bool) : State :=
  { s with cj := { s.cj with leaderAt := s.now, targetAt := if target then s.now else s.cj.targetAt } }

/-! ## The member's part of the spanning rail -/

/-- The part starts on the common target with no ramp of its own (R476), with SEN high (R218). -/
def State.joinRamp (s : State) (r : Fin 8) : State :=
  let d := (s.eng r).dac
  let s := ((s.setSen r true).enterRamp r).modFr r (fun f => { f with started := true })
  (s.modEng r (fun g => { g with dac := d, startCode := d })).takeSet r
/-- The part enters REG from RAMP. -/
def State.joinReg (s : State) (r : Fin 8) : State :=
  (s.setRail r .reg).modFr r (fun f => { f with pgAt := s.now, regAt := s.now })
/-- The part may start: ARMED, its pre-start tests passed, SEN_LEAD elapsed (R476), its input voltage sampled (R134). -/
def State.partReady (s : State) (r : Fin 8) : Bool :=
  s.st r == .armed && (s.fr r).passed && (s.fr r).senLead && (s.eng r).vinAt.isSome
/-- The part enters RAMP on the leader's word, with enough live phases; out of HICCUP its faulted phases are latched first (R167, R213,
R476). -/
def State.joinStart (s : State) (r : Fin 8) : State :=
  if s.partReady r || s.st r == .hiccup then
    let s := s.when (s.st r == .hiccup) (fun s => s.hicTflt r)
    if s.get F.PHC_CTRL_MIN_LIVE r ≤ (s.liveOf r).length then s.joinRamp r else s.checkMinLive r
  else s
/-- A fast stop of the part without a state of its own to announce. -/
def State.partOff (s : State) (r : Fin 8) : State :=
  match s.st r with
  | .ramp | .reg | .shed | .rampdown => (s.fastStop r).railOff r
  | .latched | .hiccup => s.railOff r
  | _ => s
/-- A fast stop into HICCUP by the link (R477). -/
def State.partHiccup (s : State) (r : Fin 8) : State :=
  ((s.fastStop r).setRail r .hiccup).modFr r (fun f => { f with hicAt := s.now })

/-- A fall that followed the leader goes on by itself from the code it has reached. -/
def State.ownFall (s : State) (r : Fin 8) : State :=
  if s.cj.rstate = 6 then s.modEng r (fun g => { g with rampT0 := g.dac, rampK := 0 }) else s
/-- A member takes the leader's state (R476): REG and SHED are its own choice by R156. Codes of Table 3.4. -/
def State.takeRstate (s : State) (r : Fin 8) (code : Nat) : State :=
  match code with
  | 0 | 1 => if s.st r == .rampdown then s.ownFall r else s.partOff r
  | 2 => s.joinStart r
  | 3 | 4 =>
    let s := s.joinStart r
    if s.st r == .ramp then s.joinReg r else s
  | 5 => if (s.st r).switching then s.partHiccup r else s
  | 6 => if s.st r == .rampdown then s else s.softStop r .toOff 0
  | 7 =>
    if s.st r == .rampdown then (s.ownFall r).softStop r .toLatched Config.cjLatchCause.toNat
    else if (s.st r).switching || s.st r == .hiccup then s.railLatch r Config.cjLatchCause.toNat true else s
  | _ => s

/-- ff of a member: trunc0(F / N_SYS_SW) (R271, R475). -/
def State.memberF (s : State) (r : Fin 8) : State :=
  (s.setI F.TN_STAT_F r s.cj.f).modEng r (fun g => { g with ff := satS 16 (trunc0 s.cj.f (max 1 (s.nSys r))) })

/-- The rail a frame names is this controller's part of the spanning rail. -/
def State.partOf (s : State) (payload : Nat) : Option (Fin 8) :=
  match s.spanRail with
  | some r => if r.val = bits payload 45 3 then some r else none
  | none => none

/-- A member that islands counts the good TARGETs whose U lies within 64 codes of its own u; the fourth in a row rejoins it, once no
large-signal action runs (R479, Table 16.9). -/
def State.islandTarget (s : State) (r : Fin 8) (u : Int) : State :=
  let near := decide (|u - (s.eng r).uDem| ≤ 64)
  let n := if near then s.cj.goodRun + 1 else 0
  let s : State := { s with cj := { s.cj with goodRun := n } }
  if 4 ≤ n && (s.fr r).ls == .none then
    let s := (s.clear F.CJ_STATUS_ISLAND).logC 0x1005 0 [(1, 0), (2, s.usSince s.cj.islandAt)]
    s.modEng r (fun g => { g with commonU := u })
  else s
/-- TARGET (R475, R478, R479): DAC code, common target and F. -/
def State.targetIn (s : State) (src seq payload : Nat) : State :=
  if !s.cjIs false || src != 0 then s else
  let s := (s.mark F.CJ_STATUS_RING_OK).leaderBack.leaderHeard true
  let u := toS 16 (bits payload 16 16)
  let s : State := { s with cj := { s.cj with target := some ⟨1, src, seq, payload⟩ } }
  match s.partOf payload with
  | none => s
  | some r =>
    let s := if s.flag F.CJ_STATUS_ISLAND then s.islandTarget r u else s
    if s.flag F.CJ_STATUS_ISLAND then s
    else
      let d := bits payload 33 12
      let s : State := { s with cj := { s.cj with f := toS 16 (bits payload 0 16) } }
      let s := (s.modEng r (fun g => { g with commonU := u, dac := d })).modSp r (fun q => { q with acc := d * 128 })
      s.memberF r
def execTarget (t : Nat) (src seq : BitVec 2) (payload : BitVec 48) (crc : BitVec 16) (codeErr : Bool) (s : State) :=
  run t (fun s => s.cjIn 1 src.toNat seq.toNat payload.toNat crc.toNat codeErr (fun s => s.targetIn src.toNat seq.toNat payload.toNat)) s

/-- The figures of a RAILINFO that no part of the rail is needed for. -/
def State.infoRegs (s : State) (payload : Nat) : State :=
  let s := (s.set F.CJ_STATUS_N_SYS_SW 0 (bits payload 33 8)).set F.CJ_ILIM_ILIM_SYS 0 (bits payload 16 17)
  let s := s.set F.CJ_STATUS_PEER_LOST 0 (bits payload 11 1)
  { s with cj := { s.cj with evState := none, prepos := (bits payload 10 1 == 1), taken := true } }
/-- What the part of the rail takes from a RAILINFO: RETRY_CNT, F and the state of a joined member that does not island; the phases
that PREPOS asks for. -/
def State.infoPart (s : State) (r : Fin 8) (payload code : Nat) : State :=
  let s := if s.flag F.CJ_STATUS_ISLAND || !s.flag F.CJ_STATUS_JOINED then s
    else ((s.set F.HIC_STATUS_RETRY_CNT r (bits payload 12 4)).memberF r).takeRstate r code
  let s : State := { s with cj := { s.cj with rstate := code } }
  if bits payload 10 1 == 1 && (s.st r == .reg || s.st r == .shed) then (s.addEvent r).requestAdd r (s.idleOf r).length none 2 else s
/-- RAILINFO (R471, R475 to R477, R480). After a RAILEV, a RAILINFO whose state is older is ignored: one of a rail that still runs,
until the leader's confirms the state (Table 16.9). -/
def State.infoIn (s : State) (src payload : Nat) : State :=
  let code := bits payload 41 4
  let running := code == 2 || code == 3 || code == 4 || code == 6
  if !s.cjIs false || src != 0 || (s.cj.evState.isSome && running) then s
  else match s.partOf payload with
    | none => s.infoRegs payload
    | some r => (s.infoRegs payload).infoPart r payload code
def execRailinfo (t : Nat) (src seq : BitVec 2) (payload : BitVec 48) (crc : BitVec 16) (codeErr : Bool) (s : State) :=
  run t (fun s => s.cjIn 2 src.toNat seq.toNat payload.toNat crc.toNat codeErr (fun s => s.infoIn src.toNat payload.toNat)) s

/-- RAILEV (R477): the part fast-stops and takes the carried state, cause and RETRY_CNT. -/
def State.evIn (s : State) (src payload : Nat) : State :=
  if s.flag F.CJ_STATUS_DUP_CTL || src == s.ctl then s else
  match s.partOf payload with
  | none => s
  | some r =>
    let code := bits payload 41 4
    let s : State := { s with cj := { s.cj with taken := true, evState := if s.leads then none else some code } }
    let s := s.set F.HIC_STATUS_RETRY_CNT r (bits payload 33 4)
    if code = 5 then (if s.st r == .hiccup then s else s.partHiccup r)
    else if code = 7 then (if s.st r == .latched then s else s.railLatch r (bits payload 37 4) true)
    else s
def execRailev (t : Nat) (src seq : BitVec 2) (payload : BitVec 48) (crc : BitVec 16) (codeErr : Bool) (s : State) :=
  run t (fun s => s.cjIn 4 src.toNat seq.toNat payload.toNat crc.toNat codeErr (fun s => s.evIn src.toNat payload.toNat)) s

/-- MSTAT (R474, R476, R480): the leader takes a joined member's figures. -/
def State.mstatIn (s : State) (src payload : Nat) : State :=
  if !s.cjIs true || !(s.peer src).joined then s else
  let s := s.heard src
  s.putPeer src { s.peer src with
    ready := bits payload 44 1 == 1, nSw := bits payload 38 6, nLive := bits payload 32 6, ilim := bits payload 16 16
    iLoc := toS 16 (bits payload 0 16) }
def execMstat (t : Nat) (src seq : BitVec 2) (payload : BitVec 48) (crc : BitVec 16) (codeErr : Bool) (s : State) :=
  run t (fun s => s.cjIn 3 src.toNat seq.toNat payload.toNat crc.toNat codeErr (fun s => s.mstatIn src.toNat payload.toNat)) s

/-- PING (R471, R478, R480): a controller without a part of the rail is present. -/
def State.pingIn (s : State) (src : Nat) : State :=
  if s.cjIs true then (if (s.peer src).joined then s.heard src else s)
  else if src = 0 && s.cjIs false then s.leaderBack.leaderHeard false else s
def execPing (t : Nat) (src seq : BitVec 2) (payload : BitVec 48) (crc : BitVec 16) (codeErr : Bool) (s : State) :=
  run t (fun s => s.cjIn 7 src.toNat seq.toNat payload.toNat crc.toNat codeErr (fun s => s.pingIn src.toNat)) s

/-! ## Joining (R472) -/

/-- The part code. -/
def State.part (s : State) : Nat := if s.cz1604 then 0x1604 else 0x3208
/-- SPAN and SPAN_RAIL of a JOIN. -/
def State.spanBits (s : State) : Nat :=
  if s.get F.CJ_SPAN_SPAN_RAIL < 8 then 8 + s.get F.CJ_SPAN_SPAN_RAIL else 0
/-- The REASON of a refusal, 0 where the leader accepts. -/
def State.joinReason (s : State) (src payload : Nat) : Nat :=
  let span := bits payload 4 4
  if bits payload 32 16 != s.part then 1
  else if bits payload 8 24 != s.get F.CJ_CFG_SYSTEM_ID then 2
  else if (8 ≤ span || 8 ≤ s.spanBits) && span != s.spanBits then 3
  else if 8 ≤ span && !(s.get F.CJ_CFG_MEMBERS).testBit src then 4 else 0
/-- JOIN: the leader answers in its next own slot. -/
def State.joinIn (s : State) (src payload : Nat) : State :=
  if !s.cjIs true then s else
  let why := s.joinReason src payload
  let s := if why = 0 then (s.heard src).putPeer src { (s.heard src).peer src with joined := true } else s
  { s with cj := { s.cj with txq := s.cj.txq ++ [(6, src * 2 ^ 46 + b2n (why == 0) * 2 ^ 45 + why * 2 ^ 41)] } }
def execJoin (t : Nat) (src seq : BitVec 2) (payload : BitVec 48) (crc : BitVec 16) (codeErr : Bool) (s : State) :=
  run t (fun s => s.cjIn 5 src.toNat seq.toNat payload.toNat crc.toNat codeErr (fun s => s.joinIn src.toNat payload.toNat)) s

/-- WELCOME: a member is joined, or records the refusal and keeps its part in OFF. -/
def State.welcomeIn (s : State) (src payload : Nat) : State :=
  if !s.cjIs false || src != 0 || bits payload 46 2 != s.ctl then s else
  let s := s.set F.CJ_STATUS_REASON 0 (bits payload 41 4)
  if bits payload 45 1 = 1 then State.mark { s with cj := { s.cj with refused := false } } F.CJ_STATUS_JOINED
  else
    let s := ((s.mark F.CJ_STICKY_REFUSED_S).clear F.CJ_STATUS_JOINED).peerAlert
    let s := s.logC 0x1002 0 [(1, s.ctl), (1, bits payload 41 4)]
    let s : State := { s with cj := { s.cj with refused := true } }
    match s.spanRail with
    | some r => s.disarm r
    | none => s
def execWelcome (t : Nat) (src seq : BitVec 2) (payload : BitVec 48) (crc : BitVec 16) (codeErr : Bool) (s : State) :=
  run t (fun s => s.cjIn 6 src.toNat seq.toNat payload.toNat crc.toNat codeErr (fun s => s.welcomeIn src.toNat payload.toNat)) s

/-- The next JOIN is due: 10 µs after the last, 100 ms after it once refused (R472). -/
def State.joinDue (s : State) : Bool :=
  match s.cj.joinAt with
  | some t => t + (if s.cj.refused then 100000000 else 10000) ≤ s.now
  | none => true
/-- JOIN_RETRY: a member without a WELCOME sends JOIN in its next own slot. -/
def State.joinRetry (s : State) : State :=
  if !s.cjUp || !s.cjIs false || s.flag F.CJ_STATUS_JOINED || !s.joinDue then s else
  { s with cj := { s.cj with joinAt := some s.now, txq := s.cj.txq.filter (fun e => e.1 != 5)
      ++ [(5, s.part * 2 ^ 32 + s.get F.CJ_CFG_SYSTEM_ID * 2 ^ 8 + s.spanBits * 2 ^ 4)] } }
def execJoinRetry (t : Nat) (s : State) := run t State.joinRetry s
/-- JOIN_TIMEOUT: 100 ms after PARSE with no WELCOME, recorded once with REASON 0. -/
def State.joinTimeout (s : State) : State :=
  if !s.cjUp || !s.cjIs false || s.flag F.CJ_STATUS_JOINED || s.cj.refused || s.cj.told
      || decide (s.now < s.cj.parseEnd + 100000000) then s else
  State.logC { s with cj := { s.cj with told := true } } 0x1002 0 [(1, s.ctl), (1, 0)]
def execJoinTimeout (t : Nat) (s : State) := run t State.joinTimeout s

/-! ## Sending -/

/-- The payload of a RAILINFO (Table 16.6). -/
def State.railInfo (s : State) (r : Fin 8) : Nat :=
  r.val * 2 ^ 45 + (s.st r).code * 2 ^ 41 + min 255 (s.nSys r) * 2 ^ 33 + min 131071 (s.ilimSys r) * 2 ^ 16
    + s.get F.HIC_STATUS_RETRY_CNT r * 2 ^ 12 + s.get F.CJ_STATUS_PEER_LOST * 2 ^ 11 + b2n (s.prepos r) * 2 ^ 10
/-- The payload of an MSTAT (Table 16.6). A member that left the running modes reports no live phase (R477). -/
def State.mstat (s : State) (r : Fin 8) : Nat :=
  r.val * 2 ^ 45 + b2n (s.partReady r) * 2 ^ 44 + (s.switchingOf r).length * 2 ^ 38
    + (if s.mode == .safestop then 0 else (s.liveOf r).length) * 2 ^ 32 + min 65535 (s.ilimRail r) * 2 ^ 16
    + ofS 16 (satS 16 (s.eng r).iSum)
/-- RAILINFO is due on the leader: when it changed, or after 640 ns. -/
def State.infoDue (s : State) (r : Fin 8) : Bool := s.railInfo r != s.cj.infoLast || s.cj.infoAt + 640 ≤ s.now
/-- The leader has sent its RAILINFO. -/
def State.infoSent (s : State) (r : Fin 8) : State :=
  let w := s.railInfo r
  let n := min 255 (s.nSys r)
  let i := min 131071 (s.ilimSys r)
  let s := (s.set F.CJ_STATUS_N_SYS_SW 0 n).set F.CJ_ILIM_ILIM_SYS 0 i
  { s with cj := { s.cj with infoLast := w, infoAt := s.now } }
/-- A frame due every 1,280 ns. -/
def State.statFrame (s : State) (x : Nat × Nat) : (Nat × Nat) × State :=
  if s.cj.statAt + 1280 ≤ s.now then (x, { s with cj := { s.cj with statAt := s.now } }) else ((0, 0), s)
/-- The frame for the controller's own slot (R470, R471): what is queued, RAILEV first; RAILINFO on a change and at least every
960 ns; MSTAT, or PING without a part of the rail, every 1.28 µs; else EMPTY. -/
def State.nextFrame (s : State) : (Nat × Nat) × State :=
  match s.cj.txq with
  | e :: l => (e, { s with cj := { s.cj with txq := l } })
  | [] =>
    match s.spanRail, s.leads with
    | some r, true => if s.infoDue r then ((2, s.railInfo r), s.infoSent r) else ((0, 0), s)
    | some r, false => if s.flag F.CJ_STATUS_JOINED then s.statFrame (3, s.mstat r) else ((0, 0), s)
    | none, _ => s.statFrame (7, s.part * 2 ^ 32)
/-- The controller puts a frame into its own slot. -/
def State.sendOwn (s : State) : State :=
  if s.flag F.CJ_STATUS_DUP_CTL then { s with cj := { s.cj with outFrame := none } } else
  let x := s.nextFrame
  let s := x.2
  let q := s.cj.seq
  { s with cj := { s.cj with outFrame := some ⟨x.1.1, s.ctl, q, x.1.2⟩, sent := some q, seq := (q + 1) % 4 } }
/-- A frame of the controller's own SRC with a SEQ it did not send stands in its own slot (R470). -/
def State.dupSeen (s : State) (src seq : Nat) : Bool := src == s.ctl && s.cj.sent.isSome && s.cj.sent != some seq
/-- DUP_CTL (R470): it stops originating and stays out of the system. -/
def State.dupCtl (s : State) : State :=
  if s.flag F.CJ_STATUS_DUP_CTL then s else
  let s := (s.mark F.CJ_STATUS_DUP_CTL).clear F.CJ_STATUS_JOINED
  let s : State := { s with cj := { s.cj with txq := [], outFrame := none } }
  s.logC 0x1006 0 [(1, s.ctl)]
/-- What the returned frame itself says: a duplicate, or for the leader a ring that closes. -/
def State.ownBack (s : State) (src seq : Nat) : State :=
  if s.dupSeen src seq then s.dupCtl
  else if src == s.ctl && s.leads then State.mark { s with cj := { s.cj with ringAt := s.now } } F.CJ_STATUS_RING_OK else s
/-- CJ_OWN_SLOT_RETURN (R470). -/
def State.ownSlot (s : State) (typ src seq payload crc : Nat) (codeErr : Bool) : State :=
  if !s.cjUp then s else (s.cjIn typ src seq payload crc codeErr (fun s => s.ownBack src seq)).sendOwn
def execCjOwnSlotReturn (t : Nat) (typ : BitVec 4) (src seq : BitVec 2) (payload : BitVec 48) (crc : BitVec 16) (codeErr : Bool) (s : State) :=
  run t (fun s => s.ownSlot typ.toNat src.toNat seq.toNat payload.toNat crc.toNat codeErr) s

/-- The payload of a TARGET (Table 16.6). -/
def State.targetOut (s : State) (r : Fin 8) : Nat :=
  r.val * 2 ^ 45 + s.dacCode r % 4096 * 2 ^ 33 + ofS 16 (satS 16 (s.eng r).uDem) * 2 ^ 16 + ofS 16 (satS 16 (s.getI F.TN_STAT_F r))
/-- TARGET_SLOT_SEND (R470, R474): the leader fills a target slot; without a spanning rail the slot stays EMPTY. -/
def State.targetSend (s : State) : State :=
  if !s.cjUp || !s.cjIs true then s else
  let q := s.cj.seq
  let x : Nat × Nat := match s.spanRail with
    | some r => (1, s.targetOut r)
    | none => (0, 0)
  { s with cj := { s.cj with target := some ⟨x.1, s.ctl, q, x.2⟩, seq := (q + 1) % 4 } }
def execTargetSlotSend (t : Nat) (s : State) := run t State.targetSend s

/-! ## Losing a peer (R478, R480) -/

/-- The member islands: steps 1 to 4 of R478. -/
def State.island (s : State) (r : Fin 8) : State :=
  let u := (s.eng r).commonU
  let s : State := { s with cj := { s.cj with f := 0, goodRun := 0, islandAt := s.now, prepos := false } }
  let s := ((s.mark F.CJ_STATUS_ISLAND).mark F.CJ_STICKY_ISLAND_S).inc F.CJ_COUNT_ISLAND_N
  let s := (s.memberF r).preload r u
  if s.st r == .rampdown then s.modEng r (fun g => { g with rampT0 := g.dac, rampK := 0 }) else s
/-- The leader is silent (R478): 1 µs without a TARGET where the part switches, else 5 µs without a TARGET or PING. -/
def State.leaderSilent (s : State) : Bool :=
  if s.spanRail.any (fun r => (s.st r).switching) then s.cj.targetAt + 1000 ≤ s.now else s.cj.leaderAt + 5000 ≤ s.now
/-- LEADER_LOST (R478): a member whose part switches islands; any other declares the leader lost. -/
def State.leaderLost (s : State) : State :=
  if !s.cjUp || !s.cjIs false || !s.leaderSilent then s else
  let told := s.logC 0x1003 0 [(1, 0), (2, 1), (1, s.get F.CJ_STATUS_N_SYS_SW)]
  let told := (((told.mark F.CJ_STICKY_LOST_S).clear F.CJ_STATUS_RING_OK).clear F.CJ_STATUS_LINK_OK).peerAlert
  let gone : State := { told with cj := { told.cj with leaderLost := true, lostAt := s.now } }
  match s.spanRail with
  | some r =>
    if (s.st r).switching then (if s.flag F.CJ_STATUS_ISLAND then s else told.island r)
    else if s.cj.leaderLost then s else gone
  | none => if s.cj.leaderLost then s else gone
def execLeaderLost (t : Nat) (s : State) := run t State.leaderLost s
/-- ISLAND_TIMEOUT (R478): ISLAND_MAX ms as an island; a part that already stops goes on. -/
def State.islandTimeout (s : State) : State :=
  match s.spanRail with
  | some r =>
    if !s.flag F.CJ_STATUS_ISLAND || decide (s.now < s.cj.islandAt + s.get F.CJ_SPAN_ISLAND_MAX * 1000000)
        || !(s.st r == .ramp || s.st r == .reg || s.st r == .shed) then s
    else (s.softStop r .toOff 0).logC 0x1004 r [(1, r.val), (2, s.usSince s.cj.islandAt / 1000)]
  | none => s
def execIslandTimeout (t : Nat) (s : State) := run t State.islandTimeout s

/-- MEMBER_LOST (R480): 5 µs without an MSTAT or PING of the member. -/
def State.memberLost (s : State) (c : Nat) : State :=
  let p := s.peer c
  if !s.cjUp || !s.cjIs true || !p.joined || p.lost || !s.heldFor p.seen 5000 then s else
  let s := s.putPeer c { p with lost := true, lostAt := s.now }
  let s := ((s.mark F.CJ_STATUS_PEER_LOST).mark F.CJ_STICKY_LOST_S).peerAlert
  match s.spanRail with
  | some r =>
    let s := s.discard r 4
    let s := s.logC 0x1003 0 [(1, c), (2, 0), (1, min 255 (s.nSys r))]
    s.noteRail r 1 (s.ceiling r)
  | none => s.logC 0x1003 0 [(1, c), (2, 0), (1, 0)]
def execMemberLost (t : Nat) (c : Fin 4) (s : State) := run t (fun s => s.memberLost c.val) s
/-- RING_DOWN (R480): the leader's own frames stopped returning for 1 µs. -/
def State.ringDown (s : State) : State :=
  if !s.cjUp || !s.cjIs true || !s.flag F.CJ_STATUS_RING_OK || decide (s.now < s.cj.ringAt + 1000) then s else
  ((s.mark F.CJ_STICKY_RING_DOWN_S).clear F.CJ_STATUS_RING_OK).logC 0x1007 0 [(2, s.usSince s.cj.ringAt)]
def execRingDown (t : Nat) (s : State) := run t State.ringDown s

/-! ## LINKS section (Table 16.7) -/

/-- Items with a register field. -/
def linkItems : List Item :=
  [itU 0 1 1 255 F.VSEL_STATUS_VSEL_FILT, itC 1 1 0 255, itC 2 1 0 255, itZ 3 1 2 6, itB 4 1 7 1 0 1 F.SYNC_CFG_SYNC_EN,
   itB 4 1 6 1 0 1 F.SYNC_CFG_SYNCO_EN, itB 4 1 0 3 0 7 F.SYNC_CFG_SYNCO_RAIL, itZ 4 1 3 3, itU 5 1 0 255 F.SYNC_STATUS_SYNC_RAILS,
   itB 6 3 0 20 0 0xFFFFF F.SYNC_CFG_SYNC_DLY, itZ 6 3 20 4, itB 9 3 0 24 0 0xFFFFFF F.CJ_CFG_SYSTEM_ID,
   itU 12 1 0 255 F.CJ_SPAN_SPAN_RAIL, itB 13 1 0 4 0 15 F.CJ_CFG_MEMBERS, itZ 13 1 4 4, itU 14 1 0 128 F.CJ_SPAN_N_SYS_DECL,
   itU 15 1 0 128 F.CJ_SPAN_SYS_MIN_LIVE, itU 16 1 64 128 F.CJ_ILIM_PEER_D, itU 17 1 64 128 F.CJ_DERATE_ISLAND_D,
   itU 18 1 1 255 F.CJ_SPAN_ISLAND_MAX, itZ 19 8 0 64, itZ 27 5 0 40]
/-- The ranges of MEMBERS, N_SYS_DECL and SYS_MIN_LIVE (R483). -/
def linkRules (b : List Byte) (small : Bool) : Bool :=
  let sp := rdU b 12 1
  let n := rdU b 14 1
  if sp = 0xFF then rdU b 13 1 == 0 && n == 0 && rdU b 15 1 == 0
  else sp < 8 && rdU b 13 1 % 2 == 1 && 2 ≤ n && n ≤ (if small then 64 else 128) && 1 ≤ rdU b 15 1 && rdU b 15 1 ≤ n
/-- The strap defaults of Table 16.7. -/
def linkStrap : List Byte :=
  beBytes 1 10 ++ List.replicate 11 0 ++ beBytes 1 0xFF ++ List.replicate 3 0 ++ beBytes 1 112 ++ beBytes 1 96 ++ beBytes 1 20
    ++ List.replicate 13 0
/-- Load the LINKS section with the strap fields CFG2 and CFG3 (step 11 of Table 4.8); the selector filter starts (R235). -/
def State.loadLinks (s : State) (b : List Byte) (cfg2 cfg3 : Nat) : State :=
  let s := s.loadItems linkItems 0 b
  let s := ((s.load F.CJ_CFG_CJ_EN 0 (cfg2 % 2)).load F.CJ_CFG_CTL_NUM 0 (bits cfg2 1 2)).load F.CJ_CFG_LEADER 0
    (if cfg2 % 2 = 1 && bits cfg2 1 2 = 0 then 1 else 0)
  let one := fun (s : State) (p : Fin 2) =>
    let s := s.load F.AL_CFG_PORT_EN p (b2n (p.val == 0 || cfg3.testBit 1))
    (s.load F.AL_CFG_AL_TMO p (rdU b (1 + p.val) 1)).load F.AL_CFG_ON_SILENT p (bits (rdU b 3 1) p.val 1)
  { allPorts.foldl one s with pow.vselAt := s.now }

end Sys2Proof.Machine
end

