-- ==== Sys2Proof/Machine/Image.lean ====
section
/-!
DEFINITION. The Yembeum image: header (R92, R93), sections (R94 to R97), signature block (R101), and the configuration that the
sections hold, with every content check of R102.
-/
namespace Sys2Proof.Machine

/-! ## Header -/

/-- The header fields that the Parser keeps. -/
structure Hdr where
  len : Nat
  svn : Nat
  commit : Bool
  seq : Nat
  sections : Nat
  sigOff : Nat
  deriving DecidableEq, Repr

/-- The fields of a header (Table 4.1). -/
def hdrOf (b : List Byte) : Hdr :=
  ⟨rdU b 8 4, rdU b 12 1, bit (rdU b 13 1) 0, rdU b 16 4, rdU b 20 2, rdU b 24 4⟩
/-- Every byte of a list is one value. -/
def allAre (v : Nat) (b : List Byte) : Bool := b.all (fun x => x.toNat == v)
/-- The result of a header (R93, Table 4.12): 0 accepted, 2 blank, 3, 4, 6. `part` is the part code, `rb` the rollback counter,
`limit` the largest LENGTH. -/
def hdrResult (part rb limit : Nat) (b : List Byte) : Nat :=
  let h := hdrOf b
  if allAre 0xFF (b.take 64) then 2
  else if slice b 0 4 != [0x43, 0x5A, 0x49, 0x4D] || rdU b 4 2 != 1 || rdU b 6 2 != 64 || rdU b 60 4 != crc32 (b.take 60) then 3
  else if rdU b 14 2 != part || h.sigOff + 144 != h.len || h.sigOff % 4 != 0 || h.len < 216 || limit < h.len || 64 < h.svn
      || rdU b 13 1 / 2 != 0 || rdU b 22 2 != 0 || rdU b 28 32 != 0 || h.sections < 1 || 255 < h.sections then 4
  else if h.svn < rb then 6
  else 0

/-! ## Sections -/

/-- A section read: its type, its value in clear, and the image key that decrypted it. -/
structure Tlv where
  typ : Nat
  val : List Byte
  iek : Option Nat
  deriving DecidableEq, Repr

/-- The type is one of Table 4.2. -/
def knownType (t : Nat) : Bool := 1 ≤ t && t ≤ 12
/-- How often a type may appear (Table 4.2). -/
def mostOf (t : Nat) : Nat := if t = 4 then 4 else if t = 5 then 8 else if t = 6 then 64 else 1
/-- A type whose sections name a region, a rail or a set in their first byte. -/
def namesOne (t : Nat) : Bool := t == 4 || t == 5 || t == 6

/-- The value of an encrypted section (R97, R410), `hdr` the section header: key slot, IV, ciphertext, tag. -/
def unsealValue (o : Otp) (hdr v : List Byte) : Option (List Byte) :=
  let k := rdU v 0 4
  if v.length < 32 || !o.iekUsable k then none else
  match o.iekKey k with
  | some key => gcmOpen key (slice v 4 12) hdr (slice v 16 (v.length - 32)) (v.drop (v.length - 16))
  | none => none

/-- The sections in byte order from `b` to SIG_OFFSET: result 0 with the sections, 7 for a structure error, 8 for a failed tag
(R95, R96, R102). `sum` is the VLEN total apart from FIRMWARE, `acc` the sections read, newest first. -/
def walk (o : Otp) : Nat → List Byte → Nat → List Tlv → Nat × List Tlv
  | _, [], _, acc => (0, acc.reverse)
  | 0, _ :: _, _, acc => (7, acc.reverse)
  | k + 1, x :: l, sum, acc =>
    let b := x :: l
    let t := rdU b 0 2
    let f := rdU b 2 2
    let n := rdU b 4 4
    let room := 8 + (n + 3) / 4 * 4
    let sum := if t == 12 then sum else sum + n
    let enc := bit f 0
    let v := slice b 8 n
    if b.length < 8 || f / 2 % 2 ^ 14 != 0 || b.length < room || (!knownType t && bit f 15) || (t == 12 && 262144 < n)
        || 491520 < sum || (knownType t && mostOf t ≤ (acc.filter (fun s => s.typ == t)).length) || (t == 1 && enc) then (7, acc.reverse)
    else
      let pad := allAre 0 (slice b (8 + n) (room - 8 - n))
      let step := fun (s : Tlv) =>
        if !pad || (namesOne t && acc.any (fun y => y.typ == t && rdU y.val 0 1 == rdU s.val 0 1)) then (7, acc.reverse)
        else walk o k (b.drop room) sum (s :: acc)
      if !knownType t then step ⟨t, [], none⟩
      else if enc then
        match unsealValue o (b.take 8) v with
        | some pt => step ⟨t, pt, some (rdU v 0 4)⟩
        | none => (8, acc.reverse)
      else step ⟨t, v, none⟩

/-- Every section of a copy: the count of the header and the mandatory types must be there too. -/
def sectionsOf (o : Otp) (h : Hdr) (b : List Byte) : Nat × List Tlv :=
  let x := walk o 256 (slice b 64 (h.sigOff - 64)) 0 []
  if x.1 != 0 then x
  else if x.2.length != h.sections || !x.2.any (fun s => s.typ == 1) || !x.2.any (fun s => s.typ == 7) then (7, x.2)
  else x

/-- The key slot accepts an image in this lifecycle (R409). -/
def Otp.signs (o : Otp) (k : Nat) : Bool :=
  o.usable k && (if o.life == 2 then k != 0 && ((o.slot k).typ).testBit 0 else k == 0)
/-- The signature block passes (R101). -/
def sigOk (o : Otp) (h : Hdr) (b : List Byte) : Bool :=
  let g := b.drop h.sigOff
  let key := slice g 16 64
  slice g 0 4 == [0x43, 0x5A, 0x53, 0x47] && o.signs (rdU g 4 4) && rdU g 8 4 == h.sigOff && rdU g 12 4 == 0
    && beNat (sha256 key) == (o.slot (rdU g 4 4)).hash && ecdsaOk key (sha256 (b.take h.sigOff)) (slice g 80 64)

/-! ## Configuration -/

/-- The section values of a configuration; a list for the types that repeat. -/
structure Conf where
  device : List Byte := []
  persons : List Byte := []
  phase : Option (List Byte) := none
  regions : List (List Byte) := []
  rails : List (List Byte) := []
  comps : List (List Byte) := []
  prot : List Byte := []
  thermal : List Byte := []
  pack : Option (List Byte) := none
  tense : Option (List Byte) := none
  links : List Byte := []
  fw : Option (List Byte) := none
  deriving DecidableEq, Repr

/-- The defaults of Table 14.3. -/
def personsDefault : List Byte := [0, 0, 0, 1, 30, 60, 240, 0x3F] ++ List.replicate 24 0

/-- The configuration of an image's sections; absent sections take their defaults (R399, R360, R483). -/
def confOf (l : List Tlv) : Conf :=
  let all := fun (t : Nat) => (l.filter (fun s => s.typ == t)).map Tlv.val
  let one := fun (t : Nat) => (all t).head?
  { device := (one 1).getD [], persons := (one 2).getD personsDefault, phase := one 3, regions := all 4, rails := all 5
    comps := all 6, prot := (one 7).getD [], thermal := (one 8).getD thermalDefault, pack := one 9, tense := one 10
    links := (one 11).getD linkStrap, fw := one 12 }

/-- The RAIL section of a rail. -/
def Conf.rail (c : Conf) (r : Nat) : Option (List Byte) := c.rails.find? (fun b => rdU b 0 1 == r)
/-- The phases a RAIL section assigns. -/
def railPhases (b : List Byte) : List Nat := (List.range 32).filter (fun n => bit (rdU b 4 4) n)
/-- The RAIL section that assigns a phase. -/
def Conf.owner (c : Conf) (n : Nat) : Option (List Byte) := c.rails.find? (fun b => bit (rdU b 4 4) n)
/-- The PHASE section's phase record. -/
def Conf.phRec (c : Conf) (n : Nat) : List Byte := slice (c.phase.getD []) (32 * n) 32
/-- The PHASE section's rail record. -/
def Conf.phRail (c : Conf) (r : Nat) : List Byte := slice (c.phase.getD []) (1024 + 32 * r) 32
/-- The PROTECTION section's phase record. -/
def Conf.prRec (c : Conf) (n : Nat) : List Byte := slice c.prot (16 + 4 * n) 4
/-- The PROTECTION section's rail record. -/
def Conf.prRail (c : Conf) (r : Nat) : List Byte := slice c.prot (144 + 32 * r) 32
/-- The TENSE section's rail record. -/
def Conf.tnRail (c : Conf) (r : Nat) : List Byte := slice (c.tense.getD []) (16 + 16 * r) 16
/-- RFLAGS of a RAIL section. -/
def rflag (b : List Byte) (i : Nat) : Bool := bit (rdU b 2 1) i
/-- The enabled rail of a number. -/
def Conf.enabled (c : Conf) (r : Nat) : Bool := c.rails.any (fun b => rdU b 0 1 == r && rflag b 0)
/-- No two elements of a list are equal. -/
def distinct (l : List Nat) : Bool := l.eraseDups.length == l.length

/-! ## Content checks (R102) -/

/-- What the checks take from the device: the small part, the latched profile, CFG2, CFG3, a run on the backup reference. -/
structure Env where
  small : Bool
  profile : Nat
  cfg2 : Nat
  cfg3 : Nat
  backup : Bool
  deriving DecidableEq, Repr

/-- DEVICE (Table 4.3, R71). -/
def deviceOk (e : Env) (b : List Byte) : Bool :=
  b.length == 8 && itemsOk [itC 0 1 0 1, itC 1 1 0 1, itC 2 2 100 1000, itZ 5 3 0 24] b
    && (rdU b 4 1 == 0xFF || (rdU b 4 1 ≤ 15 && rdU b 4 1 == e.profile)) && !(rdU b 1 1 == 1 && e.backup)
/-- PERSONS (Table 14.3). -/
def personsOk (b : List Byte) : Bool :=
  b.length == 32 && itemsOk [itZ 0 1 2 6, itZ 1 1 4 4, itZ 2 1 4 4, itZ 3 1 1 7, itC 4 1 1 255, itC 5 1 10 255, itC 6 1 1 255,
    itC 7 1 0 0x3F, itZ 8 24 0 192] b
/-- RAIL, bytes 0 to 15 (Table 4.4). -/
def railHeadItems : List Item :=
  [itC 0 1 0 7, itC 1 1 0 3, itZ 2 1 4 4, itC 3 1 0 7, itZ 8 2 12 4, itC 12 2 0x1000 0xFFFF, itZ 14 2 0 16]
/-- One RAIL section by itself. -/
def railOk (e : Env) (b : List Byte) : Bool :=
  b.length == 104 && itemsOk railHeadItems b && itemsOk railEngineItems b && railEngineRules b && itemsOk railSpItems b
    && railSpRules b (rdU b 8 2) e.cfg3
    && (rflag b 3 || rdU b 12 2 == 0x1000) && (!e.small || (rdU b 0 1 < 4 && rdU b 4 4 < 2 ^ 16))
    && (!rflag b 0 || rdU b 4 4 != 0)
/-- The RAIL sections together: no phase on two rails, START_ORDER distinct among enabled rails. -/
def railsOk (e : Env) (c : Conf) : Bool :=
  c.rails.all (railOk e)
    && (List.range 32).all (fun n => (c.rails.filter (fun b => bit (rdU b 4 4) n)).length ≤ 1)
    && distinct ((c.rails.filter (fun b => rflag b 0)).map (fun b => rdU b 3 1))

/-- The pairing of one phase (R175, R203). -/
def pairOk (c : Conf) (own : List Nat) (n : Nat) : Bool :=
  let b := c.phRec n
  let m := rdU b 0 1
  m == 255 || (m != n && own.contains m && rdU (c.phRec m) 0 1 == n && bit (rdU (c.phRec m) 25 1) 1 == bit (rdU b 25 1) 1)
/-- The PHASE settings of one rail (R123, R161, R172, R178, R223). -/
def railPhaseOk (c : Conf) (b : List Byte) : Bool :=
  let own := railPhases b
  let recs := own.map c.phRec
  let wide := fun (x : List Byte) => (rdU x 16 3, slice x 26 5)
  recs.all phaseRecOk && own.all (pairOk c own) && distinct (recs.map (fun x => rdU x 1 1))
    && (recs.map wide).all (fun w => (recs.map wide).head? == some w)
    && recs.all (fun x => 2048 * 2 ^ rdU b 16 1 ≤ rdU x 16 3)
    && phaseRailOk (c.phRail (rdU b 0 1)) own.length ((recs.map (fun x => rdU x 2 2)).foldl min 960)
/-- PHASE (R192). -/
def phaseOk (c : Conf) : Bool :=
  match c.phase with
  | none => c.rails.all (fun b => rdU b 4 4 == 0)
  | some p => p.length == 1280
      && (List.range 32).all (fun n => (c.owner n).isSome || allAre 0 (c.phRec n))
      && (List.range 8).all (fun r => itemsOk [itZ 9 1 7 1, itZ 24 8 0 64] (c.phRail r))
      && c.rails.all (fun b => rdU b 4 4 == 0 || railPhaseOk c b)

/-- REGION (R188). -/
def regionOk (c : Conf) (b : List Byte) : Bool :=
  let l := (regionPrio b).filter (fun r => r != 0xFF)
  b.length == 16 && itemsOk regionItems b
    && (!bit (rdU b 1 1) 0 || (distinct l
      && l.all (fun r => c.rails.any (fun x => rdU x 0 1 == r && rdU x 1 1 == rdU b 0 1))
      && c.rails.all (fun x => !(rflag x 0 && rdU x 1 1 == rdU b 0 1) || l.contains (rdU x 0 1))))

/-- The PROTECTION record of a phase. -/
def protPhaseOk (c : Conf) (n : Nat) : Bool :=
  match c.owner n with
  | none => allAre 0 (c.prRec n)
  | some _ => itemsOk protPhaseItems (c.prRec n) && protPhaseRules (c.prRec n) (rdU (c.phRec n) 2 2) (rdU (c.phRec n) 4 2)
/-- The PROTECTION record of a rail. -/
def protRailOk (c : Conf) (r : Nat) : Bool :=
  match c.rail r with
  | some b =>
    if rflag b 0 then
      itemsOk protRailItems (c.prRail r) && protRailRules (c.prRail r) (rdU b 82 2) ((railPhases b).map (fun n => rdU (c.phRec n) 2 2))
    else allAre 0 (c.prRail r)
  | none => allAre 0 (c.prRail r)
/-- PROTECTION (R323). -/
def protOk (c : Conf) : Bool :=
  c.prot.length == 400 && itemsOk protItems c.prot && (List.range 32).all (protPhaseOk c) && (List.range 8).all (protRailOk c)

/-- TENSE (R285). On a CZ1604 the records of RAIL4 to RAIL7 are all zero; every other record keeps its ranges. -/
def tenseOk (e : Env) (c : Conf) : Bool :=
  match c.tense with
  | none => true
  | some b => b.length == 144 && itemsOk tenseItems b
      && (List.range 8).all (fun r =>
        let x := c.tnRail r
        if e.small && 4 ≤ r then allAre 0 x else itemsOk tenseRailItems x && tenseRailRules x (c.enabled r))

/-- FIRMWARE (Table 1.8). -/
def fwOk (b : List Byte) : Bool :=
  slice b 0 4 == [0x43, 0x5A, 0x46, 0x57] && rdU b 6 2 == 0 && rdU b 8 4 % 2 == 0 && rdU b 8 4 < rdU b 12 4
    && 4 ≤ rdU b 12 4 && rdU b 12 4 ≤ 262120 && rdU b 12 4 % 4 == 0 && 100 ≤ rdU b 16 4 && rdU b 16 4 ≤ 100000
    && rdU b 20 4 == 0 && b.length == 24 + rdU b 12 4

/-- The rails of SYNC_RAILS share one PERIOD (R221). -/
def syncOk (c : Conf) : Bool :=
  let l := (c.rails.filter (fun b => bit (rdU c.links 5 1) (rdU b 0 1))).flatMap (fun b =>
    (railPhases b).map (fun n => rdU (c.phRec n) 16 3))
  l.all (fun p => l.head? == some p)
/-- The rules of a rail that spans controllers (R473). -/
def spanOk (e : Env) (c : Conf) (b : List Byte) : Bool :=
  let r := rdU b 0 1
  let l := c.links
  let ctl := bits e.cfg2 1 2
  bits (rdU b 18 2) 0 12 == 0 && !bit (rdU (c.phRail r) 18 1) 7 && bit e.cfg2 0
    && rdU l 12 1 == r && bit (rdU l 13 1) ctl && (railPhases b).length ≤ rdU l 14 1
    && (if ctl == 0 then bit (rdU l 4 1) 6 && bits (rdU l 4 1) 0 3 == r
        else allAre 0 (c.tnRail r) && rdU b 96 1 == 0 && bit (rdU l 4 1) 7 && bit (rdU l 5 1) r)
/-- LINKS (R473, R483). -/
def linksOk (e : Env) (c : Conf) : Bool :=
  let l := c.links
  let sp := c.rails.filter (fun b => rflag b 2)
  l.length == 32 && itemsOk linkItems l && linkRules l e.small && syncOk c && sp.length ≤ 1 && sp.all (spanOk e c)
    && (!sp.isEmpty || rdU l 12 1 == 0xFF || !bit (rdU l 13 1) (bits e.cfg2 1 2))

/-- Every content check of R102. -/
def confOk (e : Env) (c : Conf) : Bool :=
  deviceOk e c.device && personsOk c.persons && railsOk e c && phaseOk c && c.regions.all (regionOk c) && c.comps.all compOk
    && protOk c && thermalOk c.thermal c.pack.isSome
    && (match c.pack with
        | none => true
        | some b => packOk b (rdU c.prot 0 2))
    && tenseOk e c && linksOk e c
    && (match c.fw with
        | none => true
        | some b => fwOk b)

/-- What the checks take from the state. -/
def State.env (s : State) : Env :=
  ⟨s.cz1604, s.get F.STRAP_STATUS_PROFILE, s.get F.STRAP_STATUS_CFG2_CODE, s.get F.STRAP_STATUS_CFG3_CODE,
    s.flag F.CLK_STATUS_BACKUP_ACTIVE⟩

/-- The result of a copy read whole (R102, R408): the sections in byte order, the signature, the contents. -/
def State.copyResult (s : State) (b : List Byte) : Nat :=
  let h := hdrOf b
  let x := sectionsOf s.otp h b
  if !s.otp.pufOk then 5
  else if x.1 != 0 then x.1
  else if !sigOk s.otp h b then 5
  else if !confOk s.env (confOf x.2) then 9
  else 0

end Sys2Proof.Machine
end

