-- ==== Sys2Proof/Machine/Profiles.lean ====
section
/-!
DEFINITION. The strap profiles (R115 to R117): the sections that a profile's settings amount to, from Tables 4.9 and 4.10 and the
strap defaults of R133, R193, R224, R261 and R324.
-/
namespace Sys2Proof.Machine

/-- The rails of a profile: phases and boot set-point code (Table 4.10, 0.625 mV per code). -/
def profileRails : Nat → List (Nat × Nat)
  | 1 => [(4, 1200)]
  | 2 => [(8, 1200)]
  | 3 => [(8, 1280), (2, 1760)]
  | 4 => [(12, 1200), (2, 1760), (1, 2880)]
  | 5 => [(10, 1280), (3, 1200), (2, 1760), (1, 2880)]
  | 6 => [(6, 1360), (6, 1360), (2, 1760), (2, 1920)]
  | 7 => [(16, 1200)]
  | 8 => [(24, 1200), (4, 1280), (2, 1760), (2, 2880)]
  | 9 => [(32, 1200)]
  | 10 => [(12, 1200), (12, 1200), (2, 1280), (2, 1280), (2, 1760), (2, 1760)]
  | 11 => [(16, 1280), (8, 1200), (2, 1440), (2, 1760), (2, 1920), (1, 2880), (1, 960)]
  | 12 => [(20, 1200), (4, 1360), (2, 1440), (2, 1760), (1, 1920), (1, 2880), (1, 1040), (1, 1120)]
  | 13 => [(28, 1120), (2, 1760), (2, 2880)]
  | 14 => [(16, 1360), (16, 1360)]
  | 15 => [(8, 1440), (8, 1440), (8, 1280), (8, 1280)]
  | _ => []

/-- The profile in effect (R117). -/
def profileUsed (small : Bool) (p : Nat) : Nat := if small && 8 ≤ p then 0 else p

/-- Zeros. -/
def zs (n : Nat) : List Byte := List.replicate n 0
/-- Consecutive 2-byte numbers. -/
def le16 (l : List Nat) : List Byte := l.flatMap (leBytes 2)
/-- Consecutive bytes. -/
def le8 (l : List Nat) : List Byte := l.flatMap (leBytes 1)

/-- The RAIL section of a strap rail: number, first phase, phases, boot code (Table 4.9, R133, R261). -/
def strapRail (cfg3 r first n boot : Nat) : List Byte :=
  let lo := boot - 160
  let hi := min 4095 (boot + 160)
  let al1 := cfg3.testBit 1
  le8 [r, 0, 1, r] ++ leBytes 4 ((2 ^ n - 1) * 2 ^ first) ++ le16 [boot, 50, 0x1000, 0]
    ++ le8 [0, 10] ++ le16 [0] ++ le8 [0, 8] ++ le16 [0xE666, 0, 0x0140] ++ le8 [8, 20, 20, 10, 0, 1, 1, 1] ++ zs 12
    ++ le16 ((List.range 16).map (fun i => 0x8000 + (boot + 8 * i - 64)))
    ++ le16 [lo, hi, lo, hi, lo, hi, 0] ++ le8 [41, 41]
    ++ le8 [10 + b2n (cfg3.testBit 2) + 4 * b2n al1, 1 + 2 * b2n al1] ++ zs 6
/-- The PHASE record of a strap phase (R193, R224). -/
def strapPhase (rank : Nat) : List Byte :=
  le8 [255, rank] ++ le16 [320, 5000, 150] ++ le8 [8, 8, 0, 0] ++ zs 4
    ++ leBytes 3 21333 ++ le8 [16, 16, 40, 8, 40, 32, 0] ++ le16 [20] ++ le8 [3, 20, 10, 0]
/-- The PHASE rail record of a strap rail (R193). -/
def strapPhRail (n : Nat) : List Byte :=
  le16 [320, 0] ++ le8 [n, n, 120, 0, 64, 3 + 4 * 16, 16, 32] ++ le16 [1024] ++ le8 [8, 10] ++ le16 [4] ++ le8 [0, 1] ++ zs 12
/-- The PROTECTION rail record of a strap rail (Table 10.13). -/
def strapPrRail (boot : Nat) : List Byte :=
  le8 [40, 40, 3, 10, 20, 20] ++ le16 [boot + 320] ++ le8 [10, 20, 10, 50, 8, 96] ++ le16 [64, 400, 400]
    ++ le8 [16, 8, 100, 1, 32, 20] ++ zs 6

/-- Each rail of a profile with its number and first phase. -/
def profilePlan (p : Nat) : List (Nat × Nat × Nat × Nat) :=
  let l := profileRails p
  (List.range l.length).map (fun i =>
    let x := l.getD i (0, 0)
    (i, ((l.take i).map Prod.fst).sum, x.1, x.2))
/-- The records of a rail's phases, in order. -/
def planPhases (p : Nat) (f : Nat → List Byte) (k : Nat) : List Byte :=
  let l := (profilePlan p).flatMap (fun x => (List.range x.2.2.1).flatMap f)
  l ++ zs (k - l.length)

/-- The configuration of a strap profile (R116). -/
def profileConf (small : Bool) (profile cfg3 : Nat) : Conf :=
  let p := profileUsed small profile
  let plan := profilePlan p
  let tail := fun (f : Nat × Nat × Nat × Nat → List Byte) => (plan.flatMap f) ++ zs (256 - 32 * plan.length)
  { device := le8 [0, 0] ++ le16 [100] ++ le8 [0xFF] ++ zs 3
    persons := personsDefault
    phase := some (planPhases p strapPhase 1024 ++ tail (fun x => strapPhRail x.2.2.1))
    rails := plan.map (fun x => strapRail cfg3 x.1 x.2.1 x.2.2.1 x.2.2.2)
    prot := le16 [3400] ++ le8 [96, 20, 1] ++ zs 11 ++ planPhases p (fun _ => le16 [480, 240]) 128
      ++ tail (fun x => strapPrRail x.2.2.2)
    thermal := thermalDefault
    links := linkStrap }

end Sys2Proof.Machine
end

