-- ==== Sys2Proof/Machine/Parser.lean ====
section
/-!
DEFINITION. The Parser (R103 to R110, R115, R117): discovery of the NOR, the choice of a copy, failed reads.
-/
namespace Sys2Proof.Machine

/-- The Parser reads the NOR: PARSE, a NOR mode other than 11, nothing chosen yet. -/
def State.parsing (s : State) : Bool := s.mode == .parse && s.pow.cdUp && s.par.source == 0 && !s.par.stopped && s.norMode != 3
/-- The largest LENGTH of the read in use (Table 4.5). -/
def State.lenLimit (s : State) : Nat := if s.par.quad then (if s.norMode = 0 then 1048576 else 524288) else 131072
/-- The result field of a copy: 1 A, 2 B (the SOURCE codes). -/
def resField (c : Nat) : Fld := if c = 1 then F.PARSE_STATUS_A_RESULT else F.PARSE_STATUS_B_RESULT
/-- The header read of a copy. -/
def State.hdr (s : State) (c : Nat) : List Byte := if c = 1 then s.par.hdrA else s.par.hdrB
/-- The other copy. -/
def otherCopy (c : Nat) : Nat := 3 - c
/-- A copy is rejected: its result, record 0x0401. -/
def State.rejectCopy (s : State) (c res : Nat) : State := (s.set (resField c) 0 res).logC 0x0401 0 [(1, c), (1, res)]
/-- No configuration can be applied: record 0x0404, T6. -/
def State.noConfig (s : State) : State :=
  let s := s.logC 0x0404 0 [(1, s.get F.PARSE_STATUS_A_RESULT), (1, s.get F.PARSE_STATUS_B_RESULT)]
  State.enterSafestop { s with par := { s.par with stopped := true, waiting := false } } 6
/-- A strap profile is chosen (R115, R117), `why` 0 blank, 1 no NOR, 2 mode 11. -/
def State.takeProfile (s : State) (why : Nat) : State :=
  let p := s.get F.STRAP_STATUS_PROFILE
  let u := profileUsed s.cz1604 p
  let s := s.when (u != p) (fun s => s.logC 0x0408 0 [(1, p)])
  State.logC { s with par := { s.par with source := 3, noNor := why == 1 } } 0x0403 0 [(1, u), (2, why)]

/-- The wake and reset of the NOR, then the SFDP header and table (R103). -/
def norOpening : List NorCmd := [⟨0xAB, none, 0, 1, 12500⟩, ⟨0x66, none, 0, 1, 12500⟩, ⟨0x99, none, 0, 1, 12500⟩, ⟨0x5A, some 0, 8, 1, 12500⟩]
/-- A quad read is available (R104): the table gives one, and asks for no quad-enable bit, or the bit reads 1, or a volatile write
may set it. -/
def quadOk (x : Sfdp) (qe : Bool) : Bool := (x.op114 != 0 || x.op144 != 0) && (!x.qeBit || qe || x.qeVolatile)
/-- The volatile quad-enable write, where the bit that the table asks for reads 0 (R104, Table 4.6). -/
def quadEnable (x : Sfdp) (qe : Bool) : List NorCmd :=
  if x.qeBit then [⟨0x05, none, 0, 1, 12500⟩, ⟨0x35, none, 0, 1, 12500⟩]
    ++ (if !qe && x.qeVolatile then [⟨0x50, none, 0, 1, 12500⟩, ⟨if x.qe31 then 0x31 else 0x01, none, 0, 1, 12500⟩] else []) else []
/-- The data read of Table 4.5: quad by the table, 1-4-4 where it gives both (DESIGN CHOICE, log 164); 0x0B with its 8 dummy clocks
(PRESUMED, log 164); 0x03 without SFDP. -/
def State.norRead (s : State) (o : Option Sfdp) (qe : Bool) : NorCmd :=
  match o with
  | none => ⟨0x03, none, 0, 1, 25000⟩
  | some x =>
    if s.norMode < 2 && quadOk x qe then
      let khz := if s.norMode = 0 then 50000 else 25000
      if x.op144 != 0 then ⟨x.op144.toNat, none, x.dummy144.toNat, 4, khz⟩ else ⟨x.op114.toNat, none, x.dummy114.toNat, 4, khz⟩
    else ⟨0x0B, none, 8, 1, 25000⟩
/-- The NOR address of a copy (R90). -/
def copyBase (c : Nat) : Nat := if c = 1 then 0x000000 else 0x100000
/-- The data read of a copy from its base. -/
def State.readAt (s : State) (c : Nat) : NorCmd := { s.par.read with addr := some (copyBase c) }

/-- NOR_DISCOVERY (R103, R104): the table of the NOR, `none` without an SFDP signature, the log2 `density` in MiB that it gives, and its
quad-enable bit as it reads. -/
def State.norDiscovery (s : State) (o : Option Sfdp) (density : Nat) (qe : Bool) : State :=
  if !s.parsing || s.par.discovered || !s.flag F.SUPPLY_STATUS_VDDIO_GOOD then s
  else
    let wide := s.norMode < 2
    let quad := o.any (fun x => quadOk x qe)
    let s : State := { s with par := { s.par with
      issued := norOpening ++ (if wide then (o.map (fun x => quadEnable x qe)).getD [] else []) } }
    if o.isSome && (density < 2 || 6 < density) then s.noConfig else
    let s : State := { s with par := { s.par with
      discovered := true, waiting := false, table := o, read := s.norRead o qe, sfdp := o.isSome, quad := quad && wide, density := density } }
    let s := s.set F.IMAGE_INFO_NOR_DENSITY 0 density
    s.when (o.isSome && !quad && wide) (fun s =>
      (s.mark F.PARSE_STATUS_QE_FALLBACK).logC 0x0406 0 [(2, (o.map (fun x => x.method.toNat)).getD 0)])
def execNorDiscovery (t : Nat) (sfdp : Bool) (density : BitVec 5) (table : Sfdp) (qe : Bool) (s : State) :=
  run t (fun s => if sfdp then s.norDiscovery (some table) density.toNat qe else s.norDiscovery none 0 qe) s

/-- The Parser goes on to read a copy whole, from its base (R90). -/
def State.readCopy (s : State) (c : Nat) : State := { s with par := { s.par with reading := c, issued := [s.readAt c] } }
/-- A header is checked: its result, and a record unless it is accepted or blank. -/
def State.checkHdr (s : State) (c : Nat) : State :=
  let r := hdrResult s.part s.otp.rollback s.lenLimit (s.hdr c)
  if r = 0 then s else if r = 2 then s.set (resField c) 0 2 else s.rejectCopy c r
/-- A copy stands as a candidate: its header was accepted and it has not failed. -/
def State.cand (s : State) (c : Nat) : Bool := s.get (resField c) == 0
/-- The NOR is being read: discovered, its supply good, no wait for a restart. -/
def State.norReads (s : State) : Bool :=
  s.parsing && s.par.discovered && !s.par.waiting && s.flag F.SUPPLY_STATUS_VDDIO_GOOD
/-- IMAGE_HEADERS_READ (R90, R93, R105, R106): the 64 bytes of headers A and B. Without a NOR both copies are blank. -/
def State.headersRead (s : State) (a b : List Byte) : State :=
  if !s.norReads || s.par.first != 0 then s else
  let s : State := { s with par := { s.par with hdrA := a, hdrB := b, issued := [s.readAt 1, s.readAt 2] } }
  let flat := fun (x : List Byte) => allAre 0 x || allAre 0xFF x
  if !s.par.sfdp && flat a && flat b then ((s.set F.PARSE_STATUS_A_RESULT 0 2).set F.PARSE_STATUS_B_RESULT 0 2).takeProfile 1
  else
    let s := (s.checkHdr 1).checkHdr 2
    if s.get F.PARSE_STATUS_A_RESULT = 2 && s.get F.PARSE_STATUS_B_RESULT = 2 then s.takeProfile 0
    else if !s.cand 1 && !s.cand 2 then s.noConfig
    else
      let both := s.cand 1 && s.cand 2
      let c := if both then (if (hdrOf a).seq < (hdrOf b).seq then 2 else 1) else if s.cand 1 then 1 else 2
      State.readCopy { s with par := { s.par with first := c, both := both } } c
def execImageHeadersRead (t : Nat) (a b : List Byte) (s : State) := run t (fun s => s.headersRead a b) s

/-- The copy being read takes result 0xA, both copies where none is, and no configuration can be applied (R108). -/
def State.unread (s : State) : State :=
  let l := if s.par.reading = 0 then [1, 2] else [s.par.reading]
  (l.foldl (fun (s : State) (c : Nat) => s.rejectCopy c 0xA) s).noConfig
/-- A data read fails (R108): a restart from the SFDP read, twice in one PARSE; the third failure ends in T6. -/
def State.readFail (s : State) : State :=
  if s.get F.PARSE_STATUS_READ_RETRY = 2 then s.unread
  else
    let s := s.inc F.PARSE_STATUS_READ_RETRY
    let ok := s.flag F.SUPPLY_STATUS_VDDIO_GOOD
    let s := ((s.set F.PARSE_STATUS_A_RESULT 0 0).set F.PARSE_STATUS_B_RESULT 0 0).logC 0x0405 0
      [(1, s.get F.PARSE_STATUS_READ_RETRY), (1, b2n ok)]
    { s with par := { waiting := !ok, waitAt := s.now } }
/-- NOR_READ_FAIL (R108). -/
def State.norFail (s : State) : State := if !s.parsing || s.par.waiting then s else s.readFail
def execNorReadFail (t : Nat) (s : State) := run t State.norFail s
/-- NOR_VDDIO_WAIT_TIMEOUT (R108): VDDIO not good 50 ms into the wait. -/
def State.vddioWait (s : State) : State :=
  if !s.parsing || !s.par.waiting || s.flag F.SUPPLY_STATUS_VDDIO_GOOD || s.now < s.par.waitAt + 50000000 then s else s.unread
def execNorVddioWaitTimeout (t : Nat) (s : State) := run t State.vddioWait s

/-- VDDIO_LOSS (R49, R108): host SPI, NOR and test port stop, and an image read in progress fails; rails keep running. -/
def State.vddioLoss (s : State) : State :=
  if !s.flag F.SUPPLY_STATUS_VDDIO_GOOD then s else
  let s : State := { (s.clear F.SUPPLY_STATUS_VDDIO_GOOD) with pow.vddioSel := false }
  let s := s.when s.awake (fun s => s.mark F.SUPPLY_STATUS_VDDIO_LOSS)
  let s := s.dropTap
  (s.when (s.mode != .dormant) (fun s => s.logF 0x0202 0 [(1, s.mode.code)])).norFail

def execVddioLoss (t : Nat) (s : State) := run t State.vddioLoss s

/-- Section content waits in the ring SRAM and firmware in code RAM until the signature verifies (R107): the values in clear, one
after the other from word 0 (DESIGN CHOICE, log 165). -/
def State.holdContent (s : State) (b : List Byte) : State :=
  let l := (sectionsOf s.otp (hdrOf b) b).2
  let v := (l.filter (fun x => x.typ != 12)).flatMap Tlv.val
  { s with
    rings := Store.ofWords ((List.range ((v.length + 3) / 4)).map (fun i => leNat (slice v (4 * i) 4)))
    code := (l.filter (fun x => x.typ == 12)).flatMap Tlv.val }

/-- A copy passes every check and is to be applied (R106). -/
def State.copyChosen (s : State) (c : Nat) (b : List Byte) : State :=
  let o := otherCopy c
  let s := s.when (s.par.both && !s.par.fallback) (fun s => s.set (resField o) 0 1)
  let s := s.when s.par.fallback (fun s => s.logC 0x0402 0 [(1, c), (4, (hdrOf b).seq)])
  { s with par := { s.par with source := c, verified := b } }
/-- IMAGE_COPY_VERIFIED (R102, R106, R107): `copy` the LENGTH bytes of the copy being read. A copy that reads only 0xFF past its header
is a failed read (R108). -/
def State.copyRead (s : State) (b : List Byte) : State :=
  let c := s.par.reading
  if !s.norReads || c == 0 || b.take 64 != s.hdr c || b.length != (hdrOf b).len then s
  else if s.par.sfdp && allAre 0xFF (b.drop 64) then s.readFail
  else
    let s := s.holdContent b
    match s.copyResult b with
    | 0 => s.copyChosen c b
    | r =>
      let s := s.rejectCopy c r
      if s.par.both && !s.par.fallback then
        State.readCopy { s with par := { s.par with fallback := true } } (otherCopy c)
      else s.noConfig
def execImageCopyVerified (t : Nat) (copy : List Byte) (s : State) := run t (fun s => s.copyRead copy) s

end Sys2Proof.Machine
end

