-- ==== Sys2Proof/Machine/Apply.lean ====
section
/-!
DEFINITION. Applying a configuration (R109 to R114, Table 4.8): CONFIG_APPLY.
-/
namespace Sys2Proof.Machine

/-- Step 1: DEVICE. -/
def State.applyDevice (s : State) (b : List Byte) : State :=
  let s := s.set F.CLK_STATUS_REF_EXT 0 (rdU b 0 1)
  { s with par := { s.par with xtalReq := rdU b 1 1 == 1, vaonCap := rdU b 2 2 } }

/-- Step 2: PERSONS. -/
def State.applyPersons (s : State) (b : List Byte) : State :=
  let s := (s.load F.TLM_SHAPE_P1_DENY 0 (rdU b 0 1)).load F.TLM_SHAPE_W_ADD 0 (rdU b 1 1)
  let s := (s.load F.TLM_SHAPE_Q_ADD 0 (rdU b 2 1)).load F.TLM_SHAPE_CONS_ALLOW 0 (rdU b 3 1)
  { s with sec := { s.sec with consMax := rdU b 4 1, idleS := rdU b 5 1, sessMax := rdU b 6 1, rightsMask := rdU b 7 1 } }

/-- Step 3: the hardware safety limits of PROTECTION. -/
def State.applyLimits (s : State) (c : Conf) : State :=
  let s := s.loadItems protItems 0 c.prot
  let s := (List.range 32).foldl (fun (s : State) (n : Nat) => s.loadItems protPhaseItems n (c.prRec n)) s
  s.onRails (fun s r =>
    let b := c.prRail r
    let s := s.loadItems protRailItems r b
    s.modRail r (fun x => { x with cfg := { x.cfg with hsI := rdU b 24 1, hsDv := rdU b 25 1 } }))

/-- Step 4, one phase: assignment, pairing, observer gain, limits (R161, R168, Tables 6.5 and 7.3). -/
def State.applyPhase (s : State) (c : Conf) (n : Fin 32) : State :=
  let b := c.phRec n
  let own := c.owner n
  let r := (own.map (fun x => rdU x 0 1)).getD 0
  let pair := rdU b 0 1
  let paired := own.isSome && pair != 255
  let s := ((s.setB F.PH_STATE_ASSIGNED n own.isSome).set F.PH_STATE_RAIL n r).setB F.PH_STATE_PAIRED n paired
  let s := (s.set F.PH_STATE_PAIR_ID n (if paired then pair else 0)).loadItems phaseItems n b
  let s := s.load F.PH_MODEL_G_OBS n (if own.isSome then gObs (bits (rdU b 16 3) 0 20) (rdU b 6 2) else 0)
  s.modPh n (fun p => { p with gm := rdU b 4 2, lnh := rdU b 6 2, rank := rdU b 1 1, pairFailBoth := bit (rdU b 11 1) 0 })
/-- Step 4, one rail. -/
def State.applyPhRail (s : State) (c : Conf) (r : Fin 8) : State :=
  let b := c.phRail r
  let first := ((c.rail r).map railPhases).getD []
  let s := s.loadItems phaseRailItems r ((first.head?.map c.phRec).getD [])
  let s := s.loadItems phaseRecRailItems r b
  s.modRail r (fun x => { x with cfg := { x.cfg with
    retireN := rdU b 7 1, balLim := rdU b 12 2, phInCost := rdU b 16 2, deEnter := rdU b 20 2, deExit := rdU b 22 2 } })
/-- Step 4: PHASE; the journal comes before the values that use it (R440). -/
def State.applyPhases (s : State) (c : Conf) : State :=
  let s := s.loadJournal
  (s.onPhases (fun s n => s.applyPhase c n)).onRails (fun s r => s.applyPhRail c r)

/-- Step 5: REGION, with the hardware maximum for a region without a section (R188). -/
def State.applyRegion (s : State) (c : Conf) (m : Fin 4) : State :=
  match c.regions.find? (fun b => rdU b 0 1 == m.val) with
  | some b => (s.loadItems regionItems m b).load F.RGN_PRIO_PRIO m (prioWord (bit (rdU b 1 1) 0) (regionPrio b))
  | none => (((s.load F.RGN_BUDGET_IN_BUDGET m 0x7FFF).load F.RGN_CFG_IN_OFS m 0).load F.RGN_CFG_IN_GAIN m 0x4000).load
      F.RGN_PRIO_PRIO m 0

/-- Step 6: one RAIL section; a rail without one is left unused. -/
def State.applyRail (s : State) (c : Conf) (r : Fin 8) : State :=
  let o := c.rail r
  let b := o.getD []
  let s := s.modRail r (fun x => { x with cfg := { x.cfg with
    present := o.isSome, region := rdU b 1 1, enabled := rflag b 0, critical := rflag b 1, spans := rflag b 2
    order := rdU b 3 1, mask := rdU b 4 4, boot := rdU b 8 2, delay := rdU b 10 2, divider := rdU b 12 2 } })
  (s.loadItems railEngineItems r b).loadSp r b (rdU b 8 2)

/-- Step 7: the compensator sets; ROM set 0 fills the rest (R133). -/
def State.applySets (s : State) (c : Conf) : State :=
  (List.range 64).foldl (fun (s : State) (id : Nat) => s.putSet id
    (match c.comps.find? (fun b => rdU b 0 1 == id) with
      | some b => compSet b
      | none => romSet0)) s

/-- Step 10: TENSE; absent it disables hints (Table 4.2). Context words and rings start over (R263). -/
def State.applyTense (s : State) (c : Conf) : State :=
  let b := c.tense.getD []
  let s := s.loadItems tenseItems 0 b
  let s := s.onRails (fun s r => s.loadItems tenseRailItems r (c.tnRail r))
  let allow := maskOf (fun r => bit (rdU (c.tnRail r) 0 1) 0)
  let s := (s.load F.TN_CTRL_TN_ALLOW 0 allow).load F.TN_CTRL_TN_EN 0 allow
  (s.onRails (fun s r => (s.putHints r []).putF r)).initCtxs

/-- Words of a digest into eight registers, the most significant byte first. -/
def State.putDigest (s : State) (f : Fld) (w : Nat → Nat) : State :=
  (List.range 8).foldl (fun (s : State) (i : Nat) => s.set f i (w i)) s
/-- Step 12: FIRMWARE or the ROM policy (R24), the digests and the copies of them that the Front die keeps (R114, R333). -/
def State.applyFirmware (s : State) (c : Conf) : State :=
  let b := c.fw.getD []
  let rom := c.fw.isNone
  let img := s.par.verified
  let p := profileUsed s.cz1604 (s.get F.STRAP_STATUS_PROFILE)
  let h := sha256 (img.take (hdrOf img).sigOff)
  let s := s.putDigest F.CONFIG_HASH_HASH (fun i =>
    if s.par.source = 3 then (Config.profileHash s.cz1604 p i).toNat else beNat (slice h (4 * i) 4))
  let s := s.putDigest F.RETAIN_DIGEST_DIGEST (fun i => (Config.retainDigest img p i).toNat)
  let s : State := { s with pow := { s.pow with fdHash := s.words8 F.CONFIG_HASH_HASH, fdDigest := s.words8 F.RETAIN_DIGEST_DIGEST } }
  { s with
    code := b.drop 24, entry := rdU b 8 4
    pow := { s.pow with romPolicy := rom, released := true, wdogUs := if rom then 10000 else rdU b 16 4, wdogAt := s.now, retEmpty := false } }
/-- The rollback counter advances after the apply (R109). -/
def State.advanceSvn (s : State) : State :=
  let c := s.par.source
  let h := hdrOf s.par.verified
  let o := hdrOf (s.hdr (otherCopy c))
  let old := s.otp.rollback
  if c != 3 && h.commit && old < h.svn && s.par.both && h.svn ≤ o.svn then
    let s : State := { s with otp.rbBits := s.otp.rbBits ||| (2 ^ h.svn - 1) }
    (s.mark F.PARSE_STATUS_SVN_ADVANCED).logC 0x0407 0 [(1, old), (1, h.svn)]
  else s

/-- The sections that the chosen source applies. -/
def State.chosen (s : State) : List Tlv :=
  if s.par.source = 3 then [] else (sectionsOf s.otp (hdrOf s.par.verified) s.par.verified).2
/-- The configuration that the chosen source applies. -/
def State.conf (s : State) : Conf :=
  if s.par.source = 3 then profileConf s.cz1604 (s.get F.STRAP_STATUS_PROFILE) (s.get F.STRAP_STATUS_CFG3_CODE) else confOf s.chosen

/-- The values that the section items of steps 2 to 11 load, step by step. -/
def State.applySteps (s : State) (c : Conf) : State :=
  let s := (s.applyPersons c.persons).applyLimits c
  let s := s.applyPhases c
  let s := allRegions.foldl (fun (s : State) (m : Fin 4) => s.applyRegion c m) s
  let s := (s.onRails (fun s r => s.applyRail c r)).applySets c
  let s := (s.loadThermal c.thermal).loadPack c.pack
  (s.applyTense c).loadLinks c.links (s.get F.STRAP_STATUS_CFG2_CODE) (s.get F.STRAP_STATUS_CFG3_CODE)

/-! ## The end of PARSE -/

/-- A phase at the entry to PRECHECK: health OK or RETIRED (R168), the holds of R217, R295 and R339 ended. -/
def State.phaseReady (s : State) (n : Fin 32) : State :=
  let asg := s.flag F.PH_STATE_ASSIGNED n
  let rn := (s.cfg (s.railOf n)).retireN
  let gone := asg && rn != 0 && decide (rn ≤ s.get F.PH_STATE_FAIL_CNT n)
  let held := (s.ph n).tfltHeld
  let s := (s.clear F.PH_PROT_PHW_STOP n).when held (fun s => s.clear F.PWM_STATUS_TFLT_LATCH n)
  let stay := gone || (asg && s.flag F.PWM_STATUS_TFLT_LATCH n)
  let s := s.modPh n (fun p => { p with
    health := if gone then .retired else .ok, sw := if stay then .stopped else .unused, obsCnt := 0, failCause := 0
    tfltHeld := false, cohStuck := false, triPend := false, rsv := 0 })
  let s := s.setLevel n .tri
  s.when gone (fun s => s.logC 0x0605 n [(1, n.val), (1, s.get F.PH_STATE_FAIL_CNT n)])
/-- R166 for the retired phases of a rail (R168). -/
def State.railReady (s : State) (r : Fin 8) : State :=
  let s := s.clear F.RP_STATUS_PRE_HOLD r
  let gone := s.anyFailed r
  let s := s.modEng r (fun g => { g with failD := gone })
  s.when gone (fun s =>
    (s.logC 0x0603 r [(1, r.val), (1, (s.liveOf r).length), (2, s.ilimRail r)]).failAlert r)

/-- What PARSE shows of the copy applied. -/
def State.showImage (s : State) : State :=
  let h := hdrOf s.par.verified
  let s := (s.set F.PARSE_STATUS_SOURCE 0 s.par.source).setB F.PARSE_STATUS_FALLBACK 0 s.par.fallback
  if s.par.source = 3 then s
  else ((s.set F.IMAGE_INFO_SVN 0 h.svn).set F.IMAGE_INFO_LENGTH_KIB 0 ((h.len + 1023) / 1024)).set F.IMAGE_SEQ_SEQ 0 h.seq

/-- PARSE ends (T5): charging is permitted, phases and rails are ready, the ports start (R256), the link
joins (R472), the journal's changed types are queued (R447). -/
def State.parseDone (s : State) : State :=
  let l := s.chosen
  let key := rdU (s.par.verified.drop (hdrOf s.par.verified).sigOff) 4 4
  let s := ((s.showImage.mark F.PARSE_STATUS_DONE).load F.PK_CTRL_CHG_EN 0 1).set F.COH_HOLD_HOLD 0 0
  let s : State := { s with
    pow := { s.pow with voted := false }
    sec := { s.sec with signer := if s.par.source = 3 then none else some key, ieksUsed := l.filterMap Tlv.iek }
    cj := { s.cj with parseEnd := s.now, targetAt := s.now, leaderAt := s.now, ringAt := s.now, joinAt := none, refused := false
                      told := false } }
  let s := s.setB F.CJ_STATUS_JOINED 0 (s.flag F.CJ_CFG_CJ_EN && s.flag F.CJ_CFG_LEADER)
  let s := (s.onPhases State.phaseReady).onRails State.railReady
  let s := (s.enter 5 .precheck).journalRequeue
  let s : State := { s with mirPh := s.phases.toList.map Phase.entry, mirRail := s.rails.toList.map Rail.st }
  s.portsAfresh.portsTell

/-- CONFIG_APPLY (R111): the steps of Table 4.8 on the chosen configuration; in NOR mode 11 the strap profile is chosen first. TNOW
starts here (R267); what the configuration does not fill takes its reset value. A run on the backup reference with XTAL_REQUIRED is found in step 1 (R71). -/
def State.configApply (s : State) : State :=
  if s.mode != .parse || !s.pow.cdUp || s.par.stopped then s else
  let s := if s.par.source = 0 && s.norMode = 3 then s.takeProfile 2 else s
  if s.par.source = 0 then s else
  let c := s.conf
  let s : State := { s with
    img := [], pow := { s.pow with tnow0 := s.now }
    regs := resetRegs s.regs (fun f => f.img && f != F.PH_CAL_CAL_GAIN && f != F.PH_CAL_CAL_OFS) }
  let s := s.applyDevice c.device
  if s.par.xtalReq && s.flag F.CLK_STATUS_BACKUP_ACTIVE then s.noConfig
  else (((s.applySteps c).applyFirmware c).set F.PARSE_STATUS_APPLY_STEP 0 12).advanceSvn.parseDone
def execConfigApply (t : Nat) (s : State) := run t State.configApply s

end Sys2Proof.Machine
end

