-- ==== Sys2Proof/Machine/Dispatch.lean ====
section
/-!
DEFINITION. The dispatch of a command to its meaning, one arm per constructor.
-/
namespace Sys2Proof.Machine

def exec (i : Instr) (s : State) : Host.Outcome State Fault Refusal :=
  match i with
  | .registerWrite t path addr data => Sys2Proof.Machine.execRegisterWrite t path addr data s
  | .loopPortDutyWord t r d parity => Sys2Proof.Machine.execLoopPortDutyWord t r d parity s
  | .loopPortFault t r clockAbsent => Sys2Proof.Machine.execLoopPortFault t r clockAbsent s
  | .bridgeFrameReceive t frame => Sys2Proof.Machine.execBridgeFrameReceive t frame s
  | .bridgeResendTimeout t frame => Sys2Proof.Machine.execBridgeResendTimeout t frame s
  | .protectionEventReceive t => Sys2Proof.Machine.execProtectionEventReceive t s
  | .phaseStateAck t => Sys2Proof.Machine.execPhaseStateAck t s
  | .bridgeRegisterAnswer t => Sys2Proof.Machine.execBridgeRegisterAnswer t s
  | .heartbeatSend t => Sys2Proof.Machine.execHeartbeatSend t s
  | .heartbeatReceive t seq => Sys2Proof.Machine.execHeartbeatReceive t seq s
  | .heartbeatEchoReceive t => Sys2Proof.Machine.execHeartbeatEchoReceive t s
  | .coherenceRewrite t n => Sys2Proof.Machine.execCoherenceRewrite t n s
  | .controlDieLost t cause => Sys2Proof.Machine.execControlDieLost t cause s
  | .frontDieLost t => Sys2Proof.Machine.execFrontDieLost t s
  | .missingClock t => Sys2Proof.Machine.execMissingClock t s
  | .lockstepMismatch t => Sys2Proof.Machine.execLockstepMismatch t s
  | .policyWatchdogExpiry t => Sys2Proof.Machine.execPolicyWatchdogExpiry t s
  | .watchdogRestart t => Sys2Proof.Machine.execWatchdogRestart t s
  | .regionArbitration t m => Sys2Proof.Machine.execRegionArbitration t m s
  | .supplyGood t net => Sys2Proof.Machine.execSupplyGood t net s
  | .vddioModeSelect t mv => Sys2Proof.Machine.execVddioModeSelect t mv s
  | .vaonPowerOnReset t => Sys2Proof.Machine.execVaonPowerOnReset t s
  | .vdd33Loss t => Sys2Proof.Machine.execVdd33Loss t s
  | .vcoreLoss t => Sys2Proof.Machine.execVcoreLoss t s
  | .coreBuckRestart t => Sys2Proof.Machine.execCoreBuckRestart t s
  | .vddioLoss t => Sys2Proof.Machine.execVddioLoss t s
  | .strapRead t strap ohm1 ohm2 => Sys2Proof.Machine.execStrapRead t strap ohm1 ohm2 s
  | .lfoscStart t => Sys2Proof.Machine.execLfoscStart t s
  | .wakeBallRise t => Sys2Proof.Machine.execWakeBallRise t s
  | .wakeBallLow t => Sys2Proof.Machine.execWakeBallLow t s
  | .wakeTimerExpiry t => Sys2Proof.Machine.execWakeTimerExpiry t s
  | .wakeEventAccept t => Sys2Proof.Machine.execWakeEventAccept t s
  | .timedWakeLimit t => Sys2Proof.Machine.execTimedWakeLimit t s
  | .sleepReq t path => Sys2Proof.Machine.execSleepReq t path s
  | .xtalStartTimeout t => Sys2Proof.Machine.execXtalStartTimeout t s
  | .refClockFail t departed => Sys2Proof.Machine.execRefClockFail t departed s
  | .pllUnlock t pll err => Sys2Proof.Machine.execPllUnlock t pll err s
  | .pllRelock t pll err => Sys2Proof.Machine.execPllRelock t pll err s
  | .wakeComplete t => Sys2Proof.Machine.execWakeComplete t s
  | .wakeTimeout t => Sys2Proof.Machine.execWakeTimeout t s
  | .resetNAssert t => Sys2Proof.Machine.execResetNAssert t s
  | .resetNRelease t => Sys2Proof.Machine.execResetNRelease t s
  | .safestopClr t path => Sys2Proof.Machine.execSafestopClr t path s
  | .dormantEntry t => Sys2Proof.Machine.execDormantEntry t s
  | .regionEnableOff t m => Sys2Proof.Machine.execRegionEnableOff t m s
  | .regionEnableOn t m => Sys2Proof.Machine.execRegionEnableOn t m s
  | .norDiscovery t sfdp density table qe => Sys2Proof.Machine.execNorDiscovery t sfdp density table qe s
  | .imageHeadersRead t a b => Sys2Proof.Machine.execImageHeadersRead t a b s
  | .imageCopyVerified t copy => Sys2Proof.Machine.execImageCopyVerified t copy s
  | .norReadFail t => Sys2Proof.Machine.execNorReadFail t s
  | .norVddioWaitTimeout t => Sys2Proof.Machine.execNorVddioWaitTimeout t s
  | .configApply t => Sys2Proof.Machine.execConfigApply t s
  | .railEngineUpdate t r parOk => Sys2Proof.Machine.execRailEngineUpdate t r parOk s
  | .errorSample t r vs va => Sys2Proof.Machine.execErrorSample t r vs va s
  | .lsMaxExpiry t r => Sys2Proof.Machine.execLsMaxExpiry t r s
  | .brakeStart t r => Sys2Proof.Machine.execBrakeStart t r s
  | .brakeInhibitEnd t r => Sys2Proof.Machine.execBrakeInhibitEnd t r s
  | .vinSample t sample => Sys2Proof.Machine.execVinSample t sample s
  | .vinStale t => Sys2Proof.Machine.execVinStale t s
  | .feedforwardStaleDerate t => Sys2Proof.Machine.execFeedforwardStaleDerate t s
  | .compensatorSwap t r => Sys2Proof.Machine.execCompensatorSwap t r s
  | .storeWr t path r data => Sys2Proof.Machine.execStoreWr t path r data s
  | .iSumRefresh t r => Sys2Proof.Machine.execISumRefresh t r s
  | .phaseCurrentSample t n adc => Sys2Proof.Machine.execPhaseCurrentSample t n adc s
  | .senseRange t n => Sys2Proof.Machine.execSenseRange t n s
  | .phasePeriodEnd t n => Sys2Proof.Machine.execPhasePeriodEnd t n s
  | .phaseFail t n => Sys2Proof.Machine.execPhaseFail t n s
  | .failureFollowup t n => Sys2Proof.Machine.execFailureFollowup t n s
  | .phaseSettled t n => Sys2Proof.Machine.execPhaseSettled t n s
  | .shedDwellExpiry t r => Sys2Proof.Machine.execShedDwellExpiry t r s
  | .phaseShedComplete t n => Sys2Proof.Machine.execPhaseShedComplete t n s
  | .deEntry t r => Sys2Proof.Machine.execDeEntry t r s
  | .phasePeriodStart t n => Sys2Proof.Machine.execPhasePeriodStart t n s
  | .forceTri t path n data => Sys2Proof.Machine.execForceTri t path n data s
  | .overrideWrite t path n both data => Sys2Proof.Machine.execOverrideWrite t path n both data s
  | .bootstrapRefresh t n => Sys2Proof.Machine.execBootstrapRefresh t n s
  | .tfltFault t n fault => Sys2Proof.Machine.execTfltFault t n fault s
  | .peakCurrentTrip t n => Sys2Proof.Machine.execPeakCurrentTrip t n s
  | .negPeakTrip t n => Sys2Proof.Machine.execNegPeakTrip t n s
  | .hiccupEscalation t n => Sys2Proof.Machine.execHiccupEscalation t n s
  | .hiccupSenRaise t r => Sys2Proof.Machine.execHiccupSenRaise t r s
  | .hiccupRetry t r => Sys2Proof.Machine.execHiccupRetry t r s
  | .retryCntClear t r => Sys2Proof.Machine.execRetryCntClear t r s
  | .tfltLatch t n => Sys2Proof.Machine.execTfltLatch t n s
  | .tfltLatchRelease t n => Sys2Proof.Machine.execTfltLatchRelease t n s
  | .senLeadElapsed t r => Sys2Proof.Machine.execSenLeadElapsed t r s
  | .softStopSenFall t r => Sys2Proof.Machine.execSoftStopSenFall t r s
  | .synciEdge t sub off => Sys2Proof.Machine.execSynciEdge t sub off s
  | .synciLost t late => Sys2Proof.Machine.execSynciLost t late s
  | .railStartTurn t r => Sys2Proof.Machine.execRailStartTurn t r s
  | .rampStart t r code => Sys2Proof.Machine.execRampStart t r code s
  | .spCmd t path r data => Sys2Proof.Machine.execSpCmd t path r data s
  | .spWin t path r data => Sys2Proof.Machine.execSpWin t path r data s
  | .vselCodeAccept t x => Sys2Proof.Machine.execVselCodeAccept t x s
  | .vselInvalid t x => Sys2Proof.Machine.execVselInvalid t x s
  | .aedatFrameGap t p f => Sys2Proof.Machine.execAedatFrameGap t p f s
  | .clkStuck t p f => Sys2Proof.Machine.execClkStuck t p f s
  | .nop t p seq payload => Sys2Proof.Machine.execNop t p seq payload s
  | .setv t p seq ask => Sys2Proof.Machine.execSetv t p seq ask s
  | .ctx t p seq payload => Sys2Proof.Machine.execCtx t p seq payload s
  | .hint t p seq ask => Sys2Proof.Machine.execHint t p seq ask s
  | .unhint t p seq payload => Sys2Proof.Machine.execUnhint t p seq payload s
  | .read t p seq payload => Sys2Proof.Machine.execRead t p seq payload s
  | .waddr t p seq payload => Sys2Proof.Machine.execWaddr t p seq payload s
  | .wdata t p seq payload => Sys2Proof.Machine.execWdata t p seq payload s
  | .noteack t p seq payload => Sys2Proof.Machine.execNoteack t p seq payload s
  | .preset t p seq payload => Sys2Proof.Machine.execPreset t p seq payload s
  | .readLost t p => Sys2Proof.Machine.execReadLost t p s
  | .aedatPortSilent t p => Sys2Proof.Machine.execAedatPortSilent t p s
  | .tokenSweep t x => Sys2Proof.Machine.execTokenSweep t x s
  | .hintPhaseRequest t r x slot => Sys2Proof.Machine.execHintPhaseRequest t r x slot s
  | .hintRise t r x slot => Sys2Proof.Machine.execHintRise t r x slot s
  | .hintHoldEnd t r x slot => Sys2Proof.Machine.execHintHoldEnd t r x slot s
  | .hintScore t r x slot => Sys2Proof.Machine.execHintScore t r x slot s
  | .earlyMiss t r => Sys2Proof.Machine.execEarlyMiss t r s
  | .ctxResetWeight t path ctx => Sys2Proof.Machine.execCtxResetWeight t path ctx s
  | .ctxMute t path ctx => Sys2Proof.Machine.execCtxMute t path ctx s
  | .ctxFlush t path ctx => Sys2Proof.Machine.execCtxFlush t path ctx s
  | .railOvervoltage t r => Sys2Proof.Machine.execRailOvervoltage t r s
  | .crowbarEnd t r => Sys2Proof.Machine.execCrowbarEnd t r s
  | .railUndervoltage t r => Sys2Proof.Machine.execRailUndervoltage t r s
  | .uvHiccupTimeout t r => Sys2Proof.Machine.execUvHiccupTimeout t r s
  | .pgoodRelease t r => Sys2Proof.Machine.execPgoodRelease t r s
  | .railOvercurrent t r => Sys2Proof.Machine.execRailOvercurrent t r s
  | .phaseWindowStop t n => Sys2Proof.Machine.execPhaseWindowStop t n s
  | .busOvervoltage t => Sys2Proof.Machine.execBusOvervoltage t s
  | .refinFault t m mv => Sys2Proof.Machine.execRefinFault t m mv s
  | .refinFaultEnd t m => Sys2Proof.Machine.execRefinFaultEnd t m s
  | .senseOpen t r => Sys2Proof.Machine.execSenseOpen t r s
  | .frozenFeedbackRequest t r => Sys2Proof.Machine.execFrozenFeedbackRequest t r s
  | .feedbackFrozen t r => Sys2Proof.Machine.execFeedbackFrozen t r s
  | .auxSenseImplausible t r => Sys2Proof.Machine.execAuxSenseImplausible t r s
  | .refTrimStep t => Sys2Proof.Machine.execRefTrimStep t s
  | .noReferenceVote t => Sys2Proof.Machine.execNoReferenceVote t s
  | .precheckReferenceVote t ab bc ca => Sys2Proof.Machine.execPrecheckReferenceVote t ab bc ca s
  | .prestartTest t r refin meas vsp vsn vsa rise => Sys2Proof.Machine.execPrestartTest t r refin meas vsp vsn vsa rise s
  | .leaseExpiry t res => Sys2Proof.Machine.execLeaseExpiry t res s
  | .railClr t path data => Sys2Proof.Machine.execRailClr t path data s
  | .faultHoldClear t path => Sys2Proof.Machine.execFaultHoldClear t path s
  | .pronounUpdate t r => Sys2Proof.Machine.execPronounUpdate t r s
  | .caretakerTimeout t => Sys2Proof.Machine.execCaretakerTimeout t s
  | .caretakerStopComplete t => Sys2Proof.Machine.execCaretakerStopComplete t s
  | .adoptionCheck t hashOk digestOk eccOk => Sys2Proof.Machine.execAdoptionCheck t hashOk digestOk eccOk s
  | .railHandover t r => Sys2Proof.Machine.execRailHandover t r s
  | .adoptionHandoverTimeout t r => Sys2Proof.Machine.execAdoptionHandoverTimeout t r s
  | .hkRoundStart t => Sys2Proof.Machine.execHkRoundStart t s
  | .hkSlotComplete t ch a b => Sys2Proof.Machine.execHkSlotComplete t ch a b s
  | .hkDemandRequest t => Sys2Proof.Machine.execHkDemandRequest t s
  | .selfCheckFail t => Sys2Proof.Machine.execSelfCheckFail t s
  | .sensorFailed t k => Sys2Proof.Machine.execSensorFailed t k s
  | .tfltScan t n code => Sys2Proof.Machine.execTfltScan t n code s
  | .pkgTshutStrobe t cmp => Sys2Proof.Machine.execPkgTshutStrobe t cmp s
  | .packCapture t v bi rho => Sys2Proof.Machine.execPackCapture t v bi rho s
  | .coulombCounterUpdate t raw => Sys2Proof.Machine.execCoulombCounterUpdate t raw s
  | .chargerInputCheck t above => Sys2Proof.Machine.execChargerInputCheck t above s
  | .chargerRetry t => Sys2Proof.Machine.execChargerRetry t s
  | .chargeTermination t => Sys2Proof.Machine.execChargeTermination t s
  | .chargerRecharge t => Sys2Proof.Machine.execChargerRecharge t s
  | .chargerPreTimeout t => Sys2Proof.Machine.execChargerPreTimeout t s
  | .chargerTimerExpiry t => Sys2Proof.Machine.execChargerTimerExpiry t s
  | .chargerOvp t => Sys2Proof.Machine.execChargerOvp t s
  | .pkClr t path data => Sys2Proof.Machine.execPkClr t path data s
  | .insertionHoldEnd t => Sys2Proof.Machine.execInsertionHoldEnd t s
  | .inputLoss t => Sys2Proof.Machine.execInputLoss t s
  | .busGood t => Sys2Proof.Machine.execBusGood t s
  | .packOvercurrent t => Sys2Proof.Machine.execPackOvercurrent t s
  | .packReverseCurrent t bus => Sys2Proof.Machine.execPackReverseCurrent t bus s
  | .holdupProbe t bus => Sys2Proof.Machine.execHoldupProbe t bus s
  | .probeEnd t bus => Sys2Proof.Machine.execProbeEnd t bus s
  | .holdupTimeLimit t => Sys2Proof.Machine.execHoldupTimeLimit t s
  | .recoveryRestEnd t => Sys2Proof.Machine.execRecoveryRestEnd t s
  | .pkTest t who => Sys2Proof.Machine.execPkTest t who s
  | .packTestRestEnd t => Sys2Proof.Machine.execPackTestRestEnd t s
  | .packTestMeasure t => Sys2Proof.Machine.execPackTestMeasure t s
  | .packTestRetry t => Sys2Proof.Machine.execPackTestRetry t s
  | .learnTimeout t => Sys2Proof.Machine.execLearnTimeout t s
  | .packRecordHourly t => Sys2Proof.Machine.execPackRecordHourly t s
  | .hello t sid nd eph k => Sys2Proof.Machine.execHello t sid nd eph k s
  | .auth t => Sys2Proof.Machine.execAuth t s
  | .sessionHandshakeTimeout t => Sys2Proof.Machine.execSessionHandshakeTimeout t s
  | .sessionRead t => Sys2Proof.Machine.execSessionRead t s
  | .sessionWrite t => Sys2Proof.Machine.execSessionWrite t s
  | .close t => Sys2Proof.Machine.execClose t s
  | .service t => Sys2Proof.Machine.execService t s
  | .tapUnlock t => Sys2Proof.Machine.execTapUnlock t s
  | .clrHealth t => Sys2Proof.Machine.execClrHealth t s
  | .addKey t => Sys2Proof.Machine.execAddKey t s
  | .transfer t => Sys2Proof.Machine.execTransfer t s
  | .retireKey t => Sys2Proof.Machine.execRetireKey t s
  | .addIek t iv => Sys2Proof.Machine.execAddIek t iv s
  | .retireIek t => Sys2Proof.Machine.execRetireIek t s
  | .tapDisable t => Sys2Proof.Machine.execTapDisable t s
  | .decommission t => Sys2Proof.Machine.execDecommission t s
  | .abort t path => Sys2Proof.Machine.execAbort t path s
  | .sessionMboxPush t path word => Sys2Proof.Machine.execSessionMboxPush t path word s
  | .sessionMboxPop t path => Sys2Proof.Machine.execSessionMboxPop t path s
  | .sessionIdleTimeout t => Sys2Proof.Machine.execSessionIdleTimeout t s
  | .sessionLifetimeExpiry t => Sys2Proof.Machine.execSessionLifetimeExpiry t s
  | .lockoutEnd t => Sys2Proof.Machine.execLockoutEnd t s
  | .loadConsent t p data => Sys2Proof.Machine.execLoadConsent t p data s
  | .consentExpiry t r => Sys2Proof.Machine.execConsentExpiry t r s
  | .telemetryWindowEnd t k => Sys2Proof.Machine.execTelemetryWindowEnd t k s
  | .recordIntake t => Sys2Proof.Machine.execRecordIntake t s
  | .recordStore t => Sys2Proof.Machine.execRecordStore t s
  | .recordRateWindowEnd t code unit => Sys2Proof.Machine.execRecordRateWindowEnd t code unit s
  | .recSel t path data => Sys2Proof.Machine.execRecSel t path data s
  | .recAutoAdvance t path => Sys2Proof.Machine.execRecAutoAdvance t path s
  | .clr t path => Sys2Proof.Machine.execClr t path s
  | .clrSticky t path => Sys2Proof.Machine.execClrSticky t path s
  | .journalCommitStart t vs => Sys2Proof.Machine.execJournalCommitStart t vs s
  | .journalCommitComplete t ok drop => Sys2Proof.Machine.execJournalCommitComplete t ok drop s
  | .journalDeferRetry t vs => Sys2Proof.Machine.execJournalDeferRetry t vs s
  | .fwJournalRequest t payload => Sys2Proof.Machine.execFwJournalRequest t payload s
  | .spiNop t tag => Sys2Proof.Machine.execSpiNop t tag s
  | .spiRead t tag addr => Sys2Proof.Machine.execSpiRead t tag addr s
  | .spiWrite t tag addr data => Sys2Proof.Machine.execSpiWrite t tag addr data s
  | .spiFrameError t edges raw => Sys2Proof.Machine.execSpiFrameError t edges raw s
  | .page t x => Sys2Proof.Machine.execPage t x s
  | .operation t x => Sys2Proof.Machine.execOperation t x s
  | .onOffConfig t x => Sys2Proof.Machine.execOnOffConfig t x s
  | .clearFaults t x => Sys2Proof.Machine.execClearFaults t x s
  | .capability t x => Sys2Proof.Machine.execCapability t x s
  | .smbalertMask t x => Sys2Proof.Machine.execSmbalertMask t x s
  | .voutMode t x => Sys2Proof.Machine.execVoutMode t x s
  | .voutCommand t x => Sys2Proof.Machine.execVoutCommand t x s
  | .statusByte t x => Sys2Proof.Machine.execStatusByte t x s
  | .statusWord t x => Sys2Proof.Machine.execStatusWord t x s
  | .statusVout t x => Sys2Proof.Machine.execStatusVout t x s
  | .statusIout t x => Sys2Proof.Machine.execStatusIout t x s
  | .statusInput t x => Sys2Proof.Machine.execStatusInput t x s
  | .statusTemperature t x => Sys2Proof.Machine.execStatusTemperature t x s
  | .statusCml t x => Sys2Proof.Machine.execStatusCml t x s
  | .statusMfrSpecific t x => Sys2Proof.Machine.execStatusMfrSpecific t x s
  | .readVin t x => Sys2Proof.Machine.execReadVin t x s
  | .readVout t x => Sys2Proof.Machine.execReadVout t x s
  | .readIout t x => Sys2Proof.Machine.execReadIout t x s
  | .readTemperature1 t x => Sys2Proof.Machine.execReadTemperature1 t x s
  | .readTemperature2 t x => Sys2Proof.Machine.execReadTemperature2 t x s
  | .readPout t x => Sys2Proof.Machine.execReadPout t x s
  | .pmbusRevision t x => Sys2Proof.Machine.execPmbusRevision t x s
  | .mfrId t x => Sys2Proof.Machine.execMfrId t x s
  | .mfrModel t x => Sys2Proof.Machine.execMfrModel t x s
  | .mfrRevision t x => Sys2Proof.Machine.execMfrRevision t x s
  | .mfrSerial t x => Sys2Proof.Machine.execMfrSerial t x s
  | .mfrRegAddr t x => Sys2Proof.Machine.execMfrRegAddr t x s
  | .mfrRegData t x => Sys2Proof.Machine.execMfrRegData t x s
  | .mfrRegStatus t x => Sys2Proof.Machine.execMfrRegStatus t x s
  | .mfrSessCtrl t x => Sys2Proof.Machine.execMfrSessCtrl t x s
  | .mfrSessStat t x => Sys2Proof.Machine.execMfrSessStat t x s
  | .mfrSessMbox t x => Sys2Proof.Machine.execMfrSessMbox t x s
  | .mfrRecSel t x => Sys2Proof.Machine.execMfrRecSel t x s
  | .mfrRecData t x => Sys2Proof.Machine.execMfrRecData t x s
  | .mfrRecNewest t x => Sys2Proof.Machine.execMfrRecNewest t x s
  | .mfrRailState t x => Sys2Proof.Machine.execMfrRailState t x s
  | .mfrMode t x => Sys2Proof.Machine.execMfrMode t x s
  | .mfrPubSel t x => Sys2Proof.Machine.execMfrPubSel t x s
  | .mfrPubData t x => Sys2Proof.Machine.execMfrPubData t x s
  | .pmbusInvalidCommand t code x => Sys2Proof.Machine.execPmbusInvalidCommand t code x s
  | .alertResponse t => Sys2Proof.Machine.execAlertResponse t s
  | .pmbClr t path => Sys2Proof.Machine.execPmbClr t path s
  | .cjOwnSlotReturn t typ src seq payload crc codeErr => Sys2Proof.Machine.execCjOwnSlotReturn t typ src seq payload crc codeErr s
  | .target t src seq payload crc codeErr => Sys2Proof.Machine.execTarget t src seq payload crc codeErr s
  | .railinfo t src seq payload crc codeErr => Sys2Proof.Machine.execRailinfo t src seq payload crc codeErr s
  | .mstat t src seq payload crc codeErr => Sys2Proof.Machine.execMstat t src seq payload crc codeErr s
  | .railev t src seq payload crc codeErr => Sys2Proof.Machine.execRailev t src seq payload crc codeErr s
  | .join t src seq payload crc codeErr => Sys2Proof.Machine.execJoin t src seq payload crc codeErr s
  | .welcome t src seq payload crc codeErr => Sys2Proof.Machine.execWelcome t src seq payload crc codeErr s
  | .ping t src seq payload crc codeErr => Sys2Proof.Machine.execPing t src seq payload crc codeErr s
  | .joinRetry t => Sys2Proof.Machine.execJoinRetry t s
  | .joinTimeout t => Sys2Proof.Machine.execJoinTimeout t s
  | .leaderLost t => Sys2Proof.Machine.execLeaderLost t s
  | .islandTimeout t => Sys2Proof.Machine.execIslandTimeout t s
  | .memberLost t c => Sys2Proof.Machine.execMemberLost t c s
  | .ringDown t => Sys2Proof.Machine.execRingDown t s
  | .aedatPadSupplyLoss t => Sys2Proof.Machine.execAedatPadSupplyLoss t s
  | .chargerSwitchingPeriod t sw demand => Sys2Proof.Machine.execChargerSwitchingPeriod t sw demand s
  | .targetSlotSend t => Sys2Proof.Machine.execTargetSlotSend t s
  | .aedatReservedTypeFrame t p header payload crc => Sys2Proof.Machine.execAedatReservedTypeFrame t p header payload crc s
  | .testPortInstruction t ti => Sys2Proof.Machine.execTestPortInstruction t ti s

end Sys2Proof.Machine
end

