-- ==== Sys2Proof/Machine/Balls.lean ====
section
/-!
DEFINITION. What the output balls show (R43, R56, Table 2.9), as far as no register or field of State says it by itself: PGOOD, FAULT_N, the
Aedat Link, host SPI, the test port, the NOR (R91), SYNCO (R220) and the Conjunction Link. The PWM balls are `State.ball`, SEN is
SEN_STATE, HU_GATE is `pk.gate`, SMBALERT_N is `State.smbAlert`.
-/
namespace Sys2Proof.Machine

/-- How a ball is driven: not at all, to a level, idle, or by the traffic it carries. -/
inductive Drive where
  | hiZ | low | high | idle | active
  deriving DecidableEq, Repr

/-- The die drives no ball without VAON (Table 2.9). -/
def State.whilePowered (s : State) (d : Drive) : Drive := if s.flag F.SUPPLY_STATUS_VAON_GOOD then d else .hiZ
/-- An open-drain ball: driven low, or released. -/
def openDrain (low : Bool) : Drive := if low then .low else .hiZ

/-- PGOOD of a rail (R300, Table 2.9): released while PGOOD_ST reads 1, and without VDD33 in DORMANT. -/
def State.pgoodBall (s : State) (r : Fin 8) : Drive :=
  s.whilePowered (openDrain (if s.mode == .dormant then s.flag F.SUPPLY_STATUS_VDD33_GOOD else !s.flag F.RP_STATUS_PGOOD_ST r))
/-- FAULT_N (R291). -/
def State.faultBall (s : State) : Drive := s.whilePowered (openDrain s.faultN)

/-- ALDI of a port (R256): high impedance until the port is up. -/
def State.aldiBall (s : State) (p : Fin 2) : Drive := s.whilePowered (if s.portUp p then .active else .hiZ)
/-- ALALERT_N of a port (R253, R256): low while its notice queue holds a notice. -/
def State.alertBall (s : State) (p : Fin 2) : Drive := s.whilePowered (openDrain (s.portUp p && !(s.port p).notes.isEmpty))

/-- HSDO, in a transaction (`selected`: HCS_N low) or outside one (R455). -/
def State.hsdoBall (s : State) (selected : Bool) : Drive := s.whilePowered (if selected && s.spiUp then .active else .hiZ)
/-- TDO, while the test port shifts (`selected`) or not (R49). -/
def State.tdoBall (s : State) (selected : Bool) : Drive :=
  s.whilePowered (if selected && s.flag F.SUPPLY_STATUS_VDDIO_GOOD then .active else .hiZ)
/-- QCS_N, QSCK and QIO0–QIO3 (R91): driven by the Parser in WAKE and PARSE only. -/
def State.norBalls (s : State) : Drive := s.whilePowered (if s.mode == .wake || s.mode == .parse then .active else .hiZ)

/-- SYNCO (R220): HIGH for 40 ns, 512 ticks, from each period start of SYNCO_RAIL; idle low otherwise. -/
def State.syncoBall (s : State) : Drive :=
  let r : Fin 8 := Fin.ofNat 8 (s.get F.SYNC_CFG_SYNCO_RAIL)
  s.whilePowered (if s.mode == .dormant then .hiZ
    else if s.flag F.SYNC_CFG_SYNCO_EN && decide (s.rc r < 512) then .high else .low)
/-- CJO (R468, R470, Table 2.9): idle until the link takes part. -/
def State.cjoBall (s : State) : Drive :=
  s.whilePowered (if s.mode == .dormant then .hiZ else if s.cjUp then .active else .idle)

end Sys2Proof.Machine
end

