-- ==== Sys2Proof/Safety.lean ====
section
/-!
DEFINITION. What the statements are written in: a command that gives a next state, the canonical form of the stores, what the OTP
may become, what the end of an update may write, and what a command leaves alone.
-/
namespace Sys2Proof.Machine

/-- The command answers a next state, of which `P` holds. -/
def Gives (i : Instr) (s : State) (P : State → Prop) : Prop := ∃ u, exec i s = .next u ∧ P u

/-- Every sparse store of the block has its canonical form: keys rising, nothing listed that reads 0. -/
def State.Canonical (s : State) : Prop :=
  s.regs.wf ∧ s.img.wf ∧ s.sets.wf ∧ s.ctxs.wf ∧ s.rings.wf ∧ s.pmb.masks.wf ∧ s.jrn.mram.wf

/-- The rows of Table 3.3 by their numbers: the device goes from mode `a` to mode `b` by transition `n` (R74). -/
def modeRow (n : Nat) (a b : Mode) : Bool :=
  let byRails := b == .regulate || b == .shed || b == .hiccup
  let live := a == .precheck || a.running || a == .service
  match n with
  | 1 => b == .dormant
  | 2 => a == .dormant && b == .wake
  | 3 => a == .wake && b == .parse
  | 4 => a == .wake && b == .dormant
  | 5 => a == .parse && b == .precheck
  | 6 => a == .parse && b == .safestop
  | 7 => a == .precheck && b == .softstart
  | 8 => a == .precheck && b == .regulate
  | 9 => live && b == .safestop
  | 10 => a == .softstart && byRails
  | 11 => (a == .regulate || a == .shed || a == .hiccup) && byRails
  | 12 => (a == .softstart || a == .regulate || a == .shed || a == .hiccup) && b == .holdup
  | 13 => a == .holdup && byRails
  | 14 => a == .holdup && b == .dormant
  | 15 => live && b == .caretaker
  | 16 => (a == .parse || live) && b == .wake
  | 17 => a == .caretaker && (byRails || b == .holdup)
  | 18 => a == .caretaker && b == .parse
  | 19 => a == .caretaker && b == .safestop
  | 20 => (live || a == .safestop) && b == .dormant
  | 21 => a == .safestop && b == .parse
  | 22 => a == .safestop && b == .dormant
  | 23 => (a == .safestop || a == .regulate) && b == .service
  | 24 => a == .service && b == .parse
  | 25 => a != .dormant && b == .wake
  | 26 => a != .dormant && b == .dormant
  | _ => false

/-- What one-time programming may make of an OTP (R406, R407): thermometer bits, TAP_DIS and DECOMM are only ever set; the
certificate, the device key and UNOWNED stay; the PUF helper data can be destroyed, not made; a key slot that holds a hash keeps it,
and stays retired once it is. -/
structure OtpKept (a b : Otp) : Prop where
  rb : ∀ i, a.rbBits.testBit i → b.rbBits.testBit i
  own : ∀ i, a.ownBits.testBit i → b.ownBits.testBit i
  tap : a.tapDis → b.tapDis
  dec : a.decomm → b.decomm
  cert : b.cert = a.cert
  puf : b.puf → a.puf
  kdev : b.kdev = a.kdev
  unowned : b.unowned = a.unowned
  hash : ∀ i, (a.slot i).hash ≠ 0 → (b.slot i).hash = (a.slot i).hash
  retired : ∀ i, (a.slot i).hash ≠ 0 → (a.slot i).retired → (b.slot i).retired

/-- The register fields that the end of an update may write (`settle`): rail, notice, charger and status fields that follow the
state. -/
def settleFields : List Fld :=
  [F.AL_STATUS_CRED, F.AL_STICKY_NOTE_LOST, F.CT_COUNT_ADOPT_REF, F.CT_STATUS_ADOPT_RES, F.ENG_STATUS_BRAKE_ACT, F.ENG_STATUS_LSD_ACT,
   F.ENG_STATUS_LSU_ACT, F.FAULT_HOLD_FAULT_HOLD, F.MODE_STATUS_LAST_TRANS, F.MODE_STATUS_PREV_MODE, F.PHC_STATUS_DE_ACT,
   F.PK_STATE_CHG_ST, F.PK_STATE_HU_ON, F.PK_STATE_TEST_ACT, F.PMB_RSTAT2_STATUS_INPUT, F.PMB_RSTAT2_STATUS_MFR,
   F.PMB_RSTAT2_STATUS_TEMP, F.PMB_RSTAT_STATUS_IOUT, F.PMB_RSTAT_STATUS_VOUT, F.PMB_RSTAT_STATUS_WORD, F.PMB_STATUS_STATUS_CML,
   F.PROT_STATUS_DL_CAUSE, F.PWM_STATUS_LEVEL, F.RP_STATUS_CB_ACT, F.RP_STATUS_LATCH_CAUSE, F.RP_STATUS_PGOOD_ST,
   F.RP_STATUS_SNS_AUX, F.RP_STATUS_SNS_CAUSE, F.RP_STATUS_UV_RD, F.SEN_CFG_SEN_STATE, F.TN_STAT_DISCARD_S, F.TN_STAT_F, F.TN_STAT_FF_CAP_S,
   F.TN_STAT_N_SCHED]

/-- A register key that the end of an update may write. -/
def settleKey (k : Nat) : Bool := settleFields.any (fun f => f.hasKey k)

/-- What the end of an update leaves of an engine. -/
def Engine.rest (e : Engine) : Engine := { e with auxD := none, openLoop := false, rampT0 := 0, rampK := 0, ff := 0 }
/-- What the end of an update leaves of a Front-die side. -/
def Front.rest (f : Front) : Front :=
  { f with readyAt := none, j10 := 0, ls := .none, upRun := 0, dnRun := 0, fallAt := none, tested := false, started := false, passed := false,
           stop := .toOff, stopCause := 0, frzDone := false, handed := false, senAt := 0, senLead := false, inStart := false
           engAt := 0, dutyGood := 0, uvRun := 0, frz := [], was := .off, wasAt := 0 }
/-- What the end of an update leaves of a rail. -/
def Rail.rest (x : Rail) : Rail := { x with st := .off, tn := [], eng := x.eng.rest, fr := x.fr.rest }
/-- What the end of an update leaves of a phase. -/
def Phase.rest (p : Phase) : Phase :=
  { p with sw := .unused, chgAt := 0, offAt := 0, triAt := 0, applied := 0, hiFrom := 0, pulse := false, allHigh := false, switched := false
           braking := false }
/-- What the end of an update leaves of the pack. -/
def Pack.rest (p : Pack) : Pack := { p with test := 0, testRetry := false, gate := false, testAt := 0, termAt := none, rechAt := none }
/-- What the end of an update leaves of a port. -/
def Port.rest (p : Port) : Port := { p with notes := [], nseq := 0, noteLost := false, held := 0 }
/-- What the end of an update leaves of a state, registers apart. -/
def State.rest (s : State) : State :=
  { s with
    now := 0, pending := [], mode := .dormant, regs := [], mirPh := [], mirRail := [], ctxs := []
    pow := { s.pow with stopSet := 0, refused := false, ctAdopt := false, ctFault := false, testEnd := 0 }
    phases := s.phases.map Phase.rest, rails := s.rails.map Rail.rest, ports := s.ports.map Port.rest
    rcd := { s.rcd with c1q := [], evq := [], wins := [] }
    pmb := { s.pmb with released := false, seen := 0 }
    cj := { s.cj with taken := false, txq := [] }
    pk := s.pk.rest }

/-- `s` differs from `b` only in what the end of an update may write, and the Control-die records only grew. -/
structure Framed (b s : State) : Prop where
  rest : s.rest = b.rest
  regs : ∀ k, settleKey k = false → s.regs.get k = b.regs.get k
  evq : b.rcd.evq <+: s.rcd.evq

/-- A part of the state that a command may change beside its registers. -/
inductive Part where
  | pow | br | par | sets | img | rcd | spi | pmb | cj | otp | sec | tlm | jrn | pk | th | ctxs | rings | code
  | rails | phases | ports
  | rail (r : Fin 8) | phase (n : Fin 32) | port (p : Fin 2)
  deriving DecidableEq, Repr

/-- `s` with one part of `u`. -/
def State.put (u s : State) : Part → State
  | .pow => { s with pow := u.pow }
  | .br => { s with br := u.br }
  | .par => { s with par := u.par }
  | .sets => { s with sets := u.sets }
  | .img => { s with img := u.img }
  | .rcd => { s with rcd := u.rcd }
  | .spi => { s with spi := u.spi }
  | .pmb => { s with pmb := u.pmb }
  | .cj => { s with cj := u.cj }
  | .otp => { s with otp := u.otp }
  | .sec => { s with sec := u.sec }
  | .tlm => { s with tlm := u.tlm }
  | .jrn => { s with jrn := u.jrn }
  | .pk => { s with pk := u.pk }
  | .th => { s with th := u.th }
  | .ctxs => { s with ctx0 := u.ctx0, ctxs := u.ctxs }
  | .rings => { s with rings := u.rings }
  | .code => { s with code := u.code, entry := u.entry }
  | .rails => { s with rails := u.rails }
  | .phases => { s with phases := u.phases }
  | .ports => { s with ports := u.ports }
  | .rail r => s.modRail r (fun _ => u.rail r)
  | .phase n => s.modPh n (fun _ => u.ph n)
  | .port p => s.modPort p (fun _ => u.port p)
/-- `s` with the parts `ps` of `u`. -/
def State.puts (u s : State) (ps : List Part) : State := ps.foldl (State.put u) s

/-- Beside the parts `ps`, the register fields `fs` and what the end of an update may write, nothing changed from `s` to `u`. -/
structure Changes (ps : List Part) (fs : List Fld) (s u : State) : Prop where
  rest : u.rest = (State.puts u s ps).rest
  regs : ∀ k, fs.any (fun f => f.hasKey k) = false → settleKey k = false → u.regs.get k = s.regs.get k

/-- One instance of a register field (a rail's, a phase's, a port's) as a field of its own. -/
def Fld.only (f : Fld) (i : Nat) : Fld := { f with base := f.addr i, stride := 0, count := 1, lo := f.pos i, lostep := 0 }

/-- No SAFESTOP_CLR request waits for the last RAMPDOWN (R80). -/
abbrev State.Calm (s : State) : Prop := s.pow.wantSafestopClr = false

/-- Nothing of the end of an update acts on the rails by itself: no SAFESTOP_CLR request waits, the Conjunction Link is not in use, and
no ordered stop runs (R78, R80). -/
abbrev State.Still (s : State) : Prop :=
  s.pow.wantSafestopClr = false ∧ s.flag F.CJ_CFG_CJ_EN = false ∧ s.pow.stopSet = 0

/-- Host SPI reaches the registers and no session is open on it, so an access is the Second Person's (R11, R393). -/
abbrev State.AsP2 (s : State) : Prop := s.pathUp .spi = true ∧ s.sessOn 0 = false
/-- A session is open on host SPI with the right `b` of Table 14.6, so a session access is the Third Person's (R11, R417). -/
abbrev State.AsP3 (s : State) (b : Nat) : Prop := s.pathUp .sess = true ∧ s.right b = true

/-- A Control-die event of this code is on its way to the recorder. -/
def State.Records (s : State) (code : Nat) : Prop := ∃ e ∈ s.rcd.evq, e.code = code

/-- A block write of these bytes with the PEC that R457 asks for. -/
def State.sent (s : State) (code : Nat) (data : List Byte) : Xfer := .write data (some (s.pecByte code data))

/-- After a PMBus transaction the command byte stands acknowledged and the controller drives `b` and the PEC over the transaction
(R457): its address byte, the command byte, the address byte of the read, `b`. -/
abbrev State.Drives (s u : State) (code : Nat) (b : List Byte) : Prop :=
  u.pmb.nack = false ∧ u.pmb.out = b ++ [BitVec.ofNat 8 (pec ([BitVec.ofNat 8 (s.get F.STRAP_STATUS_PM_ADDR * 2), BitVec.ofNat 8 code,
    BitVec.ofNat 8 (s.get F.STRAP_STATUS_PM_ADDR * 2 + 1)] ++ b))]

/-- A session message stands verified (R417): it came on the session's bus, names the row of `m` and `op`, its CSEQ is the next, its
tag holds over the plaintext `pt`, and the session is not ending (R425). -/
abbrev State.Message (s : State) (m op : Nat) (pt : List Byte) : Prop :=
  s.msgWaits = true ∧ s.sec.st = 2 ∧ s.sec.msgBus = s.sec.bus ∧ s.msgByte 0 = m ∧ s.msgByte 1 = op ∧ s.unseal = some pt ∧
    s.sec.ending = none
/-- The address that an M5 carries. -/
abbrev State.msgAddr (s : State) : Nat := beNat (slice s.sec.msg 2 2)
/-- The answer that stands in the mailbox (R412): its bytes, and its RES or STAT. -/
abbrev State.Answers (u : State) (res : Nat) (b : List Byte) : Prop :=
  u.sec.pop = wordsOf b ∧ u.sec.rxLen = b.length ∧ u.sec.rxReady = true ∧ u.sec.busy = false ∧ u.sec.lastRes = res
/-- An answer with this STAT or RES stands in the mailbox. -/
abbrev State.Replies (u : State) (res : Nat) : Prop := u.sec.lastRes = res ∧ u.sec.rxReady = true ∧ u.sec.busy = false
/-- An M6 that carries a register value answers the message of `s` (R413, R417). -/
abbrev State.AnswersM6 (s u : State) (stat addr data : Nat) : Prop :=
  let c := (s.sec.cseq + 1) % 2 ^ 32
  let h := beBytes 1 6 ++ beBytes 1 stat ++ beBytes 2 addr ++ beBytes 4 c
  let x := gcmSeal s.sec.ks (beBytes 4 1 ++ beBytes 4 c ++ beBytes 4 0) h (beBytes 4 data)
  u.Answers stat (h ++ x.1 ++ x.2)
/-- An M8 answers the message of `s` (R413, R421). -/
abbrev State.AnswersM8 (s u : State) (kop res : Nat) : Prop :=
  let c := (s.sec.cseq + 1) % 2 ^ 32
  let h := beBytes 1 8 ++ beBytes 1 kop ++ beBytes 1 res ++ beBytes 1 0 ++ beBytes 4 c
  u.Answers res (h ++ (gcmSeal s.sec.ks (beBytes 4 1 ++ beBytes 4 c ++ beBytes 4 0) h []).2)

end Sys2Proof.Machine
end

