-- ==== Sys2Proof/Certificates/Slice0/Obligations.lean ====
section
/-!
DEFINITION. The statements for the provers: what every command and every step does (first), what each command gives, group by group,
what each leaves alone (the frames), and (last) the completion of ten commands once more. The words they use stand in Sys2Proof/Safety.lean.
-/
open Sys2Proof Sys2Proof.Machine

/-- A step runs the command at the front of the queue: it is that command's effect on the state with the queue's rest. -/
def Obligations.StepRunsTheFrontCommand : Prop :=
  ∀ (s : State) (c : Instr) (q : List Instr), s.pending = c :: q → step s = exec c { s with pending := q }

/-- Every command of the table completes in every state, for all operands, but for one: a TEST_PORT_INSTRUCTION that loads a ZILURA
opcode where the spec enables Zilura's test instructions (R424) and gives them no effect. That one is refused under its own name. -/
def Obligations.EveryCommandCompletes : Prop :=
  ∀ (c : Instr) (s : State), (∃ u, exec c s = .next u) ∨
    (∃ t i, c = .testPortInstruction t i ∧ s.makerTest i = true ∧ exec c s = .refused .manufacturerTest)

/-- No command touches the queue or the part number, and time never falls. -/
def Obligations.ClockAndQueue : Prop :=
  ∀ (c : Instr) (s u : State), exec c s = .next u → u.pending = s.pending ∧ s.now ≤ u.now ∧ u.cz1604 = s.cz1604

/-- Every step keeps every sparse store in its canonical form. -/
def Obligations.StepsKeepStoresCanonical : Prop :=
  ∀ (s u : State), s.Canonical → step s = .next u → u.Canonical

/-- Every step keeps every register field within its width. -/
def Obligations.StepsKeepRegistersInWidth : Prop :=
  ∀ (s u : State), (∀ f ∈ allFields, ∀ i < f.count, s.get f i < 2 ^ f.width) → step s = .next u →
    ∀ f ∈ allFields, ∀ i < f.count, u.get f i < 2 ^ f.width

/-- The machine at reset: every register field, of every rail, phase, region and port, holds the reset value of its table, but the six that show VDD33,
VDDIO, VCORE and the other supplies not yet good and the low-frequency oscillator not yet running, which read 0 (DESIGN CHOICE, log
entry 13: the model starts before any supply is judged). The mode is DORMANT, no command waits, and the invariants of stores and
widths hold. -/
def Obligations.ResetState : Prop :=
  (∀ f ∈ allFields, ∀ i < f.count, State.reset.get f i =
    if f ∈ [F.SUPPLY_STATUS_VDD33_GOOD, F.SUPPLY_STATUS_VDDIO_GOOD, F.SUPPLY_STATUS_VCORE_GOOD, F.SUPPLY_STATUS_AL_IO_GOOD,
      F.SUPPLY_STATUS_VDDIO_MODE, F.CLK_STATUS_LFOSC_OK] then 0 else f.reset) ∧
  (∀ f ∈ allFields, f.reset < 2 ^ f.width) ∧
  State.reset.mode = .dormant ∧ State.reset.pending = [] ∧ State.reset.Canonical

/-- One-time programming only gains: thermometer bits, TAP_DIS and DECOMM are only ever set; the certificate, the device key and
UNOWNED stay; the PUF helper data is only ever destroyed; a key slot that holds a hash keeps it, and stays retired once it is. -/
def Obligations.OtpOnlyGains : Prop :=
  ∀ (c : Instr) (s u : State), exec c s = .next u → OtpKept s.otp u.otp

/-- R407. A thermometer item whose highest programmed bit is `i` has the value i + 1, and one with no bit the value 0. Programming
more bits never lowers it, and no command lowers OWN_GEN or the rollback counter. -/
def Obligations.ThermometerItems : Prop :=
  (∀ n i : Nat, n.testBit i = true → (∀ j, i < j → n.testBit j = false) → thermo n = i + 1) ∧
  thermo 0 = 0 ∧ (∀ n m : Nat, thermo n ≤ thermo (n ||| m)) ∧
  (∀ (c : Instr) (s u : State), exec c s = .next u → s.otp.ownGen ≤ u.otp.ownGen ∧ s.otp.rollback ≤ u.otp.rollback)

/-- A command that changes the device mode takes a row of Table 3.3: PREV_MODE, LAST_TRANS and the new mode are the row's. Where a
command takes several transitions in one update, they are those of the last. VAON_POWER_ON_RESET takes T1 to DORMANT, where MODE_STATUS
holds the reset values of its map. -/
def Obligations.ModesChangeByTheTable : Prop :=
  ∀ (c : Instr) (s u : State), exec c s = .next u → u.mode ≠ s.mode →
    (∃ t, c = .vaonPowerOnReset t ∧ u.mode = .dormant ∧ u.get F.MODE_STATUS_LAST_TRANS = F.MODE_STATUS_LAST_TRANS.reset) ∨
    ∃ a : Mode, u.get F.MODE_STATUS_PREV_MODE = a.code ∧ modeRow (u.get F.MODE_STATUS_LAST_TRANS) a u.mode = true

/-- R75 over the rails: after every command, a device in REGULATE, SHED or HICCUP is in the one of them that its rail states decide:
HICCUP with a rail in HICCUP and none in REG, SHED or RAMP; else SHED with a rail in SHED and none in REG, RAMP or HICCUP; else
REGULATE. -/
def Obligations.RunningModeFollowsTheRails : Prop :=
  ∀ (c : Instr) (s u : State), exec c s = .next u → u.mode = .regulate ∨ u.mode = .shed ∨ u.mode = .hiccup →
    (u.mode = .hiccup ↔ (∃ r, u.st r = .hiccup) ∧ ∀ r, u.st r ≠ .reg ∧ u.st r ≠ .shed ∧ u.st r ≠ .ramp) ∧
    (u.mode = .shed ↔ (∃ r, u.st r = .shed) ∧ ∀ r, u.st r ≠ .reg ∧ u.st r ≠ .ramp ∧ u.st r ≠ .hiccup)

/-- R156. After every command, a rail in REG or SHED is in SHED exactly while one of its live phases is IDLE or diode emulation is
active on it. -/
def Obligations.ShedFollowsThePhases : Prop :=
  ∀ (c : Instr) (s u : State) (r : Fin 8), exec c s = .next u → u.st r = .reg ∨ u.st r = .shed →
    (u.st r = .shed ↔ (∃ n : Fin 32, n ∈ u.liveOf r ∧ (u.ph n).sw = .idle) ∨ u.get F.PHC_STATUS_DE_ACT r ≠ 0)

/-- After every command, a rail with schedule entries is in REG or SHED with TN_EN set, and the device is not in SERVICE. -/
def Obligations.NoScheduleOutsideRegulation : Prop :=
  ∀ (c : Instr) (s u : State) (r : Fin 8), exec c s = .next u → u.hints r ≠ [] →
    (u.st r = .reg ∨ u.st r = .shed) ∧ u.tnOn r = true ∧ u.mode ≠ .service

/-- While the Control die runs, its mirror takes every change of a rail state and of a phase entry that a command makes: an entry
that agreed with the Front die before agrees with it after. -/
def Obligations.MirrorFollowsTheFrontDie : Prop :=
  ∀ (c : Instr) (s u : State), exec c s = .next u → u.pow.cdUp = true → u.mode ≠ .caretaker → s.mirRail.length = 8 →
    s.mirPh.length = 32 → u.mirRail.length = 8 ∧ u.mirPh.length = 32 ∧
    (∀ r : Fin 8, s.mirRail[r.val]? = some (s.st r) → u.mirRail[r.val]? = some (u.st r)) ∧
    (∀ n : Fin 32, s.mirPh[n.val]? = some (s.ph n).entry → u.mirPh[n.val]? = some (u.ph n).entry)

/-- Only the journal's commits, their deferral and a transfer of ownership write the journal store. -/
def Obligations.JournalStoreWriters : Prop :=
  ∀ (c : Instr) (s u : State), exec c s = .next u → u.jrn.mram ≠ s.jrn.mram →
    (∃ t v, c = .journalCommitStart t v) ∨ (∃ t ok d, c = .journalCommitComplete t ok d) ∨ (∃ t v, c = .journalDeferRetry t v) ∨
    (∃ t, c = .transfer t)

/-- R135. No feedforward sample for 10 µs (the command VIN_STALE) keeps every rail's RVIN and sets VIN_STALE; the next sample clears
it. -/
def Obligations.StaleBusFeedforward : Prop :=
  (∀ (t : Nat) (s : State) (r : Fin 8), s.Calm → s.pow.cdUp = true → (State.at s t).vinOld = true →
    Gives (.vinStale t) s (fun u => u.get F.ENG_STATUS_VIN_STALE r = 1 ∧ (u.eng r).rvin = (s.eng r).rvin)) ∧
  (∀ (t : Nat) (s : State) (v : BitVec 12) (r : Fin 8), s.Calm → s.pow.cdUp = true → s.mode ≠ .dormant → s.mode ≠ .wake →
    Gives (.vinSample t v) s (fun u => u.get F.ENG_STATUS_VIN_STALE r = 0))

/-- What the dies do on receipt of a duty word (R14), a frame (R15), a class 1 event (R16), an acknowledgement (R17, R154) and an
  answer (R516). Where a clause rests on a reading the spec leaves open, it is the model's: log entries 14, 17, 18, 19, 162, 183,
  184, 185 and 189. -/
def Obligations.LinkBetweenDies : Prop :=
  -- R13, R14: the word that the engine sent, as it arrives
  (∀ (t : Nat) (s : State) (r : Fin 8) (x : BitVec 16) (p : Bool),
      s.Calm → s.pow.cdUp = true → s.br.fdLost = false → parityOk ((s.eng r).word ^^^ (x.toNat * 2 + b2n p)) = true →
        (s.fr r).ls = .none →
      Gives (.loopPortDutyWord t r x p) s (fun u =>
        (u.fr r).duty = ((s.eng r).word ^^^ (x.toNat * 2 + b2n p)) / 2 ∧ u.get F.BRIDGE_STATUS_LP_PARITY_CNT = s.get
          F.BRIDGE_STATUS_LP_PARITY_CNT)) ∧
  -- R150: during a large-signal action a word is ignored
  (∀ (t : Nat) (s : State) (r : Fin 8) (x : BitVec 16) (p : Bool),
      s.Calm → s.pow.cdUp = true → s.br.fdLost = false → parityOk ((s.eng r).word ^^^ (x.toNat * 2 + b2n p)) = true →
        (s.fr r).ls ≠ .none →
      Gives (.loopPortDutyWord t r x p) s (fun u =>
        (u.fr r).duty = (s.fr r).duty ∧ ((∀ n, u.level n = s.level n)))) ∧
  -- R14: a word that fails its parity is not used
  (∀ (t : Nat) (s : State) (r : Fin 8) (x : BitVec 16) (p : Bool),
      s.Calm → s.pow.cdUp = true → s.br.fdLost = false → parityOk ((s.eng r).word ^^^ (x.toNat * 2 + b2n p)) = false →
      Gives (.loopPortDutyWord t r x p) s (fun u =>
        u.get F.BRIDGE_STATUS_LP_PARITY_CNT = min 255 (s.get F.BRIDGE_STATUS_LP_PARITY_CNT + 1) ∧ (u.fr r).duty = (s.fr r).duty
          ∧ Changes [.rail r] [F.BRIDGE_STATUS_LP_PARITY_CNT] s u)) ∧
  -- R15
  (∀ (t : Nat) (s : State) (f : BitVec 128),
      s.Calm → s.mode ≠ .dormant → frameOk f = false →
      Gives (.bridgeFrameReceive t f) s (fun u =>
        u.get F.BRIDGE_STATUS_CRC_ERR_CNT = min 4095 (s.get F.BRIDGE_STATUS_CRC_ERR_CNT + 1)
          ∧ Changes [] [F.BRIDGE_STATUS_CRC_ERR_CNT] s u)) ∧
  -- R15
  (∀ (t : Nat) (s : State) (f : BitVec 128),
      s.Calm → s.mode ≠ .dormant → frameOk f = true →
      Gives (.bridgeFrameReceive t f) s (fun u =>
        u.br.lastFrame = some f ∧ Changes [.br] [] s u)) ∧
  -- R17: a frame still unacknowledged is sent again, at most 8 times
  (∀ (t : Nat) (s : State) (q : PsReq) (l : List PsReq),
      s.Calm → s.pow.cdUp = true → s.br.c3 = q :: l → s.br.c3Resends < 8 →
      Gives (.bridgeResendTimeout t 0) s (fun u =>
        u.br.c3 = s.br.c3 ∧ u.br.c3Resends = s.br.c3Resends + 1 ∧ Changes [.br] [] s u)) ∧
  -- R17: then it is abandoned
  (∀ (t : Nat) (s : State) (q : PsReq) (l : List PsReq),
      s.Calm → s.pow.cdUp = true → s.br.c3 = q :: l → 8 ≤ s.br.c3Resends →
      Gives (.bridgeResendTimeout t 0) s (fun u =>
        u.br.c3 = l ∧ u.get F.BRIDGE_STATUS_BRIDGE_FAULT = 1 ∧ u.Records 0x0101
          ∧ Changes [.br] [F.BRIDGE_STATUS_BRIDGE_FAULT] s u)) ∧
  -- R16
  (∀ (t : Nat) (s : State) (c : C1) (q : List C1),
      s.Calm → s.pow.cdUp = true → s.rcd.c1q = c :: q →
      Gives (.protectionEventReceive t) s (fun u =>
        c.evt ∈ u.rcd.evq ∧ Changes [.rails, .rcd] [] s u)) ∧
  -- R154
  (∀ (t : Nat) (s : State) (q : PsReq) (l : List PsReq),
      s.Calm → s.rcd.c1q = [] → s.br.c3 = q :: l →
      Gives (.phaseStateAck t) s (fun u =>
        u.br.c3 = l ∧ u.br.c3Resends = 0)) ∧
  -- R154, R171, R181: an add that takes effect
  (∀ (t : Nat) (s : State) (q : PsReq) (l : List PsReq) (n : Fin 32),
      s.Still → s.rcd.c1q = [] → s.br.c3 = q :: l → q.op = .add → q.ph = n.val →
        (s.st (s.railOf n) = .reg ∨ s.st (s.railOf n) = .shed) → s.live n = true → (s.ph n).sw = .idle → (∀ r, s.mayArm r = false) →
      Gives (.phaseStateAck t) s (fun u =>
        (u.ph n).sw = .adding ∧ (u.ph n).acc = 0 ∧ (u.ph n).rsv = q.rsv ∧ u.getI F.PH_PLACE_TRIM n = 0)) ∧
  -- R516
  (∀ (t : Nat) (s : State) (a : Access) (l : List Access),
      s.Calm → s.pow.cdUp = true → s.rcd.c1q = [] → s.br.c4 = a :: l → a.wr = false →
      Gives (.bridgeRegisterAnswer t) s (fun u =>
        u.br.c4 = l ∧ u.br.c4Resends = 0)) ∧
  -- R516, R453: the answer completes the SPI access that issued it
  (∀ (t : Nat) (s : State) (a : Access) (l : List Access) (e : Nat × Nat),
      s.Calm → s.pow.cdUp = true → s.rcd.c1q = [] → s.br.c4 = a :: l → a.wr = false → a.path = .spi → s.spi.busy = some e →
      Gives (.bridgeRegisterAnswer t) s (fun u =>
        u.spi.busy = none ∧ u.spi.last.isSome = true)) ∧
  -- R16: the lower class passes first
  (∀ (t : Nat) (s : State) (c : C1) (q : List C1),
      s.Calm → s.rcd.c1q = c :: q →
      Gives (.phaseStateAck t) s (fun u =>
        u.br.c3 = s.br.c3 ∧ Changes [] [] s u)) ∧
  -- R40: an add of a phase that is not live is refused
  (∀ (t : Nat) (s : State) (q : PsReq) (l : List PsReq) (n : Fin 32),
      s.Still → s.rcd.c1q = [] → s.br.c3 = q :: l → q.op = .add → q.ph = n.val → s.live n = false → (∀ r, s.mayArm r = false) →
      Gives (.phaseStateAck t) s (fun u =>
        (u.ph n).sw = (s.ph n).sw ∧ u.br.c3 = l))

/-- Heartbeats and echoes (R18 to R20), the missing clock (R21), the watchdog restart (R24), the comparison of the phase-state word
  (R338, R339). Where a clause rests on a reading the spec leaves open, it is the model's: log entries 15, 16, 159, 160 and 161. -/
def Obligations.HeartbeatsAndCoherence : Prop :=
  -- R18
  (∀ (t : Nat) (s : State),
      s.Calm → s.pow.cdUp = true →
      Gives (.heartbeatSend t) s (fun u =>
        u.br.hbTx = (s.br.hbTx + 1) % 256 ∧ Changes [.br] [] s u)) ∧
  -- R18
  (∀ (t : Nat) (s : State) (seq : BitVec 8),
      s.Calm → s.mode ≠ .dormant → (s.br.hbExp = none ∨ s.br.hbExp = some seq.toNat) →
      Gives (.heartbeatReceive t seq) s (fun u =>
        u.get F.BRIDGE_STATUS_HB_SEQ = seq.toNat ∧ u.br.hbExp = some ((seq.toNat + 1) % 256) ∧ u.br.echo = some s.pswFront
          ∧ Changes [.br] [F.BRIDGE_STATUS_HB_SEQ] s u)) ∧
  -- R19: a heartbeat out of sequence is not valid
  (∀ (t : Nat) (s : State) (seq : BitVec 8) (e : Nat),
      s.Calm → s.br.hbExp = some e → e ≠ seq.toNat →
      Gives (.heartbeatReceive t seq) s (fun u =>
        Changes [] [] s u)) ∧
  -- R338: an echo that agrees
  (∀ (t : Nat) (s : State),
      s.Calm → s.pow.cdUp = true → s.br.c3 = [] → s.rcd.c1q = [] → s.br.echo = some s.pswMirror →
      Gives (.heartbeatEchoReceive t) s (fun u =>
        u.br.echo = none ∧ u.br.echoBad = 0 ∧ Changes [.br] [] s u)) ∧
  -- R338: a first echo that disagrees
  (∀ (t : Nat) (s : State) (c : Nat),
      s.Calm → s.pow.cdUp = true → s.br.c3 = [] → s.rcd.c1q = [] → s.br.echo = some c → c ≠ s.pswMirror → s.br.echoBad = 0 →
      Gives (.heartbeatEchoReceive t) s (fun u =>
        u.br.echo = none ∧ u.br.echoBad = 1 ∧ Changes [.br] [] s u)) ∧
  -- R339
  (∀ (t : Nat) (s : State) (n : Fin 32),
      s.Calm → s.pow.cdUp = true → (s.get F.COH_HOLD_HOLD).testBit n = true → (s.ph n).cohStuck = false →
      Gives (.coherenceRewrite t n) s (fun u =>
        u.get F.COH_HOLD_HOLD = (s.get F.COH_HOLD_HOLD - 2 ^ n.val) % 2 ^ 32 ∧ u.Records 0x0B06
          ∧ Changes [] [F.COH_HOLD_HOLD] s u)) ∧
  -- R20: 2.5 µs without a valid echo
  (∀ (t : Nat) (s : State),
      s.Calm → s.pow.cdUp = true → s.br.fdLost = false → s.br.ecAt.getD 0 + 2500 ≤ max s.now t →
      Gives (.frontDieLost t) s (fun u =>
        u.get F.BRIDGE_STATUS_HB_LOST = 1 ∧ u.br.fdLost = true ∧ u.Records 0x0102
          ∧ (u.get F.PMB_STATUS_STATUS_CML).testBit 1 = true)) ∧
  -- R21
  (∀ (t : Nat) (s : State),
      s.Calm → s.mode ≠ .dormant →
      Gives (.missingClock t) s (fun u =>
        u.br.clkLost = true ∧ u.faultN = true)) ∧
  -- R21: every PWM ball goes to tri-state
  (∀ (t : Nat) (s : State) (n : Fin 32),
      s.Still → s.mode ≠ .dormant → s.flag F.PH_STATE_ASSIGNED n = true → n.val < 32 →
      Gives (.missingClock t) s (fun u =>
        u.level n = .tri)) ∧
  -- R24
  (∀ (t : Nat) (s : State),
      s.Calm → s.coresRun = true →
      Gives (.watchdogRestart t) s (fun u =>
        u.pow.wdogAt = max s.now t ∧ Changes [.pow] [] s u))

/-- A Control-die loss in a running mode with a rail switching is T15: CARETAKER, every switching rail CARETAKEN (R84, R325, R326);
  with none switching it is T16 to WAKE (R325). Where a clause rests on a reading the spec leaves open, it is the model's: log
  entries 20, 21, 22 and 181. -/
def Obligations.LossOfTheControlDie : Prop :=
  -- R325, R326
  (∀ (t : Nat) (s : State) (c : CtCause),
      s.Still → (s.mode = .precheck ∨ s.mode = .service ∨ s.mode.running = true) →
        allRails.any (fun r => (s.st r).switching) = true → (State.at s t).lossDue c = true →
      Gives (.controlDieLost t c) s (fun u =>
        u.mode = .caretaker ∧ u.pow.cdUp = false ∧ u.get F.CT_STATUS_CT_ACT = 1
          ∧ ((∀ r, (s.st r).switching = true → u.st r = .caretaken)) ∧ u.get F.CT_STATUS_CT_CAUSE = c.code)) ∧
  -- R325: no rail switches
  (∀ (t : Nat) (s : State) (c : CtCause),
      s.Still → (s.mode = .precheck ∨ s.mode = .service ∨ s.mode.running = true) →
        allRails.any (fun r => (s.st r).switching) = false → (State.at s t).lossDue c = true →
      Gives (.controlDieLost t c) s (fun u =>
        u.mode = .wake ∧ u.pow.cdUp = false ∧ (∀ r, u.st r = .off))) ∧
  -- R19: no loss before 2.5 µs without a valid heartbeat
  (∀ (t : Nat) (s : State) (x : Nat),
      s.Calm → s.br.hbRx = some x → max s.now t < x + 2500 →
      Gives (.controlDieLost t .heartbeat) s (fun u =>
        Changes [] [] s u)) ∧
  -- R22
  (∀ (t : Nat) (s : State),
      s.Still → (s.mode = .precheck ∨ s.mode = .service ∨ s.mode.running = true) →
        allRails.any (fun r => (s.st r).switching) = true → s.coresRun = true →
      Gives (.lockstepMismatch t) s (fun u =>
        u.mode = .caretaker ∧ u.pow.cdUp = false ∧ u.get F.CT_STATUS_CT_ACT = 1
          ∧ ((∀ r, (s.st r).switching = true → u.st r = .caretaken)) ∧ u.get F.CT_STATUS_CT_CAUSE = 1)) ∧
  -- R22, R24
  (∀ (t : Nat) (s : State),
      s.Still → (s.mode = .precheck ∨ s.mode = .service ∨ s.mode.running = true) →
        allRails.any (fun r => (s.st r).switching) = true → s.coresRun = true → s.pow.wdogAt + s.pow.wdogUs * 1000 ≤ max s.now t →
      Gives (.policyWatchdogExpiry t) s (fun u =>
        u.mode = .caretaker ∧ u.pow.cdUp = false ∧ u.get F.CT_STATUS_CT_ACT = 1
          ∧ ((∀ r, (s.st r).switching = true → u.st r = .caretaken)) ∧ u.get F.CT_STATUS_CT_CAUSE = 2)) ∧
  -- R14
  (∀ (t : Nat) (s : State) (r : Fin 8),
      s.Still → (s.mode = .precheck ∨ s.mode = .service ∨ s.mode.running = true) →
        allRails.any (fun r => (s.st r).switching) = true →
      Gives (.loopPortFault t r true) s (fun u =>
        u.mode = .caretaker ∧ u.pow.cdUp = false ∧ u.get F.CT_STATUS_CT_ACT = 1
          ∧ ((∀ r, (s.st r).switching = true → u.st r = .caretaken)) ∧ u.get F.BRIDGE_STATUS_LP_FAULT = 1
          ∧ u.get F.CT_STATUS_CT_CAUSE = 4))

/-- The Pronoun update (R328), the refusals of adoption (R331, R334, R336), the restore of the engines (R335) and the end of the
  caretaking (R331, R332). Where a clause rests on a reading the spec leaves open, it is the model's: log entries 22 and 90. -/
def Obligations.CaretakingAndAdoption : Prop :=
  -- R331: adoption refused
  (∀ (t : Nat) (s : State) (r : Fin 8),
      s.Still → s.mode = .caretaker → s.pow.refused = false → s.st r = .caretaken → s.pow.ctAt + 5000000 ≤ max s.now t →
      Gives (.caretakerTimeout t) s (fun u =>
        u.get F.CT_STATUS_ADOPT_RES = 6 ∧ u.st r = .rampdown ∧ u.pow.refused = true ∧ u.pow.ctAdopt = false)) ∧
  -- R332: T19 after a device-latching fault
  (∀ (t : Nat) (s : State),
      s.Still → s.mode = .caretaker → s.pow.refused = true → (∀ r, s.st r ≠ .caretaken
        ∧ (s.st r).switching = false) → s.pow.ctFault = true →
      Gives (.caretakerStopComplete t) s (fun u =>
        u.mode = .safestop ∧ u.get F.FAULT_HOLD_FAULT_HOLD = 1 ∧ u.get F.CT_STATUS_CT_ACT = 0)) ∧
  -- R331, R332: T18
  (∀ (t : Nat) (s : State),
      s.Still → s.mode = .caretaker → s.pow.refused = true → (∀ r, s.st r ≠ .caretaken
        ∧ (s.st r).switching = false) → s.pow.ctFault = false → s.pow.ctFails = [] → s.flag F.FAULT_HOLD_FAULT_HOLD = false →
      Gives (.caretakerStopComplete t) s (fun u =>
        u.mode = .parse)) ∧
  -- R334: a retained state that fails its checks
  (∀ (t : Nat) (s : State) (r : Fin 8) (d e : Bool),
      s.Still → s.mode = .caretaker → s.pow.cdUp = false → s.flag F.SUPPLY_STATUS_VCORE_GOOD = true → s.pow.refused = false →
        (State.at s t).heldInReset = false → s.st r = .caretaken →
      Gives (.adoptionCheck t false d e) s (fun u =>
        u.pow.cdUp = true ∧ u.get F.CT_STATUS_ADOPT_RES = 1 ∧ u.st r = .rampdown)) ∧
  -- R334, R335
  (∀ (t : Nat) (s : State) (r : Fin 8),
      s.Still → s.mode = .caretaker → s.pow.cdUp = false → s.flag F.SUPPLY_STATUS_VCORE_GOOD = true → s.pow.refused = false →
        (State.at s t).heldInReset = false → s.pow.retEmpty = false → s.words8 F.CONFIG_HASH_HASH = s.pow.fdHash →
        s.words8 F.RETAIN_DIGEST_DIGEST = s.pow.fdDigest → s.pow.ctService = false → s.st r = .caretaken → (s.fr r).handed = false →
      Gives (.adoptionCheck t true true true) s (fun u =>
        u.pow.cdUp = true ∧ u.pow.ctAdopt = true ∧ u.st r = .caretaken ∧ (u.fr r).engAt = max s.now t ∧ (u.fr r).dutyGood = 0)) ∧
  -- R336
  (∀ (t : Nat) (s : State) (r q : Fin 8),
      s.Still → s.pow.ctAdopt = true → s.st r = .caretaken → (s.fr r).handed = false → (s.fr r).ls = .none →
        4 ≤ (s.fr r).dutyGood → max s.now t < s.pow.ctAt + 5000000 → (s.fr r).duty ≤ (s.fr r).dPn + 256 →
        (s.fr r).dPn ≤ (s.fr r).duty + 256 → q ≠ r → s.st q = .caretaken → (s.fr q).handed = false →
      Gives (.railHandover t r) s (fun u =>
        (u.fr r).handed = true ∧ u.st r = .caretaken)) ∧
  -- R336, R76: the last rail handed over ends the caretaking
  (∀ (t : Nat) (s : State) (r : Fin 8),
      s.Still → s.pow.ctAdopt = true → s.st r = .caretaken → (s.fr r).handed = false → (s.fr r).ls = .none →
        4 ≤ (s.fr r).dutyGood → max s.now t < s.pow.ctAt + 5000000 → (s.fr r).duty ≤ (s.fr r).dPn + 256 →
        (s.fr r).dPn ≤ (s.fr r).duty + 256 → (∀ q, q ≠ r → s.st q ≠ .caretaken) →
      Gives (.railHandover t r) s (fun u =>
        u.get F.CT_STATUS_CT_ACT = 0 ∧ u.pow.ctAdopt = false ∧ u.Records 0x0B02 ∧ u.mode ≠ .caretaker)) ∧
  -- R336
  (∀ (t : Nat) (s : State) (r : Fin 8),
      s.Still → s.pow.ctAdopt = true → s.pow.refused = false → s.st r = .caretaken → (s.fr r).handed = false →
        (s.fr r).ls = .none → (s.fr r).engAt + 20000 ≤ max s.now t →
      Gives (.adoptionHandoverTimeout t r) s (fun u =>
        u.get F.CT_STATUS_ADOPT_RES = 5 ∧ u.st r = .rampdown ∧ u.pow.ctAdopt = false)) ∧
  -- R328: with the engine driving, the loop tracks it
  (∀ (t : Nat) (s : State) (r : Fin 8),
      s.Calm → s.mode ≠ .dormant → s.mode ≠ .wake → s.mode ≠ .caretaker → s.drives r = true →
      Gives (.pronounUpdate t r) s (fun u =>
        (u.fr r).dPn = u.get F.PN_MON_PN_DUTY r ∧ u.get F.PN_MON_TRACK r = b2n (s.engineDrives r && (s.fr r).newWord)
          ∧ (u.fr r).newWord = false ∧ (u.fr r).duty = (s.fr r).duty)) ∧
  -- R328, R330: a held rail takes the duty of the loop
  (∀ (t : Nat) (s : State) (r : Fin 8),
      s.Calm → s.mode = .caretaker → s.st r = .caretaken → (s.fr r).handed = false →
      Gives (.pronounUpdate t r) s (fun u =>
        (u.fr r).dPn = u.get F.PN_MON_PN_DUTY r ∧ u.get F.PN_MON_TRACK r = 0
          ∧ ((s.copy F.DUTY_LIM_DUTY_MIN r ≤ s.copy F.DUTY_LIM_DUTY_MAX r → (u.fr r).dPn ≤ s.copy F.DUTY_LIM_DUTY_MAX r))))

/-- What the supply monitors and the strap readings do (R44, R45, R49, R53, R55, R519). Where a clause rests on a reading the spec
  leaves open, it is the model's: log entries 13, 23, 25, 28 and 182. -/
def Obligations.SuppliesAndStraps : Prop :=
  -- R44
  (∀ (t : Nat) (s : State),
      s.Calm →
      Gives (.supplyGood t .vaon) s (fun u =>
        u.get F.SUPPLY_STATUS_VAON_GOOD = 1 ∧ Changes [] [F.SUPPLY_STATUS_VAON_GOOD] s u)) ∧
  -- R44
  (∀ (t : Nat) (s : State),
      s.Calm →
      Gives (.supplyGood t .vdd33) s (fun u =>
        u.get F.SUPPLY_STATUS_VDD33_GOOD = 1)) ∧
  -- R46: the Aedat pads need VDD33
  (∀ (t : Nat) (s : State),
      s.Calm → s.mode ≠ .dormant →
      Gives (.supplyGood t .alIo) s (fun u =>
        (u.get F.SUPPLY_STATUS_AL_IO_GOOD = if s.flag F.SUPPLY_STATUS_VDD33_GOOD then 1 else s.get F.SUPPLY_STATUS_AL_IO_GOOD))) ∧
  -- R44, R519
  (∀ (t : Nat) (s : State),
      s.Calm → s.mode ≠ .dormant →
      Gives (.supplyGood t .vcore) s (fun u =>
        u.get F.SUPPLY_STATUS_VCORE_GOOD = 1 ∧ u.pow.buckTry = 0)) ∧
  -- R45
  (∀ (t : Nat) (s : State) (mv : Nat),
      s.Calm → s.pow.vddioSel = false → 2900 ≤ mv →
      Gives (.vddioModeSelect t mv) s (fun u =>
        u.get F.SUPPLY_STATUS_VDDIO_GOOD = 1 ∧ u.get F.SUPPLY_STATUS_VDDIO_MODE = 1 ∧ u.pow.vddioSel = true
          ∧ Changes [.pow] [F.SUPPLY_STATUS_VDDIO_GOOD, F.SUPPLY_STATUS_VDDIO_MODE] s u)) ∧
  -- R45
  (∀ (t : Nat) (s : State) (mv : Nat),
      s.Calm → s.pow.vddioSel = false → 1600 ≤ mv → mv ≤ 1980 →
      Gives (.vddioModeSelect t mv) s (fun u =>
        u.get F.SUPPLY_STATUS_VDDIO_GOOD = 1 ∧ u.get F.SUPPLY_STATUS_VDDIO_MODE = 0 ∧ u.pow.vddioSel = true)) ∧
  -- R45: neither mode
  (∀ (t : Nat) (s : State) (mv : Nat),
      s.Calm → s.pow.vddioSel = false → (mv < 1600 ∨ (1980 < mv ∧ mv < 2900)) →
      Gives (.vddioModeSelect t mv) s (fun u =>
        u.get F.SUPPLY_STATUS_VDDIO_GOOD = 0 ∧ Changes [] [F.SUPPLY_STATUS_VDDIO_GOOD] s u)) ∧
  -- R49: T1, the nonvolatile cells apart
  (∀ (t : Nat) (s : State),
      True →
      Gives (.vaonPowerOnReset t) s (fun u =>
        u.mode = .dormant ∧ u.pow.cdUp = false ∧ u.otp = s.otp ∧ u.jrn.mram = s.jrn.mram ∧ u.cz1604 = s.cz1604
          ∧ ((∀ r, u.st r = .off)) ∧ u.rcd.recs = [])) ∧
  -- R49
  (∀ (t : Nat) (s : State),
      s.Still → s.flag F.SUPPLY_STATUS_VDD33_GOOD = true → (s.mode = .regulate ∨ s.mode = .service) →
      Gives (.vdd33Loss t) s (fun u =>
        u.get F.SUPPLY_STATUS_VDD33_GOOD = 0 ∧ u.get F.SUPPLY_STATUS_VDD33_LOSS = 1 ∧ u.get F.SUPPLY_STATUS_AL_IO_GOOD = 0
          ∧ u.pow.vddActs = true ∧ u.faultN = true ∧ ((∀ r, (s.st r).switching = true → u.st r = .off)))) ∧
  -- R49, R519: the Control die is lost with VCORE
  (∀ (t : Nat) (s : State),
      s.Still → s.flag F.SUPPLY_STATUS_VCORE_GOOD = true → s.flag F.SUPPLY_STATUS_VDD33_GOOD = true →
        (s.mode = .precheck ∨ s.mode = .service ∨ s.mode.running = true) → allRails.any (fun r => (s.st r).switching) = true →
      Gives (.vcoreLoss t) s (fun u =>
        u.mode = .caretaker ∧ u.pow.cdUp = false ∧ u.get F.CT_STATUS_CT_ACT = 1
          ∧ ((∀ r, (s.st r).switching = true → u.st r = .caretaken)) ∧ u.get F.SUPPLY_STATUS_VCORE_GOOD = 0
          ∧ u.get F.SUPPLY_STATUS_VCORE_LOSS = 1 ∧ u.get F.CT_STATUS_CT_CAUSE = 5 ∧ u.pow.buckTry = 1)) ∧
  -- R519
  (∀ (t : Nat) (s : State),
      s.Calm → s.pow.buckTry ≠ 0 → s.flag F.SUPPLY_STATUS_VDD33_GOOD = true → s.flag F.SUPPLY_STATUS_VCORE_GOOD = false →
        s.pow.buckAt + (if s.pow.buckTry = 1 then 100000 else 10000000) ≤ max s.now t →
      Gives (.coreBuckRestart t) s (fun u =>
        u.pow.buckTry = s.pow.buckTry + 1 ∧ Changes [.pow] [] s u)) ∧
  -- R49: rails keep running
  (∀ (t : Nat) (s : State),
      s.Calm → s.flag F.SUPPLY_STATUS_VDDIO_GOOD = true → s.mode = .regulate →
      Gives (.vddioLoss t) s (fun u =>
        u.get F.SUPPLY_STATUS_VDDIO_GOOD = 0 ∧ u.get F.SUPPLY_STATUS_VDDIO_LOSS = 1 ∧ u.sec.tapMode = 0
          ∧ Changes [.pow, .sec, .rcd] [F.SUPPLY_STATUS_VDDIO_GOOD, F.SUPPLY_STATUS_VDDIO_LOSS] s u)) ∧
  -- R53: two readings that agree
  (∀ (t : Nat) (s : State) (i : Fin 5) (a e c : Nat),
      s.Calm → s.mode = .wake → s.pow.strapDone = [false, false, false, false, false] → strapCode a = some c →
        strapCode e = some c →
      Gives (.strapRead t i a e) s (fun u =>
        u.get (strapField i.val) = c ∧ u.pow.strapDone = s.pow.strapDone.set i.val true)) ∧
  -- R53, R55: the fourth pair without agreement
  (∀ (t : Nat) (s : State) (i : Fin 5) (a e : Nat),
      s.Calm → s.mode = .wake → s.pow.strapDone = [false, false, false, false, false] → s.pow.strapPairs = [3, 3, 3, 3, 3] →
        strapCode a = none →
      Gives (.strapRead t i a e) s (fun u =>
        u.get (strapField i.val) = strapDefault i.val ∧ (u.get F.STRAP_STATUS_STRAP_BAD).testBit i.val = true))

/-- Wake events (R65 to R68), the ends of WAKE (R74), RESET_N (R79), the orderly shutdown and DORMANT (R78), and the clear of
  SAFESTOP (R80). Where a clause rests on a reading the spec leaves open, it is the model's: log entries 24, 29 and 163. -/
def Obligations.WakeAndDormancy : Prop :=
  -- R65
  (∀ (t : Nat) (s : State),
      s.Calm →
      Gives (.lfoscStart t) s (fun u =>
        u.get F.CLK_STATUS_LFOSC_OK = 1 ∧ u.pow.lfosc = true ∧ Changes [.pow] [F.CLK_STATUS_LFOSC_OK] s u)) ∧
  -- R67: a wake event in DORMANT
  (∀ (t : Nat) (s : State),
      s.Calm → s.pow.lfosc = true → s.mode = .dormant →
      Gives (.wakeBallRise t) s (fun u =>
        u.get F.MODE_STATUS_WAKE_PEND = 1 ∧ u.pow.wakePend = s.pow.wakePend ||| 1 ∧ u.pow.ballWake = true
          ∧ Changes [.pow] [F.MODE_STATUS_WAKE_PEND] s u)) ∧
  -- R68: a timer or VDD33 wake counts as a WAKE-ball wake
  (∀ (t : Nat) (s : State),
      s.Calm → s.pow.lfosc = true → s.mode = .regulate → s.flag F.MODE_STATUS_SHUTDOWN_ACT = false → s.pow.vddActs = false →
        s.timedWake = true →
      Gives (.wakeBallRise t) s (fun u =>
        u.get F.MODE_STATUS_WAKE_SRC = 1 ∧ u.pow.ballWake = true)) ∧
  -- R67, R78
  (∀ (t : Nat) (s : State),
      s.Calm → s.mode ≠ .dormant → s.mode ≠ .safestop → s.timedWake = false →
      Gives (.wakeBallLow t) s (fun u =>
        u.get F.MODE_STATUS_SHUTDOWN_ACT = 1 ∧ u.pow.ballWake = false)) ∧
  -- R66
  (∀ (t : Nat) (s : State),
      s.Calm → s.mode = .dormant → s.pow.lfosc = true → s.flag F.WAKE_CTRL_TIMER_EN = true → s.get F.WAKE_CTRL_WAKE_PERIOD ≠ 0 →
        s.pow.dormEntry + s.get F.WAKE_CTRL_WAKE_PERIOD * 950000000 ≤ max s.now t →
      Gives (.wakeTimerExpiry t) s (fun u =>
        u.get F.MODE_STATUS_WAKE_PEND = 1 ∧ u.pow.wakePend = s.pow.wakePend ||| 2 ∧ Changes [.pow] [F.MODE_STATUS_WAKE_PEND] s u)) ∧
  -- R66: T2
  (∀ (t : Nat) (s : State),
      s.Still → s.mode = .dormant → s.pow.lfosc = true → s.pow.wakePend ≠ 0 → s.flag F.SUPPLY_STATUS_VDD33_GOOD = true →
        s.pow.wakePend < 8 →
      Gives (.wakeEventAccept t) s (fun u =>
        u.mode = .wake ∧ u.get F.MODE_STATUS_WAKE_SRC = s.pow.wakePend ∧ u.pow.wakePend = 0 ∧ u.pow.strapsLatched = false
          ∧ u.pow.ballWake = false ∧ u.pow.resetN = true ∧ ((∀ n : Fin 32, u.get F.PWM_STATUS_TFLT_FAULT n = 1))
          ∧ u.rcd.recs = [])) ∧
  -- R66: without VDD33 the event stays pending
  (∀ (t : Nat) (s : State),
      s.Calm → s.mode = .dormant → s.pow.lfosc = true → s.pow.wakePend ≠ 0 → s.flag F.SUPPLY_STATUS_VDD33_GOOD = false →
      Gives (.wakeEventAccept t) s (fun u =>
        Changes [] [] s u ∧ u.pow.wakePend = s.pow.wakePend)) ∧
  -- R68
  (∀ (t : Nat) (s : State),
      s.Calm → s.timedWake = true → s.pow.ballWake = false → s.mode ≠ .dormant → s.pow.dormExit + 60000000000 ≤ max s.now t →
      Gives (.timedWakeLimit t) s (fun u =>
        u.get F.MODE_STATUS_SHUTDOWN_ACT = 1)) ∧
  -- R68: SLEEP_REQ ends a timed wake
  (∀ (t : Nat) (s : State),
      s.Calm → s.timedWake = true → s.mode = .regulate → s.AsP2 →
      Gives (.sleepReq t .spi) s (fun u =>
        u.get F.MODE_STATUS_SHUTDOWN_ACT = 1)) ∧
  -- R74: T3
  (∀ (t : Nat) (s : State),
      s.Still → s.mode = .wake → s.flag F.SUPPLY_STATUS_VDD33_GOOD = true → s.flag F.SUPPLY_STATUS_VCORE_GOOD = true →
        s.pow.strapsLatched = true → s.pow.resetN = false → s.flag F.FAULT_HOLD_FAULT_HOLD = false →
      Gives (.wakeComplete t) s (fun u =>
        u.mode = .parse ∧ u.pow.cdUp = true ∧ u.get F.CLK_STATUS_FPLL_LOCK = 1 ∧ u.get F.CLK_STATUS_CPLL_LOCK = 1
          ∧ u.get F.BRIDGE_STATUS_LINK_UP = 1 ∧ ((∀ r, u.st r ≠ .latched)))) ∧
  -- R74: T4
  (∀ (t : Nat) (s : State),
      s.Still → s.mode = .wake → s.pow.resetN = false → max s.pow.wakeAt s.pow.relAt + 5000000 ≤ s.now →
      Gives (.wakeTimeout t) s (fun u =>
        u.mode = .dormant ∧ u.get F.MODE_STATUS_WAKE_FAIL_CNT = min 15 (s.get F.MODE_STATUS_WAKE_FAIL_CNT + 1)
          ∧ u.pow.cdUp = false)) ∧
  -- R79: T25
  (∀ (t : Nat) (s : State),
      s.Still → s.mode ≠ .dormant →
      Gives (.resetNAssert t) s (fun u =>
        u.mode = .wake ∧ u.pow.resetN = true ∧ u.pow.cdUp = false ∧ ((∀ r, u.st r = .off)) ∧ u.rcd.recs = [] ∧ u.faultN = true)) ∧
  -- R79
  (∀ (t : Nat) (s : State),
      s.Calm →
      Gives (.resetNRelease t) s (fun u =>
        u.pow.resetN = false ∧ Changes [.pow] [] s u)) ∧
  -- R66: VDD33 good again on the way to DORMANT is a wake event
  (∀ (t : Nat) (s : State),
      s.Calm → s.pow.lfosc = true → s.flag F.WAKE_CTRL_VDD33_AUTO = true → (s.mode = .dormant ∨ s.flag F.MODE_STATUS_SHUTDOWN_ACT =
        true ∨ s.pow.vddActs = true) →
      Gives (.supplyGood t .vdd33) s (fun u =>
        u.get F.MODE_STATUS_WAKE_PEND = 1 ∧ u.pow.wakePend = s.pow.wakePend ||| 4)) ∧
  -- R74, R77: T26 once the journal is idle
  (∀ (t : Nat) (s : State),
      s.Still → s.mode ≠ .dormant → s.pow.vddActs = true → s.journalIdle = true →
      Gives (.dormantEntry t) s (fun u =>
        u.mode = .dormant ∧ u.get F.MODE_STATUS_LAST_TRANS = 26 ∧ ((∀ r, u.st r = .off))
          ∧ ((∀ n : Fin 32, s.flag F.PH_STATE_ASSIGNED n = true → u.level n = .tri)))) ∧
  -- R78: T22
  (∀ (t : Nat) (s : State),
      s.Still → s.mode = .safestop → s.flag F.MODE_STATUS_SHUTDOWN_ACT = true → s.pow.vddActs = false → s.pow.ballWake = false →
        s.timedWake = false → (∀ r, s.st r ≠ .caretaken ∧ (s.st r).switching = false) → s.journalIdle = true →
      Gives (.dormantEntry t) s (fun u =>
        u.mode = .dormant ∧ u.get F.MODE_STATUS_LAST_TRANS = 22)) ∧
  -- R78: T20
  (∀ (t : Nat) (s : State),
      s.Still → (s.mode = .regulate ∨ s.mode = .service) → s.flag F.MODE_STATUS_SHUTDOWN_ACT = true → s.pow.vddActs = false →
        (∀ r, s.st r ≠ .caretaken ∧ (s.st r).switching = false) → s.journalIdle = true →
      Gives (.dormantEntry t) s (fun u =>
        u.mode = .dormant ∧ u.get F.MODE_STATUS_LAST_TRANS = 20 ∧ u.get F.MODE_STATUS_SHUTDOWN_ACT = 0 ∧ u.pow.cdUp = false)) ∧
  -- R80: no device-latching condition is present, T21
  (∀ (t : Nat) (s : State),
      s.Still → s.mode = .safestop → s.AsP2 → s.dlPresent = false → (∀ r, s.st r ≠ .rampdown) →
      Gives (.safestopClr t .spi) s (fun u =>
        u.mode = .parse ∧ u.get F.FAULT_HOLD_FAULT_HOLD = 0 ∧ ((∀ r, u.st r ≠ .latched)))) ∧
  -- R80: a condition that is still present, the request lapses
  (∀ (t : Nat) (s : State),
      s.Still → s.mode = .safestop → s.AsP2 → s.dlPresent = true → (∀ r, s.st r ≠ .rampdown) →
      Gives (.safestopClr t .spi) s (fun u =>
        u.mode = .safestop ∧ u.pow.wantSafestopClr = false))

/-- The reference and the PLLs (R69, R70, R72), the region enables (R81, R520) and the arbitration of a region (R31). Where a
  clause rests on a reading the spec leaves open, it is the model's: log entries 26, 27 and 188. -/
def Obligations.ClocksAndRegions : Prop :=
  -- R69
  (∀ (t : Nat) (s : State),
      s.Calm → s.mode = .wake → s.pow.wakeAt + 1500000 ≤ max s.now t → s.flag F.CLK_STATUS_XTAL_OK = false →
        s.flag F.CLK_STATUS_BACKUP_ACTIVE = false →
      Gives (.xtalStartTimeout t) s (fun u =>
        u.get F.CLK_STATUS_XTAL_FAIL = 1 ∧ u.get F.CLK_STATUS_BACKUP_ACTIVE = 1
          ∧ Changes [.rcd] [F.CLK_STATUS_XTAL_FAIL, F.CLK_STATUS_BACKUP_ACTIVE] s u)) ∧
  -- R70
  (∀ (t : Nat) (s : State) (d : Bool),
      s.Calm → s.awake = true → s.par.xtalReq = false → s.flag F.CLK_STATUS_BACKUP_ACTIVE = false →
      Gives (.refClockFail t d) s (fun u =>
        u.get F.CLK_STATUS_XTAL_FAIL = 1 ∧ u.get F.CLK_STATUS_BACKUP_ACTIVE = 1 ∧ u.get F.CLK_STATUS_CLK_SRC_SWITCH = 1
          ∧ u.get F.CLK_STATUS_XTAL_OK = 0 ∧ Changes [.rcd] [F.CLK_STATUS_XTAL_FAIL, F.CLK_STATUS_CLK_SRC_SWITCH,
          F.CLK_STATUS_BACKUP_ACTIVE, F.CLK_STATUS_XTAL_OK] s u)) ∧
  -- R71: a crystal that the profile requires, after PARSE
  (∀ (t : Nat) (s : State) (d : Bool),
      s.Still → (s.mode = .precheck ∨ s.mode = .service ∨ s.mode.running = true) → s.par.xtalReq = true →
        s.flag F.CLK_STATUS_BACKUP_ACTIVE = false →
      Gives (.refClockFail t d) s (fun u =>
        u.get F.CLK_STATUS_XTAL_FAIL = 1 ∧ u.get F.CLK_STATUS_BACKUP_ACTIVE = 1 ∧ u.mode = .safestop
          ∧ u.get F.PROT_STATUS_DL_CAUSE = 4)) ∧
  -- R72: within ±4 %
  (∀ (t : Nat) (s : State) (p : Pll) (e : Int),
      s.Calm → s.mode ≠ .dormant → -400 ≤ e → e ≤ 400 →
      Gives (.pllUnlock t p e) s (fun u =>
        u.get (lockField p) = 0 ∧ u.get F.CLK_STATUS_PLL_UNLOCK = 1 ∧ Changes [.rcd, .pow] [lockField p, F.CLK_STATUS_PLL_UNLOCK] s
          u)) ∧
  -- R72: beyond, device-latching fault 0x5
  (∀ (t : Nat) (s : State) (p : Pll) (e : Int),
      s.Still → (s.mode = .precheck ∨ s.mode = .service ∨ s.mode.running = true) → (e < -400 ∨ 400 < e) →
      Gives (.pllUnlock t p e) s (fun u =>
        u.mode = .safestop ∧ u.get F.PROT_STATUS_DL_CAUSE = 5 ∧ u.get F.FAULT_HOLD_FAULT_HOLD = 1 ∧ u.pow.fpllOff = true
          ∧ ((∀ r, (s.st r).switching = true → u.st r = .off)))) ∧
  -- R72, R290: beyond in WAKE, the fault is kept
  (∀ (t : Nat) (s : State) (p : Pll) (e : Int),
      s.Still → s.mode = .wake → (e < -400 ∨ 400 < e) →
      Gives (.pllUnlock t p e) s (fun u =>
        u.mode = .wake ∧ u.get F.PROT_STATUS_DL_CAUSE = 5 ∧ u.get F.FAULT_HOLD_FAULT_HOLD = 1 ∧ u.pow.fpllOff = true)) ∧
  -- R72
  (∀ (t : Nat) (s : State) (p : Pll) (e : Int),
      s.Calm → s.mode ≠ .dormant → s.pow.pllLost.testBit (pllNo p) = true → -400 ≤ e → e ≤ 400 →
      Gives (.pllRelock t p e) s (fun u =>
        u.get (lockField p) = 1 ∧ u.pow.pllLost.testBit (pllNo p) = false ∧ Changes [.rcd, .pow] [lockField p] s u)) ∧
  -- R520: switching rails stop in order
  (∀ (t : Nat) (s : State) (m : Fin 4) (r : Fin 8),
      s.Calm → s.regionOf r = m → (s.cfg r).present = true →
      Gives (.regionEnableOff t m) s (fun u =>
        u.pow.en[m] = false ∧ u.get F.RP_STATUS_PRE_HOLD r = 0)) ∧
  -- R520: a rail in HICCUP or ARMED becomes OFF
  (∀ (t : Nat) (s : State) (m : Fin 4) (r : Fin 8),
      s.Still → s.regionOf r = m → (s.cfg r).present = true → (s.st r = .hiccup ∨ s.st r = .armed) →
      Gives (.regionEnableOff t m) s (fun u =>
        u.st r = .off ∧ u.get F.SEN_CFG_SEN_STATE r = 0)) ∧
  -- R81: an enabled rail arms
  (∀ (t : Nat) (s : State) (m : Fin 4) (r : Fin 8),
      s.Still → s.regionOf r = m → (s.cfg r).present = true → (s.cfg r).enabled = true → s.st r = .off →
        s.flag F.RP_STATUS_PRE_HOLD r = false → s.flag F.MODE_STATUS_SHUTDOWN_ACT = false → s.pow.noArm = false →
        s.pow.vddActs = false → s.cj.refused = false → (s.mode = .precheck ∨ s.mode = .service ∨ s.mode.running = true) →
      Gives (.regionEnableOn t m) s (fun u =>
        u.pow.en[m] = true ∧ u.st r = .armed ∧ u.get F.SEN_CFG_SEN_STATE r = 1)) ∧
  -- R81: the enable reads on outside DORMANT
  (∀ (t : Nat) (s : State) (m : Fin 4),
      s.Calm → s.mode ≠ .dormant →
      Gives (.regionEnableOn t m) s (fun u =>
        u.pow.en[m] = true)) ∧
  -- R520: a rail in RAMP, REG or SHED joins the ordered stop
  (∀ (t : Nat) (s : State) (m : Fin 4) (r : Fin 8),
      s.Calm → s.regionOf r = m → (s.cfg r).present = true → (s.st r = .ramp ∨ s.st r = .reg ∨ s.st r = .shed) →
        s.flag F.CJ_CFG_CJ_EN = false → (∀ q, q ≠ r → s.st q = .off ∨ s.st q = .latched) → s.pow.stopSet = 0 →
      Gives (.regionEnableOff t m) s (fun u =>
        u.st r = .rampdown)) ∧
  -- R31, R187: the estimate is published
  (∀ (t : Nat) (s : State) (m : Fin 4),
      s.Calm → s.pow.cdUp = true → s.regionHeld m = false →
      Gives (.regionArbitration t m) s (fun u =>
        u.getI F.RGN_BUDGET_I_EST m = satS 16 (u.regionEst m) ∧ ((∀ n, (s.ph n).sw ≠ .adding → (u.ph n).rsv = 0)))) ∧
  -- R32: no request of the region, nothing granted
  (∀ (t : Nat) (s : State) (m : Fin 4),
      s.Calm → s.pow.cdUp = true → s.regionHeld m = false → (∀ r : Fin 8, s.flag F.PHC_STATUS_ADD_PEND r = false) →
        (∀ q ∈ s.br.c3, s.void q = false) →
      Gives (.regionArbitration t m) s (fun u =>
        u.br.c3 = s.br.c3 ∧ Changes [.phases] [F.RGN_BUDGET_I_EST] s u)) ∧
  -- R31, R32, R181: a request within the budget is granted
  (∀ (t : Nat) (s : State) (m : Fin 4) (r : Fin 8) (n : Fin 32),
      s.Calm → s.pow.cdUp = true → s.regionHeld m = false → s.served m = [r] → s.br.c3 = [] → (∀ x, (s.ph x).rsv = 0) →
        s.flag F.PHC_STATUS_ADD_PEND r = true → s.hints r = [] → (s.eng r).addWant = 1 → s.freeIdle r = [n] →
        s.regionEst m + (s.eng r).addCost ≤ s.get F.RGN_BUDGET_IN_BUDGET m →
      Gives (.regionArbitration t m) s (fun u =>
        u.br.c3 = [⟨.add, n.val, (s.eng r).addCost, (s.eng r).addWhy⟩] ∧ u.get F.PHC_STATUS_ADD_PEND r = 0
          ∧ (u.eng r).addWant = 0)) ∧
  -- R32, R187: one beyond the budget waits
  (∀ (t : Nat) (s : State) (m : Fin 4) (r : Fin 8) (n : Fin 32),
      s.Calm → s.pow.cdUp = true → s.regionHeld m = false → s.served m = [r] → s.br.c3 = [] → (∀ x, (s.ph x).rsv = 0) →
        s.flag F.PHC_STATUS_ADD_PEND r = true → s.hints r = [] → (s.eng r).addWant = 1 → s.freeIdle r = [n] →
        s.get F.RGN_BUDGET_IN_BUDGET m < s.regionEst m + (s.eng r).addCost →
      Gives (.regionArbitration t m) s (fun u =>
        u.br.c3 = [] ∧ u.get F.PHC_STATUS_ADD_PEND r = 1 ∧ ((s.rcd.wins = [] → u.Records 0x0608))))

/-- NOR discovery (R103, R104), the headers (R93, R106), failed reads (R108) and the verdict on a copy (R102, R106). The operand of
  a read is what the device read. Where a clause rests on a reading the spec leaves open, it is the model's: log entries 32 to 37,
  164, 165 and 187. -/
def Obligations.ParserChoosesACopy : Prop :=
  -- R103, R104: a NOR with SFDP
  (∀ (t : Nat) (s : State) (d : BitVec 5) (x : Sfdp) (q : Bool),
      s.Calm → s.mode = .parse → s.pow.cdUp = true → s.par.source = 0 → s.par.stopped = false → s.norMode ≠ 3 →
        s.par.discovered = false → s.flag F.SUPPLY_STATUS_VDDIO_GOOD = true → 2 ≤ d.toNat → d.toNat ≤ 6 →
      Gives (.norDiscovery t true d x q) s (fun u =>
        u.par.discovered = true ∧ u.get F.IMAGE_INFO_NOR_DENSITY = d.toNat ∧ u.par.table = some x
          ∧ u.par.quad = (quadOk x q && decide (s.norMode < 2)) ∧ u.par.read = s.norRead (some x) q
          ∧ u.par.issued = norOpening ++ (if s.norMode < 2 then quadEnable x q else [])
          ∧ ((quadOk x q = false → s.norMode < 2 → u.get F.PARSE_STATUS_QE_FALLBACK = 1 ∧ u.Records 0x0406))
          ∧ Changes [.par, .rcd] [F.IMAGE_INFO_NOR_DENSITY, F.PARSE_STATUS_QE_FALLBACK] s u)) ∧
  -- R103: without the SFDP signature, single reads
  (∀ (t : Nat) (s : State) (d : BitVec 5) (x : Sfdp) (q : Bool),
      s.Calm → s.mode = .parse → s.pow.cdUp = true → s.par.source = 0 → s.par.stopped = false → s.norMode ≠ 3 →
        s.par.discovered = false → s.flag F.SUPPLY_STATUS_VDDIO_GOOD = true →
      Gives (.norDiscovery t false d x q) s (fun u =>
        u.par.discovered = true ∧ u.get F.IMAGE_INFO_NOR_DENSITY = 0 ∧ u.par.sfdp = false ∧ u.par.quad = false
          ∧ u.par.read = ⟨0x03, none, 0, 1, 25000⟩ ∧ Changes [.par, .rcd] [F.IMAGE_INFO_NOR_DENSITY] s u)) ∧
  -- R103: a density that is not served, T6
  (∀ (t : Nat) (s : State) (d : BitVec 5) (x : Sfdp) (q : Bool),
      s.Still → s.Calm → s.mode = .parse → s.pow.cdUp = true → s.par.source = 0 → s.par.stopped = false → s.norMode ≠ 3 →
        s.par.discovered = false → s.flag F.SUPPLY_STATUS_VDDIO_GOOD = true → (d.toNat < 2 ∨ 6 < d.toNat) →
      Gives (.norDiscovery t true d x q) s (fun u =>
        u.mode = .safestop ∧ u.get F.MODE_STATUS_LAST_TRANS = 6 ∧ u.Records 0x0404)) ∧
  -- R106: the copy of the larger IMAGE_SEQ is read first
  (∀ (t : Nat) (s : State) (x y : List Byte),
      s.Calm → s.mode = .parse → s.pow.cdUp = true → s.par.source = 0 → s.par.stopped = false → s.norMode ≠ 3 →
        s.par.discovered = true → s.par.first = 0 → s.par.waiting = false → s.flag F.SUPPLY_STATUS_VDDIO_GOOD = true →
        s.par.sfdp = true → hdrResult s.part s.otp.rollback s.lenLimit x = 0 → hdrResult s.part s.otp.rollback s.lenLimit y = 0 →
        s.get F.PARSE_STATUS_A_RESULT = 0 → s.get F.PARSE_STATUS_B_RESULT = 0 →
      Gives (.imageHeadersRead t x y) s (fun u =>
        u.par.reading = (if (hdrOf x).seq < (hdrOf y).seq then 2 else 1) ∧ u.par.both = true
          ∧ u.par.issued = [s.readAt (if (hdrOf x).seq < (hdrOf y).seq then 2 else 1)]
          ∧ u.get F.PARSE_STATUS_SOURCE = s.get F.PARSE_STATUS_SOURCE ∧ Changes [.par] [] s u)) ∧
  -- R106, R115: both blank, the strap profile
  (∀ (t : Nat) (s : State) (x y : List Byte),
      s.Calm → s.mode = .parse → s.pow.cdUp = true → s.par.source = 0 → s.par.stopped = false → s.norMode ≠ 3 →
        s.par.discovered = true → s.par.first = 0 → s.par.waiting = false → s.flag F.SUPPLY_STATUS_VDDIO_GOOD = true →
        s.par.sfdp = true → hdrResult s.part s.otp.rollback s.lenLimit x = 2 → hdrResult s.part s.otp.rollback s.lenLimit y = 2 →
      Gives (.imageHeadersRead t x y) s (fun u =>
        u.par.source = 3 ∧ u.get F.PARSE_STATUS_A_RESULT = 2 ∧ u.get F.PARSE_STATUS_B_RESULT = 2 ∧ u.Records 0x0403)) ∧
  -- R105: no NOR, the strap profile
  (∀ (t : Nat) (s : State) (x y : List Byte),
      s.Calm → s.mode = .parse → s.pow.cdUp = true → s.par.source = 0 → s.par.stopped = false → s.norMode ≠ 3 →
        s.par.discovered = true → s.par.first = 0 → s.par.waiting = false → s.flag F.SUPPLY_STATUS_VDDIO_GOOD = true →
        s.par.sfdp = false → (allAre 0 x = true ∨ allAre 0xFF x = true) → (allAre 0 y = true ∨ allAre 0xFF y = true) →
      Gives (.imageHeadersRead t x y) s (fun u =>
        u.par.source = 3 ∧ u.get F.PARSE_STATUS_A_RESULT = 2 ∧ u.get F.PARSE_STATUS_B_RESULT = 2 ∧ u.Records 0x0403)) ∧
  -- R93, R106: neither copy can be applied, T6
  (∀ (t : Nat) (s : State) (x y : List Byte),
      s.Still → s.Calm → s.mode = .parse → s.pow.cdUp = true → s.par.source = 0 → s.par.stopped = false → s.norMode ≠ 3 →
        s.par.discovered = true → s.par.first = 0 → s.par.waiting = false → s.flag F.SUPPLY_STATUS_VDDIO_GOOD = true →
        s.par.sfdp = true → s.get F.PARSE_STATUS_A_RESULT = 0 → s.get F.PARSE_STATUS_B_RESULT = 0 →
        3 ≤ hdrResult s.part s.otp.rollback s.lenLimit x → 3 ≤ hdrResult s.part s.otp.rollback s.lenLimit y →
      Gives (.imageHeadersRead t x y) s (fun u =>
        u.mode = .safestop ∧ u.get F.MODE_STATUS_LAST_TRANS = 6 ∧ u.get F.PARSE_STATUS_A_RESULT = hdrResult s.part s.otp.rollback
          s.lenLimit x ∧ u.Records 0x0401 ∧ u.Records 0x0404)) ∧
  -- R108: a restart, at most two in one PARSE
  (∀ (t : Nat) (s : State),
      s.Calm → s.mode = .parse → s.pow.cdUp = true → s.par.source = 0 → s.par.stopped = false → s.norMode ≠ 3 →
        s.par.waiting = false → s.get F.PARSE_STATUS_READ_RETRY < 2 →
      Gives (.norReadFail t) s (fun u =>
        u.get F.PARSE_STATUS_READ_RETRY = s.get F.PARSE_STATUS_READ_RETRY + 1 ∧ u.par.discovered = false ∧ u.par.reading = 0
          ∧ u.par.waiting = !s.flag F.SUPPLY_STATUS_VDDIO_GOOD ∧ u.Records 0x0405)) ∧
  -- R108: the third failure
  (∀ (t : Nat) (s : State),
      s.Still → s.Calm → s.mode = .parse → s.pow.cdUp = true → s.par.source = 0 → s.par.stopped = false → s.norMode ≠ 3 →
        s.par.waiting = false → s.get F.PARSE_STATUS_READ_RETRY = 2 →
      Gives (.norReadFail t) s (fun u =>
        u.mode = .safestop ∧ u.get F.MODE_STATUS_LAST_TRANS = 6 ∧ u.Records 0x0404)) ∧
  -- R108: VDDIO not good 50 ms into the wait
  (∀ (t : Nat) (s : State),
      s.Still → s.Calm → s.mode = .parse → s.pow.cdUp = true → s.par.source = 0 → s.par.stopped = false → s.norMode ≠ 3 →
        s.par.waiting = true → s.flag F.SUPPLY_STATUS_VDDIO_GOOD = false → s.par.waitAt + 50000000 ≤ max s.now t →
      Gives (.norVddioWaitTimeout t) s (fun u =>
        u.mode = .safestop ∧ (u.get F.PARSE_STATUS_A_RESULT = 0xA ∨ u.get F.PARSE_STATUS_B_RESULT = 0xA) ∧ u.par.source = 0)) ∧
  -- R102, R106: every check passes
  (∀ (t : Nat) (s : State) (c : List Byte),
      s.Calm → s.mode = .parse → s.pow.cdUp = true → s.par.source = 0 → s.par.stopped = false → s.norMode ≠ 3 →
        s.par.discovered = true → s.flag F.SUPPLY_STATUS_VDDIO_GOOD = true → s.par.waiting = false → s.par.reading ≠ 0 →
        c.take 64 = s.hdr s.par.reading → c.length = (hdrOf c).len → (s.par.sfdp = false ∨ allAre 0xFF (c.drop 64) = false) →
        s.copyResult c = 0 →
      Gives (.imageCopyVerified t c) s (fun u =>
        u.par.source = s.par.reading ∧ u.par.verified = c ∧ u.get (resField (otherCopy s.par.reading)) = (if s.par.both &&
          !s.par.fallback then 1 else s.get (resField (otherCopy s.par.reading))))) ∧
  -- R106: the newer copy fails, the older is read
  (∀ (t : Nat) (s : State) (c : List Byte) (v : Nat),
      s.Calm → s.mode = .parse → s.pow.cdUp = true → s.par.source = 0 → s.par.stopped = false → s.norMode ≠ 3 →
        s.par.discovered = true → s.flag F.SUPPLY_STATUS_VDDIO_GOOD = true → s.par.waiting = false → s.par.reading ≠ 0 →
        c.take 64 = s.hdr s.par.reading → c.length = (hdrOf c).len → (s.par.sfdp = false ∨ allAre 0xFF (c.drop 64) = false) →
        s.copyResult c = v → v ≠ 0 → v < 16 → s.par.both = true → s.par.fallback = false →
      Gives (.imageCopyVerified t c) s (fun u =>
        u.par.reading = otherCopy s.par.reading ∧ u.par.fallback = true ∧ u.get (resField s.par.reading) = v ∧ u.Records 0x0401)) ∧
  -- R106, R108: no copy is left, T6
  (∀ (t : Nat) (s : State) (c : List Byte),
      s.Still → s.Calm → s.mode = .parse → s.pow.cdUp = true → s.par.source = 0 → s.par.stopped = false → s.norMode ≠ 3 →
        s.par.discovered = true → s.flag F.SUPPLY_STATUS_VDDIO_GOOD = true → s.par.waiting = false → s.par.reading ≠ 0 →
        c.take 64 = s.hdr s.par.reading → c.length = (hdrOf c).len → (s.par.sfdp = false ∨ allAre 0xFF (c.drop 64) = false) →
        s.copyResult c ≠ 0 → (s.par.both = false ∨ s.par.fallback = true) →
      Gives (.imageCopyVerified t c) s (fun u =>
        u.mode = .safestop ∧ u.get F.MODE_STATUS_LAST_TRANS = 6 ∧ u.par.source = 0 ∧ u.Records 0x0404))

/-- CONFIG_APPLY ends PARSE by T5 (R76, R111), with the strap profile where the NOR mode is 11 (R115); phases leave their holds
  (R168, R217). In step 1 XTAL_REQUIRED is judged (R71). Where a clause rests on a reading the spec leaves open, it is the model's:
  log entries 46 to 55. -/
def Obligations.ConfigurationIsApplied : Prop :=
  -- R76, R111: T5
  (∀ (t : Nat) (s : State),
      s.Calm → s.mode = .parse → s.pow.cdUp = true → s.par.stopped = false → s.par.source ≠ 0 → s.par.source < 4 →
        s.flag F.CLK_STATUS_BACKUP_ACTIVE = false →
      Gives (.configApply t) s (fun u =>
        u.get F.PARSE_STATUS_DONE = 1 ∧ u.get F.PARSE_STATUS_APPLY_STEP = 12 ∧ u.get F.PARSE_STATUS_SOURCE = s.par.source
          ∧ u.get F.COH_HOLD_HOLD = 0 ∧ u.get F.PK_CTRL_CHG_EN = 1 ∧ u.pow.fdHash = u.words8 F.CONFIG_HASH_HASH
          ∧ u.norBalls = .hiZ)) ∧
  -- R71: XTAL_REQUIRED on the backup reference, T6
  (∀ (t : Nat) (s : State),
      s.Still → s.mode = .parse → s.pow.cdUp = true → s.par.stopped = false → s.par.source ≠ 0 → s.par.source ≠ 3 →
        s.conf.device.getD 1 0 = 1 → s.flag F.CLK_STATUS_BACKUP_ACTIVE = true →
      Gives (.configApply t) s (fun u =>
        u.mode = .safestop ∧ u.get F.MODE_STATUS_LAST_TRANS = 6 ∧ u.get F.PARSE_STATUS_DONE = s.get F.PARSE_STATUS_DONE)) ∧
  -- R115: NOR mode 11
  (∀ (t : Nat) (s : State),
      s.Calm → s.mode = .parse → s.pow.cdUp = true → s.par.stopped = false → s.par.source = 0 → s.norMode = 3 →
        s.flag F.CLK_STATUS_BACKUP_ACTIVE = false →
      Gives (.configApply t) s (fun u =>
        u.get F.PARSE_STATUS_SOURCE = 3 ∧ u.get F.PARSE_STATUS_DONE = 1 ∧ u.Records 0x0403)) ∧
  -- R168, R217
  (∀ (t : Nat) (s : State) (n : Fin 32),
      s.Calm → s.mode = .parse → s.pow.cdUp = true → s.par.stopped = false → s.par.source ≠ 0 →
        s.flag F.CLK_STATUS_BACKUP_ACTIVE = false →
      Gives (.configApply t) s (fun u =>
        u.get F.PH_PROT_PHW_STOP n = 0 ∧ (u.ph n).tfltHeld = false ∧ (u.ph n).obsCnt = 0
          ∧ ((u.ph n).health = .ok ∨ (u.ph n).health = .retired)))

/-- The block of error codes (R120, R121), what the datapath publishes (R125, R127, R139), the slew (R229), the swap of a
  compensator set (R144, R145) and the feedforward (R134, R135, R304). Where a clause rests on a reading the spec leaves open, it
  is the model's: log entries 59 and 60. -/
def Obligations.RailEngine : Prop :=
  -- R120, R121: a block that is not full
  (∀ (t : Nat) (s : State) (r : Fin 8) (p : BitVec 11),
      s.Still → s.engineRuns r = true → (s.eng r).blkN + 1 < 2 ^ s.get F.ENG_CFG_RATE_SH r →
      Gives (.railEngineUpdate t r p) s (fun u =>
        (u.eng r).blkN = (s.eng r).blkN + 1 ∧ (u.eng r).blkSum = (s.eng r).blkSum + s.slotCode r p.toNat
          ∧ (u.eng r).i = (s.eng r).i ∧ (u.eng r).cPrev = s.slotCode r p.toNat
          ∧ u.get F.ENG_STICKY_PAR_REUSE r = (if parityOk (s.upIn r p.toNat) then s.get F.ENG_STICKY_PAR_REUSE r else 1))) ∧
  -- R122: before the first block of a ramp has ended
  (∀ (t : Nat) (s : State) (r : Fin 8) (p : BitVec 11),
      s.Still → s.engineRuns r = true → s.st r = .ramp → s.isMember r = false →
        (s.eng r).blkN + 1 < 2 ^ s.get F.ENG_CFG_RATE_SH r → (s.eng r).blkDone = false →
      Gives (.railEngineUpdate t r p) s (fun u =>
        u.get F.MON_DEMAND_DUTY r = (s.ffDuty r (s.vtoOf r (s.eng r).startCode)).toNat
          ∧ (u.eng r).word = parityWord (s.ffDuty r (s.vtoOf r (s.eng r).startCode)).toNat)) ∧
  -- R121, R125, R139: a full block runs the datapath
  (∀ (t : Nat) (s : State) (r : Fin 8) (p : BitVec 11) (e : Int),
      s.Still → s.engineRuns r = true → 2 ^ s.get F.ENG_CFG_RATE_SH r ≤ (s.eng r).blkN + 1 →
        e = ((s.eng r).blkSum + s.slotCode r p.toNat) * 64 / 2 ^ s.get F.ENG_CFG_RATE_SH r →
      Gives (.railEngineUpdate t r p) s (fun u =>
        (u.eng r).blkN = 0 ∧ (u.eng r).blkSum = 0 ∧ (u.eng r).llt = min (lltRaw (s.eng r).iF (s.get F.LOADLINE_LL_R r)) 20480
          ∧ (u.eng r).eLast = sat16 (e - (u.eng r).llt) ∧ (u.eng r).ePrev = (u.eng r).eLast * 2 ^ 15
          ∧ u.getI F.MON_ERR_E1 r = (u.eng r).eLast)) ∧
  -- R127: the duty word keeps its limits
  (∀ (t : Nat) (s : State) (r : Fin 8) (p : BitVec 11),
      s.Still → s.engineRuns r = true → 2 ^ s.get F.ENG_CFG_RATE_SH r ≤ (s.eng r).blkN + 1 →
        s.get F.DUTY_LIM_DUTY_MIN r ≤ s.get F.DUTY_LIM_DUTY_MAX r →
      Gives (.railEngineUpdate t r p) s (fun u =>
        s.get F.DUTY_LIM_DUTY_MIN r ≤ u.get F.MON_DEMAND_DUTY r ∧ u.get F.MON_DEMAND_DUTY r ≤ s.get F.DUTY_LIM_DUTY_MAX r)) ∧
  -- R229: the accumulator slews up
  (∀ (t : Nat) (s : State) (r : Fin 8) (p : BitVec 11),
      s.Still → s.engineRuns r = true → (s.st r = .reg ∨ s.st r = .shed) → s.isMember r = false → (s.rail r).sp.slewLim = none →
        (s.rail r).sp.acc < s.get F.SP_STATUS_SP_TGT r * 128 →
      Gives (.railEngineUpdate t r p) s (fun u =>
        (u.rail r).sp.acc = min (s.get F.SP_STATUS_SP_TGT r * 128) ((s.rail r).sp.acc + s.get F.SP_CTRL_SLEW_UP r)
          ∧ (u.eng r).dac = (2 * (u.rail r).sp.acc + 128) / 256)) ∧
  -- R229: and down
  (∀ (t : Nat) (s : State) (r : Fin 8) (p : BitVec 11),
      s.Still → s.engineRuns r = true → (s.st r = .reg ∨ s.st r = .shed) → s.isMember r = false → (s.rail r).sp.slewLim = none →
        s.get F.SP_STATUS_SP_TGT r * 128 ≤ (s.rail r).sp.acc →
      Gives (.railEngineUpdate t r p) s (fun u =>
        (u.rail r).sp.acc = max (s.get F.SP_STATUS_SP_TGT r * 128) ((s.rail r).sp.acc - s.get F.SP_CTRL_SLEW_DN r)
          ∧ (u.eng r).dac = (2 * (u.rail r).sp.acc + 128) / 256)) ∧
  -- R144: the pending set becomes active
  (∀ (t : Nat) (s : State) (r : Fin 8),
      s.Still → s.engineRuns r = true → s.flag F.ENG_STATUS_SWAP_PEND r = true → (s.fr r).ls = .none →
      Gives (.compensatorSwap t r) s (fun u =>
        (u.eng r).act = s.setOf (s.eng r).selId ∧ (u.eng r).i = satI ((s.setOf (s.eng r).selId).imin * 2 ^ 15) ((s.setOf (s.eng
          r).selId).imax * 2 ^ 15) ((s.eng r).y - scale (s.eng r).ePrev (s.setOf (s.eng r).selId).kpM (s.setOf (s.eng r).selId).kpS
          - (s.eng r).df) ∧ u.get F.ENG_STATUS_SWAP_PEND r = 0 ∧ u.Records 0x0501)) ∧
  -- R145: a write of STORE_WR with a staged set in its ranges
  (∀ (t : Nat) (s : State) (r : Fin 8) (id : Nat),
      s.Calm → s.AsP3 1 → s.cz1604 = false → s.stagedOk = true → id < 64 →
      Gives (.storeWr t .sess r (BitVec.ofNat 32 (256 * id))) s (fun u =>
        u.setOf id = s.staged)) ∧
  -- R131: a staged set out of its ranges is refused
  (∀ (t : Nat) (s : State) (r : Fin 8) (id : Nat),
      s.Calm → s.AsP3 1 → s.cz1604 = false → s.stagedOk = false → id < 64 →
      Gives (.storeWr t .sess r (BitVec.ofNat 32 (256 * id))) s (fun u =>
        u.sets = s.sets ∧ u.get F.ENG_STICKY_COEF_REJ r = 1 ∧ u.Records 0x0502)) ∧
  -- R134
  (∀ (t : Nat) (s : State) (v : BitVec 12),
      s.Calm → s.mode ≠ .dormant → s.mode ≠ .wake → s.pow.cdUp = true →
      Gives (.vinSample t v) s (fun u =>
        u.get F.VIN_FF_VIN_CODE 3 = vinCode v.toNat ∧ (u.eng 3).rvin = (2 ^ 33 + vinCode v.toNat) / (2 * vinCode v.toNat)
          ∧ u.get F.VIN_FF_VIN_STALE 3 = 0 ∧ u.pow.busV = v.toNat)) ∧
  -- R135
  (∀ (t : Nat) (s : State) (r : Fin 8),
      s.Calm → s.pow.cdUp = true → (State.at s t).vinOld = true → s.flag F.ENG_STATUS_VIN_STALE 0 = false →
      Gives (.vinStale t) s (fun u =>
        u.get F.ENG_STATUS_VIN_STALE r = 1 ∧ u.pow.staleAt = max s.now t ∧ u.get F.ENG_STICKY_VIN_STALE_S r = 1
          ∧ (u.eng r).rvin = (s.eng r).rvin ∧ u.Records 0x0506 ∧ Changes [.rails, .rcd, .pow] [F.ENG_STATUS_VIN_STALE,
          F.VIN_FF_VIN_STALE, F.ENG_STICKY_VIN_STALE_S] s u)) ∧
  -- R304
  (∀ (t : Nat) (s : State) (r : Fin 8),
      s.Calm → s.pow.cdUp = true → s.flag F.ENG_STATUS_VIN_STALE 0 = true → (s.st r).switching = true →
        s.pow.staleAt + 1000000 ≤ max s.now t → (allRails.any (fun q => (s.eng q).staleD)) = false →
      Gives (.feedforwardStaleDerate t) s (fun u =>
        (u.eng r).staleD = true ∧ Changes [.rails, .rcd] [] s u)) ∧
  -- R137, R139: the refreshed sum and its filter
  (∀ (t : Nat) (s : State) (r : Fin 8),
      s.Still → s.pow.cdUp = true → s.mode = .regulate →
      Gives (.iSumRefresh t r) s (fun u =>
        (u.eng r).iSum = s.currentSum r ∧ (u.eng r).iF = llFilter (s.eng r).iF (s.currentSum r) (s.get F.LOADLINE_LL_TAU r)
          ∧ (u.fr r).isum = s.currentSum r)) ∧
  -- R137: the fold lowers the ceiling
  (∀ (t : Nat) (s : State) (r : Fin 8),
      s.Still → s.pow.cdUp = true → s.mode = .regulate → s.flag F.ENG_STATUS_CL_ACT r = true →
        (s.ilimRail r : Int) < s.currentSum r →
      Gives (.iSumRefresh t r) s (fun u =>
        (u.eng r).ceil = max ((s.eng r).ceil - s.get F.ENG_CFG_CL_STEP r) (-s.lowLim r)))

/-- Samples and their mean (R157 to R160), failures (R160, R164, R165), the follow-up of a failure (R166) and the window of R295.
  Where a clause rests on a reading the spec leaves open, it is the model's: log entries 167 and 169. -/
def Obligations.PhaseCurrents : Prop :=
  -- R157, R158
  (∀ (t : Nat) (s : State) (n : Fin 32) (a : Int),
      s.Calm → s.flag F.PH_STATE_ASSIGNED n = true → s.mode ≠ .dormant → -2048 ≤ a → a ≤ 2047 →
      Gives (.phaseCurrentSample t n a) s (fun u =>
        (u.ph n).smpSum = (s.ph n).smpSum + (roundDiv (a * 2000 * s.get F.PH_CAL_CAL_GAIN n) ((s.ph n).gm * 2 ^ 14) + s.getI
          F.PH_CAL_CAL_OFS n) ∧ (u.ph n).smpN = (s.ph n).smpN + 1 ∧ Changes [.phase n] [] s u)) ∧
  -- R159
  (∀ (t : Nat) (s : State) (n : Fin 32),
      s.Calm → s.flag F.PH_STATE_ASSIGNED n = true → s.mode ≠ .dormant → ((s.ph n).sw.switching = false ∨ ((s.ph n).ended = false
        ∧ (State.at s t).passed n = true)) → 2 ≤ (s.ph n).smpN →
      Gives (.phasePeriodEnd t n) s (fun u =>
        u.getI F.PH_CUR_I_AVG n = satS 12 ((s.ph n).smpSum / (s.ph n).smpN) ∧ (u.ph n).smpSum = 0 ∧ (u.ph n).smpN = 0)) ∧
  -- R159: fewer than two samples keep I_AVG
  (∀ (t : Nat) (s : State) (n : Fin 32),
      s.Calm → s.flag F.PH_STATE_ASSIGNED n = true → s.mode ≠ .dormant → ((s.ph n).sw.switching = false ∨ ((s.ph n).ended = false
        ∧ (State.at s t).passed n = true)) → (s.ph n).smpN < 2 →
      Gives (.phasePeriodEnd t n) s (fun u =>
        u.getI F.PH_CUR_I_AVG n = s.getI F.PH_CUR_I_AVG n ∧ (u.ph n).smpN = 0)) ∧
  -- R160, R164
  (∀ (t : Nat) (s : State) (n : Fin 32),
      s.Still → s.flag F.PH_STATE_ASSIGNED n = true → 4 ≤ (s.ph n).satRun → ((s.ph n).health = .ok ∨ (s.ph n).health = .watch) →
        s.flag F.PH_STATE_PAIRED n = false →
      Gives (.senseRange t n) s (fun u =>
        u.get F.PH_STICKY_SENSE_RANGE n = 1 ∧ (u.ph n).failCause = 1 ∧ (u.ph n).health = .failed ∧ (u.ph n).sw = .stopped
          ∧ u.get F.PH_STICKY_FAILED_S n = 1 ∧ u.get F.PH_STATE_FAIL_CNT n = min 255 (s.get F.PH_STATE_FAIL_CNT n + 1)
          ∧ (u.ph n).triPend = ((s.ph n).triPend || ((s.ph n).sw.switching && s.level n != .tri)))) ∧
  -- R164, R165
  (∀ (t : Nat) (s : State) (n : Fin 32),
      s.Still → s.flag F.PH_STATE_ASSIGNED n = true → (s.ph n).sw.switching = true → s.get F.PHC_OBS_OBS_N (s.railOf n) ≠ 0 →
        s.get F.PHC_OBS_OBS_N (s.railOf n) ≤ (s.ph n).obsCnt → ((s.ph n).health = .ok ∨ (s.ph n).health = .watch) →
        s.flag F.PH_STATE_PAIRED n = false →
      Gives (.phaseFail t n) s (fun u =>
        (u.ph n).failCause = s.obsCause n ∧ (u.ph n).health = .failed ∧ (u.ph n).sw = .stopped ∧ u.get F.PH_STICKY_FAILED_S n = 1
          ∧ u.get F.PH_STATE_FAIL_CNT n = min 255 (s.get F.PH_STATE_FAIL_CNT n + 1)
          ∧ (u.ph n).triPend = ((s.ph n).triPend || ((s.ph n).sw.switching && s.level n != .tri)))) ∧
  -- R164: the partner fails with it, cause 4
  (∀ (t : Nat) (s : State) (n m : Fin 32),
      s.Still → s.flag F.PH_STATE_ASSIGNED n = true → (s.ph n).sw.switching = true → s.get F.PHC_OBS_OBS_N (s.railOf n) ≠ 0 →
        s.get F.PHC_OBS_OBS_N (s.railOf n) ≤ (s.ph n).obsCnt → ((s.ph n).health = .ok ∨ (s.ph n).health = .watch) →
        s.partner n = some m → m ≠ n → (s.ph n).pairFailBoth = true → s.flag F.PH_STATE_ASSIGNED m = true → (s.ph m).health = .ok →
      Gives (.phaseFail t n) s (fun u =>
        (u.ph n).health = .failed ∧ (u.ph m).health = .failed ∧ (u.ph m).failCause = 4 ∧ (u.ph m).sw = .stopped)) ∧
  -- R166
  (∀ (t : Nat) (s : State) (n : Fin 32),
      s.Still → s.pow.cdUp = true → s.mode ≠ .caretaker → s.flag F.PH_STATE_ASSIGNED n = true → (s.ph n).health = .failed →
        (s.fr (s.railOf n)).failPend = true →
      Gives (.failureFollowup t n) s (fun u =>
        (u.eng (s.railOf n)).failD = true ∧ u.Records 0x0603 ∧ (u.get F.PMB_RSTAT2_STATUS_MFR (s.railOf n)).testBit 7 = true)) ∧
  -- R295
  (∀ (t : Nat) (s : State) (n : Fin 32),
      s.Still → (s.ph n).sw.switching = true → s.get F.RP_MISC_PHW_N (s.railOf n) ≠ 0 →
        s.get F.RP_MISC_PHW_N (s.railOf n) ≤ s.get F.PH_PROT_PHW_CNT n →
      Gives (.phaseWindowStop t n) s (fun u =>
        u.get F.PH_PROT_PHW_STOP n = 1 ∧ (u.ph n).sw = .stopped ∧ (u.ph n).health = (s.ph n).health))

/-- The error code of a sample (R119), the large-signal trips (R146, R147) and their end (R149), braking (R148, R315). -/
def Obligations.ErrorSamplesAndLargeSignal : Prop :=
  -- R119: the code of VSP − VSN within the sense window
  (∀ (t : Nat) (s : State) (r : Fin 8) (v w : Int),
      s.Still → s.mode ≠ .dormant → s.mode ≠ .wake → (s.cfg r).present = true → s.drives r = true →
        s.flag F.RP_STATUS_SNS_AUX r = false → |v - w| ≤ s.get F.RP_SENSE_SNS_WIN r * 5000 →
      Gives (.errorSample t r v w) s (fun u =>
        (u.fr r).code = satI (-511) 511 (roundDiv ((s.dacCode r : Int) * 625 - v) 500) ∧ (u.fr r).snsRun = 0 ∧ (u.fr r).vs = v
          ∧ (u.fr r).va = w)) ∧
  -- R307: outside the window the code stands and the run counts
  (∀ (t : Nat) (s : State) (r : Fin 8) (v w : Int),
      s.Still → s.mode ≠ .dormant → s.mode ≠ .wake → (s.cfg r).present = true → s.drives r = true →
        s.flag F.RP_STATUS_SNS_AUX r = false → s.get F.RP_SENSE_SNS_WIN r * 5000 < |v - w| →
      Gives (.errorSample t r v w) s (fun u =>
        (u.fr r).code = (s.fr r).code ∧ (u.fr r).snsRun = (s.fr r).snsRun + 1)) ∧
  -- R146, R147: the second sample beyond LS_UP_TH
  (∀ (t : Nat) (s : State) (r : Fin 8) (v w : Int),
      s.Still → s.mode ≠ .dormant → s.mode ≠ .wake → (s.cfg r).present = true → s.drives r = true →
        s.flag F.RP_STATUS_SNS_AUX r = false → |v - w| ≤ s.get F.RP_SENSE_SNS_WIN r * 5000 → (s.fr r).ls = .none →
        s.get F.LS_CFG_LS_UP_TH r ≠ 0 → (s.fr r).upRun = 1 → (s.fr r).noUpTill ≤ s.now →
        s.get F.LS_CFG_LS_UP_TH r * 256 < s.codeOf r v * 64 - s.fLlt r →
      Gives (.errorSample t r v w) s (fun u =>
        (u.fr r).ls = .under ∧ u.get F.ENG_STATUS_LSU_ACT r = 1 ∧ u.get F.ENG_STICKY_LSU_S r = 1 ∧ (u.fr r).lsAt = max s.now t)) ∧
  -- R146: the second sample beyond LS_DN_TH
  (∀ (t : Nat) (s : State) (r : Fin 8) (v w : Int),
      s.Still → s.mode ≠ .dormant → s.mode ≠ .wake → (s.cfg r).present = true → s.drives r = true →
        s.flag F.RP_STATUS_SNS_AUX r = false → |v - w| ≤ s.get F.RP_SENSE_SNS_WIN r * 5000 → (s.fr r).ls = .none →
        s.get F.LS_CFG_LS_DN_TH r ≠ 0 → (s.fr r).dnRun = 1 → (s.fr r).noDnTill ≤ s.now →
        s.codeOf r v * 64 - s.fLlt r < -(s.get F.LS_CFG_LS_DN_TH r * 256 : Int) →
      Gives (.errorSample t r v w) s (fun u =>
        (u.fr r).ls = .over ∧ u.get F.ENG_STATUS_LSD_ACT r = 1)) ∧
  -- R149: LS_MAX ends the action and holds its direction for 1 µs
  (∀ (t : Nat) (s : State) (r : Fin 8),
      s.Calm → (s.fr r).ls = .under → (s.fr r).lsAt + s.get F.LS_CFG_LS_MAX r * 20 ≤ s.now →
      Gives (.lsMaxExpiry t r) s (fun u =>
        (u.fr r).ls = .none ∧ u.get F.ENG_STATUS_LSU_ACT r = 0 ∧ (u.fr r).noUpTill = max s.now t + 1000
          ∧ (u.fr r).noDnTill = (s.fr r).noDnTill)) ∧
  -- R148, R315
  (∀ (t : Nat) (s : State) (r : Fin 8) (n : Fin 32),
      s.Still → (s.fr r).ls = .over → s.flag F.LS_CFG_BRAKE_EN r = true → (s.fr r).lsAt + s.get F.LS_CFG_BRAKE_DLY r * 20 ≤ s.now →
        s.lsErr r < -(s.get F.LS_CFG_LS_DN_TH r * 256 : Int) → s.flag F.RP_STATUS_SNS_AUX r = false →
        s.flag F.ENG_STATUS_BRAKE_ACT r = false → s.flag F.RP_STATUS_BRK_INH r = false → s.brakeHot r = false →
        s.onRail r n = true → (s.ph n).sw.switching = true → 0 < (s.ph n).ihat →
      Gives (.brakeStart t r) s (fun u =>
        u.get F.ENG_STATUS_BRAKE_ACT r = 1 ∧ u.get F.ENG_STICKY_BRAKE_S r = 1 ∧ (u.ph n).braking = true)) ∧
  -- R315: no braking with a hot phase
  (∀ (t : Nat) (s : State) (r : Fin 8),
      s.Still → (s.fr r).ls = .over → s.flag F.LS_CFG_BRAKE_EN r = true → (s.fr r).lsAt + s.get F.LS_CFG_BRAKE_DLY r * 20 ≤ s.now →
        s.lsErr r < -(s.get F.LS_CFG_LS_DN_TH r * 256 : Int) → s.flag F.RP_STATUS_SNS_AUX r = false →
        s.flag F.ENG_STATUS_BRAKE_ACT r = false → s.flag F.RP_STATUS_BRK_INH r = false → s.brakeHot r = true → (s.fr r).brkRec = 0 →
      Gives (.brakeStart t r) s (fun u =>
        u.get F.ENG_STATUS_BRAKE_ACT r = 0 ∧ u.get F.RP_STICKY_BRK_INH_S r = 1 ∧ (u.fr r).brkRec = max s.now t)) ∧
  -- R315
  (∀ (t : Nat) (s : State) (r : Fin 8),
      s.Calm → s.flag F.RP_STATUS_BRK_INH r = true → (s.fr r).brkTill ≤ s.now →
      Gives (.brakeInhibitEnd t r) s (fun u =>
        u.get F.RP_STATUS_BRK_INH r = 0 ∧ (u.fr r).brkN = 0 ∧ Changes [.rail r] [F.RP_STATUS_BRK_INH] s u))

/-- An added phase becomes ACTIVE (R181), a phase is shed (R182, R183), diode emulation starts (R185), a period starts (R196 to
  R199), a bootstrap refresh (R207). Where a clause rests on a reading the spec leaves open, it is the model's: log entries 65,
  166, 170, 171, 172 and 180. -/
def Obligations.PhasesComeAndGo : Prop :=
  -- R181, R187
  (∀ (t : Nat) (s : State) (n : Fin 32),
      s.Still → (s.ph n).sw = .adding → s.get F.PHC_OBS_OBS_SETTLE (s.railOf n) ≤ (s.ph n).periods →
      Gives (.phaseSettled t n) s (fun u =>
        (u.ph n).sw = .active ∧ (u.ph n).rsv = 0 ∧ Changes [.phase n] [] s u)) ∧
  -- R182, R183: the dwell is over
  (∀ (t : Nat) (s : State) (r : Fin 8) (n : Fin 32) (a : Nat),
      s.Calm → (s.eng r).lowSince = some a → s.shedPick r = some n → s.shedWanted r = true →
        a + s.get F.PHC_TIME_SHED_DWELL r * 100000 ≤ s.now →
      Gives (.shedDwellExpiry t r) s (fun u =>
        u.br.c3 = s.br.c3 ++ [⟨.shed, n.val, 0, 0⟩])) ∧
  -- R183: at or below 2 A, or after 2 × SHED_RAMP periods
  (∀ (t : Nat) (s : State) (n : Fin 32),
      s.Still → (s.ph n).sw = .shedding → s.sheds (s.railOf n) = true → ((1 ≤ (s.ph n).periods
        ∧ s.getI F.PH_CUR_I_AVG n ≤ 16) ∨ 2 * s.get F.PHC_TIME_SHED_RAMP (s.railOf n) ≤ (s.ph n).periods) →
      Gives (.phaseShedComplete t n) s (fun u =>
        (u.ph n).sw = .idle ∧ u.level n = .tri)) ∧
  -- R185
  (∀ (t : Nat) (s : State) (r : Fin 8) (a : Nat),
      s.Still → (s.eng r).deSince = some a → s.deWanted r = true → (s.fr r).failAt ≠ some (max s.now t) →
        a + s.get F.PHC_TIME_DE_DWELL r * 100000 ≤ s.now →
      Gives (.deEntry t r) s (fun u =>
        u.get F.PHC_STATUS_DE_ACT r = 1)) ∧
  -- R195, R196, R199, R177, R197, R207: the counter of the phase has passed 0
  (∀ (t : Nat) (s : State) (n : Fin 32) (z q : Nat) (m : Int),
      s.Still → s.flag F.PH_STATE_ASSIGNED n = true → s.mode ≠ .dormant → (s.ph n).sw.switching = true → (s.ph n).triPend = false →
        (State.at s t).passed n = true → s.heldTri n = false → z = (State.at s t).startTick n →
        q = since (s.period n) (s.fr (s.railOf n)).rcAt z → m = moveDelta (s.period n) q (s.get F.PH_PLACE_OFFSET n) →
      Gives (.phasePeriodStart t n) s (fun u =>
        (u.ph n).onAt = z ∧ (u.ph n).nextAt = (((z + s.period n : Nat) : Int) + m).toNat
          ∧ (u.ph n).ofsNow = moveStep (s.period n) q (s.get F.PH_PLACE_OFFSET n)
          ∧ (u.ph n).bstTill = (if (s.ph n).bstDue then z + max (s.get F.PWM_TIME_BST_W n) (s.get F.PWM_TIME_MIN_OFF n) * 32 else
          (s.ph n).bstTill) ∧ (u.ph n).ton = tonLim (s.period n) (s.get F.PWM_TIME_MIN_ON n) (s.get F.PWM_TIME_MIN_OFF n) (tonRaw
          (s.period n) (s.dPh (s.railOf n) n (if s.pnDrives (s.railOf n) then (s.fr (s.railOf n)).dPn else (s.fr (s.railOf
          n)).duty))))) ∧
  -- R196: the counter has not passed 0
  (∀ (t : Nat) (s : State) (n : Fin 32),
      s.Calm → (State.at s t).passed n = false →
      Gives (.phasePeriodStart t n) s (fun u =>
        Changes [] [] s u)) ∧
  -- R164, R219: a stopped phase goes to tri-state at its period start
  (∀ (t : Nat) (s : State) (n : Fin 32),
      s.Still → s.flag F.PH_STATE_ASSIGNED n = true → s.mode ≠ .dormant → ((s.ph n).triPend = true ∨ ((s.ph n).sw.switching = true
        ∧ s.heldTri n = true)) → (State.at s t).passed n = true →
      Gives (.phasePeriodStart t n) s (fun u =>
        u.level n = .tri ∧ (u.ph n).triPend = false ∧ (u.ph n).nextAt = (State.at s t).startTick n + s.period n)) ∧
  -- R207
  (∀ (t : Nat) (s : State) (n : Fin 32),
      s.Calm → (s.ph n).sw.switching = true → s.get F.PWM_CTRL_BST_N n ≠ 0 →
        s.get F.PWM_CTRL_BST_N n ≤ s.get F.PWM_STATUS_FULL_CNT n →
      Gives (.bootstrapRefresh t n) s (fun u =>
        u.get F.PWM_STATUS_FULL_CNT n = 0 ∧ u.get F.PWM_STICKY_REFRESH_S n = 1 ∧ (u.ph n).bstDue = true))

/-- A TFLT fault and the peak comparator cut (R209, R210, R293), the negative peak (R294), the TFLT latch and its release (R216,
  R217), the retry cycle (R212 to R214). Where a clause rests on a reading the spec leaves open, it is the model's: log entries 52
  and 173. -/
def Obligations.CutsAndLatches : Prop :=
  -- R209, R210
  (∀ (t : Nat) (s : State) (n : Fin 32),
      s.Still → s.senHigh n = true → s.mode ≠ .dormant → ((State.at s t).look n).level n = .high →
        ((State.at s t).look n).blanked n = false →
      Gives (.tfltFault t n true) s (fun u =>
        u.level n = .low ∧ u.get F.PWM_STICKY_CUT_S n = 1 ∧ (u.ph n).cutNow = true ∧ (u.ph n).cutAny = true
          ∧ u.get F.PWM_STATUS_CUT_CNT n = (if (((State.at s t).look n).ph n).cutAny then ((State.at s t).look n).get
          F.PWM_STATUS_CUT_CNT n else min 255 (((State.at s t).look n).get F.PWM_STATUS_CUT_CNT n + 1))
          ∧ u.get F.PWM_STATUS_CUT_SRC n = 0 ∧ u.get F.PWM_STATUS_TFLT_FAULT n = 1)) ∧
  -- R209: no fault
  (∀ (t : Nat) (s : State) (n : Fin 32),
      s.Calm → s.senHigh n = true → s.mode ≠ .dormant →
      Gives (.tfltFault t n false) s (fun u =>
        u.get F.PWM_STATUS_TFLT_FAULT n = 0 ∧ (u.ph n).faultSince = none ∧ (u.ph n).okSince = some ((s.ph n).okSince.getD (max
          s.now t)))) ∧
  -- R293, R210
  (∀ (t : Nat) (s : State) (n : Fin 32),
      s.Still → ((State.at s t).look n).level n = .high → ((State.at s t).look n).blanked n = false →
      Gives (.peakCurrentTrip t n) s (fun u =>
        u.level n = .low ∧ u.get F.PWM_STICKY_CUT_S n = 1 ∧ (u.ph n).cutNow = true ∧ (u.ph n).cutAny = true
          ∧ u.get F.PWM_STATUS_CUT_CNT n = (if (((State.at s t).look n).ph n).cutAny then ((State.at s t).look n).get
          F.PWM_STATUS_CUT_CNT n else min 255 (((State.at s t).look n).get F.PWM_STATUS_CUT_CNT n + 1))
          ∧ u.get F.PWM_STATUS_CUT_SRC n = 1)) ∧
  -- R210: a trip while the output is not HIGH cuts nothing
  (∀ (t : Nat) (s : State) (n : Fin 32),
      s.Calm → ((State.at s t).look n).level n ≠ .high →
      Gives (.peakCurrentTrip t n) s (fun u =>
        (u.ph n).cutNow = (((State.at s t).look n).ph n).cutNow ∧ u.level n = ((State.at s t).look n).level n
          ∧ u.get F.PWM_STATUS_CUT_CNT n = ((State.at s t).look n).get F.PWM_STATUS_CUT_CNT n)) ∧
  -- R294
  (∀ (t : Nat) (s : State) (n : Fin 32),
      s.Still → s.get F.PKP_CFG_NPK_LIM n ≠ 0 → ((State.at s t).look n).level n = .low → ((State.at s t).look n).blanked n = false →
      Gives (.negPeakTrip t n) s (fun u =>
        u.level n = .tri ∧ (u.ph n).npkTri = true ∧ u.get F.PH_PROT_NPK_S n = 1)) ∧
  -- R216: 2 µs of fault latch the phase
  (∀ (t : Nat) (s : State) (n : Fin 32) (a : Nat),
      s.Still → s.flag F.PH_STATE_ASSIGNED n = true → s.flag F.PWM_STATUS_TFLT_LATCH n = false → (s.ph n).faultSince = some a →
        s.senHigh n = true → (s.fr (s.railOf n)).senAt + 2000 ≤ s.now → s.flag F.PWM_STATUS_TFLT_FAULT n = true → a + 2000 ≤ s.now →
      Gives (.tfltLatch t n) s (fun u =>
        u.get F.PWM_STATUS_TFLT_LATCH n = 1 ∧ u.get F.PWM_STICKY_TFLT_LATCH_S n = 1 ∧ (u.ph n).sw = .stopped)) ∧
  -- R217
  (∀ (t : Nat) (s : State) (n : Fin 32) (a : Nat),
      s.Still → s.flag F.PWM_STATUS_TFLT_LATCH n = true → (s.ph n).tfltHeld = false → (s.ph n).okSince = some a →
        a + 100000 ≤ s.now → s.senHigh n = true → (s.fr (s.railOf n)).senAt + 100000 ≤ s.now →
        s.flag F.PWM_STATUS_TFLT_FAULT n = false →
      Gives (.tfltLatchRelease t n) s (fun u =>
        u.get F.PWM_STATUS_TFLT_LATCH n = 0)) ∧
  -- R217: a held phase stays latched
  (∀ (t : Nat) (s : State) (n : Fin 32),
      s.Calm → (s.ph n).tfltHeld = true →
      Gives (.tfltLatchRelease t n) s (fun u =>
        Changes [] [] s u)) ∧
  -- R212: HICCUP
  (∀ (t : Nat) (s : State) (n : Fin 32),
      s.Still → s.flag F.PH_STATE_ASSIGNED n = true → s.get F.PWM_CTRL_CUT_N n ≠ 0 →
        s.get F.PWM_CTRL_CUT_N n ≤ s.get F.PWM_STATUS_CUT_CNT n → (s.st (s.railOf n)).switching = true →
        s.flag F.MODE_STATUS_SHUTDOWN_ACT = false → s.mode.running = true →
        (s.get F.HIC_STATUS_RETRY_CNT (s.railOf n) < s.get F.HIC_CFG_HIC_RETRY (s.railOf n) ∨ s.flag F.HIC_CFG_HIC_UNLIM (s.railOf
        n) = true) →
      Gives (.hiccupEscalation t n) s (fun u =>
        u.st (s.railOf n) = .hiccup ∧ u.get F.HIC_STATUS_RETRY_CNT (s.railOf n) = min 15 (s.get F.HIC_STATUS_RETRY_CNT (s.railOf n)
          + 1) ∧ (u.fr (s.railOf n)).hicAt = max s.now t ∧ u.get F.SEN_CFG_SEN_STATE (s.railOf n) = 0)) ∧
  -- R212: the retries are used up, LATCHED
  (∀ (t : Nat) (s : State) (n : Fin 32),
      s.Still → s.flag F.PH_STATE_ASSIGNED n = true → s.get F.PWM_CTRL_CUT_N n ≠ 0 →
        s.get F.PWM_CTRL_CUT_N n ≤ s.get F.PWM_STATUS_CUT_CNT n → (s.st (s.railOf n)).switching = true →
        s.flag F.MODE_STATUS_SHUTDOWN_ACT = false → s.mode.running = true → s.flag F.HIC_CFG_HIC_UNLIM (s.railOf n) = false →
        s.get F.HIC_CFG_HIC_RETRY (s.railOf n) ≤ s.get F.HIC_STATUS_RETRY_CNT (s.railOf n) → (s.cfg (s.railOf n)).critical = false →
      Gives (.hiccupEscalation t n) s (fun u =>
        u.st (s.railOf n) = .latched ∧ u.get F.RP_STATUS_LATCH_CAUSE (s.railOf n) = 5)) ∧
  -- R287: a critical rail, T9
  (∀ (t : Nat) (s : State) (n : Fin 32),
      s.Still → s.flag F.PH_STATE_ASSIGNED n = true → s.get F.PWM_CTRL_CUT_N n ≠ 0 →
        s.get F.PWM_CTRL_CUT_N n ≤ s.get F.PWM_STATUS_CUT_CNT n → (s.st (s.railOf n)).switching = true →
        s.flag F.MODE_STATUS_SHUTDOWN_ACT = false → s.mode.running = true → s.flag F.HIC_CFG_HIC_UNLIM (s.railOf n) = false →
        s.get F.HIC_CFG_HIC_RETRY (s.railOf n) ≤ s.get F.HIC_STATUS_RETRY_CNT (s.railOf n) → (s.cfg (s.railOf n)).critical = true →
      Gives (.hiccupEscalation t n) s (fun u =>
        u.mode = .safestop ∧ u.get F.PROT_STATUS_DL_CAUSE = 6 ∧ u.st (s.railOf n) = .latched ∧ u.get F.FAULT_HOLD_FAULT_HOLD = 1)) ∧
  -- R213: SEN rises SEN_LEAD before the retry
  (∀ (t : Nat) (s : State) (r : Fin 8),
      s.Still → s.st r = .hiccup → s.mode.running = true → s.flag F.SEN_CFG_SEN_STATE r = false →
        (s.fr r).hicAt + (s.hicOff r - s.get F.SEN_CFG_SEN_LEAD r * 1000) ≤ s.now →
      Gives (.hiccupSenRaise t r) s (fun u =>
        u.get F.SEN_CFG_SEN_STATE r = 1 ∧ (u.fr r).senAt = max s.now t ∧ (u.fr r).senLead = true ∧ u.st r = .hiccup)) ∧
  -- R213: the retry
  (∀ (t : Nat) (s : State) (r : Fin 8),
      s.Still → s.st r = .hiccup → s.flag F.SEN_CFG_SEN_STATE r = true → (s.fr r).hicAt + s.hicOff r ≤ s.now →
        s.isMember r = false → s.mode.running = true → (∀ n, s.onRail r n = true → s.flag F.PWM_STATUS_TFLT_FAULT n = false) →
        s.get F.PHC_CTRL_MIN_LIVE r ≤ (s.liveOf r).length →
      Gives (.hiccupRetry t r) s (fun u =>
        u.st r = .ramp ∧ (u.fr r).started = false ∧ u.get F.HIC_STATUS_RETRY_CNT r = s.get F.HIC_STATUS_RETRY_CNT r
          ∧ (∀ n, s.onRail r n = true → s.live n = true → (u.ph n).sw = .adding))) ∧
  -- R214
  (∀ (t : Nat) (s : State) (r : Fin 8),
      s.Calm → (s.st r = .reg ∨ s.st r = .shed) → (s.fr r).regAt + 1000000000 ≤ s.now →
      Gives (.retryCntClear t r) s (fun u =>
        u.get F.HIC_STATUS_RETRY_CNT r = 0 ∧ Changes [] [F.HIC_STATUS_RETRY_CNT] s u))

/-- SEN_LEAD (R218), the turn of a rail (R100), the pre-bias sample (R141), the end of a soft stop (R219), overrides (R203, R204),
  SYNCI (R221, R222). Where a clause rests on a reading the spec leaves open, it is the model's: log entries 27 and 168. -/
def Obligations.StartsAndStops : Prop :=
  -- R218
  (∀ (t : Nat) (s : State) (r : Fin 8),
      s.Still → s.st r = .armed → s.flag F.SEN_CFG_SEN_STATE r = true → (s.fr r).senAt + s.get F.SEN_CFG_SEN_LEAD r * 1000 ≤ s.now
        → s.mode = .regulate →
      Gives (.senLeadElapsed t r) s (fun u =>
        (u.fr r).senLead = true ∧ u.st r = .armed)) ∧
  -- R100, R155: RAMP with the engine states at 0
  (∀ (t : Nat) (s : State) (r : Fin 8),
      s.Still → s.mode = .regulate → s.st r = .armed → (s.fr r).passed = true → (s.fr r).senLead = true →
        (s.eng r).vinAt.isSome = true → s.flag F.MODE_STATUS_SHUTDOWN_ACT = false → (s.cfg r).spans = false →
        (s.fr r).inStart = false → s.get F.PHC_CTRL_MIN_LIVE r ≤ (s.liveOf r).length →
      Gives (.railStartTurn t r) s (fun u =>
        u.st r = .ramp ∧ (u.eng r).i = 0 ∧ (u.eng r).ceil = 32767 ∧ (u.fr r).started = false ∧ u.get F.HIC_STATUS_RETRY_CNT r = 0
          ∧ (∀ n, s.onRail r n = true → s.live n = true → (u.ph n).sw = .adding))) ∧
  -- R141
  (∀ (t : Nat) (s : State) (r : Fin 8) (c : BitVec 12),
      s.Still → s.st r = .ramp → (s.fr r).started = false → s.mode = .regulate →
      Gives (.rampStart t r c) s (fun u =>
        (u.fr r).started = true ∧ (u.eng r).dac = min c.toNat (s.get F.SP_STATUS_SP_TGT r)
          ∧ (u.eng r).rampT0 = min c.toNat (s.get F.SP_STATUS_SP_TGT r) ∧ (u.eng r).startCode = min c.toNat (s.get
          F.SP_STATUS_SP_TGT r) ∧ (∀ n, s.onRail r n = true → (s.ph n).sw.switching = true →
          (u.ph n).leftAt = max s.now t * 64 / 5))) ∧
  -- R219: OFF
  (∀ (t : Nat) (s : State) (r : Fin 8) (a : Nat),
      s.Still → s.st r = .rampdown → (s.fr r).fallAt = some a → (s.fr r).stop = .toOff → s.mayArm r = false →
        (State.at s t).lagPast r = true →
      Gives (.softStopSenFall t r) s (fun u =>
        u.st r = .off ∧ u.get F.SEN_CFG_SEN_STATE r = 0)) ∧
  -- R219, R288: LATCHED
  (∀ (t : Nat) (s : State) (r : Fin 8) (a : Nat),
      s.Still → s.st r = .rampdown → (s.fr r).fallAt = some a → (s.fr r).stop = .toLatched → (s.fr r).stopCause < 8 →
        (State.at s t).lagPast r = true →
      Gives (.softStopSenFall t r) s (fun u =>
        u.st r = .latched ∧ u.get F.RP_STATUS_LATCH_CAUSE r = (s.fr r).stopCause)) ∧
  -- R204: a write of 1
  (∀ (t : Nat) (s : State) (n : Fin 32) (d : Word),
      s.Still → s.AsP2 → s.get F.PWM_CTRL_INVERT n < 2 → s.get F.PWM_CTRL_SWAP n < 2 → s.get F.PWM_CTRL_BST_N n < 128 →
        s.get F.PWM_CTRL_CUT_N n < 256 → s.mode = .regulate → s.cz1604 = false → s.flag F.PH_STATE_ASSIGNED n = true →
        s.flag F.PWM_CTRL_FORCE_TRI n = false → d.toNat = 1 * 2 ^ 31 + s.get F.PWM_CTRL_INVERT n * 2 ^ 30 + s.get F.PWM_CTRL_SWAP n
        * 2 ^ 29 + s.get F.PWM_CTRL_BST_N n * 2 ^ 16 + s.get F.PWM_CTRL_CUT_N n * 2 ^ 8 →
      Gives (.forceTri t .spi n d) s (fun u =>
        u.get F.PWM_CTRL_FORCE_TRI n = 1 ∧ (u.ph n).sw = .stopped ∧ (u.ph n).triPend = ((s.ph n).triPend || ((s.ph n).sw.switching
          && s.level n != .tri)))) ∧
  -- R204: a write of 0
  (∀ (t : Nat) (s : State) (n : Fin 32) (d : Word),
      s.Still → s.AsP2 → s.get F.PWM_CTRL_INVERT n < 2 → s.get F.PWM_CTRL_SWAP n < 2 → s.get F.PWM_CTRL_BST_N n < 128 →
        s.get F.PWM_CTRL_CUT_N n < 256 → s.mode = .regulate → s.cz1604 = false → s.flag F.PH_STATE_ASSIGNED n = true →
        s.flag F.PWM_CTRL_FORCE_TRI n = true → s.flag F.PWM_STATUS_TFLT_LATCH n = false → s.flag F.PH_PROT_PHW_STOP n = false →
        s.get F.COH_HOLD_HOLD = 0 → (s.ph n).tfltHeld = false → (s.ph n).health = .ok → (s.ph n).sw = .stopped →
        s.st (s.railOf n) = .reg → d.toNat = 0 * 2 ^ 31 + s.get F.PWM_CTRL_INVERT n * 2 ^ 30 + s.get F.PWM_CTRL_SWAP n * 2 ^ 29 +
        s.get F.PWM_CTRL_BST_N n * 2 ^ 16 + s.get F.PWM_CTRL_CUT_N n * 2 ^ 8 →
      Gives (.forceTri t .spi n d) s (fun u =>
        u.get F.PWM_CTRL_FORCE_TRI n = 0 ∧ (u.ph n).sw = .idle)) ∧
  -- R203: INVERT with the rail OFF in SERVICE
  (∀ (t : Nat) (s : State) (n : Fin 32) (d : Word),
      s.Calm → s.AsP3 1 → s.get F.PWM_CTRL_FORCE_TRI n < 2 → s.get F.PWM_CTRL_INVERT n < 2 → s.get F.PWM_CTRL_SWAP n < 2 →
        s.get F.PWM_CTRL_BST_N n < 128 → s.get F.PWM_CTRL_CUT_N n < 256 → s.mode = .service → s.parsed = true → s.cz1604 = false →
        s.st (s.railOf n) = .off → s.flag F.PWM_CTRL_INVERT n = false → d.toNat = s.get F.PWM_CTRL_FORCE_TRI n * 2 ^ 31 + 1 * 2 ^
        30 + s.get F.PWM_CTRL_SWAP n * 2 ^ 29 + s.get F.PWM_CTRL_BST_N n * 2 ^ 16 + s.get F.PWM_CTRL_CUT_N n * 2 ^ 8 →
      Gives (.overrideWrite t .sess n false d) s (fun u =>
        u.get F.PWM_CTRL_INVERT n = 1 ∧ u.get F.PWM_CTRL_SWAP n = s.get F.PWM_CTRL_SWAP n
          ∧ u.get F.PWM_CTRL_FORCE_TRI n = s.get F.PWM_CTRL_FORCE_TRI n)) ∧
  -- R203: SWAP of a pair takes both partners in one access
  (∀ (t : Nat) (s : State) (n m : Fin 32) (d : Word),
      s.Calm → s.AsP3 1 → s.get F.PWM_CTRL_FORCE_TRI n < 2 → s.get F.PWM_CTRL_INVERT n < 2 → s.get F.PWM_CTRL_SWAP n < 2 →
        s.get F.PWM_CTRL_BST_N n < 128 → s.get F.PWM_CTRL_CUT_N n < 256 → s.mode = .service → s.parsed = true → s.cz1604 = false →
        s.st (s.railOf n) = .off → s.partner n = some m → s.flag F.PWM_CTRL_SWAP n = false →
        d.toNat = s.get F.PWM_CTRL_FORCE_TRI n * 2 ^ 31 + s.get F.PWM_CTRL_INVERT n * 2 ^ 30 + 1 * 2 ^ 29 + s.get F.PWM_CTRL_BST_N
        n * 2 ^ 16 + s.get F.PWM_CTRL_CUT_N n * 2 ^ 8 →
      Gives (.overrideWrite t .sess n true d) s (fun u =>
        u.get F.PWM_CTRL_SWAP n = 1 ∧ u.get F.PWM_CTRL_SWAP m = 1)) ∧
  -- R203: refused otherwise
  (∀ (t : Nat) (s : State) (n : Fin 32) (d : Word),
      s.Calm → s.AsP3 1 → s.get F.PWM_CTRL_FORCE_TRI n < 2 → s.get F.PWM_CTRL_INVERT n < 2 → s.get F.PWM_CTRL_SWAP n < 2 →
        s.get F.PWM_CTRL_BST_N n < 128 → s.get F.PWM_CTRL_CUT_N n < 256 → s.mode = .service → s.parsed = true → s.cz1604 = false →
        s.st (s.railOf n) ≠ .off → s.flag F.PWM_CTRL_INVERT n = false → d.toNat = s.get F.PWM_CTRL_FORCE_TRI n * 2 ^ 31 + 1 * 2 ^
        30 + s.get F.PWM_CTRL_SWAP n * 2 ^ 29 + s.get F.PWM_CTRL_BST_N n * 2 ^ 16 + s.get F.PWM_CTRL_CUT_N n * 2 ^ 8 →
      Gives (.overrideWrite t .sess n false d) s (fun u =>
        u.get F.PWM_CTRL_INVERT n = 0 ∧ u.get F.PWM_STICKY_OVR_REJ n = 1 ∧ Changes [.rcd] [F.PWM_STICKY_OVR_REJ] s u)) ∧
  -- R221: four periods near PERIOD are followed
  (∀ (t : Nat) (s : State) (c : BitVec 4) (f : BitVec 3) (e a x y z m : Nat),
      s.Calm → s.flag F.SYNC_CFG_SYNC_EN = true → s.mode = .regulate → e = max s.now t * 64 / 5 + c.toNat % 13 + min f.toNat 4 - 2
        → s.pow.syncAt = some a → s.pow.syncHist.take 3 = [x, y, z] → m = (e - a + x + y + z) / 4 →
        (s.flag F.SYNC_STATUS_SYNCI_PRESENT = false ∨ 2 * e ≤ 2 * a + 3 * s.get F.SYNC_STATUS_PER_MEAS) →
        near10 s.syncPeriod m = true → m < 2 ^ 20 →
      Gives (.synciEdge t c f) s (fun u =>
        u.get F.SYNC_STATUS_PER_MEAS = m ∧ u.get F.SYNC_STATUS_SYNCI_PRESENT = 1 ∧ u.pow.syncAt = some e
          ∧ (∀ r ∈ s.syncRails, (u.fr r).rcAt = ((((((State.at s t).rePeriod (fun s => (s.set F.SYNC_STATUS_PER_MEAS 0 m).mark
          F.SYNC_STATUS_SYNCI_PRESENT)).fr r).rcAt + ((State.at s t).rePeriod (fun s => (s.set F.SYNC_STATUS_PER_MEAS 0 m).mark
          F.SYNC_STATUS_SYNCI_PRESENT)).railPeriod r : Nat) : Int) + moveDelta (((State.at s t).rePeriod (fun s => (s.set
          F.SYNC_STATUS_PER_MEAS 0 m).mark F.SYNC_STATUS_SYNCI_PRESENT)).railPeriod r) ((((State.at s t).rePeriod (fun s => (s.set
          F.SYNC_STATUS_PER_MEAS 0 m).mark F.SYNC_STATUS_SYNCI_PRESENT)).fr r).rcAt % ((State.at s t).rePeriod (fun s => (s.set
          F.SYNC_STATUS_PER_MEAS 0 m).mark F.SYNC_STATUS_SYNCI_PRESENT)).railPeriod r) ((e + s.get F.SYNC_CFG_SYNC_DLY) %
          ((State.at s t).rePeriod (fun s => (s.set F.SYNC_STATUS_PER_MEAS 0 m).mark F.SYNC_STATUS_SYNCI_PRESENT)).railPeriod
          r)).toNat))) ∧
  -- R221: the lock, within 32 ticks of the aim
  (∀ (t : Nat) (s : State) (c : BitVec 4) (f : BitVec 3) (e a x y z m : Nat),
      s.Calm → s.flag F.SYNC_CFG_SYNC_EN = true → s.mode = .regulate → e = max s.now t * 64 / 5 + c.toNat % 13 + min f.toNat 4 - 2
        → s.pow.syncAt = some a → s.pow.syncHist.take 3 = [x, y, z] → m = (e - a + x + y + z) / 4 →
        (s.flag F.SYNC_STATUS_SYNCI_PRESENT = false ∨ 2 * e ≤ 2 * a + 3 * s.get F.SYNC_STATUS_PER_MEAS) →
        near10 s.syncPeriod m = true → m < 2 ^ 20 → s.flag F.SYNC_STATUS_SYNC_LOCK = false →
        (∀ r ∈ s.syncRails, ((State.at s t).rePeriod (fun s => (s.set F.SYNC_STATUS_PER_MEAS 0 m).mark
        F.SYNC_STATUS_SYNCI_PRESENT)).syncErr e r ≤ 32) →
      Gives (.synciEdge t c f) s (fun u =>
        u.get F.SYNC_STATUS_SYNC_LOCK = 1 ∧ u.get F.SYNC_STATUS_PER_MEAS = m)) ∧
  -- R222: a present SYNCI whose period leaves ±10 %
  (∀ (t : Nat) (s : State) (c : BitVec 4) (f : BitVec 3) (e a x y z m : Nat),
      s.Calm → s.flag F.SYNC_CFG_SYNC_EN = true → s.mode = .regulate → e = max s.now t * 64 / 5 + c.toNat % 13 + min f.toNat 4 - 2
        → s.pow.syncAt = some a → s.pow.syncHist.take 3 = [x, y, z] → m = (e - a + x + y + z) / 4 →
        (s.flag F.SYNC_STATUS_SYNCI_PRESENT = false ∨ 2 * e ≤ 2 * a + 3 * s.get F.SYNC_STATUS_PER_MEAS) →
        s.flag F.SYNC_STATUS_SYNCI_PRESENT = true → near10 s.syncPeriod m = false →
      Gives (.synciEdge t c f) s (fun u =>
        u.get F.SYNC_STATUS_SYNCI_PRESENT = 0 ∧ u.get F.SYNC_STATUS_SYNC_LOCK = 0 ∧ u.get F.SYNC_STATUS_SYNC_LOST = 1)) ∧
  -- R222: no edge within 1.5 × PER_MEAS
  (∀ (t : Nat) (s : State),
      s.Calm → s.flag F.SYNC_STATUS_SYNCI_PRESENT = true → (State.at s t).syncLate (State.at s t).tick = true →
      Gives (.synciLost t true) s (fun u =>
        u.get F.SYNC_STATUS_SYNCI_PRESENT = 0 ∧ u.get F.SYNC_STATUS_SYNC_LOCK = 0 ∧ u.get F.SYNC_STATUS_SYNC_LOST = 1
          ∧ Changes [.pow, .rcd, .rails, .phases] [F.SYNC_STATUS_SYNCI_PRESENT, F.SYNC_STATUS_SYNC_LOCK, F.SYNC_STATUS_SYNC_LOST,
          F.PH_PLACE_OFFSET] s u)) ∧
  -- R222: PER_MEAS has left ±10 % of PERIOD
  (∀ (t : Nat) (s : State),
      s.Calm → s.flag F.SYNC_STATUS_SYNCI_PRESENT = true → near10 s.syncPeriod (s.get F.SYNC_STATUS_PER_MEAS) = false →
      Gives (.synciLost t false) s (fun u =>
        u.get F.SYNC_STATUS_SYNCI_PRESENT = 0 ∧ u.get F.SYNC_STATUS_SYNC_LOCK = 0 ∧ u.get F.SYNC_STATUS_SYNC_LOST = 1
          ∧ Changes [.pow, .rcd, .rails, .phases] [F.SYNC_STATUS_SYNCI_PRESENT, F.SYNC_STATUS_SYNC_LOCK, F.SYNC_STATUS_SYNC_LOST,
          F.PH_PLACE_OFFSET] s u))

/-- A set-point command of the host or of a session (R231), the P1 window (R232), the selector balls (R235, R236). Where a clause
  rests on a reading the spec leaves open, it is the model's: log entries 66, 67, 68 and 174. -/
def Obligations.SetPoints : Prop :=
  -- R231: accepted
  (∀ (t : Nat) (s : State) (r : Fin 8) (c : Nat),
      s.Calm → s.AsP2 → s.cz1604 = false → c < 4096 → s.spCheck r 4 c = none →
      Gives (.spCmd t .spi r (BitVec.ofNat 32 c)) s (fun u =>
        u.get F.SP_STATUS_SP_TGT r = c ∧ u.get F.SP_STATUS_SP_OWNER r = 4
          ∧ Changes [.rail r, .ports, .rcd] [F.SP_STATUS_SP_TGT, F.SP_STATUS_SP_OWNER] s u)) ∧
  -- R231: refused
  (∀ (t : Nat) (s : State) (r : Fin 8) (c y : Nat),
      s.Calm → s.AsP2 → s.cz1604 = false → c < 4096 → s.spCheck r 4 c = some y →
      Gives (.spCmd t .spi r (BitVec.ofNat 32 c)) s (fun u =>
        u.get F.SP_STATUS_SP_TGT r = s.get F.SP_STATUS_SP_TGT r ∧ u.get F.SP_CTRL_SP_REJ r = 1 ∧ u.Records 0x0801
          ∧ Changes [.rcd] [F.SP_CTRL_SP_REJ] s u)) ∧
  -- R231: the check in its order
  (∀ (t : Nat) (s : State) (r : Fin 8) (c y : Nat),
      s.Calm → s.AsP3 1 → s.cz1604 = false → c < 4096 → s.spCheck r 5 c = some y →
      Gives (.spCmd t .sess r (BitVec.ofNat 32 c)) s (fun u =>
        u.get F.SP_STATUS_SP_TGT r = s.get F.SP_STATUS_SP_TGT r ∧ (y = 4 ∨ y = 5))) ∧
  -- R232: accepted, a P1 set-point moves to the nearer edge
  (∀ (t : Nat) (s : State) (r : Fin 8) (l h : Nat),
      s.Calm → s.AsP2 → s.parsed = true → s.cz1604 = false → h < 4096 → s.winOk r l h = true → s.get F.SP_WIN_P1_MIN r ≠ l →
        (s.rail r).sp.upd ≠ (State.at s t).upd → s.get F.SP_STATUS_SP_OWNER r ≤ 3 →
      Gives (.spWin t .spi r (BitVec.ofNat 32 (h * 2 ^ 16 + l))) s (fun u =>
        u.get F.SP_WIN_P1_MIN r = l ∧ u.get F.SP_WIN_P1_MAX r = h ∧ u.get F.SP_STATUS_SP_TGT r = min (max (s.get F.SP_STATUS_SP_TGT
          r) l) h ∧ u.Records 0x0809)) ∧
  -- R232: another source keeps its set-point
  (∀ (t : Nat) (s : State) (r : Fin 8) (l h : Nat),
      s.Calm → s.AsP2 → s.parsed = true → s.cz1604 = false → h < 4096 → s.winOk r l h = true → s.get F.SP_WIN_P1_MIN r ≠ l →
        (s.rail r).sp.upd ≠ (State.at s t).upd → 3 < s.get F.SP_STATUS_SP_OWNER r →
      Gives (.spWin t .spi r (BitVec.ofNat 32 (h * 2 ^ 16 + l))) s (fun u =>
        u.get F.SP_WIN_P1_MIN r = l ∧ u.get F.SP_STATUS_SP_TGT r = s.get F.SP_STATUS_SP_TGT r)) ∧
  -- R232: wider than the image, refused
  (∀ (t : Nat) (s : State) (r : Fin 8) (l h : Nat),
      s.Calm → s.AsP2 → s.parsed = true → s.cz1604 = false → h < 4096 → l < 4096 → s.winOk r l h = false →
        s.get F.SP_WIN_P1_MIN r ≠ l →
      Gives (.spWin t .spi r (BitVec.ofNat 32 (h * 2 ^ 16 + l))) s (fun u =>
        u.get F.SP_WIN_P1_MIN r = s.get F.SP_WIN_P1_MIN r ∧ u.get F.SP_WIN_P1_MAX r = s.get F.SP_WIN_P1_MAX r
          ∧ Changes [.rcd] [] s u)) ∧
  -- R234, R235, R236
  (∀ (t : Nat) (s : State) (x3 x2 x1 x0 : BitVec 10) (b : Nat) (c : Nat) (r : Fin 8) (e : Nat),
      s.Still → s.vselOn = true → b = vselReads s.pow.vselRd [x0.toNat, x1.toNat, x2.toNat, x3.toNat] → vselCode b = some c →
        s.pow.vselAt + s.get F.VSEL_STATUS_VSEL_FILT * 100 ≤ max s.now t → (s.flag F.VSEL_STATUS_ACCEPTED = false ∨ s.get
        F.VSEL_STATUS_CODE ≠ c) → (s.get F.SP_CTRL_SRC_EN r).testBit 0 = true → (s.rail r).sp.vsel.getD c (false, 0) = (true, e) →
        e < 4096 → (s.rail r).sp.upd ≠ (State.at s t).upd → (State.at s t).spCheck r 1 e = none →
      Gives (.vselCodeAccept t ⟨x3, x2, x1, x0⟩) s (fun u =>
        u.get F.VSEL_STATUS_CODE = c ∧ u.get F.VSEL_STATUS_ACCEPTED = 1 ∧ u.get F.VSEL_STATUS_BALLS = b
          ∧ u.get F.SP_STATUS_SP_TGT r = e ∧ u.get F.SP_STATUS_SP_OWNER r = 1)) ∧
  -- R235: the same code again is no command
  (∀ (t : Nat) (s : State) (x3 x2 x1 x0 : BitVec 10) (b : Nat) (c : Nat),
      s.Calm → s.vselOn = true → b = vselReads s.pow.vselRd [x0.toNat, x1.toNat, x2.toNat, x3.toNat] → vselCode b = some c →
        s.flag F.VSEL_STATUS_ACCEPTED = true → s.get F.VSEL_STATUS_CODE = c →
      Gives (.vselCodeAccept t ⟨x3, x2, x1, x0⟩) s (fun u =>
        Changes [.pow] [F.VSEL_STATUS_BALLS] s u ∧ u.get F.VSEL_STATUS_BALLS = b)) ∧
  -- R235: no valid code for 1 ms
  (∀ (t : Nat) (s : State) (x3 x2 x1 x0 : BitVec 10) (b : Nat),
      s.Calm → s.vselOn = true → b = vselReads s.pow.vselRd [x0.toNat, x1.toNat, x2.toNat, x3.toNat] → vselCode b = none →
        s.pow.vselTold = false →
      Gives (.vselInvalid t ⟨x3, x2, x1, x0⟩) s (fun u =>
        u.get F.VSEL_STATUS_VSEL_INV = 1 ∧ u.get F.VSEL_STATUS_BALLS = b ∧ u.get F.VSEL_STATUS_CODE = s.get F.VSEL_STATUS_CODE
          ∧ u.Records 0x0802 ∧ Changes [.rcd, .pow] [F.VSEL_STATUS_VSEL_INV, F.VSEL_STATUS_BALLS] s u)) ∧
  -- R235: told once in an episode
  (∀ (t : Nat) (s : State) (x3 x2 x1 x0 : BitVec 10) (b : Nat),
      s.Calm → s.vselOn = true → b = vselReads s.pow.vselRd [x0.toNat, x1.toNat, x2.toNat, x3.toNat] → vselCode b = none →
        s.pow.vselTold = true →
      Gives (.vselInvalid t ⟨x3, x2, x1, x0⟩) s (fun u =>
        u.get F.VSEL_STATUS_BALLS = b ∧ Changes [.pow] [F.VSEL_STATUS_BALLS] s u))

/-- Every frame type acknowledged (R242, R244, R247, R250, R253, R255), its credit (R251), a frame refused (R246) and repeated
  (R248). Where a clause rests on a reading the spec leaves open, it is the model's: log entries 69, 72, 73, 74, 76, 177, 178 and
  186. -/
def Obligations.AedatFrames : Prop :=
  -- R242: NOP
  (∀ (t : Nat) (s : State) (p : Fin 2) (q : BitVec 4),
      s.Calm → s.portUp p = true → (s.port p).stuck = false → (s.port p).last = none → (s.port p).rd = none →
        ones 32 (s.ctxWord (s.get F.AL_STATUS_CTX_ID p)) % 2 = 1 →
      Gives (.nop t p q 0) s (fun u =>
        (u.port p).last.isSome = true ∧ u.get F.AL_STATUS_SILENT p = 0 ∧ Changes [.port p] [F.AL_STATUS_SILENT] s u)) ∧
  -- R246: a payload bit that must be 0
  (∀ (t : Nat) (s : State) (p : Fin 2) (q : BitVec 4) (w : Word),
      s.Calm → s.portUp p = true → (s.port p).stuck = false → (s.port p).last = none → (s.port p).rd = none →
        ones 32 (s.ctxWord (s.get F.AL_STATUS_CTX_ID p)) % 2 = 1 → w ≠ 0 →
      Gives (.nop t p q w) s (fun u =>
        u.get F.AL_COUNT_NAK_CNT p = min 255 (s.get F.AL_COUNT_NAK_CNT p + 1) ∧ (u.port p).last = none
          ∧ Changes [.port p] [F.AL_STATUS_SILENT, F.AL_COUNT_NAK_CNT] s u)) ∧
  -- R244: CTX
  (∀ (t : Nat) (s : State) (p : Fin 2) (q : BitVec 4) (w : Word),
      s.Calm → s.portUp p = true → (s.port p).stuck = false → (s.port p).last = none → (s.port p).rd = none →
        ones 32 (s.ctxWord (s.get F.AL_STATUS_CTX_ID p)) % 2 = 1 → w.toNat < 2 ^ 15 →
      Gives (.ctx t p q w) s (fun u =>
        (u.port p).last.isSome = true ∧ u.get F.AL_STATUS_CTX_ID p = w.toNat
          ∧ Changes [.port p] [F.AL_STATUS_SILENT, F.AL_STATUS_CTX_ID] s u)) ∧
  -- R247, R251: SETV
  (∀ (t : Nat) (s : State) (p : Fin 2) (q : BitVec 4) (w : Word) (d : BitVec 9) (r : Fin 8) (c : Nat),
      s.Calm → s.portUp p = true → (s.port p).stuck = false → (s.port p).last = none → (s.port p).rd = none →
        ones 32 (s.ctxWord (s.get F.AL_STATUS_CTX_ID p)) % 2 = 1 → s.withheld = false → (s.port p).held = 0 →
        0 < s.get F.AL_STATUS_CRED p → s.get F.AL_STATUS_CRED p ≤ 64 → r = railBits w.toNat → c = w.toNat / 2 ^ 12 % 2 ^ 12 →
        w.toNat / 2 ^ 24 % 2 ^ 5 = 0 → w.toNat % 16 = 0 → s.serves p r = true → (s.rail r).sp.upd ≠ (State.at s t).upd →
        (State.at s t).spCheckIn r (2 + p.val) c ((State.at s t).stAt r d.toNat) = none →
      Gives (.setv t p q ⟨w, d⟩) s (fun u =>
        (u.port p).last.isSome = true ∧ u.get F.SP_STATUS_SP_TGT r = c ∧ u.get F.SP_STATUS_SP_OWNER r = 2 + p.val
          ∧ u.get F.AL_STATUS_CRED p = s.get F.AL_STATUS_CRED p ∧ ((w.toNat / 2 ^ 4 % 2 ^ 8 ≠ 0 →
          (u.rail r).sp.slewLim = some (w.toNat / 2 ^ 4 % 2 ^ 8))))) ∧
  -- R246: SETV without a credit
  (∀ (t : Nat) (s : State) (p : Fin 2) (q : BitVec 4) (w : Word) (d : BitVec 9),
      s.Calm → s.portUp p = true → (s.port p).stuck = false → (s.port p).last = none → (s.port p).rd = none →
        ones 32 (s.ctxWord (s.get F.AL_STATUS_CTX_ID p)) % 2 = 1 → s.withheld = true → s.get F.AL_STATUS_CRED p = 0 →
        w.toNat / 2 ^ 24 % 2 ^ 5 = 0 → w.toNat % 16 = 0 →
      Gives (.setv t p q ⟨w, d⟩) s (fun u =>
        u.get F.AL_COUNT_NAK_CNT p = min 255 (s.get F.AL_COUNT_NAK_CNT p + 1) ∧ (u.port p).last = none
          ∧ u.get F.SP_STATUS_SP_TGT (railBits w.toNat) = s.get F.SP_STATUS_SP_TGT (railBits w.toNat) ∧ u.Records 0x0801)) ∧
  -- R248: a retry is acknowledged and not done again
  (∀ (t : Nat) (s : State) (p : Fin 2) (q : BitVec 4) (w : Word) (d : BitVec 9) (a : Nat),
      s.Calm → s.portUp p = true → (s.port p).stuck = false → (s.port p).rd = none →
        ones 32 (s.ctxWord (s.get F.AL_STATUS_CTX_ID p)) % 2 = 1 → (s.port p).last = some (((1 * 16 + q.toNat) * 2 ^ 32 + w.toNat),
        a) → max s.now t ≤ a + 100000 →
      Gives (.setv t p q ⟨w, d⟩) s (fun u =>
        u.get F.AL_STICKY_RETRY_S p = 1 ∧ u.get F.SP_STATUS_SP_TGT (railBits w.toNat) = s.get F.SP_STATUS_SP_TGT (railBits w.toNat)
          ∧ Changes [.port p] [F.AL_STICKY_RETRY_S, F.AL_STATUS_SILENT] s u)) ∧
  -- R266, R268, R264: HINT
  (∀ (t : Nat) (s : State) (p : Fin 2) (q : BitVec 4) (w : Word) (d : BitVec 9) (r : Fin 8) (x : Nat) (c : Ctx),
      s.Still → s.Calm → s.portUp p = true → (s.port p).stuck = false → (s.port p).last = none → (s.port p).rd = none →
        ones 32 (s.ctxWord (s.get F.AL_STATUS_CTX_ID p)) % 2 = 1 → s.withheld = false → (s.port p).held = 0 →
        0 < s.get F.AL_STATUS_CRED p → s.get F.AL_STATUS_CRED p ≤ 64 → r = railBits w.toNat → s.serves p r = true →
        s.tnOn r = true → s.isMember r = false → (s.cfg r).spans = false → s.mode = .regulate → s.st r = .reg →
        (State.at s t).stAt r d.toNat = .reg → x = s.get F.AL_STATUS_CTX_ID p → c = ((s.at t).ctxRefill x).ctx x → 0 < c.tk →
        w.toNat % 2 ^ 17 ≤ s.get F.TN_RATE_LEAD_MAX * 100 → (s.hints r).length < 64 → c.valid ≠ 15 →
        w.toNat / 2 ^ 17 % 2 ^ 12 ≠ 0 → ones 32 (s.ctxWord x) % 2 = 1 → ((s.switchingOf r).length ≠ 0 ∨ s.st r = .reg) →
        s.get F.MODE_STATUS_SHUTDOWN_ACT = 0 →
      Gives (.hint t p q ⟨w, d⟩) s (fun u =>
        (u.port p).last.isSome = true ∧ (u.hints r).length = (s.hints r).length + 1 ∧ ((∃ h ∈ u.hints r, h.ctx = x
          ∧ h.a = toS 12 (w.toNat / 2 ^ 17 % 2 ^ 12))) ∧ (u.ctx x).tk = c.tk - 1
          ∧ u.get F.AL_STATUS_CRED p = s.get F.AL_STATUS_CRED p)) ∧
  -- R269: UNHINT
  (∀ (t : Nat) (s : State) (p : Fin 2) (q : BitVec 4) (w : Word) (r : Fin 8),
      s.Still → s.Calm → s.portUp p = true → (s.port p).stuck = false → (s.port p).last = none → (s.port p).rd = none →
        ones 32 (s.ctxWord (s.get F.AL_STATUS_CTX_ID p)) % 2 = 1 → s.withheld = false → (s.port p).held = 0 →
        0 < s.get F.AL_STATUS_CRED p → s.get F.AL_STATUS_CRED p ≤ 64 → r = railBits w.toNat → s.serves p r = true →
        s.tnOn r = true → s.isMember r = false → (s.cfg r).spans = false → s.mode = .regulate → s.st r = .reg →
        w.toNat % 2 ^ 29 = 0 → ones 32 (s.ctxWord (s.get F.AL_STATUS_CTX_ID p)) % 2 = 1 →
      Gives (.unhint t p q w) s (fun u =>
        (u.port p).last.isSome = true ∧ ((∀ h ∈ u.hints r, h.ctx = s.get F.AL_STATUS_CTX_ID p → h.st ≠ .waiting ∧ h.up = false))
          ∧ u.get F.AL_STATUS_CRED p = s.get F.AL_STATUS_CRED p)) ∧
  -- R250: READ of a register that answers at once
  (∀ (t : Nat) (s : State) (p : Fin 2) (q : BitVec 4) (w : Word),
      s.Calm → s.portUp p = true → (s.port p).stuck = false → (s.port p).last = none → (s.port p).rd = none →
        ones 32 (s.ctxWord (s.get F.AL_STATUS_CTX_ID p)) % 2 = 1 → 0 < s.get F.AL_STATUS_CRED p → w.toNat < 2 ^ 16 →
        w.toNat % 4 = 0 → (s.regRead (s.who (pathOf p)) w.toNat).1 ≠ rAccess →
        s.bridged (s.who (pathOf p)) false w.toNat 0 = false →
      Gives (.read t p q w) s (fun u =>
        (u.port p).last.isSome = true ∧ u.get F.AL_STATUS_CRED p = s.get F.AL_STATUS_CRED p - 1
          ∧ (u.port p).rd.map (fun x => (x.seq, x.ready, x.data.isSome, x.readyAt)) = some (q.toNat, true, true, max s.now t))) ∧
  -- R10: an address without a register reads 0
  (∀ (t : Nat) (s : State) (p : Fin 2) (q : BitVec 4) (w : Word),
      s.Calm → s.portUp p = true → (s.port p).stuck = false → (s.port p).last = none → (s.port p).rd = none →
        ones 32 (s.ctxWord (s.get F.AL_STATUS_CTX_ID p)) % 2 = 1 → 0 < s.get F.AL_STATUS_CRED p → w.toNat < 2 ^ 16 →
        w.toNat % 4 = 0 → s.fieldsFor w.toNat = [] → s.bridged (s.who (pathOf p)) false w.toNat 0 = false →
      Gives (.read t p q w) s (fun u =>
        (u.port p).last.isSome = true ∧ (u.port p).rd = some ⟨q.toNat, true, some 0, max s.now t⟩)) ∧
  -- R250, R516: READ of a register of the Front die waits
  (∀ (t : Nat) (s : State) (p : Fin 2) (q : BitVec 4) (w : Word),
      s.Calm → s.portUp p = true → (s.port p).stuck = false → (s.port p).last = none → (s.port p).rd = none →
        ones 32 (s.ctxWord (s.get F.AL_STATUS_CTX_ID p)) % 2 = 1 → 0 < s.get F.AL_STATUS_CRED p → w.toNat < 2 ^ 16 →
        w.toNat % 4 = 0 → (s.regRead (s.who (pathOf p)) w.toNat).1 ≠ rAccess → (s.regRead (s.who (pathOf p)) w.toNat).1 = rOk →
        s.bridged (s.who (pathOf p)) false w.toNat 0 = true →
      Gives (.read t p q w) s (fun u =>
        (u.port p).last.isSome = true ∧ (u.port p).rd = some ⟨q.toNat, false, none, 0⟩
          ∧ u.br.c4 = s.br.c4 ++ [⟨pathOf p, .p1, false, w.toNat, 0⟩])) ∧
  -- R244: WADDR
  (∀ (t : Nat) (s : State) (p : Fin 2) (q : BitVec 4) (w : Word),
      s.Calm → s.portUp p = true → (s.port p).stuck = false → (s.port p).last = none → (s.port p).rd = none →
        ones 32 (s.ctxWord (s.get F.AL_STATUS_CTX_ID p)) % 2 = 1 → w.toNat < 2 ^ 16 → w.toNat % 4 = 0 →
      Gives (.waddr t p q w) s (fun u =>
        (u.port p).last.isSome = true ∧ (u.port p).wAddr = some w.toNat ∧ Changes [.port p] [F.AL_STATUS_SILENT] s u)) ∧
  -- R244: WDATA without a write address
  (∀ (t : Nat) (s : State) (p : Fin 2) (q : BitVec 4) (w : Word),
      s.Calm → s.portUp p = true → (s.port p).stuck = false → (s.port p).last = none → (s.port p).rd = none →
        ones 32 (s.ctxWord (s.get F.AL_STATUS_CTX_ID p)) % 2 = 1 → (s.port p).wAddr = none →
      Gives (.wdata t p q w) s (fun u =>
        u.get F.AL_COUNT_NAK_CNT p = min 255 (s.get F.AL_COUNT_NAK_CNT p + 1)
          ∧ Changes [.port p] [F.AL_STATUS_SILENT, F.AL_COUNT_NAK_CNT] s u)) ∧
  -- R244: WDATA of LOAD_CONSENT, which the matrix lets a port write (R404)
  (∀ (t : Nat) (s : State) (p : Fin 2) (q : BitVec 4) (w : Word) (r : Fin 8),
      s.Calm → s.portUp p = true → (s.port p).stuck = false → (s.port p).last = none → (s.port p).rd = none →
        ones 32 (s.ctxWord (s.get F.AL_STATUS_CTX_ID p)) % 2 = 1 → s.withheld = false → (s.port p).held = 0 →
        0 < s.get F.AL_STATUS_CRED p → s.get F.AL_STATUS_CRED p ≤ 64 → (s.port p).wAddr = some 0x0220 → s.AsP3 0 →
        s.flag F.TLM_SHAPE_CONS_ALLOW = true → w.toNat / 2 ^ 16 = s.sec.sid → (w.toNat / 256 % 256).testBit r.val = true →
        0 < w.toNat % 2 ^ 8 → 0 < s.sec.consMax → s.serves p r = true →
      Gives (.wdata t p q w) s (fun u =>
        (u.port p).last.isSome = true ∧ (u.port p).wAddr = none ∧ u.sec.cons.getD r.val 0 = max s.now t + min (w.toNat % 2 ^ 8)
          s.sec.consMax * 60000000000 ∧ u.get F.AL_STATUS_CRED p = s.get F.AL_STATUS_CRED p)) ∧
  -- R244: an acknowledged write that failed
  (∀ (t : Nat) (s : State) (p : Fin 2) (q : BitVec 4) (w : Word),
      s.Calm → s.portUp p = true → (s.port p).stuck = false → (s.port p).last = none → (s.port p).rd = none →
        ones 32 (s.ctxWord (s.get F.AL_STATUS_CTX_ID p)) % 2 = 1 → s.withheld = false → (s.port p).held = 0 →
        0 < s.get F.AL_STATUS_CRED p → s.get F.AL_STATUS_CRED p ≤ 64 → (s.port p).wAddr = some 0x0220 → s.AsP3 0 →
        s.flag F.TLM_SHAPE_CONS_ALLOW = true → w.toNat / 2 ^ 16 ≠ s.sec.sid →
      Gives (.wdata t p q w) s (fun u =>
        u.sec.cons = s.sec.cons ∧ (u.port p).last = none)) ∧
  -- R253: NOTEACK
  (∀ (t : Nat) (s : State) (p : Fin 2) (q : BitVec 4) (w : Word) (n : Notice) (l : List Notice),
      s.Calm → s.portUp p = true → (s.port p).stuck = false → (s.port p).last = none → (s.port p).rd = none →
        ones 32 (s.ctxWord (s.get F.AL_STATUS_CTX_ID p)) % 2 = 1 → (s.port p).notes = n :: l → (∀ r : Fin 8, s.hints r = []) →
        w.toNat = (s.port p).nseq → w.toNat < 16 →
      Gives (.noteack t p q w) s (fun u =>
        (u.port p).last.isSome = true ∧ (u.port p).notes = l ∧ (u.port p).nseq = (w.toNat + 1) % 16
          ∧ Changes [.port p] [F.AL_STATUS_SILENT] s u)) ∧
  -- R255: PRESET
  (∀ (t : Nat) (s : State) (p : Fin 2) (q : BitVec 4),
      s.Calm → s.portUp p = true → (s.port p).stuck = false → s.withheld = false → (∀ r : Fin 8, s.hints r = []) →
        s.isRetry p 9 q.toNat 0xA5A55A5A = false →
      Gives (.preset t p q 0xA5A55A5A) s (fun u =>
        (u.port p).wAddr = none ∧ (u.port p).rd = none ∧ (u.port p).last = none ∧ u.get F.AL_STATUS_CTX_ID p = 0
          ∧ (u.port p).notes = (s.port p).notes ∧ u.Records 0x0807))

/-- The gap fixes the return word (R239, R249); truncated and overlong frames (R239, R240); a stuck clock (R240); a failed CRC
  (R246); a lost read (R250); a silent port (R254); the pad supply (R256). Where a clause rests on a reading the spec leaves open,
  it is the model's: log entries 70, 71, 75 and 77. -/
def Obligations.AedatLine : Prop :=
  -- R239, R249: a whole frame
  (∀ (t : Nat) (s : State) (p : Fin 2) (h c : Byte) (w : Word),
      s.Calm → s.portUp p = true → (s.port p).stuck = false →
      Gives (.aedatFrameGap t p ⟨56, h, w, c⟩) s (fun u =>
        (u.port p).slot = (s.port p).slotWord ∧ Changes [.port p] [] s u)) ∧
  -- R239: fewer than 56 edges
  (∀ (t : Nat) (s : State) (p : Fin 2) (e : Nat) (h c : Byte) (w : Word),
      s.Calm → s.portUp p = true → (s.port p).stuck = false → 0 < e → e < 56 →
      Gives (.aedatFrameGap t p ⟨e, h, w, c⟩) s (fun u =>
        u.get F.AL_STICKY_TRUNC_S p = 1 ∧ (u.Records 0x0805 ∨ s.rcd.wins ≠ []))) ∧
  -- R240, R245: past edge 47 a frame is answered, and does nothing else
  (∀ (t : Nat) (s : State) (p : Fin 2) (e f : Nat) (h c : Byte) (w : Word),
      s.Calm → s.portUp p = true → (s.port p).stuck = false → 48 ≤ e → e < 56 → (s.port p).rd = none →
        linkCrc (crcBytes h.toNat w.toNat) = c.toNat → f = h.toNat / 16 → ones 32 (s.ctxWord (s.get F.AL_STATUS_CTX_ID p)) % 2 = 1
        → s.isRetry p f (h.toNat % 16) w.toNat = false → (State.at s t).isRetry p f (h.toNat % 16) w.toNat = false →
        (State.at s t).refusal p f w.toNat 0 = none →
      Gives (.aedatFrameGap t p ⟨e, h, w, c⟩) s (fun u =>
        (u.port p).ans = answerByte (s.inWin p) (!(s.port p).notes.isEmpty) (s.throt p) true (min 7 ((s.get F.AL_STATUS_CRED p -
          b2n (usesCredit f)) / 8)) ∧ (u.port p).last = (s.port p).last ∧ u.get F.AL_STICKY_TRUNC_S p = 1
          ∧ Changes [.port p, .rcd] [F.AL_STICKY_TRUNC_S] s u)) ∧
  -- R239: more than 56 edges
  (∀ (t : Nat) (s : State) (p : Fin 2) (e : Nat) (h c : Byte) (w : Word),
      s.Calm → s.portUp p = true → (s.port p).stuck = false → 56 < e →
      Gives (.aedatFrameGap t p ⟨e, h, w, c⟩) s (fun u =>
        u.get F.AL_STICKY_FRAME_S p = 1 ∧ u.get F.AL_COUNT_FRAME_ERR p = min 255 (s.get F.AL_COUNT_FRAME_ERR p + 1)
          ∧ Changes [.port p, .rcd] [F.AL_STICKY_FRAME_S, F.AL_COUNT_FRAME_ERR] s u)) ∧
  -- R240: the gap ends a stuck clock
  (∀ (t : Nat) (s : State) (p : Fin 2) (e : Nat) (h c : Byte) (w : Word),
      s.Calm → s.portUp p = true → (s.port p).stuck = true →
      Gives (.aedatFrameGap t p ⟨e, h, w, c⟩) s (fun u =>
        (u.port p).stuck = false ∧ Changes [.port p] [] s u)) ∧
  -- R240
  (∀ (t : Nat) (s : State) (p : Fin 2) (e : Nat) (h c : Byte) (w : Word),
      s.Calm → s.portUp p = true →
      Gives (.clkStuck t p ⟨e, h, w, c⟩) s (fun u =>
        (u.port p).stuck = true ∧ u.get F.AL_STICKY_CLK_STUCK p = 1)) ∧
  -- R246: a frame whose CRC fails
  (∀ (t : Nat) (s : State) (p : Fin 2) (h c : Byte) (w : Word),
      s.Calm → s.portUp p = true → (s.port p).stuck = false → (s.port p).rd = none →
        ones 32 (s.ctxWord (s.get F.AL_STATUS_CTX_ID p)) % 2 = 1 → linkCrc (crcBytes h.toNat w.toNat) ≠ c.toNat →
      Gives (.aedatReservedTypeFrame t p h w c) s (fun u =>
        u.get F.AL_COUNT_CRC_ERR p = min 65535 (s.get F.AL_COUNT_CRC_ERR p + 1)
          ∧ Changes [.port p, .rcd] [F.AL_COUNT_CRC_ERR] s u)) ∧
  -- R246: a reserved type, FORMAT
  (∀ (t : Nat) (s : State) (p : Fin 2) (h c : Byte) (w : Word),
      s.Calm → s.portUp p = true → (s.port p).stuck = false → (s.port p).rd = none → (s.port p).last = none →
        ones 32 (s.ctxWord (s.get F.AL_STATUS_CTX_ID p)) % 2 = 1 → linkCrc (crcBytes h.toNat w.toNat) = c.toNat → 160 ≤ h.toNat →
      Gives (.aedatReservedTypeFrame t p h w c) s (fun u =>
        u.get F.AL_COUNT_NAK_CNT p = min 255 (s.get F.AL_COUNT_NAK_CNT p + 1) ∧ (u.port p).last = none
          ∧ Changes [.port p] [F.AL_COUNT_NAK_CNT, F.AL_STATUS_SILENT] s u)) ∧
  -- R250: a result that no frame collected for 1 ms
  (∀ (t : Nat) (s : State) (p : Fin 2) (x : PortRead),
      s.Calm → (s.port p).rd = some x → x.ready = true → x.readyAt + 1000000 ≤ s.now → s.withheld = false → (s.port p).held = 0 →
        s.get F.AL_STATUS_CRED p < 64 →
      Gives (.readLost t p) s (fun u =>
        (u.port p).rd = none ∧ u.get F.AL_STICKY_READ_LOST p = 1 ∧ u.get F.AL_STATUS_CRED p = s.get F.AL_STATUS_CRED p + 1
          ∧ Changes [.port p] [F.AL_STICKY_READ_LOST] s u)) ∧
  -- R254: the port is reset
  (∀ (t : Nat) (s : State) (p : Fin 2),
      s.Calm → s.portUp p = true → (s.port p).goodAt + s.get F.AL_CFG_AL_TMO p * 1000000 ≤ s.now → s.get F.AL_CFG_AL_TMO p ≠ 0 →
        s.flag F.AL_STATUS_SILENT p = false → s.flag F.AL_CFG_ON_SILENT p = false →
      Gives (.aedatPortSilent t p) s (fun u =>
        u.get F.AL_STATUS_SILENT p = 1 ∧ u.get F.AL_STICKY_SILENT_S p = 1 ∧ u.get F.AL_STATUS_CTX_ID p = 0
          ∧ (u.port p).wAddr = none ∧ (u.port p).rd = none ∧ u.Records 0x0806
          ∧ ((∀ r : Fin 8, u.get F.SP_STATUS_SP_TGT r = s.get F.SP_STATUS_SP_TGT r)))) ∧
  -- R254: ON_SILENT, its rails return to BOOT_CODE
  (∀ (t : Nat) (s : State) (p : Fin 2) (r : Fin 8),
      s.Calm → s.portUp p = true → (s.port p).goodAt + s.get F.AL_CFG_AL_TMO p * 1000000 ≤ s.now → s.get F.AL_CFG_AL_TMO p ≠ 0 →
        s.flag F.AL_STATUS_SILENT p = false → s.flag F.AL_CFG_ON_SILENT p = true → s.get F.SP_STATUS_SP_OWNER r = 2 + p.val →
        s.get F.SP_WIN_P1_MIN r ≤ (s.cfg r).boot → (s.cfg r).boot ≤ s.get F.SP_WIN_P1_MAX r →
      Gives (.aedatPortSilent t p) s (fun u =>
        u.get F.SP_STATUS_SP_TGT r = (s.cfg r).boot ∧ u.get F.SP_STATUS_SP_OWNER r = 0)) ∧
  -- R256
  (∀ (t : Nat) (s : State),
      s.Calm → s.flag F.SUPPLY_STATUS_AL_IO_GOOD = true →
      Gives (.aedatPadSupplyLoss t) s (fun u =>
        u.get F.SUPPLY_STATUS_AL_IO_GOOD = 0 ∧ u.Records 0x080A ∧ Changes [.rcd] [F.SUPPLY_STATUS_AL_IO_GOOD] s u))

/-- The token refill (R265), the steps of an entry (R270, R272, R276), its score (R275), the early miss (R274) and the context
  commands (R277). Where a clause rests on a reading the spec leaves open, it is the model's: log entries 79 to 83, 175 and 176. -/
def Obligations.LoadHints : Prop :=
  -- R265
  (∀ (t : Nat) (s : State) (x : BitVec 15),
      s.Calm → s.pow.cdUp = true → s.get F.TN_RATE_TK_REFILL ≠ 0 → ones 32 (s.ctxWord x.toNat) % 2 = 1 →
      Gives (.tokenSweep t x) s (fun u =>
        u.ctx x.toNat = ctxOf (Ctx.word (refill (s.ctx x.toNat) (s.at t).stampNow (s.get F.TN_RATE_TK_MAX) (s.get
          F.TN_RATE_TK_REFILL))) ∧ Changes [.ctxs] [] s u)) ∧
  -- R263: a word that fails its parity is rewritten
  (∀ (t : Nat) (s : State) (x : BitVec 15),
      s.Calm → s.pow.cdUp = true → s.get F.TN_RATE_TK_REFILL ≠ 0 → ones 32 (s.ctxWord x.toNat) % 2 = 0 →
      Gives (.tokenSweep t x) s (fun u =>
        (u.ctx x.toNat).w = s.get F.TN_WEIGHT_W_INIT % 256 ∧ (u.ctx x.toNat).valid = 0
          ∧ ((∀ r : Fin 8, ∀ h ∈ u.hints r, h.ctx ≠ x.toNat)) ∧ u.Records 0x0906)) ∧
  -- R272: phases are asked for once
  (∀ (t : Nat) (s : State) (r : Fin 8) (x : BitVec 15) (j : Fin 4) (h : Hint),
      s.Still → s.tnOn r = true → s.st r = .reg → s.mode = .regulate → s.hintOf r x.toNat j = some h → h.st = .waiting → 0 < h.a →
        s.muted x.toNat = false → h.asked = false → ones 32 (s.ctxWord x.toNat) % 2 = 1 →
        (s.at t).reached h.due (-(100 * s.get F.TN_TIME_ADD_LEAD r : Int)) = true →
      Gives (.hintPhaseRequest t r x j) s (fun u =>
        ((u.hintOf r x.toNat j).map (·.asked)) = some true)) ∧
  -- R270: the entry takes its base and AEFF and rises
  (∀ (t : Nat) (s : State) (r : Fin 8) (x : BitVec 15) (j : Fin 4) (h : Hint),
      s.Still → s.tnOn r = true → s.st r = .reg → s.mode = .regulate → s.hintOf r x.toNat j = some h → h.st = .waiting →
        ones 32 (s.ctxWord x.toNat) % 2 = 1 → (s.at t).reached h.due (-(2 * s.get F.TN_SLEW_RAMP_ADV r : Int)) = true →
        s.muted x.toNat = false → (s.at t).reached h.due (s.get F.TN_TIME_HOLD_T r * 10) = false →
      Gives (.hintRise t r x j) s (fun u =>
        ((u.hintOf r x.toNat j).map (fun y => (y.st, y.base, y.aeff))) = some (HintSt.rising, s.iMean r, s.aeff r h))) ∧
  -- R276: a shadow entry of a muted context
  (∀ (t : Nat) (s : State) (r : Fin 8) (x : BitVec 15) (j : Fin 4) (h : Hint),
      s.Still → s.tnOn r = true → s.st r = .reg → s.mode = .regulate → s.hintOf r x.toNat j = some h → h.st = .waiting →
        ones 32 (s.ctxWord x.toNat) % 2 = 1 → (s.at t).reached h.due (-(2 * s.get F.TN_SLEW_RAMP_ADV r : Int)) = true →
        s.muted x.toNat = true →
      Gives (.hintRise t r x j) s (fun u =>
        ((u.hintOf r x.toNat j).map (fun y => (y.st, y.c))) = some (HintSt.scoring, h.c)
          ∧ u.get F.PHC_STATUS_ADD_PEND r = s.get F.PHC_STATUS_ADD_PEND r)) ∧
  -- R270: HOLD_T after the due time
  (∀ (t : Nat) (s : State) (r : Fin 8) (x : BitVec 15) (j : Fin 4) (h : Hint),
      s.Still → s.tnOn r = true → s.st r = .reg → s.mode = .regulate → s.hintOf r x.toNat j = some h → h.up = true →
        (s.at t).reached h.due (s.get F.TN_TIME_HOLD_T r * 10) = true →
      Gives (.hintHoldEnd t r x j) s (fun u =>
        ((u.hintOf r x.toNat j).map (·.st)) = some HintSt.falling)) ∧
  -- R275: a hit
  (∀ (t : Nat) (s : State) (r : Fin 8) (x : BitVec 15) (j : Fin 4) (h : Hint),
      s.Still → s.tnOn r = true → s.st r = .reg → s.mode = .regulate → s.hintOf r x.toNat j = some h → h.scored = false →
        ones 32 (s.ctxWord x.toNat) % 2 = 1 → (s.at t).reached h.due (s.get F.TN_TIME_CONF_T r * 100) = true →
        hitOf h (s.iMean r) = true →
      Gives (.hintScore t r x j) s (fun u =>
        u.get F.TN_SCORE_HITS r = min 65535 (s.get F.TN_SCORE_HITS r + 1)
          ∧ (u.ctx x.toNat).w = min 255 ((s.ctx x.toNat).w + s.get F.TN_WEIGHT_W_UP))) ∧
  -- R275: a miss
  (∀ (t : Nat) (s : State) (r : Fin 8) (x : BitVec 15) (j : Fin 4) (h : Hint),
      s.Still → s.tnOn r = true → s.st r = .reg → s.mode = .regulate → s.hintOf r x.toNat j = some h → h.scored = false →
        ones 32 (s.ctxWord x.toNat) % 2 = 1 → (s.at t).reached h.due (s.get F.TN_TIME_CONF_T r * 100) = true →
        hitOf h (s.iMean r) = false →
      Gives (.hintScore t r x j) s (fun u =>
        u.get F.TN_SCORE_MISSES r = min 65535 (s.get F.TN_SCORE_MISSES r + 1)
          ∧ (u.ctx x.toNat).w = (s.ctx x.toNat).w - s.get F.TN_WEIGHT_W_DN)) ∧
  -- R274: four updates against the hint current
  (∀ (t : Nat) (s : State) (r : Fin 8),
      s.Still → s.mode = .regulate → s.st r = .reg → s.tnOn r = true → 4 ≤ (s.eng r).missPos →
      Gives (.earlyMiss t r) s (fun u =>
        u.get F.TN_STAT_EARLY_MISS_S r = 1 ∧ ((∀ h ∈ u.hints r, 0 < h.a → h.up = false)))) ∧
  -- R277: 01
  (∀ (t : Nat) (s : State) (x : BitVec 15),
      s.Still → s.AsP2 → s.cz1604 = false → ones 32 (s.ctxWord x.toNat) % 2 = 1 →
      Gives (.ctxResetWeight t .spi x) s (fun u =>
        (u.ctx x.toNat).w = s.get F.TN_WEIGHT_W_INIT % 256 ∧ u.Records 0x0907)) ∧
  -- R277: 10
  (∀ (t : Nat) (s : State) (x : BitVec 15) (r : Fin 8),
      s.Still → s.AsP2 → s.cz1604 = false → ones 32 (s.ctxWord x.toNat) % 2 = 1 → s.st r = .reg → s.tnOn r = true →
        s.mode = .regulate →
      Gives (.ctxMute t .spi x) s (fun u =>
        (u.ctx x.toNat).w = 0 ∧ ((∀ h ∈ u.hints r, h.ctx = x.toNat → h.up = false)) ∧ u.Records 0x0907)) ∧
  -- R277: 11
  (∀ (t : Nat) (s : State) (x : BitVec 15) (r : Fin 8),
      s.Still → s.AsP2 → s.cz1604 = false → ones 32 (s.ctxWord x.toNat) % 2 = 1 → s.st r = .reg → s.tnOn r = true →
        s.mode = .regulate →
      Gives (.ctxFlush t .spi x) s (fun u =>
        ((∀ h ∈ u.hints r, h.ctx = x.toNat → h.st = .unwinding ∧ h.scored = true)) ∧ u.Records 0x0907))

/-- The crowbar and its end (R297, R298), under-voltage and its timeout (R299), power good (R300), over-current (R301, R302), the
  clear of a rail (R292). Where a clause rests on a reading the spec leaves open, it is the model's: log entries 86. -/
def Obligations.RailProtection : Prop :=
  -- R297, R298: the crowbar starts, PGOOD falls
  (∀ (t : Nat) (s : State) (r : Fin 8),
      s.Still → s.flag F.SEN_CFG_SEN_STATE r = true → s.flag F.RP_STATUS_OV_RD r = true → (s.fr r).ovaRun = 0 →
        s.get F.RP_WIN_OV_FILT r ≠ 0 → (s.fr r).ls ≠ .crowbar → s.st r = .reg →
      Gives (.railOvervoltage t r) s (fun u =>
        (u.fr r).ls = .crowbar ∧ u.get F.RP_STATUS_CB_ACT r = 1 ∧ u.get F.RP_STICKY_OV_S r = 1 ∧ u.get F.RP_STATUS_PGOOD_ST r = 0
          ∧ (u.fr r).cbAt = max s.now t)) ∧
  -- R298: fast stop and LATCHED
  (∀ (t : Nat) (s : State) (r : Fin 8),
      s.Still → (s.fr r).ls = .crowbar → (s.fr r).cbAt + s.get F.RP_TIME_CB_MAX r * 1000 ≤ s.now → s.mode.running = true →
        s.flag F.SEN_CFG_SEN_STATE r = true → (s.cfg r).critical = false → (s.fr r).cbCause < 16 →
      Gives (.crowbarEnd t r) s (fun u =>
        u.st r = .latched ∧ u.get F.RP_STATUS_LATCH_CAUSE r = (s.fr r).cbCause ∧ u.get F.SEN_CFG_SEN_STATE r = 0
          ∧ u.get F.RP_STATUS_CB_ACT r = 0)) ∧
  -- R287: a critical rail, T9
  (∀ (t : Nat) (s : State) (r : Fin 8),
      s.Still → (s.fr r).ls = .crowbar → (s.fr r).cbAt + s.get F.RP_TIME_CB_MAX r * 1000 ≤ s.now → s.mode.running = true →
        s.flag F.SEN_CFG_SEN_STATE r = true → (s.cfg r).critical = true →
      Gives (.crowbarEnd t r) s (fun u =>
        u.mode = .safestop ∧ u.get F.PROT_STATUS_DL_CAUSE = 6 ∧ u.st r = .latched)) ∧
  -- R299, R300
  (∀ (t : Nat) (s : State) (r : Fin 8),
      s.Calm → s.flag F.RP_STATUS_UV_RD r = true →
      Gives (.railUndervoltage t r) s (fun u =>
        u.get F.RP_STICKY_UV_S r = 1 ∧ u.get F.RP_STATUS_PGOOD_ST r = 0)) ∧
  -- R299, R302
  (∀ (t : Nat) (s : State) (r : Fin 8),
      s.Still → s.flag F.RP_STATUS_UV_RD r = true → s.get F.RP_TIME_UV_HIC_T r ≠ 0 →
        (s.fr r).uvAt + s.get F.RP_TIME_UV_HIC_T r * 100000 ≤ s.now → s.mode.running = true → (s.st r).switching = true →
        s.flag F.MODE_STATUS_SHUTDOWN_ACT = false → s.get F.HIC_STATUS_RETRY_CNT r < s.get F.HIC_CFG_HIC_RETRY r →
      Gives (.uvHiccupTimeout t r) s (fun u =>
        u.st r = .hiccup ∧ u.get F.HIC_STATUS_RETRY_CNT r = s.get F.HIC_STATUS_RETRY_CNT r + 1 ∧ u.get F.SEN_CFG_SEN_STATE r = 0)) ∧
  -- R301, R302
  (∀ (t : Nat) (s : State) (r : Fin 8) (a : Nat),
      s.Still → (s.fr r).ocAt = some a → a + s.get F.RP_TIME_OC_SUST r * 10000 ≤ s.now → s.mode.running = true →
        (s.st r).switching = true → s.flag F.MODE_STATUS_SHUTDOWN_ACT = false →
        s.get F.HIC_STATUS_RETRY_CNT r < s.get F.HIC_CFG_HIC_RETRY r →
      Gives (.railOvercurrent t r) s (fun u =>
        u.st r = .hiccup ∧ u.get F.RP_STICKY_OC_S r = 1 ∧ (u.fr r).ocAt = none
          ∧ u.get F.HIC_STATUS_RETRY_CNT r = s.get F.HIC_STATUS_RETRY_CNT r + 1)) ∧
  -- R300
  (∀ (t : Nat) (s : State) (r : Fin 8),
      s.Still → (s.st r = .reg ∨ s.st r = .shed) → s.ovOut r = false → s.flag F.RP_STATUS_UV_RD r = false →
        (s.fr r).pgAt + s.get F.RP_TIME_PG_DLY r * 10000 ≤ s.now →
      Gives (.pgoodRelease t r) s (fun u =>
        u.get F.RP_STATUS_PGOOD_ST r = 1 ∧ Changes [.rail r] [] s u)) ∧
  -- R292: a LATCHED rail whose cause is absent
  (∀ (t : Nat) (s : State) (r : Fin 8),
      s.Still → s.AsP2 → s.mode = .regulate → s.cz1604 = false → s.st r = .latched → s.latchPresent r = false →
        s.isMember r = false → s.pow.en[s.regionOf r] = false →
      Gives (.railClr t .spi (BitVec.ofNat 32 (2 ^ r.val))) s (fun u =>
        u.st r = .off ∧ u.get F.RP_STATUS_LATCH_CAUSE r = s.get F.RP_STATUS_LATCH_CAUSE r ∧ u.get F.RP_STATUS_PRE_HOLD r = 0)) ∧
  -- R292: the cause is present, refused
  (∀ (t : Nat) (s : State) (r : Fin 8),
      s.Still → s.AsP2 → s.mode = .regulate → s.cz1604 = false → s.st r = .latched → s.latchPresent r = true →
      Gives (.railClr t .spi (BitVec.ofNat 32 (2 ^ r.val))) s (fun u =>
        u.st r = .latched ∧ u.get F.RP_STATUS_LATCH_CAUSE r = s.get F.RP_STATUS_LATCH_CAUSE r))

/-- The senses (R307 to R310), REFIN (R305), the references (R311 to R313), the pre-start tests (R316), the bus (R303), the leases
  (R319) and FAULT_HOLD (R291). Where a clause rests on a reading the spec leaves open, it is the model's: log entries 84, 85 and
  87. -/
def Obligations.SenseAndReferences : Prop :=
  -- R307: to the auxiliary sense
  (∀ (t : Nat) (s : State) (r : Fin 8),
      s.Still → s.st r = .reg → s.mode.running = true → s.flag F.RP_STATUS_SNS_AUX r = false → 2 ≤ (s.fr r).snsRun →
        s.flag F.RP_MISC_AUX_ALLOW r = true →
      Gives (.senseOpen t r) s (fun u =>
        u.get F.RP_STATUS_SNS_AUX r = 1 ∧ u.get F.RP_STATUS_SNS_CAUSE r = 0 ∧ u.get F.RP_STICKY_SNS_OPEN_S r = 1
          ∧ (u.st r = .reg ∨ u.st r = .shed))) ∧
  -- R307: soft stop, LATCHED at its end
  (∀ (t : Nat) (s : State) (r : Fin 8),
      s.Still → s.st r = .reg → s.mode.running = true → s.flag F.RP_STATUS_SNS_AUX r = false → 2 ≤ (s.fr r).snsRun →
        s.flag F.RP_MISC_AUX_ALLOW r = false → (s.cfg r).critical = false →
      Gives (.senseOpen t r) s (fun u =>
        u.st r = .rampdown ∧ (u.fr r).stop = .toLatched ∧ (u.fr r).stopCause = 3 ∧ (u.eng r).openLoop = true
          ∧ u.get F.RP_STATUS_SNS_AUX r = 0)) ∧
  -- R309: the request of the Control die
  (∀ (t : Nat) (s : State) (r : Fin 8),
      s.Calm → s.pow.cdUp = true → 8 ≤ ((s.eng r).par64.filter id).length →
      Gives (.frozenFeedbackRequest t r) s (fun u =>
        (u.fr r).frzReq = true ∧ (u.eng r).par64 = [])) ∧
  -- R309: the main sense is frozen
  (∀ (t : Nat) (s : State) (r : Fin 8),
      s.Still → s.st r = .reg → s.mode.running = true → s.flag F.RP_STATUS_SNS_AUX r = false → (s.fr r).frzDone = true →
        s.flag F.RP_MISC_AUX_ALLOW r = true →
      Gives (.feedbackFrozen t r) s (fun u =>
        u.get F.RP_STATUS_SNS_AUX r = 1 ∧ u.get F.RP_STATUS_SNS_CAUSE r = 1 ∧ u.get F.RP_STICKY_FROZEN_S r = 1)) ∧
  -- R310: open-loop soft stop
  (∀ (t : Nat) (s : State) (r : Fin 8),
      s.Still → s.st r = .reg → s.mode.running = true → s.flag F.RP_STATUS_SNS_AUX r = true → 32 ≤ (s.fr r).clipRun →
        (s.cfg r).critical = false →
      Gives (.auxSenseImplausible t r) s (fun u =>
        u.st r = .rampdown ∧ (u.fr r).stopCause = 3 ∧ (u.eng r).openLoop = true ∧ u.get F.RP_STICKY_AUXBAD_S r = 1)) ∧
  -- R303: fault 0x2, every rail fast-stops
  (∀ (t : Nat) (s : State) (r : Fin 8),
      s.Still → 2 ≤ s.pow.busOvRun → s.mode.running = true →
      Gives (.busOvervoltage t) s (fun u =>
        u.mode = .safestop ∧ u.get F.PROT_STATUS_BUS_OV_ACT = 1 ∧ u.get F.PROT_STATUS_DL_CAUSE = 2
          ∧ (((s.st r).switching = true → u.st r = .off)))) ∧
  -- R305
  (∀ (t : Nat) (s : State) (m : Fin 4) (n : Fin 32) (v : Nat),
      s.Calm → s.mode = .regulate → s.flag F.REFIN_STATUS_REFIN_FAULT m = false → s.flag F.PH_STATE_ASSIGNED n = true →
        s.regionOf (s.railOf n) = m → (refinOut v = true ∨ s.refinFar m v = true) →
      Gives (.refinFault t m v) s (fun u =>
        u.get F.REFIN_STATUS_REFIN_FAULT m = 1 ∧ u.get F.REFIN_STATUS_REFIN_FAULT_S m = 1
          ∧ Changes [.rcd, .th, .phases] [F.REFIN_STATUS_REFIN_FAULT, F.REFIN_STATUS_REFIN_FAULT_S] s u)) ∧
  -- R305: 1 ms of inside readings and a good round
  (∀ (t : Nat) (s : State) (m : Fin 4),
      s.Calm → s.th.refinOk.getD m.val true = true → s.th.refinAt.getD m.val 0 + 1000000 ≤ s.now →
      Gives (.refinFaultEnd t m) s (fun u =>
        u.get F.REFIN_STATUS_REFIN_FAULT m = 0 ∧ Changes [] [F.REFIN_STATUS_REFIN_FAULT] s u)) ∧
  -- R312
  (∀ (t : Nat) (s : State) (r : Fin 8),
      s.Calm → s.th.trimAt + 10000 ≤ s.now →
      Gives (.refTrimStep t) s (fun u =>
        (u.fr r).refTrim = toward (s.fr r).refTrim 0 1 ∧ Changes [.rails, .th] [F.REF_STATUS_REF_TRIM, F.REF_STATUS_TRANSFER] s u))
          ∧
  -- R313: fault 0x3
  (∀ (t : Nat) (s : State),
      s.Still → s.get F.REF_STATUS_NOVOTE_CNT = 3 → s.pow.noVote = false → s.mode.running = true →
      Gives (.noReferenceVote t) s (fun u =>
        u.mode = .safestop ∧ u.get F.PROT_STATUS_DL_CAUSE = 3 ∧ u.pow.noVote = true
          ∧ ((∀ r, s.st r = .reg → u.st r = .rampdown)))) ∧
  -- R311: the initial votes agree
  (∀ (t : Nat) (s : State) (a d e : Int),
      s.Calm → s.mode = .precheck → s.flag F.MODE_STATUS_SHUTDOWN_ACT = false → s.get F.REF_STATUS_REF_OUT = 0 → |a| ≤ 3000 →
        |d| ≤ 3000 → |e| ≤ 3000 →
      Gives (.precheckReferenceVote t a d e) s (fun u =>
        u.pow.voted = true ∧ u.pow.noVote = false ∧ u.get F.REF_STATUS_NOVOTE_CNT = 0 ∧ u.get F.REF_STATUS_REF_DRIFT = 0
          ∧ u.get F.REF_STATUS_REF_OUT = 0)) ∧
  -- R312: a reference is outvoted
  (∀ (t : Nat) (s : State) (a d e : Int),
      s.Calm → s.mode = .precheck → s.flag F.MODE_STATUS_SHUTDOWN_ACT = false → s.get F.REF_STATUS_REF_OUT = 0 →
        s.get F.REF_STATUS_REF_SEL = 0 → 6000 < |a| → |d| ≤ 3000 → 6000 < |e| →
      Gives (.precheckReferenceVote t a d e) s (fun u =>
        u.pow.voted = true ∧ u.get F.REF_STATUS_REF_OUT = 1 ∧ u.get F.REF_STATUS_REF_SEL = 1
          ∧ (u.Records 0x0A0E ∨ u.rcd.c1q.any (fun c => c.evt.code == 0x0A0E)))) ∧
  -- R316: every test passes
  (∀ (t : Nat) (s : State) (r : Fin 8) (l : List (Int × Int × Int)),
      s.Still → s.st r = .armed → (s.fr r).passed = false → (s.fr r).senLead = true → s.mode = .regulate → ((∀ e ∈ l, |e.1| ≤ 40
        ∧ e.2.1 < 40 ∧ e.2.2 ≤ (s.cfg r).hsI)) → s.get F.PHC_CTRL_MIN_LIVE r ≤ (s.liveOf r).length →
        (s.phasesOf r).length ≤ l.length →
      Gives (.prestartTest t r 1000 l 0 0 0 0) s (fun u =>
        (u.fr r).passed = true ∧ (u.fr r).tested = true ∧ u.get F.REFIN_STATUS_REFIN_REF (s.regionOf r) = 1000)) ∧
  -- R316: REFIN out of its window holds every armed rail of the region
  (∀ (t : Nat) (s : State) (r q : Fin 8) (v : Nat) (l : List (Int × Int × Int)),
      s.Still → s.st r = .armed → (s.fr r).passed = false → (s.fr r).senLead = true → s.mode = .regulate → (v < 600 ∨ 1500 < v) →
        s.regionOf q = s.regionOf r → s.st q = .armed →
      Gives (.prestartTest t r v l 0 0 0 0) s (fun u =>
        u.st q = .off ∧ u.get F.RP_STATUS_PRE_HOLD q = 1 ∧ u.get F.RP_STICKY_PRECHECK_S r = 1)) ∧
  -- R316, R317: a half-bridge short, fault 0x1
  (∀ (t : Nat) (s : State) (r : Fin 8) (l : List (Int × Int × Int)) (y : Int),
      s.Still → s.st r = .armed → (s.fr r).passed = false → (s.fr r).senLead = true → s.mode = .regulate → (s.cfg r).hsDv * 5 < y →
        l = [] →
      Gives (.prestartTest t r 1000 l 0 0 0 y) s (fun u =>
        u.mode = .safestop ∧ u.get F.PROT_STATUS_DL_CAUSE = 1 ∧ u.get F.RP_STICKY_PRECHECK_S r = 1)) ∧
  -- R291
  (∀ (t : Nat) (s : State),
      s.Calm → s.AsP2 → s.mode = .regulate → s.cz1604 = false →
      Gives (.faultHoldClear t .spi) s (fun u =>
        u.get F.FAULT_HOLD_FAULT_HOLD = 0)) ∧
  -- R319: the counted expiry of a lease that is held
  (∀ (t : Nat) (s : State) (i : Fin 5),
      s.Calm → s.leaseHeld i.val = true →
      Gives (.leaseExpiry t i) s (fun u =>
        (u.get F.LEASE_STATUS_LEASE_EXP_S).testBit i.val = true ∧ u.get (leaseField i.val) = min (2 ^ (leaseField i.val).width - 1)
          (s.get (leaseField i.val) + 1) ∧ u.Records 0x0A13)) ∧
  -- R319, R17: the access that holds the bridge ends
  (∀ (t : Nat) (s : State) (a : Access) (l : List Access),
      s.Calm → s.br.c4 = a :: l → s.leaseHeld 3 = true →
      Gives (.leaseExpiry t 3) s (fun u =>
        u.br.c4 = l))

/-- Rounds and slots (R343, R344), requests (R345), the self-check (R346), sensors (R349), TFLT sums (R348), fault 0x7 (R354).
  Where a clause rests on a reading the spec leaves open, it is the model's: log entries 91 to 98. -/
def Obligations.Housekeeping : Prop :=
  -- R343
  (∀ (t : Nat) (s : State),
      s.Calm → s.hkRuns = true → s.th.running = false → (State.at s t).hkDue = true →
      Gives (.hkRoundStart t) s (fun u =>
        u.th.running = true ∧ u.th.next = 0 ∧ u.th.startAt = some (max s.now t)
          ∧ u.get F.HK_STATUS_ROUND_CNT = (s.get F.HK_STATUS_ROUND_CNT + 1) % 2 ^ 16 ∧ Changes [.th] [F.HK_STATUS_ROUND_CNT] s u)) ∧
  -- R343: skipped while one runs
  (∀ (t : Nat) (s : State),
      s.Calm → s.hkRuns = true → s.th.running = true → (State.at s t).hkDue = true →
      Gives (.hkRoundStart t) s (fun u =>
        u.get F.HK_STATUS_ROUND_SKIP = min 255 (s.get F.HK_STATUS_ROUND_SKIP + 1) ∧ u.get F.THERM_STICKY_SKIP_S = 1
          ∧ u.th = { s.th with startAt := some (max s.now t) } ∧ Changes [.rcd, .th] [F.HK_STATUS_ROUND_SKIP,
          F.THERM_STICKY_SKIP_S] s u)) ∧
  -- R343: before the next round is due
  (∀ (t : Nat) (s : State),
      s.Calm → s.hkRuns = true → (State.at s t).hkDue = false →
      Gives (.hkRoundStart t) s (fun u =>
        Changes [] [] s u)) ∧
  -- R345
  (∀ (t : Nat) (s : State),
      s.Calm → s.hkRuns = true →
      Gives (.hkDemandRequest t) s (fun u =>
        u.th.demand = s.th.demand + 1 ∧ u.th.owed = (s.th.owed || !s.th.running) ∧ Changes [.th] [] s u)) ∧
  -- R344: a supply channel
  (∀ (t : Nat) (s : State) (a e : Int),
      s.Calm → s.hkRuns = true → s.th.running = true → s.th.owed = false → s.hkNext = 22 → s.flag F.HK_STATUS_SELF_FAIL = false →
        0 ≤ a → a < 65536 →
      Gives (.hkSlotComplete t 22 a e) s (fun u =>
        u.get F.HK_V0_VDD33 = a.toNat ∧ u.th.next = 23 ∧ Changes [.th] [F.HK_V0_VDD33] s u)) ∧
  -- R344: channels come in order
  (∀ (t : Nat) (s : State) (c : Fin 32) (a e : Int),
      s.Calm → s.hkRuns = true → c.val ≠ s.hkNext → c.val ≠ 30 →
      Gives (.hkSlotComplete t c a e) s (fun u =>
        Changes [] [] s u)) ∧
  -- R345: a request is served before the next slot
  (∀ (t : Nat) (s : State) (a e : Int),
      s.Calm → s.hkRuns = true → s.th.owed = true →
      Gives (.hkSlotComplete t 30 a e) s (fun u =>
        u.th.demand = s.th.demand - 1 ∧ u.th.next = s.th.next ∧ Changes [.th] [] s u)) ∧
  -- R347, R349: a die sensor out of range is STALE
  (∀ (t : Nat) (s : State) (c : Fin 32) (a e : Int),
      s.Calm → s.hkRuns = true → s.th.running = true → s.th.owed = false → s.hkNext = c.val → c.val < 6 →
        s.tempFailed (sensReg c.val) = false → 1400 < a → s.th.sens.length = 47 →
      Gives (.hkSlotComplete t c a e) s (fun u =>
        u.tempStale (sensReg c.val) = true ∧ u.temp (sensReg c.val) = s.temp (sensReg c.val)
          ∧ (u.sens c.val).bad = (s.sens c.val).bad + 1)) ∧
  -- R349: a good reading
  (∀ (t : Nat) (s : State) (c : Fin 32) (a e : Int),
      s.Calm → s.hkRuns = true → s.th.running = true → s.th.owed = false → s.hkNext = c.val → c.val < 6 →
        s.flag F.HK_STATUS_SELF_FAIL = false → (s.sens c.val).failed = false → -440 ≤ a → a ≤ 1400 →
      Gives (.hkSlotComplete t c a e) s (fun u =>
        u.temp (sensReg c.val) = a ∧ u.tempStale (sensReg c.val) = false ∧ u.tempFailed (sensReg c.val) = false)) ∧
  -- R346
  (∀ (t : Nat) (s : State),
      s.Calm → 2 ≤ s.th.selfRun → s.flag F.HK_STATUS_SELF_FAIL = false →
      Gives (.selfCheckFail t) s (fun u =>
        u.get F.HK_STATUS_SELF_FAIL = 1 ∧ Changes [.rcd] [F.HK_STATUS_SELF_FAIL] s u)) ∧
  -- R349
  (∀ (t : Nat) (s : State) (i : Fin 47),
      s.Calm → (s.sens i.val).failed = false → s.get F.HK_CFG_STALE_MAX ≤ (s.sens i.val).bad → (s.sens i.val).bad ≠ 0 →
        s.th.sens.length = 47 →
      Gives (.sensorFailed t i) s (fun u =>
        u.tempFailed (sensReg i.val) = true ∧ u.temp (sensReg i.val) = 0 ∧ u.get F.THERM_STICKY_FAIL_S = 1
          ∧ (u.sens i.val).failed = true)) ∧
  -- R348: a scan joins its sum
  (∀ (t : Nat) (s : State) (n : Fin 32) (c : BitVec 10) (y z : Nat),
      s.Calm → s.mode = .regulate → s.flag F.PH_STATE_ASSIGNED n = true → s.flag F.SEN_CFG_SEN_STATE (s.railOf n) = true →
        s.flag F.PWM_STATUS_TFLT_FAULT n = false → s.th.sum.getD n.val (0, 0) = (y, z) → y + 1 < 16 → s.th.sum.length = 32 →
      Gives (.tfltScan t n c) s (fun u =>
        u.th.sum.getD n.val (0, 0) = (y + 1, z + c.toNat) ∧ Changes [.th] [] s u)) ∧
  -- R348: the sixteenth gives the temperature
  (∀ (t : Nat) (s : State) (n : Fin 32) (c : BitVec 10) (z : Nat) (v : Int),
      s.Calm → s.mode = .regulate → s.flag F.PH_STATE_ASSIGNED n = true → s.flag F.SEN_CFG_SEN_STATE (s.railOf n) = true →
        s.flag F.PWM_STATUS_TFLT_FAULT n = false → s.th.sum.getD n.val (0, 0) = (15, z) → s.flag F.HK_STATUS_SELF_FAIL = false →
        s.th.tfSlope ≠ 0 → tfltTemp s.th.tfV0 s.th.tfSlope s.th.tfVmin (z + c.toNat) = some v → -2048 ≤ v →
        (s.sens (15 + n.val)).failed = false → s.th.sum.length = 32 →
      Gives (.tfltScan t n c) s (fun u =>
        u.temp (sensReg (15 + n.val)) = v ∧ u.th.sum.getD n.val (0, 0) = (0, 0))) ∧
  -- R354: one high reading
  (∀ (t : Nat) (s : State) (c : BitVec 6),
      s.Calm → s.mode = .regulate → s.get F.TH_LIMITS_PKG_TSHUT ≠ 0 → s.th.cmp &&& c.toNat = 0 → c ≠ 0 →
      Gives (.pkgTshutStrobe t c) s (fun u =>
        u.th.cmp = c.toNat ∧ u.get F.THERM_STATUS_PKG_SHUT = 1 ∧ Changes [.th] [F.THERM_STATUS_PKG_SHUT] s u)) ∧
  -- R354: two consecutive high readings, fault 0x7
  (∀ (t : Nat) (s : State) (c : BitVec 6),
      s.Still → s.mode = .regulate → s.get F.TH_LIMITS_PKG_TSHUT ≠ 0 → s.th.cmp &&& c.toNat ≠ 0 → s.th.strobe = 0 →
      Gives (.pkgTshutStrobe t c) s (fun u =>
        u.mode = .safestop ∧ u.get F.PROT_STATUS_DL_CAUSE = 7 ∧ u.get F.FAULT_HOLD_FAULT_HOLD = 1))

/-- Captures and the counter (R376, R377), the charger (R365 to R367, R383), insertion (R382), the pack test (R384), learning
  (R387), the record (R389). Where a clause rests on a reading the spec leaves open, it is the model's: log entries 99, 100, 102,
  104, 106, 190 and 191. -/
def Obligations.ChargerAndPack : Prop :=
  -- R365, R366: the input is present
  (∀ (t : Nat) (s : State) (a : BitVec 16),
      s.Still → s.flag F.PK_CFG_PACK_DECL = true → s.chgOk = true → s.chg = 1 → s.pk.retryWait = false →
        4800 ≤ s.get F.HK_V0_VAON → a.toNat / 256 % 256 = 255 →
      Gives (.chargerInputCheck t a) s (fun u =>
        u.get F.PK_STATE_CHG_IN = 1 ∧ u.chg = (if s.batBelow s.pkc.vpre then 2 else 3) ∧ u.pk.swLow = 0)) ∧
  -- R365: the input is not present
  (∀ (t : Nat) (s : State) (a : BitVec 16),
      s.Still → s.flag F.PK_CFG_PACK_DECL = true → s.chgOk = true → s.chg = 1 → s.pk.retryWait = false →
        4800 ≤ s.get F.HK_V0_VAON → a.toNat / 256 % 256 ≠ 255 →
      Gives (.chargerInputCheck t a) s (fun u =>
        u.get F.PK_STATE_CHG_IN = 0 ∧ u.chg = 1 ∧ u.pk.retryWait = true)) ∧
  -- R365: 1 s after the stop
  (∀ (t : Nat) (s : State),
      s.Calm → s.pk.retryAt + 1000000000 ≤ s.now →
      Gives (.chargerRetry t) s (fun u =>
        u.pk.retryWait = false)) ∧
  -- R365: 8 periods below 16.0 V
  (∀ (t : Nat) (s : State) (w d : Nat),
      s.Still → s.flag F.PK_CFG_PACK_DECL = true → s.chgOk = true → 4800 ≤ s.get F.HK_V0_VAON → (s.chg = 3 ∨ s.chg = 4) →
        w < 16000 → s.pk.swLow = 7 →
      Gives (.chargerSwitchingPeriod t w d) s (fun u =>
        u.chg = 1 ∧ u.pk.retryWait = true ∧ u.get F.PK_STATE_CHG_IN = 0)) ∧
  -- R367: CC to CV
  (∀ (t : Nat) (s : State) (w d : Nat),
      s.Still → s.flag F.PK_CFG_PACK_DECL = true → s.chgOk = true → 4800 ≤ s.get F.HK_V0_VAON → s.chg = 3 → 16000 ≤ w → w ≤ 62000 →
        d < s.ichgEff →
      Gives (.chargerSwitchingPeriod t w d) s (fun u =>
        u.chg = 4 ∧ u.pk.swLow = 0)) ∧
  -- R367, R383
  (∀ (t : Nat) (s : State),
      s.Still → s.flag F.PK_CFG_PACK_DECL = true → s.chgOk = true → s.chg = 4 →
        (State.at s t).heldFor s.pk.termAt (s.pkc.termT * 1000000000) = true → s.batI ≤ s.pkc.iterm → s.fccS ≠ 0 →
        s.get F.PK_CAP_FCC * 3600 < 2 ^ 31 → s.pow.cdUp = true →
      Gives (.chargeTermination t) s (fun u =>
        u.chg = 5 ∧ u.get F.PK_STATE_FULL = 1 ∧ u.get F.PK_STATE_COARSE = 0 ∧ u.get F.PK_QREM_QREM = s.fccS
          ∧ u.get F.PK_SOC_ASOC = 10000 ∧ u.Records 0x0D07)) ∧
  -- R367
  (∀ (t : Nat) (s : State),
      s.Still → s.flag F.PK_CFG_PACK_DECL = true → s.chgOk = true → s.chg = 5 → s.batBelow (s.pkc.vcv - s.pkc.vrech) = true →
        (State.at s t).heldFor s.pk.rechAt 10000000000 = true →
      Gives (.chargerRecharge t) s (fun u =>
        u.chg = 3)) ∧
  -- R367
  (∀ (t : Nat) (s : State),
      s.Calm → s.flag F.PK_CFG_PACK_DECL = true → s.chg = 2 → s.pk.chgAt + s.pkc.preTmax * 60000000000 ≤ s.now →
      Gives (.chargerPreTimeout t) s (fun u =>
        u.chg = 7 ∧ u.get F.PK_STATE_CHG_FLT = 2 ∧ u.get F.PK_STATE_PACK_DEAD = 1 ∧ u.Records 0x0D08)) ∧
  -- R367
  (∀ (t : Nat) (s : State),
      s.Calm → s.flag F.PK_CFG_PACK_DECL = true → (s.chg = 3 ∨ s.chg = 4) → s.pk.chgAt + s.pkc.chgTimer * 3600000000000 ≤ s.now →
      Gives (.chargerTimerExpiry t) s (fun u =>
        u.chg = 7 ∧ u.get F.PK_STATE_CHG_FLT = 1 ∧ u.get F.PK_STICKY_CHG_FLT_S = 1)) ∧
  -- R367
  (∀ (t : Nat) (s : State),
      s.Calm → s.flag F.PK_CFG_PACK_DECL = true → s.chg ≠ 7 → s.batAbove (s.pkc.vcv + 50) = true →
        (State.at s t).heldFor s.pk.ovpAt 1000000000 = true →
      Gives (.chargerOvp t) s (fun u =>
        u.chg = 7 ∧ u.get F.PK_STATE_CHG_FLT = 3)) ∧
  -- R367: back to WAIT
  (∀ (t : Nat) (s : State) (d : Word),
      s.Calm → s.AsP2 → s.parsed = true → s.cz1604 = false → s.flag F.PK_CFG_PACK_DECL = true → s.flag F.PK_STATE_PRESENT = true →
        s.chg = 7 → (∀ e ∈ s.writes (s.who .spi) 0x4020 (d.toNat ||| 0x10000000), e.1 = F.PK_CTRL_PK_CLR) →
      Gives (.pkClr t .spi d) s (fun u =>
        u.chg = 1 ∧ u.get F.PK_STATE_CHG_FLT = 0)) ∧
  -- R382
  (∀ (t : Nat) (s : State),
      s.Calm → s.pk.insHold = true → s.pk.insAt + 2000000000 ≤ s.now → s.get F.PK_CFG_DESIGN_CAP ≠ 0 →
        s.get F.PK_CFG_DESIGN_CAP < 65536 →
      Gives (.insertionHoldEnd t) s (fun u =>
        u.pk.insHold = false ∧ u.pk.firstEst = true ∧ u.get F.PK_CAP_FCC = s.get F.PK_CFG_DESIGN_CAP ∧ u.get F.PK_CAP_CYC_CNT = 0
          ∧ u.get F.PK_LIFE_RFACT = 0x4000)) ∧
  -- R376
  (∀ (t : Nat) (s : State) (v : BitVec 14) (i : Int) (w : BitVec 16),
      s.Calm → s.flag F.PK_CFG_PACK_DECL = true → s.flag F.SUPPLY_STATUS_VDD33_GOOD = true → s.mode = .regulate →
        s.flag F.HK_STATUS_SELF_FAIL = false → s.pkc.rshunt ≠ 0 →
      Gives (.packCapture t v i w) s (fun u =>
        u.get F.PK_VOLT_BAT_V = v.toNat ∧ u.get F.PK_CUR_BAT_I = ofS 20 (roundDiv (i * 12500) s.pkc.rshunt)
          ∧ u.pk.capAt = max s.now t)) ∧
  -- R363: two captures above 1.5 V a cell
  (∀ (t : Nat) (s : State) (v : BitVec 14) (i : Int) (w : BitVec 16),
      s.Calm → s.flag F.PK_CFG_PACK_DECL = true → s.flag F.SUPPLY_STATUS_VDD33_GOOD = true → s.mode = .regulate →
        s.flag F.HK_STATUS_SELF_FAIL = false → s.flag F.PK_STATE_PRESENT = false → s.pk.upRun = 1 →
        4 * s.cells * 1500 ≤ 5 * v.toNat →
      Gives (.packCapture t v i w) s (fun u =>
        u.get F.PK_STATE_PRESENT = 1 ∧ (u.pk.insHold = true ∨ s.pk.seen = false))) ∧
  -- R377
  (∀ (t : Nat) (s : State) (c : BitVec 16),
      s.Calm → s.mode ≠ .dormant → s.flag F.SUPPLY_STATUS_VDD33_GOOD = true →
      Gives (.coulombCounterUpdate t c) s (fun u =>
        u.ccAcc = toS 32 (ofS 32 (s.ccAcc + toS 16 (c.toNat + 65536 - s.pk.ccRaw))) ∧ u.pk.ccRaw = c.toNat)) ∧
  -- R377: QREM follows
  (∀ (t : Nat) (s : State) (c : BitVec 16),
      s.Calm → s.mode = .regulate → s.pow.cdUp = true → s.flag F.PK_CFG_PACK_DECL = true → s.flag F.PK_STATE_PRESENT = true →
        s.flag F.SUPPLY_STATUS_VDD33_GOOD = true →
      Gives (.coulombCounterUpdate t c) s (fun u =>
        u.get F.PK_QREM_QREM = (satI 0 s.fccS (s.pk.qbase + s.chargeOf (u.ccAcc - s.pk.cbase))).toNat)) ∧
  -- R384: TEST_INT starts a test
  (∀ (t : Nat) (s : State),
      s.Calm → s.chgBase = true → s.flag F.PK_CFG_PACK_DECL = true → s.pk.test = 0 → s.pk.recRest = false → s.pkc.testInt ≠ 0 →
        s.pow.testEnd + s.pkc.testInt * 86400000000000 ≤ s.now →
      Gives (.pkTest t none) s (fun u =>
        u.get F.PK_STATE_TEST_ACT = 1 ∧ u.pk.test = 1 ∧ u.chg = 1 ∧ u.pk.testRetry = false)) ∧
  -- R384: a written request starts a test
  (∀ (t : Nat) (s : State) (d : Word),
      s.Calm → s.chgBase = true → s.flag F.PK_CFG_PACK_DECL = true → s.pk.test = 0 → s.pk.recRest = false → s.AsP3 1 →
        s.parsed = true → s.cz1604 = false → (∀ e ∈ s.writes (s.who .sess) 0x4020 (d.toNat ||| 0x20000000), e.1 =
        F.PK_CTRL_PK_TEST) →
      Gives (.pkTest t (some (.sess, d))) s (fun u =>
        u.get F.PK_STATE_TEST_ACT = 1 ∧ u.pk.test = 1 ∧ u.chg = 1)) ∧
  -- R384
  (∀ (t : Nat) (s : State),
      s.Calm → s.flag F.PK_CFG_PACK_DECL = true → s.chgBase = true → s.pk.test = 1 → s.rested = true →
      Gives (.packTestRestEnd t) s (fun u =>
        u.pk.test = 2 ∧ u.chg = 6 ∧ u.pk.testV0 = s.get F.PK_VOLT_BAT_V)) ∧
  -- R384
  (∀ (t : Nat) (s : State),
      s.Calm → s.flag F.PK_CFG_PACK_DECL = true → s.pk.test = 2 → s.chg = 6 → s.chgBase = true → s.pk.testAt + 2000000000 ≤ s.now →
        s.batI * s.rPack ≠ 0 →
      Gives (.packTestMeasure t) s (fun u =>
        u.get F.PK_LIFE_RFACT = (satI 8192 65372 (((s.get F.PK_VOLT_BAT_V : Int) - s.pk.testV0) * 12500 * 16384 / (s.batI *
          s.rPack))).toNat ∧ u.pk.test = 0 ∧ u.chg = 1 ∧ u.get F.PK_STATE_TEST_ACT = 0 ∧ u.Records 0x0D0C)) ∧
  -- R384
  (∀ (t : Nat) (s : State),
      s.Calm → s.chgBase = true → s.flag F.PK_CFG_PACK_DECL = true → s.pk.test = 0 → s.pk.recRest = false → s.pk.testRetry = true →
        s.pk.testAt + 3600000000000 ≤ s.now →
      Gives (.packTestRetry t) s (fun u =>
        u.pk.test = 1 ∧ u.pk.testRetry = false)) ∧
  -- R387
  (∀ (t : Nat) (s : State),
      s.Calm → s.flag F.PK_STATE_LRN_OPEN = true → s.pk.lrnAt + 172800000000000 ≤ s.now →
      Gives (.learnTimeout t) s (fun u =>
        u.get F.PK_STATE_LRN_OPEN = 0 ∧ u.get F.PK_STATE_DISQ = 3 ∧ u.get F.PK_STICKY_LRN_DQ_S = 1 ∧ u.Records 0x0D0B)) ∧
  -- R389
  (∀ (t : Nat) (s : State),
      s.Calm → s.pow.cdUp = true → s.mode = .regulate → s.flag F.PK_CFG_PACK_DECL = true → s.flag F.PK_STATE_PRESENT = true →
        s.pk.recAt + 3600000000000 ≤ s.now →
      Gives (.packRecordHourly t) s (fun u =>
        u.pk.recAt = max s.now t ∧ u.pk.asocQ = s.get F.PK_SOC_ASOC))

/-- Input loss enters HOLDUP by T12 (R368, R370, R87); the own stops of the Front die (R372); probes and T13 (R373, R88); the end
  of a discharge (R374); the recovery rest (R381). Where a clause rests on a reading the spec leaves open, it is the model's: log
  entries 101, 103 and 105. -/
def Obligations.HoldUp : Prop :=
  -- R370, R87: T12
  (∀ (t : Nat) (s : State),
      s.Still → s.flag F.PK_CFG_PACK_DECL = true → s.pk.busGood = true → s.pk.probing = false → s.pk.inLost = false →
        (s.mode = .regulate ∨ s.mode = .shed ∨ s.mode = .softstart ∨ s.mode = .hiccup) →
        allRails.any (fun r => (s.st r).switching || s.st r == .caretaken) = true → s.flag F.PK_STATE_HU_ARM = true →
        s.pow.noArm = false → s.flag F.PK_STATE_PRESENT = true →
      Gives (.inputLoss t) s (fun u =>
        u.mode = .holdup ∧ u.get F.MODE_STATUS_LAST_TRANS = 12 ∧ u.pk.inLost = true ∧ u.pk.gate = true
          ∧ u.get F.PK_STATE_HU_ON = 1 ∧ u.get F.PK_STICKY_HU_S = 1 ∧ u.Records 0x0D01 ∧ u.chg ≠ 2 ∧ u.chg ≠ 3 ∧ u.chg ≠ 4)) ∧
  -- R370: the pack is not ready, every rail fast-stops
  (∀ (t : Nat) (s : State) (r : Fin 8),
      s.Still → s.flag F.PK_CFG_PACK_DECL = true → s.pk.busGood = true → s.pk.probing = false → s.pk.inLost = false →
        s.mode = .regulate → allRails.any (fun r => (s.st r).switching || s.st r == .caretaken) = true →
        s.flag F.PK_STATE_HU_ARM = false → s.pow.noArm = false →
      Gives (.inputLoss t) s (fun u =>
        u.pk.gate = false ∧ u.pow.noArm = true ∧ u.get F.PK_STATE_EOD_CAUSE = 7 ∧ (((s.st r).switching = true → u.st r = .off)))) ∧
  -- R368: no rail to hold
  (∀ (t : Nat) (s : State),
      s.Still → s.flag F.PK_CFG_PACK_DECL = true → s.pk.busGood = true → s.pk.probing = false → s.pk.inLost = false →
        s.mode = .regulate → allRails.any (fun r => (s.st r).switching || s.st r == .caretaken) = false →
      Gives (.inputLoss t) s (fun u =>
        u.pk.busGood = false ∧ u.pk.inLost = true ∧ u.pk.gate = s.pk.gate)) ∧
  -- R368
  (∀ (t : Nat) (s : State),
      s.Still → s.flag F.PK_CFG_PACK_DECL = true → s.mode ≠ .dormant → s.mode ≠ .holdup → s.pk.inLost = true → s.pk.gate = false →
        s.pk.probing = false →
      Gives (.busGood t) s (fun u =>
        u.pk.busGood = true ∧ u.pk.inLost = false ∧ u.pow.noArm = false)) ∧
  -- R373: in HOLDUP only a probe restores
  (∀ (t : Nat) (s : State),
      s.Still → s.flag F.PK_CFG_PACK_DECL = true → s.mode = .holdup → s.pk.inLost = true →
      Gives (.busGood t) s (fun u =>
        u.pk.busGood = true ∧ u.pk.inLost = true ∧ u.mode = .holdup)) ∧
  -- R372
  (∀ (t : Nat) (s : State) (r : Fin 8),
      s.Still → s.mode = .holdup → s.pk.inLost = true → s.pk.gate = true → s.pow.noArm = false →
      Gives (.packOvercurrent t) s (fun u =>
        u.pk.gate = false ∧ u.get F.PK_STATE_HU_ON = 0 ∧ u.get F.PK_STATE_EOD_CAUSE = 6 ∧ u.get F.PK_STICKY_EOD_S = 1
          ∧ u.pow.noArm = true ∧ (((s.st r).switching = true → u.st r = .off)))) ∧
  -- R372: judged as a probe
  (∀ (t : Nat) (s : State) (v : BitVec 14),
      s.Still → s.mode = .holdup → s.pk.inLost = true → s.pk.gate = true → s.pow.noArm = false → s.pk.busGood = true →
      Gives (.packReverseCurrent t v) s (fun u =>
        u.pk.gate = false ∧ u.pk.probing = true ∧ u.pk.probeRev = true ∧ u.pk.probeV = v.toNat ∧ u.mode = .holdup)) ∧
  -- R373
  (∀ (t : Nat) (s : State) (v : BitVec 14),
      s.Still → s.mode = .holdup → s.pk.inLost = true → s.pk.gate = true → s.pow.noArm = false →
        s.pk.probeAt + s.pkc.huProbe * 10000000 ≤ s.now → s.pk.busGood = true →
      Gives (.holdupProbe t v) s (fun u =>
        u.pk.gate = false ∧ u.pk.probing = true ∧ u.pk.probeRev = false ∧ u.pk.probeV = v.toNat ∧ u.get F.PK_STATE_HU_ON = 0)) ∧
  -- R373: the comparator already reads not good
  (∀ (t : Nat) (s : State) (v : BitVec 14),
      s.Still → s.mode = .holdup → s.pk.inLost = true → s.pk.gate = true → s.pow.noArm = false →
        s.pk.probeAt + s.pkc.huProbe * 10000000 ≤ s.now → s.pk.busGood = false →
      Gives (.holdupProbe t v) s (fun u =>
        u.pk.gate = true ∧ u.pk.probing = false ∧ u.get F.PK_STICKY_PROBE_FAIL_S = 1)) ∧
  -- R373, R88: restored, T13
  (∀ (t : Nat) (s : State) (v : BitVec 14),
      s.Still → s.mode = .holdup → s.pk.probing = true → s.pk.probeAt + s.pkc.probeT * 10000 ≤ s.now → s.pk.probeV ≤ v.toNat + 160 →
      Gives (.probeEnd t v) s (fun u =>
        u.pk.inLost = false ∧ u.pk.gate = false ∧ u.pk.recRest = true ∧ u.pow.noArm = false ∧ u.get F.PK_STICKY_RESTORE_S = 1
          ∧ u.mode = u.runningMode ∧ u.Records 0x0D02)) ∧
  -- R373: a fall of more than 200 mV
  (∀ (t : Nat) (s : State) (v : BitVec 14),
      s.Still → s.mode = .holdup → s.pk.inLost = true → s.pow.noArm = false → s.pk.probing = true →
        s.pk.probeAt + s.pkc.probeT * 10000 ≤ s.now → v.toNat + 160 < s.pk.probeV → s.flag F.MODE_STATUS_SHUTDOWN_ACT = false →
      Gives (.probeEnd t v) s (fun u =>
        u.pk.inLost = true ∧ u.pk.gate = true ∧ u.pk.probing = false ∧ u.mode = .holdup ∧ u.get F.PK_STICKY_PROBE_FAIL_S = 1)) ∧
  -- R374: cause TIME, the rails stop in order
  (∀ (t : Nat) (s : State) (r : Fin 8),
      s.Calm → s.mode = .holdup → s.pkc.huTmax ≠ 0 → s.pk.huAt + s.pkc.huTmax * 1000000000 ≤ s.now → s.pow.noArm = false →
      Gives (.holdupTimeLimit t) s (fun u =>
        u.get F.PK_STATE_EOD_CAUSE = 3 ∧ u.pow.noArm = true ∧ u.get F.PK_STICKY_EOD_S = 1 ∧ u.Records 0x0D03 ∧ u.st r ≠ .armed
          ∧ u.st r ≠ .hiccup)) ∧
  -- R381, R380
  (∀ (t : Nat) (s : State),
      s.Calm → s.pk.recRest = true → s.rested = true → s.batTFailed = false → s.ocvSoc.2 = true → s.fccS ≠ 0 →
      Gives (.recoveryRestEnd t) s (fun u =>
        u.pk.recRest = false ∧ u.get F.PK_STICKY_OCV_S = 1 ∧ u.get F.PK_STATE_COARSE = 0 ∧ u.Records 0x0D09)) ∧
  -- R381: a BAT_T that FAILED gives no point
  (∀ (t : Nat) (s : State),
      s.Calm → s.pk.recRest = true → s.rested = true → s.batTFailed = true → s.mode = .regulate →
        s.flag F.PK_CFG_PACK_DECL = false →
      Gives (.recoveryRestEnd t) s (fun u =>
        u.pk.recRest = false ∧ u.get F.PK_SOC_ASOC = s.get F.PK_SOC_ASOC))

/-- The windows of rail current and voltage for each class, of phase current and of pack current truncate by the window exponent,
  then to the quantum, and start again (R400, R401, R402); at the end of a P2 window the values that firmware publishes change
  (R400). Where a clause rests on a reading the spec leaves open, it is the model's: log entries 153 and 193. -/
def Obligations.ShapedTelemetry : Prop :=
  -- R401, R402: rail current for P1
  (∀ (t : Nat) (s : State) (r : Fin 8) (x : Stream) (wa qa : Nat),
      s.Calm → s.mode ≠ .dormant → s.mode ≠ .wake → (State.at s t).windowDue 0 = true → s.tlm.ri1[r.val]? = some x →
        wa = (s.get F.TLM_SHAPE_W_ADD % 4) → qa = (s.get F.TLM_SHAPE_Q_ADD % 4) →
      Gives (.telemetryWindowEnd t 0) s (fun u =>
        (u.tlm.ri1.getD r.val {}).out = (x.acc / 2 ^ (12 + wa)) / 2 ^ (5 + qa) * 2 ^ (5 + qa) ∧ (u.tlm.ri1.getD r.val {}).acc = 0
          ∧ (u.tlm.ri1.getD r.val {}).cnt = (x.cnt + 1) % 256 ∧ Changes [.tlm] [F.FW_PUB_VALUE] s u)) ∧
  -- R401, R402: rail voltage for P1
  (∀ (t : Nat) (s : State) (r : Fin 8) (x : Stream) (wa qa : Nat),
      s.Calm → s.mode ≠ .dormant → s.mode ≠ .wake → (State.at s t).windowDue 0 = true → s.tlm.rv1[r.val]? = some x →
        wa = (s.get F.TLM_SHAPE_W_ADD % 4) → qa = (s.get F.TLM_SHAPE_Q_ADD % 4) →
      Gives (.telemetryWindowEnd t 0) s (fun u =>
        (u.tlm.rv1.getD r.val {}).out = (x.acc / 2 ^ (12 + wa)) / 2 ^ (4 + qa) * 2 ^ (4 + qa) ∧ (u.tlm.rv1.getD r.val {}).acc = 0
          ∧ (u.tlm.rv1.getD r.val {}).cnt = (x.cnt + 1) % 256 ∧ Changes [.tlm] [F.FW_PUB_VALUE] s u)) ∧
  -- R401, R402: rail current for P2
  (∀ (t : Nat) (s : State) (r : Fin 8) (x : Stream) (wa qa : Nat),
      s.Calm → s.mode ≠ .dormant → s.mode ≠ .wake → (State.at s t).windowDue 1 = true → s.tlm.ri2[r.val]? = some x →
        wa = (s.get F.TLM_SHAPE_W_ADD / 4 % 4) → qa = (s.get F.TLM_SHAPE_Q_ADD / 4 % 4) →
      Gives (.telemetryWindowEnd t 1) s (fun u =>
        (u.tlm.ri2.getD r.val {}).out = (x.acc / 2 ^ (15 + wa)) / 2 ^ (3 + qa) * 2 ^ (3 + qa) ∧ (u.tlm.ri2.getD r.val {}).acc = 0
          ∧ (u.tlm.ri2.getD r.val {}).cnt = (x.cnt + 1) % 256 ∧ Changes [.tlm] [F.FW_PUB_VALUE] s u)) ∧
  -- R401, R402: rail voltage for P2
  (∀ (t : Nat) (s : State) (r : Fin 8) (x : Stream) (wa qa : Nat),
      s.Calm → s.mode ≠ .dormant → s.mode ≠ .wake → (State.at s t).windowDue 1 = true → s.tlm.rv2[r.val]? = some x →
        wa = (s.get F.TLM_SHAPE_W_ADD / 4 % 4) → qa = (s.get F.TLM_SHAPE_Q_ADD / 4 % 4) →
      Gives (.telemetryWindowEnd t 1) s (fun u =>
        (u.tlm.rv2.getD r.val {}).out = (x.acc / 2 ^ (15 + wa)) / 2 ^ (2 + qa) * 2 ^ (2 + qa) ∧ (u.tlm.rv2.getD r.val {}).acc = 0
          ∧ (u.tlm.rv2.getD r.val {}).cnt = (x.cnt + 1) % 256 ∧ Changes [.tlm] [F.FW_PUB_VALUE] s u)) ∧
  -- R401, R402: phase current
  (∀ (t : Nat) (s : State) (n : Fin 32) (x : Stream) (wa qa : Nat),
      s.Calm → s.mode ≠ .dormant → s.mode ≠ .wake → (State.at s t).windowDue 1 = true → s.tlm.ph[n.val]? = some x →
        wa = (s.get F.TLM_SHAPE_W_ADD / 4 % 4) → qa = (s.get F.TLM_SHAPE_Q_ADD / 4 % 4) →
      Gives (.telemetryWindowEnd t 1) s (fun u =>
        (u.tlm.ph.getD n.val {}).out = (x.acc / 2 ^ (15 + wa)) / 2 ^ (3 + qa) * 2 ^ (3 + qa) ∧ (u.tlm.ph.getD n.val {}).acc = 0
          ∧ (u.tlm.ph.getD n.val {}).cnt = (x.cnt + 1) % 256 ∧ Changes [.tlm] [F.FW_PUB_VALUE] s u)) ∧
  -- R400: what firmware publishes
  (∀ (t : Nat) (s : State) (i : Fin 16),
      s.Calm → s.mode ≠ .dormant → s.mode ≠ .wake → (State.at s t).windowDue 1 = true →
      Gives (.telemetryWindowEnd t 1) s (fun u =>
        u.get F.FW_PUB_VALUE i = s.get F.FW_PUB_STAGE_VALUE i)) ∧
  -- R400: P1 windows leave it
  (∀ (t : Nat) (s : State) (i : Fin 16),
      s.Calm → s.mode ≠ .dormant → s.mode ≠ .wake → (State.at s t).windowDue 0 = true →
      Gives (.telemetryWindowEnd t 0) s (fun u =>
        u.get F.FW_PUB_VALUE i = s.get F.FW_PUB_VALUE i ∧ Changes [.tlm] [] s u)) ∧
  -- R401, R402: pack current
  (∀ (t : Nat) (s : State) (qa : Nat) (d : Int),
      s.Calm → s.mode ≠ .dormant → s.mode ≠ .wake → (State.at s t).windowDue 2 = true → s.pk.cfg.rshunt ≠ 0 →
        qa = s.get F.TLM_SHAPE_Q_ADD / 4 % 4 → d = s.getI F.PK_CC_ACC_CC_ACC - s.tlm.pkBase →
      Gives (.telemetryWindowEnd t 2) s (fun u =>
        u.tlm.pkOut = d * 2500000000 / ((s.pk.cfg.rshunt : Int) * 1048576) / 2 ^ (7 + qa) * 2 ^ (7 + qa)
          ∧ u.tlm.pkBase = s.getI F.PK_CC_ACC_CC_ACC ∧ Changes [.tlm] [] s u)) ∧
  -- R401: before the end of a window
  (∀ (t : Nat) (s : State) (k : Fin 3),
      s.Calm → (State.at s t).windowDue k.val = false →
      Gives (.telemetryWindowEnd t k) s (fun u =>
        Changes [] [] s u))

/-- Intake with room and full (R430), storing a record under the next SEQ (R431), sticky records and the journal history (R432,
  R446), the rate windows (R518). Where a clause rests on a reading the spec leaves open, it is the model's: log entries 127 and
  152. -/
def Obligations.Recorder : Prop :=
  -- R430: room in the intake
  (∀ (t : Nat) (s : State) (e : Evt) (q : List Evt),
      s.Calm → s.pow.cdUp = true → s.rcd.evq = e :: q → s.rcd.intake.length < 64 →
      Gives (.recordIntake t) s (fun u =>
        u.rcd.intake = s.rcd.intake ++ [e] ∧ q <+: u.rcd.evq ∧ u.rcd.recs = s.rcd.recs ∧ Changes [.rcd] [] s u)) ∧
  -- R430: full, the newest entry that is not sticky gives way
  (∀ (t : Nat) (s : State) (e : Evt) (q : List Evt) (i : Nat),
      s.Calm → s.pow.cdUp = true → s.rcd.evq = e :: q → 64 ≤ s.rcd.intake.length → e.count = none →
        newestPlain s.rcd.intake = some i →
      Gives (.recordIntake t) s (fun u =>
        u.rcd.intake = s.rcd.intake.eraseIdx i ++ [e] ∧ u.get F.REC_STATUS_INTAKE_S = 1
          ∧ u.get F.REC_CTRL_INTAKE_DROP = min (2 ^ F.REC_CTRL_INTAKE_DROP.width - 1) (s.get F.REC_CTRL_INTAKE_DROP + 1)
          ∧ Changes [.rcd] [F.REC_STATUS_INTAKE_S, F.REC_CTRL_INTAKE_DROP] s u)) ∧
  -- R430: full of sticky entries, a sticky event is lost
  (∀ (t : Nat) (s : State) (e : Evt) (q : List Evt),
      s.Calm → s.pow.cdUp = true → s.rcd.evq = e :: q → 64 ≤ s.rcd.intake.length → e.count = none →
        newestPlain s.rcd.intake = none → stickyCodes.contains e.code = true →
      Gives (.recordIntake t) s (fun u =>
        u.rcd.intake = s.rcd.intake ∧ u.get F.REC_STATUS_STICKY_LOST = 1 ∧ u.get F.REC_STATUS_INTAKE_S = 1)) ∧
  -- R430, R518: full, a rate-limited record folds into its window
  (∀ (t : Nat) (s : State) (e : Evt) (q : List Evt) (w : RateWin) (n : Nat),
      s.Calm → s.pow.cdUp = true → s.rcd.evq = e :: q → 64 ≤ s.rcd.intake.length → e.count = some n → s.rcd.wins = [w] →
        w.code = e.code → w.unit = e.unit →
      Gives (.recordIntake t) s (fun u =>
        u.rcd.intake = s.rcd.intake ∧ u.get F.REC_CTRL_INTAKE_DROP = s.get F.REC_CTRL_INTAKE_DROP
          ∧ u.rcd.wins.head? = some { w with count := min 65535 (w.count + n) })) ∧
  -- R432: nothing moves while the Control die is down
  (∀ (t : Nat) (s : State),
      s.Calm → s.pow.cdUp = false →
      Gives (.recordIntake t) s (fun u =>
        u.rcd.intake = s.rcd.intake ∧ s.rcd.evq <+: u.rcd.evq)) ∧
  -- R431: a record that is not sticky
  (∀ (t : Nat) (s : State) (e : Evt) (q : List Evt),
      s.Calm → s.pow.cdUp = true → s.rcd.intake = e :: q → stickyCodes.contains e.code = false → e.front = false → e.ct = false →
        s.rcd.recs.length < 4096 →
      Gives (.recordStore t) s (fun u =>
        u.rcd.recs = ⟨e.code, 0, e.mode * 16, (s.rcd.seq + 1) % 2 ^ 32, e.epoch, e.time, e.detail⟩ :: s.rcd.recs
          ∧ u.rcd.intake = q ∧ u.get F.REC_NEWEST_SEQ = (s.rcd.seq + 1) % 2 ^ 32 ∧ u.rcd.seq = (s.rcd.seq + 1) % 2 ^ 32
          ∧ u.jrn.hist = s.jrn.hist ∧ Changes [.rcd] [F.REC_NEWEST_SEQ] s u)) ∧
  -- R432, R446: a sticky record also enters the history queue
  (∀ (t : Nat) (s : State) (e : Evt) (q : List Evt),
      s.Calm → s.pow.cdUp = true → s.rcd.intake = e :: q → stickyCodes.contains e.code = true → e.front = false → e.ct = false →
        (s.rcd.recs.filter Record.isSticky).length < 512 → s.rcd.recs.length < 4096 → s.jrn.hist.length < 64 →
      Gives (.recordStore t) s (fun u =>
        u.rcd.recs = ⟨e.code, 1, e.mode * 16, (s.rcd.seq + 1) % 2 ^ 32, e.epoch, e.time, e.detail⟩ :: s.rcd.recs
          ∧ u.jrn.hist = s.jrn.hist ++ [⟨e.code, 1, e.mode * 16, (s.rcd.seq + 1) % 2 ^ 32, e.epoch, e.time, e.detail⟩]
          ∧ u.rcd.seq = (s.rcd.seq + 1) % 2 ^ 32)) ∧
  -- R446: history queue full, NOTJ
  (∀ (t : Nat) (s : State) (e : Evt) (q : List Evt),
      s.Calm → s.pow.cdUp = true → s.rcd.intake = e :: q → stickyCodes.contains e.code = true → e.front = false → e.ct = false →
        (s.rcd.recs.filter Record.isSticky).length < 512 → s.rcd.recs.length < 4096 → 64 ≤ s.jrn.hist.length →
      Gives (.recordStore t) s (fun u =>
        u.rcd.recs = ⟨e.code, 9, e.mode * 16, (s.rcd.seq + 1) % 2 ^ 32, e.epoch, e.time, e.detail⟩ :: s.rcd.recs
          ∧ u.jrn.hist = s.jrn.hist ∧ u.get F.JRN_STATUS_HIST_DROP = min (2 ^ F.JRN_STATUS_HIST_DROP.width - 1) (s.get
          F.JRN_STATUS_HIST_DROP + 1) ∧ u.get F.JRN_STICKY_HDROP_S = 1)) ∧
  -- R431: full, the oldest record that is not sticky is overwritten
  (∀ (t : Nat) (s : State) (e : Evt) (q : List Evt),
      s.Calm → s.pow.cdUp = true → s.rcd.intake = e :: q → stickyCodes.contains e.code = false → e.front = false → e.ct = false →
        4096 ≤ s.rcd.recs.length → (s.rcd.recs.getLast?.map Record.isSticky) = some false →
      Gives (.recordStore t) s (fun u =>
        u.rcd.recs = ⟨e.code, 0, e.mode * 16, (s.rcd.seq + 1) % 2 ^ 32, e.epoch, e.time, e.detail⟩ :: s.rcd.recs.dropLast
          ∧ u.get F.REC_STATUS_OVERWRITE_S = 1)) ∧
  -- R518: a window that counted
  (∀ (t : Nat) (s : State) (w : RateWin) (c : BitVec 16) (n : Nat),
      s.Calm → w.openAt + 1000000 ≤ s.now → s.rcd.wins = [w] → c.toNat = w.code → n = w.unit → w.count ≠ 0 → w.last.front = false →
      Gives (.recordRateWindowEnd t c n) s (fun u =>
        { w.last with count := some w.count } ∈ u.rcd.evq ∧ u.rcd.wins.head? = some { w with count := 0, openAt := max s.now t })) ∧
  -- R518: a window that counted nothing ends
  (∀ (t : Nat) (s : State) (w : RateWin) (c : BitVec 16) (n : Nat),
      s.Still → w.openAt + 1000000 ≤ s.now → s.rcd.wins = [w] → c.toNat = w.code → n = w.unit → w.count = 0 → s.mode = .service →
      Gives (.recordRateWindowEnd t c n) s (fun u =>
        u.rcd.wins = [] ∧ s.rcd.evq <+: u.rcd.evq ∧ Changes [.rcd] [] s u))

/-- A write of REC_SEL captures the record (R434), a read of REC_DATA7 under AUTO advances (R434), CLR and CLR_STICKY (R435). The
  content of record 0x0F08 is the model's choice (NOTES.md). Where a clause rests on a reading the spec leaves open, it is the
  model's: log entries 107. -/
def Obligations.RecordBanks : Prop :=
  -- R434: REC_SEL
  (∀ (t : Nat) (s : State) (d : Word) (x : Record),
      s.Calm → s.AsP2 → s.rcd.spi.hist = false → s.rcd.recs.find? (fun x => x.seq == d.toNat) = some x →
      Gives (.recSel t .spi d) s (fun u =>
        u.rcd.spi.sel = d.toNat ∧ u.rcd.spi.cap = (List.range 8).map (fun i => leNat (slice x.bytes (4 * i) 4))
          ∧ u.rcd.recs = s.rcd.recs ∧ u.rcd.pmb = s.rcd.pmb)) ∧
  -- R434: a SEQ that is not held
  (∀ (t : Nat) (s : State) (d : Word),
      s.Calm → s.AsP2 → s.rcd.spi.hist = false → s.rcd.recs.find? (fun x => x.seq == d.toNat) = none →
      Gives (.recSel t .spi d) s (fun u =>
        u.rcd.spi.sel = d.toNat ∧ u.rcd.spi.cap = [])) ∧
  -- R434: AUTO advances on a read of the last word
  (∀ (t : Nat) (s : State) (x : Record),
      s.Calm → s.AsP2 → s.rcd.spi.hist = false → s.rcd.spi.auto = true → s.rcd.spi.sel < 2 ^ 32 - 1 →
        s.rcd.recs.find? (fun x => x.seq == s.rcd.spi.sel + 1) = some x →
      Gives (.recAutoAdvance t .spi) s (fun u =>
        u.rcd.spi.sel = s.rcd.spi.sel + 1 ∧ u.rcd.spi.cap = (List.range 8).map (fun i => leNat (slice x.bytes (4 * i) 4)))) ∧
  -- R434: without AUTO it stays
  (∀ (t : Nat) (s : State),
      s.Calm → s.AsP2 → s.rcd.spi.auto = false →
      Gives (.recAutoAdvance t .spi) s (fun u =>
        u.rcd.spi.sel = s.rcd.spi.sel ∧ u.rcd.spi.cap = s.rcd.spi.cap)) ∧
  -- R435: CLR removes the records that are not sticky
  (∀ (t : Nat) (s : State),
      s.Calm → s.AsP2 →
      Gives (.clr t .spi) s (fun u =>
        u.rcd.recs = s.rcd.recs.filter Record.isSticky ∧ u.Records 0x0F08)) ∧
  -- R435: CLR_STICKY by P3 with right 1 removes every record
  (∀ (t : Nat) (s : State),
      s.Calm → s.AsP3 1 →
      Gives (.clrSticky t .sess) s (fun u =>
        u.rcd.recs = [] ∧ u.Records 0x0F08)) ∧
  -- R398: CLR_STICKY by P2 is refused
  (∀ (t : Nat) (s : State),
      s.Calm → s.AsP2 →
      Gives (.clrSticky t .spi) s (fun u =>
        u.rcd.recs = s.rcd.recs ∧ u.get F.SEC_STICKY_ACC_DENY_S = 1))

/-- A commit starts with its slot's COMMIT cleared (R439, R442, R443), ends with it (R439), measures C_MEAS on VAON alone (R444),
  is deferred (R445) or returns to the queue (R442); firmware asks for a commit of its payload (R447). The causes 3 and 4 of a
  deferral are the model's choice (NOTES.md). Where a clause rests on a reading the spec leaves open, it is the model's: log
  entries 128 to 131. -/
def Obligations.JournalCommits : Prop :=
  -- R439, R442, R443: a commit of a type starts
  (∀ (t : Nat) (s : State) (vs : BitVec 11) (c : Nat) (p : List Byte) (w a : Nat),
      s.Calm → s.mode ≠ .dormant → s.jrn.busy = none → s.jrn.deferred = false → s.pow.cdUp = true → s.jrnHead = some (c, p) →
        s.flag F.THERM_STATUS_JRN_OK = true → 330 ≤ vs.toNat → 45 * commitNs (Commit.bytes c p) ≤ 10000 * s.get F.JRN_CAP_C_EFF *
        (vs.toNat - 330) → c ≠ 6 → w = (commitTarget s.jrn.mram c).1 → (a < w ∨ w + 4 + (p.length + 3) / 4 ≤ a) →
      Gives (.journalCommitStart t vs) s (fun u =>
        u.jrn.busy = some ⟨c, p, vs.toNat, !s.flag F.SUPPLY_STATUS_VDD33_GOOD, max s.now t⟩ ∧ u.get F.JRN_STATUS_BUSY = 1
          ∧ u.get F.JRN_STATUS_DEFER = 0 ∧ u.jrn.mram.get (w + 3) = 0 ∧ u.jrn.mram.get (w + 1) = (commitTarget s.jrn.mram c).2
          ∧ u.jrn.mram.get a = s.jrn.mram.get a)) ∧
  -- R441: a history entry starts
  (∀ (t : Nat) (s : State) (vs : BitVec 11) (c : Nat) (p : List Byte),
      s.Calm → s.mode ≠ .dormant → s.jrn.busy = none → s.jrn.deferred = false → s.pow.cdUp = true → s.jrnHead = some (c, p) →
        s.flag F.THERM_STATUS_JRN_OK = true → 330 ≤ vs.toNat → 45 * commitNs (Commit.bytes c p) ≤ 10000 * s.get F.JRN_CAP_C_EFF *
        (vs.toNat - 330) → c = 6 →
      Gives (.journalCommitStart t vs) s (fun u =>
        u.jrn.busy = some ⟨6, p, vs.toNat, !s.flag F.SUPPLY_STATUS_VDD33_GOOD, max s.now t⟩
          ∧ u.jrn.mram.get (histWord (s.jrn.hseq + 1) + 10) = 0 ∧ u.jrn.mram.get (histWord (s.jrn.hseq + 1) + 8) = (s.jrn.hseq + 1)
          % 2 ^ 32 ∧ u.jrn.hist = s.jrn.hist)) ∧
  -- R445: too cold or hot
  (∀ (t : Nat) (s : State) (vs : BitVec 11) (c : Nat) (p : List Byte),
      s.Calm → s.mode ≠ .dormant → s.jrn.busy = none → s.jrn.deferred = false → s.pow.cdUp = true → s.jrnHead = some (c, p) →
        s.flag F.THERM_STATUS_JRN_OK = false → s.rcd.wins = [] →
      Gives (.journalCommitStart t vs) s (fun u =>
        u.jrn.busy = none ∧ u.jrn.deferred = true ∧ u.get F.JRN_STATUS_DEFER = 1 ∧ u.get F.JRN_STATUS_DEFER_CAUSE = 2
          ∧ u.get F.JRN_STICKY_DEFER_S = 1 ∧ u.jrn.mram = s.jrn.mram ∧ u.jrn.pend = s.jrn.pend ∧ u.Records 0x0F01)) ∧
  -- R443, R445: the energy does not reach
  (∀ (t : Nat) (s : State) (vs : BitVec 11) (c : Nat) (p : List Byte),
      s.Calm → s.mode ≠ .dormant → s.jrn.busy = none → s.jrn.deferred = false → s.pow.cdUp = true → s.jrnHead = some (c, p) →
        s.flag F.THERM_STATUS_JRN_OK = true → 10000 * s.get F.JRN_CAP_C_EFF * (vs.toNat - 330) < 45 * commitNs (Commit.bytes c p) →
      Gives (.journalCommitStart t vs) s (fun u =>
        u.jrn.busy = none ∧ u.get F.JRN_STATUS_DEFER_CAUSE = 1 ∧ u.get F.JRN_VAON_V_S = vs.toNat ∧ u.jrn.mram = s.jrn.mram)) ∧
  -- R442: nothing to commit
  (∀ (t : Nat) (s : State) (vs : BitVec 11),
      s.Calm → s.jrnHead = none →
      Gives (.journalCommitStart t vs) s (fun u =>
        u.jrn = s.jrn ∧ Changes [] [] s u)) ∧
  -- R439: COMMIT closes a slot
  (∀ (t : Nat) (s : State) (c : Commit) (d w a : Nat),
      s.Calm → s.jrn.busy = some c → c.kind ≠ 6 → c.onVaon = false → w = (commitTarget s.jrn.mram c.kind).1 + 3 → a ≠ w →
      Gives (.journalCommitComplete t true d) s (fun u =>
        u.jrn.mram.get w = 0x5A5AC3C3 ∧ u.jrn.mram.get a = s.jrn.mram.get a ∧ u.jrn.busy = none ∧ u.get F.JRN_STATUS_BUSY = 0
          ∧ (u.jrn.lastAt.getD (c.kind - 1) none = some (s.at t).now ∨ s.jrn.lastAt.length < c.kind ∨ c.kind = 0)
          ∧ u.get F.JRN_CAP_C_MEAS = s.get F.JRN_CAP_C_MEAS ∧ Changes [.jrn] [F.JRN_STATUS_BUSY] s u)) ∧
  -- R441: COMMIT closes a history entry
  (∀ (t : Nat) (s : State) (c : Commit) (d : Nat),
      s.Calm → s.jrn.busy = some c → c.kind = 6 → c.onVaon = false →
      Gives (.journalCommitComplete t true d) s (fun u =>
        u.jrn.mram.get (histWord (s.jrn.hseq + 1) + 10) = 0x5A5AC3C3 ∧ u.jrn.hseq = s.jrn.hseq + 1
          ∧ u.jrn.hist = s.jrn.hist.drop 1 ∧ u.jrn.busy = none)) ∧
  -- R444: on VAON alone C_MEAS follows the fall
  (∀ (t : Nat) (s : State) (c : Commit) (d m : Nat),
      s.Calm → s.jrn.busy = some c → c.onVaon = true → d ≠ 0 → (m : Int) = min 65535 (roundDiv (45 * commitNs (Commit.bytes c.kind
        c.payload) : Nat) d) →
      Gives (.journalCommitComplete t true d) s (fun u =>
        u.get F.JRN_CAP_C_MEAS = m ∧ u.get F.JRN_CAP_C_EFF = s.cEff m % 65536 ∧ u.jrn.pend.any (fun x => x.1 == 4) = true
          ∧ ((2 * m < s.par.vaonCap → u.get F.JRN_STICKY_CAP_LOW_S = 1)))) ∧
  -- R442: a failed read-back returns the request
  (∀ (t : Nat) (s : State) (c : Commit) (d : Nat),
      s.Calm → s.jrn.busy = some c → c.kind ≠ 6 → s.jrn.pend.any (fun x => x.1 == c.kind) = false → s.rcd.wins = [] →
      Gives (.journalCommitComplete t false d) s (fun u =>
        u.jrn.busy = none ∧ (c.kind, c.payload) ∈ u.jrn.pend ∧ u.jrn.deferred = true ∧ u.jrn.mram = s.jrn.mram
          ∧ u.get F.JRN_STATUS_BUSY = 0 ∧ u.Records 0x0F01)) ∧
  -- R445: a retry with energy starts the commit
  (∀ (t : Nat) (s : State) (vs : BitVec 11) (c : Nat) (p : List Byte),
      s.Calm → s.mode ≠ .dormant → s.jrn.busy = none → s.jrn.deferred = true →
        s.jrn.deferAt + (if s.flag F.SUPPLY_STATUS_VDD33_GOOD then 1000000 else 100000) ≤ s.now → s.pow.cdUp = true →
        s.jrnHead = some (c, p) → s.flag F.THERM_STATUS_JRN_OK = true → 330 ≤ vs.toNat →
        45 * commitNs (Commit.bytes c p) ≤ 10000 * s.get F.JRN_CAP_C_EFF * (vs.toNat - 330) →
      Gives (.journalDeferRetry t vs) s (fun u =>
        u.jrn.deferred = false ∧ u.jrn.busy = some ⟨c, p, vs.toNat, !s.flag F.SUPPLY_STATUS_VDD33_GOOD, max s.now t⟩
          ∧ u.get F.JRN_STATUS_DEFER = 0 ∧ u.get F.JRN_STATUS_DEFER_CAUSE = 0)) ∧
  -- R24, R447: under the ROM policy it does not act
  (∀ (t : Nat) (s : State) (p : List Byte),
      s.Calm → (s.pow.romPolicy = true ∨ s.pow.released = false ∨ s.pow.cdUp = false ∨ 4080 < p.length) →
      Gives (.fwJournalRequest t p) s (fun u =>
        Changes [] [] s u)) ∧
  -- R447: firmware asks for its payload
  (∀ (t : Nat) (s : State) (p : List Byte),
      s.Calm → s.pow.cdUp = true → s.pow.released = true → s.pow.romPolicy = false → p.length ≤ 4080 →
      Gives (.fwJournalRequest t p) s (fun u =>
        u.jrn.fw = p ∧ (5, p) ∈ u.jrn.pend ∧ u.jrn.changed.testBit 4 = true ∧ Changes [.jrn] [] s u))

/-- The answer word (R453), reads and writes answered at once or over the bridge (R453, R516), refused transactions (R454, R486),
  no answer while the path is down (R455). Where a clause rests on a reading the spec leaves open, it is the model's: log entries
  138, 151 and 192. -/
def Obligations.HostSpi : Prop :=
  -- R453: a NOP answers with the result that waits
  (∀ (t : Nat) (s : State) (g : BitVec 4) (e : SpiRes),
      s.Calm → s.AsP2 → s.spi.busy = none → s.spi.last = some e →
      Gives (.spiNop t g) s (fun u =>
        u.spi.word = e.op * 2 ^ 28 + e.tag * 2 ^ 24 + e.res * 2 ^ 20 + s.mode.code * 2 ^ 16 + (if s.alertBits ≠ 0 then 2 ^ 15 else
          0) + s.get F.SPI_STATUS_SPI_XCNT % 256 ∧ u.spi.data = e.data ∧ u.spi.last = none
          ∧ u.get F.SPI_STATUS_SPI_XCNT = (s.get F.SPI_STATUS_SPI_XCNT + 1) % 65536 ∧ Changes [.spi] [F.SPI_STATUS_SPI_XCNT] s u)) ∧
  -- R453: nothing waits, NONE
  (∀ (t : Nat) (s : State) (g : BitVec 4),
      s.Calm → s.AsP2 → s.spi.busy = none → s.spi.last = none →
      Gives (.spiNop t g) s (fun u =>
        u.spi.word = 0 * 2 ^ 28 + 0 * 2 ^ 24 + 15 * 2 ^ 20 + s.mode.code * 2 ^ 16 + (if s.alertBits ≠ 0 then 2 ^ 15 else 0) + s.get
          F.SPI_STATUS_SPI_XCNT % 256 ∧ u.spi.data = 0)) ∧
  -- R453: PENDING while a transaction executes, and the new one is not taken
  (∀ (t : Nat) (s : State) (g : BitVec 4) (a : BitVec 16) (o p : Nat),
      s.Calm → s.AsP2 → s.spi.busy = some (o, p) → a.toNat % 4 = 0 →
      Gives (.spiRead t g a) s (fun u =>
        u.spi.word = o * 2 ^ 28 + p * 2 ^ 24 + 7 * 2 ^ 20 + s.mode.code * 2 ^ 16 + (if s.alertBits ≠ 0 then 2 ^ 15 else 0) + s.get
          F.SPI_STATUS_SPI_XCNT % 256 ∧ u.spi.busy = some (o, p) ∧ u.br.c4 = s.br.c4 ∧ Changes [.spi] [] s u)) ∧
  -- R453, R490: a read of DEVICE_ID
  (∀ (t : Nat) (s : State) (g : BitVec 4),
      s.Calm → s.AsP2 → s.spi.busy = none →
      Gives (.spiRead t g 0) s (fun u =>
        u.spi.last = some ⟨1, g.toNat, 0, (if s.cz1604 then 0x1604 else 0x3208) * 65536 + s.get F.DEVICE_ID_REV % 16 * 4096⟩
          ∧ u.get F.SPI_STATUS_SPI_XCNT = (s.get F.SPI_STATUS_SPI_XCNT + 1) % 65536 ∧ Changes [.spi] [F.SPI_STATUS_SPI_XCNT] s u)) ∧
  -- R516: a Front-die field is read over the bridge
  (∀ (t : Nat) (s : State) (g : BitVec 4),
      s.Calm → s.AsP2 → s.spi.busy = none →
      Gives (.spiRead t g 0x3808) s (fun u =>
        u.spi.busy = some (1, g.toNat) ∧ u.br.c4 = s.br.c4 ++ [⟨.spi, .p2, false, 0x3808, 0⟩])) ∧
  -- R486: an address without a register
  (∀ (t : Nat) (s : State) (g : BitVec 4) (a : BitVec 16),
      s.Calm → s.AsP2 → s.spi.busy = none → a.toNat % 4 = 0 → s.fieldsFor a.toNat = [] →
      Gives (.spiRead t g a) s (fun u =>
        u.spi.last = some ⟨1, g.toNat, 4, 0⟩)) ∧
  -- R454: an unaligned address, FORMAT
  (∀ (t : Nat) (s : State) (g : BitVec 4) (a : BitVec 16),
      s.Calm → s.AsP2 → s.spi.busy = none → a.toNat % 4 ≠ 0 → s.rcd.wins = [] →
      Gives (.spiRead t g a) s (fun u =>
        u.spi.last = some ⟨1, g.toNat, 2, 0⟩ ∧ u.get F.SPI_STATUS_FMT_ERR = min 255 (s.get F.SPI_STATUS_FMT_ERR + 1)
          ∧ u.get F.SPI_STATUS_SPI_XCNT = s.get F.SPI_STATUS_SPI_XCNT ∧ u.Records 0x1001)) ∧
  -- R453, R231: a write of SP_CMD
  (∀ (t : Nat) (s : State) (g : BitVec 4) (r : Fin 8) (c : Nat),
      s.Calm → s.AsP2 → s.spi.busy = none → s.cz1604 = false → c < 4096 → s.spCheck r 4 c = none →
      Gives (.spiWrite t g (BitVec.ofNat 16 (0x10B4 + 256 * r.val)) (BitVec.ofNat 32 c)) s (fun u =>
        u.get F.SP_STATUS_SP_TGT r = c ∧ u.get F.SP_STATUS_SP_OWNER r = 4 ∧ u.spi.last = some ⟨2, g.toNat, 0, 0⟩
          ∧ u.get F.SPI_STATUS_SPI_XCNT = (s.get F.SPI_STATUS_SPI_XCNT + 1) % 65536)) ∧
  -- R516: a write of a Front-die field travels
  (∀ (t : Nat) (s : State) (g : BitVec 4),
      s.Calm → s.AsP2 → s.spi.busy = none →
      Gives (.spiWrite t g 0x3018 1) s (fun u =>
        u.spi.busy = some (2, g.toNat) ∧ u.br.c4 = s.br.c4 ++ [⟨.spi, .p2, true, 0x3018, 1⟩]
          ∧ u.get F.FAULT_HOLD_FAULT_HOLD = s.get F.FAULT_HOLD_FAULT_HOLD
          ∧ u.get F.SPI_STATUS_SPI_XCNT = (s.get F.SPI_STATUS_SPI_XCNT + 1) % 65536)) ∧
  -- R454: a frame CRC fails
  (∀ (t : Nat) (s : State) (e : Nat) (c : BitVec 80),
      s.Calm → s.AsP2 → s.spi.busy = none → spiWrong e c.toNat = some true →
      Gives (.spiFrameError t e c) s (fun u =>
        u.spi.last = some ⟨bits c.toNat 76 4, bits c.toNat 72 4, 1, 0⟩ ∧ u.get F.SPI_STATUS_CRC_ERR = min 255 (s.get
          F.SPI_STATUS_CRC_ERR + 1) ∧ u.get F.SPI_STATUS_FMT_ERR = s.get F.SPI_STATUS_FMT_ERR)) ∧
  -- R454: another format error
  (∀ (t : Nat) (s : State) (e : Nat) (c : BitVec 80),
      s.Calm → s.AsP2 → s.spi.busy = none → spiWrong e c.toNat = some false →
      Gives (.spiFrameError t e c) s (fun u =>
        u.spi.last = some ⟨bits c.toNat 76 4, bits c.toNat 72 4, 2, 0⟩ ∧ u.get F.SPI_STATUS_FMT_ERR = min 255 (s.get
          F.SPI_STATUS_FMT_ERR + 1) ∧ (u.get F.PMB_STATUS_STATUS_CML).testBit 1 = true)) ∧
  -- R455: no answer while the path is down
  (∀ (t : Nat) (s : State) (g : BitVec 4) (a : BitVec 16) (d : Word),
      s.Calm → s.pathUp .spi = false → a.toNat % 4 = 0 →
      Gives (.spiWrite t g a d) s (fun u =>
        u.spi.word = 0xFFFFFFFF ∧ u.spi.data = 0xFFFFFFFF ∧ Changes [.spi] [] s u))

/-- A one written to a write-one-to-clear field clears it (R515); a Person that may not write a field is refused and recorded
  (R397, R398); a less protective limit is refused and recorded (R34). Where a clause rests on a reading the spec leaves open, it
  is the model's: log entries 108, 126, 139 and 141. -/
def Obligations.RegisterAccess : Prop :=
  -- R515: write one to clear
  (∀ (t : Nat) (s : State) (d : Word) (x : BitVec 4),
      s.Calm → s.AsP2 → d.toNat = x.toNat * 2 →
      Gives (.registerWrite t .spi 0x6000 d) s (fun u =>
        (u.get F.REC_STATUS_REC_MISS = if x.getLsbD 3 then 0 else s.get F.REC_STATUS_REC_MISS)
          ∧ (u.get F.REC_STATUS_INTAKE_S = if x.getLsbD 0 then 0 else s.get F.REC_STATUS_INTAKE_S)
          ∧ (u.get F.REC_STATUS_STICKY_LOST = if x.getLsbD 2 then 0 else s.get F.REC_STATUS_STICKY_LOST)
          ∧ (u.get F.REC_STATUS_OVERWRITE_S = if x.getLsbD 1 then 0 else s.get F.REC_STATUS_OVERWRITE_S)
          ∧ u.rcd.recs = s.rcd.recs)) ∧
  -- R397, R398: P2 may not write a field of P3
  (∀ (t : Nat) (s : State) (d : Word) (r : Fin 8),
      s.Calm → s.AsP2 → s.cz1604 = false → d.toNat / 2 ^ 24 ≠ s.get F.RP_WIN_OV_TH r →
      Gives (.registerWrite t .spi (BitVec.ofNat 16 (0x3100 + 32 * r.val)) d) s (fun u =>
        u.get F.RP_WIN_OV_TH r = s.get F.RP_WIN_OV_TH r ∧ u.get F.SEC_STICKY_ACC_DENY_S = 1
          ∧ ((s.rcd.wins = [] → u.Records 0x0E01)) ∧ Changes [.rcd] [F.SEC_STICKY_ACC_DENY_S] s u)) ∧
  -- R34: less protective than the image
  (∀ (t : Nat) (s : State) (d : Word) (r : Fin 8) (x : Nat),
      s.Calm → s.AsP3 1 → s.parsed = true → s.cz1604 = false → s.get F.RP_WIN_UV_TH r < 256 → s.get F.RP_WIN_OV_FILT r < 16 →
        s.get F.RP_WIN_UV_FILT r < 256 → x < 256 → x ≠ s.get F.RP_WIN_OV_TH r →
        d.toNat = x * 2 ^ 24 + s.get F.RP_WIN_UV_TH r * 2 ^ 16 + s.get F.RP_WIN_OV_FILT r * 2 ^ 12 + s.get F.RP_WIN_UV_FILT r →
        s.imgGet F.RP_WIN_OV_TH r < x →
      Gives (.registerWrite t .sess (BitVec.ofNat 16 (0x3100 + 32 * r.val)) d) s (fun u =>
        u.get F.RP_WIN_OV_TH r = s.get F.RP_WIN_OV_TH r ∧ (u.rcd.c1q.any (fun c => c.evt.code == 0x0104) = true ∨ s.mode =
          .caretaker) ∧ Changes [.rcd] [] s u)) ∧
  -- R34, R515: at least as protective
  (∀ (t : Nat) (s : State) (d : Word) (r : Fin 8) (x : Nat),
      s.Calm → s.AsP3 1 → s.parsed = true → s.cz1604 = false → s.get F.RP_WIN_UV_TH r < 256 → s.get F.RP_WIN_OV_FILT r < 16 →
        s.get F.RP_WIN_UV_FILT r < 256 → x < 256 → x ≠ s.get F.RP_WIN_OV_TH r →
        d.toNat = x * 2 ^ 24 + s.get F.RP_WIN_UV_TH r * 2 ^ 16 + s.get F.RP_WIN_OV_FILT r * 2 ^ 12 + s.get F.RP_WIN_UV_FILT r →
        x ≤ s.imgGet F.RP_WIN_OV_TH r → 4 ≤ x → x ≤ 127 →
      Gives (.registerWrite t .sess (BitVec.ofNat 16 (0x3100 + 32 * r.val)) d) s (fun u =>
        u.get F.RP_WIN_OV_TH r = x ∧ Changes [] [F.RP_WIN_OV_TH] s u)) ∧
  -- R49, R393: no access while the path is down
  (∀ (t : Nat) (s : State) (d : Word) (a : BitVec 16) (p : Path),
      s.Calm → s.pathUp p = false →
      Gives (.registerWrite t p a d) s (fun u =>
        Changes [] [] s u))

/-- PAGE (R458), the constant commands (Table 16.3, R459), invalid data, PEC errors and unknown commands (R457, R459, R464), a
  session on the bus (R466), the Alert Response Address (R463), clearing the status bytes (R462). Where a clause rests on a reading
  the spec leaves open, it is the model's: log entries 133 to 137. -/
def Obligations.PmbusTransactions : Prop :=
  -- R458: reading PAGE
  (∀ (t : Nat) (s : State),
      s.Calm → s.regsUp = true → s.sessOn 1 = false → s.get F.PMB_STATUS_PAGE < 256 →
      Gives (.page t .read) s (fun u =>
        s.Drives u 0x00 [BitVec.ofNat 8 (s.get F.PMB_STATUS_PAGE)] ∧ Changes [.pmb] [] s u)) ∧
  -- R458: writing PAGE
  (∀ (t : Nat) (s : State) (p : Byte),
      s.Calm → s.regsUp = true → s.sessOn 1 = false → (p.toNat = 0xFF ∨ p.toNat < (if s.cz1604 then 4 else 8)) →
      Gives (.page t (s.sent 0x00 [p])) s (fun u =>
        u.get F.PMB_STATUS_PAGE = p.toNat ∧ u.pmb.nack = false ∧ Changes [.pmb] [F.PMB_STATUS_PAGE] s u)) ∧
  -- R458: a page that does not exist is invalid data
  (∀ (t : Nat) (s : State) (p : Byte),
      s.Calm → s.regsUp = true → s.sessOn 1 = false → p.toNat ≠ 0xFF → 8 ≤ p.toNat →
      Gives (.page t (s.sent 0x00 [p])) s (fun u =>
        u.get F.PMB_STATUS_PAGE = s.get F.PMB_STATUS_PAGE ∧ (u.get F.PMB_STATUS_STATUS_CML).testBit 6 = true)) ∧
  -- R457: a PEC error
  (∀ (t : Nat) (s : State) (d : List Byte) (p : Option Byte),
      s.Calm → s.regsUp = true → s.sessOn 1 = false → p ≠ some (s.pecByte 0 d) →
      Gives (.page t (.write d p)) s (fun u =>
        u.get F.PMB_STATUS_PAGE = s.get F.PMB_STATUS_PAGE ∧ u.get F.PMB_STATUS_PEC_ERR = min (2 ^ F.PMB_STATUS_PEC_ERR.width - 1)
          (s.get F.PMB_STATUS_PEC_ERR + 1) ∧ (u.get F.PMB_STATUS_STATUS_CML).testBit 5 = true)) ∧
  -- Table 16.3, R459
  (∀ (t : Nat) (s : State),
      s.Calm → s.regsUp = true → s.sessOn 1 = false →
      Gives (.onOffConfig t .read) s (fun u =>
        s.Drives u 0x02 [0x16] ∧ Changes [.pmb] [] s u)) ∧
  -- Table 16.3, R459
  (∀ (t : Nat) (s : State),
      s.Calm → s.regsUp = true → s.sessOn 1 = false →
      Gives (.capability t .read) s (fun u =>
        s.Drives u 0x19 [0xD0] ∧ Changes [.pmb] [] s u)) ∧
  -- Table 16.3, R459
  (∀ (t : Nat) (s : State),
      s.Calm → s.regsUp = true → s.sessOn 1 = false →
      Gives (.voutMode t .read) s (fun u =>
        s.Drives u 0x20 [0x14] ∧ Changes [.pmb] [] s u)) ∧
  -- Table 16.3, R459
  (∀ (t : Nat) (s : State),
      s.Calm → s.regsUp = true → s.sessOn 1 = false →
      Gives (.pmbusRevision t .read) s (fun u =>
        s.Drives u 0x98 [0x44] ∧ Changes [.pmb] [] s u)) ∧
  -- R459: a write of a command without one is invalid data
  (∀ (t : Nat) (s : State) (d : List Byte),
      s.Calm → s.regsUp = true → s.sessOn 1 = false →
      Gives (.capability t (s.sent 0x19 d)) s (fun u =>
        (u.get F.PMB_STATUS_STATUS_CML).testBit 6 = true ∧ u.pmb.out = [] ∧ Changes [.pmb] [] s u)) ∧
  -- Table 16.3
  (∀ (t : Nat) (s : State),
      s.Calm → s.regsUp = true → s.sessOn 1 = false →
      Gives (.mfrId t .read) s (fun u =>
        s.Drives u 0x99 [6, 0x5A, 0x49, 0x4C, 0x55, 0x52, 0x41] ∧ Changes [.pmb] [] s u)) ∧
  -- Table 16.3, R491
  (∀ (t : Nat) (s : State),
      s.Calm → s.regsUp = true → s.sessOn 1 = false →
      Gives (.mfrModel t .read) s (fun u =>
        s.Drives u 0x9A (if s.cz1604 then [6, 0x43, 0x5A, 0x31, 0x36, 0x30, 0x34] else [6, 0x43, 0x5A, 0x33, 0x32, 0x30, 0x38])
          ∧ Changes [.pmb] [] s u)) ∧
  -- Table 16.3
  (∀ (t : Nat) (s : State),
      s.Calm → s.regsUp = true → s.sessOn 1 = false →
      Gives (.mfrRevision t .read) s (fun u =>
        s.Drives u 0x9B [1, 0x31] ∧ Changes [.pmb] [] s u)) ∧
  -- Table 16.3, R408
  (∀ (t : Nat) (s : State),
      s.Calm → s.regsUp = true → s.sessOn 1 = false →
      Gives (.mfrSerial t .read) s (fun u =>
        s.Drives u 0x9E (8 :: (sha256 (s.otp.certBytes.take 64)).take 8) ∧ Changes [.pmb] [] s u)) ∧
  -- R466: a session is open on PMBus, its command bytes apart
  (∀ (t : Nat) (s : State) (x : Xfer),
      s.Calm → s.regsUp = true → s.sessOn 1 = true →
      Gives (.mfrId t x) s (fun u =>
        u.pmb.nack = true ∧ u.pmb.out = [] ∧ Changes [.pmb] [] s u)) ∧
  -- R49: the Control die does not answer
  (∀ (t : Nat) (s : State) (x : Xfer),
      s.Calm → s.regsUp = false →
      Gives (.mfrId t x) s (fun u =>
        u.pmb.nack = true ∧ Changes [.pmb] [] s u)) ∧
  -- R459, R464
  (∀ (t : Nat) (s : State) (c : Byte) (x : Xfer),
      s.Calm → s.regsUp = true → s.sessOn 1 = false → c.toNat ∉ pmbCodes →
      Gives (.pmbusInvalidCommand t c x) s (fun u =>
        u.pmb.nack = true ∧ u.pmb.out = [] ∧ (u.get F.PMB_STATUS_STATUS_CML).testBit 7 = true)) ∧
  -- R463
  (∀ (t : Nat) (s : State),
      s.Calm → s.smbAlert = true →
      Gives (.alertResponse t) s (fun u =>
        u.pmb.out = [BitVec.ofNat 8 (s.get F.STRAP_STATUS_PM_ADDR * 2)] ∧ u.pmb.nack = false ∧ Changes [.pmb] [] s u)) ∧
  -- R463: no alert of its own
  (∀ (t : Nat) (s : State),
      s.Calm → s.smbAlert = false →
      Gives (.alertResponse t) s (fun u =>
        u.pmb.nack = true ∧ u.pmb.out = [] ∧ Changes [.pmb] [] s u)) ∧
  -- R462: CLEAR_FAULTS on its page
  (∀ (t : Nat) (s : State) (r : Fin 8),
      s.Still → s.regsUp = true → s.sessOn 1 = false → s.get F.PMB_STATUS_PAGE = r.val → (s.cfg r).present = true →
        s.mode = .service → s.st r ≠ .caretaken →
      Gives (.clearFaults t (s.sent 0x03 [])) s (fun u =>
        u.get F.PMB_STATUS_STATUS_CML = (if s.flag F.JRN_STICKY_SLOT_BAD_S then 16 else 0)
          ∧ u.get F.PMB_RSTAT2_STATUS_INPUT r = 0 ∧ (u.get F.PMB_RSTAT_STATUS_VOUT r).testBit 7 = false
          ∧ (u.get F.PMB_RSTAT_STATUS_IOUT r).testBit 7 = false)) ∧
  -- R462: PMB_CLR on every page
  (∀ (t : Nat) (s : State) (r : Fin 8),
      s.Still → s.AsP2 → s.parsed = true → s.mode = .service → s.st r ≠ .caretaken →
      Gives (.pmbClr t .spi) s (fun u =>
        u.get F.PMB_STATUS_STATUS_CML = (if s.flag F.JRN_STICKY_SLOT_BAD_S then 16 else 0)
          ∧ u.get F.PMB_RSTAT2_STATUS_INPUT r = 0 ∧ (u.get F.PMB_RSTAT_STATUS_VOUT r).testBit 7 = false
          ∧ (u.get F.PMB_RSTAT_STATUS_IOUT r).testBit 7 = false))

/-- Reads of the page's rail: its state, status bytes and shaped measurements in their number formats (R460, R461); VOUT_COMMAND is
  a host set-point command (R460); the masks (R463). Where a clause rests on a reading the spec leaves open, it is the model's: log
  entries 133 to 136. -/
def Obligations.PmbusMeasuresAndStatus : Prop :=
  -- Table 16.3: OPERATION
  (∀ (t : Nat) (s : State) (r : Fin 8),
      s.Calm → s.regsUp = true → s.sessOn 1 = false → s.get F.PMB_STATUS_PAGE = r.val → (s.cfg r).present = true →
      Gives (.operation t .read) s (fun u =>
        s.Drives u 0x01 [if (s.st r).switching then 0x80 else 0] ∧ Changes [.pmb] [] s u)) ∧
  -- R458: a rail left unused reads 0
  (∀ (t : Nat) (s : State) (r : Fin 8),
      s.Calm → s.regsUp = true → s.sessOn 1 = false → s.get F.PMB_STATUS_PAGE = r.val → (s.cfg r).present = false →
      Gives (.operation t .read) s (fun u =>
        s.Drives u 0x01 [0] ∧ Changes [.pmb] [] s u)) ∧
  -- R458: under PAGE 0xFF
  (∀ (t : Nat) (s : State),
      s.Calm → s.regsUp = true → s.sessOn 1 = false → s.get F.PMB_STATUS_PAGE = 0xFF →
      Gives (.operation t .read) s (fun u =>
        u.pmb.out = [] ∧ (u.get F.PMB_STATUS_STATUS_CML).testBit 6 = true ∧ Changes [.pmb] [] s u)) ∧
  -- R460: VOUT_COMMAND reads the set-point
  (∀ (t : Nat) (s : State) (r : Fin 8) (v : Nat),
      s.Calm → s.regsUp = true → s.sessOn 1 = false → s.get F.PMB_STATUS_PAGE = r.val → (s.cfg r).present = true →
        (v : Int) = roundDiv (s.get F.SP_STATUS_SP_TGT r * (s.cfg r).divider : Nat) 1600 →
      Gives (.voutCommand t .read) s (fun u =>
        s.Drives u 0x21 (leBytes 2 v) ∧ Changes [.pmb] [] s u)) ∧
  -- R460: VOUT_COMMAND commands one
  (∀ (t : Nat) (s : State) (r : Fin 8) (l h : Byte) (c : Nat),
      s.Calm → s.regsUp = true → s.sessOn 1 = false → s.get F.PMB_STATUS_PAGE = r.val → (s.cfg r).present = true →
        (c : Int) = roundDiv ((l.toNat + 256 * h.toNat : Nat) * 1600) (s.cfg r).divider → s.spCheck r 4 c = none →
      Gives (.voutCommand t (s.sent 0x21 [l, h])) s (fun u =>
        u.get F.SP_STATUS_SP_TGT r = c % 4096 ∧ u.get F.SP_STATUS_SP_OWNER r = 4 ∧ u.pmb.nack = false)) ∧
  -- R460: a refused one is invalid data
  (∀ (t : Nat) (s : State) (r : Fin 8) (l h : Byte) (c y : Nat),
      s.Calm → s.regsUp = true → s.sessOn 1 = false → s.get F.PMB_STATUS_PAGE = r.val → (s.cfg r).present = true →
        (c : Int) = roundDiv ((l.toNat + 256 * h.toNat : Nat) * 1600) (s.cfg r).divider → s.spCheck r 4 c = some y →
      Gives (.voutCommand t (s.sent 0x21 [l, h])) s (fun u =>
        u.get F.SP_STATUS_SP_TGT r = s.get F.SP_STATUS_SP_TGT r ∧ u.get F.SP_CTRL_SP_REJ r = 1
          ∧ (u.get F.PMB_STATUS_STATUS_CML).testBit 6 = true ∧ u.Records 0x0801)) ∧
  -- R461: STATUS_BYTE, the low byte
  (∀ (t : Nat) (s : State) (r : Fin 8),
      s.Calm → s.regsUp = true → s.sessOn 1 = false → s.get F.PMB_STATUS_PAGE = r.val → (s.cfg r).present = true →
      Gives (.statusByte t .read) s (fun u =>
        s.Drives u 0x78 [BitVec.ofNat 8 (s.statusWord r)] ∧ Changes [.pmb] [] s u)) ∧
  -- R461: STATUS_WORD with its summary bits
  (∀ (t : Nat) (s : State) (r : Fin 8),
      s.Calm → s.regsUp = true → s.sessOn 1 = false → s.get F.PMB_STATUS_PAGE = r.val → (s.cfg r).present = true →
      Gives (.statusWord t .read) s (fun u =>
        s.Drives u 0x79 (leBytes 2 (s.statusWord r)) ∧ ((s.get F.PMB_RSTAT_STATUS_VOUT r ≠ 0 →
          (s.statusWord r).testBit 15 = true)) ∧ ((s.get F.PMB_RSTAT_STATUS_IOUT r ≠ 0 → (s.statusWord r).testBit 14 = true))
          ∧ ((s.get F.PMB_RSTAT2_STATUS_INPUT r ≠ 0 → (s.statusWord r).testBit 13 = true))
          ∧ ((s.get F.PMB_RSTAT2_STATUS_MFR r ≠ 0 → (s.statusWord r).testBit 12 = true))
          ∧ ((s.get F.PMB_RSTAT2_STATUS_TEMP r ≠ 0 → (s.statusWord r).testBit 2 = true))
          ∧ ((s.get F.PMB_STATUS_STATUS_CML ≠ 0 → (s.statusWord r).testBit 1 = true)) ∧ Changes [.pmb] [] s u)) ∧
  -- R461
  (∀ (t : Nat) (s : State) (r : Fin 8),
      s.Calm → s.regsUp = true → s.sessOn 1 = false → s.get F.PMB_STATUS_PAGE = r.val → (s.cfg r).present = true →
      Gives (.statusVout t .read) s (fun u =>
        s.Drives u 0x7A [BitVec.ofNat 8 (s.get F.PMB_RSTAT_STATUS_VOUT r)] ∧ Changes [.pmb] [] s u)) ∧
  -- R461
  (∀ (t : Nat) (s : State) (r : Fin 8),
      s.Calm → s.regsUp = true → s.sessOn 1 = false → s.get F.PMB_STATUS_PAGE = r.val → (s.cfg r).present = true →
      Gives (.statusIout t .read) s (fun u =>
        s.Drives u 0x7B [BitVec.ofNat 8 (s.get F.PMB_RSTAT_STATUS_IOUT r)] ∧ Changes [.pmb] [] s u)) ∧
  -- R461
  (∀ (t : Nat) (s : State) (r : Fin 8),
      s.Calm → s.regsUp = true → s.sessOn 1 = false → s.get F.PMB_STATUS_PAGE = r.val → (s.cfg r).present = true →
      Gives (.statusInput t .read) s (fun u =>
        s.Drives u 0x7C [BitVec.ofNat 8 (s.get F.PMB_RSTAT2_STATUS_INPUT r)] ∧ Changes [.pmb] [] s u)) ∧
  -- R461
  (∀ (t : Nat) (s : State) (r : Fin 8),
      s.Calm → s.regsUp = true → s.sessOn 1 = false → s.get F.PMB_STATUS_PAGE = r.val → (s.cfg r).present = true →
      Gives (.statusTemperature t .read) s (fun u =>
        s.Drives u 0x7D [BitVec.ofNat 8 (s.get F.PMB_RSTAT2_STATUS_TEMP r)] ∧ Changes [.pmb] [] s u)) ∧
  -- R461
  (∀ (t : Nat) (s : State) (r : Fin 8),
      s.Calm → s.regsUp = true → s.sessOn 1 = false → s.get F.PMB_STATUS_PAGE = r.val → (s.cfg r).present = true →
      Gives (.statusMfrSpecific t .read) s (fun u =>
        s.Drives u 0x80 [BitVec.ofNat 8 (s.get F.PMB_RSTAT2_STATUS_MFR r)] ∧ Changes [.pmb] [] s u)) ∧
  -- R461: STATUS_CML belongs to no page
  (∀ (t : Nat) (s : State),
      s.Calm → s.regsUp = true → s.sessOn 1 = false →
      Gives (.statusCml t .read) s (fun u =>
        s.Drives u 0x7E [BitVec.ofNat 8 (s.get F.PMB_STATUS_STATUS_CML)] ∧ Changes [.pmb] [] s u)) ∧
  -- R463: a mask
  (∀ (t : Nat) (s : State) (r : Fin 8) (c m : Byte),
      s.Calm → s.regsUp = true → s.sessOn 1 = false → s.get F.PMB_STATUS_PAGE = r.val → (s.cfg r).present = true →
        maskable c.toNat = true → c.toNat ≠ 0x7E →
      Gives (.smbalertMask t (s.sent 0x1B [c, m])) s (fun u =>
        u.pmb.masks.get (r.val * 256 + c.toNat) = m.toNat ∧ u.pmb.maskCmd = c.toNat ∧ Changes [.pmb] [] s u)) ∧
  -- R460: READ_VIN in 2^-5 V
  (∀ (t : Nat) (s : State),
      s.Calm → s.regsUp = true → s.sessOn 1 = false → s.th.busV < 25600 →
      Gives (.readVin t .read) s (fun u =>
        s.Drives u 0x88 (leBytes 2 (27 * 2048 + s.th.busV / 25)) ∧ Changes [.pmb] [] s u)) ∧
  -- R460: READ_VOUT
  (∀ (t : Nat) (s : State) (r : Fin 8) (v : Nat),
      s.Calm → s.regsUp = true → s.sessOn 1 = false → s.get F.PMB_STATUS_PAGE = r.val → (s.cfg r).present = true →
        (v : Int) = roundDiv ((s.tlm.rv2.getD r.val {}).out * (s.cfg r).divider) 8000 → 0 ≤ (s.tlm.rv2.getD r.val {}).out →
        (s.tlm.rv2.getD r.val {}).out < 32768 → v < 65536 →
      Gives (.readVout t .read) s (fun u =>
        s.Drives u 0x8B (leBytes 2 v) ∧ Changes [.pmb] [] s u)) ∧
  -- R460: READ_IOUT with the least exponent from -3 that fits
  (∀ (t : Nat) (s : State) (r : Fin 8) (i : Int) (e : Nat) (m : Int),
      s.Calm → s.regsUp = true → s.sessOn 1 = false → s.get F.PMB_STATUS_PAGE = r.val → (s.cfg r).present = true →
        i = (s.tlm.ri2.getD r.val {}).out → m = i / 2 ^ e → -1024 ≤ m → m ≤ 1023 → e ≤ 7 →
        (e = 0 ∨ i / 2 ^ (e - 1) < -1024 ∨ 1023 < i / 2 ^ (e - 1)) →
      Gives (.readIout t .read) s (fun u =>
        s.Drives u 0x8C (leBytes 2 ((29 + e) % 32 * 2048 + (m % 2048).toNat)) ∧ Changes [.pmb] [] s u)) ∧
  -- R460: READ_POUT, the product where the mantissas fit at once
  (∀ (t : Nat) (s : State) (r : Fin 8) (i : Int) (v : Nat),
      s.Calm → s.regsUp = true → s.sessOn 1 = false → s.get F.PMB_STATUS_PAGE = r.val → (s.cfg r).present = true →
        i = (s.tlm.ri2.getD r.val {}).out → -1024 ≤ i → i ≤ 1023 → v = s.voutWord r → -1024 ≤ v * i / 2 ^ 13 →
        v * i / 2 ^ 13 ≤ 1023 →
      Gives (.readPout t .read) s (fun u =>
        s.Drives u 0x96 (leBytes 2 (30 * 2048 + (v * i / 2 ^ 13 % 2048).toNat)) ∧ Changes [.pmb] [] s u)) ∧
  -- R460: READ_TEMPERATURE_1, the region of the rail
  (∀ (t : Nat) (s : State) (r : Fin 8) (x : Int),
      s.Calm → s.regsUp = true → s.sessOn 1 = false → s.get F.PMB_STATUS_PAGE = r.val → (s.cfg r).present = true →
        x = s.temp (tmaxReg (s.regionOf r).val) / 2 → -1024 ≤ x → x ≤ 1023 →
      Gives (.readTemperature1 t .read) s (fun u =>
        s.Drives u 0x8D (leBytes 2 (30 * 2048 + (x % 2048).toNat)) ∧ Changes [.pmb] [] s u)) ∧
  -- R460: READ_TEMPERATURE_2, the package
  (∀ (t : Nat) (s : State) (x : Int),
      s.Calm → s.regsUp = true → s.sessOn 1 = false → x = s.temp pkgReg / 2 → -1024 ≤ x → x ≤ 1023 →
      Gives (.readTemperature2 t .read) s (fun u =>
        s.Drives u 0x8E (leBytes 2 (30 * 2048 + (x % 2048).toNat)) ∧ Changes [.pmb] [] s u))

/-- The register port (R465), the session commands (R466, R412), the records (R434), the mode and rail states, and what firmware
  publishes (R467). Where a clause rests on a reading the spec leaves open, it is the model's: log entries 107 and 137. -/
def Obligations.PmbusManufacturer : Prop :=
  -- R465: MFR_REG_ADDR reads at once
  (∀ (t : Nat) (s : State),
      s.Calm → s.regsUp = true → s.sessOn 1 = false → s.pmb.regBusy = false →
      Gives (.mfrRegAddr t (s.sent 0xD0 [0, 0])) s (fun u =>
        u.pmb.regAddr = 0 ∧ u.pmb.regStatus = 0 ∧ u.pmb.regData = some ((if s.cz1604 then 0x1604 else 0x3208) * 65536 + s.get
          F.DEVICE_ID_REV % 16 * 4096) ∧ u.pmb.regBusy = false ∧ Changes [.pmb] [] s u)) ∧
  -- R465, R516: a Front-die field is pending
  (∀ (t : Nat) (s : State),
      s.Calm → s.regsUp = true → s.sessOn 1 = false → s.pmb.regBusy = false →
      Gives (.mfrRegAddr t (s.sent 0xD0 [0x08, 0x38])) s (fun u =>
        u.pmb.regAddr = 0x3808 ∧ u.pmb.regStatus = 7 ∧ u.pmb.regBusy = true
          ∧ u.br.c4 = s.br.c4 ++ [⟨.pmb, .p2, false, 0x3808, 0⟩])) ∧
  -- R465: MFR_REG_DATA returns the result
  (∀ (t : Nat) (s : State) (d : Nat),
      s.Calm → s.regsUp = true → s.sessOn 1 = false → s.pmb.regBusy = false → s.pmb.regData = some d →
      Gives (.mfrRegData t .read) s (fun u =>
        s.Drives u 0xD1 (4 :: leBytes 4 d) ∧ Changes [.pmb] [] s u)) ∧
  -- R465: the clock is stretched until the result is there
  (∀ (t : Nat) (s : State),
      s.Calm → s.regsUp = true → s.sessOn 1 = false → s.pmb.regBusy = true →
      Gives (.mfrRegData t .read) s (fun u =>
        u.pmb.stretch = true ∧ u.pmb.out = [] ∧ Changes [.pmb] [] s u)) ∧
  -- R465: a read that failed
  (∀ (t : Nat) (s : State),
      s.Calm → s.regsUp = true → s.sessOn 1 = false → s.pmb.regBusy = false → s.pmb.regData = none →
      Gives (.mfrRegData t .read) s (fun u =>
        s.Drives u 0xD1 [0] ∧ (u.get F.PMB_STATUS_STATUS_CML).testBit 1 = true)) ∧
  -- R465, R231: MFR_REG_DATA writes a register
  (∀ (t : Nat) (s : State) (r : Fin 8) (c : Nat),
      s.Calm → s.regsUp = true → s.sessOn 1 = false → s.cz1604 = false → s.pmb.regBusy = false →
        s.pmb.regAddr = 0x10B4 + 256 * r.val → c < 4096 → s.spCheck r 4 c = none →
      Gives (.mfrRegData t (s.sent 0xD1 (4 :: leBytes 4 c))) s (fun u =>
        u.get F.SP_STATUS_SP_TGT r = c ∧ u.pmb.regStatus = 0)) ∧
  -- R465: MFR_REG_STATUS
  (∀ (t : Nat) (s : State),
      s.Calm → s.regsUp = true → s.sessOn 1 = false →
      Gives (.mfrRegStatus t .read) s (fun u =>
        s.Drives u 0xD2 [BitVec.ofNat 8 s.pmb.regStatus] ∧ Changes [.pmb] [] s u)) ∧
  -- R466: MFR_SESS_CTRL holds LEN
  (∀ (t : Nat) (s : State),
      s.Calm → s.regsUp = true → s.sessOn 1 = false → s.get F.SESS_CTRL_LEN < 4096 →
      Gives (.mfrSessCtrl t .read) s (fun u =>
        s.Drives u 0xD4 (4 :: leBytes 4 (s.get F.SESS_CTRL_LEN)) ∧ Changes [.pmb] [] s u)) ∧
  -- R466, R412: GO submits the message pushed
  (∀ (t : Nat) (s : State) (n : Nat),
      s.Calm → s.regsUp = true → s.sessOn 1 = false → s.sec.busy = false → n < 4096 →
      Gives (.mfrSessCtrl t (s.sent 0xD4 (4 :: leBytes 4 (2 ^ 31 + n)))) s (fun u =>
        u.sec.busy = true ∧ u.sec.push = [] ∧ u.sec.msg.length = n ∧ u.sec.msg <+: s.sec.push.flatMap (beBytes 4) ++ List.replicate
          n 0 ∧ u.sec.msgBus = 1 ∧ u.get F.SESS_CTRL_LEN = n)) ∧
  -- R466: MFR_SESS_STAT
  (∀ (t : Nat) (s : State) (v : Nat),
      s.Calm → s.regsUp = true → s.sessOn 1 = false → s.sec.st ≠ 2 → s.sec.lastRes < 256 → s.sec.rxLen < 4096 →
        v = s.sec.lastRes * 2 ^ 24 + s.sec.rxLen * 2 ^ 12 + (if s.sec.rxReady then 2 ^ 11 else 0) + (if s.sec.busy then 2 ^ 10 else
        0) →
      Gives (.mfrSessStat t .read) s (fun u =>
        s.Drives u 0xD5 (4 :: leBytes 4 v) ∧ Changes [.pmb] [] s u)) ∧
  -- R412, R466: MFR_SESS_MBOX takes words
  (∀ (t : Nat) (s : State) (w : Nat),
      s.Calm → s.regsUp = true → s.sessOn 1 = false → s.sec.push.length < 134 → w < 2 ^ 32 →
      Gives (.mfrSessMbox t (s.sent 0xD6 (4 :: leBytes 4 w))) s (fun u =>
        u.sec.push = s.sec.push ++ [w] ∧ Changes [.sec, .pmb] [F.SESS_MBOX_WORD] s u)) ∧
  -- R412, R466: MFR_SESS_MBOX gives words
  (∀ (t : Nat) (s : State) (x y : Nat),
      s.Calm → s.regsUp = true → s.sessOn 1 = false → s.sec.pop = [x, y] → x < 2 ^ 32 → y < 2 ^ 32 →
      Gives (.mfrSessMbox t .read) s (fun u =>
        s.Drives u 0xD6 (8 :: leBytes 4 x ++ leBytes 4 y) ∧ u.sec.pop = [] ∧ u.sec.rxReady = false ∧ Changes [.sec, .pmb] [] s u)) ∧
  -- R434: MFR_REC_SEL
  (∀ (t : Nat) (s : State) (v : Nat) (x : Record),
      s.Calm → s.regsUp = true → s.sessOn 1 = false → s.rcd.pmb.hist = false → v < 2 ^ 32 →
        s.rcd.recs.find? (fun x => x.seq == v) = some x →
      Gives (.mfrRecSel t (s.sent 0xD8 (4 :: leBytes 4 v))) s (fun u =>
        u.rcd.pmb.sel = v ∧ u.rcd.pmb.cap = (List.range 8).map (fun i => leNat (slice x.bytes (4 * i) 4)) ∧ u.rcd.spi = s.rcd.spi
          ∧ Changes [.rcd, .pmb] [] s u)) ∧
  -- R434: MFR_REC_DATA, the eight words captured
  (∀ (t : Nat) (s : State) (v : List Nat),
      s.Calm → s.regsUp = true → s.sessOn 1 = false → s.rcd.pmb.auto = false → s.rcd.pmb.cap = v → v.length = 8 →
        v.all (fun x => x < 2 ^ 32) = true → v.getD 0 0 % 65536 = 0x0301 →
      Gives (.mfrRecData t .read) s (fun u =>
        s.Drives u 0xD9 (32 :: v.flatMap (leBytes 4)) ∧ u.rcd.pmb.cap = v ∧ u.rcd.pmb.sel = s.rcd.pmb.sel)) ∧
  -- R434: MFR_REC_NEWEST
  (∀ (t : Nat) (s : State),
      s.Calm → s.regsUp = true → s.sessOn 1 = false → s.get F.REC_NEWEST_SEQ < 2 ^ 32 →
      Gives (.mfrRecNewest t .read) s (fun u =>
        s.Drives u 0xDA (4 :: leBytes 4 (s.get F.REC_NEWEST_SEQ)) ∧ Changes [.pmb] [] s u)) ∧
  -- R464: MFR_RAIL_STATE, the states in the mirror
  (∀ (t : Nat) (s : State) (v : Nat),
      s.Calm → s.regsUp = true → s.sessOn 1 = false → s.cz1604 = false → v = (List.range 8).foldl (fun a i => a + (s.mirRail.getD i
        .off).code * 16 ^ i) 0 →
      Gives (.mfrRailState t .read) s (fun u =>
        s.Drives u 0xDC (4 :: leBytes 4 v) ∧ Changes [.pmb] [] s u)) ∧
  -- R464: MFR_MODE, the mode in the top bits
  (∀ (t : Nat) (s : State),
      s.Calm → s.regsUp = true → s.sessOn 1 = false → s.get F.MODE_STATUS_PREV_MODE < 16 → s.get F.MODE_STATUS_LAST_TRANS < 32 →
        s.get F.MODE_STATUS_WAKE_SRC < 8 → s.get F.MODE_STATUS_WAKE_FAIL_CNT < 16 → s.get F.MODE_STATUS_SHUTDOWN_ACT < 2 →
        s.get F.MODE_STATUS_WAKE_PEND < 2 →
      Gives (.mfrMode t .read) s (fun u =>
        u.pmb.nack = false ∧ u.pmb.out.length = 6 ∧ u.pmb.out.take 1 = [4]
          ∧ leNat ((u.pmb.out.drop 1).take 4) / 2 ^ 28 = s.mode.code ∧ leNat ((u.pmb.out.drop 1).take 4) / 2 ^ 19 % 32 = s.get
          F.MODE_STATUS_LAST_TRANS ∧ Changes [.pmb] [] s u)) ∧
  -- R467: MFR_PUB_SEL
  (∀ (t : Nat) (s : State) (i : Byte),
      s.Calm → s.regsUp = true → s.sessOn 1 = false → i.toNat < 16 →
      Gives (.mfrPubSel t (s.sent 0xE0 [i])) s (fun u =>
        u.pmb.pubSel = i.toNat ∧ Changes [.pmb] [] s u)) ∧
  -- R467: MFR_PUB_DATA
  (∀ (t : Nat) (s : State) (i : Fin 16),
      s.Calm → s.regsUp = true → s.sessOn 1 = false → s.pmb.pubSel = i.val → s.get F.FW_PUB_VALUE i < 2 ^ 32 →
      Gives (.mfrPubData t .read) s (fun u =>
        s.Drives u 0xE1 (4 :: leBytes 4 (s.get F.FW_PUB_VALUE i)) ∧ Changes [.pmb] [] s u))

/-- HELLO and M2 (R413, R414), AUTH and M4 (R414, R415, R416), counted failures and the lockout (R414, R420), the mailbox (R412),
  ABORT and the limits (R416, R419, R425). What a refusing M4 carries beside its RES is open (a free value). Where a clause rests
  on a reading the spec leaves open, it is the model's: log entries 109 to 121 and 179. -/
def Obligations.Handshake : Prop :=
  -- R413, R414: a good M1
  (∀ (t : Nat) (s : State) (sid : BitVec 16) (nd : BitVec 128) (eph c : BitVec 256) (h : List Byte),
      s.Calm → s.msgWaits = true → s.sec.st = 0 → s.helloRes s.sec.msg = 0 →
        h = beBytes 2 0x0201 ++ beBytes 2 sid.toNat ++ beBytes 16 nd.toNat ++ ptBytes (scalarMul eph.toNat p256G) ++
        s.otp.certBytes →
      Gives (.hello t sid nd eph c) s (fun u =>
        u.sec.st = 1 ∧ u.sec.bus = s.sec.msgBus ∧ u.sec.sid = sid.toNat ∧ u.sec.m1 = s.sec.msg ∧ u.sec.hsAt = (s.at t).now
          ∧ u.sec.cseq = 0 ∧ u.Answers 0 (h ++ ecdsaSign s.otp.idk c.toNat (sha256 (s.sec.msg ++ h))) ∧ Changes [.sec] [] s u)) ∧
  -- R414: malformed
  (∀ (t : Nat) (s : State) (sid : BitVec 16) (nd : BitVec 128) (eph c : BitVec 256),
      s.Calm → s.msgWaits = true → s.sec.st = 0 → helloOk s.sec.msg = false →
      Gives (.hello t sid nd eph c) s (fun u =>
        u.sec.st = 0 ∧ u.Replies 1 ∧ u.get F.SEC_STICKY_SESS_FAIL_S = 1 ∧ u.get F.AUTH_FAIL_FAIL_N = s.get F.AUTH_FAIL_FAIL_N
          ∧ u.Records 0x0E04 ∧ Changes [.sec, .rcd] [F.SEC_STICKY_SESS_FAIL_S] s u)) ∧
  -- R414: another bus holds the handshake or session
  (∀ (t : Nat) (s : State) (sid : BitVec 16) (nd : BitVec 128) (eph c : BitVec 256),
      s.Calm → s.msgWaits = true → s.sec.st ≠ 0 → s.sec.msgBus ≠ s.sec.bus → helloOk s.sec.msg = true →
      Gives (.hello t sid nd eph c) s (fun u =>
        u.sec.st = s.sec.st ∧ u.sec.sid = s.sec.sid ∧ u.Replies 2 ∧ u.Records 0x0E04)) ∧
  -- R420: locked out
  (∀ (t : Nat) (s : State) (sid : BitVec 16) (nd : BitVec 128) (eph c : BitVec 256),
      s.Calm → s.msgWaits = true → s.sec.st = 0 → helloOk s.sec.msg = true → s.sec.locked = true →
      Gives (.hello t sid nd eph c) s (fun u =>
        u.sec.st = 0 ∧ u.Replies 3 ∧ ((s.sec.lockTold = false → u.Records 0x0E08)) ∧ u.sec.lockTold = true)) ∧
  -- R415, R416: a good M3 opens the session
  (∀ (t : Nat) (s : State) (c : List Byte) (g life : Nat),
      s.Calm → s.msgWaits = true → s.sec.st = 1 → s.sec.msgBus = s.sec.bus → s.authRes s.sec.msg = 0 → c = slice s.sec.msg 4 176 →
        g = beNat (slice s.sec.m1 2 2) &&& beNat (slice c 6 2) &&& s.sec.rightsMask &&& s.otp.slotRights (beNat (slice c 4 1)) →
        life = min (beNat (slice c 10 2)) s.sec.sessMax →
      Gives (.auth t) s (fun u =>
        u.sec.st = 2 ∧ u.sec.sid = s.sec.sid ∧ u.sec.rights = g ∧ u.sec.lifeMin = life ∧ u.sec.cseq = 0
          ∧ u.sec.openAt = (s.at t).now ∧ u.sec.locked = false ∧ u.get F.AUTH_FAIL_FAIL_N = 0 ∧ u.otp = { s.otp with failN := 0 }
          ∧ u.Replies 0 ∧ u.Records 0x0E02 ∧ Changes [.sec, .rcd, .otp] [F.AUTH_FAIL_FAIL_N] s u)) ∧
  -- R414, R420: an M3 that fails a counted check
  (∀ (t : Nat) (s : State) (x : Nat),
      s.Calm → s.msgWaits = true → s.sec.st = 1 → s.sec.msgBus = s.sec.bus → s.authRes s.sec.msg = x → 5 ≤ x → x ≤ 8 →
      Gives (.auth t) s (fun u =>
        u.sec.st = 0 ∧ u.sec.rights = 0 ∧ u.Replies x ∧ u.get F.SEC_STICKY_SESS_FAIL_S = 1
          ∧ u.get F.AUTH_FAIL_FAIL_N = min 255 (s.get F.AUTH_FAIL_FAIL_N + 1)
          ∧ u.otp = { s.otp with failN := min 255 (s.get F.AUTH_FAIL_FAIL_N + 1) } ∧ u.sec.lastFail = (s.at t).now
          ∧ u.sec.locked = decide (2 ≤ s.get F.AUTH_FAIL_FAIL_N) ∧ u.Records 0x0E04)) ∧
  -- R414: an M3 that fails another check
  (∀ (t : Nat) (s : State) (x : Nat),
      s.Calm → s.msgWaits = true → s.sec.st = 1 → s.sec.msgBus = s.sec.bus → s.authRes s.sec.msg = x → (x = 1 ∨ x = 4 ∨ x = 9) →
      Gives (.auth t) s (fun u =>
        u.sec.st = 0 ∧ u.Replies x ∧ u.get F.AUTH_FAIL_FAIL_N = s.get F.AUTH_FAIL_FAIL_N ∧ u.otp = s.otp)) ∧
  -- R414: no M3 in time
  (∀ (t : Nat) (s : State),
      s.Calm → s.sec.st = 1 → s.sec.hsAt + 1000000000 ≤ s.now → (s.sec.busy = false ∨ s.sec.hsAt + 1000000000 < s.sec.msgAt) →
      Gives (.sessionHandshakeTimeout t) s (fun u =>
        u.sec.st = 0 ∧ u.sec.sid = 0 ∧ u.sec.lastRes = 8 ∧ u.get F.AUTH_FAIL_FAIL_N = min 255 (s.get F.AUTH_FAIL_FAIL_N + 1)
          ∧ u.get F.SEC_STICKY_SESS_FAIL_S = 1 ∧ u.Records 0x0E04)) ∧
  -- R420
  (∀ (t : Nat) (s : State),
      s.Calm → s.sec.lastFail + holdOff (s.get F.AUTH_FAIL_FAIL_N) * 1000000000 ≤ s.now →
      Gives (.lockoutEnd t) s (fun u =>
        u.sec.locked = false ∧ Changes [.sec] [] s u)) ∧
  -- R412: a word pushed
  (∀ (t : Nat) (s : State) (w : Word),
      s.Calm → s.pathUp .spi = true → s.sec.push.length < 134 →
      Gives (.sessionMboxPush t .spi w) s (fun u =>
        u.sec.push = s.sec.push ++ [w.toNat] ∧ u.sec.pop = s.sec.pop)) ∧
  -- R412: a word popped
  (∀ (t : Nat) (s : State) (x : Nat) (q : List Nat),
      s.Calm → s.pathUp .spi = true → s.sec.pop = x :: q →
      Gives (.sessionMboxPop t .spi) s (fun u =>
        u.sec.pop = q ∧ u.sec.rxReady = (s.sec.rxReady && !q.isEmpty) ∧ Changes [.sec] [] s u)) ∧
  -- R419: ABORT
  (∀ (t : Nat) (s : State),
      s.Calm → s.pathUp .spi = true → s.get F.SESS_CTRL_LEN < 4096 → s.sec.st = 2 → s.sec.inFlight = false → s.mode ≠ .service →
      Gives (.abort t .spi) s (fun u =>
        u.sec.st = 0 ∧ u.sec.sid = 0 ∧ u.sec.rights = 0 ∧ u.sec.ks = [] ∧ u.sec.cons = [0, 0, 0, 0, 0, 0, 0, 0]
          ∧ u.Records 0x0E03 ∧ Changes [.sec, .rcd] [] s u)) ∧
  -- R416, R419: idle
  (∀ (t : Nat) (s : State),
      s.Calm → s.sec.goAt + s.sec.idleS * 1000000000 ≤ s.now → s.sec.st = 2 → s.sec.inFlight = false → s.mode ≠ .service →
      Gives (.sessionIdleTimeout t) s (fun u =>
        u.sec.st = 0 ∧ u.sec.sid = 0 ∧ u.sec.rights = 0 ∧ u.sec.ks = [] ∧ u.sec.cons = [0, 0, 0, 0, 0, 0, 0, 0]
          ∧ u.Records 0x0E03 ∧ Changes [.sec, .rcd] [] s u)) ∧
  -- R416, R419: the lifetime ends
  (∀ (t : Nat) (s : State),
      s.Calm → s.sec.openAt + s.sec.lifeMin * 60000000000 ≤ s.now → s.sec.st = 2 → s.sec.inFlight = false → s.mode ≠ .service →
      Gives (.sessionLifetimeExpiry t) s (fun u =>
        u.sec.st = 0 ∧ u.sec.sid = 0 ∧ u.sec.rights = 0 ∧ u.sec.ks = [] ∧ u.sec.cons = [0, 0, 0, 0, 0, 0, 0, 0]
          ∧ u.Records 0x0E03 ∧ Changes [.sec, .rcd] [] s u)) ∧
  -- R425: a command in flight completes first
  (∀ (t : Nat) (s : State),
      s.Calm → s.sec.st = 2 → s.sec.inFlight = true → s.sec.ending = none → s.sec.openAt + s.sec.lifeMin * 60000000000 ≤ s.now →
      Gives (.sessionLifetimeExpiry t) s (fun u =>
        u.sec.st = 2 ∧ u.sec.ending = some 4 ∧ u.sec.rights = s.sec.rights ∧ Changes [.sec] [] s u)) ∧
  -- R419, T24: a session that ends in SERVICE
  (∀ (t : Nat) (s : State),
      s.Calm → s.sec.st = 2 → s.sec.inFlight = false → s.mode = .service → s.flag F.FAULT_HOLD_FAULT_HOLD = false →
        s.sec.goAt + s.sec.idleS * 1000000000 ≤ s.now →
      Gives (.sessionIdleTimeout t) s (fun u =>
        u.sec.st = 0 ∧ u.mode = .parse ∧ u.get F.MODE_STATUS_LAST_TRANS = 24 ∧ allRails.all (fun r => !(u.st r).switching) = true))

/-- The M5 operations (R417, R418, R424) and the M7 key operations (R421 to R423), each on a message that stands verified; what a
  refusal leaves. The data of an M6 that returns no register value is open (a free value). Where a clause rests on a reading the
  spec leaves open, it is the model's: log entries 114, 115, 117, 118, 122 and 123. -/
def Obligations.SessionCommands : Prop :=
  -- R417, R418: READ of DEVICE_ID
  (∀ (t : Nat) (s : State) (pt : List Byte),
      s.Calm → s.Message 5 1 pt → s.msgAddr = 0 →
      Gives (.sessionRead t) s (fun u =>
        s.AnswersM6 u 0 0 ((if s.cz1604 then 0x1604 else 0x3208) * 65536 + s.get F.DEVICE_ID_REV % 16 * 4096)
          ∧ u.sec.cseq = (s.sec.cseq + 1) % 2 ^ 32 ∧ u.sec.st = 2 ∧ Changes [.sec] [] s u)) ∧
  -- R516: READ of a Front-die field waits
  (∀ (t : Nat) (s : State) (pt : List Byte),
      s.Calm → s.Message 5 1 pt → s.msgAddr = 0x3808 →
      Gives (.sessionRead t) s (fun u =>
        u.sec.wait = some ⟨1, 0x3808, (s.sec.cseq + 1) % 2 ^ 32⟩ ∧ u.br.c4 = s.br.c4 ++ [⟨.sess, .p3, false, 0x3808, 0⟩]
          ∧ u.sec.busy = true)) ∧
  -- R417: READ of an address without a register
  (∀ (t : Nat) (s : State) (pt : List Byte),
      s.Calm → s.Message 5 1 pt → s.fieldsFor s.msgAddr = [] →
      Gives (.sessionRead t) s (fun u =>
        u.Replies 3 ∧ u.sec.cseq = (s.sec.cseq + 1) % 2 ^ 32)) ∧
  -- R417, R231: WRITE of SP_CMD with right 1
  (∀ (t : Nat) (s : State) (pt : List Byte) (r : Fin 8) (c : Nat),
      s.Calm → s.Message 5 2 pt → s.cz1604 = false → s.right 1 = true → s.msgAddr = 0x10B4 + 256 * r.val → c < 4096 →
        beNat pt = c → s.spCheck r 5 c = none →
      Gives (.sessionWrite t) s (fun u =>
        u.get F.SP_STATUS_SP_TGT r = c ∧ u.get F.SP_STATUS_SP_OWNER r = 5 ∧ u.Replies 0 ∧ u.sec.cseq = (s.sec.cseq + 1) % 2 ^ 32)) ∧
  -- R419: CLOSE
  (∀ (t : Nat) (s : State) (pt : List Byte),
      s.Calm → s.Message 5 3 pt → s.mode ≠ .service →
      Gives (.close t) s (fun u =>
        u.sec.st = 0 ∧ u.sec.rights = 0 ∧ u.Replies 0 ∧ u.Records 0x0E03 ∧ Changes [.sec, .rcd] [] s u)) ∧
  -- R417, T23: SERVICE
  (∀ (t : Nat) (s : State) (pt : List Byte),
      s.Calm → s.Message 5 4 pt → s.right 0 = true → s.serviceOk = true →
      Gives (.service t) s (fun u =>
        u.mode = .service ∧ u.get F.MODE_STATUS_LAST_TRANS = 23 ∧ u.get F.MODE_STATUS_PREV_MODE = s.mode.code ∧ u.Replies 0
          ∧ u.sec.cseq = (s.sec.cseq + 1) % 2 ^ 32)) ∧
  -- R417: SERVICE without the right
  (∀ (t : Nat) (s : State) (pt : List Byte),
      s.Calm → s.Message 5 4 pt → s.right 0 = false →
      Gives (.service t) s (fun u =>
        u.Replies 1 ∧ Changes [.sec] [] s u)) ∧
  -- R417: SERVICE in another state
  (∀ (t : Nat) (s : State) (pt : List Byte),
      s.Calm → s.Message 5 4 pt → s.right 0 = true → s.serviceOk = false →
      Gives (.service t) s (fun u =>
        u.Replies 2 ∧ Changes [.sec] [] s u)) ∧
  -- R424: TAP_UNLOCK
  (∀ (t : Nat) (s : State) (pt : List Byte),
      s.Calm → s.Message 5 5 pt → s.right 3 = true → s.mode = .service → s.allStill = true → s.otp.tapDis = false →
      Gives (.tapUnlock t) s (fun u =>
        u.sec.tapOpen = true ∧ u.get F.SEC_STICKY_TAP_S = 1 ∧ u.Records 0x0E07 ∧ u.Replies 0)) ∧
  -- R424: the port is disabled, or this is not SERVICE
  (∀ (t : Nat) (s : State) (pt : List Byte),
      s.Calm → s.Message 5 5 pt → s.right 3 = true → (s.mode ≠ .service ∨ s.otp.tapDis = true) →
      Gives (.tapUnlock t) s (fun u =>
        u.sec.tapOpen = s.sec.tapOpen ∧ u.Replies 2 ∧ Changes [.sec] [] s u)) ∧
  -- R417: CLR_HEALTH
  (∀ (t : Nat) (s : State) (pt : List Byte) (n : Fin 32),
      s.Calm → s.Message 5 6 pt → s.right 5 = true → s.mode = .service → s.msgAddr = n.val → s.noPhase n.val = false →
      Gives (.clrHealth t) s (fun u =>
        u.get F.PH_STATE_FAIL_CNT n = 0 ∧ u.jrn.pend.any (fun x => x.1 == 2) = true ∧ u.Replies 0
          ∧ Changes [.sec, .jrn] [F.PH_STATE_FAIL_CNT] s u)) ∧
  -- R417: a tag or CSEQ that fails ends the session
  (∀ (t : Nat) (s : State),
      s.Calm → s.readyFor 5 1 = true → s.unseal = none → s.mode ≠ .service →
      Gives (.sessionRead t) s (fun u =>
        u.sec.st = 0 ∧ u.get F.SEC_STICKY_TAG_FAIL_S = 1 ∧ u.sec.pop = s.sec.pop ∧ u.sec.rxReady = s.sec.rxReady
          ∧ u.Records 0x0E03)) ∧
  -- R421, R422: ADD_KEY
  (∀ (t : Nat) (s : State) (pt : List Byte) (y i : Nat),
      s.Calm → s.Message 7 1 pt → s.keysOk = true → pt.length = 33 → y = beNat (slice pt 32 1) → 1 ≤ y → y ≤ 3 → s.otp.life = 2 →
        s.otp.firstEmpty = some i →
      Gives (.addKey t) s (fun u =>
        u.otp = s.otp.putSlot i { hash := beNat (pt.take 32), typ := y, gen := s.otp.ownGen, active := true } ∧ s.AnswersM8 u 1 0
          ∧ u.Records 0x0E06 ∧ u.sec.cseq = (s.sec.cseq + 1) % 2 ^ 32 ∧ u.get F.SEC_STICKY_KEYOP_S = 1
          ∧ Changes [.sec, .rcd, .otp] [F.SEC_STICKY_KEYOP_S] s u)) ∧
  -- R421: refused outside its conditions
  (∀ (t : Nat) (s : State) (pt : List Byte),
      s.Calm → s.Message 7 1 pt → s.keysOk = false →
      Gives (.addKey t) s (fun u =>
        u.otp = s.otp ∧ s.AnswersM8 u 1 2 ∧ u.Records 0x0E06 ∧ u.sec.cseq = (s.sec.cseq + 1) % 2 ^ 32
          ∧ u.get F.SEC_STICKY_KEYOP_S = s.get F.SEC_STICKY_KEYOP_S)) ∧
  -- R422: TRANSFER to the first owner
  (∀ (t : Nat) (s : State) (pt : List Byte) (i y g : Nat),
      s.Calm → s.Message 7 2 pt → s.keysOk = true → pt.length = 33 → y = beNat (slice pt 32 1) → (y = 2 ∨ y = 3) → s.sec.slot = 0 →
        s.otp.life = 1 → g = s.otp.ownGen → g ≠ 7 → s.otp.written (beNat (pt.take 32)) = none → s.otp.firstEmpty = some i →
        s.otp.slots.length = 12 →
      Gives (.transfer t) s (fun u =>
        u.otp.ownBits = s.otp.ownBits ||| 2 ^ g ∧ u.otp.slot i = { hash := beNat (pt.take 32), typ := y, gen := g + 1, active :=
          true } ∧ u.otp.slot 0 = s.otp.slot 0 ∧ u.rcd.recs = [] ∧ u.jrn.hist = [] ∧ s.AnswersM8 u 2 0 ∧ u.Records 0x0E06
          ∧ u.sec.cseq = (s.sec.cseq + 1) % 2 ^ 32 ∧ u.get F.SEC_STICKY_KEYOP_S = 1)) ∧
  -- R422: slots of older generations retire
  (∀ (t : Nat) (s : State) (pt : List Byte) (i j y g : Nat),
      s.Calm → s.Message 7 2 pt → s.keysOk = true → pt.length = 33 → y = beNat (slice pt 32 1) → (y = 2 ∨ y = 3) → s.sec.slot ≠ 0 →
        s.otp.life = 2 → g = s.otp.ownGen → (s.otp.slot s.sec.slot).gen = g → g ≠ 7 → s.otp.written (beNat (pt.take 32)) = none →
        s.otp.firstEmpty = some i → 0 < j → j ≠ i → (s.otp.slot j).hash ≠ 0 → (s.otp.slot j).gen ≤ g →
      Gives (.transfer t) s (fun u =>
        (u.otp.slot j).retired = true ∧ (u.otp.slot j).hash = (s.otp.slot j).hash ∧ (u.otp.slot i).retired = false)) ∧
  -- R423: RETIRE_KEY
  (∀ (t : Nat) (s : State) (pt : List Byte) (i : Nat),
      s.Calm → s.Message 7 3 pt → s.keysOk = true → pt.length = 1 → beNat pt = i → 0 < i → i < 12 → s.sec.signer ≠ some i →
        (List.range 12).any (fun j => 0 < j && j != i && s.otp.usable j && (s.otp.slot j).typ.testBit 0) = true →
        (List.range 12).any (fun j => 0 < j && j != i && s.otp.usable j && (s.otp.slot j).typ.testBit 1) = true → s.sec.slot ≠ i →
      Gives (.retireKey t) s (fun u =>
        u.otp = s.otp.putSlot i { s.otp.slot i with retired := true } ∧ s.AnswersM8 u 3 0 ∧ u.Records 0x0E06
          ∧ u.sec.cseq = (s.sec.cseq + 1) % 2 ^ 32 ∧ u.get F.SEC_STICKY_KEYOP_S = 1 ∧ u.sec.st = 2)) ∧
  -- R423: the root slot and the signer of the applied copy stay
  (∀ (t : Nat) (s : State) (pt : List Byte) (i : Nat),
      s.Calm → s.Message 7 3 pt → s.keysOk = true → pt.length = 1 → beNat pt = i → i < 12 → (i = 0 ∨ s.sec.signer = some i) →
        (s.sec.slot ≠ i ∨ (s.otp.slot i).retired = false) →
      Gives (.retireKey t) s (fun u =>
        u.otp = s.otp ∧ s.AnswersM8 u 3 1 ∧ u.Records 0x0E06 ∧ u.sec.cseq = (s.sec.cseq + 1) % 2 ^ 32)) ∧
  -- R423: the slot behind the session retires, the session ends
  (∀ (t : Nat) (s : State) (pt : List Byte) (i : Nat),
      s.Calm → s.Message 7 3 pt → s.keysOk = true → pt.length = 1 → beNat pt = i → 0 < i → i < 12 → s.sec.signer ≠ some i →
        (List.range 12).any (fun j => 0 < j && j != i && s.otp.usable j && (s.otp.slot j).typ.testBit 0) = true →
        (List.range 12).any (fun j => 0 < j && j != i && s.otp.usable j && (s.otp.slot j).typ.testBit 1) = true → s.sec.slot = i →
        i < s.otp.slots.length → s.flag F.FAULT_HOLD_FAULT_HOLD = false →
      Gives (.retireKey t) s (fun u =>
        (u.otp.slot i).retired = true ∧ u.sec.st = 0 ∧ u.Records 0x0E03 ∧ u.mode = .parse)) ∧
  -- R410: ADD_IEK, wrapped
  (∀ (t : Nat) (s : State) (pt : List Byte) (iv : BitVec 96) (i : Nat) (x : List Byte × List Byte),
      s.Calm → s.Message 7 4 pt → s.keysOk = true → pt.length = 33 → beNat (pt.take 1) = i → i < 8 → (s.otp.iek i).used = false →
        x = gcmSeal s.otp.kwrap (beBytes 12 iv.toNat) [] (pt.drop 1) →
      Gives (.addIek t iv) s (fun u =>
        u.otp = { s.otp with ieks := s.otp.ieks.set i { used := true, iv := iv.toNat, ct := beNat x.1, tag := beNat x.2, gen :=
          s.otp.ownGen } } ∧ s.AnswersM8 u 4 0 ∧ u.Records 0x0E06 ∧ u.sec.cseq = (s.sec.cseq + 1) % 2 ^ 32
          ∧ u.get F.SEC_STICKY_KEYOP_S = 1)) ∧
  -- R423: RETIRE_IEK
  (∀ (t : Nat) (s : State) (pt : List Byte) (i : Nat),
      s.Calm → s.Message 7 5 pt → s.keysOk = true → pt.length = 1 → beNat pt = i → i < 8 → i ∉ s.sec.ieksUsed →
      Gives (.retireIek t) s (fun u =>
        u.otp = { s.otp with ieks := s.otp.ieks.set i { s.otp.iek i with retired := true } } ∧ s.AnswersM8 u 5 0
          ∧ u.Records 0x0E06 ∧ u.sec.cseq = (s.sec.cseq + 1) % 2 ^ 32 ∧ u.get F.SEC_STICKY_KEYOP_S = 1)) ∧
  -- R424: TAP_DISABLE
  (∀ (t : Nat) (s : State) (pt : List Byte),
      s.Calm → s.Message 7 6 pt → s.keysOk = true → pt = [] →
      Gives (.tapDisable t) s (fun u =>
        u.otp = { s.otp with tapDis := true } ∧ s.AnswersM8 u 6 0 ∧ u.Records 0x0E06 ∧ u.sec.cseq = (s.sec.cseq + 1) % 2 ^ 32
          ∧ u.get F.SEC_STICKY_KEYOP_S = 1)) ∧
  -- R406, R408: DECOMMISSION
  (∀ (t : Nat) (s : State) (pt : List Byte),
      s.Calm → s.Message 7 7 pt → s.keysOk = true → pt = [0x44, 0x45, 0x43, 0x4F] →
      Gives (.decommission t) s (fun u =>
        u.otp = { s.otp with puf := false, decomm := true } ∧ ((s.otp.unowned = true → u.otp.life = 3)) ∧ s.AnswersM8 u 7 0
          ∧ u.Records 0x0E06 ∧ u.sec.cseq = (s.sec.cseq + 1) % 2 ^ 32 ∧ u.get F.SEC_STICKY_KEYOP_S = 1))

/-- A port consents for the rails it serves and may withdraw (R404); the end of a consent (R404); the instructions of the test port
  (R424), which needs VDDIO (R49). Where a clause rests on a reading the spec leaves open, it is the model's: log entries 124 and
  125. -/
def Obligations.ConsentsAndTestPort : Prop :=
  -- R404: consent
  (∀ (t : Nat) (s : State) (p : Fin 2) (d : Word) (m z : Nat) (r : Fin 8),
      s.Calm → s.pathUp (if p = 0 then .al0 else .al1) = true → s.cz1604 = false → s.sec.st = 2 →
        s.flag F.TLM_SHAPE_CONS_ALLOW = true → s.sec.sid < 2 ^ 16 → m < 256 → z < 256 →
        d.toNat = s.sec.sid * 2 ^ 16 + m * 2 ^ 8 + z → m ≠ 0 → z ≠ 0 → s.sec.consMax ≠ 0 → m.testBit r.val = true →
        s.serves p r = true →
      Gives (.loadConsent t p d) s (fun u =>
        u.sec.cons.getD r.val 0 = (s.at t).now + min z s.sec.consMax * 60000000000 ∧ u.get F.SEC_STICKY_CONS_S = 1
          ∧ u.Records 0x0E05 ∧ ((∀ q : Fin 8, m.testBit q.val = false → u.sec.cons.getD q.val 0 = s.sec.cons.getD q.val 0)))) ∧
  -- R404: withdrawn
  (∀ (t : Nat) (s : State) (p : Fin 2) (d : Word) (m z : Nat) (r : Fin 8),
      s.Calm → s.pathUp (if p = 0 then .al0 else .al1) = true → s.cz1604 = false → s.sec.st = 2 →
        s.flag F.TLM_SHAPE_CONS_ALLOW = true → s.sec.sid < 2 ^ 16 → m < 256 → z < 256 →
        d.toNat = s.sec.sid * 2 ^ 16 + m * 2 ^ 8 + z → m = 0 → s.serves p r = true →
      Gives (.loadConsent t p d) s (fun u =>
        u.sec.cons.getD r.val 0 = 0 ∧ u.Records 0x0E05)) ∧
  -- R404: no session, or not its ID
  (∀ (t : Nat) (s : State) (p : Fin 2) (d : Word),
      s.Calm → s.pathUp (if p = 0 then .al0 else .al1) = true → (s.sec.st ≠ 2 ∨ d.toNat / 2 ^ 16 ≠ s.sec.sid) → d.toNat % 256 ≠ 0 →
      Gives (.loadConsent t p d) s (fun u =>
        u.sec.cons = s.sec.cons ∧ u.get F.SEC_STICKY_CONS_S = s.get F.SEC_STICKY_CONS_S)) ∧
  -- R404: a consent runs out
  (∀ (t : Nat) (s : State) (r q : Fin 8),
      s.Calm → r.val < s.sec.cons.length → q ≠ r → s.sec.cons.getD r.val 0 ≤ s.now →
      Gives (.consentExpiry t r) s (fun u =>
        u.sec.cons.getD r.val 0 = 0 ∧ u.sec.cons.getD q.val 0 = s.sec.cons.getD q.val 0 ∧ Changes [.sec] [] s u)) ∧
  -- R424
  (∀ (t : Nat) (s : State),
      s.Calm → s.flag F.SUPPLY_STATUS_VDDIO_GOOD = true →
      Gives (.testPortInstruction t .bypass) s (fun u =>
        u.sec.tapMode = 1 ∧ Changes [.sec] [] s u)) ∧
  -- R424
  (∀ (t : Nat) (s : State),
      s.Calm → s.flag F.SUPPLY_STATUS_VDDIO_GOOD = true →
      Gives (.testPortInstruction t .idcode) s (fun u =>
        u.sec.tapMode = 2 ∧ Changes [.sec] [] s u)) ∧
  -- R424: only on an unlocked port
  (∀ (t : Nat) (s : State),
      s.Calm → s.flag F.SUPPLY_STATUS_VDDIO_GOOD = true →
      Gives (.testPortInstruction t .sample) s (fun u =>
        (u.sec.tapMode = if s.sec.tapOpen then 3 else 1) ∧ Changes [.sec] [] s u)) ∧
  -- R424: only on an unlocked port
  (∀ (t : Nat) (s : State),
      s.Calm → s.flag F.SUPPLY_STATUS_VDDIO_GOOD = true →
      Gives (.testPortInstruction t .extest) s (fun u =>
        (u.sec.tapMode = if s.sec.tapOpen then 4 else 1) ∧ Changes [.sec] [] s u)) ∧
  -- R424: a test instruction of the maker acts as BYPASS on a part that has left MANUFACTURED
  (∀ (t : Nat) (s : State),
      s.Calm → s.flag F.SUPPLY_STATUS_VDDIO_GOOD = true → s.otp.life ≠ 0 →
      Gives (.testPortInstruction t .zilura) s (fun u =>
        u.sec.tapMode = 1 ∧ Changes [.sec] [] s u)) ∧
  -- R49
  (∀ (t : Nat) (s : State) (i : TapInstr),
      s.Calm → s.flag F.SUPPLY_STATUS_VDDIO_GOOD = false →
      Gives (.testPortInstruction t i) s (fun u =>
        Changes [] [] s u))

/-- Frames with a code or CRC error (R469), a controller's own slot and the leader's target slot (R470, R471), JOIN and WELCOME
  (R472), MSTAT and PING on the leader (R474, R480). Where a clause rests on a reading the spec leaves open, it is the model's: log
  entries 142, 143, 144, 147, 194 and 195. -/
def Obligations.LinkFrames : Prop :=
  -- R468: the link is not in use
  (∀ (t : Nat) (s : State) (u0 : BitVec 2) (q : BitVec 2) (p : BitVec 48) (c : BitVec 16),
      s.Still →
      Gives (.ping t u0 q p c false) s (fun u =>
        Changes [] [] s u)) ∧
  -- R469: a failed CRC is counted
  (∀ (t : Nat) (s : State) (x : BitVec 2) (q : BitVec 2) (p : BitVec 48) (c : BitVec 16),
      s.Calm → s.cjUp = true → s.pow.stopSet = 0 → s.get F.CJ_SPAN_SYS_MIN_LIVE = 0 → cjCrc 7 x.toNat q.toNat p.toNat ≠ c.toNat →
      Gives (.ping t x q p c false) s (fun u =>
        u.get F.CJ_COUNT_CRC_ERR = min 65535 (s.get F.CJ_COUNT_CRC_ERR + 1) ∧ u.get F.CJ_STICKY_ERR_S = 1
          ∧ u.get F.CJ_STATUS_LINK_OK = s.get F.CJ_STATUS_LINK_OK ∧ Changes [.cj] [F.CJ_COUNT_CRC_ERR, F.CJ_STICKY_ERR_S] s u)) ∧
  -- R469: a code error is counted
  (∀ (t : Nat) (s : State) (x : BitVec 2) (q : BitVec 2) (p : BitVec 48) (c : BitVec 16),
      s.Calm → s.cjUp = true → s.pow.stopSet = 0 → s.get F.CJ_SPAN_SYS_MIN_LIVE = 0 →
      Gives (.ping t x q p c true) s (fun u =>
        u.get F.CJ_COUNT_CODE_ERR = min 255 (s.get F.CJ_COUNT_CODE_ERR + 1) ∧ u.get F.CJ_STICKY_ERR_S = 1
          ∧ u.get F.CJ_STATUS_LINK_OK = 0 ∧ Changes [.cj] [F.CJ_COUNT_CODE_ERR, F.CJ_STICKY_ERR_S, F.CJ_STATUS_LINK_OK] s u)) ∧
  -- R470: the leader's frame comes round, its own slot is filled again; RAILINFO is not due
  (∀ (t : Nat) (s : State) (r : Fin 8) (typ : BitVec 4) (src : BitVec 2) (q : BitVec 2) (p : BitVec 48) (c : BitVec 16),
      s.Calm → s.cjUp = true → s.pow.stopSet = 0 → s.cjIs true = true → s.get F.CJ_SPAN_SYS_MIN_LIVE = 0 → s.cj.txq = [] →
        cjCrc typ.toNat src.toNat q.toNat p.toNat = c.toNat → src.toNat = s.ctl → (s.cj.sent = none ∨ s.cj.sent = some q.toNat) →
        s.spanRail = some r → s.railInfo r = s.cj.infoLast → (s.at t).now < s.cj.infoAt + 640 →
      Gives (.cjOwnSlotReturn t typ src q p c false) s (fun u =>
        u.get F.CJ_STATUS_RING_OK = 1 ∧ u.get F.CJ_STATUS_LINK_OK = 1 ∧ u.cj.outFrame = some ⟨0, s.ctl, s.cj.seq, 0⟩
          ∧ u.cj.sent = some s.cj.seq ∧ u.cj.seq = (s.cj.seq + 1) % 4 ∧ u.cj.ringAt = (s.at t).now)) ∧
  -- R471: a RAILINFO that changed
  (∀ (t : Nat) (s : State) (r : Fin 8) (typ : BitVec 4) (src : BitVec 2) (q : BitVec 2) (p : BitVec 48) (c : BitVec 16),
      s.Calm → s.cjUp = true → s.pow.stopSet = 0 → s.cjIs true = true → s.get F.CJ_SPAN_SYS_MIN_LIVE = 0 → s.cj.txq = [] →
        cjCrc typ.toNat src.toNat q.toNat p.toNat = c.toNat → src.toNat = s.ctl → (s.cj.sent = none ∨ s.cj.sent = some q.toNat) →
        s.spanRail = some r → s.railInfo r ≠ s.cj.infoLast →
      Gives (.cjOwnSlotReturn t typ src q p c false) s (fun u =>
        u.cj.outFrame = some ⟨2, s.ctl, s.cj.seq, r.val * 2 ^ 45 + (s.st r).code * 2 ^ 41 + min 255 (s.nSys r) * 2 ^ 33 + min
          131071 (s.ilimSys r) * 2 ^ 16 + s.get F.HIC_STATUS_RETRY_CNT r * 2 ^ 12 + s.get F.CJ_STATUS_PEER_LOST * 2 ^ 11 + (if
          s.prepos r then 2 ^ 10 else 0)⟩ ∧ u.cj.infoAt = (s.at t).now)) ∧
  -- R471: a frame that waits goes first
  (∀ (t : Nat) (s : State) (e : Nat × Nat) (l : List (Nat × Nat)) (typ : BitVec 4) (src : BitVec 2) (q : BitVec 2) (p : BitVec 48)
    (c : BitVec 16),
      s.Calm → s.cjUp = true → s.pow.stopSet = 0 → s.cjIs true = true → s.get F.CJ_SPAN_SYS_MIN_LIVE = 0 → s.cj.txq = e :: l →
        cjCrc typ.toNat src.toNat q.toNat p.toNat = c.toNat → src.toNat ≠ s.ctl →
      Gives (.cjOwnSlotReturn t typ src q p c false) s (fun u =>
        u.cj.outFrame = some ⟨e.1, s.ctl, s.cj.seq, e.2⟩ ∧ u.cj.txq = l)) ∧
  -- R470: a frame of the own number that was not sent: DUP_CTL
  (∀ (t : Nat) (s : State) (typ : BitVec 4) (src : BitVec 2) (q : BitVec 2) (p : BitVec 48) (c : BitVec 16) (w : Nat),
      s.Calm → s.cjUp = true → s.pow.stopSet = 0 → s.get F.CJ_SPAN_SYS_MIN_LIVE = 0 → s.flag F.CJ_STATUS_DUP_CTL = false →
        cjCrc typ.toNat src.toNat q.toNat p.toNat = c.toNat → src.toNat = s.ctl → s.cj.sent = some w → w ≠ q.toNat →
      Gives (.cjOwnSlotReturn t typ src q p c false) s (fun u =>
        u.get F.CJ_STATUS_DUP_CTL = 1 ∧ u.get F.CJ_STATUS_JOINED = 0 ∧ u.cj.outFrame = none ∧ u.cj.txq = [] ∧ u.Records 0x1006)) ∧
  -- R470, R474: the leader fills a target slot
  (∀ (t : Nat) (s : State) (r : Fin 8),
      s.Calm → s.cjUp = true → s.pow.stopSet = 0 → s.cjIs true = true → s.get F.CJ_SPAN_SYS_MIN_LIVE = 0 → s.spanRail = some r →
      Gives (.targetSlotSend t) s (fun u =>
        u.cj.target = some ⟨1, s.ctl, s.cj.seq, r.val * 2 ^ 45 + s.dacCode r % 4096 * 2 ^ 33 + ofS 16 (satS 16 (s.eng r).uDem) * 2
          ^ 16 + ofS 16 (satS 16 (s.getI F.TN_STAT_F r))⟩ ∧ u.cj.seq = (s.cj.seq + 1) % 4 ∧ Changes [.cj] [] s u)) ∧
  -- R472: a member without WELCOME asks again
  (∀ (t : Nat) (s : State) (part : Nat),
      s.Calm → s.cjUp = true → s.pow.stopSet = 0 → s.cjIs false = true → s.flag F.CJ_STATUS_JOINED = false →
        part = (if s.cz1604 then 0x1604 else 0x3208) →
      Gives (.joinRetry t) s (fun u =>
        (5, part * 2 ^ 32 + s.get F.CJ_CFG_SYSTEM_ID * 2 ^ 8 + (if s.get F.CJ_SPAN_SPAN_RAIL < 8 then 8 + s.get F.CJ_SPAN_SPAN_RAIL
          else 0) * 2 ^ 4) ∈ u.cj.txq ∧ Changes [.cj] [] s u)) ∧
  -- R472: joined, it does not
  (∀ (t : Nat) (s : State),
      s.Calm → s.cjUp = true → s.pow.stopSet = 0 → s.cjIs false = true → s.flag F.CJ_STATUS_JOINED = true →
      Gives (.joinRetry t) s (fun u =>
        u.cj.txq = s.cj.txq ∧ Changes [.cj] [] s u)) ∧
  -- R472: no WELCOME within 100 ms, recorded once
  (∀ (t : Nat) (s : State),
      s.Calm → s.cjUp = true → s.pow.stopSet = 0 → s.cjIs false = true → s.flag F.CJ_STATUS_JOINED = false → s.cj.refused = false →
        s.cj.told = false → s.cj.parseEnd + 100000000 ≤ s.now →
      Gives (.joinTimeout t) s (fun u =>
        u.cj.told = true ∧ u.Records 0x1002 ∧ Changes [.cj, .rcd] [] s u)) ∧
  -- R472: the leader accepts
  (∀ (t : Nat) (s : State) (x : BitVec 2) (q : BitVec 2) (p : BitVec 48) (c : BitVec 16),
      s.Calm → s.cjUp = true → s.pow.stopSet = 0 → s.cjIs true = true → s.get F.CJ_SPAN_SYS_MIN_LIVE = 0 →
        cjCrc 5 x.toNat q.toNat p.toNat = c.toNat → s.joinReason x.toNat p.toNat = 0 → s.cj.peers.length = 4 →
        (s.peer x.toNat).lost = false →
      Gives (.join t x q p c false) s (fun u =>
        (u.peer x.toNat).joined = true ∧ (u.peer x.toNat).seen = some (s.at t).now ∧ (6, x.toNat * 2 ^ 46 + 2 ^ 45) ∈ u.cj.txq)) ∧
  -- R472: the leader refuses with a REASON: the part, the system, the rail, the member
  (∀ (t : Nat) (s : State) (x : BitVec 2) (q : BitVec 2) (p : BitVec 48) (c : BitVec 16) (y : Nat),
      s.Calm → s.cjUp = true → s.pow.stopSet = 0 → s.cjIs true = true → s.get F.CJ_SPAN_SYS_MIN_LIVE = 0 →
        cjCrc 5 x.toNat q.toNat p.toNat = c.toNat → s.joinReason x.toNat p.toNat = y → y ≠ 0 →
      Gives (.join t x q p c false) s (fun u =>
        u.cj.peers = s.cj.peers ∧ (6, x.toNat * 2 ^ 46 + y * 2 ^ 41) ∈ u.cj.txq
          ∧ ((p.toNat / 2 ^ 32 % 2 ^ 16 ≠ (if s.cz1604 then 0x1604 else 0x3208) → y = 1))
          ∧ ((p.toNat / 2 ^ 32 % 2 ^ 16 = (if s.cz1604 then 0x1604 else 0x3208) →
          p.toNat / 2 ^ 8 % 2 ^ 24 ≠ s.get F.CJ_CFG_SYSTEM_ID → y = 2)))) ∧
  -- R472: WELCOME
  (∀ (t : Nat) (s : State) (q : BitVec 2) (p : BitVec 48) (c : BitVec 16),
      s.Calm → s.cjUp = true → s.pow.stopSet = 0 → s.cjIs false = true → cjCrc 6 0 q.toNat p.toNat = c.toNat →
        p.toNat / 2 ^ 46 = s.ctl → p.toNat / 2 ^ 45 % 2 = 1 →
      Gives (.welcome t 0 q p c false) s (fun u =>
        u.get F.CJ_STATUS_JOINED = 1 ∧ u.get F.CJ_STATUS_REASON = p.toNat / 2 ^ 41 % 16 ∧ u.cj.refused = false
          ∧ Changes [.cj] [F.CJ_STATUS_JOINED, F.CJ_STATUS_REASON, F.CJ_STATUS_LINK_OK] s u)) ∧
  -- R472: refused
  (∀ (t : Nat) (s : State) (r : Fin 8) (q : BitVec 2) (p : BitVec 48) (c : BitVec 16),
      s.Calm → s.cjUp = true → s.pow.stopSet = 0 → s.cjIs false = true → cjCrc 6 0 q.toNat p.toNat = c.toNat →
        p.toNat / 2 ^ 46 = s.ctl → p.toNat / 2 ^ 45 % 2 = 0 → s.spanRail = some r →
      Gives (.welcome t 0 q p c false) s (fun u =>
        u.get F.CJ_STATUS_JOINED = 0 ∧ u.get F.CJ_STICKY_REFUSED_S = 1 ∧ u.get F.CJ_STATUS_REASON = p.toNat / 2 ^ 41 % 16
          ∧ u.Records 0x1002 ∧ u.st r ≠ .armed)) ∧
  -- R474: MSTAT of a joined member
  (∀ (t : Nat) (s : State) (x : BitVec 2) (q : BitVec 2) (p : BitVec 48) (c : BitVec 16),
      s.Calm → s.cjUp = true → s.pow.stopSet = 0 → s.cjIs true = true → s.get F.CJ_SPAN_SYS_MIN_LIVE = 0 →
        cjCrc 3 x.toNat q.toNat p.toNat = c.toNat → (s.peer x.toNat).joined = true → s.cj.peers.length = 4 →
      Gives (.mstat t x q p c false) s (fun u =>
        (u.peer x.toNat).nSw = p.toNat / 2 ^ 38 % 64 ∧ (u.peer x.toNat).nLive = p.toNat / 2 ^ 32 % 64
          ∧ (u.peer x.toNat).ilim = p.toNat / 2 ^ 16 % 2 ^ 16 ∧ (u.peer x.toNat).ready = p.getLsbD 44
          ∧ (u.peer x.toNat).lost = false ∧ (u.peer x.toNat).seen = some (s.at t).now)) ∧
  -- R480: a lost member is heard again
  (∀ (t : Nat) (s : State) (x : BitVec 2) (q : BitVec 2) (p : BitVec 48) (c : BitVec 16),
      s.Calm → s.cjUp = true → s.pow.stopSet = 0 → s.cjIs true = true → s.get F.CJ_SPAN_SYS_MIN_LIVE = 0 →
        cjCrc 7 x.toNat q.toNat p.toNat = c.toNat → (s.peer x.toNat).joined = true → (s.peer x.toNat).lost = true →
        s.cj.peers.length = 4 →
      Gives (.ping t x q p c false) s (fun u =>
        (u.peer x.toNat).lost = false ∧ (u.peer x.toNat).seen = some (s.at t).now ∧ u.Records 0x1005
          ∧ (((s.cj.peers.set x.toNat {}).all (fun y => !y.lost) = true → u.get F.CJ_STATUS_PEER_LOST = 0)))) ∧
  -- R480: MEMBER_LOST
  (∀ (t : Nat) (s : State) (x : Fin 4) (r : Fin 8) (z : Nat),
      s.Calm → s.cjUp = true → s.pow.stopSet = 0 → s.cjIs true = true → s.get F.CJ_SPAN_SYS_MIN_LIVE = 0 →
        (s.peer x.val).joined = true → (s.peer x.val).lost = false → s.cj.peers.length = 4 → s.spanRail = some r →
        (s.peer x.val).seen = some z → z + 5000 ≤ s.now →
      Gives (.memberLost t x) s (fun u =>
        (u.peer x.val).lost = true ∧ (u.peer x.val).lostAt = (s.at t).now ∧ u.get F.CJ_STATUS_PEER_LOST = 1
          ∧ u.get F.CJ_STICKY_LOST_S = 1 ∧ u.Records 0x1003)) ∧
  -- R480: RING_DOWN
  (∀ (t : Nat) (s : State),
      s.Calm → s.cjUp = true → s.pow.stopSet = 0 → s.cjIs true = true → s.get F.CJ_SPAN_SYS_MIN_LIVE = 0 →
        s.flag F.CJ_STATUS_RING_OK = true → s.cj.ringAt + 1000 ≤ s.now →
      Gives (.ringDown t) s (fun u =>
        u.get F.CJ_STICKY_RING_DOWN_S = 1 ∧ u.get F.CJ_STATUS_RING_OK = 0 ∧ u.Records 0x1007
          ∧ Changes [.rcd, .cj] [F.CJ_STICKY_RING_DOWN_S, F.CJ_STATUS_RING_OK] s u))

/-- A member takes the leader's code, target and F (R475), its state (R476) and RAILEV (R477); it islands when the leader is lost
  (R478), rejoins (R479), and stops when the island lasts too long (R478). Where a clause rests on a reading the spec leaves open,
  it is the model's: log entries 145 to 149 and 195. -/
def Obligations.SpanningRail : Prop :=
  -- R475: TARGET
  (∀ (t : Nat) (s : State) (r : Fin 8) (d x y : Nat) (q : BitVec 2) (p : BitVec 48) (c : BitVec 16),
      s.Calm → s.cjUp = true → s.pow.stopSet = 0 → s.cjIs false = true → s.spanRail = some r →
        cjCrc 1 0 q.toNat p.toNat = c.toNat → d < 4096 → x < 2 ^ 16 → y < 2 ^ 16 →
        p.toNat = r.val * 2 ^ 45 + d * 2 ^ 33 + x * 2 ^ 16 + y → s.flag F.CJ_STATUS_ISLAND = false →
      Gives (.target t 0 q p c false) s (fun u =>
        (u.eng r).commonU = toS 16 x ∧ (u.eng r).dac = d ∧ u.getI F.TN_STAT_F r = toS 16 y
          ∧ (u.eng r).ff = satS 16 (trunc0 (toS 16 y) (max 1 (s.nSys r))) ∧ u.get F.CJ_STATUS_RING_OK = 1
          ∧ u.get F.CJ_STATUS_LINK_OK = 1)) ∧
  -- R479: the fourth near target in a row ends the island
  (∀ (t : Nat) (s : State) (r : Fin 8) (q : BitVec 2) (p : BitVec 48) (c : BitVec 16),
      s.Calm → s.cjUp = true → s.pow.stopSet = 0 → s.cjIs false = true → s.spanRail = some r →
        cjCrc 1 0 q.toNat p.toNat = c.toNat → p.toNat / 2 ^ 45 = r.val → s.flag F.CJ_STATUS_ISLAND = true → s.cj.goodRun = 3 →
        (s.fr r).ls = .none → |toS 16 (p.toNat / 2 ^ 16 % 2 ^ 16) - (s.eng r).uDem| ≤ 64 →
      Gives (.target t 0 q p c false) s (fun u =>
        u.get F.CJ_STATUS_ISLAND = 0 ∧ u.Records 0x1005 ∧ (u.eng r).commonU = toS 16 (p.toNat / 2 ^ 16 % 2 ^ 16))) ∧
  -- R479: a target that is not near starts the count again
  (∀ (t : Nat) (s : State) (r : Fin 8) (q : BitVec 2) (p : BitVec 48) (c : BitVec 16),
      s.Calm → s.cjUp = true → s.pow.stopSet = 0 → s.cjIs false = true → s.spanRail = some r →
        cjCrc 1 0 q.toNat p.toNat = c.toNat → p.toNat / 2 ^ 45 = r.val → s.flag F.CJ_STATUS_ISLAND = true →
        64 < |toS 16 (p.toNat / 2 ^ 16 % 2 ^ 16) - (s.eng r).uDem| →
      Gives (.target t 0 q p c false) s (fun u =>
        u.get F.CJ_STATUS_ISLAND = s.get F.CJ_STATUS_ISLAND ∧ u.cj.goodRun = 0 ∧ (u.eng r).dac = (s.eng r).dac)) ∧
  -- R475, R480: the figures of RAILINFO
  (∀ (t : Nat) (s : State) (r : Fin 8) (w n m y z : Nat) (q : BitVec 2) (p : BitVec 48) (c : BitVec 16),
      s.Calm → s.cjUp = true → s.pow.stopSet = 0 → s.cjIs false = true → s.spanRail = some r →
        cjCrc 2 0 q.toNat p.toNat = c.toNat → w < 16 → n < 256 → m < 2 ^ 17 → y < 16 → z < 2 →
        p.toNat = r.val * 2 ^ 45 + w * 2 ^ 41 + n * 2 ^ 33 + m * 2 ^ 16 + y * 2 ^ 12 + z * 2 ^ 11 → s.cj.evState = none →
      Gives (.railinfo t 0 q p c false) s (fun u =>
        u.get F.CJ_STATUS_N_SYS_SW = n ∧ u.get F.CJ_ILIM_ILIM_SYS = m ∧ u.get F.CJ_STATUS_PEER_LOST = z)) ∧
  -- R476: a joined member follows the leader into RAMPDOWN
  (∀ (t : Nat) (s : State) (r : Fin 8) (w n m y z : Nat) (q : BitVec 2) (p : BitVec 48) (c : BitVec 16),
      s.Calm → s.cjUp = true → s.pow.stopSet = 0 → s.cjIs false = true → s.spanRail = some r →
        cjCrc 2 0 q.toNat p.toNat = c.toNat → w < 16 → n < 256 → m < 2 ^ 17 → y < 16 → z < 2 →
        p.toNat = r.val * 2 ^ 45 + w * 2 ^ 41 + n * 2 ^ 33 + m * 2 ^ 16 + y * 2 ^ 12 + z * 2 ^ 11 → s.cj.evState = none → w = 6 →
        s.flag F.CJ_STATUS_JOINED = true → s.flag F.CJ_STATUS_ISLAND = false → (s.st r = .reg ∨ s.st r = .shed) →
      Gives (.railinfo t 0 q p c false) s (fun u =>
        u.st r = .rampdown ∧ u.get F.HIC_STATUS_RETRY_CNT r = y)) ∧
  -- R476: a part that is ready starts with the leader
  (∀ (t : Nat) (s : State) (r : Fin 8) (w n m y z : Nat) (q : BitVec 2) (p : BitVec 48) (c : BitVec 16),
      s.Calm → s.cjUp = true → s.pow.stopSet = 0 → s.cjIs false = true → s.spanRail = some r →
        cjCrc 2 0 q.toNat p.toNat = c.toNat → w < 16 → n < 256 → m < 2 ^ 17 → y < 16 → z < 2 →
        p.toNat = r.val * 2 ^ 45 + w * 2 ^ 41 + n * 2 ^ 33 + m * 2 ^ 16 + y * 2 ^ 12 + z * 2 ^ 11 → s.cj.evState = none → w = 2 →
        s.flag F.CJ_STATUS_JOINED = true → s.flag F.CJ_STATUS_ISLAND = false → s.partReady r = true →
        s.get F.PHC_CTRL_MIN_LIVE r ≤ (s.liveOf r).length →
      Gives (.railinfo t 0 q p c false) s (fun u =>
        u.st r = .ramp ∧ (u.fr r).started = true)) ∧
  -- R478: an island does not follow
  (∀ (t : Nat) (s : State) (r : Fin 8) (w n m y z : Nat) (q : BitVec 2) (p : BitVec 48) (c : BitVec 16),
      s.Calm → s.cjUp = true → s.pow.stopSet = 0 → s.cjIs false = true → s.spanRail = some r →
        cjCrc 2 0 q.toNat p.toNat = c.toNat → w < 16 → n < 256 → m < 2 ^ 17 → y < 16 → z < 2 →
        p.toNat = r.val * 2 ^ 45 + w * 2 ^ 41 + n * 2 ^ 33 + m * 2 ^ 16 + y * 2 ^ 12 + z * 2 ^ 11 → s.cj.evState = none →
        s.flag F.CJ_STATUS_ISLAND = true →
      Gives (.railinfo t 0 q p c false) s (fun u =>
        u.get F.HIC_STATUS_RETRY_CNT r = s.get F.HIC_STATUS_RETRY_CNT r)) ∧
  -- R477: RAILEV into HICCUP
  (∀ (t : Nat) (s : State) (r : Fin 8) (y n : Nat) (x : BitVec 2) (q : BitVec 2) (p : BitVec 48) (c : BitVec 16),
      s.Calm → s.cjUp = true → s.pow.stopSet = 0 → s.flag F.CJ_STATUS_DUP_CTL = false → x.toNat ≠ s.ctl → s.spanRail = some r →
        s.get F.CJ_SPAN_SYS_MIN_LIVE = 0 → cjCrc 4 x.toNat q.toNat p.toNat = c.toNat → y < 16 → n < 16 →
        p.toNat = r.val * 2 ^ 45 + 5 * 2 ^ 41 + y * 2 ^ 37 + n * 2 ^ 33 → (s.st r = .reg ∨ s.st r = .ramp) →
      Gives (.railev t x q p c false) s (fun u =>
        u.st r = .hiccup ∧ u.get F.HIC_STATUS_RETRY_CNT r = n ∧ ((∀ m ∈ s.phasesOf r, (u.ph m).sw ≠ .active))
          ∧ (u.fr r).hicAt = (s.at t).now)) ∧
  -- R477: RAILEV into LATCHED with its cause
  (∀ (t : Nat) (s : State) (r : Fin 8) (y n : Nat) (x : BitVec 2) (q : BitVec 2) (p : BitVec 48) (c : BitVec 16),
      s.Calm → s.cjUp = true → s.pow.stopSet = 0 → s.flag F.CJ_STATUS_DUP_CTL = false → x.toNat ≠ s.ctl → s.spanRail = some r →
        s.get F.CJ_SPAN_SYS_MIN_LIVE = 0 → cjCrc 4 x.toNat q.toNat p.toNat = c.toNat → y < 16 → n < 16 →
        p.toNat = r.val * 2 ^ 45 + 7 * 2 ^ 41 + y * 2 ^ 37 + n * 2 ^ 33 → (s.st r = .reg ∨ s.st r = .ramp) →
        (s.cfg r).critical = false →
      Gives (.railev t x q p c false) s (fun u =>
        u.st r = .latched ∧ u.get F.RP_STATUS_LATCH_CAUSE r = y ∧ u.get F.HIC_STATUS_RETRY_CNT r = n)) ∧
  -- R478: the leader is lost while the part switches: an island
  (∀ (t : Nat) (s : State) (r : Fin 8),
      s.Calm → s.cjUp = true → s.pow.stopSet = 0 → s.cjIs false = true → s.spanRail = some r → (s.st r).switching = true →
        s.flag F.CJ_STATUS_ISLAND = false → s.cj.targetAt + 1000 ≤ s.now →
      Gives (.leaderLost t) s (fun u =>
        u.get F.CJ_STATUS_ISLAND = 1 ∧ u.get F.CJ_STICKY_ISLAND_S = 1 ∧ u.get F.CJ_STICKY_LOST_S = 1
          ∧ u.get F.CJ_COUNT_ISLAND_N = min 255 (s.get F.CJ_COUNT_ISLAND_N + 1) ∧ u.cj.islandAt = (s.at t).now ∧ u.cj.f = 0
          ∧ (u.eng r).uDem = (s.eng r).commonU ∧ u.get F.CJ_STATUS_RING_OK = 0 ∧ u.Records 0x1003)) ∧
  -- R478, R485: a part that does not switch declares the leader lost
  (∀ (t : Nat) (s : State) (r : Fin 8),
      s.Calm → s.cjUp = true → s.pow.stopSet = 0 → s.cjIs false = true → s.spanRail = some r → (s.st r).switching = false →
        s.cj.leaderLost = false → s.cj.leaderAt + 5000 ≤ s.now →
      Gives (.leaderLost t) s (fun u =>
        u.cj.leaderLost = true ∧ u.cj.lostAt = (s.at t).now ∧ u.get F.CJ_STATUS_ISLAND = s.get F.CJ_STATUS_ISLAND
          ∧ u.Records 0x1003)) ∧
  -- R478: ISLAND_MAX has passed, the part ramps down
  (∀ (t : Nat) (s : State) (r : Fin 8),
      s.Calm → s.pow.stopSet = 0 → s.spanRail = some r → s.flag F.CJ_STATUS_ISLAND = true →
        s.cj.islandAt + s.get F.CJ_SPAN_ISLAND_MAX * 1000000 ≤ s.now → s.get F.CJ_CFG_LEADER = 0 →
        (s.st r = .reg ∨ s.st r = .shed ∨ s.st r = .ramp) →
      Gives (.islandTimeout t) s (fun u =>
        u.st r = .rampdown ∧ (u.fr r).stop = .toOff ∧ u.Records 0x1004)) ∧
  -- R478: no island
  (∀ (t : Nat) (s : State),
      s.Calm → s.pow.stopSet = 0 → s.get F.CJ_SPAN_SYS_MIN_LIVE = 0 → s.flag F.CJ_STATUS_ISLAND = false →
      Gives (.islandTimeout t) s (fun u =>
        Changes [.cj] [] s u))

/-- For every command that acts on the losses of a die, the supplies, the modes and the start-up commands (R22, R49, R80, R487):
  whenever it answers a next state, nothing changed from the state before but the parts and the register fields named for it and
  what the end of an update may write (`settleFields` and the erased parts of `State.rest`). No SAFESTOP_CLR request waits (R80),
  SAFESTOP_CLR apart. -/
def Obligations.FrameOfDiesAndModes : Prop :=
  (∀ (t : Nat) (r : Fin 8) (clockAbsent : Bool) (s u : State), s.Calm → exec (.loopPortFault t r clockAbsent) s = .next u →
      Changes [.br, .cj, .img, .jrn, .par, .phases, .pk, .pmb, .ports, .pow, .rails, .sec, .spi, .th, .tlm, .rcd]
        ((allFields.filter (fun f => f.dom == .w || f.dom == .p)) ++ [F.CT_STATUS_CT_ACT, F.CT_STATUS_CT_CAUSE,
        F.CT_STATUS_CT_RAILS]) s u) ∧
  (∀ (t : Nat) (s u : State), s.Calm → exec (.phaseStateAck t) s = .next u →
      Changes [.br, .phases] [F.PH_PLACE_OFFSET, F.PH_PLACE_TRIM, F.PH_STICKY_KEEPOFF_OVR] s u) ∧
  (∀ (t : Nat) (s u : State), s.Calm → s.mode ≠ .service → exec (.bridgeRegisterAnswer t) s = .next u →
      Changes [.br, .ctxs, .img, .jrn, .phases, .pmb, .ports, .pow, .rails, .rcd, .sec, .sets, .spi] ((allFields.filter (fun f =>
        f.acc != .ro)) ++ [F.ENG_STATUS_SWAP_PEND, F.MODE_STATUS_SHUTDOWN_ACT, F.PH_PLACE_OFFSET, F.PK_STATE_CHG_FLT,
        F.RP_STATUS_PRE_HOLD, F.SP_STATUS_SP_OWNER, F.SP_STATUS_SP_TGT]) s u) ∧
  (∀ (t : Nat) (s u : State), s.Calm → s.mode = .service → exec (.bridgeRegisterAnswer t) s = .next u →
      Changes [.br, .ctxs, .img, .jrn, .phases, .pmb, .ports, .pow, .rails, .rcd, .sec, .sets, .spi, .par, .tlm] ((allFields.filter
        (fun f => f.dom == .w || f.dom == .p)) ++ (allFields.filter (fun f => f.acc != .ro)) ++ [F.ENG_STATUS_SWAP_PEND,
        F.MODE_STATUS_SHUTDOWN_ACT, F.PH_PLACE_OFFSET, F.PK_STATE_CHG_FLT, F.RP_STATUS_PRE_HOLD, F.SP_STATUS_SP_OWNER,
        F.SP_STATUS_SP_TGT]) s u) ∧
  (∀ (t : Nat) (cause : CtCause) (s u : State), s.Calm → exec (.controlDieLost t cause) s = .next u →
      Changes [.br, .cj, .img, .jrn, .par, .phases, .pk, .pmb, .ports, .pow, .rails, .sec, .spi, .th, .tlm, .rcd]
        ((allFields.filter (fun f => f.dom == .w || f.dom == .p)) ++ [F.CT_STATUS_CT_ACT, F.CT_STATUS_CT_CAUSE,
        F.CT_STATUS_CT_RAILS]) s u) ∧
  (∀ (t : Nat) (s u : State), s.Calm → exec (.missingClock t) s = .next u →
      Changes [.br] [] s u) ∧
  (∀ (t : Nat) (s u : State), s.Calm → exec (.lockstepMismatch t) s = .next u →
      Changes [.br, .cj, .img, .jrn, .par, .phases, .pk, .pmb, .ports, .pow, .rails, .sec, .spi, .th, .tlm, .rcd]
        ((allFields.filter (fun f => f.dom == .w || f.dom == .p)) ++ [F.CT_STATUS_CT_ACT, F.CT_STATUS_CT_CAUSE,
        F.CT_STATUS_CT_RAILS]) s u) ∧
  (∀ (t : Nat) (s u : State), s.Calm → exec (.policyWatchdogExpiry t) s = .next u →
      Changes [.br, .cj, .img, .jrn, .par, .phases, .pk, .pmb, .ports, .pow, .rails, .sec, .spi, .th, .tlm, .rcd]
        ((allFields.filter (fun f => f.dom == .w || f.dom == .p)) ++ [F.CT_STATUS_CT_ACT, F.CT_STATUS_CT_CAUSE,
        F.CT_STATUS_CT_RAILS]) s u) ∧
  (∀ (t : Nat) (s u : State), s.Calm → exec (.vdd33Loss t) s = .next u →
      Changes [.pow] [F.SUPPLY_STATUS_AL_IO_GOOD, F.SUPPLY_STATUS_VDD33_GOOD, F.SUPPLY_STATUS_VDD33_LOSS] s u) ∧
  (∀ (t : Nat) (s u : State), s.Calm → exec (.vcoreLoss t) s = .next u →
      Changes [.br, .cj, .img, .jrn, .par, .phases, .pk, .pmb, .ports, .pow, .rails, .sec, .spi, .th, .tlm, .rcd]
        ((allFields.filter (fun f => f.dom == .w || f.dom == .p)) ++ [F.CT_STATUS_CT_ACT, F.CT_STATUS_CT_CAUSE,
        F.CT_STATUS_CT_RAILS, F.SUPPLY_STATUS_VCORE_GOOD, F.SUPPLY_STATUS_VCORE_LOSS]) s u) ∧
  (∀ (t : Nat) (strap : Fin 5) (ohm1 : Nat) (ohm2 : Nat) (s u : State), s.Calm → exec (.strapRead t strap ohm1 ohm2) s = .next u →
      Changes [.pow] [F.STRAP_STATUS_ADDR_CODE, F.STRAP_STATUS_CFG0_CODE, F.STRAP_STATUS_CFG1_CODE, F.STRAP_STATUS_CFG2_CODE,
        F.STRAP_STATUS_CFG3_CODE, F.STRAP_STATUS_PM_ADDR, F.STRAP_STATUS_PROFILE, F.STRAP_STATUS_STRAP_BAD] s u) ∧
  (∀ (t : Nat) (s u : State), s.Calm → exec (.wakeBallLow t) s = .next u →
      Changes [.pow] [F.MODE_STATUS_SHUTDOWN_ACT] s u) ∧
  (∀ (t : Nat) (s u : State), s.Calm → exec (.timedWakeLimit t) s = .next u →
      Changes [.pow] [F.MODE_STATUS_SHUTDOWN_ACT] s u) ∧
  (∀ (t : Nat) (path : Path) (s u : State), s.Calm → exec (.sleepReq t path) s = .next u →
      Changes [.rails, .phases, .pow] [F.MODE_STATUS_SHUTDOWN_ACT, F.SEC_STICKY_ACC_DENY_S] s u) ∧
  (∀ (t : Nat) (pll : Pll) (err : Int) (s u : State), s.Calm → exec (.pllRelock t pll err) s = .next u →
      Changes [.pow] [F.CLK_STATUS_CPLL_LOCK, F.CLK_STATUS_FPLL_LOCK] s u) ∧
  (∀ (t : Nat) (s u : State), s.Calm → exec (.wakeComplete t) s = .next u →
      Changes [.pow, .par, .tlm, .pmb, .rails, .phases, .jrn, .br, .cj] ((allFields.filter (fun f => f.dom == .p)) ++
        [F.BRIDGE_STATUS_LINK_UP, F.CLK_STATUS_CPLL_LOCK, F.CLK_STATUS_FPLL_LOCK, F.CLK_STATUS_LFOSC_OK, F.CLK_STATUS_XTAL_OK,
        F.CONFIG_HASH_HASH, F.DERATE_FW_DERATE, F.IMAGE_INFO_LENGTH_KIB, F.IMAGE_INFO_SVN, F.IMAGE_SEQ_SEQ,
        F.PARSE_STATUS_APPLY_STEP, F.PARSE_STATUS_B_RESULT, F.TN_SCORE_HITS, F.TN_SCORE_MISSES, F.VSEL_STATUS_ACCEPTED]) s u) ∧
  (∀ (t : Nat) (s u : State), s.Calm → exec (.wakeTimeout t) s = .next u →
      Changes [.br, .jrn, .par, .phases, .pk, .pmb, .pow, .rails, .rcd, .sec] ((allFields.filter (fun f => f.dom == .d)) ++
        [F.HIC_STATUS_RETRY_CNT, F.JRN_STATUS_BUSY, F.JRN_STICKY_LOST_S, F.MODE_STATUS_SHUTDOWN_ACT, F.MODE_STATUS_WAKE_FAIL_CNT,
        F.SUPPLY_STATUS_AL_IO_GOOD, F.SUPPLY_STATUS_VCORE_GOOD]) s u) ∧
  (∀ (t : Nat) (s u : State), s.Calm → exec (.resetNAssert t) s = .next u →
      Changes [.br, .cj, .img, .jrn, .par, .phases, .pk, .pmb, .ports, .pow, .rails, .sec, .spi, .th, .tlm, .rcd]
        ((allFields.filter (fun f => f.dom == .w || f.dom == .p)) ++ [F.AUTH_FAIL_FAIL_N, F.REC_NEWEST_SEQ, F.REC_STATUS_INTAKE_S,
        F.REC_STATUS_OVERWRITE_S, F.REC_STATUS_REC_MISS, F.REC_STATUS_STICKY_LOST]) s u) ∧
  (∀ (t : Nat) (path : Path) (s u : State), exec (.safestopClr t path) s = .next u →
      Changes [.pow, .par, .tlm, .pmb, .rails, .phases] ((allFields.filter (fun f => f.dom == .p)) ++ [F.PK_STATE_LRN_OPEN,
        F.SEC_STICKY_ACC_DENY_S, F.VSEL_STATUS_ACCEPTED]) s u) ∧
  (∀ (t : Nat) (s u : State), s.Calm → exec (.dormantEntry t) s = .next u →
      Changes [.br, .jrn, .par, .phases, .pk, .pmb, .pow, .rails, .rcd, .sec] ((allFields.filter (fun f => f.dom == .w || f.dom ==
        .d || f.dom == .p)) ++ [F.JRN_STICKY_LOST_S, F.SUPPLY_STATUS_AL_IO_GOOD, F.SUPPLY_STATUS_VCORE_GOOD]) s u) ∧
  (∀ (t : Nat) (m : Fin 4) (s u : State), s.Calm → exec (.regionEnableOff t m) s = .next u →
      Changes [.pow] [F.RP_STATUS_PRE_HOLD] s u) ∧
  (∀ (t : Nat) (m : Fin 4) (s u : State), s.Calm → exec (.regionEnableOn t m) s = .next u →
      Changes [.pow] [] s u) ∧
  (∀ (t : Nat) (copy : List Byte) (s u : State), s.Calm → exec (.imageCopyVerified t copy) s = .next u →
      Changes [.par, .rings, .code] [F.PARSE_STATUS_A_RESULT, F.PARSE_STATUS_B_RESULT, F.PARSE_STATUS_READ_RETRY] s u) ∧
  (∀ (t : Nat) (s u : State), s.Calm → exec (.norReadFail t) s = .next u →
      Changes [.par] [F.PARSE_STATUS_A_RESULT, F.PARSE_STATUS_B_RESULT, F.PARSE_STATUS_READ_RETRY] s u) ∧
  (∀ (t : Nat) (s u : State), s.Calm → exec (.norVddioWaitTimeout t) s = .next u →
      Changes [.par] [F.PARSE_STATUS_A_RESULT, F.PARSE_STATUS_B_RESULT, F.PARSE_STATUS_READ_RETRY] s u) ∧
  (∀ (t : Nat) (s u : State), s.Calm → exec (.configApply t) s = .next u →
      Changes [.cj, .img, .jrn, .otp, .par, .phases, .pk, .ports, .pow, .rails, .sec, .sets, .th, .ctxs, .rings, .code]
        ((allFields.filter (fun f => f.img || f.dom == .p)) ++ [F.AL_CFG_AL_TMO, F.AL_CFG_ON_SILENT, F.AL_CFG_PORT_EN,
        F.AL_STATUS_CTX_ID, F.AL_STATUS_RD_PEND, F.AL_STATUS_SILENT, F.CJ_CFG_CJ_EN, F.CJ_CFG_CTL_NUM, F.CJ_CFG_LEADER,
        F.CJ_DERATE_ISLAND_D, F.CJ_ILIM_PEER_D, F.CJ_SPAN_ISLAND_MAX, F.CJ_SPAN_SPAN_RAIL, F.CJ_SPAN_SYS_MIN_LIVE,
        F.CJ_STATUS_JOINED, F.CLK_STATUS_REF_EXT, F.COH_HOLD_HOLD, F.CONFIG_HASH_HASH, F.DUTY_LIM_DUTY_MAX, F.DUTY_LIM_DUTY_MIN,
        F.ENG_CFG_CL_STEP, F.ENG_CFG_RATE_SH, F.ENG_CFG_RM, F.ENG_CFG_SS_RATE, F.HIC_CFG_HIC_OFF, F.HIC_CFG_HIC_RETRY,
        F.HK_CFG_HK_ROUND, F.HK_CFG_ROR_N, F.HK_CFG_STALE_MAX, F.HK_CFG_TD_HYS, F.HU_CFG_HU_D, F.HU_CFG_HU_FILT,
        F.IMAGE_INFO_LENGTH_KIB, F.IMAGE_INFO_SVN, F.IMAGE_SEQ_SEQ, F.JRN_CAP_C_EFF, F.JRN_CAP_C_MEAS, F.JRN_LOAD_HIST_N,
        F.JRN_LOAD_SLOT_USED, F.JRN_STICKY_SLOT_BAD_S, F.LOADLINE_LL_R, F.LOADLINE_LL_TAU, F.LS_CFG_BRAKE_DLY, F.LS_CFG_BRAKE_EN,
        F.LS_CFG_LS_DN_TH, F.LS_CFG_LS_MAX, F.LS_CFG_LS_UP_TH, F.NEG_FF_NEG_LIM, F.OP_BAND_NB1, F.OP_BAND_NB2, F.OP_BAND_NB3,
        F.OP_MAP_HI_MAP4, F.OP_MAP_HI_MAP5, F.OP_MAP_HI_MAP6, F.OP_MAP_HI_MAP7, F.OP_MAP_LO_MAP0, F.OP_MAP_LO_MAP1,
        F.OP_MAP_LO_MAP2, F.OP_MAP_LO_MAP3, F.PARSE_STATUS_APPLY_STEP, F.PARSE_STATUS_DONE, F.PARSE_STATUS_FALLBACK,
        F.PARSE_STATUS_SOURCE, F.PARSE_STATUS_SVN_ADVANCED, F.PHC_CTRL_DE_ALLOW, F.PHC_CTRL_FAIL_D, F.PHC_CTRL_MIN_ACTIVE,
        F.PHC_CTRL_MIN_LIVE, F.PHC_HW_HW_ADD, F.PHC_HW_HW_SHED, F.PHC_OBS_BAL_G, F.PHC_OBS_OBS_G, F.PHC_OBS_OBS_N,
        F.PHC_OBS_OBS_SETTLE, F.PHC_OBS_OBS_WIN, F.PHC_TIME_DE_DWELL, F.PHC_TIME_DE_MARGIN, F.PHC_TIME_SHED_DWELL,
        F.PHC_TIME_SHED_RAMP, F.PH_CAL_CAL_GAIN, F.PH_CAL_CAL_OFS, F.PH_CFG_ILIM_PHASE, F.PH_CFG_KEEP_OFF, F.PH_CFG_PAIR_BUDGET,
        F.PH_CFG_SHARE_W, F.PH_MODEL_G_OBS, F.PH_MODEL_R_PH, F.PH_PLACE_OFFSET, F.PH_PROT_PHW_STOP, F.PH_STATE_ASSIGNED,
        F.PH_STATE_FAIL_CNT, F.PH_STATE_PAIRED, F.PH_STATE_PAIR_ID, F.PH_STATE_RAIL, F.PKP_CFG_NPK_LIM, F.PKP_CFG_PK_LIM,
        F.PK_CAP_CYC_CNT, F.PK_CAP_FCC, F.PK_CFG_PACK_DECL, F.PK_CTRL_CHG_EN, F.PK_LIFE_RFACT, F.PK_LIFE_SOH, F.PK_QREM_QREM,
        F.PK_SOC_ASOC, F.PK_SOC_RSOC, F.PK_STATE_CHG_FLT, F.PK_STATE_COARSE, F.PK_STATE_DISQ, F.PK_STATE_EOL, F.PK_STATE_FULL,
        F.PK_STATE_LRN_OPEN, F.PK_STATE_PACK_DEAD, F.PK_STICKY_EOL_S, F.PK_STICKY_LRN_DQ_S, F.PK_STICKY_LRN_OK_S,
        F.PK_STICKY_OCV_S, F.PROT_CFG_BUS_OV, F.PROT_CFG_FN_RAIL, F.PROT_CFG_HS_T, F.PROT_CFG_VSTALE_D, F.PWM_CTRL_BST_N,
        F.PWM_CTRL_CUT_N, F.PWM_CTRL_INVERT, F.PWM_CTRL_PAIR_LS_BOTH, F.PWM_CTRL_SWAP, F.PWM_PERIOD_PERIOD,
        F.PWM_STATUS_TFLT_LATCH, F.PWM_TIME_BLANK, F.PWM_TIME_BST_W, F.PWM_TIME_MIN_OFF, F.PWM_TIME_MIN_ON, F.RETAIN_DIGEST_DIGEST,
        F.RGN_BUDGET_IN_BUDGET, F.RGN_CFG_IN_GAIN, F.RGN_CFG_IN_OFS, F.RGN_PRIO_PRIO, F.RP_MISC_AUX_ALLOW, F.RP_MISC_BRK_N,
        F.RP_MISC_BRK_TMAX, F.RP_MISC_PHW_N, F.RP_PHW_PH_NEG, F.RP_PHW_PH_POS, F.RP_SENSE_AUX_D, F.RP_SENSE_FRZ_DUTY,
        F.RP_SENSE_SNS_WIN, F.RP_STATUS_PRE_HOLD, F.RP_TIME_CB_MAX, F.RP_TIME_OC_SUST, F.RP_TIME_PG_DLY, F.RP_TIME_UV_HIC_T,
        F.RP_TRACK_OV_ABS, F.RP_TRACK_OV_LAG, F.RP_TRACK_UV_LAG, F.RP_WIN_OV_FILT, F.RP_WIN_OV_TH, F.RP_WIN_UV_FILT,
        F.RP_WIN_UV_TH, F.SEN_CFG_SEN_LAG, F.SEN_CFG_SEN_LEAD, F.SP_CTRL_AL_SERVE, F.SP_CTRL_SLEW_DN, F.SP_CTRL_SLEW_UP,
        F.SP_CTRL_SRC_EN, F.SP_CTRL_SRC_MASK, F.SP_STATUS_SP_OWNER, F.SP_STATUS_SP_TGT, F.SP_WIN_P1_MAX, F.SP_WIN_P1_MIN,
        F.STEP_D_S1, F.STEP_D_S2, F.STEP_D_S3, F.STEP_D_S4, F.STEP_T_S1, F.STEP_T_S2, F.STEP_T_S3, F.STEP_T_S4,
        F.SYNC_CFG_SYNCO_RAIL, F.SYNC_STATUS_SYNC_RAILS, F.TH_LIMITS_CHG_TMAX, F.TH_LIMITS_PKG_TSHUT, F.TH_LIMITS_PKG_TWARN,
        F.TLM_SHAPE_CONS_ALLOW, F.TLM_SHAPE_P1_DENY, F.TLM_SHAPE_Q_ADD, F.TLM_SHAPE_W_ADD, F.TN_CAP_F_NEG_CAP, F.TN_CAP_F_POS_CAP,
        F.TN_CTRL_TN_ALLOW, F.TN_CTRL_TN_EN, F.TN_HCAP_HINT_CAP, F.TN_RATE_LEAD_MAX, F.TN_SLEW_DEC_SLEW, F.TN_SLEW_PRE_SLEW,
        F.TN_SLEW_RAMP_ADV, F.TN_SLEW_UNW_SLEW, F.TN_TIME_ADD_LEAD, F.TN_TIME_CONF_T, F.TN_TIME_HOLD_T, F.TN_TIME_MISS_TH,
        F.TN_WEIGHT_W_DN, F.TN_WEIGHT_W_INIT, F.TN_WEIGHT_W_UP, F.VSEL_STATUS_VSEL_FILT]) s u) ∧
  (∀ (t : Nat) (s u : State), s.Calm → exec (.caretakerTimeout t) s = .next u →
      Changes [] [] s u) ∧
  (∀ (t : Nat) (s u : State), s.Calm → exec (.caretakerStopComplete t) s = .next u →
      Changes [.pow, .par, .tlm, .pmb, .rails, .phases, .jrn, .img] ((allFields.filter (fun f => f.dom == .w || f.dom == .p)) ++
        [F.CT_STATUS_CT_ACT, F.CT_STATUS_CT_TIME]) s u) ∧
  (∀ (t : Nat) (hashOk : Bool) (digestOk : Bool) (eccOk : Bool) (s u : State), s.Calm →
    exec (.adoptionCheck t hashOk digestOk eccOk) s = .next u →
      Changes [.br, .cj, .ctxs, .jrn, .ports, .pow, .rails] [F.AL_STATUS_CTX_ID, F.AL_STATUS_RD_PEND, F.AL_STATUS_SILENT,
        F.BRIDGE_STATUS_LINK_UP, F.CT_COUNT_ADOPT_OK, F.CT_STATUS_CT_ACT, F.CT_STATUS_CT_TIME, F.ENG_STATUS_ACT_SET,
        F.ENG_STATUS_CL_ACT, F.ENG_STATUS_OP, F.ENG_STATUS_SWAP_PEND, F.ENG_STICKY_SWAP_CLAMP] s u) ∧
  (∀ (t : Nat) (r : Fin 8) (s u : State), s.Calm → exec (.railHandover t r) s = .next u →
      Changes [.phases, .pow, .rails] [F.CT_COUNT_ADOPT_OK, F.CT_STATUS_CT_ACT, F.CT_STATUS_CT_TIME, F.PWM_STICKY_DUTY_SAT_S,
        F.PWM_STICKY_MINON_S] s u) ∧
  (∀ (t : Nat) (r : Fin 8) (s u : State), s.Calm → exec (.adoptionHandoverTimeout t r) s = .next u →
      Changes [] [] s u) ∧
  (∀ (t : Nat) (r : Fin 8) (s u : State), s.Calm → exec (.pronounUpdate t r) s = .next u →
      Changes [.phases, .rail r] [(F.PN_MON_PN_DUTY.only r), (F.PN_MON_PN_HOLD.only r), (F.PN_MON_PN_INT.only r),
        (F.PN_MON_TRACK.only r), F.PWM_STICKY_DUTY_SAT_S, F.PWM_STICKY_MINON_S] s u)

/-- For every command that acts on the rail engine, the starts and stops of a rail, and its detectors (R125, R137, R212, R288,
  R297, R316): whenever it answers a next state, nothing changed from the state before but the parts and the register fields named
  for it and what the end of an update may write (`settleFields` and the erased parts of `State.rest`). No SAFESTOP_CLR request
  waits (R80), SAFESTOP_CLR apart. -/
def Obligations.FrameOfRailCommands : Prop :=
  (∀ (t : Nat) (r : Fin 8) (flip : BitVec 11) (s u : State), s.Calm → exec (.railEngineUpdate t r flip) s = .next u →
      Changes [.phases, .rail r] [(F.ENG_STATUS_AW_HOLD.only r), (F.ENG_STATUS_CL_ACT.only r), (F.ENG_STATUS_OP.only r),
        (F.ENG_STATUS_SWAP_PEND.only r), (F.ENG_STICKY_ACC_SAT.only r), (F.ENG_STICKY_ADC_CLIP.only r), (F.ENG_STICKY_AW_HI.only
        r), (F.ENG_STICKY_AW_LO.only r), (F.ENG_STICKY_CL_HIT.only r), (F.ENG_STICKY_DMAX_HIT.only r), (F.ENG_STICKY_DMIN_HIT.only
        r), (F.ENG_STICKY_FF_CLAMP.only r), (F.ENG_STICKY_LL_CLAMP.only r), (F.ENG_STICKY_NEG_HIT.only r),
        (F.ENG_STICKY_OUT_SAT.only r), (F.ENG_STICKY_PAR_REUSE.only r), (F.MON_DEMAND_DUTY.only r), (F.MON_DEMAND_UT.only r),
        (F.MON_ERR_E1.only r), (F.MON_ERR_LLT.only r), (F.MON_INT_I_HI.only r), F.PHC_STATUS_ADD_PEND] s u) ∧
  (∀ (t : Nat) (r : Fin 8) (vs : Int) (va : Int) (s u : State), s.Calm → exec (.errorSample t r vs va) s = .next u →
      Changes [.phases, .rail r] [(F.ENG_STICKY_LSD_S.only r), (F.ENG_STICKY_LSU_S.only r), F.PHC_STATUS_ADD_PEND,
        (F.RP_STATUS_OV_RD.only r)] s u) ∧
  (∀ (t : Nat) (r : Fin 8) (s u : State), s.Calm → exec (.lsMaxExpiry t r) s = .next u →
      Changes [.phases, .rail r] [] s u) ∧
  (∀ (t : Nat) (r : Fin 8) (s u : State), s.Calm → exec (.brakeStart t r) s = .next u →
      Changes [.phases, .rail r] [(F.ENG_STICKY_BRAKE_S.only r), (F.RP_STATUS_BRK_INH.only r), (F.RP_STICKY_BRK_INH_S.only r)] s u)
        ∧
  (∀ (t : Nat) (sample : BitVec 12) (s u : State), s.Calm → exec (.vinSample t sample) s = .next u →
      Changes [.phases, .pow, .rails] [F.ENG_STATUS_VIN_STALE, F.PROT_STATUS_BUS_OV_ACT, F.VIN_FF_VIN_CODE, F.VIN_FF_VIN_STALE] s
        u) ∧
  (∀ (t : Nat) (r : Fin 8) (s u : State), s.Calm → exec (.compensatorSwap t r) s = .next u →
      Changes [.rail r] [(F.ENG_STATUS_ACT_SET.only r), (F.ENG_STATUS_SWAP_PEND.only r), (F.ENG_STICKY_SWAP_CLAMP.only r)] s u) ∧
  (∀ (t : Nat) (r : Fin 8) (s u : State), s.Calm → exec (.iSumRefresh t r) s = .next u →
      Changes [.br, .phases, .rail r, .tlm] [(F.ENG_STATUS_CL_ACT.only r), F.PHC_STATUS_ADD_PEND, F.PH_PLACE_TRIM,
        F.RGN_BUDGET_I_EST] s u) ∧
  (∀ (t : Nat) (n : Fin 32) (s u : State), s.Calm → exec (.failureFollowup t n) s = .next u →
      Changes [.rail (s.railOf n)] [] s u) ∧
  (∀ (t : Nat) (r : Fin 8) (s u : State), s.Calm → exec (.shedDwellExpiry t r) s = .next u →
      Changes [.br, .rail r] [] s u) ∧
  (∀ (t : Nat) (r : Fin 8) (s u : State), s.Calm → exec (.deEntry t r) s = .next u →
      Changes [] [] s u) ∧
  (∀ (t : Nat) (n : Fin 32) (s u : State), s.Calm → exec (.hiccupEscalation t n) s = .next u →
      Changes [.rails] [F.HIC_STATUS_HIC_ENTRIES, F.HIC_STATUS_RETRY_CNT] s u) ∧
  (∀ (t : Nat) (r : Fin 8) (s u : State), s.Calm → exec (.hiccupSenRaise t r) s = .next u →
      Changes [.rail r] [] s u) ∧
  (∀ (t : Nat) (r : Fin 8) (s u : State), s.Calm → exec (.hiccupRetry t r) s = .next u →
      Changes [.phases, .rails] [(F.ENG_STATUS_CL_ACT.only r), (F.HIC_STATUS_RETRY_CNT.only r), F.PH_PLACE_OFFSET, F.PH_PLACE_TRIM,
        F.PWM_STATUS_CUT_CNT, F.PWM_STATUS_TFLT_LATCH, F.PWM_STATUS_TFLT_LATCH_N, F.PWM_STICKY_TFLT_LATCH_S] s u) ∧
  (∀ (t : Nat) (r : Fin 8) (s u : State), s.Calm → exec (.senLeadElapsed t r) s = .next u →
      Changes [.rail r] [] s u) ∧
  (∀ (t : Nat) (r : Fin 8) (s u : State), s.Calm → exec (.softStopSenFall t r) s = .next u →
      Changes [] [] s u) ∧
  (∀ (t : Nat) (r : Fin 8) (s u : State), s.Calm → exec (.railStartTurn t r) s = .next u →
      Changes [.phases, .rail r] [(F.ENG_STATUS_CL_ACT.only r), (F.HIC_STATUS_RETRY_CNT.only r), F.PH_PLACE_OFFSET,
        F.PH_PLACE_TRIM, F.PWM_STATUS_CUT_CNT] s u) ∧
  (∀ (t : Nat) (r : Fin 8) (code : BitVec 12) (s u : State), s.Calm → exec (.rampStart t r code) s = .next u →
      Changes [.phases, .rail r] [(F.ENG_STATUS_ACT_SET.only r), (F.ENG_STATUS_OP.only r), (F.ENG_STATUS_SWAP_PEND.only r),
        F.PH_PLACE_OFFSET] s u) ∧
  (∀ (t : Nat) (r : Fin 8) (s u : State), s.Calm → exec (.railOvervoltage t r) s = .next u →
      Changes [.rails, .phases] [(F.RP_STICKY_OVABS_S.only r), (F.RP_STICKY_OV_S.only r)] s u) ∧
  (∀ (t : Nat) (r : Fin 8) (s u : State), s.Calm → exec (.crowbarEnd t r) s = .next u →
      Changes [] [] s u) ∧
  (∀ (t : Nat) (r : Fin 8) (s u : State), s.Calm → exec (.railUndervoltage t r) s = .next u →
      Changes [] [(F.RP_STICKY_UV_S.only r)] s u) ∧
  (∀ (t : Nat) (r : Fin 8) (s u : State), s.Calm → exec (.uvHiccupTimeout t r) s = .next u →
      Changes [.rails] [(F.HIC_STATUS_HIC_ENTRIES.only r), (F.HIC_STATUS_RETRY_CNT.only r)] s u) ∧
  (∀ (t : Nat) (r : Fin 8) (s u : State), s.Calm → exec (.railOvercurrent t r) s = .next u →
      Changes [.rails] [(F.HIC_STATUS_HIC_ENTRIES.only r), (F.HIC_STATUS_RETRY_CNT.only r), (F.RP_STICKY_OC_S.only r)] s u) ∧
  (∀ (t : Nat) (s u : State), s.Calm → exec (.busOvervoltage t) s = .next u →
      Changes [] [F.PROT_STATUS_BUS_OV_ACT] s u) ∧
  (∀ (t : Nat) (r : Fin 8) (s u : State), s.Calm → exec (.senseOpen t r) s = .next u →
      Changes [.rails] [(F.RP_STICKY_SNS_OPEN_S.only r)] s u) ∧
  (∀ (t : Nat) (r : Fin 8) (s u : State), s.Calm → exec (.frozenFeedbackRequest t r) s = .next u →
      Changes [.rail r] [] s u) ∧
  (∀ (t : Nat) (r : Fin 8) (s u : State), s.Calm → exec (.feedbackFrozen t r) s = .next u →
      Changes [.rails] [(F.RP_STICKY_FROZEN_S.only r)] s u) ∧
  (∀ (t : Nat) (r : Fin 8) (s u : State), s.Calm → exec (.auxSenseImplausible t r) s = .next u →
      Changes [.rails] [(F.RP_STICKY_AUXBAD_S.only r)] s u) ∧
  (∀ (t : Nat) (s u : State), s.Calm → exec (.noReferenceVote t) s = .next u →
      Changes [.pow] [] s u) ∧
  (∀ (t : Nat) (ab : Int) (bc : Int) (ca : Int) (s u : State), s.Calm → exec (.precheckReferenceVote t ab bc ca) s = .next u →
      Changes [.pow, .rails, .th] [F.REF_DEV_E_AB, F.REF_DEV_E_BC, F.REF_DEV_E_CA, F.REF_STATUS_NOVOTE_CNT, F.REF_STATUS_REF_DRIFT,
        F.REF_STATUS_REF_OUT, F.REF_STATUS_REF_SEL, F.REF_STATUS_REF_TRIM, F.REF_STATUS_TRANSFER] s u) ∧
  (∀ (t : Nat) (r : Fin 8) (refin : Nat) (meas : List (Int × Int × Int)) (vsp : Int) (vsn : Int) (vsa : Int) (rise : Int) (s u :
    State), s.Calm → exec (.prestartTest t r refin meas vsp vsn vsa rise) s = .next u →
      Changes [.jrn, .phases, .rails, .th] ((allFields.filter (fun f => (0x3808 ≤ f.base && f.base ≤ 0x3840) || f.base == 0x3880))
        ++ [F.PH_PLACE_OFFSET, F.PH_PROT_PRE_RES, F.PH_STATE_FAIL_CNT, F.PH_STICKY_FAILED_S, F.REFIN_STATUS_REFIN_REF,
        F.RP_STATUS_PRE_HOLD, (F.RP_STICKY_PRECHECK_S.only r)]) s u)

/-- For every command that acts on the phases and their temperature inputs (R160 to R164, R196, R210, R216, R295): whenever it
  answers a next state, nothing changed from the state before but the parts and the register fields named for it and what the end
  of an update may write (`settleFields` and the erased parts of `State.rest`). No SAFESTOP_CLR request waits (R80), SAFESTOP_CLR
  apart. -/
def Obligations.FrameOfPhaseCommands : Prop :=
  (∀ (t : Nat) (n : Fin 32) (s u : State), s.Calm → exec (.senseRange t n) s = .next u →
      Changes [.jrn, .phases, .rails] [F.PH_PLACE_OFFSET, F.PH_STATE_FAIL_CNT, F.PH_STICKY_FAILED_S, (F.PH_STICKY_SENSE_RANGE.only
        n)] s u) ∧
  (∀ (t : Nat) (n : Fin 32) (s u : State), s.Calm → exec (.phasePeriodEnd t n) s = .next u →
      Changes [.phase n] [(F.PH_CUR_I_AVG.only n), (F.PH_PROT_PHW_CNT.only n), (F.PH_STICKY_WATCH_S.only n),
        (F.PWM_STATUS_CUT_CNT.only n), (F.PWM_STATUS_FULL_CNT.only n), F.PWM_TON_TON] s u) ∧
  (∀ (t : Nat) (n : Fin 32) (s u : State), s.Calm → exec (.phaseFail t n) s = .next u →
      Changes [.jrn, .phases, .rails] [F.PH_PLACE_OFFSET, F.PH_STATE_FAIL_CNT, F.PH_STICKY_FAILED_S] s u) ∧
  (∀ (t : Nat) (n : Fin 32) (s u : State), s.Calm → exec (.phaseShedComplete t n) s = .next u →
      Changes [.phases] [F.PH_PLACE_OFFSET] s u) ∧
  (∀ (t : Nat) (n : Fin 32) (s u : State), s.Calm → exec (.phasePeriodStart t n) s = .next u →
      Changes [.phases] [F.PH_STICKY_PAIR_CLAMP, F.PH_STICKY_PAIR_SHIFT, F.PWM_STICKY_DUTY_SAT_S, F.PWM_STICKY_MINON_S] s u) ∧
  (∀ (t : Nat) (n : Fin 32) (s u : State), s.Calm → exec (.bootstrapRefresh t n) s = .next u →
      Changes [.phase n] [(F.PWM_STATUS_FULL_CNT.only n), (F.PWM_STICKY_REFRESH_S.only n)] s u) ∧
  (∀ (t : Nat) (n : Fin 32) (s u : State), s.Calm → exec (.negPeakTrip t n) s = .next u →
      Changes [.phase n] [(F.PH_PROT_NPK_S.only n)] s u) ∧
  (∀ (t : Nat) (n : Fin 32) (s u : State), s.Calm → exec (.tfltLatch t n) s = .next u →
      Changes [.phases] [F.PH_PLACE_OFFSET, (F.PWM_STATUS_TFLT_LATCH.only n), (F.PWM_STATUS_TFLT_LATCH_N.only n),
        (F.PWM_STICKY_TFLT_LATCH_S.only n)] s u) ∧
  (∀ (t : Nat) (n : Fin 32) (s u : State), s.Calm → exec (.phaseWindowStop t n) s = .next u →
      Changes [.phases] [F.PH_PLACE_OFFSET, (F.PH_PROT_PHW_STOP.only n)] s u) ∧
  (∀ (t : Nat) (k : Fin 47) (s u : State), s.Calm → exec (.sensorFailed t k) s = .next u →
      Changes [.th] (allFields.filter (fun f => (0x3808 ≤ f.base && f.base ≤ 0x3840) || f.base == 0x3880)) s u)

/-- For every command that acts on the commands that write one register (R515, R398): beside what the write is for, only ACC_DENY_S
  of a denied access: whenever it answers a next state, nothing changed from the state before but the parts and the register fields
  named for it and what the end of an update may write (`settleFields` and the erased parts of `State.rest`). No SAFESTOP_CLR
  request waits (R80), SAFESTOP_CLR apart. -/
def Obligations.FrameOfWriteCommands : Prop :=
  (∀ (t : Nat) (path : Path) (r : Fin 8) (data : Word) (s u : State), s.Calm → exec (.storeWr t path r data) s = .next u →
      Changes [.sets] [F.ENG_STATUS_SWAP_PEND, (F.ENG_STICKY_COEF_REJ.only r), F.SEC_STICKY_ACC_DENY_S, (F.SET_CTRL_FORCE_SET.only
        r), (F.SET_CTRL_STORE_ID.only r)] s u) ∧
  (∀ (t : Nat) (path : Path) (n : Fin 32) (data : Word) (s u : State), s.Calm → exec (.forceTri t path n data) s = .next u →
      Changes [.phases] [F.PH_PLACE_OFFSET, (F.PWM_CTRL_BST_N.only n), (F.PWM_CTRL_CUT_N.only n), (F.PWM_CTRL_FORCE_TRI.only n),
        (F.PWM_CTRL_INVERT.only n), (F.PWM_CTRL_SWAP.only n), F.PWM_STICKY_OVR_REJ, F.SEC_STICKY_ACC_DENY_S] s u) ∧
  (∀ (t : Nat) (path : Path) (ctx : BitVec 15) (s u : State), s.Calm → exec (.ctxResetWeight t path ctx) s = .next u →
      Changes [.ctxs, .rails] [F.SEC_STICKY_ACC_DENY_S, F.TN_CTX_SEL_CTX] s u) ∧
  (∀ (t : Nat) (path : Path) (ctx : BitVec 15) (s u : State), s.Calm → exec (.ctxMute t path ctx) s = .next u →
      Changes [.ctxs, .rails] [F.SEC_STICKY_ACC_DENY_S, F.TN_CTX_SEL_CTX] s u) ∧
  (∀ (t : Nat) (path : Path) (ctx : BitVec 15) (s u : State), s.Calm → exec (.ctxFlush t path ctx) s = .next u →
      Changes [.ctxs, .rails] [F.SEC_STICKY_ACC_DENY_S, F.TN_CTX_SEL_CTX] s u) ∧
  (∀ (t : Nat) (path : Path) (data : Word) (s u : State), s.Calm → exec (.railClr t path data) s = .next u →
      Changes [.rails, .phases] [F.PWM_STATUS_CUT_CNT, F.RP_STATUS_PRE_HOLD, F.SEC_STICKY_ACC_DENY_S] s u) ∧
  (∀ (t : Nat) (path : Path) (s u : State), s.Calm → exec (.faultHoldClear t path) s = .next u →
      Changes [] [F.SEC_STICKY_ACC_DENY_S] s u) ∧
  (∀ (t : Nat) (path : Path) (data : Word) (s u : State), s.Calm → exec (.pkClr t path data) s = .next u →
      Changes [.pk] [F.PK_CTRL_CHG_EN, F.PK_CTRL_ICHG_FW, F.PK_CTRL_LRN_VETO, F.PK_STATE_CHG_FLT, F.SEC_STICKY_ACC_DENY_S] s u) ∧
  (∀ (t : Nat) (who : Option (Path × Word)) (s u : State), s.Calm → exec (.pkTest t who) s = .next u →
      Changes [.pk] [F.PK_CTRL_CHG_EN, F.PK_CTRL_ICHG_FW, F.PK_CTRL_LRN_VETO, F.PK_STATE_CHG_FLT, F.SEC_STICKY_ACC_DENY_S] s u) ∧
  (∀ (t : Nat) (path : Path) (word : Word) (s u : State), s.Calm → exec (.sessionMboxPush t path word) s = .next u →
      Changes [.sec] [F.SEC_STICKY_ACC_DENY_S] s u) ∧
  (∀ (t : Nat) (p : Fin 2) (data : Word) (s u : State), s.Calm → exec (.loadConsent t p data) s = .next u →
      Changes [.sec] [F.LOAD_CONSENT_CONS_ID, F.LOAD_CONSENT_CONS_MIN, F.LOAD_CONSENT_CONS_RAIL, F.SEC_STICKY_ACC_DENY_S,
        F.SEC_STICKY_CONS_S] s u) ∧
  (∀ (t : Nat) (path : Path) (data : Word) (s u : State), s.Calm → exec (.recSel t path data) s = .next u →
      Changes [.rcd, .pmb] [F.SEC_STICKY_ACC_DENY_S] s u) ∧
  (∀ (t : Nat) (path : Path) (s u : State), s.Calm → exec (.clr t path) s = .next u →
      Changes [.rcd] [F.SEC_STICKY_ACC_DENY_S] s u) ∧
  (∀ (t : Nat) (path : Path) (s u : State), s.Calm → exec (.clrSticky t path) s = .next u →
      Changes [.rcd] [F.SEC_STICKY_ACC_DENY_S] s u) ∧
  (∀ (t : Nat) (path : Path) (s u : State), s.Calm → exec (.pmbClr t path) s = .next u →
      Changes [.pmb] [F.SEC_STICKY_ACC_DENY_S] s u)

/-- For every command that acts on the charger, the pack and hold-up (R364, R370, R372, R377, R384, R386): whenever it answers a
  next state, nothing changed from the state before but the parts and the register fields named for it and what the end of an
  update may write (`settleFields` and the erased parts of `State.rest`). No SAFESTOP_CLR request waits (R80), SAFESTOP_CLR apart.
  -/
def Obligations.FrameOfPackCommands : Prop :=
  (∀ (t : Nat) (v : BitVec 14) (i : Int) (rho : BitVec 16) (s u : State), s.Calm → exec (.packCapture t v i rho) s = .next u →
      Changes [.jrn, .phases, .pk, .pow, .th] ((allFields.filter (fun f => (0x3808 ≤ f.base && f.base ≤ 0x3840) || f.base ==
        0x3880)) ++ [F.PK_CAP_CYC_CNT, F.PK_CAP_FCC, F.PK_CUR_BAT_I, F.PK_LIFE_RFACT, F.PK_LIFE_SOH, F.PK_QREM_QREM, F.PK_SOC_ASOC,
        F.PK_SOC_RSOC, F.PK_STATE_CHG_FLT, F.PK_STATE_COARSE, F.PK_STATE_DISQ, F.PK_STATE_EOD_CAUSE, F.PK_STATE_EOL,
        F.PK_STATE_FULL, F.PK_STATE_HU_ARM, F.PK_STATE_LRN_OPEN, F.PK_STATE_PACK_DEAD, F.PK_STATE_PRESENT, F.PK_STICKY_EOD_S,
        F.PK_STICKY_EOL_S, F.PK_STICKY_LRN_DQ_S, F.PK_STICKY_LRN_OK_S, F.PK_STICKY_OCV_S, F.PK_VOLT_BAT_V, F.PK_VOLT_V_COMP]) s u) ∧
  (∀ (t : Nat) (raw : BitVec 16) (s u : State), s.Calm → exec (.coulombCounterUpdate t raw) s = .next u →
      Changes [.pk] [F.PK_CC_ACC_CC_ACC, F.PK_QREM_QREM, F.PK_SOC_ASOC, F.PK_STATE_FULL] s u) ∧
  (∀ (t : Nat) (above : BitVec 16) (s u : State), s.Calm → exec (.chargerInputCheck t above) s = .next u →
      Changes [.pk] [F.PK_STATE_CHG_IN] s u) ∧
  (∀ (t : Nat) (s u : State), s.Calm → exec (.chargerRetry t) s = .next u →
      Changes [.pk] [] s u) ∧
  (∀ (t : Nat) (s u : State), s.Calm → exec (.chargeTermination t) s = .next u →
      Changes [.jrn, .pk] [F.PK_CAP_FCC, F.PK_LIFE_SOH, F.PK_QREM_QREM, F.PK_SOC_ASOC, F.PK_SOC_RSOC, F.PK_STATE_COARSE,
        F.PK_STATE_DISQ, F.PK_STATE_EOL, F.PK_STATE_FULL, F.PK_STATE_LRN_OPEN, F.PK_STICKY_EOL_S, F.PK_STICKY_LRN_DQ_S,
        F.PK_STICKY_LRN_OK_S] s u) ∧
  (∀ (t : Nat) (s u : State), s.Calm → exec (.chargerRecharge t) s = .next u →
      Changes [.pk] [] s u) ∧
  (∀ (t : Nat) (s u : State), s.Calm → exec (.chargerPreTimeout t) s = .next u →
      Changes [.pk] [F.PK_STATE_CHG_FLT, F.PK_STATE_PACK_DEAD, F.PK_STICKY_CHG_FLT_S] s u) ∧
  (∀ (t : Nat) (s u : State), s.Calm → exec (.chargerTimerExpiry t) s = .next u →
      Changes [.pk] [F.PK_STATE_CHG_FLT, F.PK_STICKY_CHG_FLT_S] s u) ∧
  (∀ (t : Nat) (s u : State), s.Calm → exec (.chargerOvp t) s = .next u →
      Changes [.pk] [F.PK_STATE_CHG_FLT, F.PK_STICKY_CHG_FLT_S] s u) ∧
  (∀ (t : Nat) (s u : State), s.Calm → exec (.insertionHoldEnd t) s = .next u →
      Changes [.pk] [F.PK_CAP_CYC_CNT, F.PK_CAP_FCC, F.PK_LIFE_RFACT, F.PK_LIFE_SOH, F.PK_STATE_EOL, F.PK_STICKY_EOL_S] s u) ∧
  (∀ (t : Nat) (s u : State), s.Calm → exec (.inputLoss t) s = .next u →
      Changes [.jrn, .pk, .pow] [F.PK_STATE_EOD_CAUSE, F.PK_STICKY_EOD_S, F.PK_STICKY_HU_S, F.PK_STICKY_PROBE_FAIL_S] s u) ∧
  (∀ (t : Nat) (s u : State), s.Calm → exec (.busGood t) s = .next u →
      Changes [.pk, .pow] [] s u) ∧
  (∀ (t : Nat) (s u : State), s.Calm → exec (.packOvercurrent t) s = .next u →
      Changes [.jrn, .pk, .pow] [F.PK_STATE_EOD_CAUSE, F.PK_STICKY_EOD_S] s u) ∧
  (∀ (t : Nat) (bus : BitVec 14) (s u : State), s.Calm → exec (.packReverseCurrent t bus) s = .next u →
      Changes [.pk] [F.PK_STICKY_PROBE_FAIL_S] s u) ∧
  (∀ (t : Nat) (bus : BitVec 14) (s u : State), s.Calm → exec (.holdupProbe t bus) s = .next u →
      Changes [.pk] [F.PK_STICKY_PROBE_FAIL_S] s u) ∧
  (∀ (t : Nat) (bus : BitVec 14) (s u : State), s.Calm → exec (.probeEnd t bus) s = .next u →
      Changes [.jrn, .pk, .pow] [F.PK_STICKY_PROBE_FAIL_S, F.PK_STICKY_RESTORE_S] s u) ∧
  (∀ (t : Nat) (s u : State), s.Calm → exec (.holdupTimeLimit t) s = .next u →
      Changes [.jrn, .pk, .pow] [F.PK_STATE_EOD_CAUSE, F.PK_STICKY_EOD_S] s u) ∧
  (∀ (t : Nat) (s u : State), s.Calm → exec (.recoveryRestEnd t) s = .next u →
      Changes [.jrn, .phases, .pk] [F.PK_CAP_FCC, F.PK_LIFE_SOH, F.PK_QREM_QREM, F.PK_SOC_ASOC, F.PK_SOC_RSOC, F.PK_STATE_COARSE,
        F.PK_STATE_DISQ, F.PK_STATE_EOL, F.PK_STATE_FULL, F.PK_STATE_LRN_OPEN, F.PK_STICKY_EOL_S, F.PK_STICKY_LRN_DQ_S,
        F.PK_STICKY_LRN_OK_S, F.PK_STICKY_OCV_S] s u) ∧
  (∀ (t : Nat) (s u : State), s.Calm → exec (.packTestRestEnd t) s = .next u →
      Changes [.jrn, .phases, .pk] [F.PK_CAP_FCC, F.PK_LIFE_SOH, F.PK_QREM_QREM, F.PK_SOC_ASOC, F.PK_SOC_RSOC, F.PK_STATE_COARSE,
        F.PK_STATE_DISQ, F.PK_STATE_EOL, F.PK_STATE_FULL, F.PK_STATE_LRN_OPEN, F.PK_STICKY_EOL_S, F.PK_STICKY_LRN_DQ_S,
        F.PK_STICKY_LRN_OK_S, F.PK_STICKY_OCV_S] s u) ∧
  (∀ (t : Nat) (s u : State), s.Calm → exec (.packTestMeasure t) s = .next u →
      Changes [.jrn, .pk, .pow] [F.PK_LIFE_RFACT, F.PK_LIFE_SOH, F.PK_STATE_EOL, F.PK_STICKY_EOL_S] s u) ∧
  (∀ (t : Nat) (s u : State), s.Calm → exec (.packTestRetry t) s = .next u →
      Changes [.pk] [] s u) ∧
  (∀ (t : Nat) (s u : State), s.Calm → exec (.learnTimeout t) s = .next u →
      Changes [.jrn, .pk] [F.PK_STATE_DISQ, F.PK_STATE_LRN_OPEN, F.PK_STICKY_LRN_DQ_S] s u) ∧
  (∀ (t : Nat) (s u : State), s.Calm → exec (.packRecordHourly t) s = .next u →
      Changes [.jrn, .pk] [] s u) ∧
  (∀ (t : Nat) (sw : Nat) (demand : Nat) (s u : State), s.Calm → exec (.chargerSwitchingPeriod t sw demand) s = .next u →
      Changes [.pk] [F.PK_STATE_CHG_IN] s u)

/-- For every command that acts on the links, Tense, the sessions, the records and the journal (R247, R270, R417, R445, R471):
  whenever it answers a next state, nothing changed from the state before but the parts and the register fields named for it and
  what the end of an update may write (`settleFields` and the erased parts of `State.rest`). No SAFESTOP_CLR request waits (R80),
  SAFESTOP_CLR apart. -/
def Obligations.FrameOfLinkAndSessionCommands : Prop :=
  (∀ (t : Nat) (p : Fin 2) (f : AlCut) (s u : State), s.Calm → exec (.clkStuck t p f) s = .next u →
      Changes [.img, .jrn, .phases, .pmb, .port p, .pow, .rails, .rcd, .sec, .sets] [(F.AL_STICKY_CLK_STUCK.only p),
        F.ENG_STATUS_SWAP_PEND, F.ENG_STICKY_COEF_REJ, F.MODE_STATUS_SHUTDOWN_ACT, F.PH_PLACE_OFFSET, F.PK_STATE_CHG_FLT,
        F.PWM_CTRL_FORCE_TRI, F.PWM_STICKY_OVR_REJ, F.REC_STATUS_REC_MISS, F.RP_STATUS_PRE_HOLD, F.SEC_STICKY_ACC_DENY_S,
        F.SEC_STICKY_CONS_S, F.SP_CTRL_SP_REJ, F.SP_CTRL_VSEL_REJ, F.SP_CTRL_WIN_MOVED, F.SP_STATUS_SP_OWNER, F.SP_STATUS_SP_TGT,
        F.SP_WIN_P1_MAX, F.SP_WIN_P1_MIN] s u) ∧
  (∀ (t : Nat) (p : Fin 2) (seq : BitVec 4) (ask : AlAsk) (s u : State), s.Calm → exec (.hint t p seq ask) s = .next u →
      Changes [.port p, .rings, .rails, .ctxs] [(F.AL_COUNT_NAK_CNT.only p), (F.AL_STATUS_SILENT.only p), (F.AL_STICKY_RETRY_S.only
        p)] s u) ∧
  (∀ (t : Nat) (p : Fin 2) (seq : BitVec 4) (payload : Word) (s u : State), s.Calm → exec (.unhint t p seq payload) s = .next u →
      Changes [.port p, .rails, .ctxs] [(F.AL_COUNT_NAK_CNT.only p), (F.AL_STATUS_SILENT.only p), (F.AL_STICKY_RETRY_S.only p),
        F.TN_SCORE_HITS, F.TN_SCORE_MISSES] s u) ∧
  (∀ (t : Nat) (p : Fin 2) (seq : BitVec 4) (payload : Word) (s u : State), s.Calm → exec (.read t p seq payload) s = .next u →
      Changes [.port p, .br, .sec, .rcd] [(F.AL_COUNT_NAK_CNT.only p), (F.AL_STATUS_SILENT.only p), (F.AL_STICKY_RETRY_S.only p),
        F.REC_STATUS_REC_MISS, F.SEC_STICKY_ACC_DENY_S] s u) ∧
  (∀ (t : Nat) (p : Fin 2) (seq : BitVec 4) (payload : Word) (s u : State), s.Calm → exec (.preset t p seq payload) s = .next u →
      Changes [.port p] [(F.AL_COUNT_NAK_CNT.only p), (F.AL_STATUS_CTX_ID.only p), (F.AL_STATUS_SILENT.only p),
        (F.AL_STICKY_RETRY_S.only p)] s u) ∧
  (∀ (t : Nat) (p : Fin 2) (s u : State), s.Calm → exec (.aedatPortSilent t p) s = .next u →
      Changes [.br, .port p, .rails] [(F.AL_STATUS_CTX_ID.only p), (F.AL_STATUS_SILENT.only p), (F.AL_STICKY_SILENT_S.only p),
        F.SP_STATUS_SP_OWNER, F.SP_STATUS_SP_TGT] s u) ∧
  (∀ (t : Nat) (r : Fin 8) (x : BitVec 15) (slot : Fin 4) (s u : State), s.Calm → exec (.hintPhaseRequest t r x slot) s = .next u →
      Changes [.rail r] [F.PHC_STATUS_ADD_PEND] s u) ∧
  (∀ (t : Nat) (r : Fin 8) (x : BitVec 15) (slot : Fin 4) (s u : State), s.Calm → exec (.hintRise t r x slot) s = .next u →
      Changes [.rail r] [F.PHC_STATUS_ADD_PEND] s u) ∧
  (∀ (t : Nat) (r : Fin 8) (x : BitVec 15) (slot : Fin 4) (s u : State), s.Calm → exec (.hintHoldEnd t r x slot) s = .next u →
      Changes [] [] s u) ∧
  (∀ (t : Nat) (r : Fin 8) (x : BitVec 15) (slot : Fin 4) (s u : State), s.Calm → exec (.hintScore t r x slot) s = .next u →
      Changes [.ctxs, .rails] [(F.TN_SCORE_HITS.only r), (F.TN_SCORE_MISSES.only r)] s u) ∧
  (∀ (t : Nat) (r : Fin 8) (s u : State), s.Calm → exec (.earlyMiss t r) s = .next u →
      Changes [.ctxs, .rails] [(F.TN_SCORE_HITS.only r), (F.TN_SCORE_MISSES.only r), (F.TN_STAT_EARLY_MISS_S.only r)] s u) ∧
  (∀ (t : Nat) (res : Fin 5) (s u : State), s.Calm → s.mode ≠ .service → exec (.leaseExpiry t res) s = .next u →
      Changes [.br, .jrn, .pmb, .ports, .sec, .spi] [F.AL_STICKY_WR_FAIL, F.BRIDGE_STATUS_BRIDGE_FAULT, F.JRN_STATUS_BUSY,
        F.JRN_STATUS_DEFER, F.JRN_STATUS_DEFER_CAUSE, F.JRN_STICKY_DEFER_S, F.LEASE_STATUS_BRIDGE_N, F.LEASE_STATUS_HKADC_N,
        F.LEASE_STATUS_JOURNAL_N, F.LEASE_STATUS_LEASE_EXP_S, F.LEASE_STATUS_PMBUS_N, F.LEASE_STATUS_SPI_N] s u) ∧
  (∀ (t : Nat) (res : Fin 5) (s u : State), s.Calm → s.mode = .service → exec (.leaseExpiry t res) s = .next u →
      Changes [.br, .jrn, .pmb, .ports, .sec, .spi, .pow, .par, .tlm, .rails, .phases] ((allFields.filter (fun f => f.dom == .w ||
        f.dom == .p)) ++ [F.AL_STICKY_WR_FAIL, F.BRIDGE_STATUS_BRIDGE_FAULT, F.JRN_STATUS_BUSY, F.JRN_STATUS_DEFER,
        F.JRN_STATUS_DEFER_CAUSE, F.JRN_STICKY_DEFER_S, F.LEASE_STATUS_BRIDGE_N, F.LEASE_STATUS_HKADC_N, F.LEASE_STATUS_JOURNAL_N,
        F.LEASE_STATUS_LEASE_EXP_S, F.LEASE_STATUS_PMBUS_N, F.LEASE_STATUS_SPI_N]) s u) ∧
  (∀ (t : Nat) (s u : State), s.Calm → exec (.sessionHandshakeTimeout t) s = .next u →
      Changes [.otp, .sec] [F.AUTH_FAIL_FAIL_N, F.SEC_STICKY_SESS_FAIL_S] s u) ∧
  (∀ (t : Nat) (s u : State), s.Calm → s.mode ≠ .service → exec (.sessionWrite t) s = .next u →
      Changes [.br, .ctxs, .img, .jrn, .phases, .pmb, .pow, .rails, .rcd, .sec, .sets] ((allFields.filter (fun f => f.acc != .ro))
        ++ [F.ENG_STATUS_SWAP_PEND, F.MODE_STATUS_SHUTDOWN_ACT, F.PH_PLACE_OFFSET, F.PK_STATE_CHG_FLT, F.RP_STATUS_PRE_HOLD,
        F.SP_STATUS_SP_OWNER, F.SP_STATUS_SP_TGT]) s u) ∧
  (∀ (t : Nat) (s u : State), s.Calm → s.mode = .service → exec (.sessionWrite t) s = .next u →
      Changes [.br, .ctxs, .img, .jrn, .phases, .pmb, .pow, .rails, .rcd, .sec, .sets, .par, .tlm] ((allFields.filter (fun f =>
        f.dom == .w || f.dom == .p)) ++ (allFields.filter (fun f => f.acc != .ro)) ++ [F.ENG_STATUS_SWAP_PEND,
        F.MODE_STATUS_SHUTDOWN_ACT, F.PH_PLACE_OFFSET, F.PK_STATE_CHG_FLT, F.RP_STATUS_PRE_HOLD, F.SP_STATUS_SP_OWNER,
        F.SP_STATUS_SP_TGT]) s u) ∧
  (∀ (t : Nat) (s u : State), s.Calm → s.mode ≠ .service → exec (.transfer t) s = .next u →
      Changes [.jrn, .otp, .rcd, .sec] [F.JRN_LOAD_HIST_N, F.SEC_STICKY_KEYOP_S, F.SEC_STICKY_TAG_FAIL_S] s u) ∧
  (∀ (t : Nat) (s u : State), s.Calm → s.mode = .service → exec (.transfer t) s = .next u →
      Changes [.jrn, .otp, .rcd, .sec, .pow, .par, .tlm, .pmb, .rails, .phases] ((allFields.filter (fun f => f.dom == .w || f.dom
        == .p)) ++ [F.JRN_LOAD_HIST_N, F.SEC_STICKY_KEYOP_S, F.SEC_STICKY_TAG_FAIL_S]) s u) ∧
  (∀ (t : Nat) (s u : State), s.Calm → s.mode ≠ .service → exec (.retireKey t) s = .next u →
      Changes [.otp, .sec] [F.SEC_STICKY_KEYOP_S, F.SEC_STICKY_TAG_FAIL_S] s u) ∧
  (∀ (t : Nat) (s u : State), s.Calm → s.mode = .service → exec (.retireKey t) s = .next u →
      Changes [.otp, .sec, .pow, .par, .tlm, .pmb, .rails, .phases] ((allFields.filter (fun f => f.dom == .w || f.dom == .p)) ++
        [F.SEC_STICKY_KEYOP_S, F.SEC_STICKY_TAG_FAIL_S]) s u) ∧
  (∀ (t : Nat) (iv : BitVec 96) (s u : State), s.Calm → s.mode ≠ .service → exec (.addIek t iv) s = .next u →
      Changes [.otp, .sec] [F.SEC_STICKY_KEYOP_S, F.SEC_STICKY_TAG_FAIL_S] s u) ∧
  (∀ (t : Nat) (iv : BitVec 96) (s u : State), s.Calm → s.mode = .service → exec (.addIek t iv) s = .next u →
      Changes [.otp, .sec, .pow, .par, .tlm, .pmb, .rails, .phases] ((allFields.filter (fun f => f.dom == .w || f.dom == .p)) ++
        [F.SEC_STICKY_KEYOP_S, F.SEC_STICKY_TAG_FAIL_S]) s u) ∧
  (∀ (t : Nat) (s u : State), s.Calm → s.mode ≠ .service → exec (.retireIek t) s = .next u →
      Changes [.otp, .sec] [F.SEC_STICKY_KEYOP_S, F.SEC_STICKY_TAG_FAIL_S] s u) ∧
  (∀ (t : Nat) (s u : State), s.Calm → s.mode = .service → exec (.retireIek t) s = .next u →
      Changes [.otp, .sec, .pow, .par, .tlm, .pmb, .rails, .phases] ((allFields.filter (fun f => f.dom == .w || f.dom == .p)) ++
        [F.SEC_STICKY_KEYOP_S, F.SEC_STICKY_TAG_FAIL_S]) s u) ∧
  (∀ (t : Nat) (s u : State), s.Calm → s.mode ≠ .service → exec (.tapDisable t) s = .next u →
      Changes [.otp, .sec] [F.SEC_STICKY_KEYOP_S, F.SEC_STICKY_TAG_FAIL_S] s u) ∧
  (∀ (t : Nat) (s u : State), s.Calm → s.mode = .service → exec (.tapDisable t) s = .next u →
      Changes [.otp, .sec, .pow, .par, .tlm, .pmb, .rails, .phases] ((allFields.filter (fun f => f.dom == .w || f.dom == .p)) ++
        [F.SEC_STICKY_KEYOP_S, F.SEC_STICKY_TAG_FAIL_S]) s u) ∧
  (∀ (t : Nat) (s u : State), s.Calm → s.mode ≠ .service → exec (.decommission t) s = .next u →
      Changes [.otp, .sec] [F.SEC_STICKY_KEYOP_S, F.SEC_STICKY_TAG_FAIL_S] s u) ∧
  (∀ (t : Nat) (s u : State), s.Calm → s.mode = .service → exec (.decommission t) s = .next u →
      Changes [.otp, .sec, .pow, .par, .tlm, .pmb, .rails, .phases] ((allFields.filter (fun f => f.dom == .w || f.dom == .p)) ++
        [F.SEC_STICKY_KEYOP_S, F.SEC_STICKY_TAG_FAIL_S]) s u) ∧
  (∀ (t : Nat) (path : Path) (s u : State), s.Calm → exec (.recAutoAdvance t path) s = .next u →
      Changes [.rcd, .sec] [F.REC_STATUS_REC_MISS, F.SEC_STICKY_ACC_DENY_S] s u) ∧
  (∀ (t : Nat) (vs : BitVec 11) (s u : State), s.Calm → exec (.journalDeferRetry t vs) s = .next u →
      Changes [.jrn] [F.JRN_STATUS_BUSY, F.JRN_STATUS_DEFER, F.JRN_STATUS_DEFER_CAUSE, F.JRN_STICKY_DEFER_S, F.JRN_VAON_V_S] s u) ∧
  (∀ (t : Nat) (edges : Nat) (raw : BitVec 80) (s u : State), s.Calm → exec (.spiFrameError t edges raw) s = .next u →
      Changes [.spi] [F.SPI_STATUS_CRC_ERR, F.SPI_STATUS_FMT_ERR] s u) ∧
  (∀ (t : Nat) (x : Xfer) (s u : State), s.Calm → exec (.clearFaults t x) s = .next u →
      Changes [.pmb] [F.PMB_STATUS_PEC_ERR] s u) ∧
  (∀ (t : Nat) (x : Xfer) (s u : State), s.Calm → exec (.mfrRecData t x) s = .next u →
      Changes [.pmb, .rcd, .sec] [F.PMB_STATUS_PEC_ERR, F.REC_STATUS_REC_MISS, F.SEC_STICKY_ACC_DENY_S] s u) ∧
  (∀ (t : Nat) (code : Byte) (x : Xfer) (s u : State), s.Calm → exec (.pmbusInvalidCommand t code x) s = .next u →
      Changes [.pmb] [] s u) ∧
  (∀ (t : Nat) (typ : BitVec 4) (src : BitVec 2) (seq : BitVec 2) (payload : BitVec 48) (crc : BitVec 16) (codeErr : Bool) (s u :
    State), s.Calm → exec (.cjOwnSlotReturn t typ src seq payload crc codeErr) s = .next u →
      Changes [.cj] [F.CJ_COUNT_CODE_ERR, F.CJ_COUNT_CRC_ERR, F.CJ_ILIM_ILIM_SYS, F.CJ_STATUS_DUP_CTL, F.CJ_STATUS_JOINED,
        F.CJ_STATUS_LINK_OK, F.CJ_STATUS_N_SYS_SW, F.CJ_STATUS_RING_OK, F.CJ_STICKY_ERR_S] s u) ∧
  (∀ (t : Nat) (src : BitVec 2) (seq : BitVec 2) (payload : BitVec 48) (crc : BitVec 16) (codeErr : Bool) (s u : State), s.Calm →
    exec (.target t src seq payload crc codeErr) s = .next u →
      Changes [.cj, .phases, .rails] [F.CJ_COUNT_CODE_ERR, F.CJ_COUNT_CRC_ERR, F.CJ_COUNT_ISLAND_N, F.CJ_STATUS_ISLAND,
        F.CJ_STATUS_LINK_OK, F.CJ_STATUS_RING_OK, F.CJ_STICKY_ERR_S, F.CJ_STICKY_ISLAND_S, F.CJ_STICKY_LOST_S, F.ENG_STATUS_CL_ACT,
        F.ENG_STICKY_SWAP_CLAMP] s u) ∧
  (∀ (t : Nat) (src : BitVec 2) (seq : BitVec 2) (payload : BitVec 48) (crc : BitVec 16) (codeErr : Bool) (s u : State), s.Calm →
    exec (.railinfo t src seq payload crc codeErr) s = .next u →
      Changes [.cj, .phases, .rails] [F.CJ_COUNT_CODE_ERR, F.CJ_COUNT_CRC_ERR, F.CJ_ILIM_ILIM_SYS, F.CJ_STATUS_LINK_OK,
        F.CJ_STATUS_N_SYS_SW, F.CJ_STATUS_PEER_LOST, F.CJ_STICKY_ERR_S, F.ENG_STATUS_ACT_SET, F.ENG_STATUS_CL_ACT, F.ENG_STATUS_OP,
        F.ENG_STATUS_SWAP_PEND, F.HIC_STATUS_RETRY_CNT, F.PHC_STATUS_ADD_PEND, F.PH_PLACE_OFFSET, F.PH_PLACE_TRIM,
        F.PWM_STATUS_CUT_CNT, F.PWM_STATUS_TFLT_LATCH, F.PWM_STATUS_TFLT_LATCH_N, F.PWM_STICKY_TFLT_LATCH_S] s u) ∧
  (∀ (t : Nat) (src : BitVec 2) (seq : BitVec 2) (payload : BitVec 48) (crc : BitVec 16) (codeErr : Bool) (s u : State), s.Calm →
    exec (.mstat t src seq payload crc codeErr) s = .next u →
      Changes [.cj] [F.CJ_COUNT_CODE_ERR, F.CJ_COUNT_CRC_ERR, F.CJ_STATUS_LINK_OK, F.CJ_STATUS_PEER_LOST, F.CJ_STICKY_ERR_S] s u) ∧
  (∀ (t : Nat) (src : BitVec 2) (seq : BitVec 2) (payload : BitVec 48) (crc : BitVec 16) (codeErr : Bool) (s u : State), s.Calm →
    exec (.railev t src seq payload crc codeErr) s = .next u →
      Changes [.cj, .rails] [F.CJ_COUNT_CODE_ERR, F.CJ_COUNT_CRC_ERR, F.CJ_STATUS_LINK_OK, F.CJ_STICKY_ERR_S,
        F.HIC_STATUS_RETRY_CNT] s u) ∧
  (∀ (t : Nat) (src : BitVec 2) (seq : BitVec 2) (payload : BitVec 48) (crc : BitVec 16) (codeErr : Bool) (s u : State), s.Calm →
    exec (.join t src seq payload crc codeErr) s = .next u →
      Changes [.cj] [F.CJ_COUNT_CODE_ERR, F.CJ_COUNT_CRC_ERR, F.CJ_STATUS_LINK_OK, F.CJ_STATUS_PEER_LOST, F.CJ_STICKY_ERR_S] s u) ∧
  (∀ (t : Nat) (s u : State), s.Calm → exec (.leaderLost t) s = .next u →
      Changes [.cj, .rails] [F.CJ_COUNT_ISLAND_N, F.CJ_STATUS_ISLAND, F.CJ_STATUS_LINK_OK, F.CJ_STATUS_RING_OK,
        F.CJ_STICKY_ISLAND_S, F.CJ_STICKY_LOST_S, F.ENG_STATUS_CL_ACT, F.ENG_STICKY_SWAP_CLAMP] s u) ∧
  (∀ (t : Nat) (c : Fin 4) (s u : State), s.Calm → exec (.memberLost t c) s = .next u →
      Changes [.cj] [F.CJ_STATUS_PEER_LOST, F.CJ_STICKY_LOST_S] s u)

/-- Accepted register writes take their values: by host SPI (P2) the phase requests of firmware, the load line and an Aedat port's
  settings, by a session (P3) the set map; a write that changes nothing leaves all as it is (R515). Then what these commands do in
  every state that the rule names: XTAL_START_TIMEOUT (R69), REF_CLOCK_FAIL (R70), PLL_UNLOCK and PLL_RELOCK (R72),
  REGION_ENABLE_ON and REGION_ENABLE_OFF (R81, R520), REGION_ARBITRATION (R31), CONFIG_APPLY (R111), TELEMETRY_WINDOW_END (R400).
  Where a clause rests on a reading the spec leaves open, it is the model's: log entries 26, 46, 151, 153 and 193. -/
def Obligations.WritesAndClocksComplete : Prop :=
  -- R515: PHC_FW by P2
  (∀ (t : Nat) (s : State) (d : Word) (r : Fin 8) (x y : Nat),
      s.Calm → s.AsP2 → s.cz1604 = false → x < 2 ^ 16 → y < 2 ^ 16 → d.toNat = x * 2 ^ 16 + y →
      Gives (.registerWrite t .spi (BitVec.ofNat 16 (0x1084 + 256 * r.val)) d) s (fun u =>
        u.get F.PHC_FW_FW_ADD r = x ∧ u.get F.PHC_FW_FW_SHED r = y ∧ Changes [] [F.PHC_FW_FW_ADD, F.PHC_FW_FW_SHED] s u)) ∧
  -- R515: LOADLINE by P2 after PARSE
  (∀ (t : Nat) (s : State) (d : Word) (r : Fin 8) (x y : Nat),
      s.Calm → s.AsP2 → s.cz1604 = false → s.parsed = true → x < 8 → y < 2 ^ 12 → d.toNat = x * 2 ^ 16 + y →
      Gives (.registerWrite t .spi (BitVec.ofNat 16 (0x100C + 256 * r.val)) d) s (fun u =>
        u.get F.LOADLINE_LL_TAU r = x ∧ u.get F.LOADLINE_LL_R r = y)) ∧
  -- R515: AL_CFG by P2 after PARSE
  (∀ (t : Nat) (s : State) (d : Word) (p : Fin 2) (x y : Nat),
      s.Calm → s.AsP2 → s.cz1604 = false → s.parsed = true → x < 2 → y < 2 ^ 8 →
        d.toNat = s.get F.AL_CFG_PORT_EN p * 2 ^ 31 + x * 2 ^ 30 + y →
      Gives (.registerWrite t .spi (BitVec.ofNat 16 (0x7000 + 64 * p.val)) d) s (fun u =>
        u.get F.AL_CFG_ON_SILENT p = x ∧ u.get F.AL_CFG_AL_TMO p = y ∧ u.get F.AL_CFG_PORT_EN p = s.get F.AL_CFG_PORT_EN p)) ∧
  -- R515: OP_MAP_LO by P3
  (∀ (t : Nat) (s : State) (d : Word) (r : Fin 8) (w x y z : Nat),
      s.Calm → s.AsP3 1 → s.parsed = true → s.cz1604 = false → w < 64 → x < 64 → y < 64 → z < 64 →
        d.toNat = w * 2 ^ 24 + x * 2 ^ 16 + y * 2 ^ 8 + z →
      Gives (.registerWrite t .sess (BitVec.ofNat 16 (0x1028 + 256 * r.val)) d) s (fun u =>
        u.get F.OP_MAP_LO_MAP3 r = w ∧ u.get F.OP_MAP_LO_MAP2 r = x ∧ u.get F.OP_MAP_LO_MAP1 r = y
          ∧ u.get F.OP_MAP_LO_MAP0 r = z)) ∧
  -- R515: the values it holds, written again
  (∀ (t : Nat) (s : State) (d : Word) (r : Fin 8),
      s.Calm → s.AsP2 → s.cz1604 = false → s.get F.PHC_FW_FW_ADD r < 2 ^ 16 → s.get F.PHC_FW_FW_SHED r < 2 ^ 16 →
        d.toNat = s.get F.PHC_FW_FW_ADD r * 2 ^ 16 + s.get F.PHC_FW_FW_SHED r →
      Gives (.registerWrite t .spi (BitVec.ofNat 16 (0x1084 + 256 * r.val)) d) s (fun u =>
        Changes [] [] s u)) ∧
  -- R69: XTAL_START_TIMEOUT
  (∀ (t : Nat) (s : State),
      s.Calm → s.mode = .wake → s.pow.wakeAt + 1500000 ≤ s.now → s.flag F.CLK_STATUS_XTAL_OK = false →
        s.flag F.CLK_STATUS_BACKUP_ACTIVE = false →
      Gives (.xtalStartTimeout t) s (fun u =>
        u.get F.CLK_STATUS_XTAL_FAIL = 1 ∧ u.get F.CLK_STATUS_BACKUP_ACTIVE = 1)) ∧
  -- R70: REF_CLOCK_FAIL
  (∀ (t : Nat) (s : State) (d : Bool),
      s.Calm → s.awake = true → s.par.xtalReq = false → s.flag F.CLK_STATUS_BACKUP_ACTIVE = false →
      Gives (.refClockFail t d) s (fun u =>
        u.get F.CLK_STATUS_BACKUP_ACTIVE = 1 ∧ u.get F.CLK_STATUS_XTAL_FAIL = 1 ∧ u.get F.CLK_STATUS_CLK_SRC_SWITCH = 1)) ∧
  -- R72: PLL_UNLOCK
  (∀ (t : Nat) (s : State) (p : Pll) (e : Int),
      s.Calm → s.mode ≠ .dormant → -400 ≤ e → e ≤ 400 →
      Gives (.pllUnlock t p e) s (fun u =>
        u.get F.CLK_STATUS_PLL_UNLOCK = 1 ∧ u.get (lockField p) = 0 ∧ u.mode = s.mode)) ∧
  -- R72: PLL_RELOCK
  (∀ (t : Nat) (s : State) (p : Pll) (e : Int),
      s.Calm → s.mode ≠ .dormant → s.pow.pllLost.testBit (pllNo p) = true → -400 ≤ e → e ≤ 400 →
      Gives (.pllRelock t p e) s (fun u =>
        u.get (lockField p) = 1 ∧ u.get F.CLK_STATUS_PLL_UNLOCK = s.get F.CLK_STATUS_PLL_UNLOCK)) ∧
  -- R81: REGION_ENABLE_ON
  (∀ (t : Nat) (s : State) (m q : Fin 4),
      s.Calm → s.mode ≠ .dormant → q ≠ m →
      Gives (.regionEnableOn t m) s (fun u =>
        u.pow.en[m] = true ∧ u.pow.en[q] = s.pow.en[q])) ∧
  -- R520: REGION_ENABLE_OFF
  (∀ (t : Nat) (s : State) (m q : Fin 4) (r : Fin 8),
      s.Calm → q ≠ m → s.regionOf r = m → (s.cfg r).present = true →
      Gives (.regionEnableOff t m) s (fun u =>
        u.pow.en[m] = false ∧ u.pow.en[q] = s.pow.en[q] ∧ u.get F.RP_STATUS_PRE_HOLD r = 0)) ∧
  -- R31: REGION_ARBITRATION
  (∀ (t : Nat) (s : State) (m : Fin 4),
      s.Calm → s.pow.cdUp = true → s.regionHeld m = false →
      Gives (.regionArbitration t m) s (fun u =>
        u.getI F.RGN_BUDGET_I_EST m = satS 16 (u.regionEst m))) ∧
  -- R111: CONFIG_APPLY
  (∀ (t : Nat) (s : State),
      s.Calm → s.mode = .parse → s.pow.cdUp = true → s.par.stopped = false → s.par.source ≠ 0 → s.par.source < 4 →
        s.flag F.CLK_STATUS_BACKUP_ACTIVE = false →
      Gives (.configApply t) s (fun u =>
        u.get F.PARSE_STATUS_DONE = 1 ∧ u.get F.PARSE_STATUS_APPLY_STEP = 12 ∧ u.get F.PARSE_STATUS_SOURCE = s.par.source)) ∧
  -- R400: TELEMETRY_WINDOW_END
  (∀ (t : Nat) (s : State) (i : Fin 16),
      s.Calm → s.mode ≠ .dormant → s.mode ≠ .wake → (State.at s t).windowDue 1 = true →
      Gives (.telemetryWindowEnd t 1) s (fun u =>
        u.get F.FW_PUB_VALUE i = s.get F.FW_PUB_STAGE_VALUE i ∧ u.get F.FW_PUB_STAGE_VALUE i = s.get F.FW_PUB_STAGE_VALUE i))
end

