-- ==== Sys2Proof/Laws/Crypto.lean ====
section
/-!
SUPPORT. What AES-256-GCM seals, it opens: the lengths of the round keys and of the key stream, the counter mode as its own inverse.
-/
namespace Sys2Proof.Machine

/-- The key schedule keeps words of four bytes, and adds as many as it is told. -/
theorem keyGrow_words (t : List Nat) : ∀ (n i : Nat) (ws : List (List Nat)), (∀ w ∈ ws, w.length = 4) → 8 ≤ ws.length →
    (∀ w ∈ keyGrow t n i ws, w.length = 4) ∧ (keyGrow t n i ws).length = ws.length + n
  | 0, _, ws, h, _ => ⟨h, rfl⟩
  | n + 1, i, ws, h, h8 => by
    obtain ⟨p, q, rfl⟩ : ∃ p q, ws = p :: q := by cases ws with
      | nil => simp at h8
      | cons p q => exact ⟨p, q, rfl⟩
    have hp : p.length = 4 := h p (by simp)
    have h7 : ((p :: q).getD 7 []).length = 4 := by
      have : 7 < (p :: q).length := by omega
      rw [List.getD_eq_getElem _ _ this]
      exact h _ (List.getElem_mem _)
    have hx : (if i % 8 = 0 then
        List.zipWith (fun a b => a ^^^ b) (subWord t (p.drop 1 ++ p.take 1)) [2 ^ (i / 8 - 1), 0, 0, 0]
      else if i % 8 = 4 then subWord t p else p).length = 4 := by
      split
      · simp [subWord, hp]
      · split <;> simp [subWord, hp]
    have := keyGrow_words t n (i + 1)
      (List.zipWith (fun a b => a ^^^ b) ((p :: q).getD 7 []) (if i % 8 = 0 then
        List.zipWith (fun a b => a ^^^ b) (subWord t (p.drop 1 ++ p.take 1)) [2 ^ (i / 8 - 1), 0, 0, 0]
      else if i % 8 = 4 then subWord t p else p) :: p :: q)
      (by
        intro w hw
        rcases List.mem_cons.1 hw with rfl | hw
        · rw [List.length_zipWith, h7, hx]; rfl
        · exact h w hw)
      (by simp at h8 ⊢; omega)
    refine ⟨this.1, ?_⟩
    have e := this.2
    simp only [List.length_cons] at e ⊢
    exact e.trans (by omega)

/-- The last round key of a 32-byte key has 16 bytes. -/
theorem roundKeys_last (t : List Nat) (key : List Byte) (hk : key.length = 32) : ((roundKeys t key).getD 14 []).length = 16 := by
  have hw : ∀ w ∈ ((List.range 8).map (fun i => (slice key (4 * i) 4).map (fun b => b.toNat))).reverse, w.length = 4 := by
    intro w hw
    simp only [List.mem_reverse, List.mem_map, List.mem_range] at hw
    obtain ⟨i, hi, rfl⟩ := hw
    simp [slice, hk]; omega
  have h := keyGrow_words t 52 8 _ hw (by simp)
  have hl : (keyGrow t 52 8 ((List.range 8).map (fun i => (slice key (4 * i) 4).map (fun b => b.toNat))).reverse).reverse.length = 60 := by
    rw [List.length_reverse, h.2]; simp
  dsimp only [roundKeys]
  generalize hg : (keyGrow t 52 8 ((List.range 8).map (fun i => (slice key (4 * i) 4).map (fun b => b.toNat))).reverse).reverse = ws at hl
  have h4 : ∀ w ∈ ws, w.length = 4 := by
    intro w hw; rw [← hg] at hw; exact h.1 w (List.mem_reverse.1 hw)
  have e : ((List.range 15).map (fun i => (slice ws (4 * i) 4).flatten)).getD 14 [] = (slice ws 56 4).flatten := by
    rw [List.getD_eq_getElem _ _ (by simp)]; simp
  refine (congrArg List.length e).trans ?_
  rw [List.length_flatten]
  have hs : (slice ws 56 4).map List.length = List.replicate 4 4 := by
    refine List.eq_replicate_iff.2 ⟨by simp [slice, hl], ?_⟩
    intro n hn
    obtain ⟨w, hw, rfl⟩ := List.mem_map.1 hn
    exact h4 w (List.mem_of_mem_drop (List.mem_of_mem_take hw))
  rw [hs]; rfl

/-- A block of the key stream has 16 bytes. -/
theorem aesBlock_length (t : List Nat) (ks : List (List Nat)) (b : List Nat) (hk : (ks.getD 14 []).length = 16) :
    (aesBlock t ks b).length = 16 := by
  simp only [aesBlock, addKey, shiftRows, List.length_zipWith, List.length_map, List.length_range, hk]; rfl

/-- Exclusive or with the same bytes twice is nothing. -/
theorem xor_twice : ∀ (a : List Byte) (k : List Nat), a.length ≤ k.length →
    List.zipWith (fun x y => x ^^^ BitVec.ofNat 8 y) (List.zipWith (fun x y => x ^^^ BitVec.ofNat 8 y) a k) k = a
  | [], _, _ => rfl
  | x :: a, y :: k, h => by
    simp only [List.zipWith_cons_cons, xor_twice a k (by simpa using h)]
    rw [BitVec.xor_assoc, BitVec.xor_self, BitVec.xor_zero]

/-- The key stream on nothing is nothing. -/
theorem ctrApply_nil (t : List Nat) (ks : List (List Nat)) (iv : Nat) : ∀ n c, ctrApply t ks iv n c [] = []
  | 0, _ => rfl
  | n + 1, c => by simp [ctrApply, ctrApply_nil t ks iv n (c + 1)]

/-- The key stream keeps the length. -/
theorem ctrApply_length (t : List Nat) (ks : List (List Nat)) (iv : Nat) (hk : (ks.getD 14 []).length = 16) :
    ∀ (n c : Nat) (b : List Byte), b.length ≤ 16 * n → (ctrApply t ks iv n c b).length = b.length
  | 0, _, b, h => by simp [List.length_eq_zero_iff.1 (by omega : b.length = 0), ctrApply]
  | n + 1, c, b, h => by
    simp only [ctrApply, List.length_append, List.length_zipWith, List.length_take, aesBlock_length _ _ _ hk,
      ctrApply_length t ks iv hk n (c + 1) (b.drop 16) (by simp; omega), List.length_drop]
    omega

/-- Counter mode is its own inverse. -/
theorem ctrApply_twice (t : List Nat) (ks : List (List Nat)) (iv : Nat) (hk : (ks.getD 14 []).length = 16) :
    ∀ (n c : Nat) (b : List Byte), b.length ≤ 16 * n → ctrApply t ks iv n c (ctrApply t ks iv n c b) = b
  | 0, _, b, h => by simp [List.length_eq_zero_iff.1 (by omega : b.length = 0), ctrApply]
  | n + 1, c, b, h => by
    have hd : (b.drop 16).length ≤ 16 * n := by simp; omega
    have ih := ctrApply_twice t ks iv hk n (c + 1) (b.drop 16) hd
    have hz := aesBlock_length t ks ((beBytes 16 (iv * 2 ^ 32 + c % 2 ^ 32)).map (fun x => x.toNat)) hk
    simp only [ctrApply]
    generalize aesBlock t ks ((beBytes 16 (iv * 2 ^ 32 + c % 2 ^ 32)).map (fun x => x.toNat)) = k at hz ⊢
    have hx := xor_twice (b.take 16) k (by simp; omega)
    by_cases h16 : 16 ≤ b.length
    · have hl : (List.zipWith (fun x y => x ^^^ BitVec.ofNat 8 y) (b.take 16) k).length = 16 := by simp [hz]; omega
      rw [List.take_left' hl, List.drop_left' hl, hx, ih, List.take_append_drop]
    · have hb : b.drop 16 = [] := List.drop_eq_nil_of_le (by omega)
      have hl : (List.zipWith (fun x y => x ^^^ BitVec.ofNat 8 y) (b.take 16) k).length ≤ 16 := by simp [hz]
      rw [hb, ctrApply_nil, List.append_nil, List.take_of_length_le hl, List.drop_eq_nil_of_le hl, ctrApply_nil, List.append_nil, hx,
        List.take_of_length_le (by omega)]

/-- What is sealed opens, with a key of 32 bytes. -/
theorem gcmOpen_gcmSeal (key iv aad pt : List Byte) (hk : key.length = 32) :
    gcmOpen key iv aad (gcmSeal key iv aad pt).1 (gcmSeal key iv aad pt).2 = some pt := by
  have h14 := roundKeys_last sboxTab key hk
  have hl : pt.length ≤ 16 * ((pt.length + 15) / 16) := by omega
  simp only [gcmOpen, gcmSeal, if_true, ctrApply_length _ _ _ h14 _ _ _ hl, ctrApply_twice _ _ _ h14 _ _ _ hl]

/-- A sealed text keeps its length. -/
theorem gcmSeal_length (key iv aad pt : List Byte) (hk : key.length = 32) : (gcmSeal key iv aad pt).1.length = pt.length := by
  simp only [gcmSeal, ctrApply_length _ _ _ (roundKeys_last sboxTab key hk) _ _ _ (by omega : pt.length ≤ 16 * ((pt.length + 15) / 16))]

end Sys2Proof.Machine
end

