-- ==== Sys2Proof/Laws/Store.lean ====
section
/-!
SUPPORT. Read after write, and the canonical form, for the sparse store.
-/
namespace Sys2Proof.Machine

theorem Store.get_put_self (m : Store) (a v : Nat) : (m.put a v).get a = v := by
  induction m with
  | nil => simp [Store.put, Store.get]
  | cons c m ih =>
    obtain ⟨k, x⟩ := c
    simp only [Store.put]
    split_ifs with h1 h2 <;> simp [Store.get, *]

theorem Store.get_put_of_ne (m : Store) {a b : Nat} (v : Nat) (h : b ≠ a) : (m.put a v).get b = m.get b := by
  induction m with
  | nil => simp [Store.put, Store.get, h.symm]
  | cons c m ih =>
    obtain ⟨k, x⟩ := c
    simp only [Store.put]
    split_ifs with h1 h2
    · subst h1; simp [Store.get, h.symm]
    · simp [Store.get, h.symm]
    · simp [Store.get, ih]

theorem Store.get_erase_self (m : Store) (a : Nat) : (m.erase a).get a = 0 := by
  induction m with
  | nil => simp [Store.erase, Store.get]
  | cons c m ih =>
    obtain ⟨k, x⟩ := c
    by_cases h : k = a <;> simp_all [Store.erase, Store.get]

theorem Store.get_erase_of_ne (m : Store) {a b : Nat} (h : b ≠ a) : (m.erase a).get b = m.get b := by
  induction m with
  | nil => simp [Store.erase]
  | cons c m ih =>
    obtain ⟨k, x⟩ := c
    by_cases hk : k = a
    · subst hk; simp_all [Store.erase, Store.get, h.symm]
    · simp_all [Store.erase, Store.get]

/-- A read after a write of the same key gives the value written. -/
@[simp] theorem Store.get_set_self (m : Store) (a v : Nat) : (m.set a v).get a = v := by
  unfold Store.set
  split_ifs with h
  · rw [h, Store.get_erase_self]
  · exact Store.get_put_self m a v

/-- A write leaves every other key alone. -/
theorem Store.get_set_of_ne (m : Store) {a b : Nat} (v : Nat) (h : b ≠ a) : (m.set a v).get b = m.get b := by
  unfold Store.set
  split_ifs with hv
  · exact Store.get_erase_of_ne m h
  · exact Store.get_put_of_ne m v h

theorem Store.get_set (m : Store) (a b v : Nat) : (m.set a v).get b = if b = a then v else m.get b := by
  split_ifs with h
  · subst h; simp
  · exact Store.get_set_of_ne m v h

theorem Store.wf_nil : Store.wf [] := by simp [Store.wf]

theorem Store.mem_put_key {m : Store} {a v : Nat} {c : Nat × Nat} (h : c ∈ m.put a v) : c = (a, v) ∨ c ∈ m := by
  induction m with
  | nil => simpa [Store.put] using h
  | cons d m ih =>
    obtain ⟨k, x⟩ := d
    simp only [Store.put] at h
    split_ifs at h with h1 h2
    · simp only [List.mem_cons] at h ⊢; tauto
    · simp only [List.mem_cons] at h ⊢; tauto
    · simp only [List.mem_cons] at h ⊢
      rcases h with h | h
      · exact Or.inr (Or.inl h)
      · rcases ih h with h | h
        · exact Or.inl h
        · exact Or.inr (Or.inr h)

theorem Store.wf_put {m : Store} (h : m.wf) (a : Nat) {v : Nat} (hv : v ≠ 0) : (m.put a v).wf := by
  induction m with
  | nil => simp [Store.put, Store.wf, hv]
  | cons c m ih =>
    obtain ⟨k, x⟩ := c
    obtain ⟨hp, hz⟩ := h
    rw [List.pairwise_cons] at hp
    have hm : Store.wf m := ⟨hp.2, fun c hc => hz c (List.mem_cons_of_mem _ hc)⟩
    simp only [Store.put]
    split_ifs with h1 h2
    · subst h1
      refine ⟨List.pairwise_cons.2 ⟨hp.1, hp.2⟩, ?_⟩
      intro c hc
      rcases List.mem_cons.1 hc with rfl | hc
      · exact hv
      · exact hm.2 c hc
    · refine ⟨List.pairwise_cons.2 ⟨?_, List.pairwise_cons.2 hp⟩, ?_⟩
      · intro c hc
        rcases List.mem_cons.1 hc with rfl | hc
        · exact h2
        · exact lt_trans h2 (hp.1 c hc)
      · intro c hc
        rcases List.mem_cons.1 hc with rfl | hc
        · exact hv
        · exact hz c hc
    · have hi := ih hm
      refine ⟨List.pairwise_cons.2 ⟨?_, hi.1⟩, ?_⟩
      · intro c hc
        rcases Store.mem_put_key hc with rfl | hc
        · show k < a; omega
        · exact hp.1 c hc
      · intro c hc
        rcases List.mem_cons.1 hc with rfl | hc
        · exact hz _ (by simp)
        · exact hi.2 c hc

/-- Filtering keeps the canonical form. -/
theorem Store.wf_filter {m : Store} (h : m.wf) (p : Nat × Nat → Bool) : Store.wf (m.filter p) :=
  ⟨h.1.filter p, fun c hc => h.2 c (List.mem_filter.1 hc).1⟩

/-- Every write keeps the canonical form. -/
theorem Store.wf_set {m : Store} (h : m.wf) (a v : Nat) : (m.set a v).wf := by
  unfold Store.set
  split_ifs with hv
  · exact Store.wf_filter h _
  · exact Store.wf_put h a hv

/-- Dropping keys keeps the canonical form. -/
theorem Store.wf_drop {m : Store} (h : m.wf) (p : Nat → Bool) : (m.drop p).wf := Store.wf_filter h _

end Sys2Proof.Machine
end

