-- ==== Sys2Proof/Laws/State.lean ====
section
/-!
SUPPORT. What each update of the state leaves: one lemma per field per update, so that no proof unfolds a record update; the
words of the register operations over `State.set`; read after write of a register field, a rail, a phase and a port.
-/
namespace Sys2Proof.Machine

/-! ## State.set -/

@[simp] theorem State.set_now (s : State) (f : Fld) (i v : Nat) : (s.set f i v).now = s.now := rfl
@[simp] theorem State.set_pending (s : State) (f : Fld) (i v : Nat) : (s.set f i v).pending = s.pending := rfl
@[simp] theorem State.set_cz1604 (s : State) (f : Fld) (i v : Nat) : (s.set f i v).cz1604 = s.cz1604 := rfl
@[simp] theorem State.set_mode (s : State) (f : Fld) (i v : Nat) : (s.set f i v).mode = s.mode := rfl
@[simp] theorem State.set_img (s : State) (f : Fld) (i v : Nat) : (s.set f i v).img = s.img := rfl
@[simp] theorem State.set_pow (s : State) (f : Fld) (i v : Nat) : (s.set f i v).pow = s.pow := rfl
@[simp] theorem State.set_br (s : State) (f : Fld) (i v : Nat) : (s.set f i v).br = s.br := rfl
@[simp] theorem State.set_par (s : State) (f : Fld) (i v : Nat) : (s.set f i v).par = s.par := rfl
@[simp] theorem State.set_sets (s : State) (f : Fld) (i v : Nat) : (s.set f i v).sets = s.sets := rfl
@[simp] theorem State.set_mirPh (s : State) (f : Fld) (i v : Nat) : (s.set f i v).mirPh = s.mirPh := rfl
@[simp] theorem State.set_mirRail (s : State) (f : Fld) (i v : Nat) : (s.set f i v).mirRail = s.mirRail := rfl
@[simp] theorem State.set_phases (s : State) (f : Fld) (i v : Nat) : (s.set f i v).phases = s.phases := rfl
@[simp] theorem State.set_rails (s : State) (f : Fld) (i v : Nat) : (s.set f i v).rails = s.rails := rfl
@[simp] theorem State.set_ports (s : State) (f : Fld) (i v : Nat) : (s.set f i v).ports = s.ports := rfl
@[simp] theorem State.set_rcd (s : State) (f : Fld) (i v : Nat) : (s.set f i v).rcd = s.rcd := rfl
@[simp] theorem State.set_spi (s : State) (f : Fld) (i v : Nat) : (s.set f i v).spi = s.spi := rfl
@[simp] theorem State.set_pmb (s : State) (f : Fld) (i v : Nat) : (s.set f i v).pmb = s.pmb := rfl
@[simp] theorem State.set_cj (s : State) (f : Fld) (i v : Nat) : (s.set f i v).cj = s.cj := rfl
@[simp] theorem State.set_otp (s : State) (f : Fld) (i v : Nat) : (s.set f i v).otp = s.otp := rfl
@[simp] theorem State.set_sec (s : State) (f : Fld) (i v : Nat) : (s.set f i v).sec = s.sec := rfl
@[simp] theorem State.set_tlm (s : State) (f : Fld) (i v : Nat) : (s.set f i v).tlm = s.tlm := rfl
@[simp] theorem State.set_jrn (s : State) (f : Fld) (i v : Nat) : (s.set f i v).jrn = s.jrn := rfl
@[simp] theorem State.set_pk (s : State) (f : Fld) (i v : Nat) : (s.set f i v).pk = s.pk := rfl
@[simp] theorem State.set_th (s : State) (f : Fld) (i v : Nat) : (s.set f i v).th = s.th := rfl
@[simp] theorem State.set_ctx0 (s : State) (f : Fld) (i v : Nat) : (s.set f i v).ctx0 = s.ctx0 := rfl
@[simp] theorem State.set_ctxs (s : State) (f : Fld) (i v : Nat) : (s.set f i v).ctxs = s.ctxs := rfl
@[simp] theorem State.set_rings (s : State) (f : Fld) (i v : Nat) : (s.set f i v).rings = s.rings := rfl
@[simp] theorem State.set_code (s : State) (f : Fld) (i v : Nat) : (s.set f i v).code = s.code := rfl
@[simp] theorem State.set_entry (s : State) (f : Fld) (i v : Nat) : (s.set f i v).entry = s.entry := rfl

/-! ## State.load -/

@[simp] theorem State.load_now (s : State) (f : Fld) (i v : Nat) : (s.load f i v).now = s.now := rfl
@[simp] theorem State.load_pending (s : State) (f : Fld) (i v : Nat) : (s.load f i v).pending = s.pending := rfl
@[simp] theorem State.load_cz1604 (s : State) (f : Fld) (i v : Nat) : (s.load f i v).cz1604 = s.cz1604 := rfl
@[simp] theorem State.load_mode (s : State) (f : Fld) (i v : Nat) : (s.load f i v).mode = s.mode := rfl
@[simp] theorem State.load_pow (s : State) (f : Fld) (i v : Nat) : (s.load f i v).pow = s.pow := rfl
@[simp] theorem State.load_br (s : State) (f : Fld) (i v : Nat) : (s.load f i v).br = s.br := rfl
@[simp] theorem State.load_par (s : State) (f : Fld) (i v : Nat) : (s.load f i v).par = s.par := rfl
@[simp] theorem State.load_sets (s : State) (f : Fld) (i v : Nat) : (s.load f i v).sets = s.sets := rfl
@[simp] theorem State.load_mirPh (s : State) (f : Fld) (i v : Nat) : (s.load f i v).mirPh = s.mirPh := rfl
@[simp] theorem State.load_mirRail (s : State) (f : Fld) (i v : Nat) : (s.load f i v).mirRail = s.mirRail := rfl
@[simp] theorem State.load_phases (s : State) (f : Fld) (i v : Nat) : (s.load f i v).phases = s.phases := rfl
@[simp] theorem State.load_rails (s : State) (f : Fld) (i v : Nat) : (s.load f i v).rails = s.rails := rfl
@[simp] theorem State.load_ports (s : State) (f : Fld) (i v : Nat) : (s.load f i v).ports = s.ports := rfl
@[simp] theorem State.load_rcd (s : State) (f : Fld) (i v : Nat) : (s.load f i v).rcd = s.rcd := rfl
@[simp] theorem State.load_spi (s : State) (f : Fld) (i v : Nat) : (s.load f i v).spi = s.spi := rfl
@[simp] theorem State.load_pmb (s : State) (f : Fld) (i v : Nat) : (s.load f i v).pmb = s.pmb := rfl
@[simp] theorem State.load_cj (s : State) (f : Fld) (i v : Nat) : (s.load f i v).cj = s.cj := rfl
@[simp] theorem State.load_otp (s : State) (f : Fld) (i v : Nat) : (s.load f i v).otp = s.otp := rfl
@[simp] theorem State.load_sec (s : State) (f : Fld) (i v : Nat) : (s.load f i v).sec = s.sec := rfl
@[simp] theorem State.load_tlm (s : State) (f : Fld) (i v : Nat) : (s.load f i v).tlm = s.tlm := rfl
@[simp] theorem State.load_jrn (s : State) (f : Fld) (i v : Nat) : (s.load f i v).jrn = s.jrn := rfl
@[simp] theorem State.load_pk (s : State) (f : Fld) (i v : Nat) : (s.load f i v).pk = s.pk := rfl
@[simp] theorem State.load_th (s : State) (f : Fld) (i v : Nat) : (s.load f i v).th = s.th := rfl
@[simp] theorem State.load_ctx0 (s : State) (f : Fld) (i v : Nat) : (s.load f i v).ctx0 = s.ctx0 := rfl
@[simp] theorem State.load_ctxs (s : State) (f : Fld) (i v : Nat) : (s.load f i v).ctxs = s.ctxs := rfl
@[simp] theorem State.load_rings (s : State) (f : Fld) (i v : Nat) : (s.load f i v).rings = s.rings := rfl
@[simp] theorem State.load_code (s : State) (f : Fld) (i v : Nat) : (s.load f i v).code = s.code := rfl
@[simp] theorem State.load_entry (s : State) (f : Fld) (i v : Nat) : (s.load f i v).entry = s.entry := rfl

/-! ## State.modRail -/

@[simp] theorem State.modRail_now (s : State) (r : Fin 8) (f : Rail → Rail) : (s.modRail r f).now = s.now := rfl
@[simp] theorem State.modRail_pending (s : State) (r : Fin 8) (f : Rail → Rail) : (s.modRail r f).pending = s.pending := rfl
@[simp] theorem State.modRail_cz1604 (s : State) (r : Fin 8) (f : Rail → Rail) : (s.modRail r f).cz1604 = s.cz1604 := rfl
@[simp] theorem State.modRail_mode (s : State) (r : Fin 8) (f : Rail → Rail) : (s.modRail r f).mode = s.mode := rfl
@[simp] theorem State.modRail_regs (s : State) (r : Fin 8) (f : Rail → Rail) : (s.modRail r f).regs = s.regs := rfl
@[simp] theorem State.modRail_img (s : State) (r : Fin 8) (f : Rail → Rail) : (s.modRail r f).img = s.img := rfl
@[simp] theorem State.modRail_pow (s : State) (r : Fin 8) (f : Rail → Rail) : (s.modRail r f).pow = s.pow := rfl
@[simp] theorem State.modRail_br (s : State) (r : Fin 8) (f : Rail → Rail) : (s.modRail r f).br = s.br := rfl
@[simp] theorem State.modRail_par (s : State) (r : Fin 8) (f : Rail → Rail) : (s.modRail r f).par = s.par := rfl
@[simp] theorem State.modRail_sets (s : State) (r : Fin 8) (f : Rail → Rail) : (s.modRail r f).sets = s.sets := rfl
@[simp] theorem State.modRail_mirPh (s : State) (r : Fin 8) (f : Rail → Rail) : (s.modRail r f).mirPh = s.mirPh := rfl
@[simp] theorem State.modRail_mirRail (s : State) (r : Fin 8) (f : Rail → Rail) : (s.modRail r f).mirRail = s.mirRail := rfl
@[simp] theorem State.modRail_phases (s : State) (r : Fin 8) (f : Rail → Rail) : (s.modRail r f).phases = s.phases := rfl
@[simp] theorem State.modRail_ports (s : State) (r : Fin 8) (f : Rail → Rail) : (s.modRail r f).ports = s.ports := rfl
@[simp] theorem State.modRail_rcd (s : State) (r : Fin 8) (f : Rail → Rail) : (s.modRail r f).rcd = s.rcd := rfl
@[simp] theorem State.modRail_spi (s : State) (r : Fin 8) (f : Rail → Rail) : (s.modRail r f).spi = s.spi := rfl
@[simp] theorem State.modRail_pmb (s : State) (r : Fin 8) (f : Rail → Rail) : (s.modRail r f).pmb = s.pmb := rfl
@[simp] theorem State.modRail_cj (s : State) (r : Fin 8) (f : Rail → Rail) : (s.modRail r f).cj = s.cj := rfl
@[simp] theorem State.modRail_otp (s : State) (r : Fin 8) (f : Rail → Rail) : (s.modRail r f).otp = s.otp := rfl
@[simp] theorem State.modRail_sec (s : State) (r : Fin 8) (f : Rail → Rail) : (s.modRail r f).sec = s.sec := rfl
@[simp] theorem State.modRail_tlm (s : State) (r : Fin 8) (f : Rail → Rail) : (s.modRail r f).tlm = s.tlm := rfl
@[simp] theorem State.modRail_jrn (s : State) (r : Fin 8) (f : Rail → Rail) : (s.modRail r f).jrn = s.jrn := rfl
@[simp] theorem State.modRail_pk (s : State) (r : Fin 8) (f : Rail → Rail) : (s.modRail r f).pk = s.pk := rfl
@[simp] theorem State.modRail_th (s : State) (r : Fin 8) (f : Rail → Rail) : (s.modRail r f).th = s.th := rfl
@[simp] theorem State.modRail_ctx0 (s : State) (r : Fin 8) (f : Rail → Rail) : (s.modRail r f).ctx0 = s.ctx0 := rfl
@[simp] theorem State.modRail_ctxs (s : State) (r : Fin 8) (f : Rail → Rail) : (s.modRail r f).ctxs = s.ctxs := rfl
@[simp] theorem State.modRail_rings (s : State) (r : Fin 8) (f : Rail → Rail) : (s.modRail r f).rings = s.rings := rfl
@[simp] theorem State.modRail_code (s : State) (r : Fin 8) (f : Rail → Rail) : (s.modRail r f).code = s.code := rfl
@[simp] theorem State.modRail_entry (s : State) (r : Fin 8) (f : Rail → Rail) : (s.modRail r f).entry = s.entry := rfl

/-! ## State.modPh -/

@[simp] theorem State.modPh_now (s : State) (n : Fin 32) (f : Phase → Phase) : (s.modPh n f).now = s.now := rfl
@[simp] theorem State.modPh_pending (s : State) (n : Fin 32) (f : Phase → Phase) : (s.modPh n f).pending = s.pending := rfl
@[simp] theorem State.modPh_cz1604 (s : State) (n : Fin 32) (f : Phase → Phase) : (s.modPh n f).cz1604 = s.cz1604 := rfl
@[simp] theorem State.modPh_mode (s : State) (n : Fin 32) (f : Phase → Phase) : (s.modPh n f).mode = s.mode := rfl
@[simp] theorem State.modPh_regs (s : State) (n : Fin 32) (f : Phase → Phase) : (s.modPh n f).regs = s.regs := rfl
@[simp] theorem State.modPh_img (s : State) (n : Fin 32) (f : Phase → Phase) : (s.modPh n f).img = s.img := rfl
@[simp] theorem State.modPh_pow (s : State) (n : Fin 32) (f : Phase → Phase) : (s.modPh n f).pow = s.pow := rfl
@[simp] theorem State.modPh_br (s : State) (n : Fin 32) (f : Phase → Phase) : (s.modPh n f).br = s.br := rfl
@[simp] theorem State.modPh_par (s : State) (n : Fin 32) (f : Phase → Phase) : (s.modPh n f).par = s.par := rfl
@[simp] theorem State.modPh_sets (s : State) (n : Fin 32) (f : Phase → Phase) : (s.modPh n f).sets = s.sets := rfl
@[simp] theorem State.modPh_mirPh (s : State) (n : Fin 32) (f : Phase → Phase) : (s.modPh n f).mirPh = s.mirPh := rfl
@[simp] theorem State.modPh_mirRail (s : State) (n : Fin 32) (f : Phase → Phase) : (s.modPh n f).mirRail = s.mirRail := rfl
@[simp] theorem State.modPh_rails (s : State) (n : Fin 32) (f : Phase → Phase) : (s.modPh n f).rails = s.rails := rfl
@[simp] theorem State.modPh_ports (s : State) (n : Fin 32) (f : Phase → Phase) : (s.modPh n f).ports = s.ports := rfl
@[simp] theorem State.modPh_rcd (s : State) (n : Fin 32) (f : Phase → Phase) : (s.modPh n f).rcd = s.rcd := rfl
@[simp] theorem State.modPh_spi (s : State) (n : Fin 32) (f : Phase → Phase) : (s.modPh n f).spi = s.spi := rfl
@[simp] theorem State.modPh_pmb (s : State) (n : Fin 32) (f : Phase → Phase) : (s.modPh n f).pmb = s.pmb := rfl
@[simp] theorem State.modPh_cj (s : State) (n : Fin 32) (f : Phase → Phase) : (s.modPh n f).cj = s.cj := rfl
@[simp] theorem State.modPh_otp (s : State) (n : Fin 32) (f : Phase → Phase) : (s.modPh n f).otp = s.otp := rfl
@[simp] theorem State.modPh_sec (s : State) (n : Fin 32) (f : Phase → Phase) : (s.modPh n f).sec = s.sec := rfl
@[simp] theorem State.modPh_tlm (s : State) (n : Fin 32) (f : Phase → Phase) : (s.modPh n f).tlm = s.tlm := rfl
@[simp] theorem State.modPh_jrn (s : State) (n : Fin 32) (f : Phase → Phase) : (s.modPh n f).jrn = s.jrn := rfl
@[simp] theorem State.modPh_pk (s : State) (n : Fin 32) (f : Phase → Phase) : (s.modPh n f).pk = s.pk := rfl
@[simp] theorem State.modPh_th (s : State) (n : Fin 32) (f : Phase → Phase) : (s.modPh n f).th = s.th := rfl
@[simp] theorem State.modPh_ctx0 (s : State) (n : Fin 32) (f : Phase → Phase) : (s.modPh n f).ctx0 = s.ctx0 := rfl
@[simp] theorem State.modPh_ctxs (s : State) (n : Fin 32) (f : Phase → Phase) : (s.modPh n f).ctxs = s.ctxs := rfl
@[simp] theorem State.modPh_rings (s : State) (n : Fin 32) (f : Phase → Phase) : (s.modPh n f).rings = s.rings := rfl
@[simp] theorem State.modPh_code (s : State) (n : Fin 32) (f : Phase → Phase) : (s.modPh n f).code = s.code := rfl
@[simp] theorem State.modPh_entry (s : State) (n : Fin 32) (f : Phase → Phase) : (s.modPh n f).entry = s.entry := rfl

/-! ## State.modPort -/

@[simp] theorem State.modPort_now (s : State) (p : Fin 2) (f : Port → Port) : (s.modPort p f).now = s.now := rfl
@[simp] theorem State.modPort_pending (s : State) (p : Fin 2) (f : Port → Port) : (s.modPort p f).pending = s.pending := rfl
@[simp] theorem State.modPort_cz1604 (s : State) (p : Fin 2) (f : Port → Port) : (s.modPort p f).cz1604 = s.cz1604 := rfl
@[simp] theorem State.modPort_mode (s : State) (p : Fin 2) (f : Port → Port) : (s.modPort p f).mode = s.mode := rfl
@[simp] theorem State.modPort_regs (s : State) (p : Fin 2) (f : Port → Port) : (s.modPort p f).regs = s.regs := rfl
@[simp] theorem State.modPort_img (s : State) (p : Fin 2) (f : Port → Port) : (s.modPort p f).img = s.img := rfl
@[simp] theorem State.modPort_pow (s : State) (p : Fin 2) (f : Port → Port) : (s.modPort p f).pow = s.pow := rfl
@[simp] theorem State.modPort_br (s : State) (p : Fin 2) (f : Port → Port) : (s.modPort p f).br = s.br := rfl
@[simp] theorem State.modPort_par (s : State) (p : Fin 2) (f : Port → Port) : (s.modPort p f).par = s.par := rfl
@[simp] theorem State.modPort_sets (s : State) (p : Fin 2) (f : Port → Port) : (s.modPort p f).sets = s.sets := rfl
@[simp] theorem State.modPort_mirPh (s : State) (p : Fin 2) (f : Port → Port) : (s.modPort p f).mirPh = s.mirPh := rfl
@[simp] theorem State.modPort_mirRail (s : State) (p : Fin 2) (f : Port → Port) : (s.modPort p f).mirRail = s.mirRail := rfl
@[simp] theorem State.modPort_phases (s : State) (p : Fin 2) (f : Port → Port) : (s.modPort p f).phases = s.phases := rfl
@[simp] theorem State.modPort_rails (s : State) (p : Fin 2) (f : Port → Port) : (s.modPort p f).rails = s.rails := rfl
@[simp] theorem State.modPort_rcd (s : State) (p : Fin 2) (f : Port → Port) : (s.modPort p f).rcd = s.rcd := rfl
@[simp] theorem State.modPort_spi (s : State) (p : Fin 2) (f : Port → Port) : (s.modPort p f).spi = s.spi := rfl
@[simp] theorem State.modPort_pmb (s : State) (p : Fin 2) (f : Port → Port) : (s.modPort p f).pmb = s.pmb := rfl
@[simp] theorem State.modPort_cj (s : State) (p : Fin 2) (f : Port → Port) : (s.modPort p f).cj = s.cj := rfl
@[simp] theorem State.modPort_otp (s : State) (p : Fin 2) (f : Port → Port) : (s.modPort p f).otp = s.otp := rfl
@[simp] theorem State.modPort_sec (s : State) (p : Fin 2) (f : Port → Port) : (s.modPort p f).sec = s.sec := rfl
@[simp] theorem State.modPort_tlm (s : State) (p : Fin 2) (f : Port → Port) : (s.modPort p f).tlm = s.tlm := rfl
@[simp] theorem State.modPort_jrn (s : State) (p : Fin 2) (f : Port → Port) : (s.modPort p f).jrn = s.jrn := rfl
@[simp] theorem State.modPort_pk (s : State) (p : Fin 2) (f : Port → Port) : (s.modPort p f).pk = s.pk := rfl
@[simp] theorem State.modPort_th (s : State) (p : Fin 2) (f : Port → Port) : (s.modPort p f).th = s.th := rfl
@[simp] theorem State.modPort_ctx0 (s : State) (p : Fin 2) (f : Port → Port) : (s.modPort p f).ctx0 = s.ctx0 := rfl
@[simp] theorem State.modPort_ctxs (s : State) (p : Fin 2) (f : Port → Port) : (s.modPort p f).ctxs = s.ctxs := rfl
@[simp] theorem State.modPort_rings (s : State) (p : Fin 2) (f : Port → Port) : (s.modPort p f).rings = s.rings := rfl
@[simp] theorem State.modPort_code (s : State) (p : Fin 2) (f : Port → Port) : (s.modPort p f).code = s.code := rfl
@[simp] theorem State.modPort_entry (s : State) (p : Fin 2) (f : Port → Port) : (s.modPort p f).entry = s.entry := rfl

/-! ## State.at -/

@[simp] theorem State.at_pending (s : State) (t : Nat) : (s.at t).pending = s.pending := rfl
@[simp] theorem State.at_cz1604 (s : State) (t : Nat) : (s.at t).cz1604 = s.cz1604 := rfl
@[simp] theorem State.at_mode (s : State) (t : Nat) : (s.at t).mode = s.mode := rfl
@[simp] theorem State.at_regs (s : State) (t : Nat) : (s.at t).regs = s.regs := rfl
@[simp] theorem State.at_img (s : State) (t : Nat) : (s.at t).img = s.img := rfl
@[simp] theorem State.at_pow (s : State) (t : Nat) : (s.at t).pow = s.pow := rfl
@[simp] theorem State.at_br (s : State) (t : Nat) : (s.at t).br = s.br := rfl
@[simp] theorem State.at_par (s : State) (t : Nat) : (s.at t).par = s.par := rfl
@[simp] theorem State.at_sets (s : State) (t : Nat) : (s.at t).sets = s.sets := rfl
@[simp] theorem State.at_mirPh (s : State) (t : Nat) : (s.at t).mirPh = s.mirPh := rfl
@[simp] theorem State.at_mirRail (s : State) (t : Nat) : (s.at t).mirRail = s.mirRail := rfl
@[simp] theorem State.at_phases (s : State) (t : Nat) : (s.at t).phases = s.phases := rfl
@[simp] theorem State.at_rails (s : State) (t : Nat) : (s.at t).rails = s.rails := rfl
@[simp] theorem State.at_ports (s : State) (t : Nat) : (s.at t).ports = s.ports := rfl
@[simp] theorem State.at_rcd (s : State) (t : Nat) : (s.at t).rcd = s.rcd := rfl
@[simp] theorem State.at_spi (s : State) (t : Nat) : (s.at t).spi = s.spi := rfl
@[simp] theorem State.at_pmb (s : State) (t : Nat) : (s.at t).pmb = s.pmb := rfl
@[simp] theorem State.at_cj (s : State) (t : Nat) : (s.at t).cj = s.cj := rfl
@[simp] theorem State.at_otp (s : State) (t : Nat) : (s.at t).otp = s.otp := rfl
@[simp] theorem State.at_sec (s : State) (t : Nat) : (s.at t).sec = s.sec := rfl
@[simp] theorem State.at_tlm (s : State) (t : Nat) : (s.at t).tlm = s.tlm := rfl
@[simp] theorem State.at_jrn (s : State) (t : Nat) : (s.at t).jrn = s.jrn := rfl
@[simp] theorem State.at_pk (s : State) (t : Nat) : (s.at t).pk = s.pk := rfl
@[simp] theorem State.at_th (s : State) (t : Nat) : (s.at t).th = s.th := rfl
@[simp] theorem State.at_ctx0 (s : State) (t : Nat) : (s.at t).ctx0 = s.ctx0 := rfl
@[simp] theorem State.at_ctxs (s : State) (t : Nat) : (s.at t).ctxs = s.ctxs := rfl
@[simp] theorem State.at_rings (s : State) (t : Nat) : (s.at t).rings = s.rings := rfl
@[simp] theorem State.at_code (s : State) (t : Nat) : (s.at t).code = s.code := rfl
@[simp] theorem State.at_entry (s : State) (t : Nat) : (s.at t).entry = s.entry := rfl

/-! ## The register operations are writes of a field -/

@[simp] theorem State.setI_eq (s : State) (f : Fld) (i : Nat) (v : Int) : s.setI f i v = s.set f i (ofS f.width v) := rfl
@[simp] theorem State.mark_eq (s : State) (f : Fld) (i : Nat) : s.mark f i = s.set f i 1 := rfl
@[simp] theorem State.clear_eq (s : State) (f : Fld) (i : Nat) : s.clear f i = s.set f i 0 := rfl
@[simp] theorem State.setB_eq (s : State) (f : Fld) (i : Nat) (b : Bool) : s.setB f i b = s.set f i (b2n b) := rfl
@[simp] theorem State.inc_eq (s : State) (f : Fld) (i : Nat) : s.inc f i = s.set f i (incSat f.width (s.get f i)) := rfl
@[simp] theorem State.incWrap_eq (s : State) (f : Fld) (i : Nat) : s.incWrap f i = s.set f i (s.get f i + 1) := rfl
@[simp] theorem State.pmbBits_eq (s : State) (f : Fld) (r v : Nat) : s.pmbBits f r v = s.set f r (s.get f r ||| v) := rfl
@[simp] theorem State.modEng_eq (s : State) (r : Fin 8) (f : Engine → Engine) :
    s.modEng r f = s.modRail r (fun x => { x with eng := f x.eng }) := rfl
@[simp] theorem State.modFr_eq (s : State) (r : Fin 8) (f : Front → Front) :
    s.modFr r f = s.modRail r (fun x => { x with fr := f x.fr }) := rfl
@[simp] theorem State.modSp_eq (s : State) (r : Fin 8) (f : SetPt → SetPt) :
    s.modSp r f = s.modRail r (fun x => { x with sp := f x.sp }) := rfl
@[simp] theorem State.when_true (s : State) (f : State → State) : s.when true f = f s := rfl
@[simp] theorem State.when_false (s : State) (f : State → State) : s.when false f = s := rfl

/-! ## Read after write -/

theorem State.get_def (s : State) (f : Fld) (i : Nat) : s.get f i = s.regs.get (f.key i) := rfl

/-- A field reads what was last written, kept to its width. -/
@[simp] theorem State.get_set_self (s : State) (f : Fld) (i v : Nat) : (s.set f i v).get f i = v % 2 ^ f.width := by
  simp [State.get, State.set]

/-- A write of one field leaves every field kept under another key. -/
theorem State.get_set_of_ne (s : State) (f g : Fld) (i j v : Nat) (h : g.key j ≠ f.key i) :
    (s.set f i v).get g j = s.get g j := Store.get_set_of_ne _ _ h

theorem State.get_set (s : State) (f g : Fld) (i j v : Nat) :
    (s.set f i v).get g j = if g.key j = f.key i then v % 2 ^ f.width else s.get g j := Store.get_set _ _ _ _

@[simp] theorem State.get_modRail (s : State) (r : Fin 8) (f : Rail → Rail) (g : Fld) (j : Nat) :
    (s.modRail r f).get g j = s.get g j := rfl
@[simp] theorem State.get_modPh (s : State) (n : Fin 32) (f : Phase → Phase) (g : Fld) (j : Nat) :
    (s.modPh n f).get g j = s.get g j := rfl
@[simp] theorem State.get_modPort (s : State) (p : Fin 2) (f : Port → Port) (g : Fld) (j : Nat) :
    (s.modPort p f).get g j = s.get g j := rfl
@[simp] theorem State.get_at (s : State) (t : Nat) (g : Fld) (j : Nat) : (s.at t).get g j = s.get g j := rfl

@[simp] theorem State.rail_modRail_self (s : State) (r : Fin 8) (f : Rail → Rail) : (s.modRail r f).rail r = f (s.rail r) := by
  simp [State.rail, State.modRail]
theorem State.rail_modRail_of_ne (s : State) (r q : Fin 8) (f : Rail → Rail) (h : q ≠ r) :
    (s.modRail r f).rail q = s.rail q := by
  have : r.val ≠ q.val := fun e => h (Fin.ext e.symm)
  simp [State.rail, State.modRail, Vector.getElem_set_ne _ _ this]
@[simp] theorem State.ph_modPh_self (s : State) (n : Fin 32) (f : Phase → Phase) : (s.modPh n f).ph n = f (s.ph n) := by
  simp [State.ph, State.modPh]
theorem State.ph_modPh_of_ne (s : State) (n m : Fin 32) (f : Phase → Phase) (h : m ≠ n) : (s.modPh n f).ph m = s.ph m := by
  have : n.val ≠ m.val := fun e => h (Fin.ext e.symm)
  simp [State.ph, State.modPh, Vector.getElem_set_ne _ _ this]
@[simp] theorem State.port_modPort_self (s : State) (p : Fin 2) (f : Port → Port) : (s.modPort p f).port p = f (s.port p) := by
  simp [State.port, State.modPort]
theorem State.port_modPort_of_ne (s : State) (p q : Fin 2) (f : Port → Port) (h : q ≠ p) :
    (s.modPort p f).port q = s.port q := by
  have : p.val ≠ q.val := fun e => h (Fin.ext e.symm)
  simp [State.port, State.modPort, Vector.getElem_set_ne _ _ this]

end Sys2Proof.Machine
end

