-- ==== Sys2Proof/Laws/Frame.lean ====
section
/-!
SUPPORT. What the end of an update (`settle`) may touch: the relation `Framed`, and the primitive updates that keep it.
-/
namespace Sys2Proof.Machine

theorem Framed.refl (b : State) : Framed b b := ⟨rfl, fun _ _ => rfl, List.prefix_rfl⟩
theorem Framed.trans {a b c : State} (h : Framed a b) (g : Framed b c) : Framed a c :=
  ⟨g.rest.trans h.rest, fun k hk => (g.regs k hk).trans (h.regs k hk), h.evq.trans g.evq⟩

variable {b s : State}

/-- A field lies inside its register and steps in one way. -/
def Fld.fits (f : Fld) : Bool := f.lo + f.lostep * (f.count - 1) < 32 && (f.stride == 0 || f.lostep == 0)

theorem Fld.hasKey_key (f : Fld) (i : Nat) (hf : f.fits = true) (hi : i < f.count) : f.hasKey (f.key i) = true := by
  simp only [Fld.fits, Bool.and_eq_true, decide_eq_true_eq, Bool.or_eq_true, beq_iff_eq] at hf
  obtain ⟨h1, h2⟩ := hf
  have hp : f.lo + f.lostep * i < 32 := by
    have : f.lostep * i ≤ f.lostep * (f.count - 1) := Nat.mul_le_mul_left _ (by omega)
    omega
  unfold Fld.hasKey Fld.key Fld.addr Fld.pos
  have hd : ((f.base + f.stride * i) * 32 + (f.lo + f.lostep * i)) / 32 = f.base + f.stride * i := by omega
  have hm : ((f.base + f.stride * i) * 32 + (f.lo + f.lostep * i)) % 32 = f.lo + f.lostep * i := by omega
  simp only [hd, hm]
  by_cases hs : f.stride = 0
  · by_cases hl : f.lostep = 0
    · simp [hs, hl]
    · have : 0 < f.lostep := by omega
      simp [hs, hl, Nat.mul_div_cancel_left i this, hi]
  · have hl : f.lostep = 0 := h2.resolve_left hs
    have : 0 < f.stride := by omega
    simp [hs, hl, Nat.mul_div_cancel_left i this, hi]

theorem settleFields_fit : settleFields.all Fld.fits = true := by decide

/-- A field of the list is a field that the end of an update may write. -/
theorem touch {f : Fld} {i : Nat} (hf : f ∈ settleFields) (hi : i < f.count) : settleKey (f.key i) = true := by
  unfold settleKey
  exact List.any_eq_true.2 ⟨f, hf, Fld.hasKey_key f i (List.all_eq_true.1 settleFields_fit f hf) hi⟩

theorem Framed.set (h : Framed b s) {f : Fld} {i : Nat} (v : Nat) (hk : settleKey (f.key i) = true) : Framed b (s.set f i v) :=
  ⟨h.rest, fun k hn => by
    have : k ≠ f.key i := fun e => by rw [e, hk] at hn; cases hn
    simp only [State.set]
    rw [Store.get_set_of_ne _ _ this, h.regs k hn], h.evq⟩
theorem Framed.setI (h : Framed b s) {f : Fld} {i : Nat} (v : Int) (hk : settleKey (f.key i) = true) : Framed b (s.setI f i v) := h.set _ hk
theorem Framed.mark (h : Framed b s) {f : Fld} {i : Nat} (hk : settleKey (f.key i) = true) : Framed b (s.mark f i) := h.set _ hk
theorem Framed.clear (h : Framed b s) {f : Fld} {i : Nat} (hk : settleKey (f.key i) = true) : Framed b (s.clear f i) := h.set _ hk
theorem Framed.setB (h : Framed b s) {f : Fld} {i : Nat} (c : Bool) (hk : settleKey (f.key i) = true) : Framed b (s.setB f i c) := h.set _ hk
theorem Framed.inc (h : Framed b s) {f : Fld} {i : Nat} (hk : settleKey (f.key i) = true) : Framed b (s.inc f i) := h.set _ hk
theorem Framed.pmbBits (h : Framed b s) {f : Fld} {i : Nat} (v : Nat) (hk : settleKey (f.key i) = true) : Framed b (s.pmbBits f i v) := h.set _ hk

theorem Framed.modRail (h : Framed b s) (r : Fin 8) (f : Rail → Rail) (hf : ∀ x, (f x).rest = x.rest) : Framed b (s.modRail r f) := by
  refine ⟨?_, h.regs, h.evq⟩
  rw [← h.rest]
  have : (s.modRail r f).rails.map Rail.rest = s.rails.map Rail.rest := by
    apply Vector.ext
    intro i hi
    simp only [State.modRail, Vector.getElem_map, Vector.getElem_set]
    split
    · rename_i e; subst e; exact hf _
    · rfl
  show ({ (s.modRail r f).rest with rails := (s.modRail r f).rails.map Rail.rest } : State) = { s.rest with rails := s.rails.map Rail.rest }
  rw [this]; rfl
theorem Framed.modEng (h : Framed b s) (r : Fin 8) (f : Engine → Engine) (hf : ∀ x, (f x).rest = x.rest) : Framed b (s.modEng r f) :=
  h.modRail r _ (fun x => by simp only [Rail.rest, hf])
theorem Framed.modFr (h : Framed b s) (r : Fin 8) (f : Front → Front) (hf : ∀ x, (f x).rest = x.rest) : Framed b (s.modFr r f) :=
  h.modRail r _ (fun x => by simp only [Rail.rest, hf])
theorem Framed.modPh (h : Framed b s) (n : Fin 32) (f : Phase → Phase) (hf : ∀ x, (f x).rest = x.rest) : Framed b (s.modPh n f) := by
  refine ⟨?_, h.regs, h.evq⟩
  rw [← h.rest]
  have : (s.modPh n f).phases.map Phase.rest = s.phases.map Phase.rest := by
    apply Vector.ext
    intro i hi
    simp only [State.modPh, Vector.getElem_map, Vector.getElem_set]
    split
    · rename_i e; subst e; exact hf _
    · rfl
  show ({ (s.modPh n f).rest with phases := (s.modPh n f).phases.map Phase.rest } : State) = { s.rest with phases := s.phases.map Phase.rest }
  rw [this]; rfl
theorem Framed.modPort (h : Framed b s) (p : Fin 2) (f : Port → Port) (hf : ∀ x, (f x).rest = x.rest) : Framed b (s.modPort p f) := by
  refine ⟨?_, h.regs, h.evq⟩
  rw [← h.rest]
  have : (s.modPort p f).ports.map Port.rest = s.ports.map Port.rest := by
    apply Vector.ext
    intro i hi
    simp only [State.modPort, Vector.getElem_map, Vector.getElem_set]
    split
    · rename_i e; subst e; exact hf _
    · rfl
  show ({ (s.modPort p f).rest with ports := (s.modPort p f).ports.map Port.rest } : State) = { s.rest with ports := s.ports.map Port.rest }
  rw [this]; rfl

theorem Framed.ite {x y : State} {c : Prop} [Decidable c] (hx : Framed b x) (hy : Framed b y) : Framed b (if c then x else y) := by
  split <;> assumption
theorem Framed.ite' {x y : State} {c : Prop} [Decidable c] (hx : c → Framed b x) (hy : ¬c → Framed b y) : Framed b (if c then x else y) := by
  split
  · exact hx ‹_›
  · exact hy ‹_›
theorem Framed.when (h : Framed b s) (c : Bool) (f : State → State) (hf : ∀ x, Framed b x → Framed b (f x)) : Framed b (s.when c f) := by
  unfold State.when; exact Framed.ite (hf _ h) h
theorem Framed.foldl {α : Type} (f : State → α → State) (l : List α) (s : State) (h : Framed b s) (hf : ∀ x a, a ∈ l → Framed b x → Framed b (f x a)) :
    Framed b (l.foldl f s) := by
  induction l generalizing s with
  | nil => exact h
  | cons a l ih => exact ih _ (hf _ _ (List.mem_cons_self ..) h) (fun x c hc => hf x c (List.mem_cons_of_mem _ hc))
theorem Framed.onRails (h : Framed b s) (f : State → Fin 8 → State) (hf : ∀ x a, Framed b x → Framed b (f x a)) : Framed b (s.onRails f) :=
  Framed.foldl _ _ _ h (fun x a _ => hf x a)

end Sys2Proof.Machine
end

