-- ==== Sys2Proof/Laws/Settle.lean ====
section
/-!
SUPPORT. Every operation of the end of an update keeps the frame; `settle_framed` and `run_next` say what a command's next state is.
-/
namespace Sys2Proof.Machine
variable {b₀ s : State}
set_option linter.unusedTactic false
set_option linter.unreachableTactic false
theorem State.setSw_framed (n : Fin 32) (w : Sw) (hfr : Framed b₀ s) : Framed b₀ (State.setSw s n w) := by
  unfold State.setSw
  repeat' first
   | with_reducible assumption | intro _ | with_reducible apply Framed.modPh | with_reducible apply Framed.ite
   | with_reducible apply Framed.foldl | split | (with_reducible apply touch) | exact Fin.isLt _ | decide | rfl

theorem State.setLevel_framed (n : Fin 32) (l : Level) (hfr : Framed b₀ s) : Framed b₀ (State.setLevel s n l) := by
  unfold State.setLevel
  repeat' first
   | with_reducible assumption | intro _ | with_reducible apply Framed.set | with_reducible apply Framed.ite
   | with_reducible apply Framed.foldl | split | (with_reducible apply touch) | exact Fin.isLt _ | decide | rfl

theorem State.toLevelAt_framed (n : Fin 32) (l : Level) (tk : Nat) (hfr : Framed b₀ s) : Framed b₀ (State.toLevelAt s n l tk) := by
  unfold State.toLevelAt
  repeat' first
   | with_reducible assumption | intro _ | with_reducible apply Framed.modPh | with_reducible apply State.setLevel_framed
   | with_reducible apply Framed.ite | with_reducible apply Framed.foldl | split | (with_reducible apply touch) | exact Fin.isLt _
   | decide | rfl

theorem State.toLevel_framed (n : Fin 32) (l : Level) (hfr : Framed b₀ s) : Framed b₀ (State.toLevel s n l) := by
  unfold State.toLevel
  repeat' first
   | with_reducible assumption | intro _ | with_reducible apply State.toLevelAt_framed | with_reducible apply Framed.ite
   | with_reducible apply Framed.foldl | split | (with_reducible apply touch) | exact Fin.isLt _ | decide | rfl

theorem State.triRail_framed (r : Fin 8) (hfr : Framed b₀ s) : Framed b₀ (State.triRail s r) := by
  unfold State.triRail
  repeat' first
   | with_reducible assumption | intro _ | with_reducible apply State.toLevel_framed | with_reducible apply Framed.ite
   | with_reducible apply Framed.foldl | split | (with_reducible apply touch) | exact Fin.isLt _ | decide | rfl

theorem State.leftStart_framed (r : Fin 8) (hfr : Framed b₀ s) : Framed b₀ (State.leftStart s r) := by
  unfold State.leftStart
  repeat' first
   | with_reducible assumption | intro _ | with_reducible apply Framed.modFr | with_reducible apply Framed.ite
   | with_reducible apply Framed.foldl | split | (with_reducible apply touch) | exact Fin.isLt _ | decide | rfl

theorem State.setRail_framed (r : Fin 8) (st : RailState) (hfr : Framed b₀ s) : Framed b₀ (State.setRail s r st) := by
  unfold State.setRail
  repeat' first
   | with_reducible assumption | intro _ | with_reducible apply Framed.modFr | with_reducible apply Framed.clear
   | with_reducible apply Framed.modRail | with_reducible apply State.setSw_framed | with_reducible apply State.leftStart_framed
   | with_reducible apply Framed.ite | with_reducible apply Framed.foldl | split | (with_reducible apply touch) | exact Fin.isLt _
   | decide | rfl

theorem State.setSen_framed (r : Fin 8) (b : Bool) (hfr : Framed b₀ s) : Framed b₀ (State.setSen s r b) := by
  unfold State.setSen
  repeat' first
   | with_reducible assumption | intro _ | with_reducible apply Framed.setB | with_reducible apply Framed.ite
   | with_reducible apply Framed.foldl | split | (with_reducible apply touch) | exact Fin.isLt _ | decide | rfl

theorem State.railRest_framed (r : Fin 8) (st : RailState) (hfr : Framed b₀ s) : Framed b₀ (State.railRest s r st) := by
  unfold State.railRest
  repeat' first
   | with_reducible assumption | intro _ | with_reducible apply Framed.modEng | with_reducible apply Framed.modFr
   | with_reducible apply State.setRail_framed | with_reducible apply State.setSen_framed | with_reducible apply Framed.ite
   | with_reducible apply Framed.foldl | split | (with_reducible apply touch) | exact Fin.isLt _ | decide | rfl

theorem State.railOff_framed (r : Fin 8) (hfr : Framed b₀ s) : Framed b₀ (State.railOff s r) := by
  unfold State.railOff
  repeat' first
   | with_reducible assumption | intro _ | with_reducible apply Framed.modEng | with_reducible apply Framed.clear
   | with_reducible apply State.railRest_framed | with_reducible apply Framed.ite | with_reducible apply Framed.foldl | split
   | (with_reducible apply touch) | exact Fin.isLt _ | decide | rfl

theorem State.emit_framed (e : Evt) (c : React) (h : Framed b₀ s) : Framed b₀ (s.emit e c) := by
  unfold State.emit
  dsimp only
  split
  · split
    · split
      · exact ⟨h.rest, h.regs, h.evq⟩
      · exact h
    · exact ⟨h.rest, h.regs, h.evq⟩
  · exact ⟨h.rest, h.regs, h.evq.trans (List.prefix_append _ _)⟩

/-- The codes that the end of an update records. -/
def settleCodes : List Nat := [0x0A14, 0x0A16, 0x0301, 0x0903, 0x0808, 0x0B03, 0x0D0C, 0x0906, 0x0503, 0x0504]
theorem pmbAll_framed {f : Fld} (v : Nat) (hf : f ∈ settleFields) (hc : f.count = 8) (h : Framed b₀ s) :
    Framed b₀ ((List.range 8).foldl (fun s r => s.pmbBits f r v) s) :=
  Framed.foldl _ _ _ h (fun _ a ha hx => hx.pmbBits v (touch hf (by rw [hc]; exact List.mem_range.1 ha)))
theorem State.pmbRec_framed {code : Nat} (unit : Nat) (items : List (Nat × Int)) (hc : code ∈ settleCodes) (h : Framed b₀ s) :
    Framed b₀ (s.pmbRec code unit items) := by
  simp only [settleCodes, List.mem_cons, List.not_mem_nil, or_false] at hc
  unfold State.pmbRec
  rcases hc with rfl | rfl | rfl | rfl | rfl | rfl | rfl | rfl | rfl | rfl <;>
    simp only [Nat.reduceEqDiff, or_self, if_false, if_true] <;> try exact h
  refine Framed.ite (pmbAll_framed _ (by decide) rfl h) (Framed.ite (pmbAll_framed _ (by decide) rfl h) h)

theorem State.raise_framed (front : Bool) {code : Nat} (unit : Nat) (items : List (Nat × Int)) (c : React) (hc : code ∈ settleCodes) (h : Framed b₀ s) :
    Framed b₀ (s.raise front code unit items c) := by
  unfold State.raise
  have h1 := State.pmbRec_framed unit items hc h
  exact Framed.ite (Framed.ite ⟨h1.rest, h1.regs, h1.evq⟩ (State.emit_framed _ _ ⟨h1.rest, h1.regs, h1.evq⟩)) (State.emit_framed _ _ h1)
theorem State.logF_framed {code : Nat} (unit : Nat) (items : List (Nat × Int)) (c : React) (hc : code ∈ settleCodes) (h : Framed b₀ s) :
    Framed b₀ (s.logF code unit items c) := State.raise_framed _ _ _ _ hc h
theorem State.logC_framed {code : Nat} (unit : Nat) (items : List (Nat × Int)) (hc : code ∈ settleCodes) (h : Framed b₀ s) :
    Framed b₀ (s.logC code unit items) := State.raise_framed _ _ _ _ hc h





theorem Port.note_rest (p : Port) (x : Notice) : (p.note x).rest = p.rest := by
  unfold Port.note
  dsimp only
  split
  · rfl
  · rfl
  · split
    · rfl
    · split <;> rfl
theorem State.noteOn_framed (p : Fin 2) (x : Notice) (h : Framed b₀ s) : Framed b₀ (s.noteOn p x) := by
  unfold State.noteOn
  refine Framed.ite ?_ h
  have h1 : Framed b₀ (s.modPort p (fun q => Port.note { q with noteLost := false } x)) :=
    h.modPort p _ (fun q => (Port.note_rest _ _).trans rfl)
  exact h1.when _ _ (fun y hy => State.logC_framed _ _ (by decide) (hy.mark (touch (by decide) p.isLt)))

theorem State.noteRail_framed (r : Fin 8) (kind : Nat) (word : Nat) (hfr : Framed b₀ s) : Framed b₀ (State.noteRail s r kind word) := by
  unfold State.noteRail
  repeat' first
   | with_reducible assumption | intro _ | with_reducible apply State.noteOn_framed | with_reducible apply Framed.ite
   | with_reducible apply Framed.foldl | split | (with_reducible apply touch) | exact Fin.isLt _ | decide | rfl

theorem State.noteAll_framed (kind : Nat) (word : Nat) (hfr : Framed b₀ s) : Framed b₀ (State.noteAll s kind word) := by
  unfold State.noteAll
  repeat' first
   | with_reducible assumption | intro _ | with_reducible apply State.noteOn_framed | with_reducible apply Framed.ite
   | with_reducible apply Framed.foldl | split | (with_reducible apply touch) | exact Fin.isLt _ | decide | rfl

theorem State.enter_framed (n : Nat) (m : Mode) (h : Framed b₀ s) : Framed b₀ (s.enter n m) := by
  unfold State.enter
  have h1 : Framed b₀ ((s.set F.MODE_STATUS_PREV_MODE 0 s.mode.code).set F.MODE_STATUS_LAST_TRANS 0 n) :=
    (h.set _ (touch (by decide) (by decide))).set _ (touch (by decide) (by decide))
  exact State.raise_framed _ _ _ _ (by decide) ⟨h1.rest, h1.regs, h1.evq⟩

theorem State.endLs_framed (r : Fin 8) (h : Framed b₀ s) : Framed b₀ (s.endLs r) := by
  have h1 : Framed b₀ (s.when ((s.fr r).ls == .under || (s.fr r).ls == .over) (fun x =>
      x.logF (if (s.fr r).ls == .under then 0x0503 else 0x0504) r [(1, r.val), (2, min 65535 ((x.now - (s.fr r).lsAt) / 20))])) :=
    h.when _ _ (fun x hx => State.logF_framed _ _ _ (by split <;> decide) hx)
  unfold State.endLs
  dsimp only
  repeat' first
   | exact h1 | intro _ | with_reducible assumption | with_reducible apply Framed.clear | with_reducible apply Framed.foldl
   | with_reducible apply Framed.modPh | with_reducible apply Framed.modFr | (with_reducible apply touch) | exact Fin.isLt _ | decide | rfl

theorem State.fastStop_framed (r : Fin 8) (hfr : Framed b₀ s) : Framed b₀ (State.fastStop s r) := by
  unfold State.fastStop
  repeat' first
   | with_reducible assumption | intro _ | with_reducible apply Framed.modFr | with_reducible apply Framed.clear
   | with_reducible apply State.triRail_framed | with_reducible apply State.setSen_framed | with_reducible apply State.endLs_framed
   | with_reducible apply Framed.ite | with_reducible apply Framed.foldl | split | (with_reducible apply touch) | exact Fin.isLt _
   | decide | rfl

theorem State.latchNow_framed (r : Fin 8) (cause : Nat) (hfr : Framed b₀ s) : Framed b₀ (State.latchNow s r cause) := by
  unfold State.latchNow
  repeat' first
   | with_reducible assumption | intro _ | with_reducible apply Framed.set | with_reducible apply State.railRest_framed
   | with_reducible apply State.logF_framed | with_reducible apply Framed.ite | with_reducible apply Framed.foldl | split
   | (with_reducible apply touch) | exact Fin.isLt _ | decide | rfl

theorem State.softStop_framed (r : Fin 8) (k : StopKind) (cause : Nat) (hfr : Framed b₀ s) : Framed b₀ (State.softStop s r k cause) := by
  unfold State.softStop
  repeat' first
   | with_reducible assumption | intro _ | with_reducible apply Framed.modEng | with_reducible apply Framed.modFr
   | with_reducible apply Framed.clear | with_reducible apply State.setRail_framed | with_reducible apply Framed.ite
   | with_reducible apply Framed.foldl | split | (with_reducible apply touch) | exact Fin.isLt _ | decide | rfl

theorem State.disarm_framed (r : Fin 8) (hfr : Framed b₀ s) : Framed b₀ (State.disarm s r) := by
  unfold State.disarm
  repeat' first
   | with_reducible assumption | intro _ | with_reducible apply State.railOff_framed | with_reducible apply Framed.ite
   | with_reducible apply Framed.foldl | split | (with_reducible apply touch) | exact Fin.isLt _ | decide | rfl

theorem State.stopRound_framed (h : Framed b₀ s) : Framed b₀ s.stopRound := by
  unfold State.stopRound
  dsimp only
  split
  · exact Framed.ite ⟨h.rest, h.regs, h.evq⟩ (State.softStop_framed _ _ _ ⟨h.rest, h.regs, h.evq⟩)
  · exact ⟨h.rest, h.regs, h.evq⟩

theorem State.enterSafestop_framed (n : Nat) (hfr : Framed b₀ s) : Framed b₀ (State.enterSafestop s n) := by
  unfold State.enterSafestop
  repeat' first
   | with_reducible assumption | intro _ | with_reducible apply Framed.mark | with_reducible apply Framed.onRails
   | with_reducible apply State.enter_framed | with_reducible apply State.disarm_framed | with_reducible apply Framed.ite
   | with_reducible apply Framed.foldl | split | (with_reducible apply touch) | exact Fin.isLt _ | decide | rfl

theorem State.dlStop_framed (cause : Nat) (hfr : Framed b₀ s) : Framed b₀ (State.dlStop s cause) := by
  unfold State.dlStop
  repeat' first
   | with_reducible assumption | intro _ | with_reducible apply Framed.onRails | with_reducible apply State.railOff_framed
   | with_reducible apply State.fastStop_framed | with_reducible apply State.softStop_framed | with_reducible apply Framed.ite
   | with_reducible apply Framed.foldl | split | (with_reducible apply touch) | exact Fin.isLt _ | decide | rfl

theorem State.refuse_framed (res rail : Nat) (h : Framed b₀ s) : Framed b₀ (s.refuse res rail) := by
  unfold State.refuse
  refine Framed.ite h ?_
  have h1 : Framed b₀ ((s.set F.CT_STATUS_ADOPT_RES 0 res).inc F.CT_COUNT_ADOPT_REF) :=
    (h.set _ (touch (by decide) (by decide))).inc (touch (by decide) (by decide))
  revert h1
  dsimp only
  generalize (s.set F.CT_STATUS_ADOPT_RES 0 res).inc F.CT_COUNT_ADOPT_REF = y
  intro h1
  have h2 : Framed b₀ ({ y with pow.refused := true, pow.ctAdopt := false } : State) := ⟨h1.rest, h1.regs, h1.evq⟩
  revert h2
  generalize ({ y with pow.refused := true, pow.ctAdopt := false } : State) = z
  intro h2
  refine Framed.onRails (State.logF_framed _ _ _ (by decide) h2) _ (fun x r hx => ?_)
  exact Framed.ite (Framed.modFr (State.softStop_framed _ _ _ hx) _ _ (fun _ => rfl)) hx

theorem State.deviceLatch_framed (cause : Nat) (h : Framed b₀ s) : Framed b₀ (s.deviceLatch cause) := by
  unfold State.deviceLatch
  refine Framed.ite h ?_
  have h0 : Framed b₀ ((s.set F.PROT_STATUS_DL_CAUSE 0 cause).mark F.FAULT_HOLD_FAULT_HOLD) :=
    (h.set _ (touch (by decide) (by decide))).mark (touch (by decide) (by decide))
  revert h0
  dsimp only
  generalize (s.set F.PROT_STATUS_DL_CAUSE 0 cause).mark F.FAULT_HOLD_FAULT_HOLD = y
  intro h0
  have h1 : Framed b₀ (y.raise true 0x0A16 0 [(1, cause), (1, y.mode.code)]) := State.raise_framed _ _ _ _ (by decide) h0
  revert h1
  generalize y.raise true 0x0A16 0 [(1, (cause : Int)), (1, (y.mode.code : Int))] = z
  intro h1
  split
  · exact h1
  · exact h1
  · exact State.enterSafestop_framed _ h1
  · exact State.dlStop_framed _ h1
  · have h2 := State.dlStop_framed cause h1
    exact State.refuse_framed _ _ ⟨h2.rest, h2.regs, h2.evq⟩
  · exact State.enterSafestop_framed _ (State.dlStop_framed _ h1)

theorem State.railLatch_framed (r : Fin 8) (cause : Nat) (fast : Bool) (hfr : Framed b₀ s) : Framed b₀ (State.railLatch s r cause fast) := by
  unfold State.railLatch
  repeat' first
   | with_reducible assumption | intro _ | with_reducible apply Framed.when | with_reducible apply State.fastStop_framed
   | with_reducible apply State.latchNow_framed | with_reducible apply State.softStop_framed
   | with_reducible apply State.deviceLatch_framed | with_reducible apply Framed.ite | with_reducible apply Framed.foldl | split
   | (with_reducible apply touch) | exact Fin.isLt _ | decide | rfl

theorem State.putCtxWord_framed (x n : Nat) (h : Framed b₀ s) : Framed b₀ (s.putCtxWord x n) := ⟨h.rest, h.regs, h.evq⟩

theorem State.putCtx_framed (x : Nat) (c : Ctx) (hfr : Framed b₀ s) : Framed b₀ (State.putCtx s x c) := by
  unfold State.putCtx
  repeat' first
   | with_reducible assumption | intro _ | with_reducible apply State.putCtxWord_framed | with_reducible apply Framed.ite
   | with_reducible apply Framed.foldl | split | (with_reducible apply touch) | exact Fin.isLt _ | decide | rfl

theorem State.putHints_framed (r : Fin 8) (l : List Hint) (h : Framed b₀ s) : Framed b₀ (s.putHints r l) :=
  Framed.set (f := F.TN_STAT_N_SCHED) (i := r.val) (h.modRail r (fun x => { x with tn := l }) (fun _ => rfl)) l.length (touch (by decide) r.isLt)

theorem State.putF_framed (r : Fin 8) (hfr : Framed b₀ s) : Framed b₀ (State.putF s r) := by
  unfold State.putF
  repeat' first
   | with_reducible assumption | intro _ | with_reducible apply Framed.modEng | with_reducible apply Framed.setI
   | with_reducible apply Framed.mark | with_reducible apply Framed.ite | with_reducible apply Framed.foldl | split
   | (with_reducible apply touch) | exact Fin.isLt _ | decide | rfl

theorem State.ctxCheck_framed (x : Nat) (hfr : Framed b₀ s) : Framed b₀ (State.ctxCheck s x) := by
  unfold State.ctxCheck
  repeat' first
   | with_reducible assumption | intro _ | with_reducible apply Framed.onRails | with_reducible apply State.logC_framed
   | with_reducible apply State.putCtx_framed | with_reducible apply State.putHints_framed | with_reducible apply State.putF_framed
   | with_reducible apply Framed.ite | with_reducible apply Framed.foldl | split | (with_reducible apply touch) | exact Fin.isLt _
   | decide | rfl

theorem State.ctxRefill_framed (x : Nat) (hfr : Framed b₀ s) : Framed b₀ (State.ctxRefill s x) := by
  unfold State.ctxRefill
  repeat' first
   | with_reducible assumption | intro _ | with_reducible apply State.putCtx_framed | with_reducible apply State.ctxCheck_framed
   | with_reducible apply Framed.ite | with_reducible apply Framed.foldl | split | (with_reducible apply touch) | exact Fin.isLt _
   | decide | rfl

theorem State.freeSlot_framed (h : Hint) (hfr : Framed b₀ s) : Framed b₀ (State.freeSlot s h) := by
  unfold State.freeSlot
  repeat' first
   | with_reducible assumption | intro _ | with_reducible apply State.putCtx_framed | with_reducible apply State.ctxCheck_framed
   | with_reducible apply Framed.ite | with_reducible apply Framed.foldl | split | (with_reducible apply touch) | exact Fin.isLt _
   | decide | rfl

theorem State.retire_framed (r : Fin 8) (p : Hint → Bool) (hfr : Framed b₀ s) : Framed b₀ (State.retire s r p) := by
  unfold State.retire
  repeat' first
   | with_reducible assumption | intro _ | with_reducible apply State.putHints_framed | with_reducible apply State.freeSlot_framed
   | with_reducible apply Framed.ite | with_reducible apply Framed.foldl | split | (with_reducible apply touch) | exact Fin.isLt _
   | decide | rfl

theorem State.noteTense_framed (r : Fin 8) (event : Nat) (w : Nat) (value : Nat) (hfr : Framed b₀ s) : Framed b₀ (State.noteTense s r event w value) := by
  unfold State.noteTense
  repeat' first
   | with_reducible assumption | intro _ | with_reducible apply State.noteRail_framed | with_reducible apply Framed.ite
   | with_reducible apply Framed.foldl | split | (with_reducible apply touch) | exact Fin.isLt _ | decide | rfl

theorem State.discard_framed (r : Fin 8) (cause : Nat) (hfr : Framed b₀ s) : Framed b₀ (State.discard s r cause) := by
  unfold State.discard
  repeat' first
   | with_reducible assumption | intro _ | with_reducible apply Framed.mark | with_reducible apply State.logC_framed
   | with_reducible apply State.putF_framed | with_reducible apply State.retire_framed | with_reducible apply State.noteTense_framed
   | with_reducible apply Framed.ite | with_reducible apply Framed.foldl | split | (with_reducible apply touch) | exact Fin.isLt _
   | decide | rfl

theorem State.clampRound_framed  (hfr : Framed b₀ s) : Framed b₀ (State.clampRound s) := by
  unfold State.clampRound
  repeat' first
   | with_reducible assumption | intro _ | with_reducible apply Framed.onRails | with_reducible apply State.putF_framed
   | with_reducible apply Framed.ite | with_reducible apply Framed.foldl | split | (with_reducible apply touch) | exact Fin.isLt _
   | decide | rfl

theorem State.hintRound_framed  (hfr : Framed b₀ s) : Framed b₀ (State.hintRound s) := by
  unfold State.hintRound
  repeat' first
   | with_reducible assumption | intro _ | with_reducible apply Framed.onRails | with_reducible apply State.discard_framed
   | with_reducible apply Framed.ite | with_reducible apply Framed.foldl | split | (with_reducible apply touch) | exact Fin.isLt _
   | decide | rfl

theorem State.modPk_framed (f : Pack → Pack) (hf : ∀ p : Pack, (f p).rest = p.rest)
    (h : Framed b₀ s) : Framed b₀ (s.modPk f) :=
  ⟨by
    rw [← h.rest]
    show ({ (s.modPk f).rest with pk := (f s.pk).rest } : State) = { s.rest with pk := s.pk.rest }
    rw [hf]; rfl, h.regs, h.evq⟩

theorem State.setChg_framed (k : Nat) (hfr : Framed b₀ s) : Framed b₀ (State.setChg s k) := by
  unfold State.setChg
  repeat' first
   | with_reducible assumption | intro _ | with_reducible apply Framed.set | with_reducible apply State.modPk_framed
   | with_reducible apply Framed.ite | with_reducible apply Framed.foldl | split | (with_reducible apply touch) | exact Fin.isLt _
   | decide | rfl

theorem Framed.testEnd (h : Framed b₀ s) (t : Nat) : Framed b₀ ({ s with pow.testEnd := t } : State) := ⟨h.rest, h.regs, h.evq⟩
theorem State.testAbort_framed (h : Framed b₀ s) : Framed b₀ s.testAbort := by
  unfold State.testAbort
  refine Framed.ite h ?_
  have h1 := (State.modPk_framed (fun p => { p with test := 0, testRetry := true, testAt := s.now }) (fun _ => rfl)
    (h.clear (f := F.PK_STATE_TEST_ACT) (i := 0) (touch (by decide) (by decide)))).testEnd s.now
  exact State.logC_framed _ _ (by decide) (h1.when _ _ (fun _ hx => State.setChg_framed _ hx))

theorem State.chargerRound_framed  (hfr : Framed b₀ s) : Framed b₀ (State.chargerRound s) := by
  unfold State.chargerRound
  repeat' first
   | with_reducible assumption | intro _ | with_reducible apply Framed.when | with_reducible apply State.setChg_framed
   | with_reducible apply State.testAbort_framed | with_reducible apply Framed.ite | with_reducible apply Framed.foldl | split
   | (with_reducible apply touch) | exact Fin.isLt _ | decide | rfl

theorem State.setGate_framed (b : Bool) (hfr : Framed b₀ s) : Framed b₀ (State.setGate s b) := by
  unfold State.setGate
  repeat' first
   | with_reducible assumption | intro _ | with_reducible apply Framed.setB | with_reducible apply State.modPk_framed
   | with_reducible apply Framed.ite | with_reducible apply Framed.foldl | split | (with_reducible apply touch) | exact Fin.isLt _
   | decide | rfl

theorem State.gateRound_framed  (hfr : Framed b₀ s) : Framed b₀ (State.gateRound s) := by
  unfold State.gateRound
  repeat' first
   | with_reducible assumption | intro _ | with_reducible apply State.setGate_framed | with_reducible apply Framed.ite
   | with_reducible apply Framed.foldl | split | (with_reducible apply touch) | exact Fin.isLt _ | decide | rfl

theorem State.packRound_framed  (hfr : Framed b₀ s) : Framed b₀ (State.packRound s) := by
  unfold State.packRound
  repeat' first
   | with_reducible assumption | intro _ | with_reducible apply State.chargerRound_framed | with_reducible apply State.gateRound_framed
   | with_reducible apply Framed.ite | with_reducible apply Framed.foldl | split | (with_reducible apply touch) | exact Fin.isLt _
   | decide | rfl

theorem State.arm_framed (r : Fin 8) (hfr : Framed b₀ s) : Framed b₀ (State.arm s r) := by
  unfold State.arm
  repeat' first
   | with_reducible assumption | intro _ | with_reducible apply Framed.modFr | with_reducible apply State.setRail_framed
   | with_reducible apply State.setSen_framed | with_reducible apply Framed.ite | with_reducible apply Framed.foldl | split
   | (with_reducible apply touch) | exact Fin.isLt _ | decide | rfl

theorem State.armRound_framed  (hfr : Framed b₀ s) : Framed b₀ (State.armRound s) := by
  unfold State.armRound
  repeat' first
   | with_reducible assumption | intro _ | with_reducible apply Framed.onRails | with_reducible apply State.arm_framed
   | with_reducible apply Framed.ite | with_reducible apply Framed.foldl | split | (with_reducible apply touch) | exact Fin.isLt _
   | decide | rfl

theorem State.clrRound_framed (hw : s.pow.wantSafestopClr = false) (h : Framed b₀ s) : Framed b₀ s.clrRound := by
  unfold State.clrRound
  rw [hw]
  exact h

theorem State.shedRound_framed  (hfr : Framed b₀ s) : Framed b₀ (State.shedRound s) := by
  unfold State.shedRound
  repeat' first
   | with_reducible assumption | intro _ | with_reducible apply Framed.modRail | with_reducible apply Framed.onRails
   | with_reducible apply Framed.ite | with_reducible apply Framed.foldl | split | (with_reducible apply touch) | exact Fin.isLt _
   | decide | rfl

theorem State.modeRound_framed  (hfr : Framed b₀ s) : Framed b₀ (State.modeRound s) := by
  unfold State.modeRound
  repeat' first
   | with_reducible assumption | intro _ | with_reducible apply State.enter_framed | with_reducible apply Framed.ite
   | with_reducible apply Framed.foldl | split | (with_reducible apply touch) | exact Fin.isLt _ | decide | rfl

theorem State.mirrorRound_framed (s0 : State) (h : Framed b₀ s) : Framed b₀ (State.mirrorRound s0 s) := by
  unfold State.mirrorRound
  exact Framed.ite ⟨h.rest, h.regs, h.evq⟩ h

theorem Framed.cj (h : Framed b₀ s) (x : Bool) (q : List (Nat × Nat)) : Framed b₀ ({ s with cj := { s.cj with taken := x, txq := q } } : State) :=
  ⟨h.rest, h.regs, h.evq⟩
theorem State.cjRound_framed (s0 : State) (h : Framed b₀ s) : Framed b₀ (State.cjRound s0 s) := by
  unfold State.cjRound
  split
  · exact h
  · rename_i r _
    have h1 := State.railLatch_framed r 4 true h
    dsimp only
    split
    · exact h1.cj _ _
    · exact h.cj _ _

theorem State.noteRound_framed (s0 : State) (hfr : Framed b₀ s) : Framed b₀ (State.noteRound s0 s) := by
  unfold State.noteRound
  repeat' first
   | with_reducible assumption | intro _ | with_reducible apply Framed.when | with_reducible apply Framed.onRails
   | with_reducible apply State.noteRail_framed | with_reducible apply State.noteAll_framed | with_reducible apply Framed.ite
   | with_reducible apply Framed.foldl | split | (with_reducible apply touch) | exact Fin.isLt _ | decide | rfl

theorem State.precheckRound_framed  (hfr : Framed b₀ s) : Framed b₀ (State.precheckRound s) := by
  unfold State.precheckRound
  repeat' first
   | with_reducible assumption | intro _ | with_reducible apply State.enter_framed | with_reducible apply Framed.ite
   | with_reducible apply Framed.foldl | split | (with_reducible apply touch) | exact Fin.isLt _ | decide | rfl

theorem State.creditRound_framed  (hfr : Framed b₀ s) : Framed b₀ (State.creditRound s) := by
  unfold State.creditRound
  repeat' first
   | with_reducible assumption | intro _ | with_reducible apply Framed.set | with_reducible apply Framed.modPort
   | with_reducible apply Framed.ite | with_reducible apply Framed.foldl | split | (with_reducible apply touch) | exact Fin.isLt _
   | decide | rfl

theorem State.pmbRail_framed (s0 : State) (r : Fin 8) (hfr : Framed b₀ s) : Framed b₀ (State.pmbRail s0 s r) := by
  unfold State.pmbRail
  repeat' first
   | with_reducible assumption | intro _ | with_reducible apply Framed.pmbBits | with_reducible apply Framed.ite
   | with_reducible apply Framed.foldl | split | (with_reducible apply touch) | exact Fin.isLt _ | decide | rfl

theorem Framed.pmb (h : Framed b₀ s) (x : Bool) (n : Nat) : Framed b₀ ({ s with pmb := { s.pmb with released := x, seen := n } } : State) :=
  ⟨h.rest, h.regs, h.evq⟩
theorem State.pmbRound_framed (s0 : State) (h : Framed b₀ s) : Framed b₀ (State.pmbRound s0 s) := by
  unfold State.pmbRound
  refine Framed.ite h ?_
  have h1 : Framed b₀ (s.onRails (fun s r => State.pmbRail s0 s r)) := Framed.onRails h _ (fun _ _ hx => State.pmbRail_framed _ _ hx)
  revert h1
  dsimp only
  generalize s.onRails (fun s r => State.pmbRail s0 s r) = y
  intro h1
  have h2 : Framed b₀ (y.when (y.flag F.JRN_STICKY_SLOT_BAD_S) (fun s => s.cml 16)) :=
    h1.when _ _ (fun _ hx => hx.pmbBits _ (touch (by decide) (by decide)))
  exact h2.pmb _ _

theorem State.wasRound_framed (s0 : State) (hfr : Framed b₀ s) : Framed b₀ (State.wasRound s0 s) := by
  unfold State.wasRound
  repeat' first
   | with_reducible assumption | intro _ | with_reducible apply Framed.modFr | with_reducible apply Framed.onRails
   | with_reducible apply Framed.ite | with_reducible apply Framed.foldl | split | (with_reducible apply touch) | exact Fin.isLt _
   | decide | rfl

/-- The end of an update changes nothing but what the lists above name, while no SAFESTOP_CLR request waits. -/
theorem settle_framed (s0 : State) (s : State) (hw : s.pow.wantSafestopClr = false) : Framed s (settle s0 s) := by
  unfold settle
  have h1 : Framed s (State.cjRound s0 s.stopRound).packRound :=
    State.packRound_framed (State.cjRound_framed _ (State.stopRound_framed (Framed.refl s)))
  have hw1 : (State.cjRound s0 s.stopRound).packRound.pow.wantSafestopClr = false := by
    have := congrArg (fun x : State => x.pow.wantSafestopClr) h1.rest
    exact (show _ = s.pow.wantSafestopClr from this).trans hw
  exact State.creditRound_framed (State.noteRound_framed _ (State.mirrorRound_framed _ (State.pmbRound_framed _ (State.wasRound_framed _ (State.clampRound_framed
    (State.hintRound_framed (State.modeRound_framed (State.shedRound_framed (State.precheckRound_framed (State.armRound_framed (State.clrRound_framed hw1 h1)))))))))))

/-- A command's next state: its effect, then the end of the update; the clock at the command's instant, the queue as it was. -/
theorem run_next (t : Nat) (f : State → State) (s : State) (hw : (f (s.at t)).pow.wantSafestopClr = false) :
    ∃ u, run t f s = .next u ∧ Framed (f (s.at t)) u ∧ u.now = max s.now t ∧ u.pending = s.pending := by
  have h := settle_framed (s.at t) _ hw
  refine ⟨_, rfl, ?_, rfl, rfl⟩
  generalize settle (s.at t) (f (s.at t)) = x at h ⊢
  exact ⟨h.rest, h.regs, h.evq⟩

/-! ## What the frame keeps -/

theorem Framed.get (h : Framed b₀ s) (f : Fld) (i : Nat) (hk : settleKey (f.key i) = false) : s.get f i = b₀.get f i := h.regs _ hk
theorem Framed.cz1604 (h : Framed b₀ s) : s.cz1604 = b₀.cz1604 := by have := congrArg State.cz1604 h.rest; exact this
theorem Framed.img (h : Framed b₀ s) : s.img = b₀.img := by have := congrArg State.img h.rest; exact this
theorem Framed.br (h : Framed b₀ s) : s.br = b₀.br := by have := congrArg State.br h.rest; exact this
theorem Framed.par (h : Framed b₀ s) : s.par = b₀.par := by have := congrArg State.par h.rest; exact this
theorem Framed.sets (h : Framed b₀ s) : s.sets = b₀.sets := by have := congrArg State.sets h.rest; exact this
theorem Framed.spi (h : Framed b₀ s) : s.spi = b₀.spi := by have := congrArg State.spi h.rest; exact this
theorem Framed.otp (h : Framed b₀ s) : s.otp = b₀.otp := by have := congrArg State.otp h.rest; exact this
theorem Framed.sec (h : Framed b₀ s) : s.sec = b₀.sec := by have := congrArg State.sec h.rest; exact this
theorem Framed.tlm (h : Framed b₀ s) : s.tlm = b₀.tlm := by have := congrArg State.tlm h.rest; exact this
theorem Framed.jrn (h : Framed b₀ s) : s.jrn = b₀.jrn := by have := congrArg State.jrn h.rest; exact this
theorem Framed.th (h : Framed b₀ s) : s.th = b₀.th := by have := congrArg State.th h.rest; exact this
theorem Framed.ctx0 (h : Framed b₀ s) : s.ctx0 = b₀.ctx0 := by have := congrArg State.ctx0 h.rest; exact this
theorem Framed.rings (h : Framed b₀ s) : s.rings = b₀.rings := by have := congrArg State.rings h.rest; exact this
theorem Framed.code (h : Framed b₀ s) : s.code = b₀.code := by have := congrArg State.code h.rest; exact this
theorem Framed.entry (h : Framed b₀ s) : s.entry = b₀.entry := by have := congrArg State.entry h.rest; exact this
theorem Framed.recs (h : Framed b₀ s) : s.rcd.recs = b₀.rcd.recs := by have := congrArg (fun x : State => x.rcd.recs) h.rest; exact this
theorem Framed.intake (h : Framed b₀ s) : s.rcd.intake = b₀.rcd.intake := by have := congrArg (fun x : State => x.rcd.intake) h.rest; exact this
theorem Framed.recSeq (h : Framed b₀ s) : s.rcd.seq = b₀.rcd.seq := by have := congrArg (fun x : State => x.rcd.seq) h.rest; exact this
theorem Framed.recSpi (h : Framed b₀ s) : s.rcd.spi = b₀.rcd.spi := by have := congrArg (fun x : State => x.rcd.spi) h.rest; exact this
theorem Framed.recPmb (h : Framed b₀ s) : s.rcd.pmb = b₀.rcd.pmb := by have := congrArg (fun x : State => x.rcd.pmb) h.rest; exact this
/-- The rest of a rail. -/
theorem Framed.rail (h : Framed b₀ s) (r : Fin 8) : (s.rail r).rest = (b₀.rail r).rest := by
  have := by have := congrArg (fun x : State => x.rails[r]) h.rest; exact this
  simpa [State.rest, State.rail] using this
theorem Framed.eng (h : Framed b₀ s) (r : Fin 8) : (s.eng r).rest = (b₀.eng r).rest := by have := congrArg Rail.eng (h.rail r); exact this
theorem Framed.fr (h : Framed b₀ s) (r : Fin 8) : (s.fr r).rest = (b₀.fr r).rest := by have := congrArg Rail.fr (h.rail r); exact this
theorem Framed.cfg (h : Framed b₀ s) (r : Fin 8) : s.cfg r = b₀.cfg r := by have := congrArg Rail.cfg (h.rail r); exact this
theorem Framed.sp (h : Framed b₀ s) (r : Fin 8) : (s.rail r).sp = (b₀.rail r).sp := by have := congrArg Rail.sp (h.rail r); exact this
theorem Framed.ph (h : Framed b₀ s) (n : Fin 32) : (s.ph n).rest = (b₀.ph n).rest := by
  have := by have := congrArg (fun x : State => x.phases[n]) h.rest; exact this
  simpa [State.rest, State.ph] using this
theorem Framed.port (h : Framed b₀ s) (p : Fin 2) : (s.port p).rest = (b₀.port p).rest := by
  have := by have := congrArg (fun x : State => x.ports[p]) h.rest; exact this
  simpa [State.rest, State.port] using this

end Sys2Proof.Machine
end

