-- ==== Sys2Proof/Laws/Held.lean ====
section
/-!
SUPPORT. What the end of an update leaves of the device mode and the rail states: the relation `Held`, the rounds that keep it, and
the conditions under which `settle` keeps the mode or the state of a rail.
-/
namespace Sys2Proof.Machine
set_option linter.unusedTactic false
set_option linter.unreachableTactic false

/-- The mode, the rail states and the ordered stop are as before. -/
structure Held (b s : State) : Prop where
  mode : s.mode = b.mode
  st : ∀ r, s.st r = b.st r
  stop : s.pow.stopSet = b.pow.stopSet

variable {b₀ s : State}
theorem Held.refl (b : State) : Held b b := ⟨rfl, fun _ => rfl, rfl⟩
theorem Held.trans {a b c : State} (h : Held a b) (g : Held b c) : Held a c :=
  ⟨g.mode.trans h.mode, fun r => (g.st r).trans (h.st r), g.stop.trans h.stop⟩
theorem Held.set (h : Held b₀ s) (f : Fld) (i v : Nat) : Held b₀ (s.set f i v) := ⟨h.mode, h.st, h.stop⟩
theorem Held.setI (h : Held b₀ s) (f : Fld) (i : Nat) (v : Int) : Held b₀ (s.setI f i v) := h.set _ _ _
theorem Held.mark (h : Held b₀ s) (f : Fld) (i : Nat) : Held b₀ (s.mark f i) := h.set _ _ _
theorem Held.clear (h : Held b₀ s) (f : Fld) (i : Nat) : Held b₀ (s.clear f i) := h.set _ _ _
theorem Held.setB (h : Held b₀ s) (f : Fld) (i : Nat) (c : Bool) : Held b₀ (s.setB f i c) := h.set _ _ _
theorem Held.inc (h : Held b₀ s) (f : Fld) (i : Nat) : Held b₀ (s.inc f i) := h.set _ _ _
theorem Held.pmbBits (h : Held b₀ s) (f : Fld) (i v : Nat) : Held b₀ (s.pmbBits f i v) := h.set _ _ _
theorem Held.modRail (h : Held b₀ s) (r : Fin 8) (f : Rail → Rail) (hf : ∀ x, (f x).st = x.st) : Held b₀ (s.modRail r f) := by
  refine ⟨h.mode, fun q => ?_, h.stop⟩
  rw [← h.st q]
  by_cases hq : q = r
  · subst hq; simp [State.st, hf]
  · simp only [State.st, State.rail_modRail_of_ne _ _ _ _ hq]
theorem Held.modEng (h : Held b₀ s) (r : Fin 8) (f : Engine → Engine) : Held b₀ (s.modEng r f) := h.modRail r _ (fun _ => rfl)
theorem Held.modFr (h : Held b₀ s) (r : Fin 8) (f : Front → Front) : Held b₀ (s.modFr r f) := h.modRail r _ (fun _ => rfl)
theorem Held.modPh (h : Held b₀ s) (n : Fin 32) (f : Phase → Phase) : Held b₀ (s.modPh n f) := ⟨h.mode, h.st, h.stop⟩
theorem Held.modPort (h : Held b₀ s) (p : Fin 2) (f : Port → Port) : Held b₀ (s.modPort p f) := ⟨h.mode, h.st, h.stop⟩
theorem Held.ite {x y : State} {c : Prop} [Decidable c] (hx : Held b₀ x) (hy : Held b₀ y) : Held b₀ (if c then x else y) := by
  split <;> assumption
theorem Held.when (h : Held b₀ s) (c : Bool) (f : State → State) (hf : ∀ x, Held b₀ x → Held b₀ (f x)) : Held b₀ (s.when c f) := by
  unfold State.when; exact Held.ite (hf _ h) h
theorem Held.foldl {α : Type} (f : State → α → State) (l : List α) (s : State) (h : Held b₀ s) (hf : ∀ x a, Held b₀ x → Held b₀ (f x a)) :
    Held b₀ (l.foldl f s) := by
  induction l generalizing s with
  | nil => exact h
  | cons a l ih => exact ih _ (hf _ _ h)
theorem Held.onRails (h : Held b₀ s) (f : State → Fin 8 → State) (hf : ∀ x a, Held b₀ x → Held b₀ (f x a)) : Held b₀ (s.onRails f) :=
  Held.foldl _ _ _ h hf

theorem State.setLevel_held (n : Fin 32) (l : Level) (hh : Held b₀ s) : Held b₀ (State.setLevel s n l) := by
  unfold State.setLevel
  repeat' first
   | with_reducible assumption | intro _ | with_reducible apply Held.set | with_reducible apply Held.ite
   | with_reducible apply Held.foldl | split | rfl

theorem State.toLevelAt_held (n : Fin 32) (l : Level) (tk : Nat) (hh : Held b₀ s) : Held b₀ (State.toLevelAt s n l tk) := by
  unfold State.toLevelAt
  repeat' first
   | with_reducible assumption | intro _ | with_reducible apply Held.modPh | with_reducible apply State.setLevel_held
   | with_reducible apply Held.ite | with_reducible apply Held.foldl | split | rfl

theorem State.emit_held (e : Evt) (c : React) (h : Held b₀ s) : Held b₀ (s.emit e c) := by
  unfold State.emit
  dsimp only
  split
  · split
    · split
      · exact ⟨h.mode, h.st, h.stop⟩
      · exact h
    · exact ⟨h.mode, h.st, h.stop⟩
  · exact ⟨h.mode, h.st, h.stop⟩

theorem State.pmbRec_held (code : Nat) (unit : Nat) (items : List (Nat × Int)) (hh : Held b₀ s) : Held b₀ (State.pmbRec s code unit items) := by
  unfold State.pmbRec
  repeat' first
   | with_reducible assumption | intro _ | with_reducible apply Held.pmbBits | with_reducible apply Held.ite
   | with_reducible apply Held.foldl | split | rfl

theorem State.raise_held (front : Bool) (code : Nat) (unit : Nat) (items : List (Nat × Int)) (c : React) (h : Held b₀ s) :
    Held b₀ (s.raise front code unit items c) := by
  unfold State.raise
  have h1 := State.pmbRec_held code unit items h
  exact Held.ite (Held.ite ⟨h1.mode, h1.st, h1.stop⟩ (State.emit_held _ _ ⟨h1.mode, h1.st, h1.stop⟩)) (State.emit_held _ _ h1)

theorem State.logF_held (code : Nat) (unit : Nat) (items : List (Nat × Int)) (react : React) (hh : Held b₀ s) : Held b₀ (State.logF s code unit items react) := by
  unfold State.logF
  repeat' first
   | with_reducible assumption | intro _ | with_reducible apply State.raise_held | with_reducible apply Held.ite
   | with_reducible apply Held.foldl | split | rfl

theorem State.logC_held (code : Nat) (unit : Nat) (items : List (Nat × Int)) (hh : Held b₀ s) : Held b₀ (State.logC s code unit items) := by
  unfold State.logC
  repeat' first
   | with_reducible assumption | intro _ | with_reducible apply State.raise_held | with_reducible apply Held.ite
   | with_reducible apply Held.foldl | split | rfl

theorem State.noteOn_held (p : Fin 2) (x : Notice) (hh : Held b₀ s) : Held b₀ (State.noteOn s p x) := by
  unfold State.noteOn
  repeat' first
   | with_reducible assumption | intro _ | with_reducible apply Held.mark | with_reducible apply Held.modPort
   | with_reducible apply Held.when | with_reducible apply State.logC_held | with_reducible apply Held.ite
   | with_reducible apply Held.foldl | split | rfl

theorem State.noteRail_held (r : Fin 8) (kind : Nat) (word : Nat) (hh : Held b₀ s) : Held b₀ (State.noteRail s r kind word) := by
  unfold State.noteRail
  repeat' first
   | with_reducible assumption | intro _ | with_reducible apply State.noteOn_held | with_reducible apply Held.ite
   | with_reducible apply Held.foldl | split | rfl

theorem State.noteAll_held (kind : Nat) (word : Nat) (hh : Held b₀ s) : Held b₀ (State.noteAll s kind word) := by
  unfold State.noteAll
  repeat' first
   | with_reducible assumption | intro _ | with_reducible apply State.noteOn_held | with_reducible apply Held.ite
   | with_reducible apply Held.foldl | split | rfl

theorem State.cml_held (v : Nat) (hh : Held b₀ s) : Held b₀ (State.cml s v) := by
  unfold State.cml
  repeat' first
   | with_reducible assumption | intro _ | with_reducible apply Held.pmbBits | with_reducible apply Held.ite
   | with_reducible apply Held.foldl | split | rfl

theorem State.putCtxWord_held (x n : Nat) (h : Held b₀ s) : Held b₀ (s.putCtxWord x n) := ⟨h.mode, h.st, h.stop⟩

theorem State.putCtx_held (x : Nat) (c : Ctx) (hh : Held b₀ s) : Held b₀ (State.putCtx s x c) := by
  unfold State.putCtx
  repeat' first
   | with_reducible assumption | intro _ | with_reducible apply State.putCtxWord_held | with_reducible apply Held.ite
   | with_reducible apply Held.foldl | split | rfl

theorem State.putHints_held (r : Fin 8) (l : List Hint) (h : Held b₀ s) : Held b₀ (s.putHints r l) :=
  Held.set (h.modRail r (fun x => { x with tn := l }) (fun _ => rfl)) _ _ _

theorem State.putF_held (r : Fin 8) (hh : Held b₀ s) : Held b₀ (State.putF s r) := by
  unfold State.putF
  repeat' first
   | with_reducible assumption | intro _ | with_reducible apply Held.modEng | with_reducible apply Held.setI
   | with_reducible apply Held.mark | with_reducible apply Held.ite | with_reducible apply Held.foldl | split | rfl

theorem State.ctxCheck_held (x : Nat) (hh : Held b₀ s) : Held b₀ (State.ctxCheck s x) := by
  unfold State.ctxCheck
  repeat' first
   | with_reducible assumption | intro _ | with_reducible apply Held.onRails | with_reducible apply State.logC_held
   | with_reducible apply State.putCtx_held | with_reducible apply State.putHints_held | with_reducible apply State.putF_held
   | with_reducible apply Held.ite | with_reducible apply Held.foldl | split | rfl

theorem State.ctxRefill_held (x : Nat) (hh : Held b₀ s) : Held b₀ (State.ctxRefill s x) := by
  unfold State.ctxRefill
  repeat' first
   | with_reducible assumption | intro _ | with_reducible apply State.putCtx_held | with_reducible apply State.ctxCheck_held
   | with_reducible apply Held.ite | with_reducible apply Held.foldl | split | rfl

theorem State.freeSlot_held (h : Hint) (hh : Held b₀ s) : Held b₀ (State.freeSlot s h) := by
  unfold State.freeSlot
  repeat' first
   | with_reducible assumption | intro _ | with_reducible apply State.putCtx_held | with_reducible apply State.ctxCheck_held
   | with_reducible apply Held.ite | with_reducible apply Held.foldl | split | rfl

theorem State.retire_held (r : Fin 8) (p : Hint → Bool) (hh : Held b₀ s) : Held b₀ (State.retire s r p) := by
  unfold State.retire
  repeat' first
   | with_reducible assumption | intro _ | with_reducible apply State.putHints_held | with_reducible apply State.freeSlot_held
   | with_reducible apply Held.ite | with_reducible apply Held.foldl | split | rfl

theorem State.noteTense_held (r : Fin 8) (event : Nat) (w : Nat) (value : Nat) (hh : Held b₀ s) : Held b₀ (State.noteTense s r event w value) := by
  unfold State.noteTense
  repeat' first
   | with_reducible assumption | intro _ | with_reducible apply State.noteRail_held | with_reducible apply Held.ite
   | with_reducible apply Held.foldl | split | rfl

theorem State.discard_held (r : Fin 8) (cause : Nat) (hh : Held b₀ s) : Held b₀ (State.discard s r cause) := by
  unfold State.discard
  repeat' first
   | with_reducible assumption | intro _ | with_reducible apply Held.mark | with_reducible apply State.logC_held
   | with_reducible apply State.putF_held | with_reducible apply State.retire_held | with_reducible apply State.noteTense_held
   | with_reducible apply Held.ite | with_reducible apply Held.foldl | split | rfl

theorem State.clampRound_held  (hh : Held b₀ s) : Held b₀ (State.clampRound s) := by
  unfold State.clampRound
  repeat' first
   | with_reducible assumption | intro _ | with_reducible apply Held.onRails | with_reducible apply State.putF_held
   | with_reducible apply Held.ite | with_reducible apply Held.foldl | split | rfl

theorem State.hintRound_held  (hh : Held b₀ s) : Held b₀ (State.hintRound s) := by
  unfold State.hintRound
  repeat' first
   | with_reducible assumption | intro _ | with_reducible apply Held.onRails | with_reducible apply State.discard_held
   | with_reducible apply Held.ite | with_reducible apply Held.foldl | split | rfl

theorem State.modPk_held (f : Pack → Pack) (h : Held b₀ s) : Held b₀ (s.modPk f) := ⟨h.mode, h.st, h.stop⟩

theorem State.setChg_held (k : Nat) (hh : Held b₀ s) : Held b₀ (State.setChg s k) := by
  unfold State.setChg
  repeat' first
   | with_reducible assumption | intro _ | with_reducible apply Held.set | with_reducible apply State.modPk_held
   | with_reducible apply Held.ite | with_reducible apply Held.foldl | split | rfl

theorem Held.testEnd (h : Held b₀ s) (t : Nat) : Held b₀ ({ s with pow.testEnd := t } : State) := ⟨h.mode, h.st, h.stop⟩
theorem State.testAbort_held (h : Held b₀ s) : Held b₀ s.testAbort := by
  unfold State.testAbort
  refine Held.ite h ?_
  exact State.logC_held _ _ _ (((State.modPk_held _ (h.clear _ _)).testEnd _).when _ _ (fun _ hx => State.setChg_held _ hx))

theorem State.chargerRound_held  (hh : Held b₀ s) : Held b₀ (State.chargerRound s) := by
  unfold State.chargerRound
  repeat' first
   | with_reducible assumption | intro _ | with_reducible apply Held.when | with_reducible apply State.setChg_held
   | with_reducible apply State.testAbort_held | with_reducible apply Held.ite | with_reducible apply Held.foldl | split | rfl

theorem State.setGate_held (b : Bool) (hh : Held b₀ s) : Held b₀ (State.setGate s b) := by
  unfold State.setGate
  repeat' first
   | with_reducible assumption | intro _ | with_reducible apply Held.setB | with_reducible apply State.modPk_held
   | with_reducible apply Held.ite | with_reducible apply Held.foldl | split | rfl

theorem State.gateRound_held  (hh : Held b₀ s) : Held b₀ (State.gateRound s) := by
  unfold State.gateRound
  repeat' first
   | with_reducible assumption | intro _ | with_reducible apply State.setGate_held | with_reducible apply Held.ite
   | with_reducible apply Held.foldl | split | rfl

theorem State.packRound_held  (hh : Held b₀ s) : Held b₀ (State.packRound s) := by
  unfold State.packRound
  repeat' first
   | with_reducible assumption | intro _ | with_reducible apply State.chargerRound_held
   | with_reducible apply State.gateRound_held | with_reducible apply Held.ite | with_reducible apply Held.foldl | split | rfl

theorem State.mirrorRound_held (s0 : State) (h : Held b₀ s) : Held b₀ (State.mirrorRound s0 s) := by
  unfold State.mirrorRound
  exact Held.ite ⟨h.mode, h.st, h.stop⟩ h

theorem State.noteRound_held (s0 : State) (hh : Held b₀ s) : Held b₀ (State.noteRound s0 s) := by
  unfold State.noteRound
  repeat' first
   | with_reducible assumption | intro _ | with_reducible apply Held.when | with_reducible apply Held.onRails
   | with_reducible apply State.noteRail_held | with_reducible apply State.noteAll_held | with_reducible apply Held.ite
   | with_reducible apply Held.foldl | split | rfl

theorem State.creditRound_held  (hh : Held b₀ s) : Held b₀ (State.creditRound s) := by
  unfold State.creditRound
  repeat' first
   | with_reducible assumption | intro _ | with_reducible apply Held.set | with_reducible apply Held.modPort
   | with_reducible apply Held.ite | with_reducible apply Held.foldl | split | rfl

theorem State.pmbRail_held (s0 : State) (r : Fin 8) (hh : Held b₀ s) : Held b₀ (State.pmbRail s0 s r) := by
  unfold State.pmbRail
  repeat' first
   | with_reducible assumption | intro _ | with_reducible apply Held.pmbBits | with_reducible apply Held.ite
   | with_reducible apply Held.foldl | split | rfl

theorem Held.pmb (h : Held b₀ s) (x : Bool) (n : Nat) : Held b₀ ({ s with pmb := { s.pmb with released := x, seen := n } } : State) :=
  ⟨h.mode, h.st, h.stop⟩
theorem State.pmbRound_held (s0 : State) (h : Held b₀ s) : Held b₀ (State.pmbRound s0 s) := by
  unfold State.pmbRound
  refine Held.ite h ?_
  have h1 : Held b₀ (s.onRails (fun s r => State.pmbRail s0 s r)) := Held.onRails h _ (fun _ _ hx => State.pmbRail_held _ _ hx)
  revert h1
  dsimp only
  generalize s.onRails (fun s r => State.pmbRail s0 s r) = y
  intro h1
  have h2 : Held b₀ (y.when (y.flag F.JRN_STICKY_SLOT_BAD_S) (fun s => s.cml 16)) := h1.when _ _ (fun _ hx => hx.pmbBits _ _ _)
  exact h2.pmb _ _

theorem State.wasRound_held (s0 : State) (hh : Held b₀ s) : Held b₀ (State.wasRound s0 s) := by
  unfold State.wasRound
  repeat' first
   | with_reducible assumption | intro _ | with_reducible apply Held.modFr | with_reducible apply Held.onRails
   | with_reducible apply Held.ite | with_reducible apply Held.foldl | split | rfl


/-! ## The rounds -/

theorem State.stopRound_held (h : s.pow.stopSet = 0) : Held s s.stopRound := by
  have : s.stopRound = { s with pow.stopSet := 0 } := by
    simp [State.stopRound, h, allRails]
  rw [this]
  exact ⟨rfl, fun _ => rfl, h.symm⟩
theorem State.spanRail_none (h : s.flag F.CJ_CFG_CJ_EN = false) : s.spanRail = none := by
  simp [State.spanRail, h]
theorem State.cjRound_none (s0 : State) (h : s.flag F.CJ_CFG_CJ_EN = false) : State.cjRound s0 s = s := by
  unfold State.cjRound
  rw [State.spanRail_none h]

/-- The mode is as before. -/
def SameMode (b s : State) : Prop := s.mode = b.mode
theorem SameMode.foldl {α : Type} (f : State → α → State) (l : List α) (s : State) (h : SameMode b₀ s)
    (hf : ∀ x a, SameMode b₀ x → SameMode b₀ (f x a)) : SameMode b₀ (l.foldl f s) := by
  induction l generalizing s with
  | nil => exact h
  | cons a l ih => exact ih _ (hf _ _ h)
theorem SameMode.ite {x y : State} {c : Prop} [Decidable c] (hx : SameMode b₀ x) (hy : SameMode b₀ y) : SameMode b₀ (if c then x else y) := by
  split <;> assumption
theorem SameMode.of (h : SameMode b₀ s) {x : State} (e : x.mode = s.mode) : SameMode b₀ x := e.trans h
/-- A property that the updates which make up `setRail` keep holds after it. -/
theorem State.setRail_ind {P : State → Prop} (r : Fin 8) (st : RailState) (h0 : P (s.modRail r (fun x => { x with st := st })))
    (hf : ∀ x g, P x → P (x.modFr r g)) (hw : ∀ x n w, P x → P (x.setSw n w))
    (hp : ∀ x, P x → P (x.clear F.RP_STATUS_PGOOD_ST r)) (hu : ∀ x, P x → P (x.clear F.RP_STATUS_UV_RD r)) : P (s.setRail r st) := by
  have hl : ∀ (w : Sw) (l : List (Fin 32)) (x : State), P x →
      P (l.foldl (fun s n => if (s.ph n).sw == .stopped then s else s.setSw n w) x) := by
    intro w l
    induction l with
    | nil => exact fun _ h => h
    | cons a l ih => exact fun x h => ih _ (by dsimp only; split; exacts [h, hw _ _ _ h])
  have hi : ∀ (c : Prop) [Decidable c] (x y : State), P x → P y → P (if c then x else y) := by
    intro c _ x y h g; split; exacts [h, g]
  unfold State.setRail State.leftStart
  dsimp only
  repeat' first | exact h0 | apply hi | apply hf | apply hp | apply hu | apply hl
theorem State.setRail_mode (r : Fin 8) (st : RailState) : (s.setRail r st).mode = s.mode :=
  State.setRail_ind (P := fun x => x.mode = s.mode) r st rfl (fun _ _ h => h) (fun _ _ _ h => h) (fun _ h => h) (fun _ h => h)
theorem State.arm_mode (r : Fin 8) : (s.arm r).mode = s.mode := by
  unfold State.arm
  exact State.setRail_mode (s := s) r .armed
theorem State.armRound_mode : s.armRound.mode = s.mode :=
  SameMode.foldl (b₀ := s) _ _ _ rfl (fun _ a hx => SameMode.ite ((State.arm_mode a).trans hx) hx)
theorem State.shedRound_mode : s.shedRound.mode = s.mode :=
  SameMode.foldl (b₀ := s) _ _ _ rfl (fun _ _ hx => SameMode.ite hx hx)
theorem State.softStop_mode (r : Fin 8) (k : StopKind) (c : Nat) : (s.softStop r k c).mode = s.mode := by
  have h : (s.setRail r .rampdown).mode = s.mode := State.setRail_mode r .rampdown
  unfold State.softStop
  revert h
  generalize s.setRail r .rampdown = x
  intro h
  split <;> first | exact h | rfl
theorem State.stopRound_mode : s.stopRound.mode = s.mode := by
  unfold State.stopRound
  dsimp only
  split
  · split
    · rfl
    · exact State.softStop_mode _ _ _
  · rfl

/-- The modes that no round of the end of an update leaves. -/
def Mode.steady : Mode → Bool
  | .precheck | .softstart | .regulate | .shed | .hiccup => false
  | _ => true

theorem settle_mode (s0 : State) (hw : s.pow.wantSafestopClr = false) (hc : s.flag F.CJ_CFG_CJ_EN = false) (hm : s.mode.steady) :
    (settle s0 s).mode = s.mode := by
  unfold settle
  have hc1 : s.stopRound.flag F.CJ_CFG_CJ_EN = false := by
    rw [← hc]; unfold State.flag
    rw [(State.stopRound_framed (Framed.refl s)).get _ _ (by decide)]
  rw [State.cjRound_none _ hc1]
  have f1 : Framed s s.stopRound.packRound := State.packRound_framed (State.stopRound_framed (Framed.refl s))
  have e1 : s.stopRound.packRound.mode = s.mode := (State.packRound_held (Held.refl _)).mode.trans State.stopRound_mode
  have w1 : s.stopRound.packRound.pow.wantSafestopClr = false := by
    have := congrArg (fun x : State => x.pow.wantSafestopClr) f1.rest
    exact (show _ = s.pow.wantSafestopClr from this).trans hw
  revert e1 w1
  generalize s.stopRound.packRound = y
  intro e1 w1
  have e2 : y.clrRound = y := by unfold State.clrRound; rw [w1]; rfl
  rw [e2]
  have e3 : y.armRound.mode = s.mode := State.armRound_mode.trans e1
  have e4 : y.armRound.precheckRound = y.armRound := by
    unfold State.precheckRound
    have : (y.armRound.mode == .precheck) = false := by rw [e3]; revert hm; cases s.mode <;> simp [Mode.steady]
    simp [this]
  rw [e4]
  have e5 : y.armRound.shedRound.mode = s.mode := State.shedRound_mode.trans e3
  have e6 : y.armRound.shedRound.modeRound = y.armRound.shedRound := by
    unfold State.modeRound
    rw [e5]
    revert hm; cases s.mode <;> simp [Mode.steady]
  rw [e6]
  refine (State.creditRound_held (State.noteRound_held _ (State.mirrorRound_held _ (State.pmbRound_held _
    (State.wasRound_held _ (State.clampRound_held (State.hintRound_held (Held.refl _)))))))).mode.trans e5

theorem State.setRail_st_other (r q : Fin 8) (st : RailState) (h : q ≠ r) : (s.setRail r st).st q = s.st q :=
  State.setRail_ind (P := fun x => x.st q = s.st q) r st (by simp only [State.st, State.rail_modRail_of_ne _ _ _ _ h])
    (fun x g hx => by rw [← hx]; simp only [State.st, State.modFr, State.rail_modRail_of_ne _ _ _ _ h])
    (fun _ _ _ hx => hx) (fun _ hx => hx) (fun _ hx => hx)
theorem State.setRail_st (r : Fin 8) (st : RailState) : (s.setRail r st).st r = st :=
  State.setRail_ind (P := fun x => x.st r = st) r st (by simp [State.st])
    (fun x g hx => by rw [← hx]; simp [State.st, State.modFr]) (fun _ _ _ hx => hx) (fun _ hx => hx) (fun _ hx => hx)

/-- Whether a rail may arm depends on what the end of an update keeps, the mode and the rail's state. -/
theorem State.mayArm_congr {b x : State} (r : Fin 8) (h : Framed b x) (hm : x.mode = b.mode) (hs : x.st r = b.st r) :
    x.mayArm r = b.mayArm r := by
  have e1 : x.pow.en = b.pow.en := by have := congrArg (fun y : State => y.pow.en) h.rest; exact this
  have e2 : x.pow.noArm = b.pow.noArm := by have := congrArg (fun y : State => y.pow.noArm) h.rest; exact this
  have e3 : x.pow.vddActs = b.pow.vddActs := by have := congrArg (fun y : State => y.pow.vddActs) h.rest; exact this
  have e4 : x.cj.refused = b.cj.refused := by have := congrArg (fun y : State => y.cj.refused) h.rest; exact this
  have e5 : x.flag F.RP_STATUS_PRE_HOLD r = b.flag F.RP_STATUS_PRE_HOLD r := by
    unfold State.flag
    rw [h.get _ _ ((by decide : ∀ r : Fin 8, settleKey (F.RP_STATUS_PRE_HOLD.key r) = false) r)]
  have e6 : x.flag F.MODE_STATUS_SHUTDOWN_ACT = b.flag F.MODE_STATUS_SHUTDOWN_ACT := by
    unfold State.flag
    rw [h.get _ _ (by decide)]
  have e7 : x.regionOf r = b.regionOf r := by unfold State.regionOf; rw [h.cfg r]
  have e8 : x.pow.en[x.regionOf r] = b.pow.en[b.regionOf r] := by rw [e1]; simp only [e7]
  unfold State.mayArm
  rw [h.cfg r, hs, hm, e2, e3, e4, e5, e6, e8]

theorem State.arm_st_other (r q : Fin 8) (h : q ≠ r) : (s.arm r).st q = s.st q := by
  unfold State.arm
  have : ((s.setRail r .armed).setSen r true).st q = s.st q := State.setRail_st_other r q .armed h
  rw [← this]
  simp only [State.st, State.modFr, State.rail_modRail_of_ne _ _ _ _ h]

theorem State.armRound_st (r : Fin 8) (h : s.mayArm r = false) : s.armRound.st r = s.st r := by
  suffices ∀ (l : List (Fin 8)) (x : State), (Framed s x ∧ x.mode = s.mode ∧ x.st r = s.st r) →
      (l.foldl (fun s r => if s.mayArm r then s.arm r else s) x).st r = s.st r from this _ s ⟨Framed.refl s, rfl, rfl⟩
  intro l
  induction l with
  | nil => exact fun x hx => hx.2.2
  | cons a l ih =>
    intro x ⟨f, m, e⟩
    refine ih _ ?_
    dsimp only
    by_cases ha : x.mayArm a = true
    · rw [if_pos ha]
      have hne : r ≠ a := by
        rintro rfl
        rw [State.mayArm_congr r f m e, h] at ha
        cases ha
      exact ⟨State.arm_framed a f, (State.arm_mode a).trans m, (State.arm_st_other a r hne).trans e⟩
    · rw [if_neg ha]
      exact ⟨f, m, e⟩

theorem State.shedRound_st (r : Fin 8) (h1 : s.st r ≠ .reg) (h2 : s.st r ≠ .shed) : s.shedRound.st r = s.st r := by
  suffices ∀ (l : List (Fin 8)) (x : State), x.st r = s.st r → (l.foldl (fun s r =>
      let want := if !(s.idleOf r).isEmpty || s.flag F.PHC_STATUS_DE_ACT r then RailState.shed else RailState.reg
      if (s.st r == .reg || s.st r == .shed) && s.st r != want then s.modRail r (fun x => { x with st := want }) else s) x).st r = s.st r
    from this _ s rfl
  intro l
  induction l with
  | nil => exact fun x hx => hx
  | cons a l ih =>
    intro x e
    refine ih _ ?_
    dsimp only
    by_cases hne : r = a
    · subst hne
      simp [e, h1, h2]
    · rw [← e]
      generalize (if (!(x.idleOf a).isEmpty || x.flag F.PHC_STATUS_DE_ACT a) = true then RailState.shed else RailState.reg) = w
      split
      · simp only [State.st, State.rail_modRail_of_ne _ _ _ _ hne]
      · rfl

theorem State.raise_st (front : Bool) (code unit : Nat) (items : List (Nat × Int)) (c : React) (r : Fin 8) :
    (s.raise front code unit items c).st r = s.st r := (State.raise_held front code unit items c (Held.refl s)).st r
theorem State.enter_st (n : Nat) (m : Mode) (r : Fin 8) : (s.enter n m).st r = s.st r := by
  unfold State.enter
  exact (State.raise_st _ _ _ _ _ _).trans rfl

theorem State.precheckRound_st (r : Fin 8) : s.precheckRound.st r = s.st r := by
  unfold State.precheckRound
  by_cases h1 : (s.mode == .precheck && s.pow.voted && allRails.all (fun r => s.st r != .armed || (s.fr r).tested)) = true
  · rw [if_pos h1]
    by_cases h2 : allRails.any (fun r => s.st r == .armed) = true
    · rw [if_pos h2, State.enter_st]
    · rw [if_neg h2, State.enter_st]
  · rw [if_neg h1]
theorem State.modeRound_st (r : Fin 8) : s.modeRound.st r = s.st r := by
  unfold State.modeRound
  have h : ∀ (c : Bool) (n : Nat), (if c then s else s.enter n s.runningMode).st r = s.st r := by
    intro c n
    cases c
    · rw [if_neg (by decide), State.enter_st]
    · rw [if_pos rfl]
  cases s.mode with
  | regulate => exact h _ _
  | shed => exact h _ _
  | hiccup => exact h _ _
  | softstart => exact h _ _
  | _ => rfl

/-- The end of an update keeps the state of a rail that neither arms nor stands in REG or SHED, while no ordered stop runs. -/
theorem settle_st (s0 : State) (r : Fin 8) (hw : s.pow.wantSafestopClr = false) (hc : s.flag F.CJ_CFG_CJ_EN = false)
    (hs : s.pow.stopSet = 0) (ha : s.mayArm r = false) (h1 : s.st r ≠ .reg) (h2 : s.st r ≠ .shed) :
    (settle s0 s).st r = s.st r := by
  unfold settle
  have hc1 : s.stopRound.flag F.CJ_CFG_CJ_EN = false := by
    rw [← hc]; unfold State.flag
    rw [(State.stopRound_framed (Framed.refl s)).get _ _ (by decide)]
  rw [State.cjRound_none _ hc1]
  have f1 : Framed s s.stopRound.packRound := State.packRound_framed (State.stopRound_framed (Framed.refl s))
  have e1 : Held s s.stopRound.packRound := State.packRound_held (State.stopRound_held hs)
  have w1 : s.stopRound.packRound.pow.wantSafestopClr = false := by
    have := congrArg (fun x : State => x.pow.wantSafestopClr) f1.rest
    exact (show _ = s.pow.wantSafestopClr from this).trans hw
  revert f1 e1 w1
  generalize s.stopRound.packRound = y
  intro f1 e1 w1
  have e2 : y.clrRound = y := by unfold State.clrRound; rw [w1]; rfl
  rw [e2]
  have e3 : y.armRound.st r = s.st r :=
    (State.armRound_st r ((State.mayArm_congr r f1 e1.mode (e1.st r)).trans ha)).trans (e1.st r)
  have e4 : y.armRound.precheckRound.st r = s.st r := (State.precheckRound_st r).trans e3
  have e5 : y.armRound.precheckRound.shedRound.st r = s.st r :=
    (State.shedRound_st r (by rw [e4]; exact h1) (by rw [e4]; exact h2)).trans e4
  revert e5
  generalize y.armRound.precheckRound.shedRound = z
  intro e5
  have e6 : z.modeRound.st r = s.st r := (State.modeRound_st r).trans e5
  revert e6
  generalize z.modeRound = v
  intro e6
  exact ((State.creditRound_held (State.noteRound_held _ (State.mirrorRound_held _ (State.pmbRound_held _
    (State.wasRound_held _ (State.clampRound_held (State.hintRound_held (Held.refl v)))))))).st r).trans e6

theorem run_settled (t : Nat) (f : State → State) (u : State) (h : run t f s = .next u) :
    ∃ x, x = settle (s.at t) (f (s.at t)) ∧ u.mode = x.mode ∧ ∀ r, u.st r = x.st r := by
  cases h
  refine ⟨_, rfl, ?_⟩
  generalize settle (s.at t) (f (s.at t)) = x
  exact ⟨rfl, fun _ => rfl⟩
/-- What `run` makes of the mode. -/
theorem run_mode (t : Nat) (f : State → State) (u : State) (h : run t f s = .next u) (hw : (f (s.at t)).pow.wantSafestopClr = false)
    (hc : (f (s.at t)).flag F.CJ_CFG_CJ_EN = false) (hm : (f (s.at t)).mode.steady) : u.mode = (f (s.at t)).mode := by
  obtain ⟨x, hx, h1, -⟩ := run_settled t f u h
  rw [h1, hx, settle_mode _ hw hc hm]
/-- What `run` makes of the state of a rail. -/
theorem run_st (t : Nat) (f : State → State) (u : State) (r : Fin 8) (h : run t f s = .next u)
    (hw : (f (s.at t)).pow.wantSafestopClr = false) (hc : (f (s.at t)).flag F.CJ_CFG_CJ_EN = false)
    (hs : (f (s.at t)).pow.stopSet = 0) (ha : (f (s.at t)).mayArm r = false) (h1 : (f (s.at t)).st r ≠ .reg)
    (h2 : (f (s.at t)).st r ≠ .shed) : u.st r = (f (s.at t)).st r := by
  obtain ⟨x, hx, -, h4⟩ := run_settled t f u h
  rw [h4, hx, settle_st _ r hw hc hs ha h1 h2]


end Sys2Proof.Machine
end

