-- ==== Sys2Proof/Laws/Records.lean ====
section
/-!
SUPPORT. What recording an event (`raise`, `logC`, `logF`) leaves: every part but the registers and the recorder's paths, every
register field outside the PMBus status; what it does: a Control-die event is on its way.
-/
namespace Sys2Proof.Machine

/-- `s` is `b` but for its registers and the recorder's paths. -/
def Told (b s : State) : Prop :=
  s = { b with regs := s.regs, rcd := { b.rcd with c1q := s.rcd.c1q, evq := s.rcd.evq, wins := s.rcd.wins } }
theorem Told.set {b s : State} (h : Told b s) (f : Fld) (i v : Nat) : Told b (s.set f i v) := by
  unfold Told at h ⊢
  have : s.set f i v = { s with regs := (s.set f i v).regs } := rfl
  rw [this]
  generalize (s.set f i v).regs = m
  rw [h]
theorem Told.queue {b s : State} (h : Told b s) (q : List C1) (e : List Evt) (w : List RateWin) :
    Told b { s with rcd := { s.rcd with c1q := q, evq := e, wins := w } } := by
  unfold Told at h ⊢
  rw [h]
theorem Told.ite {b x y : State} {c : Prop} [Decidable c] (hx : Told b x) (hy : Told b y) : Told b (if c then x else y) := by
  split <;> assumption
theorem Told.bits {b : State} (f : Fld) (v : Nat) (l : List Nat) (s : State) (h : Told b s) :
    Told b (l.foldl (fun s r => s.pmbBits f r v) s) := by
  induction l generalizing s with
  | nil => exact h
  | cons a l ih => exact ih _ (h.set _ _ _)
theorem Told.emit {b s : State} (h : Told b s) (e : Evt) (c : React) : Told b (s.emit e c) := by
  unfold State.emit
  dsimp only
  split
  · split
    · split
      · exact h.queue _ _ _
      · exact h
    · exact h.queue _ _ _
  · exact h.queue _ _ _
theorem Told.pmbRec {b s : State} (h : Told b s) (code unit : Nat) (items : List (Nat × Int)) : Told b (s.pmbRec code unit items) := by
  unfold State.pmbRec
  dsimp only
  repeat' first
    | with_reducible assumption | with_reducible apply Told.ite | with_reducible apply Told.bits | exact (h.set _ _ _).set _ _ _
    | exact h.set _ _ _
/-- An event changes only registers and the paths into the recorder. -/
theorem State.raise_told (s : State) (front : Bool) (code unit : Nat) (items : List (Nat × Int)) (c : React) :
    Told s (s.raise front code unit items c) := by
  unfold State.raise
  have h0 : Told s s := by unfold Told; rfl
  have h : Told s (s.pmbRec code unit items) := h0.pmbRec code unit items
  exact Told.ite (Told.ite (h.queue _ _ _) ((h.queue _ _ _).emit _ _)) (h.emit _ _)

@[simp] theorem State.raise_now (s : State) (front : Bool) (code unit : Nat) (items : List (Nat × Int)) (c : React) :
    (s.raise front code unit items c).now = s.now := by rw [State.raise_told]
@[simp] theorem State.raise_pending (s : State) (front : Bool) (code unit : Nat) (items : List (Nat × Int)) (c : React) :
    (s.raise front code unit items c).pending = s.pending := by rw [State.raise_told]
@[simp] theorem State.raise_cz1604 (s : State) (front : Bool) (code unit : Nat) (items : List (Nat × Int)) (c : React) :
    (s.raise front code unit items c).cz1604 = s.cz1604 := by rw [State.raise_told]
@[simp] theorem State.raise_mode (s : State) (front : Bool) (code unit : Nat) (items : List (Nat × Int)) (c : React) :
    (s.raise front code unit items c).mode = s.mode := by rw [State.raise_told]
@[simp] theorem State.raise_img (s : State) (front : Bool) (code unit : Nat) (items : List (Nat × Int)) (c : React) :
    (s.raise front code unit items c).img = s.img := by rw [State.raise_told]
@[simp] theorem State.raise_pow (s : State) (front : Bool) (code unit : Nat) (items : List (Nat × Int)) (c : React) :
    (s.raise front code unit items c).pow = s.pow := by rw [State.raise_told]
@[simp] theorem State.raise_br (s : State) (front : Bool) (code unit : Nat) (items : List (Nat × Int)) (c : React) :
    (s.raise front code unit items c).br = s.br := by rw [State.raise_told]
@[simp] theorem State.raise_par (s : State) (front : Bool) (code unit : Nat) (items : List (Nat × Int)) (c : React) :
    (s.raise front code unit items c).par = s.par := by rw [State.raise_told]
@[simp] theorem State.raise_sets (s : State) (front : Bool) (code unit : Nat) (items : List (Nat × Int)) (c : React) :
    (s.raise front code unit items c).sets = s.sets := by rw [State.raise_told]
@[simp] theorem State.raise_mirPh (s : State) (front : Bool) (code unit : Nat) (items : List (Nat × Int)) (c : React) :
    (s.raise front code unit items c).mirPh = s.mirPh := by rw [State.raise_told]
@[simp] theorem State.raise_mirRail (s : State) (front : Bool) (code unit : Nat) (items : List (Nat × Int)) (c : React) :
    (s.raise front code unit items c).mirRail = s.mirRail := by rw [State.raise_told]
@[simp] theorem State.raise_phases (s : State) (front : Bool) (code unit : Nat) (items : List (Nat × Int)) (c : React) :
    (s.raise front code unit items c).phases = s.phases := by rw [State.raise_told]
@[simp] theorem State.raise_rails (s : State) (front : Bool) (code unit : Nat) (items : List (Nat × Int)) (c : React) :
    (s.raise front code unit items c).rails = s.rails := by rw [State.raise_told]
@[simp] theorem State.raise_ports (s : State) (front : Bool) (code unit : Nat) (items : List (Nat × Int)) (c : React) :
    (s.raise front code unit items c).ports = s.ports := by rw [State.raise_told]
@[simp] theorem State.raise_spi (s : State) (front : Bool) (code unit : Nat) (items : List (Nat × Int)) (c : React) :
    (s.raise front code unit items c).spi = s.spi := by rw [State.raise_told]
@[simp] theorem State.raise_pmb (s : State) (front : Bool) (code unit : Nat) (items : List (Nat × Int)) (c : React) :
    (s.raise front code unit items c).pmb = s.pmb := by rw [State.raise_told]
@[simp] theorem State.raise_cj (s : State) (front : Bool) (code unit : Nat) (items : List (Nat × Int)) (c : React) :
    (s.raise front code unit items c).cj = s.cj := by rw [State.raise_told]
@[simp] theorem State.raise_otp (s : State) (front : Bool) (code unit : Nat) (items : List (Nat × Int)) (c : React) :
    (s.raise front code unit items c).otp = s.otp := by rw [State.raise_told]
@[simp] theorem State.raise_sec (s : State) (front : Bool) (code unit : Nat) (items : List (Nat × Int)) (c : React) :
    (s.raise front code unit items c).sec = s.sec := by rw [State.raise_told]
@[simp] theorem State.raise_tlm (s : State) (front : Bool) (code unit : Nat) (items : List (Nat × Int)) (c : React) :
    (s.raise front code unit items c).tlm = s.tlm := by rw [State.raise_told]
@[simp] theorem State.raise_jrn (s : State) (front : Bool) (code unit : Nat) (items : List (Nat × Int)) (c : React) :
    (s.raise front code unit items c).jrn = s.jrn := by rw [State.raise_told]
@[simp] theorem State.raise_pk (s : State) (front : Bool) (code unit : Nat) (items : List (Nat × Int)) (c : React) :
    (s.raise front code unit items c).pk = s.pk := by rw [State.raise_told]
@[simp] theorem State.raise_th (s : State) (front : Bool) (code unit : Nat) (items : List (Nat × Int)) (c : React) :
    (s.raise front code unit items c).th = s.th := by rw [State.raise_told]
@[simp] theorem State.raise_ctx0 (s : State) (front : Bool) (code unit : Nat) (items : List (Nat × Int)) (c : React) :
    (s.raise front code unit items c).ctx0 = s.ctx0 := by rw [State.raise_told]
@[simp] theorem State.raise_ctxs (s : State) (front : Bool) (code unit : Nat) (items : List (Nat × Int)) (c : React) :
    (s.raise front code unit items c).ctxs = s.ctxs := by rw [State.raise_told]
@[simp] theorem State.raise_rings (s : State) (front : Bool) (code unit : Nat) (items : List (Nat × Int)) (c : React) :
    (s.raise front code unit items c).rings = s.rings := by rw [State.raise_told]
@[simp] theorem State.raise_code (s : State) (front : Bool) (code unit : Nat) (items : List (Nat × Int)) (c : React) :
    (s.raise front code unit items c).code = s.code := by rw [State.raise_told]
@[simp] theorem State.raise_entry (s : State) (front : Bool) (code unit : Nat) (items : List (Nat × Int)) (c : React) :
    (s.raise front code unit items c).entry = s.entry := by rw [State.raise_told]
@[simp] theorem State.raise_rcd_intake (s : State) (front : Bool) (code unit : Nat) (items : List (Nat × Int)) (c : React) :
    (s.raise front code unit items c).rcd.intake = s.rcd.intake := by rw [State.raise_told]
@[simp] theorem State.raise_rcd_recs (s : State) (front : Bool) (code unit : Nat) (items : List (Nat × Int)) (c : React) :
    (s.raise front code unit items c).rcd.recs = s.rcd.recs := by rw [State.raise_told]
@[simp] theorem State.raise_rcd_seq (s : State) (front : Bool) (code unit : Nat) (items : List (Nat × Int)) (c : React) :
    (s.raise front code unit items c).rcd.seq = s.rcd.seq := by rw [State.raise_told]
@[simp] theorem State.raise_rcd_spi (s : State) (front : Bool) (code unit : Nat) (items : List (Nat × Int)) (c : React) :
    (s.raise front code unit items c).rcd.spi = s.rcd.spi := by rw [State.raise_told]
@[simp] theorem State.raise_rcd_pmb (s : State) (front : Bool) (code unit : Nat) (items : List (Nat × Int)) (c : React) :
    (s.raise front code unit items c).rcd.pmb = s.rcd.pmb := by rw [State.raise_told]

/-- The codes whose status bits Table 16.4 gives to the page that the event names. -/
def pageCodes : List Nat := [0x0901, 0x0A03, 0x0A04, 0x0A05, 0x0A06, 0x0B08]
/-- An event names a page by its unit below 8, or none. -/
def pageOk (code unit : Nat) : Bool := !pageCodes.contains code || (code != 0x0901 && decide (unit < 8))

theorem State.pmbRec_only {b s : State} {code unit : Nat} (items : List (Nat × Int)) (hc : pageOk code unit = true) (h : Framed b s) :
    Framed b (s.pmbRec code unit items) := by
  have hu : code ∈ pageCodes → code ≠ 0x0901 ∧ unit < 8 := by
    intro hm
    simpa [pageOk, hm] using hc
  unfold State.pmbRec
  dsimp only
  refine Framed.ite' (fun hc => ?_) (fun _ => Framed.ite' (fun hc => ?_) (fun _ => Framed.ite' (fun hc => ?_) (fun _ =>
    Framed.ite (pmbAll_framed _ (by decide) rfl h) (Framed.ite (Framed.ite (pmbAll_framed _ (by decide) rfl h)
      (Framed.ite (pmbAll_framed _ (by decide) rfl h) h)) (Framed.ite' (fun hc => ?_) (fun _ => Framed.ite' (fun hc => ?_) (fun _ =>
        Framed.ite' (fun hc => ?_) (fun _ => Framed.ite (pmbAll_framed _ (by decide) rfl h) h))))))))
  · have := (hu (by rcases hc with rfl | rfl <;> decide)).2
    exact (h.pmbBits _ (touch (by decide) this)).pmbBits _ (touch (by decide) this)
  · have := (hu (by subst hc; decide)).2
    exact (h.pmbBits _ (touch (by decide) this)).pmbBits _ (touch (by decide) this)
  · have := (hu (by subst hc; decide)).2
    exact Framed.ite (h.pmbBits _ (touch (by decide) this)) h
  · exact absurd hc (hu (by subst hc; decide)).1
  · exact h.pmbBits _ (touch (by decide) (Fin.isLt _))
  · have := (hu (by subst hc; decide)).2
    exact h.pmbBits _ (touch (by decide) this)

/-- An event that names its page rightly changes only what the end of an update may write. -/
theorem State.raise_only (s : State) (front : Bool) {code unit : Nat} (items : List (Nat × Int)) (c : React) (hc : pageOk code unit = true) :
    Framed s (s.raise front code unit items c) := by
  unfold State.raise
  have h := State.pmbRec_only items hc (Framed.refl s)
  exact Framed.ite (Framed.ite ⟨h.rest, h.regs, h.evq⟩ (State.emit_framed _ _ ⟨h.rest, h.regs, h.evq⟩)) (State.emit_framed _ _ h)
theorem State.logC_only (s : State) {code unit : Nat} (items : List (Nat × Int)) (hc : pageOk code unit = true) :
    Framed s (s.logC code unit items) := State.raise_only s _ _ _ hc
theorem State.logF_only (s : State) {code unit : Nat} (items : List (Nat × Int)) (c : React) (hc : pageOk code unit = true) :
    Framed s (s.logF code unit items c) := State.raise_only s _ _ _ hc

/-- A Control-die event that is not rate-limited is on its way. -/
theorem State.logC_records (s : State) {code : Nat} (unit : Nat) (items : List (Nat × Int)) (hc : rateLimited.contains code = false) :
    (s.logC code unit items).Records code := by
  refine ⟨s.stamp false code unit items, ?_, rfl⟩
  have e : s.logC code unit items = (s.pmbRec code unit items).emit (s.stamp false code unit items) .none := by
    unfold State.logC State.raise
    rw [hc]; rfl
  rw [e]
  unfold State.emit
  exact List.mem_append_right _ (List.mem_singleton.2 rfl)
theorem Framed.records {b s : State} {code : Nat} (h : Framed b s) (hr : b.Records code) : s.Records code := by
  obtain ⟨e, he, hc⟩ := hr
  exact ⟨e, h.evq.subset he, hc⟩

theorem State.put_rest {x u b c : State} (h : Framed x u) (hb : b.rest = c.rest) (p : Part) : (State.put u b p).rest = (State.put x c p).rest := by
  have set8 : ∀ (v w : Vector Rail 8) (r : Fin 8) (y z : Rail), v.map Rail.rest = w.map Rail.rest → y.rest = z.rest →
      (v.set r y).map Rail.rest = (w.set r z).map Rail.rest := by
    intro v w r y z hv hy
    rw [Vector.map_set, Vector.map_set, hv, hy]
  have set32 : ∀ (v w : Vector Phase 32) (r : Fin 32) (y z : Phase), v.map Phase.rest = w.map Phase.rest → y.rest = z.rest →
      (v.set r y).map Phase.rest = (w.set r z).map Phase.rest := by
    intro v w r y z hv hy
    rw [Vector.map_set, Vector.map_set, hv, hy]
  have set2 : ∀ (v w : Vector Port 2) (r : Fin 2) (y z : Port), v.map Port.rest = w.map Port.rest → y.rest = z.rest →
      (v.set r y).map Port.rest = (w.set r z).map Port.rest := by
    intro v w r y z hv hy
    rw [Vector.map_set, Vector.map_set, hv, hy]
  cases p with
  | pow =>
    have e : u.rest.pow = x.rest.pow := by rw [h.rest]
    show ({ b.rest with pow := u.rest.pow } : State) = { c.rest with pow := x.rest.pow }
    rw [hb, e]
  | br => show ({ b.rest with br := u.br } : State) = { c.rest with br := x.br }; rw [hb, h.br]
  | par => show ({ b.rest with par := u.par } : State) = { c.rest with par := x.par }; rw [hb, h.par]
  | sets => show ({ b.rest with sets := u.sets } : State) = { c.rest with sets := x.sets }; rw [hb, h.sets]
  | img => show ({ b.rest with img := u.img } : State) = { c.rest with img := x.img }; rw [hb, h.img]
  | rcd =>
    have e : u.rest.rcd = x.rest.rcd := by rw [h.rest]
    show ({ b.rest with rcd := u.rest.rcd } : State) = { c.rest with rcd := x.rest.rcd }
    rw [hb, e]
  | spi => show ({ b.rest with spi := u.spi } : State) = { c.rest with spi := x.spi }; rw [hb, h.spi]
  | pmb =>
    have e : u.rest.pmb = x.rest.pmb := by rw [h.rest]
    show ({ b.rest with pmb := u.rest.pmb } : State) = { c.rest with pmb := x.rest.pmb }
    rw [hb, e]
  | cj =>
    have e : u.rest.cj = x.rest.cj := by rw [h.rest]
    show ({ b.rest with cj := u.rest.cj } : State) = { c.rest with cj := x.rest.cj }
    rw [hb, e]
  | otp => show ({ b.rest with otp := u.otp } : State) = { c.rest with otp := x.otp }; rw [hb, h.otp]
  | sec => show ({ b.rest with sec := u.sec } : State) = { c.rest with sec := x.sec }; rw [hb, h.sec]
  | tlm => show ({ b.rest with tlm := u.tlm } : State) = { c.rest with tlm := x.tlm }; rw [hb, h.tlm]
  | jrn => show ({ b.rest with jrn := u.jrn } : State) = { c.rest with jrn := x.jrn }; rw [hb, h.jrn]
  | pk =>
    have e : u.rest.pk = x.rest.pk := by rw [h.rest]
    show ({ b.rest with pk := u.rest.pk } : State) = { c.rest with pk := x.rest.pk }
    rw [hb, e]
  | th => show ({ b.rest with th := u.th } : State) = { c.rest with th := x.th }; rw [hb, h.th]
  | ctxs => show ({ b.rest with ctx0 := u.ctx0 } : State) = { c.rest with ctx0 := x.ctx0 }; rw [hb, h.ctx0]
  | rings => show ({ b.rest with rings := u.rings } : State) = { c.rest with rings := x.rings }; rw [hb, h.rings]
  | code => show ({ b.rest with code := u.code, entry := u.entry } : State) = { c.rest with code := x.code, entry := x.entry }; rw [hb, h.code, h.entry]
  | rails =>
    have e : u.rest.rails = x.rest.rails := by rw [h.rest]
    show ({ b.rest with rails := u.rest.rails } : State) = { c.rest with rails := x.rest.rails }
    rw [hb, e]
  | phases =>
    have e : u.rest.phases = x.rest.phases := by rw [h.rest]
    show ({ b.rest with phases := u.rest.phases } : State) = { c.rest with phases := x.rest.phases }
    rw [hb, e]
  | ports =>
    have e : u.rest.ports = x.rest.ports := by rw [h.rest]
    show ({ b.rest with ports := u.rest.ports } : State) = { c.rest with ports := x.rest.ports }
    rw [hb, e]
  | rail r =>
    have e : b.rest.rails = c.rest.rails := by rw [hb]
    have := set8 b.rails c.rails r (u.rail r) (x.rail r) e (h.rail r)
    show ({ b.rest with rails := (b.rails.set r (u.rail r)).map Rail.rest } : State) = { c.rest with rails := (c.rails.set r (x.rail r)).map Rail.rest }
    rw [hb, this]
  | phase n =>
    have e : b.rest.phases = c.rest.phases := by rw [hb]
    have := set32 b.phases c.phases n (u.ph n) (x.ph n) e (h.ph n)
    show ({ b.rest with phases := (b.phases.set n (u.ph n)).map Phase.rest } : State) = { c.rest with phases := (c.phases.set n (x.ph n)).map Phase.rest }
    rw [hb, this]
  | port p =>
    have e : b.rest.ports = c.rest.ports := by rw [hb]
    have := set2 b.ports c.ports p (u.port p) (x.port p) e (h.port p)
    show ({ b.rest with ports := (b.ports.set p (u.port p)).map Port.rest } : State) = { c.rest with ports := (c.ports.set p (x.port p)).map Port.rest }
    rw [hb, this]
theorem State.puts_rest {x u : State} (h : Framed x u) (ps : List Part) (b c : State) (hb : b.rest = c.rest) :
    (State.puts u b ps).rest = (State.puts x c ps).rest := by
  induction ps generalizing b c with
  | nil => exact hb
  | cons p ps ih => exact ih _ _ (State.put_rest h hb p)

/-- From the frame of `settle` to the parts that a command changes. -/
theorem Framed.changes {x u s : State} {ps : List Part} {fs : List Fld} (h : Framed x u) (hx : Changes ps fs s x) : Changes ps fs s u :=
  ⟨by rw [h.rest, hx.rest, State.puts_rest h ps s s rfl], fun k h1 h2 => (h.regs k h2).trans (hx.regs k h1 h2)⟩

end Sys2Proof.Machine
end

