-- ==== Sys2Proof/Laws/Plain.lean ====
section
/-!
SUPPORT. The end of an update while no SAFESTOP_CLR waits, the Conjunction Link is off and no ordered stop runs: only the rails that
arm, the schedules, the pack's followers, the notices and the PMBus status change. `Plain` is what every round but arming keeps.
-/
namespace Sys2Proof.Machine
set_option linter.unusedTactic false
set_option linter.unreachableTactic false

/-- The register fields that such an end of an update may write. -/
def plainFields : List Fld :=
  [F.AL_STATUS_CRED, F.AL_STICKY_NOTE_LOST, F.MODE_STATUS_LAST_TRANS, F.MODE_STATUS_PREV_MODE, F.PK_STATE_CHG_ST, F.PK_STATE_HU_ON,
   F.PK_STATE_TEST_ACT, F.PMB_RSTAT2_STATUS_INPUT, F.PMB_RSTAT2_STATUS_MFR, F.PMB_RSTAT2_STATUS_TEMP, F.PMB_RSTAT_STATUS_IOUT,
   F.PMB_RSTAT_STATUS_VOUT, F.PMB_RSTAT_STATUS_WORD, F.PMB_STATUS_STATUS_CML, F.RP_STATUS_PGOOD_ST, F.RP_STATUS_UV_RD, F.SEN_CFG_SEN_STATE,
   F.TN_STAT_DISCARD_S, F.TN_STAT_F, F.TN_STAT_FF_CAP_S, F.TN_STAT_N_SCHED]
/-- A register key that such an end of an update may write. -/
def plainKey (k : Nat) : Bool := plainFields.any (fun f => f.hasKey k)
theorem plainFields_fit : plainFields.all Fld.fits = true := by decide
theorem plain {f : Fld} {i : Nat} (hf : f ∈ plainFields) (hi : i < f.count) : plainKey (f.key i) = true := by
  unfold plainKey
  exact List.any_eq_true.2 ⟨f, hf, Fld.hasKey_key f i (List.all_eq_true.1 plainFields_fit f hf) hi⟩

/-- A Front-die side but for the state that its rail left last. -/
def Front.now (f : Front) : Front := { f with was := .off, wasAt := 0 }
/-- The power sequencer but for the end of the last capacity test. -/
def Power.now (p : Power) : Power := { p with testEnd := 0 }
/-- Everything but the mode, rail states, schedules, ff, notices and `plainFields` is as before. -/
structure Plain (b s : State) : Prop where
  pow : s.pow.now = b.pow.now
  fr : ∀ r, (s.fr r).now = (b.fr r).now
  phases : s.phases = b.phases
  regs : ∀ k, plainKey k = false → s.regs.get k = b.regs.get k

variable {b₀ s : State}
theorem Plain.refl (b : State) : Plain b b := ⟨rfl, fun _ => rfl, rfl, fun _ _ => rfl⟩
theorem Plain.trans {a b c : State} (h : Plain a b) (g : Plain b c) : Plain a c :=
  ⟨g.pow.trans h.pow, fun r => (g.fr r).trans (h.fr r), g.phases.trans h.phases, fun k hk => (g.regs k hk).trans (h.regs k hk)⟩
theorem Plain.set (h : Plain b₀ s) {f : Fld} {i : Nat} (v : Nat) (hk : plainKey (f.key i) = true) : Plain b₀ (s.set f i v) :=
  ⟨h.pow, h.fr, h.phases, fun k hn => by
    have : k ≠ f.key i := fun e => by rw [e, hk] at hn; cases hn
    simp only [State.set]
    rw [Store.get_set_of_ne _ _ this, h.regs k hn]⟩
theorem Plain.setI (h : Plain b₀ s) {f : Fld} {i : Nat} (v : Int) (hk : plainKey (f.key i) = true) : Plain b₀ (s.setI f i v) := h.set _ hk
theorem Plain.mark (h : Plain b₀ s) {f : Fld} {i : Nat} (hk : plainKey (f.key i) = true) : Plain b₀ (s.mark f i) := h.set _ hk
theorem Plain.clear (h : Plain b₀ s) {f : Fld} {i : Nat} (hk : plainKey (f.key i) = true) : Plain b₀ (s.clear f i) := h.set _ hk
theorem Plain.setB (h : Plain b₀ s) {f : Fld} {i : Nat} (c : Bool) (hk : plainKey (f.key i) = true) : Plain b₀ (s.setB f i c) := h.set _ hk
theorem Plain.inc (h : Plain b₀ s) {f : Fld} {i : Nat} (hk : plainKey (f.key i) = true) : Plain b₀ (s.inc f i) := h.set _ hk
theorem Plain.pmbBits (h : Plain b₀ s) {f : Fld} {i : Nat} (v : Nat) (hk : plainKey (f.key i) = true) : Plain b₀ (s.pmbBits f i v) := h.set _ hk
theorem Plain.modRail (h : Plain b₀ s) (r : Fin 8) (f : Rail → Rail) (hf : ∀ x, (f x).fr.now = x.fr.now) : Plain b₀ (s.modRail r f) := by
  refine ⟨h.pow, fun q => ?_, h.phases, h.regs⟩
  rw [← h.fr q]
  by_cases hq : q = r
  · subst hq; simp [State.fr, hf]
  · simp only [State.fr, State.rail_modRail_of_ne _ _ _ _ hq]
theorem Plain.modFr (h : Plain b₀ s) (r : Fin 8) (f : Front → Front) (hf : ∀ x, (f x).now = x.now) : Plain b₀ (s.modFr r f) :=
  h.modRail r _ (fun x => hf x.fr)
theorem Plain.modEng (h : Plain b₀ s) (r : Fin 8) (f : Engine → Engine) : Plain b₀ (s.modEng r f) := h.modRail r _ (fun _ => rfl)
theorem Plain.modPort (h : Plain b₀ s) (p : Fin 2) (f : Port → Port) : Plain b₀ (s.modPort p f) := ⟨h.pow, h.fr, h.phases, h.regs⟩
theorem Plain.ite {x y : State} {c : Prop} [Decidable c] (hx : Plain b₀ x) (hy : Plain b₀ y) : Plain b₀ (if c then x else y) := by
  split <;> assumption
theorem Plain.ite' {x y : State} {c : Prop} [Decidable c] (hx : c → Plain b₀ x) (hy : ¬c → Plain b₀ y) : Plain b₀ (if c then x else y) := by
  split
  · exact hx ‹_›
  · exact hy ‹_›
theorem Plain.when (h : Plain b₀ s) (c : Bool) (f : State → State) (hf : ∀ x, Plain b₀ x → Plain b₀ (f x)) : Plain b₀ (s.when c f) := by
  unfold State.when; exact Plain.ite (hf _ h) h
theorem Plain.foldl {α : Type} (f : State → α → State) (l : List α) (s : State) (h : Plain b₀ s)
    (hf : ∀ x a, a ∈ l → Plain b₀ x → Plain b₀ (f x a)) : Plain b₀ (l.foldl f s) := by
  induction l generalizing s with
  | nil => exact h
  | cons a l ih => exact ih _ (hf _ _ (List.mem_cons_self ..) h) (fun x c hc => hf x c (List.mem_cons_of_mem _ hc))
theorem Plain.onRails (h : Plain b₀ s) (f : State → Fin 8 → State) (hf : ∀ x a, Plain b₀ x → Plain b₀ (f x a)) : Plain b₀ (s.onRails f) :=
  Plain.foldl _ _ _ h (fun x a _ => hf x a)

theorem State.emit_plain (e : Evt) (c : React) (h : Plain b₀ s) : Plain b₀ (s.emit e c) := by
  unfold State.emit
  dsimp only
  split
  · split
    · split
      · exact ⟨h.pow, h.fr, h.phases, h.regs⟩
      · exact h
    · exact ⟨h.pow, h.fr, h.phases, h.regs⟩
  · exact ⟨h.pow, h.fr, h.phases, h.regs⟩

theorem pmbAll_plain {f : Fld} (v : Nat) (hf : f ∈ plainFields) (hc : f.count = 8) (h : Plain b₀ s) :
    Plain b₀ ((List.range 8).foldl (fun s r => s.pmbBits f r v) s) :=
  Plain.foldl _ _ _ h (fun _ a ha hx => hx.pmbBits v (plain hf (by rw [hc]; exact List.mem_range.1 ha)))
theorem State.pmbRec_plain {code unit : Nat} (items : List (Nat × Int)) (hc : pageOk code unit = true) (h : Plain b₀ s) :
    Plain b₀ (s.pmbRec code unit items) := by
  have hu : code ∈ pageCodes → code ≠ 0x0901 ∧ unit < 8 := by
    intro hm
    simpa [pageOk, hm] using hc
  unfold State.pmbRec
  dsimp only
  refine Plain.ite' (fun hc => ?_) (fun _ => Plain.ite' (fun hc => ?_) (fun _ => Plain.ite' (fun hc => ?_) (fun _ =>
    Plain.ite (pmbAll_plain _ (by decide) rfl h) (Plain.ite (Plain.ite (pmbAll_plain _ (by decide) rfl h)
      (Plain.ite (pmbAll_plain _ (by decide) rfl h) h)) (Plain.ite' (fun hc => ?_) (fun _ => Plain.ite' (fun hc => ?_) (fun _ =>
        Plain.ite' (fun hc => ?_) (fun _ => Plain.ite (pmbAll_plain _ (by decide) rfl h) h))))))))
  · have := (hu (by rcases hc with rfl | rfl <;> decide)).2
    exact (h.pmbBits _ (plain (by decide) this)).pmbBits _ (plain (by decide) this)
  · have := (hu (by subst hc; decide)).2
    exact (h.pmbBits _ (plain (by decide) this)).pmbBits _ (plain (by decide) this)
  · have := (hu (by subst hc; decide)).2
    exact Plain.ite (h.pmbBits _ (plain (by decide) this)) h
  · exact absurd hc (hu (by subst hc; decide)).1
  · exact h.pmbBits _ (plain (by decide) (Fin.isLt _))
  · have := (hu (by subst hc; decide)).2
    exact h.pmbBits _ (plain (by decide) this)

theorem State.raise_plain (front : Bool) {code unit : Nat} (items : List (Nat × Int)) (c : React) (hc : pageOk code unit = true)
    (hh : Plain b₀ s) : Plain b₀ (s.raise front code unit items c) := by
  unfold State.raise
  have h := State.pmbRec_plain items hc hh
  exact Plain.ite (Plain.ite ⟨h.pow, h.fr, h.phases, h.regs⟩ (State.emit_plain _ _ ⟨h.pow, h.fr, h.phases, h.regs⟩)) (State.emit_plain _ _ h)
theorem State.logC_plain {code unit : Nat} (items : List (Nat × Int)) (hc : pageOk code unit = true) (h : Plain b₀ s) :
    Plain b₀ (s.logC code unit items) := State.raise_plain _ _ _ hc h
theorem State.logF_plain {code unit : Nat} (items : List (Nat × Int)) (c : React) (hc : pageOk code unit = true) (h : Plain b₀ s) :
    Plain b₀ (s.logF code unit items c) := State.raise_plain _ _ _ hc h

theorem State.noteOn_plain (p : Fin 2) (x : Notice) (h : Plain b₀ s) : Plain b₀ (s.noteOn p x) := by
  unfold State.noteOn
  refine Plain.ite ?_ h
  exact (h.modPort p _).when _ _ (fun y hy => State.logC_plain _ (by revert p; decide) (hy.mark (plain (by decide) p.isLt)))

theorem State.noteRail_plain (r : Fin 8) (kind : Nat) (word : Nat) (hh : Plain b₀ s) : Plain b₀ (State.noteRail s r kind word) := by
  unfold State.noteRail
  repeat' first
   | with_reducible assumption | intro _ | with_reducible apply State.noteOn_plain | with_reducible apply Plain.ite
   | with_reducible apply Plain.foldl | split | (with_reducible apply plain) | exact Fin.isLt _ | decide | rfl

theorem State.noteAll_plain (kind : Nat) (word : Nat) (hh : Plain b₀ s) : Plain b₀ (State.noteAll s kind word) := by
  unfold State.noteAll
  repeat' first
   | with_reducible assumption | intro _ | with_reducible apply State.noteOn_plain | with_reducible apply Plain.ite
   | with_reducible apply Plain.foldl | split | (with_reducible apply plain) | exact Fin.isLt _ | decide | rfl

theorem State.enter_plain (n : Nat) (m : Mode) (h : Plain b₀ s) : Plain b₀ (s.enter n m) := by
  unfold State.enter
  have h1 : Plain b₀ ((s.set F.MODE_STATUS_PREV_MODE 0 s.mode.code).set F.MODE_STATUS_LAST_TRANS 0 n) :=
    (h.set _ (plain (by decide) (by decide))).set _ (plain (by decide) (by decide))
  exact State.raise_plain _ _ _ (by decide) ⟨h1.pow, h1.fr, h1.phases, h1.regs⟩

theorem State.cml_plain (v : Nat) (hh : Plain b₀ s) : Plain b₀ (State.cml s v) := by
  unfold State.cml
  repeat' first
   | with_reducible assumption | intro _ | with_reducible apply Plain.pmbBits | with_reducible apply Plain.ite
   | with_reducible apply Plain.foldl | split | (with_reducible apply plain) | exact Fin.isLt _ | decide | rfl

theorem State.putCtxWord_plain (x n : Nat) (h : Plain b₀ s) : Plain b₀ (s.putCtxWord x n) := ⟨h.pow, h.fr, h.phases, h.regs⟩

theorem State.putCtx_plain (x : Nat) (c : Ctx) (hh : Plain b₀ s) : Plain b₀ (State.putCtx s x c) := by
  unfold State.putCtx
  repeat' first
   | with_reducible assumption | intro _ | with_reducible apply State.putCtxWord_plain | with_reducible apply Plain.ite
   | with_reducible apply Plain.foldl | split | (with_reducible apply plain) | exact Fin.isLt _ | decide | rfl

theorem State.putHints_plain (r : Fin 8) (l : List Hint) (h : Plain b₀ s) : Plain b₀ (s.putHints r l) :=
  Plain.set (f := F.TN_STAT_N_SCHED) (i := r.val) (h.modRail r (fun x => { x with tn := l }) (fun _ => rfl)) l.length (plain (by decide) r.isLt)

theorem State.putF_plain (r : Fin 8) (hh : Plain b₀ s) : Plain b₀ (State.putF s r) := by
  unfold State.putF
  repeat' first
   | with_reducible assumption | intro _ | with_reducible apply Plain.modEng | with_reducible apply Plain.setI
   | with_reducible apply Plain.mark | with_reducible apply Plain.ite | with_reducible apply Plain.foldl | split
   | (with_reducible apply plain) | exact Fin.isLt _ | decide | rfl

theorem State.ctxCheck_plain (x : Nat) (hh : Plain b₀ s) : Plain b₀ (State.ctxCheck s x) := by
  unfold State.ctxCheck
  repeat' first
   | with_reducible assumption | intro _ | with_reducible apply Plain.onRails | with_reducible apply State.logC_plain
   | with_reducible apply State.putCtx_plain | with_reducible apply State.putHints_plain | with_reducible apply State.putF_plain
   | with_reducible apply Plain.ite | with_reducible apply Plain.foldl | split | (with_reducible apply plain) | exact Fin.isLt _
   | decide | rfl

theorem State.ctxRefill_plain (x : Nat) (hh : Plain b₀ s) : Plain b₀ (State.ctxRefill s x) := by
  unfold State.ctxRefill
  repeat' first
   | with_reducible assumption | intro _ | with_reducible apply State.putCtx_plain | with_reducible apply State.ctxCheck_plain
   | with_reducible apply Plain.ite | with_reducible apply Plain.foldl | split | (with_reducible apply plain) | exact Fin.isLt _
   | decide | rfl

theorem State.freeSlot_plain (h : Hint) (hh : Plain b₀ s) : Plain b₀ (State.freeSlot s h) := by
  unfold State.freeSlot
  repeat' first
   | with_reducible assumption | intro _ | with_reducible apply State.putCtx_plain | with_reducible apply State.ctxCheck_plain
   | with_reducible apply Plain.ite | with_reducible apply Plain.foldl | split | (with_reducible apply plain) | exact Fin.isLt _
   | decide | rfl

theorem State.retire_plain (r : Fin 8) (p : Hint → Bool) (hh : Plain b₀ s) : Plain b₀ (State.retire s r p) := by
  unfold State.retire
  repeat' first
   | with_reducible assumption | intro _ | with_reducible apply State.putHints_plain | with_reducible apply State.freeSlot_plain
   | with_reducible apply Plain.ite | with_reducible apply Plain.foldl | split | (with_reducible apply plain) | exact Fin.isLt _
   | decide | rfl

theorem State.noteTense_plain (r : Fin 8) (event : Nat) (w : Nat) (value : Nat) (hh : Plain b₀ s) : Plain b₀ (State.noteTense s r event w value) := by
  unfold State.noteTense
  repeat' first
   | with_reducible assumption | intro _ | with_reducible apply State.noteRail_plain | with_reducible apply Plain.ite
   | with_reducible apply Plain.foldl | split | (with_reducible apply plain) | exact Fin.isLt _ | decide | rfl

theorem State.discard_plain (r : Fin 8) (cause : Nat) (h : Plain b₀ s) : Plain b₀ (s.discard r cause) := by
  unfold State.discard
  refine Plain.ite h ?_
  exact State.logC_plain _ (by revert r; decide) (State.noteTense_plain _ _ _ _ ((State.putF_plain _ (State.retire_plain _ _ h)).mark (plain (by decide) r.isLt)))

theorem State.clampRound_plain  (hh : Plain b₀ s) : Plain b₀ (State.clampRound s) := by
  unfold State.clampRound
  repeat' first
   | with_reducible assumption | intro _ | with_reducible apply Plain.onRails | with_reducible apply State.putF_plain
   | with_reducible apply Plain.ite | with_reducible apply Plain.foldl | split | (with_reducible apply plain) | exact Fin.isLt _
   | decide | rfl

theorem State.hintRound_plain  (hh : Plain b₀ s) : Plain b₀ (State.hintRound s) := by
  unfold State.hintRound
  repeat' first
   | with_reducible assumption | intro _ | with_reducible apply Plain.onRails | with_reducible apply State.discard_plain
   | with_reducible apply Plain.ite | with_reducible apply Plain.foldl | split | (with_reducible apply plain) | exact Fin.isLt _
   | decide | rfl

theorem State.modPk_plain (f : Pack → Pack) (h : Plain b₀ s) : Plain b₀ (s.modPk f) := ⟨h.pow, h.fr, h.phases, h.regs⟩

theorem State.setChg_plain (k : Nat) (hh : Plain b₀ s) : Plain b₀ (State.setChg s k) := by
  unfold State.setChg
  repeat' first
   | with_reducible assumption | intro _ | with_reducible apply Plain.set | with_reducible apply State.modPk_plain
   | with_reducible apply Plain.ite | with_reducible apply Plain.foldl | split | (with_reducible apply plain) | exact Fin.isLt _
   | decide | rfl

theorem Plain.testEnd (h : Plain b₀ s) (t : Nat) : Plain b₀ ({ s with pow.testEnd := t } : State) := ⟨h.pow, h.fr, h.phases, h.regs⟩
theorem State.testAbort_plain (h : Plain b₀ s) : Plain b₀ s.testAbort := by
  unfold State.testAbort
  refine Plain.ite h ?_
  have h1 := (State.modPk_plain (fun p => { p with test := 0, testRetry := true, testAt := s.now })
    (h.clear (f := F.PK_STATE_TEST_ACT) (i := 0) (plain (by decide) (by decide)))).testEnd s.now
  exact State.logC_plain _ (by decide) (h1.when _ _ (fun _ hx => State.setChg_plain _ hx))

theorem State.chargerRound_plain  (hh : Plain b₀ s) : Plain b₀ (State.chargerRound s) := by
  unfold State.chargerRound
  repeat' first
   | with_reducible assumption | intro _ | with_reducible apply Plain.when | with_reducible apply State.setChg_plain
   | with_reducible apply State.testAbort_plain | with_reducible apply Plain.ite | with_reducible apply Plain.foldl | split
   | (with_reducible apply plain) | exact Fin.isLt _ | decide | rfl

theorem State.setGate_plain (b : Bool) (hh : Plain b₀ s) : Plain b₀ (State.setGate s b) := by
  unfold State.setGate
  repeat' first
   | with_reducible assumption | intro _ | with_reducible apply Plain.setB | with_reducible apply State.modPk_plain
   | with_reducible apply Plain.ite | with_reducible apply Plain.foldl | split | (with_reducible apply plain) | exact Fin.isLt _
   | decide | rfl

theorem State.gateRound_plain  (hh : Plain b₀ s) : Plain b₀ (State.gateRound s) := by
  unfold State.gateRound
  repeat' first
   | with_reducible assumption | intro _ | with_reducible apply State.setGate_plain | with_reducible apply Plain.ite
   | with_reducible apply Plain.foldl | split | (with_reducible apply plain) | exact Fin.isLt _ | decide | rfl

theorem State.packRound_plain  (hh : Plain b₀ s) : Plain b₀ (State.packRound s) := by
  unfold State.packRound
  repeat' first
   | with_reducible assumption | intro _ | with_reducible apply State.chargerRound_plain
   | with_reducible apply State.gateRound_plain | with_reducible apply Plain.ite | with_reducible apply Plain.foldl | split
   | (with_reducible apply plain) | exact Fin.isLt _ | decide | rfl

theorem State.shedRound_plain  (hh : Plain b₀ s) : Plain b₀ (State.shedRound s) := by
  unfold State.shedRound
  repeat' first
   | with_reducible assumption | intro _ | with_reducible apply Plain.modRail | with_reducible apply Plain.onRails
   | with_reducible apply Plain.ite | with_reducible apply Plain.foldl | split | (with_reducible apply plain) | exact Fin.isLt _
   | decide | rfl

theorem State.modeRound_plain  (hh : Plain b₀ s) : Plain b₀ (State.modeRound s) := by
  unfold State.modeRound
  repeat' first
   | with_reducible assumption | intro _ | with_reducible apply State.enter_plain | with_reducible apply Plain.ite
   | with_reducible apply Plain.foldl | split | (with_reducible apply plain) | exact Fin.isLt _ | decide | rfl

theorem State.mirrorRound_plain (s0 : State) (h : Plain b₀ s) : Plain b₀ (State.mirrorRound s0 s) := by
  unfold State.mirrorRound
  exact Plain.ite ⟨h.pow, h.fr, h.phases, h.regs⟩ h

theorem State.noteRound_plain (s0 : State) (hh : Plain b₀ s) : Plain b₀ (State.noteRound s0 s) := by
  unfold State.noteRound
  repeat' first
   | with_reducible assumption | intro _ | with_reducible apply Plain.when | with_reducible apply Plain.onRails
   | with_reducible apply State.noteRail_plain | with_reducible apply State.noteAll_plain | with_reducible apply Plain.ite
   | with_reducible apply Plain.foldl | split | (with_reducible apply plain) | exact Fin.isLt _ | decide | rfl

theorem State.precheckRound_plain  (hh : Plain b₀ s) : Plain b₀ (State.precheckRound s) := by
  unfold State.precheckRound
  repeat' first
   | with_reducible assumption | intro _ | with_reducible apply State.enter_plain | with_reducible apply Plain.ite
   | with_reducible apply Plain.foldl | split | (with_reducible apply plain) | exact Fin.isLt _ | decide | rfl

theorem State.creditRound_plain  (hh : Plain b₀ s) : Plain b₀ (State.creditRound s) := by
  unfold State.creditRound
  repeat' first
   | with_reducible assumption | intro _ | with_reducible apply Plain.set | with_reducible apply Plain.modPort
   | with_reducible apply Plain.ite | with_reducible apply Plain.foldl | split | (with_reducible apply plain) | exact Fin.isLt _
   | decide | rfl

theorem State.pmbRail_plain (s0 : State) (r : Fin 8) (hh : Plain b₀ s) : Plain b₀ (State.pmbRail s0 s r) := by
  unfold State.pmbRail
  repeat' first
   | with_reducible assumption | intro _ | with_reducible apply Plain.pmbBits | with_reducible apply Plain.ite
   | with_reducible apply Plain.foldl | split | (with_reducible apply plain) | exact Fin.isLt _ | decide | rfl

theorem Plain.pmb (h : Plain b₀ s) (x : Bool) (n : Nat) : Plain b₀ ({ s with pmb := { s.pmb with released := x, seen := n } } : State) :=
  ⟨h.pow, h.fr, h.phases, h.regs⟩
theorem State.pmbRound_plain (s0 : State) (h : Plain b₀ s) : Plain b₀ (State.pmbRound s0 s) := by
  unfold State.pmbRound
  refine Plain.ite h ?_
  have h1 : Plain b₀ (s.onRails (fun s r => State.pmbRail s0 s r)) := Plain.onRails h _ (fun _ _ hx => State.pmbRail_plain _ _ hx)
  revert h1
  dsimp only
  generalize s.onRails (fun s r => State.pmbRail s0 s r) = y
  intro h1
  have h2 : Plain b₀ (y.when (y.flag F.JRN_STICKY_SLOT_BAD_S) (fun s => s.cml 16)) := h1.when _ _ (fun _ hx => hx.pmbBits _ (plain (by decide) (by decide)))
  exact h2.pmb _ _

theorem State.wasRound_plain (s0 : State) (hh : Plain b₀ s) : Plain b₀ (State.wasRound s0 s) := by
  unfold State.wasRound
  repeat' first
   | with_reducible assumption | intro _ | with_reducible apply Plain.modFr | with_reducible apply Plain.onRails
   | with_reducible apply Plain.ite | with_reducible apply Plain.foldl | split | (with_reducible apply plain) | exact Fin.isLt _
   | decide | rfl

/-! ## Arming -/

theorem State.set_other (x : State) {f : Fld} {i k : Nat} (v : Nat) (hk : plainKey k = false) (hf : plainKey (f.key i) = true) :
    (x.set f i v).regs.get k = x.regs.get k :=
  Store.get_set_of_ne (a := f.key i) (b := k) x.regs (v % 2 ^ f.width) (fun e => by rw [e, hf] at hk; cases hk)

theorem State.setRail_pow (r : Fin 8) (st : RailState) : (s.setRail r st).pow = s.pow :=
  State.setRail_ind (P := fun x => x.pow = s.pow) r st rfl (fun _ _ h => h) (fun _ _ _ h => h) (fun _ h => h) (fun _ h => h)
theorem State.setRail_regs (r : Fin 8) (st : RailState) (k : Nat) (hk : plainKey k = false) : (s.setRail r st).regs.get k = s.regs.get k :=
  State.setRail_ind (P := fun x => x.regs.get k = s.regs.get k) r st rfl (fun _ _ h => h) (fun _ _ _ h => h)
    (fun x h => (State.set_other x _ hk (plain (f := F.RP_STATUS_PGOOD_ST) (by decide) r.isLt)).trans h)
    (fun x h => (State.set_other x _ hk (plain (f := F.RP_STATUS_UV_RD) (by decide) r.isLt)).trans h)
theorem State.setRail_fr_other (r q : Fin 8) (st : RailState) (h : q ≠ r) : (s.setRail r st).fr q = s.fr q :=
  State.setRail_ind (P := fun x => x.fr q = s.fr q) r st (by simp only [State.fr, State.rail_modRail_of_ne _ _ _ _ h])
    (fun x g hx => by rw [← hx]; simp only [State.fr, State.modFr, State.rail_modRail_of_ne _ _ _ _ h])
    (fun _ _ _ hx => hx) (fun _ hx => hx) (fun _ hx => hx)

/-- What arming leaves. -/
structure ArmKept (b s : State) : Prop where
  pow : s.pow = b.pow
  regs : ∀ k, plainKey k = false → s.regs.get k = b.regs.get k
  fr : ∀ r, b.mayArm r = false → s.fr r = b.fr r
  phases : (∀ r, b.mayArm r = false) → s.phases = b.phases
theorem State.armRound_kept : ArmKept s s.armRound := by
  suffices ∀ (l : List (Fin 8)) (x : State), Framed s x → x.mode = s.mode → (∀ r, s.mayArm r = false → x.st r = s.st r) → ArmKept s x →
      ArmKept s (l.foldl (fun s r => if s.mayArm r then s.arm r else s) x) from
    this _ s (Framed.refl s) rfl (fun _ _ => rfl) ⟨rfl, fun _ _ => rfl, fun _ _ => rfl, fun _ => rfl⟩
  intro l
  induction l with
  | nil => exact fun x _ _ _ h => h
  | cons a l ih =>
    intro x f m e h
    rw [List.foldl_cons]
    by_cases ha : x.mayArm a = true
    · rw [if_pos ha]
      have hne : ∀ r, s.mayArm r = false → r ≠ a := by
        rintro r hr rfl
        rw [State.mayArm_congr r f m (e r hr), hr] at ha
        cases ha
      refine ih _ (State.arm_framed a f) ((State.arm_mode a).trans m) (fun r hr => (State.arm_st_other a r (hne r hr)).trans (e r hr)) ?_
      refine ⟨?_, ?_, ?_, ?_⟩
      · exact (show (x.arm a).pow = (x.setRail a .armed).pow from rfl).trans ((State.setRail_pow a .armed).trans h.pow)
      · intro k hk
        have hs : ((x.setRail a .armed).setSen a true).regs.get k = (x.setRail a .armed).regs.get k :=
          State.set_other _ _ hk (plain (f := F.SEN_CFG_SEN_STATE) (by decide) a.isLt)
        exact (show (x.arm a).regs.get k = ((x.setRail a .armed).setSen a true).regs.get k from rfl).trans
          (hs.trans ((State.setRail_regs a .armed k hk).trans (h.regs k hk)))
      · intro r hr
        have h1 : (x.arm a).fr r = ((x.setRail a .armed).setSen a true).fr r := by
          unfold State.arm
          simp only [State.fr, State.modFr, State.rail_modRail_of_ne _ _ _ _ (hne r hr)]
        exact h1.trans ((State.setRail_fr_other a r .armed (hne r hr)).trans (h.fr r hr))
      · intro hall
        exact absurd rfl (hne a (hall a))
    · rw [if_neg ha]
      exact ih _ f m e h

theorem State.stopRound_self (h : s.pow.stopSet = 0) : s.stopRound = s := by
  have : s.stopRound = { s with pow.stopSet := 0 } := by
    simp [State.stopRound, h, allRails]
  rw [this, ← h]

/-- What the end of an update keeps: the power sequencer and the Front-die side of every rail that may not arm, the latter but for
the state that the rail left last, every register outside `plainFields`, and the phases where no rail may arm. -/
structure EndKept (b s : State) : Prop where
  pow : s.pow.now = b.pow.now
  regs : ∀ k, plainKey k = false → s.regs.get k = b.regs.get k
  fr : ∀ r, b.mayArm r = false → (s.fr r).now = (b.fr r).now
  phases : (∀ r, b.mayArm r = false) → s.phases = b.phases

/-- With no SAFESTOP_CLR waiting, the Conjunction Link off and no ordered stop, the end of an update keeps the power sequencer, every
register outside `plainFields`, the Front-die side of every rail that may not arm, and the phases where none may. -/
theorem settle_plain (s0 : State) (hw : s.pow.wantSafestopClr = false) (hc : s.flag F.CJ_CFG_CJ_EN = false) (hs : s.pow.stopSet = 0) :
    EndKept s (settle s0 s) := by
  unfold settle
  rw [State.stopRound_self hs, State.cjRound_none _ hc]
  have p1 : Plain s s.packRound := State.packRound_plain (Plain.refl s)
  have f1 : Framed s s.packRound := State.packRound_framed (Framed.refl s)
  have e1 : Held s s.packRound := State.packRound_held (Held.refl s)
  have w1 : s.packRound.pow.wantSafestopClr = false := (congrArg Power.wantSafestopClr p1.pow).trans hw
  revert p1 f1 e1 w1
  generalize s.packRound = y
  intro p1 f1 e1 w1
  have e2 : y.clrRound = y := by unfold State.clrRound; rw [w1]; rfl
  rw [e2]
  have a1 : ArmKept y y.armRound := State.armRound_kept
  revert a1
  generalize y.armRound = z
  intro a1
  have p2 : Plain z z.precheckRound.shedRound.modeRound.hintRound.clampRound :=
    State.clampRound_plain (State.hintRound_plain (State.modeRound_plain (State.shedRound_plain (State.precheckRound_plain (Plain.refl z)))))
  revert p2
  generalize z.precheckRound.shedRound.modeRound.hintRound.clampRound = v
  intro p2
  have p3 := State.creditRound_plain (State.noteRound_plain s0 (State.mirrorRound_plain s0 (State.pmbRound_plain s0 (State.wasRound_plain s0 p2))))
  have hm : ∀ r, y.mayArm r = s.mayArm r := fun r => State.mayArm_congr r f1 e1.mode (e1.st r)
  refine ⟨?_, ?_, ?_, ?_⟩
  · exact p3.pow.trans ((congrArg Power.now a1.pow).trans p1.pow)
  · exact fun k hk => (p3.regs k hk).trans ((a1.regs k hk).trans (p1.regs k hk))
  · exact fun r hr => (p3.fr r).trans ((congrArg Front.now (a1.fr r ((hm r).trans hr))).trans (p1.fr r))
  · exact fun hr => p3.phases.trans ((a1.phases (fun r => (hm r).trans (hr r))).trans p1.phases)

/-- What `run` keeps of its effect under the same conditions. -/
theorem run_plain (t : Nat) (f : State → State) (u : State) (h : run t f s = .next u) (hw : (f (s.at t)).pow.wantSafestopClr = false)
    (hc : (f (s.at t)).flag F.CJ_CFG_CJ_EN = false) (hs : (f (s.at t)).pow.stopSet = 0) : EndKept (f (s.at t)) u := by
  have hk := settle_plain (s := f (s.at t)) (s.at t) hw hc hs
  cases h
  revert hk
  generalize settle (s.at t) (f (s.at t)) = x
  exact fun hk => ⟨hk.pow, hk.regs, hk.fr, hk.phases⟩


end Sys2Proof.Machine
end

