-- ==== Sys2Proof/Tests/States.lean ====
section
/-!
SUPPORT. The states that the tests start from, and the messages, headers and copies they use.
-/
namespace Sys2Proof.Machine
/-- No SAFESTOP_CLR request waits. -/
def State.cm (b : State) : State := { b with pow.wantSafestopClr := false }
/-- No SAFESTOP_CLR request waits, no ordered stop runs, the Conjunction Link is not in use. -/
def State.sl (b : State) : State := ({ b with pow.wantSafestopClr := false, pow.stopSet := 0 } : State).set F.CJ_CFG_CJ_EN 0 0
/-- In this mode. -/
def State.md (b : State) (m : Mode) : State := { b with mode := m }
/-- The Control die runs. -/
def State.up (b : State) : State := { b with pow.cdUp := true }
/-- A rail in this state. -/
def State.rst (b : State) (r : Fin 8) (x : RailState) : State := b.modRail r (fun y => { y with st := x })
/-- A rail with another configuration. -/
def State.cf (b : State) (r : Fin 8) (f : RailCfg → RailCfg) : State := b.modRail r (fun y => { y with cfg := f y.cfg })
/-- Every rail in this state. -/
def State.allr (b : State) (x : RailState) : State := allRails.foldl (fun (b : State) r => b.rst r x) b
/-- In REGULATE with no session, so that a host SPI access is the Second Person's. -/
def State.p2 (b : State) : State := ({ b.up.md .regulate with sec.st := 0 }).mark F.SUPPLY_STATUS_VDDIO_GOOD
/-- In REGULATE with an open session that holds the right `i`. -/
def State.p3 (b : State) (i : Nat) : State := { b.up.md .regulate with sec.st := 2, sec.rights := b.sec.rights ||| 2 ^ i }
/-- An image header without its CRC. -/
def hdrPre (part svn seq len : Nat) : List Byte :=
  leBytes 4 0x4D495A43 ++ leBytes 2 1 ++ leBytes 2 64 ++ leBytes 4 len ++ leBytes 1 svn ++ leBytes 1 0 ++ leBytes 2 part ++ leBytes 4 seq ++ leBytes 2 2 ++ leBytes 2 0 ++ leBytes 4 (len - 144) ++ leBytes 32 0
/-- An image header with its CRC. -/
def mkHdr (part svn seq len : Nat) : List Byte := let h := hdrPre part svn seq len; h ++ leBytes 4 (crc32 h)
/-- an acceptable header -/
def okHdr (part rb seq : Nat) : List Byte := mkHdr part rb seq 632
/-- A PROT record at its least values. -/
def protMin : List Byte := leBytes 2 1200 ++ leBytes 1 64 ++ leBytes 1 5 ++ List.replicate 396 0
/-- A copy without its trailer. -/
def okBody (part : Nat) : List Byte :=
  mkHdr part 0 5 632 ++ leBytes 2 1 ++ leBytes 2 0 ++ leBytes 4 8 ++ [0,0] ++ leBytes 2 100 ++ [0xFF,0,0,0] ++ leBytes 2 7 ++ leBytes 2 0 ++ leBytes 4 400 ++ protMin
/-- A copy whose trailer carries its key and signature. -/
def okCopy1 : List Byte :=
  okBody 12808 ++ [0x43, 0x5A, 0x53, 0x47] ++ leBytes 4 0 ++ leBytes 4 488 ++ leBytes 4 0
    ++ beBytes 32 0x8d90401510b76cc8d579a0050a7ab2bd595636fe5c49f2080de123b5e7df9de5
    ++ beBytes 32 0xc61b2ac515c21ec22f1ff080237048f2162002c7a9d0abc27533ffd29c3a8c8e
    ++ beBytes 32 0xfed43abc5c2a5f2243915d1e52edac86e0231e3e780e7272dbe4d046dcb024cc
    ++ beBytes 32 0xfed43abc5c2a5f2243915d1e52edac86e0231e3e780e7272dbe4d046dcb024cc
/-- A part whose root slot holds the key with this hash. -/
def rootOf (h : Nat) : Otp := { slots := { hash := h, active := true : KeySlot } :: List.replicate 11 {} }
/-- The header of `okCopy1`. -/
def okHdrC : List Byte := okCopy1.take 64
/-- The session key of the tests. -/
def kKey : List Byte := (List.range 32).map (fun i => BitVec.ofNat 8 (3 * i + 1))
/-- The first eight bytes of an M5 or M7. -/
def msgHead (m op a cseq : Nat) : List Byte := beBytes 1 m ++ beBytes 1 op ++ beBytes 2 a ++ beBytes 4 cseq
/-- A sealed message with its tag. -/
@[irreducible] def sealedMsg (h pt : List Byte) : List Byte :=
  h ++ (gcmSeal kKey (beBytes 4 0 ++ slice h 4 4 ++ beBytes 4 0) h pt).1 ++ (gcmSeal kKey (beBytes 4 0 ++ slice h 4 4 ++ beBytes 4 0) h pt).2
/-- An open session on SPI with a sealed M5 or M7 in flight; `a` is the address or the length. -/
def State.msg (b : State) (m op a rights : Nat) (pt : List Byte) (cseq : Nat := 5) : State :=
  { b with sec := { st := 2, bus := 0, sid := 77, rights := rights, slot := 0, ks := kKey, cseq := cseq, busy := true, msgBus := 0
                    msg := sealedMsg (msgHead m op a (cseq + 1)) pt, goAt := 5, openAt := 5, lifeMin := 60 } }
/-- In SERVICE with every rail OFF and a sealed M7 in flight. -/
def State.m7 (b : State) (op : Nat) (pt : List Byte) : State :=
  (((((b.up.md .service).allr .off).msg 7 op pt.length 0x3F pt).mark F.SUPPLY_STATUS_VDD33_GOOD).set F.TEMP_PACK_LO_TEMP 0 0)
/-- An M1 that asks for these rights. -/
def mHello (rights : Nat) : List Byte := beBytes 2 0x0101 ++ beBytes 2 rights ++ beBytes 16 12345 ++ ptBytes (some p256G)
/-- An M3 over the M1 above and the M2 01 02 03 00: a certificate of slot `i`, its signature, the signature of the service key. -/
def mAuth (i : Nat) : List Byte :=
  beBytes 4 0x03010000 ++ beBytes 4 0x435A5343 ++ beBytes 1 i ++ beBytes 1 1 ++ beBytes 2 0x11 ++ beBytes 2 0 ++ beBytes 2 60
    ++ beBytes 36 0 ++ ptBytes (some p256G)
    ++ beBytes 32 0xcd623b91d4e2c624d0c7c18a5d912c636e9190dbb3ce0c2287b21113eabc9072
    ++ beBytes 32 0xcd623b91d4e2c624d0c7c18a5d912c636e9190dbb3ce0c2287b21113eabc9072
    ++ beBytes 32 0x6b17d1f2e12c4247f8bce6e563a440f277037d812deb33a0f4a13945d898c296
    ++ beBytes 32 0xb9465da88d4c8dd7f3c4567f9bcea730edf1093b6a4142944e270a0f830c6561

/-- A state one second after reset. -/
def State.second : State := { now := 1000000000, ctx0 := 0x80F00000 }
/-- The same with a session, a pack and rails that are set up. -/
def State.tuned : State :=
  let b : State := { now := 1000000000, ctx0 := 0x80F00000, sec.rights := 0x3F, sec.sid := 77 }
  let b := b.modPk (fun p => { p with cfg := { rshunt := 500, vcv := 50000, vrech := 1000, ichg := 5000, testInt := 30, huTmax := 100, rpack := [10, 20, 30, 40, 50, 60, 70, 80] } })
  allRails.foldl (fun (b : State) (r : Fin 8) => (((b.set F.SP_CTRL_AL_SERVE r 3).set F.SP_CTRL_SRC_MASK r 31).set F.SP_CTRL_SRC_EN r 31).mark F.PHC_CTRL_DE_EN r |>.modSp r (fun q => { q with spMax := 4095, p2Max := 4095 })) (b.mark F.SUPPLY_STATUS_AL_IO_GOOD)
/-- A message that was sealed with the session key stands verified. -/
theorem message_of_seal (s : State) (h pt : List Byte) (m op : Nat) (hmsg : s.sec.msg = sealedMsg h pt) (hks : s.sec.ks = kKey)
    (hd : h.length = 8 ∧ beNat (slice h 0 1) = m ∧ beNat (slice h 1 1) = op ∧ beNat (slice h 4 4) = (s.sec.cseq + 1) % 2 ^ 32 ∧
      (m = 5 ∧ pt.length = 4 ∨ m = 7 ∧ beNat (slice h 2 2) = pt.length ∧ pt.length ≤ 512))
    (hr : s.msgWaits = true ∧ s.sec.st = 2 ∧ s.sec.msgBus = s.sec.bus ∧ s.sec.ending = none) : s.Message m op pt := by
  obtain ⟨h8, hm, ho, hc, hn⟩ := hd
  have hk : s.sec.ks.length = 32 := by rw [hks]; decide
  unfold sealedMsg at hmsg
  rw [List.append_assoc, ← hks] at hmsg
  have hs : ∀ i k, i + k ≤ 8 → slice s.sec.msg i k = slice h i k := by
    intro i k hik
    rw [hmsg]; unfold slice
    rw [List.drop_append_of_le_length (by omega), List.take_append_of_le_length (by simp; omega)]
  have hx : ∀ iv, (gcmSeal s.sec.ks iv h pt).1.length = pt.length := fun iv => gcmSeal_length _ iv h pt hk
  have ht : ∀ iv, (gcmSeal s.sec.ks iv h pt).2.length = 16 := fun iv => by simp [gcmSeal, gcmTag, beBytes, leBytes]
  have hl : s.sec.msg.length = 24 + pt.length := by rw [hmsg]; simp [h8, hx, ht]; omega
  have h0 : s.msgByte 0 = m := by rw [State.msgByte, hs 0 1 (by omega), hm]
  refine ⟨hr.1, hr.2.1, hr.2.2.1, h0, by rw [State.msgByte, hs 1 1 (by omega), ho], ?_, hr.2.2.2⟩
  have e8 : s.sec.msg.take 8 = h := by rw [hmsg, List.take_left' h8]
  have hct : slice s.sec.msg 8 pt.length = (gcmSeal s.sec.ks (beBytes 4 0 ++ slice h 4 4 ++ beBytes 4 0) h pt).1 := by
    rw [hmsg, slice, List.drop_left' h8, List.take_left' (hx _)]
  have htg : slice s.sec.msg (8 + pt.length) 16 = (gcmSeal s.sec.ks (beBytes 4 0 ++ slice h 4 4 ++ beBytes 4 0) h pt).2 := by
    rw [hmsg, ← List.append_assoc, slice, List.drop_left' (by simp [h8, hx]), List.take_of_length_le (by rw [ht])]
  have hN : (if m = 5 then 4 else beNat (slice h 2 2)) = pt.length := by
    rcases hn with ⟨rfl, e⟩ | ⟨rfl, e, _⟩ <;> simp [e]
  have hf : (!((m == 5 || (m == 7 && decide (pt.length ≤ 512))) && 24 + pt.length == 24 + pt.length)) = false := by
    rcases hn with ⟨rfl, _⟩ | ⟨rfl, _, e⟩ <;> simp [*]
  unfold State.unseal
  dsimp only
  rw [h0, hs 2 2 (by omega), hN, hl, hs 4 4 (by omega), hc, e8, hct, htg, gcmOpen_gcmSeal _ _ _ _ hk, hf]
  simp

end Sys2Proof.Machine
end

