-- ==== Sys2Proof/Tests/Witnesses.lean ====
section
/-!
SUPPORT. For every statement on what the commands do, states and operands that meet the conditions of each of its clauses. `at_<statement>_<n>` is the
state of its clause `n`.
-/
namespace Sys2Proof.Machine
set_option maxRecDepth 20000
set_option Elab.async false

/-- R13, R14: the word that the engine sent, as it arrives. -/
def at_LinkBetweenDies_1 : State :=
  let b : State := State.second;
  let r := (0 : Fin 8); (({ b.cm.up with br.fdLost := false }).modEng r (fun g => { g with word := parityWord (0%65536) })).modFr r (fun f => { f with ls := .none })
/-- R150: during a large-signal action a word is ignored. -/
def at_LinkBetweenDies_2 : State :=
  let b : State := State.second;
  let r := (0 : Fin 8); (({ b.sl.up with br.fdLost := false }).modEng r (fun g => { g with word := parityWord (0%65536) })).modFr r (fun f => { f with ls := .under })
/-- R14: a word that fails its parity is not used. -/
def at_LinkBetweenDies_3 : State :=
  let b : State := State.second;
  let r := (0 : Fin 8); ({ b.cm.up with br.fdLost := false }).modEng r (fun g => { g with word := parityWord (0%65536) })
/-- R15. -/
def at_LinkBetweenDies_4 : State :=
  State.second.cm.md .wake
/-- R15. -/
def at_LinkBetweenDies_5 : State :=
  State.second.cm.md .regulate
/-- R17: a frame still unacknowledged is sent again, at most 8 times. -/
def at_LinkBetweenDies_6 : State :=
  let b : State := State.second; { b.cm.up with br.c3 := [⟨.add, 3, 5, 0⟩, ⟨.shed, 4, 0, 0⟩], br.c3Resends := 0 }
/-- R17: then it is abandoned. -/
def at_LinkBetweenDies_7 : State :=
  let b : State := State.second; { b.cm.up with br.c3 := [⟨.add, 3, 5, 0⟩, ⟨.shed, 4, 0, 0⟩], br.c3Resends := 8 }
/-- R16. -/
def at_LinkBetweenDies_8 : State :=
  let b : State := State.second; { b.cm.up with rcd.c1q := [⟨{ code := 0x0A03, unit := 1, items := [], count := none, front := true, ct := false, mode := 5, epoch := 1, time := 3 }, .auxDerate 1 64⟩] }
/-- R154. -/
def at_LinkBetweenDies_9 : State :=
  let b : State := State.second; { b.cm.up with rcd.c1q := [], br.c3 := [⟨.add, 3, 5, 0⟩, ⟨.shed, 4, 0, 0⟩] }
/-- R154, R171, R181: an add that takes effect. -/
def at_LinkBetweenDies_10 : State :=
  let b : State := State.second;
  let n : Fin 32 := (0 : Fin 32);
  let b := { b.sl.up with rcd.c1q := [], br.c3 := [⟨.add, n.val, 5, 0⟩, ⟨.shed, 4, 0, 0⟩] }; (((((((b.rst (b.railOf n) .reg).mark F.PH_STATE_ASSIGNED n).clear F.PWM_STATUS_TFLT_LATCH n).clear F.PH_PROT_PHW_STOP n).clear F.PWM_CTRL_FORCE_TRI n).clear F.COH_HOLD_HOLD).modPh n (fun p => { p with sw := .idle, health := .ok, tfltHeld := false })).mark F.MODE_STATUS_SHUTDOWN_ACT
/-- R516. -/
def at_LinkBetweenDies_11 : State :=
  let b : State := State.second; { b.cm.up with rcd.c1q := [], br.c4 := [⟨.spi, .p2, false, 0x0010 + 0, 0⟩, ⟨.pmb, .p2, true, 0x1000, 0⟩] }
/-- R516, R453: the answer completes the SPI access that issued it. -/
def at_LinkBetweenDies_12 : State :=
  let b : State := State.second; { b.cm.up with rcd.c1q := [], br.c4 := [⟨.spi, .p2, false, 0x0010 + 0, 0⟩, ⟨.pmb, .p2, true, 0x1000, 0⟩], spi.busy := some (1, 4) }
/-- R16: the lower class passes first. -/
def at_LinkBetweenDies_13 : State :=
  let b : State := State.second; { b.cm.up with rcd.c1q := [⟨{ code := 0x0A03, unit := 1, items := [], count := none, front := true, ct := false, mode := 5, epoch := 1, time := 3 }, .none⟩] }
/-- R40: an add of a phase that is not live is refused. -/
def at_LinkBetweenDies_14 : State :=
  let b : State := State.second;
  let n : Fin 32 := (0 : Fin 32);
  let b := { b.sl.up with rcd.c1q := [], br.c3 := [⟨.add, n.val, 5, 0⟩, ⟨.shed, 4, 0, 0⟩] }; (b.mark F.MODE_STATUS_SHUTDOWN_ACT).modPh n (fun p => { p with health := .failed })
/-- States and operands that meet the conditions of `Obligations.LinkBetweenDies`, clause by clause. -/
theorem test_meets_LinkBetweenDies :
    (∃ (s : State) (r : Fin 8) (x : BitVec 16) (p : Bool), s.Calm ∧ s.pow.cdUp = true ∧ s.br.fdLost = false
      ∧ parityOk ((s.eng r).word ^^^ (x.toNat * 2 + b2n p)) = true ∧ (s.fr r).ls = .none) ∧
    (∃ (s : State) (r : Fin 8) (x : BitVec 16) (p : Bool), s.Calm ∧ s.pow.cdUp = true ∧ s.br.fdLost = false
      ∧ parityOk ((s.eng r).word ^^^ (x.toNat * 2 + b2n p)) = true ∧ (s.fr r).ls ≠ .none) ∧
    (∃ (s : State) (r : Fin 8) (x : BitVec 16) (p : Bool), s.Calm ∧ s.pow.cdUp = true ∧ s.br.fdLost = false
      ∧ parityOk ((s.eng r).word ^^^ (x.toNat * 2 + b2n p)) = false) ∧
    (∃ (s : State) (f : BitVec 128), s.Calm ∧ s.mode ≠ .dormant ∧ frameOk f = false) ∧
    (∃ (s : State) (f : BitVec 128), s.Calm ∧ s.mode ≠ .dormant ∧ frameOk f = true) ∧
    (∃ (s : State) (q : PsReq) (l : List PsReq), s.Calm ∧ s.pow.cdUp = true ∧ s.br.c3 = q :: l ∧ s.br.c3Resends < 8) ∧
    (∃ (s : State) (q : PsReq) (l : List PsReq), s.Calm ∧ s.pow.cdUp = true ∧ s.br.c3 = q :: l ∧ 8 ≤ s.br.c3Resends) ∧
    (∃ (s : State) (c : C1) (q : List C1), s.Calm ∧ s.pow.cdUp = true ∧ s.rcd.c1q = c :: q) ∧
    (∃ (s : State) (q : PsReq) (l : List PsReq), s.Calm ∧ s.rcd.c1q = [] ∧ s.br.c3 = q :: l) ∧
    (∃ (s : State) (q : PsReq) (l : List PsReq) (n : Fin 32), s.Still ∧ s.rcd.c1q = [] ∧ s.br.c3 = q :: l ∧ q.op = .add
      ∧ q.ph = n.val ∧ (s.st (s.railOf n) = .reg ∨ s.st (s.railOf n) = .shed) ∧ s.live n = true ∧ (s.ph n).sw = .idle
      ∧ (∀ r, s.mayArm r = false)) ∧
    (∃ (s : State) (a : Access) (l : List Access), s.Calm ∧ s.pow.cdUp = true ∧ s.rcd.c1q = [] ∧ s.br.c4 = a :: l ∧ a.wr = false) ∧
    (∃ (s : State) (a : Access) (l : List Access) (e : Nat × Nat), s.Calm ∧ s.pow.cdUp = true ∧ s.rcd.c1q = [] ∧ s.br.c4 = a :: l
      ∧ a.wr = false ∧ a.path = .spi ∧ s.spi.busy = some e) ∧
    (∃ (s : State) (c : C1) (q : List C1), s.Calm ∧ s.rcd.c1q = c :: q) ∧
    (∃ (s : State) (q : PsReq) (l : List PsReq) (n : Fin 32), s.Still ∧ s.rcd.c1q = [] ∧ s.br.c3 = q :: l ∧ q.op = .add
      ∧ q.ph = n.val ∧ s.live n = false ∧ (∀ r, s.mayArm r = false)) :=
  ⟨⟨at_LinkBetweenDies_1, (0 : Fin 8), 0, false, by decide +kernel⟩,
    ⟨at_LinkBetweenDies_2, (0 : Fin 8), 0, false, by decide +kernel⟩,
    ⟨at_LinkBetweenDies_3, (0 : Fin 8), (BitVec.ofNat 16 (2 ^ 0)), false, by decide +kernel⟩,
    ⟨at_LinkBetweenDies_4, (BitVec.ofNat 128 0), by decide +kernel⟩,
    ⟨at_LinkBetweenDies_5, (BitVec.ofNat 128 (0 + crc16 ((bitsOf 128 0).take 112))), by decide +kernel⟩,
    ⟨at_LinkBetweenDies_6, (⟨.add, 3, 5, 0⟩ : PsReq), ([⟨.shed, 4, 0, 0⟩] : List PsReq), by decide +kernel⟩,
    ⟨at_LinkBetweenDies_7, (⟨.add, 3, 5, 0⟩ : PsReq), ([⟨.shed, 4, 0, 0⟩] : List PsReq), by decide +kernel⟩,
    ⟨at_LinkBetweenDies_8,
      (⟨{ code := 0x0A03, unit := 1, items := [], count := none, front := true, ct := false, mode := 5, epoch := 1, time := 3 },
      .auxDerate 1 64⟩ : C1), ([]), by decide +kernel⟩,
    ⟨at_LinkBetweenDies_9, (⟨.add, 3, 5, 0⟩ : PsReq), ([⟨.shed, 4, 0, 0⟩] : List PsReq), by decide +kernel⟩,
    ⟨at_LinkBetweenDies_10, (⟨.add, ((0 : Fin 32) : Fin 32).val, 5, 0⟩ : PsReq), ([⟨.shed, 4, 0, 0⟩] : List PsReq), (0 : Fin 32),
      by decide +kernel⟩,
    ⟨at_LinkBetweenDies_11, (⟨.spi, .p2, false, 0x0010 + 0, 0⟩ : Access), ([⟨.pmb, .p2, true, 0x1000, 0⟩] : List Access),
      by decide +kernel⟩,
    ⟨at_LinkBetweenDies_12, (⟨.spi, .p2, false, 0x0010 + 0, 0⟩ : Access), ([⟨.pmb, .p2, true, 0x1000, 0⟩] : List Access), ((1, 4)),
      by decide +kernel⟩,
    ⟨at_LinkBetweenDies_13,
      (⟨{ code := 0x0A03, unit := 1, items := [], count := none, front := true, ct := false, mode := 5, epoch := 1, time := 3 },
      .none⟩ : C1), ([]), by decide +kernel⟩,
    ⟨at_LinkBetweenDies_14, (⟨.add, ((0 : Fin 32) : Fin 32).val, 5, 0⟩ : PsReq), ([⟨.shed, 4, 0, 0⟩] : List PsReq), (0 : Fin 32),
      by decide +kernel⟩⟩

/-- R18. -/
def at_HeartbeatsAndCoherence_1 : State :=
  State.second.cm.up
/-- R18. -/
def at_HeartbeatsAndCoherence_2 : State :=
  let b : State := State.second; { (b.cm.md .shed) with br.hbExp := none }
/-- R19: a heartbeat out of sequence is not valid. -/
def at_HeartbeatsAndCoherence_3 : State :=
  let b : State := State.second; { b.cm with br.hbExp := some 4 }
/-- R338: an echo that agrees. -/
def at_HeartbeatsAndCoherence_4 : State :=
  let b : State := State.second;
  let b := { b.cm.up with br.c3 := [], rcd.c1q := [] }; { b with br.echo := some b.pswMirror }
/-- R338: a first echo that disagrees. -/
def at_HeartbeatsAndCoherence_5 : State :=
  let b : State := State.second;
  let b := { b.cm.up with br.c3 := [], rcd.c1q := [] }; { b with br.echo := some (b.pswMirror + 1), br.echoBad := 0 }
/-- R339. -/
def at_HeartbeatsAndCoherence_6 : State :=
  let b : State := State.second;
  let n : Fin 32 := (0 : Fin 32); (b.cm.up.set F.COH_HOLD_HOLD 0 (b.get F.COH_HOLD_HOLD ||| 2 ^ n.val)).modPh n (fun p => { p with cohStuck := false })
/-- R20: 2.5 µs without a valid echo. -/
def at_HeartbeatsAndCoherence_7 : State :=
  let b : State := State.second; { b.cm.up with br.fdLost := false, br.ecAt := none }
/-- R21. -/
def at_HeartbeatsAndCoherence_8 : State :=
  State.second.cm.md .regulate
/-- R21: every PWM ball goes to tri-state. -/
def at_HeartbeatsAndCoherence_9 : State :=
  let b : State := State.second; (b.sl.md .regulate).mark F.PH_STATE_ASSIGNED ((0 : Fin 32) : Fin 32)
/-- R24. -/
def at_HeartbeatsAndCoherence_10 : State :=
  let b : State := State.second; { b.cm.up with pow.released := true }
/-- States and operands that meet the conditions of `Obligations.HeartbeatsAndCoherence`, clause by clause. -/
theorem test_meets_HeartbeatsAndCoherence :
    (∃ (s : State), s.Calm ∧ s.pow.cdUp = true) ∧
    (∃ (s : State) (seq : BitVec 8), s.Calm ∧ s.mode ≠ .dormant ∧ (s.br.hbExp = none ∨ s.br.hbExp = some seq.toNat)) ∧
    (∃ (s : State) (seq : BitVec 8) (e : Nat), s.Calm ∧ s.br.hbExp = some e ∧ e ≠ seq.toNat) ∧
    (∃ (s : State), s.Calm ∧ s.pow.cdUp = true ∧ s.br.c3 = [] ∧ s.rcd.c1q = [] ∧ s.br.echo = some s.pswMirror) ∧
    (∃ (s : State) (c : Nat), s.Calm ∧ s.pow.cdUp = true ∧ s.br.c3 = [] ∧ s.rcd.c1q = [] ∧ s.br.echo = some c ∧ c ≠ s.pswMirror
      ∧ s.br.echoBad = 0) ∧
    (∃ (s : State) (n : Fin 32), s.Calm ∧ s.pow.cdUp = true ∧ (s.get F.COH_HOLD_HOLD).testBit n = true
      ∧ (s.ph n).cohStuck = false) ∧
    (∃ (t : Nat) (s : State) , s.Calm ∧ s.pow.cdUp = true ∧ s.br.fdLost = false ∧ s.br.ecAt.getD 0 + 2500 ≤ max s.now t) ∧
    (∃ (s : State), s.Calm ∧ s.mode ≠ .dormant) ∧
    (∃ (s : State) (n : Fin 32), s.Still ∧ s.mode ≠ .dormant ∧ s.flag F.PH_STATE_ASSIGNED n = true ∧ n.val < 32) ∧
    (∃ (s : State), s.Calm ∧ s.coresRun = true) :=
  ⟨⟨at_HeartbeatsAndCoherence_1, by decide +kernel⟩,
    ⟨at_HeartbeatsAndCoherence_2, (BitVec.ofNat 8 0), by decide +kernel⟩,
    ⟨at_HeartbeatsAndCoherence_3, 3, 4, by decide +kernel⟩,
    ⟨at_HeartbeatsAndCoherence_4, by decide +kernel⟩,
    ⟨at_HeartbeatsAndCoherence_5, ((at_HeartbeatsAndCoherence_5).pswMirror + 1), by decide +kernel⟩,
    ⟨at_HeartbeatsAndCoherence_6, (0 : Fin 32), by decide +kernel⟩,
    ⟨1000000000, at_HeartbeatsAndCoherence_7, by decide +kernel⟩,
    ⟨at_HeartbeatsAndCoherence_8, by decide +kernel⟩,
    ⟨at_HeartbeatsAndCoherence_9, (0 : Fin 32), by decide +kernel⟩,
    ⟨at_HeartbeatsAndCoherence_10, by decide +kernel⟩⟩

/-- R325, R326. -/
def at_LossOfTheControlDie_1 : State :=
  let b : State := State.second; ({ State.up ((b.sl.md (.service)).rst 2 .reg) with br.hbRx := none }).clear F.SUPPLY_STATUS_VCORE_GOOD
/-- R325: no rail switches. -/
def at_LossOfTheControlDie_2 : State :=
  let b : State := State.second; { (State.allr (b.sl.md .shed) (.off)).up with pow.released := true }
/-- R19: no loss before 2.5 µs without a valid heartbeat. -/
def at_LossOfTheControlDie_3 : State :=
  let b : State := State.second; { b.cm.md .regulate with br.hbRx := some (1000000006 - 2499) }
/-- R22. -/
def at_LossOfTheControlDie_4 : State :=
  let b : State := State.second; { State.up ((b.sl.md (.service)).rst 2 .reg) with pow.released := true }
/-- R22, R24. -/
def at_LossOfTheControlDie_5 : State :=
  let b : State := State.second; { State.up ((b.sl.md (.service)).rst 2 .reg) with pow.released := true, pow.wdogUs := 50, pow.wdogAt := 1000000000 - 50000 }
/-- R14. -/
def at_LossOfTheControlDie_6 : State :=
  let b : State := State.second; (b.sl.md (.service)).rst 2 .reg
/-- States and operands that meet the conditions of `Obligations.LossOfTheControlDie`, clause by clause. -/
theorem test_meets_LossOfTheControlDie :
    (∃ (t : Nat) (s : State) (c : CtCause), s.Still ∧ (s.mode = .precheck ∨ s.mode = .service ∨ s.mode.running = true)
      ∧ allRails.any (fun r => (s.st r).switching) = true ∧ (State.at s t).lossDue c = true) ∧
    (∃ (t : Nat) (s : State) (c : CtCause), s.Still ∧ (s.mode = .precheck ∨ s.mode = .service ∨ s.mode.running = true)
      ∧ allRails.any (fun r => (s.st r).switching) = false ∧ (State.at s t).lossDue c = true) ∧
    (∃ (t : Nat) (s : State) (x : Nat), s.Calm ∧ s.br.hbRx = some x ∧ max s.now t < x + 2500) ∧
    (∃ (s : State), s.Still ∧ (s.mode = .precheck ∨ s.mode = .service ∨ s.mode.running = true)
      ∧ allRails.any (fun r => (s.st r).switching) = true ∧ s.coresRun = true) ∧
    (∃ (t : Nat) (s : State) , s.Still ∧ (s.mode = .precheck ∨ s.mode = .service ∨ s.mode.running = true)
      ∧ allRails.any (fun r => (s.st r).switching) = true ∧ s.coresRun = true ∧ s.pow.wdogAt + s.pow.wdogUs * 1000 ≤ max s.now t) ∧
    (∃ (s : State) (r : Fin 8), s.Still ∧ (s.mode = .precheck ∨ s.mode = .service ∨ s.mode.running = true)
      ∧ allRails.any (fun r => (s.st r).switching) = true) :=
  ⟨⟨1000000000, at_LossOfTheControlDie_1, (.heartbeat), by decide +kernel⟩,
    ⟨1000000000, at_LossOfTheControlDie_2, .lockstep, by decide +kernel⟩,
    ⟨1000000000, at_LossOfTheControlDie_3, ((at_LossOfTheControlDie_3).now + 6 - 2499), by decide +kernel⟩,
    ⟨at_LossOfTheControlDie_4, by decide +kernel⟩,
    ⟨1000000000, at_LossOfTheControlDie_5, by decide +kernel⟩,
    ⟨at_LossOfTheControlDie_6, (0 : Fin 8), by decide +kernel⟩⟩

/-- R331: adoption refused. -/
def at_CaretakingAndAdoption_1 : State :=
  let b : State := State.second; ({ b.sl.md .caretaker with pow.refused := false, pow.ctAt := 1000000000 - 5000000 }).rst (0 : Fin 8) .caretaken
/-- R332: T19 after a device-latching fault. -/
def at_CaretakingAndAdoption_2 : State :=
  let b : State := State.second; State.allr ({ b.sl.md .caretaker with pow.refused := true, pow.ctFault := true, pow.ctFails := [] }) (.off)
/-- R331, R332: T18. -/
def at_CaretakingAndAdoption_3 : State :=
  let b : State := State.second; (State.allr ({ b.sl.md .caretaker with pow.refused := true, pow.ctFault := false, pow.ctFails := [] }) (.off)).clear F.FAULT_HOLD_FAULT_HOLD
/-- R334: a retained state that fails its checks. -/
def at_CaretakingAndAdoption_4 : State :=
  let b : State := State.second; ((({ b.sl.md .caretaker with pow.refused := false, pow.cdUp := false, pow.ctService := false, pow.retEmpty := false, pow.cdCause := 1, pow.fdHash := b.words8 F.CONFIG_HASH_HASH, pow.fdDigest := b.words8 F.RETAIN_DIGEST_DIGEST }).mark F.SUPPLY_STATUS_VCORE_GOOD).rst (0 : Fin 8) .caretaken).modFr (0 : Fin 8) (fun f => { f with handed := false })
/-- R334, R335. -/
def at_CaretakingAndAdoption_5 : State :=
  let b : State := State.second; ((({ b.sl.md .caretaker with pow.refused := false, pow.cdUp := false, pow.ctService := false, pow.retEmpty := false, pow.cdCause := 1, pow.fdHash := b.words8 F.CONFIG_HASH_HASH, pow.fdDigest := b.words8 F.RETAIN_DIGEST_DIGEST }).mark F.SUPPLY_STATUS_VCORE_GOOD).rst (0 : Fin 8) .caretaken).modFr (0 : Fin 8) (fun f => { f with handed := false })
/-- R336. -/
def at_CaretakingAndAdoption_6 : State :=
  let b : State := State.second;
  let r : Fin 8 := (0 : Fin 8);
  let q : Fin 8 := r + 1; (((({ b.sl.md .caretaker with pow.ctAdopt := true, pow.refused := false, pow.ctAt := 1000000000 - 4999000 }).rst r .caretaken).rst q .caretaken).modFr q (fun f => { f with handed := false })).modFr r
      (fun f => { f with handed := false, ls := .none, dutyGood := 4, duty := 1000, dPn := 1000, engAt := 0 })
/-- R336, R76: the last rail handed over ends the caretaking. -/
def at_CaretakingAndAdoption_7 : State :=
  let b : State := State.second;
  let b := b.allr (.off);
  let r : Fin 8 := (0 : Fin 8); ((({ b.sl.md .caretaker with pow.ctAdopt := true, pow.refused := false, pow.ctAt := 1000000000 - 4999000 }).rst r .caretaken)).modFr r (fun f => { f with handed := false, ls := .none, dutyGood := 4, duty := 1000, dPn := 1256, engAt := 0 })
/-- R336. -/
def at_CaretakingAndAdoption_8 : State :=
  let b : State := State.second;
  let r : Fin 8 := (0 : Fin 8);
  let q : Fin 8 := r + 1; (((({ b.sl.md .caretaker with pow.ctAdopt := true, pow.refused := false, pow.ctAt := 1000000000 - 4999000 }).rst r .caretaken).rst q .caretaken).modFr q (fun f => { f with handed := false })).modFr r
      (fun f => { f with handed := false, ls := .none, dutyGood := 4, duty := 1000, dPn := 1000, engAt := 0 })
/-- R328: with the engine driving, the loop tracks it. -/
def at_CaretakingAndAdoption_9 : State :=
  let b : State := State.second; ((b.cm.md .regulate).rst (0 : Fin 8) .reg).modFr (0 : Fin 8) (fun f => { f with ls := .none })
/-- R328, R330: a held rail takes the duty of the loop. -/
def at_CaretakingAndAdoption_10 : State :=
  let b : State := State.second; ((b.cm.md .caretaker).rst (0 : Fin 8) .caretaken).modFr (0 : Fin 8) (fun f => { f with handed := false })
/-- States and operands that meet the conditions of `Obligations.CaretakingAndAdoption`, clause by clause. -/
theorem test_meets_CaretakingAndAdoption :
    (∃ (t : Nat) (s : State) (r : Fin 8), s.Still ∧ s.mode = .caretaker ∧ s.pow.refused = false ∧ s.st r = .caretaken
      ∧ s.pow.ctAt + 5000000 ≤ max s.now t) ∧
    (∃ (s : State), s.Still ∧ s.mode = .caretaker ∧ s.pow.refused = true ∧ (∀ r, s.st r ≠ .caretaken
      ∧ (s.st r).switching = false) ∧ s.pow.ctFault = true) ∧
    (∃ (s : State), s.Still ∧ s.mode = .caretaker ∧ s.pow.refused = true ∧ (∀ r, s.st r ≠ .caretaken
      ∧ (s.st r).switching = false) ∧ s.pow.ctFault = false ∧ s.pow.ctFails = [] ∧ s.flag F.FAULT_HOLD_FAULT_HOLD = false) ∧
    (∃ (t : Nat) (s : State) (r : Fin 8), s.Still ∧ s.mode = .caretaker ∧ s.pow.cdUp = false
      ∧ s.flag F.SUPPLY_STATUS_VCORE_GOOD = true ∧ s.pow.refused = false ∧ (State.at s t).heldInReset = false
      ∧ s.st r = .caretaken) ∧
    (∃ (t : Nat) (s : State) (r : Fin 8), s.Still ∧ s.mode = .caretaker ∧ s.pow.cdUp = false
      ∧ s.flag F.SUPPLY_STATUS_VCORE_GOOD = true ∧ s.pow.refused = false ∧ (State.at s t).heldInReset = false
      ∧ s.pow.retEmpty = false ∧ s.words8 F.CONFIG_HASH_HASH = s.pow.fdHash ∧ s.words8 F.RETAIN_DIGEST_DIGEST = s.pow.fdDigest
      ∧ s.pow.ctService = false ∧ s.st r = .caretaken ∧ (s.fr r).handed = false) ∧
    (∃ (t : Nat) (s : State) (r : Fin 8) (q : Fin 8), s.Still ∧ s.pow.ctAdopt = true ∧ s.st r = .caretaken
      ∧ (s.fr r).handed = false ∧ (s.fr r).ls = .none ∧ 4 ≤ (s.fr r).dutyGood ∧ max s.now t < s.pow.ctAt + 5000000
      ∧ (s.fr r).duty ≤ (s.fr r).dPn + 256 ∧ (s.fr r).dPn ≤ (s.fr r).duty + 256 ∧ q ≠ r ∧ s.st q = .caretaken
      ∧ (s.fr q).handed = false) ∧
    (∃ (t : Nat) (s : State) (r : Fin 8), s.Still ∧ s.pow.ctAdopt = true ∧ s.st r = .caretaken ∧ (s.fr r).handed = false
      ∧ (s.fr r).ls = .none ∧ 4 ≤ (s.fr r).dutyGood ∧ max s.now t < s.pow.ctAt + 5000000 ∧ (s.fr r).duty ≤ (s.fr r).dPn + 256
      ∧ (s.fr r).dPn ≤ (s.fr r).duty + 256 ∧ (∀ q, q ≠ r → s.st q ≠ .caretaken)) ∧
    (∃ (t : Nat) (s : State) (r : Fin 8), s.Still ∧ s.pow.ctAdopt = true ∧ s.pow.refused = false ∧ s.st r = .caretaken
      ∧ (s.fr r).handed = false ∧ (s.fr r).ls = .none ∧ (s.fr r).engAt + 20000 ≤ max s.now t) ∧
    (∃ (s : State) (r : Fin 8), s.Calm ∧ s.mode ≠ .dormant ∧ s.mode ≠ .wake ∧ s.mode ≠ .caretaker ∧ s.drives r = true) ∧
    (∃ (s : State) (r : Fin 8), s.Calm ∧ s.mode = .caretaker ∧ s.st r = .caretaken ∧ (s.fr r).handed = false) :=
  ⟨⟨1000000000, at_CaretakingAndAdoption_1, (0 : Fin 8), by decide +kernel⟩,
    ⟨at_CaretakingAndAdoption_2, by decide +kernel⟩,
    ⟨at_CaretakingAndAdoption_3, by decide +kernel⟩,
    ⟨1000000000, at_CaretakingAndAdoption_4, (0 : Fin 8), by decide +kernel⟩,
    ⟨1000000000, at_CaretakingAndAdoption_5, (0 : Fin 8), by decide +kernel⟩,
    ⟨1000000000, at_CaretakingAndAdoption_6, (0 : Fin 8), (Fin.ofNat 8 (0+1)), by decide +kernel⟩,
    ⟨1000000000, at_CaretakingAndAdoption_7, (0 : Fin 8), by decide +kernel⟩,
    ⟨1000000000, at_CaretakingAndAdoption_8, (0 : Fin 8), by decide +kernel⟩,
    ⟨at_CaretakingAndAdoption_9, (0 : Fin 8), by decide +kernel⟩,
    ⟨at_CaretakingAndAdoption_10, (0 : Fin 8), by decide +kernel⟩⟩

/-- R44. -/
def at_SuppliesAndStraps_1 : State :=
  State.second.cm
/-- R44. -/
def at_SuppliesAndStraps_2 : State :=
  State.second.cm
/-- R46: the Aedat pads need VDD33. -/
def at_SuppliesAndStraps_3 : State :=
  State.second.cm.md .wake |>.setB F.SUPPLY_STATUS_VDD33_GOOD 0 (0 = 0)
/-- R44, R519. -/
def at_SuppliesAndStraps_4 : State :=
  State.second.cm.md .wake
/-- R45. -/
def at_SuppliesAndStraps_5 : State :=
  let b : State := State.second; { b.cm with pow.vddioSel := false }
/-- R45. -/
def at_SuppliesAndStraps_6 : State :=
  let b : State := State.second; { b.cm with pow.vddioSel := false }
/-- R45: neither mode. -/
def at_SuppliesAndStraps_7 : State :=
  let b : State := State.second; { b.cm with pow.vddioSel := false }
/-- R49: T1, the nonvolatile cells apart. -/
def at_SuppliesAndStraps_8 : State :=
  State.second
/-- R49. -/
def at_SuppliesAndStraps_9 : State :=
  let b : State := State.second; (b.sl.md (.regulate)).mark F.SUPPLY_STATUS_VDD33_GOOD
/-- R49, R519: the Control die is lost with VCORE. -/
def at_SuppliesAndStraps_10 : State :=
  let b : State := State.second; ((((b.sl.md (.service)).rst 2 .reg).mark F.SUPPLY_STATUS_VCORE_GOOD).mark F.SUPPLY_STATUS_VDD33_GOOD)
/-- R519. -/
def at_SuppliesAndStraps_11 : State :=
  let b : State := State.second; { ((b.cm.mark F.SUPPLY_STATUS_VDD33_GOOD).clear F.SUPPLY_STATUS_VCORE_GOOD) with pow.buckTry := 1 }
/-- R49: rails keep running. -/
def at_SuppliesAndStraps_12 : State :=
  let b : State := State.second; (b.cm.md .regulate).mark F.SUPPLY_STATUS_VDDIO_GOOD
/-- R53: two readings that agree. -/
def at_SuppliesAndStraps_13 : State :=
  let b : State := State.second; { (b.cm.md .wake) with pow.strapDone := [false, false, false, false, false] }
/-- R53, R55: the fourth pair without agreement. -/
def at_SuppliesAndStraps_14 : State :=
  let b : State := State.second; { (b.cm.md .wake) with pow.strapDone := [false, false, false, false, false], pow.strapPairs := [3, 3, 3, 3, 3] }
/-- States and operands that meet the conditions of `Obligations.SuppliesAndStraps`, clause by clause. -/
theorem test_meets_SuppliesAndStraps :
    (∃ (s : State), s.Calm) ∧
    (∃ (s : State), s.Calm) ∧
    (∃ (s : State), s.Calm ∧ s.mode ≠ .dormant) ∧
    (∃ (s : State), s.Calm ∧ s.mode ≠ .dormant) ∧
    (∃ (s : State) (mv : Nat), s.Calm ∧ s.pow.vddioSel = false ∧ 2900 ≤ mv) ∧
    (∃ (s : State) (mv : Nat), s.Calm ∧ s.pow.vddioSel = false ∧ 1600 ≤ mv ∧ mv ≤ 1980) ∧
    (∃ (s : State) (mv : Nat), s.Calm ∧ s.pow.vddioSel = false ∧ (mv < 1600 ∨ (1980 < mv ∧ mv < 2900))) ∧
    (∃ (s : State), True) ∧
    (∃ (s : State), s.Still ∧ s.flag F.SUPPLY_STATUS_VDD33_GOOD = true ∧ (s.mode = .regulate ∨ s.mode = .service)) ∧
    (∃ (s : State), s.Still ∧ s.flag F.SUPPLY_STATUS_VCORE_GOOD = true ∧ s.flag F.SUPPLY_STATUS_VDD33_GOOD = true
      ∧ (s.mode = .precheck ∨ s.mode = .service ∨ s.mode.running = true) ∧ allRails.any (fun r => (s.st r).switching) = true) ∧
    (∃ (t : Nat) (s : State) , s.Calm ∧ s.pow.buckTry ≠ 0 ∧ s.flag F.SUPPLY_STATUS_VDD33_GOOD = true
      ∧ s.flag F.SUPPLY_STATUS_VCORE_GOOD = false ∧ s.pow.buckAt + (if s.pow.buckTry = 1 then 100000 else 10000000) ≤ max s.now t) ∧
    (∃ (s : State), s.Calm ∧ s.flag F.SUPPLY_STATUS_VDDIO_GOOD = true ∧ s.mode = .regulate) ∧
    (∃ (s : State) (a : Nat) (e : Nat) (c : Nat), s.Calm ∧ s.mode = .wake ∧ s.pow.strapDone = [false, false, false, false, false]
      ∧ strapCode a = some c ∧ strapCode e = some c) ∧
    (∃ (s : State) (a : Nat), s.Calm ∧ s.mode = .wake ∧ s.pow.strapDone = [false, false, false, false, false]
      ∧ s.pow.strapPairs = [3, 3, 3, 3, 3] ∧ strapCode a = none) :=
  ⟨⟨at_SuppliesAndStraps_1, by decide +kernel⟩,
    ⟨at_SuppliesAndStraps_2, by decide +kernel⟩,
    ⟨at_SuppliesAndStraps_3, by decide +kernel⟩,
    ⟨at_SuppliesAndStraps_4, by decide +kernel⟩,
    ⟨at_SuppliesAndStraps_5, 2900, by decide +kernel⟩,
    ⟨at_SuppliesAndStraps_6, (1980 - 0), by decide +kernel⟩,
    ⟨at_SuppliesAndStraps_7, (1599 - 0), by decide +kernel⟩,
    ⟨at_SuppliesAndStraps_8, by decide +kernel⟩,
    ⟨at_SuppliesAndStraps_9, by decide +kernel⟩,
    ⟨at_SuppliesAndStraps_10, by decide +kernel⟩,
    ⟨1000000000, at_SuppliesAndStraps_11, by decide +kernel⟩,
    ⟨at_SuppliesAndStraps_12, by decide +kernel⟩,
    ⟨at_SuppliesAndStraps_13, 1800, 2200, 1, by decide +kernel⟩,
    ⟨at_SuppliesAndStraps_14, 1000, by decide +kernel⟩⟩

/-- R65. -/
def at_WakeAndDormancy_1 : State :=
  State.second.cm
/-- R67: a wake event in DORMANT. -/
def at_WakeAndDormancy_2 : State :=
  let b : State := State.second; { b.cm.md .dormant with pow.lfosc := true }
/-- R68: a timer or VDD33 wake counts as a WAKE-ball wake. -/
def at_WakeAndDormancy_3 : State :=
  let b : State := State.second; ({ b.cm.md .regulate with pow.lfosc := true, pow.vddActs := false }.clear F.MODE_STATUS_SHUTDOWN_ACT).set F.MODE_STATUS_WAKE_SRC 0 2
/-- R67, R78. -/
def at_WakeAndDormancy_4 : State :=
  let b : State := State.second; (b.cm.md .shed).set F.MODE_STATUS_WAKE_SRC 0 1
/-- R66. -/
def at_WakeAndDormancy_5 : State :=
  let b : State := State.second; ((({ b.cm.md .dormant with pow.lfosc := true, now := 100000000000000, pow.dormEntry := 5 }).mark F.WAKE_CTRL_TIMER_EN).set F.WAKE_CTRL_WAKE_PERIOD 0 1)
/-- R66: T2. -/
def at_WakeAndDormancy_6 : State :=
  let b : State := State.second; { b.sl.md .dormant with pow.lfosc := true, pow.wakePend := 1 }.mark F.SUPPLY_STATUS_VDD33_GOOD
/-- R66: without VDD33 the event stays pending. -/
def at_WakeAndDormancy_7 : State :=
  let b : State := State.second; { b.cm.md .dormant with pow.lfosc := true, pow.wakePend := 1 }.clear F.SUPPLY_STATUS_VDD33_GOOD
/-- R68. -/
def at_WakeAndDormancy_8 : State :=
  let b : State := State.second; ({ b.cm.md .regulate with pow.ballWake := false, pow.dormExit := 0, now := 60000000000 }).set F.MODE_STATUS_WAKE_SRC 0 2
/-- R68: SLEEP_REQ ends a timed wake. -/
def at_WakeAndDormancy_9 : State :=
  State.second.cm.p2.set F.MODE_STATUS_WAKE_SRC 0 2
/-- R74: T3. -/
def at_WakeAndDormancy_10 : State :=
  let b : State := State.second; ({ b.sl.md .wake with pow.strapsLatched := true, pow.resetN := false }.mark F.SUPPLY_STATUS_VDD33_GOOD).mark F.SUPPLY_STATUS_VCORE_GOOD |>.clear F.FAULT_HOLD_FAULT_HOLD
/-- R74: T4. -/
def at_WakeAndDormancy_11 : State :=
  let b : State := State.second; { b.sl.md .wake with pow.resetN := false }
/-- R79: T25. -/
def at_WakeAndDormancy_12 : State :=
  State.second.sl.md .regulate
/-- R79. -/
def at_WakeAndDormancy_13 : State :=
  State.second.cm
/-- R66: VDD33 good again on the way to DORMANT is a wake event. -/
def at_WakeAndDormancy_14 : State :=
  let b : State := State.second; ({ b.cm.md (.dormant) with pow.lfosc := true, pow.vddActs := 0 = 1 }.mark F.WAKE_CTRL_VDD33_AUTO).mark F.MODE_STATUS_SHUTDOWN_ACT
/-- R74, R77: T26 once the journal is idle. -/
def at_WakeAndDormancy_15 : State :=
  let b : State := State.second; { b.sl.md (.wake) with pow.vddActs := true, jrn := {} }
/-- R78: T22. -/
def at_WakeAndDormancy_16 : State :=
  let b : State := State.second; ({ State.allr (b.sl.md .safestop) (.off) with pow.vddActs := false, pow.ballWake := false, jrn := {} }.mark F.MODE_STATUS_SHUTDOWN_ACT).set F.MODE_STATUS_WAKE_SRC 0 1
/-- R78: T20. -/
def at_WakeAndDormancy_17 : State :=
  let b : State := State.second; { State.allr (b.sl.md .regulate) (.off) with pow.vddActs := false, jrn := {} }.mark F.MODE_STATUS_SHUTDOWN_ACT
/-- R80: no device-latching condition is present, T21. -/
def at_WakeAndDormancy_18 : State :=
  let b : State := State.second;
  let b := State.allr ({ b.sl.p2.md .safestop with pow.noVote := false, pow.fpllOff := false, par.xtalReq := false }) (.off); ((((b.clear F.PROT_STATUS_BUS_OV_ACT).mark F.CLK_STATUS_FPLL_LOCK).mark F.CLK_STATUS_CPLL_LOCK).clear F.THERM_STATUS_PKG_SHUT).mark F.SUPPLY_STATUS_VDDIO_GOOD
/-- R80: a condition that is still present, the request lapses. -/
def at_WakeAndDormancy_19 : State :=
  let b : State := State.second;
  let b := State.allr (b.sl.p2.md .safestop) (.off); (b.mark F.PROT_STATUS_BUS_OV_ACT).mark F.SUPPLY_STATUS_VDDIO_GOOD
/-- States and operands that meet the conditions of `Obligations.WakeAndDormancy`, clause by clause. -/
theorem test_meets_WakeAndDormancy :
    (∃ (s : State), s.Calm) ∧
    (∃ (s : State), s.Calm ∧ s.pow.lfosc = true ∧ s.mode = .dormant) ∧
    (∃ (s : State), s.Calm ∧ s.pow.lfosc = true ∧ s.mode = .regulate ∧ s.flag F.MODE_STATUS_SHUTDOWN_ACT = false
      ∧ s.pow.vddActs = false ∧ s.timedWake = true) ∧
    (∃ (s : State), s.Calm ∧ s.mode ≠ .dormant ∧ s.mode ≠ .safestop ∧ s.timedWake = false) ∧
    (∃ (t : Nat) (s : State) , s.Calm ∧ s.mode = .dormant ∧ s.pow.lfosc = true ∧ s.flag F.WAKE_CTRL_TIMER_EN = true
      ∧ s.get F.WAKE_CTRL_WAKE_PERIOD ≠ 0 ∧ s.pow.dormEntry + s.get F.WAKE_CTRL_WAKE_PERIOD * 950000000 ≤ max s.now t) ∧
    (∃ (s : State), s.Still ∧ s.mode = .dormant ∧ s.pow.lfosc = true ∧ s.pow.wakePend ≠ 0
      ∧ s.flag F.SUPPLY_STATUS_VDD33_GOOD = true ∧ s.pow.wakePend < 8) ∧
    (∃ (s : State), s.Calm ∧ s.mode = .dormant ∧ s.pow.lfosc = true ∧ s.pow.wakePend ≠ 0
      ∧ s.flag F.SUPPLY_STATUS_VDD33_GOOD = false) ∧
    (∃ (t : Nat) (s : State) , s.Calm ∧ s.timedWake = true ∧ s.pow.ballWake = false ∧ s.mode ≠ .dormant
      ∧ s.pow.dormExit + 60000000000 ≤ max s.now t) ∧
    (∃ (s : State), s.Calm ∧ s.timedWake = true ∧ s.mode = .regulate ∧ s.AsP2) ∧
    (∃ (s : State), s.Still ∧ s.mode = .wake ∧ s.flag F.SUPPLY_STATUS_VDD33_GOOD = true
      ∧ s.flag F.SUPPLY_STATUS_VCORE_GOOD = true ∧ s.pow.strapsLatched = true ∧ s.pow.resetN = false
      ∧ s.flag F.FAULT_HOLD_FAULT_HOLD = false) ∧
    (∃ (s : State), s.Still ∧ s.mode = .wake ∧ s.pow.resetN = false ∧ max s.pow.wakeAt s.pow.relAt + 5000000 ≤ s.now) ∧
    (∃ (s : State), s.Still ∧ s.mode ≠ .dormant) ∧
    (∃ (s : State), s.Calm) ∧
    (∃ (s : State), s.Calm ∧ s.pow.lfosc = true ∧ s.flag F.WAKE_CTRL_VDD33_AUTO = true
      ∧ (s.mode = .dormant ∨ s.flag F.MODE_STATUS_SHUTDOWN_ACT = true ∨ s.pow.vddActs = true)) ∧
    (∃ (s : State), s.Still ∧ s.mode ≠ .dormant ∧ s.pow.vddActs = true ∧ s.journalIdle = true) ∧
    (∃ (s : State), s.Still ∧ s.mode = .safestop ∧ s.flag F.MODE_STATUS_SHUTDOWN_ACT = true ∧ s.pow.vddActs = false
      ∧ s.pow.ballWake = false ∧ s.timedWake = false ∧ (∀ r, s.st r ≠ .caretaken ∧ (s.st r).switching = false)
      ∧ s.journalIdle = true) ∧
    (∃ (s : State), s.Still ∧ (s.mode = .regulate ∨ s.mode = .service) ∧ s.flag F.MODE_STATUS_SHUTDOWN_ACT = true
      ∧ s.pow.vddActs = false ∧ (∀ r, s.st r ≠ .caretaken ∧ (s.st r).switching = false) ∧ s.journalIdle = true) ∧
    (∃ (s : State), s.Still ∧ s.mode = .safestop ∧ s.AsP2 ∧ s.dlPresent = false ∧ (∀ r, s.st r ≠ .rampdown)) ∧
    (∃ (s : State), s.Still ∧ s.mode = .safestop ∧ s.AsP2 ∧ s.dlPresent = true ∧ (∀ r, s.st r ≠ .rampdown)) :=
  ⟨⟨at_WakeAndDormancy_1, by decide +kernel⟩,
    ⟨at_WakeAndDormancy_2, by decide +kernel⟩,
    ⟨at_WakeAndDormancy_3, by decide +kernel⟩,
    ⟨at_WakeAndDormancy_4, by decide +kernel⟩,
    ⟨1000000000, at_WakeAndDormancy_5, by decide +kernel⟩,
    ⟨at_WakeAndDormancy_6, by decide +kernel⟩,
    ⟨at_WakeAndDormancy_7, by decide +kernel⟩,
    ⟨1000000000, at_WakeAndDormancy_8, by decide +kernel⟩,
    ⟨at_WakeAndDormancy_9, by decide +kernel⟩,
    ⟨at_WakeAndDormancy_10, by decide +kernel⟩,
    ⟨at_WakeAndDormancy_11, by decide +kernel⟩,
    ⟨at_WakeAndDormancy_12, by decide +kernel⟩,
    ⟨at_WakeAndDormancy_13, by decide +kernel⟩,
    ⟨at_WakeAndDormancy_14, by decide +kernel⟩,
    ⟨at_WakeAndDormancy_15, by decide +kernel⟩,
    ⟨at_WakeAndDormancy_16, by decide +kernel⟩,
    ⟨at_WakeAndDormancy_17, by decide +kernel⟩,
    ⟨at_WakeAndDormancy_18, by decide +kernel⟩,
    ⟨at_WakeAndDormancy_19, by decide +kernel⟩⟩

/-- R69. -/
def at_ClocksAndRegions_1 : State :=
  let b : State := State.second; (({ b.cm.md .wake with pow.wakeAt := 1000000000 - 1500000 }).clear F.CLK_STATUS_XTAL_OK).clear F.CLK_STATUS_BACKUP_ACTIVE
/-- R70. -/
def at_ClocksAndRegions_2 : State :=
  let b : State := State.second; ({ b.cm.md (.regulate) with par.xtalReq := false }).clear F.CLK_STATUS_BACKUP_ACTIVE
/-- R71: a crystal that the profile requires, after PARSE. -/
def at_ClocksAndRegions_3 : State :=
  let b : State := State.second; ({ b.sl.md (.service) with par.xtalReq := true }).clear F.CLK_STATUS_BACKUP_ACTIVE
/-- R72: within ±4 %. -/
def at_ClocksAndRegions_4 : State :=
  State.second.cm.md (.regulate)
/-- R72: beyond, device-latching fault 0x5. -/
def at_ClocksAndRegions_5 : State :=
  State.second.sl.md (.service)
/-- R72, R290: beyond in WAKE, the fault is kept. -/
def at_ClocksAndRegions_6 : State :=
  State.second.sl.md .wake
/-- R72. -/
def at_ClocksAndRegions_7 : State :=
  let b : State := State.second; { b.cm.md (.regulate) with pow.pllLost := 3 }
/-- R520: switching rails stop in order. -/
def at_ClocksAndRegions_8 : State :=
  State.second.cm.cf (0 : Fin 8) (fun c => { c with present := true, region := 2 })
/-- R520: a rail in HICCUP or ARMED becomes OFF. -/
def at_ClocksAndRegions_9 : State :=
  let b : State := State.second; (b.sl.cf (0 : Fin 8) (fun c => { c with present := true, region := 2 })).rst (0 : Fin 8) (.hiccup)
/-- R81: an enabled rail arms. -/
def at_ClocksAndRegions_10 : State :=
  let b : State := State.second;
  let r : Fin 8 := (0 : Fin 8); (((({ b.sl.md (.regulate) with pow.noArm := false, pow.vddActs := false, cj.refused := false }).cf r (fun c => { c with present := true, enabled := true, region := 2 })).rst r .off).clear F.RP_STATUS_PRE_HOLD r).clear F.MODE_STATUS_SHUTDOWN_ACT
/-- R81: the enable reads on outside DORMANT. -/
def at_ClocksAndRegions_11 : State :=
  State.second.cm.md (.parse)
/-- R520: a rail in RAMP, REG or SHED joins the ordered stop. -/
def at_ClocksAndRegions_12 : State :=
  let b : State := State.second; ((State.allr b.sl .latched).cf (0 : Fin 8) (fun c => { c with present := true, region := 2 })).rst (0 : Fin 8) (.reg)
/-- R31, R187: the estimate is published. -/
def at_ClocksAndRegions_13 : State :=
  let b : State := State.second; allRails.foldl (fun (b : State) r => if b.st r == .caretaken then b.rst r .reg else b) b.sl.up
/-- R32: no request of the region, nothing granted. -/
def at_ClocksAndRegions_14 : State :=
  let b : State := State.second;
  let b := { b.cm.up with br.c3 := [⟨.shed, 0, 0, 0⟩] }; allRails.foldl (fun (b : State) r => (if b.st r == .caretaken then b.rst r .reg else b).clear F.PHC_STATUS_ADD_PEND r) b
/-- R31, R32, R181: a request within the budget is granted. -/
def at_ClocksAndRegions_15 : State :=
  let b : State := State.second;
  let n : Fin 32 := (0 : Fin 32);
  let r := b.railOf n;
  let b := { b.sl.up with br.c3 := [], cj.peers := [] };
  let b := (List.range 8).foldl (fun (b : State) q => (b.rst (Fin.ofNat 8 q) .reg).cf (Fin.ofNat 8 q) (fun c => { c with present := false })) b
    let b := allPhases.foldl (fun (b : State) x => b.modPh x (fun p => { p with sw := .unused, rsv := 0 })) b
    let b := ((((((b.mark F.PH_STATE_ASSIGNED n).clear F.PWM_STATUS_TFLT_LATCH n).clear F.PH_PROT_PHW_STOP n).clear F.PWM_CTRL_FORCE_TRI n).clear F.COH_HOLD_HOLD).modPh n (fun p => { p with sw := .idle, health := .ok, tfltHeld := false }))
    let b := (b.cf r (fun c => { c with present := true })).modRail r (fun x => { x with tn := [], eng := { x.eng with addWant := 1, addCost := 7, addWhy := 1 } })
    let m := b.regionOf r
    ((b.set F.RGN_CFG_IN_GAIN m 0).set F.RGN_BUDGET_IN_BUDGET m 65535).mark F.PHC_STATUS_ADD_PEND r
/-- R32, R187: one beyond the budget waits. -/
def at_ClocksAndRegions_16 : State :=
  let b : State := State.second;
  let n : Fin 32 := (0 : Fin 32);
  let r := b.railOf n;
  let b := { b.sl.up with br.c3 := [], cj.peers := [] };
  let b := (List.range 8).foldl (fun (b : State) q => (b.rst (Fin.ofNat 8 q) .reg).cf (Fin.ofNat 8 q) (fun c => { c with present := false })) b
    let b := allPhases.foldl (fun (b : State) x => b.modPh x (fun p => { p with sw := .unused, rsv := 0 })) b
    let b := ((((((b.mark F.PH_STATE_ASSIGNED n).clear F.PWM_STATUS_TFLT_LATCH n).clear F.PH_PROT_PHW_STOP n).clear F.PWM_CTRL_FORCE_TRI n).clear F.COH_HOLD_HOLD).modPh n (fun p => { p with sw := .idle, health := .ok, tfltHeld := false }))
    let b := (b.cf r (fun c => { c with present := true })).modRail r (fun x => { x with tn := [], eng := { x.eng with addWant := 1, addCost := 7, addWhy := 1 } })
    let m := b.regionOf r
    ((b.set F.RGN_CFG_IN_GAIN m 0).set F.RGN_BUDGET_IN_BUDGET m 0).mark F.PHC_STATUS_ADD_PEND r |>.set F.RGN_CFG_IN_OFS m 0
/-- States and operands that meet the conditions of `Obligations.ClocksAndRegions`, clause by clause. -/
theorem test_meets_ClocksAndRegions :
    (∃ (t : Nat) (s : State) , s.Calm ∧ s.mode = .wake ∧ s.pow.wakeAt + 1500000 ≤ max s.now t
      ∧ s.flag F.CLK_STATUS_XTAL_OK = false ∧ s.flag F.CLK_STATUS_BACKUP_ACTIVE = false) ∧
    (∃ (s : State), s.Calm ∧ s.awake = true ∧ s.par.xtalReq = false ∧ s.flag F.CLK_STATUS_BACKUP_ACTIVE = false) ∧
    (∃ (s : State), s.Still ∧ (s.mode = .precheck ∨ s.mode = .service ∨ s.mode.running = true) ∧ s.par.xtalReq = true
      ∧ s.flag F.CLK_STATUS_BACKUP_ACTIVE = false) ∧
    (∃ (s : State) (e : Int), s.Calm ∧ s.mode ≠ .dormant ∧ -400 ≤ e ∧ e ≤ 400) ∧
    (∃ (s : State) (e : Int), s.Still ∧ (s.mode = .precheck ∨ s.mode = .service ∨ s.mode.running = true) ∧ (e < -400 ∨ 400 < e)) ∧
    (∃ (s : State) (e : Int), s.Still ∧ s.mode = .wake ∧ (e < -400 ∨ 400 < e)) ∧
    (∃ (s : State) (p : Pll) (e : Int), s.Calm ∧ s.mode ≠ .dormant ∧ s.pow.pllLost.testBit (pllNo p) = true ∧ -400 ≤ e ∧ e ≤ 400) ∧
    (∃ (s : State) (m : Fin 4) (r : Fin 8), s.Calm ∧ s.regionOf r = m ∧ (s.cfg r).present = true) ∧
    (∃ (s : State) (m : Fin 4) (r : Fin 8), s.Still ∧ s.regionOf r = m ∧ (s.cfg r).present = true
      ∧ (s.st r = .hiccup ∨ s.st r = .armed)) ∧
    (∃ (s : State) (m : Fin 4) (r : Fin 8), s.Still ∧ s.regionOf r = m ∧ (s.cfg r).present = true ∧ (s.cfg r).enabled = true
      ∧ s.st r = .off ∧ s.flag F.RP_STATUS_PRE_HOLD r = false ∧ s.flag F.MODE_STATUS_SHUTDOWN_ACT = false ∧ s.pow.noArm = false
      ∧ s.pow.vddActs = false ∧ s.cj.refused = false ∧ (s.mode = .precheck ∨ s.mode = .service ∨ s.mode.running = true)) ∧
    (∃ (s : State), s.Calm ∧ s.mode ≠ .dormant) ∧
    (∃ (s : State) (m : Fin 4) (r : Fin 8), s.Calm ∧ s.regionOf r = m ∧ (s.cfg r).present = true
      ∧ (s.st r = .ramp ∨ s.st r = .reg ∨ s.st r = .shed) ∧ s.flag F.CJ_CFG_CJ_EN = false
      ∧ (∀ q, q ≠ r → s.st q = .off ∨ s.st q = .latched) ∧ s.pow.stopSet = 0) ∧
    (∃ (s : State) (m : Fin 4), s.Calm ∧ s.pow.cdUp = true ∧ s.regionHeld m = false) ∧
    (∃ (s : State) (m : Fin 4), s.Calm ∧ s.pow.cdUp = true ∧ s.regionHeld m = false
      ∧ (∀ r : Fin 8, s.flag F.PHC_STATUS_ADD_PEND r = false) ∧ (∀ q ∈ s.br.c3, s.void q = false)) ∧
    (∃ (s : State) (m : Fin 4) (r : Fin 8) (n : Fin 32), s.Calm ∧ s.pow.cdUp = true ∧ s.regionHeld m = false ∧ s.served m = [r]
      ∧ s.br.c3 = [] ∧ (∀ x, (s.ph x).rsv = 0) ∧ s.flag F.PHC_STATUS_ADD_PEND r = true ∧ s.hints r = [] ∧ (s.eng r).addWant = 1
      ∧ s.freeIdle r = [n] ∧ s.regionEst m + (s.eng r).addCost ≤ s.get F.RGN_BUDGET_IN_BUDGET m) ∧
    (∃ (s : State) (m : Fin 4) (r : Fin 8) (n : Fin 32), s.Calm ∧ s.pow.cdUp = true ∧ s.regionHeld m = false ∧ s.served m = [r]
      ∧ s.br.c3 = [] ∧ (∀ x, (s.ph x).rsv = 0) ∧ s.flag F.PHC_STATUS_ADD_PEND r = true ∧ s.hints r = [] ∧ (s.eng r).addWant = 1
      ∧ s.freeIdle r = [n] ∧ s.get F.RGN_BUDGET_IN_BUDGET m < s.regionEst m + (s.eng r).addCost) :=
  ⟨⟨1000000000, at_ClocksAndRegions_1, by decide +kernel⟩,
    ⟨at_ClocksAndRegions_2, by decide +kernel⟩,
    ⟨at_ClocksAndRegions_3, by decide +kernel⟩,
    ⟨at_ClocksAndRegions_4, 400, by decide +kernel⟩,
    ⟨at_ClocksAndRegions_5, 401, by decide +kernel⟩,
    ⟨at_ClocksAndRegions_6, 401, by decide +kernel⟩,
    ⟨at_ClocksAndRegions_7, (.front), (-400), by decide +kernel⟩,
    ⟨at_ClocksAndRegions_8, 2, (0 : Fin 8), by decide +kernel⟩,
    ⟨at_ClocksAndRegions_9, 2, (0 : Fin 8), by decide +kernel⟩,
    ⟨at_ClocksAndRegions_10, 2, (0 : Fin 8), by decide +kernel⟩,
    ⟨at_ClocksAndRegions_11, by decide +kernel⟩,
    ⟨at_ClocksAndRegions_12, 2, (0 : Fin 8), by decide +kernel⟩,
    ⟨at_ClocksAndRegions_13, (Fin.ofNat 4 0), by decide +kernel⟩,
    ⟨at_ClocksAndRegions_14, (Fin.ofNat 4 0), by decide +kernel⟩,
    ⟨at_ClocksAndRegions_15, ((at_ClocksAndRegions_15).regionOf ((at_ClocksAndRegions_15).railOf (0 : Fin 32))),
      ((at_ClocksAndRegions_15).railOf (0 : Fin 32)), (0 : Fin 32), by decide +kernel⟩,
    ⟨at_ClocksAndRegions_16, ((at_ClocksAndRegions_16).regionOf ((at_ClocksAndRegions_16).railOf (0 : Fin 32))),
      ((at_ClocksAndRegions_16).railOf (0 : Fin 32)), (0 : Fin 32), by decide +kernel⟩⟩

/-- R103, R104: a NOR with SFDP. -/
def at_ParserChoosesACopy_1 : State :=
  let b : State := State.second;
  let b := (State.set { b.cm.up.md .parse with par := {  } } F.STRAP_STATUS_CFG1_CODE 0 0).mark F.SUPPLY_STATUS_VDDIO_GOOD; b
/-- R103: without the SFDP signature, single reads. -/
def at_ParserChoosesACopy_2 : State :=
  let b : State := State.second;
  let b := (State.set { b.cm.up.md .parse with par := {  } } F.STRAP_STATUS_CFG1_CODE 0 0).mark F.SUPPLY_STATUS_VDDIO_GOOD; b
/-- R103: a density that is not served, T6. -/
def at_ParserChoosesACopy_3 : State :=
  let b : State := State.second;
  let b := (State.set { b.sl.up.md .parse with par := {  } } F.STRAP_STATUS_CFG1_CODE 0 0).mark F.SUPPLY_STATUS_VDDIO_GOOD; b
/-- R106: the copy of the larger IMAGE_SEQ is read first. -/
def at_ParserChoosesACopy_4 : State :=
  let b : State := State.second;
  let b := (State.set { b.cm.up.md .parse with par := { discovered := true, sfdp := true } } F.STRAP_STATUS_CFG1_CODE 0 0) ; (b.clear F.PARSE_STATUS_A_RESULT).clear F.PARSE_STATUS_B_RESULT |>.mark F.SUPPLY_STATUS_VDDIO_GOOD
/-- R106, R115: both blank, the strap profile. -/
def at_ParserChoosesACopy_5 : State :=
  let b : State := State.second;
  let b := (State.set { b.cm.up.md .parse with par := { discovered := true, sfdp := true } } F.STRAP_STATUS_CFG1_CODE 0 0); b |>.mark F.SUPPLY_STATUS_VDDIO_GOOD
/-- R105: no NOR, the strap profile. -/
def at_ParserChoosesACopy_6 : State :=
  let b : State := State.second;
  let b := (State.set { b.cm.up.md .parse with par := { discovered := true, sfdp := false } } F.STRAP_STATUS_CFG1_CODE 0 0); b |>.mark F.SUPPLY_STATUS_VDDIO_GOOD
/-- R93, R106: neither copy can be applied, T6. -/
def at_ParserChoosesACopy_7 : State :=
  let b : State := State.second;
  let b := (State.set { b.sl.up.md .parse with par := { discovered := true, sfdp := true } } F.STRAP_STATUS_CFG1_CODE 0 0) ; (b.clear F.PARSE_STATUS_A_RESULT).clear F.PARSE_STATUS_B_RESULT |>.mark F.SUPPLY_STATUS_VDDIO_GOOD
/-- R108: a restart, at most two in one PARSE. -/
def at_ParserChoosesACopy_8 : State :=
  let b : State := State.second;
  let b := (State.set { b.cm.up.md .parse with par := { discovered := true, reading := 2 } } F.STRAP_STATUS_CFG1_CODE 0 0).set F.PARSE_STATUS_READ_RETRY 0 0 ; b
/-- R108: the third failure. -/
def at_ParserChoosesACopy_9 : State :=
  let b : State := State.second;
  let b := (State.set { b.sl.up.md .parse with par := { discovered := true, reading := 2 } } F.STRAP_STATUS_CFG1_CODE 0 0).set F.PARSE_STATUS_READ_RETRY 0 2 ; b
/-- R108: VDDIO not good 50 ms into the wait. -/
def at_ParserChoosesACopy_10 : State :=
  let b : State := State.second;
  let b := (State.set { b.sl.up.md .parse with par := { waiting := true, waitAt := 1000000000 - 50000000, reading := 0 } } F.STRAP_STATUS_CFG1_CODE 0 0).clear F.SUPPLY_STATUS_VDDIO_GOOD ; b
/-- R102, R106: every check passes. -/
def at_ParserChoosesACopy_11 : State :=
  let b : State := State.second;
  let b := { ({ b.cm.up.md .parse with cz1604 := false, otp := rootOf 0x89704d96367402f0ad4259367709345e408a0ef4c9f3b905e842a03b43828c86, regs := Store.set [] (F.SUPPLY_STATUS_VDDIO_GOOD.key 0) 1 }) with par := { discovered := true, sfdp := true, reading := 1, hdrA := okHdrC, hdrB := okHdrC, both := 0 != 0, fallback := 0 = 1, first := 1 } }; b
/-- R106: the newer copy fails, the older is read. -/
def at_ParserChoosesACopy_12 : State :=
  let b : State := State.second;
  let b := (State.set { b.cm.up.md .parse with par := { discovered := true, sfdp := true, reading := 1, hdrA := okHdr b.part b.otp.rollback 4, hdrB := okHdr b.part b.otp.rollback 4, both := true, first := 1 } } F.STRAP_STATUS_CFG1_CODE 0 0); b |>.mark F.SUPPLY_STATUS_VDDIO_GOOD
/-- R106, R108: no copy is left, T6. -/
def at_ParserChoosesACopy_13 : State :=
  let b : State := State.second;
  let b := (State.set { b.sl.up.md .parse with par := { discovered := true, sfdp := true, reading := 1, hdrA := okHdr b.part b.otp.rollback 4, hdrB := okHdr b.part b.otp.rollback 4, both := true, fallback := true, first := 1 } } F.STRAP_STATUS_CFG1_CODE 0 0); b |>.mark F.SUPPLY_STATUS_VDDIO_GOOD
/-- States and operands that meet the conditions of `Obligations.ParserChoosesACopy`, clause by clause. -/
theorem test_meets_ParserChoosesACopy :
    (∃ (s : State) (d : BitVec 5), s.Calm ∧ s.mode = .parse ∧ s.pow.cdUp = true ∧ s.par.source = 0 ∧ s.par.stopped = false
      ∧ s.norMode ≠ 3 ∧ s.par.discovered = false ∧ s.flag F.SUPPLY_STATUS_VDDIO_GOOD = true ∧ 2 ≤ d.toNat ∧ d.toNat ≤ 6) ∧
    (∃ (s : State), s.Calm ∧ s.mode = .parse ∧ s.pow.cdUp = true ∧ s.par.source = 0 ∧ s.par.stopped = false ∧ s.norMode ≠ 3
      ∧ s.par.discovered = false ∧ s.flag F.SUPPLY_STATUS_VDDIO_GOOD = true) ∧
    (∃ (s : State) (d : BitVec 5), s.Still ∧ s.Calm ∧ s.mode = .parse ∧ s.pow.cdUp = true ∧ s.par.source = 0
      ∧ s.par.stopped = false ∧ s.norMode ≠ 3 ∧ s.par.discovered = false ∧ s.flag F.SUPPLY_STATUS_VDDIO_GOOD = true
      ∧ (d.toNat < 2 ∨ 6 < d.toNat)) ∧
    (∃ (s : State) (x : List Byte) (y : List Byte), s.Calm ∧ s.mode = .parse ∧ s.pow.cdUp = true ∧ s.par.source = 0
      ∧ s.par.stopped = false ∧ s.norMode ≠ 3 ∧ s.par.discovered = true ∧ s.par.first = 0 ∧ s.par.waiting = false
      ∧ s.flag F.SUPPLY_STATUS_VDDIO_GOOD = true ∧ s.par.sfdp = true ∧ hdrResult s.part s.otp.rollback s.lenLimit x = 0
      ∧ hdrResult s.part s.otp.rollback s.lenLimit y = 0 ∧ s.get F.PARSE_STATUS_A_RESULT = 0 ∧ s.get F.PARSE_STATUS_B_RESULT = 0) ∧
    (∃ (s : State) (x : List Byte) (y : List Byte), s.Calm ∧ s.mode = .parse ∧ s.pow.cdUp = true ∧ s.par.source = 0
      ∧ s.par.stopped = false ∧ s.norMode ≠ 3 ∧ s.par.discovered = true ∧ s.par.first = 0 ∧ s.par.waiting = false
      ∧ s.flag F.SUPPLY_STATUS_VDDIO_GOOD = true ∧ s.par.sfdp = true ∧ hdrResult s.part s.otp.rollback s.lenLimit x = 2
      ∧ hdrResult s.part s.otp.rollback s.lenLimit y = 2) ∧
    (∃ (s : State) (x : List Byte) (y : List Byte), s.Calm ∧ s.mode = .parse ∧ s.pow.cdUp = true ∧ s.par.source = 0
      ∧ s.par.stopped = false ∧ s.norMode ≠ 3 ∧ s.par.discovered = true ∧ s.par.first = 0 ∧ s.par.waiting = false
      ∧ s.flag F.SUPPLY_STATUS_VDDIO_GOOD = true ∧ s.par.sfdp = false ∧ (allAre 0 x = true ∨ allAre 0xFF x = true)
      ∧ (allAre 0 y = true ∨ allAre 0xFF y = true)) ∧
    (∃ (s : State) (x : List Byte) (y : List Byte), s.Still ∧ s.Calm ∧ s.mode = .parse ∧ s.pow.cdUp = true ∧ s.par.source = 0
      ∧ s.par.stopped = false ∧ s.norMode ≠ 3 ∧ s.par.discovered = true ∧ s.par.first = 0 ∧ s.par.waiting = false
      ∧ s.flag F.SUPPLY_STATUS_VDDIO_GOOD = true ∧ s.par.sfdp = true ∧ s.get F.PARSE_STATUS_A_RESULT = 0
      ∧ s.get F.PARSE_STATUS_B_RESULT = 0 ∧ 3 ≤ hdrResult s.part s.otp.rollback s.lenLimit x
      ∧ 3 ≤ hdrResult s.part s.otp.rollback s.lenLimit y) ∧
    (∃ (s : State), s.Calm ∧ s.mode = .parse ∧ s.pow.cdUp = true ∧ s.par.source = 0 ∧ s.par.stopped = false ∧ s.norMode ≠ 3
      ∧ s.par.waiting = false ∧ s.get F.PARSE_STATUS_READ_RETRY < 2) ∧
    (∃ (s : State), s.Still ∧ s.Calm ∧ s.mode = .parse ∧ s.pow.cdUp = true ∧ s.par.source = 0 ∧ s.par.stopped = false
      ∧ s.norMode ≠ 3 ∧ s.par.waiting = false ∧ s.get F.PARSE_STATUS_READ_RETRY = 2) ∧
    (∃ (t : Nat) (s : State) , s.Still ∧ s.Calm ∧ s.mode = .parse ∧ s.pow.cdUp = true ∧ s.par.source = 0 ∧ s.par.stopped = false
      ∧ s.norMode ≠ 3 ∧ s.par.waiting = true ∧ s.flag F.SUPPLY_STATUS_VDDIO_GOOD = false ∧ s.par.waitAt + 50000000 ≤ max s.now t) ∧
    (∃ (s : State) (c : List Byte), s.Calm ∧ s.mode = .parse ∧ s.pow.cdUp = true ∧ s.par.source = 0 ∧ s.par.stopped = false
      ∧ s.norMode ≠ 3 ∧ s.par.discovered = true ∧ s.flag F.SUPPLY_STATUS_VDDIO_GOOD = true ∧ s.par.waiting = false
      ∧ s.par.reading ≠ 0 ∧ c.take 64 = s.hdr s.par.reading ∧ c.length = (hdrOf c).len
      ∧ (s.par.sfdp = false ∨ allAre 0xFF (c.drop 64) = false) ∧ s.copyResult c = 0) ∧
    (∃ (s : State) (c : List Byte) (v : Nat), s.Calm ∧ s.mode = .parse ∧ s.pow.cdUp = true ∧ s.par.source = 0
      ∧ s.par.stopped = false ∧ s.norMode ≠ 3 ∧ s.par.discovered = true ∧ s.flag F.SUPPLY_STATUS_VDDIO_GOOD = true
      ∧ s.par.waiting = false ∧ s.par.reading ≠ 0 ∧ c.take 64 = s.hdr s.par.reading ∧ c.length = (hdrOf c).len
      ∧ (s.par.sfdp = false ∨ allAre 0xFF (c.drop 64) = false) ∧ s.copyResult c = v ∧ v ≠ 0 ∧ v < 16 ∧ s.par.both = true
      ∧ s.par.fallback = false) ∧
    (∃ (s : State) (c : List Byte), s.Still ∧ s.Calm ∧ s.mode = .parse ∧ s.pow.cdUp = true ∧ s.par.source = 0
      ∧ s.par.stopped = false ∧ s.norMode ≠ 3 ∧ s.par.discovered = true ∧ s.flag F.SUPPLY_STATUS_VDDIO_GOOD = true
      ∧ s.par.waiting = false ∧ s.par.reading ≠ 0 ∧ c.take 64 = s.hdr s.par.reading ∧ c.length = (hdrOf c).len
      ∧ (s.par.sfdp = false ∨ allAre 0xFF (c.drop 64) = false) ∧ s.copyResult c ≠ 0
      ∧ (s.par.both = false ∨ s.par.fallback = true)) :=
  ⟨⟨at_ParserChoosesACopy_1, (BitVec.ofNat 5 2), by decide +kernel⟩,
    ⟨at_ParserChoosesACopy_2, by decide +kernel⟩,
    ⟨at_ParserChoosesACopy_3, 1, by decide +kernel⟩,
    ⟨at_ParserChoosesACopy_4, (okHdr (at_ParserChoosesACopy_4).part (at_ParserChoosesACopy_4).otp.rollback 0), (okHdr
      (at_ParserChoosesACopy_4).part (at_ParserChoosesACopy_4).otp.rollback 1), by decide +kernel⟩,
    ⟨at_ParserChoosesACopy_5, (List.replicate 64 0xFF), (List.replicate 64 0xFF), by decide +kernel⟩,
    ⟨at_ParserChoosesACopy_6, (List.replicate 64 0xFF), (List.replicate 64 0), by decide +kernel⟩,
    ⟨at_ParserChoosesACopy_7, (List.replicate 64 3), (List.replicate 64 (BitVec.ofNat 8 1)), by decide +kernel⟩,
    ⟨at_ParserChoosesACopy_8, by decide +kernel⟩,
    ⟨at_ParserChoosesACopy_9, by decide +kernel⟩,
    ⟨1000000000, at_ParserChoosesACopy_10, by decide +kernel⟩,
    ⟨at_ParserChoosesACopy_11, okCopy1, by decide +kernel⟩,
    ⟨at_ParserChoosesACopy_12, ((at_ParserChoosesACopy_12).hdr (at_ParserChoosesACopy_12).par.reading ++ List.replicate ((hdrOf
      ((at_ParserChoosesACopy_12).hdr (at_ParserChoosesACopy_12).par.reading)).len - 64) 7), ((at_ParserChoosesACopy_12).copyResult
      ((at_ParserChoosesACopy_12).hdr (at_ParserChoosesACopy_12).par.reading ++ List.replicate ((hdrOf
      ((at_ParserChoosesACopy_12).hdr (at_ParserChoosesACopy_12).par.reading)).len - 64) 7)), by decide +kernel⟩,
    ⟨at_ParserChoosesACopy_13, ((at_ParserChoosesACopy_13).hdr (at_ParserChoosesACopy_13).par.reading ++ List.replicate ((hdrOf
      ((at_ParserChoosesACopy_13).hdr (at_ParserChoosesACopy_13).par.reading)).len - 64) 7), by decide +kernel⟩⟩

/-- R76, R111: T5. -/
def at_ConfigurationIsApplied_1 : State :=
  let b : State := State.second; { (b.sl.up.md .parse) with par := { source := 1, verified := okCopy1 } }.clear F.CLK_STATUS_BACKUP_ACTIVE
/-- R71: XTAL_REQUIRED on the backup reference, T6. -/
def at_ConfigurationIsApplied_2 : State :=
  let b : State := State.second; { (b.sl.up.md .parse) with par := { source := 1, verified := okCopy1.set 73 1 } }.mark F.CLK_STATUS_BACKUP_ACTIVE
/-- R115: NOR mode 11. -/
def at_ConfigurationIsApplied_3 : State :=
  let b : State := State.second; ({ (b.sl.up.md .parse) with par := { } }.clear F.CLK_STATUS_BACKUP_ACTIVE).set F.STRAP_STATUS_CFG1_CODE 0 3
/-- R168, R217. -/
def at_ConfigurationIsApplied_4 : State :=
  let b : State := State.second; { (b.sl.up.md .parse) with par := { source := 3 } }.clear F.CLK_STATUS_BACKUP_ACTIVE
/-- States and operands that meet the conditions of `Obligations.ConfigurationIsApplied`, clause by clause. -/
theorem test_meets_ConfigurationIsApplied :
    (∃ (s : State), s.Calm ∧ s.mode = .parse ∧ s.pow.cdUp = true ∧ s.par.stopped = false ∧ s.par.source ≠ 0 ∧ s.par.source < 4
      ∧ s.flag F.CLK_STATUS_BACKUP_ACTIVE = false) ∧
    (∃ (s : State), s.Still ∧ s.mode = .parse ∧ s.pow.cdUp = true ∧ s.par.stopped = false ∧ s.par.source ≠ 0 ∧ s.par.source ≠ 3
      ∧ s.conf.device.getD 1 0 = 1 ∧ s.flag F.CLK_STATUS_BACKUP_ACTIVE = true) ∧
    (∃ (s : State), s.Calm ∧ s.mode = .parse ∧ s.pow.cdUp = true ∧ s.par.stopped = false ∧ s.par.source = 0 ∧ s.norMode = 3
      ∧ s.flag F.CLK_STATUS_BACKUP_ACTIVE = false) ∧
    (∃ (s : State), s.Calm ∧ s.mode = .parse ∧ s.pow.cdUp = true ∧ s.par.stopped = false ∧ s.par.source ≠ 0
      ∧ s.flag F.CLK_STATUS_BACKUP_ACTIVE = false) :=
  ⟨⟨at_ConfigurationIsApplied_1, by decide +kernel⟩,
    ⟨at_ConfigurationIsApplied_2, by decide +kernel⟩,
    ⟨at_ConfigurationIsApplied_3, by decide +kernel⟩,
    ⟨at_ConfigurationIsApplied_4, by decide +kernel⟩⟩

/-- R120, R121: a block that is not full. -/
def at_RailEngine_1 : State :=
  let b : State := State.second;
  let r : Fin 8 := (0 : Fin 8);
  let b := ((b.sl.up.md .regulate).rst r .reg).set F.ENG_CFG_RATE_SH r 3; b.modRail r (fun x => { x with tn := [], eng := { x.eng with blkN := 0 } })
/-- R122: before the first block of a ramp has ended. -/
def at_RailEngine_2 : State :=
  let b : State := State.second;
  let r : Fin 8 := (0 : Fin 8);
  let b := ((b.sl.up.md .regulate).rst r .ramp).set F.ENG_CFG_RATE_SH r 3; b.modRail r (fun x => { x with tn := [], eng := { x.eng with blkN := 0 } }) |>.modRail r (fun x => { x with eng := { x.eng with startCode := 0 }, fr := { x.fr with started := true } }) |>.set F.DUTY_LIM_DUTY_MAX r 60000
/-- R121, R125, R139: a full block runs the datapath. -/
def at_RailEngine_3 : State :=
  let b : State := State.second;
  let r : Fin 8 := (0 : Fin 8);
  let b := ((b.sl.up.md .regulate).rst r .reg).set F.ENG_CFG_RATE_SH r 0; b.modRail r (fun x => { x with tn := [], eng := { x.eng with blkN := 0 } }) |>.modRail r (fun x => { x with eng := { x.eng with blkN := 7 } })
/-- R127: the duty word keeps its limits. -/
def at_RailEngine_4 : State :=
  let b : State := State.second;
  let r : Fin 8 := (0 : Fin 8);
  let b := ((b.sl.up.md .regulate).rst r .reg).set F.ENG_CFG_RATE_SH r 0; b.modRail r (fun x => { x with tn := [], eng := { x.eng with blkN := 0 } }) |>.modRail r (fun x => { x with eng := { x.eng with blkN := 7 } }) |>.set F.DUTY_LIM_DUTY_MIN r 300 |>.set F.DUTY_LIM_DUTY_MAX r 300
/-- R229: the accumulator slews up. -/
def at_RailEngine_5 : State :=
  let b : State := State.second;
  let r : Fin 8 := (0 : Fin 8);
  let b := ((b.sl.up.md .regulate).rst r .reg).set F.ENG_CFG_RATE_SH r 0; b.modRail r (fun x => { x with tn := [], eng := { x.eng with blkN := 0 } }) |>.set F.SP_STATUS_SP_TGT r 4090 |>.set F.SP_CTRL_SLEW_UP r 0 |>.modSp r (fun q => { q with slewLim := none })
/-- R229: and down. -/
def at_RailEngine_6 : State :=
  let b : State := State.second;
  let r : Fin 8 := (0 : Fin 8);
  let b := ((b.sl.up.md .regulate).rst r .reg).set F.ENG_CFG_RATE_SH r 0; b.modRail r (fun x => { x with tn := [], eng := { x.eng with blkN := 0 } }) |>.set F.SP_STATUS_SP_TGT r 0 |>.set F.SP_CTRL_SLEW_DN r 0 |>.modSp r (fun q => { q with slewLim := none })
/-- R144: the pending set becomes active. -/
def at_RailEngine_7 : State :=
  let b : State := State.second;
  let r : Fin 8 := (0 : Fin 8); ((((b.sl.up.md .regulate).rst r .reg).mark F.ENG_STATUS_SWAP_PEND r).modFr r (fun f => { f with ls := .none })).modRail r (fun x => { x with eng := { x.eng with selId := 0, act := romSet0 } })
/-- R145: a write of STORE_WR with a staged set in its ranges. -/
def at_RailEngine_8 : State :=
  let b : State := State.second;
  let b := { b.cm.p3 1 with cz1604 := false }; [F.STORE_KP_M, F.STORE_KI_M,F.STORE_KD_M,F.STORE_KF_M,F.STORE_KO_M].foldl (fun (b : State) f => b.set f 0 1) ([F.STORE_KP_SH,F.STORE_KI_SH,F.STORE_KD_SH,F.STORE_KF_SH,F.STORE_KO_SH,F.STORE_CLAMP_IMAX,F.STORE_CLAMP_IMIN].foldl (fun (b : State) f => b.set f 0 0) b) |>.set F.STORE_CLAMP_IMIN 0 0
/-- R131: a staged set out of its ranges is refused. -/
def at_RailEngine_9 : State :=
  let b : State := State.second; ({ b.cm.p3 1 with cz1604 := false }).set F.STORE_KP_M 0 0xFFFF
/-- R134. -/
def at_RailEngine_10 : State :=
  State.second.cm.up.md .regulate
/-- R135. -/
def at_RailEngine_11 : State :=
  State.second.cm.up.clear F.ENG_STATUS_VIN_STALE 0 |>.modEng 3 (fun g => { g with vinAt := some (1000000000 - 10000) })
/-- R304. -/
def at_RailEngine_12 : State :=
  let b : State := State.second;
  let r : Fin 8 := (0 : Fin 8); allRails.foldl (fun (b : State) q => b.modEng q (fun g => { g with staleD := false })) ({ b.cm.up.mark F.ENG_STATUS_VIN_STALE 0 with pow.staleAt := 1000000000 - 1000000 }.rst r .reg)
/-- R137, R139: the refreshed sum and its filter. -/
def at_RailEngine_13 : State :=
  let b : State := State.second;
  let r : Fin 8 := (0 : Fin 8); b.sl.up.md .regulate
/-- R137: the fold lowers the ceiling. -/
def at_RailEngine_14 : State :=
  let b : State := State.second;
  let r : Fin 8 := (0 : Fin 8);
  let n : Fin 32 := (0 : Fin 32); ((((((((((b.sl.up.md .regulate).rst r .reg).mark F.ENG_STATUS_CL_ACT r).mark F.PH_STATE_ASSIGNED n).set F.PH_STATE_RAIL n r).clear F.PWM_STATUS_TFLT_LATCH n).clear F.PH_PROT_PHW_STOP n).clear F.PWM_CTRL_FORCE_TRI n).clear F.COH_HOLD_HOLD).modPh n (fun p => { p with health := .ok, tfltHeld := false })).set F.PH_CUR_I_AVG n 2047 |>.set F.PH_CFG_ILIM_PHASE n 0
/-- States and operands that meet the conditions of `Obligations.RailEngine`, clause by clause. -/
theorem test_meets_RailEngine :
    (∃ (s : State) (r : Fin 8), s.Still ∧ s.engineRuns r = true ∧ (s.eng r).blkN + 1 < 2 ^ s.get F.ENG_CFG_RATE_SH r) ∧
    (∃ (s : State) (r : Fin 8), s.Still ∧ s.engineRuns r = true ∧ s.st r = .ramp ∧ s.isMember r = false
      ∧ (s.eng r).blkN + 1 < 2 ^ s.get F.ENG_CFG_RATE_SH r ∧ (s.eng r).blkDone = false) ∧
    (∃ (s : State) (r : Fin 8) (p : BitVec 11) (e : Int), s.Still ∧ s.engineRuns r = true
      ∧ 2 ^ s.get F.ENG_CFG_RATE_SH r ≤ (s.eng r).blkN + 1 ∧ e = ((s.eng r).blkSum + s.slotCode r p.toNat) * 64 / 2 ^ s.get
      F.ENG_CFG_RATE_SH r) ∧
    (∃ (s : State) (r : Fin 8), s.Still ∧ s.engineRuns r = true ∧ 2 ^ s.get F.ENG_CFG_RATE_SH r ≤ (s.eng r).blkN + 1
      ∧ s.get F.DUTY_LIM_DUTY_MIN r ≤ s.get F.DUTY_LIM_DUTY_MAX r) ∧
    (∃ (s : State) (r : Fin 8), s.Still ∧ s.engineRuns r = true ∧ (s.st r = .reg ∨ s.st r = .shed) ∧ s.isMember r = false
      ∧ (s.rail r).sp.slewLim = none ∧ (s.rail r).sp.acc < s.get F.SP_STATUS_SP_TGT r * 128) ∧
    (∃ (s : State) (r : Fin 8), s.Still ∧ s.engineRuns r = true ∧ (s.st r = .reg ∨ s.st r = .shed) ∧ s.isMember r = false
      ∧ (s.rail r).sp.slewLim = none ∧ s.get F.SP_STATUS_SP_TGT r * 128 ≤ (s.rail r).sp.acc) ∧
    (∃ (s : State) (r : Fin 8), s.Still ∧ s.engineRuns r = true ∧ s.flag F.ENG_STATUS_SWAP_PEND r = true ∧ (s.fr r).ls = .none) ∧
    (∃ (s : State) (id : Nat), s.Calm ∧ s.AsP3 1 ∧ s.cz1604 = false ∧ s.stagedOk = true ∧ id < 64) ∧
    (∃ (s : State) (id : Nat), s.Calm ∧ s.AsP3 1 ∧ s.cz1604 = false ∧ s.stagedOk = false ∧ id < 64) ∧
    (∃ (s : State), s.Calm ∧ s.mode ≠ .dormant ∧ s.mode ≠ .wake ∧ s.pow.cdUp = true) ∧
    (∃ (t : Nat) (s : State) , s.Calm ∧ s.pow.cdUp = true ∧ (State.at s t).vinOld = true
      ∧ s.flag F.ENG_STATUS_VIN_STALE 0 = false) ∧
    (∃ (t : Nat) (s : State) (r : Fin 8), s.Calm ∧ s.pow.cdUp = true ∧ s.flag F.ENG_STATUS_VIN_STALE 0 = true
      ∧ (s.st r).switching = true ∧ s.pow.staleAt + 1000000 ≤ max s.now t ∧ (allRails.any (fun q => (s.eng q).staleD)) = false) ∧
    (∃ (s : State), s.Still ∧ s.pow.cdUp = true ∧ s.mode = .regulate) ∧
    (∃ (s : State) (r : Fin 8), s.Still ∧ s.pow.cdUp = true ∧ s.mode = .regulate ∧ s.flag F.ENG_STATUS_CL_ACT r = true
      ∧ (s.ilimRail r : Int) < s.currentSum r) :=
  ⟨⟨at_RailEngine_1, (0 : Fin 8), by decide +kernel⟩,
    ⟨at_RailEngine_2, (0 : Fin 8), by decide +kernel⟩,
    ⟨at_RailEngine_3, (0 : Fin 8), (BitVec.ofNat 11 0), ((((at_RailEngine_3).eng (0 : Fin 8)).blkSum + (at_RailEngine_3).slotCode
      (0 : Fin 8) (BitVec.ofNat 11 0).toNat) * 64 / 2 ^ (at_RailEngine_3).get F.ENG_CFG_RATE_SH (0 : Fin 8)), by decide +kernel⟩,
    ⟨at_RailEngine_4, (0 : Fin 8), by decide +kernel⟩,
    ⟨at_RailEngine_5, (0 : Fin 8), by decide +kernel⟩,
    ⟨at_RailEngine_6, (0 : Fin 8), by decide +kernel⟩,
    ⟨at_RailEngine_7, (0 : Fin 8), by decide +kernel⟩,
    ⟨at_RailEngine_8, 0, by decide +kernel⟩,
    ⟨at_RailEngine_9, 0, by decide +kernel⟩,
    ⟨at_RailEngine_10, by decide +kernel⟩,
    ⟨1000000000, at_RailEngine_11, by decide +kernel⟩,
    ⟨1000000000, at_RailEngine_12, (0 : Fin 8), by decide +kernel⟩,
    ⟨at_RailEngine_13, by decide +kernel⟩,
    ⟨at_RailEngine_14, (0 : Fin 8), by decide +kernel⟩⟩

/-- R157, R158. -/
def at_PhaseCurrents_1 : State :=
  let b : State := State.second;
  let n : Fin 32 := (0 : Fin 32); (b.cm.md .regulate).mark F.PH_STATE_ASSIGNED n
/-- R159. -/
def at_PhaseCurrents_2 : State :=
  let b : State := State.second;
  let n : Fin 32 := (6 : Fin 32); ((b.sl.up.md .regulate).mark F.PH_STATE_ASSIGNED n).modPh n (fun p => { p with smpN := 2, sw := p.sw, health := p.health, satRun := p.satRun, ended := false, nextAt := 0, obsCnt := 15 })
/-- R159: fewer than two samples keep I_AVG. -/
def at_PhaseCurrents_3 : State :=
  let b : State := State.second;
  let n : Fin 32 := (0 : Fin 32); ((b.sl.up.md .regulate).mark F.PH_STATE_ASSIGNED n).modPh n (fun p => { p with smpN := 0, sw := p.sw, health := p.health, satRun := p.satRun, ended := false, nextAt := 0, obsCnt := 15 }) |>.modPh n (fun p => { p with smpN := 0 })
/-- R160, R164. -/
def at_PhaseCurrents_4 : State :=
  let b : State := State.second;
  let n : Fin 32 := (0 : Fin 32); ((b.sl.up.md .regulate).mark F.PH_STATE_ASSIGNED n).modPh n (fun p => { p with smpN := 0, sw := .active, health := .ok, satRun := 4, obsCnt := 15 }) |>.clear F.PH_STATE_PAIRED n
/-- R164, R165. -/
def at_PhaseCurrents_5 : State :=
  let b : State := State.second;
  let n : Fin 32 := (0 : Fin 32); ((b.sl.up.md .regulate).mark F.PH_STATE_ASSIGNED n).modPh n (fun p => { p with smpN := 0, sw := .active, health := .ok, satRun := 4, obsCnt := 15 }) |>.clear F.PH_STATE_PAIRED n |> (fun (b : State) => b.set F.PHC_OBS_OBS_N (b.railOf n) 1)
/-- R164: the partner fails with it, cause 4. -/
def at_PhaseCurrents_6 : State :=
  let b : State := State.second;
  let n : Fin 32 := (0 : Fin 32); ((b.sl.up.md .regulate).mark F.PH_STATE_ASSIGNED n).modPh n (fun p => { p with smpN := 0, sw := .active, health := .ok, satRun := 4, obsCnt := 15 }) |>.mark F.PH_STATE_PAIRED n |>.set F.PH_STATE_PAIR_ID n ((n.val + 1) % 32) |> (fun (b : State) => b.set F.PHC_OBS_OBS_N (b.railOf n) 1) |>.modPh n (fun p => { p with pairFailBoth := true }) |>.modPh (n+1) (fun p => { p with health := .ok }) |>.mark F.PH_STATE_ASSIGNED (n + 1)
/-- R166. -/
def at_PhaseCurrents_7 : State :=
  let b : State := State.second;
  let n : Fin 32 := (0 : Fin 32); ((b.sl.up.md .regulate).mark F.PH_STATE_ASSIGNED n).modPh n (fun p => { p with smpN := 0, sw := .stopped, health := .failed, satRun := 4, obsCnt := 15 }) |>.modFr (b.railOf n) (fun f => { f with failPend := true }) |>.set F.PHC_CTRL_MIN_LIVE (b.railOf n) 0
/-- R295. -/
def at_PhaseCurrents_8 : State :=
  let b : State := State.second;
  let n : Fin 32 := (0 : Fin 32); ((b.sl.up.md .regulate).mark F.PH_STATE_ASSIGNED n).modPh n (fun p => { p with smpN := 0, sw := .active, health := .ok, satRun := 4, obsCnt := 15 }) |>.set F.PH_PROT_PHW_CNT n 9 |> (fun (b : State) => b.set F.RP_MISC_PHW_N (b.railOf n) 1)
/-- States and operands that meet the conditions of `Obligations.PhaseCurrents`, clause by clause. -/
theorem test_meets_PhaseCurrents :
    (∃ (s : State) (n : Fin 32) (a : Int), s.Calm ∧ s.flag F.PH_STATE_ASSIGNED n = true ∧ s.mode ≠ .dormant ∧ -2048 ≤ a
      ∧ a ≤ 2047) ∧
    (∃ (t : Nat) (s : State) (n : Fin 32), s.Calm ∧ s.flag F.PH_STATE_ASSIGNED n = true ∧ s.mode ≠ .dormant
      ∧ ((s.ph n).sw.switching = false ∨ ((s.ph n).ended = false ∧ (State.at s t).passed n = true)) ∧ 2 ≤ (s.ph n).smpN) ∧
    (∃ (t : Nat) (s : State) (n : Fin 32), s.Calm ∧ s.flag F.PH_STATE_ASSIGNED n = true ∧ s.mode ≠ .dormant
      ∧ ((s.ph n).sw.switching = false ∨ ((s.ph n).ended = false ∧ (State.at s t).passed n = true)) ∧ (s.ph n).smpN < 2) ∧
    (∃ (s : State) (n : Fin 32), s.Still ∧ s.flag F.PH_STATE_ASSIGNED n = true ∧ 4 ≤ (s.ph n).satRun
      ∧ ((s.ph n).health = .ok ∨ (s.ph n).health = .watch) ∧ s.flag F.PH_STATE_PAIRED n = false) ∧
    (∃ (s : State) (n : Fin 32), s.Still ∧ s.flag F.PH_STATE_ASSIGNED n = true ∧ (s.ph n).sw.switching = true
      ∧ s.get F.PHC_OBS_OBS_N (s.railOf n) ≠ 0 ∧ s.get F.PHC_OBS_OBS_N (s.railOf n) ≤ (s.ph n).obsCnt
      ∧ ((s.ph n).health = .ok ∨ (s.ph n).health = .watch) ∧ s.flag F.PH_STATE_PAIRED n = false) ∧
    (∃ (s : State) (n : Fin 32) (m : Fin 32), s.Still ∧ s.flag F.PH_STATE_ASSIGNED n = true ∧ (s.ph n).sw.switching = true
      ∧ s.get F.PHC_OBS_OBS_N (s.railOf n) ≠ 0 ∧ s.get F.PHC_OBS_OBS_N (s.railOf n) ≤ (s.ph n).obsCnt
      ∧ ((s.ph n).health = .ok ∨ (s.ph n).health = .watch) ∧ s.partner n = some m ∧ m ≠ n ∧ (s.ph n).pairFailBoth = true
      ∧ s.flag F.PH_STATE_ASSIGNED m = true ∧ (s.ph m).health = .ok) ∧
    (∃ (s : State) (n : Fin 32), s.Still ∧ s.pow.cdUp = true ∧ s.mode ≠ .caretaker ∧ s.flag F.PH_STATE_ASSIGNED n = true
      ∧ (s.ph n).health = .failed ∧ (s.fr (s.railOf n)).failPend = true) ∧
    (∃ (s : State) (n : Fin 32), s.Still ∧ (s.ph n).sw.switching = true ∧ s.get F.RP_MISC_PHW_N (s.railOf n) ≠ 0
      ∧ s.get F.RP_MISC_PHW_N (s.railOf n) ≤ s.get F.PH_PROT_PHW_CNT n) :=
  ⟨⟨at_PhaseCurrents_1, (0 : Fin 32), ((0 : Nat) - 2048), by decide +kernel⟩,
    ⟨1000000000, at_PhaseCurrents_2, (6 : Fin 32), by decide +kernel⟩,
    ⟨1000000000, at_PhaseCurrents_3, (0 : Fin 32), by decide +kernel⟩,
    ⟨at_PhaseCurrents_4, (0 : Fin 32), by decide +kernel⟩,
    ⟨at_PhaseCurrents_5, (0 : Fin 32), by decide +kernel⟩,
    ⟨at_PhaseCurrents_6, (0 : Fin 32), ((0 : Fin 32) + 1), by decide +kernel⟩,
    ⟨at_PhaseCurrents_7, (0 : Fin 32), by decide +kernel⟩,
    ⟨at_PhaseCurrents_8, (0 : Fin 32), by decide +kernel⟩⟩

/-- R119: the code of VSP − VSN within the sense window. -/
def at_ErrorSamplesAndLargeSignal_1 : State :=
  let b : State := State.second;
  let r : Fin 8 := (0 : Fin 8); ((b.sl.up.md .regulate).rst r .reg).cf r (fun c => { c with present := true }) |>.clear F.RP_STATUS_SNS_AUX r |>.modFr r (fun f => { f with ls := .none, readyAt := some 0 })
/-- R307: outside the window the code stands and the run counts. -/
def at_ErrorSamplesAndLargeSignal_2 : State :=
  let b : State := State.second;
  let r : Fin 8 := (0 : Fin 8); ((b.sl.up.md .regulate).rst r .reg).cf r (fun c => { c with present := true }) |>.clear F.RP_STATUS_SNS_AUX r |>.modFr r (fun f => { f with ls := .none, readyAt := some 0 })
/-- R146, R147: the second sample beyond LS_UP_TH. -/
def at_ErrorSamplesAndLargeSignal_3 : State :=
  let b : State := State.second;
  let r : Fin 8 := (0 : Fin 8); ((b.sl.up.md .regulate).rst r .reg).cf r (fun c => { c with present := true }) |>.clear F.RP_STATUS_SNS_AUX r |>.modFr r (fun f => { f with ls := .none, readyAt := some 0 }) |>.set F.LS_CFG_LS_UP_TH r 5 |>.modFr r (fun f => { f with upRun := 1, noUpTill := 0 }) |>.modEng r (fun e => { e with dac := 3000 })
/-- R146: the second sample beyond LS_DN_TH. -/
def at_ErrorSamplesAndLargeSignal_4 : State :=
  let b : State := State.second;
  let r : Fin 8 := (0 : Fin 8); ((b.sl.up.md .regulate).rst r .reg).cf r (fun c => { c with present := true }) |>.clear F.RP_STATUS_SNS_AUX r |>.modFr r (fun f => { f with ls := .none, readyAt := some 0 }) |>.set F.LS_CFG_LS_DN_TH r 5 |>.modFr r (fun f => { f with dnRun := 1, noDnTill := 0 }) |>.modEng r (fun e => { e with dac := 1000 })
/-- R149: LS_MAX ends the action and holds its direction for 1 µs. -/
def at_ErrorSamplesAndLargeSignal_5 : State :=
  let b : State := State.second;
  let r : Fin 8 := (0 : Fin 8); ((b.sl.up.md .regulate).rst r .reg).cf r (fun c => { c with present := true }) |>.clear F.RP_STATUS_SNS_AUX r |>.modFr r (fun f => { f with ls := .under, readyAt := some 0 }) |>.modFr r (fun f => { f with lsAt := 3 })
/-- R148, R315. -/
def at_ErrorSamplesAndLargeSignal_6 : State :=
  let b : State := State.second;
  let r : Fin 8 := (0 : Fin 8); ((b.sl.up.md .regulate).rst r .reg).cf r (fun c => { c with present := true }) |>.clear F.RP_STATUS_SNS_AUX r |>.modFr r (fun f => { f with ls := .over, readyAt := some 0 }) |>.mark F.LS_CFG_BRAKE_EN r |>.clear F.ENG_STATUS_BRAKE_ACT r |>.clear F.RP_STATUS_BRK_INH r |>.set F.LS_CFG_LS_DN_TH r 3 |>.modFr r (fun f => { f with lsAt := 3, code := -500 }) |>.set F.RP_MISC_BRK_TMAX r 255 |> (fun (b : State) => (([1,4,7].foldl (fun (b : State) x => (b.mark F.PH_STATE_ASSIGNED x).set F.PH_STATE_RAIL x r) b).modPh 4 (fun p => { p with ihat := 9, sw := .active })) |> (fun (b : State) => (List.range 16).foldl (fun (b : State) i => (b.set F.TEMP_TFLT_HI_TEMP i 3).set F.TEMP_TFLT_LO_TEMP i 3) b))
/-- R315: no braking with a hot phase. -/
def at_ErrorSamplesAndLargeSignal_7 : State :=
  let b : State := State.second;
  let r : Fin 8 := (0 : Fin 8); ((b.sl.up.md .regulate).rst r .reg).cf r (fun c => { c with present := true }) |>.clear F.RP_STATUS_SNS_AUX r |>.modFr r (fun f => { f with ls := .over, readyAt := some 0 }) |>.mark F.LS_CFG_BRAKE_EN r |>.clear F.ENG_STATUS_BRAKE_ACT r |>.clear F.RP_STATUS_BRK_INH r |>.set F.LS_CFG_LS_DN_TH r 3 |>.modFr r (fun f => { f with lsAt := 3, code := -500 }) |>.set F.RP_MISC_BRK_TMAX r 0 |> (fun (b : State) => ([1,4,7].foldl (fun (b : State) x => (b.mark F.PH_STATE_ASSIGNED x).set F.PH_STATE_RAIL x r) b)) |>.modFr r (fun f => { f with brkRec := 0 })|> (fun (b : State) => (List.range 16).foldl (fun (b : State) i => (b.set F.TEMP_TFLT_HI_TEMP i 3).set F.TEMP_TFLT_LO_TEMP i 3) b)
/-- R315. -/
def at_ErrorSamplesAndLargeSignal_8 : State :=
  let b : State := State.second;
  let r : Fin 8 := (0 : Fin 8); b.cm.mark F.RP_STATUS_BRK_INH r |>.modFr r (fun f => { f with brkTill := 3 })
/-- States and operands that meet the conditions of `Obligations.ErrorSamplesAndLargeSignal`, clause by clause. -/
theorem test_meets_ErrorSamplesAndLargeSignal :
    (∃ (s : State) (r : Fin 8) (v : Int) (w : Int), s.Still ∧ s.mode ≠ .dormant ∧ s.mode ≠ .wake ∧ (s.cfg r).present = true
      ∧ s.drives r = true ∧ s.flag F.RP_STATUS_SNS_AUX r = false ∧ |v - w| ≤ s.get F.RP_SENSE_SNS_WIN r * 5000) ∧
    (∃ (s : State) (r : Fin 8) (v : Int) (w : Int), s.Still ∧ s.mode ≠ .dormant ∧ s.mode ≠ .wake ∧ (s.cfg r).present = true
      ∧ s.drives r = true ∧ s.flag F.RP_STATUS_SNS_AUX r = false ∧ s.get F.RP_SENSE_SNS_WIN r * 5000 < |v - w|) ∧
    (∃ (s : State) (r : Fin 8) (v : Int) (w : Int), s.Still ∧ s.mode ≠ .dormant ∧ s.mode ≠ .wake ∧ (s.cfg r).present = true
      ∧ s.drives r = true ∧ s.flag F.RP_STATUS_SNS_AUX r = false ∧ |v - w| ≤ s.get F.RP_SENSE_SNS_WIN r * 5000
      ∧ (s.fr r).ls = .none ∧ s.get F.LS_CFG_LS_UP_TH r ≠ 0 ∧ (s.fr r).upRun = 1 ∧ (s.fr r).noUpTill ≤ s.now
      ∧ s.get F.LS_CFG_LS_UP_TH r * 256 < s.codeOf r v * 64 - s.fLlt r) ∧
    (∃ (s : State) (r : Fin 8) (v : Int) (w : Int), s.Still ∧ s.mode ≠ .dormant ∧ s.mode ≠ .wake ∧ (s.cfg r).present = true
      ∧ s.drives r = true ∧ s.flag F.RP_STATUS_SNS_AUX r = false ∧ |v - w| ≤ s.get F.RP_SENSE_SNS_WIN r * 5000
      ∧ (s.fr r).ls = .none ∧ s.get F.LS_CFG_LS_DN_TH r ≠ 0 ∧ (s.fr r).dnRun = 1 ∧ (s.fr r).noDnTill ≤ s.now
      ∧ s.codeOf r v * 64 - s.fLlt r < -(s.get F.LS_CFG_LS_DN_TH r * 256 : Int)) ∧
    (∃ (s : State) (r : Fin 8), s.Calm ∧ (s.fr r).ls = .under ∧ (s.fr r).lsAt + s.get F.LS_CFG_LS_MAX r * 20 ≤ s.now) ∧
    (∃ (s : State) (r : Fin 8) (n : Fin 32), s.Still ∧ (s.fr r).ls = .over ∧ s.flag F.LS_CFG_BRAKE_EN r = true
      ∧ (s.fr r).lsAt + s.get F.LS_CFG_BRAKE_DLY r * 20 ≤ s.now ∧ s.lsErr r < -(s.get F.LS_CFG_LS_DN_TH r * 256 : Int)
      ∧ s.flag F.RP_STATUS_SNS_AUX r = false ∧ s.flag F.ENG_STATUS_BRAKE_ACT r = false ∧ s.flag F.RP_STATUS_BRK_INH r = false
      ∧ s.brakeHot r = false ∧ s.onRail r n = true ∧ (s.ph n).sw.switching = true ∧ 0 < (s.ph n).ihat) ∧
    (∃ (s : State) (r : Fin 8), s.Still ∧ (s.fr r).ls = .over ∧ s.flag F.LS_CFG_BRAKE_EN r = true
      ∧ (s.fr r).lsAt + s.get F.LS_CFG_BRAKE_DLY r * 20 ≤ s.now ∧ s.lsErr r < -(s.get F.LS_CFG_LS_DN_TH r * 256 : Int)
      ∧ s.flag F.RP_STATUS_SNS_AUX r = false ∧ s.flag F.ENG_STATUS_BRAKE_ACT r = false ∧ s.flag F.RP_STATUS_BRK_INH r = false
      ∧ s.brakeHot r = true ∧ (s.fr r).brkRec = 0) ∧
    (∃ (s : State) (r : Fin 8), s.Calm ∧ s.flag F.RP_STATUS_BRK_INH r = true ∧ (s.fr r).brkTill ≤ s.now) :=
  ⟨⟨at_ErrorSamplesAndLargeSignal_1, (0 : Fin 8), 0, 0, by decide +kernel⟩,
    ⟨at_ErrorSamplesAndLargeSignal_2, (0 : Fin 8), 800000, 3000000, by decide +kernel⟩,
    ⟨at_ErrorSamplesAndLargeSignal_3, (0 : Fin 8), 1000000, 1000000, by decide +kernel⟩,
    ⟨at_ErrorSamplesAndLargeSignal_4, (0 : Fin 8), 1900000, 1900000, by decide +kernel⟩,
    ⟨at_ErrorSamplesAndLargeSignal_5, (0 : Fin 8), by decide +kernel⟩,
    ⟨at_ErrorSamplesAndLargeSignal_6, (0 : Fin 8), 4, by decide +kernel⟩,
    ⟨at_ErrorSamplesAndLargeSignal_7, (0 : Fin 8), by decide +kernel⟩,
    ⟨at_ErrorSamplesAndLargeSignal_8, (0 : Fin 8), by decide +kernel⟩⟩

/-- R181, R187. -/
def at_PhasesComeAndGo_1 : State :=
  let b : State := State.second;
  let n : Fin 32 := (0 : Fin 32); ((b.sl.up.md .regulate).mark F.PH_STATE_ASSIGNED n).modPh n (fun p => { p with sw := .adding, periods := 70000, triPend := false, braking := false }) |> (fun (b : State) => b.rst (b.railOf n) .reg)
/-- R182, R183: the dwell is over. -/
def at_PhasesComeAndGo_2 : State :=
  let b : State := State.second;
  let b := b.sl.up.md .regulate;
  let b := [0,3,5,9].foldl (fun (b : State) n => ((b.mark F.PH_STATE_ASSIGNED n).set F.PH_STATE_RAIL n 2).modPh (Fin.ofNat 32 n) (fun p => { p with sw := .active, health := .ok })) b;
  let b := (b.rst 2 .reg).clear F.PHC_STATUS_ADD_PEND 2;
  let b := ({ b with br.c3 := [] }).modRail 2 (fun x => { x with tn := [], eng := { x.eng with iSF := -5, lowSince := some 3, addWant := 0 }, fr := { x.fr with ls := .none } }); (([F.PHC_CTRL_MIN_ACTIVE, F.PHC_CTRL_FW_NMIN, F.PHC_TIME_SHED_DWELL].foldl (fun (b : State) f => b.set f 2 1) b).set F.PHC_HW_HW_SHED 2 500).set F.PHC_CTRL_FW_NMIN 2 0
/-- R183: at or below 2 A, or after 2 × SHED_RAMP periods. -/
def at_PhasesComeAndGo_3 : State :=
  let b : State := State.second;
  let n : Fin 32 := (0 : Fin 32); ((b.sl.up.md .regulate).mark F.PH_STATE_ASSIGNED n).modPh n (fun p => { p with sw := .shedding, periods := 1, triPend := false, braking := false }) |> (fun (b : State) => b.rst (b.railOf n) .reg) |>.set F.PH_CUR_I_AVG n (16 - 0)
/-- R185. -/
def at_PhasesComeAndGo_4 : State :=
  let b : State := State.tuned;
  let b := b.sl.up.md .regulate;
  let b := [0,3,5,9].foldl (fun (b : State) n => ((b.mark F.PH_STATE_ASSIGNED n).set F.PH_STATE_RAIL n 2).modPh (Fin.ofNat 32 n) (fun p => { p with sw := if n = 0 then .active else .idle, health := .ok })) b;
  let b := (b.rst 2 .reg).clear F.PHC_STATUS_ADD_PEND 2;
  let b := ({ b with br.c3 := [] }).modRail 2 (fun x => { x with tn := [], cfg := { x.cfg with deEnter := 50, spans := false }, eng := { x.eng with iSF := -5, deSince := some 3, addWant := 0 }, fr := { x.fr with ls := .none } }); (([F.PHC_CTRL_MIN_ACTIVE, F.PHC_TIME_DE_DWELL, F.PHC_CTRL_DE_ALLOW].foldl (fun (b : State) f => b.set f 2 1) b).set F.PHC_CTRL_FW_NMIN 2 0) |>.set F.PWM_CTRL_FORCE_TRI 2 0 |> (fun (b : State) => (List.range 32).foldl (fun (b : State) n => if [0,3,5,9].contains n then b else b.clear F.PH_STATE_ASSIGNED n) b)
/-- R195, R196, R199, R177, R197, R207: the counter of the phase has passed 0. -/
def at_PhasesComeAndGo_5 : State :=
  let b : State := State.second;
  let n : Fin 32 := (0 : Fin 32); ((b.sl.up.md .regulate).mark F.PH_STATE_ASSIGNED n).modPh n (fun p => { p with sw := .active, periods := 3, triPend := false, braking := false }) |> (fun (b : State) => b.rst (b.railOf n) .reg) |>.modPh n (fun p => { p with nextAt := 12800000000 - 0, bstDue := 0 = 0 }) |>.set F.PWM_PERIOD_PERIOD n 6000
/-- R196: the counter has not passed 0. -/
def at_PhasesComeAndGo_6 : State :=
  let b : State := State.second;
  let n : Fin 32 := (0 : Fin 32); ((b.sl.up.md .regulate).mark F.PH_STATE_ASSIGNED n).modPh n (fun p => { p with sw := .active, periods := 3, triPend := false, braking := false }) |> (fun (b : State) => b.rst (b.railOf n) .reg) |>.modPh n (fun p => { p with nextAt := 12800000999 })
/-- R164, R219: a stopped phase goes to tri-state at its period start. -/
def at_PhasesComeAndGo_7 : State :=
  let b : State := State.second;
  let n : Fin 32 := (0 : Fin 32); ((b.sl.up.md .regulate).mark F.PH_STATE_ASSIGNED n).modPh n (fun p => { p with sw := .stopped, periods := 3, triPend := false, braking := false }) |> (fun (b : State) => b.rst (b.railOf n) .reg) |>.modPh n (fun p => { p with nextAt := 12800000000 - 0, triPend := true }) |>.set F.PWM_PERIOD_PERIOD n 6000
/-- R207. -/
def at_PhasesComeAndGo_8 : State :=
  let b : State := State.second;
  let n : Fin 32 := (0 : Fin 32); ((b.sl.up.md .regulate).mark F.PH_STATE_ASSIGNED n).modPh n (fun p => { p with sw := .active, periods := 3, triPend := false, braking := false }) |> (fun (b : State) => b.rst (b.railOf n) .reg) |>.set F.PWM_CTRL_BST_N n 1 |>.set F.PWM_STATUS_FULL_CNT n 5
/-- States and operands that meet the conditions of `Obligations.PhasesComeAndGo`, clause by clause. -/
theorem test_meets_PhasesComeAndGo :
    (∃ (s : State) (n : Fin 32), s.Still ∧ (s.ph n).sw = .adding ∧ s.get F.PHC_OBS_OBS_SETTLE (s.railOf n) ≤ (s.ph n).periods) ∧
    (∃ (s : State) (r : Fin 8) (n : Fin 32) (a : Nat), s.Calm ∧ (s.eng r).lowSince = some a ∧ s.shedPick r = some n
      ∧ s.shedWanted r = true ∧ a + s.get F.PHC_TIME_SHED_DWELL r * 100000 ≤ s.now) ∧
    (∃ (s : State) (n : Fin 32), s.Still ∧ (s.ph n).sw = .shedding ∧ s.sheds (s.railOf n) = true ∧ ((1 ≤ (s.ph n).periods
      ∧ s.getI F.PH_CUR_I_AVG n ≤ 16) ∨ 2 * s.get F.PHC_TIME_SHED_RAMP (s.railOf n) ≤ (s.ph n).periods)) ∧
    (∃ (t : Nat) (s : State) (r : Fin 8) (a : Nat), s.Still ∧ (s.eng r).deSince = some a ∧ s.deWanted r = true
      ∧ (s.fr r).failAt ≠ some (max s.now t) ∧ a + s.get F.PHC_TIME_DE_DWELL r * 100000 ≤ s.now) ∧
    (∃ (t : Nat) (s : State) (n : Fin 32) (z : Nat) (q : Nat) (m : Int), s.Still ∧ s.flag F.PH_STATE_ASSIGNED n = true
      ∧ s.mode ≠ .dormant ∧ (s.ph n).sw.switching = true ∧ (s.ph n).triPend = false ∧ (State.at s t).passed n = true
      ∧ s.heldTri n = false ∧ z = (State.at s t).startTick n ∧ q = since (s.period n) (s.fr (s.railOf n)).rcAt z
      ∧ m = moveDelta (s.period n) q (s.get F.PH_PLACE_OFFSET n)) ∧
    (∃ (t : Nat) (s : State) (n : Fin 32), s.Calm ∧ (State.at s t).passed n = false) ∧
    (∃ (t : Nat) (s : State) (n : Fin 32), s.Still ∧ s.flag F.PH_STATE_ASSIGNED n = true ∧ s.mode ≠ .dormant
      ∧ ((s.ph n).triPend = true ∨ ((s.ph n).sw.switching = true ∧ s.heldTri n = true)) ∧ (State.at s t).passed n = true) ∧
    (∃ (s : State) (n : Fin 32), s.Calm ∧ (s.ph n).sw.switching = true ∧ s.get F.PWM_CTRL_BST_N n ≠ 0
      ∧ s.get F.PWM_CTRL_BST_N n ≤ s.get F.PWM_STATUS_FULL_CNT n) :=
  ⟨⟨at_PhasesComeAndGo_1, (0 : Fin 32), by decide +kernel⟩,
    ⟨at_PhasesComeAndGo_2, 2, (((at_PhasesComeAndGo_2).shedPick 2).getD 0), 3, by decide +kernel⟩,
    ⟨at_PhasesComeAndGo_3, (0 : Fin 32), by decide +kernel⟩,
    ⟨1000000000, at_PhasesComeAndGo_4, 2, 3, by decide +kernel⟩,
    ⟨1000000000, at_PhasesComeAndGo_5, (0 : Fin 32), ((State.at (at_PhasesComeAndGo_5) 1000000000).startTick (0 : Fin 32)), (since
      ((at_PhasesComeAndGo_5).period (0 : Fin 32)) ((at_PhasesComeAndGo_5).fr ((at_PhasesComeAndGo_5).railOf (0 : Fin 32))).rcAt
      ((State.at (at_PhasesComeAndGo_5) 1000000000).startTick (0 : Fin 32))), (moveDelta ((at_PhasesComeAndGo_5).period (0 : Fin
      32)) (since ((at_PhasesComeAndGo_5).period (0 : Fin 32)) ((at_PhasesComeAndGo_5).fr ((at_PhasesComeAndGo_5).railOf (0 : Fin
      32))).rcAt ((State.at (at_PhasesComeAndGo_5) 1000000000).startTick (0 : Fin 32))) ((at_PhasesComeAndGo_5).get
      F.PH_PLACE_OFFSET (0 : Fin 32))), by decide +kernel⟩,
    ⟨1000000000, at_PhasesComeAndGo_6, (0 : Fin 32), by decide +kernel⟩,
    ⟨1000000000, at_PhasesComeAndGo_7, (0 : Fin 32), by decide +kernel⟩,
    ⟨at_PhasesComeAndGo_8, (0 : Fin 32), by decide +kernel⟩⟩

/-- R209, R210. -/
def at_CutsAndLatches_1 : State :=
  let b : State := State.second;
  let n : Fin 32 := (0 : Fin 32);
  let b := b.onRails (fun b r => b.modFr r (fun f => { f with senAt := 9 })); ((b.sl.up.md .regulate).mark F.PH_STATE_ASSIGNED n).modPh n (fun p => { p with sw := .active, chgAt := 0, cutAny := 0 = 0 }) |>.set F.PWM_STATUS_LEVEL n 2 |>.clear F.PH_STATE_PAIRED n |> (fun (b : State) => (b.rst (b.railOf n) .reg).mark F.SEN_CFG_SEN_STATE (b.railOf n)) |>.modPh n (fun p => { p with pulse := true, onAt := 12800000000 - 900, ton := 3000, pairShift := 0, pairCut := 0, ended := false, triPend := false, braking := false, npkTri := false, cutNow := false, skipFirst := false, offAt := 0, triAt := 0, nextAt := 12800006000, bstTill := 0, seenAt := 12800000000 - 10 }) |>.modFr (b.railOf n) (fun f => { f with ls := .none, fallAt := none, started := true }) |>.clear F.PWM_STATUS_TFLT_FAULT n
/-- R209: no fault. -/
def at_CutsAndLatches_2 : State :=
  let b : State := State.second;
  let n : Fin 32 := (0 : Fin 32);
  let b := b.onRails (fun b r => b.modFr r (fun f => { f with senAt := 9 })); ((b.sl.up.md .regulate).mark F.PH_STATE_ASSIGNED n).modPh n (fun p => { p with sw := .active, chgAt := 0, cutAny := 0 = 0 }) |>.set F.PWM_STATUS_LEVEL n 2 |>.clear F.PH_STATE_PAIRED n |> (fun (b : State) => (b.rst (b.railOf n) .reg).mark F.SEN_CFG_SEN_STATE (b.railOf n))
/-- R293, R210. -/
def at_CutsAndLatches_3 : State :=
  let b : State := State.second;
  let n : Fin 32 := (0 : Fin 32);
  let b := b.onRails (fun b r => b.modFr r (fun f => { f with senAt := 9 })); ((b.sl.up.md .regulate).mark F.PH_STATE_ASSIGNED n).modPh n (fun p => { p with sw := .active, chgAt := 0, cutAny := 0 = 0 }) |>.set F.PWM_STATUS_LEVEL n 2 |>.clear F.PH_STATE_PAIRED n |> (fun (b : State) => (b.rst (b.railOf n) .reg).mark F.SEN_CFG_SEN_STATE (b.railOf n)) |>.modPh n (fun p => { p with pulse := true, onAt := 12800000000 - 900, ton := 3000, pairShift := 0, pairCut := 0, ended := false, triPend := false, braking := false, npkTri := false, cutNow := false, skipFirst := false, offAt := 0, triAt := 0, nextAt := 12800006000, bstTill := 0, seenAt := 12800000000 - 10 }) |>.modFr (b.railOf n) (fun f => { f with ls := .none, fallAt := none, started := true }) |>.clear F.PWM_STATUS_TFLT_FAULT n
/-- R210: a trip while the output is not HIGH cuts nothing. -/
def at_CutsAndLatches_4 : State :=
  let b : State := State.second;
  let n : Fin 32 := (0 : Fin 32);
  let b := b.onRails (fun b r => b.modFr r (fun f => { f with senAt := 9 })); ((b.sl.up.md .regulate).mark F.PH_STATE_ASSIGNED n).modPh n (fun p => { p with sw := .active, chgAt := 0, cutAny := 0 = 0 }) |>.set F.PWM_STATUS_LEVEL n 2 |>.clear F.PH_STATE_PAIRED n |> (fun (b : State) => (b.rst (b.railOf n) .reg).mark F.SEN_CFG_SEN_STATE (b.railOf n)) |>.set F.PWM_STATUS_LEVEL n 0
/-- R294. -/
def at_CutsAndLatches_5 : State :=
  let b : State := State.second;
  let n : Fin 32 := (0 : Fin 32);
  let b := b.onRails (fun b r => b.modFr r (fun f => { f with senAt := 9 })); ((b.sl.up.md .regulate).mark F.PH_STATE_ASSIGNED n).modPh n (fun p => { p with sw := .active, chgAt := 0, cutAny := 0 = 0 }) |>.set F.PWM_STATUS_LEVEL n 2 |>.clear F.PH_STATE_PAIRED n |> (fun (b : State) => (b.rst (b.railOf n) .reg).mark F.SEN_CFG_SEN_STATE (b.railOf n)) |>.set F.PWM_STATUS_LEVEL n 1 |>.set F.PKP_CFG_NPK_LIM n 40
/-- R216: 2 µs of fault latch the phase. -/
def at_CutsAndLatches_6 : State :=
  let b : State := State.second;
  let n : Fin 32 := (0 : Fin 32);
  let b := b.onRails (fun b r => b.modFr r (fun f => { f with senAt := 9 })); ((b.sl.up.md .regulate).mark F.PH_STATE_ASSIGNED n).modPh n (fun p => { p with sw := .active, chgAt := 0, cutAny := 0 = 0 }) |>.set F.PWM_STATUS_LEVEL n 2 |>.clear F.PH_STATE_PAIRED n |> (fun (b : State) => (b.rst (b.railOf n) .reg).mark F.SEN_CFG_SEN_STATE (b.railOf n)) |>.clear F.PWM_STATUS_TFLT_LATCH n |>.mark F.PWM_STATUS_TFLT_FAULT n |>.modPh n (fun p => { p with faultSince := some 4 }) |> (fun (b : State) => b.set F.PHC_CTRL_MIN_LIVE (b.railOf n) 0)
/-- R217. -/
def at_CutsAndLatches_7 : State :=
  let b : State := State.second;
  let n : Fin 32 := (0 : Fin 32);
  let b := b.onRails (fun b r => b.modFr r (fun f => { f with senAt := 9 })); ((b.sl.up.md .regulate).mark F.PH_STATE_ASSIGNED n).modPh n (fun p => { p with sw := .active, chgAt := 0, cutAny := 0 = 0 }) |>.set F.PWM_STATUS_LEVEL n 2 |>.clear F.PH_STATE_PAIRED n |> (fun (b : State) => (b.rst (b.railOf n) .reg).mark F.SEN_CFG_SEN_STATE (b.railOf n)) |>.mark F.PWM_STATUS_TFLT_LATCH n |>.clear F.PWM_STATUS_TFLT_FAULT n |>.modPh n (fun p => { p with okSince := some 4, tfltHeld := false, sw := .stopped })
/-- R217: a held phase stays latched. -/
def at_CutsAndLatches_8 : State :=
  let b : State := State.second;
  let n : Fin 32 := (0 : Fin 32);
  let b := b.onRails (fun b r => b.modFr r (fun f => { f with senAt := 9 })); ((b.sl.up.md .regulate).mark F.PH_STATE_ASSIGNED n).modPh n (fun p => { p with sw := .active, chgAt := 0, cutAny := 0 = 0 }) |>.set F.PWM_STATUS_LEVEL n 2 |>.clear F.PH_STATE_PAIRED n |> (fun (b : State) => (b.rst (b.railOf n) .reg).mark F.SEN_CFG_SEN_STATE (b.railOf n)) |>.mark F.PWM_STATUS_TFLT_LATCH n |>.clear F.PWM_STATUS_TFLT_FAULT n |>.modPh n (fun p => { p with okSince := some 4, tfltHeld := true })
/-- R212: HICCUP. -/
def at_CutsAndLatches_9 : State :=
  let b : State := State.second;
  let n : Fin 32 := (0 : Fin 32);
  let b := b.onRails (fun b r => b.modFr r (fun f => { f with senAt := 9 })); ((b.sl.up.md .regulate).mark F.PH_STATE_ASSIGNED n).modPh n (fun p => { p with sw := .active, chgAt := 0, cutAny := 0 = 0 }) |>.set F.PWM_STATUS_LEVEL n 2 |>.clear F.PH_STATE_PAIRED n |> (fun (b : State) => (b.rst (b.railOf n) .reg).mark F.SEN_CFG_SEN_STATE (b.railOf n)) |>.set F.PWM_CTRL_CUT_N n 1 |>.set F.PWM_STATUS_CUT_CNT n 4 |>.clear F.MODE_STATUS_SHUTDOWN_ACT |> (fun (b : State) => ((b.set F.HIC_CFG_HIC_RETRY (b.railOf n) 3).set F.HIC_STATUS_RETRY_CNT (b.railOf n) 0).clear F.HIC_CFG_HIC_UNLIM (b.railOf n)) |> (fun (b : State) => b.cf (b.railOf n) (fun c => { c with critical := false }))
/-- R212: the retries are used up, LATCHED. -/
def at_CutsAndLatches_10 : State :=
  let b : State := State.second;
  let n : Fin 32 := (0 : Fin 32);
  let b := b.onRails (fun b r => b.modFr r (fun f => { f with senAt := 9 })); ((b.sl.up.md .regulate).mark F.PH_STATE_ASSIGNED n).modPh n (fun p => { p with sw := .active, chgAt := 0, cutAny := 0 = 0 }) |>.set F.PWM_STATUS_LEVEL n 2 |>.clear F.PH_STATE_PAIRED n |> (fun (b : State) => (b.rst (b.railOf n) .reg).mark F.SEN_CFG_SEN_STATE (b.railOf n)) |>.set F.PWM_CTRL_CUT_N n 1 |>.set F.PWM_STATUS_CUT_CNT n 4 |>.clear F.MODE_STATUS_SHUTDOWN_ACT |> (fun (b : State) => ((b.set F.HIC_CFG_HIC_RETRY (b.railOf n) 3).set F.HIC_STATUS_RETRY_CNT (b.railOf n) 3).clear F.HIC_CFG_HIC_UNLIM (b.railOf n)) |> (fun (b : State) => b.cf (b.railOf n) (fun c => { c with critical := false }))
/-- R287: a critical rail, T9. -/
def at_CutsAndLatches_11 : State :=
  let b : State := State.second;
  let n : Fin 32 := (0 : Fin 32);
  let b := b.onRails (fun b r => b.modFr r (fun f => { f with senAt := 9 })); ((b.sl.up.md .regulate).mark F.PH_STATE_ASSIGNED n).modPh n (fun p => { p with sw := .active, chgAt := 0, cutAny := 0 = 0 }) |>.set F.PWM_STATUS_LEVEL n 2 |>.clear F.PH_STATE_PAIRED n |> (fun (b : State) => (b.rst (b.railOf n) .reg).mark F.SEN_CFG_SEN_STATE (b.railOf n)) |>.set F.PWM_CTRL_CUT_N n 1 |>.set F.PWM_STATUS_CUT_CNT n 4 |>.clear F.MODE_STATUS_SHUTDOWN_ACT |> (fun (b : State) => ((b.set F.HIC_CFG_HIC_RETRY (b.railOf n) 3).set F.HIC_STATUS_RETRY_CNT (b.railOf n) 3).clear F.HIC_CFG_HIC_UNLIM (b.railOf n)) |> (fun (b : State) => b.cf (b.railOf n) (fun c => { c with critical := true }))
/-- R213: SEN rises SEN_LEAD before the retry. -/
def at_CutsAndLatches_12 : State :=
  let b : State := State.second;
  let r : Fin 8 := (0 : Fin 8); ((b.sl.md .hiccup).rst r .hiccup).clear F.SEN_CFG_SEN_STATE r |>.modFr r (fun f => { f with hicAt := 9 }) |>.set F.HIC_CFG_HIC_OFF r 0
/-- R213: the retry. -/
def at_CutsAndLatches_13 : State :=
  let b : State := State.second;
  let r : Fin 8 := (0 : Fin 8); (((b.sl.md .hiccup).rst r .hiccup).mark F.SEN_CFG_SEN_STATE r |>.modFr r (fun f => { f with hicAt := 9 }) |>.set F.HIC_CFG_HIC_OFF r 0).set F.PHC_CTRL_MIN_LIVE r 0 |> (fun (b : State) => (List.range 32).foldl (fun (b : State) i => b.clear F.PWM_STATUS_TFLT_FAULT i) b)
/-- R214. -/
def at_CutsAndLatches_14 : State :=
  let b : State := State.second;
  let r : Fin 8 := (0 : Fin 8); ({ b.cm with now := 3000000000 }.rst r .reg).modFr r (fun f => { f with regAt := 5 })
/-- States and operands that meet the conditions of `Obligations.CutsAndLatches`, clause by clause. -/
theorem test_meets_CutsAndLatches :
    (∃ (t : Nat) (s : State) (n : Fin 32), s.Still ∧ s.senHigh n = true ∧ s.mode ≠ .dormant
      ∧ ((State.at s t).look n).level n = .high ∧ ((State.at s t).look n).blanked n = false) ∧
    (∃ (s : State) (n : Fin 32), s.Calm ∧ s.senHigh n = true ∧ s.mode ≠ .dormant) ∧
    (∃ (t : Nat) (s : State) (n : Fin 32), s.Still ∧ ((State.at s t).look n).level n = .high
      ∧ ((State.at s t).look n).blanked n = false) ∧
    (∃ (t : Nat) (s : State) (n : Fin 32), s.Calm ∧ ((State.at s t).look n).level n ≠ .high) ∧
    (∃ (t : Nat) (s : State) (n : Fin 32), s.Still ∧ s.get F.PKP_CFG_NPK_LIM n ≠ 0 ∧ ((State.at s t).look n).level n = .low
      ∧ ((State.at s t).look n).blanked n = false) ∧
    (∃ (s : State) (n : Fin 32) (a : Nat), s.Still ∧ s.flag F.PH_STATE_ASSIGNED n = true
      ∧ s.flag F.PWM_STATUS_TFLT_LATCH n = false ∧ (s.ph n).faultSince = some a ∧ s.senHigh n = true
      ∧ (s.fr (s.railOf n)).senAt + 2000 ≤ s.now ∧ s.flag F.PWM_STATUS_TFLT_FAULT n = true ∧ a + 2000 ≤ s.now) ∧
    (∃ (s : State) (n : Fin 32) (a : Nat), s.Still ∧ s.flag F.PWM_STATUS_TFLT_LATCH n = true ∧ (s.ph n).tfltHeld = false
      ∧ (s.ph n).okSince = some a ∧ a + 100000 ≤ s.now ∧ s.senHigh n = true ∧ (s.fr (s.railOf n)).senAt + 100000 ≤ s.now
      ∧ s.flag F.PWM_STATUS_TFLT_FAULT n = false) ∧
    (∃ (s : State) (n : Fin 32), s.Calm ∧ (s.ph n).tfltHeld = true) ∧
    (∃ (s : State) (n : Fin 32), s.Still ∧ s.flag F.PH_STATE_ASSIGNED n = true ∧ s.get F.PWM_CTRL_CUT_N n ≠ 0
      ∧ s.get F.PWM_CTRL_CUT_N n ≤ s.get F.PWM_STATUS_CUT_CNT n ∧ (s.st (s.railOf n)).switching = true
      ∧ s.flag F.MODE_STATUS_SHUTDOWN_ACT = false ∧ s.mode.running = true
      ∧ (s.get F.HIC_STATUS_RETRY_CNT (s.railOf n) < s.get F.HIC_CFG_HIC_RETRY (s.railOf n) ∨ s.flag F.HIC_CFG_HIC_UNLIM (s.railOf
      n) = true)) ∧
    (∃ (s : State) (n : Fin 32), s.Still ∧ s.flag F.PH_STATE_ASSIGNED n = true ∧ s.get F.PWM_CTRL_CUT_N n ≠ 0
      ∧ s.get F.PWM_CTRL_CUT_N n ≤ s.get F.PWM_STATUS_CUT_CNT n ∧ (s.st (s.railOf n)).switching = true
      ∧ s.flag F.MODE_STATUS_SHUTDOWN_ACT = false ∧ s.mode.running = true ∧ s.flag F.HIC_CFG_HIC_UNLIM (s.railOf n) = false
      ∧ s.get F.HIC_CFG_HIC_RETRY (s.railOf n) ≤ s.get F.HIC_STATUS_RETRY_CNT (s.railOf n)
      ∧ (s.cfg (s.railOf n)).critical = false) ∧
    (∃ (s : State) (n : Fin 32), s.Still ∧ s.flag F.PH_STATE_ASSIGNED n = true ∧ s.get F.PWM_CTRL_CUT_N n ≠ 0
      ∧ s.get F.PWM_CTRL_CUT_N n ≤ s.get F.PWM_STATUS_CUT_CNT n ∧ (s.st (s.railOf n)).switching = true
      ∧ s.flag F.MODE_STATUS_SHUTDOWN_ACT = false ∧ s.mode.running = true ∧ s.flag F.HIC_CFG_HIC_UNLIM (s.railOf n) = false
      ∧ s.get F.HIC_CFG_HIC_RETRY (s.railOf n) ≤ s.get F.HIC_STATUS_RETRY_CNT (s.railOf n) ∧ (s.cfg (s.railOf n)).critical = true) ∧
    (∃ (s : State) (r : Fin 8), s.Still ∧ s.st r = .hiccup ∧ s.mode.running = true ∧ s.flag F.SEN_CFG_SEN_STATE r = false
      ∧ (s.fr r).hicAt + (s.hicOff r - s.get F.SEN_CFG_SEN_LEAD r * 1000) ≤ s.now) ∧
    (∃ (s : State) (r : Fin 8), s.Still ∧ s.st r = .hiccup ∧ s.flag F.SEN_CFG_SEN_STATE r = true
      ∧ (s.fr r).hicAt + s.hicOff r ≤ s.now ∧ s.isMember r = false ∧ s.mode.running = true
      ∧ (∀ n, s.onRail r n = true → s.flag F.PWM_STATUS_TFLT_FAULT n = false) ∧ s.get F.PHC_CTRL_MIN_LIVE r ≤ (s.liveOf r).length) ∧
    (∃ (s : State) (r : Fin 8), s.Calm ∧ (s.st r = .reg ∨ s.st r = .shed) ∧ (s.fr r).regAt + 1000000000 ≤ s.now) :=
  ⟨⟨1000000000, at_CutsAndLatches_1, (0 : Fin 32), by decide +kernel⟩,
    ⟨at_CutsAndLatches_2, (0 : Fin 32), by decide +kernel⟩,
    ⟨1000000000, at_CutsAndLatches_3, (0 : Fin 32), by decide +kernel⟩,
    ⟨1000000000, at_CutsAndLatches_4, (0 : Fin 32), by decide +kernel⟩,
    ⟨1000000000, at_CutsAndLatches_5, (0 : Fin 32), by decide +kernel⟩,
    ⟨at_CutsAndLatches_6, (0 : Fin 32), 4, by decide +kernel⟩,
    ⟨at_CutsAndLatches_7, (0 : Fin 32), 4, by decide +kernel⟩,
    ⟨at_CutsAndLatches_8, (0 : Fin 32), by decide +kernel⟩,
    ⟨at_CutsAndLatches_9, (0 : Fin 32), by decide +kernel⟩,
    ⟨at_CutsAndLatches_10, (0 : Fin 32), by decide +kernel⟩,
    ⟨at_CutsAndLatches_11, (0 : Fin 32), by decide +kernel⟩,
    ⟨at_CutsAndLatches_12, (0 : Fin 8), by decide +kernel⟩,
    ⟨at_CutsAndLatches_13, (0 : Fin 8), by decide +kernel⟩,
    ⟨at_CutsAndLatches_14, (0 : Fin 8), by decide +kernel⟩⟩

/-- R218. -/
def at_StartsAndStops_1 : State :=
  let b : State := State.second;
  let r : Fin 8 := (0 : Fin 8); ((((({ b.sl.md .regulate with pow.noArm := false, pow.vddActs := false, cj.refused := false, par.xtalReq := false, pow.fpllOff := false }).cf r (fun c => { c with present := true, enabled := true, region := 2 })).rst r .armed).clear F.RP_STATUS_PRE_HOLD r).clear F.MODE_STATUS_SHUTDOWN_ACT).mark F.SEN_CFG_SEN_STATE r |> (fun (b : State) => { b with pow := { b.pow with en := Vector.replicate 4 true } }) |>.modFr r (fun f => { f with senAt := 9 })
/-- R100, R155: RAMP with the engine states at 0. -/
def at_StartsAndStops_2 : State :=
  let b : State := State.second;
  let r : Fin 8 := (0 : Fin 8); (((b.sl.md .regulate).rst r .armed).modRail r (fun x => { x with cfg := { x.cfg with spans := false }, fr := { x.fr with passed := true, senLead := true, inStart := false }, eng := { x.eng with vinAt := some 3 } })).clear F.MODE_STATUS_SHUTDOWN_ACT |>.set F.PHC_CTRL_MIN_LIVE r 0
/-- R141. -/
def at_StartsAndStops_3 : State :=
  let b : State := State.second;
  let r : Fin 8 := (0 : Fin 8); ((b.sl.md .regulate).rst r .ramp).modFr r (fun f => { f with started := false })
/-- R219: OFF. -/
def at_StartsAndStops_4 : State :=
  let b : State := State.second;
  let r : Fin 8 := (0 : Fin 8); ((b.sl.md .regulate).rst r .rampdown).modFr r (fun f => { f with fallAt := some 4, stop := .toOff }) |> (fun (b : State) => b.onPhases (fun b n => (b.modPh n (fun p => { p with triAt := 0, triPend := false })).set F.PWM_STATUS_LEVEL n 0)) |>.set F.SEN_CFG_SEN_LAG r 9 |>.mark F.MODE_STATUS_SHUTDOWN_ACT
/-- R219, R288: LATCHED. -/
def at_StartsAndStops_5 : State :=
  let b : State := State.second;
  let r : Fin 8 := (0 : Fin 8); ((b.sl.md .regulate).rst r .rampdown).modFr r (fun f => { f with fallAt := some 4, stop := .toLatched, stopCause := 0 }) |> (fun (b : State) => b.onPhases (fun b n => (b.modPh n (fun p => { p with triAt := 0, triPend := false })).set F.PWM_STATUS_LEVEL n 0)) |>.set F.SEN_CFG_SEN_LAG r 9
/-- R204: a write of 1. -/
def at_StartsAndStops_6 : State :=
  let b : State := State.second;
  let n : Fin 32 := (0 : Fin 32); (({ b.sl.p2 with cz1604 := false }).mark F.PH_STATE_ASSIGNED n).clear F.PWM_CTRL_FORCE_TRI n |> (fun (b : State) => b.set F.PHC_CTRL_MIN_LIVE (b.railOf n) 0)
/-- R204: a write of 0. -/
def at_StartsAndStops_7 : State :=
  let b : State := State.second;
  let n : Fin 32 := (0 : Fin 32); (((((({ b.sl.p2 with cz1604 := false }).mark F.PH_STATE_ASSIGNED n).mark F.PWM_CTRL_FORCE_TRI n).clear F.PWM_STATUS_TFLT_LATCH n).clear F.PH_PROT_PHW_STOP n).clear F.COH_HOLD_HOLD).modPh n (fun p => { p with tfltHeld := false, health := .ok, sw := .stopped }) |> (fun (b : State) => b.rst (b.railOf n) .reg)
/-- R203: INVERT with the rail OFF in SERVICE. -/
def at_StartsAndStops_8 : State :=
  let b : State := State.second;
  let n : Fin 32 := (0 : Fin 32); (({ (b.cm.p3 1).md .service |>.mark F.PARSE_STATUS_DONE with cz1604 := false }).clear F.PWM_CTRL_INVERT n) |> (fun (b : State) => b.rst (b.railOf n) .off)
/-- R203: SWAP of a pair takes both partners in one access. -/
def at_StartsAndStops_9 : State :=
  let b : State := State.second;
  let n : Fin 32 := (0 : Fin 32); (({ (b.cm.p3 1).md .service |>.mark F.PARSE_STATUS_DONE with cz1604 := false }).clear F.PWM_CTRL_SWAP n).mark F.PH_STATE_PAIRED n |>.set F.PH_STATE_PAIR_ID n (n.val % 8) |> (fun (b : State) => b.rst (b.railOf n) .off)
/-- R203: refused otherwise. -/
def at_StartsAndStops_10 : State :=
  let b : State := State.second;
  let n : Fin 32 := (0 : Fin 32); (({ (b.cm.p3 1).md .service |>.mark F.PARSE_STATUS_DONE with cz1604 := false }).clear F.PWM_CTRL_INVERT n) |> (fun (b : State) => b.rst (b.railOf n) .latched)
/-- R221: four periods near PERIOD are followed. -/
def at_StartsAndStops_11 : State :=
  let b : State := State.second;
  let b := ((b.cm.md .regulate).mark F.SYNC_CFG_SYNC_EN).set F.SYNC_STATUS_SYNC_LOCK 0 1;
  let e := max 1000000000 12800000000 + (BitVec.ofNat 4 0).toNat % 13 + min (BitVec.ofNat 3 0).toNat 4 - 2; { ((((((b.set F.SYNC_STATUS_SYNC_RAILS 0 4).mark F.PH_STATE_ASSIGNED 0).set F.PH_STATE_RAIL 0 2).set F.PWM_PERIOD_PERIOD 0 10000).clear F.SYNC_STATUS_SYNCI_PRESENT)) with pow.syncHist := [(9500), 9500, 9500], pow.syncAt := some (e - 9500) }
/-- R221: the lock, within 32 ticks of the aim. -/
def at_StartsAndStops_12 : State :=
  let b : State := State.second;
  let b := ((b.cm.md .regulate).mark F.SYNC_CFG_SYNC_EN).set F.SYNC_STATUS_SYNC_LOCK 0 0;
  let e := max 1000000000 12800000000 + (BitVec.ofNat 4 0).toNat % 13 + min (BitVec.ofNat 3 0).toNat 4 - 2; { ((((((b.set F.SYNC_STATUS_SYNC_RAILS 0 4).mark F.PH_STATE_ASSIGNED 0).set F.PH_STATE_RAIL 0 2).set F.PWM_PERIOD_PERIOD 0 10000).clear F.SYNC_STATUS_SYNCI_PRESENT) |>.modFr 2 (fun f => { f with rcAt := max 1000000000 12800000000 }) |>.set F.SYNC_CFG_SYNC_DLY 0 0) with pow.syncHist := [9900, 9900, 9900], pow.syncAt := some (e - 9900) }
/-- R222: a present SYNCI whose period leaves ±10 %. -/
def at_StartsAndStops_13 : State :=
  let b : State := State.second;
  let b := ((b.cm.md .regulate).mark F.SYNC_CFG_SYNC_EN).set F.SYNC_STATUS_SYNC_LOCK 0 1;
  let e := max 1000000000 12800000000 + (BitVec.ofNat 4 0).toNat % 13 + min (BitVec.ofNat 3 0).toNat 4 - 2; { ((((((b.set F.SYNC_STATUS_SYNC_RAILS 0 4).mark F.PH_STATE_ASSIGNED 0).set F.PH_STATE_RAIL 0 2).set F.PWM_PERIOD_PERIOD 0 10000).clear F.SYNC_STATUS_SYNCI_PRESENT) |>.mark F.SYNC_STATUS_SYNCI_PRESENT |>.set F.SYNC_STATUS_PER_MEAS 0 9900) with pow.syncHist := [(12000), 12000, 12000], pow.syncAt := some (e - 12000) }
/-- R222: no edge within 1.5 × PER_MEAS. -/
def at_StartsAndStops_14 : State :=
  let b : State := State.second; { b.cm.mark F.SYNC_STATUS_SYNCI_PRESENT with pow.syncAt := some 4 }
/-- R222: PER_MEAS has left ±10 % of PERIOD. -/
def at_StartsAndStops_15 : State :=
  let b : State := State.second; (((((b.cm.mark F.SYNC_STATUS_SYNCI_PRESENT).set F.SYNC_STATUS_SYNC_RAILS 0 4).mark F.PH_STATE_ASSIGNED 0).set F.PH_STATE_RAIL 0 2).set F.PWM_PERIOD_PERIOD 0 10000).set F.SYNC_STATUS_PER_MEAS 0 8000
/-- States and operands that meet the conditions of `Obligations.StartsAndStops`, clause by clause. -/
theorem test_meets_StartsAndStops :
    (∃ (s : State) (r : Fin 8), s.Still ∧ s.st r = .armed ∧ s.flag F.SEN_CFG_SEN_STATE r = true
      ∧ (s.fr r).senAt + s.get F.SEN_CFG_SEN_LEAD r * 1000 ≤ s.now ∧ s.mode = .regulate) ∧
    (∃ (s : State) (r : Fin 8), s.Still ∧ s.mode = .regulate ∧ s.st r = .armed ∧ (s.fr r).passed = true ∧ (s.fr r).senLead = true
      ∧ (s.eng r).vinAt.isSome = true ∧ s.flag F.MODE_STATUS_SHUTDOWN_ACT = false ∧ (s.cfg r).spans = false
      ∧ (s.fr r).inStart = false ∧ s.get F.PHC_CTRL_MIN_LIVE r ≤ (s.liveOf r).length) ∧
    (∃ (s : State) (r : Fin 8), s.Still ∧ s.st r = .ramp ∧ (s.fr r).started = false ∧ s.mode = .regulate) ∧
    (∃ (t : Nat) (s : State) (r : Fin 8) (a : Nat), s.Still ∧ s.st r = .rampdown ∧ (s.fr r).fallAt = some a
      ∧ (s.fr r).stop = .toOff ∧ s.mayArm r = false ∧ (State.at s t).lagPast r = true) ∧
    (∃ (t : Nat) (s : State) (r : Fin 8) (a : Nat), s.Still ∧ s.st r = .rampdown ∧ (s.fr r).fallAt = some a
      ∧ (s.fr r).stop = .toLatched ∧ (s.fr r).stopCause < 8 ∧ (State.at s t).lagPast r = true) ∧
    (∃ (s : State) (n : Fin 32) (d : Word), s.Still ∧ s.AsP2 ∧ s.get F.PWM_CTRL_INVERT n < 2 ∧ s.get F.PWM_CTRL_SWAP n < 2
      ∧ s.get F.PWM_CTRL_BST_N n < 128 ∧ s.get F.PWM_CTRL_CUT_N n < 256 ∧ s.mode = .regulate ∧ s.cz1604 = false
      ∧ s.flag F.PH_STATE_ASSIGNED n = true ∧ s.flag F.PWM_CTRL_FORCE_TRI n = false
      ∧ d.toNat = 1 * 2 ^ 31 + s.get F.PWM_CTRL_INVERT n * 2 ^ 30 + s.get F.PWM_CTRL_SWAP n * 2 ^ 29 + s.get F.PWM_CTRL_BST_N n * 2
      ^ 16 + s.get F.PWM_CTRL_CUT_N n * 2 ^ 8) ∧
    (∃ (s : State) (n : Fin 32) (d : Word), s.Still ∧ s.AsP2 ∧ s.get F.PWM_CTRL_INVERT n < 2 ∧ s.get F.PWM_CTRL_SWAP n < 2
      ∧ s.get F.PWM_CTRL_BST_N n < 128 ∧ s.get F.PWM_CTRL_CUT_N n < 256 ∧ s.mode = .regulate ∧ s.cz1604 = false
      ∧ s.flag F.PH_STATE_ASSIGNED n = true ∧ s.flag F.PWM_CTRL_FORCE_TRI n = true ∧ s.flag F.PWM_STATUS_TFLT_LATCH n = false
      ∧ s.flag F.PH_PROT_PHW_STOP n = false ∧ s.get F.COH_HOLD_HOLD = 0 ∧ (s.ph n).tfltHeld = false ∧ (s.ph n).health = .ok
      ∧ (s.ph n).sw = .stopped ∧ s.st (s.railOf n) = .reg ∧ d.toNat = 0 * 2 ^ 31 + s.get F.PWM_CTRL_INVERT n * 2 ^ 30 + s.get
      F.PWM_CTRL_SWAP n * 2 ^ 29 + s.get F.PWM_CTRL_BST_N n * 2 ^ 16 + s.get F.PWM_CTRL_CUT_N n * 2 ^ 8) ∧
    (∃ (s : State) (n : Fin 32) (d : Word), s.Calm ∧ s.AsP3 1 ∧ s.get F.PWM_CTRL_FORCE_TRI n < 2 ∧ s.get F.PWM_CTRL_INVERT n < 2
      ∧ s.get F.PWM_CTRL_SWAP n < 2 ∧ s.get F.PWM_CTRL_BST_N n < 128 ∧ s.get F.PWM_CTRL_CUT_N n < 256 ∧ s.mode = .service
      ∧ s.parsed = true ∧ s.cz1604 = false ∧ s.st (s.railOf n) = .off ∧ s.flag F.PWM_CTRL_INVERT n = false
      ∧ d.toNat = s.get F.PWM_CTRL_FORCE_TRI n * 2 ^ 31 + 1 * 2 ^ 30 + s.get F.PWM_CTRL_SWAP n * 2 ^ 29 + s.get F.PWM_CTRL_BST_N n
      * 2 ^ 16 + s.get F.PWM_CTRL_CUT_N n * 2 ^ 8) ∧
    (∃ (s : State) (n : Fin 32) (m : Fin 32) (d : Word), s.Calm ∧ s.AsP3 1 ∧ s.get F.PWM_CTRL_FORCE_TRI n < 2
      ∧ s.get F.PWM_CTRL_INVERT n < 2 ∧ s.get F.PWM_CTRL_SWAP n < 2 ∧ s.get F.PWM_CTRL_BST_N n < 128
      ∧ s.get F.PWM_CTRL_CUT_N n < 256 ∧ s.mode = .service ∧ s.parsed = true ∧ s.cz1604 = false ∧ s.st (s.railOf n) = .off
      ∧ s.partner n = some m ∧ s.flag F.PWM_CTRL_SWAP n = false ∧ d.toNat = s.get F.PWM_CTRL_FORCE_TRI n * 2 ^ 31 + s.get
      F.PWM_CTRL_INVERT n * 2 ^ 30 + 1 * 2 ^ 29 + s.get F.PWM_CTRL_BST_N n * 2 ^ 16 + s.get F.PWM_CTRL_CUT_N n * 2 ^ 8) ∧
    (∃ (s : State) (n : Fin 32) (d : Word), s.Calm ∧ s.AsP3 1 ∧ s.get F.PWM_CTRL_FORCE_TRI n < 2 ∧ s.get F.PWM_CTRL_INVERT n < 2
      ∧ s.get F.PWM_CTRL_SWAP n < 2 ∧ s.get F.PWM_CTRL_BST_N n < 128 ∧ s.get F.PWM_CTRL_CUT_N n < 256 ∧ s.mode = .service
      ∧ s.parsed = true ∧ s.cz1604 = false ∧ s.st (s.railOf n) ≠ .off ∧ s.flag F.PWM_CTRL_INVERT n = false
      ∧ d.toNat = s.get F.PWM_CTRL_FORCE_TRI n * 2 ^ 31 + 1 * 2 ^ 30 + s.get F.PWM_CTRL_SWAP n * 2 ^ 29 + s.get F.PWM_CTRL_BST_N n
      * 2 ^ 16 + s.get F.PWM_CTRL_CUT_N n * 2 ^ 8) ∧
    (∃ (t : Nat) (s : State) (c : BitVec 4) (f : BitVec 3) (e : Nat) (a : Nat) (x : Nat) (y : Nat) (z : Nat) (m : Nat), s.Calm
      ∧ s.flag F.SYNC_CFG_SYNC_EN = true ∧ s.mode = .regulate ∧ e = max s.now t * 64 / 5 + c.toNat % 13 + min f.toNat 4 - 2
      ∧ s.pow.syncAt = some a ∧ s.pow.syncHist.take 3 = [x, y, z] ∧ m = (e - a + x + y + z) / 4
      ∧ (s.flag F.SYNC_STATUS_SYNCI_PRESENT = false ∨ 2 * e ≤ 2 * a + 3 * s.get F.SYNC_STATUS_PER_MEAS)
      ∧ near10 s.syncPeriod m = true ∧ m < 2 ^ 20) ∧
    (∃ (t : Nat) (s : State) (c : BitVec 4) (f : BitVec 3) (e : Nat) (a : Nat) (x : Nat) (y : Nat) (z : Nat) (m : Nat), s.Calm
      ∧ s.flag F.SYNC_CFG_SYNC_EN = true ∧ s.mode = .regulate ∧ e = max s.now t * 64 / 5 + c.toNat % 13 + min f.toNat 4 - 2
      ∧ s.pow.syncAt = some a ∧ s.pow.syncHist.take 3 = [x, y, z] ∧ m = (e - a + x + y + z) / 4
      ∧ (s.flag F.SYNC_STATUS_SYNCI_PRESENT = false ∨ 2 * e ≤ 2 * a + 3 * s.get F.SYNC_STATUS_PER_MEAS)
      ∧ near10 s.syncPeriod m = true ∧ m < 2 ^ 20 ∧ s.flag F.SYNC_STATUS_SYNC_LOCK = false
      ∧ (∀ r ∈ s.syncRails, ((State.at s t).rePeriod (fun s => (s.set F.SYNC_STATUS_PER_MEAS 0 m).mark
      F.SYNC_STATUS_SYNCI_PRESENT)).syncErr e r ≤ 32)) ∧
    (∃ (t : Nat) (s : State) (c : BitVec 4) (f : BitVec 3) (e : Nat) (a : Nat) (x : Nat) (y : Nat) (z : Nat) (m : Nat), s.Calm
      ∧ s.flag F.SYNC_CFG_SYNC_EN = true ∧ s.mode = .regulate ∧ e = max s.now t * 64 / 5 + c.toNat % 13 + min f.toNat 4 - 2
      ∧ s.pow.syncAt = some a ∧ s.pow.syncHist.take 3 = [x, y, z] ∧ m = (e - a + x + y + z) / 4
      ∧ (s.flag F.SYNC_STATUS_SYNCI_PRESENT = false ∨ 2 * e ≤ 2 * a + 3 * s.get F.SYNC_STATUS_PER_MEAS)
      ∧ s.flag F.SYNC_STATUS_SYNCI_PRESENT = true ∧ near10 s.syncPeriod m = false) ∧
    (∃ (t : Nat) (s : State) , s.Calm ∧ s.flag F.SYNC_STATUS_SYNCI_PRESENT = true
      ∧ (State.at s t).syncLate (State.at s t).tick = true) ∧
    (∃ (s : State), s.Calm ∧ s.flag F.SYNC_STATUS_SYNCI_PRESENT = true ∧ near10 s.syncPeriod (s.get F.SYNC_STATUS_PER_MEAS) =
      false) :=
  ⟨⟨at_StartsAndStops_1, (0 : Fin 8), by decide +kernel⟩,
    ⟨at_StartsAndStops_2, (0 : Fin 8), by decide +kernel⟩,
    ⟨at_StartsAndStops_3, (0 : Fin 8), by decide +kernel⟩,
    ⟨1000000000, at_StartsAndStops_4, (0 : Fin 8), 4, by decide +kernel⟩,
    ⟨1000000000, at_StartsAndStops_5, (0 : Fin 8), 4, by decide +kernel⟩,
    ⟨at_StartsAndStops_6, (0 : Fin 32), (BitVec.ofNat 32 (1 * 2 ^ 31 + (at_StartsAndStops_6).get F.PWM_CTRL_INVERT (0 : Fin 32) * 2
      ^ 30 + (at_StartsAndStops_6).get F.PWM_CTRL_SWAP (0 : Fin 32) * 2 ^ 29 + (at_StartsAndStops_6).get F.PWM_CTRL_BST_N (0 : Fin
      32) * 2 ^ 16 + (at_StartsAndStops_6).get F.PWM_CTRL_CUT_N (0 : Fin 32) * 2 ^ 8)), by decide +kernel⟩,
    ⟨at_StartsAndStops_7, (0 : Fin 32), (BitVec.ofNat 32 (0 * 2 ^ 31 + (at_StartsAndStops_7).get F.PWM_CTRL_INVERT (0 : Fin 32) * 2
      ^ 30 + (at_StartsAndStops_7).get F.PWM_CTRL_SWAP (0 : Fin 32) * 2 ^ 29 + (at_StartsAndStops_7).get F.PWM_CTRL_BST_N (0 : Fin
      32) * 2 ^ 16 + (at_StartsAndStops_7).get F.PWM_CTRL_CUT_N (0 : Fin 32) * 2 ^ 8)), by decide +kernel⟩,
    ⟨at_StartsAndStops_8, (0 : Fin 32), (BitVec.ofNat 32 ((at_StartsAndStops_8).get F.PWM_CTRL_FORCE_TRI (0 : Fin 32) * 2 ^ 31 + 1
      * 2 ^ 30 + (at_StartsAndStops_8).get F.PWM_CTRL_SWAP (0 : Fin 32) * 2 ^ 29 + (at_StartsAndStops_8).get F.PWM_CTRL_BST_N (0 :
      Fin 32) * 2 ^ 16 + (at_StartsAndStops_8).get F.PWM_CTRL_CUT_N (0 : Fin 32) * 2 ^ 8)), by decide +kernel⟩,
    ⟨at_StartsAndStops_9, (0 : Fin 32), (Fin.ofNat 32 (((0 : Fin 32) : Fin 32).val % 8)), (BitVec.ofNat 32
      ((at_StartsAndStops_9).get F.PWM_CTRL_FORCE_TRI (0 : Fin 32) * 2 ^ 31 + (at_StartsAndStops_9).get F.PWM_CTRL_INVERT (0 : Fin
      32) * 2 ^ 30 + 1 * 2 ^ 29 + (at_StartsAndStops_9).get F.PWM_CTRL_BST_N (0 : Fin 32) * 2 ^ 16 + (at_StartsAndStops_9).get
      F.PWM_CTRL_CUT_N (0 : Fin 32) * 2 ^ 8)), by decide +kernel⟩,
    ⟨at_StartsAndStops_10, (0 : Fin 32), (BitVec.ofNat 32 ((at_StartsAndStops_10).get F.PWM_CTRL_FORCE_TRI (0 : Fin 32) * 2 ^ 31 +
      1 * 2 ^ 30 + (at_StartsAndStops_10).get F.PWM_CTRL_SWAP (0 : Fin 32) * 2 ^ 29 + (at_StartsAndStops_10).get F.PWM_CTRL_BST_N
      (0 : Fin 32) * 2 ^ 16 + (at_StartsAndStops_10).get F.PWM_CTRL_CUT_N (0 : Fin 32) * 2 ^ 8)), by decide +kernel⟩,
    ⟨1000000000, at_StartsAndStops_11, (BitVec.ofNat 4 0), (BitVec.ofNat 3 0), (max 1000000000 12800000000 + (BitVec.ofNat 4
      0).toNat % 13 + min (BitVec.ofNat 3 0).toNat 4 - 2), (max 1000000000 12800000000 + (BitVec.ofNat 4 0).toNat % 13 + min
      (BitVec.ofNat 3 0).toNat 4 - 2 - 9500), 9500, 9500, 9500, 9500, by decide +kernel⟩,
    ⟨1000000000, at_StartsAndStops_12, (BitVec.ofNat 4 0), (BitVec.ofNat 3 0), (max 1000000000 12800000000 + (BitVec.ofNat 4
      0).toNat % 13 + min (BitVec.ofNat 3 0).toNat 4 - 2), (max 1000000000 12800000000 + (BitVec.ofNat 4 0).toNat % 13 + min
      (BitVec.ofNat 3 0).toNat 4 - 2 - 9900), 9900, 9900, 9900, 9900, by decide +kernel⟩,
    ⟨1000000000, at_StartsAndStops_13, (BitVec.ofNat 4 0), (BitVec.ofNat 3 0), (max 1000000000 12800000000 + (BitVec.ofNat 4
      0).toNat % 13 + min (BitVec.ofNat 3 0).toNat 4 - 2), (max 1000000000 12800000000 + (BitVec.ofNat 4 0).toNat % 13 + min
      (BitVec.ofNat 3 0).toNat 4 - 2 - 12000), 12000, 12000, 12000, 12000, by decide +kernel⟩,
    ⟨1000000000, at_StartsAndStops_14, by decide +kernel⟩,
    ⟨at_StartsAndStops_15, by decide +kernel⟩⟩

/-- R231: accepted. -/
def at_SetPoints_1 : State :=
  let b : State := State.second;
  let r : Fin 8 := (0 : Fin 8);
  let b := { b.cm.p2 with cz1604 := false }.mark F.PARSE_STATUS_DONE; ((b.rst r .reg).set F.SP_CTRL_SRC_EN r 15).modSp r (fun q => { q with p2Min := 1, p2Max := 4090 })
/-- R231: refused. -/
def at_SetPoints_2 : State :=
  let b : State := State.second;
  let r : Fin 8 := (0 : Fin 8);
  let b := { b.cm.p2 with cz1604 := false }.mark F.PARSE_STATUS_DONE; ((b.rst r (.latched)).set F.SP_CTRL_SRC_EN r 15).modSp r (fun q => { q with p2Min := 500, p2Max := 4090 })
/-- R231: the check in its order. -/
def at_SetPoints_3 : State :=
  let b : State := State.second;
  let r : Fin 8 := (0 : Fin 8); ({ b.cm.p3 1 with cz1604 := false }).rst r .latched
/-- R232: accepted, a P1 set-point moves to the nearer edge. -/
def at_SetPoints_4 : State :=
  let b : State := State.second;
  let r : Fin 8 := (0 : Fin 8);
  let b := { b.cm.p2 with cz1604 := false }.mark F.PARSE_STATUS_DONE; (({ b with img := [] }.load F.SP_WIN_P1_MIN r 20).load F.SP_WIN_P1_MAX r 4000).set F.SP_STATUS_SP_OWNER r 0
/-- R232: another source keeps its set-point. -/
def at_SetPoints_5 : State :=
  let b : State := State.second;
  let r : Fin 8 := (0 : Fin 8);
  let b := { b.cm.p2 with cz1604 := false }.mark F.PARSE_STATUS_DONE; (({ b with img := [] }.load F.SP_WIN_P1_MIN r 20).load F.SP_WIN_P1_MAX r 4000).set F.SP_STATUS_SP_OWNER r 4
/-- R232: wider than the image, refused. -/
def at_SetPoints_6 : State :=
  let b : State := State.second;
  let r : Fin 8 := (0 : Fin 8);
  let b := { b.cm.p2 with cz1604 := false }.mark F.PARSE_STATUS_DONE; (({ b with img := [] }.load F.SP_WIN_P1_MIN r 20).load F.SP_WIN_P1_MAX r 4000)
/-- R234, R235, R236. -/
def at_SetPoints_7 : State :=
  let b : State := State.second;
  let r : Fin 8 := (0 : Fin 8);
  let b := ((((b.sl.up.md .regulate).set F.STRAP_STATUS_CFG3_CODE 0 4).set F.VSEL_STATUS_VSEL_FILT 0 3).mark F.SUPPLY_STATUS_AL_IO_GOOD).clear F.VSEL_STATUS_ACCEPTED; (((b.rst r .reg).set F.SP_CTRL_SRC_EN r 15).set F.SP_WIN_P1_MIN r 5).set F.SP_WIN_P1_MAX r 4000 |>.modSp r (fun q => { q with p1Step := 0, vsel := List.replicate 16 (true, 700) })
/-- R235: the same code again is no command. -/
def at_SetPoints_8 : State :=
  let b : State := State.second; ((((b.sl.up.md .regulate).set F.STRAP_STATUS_CFG3_CODE 0 4).set F.VSEL_STATUS_VSEL_FILT 0 3).mark F.SUPPLY_STATUS_AL_IO_GOOD).mark F.VSEL_STATUS_ACCEPTED |>.set F.VSEL_STATUS_CODE 0 0
/-- R235: no valid code for 1 ms. -/
def at_SetPoints_9 : State :=
  let b : State := State.second; ((((b.sl.up.md .regulate).set F.STRAP_STATUS_CFG3_CODE 0 4).set F.VSEL_STATUS_VSEL_FILT 0 3).mark F.SUPPLY_STATUS_AL_IO_GOOD)
/-- R235: told once in an episode. -/
def at_SetPoints_10 : State :=
  let b : State := State.second; ((((b.sl.up.md .regulate).set F.STRAP_STATUS_CFG3_CODE 0 4).set F.VSEL_STATUS_VSEL_FILT 0 3).mark F.SUPPLY_STATUS_AL_IO_GOOD) |> (fun (b : State) => { b with pow.vselTold := true })
/-- States and operands that meet the conditions of `Obligations.SetPoints`, clause by clause. -/
theorem test_meets_SetPoints :
    (∃ (s : State) (r : Fin 8) (c : Nat), s.Calm ∧ s.AsP2 ∧ s.cz1604 = false ∧ c < 4096 ∧ s.spCheck r 4 c = none) ∧
    (∃ (s : State) (r : Fin 8) (c : Nat) (y : Nat), s.Calm ∧ s.AsP2 ∧ s.cz1604 = false ∧ c < 4096 ∧ s.spCheck r 4 c = some y) ∧
    (∃ (s : State) (r : Fin 8) (c : Nat) (y : Nat), s.Calm ∧ s.AsP3 1 ∧ s.cz1604 = false ∧ c < 4096 ∧ s.spCheck r 5 c = some y) ∧
    (∃ (t : Nat) (s : State) (r : Fin 8) (l : Nat) (h : Nat), s.Calm ∧ s.AsP2 ∧ s.parsed = true ∧ s.cz1604 = false ∧ h < 4096
      ∧ s.winOk r l h = true ∧ s.get F.SP_WIN_P1_MIN r ≠ l ∧ (s.rail r).sp.upd ≠ (State.at s t).upd
      ∧ s.get F.SP_STATUS_SP_OWNER r ≤ 3) ∧
    (∃ (t : Nat) (s : State) (r : Fin 8) (l : Nat) (h : Nat), s.Calm ∧ s.AsP2 ∧ s.parsed = true ∧ s.cz1604 = false ∧ h < 4096
      ∧ s.winOk r l h = true ∧ s.get F.SP_WIN_P1_MIN r ≠ l ∧ (s.rail r).sp.upd ≠ (State.at s t).upd
      ∧ 3 < s.get F.SP_STATUS_SP_OWNER r) ∧
    (∃ (s : State) (r : Fin 8) (l : Nat) (h : Nat), s.Calm ∧ s.AsP2 ∧ s.parsed = true ∧ s.cz1604 = false ∧ h < 4096 ∧ l < 4096
      ∧ s.winOk r l h = false ∧ s.get F.SP_WIN_P1_MIN r ≠ l) ∧
    (∃ (t : Nat) (s : State) (x3 : BitVec 10) (x2 : BitVec 10) (x1 : BitVec 10) (x0 : BitVec 10) (b : Nat) (c : Nat) (r : Fin 8) (e
      : Nat), s.Still ∧ s.vselOn = true ∧ b = vselReads s.pow.vselRd [x0.toNat, x1.toNat, x2.toNat, x3.toNat]
      ∧ vselCode b = some c ∧ s.pow.vselAt + s.get F.VSEL_STATUS_VSEL_FILT * 100 ≤ max s.now t
      ∧ (s.flag F.VSEL_STATUS_ACCEPTED = false ∨ s.get F.VSEL_STATUS_CODE ≠ c) ∧ (s.get F.SP_CTRL_SRC_EN r).testBit 0 = true
      ∧ (s.rail r).sp.vsel.getD c (false, 0) = (true, e) ∧ e < 4096 ∧ (s.rail r).sp.upd ≠ (State.at s t).upd
      ∧ (State.at s t).spCheck r 1 e = none) ∧
    (∃ (s : State) (x3 : BitVec 10) (x2 : BitVec 10) (x1 : BitVec 10) (x0 : BitVec 10) (b : Nat) (c : Nat), s.Calm
      ∧ s.vselOn = true ∧ b = vselReads s.pow.vselRd [x0.toNat, x1.toNat, x2.toNat, x3.toNat] ∧ vselCode b = some c
      ∧ s.flag F.VSEL_STATUS_ACCEPTED = true ∧ s.get F.VSEL_STATUS_CODE = c) ∧
    (∃ (s : State) (x3 : BitVec 10) (x2 : BitVec 10) (x1 : BitVec 10) (x0 : BitVec 10) (b : Nat), s.Calm ∧ s.vselOn = true
      ∧ b = vselReads s.pow.vselRd [x0.toNat, x1.toNat, x2.toNat, x3.toNat] ∧ vselCode b = none ∧ s.pow.vselTold = false) ∧
    (∃ (s : State) (x3 : BitVec 10) (x2 : BitVec 10) (x1 : BitVec 10) (x0 : BitVec 10) (b : Nat), s.Calm ∧ s.vselOn = true
      ∧ b = vselReads s.pow.vselRd [x0.toNat, x1.toNat, x2.toNat, x3.toNat] ∧ vselCode b = none ∧ s.pow.vselTold = true) :=
  ⟨⟨at_SetPoints_1, (0 : Fin 8), 3, by decide +kernel⟩,
    ⟨at_SetPoints_2, (0 : Fin 8), 0, (((at_SetPoints_2).spCheck (0 : Fin 8) 4 0).getD 0), by decide +kernel⟩,
    ⟨at_SetPoints_3, (0 : Fin 8), 0, (((at_SetPoints_3).spCheck (0 : Fin 8) 5 0).getD 0), by decide +kernel⟩,
    ⟨1000000000, at_SetPoints_4, (0 : Fin 8), 21, 3000, by decide +kernel⟩,
    ⟨1000000000, at_SetPoints_5, (0 : Fin 8), 21, 3000, by decide +kernel⟩,
    ⟨at_SetPoints_6, (0 : Fin 8), 0, 3000, by decide +kernel⟩,
    ⟨1000000000, at_SetPoints_7, (BitVec.ofNat 10 (if Nat.testBit 0 3 then 701 else 299 - 0)), (BitVec.ofNat 10 (if Nat.testBit 0 2
      then 701 else 299 - 0)), (BitVec.ofNat 10 (if Nat.testBit 0 1 then 701 else 299 - 0)), (BitVec.ofNat 10 (if Nat.testBit 0 0
      then 701 else 299 - 0)), (vselReads (at_SetPoints_7).pow.vselRd [(BitVec.ofNat 10 (if Nat.testBit 0 0 then 701 else 299 - 0)
      : BitVec 10).toNat, (BitVec.ofNat 10 (if Nat.testBit 0 1 then 701 else 299 - 0) : BitVec 10).toNat, (BitVec.ofNat 10 (if
      Nat.testBit 0 2 then 701 else 299 - 0) : BitVec 10).toNat, (BitVec.ofNat 10 (if Nat.testBit 0 3 then 701 else 299 - 0) :
      BitVec 10).toNat]), 0, (0 : Fin 8), 700, by decide +kernel⟩,
    ⟨at_SetPoints_8, (BitVec.ofNat 10 (if Nat.testBit 0 3 then 701 else 299 - 0)), (BitVec.ofNat 10 (if Nat.testBit 0 2 then 701
      else 299 - 0)), (BitVec.ofNat 10 (if Nat.testBit 0 1 then 701 else 299 - 0)), (BitVec.ofNat 10 (if Nat.testBit 0 0 then 701
      else 299 - 0)), (vselReads (at_SetPoints_8).pow.vselRd [(BitVec.ofNat 10 (if Nat.testBit 0 0 then 701 else 299 - 0) : BitVec
      10).toNat, (BitVec.ofNat 10 (if Nat.testBit 0 1 then 701 else 299 - 0) : BitVec 10).toNat, (BitVec.ofNat 10 (if Nat.testBit 0
      2 then 701 else 299 - 0) : BitVec 10).toNat, (BitVec.ofNat 10 (if Nat.testBit 0 3 then 701 else 299 - 0) : BitVec
      10).toNat]), 0, by decide +kernel⟩,
    ⟨at_SetPoints_9, (BitVec.ofNat 10 9), (BitVec.ofNat 10 401), (BitVec.ofNat 10 9), (BitVec.ofNat 10 9), (vselReads
      (at_SetPoints_9).pow.vselRd [(BitVec.ofNat 10 9 : BitVec 10).toNat, (BitVec.ofNat 10 9 : BitVec 10).toNat, (BitVec.ofNat 10
      401 : BitVec 10).toNat, (BitVec.ofNat 10 9 : BitVec 10).toNat]), by decide +kernel⟩,
    ⟨at_SetPoints_10, (BitVec.ofNat 10 9), (BitVec.ofNat 10 401), (BitVec.ofNat 10 9), (BitVec.ofNat 10 9), (vselReads
      (at_SetPoints_10).pow.vselRd [(BitVec.ofNat 10 9 : BitVec 10).toNat, (BitVec.ofNat 10 9 : BitVec 10).toNat, (BitVec.ofNat 10
      401 : BitVec 10).toNat, (BitVec.ofNat 10 9 : BitVec 10).toNat]), by decide +kernel⟩⟩

/-- R242: NOP. -/
def at_AedatFrames_1 : State :=
  let b : State := State.second;
  let p : Fin 2 := (0 : Fin 2);
  let b := { b with ctx0 := 0x80F00000, ctxs := [] };
  let b := ((({ b.cm.up.md .regulate with cz1604 := false }.mark F.AL_CFG_PORT_EN p).mark F.SUPPLY_STATUS_AL_IO_GOOD).mark F.PARSE_STATUS_DONE).set F.AL_STATUS_CRED p 1 |>.modPort p (fun q => { q with stuck := false, last := none, rd := none, held := 0, notes := q.notes }); b
/-- R246: a payload bit that must be 0. -/
def at_AedatFrames_2 : State :=
  let b : State := State.second;
  let p : Fin 2 := (0 : Fin 2);
  let b := { b with ctx0 := 0x80F00000, ctxs := [] };
  let b := ((({ b.cm.up.md .regulate with cz1604 := false }.mark F.AL_CFG_PORT_EN p).mark F.SUPPLY_STATUS_AL_IO_GOOD).mark F.PARSE_STATUS_DONE).set F.AL_STATUS_CRED p 1 |>.modPort p (fun q => { q with stuck := false, last := none, rd := none, held := 0, notes := q.notes }); b
/-- R244: CTX. -/
def at_AedatFrames_3 : State :=
  let b : State := State.second;
  let p : Fin 2 := (0 : Fin 2);
  let b := { b with ctx0 := 0x80F00000, ctxs := [] };
  let b := ((({ b.cm.up.md .regulate with cz1604 := false }.mark F.AL_CFG_PORT_EN p).mark F.SUPPLY_STATUS_AL_IO_GOOD).mark F.PARSE_STATUS_DONE).set F.AL_STATUS_CRED p 1 |>.modPort p (fun q => { q with stuck := false, last := none, rd := none, held := 0, notes := q.notes }); b
/-- R247, R251: SETV. -/
def at_AedatFrames_4 : State :=
  let b : State := State.second;
  let p : Fin 2 := (0 : Fin 2);
  let b := { b with ctx0 := 0x80F00000, ctxs := [] };
  let b := ((({ b.cm.up.md .regulate with cz1604 := false }.mark F.AL_CFG_PORT_EN p).mark F.SUPPLY_STATUS_AL_IO_GOOD).mark F.PARSE_STATUS_DONE).set F.AL_STATUS_CRED p 1 |>.modPort p (fun q => { q with stuck := false, last := none, rd := none, held := 0, notes := [] });
  let r : Fin 8 := (0 : Fin 8);
  let b := (((b.rst r .reg).set F.SP_CTRL_SRC_EN r 15).set F.SP_CTRL_AL_SERVE r 3).set F.SP_WIN_P1_MIN r 5 |>.set F.SP_WIN_P1_MAX r 4000 |>.modSp r (fun q => { q with p1Step := 0 }); { b with rcd.intake := [], jrn := {} } |>.modPort 0 (fun q => { q with notes := [] }) |>.modPort 1 (fun q => { q with notes := [] })
/-- R246: SETV without a credit. -/
def at_AedatFrames_5 : State :=
  let b : State := State.second;
  let p : Fin 2 := (0 : Fin 2);
  let b := { b with ctx0 := 0x80F00000, ctxs := [] };
  let b := ((({ b.cm.up.md .regulate with cz1604 := false }.mark F.AL_CFG_PORT_EN p).mark F.SUPPLY_STATUS_AL_IO_GOOD).mark F.PARSE_STATUS_DONE).set F.AL_STATUS_CRED p 1 |>.modPort p (fun q => { q with stuck := false, last := none, rd := none, held := 0, notes := [] }); ({ b with rcd.intake := List.replicate 64 { code := 0x0301, unit := 0, items := [(1,3)], count := none, front := false, ct := false, mode := 5, epoch := 1, time := 3 }, rcd.wins := [] }).set F.AL_STATUS_CRED p 0
/-- R248: a retry is acknowledged and not done again. -/
def at_AedatFrames_6 : State :=
  let b : State := State.second;
  let p : Fin 2 := (0 : Fin 2);
  let b := { b with ctx0 := 0x80F00000, ctxs := [] };
  let b := ((({ b.cm.up.md .regulate with cz1604 := false }.mark F.AL_CFG_PORT_EN p).mark F.SUPPLY_STATUS_AL_IO_GOOD).mark F.PARSE_STATUS_DONE).set F.AL_STATUS_CRED p 1 |>.modPort p (fun q => { q with stuck := false, last := none, rd := none, held := 0, notes := [] }); b.modPort p (fun x => { x with last := some (16 * 2^32 + (BitVec.ofNat 32 0).toNat, 1000000000) })
/-- R266, R268, R264: HINT. -/
def at_AedatFrames_7 : State :=
  let b : State := State.second;
  let p : Fin 2 := (0 : Fin 2);
  let b := { b with ctx0 := 0x80F00000, ctxs := [] };
  let b := ((({ b.sl.up.md .regulate with cz1604 := false }.mark F.AL_CFG_PORT_EN p).mark F.SUPPLY_STATUS_AL_IO_GOOD).mark F.PARSE_STATUS_DONE).set F.AL_STATUS_CRED p 1 |>.modPort p (fun q => { q with stuck := false, last := none, rd := none, held := 0, notes := [] });
  let r : Fin 8 := (0 : Fin 8);
  let b := ((((b.rst r .reg).set F.SP_CTRL_AL_SERVE r 3).set F.TN_CTRL_TN_EN 0 255).set F.TN_RATE_TK_MAX 0 8 |>.set F.TN_RATE_TK_REFILL 0 3 |>.set F.TN_RATE_LEAD_MAX 0 1300 |>.cf r (fun c => { c with spans := false })).set F.TN_CAP_F_POS_CAP r 3000 |>.modRail r (fun x => { x with tn := [] });
  let b := { b with ctxs := [], ctx0 := 0x80F00000, rcd.intake := [], jrn := {} } |>.modPort 0 (fun q => { q with notes := [] }) |>.modPort 1 (fun q => { q with notes := [] }); b.clear F.MODE_STATUS_SHUTDOWN_ACT
/-- R269: UNHINT. -/
def at_AedatFrames_8 : State :=
  let b : State := State.second;
  let p : Fin 2 := (0 : Fin 2);
  let b := { b with ctx0 := 0x80F00000, ctxs := [] };
  let b := ((({ b.sl.up.md .regulate with cz1604 := false }.mark F.AL_CFG_PORT_EN p).mark F.SUPPLY_STATUS_AL_IO_GOOD).mark F.PARSE_STATUS_DONE).set F.AL_STATUS_CRED p 1 |>.modPort p (fun q => { q with stuck := false, last := none, rd := none, held := 0, notes := [] });
  let r : Fin 8 := (0 : Fin 8);
  let b := ((((b.rst r .reg).set F.SP_CTRL_AL_SERVE r 3).set F.TN_CTRL_TN_EN 0 255).set F.TN_RATE_TK_MAX 0 8 |>.set F.TN_RATE_TK_REFILL 0 3 |>.set F.TN_RATE_LEAD_MAX 0 1300 |>.cf r (fun c => { c with spans := false })).set F.TN_CAP_F_POS_CAP r 3000 |>.modRail r (fun x => { x with tn := [] });
  let b := { b with ctxs := [], ctx0 := 0x80F00000, rcd.intake := [], jrn := {} } |>.modPort 0 (fun q => { q with notes := [] }) |>.modPort 1 (fun q => { q with notes := [] }); (b.set F.AL_STATUS_CTX_ID p 9).modRail r (fun x => { x with tn := [{ ctx := 9, slot := 1, a := 500, due := 3, st := .rising, c := 100, base := 3, aeff := 300 }, { ctx := 9, slot := 2, a := 500, due := 3 }, { ctx := 3, slot := 2, a := 500, due := 3 }] })
/-- R250: READ of a register that answers at once. -/
def at_AedatFrames_9 : State :=
  let b : State := State.second;
  let p : Fin 2 := (0 : Fin 2);
  let b := { b with ctx0 := 0x80F00000, ctxs := [] };
  let b := ((({ b.cm.up.md .regulate with cz1604 := false }.mark F.AL_CFG_PORT_EN p).mark F.SUPPLY_STATUS_AL_IO_GOOD).mark F.PARSE_STATUS_DONE).set F.AL_STATUS_CRED p 1 |>.modPort p (fun q => { q with stuck := false, last := none, rd := none, held := 0, notes := [] }); b
/-- R10: an address without a register reads 0. -/
def at_AedatFrames_10 : State :=
  let b : State := State.second;
  let p : Fin 2 := (0 : Fin 2);
  let b := { b with ctx0 := 0x80F00000, ctxs := [] };
  let b := ((({ b.cm.up.md .regulate with cz1604 := false }.mark F.AL_CFG_PORT_EN p).mark F.SUPPLY_STATUS_AL_IO_GOOD).mark F.PARSE_STATUS_DONE).set F.AL_STATUS_CRED p 1 |>.modPort p (fun q => { q with stuck := false, last := none, rd := none, held := 0, notes := [] }); b
/-- R250, R516: READ of a register of the Front die waits. -/
def at_AedatFrames_11 : State :=
  let b : State := State.second;
  let p : Fin 2 := (0 : Fin 2);
  let b := { b with ctx0 := 0x80F00000, ctxs := [] };
  let b := ((({ b.cm.up.md .regulate with cz1604 := false }.mark F.AL_CFG_PORT_EN p).mark F.SUPPLY_STATUS_AL_IO_GOOD).mark F.PARSE_STATUS_DONE).set F.AL_STATUS_CRED p 1 |>.modPort p (fun q => { q with stuck := false, last := none, rd := none, held := 0, notes := [] }); (allRails.foldl (fun (b : State) r => b.set F.SP_CTRL_AL_SERVE r 3) b).clear F.TLM_SHAPE_P1_DENY
/-- R244: WADDR. -/
def at_AedatFrames_12 : State :=
  let b : State := State.second;
  let p : Fin 2 := (0 : Fin 2);
  let b := { b with ctx0 := 0x80F00000, ctxs := [] };
  let b := ((({ b.cm.up.md .regulate with cz1604 := false }.mark F.AL_CFG_PORT_EN p).mark F.SUPPLY_STATUS_AL_IO_GOOD).mark F.PARSE_STATUS_DONE).set F.AL_STATUS_CRED p 1 |>.modPort p (fun q => { q with stuck := false, last := none, rd := none, held := 0, notes := [] }); b
/-- R244: WDATA without a write address. -/
def at_AedatFrames_13 : State :=
  let b : State := State.second;
  let p : Fin 2 := (0 : Fin 2);
  let b := { b with ctx0 := 0x80F00000, ctxs := [] };
  let b := ((({ b.cm.up.md .regulate with cz1604 := false }.mark F.AL_CFG_PORT_EN p).mark F.SUPPLY_STATUS_AL_IO_GOOD).mark F.PARSE_STATUS_DONE).set F.AL_STATUS_CRED p 1 |>.modPort p (fun q => { q with stuck := false, last := none, rd := none, held := 0, notes := [] }); b.modPort p (fun q => { q with wAddr := none })
/-- R244: WDATA of LOAD_CONSENT, which the matrix lets a port write (R404). -/
def at_AedatFrames_14 : State :=
  let b : State := State.tuned;
  let p : Fin 2 := (0 : Fin 2);
  let b := { b with ctx0 := 0x80F00000, ctxs := [] };
  let b := ((({ b.cm.up.md .regulate with cz1604 := false }.mark F.AL_CFG_PORT_EN p).mark F.SUPPLY_STATUS_AL_IO_GOOD).mark F.PARSE_STATUS_DONE).set F.AL_STATUS_CRED p 1 |>.modPort p (fun q => { q with stuck := false, last := none, rd := none, held := 0, notes := [] });
  let b := (b.p3 1).set F.AL_STATUS_CRED p 7;
  let b := ({ b with sec.consMax := 30, sec.cons := List.replicate 8 0 }).mark F.TLM_SHAPE_CONS_ALLOW |>.set F.SP_CTRL_AL_SERVE (0 : Fin 8) 3; { b with rcd.intake := [], jrn := {} } |>.modPort 0 (fun q => { q with notes := [] }) |>.modPort 1 (fun q => { q with notes := [] }) |>.modPort p (fun q => { q with wAddr := some 0x0220 })
/-- R244: an acknowledged write that failed. -/
def at_AedatFrames_15 : State :=
  let b : State := State.tuned;
  let p : Fin 2 := (0 : Fin 2);
  let b := { b with ctx0 := 0x80F00000, ctxs := [] };
  let b := ((({ b.cm.up.md .regulate with cz1604 := false }.mark F.AL_CFG_PORT_EN p).mark F.SUPPLY_STATUS_AL_IO_GOOD).mark F.PARSE_STATUS_DONE).set F.AL_STATUS_CRED p 1 |>.modPort p (fun q => { q with stuck := false, last := none, rd := none, held := 0, notes := [] });
  let b := (b.p3 1).set F.AL_STATUS_CRED p 7;
  let b := ({ b with sec.consMax := 30, sec.cons := List.replicate 8 0 }).mark F.TLM_SHAPE_CONS_ALLOW; b.modPort p (fun q => { q with wAddr := some 0x0220 })
/-- R253: NOTEACK. -/
def at_AedatFrames_16 : State :=
  let b : State := State.second;
  let p : Fin 2 := (0 : Fin 2);
  let b := { b with ctx0 := 0x80F00000, ctxs := [] };
  let b := ((({ b.cm.up.md .regulate with cz1604 := false }.mark F.AL_CFG_PORT_EN p).mark F.SUPPLY_STATUS_AL_IO_GOOD).mark F.PARSE_STATUS_DONE).set F.AL_STATUS_CRED p 1 |>.modPort p (fun q => { q with stuck := false, last := none, rd := none, held := 0, notes := [⟨1, 2, 77⟩, ⟨3, 0, 5⟩] }); allRails.foldl (fun (b : State) r => b.modRail r (fun x => { x with tn := [] })) b
/-- R255: PRESET. -/
def at_AedatFrames_17 : State :=
  let b : State := State.second;
  let p : Fin 2 := (0 : Fin 2);
  let b := { b with ctx0 := 0x80F00000, ctxs := [] };
  let b := ((({ b.cm.up.md .regulate with cz1604 := false }.mark F.AL_CFG_PORT_EN p).mark F.SUPPLY_STATUS_AL_IO_GOOD).mark F.PARSE_STATUS_DONE).set F.AL_STATUS_CRED p 1 |>.modPort p (fun q => { q with stuck := false, last := none, rd := none, held := 0, notes := [] }); { b with rcd.intake := [], jrn := {} } |>.modPort 0 (fun q => { q with notes := [] }) |>.modPort 1 (fun q => { q with notes := [] }) |> (fun (b : State) => allRails.foldl (fun (b : State) r => b.modRail r (fun x => { x with tn := [] })) b)
/-- States and operands that meet the conditions of `Obligations.AedatFrames`, clause by clause. -/
theorem test_meets_AedatFrames :
    (∃ (s : State) (p : Fin 2), s.Calm ∧ s.portUp p = true ∧ (s.port p).stuck = false ∧ (s.port p).last = none
      ∧ (s.port p).rd = none ∧ ones 32 (s.ctxWord (s.get F.AL_STATUS_CTX_ID p)) % 2 = 1) ∧
    (∃ (s : State) (p : Fin 2) (w : Word), s.Calm ∧ s.portUp p = true ∧ (s.port p).stuck = false ∧ (s.port p).last = none
      ∧ (s.port p).rd = none ∧ ones 32 (s.ctxWord (s.get F.AL_STATUS_CTX_ID p)) % 2 = 1 ∧ w ≠ 0) ∧
    (∃ (s : State) (p : Fin 2) (w : Word), s.Calm ∧ s.portUp p = true ∧ (s.port p).stuck = false ∧ (s.port p).last = none
      ∧ (s.port p).rd = none ∧ ones 32 (s.ctxWord (s.get F.AL_STATUS_CTX_ID p)) % 2 = 1 ∧ w.toNat < 2 ^ 15) ∧
    (∃ (t : Nat) (s : State) (p : Fin 2) (w : Word) (d : BitVec 9) (r : Fin 8) (c : Nat), s.Calm ∧ s.portUp p = true
      ∧ (s.port p).stuck = false ∧ (s.port p).last = none ∧ (s.port p).rd = none
      ∧ ones 32 (s.ctxWord (s.get F.AL_STATUS_CTX_ID p)) % 2 = 1 ∧ s.withheld = false ∧ (s.port p).held = 0
      ∧ 0 < s.get F.AL_STATUS_CRED p ∧ s.get F.AL_STATUS_CRED p ≤ 64 ∧ r = railBits w.toNat ∧ c = w.toNat / 2 ^ 12 % 2 ^ 12
      ∧ w.toNat / 2 ^ 24 % 2 ^ 5 = 0 ∧ w.toNat % 16 = 0 ∧ s.serves p r = true ∧ (s.rail r).sp.upd ≠ (State.at s t).upd
      ∧ (State.at s t).spCheckIn r (2 + p.val) c ((State.at s t).stAt r d.toNat) = none) ∧
    (∃ (s : State) (p : Fin 2) (w : Word), s.Calm ∧ s.portUp p = true ∧ (s.port p).stuck = false ∧ (s.port p).last = none
      ∧ (s.port p).rd = none ∧ ones 32 (s.ctxWord (s.get F.AL_STATUS_CTX_ID p)) % 2 = 1 ∧ s.withheld = true
      ∧ s.get F.AL_STATUS_CRED p = 0 ∧ w.toNat / 2 ^ 24 % 2 ^ 5 = 0 ∧ w.toNat % 16 = 0) ∧
    (∃ (t : Nat) (s : State) (p : Fin 2) (q : BitVec 4) (w : Word) (a : Nat), s.Calm ∧ s.portUp p = true
      ∧ (s.port p).stuck = false ∧ (s.port p).rd = none ∧ ones 32 (s.ctxWord (s.get F.AL_STATUS_CTX_ID p)) % 2 = 1
      ∧ (s.port p).last = some (((1 * 16 + q.toNat) * 2 ^ 32 + w.toNat), a) ∧ max s.now t ≤ a + 100000) ∧
    (∃ (t : Nat) (s : State) (p : Fin 2) (w : Word) (d : BitVec 9) (r : Fin 8) (x : Nat) (c : Ctx), s.Still ∧ s.Calm
      ∧ s.portUp p = true ∧ (s.port p).stuck = false ∧ (s.port p).last = none ∧ (s.port p).rd = none
      ∧ ones 32 (s.ctxWord (s.get F.AL_STATUS_CTX_ID p)) % 2 = 1 ∧ s.withheld = false ∧ (s.port p).held = 0
      ∧ 0 < s.get F.AL_STATUS_CRED p ∧ s.get F.AL_STATUS_CRED p ≤ 64 ∧ r = railBits w.toNat ∧ s.serves p r = true
      ∧ s.tnOn r = true ∧ s.isMember r = false ∧ (s.cfg r).spans = false ∧ s.mode = .regulate ∧ s.st r = .reg
      ∧ (State.at s t).stAt r d.toNat = .reg ∧ x = s.get F.AL_STATUS_CTX_ID p ∧ c = ((s.at t).ctxRefill x).ctx x ∧ 0 < c.tk
      ∧ w.toNat % 2 ^ 17 ≤ s.get F.TN_RATE_LEAD_MAX * 100 ∧ (s.hints r).length < 64 ∧ c.valid ≠ 15
      ∧ w.toNat / 2 ^ 17 % 2 ^ 12 ≠ 0 ∧ ones 32 (s.ctxWord x) % 2 = 1 ∧ ((s.switchingOf r).length ≠ 0 ∨ s.st r = .reg)
      ∧ s.get F.MODE_STATUS_SHUTDOWN_ACT = 0) ∧
    (∃ (s : State) (p : Fin 2) (w : Word) (r : Fin 8), s.Still ∧ s.Calm ∧ s.portUp p = true ∧ (s.port p).stuck = false
      ∧ (s.port p).last = none ∧ (s.port p).rd = none ∧ ones 32 (s.ctxWord (s.get F.AL_STATUS_CTX_ID p)) % 2 = 1
      ∧ s.withheld = false ∧ (s.port p).held = 0 ∧ 0 < s.get F.AL_STATUS_CRED p ∧ s.get F.AL_STATUS_CRED p ≤ 64
      ∧ r = railBits w.toNat ∧ s.serves p r = true ∧ s.tnOn r = true ∧ s.isMember r = false ∧ (s.cfg r).spans = false
      ∧ s.mode = .regulate ∧ s.st r = .reg ∧ w.toNat % 2 ^ 29 = 0 ∧ ones 32 (s.ctxWord (s.get F.AL_STATUS_CTX_ID p)) % 2 = 1) ∧
    (∃ (s : State) (p : Fin 2) (w : Word), s.Calm ∧ s.portUp p = true ∧ (s.port p).stuck = false ∧ (s.port p).last = none
      ∧ (s.port p).rd = none ∧ ones 32 (s.ctxWord (s.get F.AL_STATUS_CTX_ID p)) % 2 = 1 ∧ 0 < s.get F.AL_STATUS_CRED p
      ∧ w.toNat < 2 ^ 16 ∧ w.toNat % 4 = 0 ∧ (s.regRead (s.who (pathOf p)) w.toNat).1 ≠ rAccess
      ∧ s.bridged (s.who (pathOf p)) false w.toNat 0 = false) ∧
    (∃ (s : State) (p : Fin 2) (w : Word), s.Calm ∧ s.portUp p = true ∧ (s.port p).stuck = false ∧ (s.port p).last = none
      ∧ (s.port p).rd = none ∧ ones 32 (s.ctxWord (s.get F.AL_STATUS_CTX_ID p)) % 2 = 1 ∧ 0 < s.get F.AL_STATUS_CRED p
      ∧ w.toNat < 2 ^ 16 ∧ w.toNat % 4 = 0 ∧ s.fieldsFor w.toNat = [] ∧ s.bridged (s.who (pathOf p)) false w.toNat 0 = false) ∧
    (∃ (s : State) (p : Fin 2) (w : Word), s.Calm ∧ s.portUp p = true ∧ (s.port p).stuck = false ∧ (s.port p).last = none
      ∧ (s.port p).rd = none ∧ ones 32 (s.ctxWord (s.get F.AL_STATUS_CTX_ID p)) % 2 = 1 ∧ 0 < s.get F.AL_STATUS_CRED p
      ∧ w.toNat < 2 ^ 16 ∧ w.toNat % 4 = 0 ∧ (s.regRead (s.who (pathOf p)) w.toNat).1 ≠ rAccess
      ∧ (s.regRead (s.who (pathOf p)) w.toNat).1 = rOk ∧ s.bridged (s.who (pathOf p)) false w.toNat 0 = true) ∧
    (∃ (s : State) (p : Fin 2) (w : Word), s.Calm ∧ s.portUp p = true ∧ (s.port p).stuck = false ∧ (s.port p).last = none
      ∧ (s.port p).rd = none ∧ ones 32 (s.ctxWord (s.get F.AL_STATUS_CTX_ID p)) % 2 = 1 ∧ w.toNat < 2 ^ 16 ∧ w.toNat % 4 = 0) ∧
    (∃ (s : State) (p : Fin 2), s.Calm ∧ s.portUp p = true ∧ (s.port p).stuck = false ∧ (s.port p).last = none
      ∧ (s.port p).rd = none ∧ ones 32 (s.ctxWord (s.get F.AL_STATUS_CTX_ID p)) % 2 = 1 ∧ (s.port p).wAddr = none) ∧
    (∃ (s : State) (p : Fin 2) (w : Word) (r : Fin 8), s.Calm ∧ s.portUp p = true ∧ (s.port p).stuck = false
      ∧ (s.port p).last = none ∧ (s.port p).rd = none ∧ ones 32 (s.ctxWord (s.get F.AL_STATUS_CTX_ID p)) % 2 = 1
      ∧ s.withheld = false ∧ (s.port p).held = 0 ∧ 0 < s.get F.AL_STATUS_CRED p ∧ s.get F.AL_STATUS_CRED p ≤ 64
      ∧ (s.port p).wAddr = some 0x0220 ∧ s.AsP3 0 ∧ s.flag F.TLM_SHAPE_CONS_ALLOW = true ∧ w.toNat / 2 ^ 16 = s.sec.sid
      ∧ (w.toNat / 256 % 256).testBit r.val = true ∧ 0 < w.toNat % 2 ^ 8 ∧ 0 < s.sec.consMax ∧ s.serves p r = true) ∧
    (∃ (s : State) (p : Fin 2) (w : Word), s.Calm ∧ s.portUp p = true ∧ (s.port p).stuck = false ∧ (s.port p).last = none
      ∧ (s.port p).rd = none ∧ ones 32 (s.ctxWord (s.get F.AL_STATUS_CTX_ID p)) % 2 = 1 ∧ s.withheld = false
      ∧ (s.port p).held = 0 ∧ 0 < s.get F.AL_STATUS_CRED p ∧ s.get F.AL_STATUS_CRED p ≤ 64 ∧ (s.port p).wAddr = some 0x0220
      ∧ s.AsP3 0 ∧ s.flag F.TLM_SHAPE_CONS_ALLOW = true ∧ w.toNat / 2 ^ 16 ≠ s.sec.sid) ∧
    (∃ (s : State) (p : Fin 2) (w : Word) (n : Notice) (l : List Notice), s.Calm ∧ s.portUp p = true ∧ (s.port p).stuck = false
      ∧ (s.port p).last = none ∧ (s.port p).rd = none ∧ ones 32 (s.ctxWord (s.get F.AL_STATUS_CTX_ID p)) % 2 = 1
      ∧ (s.port p).notes = n :: l ∧ (∀ r : Fin 8, s.hints r = []) ∧ w.toNat = (s.port p).nseq ∧ w.toNat < 16) ∧
    (∃ (s : State) (p : Fin 2) (q : BitVec 4), s.Calm ∧ s.portUp p = true ∧ (s.port p).stuck = false ∧ s.withheld = false
      ∧ (∀ r : Fin 8, s.hints r = []) ∧ s.isRetry p 9 q.toNat 0xA5A55A5A = false) :=
  ⟨⟨at_AedatFrames_1, (0 : Fin 2), by decide +kernel⟩,
    ⟨at_AedatFrames_2, (0 : Fin 2), (BitVec.ofNat 32 (0+1)), by decide +kernel⟩,
    ⟨at_AedatFrames_3, (0 : Fin 2), (BitVec.ofNat 32 0), by decide +kernel⟩,
    ⟨1000000000, at_AedatFrames_4, (0 : Fin 2), (BitVec.ofNat 32 (((0 : Fin 8) : Fin 8).val * 2^29 + 24576 + 0)), (BitVec.ofNat 9
      0), (0 : Fin 8), 6, by decide +kernel⟩,
    ⟨at_AedatFrames_5, (0 : Fin 2), (BitVec.ofNat 32 (((0 : Fin 8) : Fin 8).val * 2^29 + 24576 + 0)), by decide +kernel⟩,
    ⟨1000000000, at_AedatFrames_6, (0 : Fin 2), (BitVec.ofNat 4 0), (BitVec.ofNat 32 0), ((at_AedatFrames_6).now),
      by decide +kernel⟩,
    ⟨1000000000, at_AedatFrames_7, (0 : Fin 2), (BitVec.ofNat 32 (((0 : Fin 8) : Fin 8).val * 2^29 + (0+1) * 2^17 * 93 % 2^29 /
      2^17 * 2^17 + 0)), 340, (0 : Fin 8), ((at_AedatFrames_7).get F.AL_STATUS_CTX_ID (0 : Fin 2)), ((State.ctxRefill
      { (at_AedatFrames_7) with now := max (at_AedatFrames_7).now 1000000000 } ((at_AedatFrames_7).get F.AL_STATUS_CTX_ID (0 : Fin
      2))).ctx ((at_AedatFrames_7).get F.AL_STATUS_CTX_ID (0 : Fin 2))), by decide +kernel⟩,
    ⟨at_AedatFrames_8, (0 : Fin 2), (BitVec.ofNat 32 (((0 : Fin 8) : Fin 8).val * 2^29)), (0 : Fin 8), by decide +kernel⟩,
    ⟨at_AedatFrames_9, (0 : Fin 2), ([0x0004, 0x10B0, 0x0FFC, 0x5000, 0x7004, 0x0100].getD 0 0), by decide +kernel⟩,
    ⟨at_AedatFrames_10, (0 : Fin 2), 0x0FFC, by decide +kernel⟩,
    ⟨at_AedatFrames_11, (0 : Fin 2), (BitVec.ofNat 32 (0x3118 + 0x20 * 0)), by decide +kernel⟩,
    ⟨at_AedatFrames_12, (0 : Fin 2), (BitVec.ofNat 32 0), by decide +kernel⟩,
    ⟨at_AedatFrames_13, (0 : Fin 2), by decide +kernel⟩,
    ⟨at_AedatFrames_14, (0 : Fin 2), (BitVec.ofNat 32 ((at_AedatFrames_14).sec.sid * 65536 + 2^((0 : Fin 8) : Fin 8).val * 256 + 0
      + 1)), (0 : Fin 8), by decide +kernel⟩,
    ⟨at_AedatFrames_15, (0 : Fin 2), (BitVec.ofNat 32 (((at_AedatFrames_15).sec.sid + 1) % 65536 * 65536 + 0 + 1)),
      by decide +kernel⟩,
    ⟨at_AedatFrames_16, (0 : Fin 2), (BitVec.ofNat 32 ((at_AedatFrames_16).port (0 : Fin 2)).nseq), (⟨1, 2, 77⟩ : Notice), ([⟨3, 0,
      5⟩] : List Notice), by decide +kernel⟩,
    ⟨at_AedatFrames_17, (0 : Fin 2), (BitVec.ofNat 4 0), by decide +kernel⟩⟩

/-- R239, R249: a whole frame. -/
def at_AedatLine_1 : State :=
  let b : State := State.second;
  let p : Fin 2 := (0 : Fin 2);
  let b := { b with ctx0 := 0x80F00000, ctxs := [] };
  let b := ((({ b.cm.up.md .regulate with cz1604 := false }.mark F.AL_CFG_PORT_EN p).mark F.SUPPLY_STATUS_AL_IO_GOOD).mark F.PARSE_STATUS_DONE).set F.AL_STATUS_CRED p 1 |>.modPort p (fun q => { q with stuck := false, rd := none, held := 0 }); b
/-- R239: fewer than 56 edges. -/
def at_AedatLine_2 : State :=
  let b : State := State.second;
  let p : Fin 2 := (0 : Fin 2);
  let b := { b with ctx0 := 0x80F00000, ctxs := [] };
  let b := ((({ b.cm.up.md .regulate with cz1604 := false }.mark F.AL_CFG_PORT_EN p).mark F.SUPPLY_STATUS_AL_IO_GOOD).mark F.PARSE_STATUS_DONE).set F.AL_STATUS_CRED p 1 |>.modPort p (fun q => { q with stuck := false, rd := none, held := 0 }); b
/-- R240, R245: past edge 47 a frame is answered, and does nothing else. -/
def at_AedatLine_3 : State :=
  let b : State := State.second;
  let p : Fin 2 := (0 : Fin 2);
  let b := { b with ctx0 := 0x80F00000, ctxs := [] };
  let b := ((({ b.cm.up.md .regulate with cz1604 := false }.mark F.AL_CFG_PORT_EN p).mark F.SUPPLY_STATUS_AL_IO_GOOD).mark F.PARSE_STATUS_DONE).set F.AL_STATUS_CRED p 1 |>.modPort p (fun q => { q with stuck := false, rd := none, held := 0 }); b.modPort p (fun q => { q with last := none })
/-- R239: more than 56 edges. -/
def at_AedatLine_4 : State :=
  let b : State := State.second;
  let p : Fin 2 := (0 : Fin 2);
  let b := { b with ctx0 := 0x80F00000, ctxs := [] };
  let b := ((({ b.cm.up.md .regulate with cz1604 := false }.mark F.AL_CFG_PORT_EN p).mark F.SUPPLY_STATUS_AL_IO_GOOD).mark F.PARSE_STATUS_DONE).set F.AL_STATUS_CRED p 1 |>.modPort p (fun q => { q with stuck := false, rd := none, held := 0 }); b
/-- R240: the gap ends a stuck clock. -/
def at_AedatLine_5 : State :=
  let b : State := State.second;
  let p : Fin 2 := (0 : Fin 2);
  let b := { b with ctx0 := 0x80F00000, ctxs := [] };
  let b := ((({ b.cm.up.md .regulate with cz1604 := false }.mark F.AL_CFG_PORT_EN p).mark F.SUPPLY_STATUS_AL_IO_GOOD).mark F.PARSE_STATUS_DONE).set F.AL_STATUS_CRED p 1 |>.modPort p (fun q => { q with stuck := true, rd := none, held := 0 }); b
/-- R240. -/
def at_AedatLine_6 : State :=
  let b : State := State.second;
  let p : Fin 2 := (0 : Fin 2);
  let b := { b with ctx0 := 0x80F00000, ctxs := [] };
  let b := ((({ b.cm.up.md .regulate with cz1604 := false }.mark F.AL_CFG_PORT_EN p).mark F.SUPPLY_STATUS_AL_IO_GOOD).mark F.PARSE_STATUS_DONE).set F.AL_STATUS_CRED p 1 |>.modPort p (fun q => { q with stuck := false, rd := none, held := 0 }); b
/-- R246: a frame whose CRC fails. -/
def at_AedatLine_7 : State :=
  let b : State := State.second;
  let p : Fin 2 := (0 : Fin 2);
  let b := { b with ctx0 := 0x80F00000, ctxs := [] };
  let b := ((({ b.cm.up.md .regulate with cz1604 := false }.mark F.AL_CFG_PORT_EN p).mark F.SUPPLY_STATUS_AL_IO_GOOD).mark F.PARSE_STATUS_DONE).set F.AL_STATUS_CRED p 1 |>.modPort p (fun q => { q with stuck := false, rd := none, held := 0 }); b
/-- R246: a reserved type, FORMAT. -/
def at_AedatLine_8 : State :=
  let b : State := State.second;
  let p : Fin 2 := (0 : Fin 2);
  let b := { b with ctx0 := 0x80F00000, ctxs := [] };
  let b := ((({ b.cm.up.md .regulate with cz1604 := false }.mark F.AL_CFG_PORT_EN p).mark F.SUPPLY_STATUS_AL_IO_GOOD).mark F.PARSE_STATUS_DONE).set F.AL_STATUS_CRED p 1 |>.modPort p (fun q => { q with stuck := false, rd := none, held := 0 }); b.modPort p (fun q => { q with last := none })
/-- R250: a result that no frame collected for 1 ms. -/
def at_AedatLine_9 : State :=
  let b : State := State.second;
  let p : Fin 2 := (0 : Fin 2);
  let b := { b with ctx0 := 0x80F00000, ctxs := [] };
  let b := ((({ b.cm.up.md .regulate with cz1604 := false }.mark F.AL_CFG_PORT_EN p).mark F.SUPPLY_STATUS_AL_IO_GOOD).mark F.PARSE_STATUS_DONE).set F.AL_STATUS_CRED p 1 |>.modPort p (fun q => { q with stuck := false, rd := none, held := 0 });
  let b := allRails.foldl (fun (b : State) r => b.modRail r (fun x => { x with tn := [] })) ({ b with rcd.intake := [], jrn := {} } |>.modPort 0 (fun q => { q with notes := [], held := 0 }) |>.modPort 1 (fun q => { q with notes := [], held := 0 })); b.modPort p (fun q => { q with rd := some ⟨3, true, some 7, 99⟩ })
/-- R254: the port is reset. -/
def at_AedatLine_10 : State :=
  let b : State := State.second;
  let p : Fin 2 := (0 : Fin 2);
  let b := { b with ctx0 := 0x80F00000, ctxs := [] };
  let b := ((({ b.cm.up.md .regulate with cz1604 := false }.mark F.AL_CFG_PORT_EN p).mark F.SUPPLY_STATUS_AL_IO_GOOD).mark F.PARSE_STATUS_DONE).set F.AL_STATUS_CRED p 1 |>.modPort p (fun q => { q with stuck := false, rd := none, held := 0 }); (({ b with now := 500000000000 }.set F.AL_CFG_AL_TMO p 1).clear F.AL_STATUS_SILENT p).set F.AL_CFG_ON_SILENT p 0
/-- R254: ON_SILENT, its rails return to BOOT_CODE. -/
def at_AedatLine_11 : State :=
  let b : State := State.second;
  let r : Fin 8 := (0 : Fin 8);
  let p : Fin 2 := (0 : Fin 2);
  let b := { b with ctx0 := 0x80F00000, ctxs := [] };
  let b := ((({ b.cm.up.md .regulate with cz1604 := false }.mark F.AL_CFG_PORT_EN p).mark F.SUPPLY_STATUS_AL_IO_GOOD).mark F.PARSE_STATUS_DONE).set F.AL_STATUS_CRED p 1 |>.modPort p (fun q => { q with stuck := false, rd := none, held := 0 }); (({ b with now := 500000000000 }.set F.AL_CFG_AL_TMO p 1).clear F.AL_STATUS_SILENT p).set F.AL_CFG_ON_SILENT p 1 |>.set F.SP_STATUS_SP_OWNER r (2 + p.val) |>.set F.SP_WIN_P1_MIN r 0 |>.set F.SP_WIN_P1_MAX r 4095
/-- R256. -/
def at_AedatLine_12 : State :=
  State.second.cm.mark F.SUPPLY_STATUS_AL_IO_GOOD
/-- States and operands that meet the conditions of `Obligations.AedatLine`, clause by clause. -/
theorem test_meets_AedatLine :
    (∃ (s : State) (p : Fin 2), s.Calm ∧ s.portUp p = true ∧ (s.port p).stuck = false) ∧
    (∃ (s : State) (p : Fin 2) (e : Nat), s.Calm ∧ s.portUp p = true ∧ (s.port p).stuck = false ∧ 0 < e ∧ e < 56) ∧
    (∃ (t : Nat) (s : State) (p : Fin 2) (e : Nat) (f : Nat) (h : Byte) (c : Byte) (w : Word), s.Calm ∧ s.portUp p = true
      ∧ (s.port p).stuck = false ∧ 48 ≤ e ∧ e < 56 ∧ (s.port p).rd = none ∧ linkCrc (crcBytes h.toNat w.toNat) = c.toNat
      ∧ f = h.toNat / 16 ∧ ones 32 (s.ctxWord (s.get F.AL_STATUS_CTX_ID p)) % 2 = 1
      ∧ s.isRetry p f (h.toNat % 16) w.toNat = false ∧ (State.at s t).isRetry p f (h.toNat % 16) w.toNat = false
      ∧ (State.at s t).refusal p f w.toNat 0 = none) ∧
    (∃ (s : State) (p : Fin 2) (e : Nat), s.Calm ∧ s.portUp p = true ∧ (s.port p).stuck = false ∧ 56 < e) ∧
    (∃ (s : State) (p : Fin 2), s.Calm ∧ s.portUp p = true ∧ (s.port p).stuck = true) ∧
    (∃ (s : State) (p : Fin 2), s.Calm ∧ s.portUp p = true) ∧
    (∃ (s : State) (p : Fin 2) (h : Byte) (c : Byte) (w : Word), s.Calm ∧ s.portUp p = true ∧ (s.port p).stuck = false
      ∧ (s.port p).rd = none ∧ ones 32 (s.ctxWord (s.get F.AL_STATUS_CTX_ID p)) % 2 = 1
      ∧ linkCrc (crcBytes h.toNat w.toNat) ≠ c.toNat) ∧
    (∃ (s : State) (p : Fin 2) (h : Byte) (c : Byte) (w : Word), s.Calm ∧ s.portUp p = true ∧ (s.port p).stuck = false
      ∧ (s.port p).rd = none ∧ (s.port p).last = none ∧ ones 32 (s.ctxWord (s.get F.AL_STATUS_CTX_ID p)) % 2 = 1
      ∧ linkCrc (crcBytes h.toNat w.toNat) = c.toNat ∧ 160 ≤ h.toNat) ∧
    (∃ (s : State) (p : Fin 2) (x : PortRead), s.Calm ∧ (s.port p).rd = some x ∧ x.ready = true ∧ x.readyAt + 1000000 ≤ s.now
      ∧ s.withheld = false ∧ (s.port p).held = 0 ∧ s.get F.AL_STATUS_CRED p < 64) ∧
    (∃ (s : State) (p : Fin 2), s.Calm ∧ s.portUp p = true ∧ (s.port p).goodAt + s.get F.AL_CFG_AL_TMO p * 1000000 ≤ s.now
      ∧ s.get F.AL_CFG_AL_TMO p ≠ 0 ∧ s.flag F.AL_STATUS_SILENT p = false ∧ s.flag F.AL_CFG_ON_SILENT p = false) ∧
    (∃ (s : State) (p : Fin 2) (r : Fin 8), s.Calm ∧ s.portUp p = true ∧ (s.port p).goodAt + s.get F.AL_CFG_AL_TMO p * 1000000 ≤
      s.now ∧ s.get F.AL_CFG_AL_TMO p ≠ 0 ∧ s.flag F.AL_STATUS_SILENT p = false ∧ s.flag F.AL_CFG_ON_SILENT p = true
      ∧ s.get F.SP_STATUS_SP_OWNER r = 2 + p.val ∧ s.get F.SP_WIN_P1_MIN r ≤ (s.cfg r).boot
      ∧ (s.cfg r).boot ≤ s.get F.SP_WIN_P1_MAX r) ∧
    (∃ (s : State), s.Calm ∧ s.flag F.SUPPLY_STATUS_AL_IO_GOOD = true) :=
  ⟨⟨at_AedatLine_1, (0 : Fin 2), by decide +kernel⟩,
    ⟨at_AedatLine_2, (0 : Fin 2), 1, by decide +kernel⟩,
    ⟨1000000000, at_AedatLine_3, (0 : Fin 2), 48, 0, (BitVec.ofNat 8 0), (BitVec.ofNat 8 (linkCrc (crcBytes (BitVec.ofNat 8
      0).toNat (BitVec.ofNat 32 0).toNat))), (BitVec.ofNat 32 0), by decide +kernel⟩,
    ⟨at_AedatLine_4, (0 : Fin 2), 57, by decide +kernel⟩,
    ⟨at_AedatLine_5, (0 : Fin 2), by decide +kernel⟩,
    ⟨at_AedatLine_6, (0 : Fin 2), by decide +kernel⟩,
    ⟨at_AedatLine_7, (0 : Fin 2), (BitVec.ofNat 8 0), (BitVec.ofNat 8 (1 + linkCrc (crcBytes (BitVec.ofNat 8 0).toNat (BitVec.ofNat
      32 0).toNat))), (BitVec.ofNat 32 0), by decide +kernel⟩,
    ⟨at_AedatLine_8, (0 : Fin 2), (BitVec.ofNat 8 160), (BitVec.ofNat 8 (linkCrc (crcBytes (BitVec.ofNat 8 160).toNat (BitVec.ofNat
      32 0).toNat))), (BitVec.ofNat 32 0), by decide +kernel⟩,
    ⟨at_AedatLine_9, (0 : Fin 2), (⟨3, true, some 7, 99⟩ : PortRead), by decide +kernel⟩,
    ⟨at_AedatLine_10, (0 : Fin 2), by decide +kernel⟩,
    ⟨at_AedatLine_11, (0 : Fin 2), (0 : Fin 8), by decide +kernel⟩,
    ⟨at_AedatLine_12, by decide +kernel⟩⟩

/-- R265. -/
def at_LoadHints_1 : State :=
  let b : State := State.second; { b.cm.up with ctxs := [] }.set F.TN_RATE_TK_REFILL 0 1
/-- R263: a word that fails its parity is rewritten. -/
def at_LoadHints_2 : State :=
  let b : State := State.second; { b.cm.up with ctxs := [], ctx0 := 0x80F00001 }.set F.TN_RATE_TK_REFILL 0 1
/-- R272: phases are asked for once. -/
def at_LoadHints_3 : State :=
  let b : State := State.second;
  let r : Fin 8 := (0 : Fin 8);
  let b := (((({ b.sl.up.md .regulate with ctxs := [], ctx0 := 0x80F00000, pow.tnow0 := 1000 }).rst r .reg).cf r (fun c => { c with spans := false })).set F.TN_CTRL_TN_EN 0 255).clear F.MODE_STATUS_SHUTDOWN_ACT |>.set F.TN_WEIGHT_W_FLOOR 0 20; b.modRail r (fun x => { x with tn := [⟨9, 2, 500, 4000000, .waiting, 0, 0, 0, false, false, 0, 0, 0⟩, { ctx := 4, slot := 0, a := -500, due := 7 }] })
/-- R270: the entry takes its base and AEFF and rises. -/
def at_LoadHints_4 : State :=
  let b : State := State.second;
  let r : Fin 8 := (0 : Fin 8);
  let b := (((({ b.sl.up.md .regulate with ctxs := [], ctx0 := 0x80F00000, pow.tnow0 := 1000 }).rst r .reg).cf r (fun c => { c with spans := false })).set F.TN_CTRL_TN_EN 0 255).clear F.MODE_STATUS_SHUTDOWN_ACT |>.set F.TN_WEIGHT_W_FLOOR 0 20; b.modRail r (fun x => { x with tn := [⟨9, 2, 500, ((1000000000 - 1000) / 10 - 20), .waiting, 0, 0, 0, false, false, 0, 0, 0⟩, { ctx := 4, slot := 0, a := -500, due := 7 }] }) |>.set F.TN_TIME_HOLD_T r 255
/-- R276: a shadow entry of a muted context. -/
def at_LoadHints_5 : State :=
  let b : State := State.second;
  let r : Fin 8 := (0 : Fin 8);
  let b := (((({ b.sl.up.md .regulate with ctxs := [], ctx0 := 0x01F00000, pow.tnow0 := 1000 }).rst r .reg).cf r (fun c => { c with spans := false })).set F.TN_CTRL_TN_EN 0 255).clear F.MODE_STATUS_SHUTDOWN_ACT |>.set F.TN_WEIGHT_W_FLOOR 0 20; b.modRail r (fun x => { x with tn := [⟨9, 2, 500, 4000000, .waiting, 0, 0, 0, false, false, 0, 0, 0⟩, { ctx := 4, slot := 0, a := -500, due := 7 }] })
/-- R270: HOLD_T after the due time. -/
def at_LoadHints_6 : State :=
  let b : State := State.second;
  let r : Fin 8 := (0 : Fin 8);
  let b := (((({ b.sl.up.md .regulate with ctxs := [], ctx0 := 0x80F00000, pow.tnow0 := 1000 }).rst r .reg).cf r (fun c => { c with spans := false })).set F.TN_CTRL_TN_EN 0 255).clear F.MODE_STATUS_SHUTDOWN_ACT |>.set F.TN_WEIGHT_W_FLOOR 0 20; b.modRail r (fun x => { x with tn := [⟨9, 2, 500, 4000000, .holding, 0, 0, 0, false, false, 0, 0, 0⟩, { ctx := 4, slot := 0, a := -500, due := 7 }] })
/-- R275: a hit. -/
def at_LoadHints_7 : State :=
  let b : State := State.second;
  let r : Fin 8 := (0 : Fin 8);
  let b := (((({ b.sl.up.md .regulate with ctxs := [], ctx0 := 0x80F00000, pow.tnow0 := 1000 }).rst r .reg).cf r (fun c => { c with spans := false })).set F.TN_CTRL_TN_EN 0 255).clear F.MODE_STATUS_SHUTDOWN_ACT |>.set F.TN_WEIGHT_W_FLOOR 0 20; b.modRail r (fun x => { x with tn := [⟨9, 2, 2, 4000000, .falling, 0, 0, 0, false, false, 0, 0, 0⟩, { ctx := 4, slot := 0, a := -500, due := 7 }] }) |>.modEng r (fun e => { e with sumHist := [900] })
/-- R275: a miss. -/
def at_LoadHints_8 : State :=
  let b : State := State.second;
  let r : Fin 8 := (0 : Fin 8);
  let b := (((({ b.sl.up.md .regulate with ctxs := [], ctx0 := 0x80F00000, pow.tnow0 := 1000 }).rst r .reg).cf r (fun c => { c with spans := false })).set F.TN_CTRL_TN_EN 0 255).clear F.MODE_STATUS_SHUTDOWN_ACT |>.set F.TN_WEIGHT_W_FLOOR 0 20; b.modRail r (fun x => { x with tn := [⟨9, 2, 900, 4000000, .falling, 0, 0, 0, false, false, 0, 0, 0⟩, { ctx := 4, slot := 0, a := -500, due := 7 }] }) |>.modEng r (fun e => { e with sumHist := [0] })
/-- R274: four updates against the hint current. -/
def at_LoadHints_9 : State :=
  let b : State := State.second;
  let r : Fin 8 := (0 : Fin 8);
  let b := (((({ b.sl.up.md .regulate with ctxs := [], ctx0 := 0x80F00000, pow.tnow0 := 1000 }).rst r .reg).cf r (fun c => { c with spans := false })).set F.TN_CTRL_TN_EN 0 255).clear F.MODE_STATUS_SHUTDOWN_ACT |>.set F.TN_WEIGHT_W_FLOOR 0 20; b.modRail r (fun x => { x with tn := [⟨9, 2, 900, 4000000, .rising, 0, 0, 0, false, false, 0, 0, 0⟩, { ctx := 4, slot := 0, a := -500, due := 7 }] }) |>.modEng r (fun e => { e with missPos := 4 })
/-- R277: 01. -/
def at_LoadHints_10 : State :=
  let b : State := State.second;
  let r : Fin 8 := (0 : Fin 8);
  let b := ({ b.sl.p2 with cz1604 := false, ctxs := [], ctx0 := 0x80F00000, pow.tnow0 := 1000 } |>.set F.TN_CTRL_TN_EN 0 255).rst r .reg |>.clear F.TN_CTX_SEL_CTX; b.modRail r (fun x => { x with tn := [{ ctx := 9, slot := 2, a := 500, due := 7, st := .rising, c := 20 },{ ctx := 9, slot := 1, a := 500, due := 7 }, { ctx := 4, slot := 0, a := -500, due := 7 }] })
/-- R277: 10. -/
def at_LoadHints_11 : State :=
  let b : State := State.second;
  let r : Fin 8 := (0 : Fin 8);
  let b := ({ b.sl.p2 with cz1604 := false, ctxs := [], ctx0 := 0x80F00000, pow.tnow0 := 1000 } |>.set F.TN_CTRL_TN_EN 0 255).rst r .reg |>.clear F.TN_CTX_SEL_CTX; b.modRail r (fun x => { x with tn := [{ ctx := 9, slot := 2, a := 500, due := 7, st := .rising, c := 20 },{ ctx := 9, slot := 1, a := 500, due := 7 }, { ctx := 4, slot := 0, a := -500, due := 7 }] })
/-- R277: 11. -/
def at_LoadHints_12 : State :=
  let b : State := State.second;
  let r : Fin 8 := (0 : Fin 8);
  let b := ({ b.sl.p2 with cz1604 := false, ctxs := [], ctx0 := 0x80F00000, pow.tnow0 := 1000 } |>.set F.TN_CTRL_TN_EN 0 255).rst r .reg |>.clear F.TN_CTX_SEL_CTX; b.modRail r (fun x => { x with tn := [{ ctx := 9, slot := 2, a := 500, due := 7, st := .rising, c := 20 },{ ctx := 9, slot := 1, a := 500, due := 7 }, { ctx := 4, slot := 0, a := -500, due := 7 }] })
/-- States and operands that meet the conditions of `Obligations.LoadHints`, clause by clause. -/
theorem test_meets_LoadHints :
    (∃ (s : State) (x : BitVec 15), s.Calm ∧ s.pow.cdUp = true ∧ s.get F.TN_RATE_TK_REFILL ≠ 0
      ∧ ones 32 (s.ctxWord x.toNat) % 2 = 1) ∧
    (∃ (s : State) (x : BitVec 15), s.Calm ∧ s.pow.cdUp = true ∧ s.get F.TN_RATE_TK_REFILL ≠ 0
      ∧ ones 32 (s.ctxWord x.toNat) % 2 = 0) ∧
    (∃ (t : Nat) (s : State) (r : Fin 8) (x : BitVec 15) (j : Fin 4) (h : Hint), s.Still ∧ s.tnOn r = true ∧ s.st r = .reg
      ∧ s.mode = .regulate ∧ s.hintOf r x.toNat j = some h ∧ h.st = .waiting ∧ 0 < h.a ∧ s.muted x.toNat = false
      ∧ h.asked = false ∧ ones 32 (s.ctxWord x.toNat) % 2 = 1 ∧ (s.at t).reached h.due (-(100 * s.get F.TN_TIME_ADD_LEAD r : Int))
      = true) ∧
    (∃ (t : Nat) (s : State) (r : Fin 8) (x : BitVec 15) (j : Fin 4) (h : Hint), s.Still ∧ s.tnOn r = true ∧ s.st r = .reg
      ∧ s.mode = .regulate ∧ s.hintOf r x.toNat j = some h ∧ h.st = .waiting ∧ ones 32 (s.ctxWord x.toNat) % 2 = 1
      ∧ (s.at t).reached h.due (-(2 * s.get F.TN_SLEW_RAMP_ADV r : Int)) = true ∧ s.muted x.toNat = false
      ∧ (s.at t).reached h.due (s.get F.TN_TIME_HOLD_T r * 10) = false) ∧
    (∃ (t : Nat) (s : State) (r : Fin 8) (x : BitVec 15) (j : Fin 4) (h : Hint), s.Still ∧ s.tnOn r = true ∧ s.st r = .reg
      ∧ s.mode = .regulate ∧ s.hintOf r x.toNat j = some h ∧ h.st = .waiting ∧ ones 32 (s.ctxWord x.toNat) % 2 = 1
      ∧ (s.at t).reached h.due (-(2 * s.get F.TN_SLEW_RAMP_ADV r : Int)) = true ∧ s.muted x.toNat = true) ∧
    (∃ (t : Nat) (s : State) (r : Fin 8) (x : BitVec 15) (j : Fin 4) (h : Hint), s.Still ∧ s.tnOn r = true ∧ s.st r = .reg
      ∧ s.mode = .regulate ∧ s.hintOf r x.toNat j = some h ∧ h.up = true ∧ (s.at t).reached h.due (s.get F.TN_TIME_HOLD_T r * 10) =
      true) ∧
    (∃ (t : Nat) (s : State) (r : Fin 8) (x : BitVec 15) (j : Fin 4) (h : Hint), s.Still ∧ s.tnOn r = true ∧ s.st r = .reg
      ∧ s.mode = .regulate ∧ s.hintOf r x.toNat j = some h ∧ h.scored = false ∧ ones 32 (s.ctxWord x.toNat) % 2 = 1
      ∧ (s.at t).reached h.due (s.get F.TN_TIME_CONF_T r * 100) = true ∧ hitOf h (s.iMean r) = true) ∧
    (∃ (t : Nat) (s : State) (r : Fin 8) (x : BitVec 15) (j : Fin 4) (h : Hint), s.Still ∧ s.tnOn r = true ∧ s.st r = .reg
      ∧ s.mode = .regulate ∧ s.hintOf r x.toNat j = some h ∧ h.scored = false ∧ ones 32 (s.ctxWord x.toNat) % 2 = 1
      ∧ (s.at t).reached h.due (s.get F.TN_TIME_CONF_T r * 100) = true ∧ hitOf h (s.iMean r) = false) ∧
    (∃ (s : State) (r : Fin 8), s.Still ∧ s.mode = .regulate ∧ s.st r = .reg ∧ s.tnOn r = true ∧ 4 ≤ (s.eng r).missPos) ∧
    (∃ (s : State) (x : BitVec 15), s.Still ∧ s.AsP2 ∧ s.cz1604 = false ∧ ones 32 (s.ctxWord x.toNat) % 2 = 1) ∧
    (∃ (s : State) (x : BitVec 15) (r : Fin 8), s.Still ∧ s.AsP2 ∧ s.cz1604 = false ∧ ones 32 (s.ctxWord x.toNat) % 2 = 1
      ∧ s.st r = .reg ∧ s.tnOn r = true ∧ s.mode = .regulate) ∧
    (∃ (s : State) (x : BitVec 15) (r : Fin 8), s.Still ∧ s.AsP2 ∧ s.cz1604 = false ∧ ones 32 (s.ctxWord x.toNat) % 2 = 1
      ∧ s.st r = .reg ∧ s.tnOn r = true ∧ s.mode = .regulate) :=
  ⟨⟨at_LoadHints_1, (BitVec.ofNat 15 0), by decide +kernel⟩,
    ⟨at_LoadHints_2, 3, by decide +kernel⟩,
    ⟨1000000000, at_LoadHints_3, (0 : Fin 8), 9, 2, (⟨9, 2, 500, 4000000, .waiting, 0, 0, 0, false, false, 0, 0, 0⟩ : Hint),
      by decide +kernel⟩,
    ⟨1000000000, at_LoadHints_4, (0 : Fin 8), 9, 2, (⟨9, 2, 500, (((at_LoadHints_4).now - 1000) / 10 - 20), .waiting, 0, 0, 0,
      false, false, 0, 0, 0⟩ : Hint), by decide +kernel⟩,
    ⟨1000000000, at_LoadHints_5, (0 : Fin 8), 9, 2, (⟨9, 2, 500, 4000000, .waiting, 0, 0, 0, false, false, 0, 0, 0⟩ : Hint),
      by decide +kernel⟩,
    ⟨1000000000, at_LoadHints_6, (0 : Fin 8), 9, 2, (⟨9, 2, 500, 4000000, .holding, 0, 0, 0, false, false, 0, 0, 0⟩ : Hint),
      by decide +kernel⟩,
    ⟨1000000000, at_LoadHints_7, (0 : Fin 8), 9, 2, (⟨9, 2, 2, 4000000, .falling, 0, 0, 0, false, false, 0, 0, 0⟩ : Hint),
      by decide +kernel⟩,
    ⟨1000000000, at_LoadHints_8, (0 : Fin 8), 9, 2, (⟨9, 2, 900, 4000000, .falling, 0, 0, 0, false, false, 0, 0, 0⟩ : Hint),
      by decide +kernel⟩,
    ⟨at_LoadHints_9, (0 : Fin 8), by decide +kernel⟩,
    ⟨at_LoadHints_10, 9, by decide +kernel⟩,
    ⟨at_LoadHints_11, 9, (0 : Fin 8), by decide +kernel⟩,
    ⟨at_LoadHints_12, 9, (0 : Fin 8), by decide +kernel⟩⟩

/-- R297, R298: the crowbar starts, PGOOD falls. -/
def at_RailProtection_1 : State :=
  let b : State := State.second;
  let r : Fin 8 := (0 : Fin 8); ((b.sl.up.md .regulate).rst r .reg).mark F.SEN_CFG_SEN_STATE r |>.cf r (fun c => { c with critical := false }) |>.modFr r (fun f => { f with ls := .none, readyAt := some 0, stop := .toOff }) |>.mark F.RP_STATUS_OV_RD r |>.set F.RP_WIN_OV_FILT r 5 |>.modFr r (fun f => { f with ovaRun := 0 })
/-- R298: fast stop and LATCHED. -/
def at_RailProtection_2 : State :=
  let b : State := State.second;
  let r : Fin 8 := (0 : Fin 8); ((b.sl.up.md .regulate).rst r .reg).mark F.SEN_CFG_SEN_STATE r |>.cf r (fun c => { c with critical := false }) |>.modFr r (fun f => { f with ls := .crowbar, readyAt := some 0, stop := .toOff }) |>.modFr r (fun f => { f with cbAt := 4, cbCause := 1 })
/-- R287: a critical rail, T9. -/
def at_RailProtection_3 : State :=
  let b : State := State.second;
  let r : Fin 8 := (0 : Fin 8); ((b.sl.up.md .regulate).rst r .reg).mark F.SEN_CFG_SEN_STATE r |>.cf r (fun c => { c with critical := true }) |>.modFr r (fun f => { f with ls := .crowbar, readyAt := some 0, stop := .toOff }) |>.modFr r (fun f => { f with cbAt := 4, cbCause := 1 })
/-- R299, R300. -/
def at_RailProtection_4 : State :=
  let b : State := State.second;
  let r : Fin 8 := (0 : Fin 8); ((b.sl.up.md .regulate).rst r .reg).mark F.SEN_CFG_SEN_STATE r |>.cf r (fun c => { c with critical := false }) |>.modFr r (fun f => { f with ls := .none, readyAt := some 0, stop := .toOff }) |>.mark F.RP_STATUS_UV_RD r
/-- R299, R302. -/
def at_RailProtection_5 : State :=
  let b : State := State.second;
  let r : Fin 8 := (0 : Fin 8); ((b.sl.up.md .regulate).rst r .reg).mark F.SEN_CFG_SEN_STATE r |>.cf r (fun c => { c with critical := false }) |>.modFr r (fun f => { f with ls := .none, readyAt := some 0, stop := .toOff }) |>.mark F.RP_STATUS_UV_RD r |>.set F.RP_TIME_UV_HIC_T r 1 |>.modFr r (fun f => { f with uvAt := 3 }) |>.clear F.MODE_STATUS_SHUTDOWN_ACT |>.set F.HIC_CFG_HIC_RETRY r 9 |>.set F.HIC_STATUS_RETRY_CNT r 0
/-- R301, R302. -/
def at_RailProtection_6 : State :=
  let b : State := State.second;
  let r : Fin 8 := (0 : Fin 8); ((b.sl.up.md .regulate).rst r .reg).mark F.SEN_CFG_SEN_STATE r |>.cf r (fun c => { c with critical := false }) |>.modFr r (fun f => { f with ls := .none, readyAt := some 0, stop := .toOff }) |>.modFr r (fun f => { f with ocAt := some 3 }) |>.clear F.MODE_STATUS_SHUTDOWN_ACT |>.set F.HIC_CFG_HIC_RETRY r 9 |>.set F.HIC_STATUS_RETRY_CNT r 0
/-- R300. -/
def at_RailProtection_7 : State :=
  let b : State := State.second;
  let r : Fin 8 := (0 : Fin 8); ((b.sl.up.md .regulate).rst r .reg).mark F.SEN_CFG_SEN_STATE r |>.cf r (fun c => { c with critical := false }) |>.modFr r (fun f => { f with ls := .none, readyAt := some 0, stop := .toOff }) |>.clear F.RP_STATUS_OV_RD r |>.clear F.RP_STATUS_UV_RD r |>.modFr r (fun f => { f with pgAt := 4, ovaRun := 0 })
/-- R292: a LATCHED rail whose cause is absent. -/
def at_RailProtection_8 : State :=
  let b : State := State.second;
  let r : Fin 8 := (0 : Fin 8); ((({ b.sl.p2 with cz1604 := false }).rst r .latched).set F.RP_STATUS_LATCH_CAUSE r 5).cf r (fun c => { c with spans := false }) |> (fun (b : State) => { b with pow.en := Vector.replicate 4 false })
/-- R292: the cause is present, refused. -/
def at_RailProtection_9 : State :=
  let b : State := State.second;
  let r : Fin 8 := (0 : Fin 8); ((({ b.sl.p2 with cz1604 := false }).rst r .latched).set F.RP_STATUS_LATCH_CAUSE r 1).mark F.RP_STATUS_OV_RD r
/-- States and operands that meet the conditions of `Obligations.RailProtection`, clause by clause. -/
theorem test_meets_RailProtection :
    (∃ (s : State) (r : Fin 8), s.Still ∧ s.flag F.SEN_CFG_SEN_STATE r = true ∧ s.flag F.RP_STATUS_OV_RD r = true
      ∧ (s.fr r).ovaRun = 0 ∧ s.get F.RP_WIN_OV_FILT r ≠ 0 ∧ (s.fr r).ls ≠ .crowbar ∧ s.st r = .reg) ∧
    (∃ (s : State) (r : Fin 8), s.Still ∧ (s.fr r).ls = .crowbar ∧ (s.fr r).cbAt + s.get F.RP_TIME_CB_MAX r * 1000 ≤ s.now
      ∧ s.mode.running = true ∧ s.flag F.SEN_CFG_SEN_STATE r = true ∧ (s.cfg r).critical = false ∧ (s.fr r).cbCause < 16) ∧
    (∃ (s : State) (r : Fin 8), s.Still ∧ (s.fr r).ls = .crowbar ∧ (s.fr r).cbAt + s.get F.RP_TIME_CB_MAX r * 1000 ≤ s.now
      ∧ s.mode.running = true ∧ s.flag F.SEN_CFG_SEN_STATE r = true ∧ (s.cfg r).critical = true) ∧
    (∃ (s : State) (r : Fin 8), s.Calm ∧ s.flag F.RP_STATUS_UV_RD r = true) ∧
    (∃ (s : State) (r : Fin 8), s.Still ∧ s.flag F.RP_STATUS_UV_RD r = true ∧ s.get F.RP_TIME_UV_HIC_T r ≠ 0
      ∧ (s.fr r).uvAt + s.get F.RP_TIME_UV_HIC_T r * 100000 ≤ s.now ∧ s.mode.running = true ∧ (s.st r).switching = true
      ∧ s.flag F.MODE_STATUS_SHUTDOWN_ACT = false ∧ s.get F.HIC_STATUS_RETRY_CNT r < s.get F.HIC_CFG_HIC_RETRY r) ∧
    (∃ (s : State) (r : Fin 8) (a : Nat), s.Still ∧ (s.fr r).ocAt = some a ∧ a + s.get F.RP_TIME_OC_SUST r * 10000 ≤ s.now
      ∧ s.mode.running = true ∧ (s.st r).switching = true ∧ s.flag F.MODE_STATUS_SHUTDOWN_ACT = false
      ∧ s.get F.HIC_STATUS_RETRY_CNT r < s.get F.HIC_CFG_HIC_RETRY r) ∧
    (∃ (s : State) (r : Fin 8), s.Still ∧ (s.st r = .reg ∨ s.st r = .shed) ∧ s.ovOut r = false
      ∧ s.flag F.RP_STATUS_UV_RD r = false ∧ (s.fr r).pgAt + s.get F.RP_TIME_PG_DLY r * 10000 ≤ s.now) ∧
    (∃ (s : State) (r : Fin 8), s.Still ∧ s.AsP2 ∧ s.mode = .regulate ∧ s.cz1604 = false ∧ s.st r = .latched
      ∧ s.latchPresent r = false ∧ s.isMember r = false ∧ s.pow.en[s.regionOf r] = false) ∧
    (∃ (s : State) (r : Fin 8), s.Still ∧ s.AsP2 ∧ s.mode = .regulate ∧ s.cz1604 = false ∧ s.st r = .latched
      ∧ s.latchPresent r = true) :=
  ⟨⟨at_RailProtection_1, (0 : Fin 8), by decide +kernel⟩,
    ⟨at_RailProtection_2, (0 : Fin 8), by decide +kernel⟩,
    ⟨at_RailProtection_3, (0 : Fin 8), by decide +kernel⟩,
    ⟨at_RailProtection_4, (0 : Fin 8), by decide +kernel⟩,
    ⟨at_RailProtection_5, (0 : Fin 8), by decide +kernel⟩,
    ⟨at_RailProtection_6, (0 : Fin 8), 3, by decide +kernel⟩,
    ⟨at_RailProtection_7, (0 : Fin 8), by decide +kernel⟩,
    ⟨at_RailProtection_8, (0 : Fin 8), by decide +kernel⟩,
    ⟨at_RailProtection_9, (0 : Fin 8), by decide +kernel⟩⟩

/-- R307: to the auxiliary sense. -/
def at_SenseAndReferences_1 : State :=
  let b : State := State.second;
  let r : Fin 8 := (0 : Fin 8); ((b.sl.up.md .regulate).rst r .reg).mark F.SEN_CFG_SEN_STATE r |>.cf r (fun c => { c with critical := false }) |>.modFr r (fun f => { f with ls := .none, readyAt := some 0, stop := .toOff }) |>.clear F.RP_STATUS_SNS_AUX r |>.mark F.RP_MISC_AUX_ALLOW r |>.modFr r (fun f => { f with snsRun := 2 })
/-- R307: soft stop, LATCHED at its end. -/
def at_SenseAndReferences_2 : State :=
  let b : State := State.second;
  let r : Fin 8 := (0 : Fin 8); ((b.sl.up.md .regulate).rst r .reg).mark F.SEN_CFG_SEN_STATE r |>.cf r (fun c => { c with critical := false }) |>.modFr r (fun f => { f with ls := .none, readyAt := some 0, stop := .toOff }) |>.clear F.RP_STATUS_SNS_AUX r |>.clear F.RP_MISC_AUX_ALLOW r |>.modFr r (fun f => { f with snsRun := 2 })
/-- R309: the request of the Control die. -/
def at_SenseAndReferences_3 : State :=
  let b : State := State.second;
  let r : Fin 8 := (0 : Fin 8); b.cm.up.modEng r (fun e => { e with par64 := List.replicate 8 true })
/-- R309: the main sense is frozen. -/
def at_SenseAndReferences_4 : State :=
  let b : State := State.second;
  let r : Fin 8 := (0 : Fin 8); ((b.sl.up.md .regulate).rst r .reg).mark F.SEN_CFG_SEN_STATE r |>.cf r (fun c => { c with critical := false }) |>.modFr r (fun f => { f with ls := .none, readyAt := some 0, stop := .toOff }) |>.clear F.RP_STATUS_SNS_AUX r |>.mark F.RP_MISC_AUX_ALLOW r |>.modFr r (fun f => { f with frzDone := true })
/-- R310: open-loop soft stop. -/
def at_SenseAndReferences_5 : State :=
  let b : State := State.second;
  let r : Fin 8 := (0 : Fin 8); ((b.sl.up.md .regulate).rst r .reg).mark F.SEN_CFG_SEN_STATE r |>.cf r (fun c => { c with critical := false }) |>.modFr r (fun f => { f with ls := .none, readyAt := some 0, stop := .toOff }) |>.mark F.RP_STATUS_SNS_AUX r |>.modFr r (fun f => { f with clipRun := 32 })
/-- R303: fault 0x2, every rail fast-stops. -/
def at_SenseAndReferences_6 : State :=
  let b : State := State.second;
  let r : Fin 8 := (0 : Fin 8);
  let b := b.sl.md .regulate; { b with pow.busOvRun := 2 }
/-- R305. -/
def at_SenseAndReferences_7 : State :=
  let b : State := State.second;
  let n : Fin 32 := (0 : Fin 32); (b.cm.md .regulate).mark F.PH_STATE_ASSIGNED n |> (fun (b : State) => b.cf (b.railOf n) (fun c => { c with region := 2 })) |>.clear F.REFIN_STATUS_REFIN_FAULT 2
/-- R305: 1 ms of inside readings and a good round. -/
def at_SenseAndReferences_8 : State :=
  State.second.cm.mark F.REFIN_STATUS_REFIN_FAULT 0
/-- R312. -/
def at_SenseAndReferences_9 : State :=
  let b : State := State.second;
  let r : Fin 8 := (0 : Fin 8); b.cm
/-- R313: fault 0x3. -/
def at_SenseAndReferences_10 : State :=
  let b : State := State.second; { b.sl.md .regulate with pow.noVote := false }.set F.REF_STATUS_NOVOTE_CNT 0 3
/-- R311: the initial votes agree. -/
def at_SenseAndReferences_11 : State :=
  let b : State := State.second; ((b.cm.md .precheck).clear F.MODE_STATUS_SHUTDOWN_ACT).clear F.REF_STATUS_REF_OUT
/-- R312: a reference is outvoted. -/
def at_SenseAndReferences_12 : State :=
  let b : State := State.second; (((b.cm.md .precheck).clear F.MODE_STATUS_SHUTDOWN_ACT).clear F.REF_STATUS_REF_OUT).clear F.REF_STATUS_REF_SEL
/-- R316: every test passes. -/
def at_SenseAndReferences_13 : State :=
  let b : State := State.second;
  let r : Fin 8 := (0 : Fin 8); ((b.sl.up.md .regulate).rst r .reg).mark F.SEN_CFG_SEN_STATE r |>.cf r (fun c => { c with critical := false }) |>.modFr r (fun f => { f with ls := .none, readyAt := some 0, stop := .toOff }) |>.rst r .armed |>.modFr r (fun f => { f with passed := false, senLead := true }) |>.set F.PHC_CTRL_MIN_LIVE r 0
/-- R316: REFIN out of its window holds every armed rail of the region. -/
def at_SenseAndReferences_14 : State :=
  let b : State := State.second;
  let r : Fin 8 := (0 : Fin 8); ((b.sl.up.md .regulate).rst r .reg).mark F.SEN_CFG_SEN_STATE r |>.cf r (fun c => { c with critical := false }) |>.modFr r (fun f => { f with ls := .none, readyAt := some 0, stop := .toOff }) |>.rst r .armed |>.modFr r (fun f => { f with passed := false, senLead := true }) |>.rst (r+1) .armed |> (fun (b : State) => b.cf (r+1) (fun c => { c with region := (b.cfg r).region }))
/-- R316, R317: a half-bridge short, fault 0x1. -/
def at_SenseAndReferences_15 : State :=
  let b : State := State.second;
  let r : Fin 8 := (0 : Fin 8); ((b.sl.up.md .regulate).rst r .reg).mark F.SEN_CFG_SEN_STATE r |>.cf r (fun c => { c with critical := false }) |>.modFr r (fun f => { f with ls := .none, readyAt := some 0, stop := .toOff }) |>.rst r .armed |>.modFr r (fun f => { f with passed := false, senLead := true })
/-- R291. -/
def at_SenseAndReferences_16 : State :=
  let b : State := State.second; { b.cm.p2 with cz1604 := false }.mark F.FAULT_HOLD_FAULT_HOLD
/-- R319: the counted expiry of a lease that is held. -/
def at_SenseAndReferences_17 : State :=
  let b : State := State.second; { b.cm.md .regulate with jrn := { b.jrn with busy := some ⟨2, [1,2,3], 2000, false, 0⟩ }, br.c4 := [⟨.spi, .p2, false, 0x10, 0⟩], pow.cdUp := true }.mark F.SUPPLY_STATUS_VDDIO_GOOD
/-- R319, R17: the access that holds the bridge ends. -/
def at_SenseAndReferences_18 : State :=
  let b : State := State.second; { b.cm.md .regulate with br.c4 := [⟨.spi, .p2, false, 0x10, 0⟩, ⟨.pmb, .p2, true, 0x10, 0⟩], pow.cdUp := true }
/-- States and operands that meet the conditions of `Obligations.SenseAndReferences`, clause by clause. -/
theorem test_meets_SenseAndReferences :
    (∃ (s : State) (r : Fin 8), s.Still ∧ s.st r = .reg ∧ s.mode.running = true ∧ s.flag F.RP_STATUS_SNS_AUX r = false
      ∧ 2 ≤ (s.fr r).snsRun ∧ s.flag F.RP_MISC_AUX_ALLOW r = true) ∧
    (∃ (s : State) (r : Fin 8), s.Still ∧ s.st r = .reg ∧ s.mode.running = true ∧ s.flag F.RP_STATUS_SNS_AUX r = false
      ∧ 2 ≤ (s.fr r).snsRun ∧ s.flag F.RP_MISC_AUX_ALLOW r = false ∧ (s.cfg r).critical = false) ∧
    (∃ (s : State) (r : Fin 8), s.Calm ∧ s.pow.cdUp = true ∧ 8 ≤ ((s.eng r).par64.filter id).length) ∧
    (∃ (s : State) (r : Fin 8), s.Still ∧ s.st r = .reg ∧ s.mode.running = true ∧ s.flag F.RP_STATUS_SNS_AUX r = false
      ∧ (s.fr r).frzDone = true ∧ s.flag F.RP_MISC_AUX_ALLOW r = true) ∧
    (∃ (s : State) (r : Fin 8), s.Still ∧ s.st r = .reg ∧ s.mode.running = true ∧ s.flag F.RP_STATUS_SNS_AUX r = true
      ∧ 32 ≤ (s.fr r).clipRun ∧ (s.cfg r).critical = false) ∧
    (∃ (s : State), s.Still ∧ 2 ≤ s.pow.busOvRun ∧ s.mode.running = true) ∧
    (∃ (s : State) (m : Fin 4) (n : Fin 32) (v : Nat), s.Calm ∧ s.mode = .regulate ∧ s.flag F.REFIN_STATUS_REFIN_FAULT m = false
      ∧ s.flag F.PH_STATE_ASSIGNED n = true ∧ s.regionOf (s.railOf n) = m ∧ (refinOut v = true ∨ s.refinFar m v = true)) ∧
    (∃ (s : State) (m : Fin 4), s.Calm ∧ s.th.refinOk.getD m.val true = true ∧ s.th.refinAt.getD m.val 0 + 1000000 ≤ s.now) ∧
    (∃ (s : State), s.Calm ∧ s.th.trimAt + 10000 ≤ s.now) ∧
    (∃ (s : State), s.Still ∧ s.get F.REF_STATUS_NOVOTE_CNT = 3 ∧ s.pow.noVote = false ∧ s.mode.running = true) ∧
    (∃ (s : State) (a : Int) (d : Int) (e : Int), s.Calm ∧ s.mode = .precheck ∧ s.flag F.MODE_STATUS_SHUTDOWN_ACT = false
      ∧ s.get F.REF_STATUS_REF_OUT = 0 ∧ |a| ≤ 3000 ∧ |d| ≤ 3000 ∧ |e| ≤ 3000) ∧
    (∃ (s : State) (a : Int) (d : Int) (e : Int), s.Calm ∧ s.mode = .precheck ∧ s.flag F.MODE_STATUS_SHUTDOWN_ACT = false
      ∧ s.get F.REF_STATUS_REF_OUT = 0 ∧ s.get F.REF_STATUS_REF_SEL = 0 ∧ 6000 < |a| ∧ |d| ≤ 3000 ∧ 6000 < |e|) ∧
    (∃ (s : State) (r : Fin 8) (l : List (Int × Int × Int)), s.Still ∧ s.st r = .armed ∧ (s.fr r).passed = false
      ∧ (s.fr r).senLead = true ∧ s.mode = .regulate ∧ ((∀ e ∈ l, |e.1| ≤ 40 ∧ e.2.1 < 40 ∧ e.2.2 ≤ (s.cfg r).hsI))
      ∧ s.get F.PHC_CTRL_MIN_LIVE r ≤ (s.liveOf r).length ∧ (s.phasesOf r).length ≤ l.length) ∧
    (∃ (s : State) (r : Fin 8) (q : Fin 8) (v : Nat), s.Still ∧ s.st r = .armed ∧ (s.fr r).passed = false
      ∧ (s.fr r).senLead = true ∧ s.mode = .regulate ∧ (v < 600 ∨ 1500 < v) ∧ s.regionOf q = s.regionOf r ∧ s.st q = .armed) ∧
    (∃ (s : State) (r : Fin 8) (l : List (Int × Int × Int)) (y : Int), s.Still ∧ s.st r = .armed ∧ (s.fr r).passed = false
      ∧ (s.fr r).senLead = true ∧ s.mode = .regulate ∧ (s.cfg r).hsDv * 5 < y ∧ l = []) ∧
    (∃ (s : State), s.Calm ∧ s.AsP2 ∧ s.mode = .regulate ∧ s.cz1604 = false) ∧
    (∃ (s : State) (i : Fin 5), s.Calm ∧ s.leaseHeld i.val = true) ∧
    (∃ (s : State) (a : Access) (l : List Access), s.Calm ∧ s.br.c4 = a :: l ∧ s.leaseHeld 3 = true) :=
  ⟨⟨at_SenseAndReferences_1, (0 : Fin 8), by decide +kernel⟩,
    ⟨at_SenseAndReferences_2, (0 : Fin 8), by decide +kernel⟩,
    ⟨at_SenseAndReferences_3, (0 : Fin 8), by decide +kernel⟩,
    ⟨at_SenseAndReferences_4, (0 : Fin 8), by decide +kernel⟩,
    ⟨at_SenseAndReferences_5, (0 : Fin 8), by decide +kernel⟩,
    ⟨at_SenseAndReferences_6, by decide +kernel⟩,
    ⟨at_SenseAndReferences_7, 2, (0 : Fin 32), (599 - 0), by decide +kernel⟩,
    ⟨at_SenseAndReferences_8, (Fin.ofNat 4 0), by decide +kernel⟩,
    ⟨at_SenseAndReferences_9, by decide +kernel⟩,
    ⟨at_SenseAndReferences_10, by decide +kernel⟩,
    ⟨at_SenseAndReferences_11, 3000, (-3000), 0, by decide +kernel⟩,
    ⟨at_SenseAndReferences_12, 7000, (-0), (-7001), by decide +kernel⟩,
    ⟨at_SenseAndReferences_13, (0 : Fin 8), (List.replicate 32 (0, -0, 0)), by decide +kernel⟩,
    ⟨at_SenseAndReferences_14, (0 : Fin 8), (1 : Fin 8), 1501, by decide +kernel⟩,
    ⟨at_SenseAndReferences_15, (0 : Fin 8), ([]), 99999, by decide +kernel⟩,
    ⟨at_SenseAndReferences_16, by decide +kernel⟩,
    ⟨at_SenseAndReferences_17, (Fin.ofNat 5 0), by decide +kernel⟩,
    ⟨at_SenseAndReferences_18, (⟨.spi, .p2, false, 0x10, 0⟩ : Access), ([⟨.pmb, .p2, true, 0x10, 0⟩] : List Access),
      by decide +kernel⟩⟩

/-- R343. -/
def at_Housekeeping_1 : State :=
  let b : State := State.second; { (b.cm.md .regulate) with th := { b.th with running := false, demand := 0, owed := false, next := 0 } }.mark F.SUPPLY_STATUS_VDD33_GOOD |>.set F.HK_CFG_HK_ROUND 0 10
/-- R343: skipped while one runs. -/
def at_Housekeeping_2 : State :=
  let b : State := State.second; { (b.cm.md .regulate) with th := { b.th with running := true, demand := 0, owed := false, next := 4 } }.mark F.SUPPLY_STATUS_VDD33_GOOD |>.set F.HK_CFG_HK_ROUND 0 10
/-- R343: before the next round is due. -/
def at_Housekeeping_3 : State :=
  let b : State := State.second; { (b.cm.md .regulate) with th := { b.th with running := 0 = 0, demand := 0, owed := false, next := 4 } }.mark F.SUPPLY_STATUS_VDD33_GOOD |>.set F.HK_CFG_HK_ROUND 0 10 |> (fun (b : State) => { b with th.startAt := some 1000000007 })
/-- R345. -/
def at_Housekeeping_4 : State :=
  let b : State := State.second; { (b.cm.md .regulate) with th := { b.th with running := 0 = 0, demand := 0, owed := false, next := 4 } }.mark F.SUPPLY_STATUS_VDD33_GOOD |>.set F.HK_CFG_HK_ROUND 0 10
/-- R344: a supply channel. -/
def at_Housekeeping_5 : State :=
  let b : State := State.second; { (b.cm.md .regulate) with th := { b.th with running := true, demand := 0, owed := false, next := 22 } }.mark F.SUPPLY_STATUS_VDD33_GOOD |>.set F.HK_CFG_HK_ROUND 0 10 |>.clear F.HK_STATUS_SELF_FAIL
/-- R344: channels come in order. -/
def at_Housekeeping_6 : State :=
  let b : State := State.second; { (b.cm.md .regulate) with th := { b.th with running := true, demand := 0, owed := false, next := 23 } }.mark F.SUPPLY_STATUS_VDD33_GOOD |>.set F.HK_CFG_HK_ROUND 0 10
/-- R345: a request is served before the next slot. -/
def at_Housekeeping_7 : State :=
  let b : State := State.second; { (b.cm.md .regulate) with th := { b.th with running := true, demand := 1, owed := true, next := 5 } }.mark F.SUPPLY_STATUS_VDD33_GOOD |>.set F.HK_CFG_HK_ROUND 0 10
/-- R347, R349: a die sensor out of range is STALE. -/
def at_Housekeeping_8 : State :=
  let b : State := State.second; { (b.cm.md .regulate) with th := { b.th with running := true, demand := 0, owed := false, next := 0 } }.mark F.SUPPLY_STATUS_VDD33_GOOD |>.set F.HK_CFG_HK_ROUND 0 10 |> (fun (b : State) => (List.range 6).foldl (fun (b : State) i => b.clear (sensReg i).failed (sensReg i).i) b)
/-- R349: a good reading. -/
def at_Housekeeping_9 : State :=
  let b : State := State.second; { (b.cm.md .regulate) with th := { b.th with running := true, demand := 0, owed := false, next := 0 } }.mark F.SUPPLY_STATUS_VDD33_GOOD |>.set F.HK_CFG_HK_ROUND 0 10 |>.clear F.HK_STATUS_SELF_FAIL
/-- R346. -/
def at_Housekeeping_10 : State :=
  let b : State := State.second; { b.cm with th.selfRun := 2 }.clear F.HK_STATUS_SELF_FAIL
/-- R349. -/
def at_Housekeeping_11 : State :=
  let b : State := State.second; ({ b.cm with th.sens := List.replicate 47 { bad := 9 } }).set F.HK_CFG_STALE_MAX 0 1
/-- R348: a scan joins its sum. -/
def at_Housekeeping_12 : State :=
  let b : State := State.second;
  let n : Fin 32 := (0 : Fin 32); ((b.cm.md .regulate).mark F.PH_STATE_ASSIGNED n).clear F.PWM_STATUS_TFLT_FAULT n |> (fun (b : State) => b.mark F.SEN_CFG_SEN_STATE (b.railOf n)) |> (fun (b : State) => { b with th.sum := List.replicate 32 (0, 77) })
/-- R348: the sixteenth gives the temperature. -/
def at_Housekeeping_13 : State :=
  let b : State := State.second;
  let n : Fin 32 := (0 : Fin 32); ((b.cm.md .regulate).mark F.PH_STATE_ASSIGNED n).clear F.PWM_STATUS_TFLT_FAULT n |> (fun (b : State) => b.mark F.SEN_CFG_SEN_STATE (b.railOf n)) |> (fun (b : State) => { b.clear F.HK_STATUS_SELF_FAIL with th := { b.th with tfV0 := 600, tfSlope := 8000, tfVmin := 5, sum := List.replicate 32 (15, 7000) } })
/-- R354: one high reading. -/
def at_Housekeeping_14 : State :=
  let b : State := State.second; ({ b.cm.md .regulate with th.cmp := 2 }).set F.TH_LIMITS_PKG_TSHUT 0 140
/-- R354: two consecutive high readings, fault 0x7. -/
def at_Housekeeping_15 : State :=
  let b : State := State.second; ({ b.sl.md .regulate with th.cmp := 2, th.strobe := 0 }).set F.TH_LIMITS_PKG_TSHUT 0 140
/-- States and operands that meet the conditions of `Obligations.Housekeeping`, clause by clause. -/
theorem test_meets_Housekeeping :
    (∃ (t : Nat) (s : State) , s.Calm ∧ s.hkRuns = true ∧ s.th.running = false ∧ (State.at s t).hkDue = true) ∧
    (∃ (t : Nat) (s : State) , s.Calm ∧ s.hkRuns = true ∧ s.th.running = true ∧ (State.at s t).hkDue = true) ∧
    (∃ (t : Nat) (s : State) , s.Calm ∧ s.hkRuns = true ∧ (State.at s t).hkDue = false) ∧
    (∃ (s : State), s.Calm ∧ s.hkRuns = true) ∧
    (∃ (s : State) (a : Int), s.Calm ∧ s.hkRuns = true ∧ s.th.running = true ∧ s.th.owed = false ∧ s.hkNext = 22
      ∧ s.flag F.HK_STATUS_SELF_FAIL = false ∧ 0 ≤ a ∧ a < 65536) ∧
    (∃ (s : State) (c : Fin 32), s.Calm ∧ s.hkRuns = true ∧ c.val ≠ s.hkNext ∧ c.val ≠ 30) ∧
    (∃ (s : State), s.Calm ∧ s.hkRuns = true ∧ s.th.owed = true) ∧
    (∃ (s : State) (c : Fin 32) (a : Int), s.Calm ∧ s.hkRuns = true ∧ s.th.running = true ∧ s.th.owed = false ∧ s.hkNext = c.val
      ∧ c.val < 6 ∧ s.tempFailed (sensReg c.val) = false ∧ 1400 < a ∧ s.th.sens.length = 47) ∧
    (∃ (s : State) (c : Fin 32) (a : Int), s.Calm ∧ s.hkRuns = true ∧ s.th.running = true ∧ s.th.owed = false ∧ s.hkNext = c.val
      ∧ c.val < 6 ∧ s.flag F.HK_STATUS_SELF_FAIL = false ∧ (s.sens c.val).failed = false ∧ -440 ≤ a ∧ a ≤ 1400) ∧
    (∃ (s : State), s.Calm ∧ 2 ≤ s.th.selfRun ∧ s.flag F.HK_STATUS_SELF_FAIL = false) ∧
    (∃ (s : State) (i : Fin 47), s.Calm ∧ (s.sens i.val).failed = false ∧ s.get F.HK_CFG_STALE_MAX ≤ (s.sens i.val).bad
      ∧ (s.sens i.val).bad ≠ 0 ∧ s.th.sens.length = 47) ∧
    (∃ (s : State) (n : Fin 32) (y : Nat) (z : Nat), s.Calm ∧ s.mode = .regulate ∧ s.flag F.PH_STATE_ASSIGNED n = true
      ∧ s.flag F.SEN_CFG_SEN_STATE (s.railOf n) = true ∧ s.flag F.PWM_STATUS_TFLT_FAULT n = false
      ∧ s.th.sum.getD n.val (0, 0) = (y, z) ∧ y + 1 < 16 ∧ s.th.sum.length = 32) ∧
    (∃ (s : State) (n : Fin 32) (c : BitVec 10) (z : Nat) (v : Int), s.Calm ∧ s.mode = .regulate
      ∧ s.flag F.PH_STATE_ASSIGNED n = true ∧ s.flag F.SEN_CFG_SEN_STATE (s.railOf n) = true
      ∧ s.flag F.PWM_STATUS_TFLT_FAULT n = false ∧ s.th.sum.getD n.val (0, 0) = (15, z) ∧ s.flag F.HK_STATUS_SELF_FAIL = false
      ∧ s.th.tfSlope ≠ 0 ∧ tfltTemp s.th.tfV0 s.th.tfSlope s.th.tfVmin (z + c.toNat) = some v ∧ -2048 ≤ v
      ∧ (s.sens (15 + n.val)).failed = false ∧ s.th.sum.length = 32) ∧
    (∃ (s : State) (c : BitVec 6), s.Calm ∧ s.mode = .regulate ∧ s.get F.TH_LIMITS_PKG_TSHUT ≠ 0 ∧ s.th.cmp &&& c.toNat = 0
      ∧ c ≠ 0) ∧
    (∃ (s : State) (c : BitVec 6), s.Still ∧ s.mode = .regulate ∧ s.get F.TH_LIMITS_PKG_TSHUT ≠ 0 ∧ s.th.cmp &&& c.toNat ≠ 0
      ∧ s.th.strobe = 0) :=
  ⟨⟨1000000000, at_Housekeeping_1, by decide +kernel⟩,
    ⟨1000000000, at_Housekeeping_2, by decide +kernel⟩,
    ⟨1000000000, at_Housekeeping_3, by decide +kernel⟩,
    ⟨at_Housekeeping_4, by decide +kernel⟩,
    ⟨at_Housekeeping_5, 0, by decide +kernel⟩,
    ⟨at_Housekeeping_6, (0 : Fin 32), by decide +kernel⟩,
    ⟨at_Housekeeping_7, by decide +kernel⟩,
    ⟨at_Housekeeping_8, (0 : Fin 32), 1401, by decide +kernel⟩,
    ⟨at_Housekeeping_9, (0 : Fin 32), (-440), by decide +kernel⟩,
    ⟨at_Housekeeping_10, by decide +kernel⟩,
    ⟨at_Housekeeping_11, (Fin.ofNat 47 0), by decide +kernel⟩,
    ⟨at_Housekeeping_12, (0 : Fin 32), 0, 77, by decide +kernel⟩,
    ⟨at_Housekeeping_13, (0 : Fin 32), (BitVec.ofNat 10 0), 7000, ((tfltTemp (at_Housekeeping_13).th.tfV0
      (at_Housekeeping_13).th.tfSlope (at_Housekeeping_13).th.tfVmin (7000 + (BitVec.ofNat 10 0).toNat)).getD 0),
      by decide +kernel⟩,
    ⟨at_Housekeeping_14, 8, by decide +kernel⟩,
    ⟨at_Housekeeping_15, 3, by decide +kernel⟩⟩

/-- R365, R366: the input is present. -/
def at_ChargerAndPack_1 : State :=
  let b : State := State.second;
  let b := ((((((({ b.sl.up.md .regulate with pk := { b.pk with inLost := false, gate := false, insHold := false, recRest := false, test := 0, retryWait := false, firstEst := false, swLow := 3 } }).mark F.PK_CFG_PACK_DECL).mark F.PK_STATE_PRESENT).clear F.PK_STATE_PACK_DEAD).clear F.PK_STATE_CHG_FLT).mark F.PK_CTRL_CHG_EN).mark F.THERM_STATUS_CHG_OK).set F.PK_STATE_CHG_ST 0 1 |>.set F.PK_CFG_CELLS 0 12; (b.set F.HK_V0_VAON 0 5000).set F.PK_VOLT_BAT_V 0 0
/-- R365: the input is not present. -/
def at_ChargerAndPack_2 : State :=
  let b : State := State.second;
  let b := ((((((({ b.sl.up.md .regulate with pk := { b.pk with inLost := false, gate := false, insHold := false, recRest := false, test := 0, retryWait := false, firstEst := false, swLow := 3 } }).mark F.PK_CFG_PACK_DECL).mark F.PK_STATE_PRESENT).clear F.PK_STATE_PACK_DEAD).clear F.PK_STATE_CHG_FLT).mark F.PK_CTRL_CHG_EN).mark F.THERM_STATUS_CHG_OK).set F.PK_STATE_CHG_ST 0 1 |>.set F.PK_CFG_CELLS 0 12; (b.set F.HK_V0_VAON 0 5000)
/-- R365: 1 s after the stop. -/
def at_ChargerAndPack_3 : State :=
  let b : State := State.second; { b.cm with now := 2000000000, pk.retryWait := true, pk.retryAt := 0 }
/-- R365: 8 periods below 16.0 V. -/
def at_ChargerAndPack_4 : State :=
  let b : State := State.second;
  let b := ((((((({ b.sl.up.md .regulate with pk := { b.pk with inLost := false, gate := false, insHold := false, recRest := false, test := 0, retryWait := false, firstEst := false, swLow := 7 } }).mark F.PK_CFG_PACK_DECL).mark F.PK_STATE_PRESENT).clear F.PK_STATE_PACK_DEAD).clear F.PK_STATE_CHG_FLT).mark F.PK_CTRL_CHG_EN).mark F.THERM_STATUS_CHG_OK).set F.PK_STATE_CHG_ST 0 3 |>.set F.PK_CFG_CELLS 0 12; b.set F.HK_V0_VAON 0 4900
/-- R367: CC to CV. -/
def at_ChargerAndPack_5 : State :=
  let b : State := State.tuned;
  let b := ((((((({ b.sl.up.md .regulate with pk := { b.pk with inLost := false, gate := false, insHold := false, recRest := false, test := 0, retryWait := false, firstEst := false, swLow := 7 } }).mark F.PK_CFG_PACK_DECL).mark F.PK_STATE_PRESENT).clear F.PK_STATE_PACK_DEAD).clear F.PK_STATE_CHG_FLT).mark F.PK_CTRL_CHG_EN).mark F.THERM_STATUS_CHG_OK).set F.PK_STATE_CHG_ST 0 3 |>.set F.PK_CFG_CELLS 0 12; b.clear F.PK_CTRL_ICHG_FW |>.set F.HK_V0_VAON 0 4900
/-- R367, R383. -/
def at_ChargerAndPack_6 : State :=
  let b : State := State.second;
  let b := ((((((({ b.sl.up.md .regulate with pk := { b.pk with inLost := false, gate := false, insHold := false, recRest := false, test := 0, retryWait := false, firstEst := false, swLow := 7 } }).mark F.PK_CFG_PACK_DECL).mark F.PK_STATE_PRESENT).clear F.PK_STATE_PACK_DEAD).clear F.PK_STATE_CHG_FLT).mark F.PK_CTRL_CHG_EN).mark F.THERM_STATUS_CHG_OK).set F.PK_STATE_CHG_ST 0 4 |>.set F.PK_CFG_CELLS 0 12; ((({ b with now := 10^15, pk.termAt := some 4 }).set F.PK_CUR_BAT_I 0 0).set F.PK_CAP_FCC 0 1000).clear F.PK_STATE_LRN_OPEN
/-- R367. -/
def at_ChargerAndPack_7 : State :=
  let b : State := State.tuned;
  let b := ((((((({ b.sl.up.md .regulate with pk := { b.pk with inLost := false, gate := false, insHold := false, recRest := false, test := 0, retryWait := false, firstEst := false, swLow := 7 } }).mark F.PK_CFG_PACK_DECL).mark F.PK_STATE_PRESENT).clear F.PK_STATE_PACK_DEAD).clear F.PK_STATE_CHG_FLT).mark F.PK_CTRL_CHG_EN).mark F.THERM_STATUS_CHG_OK).set F.PK_STATE_CHG_ST 0 5 |>.set F.PK_CFG_CELLS 0 12; { b with now := 10^15, pk.rechAt := some 4 }.set F.PK_VOLT_BAT_V 0 0
/-- R367. -/
def at_ChargerAndPack_8 : State :=
  let b : State := State.second;
  let b := ((((((({ b.sl.up.md .regulate with pk := { b.pk with inLost := false, gate := false, insHold := false, recRest := false, test := 0, retryWait := false, firstEst := false, swLow := 7 } }).mark F.PK_CFG_PACK_DECL).mark F.PK_STATE_PRESENT).clear F.PK_STATE_PACK_DEAD).clear F.PK_STATE_CHG_FLT).mark F.PK_CTRL_CHG_EN).mark F.THERM_STATUS_CHG_OK).set F.PK_STATE_CHG_ST 0 2 |>.set F.PK_CFG_CELLS 0 12; { b with now := 10^15, pk.chgAt := 4 }
/-- R367. -/
def at_ChargerAndPack_9 : State :=
  let b : State := State.second;
  let b := ((((((({ b.sl.up.md .regulate with pk := { b.pk with inLost := false, gate := false, insHold := false, recRest := false, test := 0, retryWait := false, firstEst := false, swLow := 7 } }).mark F.PK_CFG_PACK_DECL).mark F.PK_STATE_PRESENT).clear F.PK_STATE_PACK_DEAD).clear F.PK_STATE_CHG_FLT).mark F.PK_CTRL_CHG_EN).mark F.THERM_STATUS_CHG_OK).set F.PK_STATE_CHG_ST 0 3 |>.set F.PK_CFG_CELLS 0 12; { b with now := 10^15, pk.chgAt := 4 }
/-- R367. -/
def at_ChargerAndPack_10 : State :=
  let b : State := State.second;
  let b := ((((((({ b.sl.up.md .regulate with pk := { b.pk with inLost := false, gate := false, insHold := false, recRest := false, test := 0, retryWait := false, firstEst := false, swLow := 7 } }).mark F.PK_CFG_PACK_DECL).mark F.PK_STATE_PRESENT).clear F.PK_STATE_PACK_DEAD).clear F.PK_STATE_CHG_FLT).mark F.PK_CTRL_CHG_EN).mark F.THERM_STATUS_CHG_OK).set F.PK_STATE_CHG_ST 0 0 |>.set F.PK_CFG_CELLS 0 12; ({ b with now := 10^15, pk.ovpAt := some 4 }.modPk (fun p => { p with cfg := { p.cfg with vcv := 100 } })).set F.PK_VOLT_BAT_V 0 60000
/-- R367: back to WAIT. -/
def at_ChargerAndPack_11 : State :=
  let b : State := State.second;
  let b := ((((((({ b.sl.up.md .regulate with pk := { b.pk with inLost := false, gate := false, insHold := false, recRest := false, test := 0, retryWait := false, firstEst := false, swLow := 7 } }).mark F.PK_CFG_PACK_DECL).mark F.PK_STATE_PRESENT).clear F.PK_STATE_PACK_DEAD).clear F.PK_STATE_CHG_FLT).mark F.PK_CTRL_CHG_EN).mark F.THERM_STATUS_CHG_OK).set F.PK_STATE_CHG_ST 0 7 |>.set F.PK_CFG_CELLS 0 12; ({ b with cz1604 := false }.p2.mark F.PARSE_STATUS_DONE)
/-- R382. -/
def at_ChargerAndPack_12 : State :=
  let b : State := State.second;
  let b := ((((((({ b.sl.up.md .regulate with pk := { b.pk with inLost := false, gate := false, insHold := false, recRest := false, test := 0, retryWait := false, firstEst := false, swLow := 7 } }).mark F.PK_CFG_PACK_DECL).mark F.PK_STATE_PRESENT).clear F.PK_STATE_PACK_DEAD).clear F.PK_STATE_CHG_FLT).mark F.PK_CTRL_CHG_EN).mark F.THERM_STATUS_CHG_OK).set F.PK_STATE_CHG_ST 0 1 |>.set F.PK_CFG_CELLS 0 12; ({ b with now := 10^15, pk.insHold := true }).set F.PK_CFG_DESIGN_CAP 0 1000
/-- R376. -/
def at_ChargerAndPack_13 : State :=
  let b : State := State.tuned;
  let b := ((((((({ b.sl.up.md .regulate with pk := { b.pk with inLost := false, gate := false, insHold := false, recRest := false, test := 0, retryWait := false, firstEst := false, swLow := 7 } }).mark F.PK_CFG_PACK_DECL).mark F.PK_STATE_PRESENT).clear F.PK_STATE_PACK_DEAD).clear F.PK_STATE_CHG_FLT).mark F.PK_CTRL_CHG_EN).mark F.THERM_STATUS_CHG_OK).set F.PK_STATE_CHG_ST 0 1 |>.set F.PK_CFG_CELLS 0 12; (b.mark F.SUPPLY_STATUS_VDD33_GOOD).clear F.HK_STATUS_SELF_FAIL
/-- R363: two captures above 1.5 V a cell. -/
def at_ChargerAndPack_14 : State :=
  let b : State := State.second;
  let b := ((((((({ b.sl.up.md .regulate with pk := { b.pk with inLost := false, gate := false, insHold := false, recRest := false, test := 0, retryWait := false, firstEst := false, swLow := 7 } }).mark F.PK_CFG_PACK_DECL).mark F.PK_STATE_PRESENT).clear F.PK_STATE_PACK_DEAD).clear F.PK_STATE_CHG_FLT).mark F.PK_CTRL_CHG_EN).mark F.THERM_STATUS_CHG_OK).set F.PK_STATE_CHG_ST 0 1 |>.set F.PK_CFG_CELLS 0 12; ({ ((b.mark F.SUPPLY_STATUS_VDD33_GOOD).clear F.HK_STATUS_SELF_FAIL).clear F.PK_STATE_PRESENT with pk.upRun := 1 })
/-- R377. -/
def at_ChargerAndPack_15 : State :=
  let b : State := State.second; (b.cm.md .regulate).mark F.SUPPLY_STATUS_VDD33_GOOD
/-- R377: QREM follows. -/
def at_ChargerAndPack_16 : State :=
  let b : State := State.second;
  let b := ((((((({ b.sl.up.md .regulate with pk := { b.pk with inLost := false, gate := false, insHold := false, recRest := false, test := 0, retryWait := false, firstEst := false, swLow := 7 } }).mark F.PK_CFG_PACK_DECL).mark F.PK_STATE_PRESENT).clear F.PK_STATE_PACK_DEAD).clear F.PK_STATE_CHG_FLT).mark F.PK_CTRL_CHG_EN).mark F.THERM_STATUS_CHG_OK).set F.PK_STATE_CHG_ST 0 1 |>.set F.PK_CFG_CELLS 0 12; b.mark F.SUPPLY_STATUS_VDD33_GOOD
/-- R384: TEST_INT starts a test. -/
def at_ChargerAndPack_17 : State :=
  let b : State := State.tuned;
  let b := ((((((({ b.sl.up.md .regulate with pk := { b.pk with inLost := false, gate := false, insHold := false, recRest := false, test := 0, retryWait := false, firstEst := false, swLow := 7 } }).mark F.PK_CFG_PACK_DECL).mark F.PK_STATE_PRESENT).clear F.PK_STATE_PACK_DEAD).clear F.PK_STATE_CHG_FLT).mark F.PK_CTRL_CHG_EN).mark F.THERM_STATUS_CHG_OK).set F.PK_STATE_CHG_ST 0 4 |>.set F.PK_CFG_CELLS 0 12; { b with now := 10^17 }
/-- R384: a written request starts a test. -/
def at_ChargerAndPack_18 : State :=
  let b : State := State.second;
  let b := ((((((({ b.sl.up.md .regulate with pk := { b.pk with inLost := false, gate := false, insHold := false, recRest := false, test := 0, retryWait := false, firstEst := false, swLow := 7 } }).mark F.PK_CFG_PACK_DECL).mark F.PK_STATE_PRESENT).clear F.PK_STATE_PACK_DEAD).clear F.PK_STATE_CHG_FLT).mark F.PK_CTRL_CHG_EN).mark F.THERM_STATUS_CHG_OK).set F.PK_STATE_CHG_ST 0 4 |>.set F.PK_CFG_CELLS 0 12; ({ b with cz1604 := false }.p3 1).mark F.PARSE_STATUS_DONE
/-- R384. -/
def at_ChargerAndPack_19 : State :=
  let b : State := State.second;
  let b := ((((((({ b.sl.up.md .regulate with pk := { b.pk with inLost := false, gate := false, insHold := false, recRest := false, test := 1, retryWait := false, firstEst := false, swLow := 7 } }).mark F.PK_CFG_PACK_DECL).mark F.PK_STATE_PRESENT).clear F.PK_STATE_PACK_DEAD).clear F.PK_STATE_CHG_FLT).mark F.PK_CTRL_CHG_EN).mark F.THERM_STATUS_CHG_OK).set F.PK_STATE_CHG_ST 0 1 |>.set F.PK_CFG_CELLS 0 12; { b with now := 10^15, pk.restAt := some 5 }
/-- R384. -/
def at_ChargerAndPack_20 : State :=
  let b : State := State.tuned;
  let b := ((((((({ b.sl.up.md .regulate with pk := { b.pk with inLost := false, gate := false, insHold := false, recRest := false, test := 2, retryWait := false, firstEst := false, swLow := 7 } }).mark F.PK_CFG_PACK_DECL).mark F.PK_STATE_PRESENT).clear F.PK_STATE_PACK_DEAD).clear F.PK_STATE_CHG_FLT).mark F.PK_CTRL_CHG_EN).mark F.THERM_STATUS_CHG_OK).set F.PK_STATE_CHG_ST 0 6 |>.set F.PK_CFG_CELLS 0 12; (({ b with now := 10^15 }.set F.PK_CUR_BAT_I 0 100).modPk (fun p => { p with testV0 := 20000 })).set F.PK_VOLT_BAT_V 0 20000
/-- R384. -/
def at_ChargerAndPack_21 : State :=
  let b : State := State.second;
  let b := ((((((({ b.sl.up.md .regulate with pk := { b.pk with inLost := false, gate := false, insHold := false, recRest := false, test := 0, retryWait := false, firstEst := false, swLow := 7 } }).mark F.PK_CFG_PACK_DECL).mark F.PK_STATE_PRESENT).clear F.PK_STATE_PACK_DEAD).clear F.PK_STATE_CHG_FLT).mark F.PK_CTRL_CHG_EN).mark F.THERM_STATUS_CHG_OK).set F.PK_STATE_CHG_ST 0 4 |>.set F.PK_CFG_CELLS 0 12; { b with now := 10^15, pk.testRetry := true }
/-- R387. -/
def at_ChargerAndPack_22 : State :=
  let b : State := State.second;
  let b := ((((((({ b.sl.up.md .regulate with pk := { b.pk with inLost := false, gate := false, insHold := false, recRest := false, test := 0, retryWait := false, firstEst := false, swLow := 7 } }).mark F.PK_CFG_PACK_DECL).mark F.PK_STATE_PRESENT).clear F.PK_STATE_PACK_DEAD).clear F.PK_STATE_CHG_FLT).mark F.PK_CTRL_CHG_EN).mark F.THERM_STATUS_CHG_OK).set F.PK_STATE_CHG_ST 0 4 |>.set F.PK_CFG_CELLS 0 12; { b.mark F.PK_STATE_LRN_OPEN with now := 10^15, pk.lrnAt := 5 }
/-- R389. -/
def at_ChargerAndPack_23 : State :=
  let b : State := State.second;
  let b := ((((((({ b.sl.up.md .regulate with pk := { b.pk with inLost := false, gate := false, insHold := false, recRest := false, test := 0, retryWait := false, firstEst := false, swLow := 7 } }).mark F.PK_CFG_PACK_DECL).mark F.PK_STATE_PRESENT).clear F.PK_STATE_PACK_DEAD).clear F.PK_STATE_CHG_FLT).mark F.PK_CTRL_CHG_EN).mark F.THERM_STATUS_CHG_OK).set F.PK_STATE_CHG_ST 0 4 |>.set F.PK_CFG_CELLS 0 12; { b with now := 10^15 }
/-- States and operands that meet the conditions of `Obligations.ChargerAndPack`, clause by clause. -/
theorem test_meets_ChargerAndPack :
    (∃ (s : State) (a : BitVec 16), s.Still ∧ s.flag F.PK_CFG_PACK_DECL = true ∧ s.chgOk = true ∧ s.chg = 1
      ∧ s.pk.retryWait = false ∧ 4800 ≤ s.get F.HK_V0_VAON ∧ a.toNat / 256 % 256 = 255) ∧
    (∃ (s : State) (a : BitVec 16), s.Still ∧ s.flag F.PK_CFG_PACK_DECL = true ∧ s.chgOk = true ∧ s.chg = 1
      ∧ s.pk.retryWait = false ∧ 4800 ≤ s.get F.HK_V0_VAON ∧ a.toNat / 256 % 256 ≠ 255) ∧
    (∃ (s : State), s.Calm ∧ s.pk.retryAt + 1000000000 ≤ s.now) ∧
    (∃ (s : State) (w : Nat), s.Still ∧ s.flag F.PK_CFG_PACK_DECL = true ∧ s.chgOk = true ∧ 4800 ≤ s.get F.HK_V0_VAON
      ∧ (s.chg = 3 ∨ s.chg = 4) ∧ w < 16000 ∧ s.pk.swLow = 7) ∧
    (∃ (s : State) (w : Nat) (d : Nat), s.Still ∧ s.flag F.PK_CFG_PACK_DECL = true ∧ s.chgOk = true ∧ 4800 ≤ s.get F.HK_V0_VAON
      ∧ s.chg = 3 ∧ 16000 ≤ w ∧ w ≤ 62000 ∧ d < s.ichgEff) ∧
    (∃ (t : Nat) (s : State) , s.Still ∧ s.flag F.PK_CFG_PACK_DECL = true ∧ s.chgOk = true ∧ s.chg = 4
      ∧ (State.at s t).heldFor s.pk.termAt (s.pkc.termT * 1000000000) = true ∧ s.batI ≤ s.pkc.iterm ∧ s.fccS ≠ 0
      ∧ s.get F.PK_CAP_FCC * 3600 < 2 ^ 31 ∧ s.pow.cdUp = true) ∧
    (∃ (t : Nat) (s : State) , s.Still ∧ s.flag F.PK_CFG_PACK_DECL = true ∧ s.chgOk = true ∧ s.chg = 5
      ∧ s.batBelow (s.pkc.vcv - s.pkc.vrech) = true ∧ (State.at s t).heldFor s.pk.rechAt 10000000000 = true) ∧
    (∃ (s : State), s.Calm ∧ s.flag F.PK_CFG_PACK_DECL = true ∧ s.chg = 2 ∧ s.pk.chgAt + s.pkc.preTmax * 60000000000 ≤ s.now) ∧
    (∃ (s : State), s.Calm ∧ s.flag F.PK_CFG_PACK_DECL = true ∧ (s.chg = 3 ∨ s.chg = 4)
      ∧ s.pk.chgAt + s.pkc.chgTimer * 3600000000000 ≤ s.now) ∧
    (∃ (t : Nat) (s : State) , s.Calm ∧ s.flag F.PK_CFG_PACK_DECL = true ∧ s.chg ≠ 7 ∧ s.batAbove (s.pkc.vcv + 50) = true
      ∧ (State.at s t).heldFor s.pk.ovpAt 1000000000 = true) ∧
    (∃ (s : State) (d : Word), s.Calm ∧ s.AsP2 ∧ s.parsed = true ∧ s.cz1604 = false ∧ s.flag F.PK_CFG_PACK_DECL = true
      ∧ s.flag F.PK_STATE_PRESENT = true ∧ s.chg = 7 ∧ (∀ e ∈ s.writes (s.who .spi) 0x4020 (d.toNat ||| 0x10000000), e.1 =
      F.PK_CTRL_PK_CLR)) ∧
    (∃ (s : State), s.Calm ∧ s.pk.insHold = true ∧ s.pk.insAt + 2000000000 ≤ s.now ∧ s.get F.PK_CFG_DESIGN_CAP ≠ 0
      ∧ s.get F.PK_CFG_DESIGN_CAP < 65536) ∧
    (∃ (s : State), s.Calm ∧ s.flag F.PK_CFG_PACK_DECL = true ∧ s.flag F.SUPPLY_STATUS_VDD33_GOOD = true ∧ s.mode = .regulate
      ∧ s.flag F.HK_STATUS_SELF_FAIL = false ∧ s.pkc.rshunt ≠ 0) ∧
    (∃ (s : State) (v : BitVec 14), s.Calm ∧ s.flag F.PK_CFG_PACK_DECL = true ∧ s.flag F.SUPPLY_STATUS_VDD33_GOOD = true
      ∧ s.mode = .regulate ∧ s.flag F.HK_STATUS_SELF_FAIL = false ∧ s.flag F.PK_STATE_PRESENT = false ∧ s.pk.upRun = 1
      ∧ 4 * s.cells * 1500 ≤ 5 * v.toNat) ∧
    (∃ (s : State), s.Calm ∧ s.mode ≠ .dormant ∧ s.flag F.SUPPLY_STATUS_VDD33_GOOD = true) ∧
    (∃ (s : State), s.Calm ∧ s.mode = .regulate ∧ s.pow.cdUp = true ∧ s.flag F.PK_CFG_PACK_DECL = true
      ∧ s.flag F.PK_STATE_PRESENT = true ∧ s.flag F.SUPPLY_STATUS_VDD33_GOOD = true) ∧
    (∃ (s : State), s.Calm ∧ s.chgBase = true ∧ s.flag F.PK_CFG_PACK_DECL = true ∧ s.pk.test = 0 ∧ s.pk.recRest = false
      ∧ s.pkc.testInt ≠ 0 ∧ s.pow.testEnd + s.pkc.testInt * 86400000000000 ≤ s.now) ∧
    (∃ (s : State) (d : Word), s.Calm ∧ s.chgBase = true ∧ s.flag F.PK_CFG_PACK_DECL = true ∧ s.pk.test = 0
      ∧ s.pk.recRest = false ∧ s.AsP3 1 ∧ s.parsed = true ∧ s.cz1604 = false
      ∧ (∀ e ∈ s.writes (s.who .sess) 0x4020 (d.toNat ||| 0x20000000), e.1 = F.PK_CTRL_PK_TEST)) ∧
    (∃ (s : State), s.Calm ∧ s.flag F.PK_CFG_PACK_DECL = true ∧ s.chgBase = true ∧ s.pk.test = 1 ∧ s.rested = true) ∧
    (∃ (s : State), s.Calm ∧ s.flag F.PK_CFG_PACK_DECL = true ∧ s.pk.test = 2 ∧ s.chg = 6 ∧ s.chgBase = true
      ∧ s.pk.testAt + 2000000000 ≤ s.now ∧ s.batI * s.rPack ≠ 0) ∧
    (∃ (s : State), s.Calm ∧ s.chgBase = true ∧ s.flag F.PK_CFG_PACK_DECL = true ∧ s.pk.test = 0 ∧ s.pk.recRest = false
      ∧ s.pk.testRetry = true ∧ s.pk.testAt + 3600000000000 ≤ s.now) ∧
    (∃ (s : State), s.Calm ∧ s.flag F.PK_STATE_LRN_OPEN = true ∧ s.pk.lrnAt + 172800000000000 ≤ s.now) ∧
    (∃ (s : State), s.Calm ∧ s.pow.cdUp = true ∧ s.mode = .regulate ∧ s.flag F.PK_CFG_PACK_DECL = true
      ∧ s.flag F.PK_STATE_PRESENT = true ∧ s.pk.recAt + 3600000000000 ≤ s.now) :=
  ⟨⟨at_ChargerAndPack_1, (0xFF00 + BitVec.ofNat 16 0), by decide +kernel⟩,
    ⟨at_ChargerAndPack_2, (0xFE00 + BitVec.ofNat 16 0), by decide +kernel⟩,
    ⟨at_ChargerAndPack_3, by decide +kernel⟩,
    ⟨at_ChargerAndPack_4, (15999 - 0), by decide +kernel⟩,
    ⟨at_ChargerAndPack_5, 16000, 3, by decide +kernel⟩,
    ⟨1000000000, at_ChargerAndPack_6, by decide +kernel⟩,
    ⟨1000000000, at_ChargerAndPack_7, by decide +kernel⟩,
    ⟨at_ChargerAndPack_8, by decide +kernel⟩,
    ⟨at_ChargerAndPack_9, by decide +kernel⟩,
    ⟨1000000000, at_ChargerAndPack_10, by decide +kernel⟩,
    ⟨at_ChargerAndPack_11, (BitVec.ofNat 32 ([F.PK_CTRL_CHG_EN, F.PK_CTRL_LRN_VETO, F.PK_CTRL_ICHG_FW].foldl (fun a f => a +
      (at_ChargerAndPack_11).get f * 2 ^ f.pos 0) 0)), by decide +kernel⟩,
    ⟨at_ChargerAndPack_12, by decide +kernel⟩,
    ⟨at_ChargerAndPack_13, by decide +kernel⟩,
    ⟨at_ChargerAndPack_14, 15000, by decide +kernel⟩,
    ⟨at_ChargerAndPack_15, by decide +kernel⟩,
    ⟨at_ChargerAndPack_16, by decide +kernel⟩,
    ⟨at_ChargerAndPack_17, by decide +kernel⟩,
    ⟨at_ChargerAndPack_18, (BitVec.ofNat 32 ([F.PK_CTRL_CHG_EN, F.PK_CTRL_LRN_VETO, F.PK_CTRL_ICHG_FW].foldl (fun a f => a +
      (at_ChargerAndPack_18).get f * 2 ^ f.pos 0) 0)), by decide +kernel⟩,
    ⟨at_ChargerAndPack_19, by decide +kernel⟩,
    ⟨at_ChargerAndPack_20, by decide +kernel⟩,
    ⟨at_ChargerAndPack_21, by decide +kernel⟩,
    ⟨at_ChargerAndPack_22, by decide +kernel⟩,
    ⟨at_ChargerAndPack_23, by decide +kernel⟩⟩

/-- R370, R87: T12. -/
def at_HoldUp_1 : State :=
  let b : State := State.second; { ((b.sl.up.md .regulate).rst 2 .reg) with pk := { b.pk with inLost := false, gate := false, busGood := true, probing := false, recRest := false, test := 0 }, pow.noArm := false, sec := b.sec }.mark F.PK_CFG_PACK_DECL |>.clear F.MODE_STATUS_SHUTDOWN_ACT |>.mark F.PK_STATE_HU_ARM |>.mark F.PK_STATE_PRESENT |>.set F.PK_STATE_CHG_ST 0 1
/-- R370: the pack is not ready, every rail fast-stops. -/
def at_HoldUp_2 : State :=
  let b : State := State.second; { ((b.sl.up.md .regulate).rst 2 .reg) with pk := { b.pk with inLost := false, gate := false, busGood := true, probing := false, recRest := false, test := 0 }, pow.noArm := false, sec := b.sec }.mark F.PK_CFG_PACK_DECL |>.clear F.MODE_STATUS_SHUTDOWN_ACT |>.clear F.PK_STATE_HU_ARM
/-- R368: no rail to hold. -/
def at_HoldUp_3 : State :=
  let b : State := State.second; State.allr ({ ((b.sl.up.md .regulate).rst 2 .reg) with pk := { b.pk with inLost := false, gate := false, busGood := true, probing := false, recRest := false, test := 0 }, pow.noArm := false, sec := b.sec }.mark F.PK_CFG_PACK_DECL |>.clear F.MODE_STATUS_SHUTDOWN_ACT) .latched
/-- R368. -/
def at_HoldUp_4 : State :=
  let b : State := State.second; { ((b.sl.up.md .regulate).rst 2 .reg) with pk := { b.pk with inLost := true, gate := false, busGood := false, probing := false, recRest := false, test := 0 }, pow.noArm := false, sec := b.sec }.mark F.PK_CFG_PACK_DECL |>.clear F.MODE_STATUS_SHUTDOWN_ACT
/-- R373: in HOLDUP only a probe restores. -/
def at_HoldUp_5 : State :=
  let b : State := State.second; { ((b.sl.up.md .holdup).rst 2 .reg) with pk := { b.pk with inLost := true, gate := true, busGood := false, probing := false, recRest := false, test := 0 }, pow.noArm := false, sec := b.sec }.mark F.PK_CFG_PACK_DECL |>.clear F.MODE_STATUS_SHUTDOWN_ACT
/-- R372. -/
def at_HoldUp_6 : State :=
  let b : State := State.second; { ((b.sl.up.md .holdup).rst 2 .reg) with pk := { b.pk with inLost := true, gate := true, busGood := false, probing := false, recRest := false, test := 0 }, pow.noArm := false, sec := b.sec }.mark F.PK_CFG_PACK_DECL |>.clear F.MODE_STATUS_SHUTDOWN_ACT
/-- R372: judged as a probe. -/
def at_HoldUp_7 : State :=
  let b : State := State.second; { ((b.sl.up.md .holdup).rst 2 .reg) with pk := { b.pk with inLost := true, gate := true, busGood := true, probing := false, recRest := false, test := 0 }, pow.noArm := false, sec := b.sec }.mark F.PK_CFG_PACK_DECL |>.clear F.MODE_STATUS_SHUTDOWN_ACT
/-- R373. -/
def at_HoldUp_8 : State :=
  let b : State := State.second; { ((b.sl.up.md .holdup).rst 2 .reg) with pk := { b.pk with inLost := true, gate := true, busGood := true, probing := false, recRest := false, test := 0 }, pow.noArm := false, sec := b.sec }.mark F.PK_CFG_PACK_DECL |>.clear F.MODE_STATUS_SHUTDOWN_ACT
/-- R373: the comparator already reads not good. -/
def at_HoldUp_9 : State :=
  let b : State := State.second; { ((b.sl.up.md .holdup).rst 2 .reg) with pk := { b.pk with inLost := true, gate := true, busGood := false, probing := false, recRest := false, test := 0 }, pow.noArm := false, sec := b.sec }.mark F.PK_CFG_PACK_DECL |>.clear F.MODE_STATUS_SHUTDOWN_ACT
/-- R373, R88: restored, T13. -/
def at_HoldUp_10 : State :=
  let b : State := State.second; { ((b.sl.up.md .holdup).rst 2 .reg) with pk := { b.pk with inLost := true, gate := false, busGood := true, probing := true, recRest := false, test := 0 }, pow.noArm := false, sec := b.sec }.mark F.PK_CFG_PACK_DECL |>.clear F.MODE_STATUS_SHUTDOWN_ACT |> (fun (b : State) => { b with pk.probeV := 9000 })
/-- R373: a fall of more than 200 mV. -/
def at_HoldUp_11 : State :=
  let b : State := State.second; { ((b.sl.up.md .holdup).rst 2 .reg) with pk := { b.pk with inLost := true, gate := false, busGood := true, probing := true, recRest := false, test := 0 }, pow.noArm := false, sec := b.sec }.mark F.PK_CFG_PACK_DECL |>.clear F.MODE_STATUS_SHUTDOWN_ACT |> (fun (b : State) => { b with pk.probeV := 9000 })
/-- R374: cause TIME, the rails stop in order. -/
def at_HoldUp_12 : State :=
  let b : State := State.tuned; { ((b.sl.up.md .holdup).rst 2 .reg) with pk := { b.pk with inLost := true, gate := true, busGood := false, probing := false, recRest := false, test := 0 }, pow.noArm := false, sec := b.sec }.mark F.PK_CFG_PACK_DECL |>.clear F.MODE_STATUS_SHUTDOWN_ACT |> (fun (b : State) => { b with now := 10^15 })
/-- R381, R380. -/
def at_HoldUp_13 : State :=
  let b : State := State.second; { ((b.sl.up.md .regulate).rst 2 .reg) with pk := { b.pk with inLost := false, gate := false, busGood := true, probing := false, recRest := false, test := 0 }, pow.noArm := false, sec := b.sec }.mark F.PK_CFG_PACK_DECL |>.clear F.MODE_STATUS_SHUTDOWN_ACT |> (fun (b : State) => { b with now := 10^15, pk.restAt := some 5, pk.recRest := true }) |>.clear F.TEMP_PACK_HI_FAILED |>.set F.PK_CAP_FCC 0 2000 |>.set F.PK_CFG_CELLS 0 4 |>.set F.PK_VOLT_BAT_V 0 10000
/-- R381: a BAT_T that FAILED gives no point. -/
def at_HoldUp_14 : State :=
  let b : State := State.second; { ((b.sl.up.md .regulate).rst 2 .reg) with pk := { b.pk with inLost := false, gate := false, busGood := true, probing := false, recRest := false, test := 0 }, pow.noArm := false, sec := b.sec }.mark F.PK_CFG_PACK_DECL |>.clear F.MODE_STATUS_SHUTDOWN_ACT |> (fun (b : State) => { b with now := 10^15, pk.restAt := some 5, pk.recRest := true }) |>.mark F.TEMP_PACK_HI_FAILED |>.clear F.PK_CFG_PACK_DECL
/-- States and operands that meet the conditions of `Obligations.HoldUp`, clause by clause. -/
theorem test_meets_HoldUp :
    (∃ (s : State), s.Still ∧ s.flag F.PK_CFG_PACK_DECL = true ∧ s.pk.busGood = true ∧ s.pk.probing = false ∧ s.pk.inLost = false
      ∧ (s.mode = .regulate ∨ s.mode = .shed ∨ s.mode = .softstart ∨ s.mode = .hiccup)
      ∧ allRails.any (fun r => (s.st r).switching || s.st r == .caretaken) = true ∧ s.flag F.PK_STATE_HU_ARM = true
      ∧ s.pow.noArm = false ∧ s.flag F.PK_STATE_PRESENT = true) ∧
    (∃ (s : State) (r : Fin 8), s.Still ∧ s.flag F.PK_CFG_PACK_DECL = true ∧ s.pk.busGood = true ∧ s.pk.probing = false
      ∧ s.pk.inLost = false ∧ s.mode = .regulate ∧ allRails.any (fun r => (s.st r).switching || s.st r == .caretaken) = true
      ∧ s.flag F.PK_STATE_HU_ARM = false ∧ s.pow.noArm = false) ∧
    (∃ (s : State), s.Still ∧ s.flag F.PK_CFG_PACK_DECL = true ∧ s.pk.busGood = true ∧ s.pk.probing = false ∧ s.pk.inLost = false
      ∧ s.mode = .regulate ∧ allRails.any (fun r => (s.st r).switching || s.st r == .caretaken) = false) ∧
    (∃ (s : State), s.Still ∧ s.flag F.PK_CFG_PACK_DECL = true ∧ s.mode ≠ .dormant ∧ s.mode ≠ .holdup ∧ s.pk.inLost = true
      ∧ s.pk.gate = false ∧ s.pk.probing = false) ∧
    (∃ (s : State), s.Still ∧ s.flag F.PK_CFG_PACK_DECL = true ∧ s.mode = .holdup ∧ s.pk.inLost = true) ∧
    (∃ (s : State), s.Still ∧ s.mode = .holdup ∧ s.pk.inLost = true ∧ s.pk.gate = true ∧ s.pow.noArm = false) ∧
    (∃ (s : State), s.Still ∧ s.mode = .holdup ∧ s.pk.inLost = true ∧ s.pk.gate = true ∧ s.pow.noArm = false
      ∧ s.pk.busGood = true) ∧
    (∃ (s : State), s.Still ∧ s.mode = .holdup ∧ s.pk.inLost = true ∧ s.pk.gate = true ∧ s.pow.noArm = false
      ∧ s.pk.probeAt + s.pkc.huProbe * 10000000 ≤ s.now ∧ s.pk.busGood = true) ∧
    (∃ (s : State), s.Still ∧ s.mode = .holdup ∧ s.pk.inLost = true ∧ s.pk.gate = true ∧ s.pow.noArm = false
      ∧ s.pk.probeAt + s.pkc.huProbe * 10000000 ≤ s.now ∧ s.pk.busGood = false) ∧
    (∃ (s : State) (v : BitVec 14), s.Still ∧ s.mode = .holdup ∧ s.pk.probing = true
      ∧ s.pk.probeAt + s.pkc.probeT * 10000 ≤ s.now ∧ s.pk.probeV ≤ v.toNat + 160) ∧
    (∃ (s : State) (v : BitVec 14), s.Still ∧ s.mode = .holdup ∧ s.pk.inLost = true ∧ s.pow.noArm = false ∧ s.pk.probing = true
      ∧ s.pk.probeAt + s.pkc.probeT * 10000 ≤ s.now ∧ v.toNat + 160 < s.pk.probeV ∧ s.flag F.MODE_STATUS_SHUTDOWN_ACT = false) ∧
    (∃ (s : State), s.Calm ∧ s.mode = .holdup ∧ s.pkc.huTmax ≠ 0 ∧ s.pk.huAt + s.pkc.huTmax * 1000000000 ≤ s.now
      ∧ s.pow.noArm = false) ∧
    (∃ (s : State), s.Calm ∧ s.pk.recRest = true ∧ s.rested = true ∧ s.batTFailed = false ∧ s.ocvSoc.2 = true ∧ s.fccS ≠ 0) ∧
    (∃ (s : State), s.Calm ∧ s.pk.recRest = true ∧ s.rested = true ∧ s.batTFailed = true ∧ s.mode = .regulate
      ∧ s.flag F.PK_CFG_PACK_DECL = false) :=
  ⟨⟨at_HoldUp_1, by decide +kernel⟩,
    ⟨at_HoldUp_2, (0 : Fin 8), by decide +kernel⟩,
    ⟨at_HoldUp_3, by decide +kernel⟩,
    ⟨at_HoldUp_4, by decide +kernel⟩,
    ⟨at_HoldUp_5, by decide +kernel⟩,
    ⟨at_HoldUp_6, by decide +kernel⟩,
    ⟨at_HoldUp_7, by decide +kernel⟩,
    ⟨at_HoldUp_8, by decide +kernel⟩,
    ⟨at_HoldUp_9, by decide +kernel⟩,
    ⟨at_HoldUp_10, (BitVec.ofNat 14 8840), by decide +kernel⟩,
    ⟨at_HoldUp_11, (BitVec.ofNat 14 (8839 - 0)), by decide +kernel⟩,
    ⟨at_HoldUp_12, by decide +kernel⟩,
    ⟨at_HoldUp_13, by decide +kernel⟩,
    ⟨at_HoldUp_14, by decide +kernel⟩⟩

/-- R401, R402: rail current for P1. -/
def at_ShapedTelemetry_1 : State :=
  let b : State := State.second;
  let b := ({ b with now := 5000000000 }.md .regulate).set F.TLM_SHAPE_W_ADD 0 0 |>.set F.TLM_SHAPE_Q_ADD 0 0; { b with tlm := { b.tlm with ri1 := (List.range 8).map (fun i => { acc := (12345678 : Int) * (0 + i) - 999999999, cnt := 250 }) } }
/-- R401, R402: rail voltage for P1. -/
def at_ShapedTelemetry_2 : State :=
  let b : State := State.second;
  let b := ({ b with now := 5000000000 }.md .regulate).set F.TLM_SHAPE_W_ADD 0 0 |>.set F.TLM_SHAPE_Q_ADD 0 0; { b with tlm := { b.tlm with rv1 := (List.range 8).map (fun i => { acc := (12345678 : Int) * (0 + i) - 999999999, cnt := 250 }) } }
/-- R401, R402: rail current for P2. -/
def at_ShapedTelemetry_3 : State :=
  let b : State := State.second;
  let b := ({ b with now := 5000000000 }.md .regulate).set F.TLM_SHAPE_W_ADD 0 0 |>.set F.TLM_SHAPE_Q_ADD 0 0; { b with tlm := { b.tlm with ri2 := (List.range 8).map (fun i => { acc := (12345678 : Int) * (0 + i) - 999999999, cnt := 250 }) } }
/-- R401, R402: rail voltage for P2. -/
def at_ShapedTelemetry_4 : State :=
  let b : State := State.second;
  let b := ({ b with now := 5000000000 }.md .regulate).set F.TLM_SHAPE_W_ADD 0 0 |>.set F.TLM_SHAPE_Q_ADD 0 0; { b with tlm := { b.tlm with rv2 := (List.range 8).map (fun i => { acc := (12345678 : Int) * (0 + i) - 999999999, cnt := 250 }) } }
/-- R401, R402: phase current. -/
def at_ShapedTelemetry_5 : State :=
  let b : State := State.second;
  let b := ({ b with now := 5000000000 }.md .regulate).set F.TLM_SHAPE_W_ADD 0 0 |>.set F.TLM_SHAPE_Q_ADD 0 0; { b with tlm := { b.tlm with ph := (List.range 32).map (fun i => { acc := (12345678 : Int) * (0 + i) - 999999999, cnt := 250 }) } }
/-- R400: what firmware publishes. -/
def at_ShapedTelemetry_6 : State :=
  let b : State := State.second; { b with now := 5000000000 }.md .regulate |>.set F.FW_PUB_STAGE_VALUE 0 0
/-- R400: P1 windows leave it. -/
def at_ShapedTelemetry_7 : State :=
  let b : State := State.second; { b with now := 5000000000 }.md .regulate
/-- R401, R402: pack current. -/
def at_ShapedTelemetry_8 : State :=
  let b : State := State.tuned; { b with now := 5000000000 }.md .regulate |>.set F.PK_CC_ACC_CC_ACC 0 0 |>.set F.TLM_SHAPE_Q_ADD 0 0
/-- R401: before the end of a window. -/
def at_ShapedTelemetry_9 : State :=
  let b : State := State.second; { b.cm with tlm := { b.tlm with ends := List.replicate 3 1000000000 } }
/-- States and operands that meet the conditions of `Obligations.ShapedTelemetry`, clause by clause. -/
theorem test_meets_ShapedTelemetry :
    (∃ (t : Nat) (s : State) (r : Fin 8) (x : Stream) (wa : Nat) (qa : Nat), s.Calm ∧ s.mode ≠ .dormant ∧ s.mode ≠ .wake
      ∧ (State.at s t).windowDue 0 = true ∧ s.tlm.ri1[r.val]? = some x ∧ wa = (s.get F.TLM_SHAPE_W_ADD % 4)
      ∧ qa = (s.get F.TLM_SHAPE_Q_ADD % 4)) ∧
    (∃ (t : Nat) (s : State) (r : Fin 8) (x : Stream) (wa : Nat) (qa : Nat), s.Calm ∧ s.mode ≠ .dormant ∧ s.mode ≠ .wake
      ∧ (State.at s t).windowDue 0 = true ∧ s.tlm.rv1[r.val]? = some x ∧ wa = (s.get F.TLM_SHAPE_W_ADD % 4)
      ∧ qa = (s.get F.TLM_SHAPE_Q_ADD % 4)) ∧
    (∃ (t : Nat) (s : State) (r : Fin 8) (x : Stream) (wa : Nat) (qa : Nat), s.Calm ∧ s.mode ≠ .dormant ∧ s.mode ≠ .wake
      ∧ (State.at s t).windowDue 1 = true ∧ s.tlm.ri2[r.val]? = some x ∧ wa = (s.get F.TLM_SHAPE_W_ADD / 4 % 4)
      ∧ qa = (s.get F.TLM_SHAPE_Q_ADD / 4 % 4)) ∧
    (∃ (t : Nat) (s : State) (r : Fin 8) (x : Stream) (wa : Nat) (qa : Nat), s.Calm ∧ s.mode ≠ .dormant ∧ s.mode ≠ .wake
      ∧ (State.at s t).windowDue 1 = true ∧ s.tlm.rv2[r.val]? = some x ∧ wa = (s.get F.TLM_SHAPE_W_ADD / 4 % 4)
      ∧ qa = (s.get F.TLM_SHAPE_Q_ADD / 4 % 4)) ∧
    (∃ (t : Nat) (s : State) (n : Fin 32) (x : Stream) (wa : Nat) (qa : Nat), s.Calm ∧ s.mode ≠ .dormant ∧ s.mode ≠ .wake
      ∧ (State.at s t).windowDue 1 = true ∧ s.tlm.ph[n.val]? = some x ∧ wa = (s.get F.TLM_SHAPE_W_ADD / 4 % 4)
      ∧ qa = (s.get F.TLM_SHAPE_Q_ADD / 4 % 4)) ∧
    (∃ (t : Nat) (s : State) , s.Calm ∧ s.mode ≠ .dormant ∧ s.mode ≠ .wake ∧ (State.at s t).windowDue 1 = true) ∧
    (∃ (t : Nat) (s : State) , s.Calm ∧ s.mode ≠ .dormant ∧ s.mode ≠ .wake ∧ (State.at s t).windowDue 0 = true) ∧
    (∃ (t : Nat) (s : State) (qa : Nat) (d : Int), s.Calm ∧ s.mode ≠ .dormant ∧ s.mode ≠ .wake
      ∧ (State.at s t).windowDue 2 = true ∧ s.pk.cfg.rshunt ≠ 0 ∧ qa = s.get F.TLM_SHAPE_Q_ADD / 4 % 4
      ∧ d = s.getI F.PK_CC_ACC_CC_ACC - s.tlm.pkBase) ∧
    (∃ (t : Nat) (s : State) (k : Fin 3), s.Calm ∧ (State.at s t).windowDue k.val = false) :=
  ⟨⟨1000000000, at_ShapedTelemetry_1, (0 : Fin 8), (((at_ShapedTelemetry_1).tlm.ri1.getD (0 : Fin 8).val {})),
    (((at_ShapedTelemetry_1).get F.TLM_SHAPE_W_ADD % 4)), (((at_ShapedTelemetry_1).get F.TLM_SHAPE_Q_ADD % 4)), by decide +kernel⟩,
    ⟨1000000000, at_ShapedTelemetry_2, (0 : Fin 8), (((at_ShapedTelemetry_2).tlm.rv1.getD (0 : Fin 8).val {})),
      (((at_ShapedTelemetry_2).get F.TLM_SHAPE_W_ADD % 4)), (((at_ShapedTelemetry_2).get F.TLM_SHAPE_Q_ADD % 4)),
      by decide +kernel⟩,
    ⟨1000000000, at_ShapedTelemetry_3, (0 : Fin 8), (((at_ShapedTelemetry_3).tlm.ri2.getD (0 : Fin 8).val {})),
      (((at_ShapedTelemetry_3).get F.TLM_SHAPE_W_ADD / 4 % 4)), (((at_ShapedTelemetry_3).get F.TLM_SHAPE_Q_ADD / 4 % 4)),
      by decide +kernel⟩,
    ⟨1000000000, at_ShapedTelemetry_4, (0 : Fin 8), (((at_ShapedTelemetry_4).tlm.rv2.getD (0 : Fin 8).val {})),
      (((at_ShapedTelemetry_4).get F.TLM_SHAPE_W_ADD / 4 % 4)), (((at_ShapedTelemetry_4).get F.TLM_SHAPE_Q_ADD / 4 % 4)),
      by decide +kernel⟩,
    ⟨1000000000, at_ShapedTelemetry_5, (0 : Fin 32), (((at_ShapedTelemetry_5).tlm.ph.getD (0 : Fin 32).val {})),
      (((at_ShapedTelemetry_5).get F.TLM_SHAPE_W_ADD / 4 % 4)), (((at_ShapedTelemetry_5).get F.TLM_SHAPE_Q_ADD / 4 % 4)),
      by decide +kernel⟩,
    ⟨1000000000, at_ShapedTelemetry_6, by decide +kernel⟩,
    ⟨1000000000, at_ShapedTelemetry_7, by decide +kernel⟩,
    ⟨1000000000, at_ShapedTelemetry_8, ((at_ShapedTelemetry_8).get F.TLM_SHAPE_Q_ADD / 4 % 4), ((at_ShapedTelemetry_8).getI
      F.PK_CC_ACC_CC_ACC - (at_ShapedTelemetry_8).tlm.pkBase), by decide +kernel⟩,
    ⟨1000000000, at_ShapedTelemetry_9, (Fin.ofNat 3 0), by decide +kernel⟩⟩

/-- R430: room in the intake. -/
def at_Recorder_1 : State :=
  let b : State := State.second; { b.sl.up.md .regulate with rcd := { b.rcd with evq := [({ code := 0x0B06, unit := 1, items := [(1, 3)], count := none, front := false, ct := false, mode := 5, epoch := 1, time := 3 } : Evt)] ++ b.rcd.evq, intake := [] } }
/-- R430: full, the newest entry that is not sticky gives way. -/
def at_Recorder_2 : State :=
  let b : State := State.second; { b.sl.up.md .regulate with rcd := { b.rcd with evq := [({ code := 0x0B06, unit := 1, items := [(1, 3)], count := none, front := false, ct := false, mode := 5, epoch := 1, time := 3 } : Evt)] ++ b.rcd.evq, intake := List.replicate 64 ({ code := 0x0301, unit := 1, items := [(1, 3)], count := none, front := false, ct := false, mode := 5, epoch := 1, time := 3 } : Evt) } }
/-- R430: full of sticky entries, a sticky event is lost. -/
def at_Recorder_3 : State :=
  let b : State := State.second; { b.sl.up.md .regulate with rcd := { b.rcd with evq := [({ code := 0x0A16, unit := 1, items := [(1, 3)], count := none, front := false, ct := false, mode := 5, epoch := 1, time := 3 } : Evt)] ++ b.rcd.evq, intake := List.replicate 64 ({ code := 0x0302, unit := 1, items := [(1, 3)], count := none, front := false, ct := false, mode := 5, epoch := 1, time := 3 } : Evt) } }
/-- R430, R518: full, a rate-limited record folds into its window. -/
def at_Recorder_4 : State :=
  let b : State := State.second; { b.sl.up.md .regulate with cz1604 := false, rcd := { b.rcd with evq := [({ code := 0x0805, unit := 1, items := [(1, 3)], count := some 1, front := false, ct := false, mode := 5, epoch := 1, time := 3 } : Evt)], intake := List.replicate 64 ({ code := 0x0301, unit := 1, items := [(1, 3)], count := none, front := false, ct := false, mode := 5, epoch := 1, time := 3 } : Evt), wins := [⟨0x0805, 1, 4, ({ code := 0x0805, unit := 1, items := [(1, 3)], count := none, front := false, ct := false, mode := 5, epoch := 1, time := 3 } : Evt), 5⟩] } }
/-- R432: nothing moves while the Control die is down. -/
def at_Recorder_5 : State :=
  let b : State := State.second; { b.sl with pow.cdUp := false }
/-- R431: a record that is not sticky. -/
def at_Recorder_6 : State :=
  let b : State := State.second; { b.sl.up.md .regulate with jrn := { b.jrn with hist := [] }, rcd := { b.rcd with intake := ({ code := 0x0B06, unit := 1, items := [(1, 3)], count := none, front := false, ct := false, mode := 5, epoch := 1, time := 3 } : Evt) :: b.rcd.intake } }
/-- R432, R446: a sticky record also enters the history queue. -/
def at_Recorder_7 : State :=
  let b : State := State.second; { b.sl.up.md .regulate with jrn := { b.jrn with hist := [] }, rcd := { b.rcd with intake := ({ code := 0x0A16, unit := 1, items := [(1, 3)], count := none, front := false, ct := false, mode := 5, epoch := 1, time := 3 } : Evt) :: b.rcd.intake } }
/-- R446: history queue full, NOTJ. -/
def at_Recorder_8 : State :=
  let b : State := State.second; { b.sl.up.md .regulate with jrn := { b.jrn with hist := [] }, rcd := { b.rcd with intake := ({ code := 0x0A16, unit := 1, items := [(1, 3)], count := none, front := false, ct := false, mode := 5, epoch := 1, time := 3 } : Evt) :: b.rcd.intake } } |> (fun (b : State) => { b with jrn.hist := List.replicate 64 ⟨0x0A16, 0, 5, 3, 1, 9, []⟩ })
/-- R431: full, the oldest record that is not sticky is overwritten. -/
def at_Recorder_9 : State :=
  let b : State := State.second; { b.sl.up.md .regulate with jrn := { b.jrn with hist := [] }, rcd := { b.rcd with intake := ({ code := 0x0B06, unit := 1, items := [(1, 3)], count := none, front := false, ct := false, mode := 5, epoch := 1, time := 3 } : Evt) :: b.rcd.intake } } |> (fun (b : State) => { b with rcd.recs := List.replicate 4096 ⟨0x0A16, 0, 5, 3, 1, 9, []⟩ })
/-- R518: a window that counted. -/
def at_Recorder_10 : State :=
  let b : State := State.second; { b.sl.up.md .regulate with rcd := { b.rcd with wins := [⟨0x0805, 1, 1, ({ code := 0x0805, unit := 1, items := [(1, 3)], count := none, front := false, ct := false, mode := 5, epoch := 1, time := 3 } : Evt), 5⟩] } }
/-- R518: a window that counted nothing ends. -/
def at_Recorder_11 : State :=
  let b : State := State.second; { b.sl.up.md .regulate with rcd := { b.rcd with wins := [⟨0x0805, 1, 0, ({ code := 0x0805, unit := 1, items := [(1, 3)], count := none, front := false, ct := false, mode := 5, epoch := 1, time := 3 } : Evt), 5⟩] } } |> (fun (b : State) => b.md .service)
/-- States and operands that meet the conditions of `Obligations.Recorder`, clause by clause. -/
theorem test_meets_Recorder :
    (∃ (s : State) (e : Evt) (q : List Evt), s.Calm ∧ s.pow.cdUp = true ∧ s.rcd.evq = e :: q ∧ s.rcd.intake.length < 64) ∧
    (∃ (s : State) (e : Evt) (q : List Evt) (i : Nat), s.Calm ∧ s.pow.cdUp = true ∧ s.rcd.evq = e :: q ∧ 64 ≤ s.rcd.intake.length
      ∧ e.count = none ∧ newestPlain s.rcd.intake = some i) ∧
    (∃ (s : State) (e : Evt) (q : List Evt), s.Calm ∧ s.pow.cdUp = true ∧ s.rcd.evq = e :: q ∧ 64 ≤ s.rcd.intake.length
      ∧ e.count = none ∧ newestPlain s.rcd.intake = none ∧ stickyCodes.contains e.code = true) ∧
    (∃ (s : State) (e : Evt) (q : List Evt) (w : RateWin) (n : Nat), s.Calm ∧ s.pow.cdUp = true ∧ s.rcd.evq = e :: q
      ∧ 64 ≤ s.rcd.intake.length ∧ e.count = some n ∧ s.rcd.wins = [w] ∧ w.code = e.code ∧ w.unit = e.unit) ∧
    (∃ (s : State), s.Calm ∧ s.pow.cdUp = false) ∧
    (∃ (s : State) (e : Evt) (q : List Evt), s.Calm ∧ s.pow.cdUp = true ∧ s.rcd.intake = e :: q
      ∧ stickyCodes.contains e.code = false ∧ e.front = false ∧ e.ct = false ∧ s.rcd.recs.length < 4096) ∧
    (∃ (s : State) (e : Evt) (q : List Evt), s.Calm ∧ s.pow.cdUp = true ∧ s.rcd.intake = e :: q
      ∧ stickyCodes.contains e.code = true ∧ e.front = false ∧ e.ct = false ∧ (s.rcd.recs.filter Record.isSticky).length < 512
      ∧ s.rcd.recs.length < 4096 ∧ s.jrn.hist.length < 64) ∧
    (∃ (s : State) (e : Evt) (q : List Evt), s.Calm ∧ s.pow.cdUp = true ∧ s.rcd.intake = e :: q
      ∧ stickyCodes.contains e.code = true ∧ e.front = false ∧ e.ct = false ∧ (s.rcd.recs.filter Record.isSticky).length < 512
      ∧ s.rcd.recs.length < 4096 ∧ 64 ≤ s.jrn.hist.length) ∧
    (∃ (s : State) (e : Evt) (q : List Evt), s.Calm ∧ s.pow.cdUp = true ∧ s.rcd.intake = e :: q
      ∧ stickyCodes.contains e.code = false ∧ e.front = false ∧ e.ct = false ∧ 4096 ≤ s.rcd.recs.length
      ∧ (s.rcd.recs.getLast?.map Record.isSticky) = some false) ∧
    (∃ (s : State) (w : RateWin) (c : BitVec 16) (n : Nat), s.Calm ∧ w.openAt + 1000000 ≤ s.now ∧ s.rcd.wins = [w]
      ∧ c.toNat = w.code ∧ n = w.unit ∧ w.count ≠ 0 ∧ w.last.front = false) ∧
    (∃ (s : State) (w : RateWin) (c : BitVec 16) (n : Nat), s.Still ∧ w.openAt + 1000000 ≤ s.now ∧ s.rcd.wins = [w]
      ∧ c.toNat = w.code ∧ n = w.unit ∧ w.count = 0 ∧ s.mode = .service) :=
  ⟨⟨at_Recorder_1,
    (({ code := 0x0B06, unit := 1, items := [(1, 3)], count := none, front := false, ct := false, mode := 5, epoch := 1, time := 3 } : Evt)), ((at_Recorder_1).rcd.evq.drop 1), by decide +kernel⟩,
    ⟨at_Recorder_2,
      (({ code := 0x0B06, unit := 1, items := [(1, 3)], count := none, front := false, ct := false, mode := 5, epoch := 1, time := 3 } : Evt)), ((at_Recorder_2).rcd.evq.drop 1), 63, by decide +kernel⟩,
    ⟨at_Recorder_3,
      (({ code := 0x0A16, unit := 1, items := [(1, 3)], count := none, front := false, ct := false, mode := 5, epoch := 1, time := 3 } : Evt)), ((at_Recorder_3).rcd.evq.drop 1), by decide +kernel⟩,
    ⟨at_Recorder_4,
      (({ code := 0x0805, unit := 1, items := [(1, 3)], count := some 1, front := false, ct := false, mode := 5, epoch := 1, time := 3 } : Evt)), ((at_Recorder_4).rcd.evq.drop 1), (⟨0x0805, 1, 4, ({ code := 0x0805, unit := 1, items := [(1, 3)], count := none, front := false, ct := false, mode := 5, epoch := 1, time := 3 } : Evt), 5⟩ : RateWin), 1, by decide +kernel⟩,
    ⟨at_Recorder_5, by decide +kernel⟩,
    ⟨at_Recorder_6,
      (({ code := 0x0B06, unit := 1, items := [(1, 3)], count := none, front := false, ct := false, mode := 5, epoch := 1, time := 3 } : Evt)), ((at_Recorder_6).rcd.intake.drop 1), by decide +kernel⟩,
    ⟨at_Recorder_7,
      (({ code := 0x0A16, unit := 1, items := [(1, 3)], count := none, front := false, ct := false, mode := 5, epoch := 1, time := 3 } : Evt)), ((at_Recorder_7).rcd.intake.drop 1), by decide +kernel⟩,
    ⟨at_Recorder_8,
      (({ code := 0x0A16, unit := 1, items := [(1, 3)], count := none, front := false, ct := false, mode := 5, epoch := 1, time := 3 } : Evt)), ((at_Recorder_8).rcd.intake.drop 1), by decide +kernel⟩,
    ⟨at_Recorder_9,
      (({ code := 0x0B06, unit := 1, items := [(1, 3)], count := none, front := false, ct := false, mode := 5, epoch := 1, time := 3 } : Evt)), ((at_Recorder_9).rcd.intake.drop 1), by decide +kernel⟩,
    ⟨at_Recorder_10, ((at_Recorder_10).rcd.wins.headD ⟨0, 0, 0,
      ({ code := 0, unit := 1, items := [(1, 3)], count := none, front := false, ct := false, mode := 5, epoch := 1, time := 3 } :
      Evt), 0⟩ : RateWin), 0x0805, 1, by decide +kernel⟩,
    ⟨at_Recorder_11, ((at_Recorder_11).rcd.wins.headD ⟨0, 0, 0,
      ({ code := 0, unit := 1, items := [(1, 3)], count := none, front := false, ct := false, mode := 5, epoch := 1, time := 3 } :
      Evt), 0⟩ : RateWin), 0x0805, 1, by decide +kernel⟩⟩

/-- R434: REC_SEL. -/
def at_RecordBanks_1 : State :=
  let b : State := State.second; { b.p2.mark F.PARSE_STATUS_DONE with sec := {}, rcd := { b.rcd with recs := [⟨0x0A16, 1, 5, 3, 1, 9, List.replicate 16 0⟩, ⟨0x0301, 0, 5, 2, 1, 9, List.replicate 16 0⟩], spi := { b.rcd.spi with hist := false, auto := false, sel := 0, missDue := false } } }
/-- R434: a SEQ that is not held. -/
def at_RecordBanks_2 : State :=
  let b : State := State.second; { b.p2.mark F.PARSE_STATUS_DONE with sec := {}, rcd := { b.rcd with recs := [⟨0x0A16, 1, 5, 3, 1, 9, List.replicate 16 0⟩, ⟨0x0301, 0, 5, 2, 1, 9, List.replicate 16 0⟩], spi := { b.rcd.spi with hist := false, auto := false, sel := 0, missDue := false } } }
/-- R434: AUTO advances on a read of the last word. -/
def at_RecordBanks_3 : State :=
  let b : State := State.second; { b.p2.mark F.PARSE_STATUS_DONE with sec := {}, rcd := { b.rcd with recs := [⟨0x0A16, 1, 5, 3, 1, 9, List.replicate 16 0⟩, ⟨0x0301, 0, 5, 2, 1, 9, List.replicate 16 0⟩], spi := { b.rcd.spi with hist := false, auto := true, sel := 2, missDue := false } } }
/-- R434: without AUTO it stays. -/
def at_RecordBanks_4 : State :=
  let b : State := State.second; { b.p2.mark F.PARSE_STATUS_DONE with sec := {}, rcd := { b.rcd with recs := [⟨0x0A16, 1, 5, 3, 1, 9, List.replicate 16 0⟩, ⟨0x0301, 0, 5, 2, 1, 9, List.replicate 16 0⟩], spi := { b.rcd.spi with hist := false, auto := false, sel := 2, missDue := false } } }
/-- R435: CLR removes the records that are not sticky. -/
def at_RecordBanks_5 : State :=
  let b : State := State.second; { b.p2.mark F.PARSE_STATUS_DONE with sec := {}, rcd := { b.rcd with recs := [⟨0x0A16, 1, 5, 3, 1, 9, List.replicate 16 0⟩, ⟨0x0301, 0, 5, 2, 1, 9, List.replicate 16 0⟩], spi := { b.rcd.spi with hist := false, auto := false, sel := 2, missDue := false } } }
/-- R435: CLR_STICKY by P3 with right 1 removes every record. -/
def at_RecordBanks_6 : State :=
  let b : State := State.second; { b.p2.mark F.PARSE_STATUS_DONE with sec := {}, rcd := { b.rcd with recs := [⟨0x0A16, 1, 5, 3, 1, 9, List.replicate 16 0⟩, ⟨0x0301, 0, 5, 2, 1, 9, List.replicate 16 0⟩], spi := { b.rcd.spi with hist := false, auto := false, sel := 2, missDue := false } } } |> (fun (b : State) => b.p3 1)
/-- R398: CLR_STICKY by P2 is refused. -/
def at_RecordBanks_7 : State :=
  let b : State := State.second; { b.p2.mark F.PARSE_STATUS_DONE with sec := {}, rcd := { b.rcd with recs := [⟨0x0A16, 1, 5, 3, 1, 9, List.replicate 16 0⟩, ⟨0x0301, 0, 5, 2, 1, 9, List.replicate 16 0⟩], spi := { b.rcd.spi with hist := false, auto := false, sel := 2, missDue := false } } }
/-- States and operands that meet the conditions of `Obligations.RecordBanks`, clause by clause. -/
theorem test_meets_RecordBanks :
    (∃ (s : State) (d : Word) (x : Record), s.Calm ∧ s.AsP2 ∧ s.rcd.spi.hist = false
      ∧ s.rcd.recs.find? (fun x => x.seq == d.toNat) = some x) ∧
    (∃ (s : State) (d : Word), s.Calm ∧ s.AsP2 ∧ s.rcd.spi.hist = false ∧ s.rcd.recs.find? (fun x => x.seq == d.toNat) = none) ∧
    (∃ (s : State) (x : Record), s.Calm ∧ s.AsP2 ∧ s.rcd.spi.hist = false ∧ s.rcd.spi.auto = true ∧ s.rcd.spi.sel < 2 ^ 32 - 1
      ∧ s.rcd.recs.find? (fun x => x.seq == s.rcd.spi.sel + 1) = some x) ∧
    (∃ (s : State), s.Calm ∧ s.AsP2 ∧ s.rcd.spi.auto = false) ∧
    (∃ (s : State), s.Calm ∧ s.AsP2) ∧
    (∃ (s : State), s.Calm ∧ s.AsP3 1) ∧
    (∃ (s : State), s.Calm ∧ s.AsP2) :=
  ⟨⟨at_RecordBanks_1, 3, (⟨0x0A16, 1, 5, 3, 1, 9, List.replicate 16 0⟩ : Record), by decide +kernel⟩,
    ⟨at_RecordBanks_2, (BitVec.ofNat 32 5), by decide +kernel⟩,
    ⟨at_RecordBanks_3, (⟨0x0A16, 1, 5, 3, 1, 9, List.replicate 16 0⟩ : Record), by decide +kernel⟩,
    ⟨at_RecordBanks_4, by decide +kernel⟩,
    ⟨at_RecordBanks_5, by decide +kernel⟩,
    ⟨at_RecordBanks_6, by decide +kernel⟩,
    ⟨at_RecordBanks_7, by decide +kernel⟩⟩

/-- R439, R442, R443: a commit of a type starts. -/
def at_JournalCommits_1 : State :=
  let b : State := State.second;
  let b := { b.sl.up.md .regulate with jrn := { ({} : Journal) with pend := [(1, [1,2,3,4,5])] } } ;
  let b := (b.mark F.THERM_STATUS_JRN_OK).set F.JRN_CAP_C_EFF 0 4000 |>.clear F.SUPPLY_STATUS_VDD33_GOOD; b
/-- R441: a history entry starts. -/
def at_JournalCommits_2 : State :=
  let b : State := State.second;
  let b := { b.sl.up.md .regulate with jrn := { ({} : Journal) with hist := [⟨0x0A16, 1, 5, 3, 1, 9, List.replicate 16 0⟩], hseq := 0 } } ;
  let b := (b.mark F.THERM_STATUS_JRN_OK).set F.JRN_CAP_C_EFF 0 4000; b
/-- R445: too cold or hot. -/
def at_JournalCommits_3 : State :=
  let b : State := State.second;
  let b := { b.sl.up.md .regulate with jrn := { ({} : Journal) with pend := [(1, [1,2,3,4,5])] } } ;
  let b := (b.mark F.THERM_STATUS_JRN_OK).set F.JRN_CAP_C_EFF 0 4000 |>.clear F.SUPPLY_STATUS_VDD33_GOOD; b.clear F.THERM_STATUS_JRN_OK
/-- R443, R445: the energy does not reach. -/
def at_JournalCommits_4 : State :=
  let b : State := State.second;
  let b := { b.sl.up.md .regulate with jrn := { ({} : Journal) with pend := [(1, [1,2,3,4,5])] } } ;
  let b := (b.mark F.THERM_STATUS_JRN_OK).set F.JRN_CAP_C_EFF 0 4000 |>.clear F.SUPPLY_STATUS_VDD33_GOOD; b
/-- R442: nothing to commit. -/
def at_JournalCommits_5 : State :=
  let b : State := State.second; { b.cm with jrn := {} }
/-- R439: COMMIT closes a slot. -/
def at_JournalCommits_6 : State :=
  let b : State := State.second;
  let b := { b.sl.up.md .regulate with jrn := { ({} : Journal) with busy := some ⟨1, [1,2,3], 400, false, 3⟩, hist := [⟨0x0A16, 1, 5, 3, 1, 9, List.replicate 16 0⟩,⟨0x0A16, 1, 5, 3, 1, 9, List.replicate 16 0⟩], hseq := 0 } } ; b
/-- R441: COMMIT closes a history entry. -/
def at_JournalCommits_7 : State :=
  let b : State := State.second;
  let b := { b.sl.up.md .regulate with jrn := { ({} : Journal) with busy := some ⟨6, [1,2,3], 400, false, 3⟩, hist := [⟨0x0A16, 1, 5, 3, 1, 9, List.replicate 16 0⟩,⟨0x0A16, 1, 5, 3, 1, 9, List.replicate 16 0⟩], hseq := 0 } } ; b
/-- R444: on VAON alone C_MEAS follows the fall. -/
def at_JournalCommits_8 : State :=
  let b : State := State.second;
  let b := { b.sl.up.md .regulate with jrn := { ({} : Journal) with busy := some ⟨1, [1,2,3], 400, true, 3⟩, hist := [⟨0x0A16, 1, 5, 3, 1, 9, List.replicate 16 0⟩,⟨0x0A16, 1, 5, 3, 1, 9, List.replicate 16 0⟩], hseq := 0 } } ; b
/-- R442: a failed read-back returns the request. -/
def at_JournalCommits_9 : State :=
  let b : State := State.second;
  let b := { b.sl.up.md .regulate with jrn := { ({} : Journal) with busy := some ⟨1, [1,2,3], 400, true, 3⟩, hist := [⟨0x0A16, 1, 5, 3, 1, 9, List.replicate 16 0⟩,⟨0x0A16, 1, 5, 3, 1, 9, List.replicate 16 0⟩], hseq := 0 } } ; b
/-- R445: a retry with energy starts the commit. -/
def at_JournalCommits_10 : State :=
  let b : State := State.second;
  let b := { b.sl.up.md .regulate with jrn := { ({} : Journal) with pend := [(1, [1,2,3,4,5])] } } ;
  let b := (b.mark F.THERM_STATUS_JRN_OK).set F.JRN_CAP_C_EFF 0 4000 |>.clear F.SUPPLY_STATUS_VDD33_GOOD; { b with jrn.deferred := true }
/-- R24, R447: under the ROM policy it does not act. -/
def at_JournalCommits_11 : State :=
  let b : State := State.second; { b.sl.up with pow.released := true, pow.romPolicy := true }
/-- R447: firmware asks for its payload. -/
def at_JournalCommits_12 : State :=
  let b : State := State.second; { b.sl.up with pow.released := true, pow.romPolicy := false }
/-- States and operands that meet the conditions of `Obligations.JournalCommits`, clause by clause. -/
theorem test_meets_JournalCommits :
    (∃ (s : State) (vs : BitVec 11) (c : Nat) (p : List Byte) (w : Nat) (a : Nat), s.Calm ∧ s.mode ≠ .dormant ∧ s.jrn.busy = none
      ∧ s.jrn.deferred = false ∧ s.pow.cdUp = true ∧ s.jrnHead = some (c, p) ∧ s.flag F.THERM_STATUS_JRN_OK = true
      ∧ 330 ≤ vs.toNat ∧ 45 * commitNs (Commit.bytes c p) ≤ 10000 * s.get F.JRN_CAP_C_EFF * (vs.toNat - 330) ∧ c ≠ 6
      ∧ w = (commitTarget s.jrn.mram c).1 ∧ (a < w ∨ w + 4 + (p.length + 3) / 4 ≤ a)) ∧
    (∃ (s : State) (vs : BitVec 11) (c : Nat) (p : List Byte), s.Calm ∧ s.mode ≠ .dormant ∧ s.jrn.busy = none
      ∧ s.jrn.deferred = false ∧ s.pow.cdUp = true ∧ s.jrnHead = some (c, p) ∧ s.flag F.THERM_STATUS_JRN_OK = true
      ∧ 330 ≤ vs.toNat ∧ 45 * commitNs (Commit.bytes c p) ≤ 10000 * s.get F.JRN_CAP_C_EFF * (vs.toNat - 330) ∧ c = 6) ∧
    (∃ (s : State) (c : Nat) (p : List Byte), s.Calm ∧ s.mode ≠ .dormant ∧ s.jrn.busy = none ∧ s.jrn.deferred = false
      ∧ s.pow.cdUp = true ∧ s.jrnHead = some (c, p) ∧ s.flag F.THERM_STATUS_JRN_OK = false ∧ s.rcd.wins = []) ∧
    (∃ (s : State) (vs : BitVec 11) (c : Nat) (p : List Byte), s.Calm ∧ s.mode ≠ .dormant ∧ s.jrn.busy = none
      ∧ s.jrn.deferred = false ∧ s.pow.cdUp = true ∧ s.jrnHead = some (c, p) ∧ s.flag F.THERM_STATUS_JRN_OK = true
      ∧ 10000 * s.get F.JRN_CAP_C_EFF * (vs.toNat - 330) < 45 * commitNs (Commit.bytes c p)) ∧
    (∃ (s : State), s.Calm ∧ s.jrnHead = none) ∧
    (∃ (s : State) (c : Commit) (w : Nat) (a : Nat), s.Calm ∧ s.jrn.busy = some c ∧ c.kind ≠ 6 ∧ c.onVaon = false
      ∧ w = (commitTarget s.jrn.mram c.kind).1 + 3 ∧ a ≠ w) ∧
    (∃ (s : State) (c : Commit), s.Calm ∧ s.jrn.busy = some c ∧ c.kind = 6 ∧ c.onVaon = false) ∧
    (∃ (s : State) (c : Commit) (d : Nat) (m : Nat), s.Calm ∧ s.jrn.busy = some c ∧ c.onVaon = true ∧ d ≠ 0
      ∧ (m : Int) = min 65535 (roundDiv (45 * commitNs (Commit.bytes c.kind c.payload) : Nat) d)) ∧
    (∃ (s : State) (c : Commit), s.Calm ∧ s.jrn.busy = some c ∧ c.kind ≠ 6 ∧ s.jrn.pend.any (fun x => x.1 == c.kind) = false
      ∧ s.rcd.wins = []) ∧
    (∃ (s : State) (vs : BitVec 11) (c : Nat) (p : List Byte), s.Calm ∧ s.mode ≠ .dormant ∧ s.jrn.busy = none
      ∧ s.jrn.deferred = true ∧ s.jrn.deferAt + (if s.flag F.SUPPLY_STATUS_VDD33_GOOD then 1000000 else 100000) ≤ s.now
      ∧ s.pow.cdUp = true ∧ s.jrnHead = some (c, p) ∧ s.flag F.THERM_STATUS_JRN_OK = true ∧ 330 ≤ vs.toNat
      ∧ 45 * commitNs (Commit.bytes c p) ≤ 10000 * s.get F.JRN_CAP_C_EFF * (vs.toNat - 330)) ∧
    (∃ (s : State) (p : List Byte), s.Calm ∧ (s.pow.romPolicy = true ∨ s.pow.released = false ∨ s.pow.cdUp = false ∨ 4080 <
      p.length)) ∧
    (∃ (s : State) (p : List Byte), s.Calm ∧ s.pow.cdUp = true ∧ s.pow.released = true ∧ s.pow.romPolicy = false
      ∧ p.length ≤ 4080) :=
  ⟨⟨at_JournalCommits_1, (BitVec.ofNat 11 400), 1, ([1,2,3,4,5]), ((commitTarget (at_JournalCommits_1).jrn.mram 1).1),
    ((commitTarget (at_JournalCommits_1).jrn.mram 1).1 + 4 + 2 + 0), by decide +kernel⟩,
    ⟨at_JournalCommits_2, (BitVec.ofNat 11 400), 6, ((⟨0x0A16, 1, 5, 3, 1, 9, List.replicate 16 0⟩ : Record).bytes : List Byte),
      by decide +kernel⟩,
    ⟨at_JournalCommits_3, 1, ([1,2,3,4,5]), by decide +kernel⟩,
    ⟨at_JournalCommits_4, 330, 1, ([1,2,3,4,5]), by decide +kernel⟩,
    ⟨at_JournalCommits_5, by decide +kernel⟩,
    ⟨at_JournalCommits_6, (⟨1, [1,2,3], 400, false, 3⟩ : Commit), ((commitTarget (at_JournalCommits_6).jrn.mram (⟨1, [1,2,3], 400,
      false, 3⟩ : Commit).kind).1 + 3 : Nat), 0, by decide +kernel⟩,
    ⟨at_JournalCommits_7, (⟨6, [1,2,3], 400, false, 3⟩ : Commit), by decide +kernel⟩,
    ⟨at_JournalCommits_8, (⟨1, [1,2,3], 400, true, 3⟩ : Commit), 100, ((min 65535 (roundDiv (45 * commitNs (Commit.bytes 1 [1,2,3])
      : Nat) 100)).toNat), by decide +kernel⟩,
    ⟨at_JournalCommits_9, (⟨1, [1,2,3], 400, true, 3⟩ : Commit), by decide +kernel⟩,
    ⟨at_JournalCommits_10, (BitVec.ofNat 11 400), 1, ([1,2,3,4,5]), by decide +kernel⟩,
    ⟨at_JournalCommits_11, ([1,2,3,BitVec.ofNat 8 0]), by decide +kernel⟩,
    ⟨at_JournalCommits_12, ([1,2,3,BitVec.ofNat 8 0]), by decide +kernel⟩⟩

/-- R453: a NOP answers with the result that waits. -/
def at_HostSpi_1 : State :=
  let b : State := State.second; { b.sl.p2.mark F.PARSE_STATUS_DONE with cz1604 := false, sec := {}, spi := { busy := none, last := some ⟨1, 9, 0, 0⟩ } }
/-- R453: nothing waits, NONE. -/
def at_HostSpi_2 : State :=
  let b : State := State.second; { b.sl.p2.mark F.PARSE_STATUS_DONE with cz1604 := false, sec := {}, spi := { busy := none, last := some ⟨1, 9, 0, 0⟩ } } |> (fun (b : State) => { b with spi := {} })
/-- R453: PENDING while a transaction executes, and the new one is not taken. -/
def at_HostSpi_3 : State :=
  let b : State := State.second; { b.sl.p2.mark F.PARSE_STATUS_DONE with cz1604 := false, sec := {}, spi := { busy := none, last := some ⟨1, 9, 0, 0⟩ } } |> (fun (b : State) => { b with spi := { busy := some (1, 3) } })
/-- R453, R490: a read of DEVICE_ID. -/
def at_HostSpi_4 : State :=
  let b : State := State.second; { b.sl.p2.mark F.PARSE_STATUS_DONE with cz1604 := false, sec := {}, spi := { busy := none, last := some ⟨1, 9, 0, 0⟩ } }
/-- R516: a Front-die field is read over the bridge. -/
def at_HostSpi_5 : State :=
  let b : State := State.second; { b.sl.p2.mark F.PARSE_STATUS_DONE with cz1604 := false, sec := {}, spi := { busy := none, last := some ⟨1, 9, 0, 0⟩ } }
/-- R486: an address without a register. -/
def at_HostSpi_6 : State :=
  let b : State := State.second; { b.sl.p2.mark F.PARSE_STATUS_DONE with cz1604 := false, sec := {}, spi := { busy := none, last := some ⟨1, 9, 0, 0⟩ } }
/-- R454: an unaligned address, FORMAT. -/
def at_HostSpi_7 : State :=
  let b : State := State.second; { b.sl.p2.mark F.PARSE_STATUS_DONE with cz1604 := false, sec := {}, spi := { busy := none, last := some ⟨1, 9, 0, 0⟩ } }
/-- R453, R231: a write of SP_CMD. -/
def at_HostSpi_8 : State :=
  let b : State := State.second;
  let r : Fin 8 := (0 : Fin 8);
  let b := { b.sl.p2.mark F.PARSE_STATUS_DONE with cz1604 := false, sec := {}, spi := { busy := none, last := some ⟨1, 9, 0, 0⟩ } }; ((b.rst r .reg).set F.SP_CTRL_SRC_EN r 15).modSp r (fun q => { q with p2Min := 1, p2Max := 4090 })
/-- R516: a write of a Front-die field travels. -/
def at_HostSpi_9 : State :=
  let b : State := State.second; { b.sl.p2.mark F.PARSE_STATUS_DONE with cz1604 := false, sec := {}, spi := { busy := none, last := some ⟨1, 9, 0, 0⟩ } }
/-- R454: a frame CRC fails. -/
def at_HostSpi_10 : State :=
  let b : State := State.second; { b.sl.p2.mark F.PARSE_STATUS_DONE with cz1604 := false, sec := {}, spi := { busy := none, last := some ⟨1, 9, 0, 0⟩ } }
/-- R454: another format error. -/
def at_HostSpi_11 : State :=
  let b : State := State.second; { b.sl.p2.mark F.PARSE_STATUS_DONE with cz1604 := false, sec := {}, spi := { busy := none, last := some ⟨1, 9, 0, 0⟩ } }
/-- R455: no answer while the path is down. -/
def at_HostSpi_12 : State :=
  let b : State := State.second; { b.sl.p2.mark F.PARSE_STATUS_DONE with cz1604 := false, sec := {}, spi := { busy := none, last := some ⟨1, 9, 0, 0⟩ } } |>.clear F.SUPPLY_STATUS_VDDIO_GOOD
/-- States and operands that meet the conditions of `Obligations.HostSpi`, clause by clause. -/
theorem test_meets_HostSpi :
    (∃ (s : State) (e : SpiRes), s.Calm ∧ s.AsP2 ∧ s.spi.busy = none ∧ s.spi.last = some e) ∧
    (∃ (s : State), s.Calm ∧ s.AsP2 ∧ s.spi.busy = none ∧ s.spi.last = none) ∧
    (∃ (s : State) (a : BitVec 16) (o : Nat) (p : Nat), s.Calm ∧ s.AsP2 ∧ s.spi.busy = some (o, p) ∧ a.toNat % 4 = 0) ∧
    (∃ (s : State), s.Calm ∧ s.AsP2 ∧ s.spi.busy = none) ∧
    (∃ (s : State), s.Calm ∧ s.AsP2 ∧ s.spi.busy = none) ∧
    (∃ (s : State) (a : BitVec 16), s.Calm ∧ s.AsP2 ∧ s.spi.busy = none ∧ a.toNat % 4 = 0 ∧ s.fieldsFor a.toNat = []) ∧
    (∃ (s : State) (a : BitVec 16), s.Calm ∧ s.AsP2 ∧ s.spi.busy = none ∧ a.toNat % 4 ≠ 0 ∧ s.rcd.wins = []) ∧
    (∃ (s : State) (r : Fin 8) (c : Nat), s.Calm ∧ s.AsP2 ∧ s.spi.busy = none ∧ s.cz1604 = false ∧ c < 4096
      ∧ s.spCheck r 4 c = none) ∧
    (∃ (s : State), s.Calm ∧ s.AsP2 ∧ s.spi.busy = none) ∧
    (∃ (s : State) (e : Nat) (c : BitVec 80), s.Calm ∧ s.AsP2 ∧ s.spi.busy = none ∧ spiWrong e c.toNat = some true) ∧
    (∃ (s : State) (e : Nat) (c : BitVec 80), s.Calm ∧ s.AsP2 ∧ s.spi.busy = none ∧ spiWrong e c.toNat = some false) ∧
    (∃ (s : State) (a : BitVec 16), s.Calm ∧ s.pathUp .spi = false ∧ a.toNat % 4 = 0) :=
  ⟨⟨at_HostSpi_1, (⟨1, 9, 0, 0⟩ : SpiRes), by decide +kernel⟩,
    ⟨at_HostSpi_2, by decide +kernel⟩,
    ⟨at_HostSpi_3, (BitVec.ofNat 16 0), 1, 3, by decide +kernel⟩,
    ⟨at_HostSpi_4, by decide +kernel⟩,
    ⟨at_HostSpi_5, by decide +kernel⟩,
    ⟨at_HostSpi_6, (BitVec.ofNat 16 (0xF000 + 0)), by decide +kernel⟩,
    ⟨at_HostSpi_7, (BitVec.ofNat 16 1), by decide +kernel⟩,
    ⟨at_HostSpi_8, (0 : Fin 8), 3, by decide +kernel⟩,
    ⟨at_HostSpi_9, by decide +kernel⟩,
    ⟨at_HostSpi_10, 80, (BitVec.ofNat 80 (0 * 0x456789123456789123)), by decide +kernel⟩,
    ⟨at_HostSpi_11, (79 - 0), (BitVec.ofNat 80 (0 * 0x456789123456789123)), by decide +kernel⟩,
    ⟨at_HostSpi_12, (BitVec.ofNat 16 0), by decide +kernel⟩⟩

/-- R515: write one to clear. -/
def at_RegisterAccess_1 : State :=
  let b : State := State.second; { b.sl.p2.mark F.PARSE_STATUS_DONE with cz1604 := false, sec := {} } |>.mark F.REC_STATUS_REC_MISS |>.mark F.REC_STATUS_INTAKE_S |>.mark F.REC_STATUS_STICKY_LOST |>.mark F.REC_STATUS_OVERWRITE_S
/-- R397, R398: P2 may not write a field of P3. -/
def at_RegisterAccess_2 : State :=
  let b : State := State.second; { b.sl.p2.mark F.PARSE_STATUS_DONE with cz1604 := false, sec := {} }
/-- R34: less protective than the image. -/
def at_RegisterAccess_3 : State :=
  let b : State := State.second;
  let r : Fin 8 := (0 : Fin 8); ({ b.sl.p3 1 with cz1604 := false }.mark F.PARSE_STATUS_DONE).load F.RP_WIN_OV_TH r 60
/-- R34, R515: at least as protective. -/
def at_RegisterAccess_4 : State :=
  let b : State := State.second;
  let r : Fin 8 := (0 : Fin 8); ({ b.sl.p3 1 with cz1604 := false }.mark F.PARSE_STATUS_DONE).load F.RP_WIN_OV_TH r 60
/-- R49, R393: no access while the path is down. -/
def at_RegisterAccess_5 : State :=
  let b : State := State.second; { b.sl.p2.mark F.PARSE_STATUS_DONE with cz1604 := false, sec := {} } |>.clear F.SUPPLY_STATUS_VDDIO_GOOD
/-- States and operands that meet the conditions of `Obligations.RegisterAccess`, clause by clause. -/
theorem test_meets_RegisterAccess :
    (∃ (s : State) (d : Word) (x : BitVec 4), s.Calm ∧ s.AsP2 ∧ d.toNat = x.toNat * 2) ∧
    (∃ (s : State) (d : Word) (r : Fin 8), s.Calm ∧ s.AsP2 ∧ s.cz1604 = false ∧ d.toNat / 2 ^ 24 ≠ s.get F.RP_WIN_OV_TH r) ∧
    (∃ (s : State) (d : Word) (r : Fin 8) (x : Nat), s.Calm ∧ s.AsP3 1 ∧ s.parsed = true ∧ s.cz1604 = false
      ∧ s.get F.RP_WIN_UV_TH r < 256 ∧ s.get F.RP_WIN_OV_FILT r < 16 ∧ s.get F.RP_WIN_UV_FILT r < 256 ∧ x < 256
      ∧ x ≠ s.get F.RP_WIN_OV_TH r ∧ d.toNat = x * 2 ^ 24 + s.get F.RP_WIN_UV_TH r * 2 ^ 16 + s.get F.RP_WIN_OV_FILT r * 2 ^ 12 +
      s.get F.RP_WIN_UV_FILT r ∧ s.imgGet F.RP_WIN_OV_TH r < x) ∧
    (∃ (s : State) (d : Word) (r : Fin 8) (x : Nat), s.Calm ∧ s.AsP3 1 ∧ s.parsed = true ∧ s.cz1604 = false
      ∧ s.get F.RP_WIN_UV_TH r < 256 ∧ s.get F.RP_WIN_OV_FILT r < 16 ∧ s.get F.RP_WIN_UV_FILT r < 256 ∧ x < 256
      ∧ x ≠ s.get F.RP_WIN_OV_TH r ∧ d.toNat = x * 2 ^ 24 + s.get F.RP_WIN_UV_TH r * 2 ^ 16 + s.get F.RP_WIN_OV_FILT r * 2 ^ 12 +
      s.get F.RP_WIN_UV_FILT r ∧ x ≤ s.imgGet F.RP_WIN_OV_TH r ∧ 4 ≤ x ∧ x ≤ 127) ∧
    (∃ (s : State) (p : Path), s.Calm ∧ s.pathUp p = false) :=
  ⟨⟨at_RegisterAccess_1, (BitVec.ofNat 32 0), (BitVec.ofNat 4 0), by decide +kernel⟩,
    ⟨at_RegisterAccess_2, (BitVec.ofNat 32 (1 * 0x1000007)), (0 : Fin 8), by decide +kernel⟩,
    ⟨at_RegisterAccess_3, (BitVec.ofNat 32 (61 * 2 ^ 24 + (at_RegisterAccess_3).get F.RP_WIN_UV_TH (0 : Fin 8) * 2 ^ 16 +
      (at_RegisterAccess_3).get F.RP_WIN_OV_FILT (0 : Fin 8) * 2 ^ 12 + (at_RegisterAccess_3).get F.RP_WIN_UV_FILT (0 : Fin 8))),
      (0 : Fin 8), 61, by decide +kernel⟩,
    ⟨at_RegisterAccess_4, (BitVec.ofNat 32 (4 * 2 ^ 24 + (at_RegisterAccess_4).get F.RP_WIN_UV_TH (0 : Fin 8) * 2 ^ 16 +
      (at_RegisterAccess_4).get F.RP_WIN_OV_FILT (0 : Fin 8) * 2 ^ 12 + (at_RegisterAccess_4).get F.RP_WIN_UV_FILT (0 : Fin 8))),
      (0 : Fin 8), 4, by decide +kernel⟩,
    ⟨at_RegisterAccess_5, .spi, by decide +kernel⟩⟩

/-- R458: reading PAGE. -/
def at_PmbusTransactions_1 : State :=
  let b : State := State.second; { b.sl.p2.mark F.PARSE_STATUS_DONE with cz1604 := false, sec := {}, pmb := { b.pmb with nack := false } }.set F.STRAP_STATUS_PM_ADDR 0 0
/-- R458: writing PAGE. -/
def at_PmbusTransactions_2 : State :=
  let b : State := State.second; { b.sl.p2.mark F.PARSE_STATUS_DONE with cz1604 := false, sec := {}, pmb := { b.pmb with nack := false } }.set F.STRAP_STATUS_PM_ADDR 0 0
/-- R458: a page that does not exist is invalid data. -/
def at_PmbusTransactions_3 : State :=
  let b : State := State.second; { b.sl.p2.mark F.PARSE_STATUS_DONE with cz1604 := false, sec := {}, pmb := { b.pmb with nack := false } }.set F.STRAP_STATUS_PM_ADDR 0 0
/-- R457: a PEC error. -/
def at_PmbusTransactions_4 : State :=
  let b : State := State.second; { b.sl.p2.mark F.PARSE_STATUS_DONE with cz1604 := false, sec := {}, pmb := { b.pmb with nack := false } }.set F.STRAP_STATUS_PM_ADDR 0 0
/-- Table 16.3, R459. -/
def at_PmbusTransactions_5 : State :=
  let b : State := State.second; { b.sl.p2.mark F.PARSE_STATUS_DONE with cz1604 := false, sec := {}, pmb := { b.pmb with nack := false } }.set F.STRAP_STATUS_PM_ADDR 0 0
/-- Table 16.3, R459. -/
def at_PmbusTransactions_6 : State :=
  let b : State := State.second; { b.sl.p2.mark F.PARSE_STATUS_DONE with cz1604 := false, sec := {}, pmb := { b.pmb with nack := false } }.set F.STRAP_STATUS_PM_ADDR 0 0
/-- Table 16.3, R459. -/
def at_PmbusTransactions_7 : State :=
  let b : State := State.second; { b.sl.p2.mark F.PARSE_STATUS_DONE with cz1604 := false, sec := {}, pmb := { b.pmb with nack := false } }.set F.STRAP_STATUS_PM_ADDR 0 0
/-- Table 16.3, R459. -/
def at_PmbusTransactions_8 : State :=
  let b : State := State.second; { b.sl.p2.mark F.PARSE_STATUS_DONE with cz1604 := false, sec := {}, pmb := { b.pmb with nack := false } }.set F.STRAP_STATUS_PM_ADDR 0 0
/-- R459: a write of a command without one is invalid data. -/
def at_PmbusTransactions_9 : State :=
  let b : State := State.second; { b.sl.p2.mark F.PARSE_STATUS_DONE with cz1604 := false, sec := {}, pmb := { b.pmb with nack := false } }.set F.STRAP_STATUS_PM_ADDR 0 0
/-- Table 16.3. -/
def at_PmbusTransactions_10 : State :=
  let b : State := State.second; { b.sl.p2.mark F.PARSE_STATUS_DONE with cz1604 := false, sec := {}, pmb := { b.pmb with nack := false } }.set F.STRAP_STATUS_PM_ADDR 0 0
/-- Table 16.3, R491. -/
def at_PmbusTransactions_11 : State :=
  let b : State := State.second; { b.sl.p2.mark F.PARSE_STATUS_DONE with cz1604 := false, sec := {}, pmb := { b.pmb with nack := false } }.set F.STRAP_STATUS_PM_ADDR 0 0 |> (fun (b : State) => { b with cz1604 := 0 == 0 })
/-- Table 16.3. -/
def at_PmbusTransactions_12 : State :=
  let b : State := State.second; { b.sl.p2.mark F.PARSE_STATUS_DONE with cz1604 := false, sec := {}, pmb := { b.pmb with nack := false } }.set F.STRAP_STATUS_PM_ADDR 0 0
/-- Table 16.3, R408. -/
def at_PmbusTransactions_13 : State :=
  let b : State := State.second; { b.sl.p2.mark F.PARSE_STATUS_DONE with cz1604 := false, sec := {}, pmb := { b.pmb with nack := false } }.set F.STRAP_STATUS_PM_ADDR 0 0
/-- R466: a session is open on PMBus, its command bytes apart. -/
def at_PmbusTransactions_14 : State :=
  let b : State := State.second; { b.sl.p2.mark F.PARSE_STATUS_DONE with cz1604 := false, sec := {}, pmb := { b.pmb with nack := false } }.set F.STRAP_STATUS_PM_ADDR 0 0 |> (fun (b : State) => { b with sec := { st := 2, bus := 1 } })
/-- R49: the Control die does not answer. -/
def at_PmbusTransactions_15 : State :=
  State.second.cm.md .caretaker
/-- R459, R464. -/
def at_PmbusTransactions_16 : State :=
  let b : State := State.second; { b.sl.p2.mark F.PARSE_STATUS_DONE with cz1604 := false, sec := {}, pmb := { b.pmb with nack := false } }.set F.STRAP_STATUS_PM_ADDR 0 0
/-- R463. -/
def at_PmbusTransactions_17 : State :=
  let b : State := State.second; { b.sl.p2.mark F.PARSE_STATUS_DONE with cz1604 := false, sec := {}, pmb := { b.pmb with nack := false } }.set F.STRAP_STATUS_PM_ADDR 0 0 |>.set F.PMB_STATUS_STATUS_CML 0 7 |> (fun (b : State) => { b with pmb := {} })
/-- R463: no alert of its own. -/
def at_PmbusTransactions_18 : State :=
  let b : State := State.second; { b.sl.p2.mark F.PARSE_STATUS_DONE with cz1604 := false, sec := {}, pmb := { b.pmb with nack := false } }.set F.STRAP_STATUS_PM_ADDR 0 0 |>.md .caretaker
/-- R462: CLEAR_FAULTS on its page. -/
def at_PmbusTransactions_19 : State :=
  let b : State := State.second;
  let r : Fin 8 := (0 : Fin 8);
  let b := (({ b.sl.p2.mark F.PARSE_STATUS_DONE with cz1604 := false, sec := {}, pmb := { b.pmb with nack := false } }.set F.STRAP_STATUS_PM_ADDR 0 0).set F.PMB_STATUS_PAGE 0 r.val).cf r (fun c => { c with present := true }); ((b.set F.PMB_RSTAT2_STATUS_INPUT r 16).set F.PMB_STATUS_STATUS_CML 0 64).set F.PMB_RSTAT_STATUS_VOUT r 128 |>.md .service |>.rst r .reg
/-- R462: PMB_CLR on every page. -/
def at_PmbusTransactions_20 : State :=
  let b : State := State.second;
  let r : Fin 8 := (0 : Fin 8);
  let b := (({ b.sl.p2.mark F.PARSE_STATUS_DONE with cz1604 := false, sec := {}, pmb := { b.pmb with nack := false } }.set F.STRAP_STATUS_PM_ADDR 0 0).set F.PMB_STATUS_PAGE 0 r.val).cf r (fun c => { c with present := true }); ((b.set F.PMB_RSTAT2_STATUS_INPUT r 16).set F.PMB_STATUS_STATUS_CML 0 64).set F.PMB_RSTAT_STATUS_VOUT r 128 |>.md .service |>.rst r .reg
/-- States and operands that meet the conditions of `Obligations.PmbusTransactions`, clause by clause. -/
theorem test_meets_PmbusTransactions :
    (∃ (s : State), s.Calm ∧ s.regsUp = true ∧ s.sessOn 1 = false ∧ s.get F.PMB_STATUS_PAGE < 256) ∧
    (∃ (s : State) (p : Byte), s.Calm ∧ s.regsUp = true ∧ s.sessOn 1 = false
      ∧ (p.toNat = 0xFF ∨ p.toNat < (if s.cz1604 then 4 else 8))) ∧
    (∃ (s : State) (p : Byte), s.Calm ∧ s.regsUp = true ∧ s.sessOn 1 = false ∧ p.toNat ≠ 0xFF ∧ 8 ≤ p.toNat) ∧
    (∃ (s : State) (d : List Byte) (p : Option Byte), s.Calm ∧ s.regsUp = true ∧ s.sessOn 1 = false ∧ p ≠ some (s.pecByte 0 d)) ∧
    (∃ (s : State), s.Calm ∧ s.regsUp = true ∧ s.sessOn 1 = false) ∧
    (∃ (s : State), s.Calm ∧ s.regsUp = true ∧ s.sessOn 1 = false) ∧
    (∃ (s : State), s.Calm ∧ s.regsUp = true ∧ s.sessOn 1 = false) ∧
    (∃ (s : State), s.Calm ∧ s.regsUp = true ∧ s.sessOn 1 = false) ∧
    (∃ (s : State), s.Calm ∧ s.regsUp = true ∧ s.sessOn 1 = false) ∧
    (∃ (s : State), s.Calm ∧ s.regsUp = true ∧ s.sessOn 1 = false) ∧
    (∃ (s : State), s.Calm ∧ s.regsUp = true ∧ s.sessOn 1 = false) ∧
    (∃ (s : State), s.Calm ∧ s.regsUp = true ∧ s.sessOn 1 = false) ∧
    (∃ (s : State), s.Calm ∧ s.regsUp = true ∧ s.sessOn 1 = false) ∧
    (∃ (s : State), s.Calm ∧ s.regsUp = true ∧ s.sessOn 1 = true) ∧
    (∃ (s : State), s.Calm ∧ s.regsUp = false) ∧
    (∃ (s : State) (c : Byte), s.Calm ∧ s.regsUp = true ∧ s.sessOn 1 = false ∧ c.toNat ∉ pmbCodes) ∧
    (∃ (s : State), s.Calm ∧ s.smbAlert = true) ∧
    (∃ (s : State), s.Calm ∧ s.smbAlert = false) ∧
    (∃ (s : State) (r : Fin 8), s.Still ∧ s.regsUp = true ∧ s.sessOn 1 = false ∧ s.get F.PMB_STATUS_PAGE = r.val
      ∧ (s.cfg r).present = true ∧ s.mode = .service ∧ s.st r ≠ .caretaken) ∧
    (∃ (s : State) (r : Fin 8), s.Still ∧ s.AsP2 ∧ s.parsed = true ∧ s.mode = .service ∧ s.st r ≠ .caretaken) :=
  ⟨⟨at_PmbusTransactions_1, by decide +kernel⟩,
    ⟨at_PmbusTransactions_2, (0xFF), by decide +kernel⟩,
    ⟨at_PmbusTransactions_3, (BitVec.ofNat 8 8), by decide +kernel⟩,
    ⟨at_PmbusTransactions_4, ([1, 2]), (none), by decide +kernel⟩,
    ⟨at_PmbusTransactions_5, by decide +kernel⟩,
    ⟨at_PmbusTransactions_6, by decide +kernel⟩,
    ⟨at_PmbusTransactions_7, by decide +kernel⟩,
    ⟨at_PmbusTransactions_8, by decide +kernel⟩,
    ⟨at_PmbusTransactions_9, by decide +kernel⟩,
    ⟨at_PmbusTransactions_10, by decide +kernel⟩,
    ⟨at_PmbusTransactions_11, by decide +kernel⟩,
    ⟨at_PmbusTransactions_12, by decide +kernel⟩,
    ⟨at_PmbusTransactions_13, by decide +kernel⟩,
    ⟨at_PmbusTransactions_14, by decide +kernel⟩,
    ⟨at_PmbusTransactions_15, by decide +kernel⟩,
    ⟨at_PmbusTransactions_16, (BitVec.ofNat 8 (0xF0 + 0)), by decide +kernel⟩,
    ⟨at_PmbusTransactions_17, by decide +kernel⟩,
    ⟨at_PmbusTransactions_18, by decide +kernel⟩,
    ⟨at_PmbusTransactions_19, (0 : Fin 8), by decide +kernel⟩,
    ⟨at_PmbusTransactions_20, (0 : Fin 8), by decide +kernel⟩⟩

/-- Table 16.3: OPERATION. -/
def at_PmbusMeasuresAndStatus_1 : State :=
  let b : State := State.second;
  let r : Fin 8 := (0 : Fin 8);
  let b := (({ b.sl.p2.mark F.PARSE_STATUS_DONE with cz1604 := false, sec := {}, pmb := { b.pmb with nack := false } }.set F.STRAP_STATUS_PM_ADDR 0 0).set F.PMB_STATUS_PAGE 0 r.val).cf r (fun c => { c with present := true }); b
/-- R458: a rail left unused reads 0. -/
def at_PmbusMeasuresAndStatus_2 : State :=
  let b : State := State.second;
  let r : Fin 8 := (0 : Fin 8);
  let b := (({ b.sl.p2.mark F.PARSE_STATUS_DONE with cz1604 := false, sec := {}, pmb := { b.pmb with nack := false } }.set F.STRAP_STATUS_PM_ADDR 0 0).set F.PMB_STATUS_PAGE 0 r.val).cf r (fun c => { c with present := true }); b.cf r (fun c => { c with present := false })
/-- R458: under PAGE 0xFF. -/
def at_PmbusMeasuresAndStatus_3 : State :=
  let b : State := State.second; { b.sl.p2.mark F.PARSE_STATUS_DONE with cz1604 := false, sec := {}, pmb := { b.pmb with nack := false } }.set F.STRAP_STATUS_PM_ADDR 0 0 |>.set F.PMB_STATUS_PAGE 0 255
/-- R460: VOUT_COMMAND reads the set-point. -/
def at_PmbusMeasuresAndStatus_4 : State :=
  let b : State := State.second;
  let r : Fin 8 := (0 : Fin 8);
  let b := (({ b.sl.p2.mark F.PARSE_STATUS_DONE with cz1604 := false, sec := {}, pmb := { b.pmb with nack := false } }.set F.STRAP_STATUS_PM_ADDR 0 0).set F.PMB_STATUS_PAGE 0 r.val).cf r (fun c => { c with present := true }); b
/-- R460: VOUT_COMMAND commands one. -/
def at_PmbusMeasuresAndStatus_5 : State :=
  let b : State := State.second;
  let r : Fin 8 := (0 : Fin 8);
  let b := (({ b.sl.p2.mark F.PARSE_STATUS_DONE with cz1604 := false, sec := {}, pmb := { b.pmb with nack := false } }.set F.STRAP_STATUS_PM_ADDR 0 0).set F.PMB_STATUS_PAGE 0 r.val).cf r (fun c => { c with present := true }); ((b.rst r .reg).set F.SP_CTRL_SRC_EN r 15).modSp r (fun q => { q with p2Min := 1, p2Max := 4090 }) |>.cf r (fun c => { c with divider := 1600 })
/-- R460: a refused one is invalid data. -/
def at_PmbusMeasuresAndStatus_6 : State :=
  let b : State := State.second;
  let r : Fin 8 := (0 : Fin 8);
  let b := (({ b.sl.p2.mark F.PARSE_STATUS_DONE with cz1604 := false, sec := {}, pmb := { b.pmb with nack := false } }.set F.STRAP_STATUS_PM_ADDR 0 0).set F.PMB_STATUS_PAGE 0 r.val).cf r (fun c => { c with present := true }); (b.rst r .latched).cf r (fun c => { c with divider := 1600 })
/-- R461: STATUS_BYTE, the low byte. -/
def at_PmbusMeasuresAndStatus_7 : State :=
  let b : State := State.second;
  let r : Fin 8 := (0 : Fin 8);
  let b := (({ b.sl.p2.mark F.PARSE_STATUS_DONE with cz1604 := false, sec := {}, pmb := { b.pmb with nack := false } }.set F.STRAP_STATUS_PM_ADDR 0 0).set F.PMB_STATUS_PAGE 0 r.val).cf r (fun c => { c with present := true }); b
/-- R461: STATUS_WORD with its summary bits. -/
def at_PmbusMeasuresAndStatus_8 : State :=
  let b : State := State.second;
  let r : Fin 8 := (0 : Fin 8);
  let b := (({ b.sl.p2.mark F.PARSE_STATUS_DONE with cz1604 := false, sec := {}, pmb := { b.pmb with nack := false } }.set F.STRAP_STATUS_PM_ADDR 0 0).set F.PMB_STATUS_PAGE 0 r.val).cf r (fun c => { c with present := true }); (b.set F.PMB_RSTAT_STATUS_IOUT r 1).set F.PMB_STATUS_STATUS_CML 0 0
/-- R461. -/
def at_PmbusMeasuresAndStatus_9 : State :=
  let b : State := State.second;
  let r : Fin 8 := (0 : Fin 8);
  let b := (({ b.sl.p2.mark F.PARSE_STATUS_DONE with cz1604 := false, sec := {}, pmb := { b.pmb with nack := false } }.set F.STRAP_STATUS_PM_ADDR 0 0).set F.PMB_STATUS_PAGE 0 r.val).cf r (fun c => { c with present := true }); b.set F.PMB_RSTAT_STATUS_VOUT r 0
/-- R461. -/
def at_PmbusMeasuresAndStatus_10 : State :=
  let b : State := State.second;
  let r : Fin 8 := (0 : Fin 8);
  let b := (({ b.sl.p2.mark F.PARSE_STATUS_DONE with cz1604 := false, sec := {}, pmb := { b.pmb with nack := false } }.set F.STRAP_STATUS_PM_ADDR 0 0).set F.PMB_STATUS_PAGE 0 r.val).cf r (fun c => { c with present := true }); b.set F.PMB_RSTAT_STATUS_IOUT r 0
/-- R461. -/
def at_PmbusMeasuresAndStatus_11 : State :=
  let b : State := State.second;
  let r : Fin 8 := (0 : Fin 8);
  let b := (({ b.sl.p2.mark F.PARSE_STATUS_DONE with cz1604 := false, sec := {}, pmb := { b.pmb with nack := false } }.set F.STRAP_STATUS_PM_ADDR 0 0).set F.PMB_STATUS_PAGE 0 r.val).cf r (fun c => { c with present := true }); b.set F.PMB_RSTAT2_STATUS_INPUT r 0
/-- R461. -/
def at_PmbusMeasuresAndStatus_12 : State :=
  let b : State := State.second;
  let r : Fin 8 := (0 : Fin 8);
  let b := (({ b.sl.p2.mark F.PARSE_STATUS_DONE with cz1604 := false, sec := {}, pmb := { b.pmb with nack := false } }.set F.STRAP_STATUS_PM_ADDR 0 0).set F.PMB_STATUS_PAGE 0 r.val).cf r (fun c => { c with present := true }); b.set F.PMB_RSTAT2_STATUS_TEMP r 0
/-- R461. -/
def at_PmbusMeasuresAndStatus_13 : State :=
  let b : State := State.second;
  let r : Fin 8 := (0 : Fin 8);
  let b := (({ b.sl.p2.mark F.PARSE_STATUS_DONE with cz1604 := false, sec := {}, pmb := { b.pmb with nack := false } }.set F.STRAP_STATUS_PM_ADDR 0 0).set F.PMB_STATUS_PAGE 0 r.val).cf r (fun c => { c with present := true }); b.set F.PMB_RSTAT2_STATUS_MFR r 0
/-- R461: STATUS_CML belongs to no page. -/
def at_PmbusMeasuresAndStatus_14 : State :=
  let b : State := State.second; { b.sl.p2.mark F.PARSE_STATUS_DONE with cz1604 := false, sec := {}, pmb := { b.pmb with nack := false } }.set F.STRAP_STATUS_PM_ADDR 0 0
/-- R463: a mask. -/
def at_PmbusMeasuresAndStatus_15 : State :=
  let b : State := State.second;
  let r : Fin 8 := (0 : Fin 8);
  let b := (({ b.sl.p2.mark F.PARSE_STATUS_DONE with cz1604 := false, sec := {}, pmb := { b.pmb with nack := false } }.set F.STRAP_STATUS_PM_ADDR 0 0).set F.PMB_STATUS_PAGE 0 r.val).cf r (fun c => { c with present := true }); b
/-- R460: READ_VIN in 2^-5 V. -/
def at_PmbusMeasuresAndStatus_16 : State :=
  let b : State := State.second; { b.sl.p2.mark F.PARSE_STATUS_DONE with cz1604 := false, sec := {}, pmb := { b.pmb with nack := false } }.set F.STRAP_STATUS_PM_ADDR 0 0 |> (fun (b : State) => { b with th.busV := 0 })
/-- R460: READ_VOUT. -/
def at_PmbusMeasuresAndStatus_17 : State :=
  let b : State := State.second;
  let r : Fin 8 := (0 : Fin 8);
  let b := (({ b.sl.p2.mark F.PARSE_STATUS_DONE with cz1604 := false, sec := {}, pmb := { b.pmb with nack := false } }.set F.STRAP_STATUS_PM_ADDR 0 0).set F.PMB_STATUS_PAGE 0 r.val).cf r (fun c => { c with present := true }); { b with tlm := { b.tlm with rv2 := List.replicate 8 { out := 0 } } }
/-- R460: READ_IOUT with the least exponent from -3 that fits. -/
def at_PmbusMeasuresAndStatus_18 : State :=
  let b : State := State.second;
  let r : Fin 8 := (0 : Fin 8);
  let b := (({ b.sl.p2.mark F.PARSE_STATUS_DONE with cz1604 := false, sec := {}, pmb := { b.pmb with nack := false } }.set F.STRAP_STATUS_PM_ADDR 0 0).set F.PMB_STATUS_PAGE 0 r.val).cf r (fun c => { c with present := true }); { b with tlm := { b.tlm with ri2 := List.replicate 8 { out := (3000 : Int) * (0 - 15 : Int) } } }
/-- R460: READ_POUT, the product where the mantissas fit at once. -/
def at_PmbusMeasuresAndStatus_19 : State :=
  let b : State := State.second;
  let r : Fin 8 := (0 : Fin 8);
  let b := (({ b.sl.p2.mark F.PARSE_STATUS_DONE with cz1604 := false, sec := {}, pmb := { b.pmb with nack := false } }.set F.STRAP_STATUS_PM_ADDR 0 0).set F.PMB_STATUS_PAGE 0 r.val).cf r (fun c => { c with present := true }); { b with tlm := { b.tlm with rv2 := List.replicate 8 { out := 0 }, ri2 := List.replicate 8 { out := (30 : Int) * (0 - 15 : Int) } } } |>.cf r (fun c => { c with divider := 1600 })
/-- R460: READ_TEMPERATURE_1, the region of the rail. -/
def at_PmbusMeasuresAndStatus_20 : State :=
  let b : State := State.second;
  let r : Fin 8 := (0 : Fin 8);
  let b := (({ b.sl.p2.mark F.PARSE_STATUS_DONE with cz1604 := false, sec := {}, pmb := { b.pmb with nack := false } }.set F.STRAP_STATUS_PM_ADDR 0 0).set F.PMB_STATUS_PAGE 0 r.val).cf r (fun c => { c with present := true }); b
/-- R460: READ_TEMPERATURE_2, the package. -/
def at_PmbusMeasuresAndStatus_21 : State :=
  let b : State := State.second; { b.sl.p2.mark F.PARSE_STATUS_DONE with cz1604 := false, sec := {}, pmb := { b.pmb with nack := false } }.set F.STRAP_STATUS_PM_ADDR 0 0
/-- States and operands that meet the conditions of `Obligations.PmbusMeasuresAndStatus`, clause by clause. -/
theorem test_meets_PmbusMeasuresAndStatus :
    (∃ (s : State) (r : Fin 8), s.Calm ∧ s.regsUp = true ∧ s.sessOn 1 = false ∧ s.get F.PMB_STATUS_PAGE = r.val
      ∧ (s.cfg r).present = true) ∧
    (∃ (s : State) (r : Fin 8), s.Calm ∧ s.regsUp = true ∧ s.sessOn 1 = false ∧ s.get F.PMB_STATUS_PAGE = r.val
      ∧ (s.cfg r).present = false) ∧
    (∃ (s : State), s.Calm ∧ s.regsUp = true ∧ s.sessOn 1 = false ∧ s.get F.PMB_STATUS_PAGE = 0xFF) ∧
    (∃ (s : State) (r : Fin 8) (v : Nat), s.Calm ∧ s.regsUp = true ∧ s.sessOn 1 = false ∧ s.get F.PMB_STATUS_PAGE = r.val
      ∧ (s.cfg r).present = true ∧ (v : Int) = roundDiv (s.get F.SP_STATUS_SP_TGT r * (s.cfg r).divider : Nat) 1600) ∧
    (∃ (s : State) (r : Fin 8) (l : Byte) (h : Byte) (c : Nat), s.Calm ∧ s.regsUp = true ∧ s.sessOn 1 = false
      ∧ s.get F.PMB_STATUS_PAGE = r.val ∧ (s.cfg r).present = true ∧ (c : Int) = roundDiv ((l.toNat + 256 * h.toNat : Nat) * 1600)
      (s.cfg r).divider ∧ s.spCheck r 4 c = none) ∧
    (∃ (s : State) (r : Fin 8) (l : Byte) (h : Byte) (c : Nat) (y : Nat), s.Calm ∧ s.regsUp = true ∧ s.sessOn 1 = false
      ∧ s.get F.PMB_STATUS_PAGE = r.val ∧ (s.cfg r).present = true ∧ (c : Int) = roundDiv ((l.toNat + 256 * h.toNat : Nat) * 1600)
      (s.cfg r).divider ∧ s.spCheck r 4 c = some y) ∧
    (∃ (s : State) (r : Fin 8), s.Calm ∧ s.regsUp = true ∧ s.sessOn 1 = false ∧ s.get F.PMB_STATUS_PAGE = r.val
      ∧ (s.cfg r).present = true) ∧
    (∃ (s : State) (r : Fin 8), s.Calm ∧ s.regsUp = true ∧ s.sessOn 1 = false ∧ s.get F.PMB_STATUS_PAGE = r.val
      ∧ (s.cfg r).present = true) ∧
    (∃ (s : State) (r : Fin 8), s.Calm ∧ s.regsUp = true ∧ s.sessOn 1 = false ∧ s.get F.PMB_STATUS_PAGE = r.val
      ∧ (s.cfg r).present = true) ∧
    (∃ (s : State) (r : Fin 8), s.Calm ∧ s.regsUp = true ∧ s.sessOn 1 = false ∧ s.get F.PMB_STATUS_PAGE = r.val
      ∧ (s.cfg r).present = true) ∧
    (∃ (s : State) (r : Fin 8), s.Calm ∧ s.regsUp = true ∧ s.sessOn 1 = false ∧ s.get F.PMB_STATUS_PAGE = r.val
      ∧ (s.cfg r).present = true) ∧
    (∃ (s : State) (r : Fin 8), s.Calm ∧ s.regsUp = true ∧ s.sessOn 1 = false ∧ s.get F.PMB_STATUS_PAGE = r.val
      ∧ (s.cfg r).present = true) ∧
    (∃ (s : State) (r : Fin 8), s.Calm ∧ s.regsUp = true ∧ s.sessOn 1 = false ∧ s.get F.PMB_STATUS_PAGE = r.val
      ∧ (s.cfg r).present = true) ∧
    (∃ (s : State), s.Calm ∧ s.regsUp = true ∧ s.sessOn 1 = false) ∧
    (∃ (s : State) (r : Fin 8) (c : Byte), s.Calm ∧ s.regsUp = true ∧ s.sessOn 1 = false ∧ s.get F.PMB_STATUS_PAGE = r.val
      ∧ (s.cfg r).present = true ∧ maskable c.toNat = true ∧ c.toNat ≠ 0x7E) ∧
    (∃ (s : State), s.Calm ∧ s.regsUp = true ∧ s.sessOn 1 = false ∧ s.th.busV < 25600) ∧
    (∃ (s : State) (r : Fin 8) (v : Nat), s.Calm ∧ s.regsUp = true ∧ s.sessOn 1 = false ∧ s.get F.PMB_STATUS_PAGE = r.val
      ∧ (s.cfg r).present = true ∧ (v : Int) = roundDiv ((s.tlm.rv2.getD r.val {}).out * (s.cfg r).divider) 8000
      ∧ 0 ≤ (s.tlm.rv2.getD r.val {}).out ∧ (s.tlm.rv2.getD r.val {}).out < 32768 ∧ v < 65536) ∧
    (∃ (s : State) (r : Fin 8) (i : Int) (e : Nat) (m : Int), s.Calm ∧ s.regsUp = true ∧ s.sessOn 1 = false
      ∧ s.get F.PMB_STATUS_PAGE = r.val ∧ (s.cfg r).present = true ∧ i = (s.tlm.ri2.getD r.val {}).out ∧ m = i / 2 ^ e
      ∧ -1024 ≤ m ∧ m ≤ 1023 ∧ e ≤ 7 ∧ (e = 0 ∨ i / 2 ^ (e - 1) < -1024 ∨ 1023 < i / 2 ^ (e - 1))) ∧
    (∃ (s : State) (r : Fin 8) (i : Int) (v : Nat), s.Calm ∧ s.regsUp = true ∧ s.sessOn 1 = false
      ∧ s.get F.PMB_STATUS_PAGE = r.val ∧ (s.cfg r).present = true ∧ i = (s.tlm.ri2.getD r.val {}).out ∧ -1024 ≤ i ∧ i ≤ 1023
      ∧ v = s.voutWord r ∧ -1024 ≤ v * i / 2 ^ 13 ∧ v * i / 2 ^ 13 ≤ 1023) ∧
    (∃ (s : State) (r : Fin 8) (x : Int), s.Calm ∧ s.regsUp = true ∧ s.sessOn 1 = false ∧ s.get F.PMB_STATUS_PAGE = r.val
      ∧ (s.cfg r).present = true ∧ x = s.temp (tmaxReg (s.regionOf r).val) / 2 ∧ -1024 ≤ x ∧ x ≤ 1023) ∧
    (∃ (s : State) (x : Int), s.Calm ∧ s.regsUp = true ∧ s.sessOn 1 = false ∧ x = s.temp pkgReg / 2 ∧ -1024 ≤ x ∧ x ≤ 1023) :=
  ⟨⟨at_PmbusMeasuresAndStatus_1, (0 : Fin 8), by decide +kernel⟩,
    ⟨at_PmbusMeasuresAndStatus_2, (0 : Fin 8), by decide +kernel⟩,
    ⟨at_PmbusMeasuresAndStatus_3, by decide +kernel⟩,
    ⟨at_PmbusMeasuresAndStatus_4, (0 : Fin 8), ((roundDiv ((at_PmbusMeasuresAndStatus_4).get F.SP_STATUS_SP_TGT (0 : Fin 8) *
      ((at_PmbusMeasuresAndStatus_4).cfg (0 : Fin 8)).divider : Nat) 1600).toNat), by decide +kernel⟩,
    ⟨at_PmbusMeasuresAndStatus_5, (0 : Fin 8), (BitVec.ofNat 8 0), 3, 768, by decide +kernel⟩,
    ⟨at_PmbusMeasuresAndStatus_6, (0 : Fin 8), (BitVec.ofNat 8 0), 3, 768, (((at_PmbusMeasuresAndStatus_6).spCheck (0 : Fin 8) 4
      768).getD 0), by decide +kernel⟩,
    ⟨at_PmbusMeasuresAndStatus_7, (0 : Fin 8), by decide +kernel⟩,
    ⟨at_PmbusMeasuresAndStatus_8, (0 : Fin 8), by decide +kernel⟩,
    ⟨at_PmbusMeasuresAndStatus_9, (0 : Fin 8), by decide +kernel⟩,
    ⟨at_PmbusMeasuresAndStatus_10, (0 : Fin 8), by decide +kernel⟩,
    ⟨at_PmbusMeasuresAndStatus_11, (0 : Fin 8), by decide +kernel⟩,
    ⟨at_PmbusMeasuresAndStatus_12, (0 : Fin 8), by decide +kernel⟩,
    ⟨at_PmbusMeasuresAndStatus_13, (0 : Fin 8), by decide +kernel⟩,
    ⟨at_PmbusMeasuresAndStatus_14, by decide +kernel⟩,
    ⟨at_PmbusMeasuresAndStatus_15, (0 : Fin 8), (BitVec.ofNat 8 (0x78 + 0)), by decide +kernel⟩,
    ⟨at_PmbusMeasuresAndStatus_16, by decide +kernel⟩,
    ⟨at_PmbusMeasuresAndStatus_17, (0 : Fin 8), ((roundDiv (((at_PmbusMeasuresAndStatus_17).tlm.rv2.getD (0 : Fin 8).val {}).out *
      ((at_PmbusMeasuresAndStatus_17).cfg (0 : Fin 8)).divider) 8000).toNat), by decide +kernel⟩,
    ⟨at_PmbusMeasuresAndStatus_18, (0 : Fin 8), (((at_PmbusMeasuresAndStatus_18).tlm.ri2.getD (0 : Fin 8).val {}).out), (if -1024 ≤
      (((at_PmbusMeasuresAndStatus_18).tlm.ri2.getD (0 : Fin 8).val {}).out)
      ∧ (((at_PmbusMeasuresAndStatus_18).tlm.ri2.getD (0 : Fin 8).val {}).out) ≤ 1023 then 0 else ((List.range 8).find? (fun e =>
      -1024 ≤ (((at_PmbusMeasuresAndStatus_18).tlm.ri2.getD (0 : Fin 8).val {}).out) / 2 ^ e &&
      (((at_PmbusMeasuresAndStatus_18).tlm.ri2.getD (0 : Fin 8).val {}).out) / 2 ^ e ≤ 1023)).getD 7 + 0 *
      (at_PmbusMeasuresAndStatus_18).mode.code), ((((at_PmbusMeasuresAndStatus_18).tlm.ri2.getD (0 : Fin 8).val {}).out) / 2 ^ (if
      -1024 ≤ (((at_PmbusMeasuresAndStatus_18).tlm.ri2.getD (0 : Fin 8).val {}).out)
      ∧ (((at_PmbusMeasuresAndStatus_18).tlm.ri2.getD (0 : Fin 8).val {}).out) ≤ 1023 then 0 else ((List.range 8).find? (fun e =>
      -1024 ≤ (((at_PmbusMeasuresAndStatus_18).tlm.ri2.getD (0 : Fin 8).val {}).out) / 2 ^ e &&
      (((at_PmbusMeasuresAndStatus_18).tlm.ri2.getD (0 : Fin 8).val {}).out) / 2 ^ e ≤ 1023)).getD 7 + 0 *
      (at_PmbusMeasuresAndStatus_18).mode.code) + 0 * (at_PmbusMeasuresAndStatus_18).mode.code), by decide +kernel⟩,
    ⟨at_PmbusMeasuresAndStatus_19, (0 : Fin 8), (((at_PmbusMeasuresAndStatus_19).tlm.ri2.getD (0 : Fin 8).val {}).out),
      ((at_PmbusMeasuresAndStatus_19).voutWord (0 : Fin 8)), by decide +kernel⟩,
    ⟨at_PmbusMeasuresAndStatus_20, (0 : Fin 8), ((at_PmbusMeasuresAndStatus_20).temp (tmaxReg
      ((at_PmbusMeasuresAndStatus_20).regionOf (0 : Fin 8)).val) / 2), by decide +kernel⟩,
    ⟨at_PmbusMeasuresAndStatus_21, ((at_PmbusMeasuresAndStatus_21).temp pkgReg / 2), by decide +kernel⟩⟩

/-- R465: MFR_REG_ADDR reads at once. -/
def at_PmbusManufacturer_1 : State :=
  let b : State := State.second; { b.sl.p2.mark F.PARSE_STATUS_DONE with cz1604 := false, sec := {}, pmb := { b.pmb with nack := false } }.set F.STRAP_STATUS_PM_ADDR 0 0 |> (fun (b : State) => { b with pmb.regBusy := false })
/-- R465, R516: a Front-die field is pending. -/
def at_PmbusManufacturer_2 : State :=
  let b : State := State.second; { b.sl.p2.mark F.PARSE_STATUS_DONE with cz1604 := false, sec := {}, pmb := { b.pmb with nack := false } }.set F.STRAP_STATUS_PM_ADDR 0 0 |> (fun (b : State) => { b with pmb.regBusy := false })
/-- R465: MFR_REG_DATA returns the result. -/
def at_PmbusManufacturer_3 : State :=
  let b : State := State.second; { b.sl.p2.mark F.PARSE_STATUS_DONE with cz1604 := false, sec := {}, pmb := { b.pmb with nack := false } }.set F.STRAP_STATUS_PM_ADDR 0 0 |> (fun (b : State) => { b with pmb := { b.pmb with regBusy := false, regData := some 0 } })
/-- R465: the clock is stretched until the result is there. -/
def at_PmbusManufacturer_4 : State :=
  let b : State := State.second; { b.sl.p2.mark F.PARSE_STATUS_DONE with cz1604 := false, sec := {}, pmb := { b.pmb with nack := false } }.set F.STRAP_STATUS_PM_ADDR 0 0 |> (fun (b : State) => { b with pmb := { b.pmb with regBusy := true } })
/-- R465: a read that failed. -/
def at_PmbusManufacturer_5 : State :=
  let b : State := State.second; { b.sl.p2.mark F.PARSE_STATUS_DONE with cz1604 := false, sec := {}, pmb := { b.pmb with nack := false } }.set F.STRAP_STATUS_PM_ADDR 0 0 |> (fun (b : State) => { b with pmb := { b.pmb with regBusy := false, regData := none } })
/-- R465, R231: MFR_REG_DATA writes a register. -/
def at_PmbusManufacturer_6 : State :=
  let b : State := State.second;
  let r : Fin 8 := (0 : Fin 8);
  let b := (({ b.sl.p2.mark F.PARSE_STATUS_DONE with cz1604 := false, sec := {}, pmb := { b.pmb with nack := false } }.set F.STRAP_STATUS_PM_ADDR 0 0).set F.PMB_STATUS_PAGE 0 r.val).cf r (fun c => { c with present := true }); ((b.rst r .reg).set F.SP_CTRL_SRC_EN r 15).modSp r (fun q => { q with p2Min := 1, p2Max := 4090 }) |> (fun (b : State) => { b with pmb := { b.pmb with regBusy := false, regAddr := 0x10B4 + 256 * r.val } })
/-- R465: MFR_REG_STATUS. -/
def at_PmbusManufacturer_7 : State :=
  let b : State := State.second; { b.sl.p2.mark F.PARSE_STATUS_DONE with cz1604 := false, sec := {}, pmb := { b.pmb with nack := false } }.set F.STRAP_STATUS_PM_ADDR 0 0
/-- R466: MFR_SESS_CTRL holds LEN. -/
def at_PmbusManufacturer_8 : State :=
  let b : State := State.second; { b.sl.p2.mark F.PARSE_STATUS_DONE with cz1604 := false, sec := {}, pmb := { b.pmb with nack := false } }.set F.STRAP_STATUS_PM_ADDR 0 0
/-- R466, R412: GO submits the message pushed. -/
def at_PmbusManufacturer_9 : State :=
  let b : State := State.second; { b.sl.p2.mark F.PARSE_STATUS_DONE with cz1604 := false, sec := {}, pmb := { b.pmb with nack := false } }.set F.STRAP_STATUS_PM_ADDR 0 0 |> (fun (b : State) => { b with sec := { push := [0x1234, 0, 7] } })
/-- R466: MFR_SESS_STAT. -/
def at_PmbusManufacturer_10 : State :=
  let b : State := State.second; { b.sl.p2.mark F.PARSE_STATUS_DONE with cz1604 := false, sec := {}, pmb := { b.pmb with nack := false } }.set F.STRAP_STATUS_PM_ADDR 0 0 |> (fun (b : State) => { b with sec := { lastRes := 0, rxLen := 0, rxReady := 0 == 0, busy := 0 == 0 } })
/-- R412, R466: MFR_SESS_MBOX takes words. -/
def at_PmbusManufacturer_11 : State :=
  let b : State := State.second; { b.sl.p2.mark F.PARSE_STATUS_DONE with cz1604 := false, sec := {}, pmb := { b.pmb with nack := false } }.set F.STRAP_STATUS_PM_ADDR 0 0 |> (fun (b : State) => { b with sec := { push := [3] } })
/-- R412, R466: MFR_SESS_MBOX gives words. -/
def at_PmbusManufacturer_12 : State :=
  let b : State := State.second; { b.sl.p2.mark F.PARSE_STATUS_DONE with cz1604 := false, sec := {}, pmb := { b.pmb with nack := false } }.set F.STRAP_STATUS_PM_ADDR 0 0 |> (fun (b : State) => { b with sec := { pop := [0, 77], rxReady := true } })
/-- R434: MFR_REC_SEL. -/
def at_PmbusManufacturer_13 : State :=
  let b : State := State.second; { b.sl.p2.mark F.PARSE_STATUS_DONE with cz1604 := false, sec := {}, pmb := { b.pmb with nack := false } }.set F.STRAP_STATUS_PM_ADDR 0 0 |> (fun (b : State) => { b with rcd := { b.rcd with recs := [⟨0x0A16, 1, 5, 3, 1, 9, List.replicate 16 0⟩, ⟨0x0301, 0, 5, 2, 1, 9, List.replicate 16 0⟩], pmb := { hist := false, auto := false, sel := 2, missDue := false, cap := (List.range 8).map (fun i => i * 3 + 0) } } })
/-- R434: MFR_REC_DATA, the eight words captured. -/
def at_PmbusManufacturer_14 : State :=
  let b : State := State.second; { b.sl.p2.mark F.PARSE_STATUS_DONE with cz1604 := false, sec := {}, pmb := { b.pmb with nack := false } }.set F.STRAP_STATUS_PM_ADDR 0 0 |> (fun (b : State) => { b with rcd := { b.rcd with recs := [⟨0x0A16, 1, 5, 3, 1, 9, List.replicate 16 0⟩, ⟨0x0301, 0, 5, 2, 1, 9, List.replicate 16 0⟩], pmb := { hist := false, auto := false, sel := 2, missDue := false, cap := (List.range 8).map (fun i => i * 3 + 0) } } }) |> (fun (b : State) => { b with rcd := { b.rcd with pmb := { b.rcd.pmb with cap := 0x0301 :: (List.range 7).map (fun i => i * 3 + 0) } } })
/-- R434: MFR_REC_NEWEST. -/
def at_PmbusManufacturer_15 : State :=
  let b : State := State.second; { b.sl.p2.mark F.PARSE_STATUS_DONE with cz1604 := false, sec := {}, pmb := { b.pmb with nack := false } }.set F.STRAP_STATUS_PM_ADDR 0 0
/-- R464: MFR_RAIL_STATE, the states in the mirror. -/
def at_PmbusManufacturer_16 : State :=
  let b : State := State.second; { b.sl.p2.mark F.PARSE_STATUS_DONE with cz1604 := false, sec := {}, pmb := { b.pmb with nack := false } }.set F.STRAP_STATUS_PM_ADDR 0 0
/-- R464: MFR_MODE, the mode in the top bits. -/
def at_PmbusManufacturer_17 : State :=
  let b : State := State.second; { b.sl.p2.mark F.PARSE_STATUS_DONE with cz1604 := false, sec := {}, pmb := { b.pmb with nack := false } }.set F.STRAP_STATUS_PM_ADDR 0 0
/-- R467: MFR_PUB_SEL. -/
def at_PmbusManufacturer_18 : State :=
  let b : State := State.second; { b.sl.p2.mark F.PARSE_STATUS_DONE with cz1604 := false, sec := {}, pmb := { b.pmb with nack := false } }.set F.STRAP_STATUS_PM_ADDR 0 0
/-- R467: MFR_PUB_DATA. -/
def at_PmbusManufacturer_19 : State :=
  let b : State := State.second; { b.sl.p2.mark F.PARSE_STATUS_DONE with cz1604 := false, sec := {}, pmb := { b.pmb with nack := false } }.set F.STRAP_STATUS_PM_ADDR 0 0 |>.set F.FW_PUB_VALUE 0 0 |> (fun (b : State) => { b with pmb.pubSel := 0 })
/-- States and operands that meet the conditions of `Obligations.PmbusManufacturer`, clause by clause. -/
theorem test_meets_PmbusManufacturer :
    (∃ (s : State), s.Calm ∧ s.regsUp = true ∧ s.sessOn 1 = false ∧ s.pmb.regBusy = false) ∧
    (∃ (s : State), s.Calm ∧ s.regsUp = true ∧ s.sessOn 1 = false ∧ s.pmb.regBusy = false) ∧
    (∃ (s : State) (d : Nat), s.Calm ∧ s.regsUp = true ∧ s.sessOn 1 = false ∧ s.pmb.regBusy = false ∧ s.pmb.regData = some d) ∧
    (∃ (s : State), s.Calm ∧ s.regsUp = true ∧ s.sessOn 1 = false ∧ s.pmb.regBusy = true) ∧
    (∃ (s : State), s.Calm ∧ s.regsUp = true ∧ s.sessOn 1 = false ∧ s.pmb.regBusy = false ∧ s.pmb.regData = none) ∧
    (∃ (s : State) (r : Fin 8) (c : Nat), s.Calm ∧ s.regsUp = true ∧ s.sessOn 1 = false ∧ s.cz1604 = false
      ∧ s.pmb.regBusy = false ∧ s.pmb.regAddr = 0x10B4 + 256 * r.val ∧ c < 4096 ∧ s.spCheck r 4 c = none) ∧
    (∃ (s : State), s.Calm ∧ s.regsUp = true ∧ s.sessOn 1 = false) ∧
    (∃ (s : State), s.Calm ∧ s.regsUp = true ∧ s.sessOn 1 = false ∧ s.get F.SESS_CTRL_LEN < 4096) ∧
    (∃ (s : State) (n : Nat), s.Calm ∧ s.regsUp = true ∧ s.sessOn 1 = false ∧ s.sec.busy = false ∧ n < 4096) ∧
    (∃ (s : State) (v : Nat), s.Calm ∧ s.regsUp = true ∧ s.sessOn 1 = false ∧ s.sec.st ≠ 2 ∧ s.sec.lastRes < 256
      ∧ s.sec.rxLen < 4096 ∧ v = s.sec.lastRes * 2 ^ 24 + s.sec.rxLen * 2 ^ 12 + (if s.sec.rxReady then 2 ^ 11 else 0) + (if
      s.sec.busy then 2 ^ 10 else 0)) ∧
    (∃ (s : State) (w : Nat), s.Calm ∧ s.regsUp = true ∧ s.sessOn 1 = false ∧ s.sec.push.length < 134 ∧ w < 2 ^ 32) ∧
    (∃ (s : State) (x : Nat) (y : Nat), s.Calm ∧ s.regsUp = true ∧ s.sessOn 1 = false ∧ s.sec.pop = [x, y] ∧ x < 2 ^ 32
      ∧ y < 2 ^ 32) ∧
    (∃ (s : State) (v : Nat) (x : Record), s.Calm ∧ s.regsUp = true ∧ s.sessOn 1 = false ∧ s.rcd.pmb.hist = false ∧ v < 2 ^ 32
      ∧ s.rcd.recs.find? (fun x => x.seq == v) = some x) ∧
    (∃ (s : State) (v : List Nat), s.Calm ∧ s.regsUp = true ∧ s.sessOn 1 = false ∧ s.rcd.pmb.auto = false ∧ s.rcd.pmb.cap = v
      ∧ v.length = 8 ∧ v.all (fun x => x < 2 ^ 32) = true ∧ v.getD 0 0 % 65536 = 0x0301) ∧
    (∃ (s : State), s.Calm ∧ s.regsUp = true ∧ s.sessOn 1 = false ∧ s.get F.REC_NEWEST_SEQ < 2 ^ 32) ∧
    (∃ (s : State) (v : Nat), s.Calm ∧ s.regsUp = true ∧ s.sessOn 1 = false ∧ s.cz1604 = false
      ∧ v = (List.range 8).foldl (fun a i => a + (s.mirRail.getD i .off).code * 16 ^ i) 0) ∧
    (∃ (s : State), s.Calm ∧ s.regsUp = true ∧ s.sessOn 1 = false ∧ s.get F.MODE_STATUS_PREV_MODE < 16
      ∧ s.get F.MODE_STATUS_LAST_TRANS < 32 ∧ s.get F.MODE_STATUS_WAKE_SRC < 8 ∧ s.get F.MODE_STATUS_WAKE_FAIL_CNT < 16
      ∧ s.get F.MODE_STATUS_SHUTDOWN_ACT < 2 ∧ s.get F.MODE_STATUS_WAKE_PEND < 2) ∧
    (∃ (s : State) (i : Byte), s.Calm ∧ s.regsUp = true ∧ s.sessOn 1 = false ∧ i.toNat < 16) ∧
    (∃ (s : State) (i : Fin 16), s.Calm ∧ s.regsUp = true ∧ s.sessOn 1 = false ∧ s.pmb.pubSel = i.val
      ∧ s.get F.FW_PUB_VALUE i < 2 ^ 32) :=
  ⟨⟨at_PmbusManufacturer_1, by decide +kernel⟩,
    ⟨at_PmbusManufacturer_2, by decide +kernel⟩,
    ⟨at_PmbusManufacturer_3, 0, by decide +kernel⟩,
    ⟨at_PmbusManufacturer_4, by decide +kernel⟩,
    ⟨at_PmbusManufacturer_5, by decide +kernel⟩,
    ⟨at_PmbusManufacturer_6, (0 : Fin 8), 3, by decide +kernel⟩,
    ⟨at_PmbusManufacturer_7, by decide +kernel⟩,
    ⟨at_PmbusManufacturer_8, by decide +kernel⟩,
    ⟨at_PmbusManufacturer_9, 0, by decide +kernel⟩,
    ⟨at_PmbusManufacturer_10, ((at_PmbusManufacturer_10).sec.lastRes * 2 ^ 24 + (at_PmbusManufacturer_10).sec.rxLen * 2 ^ 12 + (if
      (at_PmbusManufacturer_10).sec.rxReady then 2 ^ 11 else 0) + (if (at_PmbusManufacturer_10).sec.busy then 2 ^ 10 else 0)),
      by decide +kernel⟩,
    ⟨at_PmbusManufacturer_11, (0 * 0x01010101), by decide +kernel⟩,
    ⟨at_PmbusManufacturer_12, 0, 77, by decide +kernel⟩,
    ⟨at_PmbusManufacturer_13, 3, (⟨0x0A16, 1, 5, 3, 1, 9, List.replicate 16 0⟩ : Record), by decide +kernel⟩,
    ⟨at_PmbusManufacturer_14, (0x0301 :: (List.range 7).map (fun i => i * 3 + 0)), by decide +kernel⟩,
    ⟨at_PmbusManufacturer_15, by decide +kernel⟩,
    ⟨at_PmbusManufacturer_16, ((List.range 8).foldl (fun a i => a + ((at_PmbusManufacturer_16).mirRail.getD i .off).code * 16 ^ i)
      0), by decide +kernel⟩,
    ⟨at_PmbusManufacturer_17, by decide +kernel⟩,
    ⟨at_PmbusManufacturer_18, (BitVec.ofNat 8 0), by decide +kernel⟩,
    ⟨at_PmbusManufacturer_19, (Fin.ofNat 16 0), by decide +kernel⟩⟩

/-- R413, R414: a good M1. -/
def at_Handshake_1 : State :=
  let b : State := State.second; { b.sl.p2.mark F.PARSE_STATUS_DONE with otp := {}, sec := { busy := true, msg := mHello 0x11 } }
/-- R414: malformed. -/
def at_Handshake_2 : State :=
  let b : State := State.second; { b.sl.p2.mark F.PARSE_STATUS_DONE with otp := {}, sec := { busy := true, msg := mHello 0x11 } } |> (fun (b : State) => { b with sec := { b.sec with msg := [1, 1, 0] } })
/-- R414: another bus holds the handshake or session. -/
def at_Handshake_3 : State :=
  let b : State := State.second; { b.sl.p2.mark F.PARSE_STATUS_DONE with otp := {}, sec := { busy := true, msg := mHello 0x11 } } |> (fun (b : State) => { b with sec := { b.sec with st := 2, bus := 1 } })
/-- R420: locked out. -/
def at_Handshake_4 : State :=
  let b : State := State.second; { b.sl.p2.mark F.PARSE_STATUS_DONE with otp := {}, sec := { busy := true, msg := mHello 0x11 } } |> (fun (b : State) => { b with sec := { b.sec with locked := true, lockTold := 0 == 0 } })
/-- R415, R416: a good M3 opens the session. -/
def at_Handshake_5 : State :=
  let b : State := State.second;
  let b := { b.sl.p2.mark F.PARSE_STATUS_DONE with otp := rootOf 0x0a0e4c6cded19e6d4ce5efc49c54ad7bd5258af103fd84a9c378040bf60daa79, sec := { busy := true, msg := mHello 0x11 } };
  let m2 : List Byte := [1, 2, 3, BitVec.ofNat 8 0]; { b with sec := { b.sec with st := 1, bus := 0, sid := 7, m1 := mHello 0x11, m2 := m2, ks := kKey, msg := mAuth 0 } }
/-- R414, R420: an M3 that fails a counted check. -/
def at_Handshake_6 : State :=
  let b : State := State.second;
  let b := { b.sl.p2.mark F.PARSE_STATUS_DONE with otp := {}, sec := { busy := true, msg := mHello 0x11 } };
  let m2 : List Byte := [1, 2, 3, BitVec.ofNat 8 0]; { b with sec := { b.sec with st := 1, bus := 0, sid := 7, m1 := mHello 0x11, m2 := m2, ks := kKey, msg := mAuth 3 } } |> (fun (b : State) => { b with sec := { b.sec with m2 := [9] } })
/-- R414: an M3 that fails another check. -/
def at_Handshake_7 : State :=
  let b : State := State.second;
  let b := { b.sl.p2.mark F.PARSE_STATUS_DONE with otp := {}, sec := { busy := true, msg := mHello 0x11 } };
  let m2 : List Byte := [1, 2, 3, BitVec.ofNat 8 0]; { b with sec := { b.sec with st := 1, bus := 0, sid := 7, m1 := mHello 0x11, m2 := m2, ks := kKey, msg := mAuth 3 } } |> (fun (b : State) => { b with sec := { b.sec with msg := [3] } })
/-- R414: no M3 in time. -/
def at_Handshake_8 : State :=
  let b : State := State.second;
  let b := { b.sl.p2.mark F.PARSE_STATUS_DONE with otp := {}, sec := { busy := true, msg := mHello 0x11 } };
  let m2 : List Byte := [1, 2, 3, BitVec.ofNat 8 0]; { b with sec := { b.sec with st := 1, bus := 0, sid := 7, m1 := mHello 0x11, m2 := m2, ks := kKey, msg := mAuth 3 } } |> (fun (b : State) => { b with sec := { b.sec with busy := 0 == 0, hsAt := 10, msgAt := 1000000011 }, now := 10001000000000 })
/-- R420. -/
def at_Handshake_9 : State :=
  State.second.cm
/-- R412: a word pushed. -/
def at_Handshake_10 : State :=
  let b : State := State.second; { b.sl.p2.mark F.PARSE_STATUS_DONE with otp := {}, sec := { busy := true, msg := mHello 0x11 } }
/-- R412: a word popped. -/
def at_Handshake_11 : State :=
  let b : State := State.second; { b.sl.p2.mark F.PARSE_STATUS_DONE with otp := {}, sec := { busy := true, msg := mHello 0x11 } } |> (fun (b : State) => { b with sec := { b.sec with pop := [4, 5], rxReady := true } })
/-- R419: ABORT. -/
def at_Handshake_12 : State :=
  let b : State := State.second; { b.sl.p2.mark F.PARSE_STATUS_DONE with sec := { st := 2, bus := 0, sid := 77, rights := 0x3F, ks := kKey, goAt := 5, openAt := 5, lifeMin := 60, cons := [1,2,3,4,5,6,7,8] } }
/-- R416, R419: idle. -/
def at_Handshake_13 : State :=
  let b : State := State.second; { b.sl.p2.mark F.PARSE_STATUS_DONE with sec := { st := 2, bus := 0, sid := 77, rights := 0x3F, ks := kKey, goAt := 5, openAt := 5, lifeMin := 60, cons := [1,2,3,4,5,6,7,8] } } |> (fun (b : State) => { b with now := 10001000000000 })
/-- R416, R419: the lifetime ends. -/
def at_Handshake_14 : State :=
  let b : State := State.second; { b.sl.p2.mark F.PARSE_STATUS_DONE with sec := { st := 2, bus := 0, sid := 77, rights := 0x3F, ks := kKey, goAt := 5, openAt := 5, lifeMin := 60, cons := [1,2,3,4,5,6,7,8] } } |> (fun (b : State) => { b with now := 10001000000000 })
/-- R425: a command in flight completes first. -/
def at_Handshake_15 : State :=
  let b : State := State.second; { b.sl.p2.mark F.PARSE_STATUS_DONE with sec := { st := 2, bus := 0, sid := 77, rights := 0x3F, ks := kKey, goAt := 5, openAt := 5, lifeMin := 60, cons := [1,2,3,4,5,6,7,8] } } |> (fun (b : State) => { b with sec := { b.sec with busy := true, msgBus := 0, msg := [5] }, now := 10001000000000 })
/-- R419, T24: a session that ends in SERVICE. -/
def at_Handshake_16 : State :=
  let b : State := State.second; { b.sl.p2.mark F.PARSE_STATUS_DONE with sec := { st := 2, bus := 0, sid := 77, rights := 0x3F, ks := kKey, goAt := 5, openAt := 5, lifeMin := 60, cons := [1,2,3,4,5,6,7,8] } } |>.md .service |>.clear F.FAULT_HOLD_FAULT_HOLD |> (fun (b : State) => { b with now := 10001000000000 })
/-- States and operands that meet the conditions of `Obligations.Handshake`, clause by clause. -/
theorem test_meets_Handshake :
    (∃ (s : State) (sid : BitVec 16) (nd : BitVec 128) (eph : BitVec 256) (h : List Byte), s.Calm ∧ s.msgWaits = true
      ∧ s.sec.st = 0 ∧ s.helloRes s.sec.msg = 0 ∧ h = beBytes 2 0x0201 ++ beBytes 2 sid.toNat ++ beBytes 16 nd.toNat ++ ptBytes
      (scalarMul eph.toNat p256G) ++ s.otp.certBytes) ∧
    (∃ (s : State), s.Calm ∧ s.msgWaits = true ∧ s.sec.st = 0 ∧ helloOk s.sec.msg = false) ∧
    (∃ (s : State), s.Calm ∧ s.msgWaits = true ∧ s.sec.st ≠ 0 ∧ s.sec.msgBus ≠ s.sec.bus ∧ helloOk s.sec.msg = true) ∧
    (∃ (s : State), s.Calm ∧ s.msgWaits = true ∧ s.sec.st = 0 ∧ helloOk s.sec.msg = true ∧ s.sec.locked = true) ∧
    (∃ (s : State) (c : List Byte) (g : Nat) (life : Nat), s.Calm ∧ s.msgWaits = true ∧ s.sec.st = 1 ∧ s.sec.msgBus = s.sec.bus
      ∧ s.authRes s.sec.msg = 0 ∧ c = slice s.sec.msg 4 176 ∧ g = beNat (slice s.sec.m1 2 2) &&& beNat (slice c 6 2) &&&
      s.sec.rightsMask &&& s.otp.slotRights (beNat (slice c 4 1)) ∧ life = min (beNat (slice c 10 2)) s.sec.sessMax) ∧
    (∃ (s : State) (x : Nat), s.Calm ∧ s.msgWaits = true ∧ s.sec.st = 1 ∧ s.sec.msgBus = s.sec.bus ∧ s.authRes s.sec.msg = x
      ∧ 5 ≤ x ∧ x ≤ 8) ∧
    (∃ (s : State) (x : Nat), s.Calm ∧ s.msgWaits = true ∧ s.sec.st = 1 ∧ s.sec.msgBus = s.sec.bus ∧ s.authRes s.sec.msg = x
      ∧ (x = 1 ∨ x = 4 ∨ x = 9)) ∧
    (∃ (s : State), s.Calm ∧ s.sec.st = 1 ∧ s.sec.hsAt + 1000000000 ≤ s.now
      ∧ (s.sec.busy = false ∨ s.sec.hsAt + 1000000000 < s.sec.msgAt)) ∧
    (∃ (s : State), s.Calm ∧ s.sec.lastFail + holdOff (s.get F.AUTH_FAIL_FAIL_N) * 1000000000 ≤ s.now) ∧
    (∃ (s : State), s.Calm ∧ s.pathUp .spi = true ∧ s.sec.push.length < 134) ∧
    (∃ (s : State) (x : Nat) (q : List Nat), s.Calm ∧ s.pathUp .spi = true ∧ s.sec.pop = x :: q) ∧
    (∃ (s : State), s.Calm ∧ s.pathUp .spi = true ∧ s.get F.SESS_CTRL_LEN < 4096 ∧ s.sec.st = 2 ∧ s.sec.inFlight = false
      ∧ s.mode ≠ .service) ∧
    (∃ (s : State), s.Calm ∧ s.sec.goAt + s.sec.idleS * 1000000000 ≤ s.now ∧ s.sec.st = 2 ∧ s.sec.inFlight = false
      ∧ s.mode ≠ .service) ∧
    (∃ (s : State), s.Calm ∧ s.sec.openAt + s.sec.lifeMin * 60000000000 ≤ s.now ∧ s.sec.st = 2 ∧ s.sec.inFlight = false
      ∧ s.mode ≠ .service) ∧
    (∃ (s : State), s.Calm ∧ s.sec.st = 2 ∧ s.sec.inFlight = true ∧ s.sec.ending = none
      ∧ s.sec.openAt + s.sec.lifeMin * 60000000000 ≤ s.now) ∧
    (∃ (s : State), s.Calm ∧ s.sec.st = 2 ∧ s.sec.inFlight = false ∧ s.mode = .service ∧ s.flag F.FAULT_HOLD_FAULT_HOLD = false
      ∧ s.sec.goAt + s.sec.idleS * 1000000000 ≤ s.now) :=
  ⟨⟨at_Handshake_1, (BitVec.ofNat 16 1), 99, 1, (beBytes 2 0x0201 ++ beBytes 2 1 ++ beBytes 16 99 ++ ptBytes (scalarMul 1 p256G) ++
    ({} : Otp).certBytes), by decide +kernel⟩,
    ⟨at_Handshake_2, by decide +kernel⟩,
    ⟨at_Handshake_3, by decide +kernel⟩,
    ⟨at_Handshake_4, by decide +kernel⟩,
    ⟨at_Handshake_5, (slice (at_Handshake_5).sec.msg 4 176), (beNat (slice (at_Handshake_5).sec.m1 2 2) &&& beNat (slice (slice
      (at_Handshake_5).sec.msg 4 176) 6 2) &&& (at_Handshake_5).sec.rightsMask &&& (at_Handshake_5).otp.slotRights (beNat (slice
      (slice (at_Handshake_5).sec.msg 4 176) 4 1))), (min (beNat (slice (slice (at_Handshake_5).sec.msg 4 176) 10 2))
      (at_Handshake_5).sec.sessMax), by decide +kernel⟩,
    ⟨at_Handshake_6, ((at_Handshake_6).authRes (at_Handshake_6).sec.msg), by decide +kernel⟩,
    ⟨at_Handshake_7, ((at_Handshake_7).authRes (at_Handshake_7).sec.msg), by decide +kernel⟩,
    ⟨at_Handshake_8, by decide +kernel⟩,
    ⟨at_Handshake_9, by decide +kernel⟩,
    ⟨at_Handshake_10, by decide +kernel⟩,
    ⟨at_Handshake_11, 4, ([5]), by decide +kernel⟩,
    ⟨at_Handshake_12, by decide +kernel⟩,
    ⟨at_Handshake_13, by decide +kernel⟩,
    ⟨at_Handshake_14, by decide +kernel⟩,
    ⟨at_Handshake_15, by decide +kernel⟩,
    ⟨at_Handshake_16, by decide +kernel⟩⟩

/-- R417, R418: READ of DEVICE_ID. -/
def at_SessionCommands_1 : State :=
  let b : State := State.second; ({ b.sl.p2.mark F.PARSE_STATUS_DONE with cz1604 := false, otp := {} }.msg 5 1 0 0x3F [0,0,0,0])
/-- R516: READ of a Front-die field waits. -/
def at_SessionCommands_2 : State :=
  let b : State := State.second; ({ b.sl.p2.mark F.PARSE_STATUS_DONE with cz1604 := false, otp := {} }.msg 5 1 0x3808 0x3F [0,0,0,0])
/-- R417: READ of an address without a register. -/
def at_SessionCommands_3 : State :=
  let b : State := State.second; ({ b.sl.p2.mark F.PARSE_STATUS_DONE with cz1604 := false, otp := {} }.msg 5 1 0xF000 0x3F [0,0,0,0])
/-- R417, R231: WRITE of SP_CMD with right 1. -/
def at_SessionCommands_4 : State :=
  let b : State := State.tuned;
  let r : Fin 8 := (0 : Fin 8); (({ b.sl.p2.mark F.PARSE_STATUS_DONE with cz1604 := false, otp := {} }.msg 5 2 (0x10B4 + 0) 0x3F (beBytes 4 3)).rst r .reg).set F.SP_CTRL_SRC_EN r 31 |>.modSp r (fun q => { q with p2Min := 1, p2Max := 4090 })
/-- R419: CLOSE. -/
def at_SessionCommands_5 : State :=
  let b : State := State.second; ({ b.sl.p2.mark F.PARSE_STATUS_DONE with cz1604 := false, otp := {} }.msg 5 3 0 0x3F [0,0,0,0])
/-- R417, T23: SERVICE. -/
def at_SessionCommands_6 : State :=
  let b : State := State.second; (({ b.sl.p2.mark F.PARSE_STATUS_DONE with cz1604 := false, otp := {} }.msg 5 4 0 0x3F [0,0,0,0]).allr .off)
/-- R417: SERVICE without the right. -/
def at_SessionCommands_7 : State :=
  let b : State := State.second; ({ b.sl.p2.mark F.PARSE_STATUS_DONE with cz1604 := false, otp := {} }.msg 5 4 0 0x3E [0,0,0,0])
/-- R417: SERVICE in another state. -/
def at_SessionCommands_8 : State :=
  let b : State := State.second; ({ b.sl.p2.mark F.PARSE_STATUS_DONE with cz1604 := false, otp := {} }.msg 5 4 0 0x3F [0,0,0,0]).rst 3 .reg
/-- R424: TAP_UNLOCK. -/
def at_SessionCommands_9 : State :=
  let b : State := State.second; (({ b.sl.p2.mark F.PARSE_STATUS_DONE with cz1604 := false, otp := {} }.md .service).allr .off).msg 5 5 0 0x3F [0,0,0,0]
/-- R424: the port is disabled, or this is not SERVICE. -/
def at_SessionCommands_10 : State :=
  let b : State := State.second; ({ b.sl.p2.mark F.PARSE_STATUS_DONE with cz1604 := false, otp := {} }.msg 5 5 0 0x3F [0,0,0,0])
/-- R417: CLR_HEALTH. -/
def at_SessionCommands_11 : State :=
  let b : State := State.second; (({ b.sl.p2.mark F.PARSE_STATUS_DONE with cz1604 := false, otp := {} }.md .service).allr .off).msg 5 6 0 0x3F [0,0,0,0] |>.set F.PH_STATE_FAIL_CNT 0 9
/-- R417: a tag or CSEQ that fails ends the session. -/
def at_SessionCommands_12 : State :=
  let b : State := State.second; ({ b.sl.p2.mark F.PARSE_STATUS_DONE with cz1604 := false, otp := {} }.msg 5 1 0 0x3F [0,0,0,0]) |> (fun (b : State) => { b with sec.cseq := 9 })
/-- R421, R422: ADD_KEY. -/
def at_SessionCommands_13 : State :=
  let b : State := State.second; (({ b.sl.p2.mark F.PARSE_STATUS_DONE with cz1604 := false, otp := { ownBits := 1, slots := { hash := 5, active := true : KeySlot } :: { hash := 9, typ := 3, gen := 1, active := true : KeySlot } :: { hash := 10, typ := 1, gen := 1, active := true : KeySlot } :: { hash := 11, typ := 3, gen := 1, active := true : KeySlot } :: List.replicate 8 {} } }).m7 1 (beBytes 32 777 ++ [2]))
/-- R421: refused outside its conditions. -/
def at_SessionCommands_14 : State :=
  let b : State := State.second; (({ b.sl.p2.mark F.PARSE_STATUS_DONE with cz1604 := false, otp := { ownBits := 1, slots := { hash := 5, active := true : KeySlot } :: { hash := 9, typ := 3, gen := 1, active := true : KeySlot } :: { hash := 10, typ := 1, gen := 1, active := true : KeySlot } :: { hash := 11, typ := 3, gen := 1, active := true : KeySlot } :: List.replicate 8 {} } }).m7 1 (beBytes 32 777 ++ [2])).md .regulate
/-- R422: TRANSFER to the first owner. -/
def at_SessionCommands_15 : State :=
  let b : State := State.second; (({ b.sl.p2.mark F.PARSE_STATUS_DONE with cz1604 := false, otp := {} }).m7 2 (beBytes 32 777 ++ [2]))
/-- R422: slots of older generations retire. -/
def at_SessionCommands_16 : State :=
  let b : State := State.second; (({ b.sl.p2.mark F.PARSE_STATUS_DONE with cz1604 := false, otp := { ownBits := 1, slots := { hash := 5, active := true : KeySlot } :: { hash := 9, typ := 3, gen := 1, active := true : KeySlot } :: { hash := 10, typ := 1, gen := 1, active := true : KeySlot } :: { hash := 11, typ := 3, gen := 1, active := true : KeySlot } :: List.replicate 8 {} } }).m7 2 (beBytes 32 777 ++ [2])) |> (fun (b : State) => { b with sec := { b.sec with slot := 1 } })
/-- R423: RETIRE_KEY. -/
def at_SessionCommands_17 : State :=
  let b : State := State.second; (({ b.sl.p2.mark F.PARSE_STATUS_DONE with cz1604 := false, otp := { ownBits := 1, slots := { hash := 5, active := true : KeySlot } :: { hash := 9, typ := 3, gen := 1, active := true : KeySlot } :: { hash := 10, typ := 1, gen := 1, active := true : KeySlot } :: { hash := 11, typ := 3, gen := 1, active := true : KeySlot } :: List.replicate 8 {} } }).m7 3 ([2]))
/-- R423: the root slot and the signer of the applied copy stay. -/
def at_SessionCommands_18 : State :=
  let b : State := State.second; (({ b.sl.p2.mark F.PARSE_STATUS_DONE with cz1604 := false, otp := { ownBits := 1, slots := { hash := 5, active := true : KeySlot } :: { hash := 9, typ := 3, gen := 1, active := true : KeySlot } :: { hash := 10, typ := 1, gen := 1, active := true : KeySlot } :: { hash := 11, typ := 3, gen := 1, active := true : KeySlot } :: List.replicate 8 {} } }).m7 3 ([2])) |> (fun (b : State) => { b with sec := { b.sec with signer := some 2 } })
/-- R423: the slot behind the session retires, the session ends. -/
def at_SessionCommands_19 : State :=
  let b : State := State.second; (({ b.sl.p2.mark F.PARSE_STATUS_DONE with cz1604 := false, otp := { ownBits := 1, slots := { hash := 5, active := true : KeySlot } :: { hash := 9, typ := 3, gen := 1, active := true : KeySlot } :: { hash := 10, typ := 1, gen := 1, active := true : KeySlot } :: { hash := 11, typ := 3, gen := 1, active := true : KeySlot } :: List.replicate 8 {} } }).m7 3 ([2])) |> (fun (b : State) => { b with sec := { b.sec with slot := 2 } }) |>.clear F.FAULT_HOLD_FAULT_HOLD
/-- R410: ADD_IEK, wrapped. -/
def at_SessionCommands_20 : State :=
  let b : State := State.second; (({ b.sl.p2.mark F.PARSE_STATUS_DONE with cz1604 := false, otp := { ownBits := 1, slots := { hash := 5, active := true : KeySlot } :: { hash := 9, typ := 3, gen := 1, active := true : KeySlot } :: { hash := 10, typ := 1, gen := 1, active := true : KeySlot } :: { hash := 11, typ := 3, gen := 1, active := true : KeySlot } :: List.replicate 8 {} } }).m7 4 (beBytes 1 0 ++ beBytes 32 777))
/-- R423: RETIRE_IEK. -/
def at_SessionCommands_21 : State :=
  let b : State := State.second; (({ b.sl.p2.mark F.PARSE_STATUS_DONE with cz1604 := false, otp := { ownBits := 1, slots := { hash := 5, active := true : KeySlot } :: { hash := 9, typ := 3, gen := 1, active := true : KeySlot } :: { hash := 10, typ := 1, gen := 1, active := true : KeySlot } :: { hash := 11, typ := 3, gen := 1, active := true : KeySlot } :: List.replicate 8 {} } }).m7 5 (beBytes 1 0))
/-- R424: TAP_DISABLE. -/
def at_SessionCommands_22 : State :=
  let b : State := State.second; (({ b.sl.p2.mark F.PARSE_STATUS_DONE with cz1604 := false, otp := { ownBits := 1, slots := { hash := 5, active := true : KeySlot } :: { hash := 9, typ := 3, gen := 1, active := true : KeySlot } :: { hash := 10, typ := 1, gen := 1, active := true : KeySlot } :: { hash := 11, typ := 3, gen := 1, active := true : KeySlot } :: List.replicate 8 {} } }).m7 6 ([]))
/-- R406, R408: DECOMMISSION. -/
def at_SessionCommands_23 : State :=
  let b : State := State.second; (({ b.sl.p2.mark F.PARSE_STATUS_DONE with cz1604 := false, otp := { ownBits := 1, slots := { hash := 5, active := true : KeySlot } :: { hash := 9, typ := 3, gen := 1, active := true : KeySlot } :: { hash := 10, typ := 1, gen := 1, active := true : KeySlot } :: { hash := 11, typ := 3, gen := 1, active := true : KeySlot } :: List.replicate 8 {} } }).m7 7 ([0x44, 0x45, 0x43, 0x4F]))
/-- States and operands that meet the conditions of `Obligations.SessionCommands`, clause by clause. -/
theorem test_meets_SessionCommands :
    (∃ (s : State) (pt : List Byte), s.Calm ∧ s.Message 5 1 pt ∧ s.msgAddr = 0) ∧
    (∃ (s : State) (pt : List Byte), s.Calm ∧ s.Message 5 1 pt ∧ s.msgAddr = 0x3808) ∧
    (∃ (s : State) (pt : List Byte), s.Calm ∧ s.Message 5 1 pt ∧ s.fieldsFor s.msgAddr = []) ∧
    (∃ (s : State) (pt : List Byte) (r : Fin 8) (c : Nat), s.Calm ∧ s.Message 5 2 pt ∧ s.cz1604 = false ∧ s.right 1 = true
      ∧ s.msgAddr = 0x10B4 + 256 * r.val ∧ c < 4096 ∧ beNat pt = c ∧ s.spCheck r 5 c = none) ∧
    (∃ (s : State) (pt : List Byte), s.Calm ∧ s.Message 5 3 pt ∧ s.mode ≠ .service) ∧
    (∃ (s : State) (pt : List Byte), s.Calm ∧ s.Message 5 4 pt ∧ s.right 0 = true ∧ s.serviceOk = true) ∧
    (∃ (s : State) (pt : List Byte), s.Calm ∧ s.Message 5 4 pt ∧ s.right 0 = false) ∧
    (∃ (s : State) (pt : List Byte), s.Calm ∧ s.Message 5 4 pt ∧ s.right 0 = true ∧ s.serviceOk = false) ∧
    (∃ (s : State) (pt : List Byte), s.Calm ∧ s.Message 5 5 pt ∧ s.right 3 = true ∧ s.mode = .service ∧ s.allStill = true
      ∧ s.otp.tapDis = false) ∧
    (∃ (s : State) (pt : List Byte), s.Calm ∧ s.Message 5 5 pt ∧ s.right 3 = true ∧ (s.mode ≠ .service ∨ s.otp.tapDis = true)) ∧
    (∃ (s : State) (pt : List Byte) (n : Fin 32), s.Calm ∧ s.Message 5 6 pt ∧ s.right 5 = true ∧ s.mode = .service
      ∧ s.msgAddr = n.val ∧ s.noPhase n.val = false) ∧
    (∃ (s : State), s.Calm ∧ s.readyFor 5 1 = true ∧ s.unseal = none ∧ s.mode ≠ .service) ∧
    (∃ (s : State) (pt : List Byte) (y : Nat) (i : Nat), s.Calm ∧ s.Message 7 1 pt ∧ s.keysOk = true ∧ pt.length = 33
      ∧ y = beNat (slice pt 32 1) ∧ 1 ≤ y ∧ y ≤ 3 ∧ s.otp.life = 2 ∧ s.otp.firstEmpty = some i) ∧
    (∃ (s : State) (pt : List Byte), s.Calm ∧ s.Message 7 1 pt ∧ s.keysOk = false) ∧
    (∃ (s : State) (pt : List Byte) (i : Nat) (y : Nat) (g : Nat), s.Calm ∧ s.Message 7 2 pt ∧ s.keysOk = true ∧ pt.length = 33
      ∧ y = beNat (slice pt 32 1) ∧ (y = 2 ∨ y = 3) ∧ s.sec.slot = 0 ∧ s.otp.life = 1 ∧ g = s.otp.ownGen ∧ g ≠ 7
      ∧ s.otp.written (beNat (pt.take 32)) = none ∧ s.otp.firstEmpty = some i ∧ s.otp.slots.length = 12) ∧
    (∃ (s : State) (pt : List Byte) (i : Nat) (j : Nat) (y : Nat) (g : Nat), s.Calm ∧ s.Message 7 2 pt ∧ s.keysOk = true
      ∧ pt.length = 33 ∧ y = beNat (slice pt 32 1) ∧ (y = 2 ∨ y = 3) ∧ s.sec.slot ≠ 0 ∧ s.otp.life = 2 ∧ g = s.otp.ownGen
      ∧ (s.otp.slot s.sec.slot).gen = g ∧ g ≠ 7 ∧ s.otp.written (beNat (pt.take 32)) = none ∧ s.otp.firstEmpty = some i ∧ 0 < j
      ∧ j ≠ i ∧ (s.otp.slot j).hash ≠ 0 ∧ (s.otp.slot j).gen ≤ g) ∧
    (∃ (s : State) (pt : List Byte) (i : Nat), s.Calm ∧ s.Message 7 3 pt ∧ s.keysOk = true ∧ pt.length = 1 ∧ beNat pt = i ∧ 0 < i
      ∧ i < 12 ∧ s.sec.signer ≠ some i ∧ (List.range 12).any (fun j => 0 < j && j != i && s.otp.usable j && (s.otp.slot
      j).typ.testBit 0) = true ∧ (List.range 12).any (fun j => 0 < j && j != i && s.otp.usable j && (s.otp.slot j).typ.testBit 1) =
      true ∧ s.sec.slot ≠ i) ∧
    (∃ (s : State) (pt : List Byte) (i : Nat), s.Calm ∧ s.Message 7 3 pt ∧ s.keysOk = true ∧ pt.length = 1 ∧ beNat pt = i
      ∧ i < 12 ∧ (i = 0 ∨ s.sec.signer = some i) ∧ (s.sec.slot ≠ i ∨ (s.otp.slot i).retired = false)) ∧
    (∃ (s : State) (pt : List Byte) (i : Nat), s.Calm ∧ s.Message 7 3 pt ∧ s.keysOk = true ∧ pt.length = 1 ∧ beNat pt = i ∧ 0 < i
      ∧ i < 12 ∧ s.sec.signer ≠ some i ∧ (List.range 12).any (fun j => 0 < j && j != i && s.otp.usable j && (s.otp.slot
      j).typ.testBit 0) = true ∧ (List.range 12).any (fun j => 0 < j && j != i && s.otp.usable j && (s.otp.slot j).typ.testBit 1) =
      true ∧ s.sec.slot = i ∧ i < s.otp.slots.length ∧ s.flag F.FAULT_HOLD_FAULT_HOLD = false) ∧
    (∃ (s : State) (pt : List Byte) (iv : BitVec 96) (i : Nat) (x : List Byte × List Byte), s.Calm ∧ s.Message 7 4 pt
      ∧ s.keysOk = true ∧ pt.length = 33 ∧ beNat (pt.take 1) = i ∧ i < 8 ∧ (s.otp.iek i).used = false
      ∧ x = gcmSeal s.otp.kwrap (beBytes 12 iv.toNat) [] (pt.drop 1)) ∧
    (∃ (s : State) (pt : List Byte) (i : Nat), s.Calm ∧ s.Message 7 5 pt ∧ s.keysOk = true ∧ pt.length = 1 ∧ beNat pt = i ∧ i < 8
      ∧ i ∉ s.sec.ieksUsed) ∧
    (∃ (s : State) (pt : List Byte), s.Calm ∧ s.Message 7 6 pt ∧ s.keysOk = true ∧ pt = []) ∧
    (∃ (s : State) (pt : List Byte), s.Calm ∧ s.Message 7 7 pt ∧ s.keysOk = true ∧ pt = [0x44, 0x45, 0x43, 0x4F]) :=
  ⟨⟨at_SessionCommands_1, ([0,0,0,0]), by decide +kernel, message_of_seal _ _ _ _ _ rfl rfl (by decide +kernel)
    (by decide +kernel), by decide +kernel⟩,
    ⟨at_SessionCommands_2, ([0,0,0,0]), by decide +kernel, message_of_seal _ _ _ _ _ rfl rfl (by decide +kernel)
      (by decide +kernel), by decide +kernel⟩,
    ⟨at_SessionCommands_3, ([0,0,0,0]), by decide +kernel, message_of_seal _ _ _ _ _ rfl rfl (by decide +kernel)
      (by decide +kernel), by decide +kernel⟩,
    ⟨at_SessionCommands_4, (beBytes 4 3), (0 : Fin 8), 3, by decide +kernel, message_of_seal _ _ _ _ _ rfl rfl (by decide +kernel)
      (by decide +kernel), by decide +kernel⟩,
    ⟨at_SessionCommands_5, ([0,0,0,0]), by decide +kernel, message_of_seal _ _ _ _ _ rfl rfl (by decide +kernel)
      (by decide +kernel), by decide +kernel⟩,
    ⟨at_SessionCommands_6, ([0,0,0,0]), by decide +kernel, message_of_seal _ _ _ _ _ rfl rfl (by decide +kernel)
      (by decide +kernel), by decide +kernel⟩,
    ⟨at_SessionCommands_7, ([0,0,0,0]), by decide +kernel, message_of_seal _ _ _ _ _ rfl rfl (by decide +kernel)
      (by decide +kernel), by decide +kernel⟩,
    ⟨at_SessionCommands_8, ([0,0,0,0]), by decide +kernel, message_of_seal _ _ _ _ _ rfl rfl (by decide +kernel)
      (by decide +kernel), by decide +kernel⟩,
    ⟨at_SessionCommands_9, ([0,0,0,0]), by decide +kernel, message_of_seal _ _ _ _ _ rfl rfl (by decide +kernel)
      (by decide +kernel), by decide +kernel⟩,
    ⟨at_SessionCommands_10, ([0,0,0,0]), by decide +kernel, message_of_seal _ _ _ _ _ rfl rfl (by decide +kernel)
      (by decide +kernel), by decide +kernel⟩,
    ⟨at_SessionCommands_11, ([0,0,0,0]), (0 : Fin 32), by decide +kernel, message_of_seal _ _ _ _ _ rfl rfl (by decide +kernel)
      (by decide +kernel), by decide +kernel⟩,
    ⟨at_SessionCommands_12, by decide +kernel⟩,
    ⟨at_SessionCommands_13, (beBytes 32 777 ++ [2]), 2, 4, by decide +kernel, message_of_seal _ _ _ _ _ rfl rfl (by decide +kernel)
      (by decide +kernel), by decide +kernel⟩,
    ⟨at_SessionCommands_14, (beBytes 32 777 ++ [2]), by decide +kernel, message_of_seal _ _ _ _ _ rfl rfl (by decide +kernel)
      (by decide +kernel), by decide +kernel⟩,
    ⟨at_SessionCommands_15, (beBytes 32 777 ++ [2]), 1, 2, 0, by decide +kernel, message_of_seal _ _ _ _ _ rfl rfl
      (by decide +kernel) (by decide +kernel), by decide +kernel⟩,
    ⟨at_SessionCommands_16, (beBytes 32 777 ++ [2]), 4, 2, 2, 1, by decide +kernel, message_of_seal _ _ _ _ _ rfl rfl
      (by decide +kernel) (by decide +kernel), by decide +kernel⟩,
    ⟨at_SessionCommands_17, ([2]), 2, by decide +kernel, message_of_seal _ _ _ _ _ rfl rfl (by decide +kernel) (by decide +kernel),
      by decide +kernel⟩,
    ⟨at_SessionCommands_18, ([2]), 2, by decide +kernel, message_of_seal _ _ _ _ _ rfl rfl (by decide +kernel) (by decide +kernel),
      by decide +kernel⟩,
    ⟨at_SessionCommands_19, ([2]), 2, by decide +kernel, message_of_seal _ _ _ _ _ rfl rfl (by decide +kernel) (by decide +kernel),
      by decide +kernel⟩,
    ⟨at_SessionCommands_20, (beBytes 1 0 ++ beBytes 32 777), 12, 0, (gcmSeal (at_SessionCommands_20).otp.kwrap (beBytes 12 (12 :
      BitVec 96).toNat) [] ((beBytes 1 0 ++ beBytes 32 777).drop 1)), by decide +kernel, message_of_seal _ _ _ _ _ rfl rfl
      (by decide +kernel) (by decide +kernel), by decide +kernel, by decide +kernel, by decide +kernel, by decide +kernel,
      by decide +kernel, rfl⟩,
    ⟨at_SessionCommands_21, (beBytes 1 0), 0, by decide +kernel, message_of_seal _ _ _ _ _ rfl rfl (by decide +kernel)
      (by decide +kernel), by decide +kernel⟩,
    ⟨at_SessionCommands_22, ([]), by decide +kernel, message_of_seal _ _ _ _ _ rfl rfl (by decide +kernel) (by decide +kernel),
      by decide +kernel⟩,
    ⟨at_SessionCommands_23, ([0x44, 0x45, 0x43, 0x4F]), by decide +kernel, message_of_seal _ _ _ _ _ rfl rfl (by decide +kernel)
      (by decide +kernel), by decide +kernel⟩⟩

/-- R404: consent. -/
def at_ConsentsAndTestPort_1 : State :=
  let b : State := State.tuned;
  let p : Fin 2 := (0 : Fin 2); ({ b.sl.p2.mark F.PARSE_STATUS_DONE with sec := { st := 2, bus := 0, sid := 77, rights := 0x3F, ks := kKey, goAt := 5, openAt := 5, lifeMin := 60, cons := [1,2,3,4,5,6,7,8] } }).mark F.AL_CFG_PORT_EN p |>.mark F.TLM_SHAPE_CONS_ALLOW |>.mark F.SUPPLY_STATUS_AL_IO_GOOD |> (fun (b : State) => { b with cz1604 := false })
/-- R404: withdrawn. -/
def at_ConsentsAndTestPort_2 : State :=
  let b : State := State.tuned;
  let p : Fin 2 := (0 : Fin 2); ({ b.sl.p2.mark F.PARSE_STATUS_DONE with sec := { st := 2, bus := 0, sid := 77, rights := 0x3F, ks := kKey, goAt := 5, openAt := 5, lifeMin := 60, cons := [1,2,3,4,5,6,7,8] } }).mark F.AL_CFG_PORT_EN p |>.mark F.TLM_SHAPE_CONS_ALLOW |>.mark F.SUPPLY_STATUS_AL_IO_GOOD |> (fun (b : State) => { b with cz1604 := false })
/-- R404: no session, or not its ID. -/
def at_ConsentsAndTestPort_3 : State :=
  let b : State := State.second;
  let p : Fin 2 := (0 : Fin 2); ({ b.sl.p2.mark F.PARSE_STATUS_DONE with sec := { st := 2, bus := 0, sid := 77, rights := 0x3F, ks := kKey, goAt := 5, openAt := 5, lifeMin := 60, cons := [1,2,3,4,5,6,7,8] } }).mark F.AL_CFG_PORT_EN p |>.mark F.TLM_SHAPE_CONS_ALLOW |>.mark F.SUPPLY_STATUS_AL_IO_GOOD |> (fun (b : State) => { b with cz1604 := false })
/-- R404: a consent runs out. -/
def at_ConsentsAndTestPort_4 : State :=
  let b : State := State.second; { b.sl.p2.mark F.PARSE_STATUS_DONE with sec := { st := 2, bus := 0, sid := 77, rights := 0x3F, ks := kKey, goAt := 5, openAt := 5, lifeMin := 60, cons := [1,2,3,4,5,6,7,8] } }
/-- R424. -/
def at_ConsentsAndTestPort_5 : State :=
  let b : State := State.second; { b.sl.p2.mark F.PARSE_STATUS_DONE with sec := { st := 2, bus := 0, sid := 77, rights := 0x3F, ks := kKey, goAt := 5, openAt := 5, lifeMin := 60, cons := [1,2,3,4,5,6,7,8] } }
/-- R424. -/
def at_ConsentsAndTestPort_6 : State :=
  let b : State := State.second; { b.sl.p2.mark F.PARSE_STATUS_DONE with sec := { st := 2, bus := 0, sid := 77, rights := 0x3F, ks := kKey, goAt := 5, openAt := 5, lifeMin := 60, cons := [1,2,3,4,5,6,7,8] } }
/-- R424: only on an unlocked port. -/
def at_ConsentsAndTestPort_7 : State :=
  let b : State := State.second; { b.sl.p2.mark F.PARSE_STATUS_DONE with sec := { st := 2, bus := 0, sid := 77, rights := 0x3F, ks := kKey, goAt := 5, openAt := 5, lifeMin := 60, cons := [1,2,3,4,5,6,7,8] } } |> (fun (b : State) => { b with sec := { b.sec with tapOpen := 0 == 0 } })
/-- R424: only on an unlocked port. -/
def at_ConsentsAndTestPort_8 : State :=
  let b : State := State.second; { b.sl.p2.mark F.PARSE_STATUS_DONE with sec := { st := 2, bus := 0, sid := 77, rights := 0x3F, ks := kKey, goAt := 5, openAt := 5, lifeMin := 60, cons := [1,2,3,4,5,6,7,8] } } |> (fun (b : State) => { b with sec := { b.sec with tapOpen := 0 == 0 } })
/-- R424: a test instruction of the maker acts as BYPASS on a part that has left MANUFACTURED. -/
def at_ConsentsAndTestPort_9 : State :=
  let b : State := State.second; { b.sl.p2.mark F.PARSE_STATUS_DONE with sec := { st := 2, bus := 0, sid := 77, rights := 0x3F, ks := kKey, goAt := 5, openAt := 5, lifeMin := 60, cons := [1,2,3,4,5,6,7,8] } }
/-- R49. -/
def at_ConsentsAndTestPort_10 : State :=
  let b : State := State.second; { b.sl.p2.mark F.PARSE_STATUS_DONE with sec := { st := 2, bus := 0, sid := 77, rights := 0x3F, ks := kKey, goAt := 5, openAt := 5, lifeMin := 60, cons := [1,2,3,4,5,6,7,8] } } |>.clear F.SUPPLY_STATUS_VDDIO_GOOD
/-- States and operands that meet the conditions of `Obligations.ConsentsAndTestPort`, clause by clause. -/
theorem test_meets_ConsentsAndTestPort :
    (∃ (s : State) (p : Fin 2) (d : Word) (m : Nat) (z : Nat) (r : Fin 8), s.Calm
      ∧ s.pathUp (if p = 0 then .al0 else .al1) = true ∧ s.cz1604 = false ∧ s.sec.st = 2 ∧ s.flag F.TLM_SHAPE_CONS_ALLOW = true
      ∧ s.sec.sid < 2 ^ 16 ∧ m < 256 ∧ z < 256 ∧ d.toNat = s.sec.sid * 2 ^ 16 + m * 2 ^ 8 + z ∧ m ≠ 0 ∧ z ≠ 0 ∧ s.sec.consMax ≠ 0
      ∧ m.testBit r.val = true ∧ s.serves p r = true) ∧
    (∃ (s : State) (p : Fin 2) (d : Word) (m : Nat) (z : Nat) (r : Fin 8), s.Calm
      ∧ s.pathUp (if p = 0 then .al0 else .al1) = true ∧ s.cz1604 = false ∧ s.sec.st = 2 ∧ s.flag F.TLM_SHAPE_CONS_ALLOW = true
      ∧ s.sec.sid < 2 ^ 16 ∧ m < 256 ∧ z < 256 ∧ d.toNat = s.sec.sid * 2 ^ 16 + m * 2 ^ 8 + z ∧ m = 0 ∧ s.serves p r = true) ∧
    (∃ (s : State) (p : Fin 2) (d : Word), s.Calm ∧ s.pathUp (if p = 0 then .al0 else .al1) = true
      ∧ (s.sec.st ≠ 2 ∨ d.toNat / 2 ^ 16 ≠ s.sec.sid) ∧ d.toNat % 256 ≠ 0) ∧
    (∃ (s : State) (r : Fin 8) (q : Fin 8), s.Calm ∧ r.val < s.sec.cons.length ∧ q ≠ r ∧ s.sec.cons.getD r.val 0 ≤ s.now) ∧
    (∃ (s : State), s.Calm ∧ s.flag F.SUPPLY_STATUS_VDDIO_GOOD = true) ∧
    (∃ (s : State), s.Calm ∧ s.flag F.SUPPLY_STATUS_VDDIO_GOOD = true) ∧
    (∃ (s : State), s.Calm ∧ s.flag F.SUPPLY_STATUS_VDDIO_GOOD = true) ∧
    (∃ (s : State), s.Calm ∧ s.flag F.SUPPLY_STATUS_VDDIO_GOOD = true) ∧
    (∃ (s : State), s.Calm ∧ s.flag F.SUPPLY_STATUS_VDDIO_GOOD = true ∧ s.otp.life ≠ 0) ∧
    (∃ (s : State), s.Calm ∧ s.flag F.SUPPLY_STATUS_VDDIO_GOOD = false) :=
  ⟨⟨at_ConsentsAndTestPort_1, (0 : Fin 2), (BitVec.ofNat 32 (5046272 + 0xBF * 256 + 1)), 0xBF, 1, (((List.finRange 8).find? (fun r
    => (at_ConsentsAndTestPort_1).serves (0 : Fin 2) r && r.val != 6)).getD 0), by decide +kernel⟩,
    ⟨at_ConsentsAndTestPort_2, (0 : Fin 2), (BitVec.ofNat 32 5046273), 0, 1, (((List.finRange 8).find? (fun r =>
      (at_ConsentsAndTestPort_2).serves (0 : Fin 2) r && r.val != 6)).getD 0), by decide +kernel⟩,
    ⟨at_ConsentsAndTestPort_3, (0 : Fin 2), (BitVec.ofNat 32 (5111808 + 0xBF * 256 + 1)), by decide +kernel⟩,
    ⟨at_ConsentsAndTestPort_4, (0 : Fin 8), (3 : Fin 8), by decide +kernel⟩,
    ⟨at_ConsentsAndTestPort_5, by decide +kernel⟩,
    ⟨at_ConsentsAndTestPort_6, by decide +kernel⟩,
    ⟨at_ConsentsAndTestPort_7, by decide +kernel⟩,
    ⟨at_ConsentsAndTestPort_8, by decide +kernel⟩,
    ⟨at_ConsentsAndTestPort_9, by decide +kernel⟩,
    ⟨at_ConsentsAndTestPort_10, by decide +kernel⟩⟩

/-- R468: the link is not in use. -/
def at_LinkFrames_1 : State :=
  State.second.sl
/-- R469: a failed CRC is counted. -/
def at_LinkFrames_2 : State :=
  let b : State := State.second;
  let r : Fin 8 := (0 : Fin 8);
  let b := { b.sl.up.md .regulate with cz1604 := false, cj := { b.cj with taken := false, evState := none } }.mark F.PARSE_STATUS_DONE;
  let b := allRails.foldl (fun (b : State) q => b.cf q (fun c => { c with spans := q == r, present := true, critical := false })) b;
  let b := ((((b.set F.CJ_CFG_CJ_EN 0 1).set F.CJ_STATUS_DUP_CTL 0 0).set F.CJ_CFG_LEADER 0 0).set F.CJ_CFG_CTL_NUM 0 1).set F.CJ_SPAN_SYS_MIN_LIVE 0 0; b
/-- R469: a code error is counted. -/
def at_LinkFrames_3 : State :=
  let b : State := State.second;
  let r : Fin 8 := (0 : Fin 8);
  let b := { b.sl.up.md .regulate with cz1604 := false, cj := { b.cj with taken := false, evState := none } }.mark F.PARSE_STATUS_DONE;
  let b := allRails.foldl (fun (b : State) q => b.cf q (fun c => { c with spans := q == r, present := true, critical := false })) b;
  let b := ((((b.set F.CJ_CFG_CJ_EN 0 1).set F.CJ_STATUS_DUP_CTL 0 0).set F.CJ_CFG_LEADER 0 0).set F.CJ_CFG_CTL_NUM 0 1).set F.CJ_SPAN_SYS_MIN_LIVE 0 0; b
/-- R470: the leader's frame comes round, its own slot is filled again; RAILINFO is not due. -/
def at_LinkFrames_4 : State :=
  let b : State := State.second;
  let r : Fin 8 := (0 : Fin 8);
  let b := { b.sl.up.md .regulate with cz1604 := false, cj := { b.cj with taken := false, evState := none } }.mark F.PARSE_STATUS_DONE;
  let b := allRails.foldl (fun (b : State) q => b.cf q (fun c => { c with spans := q == r, present := true, critical := false })) b;
  let b := ((((b.set F.CJ_CFG_CJ_EN 0 1).set F.CJ_STATUS_DUP_CTL 0 0).set F.CJ_CFG_LEADER 0 1).set F.CJ_CFG_CTL_NUM 0 0).set F.CJ_SPAN_SYS_MIN_LIVE 0 0;
  let b := { b with cj := { b.cj with txq := [], sent := none, infoAt := 1000000000 } }; { b with cj := { b.cj with infoLast := b.railInfo r } }
/-- R471: a RAILINFO that changed. -/
def at_LinkFrames_5 : State :=
  let b : State := State.second;
  let r : Fin 8 := (0 : Fin 8);
  let b := { b.sl.up.md .regulate with cz1604 := false, cj := { b.cj with taken := false, evState := none } }.mark F.PARSE_STATUS_DONE;
  let b := allRails.foldl (fun (b : State) q => b.cf q (fun c => { c with spans := q == r, present := true, critical := false })) b;
  let b := ((((b.set F.CJ_CFG_CJ_EN 0 1).set F.CJ_STATUS_DUP_CTL 0 0).set F.CJ_CFG_LEADER 0 1).set F.CJ_CFG_CTL_NUM 0 0).set F.CJ_SPAN_SYS_MIN_LIVE 0 0;
  let b := { b with cj := { b.cj with txq := [], sent := none } }; { b with cj := { b.cj with infoLast := b.railInfo r + 1 } }
/-- R471: a frame that waits goes first. -/
def at_LinkFrames_6 : State :=
  let b : State := State.second;
  let r : Fin 8 := (0 : Fin 8);
  let b := { b.sl.up.md .regulate with cz1604 := false, cj := { b.cj with taken := false, evState := none } }.mark F.PARSE_STATUS_DONE;
  let b := allRails.foldl (fun (b : State) q => b.cf q (fun c => { c with spans := q == r, present := true, critical := false })) b;
  let b := ((((b.set F.CJ_CFG_CJ_EN 0 1).set F.CJ_STATUS_DUP_CTL 0 0).set F.CJ_CFG_LEADER 0 1).set F.CJ_CFG_CTL_NUM 0 0).set F.CJ_SPAN_SYS_MIN_LIVE 0 0; { b with cj := { b.cj with txq := [(4, 6), (6, 7)] } }
/-- R470: a frame of the own number that was not sent: DUP_CTL. -/
def at_LinkFrames_7 : State :=
  let b : State := State.second;
  let r : Fin 8 := (0 : Fin 8);
  let b := { b.sl.up.md .regulate with cz1604 := false, cj := { b.cj with taken := false, evState := none } }.mark F.PARSE_STATUS_DONE;
  let b := allRails.foldl (fun (b : State) q => b.cf q (fun c => { c with spans := q == r, present := true, critical := false })) b;
  let b := ((((b.set F.CJ_CFG_CJ_EN 0 1).set F.CJ_STATUS_DUP_CTL 0 0).set F.CJ_CFG_LEADER 0 1).set F.CJ_CFG_CTL_NUM 0 0).set F.CJ_SPAN_SYS_MIN_LIVE 0 0; { b with cj := { b.cj with sent := some 1 } }
/-- R470, R474: the leader fills a target slot. -/
def at_LinkFrames_8 : State :=
  let b : State := State.second;
  let r : Fin 8 := (0 : Fin 8);
  let b := { b.sl.up.md .regulate with cz1604 := false, cj := { b.cj with taken := false, evState := none } }.mark F.PARSE_STATUS_DONE;
  let b := allRails.foldl (fun (b : State) q => b.cf q (fun c => { c with spans := q == r, present := true, critical := false })) b;
  let b := ((((b.set F.CJ_CFG_CJ_EN 0 1).set F.CJ_STATUS_DUP_CTL 0 0).set F.CJ_CFG_LEADER 0 1).set F.CJ_CFG_CTL_NUM 0 0).set F.CJ_SPAN_SYS_MIN_LIVE 0 0; b
/-- R472: a member without WELCOME asks again. -/
def at_LinkFrames_9 : State :=
  let b : State := State.second;
  let r : Fin 8 := (0 : Fin 8);
  let b := { b.sl.up.md .regulate with cz1604 := false, cj := { b.cj with taken := false, evState := none } }.mark F.PARSE_STATUS_DONE;
  let b := allRails.foldl (fun (b : State) q => b.cf q (fun c => { c with spans := q == r, present := true, critical := false })) b;
  let b := ((((b.set F.CJ_CFG_CJ_EN 0 1).set F.CJ_STATUS_DUP_CTL 0 0).set F.CJ_CFG_LEADER 0 0).set F.CJ_CFG_CTL_NUM 0 1).set F.CJ_SPAN_SYS_MIN_LIVE 0 0; b.clear F.CJ_STATUS_JOINED
/-- R472: joined, it does not. -/
def at_LinkFrames_10 : State :=
  let b : State := State.second;
  let r : Fin 8 := (0 : Fin 8);
  let b := { b.sl.up.md .regulate with cz1604 := false, cj := { b.cj with taken := false, evState := none } }.mark F.PARSE_STATUS_DONE;
  let b := allRails.foldl (fun (b : State) q => b.cf q (fun c => { c with spans := q == r, present := true, critical := false })) b;
  let b := ((((b.set F.CJ_CFG_CJ_EN 0 1).set F.CJ_STATUS_DUP_CTL 0 0).set F.CJ_CFG_LEADER 0 0).set F.CJ_CFG_CTL_NUM 0 1).set F.CJ_SPAN_SYS_MIN_LIVE 0 0; b.mark F.CJ_STATUS_JOINED
/-- R472: no WELCOME within 100 ms, recorded once. -/
def at_LinkFrames_11 : State :=
  let b : State := State.second;
  let r : Fin 8 := (0 : Fin 8);
  let b := { b.sl.up.md .regulate with cz1604 := false, cj := { b.cj with taken := false, evState := none } }.mark F.PARSE_STATUS_DONE;
  let b := allRails.foldl (fun (b : State) q => b.cf q (fun c => { c with spans := q == r, present := true, critical := false })) b;
  let b := ((((b.set F.CJ_CFG_CJ_EN 0 1).set F.CJ_STATUS_DUP_CTL 0 0).set F.CJ_CFG_LEADER 0 0).set F.CJ_CFG_CTL_NUM 0 1).set F.CJ_SPAN_SYS_MIN_LIVE 0 0; { b with now := 10001000000000, cj := { b.cj with refused := false, told := false } }.clear F.CJ_STATUS_JOINED
/-- R472: the leader accepts. -/
def at_LinkFrames_12 : State :=
  let b : State := State.second;
  let r : Fin 8 := (0 : Fin 8);
  let b := { b.sl.up.md .regulate with cz1604 := false, cj := { b.cj with taken := false, evState := none } }.mark F.PARSE_STATUS_DONE;
  let b := allRails.foldl (fun (b : State) q => b.cf q (fun c => { c with spans := q == r, present := true, critical := false })) b;
  let b := ((((b.set F.CJ_CFG_CJ_EN 0 1).set F.CJ_STATUS_DUP_CTL 0 0).set F.CJ_CFG_LEADER 0 1).set F.CJ_CFG_CTL_NUM 0 0).set F.CJ_SPAN_SYS_MIN_LIVE 0 0; (b.set F.CJ_SPAN_SPAN_RAIL 0 255).set F.CJ_CFG_SYSTEM_ID 0 77 |> (fun (b : State) => b.putPeer 1 {})
/-- R472: the leader refuses with a REASON: the part, the system, the rail, the member. -/
def at_LinkFrames_13 : State :=
  let b : State := State.second;
  let r : Fin 8 := (0 : Fin 8);
  let b := { b.sl.up.md .regulate with cz1604 := false, cj := { b.cj with taken := false, evState := none } }.mark F.PARSE_STATUS_DONE;
  let b := allRails.foldl (fun (b : State) q => b.cf q (fun c => { c with spans := q == r, present := true, critical := false })) b;
  let b := ((((b.set F.CJ_CFG_CJ_EN 0 1).set F.CJ_STATUS_DUP_CTL 0 0).set F.CJ_CFG_LEADER 0 1).set F.CJ_CFG_CTL_NUM 0 0).set F.CJ_SPAN_SYS_MIN_LIVE 0 0; (b.set F.CJ_SPAN_SPAN_RAIL 0 255).set F.CJ_CFG_SYSTEM_ID 0 78
/-- R472: WELCOME. -/
def at_LinkFrames_14 : State :=
  let b : State := State.second;
  let r : Fin 8 := (0 : Fin 8);
  let b := { b.sl.up.md .regulate with cz1604 := false, cj := { b.cj with taken := false, evState := none } }.mark F.PARSE_STATUS_DONE;
  let b := allRails.foldl (fun (b : State) q => b.cf q (fun c => { c with spans := q == r, present := true, critical := false })) b;
  let b := ((((b.set F.CJ_CFG_CJ_EN 0 1).set F.CJ_STATUS_DUP_CTL 0 0).set F.CJ_CFG_LEADER 0 0).set F.CJ_CFG_CTL_NUM 0 1).set F.CJ_SPAN_SYS_MIN_LIVE 0 0; b
/-- R472: refused. -/
def at_LinkFrames_15 : State :=
  let b : State := State.second;
  let r : Fin 8 := (0 : Fin 8);
  let b := { b.sl.up.md .regulate with cz1604 := false, cj := { b.cj with taken := false, evState := none } }.mark F.PARSE_STATUS_DONE;
  let b := allRails.foldl (fun (b : State) q => b.cf q (fun c => { c with spans := q == r, present := true, critical := false })) b;
  let b := ((((b.set F.CJ_CFG_CJ_EN 0 1).set F.CJ_STATUS_DUP_CTL 0 0).set F.CJ_CFG_LEADER 0 0).set F.CJ_CFG_CTL_NUM 0 1).set F.CJ_SPAN_SYS_MIN_LIVE 0 0; b.rst r .armed
/-- R474: MSTAT of a joined member. -/
def at_LinkFrames_16 : State :=
  let b : State := State.second;
  let r : Fin 8 := (0 : Fin 8);
  let b := { b.sl.up.md .regulate with cz1604 := false, cj := { b.cj with taken := false, evState := none } }.mark F.PARSE_STATUS_DONE;
  let b := allRails.foldl (fun (b : State) q => b.cf q (fun c => { c with spans := q == r, present := true, critical := false })) b;
  let b := ((((b.set F.CJ_CFG_CJ_EN 0 1).set F.CJ_STATUS_DUP_CTL 0 0).set F.CJ_CFG_LEADER 0 1).set F.CJ_CFG_CTL_NUM 0 0).set F.CJ_SPAN_SYS_MIN_LIVE 0 0; b.putPeer 1 { joined := true, lost := 0 == 0 }
/-- R480: a lost member is heard again. -/
def at_LinkFrames_17 : State :=
  let b : State := State.second;
  let r : Fin 8 := (0 : Fin 8);
  let b := { b.sl.up.md .regulate with cz1604 := false, cj := { b.cj with taken := false, evState := none } }.mark F.PARSE_STATUS_DONE;
  let b := allRails.foldl (fun (b : State) q => b.cf q (fun c => { c with spans := q == r, present := true, critical := false })) b;
  let b := ((((b.set F.CJ_CFG_CJ_EN 0 1).set F.CJ_STATUS_DUP_CTL 0 0).set F.CJ_CFG_LEADER 0 1).set F.CJ_CFG_CTL_NUM 0 0).set F.CJ_SPAN_SYS_MIN_LIVE 0 0; (b.putPeer 1 { joined := true, lost := true }).mark F.CJ_STATUS_PEER_LOST
/-- R480: MEMBER_LOST. -/
def at_LinkFrames_18 : State :=
  let b : State := State.second;
  let r : Fin 8 := (0 : Fin 8);
  let b := { b.sl.up.md .regulate with cz1604 := false, cj := { b.cj with taken := false, evState := none } }.mark F.PARSE_STATUS_DONE;
  let b := allRails.foldl (fun (b : State) q => b.cf q (fun c => { c with spans := q == r, present := true, critical := false })) b;
  let b := ((((b.set F.CJ_CFG_CJ_EN 0 1).set F.CJ_STATUS_DUP_CTL 0 0).set F.CJ_CFG_LEADER 0 1).set F.CJ_CFG_CTL_NUM 0 0).set F.CJ_SPAN_SYS_MIN_LIVE 0 0; b.putPeer 0 { joined := true, seen := some 77 }
/-- R480: RING_DOWN. -/
def at_LinkFrames_19 : State :=
  let b : State := State.second;
  let r : Fin 8 := (0 : Fin 8);
  let b := { b.sl.up.md .regulate with cz1604 := false, cj := { b.cj with taken := false, evState := none } }.mark F.PARSE_STATUS_DONE;
  let b := allRails.foldl (fun (b : State) q => b.cf q (fun c => { c with spans := q == r, present := true, critical := false })) b;
  let b := ((((b.set F.CJ_CFG_CJ_EN 0 1).set F.CJ_STATUS_DUP_CTL 0 0).set F.CJ_CFG_LEADER 0 1).set F.CJ_CFG_CTL_NUM 0 0).set F.CJ_SPAN_SYS_MIN_LIVE 0 0; b.mark F.CJ_STATUS_RING_OK
/-- States and operands that meet the conditions of `Obligations.LinkFrames`, clause by clause. -/
theorem test_meets_LinkFrames :
    (∃ (s : State), s.Still) ∧
    (∃ (s : State) (x : BitVec 2) (q : BitVec 2) (p : BitVec 48) (c : BitVec 16), s.Calm ∧ s.cjUp = true ∧ s.pow.stopSet = 0
      ∧ s.get F.CJ_SPAN_SYS_MIN_LIVE = 0 ∧ cjCrc 7 x.toNat q.toNat p.toNat ≠ c.toNat) ∧
    (∃ (s : State), s.Calm ∧ s.cjUp = true ∧ s.pow.stopSet = 0 ∧ s.get F.CJ_SPAN_SYS_MIN_LIVE = 0) ∧
    (∃ (t : Nat) (s : State) (r : Fin 8) (typ : BitVec 4) (src : BitVec 2) (q : BitVec 2) (p : BitVec 48) (c : BitVec 16), s.Calm
      ∧ s.cjUp = true ∧ s.pow.stopSet = 0 ∧ s.cjIs true = true ∧ s.get F.CJ_SPAN_SYS_MIN_LIVE = 0 ∧ s.cj.txq = []
      ∧ cjCrc typ.toNat src.toNat q.toNat p.toNat = c.toNat ∧ src.toNat = s.ctl ∧ (s.cj.sent = none ∨ s.cj.sent = some q.toNat)
      ∧ s.spanRail = some r ∧ s.railInfo r = s.cj.infoLast ∧ (s.at t).now < s.cj.infoAt + 640) ∧
    (∃ (s : State) (r : Fin 8) (typ : BitVec 4) (src : BitVec 2) (q : BitVec 2) (p : BitVec 48) (c : BitVec 16), s.Calm
      ∧ s.cjUp = true ∧ s.pow.stopSet = 0 ∧ s.cjIs true = true ∧ s.get F.CJ_SPAN_SYS_MIN_LIVE = 0 ∧ s.cj.txq = []
      ∧ cjCrc typ.toNat src.toNat q.toNat p.toNat = c.toNat ∧ src.toNat = s.ctl ∧ (s.cj.sent = none ∨ s.cj.sent = some q.toNat)
      ∧ s.spanRail = some r ∧ s.railInfo r ≠ s.cj.infoLast) ∧
    (∃ (s : State) (e : Nat × Nat) (l : List (Nat × Nat)) (typ : BitVec 4) (src : BitVec 2) (q : BitVec 2) (p : BitVec 48) (c :
      BitVec 16), s.Calm ∧ s.cjUp = true ∧ s.pow.stopSet = 0 ∧ s.cjIs true = true ∧ s.get F.CJ_SPAN_SYS_MIN_LIVE = 0
      ∧ s.cj.txq = e :: l ∧ cjCrc typ.toNat src.toNat q.toNat p.toNat = c.toNat ∧ src.toNat ≠ s.ctl) ∧
    (∃ (s : State) (typ : BitVec 4) (src : BitVec 2) (q : BitVec 2) (p : BitVec 48) (c : BitVec 16) (w : Nat), s.Calm
      ∧ s.cjUp = true ∧ s.pow.stopSet = 0 ∧ s.get F.CJ_SPAN_SYS_MIN_LIVE = 0 ∧ s.flag F.CJ_STATUS_DUP_CTL = false
      ∧ cjCrc typ.toNat src.toNat q.toNat p.toNat = c.toNat ∧ src.toNat = s.ctl ∧ s.cj.sent = some w ∧ w ≠ q.toNat) ∧
    (∃ (s : State) (r : Fin 8), s.Calm ∧ s.cjUp = true ∧ s.pow.stopSet = 0 ∧ s.cjIs true = true
      ∧ s.get F.CJ_SPAN_SYS_MIN_LIVE = 0 ∧ s.spanRail = some r) ∧
    (∃ (s : State) (part : Nat), s.Calm ∧ s.cjUp = true ∧ s.pow.stopSet = 0 ∧ s.cjIs false = true
      ∧ s.flag F.CJ_STATUS_JOINED = false ∧ part = (if s.cz1604 then 0x1604 else 0x3208)) ∧
    (∃ (s : State), s.Calm ∧ s.cjUp = true ∧ s.pow.stopSet = 0 ∧ s.cjIs false = true ∧ s.flag F.CJ_STATUS_JOINED = true) ∧
    (∃ (s : State), s.Calm ∧ s.cjUp = true ∧ s.pow.stopSet = 0 ∧ s.cjIs false = true ∧ s.flag F.CJ_STATUS_JOINED = false
      ∧ s.cj.refused = false ∧ s.cj.told = false ∧ s.cj.parseEnd + 100000000 ≤ s.now) ∧
    (∃ (s : State) (x : BitVec 2) (q : BitVec 2) (p : BitVec 48) (c : BitVec 16), s.Calm ∧ s.cjUp = true ∧ s.pow.stopSet = 0
      ∧ s.cjIs true = true ∧ s.get F.CJ_SPAN_SYS_MIN_LIVE = 0 ∧ cjCrc 5 x.toNat q.toNat p.toNat = c.toNat
      ∧ s.joinReason x.toNat p.toNat = 0 ∧ s.cj.peers.length = 4 ∧ (s.peer x.toNat).lost = false) ∧
    (∃ (s : State) (x : BitVec 2) (q : BitVec 2) (p : BitVec 48) (c : BitVec 16) (y : Nat), s.Calm ∧ s.cjUp = true
      ∧ s.pow.stopSet = 0 ∧ s.cjIs true = true ∧ s.get F.CJ_SPAN_SYS_MIN_LIVE = 0 ∧ cjCrc 5 x.toNat q.toNat p.toNat = c.toNat
      ∧ s.joinReason x.toNat p.toNat = y ∧ y ≠ 0) ∧
    (∃ (s : State) (q : BitVec 2) (p : BitVec 48) (c : BitVec 16), s.Calm ∧ s.cjUp = true ∧ s.pow.stopSet = 0
      ∧ s.cjIs false = true ∧ cjCrc 6 0 q.toNat p.toNat = c.toNat ∧ p.toNat / 2 ^ 46 = s.ctl ∧ p.toNat / 2 ^ 45 % 2 = 1) ∧
    (∃ (s : State) (r : Fin 8) (q : BitVec 2) (p : BitVec 48) (c : BitVec 16), s.Calm ∧ s.cjUp = true ∧ s.pow.stopSet = 0
      ∧ s.cjIs false = true ∧ cjCrc 6 0 q.toNat p.toNat = c.toNat ∧ p.toNat / 2 ^ 46 = s.ctl ∧ p.toNat / 2 ^ 45 % 2 = 0
      ∧ s.spanRail = some r) ∧
    (∃ (s : State) (x : BitVec 2) (q : BitVec 2) (p : BitVec 48) (c : BitVec 16), s.Calm ∧ s.cjUp = true ∧ s.pow.stopSet = 0
      ∧ s.cjIs true = true ∧ s.get F.CJ_SPAN_SYS_MIN_LIVE = 0 ∧ cjCrc 3 x.toNat q.toNat p.toNat = c.toNat
      ∧ (s.peer x.toNat).joined = true ∧ s.cj.peers.length = 4) ∧
    (∃ (s : State) (x : BitVec 2) (q : BitVec 2) (p : BitVec 48) (c : BitVec 16), s.Calm ∧ s.cjUp = true ∧ s.pow.stopSet = 0
      ∧ s.cjIs true = true ∧ s.get F.CJ_SPAN_SYS_MIN_LIVE = 0 ∧ cjCrc 7 x.toNat q.toNat p.toNat = c.toNat
      ∧ (s.peer x.toNat).joined = true ∧ (s.peer x.toNat).lost = true ∧ s.cj.peers.length = 4) ∧
    (∃ (s : State) (x : Fin 4) (r : Fin 8) (z : Nat), s.Calm ∧ s.cjUp = true ∧ s.pow.stopSet = 0 ∧ s.cjIs true = true
      ∧ s.get F.CJ_SPAN_SYS_MIN_LIVE = 0 ∧ (s.peer x.val).joined = true ∧ (s.peer x.val).lost = false ∧ s.cj.peers.length = 4
      ∧ s.spanRail = some r ∧ (s.peer x.val).seen = some z ∧ z + 5000 ≤ s.now) ∧
    (∃ (s : State), s.Calm ∧ s.cjUp = true ∧ s.pow.stopSet = 0 ∧ s.cjIs true = true ∧ s.get F.CJ_SPAN_SYS_MIN_LIVE = 0
      ∧ s.flag F.CJ_STATUS_RING_OK = true ∧ s.cj.ringAt + 1000 ≤ s.now) :=
  ⟨⟨at_LinkFrames_1, by decide +kernel⟩,
    ⟨at_LinkFrames_2, 0, (BitVec.ofNat 2 0), (BitVec.ofNat 48 0), (BitVec.ofNat 16 (cjCrc 7 0 (BitVec.ofNat 2 0).toNat
      (BitVec.ofNat 48 0).toNat)+ 1), by decide +kernel⟩,
    ⟨at_LinkFrames_3, by decide +kernel⟩,
    ⟨1000000000, at_LinkFrames_4, (0 : Fin 8), 0, 0, (BitVec.ofNat 2 0), (BitVec.ofNat 48 0), (BitVec.ofNat 16 (cjCrc 0 0
      (BitVec.ofNat 2 0).toNat (BitVec.ofNat 48 0).toNat)), by decide +kernel⟩,
    ⟨at_LinkFrames_5, (0 : Fin 8), 0, 0, (BitVec.ofNat 2 0), (BitVec.ofNat 48 0), (BitVec.ofNat 16 (cjCrc 0 0 (BitVec.ofNat 2
      0).toNat (BitVec.ofNat 48 0).toNat)), by decide +kernel⟩,
    ⟨at_LinkFrames_6, ((4, 6)), ([(6, 7)]), 0, 2, (BitVec.ofNat 2 0), (BitVec.ofNat 48 0), (BitVec.ofNat 16 (cjCrc 0 2
      (BitVec.ofNat 2 0).toNat (BitVec.ofNat 48 0).toNat)), by decide +kernel⟩,
    ⟨at_LinkFrames_7, 0, 0, (BitVec.ofNat 2 0), (BitVec.ofNat 48 0), (BitVec.ofNat 16 (cjCrc 0 0 (BitVec.ofNat 2 0).toNat
      (BitVec.ofNat 48 0).toNat)), 1, by decide +kernel⟩,
    ⟨at_LinkFrames_8, (0 : Fin 8), by decide +kernel⟩,
    ⟨at_LinkFrames_9, (if (at_LinkFrames_9).cz1604 then 0x1604 else 0x3208), by decide +kernel⟩,
    ⟨at_LinkFrames_10, by decide +kernel⟩,
    ⟨at_LinkFrames_11, by decide +kernel⟩,
    ⟨at_LinkFrames_12, 1, (BitVec.ofNat 2 0), (BitVec.ofNat 48 (0x3208 * 2 ^ 32 + 77 * 2 ^ 8)), (BitVec.ofNat 16 (cjCrc 5 1
      (BitVec.ofNat 2 0).toNat (BitVec.ofNat 48 (0x3208 * 2 ^ 32 + 77 * 2 ^ 8)).toNat)), by decide +kernel⟩,
    ⟨at_LinkFrames_13, 1, (BitVec.ofNat 2 0), (BitVec.ofNat 48 (0x3208 * 2 ^ 32 + 77 * 2 ^ 8)), (BitVec.ofNat 16 (cjCrc 5 1
      (BitVec.ofNat 2 0).toNat (BitVec.ofNat 48 (0x3208 * 2 ^ 32 + 77 * 2 ^ 8)).toNat)), ((at_LinkFrames_13).joinReason 1 (0x3208 *
      2 ^ 32 + 77 * 2 ^ 8)), by decide +kernel⟩,
    ⟨at_LinkFrames_14, (BitVec.ofNat 2 0), (BitVec.ofNat 48 (2 ^ 46 + 2 ^ 45)), (BitVec.ofNat 16 (cjCrc 6 0 (BitVec.ofNat 2
      0).toNat (BitVec.ofNat 48 (2 ^ 46 + 2 ^ 45)).toNat)), by decide +kernel⟩,
    ⟨at_LinkFrames_15, (0 : Fin 8), (BitVec.ofNat 2 0), (BitVec.ofNat 48 (2 ^ 46 + 1 * 2 ^ 41)), (BitVec.ofNat 16 (cjCrc 6 0
      (BitVec.ofNat 2 0).toNat (BitVec.ofNat 48 (2 ^ 46 + 1 * 2 ^ 41)).toNat)), by decide +kernel⟩,
    ⟨at_LinkFrames_16, 1, (BitVec.ofNat 2 0), (BitVec.ofNat 48 (1 * 2 ^ 38 + 9 * 2 ^ 32 + 400 * 2 ^ 16 + 0)), (BitVec.ofNat 16
      (cjCrc 3 1 (BitVec.ofNat 2 0).toNat (BitVec.ofNat 48 (1 * 2 ^ 38 + 9 * 2 ^ 32 + 400 * 2 ^ 16 + 0)).toNat)),
      by decide +kernel⟩,
    ⟨at_LinkFrames_17, 1, (BitVec.ofNat 2 0), (BitVec.ofNat 48 0), (BitVec.ofNat 16 (cjCrc 7 1 (BitVec.ofNat 2 0).toNat
      (BitVec.ofNat 48 0).toNat)), by decide +kernel⟩,
    ⟨at_LinkFrames_18, (Fin.ofNat 4 0), (0 : Fin 8), 77, by decide +kernel⟩,
    ⟨at_LinkFrames_19, by decide +kernel⟩⟩

/-- R475: TARGET. -/
def at_SpanningRail_1 : State :=
  let b : State := State.second;
  let r : Fin 8 := (0 : Fin 8);
  let b := { b.sl.up.md .regulate with cz1604 := false, cj := { b.cj with taken := false, evState := none } }.mark F.PARSE_STATUS_DONE;
  let b := allRails.foldl (fun (b : State) q => b.cf q (fun c => { c with spans := q == r, present := true, critical := false })) b;
  let b := ((((b.set F.CJ_CFG_CJ_EN 0 1).set F.CJ_STATUS_DUP_CTL 0 0).set F.CJ_CFG_LEADER 0 0).set F.CJ_CFG_CTL_NUM 0 1).set F.CJ_SPAN_SYS_MIN_LIVE 0 0; b.clear F.CJ_STATUS_ISLAND |>.set F.TN_CTRL_TN_EN 0 0
/-- R479: the fourth near target in a row ends the island. -/
def at_SpanningRail_2 : State :=
  let b : State := State.second;
  let r : Fin 8 := (0 : Fin 8);
  let b := { b.sl.up.md .regulate with cz1604 := false, cj := { b.cj with taken := false, evState := none } }.mark F.PARSE_STATUS_DONE;
  let b := allRails.foldl (fun (b : State) q => b.cf q (fun c => { c with spans := q == r, present := true, critical := false })) b;
  let b := ((((b.set F.CJ_CFG_CJ_EN 0 1).set F.CJ_STATUS_DUP_CTL 0 0).set F.CJ_CFG_LEADER 0 0).set F.CJ_CFG_CTL_NUM 0 1).set F.CJ_SPAN_SYS_MIN_LIVE 0 0;
  let b := b.mark F.CJ_STATUS_ISLAND; { b with cj := { b.cj with goodRun := 3 } }.modFr r (fun f => { f with ls := .none }) |>.modEng r (fun g => { g with uDem := 500 })
/-- R479: a target that is not near starts the count again. -/
def at_SpanningRail_3 : State :=
  let b : State := State.second;
  let r : Fin 8 := (0 : Fin 8);
  let b := { b.sl.up.md .regulate with cz1604 := false, cj := { b.cj with taken := false, evState := none } }.mark F.PARSE_STATUS_DONE;
  let b := allRails.foldl (fun (b : State) q => b.cf q (fun c => { c with spans := q == r, present := true, critical := false })) b;
  let b := ((((b.set F.CJ_CFG_CJ_EN 0 1).set F.CJ_STATUS_DUP_CTL 0 0).set F.CJ_CFG_LEADER 0 0).set F.CJ_CFG_CTL_NUM 0 1).set F.CJ_SPAN_SYS_MIN_LIVE 0 0; (b.mark F.CJ_STATUS_ISLAND).modEng r (fun g => { g with uDem := 500 })
/-- R475, R480: the figures of RAILINFO. -/
def at_SpanningRail_4 : State :=
  let b : State := State.second;
  let r : Fin 8 := (0 : Fin 8);
  let b := { b.sl.up.md .regulate with cz1604 := false, cj := { b.cj with taken := false, evState := none } }.mark F.PARSE_STATUS_DONE;
  let b := allRails.foldl (fun (b : State) q => b.cf q (fun c => { c with spans := q == r, present := true, critical := false })) b;
  let b := ((((b.set F.CJ_CFG_CJ_EN 0 1).set F.CJ_STATUS_DUP_CTL 0 0).set F.CJ_CFG_LEADER 0 0).set F.CJ_CFG_CTL_NUM 0 1).set F.CJ_SPAN_SYS_MIN_LIVE 0 0; b
/-- R476: a joined member follows the leader into RAMPDOWN. -/
def at_SpanningRail_5 : State :=
  let b : State := State.second;
  let r : Fin 8 := (0 : Fin 8);
  let b := { b.sl.up.md .regulate with cz1604 := false, cj := { b.cj with taken := false, evState := none } }.mark F.PARSE_STATUS_DONE;
  let b := allRails.foldl (fun (b : State) q => b.cf q (fun c => { c with spans := q == r, present := true, critical := false })) b;
  let b := ((((b.set F.CJ_CFG_CJ_EN 0 1).set F.CJ_STATUS_DUP_CTL 0 0).set F.CJ_CFG_LEADER 0 0).set F.CJ_CFG_CTL_NUM 0 1).set F.CJ_SPAN_SYS_MIN_LIVE 0 0; ((b.mark F.CJ_STATUS_JOINED).clear F.CJ_STATUS_ISLAND).rst r .reg
/-- R476: a part that is ready starts with the leader. -/
def at_SpanningRail_6 : State :=
  let b : State := State.second;
  let r : Fin 8 := (0 : Fin 8);
  let b := { b.sl.up.md .regulate with cz1604 := false, cj := { b.cj with taken := false, evState := none } }.mark F.PARSE_STATUS_DONE;
  let b := allRails.foldl (fun (b : State) q => b.cf q (fun c => { c with spans := q == r, present := true, critical := false })) b;
  let b := ((((b.set F.CJ_CFG_CJ_EN 0 1).set F.CJ_STATUS_DUP_CTL 0 0).set F.CJ_CFG_LEADER 0 0).set F.CJ_CFG_CTL_NUM 0 1).set F.CJ_SPAN_SYS_MIN_LIVE 0 0;
  let b := ((b.mark F.CJ_STATUS_JOINED).clear F.CJ_STATUS_ISLAND).rst r .armed; b.modFr r (fun f => { f with passed := true, senLead := true }) |>.modEng r (fun g => { g with vinAt := some 5 }) |>.set F.PHC_CTRL_MIN_LIVE r 0
/-- R478: an island does not follow. -/
def at_SpanningRail_7 : State :=
  let b : State := State.second;
  let r : Fin 8 := (0 : Fin 8);
  let b := { b.sl.up.md .regulate with cz1604 := false, cj := { b.cj with taken := false, evState := none } }.mark F.PARSE_STATUS_DONE;
  let b := allRails.foldl (fun (b : State) q => b.cf q (fun c => { c with spans := q == r, present := true, critical := false })) b;
  let b := ((((b.set F.CJ_CFG_CJ_EN 0 1).set F.CJ_STATUS_DUP_CTL 0 0).set F.CJ_CFG_LEADER 0 0).set F.CJ_CFG_CTL_NUM 0 1).set F.CJ_SPAN_SYS_MIN_LIVE 0 0; b.mark F.CJ_STATUS_ISLAND
/-- R477: RAILEV into HICCUP. -/
def at_SpanningRail_8 : State :=
  let b : State := State.second;
  let r : Fin 8 := (0 : Fin 8);
  let b := { b.sl.up.md .regulate with cz1604 := false, cj := { b.cj with taken := false, evState := none } }.mark F.PARSE_STATUS_DONE;
  let b := allRails.foldl (fun (b : State) q => b.cf q (fun c => { c with spans := q == r, present := true, critical := false })) b;
  let b := ((((b.set F.CJ_CFG_CJ_EN 0 1).set F.CJ_STATUS_DUP_CTL 0 0).set F.CJ_CFG_LEADER 0 0).set F.CJ_CFG_CTL_NUM 0 1).set F.CJ_SPAN_SYS_MIN_LIVE 0 0; b.rst r .reg
/-- R477: RAILEV into LATCHED with its cause. -/
def at_SpanningRail_9 : State :=
  let b : State := State.second;
  let r : Fin 8 := (0 : Fin 8);
  let b := { b.sl.up.md .regulate with cz1604 := false, cj := { b.cj with taken := false, evState := none } }.mark F.PARSE_STATUS_DONE;
  let b := allRails.foldl (fun (b : State) q => b.cf q (fun c => { c with spans := q == r, present := true, critical := false })) b;
  let b := ((((b.set F.CJ_CFG_CJ_EN 0 1).set F.CJ_STATUS_DUP_CTL 0 0).set F.CJ_CFG_LEADER 0 0).set F.CJ_CFG_CTL_NUM 0 1).set F.CJ_SPAN_SYS_MIN_LIVE 0 0; b.rst r .reg
/-- R478: the leader is lost while the part switches: an island. -/
def at_SpanningRail_10 : State :=
  let b : State := State.second;
  let r : Fin 8 := (0 : Fin 8);
  let b := { b.sl.up.md .regulate with cz1604 := false, cj := { b.cj with taken := false, evState := none } }.mark F.PARSE_STATUS_DONE;
  let b := allRails.foldl (fun (b : State) q => b.cf q (fun c => { c with spans := q == r, present := true, critical := false })) b;
  let b := ((((b.set F.CJ_CFG_CJ_EN 0 1).set F.CJ_STATUS_DUP_CTL 0 0).set F.CJ_CFG_LEADER 0 0).set F.CJ_CFG_CTL_NUM 0 1).set F.CJ_SPAN_SYS_MIN_LIVE 0 0; (b.clear F.CJ_STATUS_ISLAND).rst r (if 0 == 0 then .reg else .rampdown)
/-- R478, R485: a part that does not switch declares the leader lost. -/
def at_SpanningRail_11 : State :=
  let b : State := State.second;
  let r : Fin 8 := (0 : Fin 8);
  let b := { b.sl.up.md .regulate with cz1604 := false, cj := { b.cj with taken := false, evState := none } }.mark F.PARSE_STATUS_DONE;
  let b := allRails.foldl (fun (b : State) q => b.cf q (fun c => { c with spans := q == r, present := true, critical := false })) b;
  let b := ((((b.set F.CJ_CFG_CJ_EN 0 1).set F.CJ_STATUS_DUP_CTL 0 0).set F.CJ_CFG_LEADER 0 0).set F.CJ_CFG_CTL_NUM 0 1).set F.CJ_SPAN_SYS_MIN_LIVE 0 0;
  let b := b.rst r .off; { b with cj := { b.cj with leaderLost := false } }
/-- R478: ISLAND_MAX has passed, the part ramps down. -/
def at_SpanningRail_12 : State :=
  let b : State := State.second;
  let r : Fin 8 := (0 : Fin 8);
  let b := { b.sl.up.md .regulate with cz1604 := false, cj := { b.cj with taken := false, evState := none } }.mark F.PARSE_STATUS_DONE;
  let b := allRails.foldl (fun (b : State) q => b.cf q (fun c => { c with spans := q == r, present := true, critical := false })) b;
  let b := ((((b.set F.CJ_CFG_CJ_EN 0 1).set F.CJ_STATUS_DUP_CTL 0 0).set F.CJ_CFG_LEADER 0 0).set F.CJ_CFG_CTL_NUM 0 1).set F.CJ_SPAN_SYS_MIN_LIVE 0 0; (b.mark F.CJ_STATUS_ISLAND).rst r .reg
/-- R478: no island. -/
def at_SpanningRail_13 : State :=
  let b : State := State.second;
  let r : Fin 8 := (0 : Fin 8);
  let b := { b.sl.up.md .regulate with cz1604 := false, cj := { b.cj with taken := false, evState := none } }.mark F.PARSE_STATUS_DONE;
  let b := allRails.foldl (fun (b : State) q => b.cf q (fun c => { c with spans := q == r, present := true, critical := false })) b;
  let b := ((((b.set F.CJ_CFG_CJ_EN 0 1).set F.CJ_STATUS_DUP_CTL 0 0).set F.CJ_CFG_LEADER 0 0).set F.CJ_CFG_CTL_NUM 0 1).set F.CJ_SPAN_SYS_MIN_LIVE 0 0; b.clear F.CJ_STATUS_ISLAND
/-- States and operands that meet the conditions of `Obligations.SpanningRail`, clause by clause. -/
theorem test_meets_SpanningRail :
    (∃ (s : State) (r : Fin 8) (d : Nat) (x : Nat) (y : Nat) (q : BitVec 2) (p : BitVec 48) (c : BitVec 16), s.Calm
      ∧ s.cjUp = true ∧ s.pow.stopSet = 0 ∧ s.cjIs false = true ∧ s.spanRail = some r ∧ cjCrc 1 0 q.toNat p.toNat = c.toNat
      ∧ d < 4096 ∧ x < 2 ^ 16 ∧ y < 2 ^ 16 ∧ p.toNat = r.val * 2 ^ 45 + d * 2 ^ 33 + x * 2 ^ 16 + y
      ∧ s.flag F.CJ_STATUS_ISLAND = false) ∧
    (∃ (s : State) (r : Fin 8) (q : BitVec 2) (p : BitVec 48) (c : BitVec 16), s.Calm ∧ s.cjUp = true ∧ s.pow.stopSet = 0
      ∧ s.cjIs false = true ∧ s.spanRail = some r ∧ cjCrc 1 0 q.toNat p.toNat = c.toNat ∧ p.toNat / 2 ^ 45 = r.val
      ∧ s.flag F.CJ_STATUS_ISLAND = true ∧ s.cj.goodRun = 3 ∧ (s.fr r).ls = .none
      ∧ |toS 16 (p.toNat / 2 ^ 16 % 2 ^ 16) - (s.eng r).uDem| ≤ 64) ∧
    (∃ (s : State) (r : Fin 8) (q : BitVec 2) (p : BitVec 48) (c : BitVec 16), s.Calm ∧ s.cjUp = true ∧ s.pow.stopSet = 0
      ∧ s.cjIs false = true ∧ s.spanRail = some r ∧ cjCrc 1 0 q.toNat p.toNat = c.toNat ∧ p.toNat / 2 ^ 45 = r.val
      ∧ s.flag F.CJ_STATUS_ISLAND = true ∧ 64 < |toS 16 (p.toNat / 2 ^ 16 % 2 ^ 16) - (s.eng r).uDem|) ∧
    (∃ (s : State) (r : Fin 8) (w : Nat) (n : Nat) (m : Nat) (y : Nat) (z : Nat) (q : BitVec 2) (p : BitVec 48) (c : BitVec 16),
      s.Calm ∧ s.cjUp = true ∧ s.pow.stopSet = 0 ∧ s.cjIs false = true ∧ s.spanRail = some r
      ∧ cjCrc 2 0 q.toNat p.toNat = c.toNat ∧ w < 16 ∧ n < 256 ∧ m < 2 ^ 17 ∧ y < 16 ∧ z < 2
      ∧ p.toNat = r.val * 2 ^ 45 + w * 2 ^ 41 + n * 2 ^ 33 + m * 2 ^ 16 + y * 2 ^ 12 + z * 2 ^ 11 ∧ s.cj.evState = none) ∧
    (∃ (s : State) (r : Fin 8) (w : Nat) (n : Nat) (m : Nat) (y : Nat) (z : Nat) (q : BitVec 2) (p : BitVec 48) (c : BitVec 16),
      s.Calm ∧ s.cjUp = true ∧ s.pow.stopSet = 0 ∧ s.cjIs false = true ∧ s.spanRail = some r
      ∧ cjCrc 2 0 q.toNat p.toNat = c.toNat ∧ w < 16 ∧ n < 256 ∧ m < 2 ^ 17 ∧ y < 16 ∧ z < 2
      ∧ p.toNat = r.val * 2 ^ 45 + w * 2 ^ 41 + n * 2 ^ 33 + m * 2 ^ 16 + y * 2 ^ 12 + z * 2 ^ 11 ∧ s.cj.evState = none ∧ w = 6
      ∧ s.flag F.CJ_STATUS_JOINED = true ∧ s.flag F.CJ_STATUS_ISLAND = false ∧ (s.st r = .reg ∨ s.st r = .shed)) ∧
    (∃ (s : State) (r : Fin 8) (w : Nat) (n : Nat) (m : Nat) (y : Nat) (z : Nat) (q : BitVec 2) (p : BitVec 48) (c : BitVec 16),
      s.Calm ∧ s.cjUp = true ∧ s.pow.stopSet = 0 ∧ s.cjIs false = true ∧ s.spanRail = some r
      ∧ cjCrc 2 0 q.toNat p.toNat = c.toNat ∧ w < 16 ∧ n < 256 ∧ m < 2 ^ 17 ∧ y < 16 ∧ z < 2
      ∧ p.toNat = r.val * 2 ^ 45 + w * 2 ^ 41 + n * 2 ^ 33 + m * 2 ^ 16 + y * 2 ^ 12 + z * 2 ^ 11 ∧ s.cj.evState = none ∧ w = 2
      ∧ s.flag F.CJ_STATUS_JOINED = true ∧ s.flag F.CJ_STATUS_ISLAND = false ∧ s.partReady r = true
      ∧ s.get F.PHC_CTRL_MIN_LIVE r ≤ (s.liveOf r).length) ∧
    (∃ (s : State) (r : Fin 8) (w : Nat) (n : Nat) (m : Nat) (y : Nat) (z : Nat) (q : BitVec 2) (p : BitVec 48) (c : BitVec 16),
      s.Calm ∧ s.cjUp = true ∧ s.pow.stopSet = 0 ∧ s.cjIs false = true ∧ s.spanRail = some r
      ∧ cjCrc 2 0 q.toNat p.toNat = c.toNat ∧ w < 16 ∧ n < 256 ∧ m < 2 ^ 17 ∧ y < 16 ∧ z < 2
      ∧ p.toNat = r.val * 2 ^ 45 + w * 2 ^ 41 + n * 2 ^ 33 + m * 2 ^ 16 + y * 2 ^ 12 + z * 2 ^ 11 ∧ s.cj.evState = none
      ∧ s.flag F.CJ_STATUS_ISLAND = true) ∧
    (∃ (s : State) (r : Fin 8) (y : Nat) (n : Nat) (x : BitVec 2) (q : BitVec 2) (p : BitVec 48) (c : BitVec 16), s.Calm
      ∧ s.cjUp = true ∧ s.pow.stopSet = 0 ∧ s.flag F.CJ_STATUS_DUP_CTL = false ∧ x.toNat ≠ s.ctl ∧ s.spanRail = some r
      ∧ s.get F.CJ_SPAN_SYS_MIN_LIVE = 0 ∧ cjCrc 4 x.toNat q.toNat p.toNat = c.toNat ∧ y < 16 ∧ n < 16
      ∧ p.toNat = r.val * 2 ^ 45 + 5 * 2 ^ 41 + y * 2 ^ 37 + n * 2 ^ 33 ∧ (s.st r = .reg ∨ s.st r = .ramp)) ∧
    (∃ (s : State) (r : Fin 8) (y : Nat) (n : Nat) (x : BitVec 2) (q : BitVec 2) (p : BitVec 48) (c : BitVec 16), s.Calm
      ∧ s.cjUp = true ∧ s.pow.stopSet = 0 ∧ s.flag F.CJ_STATUS_DUP_CTL = false ∧ x.toNat ≠ s.ctl ∧ s.spanRail = some r
      ∧ s.get F.CJ_SPAN_SYS_MIN_LIVE = 0 ∧ cjCrc 4 x.toNat q.toNat p.toNat = c.toNat ∧ y < 16 ∧ n < 16
      ∧ p.toNat = r.val * 2 ^ 45 + 7 * 2 ^ 41 + y * 2 ^ 37 + n * 2 ^ 33 ∧ (s.st r = .reg ∨ s.st r = .ramp)
      ∧ (s.cfg r).critical = false) ∧
    (∃ (s : State) (r : Fin 8), s.Calm ∧ s.cjUp = true ∧ s.pow.stopSet = 0 ∧ s.cjIs false = true ∧ s.spanRail = some r
      ∧ (s.st r).switching = true ∧ s.flag F.CJ_STATUS_ISLAND = false ∧ s.cj.targetAt + 1000 ≤ s.now) ∧
    (∃ (s : State) (r : Fin 8), s.Calm ∧ s.cjUp = true ∧ s.pow.stopSet = 0 ∧ s.cjIs false = true ∧ s.spanRail = some r
      ∧ (s.st r).switching = false ∧ s.cj.leaderLost = false ∧ s.cj.leaderAt + 5000 ≤ s.now) ∧
    (∃ (s : State) (r : Fin 8), s.Calm ∧ s.pow.stopSet = 0 ∧ s.spanRail = some r ∧ s.flag F.CJ_STATUS_ISLAND = true
      ∧ s.cj.islandAt + s.get F.CJ_SPAN_ISLAND_MAX * 1000000 ≤ s.now ∧ s.get F.CJ_CFG_LEADER = 0
      ∧ (s.st r = .reg ∨ s.st r = .shed ∨ s.st r = .ramp)) ∧
    (∃ (s : State), s.Calm ∧ s.pow.stopSet = 0 ∧ s.get F.CJ_SPAN_SYS_MIN_LIVE = 0 ∧ s.flag F.CJ_STATUS_ISLAND = false) :=
  ⟨⟨at_SpanningRail_1, (0 : Fin 8), 0, 30000, (65536 - 1 - 0), (BitVec.ofNat 2 0), (BitVec.ofNat 48 (0 * 2 ^ 45 + 0 * 2 ^ 33 +
    30000 * 2 ^ 16 + (65536 - 1 - 0))), (BitVec.ofNat 16 (cjCrc 1 0 (BitVec.ofNat 2 0).toNat (BitVec.ofNat 48 (0 * 2 ^ 45 + 0 * 2 ^
    33 + 30000 * 2 ^ 16 + (65536 - 1 - 0))).toNat)), by decide +kernel⟩,
    ⟨at_SpanningRail_2, (0 : Fin 8), (BitVec.ofNat 2 0), (BitVec.ofNat 48 (0 * 2 ^ 45 + 436 * 2 ^ 16)), (BitVec.ofNat 16 (cjCrc 1 0
      (BitVec.ofNat 2 0).toNat (BitVec.ofNat 48 (0 * 2 ^ 45 + 436 * 2 ^ 16)).toNat)), by decide +kernel⟩,
    ⟨at_SpanningRail_3, (0 : Fin 8), (BitVec.ofNat 2 0), (BitVec.ofNat 48 (0 * 2 ^ 45 + 566 * 2 ^ 16)), (BitVec.ofNat 16 (cjCrc 1 0
      (BitVec.ofNat 2 0).toNat (BitVec.ofNat 48 (0 * 2 ^ 45 + 566 * 2 ^ 16)).toNat)), by decide +kernel⟩,
    ⟨at_SpanningRail_4, (0 : Fin 8), 3, 3, 500, 0, 0, (BitVec.ofNat 2 0), (BitVec.ofNat 48 (0 * 2 ^ 45 + 3 * 2 ^ 41 + 3 * 2 ^ 33 +
      500 * 2 ^ 16 + 0 * 2 ^ 12 + 0 * 2 ^ 11)), (BitVec.ofNat 16 (cjCrc 2 0 (BitVec.ofNat 2 0).toNat (BitVec.ofNat 48 (0 * 2 ^ 45 +
      3 * 2 ^ 41 + 3 * 2 ^ 33 + 500 * 2 ^ 16 + 0 * 2 ^ 12 + 0 * 2 ^ 11)).toNat)), by decide +kernel⟩,
    ⟨at_SpanningRail_5, (0 : Fin 8), 6, 3, 500, 0, 0, (BitVec.ofNat 2 0), (BitVec.ofNat 48 (0 * 2 ^ 45 + 6 * 2 ^ 41 + 3 * 2 ^ 33 +
      500 * 2 ^ 16 + 0 * 2 ^ 12 + 0 * 2 ^ 11)), (BitVec.ofNat 16 (cjCrc 2 0 (BitVec.ofNat 2 0).toNat (BitVec.ofNat 48 (0 * 2 ^ 45 +
      6 * 2 ^ 41 + 3 * 2 ^ 33 + 500 * 2 ^ 16 + 0 * 2 ^ 12 + 0 * 2 ^ 11)).toNat)), by decide +kernel⟩,
    ⟨at_SpanningRail_6, (0 : Fin 8), 2, 3, 500, 0, 0, (BitVec.ofNat 2 0), (BitVec.ofNat 48 (0 * 2 ^ 45 + 2 * 2 ^ 41 + 3 * 2 ^ 33 +
      500 * 2 ^ 16 + 0 * 2 ^ 12 + 0 * 2 ^ 11)), (BitVec.ofNat 16 (cjCrc 2 0 (BitVec.ofNat 2 0).toNat (BitVec.ofNat 48 (0 * 2 ^ 45 +
      2 * 2 ^ 41 + 3 * 2 ^ 33 + 500 * 2 ^ 16 + 0 * 2 ^ 12 + 0 * 2 ^ 11)).toNat)), by decide +kernel⟩,
    ⟨at_SpanningRail_7, (0 : Fin 8), 6, 3, 500, 0, 0, (BitVec.ofNat 2 0), (BitVec.ofNat 48 (0 * 2 ^ 45 + 6 * 2 ^ 41 + 3 * 2 ^ 33 +
      500 * 2 ^ 16 + 0 * 2 ^ 12 + 0 * 2 ^ 11)), (BitVec.ofNat 16 (cjCrc 2 0 (BitVec.ofNat 2 0).toNat (BitVec.ofNat 48 (0 * 2 ^ 45 +
      6 * 2 ^ 41 + 3 * 2 ^ 33 + 500 * 2 ^ 16 + 0 * 2 ^ 12 + 0 * 2 ^ 11)).toNat)), by decide +kernel⟩,
    ⟨at_SpanningRail_8, (0 : Fin 8), 0, 0, 2, (BitVec.ofNat 2 0), (BitVec.ofNat 48 (0 * 2 ^ 45 + 5 * 2 ^ 41 + 0 * 2 ^ 37 + 0 * 2 ^
      33)), (BitVec.ofNat 16 (cjCrc 4 2 (BitVec.ofNat 2 0).toNat (BitVec.ofNat 48 (0 * 2 ^ 45 + 5 * 2 ^ 41 + 0 * 2 ^ 37 + 0 * 2 ^
      33)).toNat)), by decide +kernel⟩,
    ⟨at_SpanningRail_9, (0 : Fin 8), 0, 0, 2, (BitVec.ofNat 2 0), (BitVec.ofNat 48 (0 * 2 ^ 45 + 7 * 2 ^ 41 + 0 * 2 ^ 37 + 0 * 2 ^
      33)), (BitVec.ofNat 16 (cjCrc 4 2 (BitVec.ofNat 2 0).toNat (BitVec.ofNat 48 (0 * 2 ^ 45 + 7 * 2 ^ 41 + 0 * 2 ^ 37 + 0 * 2 ^
      33)).toNat)), by decide +kernel⟩,
    ⟨at_SpanningRail_10, (0 : Fin 8), by decide +kernel⟩,
    ⟨at_SpanningRail_11, (0 : Fin 8), by decide +kernel⟩,
    ⟨at_SpanningRail_12, (0 : Fin 8), by decide +kernel⟩,
    ⟨at_SpanningRail_13, by decide +kernel⟩⟩

/-- R515: PHC_FW by P2. -/
def at_WritesAndClocksComplete_1 : State :=
  let b : State := State.second;
  let r : Fin 8 := (0 : Fin 8); { b.sl.p2.mark F.PARSE_STATUS_DONE with cz1604 := false, sec := {} }
/-- R515: LOADLINE by P2 after PARSE. -/
def at_WritesAndClocksComplete_2 : State :=
  let b : State := State.second;
  let r : Fin 8 := (0 : Fin 8); { b.sl.p2.mark F.PARSE_STATUS_DONE with cz1604 := false, sec := {} }
/-- R515: AL_CFG by P2 after PARSE. -/
def at_WritesAndClocksComplete_3 : State :=
  let b : State := State.second;
  let r : Fin 8 := (0 : Fin 8); { b.sl.p2.mark F.PARSE_STATUS_DONE with cz1604 := false, sec := {} }
/-- R515: OP_MAP_LO by P3. -/
def at_WritesAndClocksComplete_4 : State :=
  let b : State := State.second;
  let r : Fin 8 := (0 : Fin 8); ({ b.sl.p3 1 with cz1604 := false }.mark F.PARSE_STATUS_DONE)
/-- R515: the values it holds, written again. -/
def at_WritesAndClocksComplete_5 : State :=
  let b : State := State.second;
  let r : Fin 8 := (0 : Fin 8); { b.sl.p2.mark F.PARSE_STATUS_DONE with cz1604 := false, sec := {} }
/-- R69: XTAL_START_TIMEOUT. -/
def at_WritesAndClocksComplete_6 : State :=
  let b : State := State.second; (({ b.cm.md .wake with pow.wakeAt := 1000000000 - 1500000 }).clear F.CLK_STATUS_XTAL_OK).clear F.CLK_STATUS_BACKUP_ACTIVE
/-- R70: REF_CLOCK_FAIL. -/
def at_WritesAndClocksComplete_7 : State :=
  let b : State := State.second; ({ b.cm.md (.regulate) with par.xtalReq := false }).clear F.CLK_STATUS_BACKUP_ACTIVE
/-- R72: PLL_UNLOCK. -/
def at_WritesAndClocksComplete_8 : State :=
  let b : State := State.second; b.cm.md (.regulate)
/-- R72: PLL_RELOCK. -/
def at_WritesAndClocksComplete_9 : State :=
  let b : State := State.second; { b.cm.md (.regulate) with pow.pllLost := 3 }
/-- R81: REGION_ENABLE_ON. -/
def at_WritesAndClocksComplete_10 : State :=
  let b : State := State.second; b.cm.md (.parse)
/-- R520: REGION_ENABLE_OFF. -/
def at_WritesAndClocksComplete_11 : State :=
  let b : State := State.second; b.cm.cf (0 : Fin 8) (fun c => { c with present := true, region := 2 })
/-- R31: REGION_ARBITRATION. -/
def at_WritesAndClocksComplete_12 : State :=
  let b : State := State.second; allRails.foldl (fun (b : State) r => if b.st r == .caretaken then b.rst r .reg else b) b.sl.up
/-- R111: CONFIG_APPLY. -/
def at_WritesAndClocksComplete_13 : State :=
  let b : State := State.second; { (b.sl.up.md .parse) with par := { source := 1, verified := okCopy1 } }.clear F.CLK_STATUS_BACKUP_ACTIVE
/-- R400: TELEMETRY_WINDOW_END. -/
def at_WritesAndClocksComplete_14 : State :=
  let b : State := State.second; ({ b with now := 5000000000 }.md .regulate).set F.FW_PUB_STAGE_VALUE 0 0
/-- States and operands that meet the conditions of `Obligations.WritesAndClocksComplete`, clause by clause. -/
theorem test_meets_WritesAndClocksComplete :
    (∃ (s : State) (d : Word) (x : Nat) (y : Nat), s.Calm ∧ s.AsP2 ∧ s.cz1604 = false ∧ x < 2 ^ 16 ∧ y < 2 ^ 16
      ∧ d.toNat = x * 2 ^ 16 + y) ∧
    (∃ (s : State) (d : Word) (x : Nat) (y : Nat), s.Calm ∧ s.AsP2 ∧ s.cz1604 = false ∧ s.parsed = true ∧ x < 8 ∧ y < 2 ^ 12
      ∧ d.toNat = x * 2 ^ 16 + y) ∧
    (∃ (s : State) (d : Word) (p : Fin 2) (x : Nat) (y : Nat), s.Calm ∧ s.AsP2 ∧ s.cz1604 = false ∧ s.parsed = true ∧ x < 2
      ∧ y < 2 ^ 8 ∧ d.toNat = s.get F.AL_CFG_PORT_EN p * 2 ^ 31 + x * 2 ^ 30 + y) ∧
    (∃ (s : State) (d : Word) (w : Nat) (x : Nat) (y : Nat) (z : Nat), s.Calm ∧ s.AsP3 1 ∧ s.parsed = true ∧ s.cz1604 = false
      ∧ w < 64 ∧ x < 64 ∧ y < 64 ∧ z < 64 ∧ d.toNat = w * 2 ^ 24 + x * 2 ^ 16 + y * 2 ^ 8 + z) ∧
    (∃ (s : State) (d : Word) (r : Fin 8), s.Calm ∧ s.AsP2 ∧ s.cz1604 = false ∧ s.get F.PHC_FW_FW_ADD r < 2 ^ 16
      ∧ s.get F.PHC_FW_FW_SHED r < 2 ^ 16 ∧ d.toNat = s.get F.PHC_FW_FW_ADD r * 2 ^ 16 + s.get F.PHC_FW_FW_SHED r) ∧
    (∃ (s : State), s.Calm ∧ s.mode = .wake ∧ s.pow.wakeAt + 1500000 ≤ s.now ∧ s.flag F.CLK_STATUS_XTAL_OK = false
      ∧ s.flag F.CLK_STATUS_BACKUP_ACTIVE = false) ∧
    (∃ (s : State), s.Calm ∧ s.awake = true ∧ s.par.xtalReq = false ∧ s.flag F.CLK_STATUS_BACKUP_ACTIVE = false) ∧
    (∃ (s : State) (e : Int), s.Calm ∧ s.mode ≠ .dormant ∧ -400 ≤ e ∧ e ≤ 400) ∧
    (∃ (s : State) (p : Pll) (e : Int), s.Calm ∧ s.mode ≠ .dormant ∧ s.pow.pllLost.testBit (pllNo p) = true ∧ -400 ≤ e ∧ e ≤ 400) ∧
    (∃ (s : State) (m : Fin 4) (q : Fin 4), s.Calm ∧ s.mode ≠ .dormant ∧ q ≠ m) ∧
    (∃ (s : State) (m : Fin 4) (q : Fin 4) (r : Fin 8), s.Calm ∧ q ≠ m ∧ s.regionOf r = m ∧ (s.cfg r).present = true) ∧
    (∃ (s : State) (m : Fin 4), s.Calm ∧ s.pow.cdUp = true ∧ s.regionHeld m = false) ∧
    (∃ (s : State), s.Calm ∧ s.mode = .parse ∧ s.pow.cdUp = true ∧ s.par.stopped = false ∧ s.par.source ≠ 0 ∧ s.par.source < 4
      ∧ s.flag F.CLK_STATUS_BACKUP_ACTIVE = false) ∧
    (∃ (t : Nat) (s : State) , s.Calm ∧ s.mode ≠ .dormant ∧ s.mode ≠ .wake ∧ (State.at s t).windowDue 1 = true) :=
  ⟨⟨at_WritesAndClocksComplete_1, (BitVec.ofNat 32 0), 0, 0, by decide +kernel⟩,
    ⟨at_WritesAndClocksComplete_2, (BitVec.ofNat 32 0), 0, 0, by decide +kernel⟩,
    ⟨at_WritesAndClocksComplete_3, (BitVec.ofNat 32 ((at_WritesAndClocksComplete_3).get F.AL_CFG_PORT_EN (0 : Fin 2) * 2 ^ 31 + 0 *
      2 ^ 30 + 0)), (0 : Fin 2), 0, 0, by decide +kernel⟩,
    ⟨at_WritesAndClocksComplete_4, (BitVec.ofNat 32 (0 * 2 ^ 24 + 0 * 2 ^ 16 + 63 * 2 ^ 8 + 0)), 0, 0, 63, 0, by decide +kernel⟩,
    ⟨at_WritesAndClocksComplete_5, (BitVec.ofNat 32 ((at_WritesAndClocksComplete_5).get F.PHC_FW_FW_ADD (0 : Fin 8) * 2 ^ 16 +
      (at_WritesAndClocksComplete_5).get F.PHC_FW_FW_SHED (0 : Fin 8))), (0 : Fin 8), by decide +kernel⟩,
    ⟨at_WritesAndClocksComplete_6, by decide +kernel⟩,
    ⟨at_WritesAndClocksComplete_7, by decide +kernel⟩,
    ⟨at_WritesAndClocksComplete_8, 400, by decide +kernel⟩,
    ⟨at_WritesAndClocksComplete_9, (.front), (-400), by decide +kernel⟩,
    ⟨at_WritesAndClocksComplete_10, (Fin.ofNat 4 0), (Fin.ofNat 4 1), by decide +kernel⟩,
    ⟨at_WritesAndClocksComplete_11, 2, 1, (0 : Fin 8), by decide +kernel⟩,
    ⟨at_WritesAndClocksComplete_12, (Fin.ofNat 4 0), by decide +kernel⟩,
    ⟨at_WritesAndClocksComplete_13, by decide +kernel⟩,
    ⟨1000000000, at_WritesAndClocksComplete_14, by decide +kernel⟩⟩

end Sys2Proof.Machine
end

