-- ==== Sys2Proof/WellFormed.lean ====
section
/-!
DEFINITION. Which operands a command can carry: an event brings what its converter, its message or its device can give. `exec` does not
ask for it: an operand outside these bounds is no event, and the meanings leave the state as it is or take it as it comes.
-/
namespace Sys2Proof

/-- A converter code of `w` bits, two's complement. -/
def codeOk (w : Nat) (x : Int) : Bool := decide (-(2 ^ (w - 1) : Int) ≤ x) && decide (x < 2 ^ (w - 1))
/-- A scalar of P-256 (R413): from 1 to the order of the group less 1. -/
def scalarOk (k : BitVec 256) : Bool := decide (0 < k.toNat) && decide (k.toNat < Machine.p256N)

/-- The operands are what the event can bring: image headers of 64 bytes (R93), a copy with its header, an ADC code of 12 bits (R157),
the readings of at most the 32 phases (R316), drawn scalars in the group (R413), a firmware payload of at most 4,080 bytes (R447),
a tick within its nanosecond and an edge resolved within 200 ps (R504). -/
def Instr.wf : Instr → Bool
  | .imageHeadersRead _ a b => a.length == 64 && b.length == 64
  | .imageCopyVerified _ c => decide (64 ≤ c.length)
  | .phaseCurrentSample _ _ adc => codeOk 12 adc
  | .prestartTest _ _ _ meas _ _ _ _ => decide (meas.length ≤ 32)
  | .hello _ _ _ eph k => scalarOk eph && scalarOk k
  | .fwJournalRequest _ p => decide (p.length ≤ 4080)
  | .synciEdge _ sub off => decide (sub.toNat < 13) && decide (off.toNat ≤ 4)
  | _ => true

end Sys2Proof
end

