-- ==== Sys2Proof/Tests/Slice0.lean ====
section
/-!
SUPPORT. The smoke tests of the well-formedness checks, one step of a few commands against the spec's own numbers, and states and operands
that meet the conditions of the statements on the whole machine and of the frames.
-/
namespace Sys2Proof.Machine
set_option maxRecDepth 20000
set_option Elab.async false

/-- R93: an image header is 64 bytes. -/
theorem test_wf_imageHeadersRead : (Instr.imageHeadersRead 0 (List.replicate 64 0) (List.replicate 63 0)).wf = false ∧
    (Instr.imageHeadersRead 0 (List.replicate 64 0) (List.replicate 64 0)).wf = true := by decide
/-- R93: a copy holds its header. -/
theorem test_wf_imageCopyVerified : (Instr.imageCopyVerified 0 (List.replicate 63 0)).wf = false ∧
    (Instr.imageCopyVerified 0 (List.replicate 64 0)).wf = true := by decide
/-- R157: a phase current is a 12-bit code, two's complement. -/
theorem test_wf_phaseCurrentSample : (Instr.phaseCurrentSample 0 0 2048).wf = false ∧ (Instr.phaseCurrentSample 0 0 (-2049)).wf = false ∧
    (Instr.phaseCurrentSample 0 0 (-2048)).wf = true := by decide
/-- R316: there are 32 phases. -/
theorem test_wf_prestartTest : (Instr.prestartTest 0 0 0 (List.replicate 33 (0, 0, 0)) 0 0 0 0).wf = false ∧
    (Instr.prestartTest 0 0 0 (List.replicate 32 (0, 0, 0)) 0 0 0 0).wf = true := by decide
/-- R413: drawn scalars are from 1 to the order less 1. -/
theorem test_wf_hello : (Instr.hello 0 0 0 0 1).wf = false ∧ (Instr.hello 0 0 0 1 (BitVec.ofNat 256 p256N)).wf = false ∧
    (Instr.hello 0 0 0 1 (BitVec.ofNat 256 (p256N - 1))).wf = true := by decide
/-- R447: a payload of at most 4,080 bytes. -/
theorem test_wf_fwJournalRequest : (Instr.fwJournalRequest 0 (List.replicate 4081 0)).wf = false ∧
    (Instr.fwJournalRequest 0 [1, 2]).wf = true := by decide +kernel

/-- R504: an edge within its nanosecond, resolved within 200 ps, 2 whole ticks. -/
theorem test_wf_synciEdge : (Instr.synciEdge 0 13 0).wf = false ∧ (Instr.synciEdge 0 0 5).wf = false ∧ (Instr.synciEdge 0 12 4).wf = true := by
  decide

/-! ## One operation or one step against the numbers of the spec's worked examples -/

/-- Worked example of file 01: 5,280 codes under the derates 112, 120 and, with the frozen feedback, 64. -/
theorem test_derated_limit :
    let s : State := State.second.cf 2 (fun c => { c with region := 3 }) |>.set F.DERATE_FW_DERATE 2 120
    let s := (List.range 11).foldl (fun (s : State) n => ((s.mark F.PH_STATE_ASSIGNED n).set F.PH_STATE_RAIL n 2).set F.PH_CFG_ILIM_PHASE n 480
      |>.modPh (Fin.ofNat 32 n) (fun p => { p with sw := .active, health := .ok })) s
    s.ilimSum 2 = 5280 ∧ (s.set F.DERATE_FW_DERATE 2 112).ilimRail 2 = 4620 ∧
      (s.modEng 2 (fun g => { g with auxD := some 64 })).ilimRail 2 = 2640 := by decide +kernel

/-- Worked example of file 02: the straps 12 kΩ, 20 kΩ, 7.5 kΩ, 100 kΩ and 2.0 kΩ give STRAP_STATUS = 0x00F7641C; the host reads it. -/
theorem test_straps :
    let s := [(0, 12000), (1, 20000), (2, 7500), (3, 100000), (4, 2000)].foldl
      (fun (s : State) (x : Nat × Nat) => s.strapTaken x.1 (strapCode x.2)) State.second.p2
    (s.regRead (s.who .spi) F.STRAP_STATUS_PM_ADDR.base).1 = rOk ∧
      (s.regRead (s.who .spi) F.STRAP_STATUS_PM_ADDR.base).2.1 = 0x00F7641C := by decide +kernel

/-- Worked example of file 04: PARSE_STATUS and IMAGE_INFO after the rolled-back copy. -/
theorem test_parse_words :
    let s := ((State.second.p2.mark F.PARSE_STATUS_DONE).set F.PARSE_STATUS_SOURCE 0 1).set F.PARSE_STATUS_B_RESULT 0 6
      |>.set F.PARSE_STATUS_APPLY_STEP 0 12 |>.set F.IMAGE_INFO_SVN 0 3 |>.set F.IMAGE_INFO_RB_COUNTER 0 3
      |>.set F.IMAGE_INFO_NOR_DENSITY 0 3 |>.set F.IMAGE_INFO_LENGTH_KIB 0 400
    let s : State := { s with otp := { s.otp with rbBits := 7 } }
    (s.regRead (s.who .spi) F.PARSE_STATUS_DONE.base).2.1 = 0x406000C1 ∧
      (s.regRead (s.who .spi) F.IMAGE_INFO_SVN.base).2.1 = 0x03031990 := by decide +kernel

/-- Worked example of file 05: the proportional term of e = 640 with the mantissa 0x4DC6 and SH = 7 is 1,592,800 in Q10.30, the
reciprocal of 76,800 is 55,924, and v = 4,800 and 5,290 give the duties 4,096 and 4,514. -/
theorem test_engine_arithmetic : scale (640 * 2 ^ 15) 0x4DC6 7 = 1592800 ∧ rvinOf 76800 = 55924 ∧ dutyRaw 4800 55924 = 4096 ∧
    dutyRaw 5290 55924 = 4514 := by decide +kernel

/-- Worked example of file 06: G_OBS of 16,000 ticks and 100 nH, the drive term 102, and the shift of −89,382 towards minus infinity. -/
theorem test_observer : gObs 16000 100 = 6554 ∧ asr (128 * 6554) 13 = 102 ∧ asr (-46080) 4 = -2880 ∧ asr (-89382) 4 = -5587 := by
  decide +kernel

/-- Worked example of file 07: the duty 5,152 in 17,067 ticks is an on-time of 1,342 ticks, within MIN_ON = 16 and MIN_OFF = 40. -/
theorem test_on_time : tonRaw 17067 5152 = 1342 ∧ tonLim 17067 16 40 1342 = 1342 ∧ tonLim 17067 16 40 17000 = 15787 := by decide +kernel

/-- Worked example of file 07: four phases of 17,067 ticks stand at 0, 4,266, 8,533 and 12,800. -/
theorem test_placement :
    let s := (List.range 4).foldl (fun (s : State) n => ((s.mark F.PH_STATE_ASSIGNED n).set F.PH_STATE_RAIL n 3).set F.PWM_PERIOD_PERIOD n 17067
      |>.modPh (Fin.ofNat 32 n) (fun p => { p with sw := .active, rank := n })) State.second
    (List.range 4).map (fun n => (s.place 3).get F.PH_PLACE_OFFSET n) = [0, 4266, 8533, 12800] := by decide +kernel

/-- Worked example of file 08: the answers 0x9E and 0x0B. -/
theorem test_answer_bytes : answerByte true false false true 7 = 0x9E ∧ answerByte false false false false 5 = 0x0B := by decide +kernel

/-- Worked example of file 10: the trim of a rail on REF_B that moves to REF_A when e_AB = −0.616 %. -/
theorem test_ref_trim :
    let x := ({ ab := -6160, bc := 6200, ca := 0 } : Devs).step 1 0
    trimOf 1200 x.1 x.2 = 7 := by decide +kernel

/-- Worked example of file 11: what the Pronoun loop tracks and gives: v = 5,391 for the duty 4,600, J10 = 1,526,784, and the duties
4,600 and 4,873. -/
theorem test_pronoun : roundDiv (4600 * 76800) 65536 = 5391 ∧ asr (360 * 10) 2 = 900 ∧ dutyRaw 5391 55924 = 4600 ∧
    dutyRaw 5711 55924 = 4873 := by decide +kernel

/-- Worked example of file 12: a TFLT sum of 8,986 with TF_V0 = 600 mV and 8,000 µV/°C is 804, which is 100.5 °C. -/
theorem test_tflt_temperature : tfltTemp 600 8000 0 8986 = some 804 := by decide +kernel

/-- The pack of the worked example of file 13, at 25 °C with BAT_I = −60 A and QREM = 9,174,000 mA·s. -/
def examplePack : State :=
  (((((State.second.set F.PK_CAP_FCC 0 2850).setI F.PK_CUR_BAT_I 0 (-60000)).putTemp (sensReg 14) (some 200)).set F.PK_QREM_QREM 0 9174000).set
    F.PK_LIFE_RFACT 0 16384).modPk (fun p => { p with cfg := { p.cfg with
      rshunt := 1000, qres := List.replicate 10 0 ++ [2, 4, 8, 14, 24] ++ List.replicate 5 0, rpack := [0, 0, 400, 0, 0, 0, 0, 0] } })
/-- Worked example of file 13: RC, QRES%, RSOC_calc after 1 s and at 30 s, and the charge of 720,000 counts. -/
theorem test_gauge : examplePack.rateCode = 210 ∧ examplePack.qresPct 210 = 1200 ∧ examplePack.qresPct 70 = 520 ∧
    examplePack.rsocCalc = 8797 ∧ (examplePack.set F.PK_QREM_QREM 0 7434000).rsocCalc = 6870 ∧ examplePack.chargeOf 720000 = 1800000 := by
  decide +kernel
/-- Worked example of file 13: at 31 s the lighter load of 20 A frees reserve, and RSOC holds 6,870. -/
theorem test_rsoc_holds :
    let s := ((examplePack.set F.PK_QREM_QREM 0 7414000).setI F.PK_CUR_BAT_I 0 (-20000)).set F.PK_SOC_RSOC 0 6870
    s.rateCode = 70 ∧ s.rsocCalc = 7073 ∧ (s.rsocStep false).get F.PK_SOC_RSOC = 6870 := by decide +kernel
/-- Worked example of file 13: 11.70 V at 20 A and 40.0 mΩ are V_COMP = 12.50 V. -/
theorem test_v_comp : ((examplePack.setI F.PK_CUR_BAT_I 0 (-20000)).set F.PK_VOLT_BAT_V 0 9360).compVolt.get F.PK_VOLT_V_COMP = 10000 := by
  decide +kernel

/-- Worked example of file 14: the P1 and the P2 window of a burst. -/
theorem test_windows : ({ acc := 12917760 } : Stream).close 12 5 = { acc := 0, out := 3136, cnt := 1 } ∧
    ({ acc := 86318080 } : Stream).close 15 3 = { acc := 0, out := 2632, cnt := 1 } := by decide +kernel

/-- Worked example of file 15: the charge of a commit of 40 and of 48 bytes at 45 mA is 2.790 µC and 2.808 µC (here in nC). -/
theorem test_commit_charge : 45 * commitNs 40 = 2790000 ∧ 45 * commitNs 48 = 2808000 := by decide

/-- Worked example of file 17: the addresses of RAIL3 and PH21; the TFLT temperature of PH21 stands in the low half. -/
theorem test_addresses : F.SP_WIN_P1_MIN.addr 3 = 0x13B8 ∧ F.PWM_CTRL_INVERT.addr 21 = 0x2568 ∧ F.PH_CUR_I_AVG.addr 21 = 0x2544 ∧
    F.PH_PROT_NPK_S.addr 21 = 0x34D4 ∧ (sensReg (15 + 21)).v.addr (sensReg (15 + 21)).i = 0x38A8 ∧ (sensReg (15 + 21)).v.lo < 16 := by
  decide +kernel
/-- Worked example of file 17: the host reads SP_WIN and PWM_CTRL, and PH_CUR answers 0 with ACCESS. -/
theorem test_host_reads :
    let s := (State.second.p2.mark F.PH_STATE_ASSIGNED 21).mark F.PARSE_STATUS_DONE |>.set F.PH_STATE_RAIL 21 3
    (s.regRead (s.who .spi) 0x13B8).1 = rOk ∧ (s.regRead (s.who .spi) 0x2568).1 = rOk ∧ (s.regRead (s.who .spi) 0x2544).1 = rAccess ∧
      (s.regRead (s.who .spi) 0x2544).2.1 = 0 := by decide +kernel
/-- Worked example of file 17: on a CZ1604 the same reads of a phase above 15 answer ADDRESS, and TEMP_TFLT10 reads 0 in its low half. -/
theorem test_small_part :
    let s : State := { State.second.p2.mark F.PARSE_STATUS_DONE with cz1604 := true }
    (s.regRead (s.who .spi) 0x2568).1 = rAddress ∧ (s.regRead (s.who .spi) 0x2544).1 = rAddress ∧
      (s.regRead (s.who .spi) 0x02D4).1 = rAddress ∧ (s.regRead (s.who .spi) 0x34D4).1 = rAddress ∧
      (s.regRead (s.who .spi) 0x38A8).1 = rOk ∧ (s.regRead (s.who .spi) 0x38A8).2.1 % 65536 = 0 := by decide +kernel

/-! ## States and operands that meet the conditions of the general statements and of the frames -/

/-- The state after a command that answers one. -/
def after (c : Instr) (s : State) : State :=
  match exec c s with
  | .next u => u
  | _ => s
/-- The command answers a next state. -/
def runs (c : Instr) (s : State) : Bool :=
  match exec c s with
  | .next _ => true
  | _ => false
/-- A command that answers a next state answers `after`. -/
theorem exec_after {c : Instr} {s : State} (h : runs c s = true) : exec c s = .next (after c s) := by
  unfold runs at h
  unfold after
  split at h <;> simp_all

/-- `Obligations.StepRunsTheFrontCommand`. -/
theorem test_meets_StepRunsTheFrontCommand : ∃ (s : State) (c : Instr) (q : List Instr), s.pending = c :: q :=
  ⟨{ State.second with pending := [.vinStale 5, .lfoscStart 6] }, .vinStale 5, [.lfoscStart 6], rfl⟩
/-- `Obligations.ClockAndQueue`, and the next state of `Obligations.EveryCommandCompletes`. -/
theorem test_meets_ClockAndQueue : ∃ (c : Instr) (s u : State), exec c s = .next u := ⟨.vinStale 5, State.second, _, rfl⟩
/-- `Obligations.StepsKeepStoresCanonical`. -/
theorem test_meets_StepsKeepStoresCanonical : ∃ s u : State, s.Canonical ∧ step s = .next u :=
  ⟨{ at_WakeAndDormancy_6 with pending := [.wakeEventAccept 1000000000] }, _, by unfold State.Canonical; decide +kernel, rfl⟩
/-- `Obligations.StepsKeepRegistersInWidth`. -/
theorem test_meets_StepsKeepRegistersInWidth :
    ∃ s u : State, (∀ f ∈ allFields, ∀ i < f.count, s.get f i < 2 ^ f.width) ∧ step s = .next u :=
  ⟨{ at_WakeAndDormancy_6 with pending := [.wakeEventAccept 1000000000] }, _, by decide +kernel, rfl⟩
/-- `Obligations.OtpOnlyGains`: TAP_DISABLE runs. -/
theorem test_meets_OtpOnlyGains : ∃ (c : Instr) (s u : State), s.otp.tapDis = false ∧ exec c s = .next u :=
  ⟨.tapDisable 1000000000, at_SessionCommands_22, _, by decide +kernel, rfl⟩
/-- `Obligations.ThermometerItems`: bits 1 and 2. -/
theorem test_meets_ThermometerItems : ∃ n i : Nat, n.testBit i = true ∧ ∀ j, i < j → n.testBit j = false :=
  ⟨6, 2, by decide, fun _ hj => Nat.testBit_lt_two_pow (Nat.lt_of_lt_of_le (by decide : 6 < 2 ^ 3) (Nat.pow_le_pow_right (by decide) hj))⟩
/-- `Obligations.ModesChangeByTheTable`: T2. -/
theorem test_meets_ModesChangeByTheTable : ∃ (c : Instr) (s u : State), exec c s = .next u ∧ u.mode ≠ s.mode :=
  ⟨.wakeEventAccept 1000000000, at_WakeAndDormancy_6, _, exec_after (by decide +kernel), by decide +kernel⟩
/-- `Obligations.RunningModeFollowsTheRails`: one rail in REG, in SHED, in HICCUP. -/
theorem test_meets_RunningModeFollowsTheRails :
    (∃ (c : Instr) (s u : State), exec c s = .next u ∧ u.mode = .regulate) ∧
    (∃ (c : Instr) (s u : State), exec c s = .next u ∧ u.mode = .shed) ∧
    (∃ (c : Instr) (s u : State), exec c s = .next u ∧ u.mode = .hiccup) :=
  ⟨⟨.lfoscStart 5, State.second.p2.rst 2 .reg, _, exec_after (by decide +kernel), by decide +kernel⟩,
    ⟨.shedDwellExpiry 1000000000 2, at_PhasesComeAndGo_4, _, exec_after (by decide +kernel), by decide +kernel⟩,
    ⟨.lfoscStart 5, State.second.p2.rst 2 .hiccup, _, exec_after (by decide +kernel), by decide +kernel⟩⟩
/-- `Obligations.ShedFollowsThePhases`: a rail in REG, and one in SHED. -/
theorem test_meets_ShedFollowsThePhases :
    (∃ (c : Instr) (s u : State) (r : Fin 8), exec c s = .next u ∧ u.st r = .reg) ∧
    (∃ (c : Instr) (s u : State) (r : Fin 8), exec c s = .next u ∧ u.st r = .shed) :=
  ⟨⟨.lfoscStart 5, State.second.p2.rst 2 .reg, _, 2, exec_after (by decide +kernel), by decide +kernel⟩,
    ⟨.lfoscStart 5, at_PhasesComeAndGo_4, _, 2, exec_after (by decide +kernel), by decide +kernel⟩⟩
/-- `Obligations.NoScheduleOutsideRegulation`: a rail with two entries. -/
theorem test_meets_NoScheduleOutsideRegulation : ∃ (c : Instr) (s u : State) (r : Fin 8), exec c s = .next u ∧ u.hints r ≠ [] :=
  ⟨.lfoscStart 5, at_LoadHints_4, _, 0, exec_after (by decide +kernel), by decide +kernel⟩
/-- `Obligations.MirrorFollowsTheFrontDie`: rail 2 and its mirror are in HICCUP, phase 0 agrees with its entry. -/
theorem test_meets_MirrorFollowsTheFrontDie : ∃ (c : Instr) (s u : State), exec c s = .next u ∧ u.pow.cdUp = true ∧ u.mode ≠ .caretaker ∧
    s.mirRail.length = 8 ∧ s.mirPh.length = 32 ∧ s.mirRail[2]? = some (s.st 2) ∧ s.mirPh[0]? = some (s.ph 0).entry :=
  let s := State.second.p2.rst 2 .hiccup
  ⟨.lfoscStart 5, { s with mirRail := allRails.map s.st, mirPh := (List.finRange 32).map (fun n => (s.ph n).entry) }, _,
    exec_after (by decide +kernel), by decide +kernel⟩
/-- `Obligations.JournalStoreWriters`: a commit starts. -/
theorem test_meets_JournalStoreWriters : ∃ (c : Instr) (s u : State), exec c s = .next u ∧ u.jrn.mram ≠ s.jrn.mram :=
  ⟨.journalCommitStart 1000000000 400, at_JournalCommits_1, _, exec_after (by decide +kernel), by decide +kernel⟩
/-- `Obligations.StaleBusFeedforward`. -/
theorem test_meets_StaleBusFeedforward :
    (∃ (t : Nat) (s : State), s.Calm ∧ s.pow.cdUp = true ∧ (State.at s t).vinOld = true) ∧
    (∃ s : State, s.Calm ∧ s.pow.cdUp = true ∧ s.mode ≠ .dormant ∧ s.mode ≠ .wake) :=
  ⟨⟨1000000000, State.second.cm.up.modEng 2 (fun g => { g with vinAt := some 5 }), by decide +kernel⟩,
    ⟨State.second.cm.p2, by decide +kernel⟩⟩

/-- For each command of `Obligations.FrameOfDiesAndModes`, operands and a state that meet its conditions. -/
theorem test_meets_FrameOfDiesAndModes :
    (∃ (s u : State), s.Calm ∧ exec (.loopPortFault 1000000000 (0 : Fin 8) true) s = .next u) ∧
    (∃ (s u : State), s.Calm ∧ exec (.phaseStateAck 1000000000) s = .next u) ∧
    (∃ (s u : State), s.Calm ∧ s.mode ≠ .service ∧ exec (.bridgeRegisterAnswer 1000000000) s = .next u) ∧
    (∃ (s u : State), s.Calm ∧ s.mode = .service ∧ exec (.bridgeRegisterAnswer 1000000000) s = .next u) ∧
    (∃ (s u : State), s.Calm ∧ exec (.controlDieLost 1000000000 (.heartbeat)) s = .next u) ∧
    (∃ (s u : State), s.Calm ∧ exec (.missingClock 1000000000) s = .next u) ∧
    (∃ (s u : State), s.Calm ∧ exec (.lockstepMismatch 1000000000) s = .next u) ∧
    (∃ (s u : State), s.Calm ∧ exec (.policyWatchdogExpiry 1000000000) s = .next u) ∧
    (∃ (s u : State), s.Calm ∧ exec (.vdd33Loss 1000000000) s = .next u) ∧
    (∃ (s u : State), s.Calm ∧ exec (.vcoreLoss 1000000000) s = .next u) ∧
    (∃ (s u : State), s.Calm ∧ exec (.strapRead 1000000000 (Fin.ofNat 5 0) 1800 2200) s = .next u) ∧
    (∃ (s u : State), s.Calm ∧ exec (.wakeBallLow 1000000000) s = .next u) ∧
    (∃ (s u : State), s.Calm ∧ exec (.timedWakeLimit 1000000000) s = .next u) ∧
    (∃ (s u : State), s.Calm ∧ exec (.sleepReq 1000000000 .spi) s = .next u) ∧
    (∃ (s u : State), s.Calm ∧ exec (.pllRelock 1000000000 (.front) (-400)) s = .next u) ∧
    (∃ (s u : State), s.Calm ∧ exec (.wakeComplete 1000000000) s = .next u) ∧
    (∃ (s u : State), s.Calm ∧ exec (.wakeTimeout 1000000000) s = .next u) ∧
    (∃ (s u : State), s.Calm ∧ exec (.resetNAssert 1000000000) s = .next u) ∧
    (∃ (s u : State), exec (.safestopClr 1000000000 .spi) s = .next u) ∧
    (∃ (s u : State), s.Calm ∧ exec (.dormantEntry 1000000000) s = .next u) ∧
    (∃ (s u : State), s.Calm ∧ exec (.regionEnableOff 1000000000 2) s = .next u) ∧
    (∃ (s u : State), s.Calm ∧ exec (.regionEnableOn 1000000000 (Fin.ofNat 4 0)) s = .next u) ∧
    (∃ (s u : State), s.Calm ∧ exec (.imageCopyVerified 1000000000 (okCopy1)) s = .next u) ∧
    (∃ (s u : State), s.Calm ∧ exec (.norReadFail 1000000000) s = .next u) ∧
    (∃ (s u : State), s.Calm ∧ exec (.norVddioWaitTimeout 1000000000) s = .next u) ∧
    (∃ (s u : State), s.Calm ∧ exec (.configApply 1000000000) s = .next u) ∧
    (∃ (s u : State), s.Calm ∧ exec (.caretakerTimeout 1000000000) s = .next u) ∧
    (∃ (s u : State), s.Calm ∧ exec (.caretakerStopComplete 1000000000) s = .next u) ∧
    (∃ (s u : State), s.Calm ∧ exec (.adoptionCheck 1000000000 false (true) (false)) s = .next u) ∧
    (∃ (s u : State), s.Calm ∧ exec (.railHandover 1000000000 (0 : Fin 8)) s = .next u) ∧
    (∃ (s u : State), s.Calm ∧ exec (.adoptionHandoverTimeout 1000000000 (0 : Fin 8)) s = .next u) ∧
    (∃ (s u : State), s.Calm ∧ exec (.pronounUpdate 1000000000 (0 : Fin 8)) s = .next u) :=
  ⟨⟨at_LossOfTheControlDie_6, _, by decide +kernel, rfl⟩,
    ⟨at_LinkBetweenDies_9, _, by decide +kernel, rfl⟩,
    ⟨at_LinkBetweenDies_11.md .regulate, _, by decide +kernel, by decide +kernel, rfl⟩,
    ⟨at_LinkBetweenDies_11.md .service, _, by decide +kernel, by decide +kernel, rfl⟩,
    ⟨at_LossOfTheControlDie_1, _, by decide +kernel, rfl⟩,
    ⟨at_HeartbeatsAndCoherence_8, _, by decide +kernel, rfl⟩,
    ⟨at_LossOfTheControlDie_4, _, by decide +kernel, rfl⟩,
    ⟨at_LossOfTheControlDie_5, _, by decide +kernel, rfl⟩,
    ⟨at_SuppliesAndStraps_9, _, by decide +kernel, rfl⟩,
    ⟨at_SuppliesAndStraps_10, _, by decide +kernel, rfl⟩,
    ⟨at_SuppliesAndStraps_13, _, by decide +kernel, rfl⟩,
    ⟨at_WakeAndDormancy_4, _, by decide +kernel, rfl⟩,
    ⟨at_WakeAndDormancy_8, _, by decide +kernel, rfl⟩,
    ⟨at_WakeAndDormancy_9, _, by decide +kernel, rfl⟩,
    ⟨at_WritesAndClocksComplete_9, _, by decide +kernel, rfl⟩,
    ⟨at_WakeAndDormancy_10, _, by decide +kernel, rfl⟩,
    ⟨at_WakeAndDormancy_11, _, by decide +kernel, rfl⟩,
    ⟨at_WakeAndDormancy_12, _, by decide +kernel, rfl⟩,
    ⟨at_WakeAndDormancy_18, _, rfl⟩,
    ⟨at_WakeAndDormancy_15, _, by decide +kernel, rfl⟩,
    ⟨at_WritesAndClocksComplete_11, _, by decide +kernel, rfl⟩,
    ⟨at_WritesAndClocksComplete_10, _, by decide +kernel, rfl⟩,
    ⟨at_ParserChoosesACopy_11, _, by decide +kernel, rfl⟩,
    ⟨at_ParserChoosesACopy_8, _, by decide +kernel, rfl⟩,
    ⟨at_ParserChoosesACopy_10, _, by decide +kernel, rfl⟩,
    ⟨at_WritesAndClocksComplete_13, _, by decide +kernel, rfl⟩,
    ⟨at_CaretakingAndAdoption_1, _, by decide +kernel, rfl⟩,
    ⟨at_CaretakingAndAdoption_2, _, by decide +kernel, rfl⟩,
    ⟨at_CaretakingAndAdoption_4, _, by decide +kernel, rfl⟩,
    ⟨at_CaretakingAndAdoption_6, _, by decide +kernel, rfl⟩,
    ⟨at_CaretakingAndAdoption_8, _, by decide +kernel, rfl⟩,
    ⟨at_CaretakingAndAdoption_9, _, by decide +kernel, rfl⟩⟩

/-- For each command of `Obligations.FrameOfRailCommands`, operands and a state that meet its conditions. -/
theorem test_meets_FrameOfRailCommands :
    (∃ (s u : State), s.Calm ∧ exec (.railEngineUpdate 1000000000 (0 : Fin 8) (BitVec.ofNat 11 0)) s = .next u) ∧
    (∃ (s u : State), s.Calm ∧ exec (.errorSample 1000000000 (0 : Fin 8) 0 0) s = .next u) ∧
    (∃ (s u : State), s.Calm ∧ exec (.lsMaxExpiry 1000000000 (0 : Fin 8)) s = .next u) ∧
    (∃ (s u : State), s.Calm ∧ exec (.brakeStart 1000000000 (0 : Fin 8)) s = .next u) ∧
    (∃ (s u : State), s.Calm ∧ exec (.vinSample 1000000000 (BitVec.ofNat 12 0)) s = .next u) ∧
    (∃ (s u : State), s.Calm ∧ exec (.compensatorSwap 1000000000 (0 : Fin 8)) s = .next u) ∧
    (∃ (s u : State), s.Calm ∧ exec (.iSumRefresh 1000000000 (0 : Fin 8)) s = .next u) ∧
    (∃ (s u : State), s.Calm ∧ exec (.failureFollowup 1000000000 (0 : Fin 32)) s = .next u) ∧
    (∃ (s u : State), s.Calm ∧ exec (.shedDwellExpiry 1000000000 2) s = .next u) ∧
    (∃ (s u : State), s.Calm ∧ exec (.deEntry 1000000000 2) s = .next u) ∧
    (∃ (s u : State), s.Calm ∧ exec (.hiccupEscalation 1000000000 (0 : Fin 32)) s = .next u) ∧
    (∃ (s u : State), s.Calm ∧ exec (.hiccupSenRaise 1000000000 (0 : Fin 8)) s = .next u) ∧
    (∃ (s u : State), s.Calm ∧ exec (.hiccupRetry 1000000000 (0 : Fin 8)) s = .next u) ∧
    (∃ (s u : State), s.Calm ∧ exec (.senLeadElapsed 1000000000 (0 : Fin 8)) s = .next u) ∧
    (∃ (s u : State), s.Calm ∧ exec (.softStopSenFall 1000000000 (0 : Fin 8)) s = .next u) ∧
    (∃ (s u : State), s.Calm ∧ exec (.railStartTurn 1000000000 (0 : Fin 8)) s = .next u) ∧
    (∃ (s u : State), s.Calm ∧ exec (.rampStart 1000000000 (0 : Fin 8) (BitVec.ofNat 12 0)) s = .next u) ∧
    (∃ (s u : State), s.Calm ∧ exec (.railOvervoltage 1000000000 (0 : Fin 8)) s = .next u) ∧
    (∃ (s u : State), s.Calm ∧ exec (.crowbarEnd 1000000000 (0 : Fin 8)) s = .next u) ∧
    (∃ (s u : State), s.Calm ∧ exec (.railUndervoltage 1000000000 (0 : Fin 8)) s = .next u) ∧
    (∃ (s u : State), s.Calm ∧ exec (.uvHiccupTimeout 1000000000 (0 : Fin 8)) s = .next u) ∧
    (∃ (s u : State), s.Calm ∧ exec (.railOvercurrent 1000000000 (0 : Fin 8)) s = .next u) ∧
    (∃ (s u : State), s.Calm ∧ exec (.busOvervoltage 1000000000) s = .next u) ∧
    (∃ (s u : State), s.Calm ∧ exec (.senseOpen 1000000000 (0 : Fin 8)) s = .next u) ∧
    (∃ (s u : State), s.Calm ∧ exec (.frozenFeedbackRequest 1000000000 (0 : Fin 8)) s = .next u) ∧
    (∃ (s u : State), s.Calm ∧ exec (.feedbackFrozen 1000000000 (0 : Fin 8)) s = .next u) ∧
    (∃ (s u : State), s.Calm ∧ exec (.auxSenseImplausible 1000000000 (0 : Fin 8)) s = .next u) ∧
    (∃ (s u : State), s.Calm ∧ exec (.noReferenceVote 1000000000) s = .next u) ∧
    (∃ (s u : State), s.Calm ∧ exec (.precheckReferenceVote 1000000000 3000 (-3000) 0) s = .next u) ∧
    (∃ (s u : State), s.Calm ∧ exec (.prestartTest 1000000000 (0 : Fin 8) 1000 (List.replicate 32 (0, -0, 0)) 0 0 0 0) s = .next u)
      :=
  ⟨⟨at_RailEngine_1, _, by decide +kernel, rfl⟩,
    ⟨at_ErrorSamplesAndLargeSignal_1, _, by decide +kernel, rfl⟩,
    ⟨at_ErrorSamplesAndLargeSignal_5, _, by decide +kernel, rfl⟩,
    ⟨at_ErrorSamplesAndLargeSignal_6, _, by decide +kernel, rfl⟩,
    ⟨at_RailEngine_10, _, by decide +kernel, rfl⟩,
    ⟨at_RailEngine_7, _, by decide +kernel, rfl⟩,
    ⟨at_RailEngine_13, _, by decide +kernel, rfl⟩,
    ⟨at_PhaseCurrents_7, _, by decide +kernel, rfl⟩,
    ⟨at_PhasesComeAndGo_2, _, by decide +kernel, rfl⟩,
    ⟨at_PhasesComeAndGo_4, _, by decide +kernel, rfl⟩,
    ⟨at_CutsAndLatches_9, _, by decide +kernel, rfl⟩,
    ⟨at_CutsAndLatches_12, _, by decide +kernel, rfl⟩,
    ⟨at_CutsAndLatches_13, _, by decide +kernel, rfl⟩,
    ⟨at_StartsAndStops_1, _, by decide +kernel, rfl⟩,
    ⟨at_StartsAndStops_4, _, by decide +kernel, rfl⟩,
    ⟨at_StartsAndStops_2, _, by decide +kernel, rfl⟩,
    ⟨at_StartsAndStops_3, _, by decide +kernel, rfl⟩,
    ⟨at_RailProtection_1, _, by decide +kernel, rfl⟩,
    ⟨at_RailProtection_2, _, by decide +kernel, rfl⟩,
    ⟨at_RailProtection_4, _, by decide +kernel, rfl⟩,
    ⟨at_RailProtection_5, _, by decide +kernel, rfl⟩,
    ⟨at_RailProtection_6, _, by decide +kernel, rfl⟩,
    ⟨at_SenseAndReferences_6, _, by decide +kernel, rfl⟩,
    ⟨at_SenseAndReferences_1, _, by decide +kernel, rfl⟩,
    ⟨at_SenseAndReferences_3, _, by decide +kernel, rfl⟩,
    ⟨at_SenseAndReferences_4, _, by decide +kernel, rfl⟩,
    ⟨at_SenseAndReferences_5, _, by decide +kernel, rfl⟩,
    ⟨at_SenseAndReferences_10, _, by decide +kernel, rfl⟩,
    ⟨at_SenseAndReferences_11, _, by decide +kernel, rfl⟩,
    ⟨at_SenseAndReferences_13, _, by decide +kernel, rfl⟩⟩

/-- For each command of `Obligations.FrameOfPhaseCommands`, operands and a state that meet its conditions. -/
theorem test_meets_FrameOfPhaseCommands :
    (∃ (s u : State), s.Calm ∧ exec (.senseRange 1000000000 (0 : Fin 32)) s = .next u) ∧
    (∃ (s u : State), s.Calm ∧ exec (.phasePeriodEnd 1000000000 (6 : Fin 32)) s = .next u) ∧
    (∃ (s u : State), s.Calm ∧ exec (.phaseFail 1000000000 (0 : Fin 32)) s = .next u) ∧
    (∃ (s u : State), s.Calm ∧ exec (.phaseShedComplete 1000000000 (0 : Fin 32)) s = .next u) ∧
    (∃ (s u : State), s.Calm ∧ exec (.phasePeriodStart 1000000000 (0 : Fin 32)) s = .next u) ∧
    (∃ (s u : State), s.Calm ∧ exec (.bootstrapRefresh 1000000000 (0 : Fin 32)) s = .next u) ∧
    (∃ (s u : State), s.Calm ∧ exec (.negPeakTrip 1000000000 (0 : Fin 32)) s = .next u) ∧
    (∃ (s u : State), s.Calm ∧ exec (.tfltLatch 1000000000 (0 : Fin 32)) s = .next u) ∧
    (∃ (s u : State), s.Calm ∧ exec (.phaseWindowStop 1000000000 (0 : Fin 32)) s = .next u) ∧
    (∃ (s u : State), s.Calm ∧ exec (.sensorFailed 1000000000 (Fin.ofNat 47 0)) s = .next u) :=
  ⟨⟨at_PhaseCurrents_4, _, by decide +kernel, rfl⟩,
    ⟨at_PhaseCurrents_2, _, by decide +kernel, rfl⟩,
    ⟨at_PhaseCurrents_5, _, by decide +kernel, rfl⟩,
    ⟨at_PhasesComeAndGo_3, _, by decide +kernel, rfl⟩,
    ⟨at_PhasesComeAndGo_5, _, by decide +kernel, rfl⟩,
    ⟨at_PhasesComeAndGo_8, _, by decide +kernel, rfl⟩,
    ⟨at_CutsAndLatches_5, _, by decide +kernel, rfl⟩,
    ⟨at_CutsAndLatches_6, _, by decide +kernel, rfl⟩,
    ⟨at_PhaseCurrents_8, _, by decide +kernel, rfl⟩,
    ⟨at_Housekeeping_11, _, by decide +kernel, rfl⟩⟩

/-- For each command of `Obligations.FrameOfWriteCommands`, operands and a state that meet its conditions. -/
theorem test_meets_FrameOfWriteCommands :
    (∃ (s u : State), s.Calm ∧ exec (.storeWr 1000000000 .sess (0 : Fin 8) (BitVec.ofNat 32 0)) s = .next u) ∧
    (∃ (s u : State), s.Calm ∧ exec (.forceTri 1000000000 .spi (0 : Fin 32) (BitVec.ofNat 32 (1 * 2 ^ 31 + at_StartsAndStops_6.get
      F.PWM_CTRL_INVERT (0 : Fin 32) * 2 ^ 30 + at_StartsAndStops_6.get F.PWM_CTRL_SWAP (0 : Fin 32) * 2 ^ 29 +
      at_StartsAndStops_6.get F.PWM_CTRL_BST_N (0 : Fin 32) * 2 ^ 16 + at_StartsAndStops_6.get F.PWM_CTRL_CUT_N (0 : Fin 32) * 2 ^
      8))) s = .next u) ∧
    (∃ (s u : State), s.Calm ∧ exec (.ctxResetWeight 1000000000 .spi 9) s = .next u) ∧
    (∃ (s u : State), s.Calm ∧ exec (.ctxMute 1000000000 .spi 9) s = .next u) ∧
    (∃ (s u : State), s.Calm ∧ exec (.ctxFlush 1000000000 .spi 9) s = .next u) ∧
    (∃ (s u : State), s.Calm ∧ exec (.railClr 1000000000 .spi (BitVec.ofNat 32 (2 ^ (0 : Fin 8).val))) s = .next u) ∧
    (∃ (s u : State), s.Calm ∧ exec (.faultHoldClear 1000000000 .spi) s = .next u) ∧
    (∃ (s u : State), s.Calm ∧ exec (.pkClr 1000000000 .spi (BitVec.ofNat 32 ([F.PK_CTRL_CHG_EN, F.PK_CTRL_LRN_VETO,
      F.PK_CTRL_ICHG_FW].foldl (fun a f => a + at_ChargerAndPack_11.get f * 2 ^ f.pos 0) 0))) s = .next u) ∧
    (∃ (s u : State), s.Calm ∧ exec (.pkTest 1000000000 none) s = .next u) ∧
    (∃ (s u : State), s.Calm ∧ exec (.sessionMboxPush 1000000000 .spi (BitVec.ofNat 32 0)) s = .next u) ∧
    (∃ (s u : State), s.Calm ∧ exec (.loadConsent 1000000000 (0 : Fin 2) (BitVec.ofNat 32 (5046272 + 0xBF * 256 + 1))) s = .next u)
      ∧
    (∃ (s u : State), s.Calm ∧ exec (.recSel 1000000000 .spi 3) s = .next u) ∧
    (∃ (s u : State), s.Calm ∧ exec (.clr 1000000000 .spi) s = .next u) ∧
    (∃ (s u : State), s.Calm ∧ exec (.clrSticky 1000000000 .sess) s = .next u) ∧
    (∃ (s u : State), s.Calm ∧ exec (.pmbClr 1000000000 .spi) s = .next u) :=
  ⟨⟨at_RailEngine_8, _, by decide +kernel, rfl⟩,
    ⟨at_StartsAndStops_6, _, by decide +kernel, rfl⟩,
    ⟨at_LoadHints_10, _, by decide +kernel, rfl⟩,
    ⟨at_LoadHints_11, _, by decide +kernel, rfl⟩,
    ⟨at_LoadHints_12, _, by decide +kernel, rfl⟩,
    ⟨at_RailProtection_8, _, by decide +kernel, rfl⟩,
    ⟨at_SenseAndReferences_16, _, by decide +kernel, rfl⟩,
    ⟨at_ChargerAndPack_11, _, by decide +kernel, rfl⟩,
    ⟨at_ChargerAndPack_17, _, by decide +kernel, rfl⟩,
    ⟨at_Handshake_10, _, by decide +kernel, rfl⟩,
    ⟨at_ConsentsAndTestPort_1, _, by decide +kernel, rfl⟩,
    ⟨at_RecordBanks_1, _, by decide +kernel, rfl⟩,
    ⟨at_RecordBanks_5, _, by decide +kernel, rfl⟩,
    ⟨at_RecordBanks_6, _, by decide +kernel, rfl⟩,
    ⟨at_PmbusTransactions_20, _, by decide +kernel, rfl⟩⟩

/-- For each command of `Obligations.FrameOfPackCommands`, operands and a state that meet its conditions. -/
theorem test_meets_FrameOfPackCommands :
    (∃ (s u : State), s.Calm ∧ exec (.packCapture 1000000000 (BitVec.ofNat 14 0) ((0 : Int) - 20) (BitVec.ofNat 16 0)) s = .next u)
      ∧
    (∃ (s u : State), s.Calm ∧ exec (.coulombCounterUpdate 1000000000 (BitVec.ofNat 16 0)) s = .next u) ∧
    (∃ (s u : State), s.Calm ∧ exec (.chargerInputCheck 1000000000 (0xFF00 + BitVec.ofNat 16 0)) s = .next u) ∧
    (∃ (s u : State), s.Calm ∧ exec (.chargerRetry 1000000000) s = .next u) ∧
    (∃ (s u : State), s.Calm ∧ exec (.chargeTermination 1000000000) s = .next u) ∧
    (∃ (s u : State), s.Calm ∧ exec (.chargerRecharge 1000000000) s = .next u) ∧
    (∃ (s u : State), s.Calm ∧ exec (.chargerPreTimeout 1000000000) s = .next u) ∧
    (∃ (s u : State), s.Calm ∧ exec (.chargerTimerExpiry 1000000000) s = .next u) ∧
    (∃ (s u : State), s.Calm ∧ exec (.chargerOvp 1000000000) s = .next u) ∧
    (∃ (s u : State), s.Calm ∧ exec (.insertionHoldEnd 1000000000) s = .next u) ∧
    (∃ (s u : State), s.Calm ∧ exec (.inputLoss 1000000000) s = .next u) ∧
    (∃ (s u : State), s.Calm ∧ exec (.busGood 1000000000) s = .next u) ∧
    (∃ (s u : State), s.Calm ∧ exec (.packOvercurrent 1000000000) s = .next u) ∧
    (∃ (s u : State), s.Calm ∧ exec (.packReverseCurrent 1000000000 (BitVec.ofNat 14 0)) s = .next u) ∧
    (∃ (s u : State), s.Calm ∧ exec (.holdupProbe 1000000000 (BitVec.ofNat 14 0)) s = .next u) ∧
    (∃ (s u : State), s.Calm ∧ exec (.probeEnd 1000000000 (BitVec.ofNat 14 8840)) s = .next u) ∧
    (∃ (s u : State), s.Calm ∧ exec (.holdupTimeLimit 1000000000) s = .next u) ∧
    (∃ (s u : State), s.Calm ∧ exec (.recoveryRestEnd 1000000000) s = .next u) ∧
    (∃ (s u : State), s.Calm ∧ exec (.packTestRestEnd 1000000000) s = .next u) ∧
    (∃ (s u : State), s.Calm ∧ exec (.packTestMeasure 1000000000) s = .next u) ∧
    (∃ (s u : State), s.Calm ∧ exec (.packTestRetry 1000000000) s = .next u) ∧
    (∃ (s u : State), s.Calm ∧ exec (.learnTimeout 1000000000) s = .next u) ∧
    (∃ (s u : State), s.Calm ∧ exec (.packRecordHourly 1000000000) s = .next u) ∧
    (∃ (s u : State), s.Calm ∧ exec (.chargerSwitchingPeriod 1000000000 (15999 - 0) 3) s = .next u) :=
  ⟨⟨at_ChargerAndPack_13, _, by decide +kernel, rfl⟩,
    ⟨at_ChargerAndPack_15, _, by decide +kernel, rfl⟩,
    ⟨at_ChargerAndPack_1, _, by decide +kernel, rfl⟩,
    ⟨at_ChargerAndPack_3, _, by decide +kernel, rfl⟩,
    ⟨at_ChargerAndPack_6, _, by decide +kernel, rfl⟩,
    ⟨at_ChargerAndPack_7, _, by decide +kernel, rfl⟩,
    ⟨at_ChargerAndPack_8, _, by decide +kernel, rfl⟩,
    ⟨at_ChargerAndPack_9, _, by decide +kernel, rfl⟩,
    ⟨at_ChargerAndPack_10, _, by decide +kernel, rfl⟩,
    ⟨at_ChargerAndPack_12, _, by decide +kernel, rfl⟩,
    ⟨at_HoldUp_1, _, by decide +kernel, rfl⟩,
    ⟨at_HoldUp_4, _, by decide +kernel, rfl⟩,
    ⟨at_HoldUp_6, _, by decide +kernel, rfl⟩,
    ⟨at_HoldUp_7, _, by decide +kernel, rfl⟩,
    ⟨at_HoldUp_8, _, by decide +kernel, rfl⟩,
    ⟨at_HoldUp_10, _, by decide +kernel, rfl⟩,
    ⟨at_HoldUp_12, _, by decide +kernel, rfl⟩,
    ⟨at_HoldUp_13, _, by decide +kernel, rfl⟩,
    ⟨at_ChargerAndPack_19, _, by decide +kernel, rfl⟩,
    ⟨at_ChargerAndPack_20, _, by decide +kernel, rfl⟩,
    ⟨at_ChargerAndPack_21, _, by decide +kernel, rfl⟩,
    ⟨at_ChargerAndPack_22, _, by decide +kernel, rfl⟩,
    ⟨at_ChargerAndPack_23, _, by decide +kernel, rfl⟩,
    ⟨at_ChargerAndPack_4, _, by decide +kernel, rfl⟩⟩

/-- For each command of `Obligations.FrameOfLinkAndSessionCommands`, operands and a state that meet its conditions. -/
theorem test_meets_FrameOfLinkAndSessionCommands :
    (∃ (s u : State), s.Calm ∧ exec (.clkStuck 1000000000 (0 : Fin 2) ⟨(0), (BitVec.ofNat 8 0), (BitVec.ofNat 32 0), 3⟩) s = .next
      u) ∧
    (∃ (s u : State), s.Calm ∧ exec (.hint 1000000000 (0 : Fin 2) (BitVec.ofNat 4 0) ⟨(BitVec.ofNat 32 (((0 : Fin 8) : Fin 8).val *
      2^29 + (0+1) * 2^17 * 93 % 2^29 / 2^17 * 2^17 + 0)), 340⟩) s = .next u) ∧
    (∃ (s u : State), s.Calm ∧ exec (.unhint 1000000000 (0 : Fin 2) (BitVec.ofNat 4 0) (BitVec.ofNat 32 (((0 : Fin 8) : Fin 8).val
      * 2^29))) s = .next u) ∧
    (∃ (s u : State), s.Calm ∧ exec (.read 1000000000 (0 : Fin 2) (BitVec.ofNat 4 0) ([0x0004, 0x10B0, 0x0FFC, 0x5000, 0x7004,
      0x0100].getD 0 0)) s = .next u) ∧
    (∃ (s u : State), s.Calm ∧ exec (.preset 1000000000 (0 : Fin 2) (BitVec.ofNat 4 0) 0xA5A55A5A) s = .next u) ∧
    (∃ (s u : State), s.Calm ∧ exec (.aedatPortSilent 1000000000 (0 : Fin 2)) s = .next u) ∧
    (∃ (s u : State), s.Calm ∧ exec (.hintPhaseRequest 1000000000 (0 : Fin 8) 9 2) s = .next u) ∧
    (∃ (s u : State), s.Calm ∧ exec (.hintRise 1000000000 (0 : Fin 8) 9 2) s = .next u) ∧
    (∃ (s u : State), s.Calm ∧ exec (.hintHoldEnd 1000000000 (0 : Fin 8) 9 2) s = .next u) ∧
    (∃ (s u : State), s.Calm ∧ exec (.hintScore 1000000000 (0 : Fin 8) 9 2) s = .next u) ∧
    (∃ (s u : State), s.Calm ∧ exec (.earlyMiss 1000000000 (0 : Fin 8)) s = .next u) ∧
    (∃ (s u : State), s.Calm ∧ s.mode ≠ .service ∧ exec (.leaseExpiry 1000000000 (Fin.ofNat 5 0)) s = .next u) ∧
    (∃ (s u : State), s.Calm ∧ s.mode = .service ∧ exec (.leaseExpiry 1000000000 (Fin.ofNat 5 0)) s = .next u) ∧
    (∃ (s u : State), s.Calm ∧ exec (.sessionHandshakeTimeout 1000000000) s = .next u) ∧
    (∃ (s u : State), s.Calm ∧ s.mode ≠ .service ∧ exec (.sessionWrite 1000000000) s = .next u) ∧
    (∃ (s u : State), s.Calm ∧ s.mode = .service ∧ exec (.sessionWrite 1000000000) s = .next u) ∧
    (∃ (s u : State), s.Calm ∧ s.mode ≠ .service ∧ exec (.transfer 1000000000) s = .next u) ∧
    (∃ (s u : State), s.Calm ∧ s.mode = .service ∧ exec (.transfer 1000000000) s = .next u) ∧
    (∃ (s u : State), s.Calm ∧ s.mode ≠ .service ∧ exec (.retireKey 1000000000) s = .next u) ∧
    (∃ (s u : State), s.Calm ∧ s.mode = .service ∧ exec (.retireKey 1000000000) s = .next u) ∧
    (∃ (s u : State), s.Calm ∧ s.mode ≠ .service ∧ exec (.addIek 1000000000 12) s = .next u) ∧
    (∃ (s u : State), s.Calm ∧ s.mode = .service ∧ exec (.addIek 1000000000 12) s = .next u) ∧
    (∃ (s u : State), s.Calm ∧ s.mode ≠ .service ∧ exec (.retireIek 1000000000) s = .next u) ∧
    (∃ (s u : State), s.Calm ∧ s.mode = .service ∧ exec (.retireIek 1000000000) s = .next u) ∧
    (∃ (s u : State), s.Calm ∧ s.mode ≠ .service ∧ exec (.tapDisable 1000000000) s = .next u) ∧
    (∃ (s u : State), s.Calm ∧ s.mode = .service ∧ exec (.tapDisable 1000000000) s = .next u) ∧
    (∃ (s u : State), s.Calm ∧ s.mode ≠ .service ∧ exec (.decommission 1000000000) s = .next u) ∧
    (∃ (s u : State), s.Calm ∧ s.mode = .service ∧ exec (.decommission 1000000000) s = .next u) ∧
    (∃ (s u : State), s.Calm ∧ exec (.recAutoAdvance 1000000000 .spi) s = .next u) ∧
    (∃ (s u : State), s.Calm ∧ exec (.journalDeferRetry 1000000000 (BitVec.ofNat 11 400)) s = .next u) ∧
    (∃ (s u : State), s.Calm ∧ exec (.spiFrameError 1000000000 80 (BitVec.ofNat 80 (0 * 0x456789123456789123))) s = .next u) ∧
    (∃ (s u : State), s.Calm ∧ exec (.clearFaults 1000000000 (at_PmbusTransactions_19.sent 0x03 [])) s = .next u) ∧
    (∃ (s u : State), s.Calm ∧ exec (.mfrRecData 1000000000 .read) s = .next u) ∧
    (∃ (s u : State), s.Calm ∧ exec (.pmbusInvalidCommand 1000000000 (BitVec.ofNat 8 (0xF0 + 0)) (.read)) s = .next u) ∧
    (∃ (s u : State), s.Calm ∧ exec (.cjOwnSlotReturn 1000000000 0 0 (BitVec.ofNat 2 0) (BitVec.ofNat 48 0) (BitVec.ofNat 16 (cjCrc
      0 0 (BitVec.ofNat 2 0).toNat (BitVec.ofNat 48 0).toNat)) false) s = .next u) ∧
    (∃ (s u : State), s.Calm ∧ exec (.target 1000000000 0 (BitVec.ofNat 2 0) (BitVec.ofNat 48 (0 * 2 ^ 45 + 0 * 2 ^ 33 + 30000 * 2
      ^ 16 + (65536 - 1 - 0))) (BitVec.ofNat 16 (cjCrc 1 0 (BitVec.ofNat 2 0).toNat (BitVec.ofNat 48 (0 * 2 ^ 45 + 0 * 2 ^ 33 +
      30000 * 2 ^ 16 + (65536 - 1 - 0))).toNat)) false) s = .next u) ∧
    (∃ (s u : State), s.Calm ∧ exec (.railinfo 1000000000 0 (BitVec.ofNat 2 0) (BitVec.ofNat 48 (0 * 2 ^ 45 + 3 * 2 ^ 41 + 3 * 2 ^
      33 + 500 * 2 ^ 16 + 0 * 2 ^ 12 + 0 * 2 ^ 11)) (BitVec.ofNat 16 (cjCrc 2 0 (BitVec.ofNat 2 0).toNat (BitVec.ofNat 48 (0 * 2 ^
      45 + 3 * 2 ^ 41 + 3 * 2 ^ 33 + 500 * 2 ^ 16 + 0 * 2 ^ 12 + 0 * 2 ^ 11)).toNat)) false) s = .next u) ∧
    (∃ (s u : State), s.Calm ∧ exec (.mstat 1000000000 1 (BitVec.ofNat 2 0) (BitVec.ofNat 48 (1 * 2 ^ 38 + 9 * 2 ^ 32 + 400 * 2 ^
      16 + 0)) (BitVec.ofNat 16 (cjCrc 3 1 (BitVec.ofNat 2 0).toNat (BitVec.ofNat 48 (1 * 2 ^ 38 + 9 * 2 ^ 32 + 400 * 2 ^ 16 +
      0)).toNat)) false) s = .next u) ∧
    (∃ (s u : State), s.Calm ∧ exec (.railev 1000000000 2 (BitVec.ofNat 2 0) (BitVec.ofNat 48 (0 * 2 ^ 45 + 5 * 2 ^ 41 + 0 * 2 ^ 37
      + 0 * 2 ^ 33)) (BitVec.ofNat 16 (cjCrc 4 2 (BitVec.ofNat 2 0).toNat (BitVec.ofNat 48 (0 * 2 ^ 45 + 5 * 2 ^ 41 + 0 * 2 ^ 37 +
      0 * 2 ^ 33)).toNat)) false) s = .next u) ∧
    (∃ (s u : State), s.Calm ∧ exec (.join 1000000000 1 (BitVec.ofNat 2 0) (BitVec.ofNat 48 (0x3208 * 2 ^ 32 + 77 * 2 ^ 8))
      (BitVec.ofNat 16 (cjCrc 5 1 (BitVec.ofNat 2 0).toNat (BitVec.ofNat 48 (0x3208 * 2 ^ 32 + 77 * 2 ^ 8)).toNat)) false) s =
      .next u) ∧
    (∃ (s u : State), s.Calm ∧ exec (.leaderLost 1000000000) s = .next u) ∧
    (∃ (s u : State), s.Calm ∧ exec (.memberLost 1000000000 (Fin.ofNat 4 0)) s = .next u) :=
  ⟨⟨at_AedatLine_6, _, by decide +kernel, rfl⟩,
    ⟨at_AedatFrames_7, _, by decide +kernel, rfl⟩,
    ⟨at_AedatFrames_8, _, by decide +kernel, rfl⟩,
    ⟨at_AedatFrames_9, _, by decide +kernel, rfl⟩,
    ⟨at_AedatFrames_17, _, by decide +kernel, rfl⟩,
    ⟨at_AedatLine_10, _, by decide +kernel, rfl⟩,
    ⟨at_LoadHints_3, _, by decide +kernel, rfl⟩,
    ⟨at_LoadHints_4, _, by decide +kernel, rfl⟩,
    ⟨at_LoadHints_6, _, by decide +kernel, rfl⟩,
    ⟨at_LoadHints_7, _, by decide +kernel, rfl⟩,
    ⟨at_LoadHints_9, _, by decide +kernel, rfl⟩,
    ⟨at_SenseAndReferences_17.md .regulate, _, by decide +kernel, by decide +kernel, rfl⟩,
    ⟨at_SenseAndReferences_17.md .service, _, by decide +kernel, by decide +kernel, rfl⟩,
    ⟨at_Handshake_8, _, by decide +kernel, rfl⟩,
    ⟨at_SessionCommands_4.md .regulate, _, by decide +kernel, by decide +kernel, rfl⟩,
    ⟨at_SessionCommands_4.md .service, _, by decide +kernel, by decide +kernel, rfl⟩,
    ⟨at_SessionCommands_15.md .regulate, _, by decide +kernel, by decide +kernel, rfl⟩,
    ⟨at_SessionCommands_15.md .service, _, by decide +kernel, by decide +kernel, rfl⟩,
    ⟨at_SessionCommands_17.md .regulate, _, by decide +kernel, by decide +kernel, rfl⟩,
    ⟨at_SessionCommands_17.md .service, _, by decide +kernel, by decide +kernel, rfl⟩,
    ⟨at_SessionCommands_20.md .regulate, _, by decide +kernel, by decide +kernel, rfl⟩,
    ⟨at_SessionCommands_20.md .service, _, by decide +kernel, by decide +kernel, rfl⟩,
    ⟨at_SessionCommands_21.md .regulate, _, by decide +kernel, by decide +kernel, rfl⟩,
    ⟨at_SessionCommands_21.md .service, _, by decide +kernel, by decide +kernel, rfl⟩,
    ⟨at_SessionCommands_22.md .regulate, _, by decide +kernel, by decide +kernel, rfl⟩,
    ⟨at_SessionCommands_22.md .service, _, by decide +kernel, by decide +kernel, rfl⟩,
    ⟨at_SessionCommands_23.md .regulate, _, by decide +kernel, by decide +kernel, rfl⟩,
    ⟨at_SessionCommands_23.md .service, _, by decide +kernel, by decide +kernel, rfl⟩,
    ⟨at_RecordBanks_3, _, by decide +kernel, rfl⟩,
    ⟨at_JournalCommits_10, _, by decide +kernel, rfl⟩,
    ⟨at_HostSpi_10, _, by decide +kernel, rfl⟩,
    ⟨at_PmbusTransactions_19, _, by decide +kernel, rfl⟩,
    ⟨at_PmbusManufacturer_14, _, by decide +kernel, rfl⟩,
    ⟨at_PmbusTransactions_16, _, by decide +kernel, rfl⟩,
    ⟨at_LinkFrames_4, _, by decide +kernel, rfl⟩,
    ⟨at_SpanningRail_1, _, by decide +kernel, rfl⟩,
    ⟨at_SpanningRail_4, _, by decide +kernel, rfl⟩,
    ⟨at_LinkFrames_16, _, by decide +kernel, rfl⟩,
    ⟨at_SpanningRail_8, _, by decide +kernel, rfl⟩,
    ⟨at_LinkFrames_12, _, by decide +kernel, rfl⟩,
    ⟨at_SpanningRail_10, _, by decide +kernel, rfl⟩,
    ⟨at_LinkFrames_18, _, by decide +kernel, rfl⟩⟩

end Sys2Proof.Machine
end

section
/-!
Every step keeps the sparse stores in canonical form (`State.Canonical`, log entry 11), and no command names the part. `Kept` says so of two
states; it is carried through every operation of the model, one lemma per operation in the model's order, each the operation's own
pipeline read as a proof, and at the end through every command.
-/
namespace Sys2Proof.Machine

/-- The seven sparse stores and the part number, as the steps of the machine leave them: the part is the same, and stores in
canonical form stay so. -/
structure Kept (b s : State) : Prop where
  part : s.cz1604 = b.cz1604
  stores : b.Canonical → s.Canonical

variable {b₀ s : State}

theorem Kept.refl (s : State) : Kept s s := ⟨rfl, id⟩
theorem Kept.trans {a b c : State} (h : Kept a b) (g : Kept b c) : Kept a c := ⟨g.part.trans h.part, g.stores ∘ h.stores⟩

/-- An update that gives every store a canonical form, where the stores had theirs, keeps them. -/
theorem Kept.into (h : Kept b₀ s) {x : State} (hp : x.cz1604 = s.cz1604) (hx : s.Canonical → x.Canonical) : Kept b₀ x :=
  h.trans ⟨hp, hx⟩

/-! ## Updates of other parts of the state -/

/-- The stores are as they were. -/
theorem Kept.withParts (h : Kept b₀ s) {now pending mode pow br par mirPh mirRail phases rails ports rcd spi cj otp sec tlm pk th ctx0
    code entry} :
    Kept b₀ ⟨now, pending, s.cz1604, mode, s.regs, s.img, pow, br, par, s.sets, mirPh, mirRail, phases, rails, ports, rcd, spi, s.pmb, cj,
      otp, sec, tlm, s.jrn, pk, th, ctx0, s.ctxs, s.rings, code, entry⟩ := ⟨h.part, h.stores⟩

/-- Beside other parts, the PMBus interface changes, and not its masks. -/
theorem Kept.withPmb (h : Kept b₀ s) {now pending mode pow br par mirPh mirRail phases rails ports rcd spi cj otp sec tlm pk th ctx0
    code entry regAddr regData regStatus regBusy stretch pubSel maskCmd released seen out nack} :
    Kept b₀ ⟨now, pending, s.cz1604, mode, s.regs, s.img, pow, br, par, s.sets, mirPh, mirRail, phases, rails, ports, rcd, spi,
      ⟨regAddr, regData, regStatus, regBusy, stretch, pubSel, maskCmd, s.pmb.masks, released, seen, out, nack⟩, cj,
      otp, sec, tlm, s.jrn, pk, th, ctx0, s.ctxs, s.rings, code, entry⟩ := ⟨h.part, h.stores⟩

/-- Beside other parts, the journal changes, and not its memory. -/
theorem Kept.withJrn (h : Kept b₀ s) {now pending mode pow br par mirPh mirRail phases rails ports rcd spi cj otp sec tlm pk th ctx0
    code entry pend hist hseq busy lastAt deferred deferAt changed lost ctN ctLast fw} :
    Kept b₀ ⟨now, pending, s.cz1604, mode, s.regs, s.img, pow, br, par, s.sets, mirPh, mirRail, phases, rails, ports, rcd, spi, s.pmb, cj,
      otp, sec, tlm, ⟨s.jrn.mram, pend, hist, hseq, busy, lastAt, deferred, deferAt, changed, lost, ctN, ctLast, fw⟩, pk, th, ctx0,
      s.ctxs, s.rings, code, entry⟩ := ⟨h.part, h.stores⟩

/-- Every part may change, and the stores in canonical form give stores in canonical form. -/
theorem Kept.rebuilt (h : Kept b₀ s) {now pending mode regs img pow br par sets mirPh mirRail phases rails ports rcd spi pmb cj otp sec
    tlm jrn pk th ctx0 ctxs rings code entry}
    (hx : s.Canonical → Store.wf regs ∧ Store.wf img ∧ Store.wf sets ∧ Store.wf ctxs ∧ Store.wf rings ∧ pmb.masks.wf ∧ jrn.mram.wf) :
    Kept b₀ ⟨now, pending, s.cz1604, mode, regs, img, pow, br, par, sets, mirPh, mirRail, phases, rails, ports, rcd, spi, pmb, cj,
      otp, sec, tlm, jrn, pk, th, ctx0, ctxs, rings, code, entry⟩ := ⟨h.part, fun hb => hx (h.stores hb)⟩

/-- The journal's memory keeps its canonical form. -/
theorem Kept.putJrn (h : Kept b₀ s) {j : Journal} (hj : s.jrn.mram.wf → j.mram.wf) : Kept b₀ { s with jrn := j } :=
  h.into rfl fun ⟨hr, hi, hs, hc, hg, hm, hw⟩ => ⟨hr, hi, hs, hc, hg, hm, hj hw⟩

/-! ## Branches and loops -/

theorem Kept.ite {c : Prop} {d : Decidable c} {x y : State} (hx : Kept b₀ x) (hy : Kept b₀ y) : Kept b₀ (@ite _ c d x y) := by
  split <;> assumption
theorem Kept.dite {c : Prop} {d : Decidable c} {x : c → State} {y : ¬c → State} (hx : ∀ a, Kept b₀ (x a)) (hy : ∀ a, Kept b₀ (y a)) :
    Kept b₀ (@dite _ c d x y) := by
  split
  · exact hx _
  · exact hy _
theorem Kept.when (h : Kept b₀ s) {c : Bool} {f : State → State} (hf : ∀ x, Kept b₀ x → Kept b₀ (f x)) : Kept b₀ (s.when c f) :=
  .ite (hf _ h) h
theorem Kept.foldl {α : Type} {f : State → α → State} {l : List α} (h : Kept b₀ s) (hf : ∀ x a, Kept b₀ x → Kept b₀ (f x a)) :
    Kept b₀ (l.foldl f s) :=
  List.foldlRecOn l f h fun x hx a _ => hf x a hx
theorem Kept.onRails (h : Kept b₀ s) {f : State → Fin 8 → State} (hf : ∀ x r, Kept b₀ x → Kept b₀ (f x r)) :
    Kept b₀ (s.onRails f) := h.foldl hf
theorem Kept.onPhases (h : Kept b₀ s) {f : State → Fin 32 → State} (hf : ∀ x n, Kept b₀ x → Kept b₀ (f x n)) :
    Kept b₀ (s.onPhases f) := h.foldl hf

/-! ## Stores built by loops -/

theorem Store.wf_foldl {α : Type} {f : Store → α → Store} {l : List α} {m : Store} (h : m.wf) (hf : ∀ x a, x.wf → (f x a).wf) :
    (l.foldl f m).wf :=
  List.foldlRecOn (motive := Store.wf) l f h fun x hx a _ => hf x a hx

/-- Reset values are written one by one onto the entries that stay. -/
theorem resetRegs_wf {m : Store} (h : m.wf) (p : Fld → Bool) : (resetRegs m p).wf :=
  Store.wf_foldl (Store.wf_drop h _) fun _ _ hx => Store.wf_foldl hx fun _ _ hy => Store.wf_set hy _ _

theorem mramWrite_wf {m : Store} (h : m.wf) (w : Nat) (l : List Byte) : (mramWrite m w l).wf := by
  fun_induction mramWrite m w l with
  | case1 => exact h
  | case2 m w b0 b1 b2 b3 l ih => exact ih (Store.wf_set h _ _)
  | case3 => exact Store.wf_set h _ _

/-- The words of a list stand under rising keys, and those that are 0 are left out. -/
theorem Store.ofWords_wf (l : List Nat) : (Store.ofWords l).wf := by
  constructor
  · have hz : l.zipIdx.Pairwise (fun x y => x.2 < y.2) := by
      rw [List.pairwise_iff_getElem]
      intro i j hi hj hij
      simpa using hij
    exact (hz.filter _).map _ fun _ _ hxy => hxy
  · intro c hc
    obtain ⟨x, hx, rfl⟩ := List.mem_map.1 hc
    simpa using (List.mem_filter.1 hx).2

/-! ## Journal -/

theorem Journal.put_mram (j : Journal) (k : Nat) (b : List Byte) : (j.put k b).mram = j.mram := rfl
theorem Journal.begin_wf {j : Journal} (h : j.mram.wf) (k : Nat) (b : List Byte) : (j.begin k b).mram.wf := by
  unfold Journal.begin
  split <;> exact mramWrite_wf h _ _
theorem Journal.finish_wf {j : Journal} (h : j.mram.wf) (k now : Nat) : (j.finish k now).mram.wf := by
  unfold Journal.finish
  split <;> dsimp only <;> exact Store.wf_set h _ _

theorem State.reset_canonical : State.reset.Canonical := by
  have hr : (resetRegs [] fun _ => true).wf := resetRegs_wf Store.wf_nil _
  unfold State.Canonical State.reset
  dsimp only
  generalize (resetRegs [] fun _ => true) = m at hr ⊢
  exact ⟨Store.wf_foldl hr fun _ _ hx => Store.wf_set hx _ _, Store.wf_nil, Store.wf_nil, Store.wf_nil, Store.wf_nil, Store.wf_nil,
    Store.wf_nil⟩

/-! ## Register fields -/

theorem Kept.set (h : Kept b₀ s) {f : Fld} {i v : Nat} : Kept b₀ (s.set f i v) :=
  h.into rfl fun ⟨hr, hs⟩ => ⟨Store.wf_set hr _ _, hs⟩
theorem Kept.load (h : Kept b₀ s) {f : Fld} {i v : Nat} : Kept b₀ (s.load f i v) :=
  h.into rfl fun ⟨hr, hi, hs⟩ => ⟨Store.wf_set hr _ _, Store.wf_set hi _ _, hs⟩

/-! ## The operations of the model, in its order -/

/-! ### State -/

/-- A power-on reset keeps the part and the journal's memory. -/
theorem Kept.keep (h : Kept b₀ s) : Kept b₀ (State.reset.keep s) := by
  have hz := State.reset_canonical
  generalize State.reset = z at hz
  obtain ⟨hr, hi, hs, hc, hg, hm, -⟩ := hz
  exact h.into rfl fun ⟨_, _, _, _, _, _, hw⟩ => ⟨hr, hi, hs, hc, hg, hm, hw⟩

/-! ### Ops -/

theorem Kept.at (h : Kept b₀ s) {t : Nat} : Kept b₀ (s.at t) := h.withParts
theorem Kept.setI (h : Kept b₀ s) {f : Fld} {i : Nat} {v : Int} : Kept b₀ (s.setI f i v) := h.set
theorem Kept.mark (h : Kept b₀ s) {f : Fld} {i : Nat} : Kept b₀ (s.mark f i) := h.set
theorem Kept.clear (h : Kept b₀ s) {f : Fld} {i : Nat} : Kept b₀ (s.clear f i) := h.set
theorem Kept.setB (h : Kept b₀ s) {f : Fld} {i : Nat} {b : Bool} : Kept b₀ (s.setB f i b) := h.set
theorem Kept.inc (h : Kept b₀ s) {f : Fld} {i : Nat} : Kept b₀ (s.inc f i) := h.set
theorem Kept.incWrap (h : Kept b₀ s) {f : Fld} {i : Nat} : Kept b₀ (s.incWrap f i) := h.set
theorem Kept.modRail (h : Kept b₀ s) {r : Fin 8} {f : Rail → Rail} : Kept b₀ (s.modRail r f) := h.withParts
theorem Kept.modPh (h : Kept b₀ s) {n : Fin 32} {f : Phase → Phase} : Kept b₀ (s.modPh n f) := h.withParts
theorem Kept.modEng (h : Kept b₀ s) {r : Fin 8} {f : Engine → Engine} : Kept b₀ (s.modEng r f) := h.modRail
theorem Kept.modFr (h : Kept b₀ s) {r : Fin 8} {f : Front → Front} : Kept b₀ (s.modFr r f) := h.modRail
theorem Kept.modSp (h : Kept b₀ s) {r : Fin 8} {f : SetPt → SetPt} : Kept b₀ (s.modSp r f) := h.modRail
theorem Kept.setSw (h : Kept b₀ s) {n : Fin 32} {w : Sw} : Kept b₀ (s.setSw n w) := h.modPh
theorem Kept.setLevel (h : Kept b₀ s) {n : Fin 32} {l : Level} : Kept b₀ (s.setLevel n l) := h.set
theorem Kept.toLevelAt (h : Kept b₀ s) {n : Fin 32} {l : Level} {tk : Nat} : Kept b₀ (s.toLevelAt n l tk) := Kept.ite h h.modPh.setLevel
theorem Kept.toLevel (h : Kept b₀ s) {n : Fin 32} {l : Level} : Kept b₀ (s.toLevel n l) := h.toLevelAt
theorem Kept.triRail (h : Kept b₀ s) {r : Fin 8} : Kept b₀ (s.triRail r) := h.foldl fun _ _ hx => hx.toLevel
theorem Kept.place (h : Kept b₀ s) {r : Fin 8} : Kept b₀ (s.place r) :=
  List.foldlRecOn (motive := fun x : State × Nat => Kept b₀ x.1) _ _ h fun _ hx _ _ => hx.set.when fun _ hy => hy.modPh
theorem Kept.leftStart (h : Kept b₀ s) {r : Fin 8} : Kept b₀ (s.leftStart r) := h.modFr
theorem Kept.setRail (h : Kept b₀ s) {r : Fin 8} {st : RailState} : Kept b₀ (s.setRail r st) := by
  unfold State.setRail
  extract_lets moved left parked
  have hm : Kept b₀ moved := h.modRail
  have hl : Kept b₀ left := .ite hm.leftStart hm
  have hp : Kept b₀ parked := .ite (hl.foldl fun _ _ hx => .ite hx hx.setSw) (.ite (hl.foldl fun _ _ hx => .ite hx hx.setSw) hl)
  have hg : Kept b₀ (if st == .reg || st == .shed || st == .caretaken then parked else
      ((parked.clear F.RP_STATUS_PGOOD_ST r).clear F.RP_STATUS_UV_RD r).modFr r (fun f => { f with uvRun := 0 })) :=
    .ite hp hp.clear.clear.modFr
  exact .ite hg hg.modFr
theorem Kept.setSen (h : Kept b₀ s) {r : Fin 8} {b : Bool} : Kept b₀ (s.setSen r b) := h.setB
theorem Kept.railRest (h : Kept b₀ s) {r : Fin 8} {st : RailState} : Kept b₀ (s.railRest r st) := by
  unfold State.railRest
  exact h.setRail.setSen.modEng.modFr
theorem Kept.railOff (h : Kept b₀ s) {r : Fin 8} : Kept b₀ (s.railOff r) := h.railRest.clear.clear.modEng
theorem Kept.emit (h : Kept b₀ s) {e : Evt} {react : React} : Kept b₀ (s.emit e react) :=
  Kept.ite (Kept.ite (by
        split
        · exact h.withParts
        · exact h) h.withParts)
    h.withParts
theorem Kept.pmbBits (h : Kept b₀ s) {f : Fld} {r v : Nat} : Kept b₀ (s.pmbBits f r v) := h.set
theorem Kept.pmbRec (h : Kept b₀ s) {code unit : Nat} {items : List (Nat × Int)} : Kept b₀ (s.pmbRec code unit items) :=
  Kept.ite h.pmbBits.pmbBits (Kept.ite h.pmbBits.pmbBits (Kept.ite (Kept.ite h.pmbBits h) (Kept.ite (h.foldl fun _ _ hx => hx.pmbBits)
    (Kept.ite (Kept.ite (h.foldl fun _ _ hx => hx.pmbBits) (Kept.ite (h.foldl fun _ _ hx => hx.pmbBits) h)) (Kept.ite h.pmbBits (Kept.ite
    h.pmbBits (Kept.ite h.pmbBits (Kept.ite (h.foldl fun _ _ hx => hx.pmbBits) h))))))))
theorem Kept.raise (h : Kept b₀ s) {front : Bool} {code unit : Nat} {items : List (Nat × Int)} {react : React} :
    Kept b₀ (s.raise front code unit items react) := Kept.ite (Kept.ite h.pmbRec.withParts h.pmbRec.withParts.emit) h.pmbRec.emit
theorem Kept.logF (h : Kept b₀ s) {code unit : Nat} {items : List (Nat × Int)} {react : React} : Kept b₀ (s.logF code unit items react) :=
  h.raise
theorem Kept.logC (h : Kept b₀ s) {code unit : Nat} {items : List (Nat × Int)} : Kept b₀ (s.logC code unit items) := h.raise
theorem Kept.modPort (h : Kept b₀ s) {p : Fin 2} {f : Port → Port} : Kept b₀ (s.modPort p f) := h.withParts
theorem Kept.noteOn (h : Kept b₀ s) {p : Fin 2} {x : Notice} : Kept b₀ (s.noteOn p x) :=
  Kept.ite (h.modPort.when fun _ hx => hx.mark.logC) h
theorem Kept.noteRail (h : Kept b₀ s) {r : Fin 8} {kind word : Nat} : Kept b₀ (s.noteRail r kind word) :=
  h.foldl fun _ _ hx => Kept.ite hx.noteOn hx
theorem Kept.noteAll (h : Kept b₀ s) {kind word : Nat} : Kept b₀ (s.noteAll kind word) := h.foldl fun _ _ hx => hx.noteOn
theorem Kept.enter (h : Kept b₀ s) {n : Nat} {m : Mode} : Kept b₀ (s.enter n m) := by
  unfold State.enter
  exact h.set.set.withParts.raise
theorem Kept.endLs (h : Kept b₀ s) {r : Fin 8} : Kept b₀ (s.endLs r) :=
  Kept.clear (Kept.clear (Kept.clear (Kept.clear (Kept.foldl (Kept.modFr (h.when fun _ hx => hx.logF)) fun _ _ hx => hx.modPh))))
theorem Kept.fastStop (h : Kept b₀ s) {r : Fin 8} : Kept b₀ (s.fastStop r) := h.endLs.triRail.setSen.modFr.clear
theorem Kept.latchNow (h : Kept b₀ s) {r : Fin 8} {cause : Nat} : Kept b₀ (s.latchNow r cause) := h.railRest.set.logF
theorem Kept.softStop (h : Kept b₀ s) {r : Fin 8} {k : StopKind} {cause : Nat} : Kept b₀ (s.softStop r k cause) := by
  unfold State.softStop
  split
  · exact h.setRail.clear.modEng.modFr
  · exact h.setRail.clear.modEng.modFr
  · exact h.setRail.clear.modEng.modFr
  · exact h.setRail.clear.modEng.modFr
  · exact h.modFr
  · exact h
theorem Kept.disarm (h : Kept b₀ s) {r : Fin 8} : Kept b₀ (s.disarm r) := by
  unfold State.disarm
  split
  · exact h.railOff
  · exact h.railOff
  · exact h
theorem Kept.stopInOrder (h : Kept b₀ s) {mask : Nat} : Kept b₀ (s.stopInOrder mask) := h.withParts
theorem Kept.stopRound (h : Kept b₀ s) : Kept b₀ s.stopRound := by
  unfold State.stopRound
  dsimp only
  split
  · exact Kept.ite h.withParts h.withParts.softStop
  · exact h.withParts
theorem Kept.enterSafestop (h : Kept b₀ s) {n : Nat} : Kept b₀ (s.enterSafestop n) := by
  unfold State.enterSafestop
  exact Kept.enter (h.mark.onRails fun _ _ hx => hx.disarm)
theorem Kept.dlStop (h : Kept b₀ s) {cause : Nat} : Kept b₀ (s.dlStop cause) :=
  h.onRails
    fun _ _ hx =>
      Kept.ite hx.softStop
        (by
          split
          · exact hx.fastStop.railOff
          · exact hx.fastStop.railOff
          · exact hx.fastStop.railOff
          · exact hx.fastStop.railOff
          · exact hx.fastStop.railOff
          · exact hx.fastStop.railOff
          · exact hx.fastStop.railOff
          · exact hx)
theorem Kept.refuse (h : Kept b₀ s) {res rail : Nat} : Kept b₀ (s.refuse res rail) :=
  Kept.ite h (h.set.inc.withParts.logF.onRails fun _ _ hx => Kept.ite hx.softStop.modFr hx)
theorem Kept.deviceLatch (h : Kept b₀ s) {cause : Nat} : Kept b₀ (s.deviceLatch cause) := by
  unfold State.deviceLatch
  dsimp only
  exact Kept.ite h
      (by
        split
        · exact h.set.mark.raise
        · exact h.set.mark.raise
        · exact h.set.mark.raise.enterSafestop
        · exact h.set.mark.raise.dlStop
        · exact h.set.mark.raise.dlStop.withParts.refuse
        · exact h.set.mark.raise.dlStop.enterSafestop)
theorem Kept.railLatch (h : Kept b₀ s) {r : Fin 8} {cause : Nat} {fast : Bool} : Kept b₀ (s.railLatch r cause fast) :=
  (Kept.ite h.fastStop.latchNow h.softStop).when fun _ hx => hx.deviceLatch
theorem Kept.retry (h : Kept b₀ s) {r : Fin 8} {ph : Nat} : Kept b₀ (s.retry r ph) :=
  Kept.ite (h.fastStop.latchNow.when fun _ hx => hx.deviceLatch) (Kept.ite h.fastStop.railOff (Kept.ite (h.fastStop.logF.latchNow.when
    fun _ hx => hx.deviceLatch) h.fastStop.inc.inc.setRail.modFr.logF))
theorem Kept.checkMinLive (h : Kept b₀ s) {r : Fin 8} : Kept b₀ (s.checkMinLive r) := Kept.ite h.logF.railLatch h
theorem Kept.triNext (h : Kept b₀ s) {n : Fin 32} : Kept b₀ (s.triNext n) := h.modPh
theorem Kept.stopPhase (h : Kept b₀ s) {n : Fin 32} : Kept b₀ (s.stopPhase n) := h.triNext.setSw.place
theorem Kept.failAlert (h : Kept b₀ s) {r : Fin 8} : Kept b₀ (s.failAlert r) := h.pmbBits
theorem Kept.cml (h : Kept b₀ s) {v : Nat} : Kept b₀ (s.cml v) := h.pmbBits

/-! ### Hints -/

theorem Kept.putCtxWord (h : Kept b₀ s) {x n : Nat} : Kept b₀ (s.putCtxWord x n) :=
  h.into rfl fun ⟨hr, hi, hs, hc, hg⟩ => ⟨hr, hi, hs, Store.wf_set hc _ _, hg⟩
theorem Kept.putCtx (h : Kept b₀ s) {x : Nat} {c : Ctx} : Kept b₀ (s.putCtx x c) := h.putCtxWord
theorem Kept.putHints (h : Kept b₀ s) {r : Fin 8} {l : List Hint} : Kept b₀ (s.putHints r l) := h.modRail.set
theorem Kept.putF (h : Kept b₀ s) {r : Fin 8} : Kept b₀ (s.putF r) := Kept.ite h (Kept.ite h.setI.modEng.mark h.setI.modEng)
theorem Kept.ctxCheck (h : Kept b₀ s) {x : Nat} : Kept b₀ (s.ctxCheck x) :=
  Kept.ite h (Kept.logC (h.putCtx.onRails fun _ _ hx => Kept.ite hx.putHints.putF hx))
theorem Kept.ctxRefill (h : Kept b₀ s) {x : Nat} : Kept b₀ (s.ctxRefill x) := h.ctxCheck.putCtx
theorem Kept.freeSlot (h : Kept b₀ s) {hint : Hint} : Kept b₀ (s.freeSlot hint) := h.ctxCheck.putCtx
theorem Kept.retire (h : Kept b₀ s) {r : Fin 8} {p : Hint → Bool} : Kept b₀ (s.retire r p) :=
  Kept.putHints (h.foldl fun _ _ hx => hx.freeSlot)
theorem Kept.noteTense (h : Kept b₀ s) {r : Fin 8} {event w value : Nat} : Kept b₀ (s.noteTense r event w value) := h.noteRail
theorem Kept.judge (h : Kept b₀ s) {r : Fin 8} {x : Nat} {hit : Bool} : Kept b₀ (s.judge r x hit) :=
  Kept.ite h.ctxCheck (Kept.ite h.putCtx.inc.noteTense.logC (Kept.ite h.putCtx.inc.noteTense.logC h.putCtx.inc))
theorem Kept.unwindMiss (h : Kept b₀ s) {r : Fin 8} {p : Hint → Bool} : Kept b₀ (s.unwindMiss r p) :=
  h.putHints.foldl fun _ _ hx => Kept.ite hx hx.judge
theorem Kept.missRun (h : Kept b₀ s) {r : Fin 8} : Kept b₀ (s.missRun r) := by
  unfold State.missRun
  exact h.modEng
theorem Kept.tenseStep (h : Kept b₀ s) {r : Fin 8} : Kept b₀ (s.tenseStep r) := by
  unfold State.tenseStep
  dsimp only
  exact Kept.ite h
      (Kept.missRun (Kept.ite (by
            split
            · exact Kept.ite h.putHints.retire.putF.logC h.putHints.retire.putF.logC.noteTense.modEng
            · exact h.putHints.retire.putF.logC.noteTense.modEng) h.putHints.retire.putF))
theorem Kept.tripHints (h : Kept b₀ s) {r : Fin 8} {positive : Bool} : Kept b₀ (s.tripHints r positive) := h.putHints
theorem Kept.discard (h : Kept b₀ s) {r : Fin 8} {cause : Nat} : Kept b₀ (s.discard r cause) :=
  Kept.ite h h.retire.putF.mark.noteTense.logC
theorem Kept.clampRound (h : Kept b₀ s) : Kept b₀ s.clampRound := h.onRails fun _ _ hx => Kept.ite hx.putF hx
theorem Kept.hintRound (h : Kept b₀ s) : Kept b₀ s.hintRound :=
  h.onRails fun _ _ hx => Kept.ite hx (Kept.ite hx.discard (Kept.ite hx.discard (Kept.ite hx.discard hx)))
theorem Kept.clearValid (h : Kept b₀ s) : Kept b₀ s.clearValid :=
  h.into rfl fun ⟨hr, hi, hs, _, hg⟩ => ⟨hr, hi, hs, Store.wf_foldl Store.wf_nil fun _ _ hx => by
    dsimp only
    split <;> exact Store.wf_set hx _ _, hg⟩
theorem Kept.initCtxs (h : Kept b₀ s) : Kept b₀ s.initCtxs := by
  unfold State.initCtxs
  generalize s.ctxInit.word = n
  exact h.rebuilt fun ⟨hr, hi, hs, _, _, hm⟩ => ⟨hr, hi, hs, Store.wf_nil, Store.wf_nil, hm⟩

/-! ### Jrn -/

theorem Kept.journalChanged (h : Kept b₀ s) {k : Nat} : Kept b₀ (s.journalChanged k) := h.putJrn id
theorem Kept.journalRequeue (h : Kept b₀ s) : Kept b₀ s.journalRequeue := h.foldl fun _ _ hx => Kept.ite hx.journalChanged hx
theorem Kept.keepMarked (h : Kept b₀ s) {old : State} : Kept b₀ (s.keepMarked old) :=
  Kept.when (Kept.when (h.when fun _ hx => hx.onPhases fun _ _ hy => hy.set) fun _ hx => hx.onPhases fun _ _ hy => hy.load.load)
    fun _ hx => hx.set
theorem Kept.jrnDefer (h : Kept b₀ s) {k cause : Nat} : Kept b₀ (s.jrnDefer k cause) := by
  unfold State.jrnDefer
  exact Kept.logC (Kept.mark (Kept.set (Kept.mark h.withJrn)))
theorem Kept.jrnEval (h : Kept b₀ s) {vs : Nat} : Kept b₀ (s.jrnEval vs) := by
  unfold State.jrnEval
  refine Kept.ite h ?_
  split
  · exact h
  · exact Kept.ite h.set.jrnDefer (Kept.ite h.set.jrnDefer (h.set.clear.set.mark.putJrn fun hw => Journal.begin_wf hw _ _))
theorem Kept.jrnAbandon (h : Kept b₀ s) : Kept b₀ s.jrnAbandon := by
  unfold State.jrnAbandon
  split
  · exact h
  · refine h.clear.putJrn fun hw => ?_
    dsimp only
    split
    · exact hw
    · dsimp only
      split <;> exact hw
theorem Kept.capMeasured (h : Kept b₀ s) {n dropUv : Nat} : Kept b₀ (s.capMeasured n dropUv) :=
  Kept.ite h (h.set.set.journalChanged.when fun _ hx => hx.mark.logC)
theorem Kept.dropCommit (h : Kept b₀ s) : Kept b₀ s.dropCommit := h.jrnAbandon.clear.set.withJrn
theorem Kept.jrnDormant (h : Kept b₀ s) : Kept b₀ s.jrnDormant := Kept.withJrn (h.jrnAbandon.when fun _ hx => hx.mark)
theorem Kept.jrnWake (h : Kept b₀ s) : Kept b₀ s.jrnWake := by
  unfold State.jrnWake
  exact Kept.ite h (Kept.logC h.withJrn)
theorem Kept.slotReport (h : Kept b₀ s) {k which : Nat} : Kept b₀ (s.slotReport k which) := Kept.ite h.mark.logC h
theorem Kept.takePayload (h : Kept b₀ s) {k : Nat} {b : List Byte} : Kept b₀ (s.takePayload k b) := by
  unfold State.takePayload
  split
  · exact h.withParts
  · exact h.foldl fun _ _ hx => hx.set
  · exact h.foldl fun _ _ hx => hx.load.load
  · exact h.set.withJrn
  · exact h.withJrn
theorem Kept.noPayload (h : Kept b₀ s) {k : Nat} : Kept b₀ (s.noPayload k) := by
  unfold State.noPayload
  dsimp only
  split
  · exact h.logC.withParts
  · exact h.logC.foldl fun _ _ hx => hx.set
  · exact h.logC.foldl fun _ _ hx => hx.load.load
  · exact h.logC.set.withJrn
  · exact h.logC.withJrn
theorem Kept.loadType (h : Kept b₀ s) {k : Nat} : Kept b₀ (s.loadType k) :=
  Kept.ite h.slotReport.slotReport.set (Kept.ite h.slotReport.slotReport.set.noPayload h.slotReport.slotReport.set.takePayload)
theorem Kept.loadJournal (h : Kept b₀ s) : Kept b₀ s.loadJournal := by
  unfold State.loadJournal
  exact Kept.set (Kept.set (Kept.withJrn (h.set.foldl fun _ _ hx => hx.loadType)))

/-! ### Sense -/

theorem Kept.putTemp (h : Kept b₀ s) {r : TempReg} {v : Option Int} : Kept b₀ (s.putTemp r v) := by
  unfold State.putTemp
  split
  · exact h.setI.clear.clear
  · exact h.set.clear.mark
theorem Kept.putSens (h : Kept b₀ s) {k : Nat} {x : Sens} : Kept b₀ (s.putSens k x) := h.withParts
theorem Kept.sensorsFresh (h : Kept b₀ s) : Kept b₀ s.sensorsFresh := h.withParts.foldl fun _ _ hx => hx.mark
theorem Kept.chgWindow (h : Kept b₀ s) : Kept b₀ s.chgWindow := h.withParts.setB
theorem Kept.jrnWindow (h : Kept b₀ s) : Kept b₀ s.jrnWindow := h.setB
theorem Kept.windowsOf (h : Kept b₀ s) {k : Nat} : Kept b₀ (s.windowsOf k) := Kept.ite h.chgWindow (Kept.ite h.jrnWindow h)
theorem Kept.reading (h : Kept b₀ s) {k : Nat} {v : Option Int} : Kept b₀ (s.reading k v) := by
  unfold State.reading
  split
  · exact Kept.windowsOf (h.putSens.when fun _ hx => hx.mark)
  · exact Kept.ite h.putSens (Kept.windowsOf (h.putTemp.putSens.when fun _ hx => hx.logF))
theorem Kept.rgnBit (h : Kept b₀ s) {f : Fld} {m : Nat} {b : Bool} : Kept b₀ (s.rgnBit f m b) := h.set
theorem Kept.putRgnTh (h : Kept b₀ s) {m : Nat} {x : RegionTh} : Kept b₀ (s.putRgnTh m x) := h.withParts
theorem Kept.rorRound (h : Kept b₀ s) {m : Nat} {t : Option Int} : Kept b₀ (s.rorRound m t) := by
  unfold State.rorRound
  dsimp only
  split
  · exact Kept.ite h.putRgnTh.putRgnTh.rgnBit.mark.putRgnTh.logF (Kept.ite h.putRgnTh.putRgnTh.rgnBit h.putRgnTh.putRgnTh)
  · exact h.putRgnTh.putRgnTh
theorem Kept.lowtEval (h : Kept b₀ s) {m : Nat} {t : Option Int} : Kept b₀ (s.lowtEval m t) := by
  unfold State.lowtEval
  split
  · exact h
  · exact Kept.ite h.rgnBit.mark.logF (Kept.ite h.rgnBit h)
theorem Kept.regionEval (h : Kept b₀ s) {roundEnd : Bool} {m : Nat} : Kept b₀ (s.regionEval roundEnd m) :=
  Kept.when (Kept.set (Kept.putRgnTh (Kept.lowtEval (Kept.when (by
              split
              · exact Kept.putRgnTh (h.putTemp.putTemp.rgnBit.when fun _ hx => hx.logF)
              · exact h.putTemp.putTemp.rgnBit.when fun _ hx => hx.logF) fun _ hx => hx.rorRound))))
    fun _ hx =>
      hx.logF
theorem Kept.pkgEval (h : Kept b₀ s) : Kept b₀ s.pkgEval := by
  unfold State.pkgEval
  dsimp only
  split
  · exact h.putTemp
  · exact Kept.ite h.putTemp.mark.mark.logF (Kept.ite h.putTemp.clear h.putTemp)
theorem Kept.pkgShut (h : Kept b₀ s) : Kept b₀ s.pkgShut := h.setB
theorem Kept.deratePub (h : Kept b₀ s) : Kept b₀ s.deratePub := h.foldl fun _ _ hx => hx.set
theorem Kept.thermEval (h : Kept b₀ s) {roundEnd : Bool} : Kept b₀ (s.thermEval roundEnd) :=
  Kept.ite h (Kept.deratePub (Kept.pkgShut (Kept.pkgEval (h.foldl fun _ _ hx => hx.regionEval))))

/-! ### PackOps -/

theorem Kept.modPk (h : Kept b₀ s) {f : Pack → Pack} : Kept b₀ (s.modPk f) := h.withParts
theorem Kept.queuePack (h : Kept b₀ s) : Kept b₀ s.queuePack := h.modPk.journalChanged
theorem Kept.gauge (h : Kept b₀ s) : Kept b₀ s.gauge := h.set.set.when fun _ hx => hx.clear
theorem Kept.setQrem (h : Kept b₀ s) {q : Nat} : Kept b₀ (s.setQrem q) := h.modPk.gauge
theorem Kept.rsocJump (h : Kept b₀ s) : Kept b₀ s.rsocJump := h.set.modPk
theorem Kept.rsocStep (h : Kept b₀ s) {roundEnd : Bool} : Kept b₀ (s.rsocStep roundEnd) := Kept.ite h.set h.set.modPk
theorem Kept.compVolt (h : Kept b₀ s) : Kept b₀ s.compVolt := by
  unfold State.compVolt
  exact h.set.modPk
theorem Kept.huArm (h : Kept b₀ s) : Kept b₀ s.huArm := h.setB
theorem Kept.wear (h : Kept b₀ s) : Kept b₀ s.wear := Kept.ite (Kept.ite h.set.mark.mark h.set.mark.mark.modPk.logC) h.set.clear
theorem Kept.disAccount (h : Kept b₀ s) : Kept b₀ s.disAccount := h.modPk.when fun _ hx => hx.inc
theorem Kept.lrnDisq (h : Kept b₀ s) {cause : Nat} : Kept b₀ (s.lrnDisq cause) := Kept.ite h.clear.set.mark.logC.queuePack h
theorem Kept.lrnOpen (h : Kept b₀ s) {asoc : Nat} : Kept b₀ (s.lrnOpen asoc) := h.mark.modPk
theorem Kept.lrnPoint (h : Kept b₀ s) {asoc : Nat} {coarse : Bool} : Kept b₀ (s.lrnPoint asoc coarse) :=
  (Kept.ite (Kept.ite h.lrnDisq (Kept.ite h.lrnDisq h.set.mark.setQrem.logC.wear.queuePack)) h).lrnOpen
theorem Kept.lrnCheck (h : Kept b₀ s) {ns : Nat} : Kept b₀ (s.lrnCheck ns) :=
  Kept.ite h (Kept.ite h.lrnDisq (Kept.ite h.lrnDisq (Kept.ite (Kept.ite h.lrnDisq h.modPk) h)))
theorem Kept.ocvApply (h : Kept b₀ s) {place : Nat} : Kept b₀ (s.ocvApply place) := by
  unfold State.ocvApply
  dsimp only
  exact Kept.ite h h.setQrem.clear.mark.logC.rsocJump.lrnPoint.queuePack
theorem Kept.setChg (h : Kept b₀ s) {k : Nat} : Kept b₀ (s.setChg k) := h.modPk.set
theorem Kept.testAbort (h : Kept b₀ s) : Kept b₀ s.testAbort :=
  Kept.ite h (Kept.logC (h.clear.modPk.withParts.when fun _ hx => hx.setChg))
theorem Kept.inserted (h : Kept b₀ s) : Kept b₀ s.inserted := Kept.queuePack (Kept.modPk (h.lrnDisq.clear.when fun _ hx => hx.setChg.set))
theorem Kept.removed (h : Kept b₀ s) : Kept b₀ s.removed := h.testAbort.setChg.clear.logC.lrnDisq.queuePack
theorem Kept.newPack (h : Kept b₀ s) : Kept b₀ s.newPack := h.set.set.set.modPk.wear
theorem Kept.firstEstimate (h : Kept b₀ s) : Kept b₀ s.firstEstimate := h.modPk.setQrem.mark.logC.rsocJump.queuePack
theorem Kept.packStart (h : Kept b₀ s) : Kept b₀ s.packStart := by
  unfold State.packStart
  split
  · exact h.inserted
  · exact Kept.ite h.set.set.set.setB.setB.setB.setB.set.modPk.gauge.wear
        (by
          split
          · exact Kept.ite (Kept.ite h.set.set.set.setB.setB.setB.setB.set.modPk.gauge.wear.inserted
                  h.set.set.set.setB.setB.setB.setB.set.modPk.gauge.wear.ocvApply)
                h.set.set.set.setB.setB.setB.setB.set.modPk.gauge.wear)
theorem Kept.presence (h : Kept b₀ s) : Kept b₀ s.presence :=
  Kept.ite (Kept.ite h.modPk.mark.inserted h.modPk.mark.modPk.packStart) (Kept.ite h.modPk.clear.removed h.modPk)
theorem Kept.chgFault (h : Kept b₀ s) {cause : Nat} : Kept b₀ (s.chgFault cause) := h.setChg.set.mark.logC
theorem Kept.chargerRound (h : Kept b₀ s) : Kept b₀ s.chargerRound := by
  unfold State.chargerRound
  extract_lets aborted c
  have ha : Kept b₀ aborted := h.when fun _ hx => hx.testAbort
  exact .ite h (.ite ha (.ite (ha.when fun _ hx => hx.setChg) (.ite (ha.when fun _ hx => hx.setChg) (.ite ha.setChg (.ite ha.setChg ha)))))
theorem Kept.chgDone (h : Kept b₀ s) : Kept b₀ s.chgDone := h.setChg.mark.clear.setQrem.mark.logC.rsocJump.lrnPoint.queuePack
theorem Kept.setGate (h : Kept b₀ s) {b : Bool} : Kept b₀ (s.setGate b) := h.modPk.setB
theorem Kept.eod (h : Kept b₀ s) {cause : Nat} : Kept b₀ (s.eod cause) :=
  Kept.ite h (Kept.queuePack (h.set.mark.logC.withParts.when fun _ hx => Kept.stopInOrder (hx.onRails fun _ _ hy => hy.disarm)))
theorem Kept.huTrip (h : Kept b₀ s) {cause : Nat} : Kept b₀ (s.huTrip cause) :=
  Kept.eod (Kept.setGate (h.onRails
        fun _ _ hx =>
          by
            split
            · exact hx.fastStop.railOff
            · exact hx.fastStop.railOff
            · exact hx.fastStop.railOff
            · exact hx.fastStop.railOff
            · exact hx.fastStop.railOff
            · exact hx.fastStop.railOff
            · exact hx.fastStop.railOff
            · exact hx))
theorem Kept.gateRound (h : Kept b₀ s) : Kept b₀ s.gateRound := Kept.ite h.setGate h
theorem Kept.packRound (h : Kept b₀ s) : Kept b₀ s.packRound := h.chargerRound.gateRound
theorem Kept.packEstimate (h : Kept b₀ s) {roundEnd : Bool} : Kept b₀ (s.packEstimate roundEnd) :=
  Kept.ite h (h.gauge.compVolt.rsocStep.huArm.when fun _ hx => hx.queuePack)

/-! ### Settle -/

theorem Kept.resetRegs (h : Kept b₀ s) {p : Fld → Bool} : Kept b₀ { s with regs := Machine.resetRegs s.regs p } :=
  h.rebuilt fun ⟨hr, hs⟩ => ⟨resetRegs_wf hr _, hs⟩
theorem Kept.enterParse (h : Kept b₀ s) {n : Nat} : Kept b₀ (s.enterParse n) := by
  unfold State.enterParse
  refine Kept.when (Kept.enter (Kept.withParts (Kept.set (Kept.clear (Kept.clear ?_))))) fun _ hx => hx.enterSafestop
  exact (h.resetRegs.onRails fun _ _ hx => Kept.ite hx.railOff hx).rebuilt
    fun ⟨hr, hi, hs, hc, hg, _, hw⟩ => ⟨hr, hi, hs, hc, hg, Store.wf_nil, hw⟩
theorem Kept.arm (h : Kept b₀ s) {r : Fin 8} : Kept b₀ (s.arm r) := by
  unfold State.arm
  exact h.setRail.setSen.modFr
theorem Kept.armRound (h : Kept b₀ s) : Kept b₀ s.armRound := h.onRails fun _ _ hx => Kept.ite hx.arm hx
theorem Kept.clrRound (h : Kept b₀ s) : Kept b₀ s.clrRound := Kept.ite (Kept.ite h.withParts h.withParts.clear.enterParse) h
theorem Kept.shedRound (h : Kept b₀ s) : Kept b₀ s.shedRound := h.onRails fun _ _ hx => Kept.ite hx.modRail hx
theorem Kept.modeRound (h : Kept b₀ s) : Kept b₀ s.modeRound := by
  unfold State.modeRound
  split
  · exact Kept.ite h h.enter
  · exact Kept.ite h h.enter
  · exact Kept.ite h h.enter
  · exact Kept.ite h h.enter
  · exact h
theorem Kept.mirrorRound (h : Kept b₀ s) {s0 : State} : Kept b₀ (State.mirrorRound s0 s) := Kept.ite h.withParts h
theorem Kept.cjRound (h : Kept b₀ s) {s0 : State} : Kept b₀ (State.cjRound s0 s) := by
  unfold State.cjRound
  split
  · exact h
  · exact (Kept.ite h.railLatch h).withParts
theorem Kept.noteRound (h : Kept b₀ s) {s0 : State} : Kept b₀ (State.noteRound s0 s) :=
  Kept.ite h
    (Kept.onRails (h.when fun _ hx => hx.noteAll)
      fun _ _ hx =>
        Kept.when (by
            split
            · exact hx.noteRail
            · exact hx) fun _ hy => hy.noteRail)
theorem Kept.precheckRound (h : Kept b₀ s) : Kept b₀ s.precheckRound := Kept.ite (Kept.ite h.enter h.enter) h
theorem Kept.creditRound (h : Kept b₀ s) : Kept b₀ s.creditRound := Kept.ite h (h.foldl fun _ _ hx => Kept.ite hx hx.set.modPort)
theorem Kept.pmbRail (h : Kept b₀ s) {s0 : State} {r : Fin 8} : Kept b₀ (State.pmbRail s0 s r) :=
  Kept.ite h h.pmbBits.pmbBits.pmbBits.pmbBits.pmbBits.pmbBits
theorem Kept.pmbRound (h : Kept b₀ s) {s0 : State} : Kept b₀ (State.pmbRound s0 s) :=
  Kept.ite h (Kept.withPmb (Kept.when (h.onRails fun _ _ hx => hx.pmbRail) fun _ hx => hx.cml))
theorem Kept.wasRound (h : Kept b₀ s) {s0 : State} : Kept b₀ (State.wasRound s0 s) := h.onRails fun _ _ hx => Kept.ite hx hx.modFr
theorem Kept.settle (h : Kept b₀ s) {s0 : State} : Kept b₀ (settle s0 s) :=
  Kept.creditRound (Kept.noteRound (Kept.mirrorRound (Kept.pmbRound (Kept.wasRound
    h.stopRound.cjRound.packRound.clrRound.armRound.precheckRound.shedRound.modeRound.hintRound.clampRound))))

/-! ### Stage -/

theorem Kept.cutAt (h : Kept b₀ s) {n : Fin 32} {src tk : Nat} : Kept b₀ (s.cutAt n src tk) :=
  Kept.ite (Kept.logF (Kept.toLevelAt (Kept.modFr (Kept.modPh (h.mark.set.when fun _ hx => hx.inc))))) h
theorem Kept.lookStep (h : Kept b₀ s) {n : Fin 32} {tk : Nat} : Kept b₀ (s.lookStep n tk) := (Kept.ite h.modPh.cutAt h.modPh).toLevelAt
theorem Kept.lookN (h : Kept b₀ s) {n : Fin 32} {k : Nat} : Kept b₀ (s.lookN n k) := by
  induction k generalizing s with
  | zero => exact h
  | succ k ih =>
    unfold State.lookN
    split
    · exact h
    · exact ih h.lookStep
theorem Kept.look (h : Kept b₀ s) {n : Fin 32} : Kept b₀ (s.look n) := h.lookN.modPh
theorem Kept.lookRail (h : Kept b₀ s) {r : Fin 8} : Kept b₀ (s.lookRail r) := h.foldl fun _ _ hx => hx.look
theorem Kept.redrive (h : Kept b₀ s) {n : Fin 32} : Kept b₀ (s.redrive n) := h.look.toLevel
theorem Kept.redriveRail (h : Kept b₀ s) {r : Fin 8} : Kept b₀ (s.redriveRail r) := h.foldl fun _ _ hx => hx.redrive
theorem Kept.tonPhase (h : Kept b₀ s) {r : Fin 8} {d : Nat} {n : Fin 32} : Kept b₀ (s.tonPhase r d n) := by
  unfold State.tonPhase
  exact Kept.modPh (Kept.when (h.when fun _ hx => hx.mark) fun _ hx => hx.mark)
theorem Kept.dutyPhase (h : Kept b₀ s) {r : Fin 8} {d : Nat} {n : Fin 32} : Kept b₀ (s.dutyPhase r d n) := h.look.tonPhase.redrive
theorem Kept.applyDuty (h : Kept b₀ s) {r : Fin 8} {d : Nat} : Kept b₀ (s.applyDuty r d) := h.foldl fun _ _ hx => hx.dutyPhase
theorem Kept.cut (h : Kept b₀ s) {n : Fin 32} {src : Nat} : Kept b₀ (s.cut n src) := h.look.cutAt
theorem Kept.endDe (h : Kept b₀ s) {r : Fin 8} : Kept b₀ (s.endDe r) := h.clear.modEng
theorem Kept.addEvent (h : Kept b₀ s) {r : Fin 8} : Kept b₀ (s.addEvent r) := h.endDe.modEng
theorem Kept.requestAdd (h : Kept b₀ s) {r : Fin 8} {k : Nat} {cost : Option Nat} {cause : Nat} : Kept b₀ (s.requestAdd r k cost cause) :=
  Kept.ite h h.endDe.mark.modEng
theorem Kept.unstop (h : Kept b₀ s) {n : Fin 32} : Kept b₀ (s.unstop n) := Kept.ite h.setSw h

/-! ### Bridge -/

theorem Kept.dutyWord (h : Kept b₀ s) {r : Fin 8} {flip : Nat} : Kept b₀ (s.dutyWord r flip) :=
  Kept.ite h (Kept.ite (h.modFr.when fun _ hx => hx.applyDuty) h.inc.modFr)
theorem Kept.frameIn (h : Kept b₀ s) {f : BitVec 128} : Kept b₀ (s.frameIn f) := Kept.ite h (Kept.ite h.withParts h.inc)
theorem Kept.takeEvent (h : Kept b₀ s) : Kept b₀ s.takeEvent :=
  Kept.ite h
    (by
      split
      · exact h
      · exact by
            split
            · exact h.withParts
            · exact h.withParts.modEng)
theorem Kept.withC4 (h : Kept b₀ s) {l : List Access} : Kept b₀ (s.withC4 l) := h.withParts
theorem Kept.beat (h : Kept b₀ s) : Kept b₀ s.beat := Kept.ite h.withParts h
theorem Kept.beatIn (h : Kept b₀ s) {seq : Nat} : Kept b₀ (s.beatIn seq) := Kept.ite h h.set.withParts
theorem Kept.cohPhase (h : Kept b₀ s) {n : Fin 32} {mir : Sw × Health × Nat × Nat} : Kept b₀ (s.cohPhase n mir) :=
  Kept.withParts (Kept.ite (Kept.checkMinLive (Kept.place ((((((((Kept.ite h.withParts.set.setSw.modPh
    h.withParts.set).modPh).setI).mark).inc).set).logC).when fun _ hx => hx.modPh.logC))) ((((((((Kept.ite h.withParts.set.setSw.modPh
    h.withParts.set).modPh).setI).mark).inc).set).logC).when fun _ hx => hx.modPh.logC))
theorem Kept.cohRail (h : Kept b₀ s) {r : Fin 8} {mir : RailState} : Kept b₀ (s.cohRail r mir) := h.withParts.mark.logC
theorem Kept.coherence (h : Kept b₀ s) : Kept b₀ s.coherence :=
  Kept.onRails (h.onPhases
      fun _ _ hx =>
        by
          split
          · exact Kept.ite hx hx.cohPhase
          · exact hx)
    fun _ _ hx =>
      by
        split
        · exact Kept.ite hx hx.cohRail
        · exact hx
theorem Kept.echoIn (h : Kept b₀ s) : Kept b₀ s.echoIn :=
  Kept.ite h
    (by
      split
      · exact h
      · exact Kept.ite h.withParts
            (Kept.ite h.withParts.withParts (Kept.ite h.withParts.withParts h.withParts.withParts.coherence)))
theorem Kept.rewrite (h : Kept b₀ s) {n : Fin 32} : Kept b₀ (s.rewrite n) := Kept.ite h.set.withParts.logC h
theorem Kept.frontLost (h : Kept b₀ s) : Kept b₀ s.frontLost := Kept.ite h h.mark.logC.cml.noteAll.withParts
theorem Kept.allOff (h : Kept b₀ s) : Kept b₀ s.allOff := h.onRails fun _ _ hx => hx.triRail.setSen
theorem Kept.clockMissing (h : Kept b₀ s) : Kept b₀ s.clockMissing := Kept.ite h h.withParts.allOff

/-! ### Otp -/

theorem Kept.serviceEnd (h : Kept b₀ s) : Kept b₀ s.serviceEnd :=
  Kept.enterParse (h.onRails
      fun _ _ hx =>
        by
          split
          · exact hx.fastStop.railOff
          · exact hx.fastStop.railOff
          · exact hx.fastStop.railOff
          · exact hx.fastStop.railOff
          · exact hx.fastStop.railOff
          · exact hx.fastStop.railOff
          · exact hx)
theorem Kept.endSession (h : Kept b₀ s) {cause : Nat} : Kept b₀ (s.endSession cause) :=
  Kept.ite h.withParts (Kept.ite (h.withParts.logC.when fun _ hx => hx.serviceEnd) (Kept.ite h.withParts h))
theorem Kept.dropMailbox (h : Kept b₀ s) : Kept b₀ s.dropMailbox := h.withParts
theorem Kept.dropTap (h : Kept b₀ s) : Kept b₀ s.dropTap := h.withParts
theorem Kept.countFail (h : Kept b₀ s) : Kept b₀ s.countFail := h.set.withParts.withParts
theorem Kept.securityWake (h : Kept b₀ s) : Kept b₀ s.securityWake := (Kept.ite h.set.withParts h).when fun _ hx => hx.logC

/-! ### Drops -/

theorem Kept.dropLinks (h : Kept b₀ s) : Kept b₀ s.dropLinks := h.withPmb
theorem Kept.dropHints (h : Kept b₀ s) : Kept b₀ s.dropHints := h.onRails fun _ _ hx => hx.putHints.putF
theorem Kept.clearRecorder (h : Kept b₀ s) : Kept b₀ s.clearRecorder := h.clear.clear.clear.clear.set.withParts
theorem Kept.toDormant (h : Kept b₀ s) : Kept b₀ s.toDormant := h.jrnDormant.withParts
theorem Kept.fromDormant (h : Kept b₀ s) : Kept b₀ s.fromDormant := h.clearRecorder.incWrap.set.set.withParts
theorem Kept.dropWake (h : Kept b₀ s) : Kept b₀ s.dropWake := by
  unfold State.dropWake
  refine Kept.securityWake (Kept.jrnWake (Kept.onRails ?_ fun _ _ hx => hx.mark.mark))
  exact h.endSession.dropMailbox.sensorsFresh.rebuilt
    fun ⟨hr, hi, hs, hc, hg, _, hw⟩ => ⟨hr, hi, hs, hc, hg, Store.wf_nil, hw⟩

/-! ### Loss -/

theorem Kept.wakeEntry (h : Kept b₀ s) {n : Nat} : Kept b₀ (s.wakeEntry n) := by
  unfold State.wakeEntry
  refine Kept.enter (Kept.onPhases (Kept.when (Kept.dropWake (Kept.keepMarked ?_)) fun _ hx => hx.mark)
    fun _ _ hx => hx.when fun _ hy => hy.mark)
  exact h.resetRegs.clear.clear.clear.clear.rebuilt fun ⟨hr, _, hs⟩ => ⟨hr, Store.wf_nil, hs⟩
theorem Kept.cjAfresh (h : Kept b₀ s) : Kept b₀ s.cjAfresh := h.withParts
theorem Kept.controlBack (h : Kept b₀ s) : Kept b₀ s.controlBack := by
  unfold State.controlBack
  exact Kept.withParts (Kept.when (Kept.when (Kept.withParts (h.cjAfresh.mark.when fun _ hx => hx.cml)) fun _ hx => hx.logC)
    fun _ hx => Kept.journalChanged hx.withJrn)
theorem Kept.controlReset (h : Kept b₀ s) {c : CtCause} : Kept b₀ (s.controlReset c) := by
  unfold State.controlReset
  exact Kept.withJrn (h.endSession.dropMailbox.dropHints.dropCommit.dropLinks.onPhases fun _ _ hx => hx.modPh)
theorem Kept.takeover (h : Kept b₀ s) {c : CtCause} : Kept b₀ (s.takeover c) :=
  Kept.logF (Kept.enter (Kept.withParts (Kept.set (Kept.set (Kept.set (Kept.mark (h.onRails fun _ _ hx => Kept.ite hx.modFr.modRail
    hx.disarm)))))))
theorem Kept.lose (h : Kept b₀ s) {c : CtCause} : Kept b₀ (s.lose c) := by
  have hd : Kept b₀ (s.onRails fun s r => s.discard r 1) := h.onRails fun _ _ hx => hx.discard
  unfold State.lose
  generalize (s.onRails fun s r => s.discard r 1) = x at hd ⊢
  dsimp only
  split
  · exact hd
  · exact hd
  · exact hd.controlReset.set.onRails fun _ _ hx => Kept.ite hx.modFr hx
  · exact hd.controlReset.set.resetRegs.keepMarked.when fun _ hx => hx.controlBack
  · exact hd.controlReset.set.wakeEntry
  · exact Kept.ite hd.controlReset.takeover hd.controlReset.set.wakeEntry
theorem Kept.loopFault (h : Kept b₀ s) {r : Fin 8} {clk : Bool} : Kept b₀ (s.loopFault r clk) := Kept.ite h h.mark.logF.modFr.lose
theorem Kept.controlLost (h : Kept b₀ s) {c : CtCause} : Kept b₀ (s.controlLost c) :=
  Kept.ite h (Kept.lose (h.when fun _ hx => hx.mark.logF))
theorem Kept.kick (h : Kept b₀ s) : Kept b₀ s.kick := Kept.ite h.withParts h
theorem Kept.ctTimeout (h : Kept b₀ s) : Kept b₀ s.ctTimeout := Kept.ite h.refuse h
theorem Kept.ctCount (h : Kept b₀ s) : Kept b₀ s.ctCount := h.withParts
theorem Kept.ctEnd (h : Kept b₀ s) : Kept b₀ s.ctEnd := h.clear.set.logF
theorem Kept.ctBack (h : Kept b₀ s) : Kept b₀ s.ctBack := h.when fun _ hx => hx.controlBack
theorem Kept.ctGiveUp (h : Kept b₀ s) : Kept b₀ s.ctGiveUp := by
  unfold State.ctGiveUp
  exact h.resetRegs.keepMarked.ctBack.enterSafestop
theorem Kept.ctRestart (h : Kept b₀ s) : Kept b₀ s.ctRestart := by
  unfold State.ctRestart
  exact h.resetRegs.keepMarked.set.ctBack.enterParse
theorem Kept.ctStopped (h : Kept b₀ s) : Kept b₀ s.ctStopped := Kept.ite (Kept.ite h.ctCount.ctEnd.ctGiveUp h.ctCount.ctEnd.ctRestart) h

/-! ### Engine -/

theorem Kept.putSet (h : Kept b₀ s) {id : Nat} {c : Coefs} : Kept b₀ (s.putSet id c) :=
  h.into rfl fun ⟨hr, hi, hs, hc⟩ => ⟨hr, hi, Store.wf_foldl hs fun _ _ hx => Store.wf_set hx _ _, hc⟩
theorem Kept.takeSet (h : Kept b₀ s) {r : Fin 8} : Kept b₀ (s.takeSet r) := by
  unfold State.takeSet
  exact h.set.set.clear.modEng
theorem Kept.select (h : Kept b₀ s) {r : Fin 8} : Kept b₀ (s.select r) := Kept.ite h.set.modEng h.set.modEng.mark
theorem Kept.foldEngage (h : Kept b₀ s) {r : Fin 8} : Kept b₀ (s.foldEngage r) := Kept.ite h.mark.modEng.addEvent.requestAdd.logC h
theorem Kept.stick (h : Kept b₀ s) {f : Fld} {i : Nat} {b : Bool} : Kept b₀ (s.stick f i b) := Kept.ite h.mark h
theorem Kept.sendWord (h : Kept b₀ s) {r : Fin 8} {d : Nat} : Kept b₀ (s.sendWord r d) := h.modEng.set
theorem Kept.runPath (h : Kept b₀ s) {r : Fin 8} {e : Int} : Kept b₀ (s.runPath r e) :=
  Kept.setI (Kept.sendWord (Kept.setI (Kept.setI (Kept.setI (Kept.setB (Kept.stick (Kept.stick (Kept.stick (Kept.stick (Kept.stick
    (Kept.stick (Kept.stick (Kept.stick (Kept.stick (Kept.stick (h.modEng.when fun _ hx => hx.modEng))))))))))))))))
theorem Kept.rampStep (h : Kept b₀ s) {r : Fin 8} : Kept b₀ (s.rampStep r) := Kept.ite h.modEng.modSp.setRail.modFr h.modEng
theorem Kept.fallEnd (h : Kept b₀ s) {r : Fin 8} : Kept b₀ (s.fallEnd r) := Kept.ite (h.endLs.modFr.foldl fun _ _ hx => hx.triNext) h
theorem Kept.fallStep (h : Kept b₀ s) {r : Fin 8} : Kept b₀ (s.fallStep r) := h.modEng.fallEnd
theorem Kept.slewStep (h : Kept b₀ s) {r : Fin 8} : Kept b₀ (s.slewStep r) := by
  unfold State.slewStep
  exact h.modSp.modEng
theorem Kept.target (h : Kept b₀ s) {r : Fin 8} : Kept b₀ (s.target r) :=
  Kept.ite (Kept.ite h (Kept.ite h.fallEnd h.fallStep))
    (by
      split
      · exact Kept.ite h.rampStep h
      · exact h.fallStep
      · exact h.slewStep
      · exact h.slewStep
      · exact h)
theorem Kept.engineUpdate (h : Kept b₀ s) {r : Fin 8} {flip : Nat} : Kept b₀ (s.engineUpdate r flip) :=
  Kept.ite h (Kept.ite (Kept.ite h.stick.stick.modEng.target.select.foldEngage.tenseStep.modEng
    h.stick.stick.modEng.target.select.foldEngage.tenseStep.modEng.sendWord)
    h.stick.stick.modEng.target.select.foldEngage.tenseStep.modEng.runPath)
theorem Kept.compSwap (h : Kept b₀ s) {r : Fin 8} : Kept b₀ (s.compSwap r) := Kept.ite h.stick.clear.set.modEng.logC h
theorem Kept.storeRefused (h : Kept b₀ s) {r : Fin 8} {id : Nat} : Kept b₀ (s.storeRefused r id) := h.mark.logC
theorem Kept.storeWrite (h : Kept b₀ s) {id : Nat} : Kept b₀ (s.storeWrite id) := h.putSet.onRails fun _ _ hx => Kept.ite hx.mark hx
theorem Kept.setStale (h : Kept b₀ s) {b : Bool} : Kept b₀ (s.setStale b) := h.onRails fun _ _ hx => hx.setB.setB
theorem Kept.vinSample (h : Kept b₀ s) {sample : Nat} : Kept b₀ (s.vinSample sample) :=
  Kept.ite h (Kept.ite (Kept.onRails (Kept.when (Kept.withParts (h.when fun _ hx => hx.clear)) fun _ hx => hx.onPhases fun _ _ hy =>
    hy.modPh) fun _ _ hx => hx.modFr) (Kept.setStale (Kept.onRails (Kept.onRails (Kept.when (Kept.withParts (h.when fun _ hx => hx.clear))
    fun _ hx => hx.onPhases fun _ _ hy => hy.modPh) fun _ _ hx => hx.modFr) fun _ _ hx => hx.set.modEng)))
theorem Kept.vinStale (h : Kept b₀ s) : Kept b₀ s.vinStale := Kept.ite h (Kept.logC (h.withParts.setStale.onRails fun _ _ hx => hx.mark))
theorem Kept.staleDerate (h : Kept b₀ s) : Kept b₀ s.staleDerate := Kept.ite h (Kept.logF (h.onRails fun _ _ hx => hx.modEng))

/-! ### Telemetry -/

theorem Kept.tlmAdd (h : Kept b₀ s) {r : Fin 8} {sum : Int} : Kept b₀ (s.tlmAdd r sum) := h.withParts
theorem Kept.windowClose (h : Kept b₀ s) {k : Nat} : Kept b₀ (s.windowClose k) :=
  Kept.ite h
    (by
      split
      · exact h.withParts.withParts
      · exact h.withParts.withParts.foldl fun _ _ hx => hx.set
      · exact h.withParts.withParts)

/-! ### Section -/

theorem Kept.loadItems (h : Kept b₀ s) {l : List Item} {i : Nat} {b : List Byte} : Kept b₀ (s.loadItems l i b) :=
  h.foldl
    fun _ _ hx =>
      by
        split
        · exact hx.load
        · exact hx

/-! ### Phases -/

theorem Kept.phaseSample (h : Kept b₀ s) {n : Fin 32} {adc : Int} : Kept b₀ (s.phaseSample n adc) := Kept.ite h h.modPh
theorem Kept.cycleAverage (h : Kept b₀ s) {n : Fin 32} : Kept b₀ (s.cycleAverage n) := by
  unfold State.cycleAverage
  exact (Kept.ite h.setI h).modPh
theorem Kept.observe (h : Kept b₀ s) {n : Fin 32} : Kept b₀ (s.observe n) := Kept.ite (Kept.ite h.modPh.mark.logF h.modPh) h.modPh
theorem Kept.failOne (h : Kept b₀ s) {n : Fin 32} {cause : Nat} : Kept b₀ (s.failOne n cause) :=
  Kept.ite h h.modPh.stopPhase.mark.inc.journalChanged.modFr.logF
theorem Kept.failPhase (h : Kept b₀ s) {n : Fin 32} {cause : Nat} : Kept b₀ (s.failPhase n cause) :=
  Kept.ite (Kept.checkMinLive (by
        split
        · exact Kept.ite h.failOne (Kept.ite h.failOne.failOne h.failOne.failOne)
        · exact h.failOne))
    (by
      split
      · exact Kept.ite h.failOne (Kept.ite h.failOne.failOne h.failOne.failOne)
      · exact h.failOne)
theorem Kept.senseRange (h : Kept b₀ s) {n : Fin 32} : Kept b₀ (s.senseRange n) := Kept.ite h.mark.logF.failPhase h
theorem Kept.phaseFail (h : Kept b₀ s) {n : Fin 32} : Kept b₀ (s.phaseFail n) := Kept.ite h.failPhase h
theorem Kept.followup (h : Kept b₀ s) {n : Fin 32} : Kept b₀ (s.followup n) :=
  Kept.ite (Kept.checkMinLive (Kept.failAlert (Kept.logC (h.modFr.modEng.when fun _ hx => hx.noteRail)))) h
theorem Kept.balance (h : Kept b₀ s) {r : Fin 8} : Kept b₀ (s.balance r) :=
  Kept.ite h (h.foldl fun _ _ hx => Kept.ite hx (Kept.ite hx.modPh.setI (Kept.ite hx.modPh.setI hx)))
theorem Kept.putEst (h : Kept b₀ s) {m : Fin 4} : Kept b₀ (s.putEst m) := h.setI
theorem Kept.grant (h : Kept b₀ s) {r : Fin 8} {cause k cost : Nat} : Kept b₀ (s.grant r cause k cost) := by
  induction k generalizing s cost with
  | zero => exact h
  | succ k ih =>
    unfold State.grant
    split
    · exact h
    · exact ih h.withParts
theorem Kept.askDone (h : Kept b₀ s) {r : Fin 8} : Kept b₀ (s.askDone r) := h.clear.modEng.putHints
theorem Kept.arbitrateRail (h : Kept b₀ s) {r : Fin 8} : Kept b₀ (s.arbitrateRail r) :=
  Kept.ite h (Kept.ite h.askDone (Kept.ite h.grant.askDone h.logC))
theorem Kept.arbitrate (h : Kept b₀ s) {m : Fin 4} : Kept b₀ (s.arbitrate m) :=
  Kept.ite h (Kept.putEst (Kept.foldl (h.withParts.onPhases fun _ _ hx => Kept.ite hx hx.modPh) fun _ _ hx => hx.arbitrateRail))
theorem Kept.addPhase (h : Kept b₀ s) {n : Fin 32} {rsv : Nat} : Kept b₀ (s.addPhase n rsv) := h.setSw.modPh.setI.place
theorem Kept.addRefused (h : Kept b₀ s) {n : Fin 32} : Kept b₀ (s.addRefused n) := h.emit
theorem Kept.keepOffAdded (h : Kept b₀ s) {n : Fin 32} {cause : Nat} : Kept b₀ (s.keepOffAdded n cause) := h.when fun _ hx => hx.mark.logC
theorem Kept.phaseAck (h : Kept b₀ s) : Kept b₀ s.phaseAck :=
  Kept.ite h
    (by
      split
      · exact h
      · exact by
            split
            · exact Kept.ite h.withParts.addRefused (Kept.ite h.withParts.keepOffAdded.addPhase h.withParts)
            · exact Kept.ite h.withParts.setSw.modPh h.withParts)
theorem Kept.phaseSettled (h : Kept b₀ s) {n : Fin 32} : Kept b₀ (s.phaseSettled n) := Kept.ite h.setSw.modPh h
theorem Kept.requestShed (h : Kept b₀ s) {n : Fin 32} : Kept b₀ (s.requestShed n) := h.withParts
theorem Kept.shedDwell (h : Kept b₀ s) {r : Fin 8} : Kept b₀ (s.shedDwell r) := by
  unfold State.shedDwell
  split
  · exact Kept.ite h.requestShed.modEng h
  · exact h
theorem Kept.shedDone (h : Kept b₀ s) {n : Fin 32} : Kept b₀ (s.shedDone n) := Kept.ite h.look.setSw.toLevel.place h
theorem Kept.deEntry (h : Kept b₀ s) {r : Fin 8} : Kept b₀ (s.deEntry r) := by
  unfold State.deEntry
  split
  · exact Kept.ite h.mark h
  · exact h
theorem Kept.foldStep (h : Kept b₀ s) {r : Fin 8} : Kept b₀ (s.foldStep r) :=
  Kept.ite h.foldEngage (Kept.ite h.modEng (Kept.ite (Kept.ite h.modEng.clear h.modEng) h))
theorem Kept.addRule (h : Kept b₀ s) {r : Fin 8} : Kept b₀ (s.addRule r) :=
  Kept.ite h.modEng.requestAdd (Kept.ite h.modEng.setB.modEng h.modEng)
theorem Kept.deExitRule (h : Kept b₀ s) {r : Fin 8} : Kept b₀ (s.deExitRule r) := Kept.ite h.modEng.endDe h.modEng
theorem Kept.dwells (h : Kept b₀ s) {r : Fin 8} : Kept b₀ (s.dwells r) := by
  unfold State.dwells
  exact h.modEng
theorem Kept.keepOffShed (h : Kept b₀ s) {r : Fin 8} : Kept b₀ (s.keepOffShed r) :=
  Kept.ite (by
      split
      · exact h.requestShed
      · exact h) h
theorem Kept.refresh (h : Kept b₀ s) {r : Fin 8} : Kept b₀ (s.refresh r) :=
  Kept.ite h.modFr.tlmAdd.modEng h.modFr.tlmAdd.modEng.modEng.foldStep.balance.addRule.deExitRule.dwells.keepOffShed.putEst

/-! ### Pwm -/

theorem Kept.pairAdjust (h : Kept b₀ s) {n : Fin 32} : Kept b₀ (s.pairAdjust n) := by
  unfold State.pairAdjust
  split
  · exact h
  · exact Kept.ite h.modPh (Kept.ite h.stick.modPh h.stick.modPh.mark.logF)
theorem Kept.triStart (h : Kept b₀ s) {n : Fin 32} {z : Nat} : Kept b₀ (s.triStart n z) := h.modPh.toLevelAt
theorem Kept.startAt (h : Kept b₀ s) {n : Fin 32} {z : Nat} : Kept b₀ (s.startAt n z) :=
  h.modPh.tonPhase.pairAdjust.modPh.toLevelAt.modPh.look
theorem Kept.periodStart (h : Kept b₀ s) {n : Fin 32} : Kept b₀ (s.periodStart n) := Kept.ite h (Kept.ite h.look.triStart h.look.startAt)
theorem Kept.windowCount (h : Kept b₀ s) {n : Fin 32} : Kept b₀ (s.windowCount n) := Kept.ite h (Kept.ite h.inc h.set)
theorem Kept.fullCount (h : Kept b₀ s) {n : Fin 32} : Kept b₀ (s.fullCount n) := Kept.ite h.inc h.set
theorem Kept.switchedEnd (h : Kept b₀ s) {n : Fin 32} : Kept b₀ (s.switchedEnd n) := by
  unfold State.switchedEnd
  exact (((Kept.ite h.cycleAverage.observe.windowCount.set h.cycleAverage.observe.windowCount).fullCount).set).modPh
theorem Kept.periodEnd (h : Kept b₀ s) {n : Fin 32} : Kept b₀ (s.periodEnd n) :=
  Kept.ite h (Kept.ite h.cycleAverage (Kept.ite h h.look.switchedEnd))
theorem Kept.windowStop (h : Kept b₀ s) {n : Fin 32} : Kept b₀ (s.windowStop n) :=
  Kept.ite (Kept.ite h.mark.stopPhase.logF.checkMinLive h.mark.stopPhase.logF.noteRail.failAlert.checkMinLive) h
theorem Kept.bootRefresh (h : Kept b₀ s) {n : Fin 32} : Kept b₀ (s.bootRefresh n) := Kept.ite h.set.mark.modPh.logF h
theorem Kept.tfltRead (h : Kept b₀ s) {n : Fin 32} {fault : Bool} : Kept b₀ (s.tfltRead n fault) :=
  Kept.ite h (Kept.ite h.look.mark.modPh.cut h.look.clear.modPh)
theorem Kept.negPeak (h : Kept b₀ s) {n : Fin 32} : Kept b₀ (s.negPeak n) := Kept.ite h.look.modPh.toLevel.mark.logF h.look
theorem Kept.escalate (h : Kept b₀ s) {n : Fin 32} : Kept b₀ (s.escalate n) := Kept.ite h.retry h
theorem Kept.hiccupSen (h : Kept b₀ s) {r : Fin 8} : Kept b₀ (s.hiccupSen r) := Kept.ite h.setSen.modFr h
theorem Kept.latchTflt (h : Kept b₀ s) {n : Fin 32} : Kept b₀ (s.latchTflt n) :=
  Kept.ite h (h.modPh.mark.mark.set.stopPhase.modPh.toLevel.logF.when fun _ hx => hx.logF)
theorem Kept.tfltLatch (h : Kept b₀ s) {n : Fin 32} : Kept b₀ (s.tfltLatch n) := Kept.ite h.latchTflt.checkMinLive h
theorem Kept.tfltRelease (h : Kept b₀ s) {n : Fin 32} : Kept b₀ (s.tfltRelease n) := Kept.ite h.clear.unstop.logF h
theorem Kept.enterRamp (h : Kept b₀ s) {r : Fin 8} : Kept b₀ (s.enterRamp r) :=
  Kept.foldl (Kept.foldl (Kept.modFr (Kept.modEng (Kept.clear (Kept.setRail (h.when fun _ hx => hx.set))))) fun _ _ hx =>
    hx.set.setI.modPh) fun _ _ hx => hx.addPhase
theorem Kept.hicTflt (h : Kept b₀ s) {r : Fin 8} : Kept b₀ (s.hicTflt r) := h.foldl fun _ _ hx => Kept.ite hx.latchTflt hx
theorem Kept.hiccupRetry (h : Kept b₀ s) {r : Fin 8} : Kept b₀ (s.hiccupRetry r) :=
  Kept.ite h (Kept.ite h.hicTflt.enterRamp h.hicTflt.checkMinLive)
theorem Kept.retryClear (h : Kept b₀ s) {r : Fin 8} : Kept b₀ (s.retryClear r) := Kept.ite h.set h
theorem Kept.startTurn (h : Kept b₀ s) {r : Fin 8} : Kept b₀ (s.startTurn r) := Kept.ite (Kept.ite h.enterRamp h.checkMinLive) h
theorem Kept.rampStart (h : Kept b₀ s) {r : Fin 8} {code : Nat} : Kept b₀ (s.rampStart r code) :=
  Kept.ite (Kept.takeSet (Kept.place (h.modFr.modEng.modSp.foldl fun _ _ hx => hx.modPh))) h
theorem Kept.senLeadDone (h : Kept b₀ s) {r : Fin 8} : Kept b₀ (s.senLeadDone r) := Kept.ite h.modFr h
theorem Kept.senFall (h : Kept b₀ s) {r : Fin 8} : Kept b₀ (s.senFall r) := by
  unfold State.senFall
  dsimp only
  exact Kept.ite (by
        split
        · exact h.triRail.railOff
        · exact h.triRail.latchNow) h
theorem Kept.forceTri (h : Kept b₀ s) {n : Fin 32} {b : Bool} : Kept b₀ (s.forceTri n b) :=
  Kept.ite (Kept.ite h.mark.stopPhase.checkMinLive h.mark) (Kept.ite h.clear.unstop h.clear)
theorem Kept.overrideRefused (h : Kept b₀ s) {n : Fin 32} {field : Nat} : Kept b₀ (s.overrideRefused n field) := h.mark.logF
theorem Kept.rePeriod (h : Kept b₀ s) {f : State → State} (hf : ∀ x, Kept b₀ x → Kept b₀ (f x)) : Kept b₀ (s.rePeriod f) :=
  (hf _ (h.foldl fun _ _ hx => hx.modFr)).foldl fun _ _ hx => hx.place
theorem Kept.syncGone (h : Kept b₀ s) {cause : Nat} : Kept b₀ (s.syncGone cause) :=
  Kept.logF (Kept.withParts (Kept.mark (Kept.clear (h.rePeriod fun _ hx => hx.clear))))
theorem Kept.syncMove (h : Kept b₀ s) {edge : Nat} {r : Fin 8} : Kept b₀ (s.syncMove edge r) := by
  unfold State.syncMove
  exact h.modFr
theorem Kept.syncGood (h : Kept b₀ s) {edge m : Nat} : Kept b₀ (s.syncGood edge m) :=
  Kept.foldl (Kept.ite (Kept.logF (Kept.mark (h.rePeriod fun _ hx => hx.set.mark))) (Kept.when (h.rePeriod fun _ hx => hx.set.mark)
    fun _ hx => hx.clear)) fun _ _ hx => hx.syncMove
theorem Kept.syncEdge (h : Kept b₀ s) {sub off : Nat} : Kept b₀ (s.syncEdge sub off) :=
  Kept.ite h (Kept.ite (Kept.withParts (h.when fun _ hx => hx.syncGone)) (Kept.ite (Kept.syncGood (Kept.withParts (h.when fun _ hx =>
    hx.syncGone))) (Kept.ite (Kept.syncGone (Kept.set (Kept.withParts (h.when fun _ hx => hx.syncGone)))) (Kept.set (Kept.withParts
    (h.when fun _ hx => hx.syncGone))))))
theorem Kept.syncLost (h : Kept b₀ s) {late : Bool} : Kept b₀ (s.syncLost late) :=
  Kept.ite h (Kept.ite (h.when fun _ hx => hx.withParts.syncGone) (h.when fun _ hx => hx.syncGone))

/-! ### Setpoint -/

theorem Kept.spMoved (h : Kept b₀ s) {r : Fin 8} {own : Option (Fin 2)} : Kept b₀ (s.spMoved r own) :=
  h.foldl fun _ _ hx => Kept.ite hx.noteOn hx
theorem Kept.putTgt (h : Kept b₀ s) {r : Fin 8} {code slew : Nat} : Kept b₀ (s.putTgt r code slew) := h.modSp.set
theorem Kept.spApply (h : Kept b₀ s) {r : Fin 8} {q : SetPt} : Kept b₀ (s.spApply r q) :=
  h.modSp.set.set.foldl fun _ _ hx => hx.putTgt.set
theorem Kept.spAccept (h : Kept b₀ s) {r : Fin 8} {src code slew : Nat} : Kept b₀ (s.spAccept r src code slew) := h.spApply.spMoved
theorem Kept.spRefusedRec (h : Kept b₀ s) {r : Fin 8} {src reason code : Nat} : Kept b₀ (s.spRefusedRec r src reason code) := h.logC
theorem Kept.spRefused (h : Kept b₀ s) {r : Fin 8} {src reason code : Nat} : Kept b₀ (s.spRefused r src reason code) :=
  h.mark.spRefusedRec
theorem Kept.winRec (h : Kept b₀ s) {r : Fin 8} {lo hi person refused : Nat} : Kept b₀ (s.winRec r lo hi person refused) := h.logC
theorem Kept.winWrite (h : Kept b₀ s) {r : Fin 8} {lo hi person : Nat} : Kept b₀ (s.winWrite r lo hi person) :=
  Kept.when (Kept.when (Kept.spApply (h.set.set.winRec.noteRail.when fun _ hx => hx.mark.logC)) fun _ hx => hx.mark) fun _ hx =>
    hx.spMoved
theorem Kept.vselRail (h : Kept b₀ s) {code : Nat} {r : Fin 8} : Kept b₀ (s.vselRail code r) := by
  unfold State.vselRail
  dsimp only
  exact Kept.ite h
      (by
        split
        · exact h.spAccept
        · exact h.mark.logC)
theorem Kept.vselTake (h : Kept b₀ s) {x : List Nat} : Kept b₀ (s.vselTake x) := h.withParts.set
theorem Kept.vselCommand (h : Kept b₀ s) {code : Nat} : Kept b₀ (s.vselCommand code) :=
  Kept.ite (h.set.mark.onRails fun _ _ hx => hx.vselRail) h.set.mark
theorem Kept.vselAccept (h : Kept b₀ s) {x : List Nat} : Kept b₀ (s.vselAccept x) := by
  unfold State.vselAccept
  dsimp only
  exact Kept.ite h
      (by
        split
        · exact Kept.ite h.vselTake h.vselTake.vselCommand
        · exact h.vselTake)
theorem Kept.vselInvalid (h : Kept b₀ s) {x : List Nat} : Kept b₀ (s.vselInvalid x) :=
  Kept.ite h (Kept.ite h.vselTake h.vselTake.mark.withParts.logC)
theorem Kept.loadSp (h : Kept b₀ s) {r : Fin 8} {b : List Byte} {boot : Nat} : Kept b₀ (s.loadSp r b boot) :=
  h.loadItems.load.modSp.set.set

/-! ### Tense -/

theorem Kept.sweep (h : Kept b₀ s) {x : Nat} : Kept b₀ (s.sweep x) := Kept.ite h.ctxRefill h
theorem Kept.hintTake (h : Kept b₀ s) {r : Fin 8} {x word : Nat} : Kept b₀ (s.hintTake r x word) := by
  unfold State.hintTake
  exact Kept.ite h (Kept.putHints (h.putCtx.rebuilt
    fun ⟨hr, hi, hs, hc, hg, hm⟩ => ⟨hr, hi, hs, hc, Store.wf_set hg _ _, hm⟩))
theorem Kept.unhint (h : Kept b₀ s) {r : Fin 8} {x : Nat} : Kept b₀ (s.unhint r x) := h.ctxCheck.retire.unwindMiss.putF
theorem Kept.modHint (h : Kept b₀ s) {r : Fin 8} {x k : Nat} {f : Hint → Hint} : Kept b₀ (s.modHint r x k f) := h.putHints
theorem Kept.hintRequest (h : Kept b₀ s) {r : Fin 8} {hint : Hint} : Kept b₀ (s.hintRequest r hint) :=
  h.addEvent.modHint.when fun _ hx => hx.mark
theorem Kept.hintAsk (h : Kept b₀ s) {r : Fin 8} {x k : Nat} : Kept b₀ (s.hintAsk r x k) := by
  unfold State.hintAsk
  dsimp only
  split
  · exact h.ctxCheck
  · exact Kept.ite h.ctxCheck.modHint.hintRequest h.ctxCheck
theorem Kept.hintRise (h : Kept b₀ s) {r : Fin 8} {x k : Nat} : Kept b₀ (s.hintRise r x k) := by
  unfold State.hintRise
  dsimp only
  split
  · exact h.ctxCheck
  · exact Kept.ite (Kept.ite h.ctxCheck.modHint (Kept.ite h.ctxCheck.modHint.addEvent h.ctxCheck.modHint.hintRequest)) h.ctxCheck
theorem Kept.hintHoldEnd (h : Kept b₀ s) {r : Fin 8} {x k : Nat} : Kept b₀ (s.hintHoldEnd r x k) := by
  unfold State.hintHoldEnd
  split
  · exact h
  · exact Kept.ite h.modHint h
theorem Kept.hintScore (h : Kept b₀ s) {r : Fin 8} {x k : Nat} : Kept b₀ (s.hintScore r x k) := by
  unfold State.hintScore
  split
  · exact h
  · exact Kept.ite h.modHint.judge.retire h
theorem Kept.earlyMiss (h : Kept b₀ s) {r : Fin 8} : Kept b₀ (s.earlyMiss r) := Kept.ite h.mark.unwindMiss.logC h
theorem Kept.ctxCmd (h : Kept b₀ s) {cmd x person : Nat} : Kept b₀ (s.ctxCmd cmd x person) :=
  Kept.ite h (Kept.logC (Kept.ite h.ctxCheck.putCtx (Kept.ite (h.ctxCheck.putCtx.onRails fun _ _ hx => hx.putHints) (h.ctxCheck.onRails
    fun _ _ hx => hx.retire.putHints))))

/-! ### Protect -/

theorem Kept.noteDac (h : Kept b₀ s) {r : Fin 8} : Kept b₀ (s.noteDac r) := by
  unfold State.noteDac
  split
  · exact h.modFr
  · exact Kept.ite h h.modFr
theorem Kept.lsEnd (h : Kept b₀ s) {r : Fin 8} : Kept b₀ (s.lsEnd r) := Kept.redriveRail (h.lookRail.endLs.foldl fun _ _ hx => hx.modPh)
theorem Kept.lsTrip (h : Kept b₀ s) {r : Fin 8} {under : Bool} : Kept b₀ (s.lsTrip r under) :=
  Kept.ite (Kept.requestAdd (Kept.redriveRail (Kept.tripHints (Kept.addEvent (h.lookRail.modFr.mark.mark.foldl fun _ _ hx => hx.modPh)))))
    (Kept.redriveRail (Kept.tripHints (Kept.addEvent (h.lookRail.modFr.mark.mark.foldl fun _ _ hx => hx.modPh))))
theorem Kept.lsSample (h : Kept b₀ s) {r : Fin 8} : Kept b₀ (s.lsSample r) := by
  unfold State.lsSample
  split
  · exact h
  · exact Kept.ite h.lsEnd h.redriveRail
  · exact Kept.ite h.lsEnd h
  · exact Kept.ite h.modFr.lsTrip (Kept.ite h.modFr.lsTrip h.modFr)
theorem Kept.windows (h : Kept b₀ s) {r : Fin 8} {vs va : Int} : Kept b₀ (s.windows r vs va) :=
  Kept.ite (((Kept.ite h.modFr.mark (Kept.ite h.modFr.clear h.modFr)).modFr).clear) (Kept.ite (Kept.ite ((Kept.ite h.modFr.mark (Kept.ite
    h.modFr.clear h.modFr)).modFr) ((((Kept.ite h.modFr.mark (Kept.ite h.modFr.clear h.modFr)).modFr).mark).modFr)) (Kept.ite (((Kept.ite
    h.modFr.mark (Kept.ite h.modFr.clear h.modFr)).modFr).clear) ((Kept.ite h.modFr.mark (Kept.ite h.modFr.clear h.modFr)).modFr)))
theorem Kept.frozenSample (h : Kept b₀ s) {r : Fin 8} : Kept b₀ (s.frozenSample r) := h.modFr
theorem Kept.crowbarLow (h : Kept b₀ s) {r : Fin 8} {vs va : Int} : Kept b₀ (s.crowbarLow r vs va) := by
  unfold State.crowbarLow
  exact h.modFr
theorem Kept.errorSample (h : Kept b₀ s) {r : Fin 8} {vs va : Int} : Kept b₀ (s.errorSample r vs va) :=
  Kept.ite h (Kept.ite (((Kept.ite h.noteDac.modFr.modFr.windows.crowbarLow.clear.modFr
    h.noteDac.modFr.modFr.windows.crowbarLow).frozenSample).lsSample) (Kept.ite h.noteDac.modFr.modFr.windows.crowbarLow.clear.modFr
    h.noteDac.modFr.modFr.windows.crowbarLow))
theorem Kept.lsMax (h : Kept b₀ s) {r : Fin 8} : Kept b₀ (s.lsMax r) := Kept.ite h.lsEnd.modFr h
theorem Kept.brakeRec (h : Kept b₀ s) {r : Fin 8} {cause : Nat} : Kept b₀ (s.brakeRec r cause) := h.mark.logF
theorem Kept.brakeStart (h : Kept b₀ s) {r : Fin 8} : Kept b₀ (s.brakeStart r) :=
  Kept.ite h.modFr (Kept.ite (Kept.ite h.modFr h.modFr.brakeRec.modFr) (Kept.ite (Kept.modFr (Kept.brakeRec (Kept.mark (Kept.redriveRail
    (Kept.logF (Kept.mark (Kept.mark (h.modFr.modFr.lookRail.foldl fun _ _ hx => Kept.ite hx.modPh hx)))))))) (Kept.redriveRail (Kept.logF
    (Kept.mark (Kept.mark (h.modFr.modFr.lookRail.foldl fun _ _ hx => Kept.ite hx.modPh hx)))))))
theorem Kept.brakeInhEnd (h : Kept b₀ s) {r : Fin 8} : Kept b₀ (s.brakeInhEnd r) := Kept.ite h.clear.modFr h
theorem Kept.pgLow (h : Kept b₀ s) {r : Fin 8} : Kept b₀ (s.pgLow r) := h.clear
theorem Kept.overvoltage (h : Kept b₀ s) {r : Fin 8} : Kept b₀ (s.overvoltage r) :=
  Kept.ite (Kept.redriveRail (h.lookRail.mark.endLs.mark.pgLow.modFr.foldl fun _ _ hx => hx.modPh)) h
theorem Kept.crowbarEnd (h : Kept b₀ s) {r : Fin 8} : Kept b₀ (s.crowbarEnd r) := Kept.ite ((Kept.ite h.logF h.logF).railLatch) h
theorem Kept.undervoltage (h : Kept b₀ s) {r : Fin 8} : Kept b₀ (s.undervoltage r) := Kept.ite h.mark.pgLow.logF h
theorem Kept.uvTimeout (h : Kept b₀ s) {r : Fin 8} : Kept b₀ (s.uvTimeout r) := Kept.ite h.logF.retry h
theorem Kept.pgRelease (h : Kept b₀ s) {r : Fin 8} : Kept b₀ (s.pgRelease r) := Kept.ite h.mark.leftStart h
theorem Kept.overcurrent (h : Kept b₀ s) {r : Fin 8} : Kept b₀ (s.overcurrent r) := by
  unfold State.overcurrent
  split
  · exact Kept.ite h.mark.logF.retry.modFr h
  · exact h
theorem Kept.busOver (h : Kept b₀ s) : Kept b₀ s.busOver := Kept.ite h.mark.logF.deviceLatch h
theorem Kept.refinFault (h : Kept b₀ s) {m : Fin 4} {mv : Nat} : Kept b₀ (s.refinFault m mv) :=
  Kept.ite h (Kept.ite h.withParts (Kept.logF (h.withParts.mark.mark.onPhases fun _ _ hx => Kept.ite hx.modPh hx)))
theorem Kept.refinEnd (h : Kept b₀ s) {m : Fin 4} : Kept b₀ (s.refinEnd m) := h.when fun _ hx => hx.clear
theorem Kept.openLoopStop (h : Kept b₀ s) {r : Fin 8} : Kept b₀ (s.openLoopStop r) := h.modEng.railLatch
theorem Kept.toAux (h : Kept b₀ s) {r : Fin 8} {cause : Nat} : Kept b₀ (s.toAux r cause) := h.mark.set.modFr
theorem Kept.senseOpen (h : Kept b₀ s) {r : Fin 8} : Kept b₀ (s.senseOpen r) :=
  Kept.ite (Kept.ite h.mark.logF.toAux h.mark.logF.openLoopStop) h
theorem Kept.frozenRequest (h : Kept b₀ s) {r : Fin 8} : Kept b₀ (s.frozenRequest r) := Kept.ite h.modFr.modEng h
theorem Kept.feedbackFrozen (h : Kept b₀ s) {r : Fin 8} : Kept b₀ (s.feedbackFrozen r) :=
  Kept.ite (Kept.ite h.mark.logF.toAux h.mark.logF.openLoopStop.modFr) h
theorem Kept.auxBad (h : Kept b₀ s) {r : Fin 8} : Kept b₀ (s.auxBad r) := Kept.ite h.mark.logF.openLoopStop.modFr h
theorem Kept.showTrim (h : Kept b₀ s) : Kept b₀ s.showTrim := h.setI.setB
theorem Kept.transfer (h : Kept b₀ s) {d : Devs} {old new : Nat} : Kept b₀ (s.transfer d old new) :=
  Kept.showTrim (Kept.withParts (Kept.set (h.onRails fun _ _ hx => hx.modFr)))
theorem Kept.refVote (h : Kept b₀ s) {d : Devs} : Kept b₀ (s.refVote d) := by
  unfold State.refVote
  dsimp only
  split
  · exact Kept.ite (Kept.withParts (Kept.ite (Kept.set (Kept.set (h.setI.setI.setI.foldl fun _ _ hx => Kept.ite hx hx.logF))) (Kept.set
      (Kept.set (h.setI.setI.setI.foldl fun _ _ hx => Kept.ite hx hx.logF))))) (Kept.ite (Kept.set (Kept.set (h.setI.setI.setI.foldl
      fun _ _ hx => Kept.ite hx hx.logF))) (Kept.set (Kept.set (h.setI.setI.setI.foldl fun _ _ hx => Kept.ite hx hx.logF))))
  · exact Kept.logF (Kept.ite (Kept.transfer (Kept.set (Kept.ite (Kept.withParts (Kept.ite (Kept.set (Kept.set (h.setI.setI.setI.foldl
      fun _ _ hx => Kept.ite hx hx.logF))) (Kept.set (Kept.set (h.setI.setI.setI.foldl fun _ _ hx => Kept.ite hx hx.logF))))) (Kept.ite
      (Kept.set (Kept.set (h.setI.setI.setI.foldl fun _ _ hx => Kept.ite hx hx.logF))) (Kept.set (Kept.set (h.setI.setI.setI.foldl
      fun _ _ hx => Kept.ite hx hx.logF))))))) (Kept.set (Kept.ite (Kept.withParts (Kept.ite (Kept.set (Kept.set (h.setI.setI.setI.foldl
      fun _ _ hx => Kept.ite hx hx.logF))) (Kept.set (Kept.set (h.setI.setI.setI.foldl fun _ _ hx => Kept.ite hx hx.logF))))) (Kept.ite
      (Kept.set (Kept.set (h.setI.setI.setI.foldl fun _ _ hx => Kept.ite hx hx.logF))) (Kept.set (Kept.set (h.setI.setI.setI.foldl
      fun _ _ hx => Kept.ite hx hx.logF)))))))
theorem Kept.trimStep (h : Kept b₀ s) : Kept b₀ s.trimStep := Kept.ite h (Kept.showTrim (h.withParts.onRails fun _ _ hx => hx.modFr))
theorem Kept.noVoteFault (h : Kept b₀ s) : Kept b₀ s.noVoteFault := h.logF.withParts.deviceLatch
theorem Kept.precheckVote (h : Kept b₀ s) {d : Devs} : Kept b₀ (s.precheckVote d) :=
  Kept.ite h (Kept.ite h.refVote.withParts h.refVote.noVoteFault)
theorem Kept.preFail (h : Kept b₀ s) {r : Fin 8} {test : Nat} {reading : Int} : Kept b₀ (s.preFail r test reading) := h.mark.logF
theorem Kept.preHold (h : Kept b₀ s) {r : Fin 8} : Kept b₀ (s.preHold r) := h.railOff.mark
theorem Kept.prePhase (h : Kept b₀ s) {r : Fin 8} {n : Fin 32} {zero change : Int} : Kept b₀ (s.prePhase r n zero change) :=
  Kept.ite h.set.mark.logF.failPhase (Kept.ite h.set.mark.logF.failPhase h.set)
theorem Kept.prestart (h : Kept b₀ s) {r : Fin 8} {refin : Nat} {meas : List (Int × Int × Int)} {vsp vsn vsa rise : Int} :
    Kept b₀ (s.prestart r refin meas vsp vsn vsa rise) :=
  Kept.ite h
    (Kept.ite (h.modFr.preFail.onRails fun _ _ hx => Kept.ite hx.preHold hx)
      (Kept.ite (Kept.deviceLatch (Kept.mark (Kept.logF (by
                split
                · exact Kept.set (Kept.foldl (h.modFr.set.foldl
                          fun _ _ hx =>
                            Kept.ite hx.set (Kept.ite hx.prePhase hx.set))
                        fun _ _ hx =>
                          hx.preFail)
                · exact Kept.foldl (h.modFr.set.foldl fun _ _ hx => Kept.ite hx.set (Kept.ite hx.prePhase hx.set))
                      fun _ _ hx =>
                        hx.preFail))))
        (Kept.ite (Kept.preHold (Kept.foldl (h.modFr.set.foldl
                fun _ _ hx =>
                  Kept.ite hx.set (Kept.ite hx.prePhase hx.set))
              fun _ _ hx =>
                hx.preFail))
          (Kept.modFr (Kept.foldl (h.modFr.set.foldl fun _ _ hx => Kept.ite hx.set (Kept.ite hx.prePhase hx.set))
              fun _ _ hx =>
                hx.preFail)))))
theorem Kept.railClrRec (h : Kept b₀ s) {r : Fin 8} {person refused : Nat} : Kept b₀ (s.railClrRec r person refused) := h.logF
theorem Kept.railClr (h : Kept b₀ s) {r : Fin 8} {person : Nat} : Kept b₀ (s.railClr r person) :=
  ((Kept.ite h.railOff h).clear).railClrRec

/-! ### Wake -/

theorem Kept.shutRails (h : Kept b₀ s) : Kept b₀ s.shutRails := Kept.stopInOrder (h.onRails fun _ _ hx => hx.disarm)
theorem Kept.shutdown (h : Kept b₀ s) : Kept b₀ s.shutdown := by
  unfold State.shutdown
  dsimp only
  exact Kept.ite h
      (by
        split
        · exact h.mark
        · exact h.mark
        · exact h.mark
        · exact h.mark
        · exact h.mark
        · exact h.mark.shutRails)
theorem Kept.pend (h : Kept b₀ s) {src : Nat} : Kept b₀ (s.pend src) := h.mark.withParts
theorem Kept.supplyGood (h : Kept b₀ s) {x : Supply} : Kept b₀ (s.supplyGood x) := by
  unfold State.supplyGood
  split
  · exact h.mark
  · exact h.mark.withParts.when fun _ hx => hx.pend
  · exact h.when fun _ hx => hx.mark
  · exact Kept.ite h (h.mark.withParts.when fun _ hx => hx.controlBack)
  · exact Kept.ite h h.mark
theorem Kept.vddioMode (h : Kept b₀ s) {mv : Nat} : Kept b₀ (s.vddioMode mv) :=
  Kept.ite h (Kept.ite h.mark.mark.withParts (Kept.ite h.mark.clear.withParts h.clear))
theorem Kept.cold (h : Kept b₀ s) : Kept b₀ s.cold := h.keep.withParts
theorem Kept.padLoss (h : Kept b₀ s) : Kept b₀ s.padLoss := Kept.ite h h.clear.logC
theorem Kept.vddLoss (h : Kept b₀ s) : Kept b₀ s.vddLoss :=
  Kept.ite h
    (Kept.ite h.clear.padLoss
      (Kept.withParts (Kept.allOff (Kept.onRails (Kept.logF (h.clear.padLoss.when fun _ hx => hx.mark))
            fun _ _ hx =>
              by
                split
                · exact hx
                · exact hx
                · exact hx.fastStop.railOff))))
theorem Kept.vcoreLoss (h : Kept b₀ s) : Kept b₀ s.vcoreLoss :=
  Kept.ite h (Kept.lose (Kept.withParts (Kept.logF (h.clear.when fun _ hx => hx.mark))))
theorem Kept.buckRestart (h : Kept b₀ s) : Kept b₀ s.buckRestart := Kept.ite h.withParts h
theorem Kept.strapTaken (h : Kept b₀ s) {i : Nat} {c : Option Nat} : Kept b₀ (s.strapTaken i c) := h.set.set.set.set.withParts
theorem Kept.strapRead (h : Kept b₀ s) {i a b : Nat} : Kept b₀ (s.strapRead i a b) :=
  Kept.ite h
    (by
      split
      · exact Kept.ite h.withParts.strapTaken (Kept.ite h.withParts.strapTaken h.withParts)
      · exact Kept.ite h.withParts.strapTaken h.withParts)
theorem Kept.lfoscStart (h : Kept b₀ s) : Kept b₀ s.lfoscStart := h.mark.withParts
theorem Kept.wakeRise (h : Kept b₀ s) : Kept b₀ s.wakeRise := Kept.ite h (Kept.ite h.withParts.pend (h.withParts.when fun _ hx => hx.set))
theorem Kept.wakeLow (h : Kept b₀ s) : Kept b₀ s.wakeLow := Kept.ite h.withParts h.withParts.shutdown
theorem Kept.wakeTimer (h : Kept b₀ s) : Kept b₀ s.wakeTimer := h.when fun _ hx => hx.pend
theorem Kept.wakeAccept (h : Kept b₀ s) : Kept b₀ s.wakeAccept := Kept.ite h.withParts.clear.set.fromDormant.wakeEntry h
theorem Kept.timedLimit (h : Kept b₀ s) : Kept b₀ s.timedLimit := h.when fun _ hx => hx.shutdown
theorem Kept.backupRun (h : Kept b₀ s) : Kept b₀ s.backupRun :=
  Kept.ite (by
      split
      · exact h
      · exact h
      · exact h.enterSafestop
      · exact h.deviceLatch) h
theorem Kept.xtalTimeout (h : Kept b₀ s) : Kept b₀ s.xtalTimeout := Kept.ite h.mark.mark.logF h
theorem Kept.refFail (h : Kept b₀ s) {departed : Bool} : Kept b₀ (s.refFail departed) := Kept.ite h h.mark.mark.mark.clear.logF.backupRun
theorem Kept.pllUnlock (h : Kept b₀ s) {p : Pll} {err : Int} : Kept b₀ (s.pllUnlock p err) :=
  Kept.ite h (Kept.ite h.withParts.clear.mark.logF.withParts.allOff.deviceLatch h.withParts.clear.mark.logF)
theorem Kept.pllRelock (h : Kept b₀ s) {p : Pll} {err : Int} : Kept b₀ (s.pllRelock p err) :=
  Kept.ite h (h.withParts.mark.logF.when fun _ hx => hx.withParts)
theorem Kept.wakeDone (h : Kept b₀ s) : Kept b₀ s.wakeDone :=
  Kept.ite (Kept.enterParse (Kept.withParts (h.setB.mark.mark.mark.controlBack.when fun _ hx => hx.logC))) h
theorem Kept.dormantEntry (h : Kept b₀ s) {n : Nat} : Kept b₀ (s.dormantEntry n) := by
  unfold State.dormantEntry
  exact Kept.withParts (Kept.allOff (Kept.onRails h.endSession.dropMailbox.toDormant.enter.resetRegs.clear.clear.clear
    fun _ _ hx => hx.set))
theorem Kept.wakeTimeout (h : Kept b₀ s) : Kept b₀ s.wakeTimeout := Kept.ite h.inc.logF.dormantEntry h
theorem Kept.resetAssert (h : Kept b₀ s) : Kept b₀ s.resetAssert :=
  Kept.ite h h.clearRecorder.endSession.controlReset.allOff.withParts.wakeEntry
theorem Kept.goDormant (h : Kept b₀ s) : Kept b₀ s.goDormant := by
  unfold State.goDormant
  split
  · exact Kept.ite h.dormantEntry h
  · exact h
theorem Kept.regionOff (h : Kept b₀ s) {m : Fin 4} : Kept b₀ (s.regionOff m) := by
  unfold State.regionOff
  dsimp only
  exact h.withParts.onRails
      fun _ _ hx =>
        Kept.ite (by
            split
            · exact hx.clear.stopInOrder
            · exact hx.clear.stopInOrder
            · exact hx.clear.stopInOrder
            · exact hx.clear.railOff
            · exact hx.clear.railOff
            · exact hx.clear) hx

/-! ### Adopt -/

theorem Kept.pronounUpdate (h : Kept b₀ s) {r : Fin 8} : Kept b₀ (s.pronounUpdate r) :=
  Kept.ite h (Kept.ite (((((((Kept.ite h.fallStep h).modFr).set).setB).setB).setI).applyDuty) ((((((Kept.ite h.fallStep
    h).modFr).set).setB).setB).setI))
theorem Kept.portsAfresh (h : Kept b₀ s) : Kept b₀ s.portsAfresh := h.foldl fun _ _ hx => hx.modPort.set.set.clear.clear
theorem Kept.portsTell (h : Kept b₀ s) : Kept b₀ s.portsTell := h.noteAll.onRails fun _ _ hx => Kept.ite hx.noteRail hx
theorem Kept.preload (h : Kept b₀ s) {r : Fin 8} {u0 : Int} : Kept b₀ (s.preload r u0) := by
  unfold State.preload
  exact h.stick.clear.modEng
theorem Kept.restoreRail (h : Kept b₀ s) {r : Fin 8} : Kept b₀ (s.restoreRail r) := Kept.ite h h.modSp.takeSet.preload.modFr
theorem Kept.giveBack (h : Kept b₀ s) {r : Fin 8} : Kept b₀ (s.giveBack r) := Kept.ite h h.modEng.modFr.setRail
theorem Kept.adopted (h : Kept b₀ s) : Kept b₀ s.adopted :=
  Kept.ite h (Kept.when (Kept.when (Kept.noteAll (Kept.enter (Kept.logC (Kept.inc (Kept.set (Kept.set (Kept.clear (Kept.withParts
    (h.onRails fun _ _ hx => hx.giveBack))))))))) fun _ hx => hx.stopInOrder) fun _ hx => hx.shutRails)
theorem Kept.adoptCheck (h : Kept b₀ s) {hashOk digestOk eccOk : Bool} : Kept b₀ (s.adoptCheck hashOk digestOk eccOk) :=
  Kept.ite h
    (Kept.ite h.controlBack
      (by
        split
        · exact h.controlBack.refuse
        · exact Kept.adopted (h.controlBack.withParts.portsAfresh.portsTell.clearValid.onRails
                fun _ _ hx =>
                  hx.restoreRail)))
theorem Kept.handover (h : Kept b₀ s) {r : Fin 8} : Kept b₀ (s.handover r) := Kept.ite h.modFr.applyDuty.adopted h
theorem Kept.handoverTimeout (h : Kept b₀ s) {r : Fin 8} : Kept b₀ (s.handoverTimeout r) := Kept.ite h.refuse h

/-! ### Pack -/

theorem Kept.capMeasure (h : Kept b₀ s) {v : Nat} {i : Int} {rho : Nat} : Kept b₀ (s.capMeasure v i rho) :=
  Kept.ite (by
      split
      · exact h.reading
      · exact h)
    (Kept.modPk (Kept.setI (Kept.set (by
            split
            · exact h.reading
            · exact h))))
theorem Kept.floorCheck (h : Kept b₀ s) : Kept b₀ s.floorCheck := by
  unfold State.floorCheck
  exact h.modPk.when fun _ hx => hx.huTrip
theorem Kept.eodCheck (h : Kept b₀ s) : Kept b₀ s.eodCheck :=
  Kept.ite h.modPk (Kept.ite h.modPk.eod (Kept.ite h.modPk.eod (Kept.ite h.modPk.eod h.modPk)))
theorem Kept.capture (h : Kept b₀ s) {v : Nat} {i : Int} {rho : Nat} : Kept b₀ (s.capture v i rho) :=
  Kept.ite h (Kept.ite (h.capMeasure.modPk.floorCheck.presence.when fun _ hx => hx.setChg.modPk) (Kept.eodCheck (Kept.lrnCheck
    (Kept.disAccount (Kept.packEstimate (Kept.when (h.capMeasure.modPk.floorCheck.presence.when fun _ hx => hx.setChg.modPk) fun _ hx =>
    hx.firstEstimate))))))
theorem Kept.coulomb (h : Kept b₀ s) {raw : Nat} : Kept b₀ (s.coulomb raw) := Kept.ite h (h.setI.modPk.when fun _ hx => hx.gauge)
theorem Kept.chgInput (h : Kept b₀ s) {above : Nat} : Kept b₀ (s.chgInput above) :=
  Kept.ite (Kept.ite (Kept.ite h.mark.modPk.setChg h.mark.modPk.setChg) h.clear.modPk) h
theorem Kept.chgRetry (h : Kept b₀ s) : Kept b₀ s.chgRetry := h.when fun _ hx => hx.modPk
theorem Kept.chgInLost (h : Kept b₀ s) : Kept b₀ s.chgInLost := h.clear.setChg.modPk
theorem Kept.chgPeriod (h : Kept b₀ s) {sw demand : Nat} : Kept b₀ (s.chgPeriod sw demand) :=
  Kept.ite h (Kept.ite h.chgInLost.logC (Kept.ite h.modPk.chgInLost (Kept.ite h.modPk.setChg h.modPk)))
theorem Kept.chgTerm (h : Kept b₀ s) : Kept b₀ s.chgTerm := Kept.ite h.chgDone h
theorem Kept.chgAgain (h : Kept b₀ s) : Kept b₀ s.chgAgain := Kept.ite h.setChg.modPk h
theorem Kept.chgPreOver (h : Kept b₀ s) : Kept b₀ s.chgPreOver := Kept.ite h.chgFault.mark h
theorem Kept.chgTimerOver (h : Kept b₀ s) : Kept b₀ s.chgTimerOver := Kept.ite h.chgFault h
theorem Kept.chgOver (h : Kept b₀ s) : Kept b₀ s.chgOver := Kept.ite h.chgFault h
theorem Kept.pkClr (h : Kept b₀ s) : Kept b₀ s.pkClr := Kept.ite h.setChg.set h
theorem Kept.insHoldEnd (h : Kept b₀ s) : Kept b₀ s.insHoldEnd := Kept.ite h.newPack h
theorem Kept.lossDeclared (h : Kept b₀ s) : Kept b₀ s.lossDeclared :=
  Kept.ite h.modPk.chargerRound
    (by
      split
      · exact h.modPk.chargerRound.setGate.modPk.enter.mark.logC.queuePack.when fun _ hx => hx.huTrip
      · exact h.modPk.chargerRound.setGate.modPk.enter.mark.logC.queuePack.when fun _ hx => hx.huTrip
      · exact h.modPk.chargerRound.setGate.modPk.enter.mark.logC.queuePack.when fun _ hx => hx.huTrip
      · exact h.modPk.chargerRound.setGate.modPk.enter.mark.logC.queuePack.when fun _ hx => hx.huTrip
      · exact h.modPk.chargerRound.setGate.modPk.when fun _ hx => hx.huTrip
      · exact h.modPk.chargerRound.setGate.modPk.when fun _ hx => hx.huTrip
      · exact h.modPk.chargerRound)
theorem Kept.probeFail (h : Kept b₀ s) {drop : Nat} : Kept b₀ (s.probeFail drop) := h.setGate.modPk.mark.logC
theorem Kept.inputLoss (h : Kept b₀ s) : Kept b₀ s.inputLoss :=
  Kept.ite h (Kept.ite h.modPk (Kept.ite h.modPk.probeFail (Kept.ite h.modPk h.modPk.lossDeclared)))
theorem Kept.busGoodAgain (h : Kept b₀ s) : Kept b₀ s.busGoodAgain := Kept.ite h (Kept.ite h.modPk.withParts.modPk h.modPk)
theorem Kept.probeStart (h : Kept b₀ s) {bus : Nat} {rev : Bool} : Kept b₀ (s.probeStart bus rev) :=
  h.setGate.modPk.when fun _ hx => hx.probeFail
theorem Kept.probeDue (h : Kept b₀ s) {bus : Nat} : Kept b₀ (s.probeDue bus) := Kept.ite h.probeStart h
theorem Kept.restored (h : Kept b₀ s) : Kept b₀ s.restored :=
  Kept.ite h.logC.setGate.mark.withParts.modPk.queuePack.enter h.logC.setGate.mark.withParts.modPk.queuePack
theorem Kept.probeEnd (h : Kept b₀ s) {bus : Nat} : Kept b₀ (s.probeEnd bus) := Kept.ite h (Kept.ite h.restored h.probeFail)
theorem Kept.holdupOver (h : Kept b₀ s) : Kept b₀ s.holdupOver := Kept.ite h.eod h
theorem Kept.restEnd (h : Kept b₀ s) : Kept b₀ s.restEnd := Kept.ite h.modPk.ocvApply h
theorem Kept.testStart (h : Kept b₀ s) : Kept b₀ s.testStart := Kept.ite h.mark.setChg.modPk h
theorem Kept.testRested (h : Kept b₀ s) : Kept b₀ s.testRested := Kept.ite h.modPk.ocvApply.setChg h
theorem Kept.testMeasure (h : Kept b₀ s) : Kept b₀ s.testMeasure := Kept.ite h.set.logC.clear.setChg.modPk.withParts.wear.queuePack h
theorem Kept.testAgain (h : Kept b₀ s) : Kept b₀ s.testAgain := Kept.ite h.testStart h
theorem Kept.recordHourly (h : Kept b₀ s) : Kept b₀ s.recordHourly := Kept.ite h.queuePack h
theorem Kept.loadPack (h : Kept b₀ s) {b : Option (List Byte)} : Kept b₀ (s.loadPack b) := by
  unfold State.loadPack
  split
  · exact h.load.modPk
  · exact h.loadItems.load.modPk.when fun _ hx => hx.packStart

/-! ### Thermal -/

theorem Kept.hkStart (h : Kept b₀ s) : Kept b₀ s.hkStart :=
  Kept.ite h.withParts (Kept.ite h (Kept.ite h.withParts.inc.mark.logF h.withParts.incWrap.withParts))
theorem Kept.hkDemand (h : Kept b₀ s) : Kept b₀ s.hkDemand := Kept.ite h h.withParts
theorem Kept.tempChannel (h : Kept b₀ s) {ch : Nat} {a b : Int} : Kept b₀ (s.tempChannel ch a b) := by
  unfold State.tempChannel
  dsimp only
  exact Kept.ite h.reading
      (Kept.ite h.reading
        (by
          split
          · exact h
          · exact h.reading
          · exact h.reading
          · exact h.reading))
theorem Kept.refinChannel (h : Kept b₀ s) {m : Fin 4} {a : Int} : Kept b₀ (s.refinChannel m a) := Kept.ite h.refinFault h.withParts
theorem Kept.selfCheck (h : Kept b₀ s) {a b : Int} : Kept b₀ (s.selfCheck a b) := Kept.ite h.withParts h.withParts.clear
theorem Kept.hkEnd (h : Kept b₀ s) : Kept b₀ s.hkEnd := h.withParts.thermEval.when fun _ hx => hx.packEstimate
theorem Kept.hkResult (h : Kept b₀ s) {ch : Nat} {a b : Int} : Kept b₀ (s.hkResult ch a b) :=
  Kept.ite h.tempChannel (Kept.ite (Kept.ite h h.refinChannel) (Kept.ite h.withParts (Kept.ite h.withParts (Kept.ite (Kept.ite h
    h.refVote) (Kept.ite (Kept.ite h h.set) (Kept.ite (Kept.ite h h.set) (Kept.ite (Kept.ite h h.set) (Kept.ite (Kept.ite h h.withParts)
    (Kept.ite (Kept.ite h h.withParts) (Kept.ite (Kept.ite h h.set) (Kept.ite h.selfCheck h)))))))))))
theorem Kept.hkSlot (h : Kept b₀ s) {ch : Nat} {a b : Int} : Kept b₀ (s.hkSlot ch a b) :=
  Kept.ite h (Kept.ite (Kept.ite h.withParts h) (Kept.ite h (h.hkResult.withParts.when fun _ hx => hx.hkEnd)))
theorem Kept.selfFail (h : Kept b₀ s) : Kept b₀ s.selfFail := Kept.ite h.mark.logF h
theorem Kept.sensorFail (h : Kept b₀ s) {k : Nat} : Kept b₀ (s.sensorFail k) := Kept.ite h.putTemp.putSens.mark.logF.windowsOf.thermEval h
theorem Kept.tfltScan (h : Kept b₀ s) {n : Fin 32} {code : Nat} : Kept b₀ (s.tfltScan n code) :=
  Kept.ite h
    (by
      split
      · exact Kept.ite h.withParts h.withParts.reading.thermEval)
theorem Kept.tshut (h : Kept b₀ s) {cmp : Nat} : Kept b₀ (s.tshut cmp) := Kept.ite h (h.withParts.pkgShut.when fun _ hx => hx.deviceLatch)
theorem Kept.loadThermal (h : Kept b₀ s) {b : List Byte} : Kept b₀ (s.loadThermal b) :=
  Kept.withParts (h.loadItems.foldl fun _ _ hx => hx.loadItems)

/-! ### Recorder -/

theorem Kept.foldBack (h : Kept b₀ s) {e : Evt} : Kept b₀ (s.foldBack e) := Kept.ite h.withParts h.withParts
theorem Kept.intake (h : Kept b₀ s) : Kept b₀ s.intake :=
  Kept.ite h
    (by
      split
      · exact h
      · exact Kept.ite h.withParts.withParts
            (Kept.ite h.withParts.foldBack
              (by
                split
                · exact h.withParts.inc.mark.withParts
                · exact h.withParts.inc.mark.when fun _ hx => hx.mark)))
theorem Kept.histQueue (h : Kept b₀ s) {r : Record} : Kept b₀ (s.histQueue r).1 := by
  unfold State.histQueue
  split
  · exact h.withJrn
  · dsimp only
    exact h.inc.mark.logC
theorem Kept.makeRoom (h : Kept b₀ s) {isSticky : Bool} : Kept b₀ (s.makeRoom isSticky) :=
  Kept.ite h.withParts.mark.logC (Kept.ite h.withParts.mark h)
theorem Kept.recordStore (h : Kept b₀ s) : Kept b₀ s.recordStore := by
  unfold State.recordStore
  refine Kept.ite h ?_
  split
  · exact h
  · rename_i e q _
    have hq : Kept b₀ { s with rcd.intake := q } := h.withParts
    generalize ({ s with rcd.intake := q } : State) = x at hq
    have hr (c : Bool) (r : Record) : Kept b₀ (if c then x.histQueue r else (x, r)).1 := by
      split
      · exact hq.histQueue
      · exact hq
    exact Kept.set (Kept.withParts (hr _ _).makeRoom)
theorem Kept.windowEnd (h : Kept b₀ s) {code unit : Nat} : Kept b₀ (s.windowEnd code unit) := by
  unfold State.windowEnd
  split
  · exact h
  · exact Kept.ite h (Kept.ite h.withParts h.withParts.emit)
theorem Kept.commitDone (h : Kept b₀ s) {ok : Bool} {drop : Nat} : Kept b₀ (s.commitDone ok drop) := by
  unfold State.commitDone
  split
  · exact h
  · exact Kept.ite (Kept.when (h.clear.putJrn fun hw => Journal.finish_wf hw _ _) fun _ hx => hx.capMeasured) h.jrnAbandon.jrnDefer
theorem Kept.deferRetry (h : Kept b₀ s) {vs : Nat} : Kept b₀ (s.deferRetry vs) := by
  unfold State.deferRetry
  exact Kept.ite (Kept.jrnEval (Kept.set (Kept.clear h.withJrn))) h
theorem Kept.fwJournal (h : Kept b₀ s) {b : List Byte} : Kept b₀ (s.fwJournal b) := by
  unfold State.fwJournal
  exact Kept.ite (Kept.journalChanged h.withJrn) h

/-! ### View -/

theorem Kept.putBank (h : Kept b₀ s) {bus : Nat} {b : RecBank} : Kept b₀ (s.putBank bus b) := Kept.ite h.withParts h.withParts
theorem Kept.recSel (h : Kept b₀ s) {bus sel : Nat} : Kept b₀ (s.recSel bus sel) := by
  unfold State.recSel
  dsimp only
  split <;> exact h.putBank
theorem Kept.denied (h : Kept b₀ s) {w : Who} {a : Nat} {wr : Bool} : Kept b₀ (s.denied w a wr) := h.mark.logC
theorem Kept.readEffect (h : Kept b₀ s) {w : Who} {a : Nat} : Kept b₀ (s.readEffect w a) :=
  Kept.ite h.withParts (Kept.ite (Kept.ite ((Kept.ite h.mark.putBank h).recSel) (Kept.ite h.mark.putBank h)) (Kept.ite h.ctxCheck h))
theorem Kept.regRead (h : Kept b₀ s) {w : Who} {a : Nat} : Kept b₀ (s.regRead w a).2.2 := by
  unfold State.regRead
  dsimp only
  split
  · exact h.denied
  · split
    · exact h
    · split
      · exact h.denied
      · exact h.readEffect

/-! ### Access -/

theorem Kept.pmbClear (h : Kept b₀ s) {pages : List (Fin 8)} : Kept b₀ (s.pmbClear pages) :=
  Kept.withPmb (Kept.clear (h.foldl fun _ _ hx => hx.foldl fun _ _ hy => hy.clear))
theorem Kept.recClear (h : Kept b₀ s) {person : Nat} {all : Bool} : Kept b₀ (s.recClear person all) := h.withParts.logC
theorem Kept.mboxPush (h : Kept b₀ s) {x : Nat} : Kept b₀ (s.mboxPush x) := h.withParts
theorem Kept.mboxGo (h : Kept b₀ s) {bus : Nat} : Kept b₀ (s.mboxGo bus) := h.withParts
theorem Kept.consent (h : Kept b₀ s) {p : Fin 2} {mask minutes : Nat} : Kept b₀ (s.consent p mask minutes) := h.withParts.mark.logC
/-- What a write of one field does where it is more than to store the value. -/
theorem Kept.fieldAct (h : Kept b₀ s) {w : Who} {nv : Fld → Nat → Nat} {e : Fld × Nat × Nat} {x : State}
    (hx : s.fieldAct w nv e = some x) : Kept b₀ x := by
  have hi {c : Prop} [Decidable c] {a b : Option State} (ha : ∀ x, a = some x → Kept b₀ x) (hb : ∀ x, b = some x → Kept b₀ x) :
      ∀ x, (if c then a else b) = some x → Kept b₀ x := by
    split
    · exact ha
    · exact hb
  have hs {y : State} (hy : Kept b₀ y) : ∀ x, some y = some x → Kept b₀ x := fun _ e => Option.some.inj e ▸ hy
  suffices ∀ x, s.fieldAct w nv e = some x → Kept b₀ x from this _ hx
  unfold State.fieldAct
  exact hi (hs h.set) <| hi (hs (Kept.ite h.withParts h)) <| hi (hs (h.when fun _ hx => hx.shutdown)) <| hi (hs h.set) <|
    hi (hs (h.load.when fun _ hx => hx.journalChanged)) <| hi (hs h.storeWrite) <| hi (hs h.spAccept) <|
    hi (hs (Kept.ite h.winWrite h)) <| hi (hs h.set) <| hi (hs h.set) <| hi (hs h.ctxCmd) <| hi (hs h.forceTri) <|
    hi (hs (h.foldl fun _ _ hx => hx.railClr)) <| hi (hs h.testStart) <| hi (hs h.pkClr) <| hi (hs h.mboxGo) <|
    hi (hs h.endSession) <| hi (hs h.mboxPush) <| hi (hs h) <| hi (hs h.putBank) <| hi (hs h.putBank) <| hi (hs h.recClear) <|
    hi (hs h.recClear) <| hi (hs h.pmbClear) fun _ e => (Option.some_ne_none _ e.symm).elim
theorem Kept.fieldWrite (h : Kept b₀ s) {w : Who} {nv : Fld → Nat → Nat} {e : Fld × Nat × Nat} : Kept b₀ (s.fieldWrite w nv e) := by
  unfold State.fieldWrite
  cases hx : s.fieldAct w nv e with
  | none => exact h.set
  | some x => exact h.fieldAct hx
theorem Kept.selEffect (h : Kept b₀ s) {w : Who} {a v : Nat} : Kept b₀ (s.selEffect w a v) := Kept.ite h.recSel h
theorem Kept.consentEffect (h : Kept b₀ s) {w : Who} {nv : Fld → Nat → Nat} {l : List (Fld × Nat × Nat)} :
    Kept b₀ (s.consentEffect w nv l) := h.when fun _ hx => hx.consent
/-- The record of a refused write. -/
theorem Kept.fieldRule (h : Kept b₀ s) {x : State} {w : Who} {a : Nat} {nv : Fld → Nat → Nat} {both : Bool} {e : Fld × Nat × Nat}
    {q : Refused} (hq : x.fieldRule w a nv both e = some q) : Kept b₀ (q.act s) := by
  have hi {c : Prop} [Decidable c] {a b : Option Refused} (ha : ∀ q, a = some q → Kept b₀ (q.act s))
      (hb : ∀ q, b = some q → Kept b₀ (q.act s)) : ∀ q, (if c then a else b) = some q → Kept b₀ (q.act s) := by
    split
    · exact ha
    · exact hb
  have hs {n : Nat} {f : State → State} (hf : Kept b₀ (f s)) : ∀ q, some (Refused.mk n f) = some q → Kept b₀ (q.act s) :=
    fun _ e => Option.some.inj e ▸ hf
  have hn : ∀ q, (none : Option Refused) = some q → Kept b₀ (q.act s) := nofun
  suffices ∀ q, x.fieldRule w a nv both e = some q → Kept b₀ (q.act s) from this _ hq
  unfold State.fieldRule
  refine hi (hs h.logF) <| hi (hs h) <| hi (hi hn (hs h)) <| hi (hi hn (hs h)) <| hi (hi hn (hs h)) <|
    hi (hi (hi hn (hs h)) (hs h.logC)) <| hi (hi hn (hs h.overrideRefused)) <| hi (hi hn (hs h.overrideRefused)) <|
    hi (hi hn (hs h.storeRefused)) <| hi ?_ <| hi (hi hn (hs h.winRec)) <|
    hi (hi hn (hs (h.foldl fun _ _ hx => Kept.ite hx hx.railClrRec))) <| hi (hi (hs h) hn) <| hi (hi hn (hs h.logC)) hn
  split
  · exact hn
  · exact hs h.spRefused
theorem Kept.regWrite (h : Kept b₀ s) {w : Who} {a v : Nat} {both : Bool} : Kept b₀ (s.regWrite w a v both).2 := by
  unfold State.regWrite
  dsimp only
  split
  · exact h.denied
  · split
    · exact h
    · split
      · rename_i q hq
        obtain ⟨e, -, he⟩ := List.exists_of_findSome?_eq_some hq
        exact h.fieldRule he
      · exact Kept.selEffect (Kept.consentEffect (h.foldl fun _ _ hx => hx.fieldWrite))
theorem Kept.hostWrite (h : Kept b₀ s) {p : Path} {a v : Nat} {both : Bool} : Kept b₀ (s.hostWrite p a v both) := Kept.ite h.regWrite h
theorem Kept.swapBoth (h : Kept b₀ s) {path : Path} {n : Fin 32} {data : Nat} : Kept b₀ (s.swapBoth path n data) :=
  Kept.ite h
    (by
      split
      · exact h.regWrite
      · exact Kept.ite h.regWrite.set h.regWrite)
theorem Kept.packTest (h : Kept b₀ s) {who : Option (Path × Word)} : Kept b₀ (s.packTest who) := by
  unfold State.packTest
  split
  · exact h.hostWrite
  · exact Kept.ite h h.testStart
theorem Kept.hostRead (h : Kept b₀ s) {p : Path} {a : Nat} : Kept b₀ (s.hostRead p a).2.2 := by
  unfold State.hostRead
  split
  · exact h.regRead
  · exact h
theorem Kept.consentEnd (h : Kept b₀ s) {r : Nat} : Kept b₀ (s.consentEnd r) := Kept.ite h.withParts h

/-! ### Hostbus -/

theorem Kept.spiAnswer (h : Kept b₀ s) : Kept b₀ s.spiAnswer := by
  unfold State.spiAnswer
  split
  · exact h.withParts
  · exact by
        split
        · exact h.withParts
        · exact h.withParts
theorem Kept.spiDone (h : Kept b₀ s) {op tag res data : Nat} : Kept b₀ (s.spiDone op tag res data) := h.withParts
/-- The state after an access was carried out at once or sent over the bridge. -/
def Issued.state : Issued → State
  | .done _ _ s => s
  | .waits s => s
theorem Kept.issueRead (h : Kept b₀ s) {w : Who} {a : Nat} : Kept b₀ (s.issueRead w a).state := by
  unfold State.issueRead
  dsimp only
  split
  · exact h.withC4
  · exact h.regRead
theorem Kept.issueWrite (h : Kept b₀ s) {w : Who} {a v : Nat} : Kept b₀ (s.issueWrite w a v).state := by
  unfold State.issueWrite
  dsimp only
  split
  · exact h.withC4
  · exact h.regWrite
theorem Kept.issued {i : Issued} (h : Kept b₀ i.state) {x : State} (e : i.state = x) : Kept b₀ x := e ▸ h
theorem Kept.spiRun (h : Kept b₀ s) {op tag : Nat} {f : State → Issued} (hf : ∀ x, Kept b₀ x → Kept b₀ (f x).state) :
    Kept b₀ (s.spiRun op tag f) := by
  have hy := hf _ (h.spiAnswer.incWrap (f := F.SPI_STATUS_SPI_XCNT) (i := 0))
  unfold State.spiRun
  refine Kept.ite h.withParts (Kept.ite h.spiAnswer (Kept.ite h.spiAnswer.incWrap ?_))
  split
  · rename_i e
    exact (hy.issued (congrArg Issued.state e)).spiDone
  · rename_i e
    exact (hy.issued (congrArg Issued.state e)).withParts
theorem Kept.spiBad (h : Kept b₀ s) {crc : Bool} {op tag : Nat} : Kept b₀ (s.spiBad crc op tag) :=
  Kept.ite h.withParts (Kept.ite ((Kept.ite h.spiAnswer.inc h.spiAnswer.inc.cml).logC) (((Kept.ite h.spiAnswer.inc
    h.spiAnswer.inc.cml).logC).spiDone))
theorem Kept.spiError (h : Kept b₀ s) {edges raw : Nat} : Kept b₀ (s.spiError edges raw) := by
  unfold State.spiError
  split
  · exact h.spiBad
  · exact h

/-! ### Aedat -/

theorem Kept.credBack (h : Kept b₀ s) {p : Fin 2} : Kept b₀ (s.credBack p) := Kept.ite h.modPort h.set
theorem Kept.dropRead (h : Kept b₀ s) {p : Fin 2} : Kept b₀ (s.dropRead p) := h.modPort.withC4
theorem Kept.fixSlot (h : Kept b₀ s) {p : Fin 2} : Kept b₀ (s.fixSlot p) := h.modPort
theorem Kept.slotLeaves (h : Kept b₀ s) {p : Fin 2} : Kept b₀ (s.slotLeaves p).1 := by
  unfold State.slotLeaves
  dsimp only
  split
  · dsimp only
    exact h.modPort.modPort
  · dsimp only
    exact h.modPort
theorem Kept.portReset (h : Kept b₀ s) {p : Fin 2} : Kept b₀ (s.portReset p) := h.dropRead.modPort.set.set
theorem Kept.putAns (h : Kept b₀ s) {p : Fin 2} {ack : Bool} {code : Nat} : Kept b₀ (s.putAns p ack code) := by
  unfold State.putAns
  exact h.ctxCheck.modPort
theorem Kept.frameRefused (h : Kept b₀ s) {p : Fin 2} {typ w why : Nat} : Kept b₀ (s.frameRefused p typ w why) :=
  Kept.ite h.inc.spRefusedRec (Kept.ite (Kept.logC (h.inc.when fun _ hx => hx.mark)) (Kept.ite h.inc.regRead (Kept.ite h.inc.regWrite
    h.inc)))
theorem Kept.portRead (h : Kept b₀ s) {p : Fin 2} {seq a : Nat} : Kept b₀ (s.portRead p seq a) := by
  unfold State.portRead
  split
  · rename_i e
    exact (h.issueRead.issued (congrArg Issued.state e)).modPort
  · rename_i e
    exact (h.issueRead.issued (congrArg Issued.state e)).modPort
theorem Kept.portWrFail (h : Kept b₀ s) {p : Fin 2} {a : Nat} : Kept b₀ (s.portWrFail p a) := h.mark.logC
theorem Kept.portWrite (h : Kept b₀ s) {p : Fin 2} {v : Nat} : Kept b₀ (s.portWrite p v) := by
  unfold State.portWrite
  dsimp only
  split
  · rename_i e
    exact Kept.credBack ((h.modPort.issueWrite.issued (congrArg Issued.state e)).when fun _ hx => hx.portWrFail)
  · rename_i e
    exact (h.modPort.issueWrite.issued (congrArg Issued.state e)).modPort
theorem Kept.frameAct (h : Kept b₀ s) {p : Fin 2} {typ seq w : Nat} : Kept b₀ (s.frameAct p typ seq w) := by
  unfold State.frameAct
  split
  · exact h.spAccept.credBack
  · exact h.set
  · exact h.hintTake.credBack
  · exact h.unhint.credBack
  · exact h.portRead
  · exact h.modPort
  · exact h.portWrite
  · exact h.modPort
  · exact h.portReset
  · exact h
theorem Kept.goodFrame (h : Kept b₀ s) {p : Fin 2} {typ seq w lead : Nat} : Kept b₀ (s.goodFrame p typ seq w lead) := by
  unfold State.goodFrame
  dsimp only
  exact Kept.ite h.putAns.mark
      (by
        split
        · exact ((Kept.ite h.ctxRefill h).putAns).frameRefused
        · exact ((((Kept.ite ((Kept.ite h.ctxRefill h).set)
                      (Kept.ite h.ctxRefill h)).putAns).modPort).frameAct).when
              fun _ hx =>
                hx.logC)
theorem Kept.slotLost (h : Kept b₀ s) {p : Fin 2} : Kept b₀ (s.slotLost p) := Kept.ite h.slotLeaves.credBack h.slotLeaves
theorem Kept.frame (h : Kept b₀ s) {p : Fin 2} {typ seq w lead : Nat} : Kept b₀ (s.frame p typ seq w lead) :=
  Kept.ite h h.slotLost.goodFrame.clear.modPort
theorem Kept.badCrc (h : Kept b₀ s) {p : Fin 2} : Kept b₀ (s.badCrc p) := Kept.ite h h.slotLost.putAns.inc.logC
theorem Kept.answerOnly (h : Kept b₀ s) {p : Fin 2} {header w crc : Nat} : Kept b₀ (s.answerOnly p header w crc) :=
  Kept.ite h.putAns
    (Kept.ite h.putAns
      (by
        split
        · exact h.putAns
        · exact h.putAns))
theorem Kept.rawFrame (h : Kept b₀ s) {p : Fin 2} {header w crc : Nat} : Kept b₀ (s.rawFrame p header w crc) := Kept.ite h.frame h.badCrc
theorem Kept.cutShort (h : Kept b₀ s) {p : Fin 2} {edges header w crc : Nat} : Kept b₀ (s.cutShort p edges header w crc) :=
  h.slotLost.when fun _ hx => hx.answerOnly
theorem Kept.frameGap (h : Kept b₀ s) {p : Fin 2} {edges header w crc : Nat} : Kept b₀ (s.frameGap p edges header w crc) :=
  Kept.ite h ((Kept.ite h.modPort (Kept.ite h (Kept.ite h.cutShort.mark.logC h.mark.inc.logC))).fixSlot)
theorem Kept.clkStuck (h : Kept b₀ s) {p : Fin 2} {edges header w crc : Nat} : Kept b₀ (s.clkStuck p edges header w crc) :=
  Kept.ite h (Kept.logC (Kept.mark (Kept.modPort (h.when fun _ hx => hx.cutShort))))
theorem Kept.readLost (h : Kept b₀ s) {p : Fin 2} : Kept b₀ (s.readLost p) := by
  unfold State.readLost
  split
  · exact Kept.ite h h.modPort.modPort.mark.credBack
  · exact h
theorem Kept.bootRail (h : Kept b₀ s) {p : Fin 2} {r : Fin 8} : Kept b₀ (s.bootRail p r) := Kept.ite h h.putTgt.set.modSp.spMoved
theorem Kept.portSilent (h : Kept b₀ s) {p : Fin 2} : Kept b₀ (s.portSilent p) :=
  Kept.ite h (Kept.ite (h.mark.mark.logC.portReset.onRails fun _ _ hx => hx.bootRail) h.mark.mark.logC.portReset)

/-! ### Pmbus -/

theorem Kept.pmbOut (h : Kept b₀ s) {code : Nat} {b : List Byte} : Kept b₀ (s.pmbOut code b) := h.withPmb
theorem Kept.pmbInvalid (h : Kept b₀ s) : Kept b₀ s.pmbInvalid := h.cml
theorem Kept.pmbNack (h : Kept b₀ s) : Kept b₀ s.pmbNack := h.withPmb
theorem Kept.pmbRun (h : Kept b₀ s) {code : Nat} {x : Xfer} {rd : Option (State → State)} {wr : Option (List Byte → State → State)}
    (hrd : ∀ f ∈ rd, ∀ y, Kept b₀ y → Kept b₀ (f y)) (hwr : ∀ f ∈ wr, ∀ d y, Kept b₀ y → Kept b₀ (f d y)) :
    Kept b₀ (s.pmbRun code x rd wr) := by
  unfold State.pmbRun
  refine Kept.ite h.pmbNack (Kept.ite h.pmbNack ?_)
  dsimp only
  split
  · split
    · exact hrd _ rfl _ h.withPmb
    · exact h.withPmb.pmbInvalid
  · refine Kept.ite h.withPmb.inc.cml ?_
    split
    · exact hwr _ rfl _ _ h.withPmb
    · exact h.withPmb.pmbInvalid
/-- A PMBus command that only reads. -/
theorem Kept.pmbRunRead (h : Kept b₀ s) {code : Nat} {x : Xfer} {f : State → State} (hf : ∀ y, Kept b₀ y → Kept b₀ (f y)) :
    Kept b₀ (s.pmbRun code x (some f) none) :=
  h.pmbRun (fun _ e => Option.some.inj e ▸ hf) nofun
/-- A PMBus command that only writes. -/
theorem Kept.pmbRunWrite (h : Kept b₀ s) {code : Nat} {x : Xfer} {g : List Byte → State → State}
    (hg : ∀ d y, Kept b₀ y → Kept b₀ (g d y)) : Kept b₀ (s.pmbRun code x none (some g)) :=
  h.pmbRun (nofun) fun _ e => Option.some.inj e ▸ hg
/-- A PMBus command that reads and writes. -/
theorem Kept.pmbRunBoth (h : Kept b₀ s) {code : Nat} {x : Xfer} {f : State → State} {g : List Byte → State → State}
    (hf : ∀ y, Kept b₀ y → Kept b₀ (f y)) (hg : ∀ d y, Kept b₀ y → Kept b₀ (g d y)) :
    Kept b₀ (s.pmbRun code x (some f) (some g)) :=
  h.pmbRun (fun _ e => Option.some.inj e ▸ hf) fun _ e => Option.some.inj e ▸ hg
theorem Kept.pageRead (h : Kept b₀ s) {code k : Nat} {f : State → Fin 8 → Nat} : Kept b₀ (s.pageRead code k f) :=
  Kept.ite h.pmbInvalid h.pmbOut
theorem Kept.pmbConst (h : Kept b₀ s) {code : Nat} {x : Xfer} {b : Nat} : Kept b₀ (s.pmbConst code x b) :=
  h.pmbRunRead fun _ hx => hx.pmbOut
theorem Kept.pmbPage (h : Kept b₀ s) {x : Xfer} : Kept b₀ (s.pmbPage x) :=
  h.pmbRunBoth (fun _ hx => hx.pmbOut) fun _ _ hx => by
    split
    · exact Kept.ite hx.set hx.pmbInvalid
    · exact hx.pmbInvalid
theorem Kept.putMask (h : Kept b₀ s) {k v : Nat} : Kept b₀ { s with pmb.masks := s.pmb.masks.set k v } :=
  h.rebuilt fun ⟨hr, hi, hs, hc, hg, hm, hw⟩ => ⟨hr, hi, hs, hc, hg, Store.wf_set hm _ _, hw⟩
theorem Kept.pmbMask (h : Kept b₀ s) {x : Xfer} : Kept b₀ (s.pmbMask x) :=
  h.pmbRunBoth (fun _ hx => hx.pageRead) fun _ _ hx => by
    dsimp only
    split
    · exact Kept.ite (hx.withPmb.foldl fun _ _ hy => hy.putMask) hx.pmbInvalid
    · exact hx.pmbInvalid
theorem Kept.voutSet (h : Kept b₀ s) {n : Nat} : Kept b₀ (s.voutSet n) :=
  Kept.ite h.pmbInvalid
    (by
      split
      · exact h.spAccept
      · exact h.spRefused.pmbInvalid)
theorem Kept.pmbVout (h : Kept b₀ s) {x : Xfer} : Kept b₀ (s.pmbVout x) :=
  h.pmbRunBoth (fun _ hx => hx.pageRead) fun _ _ hx => Kept.ite hx.voutSet hx.pmbInvalid
theorem Kept.pmbRail1 (h : Kept b₀ s) {code k : Nat} {x : Xfer} {f : State → Fin 8 → Nat} : Kept b₀ (s.pmbRail1 code k x f) :=
  h.pmbRunRead fun _ hx => hx.pageRead
theorem Kept.pmbText (h : Kept b₀ s) {code : Nat} {x : Xfer} {f : State → List Byte} : Kept b₀ (s.pmbText code x f) :=
  h.pmbRunRead fun _ hx => hx.pmbOut
theorem Kept.pmbReg (h : Kept b₀ s) {code a : Nat} : Kept b₀ (s.pmbReg code a) := Kept.ite h.regRead.pmbOut h.regRead.pmbOut.cml
theorem Kept.pmbRegWrite (h : Kept b₀ s) {a v : Nat} : Kept b₀ (s.pmbRegWrite a v) := Kept.ite h.regWrite h.regWrite.pmbInvalid
theorem Kept.pmbRegAddr (h : Kept b₀ s) {a : Nat} : Kept b₀ (s.pmbRegAddr a) := by
  unfold State.pmbRegAddr
  refine Kept.ite h.pmbInvalid ?_
  dsimp only
  split
  · rename_i e
    exact (h.withPmb.issueRead.issued (congrArg Issued.state e)).withPmb
  · rename_i e
    exact (h.withPmb.issueRead.issued (congrArg Issued.state e)).withPmb
theorem Kept.pmbRegAnswer (h : Kept b₀ s) : Kept b₀ s.pmbRegAnswer := by
  unfold State.pmbRegAnswer
  split
  · exact h.pmbOut
  · exact h.pmbOut.cml
theorem Kept.pmbRegData (h : Kept b₀ s) {x : Xfer} : Kept b₀ (s.pmbRegData x) :=
  h.pmbRunBoth (fun _ hx => Kept.ite hx.withPmb hx.pmbRegAnswer) fun _ _ hx => by
    dsimp only
    split
    · refine Kept.ite hx.pmbInvalid ?_
      split
      · rename_i e
        exact (hx.issueWrite.issued (congrArg Issued.state e)).withPmb.when fun _ hy => hy.pmbInvalid
      · rename_i e
        exact (hx.issueWrite.issued (congrArg Issued.state e)).withPmb
    · exact hx.pmbInvalid
theorem Kept.mboxWords (h : Kept b₀ s) {k : Nat} {b : List Byte} : Kept b₀ (s.mboxWords k b) := by
  induction k generalizing s b with
  | zero => exact h
  | succ k ih => exact ih h.pmbRegWrite
theorem Kept.mboxPops (h : Kept b₀ s) {k : Nat} {acc : List Byte} : Kept b₀ (s.mboxPops k acc).1 := by
  induction k generalizing s acc with
  | zero => exact h
  | succ k ih => exact ih h.regRead
theorem Kept.pmbMbox (h : Kept b₀ s) {x : Xfer} : Kept b₀ (s.pmbMbox x) :=
  h.pmbRunBoth (fun _ hx => hx.mboxPops.pmbOut) fun _ _ hx => Kept.ite hx.mboxWords hx.pmbInvalid
theorem Kept.recWords (h : Kept b₀ s) {k : Nat} {acc : List Byte} : Kept b₀ (s.recWords k acc).1 := by
  induction k generalizing s acc with
  | zero => exact h
  | succ k ih => exact ih h.regRead
theorem Kept.pmbUnknown (h : Kept b₀ s) {code : Nat} : Kept b₀ (s.pmbUnknown code) := Kept.ite h.pmbNack (Kept.ite h h.pmbNack.cml)
theorem Kept.alertResponse (h : Kept b₀ s) : Kept b₀ s.alertResponse := Kept.ite h.withPmb h.pmbNack

/-! ### Session -/

theorem Kept.answer (h : Kept b₀ s) {res : Nat} {b : List Byte} : Kept b₀ (s.answer res b) := h.withParts
theorem Kept.reply (h : Kept b₀ s) {res : Nat} {b : List Byte} : Kept b₀ (s.reply res b) := by
  unfold State.reply
  split
  · exact h.answer
  · exact h.withParts.endSession
theorem Kept.attemptFailed (h : Kept b₀ s) {bus res : Nat} : Kept b₀ (s.attemptFailed bus res) :=
  Kept.logC (Kept.mark (h.when fun _ hx => hx.countFail))
theorem Kept.handshake (h : Kept b₀ s) {m1 : List Byte} {sid nd eph k : Nat} : Kept b₀ (s.handshake m1 sid nd eph k) := h.withParts.answer
theorem Kept.hello (h : Kept b₀ s) {sid nd eph k : Nat} : Kept b₀ (s.hello sid nd eph k) :=
  Kept.ite h (Kept.ite h.handshake (Kept.answer (Kept.attemptFailed (h.when fun _ hx => hx.withParts.logC))))
theorem Kept.openSession (h : Kept b₀ s) {c : List Byte} : Kept b₀ (s.openSession c) := h.set.withParts.withParts.logC.answer
theorem Kept.auth (h : Kept b₀ s) : Kept b₀ s.auth := Kept.ite h (Kept.ite h.openSession h.attemptFailed.answer.withParts)
theorem Kept.handshakeTimeout (h : Kept b₀ s) : Kept b₀ s.handshakeTimeout := Kept.ite h.attemptFailed.withParts h
theorem Kept.tagFail (h : Kept b₀ s) : Kept b₀ s.tagFail := h.mark.endSession
theorem Kept.m6 (h : Kept b₀ s) {stat addr cseq data : Nat} : Kept b₀ (s.m6 stat addr cseq data) := h.reply
theorem Kept.m6Plain (h : Kept b₀ s) {op stat addr : Nat} : Kept b₀ (s.m6Plain op stat addr) := h.m6
theorem Kept.m8 (h : Kept b₀ s) {kop res : Nat} : Kept b₀ (s.m8 kop res) := h.reply
theorem Kept.sessionRun (h : Kept b₀ s) {m op : Nat} {act : State → Nat → List Byte → State}
    (hf : ∀ x a pt, Kept b₀ x → Kept b₀ (act x a pt)) : Kept b₀ (s.sessionRun m op act) := by
  unfold State.sessionRun
  refine Kept.ite h ?_
  split
  · exact h.tagFail
  · exact Kept.ite (hf _ _ _ h.withParts) (Kept.ite h.withParts.m6Plain h.withParts.m8)
theorem Kept.sessRead (h : Kept b₀ s) {a : Nat} {pt : List Byte} : Kept b₀ (s.sessRead a pt) := by
  unfold State.sessRead
  split
  · rename_i e
    exact (h.issueRead.issued (congrArg Issued.state e)).withParts
  · rename_i e
    have hx := h.issueRead.issued (congrArg Issued.state e)
    exact Kept.ite hx.m6 hx.m6Plain
theorem Kept.sessWrite (h : Kept b₀ s) {a : Nat} {pt : List Byte} : Kept b₀ (s.sessWrite a pt) := by
  unfold State.sessWrite
  split
  · rename_i e
    exact (h.issueWrite.issued (congrArg Issued.state e)).withParts
  · rename_i e
    exact (h.issueWrite.issued (congrArg Issued.state e)).m6Plain
theorem Kept.sessClose (h : Kept b₀ s) {a : Nat} {x : List Byte} : Kept b₀ (s.sessClose a x) := h.m6Plain.endSession
theorem Kept.sessService (h : Kept b₀ s) {a : Nat} {x : List Byte} : Kept b₀ (s.sessService a x) :=
  Kept.ite h.m6Plain (Kept.ite h.m6Plain h.withParts.enter.m6Plain)
theorem Kept.sessTap (h : Kept b₀ s) {a : Nat} {x : List Byte} : Kept b₀ (s.sessTap a x) :=
  Kept.ite h.m6Plain (Kept.ite h.m6Plain h.mark.withParts.logC.m6Plain)
theorem Kept.sessHealth (h : Kept b₀ s) {a : Nat} {x : List Byte} : Kept b₀ (s.sessHealth a x) :=
  Kept.ite h.m6Plain (Kept.ite h.m6Plain (Kept.ite h.m6Plain h.set.journalChanged.m6Plain))
theorem Kept.keyRun (h : Kept b₀ s) {kop : Nat} {pt : List Byte} {op : Otp → List Byte → KeyOut} {after : State → KeyOut → State}
    (hf : ∀ x k, Kept b₀ x → Kept b₀ (after x k)) : Kept b₀ (s.keyRun kop pt op after) :=
  Kept.m8 (Kept.logC (Kept.ite (hf _ _ h.withParts.mark) h.withParts))
theorem Kept.noAfter (h : Kept b₀ s) {x : KeyOut} : Kept b₀ (noAfter s x) := h
theorem Kept.eraseEvents (h : Kept b₀ s) {k : KeyOut} : Kept b₀ (s.eraseEvents k) := by
  unfold State.eraseEvents
  refine Kept.set (h.rebuilt fun ⟨hr, hi, hs, hc, hg, hm, hw⟩ => ⟨hr, hi, hs, hc, hg, hm, ?_⟩)
  dsimp only
  exact Store.wf_drop hw _
theorem Kept.sessRetire (h : Kept b₀ s) {pt : List Byte} : Kept b₀ (s.sessRetire pt) :=
  Kept.when (h.keyRun fun _ _ hx => hx.noAfter) fun _ hx => hx.endSession
theorem Kept.sessIdle (h : Kept b₀ s) : Kept b₀ s.sessIdle := Kept.ite h.endSession h
theorem Kept.sessLife (h : Kept b₀ s) : Kept b₀ s.sessLife := Kept.ite h.endSession h
theorem Kept.lockoutEnd (h : Kept b₀ s) : Kept b₀ s.lockoutEnd := Kept.ite h.withParts h
theorem Kept.tapInstr (h : Kept b₀ s) {i : TapInstr} : Kept b₀ (s.tapInstr i) := Kept.ite h.withParts h

/-! ### Answers -/

theorem Kept.pmbDone (h : Kept b₀ s) {wr : Bool} {res data : Nat} : Kept b₀ (s.pmbDone wr res data) :=
  Kept.ite h (Kept.ite (h.withPmb.when fun _ hx => hx.pmbInvalid) (Kept.ite h.withPmb.pmbRegAnswer h.withPmb))
theorem Kept.sessDone (h : Kept b₀ s) {res data : Nat} : Kept b₀ (s.sessDone res data) := by
  unfold State.sessDone
  split
  · exact h
  · exact Kept.ite h.withParts.m6 h.withParts.m6Plain
theorem Kept.portDone (h : Kept b₀ s) {p : Fin 2} {a : Access} {res data : Nat} : Kept b₀ (s.portDone p a res data) :=
  Kept.ite (Kept.credBack (h.modPort.when fun _ hx => hx.portWrFail))
    (by
      split
      · exact h.modPort
      · exact h)
theorem Kept.deliver (h : Kept b₀ s) {a : Access} {res data : Nat} : Kept b₀ (s.deliver a res data) := by
  unfold State.deliver
  split
  · exact by
        split
        · exact h.spiDone
        · exact h
  · exact h.pmbDone
  · exact h.sessDone
  · exact h.portDone
  · exact h.portDone
  · exact h
theorem Kept.carryOut (h : Kept b₀ s) {a : Access} : Kept b₀ (s.carryOut a).2.2 := by
  unfold State.carryOut
  dsimp only
  split
  · exact h.regWrite
  · exact h.regRead
theorem Kept.popAccess (h : Kept b₀ s) {l : List Access} : Kept b₀ (s.popAccess l) := h.withParts
theorem Kept.regAnswer (h : Kept b₀ s) : Kept b₀ s.regAnswer :=
  Kept.ite h
    (by
      split
      · exact h
      · exact h.popAccess.carryOut.deliver)
theorem Kept.bridgeFault (h : Kept b₀ s) {front : Bool} {cls : Nat} : Kept b₀ (s.bridgeFault front cls) := h.mark.raise
theorem Kept.dropAccess (h : Kept b₀ s) : Kept b₀ s.dropAccess := by
  unfold State.dropAccess
  split
  · exact h
  · exact h.popAccess.bridgeFault.deliver
theorem Kept.dropAnswer (h : Kept b₀ s) : Kept b₀ s.dropAnswer := by
  unfold State.dropAnswer
  split
  · exact h
  · exact h.popAccess.carryOut.bridgeFault.deliver
theorem Kept.dropApply (h : Kept b₀ s) : Kept b₀ s.dropApply :=
  Kept.ite h.bridgeFault.withParts.set h.bridgeFault.logC.withParts.enterSafestop
theorem Kept.resend (h : Kept b₀ s) {k : Nat} : Kept b₀ (s.resend k) :=
  Kept.ite h
    (by
      split
      · exact by
            split
            · exact h
            · exact Kept.ite h.withParts h.withParts.bridgeFault
      · exact Kept.ite h (Kept.ite h.withParts h.dropAccess)
      · exact Kept.ite h (Kept.ite h.withParts h.dropApply)
      · exact Kept.ite h (Kept.ite h.withParts h.dropAnswer))
theorem Kept.leaseEnd (h : Kept b₀ s) {res : Nat} : Kept b₀ (s.leaseEnd res) := by
  unfold State.leaseEnd
  split
  · exact h.jrnAbandon.jrnDefer
  · exact h.dropAccess
  · exact h.withParts
  · exact h.withPmb
  · exact h
theorem Kept.leaseExpiry (h : Kept b₀ s) {res : Nat} : Kept b₀ (s.leaseExpiry res) := Kept.ite h h.leaseEnd.set.inc.logC

/-! ### Conjunction -/

theorem Kept.cjIn (h : Kept b₀ s) {typ src seq payload crc : Nat} {codeErr : Bool} {f : State → State}
    (hf : ∀ x, Kept b₀ x → Kept b₀ (f x)) : Kept b₀ (s.cjIn typ src seq payload crc codeErr f) :=
  Kept.ite h (Kept.ite h.inc.mark.clear (Kept.ite h.inc.mark (hf _ h.mark)))
theorem Kept.putPeer (h : Kept b₀ s) {c : Nat} {p : Peer} : Kept b₀ (s.putPeer c p) := h.withParts
theorem Kept.peerAlert (h : Kept b₀ s) : Kept b₀ s.peerAlert := by
  unfold State.peerAlert
  split
  · exact h.pmbBits
  · exact h.foldl fun _ _ hx => hx.pmbBits
theorem Kept.heard (h : Kept b₀ s) {c : Nat} : Kept b₀ (s.heard c) :=
  Kept.ite (Kept.ite h.putPeer.logC h.putPeer) ((Kept.ite h.putPeer.logC h.putPeer).clear)
theorem Kept.leaderBack (h : Kept b₀ s) : Kept b₀ s.leaderBack := Kept.ite h.withParts.logC h
theorem Kept.leaderHeard (h : Kept b₀ s) {target : Bool} : Kept b₀ (s.leaderHeard target) := h.withParts
theorem Kept.joinRamp (h : Kept b₀ s) {r : Fin 8} : Kept b₀ (s.joinRamp r) := h.setSen.enterRamp.modFr.modEng.takeSet
theorem Kept.joinReg (h : Kept b₀ s) {r : Fin 8} : Kept b₀ (s.joinReg r) := h.setRail.modFr
theorem Kept.joinStart (h : Kept b₀ s) {r : Fin 8} : Kept b₀ (s.joinStart r) :=
  Kept.ite (Kept.ite (Kept.joinRamp (h.when fun _ hx => hx.hicTflt)) (Kept.checkMinLive (h.when fun _ hx => hx.hicTflt))) h
theorem Kept.partOff (h : Kept b₀ s) {r : Fin 8} : Kept b₀ (s.partOff r) := by
  unfold State.partOff
  split
  · exact h.fastStop.railOff
  · exact h.fastStop.railOff
  · exact h.fastStop.railOff
  · exact h.fastStop.railOff
  · exact h.railOff
  · exact h.railOff
  · exact h
theorem Kept.partHiccup (h : Kept b₀ s) {r : Fin 8} : Kept b₀ (s.partHiccup r) := h.fastStop.setRail.modFr
theorem Kept.ownFall (h : Kept b₀ s) {r : Fin 8} : Kept b₀ (s.ownFall r) := Kept.ite h.modEng h
theorem Kept.takeRstate (h : Kept b₀ s) {r : Fin 8} {code : Nat} : Kept b₀ (s.takeRstate r code) := by
  unfold State.takeRstate
  split
  · exact Kept.ite h.ownFall h.partOff
  · exact Kept.ite h.ownFall h.partOff
  · exact h.joinStart
  · exact Kept.ite h.joinStart.joinReg h.joinStart
  · exact Kept.ite h.joinStart.joinReg h.joinStart
  · exact Kept.ite h.partHiccup h
  · exact Kept.ite h h.softStop
  · exact Kept.ite h.ownFall.softStop (Kept.ite h.railLatch h)
  · exact h
theorem Kept.memberF (h : Kept b₀ s) {r : Fin 8} : Kept b₀ (s.memberF r) := h.setI.modEng
theorem Kept.islandTarget (h : Kept b₀ s) {r : Fin 8} {u : Int} : Kept b₀ (s.islandTarget r u) :=
  Kept.ite h.withParts.clear.logC.modEng h.withParts
theorem Kept.targetIn (h : Kept b₀ s) {src seq payload : Nat} : Kept b₀ (s.targetIn src seq payload) := by
  unfold State.targetIn
  dsimp only
  exact Kept.ite h
      (by
        split
        · exact h.mark.leaderBack.leaderHeard.withParts
        · exact Kept.ite (Kept.ite h.mark.leaderBack.leaderHeard.withParts.islandTarget
                h.mark.leaderBack.leaderHeard.withParts)
              (((((Kept.ite h.mark.leaderBack.leaderHeard.withParts.islandTarget
                        h.mark.leaderBack.leaderHeard.withParts).withParts).modEng).modSp).memberF))
theorem Kept.infoRegs (h : Kept b₀ s) {payload : Nat} : Kept b₀ (s.infoRegs payload) := h.set.set.set.withParts
theorem Kept.infoPart (h : Kept b₀ s) {r : Fin 8} {payload code : Nat} : Kept b₀ (s.infoPart r payload code) :=
  Kept.ite ((((Kept.ite h h.set.memberF.takeRstate).withParts).addEvent).requestAdd) ((Kept.ite h h.set.memberF.takeRstate).withParts)
theorem Kept.infoIn (h : Kept b₀ s) {src payload : Nat} : Kept b₀ (s.infoIn src payload) :=
  Kept.ite h
    (by
      split
      · exact h.infoRegs
      · exact h.infoRegs.infoPart)
theorem Kept.evIn (h : Kept b₀ s) {src payload : Nat} : Kept b₀ (s.evIn src payload) :=
  Kept.ite h
    (by
      split
      · exact h
      · exact Kept.ite (Kept.ite h.withParts.set h.withParts.set.partHiccup)
            (Kept.ite (Kept.ite h.withParts.set h.withParts.set.railLatch) h.withParts.set))
theorem Kept.mstatIn (h : Kept b₀ s) {src payload : Nat} : Kept b₀ (s.mstatIn src payload) := Kept.ite h h.heard.putPeer
theorem Kept.pingIn (h : Kept b₀ s) {src : Nat} : Kept b₀ (s.pingIn src) :=
  Kept.ite (Kept.ite h.heard h) (Kept.ite h.leaderBack.leaderHeard h)
theorem Kept.joinIn (h : Kept b₀ s) {src payload : Nat} : Kept b₀ (s.joinIn src payload) :=
  Kept.ite h ((Kept.ite h.heard.putPeer h).withParts)
theorem Kept.welcomeIn (h : Kept b₀ s) {src payload : Nat} : Kept b₀ (s.welcomeIn src payload) := by
  unfold State.welcomeIn
  dsimp only
  exact Kept.ite h
      (Kept.ite h.set.withParts.mark
        (by
          split
          · exact h.set.mark.clear.peerAlert.logC.withParts.disarm
          · exact h.set.mark.clear.peerAlert.logC.withParts))
theorem Kept.joinRetry (h : Kept b₀ s) : Kept b₀ s.joinRetry := Kept.ite h h.withParts
theorem Kept.joinTimeout (h : Kept b₀ s) : Kept b₀ s.joinTimeout := Kept.ite h h.withParts.logC
theorem Kept.infoSent (h : Kept b₀ s) {r : Fin 8} : Kept b₀ (s.infoSent r) := h.set.set.withParts
theorem Kept.statFrame (h : Kept b₀ s) {x : Nat × Nat} : Kept b₀ (s.statFrame x).2 := by
  unfold State.statFrame
  split
  · exact h.withParts
  · exact h
theorem Kept.nextFrame (h : Kept b₀ s) : Kept b₀ s.nextFrame.2 := by
  unfold State.nextFrame
  split
  · exact h.withParts
  · split
    · split
      · exact h.infoSent
      · exact h
    · split
      · exact h.statFrame
      · exact h
    · exact h.statFrame
theorem Kept.sendOwn (h : Kept b₀ s) : Kept b₀ s.sendOwn := Kept.ite h.withParts h.nextFrame.withParts
theorem Kept.dupCtl (h : Kept b₀ s) : Kept b₀ s.dupCtl := Kept.ite h h.mark.clear.withParts.logC
theorem Kept.ownBack (h : Kept b₀ s) {src seq : Nat} : Kept b₀ (s.ownBack src seq) := Kept.ite h.dupCtl (Kept.ite h.withParts.mark h)
theorem Kept.ownSlot (h : Kept b₀ s) {typ src seq payload crc : Nat} {codeErr : Bool} :
    Kept b₀ (s.ownSlot typ src seq payload crc codeErr) := Kept.ite h (Kept.sendOwn (h.cjIn fun _ hx => hx.ownBack))
theorem Kept.targetSend (h : Kept b₀ s) : Kept b₀ s.targetSend := Kept.ite h h.withParts
theorem Kept.island (h : Kept b₀ s) {r : Fin 8} : Kept b₀ (s.island r) :=
  Kept.ite h.withParts.mark.mark.inc.memberF.preload.modEng h.withParts.mark.mark.inc.memberF.preload
theorem Kept.leaderLost (h : Kept b₀ s) : Kept b₀ s.leaderLost :=
  Kept.ite h
    (by
      split
      · exact Kept.ite (Kept.ite h h.logC.mark.clear.clear.peerAlert.island)
            (Kept.ite h h.logC.mark.clear.clear.peerAlert.withParts)
      · exact Kept.ite h h.logC.mark.clear.clear.peerAlert.withParts)
theorem Kept.islandTimeout (h : Kept b₀ s) : Kept b₀ s.islandTimeout := by
  unfold State.islandTimeout
  split
  · exact Kept.ite h h.softStop.logC
  · exact h
theorem Kept.memberLost (h : Kept b₀ s) {c : Nat} : Kept b₀ (s.memberLost c) :=
  Kept.ite h
    (by
      split
      · exact h.putPeer.mark.mark.peerAlert.discard.logC.noteRail
      · exact h.putPeer.mark.mark.peerAlert.logC)
theorem Kept.ringDown (h : Kept b₀ s) : Kept b₀ s.ringDown := Kept.ite h h.mark.clear.logC
theorem Kept.loadLinks (h : Kept b₀ s) {b : List Byte} {cfg2 cfg3 : Nat} : Kept b₀ (s.loadLinks b cfg2 cfg3) :=
  Kept.withParts (h.loadItems.load.load.load.foldl fun _ _ hx => hx.load.load.load)

/-! ### Parser -/

theorem Kept.rejectCopy (h : Kept b₀ s) {c res : Nat} : Kept b₀ (s.rejectCopy c res) := h.set.logC
theorem Kept.noConfig (h : Kept b₀ s) : Kept b₀ s.noConfig := by
  unfold State.noConfig
  exact h.logC.withParts.enterSafestop
theorem Kept.takeProfile (h : Kept b₀ s) {why : Nat} : Kept b₀ (s.takeProfile why) :=
  Kept.logC (Kept.withParts (h.when fun _ hx => hx.logC))
theorem Kept.norDiscovery (h : Kept b₀ s) {o : Option Sfdp} {density : Nat} {qe : Bool} : Kept b₀ (s.norDiscovery o density qe) :=
  Kept.ite h (Kept.ite h.withParts.noConfig (h.withParts.withParts.set.when fun _ hx => hx.mark.logC))
theorem Kept.readCopy (h : Kept b₀ s) {c : Nat} : Kept b₀ (s.readCopy c) := h.withParts
theorem Kept.checkHdr (h : Kept b₀ s) {c : Nat} : Kept b₀ (s.checkHdr c) := Kept.ite h (Kept.ite h.set h.rejectCopy)
theorem Kept.headersRead (h : Kept b₀ s) {a b : List Byte} : Kept b₀ (s.headersRead a b) :=
  Kept.ite h (Kept.ite h.withParts.set.set.takeProfile (Kept.ite h.withParts.checkHdr.checkHdr.takeProfile (Kept.ite
    h.withParts.checkHdr.checkHdr.noConfig h.withParts.checkHdr.checkHdr.withParts.readCopy)))
theorem Kept.unread (h : Kept b₀ s) : Kept b₀ s.unread := by
  unfold State.unread
  exact Kept.noConfig (h.foldl fun _ _ hx => hx.rejectCopy)
theorem Kept.readFail (h : Kept b₀ s) : Kept b₀ s.readFail := Kept.ite h.unread h.inc.set.set.logC.withParts
theorem Kept.norFail (h : Kept b₀ s) : Kept b₀ s.norFail := Kept.ite h h.readFail
theorem Kept.vddioWait (h : Kept b₀ s) : Kept b₀ s.vddioWait := Kept.ite h h.unread
theorem Kept.vddioLoss (h : Kept b₀ s) : Kept b₀ s.vddioLoss :=
  Kept.ite h (Kept.norFail (Kept.when (Kept.dropTap (h.clear.withParts.when fun _ hx => hx.mark)) fun _ hx => hx.logF))
theorem Kept.holdContent (h : Kept b₀ s) {b : List Byte} : Kept b₀ (s.holdContent b) :=
  h.rebuilt fun ⟨hr, hi, hs, hc, _, hm⟩ => ⟨hr, hi, hs, hc, Store.ofWords_wf _, hm⟩
theorem Kept.copyChosen (h : Kept b₀ s) {c : Nat} {b : List Byte} : Kept b₀ (s.copyChosen c b) :=
  Kept.withParts (Kept.when (h.when fun _ hx => hx.set) fun _ hx => hx.logC)
theorem Kept.copyRead (h : Kept b₀ s) {b : List Byte} : Kept b₀ (s.copyRead b) := by
  unfold State.copyRead
  dsimp only
  exact Kept.ite h
      (Kept.ite h.readFail
        (by
          split
          · exact h.holdContent.copyChosen
          · exact Kept.ite h.holdContent.rejectCopy.withParts.readCopy h.holdContent.rejectCopy.noConfig))

/-! ### Apply -/

theorem Kept.applyDevice (h : Kept b₀ s) {b : List Byte} : Kept b₀ (s.applyDevice b) := h.set.withParts
theorem Kept.applyPersons (h : Kept b₀ s) {b : List Byte} : Kept b₀ (s.applyPersons b) := h.load.load.load.load.withParts
theorem Kept.applyLimits (h : Kept b₀ s) {c : Conf} : Kept b₀ (s.applyLimits c) :=
  Kept.onRails (h.loadItems.foldl fun _ _ hx => hx.loadItems) fun _ _ hx => hx.loadItems.modRail
theorem Kept.applyPhase (h : Kept b₀ s) {c : Conf} {n : Fin 32} : Kept b₀ (s.applyPhase c n) := by
  unfold State.applyPhase
  exact h.setB.set.setB.set.loadItems.load.modPh
theorem Kept.applyPhRail (h : Kept b₀ s) {c : Conf} {r : Fin 8} : Kept b₀ (s.applyPhRail c r) := by
  unfold State.applyPhRail
  exact h.loadItems.loadItems.modRail
theorem Kept.applyPhases (h : Kept b₀ s) {c : Conf} : Kept b₀ (s.applyPhases c) :=
  Kept.onRails (h.loadJournal.onPhases fun _ _ hx => hx.applyPhase) fun _ _ hx => hx.applyPhRail
theorem Kept.applyRegion (h : Kept b₀ s) {c : Conf} {m : Fin 4} : Kept b₀ (s.applyRegion c m) := by
  unfold State.applyRegion
  split
  · exact h.loadItems.load
  · exact h.load.load.load.load
theorem Kept.applyRail (h : Kept b₀ s) {c : Conf} {r : Fin 8} : Kept b₀ (s.applyRail c r) := h.modRail.loadItems.loadSp
theorem Kept.applySets (h : Kept b₀ s) {c : Conf} : Kept b₀ (s.applySets c) := h.foldl fun _ _ hx => hx.putSet
theorem Kept.applyTense (h : Kept b₀ s) {c : Conf} : Kept b₀ (s.applyTense c) :=
  Kept.initCtxs (Kept.onRails (Kept.load (Kept.load (h.loadItems.onRails fun _ _ hx => hx.loadItems))) fun _ _ hx => hx.putHints.putF)
theorem Kept.putDigest (h : Kept b₀ s) {f : Fld} {w : Nat → Nat} : Kept b₀ (s.putDigest f w) := h.foldl fun _ _ hx => hx.set
theorem Kept.applyFirmware (h : Kept b₀ s) {c : Conf} : Kept b₀ (s.applyFirmware c) := h.putDigest.putDigest.withParts.withParts
theorem Kept.advanceSvn (h : Kept b₀ s) : Kept b₀ s.advanceSvn := Kept.ite h.withParts.mark.logC h
theorem Kept.applySteps (h : Kept b₀ s) {c : Conf} : Kept b₀ (s.applySteps c) :=
  Kept.loadLinks (Kept.applyTense (Kept.loadPack (Kept.loadThermal (Kept.applySets (Kept.onRails
    (h.applyPersons.applyLimits.applyPhases.foldl fun _ _ hx => hx.applyRegion) fun _ _ hx => hx.applyRail)))))
theorem Kept.phaseReady (h : Kept b₀ s) {n : Fin 32} : Kept b₀ (s.phaseReady n) :=
  Kept.when (Kept.setLevel (Kept.modPh (h.clear.when fun _ hx => hx.clear))) fun _ hx => hx.logC
theorem Kept.railReady (h : Kept b₀ s) {r : Fin 8} : Kept b₀ (s.railReady r) := h.clear.modEng.when fun _ hx => hx.logC.failAlert
theorem Kept.showImage (h : Kept b₀ s) : Kept b₀ s.showImage := Kept.ite h.set.setB h.set.setB.set.set.set
theorem Kept.parseDone (h : Kept b₀ s) : Kept b₀ s.parseDone :=
  Kept.portsTell (Kept.portsAfresh (Kept.withParts (Kept.journalRequeue (Kept.enter (Kept.onRails
    (h.showImage.mark.load.set.withParts.setB.onPhases fun _ _ hx => hx.phaseReady) fun _ _ hx => hx.railReady)))))
theorem Kept.configApply (h : Kept b₀ s) : Kept b₀ s.configApply := by
  have h0 : Kept b₀ (if s.par.source = 0 && s.norMode = 3 then s.takeProfile 2 else s) := Kept.ite h.takeProfile h
  unfold State.configApply
  generalize (if s.par.source = 0 && s.norMode = 3 then s.takeProfile 2 else s) = x at h0 ⊢
  have hm (hr : x.regs.wf) := resetRegs_wf hr fun f => f.img && f != F.PH_CAL_CAL_GAIN && f != F.PH_CAL_CAL_OFS
  dsimp only
  generalize Machine.resetRegs x.regs _ = m at hm ⊢
  refine Kept.ite h (Kept.ite h0 (Kept.ite (Kept.noConfig (Kept.applyDevice ?_))
    (Kept.parseDone (Kept.advanceSvn (Kept.set (Kept.applyFirmware (Kept.applySteps (Kept.applyDevice ?_))))))))
  all_goals exact h0.rebuilt fun ⟨hr, _, hs⟩ => ⟨hm hr, Store.wf_nil, hs⟩

/-! ## Every command -/

/-- What every command leaves: the queue and the part as they were, a clock that does not fall, and the stores' canonical form. -/
structure Advance (s u : State) : Prop where
  pending : u.pending = s.pending
  now : s.now ≤ u.now
  kept : Kept s u

/-- A command's answer, where it is a next state, is one that the command may leave. -/
def Advances (s : State) (o : Host.Outcome State Fault Refusal) : Prop := ∀ u, o = .next u → Advance s u

/-- A command whose effect keeps the stores: the end of the update keeps them, and the clock and the queue are `run`'s. -/
theorem run_advances {t : Nat} {f : State → State} (hf : ∀ x, Kept s x → Kept s (f x)) : Advances s (run t f s) := by
  intro u hu
  have h : Kept s (settle (s.at t) (f (s.at t))) := (hf _ (Kept.refl s).at).settle
  unfold run at hu
  generalize settle (s.at t) (f (s.at t)) = x at h hu
  obtain rfl := Host.Outcome.next.inj hu
  exact ⟨rfl, Nat.le_max_left _ _, h.withParts⟩

theorem testPortInstruction_advances {t : Nat} {i : TapInstr} : Advances s (execTestPortInstruction t i s) := by
  unfold execTestPortInstruction
  by_cases hm : s.makerTest i = true
  · rw [if_pos hm]
    exact fun _ hu => Host.Outcome.noConfusion rfl rfl rfl (heq_of_eq hu)
  · rw [if_neg hm]
    exact run_advances fun _ h => h.tapInstr

/-- Every command of the table is the run of an effect that keeps the stores. -/
theorem exec_advances (i : Instr) : Advances s (exec i s) := by
  cases i with unfold exec
  | registerWrite => exact run_advances fun _ h => h.hostWrite
  | loopPortDutyWord => exact run_advances fun _ h => h.dutyWord
  | loopPortFault => exact run_advances fun _ h => h.loopFault
  | bridgeFrameReceive => exact run_advances fun _ h => h.frameIn
  | bridgeResendTimeout => exact run_advances fun _ h => h.resend
  | protectionEventReceive => exact run_advances fun _ h => h.takeEvent
  | phaseStateAck => exact run_advances fun _ h => h.phaseAck
  | bridgeRegisterAnswer => exact run_advances fun _ h => h.regAnswer
  | heartbeatSend => exact run_advances fun _ h => h.beat
  | heartbeatReceive => exact run_advances fun _ h => h.beatIn
  | heartbeatEchoReceive => exact run_advances fun _ h => h.echoIn
  | coherenceRewrite => exact run_advances fun _ h => h.rewrite
  | controlDieLost => exact run_advances fun _ h => h.controlLost
  | frontDieLost => exact run_advances fun _ h => h.frontLost
  | missingClock => exact run_advances fun _ h => h.clockMissing
  | lockstepMismatch => exact run_advances fun _ h => Kept.ite h.lose h
  | policyWatchdogExpiry => exact run_advances fun _ h => Kept.ite h.lose h
  | watchdogRestart => exact run_advances fun _ h => h.kick
  | regionArbitration => exact run_advances fun _ h => h.arbitrate
  | supplyGood => exact run_advances fun _ h => h.supplyGood
  | vddioModeSelect => exact run_advances fun _ h => h.vddioMode
  | vaonPowerOnReset => exact run_advances fun _ h => h.cold
  | vdd33Loss => exact run_advances fun _ h => h.vddLoss
  | vcoreLoss => exact run_advances fun _ h => h.vcoreLoss
  | coreBuckRestart => exact run_advances fun _ h => h.buckRestart
  | vddioLoss => exact run_advances fun _ h => h.vddioLoss
  | strapRead => exact run_advances fun _ h => h.strapRead
  | lfoscStart => exact run_advances fun _ h => h.lfoscStart
  | wakeBallRise => exact run_advances fun _ h => h.wakeRise
  | wakeBallLow => exact run_advances fun _ h => h.wakeLow
  | wakeTimerExpiry => exact run_advances fun _ h => h.wakeTimer
  | wakeEventAccept => exact run_advances fun _ h => h.wakeAccept
  | timedWakeLimit => exact run_advances fun _ h => h.timedLimit
  | sleepReq => exact run_advances fun _ h => h.hostWrite
  | xtalStartTimeout => exact run_advances fun _ h => h.xtalTimeout
  | refClockFail => exact run_advances fun _ h => h.refFail
  | pllUnlock => exact run_advances fun _ h => h.pllUnlock
  | pllRelock => exact run_advances fun _ h => h.pllRelock
  | wakeComplete => exact run_advances fun _ h => h.wakeDone
  | wakeTimeout => exact run_advances fun _ h => h.wakeTimeout
  | resetNAssert => exact run_advances fun _ h => h.resetAssert
  | resetNRelease => exact run_advances fun _ h => h.withParts
  | safestopClr => exact run_advances fun _ h => h.hostWrite
  | dormantEntry => exact run_advances fun _ h => h.goDormant
  | regionEnableOff => exact run_advances fun _ h => h.regionOff
  | regionEnableOn => exact run_advances fun _ h => Kept.ite h h.withParts
  | norDiscovery => exact run_advances fun _ h => Kept.ite h.norDiscovery h.norDiscovery
  | imageHeadersRead => exact run_advances fun _ h => h.headersRead
  | imageCopyVerified => exact run_advances fun _ h => h.copyRead
  | norReadFail => exact run_advances fun _ h => h.norFail
  | norVddioWaitTimeout => exact run_advances fun _ h => h.vddioWait
  | configApply => exact run_advances fun _ h => h.configApply
  | railEngineUpdate => exact run_advances fun _ h => h.engineUpdate
  | errorSample => exact run_advances fun _ h => h.errorSample
  | lsMaxExpiry => exact run_advances fun _ h => h.lsMax
  | brakeStart => exact run_advances fun _ h => h.brakeStart
  | brakeInhibitEnd => exact run_advances fun _ h => h.brakeInhEnd
  | vinSample => exact run_advances fun _ h => h.vinSample
  | vinStale => exact run_advances fun _ h => h.vinStale
  | feedforwardStaleDerate => exact run_advances fun _ h => h.staleDerate
  | compensatorSwap => exact run_advances fun _ h => h.compSwap
  | storeWr => exact run_advances fun _ h => h.hostWrite
  | iSumRefresh => exact run_advances fun _ h => h.refresh
  | phaseCurrentSample => exact run_advances fun _ h => h.phaseSample
  | senseRange => exact run_advances fun _ h => h.senseRange
  | phasePeriodEnd => exact run_advances fun _ h => h.periodEnd
  | phaseFail => exact run_advances fun _ h => h.phaseFail
  | failureFollowup => exact run_advances fun _ h => h.followup
  | phaseSettled => exact run_advances fun _ h => h.phaseSettled
  | shedDwellExpiry => exact run_advances fun _ h => h.shedDwell
  | phaseShedComplete => exact run_advances fun _ h => h.shedDone
  | deEntry => exact run_advances fun _ h => h.deEntry
  | phasePeriodStart => exact run_advances fun _ h => h.periodStart
  | forceTri => exact run_advances fun _ h => h.hostWrite
  | overrideWrite => exact run_advances fun _ h => Kept.ite h.swapBoth h.hostWrite
  | bootstrapRefresh => exact run_advances fun _ h => h.bootRefresh
  | tfltFault => exact run_advances fun _ h => h.tfltRead
  | peakCurrentTrip => exact run_advances fun _ h => h.cut
  | negPeakTrip => exact run_advances fun _ h => h.negPeak
  | hiccupEscalation => exact run_advances fun _ h => h.escalate
  | hiccupSenRaise => exact run_advances fun _ h => h.hiccupSen
  | hiccupRetry => exact run_advances fun _ h => h.hiccupRetry
  | retryCntClear => exact run_advances fun _ h => h.retryClear
  | tfltLatch => exact run_advances fun _ h => h.tfltLatch
  | tfltLatchRelease => exact run_advances fun _ h => h.tfltRelease
  | senLeadElapsed => exact run_advances fun _ h => h.senLeadDone
  | softStopSenFall => exact run_advances fun _ h => h.senFall
  | synciEdge => exact run_advances fun _ h => h.syncEdge
  | synciLost => exact run_advances fun _ h => h.syncLost
  | railStartTurn => exact run_advances fun _ h => h.startTurn
  | rampStart => exact run_advances fun _ h => h.rampStart
  | spCmd => exact run_advances fun _ h => h.hostWrite
  | spWin => exact run_advances fun _ h => h.hostWrite
  | vselCodeAccept => exact run_advances fun _ h => h.vselAccept
  | vselInvalid => exact run_advances fun _ h => h.vselInvalid
  | aedatFrameGap => exact run_advances fun _ h => h.frameGap
  | clkStuck => exact run_advances fun _ h => h.clkStuck
  | nop => exact run_advances fun _ h => h.frame
  | setv => exact run_advances fun _ h => h.frame
  | ctx => exact run_advances fun _ h => h.frame
  | hint => exact run_advances fun _ h => h.frame
  | unhint => exact run_advances fun _ h => h.frame
  | read => exact run_advances fun _ h => h.frame
  | waddr => exact run_advances fun _ h => h.frame
  | wdata => exact run_advances fun _ h => h.frame
  | noteack => exact run_advances fun _ h => h.frame
  | preset => exact run_advances fun _ h => h.frame
  | readLost => exact run_advances fun _ h => h.readLost
  | aedatPortSilent => exact run_advances fun _ h => h.portSilent
  | tokenSweep => exact run_advances fun _ h => h.sweep
  | hintPhaseRequest => exact run_advances fun _ h => h.hintAsk
  | hintRise => exact run_advances fun _ h => h.hintRise
  | hintHoldEnd => exact run_advances fun _ h => h.hintHoldEnd
  | hintScore => exact run_advances fun _ h => h.hintScore
  | earlyMiss => exact run_advances fun _ h => h.earlyMiss
  | ctxResetWeight => exact run_advances fun _ h => h.hostWrite
  | ctxMute => exact run_advances fun _ h => h.hostWrite
  | ctxFlush => exact run_advances fun _ h => h.hostWrite
  | railOvervoltage => exact run_advances fun _ h => h.overvoltage
  | crowbarEnd => exact run_advances fun _ h => h.crowbarEnd
  | railUndervoltage => exact run_advances fun _ h => h.undervoltage
  | uvHiccupTimeout => exact run_advances fun _ h => h.uvTimeout
  | pgoodRelease => exact run_advances fun _ h => h.pgRelease
  | railOvercurrent => exact run_advances fun _ h => h.overcurrent
  | phaseWindowStop => exact run_advances fun _ h => h.windowStop
  | busOvervoltage => exact run_advances fun _ h => h.busOver
  | refinFault => exact run_advances fun _ h => h.refinFault
  | refinFaultEnd => exact run_advances fun _ h => h.refinEnd
  | senseOpen => exact run_advances fun _ h => h.senseOpen
  | frozenFeedbackRequest => exact run_advances fun _ h => h.frozenRequest
  | feedbackFrozen => exact run_advances fun _ h => h.feedbackFrozen
  | auxSenseImplausible => exact run_advances fun _ h => h.auxBad
  | refTrimStep => exact run_advances fun _ h => h.trimStep
  | noReferenceVote => exact run_advances fun _ h => Kept.ite h.noVoteFault h
  | precheckReferenceVote => exact run_advances fun _ h => h.precheckVote
  | prestartTest => exact run_advances fun _ h => h.prestart
  | leaseExpiry => exact run_advances fun _ h => h.leaseExpiry
  | railClr => exact run_advances fun _ h => h.hostWrite
  | faultHoldClear => exact run_advances fun _ h => h.hostWrite
  | pronounUpdate => exact run_advances fun _ h => h.pronounUpdate
  | caretakerTimeout => exact run_advances fun _ h => h.ctTimeout
  | caretakerStopComplete => exact run_advances fun _ h => h.ctStopped
  | adoptionCheck => exact run_advances fun _ h => h.adoptCheck
  | railHandover => exact run_advances fun _ h => h.handover
  | adoptionHandoverTimeout => exact run_advances fun _ h => h.handoverTimeout
  | hkRoundStart => exact run_advances fun _ h => h.hkStart
  | hkSlotComplete => exact run_advances fun _ h => h.hkSlot
  | hkDemandRequest => exact run_advances fun _ h => h.hkDemand
  | selfCheckFail => exact run_advances fun _ h => h.selfFail
  | sensorFailed => exact run_advances fun _ h => h.sensorFail
  | tfltScan => exact run_advances fun _ h => h.tfltScan
  | pkgTshutStrobe => exact run_advances fun _ h => h.tshut
  | packCapture => exact run_advances fun _ h => h.capture
  | coulombCounterUpdate => exact run_advances fun _ h => h.coulomb
  | chargerInputCheck => exact run_advances fun _ h => h.chgInput
  | chargerRetry => exact run_advances fun _ h => h.chgRetry
  | chargeTermination => exact run_advances fun _ h => h.chgTerm
  | chargerRecharge => exact run_advances fun _ h => h.chgAgain
  | chargerPreTimeout => exact run_advances fun _ h => h.chgPreOver
  | chargerTimerExpiry => exact run_advances fun _ h => h.chgTimerOver
  | chargerOvp => exact run_advances fun _ h => h.chgOver
  | pkClr => exact run_advances fun _ h => h.hostWrite
  | insertionHoldEnd => exact run_advances fun _ h => h.insHoldEnd
  | inputLoss => exact run_advances fun _ h => h.inputLoss
  | busGood => exact run_advances fun _ h => h.busGoodAgain
  | packOvercurrent => exact run_advances fun _ h => Kept.ite h.huTrip h
  | packReverseCurrent => exact run_advances fun _ h => Kept.ite h.probeStart h
  | holdupProbe => exact run_advances fun _ h => h.probeDue
  | probeEnd => exact run_advances fun _ h => h.probeEnd
  | holdupTimeLimit => exact run_advances fun _ h => h.holdupOver
  | recoveryRestEnd => exact run_advances fun _ h => h.restEnd
  | pkTest => exact run_advances fun _ h => h.packTest
  | packTestRestEnd => exact run_advances fun _ h => h.testRested
  | packTestMeasure => exact run_advances fun _ h => h.testMeasure
  | packTestRetry => exact run_advances fun _ h => h.testAgain
  | learnTimeout => exact run_advances fun _ h => Kept.ite h.lrnDisq h
  | packRecordHourly => exact run_advances fun _ h => h.recordHourly
  | hello => exact run_advances fun _ h => h.hello
  | auth => exact run_advances fun _ h => h.auth
  | sessionHandshakeTimeout => exact run_advances fun _ h => h.handshakeTimeout
  | sessionRead => exact run_advances fun _ h => h.sessionRun fun _ _ _ hx => hx.sessRead
  | sessionWrite => exact run_advances fun _ h => h.sessionRun fun _ _ _ hx => hx.sessWrite
  | close => exact run_advances fun _ h => h.sessionRun fun _ _ _ hx => hx.sessClose
  | service => exact run_advances fun _ h => h.sessionRun fun _ _ _ hx => hx.sessService
  | tapUnlock => exact run_advances fun _ h => h.sessionRun fun _ _ _ hx => hx.sessTap
  | clrHealth => exact run_advances fun _ h => h.sessionRun fun _ _ _ hx => hx.sessHealth
  | addKey => exact run_advances fun _ h => h.sessionRun fun _ _ _ hx => hx.keyRun fun _ _ hy => hy.noAfter
  | transfer => exact run_advances fun _ h => h.sessionRun fun _ _ _ hx => hx.keyRun fun _ _ hy => hy.eraseEvents
  | retireKey => exact run_advances fun _ h => h.sessionRun fun _ _ _ hx => hx.sessRetire
  | addIek => exact run_advances fun _ h => h.sessionRun fun _ _ _ hx => hx.keyRun fun _ _ hy => hy.noAfter
  | retireIek => exact run_advances fun _ h => h.sessionRun fun _ _ _ hx => hx.keyRun fun _ _ hy => hy.noAfter
  | tapDisable => exact run_advances fun _ h => h.sessionRun fun _ _ _ hx => hx.keyRun fun _ _ hy => hy.noAfter
  | decommission => exact run_advances fun _ h => h.sessionRun fun _ _ _ hx => hx.keyRun fun _ _ hy => hy.noAfter
  | abort => exact run_advances fun _ h => h.hostWrite
  | sessionMboxPush => exact run_advances fun _ h => h.hostWrite
  | sessionMboxPop => exact run_advances fun _ h => h.hostRead
  | sessionIdleTimeout => exact run_advances fun _ h => h.sessIdle
  | sessionLifetimeExpiry => exact run_advances fun _ h => h.sessLife
  | lockoutEnd => exact run_advances fun _ h => h.lockoutEnd
  | loadConsent => exact run_advances fun _ h => h.hostWrite
  | consentExpiry => exact run_advances fun _ h => h.consentEnd
  | telemetryWindowEnd => exact run_advances fun _ h => h.windowClose
  | recordIntake => exact run_advances fun _ h => h.intake
  | recordStore => exact run_advances fun _ h => h.recordStore
  | recordRateWindowEnd => exact run_advances fun _ h => h.windowEnd
  | recSel => exact run_advances fun _ h => h.hostWrite
  | recAutoAdvance => exact run_advances fun _ h => h.hostRead
  | clr => exact run_advances fun _ h => h.hostWrite
  | clrSticky => exact run_advances fun _ h => h.hostWrite
  | journalCommitStart => exact run_advances fun _ h => h.jrnEval
  | journalCommitComplete => exact run_advances fun _ h => h.commitDone
  | journalDeferRetry => exact run_advances fun _ h => h.deferRetry
  | fwJournalRequest => exact run_advances fun _ h => h.fwJournal
  | spiNop => exact run_advances fun _ h => h.spiRun fun _ hx => hx
  | spiRead => exact run_advances fun _ h => Kept.ite (h.spiRun fun _ hx => hx.issueRead) h.spiBad
  | spiWrite => exact run_advances fun _ h => Kept.ite (h.spiRun fun _ hx => hx.issueWrite) h.spiBad
  | spiFrameError => exact run_advances fun _ h => h.spiError
  | page => exact run_advances fun _ h => h.pmbPage
  | operation => exact run_advances fun _ h => h.pmbRunRead fun _ hx => hx.pageRead
  | onOffConfig => exact run_advances fun _ h => h.pmbConst
  | clearFaults => exact run_advances fun _ h => h.pmbRunWrite fun _ _ hx => Kept.ite hx.pmbClear hx.pmbInvalid
  | capability => exact run_advances fun _ h => h.pmbConst
  | smbalertMask => exact run_advances fun _ h => h.pmbMask
  | voutMode => exact run_advances fun _ h => h.pmbConst
  | voutCommand => exact run_advances fun _ h => h.pmbVout
  | statusByte => exact run_advances fun _ h => h.pmbRail1
  | statusWord => exact run_advances fun _ h => h.pmbRail1
  | statusVout => exact run_advances fun _ h => h.pmbRail1
  | statusIout => exact run_advances fun _ h => h.pmbRail1
  | statusInput => exact run_advances fun _ h => h.pmbRail1
  | statusTemperature => exact run_advances fun _ h => h.pmbRail1
  | statusCml => exact run_advances fun _ h => h.pmbRunRead fun _ hx => hx.pmbOut
  | statusMfrSpecific => exact run_advances fun _ h => h.pmbRail1
  | readVin => exact run_advances fun _ h => h.pmbRunRead fun _ hx => hx.pmbOut
  | readVout => exact run_advances fun _ h => h.pmbRail1
  | readIout => exact run_advances fun _ h => h.pmbRail1
  | readTemperature1 => exact run_advances fun _ h => h.pmbRail1
  | readTemperature2 => exact run_advances fun _ h => h.pmbRunRead fun _ hx => hx.pmbOut
  | readPout => exact run_advances fun _ h => h.pmbRail1
  | pmbusRevision => exact run_advances fun _ h => h.pmbConst
  | mfrId => exact run_advances fun _ h => h.pmbText
  | mfrModel => exact run_advances fun _ h => h.pmbText
  | mfrRevision => exact run_advances fun _ h => h.pmbText
  | mfrSerial => exact run_advances fun _ h => h.pmbText
  | mfrRegAddr => exact run_advances fun _ h => h.pmbRunWrite fun _ _ hx => Kept.ite hx.pmbRegAddr hx.pmbInvalid
  | mfrRegData => exact run_advances fun _ h => h.pmbRegData
  | mfrRegStatus => exact run_advances fun _ h => h.pmbRunRead fun _ hx => hx.pmbOut
  | mfrSessCtrl =>
    exact run_advances fun _ h => h.pmbRunBoth (fun _ hx => hx.pmbReg) fun _ _ hx => by
      split
      · exact hx.pmbRegWrite
      · exact hx.pmbInvalid
  | mfrSessStat => exact run_advances fun _ h => h.pmbRunRead fun _ hx => hx.pmbReg
  | mfrSessMbox => exact run_advances fun _ h => h.pmbMbox
  | mfrRecSel =>
    exact run_advances fun _ h => h.pmbRunWrite fun _ _ hx => by
      split
      · exact hx.pmbRegWrite
      · exact hx.pmbInvalid
  | mfrRecData => exact run_advances fun _ h => h.pmbRunRead fun _ hx => hx.recWords.pmbOut
  | mfrRecNewest => exact run_advances fun _ h => h.pmbRunRead fun _ hx => hx.pmbReg
  | mfrRailState => exact run_advances fun _ h => h.pmbRunRead fun _ hx => hx.pmbReg
  | mfrMode => exact run_advances fun _ h => h.pmbRunRead fun _ hx => hx.pmbReg
  | mfrPubSel =>
    exact run_advances fun _ h => h.pmbRunWrite fun _ _ hx => by
      split
      · exact Kept.ite hx.withPmb hx.pmbInvalid
      · exact hx.pmbInvalid
  | mfrPubData => exact run_advances fun _ h => h.pmbRunRead fun _ hx => hx.pmbReg
  | pmbusInvalidCommand => exact run_advances fun _ h => h.pmbUnknown
  | alertResponse => exact run_advances fun _ h => h.alertResponse
  | pmbClr => exact run_advances fun _ h => h.hostWrite
  | cjOwnSlotReturn => exact run_advances fun _ h => h.ownSlot
  | target => exact run_advances fun _ h => h.cjIn fun _ hx => hx.targetIn
  | railinfo => exact run_advances fun _ h => h.cjIn fun _ hx => hx.infoIn
  | mstat => exact run_advances fun _ h => h.cjIn fun _ hx => hx.mstatIn
  | railev => exact run_advances fun _ h => h.cjIn fun _ hx => hx.evIn
  | join => exact run_advances fun _ h => h.cjIn fun _ hx => hx.joinIn
  | welcome => exact run_advances fun _ h => h.cjIn fun _ hx => hx.welcomeIn
  | ping => exact run_advances fun _ h => h.cjIn fun _ hx => hx.pingIn
  | joinRetry => exact run_advances fun _ h => h.joinRetry
  | joinTimeout => exact run_advances fun _ h => h.joinTimeout
  | leaderLost => exact run_advances fun _ h => h.leaderLost
  | islandTimeout => exact run_advances fun _ h => h.islandTimeout
  | memberLost => exact run_advances fun _ h => h.memberLost
  | ringDown => exact run_advances fun _ h => h.ringDown
  | aedatPadSupplyLoss => exact run_advances fun _ h => h.padLoss
  | chargerSwitchingPeriod => exact run_advances fun _ h => h.chgPeriod
  | targetSlotSend => exact run_advances fun _ h => h.targetSend
  | aedatReservedTypeFrame => exact run_advances fun _ h => h.rawFrame
  | testPortInstruction => exact testPortInstruction_advances

theorem step_canonical {u : State} (hs : s.Canonical) (hu : step s = .next u) : u.Canonical := by
  unfold step at hu
  split at hu
  · exact Host.Outcome.next.inj hu ▸ hs
  · exact ((exec_advances _ u hu).kept.stores) hs

end Sys2Proof.Machine

open Sys2Proof Sys2Proof.Machine

/-- Settles O4: every command is the run of an effect that keeps the stores' canonical form. -/
theorem stepsKeepStoresCanonical : Obligations.StepsKeepStoresCanonical := by
  unfold Obligations.StepsKeepStoresCanonical
  exact fun _ _ hs hu => step_canonical hs hu

/-- Settles O3: every command is a `run`, which sets the clock and the queue itself, and no effect names the part. -/
theorem clockAndQueue : Obligations.ClockAndQueue := by
  unfold Obligations.ClockAndQueue
  intro c s u hu
  have h := exec_advances c u hu
  exact ⟨h.pending, h.now, h.kept.part⟩
end


section
/-!
The events on their way from the Front die. The end of an update adds to the class 1 path, and in CARETAKER it evicts rate-limited
events alone (R327): an event with no count, once on its way, stays there.
-/
namespace Sys2Proof.Machine

/-- An event of this code that counts no others is on its way from the Front die. -/
def Reported (code : Nat) (s : State) : Prop := ∃ c ∈ s.rcd.c1q, c.evt.code = code ∧ c.evt.count = none

variable {code : Nat} {s : State}

/-- The recorder is as it was. -/
theorem Reported.withParts (h : Reported code s) {now pending cz1604 mode img pow br par sets mirPh mirRail phases rails ports spi pmb cj
    otp sec tlm jrn pk th ctx0 ctxs rings image entry} :
    Reported code ⟨now, pending, cz1604, mode, s.regs, img, pow, br, par, sets, mirPh, mirRail, phases, rails, ports, s.rcd, spi, pmb, cj,
      otp, sec, tlm, jrn, pk, th, ctx0, ctxs, rings, image, entry⟩ := h
/-- The class 1 path is as it was. -/
theorem Reported.withRcd (h : Reported code s) {evq wins intake recs seq spi pmb} :
    Reported code { s with rcd := ⟨s.rcd.c1q, evq, wins, intake, recs, seq, spi, pmb⟩ } := h
theorem Reported.set (h : Reported code s) {f : Fld} {i v : Nat} : Reported code (s.set f i v) := h

theorem Reported.ite {c : Prop} {d : Decidable c} {x y : State} (hx : Reported code x) (hy : Reported code y) :
    Reported code (@ite _ c d x y) := by
  split <;> assumption
theorem Reported.when (h : Reported code s) {c : Bool} {f : State → State} (hf : ∀ x, Reported code x → Reported code (f x)) :
    Reported code (s.when c f) := .ite (hf _ h) h
theorem Reported.foldl {α : Type} {f : State → α → State} {l : List α} (h : Reported code s)
    (hf : ∀ x a, Reported code x → Reported code (f x a)) : Reported code (l.foldl f s) :=
  List.foldlRecOn l f h fun x hx a _ => hf x a hx
theorem Reported.onRails (h : Reported code s) {f : State → Fin 8 → State} (hf : ∀ x r, Reported code x → Reported code (f x r)) :
    Reported code (s.onRails f) := h.foldl hf

theorem Reported.setI (h : Reported code s) {f : Fld} {i : Nat} {v : Int} : Reported code (s.setI f i v) := h.set
theorem Reported.mark (h : Reported code s) {f : Fld} {i : Nat} : Reported code (s.mark f i) := h.set
theorem Reported.clear (h : Reported code s) {f : Fld} {i : Nat} : Reported code (s.clear f i) := h.set
theorem Reported.setB (h : Reported code s) {f : Fld} {i : Nat} {b : Bool} : Reported code (s.setB f i b) := h.set
theorem Reported.inc (h : Reported code s) {f : Fld} {i : Nat} : Reported code (s.inc f i) := h.set
theorem Reported.modRail (h : Reported code s) {r : Fin 8} {f : Rail → Rail} : Reported code (s.modRail r f) := h.withParts
theorem Reported.modPh (h : Reported code s) {n : Fin 32} {f : Phase → Phase} : Reported code (s.modPh n f) := h.withParts
theorem Reported.modEng (h : Reported code s) {r : Fin 8} {f : Engine → Engine} : Reported code (s.modEng r f) := h.modRail
theorem Reported.modFr (h : Reported code s) {r : Fin 8} {f : Front → Front} : Reported code (s.modFr r f) := h.modRail
theorem Reported.setSw (h : Reported code s) {n : Fin 32} {w : Sw} : Reported code (s.setSw n w) := h.modPh
theorem Reported.setLevel (h : Reported code s) {n : Fin 32} {l : Level} : Reported code (s.setLevel n l) := h.set
theorem Reported.toLevelAt (h : Reported code s) {n : Fin 32} {l : Level} {tk : Nat} : Reported code (s.toLevelAt n l tk) :=
  .ite h h.modPh.setLevel
theorem Reported.toLevel (h : Reported code s) {n : Fin 32} {l : Level} : Reported code (s.toLevel n l) := h.toLevelAt
theorem Reported.triRail (h : Reported code s) {r : Fin 8} : Reported code (s.triRail r) := h.foldl fun _ _ hx => hx.toLevel
theorem Reported.leftStart (h : Reported code s) {r : Fin 8} : Reported code (s.leftStart r) := h.modFr
theorem Reported.setRail (h : Reported code s) {r : Fin 8} {st : RailState} : Reported code (s.setRail r st) := by
  unfold State.setRail
  extract_lets moved left parked
  have hm : Reported code moved := h.modRail
  have hl : Reported code left := .ite hm.leftStart hm
  have hp : Reported code parked := .ite (hl.foldl fun _ _ hx => .ite hx hx.setSw) (.ite (hl.foldl fun _ _ hx => .ite hx hx.setSw) hl)
  have hg : Reported code (if st == .reg || st == .shed || st == .caretaken then parked else
      ((parked.clear F.RP_STATUS_PGOOD_ST r).clear F.RP_STATUS_UV_RD r).modFr r (fun f => { f with uvRun := 0 })) :=
    .ite hp hp.clear.clear.modFr
  exact .ite hg hg.modFr
theorem Reported.setSen (h : Reported code s) {r : Fin 8} {b : Bool} : Reported code (s.setSen r b) := h.setB
theorem Reported.railRest (h : Reported code s) {r : Fin 8} {st : RailState} : Reported code (s.railRest r st) := by
  unfold State.railRest
  exact h.setRail.setSen.modEng.modFr
theorem Reported.railOff (h : Reported code s) {r : Fin 8} : Reported code (s.railOff r) := h.railRest.clear.clear.modEng
/-- Eviction takes the first entry with a count, so one without stays, the counts of the others apart. -/
theorem mem_evict {q : List C1} {c : C1} {i : Nat} {f : C1 → C1} (hi : q.findIdx? (fun c => c.evt.count.isSome) = some i)
    (hc : c ∈ q) (hn : c.evt.count = none) : f c ∈ (q.eraseIdx i).map f := by
  refine List.mem_map_of_mem (List.mem_eraseIdx_iff_getElem?.2 ?_)
  obtain ⟨j, hj⟩ := List.mem_iff_getElem?.1 hc
  refine ⟨j, fun e => ?_, hj⟩
  subst e
  obtain ⟨hlt, hsome, -⟩ := List.findIdx?_eq_some_iff_getElem.1 hi
  rw [List.getElem?_eq_getElem hlt] at hj
  rw [Option.some.inj hj, hn] at hsome
  cases hsome
theorem Reported.emit (h : Reported code s) {e : Evt} {react : React} : Reported code (s.emit e react) := by
  obtain ⟨c, hc, hk, hn⟩ := h
  unfold State.emit
  refine ite (ite ?_ ⟨c, List.mem_append_left _ hc, hk, hn⟩) ⟨c, hc, hk, hn⟩
  split
  next i hi =>
    refine ⟨_, List.mem_append_left _ (mem_evict hi hc hn), ?_, ?_⟩
    · split <;> exact hk
    · split <;> exact hn
  next => exact ⟨c, hc, hk, hn⟩
theorem Reported.pmbBits (h : Reported code s) {f : Fld} {r v : Nat} : Reported code (s.pmbBits f r v) := h.set
theorem Reported.pmbRec (h : Reported code s) {ev unit : Nat} {items : List (Nat × Int)} : Reported code (s.pmbRec ev unit items) :=
  .ite h.pmbBits.pmbBits (.ite h.pmbBits.pmbBits (.ite (.ite h.pmbBits h) (.ite (h.foldl fun _ _ hx => hx.pmbBits)
    (.ite (.ite (h.foldl fun _ _ hx => hx.pmbBits) (.ite (h.foldl fun _ _ hx => hx.pmbBits) h)) (.ite h.pmbBits (.ite
    h.pmbBits (.ite h.pmbBits (.ite (h.foldl fun _ _ hx => hx.pmbBits) h))))))))
theorem Reported.raise (h : Reported code s) {front : Bool} {ev unit : Nat} {items : List (Nat × Int)} {react : React} :
    Reported code (s.raise front ev unit items react) := .ite (.ite h.pmbRec.withRcd h.pmbRec.withRcd.emit) h.pmbRec.emit
theorem Reported.logF (h : Reported code s) {ev unit : Nat} {items : List (Nat × Int)} {react : React} :
    Reported code (s.logF ev unit items react) := h.raise
theorem Reported.logC (h : Reported code s) {ev unit : Nat} {items : List (Nat × Int)} : Reported code (s.logC ev unit items) := h.raise
theorem Reported.modPort (h : Reported code s) {p : Fin 2} {f : Port → Port} : Reported code (s.modPort p f) := h.withParts
theorem Reported.noteOn (h : Reported code s) {p : Fin 2} {x : Notice} : Reported code (s.noteOn p x) :=
  .ite (h.modPort.when fun _ hx => hx.mark.logC) h
theorem Reported.noteRail (h : Reported code s) {r : Fin 8} {kind word : Nat} : Reported code (s.noteRail r kind word) :=
  h.foldl fun _ _ hx => .ite hx.noteOn hx
theorem Reported.noteAll (h : Reported code s) {kind word : Nat} : Reported code (s.noteAll kind word) := h.foldl fun _ _ hx => hx.noteOn
theorem Reported.enter (h : Reported code s) {n : Nat} {m : Mode} : Reported code (s.enter n m) := by
  unfold State.enter
  exact h.set.set.withParts.raise
theorem Reported.endLs (h : Reported code s) {r : Fin 8} : Reported code (s.endLs r) :=
  .clear (.clear (.clear (.clear (.foldl (.modFr (h.when fun _ hx => hx.logF)) fun _ _ hx => hx.modPh))))
theorem Reported.fastStop (h : Reported code s) {r : Fin 8} : Reported code (s.fastStop r) := h.endLs.triRail.setSen.modFr.clear
theorem Reported.latchNow (h : Reported code s) {r : Fin 8} {cause : Nat} : Reported code (s.latchNow r cause) := h.railRest.set.logF
theorem Reported.softStop (h : Reported code s) {r : Fin 8} {k : StopKind} {cause : Nat} : Reported code (s.softStop r k cause) := by
  unfold State.softStop
  split
  · exact h.setRail.clear.modEng.modFr
  · exact h.setRail.clear.modEng.modFr
  · exact h.setRail.clear.modEng.modFr
  · exact h.setRail.clear.modEng.modFr
  · exact h.modFr
  · exact h
theorem Reported.disarm (h : Reported code s) {r : Fin 8} : Reported code (s.disarm r) := by
  unfold State.disarm
  split
  · exact h.railOff
  · exact h.railOff
  · exact h
theorem Reported.stopRound (h : Reported code s) : Reported code s.stopRound := by
  unfold State.stopRound
  dsimp only
  split
  · exact .ite h.withParts h.withParts.softStop
  · exact h.withParts
theorem Reported.enterSafestop (h : Reported code s) {n : Nat} : Reported code (s.enterSafestop n) := by
  unfold State.enterSafestop
  exact .enter (h.mark.onRails fun _ _ hx => hx.disarm)
theorem Reported.dlStop (h : Reported code s) {cause : Nat} : Reported code (s.dlStop cause) :=
  h.onRails fun _ _ hx => .ite hx.softStop (by
    split
    · exact hx.fastStop.railOff
    · exact hx.fastStop.railOff
    · exact hx.fastStop.railOff
    · exact hx.fastStop.railOff
    · exact hx.fastStop.railOff
    · exact hx.fastStop.railOff
    · exact hx.fastStop.railOff
    · exact hx)
theorem Reported.refuse (h : Reported code s) {res rail : Nat} : Reported code (s.refuse res rail) :=
  .ite h (h.set.inc.withParts.logF.onRails fun _ _ hx => .ite hx.softStop.modFr hx)
theorem Reported.deviceLatch (h : Reported code s) {cause : Nat} : Reported code (s.deviceLatch cause) := by
  unfold State.deviceLatch
  dsimp only
  refine .ite h ?_
  split
  · exact h.set.mark.raise
  · exact h.set.mark.raise
  · exact h.set.mark.raise.enterSafestop
  · exact h.set.mark.raise.dlStop
  · exact h.set.mark.raise.dlStop.withParts.refuse
  · exact h.set.mark.raise.dlStop.enterSafestop
theorem Reported.railLatch (h : Reported code s) {r : Fin 8} {cause : Nat} {fast : Bool} : Reported code (s.railLatch r cause fast) :=
  (Reported.ite h.fastStop.latchNow h.softStop).when fun _ hx => hx.deviceLatch
theorem Reported.cml (h : Reported code s) {v : Nat} : Reported code (s.cml v) := h.pmbBits

theorem Reported.putCtxWord (h : Reported code s) {x n : Nat} : Reported code (s.putCtxWord x n) := h.withParts
theorem Reported.putCtx (h : Reported code s) {x : Nat} {c : Ctx} : Reported code (s.putCtx x c) := h.putCtxWord
theorem Reported.putHints (h : Reported code s) {r : Fin 8} {l : List Hint} : Reported code (s.putHints r l) := h.modRail.set
theorem Reported.putF (h : Reported code s) {r : Fin 8} : Reported code (s.putF r) := .ite h (.ite h.setI.modEng.mark h.setI.modEng)
theorem Reported.ctxCheck (h : Reported code s) {x : Nat} : Reported code (s.ctxCheck x) :=
  .ite h (.logC (h.putCtx.onRails fun _ _ hx => .ite hx.putHints.putF hx))
theorem Reported.freeSlot (h : Reported code s) {hint : Hint} : Reported code (s.freeSlot hint) := h.ctxCheck.putCtx
theorem Reported.retire (h : Reported code s) {r : Fin 8} {p : Hint → Bool} : Reported code (s.retire r p) :=
  .putHints (h.foldl fun _ _ hx => hx.freeSlot)
theorem Reported.noteTense (h : Reported code s) {r : Fin 8} {event w value : Nat} :
    Reported code (s.noteTense r event w value) := h.noteRail
theorem Reported.discard (h : Reported code s) {r : Fin 8} {cause : Nat} : Reported code (s.discard r cause) :=
  .ite h h.retire.putF.mark.noteTense.logC
theorem Reported.clampRound (h : Reported code s) : Reported code s.clampRound := h.onRails fun _ _ hx => .ite hx.putF hx
theorem Reported.hintRound (h : Reported code s) : Reported code s.hintRound :=
  h.onRails fun _ _ hx => .ite hx (.ite hx.discard (.ite hx.discard (.ite hx.discard hx)))
theorem Reported.modPk (h : Reported code s) {f : Pack → Pack} : Reported code (s.modPk f) := h.withParts
theorem Reported.setChg (h : Reported code s) {k : Nat} : Reported code (s.setChg k) := h.modPk.set
theorem Reported.testAbort (h : Reported code s) : Reported code s.testAbort :=
  .ite h (.logC (h.clear.modPk.withParts.when fun _ hx => hx.setChg))
theorem Reported.chargerRound (h : Reported code s) : Reported code s.chargerRound := by
  unfold State.chargerRound
  extract_lets aborted c
  have ha : Reported code aborted := h.when fun _ hx => hx.testAbort
  exact .ite h (.ite ha (.ite (ha.when fun _ hx => hx.setChg) (.ite (ha.when fun _ hx => hx.setChg) (.ite ha.setChg (.ite ha.setChg ha)))))
theorem Reported.setGate (h : Reported code s) {b : Bool} : Reported code (s.setGate b) := h.modPk.setB
theorem Reported.gateRound (h : Reported code s) : Reported code s.gateRound := .ite h.setGate h
theorem Reported.packRound (h : Reported code s) : Reported code s.packRound := h.chargerRound.gateRound
theorem Reported.arm (h : Reported code s) {r : Fin 8} : Reported code (s.arm r) := by
  unfold State.arm
  exact h.setRail.setSen.modFr
theorem Reported.armRound (h : Reported code s) : Reported code s.armRound := h.onRails fun _ _ hx => .ite hx.arm hx
theorem Reported.clrRound (h : Reported code s) (hs : s.Calm) : Reported code s.clrRound := by
  unfold State.clrRound
  rw [hs]
  exact h
theorem Reported.shedRound (h : Reported code s) : Reported code s.shedRound := h.onRails fun _ _ hx => .ite hx.modRail hx
theorem Reported.modeRound (h : Reported code s) : Reported code s.modeRound := by
  unfold State.modeRound
  split
  · exact .ite h h.enter
  · exact .ite h h.enter
  · exact .ite h h.enter
  · exact .ite h h.enter
  · exact h
theorem Reported.mirrorRound (h : Reported code s) {s0 : State} : Reported code (State.mirrorRound s0 s) := .ite h.withParts h
theorem Reported.cjRound (h : Reported code s) {s0 : State} : Reported code (State.cjRound s0 s) := by
  unfold State.cjRound
  split
  · exact h
  · exact (Reported.ite h.railLatch h).withParts
theorem Reported.noteRound (h : Reported code s) {s0 : State} : Reported code (State.noteRound s0 s) :=
  .ite h (.onRails (h.when fun _ hx => hx.noteAll) fun _ _ hx => .when (by
    split
    · exact hx.noteRail
    · exact hx) fun _ hy => hy.noteRail)
theorem Reported.precheckRound (h : Reported code s) : Reported code s.precheckRound := .ite (.ite h.enter h.enter) h
theorem Reported.creditRound (h : Reported code s) : Reported code s.creditRound :=
  .ite h (h.foldl fun _ _ hx => .ite hx hx.set.modPort)
theorem Reported.pmbRail (h : Reported code s) {s0 : State} {r : Fin 8} : Reported code (State.pmbRail s0 s r) :=
  .ite h h.pmbBits.pmbBits.pmbBits.pmbBits.pmbBits.pmbBits
theorem Reported.pmbRound (h : Reported code s) {s0 : State} : Reported code (State.pmbRound s0 s) :=
  .ite h (.withParts (.when (h.onRails fun _ _ hx => hx.pmbRail) fun _ hx => hx.cml))
theorem Reported.wasRound (h : Reported code s) {s0 : State} : Reported code (State.wasRound s0 s) :=
  h.onRails fun _ _ hx => .ite hx hx.modFr
theorem Reported.settle (h : Reported code s) {s0 : State} (hs : s.Calm) : Reported code (settle s0 s) := by
  have hf : Framed s (State.cjRound s0 s.stopRound).packRound :=
    State.packRound_framed (State.cjRound_framed _ (State.stopRound_framed (Framed.refl s)))
  have hw : (State.cjRound s0 s.stopRound).packRound.Calm :=
    (congrArg (fun x : State => x.pow.wantSafestopClr) hf.rest).trans hs
  have hc : Reported code (State.cjRound s0 s.stopRound).packRound.clrRound := h.stopRound.cjRound.packRound.clrRound hw
  exact hc.armRound.precheckRound.shedRound.modeRound.hintRound.clampRound.wasRound.pmbRound.mirrorRound.noteRound.creditRound
theorem Reported.run {t : Nat} {f : State → State} {u : State} (h : Reported code (f (s.at t))) (hs : (f (s.at t)).Calm)
    (hu : run t f s = .next u) : Reported code u := by
  have := h.settle (s0 := s.at t) hs
  obtain rfl := Host.Outcome.next.inj hu
  generalize Machine.settle (s.at t) (f (s.at t)) = x at this
  exact this

end Sys2Proof.Machine
end


section
/-!
Register writes by their outcome (R515, R398, R34): which fields of the register count, what the first check answers, and the state after
a denied, a refused and an accepted write. Then the two registers of O45: REC_STATUS, whose fields clear by a one, and RP_WIN.
-/
namespace Sys2Proof.Machine

variable {s : State} {w : Who} {a v : Nat} {both : Bool}

/-! ## The outcome of a write -/

theorem State.fieldsFor_eq (h : fusedAddr a = false) : s.fieldsFor a = fieldsAt (normAddr a) := by
  unfold State.fieldsFor
  rw [h, Bool.and_false]
  rfl

theorem State.fieldsFor_full (h : s.cz1604 = false) : s.fieldsFor a = fieldsAt (normAddr a) := by
  unfold State.fieldsFor
  rw [h, Bool.false_and]
  rfl

theorem State.fusedField_full (h : s.cz1604 = false) (f : Fld) (i : Nat) : s.fusedField f i = false := by
  simp [State.fusedField, State.noRail, State.noPhase, h]

/-- Where nothing is fused off, the fields of the register that count, with the values carried. -/
theorem State.writes_eq {l : List (Fld × Nat)} (hl : s.fieldsFor a = l) (hf : ∀ e ∈ l, s.fusedField e.1 e.2 = false) :
    s.writes w a v = l.filterMap (fun e =>
      if s.counted w e.1 e.2 (s.carried e.1 e.2 v) then some (e.1, e.2, s.carried e.1 e.2 v) else none) := by
  unfold State.writes
  rw [hl, List.filter_eq_self.2 fun e he => by rw [hf e he]; rfl]

theorem State.mem_fieldsFor_of_writes {e : Fld × Nat × Nat} (h : e ∈ s.writes w a v) : (e.1, e.2.1) ∈ s.fieldsFor a := by
  obtain ⟨⟨f, i⟩, hm, hc⟩ := List.mem_filterMap.1 h
  obtain ⟨-, he⟩ := Option.ite_none_right_eq_some.1 hc
  rw [← Option.some.inj he]
  exact (List.mem_filter.1 hm).1

/-- One field that counts and is not the Person's denies the whole access (R398). -/
theorem State.writeCheck_denied {e : Fld × Nat × Nat} (hs : s.sealOff w.path a = false) (he : e ∈ s.writes w a v)
    (hm : s.mayWrite w.person e.1 = false) : s.writeCheck w a v = rAccess := by
  have hne : (s.fieldsFor a).isEmpty = false := List.isEmpty_eq_false_iff_exists_mem.2 ⟨_, State.mem_fieldsFor_of_writes he⟩
  have hany : (s.writes w a v).any (fun e => !s.mayWrite w.person e.1) = true := List.any_eq_true.2 ⟨e, he, by rw [hm]; rfl⟩
  unfold State.writeCheck
  simp [hs, hne, hany]

/-- The first check passes when each field that counts is the Person's, and loaded from the image only after PARSE (R493). -/
theorem State.writeCheck_ok (hs : s.sealOff w.path a = false) (hne : s.fieldsFor a ≠ [])
    (hm : ∀ e ∈ s.writes w a v, s.mayWrite w.person e.1 = true ∧ (s.parsed = true ∨ e.1.acc = .w1c)) : s.writeCheck w a v = rOk := by
  have hmay : (s.writes w a v).any (fun e => !s.mayWrite w.person e.1) = false :=
    List.any_eq_false.2 fun e he => by rw [(hm e he).1]; decide
  have hparsed : (s.writes w a v).any (fun e => e.1.img && !s.parsed && e.1.acc != .w1c) = false :=
    List.any_eq_false.2 fun e he => by rcases (hm e he).2 with h | h <;> simp [h]
  unfold State.writeCheck
  simp [hs, hne, hmay, hparsed]

theorem State.hostWrite_up {p : Path} (hp : s.pathUp p = true) : s.hostWrite p a v both = (s.regWrite (s.who p) a v both).2 := if_pos hp

theorem State.regWrite_denied (hc : s.writeCheck w a v = rAccess) : s.regWrite w a v both = (rAccess, s.denied w a true) := by
  unfold State.regWrite
  rw [hc]
  rfl

theorem State.regWrite_refused {q : Refused} (hc : s.writeCheck w a v = rOk)
    (hq : (s.writes w a v).findSome? (s.fieldRule w a (s.after w a v) both) = some q) : s.regWrite w a v both = (q.res, q.act s) := by
  unfold State.regWrite
  simp only [hc, hq]
  rfl

theorem actsLast_eq {l : List (Fld × Nat × Nat)} (h : ∀ e ∈ l, e.1.acc.wo = false) : actsLast l = l := by
  unfold actsLast
  rw [List.filter_eq_self.2 fun e he => by rw [h e he]; rfl, List.filter_eq_nil_iff.2 fun e he => by rw [h e he]; decide, List.append_nil]

/-- An accepted write of a register that holds values and gives no consent: its fields take theirs, one after the other. -/
theorem State.regWrite_accepted (hc : s.writeCheck w a v = rOk) (ha : a ≠ 0x6008)
    (hl : ∀ e ∈ s.writes w a v, s.fieldRule w a (s.after w a v) both e = none ∧ e.1.acc.wo = false ∧ e.1.base ≠ 0x0220) :
    s.regWrite w a v both = (rOk, (s.writes w a v).foldl (fun y e => y.fieldWrite w (s.after w a v) e) s) := by
  have hrule : (s.writes w a v).findSome? (s.fieldRule w a (s.after w a v) both) = none :=
    List.findSome?_eq_none_iff.2 fun e he => (hl e he).1
  have hcons : (s.writes w a v).any (fun e => e.1.base == 0x0220) = false :=
    List.any_eq_false.2 fun e he => by simpa using (hl e he).2.2
  unfold State.regWrite State.selEffect State.consentEffect
  simp only [hc, hrule, hcons, State.when_false, actsLast_eq fun e he => (hl e he).2.1]
  simp [ha, rOk, rAccess]

/-! ## A register whose fields clear by a one -/

/-- A one-bit field that a one clears, and the bit that a write carries for it. -/
def clearBit (d : Nat) (y : State) (f : Fld) : State := y.when (d.testBit f.lo) (fun y => y.clear f)

theorem clearBit_rcd (d : Nat) (y : State) (f : Fld) : (clearBit d y f).rcd = y.rcd := by
  unfold clearBit State.when
  split <;> rfl
theorem clearBit_pow (d : Nat) (y : State) (f : Fld) : (clearBit d y f).pow = y.pow := by
  unfold clearBit State.when
  split <;> rfl
theorem get_clearBit (d : Nat) (y : State) (f g : Fld) :
    (clearBit d y f).get g = if g.key 0 = f.key 0 ∧ d.testBit f.lo then 0 else y.get g := by
  unfold clearBit State.when
  by_cases hb : d.testBit f.lo
  · simp [hb, State.get_set]
  · simp [hb]

/-- The fields of REC_STATUS that a one clears (R515), from the top. -/
def recStatusBits : List Fld := [F.REC_STATUS_REC_MISS, F.REC_STATUS_STICKY_LOST, F.REC_STATUS_OVERWRITE_S, F.REC_STATUS_INTAKE_S]

theorem fieldsAt_REC_STATUS : fieldsAt (normAddr 0x6000) =
    (F.REC_STATUS_N_REC, 0) :: (F.REC_STATUS_N_STICKY, 0) :: recStatusBits.map (·, 0) := by decide +kernel

theorem State.carried_bit {f : Fld} (hw : f.width = 1) (hf : fusedMask f = 0) (hs : f.lostep = 0) (v : Nat) :
    s.carried f 0 v = b2n (v.testBit f.lo) := by
  have hb : bits v (f.pos 0) f.width = b2n (v.testBit f.lo) := by
    rw [hw, Fld.pos, hs, bits, Nat.testBit_eq_decide_div_mod_eq]
    unfold b2n
    split <;> simp_all
  simp [State.carried, hb, hf]

/-- Fields that clear by a one, written one after the other. -/
theorem foldl_clearBits {l : List Fld} {nv : Fld → Nat → Nat} (v : Nat) (y : State)
    (hl : ∀ f ∈ l, f.acc = .w1c ∧ f.width = 1 ∧ fusedMask f = 0 ∧ f.lostep = 0) :
    ((l.map (·, 0)).filterMap (fun e => if s.counted w e.1 e.2 (s.carried e.1 e.2 v) then some (e.1, e.2, s.carried e.1 e.2 v) else none)).foldl
      (fun y e => y.fieldWrite w nv e) y = l.foldl (clearBit v) y := by
  induction l generalizing y with
  | nil => rfl
  | cons f l ih =>
    obtain ⟨hacc, hw, hf, hs⟩ := hl f (List.mem_cons_self ..)
    replace ih := fun y => ih y fun g hg => hl g (List.mem_cons_of_mem _ hg)
    have hc : s.carried f 0 v = b2n (v.testBit f.lo) := State.carried_bit hw hf hs v
    rw [List.map_cons, List.filterMap_cons, List.foldl_cons]
    cases hb : v.testBit f.lo with
    | false =>
      have hn : s.counted w f 0 (s.carried f 0 v) = false := by simp [State.counted, hacc, hc, hb, b2n]
      rw [if_neg (by rw [hn]; decide), ih]
      simp [clearBit, hb]
    | true =>
      have hn : s.counted w f 0 (s.carried f 0 v) = true := by simp [State.counted, hacc, hc, hb, b2n]
      have hz : (y.get f - y.get f % 2) % 2 = 0 := by omega
      have hwr : y.fieldWrite w nv (f, 0, s.carried f 0 v) = y.clear f := by
        simp [State.fieldWrite, State.fieldAct, hacc, hc, hb, b2n, State.set, hw, hz]
      rw [if_pos hn, List.foldl_cons, hwr, ih]
      simp [clearBit, hb]

/-- A field of no rail, phase or sensor is never fused off. -/
theorem State.fusedField_device {f : Fld} (h : f.index = 0 ∧ f.base ≠ 0x3880) (i : Nat) : s.fusedField f i = false := by
  simp [State.fusedField, h]

/-- A write of REC_STATUS clears the fields that it carries a one for, and no other (R515). -/
theorem State.regWrite_recStatus (hs : s.sealOff w.path 0x6000 = false) (hp : w.person = .p2) (v : Nat) :
    (s.regWrite w 0x6000 v false).2 = recStatusBits.foldl (clearBit v) s := by
  have hfor : s.fieldsFor 0x6000 = _ := (State.fieldsFor_eq rfl).trans fieldsAt_REC_STATUS
  have hdev : ∀ e ∈ (F.REC_STATUS_N_REC, 0) :: (F.REC_STATUS_N_STICKY, 0) :: recStatusBits.map (·, 0),
      e.1.index = 0 ∧ e.1.base ≠ 0x3880 := by decide
  have hw : s.writes w 0x6000 v = (recStatusBits.map (·, 0)).filterMap (fun e =>
      if s.counted w e.1 e.2 (s.carried e.1 e.2 v) then some (e.1, e.2, s.carried e.1 e.2 v) else none) := by
    rw [State.writes_eq hfor fun e he => State.fusedField_device (hdev e he) _]
    rfl
  have hmem : ∀ e ∈ s.writes w 0x6000 v, e.1 ∈ recStatusBits := by
    intro e he
    rw [hw] at he
    obtain ⟨g, hg, hc⟩ := List.mem_filterMap.1 he
    obtain ⟨-, hc⟩ := Option.ite_none_right_eq_some.1 hc
    obtain ⟨f, hf, rfl⟩ := List.mem_map.1 hg
    rw [← Option.some.inj hc]
    exact hf
  have hacc : ∀ f ∈ recStatusBits, f.acc = .w1c ∧ f.width = 1 ∧ fusedMask f = 0 ∧ f.lostep = 0 ∧ f.base ≠ 0x0220 := by decide
  have hrule : ∀ f ∈ recStatusBits, ∀ i x, s.fieldRule w 0x6000 (s.after w 0x6000 v) false (f, i, x) = none := by
    intro f hf i x
    simp only [recStatusBits, List.mem_cons, List.not_mem_nil, or_false] at hf
    obtain rfl | rfl | rfl | rfl := hf <;> rfl
  have hcheck : s.writeCheck w 0x6000 v = rOk := by
    refine State.writeCheck_ok hs (by rw [hfor]; exact List.cons_ne_nil _ _) fun e he => ?_
    obtain ⟨ha, -⟩ := hacc _ (hmem e he)
    exact ⟨by simp [State.mayWrite, hp, ha], .inr ha⟩
  rw [State.regWrite_accepted hcheck (by decide) fun e he => ?_]
  · rw [hw]
    exact foldl_clearBits v s fun f hf => let ⟨ha, hb, hm, hl, _⟩ := hacc f hf; ⟨ha, hb, hm, hl⟩
  · obtain ⟨ha, -, -, -, hb⟩ := hacc _ (hmem e he)
    exact ⟨hrule _ (hmem e he) _ _, by rw [ha]; rfl, hb⟩

end Sys2Proof.Machine
end


section
/-!
The protective window of a rail, RP_WIN: a write that changes its overvoltage threshold alone, by whom and how far it may (R34, R398).
-/
namespace Sys2Proof.Machine

variable {s : State} {w : Who} {v : Nat} {r : Fin 8}

/-- The fields of a rail's RP_WIN, from the top. -/
def rpWinFields (r : Fin 8) : List (Fld × Nat) :=
  [(F.RP_WIN_OV_TH, r.val), (F.RP_WIN_UV_TH, r.val), (F.RP_WIN_OV_FILT, r.val), (F.RP_WIN_UV_FILT, r.val)]

theorem fieldsAt_RP_WIN : ∀ r : Fin 8, fieldsAt (normAddr (0x3100 + 32 * r.val)) = rpWinFields r := by decide +kernel

theorem State.carried_full (h : s.cz1604 = false) {f : Fld} (hf : f.lostep = 0) (i v : Nat) :
    s.carried f i v = v / 2 ^ f.lo % 2 ^ f.width := by
  simp [State.carried, h, bits, Fld.pos, hf]

theorem State.counted_rpWin {e : Fld × Nat} (he : e ∈ rpWinFields r) (x : Nat) : s.counted w e.1 e.2 x = (x != s.get e.1 e.2) := by
  simp only [rpWinFields, List.mem_cons, List.not_mem_nil, or_false] at he
  obtain rfl | rfl | rfl | rfl := he <;> rfl

/-- P2 is denied a write that changes the threshold (R398). -/
theorem State.writeCheck_rpWin_p2 (hs : s.sealOff w.path (0x3100 + 32 * r.val) = false) (hp : w.person = .p2) (hz : s.cz1604 = false)
    (hv : v < 2 ^ 32) (hx : v / 2 ^ 24 ≠ s.get F.RP_WIN_OV_TH r) : s.writeCheck w (0x3100 + 32 * r.val) v = rAccess := by
  have hfor : s.fieldsFor (0x3100 + 32 * r.val) = _ := (State.fieldsFor_full hz).trans (fieldsAt_RP_WIN r)
  have hb : s.carried F.RP_WIN_OV_TH r v = v / 2 ^ 24 :=
    (State.carried_full hz rfl _ _).trans (show v / 2 ^ 24 % 2 ^ 8 = v / 2 ^ 24 by omega)
  have hcount : s.counted w F.RP_WIN_OV_TH r (v / 2 ^ 24) = true := (State.counted_rpWin (List.mem_cons_self ..) _).trans (by simpa using hx)
  refine State.writeCheck_denied (e := (F.RP_WIN_OV_TH, r.val, v / 2 ^ 24)) hs ?_ (by rw [hp]; rfl)
  rw [State.writes_eq hfor fun _ _ => State.fusedField_full hz _ _]
  refine List.mem_filterMap.2 ⟨(F.RP_WIN_OV_TH, r.val), List.mem_cons_self .., ?_⟩
  rw [hb, if_pos hcount]

/-- A write of RP_WIN that gives the threshold `x` and leaves the other fields as they stand. -/
structure State.WritesOvTh (s : State) (r : Fin 8) (x v : Nat) : Prop where
  full : s.cz1604 = false
  uv : s.get F.RP_WIN_UV_TH r < 256
  ovFilt : s.get F.RP_WIN_OV_FILT r < 16
  uvFilt : s.get F.RP_WIN_UV_FILT r < 256
  lt : x < 256
  ne : x ≠ s.get F.RP_WIN_OV_TH r
  value : v = x * 2 ^ 24 + s.get F.RP_WIN_UV_TH r * 2 ^ 16 + s.get F.RP_WIN_OV_FILT r * 2 ^ 12 + s.get F.RP_WIN_UV_FILT r

variable {x : Nat}

theorem State.WritesOvTh.writes (h : s.WritesOvTh r x v) : s.writes w (0x3100 + 32 * r.val) v = [(F.RP_WIN_OV_TH, r.val, x)] := by
  obtain ⟨hz, huv, hof, huf, hx, hne, hv⟩ := h
  have hfor : s.fieldsFor (0x3100 + 32 * r.val) = _ := (State.fieldsFor_full hz).trans (fieldsAt_RP_WIN r)
  have hOv : s.carried F.RP_WIN_OV_TH r v = x := (State.carried_full hz rfl _ _).trans (show v / 2 ^ 24 % 2 ^ 8 = x by omega)
  have hUv : s.carried F.RP_WIN_UV_TH r v = s.get F.RP_WIN_UV_TH r :=
    (State.carried_full hz rfl _ _).trans (show v / 2 ^ 16 % 2 ^ 8 = s.get F.RP_WIN_UV_TH r by omega)
  have hOf : s.carried F.RP_WIN_OV_FILT r v = s.get F.RP_WIN_OV_FILT r :=
    (State.carried_full hz rfl _ _).trans (show v / 2 ^ 12 % 2 ^ 4 = s.get F.RP_WIN_OV_FILT r by omega)
  have hUf : s.carried F.RP_WIN_UV_FILT r v = s.get F.RP_WIN_UV_FILT r :=
    (State.carried_full hz rfl _ _).trans (show v / 2 ^ 0 % 2 ^ 8 = s.get F.RP_WIN_UV_FILT r by omega)
  have hc : ∀ e ∈ rpWinFields r, s.counted w e.1 e.2 (s.carried e.1 e.2 v) = (s.carried e.1 e.2 v != s.get e.1 e.2) :=
    fun e he => State.counted_rpWin he _
  simp only [rpWinFields, List.forall_mem_cons, hOv, hUv, hOf, hUf, bne_self_eq_false] at hc
  obtain ⟨cOv, cUv, cOf, cUf, -⟩ := hc
  rw [State.writes_eq hfor fun _ _ => State.fusedField_full hz _ _]
  simp [rpWinFields, hOv, hUv, hOf, hUf, cOv, cUv, cOf, cUf, hne]

theorem State.lessProtective_OV_TH (nv : Fld → Nat → Nat) (i : Nat) :
    s.lessProtective nv F.RP_WIN_OV_TH i x = decide (s.imgGet F.RP_WIN_OV_TH i < x) := by
  have hup : limitsUp.contains F.RP_WIN_OV_TH = true := by decide
  have hdown : limitsDown.contains F.RP_WIN_OV_TH = false := by decide
  have hoff : limitsOff.contains F.RP_WIN_OV_TH = false := by decide
  unfold State.lessProtective
  rw [hup, hdown, hoff]
  simp [F.RP_WIN_OV_TH]

theorem inRange_OV_TH (h4 : 4 ≤ x) (h127 : x ≤ 127) : inRange F.RP_WIN_OV_TH x = true := by
  have : inRange F.RP_WIN_OV_TH x = ((decide (4 ≤ x) && decide (x ≤ 127)) && true) := rfl
  simp [this, h4, h127]

/-- P3 with the right passes the first check of a write after PARSE. -/
theorem State.WritesOvTh.check (h : s.WritesOvTh r x v) (hs : s.sealOff w.path (0x3100 + 32 * r.val) = false) (hp : w.person = .p3)
    (hr : s.right 1 = true) (hd : s.parsed = true) : s.writeCheck w (0x3100 + 32 * r.val) v = rOk := by
  have hfor : s.fieldsFor (0x3100 + 32 * r.val) = _ := (State.fieldsFor_full h.full).trans (fieldsAt_RP_WIN r)
  refine State.writeCheck_ok hs (by rw [hfor]; exact List.cons_ne_nil _ _) fun e he => ⟨?_, .inl hd⟩
  rw [h.writes, List.mem_singleton] at he
  rw [he, hp]
  exact hr

/-- A threshold less protective than the image's is refused and reported (R34). -/
theorem State.WritesOvTh.refused (h : s.WritesOvTh r x v) (hc : s.writeCheck w (0x3100 + 32 * r.val) v = rOk)
    (hx : s.imgGet F.RP_WIN_OV_TH r < x) :
    (s.regWrite w (0x3100 + 32 * r.val) v false).2 = s.logF 0x0104 0 [(2, (0x3100 + 32 * r.val : Nat)), (1, w.person.code)] := by
  have hrule : s.fieldRule w (0x3100 + 32 * r.val) (s.after w (0x3100 + 32 * r.val) v) false (F.RP_WIN_OV_TH, r.val, x) =
      some ⟨rValue, fun s => s.logF 0x0104 0 [(2, (0x3100 + 32 * r.val : Nat)), (1, w.person.code)]⟩ :=
    if_pos ((State.lessProtective_OV_TH _ _).trans (by simpa using hx))
  rw [State.regWrite_refused hc (by rw [h.writes, List.findSome?_cons, hrule])]

/-- A threshold at least as protective, in its range, is taken (R34, R515). -/
theorem State.WritesOvTh.taken (h : s.WritesOvTh r x v) (hc : s.writeCheck w (0x3100 + 32 * r.val) v = rOk)
    (hx : x ≤ s.imgGet F.RP_WIN_OV_TH r) (h4 : 4 ≤ x) (h127 : x ≤ 127) :
    (s.regWrite w (0x3100 + 32 * r.val) v false).2 = s.set F.RP_WIN_OV_TH r x := by
  have hrule : s.fieldRule w (0x3100 + 32 * r.val) (s.after w (0x3100 + 32 * r.val) v) false (F.RP_WIN_OV_TH, r.val, x) = none := by
    have hless : s.lessProtective (s.after w (0x3100 + 32 * r.val) v) F.RP_WIN_OV_TH r x = false :=
      (State.lessProtective_OV_TH _ _).trans (by simpa using hx)
    exact (if_neg (by rw [hless]; decide)).trans ((if_neg (by rw [inRange_OV_TH h4 h127]; decide)).trans rfl)
  rw [State.regWrite_accepted hc (by omega) fun e he => ?_]
  · rw [h.writes]
    rfl
  · rw [h.writes, List.mem_singleton] at he
    rw [he]
    exact ⟨hrule, rfl, (by decide : (0x3100 : Nat) ≠ 0x0220)⟩

end Sys2Proof.Machine
end


section
/-!
The least frames, and what a REGISTER_WRITE leaves: nothing, one register field, or an event on its way.
-/
namespace Sys2Proof.Machine

variable {ps : List Part} {fs : List Fld} {s u : State}

/-- A state put into itself. -/
theorem State.put_self (s : State) (p : Part) : State.put s s p = s := by
  cases p with
  | rail r => exact congrArg (fun v : Vector Rail 8 => ({ s with rails := v } : State)) (Vector.set_getElem_self ..)
  | phase n => exact congrArg (fun v : Vector Phase 32 => ({ s with phases := v } : State)) (Vector.set_getElem_self ..)
  | port q => exact congrArg (fun v : Vector Port 2 => ({ s with ports := v } : State)) (Vector.set_getElem_self ..)
  | _ => rfl

theorem State.puts_self (s : State) (ps : List Part) : State.puts s s ps = s := by
  induction ps with
  | nil => rfl
  | cons p ps ih =>
    show State.puts s (State.put s s p) ps = s
    rw [State.put_self, ih]

theorem Changes.refl (ps : List Part) (fs : List Fld) (s : State) : Changes ps fs s s := ⟨by rw [State.puts_self], fun _ _ _ => rfl⟩

/-- A register field is no part of the state. -/
theorem State.puts_set (s a : State) (f : Fld) (i v : Nat) (ps : List Part) : State.puts (s.set f i v) a ps = State.puts s a ps := by
  induction ps generalizing a with
  | nil => rfl
  | cons p ps ih => exact (ih _).trans (congrArg (State.puts s · ps) (by cases p <;> rfl))

/-- A write of one of the frame's register fields. -/
theorem Changes.set {f : Fld} {i : Nat} (hf : f ∈ fs) (hfit : f.fits = true) (hi : i < f.count) (v : Nat) : Changes ps fs s (s.set f i v) := by
  refine ⟨by rw [State.puts_set, State.puts_self]; rfl, fun k hk _ => ?_⟩
  have hne : k ≠ f.key i := by
    rintro rfl
    rw [List.any_eq_true.2 ⟨f, hf, Fld.hasKey_key f i hfit hi⟩] at hk
    cases hk
  exact Store.get_set_of_ne _ _ hne

/-- A frame of the effect at a command's instant is a frame of the command. -/
theorem Changes.of_at {t : Nat} (h : Changes ps fs (s.at t) u) : Changes ps fs s u :=
  ⟨h.rest.trans (State.puts_rest (Framed.refl u) ps _ _ rfl), h.regs⟩

/-- A REGISTER_WRITE gives the state that the access leaves, then the end of the update. -/
theorem registerWrite_gives {t : Nat} {p : Path} {addr : BitVec 16} {a : Nat} {d : Word} {x : State} {P : State → Prop}
    (ha : addr.toNat = a) (hx : (s.at t).hostWrite p a d.toNat = x) (hc : x.Calm)
    (hP : ∀ u, exec (.registerWrite t p addr d) s = .next u → Framed x u → P u) : Gives (.registerWrite t p addr d) s P := by
  subst ha hx
  obtain ⟨u, hu, hf, -, -⟩ := run_next t (fun s => s.hostWrite p addr.toNat d.toNat) s hc
  exact ⟨u, hu, hP u hu hf⟩

/-- What is on its way after the access stays so. -/
theorem Reported.registerWrite {t : Nat} {p : Path} {addr : BitVec 16} {a code : Nat} {d : Word} {x : State} (ha : addr.toNat = a)
    (hx : (s.at t).hostWrite p a d.toNat = x) (hc : x.Calm) (h : Reported code x) (hu : exec (.registerWrite t p addr d) s = .next u) :
    Reported code u := by
  subst ha hx
  exact Reported.run (f := fun s => s.hostWrite p addr.toNat d.toNat) h hc hu

/-- An event of the Front die, not rate-limited, is on its way, in any mode but CARETAKER. -/
theorem State.logF_reported {code : Nat} (hc : rateLimited.contains code = false) (hm : s.mode ≠ .caretaker) (unit : Nat)
    (items : List (Nat × Int)) : Reported code (s.logF code unit items) := by
  have hct : (s.stamp true code unit items).ct = false := by simpa [State.stamp] using hm
  have he : s.logF code unit items = (s.pmbRec code unit items).emit (s.stamp true code unit items) .none := by
    unfold State.logF State.raise
    rw [hc]; rfl
  rw [he]
  unfold State.emit
  rw [hct]
  exact ⟨_, List.mem_append_right _ (List.mem_singleton.2 rfl), rfl, rfl⟩

theorem toNat_RP_WIN (r : Fin 8) : (BitVec.ofNat 16 (0x3100 + 32 * r.val)).toNat = 0x3100 + 32 * r.val := Nat.mod_eq_of_lt (by omega)

end Sys2Proof.Machine
end


section
/-!
O45, from the outcomes of the writes of REC_STATUS and RP_WIN.
-/
namespace Sys2Proof.Machine

variable {s : State} {r : Fin 8} {x v : Nat}

theorem get_recStatusBits (d : Nat) (y : State) {f : Fld} (hf : f ∈ recStatusBits) :
    (recStatusBits.foldl (clearBit d) y).get f = if d.testBit f.lo then 0 else y.get f := by
  simp only [recStatusBits, List.mem_cons, List.not_mem_nil, or_false] at hf
  obtain rfl | rfl | rfl | rfl := hf <;> simp (decide := true) [recStatusBits, get_clearBit]

/-- The threshold is no field that the end of an update may write, nor the field that a denial marks. -/
theorem settleKey_OV_TH : ∀ r : Fin 8, settleKey (F.RP_WIN_OV_TH.key r) = false := by decide +kernel
theorem key_OV_TH_ne : ∀ r : Fin 8, F.RP_WIN_OV_TH.key r ≠ F.SEC_STICKY_ACC_DENY_S.key 0 := by decide

/-- Host SPI without a session writes as P2, and no session seals it off. -/
theorem State.hostWrite_p2 (h : s.AsP2) (a v : Nat) : s.hostWrite .spi a v = (s.regWrite ⟨.spi, .p2⟩ a v false).2 := by
  obtain ⟨hup, hno⟩ := h
  have hw : s.who .spi = ⟨.spi, .p2⟩ := by simp [State.who, hno]
  rw [State.hostWrite_up hup, hw]
theorem State.sealOff_p2 (h : s.AsP2) (a : Nat) : s.sealOff .spi a = false := by simp [State.sealOff, h.2]
theorem State.sealOff_sess (a : Nat) : s.sealOff .sess a = false := by simp [State.sealOff]

theorem State.hostWrite_recStatus (h : s.AsP2) (v : Nat) : s.hostWrite .spi 0x6000 v = recStatusBits.foldl (clearBit v) s :=
  (State.hostWrite_p2 h _ _).trans (State.regWrite_recStatus (State.sealOff_p2 h _) rfl v)

theorem State.hostWrite_rpWin_denied (h : s.AsP2) (hz : s.cz1604 = false) (hv : v < 2 ^ 32) (hx : v / 2 ^ 24 ≠ s.get F.RP_WIN_OV_TH r) :
    s.hostWrite .spi (0x3100 + 32 * r.val) v = s.denied ⟨.spi, .p2⟩ (0x3100 + 32 * r.val) true := by
  rw [State.hostWrite_p2 h, State.regWrite_denied (State.writeCheck_rpWin_p2 (State.sealOff_p2 h _) rfl hz hv hx)]

theorem State.WritesOvTh.hostWrite_refused (h : s.WritesOvTh r x v) (hp : s.AsP3 1) (hd : s.parsed = true)
    (hx : s.imgGet F.RP_WIN_OV_TH r < x) :
    s.hostWrite .sess (0x3100 + 32 * r.val) v = s.logF 0x0104 0 [(2, (0x3100 + 32 * r.val : Nat)), (1, Person.p3.code)] :=
  (State.hostWrite_up hp.1).trans (h.refused (h.check (State.sealOff_sess _) rfl hp.2 hd) hx)

theorem State.WritesOvTh.hostWrite_taken (h : s.WritesOvTh r x v) (hp : s.AsP3 1) (hd : s.parsed = true)
    (hx : x ≤ s.imgGet F.RP_WIN_OV_TH r) (h4 : 4 ≤ x) (h127 : x ≤ 127) :
    s.hostWrite .sess (0x3100 + 32 * r.val) v = s.set F.RP_WIN_OV_TH r x :=
  (State.hostWrite_up hp.1).trans (h.taken (h.check (State.sealOff_sess _) rfl hp.2 hd) hx h4 h127)

/-- A denial marks its field, and beside it changes only what the end of an update may write. -/
theorem State.denied_framed (w : Who) (a : Nat) (wr : Bool) : Framed (s.mark F.SEC_STICKY_ACC_DENY_S) (s.denied w a wr) :=
  State.logC_only _ _ rfl

/-- The first denial of its window is on its way. -/
theorem State.denied_records (hw : s.rcd.wins = []) (w : Who) (a : Nat) (wr : Bool) : (s.denied w a wr).Records 0x0E01 := by
  simp [State.denied, State.logC, State.raise, State.pmbRec, rateLimited, hw, State.emit, State.stamp, State.Records]

/-- The registers are not up in CARETAKER. -/
theorem State.mode_ne_of_pathUp {p : Path} (h : s.pathUp p = true) : s.mode ≠ .caretaker := by
  intro hm
  simp [State.pathUp, State.regsUp, hm] at h

end Sys2Proof.Machine
open Sys2Proof Sys2Proof.Machine

/-- Settles O45: each clause is one outcome of a register write (`State.hostWrite_recStatus`, `State.hostWrite_rpWin_denied`,
`State.WritesOvTh.hostWrite_refused` and `hostWrite_taken`), carried over the end of the update by the frame of `settle`. -/
theorem registerAccess : Obligations.RegisterAccess := by
  unfold Obligations.RegisterAccess
  refine ⟨fun t s d x hs hp2 hd => ?_, fun t s d r hs hp2 hz hne => ?_, fun t s d r x hs hp3 hpar hz huv hof huf hx hne hd hless => ?_,
    fun t s d r x hs hp3 hpar hz huv hof huf hx hne hd hprot h4 h127 => ?_, fun t s d a p hs hp => ?_⟩
  · refine registerWrite_gives rfl (State.hostWrite_recStatus (s := s.at t) hp2 _)
      (by simp [recStatusBits, State.Calm, clearBit_pow, hs]) fun u _ hf => ?_
    have hbit : ∀ i, d.toNat.testBit (i + 1) = x.getLsbD i := fun i => by
      rw [hd, Nat.testBit_succ, Nat.mul_div_cancel _ Nat.two_pos]; rfl
    have hkeys : ∀ f ∈ recStatusBits, settleKey (f.key 0) = false := by decide
    have hget : ∀ f ∈ recStatusBits, u.get f = if d.toNat.testBit f.lo then 0 else s.get f := fun f hm =>
      (hf.get f 0 (hkeys f hm)).trans (get_recStatusBits _ _ hm)
    simp only [recStatusBits, List.forall_mem_cons] at hget
    obtain ⟨hMiss, hLost, hOver, hIntake, -⟩ := hget
    refine ⟨hMiss.trans (by rw [← hbit 3]; rfl), hIntake.trans (by rw [← hbit 0]; rfl), hLost.trans (by rw [← hbit 2]; rfl),
      hOver.trans (by rw [← hbit 1]; rfl), ?_⟩
    rw [hf.recs]
    simp [recStatusBits, clearBit_rcd]
  · refine registerWrite_gives (toNat_RP_WIN r) (State.hostWrite_rpWin_denied (s := s.at t) hp2 hz d.isLt hne)
      (by simpa [State.denied, State.Calm, State.logC] using hs) fun u _ hf => ?_
    have hframe := (State.denied_framed _ _ _).trans hf
    refine ⟨?_, ?_, fun hwins => hf.records (State.denied_records (s := s.at t) hwins _ _ _), ?_⟩
    · rw [hframe.get _ _ (settleKey_OV_TH r), State.mark_eq, State.get_set_of_ne _ _ _ _ _ _ (key_OV_TH_ne r), State.get_at]
    · rw [hframe.get _ _ (by decide), State.mark_eq, State.get_set_self]
      rfl
    · exact (hframe.changes (Changes.set (f := F.SEC_STICKY_ACC_DENY_S) (i := 0) (List.mem_singleton.2 rfl) (by decide) (by decide) 1)).of_at
  · have hover : (s.at t).WritesOvTh r x d.toNat := ⟨hz, huv, hof, huf, hx, hne, hd⟩
    have hw := hover.hostWrite_refused hp3 hpar hless
    have hrep := State.logF_reported (s := s.at t) (code := 0x0104) rfl (State.mode_ne_of_pathUp (s := s) hp3.1) 0
      [(2, (0x3100 + 32 * r.val : Nat)), (1, Person.p3.code)]
    have hframe := State.logF_only (s.at t) (code := 0x0104) (unit := 0) [(2, (0x3100 + 32 * r.val : Nat)), (1, Person.p3.code)] .none rfl
    generalize (s.at t).logF 0x0104 0 [(2, (0x3100 + 32 * r.val : Nat)), (1, Person.p3.code)] = y at hw hrep hframe
    have hcalm : y.Calm := (congrArg (fun x : State => x.pow.wantSafestopClr) hframe.rest).trans hs
    refine registerWrite_gives (toNat_RP_WIN r) hw hcalm fun u hu hf => ?_
    obtain ⟨c, hc, hcode, -⟩ := hrep.registerWrite (toNat_RP_WIN r) hw hcalm hu
    refine ⟨(hframe.trans hf).get _ _ (settleKey_OV_TH r), .inl ?_, ((hframe.trans hf).changes (Changes.refl ..)).of_at⟩
    exact List.any_eq_true.2 ⟨c, hc, by simpa using hcode⟩
  · have hover : (s.at t).WritesOvTh r x d.toNat := ⟨hz, huv, hof, huf, hx, hne, hd⟩
    refine registerWrite_gives (toNat_RP_WIN r) (hover.hostWrite_taken hp3 hpar hprot h4 h127) hs fun u _ hf =>
      ⟨?_, (hf.changes (Changes.set (List.mem_cons_self ..) rfl r.isLt x)).of_at⟩
    rw [hf.get _ _ (settleKey_OV_TH r), State.get_set_self]
    exact Nat.mod_eq_of_lt hx
  · have hw : (s.at t).hostWrite p a.toNat d.toNat = s.at t := if_neg (by rw [show (s.at t).pathUp p = false from hp]; decide)
    exact registerWrite_gives rfl hw hs fun u _ hf => (hf.changes (Changes.refl ..)).of_at
end


section
/-!
The two statements that the model does not meet: for each, a state, a command, and the outcome that the model evaluates to.
-/
namespace Sys2Proof.Machine

/-- The access of a STORE_WR of rail 0 by a session, its word with bit 31 (FORCE_EN) set. -/
def storeWrForceEn (s : State) : State := s.hostWrite .sess 0x1030 0x80008000

/-- SOFTSTART with no rail in RAMP. -/
def softstartDone : State := State.second.cm.md .softstart

end Sys2Proof.Machine
open Sys2Proof Sys2Proof.Machine

/-- Refutes O57: STORE_WR writes the whole of SET_CTRL, so a session's word with bit 31 set also takes FORCE_EN (R515), a field that
the frame of STORE_WR does not name. -/
theorem not_frameOfWriteCommands : ¬ Obligations.FrameOfWriteCommands := by
  unfold Obligations.FrameOfWriteCommands
  rintro ⟨hStoreWr, -⟩
  obtain ⟨u, hu, hframe, -, -⟩ := run_next 0 storeWrForceEn at_RailEngine_8 (by decide +kernel)
  have hkept : u.get F.SET_CTRL_FORCE_EN = at_RailEngine_8.get F.SET_CTRL_FORCE_EN :=
    (hStoreWr 0 .sess 0 0x80000000 at_RailEngine_8 u (by decide +kernel) hu).regs _ (by decide) (by decide)
  have htaken : (storeWrForceEn (at_RailEngine_8.at 0)).get F.SET_CTRL_FORCE_EN ≠ at_RailEngine_8.get F.SET_CTRL_FORCE_EN := by
    decide +kernel
  exact htaken ((hframe.get F.SET_CTRL_FORCE_EN 0 (by decide)).symm.trans hkept)

/-- Refutes O60: its clause of PLL_UNLOCK keeps the mode of every state that is not DORMANT, but the end of an update takes SOFTSTART
with no rail in RAMP to REGULATE (T10, R75), whatever the command. -/
theorem not_writesAndClocksComplete : ¬ Obligations.WritesAndClocksComplete := by
  unfold Obligations.WritesAndClocksComplete
  rintro ⟨-, -, -, -, -, -, -, hUnlock, -⟩
  obtain ⟨u, hu, -, -, hkept⟩ := hUnlock 0 softstartDone .front 0 (by decide +kernel) (by decide +kernel) (by decide) (by decide)
  obtain ⟨x, hx, hmode, -⟩ := run_settled 0 (State.pllUnlock · .front 0) u hu
  have hleft : (settle (softstartDone.at 0) ((softstartDone.at 0).pllUnlock .front 0)).mode ≠ softstartDone.mode := by decide +kernel
  rw [← hx, ← hmode] at hleft
  exact hleft hkept
end


section
/-!
A command by its effect: the answer of `run`, the frames of the least effects, the register fields that keep a key apart.
-/
namespace Sys2Proof.Machine

variable {b s x : State} {P Q : State → Prop} {i : Instr} {t : Nat} {f : State → State}

theorem Gives.mono (h : Gives i s P) (hPQ : ∀ u, P u → Q u) : Gives i s Q := by
  obtain ⟨u, hu, hP⟩ := h
  exact ⟨u, hu, hPQ u hP⟩

/-- A command that runs an effect answers the state that the effect leaves, then the end of the update. -/
theorem run_gives (hi : exec i s = run t f s) (hx : f (s.at t) = x) (hc : x.Calm) (hP : ∀ u, run t f s = .next u → Framed x u → P u) :
    Gives i s P := by
  subst hx
  obtain ⟨u, hu, hf, -, -⟩ := run_next t f s hc
  exact ⟨u, hi.trans hu, hP u hu hf⟩

/-- An effect that leaves the state as it is changes nothing. -/
theorem run_idle (hi : exec i s = run t f s) (hx : f (s.at t) = s.at t) (hc : s.Calm) : Gives i s (Changes [] [] s) :=
  run_gives hi hx hc fun _ _ hf => (hf.changes (Changes.refl ..)).of_at

/-- The registers after a command are those that `settle` leaves. -/
theorem run_get {u : State} (h : run t f s = .next u) (g : Fld) (j : Nat) : u.get g j = (settle (s.at t) (f (s.at t))).get g j := by
  cases h
  generalize settle (s.at t) (f (s.at t)) = y
  rfl
theorem run_level {u : State} (h : run t f s = .next u) (n : Fin 32) : u.level n = (settle (s.at t) (f (s.at t))).level n := by
  unfold State.level
  simp only [run_get h]

theorem Framed.calm (h : Framed b s) : s.pow.wantSafestopClr = b.pow.wantSafestopClr :=
  show s.rest.pow.wantSafestopClr = b.rest.pow.wantSafestopClr by rw [h.rest]
theorem Framed.cdUp (h : Framed b s) : s.pow.cdUp = b.pow.cdUp := show s.rest.pow.cdUp = b.rest.pow.cdUp by rw [h.rest]

/-- The field lies inside its register, and no instance of it is kept under the key. -/
def Fld.off (f : Fld) (k : Nat) : Bool := f.fits && !f.hasKey k
theorem Fld.key_ne {f : Fld} {i k : Nat} (hf : f.off k = true) (hi : i < f.count) : k ≠ f.key i := by
  simp only [Fld.off, Bool.and_eq_true, Bool.not_eq_true'] at hf
  obtain ⟨hfit, hk⟩ := hf
  rintro rfl
  rw [Fld.hasKey_key f i hfit hi] at hk
  cases hk

end Sys2Proof.Machine
end


section
/-!
O18: in PRECHECK, SERVICE and the running modes a loss of the Control die is a takeover where a rail switches (T15) and an entry to WAKE
where none does (T16); the end of the update keeps both.
-/
namespace Sys2Proof.Machine

variable {b s x : State}

/-- What a takeover needs to find after the effects that come before it, and its statement after: no SAFESTOP_CLR request, the use of the
Conjunction Link, the loop-port fault, the mode. -/
structure Steered (b s : State) : Prop where
  mode : s.mode = b.mode
  calm : s.pow.wantSafestopClr = b.pow.wantSafestopClr
  link : s.get F.CJ_CFG_CJ_EN = b.get F.CJ_CFG_CJ_EN
  fault : s.get F.BRIDGE_STATUS_LP_FAULT = b.get F.BRIDGE_STATUS_LP_FAULT

theorem Steered.refl (s : State) : Steered s s := ⟨rfl, rfl, rfl, rfl⟩
theorem Steered.trans {a : State} (h : Steered a b) (g : Steered b s) : Steered a s :=
  ⟨g.mode.trans h.mode, g.calm.trans h.calm, g.link.trans h.link, g.fault.trans h.fault⟩
theorem Framed.steered (h : Framed b s) (hm : s.mode = b.mode) : Steered b s := ⟨hm, h.calm, h.get _ _ (by decide), h.get _ _ (by decide)⟩

/-- A register field kept apart from the two. -/
def Fld.steersNot (f : Fld) : Bool := f.off (F.CJ_CFG_CJ_EN.key 0) && f.off (F.BRIDGE_STATUS_LP_FAULT.key 0)
theorem Steered.set (h : Steered b s) {f : Fld} {i v : Nat} (hf : f.steersNot = true) (hi : i < f.count) : Steered b (s.set f i v) := by
  obtain ⟨hlink, hfault⟩ := (Bool.and_eq_true ..).mp hf
  exact ⟨h.mode, h.calm, (State.get_set_of_ne _ _ _ _ _ _ (Fld.key_ne hlink hi)).trans h.link,
    (State.get_set_of_ne _ _ _ _ _ _ (Fld.key_ne hfault hi)).trans h.fault⟩
theorem Steered.modPh (h : Steered b s) {n : Fin 32} {f : Phase → Phase} : Steered b (s.modPh n f) := ⟨h.mode, h.calm, h.link, h.fault⟩
theorem Steered.modRail (h : Steered b s) {r : Fin 8} {f : Rail → Rail} : Steered b (s.modRail r f) := ⟨h.mode, h.calm, h.link, h.fault⟩
theorem Steered.foldl {α : Type} {f : State → α → State} {l : List α} (h : Steered b s) (hf : ∀ x a, Steered b x → Steered b (f x a)) :
    Steered b (l.foldl f s) :=
  List.foldlRecOn l f h fun x hx a _ => hf x a hx
theorem Steered.raise (h : Steered b s) {front : Bool} {code unit : Nat} {items : List (Nat × Int)} {react : React}
    (hc : pageOk code unit = true) : Steered b (s.raise front code unit items react) :=
  h.trans ((State.raise_only s front items react hc).steered (State.raise_mode ..))

/-! ## What a Control-die reset leaves -/

/-- The same, and the rail states. -/
structure Carried (b s : State) : Prop where
  steered : Steered b s
  held : Held b s

theorem Carried.refl (s : State) : Carried s s := ⟨.refl s, .refl s⟩
theorem Carried.trans {a : State} (h : Carried a b) (g : Carried b s) : Carried a s := ⟨h.steered.trans g.steered, h.held.trans g.held⟩
theorem Carried.of_framed (hf : Framed b s) (hh : Held b s) : Carried b s := ⟨hf.steered hh.mode, hh⟩
theorem Carried.set (h : Carried b s) {f : Fld} {i v : Nat} (hf : f.steersNot = true) (hi : i < f.count) : Carried b (s.set f i v) :=
  ⟨h.steered.set hf hi, h.held.set ..⟩
theorem Carried.modPh (h : Carried b s) {n : Fin 32} {f : Phase → Phase} : Carried b (s.modPh n f) := ⟨h.steered.modPh, h.held.modPh ..⟩
theorem Carried.ite {c : Prop} [Decidable c] {y : State} (hx : Carried b x) (hy : Carried b y) : Carried b (if c then x else y) := by
  split <;> assumption
theorem Carried.when (h : Carried b s) {c : Bool} {f : State → State} (hf : ∀ x, Carried b x → Carried b (f x)) : Carried b (s.when c f) :=
  .ite (hf _ h) h
theorem Carried.foldl {α : Type} {f : State → α → State} {l : List α} (h : Carried b s) (hf : ∀ x a, Carried b x → Carried b (f x a)) :
    Carried b (l.foldl f s) :=
  List.foldlRecOn l f h fun x hx a _ => hf x a hx
theorem Carried.raise (h : Carried b s) {front : Bool} {code unit : Nat} {items : List (Nat × Int)} {react : React}
    (hc : pageOk code unit = true) : Carried b (s.raise front code unit items react) :=
  ⟨h.steered.raise hc, State.raise_held _ _ _ _ _ h.held⟩
/-- The registers, the mode and the rails are as they were, and so is what the power sequencer still has to do. -/
theorem Carried.withParts (h : Carried b s) {now pending cz1604 img pow br par sets mirPh mirRail phases ports rcd spi pmb cj otp sec tlm jrn
    pk th ctx0 ctxs rings code entry} (hw : pow.wantSafestopClr = s.pow.wantSafestopClr) (hs : pow.stopSet = s.pow.stopSet) :
    Carried b ⟨now, pending, cz1604, s.mode, s.regs, img, pow, br, par, sets, mirPh, mirRail, phases, s.rails, ports, rcd, spi, pmb, cj, otp,
      sec, tlm, jrn, pk, th, ctx0, ctxs, rings, code, entry⟩ :=
  ⟨⟨h.steered.mode, hw.trans h.steered.calm, h.steered.link, h.steered.fault⟩, ⟨h.held.mode, h.held.st, hs.trans h.held.stop⟩⟩

theorem Carried.discards (h : Carried b s) : Carried b (s.onRails fun s r => s.discard r 1) :=
  h.foldl fun x r hx => hx.trans (.of_framed (State.discard_framed r 1 (.refl x)) (State.discard_held r 1 (.refl x)))
/-- A reset ends a session without the end of SERVICE. -/
theorem State.endSession_reset (s : State) {cause : Nat} (hc : cause = 6 ∨ cause = 7) : s.endSession cause =
    if s.sec.st = 2 then State.logC { s with sec := s.sec.ended } 0x0E03 0 [(2, s.sec.sid), (2, cause)]
    else if s.sec.st = 1 then { s with sec := s.sec.ended } else s := by
  have hn : ∀ m : Mode, (m == .service && cause != 6 && cause != 7) = false := by rcases hc with rfl | rfl <;> simp
  have ha : (cause == 2 || cause == 3 || cause == 4) = false := by rcases hc with rfl | rfl <;> rfl
  unfold State.endSession
  dsimp only
  rw [hn, State.when_false, ha, Bool.and_false, if_neg (by decide)]
theorem Carried.endSession (h : Carried b s) {cause : Nat} (hc : cause = 6 ∨ cause = 7) : Carried b (s.endSession cause) := by
  rw [State.endSession_reset s hc]
  exact .ite ((h.withParts rfl rfl).raise (by rfl)) (.ite (h.withParts rfl rfl) h)
theorem Carried.dropHints (h : Carried b s) : Carried b s.dropHints :=
  h.foldl fun x r hx => hx.trans (.of_framed (State.putF_framed r (State.putHints_framed r [] (.refl x)))
    (State.putF_held r (State.putHints_held r [] (.refl x))))
theorem Carried.jrnAbandon (h : Carried b s) : Carried b s.jrnAbandon := by
  unfold State.jrnAbandon
  split
  · exact h
  · exact (h.set (f := F.JRN_STATUS_BUSY) (i := 0) (by decide) (by decide)).withParts rfl rfl
theorem Carried.dropCommit (h : Carried b s) : Carried b s.dropCommit :=
  Carried.withParts (Carried.set (h.jrnAbandon.set (f := F.JRN_STATUS_DEFER) (i := 0) (by decide) (by decide))
    (f := F.JRN_STATUS_DEFER_CAUSE) (i := 0) (by decide) (by decide)) rfl rfl
theorem Carried.dropMailbox (h : Carried b s) : Carried b s.dropMailbox := h.withParts rfl rfl
theorem Carried.dropLinks (h : Carried b s) : Carried b s.dropLinks := h.withParts rfl rfl
theorem Carried.controlReset (h : Carried b s) {c : CtCause} : Carried b (s.controlReset c) := by
  unfold State.controlReset
  extract_lets dropped unreserved
  have hd : Carried b dropped := (h.endSession (.inr rfl)).dropMailbox.dropHints.dropCommit.dropLinks
  have hu : Carried b unreserved := hd.foldl fun _ _ hx => hx.modPh
  clear_value unreserved
  exact hu.withParts rfl rfl
theorem State.controlReset_cdUp (c : CtCause) : (s.controlReset c).pow.cdUp = false := rfl

/-! ## The takeover -/

theorem Steered.withParts (h : Steered b s) {now pending cz1604 img pow br par sets mirPh mirRail phases rails ports rcd spi pmb cj otp sec
    tlm jrn pk th ctx0 ctxs rings code entry} (hw : pow.wantSafestopClr = s.pow.wantSafestopClr) :
    Steered b ⟨now, pending, cz1604, s.mode, s.regs, img, pow, br, par, sets, mirPh, mirRail, phases, rails, ports, rcd, spi, pmb, cj, otp,
      sec, tlm, jrn, pk, th, ctx0, ctxs, rings, code, entry⟩ :=
  ⟨h.mode, hw.trans h.calm, h.link, h.fault⟩

/-- What a rail's way to OFF does beside the change of state. -/
theorem State.railOff_after (s : State) (r : Fin 8) :
    Held (s.setRail r .off) (s.railOff r) ∧ (s.railOff r).pow = (s.setRail r .off).pow := by
  unfold State.railOff State.railRest State.setSen
  generalize s.setRail r .off = x
  exact ⟨(((((Held.refl x).setB ..).modEng ..).modFr ..).clear .. |>.clear ..).modEng .., rfl⟩
theorem State.railOff_mode (r : Fin 8) : (s.railOff r).mode = s.mode := (s.railOff_after r).1.mode.trans (State.setRail_mode r .off)
theorem State.railOff_pow (r : Fin 8) : (s.railOff r).pow = s.pow := (s.railOff_after r).2.trans (State.setRail_pow r .off)
theorem State.railOff_st_other (r q : Fin 8) (h : q ≠ r) : (s.railOff r).st q = s.st q :=
  ((s.railOff_after r).1.st q).trans (State.setRail_st_other r q .off h)
theorem State.disarm_mode (r : Fin 8) : (s.disarm r).mode = s.mode := by
  unfold State.disarm
  split
  · exact State.railOff_mode r
  · exact State.railOff_mode r
  · rfl
theorem State.disarm_pow (r : Fin 8) : (s.disarm r).pow = s.pow := by
  unfold State.disarm
  split
  · exact State.railOff_pow r
  · exact State.railOff_pow r
  · rfl
theorem State.disarm_st (r q : Fin 8) (h : s.st q ≠ .armed ∧ s.st q ≠ .hiccup ∨ q ≠ r) : (s.disarm r).st q = s.st q := by
  unfold State.disarm
  by_cases hq : q = r
  · subst hq
    obtain ⟨ha, hh⟩ := h.resolve_right (· rfl)
    split
    · exact absurd ‹_› ha
    · exact absurd ‹_› hh
    · rfl
  · split
    · exact State.railOff_st_other r q hq
    · exact State.railOff_st_other r q hq
    · rfl

/-- One rail at the takeover (R326): held by the Pronoun loop where it switches, else no longer in the run. -/
def State.takeRail (s : State) (r : Fin 8) : State :=
  if (s.st r).switching then
    let de := s.flag F.PHC_STATUS_DE_ACT r
    let was := s.st r
    let s := s.modFr r (fun f => { f with
      takenIn := was, ctDe := de, handed := false, dutyGood := 0
      pgAt := if was == .reg || was == .shed then f.pgAt else s.now })
    s.modRail r (fun x => { x with st := .caretaken })
  else s.disarm r

theorem Steered.takeRail (h : Steered b s) {r : Fin 8} : Steered b (s.takeRail r) := by
  unfold State.takeRail
  split
  · exact h.modRail.modRail
  · exact h.trans ((State.disarm_framed r (.refl s)).steered (State.disarm_mode r))
theorem State.takeRail_pow (r : Fin 8) : (s.takeRail r).pow = s.pow := by
  unfold State.takeRail
  split
  · rfl
  · exact State.disarm_pow r
theorem State.takeRail_st_self (r : Fin 8) (h : (s.st r).switching = true) : (s.takeRail r).st r = .caretaken := by
  unfold State.takeRail
  rw [if_pos h]
  simp [State.st]
theorem State.takeRail_st_other (r q : Fin 8) (h : q ≠ r) : (s.takeRail r).st q = s.st q := by
  unfold State.takeRail
  split
  · simp only [State.st, State.modFr, State.rail_modRail_of_ne _ _ _ _ h]
  · exact State.disarm_st r q (.inr h)
theorem State.takeRail_st_held (r q : Fin 8) (h : s.st q = .caretaken) : (s.takeRail r).st q = .caretaken := by
  by_cases hq : q = r
  · subst hq
    unfold State.takeRail
    rw [if_neg (by rw [h]; decide), State.disarm_st q q (.inl (by rw [h]; decide)), h]
  · rw [State.takeRail_st_other r q hq, h]

/-- Every switching rail of the list is held after its turn. -/
theorem State.takeRails_st (q : Fin 8) : ∀ (l : List (Fin 8)) (s : State), s.st q = .caretaken ∨ (s.st q).switching = true ∧ q ∈ l →
    (l.foldl State.takeRail s).st q = .caretaken
  | [], s, h => h.resolve_right fun hq => List.not_mem_nil hq.2
  | a :: l, s, h => by
    refine State.takeRails_st q l _ ?_
    rcases h with h | ⟨hsw, hmem⟩
    · exact .inl (State.takeRail_st_held a q h)
    · by_cases hq : q = a
      · subst hq
        exact .inl (State.takeRail_st_self q hsw)
      · exact .inr ⟨by rw [State.takeRail_st_other a q hq, hsw], (List.mem_cons.1 hmem).resolve_left hq⟩

/-- The rails of a takeover, and what goes with them. -/
theorem State.takeRails_held (r : Fin 8) (h : (s.st r).switching = true) : (s.onRails State.takeRail).st r = .caretaken :=
  State.takeRails_st r allRails s (.inr ⟨h, (by decide : ∀ r, r ∈ allRails) r⟩)
theorem Steered.takeRails (h : Steered b s) : Steered b (s.onRails State.takeRail) := h.foldl fun _ _ hx => hx.takeRail
theorem State.takeRails_pow : (s.onRails State.takeRail).pow = s.pow :=
  List.foldlRecOn (motive := fun x => x.pow = s.pow) allRails State.takeRail rfl fun _ hx r _ => (State.takeRail_pow r).trans hx

/-- What the Pronoun loop has taken over from `s` (R84, R325, R326). -/
structure TakenOver (s : State) (c : CtCause) (u : State) : Prop where
  mode : u.mode = .caretaker
  cdUp : u.pow.cdUp = false
  active : u.get F.CT_STATUS_CT_ACT = 1
  held : ∀ r, (s.st r).switching = true → u.st r = .caretaken
  cause : u.get F.CT_STATUS_CT_CAUSE = c.code
  fault : u.get F.BRIDGE_STATUS_LP_FAULT = s.get F.BRIDGE_STATUS_LP_FAULT

/-- The registers that tell of a takeover. -/
def State.ctMarked (s : State) (c : CtCause) (mask : Nat) : State :=
  (((s.mark F.CT_STATUS_CT_ACT).set F.CT_STATUS_CT_CAUSE 0 c.code).set F.CT_STATUS_CT_RAILS 0 mask).set F.CT_STATUS_ADOPT_RES 0 0
theorem Steered.ctMarked (h : Steered b s) {c : CtCause} {mask : Nat} : Steered b (s.ctMarked c mask) :=
  (((h.set (f := F.CT_STATUS_CT_ACT) (i := 0) (by decide) (by decide)).set (f := F.CT_STATUS_CT_CAUSE) (i := 0) (by decide) (by decide)).set
    (f := F.CT_STATUS_CT_RAILS) (i := 0) (by decide) (by decide)).set (f := F.CT_STATUS_ADOPT_RES) (i := 0) (by decide) (by decide)
theorem State.ctMarked_pow (c : CtCause) (mask : Nat) : (s.ctMarked c mask).pow = s.pow := rfl
theorem State.ctMarked_st (c : CtCause) (mask : Nat) (r : Fin 8) : (s.ctMarked c mask).st r = s.st r := rfl
theorem State.ctMarked_act (c : CtCause) (mask : Nat) : (s.ctMarked c mask).get F.CT_STATUS_CT_ACT = 1 := by
  simp (decide := true) [State.ctMarked, State.get_set]
theorem State.ctMarked_cause (c : CtCause) (mask : Nat) : (s.ctMarked c mask).get F.CT_STATUS_CT_CAUSE = c.code := by
  have hc : c.code % 2 ^ F.CT_STATUS_CT_CAUSE.width = c.code := by cases c <;> rfl
  simp (decide := true) [State.ctMarked, State.get_set, hc]

/-- A takeover of a state with a rail that switches. -/
theorem State.takeover_takes (s : State) (c : CtCause) (hd : s.pow.cdUp = false) (hc : s.Calm) (hl : s.flag F.CJ_CFG_CJ_EN = false) :
    TakenOver s c (s.takeover c) ∧ (s.takeover c).Still := by
  unfold State.takeover
  extract_lets held mask svc taken marked pow timed entered
  have htaken : taken = s.onRails State.takeRail := rfl
  have hmarked : marked = taken.ctMarked c mask := rfl
  clear_value marked taken
  have hs : Steered s marked := by rw [hmarked, htaken]; exact (Steered.refl s).takeRails.ctMarked
  have hp : marked.pow = s.pow := by rw [hmarked, htaken, State.ctMarked_pow, State.takeRails_pow]
  have hst : ∀ r, (s.st r).switching = true → marked.st r = .caretaken := fun r hr => by
    rw [hmarked, htaken, State.ctMarked_st, State.takeRails_held r hr]
  have ha : marked.get F.CT_STATUS_CT_ACT = 1 := by rw [hmarked, State.ctMarked_act]
  have hcause : marked.get F.CT_STATUS_CT_CAUSE = c.code := by rw [hmarked, State.ctMarked_cause]
  clear hmarked htaken
  have hf : Framed timed (entered.logF 0x0B01 0 [(1, (c.code : Int)), (1, (mask : Int)), (2, 0)]) :=
    (State.enter_framed 15 .caretaker (.refl timed)).trans (State.logF_only _ _ _ rfl)
  have hm : (entered.logF 0x0B01 0 [(1, (c.code : Int)), (1, (mask : Int)), (2, 0)]).mode = .caretaker := by
    simp [State.logF, entered, State.enter]
  have hr : ∀ r, (entered.logF 0x0B01 0 [(1, (c.code : Int)), (1, (mask : Int)), (2, 0)]).st r = marked.st r := fun r =>
    (State.raise_st ..).trans (State.enter_st ..)
  have hpow : (entered.logF 0x0B01 0 [(1, (c.code : Int)), (1, (mask : Int)), (2, 0)]).pow = timed.pow := by
    simp [State.logF, entered, State.enter]
  refine ⟨⟨hm, ?_, (hf.get _ _ (by decide)).trans ha, fun r h => (hr r).trans (hst r h), (hf.get _ _ (by decide)).trans hcause,
    (hf.get _ _ (by decide)).trans hs.fault⟩, ?_, ?_, ?_⟩
  · rw [hpow]; exact (congrArg Power.cdUp hp).trans hd
  · rw [hpow]; exact (congrArg Power.wantSafestopClr hp).trans hc
  · unfold State.flag at hl ⊢
    rw [hf.get _ _ (by decide)]
    exact (congrArg (· != 0) hs.link).trans hl
  · rw [hpow]

/-! ## The loss -/

/-- PRECHECK, SERVICE and the running modes are none of the modes in which a loss has another outcome. -/
theorem Mode.live_ne {m : Mode} (h : m = .precheck ∨ m = .service ∨ m.running = true) :
    m ∉ [Mode.dormant, .wake, .caretaker, .safestop, .parse] := by
  revert h
  cases m <;> simp [Mode.running]
theorem Mode.awake_of_live {m : Mode} (h : m = .precheck ∨ m = .service ∨ m.running = true) : (m == .dormant || m == .wake) = false := by
  have := Mode.live_ne h
  simp_all

/-- In PRECHECK, SERVICE and the running modes a loss is T15 or T16 (R325). -/
theorem State.lose_live (s : State) (c : CtCause) (hm : s.mode = .precheck ∨ s.mode = .service ∨ s.mode.running = true) : s.lose c =
    let x := (s.onRails fun s r => s.discard r 1).controlReset c
    if allRails.any (fun r => (x.st r).switching) then x.takeover c else (x.set F.CT_STATUS_CT_CAUSE 0 c.code).wakeEntry 16 := by
  have hd : (s.onRails fun s r => s.discard r 1).mode = s.mode := ((Carried.refl s).discards).held.mode
  unfold State.lose
  generalize (s.onRails fun s r => s.discard r 1) = x at hd ⊢
  have hne : ∀ m, x.mode = m → m ∉ [Mode.dormant, .wake, .caretaker, .safestop, .parse] := by
    rintro m rfl
    rw [hd]
    exact Mode.live_ne hm
  dsimp only
  split
  · exact (hne _ ‹_› (by decide)).elim
  · exact (hne _ ‹_› (by decide)).elim
  · exact (hne _ ‹_› (by decide)).elim
  · exact (hne _ ‹_› (by decide)).elim
  · exact (hne _ ‹_› (by decide)).elim
  · rfl

/-- The state in which the Control die is reset. -/
theorem State.lost_carried (s : State) (c : CtCause) : Carried s ((s.onRails fun s r => s.discard r 1).controlReset c) :=
  ((Carried.refl s).discards).controlReset

theorem Held.any_switching (h : Held b s) : allRails.any (fun r => (s.st r).switching) = allRails.any (fun r => (b.st r).switching) := by
  simp only [h.st]

/-- T15. -/
theorem State.lose_takes (s : State) (c : CtCause) (hs : s.Still) (hm : s.mode = .precheck ∨ s.mode = .service ∨ s.mode.running = true)
    (hsw : allRails.any (fun r => (s.st r).switching) = true) : TakenOver s c (s.lose c) ∧ (s.lose c).Still := by
  have hc := s.lost_carried c
  have hd : ((s.onRails fun s r => s.discard r 1).controlReset c).pow.cdUp = false := rfl
  rw [State.lose_live s c hm]
  generalize (s.onRails fun s r => s.discard r 1).controlReset c = x at hc hd ⊢
  obtain ⟨hcalm, hlink, -⟩ := hs
  obtain ⟨htaken, hstill⟩ := State.takeover_takes x c hd (hc.steered.calm.trans hcalm) ((congrArg (· != 0) hc.steered.link).trans hlink)
  dsimp only
  rw [if_pos (hc.held.any_switching.trans hsw)]
  exact ⟨{ htaken with held := fun r hr => htaken.held r (by rw [hc.held.st, hr]), fault := htaken.fault.trans hc.steered.fault }, hstill⟩

/-- The end of the update keeps a takeover. -/
theorem TakenOver.run {c : CtCause} {t : Nat} {f : State → State} {i : Instr} {y : State} (hi : exec i s = run t f s)
    (h : TakenOver y c (f (s.at t))) (hs : (f (s.at t)).Still) : Gives i s (TakenOver y c) := by
  obtain ⟨hcalm, hlink, hstop⟩ := hs
  obtain ⟨u, hu, hf, -, -⟩ := run_next t f s hcalm
  refine ⟨u, hi.trans hu, ?_, hf.cdUp.trans h.cdUp, (hf.get _ _ (by decide)).trans h.active, fun r hr => ?_,
    (hf.get _ _ (by decide)).trans h.cause, (hf.get _ _ (by decide)).trans h.fault⟩
  · rw [run_mode t f u hu hcalm hlink (by rw [h.mode]; rfl), h.mode]
  · have hst := h.held r hr
    rw [run_st t f u r hu hcalm hlink hstop (by simp [State.mayArm, hst]) (by rw [hst]; decide) (by rw [hst]; decide), hst]

/-! ## T16 -/

/-- Dropping keys leaves a key alone or takes it out. -/
theorem Store.get_drop (m : Store) (p : Nat → Bool) (k : Nat) : (m.drop p).get k = if p k then 0 else m.get k := by
  induction m with
  | nil => simp [Store.drop, Store.get]
  | cons e m ih =>
    obtain ⟨a, v⟩ := e
    unfold Store.drop at ih ⊢
    by_cases hp : p a <;> by_cases ha : a = k <;> simp_all [Store.get]

/-- A reset of registers leaves 0 where 0 stood, in a field whose reset value is 0. -/
theorem resetRegs_get_zero (m : Store) (p : Fld → Bool) (k : Nat) (hm : m.get k = 0)
    (hk : ∀ f ∈ allFields, f.reset ≠ 0 → ∀ i < f.count, k ≠ f.key i) : (resetRegs m p).get k = 0 := by
  unfold resetRegs
  extract_lets kept
  have hkept : kept.get k = 0 := by simp only [kept, Store.get_drop, hm, ite_self]
  refine List.foldlRecOn (motive := fun x : Store => x.get k = 0) _ _ hkept fun x hx f hf => ?_
  obtain ⟨hmem, hres⟩ := List.mem_filter.1 hf
  refine List.foldlRecOn (motive := fun x : Store => x.get k = 0) _ _ hx fun y hy i hi => ?_
  rw [Store.get_set_of_ne _ _ (hk f hmem (by simp at hres; exact hres.1) i (List.mem_range.1 hi)), hy]

theorem linkKey_reset : ∀ f ∈ allFields, f.reset ≠ 0 → ∀ i < f.count, F.CJ_CFG_CJ_EN.key 0 ≠ f.key i := by decide +kernel

/-- What the entry to WAKE does after its reset leaves alone: the rails, the power sequencer, the use of the Conjunction Link. -/
structure Rested (b s : State) : Prop where
  rails : s.rails = b.rails
  pow : s.pow = b.pow
  link : s.get F.CJ_CFG_CJ_EN = b.get F.CJ_CFG_CJ_EN

theorem Rested.refl (s : State) : Rested s s := ⟨rfl, rfl, rfl⟩
theorem Rested.set (h : Rested b s) {f : Fld} {i v : Nat} (hf : f.off (F.CJ_CFG_CJ_EN.key 0) = true) (hi : i < f.count) :
    Rested b (s.set f i v) :=
  ⟨h.rails, h.pow, (State.get_set_of_ne _ _ _ _ _ _ (Fld.key_ne hf hi)).trans h.link⟩
theorem Rested.withParts (h : Rested b s) {now pending cz1604 mode img br par sets mirPh mirRail phases ports rcd spi pmb cj otp sec tlm jrn
    pk th ctx0 ctxs rings code entry} :
    Rested b ⟨now, pending, cz1604, mode, s.regs, img, s.pow, br, par, sets, mirPh, mirRail, phases, s.rails, ports, rcd, spi, pmb, cj, otp,
      sec, tlm, jrn, pk, th, ctx0, ctxs, rings, code, entry⟩ := ⟨h.rails, h.pow, h.link⟩
theorem Rested.load (h : Rested b s) {f : Fld} {i v : Nat} (hf : f.off (F.CJ_CFG_CJ_EN.key 0) = true) (hi : i < f.count) :
    Rested b (s.load f i v) :=
  (h.set (v := v) hf hi).withParts
theorem Rested.ite {c : Prop} [Decidable c] {y : State} (hx : Rested b x) (hy : Rested b y) : Rested b (if c then x else y) := by
  split <;> assumption
theorem Rested.when (h : Rested b s) {c : Bool} {f : State → State} (hf : ∀ x, Rested b x → Rested b (f x)) : Rested b (s.when c f) :=
  .ite (hf _ h) h
theorem Rested.foldl {α : Type} {f : State → α → State} {l : List α} (h : Rested b s) (hf : ∀ x a, a ∈ l → Rested b x → Rested b (f x a)) :
    Rested b (l.foldl f s) :=
  List.foldlRecOn l f h fun x hx a ha => hf x a ha hx
theorem Rested.onPhases (h : Rested b s) {f : State → Fin 32 → State} (hf : ∀ x n, Rested b x → Rested b (f x n)) :
    Rested b (s.onPhases f) := h.foldl fun x n _ => hf x n
theorem Rested.logC (h : Rested b s) {code unit : Nat} {items : List (Nat × Int)} (hc : pageOk code unit = true) :
    Rested b (s.logC code unit items) :=
  ⟨(State.raise_rails ..).trans h.rails, (State.raise_pow ..).trans h.pow, ((State.logC_only s items hc).get _ _ (by decide)).trans h.link⟩
theorem Rested.enter (h : Rested b s) {n : Nat} {m : Mode} : Rested b (s.enter n m) :=
  ⟨(State.raise_rails ..).trans h.rails, (State.raise_pow ..).trans h.pow, ((State.enter_framed n m (.refl s)).get _ _ (by decide)).trans h.link⟩

theorem Rested.keepMarked (h : Rested b s) {old : State} : Rested b (s.keepMarked old) :=
  .when (.when (.when h fun _ hx => hx.onPhases fun _ n hy => hy.set (f := F.PH_STATE_FAIL_CNT) (by decide) n.isLt) fun _ hx =>
    hx.onPhases fun _ n hy => (hy.load (f := F.PH_CAL_CAL_GAIN) (by decide) n.isLt).load (f := F.PH_CAL_CAL_OFS) (by decide) n.isLt)
    fun _ hx => hx.set (f := F.JRN_CAP_C_MEAS) (by decide) (by decide)
theorem Rested.endSession (h : Rested b s) {cause : Nat} (hc : cause = 6 ∨ cause = 7) : Rested b (s.endSession cause) := by
  rw [State.endSession_reset s hc]
  exact .ite (h.withParts.logC (by decide)) (.ite h.withParts h)
theorem sensReg_offLink : ∀ k < 47, (sensReg k).failed.off (F.CJ_CFG_CJ_EN.key 0) = true ∧ (sensReg k).i < (sensReg k).failed.count := by
  decide
theorem Rested.sensorsFresh (h : Rested b s) : Rested b s.sensorsFresh :=
  .foldl h.withParts fun _ k hk hx =>
    have ⟨hoff, hcount⟩ := sensReg_offLink k (List.mem_range.1 hk)
    hx.set hoff hcount
theorem Rested.jrnWake (h : Rested b s) : Rested b s.jrnWake := .ite h (.logC h.withParts (by decide))
theorem Rested.securityWake (h : Rested b s) : Rested b s.securityWake :=
  .when (.ite (Rested.withParts (h.set (f := F.AUTH_FAIL_FAIL_N) (i := 0) (by decide) (by decide))) h) fun _ hx => hx.logC (by decide)
theorem Rested.dropWake (h : Rested b s) : Rested b s.dropWake := by
  unfold State.dropWake
  refine .securityWake (.jrnWake (.foldl ?_ fun _ r _ hx => ?_))
  · exact (h.endSession (.inl rfl)).withParts.sensorsFresh.withParts
  · exact (hx.set (f := F.VIN_FF_VIN_STALE) (by decide) r.isLt).set (f := F.ENG_STATUS_VIN_STALE) (by decide) r.isLt

theorem State.get_link_of_reset (s : State) (p : Fld → Bool) (hl : s.get F.CJ_CFG_CJ_EN = 0) :
    State.get { s with regs := resetRegs s.regs p } F.CJ_CFG_CJ_EN = 0 := by
  rw [State.get_def] at hl ⊢
  exact resetRegs_get_zero s.regs p _ hl linkKey_reset

/-- The state that an entry to WAKE leaves: WAKE, the Control die down, every rail new, and nothing that the end of the update would
act on (R80, R487). -/
theorem State.wakeEntry_rests (s : State) (n : Nat) (hl : s.get F.CJ_CFG_CJ_EN = 0) : (s.wakeEntry n).mode = .wake ∧
    (s.wakeEntry n).pow.cdUp = false ∧ (∀ r, (s.wakeEntry n).rail r = {}) ∧ (s.wakeEntry n).Still := by
  unfold State.wakeEntry
  extract_lets s0 m held tflt wiped down p fresh kept told marked
  have hwiped : wiped.get F.CJ_CFG_CJ_EN = 0 := State.get_link_of_reset s _ hl
  clear_value wiped
  have hdown : down.get F.CJ_CFG_CJ_EN = 0 := by
    simp (decide := true) only [down, State.clear_eq, State.get_set, hwiped, if_false]
  clear_value down
  have htold : Rested fresh told := (Rested.refl fresh).keepMarked.dropWake.when fun _ hx =>
    hx.set (f := F.MODE_STATUS_SHUTDOWN_ACT) (i := 0) (by decide) (by decide)
  have hmarked : Rested fresh marked := htold.onPhases fun _ k hx => hx.when fun _ hy =>
    hy.set (f := F.PWM_STATUS_TFLT_FAULT) (by decide) k.isLt
  have hr : Rested fresh (marked.enter n .wake) := hmarked.enter
  have hflag : (marked.enter n .wake).flag F.CJ_CFG_CJ_EN = false := by
    unfold State.flag
    rw [hr.link, show fresh.get F.CJ_CFG_CJ_EN = 0 from hdown]
    rfl
  refine ⟨by simp [State.enter], by rw [hr.pow], fun r => ?_, by rw [hr.pow], hflag, by rw [hr.pow]⟩
  unfold State.rail
  rw [hr.rails]
  exact Vector.getElem_replicate _

/-- T16. -/
theorem State.lose_wakes (s : State) (c : CtCause) (hl : s.flag F.CJ_CFG_CJ_EN = false)
    (hm : s.mode = .precheck ∨ s.mode = .service ∨ s.mode.running = true) (hsw : allRails.any (fun r => (s.st r).switching) = false) :
    (s.lose c).mode = .wake ∧ (s.lose c).pow.cdUp = false ∧ (∀ r, (s.lose c).rail r = {}) ∧ (s.lose c).Still := by
  have hc := s.lost_carried c
  rw [State.lose_live s c hm]
  generalize (s.onRails fun s r => s.discard r 1).controlReset c = x at hc ⊢
  dsimp only
  rw [if_neg (by rw [hc.held.any_switching, hsw]; decide)]
  refine State.wakeEntry_rests _ 16 ?_
  have hs : Steered s (x.set F.CT_STATUS_CT_CAUSE 0 c.code) := hc.steered.set (by decide) (by decide)
  rw [hs.link]
  simpa [State.flag] using hl

/-! ## The commands -/

/-- R325: the state that a declared loss of the Control die finds, its record apart. -/
def State.hbRecord (s : State) (c : CtCause) : State := s.when (c == .heartbeat) (fun s =>
  (s.mark F.BRIDGE_STATUS_HB_LOST).logF 0x0102 0 [(2, 0), (1, s.get F.BRIDGE_STATUS_HB_SEQ)])
theorem Carried.hbRecord (h : Carried b s) {c : CtCause} : Carried b (s.hbRecord c) :=
  h.when fun _ hx => (hx.set (f := F.BRIDGE_STATUS_HB_LOST) (i := 0) (by decide) (by decide)).raise (by rfl)
theorem State.controlLost_due (c : CtCause) (hm : s.mode = .precheck ∨ s.mode = .service ∨ s.mode.running = true)
    (hd : s.lossDue c = true) : s.controlLost c = (s.hbRecord c).lose c := by
  unfold State.controlLost State.hbRecord
  rw [Mode.awake_of_live hm, hd, if_neg (by decide)]

theorem Carried.still (h : Carried b s) (hb : b.Still) : s.Still := by
  obtain ⟨hcalm, hlink, hstop⟩ := hb
  exact ⟨h.steered.calm.trans hcalm, (congrArg (· != 0) h.steered.link).trans hlink, h.held.stop.trans hstop⟩

/-- A command that loses the Control die of a device with a rail switching. -/
theorem loss_gives {i : Instr} {t : Nat} {f : State → State} {c : CtCause} {y : State} (hi : exec i s = run t f s)
    (hf : f (s.at t) = y.lose c) (hh : Held (s.at t) y) (hs : y.Still) (hm : s.mode = .precheck ∨ s.mode = .service ∨ s.mode.running = true)
    (hsw : allRails.any (fun r => (s.st r).switching) = true) :
    Gives i s (fun u => u.mode = .caretaker ∧ u.pow.cdUp = false ∧ u.get F.CT_STATUS_CT_ACT = 1 ∧
      (∀ r, (s.st r).switching = true → u.st r = .caretaken) ∧ u.get F.CT_STATUS_CT_CAUSE = c.code ∧
      u.get F.BRIDGE_STATUS_LP_FAULT = y.get F.BRIDGE_STATUS_LP_FAULT) := by
  have hmode : y.mode = s.mode := hh.mode
  obtain ⟨htaken, hstill⟩ := State.lose_takes y c hs (by rw [hmode]; exact hm) (hh.any_switching.trans hsw)
  rw [← hf] at htaken hstill
  refine (htaken.run hi hstill).mono fun u hu => ⟨hu.mode, hu.cdUp, hu.active, fun r hr => hu.held r ?_, hu.cause, hu.fault⟩
  rw [hh.st]
  exact hr

/-- What the die that declares a loop-port fault of rail `r` has done before it takes over (R14). -/
def State.lpRecord (s : State) (r : Fin 8) : State :=
  ((s.mark F.BRIDGE_STATUS_LP_FAULT).logF 0x0103 0 [(1, r.val), (2, 2)]).modFr r (fun f => { f with lp16 := [] })

theorem State.loopFault_clock (r : Fin 8) (hm : s.mode = .precheck ∨ s.mode = .service ∨ s.mode.running = true) :
    s.loopFault r true = (s.lpRecord r).lose .loopPort := by
  unfold State.loopFault State.lpRecord
  rw [Mode.awake_of_live hm, if_neg (by simp)]
  rfl
theorem State.lpRecord_framed (s : State) (r : Fin 8) : Framed (s.mark F.BRIDGE_STATUS_LP_FAULT)
    ((s.mark F.BRIDGE_STATUS_LP_FAULT).logF 0x0103 0 [(1, (r.val : Int)), (2, 2)]) := State.logF_only _ _ _ rfl
theorem State.lpRecord_held (s : State) (r : Fin 8) : Held s (s.lpRecord r) :=
  (State.logF_held _ _ _ _ ((Held.refl s).mark ..)).modFr ..
theorem State.lpRecord_fault (s : State) (r : Fin 8) : (s.lpRecord r).get F.BRIDGE_STATUS_LP_FAULT = 1 := by
  refine ((s.lpRecord_framed r).get F.BRIDGE_STATUS_LP_FAULT 0 (by decide)).trans ?_
  rw [State.mark_eq, State.get_set_self]
  rfl
theorem State.lpRecord_still (r : Fin 8) (h : s.Still) : (s.lpRecord r).Still := by
  obtain ⟨hcalm, hlink, hstop⟩ := h
  have hf := s.lpRecord_framed r
  refine ⟨hf.calm.trans hcalm, ?_, (s.lpRecord_held r).stop.trans hstop⟩
  rw [← hlink]
  refine congrArg (· != 0) ((hf.get F.CJ_CFG_CJ_EN 0 (by decide)).trans ?_)
  exact State.get_set_of_ne _ _ _ _ _ _ (by decide)

end Sys2Proof.Machine
open Sys2Proof Sys2Proof.Machine

/-- Settles O18: a loss in a live mode is `State.takeover` or `State.wakeEntry` (`State.lose_live`), and the end of the update keeps
what they leave (`TakenOver.run`, `settle_mode`, `settle_st`). -/
theorem lossOfTheControlDie : Obligations.LossOfTheControlDie := by
  unfold Obligations.LossOfTheControlDie
  refine ⟨fun t s c hs hm hsw hd => ?_, fun t s c hs hm hsw hd => ?_, fun t s x hs hx ht => ?_, fun t s hs hm hsw hr => ?_,
    fun t s hs hm hsw hr hw => ?_, fun t s r hs hm hsw => ?_⟩
  · have hc : Carried (s.at t) ((s.at t).hbRecord c) := (Carried.refl _).hbRecord
    refine (loss_gives (f := (·.controlLost c)) rfl (State.controlLost_due (s := s.at t) c hm hd) hc.held (hc.still hs) hm hsw).mono
      fun u ⟨hmode, hup, hact, hheld, hcause, _⟩ => ⟨hmode, hup, hact, hheld, hcause⟩
  · have hc : Carried (s.at t) ((s.at t).hbRecord c) := (Carried.refl _).hbRecord
    have hstill := hc.still hs
    obtain ⟨hmode, hup, hrail, hcalm, hlink, hstop⟩ := State.lose_wakes _ c hstill.2.1 (by rw [hc.held.mode]; exact hm)
      (hc.held.any_switching.trans hsw)
    rw [← State.controlLost_due (s := s.at t) c hm hd] at hmode hup hrail hcalm hlink hstop
    have hoff : ∀ r, ((s.at t).controlLost c).st r = .off := fun r => by unfold State.st; rw [hrail]
    refine run_gives (f := (·.controlLost c)) rfl rfl hcalm fun u hu hf => ⟨?_, hf.cdUp.trans hup, fun r => ?_⟩
    · rw [run_mode t _ u hu hcalm hlink (by rw [hmode]; rfl), hmode]
    · rw [run_st t _ u r hu hcalm hlink hstop (by simp [State.mayArm, State.cfg, hrail]) (by rw [hoff]; decide) (by rw [hoff]; decide), hoff]
  · have hnot : (s.at t).lossDue .heartbeat = false := by
      have : ¬ x + 2500 ≤ max s.now t := by omega
      simp [State.lossDue, State.silentSince, hx, State.at, this]
    refine run_idle (f := (·.controlLost .heartbeat)) rfl (if_pos (by rw [hnot]; simp)) hs
  · exact (loss_gives (c := .lockstep) rfl (if_pos hr) (.refl _) hs hm hsw).mono
      fun u ⟨hmode, hup, hact, hheld, hcause, _⟩ => ⟨hmode, hup, hact, hheld, hcause⟩
  · have hdue : ((s.at t).coresRun && (s.at t).wdogDue) = true := by
      rw [show (s.at t).coresRun = true from hr]
      simpa [State.wdogDue, State.at] using hw
    exact (loss_gives (c := .watchdog) rfl (if_pos hdue) (.refl _) hs hm hsw).mono
      fun u ⟨hmode, hup, hact, hheld, hcause, _⟩ => ⟨hmode, hup, hact, hheld, hcause⟩
  · exact (loss_gives (f := (·.loopFault r true)) rfl (State.loopFault_clock r hm) (State.lpRecord_held _ r) (State.lpRecord_still r hs) hm
      hsw).mono fun u ⟨hmode, hup, hact, hheld, hcause, hfault⟩ =>
        ⟨hmode, hup, hact, hheld, hfault.trans (State.lpRecord_fault _ r), hcause⟩
end


section
/-!
STATUS_CML at the end of an update: its bits latch (R461), so one that a command sets still stands after `settle`.
-/
namespace Sys2Proof.Machine

/-- Bit `i` of STATUS_CML is set. -/
structure CmlSet (i : Nat) (s : State) : Prop where
  low : i < 8
  bit : (s.get F.PMB_STATUS_STATUS_CML).testBit i = true

variable {i : Nat} {s : State}

/-- The registers are as they were. -/
theorem CmlSet.withParts (h : CmlSet i s) {now pending cz1604 mode img pow br par sets mirPh mirRail phases rails ports rcd spi pmb cj
    otp sec tlm jrn pk th ctx0 ctxs rings code entry} :
    CmlSet i ⟨now, pending, cz1604, mode, s.regs, img, pow, br, par, sets, mirPh, mirRail, phases, rails, ports, rcd, spi, pmb, cj,
      otp, sec, tlm, jrn, pk, th, ctx0, ctxs, rings, code, entry⟩ := ⟨h.low, h.bit⟩
theorem CmlSet.set (h : CmlSet i s) {f : Fld} {j v : Nat} (hf : f.off (F.PMB_STATUS_STATUS_CML.key 0) = true) (hj : j < f.count) :
    CmlSet i (s.set f j v) :=
  ⟨h.low, by rw [State.get_set_of_ne _ _ _ _ _ _ (Fld.key_ne hf hj), h.bit]⟩
/-- Status bits latch, whatever the byte. -/
theorem CmlSet.pmbBits (h : CmlSet i s) {f : Fld} {r v : Nat} (hw : 8 ≤ f.width) : CmlSet i (s.pmbBits f r v) := by
  refine ⟨h.low, ?_⟩
  rw [State.pmbBits_eq, State.get_set]
  split
  next hk =>
    have hlow : i < f.width := Nat.lt_of_lt_of_le h.low hw
    have hb : (s.get f r).testBit i = true := by
      rw [State.get_def, ← hk, ← State.get_def]
      exact h.bit
    simp [Nat.testBit_mod_two_pow, hlow, hb]
  next => exact h.bit

theorem CmlSet.ite {c : Prop} {d : Decidable c} {x y : State} (hx : CmlSet i x) (hy : CmlSet i y) : CmlSet i (@ite _ c d x y) := by
  split <;> assumption
theorem CmlSet.when (h : CmlSet i s) {c : Bool} {f : State → State} (hf : ∀ x, CmlSet i x → CmlSet i (f x)) : CmlSet i (s.when c f) :=
  .ite (hf _ h) h
theorem CmlSet.foldl {α : Type} {f : State → α → State} {l : List α} (h : CmlSet i s) (hf : ∀ x a, CmlSet i x → CmlSet i (f x a)) :
    CmlSet i (l.foldl f s) :=
  List.foldlRecOn l f h fun x hx a _ => hf x a hx
theorem CmlSet.onRails (h : CmlSet i s) {f : State → Fin 8 → State} (hf : ∀ x r, CmlSet i x → CmlSet i (f x r)) :
    CmlSet i (s.onRails f) := h.foldl hf

theorem CmlSet.modRail (h : CmlSet i s) {r : Fin 8} {f : Rail → Rail} : CmlSet i (s.modRail r f) := h.withParts
theorem CmlSet.modPh (h : CmlSet i s) {n : Fin 32} {f : Phase → Phase} : CmlSet i (s.modPh n f) := h.withParts
theorem CmlSet.modPort (h : CmlSet i s) {p : Fin 2} {f : Port → Port} : CmlSet i (s.modPort p f) := h.withParts
theorem CmlSet.modPk (h : CmlSet i s) {f : Pack → Pack} : CmlSet i (s.modPk f) := h.withParts
theorem CmlSet.modEng (h : CmlSet i s) {r : Fin 8} {f : Engine → Engine} : CmlSet i (s.modEng r f) := h.modRail
theorem CmlSet.modFr (h : CmlSet i s) {r : Fin 8} {f : Front → Front} : CmlSet i (s.modFr r f) := h.modRail
theorem CmlSet.setSw (h : CmlSet i s) {n : Fin 32} {w : Sw} : CmlSet i (s.setSw n w) := h.modPh
theorem CmlSet.toLevel (h : CmlSet i s) {n : Fin 32} {l : Level} : CmlSet i (s.toLevel n l) :=
  .ite h (h.modPh.set (f := F.PWM_STATUS_LEVEL) (by decide) n.isLt)
theorem CmlSet.triRail (h : CmlSet i s) {r : Fin 8} : CmlSet i (s.triRail r) := h.foldl fun _ _ hx => hx.toLevel
theorem CmlSet.leftStart (h : CmlSet i s) {r : Fin 8} : CmlSet i (s.leftStart r) := h.modFr
theorem CmlSet.setRail (h : CmlSet i s) {r : Fin 8} {st : RailState} : CmlSet i (s.setRail r st) :=
  State.setRail_ind r st h.modRail (fun _ _ hx => hx.modFr) (fun _ _ _ hx => hx.setSw)
    (fun _ hx => hx.set (f := F.RP_STATUS_PGOOD_ST) (by decide) r.isLt) (fun _ hx => hx.set (f := F.RP_STATUS_UV_RD) (by decide) r.isLt)
theorem CmlSet.setSen (h : CmlSet i s) {r : Fin 8} {b : Bool} : CmlSet i (s.setSen r b) := h.set (f := F.SEN_CFG_SEN_STATE) (by decide) r.isLt
theorem CmlSet.railRest (h : CmlSet i s) {r : Fin 8} {st : RailState} : CmlSet i (s.railRest r st) := by
  unfold State.railRest
  exact h.setRail.setSen.modEng.modFr
theorem CmlSet.railOff (h : CmlSet i s) {r : Fin 8} : CmlSet i (s.railOff r) :=
  .modEng (.set (f := F.RP_STATUS_SNS_CAUSE) (.set (f := F.RP_STATUS_SNS_AUX) h.railRest (by decide) r.isLt) (by decide) r.isLt)

theorem CmlSet.emit (h : CmlSet i s) {e : Evt} {react : React} : CmlSet i (s.emit e react) := by
  unfold State.emit
  refine .ite (.ite ?_ h.withParts) h.withParts
  split
  · exact h.withParts
  · exact h
theorem CmlSet.pmbRec (h : CmlSet i s) {ev unit : Nat} {items : List (Nat × Int)} : CmlSet i (s.pmbRec ev unit items) := by
  have one : ∀ {f : Fld} {r v : Nat}, f.width = 8 ∨ f.width = 16 → CmlSet i (s.pmbBits f r v) := fun hw => h.pmbBits (by omega)
  have all : ∀ {f : Fld} {v : Nat}, f.width = 8 ∨ f.width = 16 → CmlSet i ((List.range 8).foldl (fun s r => s.pmbBits f r v) s) :=
    fun hw => h.foldl fun _ _ hx => hx.pmbBits (by omega)
  exact .ite ((one (.inl rfl)).pmbBits (by decide)) (.ite ((one (.inl rfl)).pmbBits (by decide)) (.ite (.ite (one (.inl rfl)) h)
    (.ite (all (.inl rfl)) (.ite (.ite (all (.inl rfl)) (.ite (all (.inl rfl)) h)) (.ite (one (.inl rfl)) (.ite (one (.inl rfl))
      (.ite (one (.inl rfl)) (.ite (all (.inl rfl)) h))))))))
theorem CmlSet.raise (h : CmlSet i s) {front : Bool} {ev unit : Nat} {items : List (Nat × Int)} {react : React} :
    CmlSet i (s.raise front ev unit items react) := .ite (.ite h.pmbRec.withParts h.pmbRec.withParts.emit) h.pmbRec.emit
theorem CmlSet.logF (h : CmlSet i s) {ev unit : Nat} {items : List (Nat × Int)} {react : React} :
    CmlSet i (s.logF ev unit items react) := h.raise
theorem CmlSet.logC (h : CmlSet i s) {ev unit : Nat} {items : List (Nat × Int)} : CmlSet i (s.logC ev unit items) := h.raise

theorem CmlSet.noteOn (h : CmlSet i s) {p : Fin 2} {x : Notice} : CmlSet i (s.noteOn p x) :=
  .ite (h.modPort.when fun _ hx => .logC (hx.set (f := F.AL_STICKY_NOTE_LOST) (by decide) p.isLt)) h
theorem CmlSet.noteRail (h : CmlSet i s) {r : Fin 8} {kind word : Nat} : CmlSet i (s.noteRail r kind word) :=
  h.foldl fun _ _ hx => .ite hx.noteOn hx
theorem CmlSet.noteAll (h : CmlSet i s) {kind word : Nat} : CmlSet i (s.noteAll kind word) := h.foldl fun _ _ hx => hx.noteOn
theorem CmlSet.enter (h : CmlSet i s) {n : Nat} {m : Mode} : CmlSet i (s.enter n m) := by
  unfold State.enter
  exact .raise (.withParts ((h.set (f := F.MODE_STATUS_PREV_MODE) (by decide) (by decide)).set (f := F.MODE_STATUS_LAST_TRANS) (by decide)
    (by decide)))
theorem CmlSet.endLs (h : CmlSet i s) {r : Fin 8} : CmlSet i (s.endLs r) := by
  unfold State.endLs
  extract_lets f told ended undriven
  have ht : CmlSet i told := h.when fun _ hx => hx.logF
  have hu : CmlSet i undriven := (ht.modFr (r := r)).foldl fun _ _ hx => hx.modPh
  exact (((hu.set (f := F.ENG_STATUS_LSU_ACT) (by decide) r.isLt).set (f := F.ENG_STATUS_LSD_ACT) (by decide) r.isLt).set
    (f := F.ENG_STATUS_BRAKE_ACT) (by decide) r.isLt).set (f := F.RP_STATUS_CB_ACT) (by decide) r.isLt
theorem CmlSet.fastStop (h : CmlSet i s) {r : Fin 8} : CmlSet i (s.fastStop r) :=
  h.endLs.triRail.setSen.modFr.set (f := F.PHC_STATUS_DE_ACT) (by decide) r.isLt
theorem CmlSet.latchNow (h : CmlSet i s) {r : Fin 8} {cause : Nat} : CmlSet i (s.latchNow r cause) :=
  .logF (h.railRest.set (f := F.RP_STATUS_LATCH_CAUSE) (by decide) r.isLt)
theorem CmlSet.softStop (h : CmlSet i s) {r : Fin 8} {k : StopKind} {cause : Nat} : CmlSet i (s.softStop r k cause) := by
  have hd : CmlSet i ((s.setRail r .rampdown).clear F.PHC_STATUS_DE_ACT r) := h.setRail.set (f := F.PHC_STATUS_DE_ACT) (by decide) r.isLt
  unfold State.softStop
  split
  · exact hd.modEng.modFr
  · exact hd.modEng.modFr
  · exact hd.modEng.modFr
  · exact hd.modEng.modFr
  · exact h.modFr
  · exact h
theorem CmlSet.disarm (h : CmlSet i s) {r : Fin 8} : CmlSet i (s.disarm r) := by
  unfold State.disarm
  split
  · exact h.railOff
  · exact h.railOff
  · exact h
theorem CmlSet.stopRound (h : CmlSet i s) : CmlSet i s.stopRound := by
  unfold State.stopRound
  dsimp only
  split
  · exact .ite h.withParts h.withParts.softStop
  · exact h.withParts
theorem CmlSet.faultHold (h : CmlSet i s) : CmlSet i (s.mark F.FAULT_HOLD_FAULT_HOLD) :=
  h.set (f := F.FAULT_HOLD_FAULT_HOLD) (by decide) (by decide)
theorem CmlSet.enterSafestop (h : CmlSet i s) {n : Nat} : CmlSet i (s.enterSafestop n) := by
  unfold State.enterSafestop
  exact .enter (h.faultHold.onRails fun _ _ hx => hx.disarm)
theorem CmlSet.dlStop (h : CmlSet i s) {cause : Nat} : CmlSet i (s.dlStop cause) := by
  refine h.onRails fun x r hx => .ite hx.softStop ?_
  have hoff : CmlSet i ((x.fastStop r).railOff r) := hx.fastStop.railOff
  split
  · exact hoff
  · exact hoff
  · exact hoff
  · exact hoff
  · exact hoff
  · exact hoff
  · exact hoff
  · exact hx
theorem CmlSet.refuse (h : CmlSet i s) {res rail : Nat} : CmlSet i (s.refuse res rail) :=
  .ite h (.onRails (.logF (.withParts ((h.set (f := F.CT_STATUS_ADOPT_RES) (by decide) (by decide)).set (f := F.CT_COUNT_ADOPT_REF)
    (by decide) (by decide)))) fun _ _ hx => .ite hx.softStop.modFr hx)
theorem CmlSet.deviceLatch (h : CmlSet i s) {cause : Nat} : CmlSet i (s.deviceLatch cause) := by
  have hr : CmlSet i (((s.set F.PROT_STATUS_DL_CAUSE 0 cause).mark F.FAULT_HOLD_FAULT_HOLD).raise true 0x0A16 0
      [(1, (cause : Int)), (1, (s.mode.code : Int))]) :=
    (h.set (f := F.PROT_STATUS_DL_CAUSE) (by decide) (by decide)).faultHold.raise
  unfold State.deviceLatch
  dsimp only
  refine .ite h ?_
  split
  · exact hr
  · exact hr
  · exact hr.enterSafestop
  · exact hr.dlStop
  · exact hr.dlStop.withParts.refuse
  · exact hr.dlStop.enterSafestop
theorem CmlSet.railLatch (h : CmlSet i s) {r : Fin 8} {cause : Nat} {fast : Bool} : CmlSet i (s.railLatch r cause fast) :=
  (CmlSet.ite h.fastStop.latchNow h.softStop).when fun _ hx => hx.deviceLatch

theorem CmlSet.putCtx (h : CmlSet i s) {x : Nat} {c : Ctx} : CmlSet i (s.putCtx x c) := h.withParts
theorem CmlSet.putHints (h : CmlSet i s) {r : Fin 8} {l : List Hint} : CmlSet i (s.putHints r l) :=
  h.modRail.set (f := F.TN_STAT_N_SCHED) (by decide) r.isLt
theorem CmlSet.putF (h : CmlSet i s) {r : Fin 8} : CmlSet i (s.putF r) := by
  unfold State.putF
  extract_lets raw f stored
  have hs : CmlSet i stored := (h.set (f := F.TN_STAT_F) (by decide) r.isLt).modEng
  exact .ite h (.ite (hs.set (f := F.TN_STAT_FF_CAP_S) (by decide) r.isLt) hs)
theorem CmlSet.ctxCheck (h : CmlSet i s) {x : Nat} : CmlSet i (s.ctxCheck x) :=
  .ite h (.logC (h.putCtx.onRails fun _ _ hx => .ite hx.putHints.putF hx))
theorem CmlSet.freeSlot (h : CmlSet i s) {hint : Hint} : CmlSet i (s.freeSlot hint) := h.ctxCheck.putCtx
theorem CmlSet.retire (h : CmlSet i s) {r : Fin 8} {p : Hint → Bool} : CmlSet i (s.retire r p) :=
  .putHints (h.foldl fun _ _ hx => hx.freeSlot)
theorem CmlSet.discard (h : CmlSet i s) {r : Fin 8} {cause : Nat} : CmlSet i (s.discard r cause) :=
  .ite h (.logC (.noteRail (h.retire.putF.set (f := F.TN_STAT_DISCARD_S) (by decide) r.isLt)))
theorem CmlSet.setChg (h : CmlSet i s) {k : Nat} : CmlSet i (s.setChg k) := h.modPk.set (f := F.PK_STATE_CHG_ST) (by decide) (by decide)
theorem CmlSet.testAbort (h : CmlSet i s) : CmlSet i s.testAbort :=
  .ite h (.logC (.when (.withParts (h.set (f := F.PK_STATE_TEST_ACT) (by decide) (by decide)).modPk) fun _ hx => hx.setChg))
theorem CmlSet.setGate (h : CmlSet i s) {b : Bool} : CmlSet i (s.setGate b) := h.modPk.set (f := F.PK_STATE_HU_ON) (by decide) (by decide)
theorem CmlSet.arm (h : CmlSet i s) {r : Fin 8} : CmlSet i (s.arm r) := by
  unfold State.arm
  exact h.setRail.setSen.modFr

/-! ## The rounds -/

theorem CmlSet.cjRound (h : CmlSet i s) {s0 : State} : CmlSet i (State.cjRound s0 s) := by
  unfold State.cjRound
  split
  · exact h
  · exact (CmlSet.ite h.railLatch h).withParts
theorem CmlSet.chargerRound (h : CmlSet i s) : CmlSet i s.chargerRound := by
  unfold State.chargerRound
  extract_lets aborted c
  have ha : CmlSet i aborted := h.when fun _ hx => hx.testAbort
  exact .ite h (.ite ha (.ite (ha.when fun _ hx => hx.setChg) (.ite (ha.when fun _ hx => hx.setChg) (.ite ha.setChg (.ite ha.setChg ha)))))
theorem CmlSet.packRound (h : CmlSet i s) : CmlSet i s.packRound := .ite h.chargerRound.setGate h.chargerRound
theorem CmlSet.clrRound (h : CmlSet i s) (hs : s.Calm) : CmlSet i s.clrRound := by
  unfold State.clrRound
  rw [hs]
  exact h
theorem CmlSet.armRound (h : CmlSet i s) : CmlSet i s.armRound := h.onRails fun _ _ hx => .ite hx.arm hx
theorem CmlSet.precheckRound (h : CmlSet i s) : CmlSet i s.precheckRound := .ite (.ite h.enter h.enter) h
theorem CmlSet.shedRound (h : CmlSet i s) : CmlSet i s.shedRound := h.onRails fun _ _ hx => .ite hx.modRail hx
theorem CmlSet.modeRound (h : CmlSet i s) : CmlSet i s.modeRound := by
  unfold State.modeRound
  split
  · exact .ite h h.enter
  · exact .ite h h.enter
  · exact .ite h h.enter
  · exact .ite h h.enter
  · exact h
theorem CmlSet.hintRound (h : CmlSet i s) : CmlSet i s.hintRound :=
  h.onRails fun _ _ hx => .ite hx (.ite hx.discard (.ite hx.discard (.ite hx.discard hx)))
theorem CmlSet.clampRound (h : CmlSet i s) : CmlSet i s.clampRound := h.onRails fun _ _ hx => .ite hx.putF hx
theorem CmlSet.wasRound (h : CmlSet i s) {s0 : State} : CmlSet i (State.wasRound s0 s) := h.onRails fun _ _ hx => .ite hx hx.modFr
theorem CmlSet.pmbRail (h : CmlSet i s) {s0 : State} {r : Fin 8} : CmlSet i (State.pmbRail s0 s r) :=
  .ite h ((((((h.pmbBits (by decide)).pmbBits (by decide)).pmbBits (by decide)).pmbBits (by decide)).pmbBits (by decide)).pmbBits
    (by decide))
theorem CmlSet.pmbRound (h : CmlSet i s) {s0 : State} : CmlSet i (State.pmbRound s0 s) :=
  .ite h (.withParts (.when (h.onRails fun _ _ hx => hx.pmbRail) fun _ hx => hx.pmbBits (by decide)))
theorem CmlSet.mirrorRound (h : CmlSet i s) {s0 : State} : CmlSet i (State.mirrorRound s0 s) := .ite h.withParts h
theorem CmlSet.noteRound (h : CmlSet i s) {s0 : State} : CmlSet i (State.noteRound s0 s) :=
  .ite h (.onRails (h.when fun _ hx => hx.noteAll) fun _ _ hx => .when (by
    split
    · exact hx.noteRail
    · exact hx) fun _ hy => hy.noteRail)
theorem CmlSet.creditRound (h : CmlSet i s) : CmlSet i s.creditRound :=
  .ite h (h.foldl fun _ p hx => .ite hx (hx.set (f := F.AL_STATUS_CRED) (by decide) p.isLt).modPort)

/-- A bit of STATUS_CML that stands after a command's effect stands after the command. -/
theorem CmlSet.settle (h : CmlSet i s) {s0 : State} (hs : s.Calm) : CmlSet i (settle s0 s) := by
  have hf : Framed s (State.cjRound s0 s.stopRound).packRound :=
    State.packRound_framed (State.cjRound_framed _ (State.stopRound_framed (Framed.refl s)))
  have hw : (State.cjRound s0 s.stopRound).packRound.Calm := (congrArg (fun x : State => x.pow.wantSafestopClr) hf.rest).trans hs
  have hc : CmlSet i (State.cjRound s0 s.stopRound).packRound.clrRound := h.stopRound.cjRound.packRound.clrRound hw
  exact hc.armRound.precheckRound.shedRound.modeRound.hintRound.clampRound.wasRound.pmbRound.mirrorRound.noteRound.creditRound
theorem CmlSet.run {t : Nat} {f : State → State} {u : State} (h : CmlSet i (f (s.at t))) (hs : (f (s.at t)).Calm)
    (hu : run t f s = .next u) : CmlSet i u := by
  have := h.settle (s0 := s.at t) hs
  obtain rfl := Host.Outcome.next.inj hu
  generalize Machine.settle (s.at t) (f (s.at t)) = x at this
  exact this.withParts

end Sys2Proof.Machine
end


section
/-!
O17: heartbeats and echoes change parts that the end of an update leaves alone; a lost Front die is told by a status bit that latches; a
missing clock brings every ball of an assigned phase to tri-state.
-/
namespace Sys2Proof.Machine

variable {s : State} {fs : List Fld} {n m : Fin 32}

/-! ## Heartbeats and their echo -/

/-- The bridge and one register field of the frame. -/
theorem Changes.bridgeSet {f : Fld} {i v : Nat} {br : Bridge} (hf : f ∈ fs) (hfit : f.fits = true) (hi : i < f.count) :
    Changes [.br] fs s { s.set f i v with br := br } :=
  ⟨rfl, (Changes.set (ps := []) hf hfit hi v).regs⟩
/-- The bridge alone. -/
theorem Changes.bridge (br : Bridge) : Changes [.br] [] s { s with br := br } := ⟨rfl, fun _ _ _ => rfl⟩

/-- An effect on the bridge alone. -/
theorem run_bridge {i : Instr} {t : Nat} {f : State → State} {br : Bridge} (hi : exec i s = run t f s)
    (hx : f (s.at t) = { s.at t with br := br }) (hc : s.Calm) : Gives i s (fun u => u.br = br ∧ Changes [.br] [] s u) :=
  run_gives hi hx hc fun _ _ hf => ⟨hf.br, (hf.changes (Changes.bridge br)).of_at⟩

theorem State.beatIn_valid {seq : Nat} (hm : s.mode ≠ .dormant) (he : s.br.hbExp = none ∨ s.br.hbExp = some seq) : s.beatIn seq =
    { s.set F.BRIDGE_STATUS_HB_SEQ 0 seq with br := { s.br with
      hbExp := some ((seq + 1) % 256), hbRx := some s.now, echo := some s.pswFront } } := by
  have hskip : (s.mode == .dormant || (s.br.hbExp.isSome && s.br.hbExp != some seq)) = false := by
    rcases he with he | he <;> simp [hm, he]
  unfold State.beatIn
  rw [hskip, if_neg (by decide)]
  rfl
theorem State.beatIn_skipped {seq e : Nat} (he : s.br.hbExp = some e) (hne : e ≠ seq) : s.beatIn seq = s :=
  if_pos (by simp [he, hne])

/-- While nothing is in flight, an echo is compared (R338). -/
theorem State.echoIn_compared {c : Nat} (hup : s.pow.cdUp = true) (h3 : s.br.c3 = []) (h1 : s.rcd.c1q = []) (he : s.br.echo = some c) :
    s.echoIn = if c == s.pswMirror then { s with br := { s.br with echo := none, ecAt := some s.now, echoBad := 0 } }
      else if s.br.echoBad = 0 then { s with br := { s.br with echo := none, ecAt := some s.now, echoBad := 1 } }
      else State.coherence { s with br := { s.br with echo := none, ecAt := some s.now, echoBad := 0 } } := by
  unfold State.echoIn
  simp only [hup, he, h3, h1]
  rfl

theorem State.at_pswMirror (s : State) (t : Nat) : (s.at t).pswMirror = s.pswMirror := rfl

/-- R339: the hold on phase `n` ends, and the mirror takes its entry. -/
def State.rewritten (s : State) (n : Fin 32) : State :=
  { s.set F.COH_HOLD_HOLD 0 (s.get F.COH_HOLD_HOLD - 2 ^ n.val) with mirPh := s.mirPh.set n.val (s.ph n).entry }
theorem State.rewrite_held (hup : s.pow.cdUp = true) (hh : (s.get F.COH_HOLD_HOLD).testBit n = true) (hs : (s.ph n).cohStuck = false) :
    s.rewrite n = (s.rewritten n).logC 0x0B06 n [(1, n.val)] :=
  if_pos (by rw [hup, hh, hs]; rfl)

/-! ## A lost Front die -/

/-- The echo loss is marked and recorded. -/
def State.echoLoss (s : State) : State :=
  let x := s.mark F.BRIDGE_STATUS_HB_LOST
  x.logC 0x0102 0 [(2, 1), (1, x.get F.BRIDGE_STATUS_HB_SEQ)]
/-- The host links are told of it (R20, log entry 161). -/
def State.frontTold (s : State) : State := (s.echoLoss.cml 2).noteAll 4 s.echoLoss.mode.code
theorem State.frontLost_due (hup : s.pow.cdUp = true) (hno : s.br.fdLost = false) (hs : s.silentSince s.br.ecAt = true) :
    s.frontLost = { s.frontTold with br := { s.frontTold.br with fdLost := true } } :=
  if_neg (by rw [hup, hno, hs]; decide)
theorem State.echoLoss_framed (s : State) : Framed (s.mark F.BRIDGE_STATUS_HB_LOST) s.echoLoss := State.logC_only _ _ rfl
theorem State.echoLoss_records (s : State) : s.echoLoss.Records 0x0102 := State.logC_records _ _ _ rfl
theorem State.frontTold_from (s : State) : Framed s.echoLoss s.frontTold :=
  State.noteAll_framed _ _ (Framed.pmbBits (.refl _) _ (touch (by decide) (by decide)))
theorem State.frontTold_cml (s : State) : CmlSet 1 s.frontTold := by
  refine CmlSet.noteAll ⟨by decide, ?_⟩
  rw [State.cml, State.pmbBits_eq, State.get_set_self]
  rw [show F.PMB_STATUS_STATUS_CML.width = 8 from rfl, Nat.testBit_mod_two_pow, Nat.testBit_or, show Nat.testBit 2 1 = true from rfl,
    Bool.or_true]
  rfl

/-! ## A missing clock -/

theorem State.toLevel_tri (s : State) (n : Fin 32) : (s.toLevel n .tri).level n = .tri := by
  unfold State.toLevel State.toLevelAt
  dsimp only
  split
  next h => exact eq_of_beq h
  next =>
    unfold State.setLevel State.level
    rw [State.get_set_self]
    rfl
/-- A phase in tri-state stays there when another goes there. -/
theorem State.toLevel_tri_keeps (h : s.level m = .tri) : (s.toLevel n .tri).level m = .tri := by
  by_cases hk : F.PWM_STATUS_LEVEL.key m = F.PWM_STATUS_LEVEL.key n
  · have : m = n := Fin.ext (by simpa [Fld.key, Fld.addr, Fld.pos, F.PWM_STATUS_LEVEL] using hk)
    rw [this, State.toLevel_tri]
  · unfold State.toLevel State.toLevelAt
    dsimp only
    split
    · exact h
    · unfold State.setLevel State.level
      rw [State.get_set_of_ne _ _ _ _ _ _ hk]
      exact h
theorem State.toLevels_tri : ∀ (l : List (Fin 32)) (s : State), s.level n = .tri ∨ n ∈ l →
    (l.foldl (fun s n => s.toLevel n .tri) s).level n = .tri
  | [], _, h => h.resolve_right List.not_mem_nil
  | a :: l, s, h => by
    refine State.toLevels_tri l _ ?_
    by_cases ha : n = a
    · exact .inl (ha ▸ State.toLevel_tri s n)
    · exact h.imp State.toLevel_tri_keeps fun hm => (List.mem_cons.1 hm).resolve_left ha

/-- One rail of R21. -/
theorem State.setSen_level (r : Fin 8) (b : Bool) : (s.setSen r b).level n = s.level n := by
  have hk : ∀ (n : Fin 32) (r : Fin 8), F.PWM_STATUS_LEVEL.key n ≠ F.SEN_CFG_SEN_STATE.key r := by decide
  unfold State.setSen State.level
  rw [State.setB_eq, State.get_set_of_ne _ _ _ _ _ _ (hk n r)]
theorem State.railDark_framed (s : State) (r : Fin 8) : Framed s ((s.triRail r).setSen r false) :=
  State.setSen_framed r false (State.triRail_framed r (.refl s))
theorem Framed.onRail {b : State} (h : Framed b s) (r : Fin 8) (n : Fin 32) : s.onRail r n = b.onRail r n := by
  have ha : ∀ n : Fin 32, settleKey (F.PH_STATE_ASSIGNED.key n) = false := by decide
  have hr : ∀ n : Fin 32, settleKey (F.PH_STATE_RAIL.key n) = false := by decide
  unfold State.onRail State.railOf State.flag
  rw [h.get _ _ (ha n), h.get _ _ (hr n)]
theorem State.railsDark_tri (r : Fin 8) : ∀ (l : List (Fin 8)) (s : State), s.onRail r n = true → s.level n = .tri ∨ r ∈ l →
    (l.foldl (fun s r => (s.triRail r).setSen r false) s).level n = .tri
  | [], _, _, h => h.resolve_right List.not_mem_nil
  | a :: l, s, ho, h => by
    refine State.railsDark_tri r l _ (((s.railDark_framed a).onRail r n).trans ho) ?_
    rw [State.setSen_level]
    by_cases ha : r = a
    · subst ha
      exact .inl (State.toLevels_tri _ s (.inr (List.mem_filter.2 ⟨(by decide : ∀ n, n ∈ allPhases) n, ho⟩)))
    · exact h.imp (fun ht => State.toLevels_tri _ s (.inl ht)) fun hm => (List.mem_cons.1 hm).resolve_left ha
/-- Every ball of an assigned phase is in tri-state (R21). -/
theorem State.allOff_tri (h : s.flag F.PH_STATE_ASSIGNED n = true) : s.allOff.level n = .tri :=
  State.railsDark_tri (s.railOf n) allRails s (by simp [State.onRail, h]) (.inr ((by decide : ∀ r, r ∈ allRails) _))
theorem State.allOff_framed (s : State) : Framed s s.allOff :=
  Framed.onRails (.refl s) _ fun x r hx => hx.trans (x.railDark_framed r)
theorem State.allOff_held (s : State) : Held s s.allOff :=
  Held.onRails (.refl s) _ fun _ _ hx => (Held.foldl _ _ _ hx fun _ _ hy => State.toLevelAt_held _ _ _ hy).setB ..
theorem State.allOff_still (h : s.Still) : s.allOff.Still := by
  obtain ⟨hcalm, hlink, hstop⟩ := h
  have hf := s.allOff_framed
  have hflag : s.allOff.flag F.CJ_CFG_CJ_EN = s.flag F.CJ_CFG_CJ_EN := congrArg (· != 0) (hf.get F.CJ_CFG_CJ_EN 0 (by decide))
  exact ⟨hf.calm.trans hcalm, hflag.trans hlink, s.allOff_held.stop.trans hstop⟩
/-- Such an end of an update leaves every ball as it is. -/
theorem EndKept.level {b : State} (h : EndKept b s) (n : Fin 32) : s.level n = b.level n := by
  have hk : ∀ n : Fin 32, plainKey (F.PWM_STATUS_LEVEL.key n) = false := by decide
  have hget : s.get F.PWM_STATUS_LEVEL n = b.get F.PWM_STATUS_LEVEL n := h.regs _ (hk n)
  simp only [State.level, hget]
theorem State.clockMissing_awake (hm : s.mode ≠ .dormant) : s.clockMissing = State.allOff { s with br.clkLost := true } :=
  if_neg (by simpa using hm)
theorem State.clockMissing_off (hs : s.Still) (hm : s.mode ≠ .dormant) (ha : s.flag F.PH_STATE_ASSIGNED n = true) :
    s.clockMissing.Still ∧ s.clockMissing.level n = .tri := by
  rw [State.clockMissing_awake hm]
  exact ⟨State.allOff_still hs, State.allOff_tri ha⟩

/-! ## The watchdog -/

/-- The power sequencer alone. -/
theorem Changes.pow (p : Power) : Changes [.pow] [] s { s with pow := p } := ⟨rfl, fun _ _ _ => rfl⟩

end Sys2Proof.Machine
open Sys2Proof Sys2Proof.Machine

/-- Settles O17: each command by its least effect, which the end of the update leaves (`run_gives`); the CML bit by `CmlSet.run`, the
tri-state balls by `State.allOff_tri` and `run_plain`. -/
theorem heartbeatsAndCoherence : Obligations.HeartbeatsAndCoherence := by
  unfold Obligations.HeartbeatsAndCoherence
  refine ⟨fun t s hs hup => ?_, fun t s seq hs hm he => ?_, fun t s seq e hs he hne => ?_, fun t s hs hup h3 h1 he => ?_,
    fun t s c hs hup h3 h1 he hne hb => ?_, fun t s n hs hup hh hst => ?_, fun t s hs hup hno hd => ?_, fun t s hs hm => ?_,
    fun t s n hs hm ha _ => ?_, fun t s hs hr => ?_⟩
  · exact (run_bridge (f := State.beat) rfl (if_pos hup) hs).mono fun _ ⟨hbr, hch⟩ => ⟨congrArg Bridge.hbTx hbr, hch⟩
  · refine run_gives (f := (·.beatIn seq.toNat)) rfl (State.beatIn_valid (s := s.at t) hm he) hs fun u _ hf =>
      ⟨?_, congrArg Bridge.hbExp hf.br, congrArg Bridge.echo hf.br, ?_⟩
    · refine (hf.get F.BRIDGE_STATUS_HB_SEQ 0 (by decide)).trans ?_
      exact (State.get_set_self (s.at t) F.BRIDGE_STATUS_HB_SEQ 0 _).trans (Nat.mod_eq_of_lt seq.isLt)
    · exact (hf.changes (Changes.bridgeSet (List.mem_singleton.2 rfl) (by decide) (by decide))).of_at
  · exact run_idle (f := (·.beatIn seq.toNat)) rfl (State.beatIn_skipped (s := s.at t) he hne) hs
  · refine (run_bridge (f := State.echoIn) rfl ((State.echoIn_compared (s := s.at t) hup h3 h1 he).trans (if_pos (beq_self_eq_true _)))
      hs).mono fun _ ⟨hbr, hch⟩ => ⟨congrArg Bridge.echo hbr, congrArg Bridge.echoBad hbr, hch⟩
  · refine (run_bridge (f := State.echoIn) rfl ((State.echoIn_compared (s := s.at t) hup h3 h1 he).trans
      ((if_neg fun h => hne (by rw [eq_of_beq h, State.at_pswMirror])).trans (if_pos hb))) hs).mono
      fun _ ⟨hbr, hch⟩ => ⟨congrArg Bridge.echo hbr, congrArg Bridge.echoBad hbr, hch⟩
  · have hl := State.logC_only (code := 0x0B06) (unit := n) ((s.at t).rewritten n) [(1, (n.val : Int))] rfl
    refine run_gives (f := (·.rewrite n)) rfl (State.rewrite_held (s := s.at t) hup hh hst) (hl.calm.trans hs) fun u _ hf =>
      ⟨?_, hf.records (State.logC_records _ _ _ rfl), ((hl.trans hf).changes ⟨rfl, (Changes.set (ps := []) (List.mem_singleton.2 rfl)
        (by decide) (by decide) _).regs⟩).of_at⟩
    exact ((hl.trans hf).get F.COH_HOLD_HOLD 0 (by decide)).trans (State.get_set_self (s.at t) F.COH_HOLD_HOLD 0 _)
  · have hfr := (s.at t).echoLoss_framed.trans (s.at t).frontTold_from
    have hcml := (s.at t).frontTold_cml
    have hrec := (s.at t).frontTold_from.records (s.at t).echoLoss_records
    have hlost := State.frontLost_due (s := s.at t) hup hno (decide_eq_true hd)
    refine run_gives (f := State.frontLost) rfl hlost (hfr.calm.trans hs)
      fun u hu hf => ⟨?_, congrArg Bridge.fdLost hf.br, hf.records hrec, ?_⟩
    · refine ((hf.get F.BRIDGE_STATUS_HB_LOST 0 (by decide)).trans (hfr.get F.BRIDGE_STATUS_HB_LOST 0 (by decide))).trans ?_
      exact State.get_set_self (s.at t) F.BRIDGE_STATUS_HB_LOST 0 1
    · have hbit : CmlSet 1 (s.at t).frontLost := by
        rw [hlost]
        exact hcml.withParts
      exact (hbit.run (by rw [hlost]; exact hfr.calm.trans hs) hu).bit
  · have hx := State.clockMissing_awake (s := s.at t) hm
    have hoff := State.allOff_framed { s.at t with br.clkLost := true }
    rw [← hx] at hoff
    refine run_gives (f := State.clockMissing) rfl rfl (hoff.calm.trans hs) fun u _ hf => ?_
    have hclk : u.br.clkLost = true := congrArg Bridge.clkLost (hoff.trans hf).br
    exact ⟨hclk, by simp [State.faultN, hclk]⟩
  · obtain ⟨⟨hcalm, hlink, hstop⟩, htri⟩ := State.clockMissing_off (s := s.at t) hs hm ha
    exact run_gives (f := State.clockMissing) rfl rfl hcalm fun u hu _ =>
      ((run_plain t State.clockMissing u hu hcalm hlink hstop).level n).trans htri
  · refine run_gives (f := State.kick) rfl (if_pos (c := (s.at t).coresRun = true) hr) hs fun u _ hf => ⟨?_, ?_⟩
    · exact congrArg (fun x : State => x.pow.wdogAt) hf.rest
    · exact (hf.changes (Changes.pow _)).of_at
end


section
/-!
O16 fails: an update may both ignore a duty word and end ISLAND_MAX, which stops the rail that the ignored word left alone.
-/
namespace Sys2Proof.Machine

/-- The leader of a spanning rail in REG, during an undershoot action: its one live phase is HIGH, and a member with one more has been lost
since the instant 0. While ISLAND_MAX, 5 ms, has not passed, the system has the two live phases that it needs (R477). -/
def islandNearEnd : State :=
  let s : State := { mode := .regulate, pow.cdUp := true, cj.peers := [{}, { joined := true, lost := true, nLive := 1 }, {}, {}] }
  let s := ((s.mark F.CJ_CFG_CJ_EN).mark F.CJ_CFG_LEADER).set F.CJ_SPAN_SYS_MIN_LIVE 0 2
  let s := ((s.set F.CJ_SPAN_ISLAND_MAX 0 5).mark F.PH_STATE_ASSIGNED 0).setLevel 0 .high
  (s.modPh 0 (fun p => { p with sw := .active })).modRail 0
    (fun x => { x with st := .reg, cfg := { x.cfg with present := true, spans := true }, fr.ls := .under })

end Sys2Proof.Machine
open Sys2Proof Sys2Proof.Machine

/-- Refutes O16: its clause of R150 keeps every ball during a large-signal action, and asks only that no SAFESTOP_CLR waits. The word is
ignored, but the update that it arrives in is also the one in which ISLAND_MAX ends: the leader latches the spanning rail with a fast stop
(R477), and its HIGH ball goes to tri-state. -/
theorem not_linkBetweenDies : ¬ Obligations.LinkBetweenDies := by
  unfold Obligations.LinkBetweenDies
  rintro ⟨-, hIgnored, -⟩
  obtain ⟨u, hu, -, hkept⟩ := hIgnored 5000000 islandNearEnd 0 0 false (by decide +kernel) (by decide +kernel) (by decide +kernel)
    (by decide +kernel) (by decide +kernel)
  have hstopped : (settle (islandNearEnd.at 5000000) ((islandNearEnd.at 5000000).dutyWord 0 0)).level 0 ≠ islandNearEnd.level 0 := by
    decide +kernel
  exact hstopped ((run_level (f := (·.dutyWord 0 0)) hu 0).symm.trans (hkept 0))
end


section
/-!
The supplies' own register, SUPPLY_STATUS, and the tries of the core buck: what a takeover, the return of the Control die and the end of an
update leave of them.
-/
namespace Sys2Proof.Machine

variable {b s x : State} {P Q : State → Prop} {i : Instr}

/-- A command has one next state. -/
theorem Gives.and (hP : Gives i s P) (hQ : Gives i s Q) : Gives i s (fun u => P u ∧ Q u) := by
  obtain ⟨u, hu, hp⟩ := hP
  obtain ⟨v, hv, hq⟩ := hQ
  obtain rfl := Host.Outcome.next.inj (hu.symm.trans hv)
  exact ⟨u, hu, hp, hq⟩

/-- SUPPLY_STATUS and the tries of the core buck are as before, and so is a SAFESTOP_CLR request. -/
structure SupplyKept (b s : State) : Prop where
  calm : s.pow.wantSafestopClr = b.pow.wantSafestopClr
  buck : s.pow.buckTry = b.pow.buckTry
  regs : ∀ k, k / 32 = F.SUPPLY_STATUS_VAON_GOOD.base → s.regs.get k = b.regs.get k

theorem SupplyKept.refl (s : State) : SupplyKept s s := ⟨rfl, rfl, fun _ _ => rfl⟩
theorem SupplyKept.get (h : SupplyKept b s) (f : Fld) (hf : f.key 0 / 32 = F.SUPPLY_STATUS_VAON_GOOD.base) : s.get f = b.get f :=
  h.regs _ hf

/-- The end of an update writes no field of SUPPLY_STATUS. -/
theorem settleKey_supply {k : Nat} (hk : k / 32 = F.SUPPLY_STATUS_VAON_GOOD.base) : settleKey k = false := by
  have hall : ∀ j < 32, settleKey (32 * F.SUPPLY_STATUS_VAON_GOOD.base + j) = false := by decide
  rw [← Nat.div_add_mod k 32, hk]
  exact hall _ (Nat.mod_lt _ (by decide))
theorem SupplyKept.framed (h : SupplyKept b s) (hf : Framed s x) : SupplyKept b x where
  calm := hf.calm.trans h.calm
  buck := (congrArg (fun y : State => y.pow.buckTry) hf.rest).trans h.buck
  regs k hk := (hf.regs k (settleKey_supply hk)).trans (h.regs k hk)

theorem SupplyKept.set (h : SupplyKept b s) {f : Fld} {i v : Nat} (hf : f.key i / 32 ≠ F.SUPPLY_STATUS_VAON_GOOD.base) :
    SupplyKept b (s.set f i v) :=
  ⟨h.calm, h.buck, fun k hk => (Store.get_set_of_ne _ _ (by rintro rfl; exact hf hk)).trans (h.regs k hk)⟩
/-- The registers are as they were, and so is what the power sequencer has to do. -/
theorem SupplyKept.withParts (h : SupplyKept b s) {now pending cz1604 mode img pow br par sets mirPh mirRail phases rails ports rcd spi pmb cj
    otp sec tlm jrn pk th ctx0 ctxs rings code entry} (hw : pow.wantSafestopClr = s.pow.wantSafestopClr) (hb : pow.buckTry = s.pow.buckTry) :
    SupplyKept b ⟨now, pending, cz1604, mode, s.regs, img, pow, br, par, sets, mirPh, mirRail, phases, rails, ports, rcd, spi, pmb, cj, otp,
      sec, tlm, jrn, pk, th, ctx0, ctxs, rings, code, entry⟩ :=
  ⟨hw.trans h.calm, hb.trans h.buck, h.regs⟩
theorem SupplyKept.ite {c : Prop} [Decidable c] {y : State} (hx : SupplyKept b x) (hy : SupplyKept b y) : SupplyKept b (if c then x else y) := by
  split <;> assumption
theorem SupplyKept.when (h : SupplyKept b s) {c : Bool} {f : State → State} (hf : ∀ x, SupplyKept b x → SupplyKept b (f x)) :
    SupplyKept b (s.when c f) := .ite (hf _ h) h
theorem SupplyKept.foldl {α : Type} {f : State → α → State} {l : List α} (h : SupplyKept b s)
    (hf : ∀ x a, SupplyKept b x → SupplyKept b (f x a)) : SupplyKept b (l.foldl f s) :=
  List.foldlRecOn l f h fun x hx a _ => hf x a hx
theorem SupplyKept.logC (h : SupplyKept b s) {code unit : Nat} {items : List (Nat × Int)} (hc : pageOk code unit = true) :
    SupplyKept b (s.logC code unit items) := h.framed (State.logC_only _ _ hc)

/-- A wake event waits (R66). -/
theorem SupplyKept.pend (h : SupplyKept b s) {src : Nat} : SupplyKept b (s.pend src) :=
  .withParts (h.set (f := F.MODE_STATUS_WAKE_PEND) (i := 0) (by decide)) rfl rfl

/-! ## The Control die's reset, takeover and return -/

theorem SupplyKept.endSession (h : SupplyKept b s) {cause : Nat} (hc : cause = 6 ∨ cause = 7) : SupplyKept b (s.endSession cause) := by
  rw [State.endSession_reset s hc]
  exact .ite ((h.withParts rfl rfl).logC rfl) (.ite (h.withParts rfl rfl) h)
theorem SupplyKept.dropHints (h : SupplyKept b s) : SupplyKept b s.dropHints :=
  h.foldl fun x r hx => hx.framed (State.putF_framed r (State.putHints_framed r [] (.refl x)))
theorem SupplyKept.jrnAbandon (h : SupplyKept b s) : SupplyKept b s.jrnAbandon := by
  unfold State.jrnAbandon
  split
  · exact h
  · exact (h.set (f := F.JRN_STATUS_BUSY) (i := 0) (by decide)).withParts rfl rfl
theorem SupplyKept.dropCommit (h : SupplyKept b s) : SupplyKept b s.dropCommit :=
  .withParts (.set (.set h.jrnAbandon (f := F.JRN_STATUS_DEFER) (i := 0) (by decide)) (f := F.JRN_STATUS_DEFER_CAUSE) (i := 0) (by decide))
    rfl rfl
theorem SupplyKept.dropMailbox (h : SupplyKept b s) : SupplyKept b s.dropMailbox := h.withParts rfl rfl
theorem SupplyKept.modPh (h : SupplyKept b s) {n : Fin 32} {f : Phase → Phase} : SupplyKept b (s.modPh n f) := h.withParts rfl rfl
theorem SupplyKept.dropLinks (h : SupplyKept b s) : SupplyKept b s.dropLinks := h.withParts rfl rfl
theorem SupplyKept.controlReset (h : SupplyKept b s) {c : CtCause} : SupplyKept b (s.controlReset c) := by
  unfold State.controlReset
  extract_lets dropped unreserved
  have hd : SupplyKept b dropped := (h.endSession (.inr rfl)).dropMailbox.dropHints.dropCommit.dropLinks
  have hu : SupplyKept b unreserved := hd.foldl fun _ _ hx => hx.modPh
  clear_value unreserved
  exact hu.withParts rfl rfl

theorem SupplyKept.modRail (h : SupplyKept b s) {r : Fin 8} {f : Rail → Rail} : SupplyKept b (s.modRail r f) := h.withParts rfl rfl
theorem SupplyKept.takeRail (h : SupplyKept b s) {r : Fin 8} : SupplyKept b (s.takeRail r) := by
  unfold State.takeRail
  split
  · exact h.modRail.modRail
  · exact h.framed (State.disarm_framed r (.refl s))
theorem SupplyKept.ctMarked (h : SupplyKept b s) {c : CtCause} {mask : Nat} : SupplyKept b (s.ctMarked c mask) :=
  (((h.set (f := F.CT_STATUS_CT_ACT) (i := 0) (by decide)).set (f := F.CT_STATUS_CT_CAUSE) (i := 0) (by decide)).set
    (f := F.CT_STATUS_CT_RAILS) (i := 0) (by decide)).set (f := F.CT_STATUS_ADOPT_RES) (i := 0) (by decide)
theorem SupplyKept.takeover (h : SupplyKept b s) {c : CtCause} : SupplyKept b (s.takeover c) := by
  unfold State.takeover
  extract_lets held mask svc taken marked pow timed entered
  have htaken : SupplyKept b taken := h.foldl fun _ _ hx => hx.takeRail
  have hmarked : SupplyKept b marked := htaken.ctMarked
  clear_value marked
  have htimed : SupplyKept b timed := hmarked.withParts rfl rfl
  clear_value timed
  exact (htimed.framed (State.enter_framed 15 .caretaker (.refl timed))).framed (State.logF_only _ _ _ rfl)
/-- T15 (R325). -/
theorem SupplyKept.lose (h : SupplyKept b s) {c : CtCause} (hm : s.mode = .precheck ∨ s.mode = .service ∨ s.mode.running = true)
    (hsw : allRails.any (fun r => (s.st r).switching) = true) : SupplyKept b (s.lose c) := by
  have hx : SupplyKept b ((s.onRails fun s r => s.discard r 1).controlReset c) :=
    .controlReset (h.foldl fun x r hx => hx.framed (State.discard_framed r 1 (.refl x)))
  have hc := s.lost_carried c
  rw [State.lose_live s c hm]
  dsimp only
  rw [if_pos (hc.held.any_switching.trans hsw)]
  exact hx.takeover
theorem SupplyKept.controlBack (h : SupplyKept b s) : SupplyKept b s.controlBack := by
  unfold State.controlBack
  extract_lets linked pow br up told c counted
  have hlink : SupplyKept b (s.cjAfresh.mark F.BRIDGE_STATUS_LINK_UP) :=
    .set (h.withParts rfl rfl) (f := F.BRIDGE_STATUS_LINK_UP) (i := 0) (by decide)
  have hlinked : SupplyKept b linked := hlink.when fun _ hx => hx.set (f := F.PMB_STATUS_STATUS_CML) (i := 0) (by decide)
  have hup : SupplyKept b up := hlinked.withParts rfl rfl
  have htold : SupplyKept b told := hup.when fun _ hx => hx.logC rfl
  have hcounted : SupplyKept b counted := htold.when fun _ hx => (hx.withParts rfl rfl).withParts rfl rfl
  exact hcounted.withParts rfl rfl

end Sys2Proof.Machine
end


section
/-!
The effects of the monitors of VAON, VCORE and VDDIO, each by the least update that it makes before the end of the update.
-/
namespace Sys2Proof.Machine

variable {s : State} {mv : Nat}

/-! ## VAON -/

/-- After a VAON power-on reset the device is in DORMANT, and the end of the update acts on nothing. -/
theorem State.cold_rests (s : State) : s.cold.mode = .dormant ∧ s.cold.Still := by
  have hl : State.reset.flag F.CJ_CFG_CJ_EN = false := by decide +kernel
  have hc : s.cold.flag F.CJ_CFG_CJ_EN = State.reset.flag F.CJ_CFG_CJ_EN := by
    unfold State.cold
    generalize State.reset = z
    rfl
  exact ⟨rfl, rfl, hc.trans hl, rfl⟩
theorem State.cold_mram (s : State) : s.cold.jrn.mram = s.jrn.mram := rfl
/-- In DORMANT no rail may arm. -/
theorem State.cold_mayArm (s : State) (r : Fin 8) : s.cold.mayArm r = false := by
  simp [State.mayArm, s.cold_rests.1, Mode.running]
theorem State.cold_st (s : State) (r : Fin 8) : s.cold.st r = .off := by
  have hr : s.cold.rail r = {} := Vector.getElem_replicate _
  rw [State.st, hr]

/-! ## VCORE and the core buck -/

/-- VCORE good (R44, R519): the field and the tries of the buck, whether or not the Control die comes back. -/
theorem State.supplyGood_vcore (hm : s.mode ≠ .dormant) :
    SupplyKept { s.mark F.SUPPLY_STATUS_VCORE_GOOD with pow.buckTry := 0 } (s.supplyGood .vcore) := by
  unfold State.supplyGood
  dsimp only
  rw [if_neg (by simpa using hm)]
  exact .when (.refl _) fun _ hx => hx.controlBack

theorem State.buckRestart_due (ht : s.pow.buckTry ≠ 0) (h33 : s.flag F.SUPPLY_STATUS_VDD33_GOOD = true)
    (hc : s.flag F.SUPPLY_STATUS_VCORE_GOOD = false) (hd : s.pow.buckAt + (if s.pow.buckTry = 1 then 100000 else 10000000) ≤ s.now) :
    s.buckRestart = { s with pow := { s.pow with buckTry := s.pow.buckTry + 1, buckAt := s.now } } :=
  if_pos (by rw [h33, hc]; simpa [ht] using hd)

/-- The loss of VCORE is told; the core buck waits for its first try (R49, R519). -/
def State.vcoreTell (s : State) : State :=
  let x := s.logF 0x0203 0 [(1, s.mode.code)]
  { x with pow.buckTry := 1, pow.buckAt := x.now }
/-- VCORE is lost after WAKE, and the loss is told. -/
def State.vcoreTold (s : State) : State := ((s.clear F.SUPPLY_STATUS_VCORE_GOOD).mark F.SUPPLY_STATUS_VCORE_LOSS).vcoreTell
theorem State.vcoreTold_log (s : State) : Framed ((s.clear F.SUPPLY_STATUS_VCORE_GOOD).mark F.SUPPLY_STATUS_VCORE_LOSS)
    (((s.clear F.SUPPLY_STATUS_VCORE_GOOD).mark F.SUPPLY_STATUS_VCORE_LOSS).logF 0x0203 0 [(1, (s.mode.code : Int))]) :=
  State.logF_only _ _ _ rfl
theorem State.vcoreTold_get (s : State) {f : Fld} (hf : settleKey (f.key 0) = false) :
    s.vcoreTold.get f = ((s.clear F.SUPPLY_STATUS_VCORE_GOOD).mark F.SUPPLY_STATUS_VCORE_LOSS).get f := s.vcoreTold_log.get f 0 hf
theorem State.vcoreTold_reads (s : State) :
    s.vcoreTold.get F.SUPPLY_STATUS_VCORE_GOOD = 0 ∧ s.vcoreTold.get F.SUPPLY_STATUS_VCORE_LOSS = 1 := by
  rw [s.vcoreTold_get (by decide), s.vcoreTold_get (by decide)]
  simp (decide := true) [State.get_set]
theorem State.vcoreTold_held (s : State) : Held s s.vcoreTold :=
  have hlog := State.logF_held 0x0203 0 [(1, (s.mode.code : Int))] .none
    (((Held.refl s).clear F.SUPPLY_STATUS_VCORE_GOOD 0).mark F.SUPPLY_STATUS_VCORE_LOSS 0)
  ⟨hlog.mode, hlog.st, hlog.stop⟩
theorem State.vcoreTold_still (h : s.Still) : s.vcoreTold.Still := by
  obtain ⟨hcalm, hlink, hstop⟩ := h
  refine ⟨s.vcoreTold_log.calm.trans hcalm, ?_, s.vcoreTold_held.stop.trans hstop⟩
  rw [State.flag, s.vcoreTold_get (by decide)]
  simpa (decide := true) [State.get_set, State.flag] using hlink
theorem State.vcoreLoss_awake (hg : s.flag F.SUPPLY_STATUS_VCORE_GOOD = true) (h33 : s.flag F.SUPPLY_STATUS_VDD33_GOOD = true)
    (hm : s.awake = true) : s.vcoreLoss = s.vcoreTold.lose .vcore := by
  have hup : (s.clear F.SUPPLY_STATUS_VCORE_GOOD).awake = true := hm
  have hloss : s.vcoreLoss = State.lose (State.vcoreTell ((s.clear F.SUPPLY_STATUS_VCORE_GOOD).when
      (s.clear F.SUPPLY_STATUS_VCORE_GOOD).awake (·.mark F.SUPPLY_STATUS_VCORE_LOSS))) .vcore := if_neg (by rw [hg, h33]; decide)
  rw [hloss, hup, State.when_true]
  rfl

/-! ## VDDIO -/

/-- VDDIO stands in a mode (R45). -/
def State.vddioGood (s : State) (hi : Nat) : State :=
  { (s.mark F.SUPPLY_STATUS_VDDIO_GOOD).set F.SUPPLY_STATUS_VDDIO_MODE 0 hi with pow.vddioSel := true }
theorem State.vddioMode_high (hs : s.pow.vddioSel = false) (hv : 2900 ≤ mv) : s.vddioMode mv = s.vddioGood 1 := by
  unfold State.vddioMode
  rw [hs, if_neg (by decide), if_pos hv]
  rfl
theorem State.vddioMode_low (hs : s.pow.vddioSel = false) (hl : 1600 ≤ mv) (hh : mv ≤ 1980) : s.vddioMode mv = s.vddioGood 0 := by
  unfold State.vddioMode
  rw [hs, if_neg (by decide), if_neg (by omega), if_pos (by simp [hl, hh])]
  rfl
theorem State.vddioMode_neither (hs : s.pow.vddioSel = false) (hv : mv < 1600 ∨ 1980 < mv ∧ mv < 2900) :
    s.vddioMode mv = s.clear F.SUPPLY_STATUS_VDDIO_GOOD := by
  unfold State.vddioMode
  rw [hs, if_neg (by decide), if_neg (by omega), if_neg (by rw [Bool.and_eq_true, decide_eq_true_eq, decide_eq_true_eq]; omega)]
theorem State.vddioGood_reads (s : State) {hi : Nat} (h : hi < 2) :
    (s.vddioGood hi).get F.SUPPLY_STATUS_VDDIO_GOOD = 1 ∧ (s.vddioGood hi).get F.SUPPLY_STATUS_VDDIO_MODE = hi :=
  ⟨(State.get_set_of_ne _ _ _ _ _ _ (by decide)).trans (State.get_set_self ..), (State.get_set_self ..).trans (Nat.mod_eq_of_lt h)⟩

/-- Two register fields of a frame, with other parts that it names. -/
theorem Changes.of_two {ps : List Part} {fs : List Fld} {f g : Fld} {v w : Nat} {x : State} (hx : x.rest = (State.puts x s ps).rest)
    (hr : x.regs = ((s.set f 0 v).set g 0 w).regs) (hf : f ∈ fs) (hg : g ∈ fs) (hfit : f.fits = true ∧ g.fits = true)
    (hi : 0 < f.count ∧ 0 < g.count) : Changes ps fs s x :=
  ⟨hx, fun k hk hn => by
    rw [hr]
    exact ((Changes.set (ps := []) hg hfit.2 hi.2 w).regs k hk hn).trans ((Changes.set (ps := []) hf hfit.1 hi.1 v).regs k hk hn)⟩

theorem State.vddioGood_changes (s : State) (hi : Nat) :
    Changes [.pow] [F.SUPPLY_STATUS_VDDIO_GOOD, F.SUPPLY_STATUS_VDDIO_MODE] s (s.vddioGood hi) :=
  .of_two (v := 1) (w := hi) rfl rfl (List.mem_cons_self ..) (List.mem_cons_of_mem _ (List.mem_cons_self ..)) (by decide) (by decide)

/-- VDDIO is lost after WAKE, its record apart (R49). -/
def State.vddioLost (s : State) : State :=
  State.dropTap (State.mark { s.clear F.SUPPLY_STATUS_VDDIO_GOOD with pow.vddioSel := false } F.SUPPLY_STATUS_VDDIO_LOSS)
theorem State.vddioLoss_regulate (hg : s.flag F.SUPPLY_STATUS_VDDIO_GOOD = true) (hm : s.mode = .regulate) :
    s.vddioLoss = s.vddioLost.logF 0x0202 0 [(1, (s.mode.code : Int))] := by
  have hmode : s.vddioLost.mode = .regulate := hm
  have hlogged : (s.vddioLost.logF 0x0202 0 [(1, (s.vddioLost.mode.code : Int))]).mode = .regulate := (State.raise_mode ..).trans hmode
  unfold State.vddioLoss
  rw [hg, if_neg (by decide)]
  extract_lets off pow down marked tap
  have hmarked : marked = down.mark F.SUPPLY_STATUS_VDDIO_LOSS := if_pos (by rw [State.awake, show down.mode = .regulate from hm]; decide)
  have htap : tap = s.vddioLost := congrArg State.dropTap hmarked
  rw [htap, show (s.vddioLost.mode != .dormant) = true by rw [hmode]; rfl, State.when_true]
  exact if_pos (by rw [State.parsing, hlogged]; rfl)
theorem State.vddioLost_reads (s : State) :
    s.vddioLost.get F.SUPPLY_STATUS_VDDIO_GOOD = 0 ∧ s.vddioLost.get F.SUPPLY_STATUS_VDDIO_LOSS = 1 := by
  have hregs : s.vddioLost.regs = ((s.clear F.SUPPLY_STATUS_VDDIO_GOOD).mark F.SUPPLY_STATUS_VDDIO_LOSS).regs := rfl
  rw [State.get_def, State.get_def, hregs, ← State.get_def, ← State.get_def]
  simp (decide := true) [State.get_set]
theorem State.vddioLost_changes (s : State) :
    Changes [.pow, .sec, .rcd] [F.SUPPLY_STATUS_VDDIO_GOOD, F.SUPPLY_STATUS_VDDIO_LOSS] s s.vddioLost :=
  .of_two (v := 0) (w := 1) rfl rfl (List.mem_cons_self ..) (List.mem_cons_of_mem _ (List.mem_cons_self ..)) (by decide) (by decide)

end Sys2Proof.Machine
end


section
/-!
VDD33: its return, and its loss after WAKE, which brings every rail that is neither OFF nor LATCHED to OFF and the device on its way to
DORMANT (R49).
-/
namespace Sys2Proof.Machine

variable {b s : State}

/-- VDD33 good (R44, R66): the field, whether or not a wake event follows. -/
theorem State.supplyGood_vdd33 (s : State) : SupplyKept (s.mark F.SUPPLY_STATUS_VDD33_GOOD) (s.supplyGood .vdd33) := by
  have hgood : SupplyKept (s.mark F.SUPPLY_STATUS_VDD33_GOOD)
      { s.mark F.SUPPLY_STATUS_VDD33_GOOD with pow.vddActs := s.pow.vddActs && s.mode != .dormant } := (SupplyKept.refl _).withParts rfl rfl
  exact hgood.when fun _ hx => hx.pend

/-- The same write on both sides of a frame. -/
theorem Framed.set_both (h : Framed b s) (f : Fld) (i v : Nat) : Framed (b.set f i v) (s.set f i v) :=
  ⟨h.rest, fun k hk => by simp only [State.set, Store.get_set, h.regs k hk], h.evq⟩

/-- The Aedat pads have no supply after its loss; a loss that finds none changes nothing (R256). -/
theorem State.padLoss_framed (s : State) : Framed (s.clear F.SUPPLY_STATUS_AL_IO_GOOD) s.padLoss := by
  unfold State.padLoss
  refine Framed.ite' (fun hno => ⟨rfl, fun k _ => ?_, List.prefix_rfl⟩) fun _ => State.logC_only _ _ rfl
  have hz : s.regs.get (F.SUPPLY_STATUS_AL_IO_GOOD.key 0) = 0 := by simpa [State.flag, State.get] using hno
  simp only [State.clear_eq, State.set, Store.get_set, Nat.zero_mod]
  split
  next hk => rw [hk, hz]
  next => rfl
theorem State.padLoss_held (s : State) : Held s s.padLoss :=
  .ite (.refl s) (State.logC_held _ _ _ ((Held.refl s).clear _ _))

theorem State.endLs_held (s : State) (r : Fin 8) : Held s (s.endLs r) := by
  unfold State.endLs
  extract_lets f told ended undriven
  have ht : Held s told := (Held.refl s).when _ _ fun _ hx => State.logF_held _ _ _ _ hx
  have hu : Held s undriven := Held.foldl _ _ _ (ht.modFr _ _) fun _ _ hx => hx.modPh _ _
  exact (((hu.clear _ _).clear _ _).clear _ _).clear _ _
theorem State.fastStop_held (s : State) (r : Fin 8) : Held s (s.fastStop r) := by
  have ht : Held s ((s.endLs r).triRail r) := Held.foldl _ _ _ (s.endLs_held r) fun _ _ hx => State.toLevelAt_held _ _ _ hx
  exact ((ht.setB _ _ _).modFr _ _).clear _ _
theorem State.railOff_st (s : State) (r : Fin 8) : (s.railOff r).st r = .off := ((s.railOff_after r).1.st r).trans (State.setRail_st r .off)

/-- One rail at the loss of VDD33 (R49): a fast stop to OFF, unless it is in OFF or LATCHED. -/
def State.darken (s : State) (r : Fin 8) : State :=
  match s.st r with
  | .off | .latched => s
  | _ => (s.fastStop r).railOff r
theorem State.darken_eq (s : State) (r : Fin 8) : s.darken r = s ∨ s.darken r = (s.fastStop r).railOff r := by
  unfold State.darken
  split
  · exact .inl rfl
  · exact .inl rfl
  · exact .inr rfl
theorem State.darken_framed (s : State) (r : Fin 8) : Framed s (s.darken r) := by
  rcases s.darken_eq r with h | h <;> rw [h]
  · exact .refl s
  · exact State.railOff_framed r (State.fastStop_framed r (.refl s))
theorem State.darken_st_other {r q : Fin 8} (hq : q ≠ r) : (s.darken r).st q = s.st q := by
  rcases s.darken_eq r with h | h <;> rw [h]
  exact (State.railOff_st_other r q hq).trans ((s.fastStop_held r).st q)
theorem State.darken_st_self {r : Fin 8} (h : s.st r = .off ∨ (s.st r).switching = true) : (s.darken r).st r = .off := by
  unfold State.darken
  split
  · assumption
  next hl => rw [hl] at h; exact absurd h (by decide)
  · exact State.railOff_st _ r
/-- Every switching rail of the list is OFF after its turn. -/
theorem State.darkens_st (q : Fin 8) : ∀ (l : List (Fin 8)) (s : State), s.st q = .off ∨ (s.st q).switching = true ∧ q ∈ l →
    (l.foldl State.darken s).st q = .off
  | [], _, h => h.resolve_right fun hq => List.not_mem_nil hq.2
  | a :: l, s, h => by
    refine State.darkens_st q l _ ?_
    by_cases hq : q = a
    · subst hq
      exact .inl (State.darken_st_self (h.imp_right And.left))
    · rw [State.darken_st_other hq]
      exact h.imp_right fun ⟨hsw, hmem⟩ => ⟨hsw, (List.mem_cons.1 hmem).resolve_left hq⟩

/-- The fields that a loss of VDD33 changes after WAKE (R46, R49). -/
def State.vddMarked (s : State) : State :=
  ((s.clear F.SUPPLY_STATUS_VDD33_GOOD).clear F.SUPPLY_STATUS_AL_IO_GOOD).mark F.SUPPLY_STATUS_VDD33_LOSS
/-- The loss of VDD33 is told (R49). -/
def State.vddTold (s : State) : State :=
  let x := (s.clear F.SUPPLY_STATUS_VDD33_GOOD).padLoss.mark F.SUPPLY_STATUS_VDD33_LOSS
  x.logF 0x0201 0 [(1, x.mode.code)]
theorem State.vddTold_framed (s : State) : Framed s.vddMarked s.vddTold :=
  (((s.clear F.SUPPLY_STATUS_VDD33_GOOD).padLoss_framed).set_both _ _ _).trans (State.logF_only _ _ _ rfl)
theorem State.vddTold_held (s : State) : Held s s.vddTold :=
  State.logF_held _ _ _ _ ((((Held.refl s).clear _ _).trans (State.padLoss_held _)).mark _ _)
/-- Then no rail is driven (R49). -/
def State.vddDark (s : State) : State := (s.vddTold.onRails State.darken).allOff
theorem State.vddDark_framed (s : State) : Framed s.vddMarked s.vddDark :=
  (s.vddTold_framed.onRails _ fun x r hx => hx.trans (x.darken_framed r)).trans (State.allOff_framed _)
theorem State.vddDark_st {r : Fin 8} (h : (s.st r).switching = true) : s.vddDark.st r = .off := by
  refine ((State.allOff_held _).st r).trans (State.darkens_st r allRails _ (.inr ⟨?_, (by decide : ∀ r, r ∈ allRails) r⟩))
  rw [s.vddTold_held.st, h]
/-- The device is on its way to DORMANT (R49, T26). -/
def State.vddActing (s : State) : State := { s with pow.vddActs := true, pow.stopSet := 0 }
theorem State.vddActing_get (s : State) (f : Fld) : s.vddActing.get f = s.get f := rfl
theorem State.vddActing_st (s : State) (r : Fin 8) : s.vddActing.st r = s.st r := rfl
theorem State.vddLoss_awake (hg : s.flag F.SUPPLY_STATUS_VDD33_GOOD = true) (hm : s.awake = true) :
    s.vddLoss = s.vddDark.vddActing := by
  have hmode := ((Held.refl s).clear F.SUPPLY_STATUS_VDD33_GOOD 0).trans (State.padLoss_held _) |>.mode
  have hup : (s.clear F.SUPPLY_STATUS_VDD33_GOOD).padLoss.awake = true := by
    unfold State.awake
    rw [hmode]
    exact hm
  have hne : ((s.clear F.SUPPLY_STATUS_VDD33_GOOD).padLoss.mode == .dormant) = false := by
    rw [hmode]
    simp only [State.awake, Bool.and_eq_true, bne_iff_ne] at hm
    exact beq_false_of_ne hm.1
  unfold State.vddLoss
  rw [hg, if_neg (by decide)]
  extract_lets lost marked told dark off pow
  rw [show (lost.mode == .dormant) = false from hne, if_neg (by decide)]
  have hmarked : marked = lost.mark F.SUPPLY_STATUS_VDD33_LOSS := if_pos hup
  have htold : told = s.vddTold := by
    simp only [told, hmarked]
    rfl
  have hoff : off = s.vddDark := congrArg (fun x : State => (x.onRails State.darken).allOff) htold
  rw [← hoff]
  rfl

theorem State.vddLoss_get (hg : s.flag F.SUPPLY_STATUS_VDD33_GOOD = true) (hm : s.awake = true) {f : Fld}
    (hf : settleKey (f.key 0) = false) : s.vddLoss.get f = s.vddMarked.get f := by
  rw [State.vddLoss_awake hg hm, State.vddActing_get]
  exact s.vddDark_framed.get f 0 hf
theorem State.vddLoss_reads (hg : s.flag F.SUPPLY_STATUS_VDD33_GOOD = true) (hm : s.awake = true) :
    s.vddLoss.get F.SUPPLY_STATUS_VDD33_GOOD = 0 ∧ s.vddLoss.get F.SUPPLY_STATUS_VDD33_LOSS = 1 ∧
      s.vddLoss.get F.SUPPLY_STATUS_AL_IO_GOOD = 0 := by
  rw [State.vddLoss_get hg hm (by decide), State.vddLoss_get hg hm (by decide), State.vddLoss_get hg hm (by decide)]
  simp (decide := true) [State.vddMarked, State.get_set]
theorem State.vddLoss_st (hg : s.flag F.SUPPLY_STATUS_VDD33_GOOD = true) (hm : s.awake = true) {r : Fin 8}
    (hr : (s.st r).switching = true) : s.vddLoss.st r = .off := by
  rw [State.vddLoss_awake hg hm, State.vddActing_st]
  exact State.vddDark_st hr
/-- The device is on its way to DORMANT, and the end of the update acts on nothing else. -/
theorem State.vddLoss_rests (hs : s.Still) (hg : s.flag F.SUPPLY_STATUS_VDD33_GOOD = true) (hm : s.awake = true) :
    s.vddLoss.Still ∧ s.vddLoss.pow.vddActs = true := by
  obtain ⟨hcalm, hlink, -⟩ := hs
  have hcj : s.vddLoss.flag F.CJ_CFG_CJ_EN = s.flag F.CJ_CFG_CJ_EN := by
    rw [State.flag, State.vddLoss_get hg hm (by decide)]
    simp (decide := true) [State.vddMarked, State.get_set, State.flag]
  have hdark := s.vddDark_framed.calm
  rw [State.vddLoss_awake hg hm] at hcj ⊢
  generalize s.vddDark = x at hcj hdark ⊢
  exact ⟨⟨hdark.trans hcalm, hcj.trans hlink, rfl⟩, rfl⟩
/-- No rail may arm on the way to DORMANT. -/
theorem State.mayArm_of_vddActs (h : s.pow.vddActs = true) (r : Fin 8) : s.mayArm r = false := by simp [State.mayArm, h]

end Sys2Proof.Machine
end


section
/-!
A strap reading: the two outcomes of a pair (R53, R55). Then O20, command by command.
-/
namespace Sys2Proof.Machine

variable {s : State} {a e c : Nat}

/-- A code of Table 2.7 fits its field. -/
theorem strapCode_lt (h : strapCode a = some c) : c < 8 := by
  unfold strapCode at h
  split_ifs at h <;> simp only [Option.some.injEq] at h <;> omega

/-- The code field of a strap stands apart from what is told of all straps, has three bits, and is none that the end of an update writes. -/
theorem strapField_apart : ∀ n : Fin 5, (strapField n).key 0 ≠ F.STRAP_STATUS_STRAP_BAD.key 0 ∧
    (strapField n).key 0 ≠ F.STRAP_STATUS_PM_ADDR.key 0 ∧ (strapField n).key 0 ≠ F.STRAP_STATUS_PROFILE.key 0 ∧ (strapField n).width = 3 ∧
    settleKey ((strapField n).key 0) = false := by decide

/-- A strap takes its code (R53). -/
theorem State.strapTaken_code (s : State) (n : Fin 5) (o : Option Nat) (h : o.getD (strapDefault n) < 8) :
    (s.strapTaken n o).get (strapField n) = o.getD (strapDefault n) := by
  obtain ⟨hbad, haddr, hprof, hwidth, -⟩ := strapField_apart n
  unfold State.strapTaken
  extract_lets coded bad told c1 bits prof shown done
  show shown.get (strapField n) = _
  rw [State.get_set_of_ne _ _ _ _ _ _ hprof, State.get_set_of_ne _ _ _ _ _ _ haddr, State.get_set_of_ne _ _ _ _ _ _ hbad,
    State.get_set_self, hwidth]
  exact Nat.mod_eq_of_lt h
/-- A strap without a code is told bad (R55). -/
theorem State.strapTaken_bad (s : State) (n : Fin 5) : ((s.strapTaken n none).get F.STRAP_STATUS_STRAP_BAD).testBit n = true := by
  unfold State.strapTaken
  extract_lets coded bad told c1 bits prof shown done
  show (shown.get F.STRAP_STATUS_STRAP_BAD).testBit n = true
  rw [State.get_set_of_ne _ _ _ _ _ _ (by decide), State.get_set_of_ne _ _ _ _ _ _ (by decide), State.get_set_self,
    show bad = 2 ^ n.val from rfl, Nat.sub_add_cancel Nat.right_le_or, show F.STRAP_STATUS_STRAP_BAD.width = 5 from rfl,
    Nat.testBit_mod_two_pow, Nat.testBit_or, Nat.testBit_two_pow_self, Bool.or_true, Bool.and_true, decide_eq_true n.isLt]
theorem State.strapTaken_calm (n : Fin 5) (o : Option Nat) (h : s.Calm) : (s.strapTaken n o).Calm := h

/-- A pair of readings is counted (R53). -/
def State.strapCounted (s : State) (n : Fin 5) : State :=
  { s with pow := { s.pow with strapPairs := s.pow.strapPairs.set n (s.pow.strapPairs.getD n 0 + 1) } }
theorem State.strapWaits (hm : s.mode = .wake) (hd : s.pow.strapDone = [false, false, false, false, false]) (n : Fin 5) :
    (s.mode != .wake || s.pow.strapDone.getD n true) = false := by
  have hnone : ∀ n : Fin 5, [false, false, false, false, false].getD n true = false := by decide
  rw [hm, hd, hnone n]
  rfl
theorem State.strapRead_agree (hm : s.mode = .wake) (hd : s.pow.strapDone = [false, false, false, false, false]) (n : Fin 5)
    (ha : strapCode a = some c) (he : strapCode e = some c) : s.strapRead n a e = (s.strapCounted n).strapTaken n (some c) := by
  unfold State.strapRead
  rw [State.strapWaits hm hd n, if_neg (by decide), ha, he]
  exact if_pos rfl
theorem State.strapRead_fourth (hm : s.mode = .wake) (hd : s.pow.strapDone = [false, false, false, false, false]) (n : Fin 5)
    (hp : s.pow.strapPairs = [3, 3, 3, 3, 3]) (ha : strapCode a = none) :
    s.strapRead n a e = (s.strapCounted n).strapTaken n none := by
  have hthree : ∀ n : Fin 5, [3, 3, 3, 3, 3].getD n 0 = 3 := by decide
  unfold State.strapRead
  rw [State.strapWaits hm hd n, if_neg (by decide), ha]
  exact if_pos (by rw [hp, hthree n])

end Sys2Proof.Machine
open Sys2Proof Sys2Proof.Machine

/-- Settles O20: each command by its least effect, which the end of the update leaves (`run_gives`); the loss of VCORE is the takeover of
`loss_gives`, which leaves SUPPLY_STATUS alone (`SupplyKept.lose`). -/
theorem suppliesAndStraps : Obligations.SuppliesAndStraps := by
  unfold Obligations.SuppliesAndStraps
  refine ⟨fun t s hs => ?_, fun t s hs => ?_, fun t s hs hm => ?_, fun t s hs hm => ?_, fun t s mv hs hsel hv => ?_,
    fun t s mv hs hsel hl hh => ?_, fun t s mv hs hsel hv => ?_, fun t s _ => ?_, fun t s hs hg hm => ?_, fun t s hs hg h33 hm hsw => ?_,
    fun t s hs ht h33 hc hd => ?_, fun t s hs hg hm => ?_, fun t s n a e c hs hm hd ha he => ?_, fun t s n a e hs hm hd hp ha => ?_⟩
  · exact run_gives (f := (·.supplyGood .vaon)) rfl rfl hs fun u _ hf =>
      ⟨(hf.get _ _ (by decide)).trans (State.get_set_self ..),
        (hf.changes (Changes.set (f := F.SUPPLY_STATUS_VAON_GOOD) (List.mem_singleton.2 rfl) (by decide) (by decide) 1)).of_at⟩
  · have hk := (s.at t).supplyGood_vdd33
    exact run_gives (f := (·.supplyGood .vdd33)) rfl rfl (hk.calm.trans hs) fun u _ hf =>
      ((hk.framed hf).get _ rfl).trans (State.get_set_self ..)
  · have hup : ((s.at t).mode == .dormant) = false := beq_false_of_ne hm
    cases hg : s.flag F.SUPPLY_STATUS_VDD33_GOOD with
    | true =>
      refine run_gives (f := (·.supplyGood .alIo)) rfl (if_neg ?_) hs fun u _ hf => (hf.get _ _ (by decide)).trans (State.get_set_self ..)
      rw [hup, show (s.at t).flag F.SUPPLY_STATUS_VDD33_GOOD = true from hg]
      decide
    | false =>
      refine run_gives (f := (·.supplyGood .alIo)) rfl (if_pos ?_) hs fun u _ hf => hf.get _ _ (by decide)
      rw [hup, show (s.at t).flag F.SUPPLY_STATUS_VDD33_GOOD = false from hg]
      rfl
  · have hk := State.supplyGood_vcore (s := s.at t) hm
    exact run_gives (f := (·.supplyGood .vcore)) rfl rfl (hk.calm.trans hs) fun u _ hf =>
      ⟨((hk.framed hf).get F.SUPPLY_STATUS_VCORE_GOOD rfl).trans (State.get_set_self (s.at t) F.SUPPLY_STATUS_VCORE_GOOD 0 1),
        (hk.framed hf).buck⟩
  · obtain ⟨hgood, hmode⟩ := (s.at t).vddioGood_reads (hi := 1) (by decide)
    exact run_gives (f := (·.vddioMode mv)) rfl (State.vddioMode_high (s := s.at t) hsel hv) hs fun u _ hf =>
      ⟨(hf.get _ _ (by decide)).trans hgood, (hf.get _ _ (by decide)).trans hmode, congrArg (fun x : State => x.pow.vddioSel) hf.rest,
        (hf.changes ((s.at t).vddioGood_changes 1)).of_at⟩
  · obtain ⟨hgood, hmode⟩ := (s.at t).vddioGood_reads (hi := 0) (by decide)
    exact run_gives (f := (·.vddioMode mv)) rfl (State.vddioMode_low (s := s.at t) hsel hl hh) hs fun u _ hf =>
      ⟨(hf.get _ _ (by decide)).trans hgood, (hf.get _ _ (by decide)).trans hmode, congrArg (fun x : State => x.pow.vddioSel) hf.rest⟩
  · exact run_gives (f := (·.vddioMode mv)) rfl (State.vddioMode_neither (s := s.at t) hsel hv) hs fun u _ hf =>
      ⟨(hf.get _ _ (by decide)).trans (State.get_set_self ..),
        (hf.changes (Changes.set (f := F.SUPPLY_STATUS_VDDIO_GOOD) (List.mem_singleton.2 rfl) (by decide) (by decide) 0)).of_at⟩
  · obtain ⟨hm, hcalm, hlink, hstop⟩ := (s.at t).cold_rests
    refine run_gives (f := State.cold) rfl rfl hcalm fun u hu hf => ⟨?_, hf.cdUp, hf.otp,
      (congrArg Journal.mram hf.jrn).trans (s.at t).cold_mram, hf.cz1604, fun r => ?_, hf.recs⟩
    · exact (run_mode t State.cold u hu hcalm hlink (by rw [hm]; rfl)).trans hm
    · have hoff := (s.at t).cold_st r
      exact (run_st t State.cold u r hu hcalm hlink hstop (State.cold_mayArm _ r) (by rw [hoff]; decide) (by rw [hoff]; decide)).trans hoff
  · have hup : (s.at t).awake = true := by rcases hm with hm | hm <;> simp [State.awake, hm]
    obtain ⟨⟨hcalm, hlink, hstop⟩, hacts⟩ := State.vddLoss_rests (s := s.at t) hs hg hup
    obtain ⟨h33, hloss, hpads⟩ := State.vddLoss_reads (s := s.at t) hg hup
    refine run_gives (f := State.vddLoss) rfl rfl hcalm fun u hu hf => ?_
    have hact : u.pow.vddActs = true := (congrArg (fun x : State => x.pow.vddActs) hf.rest).trans hacts
    refine ⟨(hf.get _ _ (by decide)).trans h33, (hf.get _ _ (by decide)).trans hloss, (hf.get _ _ (by decide)).trans hpads, hact,
      by simp [State.faultN, hact], fun r hr => ?_⟩
    have hoff : (s.at t).vddLoss.st r = .off := State.vddLoss_st (s := s.at t) hg hup hr
    exact (run_st t State.vddLoss u r hu hcalm hlink hstop (State.mayArm_of_vddActs hacts r) (by rw [hoff]; decide)
      (by rw [hoff]; decide)).trans hoff
  · have hup : (s.at t).awake = true := by simpa [State.awake] using Mode.awake_of_live hm
    have hx := State.vcoreLoss_awake (s := s.at t) hg h33 hup
    have hheld := (s.at t).vcoreTold_held
    have hstill := State.vcoreTold_still (s := s.at t) hs
    have hkept : SupplyKept (s.at t).vcoreTold (s.at t).vcoreLoss := by
      rw [hx]
      exact (SupplyKept.refl _).lose (by rw [hheld.mode]; exact hm) (hheld.any_switching.trans hsw)
    obtain ⟨hgood, hloss⟩ := (s.at t).vcoreTold_reads
    have hsupply : Gives (.vcoreLoss t) s (fun u => u.get F.SUPPLY_STATUS_VCORE_GOOD = 0 ∧ u.get F.SUPPLY_STATUS_VCORE_LOSS = 1 ∧
        u.pow.buckTry = 1) :=
      run_gives (f := State.vcoreLoss) rfl rfl (hkept.calm.trans hstill.1) fun u _ hf =>
        ⟨((hkept.framed hf).get _ rfl).trans hgood, ((hkept.framed hf).get _ rfl).trans hloss, (hkept.framed hf).buck⟩
    exact ((loss_gives rfl hx hheld hstill hm hsw).and hsupply).mono
      fun u ⟨⟨hmode, hdown, hact, hst, hcause, _⟩, hgood, hloss, hbuck⟩ => ⟨hmode, hdown, hact, hst, hgood, hloss, hcause, hbuck⟩
  · exact run_gives rfl (State.buckRestart_due (s := s.at t) ht h33 hc hd) hs fun u _ hf =>
      ⟨congrArg (fun x : State => x.pow.buckTry) hf.rest, (hf.changes (Changes.pow _)).of_at⟩
  · have hlog := State.logF_only (s.at t).vddioLost (code := 0x0202) (unit := 0) [(1, ((s.at t).mode.code : Int))] .none rfl
    refine run_gives rfl (State.vddioLoss_regulate (s := s.at t) hg hm) (hlog.calm.trans hs) fun u _ hf => ?_
    have hl := hlog.trans hf
    obtain ⟨hgood, hloss⟩ := (s.at t).vddioLost_reads
    exact ⟨(hl.get _ _ (by decide)).trans hgood, (hl.get _ _ (by decide)).trans hloss, congrArg Sec.tapMode hl.sec,
      (hl.changes (s.at t).vddioLost_changes).of_at⟩
  · obtain ⟨-, -, -, -, hkey⟩ := strapField_apart n
    exact run_gives (f := (·.strapRead n a e)) rfl (State.strapRead_agree (s := s.at t) hm hd n ha he) (State.strapTaken_calm n _ hs)
      fun u _ hf => ⟨(hf.get _ _ hkey).trans (State.strapTaken_code _ n _ (strapCode_lt ha)),
        congrArg (fun x : State => x.pow.strapDone) hf.rest⟩
  · obtain ⟨-, -, -, -, hkey⟩ := strapField_apart n
    have hdef : ∀ n : Fin 5, strapDefault n < 8 := by decide
    refine run_gives (f := (·.strapRead n a e)) rfl (State.strapRead_fourth (s := s.at t) hm hd n hp ha) (State.strapTaken_calm n _ hs)
      fun u _ hf => ⟨(hf.get _ _ hkey).trans (State.strapTaken_code _ n none (hdef n)), ?_⟩
    rw [hf.get F.STRAP_STATUS_STRAP_BAD 0 (by decide)]
    exact State.strapTaken_bad _ n
end


section
/-!
O10: the end of an update puts a device in REGULATE, SHED or HICCUP into the running mode of its rail states (`State.modeRound`), and the
rounds that follow leave the mode and the rail states alone.
-/
namespace Sys2Proof.Machine

variable {i : Instr} {b s u : State}

theorem testPortInstruction_runs {t : Nat} {p : TapInstr} (h : execTestPortInstruction t p s = .next u) : ∃ t f, run t f s = .next u := by
  unfold execTestPortInstruction at h
  by_cases hm : s.makerTest p = true
  · rw [if_pos hm] at h
    exact Host.Outcome.noConfusion rfl rfl rfl (heq_of_eq h)
  · rw [if_neg hm] at h
    exact ⟨_, _, h⟩

/-- Every command that answers a next state is the run of an effect. -/
theorem exec_runs (h : exec i s = .next u) : ∃ t f, run t f s = .next u := by
  cases i with unfold exec at h
  | testPortInstruction => exact testPortInstruction_runs h
  | _ => exact ⟨_, _, h⟩

/-! ## The running mode (R75) -/

theorem mem_allRails (r : Fin 8) : r ∈ allRails := by
  revert r
  decide

theorem State.runningMode_eq_hiccup : s.runningMode = .hiccup ↔
    (∃ r, s.st r = .hiccup) ∧ ∀ r, s.st r ≠ .reg ∧ s.st r ≠ .shed ∧ s.st r ≠ .ramp := by
  have hcond : s.runningMode = .hiccup ↔ (allRails.any (fun r => s.st r == .hiccup) &&
      !allRails.any (fun r => s.st r == .reg || s.st r == .shed || s.st r == .ramp)) = true := by
    dsimp only [State.runningMode]
    split
    next h => simpa using h
    next h => split <;> simpa using h
  simp [hcond, mem_allRails, and_assoc]

theorem State.runningMode_eq_shed : s.runningMode = .shed ↔
    (∃ r, s.st r = .shed) ∧ ∀ r, s.st r ≠ .reg ∧ s.st r ≠ .ramp ∧ s.st r ≠ .hiccup := by
  have hcond : s.runningMode = .shed ↔ (allRails.any (fun r => s.st r == .shed) &&
      !allRails.any (fun r => s.st r == .reg || s.st r == .ramp || s.st r == .hiccup)) = true := by
    dsimp only [State.runningMode]
    split
    next h =>
      -- a rail in HICCUP: the device is in HICCUP, and the shed condition fails
      obtain ⟨⟨r, hr⟩, -⟩ : (∃ r, s.st r = .hiccup) ∧ _ := by simpa [mem_allRails] using h
      refine iff_of_false (by decide) fun hshed => ?_
      obtain ⟨-, hnone⟩ : (∃ r, s.st r = .shed) ∧ ∀ r, (¬s.st r = .reg ∧ ¬s.st r = .ramp) ∧ ¬s.st r = .hiccup := by
        simpa [mem_allRails] using hshed
      exact (hnone r).2 hr
    next =>
      split
      next h => simpa using h
      next h => simpa using h
  simp [hcond, mem_allRails, and_assoc]

/-- The running mode follows the rail states alone. -/
theorem State.runningMode_congr (h : ∀ r, s.st r = b.st r) : s.runningMode = b.runningMode := by
  unfold State.runningMode
  simp only [h]

/-! ## The end of the update -/

/-- In REGULATE, SHED and HICCUP the device is in the running mode. -/
def State.RunsByRails (s : State) : Prop := s.mode = .regulate ∨ s.mode = .shed ∨ s.mode = .hiccup → s.mode = s.runningMode

theorem State.RunsByRails.held (hb : b.RunsByRails) (h : Held b s) : s.RunsByRails := by
  unfold State.RunsByRails
  rw [h.mode, State.runningMode_congr h.st]
  exact hb

theorem State.enter_mode (n : Nat) (m : Mode) : (s.enter n m).mode = m := by simp [State.enter]

theorem State.enter_running (n : Nat) : (s.enter n s.runningMode).RunsByRails := fun _ => by
  rw [State.enter_mode]
  exact (State.runningMode_congr (s.enter_st n s.runningMode)).symm

theorem State.modeRound_runs (s : State) : s.modeRound.RunsByRails := by
  have hstay : ∀ n, (if s.runningMode == s.mode then s else s.enter n s.runningMode).RunsByRails := fun n => by
    split
    next h => exact fun _ => (eq_of_beq h).symm
    next => exact State.enter_running n
  unfold State.modeRound
  split
  · exact hstay 11
  · exact hstay 11
  · exact hstay 11
  next hm =>
    split
    · simp [State.RunsByRails, hm]
    · exact State.enter_running 10
  next h1 h2 h3 h4 =>
    rintro (h | h | h)
    · exact absurd h h1
    · exact absurd h h2
    · exact absurd h h3

theorem settle_runs (s0 s : State) : (settle s0 s).RunsByRails := by
  unfold settle
  exact (State.modeRound_runs _).held (State.creditRound_held (State.noteRound_held _ (State.mirrorRound_held _ (State.pmbRound_held _
    (State.wasRound_held _ (State.clampRound_held (State.hintRound_held (.refl _))))))))

theorem run_runs {t : Nat} {f : State → State} (h : run t f s = .next u) : u.RunsByRails := by
  obtain ⟨x, hx, hmode, hst⟩ := run_settled t f u h
  have hruns : x.RunsByRails := hx ▸ settle_runs _ _
  unfold State.RunsByRails
  rw [hmode, State.runningMode_congr hst]
  exact hruns

end Sys2Proof.Machine
open Sys2Proof Sys2Proof.Machine

/-- Settles O10: after every command the mode is the running mode of the rail states (`settle_runs`). -/
theorem runningModeFollowsTheRails : Obligations.RunningModeFollowsTheRails := by
  unfold Obligations.RunningModeFollowsTheRails
  intro c s u hu hm
  obtain ⟨t, f, hrun⟩ := exec_runs hu
  rw [run_runs hrun hm]
  exact ⟨State.runningMode_eq_hiccup, State.runningMode_eq_shed⟩
end


section
/-!
O9, O21 and O22: the three statements of the modes and clocks that the model does not meet. For each, a state, a command, and the outcome
that the model evaluates to.
-/
namespace Sys2Proof.Machine

/-- WAKE with every condition of `wakeDone` but one: the Front PLL lost its lock within ±4 % and has not locked again (R72). -/
def wakeUnlocked : State := { at_WakeAndDormancy_10 with pow.pllLost := 1 }

/-- PARSE with an adoption that runs, and rail 0 CARETAKEN with its words in order for the handover (R336). -/
def handoverStray : State :=
  let s : State := { State.second with mode := .parse, pow.ctAdopt := true, pow.ctAt := 1000000000 }
  s.modRail 0 (fun x => { x with st := .caretaken, fr.dutyGood := 4 })

/-- The leader of `islandNearEnd`, its one switching phase at a duty of 1/2, a current of 16 and a region gain of 1. -/
def islandWithLoad : State :=
  let s := (islandNearEnd.set F.RGN_CFG_IN_GAIN 0 16384).set F.PH_CUR_I_AVG 0 16
  (s.set F.DUTY_LIM_DUTY_MAX 0 32768).modFr 0 (fun f => { f with duty := 32768 })

/-- T17 leaves CARETAKER alone, so not the mode that has the code of PARSE. -/
theorem modeRow_handover_of_parse (a : Mode) (h : a.code = Mode.parse.code) : modeRow 17 a .regulate = false := by
  cases a
  case caretaker => exact absurd h (by decide)
  all_goals rfl

/-- The region's estimate after a command is that of the state that `settle` leaves. -/
theorem run_regionEst {t : Nat} {f : State → State} {s u : State} (h : run t f s = .next u) (m : Fin 4) :
    u.regionEst m = (settle (s.at t) (f (s.at t))).regionEst m := by
  cases h
  generalize settle (s.at t) (f (s.at t)) = y
  rfl

end Sys2Proof.Machine
open Sys2Proof Sys2Proof.Machine

/-- Refutes O9: the statement speaks of every state, and `State.handover` asks for an adoption that runs and a CARETAKEN rail, not for
CARETAKER. From PARSE, with both, the handover takes T17, whose row of Table 3.3 leaves CARETAKER alone. The premise that is missing is
that an adoption runs only in CARETAKER; this state breaks it. -/
theorem not_modesChangeByTheTable : ¬ Obligations.ModesChangeByTheTable := by
  unfold Obligations.ModesChangeByTheTable
  intro hTable
  obtain ⟨u, hu⟩ : ∃ u, exec (.railHandover 0 0) handoverStray = .next u := ⟨_, rfl⟩
  obtain ⟨x, hx, hmode, -⟩ := run_settled 0 (State.handover · 0) u hu
  have hregulate : u.mode = .regulate := by
    rw [hmode, hx]
    decide +kernel
  have hprev : u.get F.MODE_STATUS_PREV_MODE = Mode.parse.code := by
    rw [run_get (f := (State.handover · 0)) hu]
    decide +kernel
  have htrans : u.get F.MODE_STATUS_LAST_TRANS = 17 := by
    rw [run_get (f := (State.handover · 0)) hu]
    decide +kernel
  have hstart : handoverStray.mode = .parse := rfl
  obtain ⟨t, hc, -⟩ | ⟨a, ha, hrow⟩ := hTable (.railHandover 0 0) handoverStray u hu (by rw [hregulate, hstart]; decide)
  · cases hc
  · rw [htrans, hregulate, modeRow_handover_of_parse a (ha.symm.trans hprev)] at hrow
    cases hrow

/-- Refutes O21: its clause of T3 names the supplies, the straps and RESET_N, but not the PLLs, whose lock Table 3.3 asks for as well:
`State.wakeDone` does so. A PLL that lost its lock in WAKE, within ±4 % (R72), holds the device there. -/
theorem not_wakeAndDormancy : ¬ Obligations.WakeAndDormancy := by
  unfold Obligations.WakeAndDormancy
  rintro ⟨-, -, -, -, -, -, -, -, -, hParse, -⟩
  obtain ⟨u, hu, hparse, -⟩ := hParse 0 wakeUnlocked (by decide +kernel) (by decide +kernel) (by decide +kernel) (by decide +kernel)
    (by decide +kernel) (by decide +kernel) (by decide +kernel)
  obtain ⟨x, hx, hmode, -⟩ := run_settled 0 State.wakeDone u hu
  have hwaits : (settle (wakeUnlocked.at 0) (wakeUnlocked.at 0).wakeDone).mode = .wake := by decide +kernel
  rw [← hx, ← hmode, hparse] at hwaits
  cases hwaits

/-- Refutes O22: its clause of R187 holds the published estimate against the region as the update leaves it. The update of the arbitration
can also be the one in which ISLAND_MAX ends: the leader latches the spanning rail with a fast stop (R477), its phase leaves ACTIVE, and
the region's estimate falls to 0 after the 8 that was published. -/
theorem not_clocksAndRegions : ¬ Obligations.ClocksAndRegions := by
  unfold Obligations.ClocksAndRegions
  rintro ⟨-, -, -, -, -, -, -, -, -, -, -, -, hEstimate, -⟩
  obtain ⟨u, hu, hpublished, -⟩ := hEstimate 5000000 islandWithLoad 0 (by decide +kernel) (by decide +kernel) (by decide +kernel)
  have hput : u.getI F.RGN_BUDGET_I_EST (0 : Fin 4) = 8 := by
    unfold State.getI
    rw [run_get (f := (State.arbitrate · 0)) hu]
    decide +kernel
  have hleft : u.regionEst 0 = 0 := by
    rw [run_regionEst (f := (State.arbitrate · 0)) hu]
    decide +kernel
  rw [hput, hleft] at hpublished
  revert hpublished
  decide
end


section
/-!
O30 fails: a rail whose soft stop ends may arm again in the same update.
-/
namespace Sys2Proof.Machine

/-- REGULATE, with the enable of region 0 on again (R520) while its rail 0, enabled by configuration, is at the end of the soft stop that
the enable brought: SEN is high, and its one phase has been in tri-state since the instant 0. -/
def stopEnabledAgain : State :=
  let s : State := { mode := .regulate, pow.en := .replicate 4 true }
  let s := (s.mark F.PH_STATE_ASSIGNED).setSen 0 true
  s.modRail 0 (fun x => { x with st := .rampdown, cfg := { x.cfg with present := true, enabled := true }, fr.fallAt := some 0 })

end Sys2Proof.Machine
open Sys2Proof Sys2Proof.Machine

/-- Refutes O30: its clause of R219 asks that the rail may not arm, of the state in which the rail is in RAMPDOWN, where none may. The stop
takes the rail to OFF, and the end of the same update arms it where its enables read on (Table 3.4, R520). -/
theorem not_startsAndStops : ¬ Obligations.StartsAndStops := by
  unfold Obligations.StartsAndStops
  rintro ⟨-, -, -, hOff, -⟩
  obtain ⟨u, hu, hoff, -⟩ := hOff 0 stopEnabledAgain 0 0 (by decide +kernel) (by decide +kernel) (by decide +kernel) (by decide +kernel)
    (by decide +kernel) (by decide +kernel)
  obtain ⟨x, hx, -, hst⟩ := run_settled 0 (State.senFall · 0) u hu
  have harmed : (settle (stopEnabledAgain.at 0) ((stopEnabledAgain.at 0).senFall 0)).st 0 = .armed := by decide +kernel
  rw [← hx, ← hst, hoff] at harmed
  cases harmed
end


section
/-!
The registers at the end of an update in which no rail arms and the mode stays: only the schedules, the pack's followers, the PMBus status,
the notices and the credits are written. The last transition (T6 and its kin) is read through it.
-/
namespace Sys2Proof.Machine

/-- The register fields that such an end of an update may write. -/
def quietFields : List Fld :=
  [F.AL_STATUS_CRED, F.AL_STICKY_NOTE_LOST, F.PK_STATE_CHG_ST, F.PK_STATE_HU_ON, F.PK_STATE_TEST_ACT, F.PMB_RSTAT2_STATUS_INPUT,
   F.PMB_RSTAT2_STATUS_MFR, F.PMB_RSTAT2_STATUS_TEMP, F.PMB_RSTAT_STATUS_IOUT, F.PMB_RSTAT_STATUS_VOUT, F.PMB_RSTAT_STATUS_WORD,
   F.PMB_STATUS_STATUS_CML, F.TN_STAT_DISCARD_S, F.TN_STAT_F, F.TN_STAT_FF_CAP_S, F.TN_STAT_N_SCHED]
/-- A register key that such an end of an update may write. -/
def quietKey (k : Nat) : Bool := quietFields.any (fun f => f.hasKey k)
theorem quiet {f : Fld} {i : Nat} (hf : f ∈ quietFields) (hi : i < f.count) : quietKey (f.key i) = true :=
  have hfit : quietFields.all Fld.fits = true := by decide
  List.any_eq_true.2 ⟨f, hf, Fld.hasKey_key f i (List.all_eq_true.1 hfit f hf) hi⟩

/-- Every register outside `quietFields` is as before. -/
def Quiet (b s : State) : Prop := ∀ k, quietKey k = false → s.regs.get k = b.regs.get k

variable {b s : State}

theorem Quiet.refl (s : State) : Quiet s s := fun _ _ => rfl
theorem Quiet.trans {a : State} (h : Quiet a b) (g : Quiet b s) : Quiet a s := fun k hk => (g k hk).trans (h k hk)
/-- The registers are as they were. -/
theorem Quiet.withParts (h : Quiet b s) {now pending cz1604 mode img pow br par sets mirPh mirRail phases rails ports rcd spi pmb cj otp sec
    tlm jrn pk th ctx0 ctxs rings code entry} :
    Quiet b ⟨now, pending, cz1604, mode, s.regs, img, pow, br, par, sets, mirPh, mirRail, phases, rails, ports, rcd, spi, pmb, cj, otp, sec,
      tlm, jrn, pk, th, ctx0, ctxs, rings, code, entry⟩ := h
theorem Quiet.of_regs (h : Quiet b s) {x : State} (hx : x.regs = s.regs) : Quiet b x := fun k hk => by rw [hx, h k hk]
theorem Quiet.set (h : Quiet b s) {f : Fld} {i v : Nat} (hf : f ∈ quietFields) (hi : i < f.count) : Quiet b (s.set f i v) := fun k hk => by
  have hne : k ≠ f.key i := fun e => by rw [e, quiet hf hi] at hk; cases hk
  exact (Store.get_set_of_ne _ _ hne).trans (h k hk)
theorem Quiet.ite {c : Prop} {d : Decidable c} {x y : State} (hx : Quiet b x) (hy : Quiet b y) : Quiet b (@ite _ c d x y) := by
  split <;> assumption
theorem Quiet.when (h : Quiet b s) {c : Bool} {f : State → State} (hf : ∀ x, Quiet b x → Quiet b (f x)) : Quiet b (s.when c f) :=
  .ite (hf _ h) h
theorem Quiet.foldl {α : Type} {f : State → α → State} {l : List α} (h : Quiet b s) (hf : ∀ x a, Quiet b x → Quiet b (f x a)) :
    Quiet b (l.foldl f s) :=
  List.foldlRecOn l f h fun x hx a _ => hf x a hx
theorem Quiet.onRails (h : Quiet b s) {f : State → Fin 8 → State} (hf : ∀ x r, Quiet b x → Quiet b (f x r)) : Quiet b (s.onRails f) :=
  h.foldl hf

/-! ## Events without a status bit -/

/-- The codes whose records set PMBus status bits (Table 16.4). -/
def statusCodes : List Nat := [0x0A03, 0x0A04, 0x0A06, 0x0A05, 0x0A0E, 0x0A16, 0x0901, 0x0B05, 0x0B08, 0x0B01]

theorem State.pmbRec_silent {code : Nat} (hc : statusCodes.contains code = false) (unit : Nat) (items : List (Nat × Int)) :
    s.pmbRec code unit items = s := by
  simp only [statusCodes, List.contains_cons, List.contains_nil, Bool.or_eq_false_iff, beq_eq_false_iff_ne] at hc
  unfold State.pmbRec
  simp only [hc, or_self, if_false]
theorem State.emit_regs (e : Evt) (react : React) : (s.emit e react).regs = s.regs := by
  unfold State.emit
  dsimp only
  split
  · split
    · split <;> rfl
    · rfl
  · rfl
/-- An event of another code leaves the registers as they are. -/
theorem State.raise_regs (s : State) (front : Bool) {code : Nat} (unit : Nat) (items : List (Nat × Int)) (react : React)
    (hc : statusCodes.contains code = false) : (s.raise front code unit items react).regs = s.regs := by
  unfold State.raise
  dsimp only
  rw [State.pmbRec_silent hc]
  split
  · split
    · rfl
    · exact State.emit_regs ..
  · exact State.emit_regs ..

theorem Quiet.logC (h : Quiet b s) {code unit : Nat} {items : List (Nat × Int)} (hc : statusCodes.contains code = false) :
    Quiet b (s.logC code unit items) := h.of_regs (State.raise_regs s _ _ _ _ hc)

/-! ## The operations of the rounds -/

theorem Quiet.modRail (h : Quiet b s) {r : Fin 8} {f : Rail → Rail} : Quiet b (s.modRail r f) := h.withParts
theorem Quiet.modPort (h : Quiet b s) {p : Fin 2} {f : Port → Port} : Quiet b (s.modPort p f) := h.withParts
theorem Quiet.modPk (h : Quiet b s) {f : Pack → Pack} : Quiet b (s.modPk f) := h.withParts
theorem Quiet.modEng (h : Quiet b s) {r : Fin 8} {f : Engine → Engine} : Quiet b (s.modEng r f) := h.modRail
theorem Quiet.modFr (h : Quiet b s) {r : Fin 8} {f : Front → Front} : Quiet b (s.modFr r f) := h.modRail
theorem Quiet.pmbBits (h : Quiet b s) {f : Fld} {i v : Nat} (hf : f ∈ quietFields) (hi : i < f.count) : Quiet b (s.pmbBits f i v) :=
  h.set hf hi
theorem Quiet.noteOn (h : Quiet b s) {p : Fin 2} {x : Notice} : Quiet b (s.noteOn p x) :=
  .ite (h.modPort.when fun _ hx => .logC (hx.set (f := F.AL_STICKY_NOTE_LOST) (by decide) p.isLt) rfl) h
theorem Quiet.noteRail (h : Quiet b s) {r : Fin 8} {kind word : Nat} : Quiet b (s.noteRail r kind word) :=
  h.foldl fun _ _ hx => .ite hx.noteOn hx
theorem Quiet.noteAll (h : Quiet b s) {kind word : Nat} : Quiet b (s.noteAll kind word) := h.foldl fun _ _ hx => hx.noteOn
theorem Quiet.putCtx (h : Quiet b s) {x : Nat} {c : Ctx} : Quiet b (s.putCtx x c) := h.withParts
theorem Quiet.putHints (h : Quiet b s) {r : Fin 8} {l : List Hint} : Quiet b (s.putHints r l) :=
  h.modRail.set (f := F.TN_STAT_N_SCHED) (by decide) r.isLt
theorem Quiet.putF (h : Quiet b s) {r : Fin 8} : Quiet b (s.putF r) := by
  unfold State.putF
  extract_lets raw f stored
  have hs : Quiet b stored := (h.set (f := F.TN_STAT_F) (by decide) r.isLt).modEng
  exact .ite h (.ite (hs.set (f := F.TN_STAT_FF_CAP_S) (by decide) r.isLt) hs)
theorem Quiet.ctxCheck (h : Quiet b s) {x : Nat} : Quiet b (s.ctxCheck x) :=
  .ite h (.logC (h.putCtx.onRails fun _ _ hx => .ite hx.putHints.putF hx) rfl)
theorem Quiet.freeSlot (h : Quiet b s) {hint : Hint} : Quiet b (s.freeSlot hint) := h.ctxCheck.putCtx
theorem Quiet.retire (h : Quiet b s) {r : Fin 8} {p : Hint → Bool} : Quiet b (s.retire r p) := .putHints (h.foldl fun _ _ hx => hx.freeSlot)
theorem Quiet.discard (h : Quiet b s) {r : Fin 8} {cause : Nat} : Quiet b (s.discard r cause) :=
  .ite h (.logC (.noteRail (h.retire.putF.set (f := F.TN_STAT_DISCARD_S) (by decide) r.isLt)) rfl)
theorem Quiet.setChg (h : Quiet b s) {k : Nat} : Quiet b (s.setChg k) := h.modPk.set (f := F.PK_STATE_CHG_ST) (by decide) (by decide)
theorem Quiet.testAbort (h : Quiet b s) : Quiet b s.testAbort :=
  .ite h (.logC (.when (.withParts (h.set (f := F.PK_STATE_TEST_ACT) (by decide) (by decide)).modPk) fun _ hx => hx.setChg) rfl)
theorem Quiet.setGate (h : Quiet b s) {on : Bool} : Quiet b (s.setGate on) := h.modPk.set (f := F.PK_STATE_HU_ON) (by decide) (by decide)

/-! ## The rounds -/

theorem Quiet.chargerRound (h : Quiet b s) : Quiet b s.chargerRound := by
  unfold State.chargerRound
  extract_lets aborted c
  have ha : Quiet b aborted := h.when fun _ hx => hx.testAbort
  exact .ite h (.ite ha (.ite (ha.when fun _ hx => hx.setChg) (.ite (ha.when fun _ hx => hx.setChg) (.ite ha.setChg (.ite ha.setChg ha)))))
theorem Quiet.packRound (h : Quiet b s) : Quiet b s.packRound := .ite h.chargerRound.setGate h.chargerRound
theorem Quiet.shedRound (h : Quiet b s) : Quiet b s.shedRound := h.onRails fun _ _ hx => .ite hx.modRail hx
theorem Quiet.hintRound (h : Quiet b s) : Quiet b s.hintRound :=
  h.onRails fun _ _ hx => .ite hx (.ite hx.discard (.ite hx.discard (.ite hx.discard hx)))
theorem Quiet.clampRound (h : Quiet b s) : Quiet b s.clampRound := h.onRails fun _ _ hx => .ite hx.putF hx
theorem Quiet.wasRound (h : Quiet b s) {s0 : State} : Quiet b (State.wasRound s0 s) := h.onRails fun _ _ hx => .ite hx hx.modFr
theorem Quiet.pmbRail (h : Quiet b s) {s0 : State} {r : Fin 8} : Quiet b (State.pmbRail s0 s r) :=
  .ite h ((((((h.pmbBits (f := F.PMB_RSTAT_STATUS_WORD) (by decide) r.isLt).pmbBits (f := F.PMB_RSTAT_STATUS_VOUT) (by decide) r.isLt).pmbBits
    (f := F.PMB_RSTAT_STATUS_IOUT) (by decide) r.isLt).pmbBits (f := F.PMB_RSTAT2_STATUS_INPUT) (by decide) r.isLt).pmbBits
    (f := F.PMB_RSTAT2_STATUS_TEMP) (by decide) r.isLt).pmbBits (f := F.PMB_RSTAT2_STATUS_MFR) (by decide) r.isLt)
theorem Quiet.pmbRound (h : Quiet b s) {s0 : State} : Quiet b (State.pmbRound s0 s) :=
  .ite h (.withParts (.when (h.onRails fun _ _ hx => hx.pmbRail) fun _ hx =>
    hx.pmbBits (f := F.PMB_STATUS_STATUS_CML) (by decide) (by decide)))
theorem Quiet.mirrorRound (h : Quiet b s) {s0 : State} : Quiet b (State.mirrorRound s0 s) := .ite h.withParts h
theorem Quiet.noteRound (h : Quiet b s) {s0 : State} : Quiet b (State.noteRound s0 s) :=
  .ite h (.onRails (h.when fun _ hx => hx.noteAll) fun _ _ hx => .when (by
    split
    · exact hx.noteRail
    · exact hx) fun _ hy => hy.noteRail)
theorem Quiet.creditRound (h : Quiet b s) : Quiet b s.creditRound :=
  .ite h (h.foldl fun _ p hx => .ite hx (hx.set (f := F.AL_STATUS_CRED) (by decide) p.isLt).modPort)

theorem State.armRound_none (h : ∀ r, s.mayArm r = false) : s.armRound = s := by
  unfold State.armRound State.onRails
  refine List.foldlRecOn (motive := fun x => x = s) allRails _ rfl fun x hx r _ => ?_
  rw [hx, if_neg (by rw [h r]; decide)]
theorem State.precheckRound_none (h : s.mode.steady = true) : s.precheckRound = s := by
  have hm : (s.mode == .precheck) = false := by
    cases hc : s.mode == .precheck
    · rfl
    · rw [eq_of_beq hc] at h
      cases h
  unfold State.precheckRound
  rw [hm]
  rfl
theorem State.modeRound_none (h : s.mode.steady = true) : s.modeRound = s := by
  unfold State.modeRound
  split
  next hm => rw [hm] at h; cases h
  next hm => rw [hm] at h; cases h
  next hm => rw [hm] at h; cases h
  next hm => rw [hm] at h; cases h
  next => rfl

/-- With no rail that may arm and in a mode that no round leaves, the end of an update keeps every register outside `quietFields`. -/
theorem settle_quiet (s0 : State) (hs : s.Still) (hm : s.mode.steady = true) (ha : ∀ r, s.mayArm r = false) : Quiet s (settle s0 s) := by
  obtain ⟨hcalm, hlink, hstop⟩ := hs
  have hf : Framed s s.packRound := State.packRound_framed (.refl s)
  have hh : Held s s.packRound := State.packRound_held (.refl s)
  have hq : Quiet s s.packRound := (Quiet.refl s).packRound
  unfold settle
  rw [State.stopRound_self hstop, State.cjRound_none _ hlink]
  generalize s.packRound = y at hf hh hq ⊢
  have hclr : y.clrRound = y := by unfold State.clrRound; rw [hf.calm.trans hcalm]; rfl
  have harm : y.armRound = y := State.armRound_none fun r => (State.mayArm_congr r hf hh.mode (hh.st r)).trans (ha r)
  have hy : y.mode.steady = true := by rw [hh.mode, hm]
  rw [hclr, harm, State.precheckRound_none hy, State.modeRound_none (by rw [State.shedRound_mode, hy])]
  exact hq.shedRound.hintRound.clampRound.wasRound.pmbRound.mirrorRound.noteRound.creditRound

/-- A register outside `quietFields` after a command. -/
theorem run_quiet {t : Nat} {f : State → State} {u : State} (h : run t f s = .next u) (hs : (f (s.at t)).Still)
    (hm : (f (s.at t)).mode.steady = true) (ha : ∀ r, (f (s.at t)).mayArm r = false) (g : Fld) (j : Nat)
    (hg : quietKey (g.key j) = false) : u.get g j = (f (s.at t)).get g j :=
  (run_get h g j).trans (settle_quiet _ hs hm ha _ hg)

end Sys2Proof.Machine
end


section
/-!
The Parser: what its refusals leave (R106, R108: no configuration, T6), what it does with the two headers, and the verdict on a copy.
-/
namespace Sys2Proof.Machine

variable {b s x : State} {i : Instr} {t : Nat} {f : State → State}

/-! ## T6 -/

/-- A frame beside the Parser's own part. -/
theorem Framed.withPar (h : Framed b s) (p : Parser) : Framed { b with par := p } { s with par := p } :=
  ⟨by
    show ({ s.rest with par := p } : State) = { b.rest with par := p }
    rw [h.rest], h.regs, h.evq⟩

/-- The end of the update leaves a state still that differs from a still one in nothing that it acts on. -/
theorem State.Still.of_eq (h : b.Still) (hp : s.pow = b.pow) (hl : s.get F.CJ_CFG_CJ_EN = b.get F.CJ_CFG_CJ_EN) : s.Still := by
  obtain ⟨hcalm, hlink, hstop⟩ := h
  exact ⟨by rw [hp, hcalm], by rw [State.flag, hl]; exact hlink, by rw [hp, hstop]⟩

theorem State.enter_regs (n : Nat) (m : Mode) :
    (s.enter n m).regs = ((s.set F.MODE_STATUS_PREV_MODE 0 s.mode.code).set F.MODE_STATUS_LAST_TRANS 0 n).regs :=
  State.raise_regs _ _ _ _ _ rfl
theorem State.enter_lastTrans {n : Nat} (m : Mode) (hn : n < 32) : (s.enter n m).get F.MODE_STATUS_LAST_TRANS = n := by
  rw [State.get_def, State.enter_regs, ← State.get_def, State.get_set_self]
  exact Nat.mod_eq_of_lt hn
theorem State.disarms_pow (s : State) : (s.onRails State.disarm).pow = s.pow := by
  unfold State.onRails
  exact List.foldlRecOn (motive := fun x => x.pow = s.pow) allRails State.disarm rfl fun _ hx r _ => (State.disarm_pow r).trans hx
theorem State.enter_pow (s : State) (n : Nat) (m : Mode) : (s.enter n m).pow = s.pow := by
  unfold State.enter
  exact State.raise_pow ..
theorem State.enterSafestop_pow (s : State) (n : Nat) : (s.enterSafestop n).pow = s.pow := by
  unfold State.enterSafestop
  rw [State.enter_pow, State.disarms_pow]
  rfl

/-- The Parser has stopped. -/
def State.parserStopped (s : State) : State := { s with par := { s.par with stopped := true, waiting := false } }
/-- The record of R106. -/
def State.noConfigTold (s : State) : State :=
  s.logC 0x0404 0 [(1, s.get F.PARSE_STATUS_A_RESULT), (1, s.get F.PARSE_STATUS_B_RESULT)]
theorem State.noConfig_eq (s : State) : s.noConfig = s.noConfigTold.parserStopped.enterSafestop 6 := by
  unfold State.noConfig
  rfl
theorem State.noConfigTold_stopped (s : State) : Framed s.parserStopped s.noConfigTold.parserStopped := by
  have hl : Framed s s.noConfigTold := State.logC_only _ _ rfl
  unfold State.parserStopped
  rw [hl.par]
  exact hl.withPar _
theorem State.noConfig_framed (s : State) : Framed s.parserStopped s.noConfig := by
  rw [State.noConfig_eq]
  exact s.noConfigTold_stopped.trans (State.enterSafestop_framed 6 (.refl _))
theorem State.noConfig_pow (s : State) : s.noConfig.pow = s.pow := by
  rw [State.noConfig_eq, State.enterSafestop_pow]
  exact State.raise_pow ..
theorem State.enterSafestop_mode (n : Nat) : (s.enterSafestop n).mode = .safestop := by
  unfold State.enterSafestop
  exact State.enter_mode ..
theorem State.enterSafestop_lastTrans {n : Nat} (hn : n < 32) : (s.enterSafestop n).get F.MODE_STATUS_LAST_TRANS = n := by
  unfold State.enterSafestop
  exact State.enter_lastTrans _ hn
theorem State.noConfig_mode (s : State) : s.noConfig.mode = .safestop := by
  rw [State.noConfig_eq, State.enterSafestop_mode]
theorem State.noConfig_lastTrans (s : State) : s.noConfig.get F.MODE_STATUS_LAST_TRANS = 6 := by
  rw [State.noConfig_eq, State.enterSafestop_lastTrans (by decide)]
theorem State.noConfig_records (s : State) : s.noConfig.Records 0x0404 := by
  have hr : s.noConfigTold.Records 0x0404 := State.logC_records _ _ _ rfl
  rw [State.noConfig_eq]
  exact (State.enterSafestop_framed 6 (.refl s.noConfigTold.parserStopped)).records hr

/-- A command that ends PARSE without a configuration takes T6 (R74, R106). -/
theorem noConfig_gives (hi : exec i s = run t f s) (hx : f (s.at t) = x.noConfig) (hs : x.Still) :
    Gives i s (fun u => u.mode = .safestop ∧ u.get F.MODE_STATUS_LAST_TRANS = 6 ∧ u.Records 0x0404 ∧ Framed x.parserStopped u) := by
  have hstill : x.noConfig.Still := hs.of_eq x.noConfig_pow (x.noConfig_framed.get F.CJ_CFG_CJ_EN 0 (by decide))
  have harm : ∀ r, x.noConfig.mayArm r = false := fun r => by simp [State.mayArm, x.noConfig_mode, Mode.running]
  have hmode := x.noConfig_mode
  have htrans := x.noConfig_lastTrans
  have hrec := x.noConfig_records
  have hframe := x.noConfig_framed
  rw [← hx] at hstill harm hmode htrans hrec hframe
  have hsteady : (f (s.at t)).mode.steady = true := by rw [hmode]; rfl
  refine run_gives hi rfl hstill.1 fun u hu hf => ⟨?_, ?_, hf.records hrec, hframe.trans hf⟩
  · rw [run_mode t f u hu hstill.1 hstill.2.1 hsteady, hmode]
  · rw [run_quiet hu hstill hsteady harm F.MODE_STATUS_LAST_TRANS 0 (by decide), htrans]

/-! ## The results of the copies -/

theorem settleKey_resField (c : Nat) : settleKey ((resField c).key 0) = false := by
  unfold resField
  split <;> decide
theorem resField_width (c : Nat) : (resField c).width = 4 := by
  unfold resField
  split <;> rfl
/-- The link and the strapped modes are no result. -/
theorem resField_apart (c : Nat) : F.CJ_CFG_CJ_EN.key 0 ≠ (resField c).key 0 ∧ F.STRAP_STATUS_CFG1_CODE.key 0 ≠ (resField c).key 0 := by
  unfold resField
  split <;> decide

theorem State.rejectCopy_framed (s : State) (c res : Nat) : Framed (s.set (resField c) 0 res) (s.rejectCopy c res) := State.logC_only _ _ rfl
theorem State.rejectCopy_records (s : State) (c res : Nat) : (s.rejectCopy c res).Records 0x0401 := State.logC_records _ _ _ rfl
theorem State.rejectCopy_still (h : s.Still) (c res : Nat) : (s.rejectCopy c res).Still :=
  h.of_eq (State.raise_pow ..) (((s.rejectCopy_framed c res).get _ _ (by decide)).trans (State.get_set_of_ne _ _ _ _ _ _ (resField_apart c).1))
theorem State.rejectCopy_par (s : State) (c res : Nat) : (s.rejectCopy c res).par = s.par := State.raise_par ..
theorem State.rejectCopy_result (s : State) (c : Nat) {res : Nat} (h : res < 16) : (s.rejectCopy c res).get (resField c) = res := by
  rw [(s.rejectCopy_framed c res).get _ _ (settleKey_resField c), State.get_set_self, resField_width]
  exact Nat.mod_eq_of_lt h

/-- The copy being read, or both, takes result 0xA, and PARSE ends without a configuration (R108). -/
theorem unread_gives (hi : exec i s = run t f s) (hx : f (s.at t) = x.unread) (hs : x.Still) :
    Gives i s (fun u => u.mode = .safestop ∧ u.get F.MODE_STATUS_LAST_TRANS = 6 ∧ u.Records 0x0404 ∧
      (u.get F.PARSE_STATUS_A_RESULT = 0xA ∨ u.get F.PARSE_STATUS_B_RESULT = 0xA) ∧ u.par.source = x.par.source) := by
  -- the copy rejected last keeps its result
  have last : ∀ (y : State) (c : Nat), f (s.at t) = (y.rejectCopy c 0xA).noConfig → y.Still → y.par = x.par →
      Gives i s (fun u => u.mode = .safestop ∧ u.get F.MODE_STATUS_LAST_TRANS = 6 ∧ u.Records 0x0404 ∧
        (u.get F.PARSE_STATUS_A_RESULT = 0xA ∨ u.get F.PARSE_STATUS_B_RESULT = 0xA) ∧ u.par.source = x.par.source) := by
    intro y c hy hys hpar
    refine (noConfig_gives hi hy (State.rejectCopy_still hys c _)).mono fun u ⟨hmode, htrans, hrec, hf⟩ => ⟨hmode, htrans, hrec, ?_, ?_⟩
    · have hres : u.get (resField c) = 0xA := (hf.get _ _ (settleKey_resField c)).trans (y.rejectCopy_result c (by decide))
      by_cases hc : c = 1
      · exact .inl (by rwa [resField, if_pos hc] at hres)
      · exact .inr (by rwa [resField, if_neg hc] at hres)
    · rw [hf.par, ← hpar, ← y.rejectCopy_par c 0xA]
      rfl
  by_cases hr : x.par.reading = 0
  · refine last (x.rejectCopy 1 0xA) 2 ?_ (State.rejectCopy_still hs 1 _) (x.rejectCopy_par 1 _)
    rw [hx, State.unread, if_pos hr]
    rfl
  · refine last x x.par.reading ?_ hs rfl
    rw [hx, State.unread, if_neg hr]
    rfl

/-! ## Discovery -/

/-- The Parser reads the NOR in PARSE, with a NOR to read and nothing chosen yet. -/
theorem State.parsing_of (hm : s.mode = .parse) (hd : s.pow.cdUp = true) (hc : s.par.source = 0) (hp : s.par.stopped = false)
    (hn : s.norMode ≠ 3) : s.parsing = true := by
  simp [State.parsing, hm, hd, hc, hp, hn]

/-- The commands of a discovery are issued. -/
def State.norAsked (s : State) (o : Option Sfdp) (qe : Bool) : State :=
  { s with par := { s.par with
    issued := norOpening ++ (if s.norMode < 2 then (o.map (fun x => quadEnable x qe)).getD [] else []) } }
/-- A NOR that is served has been found. -/
def State.norFound (s : State) (o : Option Sfdp) (density : Nat) (qe : Bool) : State :=
  let a := s.norAsked o qe
  State.set { a with par := { a.par with
    discovered := true, waiting := false, table := o, read := s.norRead o qe, sfdp := o.isSome
    quad := o.any (fun x => quadOk x qe) && decide (s.norMode < 2), density := density } } F.IMAGE_INFO_NOR_DENSITY 0 density
/-- No quad read is available (R104). -/
def State.quadTold (s : State) (o : Option Sfdp) : State :=
  (s.mark F.PARSE_STATUS_QE_FALLBACK).logC 0x0406 0 [(2, (o.map (fun x => x.method.toNat)).getD 0)]

variable {o : Option Sfdp} {density : Nat} {qe : Bool}

theorem State.norDiscovery_unserved (hp : s.parsing = true) (hd : s.par.discovered = false) (hv : s.flag F.SUPPLY_STATUS_VDDIO_GOOD = true)
    (ho : o.isSome = true) (hn : density < 2 ∨ 6 < density) : s.norDiscovery o density qe = (s.norAsked o qe).noConfig := by
  unfold State.norDiscovery
  rw [if_neg (by simp [hp, hd, hv])]
  extract_lets wide quad
  rw [if_pos (by simpa [ho] using hn)]
  rfl
theorem State.norDiscovery_served (hp : s.parsing = true) (hd : s.par.discovered = false) (hv : s.flag F.SUPPLY_STATUS_VDDIO_GOOD = true)
    (hn : o.isSome = true → 2 ≤ density ∧ density ≤ 6) : s.norDiscovery o density qe = (s.norFound o density qe).when
      (o.isSome && !o.any (fun x => quadOk x qe) && decide (s.norMode < 2)) (State.quadTold · o) := by
  unfold State.norDiscovery
  rw [if_neg (by simp [hp, hd, hv])]
  have hserved : ¬(o.isSome && (decide (density < 2) || decide (6 < density))) = true := by
    simp only [Bool.and_eq_true, Bool.or_eq_true, decide_eq_true_eq]
    rintro ⟨ho, hout⟩
    obtain ⟨hlow, hhigh⟩ := hn ho
    omega
  extract_lets wide quad
  rw [if_neg hserved]
  rfl

theorem State.norFound_changes (s : State) {fs : List Fld} (hf : F.IMAGE_INFO_NOR_DENSITY ∈ fs) :
    Changes [.par, .rcd] fs s (s.norFound o density qe) :=
  ⟨rfl, (Changes.set (ps := []) hf (by decide) (by decide) density).regs⟩
theorem State.norFound_density (s : State) (hn : density < 32) : (s.norFound o density qe).get F.IMAGE_INFO_NOR_DENSITY = density :=
  (State.get_set_self ..).trans (Nat.mod_eq_of_lt hn)
theorem State.quadTold_framed (s : State) (o : Option Sfdp) : Framed (s.mark F.PARSE_STATUS_QE_FALLBACK) (s.quadTold o) :=
  State.logC_only _ _ rfl

/-! ## The headers -/

/-- The NOR is read: PARSE, discovered, no wait, its supply good. -/
theorem State.norReads_of (hp : s.parsing = true) (hd : s.par.discovered = true) (hw : s.par.waiting = false)
    (hv : s.flag F.SUPPLY_STATUS_VDDIO_GOOD = true) : s.norReads = true := by
  simp [State.norReads, hp, hd, hw, hv]

/-- The two headers are read. -/
def State.hdrsRead (s : State) (a b : List Byte) : State :=
  { s with par := { s.par with hdrA := a, hdrB := b, issued := [s.readAt 1, s.readAt 2] } }
/-- The result of the header of a copy as read. -/
def State.hdrVerdict (s : State) (c : Nat) : Nat := hdrResult s.part s.otp.rollback s.lenLimit (s.hdr c)

theorem State.checkHdr_eq (s : State) (c : Nat) : s.checkHdr c =
    if s.hdrVerdict c = 0 then s else if s.hdrVerdict c = 2 then s.set (resField c) 0 2 else s.rejectCopy c (s.hdrVerdict c) := rfl
/-- The other copy's result takes no part in a header's. -/
theorem State.hdrVerdict_set (s : State) (c d v : Nat) : (s.set (resField d) 0 v).hdrVerdict c = s.hdrVerdict c := by
  have hn : (s.set (resField d) 0 v).norMode = s.norMode := congrArg (· % 4) (State.get_set_of_ne _ _ _ _ _ _ (resField_apart d).2)
  unfold State.hdrVerdict State.lenLimit
  rw [hn]
  rfl
theorem Framed.hdrVerdict (h : Framed b s) (c : Nat) : s.hdrVerdict c = b.hdrVerdict c := by
  have hn : s.norMode = b.norMode := congrArg (· % 4) (h.get _ _ (by decide))
  unfold State.hdrVerdict State.lenLimit State.hdr State.part
  rw [hn, h.otp, h.par, h.cz1604]
theorem State.hdrVerdict_rejectCopy (s : State) (c d v : Nat) : (s.rejectCopy d v).hdrVerdict c = s.hdrVerdict c :=
  ((s.rejectCopy_framed d v).hdrVerdict c).trans (s.hdrVerdict_set c d v)

variable {h₁ h₂ : List Byte}

theorem State.checkHdr_accepted {c : Nat} (h : s.hdrVerdict c = 0) : s.checkHdr c = s := by rw [s.checkHdr_eq, if_pos h]
theorem State.checkHdr_blank {c : Nat} (h : s.hdrVerdict c = 2) : s.checkHdr c = s.set (resField c) 0 2 := by
  rw [s.checkHdr_eq, if_neg (by omega), if_pos h]
theorem State.checkHdr_rejected {c : Nat} (h : 3 ≤ s.hdrVerdict c) : s.checkHdr c = s.rejectCopy c (s.hdrVerdict c) := by
  rw [s.checkHdr_eq, if_neg (by omega), if_neg (by omega)]
/-- The results of Table 4.12 fit their field. -/
theorem State.hdrVerdict_lt (s : State) (c : Nat) : s.hdrVerdict c < 16 := by
  unfold State.hdrVerdict hdrResult
  dsimp only
  split
  · decide
  · split
    · decide
    · split
      · decide
      · split <;> decide

/-- The copy with the larger IMAGE_SEQ, A where they are equal (R106). -/
def newerCopy (a b : List Byte) : Nat := if (hdrOf a).seq < (hdrOf b).seq then 2 else 1
/-- What the Parser does once both headers have their results (R106). -/
def State.hdrsJudged (s : State) (a b : List Byte) : State :=
  if s.get F.PARSE_STATUS_A_RESULT = 2 && s.get F.PARSE_STATUS_B_RESULT = 2 then s.takeProfile 0
  else if !s.cand 1 && !s.cand 2 then s.noConfig
  else
    let c := if s.cand 1 && s.cand 2 then newerCopy a b else if s.cand 1 then 1 else 2
    State.readCopy { s with par := { s.par with first := c, both := s.cand 1 && s.cand 2 } } c

theorem State.headersRead_dense (hr : s.norReads = true) (hf : s.par.first = 0) (hd : s.par.sfdp = true) :
    s.headersRead h₁ h₂ = (((s.hdrsRead h₁ h₂).checkHdr 1).checkHdr 2).hdrsJudged h₁ h₂ := by
  unfold State.headersRead
  rw [if_neg (by simp [hr, hf])]
  extract_lets par hdrs flat
  rw [if_neg (by simp [hdrs, par, hd])]
  rfl
/-- Both copies are blank. -/
def State.bothBlank (s : State) : State := (s.set F.PARSE_STATUS_A_RESULT 0 2).set F.PARSE_STATUS_B_RESULT 0 2
theorem State.bothBlank_A (s : State) : s.bothBlank.get F.PARSE_STATUS_A_RESULT = 2 :=
  (State.get_set_of_ne _ F.PARSE_STATUS_B_RESULT F.PARSE_STATUS_A_RESULT 0 0 _ (by decide)).trans (State.get_set_self ..)
theorem State.bothBlank_B (s : State) : s.bothBlank.get F.PARSE_STATUS_B_RESULT = 2 := State.get_set_self ..
/-- Without a NOR both copies are blank (R105). -/
theorem State.headersRead_flat (hr : s.norReads = true) (hf : s.par.first = 0) (hd : s.par.sfdp = false)
    (ha : allAre 0 h₁ = true ∨ allAre 0xFF h₁ = true) (hb : allAre 0 h₂ = true ∨ allAre 0xFF h₂ = true) :
    s.headersRead h₁ h₂ = (s.hdrsRead h₁ h₂).bothBlank.takeProfile 1 := by
  unfold State.headersRead
  rw [if_neg (by simp [hr, hf])]
  extract_lets par hdrs flat
  rw [if_pos (by simpa [hdrs, par, flat, hd] using ⟨ha, hb⟩)]
  rfl

theorem State.hdrsJudged_blank (hA : s.get F.PARSE_STATUS_A_RESULT = 2) (hB : s.get F.PARSE_STATUS_B_RESULT = 2) :
    s.hdrsJudged h₁ h₂ = s.takeProfile 0 := if_pos (by simp [hA, hB])
theorem State.hdrsJudged_rejected (hA : 3 ≤ s.get F.PARSE_STATUS_A_RESULT) (hB : 3 ≤ s.get F.PARSE_STATUS_B_RESULT) :
    s.hdrsJudged h₁ h₂ = s.noConfig := by
  have h1 : s.cand 1 = false := by simp only [State.cand, resField, if_pos]; simpa using (by omega : s.get F.PARSE_STATUS_A_RESULT ≠ 0)
  have h2 : s.cand 2 = false := by simp only [State.cand, resField]; simpa using (by omega : s.get F.PARSE_STATUS_B_RESULT ≠ 0)
  unfold State.hdrsJudged
  rw [if_neg (by simp; omega), if_pos (by simp [h1, h2])]
theorem State.hdrsJudged_both (hA : s.get F.PARSE_STATUS_A_RESULT = 0) (hB : s.get F.PARSE_STATUS_B_RESULT = 0) :
    s.hdrsJudged h₁ h₂ =
      State.readCopy { s with par := { s.par with first := newerCopy h₁ h₂, both := true } } (newerCopy h₁ h₂) := by
  have h1 : s.cand 1 = true := beq_iff_eq.2 hA
  have h2 : s.cand 2 = true := beq_iff_eq.2 hB
  unfold State.hdrsJudged
  rw [if_neg (by simp [hA]), h1, h2]
  rfl

/-! ## The strap profile -/

/-- The strap profile is the configuration to apply. -/
def State.profileChosen (s : State) (why : Nat) : State := { s with par := { s.par with source := 3, noNor := why == 1 } }
theorem State.takeProfile_framed (s : State) (why : Nat) : Framed (s.profileChosen why) (s.takeProfile why) := by
  unfold State.takeProfile
  extract_lets strap used told par
  have ht : Framed s told := (Framed.refl s).when _ _ fun _ hx => hx.trans (State.logC_only _ _ rfl)
  have hp : par = s.par := ht.par
  rw [hp]
  exact (ht.withPar { s.par with source := 3, noNor := why == 1 }).trans (State.logC_only _ _ rfl)
theorem State.takeProfile_records (s : State) (why : Nat) : (s.takeProfile why).Records 0x0403 := State.logC_records _ _ _ rfl

/-- A command that finds both copies blank chooses the strap profile (R105, R115). -/
theorem takeProfile_gives {why : Nat} (hi : exec i s = run t f s)
    (hx : f (s.at t) = x.bothBlank.takeProfile why) (hc : x.Calm) :
    Gives i s (fun u => u.par.source = 3 ∧ u.get F.PARSE_STATUS_A_RESULT = 2 ∧ u.get F.PARSE_STATUS_B_RESULT = 2 ∧ u.Records 0x0403) := by
  have hp := x.bothBlank.takeProfile_framed why
  refine run_gives hi hx (hp.calm.trans hc) fun u _ hf => ⟨?_, ?_, ?_, hf.records (x.bothBlank.takeProfile_records why)⟩
  · rw [(hp.trans hf).par]
    rfl
  · exact ((hp.trans hf).get _ 0 (by decide)).trans x.bothBlank_A
  · exact ((hp.trans hf).get _ 0 (by decide)).trans x.bothBlank_B

/-! ## Failed reads -/

/-- A restart is counted, and the results of the copies are open again (R108). -/
def State.retried (s : State) : State :=
  ((s.inc F.PARSE_STATUS_READ_RETRY).set F.PARSE_STATUS_A_RESULT 0 0).set F.PARSE_STATUS_B_RESULT 0 0
theorem State.retried_count (h : s.get F.PARSE_STATUS_READ_RETRY < 2) :
    s.retried.get F.PARSE_STATUS_READ_RETRY = s.get F.PARSE_STATUS_READ_RETRY + 1 := by
  have hne : F.PARSE_STATUS_READ_RETRY.key 0 ≠ F.PARSE_STATUS_A_RESULT.key 0 ∧
      F.PARSE_STATUS_READ_RETRY.key 0 ≠ F.PARSE_STATUS_B_RESULT.key 0 := by decide
  have hw : F.PARSE_STATUS_READ_RETRY.width = 2 := rfl
  unfold State.retried
  rw [State.get_set_of_ne _ _ _ _ _ _ hne.2, State.get_set_of_ne _ _ _ _ _ _ hne.1, State.inc_eq, State.get_set_self, hw, incSat,
    if_pos (by omega)]
  omega
/-- The Parser starts again from the SFDP read, at once where its supply is good. -/
def State.restarted (s : State) : State :=
  { s.retried with par := { waiting := !s.flag F.SUPPLY_STATUS_VDDIO_GOOD, waitAt := s.now } }
theorem State.readFail_restarts (h : s.get F.PARSE_STATUS_READ_RETRY ≠ 2) :
    Framed s.restarted s.readFail ∧ s.readFail.Records 0x0405 := by
  unfold State.readFail
  rw [if_neg h]
  extract_lets counted good told
  have hgood : good = s.flag F.SUPPLY_STATUS_VDDIO_GOOD :=
    congrArg (· != 0) (State.get_set_of_ne _ F.PARSE_STATUS_READ_RETRY F.SUPPLY_STATUS_VDDIO_GOOD 0 0 _ (by decide))
  have hnow : told.now = s.now := State.raise_now ..
  have hl : Framed s.retried told := State.logC_only _ _ rfl
  have hr : told.Records 0x0405 := State.logC_records _ _ _ rfl
  rw [hgood, hnow]
  exact ⟨hl.withPar _, hr⟩
theorem State.norFail_reads (hp : s.parsing = true) (hw : s.par.waiting = false) : s.norFail = s.readFail := if_neg (by simp [hp, hw])
theorem State.readFail_third (h : s.get F.PARSE_STATUS_READ_RETRY = 2) : s.readFail = s.unread := if_pos h
theorem State.vddioWait_over (hp : s.parsing = true) (hw : s.par.waiting = true) (hv : s.flag F.SUPPLY_STATUS_VDDIO_GOOD = false)
    (hd : s.par.waitAt + 50000000 ≤ s.now) : s.vddioWait = s.unread := if_neg (by simp [hp, hw, hv, hd])

/-! ## The verdict on a copy -/

/-- The bytes are those of the copy that is being read, whole, and the read has not failed (R106, R108). -/
structure State.ReadsCopy (s : State) (c : List Byte) : Prop where
  reads : s.norReads = true
  some : s.par.reading ≠ 0
  hdr : c.take 64 = s.hdr s.par.reading
  len : c.length = (hdrOf c).len
  dense : s.par.sfdp = false ∨ allAre 0xFF (c.drop 64) = false

variable {c : List Byte}

theorem State.holdContent_result (s : State) (c : List Byte) : (s.holdContent c).copyResult c = s.copyResult c := rfl
theorem State.ReadsCopy.skips (h : s.ReadsCopy c) :
    (!s.norReads || s.par.reading == 0 || c.take 64 != s.hdr s.par.reading || c.length != (hdrOf c).len) = false ∧
      (s.par.sfdp && allAre 0xFF (c.drop 64)) = false := by
  obtain ⟨hr, hs, hh, hl, hd⟩ := h
  refine ⟨by simp [hr, hs, hh, hl], ?_⟩
  rcases hd with hd | hd <;> simp [hd]
theorem State.ReadsCopy.chosen (h : s.ReadsCopy c) (hv : s.copyResult c = 0) :
    s.copyRead c = (s.holdContent c).copyChosen s.par.reading c := by
  obtain ⟨hread, hblank⟩ := h.skips
  unfold State.copyRead
  dsimp only
  rw [hread, hblank, if_neg (by decide), if_neg (by decide)]
  split
  next => rfl
  next hne => exact absurd hv hne
/-- The copy is rejected: the older one is read where it stands, else no configuration can be applied. -/
theorem State.ReadsCopy.rejected (h : s.ReadsCopy c) (hv : s.copyResult c ≠ 0) :
    s.copyRead c =
      let y := (s.holdContent c).rejectCopy s.par.reading (s.copyResult c)
      if s.par.both && !s.par.fallback then State.readCopy { y with par := { y.par with fallback := true } } (otherCopy s.par.reading)
      else y.noConfig := by
  obtain ⟨hread, hblank⟩ := h.skips
  have hpar := (s.holdContent c).rejectCopy_par s.par.reading (s.copyResult c)
  unfold State.copyRead
  dsimp only
  rw [hread, hblank, if_neg (by decide), if_neg (by decide)]
  split
  next hz => exact absurd hz hv
  next => rw [State.holdContent_result, hpar]; rfl

/-- The other copy takes result 1 where both were candidates (R106). -/
def State.otherSkipped (s : State) : State :=
  s.when (s.par.both && !s.par.fallback) (·.set (resField (otherCopy s.par.reading)) 0 1)
theorem State.otherSkipped_result (s : State) : s.otherSkipped.get (resField (otherCopy s.par.reading)) =
    if s.par.both && !s.par.fallback then 1 else s.get (resField (otherCopy s.par.reading)) := by
  unfold State.otherSkipped State.when
  split
  · rw [State.get_set_self, resField_width]
    rfl
  · rfl
/-- The copy that was read is the configuration to apply. -/
def State.copyTaken (s : State) (c : List Byte) : State :=
  { s.otherSkipped with par := { s.par with source := s.par.reading, verified := c } }
theorem State.otherSkipped_par (s : State) : s.otherSkipped.par = s.par := by
  unfold State.otherSkipped State.when
  split <;> rfl
theorem State.copyChosen_framed (s : State) (c : List Byte) : Framed (s.copyTaken c) (s.copyChosen s.par.reading c) := by
  unfold State.copyChosen
  extract_lets other skipped told par
  have ht : Framed s.otherSkipped told := (Framed.refl _).when _ _ fun _ hx => hx.trans (State.logC_only _ _ rfl)
  have hp : par = s.par := ht.par.trans s.otherSkipped_par
  rw [hp]
  exact ht.withPar { s.par with source := s.par.reading, verified := c }

end Sys2Proof.Machine
end


section
/-!
The commands of the Parser, clause by clause of O23.
-/
namespace Sys2Proof.Machine

variable {s : State} {t density : Nat} {table : Sfdp} {qe : Bool} {a b c : List Byte}

/-! ## Discovery (R103, R104) -/

theorem State.quadTold_records (s : State) (o : Option Sfdp) : (s.quadTold o).Records 0x0406 := State.logC_records _ _ _ rfl

/-- The Parser may discover a NOR: PARSE, none discovered yet, its supply good. -/
structure State.Discovers (s : State) : Prop where
  parsing : s.parsing = true
  new : s.par.discovered = false
  good : s.flag F.SUPPLY_STATUS_VDDIO_GOOD = true

/-- What a discovery of a NOR with SFDP says of it. -/
def State.FoundSfdp (s u : State) (density : Nat) (table : Sfdp) (qe : Bool) : Prop :=
  u.par = (s.norFound (some table) density qe).par ∧ u.get F.IMAGE_INFO_NOR_DENSITY = density ∧
    Changes [.par, .rcd] [F.IMAGE_INFO_NOR_DENSITY, F.PARSE_STATUS_QE_FALLBACK] s u

/-- A NOR whose quad reads are available, or not asked for, is found. -/
theorem sfdp_found {d : BitVec 5} (h : (s.at t).Discovers) (hc : s.Calm) (hd : 2 ≤ d.toNat ∧ d.toNat ≤ 6)
    (hq : ¬(quadOk table qe = false ∧ s.norMode < 2)) :
    Gives (.norDiscovery t true d table qe) s (fun u => s.FoundSfdp u d.toNat table qe) := by
  obtain ⟨hparse, hnew, hv⟩ := h
  have hx := State.norDiscovery_served (o := some table) (qe := qe) hparse hnew hv fun _ => hd
  have hquiet : ((some table).isSome && !(some table).any (fun x => quadOk x qe) && decide ((s.at t).norMode < 2)) = false := by
    have hmode : (s.at t).norMode = s.norMode := rfl
    simp only [hmode, Option.isSome_some, Option.any_some, Bool.true_and, Bool.and_eq_false_iff, Bool.not_eq_false', decide_eq_false_iff_not]
    by_contra hboth
    exact hq (by simpa using hboth)
  rw [hquiet] at hx
  exact run_gives (f := (·.norDiscovery (some table) d.toNat qe)) rfl hx hc fun u _ hf => ⟨hf.par, (hf.get _ 0 (by decide)).trans ((s.at t).norFound_density (by omega)),
    (hf.changes ((s.at t).norFound_changes (by decide))).of_at⟩
/-- A NOR without quad reads where they are asked for is found, and this is told (R104). -/
theorem sfdp_found_single {d : BitVec 5} (h : (s.at t).Discovers) (hc : s.Calm) (hd : 2 ≤ d.toNat ∧ d.toNat ≤ 6)
    (hq : quadOk table qe = false) (hm : s.norMode < 2) :
    Gives (.norDiscovery t true d table qe) s (fun u =>
      s.FoundSfdp u d.toNat table qe ∧ u.get F.PARSE_STATUS_QE_FALLBACK = 1 ∧ u.Records 0x0406) := by
  obtain ⟨hparse, hnew, hv⟩ := h
  have hx := State.norDiscovery_served (o := some table) (qe := qe) hparse hnew hv fun _ => hd
  have htold : ((some table).isSome && !(some table).any (fun x => quadOk x qe) && decide ((s.at t).norMode < 2)) = true := by
    have hmode : (s.at t).norMode = s.norMode := rfl
    simp [hmode, hq, hm]
  rw [htold] at hx
  have hmark := State.quadTold_framed ((s.at t).norFound (some table) d.toNat qe) (some table)
  refine run_gives (f := (·.norDiscovery (some table) d.toNat qe)) rfl hx (hmark.calm.trans hc) fun u _ hf => ?_
  have hu := hmark.trans hf
  have hden := (s.at t).norFound_density (o := some table) (qe := qe) (by omega : d.toNat < 32)
  refine ⟨⟨hu.par, ?_, ?_⟩, (hu.get _ 0 (by decide)).trans (State.get_set_self ..), hf.records (State.quadTold_records _ _)⟩
  · exact (hu.get _ 0 (by decide)).trans ((State.get_set_of_ne _ F.PARSE_STATUS_QE_FALLBACK F.IMAGE_INFO_NOR_DENSITY 0 0 _ (by decide)).trans hden)
  · exact (hu.changes (Changes.of_two (s := s.at t) (ps := [.par, .rcd]) (fs := [F.IMAGE_INFO_NOR_DENSITY, F.PARSE_STATUS_QE_FALLBACK])
      (f := F.IMAGE_INFO_NOR_DENSITY) (g := F.PARSE_STATUS_QE_FALLBACK) rfl rfl (by decide) (by decide) (by decide) (by decide))).of_at
theorem single_found {d : BitVec 5} (h : (s.at t).Discovers) (hc : s.Calm) :
    Gives (.norDiscovery t false d table qe) s (fun u =>
      u.par = ((s.at t).norFound none 0 qe).par ∧ u.get F.IMAGE_INFO_NOR_DENSITY = 0 ∧
        Changes [.par, .rcd] [F.IMAGE_INFO_NOR_DENSITY] s u) := by
  obtain ⟨hparse, hnew, hv⟩ := h
  have hx := State.norDiscovery_served (o := none) (density := 0) (qe := qe) hparse hnew hv nofun
  exact run_gives (f := (·.norDiscovery none 0 qe)) rfl hx hc fun u _ hf => ⟨hf.par, (hf.get _ 0 (by decide)).trans ((s.at t).norFound_density (by decide)),
    (hf.changes ((s.at t).norFound_changes (by decide))).of_at⟩
theorem sfdp_unserved {d : BitVec 5} (h : (s.at t).Discovers) (hs : s.Still) (hd : d.toNat < 2 ∨ 6 < d.toNat) :
    Gives (.norDiscovery t true d table qe) s (fun u => u.mode = .safestop ∧ u.get F.MODE_STATUS_LAST_TRANS = 6 ∧ u.Records 0x0404) := by
  obtain ⟨hparse, hnew, hv⟩ := h
  have hx := State.norDiscovery_unserved (o := some table) (qe := qe) hparse hnew hv rfl hd
  exact (noConfig_gives (f := (·.norDiscovery (some table) d.toNat qe)) rfl hx (hs.of_eq rfl rfl)).mono
    fun _ ⟨hmode, htrans, hrec, _⟩ => ⟨hmode, htrans, hrec⟩

/-! ## The headers (R93, R105, R106) -/

/-- The verdict on a header by itself. -/
def State.headerResult (s : State) (h : List Byte) : Nat := hdrResult s.part s.otp.rollback s.lenLimit h

/-- The headers are read for the first time. -/
structure State.ReadsHeaders (s : State) : Prop where
  reads : s.norReads = true
  first : s.par.first = 0

theorem headers_accepted (h : (s.at t).ReadsHeaders) (hc : s.Calm) (hsf : s.par.sfdp = true) (ha : s.headerResult a = 0)
    (hb : s.headerResult b = 0) (hA : s.get F.PARSE_STATUS_A_RESULT = 0) (hB : s.get F.PARSE_STATUS_B_RESULT = 0) :
    Gives (.imageHeadersRead t a b) s (fun u =>
      u.par.reading = newerCopy a b ∧ u.par.both = true ∧ u.par.issued = [s.readAt (newerCopy a b)] ∧
        u.get F.PARSE_STATUS_SOURCE = s.get F.PARSE_STATUS_SOURCE ∧ Changes [.par] [] s u) := by
  have hread := State.headersRead_dense (h₁ := a) (h₂ := b) h.reads h.first hsf
  have h1 : ((s.at t).hdrsRead a b).checkHdr 1 = (s.at t).hdrsRead a b := State.checkHdr_accepted ha
  have h2 : ((s.at t).hdrsRead a b).checkHdr 2 = (s.at t).hdrsRead a b := State.checkHdr_accepted hb
  rw [h1, h2, State.hdrsJudged_both (s := (s.at t).hdrsRead a b) hA hB] at hread
  refine run_gives (f := (·.headersRead a b)) rfl hread hc fun u _ hf => ⟨?_, ?_, ?_, hf.get _ 0 (by decide), ?_⟩
  · rw [hf.par]; rfl
  · rw [hf.par]; rfl
  · rw [hf.par]; rfl
  · exact (hf.changes (s := s.at t) ⟨rfl, fun _ _ _ => rfl⟩).of_at
theorem headers_blank (h : (s.at t).ReadsHeaders) (hc : s.Calm) (hsf : s.par.sfdp = true) (ha : s.headerResult a = 2)
    (hb : s.headerResult b = 2) :
    Gives (.imageHeadersRead t a b) s (fun u =>
      u.par.source = 3 ∧ u.get F.PARSE_STATUS_A_RESULT = 2 ∧ u.get F.PARSE_STATUS_B_RESULT = 2 ∧ u.Records 0x0403) := by
  have hread := State.headersRead_dense (h₁ := a) (h₂ := b) h.reads h.first hsf
  have h1 : ((s.at t).hdrsRead a b).checkHdr 1 = ((s.at t).hdrsRead a b).set (resField 1) 0 2 := State.checkHdr_blank ha
  have h2 : (((s.at t).hdrsRead a b).set (resField 1) 0 2).checkHdr 2 = ((s.at t).hdrsRead a b).bothBlank :=
    State.checkHdr_blank ((State.hdrVerdict_set _ _ _ _).trans hb)
  rw [h1, h2, State.hdrsJudged_blank (State.bothBlank_A _) (State.bothBlank_B _)] at hread
  exact takeProfile_gives (f := (·.headersRead a b)) rfl hread hc
theorem headers_flat (h : (s.at t).ReadsHeaders) (hc : s.Calm) (hsf : s.par.sfdp = false) (ha : allAre 0 a = true ∨ allAre 0xFF a = true)
    (hb : allAre 0 b = true ∨ allAre 0xFF b = true) :
    Gives (.imageHeadersRead t a b) s (fun u =>
      u.par.source = 3 ∧ u.get F.PARSE_STATUS_A_RESULT = 2 ∧ u.get F.PARSE_STATUS_B_RESULT = 2 ∧ u.Records 0x0403) :=
  takeProfile_gives (f := (·.headersRead a b)) rfl (State.headersRead_flat h.reads h.first hsf ha hb) hc

/-- Both headers are rejected: the results stand, with a record. -/
theorem State.checkHdr_rejected_both {x : State} (ha : 3 ≤ x.hdrVerdict 1) (hb : 3 ≤ x.hdrVerdict 2) :
    (x.checkHdr 1).checkHdr 2 = (x.rejectCopy 1 (x.hdrVerdict 1)).rejectCopy 2 (x.hdrVerdict 2) := by
  have h2 := x.hdrVerdict_rejectCopy 2 1 (x.hdrVerdict 1)
  rw [State.checkHdr_rejected ha, State.checkHdr_rejected (h2.symm ▸ hb), h2]
theorem State.rejectCopy_both_A (x : State) {v : Nat} (w : Nat) (hv : v < 16) :
    ((x.rejectCopy 1 v).rejectCopy 2 w).get F.PARSE_STATUS_A_RESULT = v :=
  (((x.rejectCopy 1 v).rejectCopy_framed 2 w).get _ 0 (by decide)).trans
    ((State.get_set_of_ne _ F.PARSE_STATUS_B_RESULT F.PARSE_STATUS_A_RESULT 0 0 _ (by decide)).trans (x.rejectCopy_result 1 hv))
theorem State.hdrsJudged_rejected_both {x : State} (ha : 3 ≤ x.hdrVerdict 1) (hb : 3 ≤ x.hdrVerdict 2) :
    ((x.checkHdr 1).checkHdr 2).hdrsJudged a b = ((x.rejectCopy 1 (x.hdrVerdict 1)).rejectCopy 2 (x.hdrVerdict 2)).noConfig := by
  have hA := x.rejectCopy_both_A (x.hdrVerdict 2) (x.hdrVerdict_lt 1)
  have hB := (x.rejectCopy 1 (x.hdrVerdict 1)).rejectCopy_result 2 (x.hdrVerdict_lt 2)
  rw [State.checkHdr_rejected_both ha hb]
  exact State.hdrsJudged_rejected (ha.trans_eq hA.symm) (hb.trans_eq hB.symm)
theorem headers_rejected (h : (s.at t).ReadsHeaders) (hs : s.Still) (hsf : s.par.sfdp = true) (ha : 3 ≤ s.headerResult a)
    (hb : 3 ≤ s.headerResult b) :
    Gives (.imageHeadersRead t a b) s (fun u =>
      u.mode = .safestop ∧ u.get F.MODE_STATUS_LAST_TRANS = 6 ∧ u.get F.PARSE_STATUS_A_RESULT = s.headerResult a ∧ u.Records 0x0401 ∧
        u.Records 0x0404) := by
  let x := (s.at t).hdrsRead a b
  have hread : (s.at t).headersRead a b = _ :=
    (State.headersRead_dense h.reads h.first hsf).trans (State.hdrsJudged_rejected_both (x := x) ha hb)
  have hstill : x.Still := hs.of_eq rfl rfl
  have hA := x.rejectCopy_both_A (x.hdrVerdict 2) (x.hdrVerdict_lt 1)
  refine (noConfig_gives (f := (·.headersRead a b)) rfl hread (State.rejectCopy_still (State.rejectCopy_still hstill 1 _) 2 _)).mono
    fun u ⟨hmode, htrans, hrec, hf⟩ => ⟨hmode, htrans, (hf.get _ 0 (by decide)).trans hA, hf.records ?_, hrec⟩
  exact State.rejectCopy_records ..

/-! ## Failed reads (R108) -/

theorem read_restarts (hp : (s.at t).parsing = true) (hc : s.Calm) (hw : s.par.waiting = false)
    (hr : s.get F.PARSE_STATUS_READ_RETRY < 2) :
    Gives (.norReadFail t) s (fun u =>
      u.get F.PARSE_STATUS_READ_RETRY = s.get F.PARSE_STATUS_READ_RETRY + 1 ∧ u.par.discovered = false ∧ u.par.reading = 0 ∧
        u.par.waiting = !s.flag F.SUPPLY_STATUS_VDDIO_GOOD ∧ u.Records 0x0405) := by
  have hne : (s.at t).get F.PARSE_STATUS_READ_RETRY ≠ 2 := Nat.ne_of_lt hr
  obtain ⟨hrestart, hrec⟩ := State.readFail_restarts hne
  refine run_gives (f := State.norFail) rfl (State.norFail_reads hp hw) (hrestart.calm.trans hc) fun u _ hf => ?_
  have hu := hrestart.trans hf
  refine ⟨(hu.get _ 0 (by decide)).trans (State.retried_count (s := s.at t) hr), ?_, ?_, ?_, hf.records hrec⟩
  · rw [hu.par]; rfl
  · rw [hu.par]; rfl
  · rw [hu.par]; rfl
theorem read_third_failure (hp : (s.at t).parsing = true) (hs : s.Still) (hw : s.par.waiting = false)
    (hr : s.get F.PARSE_STATUS_READ_RETRY = 2) :
    Gives (.norReadFail t) s (fun u => u.mode = .safestop ∧ u.get F.MODE_STATUS_LAST_TRANS = 6 ∧ u.Records 0x0404) := by
  have hfail := (State.norFail_reads hp hw).trans (State.readFail_third hr)
  exact (unread_gives (f := State.norFail) rfl hfail (hs.of_eq rfl rfl)).mono fun _ ⟨hmode, htrans, hrec, _⟩ => ⟨hmode, htrans, hrec⟩
theorem vddio_wait_over (hp : (s.at t).parsing = true) (hs : s.Still) (hw : s.par.waiting = true)
    (hv : s.flag F.SUPPLY_STATUS_VDDIO_GOOD = false) (hd : s.par.waitAt + 50000000 ≤ (s.at t).now) :
    Gives (.norVddioWaitTimeout t) s (fun u =>
      u.mode = .safestop ∧ (u.get F.PARSE_STATUS_A_RESULT = 0xA ∨ u.get F.PARSE_STATUS_B_RESULT = 0xA) ∧ u.par.source = s.par.source) :=
  (unread_gives (f := State.vddioWait) rfl (State.vddioWait_over hp hw hv hd) (hs.of_eq rfl rfl)).mono
    fun _ ⟨hmode, _, _, hres, hsrc⟩ => ⟨hmode, hres, hsrc⟩

/-! ## The verdict on a copy (R102, R106) -/

theorem copy_chosen (h : (s.at t).ReadsCopy c) (hc : s.Calm) (hv : s.copyResult c = 0) :
    Gives (.imageCopyVerified t c) s (fun u =>
      u.par.source = s.par.reading ∧ u.par.verified = c ∧ u.get (resField (otherCopy s.par.reading)) =
        if s.par.both && !s.par.fallback then 1 else s.get (resField (otherCopy s.par.reading))) := by
  have hx := h.chosen hv
  have hchosen := ((s.at t).holdContent c).copyChosen_framed c
  have hcalm : (((s.at t).holdContent c).copyTaken c).Calm := by
    unfold State.copyTaken State.otherSkipped State.when
    split <;> exact hc
  refine run_gives (f := (·.copyRead c)) rfl hx (hchosen.calm.trans hcalm) fun u _ hf => ?_
  have hu := hchosen.trans hf
  refine ⟨by rw [hu.par]; rfl, by rw [hu.par]; rfl, ?_⟩
  exact (hu.get _ 0 (settleKey_resField _)).trans ((s.at t).holdContent c).otherSkipped_result
theorem older_copy_read (h : (s.at t).ReadsCopy c) (hc : s.Calm) (hv : s.copyResult c ≠ 0) (hlt : s.copyResult c < 16)
    (hboth : s.par.both = true) (hfall : s.par.fallback = false) :
    Gives (.imageCopyVerified t c) s (fun u =>
      u.par.reading = otherCopy s.par.reading ∧ u.par.fallback = true ∧ u.get (resField s.par.reading) = s.copyResult c ∧
        u.Records 0x0401) := by
  have hx := h.rejected hv
  rw [if_pos (by simp [State.at, hboth, hfall])] at hx
  have hrej := ((s.at t).holdContent c).rejectCopy_framed s.par.reading (s.copyResult c)
  refine run_gives (f := (·.copyRead c)) rfl hx (hrej.calm.trans hc) fun u _ hf => ⟨?_, ?_, ?_, hf.records (State.rejectCopy_records ..)⟩
  · rw [hf.par]; rfl
  · rw [hf.par]; rfl
  · exact (hf.get _ 0 (settleKey_resField _)).trans (((s.at t).holdContent c).rejectCopy_result s.par.reading hlt)
theorem no_copy_left (h : (s.at t).ReadsCopy c) (hs : s.Still) (hv : s.copyResult c ≠ 0) (hnone : s.par.both = false ∨ s.par.fallback = true) :
    Gives (.imageCopyVerified t c) s (fun u =>
      u.mode = .safestop ∧ u.get F.MODE_STATUS_LAST_TRANS = 6 ∧ u.par.source = s.par.source ∧ u.Records 0x0404) := by
  let y := ((s.at t).holdContent c).rejectCopy s.par.reading (s.copyResult c)
  have hx : (s.at t).copyRead c = y.noConfig :=
    (h.rejected hv).trans (if_neg (by rcases hnone with hn | hn <;> simp [State.at, hn]))
  have hheld : ((s.at t).holdContent c).Still := hs.of_eq rfl rfl
  have hstill : y.Still := State.rejectCopy_still hheld s.par.reading (s.copyResult c)
  have hpar : y.par = s.par := ((s.at t).holdContent c).rejectCopy_par s.par.reading (s.copyResult c)
  refine (noConfig_gives (f := (·.copyRead c)) rfl hx hstill).mono fun u ⟨hmode, htrans, hrec, hf⟩ => ⟨hmode, htrans, ?_, hrec⟩
  rw [hf.par, ← hpar]
  rfl

end Sys2Proof.Machine
end


section
open Sys2Proof Sys2Proof.Machine

/-- Settles O23: the conditions of a clause say which branch its command takes (`State.Discovers`, `State.ReadsHeaders`,
`State.ReadsCopy`); what the branch leaves is read through the frame of the end of the update, and T6 through `noConfig_gives`. -/
theorem parserChoosesACopy : Obligations.ParserChoosesACopy := by
  unfold Obligations.ParserChoosesACopy
  refine ⟨?_, ?_, ?_, ?_, ?_, ?_, ?_, ?_, ?_, ?_, ?_, ?_, ?_⟩
  · intro t s d x q hc hm hd hs hp hn hnew hv hlow hhigh
    have hdisc : (s.at t).Discovers := ⟨State.parsing_of hm hd hs hp hn, hnew, hv⟩
    by_cases hq : quadOk x q = false ∧ s.norMode < 2
    · refine (sfdp_found_single hdisc hc ⟨hlow, hhigh⟩ hq.1 hq.2).mono fun u ⟨⟨hpar, hden, hch⟩, htold⟩ => ?_
      rw [hpar]
      exact ⟨rfl, hden, rfl, rfl, rfl, rfl, fun _ _ => htold, hch⟩
    · refine (sfdp_found hdisc hc ⟨hlow, hhigh⟩ hq).mono fun u ⟨hpar, hden, hch⟩ => ?_
      rw [hpar]
      exact ⟨rfl, hden, rfl, rfl, rfl, rfl, fun hno hm => absurd ⟨hno, hm⟩ hq, hch⟩
  · intro t s d x q hc hm hd hs hp hn hnew hv
    refine (single_found ⟨State.parsing_of hm hd hs hp hn, hnew, hv⟩ hc).mono fun u ⟨hpar, hden, hch⟩ => ?_
    rw [hpar]
    exact ⟨rfl, hden, rfl, rfl, rfl, hch⟩
  · intro t s d x q hst _ hm hd hs hp hn hnew hv hout
    exact sfdp_unserved ⟨State.parsing_of hm hd hs hp hn, hnew, hv⟩ hst hout
  · intro t s x y hc hm hd hs hp hn hdisc hfirst hw hv hsf hx hy hA hB
    exact headers_accepted ⟨State.norReads_of (State.parsing_of hm hd hs hp hn) hdisc hw hv, hfirst⟩ hc hsf hx hy hA hB
  · intro t s x y hc hm hd hs hp hn hdisc hfirst hw hv hsf hx hy
    exact headers_blank ⟨State.norReads_of (State.parsing_of hm hd hs hp hn) hdisc hw hv, hfirst⟩ hc hsf hx hy
  · intro t s x y hc hm hd hs hp hn hdisc hfirst hw hv hsf hx hy
    exact headers_flat ⟨State.norReads_of (State.parsing_of hm hd hs hp hn) hdisc hw hv, hfirst⟩ hc hsf hx hy
  · intro t s x y hst _ hm hd hs hp hn hdisc hfirst hw hv hsf _ _ hx hy
    exact headers_rejected ⟨State.norReads_of (State.parsing_of hm hd hs hp hn) hdisc hw hv, hfirst⟩ hst hsf hx hy
  · intro t s hc hm hd hs hp hn hw hretry
    exact read_restarts (State.parsing_of hm hd hs hp hn) hc hw hretry
  · intro t s hst _ hm hd hs hp hn hw hretry
    exact read_third_failure (State.parsing_of hm hd hs hp hn) hst hw hretry
  · intro t s hst _ hm hd hs hp hn hw hv hover
    exact (vddio_wait_over (State.parsing_of hm hd hs hp hn) hst hw hv hover).mono
      fun _ ⟨hmode, hres, hsrc⟩ => ⟨hmode, hres, hsrc.trans hs⟩
  · intro t s c hc hm hd hs hp hn hdisc hv hw hrd hhdr hlen hdense hres
    exact copy_chosen ⟨State.norReads_of (State.parsing_of hm hd hs hp hn) hdisc hw hv, hrd, hhdr, hlen, hdense⟩ hc hres
  · rintro t s c _ hc hm hd hs hp hn hdisc hv hw hrd hhdr hlen hdense rfl hne hlt hboth hfall
    exact older_copy_read ⟨State.norReads_of (State.parsing_of hm hd hs hp hn) hdisc hw hv, hrd, hhdr, hlen, hdense⟩ hc hne hlt hboth hfall
  · intro t s c hst _ hm hd hs hp hn hdisc hv hw hrd hhdr hlen hdense hne hnone
    exact (no_copy_left ⟨State.norReads_of (State.parsing_of hm hd hs hp hn) hdisc hw hv, hrd, hhdr, hlen, hdense⟩ hst hne hnone).mono
      fun _ ⟨hmode, htrans, hsrc, hrec⟩ => ⟨hmode, htrans, hsrc.trans hs, hrec⟩
end


section
/-!
The statements on the rail engine that the model does not meet: for each, a state, a command, and the outcome that the model evaluates to.
-/
namespace Sys2Proof.Machine

/-- Phase 0 of rail 0 drives HIGH in an undershoot action past LS_MAX; its TFLT input reads a fault, and the blanking window after its
last level change has ended since the last look. -/
def lsMaxWithFault : State :=
  let s := State.second.sl.up.md .regulate |>.rst 0 .reg |>.cf 0 (fun c => { c with present := true })
  let s := s.mark F.SEN_CFG_SEN_STATE |>.mark F.PH_STATE_ASSIGNED |>.mark F.PWM_STATUS_TFLT_FAULT |>.set F.LS_CFG_LS_MAX 0 1
  (s.setLevel 0 .high).modPh 0 (fun p => { p with sw := .active, chgAt := 1 }) |>.modFr 0 (fun f => { f with ls := .under })

/-- The Control die runs, the last feedforward sample is old, and the one-bit VIN_STALE of each rail holds 2. -/
def staleFlagsWide : State :=
  let s := State.second.up.modRail 0 (fun x => { x with eng := { x.eng with vinAt := some 5 } })
  { s with regs := allRails.foldl (fun m r => m.set (F.ENG_STATUS_VIN_STALE.key r) 2) s.regs }

/-- A full block of rail 0, whose two 16-bit duty limits hold 65,536. -/
def dutyLimitsWide : State :=
  { at_RailEngine_4 with
    regs := (at_RailEngine_4.regs.set (F.DUTY_LIM_DUTY_MIN.key 0) 65536).set (F.DUTY_LIM_DUTY_MAX.key 0) 65536 }

end Sys2Proof.Machine
open Sys2Proof Sys2Proof.Machine

/-- Refutes O55: the end of a large-signal action looks at the phases of its rail, and where a fault reading stands at the end of a
blanking window that look cuts (R210) and sets CUT_S, a field that the frame of LS_MAX_EXPIRY does not name. -/
theorem not_frameOfRailCommands : ¬ Obligations.FrameOfRailCommands := by
  unfold Obligations.FrameOfRailCommands
  rintro ⟨-, -, hLsMax, -⟩
  obtain ⟨u, hu, hframe, -, -⟩ := run_next 0 (State.lsMax · 0) lsMaxWithFault (by decide +kernel)
  have hkept : u.get F.PWM_STICKY_CUT_S = lsMaxWithFault.get F.PWM_STICKY_CUT_S :=
    (hLsMax 0 0 lsMaxWithFault u (by decide +kernel) hu).regs _ (by decide) (by decide)
  have hcut : ((lsMaxWithFault.at 0).lsMax 0).get F.PWM_STICKY_CUT_S ≠ lsMaxWithFault.get F.PWM_STICKY_CUT_S := by decide +kernel
  exact hcut ((hframe.get F.PWM_STICKY_CUT_S 0 (by decide)).symm.trans hkept)

/-- Refutes O15: the statement speaks of every value of VIN_STALE, and where the one-bit flag of each rail holds 2, which no write of the
model leaves, all of them read as set: VIN_STALE then leaves the state as it is, and the field holds 2 and not 1. -/
theorem not_staleBusFeedforward : ¬ Obligations.StaleBusFeedforward := by
  unfold Obligations.StaleBusFeedforward
  rintro ⟨hStale, -⟩
  obtain ⟨u, hu, hone, -⟩ := hStale 0 staleFlagsWide 0 (by decide +kernel) (by decide +kernel) (by decide +kernel)
  have htwo : (settle (staleFlagsWide.at 0) (staleFlagsWide.at 0).vinStale).get F.ENG_STATUS_VIN_STALE = 2 := by decide +kernel
  rw [← run_get (f := State.vinStale) hu] at htwo
  exact absurd (htwo.symm.trans hone) (by decide)

/-- Refutes O25, by its clause of R127: the statement speaks of every value of DUTY_MIN and DUTY_MAX, and where these 16-bit fields hold
65,536, which no write of the model leaves, DUTY takes that limit modulo 2^16, which is below DUTY_MIN. -/
theorem not_railEngine : ¬ Obligations.RailEngine := by
  unfold Obligations.RailEngine
  rintro ⟨-, -, -, hDuty, -⟩
  obtain ⟨u, hu, hmin, -⟩ := hDuty 0 dutyLimitsWide 0 0 (by decide +kernel) (by decide +kernel) (by decide +kernel) (by decide +kernel)
  have hlow : (settle (dutyLimitsWide.at 0) ((dutyLimitsWide.at 0).engineUpdate 0 0)).get F.MON_DEMAND_DUTY
      < dutyLimitsWide.get F.DUTY_LIM_DUTY_MIN := by decide +kernel
  rw [← run_get (f := (State.engineUpdate · 0 0)) hu] at hlow
  exact Nat.not_le.mpr hlow hmin
end


section
/-!
What following the outputs of a rail leaves (R202): the looks, the levels and the cuts, an add request, the hints that a trip unwinds, and
the window readings of a sample. `Driven` is all that the large-signal actions and braking need of it.
-/
namespace Sys2Proof.Machine

variable {b s : State}

/-- The register fields that these operations may write. -/
def drivenFields : List Fld :=
  [F.PHC_STATUS_ADD_PEND, F.PHC_STATUS_DE_ACT, F.PWM_STATUS_CUT_CNT, F.PWM_STATUS_CUT_SRC, F.PWM_STATUS_LEVEL, F.PWM_STICKY_CUT_S,
   F.RP_STATUS_OV_RD, F.RP_STATUS_PGOOD_ST, F.RP_STATUS_UV_RD, F.TN_STAT_N_SCHED]
/-- A register key that these operations may write. -/
def drivenKey (k : Nat) : Bool := drivenFields.any (fun f => f.hasKey k)
theorem drivenFields_fit : drivenFields.all Fld.fits = true := by decide
theorem driven {f : Fld} {i : Nat} (hf : f ∈ drivenFields) (hi : i < f.count) : drivenKey (f.key i) = true :=
  List.any_eq_true.2 ⟨f, hf, Fld.hasKey_key f i (List.all_eq_true.1 drivenFields_fit f hf) hi⟩

/-- A Front-die side but for its window readings and the record of its codes. -/
def Front.driven (f : Front) : Front :=
  { f with dacHist := [], regAt := 0, ovRun := 0, ovaRun := 0, ovaVsa := false, uvRun := 0, uvAt := 0, cbLowAt := none, pgAt := 0
           frz := [], frzDone := false }
/-- The filtered current and the DAC code of an engine. -/
def Engine.driven (e : Engine) : Int × Nat := (e.iF, e.dac)
/-- A rail's state, its engine and its Front-die side. -/
def Rail.driven (x : Rail) : RailState × (Int × Nat) × Front := (x.st, x.eng.driven, x.fr.driven)
/-- Whether a phase switches, brakes, and the current it is observed to carry. -/
def Phase.driven (p : Phase) : Sw × Bool × Int := (p.sw, p.braking, p.ihat)

/-- Clock, power sequencer, image, each rail and each phase as far as these operations leave them, and the other registers. -/
structure Driven (b s : State) : Prop where
  now : s.now = b.now
  pow : s.pow = b.pow
  img : s.img = b.img
  rail : ∀ r, (s.rail r).driven = (b.rail r).driven
  phase : ∀ n, (s.ph n).driven = (b.ph n).driven
  regs : ∀ k, drivenKey k = false → s.regs.get k = b.regs.get k

theorem Driven.refl (s : State) : Driven s s := ⟨rfl, rfl, rfl, fun _ => rfl, fun _ => rfl, fun _ _ => rfl⟩

/-! ## What it keeps -/

theorem Driven.get (h : Driven b s) (f : Fld) (i : Nat) (hk : drivenKey (f.key i) = false) : s.get f i = b.get f i := h.regs _ hk
/-- A field of a rail. -/
theorem Driven.railGet (h : Driven b s) (f : Fld) (r : Fin 8) (hk : ∀ q : Fin 8, drivenKey (f.key q) = false) : s.get f r = b.get f r :=
  h.get f r (hk r)
theorem Driven.railFlag (h : Driven b s) (f : Fld) (r : Fin 8) (hk : ∀ q : Fin 8, drivenKey (f.key q) = false) :
    s.flag f r = b.flag f r := by
  unfold State.flag
  rw [h.railGet f r hk]
theorem Driven.st (h : Driven b s) (r : Fin 8) : s.st r = b.st r := congrArg Prod.fst (h.rail r)
theorem Driven.fr (h : Driven b s) (r : Fin 8) : (s.fr r).driven = (b.fr r).driven := congrArg (·.2.2) (h.rail r)
theorem Driven.sw (h : Driven b s) (n : Fin 32) : (s.ph n).sw = (b.ph n).sw := congrArg Prod.fst (h.phase n)
theorem Driven.braking (h : Driven b s) (n : Fin 32) : (s.ph n).braking = (b.ph n).braking := congrArg (·.2.1) (h.phase n)
theorem Driven.ihat (h : Driven b s) (n : Fin 32) : (s.ph n).ihat = (b.ph n).ihat := congrArg (·.2.2) (h.phase n)
theorem Driven.ls (h : Driven b s) (r : Fin 8) : (s.fr r).ls = (b.fr r).ls := by have := congrArg Front.ls (h.fr r); exact this
theorem Driven.lsAt (h : Driven b s) (r : Fin 8) : (s.fr r).lsAt = (b.fr r).lsAt := by have := congrArg Front.lsAt (h.fr r); exact this
theorem Driven.drives (h : Driven b s) (r : Fin 8) : s.drives r = b.drives r := by unfold State.drives; rw [h.st]
theorem Driven.code (h : Driven b s) (r : Fin 8) : (s.fr r).code = (b.fr r).code := by have := congrArg Front.code (h.fr r); exact this
theorem Driven.snsRun (h : Driven b s) (r : Fin 8) : (s.fr r).snsRun = (b.fr r).snsRun := by
  have := congrArg Front.snsRun (h.fr r)
  exact this
theorem Driven.eng (h : Driven b s) (r : Fin 8) : (s.eng r).driven = (b.eng r).driven := congrArg (·.2.1) (h.rail r)
theorem Driven.fLlt (h : Driven b s) (r : Fin 8) : s.fLlt r = b.fLlt r := by
  have hiF : (s.eng r).iF = (b.eng r).iF := congrArg Prod.fst (h.eng r)
  unfold State.fLlt State.copy State.imgGet
  rw [hiF, h.img]
/-- The code that a sample of the output has. -/
theorem Driven.codeOf (h : Driven b s) (r : Fin 8) (v : Int) : s.codeOf r v = b.codeOf r v := by
  have hdac : (s.eng r).dac = (b.eng r).dac := congrArg Prod.snd (h.eng r)
  have htrim : (s.fr r).refTrim = (b.fr r).refTrim := by have := congrArg Front.refTrim (h.fr r); exact this
  unfold State.codeOf State.dacCode
  rw [hdac, htrim]

/-! ## The operations -/

theorem Driven.set (h : Driven b s) {f : Fld} {i : Nat} (v : Nat) (hk : drivenKey (f.key i) = true) : Driven b (s.set f i v) :=
  ⟨h.now, h.pow, h.img, h.rail, h.phase, fun k hn => by
    have hne : k ≠ f.key i := fun e => by rw [e, hk] at hn; cases hn
    exact (Store.get_set_of_ne _ _ hne).trans (h.regs k hn)⟩
theorem Driven.modRail (h : Driven b s) {r : Fin 8} {f : Rail → Rail} (hf : ∀ x, (f x).driven = x.driven) : Driven b (s.modRail r f) := by
  refine ⟨h.now, h.pow, h.img, fun q => ?_, h.phase, h.regs⟩
  rw [← h.rail q]
  by_cases hq : q = r
  · subst hq
    rw [State.rail_modRail_self, hf]
  · rw [State.rail_modRail_of_ne _ _ _ _ hq]
theorem Driven.modFr (h : Driven b s) {r : Fin 8} {f : Front → Front} (hf : ∀ x, (f x).driven = x.driven) : Driven b (s.modFr r f) :=
  h.modRail fun x => by simp only [Rail.driven, hf]
theorem Driven.modEng (h : Driven b s) {r : Fin 8} {f : Engine → Engine} (hf : ∀ x, (f x).driven = x.driven) : Driven b (s.modEng r f) :=
  h.modRail fun x => by simp only [Rail.driven, hf]
theorem Driven.modPh (h : Driven b s) {n : Fin 32} {f : Phase → Phase} (hf : ∀ p, (f p).driven = p.driven) : Driven b (s.modPh n f) := by
  refine ⟨h.now, h.pow, h.img, h.rail, fun m => ?_, h.regs⟩
  rw [← h.phase m]
  by_cases hm : m = n
  · subst hm
    rw [State.ph_modPh_self, hf]
  · rw [State.ph_modPh_of_ne _ _ _ _ hm]
theorem Driven.ite {c : Prop} {d : Decidable c} {x y : State} (hx : Driven b x) (hy : Driven b y) : Driven b (@ite _ c d x y) := by
  split <;> assumption
theorem Driven.foldl {α : Type} {f : State → α → State} {l : List α} (h : Driven b s) (hf : ∀ x a, Driven b x → Driven b (f x a)) :
    Driven b (l.foldl f s) := List.foldlRecOn l f h fun x hx a _ => hf x a hx
/-- An event whose record sets no status bit. -/
theorem Driven.logF (h : Driven b s) {code unit : Nat} {items : List (Nat × Int)} {react : React} (hc : statusCodes.contains code = false) :
    Driven b (s.logF code unit items react) := by
  unfold State.logF
  refine ⟨(State.raise_now ..).trans h.now, (State.raise_pow ..).trans h.pow, (State.raise_img ..).trans h.img, fun r => ?_, fun n => ?_,
    fun k hk => ?_⟩
  · simp only [State.rail, State.raise_rails]
    exact h.rail r
  · simp only [State.ph, State.raise_phases]
    exact h.phase n
  · rw [State.raise_regs _ _ _ _ _ hc]
    exact h.regs k hk

theorem Driven.toLevelAt (h : Driven b s) {n : Fin 32} {l : Level} {tk : Nat} : Driven b (s.toLevelAt n l tk) := by
  unfold State.toLevelAt State.setLevel
  refine .ite h (.set ?_ _ (driven (by decide) n.isLt))
  exact h.modPh fun _ => rfl
theorem Driven.cutAt (h : Driven b s) {n : Fin 32} {src tk : Nat} : Driven b (s.cutAt n src tk) := by
  unfold State.cutAt
  extract_lets marked counted noted regulated
  have hmarked : Driven b marked := (h.set _ (driven (by decide) n.isLt)).set _ (driven (by decide) n.isLt)
  have hcounted : Driven b counted := .ite (hmarked.set _ (driven (by decide) n.isLt)) hmarked
  have hnoted : Driven b noted := hcounted.modPh fun _ => rfl
  have hregulated : Driven b regulated := hnoted.modFr fun _ => rfl
  exact .ite (.logF hregulated.toLevelAt (by decide)) h
theorem Driven.lookStep (h : Driven b s) {n : Fin 32} {tk : Nat} : Driven b (s.lookStep n tk) := by
  have hseen : Driven b (s.modPh n (fun p => { p with seenAt := tk })) := h.modPh fun _ => rfl
  exact .toLevelAt (.ite hseen.cutAt hseen)
theorem Driven.lookN {n : Fin 32} (k : Nat) (h : Driven b s) : Driven b (s.lookN n k) := by
  induction k generalizing s with
  | zero => exact h
  | succ k ih =>
    unfold State.lookN
    split
    · exact h
    · exact ih h.lookStep
theorem Driven.look (h : Driven b s) {n : Fin 32} : Driven b (s.look n) := (h.lookN 12).modPh fun _ => rfl
theorem Driven.lookRail (h : Driven b s) {r : Fin 8} : Driven b (s.lookRail r) := h.foldl fun _ _ hx => hx.look
theorem Driven.redrive (h : Driven b s) {n : Fin 32} : Driven b (s.redrive n) := h.look.toLevelAt
theorem Driven.redriveRail (h : Driven b s) {r : Fin 8} : Driven b (s.redriveRail r) := h.foldl fun _ _ hx => hx.redrive

theorem Driven.endDe (h : Driven b s) {r : Fin 8} : Driven b (s.endDe r) := (h.set _ (driven (by decide) r.isLt)).modEng fun _ => rfl
theorem Driven.addEvent (h : Driven b s) {r : Fin 8} : Driven b (s.addEvent r) := h.endDe.modEng fun _ => rfl
theorem Driven.putHints (h : Driven b s) {r : Fin 8} {l : List Hint} : Driven b (s.putHints r l) :=
  .set (f := F.TN_STAT_N_SCHED) (h.modRail (f := fun x => { x with tn := l }) fun _ => rfl) _ (driven (by decide) r.isLt)
theorem Driven.tripHints (h : Driven b s) {r : Fin 8} {positive : Bool} : Driven b (s.tripHints r positive) := h.putHints
theorem Driven.requestAdd (h : Driven b s) {r : Fin 8} {k : Nat} {cost : Option Nat} {cause : Nat} :
    Driven b (s.requestAdd r k cost cause) :=
  .ite h (.modEng (h.endDe.set _ (driven (by decide) r.isLt)) fun _ => by dsimp only; split <;> rfl)

theorem Driven.noteDac (h : Driven b s) {r : Fin 8} : Driven b (s.noteDac r) := by
  unfold State.noteDac
  dsimp only
  split
  · exact h.modFr fun _ => rfl
  · exact .ite h (h.modFr fun _ => rfl)
theorem Driven.windows (h : Driven b s) {r : Fin 8} {vs va : Int} : Driven b (s.windows r vs va) := by
  unfold State.windows
  extract_lets vOv vUv ovF f abs ov oa counted read uvOn uv timed
  have hcounted : Driven b counted := h.modFr fun _ => rfl
  have hread : Driven b read :=
    .ite (hcounted.set _ (driven (by decide) r.isLt)) (.ite (hcounted.set _ (driven (by decide) r.isLt)) hcounted)
  have htimed : Driven b timed := hread.modFr fun _ => rfl
  have hin : Driven b (timed.clear F.RP_STATUS_UV_RD r) := htimed.set _ (driven (by decide) r.isLt)
  exact .ite hin (.ite (.ite htimed (.modFr (htimed.set _ (driven (by decide) r.isLt)) fun _ => rfl)) (.ite hin htimed))
theorem Driven.crowbarLow (h : Driven b s) {r : Fin 8} {vs va : Int} : Driven b (s.crowbarLow r vs va) := by
  unfold State.crowbarLow
  exact h.modFr fun _ => rfl
theorem Driven.frozenSample (h : Driven b s) {r : Fin 8} : Driven b (s.frozenSample r) := h.modFr fun _ => rfl

end Sys2Proof.Machine
end


section
/-!
Large-signal actions (R146 to R149) and one sample (R119): what a trip and an end leave, and what ERROR_SAMPLE leaves of a rail that drives
on its main sense.
-/
namespace Sys2Proof.Machine

variable {b s : State} {r : Fin 8}

/-! ## The end and the trip -/

/-- The end of an action is that of `endLs`, then the outputs follow. -/
theorem State.lsEnd_driven (s : State) (r : Fin 8) : Driven ((s.lookRail r).endLs r) (s.lsEnd r) := by
  unfold State.lsEnd
  extract_lets ended quiet
  have hquiet : Driven ended quiet := (Driven.refl ended).foldl fun x n hx => hx.modPh fun _ => rfl
  exact hquiet.redriveRail

/-- What a trip writes before the outputs follow. -/
def State.tripped (s : State) (r : Fin 8) (under : Bool) : State :=
  let s := (s.lookRail r).modFr r (fun f => { f with ls := if under then .under else .over, lsAt := s.now, upRun := 0, dnRun := 0 })
  (s.mark (if under then F.ENG_STATUS_LSU_ACT else F.ENG_STATUS_LSD_ACT) r).mark (if under then F.ENG_STICKY_LSU_S else F.ENG_STICKY_LSD_S) r
theorem State.lsTrip_driven (s : State) (r : Fin 8) (under : Bool) : Driven (s.tripped r under) (s.lsTrip r under) := by
  unfold State.lsTrip
  extract_lets acting told sticky marked driving
  have hmarked : Driven sticky marked := (Driven.refl sticky).foldl fun x n hx => hx.modPh fun _ => rfl
  have hdriving : Driven sticky driving := hmarked.addEvent.tripHints.redriveRail
  exact .ite hdriving.requestAdd hdriving

/-- `endLs` ends the action of its rail. -/
theorem State.endLs_ls (s : State) (r : Fin 8) : ((s.endLs r).fr r).ls = .none := by
  unfold State.endLs
  extract_lets f told ended undriven
  have hended : (ended.fr r).ls = .none := by simp [ended, State.fr]
  have hundriven : (undriven.fr r).ls = .none :=
    List.foldlRecOn (motive := fun x : State => (x.fr r).ls = .none) _ _ hended fun x hx n _ => hx
  clear_value undriven
  exact hundriven
theorem State.endLs_get_lsu (s : State) (r : Fin 8) : (s.endLs r).get F.ENG_STATUS_LSU_ACT r = 0 := by
  unfold State.endLs
  extract_lets f told ended undriven
  simp only [State.clear_eq, State.get_set, Nat.zero_mod, ite_self, ite_true]

/-! ## What a sample wrote -/

/-- What a sample wrote of a Front-die side, and the holds of R149. -/
def Front.sample (f : Front) : Int × Nat × Int × Int × Nat × Nat := (f.code, f.snsRun, f.vs, f.va, f.noUpTill, f.noDnTill)
/-- The power sequencer, and of one rail what the last sample wrote. -/
structure Sampled (r : Fin 8) (b s : State) : Prop where
  pow : s.pow = b.pow
  sample : (s.fr r).sample = (b.fr r).sample

theorem Sampled.refl (r : Fin 8) (s : State) : Sampled r s s := ⟨rfl, rfl⟩
theorem Sampled.trans {a : State} (h : Sampled r a b) (g : Sampled r b s) : Sampled r a s := ⟨g.pow.trans h.pow, g.sample.trans h.sample⟩
theorem Driven.sampled (h : Driven b s) (r : Fin 8) : Sampled r b s :=
  ⟨h.pow, by have := congrArg Front.sample (h.fr r); exact this⟩
theorem Sampled.set (h : Sampled r b s) {f : Fld} {i v : Nat} : Sampled r b (s.set f i v) := ⟨h.pow, h.sample⟩
theorem Sampled.modPh (h : Sampled r b s) {n : Fin 32} {f : Phase → Phase} : Sampled r b (s.modPh n f) := ⟨h.pow, h.sample⟩
theorem Sampled.modFr (h : Sampled r b s) {f : Front → Front} (hf : ∀ x, (f x).sample = x.sample) : Sampled r b (s.modFr r f) :=
  ⟨h.pow, by rw [← h.sample, ← hf (s.fr r)]; simp only [State.fr, State.modFr, State.rail_modRail_self]⟩
theorem Sampled.logF (h : Sampled r b s) {code unit : Nat} {items : List (Nat × Int)} {react : React} :
    Sampled r b (s.logF code unit items react) :=
  ⟨(State.raise_pow ..).trans h.pow, by rw [← h.sample]; simp [State.logF, State.fr, State.rail]⟩
theorem Sampled.endLs (h : Sampled r b s) : Sampled r b (s.endLs r) := by
  unfold State.endLs
  extract_lets f told ended undriven
  have htold : Sampled r b told := by
    unfold told State.when
    split
    · exact h.logF
    · exact h
  have hended : Sampled r b ended := htold.modFr fun x => rfl
  have hundriven : Sampled r b undriven := List.foldlRecOn _ _ hended fun x hx n _ => hx.modPh
  exact hundriven.set.set.set.set
theorem Sampled.lsEnd (h : Sampled r b s) : Sampled r b (s.lsEnd r) :=
  (h.trans ((Driven.refl s).lookRail.sampled r)).endLs.trans ((s.lsEnd_driven r).sampled r)
theorem Sampled.lsTrip (h : Sampled r b s) {under : Bool} : Sampled r b (s.lsTrip r under) := by
  have hlook : Sampled r b (s.lookRail r) := h.trans ((Driven.refl s).lookRail.sampled r)
  have htripped : Sampled r b (s.tripped r under) := by
    unfold State.tripped
    extract_lets acting
    have hacting : Sampled r b acting := hlook.modFr fun x => rfl
    exact hacting.set.set
  exact htripped.trans ((s.lsTrip_driven r under).sampled r)
/-- The large-signal comparison leaves the sample. -/
theorem Sampled.lsSample (h : Sampled r b s) : Sampled r b (s.lsSample r) := by
  unfold State.lsSample
  extract_lets d up dn aux u o counted
  have hcounted : Sampled r b counted := h.modFr fun x => rfl
  have hredriven : Sampled r b (s.redriveRail r) := h.trans ((Driven.refl s).redriveRail.sampled r)
  split
  case h_1 => exact h
  case h_2 => split; exacts [h.lsEnd, hredriven]
  case h_3 => split; exacts [h.lsEnd, h]
  case h_4 =>
    split
    · exact hcounted.lsTrip
    · split; exacts [hcounted.lsTrip, hcounted]

/-! ## One sample -/

/-- A sample's two readings noted. -/
def State.noted (s : State) (r : Fin 8) (vs va : Int) : State := (s.noteDac r).modFr r (fun f => { f with vs := vs, va := va })
/-- And its code, where its rail drives on the main sense; `out` where the two disagree (R119, R307). -/
def State.coded (s : State) (r : Fin 8) (vs va c : Int) (out : Bool) : State :=
  (s.noted r vs va).modFr r (fun f => { f with code := c, snsRun := if out then f.snsRun + 1 else 0, clipRun := 0 })
/-- And with the window readings of the sample (R297 to R300, R309). -/
def State.read (s : State) (r : Fin 8) (vs va : Int) : State :=
  let s := (s.windows r vs va).crowbarLow r vs va
  let s := if s.ovOut r || s.flag F.RP_STATUS_UV_RD r
    then (s.clear F.RP_STATUS_PGOOD_ST r).modFr r (fun f => { f with pgAt := s.now }) else s
  s.frozenSample r
theorem State.read_driven (s : State) (r : Fin 8) (vs va : Int) : Driven s (s.read r vs va) := by
  unfold State.read
  extract_lets low judged
  have hlow : Driven s low := (Driven.refl s).windows.crowbarLow
  have hclear : Driven s (low.clear F.RP_STATUS_PGOOD_ST r) := hlow.set _ (driven (by decide) r.isLt)
  have hjudged : Driven s judged := .ite (hclear.modFr fun x => rfl) hlow
  exact hjudged.frozenSample

/-- What makes a sample count: a Front die that runs, a rail that is present and drives, on its main sense. -/
structure State.Samples (s : State) (r : Fin 8) : Prop where
  awake : s.mode ≠ .dormant ∧ s.mode ≠ .wake
  present : (s.cfg r).present = true
  drives : s.drives r = true
  main : s.flag F.RP_STATUS_SNS_AUX r = false

/-- The two readings of a sample disagree. -/
def State.senseOut (s : State) (r : Fin 8) (vs va : Int) : Bool := decide ((s.get F.RP_SENSE_SNS_WIN r * 5000 : Int) < |vs - va|)
/-- The state that the large-signal comparison of a sample sees. -/
def State.compared (s : State) (r : Fin 8) (vs va : Int) : State :=
  (s.coded r vs va (if s.senseOut r vs va then (s.fr r).code else s.codeOf r vs) (s.senseOut r vs va)).read r vs va

theorem State.Samples.errorSample (h : s.Samples r) (vs va : Int) : s.errorSample r vs va = (s.compared r vs va).lsSample r := by
  obtain ⟨⟨hdormant, hwake⟩, hpresent, hdrives, hmain⟩ := h
  have hd : Driven s (s.noteDac r) := (Driven.refl s).noteDac
  unfold State.errorSample
  rw [if_neg (by simp [hdormant, hwake, hpresent])]
  extract_lets noted aux sw out c coded low judged
  have haux : aux = false := (hd.railFlag F.RP_STATUS_SNS_AUX r (by decide)).trans hmain
  have hst : noted.drives r = (s.noteDac r).drives r := by simp [noted, State.drives, State.st]
  have hsw : sw = true := hst.trans ((hd.drives r).trans hdrives)
  have hwin : noted.get F.RP_SENSE_SNS_WIN r = s.get F.RP_SENSE_SNS_WIN r := hd.railGet _ r (by decide)
  have hcode : (noted.fr r).code = (s.fr r).code := (by simp [noted, State.fr] : _ = ((s.noteDac r).fr r).code).trans (hd.code r)
  have hof : noted.codeOf r vs = s.codeOf r vs :=
    (by simp [noted, State.codeOf, State.dacCode, State.fr, State.eng] : _ = (s.noteDac r).codeOf r vs).trans (hd.codeOf r vs)
  have hout : out = s.senseOut r vs va := by simp [out, hsw, haux, hwin, State.senseOut]
  have hcoded : coded = s.coded r vs va (if s.senseOut r vs va then (s.fr r).code else s.codeOf r vs) (s.senseOut r vs va) := by
    simp only [coded, c, hout, hsw, haux, hcode, hof, Bool.and_false, Bool.false_and, if_false, Bool.false_eq_true]
    rfl
  unfold State.compared
  rw [if_pos hsw, ← hcoded]
  rfl

theorem Front.sample_driven (f : Front) : f.driven.sample = f.sample := rfl

/-! ## The sample after the command (R119, R307) -/

section
variable (s r) (vs va : Int)

/-- A sample notes its readings on the Front-die side of its rail alone. -/
theorem State.compared_eq : ∃ y f g, Driven s y ∧ Driven ((y.modFr r f).modFr r g) (s.compared r vs va) :=
  ⟨_, _, _, (Driven.refl s).noteDac, State.read_driven _ r vs va⟩
theorem State.compared_pow : (s.compared r vs va).pow = s.pow := by
  obtain ⟨y, f, g, hy, hc⟩ := s.compared_eq r vs va
  exact hc.pow.trans hy.pow
theorem State.compared_now : (s.compared r vs va).now = s.now := by
  obtain ⟨y, f, g, hy, hc⟩ := s.compared_eq r vs va
  exact hc.now.trans hy.now
theorem State.compared_get (f : Fld) (i : Nat) (hk : drivenKey (f.key i) = false) : (s.compared r vs va).get f i = s.get f i := by
  obtain ⟨y, _, _, hy, hc⟩ := s.compared_eq r vs va
  exact (hc.get f i hk).trans (hy.get f i hk)
theorem State.compared_st : (s.compared r vs va).st r = s.st r := by
  obtain ⟨y, f, g, hy, hc⟩ := s.compared_eq r vs va
  exact (hc.st r).trans ((by simp [State.st] : _ = y.st r).trans (hy.st r))
theorem State.compared_fLlt : (s.compared r vs va).fLlt r = s.fLlt r := by
  obtain ⟨y, f, g, hy, hc⟩ := s.compared_eq r vs va
  exact (hc.fLlt r).trans ((by simp [State.fLlt, State.copy, State.imgGet, State.eng] : _ = y.fLlt r).trans (hy.fLlt r))
/-- The Front-die side of the rail, window readings apart. -/
theorem State.compared_fr : ((s.compared r vs va).fr r).driven = { (s.fr r).driven with
    vs := vs, va := va, code := if s.senseOut r vs va then (s.fr r).code else s.codeOf r vs
    snsRun := if s.senseOut r vs va then (s.fr r).snsRun + 1 else 0, clipRun := 0 } := by
  have hdac := (Driven.refl s).noteDac (r := r) |>.fr r
  have hrun := (Driven.refl s).noteDac (r := r) |>.snsRun r
  refine ((State.read_driven ..).fr r).trans ?_
  rw [← hdac, ← hrun]
  simp only [State.coded, State.noted, State.fr, State.modFr, State.rail_modRail_self, Front.driven]
theorem State.compared_sample : ((s.compared r vs va).fr r).sample =
    (if s.senseOut r vs va then (s.fr r).code else s.codeOf r vs, if s.senseOut r vs va then (s.fr r).snsRun + 1 else 0, vs, va,
      (s.fr r).noUpTill, (s.fr r).noDnTill) := by
  rw [← Front.sample_driven, s.compared_fr]
  rfl

end

theorem Framed.sample (h : Framed b s) (r : Fin 8) : (s.fr r).sample = (b.fr r).sample := by
  have := congrArg Front.sample (h.fr r)
  exact this

theorem State.Samples.at (h : s.Samples r) (t : Nat) : (s.at t).Samples r := ⟨h.awake, h.present, h.drives, h.main⟩

/-- What ERROR_SAMPLE notes of a rail that drives on its main sense. -/
theorem errorSample_gives {t : Nat} (hc : s.Calm) (h : s.Samples r) (vs va : Int) :
    Gives (.errorSample t r vs va) s (fun u =>
      (u.fr r).code = (if s.senseOut r vs va then (s.fr r).code else s.codeOf r vs) ∧
      (u.fr r).snsRun = (if s.senseOut r vs va then (s.fr r).snsRun + 1 else 0) ∧ (u.fr r).vs = vs ∧ (u.fr r).va = va) := by
  have hcmp : Sampled r ((s.at t).compared r vs va) (((s.at t).compared r vs va).lsSample r) := (Sampled.refl r _).lsSample
  refine run_gives (f := (·.errorSample r vs va)) rfl ((h.at t).errorSample vs va) ?_ fun u hu hf => ?_
  · exact (congrArg Power.wantSafestopClr (hcmp.pow.trans (State.compared_pow ..))).trans hc
  have hsample := (hf.sample r).trans (hcmp.sample.trans (State.compared_sample ..))
  simp only [Front.sample, Prod.mk.injEq] at hsample
  obtain ⟨hcode, hrun, hvs, hva, -, -⟩ := hsample
  exact ⟨hcode, hrun, hvs, hva⟩

/-! ## Trips -/

/-- A large-signal trip: the action, its instant, its status and sticky flag. -/
structure Trips (r : Fin 8) (under : Bool) (b s : State) : Prop where
  pow : s.pow = b.pow
  st : s.st r = b.st r
  link : s.get F.CJ_CFG_CJ_EN = b.get F.CJ_CFG_CJ_EN
  ls : (s.fr r).ls = if under then .under else .over
  lsAt : (s.fr r).lsAt = b.now
  act : s.get (if under then F.ENG_STATUS_LSU_ACT else F.ENG_STATUS_LSD_ACT) r = 1
  sticky : s.get (if under then F.ENG_STICKY_LSU_S else F.ENG_STICKY_LSD_S) r = 1

/-- The status of an action is kept apart from its sticky flag, and both from the use of the Conjunction Link. -/
theorem trip_keys (under : Bool) (q : Fin 8) :
    F.CJ_CFG_CJ_EN.key 0 ≠ (if under then F.ENG_STATUS_LSU_ACT else F.ENG_STATUS_LSD_ACT).key q ∧
    F.CJ_CFG_CJ_EN.key 0 ≠ (if under then F.ENG_STICKY_LSU_S else F.ENG_STICKY_LSD_S).key q ∧
    (if under then F.ENG_STATUS_LSU_ACT else F.ENG_STATUS_LSD_ACT).key q ≠
      (if under then F.ENG_STICKY_LSU_S else F.ENG_STICKY_LSD_S).key q := by
  revert under q
  decide
theorem State.tripped_trips (s : State) (r : Fin 8) (under : Bool) : Trips r under s (s.tripped r under) := by
  have hlook : Driven s (s.lookRail r) := (Driven.refl s).lookRail
  obtain ⟨hlinkAct, hlinkSticky, hactSticky⟩ := trip_keys under r
  unfold State.tripped
  extract_lets acting
  have hst : acting.st r = (s.lookRail r).st r := by simp [acting, State.st]
  have hls : (acting.fr r).ls = (if under then .under else .over) ∧ (acting.fr r).lsAt = s.now := by simp [acting, State.fr]
  have hpow : acting.pow = (s.lookRail r).pow := rfl
  have hlink : acting.get F.CJ_CFG_CJ_EN = (s.lookRail r).get F.CJ_CFG_CJ_EN := rfl
  clear_value acting
  refine ⟨hpow.trans hlook.pow, hst.trans (hlook.st r), ?_, hls.1, hls.2, ?_, ?_⟩
  · rw [State.mark_eq, State.mark_eq, State.get_set_of_ne _ _ _ _ _ _ hlinkSticky, State.get_set_of_ne _ _ _ _ _ _ hlinkAct, hlink]
    exact hlook.get _ _ (by decide)
  · rw [State.mark_eq, State.mark_eq, State.get_set_of_ne _ _ _ _ _ _ hactSticky, State.get_set_self]
    cases under <;> rfl
  · rw [State.mark_eq, State.get_set_self]
    cases under <;> rfl
theorem Trips.driven {under : Bool} {x : State} (h : Trips r under b s) (g : Driven s x) : Trips r under b x := by
  refine ⟨g.pow.trans h.pow, (g.st r).trans h.st, (g.get _ _ (by decide)).trans h.link, (g.ls r).trans h.ls, (g.lsAt r).trans h.lsAt, ?_, ?_⟩
  · refine (g.railGet _ r ?_).trans h.act
    cases under <;> decide
  · refine (g.railGet _ r ?_).trans h.sticky
    cases under <;> decide
theorem State.lsTrip_trips (s : State) (r : Fin 8) (under : Bool) : Trips r under s (s.lsTrip r under) :=
  (s.tripped_trips r under).driven (s.lsTrip_driven r under)

/-- The samples in a row beyond LS_UP_TH, this one with them. -/
def State.upCount (s : State) (r : Fin 8) : Nat :=
  if (s.get F.LS_CFG_LS_UP_TH r : Int) != 0 && !s.flag F.RP_STATUS_SNS_AUX r && decide ((s.get F.LS_CFG_LS_UP_TH r : Int) * 256 < s.lsErr r)
  then min 2 ((s.fr r).upRun + 1) else 0
/-- The samples in a row beyond LS_DN_TH, this one with them. -/
def State.dnCount (s : State) (r : Fin 8) : Nat :=
  if (s.get F.LS_CFG_LS_DN_TH r : Int) != 0 && decide (s.lsErr r < -((s.get F.LS_CFG_LS_DN_TH r : Int) * 256))
  then min 2 ((s.fr r).dnRun + 1) else 0
/-- The state with both counts noted. -/
def State.withRuns (s : State) (r : Fin 8) : State := s.modFr r (fun f => { f with upRun := s.upCount r, dnRun := s.dnCount r })
theorem State.withRuns_noUpTill (s : State) (r : Fin 8) : ((s.withRuns r).fr r).noUpTill = (s.fr r).noUpTill := by
  simp [State.withRuns, State.fr]
theorem State.withRuns_noDnTill (s : State) (r : Fin 8) : ((s.withRuns r).fr r).noDnTill = (s.fr r).noDnTill := by
  simp [State.withRuns, State.fr]
theorem State.withRuns_pow (s : State) (r : Fin 8) : (s.withRuns r).pow = s.pow := rfl
theorem State.withRuns_now (s : State) (r : Fin 8) : (s.withRuns r).now = s.now := rfl
theorem State.withRuns_get (s : State) (r : Fin 8) (f : Fld) (i : Nat) : (s.withRuns r).get f i = s.get f i := rfl
theorem State.withRuns_st (s : State) (r : Fin 8) : (s.withRuns r).st r = s.st r := by simp [State.withRuns, State.st]

/-- The comparison while no action goes on. -/
theorem State.lsSample_none (hls : (s.fr r).ls = .none) : s.lsSample r =
    if 2 ≤ s.upCount r && (s.fr r).noUpTill ≤ s.now then (s.withRuns r).lsTrip r true
    else if 2 ≤ s.dnCount r && (s.fr r).noDnTill ≤ s.now then (s.withRuns r).lsTrip r false else s.withRuns r := by
  rw [← s.withRuns_noUpTill, ← s.withRuns_noDnTill]
  unfold State.lsSample
  rw [hls]
  rfl

/-- What lets the comparison of a sample trip: no action, a threshold, the error beyond it for the second time in a row, and no hold
(R146, R149). -/
structure State.Beyond (s : State) (r : Fin 8) (under : Bool) : Prop where
  ls : (s.fr r).ls = .none
  th : s.get (if under then F.LS_CFG_LS_UP_TH else F.LS_CFG_LS_DN_TH) r ≠ 0
  run : (if under then (s.fr r).upRun else (s.fr r).dnRun) = 1
  hold : (if under then (s.fr r).noUpTill else (s.fr r).noDnTill) ≤ s.now
  err : if under then (s.get F.LS_CFG_LS_UP_TH r * 256 : Int) < s.lsErr r else s.lsErr r < -(s.get F.LS_CFG_LS_DN_TH r * 256 : Int)

/-- The second sample in a row beyond a threshold trips (R146). -/
theorem State.Beyond.lsSample {under : Bool} (h : s.Beyond r under) (haux : s.flag F.RP_STATUS_SNS_AUX r = false) :
    s.lsSample r = (s.withRuns r).lsTrip r under := by
  obtain ⟨hls, hth, hrun, hhold, herr⟩ := h
  rw [State.lsSample_none hls]
  cases under with
  | true =>
    simp only [if_true] at hth hrun hhold herr
    have hup : s.upCount r = 2 := by simp [State.upCount, haux, hth, hrun, herr]
    rw [if_pos (by simp [hup, hhold])]
  | false =>
    simp only [Bool.false_eq_true, if_false] at hth hrun hhold herr
    have hwithin : ¬ (s.get F.LS_CFG_LS_UP_TH r : Int) * 256 < s.lsErr r := by omega
    have hup : s.upCount r = 0 := by simp [State.upCount, hwithin]
    have hdn : s.dnCount r = 2 := by simp [State.dnCount, hth, hrun, herr]
    rw [if_neg (by simp [hup]), if_pos (by simp [hdn, hhold])]

/-- Before the sample, with its code, a state as `State.Beyond` asks. -/
structure State.Tripping (s : State) (r : Fin 8) (under : Bool) (vs va : Int) : Prop where
  within : |vs - va| ≤ s.get F.RP_SENSE_SNS_WIN r * 5000
  ls : (s.fr r).ls = .none
  th : s.get (if under then F.LS_CFG_LS_UP_TH else F.LS_CFG_LS_DN_TH) r ≠ 0
  run : (if under then (s.fr r).upRun else (s.fr r).dnRun) = 1
  hold : (if under then (s.fr r).noUpTill else (s.fr r).noDnTill) ≤ s.now
  err : if under then (s.get F.LS_CFG_LS_UP_TH r * 256 : Int) < s.codeOf r vs * 64 - s.fLlt r
    else s.codeOf r vs * 64 - s.fLlt r < -(s.get F.LS_CFG_LS_DN_TH r * 256 : Int)
theorem State.senseOut_false {vs va : Int} (h : |vs - va| ≤ s.get F.RP_SENSE_SNS_WIN r * 5000) : s.senseOut r vs va = false :=
  decide_eq_false (Int.not_lt.mpr h)

theorem State.Tripping.beyond {under : Bool} {vs va : Int} (h : s.Tripping r under vs va) : (s.compared r vs va).Beyond r under := by
  have hfr := s.compared_fr r vs va
  simp only [State.senseOut_false h.within, Bool.false_eq_true, if_false] at hfr
  have hls := congrArg Front.ls hfr
  have hup := congrArg Front.upRun hfr
  have hdn := congrArg Front.dnRun hfr
  have hnoUp := congrArg Front.noUpTill hfr
  have hnoDn := congrArg Front.noDnTill hfr
  have hcode := congrArg Front.code hfr
  simp only [Front.driven] at hls hup hdn hnoUp hnoDn hcode
  have herr : (s.compared r vs va).lsErr r = s.codeOf r vs * 64 - s.fLlt r := by
    unfold State.lsErr
    rw [hcode, State.compared_fLlt]
  have hthUp : (s.compared r vs va).get F.LS_CFG_LS_UP_TH r = s.get F.LS_CFG_LS_UP_TH r :=
    s.compared_get r vs va _ r ((by decide : ∀ q : Fin 8, drivenKey (F.LS_CFG_LS_UP_TH.key q) = false) r)
  have hthDn : (s.compared r vs va).get F.LS_CFG_LS_DN_TH r = s.get F.LS_CFG_LS_DN_TH r :=
    s.compared_get r vs va _ r ((by decide : ∀ q : Fin 8, drivenKey (F.LS_CFG_LS_DN_TH.key q) = false) r)
  obtain ⟨-, hls', hth, hrun, hhold, herr'⟩ := h
  refine ⟨hls.trans hls', ?_, ?_, ?_, ?_⟩
  · cases under with
    | true => exact fun e => hth (hthUp.symm.trans e)
    | false => exact fun e => hth (hthDn.symm.trans e)
  · rw [hup, hdn]; exact hrun
  · rw [hnoUp, hnoDn, State.compared_now]; exact hhold
  · rw [herr, hthUp, hthDn]; exact herr'

theorem EndKept.ls (h : EndKept b s) (hr : b.mayArm r = false) : (s.fr r).ls = (b.fr r).ls := by
  have := congrArg Front.ls (h.fr r hr)
  exact this
theorem EndKept.lsAt (h : EndKept b s) (hr : b.mayArm r = false) : (s.fr r).lsAt = (b.fr r).lsAt := by
  have := congrArg Front.lsAt (h.fr r hr)
  exact this
/-- A rail that drives does not arm. -/
theorem State.mayArm_of_drives (h : s.drives r = true) : s.mayArm r = false := by
  have hoff : s.st r ≠ .off := by
    intro hst
    rw [State.drives, hst] at h
    exact absurd h (by decide)
  simp [State.mayArm, hoff]

theorem State.Tripping.at {under : Bool} {vs va : Int} (h : s.Tripping r under vs va) (t : Nat) : (s.at t).Tripping r under vs va :=
  ⟨h.within, h.ls, h.th, h.run, h.hold.trans (Nat.le_max_left ..), h.err⟩
/-- What the end of an update leaves of a trip on a rail that drives. -/
theorem Trips.kept {under : Bool} (h : Trips r under b s) (hs : b.Still) (hr : b.drives r = true) {t : Nat} {f : State → State} {u x : State}
    (hx : f (x.at t) = s) (hu : run t f x = .next u) :
    (u.fr r).ls = (if under then .under else .over) ∧ (u.fr r).lsAt = b.now ∧
      u.get (if under then F.ENG_STATUS_LSU_ACT else F.ENG_STATUS_LSD_ACT) r = 1 ∧
      u.get (if under then F.ENG_STICKY_LSU_S else F.ENG_STICKY_LSD_S) r = 1 := by
  obtain ⟨hcalm, hlink, hstop⟩ := hs
  have harm : s.mayArm r = false := State.mayArm_of_drives (by unfold State.drives; rw [h.st]; exact hr)
  have hend : EndKept s u := by
    subst hx
    refine run_plain t f u hu ((congrArg Power.wantSafestopClr h.pow).trans hcalm) ?_ ((congrArg Power.stopSet h.pow).trans hstop)
    unfold State.flag
    rw [h.link]
    exact hlink
  have hkeys : plainKey ((if under then F.ENG_STATUS_LSU_ACT else F.ENG_STATUS_LSD_ACT).key r) = false ∧
      plainKey ((if under then F.ENG_STICKY_LSU_S else F.ENG_STICKY_LSD_S).key r) = false := by
    clear * -
    revert under r
    decide
  exact ⟨(hend.ls harm).trans h.ls, (hend.lsAt harm).trans h.lsAt, (hend.regs _ hkeys.1).trans h.act, (hend.regs _ hkeys.2).trans h.sticky⟩

/-- A sample that trips. -/
theorem trip_gives {t : Nat} {under : Bool} {vs va : Int} (hs : s.Still) (hm : s.Samples r) (h : s.Tripping r under vs va) :
    Gives (.errorSample t r vs va) s (fun u => (u.fr r).ls = (if under then .under else .over) ∧ (u.fr r).lsAt = max s.now t ∧
      u.get (if under then F.ENG_STATUS_LSU_ACT else F.ENG_STATUS_LSD_ACT) r = 1 ∧
      u.get (if under then F.ENG_STICKY_LSU_S else F.ENG_STICKY_LSD_S) r = 1) := by
  have haux : ((s.at t).compared r vs va).flag F.RP_STATUS_SNS_AUX r = false :=
    (congrArg (· != 0) (State.compared_get (s.at t) r vs va _ r
      ((by decide : ∀ q : Fin 8, drivenKey (F.RP_STATUS_SNS_AUX.key q) = false) r))).trans hm.main
  have htrips := (((s.at t).compared r vs va).withRuns r).lsTrip_trips r under
  have hpow : (((s.at t).compared r vs va).withRuns r).pow = s.pow := (State.withRuns_pow ..).trans (State.compared_pow ..)
  have hnow : (((s.at t).compared r vs va).withRuns r).now = max s.now t := (State.withRuns_now ..).trans (State.compared_now ..)
  have hlink : (((s.at t).compared r vs va).withRuns r).get F.CJ_CFG_CJ_EN = s.get F.CJ_CFG_CJ_EN :=
    (State.withRuns_get ..).trans (State.compared_get (s.at t) r vs va _ _ (by decide))
  have hst : (((s.at t).compared r vs va).withRuns r).st r = s.st r := (State.withRuns_st ..).trans (State.compared_st ..)
  have hx : (s.at t).errorSample r vs va = (((s.at t).compared r vs va).withRuns r).lsTrip r under :=
    ((hm.at t).errorSample vs va).trans ((h.at t).beyond.lsSample haux)
  generalize ((s.at t).compared r vs va).withRuns r = z at htrips hpow hnow hlink hst hx
  have hz : z.Still := by
    unfold State.Still State.flag
    rw [hpow, hlink]
    exact hs
  have hdrives : z.drives r = true := by unfold State.drives; rw [hst]; exact hm.drives
  refine run_gives (f := (·.errorSample r vs va)) rfl hx ((congrArg Power.wantSafestopClr htrips.pow).trans hz.1) fun u hu _ => ?_
  rw [← hnow]
  exact htrips.kept hz hdrives hx hu

end Sys2Proof.Machine
end


section
/-!
A property of the state through the end of an update: `settle_ind` for one that the plain rounds and arming keep, and `ActionOver`, that no
undershoot action stands on a rail, through every stop that the end of an update may order.
-/
namespace Sys2Proof.Machine

variable {s : State} {r : Fin 8}

/-- Induction over the rounds of the end of an update, from the state after the ordered stop and the Conjunction Link. -/
theorem settle_ind {P : State → Prop} (hplain : ∀ x y, Plain x y → P x → P y) (harm : ∀ x q, P x → P (x.arm q)) {s0 : State} (hc : s.Calm)
    (h : P (State.cjRound s0 s.stopRound)) : P (settle s0 s) := by
  unfold settle
  have hframed : Framed s (State.cjRound s0 s.stopRound) := State.cjRound_framed _ (State.stopRound_framed (Framed.refl s))
  generalize State.cjRound s0 s.stopRound = x at h hframed
  have hpack := hplain _ _ (State.packRound_plain (Plain.refl x)) h
  have hcalm : x.packRound.Calm := (Framed.calm (State.packRound_framed hframed)).trans hc
  generalize x.packRound = y at hpack hcalm
  have hclr : y.clrRound = y := by unfold State.clrRound; rw [hcalm]; rfl
  rw [hclr]
  have harmed : P y.armRound := List.foldlRecOn _ _ hpack fun z hz q _ => by split; exacts [harm z q hz, hz]
  generalize y.armRound = z at harmed
  exact hplain _ _ (State.creditRound_plain (State.noteRound_plain s0 (State.mirrorRound_plain s0 (State.pmbRound_plain s0
    (State.wasRound_plain s0 (State.clampRound_plain (State.hintRound_plain (State.modeRound_plain (State.shedRound_plain
      (State.precheckRound_plain (Plain.refl z))))))))))) harmed

/-- The same for a command's next state. -/
theorem run_ind {P : State → Prop} (hplain : ∀ x y, Plain x y → P x → P y) (harm : ∀ x q, P x → P (x.arm q)) {t : Nat} {f : State → State}
    {x u : State} (hx : f (s.at t) = x) (hu : run t f s = .next u) (hc : x.Calm) (h : P (State.cjRound (s.at t) x.stopRound)) : P u := by
  subst hx
  have hp := settle_ind hplain harm hc h
  obtain rfl := Host.Outcome.next.inj hu
  generalize settle (s.at t) (f (s.at t)) = y at hp
  exact hplain y _ ⟨rfl, fun _ => rfl, rfl, fun _ _ => rfl⟩ hp

/-! ## No undershoot action -/

/-- No large-signal action goes on, and LSU_ACT tells none. -/
structure ActionOver (r : Fin 8) (s : State) : Prop where
  ls : (s.fr r).ls = .none
  act : s.get F.ENG_STATUS_LSU_ACT r = 0

theorem ActionOver.plain {b : State} (h : ActionOver r b) (hp : Plain b s) : ActionOver r s := by
  refine ⟨?_, (hp.regs _ ((by decide : ∀ q : Fin 8, plainKey (F.ENG_STATUS_LSU_ACT.key q) = false) r)).trans h.act⟩
  have := congrArg Front.ls (hp.fr r)
  exact this.trans h.ls
/-- The parts apart from the rails and the registers. -/
theorem ActionOver.of_parts {b : State} (h : ActionOver r b) (hrails : s.rails = b.rails) (hregs : s.regs = b.regs) : ActionOver r s :=
  ⟨by unfold State.fr State.rail; rw [hrails]; exact h.ls, by unfold State.get; rw [hregs]; exact h.act⟩
theorem ActionOver.set (h : ActionOver r s) {f : Fld} {i v : Nat} (hf : ∀ q : Fin 8, f.off (F.ENG_STATUS_LSU_ACT.key q) = true)
    (hi : i < f.count) : ActionOver r (s.set f i v) :=
  ⟨h.ls, (State.get_set_of_ne _ _ _ _ _ _ (Fld.key_ne (hf r) hi)).trans h.act⟩
/-- A field cleared, this one or another. -/
theorem ActionOver.clear (h : ActionOver r s) {f : Fld} {i : Nat} : ActionOver r (s.clear f i) := by
  refine ⟨h.ls, ?_⟩
  rw [State.clear_eq, State.get_set]
  split
  · exact Nat.zero_mod _
  · exact h.act
theorem ActionOver.modPh (h : ActionOver r s) {n : Fin 32} {f : Phase → Phase} : ActionOver r (s.modPh n f) := ⟨h.ls, h.act⟩
theorem ActionOver.modRail (h : ActionOver r s) {q : Fin 8} {f : Rail → Rail} (hf : ∀ x, x.fr.ls = .none → (f x).fr.ls = .none) :
    ActionOver r (s.modRail q f) := by
  refine ⟨?_, h.act⟩
  by_cases hq : r = q
  · subst hq
    rw [State.fr, State.rail_modRail_self]
    exact hf _ h.ls
  · rw [State.fr, State.rail_modRail_of_ne _ _ _ _ hq]
    exact h.ls
theorem ActionOver.modFr (h : ActionOver r s) {q : Fin 8} {f : Front → Front} (hf : ∀ x, x.ls = .none → (f x).ls = .none) :
    ActionOver r (s.modFr q f) := h.modRail fun x hx => hf x.fr hx
theorem ActionOver.modEng (h : ActionOver r s) {q : Fin 8} {f : Engine → Engine} : ActionOver r (s.modEng q f) := h.modRail fun _ hx => hx
theorem ActionOver.ite {c : Prop} {d : Decidable c} {x y : State} (hx : ActionOver r x) (hy : ActionOver r y) :
    ActionOver r (@ite _ c d x y) := by
  split <;> assumption
theorem ActionOver.foldl {α : Type} {f : State → α → State} {l : List α} (h : ActionOver r s)
    (hf : ∀ x a, ActionOver r x → ActionOver r (f x a)) : ActionOver r (l.foldl f s) := List.foldlRecOn l f h fun x hx a _ => hf x a hx

theorem ActionOver.onRails (h : ActionOver r s) {f : State → Fin 8 → State} (hf : ∀ x q, ActionOver r x → ActionOver r (f x q)) :
    ActionOver r (s.onRails f) := h.foldl hf

theorem ActionOver.toLevel (h : ActionOver r s) {n : Fin 32} {l : Level} : ActionOver r (s.toLevel n l) := by
  unfold State.toLevel State.toLevelAt State.setLevel
  exact .ite h (.set (f := F.PWM_STATUS_LEVEL) h.modPh (by decide) n.isLt)
theorem ActionOver.leftStart (h : ActionOver r s) {q : Fin 8} : ActionOver r (s.leftStart q) := h.modFr fun _ hx => hx
theorem ActionOver.setRail (h : ActionOver r s) {q : Fin 8} {st : RailState} : ActionOver r (s.setRail q st) := by
  unfold State.setRail
  extract_lets taken started rested quiet
  have htaken : ActionOver r taken := h.modRail fun x hx => hx
  have hstarted : ActionOver r started := .ite htaken.leftStart htaken
  have hrested : ActionOver r rested :=
    .ite (hstarted.foldl fun x n hx => .ite hx hx.modPh) (.ite (hstarted.foldl fun x n hx => .ite hx hx.modPh) hstarted)
  have hquiet : ActionOver r quiet := .ite hrested (hrested.clear.clear.modFr fun x hx => hx)
  exact .ite hquiet (hquiet.modFr fun _ _ => rfl)
theorem ActionOver.setSen (h : ActionOver r s) {q : Fin 8} {b : Bool} : ActionOver r (s.setSen q b) :=
  h.set (f := F.SEN_CFG_SEN_STATE) (by decide) q.isLt
theorem ActionOver.railRest (h : ActionOver r s) {q : Fin 8} {st : RailState} : ActionOver r (s.railRest q st) := by
  unfold State.railRest
  exact h.setRail.setSen.modEng.modFr fun x hx => hx
theorem ActionOver.railOff (h : ActionOver r s) {q : Fin 8} : ActionOver r (s.railOff q) := h.railRest.clear.clear.modEng
theorem ActionOver.raise (h : ActionOver r s) {front : Bool} {code unit : Nat} {items : List (Nat × Int)} {react : React}
    (hc : pageOk code unit = true) : ActionOver r (s.raise front code unit items react) :=
  h.plain (State.raise_plain front items react hc (Plain.refl s))
theorem ActionOver.logF (h : ActionOver r s) {code unit : Nat} {items : List (Nat × Int)} {react : React}
    (hc : pageOk code unit = true) : ActionOver r (s.logF code unit items react) := h.raise hc
theorem ActionOver.enter (h : ActionOver r s) {n : Nat} {m : Mode} : ActionOver r (s.enter n m) :=
  h.plain (State.enter_plain n m (Plain.refl s))

theorem ActionOver.endLs (h : ActionOver r s) {q : Fin 8} : ActionOver r (s.endLs q) := by
  unfold State.endLs
  extract_lets f told ended undriven
  have htold : ActionOver r told := .ite (h.logF (by split <;> rfl)) h
  have hended : ActionOver r ended := htold.modFr fun _ _ => rfl
  have hundriven : ActionOver r undriven := hended.foldl fun x n hx => hx.modPh
  exact hundriven.clear.clear.clear.clear
theorem ActionOver.fastStop (h : ActionOver r s) {q : Fin 8} : ActionOver r (s.fastStop q) := by
  unfold State.fastStop State.triRail
  extract_lets low fallen
  have hlow : ActionOver r low := (h.endLs.foldl fun x n hx => hx.toLevel).setSen
  have hfallen : ActionOver r fallen := hlow.modFr fun x hx => hx
  exact hfallen.clear
theorem ActionOver.latchNow (h : ActionOver r s) {q : Fin 8} {cause : Nat} : ActionOver r (s.latchNow q cause) :=
  .logF (h.railRest.set (f := F.RP_STATUS_LATCH_CAUSE) (by decide) q.isLt) rfl
theorem ActionOver.softStop (h : ActionOver r s) {q : Fin 8} {k : StopKind} {cause : Nat} : ActionOver r (s.softStop q k cause) := by
  have hramp : ActionOver r ((s.setRail q .rampdown).clear F.PHC_STATUS_DE_ACT q) := h.setRail.clear
  unfold State.softStop
  split
  · exact hramp.modEng.modFr fun _ hx => hx
  · exact hramp.modEng.modFr fun _ hx => hx
  · exact hramp.modEng.modFr fun _ hx => hx
  · exact hramp.modEng.modFr fun _ hx => hx
  · exact h.modFr fun x hx => by split <;> exact hx
  · exact h
theorem ActionOver.disarm (h : ActionOver r s) {q : Fin 8} : ActionOver r (s.disarm q) := by
  unfold State.disarm
  split
  · exact h.railOff
  · exact h.railOff
  · exact h
theorem ActionOver.stopRound (h : ActionOver r s) : ActionOver r s.stopRound := by
  unfold State.stopRound
  extract_lets inSet mask pow masked last
  have hmasked : ActionOver r masked := h.of_parts rfl rfl
  clear_value masked last
  cases last with
  | some q => exact .ite hmasked hmasked.softStop
  | none => exact hmasked
theorem ActionOver.enterSafestop (h : ActionOver r s) {n : Nat} : ActionOver r (s.enterSafestop n) := by
  have hheld : ActionOver r (s.mark F.FAULT_HOLD_FAULT_HOLD) := h.set (f := F.FAULT_HOLD_FAULT_HOLD) (by decide) (by decide)
  have hrest : ActionOver r ((s.mark F.FAULT_HOLD_FAULT_HOLD).onRails State.disarm) := hheld.onRails fun x q hx => hx.disarm
  unfold State.enterSafestop
  exact hrest.enter
theorem ActionOver.dlStop (h : ActionOver r s) {cause : Nat} : ActionOver r (s.dlStop cause) := by
  unfold State.dlStop
  refine h.onRails fun x q hx => ?_
  refine .ite hx.softStop ?_
  have hoff : ActionOver r ((x.fastStop q).railOff q) := hx.fastStop.railOff
  cases x.st q with
  | off => exact hx
  | latched => exact hx
  | _ => exact hoff
theorem ActionOver.refuse (h : ActionOver r s) {res rail : Nat} : ActionOver r (s.refuse res rail) := by
  unfold State.refuse
  extract_lets counted pow refused told
  have hcounted : ActionOver r counted :=
    (h.set (f := F.CT_STATUS_ADOPT_RES) (by decide) (by decide)).set (f := F.CT_COUNT_ADOPT_REF) (by decide) (by decide)
  have hrefused : ActionOver r refused := hcounted.of_parts rfl rfl
  have htold : ActionOver r told := hrefused.logF rfl
  exact .ite h (htold.onRails fun x q hx => .ite (hx.softStop.modFr fun _ hy => hy) hx)
theorem ActionOver.deviceLatch (h : ActionOver r s) {cause : Nat} : ActionOver r (s.deviceLatch cause) := by
  unfold State.deviceLatch
  extract_lets held told
  have hheld : ActionOver r held :=
    (h.set (f := F.PROT_STATUS_DL_CAUSE) (by decide) (by decide)).set (f := F.FAULT_HOLD_FAULT_HOLD) (by decide) (by decide)
  have htold : ActionOver r told := hheld.raise rfl
  have hfault : ActionOver r { told.dlStop cause with pow.ctFault := true } := htold.dlStop.of_parts rfl rfl
  clear_value told
  refine .ite h ?_
  split
  · exact htold
  · exact htold
  · exact htold.enterSafestop
  · exact htold.dlStop
  · exact hfault.refuse
  · exact htold.dlStop.enterSafestop
theorem ActionOver.railLatch (h : ActionOver r s) {q : Fin 8} {cause : Nat} {fast : Bool} : ActionOver r (s.railLatch q cause fast) := by
  unfold State.railLatch State.when
  have hstopped : ActionOver r (if fast then (s.fastStop q).latchNow q cause else s.softStop q .toLatched cause) :=
    .ite h.fastStop.latchNow h.softStop
  exact .ite hstopped.deviceLatch hstopped
theorem ActionOver.cjRound (h : ActionOver r s) {s0 : State} : ActionOver r (State.cjRound s0 s) := by
  unfold State.cjRound
  split
  · exact h
  · extract_lets low stopped ev
    have hstopped : ActionOver r stopped := .ite h.railLatch h
    exact hstopped.of_parts rfl rfl
theorem ActionOver.arm (h : ActionOver r s) {q : Fin 8} : ActionOver r (s.arm q) := by
  unfold State.arm
  exact h.setRail.setSen.modFr fun x hx => hx

/-- A command whose effect leaves no undershoot action leaves none. -/
theorem ActionOver.run {t : Nat} {f : State → State} {x u : State} (h : ActionOver r x) (hc : x.Calm) (hx : f (s.at t) = x)
    (hu : run t f s = .next u) : ActionOver r u :=
  run_ind (fun _ _ hp hover => hover.plain hp) (fun _ _ hover => hover.arm) hx hu hc h.stopRound.cjRound

end Sys2Proof.Machine
end


section
/-!
The end of an action by LS_MAX (R149), and braking (R148, R315).
-/
namespace Sys2Proof.Machine

variable {b s : State} {r : Fin 8} {n : Fin 32} {t : Nat}

/-! ## LS_MAX (R149) -/

theorem State.lsEnd_over (s : State) (r : Fin 8) : ActionOver r (s.lsEnd r) := by
  have hd := s.lsEnd_driven r
  exact ⟨(hd.ls r).trans (State.endLs_ls ..), (hd.railGet _ r (by decide)).trans (State.endLs_get_lsu ..)⟩

/-- LS_MAX ends an undershoot action. -/
theorem State.lsMax_under (hls : (s.fr r).ls = .under) (hmax : (s.fr r).lsAt + s.get F.LS_CFG_LS_MAX r * 20 ≤ s.now) :
    s.lsMax r = (s.lsEnd r).modFr r (fun g => { g with noUpTill := s.now + 1000 }) := by
  unfold State.lsMax
  simp [hls, hmax]

theorem lsMax_gives (hc : s.Calm) (hls : (s.fr r).ls = .under) (hmax : (s.fr r).lsAt + s.get F.LS_CFG_LS_MAX r * 20 ≤ s.now) :
    Gives (.lsMaxExpiry t r) s (fun u => (u.fr r).ls = .none ∧ u.get F.ENG_STATUS_LSU_ACT r = 0 ∧ (u.fr r).noUpTill = max s.now t + 1000 ∧
      (u.fr r).noDnTill = (s.fr r).noDnTill) := by
  have hx := State.lsMax_under (s := s.at t) hls (hmax.trans (Nat.le_max_left ..))
  have hend : Sampled r (s.at t) ((s.at t).lsEnd r) := (Sampled.refl r _).lsEnd
  have hover : ActionOver r (((s.at t).lsEnd r).modFr r (fun g => { g with noUpTill := (s.at t).now + 1000 })) :=
    ((s.at t).lsEnd_over r).modFr fun _ h => h
  generalize (s.at t).lsEnd r = y at hx hend hover
  have hcalm : (y.modFr r (fun g => { g with noUpTill := (s.at t).now + 1000 })).Calm :=
    (congrArg Power.wantSafestopClr hend.pow).trans hc
  refine run_gives (f := (·.lsMax r)) rfl hx hcalm fun u hu hf => ?_
  have hdone := hover.run hcalm hx hu
  have hsample := hf.sample r
  have hkept := hend.sample
  simp only [Front.sample, State.fr, State.modFr, State.rail_modRail_self, Prod.mk.injEq] at hsample hkept
  obtain ⟨-, -, -, -, hup, hdn⟩ := hsample
  exact ⟨hdone.ls, hdone.act, hup, hdn.trans hkept.2.2.2.2.2⟩

/-! ## Braking (R148, R315) -/

/-- The overshoot holds BRAKE_DLY after its trip, and braking is free to start. -/
structure State.BrakeDue (s : State) (r : Fin 8) : Prop where
  ls : (s.fr r).ls = .over
  en : s.flag F.LS_CFG_BRAKE_EN r = true
  dly : (s.fr r).lsAt + s.get F.LS_CFG_BRAKE_DLY r * 20 ≤ s.now
  err : s.lsErr r < -(s.get F.LS_CFG_LS_DN_TH r * 256 : Int)
  main : s.flag F.RP_STATUS_SNS_AUX r = false
  idle : s.flag F.ENG_STATUS_BRAKE_ACT r = false
  free : s.flag F.RP_STATUS_BRK_INH r = false

theorem State.BrakeDue.at (h : s.BrakeDue r) (t : Nat) : (s.at t).BrakeDue r :=
  ⟨h.ls, h.en, h.dly.trans (Nat.le_max_left ..), h.err, h.main, h.idle, h.free⟩

/-- The millisecond window of the count of braking starts. -/
def State.brakeWin (s : State) : Nat := (s.now - s.pow.tnow0) / 1000000
/-- The state with the window of the count noted. -/
def State.brakeTimed (s : State) (r : Fin 8) : State :=
  s.modFr r (fun f => if f.brkWin == s.brakeWin then f else { f with brkWin := s.brakeWin, brkN := 0 })
/-- Every switching phase with positive observed current brakes. -/
def State.brakePhases (s : State) (r : Fin 8) : State :=
  (s.switchingOf r).foldl (fun s n => if 0 < (s.ph n).ihat then s.modPh n (fun p => { p with braking := true }) else s) s
/-- The brake is on. -/
def State.brakeOn (s : State) (r : Fin 8) : State :=
  let s := (((s.brakeTimed r).modFr r (fun f => { f with brkN := f.brkN + 1 })).lookRail r).brakePhases r
  (((s.mark F.ENG_STATUS_BRAKE_ACT r).mark F.ENG_STICKY_BRAKE_S r).logF 0x0505 r [(1, r.val)]).redriveRail r
/-- Braking is inhibited after BRK_N starts in a window. -/
def State.brakeLimit (s : State) (r : Fin 8) (w : Nat) : State :=
  if s.get F.RP_MISC_BRK_N r ≤ (s.fr r).brkN then
    ((s.mark F.RP_STATUS_BRK_INH r).brakeRec r 1).modFr r (fun f => { f with brkTill := s.pow.tnow0 + (w + 1) * 1000000 + 10000000 })
  else s

theorem State.brakeTimed_code (s : State) (r : Fin 8) : ((s.brakeTimed r).fr r).code = (s.fr r).code := by
  unfold State.brakeTimed
  simp only [State.fr, State.modFr, State.rail_modRail_self]
  split <;> rfl
theorem State.brakeTimed_lsErr (s : State) (r : Fin 8) : (s.brakeTimed r).lsErr r = s.lsErr r := by
  unfold State.lsErr State.fLlt State.eng
  rw [s.brakeTimed_code]
  simp [State.brakeTimed, State.copy, State.imgGet]

/-- The conditions of `State.BrakeDue` as the model tests them. -/
def State.brakeDue (s : State) (r : Fin 8) : Bool :=
  (s.fr r).ls == .over && (s.brakeTimed r).flag F.LS_CFG_BRAKE_EN r
    && decide ((s.fr r).lsAt + (s.brakeTimed r).get F.LS_CFG_BRAKE_DLY r * 20 ≤ (s.brakeTimed r).now)
    && decide ((s.brakeTimed r).lsErr r < -((s.brakeTimed r).get F.LS_CFG_LS_DN_TH r * 256 : Int))
    && !(s.brakeTimed r).flag F.RP_STATUS_SNS_AUX r && !(s.brakeTimed r).flag F.ENG_STATUS_BRAKE_ACT r
    && !(s.brakeTimed r).flag F.RP_STATUS_BRK_INH r
theorem State.brakeStart_eq (s : State) (r : Fin 8) : s.brakeStart r =
    if !s.brakeDue r then s.brakeTimed r
    else if (s.brakeTimed r).brakeHot r then
      if (s.fr r).brkRec != 0 && (s.brakeTimed r).now < (s.fr r).brkRec + 1000000 then s.brakeTimed r
      else ((s.brakeTimed r).brakeRec r 2).modFr r (fun f => { f with brkRec := (s.brakeTimed r).now })
    else (s.brakeOn r).brakeLimit r s.brakeWin := by
  unfold State.brakeStart State.brakeOn State.brakeLimit State.brakePhases State.brakeDue State.brakeTimed State.brakeWin
  dsimp only
theorem State.BrakeDue.due (h : s.BrakeDue r) : s.brakeDue r = true := by
  obtain ⟨hls, hen, hdly, herr, hmain, hidle, hfree⟩ := h
  unfold State.brakeDue
  rw [State.brakeTimed_lsErr]
  simp only [Bool.and_eq_true, Bool.not_eq_true', decide_eq_true_eq, beq_iff_eq]
  exact ⟨⟨⟨⟨⟨⟨hls, hen⟩, hdly⟩, herr⟩, hmain⟩, hidle⟩, hfree⟩

/-- A hot phase, and no record of it yet: the record alone. -/
theorem State.BrakeDue.brakeStart_hot (h : s.BrakeDue r) (hhot : s.brakeHot r = true) (hrec : (s.fr r).brkRec = 0) :
    s.brakeStart r = ((s.brakeTimed r).brakeRec r 2).modFr r (fun f => { f with brkRec := s.now }) := by
  rw [State.brakeStart_eq, h.due, if_neg (by decide), if_pos (show (s.brakeTimed r).brakeHot r = true from hhot), hrec]
  exact if_neg (by simp)
/-- No hot phase: the brake is on. -/
theorem State.BrakeDue.brakeStart_cool (h : s.BrakeDue r) (hcool : s.brakeHot r = false) :
    s.brakeStart r = (s.brakeOn r).brakeLimit r s.brakeWin := by
  rw [State.brakeStart_eq, h.due, if_neg (by decide)]
  exact if_neg (by rw [show (s.brakeTimed r).brakeHot r = false from hcool]; decide)

/-- Braking acts on a rail and on one of its phases; the rest is what the end of the update needs. -/
structure Brakes (r : Fin 8) (n : Fin 32) (b s : State) : Prop where
  pow : s.pow = b.pow
  link : s.get F.CJ_CFG_CJ_EN = b.get F.CJ_CFG_CJ_EN
  act : s.get F.ENG_STATUS_BRAKE_ACT r = 1
  sticky : s.get F.ENG_STICKY_BRAKE_S r = 1
  phase : (s.ph n).braking = true

theorem Brakes.driven (h : Brakes r n b s) {x : State} (g : Driven s x) : Brakes r n b x :=
  ⟨g.pow.trans h.pow, (g.get _ _ (by decide)).trans h.link, (g.railGet _ r (by decide)).trans h.act,
    (g.railGet _ r (by decide)).trans h.sticky, (g.braking n).trans h.phase⟩
theorem Brakes.set (h : Brakes r n b s) {f : Fld} {i v : Nat} (hlink : f.off (F.CJ_CFG_CJ_EN.key 0) = true)
    (hf : ∀ q : Fin 8, f.off (F.ENG_STATUS_BRAKE_ACT.key q) = true ∧ f.off (F.ENG_STICKY_BRAKE_S.key q) = true) (hi : i < f.count) :
    Brakes r n b (s.set f i v) :=
  ⟨h.pow, (State.get_set_of_ne _ _ _ _ _ _ (Fld.key_ne hlink hi)).trans h.link,
    (State.get_set_of_ne _ _ _ _ _ _ (Fld.key_ne (hf r).1 hi)).trans h.act,
    (State.get_set_of_ne _ _ _ _ _ _ (Fld.key_ne (hf r).2 hi)).trans h.sticky, h.phase⟩
theorem Brakes.modFr (h : Brakes r n b s) {q : Fin 8} {f : Front → Front} : Brakes r n b (s.modFr q f) :=
  ⟨h.pow, h.link, h.act, h.sticky, h.phase⟩
theorem Brakes.logF (h : Brakes r n b s) {code unit : Nat} {items : List (Nat × Int)} {react : React}
    (hc : statusCodes.contains code = false) : Brakes r n b (s.logF code unit items react) := h.driven ((Driven.refl s).logF hc)
theorem Brakes.brakeLimit (h : Brakes r n b s) {w : Nat} : Brakes r n b (s.brakeLimit r w) := by
  unfold State.brakeLimit State.brakeRec
  have hinh : Brakes r n b (s.mark F.RP_STATUS_BRK_INH r) := h.set (by decide) (by decide) r.isLt
  have htold : Brakes r n b (((s.mark F.RP_STATUS_BRK_INH r).mark F.RP_STICKY_BRK_INH_S r).logF 0x0A12 r [(1, r.val), (2, 1)]) :=
    .logF (hinh.set (by decide) (by decide) r.isLt) (by decide)
  split
  · exact htold.modFr
  · exact h

/-- The step of `brakePhases` at one phase. -/
def State.brakePhase (s : State) (n : Fin 32) : State :=
  if 0 < (s.ph n).ihat then s.modPh n (fun p => { p with braking := true }) else s
theorem State.brakePhase_ihat (s : State) (m : Fin 32) : ((s.brakePhase m).ph n).ihat = (s.ph n).ihat := by
  unfold State.brakePhase
  split
  · by_cases hn : n = m
    · subst hn; rw [State.ph_modPh_self]
    · rw [State.ph_modPh_of_ne _ _ _ _ hn]
  · rfl
theorem State.brakePhase_braking (m : Fin 32) (h : (s.ph n).braking = true ∨ n = m ∧ 0 < (s.ph n).ihat) :
    ((s.brakePhase m).ph n).braking = true := by
  unfold State.brakePhase
  by_cases hn : n = m
  · subst hn
    split
    · rw [State.ph_modPh_self]
    next hi => exact h.resolve_right fun hi' => hi hi'.2
  · have hb := h.resolve_right fun h' => hn h'.1
    split
    · rw [State.ph_modPh_of_ne _ _ _ _ hn]
      exact hb
    · exact hb
/-- A phase of the list with positive observed current brakes. -/
theorem State.brakePhase_all (l : List (Fin 32)) (hi : 0 < (s.ph n).ihat) (hn : (s.ph n).braking = true ∨ n ∈ l) :
    ((l.foldl State.brakePhase s).ph n).braking = true := by
  induction l generalizing s with
  | nil => exact hn.resolve_right List.not_mem_nil
  | cons m l ih =>
    refine ih (by rwa [State.brakePhase_ihat]) ?_
    rcases hn with hb | hmem
    · exact .inl (State.brakePhase_braking m (.inl hb))
    · rcases List.mem_cons.mp hmem with rfl | hmem
      · exact .inl (State.brakePhase_braking n (.inr ⟨rfl, hi⟩))
      · exact .inr hmem
/-- Beside the phases nothing changes. -/
theorem State.brakePhases_parts (s : State) (r : Fin 8) : (s.brakePhases r).pow = s.pow ∧ (s.brakePhases r).regs = s.regs :=
  List.foldlRecOn (motive := fun x : State => x.pow = s.pow ∧ x.regs = s.regs) _ _ ⟨rfl, rfl⟩ fun x hx m _ => by split <;> exact hx

theorem Driven.onRail (h : Driven b s) (r : Fin 8) (n : Fin 32) : s.onRail r n = b.onRail r n := by
  have hassigned := h.get F.PH_STATE_ASSIGNED n ((by decide : ∀ m : Fin 32, drivenKey (F.PH_STATE_ASSIGNED.key m) = false) n)
  have hrail := h.get F.PH_STATE_RAIL n ((by decide : ∀ m : Fin 32, drivenKey (F.PH_STATE_RAIL.key m) = false) n)
  unfold State.onRail State.flag State.railOf
  rw [hassigned, hrail]
theorem State.mem_switchingOf (hr : s.onRail r n = true) (hsw : (s.ph n).sw.switching = true) : n ∈ s.switchingOf r :=
  List.mem_filter.mpr ⟨List.mem_filter.mpr ⟨(by decide : ∀ m, m ∈ allPhases) n, hr⟩, hsw⟩

/-- The status and the sticky flag of braking, once both are set. -/
theorem State.brakeMarks (hpow : s.pow = b.pow) (hlink : s.get F.CJ_CFG_CJ_EN = b.get F.CJ_CFG_CJ_EN) (hn : (s.ph n).braking = true) :
    Brakes r n b ((s.mark F.ENG_STATUS_BRAKE_ACT r).mark F.ENG_STICKY_BRAKE_S r) := by
  have hact : (F.CJ_CFG_CJ_EN.key 0 ≠ F.ENG_STATUS_BRAKE_ACT.key r ∧ F.CJ_CFG_CJ_EN.key 0 ≠ F.ENG_STICKY_BRAKE_S.key r) ∧
      F.ENG_STATUS_BRAKE_ACT.key r ≠ F.ENG_STICKY_BRAKE_S.key r := by
    clear * -
    revert r
    decide
  obtain ⟨⟨hlinkAct, hlinkSticky⟩, hactSticky⟩ := hact
  rw [State.mark_eq, State.mark_eq]
  refine ⟨hpow, ?_, ?_, ?_, hn⟩
  · rw [State.get_set_of_ne _ _ _ _ _ _ hlinkSticky, State.get_set_of_ne _ _ _ _ _ _ hlinkAct]
    exact hlink
  · rw [State.get_set_of_ne _ _ _ _ _ _ hactSticky, State.get_set_self]
    rfl
  · rw [State.get_set_self]
    rfl

theorem State.brakeOn_brakes (hr : s.onRail r n = true) (hsw : (s.ph n).sw.switching = true) (hi : 0 < (s.ph n).ihat) :
    Brakes r n s (s.brakeOn r) := by
  unfold State.brakeOn
  have hlook := (Driven.refl ((s.brakeTimed r).modFr r (fun f => { f with brkN := f.brkN + 1 }))).lookRail (r := r)
  generalize ((s.brakeTimed r).modFr r (fun f => { f with brkN := f.brkN + 1 })).lookRail r = y at hlook
  have hpow : y.pow = s.pow := hlook.pow
  have hlink : y.get F.CJ_CFG_CJ_EN = s.get F.CJ_CFG_CJ_EN := hlook.get _ _ (by decide)
  have hmem : n ∈ y.switchingOf r :=
    State.mem_switchingOf ((hlook.onRail r n).trans hr) ((congrArg Sw.switching (hlook.sw n)).trans hsw)
  have hbraking : ((y.brakePhases r).ph n).braking = true := State.brakePhase_all _ (lt_of_lt_of_eq hi (hlook.ihat n).symm) (.inr hmem)
  obtain ⟨hpow', hregs⟩ := y.brakePhases_parts r
  have hlink' : (y.brakePhases r).get F.CJ_CFG_CJ_EN = y.get F.CJ_CFG_CJ_EN := congrArg (Store.get · _) hregs
  have hmarked := State.brakeMarks (b := s) (r := r) (hpow'.trans hpow) (hlink'.trans hlink) hbraking
  exact (hmarked.logF (by decide)).driven (Driven.refl _).redriveRail

theorem State.setRail_braking {q : Fin 8} {st : RailState} (h : (s.ph n).braking = true) : ((s.setRail q st).ph n).braking = true := by
  refine State.setRail_ind (P := fun z => (z.ph n).braking = true) q st h (fun _ _ hz => hz) (fun z m w hz => ?_) (fun _ hz => hz)
    (fun _ hz => hz)
  unfold State.setSw
  by_cases hm : n = m
  · subst hm
    rw [State.ph_modPh_self]
    exact hz
  · rw [State.ph_modPh_of_ne _ _ _ _ hm]
    exact hz
/-- While nothing of the end of an update acts on the rails by itself, it keeps what `EndKept` names. -/
theorem State.Still.kept {x u : State} {f : State → State} (hs : x.Still) (hx : f (s.at t) = x) (hu : run t f s = .next u) : EndKept x u := by
  obtain ⟨hcalm, hlink, hstop⟩ := hs
  subst hx
  exact run_plain t f u hu hcalm hlink hstop
/-- And the phases that brake go on braking. -/
theorem State.Still.braking {x u : State} {f : State → State} (hs : x.Still) (hx : f (s.at t) = x) (hu : run t f s = .next u)
    (h : (x.ph n).braking = true) : (u.ph n).braking = true := by
  obtain ⟨hcalm, hlink, hstop⟩ := hs
  refine run_ind (P := fun y => (y.ph n).braking = true) (fun y z hp hy => ?_) (fun y q hy => ?_) hx hu hcalm ?_
  · unfold State.ph
    rw [hp.phases]
    exact hy
  · have harm : (y.arm q).phases = (y.setRail q .armed).phases := rfl
    unfold State.ph
    rw [harm]
    exact State.setRail_braking hy
  · rw [State.stopRound_self hstop, State.cjRound_none _ hlink]
    exact h

theorem brakeStart_gives (hs : s.Still) (h : s.BrakeDue r) (hcool : s.brakeHot r = false) (hr : s.onRail r n = true)
    (hsw : (s.ph n).sw.switching = true) (hi : 0 < (s.ph n).ihat) :
    Gives (.brakeStart t r) s (fun u => u.get F.ENG_STATUS_BRAKE_ACT r = 1 ∧ u.get F.ENG_STICKY_BRAKE_S r = 1 ∧
      (u.ph n).braking = true) := by
  have hx : (s.at t).brakeStart r = ((s.at t).brakeOn r).brakeLimit r (s.at t).brakeWin :=
    (h.at t).brakeStart_cool hcool
  have hbrakes : Brakes r n (s.at t) (((s.at t).brakeOn r).brakeLimit r (s.at t).brakeWin) :=
    ((State.brakeOn_brakes (s := s.at t) hr hsw hi)).brakeLimit
  generalize ((s.at t).brakeOn r).brakeLimit r (s.at t).brakeWin = x at hx hbrakes
  obtain ⟨hcalm, hlink, hstop⟩ := hs
  have hcalm' : x.Calm := (congrArg Power.wantSafestopClr hbrakes.pow).trans hcalm
  have hstop' : x.pow.stopSet = 0 := (congrArg Power.stopSet hbrakes.pow).trans hstop
  have hlink' : x.flag F.CJ_CFG_CJ_EN = false := by unfold State.flag; rw [hbrakes.link]; exact hlink
  have hstill : x.Still := ⟨hcalm', hlink', hstop'⟩
  refine run_gives (f := (·.brakeStart r)) rfl hx hcalm' fun u hu hf => ⟨?_, ?_, ?_⟩
  · exact ((hstill.kept hx hu).regs _ ((by decide : ∀ q : Fin 8, plainKey (F.ENG_STATUS_BRAKE_ACT.key q) = false) r)).trans hbrakes.act
  · exact (hf.get _ r ((by decide : ∀ q : Fin 8, settleKey (F.ENG_STICKY_BRAKE_S.key q) = false) r)).trans hbrakes.sticky
  · exact hstill.braking hx hu hbrakes.phase

/-! ## No braking with a hot phase, and the end of an inhibit (R315) -/

/-- Record 0x0A12 and its sticky flag leave what the rest of the update needs. -/
theorem State.brakeRec_spec (s : State) (r : Fin 8) (cause : Nat) : (s.brakeRec r cause).pow = s.pow ∧
    (s.brakeRec r cause).get F.CJ_CFG_CJ_EN = s.get F.CJ_CFG_CJ_EN ∧
    (s.brakeRec r cause).get F.ENG_STATUS_BRAKE_ACT r = s.get F.ENG_STATUS_BRAKE_ACT r ∧
    (s.brakeRec r cause).get F.RP_STICKY_BRK_INH_S r = 1 := by
  have hlogged : Driven (s.mark F.RP_STICKY_BRK_INH_S r) (s.brakeRec r cause) := (Driven.refl _).logF (by decide)
  have hkeys : F.CJ_CFG_CJ_EN.key 0 ≠ F.RP_STICKY_BRK_INH_S.key r ∧ F.ENG_STATUS_BRAKE_ACT.key r ≠ F.RP_STICKY_BRK_INH_S.key r := by
    clear * -
    revert r
    decide
  obtain ⟨hlink, hact⟩ := hkeys
  exact ⟨hlogged.pow, (hlogged.get _ _ (by decide)).trans (State.get_set_of_ne _ _ _ _ _ _ hlink),
    (hlogged.railGet _ r (by decide)).trans (State.get_set_of_ne _ _ _ _ _ _ hact),
    (hlogged.railGet _ r (by decide)).trans (State.get_set_self ..)⟩

theorem brakeHot_gives (hs : s.Still) (h : s.BrakeDue r) (hhot : s.brakeHot r = true) (hrec : (s.fr r).brkRec = 0) :
    Gives (.brakeStart t r) s (fun u => u.get F.ENG_STATUS_BRAKE_ACT r = 0 ∧ u.get F.RP_STICKY_BRK_INH_S r = 1 ∧
      (u.fr r).brkRec = max s.now t) := by
  have hx : (s.at t).brakeStart r = (((s.at t).brakeTimed r).brakeRec r 2).modFr r (fun f => { f with brkRec := (s.at t).now }) :=
    (h.at t).brakeStart_hot hhot hrec
  have hcold : s.get F.ENG_STATUS_BRAKE_ACT r = 0 := by simpa [State.flag] using h.idle
  obtain ⟨hpow, hlink, hact, hinh⟩ := ((s.at t).brakeTimed r).brakeRec_spec r 2
  replace hact := hact.trans hcold
  replace hpow : _ = s.pow := hpow
  replace hlink : _ = s.get F.CJ_CFG_CJ_EN := hlink
  generalize ((s.at t).brakeTimed r).brakeRec r 2 = y at hx hlink hact hinh hpow
  have hstill : (y.modFr r (fun f => { f with brkRec := (s.at t).now })).Still := by
    unfold State.Still State.flag
    rw [State.modFr_eq, State.modRail_pow, State.get_modRail, hpow, hlink]
    exact hs
  refine run_gives (f := (·.brakeStart r)) rfl hx hstill.1 fun u hu hf => ⟨?_, ?_, ?_⟩
  · exact ((hstill.kept hx hu).regs _ ((by decide : ∀ q : Fin 8, plainKey (F.ENG_STATUS_BRAKE_ACT.key q) = false) r)).trans hact
  · exact (hf.get _ r ((by decide : ∀ q : Fin 8, settleKey (F.RP_STICKY_BRK_INH_S.key q) = false) r)).trans hinh
  · have hrec := congrArg Front.brkRec (hf.fr r)
    refine (show (u.fr r).brkRec = _ from hrec).trans ?_
    simp only [Front.rest, State.fr, State.modFr, State.rail_modRail_self]
    rfl

/-- One field and one Front-die side. -/
theorem Changes.fieldFr {fs : List Fld} {f : Fld} {i v : Nat} {g : Front → Front} (hf : f ∈ fs) (hfit : f.fits = true) (hi : i < f.count) :
    Changes [.rail r] fs s ((s.set f i v).modFr r g) := by
  refine ⟨?_, (Changes.set (ps := []) hf hfit hi v).regs⟩
  have hrail : ((s.set f i v).modFr r g).rail r = { s.rail r with fr := g (s.fr r) } := State.rail_modRail_self ..
  unfold State.puts
  simp only [List.foldl_cons, List.foldl_nil, State.put, hrail]
  rfl
theorem brakeInhEnd_gives (hc : s.Calm) (hinh : s.flag F.RP_STATUS_BRK_INH r = true) (htill : (s.fr r).brkTill ≤ s.now) :
    Gives (.brakeInhibitEnd t r) s (fun u => u.get F.RP_STATUS_BRK_INH r = 0 ∧ (u.fr r).brkN = 0 ∧
      Changes [.rail r] [F.RP_STATUS_BRK_INH] s u) := by
  have hx : (s.at t).brakeInhEnd r = ((s.at t).clear F.RP_STATUS_BRK_INH r).modFr r (fun f => { f with brkN := 0 }) := by
    have htill' : (s.fr r).brkTill ≤ max s.now t := htill.trans (Nat.le_max_left ..)
    exact if_pos (by simp [State.flag] at hinh ⊢; exact ⟨hinh, htill'⟩)
  refine run_gives (f := (·.brakeInhEnd r)) rfl hx hc fun u hu hf => ⟨?_, ?_, ?_⟩
  · rw [hf.get _ r ((by decide : ∀ q : Fin 8, settleKey (F.RP_STATUS_BRK_INH.key q) = false) r)]
    simp
  · have := congrArg Front.brkN (hf.fr r)
    refine (show (u.fr r).brkN = _ from this).trans ?_
    simp [Front.rest, State.fr]
  · exact (hf.changes (Changes.fieldFr (List.mem_singleton.mpr rfl) (by decide) r.isLt)).of_at

end Sys2Proof.Machine
open Sys2Proof Sys2Proof.Machine

/-- Settles O27: a sample by `errorSample_gives`, the trips by `trip_gives`, LS_MAX by `lsMax_gives`, braking by `brakeStart_gives`,
`brakeHot_gives` and `brakeInhEnd_gives`. -/
theorem errorSamplesAndLargeSignal : Obligations.ErrorSamplesAndLargeSignal := by
  unfold Obligations.ErrorSamplesAndLargeSignal
  refine ⟨?_, ?_, ?_, ?_, ?_, ?_, ?_, ?_⟩
  · intro t s r v w hs hd hw hp hdr haux hwin
    refine (errorSample_gives hs.1 ⟨⟨hd, hw⟩, hp, hdr, haux⟩ v w).mono fun u h => ?_
    simp only [State.senseOut_false hwin, Bool.false_eq_true, if_false] at h
    exact h
  · intro t s r v w hs hd hw hp hdr haux hwin
    refine (errorSample_gives hs.1 ⟨⟨hd, hw⟩, hp, hdr, haux⟩ v w).mono fun u h => ?_
    simp only [show s.senseOut r v w = true from decide_eq_true hwin, if_true] at h
    obtain ⟨hcode, hrun, -, -⟩ := h
    exact ⟨hcode, hrun⟩
  · intro t s r v w hs hd hw hp hdr haux hwin hls hth hrun hhold herr
    refine (trip_gives (under := true) hs ⟨⟨hd, hw⟩, hp, hdr, haux⟩ ⟨hwin, hls, hth, hrun, hhold, herr⟩).mono
      fun u ⟨hls, hat, hact, hsticky⟩ => ⟨hls, hact, hsticky, hat⟩
  · intro t s r v w hs hd hw hp hdr haux hwin hls hth hrun hhold herr
    refine (trip_gives (under := false) hs ⟨⟨hd, hw⟩, hp, hdr, haux⟩ ⟨hwin, hls, hth, hrun, hhold, herr⟩).mono
      fun u ⟨hls, _, hact, _⟩ => ⟨hls, hact⟩
  · exact fun t s r => lsMax_gives
  · intro t s r n hs hls hen hdly herr haux hidle hfree hcool
    exact brakeStart_gives hs ⟨hls, hen, hdly, herr, haux, hidle, hfree⟩ hcool
  · intro t s r hs hls hen hdly herr haux hidle hfree hhot
    exact brakeHot_gives hs ⟨hls, hen, hdly, herr, haux, hidle, hfree⟩ hhot
  · exact fun t s r => brakeInhEnd_gives
end


section
/-!
O28 and O56: the two statements on phases that the model does not meet. For each, a state, a command, and the outcome that the model
evaluates to.
-/
namespace Sys2Proof.Machine

/-- REGULATE, with rail 0 OFF and enabled, so that it arms at the end of any update, and its phase 0 in ADDING all the same. -/
def addingOnOffRail : State :=
  let s : State := { mode := .regulate, pow.en := .replicate 4 true }
  let s := s.modRail 0 (fun x => { x with cfg := { x.cfg with present := true, enabled := true } })
  (s.mark F.PH_STATE_ASSIGNED).modPh 0 (fun p => { p with sw := .adding })

/-- The switching state of a phase after a command is the one that `settle` leaves. -/
theorem run_sw {t : Nat} {f : State → State} {s u : State} (h : run t f s = .next u) (n : Fin 32) :
    (u.ph n).sw = ((settle (s.at t) (f (s.at t))).ph n).sw := by
  cases h
  generalize settle (s.at t) (f (s.at t)) = y
  rfl

end Sys2Proof.Machine
open Sys2Proof Sys2Proof.Machine

/-- Refutes O28, by its clause of R181: the statement speaks of every state, also of one whose rail is OFF while its phase is in ADDING,
which no command leaves (`State.setRail`). PHASE_SETTLED makes the phase ACTIVE, and the end of the same update arms the rail, whose
phases then read UNUSED (Table 6.1). -/
theorem not_phasesComeAndGo : ¬ Obligations.PhasesComeAndGo := by
  unfold Obligations.PhasesComeAndGo
  rintro ⟨hSettled, -⟩
  obtain ⟨u, hu, hactive, -⟩ := hSettled 0 addingOnOffRail 0 (by decide +kernel) (by decide +kernel) (by decide +kernel)
  have hunused : ((settle (addingOnOffRail.at 0) ((addingOnOffRail.at 0).phaseSettled 0)).ph 0).sw = .unused := by decide +kernel
  rw [← run_sw (f := (State.phaseSettled · 0)) hu, hactive] at hunused
  cases hunused

/-- Refutes O56: NEG_PEAK_TRIP follows the output of its phase up to now, and where a fault reading stands at the end of a blanking window
that look cuts (R210) and sets CUT_S, a field that the frame of NEG_PEAK_TRIP does not name. -/
theorem not_frameOfPhaseCommands : ¬ Obligations.FrameOfPhaseCommands := by
  unfold Obligations.FrameOfPhaseCommands
  rintro ⟨-, -, -, -, -, -, hNegPeak, -⟩
  obtain ⟨u, hu, hframe, -, -⟩ := run_next 0 (State.negPeak · 0) lsMaxWithFault (by decide +kernel)
  have hkept : u.get F.PWM_STICKY_CUT_S = lsMaxWithFault.get F.PWM_STICKY_CUT_S :=
    (hNegPeak 0 0 lsMaxWithFault u (by decide +kernel) hu).regs _ (by decide) (by decide)
  have hcut : ((lsMaxWithFault.at 0).negPeak 0).get F.PWM_STICKY_CUT_S ≠ lsMaxWithFault.get F.PWM_STICKY_CUT_S := by decide +kernel
  exact hcut ((hframe.get F.PWM_STICKY_CUT_S 0 (by decide)).symm.trans hkept)
end


section
/-!
O11: the end of an update puts each rail in REG or SHED into the one that its live phases and diode emulation ask for
(`State.shedRound`), and the rounds that follow leave the rail states, the phases and what makes a phase live alone.
-/
namespace Sys2Proof.Machine

variable {b s u : State} {q r : Fin 8}

/-- One of the live phases of the rail is IDLE, or diode emulation is active on it. -/
def State.lightlyUsed (s : State) (r : Fin 8) : Bool := !(s.idleOf r).isEmpty || s.flag F.PHC_STATUS_DE_ACT r

theorem State.lightlyUsed_iff : s.lightlyUsed r = true ↔
    (∃ n : Fin 32, n ∈ s.liveOf r ∧ (s.ph n).sw = .idle) ∨ s.get F.PHC_STATUS_DE_ACT r ≠ 0 := by
  simp [State.lightlyUsed, State.idleOf, State.flag]

/-- The fields that make a phase a live one of its rail. -/
def liveFields : List Fld :=
  [F.PH_STATE_ASSIGNED, F.PH_STATE_RAIL, F.PWM_STATUS_TFLT_LATCH, F.PH_PROT_PHW_STOP, F.PWM_CTRL_FORCE_TRI]

/-- The same phases and registers give the same answer. -/
theorem State.lightlyUsed_congr (hph : s.phases = b.phases) (hlive : ∀ f ∈ liveFields, ∀ n : Fin 32, s.get f n = b.get f n)
    (hcoh : s.get F.COH_HOLD_HOLD = b.get F.COH_HOLD_HOLD) (hde : s.get F.PHC_STATUS_DE_ACT r = b.get F.PHC_STATUS_DE_ACT r) :
    s.lightlyUsed r = b.lightlyUsed r := by
  simp only [liveFields, List.forall_mem_cons] at hlive
  obtain ⟨hassigned, hrail, hlatch, hstop, htri, -⟩ := hlive
  have hp : ∀ n, s.ph n = b.ph n := fun n => by unfold State.ph; rw [hph]
  have hon : s.onRail r = b.onRail r := funext fun n => by simp only [State.onRail, State.flag, State.railOf, hassigned, hrail]
  have hl : s.live = b.live := funext fun n => by
    simp only [State.live, State.blocked, State.flag, hassigned, hlatch, hstop, htri, hcoh, hp]
  simp only [State.lightlyUsed, State.idleOf, State.liveOf, State.phasesOf, State.flag, hon, hl, hde, hp]

theorem Plain.lightlyUsed (h : Plain b s) : s.lightlyUsed r = b.lightlyUsed r :=
  State.lightlyUsed_congr h.phases
    (fun f hf n => h.regs _ ((by decide : ∀ f ∈ liveFields, ∀ n : Fin 32, plainKey (f.key n) = false) f hf n))
    (h.regs _ (by decide)) (h.regs _ ((by decide : ∀ q : Fin 8, plainKey (F.PHC_STATUS_DE_ACT.key q) = false) r))

/-- A rail in REG or SHED is in SHED exactly while it is lightly used (R156). -/
def State.ShedRight (s : State) (r : Fin 8) : Prop := s.st r = .reg ∨ s.st r = .shed → (s.st r = .shed ↔ s.lightlyUsed r = true)

theorem State.ShedRight.congr (h : b.ShedRight r) (hst : s.st r = b.st r) (hu : s.lightlyUsed r = b.lightlyUsed r) : s.ShedRight r := by
  unfold State.ShedRight
  rw [hst, hu]
  exact h

/-- The one of REG and SHED that the rail belongs in. -/
def State.shedWant (s : State) (r : Fin 8) : RailState := if s.lightlyUsed r then .shed else .reg
theorem State.shedWant_eq_shed : s.shedWant r = .shed ↔ s.lightlyUsed r = true := by
  unfold State.shedWant
  cases s.lightlyUsed r <;> simp

/-- The step of `shedRound` at one rail. -/
def State.shedStep (s : State) (r : Fin 8) : State :=
  if (s.st r == .reg || s.st r == .shed) && s.st r != s.shedWant r then s.modRail r (fun x => { x with st := s.shedWant r }) else s

theorem State.shedStep_lightlyUsed : (s.shedStep q).lightlyUsed r = s.lightlyUsed r := by
  unfold State.shedStep
  split
  · exact State.lightlyUsed_congr rfl (fun _ _ _ => rfl) rfl rfl
  · rfl
theorem State.shedStep_st_other (h : r ≠ q) : (s.shedStep q).st r = s.st r := by
  unfold State.shedStep
  split
  · simp only [State.st, State.rail_modRail_of_ne _ _ _ _ h]
  · rfl
theorem State.shedStep_right : (s.shedStep r).ShedRight r := by
  intro hst
  rw [State.shedStep_lightlyUsed, ← State.shedWant_eq_shed]
  revert hst
  unfold State.shedStep
  split
  next => simp [State.st]
  next hstay =>
    -- neither REG nor SHED, or the one that it belongs in
    intro hst
    have hwant : s.st r = s.shedWant r := by simpa [hst] using hstay
    rw [hwant]
theorem State.ShedRight.shedStep (h : s.ShedRight r) : (s.shedStep q).ShedRight r := by
  by_cases hq : r = q
  · subst hq
    exact State.shedStep_right
  · exact h.congr (State.shedStep_st_other hq) State.shedStep_lightlyUsed

/-- Every rail of the list is right after its turn, and stays so. -/
theorem State.shedSteps_right : ∀ (l : List (Fin 8)) (s : State), s.ShedRight r ∨ r ∈ l → (l.foldl State.shedStep s).ShedRight r
  | [], _, h => h.resolve_right List.not_mem_nil
  | q :: l, s, h => by
    refine State.shedSteps_right l _ ?_
    rcases h with h | h
    · exact .inl h.shedStep
    · rcases List.mem_cons.mp h with rfl | h
      · exact .inl State.shedStep_right
      · exact .inr h
theorem State.shedRound_right (s : State) (r : Fin 8) : s.shedRound.ShedRight r := State.shedSteps_right allRails s (.inr (mem_allRails r))

theorem settle_shedRight (s0 s : State) (r : Fin 8) : (settle s0 s).ShedRight r := by
  unfold settle
  have hround := State.shedRound_right (State.cjRound s0 s.stopRound).packRound.clrRound.armRound.precheckRound r
  generalize (State.cjRound s0 s.stopRound).packRound.clrRound.armRound.precheckRound.shedRound = x at hround
  have hmode : x.modeRound.ShedRight r := hround.congr (State.modeRound_st r) (State.modeRound_plain (.refl x)).lightlyUsed
  generalize x.modeRound = y at hmode
  exact hmode.congr ((State.creditRound_held (State.noteRound_held _ (State.mirrorRound_held _ (State.pmbRound_held _
      (State.wasRound_held _ (State.clampRound_held (State.hintRound_held (.refl y)))))))).st r)
    (State.creditRound_plain (State.noteRound_plain _ (State.mirrorRound_plain _ (State.pmbRound_plain _
      (State.wasRound_plain _ (State.clampRound_plain (State.hintRound_plain (.refl y)))))))).lightlyUsed

theorem run_shedRight {t : Nat} {f : State → State} (h : run t f s = .next u) (r : Fin 8) : u.ShedRight r := by
  obtain rfl := Host.Outcome.next.inj h
  have hright := settle_shedRight (s.at t) (f (s.at t)) r
  generalize settle (s.at t) (f (s.at t)) = x at hright
  exact hright.congr rfl (State.lightlyUsed_congr rfl (fun _ _ _ => rfl) rfl rfl)

end Sys2Proof.Machine
open Sys2Proof Sys2Proof.Machine

/-- Settles O11: after every command each rail in REG or SHED is in the one that R156 names (`settle_shedRight`). -/
theorem shedFollowsThePhases : Obligations.ShedFollowsThePhases := by
  unfold Obligations.ShedFollowsThePhases
  intro c s u r hu hst
  obtain ⟨t, f, hrun⟩ := exec_runs hu
  exact (run_shedRight hrun r hst).trans State.lightlyUsed_iff
end


section
/-!
What outlasts the stops of a rail and the end of an update: a phase in STOPPED stays there (Table 6.1), and the phase-failed bit of a page
stays set until CLEAR_FAULTS (R166, R461).
-/
namespace Sys2Proof.Machine

/-- Phases in STOPPED are still there, and set phase-failed bits of STATUS_MFR_SPECIFIC still stand. -/
structure Lasts (b s : State) : Prop where
  stopped : ∀ n, (b.ph n).sw = .stopped → (s.ph n).sw = .stopped
  failed : ∀ r : Fin 8, (b.get F.PMB_RSTAT2_STATUS_MFR r).testBit 7 = true → (s.get F.PMB_RSTAT2_STATUS_MFR r).testBit 7 = true

variable {b s : State}

theorem Lasts.refl (s : State) : Lasts s s := ⟨fun _ => id, fun _ => id⟩
theorem Lasts.trans {a : State} (h : Lasts a b) (g : Lasts b s) : Lasts a s :=
  ⟨fun n => g.stopped n ∘ h.stopped n, fun r => g.failed r ∘ h.failed r⟩
/-- The registers and the phases are as they were. -/
theorem Lasts.withParts (h : Lasts b s) {now pending cz1604 mode img pow br par sets mirPh mirRail rails ports rcd spi pmb cj otp sec tlm jrn
    pk th ctx0 ctxs rings code entry} :
    Lasts b ⟨now, pending, cz1604, mode, s.regs, img, pow, br, par, sets, mirPh, mirRail, s.phases, rails, ports, rcd, spi, pmb, cj, otp, sec,
      tlm, jrn, pk, th, ctx0, ctxs, rings, code, entry⟩ := ⟨h.stopped, h.failed⟩

/-! ## Registers, phases, branches and loops -/

/-- A field apart from STATUS_MFR_SPECIFIC. -/
theorem Lasts.set (h : Lasts b s) {f : Fld} {i v : Nat} (hf : ∀ r : Fin 8, f.off (F.PMB_RSTAT2_STATUS_MFR.key r) = true) (hi : i < f.count) :
    Lasts b (s.set f i v) :=
  ⟨h.stopped, fun r hr => by
    rw [State.get_set_of_ne _ _ _ _ _ _ (Fld.key_ne (hf r) hi)]
    exact h.failed r hr⟩
/-- Bits set in a status field, this one or another. -/
theorem Lasts.pmbBits (h : Lasts b s) {f : Fld} {i v : Nat} (hw : 7 < f.width) : Lasts b (s.pmbBits f i v) :=
  ⟨h.stopped, fun r hr => by
    rw [State.pmbBits_eq, State.get_set]
    split
    next hk =>
      have hsame : s.get f i = s.get F.PMB_RSTAT2_STATUS_MFR r := congrArg s.regs.get hk.symm
      simp [Nat.testBit_mod_two_pow, hw, hsame, h.failed r hr]
    next => exact h.failed r hr⟩
theorem Lasts.modPh (h : Lasts b s) {n : Fin 32} {f : Phase → Phase} (hf : ∀ p, p.sw = .stopped → (f p).sw = .stopped) :
    Lasts b (s.modPh n f) :=
  ⟨fun m hm => by
    by_cases hn : m = n
    · subst hn
      rw [State.ph_modPh_self]
      exact hf _ (h.stopped m hm)
    · rw [State.ph_modPh_of_ne _ _ _ _ hn]
      exact h.stopped m hm, h.failed⟩
/-- A phase that is not STOPPED takes a state. -/
theorem Lasts.setSw (h : Lasts b s) {n : Fin 32} {w : Sw} (hn : ¬(s.ph n).sw == .stopped) : Lasts b (s.setSw n w) :=
  ⟨fun m hm => by
    have hne : m ≠ n := by
      rintro rfl
      exact hn (beq_iff_eq.mpr (h.stopped m hm))
    unfold State.setSw
    rw [State.ph_modPh_of_ne _ _ _ _ hne]
    exact h.stopped m hm, h.failed⟩

theorem Lasts.ite {c : Prop} {d : Decidable c} {x y : State} (hx : Lasts b x) (hy : Lasts b y) : Lasts b (@ite _ c d x y) := by
  split <;> assumption
theorem Lasts.when (h : Lasts b s) {c : Bool} {f : State → State} (hf : ∀ x, Lasts b x → Lasts b (f x)) : Lasts b (s.when c f) :=
  .ite (hf _ h) h
theorem Lasts.foldl {α : Type} {f : State → α → State} {l : List α} (h : Lasts b s) (hf : ∀ x a, Lasts b x → Lasts b (f x a)) :
    Lasts b (l.foldl f s) := List.foldlRecOn l f h fun x hx a _ => hf x a hx
theorem Lasts.onRails (h : Lasts b s) {f : State → Fin 8 → State} (hf : ∀ x r, Lasts b x → Lasts b (f x r)) : Lasts b (s.onRails f) :=
  h.foldl hf

theorem Lasts.modRail (h : Lasts b s) {r : Fin 8} {f : Rail → Rail} : Lasts b (s.modRail r f) := h.withParts
theorem Lasts.modEng (h : Lasts b s) {r : Fin 8} {f : Engine → Engine} : Lasts b (s.modEng r f) := h.withParts
theorem Lasts.modFr (h : Lasts b s) {r : Fin 8} {f : Front → Front} : Lasts b (s.modFr r f) := h.withParts
theorem Lasts.modPort (h : Lasts b s) {p : Fin 2} {f : Port → Port} : Lasts b (s.modPort p f) := h.withParts
theorem Lasts.modPk (h : Lasts b s) {f : Pack → Pack} : Lasts b (s.modPk f) := h.withParts

/-! ## Events and notices -/

theorem Lasts.emit (h : Lasts b s) {e : Evt} {react : React} : Lasts b (s.emit e react) := by
  unfold State.emit
  refine .ite (.ite ?_ h.withParts) h.withParts
  split
  · exact h.withParts
  · exact h
theorem Lasts.pmbRec (h : Lasts b s) {code unit : Nat} {items : List (Nat × Int)} : Lasts b (s.pmbRec code unit items) := by
  have hall : ∀ {f : Fld} {v : Nat}, 7 < f.width → Lasts b ((List.range 8).foldl (fun s r => s.pmbBits f r v) s) := fun hw =>
    h.foldl fun _ _ hx => hx.pmbBits hw
  exact .ite ((h.pmbBits (by decide)).pmbBits (by decide)) (.ite ((h.pmbBits (by decide)).pmbBits (by decide))
    (.ite (.ite (h.pmbBits (by decide)) h) (.ite (hall (by decide)) (.ite (.ite (hall (by decide)) (.ite (hall (by decide)) h))
    (.ite (h.pmbBits (by decide)) (.ite (h.pmbBits (by decide)) (.ite (h.pmbBits (by decide)) (.ite (hall (by decide)) h))))))))
theorem Lasts.raise (h : Lasts b s) {front : Bool} {code unit : Nat} {items : List (Nat × Int)} {react : React} :
    Lasts b (s.raise front code unit items react) := .ite (.ite h.pmbRec.withParts h.pmbRec.withParts.emit) h.pmbRec.emit
theorem Lasts.logF (h : Lasts b s) {code unit : Nat} {items : List (Nat × Int)} {react : React} :
    Lasts b (s.logF code unit items react) := h.raise
theorem Lasts.logC (h : Lasts b s) {code unit : Nat} {items : List (Nat × Int)} : Lasts b (s.logC code unit items) := h.raise
theorem Lasts.noteOn (h : Lasts b s) {p : Fin 2} {x : Notice} : Lasts b (s.noteOn p x) :=
  .ite (h.modPort.when fun _ hx => .logC (hx.set (f := F.AL_STICKY_NOTE_LOST) (by decide) p.isLt)) h
theorem Lasts.noteRail (h : Lasts b s) {r : Fin 8} {kind word : Nat} : Lasts b (s.noteRail r kind word) :=
  h.foldl fun _ _ hx => .ite hx.noteOn hx
theorem Lasts.noteAll (h : Lasts b s) {kind word : Nat} : Lasts b (s.noteAll kind word) := h.foldl fun _ _ hx => hx.noteOn
theorem Lasts.enter (h : Lasts b s) {n : Nat} {m : Mode} : Lasts b (s.enter n m) := by
  have hset : Lasts b ((s.set F.MODE_STATUS_PREV_MODE 0 s.mode.code).set F.MODE_STATUS_LAST_TRANS 0 n) :=
    (h.set (by decide) (by decide)).set (by decide) (by decide)
  unfold State.enter
  exact hset.withParts.raise

/-! ## Stops -/

theorem Lasts.toLevel (h : Lasts b s) {n : Fin 32} {l : Level} : Lasts b (s.toLevel n l) := by
  unfold State.toLevel State.toLevelAt State.setLevel
  refine .ite h (.set (f := F.PWM_STATUS_LEVEL) ?_ (by decide) n.isLt)
  exact h.modPh fun _ hp => hp
theorem Lasts.leftStart (h : Lasts b s) {r : Fin 8} : Lasts b (s.leftStart r) := h.modFr
theorem Lasts.setRail (h : Lasts b s) {r : Fin 8} {st : RailState} : Lasts b (s.setRail r st) := by
  have hrest : ∀ {x : State} {w : Sw}, Lasts b x →
      Lasts b ((x.phasesOf r).foldl (fun s n => if (s.ph n).sw == .stopped then s else s.setSw n w) x) := fun hx =>
    hx.foldl fun y n hy => by
      split
      next => exact hy
      next hn => exact hy.setSw hn
  unfold State.setRail
  extract_lets taken started rested quiet
  have htaken : Lasts b taken := h.modRail
  have hstarted : Lasts b started := .ite htaken.leftStart htaken
  have hrested : Lasts b rested := .ite (hrest hstarted) (.ite (hrest hstarted) hstarted)
  have hlow : Lasts b ((rested.clear F.RP_STATUS_PGOOD_ST r).clear F.RP_STATUS_UV_RD r) :=
    (hrested.set (by decide) r.isLt).set (by decide) r.isLt
  have hquiet : Lasts b quiet := .ite hrested hlow.modFr
  exact .ite hquiet hquiet.modFr
theorem Lasts.setSen (h : Lasts b s) {r : Fin 8} {on : Bool} : Lasts b (s.setSen r on) :=
  h.set (f := F.SEN_CFG_SEN_STATE) (by decide) r.isLt
theorem Lasts.railRest (h : Lasts b s) {r : Fin 8} {st : RailState} : Lasts b (s.railRest r st) := by
  unfold State.railRest
  exact h.setRail.setSen.modEng.modFr
theorem Lasts.railOff (h : Lasts b s) {r : Fin 8} : Lasts b (s.railOff r) :=
  Lasts.modEng ((h.railRest.set (f := F.RP_STATUS_SNS_AUX) (by decide) r.isLt).set (f := F.RP_STATUS_SNS_CAUSE) (by decide) r.isLt)
theorem Lasts.endLs (h : Lasts b s) {r : Fin 8} : Lasts b (s.endLs r) := by
  unfold State.endLs
  extract_lets f told ended undriven
  have htold : Lasts b told := h.when fun _ hx => hx.logF
  have hundriven : Lasts b undriven := htold.modFr.foldl fun _ _ hx => hx.modPh fun _ hp => hp
  exact (((hundriven.set (by decide) r.isLt).set (by decide) r.isLt).set (by decide) r.isLt).set (by decide) r.isLt
theorem Lasts.fastStop (h : Lasts b s) {r : Fin 8} : Lasts b (s.fastStop r) := by
  have htri : Lasts b ((s.endLs r).triRail r) := h.endLs.foldl fun _ _ hx => hx.toLevel
  exact htri.setSen.modFr.set (f := F.PHC_STATUS_DE_ACT) (by decide) r.isLt
theorem Lasts.latchNow (h : Lasts b s) {r : Fin 8} {cause : Nat} : Lasts b (s.latchNow r cause) :=
  .logF (h.railRest.set (f := F.RP_STATUS_LATCH_CAUSE) (by decide) r.isLt)
theorem Lasts.softStop (h : Lasts b s) {r : Fin 8} {k : StopKind} {cause : Nat} : Lasts b (s.softStop r k cause) := by
  have hramp : Lasts b ((s.setRail r .rampdown).clear F.PHC_STATUS_DE_ACT r) := h.setRail.set (by decide) r.isLt
  unfold State.softStop
  split
  · exact hramp.modEng.modFr
  · exact hramp.modEng.modFr
  · exact hramp.modEng.modFr
  · exact hramp.modEng.modFr
  · exact h.modFr
  · exact h
theorem Lasts.disarm (h : Lasts b s) {r : Fin 8} : Lasts b (s.disarm r) := by
  unfold State.disarm
  split
  · exact h.railOff
  · exact h.railOff
  · exact h
theorem Lasts.enterSafestop (h : Lasts b s) {n : Nat} : Lasts b (s.enterSafestop n) := by
  have hheld : Lasts b (s.mark F.FAULT_HOLD_FAULT_HOLD) := h.set (by decide) (by decide)
  unfold State.enterSafestop
  exact .enter (hheld.onRails fun _ _ hx => hx.disarm)
theorem Lasts.dlStop (h : Lasts b s) {cause : Nat} : Lasts b (s.dlStop cause) := by
  refine h.onRails fun x r hx => .ite hx.softStop ?_
  have hoff : Lasts b ((x.fastStop r).railOff r) := hx.fastStop.railOff
  cases x.st r with
  | off => exact hx
  | latched => exact hx
  | _ => exact hoff
theorem Lasts.refuse (h : Lasts b s) {res rail : Nat} : Lasts b (s.refuse res rail) := by
  have hcounted : Lasts b ((s.set F.CT_STATUS_ADOPT_RES 0 res).inc F.CT_COUNT_ADOPT_REF) :=
    (h.set (by decide) (by decide)).set (f := F.CT_COUNT_ADOPT_REF) (by decide) (by decide)
  exact .ite h (.onRails hcounted.withParts.logF fun _ _ hx => .ite hx.softStop.modFr hx)
theorem Lasts.deviceLatch (h : Lasts b s) {cause : Nat} : Lasts b (s.deviceLatch cause) := by
  unfold State.deviceLatch
  extract_lets held told
  have hheld : Lasts b held := (h.set (f := F.PROT_STATUS_DL_CAUSE) (by decide) (by decide)).set (f := F.FAULT_HOLD_FAULT_HOLD) (by decide) (by decide)
  have htold : Lasts b told := hheld.raise
  clear_value told
  refine .ite h ?_
  split
  · exact htold
  · exact htold
  · exact htold.enterSafestop
  · exact htold.dlStop
  · exact htold.dlStop.withParts.refuse
  · exact htold.dlStop.enterSafestop
theorem Lasts.railLatch (h : Lasts b s) {r : Fin 8} {cause : Nat} {fast : Bool} : Lasts b (s.railLatch r cause fast) :=
  (Lasts.ite h.fastStop.latchNow h.softStop).when fun _ hx => hx.deviceLatch
theorem Lasts.checkMinLive (h : Lasts b s) {r : Fin 8} : Lasts b (s.checkMinLive r) := .ite h.logF.railLatch h

/-! ## Hints and the pack -/

theorem Lasts.putHints (h : Lasts b s) {r : Fin 8} {l : List Hint} : Lasts b (s.putHints r l) :=
  h.modRail.set (f := F.TN_STAT_N_SCHED) (by decide) r.isLt
theorem Lasts.putF (h : Lasts b s) {r : Fin 8} : Lasts b (s.putF r) := by
  unfold State.putF
  extract_lets raw f stored
  have hstored : Lasts b stored := (h.set (f := F.TN_STAT_F) (by decide) r.isLt).modEng
  exact .ite h (.ite (hstored.set (f := F.TN_STAT_FF_CAP_S) (by decide) r.isLt) hstored)
theorem Lasts.putCtx (h : Lasts b s) {x : Nat} {c : Ctx} : Lasts b (s.putCtx x c) := h.withParts
theorem Lasts.ctxCheck (h : Lasts b s) {x : Nat} : Lasts b (s.ctxCheck x) :=
  .ite h (.logC (h.putCtx.onRails fun _ _ hx => .ite hx.putHints.putF hx))
theorem Lasts.freeSlot (h : Lasts b s) {hint : Hint} : Lasts b (s.freeSlot hint) := h.ctxCheck.putCtx
theorem Lasts.retire (h : Lasts b s) {r : Fin 8} {p : Hint → Bool} : Lasts b (s.retire r p) := .putHints (h.foldl fun _ _ hx => hx.freeSlot)
theorem Lasts.discard (h : Lasts b s) {r : Fin 8} {cause : Nat} : Lasts b (s.discard r cause) :=
  .ite h (.logC (.noteRail (h.retire.putF.set (f := F.TN_STAT_DISCARD_S) (by decide) r.isLt)))
theorem Lasts.setChg (h : Lasts b s) {k : Nat} : Lasts b (s.setChg k) := h.modPk.set (f := F.PK_STATE_CHG_ST) (by decide) (by decide)
theorem Lasts.testAbort (h : Lasts b s) : Lasts b s.testAbort :=
  .ite h (.logC (.when (.withParts (h.set (f := F.PK_STATE_TEST_ACT) (by decide) (by decide)).modPk) fun _ hx => hx.setChg))
theorem Lasts.setGate (h : Lasts b s) {on : Bool} : Lasts b (s.setGate on) := h.modPk.set (f := F.PK_STATE_HU_ON) (by decide) (by decide)

/-! ## The rounds -/

theorem Lasts.stopRound (h : Lasts b s) : Lasts b s.stopRound := by
  unfold State.stopRound
  extract_lets inSet mask pow masked last
  have hmasked : Lasts b masked := h.withParts
  clear_value masked last
  cases last with
  | some q => exact .ite hmasked hmasked.softStop
  | none => exact hmasked
theorem Lasts.cjRound (h : Lasts b s) {s0 : State} : Lasts b (State.cjRound s0 s) := by
  unfold State.cjRound
  split
  · exact h
  · exact (Lasts.ite h.railLatch h).withParts
theorem Lasts.chargerRound (h : Lasts b s) : Lasts b s.chargerRound := by
  unfold State.chargerRound
  extract_lets aborted c
  have ha : Lasts b aborted := h.when fun _ hx => hx.testAbort
  exact .ite h (.ite ha (.ite (ha.when fun _ hx => hx.setChg) (.ite (ha.when fun _ hx => hx.setChg) (.ite ha.setChg (.ite ha.setChg ha)))))
theorem Lasts.packRound (h : Lasts b s) : Lasts b s.packRound := .ite h.chargerRound.setGate h.chargerRound
theorem Lasts.arm (h : Lasts b s) {r : Fin 8} : Lasts b (s.arm r) := by
  unfold State.arm
  exact h.setRail.setSen.modFr
theorem Lasts.armRound (h : Lasts b s) : Lasts b s.armRound := h.onRails fun _ _ hx => .ite hx.arm hx
theorem Lasts.precheckRound (h : Lasts b s) : Lasts b s.precheckRound := .ite (.ite h.enter h.enter) h
theorem Lasts.shedRound (h : Lasts b s) : Lasts b s.shedRound := h.onRails fun _ _ hx => .ite hx.modRail hx
theorem Lasts.modeRound (h : Lasts b s) : Lasts b s.modeRound := by
  unfold State.modeRound
  split
  · exact .ite h h.enter
  · exact .ite h h.enter
  · exact .ite h h.enter
  · exact .ite h h.enter
  · exact h
theorem Lasts.hintRound (h : Lasts b s) : Lasts b s.hintRound :=
  h.onRails fun _ _ hx => .ite hx (.ite hx.discard (.ite hx.discard (.ite hx.discard hx)))
theorem Lasts.clampRound (h : Lasts b s) : Lasts b s.clampRound := h.onRails fun _ _ hx => .ite hx.putF hx
theorem Lasts.wasRound (h : Lasts b s) {s0 : State} : Lasts b (State.wasRound s0 s) := h.onRails fun _ _ hx => .ite hx hx.modFr
theorem Lasts.pmbRail (h : Lasts b s) {s0 : State} {r : Fin 8} : Lasts b (State.pmbRail s0 s r) :=
  .ite h ((((((h.pmbBits (by decide)).pmbBits (by decide)).pmbBits (by decide)).pmbBits (by decide)).pmbBits (by decide)).pmbBits (by decide))
theorem Lasts.pmbRound (h : Lasts b s) {s0 : State} : Lasts b (State.pmbRound s0 s) :=
  .ite h (.withParts (.when (h.onRails fun _ _ hx => hx.pmbRail) fun _ hx => hx.pmbBits (by decide)))
theorem Lasts.mirrorRound (h : Lasts b s) {s0 : State} : Lasts b (State.mirrorRound s0 s) := .ite h.withParts h
theorem Lasts.noteRound (h : Lasts b s) {s0 : State} : Lasts b (State.noteRound s0 s) :=
  .ite h (.onRails (h.when fun _ hx => hx.noteAll) fun _ _ hx => .when (by
    split
    · exact hx.noteRail
    · exact hx) fun _ hy => hy.noteRail)
theorem Lasts.creditRound (h : Lasts b s) : Lasts b s.creditRound :=
  .ite h (h.foldl fun _ p hx => .ite hx (hx.set (f := F.AL_STATUS_CRED) (by decide) p.isLt).modPort)

theorem settle_lasts (s0 : State) (hc : s.Calm) : Lasts s (settle s0 s) := by
  have hframed : Framed s (State.cjRound s0 s.stopRound).packRound :=
    State.packRound_framed (State.cjRound_framed _ (State.stopRound_framed (.refl s)))
  have hpack : Lasts s (State.cjRound s0 s.stopRound).packRound := (Lasts.refl s).stopRound.cjRound.packRound
  unfold settle
  generalize (State.cjRound s0 s.stopRound).packRound = x at hframed hpack
  have hclr : x.clrRound = x := by unfold State.clrRound; rw [hframed.calm.trans hc]; rfl
  rw [hclr]
  exact hpack.armRound.precheckRound.shedRound.modeRound.hintRound.clampRound.wasRound.pmbRound.mirrorRound.noteRound.creditRound

/-- What follows an effect, the frame of the end of an update and what outlasts it. -/
structure Follows (b s : State) : Prop where
  framed : Framed b s
  lasts : Lasts b s

theorem Follows.refl (s : State) : Follows s s := ⟨.refl s, .refl s⟩
theorem Follows.trans {a : State} (h : Follows a b) (g : Follows b s) : Follows a s := ⟨h.framed.trans g.framed, h.lasts.trans g.lasts⟩
theorem Follows.ite {c : Prop} {d : Decidable c} {x y : State} (hx : Follows b x) (hy : Follows b y) : Follows b (@ite _ c d x y) := by
  split <;> assumption
theorem Follows.checkMinLive (h : Follows b s) {r : Fin 8} : Follows b (s.checkMinLive r) :=
  h.trans ⟨.ite (State.railLatch_framed _ _ _ (State.logF_only s _ _ rfl)) (.refl s), (Lasts.refl s).checkMinLive⟩
theorem Follows.noteRail (h : Follows b s) {r : Fin 8} {kind word : Nat} : Follows b (s.noteRail r kind word) :=
  ⟨State.noteRail_framed _ _ _ h.framed, h.lasts.noteRail⟩
theorem Follows.failAlert (h : Follows b s) {r : Fin 8} : Follows b (s.failAlert r) :=
  ⟨h.framed.pmbBits _ (touch (by decide) r.isLt), h.lasts.pmbBits (by decide)⟩

/-- A command that runs an effect, read from a state of the effect that stops and notices alone follow. -/
theorem Follows.run {i : Instr} {t : Nat} {f : State → State} {x : State} {P : State → Prop} (h : Follows x (f (s.at t)))
    (hi : exec i s = run t f s) (hc : x.Calm) (hP : ∀ u, Follows x u → P u) : Gives i s P := by
  have hcalm : (f (s.at t)).Calm := h.framed.calm.trans hc
  refine run_gives hi rfl hcalm fun u hu hf => hP u (h.trans ⟨hf, ?_⟩)
  have hlasts := settle_lasts (s.at t) hcalm
  obtain rfl := Host.Outcome.next.inj hu
  generalize settle (s.at t) (f (s.at t)) = y at hlasts
  exact hlasts.withParts

end Sys2Proof.Machine
end


section
/-!
One phase as the operations on it and on others leave it: its parts that a reading gives and its registers of a list (`Leaves`); with it
the mean of a period (R159).
-/
namespace Sys2Proof.Machine

/-- A register field is apart from the instances of every field of a list that the phases have. -/
def Fld.apart (f : Fld) (fs : List Fld) : Bool := fs.all fun e => allPhases.all fun m => f.off (e.key m)

/-- The power sequencer is as it was, and so are phase `n`, as far as `g` reads it, and its registers of the list `fs`. -/
structure Leaves {α : Type} (g : Phase → α) (fs : List Fld) (n : Fin 32) (b s : State) : Prop where
  pow : s.pow = b.pow
  phase : g (s.ph n) = g (b.ph n)
  regs : ∀ f ∈ fs, s.get f n = b.get f n

variable {α : Type} {g : Phase → α} {fs : List Fld} {n : Fin 32} {b s : State}

theorem Leaves.refl (s : State) : Leaves g fs n s s := ⟨rfl, rfl, fun _ _ => rfl⟩
theorem Leaves.flag (h : Leaves g fs n b s) {f : Fld} (hf : f ∈ fs) : s.flag f n = b.flag f n := by
  unfold State.flag
  rw [h.regs f hf]
theorem Leaves.getI (h : Leaves g fs n b s) {f : Fld} (hf : f ∈ fs) : s.getI f n = b.getI f n := by
  unfold State.getI
  rw [h.regs f hf]

/-! ## The operations -/

/-- Sequencer, phases and registers are as they were. -/
theorem Leaves.sameParts (h : Leaves g fs n b s) {x : State} (hpow : x.pow = s.pow) (hph : x.phases = s.phases) (hregs : x.regs = s.regs) :
    Leaves g fs n b x := by
  refine ⟨hpow.trans h.pow, ?_, fun f hf => ?_⟩
  · rw [← h.phase]
    unfold State.ph
    rw [hph]
  · rw [← h.regs f hf]
    unfold State.get
    rw [hregs]
theorem Leaves.set (h : Leaves g fs n b s) {f : Fld} {i v : Nat} (hf : f.apart fs = true) (hi : i < f.count) : Leaves g fs n b (s.set f i v) := by
  refine ⟨h.pow, h.phase, fun e he => ?_⟩
  have hoff : f.off (e.key n) = true := by
    have hall := List.all_eq_true.1 (List.all_eq_true.1 hf e he)
    exact hall n (List.mem_finRange n)
  rw [State.get_set_of_ne _ _ _ _ _ _ (Fld.key_ne hoff hi)]
  exact h.regs e he
/-- The phase changes in other parts than those read. -/
theorem Leaves.modPh (h : Leaves g fs n b s) {m : Fin 32} {f : Phase → Phase} (hf : ∀ p, g (f p) = g p) : Leaves g fs n b (s.modPh m f) := by
  refine ⟨h.pow, ?_, h.regs⟩
  rw [← h.phase]
  by_cases hm : n = m
  · subst hm
    rw [State.ph_modPh_self, hf]
  · rw [State.ph_modPh_of_ne _ _ _ _ hm]
/-- Another phase changes. -/
theorem Leaves.modOther (h : Leaves g fs n b s) {m : Fin 32} {f : Phase → Phase} (hm : n ≠ m) : Leaves g fs n b (s.modPh m f) :=
  ⟨h.pow, (congrArg g (State.ph_modPh_of_ne _ _ _ _ hm)).trans h.phase, h.regs⟩
theorem Leaves.modFr (h : Leaves g fs n b s) {r : Fin 8} {f : Front → Front} : Leaves g fs n b (s.modFr r f) := ⟨h.pow, h.phase, h.regs⟩
theorem Leaves.journalChanged (h : Leaves g fs n b s) {k : Nat} : Leaves g fs n b (s.journalChanged k) := ⟨h.pow, h.phase, h.regs⟩
theorem Leaves.ite {c : Prop} {d : Decidable c} {x y : State} (hx : Leaves g fs n b x) (hy : Leaves g fs n b y) :
    Leaves g fs n b (@ite _ c d x y) := by
  split <;> assumption
theorem Leaves.when (h : Leaves g fs n b s) {c : Bool} {f : State → State} (hf : ∀ x, Leaves g fs n b x → Leaves g fs n b (f x)) :
    Leaves g fs n b (s.when c f) := .ite (hf _ h) h
/-- An event whose record sets no status bit. -/
theorem Leaves.logF (h : Leaves g fs n b s) {code unit : Nat} {items : List (Nat × Int)} {react : React} (hc : statusCodes.contains code = false) :
    Leaves g fs n b (s.logF code unit items react) :=
  h.sameParts (State.raise_pow ..) (State.raise_phases ..) (State.raise_regs _ _ _ _ _ hc)

/-! ## The mean of a period (R159) -/

/-- The samples of a phase's present period: their sum and their number. -/
def Phase.samples (p : Phase) : Int × Nat := (p.smpSum, p.smpN)
/-- Phase `n` keeps its samples and its cycle-average current. -/
abbrev Sampling (n : Fin 32) : State → State → Prop := Leaves Phase.samples [F.PH_CUR_I_AVG] n

section sampling
variable {m : Fin 32}

theorem Leaves.toLevelAt (h : Sampling n b s) {l : Level} {tk : Nat} : Sampling n b (s.toLevelAt m l tk) := by
  unfold State.toLevelAt State.setLevel
  refine .ite h (.set (f := F.PWM_STATUS_LEVEL) ?_ (by decide) m.isLt)
  exact h.modPh fun _ => rfl
theorem Leaves.cutAt (h : Sampling n b s) {src tk : Nat} : Sampling n b (s.cutAt m src tk) := by
  unfold State.cutAt
  extract_lets marked counted noted regulated
  have hmarked : Sampling n b marked :=
    (h.set (f := F.PWM_STICKY_CUT_S) (by decide) m.isLt).set (f := F.PWM_STATUS_CUT_SRC) (by decide) m.isLt
  have hcounted : Sampling n b counted := hmarked.when fun _ hx => hx.set (f := F.PWM_STATUS_CUT_CNT) (by decide) m.isLt
  have hnoted : Sampling n b noted := hcounted.modPh fun _ => rfl
  exact .ite (.logF hnoted.modFr.toLevelAt (by decide)) h
theorem Leaves.lookStep (h : Sampling n b s) {tk : Nat} : Sampling n b (s.lookStep m tk) := by
  have hseen : Sampling n b (s.modPh m (fun p => { p with seenAt := tk })) := h.modPh fun _ => rfl
  exact .toLevelAt (.ite hseen.cutAt hseen)
theorem Leaves.lookN (k : Nat) (h : Sampling n b s) : Sampling n b (s.lookN m k) := by
  induction k generalizing s with
  | zero => exact h
  | succ k ih =>
    unfold State.lookN
    split
    · exact h
    · exact ih h.lookStep
theorem Leaves.look (h : Sampling n b s) : Sampling n b (s.look m) := (h.lookN 12).modPh fun _ => rfl
theorem Leaves.observe (h : Sampling n b s) : Sampling n b (s.observe m) := by
  unfold State.observe
  extract_lets r p pred meas res win cnt health compared
  have hcompared : Sampling n b compared := h.modPh fun _ => rfl
  refine .ite (.ite ?_ hcompared) (h.modPh fun _ => rfl)
  exact .logF (hcompared.set (f := F.PH_STICKY_WATCH_S) (by decide) m.isLt) (by decide)
theorem Leaves.windowCount (h : Sampling n b s) : Sampling n b (s.windowCount m) :=
  .ite h (.ite (h.set (f := F.PH_PROT_PHW_CNT) (by decide) m.isLt) (h.set (by decide) m.isLt))
theorem Leaves.fullCount (h : Sampling n b s) : Sampling n b (s.fullCount m) :=
  .ite (h.set (f := F.PWM_STATUS_FULL_CNT) (by decide) m.isLt) (h.set (by decide) m.isLt)
end sampling

/-- A period end takes the mean of the samples that stood, and nothing after it changes what the mean leaves. -/
theorem State.periodEnd_averages (ha : s.flag F.PH_STATE_ASSIGNED n = true) (hm : s.mode ≠ .dormant)
    (hend : (s.ph n).sw.switching = false ∨ (s.ph n).ended = false ∧ s.passed n = true) :
    ∃ x, Sampling n s x ∧ Sampling n (x.cycleAverage n) (s.periodEnd n) := by
  have hm' : (s.mode == .dormant) = false := beq_eq_false_iff_ne.mpr hm
  by_cases hsw : (s.ph n).sw.switching = true
  · obtain ⟨hnot, hpassed⟩ := hend.resolve_left (by simp [hsw])
    have hrun : s.periodEnd n = (s.look n).switchedEnd n := by simp [State.periodEnd, ha, hm', hsw, hnot, hpassed]
    refine ⟨s.look n, (Leaves.refl s).look, ?_⟩
    rw [hrun]
    unfold State.switchedEnd
    extract_lets observed p counted full
    have hobserved : Sampling n ((s.look n).cycleAverage n) observed := (Leaves.refl _).observe.windowCount
    have hcounted : Sampling n ((s.look n).cycleAverage n) counted :=
      .ite (hobserved.set (f := F.PWM_STATUS_CUT_CNT) (by decide) n.isLt) hobserved
    exact (hcounted.fullCount.set (f := F.PWM_TON_TON) (by decide) n.isLt).modPh fun _ => rfl
  · have hrun : s.periodEnd n = s.cycleAverage n := by simp [State.periodEnd, ha, hm', hsw]
    exact ⟨s, .refl s, hrun ▸ .refl _⟩

/-- The mean leaves no sample, and the power sequencer as it was. -/
theorem State.cycleAverage_parts (s : State) (n : Fin 32) :
    (s.cycleAverage n).pow = s.pow ∧ ((s.cycleAverage n).ph n).smpSum = 0 ∧ ((s.cycleAverage n).ph n).smpN = 0 := by
  unfold State.cycleAverage
  rw [State.ph_modPh_self]
  refine ⟨?_, rfl, rfl⟩
  dsimp only
  split <;> rfl

/-- A value in the range of a 12-bit field is read back. -/
theorem toS_ofS_satS (x : Int) : toS 12 (ofS 12 (satS 12 x) % 2 ^ 12) = satS 12 x := by
  have hrange : -2048 ≤ satS 12 x ∧ satS 12 x ≤ 2047 := by
    unfold satS satI
    omega
  generalize satS 12 x = v at hrange
  unfold toS ofS
  dsimp only
  split <;> omega

theorem State.cycleAverage_mean (h : 2 ≤ (s.ph n).smpN) :
    (s.cycleAverage n).getI F.PH_CUR_I_AVG n = satS 12 ((s.ph n).smpSum / (s.ph n).smpN) := by
  have hset : (s.cycleAverage n).get F.PH_CUR_I_AVG n = ofS 12 (satS 12 ((s.ph n).smpSum / (s.ph n).smpN)) % 2 ^ 12 := by
    unfold State.cycleAverage
    simp only [h, if_true]
    exact State.get_set_self ..
  unfold State.getI
  rw [hset]
  exact toS_ofS_satS _
theorem State.cycleAverage_few (h : (s.ph n).smpN < 2) : (s.cycleAverage n).getI F.PH_CUR_I_AVG n = s.getI F.PH_CUR_I_AVG n := by
  unfold State.cycleAverage
  simp only [Nat.not_le.mpr h, if_false]
  rfl

end Sys2Proof.Machine
end


section
/-!
How a phase stands (`Standing`): its stop (R164, R169), its failure (R164), and that neither touches how another phase stands.
-/
namespace Sys2Proof.Machine

variable {s b : State} {n m : Fin 32} {r : Fin 8} {i : Instr} {t : Nat} {P : State → Prop} {fs : List Fld}

/-- What a failure says of a phase: where it is, its health, the cause, and whether its ball goes to tri-state. -/
def Phase.standing (p : Phase) : Sw × Health × Nat × Bool := (p.sw, p.health, p.failCause, p.triPend)
/-- The register fields of a phase that a failure or a stop reads or leaves a mark in. -/
def standingFields : List Fld :=
  [F.PH_STATE_ASSIGNED, F.PH_STATE_PAIRED, F.PH_STATE_FAIL_CNT, F.PH_STICKY_FAILED_S, F.PH_STICKY_SENSE_RANGE, F.PH_PROT_PHW_STOP,
   F.PWM_STATUS_LEVEL]
/-- Phase `n` stands as it did. -/
abbrev Standing (n : Fin 32) : State → State → Prop := Leaves Phase.standing standingFields n

theorem Leaves.sw (h : Leaves Phase.standing fs n b s) : (s.ph n).sw = (b.ph n).sw := congrArg (·.1) h.phase
theorem Leaves.health (h : Leaves Phase.standing fs n b s) : (s.ph n).health = (b.ph n).health := congrArg (·.2.1) h.phase
theorem Leaves.failCause (h : Leaves Phase.standing fs n b s) : (s.ph n).failCause = (b.ph n).failCause := congrArg (·.2.2.1) h.phase
theorem Leaves.triPend (h : Leaves Phase.standing fs n b s) : (s.ph n).triPend = (b.ph n).triPend := congrArg (·.2.2.2) h.phase
theorem Leaves.level (h : Leaves Phase.standing fs n b s) (hf : F.PWM_STATUS_LEVEL ∈ fs) : s.level n = b.level n := by
  unfold State.level
  rw [h.regs _ hf]

/-- A placing moves offsets alone (R173). -/
theorem Leaves.place (h : Standing n b s) : Standing n b (s.place r) := by
  unfold State.place
  extract_lets sw k
  refine List.foldlRecOn (motive := fun x : State × Nat => Standing n b x.1) sw _ h fun x hx m _ => ?_
  have hset : Standing n b (x.1.set F.PH_PLACE_OFFSET m (x.2 * x.1.period m / k)) := hx.set (by decide) m.isLt
  dsimp only
  refine hset.when fun y hy => ?_
  exact hy.modPh fun _ => rfl

/-- The phase alone as it stops. -/
def State.halted (s : State) (n : Fin 32) : State := (s.triNext n).setSw n .stopped
theorem State.halted_ph (s : State) (n : Fin 32) : (s.halted n).ph n =
    { s.ph n with sw := .stopped, triPend := (s.ph n).triPend || ((s.ph n).sw.switching && s.level n != .tri) } := by
  unfold State.halted State.setSw State.triNext
  rw [State.ph_modPh_self, State.ph_modPh_self]
theorem State.stopPhase_standing (s : State) (n : Fin 32) : Standing n (s.halted n) (s.stopPhase n) := (Leaves.refl (s.halted n)).place
theorem Leaves.stopOther (h : Standing n b s) (hm : n ≠ m) : Standing n b (s.stopPhase m) := .place (.modOther (.modOther h hm) hm)

/-! ## A failure -/

/-- A phase that can fail: assigned, its health OK or WATCH. -/
structure State.CanFail (s : State) (n : Fin 32) : Prop where
  assigned : s.flag F.PH_STATE_ASSIGNED n = true
  health : (s.ph n).health = .ok ∨ (s.ph n).health = .watch
theorem State.CanFail.at (h : s.CanFail n) (t : Nat) : (s.at t).CanFail n := ⟨h.assigned, h.health⟩
theorem State.CanFail.of_leaves (h : b.CanFail n) (k : Leaves Phase.standing fs n b s) (hf : F.PH_STATE_ASSIGNED ∈ fs) : s.CanFail n :=
  ⟨(k.flag hf).trans h.assigned, k.health ▸ h.health⟩

/-- Phase `n` as its failure with a cause leaves it (R164). -/
structure Fails (n : Fin 32) (cause : Nat) (b s : State) : Prop where
  calm : s.pow.wantSafestopClr = b.pow.wantSafestopClr
  sw : (s.ph n).sw = .stopped
  health : (s.ph n).health = .failed
  failCause : (s.ph n).failCause = cause
  triPend : (s.ph n).triPend = ((b.ph n).triPend || ((b.ph n).sw.switching && b.level n != .tri))
  sticky : s.get F.PH_STICKY_FAILED_S n = 1
  count : s.get F.PH_STATE_FAIL_CNT n = min 255 (b.get F.PH_STATE_FAIL_CNT n + 1)
  range : s.get F.PH_STICKY_SENSE_RANGE n = b.get F.PH_STICKY_SENSE_RANGE n

theorem Fails.standing {cause : Nat} {x : State} (h : Fails n cause b s) (k : Standing n s x) : Fails n cause b x :=
  ⟨(congrArg _ k.pow).trans h.calm, k.sw.trans h.sw, k.health.trans h.health, k.failCause.trans h.failCause, k.triPend.trans h.triPend,
    (k.regs _ (by decide)).trans h.sticky, (k.regs _ (by decide)).trans h.count, (k.regs _ (by decide)).trans h.range⟩

/-- The mark and the count of a failure, without the record and what follows later. -/
def State.failMarked (s : State) (n : Fin 32) : State := (s.mark F.PH_STICKY_FAILED_S n).inc F.PH_STATE_FAIL_CNT n
/-- The phase is failed and stopped. -/
def State.failStopped (s : State) (n : Fin 32) (cause : Nat) : State :=
  (s.modPh n (fun q => { q with health := .failed, failCause := cause })).stopPhase n

theorem State.failMarked_count (s : State) (n : Fin 32) :
    (s.failMarked n).get F.PH_STATE_FAIL_CNT n = min 255 (s.get F.PH_STATE_FAIL_CNT n + 1) := by
  have hmarked : (s.mark F.PH_STICKY_FAILED_S n).get F.PH_STATE_FAIL_CNT n = s.get F.PH_STATE_FAIL_CNT n :=
    State.get_set_of_ne _ _ _ _ _ _ (Fld.key_ne (f := F.PH_STICKY_FAILED_S) (by revert n; decide) n.isLt)
  unfold State.failMarked State.inc
  rw [State.get_set_self, hmarked]
  have hwidth : F.PH_STATE_FAIL_CNT.width = 8 := rfl
  rw [hwidth]
  unfold incSat
  split <;> omega
theorem State.failMarked_sticky (s : State) (n : Fin 32) : (s.failMarked n).get F.PH_STICKY_FAILED_S n = 1 :=
  (State.get_set_of_ne _ _ _ _ _ _ (Fld.key_ne (f := F.PH_STATE_FAIL_CNT) (by revert n; decide) n.isLt)).trans (State.get_set_self ..)

/-- The mark and the count leave how the phase stands, and SENSE_RANGE. -/
theorem State.failMarked_leaves (s : State) (n : Fin 32) : Leaves Phase.standing [F.PH_STICKY_SENSE_RANGE] n s (s.failMarked n) :=
  .set (.set (f := F.PH_STICKY_FAILED_S) (.refl s) (by decide) n.isLt) (by decide) n.isLt

theorem State.failMarked_fails (s : State) (n : Fin 32) (cause : Nat) : Fails n cause s ((s.failStopped n cause).failMarked n) := by
  let failed := s.modPh n (fun q => { q with health := .failed, failCause := cause })
  have hst : Standing n (failed.halted n) (s.failStopped n cause) := failed.stopPhase_standing n
  have hph : (failed.halted n).ph n = { s.ph n with
      health := .failed, failCause := cause, sw := .stopped
      triPend := (s.ph n).triPend || ((s.ph n).sw.switching && s.level n != .tri) } := by
    rw [State.halted_ph, State.ph_modPh_self]
    rfl
  have hmarked := (s.failStopped n cause).failMarked_leaves n
  refine ⟨congrArg _ (hmarked.pow.trans hst.pow), ?_, ?_, ?_, ?_, State.failMarked_sticky .., ?_, ?_⟩
  · rw [hmarked.sw, hst.sw, hph]
  · rw [hmarked.health, hst.health, hph]
  · rw [hmarked.failCause, hst.failCause, hph]
  · rw [hmarked.triPend, hst.triPend, hph]
  · rw [State.failMarked_count, hst.regs _ (by decide)]
    rfl
  · rw [hmarked.regs _ (by decide), hst.regs _ (by decide)]
    rfl

/-- The failure of a phase alone. -/
theorem State.failOne_fails {cause : Nat} (h : s.CanFail n) : Fails n cause s (s.failOne n cause) := by
  have hcan : (!s.flag F.PH_STATE_ASSIGNED n || (s.ph n).health == .failed || (s.ph n).health == .retired) = false := by
    rcases h.health with hh | hh <;> rw [h.assigned, hh] <;> rfl
  have hfollows : Standing n ((s.failStopped n cause).failMarked n) (s.failOne n cause) := by
    unfold State.failOne
    simp only [hcan, Bool.false_eq_true, if_false]
    exact .logF (.modFr (.journalChanged (.refl _))) (by decide)
  exact (s.failMarked_fails n cause).standing hfollows

/-- Two instances of a field with a stride are kept under two keys. -/
theorem Fld.key_injective {f : Fld} (hf : 0 < f.stride) : Function.Injective f.key := fun i j h => by
  have hlin : ∀ i, f.key i = (f.stride * 32 + f.lostep) * i + (f.base * 32 + f.lo) := fun i => by
    unfold Fld.key Fld.addr Fld.pos
    ring
  rw [hlin, hlin] at h
  exact Nat.eq_of_mul_eq_mul_left (by omega) (Nat.add_right_cancel h)

/-- A register of another phase, of a field that is in the list or apart from it. -/
theorem Leaves.setOther (h : Standing n b s) {f : Fld} {v : Nat} (hm : n ≠ m) (hf : ∀ e ∈ standingFields, e = f ∨ f.apart [e] = true)
    (hs : 0 < f.stride) (hc : f.count = 32) : Standing n b (s.set f m v) := by
  refine ⟨h.pow, h.phase, fun e he => ?_⟩
  rcases hf e he with rfl | hoff
  · rw [State.get_set_of_ne _ _ _ _ _ _ fun hk => hm (Fin.ext (Fld.key_injective hs hk))]
    exact h.regs e he
  · have happart : Leaves Phase.standing [e] n s (s.set f m v) := (Leaves.refl s).set hoff (by omega)
    exact (happart.regs e List.mem_cons_self).trans (h.regs e he)

/-- The failure of another phase. -/
theorem Leaves.failOther (h : Standing n b s) {cause : Nat} (hm : n ≠ m) : Standing n b (s.failOne m cause) := by
  unfold State.failOne
  extract_lets p failed marked counted noted
  refine .ite h ?_
  have hfailed : Standing n b failed := h.modOther hm
  have hmarked : Standing n b marked := (hfailed.stopOther hm).setOther (f := F.PH_STICKY_FAILED_S) hm (by decide) (by decide) rfl
  have hcounted : Standing n b counted := (hmarked.setOther (f := F.PH_STATE_FAIL_CNT) hm (by decide) (by decide) rfl).journalChanged
  exact .logF hcounted.modFr (by decide)

end Sys2Proof.Machine
end


section
/-!
Failures with and without a partner (R164, R165), and the commands that take a sample, end a period and fail a phase (R157 to R165).
-/
namespace Sys2Proof.Machine

variable {s b : State} {n m : Fin 32} {r : Fin 8} {i : Instr} {t : Nat} {P : State → Prop} {fs : List Fld} {cause : Nat}

/-! ## What stops and notices leave of a phase -/

theorem Follows.health (h : Follows b s) (n : Fin 32) : (s.ph n).health = (b.ph n).health := by
  have := congrArg Phase.health (h.framed.ph n)
  exact this
theorem Follows.failCause (h : Follows b s) (n : Fin 32) : (s.ph n).failCause = (b.ph n).failCause := by
  have := congrArg Phase.failCause (h.framed.ph n)
  exact this
theorem Follows.triPend (h : Follows b s) (n : Fin 32) : (s.ph n).triPend = (b.ph n).triPend := by
  have := congrArg Phase.triPend (h.framed.ph n)
  exact this
/-- A field of the phases that the end of an update does not write. -/
theorem Framed.phGet (h : Framed b s) {f : Fld} (hf : ∀ n : Fin 32, settleKey (f.key n) = false) (n : Fin 32) : s.get f n = b.get f n :=
  h.get f n (hf n)
theorem Fails.follows {u : State} (h : Fails n cause b s) (k : Follows s u) : Fails n cause b u :=
  ⟨k.framed.calm.trans h.calm, k.lasts.stopped n h.sw, (k.health n).trans h.health, (k.failCause n).trans h.failCause,
    (k.triPend n).trans h.triPend, (k.framed.phGet (by decide) n).trans h.sticky, (k.framed.phGet (by decide) n).trans h.count,
    (k.framed.phGet (by decide) n).trans h.range⟩

/-! ## Failures, partners included -/

/-- A phase without a partner fails alone. -/
theorem State.failPhase_alone (h : s.partner n = none) : Follows (s.failOne n cause) (s.failPhase n cause) := by
  unfold State.failPhase
  simp only [h]
  exact .ite (Follows.refl _).checkMinLive (.refl _)

/-- The failure of a phase with its partner, in phase-number order (Table 6.3). -/
def State.failPair (s : State) (n m : Fin 32) (cause : Nat) : State :=
  if m < n then (s.failOne m 4).failOne n cause else (s.failOne n cause).failOne m 4
/-- A record of the phase with PAIR_FAIL_BOTH and a failure by the observer take the partner along. -/
theorem State.failPhase_pair (h : s.partner n = some m) (hboth : (s.ph n).pairFailBoth = true) (hcause : cause = 2 ∨ cause = 3) :
    Follows (s.failPair n m cause) (s.failPhase n cause) := by
  have hc : (cause == 2 || cause == 3) = true := by rcases hcause with rfl | rfl <;> rfl
  unfold State.failPhase
  simp only [h, hboth, hc, Bool.and_self, Bool.not_true, Bool.false_eq_true, if_false]
  exact .ite (Follows.refl _).checkMinLive (.refl _)
theorem State.failPair_fails (hc : s.Calm) (hm : m ≠ n) (hcn : s.CanFail n) (hcm : s.CanFail m) :
    (s.failPair n m cause).Calm ∧ ((s.failPair n m cause).ph n).health = .failed ∧ ((s.failPair n m cause).ph m).health = .failed ∧
      ((s.failPair n m cause).ph m).failCause = 4 ∧ ((s.failPair n m cause).ph m).sw = .stopped := by
  unfold State.failPair
  split
  · have hfirst := State.failOne_fails (cause := 4) hcm
    have hkept : Standing n s (s.failOne m 4) := (Leaves.refl s).failOther hm.symm
    have hsecond := State.failOne_fails (cause := cause) (hcn.of_leaves hkept (by decide))
    have hfails := hfirst.standing ((Leaves.refl _).failOther (cause := cause) hm)
    exact ⟨hsecond.calm.trans ((congrArg _ hkept.pow).trans hc), hsecond.health, hfails.health, hfails.failCause, hfails.sw⟩
  · have hfirst := State.failOne_fails (cause := cause) hcn
    have hkept : Standing m s (s.failOne n cause) := (Leaves.refl s).failOther hm
    have hsecond := State.failOne_fails (cause := 4) (hcm.of_leaves hkept (by decide))
    have hfails := hfirst.standing ((Leaves.refl _).failOther (cause := 4) hm.symm)
    exact ⟨hsecond.calm.trans ((congrArg _ hkept.pow).trans hc), hfails.health, hsecond.health, hsecond.failCause, hsecond.sw⟩

/-! ## The commands -/

theorem run_fails {f : State → State} {x : State} (hi : exec i s = run t f s) (hx : x.Calm) (hcan : x.CanFail n)
    (h : Follows (x.failOne n cause) (f (s.at t))) : Gives i s (Fails n cause x) :=
  have hfails := State.failOne_fails hcan
  Follows.run h hi (hfails.calm.trans hx) fun _ hu => hfails.follows hu

/-- One phase changes. -/
theorem Changes.modPh {f : Phase → Phase} : Changes [.phase n] [] s (s.modPh n f) := by
  refine ⟨?_, fun _ _ _ => rfl⟩
  unfold State.puts
  simp only [List.foldl_cons, List.foldl_nil, State.put, State.ph_modPh_self]
  rfl
/-- A phase with one more sample: its current and its code (R157, R160). -/
def Phase.sampled (current code : Int) (p : Phase) : Phase :=
  { p with smpSum := p.smpSum + current, smpN := p.smpN + 1, lastAdc := code
           satRun := if code == -2048 || code == 2047 then p.satRun + 1 else 0 }
theorem State.phaseSample_eq {a : Int} (ha : s.flag F.PH_STATE_ASSIGNED n = true) (hm : s.mode ≠ .dormant) (hlo : -2048 ≤ a)
    (hhi : a ≤ 2047) : s.phaseSample n a = s.modPh n (Phase.sampled (s.sampleI n a) a) := by
  have hsat : satS 12 a = a := by
    unfold satS satI
    omega
  unfold State.phaseSample
  rw [if_neg (by simp [ha, hm]), hsat]
  rfl
theorem State.sampleI_at (s : State) (t : Nat) (n : Fin 32) (a : Int) : (s.at t).sampleI n a = s.sampleI n a := rfl
theorem Framed.smpSum (h : Framed b s) (n : Fin 32) : (s.ph n).smpSum = (b.ph n).smpSum := by
  have := congrArg Phase.smpSum (h.ph n)
  exact this
theorem Framed.smpN (h : Framed b s) (n : Fin 32) : (s.ph n).smpN = (b.ph n).smpN := by
  have := congrArg Phase.smpN (h.ph n)
  exact this
theorem phaseCurrentSample_gives {a : Int} (hc : s.Calm) (ha : s.flag F.PH_STATE_ASSIGNED n = true) (hm : s.mode ≠ .dormant) (hlo : -2048 ≤ a)
    (hhi : a ≤ 2047) : Gives (.phaseCurrentSample t n a) s (fun u =>
      (u.ph n).smpSum = (s.ph n).smpSum + s.sampleI n a ∧ (u.ph n).smpN = (s.ph n).smpN + 1 ∧ Changes [.phase n] [] s u) := by
  have hrun : (s.at t).phaseSample n a = (s.at t).modPh n (Phase.sampled (s.sampleI n a) a) := by
    rw [State.phaseSample_eq (s := s.at t) ha hm hlo hhi, State.sampleI_at]
  refine run_gives (f := fun s => s.phaseSample n a) rfl hrun hc fun u _ hu => ⟨?_, ?_, (hu.changes Changes.modPh).of_at⟩
  · rw [hu.smpSum, State.ph_modPh_self]
    rfl
  · rw [hu.smpN, State.ph_modPh_self]
    rfl

/-- A period end leaves the mean of the samples, or the mean before where they are too few (R159). -/
theorem phasePeriodEnd_gives (hc : s.Calm) (ha : s.flag F.PH_STATE_ASSIGNED n = true) (hm : s.mode ≠ .dormant)
    (hend : (s.ph n).sw.switching = false ∨ (s.ph n).ended = false ∧ (s.at t).passed n = true) :
    Gives (.phasePeriodEnd t n) s (fun u => (u.ph n).smpSum = 0 ∧ (u.ph n).smpN = 0 ∧
      ∃ x, Sampling n (s.at t) x ∧ u.getI F.PH_CUR_I_AVG n = (x.cycleAverage n).getI F.PH_CUR_I_AVG n) := by
  obtain ⟨x, hx, hended⟩ := State.periodEnd_averages (s := s.at t) ha hm hend
  obtain ⟨hpow, hsum, hnum⟩ := x.cycleAverage_parts n
  have hcalm : ((s.at t).periodEnd n).Calm := by
    unfold State.Calm
    rw [hended.pow, hpow, hx.pow]
    exact hc
  refine run_gives (f := fun s => s.periodEnd n) rfl rfl hcalm fun u _ hu => ⟨?_, ?_, x, hx, ?_⟩
  · exact (hu.smpSum n).trans ((congrArg Prod.fst hended.phase).trans hsum)
  · exact (hu.smpN n).trans ((congrArg Prod.snd hended.phase).trans hnum)
  · rw [← hended.getI List.mem_cons_self]
    unfold State.getI
    rw [hu.phGet (by decide) n]

/-- The mark and the record of four samples at a limit (R160). -/
def State.sensed (s : State) (n : Fin 32) : State :=
  let s := s.mark F.PH_STICKY_SENSE_RANGE n
  s.logF 0x0609 n [(1, n.val), (2, (s.ph n).lastAdc)]
theorem State.sensed_range (s : State) (n : Fin 32) : (s.sensed n).get F.PH_STICKY_SENSE_RANGE n = 1 := by
  have hlog : Standing n (s.mark F.PH_STICKY_SENSE_RANGE n) (s.sensed n) := (Leaves.refl _).logF (by decide)
  rw [hlog.regs _ (by decide)]
  exact State.get_set_self ..
theorem State.sensed_leaves (s : State) (n : Fin 32) :
    Leaves Phase.standing (standingFields.erase F.PH_STICKY_SENSE_RANGE) n s (s.sensed n) :=
  .logF (.set (f := F.PH_STICKY_SENSE_RANGE) (.refl s) (by decide) n.isLt) (by decide)
theorem State.senseRange_eq (hcan : s.CanFail n) (hrun : 4 ≤ (s.ph n).satRun) : s.senseRange n = (s.sensed n).failPhase n 1 := by
  have hhealth : ((s.ph n).health == .ok || (s.ph n).health == .watch) = true := by
    rcases hcan.health with hh | hh <;> rw [hh] <;> rfl
  unfold State.senseRange
  exact if_pos (by rw [hcan.assigned, hhealth, decide_eq_true hrun]; rfl)
theorem State.partner_none (hp : s.flag F.PH_STATE_PAIRED n = false) : s.partner n = none := if_neg (by simp [hp])
/-- The phase fails from the state that the mark of SENSE_RANGE leaves. -/
theorem senseRange_gives (hc : s.Calm) (hcan : s.CanFail n) (hrun : 4 ≤ (s.ph n).satRun) (hp : s.flag F.PH_STATE_PAIRED n = false) :
    Gives (.senseRange t n) s (Fails n 1 ((s.at t).sensed n)) := by
  have hleaves := (s.at t).sensed_leaves n
  have halone : ((s.at t).sensed n).partner n = none := State.partner_none ((hleaves.flag (by decide)).trans hp)
  refine run_fails (f := fun s => s.senseRange n) rfl ((congrArg _ hleaves.pow).trans hc) ((hcan.at t).of_leaves hleaves (by decide)) ?_
  rw [State.senseRange_eq (hcan.at t) hrun]
  exact State.failPhase_alone halone

/-- OBS_CNT of a switching phase has reached OBS_N (R164). -/
structure State.ObserverFails (s : State) (n : Fin 32) : Prop where
  sw : (s.ph n).sw.switching = true
  on : s.get F.PHC_OBS_OBS_N (s.railOf n) ≠ 0
  count : s.get F.PHC_OBS_OBS_N (s.railOf n) ≤ (s.ph n).obsCnt
theorem State.ObserverFails.at (h : s.ObserverFails n) (t : Nat) : (s.at t).ObserverFails n := ⟨h.sw, h.on, h.count⟩
theorem State.ObserverFails.phaseFail (h : s.ObserverFails n) : s.phaseFail n = s.failPhase n (s.obsCause n) := by
  simp [State.phaseFail, h.sw, h.on, h.count]
theorem State.obsCause_cases (s : State) (n : Fin 32) : s.obsCause n = 2 ∨ s.obsCause n = 3 := by
  unfold State.obsCause
  dsimp only
  split
  · exact .inl rfl
  · exact .inr rfl

theorem Fails.of_at {u : State} (h : Fails n cause (s.at t) u) : Fails n cause s u :=
  ⟨h.calm, h.sw, h.health, h.failCause, h.triPend, h.sticky, h.count, h.range⟩
theorem phaseFail_gives (hc : s.Calm) (hcan : s.CanFail n) (hobs : s.ObserverFails n) (hp : s.flag F.PH_STATE_PAIRED n = false) :
    Gives (.phaseFail t n) s (Fails n (s.obsCause n) s) := by
  refine Gives.mono (P := Fails n (s.obsCause n) (s.at t)) ?_ fun u hu => hu.of_at
  refine run_fails (f := fun s => s.phaseFail n) rfl hc (hcan.at t) ?_
  rw [(hobs.at t).phaseFail]
  exact State.failPhase_alone (State.partner_none hp)
theorem phaseFail_pair_gives (hc : s.Calm) (hcan : s.CanFail n) (hobs : s.ObserverFails n) (hp : s.partner n = some m) (hm : m ≠ n)
    (hboth : (s.ph n).pairFailBoth = true) (hcm : s.CanFail m) : Gives (.phaseFail t n) s (fun u =>
      (u.ph n).health = .failed ∧ (u.ph m).health = .failed ∧ (u.ph m).failCause = 4 ∧ (u.ph m).sw = .stopped) := by
  have hpair : Follows ((s.at t).failPair n m (s.obsCause n)) ((s.at t).phaseFail n) := by
    rw [(hobs.at t).phaseFail]
    exact State.failPhase_pair hp hboth (s.obsCause_cases n)
  obtain ⟨hcalm, hn, hmf, hcause, hsw⟩ := State.failPair_fails (s := s.at t) (cause := s.obsCause n) hc hm (hcan.at t)
    (hcm.at t)
  exact Follows.run (f := fun s => s.phaseFail n) hpair rfl hcalm fun u hu =>
    ⟨(hu.health n).trans hn, (hu.health m).trans hmf, (hu.failCause m).trans hcause, hu.lasts.stopped m hsw⟩

end Sys2Proof.Machine
end


section
/-!
The follow-up of a failure (R166) and the stop of a phase by its average-current window (R295), then O26.
-/
namespace Sys2Proof.Machine

variable {s b : State} {n : Fin 32} {r : Fin 8} {t : Nat}

/-! ## The follow-up (R166) -/

/-- A failure of the rail waits for its follow-up, and phase `n` of the rail is failed. -/
structure State.FollowupDue (s : State) (n : Fin 32) : Prop where
  cdUp : s.pow.cdUp = true
  mode : s.mode ≠ .caretaker
  assigned : s.flag F.PH_STATE_ASSIGNED n = true
  health : (s.ph n).health = .failed
  pending : (s.fr (s.railOf n)).failPend = true

/-- FAIL_D of a rail, the ceiling notice and record 0x0603. -/
def State.failTold (s : State) (r : Fin 8) : State :=
  let s := s.modFr r (fun f => { f with failPend := false })
  let d := s.dEff r
  let s := s.modEng r (fun g => { g with failD := s.anyFailed r })
  let s := s.when (s.dEff r == d) (fun s => s.noteRail r 1 (s.ceiling r))
  s.logC 0x0603 r [(1, r.val), (1, (s.liveOf r).length), (2, s.ilimRail r)]
theorem State.FollowupDue.at (h : s.FollowupDue n) (t : Nat) : (s.at t).FollowupDue n := ⟨h.cdUp, h.mode, h.assigned, h.health, h.pending⟩
theorem State.FollowupDue.followup (h : s.FollowupDue n) :
    s.followup n = ((s.failTold (s.railOf n)).failAlert (s.railOf n)).checkMinLive (s.railOf n) := by
  have hm : (s.mode != .caretaker) = true := bne_iff_ne.mpr h.mode
  unfold State.followup
  exact if_pos (by rw [h.cdUp, hm, h.assigned, h.pending, h.health]; rfl)

theorem State.failTold_records (s : State) (r : Fin 8) : (s.failTold r).Records 0x0603 := State.logC_records _ _ _ (by decide)
theorem State.failTold_framed (s : State) (r : Fin 8) :
    Framed ((s.modFr r (fun f => { f with failPend := false })).modEng r (fun g => { g with failD := s.anyFailed r })) (s.failTold r) := by
  unfold State.failTold
  extract_lets waiting d counted told
  have htold : Framed counted told := (Framed.refl counted).when _ _ fun _ hx => State.noteRail_framed _ _ _ hx
  exact htold.trans (State.logC_only _ _ rfl)
theorem Framed.failD (h : Framed b s) (r : Fin 8) : (s.eng r).failD = (b.eng r).failD := by
  have := congrArg Engine.failD (h.eng r)
  exact this
theorem State.failTold_failD (s : State) (r : Fin 8) : ((s.failTold r).eng r).failD = s.anyFailed r := by
  rw [(s.failTold_framed r).failD]
  unfold State.eng
  rw [State.modEng_eq, State.rail_modRail_self]
theorem State.anyFailed_of (ha : s.flag F.PH_STATE_ASSIGNED n = true) (hh : (s.ph n).health = .failed) : s.anyFailed (s.railOf n) = true := by
  have hn : n ∈ s.phasesOf (s.railOf n) := List.mem_filter.mpr ⟨List.mem_finRange n, by simp [State.onRail, ha]⟩
  exact List.any_eq_true.mpr ⟨n, hn, by rw [hh]; rfl⟩

theorem State.failAlert_bit (s : State) (r : Fin 8) : ((s.failAlert r).get F.PMB_RSTAT2_STATUS_MFR r).testBit 7 = true := by
  unfold State.failAlert
  rw [State.pmbBits_eq, State.get_set_self, Nat.testBit_mod_two_pow, Nat.testBit_or]
  simp [F.PMB_RSTAT2_STATUS_MFR, Nat.testBit]

/-- What a follow-up leaves of a rail. -/
structure FollowedUp (r : Fin 8) (s : State) : Prop where
  failD : (s.eng r).failD = true
  records : s.Records 0x0603
  bit : (s.get F.PMB_RSTAT2_STATUS_MFR r).testBit 7 = true
theorem State.failAlert_followedUp (hfail : (s.eng r).failD = true) (hrec : s.Records 0x0603) : FollowedUp r (s.failAlert r) :=
  ⟨hfail, hrec, s.failAlert_bit r⟩
theorem State.failAlert_calm (h : s.Calm) (r : Fin 8) : (s.failAlert r).Calm := h
theorem State.FollowupDue.told (h : s.FollowupDue n) : FollowedUp (s.railOf n) ((s.failTold (s.railOf n)).failAlert (s.railOf n)) :=
  State.failAlert_followedUp ((s.failTold_failD _).trans (State.anyFailed_of h.assigned h.health)) (s.failTold_records _)
theorem FollowedUp.follows {u : State} (h : FollowedUp r s) (k : Follows s u) : FollowedUp r u :=
  ⟨(k.framed.failD r).trans h.failD, k.framed.records h.records, k.lasts.failed r h.bit⟩

theorem State.FollowupDue.follows (h : s.FollowupDue n) :
    Follows ((s.failTold (s.railOf n)).failAlert (s.railOf n)) (s.followup n) := by
  rw [h.followup]
  exact (Follows.refl _).checkMinLive
theorem failureFollowup_gives (hc : s.Calm) (h : s.FollowupDue n) : Gives (.failureFollowup t n) s (FollowedUp (s.railOf n)) := by
  have hcalm := State.failAlert_calm (((s.at t).failTold_framed ((s.at t).railOf n)).calm.trans hc) ((s.at t).railOf n)
  exact Follows.run (f := fun s => s.followup n) (h.at t).follows rfl hcalm fun u hu => (h.at t).told.follows hu

/-! ## The window stop (R295) -/

/-- The mark, the stop and the record of a window stop. -/
def State.windowStopped (s : State) (n : Fin 32) : State :=
  let s := (s.mark F.PH_PROT_PHW_STOP n).stopPhase n
  s.logF 0x0A02 n [(1, n.val), (2, s.getI F.PH_CUR_I_AVG n), (1, s.get F.PH_PROT_PHW_CNT n)]
theorem State.windowStop_follows (hsw : (s.ph n).sw.switching = true) (hon : s.get F.RP_MISC_PHW_N (s.railOf n) ≠ 0)
    (hcnt : s.get F.RP_MISC_PHW_N (s.railOf n) ≤ s.get F.PH_PROT_PHW_CNT n) : Follows (s.windowStopped n) (s.windowStop n) := by
  unfold State.windowStop
  rw [if_pos (by simp [hsw, hon, hcnt])]
  exact .ite (Follows.refl _).checkMinLive (Follows.refl _).noteRail.failAlert.checkMinLive
theorem State.windowStopped_standing (s : State) (n : Fin 32) :
    Standing n ((s.mark F.PH_PROT_PHW_STOP n).halted n) (s.windowStopped n) :=
  ((s.mark F.PH_PROT_PHW_STOP n).stopPhase_standing n).logF (by decide)

theorem phaseWindowStop_gives (hc : s.Calm) (hsw : (s.ph n).sw.switching = true) (hon : s.get F.RP_MISC_PHW_N (s.railOf n) ≠ 0)
    (hcnt : s.get F.RP_MISC_PHW_N (s.railOf n) ≤ s.get F.PH_PROT_PHW_CNT n) : Gives (.phaseWindowStop t n) s (fun u =>
      u.get F.PH_PROT_PHW_STOP n = 1 ∧ (u.ph n).sw = .stopped ∧ (u.ph n).health = (s.ph n).health) := by
  have hst := (s.at t).windowStopped_standing n
  have hph := ((s.at t).mark F.PH_PROT_PHW_STOP n).halted_ph n
  refine Follows.run (f := fun s => s.windowStop n) (State.windowStop_follows (s := s.at t) hsw hon hcnt) rfl
    ((congrArg _ hst.pow).trans hc) fun u hu => ⟨?_, hu.lasts.stopped n ?_, ?_⟩
  · rw [hu.framed.phGet (by decide), hst.regs _ (by decide)]
    exact State.get_set_self (s.at t) F.PH_PROT_PHW_STOP n 1
  · rw [hst.sw, hph]
  · rw [hu.health, hst.health, hph]
    rfl

end Sys2Proof.Machine

open Sys2Proof Sys2Proof.Machine

/-- Settles O26: a period end takes the mean of the samples that stood before its observer ran; a phase that fails or stops is
STOPPED, and no stop, notice or end of an update takes it out of STOPPED. -/
theorem phaseCurrents : Obligations.PhaseCurrents := by
  unfold Obligations.PhaseCurrents
  refine ⟨?_, ?_, ?_, ?_, ?_, ?_, ?_, ?_⟩
  · intro t s n a hc ha hm hlo hhi
    exact phaseCurrentSample_gives hc ha hm hlo hhi
  · intro t s n hc ha hm hend hmany
    refine (phasePeriodEnd_gives hc ha hm hend).mono ?_
    rintro u ⟨hsum, hnum, x, hx, hmean⟩
    obtain ⟨hxs, hxn⟩ := Prod.ext_iff.mp hx.phase
    have hxn' : (x.ph n).smpN = (s.ph n).smpN := hxn
    have hxs' : (x.ph n).smpSum = (s.ph n).smpSum := hxs
    refine ⟨?_, hsum, hnum⟩
    rw [hmean, State.cycleAverage_mean (by rw [hxn']; exact hmany), hxs', hxn']
  · intro t s n hc ha hm hend hfew
    refine (phasePeriodEnd_gives hc ha hm hend).mono ?_
    rintro u ⟨-, hnum, x, hx, hmean⟩
    have hxn : (x.ph n).smpN = (s.ph n).smpN := congrArg Prod.snd hx.phase
    refine ⟨?_, hnum⟩
    rw [hmean, State.cycleAverage_few (by rw [hxn]; exact hfew)]
    exact hx.getI List.mem_cons_self
  · intro t s n hs ha hrun hh hp
    have hleaves := (s.at t).sensed_leaves n
    refine (senseRange_gives hs.1 ⟨ha, hh⟩ hrun hp).mono fun u hu =>
      ⟨hu.range.trans (State.sensed_range ..), hu.failCause, hu.health, hu.sw, hu.sticky, ?_, ?_⟩
    · rw [hu.count, hleaves.regs _ (by decide)]
      rfl
    · rw [hu.triPend, hleaves.triPend, hleaves.sw, hleaves.level (by decide)]
      rfl
  · intro t s n hs ha hsw hon hcnt hh hp
    exact (phaseFail_gives hs.1 ⟨ha, hh⟩ ⟨hsw, hon, hcnt⟩ hp).mono fun u hu =>
      ⟨hu.failCause, hu.health, hu.sw, hu.sticky, hu.count, hu.triPend⟩
  · intro t s n m hs ha hsw hon hcnt hh hp hm hboth ham hhm
    exact phaseFail_pair_gives hs.1 ⟨ha, hh⟩ ⟨hsw, hon, hcnt⟩ hp hm hboth ⟨ham, .inl hhm⟩
  · intro t s n hs hup hm ha hh hpend
    exact (failureFollowup_gives hs.1 ⟨hup, hm, ha, hh, hpend⟩).mono fun u hu => ⟨hu.failD, hu.records, hu.bit⟩
  · intro t s n hs hsw hon hcnt
    exact phaseWindowStop_gives hs.1 hsw hon hcnt
end


section
/-!
O29 fails: the update in which a trip of the peak comparator comes, and cuts nothing, may also end ISLAND_MAX, which stops the rail.
-/
namespace Sys2Proof.Machine

/-- The leader of `islandNearEnd`, its rail in ordinary regulation with SEN high, and the ball of its one live phase LOW. -/
def islandWithLowBall : State := ((islandNearEnd.setLevel 0 .low).setSen 0 true).modFr 0 (fun f => { f with ls := .none })

/-- The output of its phase is LOW up to the end of ISLAND_MAX. -/
theorem islandWithLowBall_low : ((islandWithLowBall.at 5000000).look 0).level 0 = .low := by decide +kernel

end Sys2Proof.Machine
open Sys2Proof Sys2Proof.Machine

/-- Refutes O29: its clause of R210 keeps the ball of a phase that is not HIGH when its peak comparator trips, and asks only that no
SAFESTOP_CLR waits. The trip cuts nothing, but its update is also the one in which ISLAND_MAX ends: the leader latches the spanning rail
with a fast stop (R477), and the LOW ball goes to tri-state. -/
theorem not_cutsAndLatches : ¬ Obligations.CutsAndLatches := by
  unfold Obligations.CutsAndLatches
  rintro ⟨-, -, -, hNoCut, -⟩
  obtain ⟨u, hu, -, hkept, -⟩ := hNoCut 5000000 islandWithLowBall 0 (by decide +kernel) (by rw [islandWithLowBall_low]; decide)
  have hlow : u.level 0 = .low := hkept.trans islandWithLowBall_low
  have hstopped : (settle (islandWithLowBall.at 5000000) ((islandWithLowBall.at 5000000).cut 0 1)).level 0 = .tri := by
    decide +kernel
  rw [← run_level (f := (State.cut · 0 1)) hu, hlow] at hstopped
  cases hstopped
end


section
/-!
O31, O32 and O33: the three statements on set-points and the Aedat Link that the model does not meet. For each, a state, a command, and
the outcome that the model evaluates to.
-/
namespace Sys2Proof.Machine

/-- Rail 0 LATCHED, where a set-point command is refused, and the rate window of record 0x0801 open for it by a refusal before (R518). -/
def refusedInOpenWindow : State :=
  let s := at_SetPoints_2
  { s with rcd.wins := [⟨0x0801, 0, 0, s.stamp false 0x0801 0 [], s.now⟩] }

/-- Both ports are in use and serve rail 0. Port 0 holds one credit and no return is withheld; 39 TENSE notices wait on port 1, whose queue
holds 40 (R253). -/
def oneNoticeShortOfFull : State :=
  (at_AedatFrames_4.mark F.AL_CFG_PORT_EN 1).modPort 1 (fun q => { q with notes := List.replicate 39 ⟨5, 0, 0⟩ })

/-- A port in use whose context has spent its tokens at the instant at which TNOW started; each 2 µs give one back (R265). -/
def tokensSpent : State :=
  let s : State := { at_AedatLine_3 with ctx0 := 0x80000000, pow.tnow0 := 1000000000 }
  (s.set F.TN_RATE_TK_MAX 0 8).set F.TN_RATE_TK_REFILL 0 1

/-- The Control-die events on their way after a command are those that `settle` leaves. -/
theorem run_evq {t : Nat} {f : State → State} {s u : State} (h : run t f s = .next u) :
    u.rcd.evq = (settle (s.at t) (f (s.at t))).rcd.evq := by
  cases h
  generalize settle (s.at t) (f (s.at t)) = y
  rfl

/-- The answer byte of a port after a command is the one that its effect drove. -/
theorem run_ans {t : Nat} {f : State → State} {s u : State} (h : run t f s = .next u) (hc : (f (s.at t)).Calm) (p : Fin 2) :
    (u.port p).ans = ((f (s.at t)).port p).ans := by
  obtain ⟨v, hv, hframe, -, -⟩ := run_next t f s hc
  obtain rfl : v = u := Host.Outcome.next.inj (hv.symm.trans h)
  show (v.port p).rest.ans = ((f (s.at t)).port p).rest.ans
  rw [hframe.port p]

end Sys2Proof.Machine
open Sys2Proof Sys2Proof.Machine

/-- Refutes O31: its clause of a refused command asks for record 0x0801 in every state, but the record is rate-limited. A refusal while
the window of its rail is open is counted there, and no event goes out (R518). -/
theorem not_setPoints : ¬ Obligations.SetPoints := by
  unfold Obligations.SetPoints
  rintro ⟨-, hRefused, -⟩
  obtain ⟨u, hu, -, -, hrecords, -⟩ := hRefused 0 refusedInOpenWindow 0 0 4 (by decide +kernel) (by decide +kernel) (by decide +kernel)
    (by decide) (by decide +kernel)
  have hcounted : ∀ e ∈ (settle (refusedInOpenWindow.at 0) ((refusedInOpenWindow.at 0).hostWrite .spi 0x10B4 0)).rcd.evq,
      e.code ≠ 0x0801 := by decide +kernel
  rw [← run_evq (f := (State.hostWrite · .spi 0x10B4 0)) hu] at hcounted
  obtain ⟨e, he, hcode⟩ := hrecords
  exact hcounted e he hcode

/-- Refutes O32: its clause of SETV has the credit back at the frame's end where no return is withheld before it. The SPMOVED notice that
the accepted command queues on the other port can fill that port's queue, and the return is then withheld (R251, R449). -/
theorem not_aedatFrames : ¬ Obligations.AedatFrames := by
  unfold Obligations.AedatFrames
  rintro ⟨-, -, -, hSetv, -⟩
  obtain ⟨u, hu, -, -, -, hcredit, -⟩ := hSetv 0 oneNoticeShortOfFull 0 0 0x6000 0 0 6 (by decide +kernel) (by decide +kernel)
    (by decide +kernel) (by decide +kernel) (by decide +kernel) (by decide +kernel) (by decide +kernel) (by decide +kernel)
    (by decide +kernel) (by decide +kernel) (by decide) (by decide) (by decide) (by decide) (by decide +kernel) (by decide +kernel)
    (by decide +kernel)
  have hwithheld : (settle (oneNoticeShortOfFull.at 0) ((oneNoticeShortOfFull.at 0).frame 0 1 0 0x6000 0)).get F.AL_STATUS_CRED
      ≠ oneNoticeShortOfFull.get F.AL_STATUS_CRED := by decide +kernel
  rw [← run_get (f := (State.frame · 0 1 0 0x6000 0)) hu] at hwithheld
  exact hwithheld hcredit

/-- Refutes O33: its clause of a truncated frame gives the answer's bit A5 from the state's own clock, but the context's tokens are
refilled up to the frame (R265). A context without a token before it has one 2 µs later, and the answer does not tell of throttling. -/
theorem not_aedatLine : ¬ Obligations.AedatLine := by
  unfold Obligations.AedatLine
  rintro ⟨-, -, hAnswered, -⟩
  obtain ⟨u, hu, hanswer, -⟩ := hAnswered 1000002000 tokensSpent 0 48 0 0 77 0 (by decide +kernel) (by decide +kernel)
    (by decide +kernel) (by decide) (by decide) (by decide +kernel) (by decide +kernel) (by decide) (by decide +kernel)
    (by decide +kernel) (by decide +kernel) (by decide +kernel)
  rw [run_ans (f := (State.frameGap · 0 48 0 0 77)) hu (by decide +kernel)] at hanswer
  revert hanswer
  decide +kernel
end


section
/-!
O12: the discards of R278 stand at the end of every update (`State.hintRound`). A rail that may not keep its schedule loses it there, and
the rounds that follow give no schedule an entry and leave the mode, the rail states and TN_EN alone.
-/
namespace Sys2Proof.Machine

variable {b s u : State} {r : Fin 8}

/-! ## Schedules that only lose entries -/

/-- No schedule has gained an entry or changed one. -/
def Thins (b s : State) : Prop := ∀ r, (s.hints r).Sublist (b.hints r)

theorem Thins.refl (s : State) : Thins s s := fun _ => .refl _
/-- The rails are as they were. -/
theorem Thins.withParts (h : Thins b s) {now pending cz1604 mode regs img pow br par sets mirPh mirRail phases ports rcd spi pmb cj otp sec
    tlm jrn pk th ctx0 ctxs rings code entry} :
    Thins b ⟨now, pending, cz1604, mode, regs, img, pow, br, par, sets, mirPh, mirRail, phases, s.rails, ports, rcd, spi, pmb, cj, otp, sec,
      tlm, jrn, pk, th, ctx0, ctxs, rings, code, entry⟩ := h
theorem Thins.of_rails (h : Thins b s) {x : State} (hx : x.rails = s.rails) : Thins b x := fun r => by
  have hr : x.hints r = s.hints r := by simp only [State.hints, State.rail, hx]
  rw [hr]
  exact h r
theorem Thins.ite {c : Prop} {d : Decidable c} {x y : State} (hx : Thins b x) (hy : Thins b y) : Thins b (@ite _ c d x y) := by
  split <;> assumption
theorem Thins.when (h : Thins b s) {c : Bool} {f : State → State} (hf : ∀ x, Thins b x → Thins b (f x)) : Thins b (s.when c f) :=
  .ite (hf _ h) h
theorem Thins.foldl {α : Type} {f : State → α → State} {l : List α} (h : Thins b s) (hf : ∀ x a, Thins b x → Thins b (f x a)) :
    Thins b (l.foldl f s) :=
  List.foldlRecOn l f h fun x hx a _ => hf x a hx
theorem Thins.onRails (h : Thins b s) {f : State → Fin 8 → State} (hf : ∀ x r, Thins b x → Thins b (f x r)) : Thins b (s.onRails f) :=
  h.foldl hf

theorem Thins.set (h : Thins b s) {f : Fld} {i v : Nat} : Thins b (s.set f i v) := h.withParts
theorem Thins.modPort (h : Thins b s) {p : Fin 2} {f : Port → Port} : Thins b (s.modPort p f) := h.withParts
theorem Thins.logC (h : Thins b s) {code unit : Nat} {items : List (Nat × Int)} : Thins b (s.logC code unit items) :=
  h.of_rails (by rw [State.logC, State.raise_rails])
theorem Thins.putCtx (h : Thins b s) {x : Nat} {c : Ctx} : Thins b (s.putCtx x c) := h.withParts
/-- A rail takes a part of its schedule. -/
theorem Thins.modRail (h : Thins b s) {f : Rail → Rail} (hf : (f (s.rail r)).tn.Sublist (s.hints r)) : Thins b (s.modRail r f) := fun q => by
  by_cases hq : q = r
  · subst hq
    rw [State.hints, State.rail_modRail_self]
    exact hf.trans (h q)
  · rw [State.hints, State.rail_modRail_of_ne _ _ _ _ hq]
    exact h q
theorem Thins.modEng (h : Thins b s) {f : Engine → Engine} : Thins b (s.modEng r f) := h.modRail (.refl _)
theorem Thins.modFr (h : Thins b s) {f : Front → Front} : Thins b (s.modFr r f) := h.modRail (.refl _)
theorem Thins.putHints (h : Thins b s) {l : List Hint} (hl : l.Sublist (s.hints r)) : Thins b (s.putHints r l) := (h.modRail hl).set

theorem Thins.noteOn (h : Thins b s) {p : Fin 2} {x : Notice} : Thins b (s.noteOn p x) :=
  .ite (h.modPort.when fun _ hx => hx.set.logC) h
theorem Thins.noteRail (h : Thins b s) {kind word : Nat} : Thins b (s.noteRail r kind word) := h.foldl fun _ _ hx => .ite hx.noteOn hx
theorem Thins.noteAll (h : Thins b s) {kind word : Nat} : Thins b (s.noteAll kind word) := h.foldl fun _ _ hx => hx.noteOn
theorem Thins.putF (h : Thins b s) : Thins b (s.putF r) := by
  unfold State.putF
  extract_lets raw f stored
  have hstored : Thins b stored := h.set.modEng
  exact .ite h (.ite hstored.set hstored)
theorem Thins.ctxCheck (h : Thins b s) {x : Nat} : Thins b (s.ctxCheck x) :=
  .ite h (.logC (h.putCtx.onRails fun _ _ hx => .ite (hx.putHints List.filter_sublist).putF hx))
theorem Thins.freeSlot (h : Thins b s) {hint : Hint} : Thins b (s.freeSlot hint) := h.ctxCheck.putCtx
theorem Thins.retire (h : Thins b s) {p : Hint → Bool} : Thins b (s.retire r p) :=
  Thins.putHints (h.foldl fun _ _ hx => hx.freeSlot) List.filter_sublist
theorem Thins.discard (h : Thins b s) {cause : Nat} : Thins b (s.discard r cause) := .ite h (.logC (.noteRail h.retire.putF.set))

theorem State.hints_putHints (s : State) (r : Fin 8) (l : List Hint) : (s.putHints r l).hints r = l :=
  congrArg Rail.tn (State.rail_modRail_self s r fun x => { x with tn := l })

/-- No entry outlives the discard of its rail. -/
theorem State.discard_hints (s : State) (r : Fin 8) (cause : Nat) : (s.discard r cause).hints r = [] := by
  have hretired : (s.retire r fun _ => true).hints r = [] := by
    unfold State.retire
    rw [State.hints_putHints]
    simp
  unfold State.discard
  extract_lets n marked
  split
  next hn => exact List.length_eq_zero_iff.mp hn
  next =>
    have hlater : Thins (s.retire r fun _ => true) ((marked.noteTense r 2 0 n).logC 0x0903 r [(1, r.val), (2, cause), (2, n)]) :=
      .logC (.noteRail (Thins.refl _).putF.set)
    exact List.sublist_nil.mp (hretired ▸ hlater r)

/-! ## The rails that may keep a schedule -/

/-- R278: a rail with schedule entries is in REG or SHED with TN_EN set, and the device is not in SERVICE. -/
def State.KeepsSchedule (s : State) (r : Fin 8) : Prop :=
  s.hints r ≠ [] → (s.st r = .reg ∨ s.st r = .shed) ∧ s.tnOn r = true ∧ s.mode ≠ .service

/-- No schedule gained an entry, and the mode, the rail states and TN_EN are as before. -/
structure DiscardsOnly (b s : State) : Prop where
  thins : Thins b s
  held : Held b s
  plain : Plain b s

theorem DiscardsOnly.refl (s : State) : DiscardsOnly s s := ⟨.refl s, .refl s, .refl s⟩
theorem DiscardsOnly.keepsSchedule (h : DiscardsOnly b s) (hb : b.KeepsSchedule r) : s.KeepsSchedule r := fun hs => by
  have hentries : b.hints r ≠ [] := fun hnone => hs (List.sublist_nil.mp (hnone ▸ h.thins r))
  have hen : s.tnOn r = b.tnOn r := by
    unfold State.tnOn State.get
    rw [h.plain.regs _ (by decide)]
  rw [h.held.st, hen, h.held.mode]
  exact hb hentries

/-- The turn of one rail in the round of discards. -/
def State.hintTurn (s : State) (r : Fin 8) : State :=
  if (s.hints r).isEmpty then s
  else if s.st r != .reg && s.st r != .shed then s.discard r 1
  else if !s.tnOn r then s.discard r 2
  else if s.mode == .service then s.discard r 3 else s

theorem State.discard_keepsSchedule (s : State) (r : Fin 8) (cause : Nat) : (s.discard r cause).KeepsSchedule r :=
  fun hs => absurd (s.discard_hints r cause) hs
theorem State.hintTurn_keepsSchedule (s : State) (r : Fin 8) : (s.hintTurn r).KeepsSchedule r := by
  unfold State.hintTurn
  split
  next hnone => exact fun hs => absurd (List.isEmpty_iff.mp hnone) hs
  next =>
    split
    next => exact s.discard_keepsSchedule r 1
    next hst =>
      split
      next => exact s.discard_keepsSchedule r 2
      next hen =>
        split
        next => exact s.discard_keepsSchedule r 3
        next hmode =>
          refine fun _ => ⟨?_, by simpa using hen, by simpa using hmode⟩
          simpa [Decidable.or_iff_not_imp_left] using hst

theorem State.discard_discardsOnly (s : State) (r : Fin 8) (cause : Nat) : DiscardsOnly s (s.discard r cause) :=
  ⟨(Thins.refl s).discard, State.discard_held r cause (.refl s), State.discard_plain r cause (.refl s)⟩
theorem State.hintTurn_discardsOnly (s : State) (r : Fin 8) : DiscardsOnly s (s.hintTurn r) := by
  unfold State.hintTurn
  split
  · exact .refl s
  · split
    · exact s.discard_discardsOnly r 1
    · split
      · exact s.discard_discardsOnly r 2
      · split
        · exact s.discard_discardsOnly r 3
        · exact .refl s

/-- Every rail of the list meets R278 after its turn, and goes on meeting it. -/
theorem State.hintTurns_keepSchedule : ∀ (l : List (Fin 8)) (s : State), s.KeepsSchedule r ∨ r ∈ l →
    (l.foldl State.hintTurn s).KeepsSchedule r
  | [], _, h => h.resolve_right List.not_mem_nil
  | q :: l, s, h => by
    refine State.hintTurns_keepSchedule l _ ?_
    rcases h with h | h
    · exact .inl ((s.hintTurn_discardsOnly q).keepsSchedule h)
    · rcases List.mem_cons.mp h with rfl | h
      · exact .inl (s.hintTurn_keepsSchedule r)
      · exact .inr h
theorem State.hintRound_keepsSchedule (s : State) (r : Fin 8) : s.hintRound.KeepsSchedule r :=
  State.hintTurns_keepSchedule allRails s (.inr (mem_allRails r))

/-! ## The rounds that follow -/

theorem Thins.clampRound (h : Thins b s) : Thins b s.clampRound := h.onRails fun _ _ hx => .ite hx.putF hx
theorem Thins.wasRound (h : Thins b s) {s0 : State} : Thins b (State.wasRound s0 s) := h.onRails fun _ _ hx => .ite hx hx.modFr
theorem Thins.pmbRail (h : Thins b s) {s0 : State} : Thins b (State.pmbRail s0 s r) := .ite h h.set.set.set.set.set.set
theorem Thins.pmbRound (h : Thins b s) {s0 : State} : Thins b (State.pmbRound s0 s) :=
  .ite h (.withParts (.when (h.onRails fun _ _ hx => hx.pmbRail) fun _ hx => hx.set))
theorem Thins.mirrorRound (h : Thins b s) {s0 : State} : Thins b (State.mirrorRound s0 s) := .ite (h.withParts) h
theorem Thins.noteRound (h : Thins b s) {s0 : State} : Thins b (State.noteRound s0 s) :=
  .ite h (.onRails (h.when fun _ hx => hx.noteAll) fun _ _ hx => .when (by
    split
    · exact hx.noteRail
    · exact hx) fun _ hy => hy.noteRail)
theorem Thins.creditRound (h : Thins b s) : Thins b s.creditRound := .ite h (h.foldl fun _ _ hx => .ite hx hx.set.modPort)

theorem settle_keepsSchedule (s0 s : State) (r : Fin 8) : (settle s0 s).KeepsSchedule r := by
  unfold settle
  generalize (State.cjRound s0 s.stopRound).packRound.clrRound.armRound.precheckRound.shedRound.modeRound = x
  have hround := x.hintRound_keepsSchedule r
  generalize x.hintRound = y at hround
  have hlater : DiscardsOnly y (State.noteRound s0 (State.mirrorRound s0 (State.pmbRound s0 (State.wasRound s0 y.clampRound)))).creditRound :=
    ⟨(Thins.refl y).clampRound.wasRound.pmbRound.mirrorRound.noteRound.creditRound,
      State.creditRound_held (State.noteRound_held _ (State.mirrorRound_held _ (State.pmbRound_held _
        (State.wasRound_held _ (State.clampRound_held (.refl y)))))),
      State.creditRound_plain (State.noteRound_plain _ (State.mirrorRound_plain _ (State.pmbRound_plain _
        (State.wasRound_plain _ (State.clampRound_plain (.refl y))))))⟩
  exact hlater.keepsSchedule hround

theorem run_keepsSchedule {t : Nat} {f : State → State} (h : run t f s = .next u) (r : Fin 8) : u.KeepsSchedule r := by
  obtain rfl := Host.Outcome.next.inj h
  have hsettled := settle_keepsSchedule (s.at t) (f (s.at t)) r
  generalize settle (s.at t) (f (s.at t)) = x at hsettled
  exact hsettled

end Sys2Proof.Machine
open Sys2Proof Sys2Proof.Machine

/-- Settles O12: after every command each rail meets R278, which the round of discards enforces (`settle_keepsSchedule`). -/
theorem noScheduleOutsideRegulation : Obligations.NoScheduleOutsideRegulation := by
  unfold Obligations.NoScheduleOutsideRegulation
  intro c s u r hu
  obtain ⟨t, f, hrun⟩ := exec_runs hu
  exact run_keepsSchedule hrun r
end


section
/-!
O34 fails: at its score time an entry is a miss, though its step has arrived, where the early miss acts on it in the same update (Table 9.6).
-/
namespace Sys2Proof.Machine

/-- An entry in HOLDING, its score time past and the end of its hold still to come. -/
def heldHint : Hint := { ctx := 9, slot := 2, a := 2, due := 99999700, st := .holding, c := 4, aeff := 4 }

/-- The rail in ordinary regulation with that entry alone: its step has arrived, and the error has stood four updates against the hint
current. -/
def arrivedInEarlyMiss : State :=
  let s := (at_LoadHints_7.putHints 0 [heldHint]).modEng 0 (fun e => { e with missPos := 4 })
  ((s.set F.TN_STAT_F 0 4).set F.TN_TIME_CONF_T 0 1).set F.TN_TIME_HOLD_T 0 255

end Sys2Proof.Machine
open Sys2Proof Sys2Proof.Machine

/-- Refutes O34: its clause of a hit asks only that the step announced has arrived, but an entry on which the early miss (R274) acts in the
update of its score time is scored once, as a miss (Table 9.6). HITS stays at 0. -/
theorem not_loadHints : ¬ Obligations.LoadHints := by
  unfold Obligations.LoadHints
  rintro ⟨-, -, -, -, -, -, hHit, -⟩
  obtain ⟨u, hu, hhits, -⟩ := hHit 1000000000 arrivedInEarlyMiss 0 9 2 heldHint (by decide +kernel) (by decide +kernel) (by decide +kernel)
    (by decide +kernel) (by decide +kernel) (by decide) (by decide +kernel) (by decide +kernel) (by decide +kernel)
  have hmissed : (settle (arrivedInEarlyMiss.at 1000000000) ((arrivedInEarlyMiss.at 1000000000).hintScore 0 9 2)).get F.TN_SCORE_HITS 0
      ≠ min 65535 (arrivedInEarlyMiss.get F.TN_SCORE_HITS 0 + 1) := by decide +kernel
  rw [← run_get (f := (State.hintScore · 0 9 2)) hu] at hmissed
  exact hmissed hhits
end


section
/-!
O35 and O36: the two statements on protection that the model does not meet. For each, a state, a command, and the outcome that the model
evaluates to.
-/
namespace Sys2Proof.Machine

/-- REGULATE with rail 0 in RAMP, where under-voltage is not evaluated (R299), its reading outside all the same. -/
def rampWithUnderVoltage : State :=
  let s : State := { mode := .regulate }
  (s.rst 0 .ramp).mark F.RP_STATUS_UV_RD 0

/-- The leader of `islandNearEnd`, its spanning rail critical and in ordinary regulation; FAULT_HOLD stands from an earlier fault, and the
Second Person reaches the registers over host SPI. -/
def islandWithFaultHeld : State :=
  let s := (islandNearEnd.p2.cf 0 (fun c => { c with critical := true })).modFr 0 (fun f => { f with ls := .none })
  s.mark F.FAULT_HOLD_FAULT_HOLD

end Sys2Proof.Machine
open Sys2Proof Sys2Proof.Machine

/-- Refutes O35, by its clause of R299 and R300: the statement speaks of every state in which UV_RD is set, but `State.undervoltage` acts
in REG, SHED and CARETAKEN alone, where R299 has the reading evaluated. In RAMP the command changes nothing, and UV_S stays 0. The premise
that is missing is the rail's state: `State.setRail` clears UV_RD on a rail that goes elsewhere, so no command leaves this one. -/
theorem not_railProtection : ¬ Obligations.RailProtection := by
  unfold Obligations.RailProtection
  rintro ⟨-, -, -, hUnder, -⟩
  obtain ⟨u, hu, hsticky, -⟩ := hUnder 0 rampWithUnderVoltage 0 (by decide +kernel) (by decide +kernel)
  have hunset : (settle (rampWithUnderVoltage.at 0) ((rampWithUnderVoltage.at 0).undervoltage 0)).get F.RP_STICKY_UV_S (0 : Fin 8) = 0 := by
    decide +kernel
  rw [← run_get (f := (State.undervoltage · 0)) hu, hsticky] at hunset
  cases hunset

/-- Refutes O36: its clause of R291 asks only that no SAFESTOP_CLR waits. The write of FAULT_HOLD_CLEAR clears FAULT_HOLD, but its update is
also the one in which ISLAND_MAX ends: the leader latches the spanning rail (R477), which is critical, so the fault is device-latching
(R287) and sets FAULT_HOLD again (R290). -/
theorem not_senseAndReferences : ¬ Obligations.SenseAndReferences := by
  unfold Obligations.SenseAndReferences
  rintro ⟨-, -, -, -, -, -, -, -, -, -, -, -, -, -, -, hClear, -⟩
  obtain ⟨u, hu, hcleared⟩ := hClear 5000000 islandWithFaultHeld (by decide +kernel) (by decide +kernel) (by decide +kernel)
    (by decide +kernel)
  have hheld : (settle (islandWithFaultHeld.at 5000000) ((islandWithFaultHeld.at 5000000).hostWrite .spi 0x3018 1)).get
      F.FAULT_HOLD_FAULT_HOLD = 1 := by decide +kernel
  rw [← run_get (f := (State.hostWrite · .spi 0x3018 1)) hu, hcleared] at hheld
  cases hheld
end


section
/-!
O1, O2 and O6: the step, the completion of every command, and the machine at reset.
-/
open Sys2Proof Sys2Proof.Machine

/-- Settles O1: a step on a queue with a front command is that command on the state with the rest. -/
theorem stepRunsTheFrontCommand : Obligations.StepRunsTheFrontCommand := by
  unfold Obligations.StepRunsTheFrontCommand
  intro s c q hq
  unfold step
  rw [hq]

/-- Settles O2: every row but one is the run of an effect; TEST_PORT_INSTRUCTION is a run unless the maker's test is asked for. -/
theorem everyCommandCompletes : Obligations.EveryCommandCompletes := by
  unfold Obligations.EveryCommandCompletes
  intro c s
  cases c with
  | testPortInstruction t i =>
    have hexec : exec (.testPortInstruction t i) s = if s.makerTest i then .refused .manufacturerTest else run t (fun s => s.tapInstr i) s := rfl
    by_cases hmaker : s.makerTest i = true
    · exact .inr ⟨t, i, rfl, hmaker, by rw [hexec, if_pos hmaker]⟩
    · exact .inl ⟨_, by rw [hexec, if_neg hmaker]; rfl⟩
  | _ => exact .inl ⟨_, rfl⟩

/-- Settles O6: the finite facts by evaluation, the canonical form by `State.reset_canonical`. -/
theorem resetState : Obligations.ResetState := by
  unfold Obligations.ResetState
  refine ⟨?_, ?_, rfl, rfl, State.reset_canonical⟩
  · decide +kernel
  · decide +kernel
end


section
/-!
O19, O38 to O41, O43, O44, O47 and O50 to O52: the statements of these families that the model does not meet. For each, a state, a command,
and the outcome that the model evaluates to.
-/
namespace Sys2Proof.Machine

/-- Rail 0 driven by the engine, with both image limits of its duty one past the 16 bits of a duty. -/
def dutyBeyondItsField : State :=
  let s := at_CaretakingAndAdoption_9
  { s with img := (s.img.set (F.DUTY_LIM_DUTY_MIN.key 0) 65536).set (F.DUTY_LIM_DUTY_MAX.key 0) 65536 }

/-- A charge that ends while a learning cycle stands open: since its reference at 50 % the counter took in 300 mAh, 60 % of the learned
1000 mAh. -/
def chargedThroughCycle : State :=
  let s := (at_ChargerAndPack_6.mark F.PK_STATE_LRN_OPEN).set F.PK_CFG_DESIGN_CAP 0 1000
  s.modPk (fun p => { p with cfg := { p.cfg with rshunt := 2500, lrnStep := 50 }, lrnRef := 5000, lrnAcc := s.ccAcc - 1080000 })

/-- HOLDUP on the pack with a shutdown under way and every rail OFF. -/
def emptyHoldup : State := (at_HoldUp_9.allr .off).mark F.MODE_STATUS_SHUTDOWN_ACT

/-- A staged value one past its 32 bits. -/
def stagedBeyondItsField : State :=
  { at_ShapedTelemetry_6 with regs := at_ShapedTelemetry_6.regs.set (F.FW_PUB_STAGE_VALUE.key 0) (2 ^ 32) }

/-- An event of the undershoot record on rail 0. -/
def undershootEvt : Evt :=
  { code := 0x0503, unit := 0, items := [], count := none, front := false, ct := false, mode := 5, epoch := 1, time := 3 }
/-- The leader of `islandNearEnd`, its rail in an undershoot action; the rate window of that record has counted one. -/
def windowNearEnd : State := { islandNearEnd with now := 2000000, rcd.wins := [⟨0x0503, 0, 1, undershootEvt, 0⟩] }

/-- PACK waits and was committed at the present instant, so that the next commit of it is due in 100 ms. -/
def commitNotDue : State :=
  let s := at_JournalCommits_1.mark F.SUPPLY_STATUS_VDD33_GOOD
  { s with jrn.lastAt := [some s.now, none, none, none, none] }

/-- The leader of `islandNearEnd`, its spanning rail critical and in ordinary regulation, with the Second Person on host SPI. -/
def criticalIslandNearEnd : State :=
  (islandNearEnd.p2.cf 0 (fun c => { c with critical := true })).modFr 0 (fun f => { f with ls := .none })

/-- A set-point command that the latched rail refuses, while the rate window of 0x0801 stands open for the rail. -/
def voutRefusedInWindow : State :=
  { at_PmbusMeasuresAndStatus_6 with rcd.wins := [⟨0x0801, 0, 1, { undershootEvt with code := 0x0801 }, 0⟩], rcd.evq := [] }

/-- A leader in SAFESTOP with SERVICE asked for, its critical spanning rail still in RAMPDOWN, and no live phase where SYS_MIN_LIVE is 2. -/
def serviceDuringRampdown : State :=
  let s : State := { at_SessionCommands_6 with mode := .safestop }
  let s := ((s.mark F.CJ_CFG_CJ_EN).mark F.CJ_CFG_LEADER).set F.CJ_SPAN_SYS_MIN_LIVE 0 2
  s.modRail 0 (fun x => { x with st := .rampdown, cfg := { x.cfg with present := true, spans := true, critical := true } })

/-- LOAD_CONSENT already holds the value that port 0 is about to write. -/
def consentHeld : State :=
  ((at_ConsentsAndTestPort_1.set F.LOAD_CONSENT_CONS_ID 0 77).set F.LOAD_CONSENT_CONS_RAIL 0 1).set F.LOAD_CONSENT_CONS_MIN 0 1

/-- A member without WELCOME that has just sent its JOIN. -/
def joinJustSent : State := { at_LinkFrames_9 with cj.joinAt := some at_LinkFrames_9.now, cj.txq := [] }

end Sys2Proof.Machine
open Sys2Proof Sys2Proof.Machine

/-- Refutes O19, by its clause of R328: the Front die's copies of the duty limits are free, and the loop's duty follows them past the 16
bits of PN_DUTY. The premise that is missing is that the image holds its fields in their widths. -/
theorem not_caretakingAndAdoption : ¬ Obligations.CaretakingAndAdoption := by
  unfold Obligations.CaretakingAndAdoption
  rintro ⟨-, -, -, -, -, -, -, -, hTracks, -⟩
  obtain ⟨u, hu, hduty, -⟩ := hTracks 0 dutyBeyondItsField 0 (by decide +kernel) (by decide +kernel) (by decide +kernel)
    (by decide +kernel) (by decide +kernel)
  obtain rfl := Host.Outcome.next.inj hu
  exact absurd hduty (by decide +kernel)

/-- Refutes O38, by its clause of R383: QREM takes the whole capacity at DONE, but DONE also closes an open learning cycle (R386), which
moves the capacity itself: 3,600,000 mAs before, 2,160,000 after. -/
theorem not_chargerAndPack : ¬ Obligations.ChargerAndPack := by
  unfold Obligations.ChargerAndPack
  rintro ⟨-, -, -, -, -, hDone, -⟩
  obtain ⟨u, hu, -, -, -, hqrem, -⟩ := hDone 0 chargedThroughCycle (by decide +kernel) (by decide +kernel) (by decide +kernel)
    (by decide +kernel) (by decide +kernel) (by decide +kernel) (by decide +kernel) (by decide +kernel) (by decide +kernel)
  obtain rfl := Host.Outcome.next.inj hu
  exact absurd hqrem (by decide +kernel)

/-- Refutes O39, by its clause of a failed probe: the pack stays connected only while a rail needs it. With a shutdown under way and no
rail switching the same update disconnects it (R374, R78). -/
theorem not_holdUp : ¬ Obligations.HoldUp := by
  unfold Obligations.HoldUp
  rintro ⟨-, -, -, -, -, -, -, -, hProbe, -⟩
  obtain ⟨u, hu, hgate, -⟩ := hProbe 0 emptyHoldup 0 (by decide +kernel) (by decide +kernel) (by decide +kernel) (by decide +kernel)
    (by decide +kernel) (by decide +kernel) (by decide +kernel)
  obtain rfl := Host.Outcome.next.inj hu
  exact absurd hgate (by decide +kernel)

/-- Refutes O40, by its clause of R400: a staged value past its 32 bits is published modulo 2^32. The premise that is missing is that the
registers stand in their widths. -/
theorem not_shapedTelemetry : ¬ Obligations.ShapedTelemetry := by
  unfold Obligations.ShapedTelemetry
  rintro ⟨-, -, -, -, -, hPublish, -⟩
  obtain ⟨u, hu, hpublished⟩ := hPublish 0 stagedBeyondItsField 0 (by decide +kernel) (by decide +kernel) (by decide +kernel)
    (by decide +kernel)
  obtain rfl := Host.Outcome.next.inj hu
  exact absurd hpublished (by decide +kernel)

/-- Refutes O41, by its clause of a window that counted: it starts again at 0, but in the same update ISLAND_MAX ends, the leader's fast
stop (R477) ends an undershoot action, and its record 0x0503 counts in the window just opened. -/
theorem not_recorder : ¬ Obligations.Recorder := by
  unfold Obligations.Recorder
  rintro ⟨-, -, -, -, -, -, -, -, -, hCounted, -⟩
  obtain ⟨u, hu, -, hwin⟩ := hCounted 5000000 windowNearEnd ⟨0x0503, 0, 1, undershootEvt, 0⟩ 0x0503 0 (by decide +kernel) (by decide +kernel)
    (by decide +kernel) (by decide +kernel) rfl (by decide +kernel) (by decide +kernel)
  obtain rfl := Host.Outcome.next.inj hu
  exact absurd hwin (by decide +kernel)

/-- Refutes O43, by its clause of R442: it asks that nothing is due at the state's own instant, but the command acts at `t`, by which the
100 ms of R446 have passed: the commit starts. -/
theorem not_journalCommits : ¬ Obligations.JournalCommits := by
  unfold Obligations.JournalCommits
  rintro ⟨-, -, -, -, hNothing, -⟩
  obtain ⟨u, hu, hsame, -⟩ := hNothing 2000000000 commitNotDue 1500 (by decide +kernel)
    (Option.isNone_iff_eq_none.mp (by decide +kernel))
  obtain rfl := Host.Outcome.next.inj hu
  exact absurd hsame (by decide +kernel)

/-- Refutes O44, by its clause of R516: the write of FAULT_HOLD_CLEAR waits for the Front die, but in its update ISLAND_MAX ends, and the
latch of the critical spanning rail (R477, R287) sets FAULT_HOLD. -/
theorem not_hostSpi : ¬ Obligations.HostSpi := by
  unfold Obligations.HostSpi
  rintro ⟨-, -, -, -, -, -, -, -, hTravels, -⟩
  obtain ⟨u, hu, -, -, hkept, -⟩ := hTravels 5000000 criticalIslandNearEnd 3 (by decide +kernel) (by decide +kernel) (by decide +kernel)
  obtain rfl := Host.Outcome.next.inj hu
  exact absurd hkept (by decide +kernel)

/-- Refutes O47, by its clause of a refused VOUT_COMMAND: 0x0801 is rate-limited (R518), so a refusal in an open window of the rail is
counted and no event goes out. -/
theorem not_pmbusMeasuresAndStatus : ¬ Obligations.PmbusMeasuresAndStatus := by
  unfold Obligations.PmbusMeasuresAndStatus
  rintro ⟨-, -, -, -, -, hRefused, -⟩
  obtain ⟨u, hu, -, -, -, e, he, -⟩ := hRefused 0 voutRefusedInWindow 0 0 3 768 3 (by decide +kernel) (by decide +kernel)
    (by decide +kernel) (by decide +kernel) (by decide +kernel) (by decide +kernel) (by decide +kernel)
  have hnone : u.rcd.evq = [] := by
    obtain rfl := Host.Outcome.next.inj hu
    decide +kernel
  rw [hnone] at he
  cases he

/-- Refutes O50, by its clause of SERVICE: it is entered from SAFESTOP with a rail still in RAMPDOWN, and in the same update too few
live phases latch that rail (R477), which is critical: T9 takes the device back to SAFESTOP. -/
theorem not_sessionCommands : ¬ Obligations.SessionCommands := by
  unfold Obligations.SessionCommands
  rintro ⟨-, -, -, -, -, hService, -⟩
  obtain ⟨u, hu, hmode, -⟩ := hService 0 serviceDuringRampdown [0, 0, 0, 0] (by decide +kernel) (by decide +kernel) (by decide +kernel)
    (by decide +kernel)
  obtain rfl := Host.Outcome.next.inj hu
  exact absurd hmode (by decide +kernel)

/-- Refutes O51, by its clause of a consent: a write of the value that LOAD_CONSENT holds changes no field (R515), so the consent is not
given again. -/
theorem not_consentsAndTestPort : ¬ Obligations.ConsentsAndTestPort := by
  unfold Obligations.ConsentsAndTestPort
  rintro ⟨hConsent, -⟩
  obtain ⟨u, hu, hcons, -⟩ := hConsent 0 consentHeld 0 (BitVec.ofNat 32 (77 * 2 ^ 16 + 257)) 1 1 0 (by decide +kernel) (by decide +kernel)
    (by decide +kernel) (by decide +kernel) (by decide +kernel) (by decide +kernel) (by decide) (by decide) (by decide +kernel) (by decide)
    (by decide) (by decide +kernel) (by decide) (by decide +kernel)
  obtain rfl := Host.Outcome.next.inj hu
  exact absurd hcons (by decide +kernel)

/-- Refutes O52, by its clause of JOIN_RETRY: the next JOIN is due 10 µs after the last (R472), and none is queued before. -/
theorem not_linkFrames : ¬ Obligations.LinkFrames := by
  unfold Obligations.LinkFrames
  rintro ⟨-, -, -, -, -, -, -, -, hAgain, -⟩
  obtain ⟨u, hu, hqueued, -⟩ := hAgain 0 joinJustSent 0x3208 (by decide +kernel) (by decide +kernel) (by decide +kernel) (by decide +kernel)
    (by decide +kernel) (by decide +kernel)
  obtain rfl := Host.Outcome.next.inj hu
  exact absurd hqueued (by decide +kernel)
end


section
/-!
The recorder's banks over host SPI (R434, R435): what a write of REC_SEL, a read of REC_DATA7 and a write of REC_CLR leave.
-/
namespace Sys2Proof.Machine

variable {s : State} {w : Who} {a v : Nat}

theorem fieldsAt_REC_SEL : fieldsAt (normAddr 0x6008) = [(F.REC_SEL_SEL, 0)] := by decide +kernel
theorem fieldsAt_REC_DATA7 : fieldsAt (normAddr 0x602C) = [(F.REC_DATA_DATA, 7)] := by decide +kernel
theorem fieldsAt_REC_CLR : fieldsAt (normAddr 0x6030) = [(F.REC_CLR_CLR_STICKY, 0), (F.REC_CLR_CLR, 0)] := by decide +kernel

/-- The first check passes when each field that counts is the Person's and none is loaded from the image. -/
theorem State.writeCheck_unloaded (hs : s.sealOff w.path a = false) (hne : s.fieldsFor a ≠ [])
    (hm : ∀ e ∈ s.writes w a v, s.mayWrite w.person e.1 = true ∧ e.1.img = false) : s.writeCheck w a v = rOk := by
  have hmay : (s.writes w a v).any (fun e => !s.mayWrite w.person e.1) = false :=
    List.any_eq_false.2 fun e he => by rw [(hm e he).1]; decide
  have himg : (s.writes w a v).any (fun e => e.1.img && !s.parsed && e.1.acc != .w1c) = false :=
    List.any_eq_false.2 fun e he => by simp [(hm e he).2]
  unfold State.writeCheck
  simp [hs, hne, hmay, himg]

/-- A write of REC_SEL selects, also where it carries the value held (R434). -/
theorem State.regWrite_recSel (hs : s.sealOff w.path 0x6008 = false) (hp : w.person = .p2) :
    s.regWrite w 0x6008 v false = (rOk, s.recSel (s.busOf w.path) v) := by
  have hfor : s.fieldsFor 0x6008 = _ := (State.fieldsFor_eq rfl).trans fieldsAt_REC_SEL
  have hmem : ∀ e ∈ s.writes w 0x6008 v, e.1 = F.REC_SEL_SEL := fun e he => by
    have hin := State.mem_fieldsFor_of_writes he
    rw [hfor, List.mem_singleton] at hin
    exact congrArg Prod.fst hin
  have hcheck : s.writeCheck w 0x6008 v = rOk :=
    State.writeCheck_unloaded hs (by rw [hfor]; exact List.cons_ne_nil _ _) fun e he => by
      rw [hmem e he, hp]
      exact ⟨rfl, rfl⟩
  have hone : ∀ l : List (Fld × Nat × Nat), (∀ e ∈ l, e.1 = F.REC_SEL_SEL) →
      l.findSome? (s.fieldRule w 0x6008 (s.after w 0x6008 v) false) = none ∧ actsLast l = l ∧ l.any (fun e => e.1.base == 0x0220) = false
        ∧ l.foldl (fun y e => y.fieldWrite w (s.after w 0x6008 v) e) s = s := fun l hl => by
    refine ⟨List.findSome?_eq_none_iff.2 fun e he => ?_, actsLast_eq fun e he => ?_, List.any_eq_false.2 fun e he => ?_, ?_⟩
    · obtain ⟨f, i, x⟩ := e
      obtain rfl : f = _ := hl _ he
      rfl
    · rw [hl e he]
      rfl
    · rw [hl e he]
      decide
    · induction l with
      | nil => rfl
      | cons e l ih =>
        obtain ⟨f, i, x⟩ := e
        obtain rfl : f = _ := hl _ (List.mem_cons_self ..)
        exact ih fun e he => hl e (List.mem_cons_of_mem _ he)
  obtain ⟨hrule, hlast, hcons, hfold⟩ := hone _ hmem
  unfold State.regWrite State.consentEffect State.selEffect
  simp only [hcheck, hrule, hlast, hcons, hfold, State.when_false]
  simp [rOk, rAccess, hp]

/-- What a write of REC_CLR counts: its bits that are ones. -/
theorem State.writes_recClr {x y : Nat} (hx : bits v 1 1 = x) (hy : bits v 0 1 = y) : s.writes w 0x6030 v =
    ((if x != 0 then [(F.REC_CLR_CLR_STICKY, 0, x)] else []) ++ if y != 0 then [(F.REC_CLR_CLR, 0, y)] else []) := by
  have hfor : s.fieldsFor 0x6030 = _ := (State.fieldsFor_eq rfl).trans fieldsAt_REC_CLR
  have hcarry : s.carried F.REC_CLR_CLR_STICKY 0 v = x ∧ s.carried F.REC_CLR_CLR 0 v = y := by
    subst hx hy
    constructor <;> simp (decide := true) [State.carried, fusedMask, Fld.pos, F.REC_CLR_CLR_STICKY, F.REC_CLR_CLR]
  have hcount : s.counted w F.REC_CLR_CLR_STICKY 0 x = (x != 0) ∧ s.counted w F.REC_CLR_CLR 0 y = (y != 0) := ⟨rfl, rfl⟩
  rw [State.writes_eq hfor fun e he => State.fusedField_device
    ((by decide : ∀ e ∈ [(F.REC_CLR_CLR_STICKY, 0), (F.REC_CLR_CLR, 0)], e.1.index = 0 ∧ e.1.base ≠ 0x3880) e he) _]
  simp only [List.filterMap_cons, List.filterMap_nil, hcarry.1, hcarry.2, hcount.1, hcount.2]
  cases x != 0 <;> cases y != 0 <;> rfl

/-- CLR by P2 (R435). -/
theorem State.regWrite_clr (hs : s.sealOff w.path 0x6030 = false) (hp : w.person = .p2) :
    (s.regWrite w 0x6030 1 false).2 = s.recClear w.person.code false := by
  have hw : s.writes w 0x6030 1 = [(F.REC_CLR_CLR, 0, 1)] := State.writes_recClr (x := 0) (y := 1) (by decide) (by decide)
  have hfor : s.fieldsFor 0x6030 = _ := (State.fieldsFor_eq rfl).trans fieldsAt_REC_CLR
  have hcheck : s.writeCheck w 0x6030 1 = rOk :=
    State.writeCheck_unloaded hs (by rw [hfor]; exact List.cons_ne_nil _ _) fun e he => by
      rw [hw, List.mem_singleton] at he
      rw [he, hp]
      exact ⟨rfl, rfl⟩
  unfold State.regWrite
  simp only [hcheck, hw]
  rfl

/-- CLR_STICKY by P3 with the right (R435). -/
theorem State.regWrite_clrSticky (hs : s.sealOff w.path 0x6030 = false) (hp : w.person = .p3) (hr : s.right 1 = true) :
    (s.regWrite w 0x6030 2 false).2 = s.recClear w.person.code true := by
  have hw : s.writes w 0x6030 2 = [(F.REC_CLR_CLR_STICKY, 0, 1)] := State.writes_recClr (x := 1) (y := 0) (by decide) (by decide)
  have hfor : s.fieldsFor 0x6030 = _ := (State.fieldsFor_eq rfl).trans fieldsAt_REC_CLR
  have hcheck : s.writeCheck w 0x6030 2 = rOk :=
    State.writeCheck_unloaded hs (by rw [hfor]; exact List.cons_ne_nil _ _) fun e he => by
      rw [hw, List.mem_singleton] at he
      rw [he, hp]
      exact ⟨hr, rfl⟩
  unfold State.regWrite
  simp only [hcheck, hw]
  rfl

/-- CLR_STICKY by P2 is denied (R398). -/
theorem State.writeCheck_clrSticky_p2 (hs : s.sealOff w.path 0x6030 = false) (hp : w.person = .p2) : s.writeCheck w 0x6030 2 = rAccess := by
  refine State.writeCheck_denied (e := (F.REC_CLR_CLR_STICKY, 0, 1)) hs ?_ (by rw [hp]; rfl)
  rw [State.writes_recClr (x := 1) (y := 0) (by decide) (by decide)]
  exact List.mem_singleton.2 rfl

/-- A read of REC_DATA7 by P2 is answered; with the answer the selection may advance (R434). -/
theorem State.regRead_recData7 (hs : s.sealOff w.path 0x602C = false) (hp : w.person = .p2) :
    (s.regRead w 0x602C).2.2 = s.readEffect w 0x602C := by
  have hfor : s.fieldsFor 0x602C = _ := (State.fieldsFor_eq rfl).trans fieldsAt_REC_DATA7
  have hread : s.mayRead w F.REC_DATA_DATA 7 = true := by
    unfold State.mayRead
    rw [hp]
    rfl
  unfold State.regRead
  simp [hs, hfor, hread]

/-- A bank that takes what it selects. -/
def RecBank.taking (b : RecBank) (l : Option (List Byte)) : RecBank :=
  { b with cap := (l.map fun l => (List.range 8).map fun i => leNat (slice l (4 * i) 4)).getD [], missDue := l.isNone }

/-- The selection after REC_SEL or an advance, where the bank selects by SEQ. -/
theorem State.recSel_spi (h : s.rcd.spi.hist = false) (hv : v < 2 ^ 32) : (s.recSel 0 v).rcd.spi =
    RecBank.taking { s.rcd.spi with sel := v } ((s.rcd.recs.find? (fun x => x.seq == v)).map Record.bytes) := by
  have hmod : v % 2 ^ 32 = v := Nat.mod_eq_of_lt hv
  unfold State.recSel State.bank State.putBank State.selected
  simp only [hmod, h, Nat.zero_ne_one, if_false, Bool.false_eq_true]
  cases s.rcd.recs.find? (fun x => x.seq == v) <;> rfl
theorem State.recSel_others (s : State) (v : Nat) : (s.recSel 0 v).rcd.recs = s.rcd.recs ∧ (s.recSel 0 v).pmb = s.pmb
    ∧ (s.recSel 0 v).rcd.pmb = s.rcd.pmb ∧ (s.recSel 0 v).pow = s.pow := by
  unfold State.recSel State.bank State.putBank
  simp only [Nat.zero_ne_one, if_false]
  split <;> simp

/-- Host SPI reads as P2 while no session is open on it. -/
theorem State.hostRead_p2 (h : s.AsP2) (a : Nat) : s.hostRead .spi a = s.regRead ⟨.spi, .p2⟩ a := by
  have hw : s.who .spi = ⟨.spi, .p2⟩ := by simp [State.who, h.2]
  unfold State.hostRead
  rw [if_pos h.1, hw]

theorem State.recSel_found {x : Record} (hh : s.rcd.spi.hist = false) (hv : v < 2 ^ 32)
    (hx : s.rcd.recs.find? (fun x => x.seq == v) = some x) :
    (s.recSel 0 v).rcd.spi.sel = v ∧ (s.recSel 0 v).rcd.spi.cap = (List.range 8).map (fun i => leNat (slice x.bytes (4 * i) 4)) := by
  rw [State.recSel_spi hh hv, hx]
  exact ⟨rfl, rfl⟩
theorem State.recSel_missed (hh : s.rcd.spi.hist = false) (hv : v < 2 ^ 32) (hx : s.rcd.recs.find? (fun x => x.seq == v) = none) :
    (s.recSel 0 v).rcd.spi.sel = v ∧ (s.recSel 0 v).rcd.spi.cap = [] := by
  rw [State.recSel_spi hh hv, hx]
  exact ⟨rfl, rfl⟩

/-- A read of REC_DATA7 marks a selection that is not held, before it advances. -/
def State.missMarked (s : State) : State :=
  if s.rcd.spi.missDue then { s.mark F.REC_STATUS_REC_MISS with rcd.spi := { s.rcd.spi with missDue := false } } else s
theorem State.missMarked_parts (s : State) : s.missMarked.rcd.recs = s.rcd.recs ∧ s.missMarked.pow = s.pow
    ∧ s.missMarked.rcd.spi = { s.rcd.spi with missDue := false } := by
  unfold State.missMarked
  split
  · exact ⟨rfl, rfl, rfl⟩
  · next h => exact ⟨rfl, rfl, by rw [← Bool.eq_false_iff.2 h]⟩
theorem State.readEffect_recData7 (hw : w.path = .spi) : s.readEffect w 0x602C =
    if s.rcd.spi.auto then s.missMarked.recSel 0 (s.rcd.spi.sel + 1) else s.missMarked := by
  unfold State.readEffect
  rw [hw]
  rfl

theorem State.recClear_parts (s : State) (p : Nat) (all : Bool) :
    Framed { s with rcd.recs := if all then [] else s.rcd.recs.filter Record.isSticky } (s.recClear p all) ∧ (s.recClear p all).Records 0x0F08 :=
  ⟨State.logC_only _ _ rfl, State.logC_records _ _ _ rfl⟩

/-- After a write of REC_CLR that its Person may do. -/
theorem recClear_gives {i : Instr} {t p : Nat} {f : State → State} {all : Bool} (hc : s.Calm) (hi : exec i s = run t f s)
    (hx : f (s.at t) = (s.at t).recClear p all) :
    Gives i s (fun u => u.rcd.recs = (if all then [] else s.rcd.recs.filter Record.isSticky) ∧ u.Records 0x0F08) := by
  obtain ⟨hframe, hrec⟩ := State.recClear_parts (s.at t) p all
  exact run_gives hi hx (hframe.calm.trans hc) fun u _ hf => ⟨(hframe.trans hf).recs, hf.records hrec⟩

end Sys2Proof.Machine
open Sys2Proof Sys2Proof.Machine

/-- Settles O42: REC_SEL and the advance by what a bank captures (`State.recSel_spi`), REC_CLR by what its bits count. -/
theorem recordBanks : Obligations.RecordBanks := by
  unfold Obligations.RecordBanks
  have hsel : ∀ (t : Nat) (s : State) (d : Word), s.AsP2 → (s.at t).hostWrite .spi 0x6008 d.toNat = (s.at t).recSel 0 d.toNat :=
    fun t s d h => (State.hostWrite_p2 (s := s.at t) h _ _).trans (congrArg Prod.snd (State.regWrite_recSel (State.sealOff_p2 (s := s.at t) h _) rfl))
  have hread : ∀ (t : Nat) (s : State), s.AsP2 → ((s.at t).hostRead .spi 0x602C).2.2 =
      if s.rcd.spi.auto then (s.at t).missMarked.recSel 0 (s.rcd.spi.sel + 1) else (s.at t).missMarked := fun t s h => by
    rw [State.hostRead_p2 (s := s.at t) h, State.regRead_recData7 (State.sealOff_p2 (s := s.at t) h _) rfl, State.readEffect_recData7 rfl]
    rfl
  refine ⟨fun t s d x hs hp hh hx => ?_, fun t s d hs hp hh hx => ?_, fun t s x hs hp hh ha hlt hfound => ?_, fun t s hs hp ha => ?_,
    fun t s hs hp => ?_, fun t s hs hp => ?_, fun t s hs hp => ?_⟩
  · obtain ⟨hrecs, -, hpmb, hpow⟩ := State.recSel_others (s.at t) d.toNat
    obtain ⟨hd, hcap⟩ := State.recSel_found (s := s.at t) hh d.isLt hx
    refine run_gives rfl (hsel t s d hp) ((congrArg (·.wantSafestopClr) hpow).trans hs) fun u _ hf => ?_
    exact ⟨by rw [hf.recSpi, hd], by rw [hf.recSpi, hcap], hf.recs.trans hrecs, hf.recPmb.trans hpmb⟩
  · obtain ⟨-, -, -, hpow⟩ := State.recSel_others (s.at t) d.toNat
    obtain ⟨hd, hcap⟩ := State.recSel_missed (s := s.at t) hh d.isLt hx
    refine run_gives rfl (hsel t s d hp) ((congrArg (·.wantSafestopClr) hpow).trans hs) fun u _ hf => ?_
    exact ⟨by rw [hf.recSpi, hd], by rw [hf.recSpi, hcap]⟩
  · have hx := (hread t s hp).trans (if_pos ha)
    obtain ⟨hrecs, hpow, hspi⟩ := State.missMarked_parts (s.at t)
    generalize (s.at t).missMarked = y at hx hrecs hpow hspi
    obtain ⟨-, -, -, hpow'⟩ := State.recSel_others y (s.rcd.spi.sel + 1)
    obtain ⟨hd, hcap⟩ := State.recSel_found (s := y) (v := s.rcd.spi.sel + 1) (by rw [hspi]; exact hh) (by omega) (by rw [hrecs]; exact hfound)
    refine run_gives (f := fun s => (s.hostRead .spi 0x602C).2.2) rfl hx ((congrArg (·.wantSafestopClr) (hpow'.trans hpow)).trans hs) fun u _ hf => ?_
    exact ⟨by rw [hf.recSpi, hd], by rw [hf.recSpi, hcap]⟩
  · obtain ⟨-, hpow, hspi⟩ := State.missMarked_parts (s.at t)
    refine run_gives (f := fun s => (s.hostRead .spi 0x602C).2.2) rfl ((hread t s hp).trans (if_neg (by rw [ha]; decide))) ((congrArg (·.wantSafestopClr) hpow).trans hs) fun u _ hf => ?_
    exact ⟨by rw [hf.recSpi, hspi]; rfl, by rw [hf.recSpi, hspi]; rfl⟩
  · exact recClear_gives hs rfl
      ((State.hostWrite_p2 (s := s.at t) hp _ _).trans (State.regWrite_clr (State.sealOff_p2 (s := s.at t) hp _) rfl))
  · exact recClear_gives hs rfl
      ((State.hostWrite_up (s := s.at t) (p := .sess) hp.1).trans (State.regWrite_clrSticky (State.sealOff_sess (s := s.at t) _) rfl hp.2))
  · have hx : (s.at t).hostWrite .spi 0x6030 2 = (s.at t).denied ⟨.spi, .p2⟩ 0x6030 true := by
      rw [State.hostWrite_p2 (s := s.at t) hp,
        State.regWrite_denied (State.writeCheck_clrSticky_p2 (State.sealOff_p2 (s := s.at t) hp _) rfl)]
    have hframe := State.denied_framed (s := s.at t) ⟨.spi, .p2⟩ 0x6030 true
    refine run_gives rfl hx (hframe.calm.trans hs) fun u _ hf => ⟨(hframe.trans hf).recs, ?_⟩
    rw [(hframe.trans hf).get _ _ (by decide), State.mark_eq, State.get_set_self]
    rfl
end


section
/-!
The mailbox and the session (R412 to R420): frames under a change of `sec`, and what an attempt, an answer and the end of a session leave.
-/
namespace Sys2Proof.Machine

variable {b s x : State} {i : Instr} {t : Nat} {f : State → State} {P : State → Prop}

/-- A command whose effect is framed by a state of which more is known. -/
theorem run_within (hi : exec i s = run t f s) (hx : Framed x (f (s.at t))) (hc : x.Calm)
    (hP : ∀ u, run t f s = .next u → Framed x u → Framed (f (s.at t)) u → P u) : Gives i s P :=
  run_gives hi rfl (hx.calm.trans hc) fun u hu hf => hP u hu (hx.trans hf) hf

theorem Framed.withSec (h : Framed b s) (c : Sec) : Framed { b with sec := c } { s with sec := c } :=
  ⟨by
    show ({ s.rest with sec := c } : State) = { b.rest with sec := c }
    rw [h.rest], h.regs, h.evq⟩
theorem Framed.answer (h : Framed b s) (res : Nat) (m : List Byte) : Framed (b.answer res m) (s.answer res m) := by
  unfold State.answer
  rw [h.sec]
  exact h.withSec _
theorem Framed.ended (h : Framed b s) : Framed { b with sec := b.sec.ended } { s with sec := s.sec.ended } := by
  rw [h.sec]
  exact h.withSec _

/-- The session alone. -/
theorem Changes.sec (s : State) (c : Sec) : Changes [.sec] [] s { s with sec := c } := ⟨rfl, fun _ _ _ => rfl⟩
/-- The session and one register field. -/
theorem Changes.secSet (s : State) (c : Sec) {g : Fld} (hg : g.fits = true) (hn : 0 < g.count) (v : Nat) :
    Changes [.sec, .rcd] [g] s { s.set g 0 v with sec := c } :=
  ⟨rfl, (Changes.set (ps := []) (List.mem_singleton.2 rfl) hg hn v).regs⟩

/-! ## Attempts -/

/-- What a failed attempt marks and counts, its record apart. -/
def State.attemptMarked (s : State) (res : Nat) : State := (s.when (5 ≤ res && res ≤ 8) State.countFail).mark F.SEC_STICKY_SESS_FAIL_S
theorem State.attemptFailed_framed (s : State) (bus res : Nat) : Framed (s.attemptMarked res) (s.attemptFailed bus res) :=
  State.logC_only _ _ rfl
theorem State.attemptFailed_records (s : State) (bus res : Nat) : (s.attemptFailed bus res).Records 0x0E04 :=
  State.logC_records _ _ _ rfl
theorem State.attemptMarked_uncounted {res : Nat} (h : (5 ≤ res && res ≤ 8) = false) :
    s.attemptMarked res = s.mark F.SEC_STICKY_SESS_FAIL_S := by
  unfold State.attemptMarked
  rw [h]
  rfl
theorem State.attemptMarked_counted {res : Nat} (h : (5 ≤ res && res ≤ 8) = true) :
    s.attemptMarked res = s.countFail.mark F.SEC_STICKY_SESS_FAIL_S := by
  unfold State.attemptMarked
  rw [h]
  rfl
theorem State.countFail_get (s : State) : s.countFail.get F.AUTH_FAIL_FAIL_N = min 255 (s.get F.AUTH_FAIL_FAIL_N + 1) :=
  (State.get_set_self ..).trans (Nat.mod_eq_of_lt (show min 255 (s.get F.AUTH_FAIL_FAIL_N + 1) < 2 ^ 8 by omega))
theorem State.attemptMarked_failN {res : Nat} : (s.attemptMarked res).get F.AUTH_FAIL_FAIL_N =
    (s.when (5 ≤ res && res ≤ 8) State.countFail).get F.AUTH_FAIL_FAIL_N := State.get_set_of_ne _ _ _ _ _ _ (by decide)
theorem State.attemptMarked_failN_uncounted {res : Nat} (h : (5 ≤ res && res ≤ 8) = false) :
    (s.attemptMarked res).get F.AUTH_FAIL_FAIL_N = s.get F.AUTH_FAIL_FAIL_N := by
  rw [State.attemptMarked_failN, h]
  rfl
theorem State.attemptMarked_failN_counted {res : Nat} (h : (5 ≤ res && res ≤ 8) = true) :
    (s.attemptMarked res).get F.AUTH_FAIL_FAIL_N = min 255 (s.get F.AUTH_FAIL_FAIL_N + 1) := by
  rw [State.attemptMarked_failN, h]
  exact s.countFail_get
theorem State.attemptMarked_sec_uncounted {res : Nat} (h : (5 ≤ res && res ≤ 8) = false) :
    (s.attemptMarked res).sec = s.sec ∧ (s.attemptMarked res).otp = s.otp ∧ (s.attemptMarked res).rcd = s.rcd
      ∧ (s.attemptMarked res).pow = s.pow := by
  rw [State.attemptMarked_uncounted h]
  exact ⟨rfl, rfl, rfl, rfl⟩
theorem State.attemptMarked_sec_counted {res : Nat} (h : (5 ≤ res && res ≤ 8) = true) :
    (s.attemptMarked res).sec = { s.sec with
        lastFail := s.now, locked := decide (3 ≤ min 255 (s.get F.AUTH_FAIL_FAIL_N + 1)), lockTold := false }
      ∧ (s.attemptMarked res).otp = { s.otp with failN := min 255 (s.get F.AUTH_FAIL_FAIL_N + 1) }
      ∧ (s.attemptMarked res).pow = s.pow := by
  rw [State.attemptMarked_counted h]
  exact ⟨rfl, rfl, rfl⟩
theorem State.attemptMarked_sticky {res : Nat} : (s.attemptMarked res).get F.SEC_STICKY_SESS_FAIL_S = 1 := State.get_set_self ..

/-- A message that waits is an M1 where no handshake or session is open on its bus. -/
theorem State.hello_due (hw : s.msgWaits = true) (hb : s.sec.st = 0 ∨ s.sec.msgBus ≠ s.sec.bus) (sid nd eph k : Nat) :
    s.hello sid nd eph k =
      if s.helloRes s.sec.msg = 0 then s.handshake s.sec.msg sid nd eph k
      else
        let res := s.helloRes s.sec.msg
        let s := s.when (res == 3 && !s.sec.lockTold) (fun s =>
          State.logC { s with sec := { s.sec with lockTold := true } } 0x0E08 0
            [(1, s.get F.AUTH_FAIL_FAIL_N), (2, holdOff (s.get F.AUTH_FAIL_FAIL_N))])
        (s.attemptFailed s.sec.msgBus res).answer res (m4Head res (Config.m4Open res).toNat) := by
  have hc : (!s.msgWaits || (s.sec.st != 0 && s.sec.msgBus == s.sec.bus)) = false := by
    rcases hb with h | h <;> simp [hw, h]
  unfold State.hello
  rw [if_neg (by rw [hc]; decide)]
/-- A refused M1 that no lockout refuses. -/
theorem State.hello_refused (hw : s.msgWaits = true) (hb : s.sec.st = 0 ∨ s.sec.msgBus ≠ s.sec.bus) {res : Nat}
    (hr : s.helloRes s.sec.msg = res) (h0 : res ≠ 0) (h3 : res ≠ 3) (sid nd eph k : Nat) :
    s.hello sid nd eph k = (s.attemptFailed s.sec.msgBus res).answer res (m4Head res (Config.m4Open res).toNat) := by
  rw [State.hello_due hw hb, hr, if_neg h0]
  have : (res == 3 && !s.sec.lockTold) = false := by simp [h3]
  simp only [this, State.when_false]

/-- Lockout is told once. -/
def State.lockSaid (s : State) : State := { s with sec := { s.sec with lockTold := true } }
theorem State.lockSaid_framed (s : State) (c : Bool) (items : List (Nat × Int)) (hc : c = !s.sec.lockTold) :
    Framed s.lockSaid (s.when c (fun s => State.logC { s with sec := { s.sec with lockTold := true } } 0x0E08 0 items)) := by
  cases h : s.sec.lockTold with
  | true =>
    rw [hc, h]
    have : s.lockSaid = s := by
      unfold State.lockSaid
      rw [← h]
    rw [this]
    exact .refl s
  | false =>
    rw [hc, h]
    exact State.logC_only s.lockSaid (code := 0x0E08) (unit := 0) items rfl

/-- M1 while locked out. -/
theorem State.hello_locked (hw : s.msgWaits = true) (h0 : s.sec.st = 0) (ho : helloOk s.sec.msg = true) (hl : s.sec.locked = true)
    (sid nd eph k : Nat) : ∃ y m, Framed s.lockSaid y ∧ (s.sec.lockTold = false → y.Records 0x0E08)
      ∧ s.hello sid nd eph k = (y.attemptFailed y.sec.msgBus 3).answer 3 m := by
  have hr : s.helloRes s.sec.msg = 3 := by simp [State.helloRes, ho, h0, hl]
  refine ⟨_, m4Head 3 (Config.m4Open 3).toNat, s.lockSaid_framed (!s.sec.lockTold)
    [(1, s.get F.AUTH_FAIL_FAIL_N), (2, holdOff (s.get F.AUTH_FAIL_FAIL_N))] rfl, fun ht => ?_, ?_⟩
  · rw [ht]
    exact State.logC_records s.lockSaid (code := 0x0E08) _ _ rfl
  · rw [State.hello_due hw (.inl h0), hr, if_neg (by decide)]
    exact congrArg (fun c => let y := s.when c _; (y.attemptFailed y.sec.msgBus 3).answer 3 (m4Head 3 (Config.m4Open 3).toNat)) (Bool.true_and (!s.sec.lockTold))

/-- The state that a session opens in, its record and its answer apart. -/
def State.opened (s : State) (c : List Byte) : State :=
  { s.set F.AUTH_FAIL_FAIL_N 0 0 with
    otp := { s.otp with failN := 0 }
    sec := { s.sec with
      st := 2, rights := s.granted c, slot := beNat (slice c 4 1), cseq := 0, goAt := s.now, openAt := s.now
      lifeMin := min (beNat (slice c 10 2)) s.sec.sessMax, locked := false, ending := none } }
theorem State.openSession_eq (s : State) (c : List Byte) : ∃ items m, s.openSession c = ((s.opened c).logC 0x0E02 0 items).answer 0 m :=
  ⟨_, _, rfl⟩

theorem State.auth_due (hw : s.msgWaits = true) (h1 : s.sec.st = 1) (hb : s.sec.msgBus = s.sec.bus) :
    s.auth = if s.authRes s.sec.msg = 0 then s.openSession (certOf s.sec.msg)
      else
        let res := s.authRes s.sec.msg
        let h := m4Head res (Config.m4Open res).toNat
        let s := (s.attemptFailed s.sec.bus res).answer res (h ++ s.devTag 0 h)
        { s with sec := s.sec.ended } := by
  have hc : (!s.msgWaits || s.sec.st != 1 || s.sec.msgBus != s.sec.bus) = false := by simp [hw, h1, hb]
  unfold State.auth
  rw [if_neg (by rw [hc]; decide)]
/-- A refused M3 ends the handshake. -/
theorem State.auth_refused (hw : s.msgWaits = true) (h1 : s.sec.st = 1) (hb : s.sec.msgBus = s.sec.bus) {res : Nat}
    (hr : s.authRes s.sec.msg = res) (h0 : res ≠ 0) : ∃ m, s.auth =
      { (s.attemptFailed s.sec.bus res).answer res m with sec := ((s.attemptFailed s.sec.bus res).answer res m).sec.ended } := by
  rw [State.auth_due hw h1 hb, hr, if_neg h0]
  exact ⟨_, rfl⟩

/-! ## The end of a session -/

/-- A session ended, its record apart. -/
def State.sessionOver (s : State) : State := { s with sec := s.sec.ended }
theorem State.endSession_over (h2 : s.sec.st = 2) (hn : s.sec.inFlight = false) (hm : s.mode ≠ .service) (cause : Nat) :
    Framed s.sessionOver (s.endSession cause) ∧ (s.endSession cause).Records 0x0E03 := by
  have h : s.endSession cause = s.sessionOver.logC 0x0E03 0 [(2, s.sec.sid), (2, cause)] := by
    have hserv : ((s.sessionOver.logC 0x0E03 0 [(2, s.sec.sid), (2, cause)]).mode == .service && cause != 6 && cause != 7) = false := by
      have : (s.sessionOver.logC 0x0E03 0 [(2, s.sec.sid), (2, cause)]).mode = s.mode := State.raise_mode ..
      simp [this, hm]
    unfold State.endSession
    rw [if_neg (by simp [hn]), if_pos h2]
    show State.when _ _ _ = _
    rw [show ((({ s with sec := s.sec.ended } : State).logC 0x0E03 0 [(2, s.sec.sid), (2, cause)]).mode == .service && cause != 6 && cause != 7)
      = false from hserv, State.when_false]
    rfl
  rw [h]
  exact ⟨State.logC_only _ _ rfl, State.logC_records _ _ _ rfl⟩
/-- A command that ends the session outside SERVICE. -/
theorem sessionOver_gives {cause : Nat} (hi : exec i s = run t f s) (hx : f (s.at t) = (s.at t).endSession cause) (hc : s.Calm)
    (h2 : s.sec.st = 2) (hn : s.sec.inFlight = false) (hm : s.mode ≠ .service) :
    Gives i s (fun u => u.sec.st = 0 ∧ u.sec.sid = 0 ∧ u.sec.rights = 0 ∧ u.sec.ks = [] ∧ u.sec.cons = [0, 0, 0, 0, 0, 0, 0, 0]
      ∧ u.Records 0x0E03 ∧ Changes [.sec, .rcd] [] s u) := by
  obtain ⟨hframe, hrec⟩ := State.endSession_over (s := s.at t) h2 hn hm cause
  rw [← hx] at hframe hrec
  refine run_within hi hframe hc fun u _ hf hg => ⟨?_, ?_, ?_, ?_, ?_, hg.records hrec, ?_⟩
  · rw [hf.sec]; rfl
  · rw [hf.sec]; rfl
  · rw [hf.sec]; rfl
  · rw [hf.sec]; rfl
  · rw [hf.sec]; rfl
  · exact (hf.changes (ps := [.sec, .rcd]) (s := s.at t) ⟨rfl, fun _ _ _ => rfl⟩).of_at

/-! ## Accesses of the session's registers over host SPI (R393) -/

theorem State.who_spi (s : State) : s.who .spi = ⟨.spi, .p3⟩ ∨ s.who .spi = ⟨.spi, .p2⟩ := by
  unfold State.who
  dsimp only
  split
  · exact .inl rfl
  · exact .inr rfl
theorem fieldsAt_SESS_CTRL : fieldsAt (normAddr 0x0210) = [(F.SESS_CTRL_GO, 0), (F.SESS_CTRL_ABORT, 0), (F.SESS_CTRL_LEN, 0)] := by decide +kernel
theorem fieldsAt_SESS_MBOX : fieldsAt (normAddr 0x0218) = [(F.SESS_MBOX_WORD, 0)] := by decide +kernel

/-- A register write that counts one field, which only acts. -/
theorem State.regWrite_one {w : Who} {a v k : Nat} {g : Fld} {x : Nat} {y : State} (hs : s.sealOff w.path a = false)
    (hw : s.writes w a v = [(g, k, x)]) (hm : s.mayWrite w.person g = true) (hi : g.img = false)
    (hr : s.fieldRule w a (s.after w a v) false (g, k, x) = none) (ha : a ≠ 0x6008) (hb : g.base ≠ 0x0220)
    (hy : s.fieldWrite w (s.after w a v) (g, k, x) = y) : s.regWrite w a v false = (rOk, y) := by
  have hne : s.fieldsFor a ≠ [] := fun h => by
    have := State.mem_fieldsFor_of_writes (s := s) (w := w) (a := a) (v := v) (e := (g, k, x)) (by rw [hw]; exact List.mem_singleton.2 rfl)
    rw [h] at this
    exact List.not_mem_nil this
  have hcheck : s.writeCheck w a v = rOk := State.writeCheck_unloaded hs hne fun e he => by
    rw [hw, List.mem_singleton] at he
    rw [he]
    exact ⟨hm, hi⟩
  have hlast : actsLast [(g, k, x)] = [(g, k, x)] := by
    unfold actsLast
    cases h : g.acc.wo <;> simp [h]
  have hcons : [(g, k, x)].any (fun e => e.1.base == 0x0220) = false := by simp [hb]
  unfold State.regWrite State.consentEffect State.selEffect
  simp only [hcheck, hw, hlast, hcons, List.findSome?_cons, List.findSome?_nil, hr, State.when_false, List.foldl_cons, List.foldl_nil, hy]
  simp [rOk, rAccess, ha]

/-- A word pushed counts whatever it holds. -/
theorem State.writes_mbox (w : Who) {v : Nat} (hv : v < 2 ^ 32) : s.writes w 0x0218 v = [(F.SESS_MBOX_WORD, 0, v)] := by
  have hfor : s.fieldsFor 0x0218 = _ := (State.fieldsFor_eq rfl).trans fieldsAt_SESS_MBOX
  have hc : s.carried F.SESS_MBOX_WORD 0 v = v := by
    have hb : bits v (F.SESS_MBOX_WORD.pos 0) F.SESS_MBOX_WORD.width = v := by
      show v / 2 ^ 0 % 2 ^ 32 = v
      rw [Nat.pow_zero, Nat.div_one]
      exact Nat.mod_eq_of_lt hv
    simp (decide := true) [State.carried, fusedMask, hb]
  have hcount : s.counted w F.SESS_MBOX_WORD 0 v = true := rfl
  rw [State.writes_eq hfor fun e he => State.fusedField_device (by rw [List.mem_singleton.1 he]; decide) _]
  simp [hc, hcount]
theorem State.regWrite_push {w : Who} {v : Nat} (hs : s.sealOff w.path 0x0218 = false) (hm : s.mayWrite w.person F.SESS_MBOX_WORD = true)
    (hv : v < 2 ^ 32) : s.regWrite w 0x0218 v false = (rOk, s.mboxPush v) :=
  State.regWrite_one hs (State.writes_mbox w hv) hm rfl rfl (by decide) (by decide) rfl
theorem State.hostWrite_push (hp : s.pathUp .spi = true) (v : Word) : s.hostWrite .spi 0x0218 v.toNat = s.mboxPush v.toNat := by
  have hm : s.mayWrite (s.who .spi).person F.SESS_MBOX_WORD = true := by
    rcases s.who_spi with h | h <;> rw [h] <;> rfl
  rw [State.hostWrite_up hp, State.regWrite_push (by simp [State.sealOff, sessAddr]) hm v.isLt]

/-- What a write of SESS_CTRL counts: GO and ABORT where they are ones, LEN where it changes (R515). -/
theorem State.writes_sessCtrl (w : Who) {v g a l : Nat} (hg : v / 2 ^ 31 % 2 = g) (ha : v / 2 ^ 30 % 2 = a) (hl : v % 2 ^ 12 = l) :
    s.writes w 0x0210 v = (if g != 0 then [(F.SESS_CTRL_GO, 0, g)] else []) ++ ((if a != 0 then [(F.SESS_CTRL_ABORT, 0, a)] else [])
      ++ if l != s.get F.SESS_CTRL_LEN then [(F.SESS_CTRL_LEN, 0, l)] else []) := by
  have hfor : s.fieldsFor 0x0210 = _ := (State.fieldsFor_eq rfl).trans fieldsAt_SESS_CTRL
  have hcarry : s.carried F.SESS_CTRL_GO 0 v = g ∧ s.carried F.SESS_CTRL_ABORT 0 v = a ∧ s.carried F.SESS_CTRL_LEN 0 v = l := by
    have hgo : bits v (F.SESS_CTRL_GO.pos 0) F.SESS_CTRL_GO.width = g := hg
    have habort : bits v (F.SESS_CTRL_ABORT.pos 0) F.SESS_CTRL_ABORT.width = a := ha
    have hlen : bits v (F.SESS_CTRL_LEN.pos 0) F.SESS_CTRL_LEN.width = l := by
      rw [← hl]
      exact congrArg (· % 2 ^ 12) ((congrArg (v / ·) (Nat.pow_zero 2)).trans (Nat.div_one v))
    refine ⟨?_, ?_, ?_⟩ <;> simp (decide := true) [State.carried, fusedMask, hgo, habort, hlen]
  obtain ⟨hgo, habort, hlen⟩ := hcarry
  have cgo : s.counted w F.SESS_CTRL_GO 0 g = (g != 0) := rfl
  have cabort : s.counted w F.SESS_CTRL_ABORT 0 a = (a != 0) := rfl
  have clen : s.counted w F.SESS_CTRL_LEN 0 l = (l != s.get F.SESS_CTRL_LEN) := rfl
  rw [State.writes_eq hfor fun e he => State.fusedField_device
    ((by decide : ∀ e ∈ [(F.SESS_CTRL_GO, 0), (F.SESS_CTRL_ABORT, 0), (F.SESS_CTRL_LEN, 0)], e.1.index = 0 ∧ e.1.base ≠ 0x3880) e he) _]
  simp only [List.filterMap_cons, List.filterMap_nil, hgo, habort, hlen, cgo, cabort, clen]
  cases g != 0 <;> cases a != 0 <;> cases l != s.get F.SESS_CTRL_LEN <;> rfl

/-- ABORT with the length held (R419). -/
theorem State.hostWrite_abort (hp : s.pathUp .spi = true) (hl : s.get F.SESS_CTRL_LEN < 4096) :
    s.hostWrite .spi 0x0210 (0x40000000 + s.get F.SESS_CTRL_LEN) = s.endSession 2 := by
  have hw : s.writes (s.who .spi) 0x0210 (0x40000000 + s.get F.SESS_CTRL_LEN) = [(F.SESS_CTRL_ABORT, 0, 1)] := by
    rw [State.writes_sessCtrl _ (g := 0) (a := 1) (l := s.get F.SESS_CTRL_LEN) (by omega) (by omega) (by omega)]
    simp
  have hm : s.mayWrite (s.who .spi).person F.SESS_CTRL_ABORT = true := by
    rcases s.who_spi with h | h <;> rw [h] <;> rfl
  have hone := State.regWrite_one (y := s.endSession 2) (by simp [State.sealOff, sessAddr]) hw hm rfl rfl (by decide) (by decide) rfl
  rw [State.hostWrite_up hp, hone]

/-- A word popped (R412). -/
theorem State.hostRead_pop (hp : s.pathUp .spi = true) : (s.hostRead .spi 0x0218).2.2 =
    { s with sec := { s.sec with pop := s.sec.pop.drop 1, rxReady := s.sec.rxReady && !(s.sec.pop.drop 1).isEmpty } } := by
  have hfor : s.fieldsFor 0x0218 = _ := (State.fieldsFor_eq rfl).trans fieldsAt_SESS_MBOX
  have hread : s.mayRead (s.who .spi) F.SESS_MBOX_WORD 0 = true := by
    unfold State.mayRead
    rcases s.who_spi with h | h <;> rw [h] <;> rfl
  have hseal : s.sealOff (s.who .spi).path 0x0218 = false := by simp [State.sealOff, sessAddr]
  unfold State.hostRead
  rw [if_pos hp]
  unfold State.regRead
  simp only [hseal, hfor, List.isEmpty_cons, List.filter_cons, hread, if_true, Bool.false_eq_true, if_false]
  rfl

end Sys2Proof.Machine
end

section
/-!
SERVICE ends with its session (T24, R83): rails that switch stop at once, PARSE begins, and with every rail in OFF the end of the update leaves
the mode, the rail states and the registers of the transition.
-/
namespace Sys2Proof.Machine

variable {b s : State}

/-! ## FAULT_HOLD and its cause under a rail's fast stop -/

/-- What a device-latching fault holds. -/
def heldFields : List Fld := [F.FAULT_HOLD_FAULT_HOLD, F.PROT_STATUS_DL_CAUSE]
/-- FAULT_HOLD and DL_CAUSE read as before. -/
def HoldKept (b s : State) : Prop := ∀ g ∈ heldFields, s.get g = b.get g

theorem HoldKept.refl (s : State) : HoldKept s s := fun _ _ => rfl
theorem HoldKept.hold (h : HoldKept b s) : s.get F.FAULT_HOLD_FAULT_HOLD = b.get F.FAULT_HOLD_FAULT_HOLD := h _ List.mem_cons_self
theorem HoldKept.cause (h : HoldKept b s) : s.get F.PROT_STATUS_DL_CAUSE = b.get F.PROT_STATUS_DL_CAUSE := h _ (List.mem_cons_of_mem _ List.mem_cons_self)
theorem HoldKept.set (h : HoldKept b s) {f : Fld} {i v : Nat} (hf : heldFields.all (fun g => f.off (g.key 0)) = true) (hi : i < f.count) :
    HoldKept b (s.set f i v) := fun g hg =>
  (State.get_set_of_ne _ _ _ _ _ _ (Fld.key_ne (List.all_eq_true.1 hf g hg) hi)).trans (h g hg)
theorem HoldKept.regs {x : State} (h : HoldKept b s) (hx : x.regs = s.regs) : HoldKept b x := by
  unfold HoldKept State.get
  rw [hx]
  exact h
theorem HoldKept.ite {c : Prop} {d : Decidable c} {x y : State} (hx : HoldKept b x) (hy : HoldKept b y) : HoldKept b (@ite _ c d x y) := by
  split <;> assumption
theorem HoldKept.foldl {α : Type} {f : State → α → State} {l : List α} (h : HoldKept b s) (hf : ∀ x a, HoldKept b x → HoldKept b (f x a)) :
    HoldKept b (l.foldl f s) := List.foldlRecOn l f h fun x hx a _ => hf x a hx
theorem HoldKept.setRail (h : HoldKept b s) {r : Fin 8} {st : RailState} : HoldKept b (s.setRail r st) := by
  have hrest : ∀ {x : State} {w : Sw}, HoldKept b x →
      HoldKept b ((x.phasesOf r).foldl (fun s n => if (s.ph n).sw == .stopped then s else s.setSw n w) x) := fun hx =>
    hx.foldl fun _ _ hy => .ite hy (hy.regs rfl)
  unfold State.setRail
  extract_lets taken started rested quiet
  have hstarted : HoldKept b started := .ite (h.regs rfl) (h.regs rfl)
  have hrested : HoldKept b rested := .ite (hrest hstarted) (.ite (hrest hstarted) hstarted)
  have hlow : HoldKept b ((rested.clear F.RP_STATUS_PGOOD_ST r).clear F.RP_STATUS_UV_RD r) :=
    (hrested.set (by decide) r.isLt).set (by decide) r.isLt
  have hquiet : HoldKept b quiet := .ite hrested (hlow.regs rfl)
  exact .ite hquiet (hquiet.regs rfl)
theorem HoldKept.railOff (h : HoldKept b s) {r : Fin 8} : HoldKept b (s.railOff r) := by
  have hsen : HoldKept b ((s.setRail r .off).setSen r false) := h.setRail.set (f := F.SEN_CFG_SEN_STATE) (by decide) r.isLt
  have haux : HoldKept b (((s.railRest r .off).clear F.RP_STATUS_SNS_AUX r).clear F.RP_STATUS_SNS_CAUSE r) :=
    ((hsen.regs (x := s.railRest r .off) rfl).set (f := F.RP_STATUS_SNS_AUX) (by decide) r.isLt).set (f := F.RP_STATUS_SNS_CAUSE) (by decide) r.isLt
  exact haux.regs rfl
theorem HoldKept.endLs (h : HoldKept b s) {r : Fin 8} : HoldKept b (s.endLs r) := by
  unfold State.endLs
  extract_lets f told ended undriven
  have htold : HoldKept b told := .ite (h.regs (State.raise_regs _ _ _ _ _ (by split <;> rfl))) h
  have hundriven : HoldKept b undriven := (htold.regs (x := ended) rfl).foldl fun _ _ hx => hx.regs rfl
  exact (((hundriven.set (by decide) r.isLt).set (by decide) r.isLt).set (by decide) r.isLt).set (by decide) r.isLt
theorem HoldKept.fastStop (h : HoldKept b s) {r : Fin 8} : HoldKept b (s.fastStop r) := by
  have htri : HoldKept b ((s.endLs r).triRail r) := h.endLs.foldl fun x n hx => by
    unfold State.toLevel State.toLevelAt State.setLevel
    exact .ite hx ((hx.regs rfl).set (f := F.PWM_STATUS_LEVEL) (by decide) n.isLt)
  unfold State.fastStop
  generalize (s.endLs r).triRail r = x at htri ⊢
  have hsen : HoldKept b (x.setSen r false) := htri.set (f := F.SEN_CFG_SEN_STATE) (by decide) r.isLt
  have hfall : HoldKept b ((x.setSen r false).modFr r (fun f => { f with fallAt := none })) := hsen.regs rfl
  exact hfall.set (f := F.PHC_STATUS_DE_ACT) (by decide) r.isLt

/-! ## The rails of T24 -/

/-- One rail where SERVICE ends: a fast stop to OFF, unless it is in OFF or LATCHED. -/
def State.serviceStop (s : State) (r : Fin 8) : State :=
  match s.st r with
  | .ramp | .reg | .shed | .rampdown | .armed | .hiccup => (s.fastStop r).railOff r
  | _ => s
theorem State.serviceStop_cases (s : State) (r : Fin 8) : s.serviceStop r = (s.fastStop r).railOff r
    ∨ s.serviceStop r = s ∧ (s.st r = .off ∨ s.st r = .latched ∨ s.st r = .caretaken) := by
  unfold State.serviceStop
  cases s.st r with
  | off => exact .inr ⟨rfl, .inl rfl⟩
  | latched => exact .inr ⟨rfl, .inr (.inl rfl)⟩
  | caretaken => exact .inr ⟨rfl, .inr (.inr rfl)⟩
  | armed => exact .inl rfl
  | ramp => exact .inl rfl
  | reg => exact .inl rfl
  | shed => exact .inl rfl
  | hiccup => exact .inl rfl
  | rampdown => exact .inl rfl

/-- A rail that neither switches nor waits to. -/
def RailState.dark : RailState → Bool
  | .off | .latched | .caretaken => true
  | _ => false
theorem RailState.not_of_dark {x : RailState} (h : x.dark = true) : x.switching = false ∧ x ≠ .hiccup ∧ x ≠ .reg ∧ x ≠ .shed := by
  cases x <;> first | exact ⟨rfl, by decide, by decide, by decide⟩ | cases h
theorem State.serviceStop_other (s : State) {r q : Fin 8} (h : q ≠ r) : (s.serviceStop r).st q = s.st q := by
  rcases s.serviceStop_cases r with e | ⟨e, -⟩ <;> rw [e]
  exact (State.railOff_st_other r q h).trans ((s.fastStop_held r).st q)
theorem State.serviceStop_dark (s : State) (r : Fin 8) : ((s.serviceStop r).st r).dark = true := by
  rcases s.serviceStop_cases r with e | ⟨e, h⟩ <;> rw [e]
  · rw [State.railOff_st]; rfl
  · rcases h with h | h | h <;> rw [h] <;> rfl

/-- Rails of a list brought to rest one after the other. -/
theorem foldl_dark {f : State → Fin 8 → State} {p : RailState → Bool} (hself : ∀ s r, p ((f s r).st r) = true)
    (hother : ∀ s r q, q ≠ r → (f s r).st q = s.st q) (q : Fin 8) : ∀ (l : List (Fin 8)) (s : State), p (s.st q) = true ∨ q ∈ l →
    p ((l.foldl f s).st q) = true
  | [], _, h => h.resolve_right List.not_mem_nil
  | a :: l, s, h => by
    refine foldl_dark hself hother q l _ ?_
    by_cases ha : q = a
    · subst ha
      exact .inl (hself s q)
    · rw [hother s a q ha]
      exact h.imp_right fun hm => (List.mem_cons.1 hm).resolve_left ha

theorem State.serviceStops_hold (s : State) : HoldKept s (s.onRails State.serviceStop) := HoldKept.foldl (.refl _) fun x r hx => by
  rcases x.serviceStop_cases r with e | ⟨e, -⟩ <;> rw [e]
  exacts [hx.fastStop.railOff, hx]
theorem State.serviceEnd_eq (s : State) : s.serviceEnd = (s.onRails State.serviceStop).enterParse 24 := by
  unfold State.serviceEnd State.onRails State.serviceStop
  rfl

/-! ## Entry to PARSE with every rail at rest -/

/-- The rails at the entry to PARSE. -/
def State.parseRail (s : State) (r : Fin 8) : State :=
  if s.st r == .latched || s.st r == .armed || s.st r == .hiccup then s.railOff r else s
/-- Domain P at its reset values. -/
def State.parseReset (s : State) : State := { s with regs := resetRegs s.regs (fun f => f.dom == .p) }
/-- The parts that start over with the Parser. -/
def State.parseFresh (s : State) : State :=
  { s with
    par := {}, pow.released := false, pow.voted := false, pow.stopSet := 0, pow.wantSafestopClr := false, br.applyRestarts := 0
    pmb.masks := [], tlm := {} }
/-- The fields cleared at the entry to PARSE. -/
def State.parseCleared (s : State) : State :=
  ((s.clear F.PK_STATE_LRN_OPEN).clear F.VSEL_STATUS_ACCEPTED).set F.VSEL_STATUS_CODE 0 0
/-- The state from which the entry takes its transition. -/
def State.parseReady (s : State) : State :=
  let s := (s.parseReset.onRails State.parseRail).parseFresh.parseCleared
  { s with pow.vselTold := false }
/-- PARSE begun, up to the check for a device-latching fault. -/
def State.parseBegun (s : State) (n : Nat) : State := s.parseReady.enter n .parse
theorem State.enterParse_eq (s : State) (n : Nat) : s.enterParse n =
    (s.parseBegun n).when ((s.parseBegun n).flag F.FAULT_HOLD_FAULT_HOLD && (s.parseBegun n).dlPresent) (fun s => s.enterSafestop 6) := by
  unfold State.enterParse State.parseBegun State.parseReady State.parseCleared State.parseFresh State.parseReset State.parseRail
  rfl

theorem State.parseRail_dark (s : State) (r q : Fin 8) (h : (s.st q).dark = true) : ((s.parseRail r).st q).dark = true := by
  unfold State.parseRail
  split
  · by_cases hq : q = r
    · rw [hq, State.railOff_st]; rfl
    · rw [State.railOff_st_other r q hq, h]
  · exact h
theorem State.parseBegun_dark (s : State) (n : Nat) (h : ∀ r, (s.st r).dark = true) (r : Fin 8) : ((s.parseBegun n).st r).dark = true := by
  have hrails : ∀ x : State, (x.st r).dark = true → ((x.onRails State.parseRail).st r).dark = true := fun x hx =>
    List.foldlRecOn (motive := fun y => (y.st r).dark = true) allRails State.parseRail hx fun y hy a _ => y.parseRail_dark a r hy
  unfold State.parseBegun
  rw [State.enter_st]
  have hready : s.parseReady.st r = (s.parseReset.onRails State.parseRail).st r := by
    unfold State.parseReady
    generalize s.parseReset.onRails State.parseRail = x
    rfl
  have hreset : s.parseReset.st r = s.st r := by
    unfold State.parseReset State.st State.rail
    dsimp only
  rw [hready]
  exact hrails _ (by rw [hreset]; exact h r)
theorem holdKey_reset : ∀ f ∈ allFields, f.reset ≠ 0 → ∀ i < f.count, F.FAULT_HOLD_FAULT_HOLD.key 0 ≠ f.key i := by decide +kernel
theorem State.parseBegun_hold (s : State) (n : Nat) (h : s.get F.FAULT_HOLD_FAULT_HOLD = 0) : (s.parseBegun n).get F.FAULT_HOLD_FAULT_HOLD = 0 := by
  have hreset : s.parseReset.get F.FAULT_HOLD_FAULT_HOLD = 0 := by
    have hz : (resetRegs s.regs (fun f => f.dom == .p)).get (F.FAULT_HOLD_FAULT_HOLD.key 0) = 0 := resetRegs_get_zero s.regs _ _ h holdKey_reset
    simpa only [State.parseReset, State.get] using hz
  have hrails : HoldKept s.parseReset (s.parseReset.onRails State.parseRail) := HoldKept.foldl (.refl _) fun y r hy => by
    unfold State.parseRail
    exact .ite hy.railOff hy
  have hready : HoldKept s.parseReset s.parseReady := by
    unfold State.parseReady
    generalize s.parseReset.onRails State.parseRail = x at hrails ⊢
    have hfresh : HoldKept s.parseReset x.parseFresh := hrails.regs rfl
    generalize x.parseFresh = y at hfresh ⊢
    have hcleared : HoldKept s.parseReset y.parseCleared :=
      ((hfresh.set (f := F.PK_STATE_LRN_OPEN) (by decide) (by decide)).set (f := F.VSEL_STATUS_ACCEPTED) (by decide) (by decide)).set
        (f := F.VSEL_STATUS_CODE) (by decide) (by decide)
    exact hcleared.regs rfl
  unfold State.parseBegun
  rw [State.get_def, State.enter_regs, ← State.get_def]
  exact ((hready.set (f := F.MODE_STATUS_PREV_MODE) (by decide) (by decide)).set (f := F.MODE_STATUS_LAST_TRANS) (by decide) (by decide)).hold.trans hreset
theorem State.parseBegun_calm (s : State) (n : Nat) : (s.parseBegun n).Calm := by
  unfold State.Calm State.parseBegun
  rw [State.enter_pow]
  rfl
theorem State.parseBegun_mode (s : State) (n : Nat) : (s.parseBegun n).mode = .parse := by
  unfold State.parseBegun
  exact State.enter_mode ..
theorem State.parseBegun_lastTrans (s : State) {n : Nat} (hn : n < 32) : (s.parseBegun n).get F.MODE_STATUS_LAST_TRANS = n := by
  unfold State.parseBegun
  exact State.enter_lastTrans _ hn
theorem State.enterParse_begun {n : Nat} (h : s.get F.FAULT_HOLD_FAULT_HOLD = 0) : s.enterParse n = s.parseBegun n := by
  have hf : (s.parseBegun n).flag F.FAULT_HOLD_FAULT_HOLD = false := by
    unfold State.flag
    rw [State.parseBegun_hold s n h]
    rfl
  rw [State.enterParse_eq, hf, Bool.false_and, State.when_false]

/-! ## The end of an update that finds every rail at rest -/

/-- The Conjunction Link beside rails at rest only empties its own memory of the update. -/
theorem State.cjRound_dark (s0 s : State) (h : ∀ r, (s.st r).dark = true) : ∃ c, State.cjRound s0 s = { s with cj := c } := by
  unfold State.cjRound
  cases hr : s.spanRail with
  | none => exact ⟨s.cj, rfl⟩
  | some r =>
    have hlow : (s.flag F.CJ_CFG_LEADER && ((s.st r).switching || s.st r == .hiccup) && s.sysLive r < s.get F.CJ_SPAN_SYS_MIN_LIVE) = false := by
      obtain ⟨hsw, hhic, -⟩ := RailState.not_of_dark (h r)
      simp [hsw, hhic]
    dsimp only
    rw [hlow]
    exact ⟨_, rfl⟩
theorem State.stopRound_dark (s : State) (h : ∀ r, (s.st r).dark = true) : s.stopRound = { s with pow.stopSet := 0 } := by
  have hnone : allRails.filter (fun r => s.pow.stopSet.testBit r.val && (s.st r).switching) = [] :=
    List.filter_eq_nil_iff.2 fun r _ => by
      simp [(RailState.not_of_dark (h r)).1]
  unfold State.stopRound
  rw [hnone]
  rfl

/-- With every rail at rest, none that may arm and a mode that no round leaves, the end of an update keeps the mode, the rail states and the
registers outside `quietFields`, also while the Conjunction Link is in use. -/
theorem settle_dark (s0 : State) (hc : s.Calm) (hm : s.mode.steady = true) (ha : ∀ r, s.mayArm r = false) (hd : ∀ r, (s.st r).dark = true) :
    Quiet s (settle s0 s) ∧ (settle s0 s).mode = s.mode ∧ ∀ r, (settle s0 s).st r = s.st r := by
  obtain ⟨c, hcj⟩ := State.cjRound_dark s0 { s with pow.stopSet := 0 } hd
  have hstart : State.cjRound s0 s.stopRound = { s with pow.stopSet := 0, cj := c } := by rw [State.stopRound_dark s hd, hcj]
  have hframe : Framed s (State.cjRound s0 s.stopRound) := State.cjRound_framed _ (State.stopRound_framed (.refl s))
  have hquiet : Quiet s (State.cjRound s0 s.stopRound) := by rw [hstart]; exact fun _ _ => rfl
  have hmode : (State.cjRound s0 s.stopRound).mode = s.mode := by rw [hstart]
  have hst : ∀ r, (State.cjRound s0 s.stopRound).st r = s.st r := fun r => by rw [hstart]; rfl
  unfold settle
  generalize State.cjRound s0 s.stopRound = x at hframe hquiet hmode hst
  have hf : Framed s x.packRound := State.packRound_framed hframe
  have hh : Held x x.packRound := State.packRound_held (.refl x)
  have hq : Quiet s x.packRound := hquiet.packRound
  have hpm : x.packRound.mode = s.mode := hh.mode.trans hmode
  have hps : ∀ r, x.packRound.st r = s.st r := fun r => (hh.st r).trans (hst r)
  generalize x.packRound = y at hf hq hpm hps
  have hclr : y.clrRound = y := by unfold State.clrRound; rw [hf.calm.trans hc]; rfl
  have harm : y.armRound = y := State.armRound_none fun r => (State.mayArm_congr r hf hpm (hps r)).trans (ha r)
  have hy : y.mode.steady = true := by rw [hpm, hm]
  rw [hclr, harm, State.precheckRound_none hy, State.modeRound_none (by rw [State.shedRound_mode, hy])]
  have hheld : Held y.shedRound (State.noteRound s0 (State.mirrorRound s0 (State.pmbRound s0
      (State.wasRound s0 y.shedRound.hintRound.clampRound)))).creditRound :=
    State.creditRound_held (State.noteRound_held _ (State.mirrorRound_held _ (State.pmbRound_held _ (State.wasRound_held _
      (State.clampRound_held (State.hintRound_held (.refl _)))))))
  refine ⟨hq.shedRound.hintRound.clampRound.wasRound.pmbRound.mirrorRound.noteRound.creditRound,
    hheld.mode.trans (State.shedRound_mode.trans hpm), fun r => (hheld.st r).trans ?_⟩
  obtain ⟨-, -, hreg, hshed⟩ := RailState.not_of_dark (hd r)
  exact (State.shedRound_st r (by rw [hps r]; exact hreg) (by rw [hps r]; exact hshed)).trans (hps r)

/-- SERVICE's end: PARSE by T24 with no rail switching. -/
theorem serviceEnd_gives {i : Instr} {t : Nat} {f : State → State} {x : State} (hi : exec i s = run t f s) (hx : f (s.at t) = x.serviceEnd)
    (hf : x.get F.FAULT_HOLD_FAULT_HOLD = 0) : Gives i s (fun u => Framed x.serviceEnd u ∧ u.mode = .parse
      ∧ u.get F.MODE_STATUS_LAST_TRANS = 24 ∧ ∀ r, (u.st r).switching = false) := by
  have hhold : (x.onRails State.serviceStop).get F.FAULT_HOLD_FAULT_HOLD = 0 :=
    (State.serviceStops_hold x).hold.trans hf
  have hrails : ∀ r, ((x.onRails State.serviceStop).st r).dark = true := fun r =>
    foldl_dark State.serviceStop_dark (fun s r q => State.serviceStop_other s) r allRails x (.inr ((by decide : ∀ r, r ∈ allRails) r))
  have hend : x.serviceEnd = (x.onRails State.serviceStop).parseBegun 24 := by rw [State.serviceEnd_eq, State.enterParse_begun hhold]
  have hcalm := State.parseBegun_calm (x.onRails State.serviceStop) 24
  have hdark := State.parseBegun_dark _ 24 hrails
  have hmode := State.parseBegun_mode (x.onRails State.serviceStop) 24
  have htrans := State.parseBegun_lastTrans (x.onRails State.serviceStop) (n := 24) (by decide)
  rw [← hend] at hcalm hdark hmode htrans
  have harm : ∀ r, x.serviceEnd.mayArm r = false := fun r => by simp [State.mayArm, hmode, Mode.running]
  obtain ⟨hq, hm, hst⟩ := settle_dark (s.at t) hcalm (by rw [hmode]; rfl) harm hdark
  refine run_gives hi hx hcalm fun u hu hfr => ?_
  obtain ⟨y, hy, hym, hys⟩ := run_settled t f u hu
  rw [hx] at hy
  refine ⟨hfr, by rw [hym, hy, hm, hmode], ?_, fun r => ?_⟩
  · rw [run_get hu, hx]
    exact (hq _ (by decide)).trans htrans
  · rw [hys, hy, hst]
    exact (RailState.not_of_dark (hdark r)).1

end Sys2Proof.Machine
end

section
/-!
O49, from what an attempt, an answer and the end of a session leave.
-/
namespace Sys2Proof.Machine

variable {s : State}

theorem State.serviceStops_sec (s : State) : (s.onRails State.serviceStop).sec = s.sec :=
  List.foldlRecOn (motive := fun x => x.sec = s.sec) allRails State.serviceStop rfl fun x hx r _ => by
    rcases x.serviceStop_cases r with e | ⟨e, -⟩ <;> rw [e]
    · exact (Framed.sec (State.railOff_framed r (State.fastStop_framed r (.refl x)))).trans hx
    · exact hx
theorem State.parseRails_sec (s : State) : (s.onRails State.parseRail).sec = s.sec :=
  List.foldlRecOn (motive := fun x => x.sec = s.sec) allRails State.parseRail rfl fun x hx r _ => by
    unfold State.parseRail
    split
    · exact (Framed.sec (State.railOff_framed r (.refl x))).trans hx
    · exact hx
theorem State.parseBegun_sec (s : State) (n : Nat) : (s.parseBegun n).sec = s.sec := by
  have hready : s.parseReady.sec = (s.parseReset.onRails State.parseRail).sec := by
    unfold State.parseReady
    generalize s.parseReset.onRails State.parseRail = x
    rfl
  have hreset : s.parseReset.sec = s.sec := by
    unfold State.parseReset
    dsimp only
  unfold State.parseBegun
  rw [(State.enter_framed n .parse (.refl s.parseReady)).sec, hready, State.parseRails_sec, hreset]
theorem State.serviceEnd_sec (h : s.get F.FAULT_HOLD_FAULT_HOLD = 0) : s.serviceEnd.sec = s.sec := by
  have hhold : (s.onRails State.serviceStop).get F.FAULT_HOLD_FAULT_HOLD = 0 := (State.serviceStops_hold s).hold.trans h
  rw [State.serviceEnd_eq, State.enterParse_begun hhold, State.parseBegun_sec, State.serviceStops_sec]

/-- A session's record. -/
def State.overTold (s : State) (cause : Nat) : State := s.sessionOver.logC 0x0E03 0 [(2, s.sec.sid), (2, cause)]
theorem State.endSession_service (h2 : s.sec.st = 2) (hn : s.sec.inFlight = false) (hm : s.mode = .service) {cause : Nat}
    (h6 : cause ≠ 6) (h7 : cause ≠ 7) : s.endSession cause = (s.overTold cause).serviceEnd := by
  have hserv : ((s.overTold cause).mode == .service && cause != 6 && cause != 7) = true := by
    have : (s.overTold cause).mode = s.mode := State.raise_mode ..
    simp [this, hm, h6, h7]
  unfold State.endSession
  rw [if_neg (by simp [hn]), if_pos h2]
  exact if_pos hserv

theorem State.sessIdle_due (h2 : s.sec.st = 2) (h : s.sec.goAt + s.sec.idleS * 1000000000 ≤ s.now) : s.sessIdle = s.endSession 3 := by
  unfold State.sessIdle
  rw [if_pos (by simp [h2, h])]
theorem State.sessLife_due (h2 : s.sec.st = 2) (h : s.sec.openAt + s.sec.lifeMin * 60000000000 ≤ s.now) : s.sessLife = s.endSession 4 := by
  unfold State.sessLife
  rw [if_pos (by simp [h2, h])]
theorem State.now_at_le {n : Nat} (t : Nat) (h : n ≤ s.now) : n ≤ (s.at t).now := h.trans (Nat.le_max_left ..)

end Sys2Proof.Machine
open Sys2Proof Sys2Proof.Machine

/-- Settles O49: each message by what it leaves before the end of the update (`State.handshake`, `State.attemptMarked`, `State.opened`,
`State.sessionOver`), which the end of the update keeps; T24 by `serviceEnd_gives`. -/
theorem handshake : Obligations.Handshake := by
  unfold Obligations.Handshake
  refine ⟨fun t s sid nd eph c h hs hw h0 hr hh => ?_, fun t s sid nd eph c hs hw h0 hbad => ?_, fun t s sid nd eph c hs hw h0 hb hok => ?_,
    fun t s sid nd eph c hs hw h0 hok hl => ?_, fun t s c g life hs hw h1 hb hr hc hg hlife => ?_, fun t s x hs hw h1 hb hr h5 h8 => ?_,
    fun t s x hs hw h1 hb hr hx => ?_, fun t s hs h1 hdue hlate => ?_, fun t s hs hdue => ?_, fun t s w hs hp hlt => ?_,
    fun t s x q hs hp hq => ?_, fun t s hs hp hl h2 hn hm => ?_, fun t s hs hdue h2 hn hm => ?_, fun t s hs hdue h2 hn hm => ?_,
    fun t s hs h2 hin hend hdue => ?_, fun t s hs h2 hn hm hfh hdue => ?_⟩
  · subst hh
    have hx : (s.at t).hello sid.toNat nd.toNat eph.toNat c.toNat = (s.at t).handshake s.sec.msg sid.toNat nd.toNat eph.toNat c.toNat :=
      (State.hello_due (s := s.at t) hw (.inl h0) ..).trans (if_pos hr)
    refine run_gives (f := fun s => s.hello sid.toNat nd.toNat eph.toNat c.toNat) rfl hx hs fun u _ hf => ?_
    have hsec := hf.sec
    refine ⟨?_, ?_, ?_, ?_, ?_, ?_, ⟨?_, ?_, ?_, ?_, ?_⟩, (hf.changes (s := s.at t) (Changes.sec _ _)).of_at⟩ <;> rw [hsec] <;> rfl
  · have hr : (s.at t).helloRes s.sec.msg = 1 := by
      unfold State.helloRes
      rw [hbad]
      rfl
    have hx := State.hello_refused (s := s.at t) hw (.inl h0) hr (by decide) (by decide) sid.toNat nd.toNat eph.toNat c.toNat
    have hfr := (State.attemptFailed_framed (s.at t) s.sec.msgBus 1).answer 1 (m4Head 1 (Config.m4Open 1).toNat)
    have hrec := State.attemptFailed_records (s.at t) s.sec.msgBus 1
    obtain ⟨hsec, -, -, hpow⟩ := State.attemptMarked_sec_uncounted (s := s.at t) (res := 1) (by decide)
    refine run_gives (f := fun s => s.hello sid.toNat nd.toNat eph.toNat c.toNat) rfl hx
      (hfr.calm.trans ((congrArg Power.wantSafestopClr hpow).trans hs)) fun u _ hf => ?_
    have hg := hfr.trans hf
    have hst : u.sec.st = s.sec.st := by rw [hg.sec]; exact (congrArg Sec.st hsec :)
    refine ⟨hst.trans h0, ⟨by rw [hg.sec]; rfl, by rw [hg.sec]; rfl, by rw [hg.sec]; rfl⟩,
      (hg.get _ _ (by decide)).trans State.attemptMarked_sticky,
      (hg.get _ _ (by decide)).trans (State.attemptMarked_failN_uncounted (s := s.at t) (by decide)), hf.records hrec, ?_⟩
    rw [State.attemptMarked_uncounted (by decide)] at hg
    exact (hg.changes (s := s.at t) (Changes.secSet _ _ (by decide) (by decide) _)).of_at
  · have hr : (s.at t).helloRes s.sec.msg = 2 := by
      have hne : ((s.at t).sec.st != 0) = true := by simpa using h0
      unfold State.helloRes
      rw [hok, hne]
      rfl
    have hx := State.hello_refused (s := s.at t) hw (.inr hb) hr (by decide) (by decide) sid.toNat nd.toNat eph.toNat c.toNat
    have hfr := (State.attemptFailed_framed (s.at t) s.sec.msgBus 2).answer 2 (m4Head 2 (Config.m4Open 2).toNat)
    have hrec := State.attemptFailed_records (s.at t) s.sec.msgBus 2
    obtain ⟨hsec, -, -, hpow⟩ := State.attemptMarked_sec_uncounted (s := s.at t) (res := 2) (by decide)
    refine run_gives (f := fun s => s.hello sid.toNat nd.toNat eph.toNat c.toNat) rfl hx
      (hfr.calm.trans ((congrArg Power.wantSafestopClr hpow).trans hs)) fun u _ hf => ?_
    have hg := hfr.trans hf
    exact ⟨by rw [hg.sec]; exact (congrArg Sec.st hsec :), by rw [hg.sec]; exact (congrArg Sec.sid hsec :),
      ⟨by rw [hg.sec]; rfl, by rw [hg.sec]; rfl, by rw [hg.sec]; rfl⟩, hf.records hrec⟩
  · obtain ⟨y, m, hy, htold, hx⟩ := State.hello_locked (s := s.at t) hw h0 hok hl sid.toNat nd.toNat eph.toNat c.toNat
    have hfr := State.attemptFailed_framed y y.sec.msgBus 3
    obtain ⟨hsec, -, hrcd, hpow⟩ := State.attemptMarked_sec_uncounted (s := y) (res := 3) (by decide)
    refine run_gives (f := fun s => s.hello sid.toNat nd.toNat eph.toNat c.toNat) rfl hx
      ((hfr.answer 3 m).calm.trans ((congrArg Power.wantSafestopClr hpow).trans (hy.calm.trans hs))) fun u _ hf => ?_
    have hg := (hfr.answer 3 m).trans hf
    have hys : (y.attemptMarked 3).sec = (s.at t).lockSaid.sec := hsec.trans hy.sec
    refine ⟨by rw [hg.sec]; exact (congrArg Sec.st hys).trans h0, ⟨by rw [hg.sec]; rfl, by rw [hg.sec]; rfl, by rw [hg.sec]; rfl⟩,
      fun ht => hf.records (hfr.records ?_), by rw [hg.sec]; exact congrArg Sec.lockTold hys⟩
    unfold State.Records
    rw [hrcd]
    exact htold ht
  · subst hc hg hlife
    obtain ⟨items, m, heq⟩ := State.openSession_eq (s.at t) (certOf s.sec.msg)
    have hx : (s.at t).auth = (((s.at t).opened (certOf s.sec.msg)).logC 0x0E02 0 items).answer 0 m := by
      rw [State.auth_due (s := s.at t) hw h1 hb]
      exact (if_pos hr).trans heq
    have hlog : Framed ((s.at t).opened (certOf s.sec.msg)) (((s.at t).opened (certOf s.sec.msg)).logC 0x0E02 0 items) := State.logC_only _ _ rfl
    have hrec : (((s.at t).opened (certOf s.sec.msg)).logC 0x0E02 0 items).Records 0x0E02 := State.logC_records _ _ _ rfl
    have hfr := hlog.answer 0 m
    refine run_gives (f := State.auth) rfl hx (hfr.calm.trans hs) fun u _ hf => ?_
    have hg := hfr.trans hf
    have hsec := hg.sec
    refine ⟨?_, ?_, ?_, ?_, ?_, ?_, ?_, ?_, ?_, ⟨?_, ?_, ?_⟩, hf.records hrec,
      (hg.changes (s := s.at t) (ps := [.sec, .rcd, .otp]) (fs := [F.AUTH_FAIL_FAIL_N]) ⟨rfl, ?_⟩).of_at⟩
    case refine_8 => exact (hg.get _ _ (by decide)).trans (State.get_set_self (s.at t) F.AUTH_FAIL_FAIL_N 0 0)
    case refine_9 => rw [hg.otp]; rfl
    case refine_13 => exact (Changes.set (ps := []) (s := s.at t) (List.mem_singleton.2 rfl) (by decide) (by decide) 0).regs
    all_goals rw [hsec]; rfl
  · have hcount : (5 ≤ x && x ≤ 8) = true := by simp [h5, h8]
    obtain ⟨m, hx⟩ := State.auth_refused (s := s.at t) hw h1 hb hr (by omega)
    have hfr := (State.attemptFailed_framed (s.at t) s.sec.bus x).answer x m
    have hrec := State.attemptFailed_records (s.at t) s.sec.bus x
    obtain ⟨hsec, hotp, hpow⟩ := State.attemptMarked_sec_counted (s := s.at t) hcount
    refine run_gives (f := State.auth) rfl hx (hfr.calm.trans ((congrArg Power.wantSafestopClr hpow).trans hs)) fun u _ hf => ?_
    have hg := hfr.ended.trans hf
    have hu : u.sec = (((s.at t).attemptMarked x).answer x m).sec.ended := hg.sec
    refine ⟨by rw [hu]; rfl, by rw [hu]; rfl, ⟨by rw [hu]; rfl, by rw [hu]; rfl, by rw [hu]; rfl⟩,
      (hg.get _ _ (by decide)).trans State.attemptMarked_sticky,
      (hg.get _ _ (by decide)).trans (State.attemptMarked_failN_counted (s := s.at t) hcount), hg.otp.trans hotp, ?_, ?_, hf.records hrec⟩
    · rw [hu]
      exact congrArg Sec.lastFail hsec
    · rw [hu]
      refine (congrArg Sec.locked hsec).trans ?_
      rw [State.get_at]
      exact decide_eq_decide.2 (by omega)
  · have hcount : (5 ≤ x && x ≤ 8) = false := by rcases hx with rfl | rfl | rfl <;> rfl
    obtain ⟨m, hx⟩ := State.auth_refused (s := s.at t) hw h1 hb hr (by omega)
    have hfr := (State.attemptFailed_framed (s.at t) s.sec.bus x).answer x m
    obtain ⟨-, hotp, -, hpow⟩ := State.attemptMarked_sec_uncounted (s := s.at t) hcount
    refine run_gives (f := State.auth) rfl hx (hfr.calm.trans ((congrArg Power.wantSafestopClr hpow).trans hs)) fun u _ hf => ?_
    have hg := hfr.ended.trans hf
    have hu : u.sec = (((s.at t).attemptMarked x).answer x m).sec.ended := hg.sec
    exact ⟨by rw [hu]; rfl, ⟨by rw [hu]; rfl, by rw [hu]; rfl, by rw [hu]; rfl⟩,
      (hg.get _ _ (by decide)).trans (State.attemptMarked_failN_uncounted (s := s.at t) hcount), hg.otp.trans hotp⟩
  · have hx : (s.at t).handshakeTimeout = { (s.at t).attemptFailed s.sec.bus 8 with
        sec := { ((s.at t).attemptFailed s.sec.bus 8).sec.ended with lastRes := 8 } } := by
      have hwait : (s.at t).authWaits = false := by
        show (s.sec.busy && s.sec.msgBus == s.sec.bus && decide (s.sec.msgAt ≤ s.sec.hsAt + 1000000000)) = false
        rcases hlate with h | h
        · rw [h, Bool.false_and, Bool.false_and]
        · rw [decide_eq_false (by omega), Bool.and_false]
      have hd : (s.at t).sec.hsAt + 1000000000 ≤ (s.at t).now := State.now_at_le t hdue
      unfold State.handshakeTimeout
      rw [if_pos (by rw [hwait, decide_eq_true hd, show (s.at t).sec.st = 1 from h1]; rfl)]
      rfl
    have hfr := State.attemptFailed_framed (s.at t) s.sec.bus 8
    have hrec := State.attemptFailed_records (s.at t) s.sec.bus 8
    obtain ⟨-, -, hpow⟩ := State.attemptMarked_sec_counted (s := s.at t) (res := 8) rfl
    refine run_gives (f := State.handshakeTimeout) rfl hx (hfr.calm.trans ((congrArg Power.wantSafestopClr hpow).trans hs)) fun u _ hf => ?_
    have hg := (hfr.withSec _).trans hf
    exact ⟨by rw [hf.sec]; rfl, by rw [hf.sec]; rfl, by rw [hf.sec],
      (hg.get _ _ (by decide)).trans (State.attemptMarked_failN_counted (s := s.at t) rfl), (hg.get _ _ (by decide)).trans State.attemptMarked_sticky,
      hf.records hrec⟩
  · have hx : (s.at t).lockoutEnd = { s.at t with sec := { s.sec with locked := false } } := if_pos (State.now_at_le t hdue)
    exact run_gives (f := State.lockoutEnd) rfl hx hs fun u _ hf =>
      ⟨by rw [hf.sec], (hf.changes (s := s.at t) (Changes.sec _ _)).of_at⟩
  · refine run_gives rfl (State.hostWrite_push (s := s.at t) hp w) hs fun u _ hf => ?_
    rw [hf.sec]
    exact ⟨if_pos hlt, rfl⟩
  · refine run_gives (f := fun s => (s.hostRead .spi 0x0218).2.2) rfl (State.hostRead_pop (s := s.at t) hp) hs fun u _ hf =>
      ⟨?_, ?_, (hf.changes (s := s.at t) (Changes.sec _ _)).of_at⟩
    · rw [hf.sec]
      exact congrArg (List.drop 1) hq
    · rw [hf.sec]
      show (s.sec.rxReady && !(s.sec.pop.drop 1).isEmpty) = _
      rw [hq]
      rfl
  · exact sessionOver_gives (f := fun s => s.hostWrite .spi 0x0210 (0x40000000 + s.get F.SESS_CTRL_LEN)) rfl
      (State.hostWrite_abort (s := s.at t) hp hl) hs h2 hn hm
  · exact sessionOver_gives (f := State.sessIdle) rfl (State.sessIdle_due (s := s.at t) h2 (State.now_at_le t hdue)) hs h2 hn hm
  · exact sessionOver_gives (f := State.sessLife) rfl (State.sessLife_due (s := s.at t) h2 (State.now_at_le t hdue)) hs h2 hn hm
  · have hx : (s.at t).sessLife = { s.at t with sec := { s.sec with ending := some 4 } } := by
      rw [State.sessLife_due (s := s.at t) h2 (State.now_at_le t hdue)]
      unfold State.endSession
      rw [if_pos (by simp [h2, hin])]
      show ({ s.at t with sec := { s.sec with ending := some (s.sec.ending.getD 4) } } : State) = _
      rw [hend]
      rfl
    exact run_gives (f := State.sessLife) rfl hx hs fun u _ hf =>
      ⟨by rw [hf.sec]; exact h2, by rw [hf.sec], by rw [hf.sec], (hf.changes (s := s.at t) (Changes.sec _ _)).of_at⟩
  · have hx : (s.at t).sessIdle = ((s.at t).overTold 3).serviceEnd := by
      rw [State.sessIdle_due (s := s.at t) h2 (State.now_at_le t hdue)]
      exact State.endSession_service (s := s.at t) h2 hn hm (by decide) (by decide)
    have hhold : ((s.at t).overTold 3).get F.FAULT_HOLD_FAULT_HOLD = 0 := by
      have hregs : ((s.at t).overTold 3).regs = s.regs := State.raise_regs _ _ _ _ _ rfl
      unfold State.get
      rw [hregs]
      exact (by simpa [State.flag] using hfh : s.get F.FAULT_HOLD_FAULT_HOLD = 0)
    have hsec : ((s.at t).overTold 3).sec = s.sec.ended := (State.logC_only (s.at t).sessionOver _ rfl).sec
    refine (serviceEnd_gives rfl hx hhold).mono fun u ⟨hf, hmode, htrans, hst⟩ => ⟨?_, hmode, htrans, ?_⟩
    · rw [hf.sec, State.serviceEnd_sec hhold, hsec]
      rfl
    · exact List.all_eq_true.2 fun r _ => by rw [hst r]; rfl
end


section
/-!
PMBus transactions (R457, R464): what a transaction drives, what a register read gives the bus, and the set-point command behind SP_CMD.
-/
namespace Sys2Proof.Machine

variable {b s x u : State} {i : Instr} {t : Nat} {f : State → State} {w : Who} {a v : Nat}

/-! ## The transaction -/

/-- The command byte acknowledged, nothing driven yet. -/
def State.ackd (s : State) : State := { s with pmb := { s.pmb with nack := false, out := [] } }

theorem State.pmbRun_open (h : s.regsUp = true) (hs : s.sessOn 1 = false) (code : Nat) (xf : Xfer) (rd : Option (State → State))
    (wr : Option (List Byte → State → State)) : s.pmbRun code xf rd wr = match xf with
      | .read => match rd with
        | some f => f s.ackd
        | none => s.ackd.pmbInvalid
      | .write data byte =>
        if byte != some (s.pecByte code data) then (s.ackd.inc F.PMB_STATUS_PEC_ERR).cml 32
        else match wr with
          | some f => f data s.ackd
          | none => s.ackd.pmbInvalid := by
  unfold State.pmbRun
  rw [h, hs]
  rfl
theorem State.pmbRun_read (h : s.regsUp = true) (hs : s.sessOn 1 = false) (code : Nat) (f : State → State) (wr : Option (List Byte → State → State)) :
    s.pmbRun code .read (some f) wr = f s.ackd := State.pmbRun_open h hs code .read (some f) wr
theorem State.pmbRun_sent (h : s.regsUp = true) (hs : s.sessOn 1 = false) (code : Nat) (d : List Byte) (rd : Option (State → State))
    (f : List Byte → State → State) : s.pmbRun code (s.sent code d) rd (some f) = f d s.ackd := by
  rw [State.pmbRun_open h hs]
  exact if_neg (by simp)
theorem State.pmbRun_unread (h : s.regsUp = true) (hs : s.sessOn 1 = false) (code : Nat) (d : List Byte) (rd : Option (State → State)) :
    s.pmbRun code (s.sent code d) rd none = s.ackd.pmbInvalid := by
  rw [State.pmbRun_open h hs]
  exact if_neg (by simp)
theorem State.pmbRun_pec (h : s.regsUp = true) (hs : s.sessOn 1 = false) {code : Nat} {d : List Byte} {p : Option Byte}
    (hp : p ≠ some (s.pecByte code d)) (rd : Option (State → State)) (wr : Option (List Byte → State → State)) :
    s.pmbRun code (.write d p) rd wr = (s.ackd.inc F.PMB_STATUS_PEC_ERR).cml 32 := by
  rw [State.pmbRun_open h hs]
  exact if_pos (by simpa using hp)

/-- The PMBus side alone. -/
theorem Changes.pmb (p : Pmbus) : Changes [.pmb] [] s { s with pmb := p } := ⟨rfl, fun _ _ _ => rfl⟩
/-- The PMBus side and fields that the end of an update may write. -/
theorem Changes.pmbFramed {y : State} (hx : Framed { s with pmb := y.pmb } y) : Changes [.pmb] [] s y := hx.changes (Changes.pmb _)

/-- What the end of an update leaves of the PMBus side. -/
def Pmbus.rest (p : Pmbus) : Pmbus := { p with released := false, seen := 0 }
theorem Framed.pmbRest (h : Framed b s) : s.pmb.rest = b.pmb.rest := congrArg (fun x : State => x.pmb) h.rest
theorem Framed.pmbOut (h : Framed b s) : s.pmb.out = b.pmb.out := (congrArg Pmbus.out h.pmbRest :)
theorem Framed.pmbNack (h : Framed b s) : s.pmb.nack = b.pmb.nack := (congrArg Pmbus.nack h.pmbRest :)

/-- Bytes driven before the end of the update stand after it. -/
theorem Framed.drives (h : Framed x u) {code : Nat} {l : List Byte} (hp : x.pmb = (s.ackd.pmbOut code l).pmb) : s.Drives u code l :=
  ⟨by rw [h.pmbNack, hp]; rfl, by rw [h.pmbOut, hp]; rfl⟩

/-- A transaction that drives its bytes and does nothing else. -/
theorem drives_gives {code : Nat} {l : List Byte} (hi : exec i s = run t f s) (hx : f (s.at t) = (s.at t).ackd.pmbOut code l) (hc : s.Calm) :
    Gives i s (fun u => s.Drives u code l ∧ Changes [.pmb] [] s u) :=
  run_gives hi hx hc fun _ _ hf => ⟨hf.drives (s := s) rfl, (hf.changes (s := s.at t) (Changes.pmb _)).of_at⟩

/-! ## STATUS_CML -/

theorem State.cml_framed (s : State) (v : Nat) : Framed s (s.cml v) := Framed.pmbBits (.refl s) v (touch (by decide) (by decide))
theorem State.cml_set (s : State) {k v : Nat} (hk : k < 8) (hv : v.testBit k = true) : CmlSet k (s.cml v) := by
  refine ⟨hk, ?_⟩
  rw [State.cml, State.pmbBits_eq, State.get_set_self]
  simp [Nat.testBit_mod_two_pow, hv, show k < F.PMB_STATUS_STATUS_CML.width from hk]

/-! ## Register reads by the bus -/

theorem State.who_pmb (h : s.sessOn 1 = false) : s.who .pmb = ⟨.pmb, .p2⟩ := by simp [State.who, h]
theorem State.sealOff_pmb (h : s.sessOn 1 = false) (a : Nat) : s.sealOff .pmb a = false := by simp [State.sealOff, h]

/-- The fields that P2 may always read. -/
def Cls.forP2 : Cls → Bool
  | .secret | .raw => false
  | _ => true
theorem State.mayRead_p2 (hw : w.person = .p2) {g : Fld} (hg : g.cls.forP2 = true) (k : Nat) : s.mayRead w g k = true := by
  unfold State.mayRead
  rw [hw]
  cases h : g.cls <;> first | rfl | (rw [h] at hg; cases hg)

/-- A read of a register whose fields are all open to P2 and none fused off. -/
theorem State.regRead_p2 {l : List (Fld × Nat)} (hs : s.sealOff w.path a = false) (hw : w.person = .p2) (hfor : s.fieldsFor a = l)
    (hne : l ≠ []) (hread : ∀ e ∈ l, e.1.cls.forP2 = true) (hf : ∀ e ∈ l, s.fusedField e.1 e.2 = false) : s.regRead w a =
      (rOk, l.foldl (fun acc e => acc + s.value w e.1 e.2 % 2 ^ e.1.width * 2 ^ e.1.pos e.2) 0, s.readEffect w a) := by
  have hseen : l.filter (fun e => s.mayRead w e.1 e.2) = l := List.filter_eq_self.2 fun e he => State.mayRead_p2 hw (hread e he) _
  have hkept : l.filter (fun e => !s.fusedField e.1 e.2) = l := List.filter_eq_self.2 fun e he => by rw [hf e he]; rfl
  unfold State.regRead
  simp [hs, hfor, hne, hseen, hkept]

/-- A field that reads as it is held. -/
structure Fld.Read (g : Fld) : Prop where
  wo : g.acc.wo = false
  loaded : g.loaded = false
  mask : fusedMask g = 0
theorem State.value_of_viewA {g : Fld} (h : g.Read) {k : Nat} (hv : s.viewA g k = some v) : s.value w g k = v := by
  unfold State.value
  simp [h.wo, h.loaded, h.mask, hv]
theorem State.value_of_viewC {g : Fld} (h : g.Read) {k : Nat} (hA : s.viewA g k = none) (hB : s.viewB w g k = none) (hv : s.viewC g k = some v) :
    s.value w g k = v := by
  unfold State.value
  simp [h.wo, h.loaded, h.mask, hA, hB, hv]
theorem State.value_of_viewE {g : Fld} (h : g.Read) {k : Nat} (hA : s.viewA g k = none) (hB : s.viewB w g k = none) (hC : s.viewC g k = none)
    (hD : s.viewD w g k = none) (hv : s.viewE w g k = some v) : s.value w g k = v := by
  unfold State.value
  simp [h.wo, h.loaded, h.mask, hA, hB, hC, hD, hv]
theorem State.value_of_held {g : Fld} (h : g.Read) {k : Nat} (hA : s.viewA g k = none) (hB : s.viewB w g k = none) (hC : s.viewC g k = none)
    (hD : s.viewD w g k = none) (hE : s.viewE w g k = none) : s.value w g k = s.get g k := by
  unfold State.value
  simp [h.wo, h.loaded, h.mask, hA, hB, hC, hD, hE]
theorem State.value_wo {g : Fld} (h : g.acc.wo = true) (k : Nat) : s.value w g k = 0 := if_pos h

/-- A register that the bus may read is answered as a block (R464). -/
theorem State.pmbReg_ok {code d : Nat} (hs : s.sessOn 1 = false) {y : State} (hr : s.ackd.regRead ⟨.pmb, .p2⟩ a = (rOk, d, y)) :
    s.ackd.pmbReg code a = y.pmbOut code (block (leBytes 4 d)) := by
  unfold State.pmbReg
  rw [State.who_pmb (s := s.ackd) hs, hr]
  rfl

end Sys2Proof.Machine
end

section
/-!
The manufacturer commands of PMBus (Table 16.5): the register port, the session's registers, the recorder's bank and the published values.
-/
namespace Sys2Proof.Machine

variable {s : State} {w : Who} {a v : Nat}

/-! ## Accesses that are answered at once or wait -/

theorem State.readEffect_none (h1 : a ≠ 0x0218) (h2 : ¬(0x6010 ≤ a ∧ a ≤ 0x602C)) (h3 : a ≠ 0x5014) : s.readEffect w a = s := by
  have hdata : (decide (0x6010 ≤ a) && decide (a ≤ 0x602C)) = false := by simpa using h2
  unfold State.readEffect
  simp [h1, hdata, h3]
theorem State.issueRead_done {res d : Nat} {y : State} (hr : s.regRead w a = (res, d, y)) (hb : s.bridged w false a 0 = false) :
    s.issueRead w a = .done res d y := by
  unfold State.issueRead
  simp [hr, hb]
theorem State.issueRead_waits (hr : (s.regRead w a).1 = rOk) (hb : s.bridged w false a 0 = true) :
    s.issueRead w a = .waits (s.withC4 (s.br.c4 ++ [⟨w.path, w.person, false, a, 0⟩])) := by
  unfold State.issueRead
  simp [hr, hb]
theorem State.bridged_read {l : List (Fld × Nat)} (hfor : s.fieldsFor a = l) : s.bridged w false a 0 = l.any (fun e => e.1.front) := by
  unfold State.bridged
  rw [hfor, Bool.false_and, Bool.or_false]

/-! ## The registers read -/

theorem fieldsAt_DEVICE_ID : fieldsAt (normAddr 0) = [(F.DEVICE_ID_PART, 0), (F.DEVICE_ID_REV, 0)] := by decide +kernel
theorem fieldsAt_TEMP_DIE : fieldsAt (normAddr 0x3808) = [(F.TEMP_DIE_HI_STALE, 0), (F.TEMP_DIE_HI_FAILED, 0), (F.TEMP_DIE_HI_TEMP, 0),
    (F.TEMP_DIE_LO_STALE, 0), (F.TEMP_DIE_LO_FAILED, 0), (F.TEMP_DIE_LO_TEMP, 0)] := by decide +kernel
theorem fieldsAt_SESS_STAT : fieldsAt (normAddr 0x0214) = [(F.SESS_STAT_LAST_RES, 0), (F.SESS_STAT_RX_LEN, 0), (F.SESS_STAT_RX_READY, 0),
    (F.SESS_STAT_BUSY, 0), (F.SESS_STAT_IDLE_LEFT, 0)] := by decide +kernel
theorem fieldsAt_REC_NEWEST : fieldsAt (normAddr 0x6004) = [(F.REC_NEWEST_SEQ, 0)] := by decide +kernel
theorem fieldsAt_REC_DATA : ∀ k : Fin 8, fieldsAt (normAddr (0x602C - 4 * k.val)) = [(F.REC_DATA_DATA, 7 - k.val)] := by decide +kernel
theorem fieldsAt_RAIL_STATE : fieldsAt (normAddr 0x000C) = (List.range 8).map (fun i => (F.RAIL_STATE_ST, i)) := by decide +kernel
theorem fieldsAt_FW_PUB : ∀ i : Fin 16, fieldsAt (normAddr (0x7140 + 4 * i.val)) = [(F.FW_PUB_VALUE, i.val)] := by decide +kernel
theorem fieldsAt_MODE_STATUS : fieldsAt (normAddr 0x0008) = [(F.MODE_STATUS_MODE, 0), (F.MODE_STATUS_PREV_MODE, 0), (F.MODE_STATUS_LAST_TRANS, 0),
    (F.MODE_STATUS_WAKE_SRC, 0), (F.MODE_STATUS_WAKE_FAIL_CNT, 0), (F.MODE_STATUS_CT_FAIL_CNT, 0), (F.MODE_STATUS_SHUTDOWN_ACT, 0),
    (F.MODE_STATUS_WAKE_PEND, 0), (F.MODE_STATUS_SAFESTOP_CLR, 0), (F.MODE_STATUS_SLEEP_REQ, 0)] := by decide +kernel
theorem fieldsAt_SP_CMD : ∀ r : Fin 8, fieldsAt (normAddr (0x10B4 + 256 * r.val)) = [(F.SP_CMD_CODE, r.val)] := by decide +kernel

theorem State.regRead_deviceId (hs : s.sessOn 1 = false) : s.regRead ⟨.pmb, .p2⟩ 0 =
    (rOk, (if s.cz1604 then 0x1604 else 0x3208) * 65536 + s.get F.DEVICE_ID_REV % 16 * 4096, s) := by
  have hpart : s.value ⟨.pmb, .p2⟩ F.DEVICE_ID_PART 0 = if s.cz1604 then 0x1604 else 0x3208 :=
    State.value_of_viewA ⟨rfl, rfl, rfl⟩ rfl
  have hrev : s.value ⟨.pmb, .p2⟩ F.DEVICE_ID_REV 0 = s.get F.DEVICE_ID_REV := State.value_of_held ⟨rfl, rfl, rfl⟩ rfl rfl rfl rfl rfl
  rw [State.regRead_p2 (State.sealOff_pmb hs 0) rfl ((State.fieldsFor_eq rfl).trans fieldsAt_DEVICE_ID) (by simp) (by decide)
    fun e he => State.fusedField_device ((by decide : ∀ e ∈ [(F.DEVICE_ID_PART, 0), (F.DEVICE_ID_REV, 0)], e.1.index = 0 ∧ e.1.base ≠ 0x3880) e he) _,
    State.readEffect_none (by decide) (by decide) (by decide)]
  simp only [List.foldl_cons, List.foldl_nil, hpart, hrev]
  cases s.cz1604 <;> rfl

/-- The session's registers, the recorder's and the published values, as P2 reads them over PMBus. -/
theorem State.regRead_sessCtrl (hs : s.sessOn 1 = false) (hl : s.get F.SESS_CTRL_LEN < 4096) :
    s.regRead ⟨.pmb, .p2⟩ 0x0210 = (rOk, s.get F.SESS_CTRL_LEN, s) := by
  have hgo : s.value ⟨.pmb, .p2⟩ F.SESS_CTRL_GO 0 = 0 := State.value_wo rfl 0
  have habort : s.value ⟨.pmb, .p2⟩ F.SESS_CTRL_ABORT 0 = 0 := State.value_wo rfl 0
  have hlen : s.value ⟨.pmb, .p2⟩ F.SESS_CTRL_LEN 0 = s.get F.SESS_CTRL_LEN := State.value_of_held ⟨rfl, rfl, rfl⟩ rfl rfl rfl rfl rfl
  rw [State.regRead_p2 (State.sealOff_pmb hs _) rfl ((State.fieldsFor_eq rfl).trans fieldsAt_SESS_CTRL) (by simp) (by decide)
    fun e he => State.fusedField_device
      ((by decide : ∀ e ∈ [(F.SESS_CTRL_GO, 0), (F.SESS_CTRL_ABORT, 0), (F.SESS_CTRL_LEN, 0)], e.1.index = 0 ∧ e.1.base ≠ 0x3880) e he) _,
    State.readEffect_none (by decide) (by decide) (by decide)]
  simp only [List.foldl_cons, List.foldl_nil, hgo, habort, hlen]
  have hsum : 0 + 0 % 2 ^ 1 * 2 ^ 31 + 0 % 2 ^ 1 * 2 ^ 30 + s.get F.SESS_CTRL_LEN % 2 ^ 12 * 2 ^ 0 = s.get F.SESS_CTRL_LEN := by omega
  exact congrArg (fun n => (rOk, n, s)) hsum

theorem State.regRead_sessStat (hs : s.sessOn 1 = false) (h2 : s.sec.st ≠ 2) (hr : s.sec.lastRes < 256) (hl : s.sec.rxLen < 4096) :
    s.regRead ⟨.pmb, .p2⟩ 0x0214 = (rOk, s.sec.lastRes * 2 ^ 24 + s.sec.rxLen * 2 ^ 12 + (if s.sec.rxReady then 2 ^ 11 else 0)
      + (if s.sec.busy then 2 ^ 10 else 0), s) := by
  have hres : s.value ⟨.pmb, .p2⟩ F.SESS_STAT_LAST_RES 0 = s.sec.lastRes := State.value_of_viewC ⟨rfl, rfl, rfl⟩ rfl rfl rfl
  have hlen : s.value ⟨.pmb, .p2⟩ F.SESS_STAT_RX_LEN 0 = s.sec.rxLen := State.value_of_viewC ⟨rfl, rfl, rfl⟩ rfl rfl rfl
  have hready : s.value ⟨.pmb, .p2⟩ F.SESS_STAT_RX_READY 0 = b2n s.sec.rxReady := State.value_of_viewC ⟨rfl, rfl, rfl⟩ rfl rfl rfl
  have hbusy : s.value ⟨.pmb, .p2⟩ F.SESS_STAT_BUSY 0 = b2n s.sec.busy := State.value_of_viewC ⟨rfl, rfl, rfl⟩ rfl rfl rfl
  have hidle : s.value ⟨.pmb, .p2⟩ F.SESS_STAT_IDLE_LEFT 0 = 0 := State.value_of_viewC ⟨rfl, rfl, rfl⟩ rfl rfl (congrArg some (if_neg h2))
  rw [State.regRead_p2 (State.sealOff_pmb hs _) rfl ((State.fieldsFor_eq rfl).trans fieldsAt_SESS_STAT) (by simp) (by decide)
    fun e he => State.fusedField_device
      ((by decide : ∀ e ∈ [(F.SESS_STAT_LAST_RES, 0), (F.SESS_STAT_RX_LEN, 0), (F.SESS_STAT_RX_READY, 0), (F.SESS_STAT_BUSY, 0),
        (F.SESS_STAT_IDLE_LEFT, 0)], e.1.index = 0 ∧ e.1.base ≠ 0x3880) e he) _,
    State.readEffect_none (by decide) (by decide) (by decide)]
  simp only [List.foldl_cons, List.foldl_nil, hres, hlen, hready, hbusy, hidle]
  have hsum : 0 + s.sec.lastRes % 2 ^ 8 * 2 ^ 24 + s.sec.rxLen % 2 ^ 12 * 2 ^ 12 + b2n s.sec.rxReady % 2 ^ 1 * 2 ^ 11
      + b2n s.sec.busy % 2 ^ 1 * 2 ^ 10 + 0 % 2 ^ 8 * 2 ^ 0 = s.sec.lastRes * 2 ^ 24 + s.sec.rxLen * 2 ^ 12
        + (if s.sec.rxReady then 2 ^ 11 else 0) + (if s.sec.busy then 2 ^ 10 else 0) := by
    cases s.sec.rxReady <;> cases s.sec.busy <;> simp [b2n, Nat.mod_eq_of_lt hr, Nat.mod_eq_of_lt hl]
  exact congrArg (fun n => (rOk, n, s)) hsum

theorem State.regRead_newest (hs : s.sessOn 1 = false) (hl : s.get F.REC_NEWEST_SEQ < 2 ^ 32) :
    s.regRead ⟨.pmb, .p2⟩ 0x6004 = (rOk, s.get F.REC_NEWEST_SEQ, s) := by
  have hseq : s.value ⟨.pmb, .p2⟩ F.REC_NEWEST_SEQ 0 = s.get F.REC_NEWEST_SEQ := State.value_of_held ⟨rfl, rfl, rfl⟩ rfl rfl rfl rfl rfl
  rw [State.regRead_p2 (State.sealOff_pmb hs _) rfl ((State.fieldsFor_eq rfl).trans fieldsAt_REC_NEWEST) (by simp) (by decide)
    fun e he => State.fusedField_device (by rw [List.mem_singleton.1 he]; decide) _, State.readEffect_none (by decide) (by decide) (by decide)]
  simp only [List.foldl_cons, List.foldl_nil, hseq]
  have hsum : 0 + s.get F.REC_NEWEST_SEQ % 2 ^ 32 * 2 ^ 0 = s.get F.REC_NEWEST_SEQ := by
    rw [Nat.mod_eq_of_lt hl, Nat.pow_zero, Nat.mul_one, Nat.zero_add]
  exact congrArg (fun n => (rOk, n, s)) hsum

theorem State.regRead_pub (hs : s.sessOn 1 = false) (i : Fin 16) (hl : s.get F.FW_PUB_VALUE i < 2 ^ 32) :
    s.regRead ⟨.pmb, .p2⟩ (0x7140 + 4 * i.val) = (rOk, s.get F.FW_PUB_VALUE i, s) := by
  have hval : s.value ⟨.pmb, .p2⟩ F.FW_PUB_VALUE i = s.get F.FW_PUB_VALUE i := State.value_of_held ⟨rfl, rfl, rfl⟩ rfl rfl rfl rfl rfl
  have haddr : fusedAddr (0x7140 + 4 * i.val) = false := (by decide : ∀ i : Fin 16, fusedAddr (0x7140 + 4 * i.val) = false) i
  rw [State.regRead_p2 (State.sealOff_pmb hs _) rfl ((State.fieldsFor_eq haddr).trans (fieldsAt_FW_PUB i)) (by simp)
    (fun e he => by rw [List.mem_singleton.1 he]; rfl)
    fun e he => State.fusedField_device (by rw [List.mem_singleton.1 he]; exact (by decide : F.FW_PUB_VALUE.index = 0 ∧ F.FW_PUB_VALUE.base ≠ 0x3880)) _,
    State.readEffect_none (by omega) (by omega) (by omega)]
  simp only [List.foldl_cons, List.foldl_nil, hval]
  have hpos : F.FW_PUB_VALUE.pos i = 0 := show 0 + 0 * i.val = 0 by omega
  have hsum : 0 + s.get F.FW_PUB_VALUE i % 2 ^ 32 * 2 ^ F.FW_PUB_VALUE.pos i = s.get F.FW_PUB_VALUE i := by
    rw [Nat.mod_eq_of_lt hl, hpos, Nat.pow_zero, Nat.mul_one, Nat.zero_add]
  exact congrArg (fun n => (rOk, n, s)) hsum

theorem State.regRead_railState (hs : s.sessOn 1 = false) (hz : s.cz1604 = false) : s.regRead ⟨.pmb, .p2⟩ 0x000C =
    (rOk, (List.range 8).foldl (fun a i => a + (s.mirRail.getD i .off).code * 16 ^ i) 0, s) := by
  have hst : ∀ i, s.value ⟨.pmb, .p2⟩ F.RAIL_STATE_ST i = (s.mirRail.getD i .off).code := fun i => State.value_of_viewA ⟨rfl, rfl, rfl⟩ rfl
  have hcode : ∀ x : RailState, x.code % 2 ^ 4 = x.code := fun x => by cases x <;> rfl
  rw [State.regRead_p2 (State.sealOff_pmb hs _) rfl ((State.fieldsFor_eq rfl).trans fieldsAt_RAIL_STATE) (by simp) (by decide)
    fun e he => State.fusedField_full hz _ _, State.readEffect_none (by decide) (by decide) (by decide), List.foldl_map]
  have hterm : ∀ a i, a + s.value ⟨.pmb, .p2⟩ F.RAIL_STATE_ST i % 2 ^ F.RAIL_STATE_ST.width * 2 ^ F.RAIL_STATE_ST.pos i =
      a + (s.mirRail.getD i .off).code * 16 ^ i := fun a i => by
    have hpow : 2 ^ F.RAIL_STATE_ST.pos i = 16 ^ i := by
      rw [show F.RAIL_STATE_ST.pos i = 4 * i from Nat.zero_add _, Nat.pow_mul]
    rw [hst, hpow, show F.RAIL_STATE_ST.width = 4 from rfl, hcode]
  simp only [hterm]

end Sys2Proof.Machine
end

section
/-!
The same commands, the rest: the mode, the recorder's words, the mailbox over PMBus, GO, and SP_CMD over the register port.
-/
namespace Sys2Proof.Machine

variable {s : State} {w : Who} {a v : Nat}

theorem leNat_leBytes : ∀ (k n : Nat), leNat (leBytes k n) = n % 256 ^ k
  | 0, n => by simp [leNat, leBytes, Nat.mod_one]
  | k + 1, n => by
    have ih := leNat_leBytes k (n / 256)
    show (BitVec.ofNat 8 n).toNat + 256 * leNat (leBytes k (n / 256)) = n % 256 ^ (k + 1)
    rw [ih, BitVec.toNat_ofNat, show 256 ^ (k + 1) = 256 * 256 ^ k from Nat.pow_succ', Nat.mod_mul (x := n) (a := 256) (b := 256 ^ k)]
theorem leNat_leBytes_4 {n : Nat} (h : n < 2 ^ 32) : leNat (leBytes 4 n) = n := (leNat_leBytes 4 n).trans (Nat.mod_eq_of_lt h)

/-! ## The mode -/

theorem Mode.code_lt (m : Mode) : m.code < 16 := by cases m <;> decide
theorem State.regRead_mode (hs : s.sessOn 1 = false) : ∃ v, s.regRead ⟨.pmb, .p2⟩ 0x0008 = (rOk, v, s) ∧ v < 2 ^ 32 ∧ v / 2 ^ 28 = s.mode.code
    ∧ v / 2 ^ 19 % 32 = s.get F.MODE_STATUS_LAST_TRANS % 32 := by
  have hmode : s.value ⟨.pmb, .p2⟩ F.MODE_STATUS_MODE 0 = s.mode.code := State.value_of_viewA ⟨rfl, rfl, rfl⟩ rfl
  have hlast : s.value ⟨.pmb, .p2⟩ F.MODE_STATUS_LAST_TRANS 0 = s.get F.MODE_STATUS_LAST_TRANS :=
    State.value_of_held ⟨rfl, rfl, rfl⟩ rfl rfl rfl rfl rfl
  have hclr : s.value ⟨.pmb, .p2⟩ F.MODE_STATUS_SAFESTOP_CLR 0 = 0 := State.value_wo rfl 0
  have hsleep : s.value ⟨.pmb, .p2⟩ F.MODE_STATUS_SLEEP_REQ 0 = 0 := State.value_wo rfl 0
  refine ⟨([(F.MODE_STATUS_MODE, 0), (F.MODE_STATUS_PREV_MODE, 0), (F.MODE_STATUS_LAST_TRANS, 0),
    (F.MODE_STATUS_WAKE_SRC, 0), (F.MODE_STATUS_WAKE_FAIL_CNT, 0), (F.MODE_STATUS_CT_FAIL_CNT, 0), (F.MODE_STATUS_SHUTDOWN_ACT, 0),
    (F.MODE_STATUS_WAKE_PEND, 0), (F.MODE_STATUS_SAFESTOP_CLR, 0), (F.MODE_STATUS_SLEEP_REQ, 0)] : List (Fld × Nat)).foldl
    (fun a e => a + s.value ⟨.pmb, .p2⟩ e.1 e.2 % 2 ^ e.1.width * 2 ^ e.1.pos e.2) 0, ?_, ?_⟩
  · rw [State.regRead_p2 (State.sealOff_pmb hs _) rfl ((State.fieldsFor_eq rfl).trans fieldsAt_MODE_STATUS) (by simp) (by decide)
      fun e he => State.fusedField_device ((by decide : ∀ e ∈ [(F.MODE_STATUS_MODE, 0), (F.MODE_STATUS_PREV_MODE, 0), (F.MODE_STATUS_LAST_TRANS, 0),
        (F.MODE_STATUS_WAKE_SRC, 0), (F.MODE_STATUS_WAKE_FAIL_CNT, 0), (F.MODE_STATUS_CT_FAIL_CNT, 0), (F.MODE_STATUS_SHUTDOWN_ACT, 0),
        (F.MODE_STATUS_WAKE_PEND, 0), (F.MODE_STATUS_SAFESTOP_CLR, 0), (F.MODE_STATUS_SLEEP_REQ, 0)],
        e.1.index = 0 ∧ e.1.base ≠ 0x3880) e he) _,
      State.readEffect_none (by decide) (by decide) (by decide)]
  · simp only [List.foldl_cons, List.foldl_nil, hmode, hlast, hclr, hsleep]
    generalize s.value ⟨.pmb, .p2⟩ F.MODE_STATUS_PREV_MODE 0 = p
    generalize s.value ⟨.pmb, .p2⟩ F.MODE_STATUS_WAKE_SRC 0 = q
    generalize s.value ⟨.pmb, .p2⟩ F.MODE_STATUS_WAKE_FAIL_CNT 0 = r
    generalize s.value ⟨.pmb, .p2⟩ F.MODE_STATUS_CT_FAIL_CNT 0 = x
    generalize s.value ⟨.pmb, .p2⟩ F.MODE_STATUS_SHUTDOWN_ACT 0 = y
    generalize s.value ⟨.pmb, .p2⟩ F.MODE_STATUS_WAKE_PEND 0 = z
    have hm := s.mode.code_lt
    generalize s.mode.code = m at hm
    generalize s.get F.MODE_STATUS_LAST_TRANS = l
    show 0 + m % 2 ^ 4 * 2 ^ 28 + p % 2 ^ 4 * 2 ^ 24 + l % 2 ^ 5 * 2 ^ 19 + q % 2 ^ 3 * 2 ^ 16 + r % 2 ^ 4 * 2 ^ 12 + x % 2 ^ 4 * 2 ^ 8
      + y % 2 ^ 1 * 2 ^ 7 + z % 2 ^ 1 * 2 ^ 6 + 0 % 2 ^ 1 * 2 ^ 5 + 0 % 2 ^ 1 * 2 ^ 4 < 2 ^ 32 ∧ _ ∧ _
    refine ⟨by omega, ?_, ?_⟩
    · show (0 + m % 2 ^ 4 * 2 ^ 28 + p % 2 ^ 4 * 2 ^ 24 + l % 2 ^ 5 * 2 ^ 19 + q % 2 ^ 3 * 2 ^ 16 + r % 2 ^ 4 * 2 ^ 12 + x % 2 ^ 4 * 2 ^ 8
        + y % 2 ^ 1 * 2 ^ 7 + z % 2 ^ 1 * 2 ^ 6 + 0 % 2 ^ 1 * 2 ^ 5 + 0 % 2 ^ 1 * 2 ^ 4) / 2 ^ 28 = m
      omega
    · show (0 + m % 2 ^ 4 * 2 ^ 28 + p % 2 ^ 4 * 2 ^ 24 + l % 2 ^ 5 * 2 ^ 19 + q % 2 ^ 3 * 2 ^ 16 + r % 2 ^ 4 * 2 ^ 12 + x % 2 ^ 4 * 2 ^ 8
        + y % 2 ^ 1 * 2 ^ 7 + z % 2 ^ 1 * 2 ^ 6 + 0 % 2 ^ 1 * 2 ^ 5 + 0 % 2 ^ 1 * 2 ^ 4) / 2 ^ 19 % 32 = l % 32
      omega

/-! ## The recorder's words -/

/-- A record without a measured value reaches P2 as it was captured (R403). -/
theorem State.quantised_plain {l : List Nat} (hl : l.length = 8) (hlt : l.all (fun x => x < 2 ^ 32) = true) (hc : l.getD 0 0 % 65536 = 0x0301) :
    s.quantised l = l := by
  obtain ⟨a, b, c, d, e, f, g, h, rfl⟩ : ∃ a b c d e f g h, l = [a, b, c, d, e, f, g, h] := by
    match l, hl with
    | [a, b, c, d, e, f, g, h], _ => exact ⟨a, b, c, d, e, f, g, h, rfl⟩
  simp only [List.all_cons, List.all_nil, Bool.and_true, Bool.and_eq_true, decide_eq_true_eq] at hlt
  obtain ⟨ha, hb, hcc, hd, he, hf, hg, hh⟩ := hlt
  have hcode : leNat (slice ([a, b, c, d, e, f, g, h].flatMap (leBytes 4)) 0 2) = 0x0301 := by
    have : leNat (slice ([a, b, c, d, e, f, g, h].flatMap (leBytes 4)) 0 2) = leNat (leBytes 2 a) := rfl
    rw [this, leNat_leBytes]
    exact hc
  have hwords : (List.range 8).map (fun i => leNat (slice ([a, b, c, d, e, f, g, h].flatMap (leBytes 4)) (4 * i) 4)) =
      [leNat (leBytes 4 a), leNat (leBytes 4 b), leNat (leBytes 4 c), leNat (leBytes 4 d), leNat (leBytes 4 e), leNat (leBytes 4 f),
        leNat (leBytes 4 g), leNat (leBytes 4 h)] := rfl
  unfold State.quantised
  simp only [hcode]
  refine hwords.trans ?_
  rw [leNat_leBytes_4 ha, leNat_leBytes_4 hb, leNat_leBytes_4 hcc, leNat_leBytes_4 hd, leNat_leBytes_4 he, leNat_leBytes_4 hf,
    leNat_leBytes_4 hg, leNat_leBytes_4 hh]

end Sys2Proof.Machine
end

section
/-!
The manufacturer commands that touch the recorder's bank, the mailbox, GO and SP_CMD (R231, R412, R434, R465, R466).
-/
namespace Sys2Proof.Machine

variable {s x u : State} {w : Who} {a v : Nat}

/-! ## The recorder's bank of PMBus -/

theorem State.recSel_pmb (h : s.rcd.pmb.hist = false) (hv : v < 2 ^ 32) {r : Record} (hr : s.rcd.recs.find? (fun x => x.seq == v) = some r) :
    s.recSel 1 v = { s with rcd.pmb :=
      { s.rcd.pmb with sel := v, cap := (List.range 8).map (fun i => leNat (slice r.bytes (4 * i) 4)), missDue := false } } := by
  have hmod : v % 2 ^ 32 = v := Nat.mod_eq_of_lt hv
  unfold State.recSel State.bank State.putBank State.selected
  simp only [hmod, h, hr, if_true, Bool.false_eq_true, if_false, Option.map_some]

/-- A selection of PMBus that is not held is marked with the first word read. -/
def State.missRead (s : State) : State :=
  if s.rcd.pmb.missDue then { s.mark F.REC_STATUS_REC_MISS with rcd.pmb := { s.rcd.pmb with missDue := false } } else s
theorem State.missRead_bank (s : State) : s.missRead.rcd.pmb = { s.rcd.pmb with missDue := false } := by
  unfold State.missRead
  split
  · rfl
  · next h => rw [← Bool.eq_false_iff.2 h]
theorem State.missRead_sec (s : State) : s.missRead.sec = s.sec := by
  unfold State.missRead
  split <;> rfl
theorem State.missRead_pow (s : State) : s.missRead.pow = s.pow := by
  unfold State.missRead
  split <;> rfl
theorem State.missRead_pmb (s : State) : s.missRead.pmb = s.pmb := by
  unfold State.missRead
  split <;> rfl
theorem State.missRead_addr (s : State) : s.missRead.get F.STRAP_STATUS_PM_ADDR = s.get F.STRAP_STATUS_PM_ADDR := by
  unfold State.missRead
  split
  · exact State.get_set_of_ne s F.REC_STATUS_REC_MISS F.STRAP_STATUS_PM_ADDR 0 0 1 (by decide)
  · rfl
theorem State.missRead_of_read (h : s.rcd.pmb.missDue = false) : s.missRead = s := if_neg (by rw [h]; decide)
theorem State.missRead_twice (s : State) : s.missRead.missRead = s.missRead := State.missRead_of_read (by rw [State.missRead_bank])

/-- One word of a captured record without a measured value. -/
theorem State.regRead_recData (hs : s.sessOn 1 = false) (hauto : s.rcd.pmb.auto = false) (hl : s.rcd.pmb.cap.length = 8)
    (hlt : s.rcd.pmb.cap.all (fun x => x < 2 ^ 32) = true) (hc : s.rcd.pmb.cap.getD 0 0 % 65536 = 0x0301) (k : Fin 8) :
    s.regRead (s.who .pmb) (0x602C - 4 * k.val) = (rOk, s.rcd.pmb.cap.getD (7 - k.val) 0, s.missRead) := by
  have hval : s.value ⟨.pmb, .p2⟩ F.REC_DATA_DATA (7 - k.val) = s.rcd.pmb.cap.getD (7 - k.val) 0 := by
    have hview : s.viewE ⟨.pmb, .p2⟩ F.REC_DATA_DATA (7 - k.val) = some (s.recData ⟨.pmb, .p2⟩ (7 - k.val)) := rfl
    have hdata : s.recData ⟨.pmb, .p2⟩ (7 - k.val) = s.rcd.pmb.cap.getD (7 - k.val) 0 := by
      unfold State.recData State.busOf State.bank
      simp only [if_true, State.quantised_plain hl hlt hc, ite_self]
    exact State.value_of_viewE ⟨rfl, rfl, rfl⟩ rfl rfl rfl rfl (hview.trans (congrArg some hdata))
  have hfor : s.fieldsFor (0x602C - 4 * k.val) = [(F.REC_DATA_DATA, 7 - k.val)] :=
    (State.fieldsFor_eq ((by decide : ∀ k : Fin 8, fusedAddr (0x602C - 4 * k.val) = false) k)).trans (fieldsAt_REC_DATA k)
  have heff : s.readEffect ⟨.pmb, .p2⟩ (0x602C - 4 * k.val) = s.missRead := by
    have hrange : (decide (0x6010 ≤ 0x602C - 4 * k.val) && decide (0x602C - 4 * k.val ≤ 0x602C)) = true := by
      have := k.isLt
      simp only [Bool.and_eq_true, decide_eq_true_eq]
      omega
    have hstays : (decide (0x602C - 4 * k.val = 0x602C) && (s.bank 1).auto) = false :=
      (congrArg (decide (0x602C - 4 * k.val = 0x602C) && ·) hauto).trans (Bool.and_false _)
    unfold State.readEffect
    rw [if_neg (by omega), if_pos hrange]
    exact if_neg (ne_true_of_eq_false hstays)
  have hlt7 : s.rcd.pmb.cap.getD (7 - k.val) 0 < 2 ^ 32 := by
    have hin : 7 - k.val < s.rcd.pmb.cap.length := by omega
    rw [List.getD_eq_getElem _ _ hin]
    exact of_decide_eq_true (List.all_eq_true.1 hlt _ (List.getElem_mem hin))
  rw [State.who_pmb hs, State.regRead_p2 (State.sealOff_pmb hs _) rfl hfor (by simp) (fun e he => by rw [List.mem_singleton.1 he]; rfl)
    fun e he => State.fusedField_device (by rw [List.mem_singleton.1 he]; exact (by decide : F.REC_DATA_DATA.index = 0 ∧ F.REC_DATA_DATA.base ≠ 0x3880)) _,
    heff]
  have hpos : F.REC_DATA_DATA.pos (7 - k.val) = 0 := show 0 + 0 * (7 - k.val) = 0 by omega
  have hsum : 0 + s.rcd.pmb.cap.getD (7 - k.val) 0 % 2 ^ 32 * 2 ^ F.REC_DATA_DATA.pos (7 - k.val) = s.rcd.pmb.cap.getD (7 - k.val) 0 := by
    rw [Nat.mod_eq_of_lt hlt7, hpos, Nat.pow_zero, Nat.mul_one, Nat.zero_add]
  simp only [List.foldl_cons, List.foldl_nil, hval]
  exact congrArg (fun n => (rOk, n, s.missRead)) hsum

/-- The words of a captured record, from the eighth-last on. -/
theorem State.recWords_plain : ∀ {k : Nat} {s : State} (acc : List Byte), k ≤ 8 → s.sessOn 1 = false → s.rcd.pmb.auto = false →
    s.rcd.pmb.cap.length = 8 → s.rcd.pmb.cap.all (fun x => x < 2 ^ 32) = true → s.rcd.pmb.cap.getD 0 0 % 65536 = 0x0301 →
    s.recWords k acc = (if k = 0 then s else s.missRead, acc ++ (s.rcd.pmb.cap.drop (8 - k)).flatMap (leBytes 4))
  | 0, s, acc, _, _, _, hl, _, _ => by simp [State.recWords, List.drop_of_length_le (Nat.le_of_eq hl)]
  | k + 1, s, acc, hk, hs, hauto, hl, hlt, hc => by
    have hread := State.regRead_recData hs hauto hl hlt hc ⟨k, by omega⟩
    have hsess : s.missRead.sessOn 1 = false := (congrArg (fun q : Sec => decide (q.st = 2) && decide (q.bus = 1)) s.missRead_sec).trans hs
    have hbank := s.missRead_bank
    have ih := State.recWords_plain (k := k) (s := s.missRead) (acc ++ leBytes 4 (s.rcd.pmb.cap.getD (7 - k) 0)) (by omega) hsess
      (by rw [hbank]; exact hauto) (by rw [hbank]; exact hl) (by rw [hbank]; exact hlt) (by rw [hbank]; exact hc)
    have hdrop : s.rcd.pmb.cap.drop (8 - (k + 1)) = s.rcd.pmb.cap.getD (7 - k) 0 :: s.rcd.pmb.cap.drop (8 - k) := by
      have hin : 7 - k < s.rcd.pmb.cap.length := by omega
      rw [List.getD_eq_getElem _ _ hin, show 8 - (k + 1) = 7 - k by omega, show 8 - k = 7 - k + 1 by omega]
      exact List.drop_eq_getElem_cons hin
    unfold State.recWords
    rw [hread]
    refine ih.trans ?_
    rw [State.missRead_twice, hbank, hdrop, ite_self, if_neg (Nat.succ_ne_zero k)]
    simp only [List.flatMap_cons, List.append_assoc]

/-! ## The mailbox -/

/-- The state after a word popped. -/
def State.popped (s : State) : State :=
  { s with sec := { s.sec with pop := s.sec.pop.drop 1, rxReady := s.sec.rxReady && !(s.sec.pop.drop 1).isEmpty } }
theorem State.regRead_mbox (hs : s.sessOn 1 = false) (hlt : s.sec.pop.getD 0 0 < 2 ^ 32) :
    s.regRead (s.who .pmb) 0x0218 = (rOk, s.sec.pop.getD 0 0, s.popped) := by
  have hval : s.value ⟨.pmb, .p2⟩ F.SESS_MBOX_WORD 0 = s.sec.pop.getD 0 0 :=
    State.value_of_viewE ⟨rfl, rfl, rfl⟩ rfl rfl rfl rfl rfl
  rw [State.who_pmb hs, State.regRead_p2 (State.sealOff_pmb hs _) rfl ((State.fieldsFor_eq rfl).trans fieldsAt_SESS_MBOX) (by simp) (by decide)
    fun e he => State.fusedField_device (by rw [List.mem_singleton.1 he]; decide) _]
  simp only [List.foldl_cons, List.foldl_nil, hval]
  have hsum : 0 + s.sec.pop.getD 0 0 % 2 ^ 32 * 2 ^ 0 = s.sec.pop.getD 0 0 := by
    rw [Nat.mod_eq_of_lt hlt, Nat.pow_zero, Nat.mul_one, Nat.zero_add]
  exact congrArg (fun n => (rOk, n, s.popped)) hsum
theorem State.mboxPops_two (hs : s.sessOn 1 = false) {x y : Nat} (hp : s.sec.pop = [x, y]) (hx : x < 2 ^ 32) (hy : y < 2 ^ 32) :
    s.mboxPops 2 [] = (s.popped.popped, leBytes 4 x ++ leBytes 4 y) := by
  have hfst := State.regRead_mbox hs (by rw [hp]; exact hx)
  have hpop : s.popped.sec.pop = [y] := congrArg (List.drop 1) hp
  have hsnd := State.regRead_mbox (s := s.popped) hs (by rw [hpop]; exact hy)
  simp only [State.mboxPops, hfst, hsnd, hpop, hp, List.getD_cons_zero, List.nil_append]
theorem Changes.popped : Changes [.sec] [] s s.popped := ⟨rfl, fun _ _ _ => rfl⟩

/-- LEN as GO finds it. -/
def State.lenHeld (s : State) (n : Nat) : State := if n != s.get F.SESS_CTRL_LEN then s.set F.SESS_CTRL_LEN 0 n else s
theorem State.lenHeld_get (s : State) {n : Nat} (h : n < 4096) : (s.lenHeld n).get F.SESS_CTRL_LEN = n := by
  unfold State.lenHeld
  split
  · rw [State.get_set_self]
    exact Nat.mod_eq_of_lt h
  · next he => exact (of_not_not fun hne => he (bne_iff_ne.2 hne)).symm
theorem State.lenHeld_sec (s : State) (n : Nat) : (s.lenHeld n).sec = s.sec := by
  unfold State.lenHeld
  split <;> rfl
theorem State.lenHeld_pow (s : State) (n : Nat) : (s.lenHeld n).pow = s.pow := by
  unfold State.lenHeld
  split <;> rfl

/-- GO with a length, over PMBus (R412). -/
theorem State.regWrite_go (hs : s.sessOn 1 = false) (hb : s.sec.busy = false) {n : Nat} (hn : n < 4096) :
    s.regWrite ⟨.pmb, .p2⟩ 0x0210 (2 ^ 31 + n) false = (rOk, (s.lenHeld n).mboxGo 1) := by
  have hw : s.writes ⟨.pmb, .p2⟩ 0x0210 (2 ^ 31 + n) =
      (F.SESS_CTRL_GO, 0, 1) :: if n != s.get F.SESS_CTRL_LEN then [(F.SESS_CTRL_LEN, 0, n)] else [] := by
    rw [State.writes_sessCtrl _ (g := 1) (a := 0) (l := n) (by omega) (by omega) (by omega)]
    rfl
  have hfor : s.fieldsFor 0x0210 = _ := (State.fieldsFor_eq rfl).trans fieldsAt_SESS_CTRL
  have hcheck : s.writeCheck ⟨.pmb, .p2⟩ 0x0210 (2 ^ 31 + n) = rOk :=
    State.writeCheck_unloaded (State.sealOff_pmb hs _) (by rw [hfor]; exact List.cons_ne_nil _ _) fun e he => by
      have hin := State.mem_fieldsFor_of_writes he
      rw [hfor] at hin
      have hall : ∀ e ∈ [(F.SESS_CTRL_GO, 0), (F.SESS_CTRL_ABORT, 0), (F.SESS_CTRL_LEN, 0)],
          s.mayWrite .p2 e.1 = true ∧ e.1.img = false := by
        intro e he
        simp only [List.mem_cons, List.not_mem_nil, or_false] at he
        rcases he with rfl | rfl | rfl <;> exact ⟨rfl, rfl⟩
      exact hall _ hin
  have hgo : s.fieldRule ⟨.pmb, .p2⟩ 0x0210 (s.after ⟨.pmb, .p2⟩ 0x0210 (2 ^ 31 + n)) false (F.SESS_CTRL_GO, 0, 1) = none :=
    if_neg (by rw [hb]; decide)
  have hlen : s.fieldRule ⟨.pmb, .p2⟩ 0x0210 (s.after ⟨.pmb, .p2⟩ 0x0210 (2 ^ 31 + n)) false (F.SESS_CTRL_LEN, 0, n) = none := rfl
  unfold State.regWrite State.consentEffect State.selEffect
  rw [hcheck, hw]
  generalize s.after ⟨.pmb, .p2⟩ 0x0210 (2 ^ 31 + n) = nv at hgo hlen
  unfold State.lenHeld
  cases n != s.get F.SESS_CTRL_LEN
  · simp only [List.findSome?_cons, hgo]
    rfl
  · simp only [if_true, List.findSome?_cons, List.findSome?_nil, hgo, hlen]
    rfl

/-! ## SP_CMD over the register port -/

theorem spInsert_host (c : Nat × Nat × Nat) (hc : c.1 = 4) : ∀ l : List (Nat × Nat × Nat), spInsert c l = l ++ [c]
  | [] => rfl
  | d :: l => by
    have hd : spRank d.1 ≤ 3 := by
      unfold spRank
      split
      · omega
      · split
        · omega
        · split <;> omega
    have hc3 : spRank c.1 = 3 := by rw [hc]; rfl
    unfold spInsert
    rw [if_neg (by omega), spInsert_host c hc l]
    rfl
theorem State.spApply_pow (r : Fin 8) (q : SetPt) : (s.spApply r q).pow = s.pow := by
  unfold State.spApply
  exact List.foldlRecOn (motive := fun x : State => x.pow = s.pow) q.cmds _ rfl fun x hx c _ => hx
theorem State.spApply_last (r : Fin 8) (q : SetPt) (l : List (Nat × Nat × Nat)) (c : Nat × Nat × Nat) (hq : q.cmds = l ++ [c]) :
    (s.spApply r q).get F.SP_STATUS_SP_TGT r = c.2.1 % 2 ^ 12 := by
  unfold State.spApply
  rw [hq, List.foldl_append]
  generalize l.foldl _ _ = y
  show ((y.putTgt r c.2.1 c.2.2).set F.SP_STATUS_SP_OWNER r c.1).get F.SP_STATUS_SP_TGT r = c.2.1 % 2 ^ 12
  rw [State.get_set_of_ne _ _ _ _ _ _ (Fld.key_ne (by revert r; decide) r.isLt)]
  exact State.get_set_self _ _ _ _
theorem State.spMoved_framed (r : Fin 8) (own : Option (Fin 2)) : Framed s (s.spMoved r own) := by
  unfold State.spMoved
  exact Framed.foldl _ _ _ (.refl s) fun x p _ hx => .ite (State.noteOn_framed p _ hx) hx
/-- A host command accepted is the last of its update: it stands (R231, R233). -/
theorem State.spAccept_host (r : Fin 8) {c : Nat} (hc : c < 4096) :
    (s.spAccept r 4 c 0).get F.SP_STATUS_SP_TGT r = c ∧ (s.spAccept r 4 c 0).pow.wantSafestopClr = s.pow.wantSafestopClr := by
  unfold State.spAccept
  dsimp only
  rw [spInsert_host (4, c, 0) rfl]
  have hframe := State.spMoved_framed (s := s.spApply r { s.spNow r with cmds := (s.spNow r).cmds ++ [(4, c, 0)] }) r none
  have hlast := State.spApply_last (s := s) r { s.spNow r with cmds := (s.spNow r).cmds ++ [(4, c, 0)] } _ _ rfl
  refine ⟨?_, hframe.calm.trans (congrArg (·.wantSafestopClr) (State.spApply_pow r _))⟩
  exact ((hframe.get F.SP_STATUS_SP_TGT r ((by decide : ∀ r : Fin 8, settleKey (F.SP_STATUS_SP_TGT.key r) = false) r)).trans hlast).trans
    (Nat.mod_eq_of_lt hc)

end Sys2Proof.Machine
end

section
namespace Sys2Proof.Machine

variable {s x u : State} {v : Nat}

/-- A host set-point command over the register port (R231, R465). -/
theorem State.writes_spCmd (w : Who) (hz : s.cz1604 = false) (r : Fin 8) {c : Nat} (hc : c < 4096) :
    s.writes w (0x10B4 + 256 * r.val) c = [(F.SP_CMD_CODE, r.val, c)] := by
  have hcar : s.carried F.SP_CMD_CODE r.val c = c := by
    have hpos : F.SP_CMD_CODE.pos r.val = 0 := show 0 + 0 * r.val = 0 by omega
    have hb : bits c (F.SP_CMD_CODE.pos r.val) F.SP_CMD_CODE.width = c := by
      rw [hpos]
      show c / 2 ^ 0 % 2 ^ 12 = c
      omega
    unfold State.carried
    rw [hb, hz]
    rfl
  have hfor : s.fieldsFor (0x10B4 + 256 * r.val) = [(F.SP_CMD_CODE, r.val)] := by
    unfold State.fieldsFor
    rw [hz]
    exact fieldsAt_SP_CMD r
  rw [State.writes_eq hfor fun e _ => State.fusedField_full hz _ _]
  have hcount : s.counted w F.SP_CMD_CODE r.val c = true := rfl
  simp only [List.filterMap_cons, List.filterMap_nil, hcar, hcount, if_true]
theorem State.issueWrite_spCmd (hs : s.sessOn 1 = false) (hz : s.cz1604 = false) (r : Fin 8) {c : Nat} (hc : c < 4096)
    (hok : s.spCheck r 4 c = none) : s.issueWrite ⟨.pmb, .p2⟩ (0x10B4 + 256 * r.val) c = .done rOk 0 (s.spAccept r 4 c 0) := by
  have hw := State.writes_spCmd (s := s) ⟨.pmb, .p2⟩ hz r hc
  have hr : Fin.ofNat 8 r.val = r := Fin.ofNat_val_eq_self r
  have hrule : s.fieldRule ⟨.pmb, .p2⟩ (0x10B4 + 256 * r.val) (s.after ⟨.pmb, .p2⟩ (0x10B4 + 256 * r.val) c) false (F.SP_CMD_CODE, r.val, c) = none := by
    have hcheck : s.spCheck (Fin.ofNat 8 r.val) 4 c = none := by rw [hr]; exact hok
    show (match s.spCheck (Fin.ofNat 8 r.val) 4 c with
      | none => none
      | some why => some _) = none
    rw [hcheck]
  have hact : s.fieldWrite ⟨.pmb, .p2⟩ (s.after ⟨.pmb, .p2⟩ (0x10B4 + 256 * r.val) c) (F.SP_CMD_CODE, r.val, c) = s.spAccept r 4 c 0 := by
    show s.spAccept (Fin.ofNat 8 r.val) 4 c 0 = s.spAccept r 4 c 0
    rw [hr]
  have hone := State.regWrite_one (State.sealOff_pmb hs _) hw rfl rfl hrule (by have := r.isLt; omega) (by decide) hact
  have hbridge : s.bridged ⟨.pmb, .p2⟩ true (0x10B4 + 256 * r.val) c = false := by
    have hfor : s.fieldsFor (0x10B4 + 256 * r.val) = [(F.SP_CMD_CODE, r.val)] := by
      unfold State.fieldsFor
      rw [hz]
      exact fieldsAt_SP_CMD r
    have hcopied : copied.contains F.SP_CMD_CODE = false := by decide +kernel
    unfold State.bridged
    rw [hfor, hw]
    simp only [List.any_cons, List.any_nil, hcopied]
    rfl
  unfold State.issueWrite
  rw [hbridge, hone, Bool.and_false]
  rfl

theorem blockWord_eq {v : Nat} (hv : v < 2 ^ 32) : blockWord (4 :: leBytes 4 v) = some v := by
  have hlen : (4 :: leBytes 4 v : List Byte).length = 5 := rfl
  unfold blockWord
  rw [if_pos (by rw [hlen]; rfl)]
  exact congrArg some (leNat_leBytes_4 hv)

/-- A block of one word that PMBus reads from a register. -/
theorem pmbReg_gives {i : Instr} {t code a d : Nat} {wr : Option (List Byte → State → State)} (hs : s.Calm) (hup : s.regsUp = true)
    (hsess : s.sessOn 1 = false) (hi : exec i s = run t (fun s => s.pmbRun code .read (some fun s => s.pmbReg code a) wr) s)
    (hr : (s.at t).ackd.regRead ⟨.pmb, .p2⟩ a = (rOk, d, (s.at t).ackd)) :
    Gives i s (fun u => s.Drives u code (4 :: leBytes 4 d) ∧ Changes [.pmb] [] s u) :=
  drives_gives hi ((State.pmbRun_read (s := s.at t) hup hsess _ _ _).trans (State.pmbReg_ok (s := s.at t) hsess hr)) hs

theorem State.pmbRegWrite_ok {a v : Nat} {y : State} (hs : s.sessOn 1 = false) (hw : s.regWrite ⟨.pmb, .p2⟩ a v false = (rOk, y)) :
    s.pmbRegWrite a v = y := by
  unfold State.pmbRegWrite
  rw [State.who_pmb hs, hw]
  rfl

/-- MFR_REG_ADDR for a register that answers at once (R465). -/
theorem State.regAddr_deviceId (hb : s.pmb.regBusy = false) (hs : s.sessOn 1 = false) : s.pmbRegAddr 0 = { s with pmb := { s.pmb with
    regAddr := 0, regData := some ((if s.cz1604 then 0x1604 else 0x3208) * 65536 + s.get F.DEVICE_ID_REV % 16 * 4096), regStatus := rOk } } := by
  unfold State.pmbRegAddr
  rw [if_neg (by rw [hb]; decide)]
  dsimp only
  generalize hy : ({ s with pmb := { s.pmb with regAddr := 0, regData := none } } : State) = y
  have hsess : y.sessOn 1 = false := by rw [← hy]; exact hs
  rw [State.who_pmb hsess, State.issueRead_done (State.regRead_deviceId hsess) (State.bridged_read ((State.fieldsFor_eq rfl).trans fieldsAt_DEVICE_ID)), ← hy]
  rfl
/-- MFR_REG_ADDR for a register of the Front die waits for the bridge (R465, R516). -/
theorem State.regAddr_tempDie (hb : s.pmb.regBusy = false) (hs : s.sessOn 1 = false) : s.pmbRegAddr 0x3808 =
    { s.withC4 (s.br.c4 ++ [⟨.pmb, .p2, false, 0x3808, 0⟩]) with
      pmb := { s.pmb with regAddr := 0x3808, regData := none, regStatus := 7, regBusy := true } } := by
  unfold State.pmbRegAddr
  rw [if_neg (by rw [hb]; decide)]
  dsimp only
  generalize hy : ({ s with pmb := { s.pmb with regAddr := 0x3808, regData := none } } : State) = y
  have hsess : y.sessOn 1 = false := by rw [← hy]; exact hs
  have hread := State.regRead_p2 (s := y) (w := ⟨.pmb, .p2⟩) (State.sealOff_pmb hsess 0x3808) rfl ((State.fieldsFor_eq rfl).trans fieldsAt_TEMP_DIE)
    (by simp) (by decide) fun e he => State.fusedField_device ((by decide : ∀ e ∈ [(F.TEMP_DIE_HI_STALE, 0), (F.TEMP_DIE_HI_FAILED, 0),
      (F.TEMP_DIE_HI_TEMP, 0), (F.TEMP_DIE_LO_STALE, 0), (F.TEMP_DIE_LO_FAILED, 0), (F.TEMP_DIE_LO_TEMP, 0)],
      e.1.index = 0 ∧ e.1.base ≠ 0x3880) e he) _
  rw [State.who_pmb hsess, State.issueRead_waits (congrArg Prod.fst hread)
    (State.bridged_read ((State.fieldsFor_eq rfl).trans fieldsAt_TEMP_DIE)), ← hy]
  rfl

theorem State.pmbRegData_read (hup : s.regsUp = true) (hs : s.sessOn 1 = false) : s.pmbRegData .read =
    if s.pmb.regBusy then { s.ackd with pmb.stretch := true } else s.ackd.pmbRegAnswer := State.pmbRun_read hup hs _ _ _
theorem State.pmbRegData_sent (hup : s.regsUp = true) (hs : s.sessOn 1 = false) (hb : s.pmb.regBusy = false) {v : Nat} (hv : v < 2 ^ 32) {y : State}
    (hw : s.ackd.issueWrite ⟨.pmb, .p2⟩ s.pmb.regAddr v = .done rOk 0 y) :
    s.pmbRegData (s.sent 0xD1 (4 :: leBytes 4 v)) = { y with pmb.regStatus := rOk } := by
  refine (State.pmbRun_sent hup hs 0xD1 _ _ _).trans ?_
  rw [blockWord_eq hv]
  dsimp only
  rw [show s.ackd.pmb.regBusy = false from hb, State.who_pmb (s := s.ackd) hs, show s.ackd.pmb.regAddr = s.pmb.regAddr from rfl, hw]
  rfl

theorem leBytes_length : ∀ (k n : Nat), (leBytes k n).length = k
  | 0, _ => rfl
  | k + 1, n => congrArg Nat.succ (leBytes_length k (n / 256))

end Sys2Proof.Machine
open Sys2Proof Sys2Proof.Machine

/-- Settles O48: a read by what the register gives P2 (`State.regRead_p2`), a write by the fields that count, and the bytes driven stand
after the end of the update (`Framed.drives`). -/
theorem pmbusManufacturer : Obligations.PmbusManufacturer := by
  unfold Obligations.PmbusManufacturer
  refine ⟨fun t s hs hup hn hb => ?_, fun t s hs hup hn hb => ?_, fun t s d hs hup hn hb hd => ?_, fun t s hs hup hn hb => ?_,
    fun t s hs hup hn hb hd => ?_, fun t s r c hs hup hn hz hb ha hc hok => ?_, fun t s hs hup hn => ?_, fun t s hs hup hn hl => ?_,
    fun t s n hs hup hn hb hl => ?_, fun t s v hs hup hn h2 hres hlen hv => ?_, fun t s w hs hup hn hp hw => ?_,
    fun t s x y hs hup hn hp hx hy => ?_, fun t s v x hs hup hn hh hv hx => ?_, fun t s v hs hup hn ha hcap hl hlt hcode => ?_,
    fun t s hs hup hn hl => ?_, fun t s v hs hup hn hz hv => ?_, fun t s hs hup hn _ hlast _ _ _ _ => ?_, fun t s i hs hup hn hi => ?_,
    fun t s i hs hup hn hsel hl => ?_⟩
  · have hx : (s.at t).pmbRun 0xD0 (s.sent 0xD0 [0, 0]) none (some fun b s => if b.length = 2 then s.pmbRegAddr (leNat b) else s.pmbInvalid) =
        (s.at t).ackd.pmbRegAddr 0 := State.pmbRun_sent (s := s.at t) hup hn 0xD0 [0, 0] _ _
    refine run_gives (f := fun s => s.pmbRun 0xD0 _ _ _) rfl
      (hx.trans (State.regAddr_deviceId (s := (s.at t).ackd) hb hn)) hs fun u _ hf => ?_
    exact ⟨(congrArg Pmbus.regAddr hf.pmbRest :), (congrArg Pmbus.regStatus hf.pmbRest :), (congrArg Pmbus.regData hf.pmbRest :),
      (congrArg Pmbus.regBusy hf.pmbRest :).trans hb, (hf.changes (s := s.at t) (Changes.pmb _)).of_at⟩
  · have hx : (s.at t).pmbRun 0xD0 (s.sent 0xD0 [0x08, 0x38]) none
        (some fun b s => if b.length = 2 then s.pmbRegAddr (leNat b) else s.pmbInvalid) = (s.at t).ackd.pmbRegAddr 0x3808 :=
      State.pmbRun_sent (s := s.at t) hup hn 0xD0 [0x08, 0x38] _ _
    refine run_gives (f := fun s => s.pmbRun 0xD0 _ _ _) rfl
      (hx.trans (State.regAddr_tempDie (s := (s.at t).ackd) hb hn)) hs fun u _ hf => ?_
    exact ⟨(congrArg Pmbus.regAddr hf.pmbRest :), (congrArg Pmbus.regStatus hf.pmbRest :), (congrArg Pmbus.regBusy hf.pmbRest :),
      (congrArg Bridge.c4 hf.br :)⟩
  · have hx : (s.at t).pmbRegData .read = (s.at t).ackd.pmbOut 0xD1 (block (leBytes 4 d)) := by
      rw [State.pmbRegData_read (s := s.at t) hup hn, if_neg (by rw [show (s.at t).pmb.regBusy = false from hb]; decide)]
      unfold State.pmbRegAnswer
      rw [show (s.at t).ackd.pmb.regData = some d from hd]
    exact drives_gives (f := fun s => s.pmbRegData .read) rfl hx hs
  · have hx : (s.at t).pmbRegData .read = { (s.at t).ackd with pmb.stretch := true } :=
      (State.pmbRegData_read (s := s.at t) hup hn).trans (if_pos hb)
    refine run_gives (f := fun s => s.pmbRegData .read) rfl hx hs fun u _ hf => ?_
    exact ⟨(congrArg Pmbus.stretch hf.pmbRest :), (congrArg Pmbus.out hf.pmbRest :), (hf.changes (s := s.at t) (Changes.pmb _)).of_at⟩
  · have hx : (s.at t).pmbRegData .read = ((s.at t).ackd.pmbOut 0xD1 [0]).cml 2 := by
      rw [State.pmbRegData_read (s := s.at t) hup hn, if_neg (by rw [show (s.at t).pmb.regBusy = false from hb]; decide)]
      unfold State.pmbRegAnswer
      rw [show (s.at t).ackd.pmb.regData = none from hd]
      rfl
    have hframe := State.cml_framed ((s.at t).ackd.pmbOut 0xD1 [0]) 2
    refine run_gives (f := fun s => s.pmbRegData .read) rfl hx (hframe.calm.trans hs) fun u hu hf => ?_
    refine ⟨(hframe.trans hf).drives (s := s) rfl, (CmlSet.run (i := 1) ?_ (by rw [hx]; exact hframe.calm.trans hs) hu).2⟩
    rw [hx]
    exact State.cml_set _ (by decide) (by decide)
  · have hx : (s.at t).pmbRegData (s.sent 0xD1 (4 :: leBytes 4 c)) = { (s.at t).ackd.spAccept r 4 c 0 with pmb.regStatus := rOk } := by
      refine State.pmbRegData_sent (s := s.at t) hup hn hb (by omega) ?_
      rw [show (s.at t).pmb.regAddr = _ from ha]
      exact State.issueWrite_spCmd (s := (s.at t).ackd) hn hz r hc hok
    obtain ⟨htgt, hpow⟩ := State.spAccept_host (s := (s.at t).ackd) r hc
    refine run_gives (f := fun s => s.pmbRegData _) rfl hx (hpow.trans hs) fun u _ hf => ⟨?_, (congrArg Pmbus.regStatus hf.pmbRest :)⟩
    rw [hf.get F.SP_STATUS_SP_TGT r ((by decide : ∀ r : Fin 8, settleKey (F.SP_STATUS_SP_TGT.key r) = false) r)]
    exact htgt
  · exact drives_gives (f := fun s => s.pmbRun 0xD2 .read (some fun s => s.pmbOut 0xD2 (leBytes 1 s.pmb.regStatus)) none) rfl
      (State.pmbRun_read (s := s.at t) hup hn _ _ _) hs
  · exact pmbReg_gives hs hup hn rfl (State.regRead_sessCtrl (s := (s.at t).ackd) hn hl)
  · have hx : (s.at t).pmbRun 0xD4 (s.sent 0xD4 (4 :: leBytes 4 (2 ^ 31 + n))) (some fun s => s.pmbReg 0xD4 0x0210)
        (some fun b s => match blockWord b with
          | some v => s.pmbRegWrite 0x0210 v
          | none => s.pmbInvalid) = ((s.at t).ackd.lenHeld n).mboxGo 1 := by
      refine (State.pmbRun_sent (s := s.at t) hup hn 0xD4 _ _ _).trans ?_
      rw [blockWord_eq (by omega)]
      exact State.pmbRegWrite_ok (s := (s.at t).ackd) hn (State.regWrite_go (s := (s.at t).ackd) hn hb hl)
    have hget := State.lenHeld_get (s.at t).ackd hl
    have hsec := State.lenHeld_sec (s.at t).ackd n
    have hpow := State.lenHeld_pow (s.at t).ackd n
    generalize (s.at t).ackd.lenHeld n = y at hx hget hsec hpow
    refine run_gives (f := fun s => s.pmbRun 0xD4 _ _ _) rfl hx ((congrArg (·.wantSafestopClr) hpow).trans hs) fun u _ hf => ?_
    have hmsg : u.sec.msg = (s.sec.push.flatMap (beBytes 4) ++ List.replicate n 0).take n := by
      rw [hf.sec]
      show (y.sec.push.flatMap (beBytes 4) ++ List.replicate (y.get F.SESS_CTRL_LEN) 0).take (y.get F.SESS_CTRL_LEN) = _
      rw [hget, hsec]
      rfl
    refine ⟨(congrArg Sec.busy hf.sec :), (congrArg Sec.push hf.sec :), by rw [hmsg]; simp, by rw [hmsg]; exact List.take_prefix _ _,
      (congrArg Sec.msgBus hf.sec :), ?_⟩
    rw [hf.get _ _ (by decide)]
    exact hget
  · subst hv
    exact pmbReg_gives hs hup hn rfl (State.regRead_sessStat (s := (s.at t).ackd) hn h2 hres hlen)
  · have hx : (s.at t).pmbMbox (s.sent 0xD6 (4 :: leBytes 4 w)) = (s.at t).ackd.mboxPush w := by
      refine (State.pmbRun_sent (s := s.at t) hup hn 0xD6 _ _ _).trans ?_
      have hcount : ((4 :: leBytes 4 w).getD 0 0 : Byte).toNat = 4 := rfl
      dsimp only
      rw [hcount, if_pos (by rw [List.length_cons, leBytes_length]; rfl)]
      show (s.at t).ackd.pmbRegWrite 0x0218 (leNat (leBytes 4 w)) = (s.at t).ackd.mboxPush w
      refine (State.pmbRegWrite_ok (s := (s.at t).ackd) (y := (s.at t).ackd.mboxPush w) hn ?_)
      rw [leNat_leBytes_4 hw]
      exact State.regWrite_push (State.sealOff_pmb (s := (s.at t).ackd) hn _) rfl hw
    refine run_gives (f := fun s => s.pmbMbox _) rfl hx hs fun u _ hf => ⟨?_, ?_⟩
    · rw [hf.sec]
      exact if_pos hp
    · exact (hf.changes (s := s.at t) ⟨rfl, fun _ _ _ => rfl⟩).of_at
  · have hx : (s.at t).pmbMbox .read = (s.at t).ackd.popped.popped.pmbOut 0xD6 (block (leBytes 4 x ++ leBytes 4 y)) := by
      refine (State.pmbRun_read (s := s.at t) hup hn 0xD6 _ _).trans ?_
      rw [show (s.at t).ackd.sec.pop = [x, y] from hp]
      show State.pmbOut ((s.at t).ackd.mboxPops 2 []).1 0xD6 (block ((s.at t).ackd.mboxPops 2 []).2) = _
      rw [State.mboxPops_two (s := (s.at t).ackd) hn hp hx hy]
    refine run_gives (f := fun s => s.pmbMbox .read) rfl hx hs fun u _ hf => ⟨hf.drives (s := s) rfl, ?_, ?_, ?_⟩
    · rw [hf.sec]
      show List.drop 1 (List.drop 1 s.sec.pop) = []
      rw [hp]
      rfl
    · rw [hf.sec]
      show ((s.sec.rxReady && !(List.drop 1 s.sec.pop).isEmpty) && !(List.drop 1 (List.drop 1 s.sec.pop)).isEmpty) = false
      rw [hp]
      exact Bool.and_false _
    · exact (hf.changes (s := s.at t) ⟨rfl, fun _ _ _ => rfl⟩).of_at
  · have hx' : (s.at t).pmbRun 0xD8 (s.sent 0xD8 (4 :: leBytes 4 v)) none (some fun b s => match blockWord b with
          | some v => s.pmbRegWrite 0x6008 v
          | none => s.pmbInvalid) = (s.at t).ackd.recSel 1 v := by
      refine (State.pmbRun_sent (s := s.at t) hup hn 0xD8 _ _ _).trans ?_
      rw [blockWord_eq hv]
      exact State.pmbRegWrite_ok (s := (s.at t).ackd) hn (State.regWrite_recSel (State.sealOff_pmb (s := (s.at t).ackd) hn _) rfl)
    refine run_gives (f := fun s => s.pmbRun 0xD8 _ _ _) rfl (hx'.trans (State.recSel_pmb (s := (s.at t).ackd) hh hv hx)) hs fun u _ hf => ?_
    exact ⟨by rw [hf.recPmb], by rw [hf.recPmb], hf.recSpi, (hf.changes (s := s.at t) ⟨rfl, fun _ _ _ => rfl⟩).of_at⟩
  · have hwords := State.recWords_plain (s := (s.at t).ackd) [] (Nat.le_refl 8) hn ha (by rw [← hl, ← hcap]; rfl) (by rw [← hlt, ← hcap]; rfl)
      (by rw [← hcode, ← hcap]; rfl)
    have hx : (s.at t).pmbRun 0xD9 .read (some fun s => (s.recWords 8 []).1.pmbOut 0xD9 (block (s.recWords 8 []).2)) none =
        (s.at t).ackd.missRead.pmbOut 0xD9 (32 :: v.flatMap (leBytes 4)) := by
      refine (State.pmbRun_read (s := s.at t) hup hn 0xD9 _ _).trans ?_
      rw [hwords]
      have hcap' : (s.at t).ackd.rcd.pmb.cap = v := hcap
      have hbytes : (v.flatMap (leBytes 4)).length = 32 := by simp [List.length_flatMap, leBytes_length, hl]
      simp only [hcap', Nat.sub_self, List.drop_zero, List.nil_append]
      unfold block
      rw [hbytes]
      rfl
    have hbank := (s.at t).ackd.missRead_bank
    have hpmb := (s.at t).ackd.missRead_pmb
    have haddr := (s.at t).ackd.missRead_addr
    have hpow := (s.at t).ackd.missRead_pow
    generalize (s.at t).ackd.missRead = y at hx hbank hpmb haddr hpow
    refine run_gives (f := fun s => s.pmbRun 0xD9 _ _ _) rfl hx ((congrArg (·.wantSafestopClr) hpow).trans hs) fun u _ hf => ?_
    have hout : (y.pmbOut 0xD9 (32 :: v.flatMap (leBytes 4))).pmb = (s.ackd.pmbOut 0xD9 (32 :: v.flatMap (leBytes 4))).pmb := by
      unfold State.pmbOut State.pmbAddr
      rw [haddr, hpmb]
      rfl
    exact ⟨hf.drives hout, by rw [hf.recPmb]; exact (congrArg RecBank.cap hbank).trans hcap,
      by rw [hf.recPmb]; exact (congrArg RecBank.sel hbank :)⟩
  · exact pmbReg_gives hs hup hn rfl (State.regRead_newest (s := (s.at t).ackd) hn hl)
  · subst hv
    exact pmbReg_gives hs hup hn rfl (State.regRead_railState (s := (s.at t).ackd) hn hz)
  · obtain ⟨v, hr, hv, hmode, htrans⟩ := State.regRead_mode (s := (s.at t).ackd) hn
    obtain ⟨u, hu, ⟨hnack, hout⟩, hch⟩ := pmbReg_gives (s := s) (t := t) (i := .mfrMode t .read) hs hup hn rfl hr
    have hword : leNat ((u.pmb.out.drop 1).take 4) = v := by
      rw [hout]
      exact leNat_leBytes_4 hv
    exact ⟨u, hu, hnack, by rw [hout]; rfl, by rw [hout]; rfl, by rw [hword]; exact hmode,
      by rw [hword]; exact htrans.trans (Nat.mod_eq_of_lt hlast), hch⟩
  · have hx : (s.at t).pmbRun 0xE0 (s.sent 0xE0 [i]) none (some fun b s => match b with
          | [i] => if i.toNat < 16 then { s with pmb.pubSel := i.toNat } else s.pmbInvalid
          | _ => s.pmbInvalid) = { (s.at t).ackd with pmb.pubSel := i.toNat } :=
      (State.pmbRun_sent (s := s.at t) hup hn 0xE0 [i] _ _).trans (if_pos hi)
    refine run_gives (f := fun s => s.pmbRun 0xE0 _ _ _) rfl hx hs fun u _ hf => ?_
    exact ⟨(congrArg Pmbus.pubSel hf.pmbRest :), (hf.changes (s := s.at t) (Changes.pmb _)).of_at⟩
  · have hx : (s.at t).pmbRun 0xE1 .read (some fun s => s.pmbReg 0xE1 (0x7140 + 4 * s.pmb.pubSel)) none =
        (s.at t).ackd.pmbOut 0xE1 (block (leBytes 4 (s.get F.FW_PUB_VALUE i))) := by
      refine (State.pmbRun_read (s := s.at t) hup hn 0xE1 _ _).trans ?_
      rw [show (s.at t).ackd.pmb.pubSel = i.val from hsel]
      exact State.pmbReg_ok (s := s.at t) hn (State.regRead_pub (s := (s.at t).ackd) hn i hl)
    exact drives_gives (f := fun s => s.pmbRun 0xE1 _ _ _) rfl hx hs
end


section
/-!
The PMBus status registers at the end of an update (R461): no round but `pmbRound` writes them, so what CLEAR_FAULTS clears stays clear but for
what Table 16.4 sets again (R462).
-/
namespace Sys2Proof.Machine

variable {b s x : State}

/-- The register fields that a round other than `pmbRound` may write where the mode stays. -/
def muteFields : List Fld :=
  [F.AL_STATUS_CRED, F.AL_STICKY_NOTE_LOST, F.PK_STATE_CHG_ST, F.PK_STATE_HU_ON, F.PK_STATE_TEST_ACT, F.RP_STATUS_PGOOD_ST, F.RP_STATUS_UV_RD,
   F.SEN_CFG_SEN_STATE, F.TN_STAT_DISCARD_S, F.TN_STAT_F, F.TN_STAT_FF_CAP_S, F.TN_STAT_N_SCHED]
/-- Every register outside `muteFields` is as before. -/
def Mute (b s : State) : Prop := ∀ k, muteFields.all (fun f => f.off k) = true → s.regs.get k = b.regs.get k

theorem Mute.refl (s : State) : Mute s s := fun _ _ => rfl
theorem Mute.of_regs (h : Mute b s) (hx : x.regs = s.regs) : Mute b x := fun k hk => by rw [hx, h k hk]
theorem Mute.set (h : Mute b s) {f : Fld} {i v : Nat} (hf : f ∈ muteFields) (hi : i < f.count) : Mute b (s.set f i v) := fun k hk =>
  (Store.get_set_of_ne _ _ (Fld.key_ne (List.all_eq_true.1 hk f hf) hi)).trans (h k hk)
theorem Mute.ite {c : Prop} {d : Decidable c} {x y : State} (hx : Mute b x) (hy : Mute b y) : Mute b (@ite _ c d x y) := by
  split <;> assumption
theorem Mute.when (h : Mute b s) {c : Bool} {f : State → State} (hf : ∀ x, Mute b x → Mute b (f x)) : Mute b (s.when c f) := .ite (hf _ h) h
theorem Mute.foldl {α : Type} {f : State → α → State} {l : List α} (h : Mute b s) (hf : ∀ x a, Mute b x → Mute b (f x a)) :
    Mute b (l.foldl f s) := List.foldlRecOn l f h fun x hx a _ => hf x a hx
theorem Mute.logC (h : Mute b s) {code unit : Nat} {items : List (Nat × Int)} (hc : statusCodes.contains code = false) :
    Mute b (s.logC code unit items) := h.of_regs (State.raise_regs s _ _ _ _ hc)

theorem Mute.withParts (h : Mute b s) {now pending cz1604 mode img pow br par sets mirPh mirRail phases rails ports rcd spi pmb cj otp sec
    tlm jrn pk th ctx0 ctxs rings code entry} :
    Mute b ⟨now, pending, cz1604, mode, s.regs, img, pow, br, par, sets, mirPh, mirRail, phases, rails, ports, rcd, spi, pmb, cj, otp, sec,
      tlm, jrn, pk, th, ctx0, ctxs, rings, code, entry⟩ := h
theorem Mute.onRails (h : Mute b s) {f : State → Fin 8 → State} (hf : ∀ x r, Mute b x → Mute b (f x r)) : Mute b (s.onRails f) := h.foldl hf
theorem Mute.modRail (h : Mute b s) {r : Fin 8} {f : Rail → Rail} : Mute b (s.modRail r f) := h.withParts
theorem Mute.modPort (h : Mute b s) {p : Fin 2} {f : Port → Port} : Mute b (s.modPort p f) := h.withParts
theorem Mute.modPk (h : Mute b s) {f : Pack → Pack} : Mute b (s.modPk f) := h.withParts
theorem Mute.putCtx (h : Mute b s) {x : Nat} {c : Ctx} : Mute b (s.putCtx x c) := h.withParts
theorem Mute.noteOn (h : Mute b s) {p : Fin 2} {n : Notice} : Mute b (s.noteOn p n) :=
  .ite (h.modPort.when fun _ hx => .logC (hx.set (f := F.AL_STICKY_NOTE_LOST) (by decide) p.isLt) rfl) h
theorem Mute.noteRail (h : Mute b s) {r : Fin 8} {kind word : Nat} : Mute b (s.noteRail r kind word) :=
  h.foldl fun _ _ hx => .ite hx.noteOn hx
theorem Mute.noteAll (h : Mute b s) {kind word : Nat} : Mute b (s.noteAll kind word) := h.foldl fun _ _ hx => hx.noteOn
theorem Mute.putHints (h : Mute b s) {r : Fin 8} {l : List Hint} : Mute b (s.putHints r l) :=
  h.modRail.set (f := F.TN_STAT_N_SCHED) (by decide) r.isLt
theorem Mute.putF (h : Mute b s) {r : Fin 8} : Mute b (s.putF r) := by
  unfold State.putF
  extract_lets raw f stored
  have hs : Mute b stored := (h.set (f := F.TN_STAT_F) (by decide) r.isLt).modRail
  exact .ite h (.ite (hs.set (f := F.TN_STAT_FF_CAP_S) (by decide) r.isLt) hs)
theorem Mute.ctxCheck (h : Mute b s) {c : Nat} : Mute b (s.ctxCheck c) :=
  .ite h (.logC (h.putCtx.onRails fun _ _ hx => .ite hx.putHints.putF hx) rfl)
theorem Mute.freeSlot (h : Mute b s) {hint : Hint} : Mute b (s.freeSlot hint) := h.ctxCheck.putCtx
theorem Mute.retire (h : Mute b s) {r : Fin 8} {p : Hint → Bool} : Mute b (s.retire r p) := .putHints (h.foldl fun _ _ hx => hx.freeSlot)
theorem Mute.discard (h : Mute b s) {r : Fin 8} {cause : Nat} : Mute b (s.discard r cause) :=
  .ite h (.logC (.noteRail (h.retire.putF.set (f := F.TN_STAT_DISCARD_S) (by decide) r.isLt)) rfl)
theorem Mute.setChg (h : Mute b s) {k : Nat} : Mute b (s.setChg k) := h.modPk.set (f := F.PK_STATE_CHG_ST) (by decide) (by decide)
theorem Mute.testAbort (h : Mute b s) : Mute b s.testAbort :=
  .ite h (.logC (.when (.withParts (h.set (f := F.PK_STATE_TEST_ACT) (by decide) (by decide)).modPk) fun _ hx => hx.setChg) rfl)
theorem Mute.setGate (h : Mute b s) {on : Bool} : Mute b (s.setGate on) := h.modPk.set (f := F.PK_STATE_HU_ON) (by decide) (by decide)
theorem Mute.chargerRound (h : Mute b s) : Mute b s.chargerRound := by
  unfold State.chargerRound
  extract_lets aborted c
  have ha : Mute b aborted := h.when fun _ hx => hx.testAbort
  exact .ite h (.ite ha (.ite (ha.when fun _ hx => hx.setChg) (.ite (ha.when fun _ hx => hx.setChg) (.ite ha.setChg (.ite ha.setChg ha)))))
theorem Mute.packRound (h : Mute b s) : Mute b s.packRound := .ite h.chargerRound.setGate h.chargerRound
theorem Mute.setRail (h : Mute b s) {r : Fin 8} {st : RailState} : Mute b (s.setRail r st) :=
  State.setRail_ind (P := Mute b) r st h.modRail (fun _ _ hx => hx.modRail) (fun _ _ _ hx => hx.withParts)
    (fun _ hx => hx.set (f := F.RP_STATUS_PGOOD_ST) (by decide) r.isLt) fun _ hx => hx.set (f := F.RP_STATUS_UV_RD) (by decide) r.isLt
theorem Mute.arm (h : Mute b s) {r : Fin 8} : Mute b (s.arm r) :=
  .modRail (h.setRail.set (f := F.SEN_CFG_SEN_STATE) (by decide) r.isLt)
theorem Mute.armRound (h : Mute b s) : Mute b s.armRound := h.onRails fun _ _ hx => .ite hx.arm hx
theorem Mute.shedRound (h : Mute b s) : Mute b s.shedRound := h.onRails fun _ _ hx => .ite hx.modRail hx
theorem Mute.hintRound (h : Mute b s) : Mute b s.hintRound :=
  h.onRails fun _ _ hx => .ite hx (.ite hx.discard (.ite hx.discard (.ite hx.discard hx)))
theorem Mute.clampRound (h : Mute b s) : Mute b s.clampRound := h.onRails fun _ _ hx => .ite hx.putF hx
theorem Mute.wasRound (h : Mute b s) {s0 : State} : Mute b (State.wasRound s0 s) := h.onRails fun _ _ hx => .ite hx hx.modRail
theorem Mute.mirrorRound (h : Mute b s) {s0 : State} : Mute b (State.mirrorRound s0 s) := .ite h.withParts h
theorem Mute.noteRound (h : Mute b s) {s0 : State} : Mute b (State.noteRound s0 s) :=
  .ite h (.onRails (h.when fun _ hx => hx.noteAll) fun _ _ hx => .when (by
    split
    · exact hx.noteRail
    · exact hx) fun _ hy => hy.noteRail)
theorem Mute.creditRound (h : Mute b s) : Mute b s.creditRound :=
  .ite h (h.foldl fun _ p hx => .ite hx (hx.set (f := F.AL_STATUS_CRED) (by decide) p.isLt).modPort)

/-- No rail enters HICCUP. -/
def NoHiccup (b s : State) : Prop := ∀ q, s.st q = .hiccup → b.st q = .hiccup
theorem NoHiccup.held {y : State} (h : NoHiccup b s) (hy : Held s y) : NoHiccup b y := fun q hq => h q ((hy.st q).symm.trans hq)
theorem NoHiccup.onRails (h : NoHiccup b s) {f : State → Fin 8 → State} (hf : ∀ x r, NoHiccup b x → NoHiccup b (f x r)) :
    NoHiccup b (s.onRails f) := List.foldlRecOn allRails f h fun x hx r _ => hf x r hx
theorem State.arm_st (s : State) (r : Fin 8) : (s.arm r).st r = .armed := by
  unfold State.arm
  have hs : ((s.setRail r .armed).setSen r true).st r = .armed := State.setRail_st r .armed
  refine Eq.trans ?_ hs
  generalize (s.setRail r .armed).setSen r true = x
  simp [State.st, State.modFr]
theorem NoHiccup.armRound (h : NoHiccup b s) : NoHiccup b s.armRound := by
  unfold State.armRound
  refine h.onRails fun x r hx => ?_
  split
  · intro q hq
    by_cases hr : q = r
    · rw [hr, State.arm_st] at hq
      cases hq
    · exact hx q ((State.arm_st_other r q hr).symm.trans hq)
  · exact hx
theorem NoHiccup.shedRound (h : NoHiccup b s) : NoHiccup b s.shedRound := by
  unfold State.shedRound
  refine h.onRails fun x r hx => ?_
  dsimp only
  generalize hw : (if (!(x.idleOf r).isEmpty || x.flag F.PHC_STATUS_DE_ACT r) = true then RailState.shed else RailState.reg) = w
  have hnot : w ≠ .hiccup := by
    rw [← hw]
    split <;> decide
  split
  · intro q hq
    by_cases hr : q = r
    · rw [hr] at hq
      exact absurd (by simpa [State.st] using hq) hnot
    · refine hx q (Eq.trans ?_ hq)
      simp only [State.st, State.rail_modRail_of_ne _ _ _ _ hr]
  · exact hx

/-- The state that `pmbRound` finds in a mode that no round leaves. -/
def State.rounded (s0 s : State) : State := State.wasRound s0 s.packRound.armRound.shedRound.hintRound.clampRound
/-- The end of such an update is `pmbRound` between rounds that leave the PMBus status as it is. -/
theorem settle_status (s0 : State) (hs : s.Still) (hm : s.mode.steady = true) : Mute s (State.rounded s0 s) ∧ NoHiccup s (State.rounded s0 s)
    ∧ (State.rounded s0 s).mode = s.mode ∧ Framed s (State.rounded s0 s) ∧ Mute (State.pmbRound s0 (State.rounded s0 s)) (settle s0 s) := by
  obtain ⟨hcalm, hlink, hstop⟩ := hs
  have hf : Framed s s.packRound := State.packRound_framed (.refl s)
  have hh : Held s s.packRound := State.packRound_held (.refl s)
  have hq : Mute s s.packRound := (Mute.refl s).packRound
  have hn : NoHiccup s s.packRound := NoHiccup.held (fun _ h => h) hh
  unfold settle State.rounded
  rw [State.stopRound_self hstop, State.cjRound_none _ hlink]
  generalize s.packRound = y at hf hh hq hn ⊢
  have hclr : y.clrRound = y := by unfold State.clrRound; rw [hf.calm.trans hcalm]; rfl
  have harm : y.armRound.mode = s.mode := State.armRound_mode.trans hh.mode
  have hshed : y.armRound.shedRound.mode = s.mode := State.shedRound_mode.trans harm
  rw [hclr, State.precheckRound_none (by rw [harm, hm]), State.modeRound_none (by rw [hshed, hm])]
  have hlast : Held y.armRound.shedRound (State.wasRound s0 y.armRound.shedRound.hintRound.clampRound) :=
    State.wasRound_held _ (State.clampRound_held (State.hintRound_held (Held.refl _)))
  exact ⟨hq.armRound.shedRound.hintRound.clampRound.wasRound, hn.armRound.shedRound.held hlast, hlast.mode.trans hshed,
    State.wasRound_framed _ (State.clampRound_framed (State.hintRound_framed (State.shedRound_framed (State.armRound_framed hf)))),
    ((Mute.refl _).mirrorRound.noteRound).creditRound⟩

/-! ## What `pmbRound` sets again -/

/-- What CLEAR_FAULTS leaves of the status of rail `r` while `pmbRound` goes over the rails: the bits of states and flags alone. -/
structure Recleared (b : State) (r : Fin 8) (s : State) : Prop where
  rails : s.rails = b.rails
  mode : s.mode = b.mode
  cml : s.get F.PMB_STATUS_STATUS_CML = 0
  bad : s.get F.JRN_STICKY_SLOT_BAD_S = b.get F.JRN_STICKY_SLOT_BAD_S
  input : s.get F.PMB_RSTAT2_STATUS_INPUT r = 0
  vout : (s.get F.PMB_RSTAT_STATUS_VOUT r).testBit 7 = false
  iout : (s.get F.PMB_RSTAT_STATUS_IOUT r).testBit 7 = false

variable {r : Fin 8}

/-- A status byte that `Recleared` does not speak of. -/
def Fld.otherStatus (f : Fld) : Bool := f.off (F.PMB_STATUS_STATUS_CML.key 0) && f.off (F.JRN_STICKY_SLOT_BAD_S.key 0) && allRails.all (fun r =>
  f.off (F.PMB_RSTAT2_STATUS_INPUT.key r) && f.off (F.PMB_RSTAT_STATUS_VOUT.key r) && f.off (F.PMB_RSTAT_STATUS_IOUT.key r))
theorem Recleared.bits (h : Recleared b r s) {f : Fld} {i v : Nat} (hi : i < f.count) (hf : f.otherStatus = true) : Recleared b r (s.pmbBits f i v) := by
  simp only [Fld.otherStatus, Bool.and_eq_true] at hf
  obtain ⟨⟨hcml, hbad⟩, hall⟩ := hf
  have hr := List.all_eq_true.1 hall r (mem_allRails r)
  simp only [Bool.and_eq_true] at hr
  obtain ⟨⟨hin, hv⟩, hio⟩ := hr
  have hkeep : ∀ (g : Fld) (j : Nat), f.off (g.key j) = true → (s.pmbBits f i v).get g j = s.get g j := fun g j hg =>
    State.get_set_of_ne _ _ _ _ _ _ (Fld.key_ne hg hi)
  exact ⟨h.rails, h.mode, (hkeep _ _ hcml).trans h.cml, (hkeep _ _ hbad).trans h.bad, (hkeep _ _ hin).trans h.input,
    by rw [hkeep _ _ hv, h.vout], by rw [hkeep _ _ hio, h.iout]⟩

/-- A bit that is clear stays clear where it is not set. -/
theorem State.pmbBits_bit (s : State) (f g : Fld) {i j v k : Nat} (hg : (s.get g j).testBit k = false) (hv : v.testBit k = false) :
    ((s.pmbBits f i v).get g j).testBit k = false := by
  by_cases he : g.key j = f.key i
  · have hget : ∀ y : State, y.get g j = y.get f i := fun y => congrArg y.regs.get he
    rw [hget, State.pmbBits, State.get_set_self, Nat.testBit_mod_two_pow, Nat.testBit_or, ← hget, hg, hv]
    simp
  · rw [State.pmbBits, State.get_set_of_ne _ _ _ _ _ _ he]
    exact hg

theorem Recleared.vout_bits (h : Recleared b r s) {i v : Nat} (hi : i < 8) (hv : v.testBit 7 = false) :
    Recleared b r (s.pmbBits F.PMB_RSTAT_STATUS_VOUT i v) where
  rails := h.rails
  mode := h.mode
  cml := (State.get_set_of_ne _ _ _ _ _ _ (Fld.key_ne (by decide) hi)).trans h.cml
  bad := (State.get_set_of_ne _ _ _ _ _ _ (Fld.key_ne (by decide) hi)).trans h.bad
  input := (State.get_set_of_ne _ _ _ _ _ _ (Fld.key_ne (((by decide : ∀ r : Fin 8, F.PMB_RSTAT_STATUS_VOUT.off (F.PMB_RSTAT2_STATUS_INPUT.key r) = true) r)) hi)).trans h.input
  vout := State.pmbBits_bit _ _ _ h.vout hv
  iout := State.pmbBits_bit _ _ _ h.iout hv
theorem Recleared.iout_bits (h : Recleared b r s) {i v : Nat} (hi : i < 8) (hv : v.testBit 7 = false) :
    Recleared b r (s.pmbBits F.PMB_RSTAT_STATUS_IOUT i v) where
  rails := h.rails
  mode := h.mode
  cml := (State.get_set_of_ne _ _ _ _ _ _ (Fld.key_ne (by decide) hi)).trans h.cml
  bad := (State.get_set_of_ne _ _ _ _ _ _ (Fld.key_ne (by decide) hi)).trans h.bad
  input := (State.get_set_of_ne _ _ _ _ _ _ (Fld.key_ne (((by decide : ∀ r : Fin 8, F.PMB_RSTAT_STATUS_IOUT.off (F.PMB_RSTAT2_STATUS_INPUT.key r) = true) r)) hi)).trans h.input
  vout := State.pmbBits_bit _ _ _ h.vout hv
  iout := State.pmbBits_bit _ _ _ h.iout hv
theorem Recleared.input_none (h : Recleared b r s) {i : Nat} (hi : i < 8) : Recleared b r (s.pmbBits F.PMB_RSTAT2_STATUS_INPUT i 0) where
  rails := h.rails
  mode := h.mode
  cml := (State.get_set_of_ne _ _ _ _ _ _ (Fld.key_ne (by decide) hi)).trans h.cml
  bad := (State.get_set_of_ne _ _ _ _ _ _ (Fld.key_ne (by decide) hi)).trans h.bad
  input := Nat.eq_of_testBit_eq fun k => by
    rw [Nat.zero_testBit]
    exact State.pmbBits_bit _ _ _ (by rw [h.input, Nat.zero_testBit]) (Nat.zero_testBit k)
  vout := State.pmbBits_bit _ _ _ h.vout (Nat.zero_testBit 7)
  iout := State.pmbBits_bit _ _ _ h.iout (Nat.zero_testBit 7)

/-- One rail's conditions, where no rail enters HICCUP and the mode is not HOLDUP. -/
theorem Recleared.pmbRail {s0 : State} (h : Recleared b r s) (hm : b.mode = .service)
    (hh : ∀ q, s0.st q = .hiccup ∨ b.st q ≠ .hiccup) (q : Fin 8) : Recleared b r (State.pmbRail s0 s q) := by
  have hst : s.st q = b.st q := congrArg (fun l : Vector Rail 8 => (l.get q).st) h.rails
  have hhic : (s0.st q != .hiccup && s.st q == .hiccup) = false := by
    rw [hst]
    rcases hh q with h0 | hb
    · rw [h0]; rfl
    · rw [beq_eq_false_iff_ne.2 hb, Bool.and_false]
  have hhu : (s0.mode != .holdup && s.mode == .holdup) = false := by rw [h.mode, hm, show (Mode.service == Mode.holdup) = false from rfl, Bool.and_false]
  have hbit : ∀ c : Bool, (if c then 32 else 0 : Nat).testBit 7 = false := by decide
  unfold State.pmbRail
  extract_lets m v hic hu huAny on word vout iout input temp
  have hic0 : hic = false := hhic
  have hu0 : hu = false := hhu
  have hword : Recleared b r word := h.bits q.isLt (by decide)
  have hvout : Recleared b r vout := hword.vout_bits q.isLt (hbit _)
  have hiout : Recleared b r iout := by
    refine hvout.iout_bits q.isLt ?_
    rw [hic0]
    show (0 + v (vout.flag F.ENG_STATUS_CL_ACT q) 32).testBit 7 = false
    rw [Nat.zero_add]
    exact hbit _
  have hinput : Recleared b r input := by
    have : v hu 16 = 0 := by rw [hu0]; rfl
    show Recleared b r (iout.pmbBits F.PMB_RSTAT2_STATUS_INPUT q (v hu 16))
    rw [this]
    exact hiout.input_none q.isLt
  have htemp : Recleared b r temp := hinput.bits q.isLt (by decide)
  have hmfr := htemp.bits (f := F.PMB_RSTAT2_STATUS_MFR) (v := v (temp.flag F.RP_STATUS_SNS_AUX q) 64 + v huAny 16) q.isLt (by decide)
  split
  · exact h
  · exact hmfr

theorem Recleared.pmbRails {s0 : State} (h : Recleared b r s) (hm : b.mode = .service)
    (hh : ∀ q, s0.st q = .hiccup ∨ b.st q ≠ .hiccup) : Recleared b r (s.onRails (State.pmbRail s0)) :=
  List.foldlRecOn allRails (State.pmbRail s0) h fun _ hx q _ => hx.pmbRail hm hh q

/-- What the end of an update in SERVICE leaves of the status that CLEAR_FAULTS cleared (R461, R462). -/
theorem settle_recleared {s0 : State} (hs : s.Still) (hm : s.mode = .service) (hup : s.pow.cdUp = true)
    (hh : ∀ q, s0.st q = .hiccup ∨ s.st q ≠ .hiccup) (hcml : s.get F.PMB_STATUS_STATUS_CML = 0) (hin : s.get F.PMB_RSTAT2_STATUS_INPUT r = 0)
    (hv : s.get F.PMB_RSTAT_STATUS_VOUT r = 0) (hi : s.get F.PMB_RSTAT_STATUS_IOUT r = 0) :
    (settle s0 s).get F.PMB_STATUS_STATUS_CML = (if s.flag F.JRN_STICKY_SLOT_BAD_S then 16 else 0)
      ∧ (settle s0 s).get F.PMB_RSTAT2_STATUS_INPUT r = 0 ∧ ((settle s0 s).get F.PMB_RSTAT_STATUS_VOUT r).testBit 7 = false
      ∧ ((settle s0 s).get F.PMB_RSTAT_STATUS_IOUT r).testBit 7 = false := by
  obtain ⟨hbefore, hnew, hmode, hframe, hafter⟩ := settle_status s0 hs (by rw [hm]; rfl)
  generalize State.rounded s0 s = y at hbefore hnew hmode hframe hafter
  have hup' : y.pow.cdUp = true := hframe.cdUp.trans hup
  have hym : y.mode = .service := hmode.trans hm
  have hyh : ∀ q, s0.st q = .hiccup ∨ y.st q ≠ .hiccup := fun q => (hh q).imp_right fun hne he => hne (hnew q he)
  have hkeep : ∀ (g : Fld) (j : Nat), muteFields.all (fun f => f.off (g.key j)) = true → y.get g j = s.get g j := fun g j hk => hbefore _ hk
  have hr : ∀ q : Fin 8, muteFields.all (fun f => f.off (F.PMB_RSTAT2_STATUS_INPUT.key q)) = true
      ∧ muteFields.all (fun f => f.off (F.PMB_RSTAT_STATUS_VOUT.key q)) = true
      ∧ muteFields.all (fun f => f.off (F.PMB_RSTAT_STATUS_IOUT.key q)) = true := by decide
  obtain ⟨hkin, hkv, hki⟩ := hr r
  have hstart : Recleared y r y := ⟨rfl, rfl, (hkeep _ _ (by decide)).trans hcml, rfl, (hkeep _ _ hkin).trans hin,
    by rw [hkeep _ _ hkv, hv, Nat.zero_testBit], by rw [hkeep _ _ hki, hi, Nat.zero_testBit]⟩
  have hrails : Recleared y r (y.onRails (State.pmbRail s0)) := hstart.pmbRails hym hyh
  have hround : ∀ (g : Fld) (j : Nat), (State.pmbRound s0 y).get g j =
      ((y.onRails (State.pmbRail s0)).when ((y.onRails (State.pmbRail s0)).flag F.JRN_STICKY_SLOT_BAD_S) (·.cml 16)).get g j := by
    intro g j
    have hruns : (!y.pow.cdUp || y.mode == .wake || y.mode == .dormant || y.mode == .caretaker) = false := by rw [hup', hym]; rfl
    unfold State.pmbRound
    rw [hruns, if_neg Bool.false_ne_true]
    generalize y.onRails (State.pmbRail s0) = z
    rfl
  have hbad : (y.onRails (State.pmbRail s0)).flag F.JRN_STICKY_SLOT_BAD_S = s.flag F.JRN_STICKY_SLOT_BAD_S :=
    congrArg (· != 0) (hrails.bad.trans (hkeep _ _ (by decide)))
  rw [hbad] at hround
  generalize (y.onRails (State.pmbRail s0)) = z at hrails hround
  have hlast : ∀ (g : Fld) (j : Nat), muteFields.all (fun f => f.off (g.key j)) = true → (settle s0 s).get g j = (State.pmbRound s0 y).get g j :=
    fun g j hk => hafter _ hk
  rw [hlast _ _ (by decide), hlast _ _ hkin, hlast _ _ hkv, hlast _ _ hki, hround, hround, hround, hround]
  cases s.flag F.JRN_STICKY_SLOT_BAD_S
  · exact ⟨hrails.cml, hrails.input, hrails.vout, hrails.iout⟩
  · have hother : ∀ (g : Fld) (j : Nat), F.PMB_STATUS_STATUS_CML.off (g.key j) = true → (z.cml 16).get g j = z.get g j := fun g j hg =>
      State.get_set_of_ne _ _ _ _ _ _ (Fld.key_ne hg (by decide))
    have hoff : ∀ q : Fin 8, F.PMB_STATUS_STATUS_CML.off (F.PMB_RSTAT2_STATUS_INPUT.key q) = true
        ∧ F.PMB_STATUS_STATUS_CML.off (F.PMB_RSTAT_STATUS_VOUT.key q) = true ∧ F.PMB_STATUS_STATUS_CML.off (F.PMB_RSTAT_STATUS_IOUT.key q) = true := by
      decide
    obtain ⟨hoin, hov, hoi⟩ := hoff r
    refine ⟨?_, (hother _ _ hoin).trans hrails.input, (congrArg (Nat.testBit · 7) (hother _ _ hov)).trans hrails.vout,
      (congrArg (Nat.testBit · 7) (hother _ _ hoi)).trans hrails.iout⟩
    show (z.set F.PMB_STATUS_STATUS_CML 0 (z.get F.PMB_STATUS_STATUS_CML ||| 16)).get F.PMB_STATUS_STATUS_CML = 16
    rw [State.get_set_self, hrails.cml]
    rfl

end Sys2Proof.Machine
end

section
namespace Sys2Proof.Machine

variable {s x u : State} {i : Instr} {t : Nat} {f : State → State}

/-! ## CLEAR_FAULTS -/

/-- A fold reaches what one of its steps reaches and every step keeps. -/
theorem foldl_reaches {α : Type} {P : State → Prop} {f : State → α → State} {a : α} (hf : ∀ x, P (f x a)) (hk : ∀ x c, P x → P (f x c))
    {l : List α} (s : State) (ha : a ∈ l) : P (l.foldl f s) := by
  induction l generalizing s with
  | nil => cases ha
  | cons c l ih =>
    rcases List.mem_cons.1 ha with rfl | hl
    · exact List.foldlRecOn (motive := P) l f (hf s) fun x hx c _ => hk x c hx
    · exact ih (f s c) hl
/-- A register once 0 stays 0 when another one or it is cleared. -/
theorem State.clear_zero {g f : Fld} {j i : Nat} (h : s.get g j = 0) : (s.clear f i).get g j = 0 := by
  by_cases he : g.key j = f.key i
  · have hget : (s.clear f i).get g j = (s.clear f i).get f i := congrArg (s.clear f i).regs.get he
    rw [hget, State.clear_eq, State.get_set_self]
    exact Nat.zero_mod _
  · exact (State.get_set_of_ne _ _ _ _ _ _ he).trans h
theorem State.clear_self (s : State) (g : Fld) (j : Nat) : (s.clear g j).get g j = 0 := by
  rw [State.clear_eq, State.get_set_self]
  exact Nat.zero_mod _

/-- The status bytes of a page. -/
def pageStatus : List Fld :=
  [F.PMB_RSTAT_STATUS_WORD, F.PMB_RSTAT_STATUS_VOUT, F.PMB_RSTAT_STATUS_IOUT, F.PMB_RSTAT2_STATUS_MFR, F.PMB_RSTAT2_STATUS_TEMP,
    F.PMB_RSTAT2_STATUS_INPUT]
/-- A page cleared. -/
def State.pageClear (s : State) (r : Fin 8) : State := pageStatus.foldl (fun (s : State) (f : Fld) => s.clear f r) s
/-- The pages cleared. -/
def State.pagesClear (s : State) (pages : List (Fin 8)) : State := pages.foldl State.pageClear s
theorem State.pmbClear_eq (s : State) (pages : List (Fin 8)) :
    s.pmbClear pages = { ((s.pagesClear pages).clear F.PMB_STATUS_STATUS_CML) with pmb.seen := 0 } := rfl
/-- What every clearing keeps, a page keeps; what every page keeps, they all keep. -/
theorem State.pageClear_ind {P : State → Prop} (hP : ∀ x f, f ∈ pageStatus → ∀ q : Fin 8, P x → P (x.clear f q)) (r : Fin 8) (h : P s) :
    P (s.pageClear r) :=
  List.foldlRecOn pageStatus (fun (s : State) (f : Fld) => s.clear f r) h fun x hx f hf => hP x f hf r hx
theorem State.pagesClear_ind {P : State → Prop} (hP : ∀ x f, f ∈ pageStatus → ∀ q : Fin 8, P x → P (x.clear f q)) (pages : List (Fin 8)) (h : P s) :
    P (s.pagesClear pages) :=
  List.foldlRecOn pages State.pageClear h fun _ hx q _ => State.pageClear_ind hP q hx
theorem State.pagesClear_get {g : Fld} (hg : g ∈ pageStatus) {r : Fin 8} {pages : List (Fin 8)} (hr : r ∈ pages) :
    (s.pagesClear pages).get g r = 0 :=
  foldl_reaches (P := fun y => y.get g r = 0) (f := State.pageClear)
    (fun x => foldl_reaches (P := fun y => y.get g r = 0) (f := fun (s : State) (f : Fld) => s.clear f r) (fun y => y.clear_self g r)
      (fun _ _ hy => State.clear_zero hy) x hg)
    (fun _ q hx => State.pageClear_ind (P := fun y => y.get g r = 0) (fun _ _ _ _ hy => State.clear_zero hy) q hx) s hr
/-- What no clearing touches. -/
theorem State.pagesClear_parts (s : State) (pages : List (Fin 8)) : (s.pagesClear pages).rails = s.rails ∧ (s.pagesClear pages).mode = s.mode
    ∧ (s.pagesClear pages).pow = s.pow :=
  State.pagesClear_ind (P := fun y => y.rails = s.rails ∧ y.mode = s.mode ∧ y.pow = s.pow) (fun _ _ _ _ hx => hx) pages ⟨rfl, rfl, rfl⟩
theorem State.pagesClear_other {g : Fld} {j : Nat} (hg : pageStatus.all (fun f => f.off (g.key j)) = true) (pages : List (Fin 8)) :
    (s.pagesClear pages).get g j = s.get g j := by
  have hcount : ∀ f ∈ pageStatus, f.count = 8 := by decide
  refine State.pagesClear_ind (P := fun y => y.get g j = s.get g j) (fun x f hf q hx => ?_) pages rfl
  exact (State.get_set_of_ne _ _ _ _ _ _ (Fld.key_ne (List.all_eq_true.1 hg f hf) (by rw [hcount f hf]; exact q.isLt))).trans hx

/-- After CLEAR_FAULTS in SERVICE on pages that hold `r` (R462). -/
theorem pmbClear_gives {b : State} {r : Fin 8} {pages : List (Fin 8)} (hi : exec i s = run t f s) (hx : f (s.at t) = b.pmbClear pages)
    (hr : r ∈ pages) (hrails : b.rails = s.rails) (hregs : b.regs = s.regs) (hpow : b.pow = s.pow) (hmode : b.mode = .service) (hup : b.pow.cdUp = true)
    (hs : s.Still) : Gives i s (fun u =>
      u.get F.PMB_STATUS_STATUS_CML = (if s.flag F.JRN_STICKY_SLOT_BAD_S then 16 else 0) ∧ u.get F.PMB_RSTAT2_STATUS_INPUT r = 0
        ∧ (u.get F.PMB_RSTAT_STATUS_VOUT r).testBit 7 = false ∧ (u.get F.PMB_RSTAT_STATUS_IOUT r).testBit 7 = false) := by
  obtain ⟨hpr, hpm, hpp⟩ := b.pagesClear_parts pages
  have hother : ∀ (g : Fld) (j : Nat), pageStatus.all (fun f => f.off (g.key j)) = true → F.PMB_STATUS_STATUS_CML.off (g.key j) = true →
      (f (s.at t)).get g j = s.get g j := fun g j hg hc => by
    rw [hx, State.pmbClear_eq]
    exact ((State.get_set_of_ne (b.pagesClear pages) F.PMB_STATUS_STATUS_CML g 0 j 0 (Fld.key_ne hc (by decide))).trans
      (State.pagesClear_other hg pages)).trans (congrArg (·.get (g.key j)) hregs)
  have hzero : ∀ g ∈ pageStatus, (f (s.at t)).get g r = 0 := fun g hg => by
    rw [hx, State.pmbClear_eq]
    exact State.clear_zero (State.pagesClear_get hg hr)
  have hcml : (f (s.at t)).get F.PMB_STATUS_STATUS_CML = 0 := by
    rw [hx, State.pmbClear_eq]
    exact State.clear_self _ _ _
  have hstill : (f (s.at t)).Still := by
    have hp : (f (s.at t)).pow = s.pow := by rw [hx]; exact hpp.trans hpow
    exact hs.of_eq hp (hother _ _ (by decide) (by decide))
  have hst : ∀ q, (f (s.at t)).st q = s.st q := fun q => by
    rw [hx]
    exact congrArg (fun l : Vector Rail 8 => (l.get q).st) (hpr.trans hrails)
  have hbad : (f (s.at t)).flag F.JRN_STICKY_SLOT_BAD_S = s.flag F.JRN_STICKY_SLOT_BAD_S :=
    congrArg (· != 0) (hother F.JRN_STICKY_SLOT_BAD_S 0 (by decide) (by decide))
  have hm : (f (s.at t)).mode = .service := by rw [hx]; exact hpm.trans hmode
  have hcd : (f (s.at t)).pow.cdUp = true := by rw [hx]; exact (congrArg (·.cdUp) hpp).trans hup
  obtain ⟨h1, h2, h3, h4⟩ := settle_recleared (s0 := s.at t) (r := r) hstill hm hcd
    (fun q => by rw [hst]; exact (em (s.st q = .hiccup)).imp id id) hcml (hzero _ (by decide)) (hzero _ (by decide)) (hzero _ (by decide))
  refine run_gives hi rfl hstill.1 fun u hu _ => ?_
  rw [run_get hu, run_get hu, run_get hu, run_get hu, h1, hbad]
  exact ⟨rfl, h2, h3, h4⟩

theorem fieldsAt_PMB_CLR : fieldsAt (normAddr 0x7108) = [(F.PMB_CLR_CLR, 0)] := by decide +kernel
theorem State.hostWrite_pmbClr (h : s.AsP2) : s.hostWrite .spi 0x7108 1 = s.pmbClear allRails := by
  have hw : s.writes ⟨.spi, .p2⟩ 0x7108 1 = [(F.PMB_CLR_CLR, 0, 1)] := by
    rw [State.writes_eq ((State.fieldsFor_eq rfl).trans fieldsAt_PMB_CLR) fun e he => State.fusedField_device (by rw [List.mem_singleton.1 he]; decide) _]
    have hc : s.carried F.PMB_CLR_CLR 0 1 = 1 := by simp (decide := true) [State.carried, fusedMask, bits]
    have hn : s.counted ⟨.spi, .p2⟩ F.PMB_CLR_CLR 0 1 = true := rfl
    simp only [List.filterMap_cons, List.filterMap_nil, hc, hn, if_true]
  rw [State.hostWrite_p2 h, State.regWrite_one (y := s.pmbClear allRails) (State.sealOff_p2 h _) hw rfl rfl rfl (by decide) (by decide) rfl]

/-! ## Refused transactions -/

/-- A transaction that ends with STATUS_CML set and nothing else. -/
theorem cml_gives {b : State} {v k : Nat} (hi : exec i s = run t f s) (hx : f (s.at t) = b.cml v) (hb : b.Calm) (hk : k < 8) (hv : v.testBit k = true) :
    Gives i s (fun u => Framed b u ∧ (u.get F.PMB_STATUS_STATUS_CML).testBit k = true) := by
  have hframe := b.cml_framed v
  refine run_gives hi hx (hframe.calm.trans hb) fun u hu hf => ⟨hframe.trans hf, (CmlSet.run (i := k) ?_ (by rw [hx]; exact hframe.calm.trans hb) hu).2⟩
  rw [hx]
  exact b.cml_set hk hv

theorem State.pmbRun_sealed (hup : s.regsUp = true) (hs : s.sessOn 1 = true) {code : Nat} (hc : sessCommand code = false) (xf : Xfer)
    (rd : Option (State → State)) (wr : Option (List Byte → State → State)) : s.pmbRun code xf rd wr = s.pmbNack := by
  unfold State.pmbRun
  rw [hup, hs, hc]
  rfl
theorem State.pmbRun_down (hup : s.regsUp = false) (code : Nat) (xf : Xfer) (rd : Option (State → State)) (wr : Option (List Byte → State → State)) :
    s.pmbRun code xf rd wr = s.pmbNack := by
  unfold State.pmbRun
  rw [hup]
  rfl
theorem State.pmbUnknown_nacked (hup : s.regsUp = true) (hs : s.sessOn 1 = false) {c : Nat} (hc : c ∉ pmbCodes) :
    s.pmbUnknown c = s.pmbNack.cml 128 := by
  unfold State.pmbUnknown
  rw [hup, hs, if_neg (by simp), if_neg (by simpa using hc)]
theorem State.cdUp_of_regsUp (h : s.regsUp = true) : s.pow.cdUp = true := by
  unfold State.regsUp at h
  simp only [Bool.and_eq_true] at h
  exact h.1.1.1
theorem State.regsUp_of_p2 (h : s.AsP2) : s.regsUp = true := by
  have := h.1
  unfold State.pathUp at this
  simp only [Bool.and_eq_true] at this
  exact this.1
/-- The PMBus side and one register. -/
theorem Changes.pmbSet {g : Fld} {j v : Nat} {p : Pmbus} (hg : g.fits = true) (hj : j < g.count) :
    Changes [.pmb] [g] s ({ s with pmb := p }.set g j v) :=
  ⟨rfl, (Changes.set (ps := []) (s := s) (List.mem_singleton.2 rfl) hg hj v).regs⟩
theorem incSat_fits (w v : Nat) : incSat w v % 2 ^ w = min (2 ^ w - 1) (v + 1) := by
  have hw := Nat.two_pow_pos w
  unfold incSat
  split
  · rw [Nat.mod_eq_of_lt (by omega)]
    omega
  · rw [Nat.mod_eq_of_lt (by omega)]
    omega

/-! ## The length of a digest -/

theorem shaRound_length (v : List Nat) (kw : Nat × Nat) : (shaRound v kw).length = v.length := by
  unfold shaRound
  split <;> rfl
theorem shaBlock_length (h : List Nat) (m : List Byte) : (shaBlock h m).length = h.length := by
  unfold shaBlock
  dsimp only
  have hfold : ∀ l : List (Nat × Nat), (l.foldl shaRound h).length = h.length := fun l =>
    List.foldlRecOn (motive := fun v => v.length = h.length) l shaRound rfl fun v hv kw _ => (shaRound_length v kw).trans hv
  rw [List.length_zipWith, hfold, Nat.min_self]
theorem shaBlocks_length : ∀ (n : Nat) (h : List Nat) (m : List Byte), (shaBlocks n h m).length = h.length
  | 0, _, _ => rfl
  | n + 1, h, _ => (shaBlocks_length n _ _).trans (shaBlock_length h _)
theorem sha256_length (m : List Byte) : (sha256 m).length = 32 := by
  unfold sha256
  simp [List.length_flatMap, beBytes, leBytes_length, shaBlocks_length, shaH]

/-- A constant that a read drives. -/
theorem const_gives {code : Nat} {d : List Byte} {g : State → List Byte} {wr : Option (List Byte → State → State)} (hs : s.Calm) (hup : s.regsUp = true)
    (hn : s.sessOn 1 = false) (hi : exec i s = run t (fun s => s.pmbRun code .read (some fun s => s.pmbOut code (g s)) wr) s)
    (hg : g (s.at t).ackd = d) : Gives i s (fun u => s.Drives u code d ∧ Changes [.pmb] [] s u) := by
  subst hg
  exact drives_gives hi (State.pmbRun_read (s := s.at t) hup hn code _ _) hs

end Sys2Proof.Machine
open Sys2Proof Sys2Proof.Machine

/-- Settles O46: a transaction by what it drives, clears or refuses; CLEAR_FAULTS by what `pmbRound` sets again (`settle_recleared`). -/
theorem pmbusTransactions : Obligations.PmbusTransactions := by
  unfold Obligations.PmbusTransactions
  refine ⟨fun t s hs hup hn hp => ?_, fun t s p hs hup hn hp => ?_, fun t s p hs hup hn hne hp => ?_, fun t s d p hs hup hn hp => ?_,
    fun t s hs hup hn => ?_, fun t s hs hup hn => ?_, fun t s hs hup hn => ?_, fun t s hs hup hn => ?_, fun t s d hs hup hn => ?_,
    fun t s hs hup hn => ?_, fun t s hs hup hn => ?_, fun t s hs hup hn => ?_, fun t s hs hup hn => ?_, fun t s x hs hup hn => ?_,
    fun t s x hs hup => ?_, fun t s c x hs hup hn hc => ?_, fun t s hs ha => ?_, fun t s hs ha => ?_,
    fun t s r hs hup hn hp _ hm _ => ?_, fun t s r hs hp _ hm _ => ?_⟩
  · have hx : (s.at t).pmbPage .read = (s.at t).ackd.pmbOut 0x00 [BitVec.ofNat 8 (s.get F.PMB_STATUS_PAGE)] :=
      State.pmbRun_read (s := s.at t) hup hn 0x00 _ _
    exact drives_gives (f := fun s => s.pmbPage .read) rfl hx hs
  · have hx : (s.at t).pmbPage (s.sent 0x00 [p]) = (s.at t).ackd.set F.PMB_STATUS_PAGE 0 p.toNat :=
      (State.pmbRun_sent (s := s.at t) hup hn 0x00 [p] _ _).trans (if_pos (by
        show (decide (p.toNat = 0xFF) || decide (p.toNat < if s.cz1604 then 4 else 8)) = true
        simpa using hp))
    refine run_gives (f := fun s => s.pmbPage _) rfl hx hs fun u _ hf => ⟨?_, hf.pmbNack, ?_⟩
    · rw [hf.get _ _ (by decide), State.get_set_self]
      exact Nat.mod_eq_of_lt p.isLt
    · exact (hf.changes (s := s.at t) (Changes.pmbSet (by decide) (by decide))).of_at
  · have hx : (s.at t).pmbPage (s.sent 0x00 [p]) = (s.at t).ackd.cml 64 :=
      (State.pmbRun_sent (s := s.at t) hup hn 0x00 [p] _ _).trans (if_neg (by
        have hno : ¬p.toNat < (if s.cz1604 then 4 else 8) := by split <;> omega
        show ¬(decide (p.toNat = 0xFF) || decide (p.toNat < if s.cz1604 then 4 else 8)) = true
        simpa [hne] using hno))
    refine (cml_gives (k := 6) (f := fun s => s.pmbPage _) rfl hx hs (by decide) (by decide)).mono fun u ⟨hf, hbit⟩ => ⟨?_, hbit⟩
    exact hf.get F.PMB_STATUS_PAGE 0 (by decide)
  · have hx : (s.at t).pmbPage (.write d p) = ((s.at t).ackd.inc F.PMB_STATUS_PEC_ERR).cml 32 :=
      State.pmbRun_pec (s := s.at t) hup hn hp _ _
    refine (cml_gives (k := 5) (f := fun s => s.pmbPage _) rfl hx hs (by decide) (by decide)).mono fun u ⟨hf, hbit⟩ => ⟨?_, ?_, hbit⟩
    · rw [hf.get F.PMB_STATUS_PAGE 0 (by decide)]
      exact State.get_set_of_ne _ _ _ _ _ _ (by decide)
    · rw [hf.get F.PMB_STATUS_PEC_ERR 0 (by decide), State.inc_eq, State.get_set_self]
      exact incSat_fits _ _
  · exact const_gives (g := fun _ => leBytes 1 0x16) hs hup hn rfl rfl
  · exact const_gives (g := fun _ => leBytes 1 0xD0) hs hup hn rfl rfl
  · exact const_gives (g := fun _ => leBytes 1 0x14) hs hup hn rfl rfl
  · exact const_gives (g := fun _ => leBytes 1 0x44) hs hup hn rfl rfl
  · have hx : (s.at t).pmbConst 0x19 (s.sent 0x19 d) 0xD0 = (s.at t).ackd.cml 64 := State.pmbRun_unread (s := s.at t) hup hn 0x19 d _
    exact (cml_gives (k := 6) (f := fun s => s.pmbConst _ _ _) rfl hx hs (by decide) (by decide)).mono fun u ⟨hf, hbit⟩ =>
      ⟨hbit, hf.pmbOut, (hf.changes (s := s.at t) (Changes.pmb _)).of_at⟩
  · exact const_gives (g := fun _ => block (ascii [0x5A, 0x49, 0x4C, 0x55, 0x52, 0x41])) hs hup hn rfl rfl
  · refine const_gives (g := fun s => block (if s.cz1604 then ascii [0x43, 0x5A, 0x31, 0x36, 0x30, 0x34] else ascii [0x43, 0x5A, 0x33, 0x32, 0x30, 0x38]))
      hs hup hn rfl ?_
    show block (if s.cz1604 then _ else _) = _
    cases s.cz1604 <;> rfl
  · exact const_gives (g := fun _ => block (ascii [0x31])) hs hup hn rfl rfl
  · refine const_gives (g := fun s => block (s.otp.devId.take 8)) hs hup hn rfl ?_
    unfold block
    rw [List.length_take, show (s.at t).ackd.otp.devId.length = 32 from sha256_length _]
    rfl
  · have hx : (s.at t).pmbText 0x99 x (fun _ => ascii [0x5A, 0x49, 0x4C, 0x55, 0x52, 0x41]) = (s.at t).pmbNack :=
      State.pmbRun_sealed (s := s.at t) hup hn rfl _ _ _
    refine run_gives (f := fun s => s.pmbText 0x99 x _) rfl hx hs fun u _ hf => ⟨hf.pmbNack, hf.pmbOut, ?_⟩
    exact (hf.changes (s := s.at t) (Changes.pmb _)).of_at
  · have hx : (s.at t).pmbText 0x99 x (fun _ => ascii [0x5A, 0x49, 0x4C, 0x55, 0x52, 0x41]) = (s.at t).pmbNack :=
      State.pmbRun_down (s := s.at t) hup _ _ _ _
    refine run_gives (f := fun s => s.pmbText 0x99 x _) rfl hx hs fun u _ hf => ⟨hf.pmbNack, ?_⟩
    exact (hf.changes (s := s.at t) (Changes.pmb _)).of_at
  · have hx : (s.at t).pmbUnknown c.toNat = (s.at t).pmbNack.cml 128 := State.pmbUnknown_nacked (s := s.at t) hup hn hc
    exact (cml_gives (k := 7) (f := fun s => s.pmbUnknown _) rfl hx hs (by decide) (by decide)).mono fun u ⟨hf, hbit⟩ =>
      ⟨hf.pmbNack, hf.pmbOut, hbit⟩
  · refine run_gives (f := State.alertResponse) rfl (if_pos ha) hs fun u _ hf => ⟨hf.pmbOut, hf.pmbNack, ?_⟩
    exact (hf.changes (s := s.at t) (Changes.pmb _)).of_at
  · refine run_gives (f := State.alertResponse) rfl (if_neg (by rw [show (s.at t).smbAlert = false from ha]; decide)) hs fun u _ hf =>
      ⟨hf.pmbNack, hf.pmbOut, ?_⟩
    exact (hf.changes (s := s.at t) (Changes.pmb _)).of_at
  · have hx : (s.at t).pmbRun 0x03 (s.sent 0x03 []) none (some fun b s => if b.isEmpty then s.pmbClear s.pageRails else s.pmbInvalid) =
        (s.at t).ackd.pmbClear (s.at t).ackd.pageRails := State.pmbRun_sent (s := s.at t) hup hn 0x03 [] _ _
    have hpages : (s.at t).ackd.pageRails = [r] := by
      have hpage : (s.at t).ackd.page = r.val := hp
      unfold State.pageRails State.pageRail
      rw [hpage, if_neg (by omega)]
      exact congrArg (fun q => [q]) (Fin.ofNat_val_eq_self r)
    rw [hpages] at hx
    exact pmbClear_gives (f := fun s => s.pmbRun 0x03 _ _ _) rfl hx (List.mem_singleton.2 rfl) rfl rfl rfl hm (State.cdUp_of_regsUp hup) hs
  · exact pmbClear_gives (f := fun s => s.hostWrite .spi 0x7108 1) rfl (State.hostWrite_pmbClr (s := s.at t) hp) (mem_allRails r) rfl rfl rfl hm (State.cdUp_of_regsUp (State.regsUp_of_p2 hp)) hs
end


section
/-!
The thermal side: what the evaluation of the temperatures leaves (R350 to R354), what a reading leaves (R349), and package shutdown (R354).
-/
namespace Sys2Proof.Machine

variable {b s x : State}

/-! ## The evaluation -/

/-- The register fields that the evaluation of the temperatures writes. -/
def evalFields : List Fld :=
  [F.TEMP_RMAX_HI_TEMP, F.TEMP_RMAX_HI_STALE, F.TEMP_RMAX_HI_FAILED, F.TEMP_RMAX_LO_TEMP, F.TEMP_RMAX_LO_STALE, F.TEMP_RMAX_LO_FAILED,
   F.TEMP_RMIN_HI_TEMP, F.TEMP_RMIN_HI_STALE, F.TEMP_RMIN_HI_FAILED, F.TEMP_RMIN_LO_TEMP, F.TEMP_RMIN_LO_STALE, F.TEMP_RMIN_LO_FAILED,
   F.TEMP_PACK_LO_TEMP, F.TEMP_PACK_LO_STALE, F.TEMP_PACK_LO_FAILED, F.THERM_STATUS_NO_SENSOR, F.THERM_STATUS_ROR_ACT, F.THERM_STATUS_LOWT_ACT,
   F.THERM_STATUS_LEVEL, F.THERM_STATUS_PKG_WARN, F.THERM_STATUS_PKG_SHUT, F.THERM_STICKY_ROR_S, F.THERM_STICKY_LOWT_S, F.THERM_STICKY_PKGW_S,
   F.THERM_DERATE_D, F.THERM_STATUS_CHG_OK, F.THERM_STATUS_JRN_OK]
/-- What the evaluation leaves: the sequencer, the sensors and the sums, and every register outside `evalFields`. -/
structure Evaluated (b s : State) : Prop where
  pow : s.pow = b.pow
  sens : s.th.sens = b.th.sens
  sum : s.th.sum = b.th.sum
  regs : ∀ k, evalFields.all (fun f => f.off k) = true → s.regs.get k = b.regs.get k

theorem Evaluated.refl (s : State) : Evaluated s s := ⟨rfl, rfl, rfl, fun _ _ => rfl⟩
theorem Evaluated.set (h : Evaluated b s) {f : Fld} {i v : Nat} (hf : f ∈ evalFields) (hi : i < f.count) : Evaluated b (s.set f i v) :=
  ⟨h.pow, h.sens, h.sum, fun k hk => (Store.get_set_of_ne _ _ (Fld.key_ne (List.all_eq_true.1 hk f hf) hi)).trans (h.regs k hk)⟩
theorem Evaluated.ite {c : Prop} {d : Decidable c} {x y : State} (hx : Evaluated b x) (hy : Evaluated b y) : Evaluated b (@ite _ c d x y) := by
  split <;> assumption
theorem Evaluated.when (h : Evaluated b s) {c : Bool} {f : State → State} (hf : ∀ x, Evaluated b x → Evaluated b (f x)) : Evaluated b (s.when c f) :=
  .ite (hf _ h) h
theorem Evaluated.foldl {α : Type} {f : State → α → State} {l : List α} (h : Evaluated b s) (hf : ∀ x a, a ∈ l → Evaluated b x → Evaluated b (f x a)) :
    Evaluated b (l.foldl f s) := List.foldlRecOn l f h fun x hx a ha => hf x a ha hx
theorem Evaluated.logF (h : Evaluated b s) {code unit : Nat} {items : List (Nat × Int)} (hc : statusCodes.contains code = false) :
    Evaluated b (s.logF code unit items) :=
  ⟨(State.raise_pow ..).trans h.pow, (congrArg Thermal.sens (State.raise_th ..)).trans h.sens, (congrArg Thermal.sum (State.raise_th ..)).trans h.sum,
    fun k hk => (congrArg (·.get k) (State.raise_regs s _ _ _ _ hc)).trans (h.regs k hk)⟩
theorem Evaluated.putTemp (h : Evaluated b s) {r : TempReg} {v : Option Int} (hv : r.v ∈ evalFields) (hs : r.stale ∈ evalFields)
    (hf : r.failed ∈ evalFields) (hi : r.i < r.v.count ∧ r.i < r.stale.count ∧ r.i < r.failed.count) : Evaluated b (s.putTemp r v) := by
  cases v with
  | some x => exact ((h.set hv hi.1).set hs hi.2.1).set hf hi.2.2
  | none => exact ((h.set hv hi.1).set hs hi.2.1).set hf hi.2.2
theorem Evaluated.withTh (h : Evaluated b s) {th : Thermal} (hs : th.sens = s.th.sens) (hm : th.sum = s.th.sum) : Evaluated b { s with th := th } :=
  ⟨h.pow, hs.trans h.sens, hm.trans h.sum, h.regs⟩
theorem Evaluated.put (h : Evaluated b s) {f : Fld} {v : Nat} (hf : f ∈ evalFields ∧ 0 < f.count := by decide) : Evaluated b (s.set f 0 v) := h.set hf.1 hf.2
theorem Evaluated.mark (h : Evaluated b s) {f : Fld} (hf : f ∈ evalFields ∧ 0 < f.count := by decide) : Evaluated b (s.mark f) := h.put hf
theorem Evaluated.clear (h : Evaluated b s) {f : Fld} (hf : f ∈ evalFields ∧ 0 < f.count := by decide) : Evaluated b (s.clear f) := h.put hf
theorem Evaluated.setB (h : Evaluated b s) {f : Fld} {c : Bool} (hf : f ∈ evalFields ∧ 0 < f.count := by decide) : Evaluated b (s.setB f 0 c) := h.put hf
theorem Evaluated.rgnBit (h : Evaluated b s) {f : Fld} {m : Nat} {c : Bool} (hf : f ∈ evalFields ∧ 0 < f.count := by decide) :
    Evaluated b (s.rgnBit f m c) := h.put hf
theorem Evaluated.putRgnTh (h : Evaluated b s) {m : Nat} {x : RegionTh} : Evaluated b (s.putRgnTh m x) := h.withTh rfl rfl
theorem Evaluated.rorRound (h : Evaluated b s) {m : Nat} {t : Option Int} : Evaluated b (s.rorRound m t) := by
  unfold State.rorRound
  dsimp only
  split
  · exact .ite (.logF h.putRgnTh.putRgnTh.rgnBit.mark.putRgnTh rfl) (.ite h.putRgnTh.putRgnTh.rgnBit h.putRgnTh.putRgnTh)
  · exact h.putRgnTh.putRgnTh
theorem Evaluated.lowtEval (h : Evaluated b s) {m : Nat} {t : Option Int} : Evaluated b (s.lowtEval m t) := by
  unfold State.lowtEval
  split
  · exact h
  · exact .ite (h.rgnBit.mark.logF rfl) (.ite h.rgnBit h)
/-- A half-word that the evaluation writes. -/
def TempReg.evaluated (r : TempReg) : Prop :=
  (r.v ∈ evalFields ∧ r.stale ∈ evalFields ∧ r.failed ∈ evalFields) ∧ r.i < r.v.count ∧ r.i < r.stale.count ∧ r.i < r.failed.count
theorem Evaluated.putHalf (h : Evaluated b s) {r : TempReg} {v : Option Int} (hr : r.evaluated) : Evaluated b (s.putTemp r v) := by
  obtain ⟨⟨hv, hs, hf⟩, hi⟩ := hr
  exact h.putTemp hv hs hf hi
theorem Evaluated.regionEval (h : Evaluated b s) {roundEnd : Bool} {m : Nat} (hm : m < 4) : Evaluated b (s.regionEval roundEnd m) := by
  have hreg : ∀ m < 4, (tmaxReg m).evaluated ∧ (tminReg m).evaluated := by unfold TempReg.evaluated; decide
  obtain ⟨hmax, hmin⟩ := hreg m hm
  refine Evaluated.when (Evaluated.put (Evaluated.putRgnTh (Evaluated.lowtEval (Evaluated.when ?_ fun _ hx => hx.rorRound)))) fun _ hx => hx.logF rfl
  split
  · exact Evaluated.putRgnTh ((((h.putHalf hmax).putHalf hmin).rgnBit).when fun _ hx => hx.logF rfl)
  · exact (((h.putHalf hmax).putHalf hmin).rgnBit).when fun _ hx => hx.logF rfl
theorem Evaluated.pkgEval (h : Evaluated b s) : Evaluated b s.pkgEval := by
  have hput : ∀ v, Evaluated b (s.putTemp pkgReg v) := fun v => h.putTemp (r := pkgReg) (by decide) (by decide) (by decide) (by decide)
  unfold State.pkgEval
  dsimp only
  split
  · exact hput _
  · exact .ite ((hput _).mark.mark.logF rfl) (.ite (hput _).clear (hput _))
theorem Evaluated.pkgShut (h : Evaluated b s) : Evaluated b s.pkgShut := h.setB
theorem Evaluated.deratePub (h : Evaluated b s) : Evaluated b s.deratePub :=
  h.foldl fun _ m hm hx => hx.set (f := F.THERM_DERATE_D) (by decide) ((by decide : ∀ m ∈ [0, 1, 2, 3], m < F.THERM_DERATE_D.count) m hm)
theorem Evaluated.thermEval (h : Evaluated b s) {roundEnd : Bool} : Evaluated b (s.thermEval roundEnd) :=
  .ite h (h.foldl fun _ m hm hx => hx.regionEval ((by decide : ∀ m ∈ [0, 1, 2, 3], m < 4) m hm)).pkgEval.pkgShut.deratePub
theorem Evaluated.windowsOf (h : Evaluated b s) {k : Nat} : Evaluated b (s.windowsOf k) := by
  have hchg : Evaluated b s.chgWindow := by
    unfold State.chgWindow
    dsimp only
    generalize (if (!(!s.tempStale (sensReg 14) && !s.tempFailed (sensReg 14))) = true then s.th.chgOut else _) = out
    exact Evaluated.setB (f := F.THERM_STATUS_CHG_OK) (h.withTh (th := { s.th with chgOut := out }) rfl rfl)
  exact .ite hchg (.ite (h.setB (f := F.THERM_STATUS_JRN_OK)) h)

/-! ## A sensor's half-word -/

/-- A half-word whose three fields are its own: neither the evaluation nor the end of an update writes them. -/
structure TempReg.Own (r : TempReg) : Prop where
  eval : ([r.v, r.stale, r.failed].all fun f => evalFields.all (fun e => e.off (f.key r.i)) && F.THERM_STICKY_FAIL_S.off (f.key r.i)
    && !settleKey (f.key r.i)) = true
  valueStale : r.v.key r.i ≠ r.stale.key r.i
  valueFailed : r.v.key r.i ≠ r.failed.key r.i
  staleFailed : r.stale.key r.i ≠ r.failed.key r.i
  widths : r.v.width = 12 ∧ r.stale.width = 1 ∧ r.failed.width = 1
theorem sensReg_own : ∀ k : Fin 47, (sensReg k.val).Own := by
  have hall : ∀ k : Fin 47, (([(sensReg k.val).v, (sensReg k.val).stale, (sensReg k.val).failed].all fun f =>
        evalFields.all (fun e => e.off (f.key (sensReg k.val).i)) && F.THERM_STICKY_FAIL_S.off (f.key (sensReg k.val).i)
        && !settleKey (f.key (sensReg k.val).i)) = true) ∧ (sensReg k.val).v.key (sensReg k.val).i ≠ (sensReg k.val).stale.key (sensReg k.val).i
      ∧ (sensReg k.val).v.key (sensReg k.val).i ≠ (sensReg k.val).failed.key (sensReg k.val).i
      ∧ (sensReg k.val).stale.key (sensReg k.val).i ≠ (sensReg k.val).failed.key (sensReg k.val).i
      ∧ (sensReg k.val).v.width = 12 ∧ (sensReg k.val).stale.width = 1 ∧ (sensReg k.val).failed.width = 1 := by decide +kernel
  intro k
  obtain ⟨h1, h2, h3, h4, h5⟩ := hall k
  exact ⟨h1, h2, h3, h4, h5⟩

variable {r : TempReg}

/-- The half-word reads as before. -/
structure HalfKept (r : TempReg) (b s : State) : Prop where
  temp : s.temp r = b.temp r
  stale : s.tempStale r = b.tempStale r
  failed : s.tempFailed r = b.tempFailed r

theorem HalfKept.of_get (h : ∀ f ∈ [r.v, r.stale, r.failed], s.get f r.i = b.get f r.i) : HalfKept r b s := by
  refine ⟨?_, ?_, ?_⟩
  · unfold State.temp State.getI
    rw [h r.v (by simp)]
  · unfold State.tempStale State.flag
    rw [h r.stale (by simp)]
  · unfold State.tempFailed State.flag
    rw [h r.failed (by simp)]
theorem TempReg.Own.field (h : r.Own) {f : Fld} (hf : f ∈ [r.v, r.stale, r.failed]) : evalFields.all (fun e => e.off (f.key r.i)) = true
    ∧ F.THERM_STICKY_FAIL_S.off (f.key r.i) = true ∧ settleKey (f.key r.i) = false := by
  have hall := List.all_eq_true.1 h.eval f hf
  simp only [Bool.and_eq_true, Bool.not_eq_true'] at hall
  exact ⟨hall.1.1, hall.1.2, hall.2⟩
theorem Evaluated.half (h : Evaluated b s) (hr : r.Own) : HalfKept r b s := .of_get fun _ hf => h.regs _ (hr.field hf).1
theorem Framed.half (h : Framed b s) (hr : r.Own) : HalfKept r b s := .of_get fun _ hf => h.get _ _ (hr.field hf).2.2
theorem HalfKept.trans {a : State} (h : HalfKept r a b) (g : HalfKept r b s) : HalfKept r a s :=
  ⟨g.temp.trans h.temp, g.stale.trans h.stale, g.failed.trans h.failed⟩
theorem HalfKept.failMarked (hr : r.Own) : HalfKept r s (s.mark F.THERM_STICKY_FAIL_S) :=
  .of_get fun _ hf => State.get_set_of_ne _ _ _ _ _ _ (Fld.key_ne (hr.field hf).2.1 (by decide))

/-- A value written. -/
theorem State.putTemp_value (hr : r.Own) (v : Int) : (s.putTemp r (some v)).temp r = satS 12 v ∧ (s.putTemp r (some v)).tempStale r = false
    ∧ (s.putTemp r (some v)).tempFailed r = false := by
  obtain ⟨hw, hws, hwf⟩ := hr.widths
  refine ⟨?_, ?_, ?_⟩
  · show toS r.v.width ((((s.set r.v r.i (ofS r.v.width (satS 12 v))).set r.stale r.i 0).set r.failed r.i 0).get r.v r.i) = satS 12 v
    rw [State.get_set_of_ne _ _ _ _ _ _ hr.valueFailed, State.get_set_of_ne _ _ _ _ _ _ hr.valueStale, State.get_set_self, hw]
    exact toS_ofS_satS v
  · show ((((s.set r.v r.i (ofS r.v.width (satS 12 v))).set r.stale r.i 0).set r.failed r.i 0).get r.stale r.i != 0) = false
    rw [State.get_set_of_ne _ _ _ _ _ _ hr.staleFailed, State.get_set_self, Nat.zero_mod]
    rfl
  · show ((((s.set r.v r.i (ofS r.v.width (satS 12 v))).set r.stale r.i 0).set r.failed r.i 0).get r.failed r.i != 0) = false
    rw [State.get_set_self, Nat.zero_mod]
    rfl
/-- FAILED written. -/
theorem State.putTemp_failed (hr : r.Own) : (s.putTemp r none).temp r = 0 ∧ (s.putTemp r none).tempFailed r = true := by
  obtain ⟨hw, hws, hwf⟩ := hr.widths
  refine ⟨?_, ?_⟩
  · show toS r.v.width ((((s.set r.v r.i 0).set r.stale r.i 0).set r.failed r.i 1).get r.v r.i) = 0
    rw [State.get_set_of_ne _ _ _ _ _ _ hr.valueFailed, State.get_set_of_ne _ _ _ _ _ _ hr.valueStale, State.get_set_self, hw]
    rfl
  · show ((((s.set r.v r.i 0).set r.stale r.i 0).set r.failed r.i 1).get r.failed r.i != 0) = true
    rw [State.get_set_self, hwf]
    rfl
/-- STALE written. -/
theorem State.staleMarked (hr : r.Own) : (s.mark r.stale r.i).temp r = s.temp r ∧ (s.mark r.stale r.i).tempStale r = true := by
  obtain ⟨hw, hws, hwf⟩ := hr.widths
  refine ⟨?_, ?_⟩
  · show toS r.v.width ((s.set r.stale r.i 1).get r.v r.i) = _
    rw [State.get_set_of_ne _ _ _ _ _ _ hr.valueStale]
    rfl
  · show ((s.set r.stale r.i 1).get r.stale r.i != 0) = true
    rw [State.get_set_self, hws]
    rfl

/-- A good reading of a sensor that has not failed. -/
def State.readGood (s : State) (k : Nat) (v : Int) : State :=
  (s.putTemp (sensReg k) (some v)).putSens k { bad := 0, good := 1, ever := true, failed := false }
theorem State.reading_good {k : Nat} (hf : (s.sens k).failed = false) (v : Int) : s.reading k (some v) = (s.readGood k v).windowsOf k := by
  unfold State.reading State.readGood
  dsimp only
  rw [hf, Bool.false_and, if_neg Bool.false_ne_true, State.when_false]
/-- A reading out of range of a sensor that does not read FAILED. -/
def State.readBad (s : State) (k : Nat) : State :=
  (s.putSens k { s.sens k with bad := (s.sens k).bad + 1, good := 0 }).mark (sensReg k).stale (sensReg k).i
theorem State.reading_bad {k : Nat} (hf : s.tempFailed (sensReg k) = false) : s.reading k none = (s.readBad k).windowsOf k := by
  have hput : (s.putSens k { s.sens k with bad := (s.sens k).bad + 1, good := 0 }).tempFailed (sensReg k) = false := hf
  unfold State.reading State.readBad
  dsimp only
  rw [hput]
  rfl

/-! ## Package shutdown -/

theorem HoldKept.enter (h : HoldKept b s) {n : Nat} {m : Mode} : HoldKept b (s.enter n m) :=
  .regs ((h.set (f := F.MODE_STATUS_PREV_MODE) (i := 0) (v := s.mode.code) (by decide) (by decide)).set (f := F.MODE_STATUS_LAST_TRANS) (i := 0) (v := n)
    (by decide) (by decide)) (State.enter_regs n m)
theorem HoldKept.onRails (h : HoldKept b s) {f : State → Fin 8 → State} (hf : ∀ x r, HoldKept b x → HoldKept b (f x r)) : HoldKept b (s.onRails f) :=
  h.foldl hf
theorem HoldKept.disarm (h : HoldKept b s) {r : Fin 8} : HoldKept b (s.disarm r) := by
  unfold State.disarm
  split
  · exact h.railOff
  · exact h.railOff
  · exact h
theorem HoldKept.dlStop_fast (h : HoldKept b s) {cause : Nat} (hc : (cause == 3 || cause == 4 || cause == 6) = false) : HoldKept b (s.dlStop cause) := by
  unfold State.dlStop
  refine HoldKept.foldl h fun x r hx => ?_
  rw [hc, if_neg Bool.false_ne_true]
  have hoff : HoldKept b ((x.fastStop r).railOff r) := hx.fastStop.railOff
  cases x.st r with
  | off => exact hx
  | latched => exact hx
  | _ => exact hoff

theorem State.raise_pmbRec (s : State) (front : Bool) (code unit : Nat) (items : List (Nat × Int)) (react : React) :
    (s.raise front code unit items react).regs = (s.pmbRec code unit items).regs := by
  unfold State.raise
  dsimp only
  split
  · split
    · rfl
    · exact State.emit_regs ..
  · exact State.emit_regs ..
theorem HoldKept.dlTold (h : HoldKept b s) {items : List (Nat × Int)} : HoldKept b (s.raise true 0x0A16 0 items) := by
  have hall : ∀ {f : Fld} {v : Nat}, heldFields.all (fun g => f.off (g.key 0)) = true → f.count = 8 →
      HoldKept b ((List.range 8).foldl (fun s r => s.pmbBits f r v) s) := fun {f v} hf hn =>
    List.foldlRecOn (motive := HoldKept b) (List.range 8) _ h fun x hx r hr => hx.set hf (by rw [hn]; exact List.mem_range.1 hr)
  have hrec : HoldKept b (s.pmbRec 0x0A16 0 items) := by
    show HoldKept b (if items.getD 0 (1, 0) = (1, 2) then _ else if items.getD 0 (1, 0) = (1, 7) then _ else s)
    exact .ite (hall (by decide) rfl) (.ite (hall (by decide) rfl) h)
  exact hrec.regs (State.raise_pmbRec ..)

/-- What a device-latching fault leaves before its stops. -/
def State.dlHeld (s : State) (cause : Nat) : State :=
  ((s.set F.PROT_STATUS_DL_CAUSE 0 cause).mark F.FAULT_HOLD_FAULT_HOLD).raise true 0x0A16 0 [(1, cause), (1, s.mode.code)]
theorem State.deviceLatch_regulate (hm : s.mode = .regulate) (cause : Nat) : s.deviceLatch cause = ((s.dlHeld cause).dlStop cause).enterSafestop 9 := by
  have hmode : (s.dlHeld cause).mode = .regulate := (State.raise_mode ..).trans hm
  unfold State.deviceLatch
  rw [if_neg (by rw [hm]; decide)]
  extract_lets held told
  have htold : told = s.dlHeld cause := rfl
  clear_value told
  subst htold
  rw [hmode]
theorem State.dlHeld_get {cause : Nat} (hw : cause < 16) : (s.dlHeld cause).get F.PROT_STATUS_DL_CAUSE = cause
    ∧ (s.dlHeld cause).get F.FAULT_HOLD_FAULT_HOLD = 1 := by
  have hkept : HoldKept ((s.set F.PROT_STATUS_DL_CAUSE 0 cause).mark F.FAULT_HOLD_FAULT_HOLD) (s.dlHeld cause) := (HoldKept.refl _).dlTold
  refine ⟨hkept.cause.trans ?_, hkept.hold.trans (State.get_set_self _ _ _ _)⟩
  refine (State.get_set_of_ne _ _ _ _ _ _ (by decide)).trans ?_
  rw [State.get_set_self]
  exact Nat.mod_eq_of_lt hw
theorem State.dlHeld_pow (s : State) (cause : Nat) : (s.dlHeld cause).pow = s.pow := by
  unfold State.dlHeld
  rw [State.raise_pow]
  rfl
theorem State.dlStop_stop (s : State) {cause : Nat} (hc : (cause == 3 || cause == 4 || cause == 6) = false) :
    (s.dlStop cause).pow.stopSet = s.pow.stopSet := by
  unfold State.dlStop State.onRails
  refine List.foldlRecOn (motive := fun x : State => x.pow.stopSet = s.pow.stopSet) allRails _ rfl fun x hx r _ => ?_
  have hoff : ((x.fastStop r).railOff r).pow.stopSet = s.pow.stopSet :=
    ((congrArg (·.stopSet) (State.railOff_pow r)).trans (x.fastStop_held r).stop).trans hx
  rw [hc, if_neg Bool.false_ne_true]
  cases x.st r with
  | off => exact hx
  | latched => exact hx
  | _ => exact hoff

/-- A device-latching fault in REGULATE ends in SAFESTOP (T9) with its cause held. -/
theorem deviceLatch_gives {i : Instr} {t cause : Nat} {f : State → State} (hi : exec i s = run t f s) (hx : f (s.at t) = x.deviceLatch cause)
    (hs : x.Still) (hm : x.mode = .regulate) (hc : (cause == 3 || cause == 4 || cause == 6) = false) (hw : cause < 16) :
    Gives i s (fun u => u.mode = .safestop ∧ u.get F.PROT_STATUS_DL_CAUSE = cause ∧ u.get F.FAULT_HOLD_FAULT_HOLD = 1) := by
  have hframe : Framed x (x.deviceLatch cause) := State.deviceLatch_framed cause (.refl x)
  rw [State.deviceLatch_regulate hm] at hx hframe
  obtain ⟨hcause, hhold⟩ := State.dlHeld_get (s := x) hw
  have hstop : (((x.dlHeld cause).dlStop cause).enterSafestop 9).pow.stopSet = 0 := by
    rw [State.enterSafestop_pow, State.dlStop_stop _ hc, State.dlHeld_pow]
    exact hs.2.2
  have hkept : HoldKept (x.dlHeld cause) ((x.dlHeld cause).dlStop cause) := (HoldKept.refl _).dlStop_fast hc
  have hsafe : HoldKept (((x.dlHeld cause).dlStop cause).mark F.FAULT_HOLD_FAULT_HOLD) (((x.dlHeld cause).dlStop cause).enterSafestop 9) := by
    unfold State.enterSafestop
    exact ((HoldKept.refl _).onRails fun _ _ hx => hx.disarm).enter
  have hmode := State.enterSafestop_mode (s := (x.dlHeld cause).dlStop cause) 9
  have hcause' : (((x.dlHeld cause).dlStop cause).enterSafestop 9).get F.PROT_STATUS_DL_CAUSE = cause :=
    (hsafe.cause.trans (State.get_set_of_ne _ _ _ _ _ _ (by decide))).trans (hkept.cause.trans hcause)
  have hhold' : (((x.dlHeld cause).dlStop cause).enterSafestop 9).get F.FAULT_HOLD_FAULT_HOLD = 1 := hsafe.hold.trans (State.get_set_self _ _ _ _)
  generalize ((x.dlHeld cause).dlStop cause).enterSafestop 9 = y at hx hframe hstop hmode hcause' hhold'
  subst hx
  have hstill : (f (s.at t)).Still :=
    ⟨hframe.calm.trans hs.1, (congrArg (· != 0) (hframe.get F.CJ_CFG_CJ_EN 0 (by decide))).trans hs.2.1, hstop⟩
  have hsteady : (f (s.at t)).mode.steady = true := by rw [hmode]; rfl
  have harm : ∀ r, (f (s.at t)).mayArm r = false := fun r => by simp [State.mayArm, hmode, Mode.running]
  refine run_gives hi rfl hstill.1 fun u hu _ => ⟨?_, ?_, ?_⟩
  · rw [run_mode t f u hu hstill.1 hstill.2.1 hsteady, hmode]
  · rw [run_quiet hu hstill hsteady harm _ _ (by decide), hcause']
  · rw [run_quiet hu hstill hsteady harm _ _ (by decide), hhold']

end Sys2Proof.Machine
end

section
namespace Sys2Proof.Machine

variable {b s x : State} {i : Instr} {t : Nat} {f : State → State}

/-! ## Slots -/

/-- The slot after a channel's result. -/
def State.slotDone (s : State) (ch : Nat) : State := { s with th.next := ch + 1, th.owed := decide (0 < s.th.demand) }
theorem State.hkSlot_due (hr : s.hkRuns = true) (hrun : s.th.running = true) (ho : s.th.owed = false) {ch : Nat} (hn : s.hkNext = ch) (h30 : ch ≠ 30)
    (h31 : ch ≠ 31) (a e : Int) : s.hkSlot ch a e = (s.hkResult ch a e).slotDone ch := by
  unfold State.hkSlot
  rw [hr, hrun, ho, hn, if_neg (by decide), if_neg h30, if_neg (by simp)]
  have : (ch == 31) = false := beq_eq_false_iff_ne.2 h31
  simp only [this, State.when_false]
  rfl
theorem State.hkSlot_other (hr : s.hkRuns = true) {ch : Nat} (hn : ch ≠ s.hkNext) (h30 : ch ≠ 30) (a e : Int) : s.hkSlot ch a e = s := by
  have hne : (ch != s.hkNext) = true := bne_iff_ne.2 hn
  unfold State.hkSlot
  rw [hr, hne, if_neg (by decide), if_neg h30, if_pos (by rw [Bool.or_true])]
/-- A round skipped while one runs. -/
def State.skipCounted (s : State) : State := (({ s with th.startAt := some s.now } : State).inc F.HK_STATUS_ROUND_SKIP).mark F.THERM_STICKY_SKIP_S
def State.roundSkipped (s : State) : State := s.skipCounted.logF 0x0C09 0 [(1, s.skipCounted.get F.HK_STATUS_ROUND_SKIP)]
/-- A round begun. -/
def State.roundBegun (s : State) : State :=
  { s.set F.HK_STATUS_ROUND_CNT 0 (s.get F.HK_STATUS_ROUND_CNT + 1) with th := { s.th with startAt := some s.now, running := true, next := 0 } }
theorem State.hkStart_due (hr : s.hkRuns = true) (hd : s.hkDue = true) : s.hkStart = if s.th.running then s.roundSkipped else s.roundBegun := by
  unfold State.hkStart
  rw [hr, hd, if_neg (by decide), if_neg (by decide)]
  rfl
theorem State.roundSkipped_framed (s : State) : Framed s.skipCounted s.roundSkipped := State.logF_only _ _ _ rfl

/-- The result of a die sensor: a reading. -/
theorem State.hkResult_die {ch : Nat} (hc : ch < 6) (a e : Int) : s.hkResult ch a e =
    s.reading ch (if s.flag F.HK_STATUS_SELF_FAIL then none else if a < -440 ∨ 1400 < a then none else some a) := by
  unfold State.hkResult State.tempChannel
  rw [if_pos (by omega)]
  split
  · rfl
  · rfl

/-- After a command whose effect writes a register and the thermal side. -/
theorem thSet_gives {g : Fld} {v : Nat} {th : Thermal} (hi : exec i s = run t f s) (hx : f (s.at t) = { (s.at t).set g 0 v with th := th }) (hs : s.Calm)
    (hg : g.fits = true) (hn : 0 < g.count) (hk : settleKey (g.key 0) = false) :
    Gives i s (fun u => u.get g = v % 2 ^ g.width ∧ u.th = th ∧ Changes [.th] [g] s u) := by
  refine run_gives hi hx hs fun u _ hf => ⟨?_, hf.th, (hf.changes (s := s.at t) ?_).of_at⟩
  · rw [hf.get g 0 hk]
    exact State.get_set_self _ _ _ _
  · exact ⟨rfl, (Changes.set (ps := []) (List.mem_singleton.2 rfl) hg hn v).regs⟩
/-- After one that changes the thermal side alone. -/
theorem th_gives {th : Thermal} (hi : exec i s = run t f s) (hx : f (s.at t) = { s.at t with th := th }) (hs : s.Calm) :
    Gives i s (fun u => u.th = th ∧ Changes [.th] [] s u) :=
  run_gives hi hx hs fun _ _ hf => ⟨hf.th, (hf.changes (s := s.at t) ⟨rfl, fun _ _ _ => rfl⟩).of_at⟩

/-! ## The package comparators (R354) -/

/-- The comparators' reading taken. -/
def State.strobed (s : State) (cmp : Nat) : State := { s with th.cmp := cmp, th.strobe := s.th.cmp &&& cmp }
theorem State.tshut_due {cmp : Nat} (hm : s.mode = .regulate) (hl : s.get F.TH_LIMITS_PKG_TSHUT ≠ 0) : s.tshut cmp =
    (s.strobed cmp).pkgShut.when ((s.th.cmp &&& cmp) != 0 && s.th.strobe == 0) (fun s => s.deviceLatch 7) := by
  have hawake : s.awake = true := by unfold State.awake; rw [hm]; rfl
  exact if_neg (by rw [hawake]; simpa using hl)
theorem State.pkgShut_high (hc : s.th.cmp ≠ 0) : s.pkgShut = s.set F.THERM_STATUS_PKG_SHUT 0 1 := by
  have hne : (s.th.cmp != 0) = true := bne_iff_ne.2 hc
  unfold State.pkgShut
  rw [hne]
  rfl
theorem State.pkgShut_still (hs : s.Still) : s.pkgShut.Still :=
  hs.of_eq rfl (State.get_set_of_ne _ _ _ _ _ _ (by decide))

/-! ## Sensors -/

theorem getD_set_self {α : Type} {l : List α} {k : Nat} {v d : α} (h : k < l.length) : (l.set k v).getD k d = v := by
  rw [List.getD_eq_getElem _ _ (by rw [List.length_set]; exact h), List.getElem_set_self]
theorem satS_fits {v : Int} (h : -2048 ≤ v ∧ v ≤ 2047) : satS 12 v = v := by
  unfold satS satI
  omega
theorem tfltTemp_le {a d m n : Nat} {v : Int} (h : tfltTemp a d m n = some v) : v ≤ 1400 := by
  unfold tfltTemp at h
  dsimp only at h
  split at h
  · cases h
  · next hc =>
    cases h
    omega
/-- A scan of a phase whose temperature input counts (R348). -/
def State.sumTaken (s : State) (n : Fin 32) : State := { s with th.sum := s.th.sum.set n.val (0, 0) }
theorem State.tfltScan_due {n : Fin 32} {y z code : Nat} (hm : s.mode = .regulate) (ha : s.flag F.PH_STATE_ASSIGNED n = true)
    (hsen : s.flag F.SEN_CFG_SEN_STATE (s.railOf n) = true) (hf : s.flag F.PWM_STATUS_TFLT_FAULT n = false) (hsum : s.th.sum.getD n.val (0, 0) = (y, z)) :
    s.tfltScan n code = if y + 1 < 16 then { s with th.sum := s.th.sum.set n.val (y + 1, z + code) } else
      ((s.sumTaken n).reading (15 + n.val)
        (if s.th.tfSlope == 0 then none else tfltTemp s.th.tfV0 s.th.tfSlope s.th.tfVmin (z + code))).thermEval false := by
  have hawake : s.awake = true := by unfold State.awake; rw [hm]; rfl
  unfold State.tfltScan
  rw [hawake, ha, hsen, hf, if_neg (by decide), hsum]
  rfl


/-- After a good reading and what follows it. -/
theorem readGood_gives {k : Fin 47} {v : Int} (hi : exec i s = run t f s) (he : Evaluated (x.readGood k.val v) (f (s.at t))) (hs : x.Calm) :
    Gives i s (fun u => u.temp (sensReg k.val) = satS 12 v ∧ u.tempStale (sensReg k.val) = false ∧ u.tempFailed (sensReg k.val) = false
      ∧ u.th.sum = x.th.sum) := by
  have hown := sensReg_own k
  have hcalm : (f (s.at t)).Calm := by
    unfold State.Calm
    rw [he.pow]
    exact hs
  obtain ⟨htemp, hstale, hfailed⟩ := State.putTemp_value (s := x) hown v
  refine run_gives hi rfl hcalm fun u _ hf => ?_
  have hhalf := (he.half hown).trans (hf.half hown)
  exact ⟨hhalf.temp.trans htemp, hhalf.stale.trans hstale, hhalf.failed.trans hfailed, (congrArg Thermal.sum hf.th).trans he.sum⟩
/-- After a reading out of range. -/
theorem readBad_gives {k : Fin 47} (hi : exec i s = run t f s) (he : Evaluated (x.readBad k.val) (f (s.at t))) (hs : x.Calm) (hl : x.th.sens.length = 47) :
    Gives i s (fun u => u.tempStale (sensReg k.val) = true ∧ u.temp (sensReg k.val) = x.temp (sensReg k.val)
      ∧ (u.sens k.val).bad = (x.sens k.val).bad + 1) := by
  have hown := sensReg_own k
  have hcalm : (f (s.at t)).Calm := by
    unfold State.Calm
    rw [he.pow]
    exact hs
  obtain ⟨htemp, hstale⟩ := State.staleMarked (s := x.putSens k.val { x.sens k.val with bad := (x.sens k.val).bad + 1, good := 0 }) hown
  refine run_gives hi rfl hcalm fun u _ hf => ?_
  have hhalf := (he.half hown).trans (hf.half hown)
  have hsens : u.sens k.val = { x.sens k.val with bad := (x.sens k.val).bad + 1, good := 0 } := by
    unfold State.sens
    rw [(congrArg Thermal.sens hf.th).trans he.sens]
    exact getD_set_self (by rw [hl]; exact k.isLt)
  exact ⟨hhalf.stale.trans hstale, hhalf.temp.trans htemp, by rw [hsens]⟩

/-- A sensor that fails (R349). -/
def State.sensorDown (s : State) (k : Nat) : State :=
  ((s.putTemp (sensReg k) none).putSens k { s.sens k with failed := true, good := 0 }).mark F.THERM_STICKY_FAIL_S
theorem State.sensorFail_due {k : Nat} (hf : (s.sens k).failed = false) (hm : s.get F.HK_CFG_STALE_MAX ≤ (s.sens k).bad) (hb : (s.sens k).bad ≠ 0) :
    s.sensorFail k = (((s.sensorDown k).logF 0x0C02 0 [(2, k), (2, s.temp (sensReg k))]).windowsOf k).thermEval false := by
  unfold State.sensorFail
  dsimp only
  rw [if_pos (by rw [hf]; simpa using ⟨hm, hb⟩)]
  rfl
theorem State.sensorDown_sticky (s : State) (k : Nat) : (s.sensorDown k).get F.THERM_STICKY_FAIL_S = 1 := State.get_set_self _ _ _ _
theorem State.sensorDown_sens {k : Nat} (hl : k < s.th.sens.length) : (s.sensorDown k).sens k = { s.sens k with failed := true, good := 0 } :=
  getD_set_self (by exact hl)
theorem HalfKept.putSens {r : TempReg} (s : State) (k : Nat) (q : Sens) : HalfKept r s (s.putSens k q) := ⟨rfl, rfl, rfl⟩
theorem State.sensorDown_half {k : Nat} (hr : (sensReg k).Own) :
    (s.sensorDown k).temp (sensReg k) = 0 ∧ (s.sensorDown k).tempFailed (sensReg k) = true := by
  obtain ⟨htemp, hfailed⟩ := State.putTemp_failed (s := s) hr
  have hkept : HalfKept (sensReg k) (s.putTemp (sensReg k) none) (s.sensorDown k) := (HalfKept.putSens _ k _).trans (HalfKept.failMarked hr)
  generalize s.putTemp (sensReg k) none = x at htemp hfailed hkept
  exact ⟨hkept.temp.trans htemp, hkept.failed.trans hfailed⟩
theorem sensorFailed_gives {k : Fin 47} (hi : exec i s = run t f s) (he : Evaluated (x.sensorDown k.val) (f (s.at t))) (hs : x.Calm)
    (hl : x.th.sens.length = 47) : Gives i s (fun u => u.tempFailed (sensReg k.val) = true ∧ u.temp (sensReg k.val) = 0
      ∧ u.get F.THERM_STICKY_FAIL_S = 1 ∧ (u.sens k.val).failed = true) := by
  have hown := sensReg_own k
  have hcalm : (f (s.at t)).Calm := by
    unfold State.Calm
    rw [he.pow]
    exact hs
  obtain ⟨htemp, hfailed⟩ := State.sensorDown_half (s := x) hown
  have hsens : (x.sensorDown k.val).sens k.val = { x.sens k.val with failed := true, good := 0 } := State.sensorDown_sens (by rw [hl]; exact k.isLt)
  have hsticky := State.sensorDown_sticky x k.val
  generalize x.sensorDown k.val = y at he htemp hfailed hsens hsticky
  refine run_gives hi rfl hcalm fun u _ hf => ?_
  have hhalf := (he.half hown).trans (hf.half hown)
  refine ⟨hhalf.failed.trans hfailed, hhalf.temp.trans htemp, ?_, ?_⟩
  · rw [hf.get F.THERM_STICKY_FAIL_S 0 (by decide), ← hsticky, State.get_def, State.get_def, he.regs _ (by decide)]
  · have hu : u.sens k.val = y.sens k.val := by
      unfold State.sens
      rw [congrArg Thermal.sens hf.th, he.sens]
    rw [hu, hsens]

end Sys2Proof.Machine
open Sys2Proof Sys2Proof.Machine

/-- Settles O37: the rounds by their guards, a sensor by its half-word (`HalfKept`), which the evaluation leaves (`Evaluated`), and fault 0x7
by `deviceLatch_gives`. -/
theorem housekeeping : Obligations.Housekeeping := by
  unfold Obligations.Housekeeping
  refine ⟨fun t s hs hr hrun hd => ?_, fun t s hs hr hrun hd => ?_, fun t s hs hr hd => ?_, fun t s hs hr => ?_,
    fun t s a e hs hr hrun ho hn hf ha hlt => ?_, fun t s c a e hs hr hne h30 => ?_, fun t s a e hs hr ho => ?_,
    fun t s c a e hs hr hrun ho hn hc hf hb hl => ?_, fun t s c a e hs hr hrun ho hn hc hself hf hlo hhi => ?_, fun t s hs h2 hf => ?_,
    fun t s k hs hf hm hb hl => ?_, fun t s n c y z hs hm ha hsen htf hsum hlt hl => ?_,
    fun t s n c z v hs hm ha hsen htf hsum hself hslope hv hlo hf hl => ?_, fun t s c hs hm hlim hcmp hc => ?_, fun t s c hs hm hlim hcmp hst => ?_⟩
  · have hx : (s.at t).hkStart = { (s.at t).set F.HK_STATUS_ROUND_CNT 0 (s.get F.HK_STATUS_ROUND_CNT + 1) with
        th := { s.th with startAt := some (s.at t).now, running := true, next := 0 } } := by
      rw [State.hkStart_due (s := s.at t) hr hd, show (s.at t).th.running = false from hrun]
      rfl
    refine (thSet_gives (f := State.hkStart) rfl hx hs (by decide) (by decide) (by decide)).mono fun u ⟨hcnt, hth, hch⟩ => ?_
    exact ⟨by rw [hth], by rw [hth], by rw [hth]; rfl, hcnt, hch⟩
  · have hx : (s.at t).hkStart = (s.at t).roundSkipped := by
      rw [State.hkStart_due (s := s.at t) hr hd, show (s.at t).th.running = true from hrun]
      rfl
    have hframe := (s.at t).roundSkipped_framed
    refine run_gives (f := State.hkStart) rfl hx (hframe.calm.trans hs) fun u _ hf => ?_
    have hall := hframe.trans hf
    refine ⟨?_, ?_, hall.th.trans rfl, (hall.changes (s := s.at t) ?_).of_at⟩
    · rw [hall.get _ _ (by decide)]
      show (((s.at t).inc F.HK_STATUS_ROUND_SKIP).mark F.THERM_STICKY_SKIP_S).get F.HK_STATUS_ROUND_SKIP = _
      rw [State.mark_eq, State.get_set_of_ne _ _ _ _ _ _ (by decide), State.inc_eq, State.get_set_self]
      exact incSat_fits 8 _
    · rw [hall.get _ _ (by decide)]
      exact State.get_set_self _ _ _ _
    · exact Changes.of_two (f := F.HK_STATUS_ROUND_SKIP) (g := F.THERM_STICKY_SKIP_S) rfl rfl (by decide) (by decide) (by decide) (by decide)
  · exact run_idle (f := State.hkStart) rfl ((if_neg (by rw [show (s.at t).hkRuns = true from hr]; decide)).trans
      (if_pos (by rw [hd]; rfl))) hs
  · have hx : (s.at t).hkDemand = { s.at t with th := { s.th with demand := s.th.demand + 1, owed := s.th.owed || !s.th.running } } :=
      if_neg (by rw [show (s.at t).hkRuns = true from hr]; decide)
    exact (th_gives (f := State.hkDemand) rfl hx hs).mono fun u ⟨hth, hch⟩ => ⟨by rw [hth], by rw [hth], hch⟩
  · have hx : (s.at t).hkSlot 22 a e = { (s.at t).set F.HK_V0_VDD33 0 a.toNat with th := { s.th with next := 23, owed := decide (0 < s.th.demand) } } := by
      rw [State.hkSlot_due (s := s.at t) hr hrun ho hn (by decide) (by decide)]
      have hres : (s.at t).hkResult 22 a e = (s.at t).set F.HK_V0_VDD33 0 a.toNat :=
        if_neg (by rw [show (s.at t).flag F.HK_STATUS_SELF_FAIL = false from hf]; decide)
      rw [hres]
      rfl
    refine (thSet_gives (f := fun s => s.hkSlot 22 a e) rfl hx hs (by decide) (by decide) (by decide)).mono fun u ⟨hv, hth, hch⟩ => ⟨?_, by rw [hth], hch⟩
    rw [hv]
    exact Nat.mod_eq_of_lt (show a.toNat < 2 ^ 16 by omega)
  · exact run_idle (f := fun s => s.hkSlot c.val a e) rfl (State.hkSlot_other (s := s.at t) hr hne h30 a e) hs
  · have hx : (s.at t).hkSlot 30 a e = { s.at t with th := { s.th with demand := s.th.demand - 1, owed := decide (1 < s.th.demand) } } := by
      unfold State.hkSlot
      rw [if_neg (by rw [show (s.at t).hkRuns = true from hr]; decide), if_pos rfl]
      exact if_pos ho
    exact (th_gives (f := fun s => s.hkSlot 30 a e) rfl hx hs).mono fun u ⟨hth, hch⟩ => ⟨by rw [hth], by rw [hth], hch⟩
  · have hx : (s.at t).hkSlot c.val a e = (((s.at t).readBad c.val).windowsOf c.val).slotDone c.val := by
      rw [State.hkSlot_due (s := s.at t) hr hrun ho hn (by omega) (by omega), State.hkResult_die hc]
      have hout : (if (s.at t).flag F.HK_STATUS_SELF_FAIL then none else if a < -440 ∨ 1400 < a then none else some a) = (none : Option Int) := by
        split
        · rfl
        · exact if_pos (.inr hb)
      rw [hout, State.reading_bad (s := s.at t) hf]
    refine readBad_gives (k := ⟨c.val, by omega⟩) (x := s.at t) (f := fun s => s.hkSlot c.val a e) rfl ?_ hs hl
    rw [hx]
    exact ((Evaluated.refl _).windowsOf).withTh rfl rfl
  · have hx : (s.at t).hkSlot c.val a e = (((s.at t).readGood c.val a).windowsOf c.val).slotDone c.val := by
      rw [State.hkSlot_due (s := s.at t) hr hrun ho hn (by omega) (by omega), State.hkResult_die hc,
        if_neg (by rw [show (s.at t).flag F.HK_STATUS_SELF_FAIL = false from hself]; decide), if_neg (by omega), State.reading_good (s := s.at t) hf]
    refine (readGood_gives (k := ⟨c.val, by omega⟩) (x := s.at t) (f := fun s => s.hkSlot c.val a e) (v := a) rfl ?_ hs).mono
      fun u ⟨htemp, hstale, hfailed, _⟩ => ⟨htemp.trans (satS_fits (by omega)), hstale, hfailed⟩
    rw [hx]
    exact ((Evaluated.refl _).windowsOf).withTh rfl rfl
  · have hx : (s.at t).selfFail = ((s.at t).mark F.HK_STATUS_SELF_FAIL).logF 0x0C01 0 [(2, satS 16 s.th.selfZero), (2, satS 16 s.th.selfHalf)] :=
      if_pos (by rw [Bool.and_eq_true]; exact ⟨decide_eq_true h2, by rw [show (s.at t).flag F.HK_STATUS_SELF_FAIL = false from hf]; rfl⟩)
    have hframe : Framed ((s.at t).mark F.HK_STATUS_SELF_FAIL) _ := State.logF_only ((s.at t).mark F.HK_STATUS_SELF_FAIL) (code := 0x0C01) (unit := 0)
      [(2, satS 16 s.th.selfZero), (2, satS 16 s.th.selfHalf)] .none rfl
    refine run_gives (f := State.selfFail) rfl hx (hframe.calm.trans hs) fun u _ hu => ⟨?_, ((hframe.trans hu).changes (s := s.at t) ?_).of_at⟩
    · rw [(hframe.trans hu).get _ _ (by decide)]
      exact State.get_set_self _ _ _ _
    · exact ⟨rfl, (Changes.set (ps := []) (List.mem_singleton.2 rfl) (by decide) (by decide) 1).regs⟩
  · refine sensorFailed_gives (x := s.at t) (f := fun s => s.sensorFail k.val) rfl ?_ hs hl
    rw [State.sensorFail_due (s := s.at t) hf hm hb]
    exact ((Evaluated.refl _).logF rfl).windowsOf.thermEval
  · have hx : (s.at t).tfltScan n c.toNat = { s.at t with th := { s.th with sum := s.th.sum.set n.val (y + 1, z + c.toNat) } } := by
      rw [State.tfltScan_due (s := s.at t) hm ha hsen htf hsum, if_pos hlt]
      rfl
    refine (th_gives (f := fun s => s.tfltScan n c.toNat) rfl hx hs).mono fun u ⟨hth, hch⟩ => ⟨?_, hch⟩
    rw [hth]
    exact getD_set_self (by rw [hl]; exact n.isLt)
  · have hhi : v ≤ 1400 := tfltTemp_le hv
    have hx : (s.at t).tfltScan n c.toNat = (((s.at t).sumTaken n).readGood (15 + n.val) v |>.windowsOf (15 + n.val)).thermEval false := by
      rw [State.tfltScan_due (s := s.at t) hm ha hsen htf hsum, if_neg (by decide)]
      have hval : (if (s.at t).th.tfSlope == 0 then none else tfltTemp s.th.tfV0 s.th.tfSlope s.th.tfVmin (z + c.toNat)) = some v := by
        rw [if_neg (by simpa using hslope), hv]
      show ((((s.at t).sumTaken n).reading (15 + n.val)
        (if (s.at t).th.tfSlope == 0 then none else tfltTemp s.th.tfV0 s.th.tfSlope s.th.tfVmin (z + c.toNat)))).thermEval false = _
      rw [hval, State.reading_good (s := (s.at t).sumTaken n) hf]
    refine (readGood_gives (k := ⟨15 + n.val, by omega⟩) (x := (s.at t).sumTaken n) (f := fun s => s.tfltScan n c.toNat) (v := v) rfl ?_ hs).mono
      fun u ⟨htemp, _, _, hs⟩ => ⟨htemp.trans (satS_fits (by omega)), ?_⟩
    · rw [hx]
      exact (Evaluated.refl _).windowsOf.thermEval
    · rw [hs]
      exact getD_set_self (by rw [show (s.at t).th.sum.length = 32 from hl]; exact n.isLt)
  · have htw : s.th.cmp &&& c.toNat = 0 := hcmp
    have hx : (s.at t).tshut c.toNat = { (s.at t).set F.THERM_STATUS_PKG_SHUT 0 1 with th := { s.th with cmp := c.toNat, strobe := 0 } } := by
      rw [State.tshut_due (s := s.at t) hm hlim, State.pkgShut_high (s := (s.at t).strobed c.toNat) (fun h => hc (BitVec.eq_of_toNat_eq h))]
      unfold State.strobed
      rw [show (s.at t).th.cmp &&& c.toNat = 0 from htw]
      rfl
    refine (thSet_gives (f := fun s => s.tshut c.toNat) rfl hx hs (by decide) (by decide) (by decide)).mono fun u ⟨hv, hth, hch⟩ => ⟨by rw [hth], hv, hch⟩
  · have hx : (s.at t).tshut c.toNat = ((s.at t).strobed c.toNat).pkgShut.deviceLatch 7 := by
      rw [State.tshut_due (s := s.at t) hm hlim]
      exact if_pos (by rw [show (s.at t).th.strobe = 0 from hst]; simpa using hcmp)
    exact deviceLatch_gives (f := fun s => s.tshut c.toNat) rfl hx (State.pkgShut_still (s := (s.at t).strobed c.toNat) hs) hm (by decide) (by decide)
end



section
/-!
What no command undoes: a register field stays within its width, one-time programming only gains, and the journal's memory and the Control
die's mirror are written by few. `Sound` says so of two states. It is carried through every operation of the model, one lemma per operation
in the model's order, as `Kept` is, with what a write of a register field needs: that the field is listed and its instance exists.
-/
namespace Sys2Proof.Machine

/-! ## Register keys -/

/-- Two fields that share no bit position, no address, or, where ranges overlap, no instance. -/
def Fld.separate (f g : Fld) : Bool :=
  (f.lostep == 0 && g.lostep == 0 && f.lo != g.lo) || f.base + f.stride * (f.count - 1) < g.base || g.base + g.stride * (g.count - 1) < f.base
    || (List.range f.count).all (fun i => (List.range g.count).all (fun j => f.key i != g.key j))
/-- Any two fields of a list are apart. -/
def separateAll : List Fld → Bool
  | [] => true
  | f :: l => l.all f.separate && separateAll l

theorem Fld.key_div {f : Fld} {i : Nat} (hf : f.fits = true) (hi : i < f.count) : f.key i / 32 = f.addr i ∧ f.key i % 32 = f.pos i := by
  simp only [Fld.fits, Bool.and_eq_true, decide_eq_true_eq] at hf
  have hp : f.lostep * i ≤ f.lostep * (f.count - 1) := Nat.mul_le_mul_left _ (by omega)
  unfold Fld.key Fld.pos
  omega
theorem Fld.key_ne_of_separate {f g : Fld} {i j : Nat} (hf : f.fits = true) (hg : g.fits = true) (hi : i < f.count) (hj : j < g.count)
    (h : f.separate g = true) : f.key i ≠ g.key j := by
  intro he
  obtain ⟨hfa, hfp⟩ := Fld.key_div hf hi
  obtain ⟨hga, hgp⟩ := Fld.key_div hg hj
  have haddr : f.addr i = g.addr j := by rw [← hfa, he, hga]
  have hpos : f.pos i = g.pos j := by rw [← hfp, he, hgp]
  unfold Fld.addr at haddr
  unfold Fld.pos at hpos
  have hfr : f.stride * i ≤ f.stride * (f.count - 1) := Nat.mul_le_mul_left _ (by omega)
  have hgr : g.stride * j ≤ g.stride * (g.count - 1) := Nat.mul_le_mul_left _ (by omega)
  simp only [Fld.separate, Bool.or_eq_true, Bool.and_eq_true, beq_iff_eq, bne_iff_ne, decide_eq_true_eq, List.all_eq_true, List.mem_range] at h
  rcases h with ((⟨⟨hfl, hgl⟩, hne⟩ | hlt) | hlt) | hall
  · rw [hfl, hgl, Nat.zero_mul, Nat.zero_mul] at hpos
    exact hne hpos
  · omega
  · omega
  · exact hall i hi j hj he
theorem eq_or_separate {l : List Fld} (h : separateAll l = true) {f g : Fld} (hf : f ∈ l) (hg : g ∈ l) :
    f = g ∨ f.separate g = true ∨ g.separate f = true := by
  induction l with
  | nil => cases hf
  | cons e l ih =>
    simp only [separateAll, Bool.and_eq_true, List.all_eq_true] at h
    obtain ⟨he, hl⟩ := h
    rcases List.mem_cons.1 hf with rfl | hfl
    · rcases List.mem_cons.1 hg with rfl | hgl
      · exact .inl rfl
      · exact .inr (.inl (he g hgl))
    · rcases List.mem_cons.1 hg with rfl | hgl
      · exact .inr (.inr (he f hfl))
      · exact ih hl hfl hgl

/-- The chapter of the register map that an address belongs to; the blocks of rails and phases repeat theirs. -/
def zone (a : Nat) : Nat :=
  if a < 0x1000 then (if a < 0x200 then 0 else 1)
  else if a < 0x2000 then (if a % 0x100 < 0x80 then 2 else if a % 0x100 < 0xB0 then 3 else 4)
  else if a < 0x3000 then (if a % 0x40 < 0x20 then 5 else 6)
  else if a < 0x4000 then (if a < 0x3100 then 7 else if a < 0x3200 then 8 else if a < 0x3800 then 9 else if a < 0x3870 then 10 else 11)
  else if a < 0x5000 then 12 else if a < 0x6000 then 13 else if a < 0x7000 then 14 else 15
/-- The fields of a chapter. -/
def chapter : Nat → List Fld
  | 0 => deviceFields ++ clockFields
  | 1 => securityFields
  | 2 => engineFields
  | 3 => railPhaseFields
  | 4 => railSetpointFields
  | 5 => phaseFields
  | 6 => pwmFields
  | 7 => protectionFields
  | 8 => railProtectionFields
  | 9 => phaseProtectionFields
  | 10 => thermalFields
  | 11 => thermalLimitsFields
  | 12 => packFields
  | 13 => tenseFields
  | 14 => recorderFields
  | _ => linksFields

/-- A field of the map with at least `n` instances. -/
def Fld.listed (f : Fld) (n : Nat) : Bool := (chapter (zone f.base)).contains f && Nat.ble n f.count

theorem chapter_separate : ∀ c < 16, separateAll (chapter c) = true := by decide +kernel
theorem chapter_zoned : ∀ c < 16, (chapter c).all (fun f => f.fits && (List.range f.count).all (fun i => zone (f.addr i) == c)) = true := by
  decide +kernel
theorem allFields_listed : allFields.all (fun f => f.listed 0) = true := by decide +kernel
theorem zone_lt (a : Nat) : zone a < 16 := by
  unfold zone
  repeat' split
  all_goals decide

variable {f g : Fld} {i j n : Nat}

theorem mem_chapter (hf : f ∈ allFields) : f ∈ chapter (zone f.base) := by
  have h := List.all_eq_true.1 allFields_listed f hf
  simp only [Fld.listed, Bool.and_eq_true, List.contains_iff_mem] at h
  exact h.1
/-- A key belongs to one field alone. -/
theorem Fld.key_inj (hf : f ∈ chapter (zone f.base)) (hg : g ∈ chapter (zone g.base)) (hi : i < f.count) (hj : j < g.count)
    (he : f.key i = g.key j) : f = g := by
  have hzone : ∀ h ∈ chapter (zone h.base), ∀ k < h.count, h.fits = true ∧ zone (h.addr k) = zone h.base := by
    intro h hh k hk
    have := List.all_eq_true.1 (chapter_zoned _ (zone_lt h.base)) h hh
    simp only [Bool.and_eq_true, List.all_eq_true, List.mem_range, beq_iff_eq] at this
    exact ⟨this.1, this.2 k hk⟩
  obtain ⟨hff, hfz⟩ := hzone f hf i hi
  obtain ⟨hgf, hgz⟩ := hzone g hg j hj
  have haddr : f.addr i = g.addr j := by rw [← (Fld.key_div hff hi).1, he, (Fld.key_div hgf hj).1]
  have hsame : zone g.base = zone f.base := by rw [← hgz, ← haddr, hfz]
  rw [hsame] at hg
  rcases eq_or_separate (chapter_separate _ (zone_lt f.base)) hf hg with h | h | h
  · exact h
  · exact absurd he (Fld.key_ne_of_separate hff hgf hi hj h)
  · exact absurd he.symm (Fld.key_ne_of_separate hgf hff hj hi h)

/-! ## Widths -/

/-- Every register field holds a value of its width. -/
def Store.Wide (m : Store) : Prop := ∀ f ∈ allFields, ∀ i < f.count, m.get (f.key i) < 2 ^ f.width

variable {m : Store} {v : Nat}

theorem Store.wide_nil : Store.Wide [] := fun _ _ _ _ => Nat.two_pow_pos _
/-- A value of the field's width keeps the widths. -/
theorem Store.Wide.set (h : m.Wide) (hf : f ∈ chapter (zone f.base)) (hi : i < f.count) (hv : v < 2 ^ f.width) : Store.Wide (m.set (f.key i) v) := by
  intro g hg j hj
  rw [Store.get_set]
  split
  · next he =>
    rw [Fld.key_inj (mem_chapter hg) hf hj hi he]
    exact hv
  · exact h g hg j hj
/-- So does a bit, at any key. -/
theorem Store.Wide.setBit (h : m.Wide) (k : Nat) (hv : v < 2) : Store.Wide (m.set k v) := by
  have hpos : allFields.all (fun f => decide (0 < f.width)) = true := by decide +kernel
  intro g hg j hj
  rw [Store.get_set]
  split
  · have hw : 1 ≤ g.width := of_decide_eq_true (List.all_eq_true.1 hpos g hg)
    exact hv.trans_le (Nat.pow_le_pow_right Nat.two_pos hw)
  · exact h g hg j hj
theorem Store.Wide.drop (h : m.Wide) (p : Nat → Bool) : Store.Wide (m.drop p) := by
  intro g hg j hj
  rw [Store.get_drop]
  split
  · exact Nat.two_pow_pos _
  · exact h g hg j hj
theorem Store.Wide.resetRegs (h : m.Wide) (p : Fld → Bool) : Store.Wide (resetRegs m p) := by
  unfold Machine.resetRegs
  refine List.foldlRecOn (motive := Store.Wide) _ _ (h.drop _) fun x hx f hf => ?_
  have hf := (List.mem_filter.1 hf).1
  refine List.foldlRecOn (motive := Store.Wide) _ _ hx fun y hy i hi => ?_
  exact hy.set (mem_chapter hf) (List.mem_range.1 hi) (resetState.2.1 f hf)

end Sys2Proof.Machine
end


section
namespace Sys2Proof.Machine

/-! ## The relation -/

/-- What a command may write beside the registers: the journal's memory, the Control die's mirror. -/
structure Free where
  journal : Bool
  mirror : Bool

/-- From `b` to `s`, one-time programming only gains, the journal's memory and the mirror stay where they are not free, and fields within
their widths stay so. -/
structure Sound (free : Free) (b s : State) : Prop where
  otp : OtpKept b.otp s.otp
  mram : free.journal = true ∨ s.jrn.mram = b.jrn.mram
  mirror : free.mirror = true ∨ (s.mirPh = b.mirPh ∧ s.mirRail = b.mirRail)
  wide : b.regs.Wide → s.regs.Wide

variable {free : Free} {b₀ s : State}

theorem OtpKept.refl (a : Otp) : OtpKept a a :=
  ⟨fun _ h => h, fun _ h => h, fun h => h, fun h => h, rfl, fun h => h, rfl, rfl, fun _ _ => rfl, fun _ _ h => h⟩
theorem OtpKept.trans {a b c : Otp} (h : OtpKept a b) (g : OtpKept b c) : OtpKept a c where
  rb i hi := g.rb i (h.rb i hi)
  own i hi := g.own i (h.own i hi)
  tap ha := g.tap (h.tap ha)
  dec ha := g.dec (h.dec ha)
  cert := g.cert.trans h.cert
  puf hc := h.puf (g.puf hc)
  kdev := g.kdev.trans h.kdev
  unowned := g.unowned.trans h.unowned
  hash i hi := (g.hash i ((h.hash i hi).symm ▸ hi)).trans (h.hash i hi)
  retired i hi hr := g.retired i ((h.hash i hi).symm ▸ hi) (h.retired i hi hr)

theorem Sound.refl (s : State) : Sound free s s := ⟨.refl _, .inr rfl, .inr ⟨rfl, rfl⟩, id⟩

/-! ## Updates of other parts of the state -/

/-- The registers, the OTP, the journal and the mirror are as they were. -/
theorem Sound.withParts (h : Sound free b₀ s) {now pending cz mode img pow br par sets phases rails ports rcd spi pmb cj sec tlm pk th ctx0
    ctxs rings code entry} :
    Sound free b₀ ⟨now, pending, cz, mode, s.regs, img, pow, br, par, sets, s.mirPh, s.mirRail, phases, rails, ports, rcd, spi, pmb, cj,
      s.otp, sec, tlm, s.jrn, pk, th, ctx0, ctxs, rings, code, entry⟩ := ⟨h.otp, h.mram, h.mirror, h.wide⟩
/-- Beside other parts, the journal changes, and not its memory. -/
theorem Sound.withJrn (h : Sound free b₀ s) {now pending cz mode img pow br par sets phases rails ports rcd spi pmb cj sec tlm pk th ctx0
    ctxs rings code entry pend hist hseq busy lastAt deferred deferAt changed lost ctN ctLast fw} :
    Sound free b₀ ⟨now, pending, cz, mode, s.regs, img, pow, br, par, sets, s.mirPh, s.mirRail, phases, rails, ports, rcd, spi, pmb, cj,
      s.otp, sec, tlm, ⟨s.jrn.mram, pend, hist, hseq, busy, lastAt, deferred, deferAt, changed, lost, ctN, ctLast, fw⟩, pk, th, ctx0,
      ctxs, rings, code, entry⟩ := ⟨h.otp, h.mram, h.mirror, h.wide⟩
/-- Beside other parts, the mirror changes, where it is free. -/
theorem Sound.withMirror (h : Sound free b₀ s) (hm : free.mirror = true) {now pending cz mode img pow br par sets mirPh mirRail phases rails
    ports rcd spi pmb cj sec tlm pk th ctx0 ctxs rings code entry} :
    Sound free b₀ ⟨now, pending, cz, mode, s.regs, img, pow, br, par, sets, mirPh, mirRail, phases, rails, ports, rcd, spi, pmb, cj,
      s.otp, sec, tlm, s.jrn, pk, th, ctx0, ctxs, rings, code, entry⟩ := ⟨h.otp, h.mram, .inl hm, h.wide⟩
/-- Registers that stay within their widths. -/
theorem Sound.withRegs (h : Sound free b₀ s) {m : Store} (hm : s.regs.Wide → m.Wide) : Sound free b₀ { s with regs := m } :=
  ⟨h.otp, h.mram, h.mirror, hm ∘ h.wide⟩
/-- The OTP gains. -/
theorem Sound.withOtp (h : Sound free b₀ s) {o : Otp} (ho : OtpKept s.otp o) : Sound free b₀ { s with otp := o } :=
  ⟨h.otp.trans ho, h.mram, h.mirror, h.wide⟩
/-- The journal changes, and its memory where it is free. -/
theorem Sound.putJrn (h : Sound free b₀ s) {j : Journal} (hj : free.journal = true ∨ j.mram = s.jrn.mram) :
    Sound free b₀ { s with jrn := j } :=
  ⟨h.otp, hj.elim .inl fun e => h.mram.imp id e.trans, h.mirror, h.wide⟩

/-- The count of failures is not one-time programmed. -/
theorem OtpKept.failN (o : Otp) (n : Nat) : OtpKept o { o with failN := n } :=
  ⟨fun _ h => h, fun _ h => h, fun h => h, fun h => h, rfl, fun h => h, rfl, rfl, fun _ _ => rfl, fun _ _ h => h⟩

/-! ## Key operations on the OTP (R421 to R423) -/

/-- A slot that holds no hash may take one; one that holds a hash keeps it, and stays retired. -/
theorem OtpKept.putSlot {o : Otp} {i : Nat} {k : KeySlot}
    (hk : (o.slot i).hash ≠ 0 → k.hash = (o.slot i).hash ∧ ((o.slot i).retired → k.retired)) : OtpKept o (o.putSlot i k) := by
  have hslot : ∀ j, (o.putSlot i k).slot j = o.slot j ∨ (j = i ∧ (o.putSlot i k).slot j = k) := by
    intro j
    unfold Otp.slot Otp.putSlot
    dsimp only
    simp only [List.getD_eq_getElem?_getD, List.getElem?_set]
    split
    · next he =>
      subst he
      split
      · exact .inr ⟨rfl, rfl⟩
      · next hlen => exact .inl (by rw [List.getElem?_eq_none (by omega)])
    · exact .inl rfl
  refine ⟨fun _ h => h, fun _ h => h, fun h => h, fun h => h, rfl, fun h => h, rfl, rfl, fun j hj => ?_, fun j hj hr => ?_⟩
  · rcases hslot j with h | ⟨rfl, h⟩
    · rw [h]
    · rw [h]
      exact (hk hj).1
  · rcases hslot j with h | ⟨rfl, h⟩
    · rw [h]
      exact hr
    · rw [h]
      exact (hk hj).2 hr
theorem OtpKept.ieks (o : Otp) (l : List Iek) : OtpKept o { o with ieks := l } :=
  ⟨fun _ h => h, fun _ h => h, fun h => h, fun h => h, rfl, fun h => h, rfl, rfl, fun _ _ => rfl, fun _ _ h => h⟩
theorem Otp.slot_passOn (o : Otp) (i : Nat) : o.passOn.slot i = o.slot i ∨ o.passOn.slot i = (o.slot i).aged (o.ownGen + 1) := by
  unfold Otp.passOn Otp.slot
  dsimp only
  cases o.slots with
  | nil => exact .inl rfl
  | cons a l =>
    cases i with
    | zero => exact .inl rfl
    | succ i =>
      refine .inr ?_
      show (l.map (KeySlot.aged (o.ownGen + 1))).getD i ({} : KeySlot) = _
      rw [show ({} : KeySlot) = KeySlot.aged (o.ownGen + 1) {} from rfl, List.getD_map]
      rfl
theorem KeySlot.aged_hash (k : KeySlot) (gen : Nat) : (k.aged gen).hash = k.hash := by
  unfold KeySlot.aged
  split <;> rfl
theorem KeySlot.aged_retired (k : KeySlot) (gen : Nat) (h : k.retired) : (k.aged gen).retired := by
  unfold KeySlot.aged
  split
  · rfl
  · exact h
theorem OtpKept.passOn (o : Otp) : OtpKept o o.passOn := by
  refine ⟨fun _ h => h, fun i h => ?_, fun h => h, fun h => h, rfl, fun h => h, rfl, rfl, fun i _ => ?_, fun i _ hr => ?_⟩
  · show (o.ownBits ||| 2 ^ o.ownGen).testBit i = true
    rw [Nat.testBit_lor, h, Bool.true_or]
  · rcases o.slot_passOn i with h | h
    · rw [h]
    · rw [h, KeySlot.aged_hash]
  · rcases o.slot_passOn i with h | h
    · rw [h]
      exact hr
    · rw [h]
      exact KeySlot.aged_retired _ _ hr

/-- A key operation that only gains. -/
def Gains (op : Otp → List Byte → KeyOut) : Prop := ∀ o b, OtpKept o (op o b).otp

theorem Otp.firstEmpty_hash {o : Otp} {i : Nat} (h : o.firstEmpty = some i) : (o.slot i).hash = 0 := by
  have := List.find?_some h
  simp only [Otp.emptySlot, Bool.and_eq_true, beq_iff_eq] at this
  exact this.2.1
theorem keyAdd_gains : Gains keyAdd := by
  intro o b
  unfold keyAdd
  dsimp only
  split
  · exact .refl o
  split
  · exact .refl o
  split
  · exact .refl o
  · next i hi => exact .putSlot fun h => absurd (Otp.firstEmpty_hash hi) h
theorem keyTransfer_gains (slot : Nat) : Gains (keyTransfer slot) := by
  intro o b
  unfold keyTransfer
  dsimp only
  split
  · exact .refl o
  split
  · exact .refl o
  split
  · next i _ =>
    have hput : OtpKept o (o.putSlot i { o.slot i with active := true }) := .putSlot fun _ => ⟨rfl, id⟩
    exact hput.trans (.passOn _)
  split
  · exact .refl o
  · next i hi => exact (OtpKept.putSlot fun h => absurd (Otp.firstEmpty_hash hi) h).trans (.passOn _)
theorem keyRetire_gains (signer : Option Nat) : Gains (keyRetire signer) := by
  intro o b
  unfold keyRetire
  dsimp only
  split
  · exact .refl o
  split
  · exact .refl o
  · exact .putSlot fun _ => ⟨rfl, fun _ => rfl⟩
theorem keyAddIek_gains (iv : Nat) : Gains (keyAddIek iv) := by
  intro o b
  unfold keyAddIek
  dsimp only
  split
  · exact .refl o
  split
  · exact .refl o
  · exact .ieks o _
theorem keyRetireIek_gains (used : List Nat) : Gains (keyRetireIek used) := by
  intro o b
  unfold keyRetireIek
  dsimp only
  split
  · exact .refl o
  split
  · exact .refl o
  · exact .ieks o _
theorem keyTapDis_gains : Gains keyTapDis := by
  intro o b
  unfold keyTapDis
  split
  · exact ⟨fun _ h => h, fun _ h => h, fun _ => rfl, fun h => h, rfl, fun h => h, rfl, rfl, fun _ _ => rfl, fun _ _ h => h⟩
  · exact .refl o
theorem keyDeco_gains : Gains keyDeco := by
  intro o b
  unfold keyDeco
  split
  · exact ⟨fun _ h => h, fun _ h => h, fun h => h, fun _ => rfl, rfl, fun h => Bool.noConfusion h, rfl, rfl, fun _ _ => rfl, fun _ _ h => h⟩
  · exact .refl o

/-- The journal's memory is as it was. -/
theorem Sound.keepMram (h : Sound free b₀ s) {j : Journal} (hj : j.mram = s.jrn.mram) : Sound free b₀ { s with jrn := j } :=
  h.putJrn (.inr hj)

/-! ## Branches and loops -/

theorem Sound.ite {c : Prop} {d : Decidable c} {x y : State} (hx : Sound free b₀ x) (hy : Sound free b₀ y) :
    Sound free b₀ (@ite _ c d x y) := by
  split <;> assumption
theorem Sound.when (h : Sound free b₀ s) {c : Bool} {f : State → State} (hf : ∀ x, Sound free b₀ x → Sound free b₀ (f x)) :
    Sound free b₀ (s.when c f) := .ite (hf _ h) h
theorem Sound.foldlMem {α : Type} {f : State → α → State} {l : List α} (h : Sound free b₀ s)
    (hf : ∀ x, ∀ a ∈ l, Sound free b₀ x → Sound free b₀ (f x a)) : Sound free b₀ (l.foldl f s) :=
  List.foldlRecOn l f h fun x hx a ha => hf x a ha hx
theorem Sound.foldl {α : Type} {f : State → α → State} {l : List α} (h : Sound free b₀ s)
    (hf : ∀ x a, Sound free b₀ x → Sound free b₀ (f x a)) : Sound free b₀ (l.foldl f s) := h.foldlMem fun x a _ => hf x a
/-- A loop over the first `n` instances. -/
theorem Sound.foldRange {n : Nat} {f : State → Nat → State} (h : Sound free b₀ s) 
    (hf : ∀ x, ∀ i < n, Sound free b₀ x → Sound free b₀ (f x i)) :
    Sound free b₀ ((List.range n).foldl f s) := h.foldlMem fun x i hi => hf x i (List.mem_range.1 hi)
theorem Sound.onRails (h : Sound free b₀ s) {f : State → Fin 8 → State} (hf : ∀ x r, Sound free b₀ x → Sound free b₀ (f x r)) :
    Sound free b₀ (s.onRails f) := h.foldl hf
theorem Sound.onPhases (h : Sound free b₀ s) {f : State → Fin 32 → State} (hf : ∀ x n, Sound free b₀ x → Sound free b₀ (f x n)) :
    Sound free b₀ (s.onPhases f) := h.foldl hf

/-! ## Register fields -/

/-- An instance of a listed field: the only one, one for each rail, phase or port, or one below a bound. -/
inductive Inst (f : Fld) : Nat → Prop
  | one (hf : f.listed 1 = true) : Inst f 0
  | each {n : Nat} (i : Fin n) (hf : f.listed n = true) : Inst f i.val
  | below {n i : Nat} (hi : i < n) (hf : f.listed n = true) : Inst f i

theorem Inst.found {f : Fld} {i : Nat} (h : Inst f i) : f ∈ chapter (zone f.base) ∧ i < f.count := by
  have hlisted : ∀ n, f.listed n = true → f ∈ chapter (zone f.base) ∧ n ≤ f.count := by
    intro n hn
    simp only [Fld.listed, Bool.and_eq_true, List.contains_iff_mem] at hn
    exact ⟨hn.1, Nat.le_of_ble_eq_true hn.2⟩
  cases h with
  | one hf => exact hlisted 1 hf
  | each i hf =>
    obtain ⟨hin, hn⟩ := hlisted _ hf
    exact ⟨hin, i.isLt.trans_le hn⟩
  | below hi hf =>
    obtain ⟨hin, hn⟩ := hlisted _ hf
    exact ⟨hin, hi.trans_le hn⟩

theorem Sound.set (h : Sound free b₀ s) {f : Fld} {i v : Nat} (hf : Inst f i) : Sound free b₀ (s.set f i v) :=
  h.withRegs fun hw => hw.set hf.found.1 hf.found.2 (Nat.mod_lt _ (Nat.two_pow_pos _))
theorem Sound.load (h : Sound free b₀ s) {f : Fld} {i v : Nat} (hf : Inst f i) : Sound free b₀ (s.load f i v) :=
  Sound.withParts (h.set hf)
/-- A bit fits every field. -/
theorem Sound.setBit (h : Sound free b₀ s) {f : Fld} {i v : Nat} (hv : v < 2) : Sound free b₀ (s.set f i v) :=
  h.withRegs fun hw => hw.setBit _ ((Nat.mod_le _ _).trans_lt hv)

/-! ## The operations of the model, in its order -/

/-! ### State -/

theorem State.reset_wide : State.reset.regs.Wide := by
  have hreset := resetState.1
  generalize State.reset = z at hreset
  intro f hf i hi
  rw [← State.get_def, hreset f hf i hi]
  split
  · exact Nat.two_pow_pos _
  · exact resetState.2.1 f hf
/-- A power-on reset keeps the OTP and the journal's memory. -/
theorem Sound.keep (h : Sound free b₀ s) (hm : free.mirror = true) {z : State} (hz : z.regs.Wide) : Sound free b₀ (z.keep s) :=
  ⟨h.otp, h.mram, .inl hm, fun _ => hz⟩

/-! ### Ops -/

theorem Sound.at (h : Sound free b₀ s) {t : Nat} : Sound free b₀ (s.at t) := h.withParts
theorem Sound.setI (h : Sound free b₀ s) {f : Fld} {i : Nat} {v : Int} (hf : Inst f i) :
    Sound free b₀ (s.setI f i v) := h.set hf
theorem Sound.mark (h : Sound free b₀ s) {f : Fld} {i : Nat} : Sound free b₀ (s.mark f i) := h.setBit (by decide)
theorem Sound.clear (h : Sound free b₀ s) {f : Fld} {i : Nat} : Sound free b₀ (s.clear f i) := h.setBit (by decide)
theorem Sound.setB (h : Sound free b₀ s) {f : Fld} {i : Nat} {b : Bool} : Sound free b₀ (s.setB f i b) :=
  h.setBit (by cases b <;> decide)
theorem Sound.inc (h : Sound free b₀ s) {f : Fld} {i : Nat} (hf : Inst f i) : Sound free b₀ (s.inc f i) :=
  h.set hf
theorem Sound.incWrap (h : Sound free b₀ s) {f : Fld} {i : Nat} (hf : Inst f i) :
    Sound free b₀ (s.incWrap f i) := h.set hf
theorem Sound.pmbBits (h : Sound free b₀ s) {f : Fld} {r v : Nat} (hf : Inst f r) :
    Sound free b₀ (s.pmbBits f r v) := h.set hf
theorem Sound.modRail (h : Sound free b₀ s) {r : Fin 8} {f : Rail → Rail} : Sound free b₀ (s.modRail r f) := h.withParts
theorem Sound.modPh (h : Sound free b₀ s) {n : Fin 32} {f : Phase → Phase} : Sound free b₀ (s.modPh n f) := h.withParts
theorem Sound.modEng (h : Sound free b₀ s) {r : Fin 8} {f : Engine → Engine} : Sound free b₀ (s.modEng r f) := h.modRail
theorem Sound.modFr (h : Sound free b₀ s) {r : Fin 8} {f : Front → Front} : Sound free b₀ (s.modFr r f) := h.modRail
theorem Sound.modSp (h : Sound free b₀ s) {r : Fin 8} {f : SetPt → SetPt} : Sound free b₀ (s.modSp r f) := h.modRail
theorem Sound.setSw (h : Sound free b₀ s) {n : Fin 32} {w : Sw} : Sound free b₀ (s.setSw n w) := h.modPh
theorem Sound.setLevel (h : Sound free b₀ s) {n : Fin 32} {l : Level} : Sound free b₀ (s.setLevel n l) := h.set (.each _ rfl)
theorem Sound.toLevelAt (h : Sound free b₀ s) {n : Fin 32} {l : Level} {tk : Nat} : Sound free b₀ (s.toLevelAt n l tk) :=
  Sound.ite h h.modPh.setLevel
theorem Sound.toLevel (h : Sound free b₀ s) {n : Fin 32} {l : Level} : Sound free b₀ (s.toLevel n l) := h.toLevelAt
theorem Sound.triRail (h : Sound free b₀ s) {r : Fin 8} : Sound free b₀ (s.triRail r) := h.foldl fun _ _ hx => hx.toLevel
theorem Sound.place (h : Sound free b₀ s) {r : Fin 8} : Sound free b₀ (s.place r) :=
  List.foldlRecOn (motive := fun x : State × Nat => Sound free b₀ x.1) _ _ h fun _ hx _ _ => (hx.set (.each _ rfl)).when fun _ hy =>
      hy.modPh
theorem Sound.leftStart (h : Sound free b₀ s) {r : Fin 8} : Sound free b₀ (s.leftStart r) := h.modFr
theorem Sound.setRail (h : Sound free b₀ s) {r : Fin 8} {st : RailState} : Sound free b₀ (s.setRail r st) := by
  unfold State.setRail
  extract_lets moved left parked
  have hm : Sound free b₀ moved := h.modRail
  have hl : Sound free b₀ left := .ite hm.leftStart hm
  have hp : Sound free b₀ parked := .ite (hl.foldl fun _ _ hx => .ite hx hx.setSw) (.ite (hl.foldl fun _ _ hx => .ite hx hx.setSw) hl)
  have hg : Sound free b₀ (if st == .reg || st == .shed || st == .caretaken then parked else
      ((parked.clear F.RP_STATUS_PGOOD_ST r).clear F.RP_STATUS_UV_RD r).modFr r (fun f => { f with uvRun := 0 })) :=
    .ite hp hp.clear.clear.modFr
  exact .ite hg hg.modFr
theorem Sound.setSen (h : Sound free b₀ s) {r : Fin 8} {b : Bool} : Sound free b₀ (s.setSen r b) := h.setB
theorem Sound.railRest (h : Sound free b₀ s) {r : Fin 8} {st : RailState} : Sound free b₀ (s.railRest r st) := by
  unfold State.railRest
  exact h.setRail.setSen.modEng.modFr
theorem Sound.railOff (h : Sound free b₀ s) {r : Fin 8} : Sound free b₀ (s.railOff r) := h.railRest.clear.clear.modEng
theorem Sound.emit (h : Sound free b₀ s) {e : Evt} {react : React} : Sound free b₀ (s.emit e react) :=
  Sound.ite (Sound.ite (by
        split
        · exact h.withParts
        · exact h) h.withParts)
    h.withParts
/-- The rail whose status bytes an event sets stands in the map (Table 16.4): most events set none of one rail. -/
inductive RailNamed (code unit : Nat) (items : List (Nat × Int)) : Prop
  | none (hc : [0x0901, 0x0A03, 0x0A04, 0x0A05, 0x0A06, 0x0B08].contains code = false)
  | unit (hc : code ≠ 0x0901) (hu : unit < 8)
  | item (hc : code = 0x0901) (hi : (items.getD 1 (1, 0)).2.toNat < 8)
theorem RailNamed.elim {code unit : Nat} {items : List (Nat × Int)} (h : RailNamed code unit items) :
    (code ∈ [0x0A03, 0x0A04, 0x0A05, 0x0A06, 0x0B08] → unit < 8) ∧ (code = 0x0901 → (items.getD 1 (1, 0)).2.toNat < 8) := by
  cases h with
  | none hc =>
    have hno : code ∉ [0x0901, 0x0A03, 0x0A04, 0x0A05, 0x0A06, 0x0B08] := fun hm => by
      rw [List.contains_iff_mem.2 hm] at hc
      cases hc
    exact ⟨fun hm => absurd (List.mem_cons_of_mem _ hm) hno, fun he => absurd (he ▸ List.mem_cons_self) hno⟩
  | unit hc hu => exact ⟨fun _ => hu, fun he => absurd he hc⟩
  | item hc hi => exact ⟨fun hm => absurd (hc ▸ hm) (by decide), fun _ => hi⟩
theorem Sound.pmbRec (h : Sound free b₀ s) {code unit : Nat} {items : List (Nat × Int)} (hr : RailNamed code unit items) :
    Sound free b₀ (s.pmbRec code unit items) := by
  obtain ⟨hunit, hitem⟩ := hr.elim
  have hall {x : State} (hx : Sound free b₀ x) {f : Fld} {v : Nat} (hf : f.listed 8 = true) :
      Sound free b₀ ((List.range 8).foldl (fun s r => s.pmbBits f r v) x) := hx.foldRange fun _ _ hi hy => hy.pmbBits (.below hi hf)
  have hone {x : State} (hx : Sound free b₀ x) {f : Fld} {v : Nat} (hc : code ∈ [0x0A03, 0x0A04, 0x0A05, 0x0A06, 0x0B08])
      (hf : f.listed 8 = true) :
      Sound free b₀ (x.pmbBits f unit v) := hx.pmbBits (.below (hunit hc) hf)
  unfold State.pmbRec
  dsimp only
  split
  · next hc =>
    have hm : code ∈ [0x0A03, 0x0A04, 0x0A05, 0x0A06, 0x0B08] := by rcases hc with rfl | rfl <;> decide
    exact hone (hone h hm (by decide +kernel)) hm (by decide +kernel)
  split
  · next hc => exact hone (hone h (by subst hc; decide) (by decide +kernel)) (by subst hc; decide) (by decide +kernel)
  split
  · next hc => exact .ite (hone h (by subst hc; decide) (by decide +kernel)) h
  split
  · exact hall h (by decide +kernel)
  split
  · exact .ite (hall h (by decide +kernel)) (.ite (hall h (by decide +kernel)) h)
  split
  · next hc => exact h.pmbBits (.below (hitem hc) (by decide +kernel))
  split
  · exact h.pmbBits (.each _ rfl)
  split
  · next hc => exact hone h (by subst hc; decide) (by decide +kernel)
  · exact .ite (hall h (by decide +kernel)) h
theorem Sound.raise (h : Sound free b₀ s) {front : Bool} {code unit : Nat} {items : List (Nat × Int)} {react : React}
    (hr : RailNamed code unit items) : Sound free b₀ (s.raise front code unit items react) :=
  .ite (.ite (h.pmbRec hr).withParts (h.pmbRec hr).withParts.emit) (h.pmbRec hr).emit
theorem Sound.logF (h : Sound free b₀ s) {code unit : Nat} {items : List (Nat × Int)} {react : React}
    (hr : RailNamed code unit items) : Sound free b₀ (s.logF code unit items react) := h.raise hr
theorem Sound.logC (h : Sound free b₀ s) {code unit : Nat} {items : List (Nat × Int)}
    (hr : RailNamed code unit items) : Sound free b₀ (s.logC code unit items) := h.raise hr
theorem Sound.modPort (h : Sound free b₀ s) {p : Fin 2} {f : Port → Port} : Sound free b₀ (s.modPort p f) := h.withParts
theorem Sound.noteOn (h : Sound free b₀ s) {p : Fin 2} {x : Notice} : Sound free b₀ (s.noteOn p x) :=
  Sound.ite (h.modPort.when fun _ hx => hx.mark.logC (.none rfl)) h
theorem Sound.noteRail (h : Sound free b₀ s) {r : Fin 8} {kind word : Nat} : Sound free b₀ (s.noteRail r kind word) :=
  h.foldl fun _ _ hx => Sound.ite hx.noteOn hx
theorem Sound.noteAll (h : Sound free b₀ s) {kind word : Nat} : Sound free b₀ (s.noteAll kind word) := h.foldl fun _ _ hx => hx.noteOn
theorem Sound.enter (h : Sound free b₀ s) {n : Nat} {m : Mode} : Sound free b₀ (s.enter n m) := by
  unfold State.enter
  exact ((h.set (.one rfl)).set (.one rfl)).withParts.raise (.none rfl)
theorem Sound.endLs (h : Sound free b₀ s) {r : Fin 8} : Sound free b₀ (s.endLs r) :=
  Sound.clear (Sound.clear (Sound.clear (Sound.clear (Sound.foldl
    (Sound.modFr (h.when fun _ hx => hx.logF (.none (by split <;> rfl)))) fun _ _ hx => hx.modPh))))
theorem Sound.fastStop (h : Sound free b₀ s) {r : Fin 8} : Sound free b₀ (s.fastStop r) := h.endLs.triRail.setSen.modFr.clear
theorem Sound.latchNow (h : Sound free b₀ s) {r : Fin 8} {cause : Nat} : Sound free b₀ (s.latchNow r cause) :=
  (h.railRest.set (.each _ rfl)).logF (.none rfl)
theorem Sound.softStop (h : Sound free b₀ s) {r : Fin 8} {k : StopKind} {cause : Nat} : Sound free b₀ (s.softStop r k cause) := by
  unfold State.softStop
  split
  · exact h.setRail.clear.modEng.modFr
  · exact h.setRail.clear.modEng.modFr
  · exact h.setRail.clear.modEng.modFr
  · exact h.setRail.clear.modEng.modFr
  · exact h.modFr
  · exact h
theorem Sound.disarm (h : Sound free b₀ s) {r : Fin 8} : Sound free b₀ (s.disarm r) := by
  unfold State.disarm
  split
  · exact h.railOff
  · exact h.railOff
  · exact h
theorem Sound.stopInOrder (h : Sound free b₀ s) {mask : Nat} : Sound free b₀ (s.stopInOrder mask) := h.withParts
theorem Sound.stopRound (h : Sound free b₀ s) : Sound free b₀ s.stopRound := by
  unfold State.stopRound
  dsimp only
  split
  · exact Sound.ite h.withParts h.withParts.softStop
  · exact h.withParts
theorem Sound.enterSafestop (h : Sound free b₀ s) {n : Nat} : Sound free b₀ (s.enterSafestop n) := by
  unfold State.enterSafestop
  exact Sound.enter (h.mark.onRails fun _ _ hx => hx.disarm)
theorem Sound.dlStop (h : Sound free b₀ s) {cause : Nat} : Sound free b₀ (s.dlStop cause) :=
  h.onRails
    fun _ _ hx =>
      Sound.ite hx.softStop
        (by
          split
          · exact hx.fastStop.railOff
          · exact hx.fastStop.railOff
          · exact hx.fastStop.railOff
          · exact hx.fastStop.railOff
          · exact hx.fastStop.railOff
          · exact hx.fastStop.railOff
          · exact hx.fastStop.railOff
          · exact hx)
theorem Sound.refuse (h : Sound free b₀ s) {res rail : Nat} : Sound free b₀ (s.refuse res rail) :=
  Sound.ite h ((((h.set (.one rfl)).inc (.one rfl)).withParts.logF (.none rfl)).onRails fun _ _ hx => Sound.ite hx.softStop.modFr hx)
theorem Sound.deviceLatch (h : Sound free b₀ s) {cause : Nat} : Sound free b₀ (s.deviceLatch cause) := by
  unfold State.deviceLatch
  dsimp only
  exact Sound.ite h
      (by
        split
        · exact (h.set (.one rfl)).mark.raise (.none rfl)
        · exact (h.set (.one rfl)).mark.raise (.none rfl)
        · exact ((h.set (.one rfl)).mark.raise (.none rfl)).enterSafestop
        · exact ((h.set (.one rfl)).mark.raise (.none rfl)).dlStop
        · exact ((h.set (.one rfl)).mark.raise (.none rfl)).dlStop.withParts.refuse
        · exact ((h.set (.one rfl)).mark.raise (.none rfl)).dlStop.enterSafestop)
theorem Sound.railLatch (h : Sound free b₀ s) {r : Fin 8} {cause : Nat} {fast : Bool} : Sound free b₀ (s.railLatch r cause fast) :=
  (Sound.ite h.fastStop.latchNow h.softStop).when fun _ hx => hx.deviceLatch
theorem Sound.retry (h : Sound free b₀ s) {r : Fin 8} {ph : Nat} : Sound free b₀ (s.retry r ph) :=
  Sound.ite (h.fastStop.latchNow.when fun _ hx => hx.deviceLatch) (Sound.ite h.fastStop.railOff (Sound.ite ((h.fastStop.logF
      (.none rfl)).latchNow.when
    fun _ hx => hx.deviceLatch) (((h.fastStop.inc (.each _ rfl)).inc (.each _ rfl)).setRail.modFr.logF (.none rfl))))
theorem Sound.checkMinLive (h : Sound free b₀ s) {r : Fin 8} : Sound free b₀ (s.checkMinLive r) :=
  Sound.ite (h.logF (.none rfl)).railLatch h
theorem Sound.triNext (h : Sound free b₀ s) {n : Fin 32} : Sound free b₀ (s.triNext n) := h.modPh
theorem Sound.stopPhase (h : Sound free b₀ s) {n : Fin 32} : Sound free b₀ (s.stopPhase n) := h.triNext.setSw.place
theorem Sound.failAlert (h : Sound free b₀ s) {r : Fin 8} : Sound free b₀ (s.failAlert r) := h.pmbBits (.each _ rfl)
theorem Sound.cml (h : Sound free b₀ s) {v : Nat} : Sound free b₀ (s.cml v) := h.pmbBits (.one rfl)

/-! ### Hints -/

theorem Sound.putCtxWord (h : Sound free b₀ s) {x n : Nat} : Sound free b₀ (s.putCtxWord x n) := h.withParts
theorem Sound.putCtx (h : Sound free b₀ s) {x : Nat} {c : Ctx} : Sound free b₀ (s.putCtx x c) := h.putCtxWord
theorem Sound.putHints (h : Sound free b₀ s) {r : Fin 8} {l : List Hint} : Sound free b₀ (s.putHints r l) := h.modRail.set (.each _ rfl)
theorem Sound.putF (h : Sound free b₀ s) {r : Fin 8} : Sound free b₀ (s.putF r) :=
  Sound.ite h (Sound.ite (h.setI (.each _ rfl)).modEng.mark (h.setI (.each _ rfl)).modEng)
theorem Sound.ctxCheck (h : Sound free b₀ s) {x : Nat} : Sound free b₀ (s.ctxCheck x) :=
  Sound.ite h (Sound.logC (h.putCtx.onRails fun _ _ hx => Sound.ite hx.putHints.putF hx) (.none rfl))
theorem Sound.ctxRefill (h : Sound free b₀ s) {x : Nat} : Sound free b₀ (s.ctxRefill x) := h.ctxCheck.putCtx
theorem Sound.freeSlot (h : Sound free b₀ s) {hint : Hint} : Sound free b₀ (s.freeSlot hint) := h.ctxCheck.putCtx
theorem Sound.retire (h : Sound free b₀ s) {r : Fin 8} {p : Hint → Bool} : Sound free b₀ (s.retire r p) :=
  Sound.putHints (h.foldl fun _ _ hx => hx.freeSlot)
theorem Sound.noteTense (h : Sound free b₀ s) {r : Fin 8} {event w value : Nat} : Sound free b₀ (s.noteTense r event w value) := h.noteRail
theorem Sound.judge (h : Sound free b₀ s) {r : Fin 8} {x : Nat} {hit : Bool} : Sound free b₀ (s.judge r x hit) :=
  have hscore : (if hit then F.TN_SCORE_HITS else F.TN_SCORE_MISSES).listed 8 = true := by cases hit <;> rfl
  Sound.ite h.ctxCheck (Sound.ite ((h.putCtx.inc (.each r hscore)).noteTense.logC (.item rfl r.isLt))
    (Sound.ite ((h.putCtx.inc (.each r hscore)).noteTense.logC (.none rfl)) (h.putCtx.inc (.each r hscore))))
theorem Sound.unwindMiss (h : Sound free b₀ s) {r : Fin 8} {p : Hint → Bool} : Sound free b₀ (s.unwindMiss r p) :=
  h.putHints.foldl fun _ _ hx => Sound.ite hx hx.judge
theorem Sound.missRun (h : Sound free b₀ s) {r : Fin 8} : Sound free b₀ (s.missRun r) := by
  unfold State.missRun
  exact h.modEng
theorem Sound.tenseStep (h : Sound free b₀ s) {r : Fin 8} : Sound free b₀ (s.tenseStep r) := by
  unfold State.tenseStep
  dsimp only
  exact Sound.ite h
      (Sound.missRun (Sound.ite (by
            split
            · exact Sound.ite (h.putHints.retire.putF.logC (.none rfl)) (h.putHints.retire.putF.logC (.none rfl)).noteTense.modEng
            · exact (h.putHints.retire.putF.logC (.none rfl)).noteTense.modEng) h.putHints.retire.putF))
theorem Sound.tripHints (h : Sound free b₀ s) {r : Fin 8} {positive : Bool} : Sound free b₀ (s.tripHints r positive) := h.putHints
theorem Sound.discard (h : Sound free b₀ s) {r : Fin 8} {cause : Nat} : Sound free b₀ (s.discard r cause) :=
  Sound.ite h (h.retire.putF.mark.noteTense.logC (.none rfl))
theorem Sound.clampRound (h : Sound free b₀ s) : Sound free b₀ s.clampRound := h.onRails fun _ _ hx => Sound.ite hx.putF hx
theorem Sound.hintRound (h : Sound free b₀ s) : Sound free b₀ s.hintRound :=
  h.onRails fun _ _ hx => Sound.ite hx (Sound.ite hx.discard (Sound.ite hx.discard (Sound.ite hx.discard hx)))
theorem Sound.clearValid (h : Sound free b₀ s) : Sound free b₀ s.clearValid := h.withParts
theorem Sound.initCtxs (h : Sound free b₀ s) : Sound free b₀ s.initCtxs := by
  unfold State.initCtxs
  generalize s.ctxInit.word = n
  exact h.withParts

/-! ### Jrn -/

theorem Sound.journalChanged (h : Sound free b₀ s) {k : Nat} : Sound free b₀ (s.journalChanged k) := h.keepMram rfl
theorem Sound.journalRequeue (h : Sound free b₀ s) : Sound free b₀ s.journalRequeue := h.foldl fun _ _ hx => Sound.ite hx.journalChanged hx
theorem Sound.keepMarked (h : Sound free b₀ s) {old : State} : Sound free b₀ (s.keepMarked old) :=
  Sound.when (Sound.when (h.when fun _ hx => hx.onPhases fun _ _ hy => hy.set (.each _ rfl)) fun _ hx => hx.onPhases fun _ _ hy =>
      (hy.load (.each _ rfl)).load (.each _ rfl))
    fun _ hx => hx.set (.one rfl)
theorem Sound.jrnDefer (h : Sound free b₀ s) {k cause : Nat} : Sound free b₀ (s.jrnDefer k cause) := by
  unfold State.jrnDefer
  exact Sound.logC (Sound.mark (Sound.set (Sound.mark h.withJrn) (.one rfl))) (.none rfl)
theorem Sound.jrnEval (h : Sound free b₀ s) (hj : free.journal = true) {vs : Nat} : Sound free b₀ (s.jrnEval vs) := by
  unfold State.jrnEval
  refine Sound.ite h ?_
  split
  · exact h
  · exact Sound.ite (h.set (.one rfl)).jrnDefer (Sound.ite (h.set (.one rfl)).jrnDefer (((h.set (.one rfl)).clear.set
      (.one rfl)).mark.putJrn (.inl hj)))
theorem Sound.jrnAbandon (h : Sound free b₀ s) : Sound free b₀ s.jrnAbandon := by
  unfold State.jrnAbandon
  split
  · exact h
  · refine h.clear.keepMram ?_
    dsimp only
    split
    · rfl
    · dsimp only
      split <;> rfl
theorem Sound.capMeasured (h : Sound free b₀ s) {n dropUv : Nat} : Sound free b₀ (s.capMeasured n dropUv) :=
  Sound.ite h (((h.set (.one rfl)).set (.one rfl)).journalChanged.when fun _ hx => hx.mark.logC (.none rfl))
theorem Sound.dropCommit (h : Sound free b₀ s) : Sound free b₀ s.dropCommit := (h.jrnAbandon.clear.set (.one rfl)).withJrn
theorem Sound.jrnDormant (h : Sound free b₀ s) : Sound free b₀ s.jrnDormant := Sound.withJrn (h.jrnAbandon.when fun _ hx => hx.mark)
theorem Sound.jrnWake (h : Sound free b₀ s) : Sound free b₀ s.jrnWake := by
  unfold State.jrnWake
  exact Sound.ite h (Sound.logC h.withJrn (.none rfl))
theorem Sound.slotReport (h : Sound free b₀ s) {k which : Nat} : Sound free b₀ (s.slotReport k which) :=
  Sound.ite (h.mark.logC (.none rfl)) h
theorem Sound.takePayload (h : Sound free b₀ s) {k : Nat} {b : List Byte} : Sound free b₀ (s.takePayload k b) := by
  unfold State.takePayload
  split
  · exact h.withParts
  · exact h.foldRange fun _ _ hi hx => hx.set (.below hi rfl)
  · exact h.foldRange fun _ _ hi hx => (hx.load (.below hi rfl)).load (.below hi rfl)
  · exact (h.set (.one rfl)).withJrn
  · exact h.withJrn
theorem Sound.noPayload (h : Sound free b₀ s) {k : Nat} : Sound free b₀ (s.noPayload k) := by
  unfold State.noPayload
  dsimp only
  split
  · exact (h.logC (.none rfl)).withParts
  · exact (h.logC (.none rfl)).foldRange fun _ _ hi hx => hx.set (.below hi rfl)
  · exact (h.logC (.none rfl)).foldRange fun _ _ hi hx => (hx.load (.below hi rfl)).load (.below hi rfl)
  · exact ((h.logC (.none rfl)).set (.one rfl)).withJrn
  · exact (h.logC (.none rfl)).withJrn
theorem Sound.loadType (h : Sound free b₀ s) {k : Nat} : Sound free b₀ (s.loadType k) :=
  Sound.ite (h.slotReport.slotReport.set (.one rfl)) (Sound.ite (h.slotReport.slotReport.set (.one rfl)).noPayload
      (h.slotReport.slotReport.set (.one rfl)).takePayload)
theorem Sound.loadJournal (h : Sound free b₀ s) : Sound free b₀ s.loadJournal := by
  unfold State.loadJournal
  exact Sound.set (Sound.set (Sound.withJrn ((h.set (.one rfl)).foldl fun _ _ hx => hx.loadType)) (.one rfl)) (.one rfl)

/-! ### Sense -/

/-- The half-words of the sensors and of the regions stand in the map. -/
theorem sensReg_inst {k : Nat} (hk : k < 47) : Inst (sensReg k).v (sensReg k).i :=
  .below (Nat.lt_succ_self _) ((by decide +kernel : ∀ k < 47, (sensReg k).v.listed ((sensReg k).i + 1) = true) k hk)
theorem tmaxReg_inst {m : Nat} (hm : m < 4) : Inst (tmaxReg m).v (tmaxReg m).i :=
  .below (Nat.lt_succ_self _) ((by decide +kernel : ∀ m < 4, (tmaxReg m).v.listed ((tmaxReg m).i + 1) = true) m hm)
theorem tminReg_inst {m : Nat} (hm : m < 4) : Inst (tminReg m).v (tminReg m).i :=
  .below (Nat.lt_succ_self _) ((by decide +kernel : ∀ m < 4, (tminReg m).v.listed ((tminReg m).i + 1) = true) m hm)
theorem Sound.putTemp (h : Sound free b₀ s) {r : TempReg} {v : Option Int} (hr : Inst r.v r.i) : Sound free b₀ (s.putTemp r v) := by
  unfold State.putTemp
  split
  · exact (h.setI hr).clear.clear
  · exact (h.set hr).clear.mark
theorem Sound.putSens (h : Sound free b₀ s) {k : Nat} {x : Sens} : Sound free b₀ (s.putSens k x) := h.withParts
theorem Sound.sensorsFresh (h : Sound free b₀ s) : Sound free b₀ s.sensorsFresh := h.withParts.foldl fun _ _ hx => hx.mark
theorem Sound.chgWindow (h : Sound free b₀ s) : Sound free b₀ s.chgWindow := h.withParts.setB
theorem Sound.jrnWindow (h : Sound free b₀ s) : Sound free b₀ s.jrnWindow := h.setB
theorem Sound.windowsOf (h : Sound free b₀ s) {k : Nat} : Sound free b₀ (s.windowsOf k) := Sound.ite h.chgWindow (Sound.ite h.jrnWindow h)
theorem Sound.reading (h : Sound free b₀ s) {k : Nat} {v : Option Int} (hk : k < 47) : Sound free b₀ (s.reading k v) := by
  unfold State.reading
  split
  · exact Sound.windowsOf (h.putSens.when fun _ hx => hx.mark)
  · exact Sound.ite h.putSens (Sound.windowsOf ((h.putTemp (sensReg_inst hk)).putSens.when fun _ hx => hx.logF (.none rfl)))
theorem Sound.rgnBit (h : Sound free b₀ s) {f : Fld} {m : Nat} {b : Bool} (hf : Inst f 0) :
    Sound free b₀ (s.rgnBit f m b) := h.set hf
theorem Sound.putRgnTh (h : Sound free b₀ s) {m : Nat} {x : RegionTh} : Sound free b₀ (s.putRgnTh m x) := h.withParts
theorem Sound.rorRound (h : Sound free b₀ s) {m : Nat} {t : Option Int} : Sound free b₀ (s.rorRound m t) := by
  unfold State.rorRound
  dsimp only
  split
  · exact Sound.ite ((h.putRgnTh.putRgnTh.rgnBit (.one rfl)).mark.putRgnTh.logF (.none rfl)) (Sound.ite (h.putRgnTh.putRgnTh.rgnBit
      (.one rfl)) h.putRgnTh.putRgnTh)
  · exact h.putRgnTh.putRgnTh
theorem Sound.lowtEval (h : Sound free b₀ s) {m : Nat} {t : Option Int} : Sound free b₀ (s.lowtEval m t) := by
  unfold State.lowtEval
  split
  · exact h
  · exact Sound.ite ((h.rgnBit (.one rfl)).mark.logF (.none rfl)) (Sound.ite (h.rgnBit (.one rfl)) h)
theorem Sound.regionEval (h : Sound free b₀ s) {roundEnd : Bool} {m : Nat} (hm : m < 4) : Sound free b₀ (s.regionEval roundEnd m) :=
  Sound.when (Sound.set (Sound.putRgnTh (Sound.lowtEval (Sound.when (by
              split
              · exact Sound.putRgnTh ((((h.putTemp (tmaxReg_inst hm)).putTemp (tminReg_inst hm)).rgnBit
                  (.one rfl)).when fun _ hx => hx.logF (.none rfl))
              · exact (((h.putTemp (tmaxReg_inst hm)).putTemp (tminReg_inst hm)).rgnBit (.one rfl)).when fun _ hx => hx.logF
                  (.none rfl)) fun _ hx => hx.rorRound))) (.one rfl))
    fun _ hx =>
      hx.logF (.none rfl)
theorem Sound.pkgEval (h : Sound free b₀ s) : Sound free b₀ s.pkgEval := by
  have hp : Sound free b₀ (s.putTemp pkgReg (maxOf (s.temps s.pkgSens))) := h.putTemp (.one rfl)
  unfold State.pkgEval
  dsimp only
  split
  · exact hp
  · exact Sound.ite (hp.mark.mark.logF (.none rfl)) (Sound.ite hp.clear hp)
theorem Sound.pkgShut (h : Sound free b₀ s) : Sound free b₀ s.pkgShut := h.setB
theorem Sound.deratePub (h : Sound free b₀ s) : Sound free b₀ s.deratePub :=
  h.foldlMem fun _ m hm hx => hx.set (.below ((by decide : ∀ m ∈ [0, 1, 2, 3], m < 4) m hm) rfl)
theorem Sound.thermEval (h : Sound free b₀ s) {roundEnd : Bool} : Sound free b₀ (s.thermEval roundEnd) :=
  Sound.ite h (Sound.deratePub (Sound.pkgShut (Sound.pkgEval
    (h.foldlMem fun _ m hm hx => hx.regionEval ((by decide : ∀ m ∈ [0, 1, 2, 3], m < 4) m hm)))))

/-! ### PackOps -/

theorem Sound.modPk (h : Sound free b₀ s) {f : Pack → Pack} : Sound free b₀ (s.modPk f) := h.withParts
theorem Sound.queuePack (h : Sound free b₀ s) : Sound free b₀ s.queuePack := h.modPk.journalChanged
theorem Sound.gauge (h : Sound free b₀ s) : Sound free b₀ s.gauge := ((h.set (.one rfl)).set (.one rfl)).when fun _ hx => hx.clear
theorem Sound.setQrem (h : Sound free b₀ s) {q : Nat} : Sound free b₀ (s.setQrem q) := h.modPk.gauge
theorem Sound.rsocJump (h : Sound free b₀ s) : Sound free b₀ s.rsocJump := (h.set (.one rfl)).modPk
theorem Sound.rsocStep (h : Sound free b₀ s) {roundEnd : Bool} : Sound free b₀ (s.rsocStep roundEnd) :=
  Sound.ite (h.set (.one rfl)) (h.set (.one rfl)).modPk
theorem Sound.compVolt (h : Sound free b₀ s) : Sound free b₀ s.compVolt := by
  unfold State.compVolt
  exact (h.set (.one rfl)).modPk
theorem Sound.huArm (h : Sound free b₀ s) : Sound free b₀ s.huArm := h.setB
theorem Sound.wear (h : Sound free b₀ s) : Sound free b₀ s.wear :=
  Sound.ite (Sound.ite (h.set (.one rfl)).mark.mark ((h.set (.one rfl)).mark.mark.modPk.logC (.none rfl))) (h.set (.one rfl)).clear
theorem Sound.disAccount (h : Sound free b₀ s) : Sound free b₀ s.disAccount := h.modPk.when fun _ hx => hx.inc (.one rfl)
theorem Sound.lrnDisq (h : Sound free b₀ s) {cause : Nat} : Sound free b₀ (s.lrnDisq cause) :=
  Sound.ite ((h.clear.set (.one rfl)).mark.logC (.none rfl)).queuePack h
theorem Sound.lrnOpen (h : Sound free b₀ s) {asoc : Nat} : Sound free b₀ (s.lrnOpen asoc) := h.mark.modPk
theorem Sound.lrnPoint (h : Sound free b₀ s) {asoc : Nat} {coarse : Bool} : Sound free b₀ (s.lrnPoint asoc coarse) :=
  (Sound.ite (Sound.ite h.lrnDisq (Sound.ite h.lrnDisq ((h.set (.one rfl)).mark.setQrem.logC (.none rfl)).wear.queuePack)) h).lrnOpen
theorem Sound.lrnCheck (h : Sound free b₀ s) {ns : Nat} : Sound free b₀ (s.lrnCheck ns) :=
  Sound.ite h (Sound.ite h.lrnDisq (Sound.ite h.lrnDisq (Sound.ite (Sound.ite h.lrnDisq h.modPk) h)))
theorem Sound.ocvApply (h : Sound free b₀ s) {place : Nat} : Sound free b₀ (s.ocvApply place) := by
  unfold State.ocvApply
  dsimp only
  exact Sound.ite h (h.setQrem.clear.mark.logC (.none rfl)).rsocJump.lrnPoint.queuePack
theorem Sound.setChg (h : Sound free b₀ s) {k : Nat} : Sound free b₀ (s.setChg k) := h.modPk.set (.one rfl)
theorem Sound.testAbort (h : Sound free b₀ s) : Sound free b₀ s.testAbort :=
  Sound.ite h (Sound.logC (h.clear.modPk.withParts.when fun _ hx => hx.setChg) (.none rfl))
theorem Sound.inserted (h : Sound free b₀ s) : Sound free b₀ s.inserted :=
  Sound.queuePack (Sound.modPk (h.lrnDisq.clear.when fun _ hx => hx.setChg.set (.one rfl)))
theorem Sound.removed (h : Sound free b₀ s) : Sound free b₀ s.removed := (h.testAbort.setChg.clear.logC (.none rfl)).lrnDisq.queuePack
theorem Sound.newPack (h : Sound free b₀ s) : Sound free b₀ s.newPack := (((h.set (.one rfl)).set (.one rfl)).set (.one rfl)).modPk.wear
theorem Sound.firstEstimate (h : Sound free b₀ s) : Sound free b₀ s.firstEstimate :=
  (h.modPk.setQrem.mark.logC (.none rfl)).rsocJump.queuePack
theorem Sound.packStart (h : Sound free b₀ s) : Sound free b₀ s.packStart := by
  unfold State.packStart
  split
  · exact h.inserted
  · exact Sound.ite ((((h.set (.one rfl)).set (.one rfl)).set (.one rfl)).setB.setB.setB.setB.set (.one rfl)).modPk.gauge.wear
        (by
          split
          · exact Sound.ite (Sound.ite ((((h.set (.one rfl)).set (.one rfl)).set (.one rfl)).setB.setB.setB.setB.set
              (.one rfl)).modPk.gauge.wear.inserted
                  ((((h.set (.one rfl)).set (.one rfl)).set (.one rfl)).setB.setB.setB.setB.set (.one rfl)).modPk.gauge.wear.ocvApply)
                ((((h.set (.one rfl)).set (.one rfl)).set (.one rfl)).setB.setB.setB.setB.set (.one rfl)).modPk.gauge.wear)
theorem Sound.presence (h : Sound free b₀ s) : Sound free b₀ s.presence :=
  Sound.ite (Sound.ite h.modPk.mark.inserted h.modPk.mark.modPk.packStart) (Sound.ite h.modPk.clear.removed h.modPk)
theorem Sound.chgFault (h : Sound free b₀ s) {cause : Nat} : Sound free b₀ (s.chgFault cause) :=
  (h.setChg.set (.one rfl)).mark.logC (.none rfl)
theorem Sound.chargerRound (h : Sound free b₀ s) : Sound free b₀ s.chargerRound := by
  unfold State.chargerRound
  extract_lets aborted c
  have ha : Sound free b₀ aborted := h.when fun _ hx => hx.testAbort
  exact .ite h (.ite ha (.ite (ha.when fun _ hx => hx.setChg) (.ite (ha.when fun _ hx => hx.setChg) (.ite ha.setChg (.ite ha.setChg ha)))))
theorem Sound.chgDone (h : Sound free b₀ s) : Sound free b₀ s.chgDone :=
  (h.setChg.mark.clear.setQrem.mark.logC (.none rfl)).rsocJump.lrnPoint.queuePack
theorem Sound.setGate (h : Sound free b₀ s) {b : Bool} : Sound free b₀ (s.setGate b) := h.modPk.setB
theorem Sound.eod (h : Sound free b₀ s) {cause : Nat} : Sound free b₀ (s.eod cause) :=
  Sound.ite h (Sound.queuePack (((h.set (.one rfl)).mark.logC (.none rfl)).withParts.when fun _ hx => Sound.stopInOrder
      (hx.onRails fun _ _ hy => hy.disarm)))
theorem Sound.huTrip (h : Sound free b₀ s) {cause : Nat} : Sound free b₀ (s.huTrip cause) :=
  Sound.eod (Sound.setGate (h.onRails
        fun _ _ hx =>
          by
            split
            · exact hx.fastStop.railOff
            · exact hx.fastStop.railOff
            · exact hx.fastStop.railOff
            · exact hx.fastStop.railOff
            · exact hx.fastStop.railOff
            · exact hx.fastStop.railOff
            · exact hx.fastStop.railOff
            · exact hx))
theorem Sound.gateRound (h : Sound free b₀ s) : Sound free b₀ s.gateRound := Sound.ite h.setGate h
theorem Sound.packRound (h : Sound free b₀ s) : Sound free b₀ s.packRound := h.chargerRound.gateRound
theorem Sound.packEstimate (h : Sound free b₀ s) {roundEnd : Bool} : Sound free b₀ (s.packEstimate roundEnd) :=
  Sound.ite h (h.gauge.compVolt.rsocStep.huArm.when fun _ hx => hx.queuePack)

/-! ### Settle -/

theorem Sound.resetRegs (h : Sound free b₀ s) {p : Fld → Bool} : Sound free b₀ { s with regs := Machine.resetRegs s.regs p } :=
  h.withRegs fun hw => hw.resetRegs p
theorem Sound.enterParse (h : Sound free b₀ s) {n : Nat} : Sound free b₀ (s.enterParse n) := by
  unfold State.enterParse
  refine Sound.when (Sound.enter (Sound.withParts (Sound.set (Sound.clear (Sound.clear ?_)) (.one rfl)))) fun _ hx => hx.enterSafestop
  exact (h.resetRegs.onRails fun _ _ hx => Sound.ite hx.railOff hx).withParts
theorem Sound.arm (h : Sound free b₀ s) {r : Fin 8} : Sound free b₀ (s.arm r) := by
  unfold State.arm
  exact h.setRail.setSen.modFr
theorem Sound.armRound (h : Sound free b₀ s) : Sound free b₀ s.armRound := h.onRails fun _ _ hx => Sound.ite hx.arm hx
theorem Sound.clrRound (h : Sound free b₀ s) : Sound free b₀ s.clrRound := Sound.ite (Sound.ite h.withParts h.withParts.clear.enterParse) h
theorem Sound.shedRound (h : Sound free b₀ s) : Sound free b₀ s.shedRound := h.onRails fun _ _ hx => Sound.ite hx.modRail hx
theorem Sound.modeRound (h : Sound free b₀ s) : Sound free b₀ s.modeRound := by
  unfold State.modeRound
  split
  · exact Sound.ite h h.enter
  · exact Sound.ite h h.enter
  · exact Sound.ite h h.enter
  · exact Sound.ite h h.enter
  · exact h
theorem Sound.mirrorRound (h : Sound free b₀ s) (hm : free.mirror = true) {s0 : State} : Sound free b₀ (State.mirrorRound s0 s) :=
  Sound.ite (h.withMirror hm) h
theorem Sound.cjRound (h : Sound free b₀ s) {s0 : State} : Sound free b₀ (State.cjRound s0 s) := by
  unfold State.cjRound
  split
  · exact h
  · exact (Sound.ite h.railLatch h).withParts
theorem Sound.noteRound (h : Sound free b₀ s) {s0 : State} : Sound free b₀ (State.noteRound s0 s) :=
  Sound.ite h
    (Sound.onRails (h.when fun _ hx => hx.noteAll)
      fun _ _ hx =>
        Sound.when (by
            split
            · exact hx.noteRail
            · exact hx) fun _ hy => hy.noteRail)
theorem Sound.precheckRound (h : Sound free b₀ s) : Sound free b₀ s.precheckRound := Sound.ite (Sound.ite h.enter h.enter) h
theorem Sound.creditRound (h : Sound free b₀ s) : Sound free b₀ s.creditRound :=
  Sound.ite h (h.foldl fun _ _ hx => Sound.ite hx (hx.set (.each _ rfl)).modPort)
theorem Sound.pmbRail (h : Sound free b₀ s) {s0 : State} {r : Fin 8} : Sound free b₀ (State.pmbRail s0 s r) :=
  Sound.ite h ((((((h.pmbBits (.each _ rfl)).pmbBits (.each _ rfl)).pmbBits (.each _ rfl)).pmbBits (.each _ rfl)).pmbBits
      (.each _ rfl)).pmbBits (.each _ rfl))
theorem Sound.pmbRound (h : Sound free b₀ s) {s0 : State} : Sound free b₀ (State.pmbRound s0 s) :=
  Sound.ite h (Sound.withParts (Sound.when (h.onRails fun _ _ hx => hx.pmbRail) fun _ hx => hx.cml))
theorem Sound.wasRound (h : Sound free b₀ s) {s0 : State} : Sound free b₀ (State.wasRound s0 s) :=
  h.onRails fun _ _ hx => Sound.ite hx hx.modFr
/-- The end of an update up to the mirror. -/
theorem Sound.rounds (h : Sound free b₀ s) {s0 : State} : Sound free b₀ (State.pmbRound s0 (State.wasRound s0
    (State.cjRound s0 s.stopRound).packRound.clrRound.armRound.precheckRound.shedRound.modeRound.hintRound.clampRound)) :=
  Sound.pmbRound (Sound.wasRound
    h.stopRound.cjRound.packRound.clrRound.armRound.precheckRound.shedRound.modeRound.hintRound.clampRound)
theorem Sound.settle (h : Sound free b₀ s) (hm : free.mirror = true) {s0 : State} : Sound free b₀ (settle s0 s) :=
  Sound.creditRound (Sound.noteRound (h.rounds.mirrorRound hm))

/-! ### Stage -/

theorem Sound.cutAt (h : Sound free b₀ s) {n : Fin 32} {src tk : Nat} : Sound free b₀ (s.cutAt n src tk) :=
  Sound.ite (Sound.logF (Sound.toLevelAt (Sound.modFr (Sound.modPh ((h.mark.set (.each _ rfl)).when fun _ hx => hx.inc (.each _ rfl)))))
      (.none rfl)) h
theorem Sound.lookStep (h : Sound free b₀ s) {n : Fin 32} {tk : Nat} : Sound free b₀ (s.lookStep n tk) :=
  (Sound.ite h.modPh.cutAt h.modPh).toLevelAt
theorem Sound.lookN (h : Sound free b₀ s) {n : Fin 32} {k : Nat} : Sound free b₀ (s.lookN n k) := by
  induction k generalizing s with
  | zero => exact h
  | succ k ih =>
    unfold State.lookN
    split
    · exact h
    · exact ih h.lookStep
theorem Sound.look (h : Sound free b₀ s) {n : Fin 32} : Sound free b₀ (s.look n) := h.lookN.modPh
theorem Sound.lookRail (h : Sound free b₀ s) {r : Fin 8} : Sound free b₀ (s.lookRail r) := h.foldl fun _ _ hx => hx.look
theorem Sound.redrive (h : Sound free b₀ s) {n : Fin 32} : Sound free b₀ (s.redrive n) := h.look.toLevel
theorem Sound.redriveRail (h : Sound free b₀ s) {r : Fin 8} : Sound free b₀ (s.redriveRail r) := h.foldl fun _ _ hx => hx.redrive
theorem Sound.tonPhase (h : Sound free b₀ s) {r : Fin 8} {d : Nat} {n : Fin 32} : Sound free b₀ (s.tonPhase r d n) := by
  unfold State.tonPhase
  exact Sound.modPh (Sound.when (h.when fun _ hx => hx.mark) fun _ hx => hx.mark)
theorem Sound.dutyPhase (h : Sound free b₀ s) {r : Fin 8} {d : Nat} {n : Fin 32} : Sound free b₀ (s.dutyPhase r d n) :=
  h.look.tonPhase.redrive
theorem Sound.applyDuty (h : Sound free b₀ s) {r : Fin 8} {d : Nat} : Sound free b₀ (s.applyDuty r d) := h.foldl fun _ _ hx => hx.dutyPhase
theorem Sound.cut (h : Sound free b₀ s) {n : Fin 32} {src : Nat} : Sound free b₀ (s.cut n src) := h.look.cutAt
theorem Sound.endDe (h : Sound free b₀ s) {r : Fin 8} : Sound free b₀ (s.endDe r) := h.clear.modEng
theorem Sound.addEvent (h : Sound free b₀ s) {r : Fin 8} : Sound free b₀ (s.addEvent r) := h.endDe.modEng
theorem Sound.requestAdd (h : Sound free b₀ s) {r : Fin 8} {k : Nat} {cost : Option Nat} {cause : Nat} : Sound free b₀
    (s.requestAdd r k cost cause) :=
  Sound.ite h h.endDe.mark.modEng
theorem Sound.unstop (h : Sound free b₀ s) {n : Fin 32} : Sound free b₀ (s.unstop n) := Sound.ite h.setSw h

/-! ### Bridge -/

theorem Sound.dutyWord (h : Sound free b₀ s) {r : Fin 8} {flip : Nat} : Sound free b₀ (s.dutyWord r flip) :=
  Sound.ite h (Sound.ite (h.modFr.when fun _ hx => hx.applyDuty) (h.inc (.one rfl)).modFr)
theorem Sound.frameIn (h : Sound free b₀ s) {f : BitVec 128} : Sound free b₀ (s.frameIn f) :=
  Sound.ite h (Sound.ite h.withParts (h.inc (.one rfl)))
theorem Sound.takeEvent (h : Sound free b₀ s) : Sound free b₀ s.takeEvent :=
  Sound.ite h
    (by
      split
      · exact h
      · exact by
            split
            · exact h.withParts
            · exact h.withParts.modEng)
theorem Sound.withC4 (h : Sound free b₀ s) {l : List Access} : Sound free b₀ (s.withC4 l) := h.withParts
theorem Sound.beat (h : Sound free b₀ s) : Sound free b₀ s.beat := Sound.ite h.withParts h
theorem Sound.beatIn (h : Sound free b₀ s) {seq : Nat} : Sound free b₀ (s.beatIn seq) := Sound.ite h (h.set (.one rfl)).withParts
/-- The first steps of a coherence fault: the mirror takes the entry, and the phase goes idle. -/
theorem Sound.cohMarked (h : Sound free b₀ s) (hm : free.mirror = true) {n : Fin 32} {e : List (Sw × Health × Nat × Nat)} {v : Nat}
    {c : Bool} {f : Phase → Phase} : Sound free b₀ (if c then ((({ s with mirPh := e } : State).set F.COH_HOLD_HOLD 0 v).setSw n
        .idle).modPh n f
      else ({ s with mirPh := e } : State).set F.COH_HOLD_HOLD 0 v) :=
  have hset : Sound free b₀ (({ s with mirPh := e } : State).set F.COH_HOLD_HOLD 0 v) := Sound.set (h.withMirror hm) (.one rfl)
  .ite hset.setSw.modPh hset
theorem Sound.cohPhase (h : Sound free b₀ s) (hm : free.mirror = true) {n : Fin 32} {mir : Sw × Health × Nat × Nat} :
    Sound free b₀ (s.cohPhase n mir) := by
  unfold State.cohPhase
  extract_lets p mirrored held idled times kept trimmed counted told stuck placed
  have hidled : Sound free b₀ idled := h.cohMarked hm
  have hcounted : Sound free b₀ counted := ((hidled.modPh.setI (.each _ rfl)).mark.inc (.one rfl)).set (.one rfl)
  have hstuck : Sound free b₀ stuck := (hcounted.logC (.none rfl)).when fun _ hx => hx.modPh.logC (.none rfl)
  have hplaced : Sound free b₀ placed := .ite hstuck.place.checkMinLive hstuck
  exact hplaced.withParts
theorem Sound.cohRail (h : Sound free b₀ s) (hm : free.mirror = true) {r : Fin 8} {mir : RailState} : Sound free b₀ (s.cohRail r mir) :=
  Sound.logC (Sound.mark (h.withMirror hm)) (.unit (by decide) r.isLt)
theorem Sound.coherence (h : Sound free b₀ s) (hm : free.mirror = true) : Sound free b₀ s.coherence :=
  Sound.onRails (h.onPhases
      fun _ _ hx =>
        by
          split
          · exact Sound.ite hx (hx.cohPhase hm)
          · exact hx)
    fun _ _ hx =>
      by
        split
        · exact Sound.ite hx (hx.cohRail hm)
        · exact hx
theorem Sound.echoIn (h : Sound free b₀ s) (hm : free.mirror = true) : Sound free b₀ s.echoIn :=
  Sound.ite h
    (by
      split
      · exact h
      · exact Sound.ite h.withParts
            (Sound.ite h.withParts.withParts (Sound.ite h.withParts.withParts (h.withParts.withParts.coherence hm))))
theorem Sound.rewrite (h : Sound free b₀ s) (hm : free.mirror = true) {n : Fin 32} : Sound free b₀ (s.rewrite n) :=
  Sound.ite (Sound.logC (Sound.withMirror (h.set (.one rfl)) hm) (.none rfl)) h
theorem Sound.frontLost (h : Sound free b₀ s) : Sound free b₀ s.frontLost := Sound.ite h (h.mark.logC (.none rfl)).cml.noteAll.withParts
theorem Sound.allOff (h : Sound free b₀ s) : Sound free b₀ s.allOff := h.onRails fun _ _ hx => hx.triRail.setSen
theorem Sound.clockMissing (h : Sound free b₀ s) : Sound free b₀ s.clockMissing := Sound.ite h h.withParts.allOff

/-! ### Otp -/

theorem Sound.serviceEnd (h : Sound free b₀ s) : Sound free b₀ s.serviceEnd :=
  Sound.enterParse (h.onRails
      fun _ _ hx =>
        by
          split
          · exact hx.fastStop.railOff
          · exact hx.fastStop.railOff
          · exact hx.fastStop.railOff
          · exact hx.fastStop.railOff
          · exact hx.fastStop.railOff
          · exact hx.fastStop.railOff
          · exact hx)
theorem Sound.endSession (h : Sound free b₀ s) {cause : Nat} : Sound free b₀ (s.endSession cause) :=
  Sound.ite h.withParts (Sound.ite ((h.withParts.logC (.none rfl)).when fun _ hx => hx.serviceEnd) (Sound.ite h.withParts h))
theorem Sound.dropMailbox (h : Sound free b₀ s) : Sound free b₀ s.dropMailbox := h.withParts
theorem Sound.dropTap (h : Sound free b₀ s) : Sound free b₀ s.dropTap := h.withParts
theorem Sound.countFail (h : Sound free b₀ s) : Sound free b₀ s.countFail :=
  Sound.withParts ((h.set (.one rfl)).withOtp (OtpKept.failN _ _))
theorem Sound.securityWake (h : Sound free b₀ s) : Sound free b₀ s.securityWake :=
  (Sound.ite (h.set (.one rfl)).withParts h).when fun _ hx => hx.logC (.none rfl)

/-! ### Drops -/

theorem Sound.dropLinks (h : Sound free b₀ s) : Sound free b₀ s.dropLinks := h.withParts
theorem Sound.dropHints (h : Sound free b₀ s) : Sound free b₀ s.dropHints := h.onRails fun _ _ hx => hx.putHints.putF
theorem Sound.clearRecorder (h : Sound free b₀ s) : Sound free b₀ s.clearRecorder := (h.clear.clear.clear.clear.set (.one rfl)).withParts
theorem Sound.toDormant (h : Sound free b₀ s) : Sound free b₀ s.toDormant := h.jrnDormant.withParts
theorem Sound.fromDormant (h : Sound free b₀ s) : Sound free b₀ s.fromDormant :=
  (((h.clearRecorder.incWrap (.one rfl)).set (.one rfl)).set (.one rfl)).withParts
theorem Sound.dropWake (h : Sound free b₀ s) : Sound free b₀ s.dropWake := by
  unfold State.dropWake
  refine Sound.securityWake (Sound.jrnWake (Sound.onRails ?_ fun _ _ hx => hx.mark.mark))
  exact h.endSession.dropMailbox.sensorsFresh.withParts

/-! ### Loss -/

theorem Sound.wakeEntry (h : Sound free b₀ s) (hm : free.mirror = true) {n : Nat} : Sound free b₀ (s.wakeEntry n) := by
  unfold State.wakeEntry
  refine Sound.enter (Sound.onPhases (Sound.when (Sound.dropWake (Sound.keepMarked ?_)) fun _ hx => hx.mark)
    fun _ _ hx => hx.when fun _ hy => hy.mark)
  exact h.resetRegs.clear.clear.clear.clear.withMirror hm
theorem Sound.cjAfresh (h : Sound free b₀ s) : Sound free b₀ s.cjAfresh := h.withParts
theorem Sound.controlBack (h : Sound free b₀ s) : Sound free b₀ s.controlBack := by
  unfold State.controlBack
  exact Sound.withParts (Sound.when (Sound.when (Sound.withParts (h.cjAfresh.mark.when fun _ hx => hx.cml)) fun _ hx => hx.logC (.none rfl))
    fun _ hx => Sound.journalChanged hx.withJrn)
theorem Sound.controlReset (h : Sound free b₀ s) {c : CtCause} : Sound free b₀ (s.controlReset c) := by
  unfold State.controlReset
  exact Sound.withJrn (h.endSession.dropMailbox.dropHints.dropCommit.dropLinks.onPhases fun _ _ hx => hx.modPh)
theorem Sound.takeover (h : Sound free b₀ s) {c : CtCause} : Sound free b₀ (s.takeover c) :=
  Sound.logF (Sound.enter (Sound.withParts (Sound.set (Sound.set (Sound.set (Sound.mark (h.onRails fun _ _ hx => Sound.ite hx.modFr.modRail
    hx.disarm)) (.one rfl)) (.one rfl)) (.one rfl)))) (.none rfl)
theorem Sound.lose (h : Sound free b₀ s) (hm : free.mirror = true) {c : CtCause} : Sound free b₀ (s.lose c) := by
  have hd : Sound free b₀ (s.onRails fun s r => s.discard r 1) := h.onRails fun _ _ hx => hx.discard
  unfold State.lose
  generalize (s.onRails fun s r => s.discard r 1) = x at hd ⊢
  dsimp only
  split
  · exact hd
  · exact hd
  · exact (hd.controlReset.set (.one rfl)).onRails fun _ _ hx => Sound.ite hx.modFr hx
  · exact (hd.controlReset.set (.one rfl)).resetRegs.keepMarked.when fun _ hx => hx.controlBack
  · exact (hd.controlReset.set (.one rfl)).wakeEntry hm
  · exact Sound.ite hd.controlReset.takeover ((hd.controlReset.set (.one rfl)).wakeEntry hm)
theorem Sound.loopFault (h : Sound free b₀ s) (hm : free.mirror = true) {r : Fin 8} {clk : Bool} : Sound free b₀ (s.loopFault r clk) :=
  Sound.ite h ((h.mark.logF (.none rfl)).modFr.lose hm)
theorem Sound.controlLost (h : Sound free b₀ s) (hm : free.mirror = true) {c : CtCause} : Sound free b₀ (s.controlLost c) :=
  Sound.ite h (Sound.lose (h.when fun _ hx => hx.mark.logF (.none rfl)) hm)
theorem Sound.kick (h : Sound free b₀ s) : Sound free b₀ s.kick := Sound.ite h.withParts h
theorem Sound.ctTimeout (h : Sound free b₀ s) : Sound free b₀ s.ctTimeout := Sound.ite h.refuse h
theorem Sound.ctCount (h : Sound free b₀ s) : Sound free b₀ s.ctCount := h.withParts
theorem Sound.ctEnd (h : Sound free b₀ s) : Sound free b₀ s.ctEnd := (h.clear.set (.one rfl)).logF (.none rfl)
theorem Sound.ctBack (h : Sound free b₀ s) : Sound free b₀ s.ctBack := h.when fun _ hx => hx.controlBack
theorem Sound.ctGiveUp (h : Sound free b₀ s) : Sound free b₀ s.ctGiveUp := by
  unfold State.ctGiveUp
  exact h.resetRegs.keepMarked.ctBack.enterSafestop
theorem Sound.ctRestart (h : Sound free b₀ s) : Sound free b₀ s.ctRestart := by
  unfold State.ctRestart
  exact (h.resetRegs.keepMarked.set (.one rfl)).ctBack.enterParse
theorem Sound.ctStopped (h : Sound free b₀ s) : Sound free b₀ s.ctStopped :=
  Sound.ite (Sound.ite h.ctCount.ctEnd.ctGiveUp h.ctCount.ctEnd.ctRestart) h

/-! ### Engine -/

theorem Sound.putSet (h : Sound free b₀ s) {id : Nat} {c : Coefs} : Sound free b₀ (s.putSet id c) := h.withParts
theorem Sound.takeSet (h : Sound free b₀ s) {r : Fin 8} : Sound free b₀ (s.takeSet r) := by
  unfold State.takeSet
  exact ((h.set (.each _ rfl)).set (.each _ rfl)).clear.modEng
theorem Sound.select (h : Sound free b₀ s) {r : Fin 8} : Sound free b₀ (s.select r) :=
  Sound.ite (h.set (.each _ rfl)).modEng (h.set (.each _ rfl)).modEng.mark
theorem Sound.foldEngage (h : Sound free b₀ s) {r : Fin 8} : Sound free b₀ (s.foldEngage r) :=
  Sound.ite (h.mark.modEng.addEvent.requestAdd.logC (.none rfl)) h
theorem Sound.stick (h : Sound free b₀ s) {f : Fld} {i : Nat} {b : Bool} : Sound free b₀ (s.stick f i b) := Sound.ite h.mark h
theorem Sound.sendWord (h : Sound free b₀ s) {r : Fin 8} {d : Nat} : Sound free b₀ (s.sendWord r d) := h.modEng.set (.each _ rfl)
theorem Sound.runPath (h : Sound free b₀ s) {r : Fin 8} {e : Int} : Sound free b₀ (s.runPath r e) :=
  Sound.setI (Sound.sendWord (Sound.setI (Sound.setI (Sound.setI (Sound.setB (Sound.stick (Sound.stick (Sound.stick (Sound.stick
      (Sound.stick
    (Sound.stick (Sound.stick (Sound.stick (Sound.stick (Sound.stick (h.modEng.when fun _ hx => hx.modEng)))))))))))) (.each _ rfl))
        (.each _ rfl)) (.each _ rfl))) (.each _ rfl)
theorem Sound.rampStep (h : Sound free b₀ s) {r : Fin 8} : Sound free b₀ (s.rampStep r) := Sound.ite h.modEng.modSp.setRail.modFr h.modEng
theorem Sound.fallEnd (h : Sound free b₀ s) {r : Fin 8} : Sound free b₀ (s.fallEnd r) :=
  Sound.ite (h.endLs.modFr.foldl fun _ _ hx => hx.triNext) h
theorem Sound.fallStep (h : Sound free b₀ s) {r : Fin 8} : Sound free b₀ (s.fallStep r) := h.modEng.fallEnd
theorem Sound.slewStep (h : Sound free b₀ s) {r : Fin 8} : Sound free b₀ (s.slewStep r) := by
  unfold State.slewStep
  exact h.modSp.modEng
theorem Sound.target (h : Sound free b₀ s) {r : Fin 8} : Sound free b₀ (s.target r) :=
  Sound.ite (Sound.ite h (Sound.ite h.fallEnd h.fallStep))
    (by
      split
      · exact Sound.ite h.rampStep h
      · exact h.fallStep
      · exact h.slewStep
      · exact h.slewStep
      · exact h)
theorem Sound.engineUpdate (h : Sound free b₀ s) {r : Fin 8} {flip : Nat} : Sound free b₀ (s.engineUpdate r flip) :=
  Sound.ite h (Sound.ite (Sound.ite h.stick.stick.modEng.target.select.foldEngage.tenseStep.modEng
    h.stick.stick.modEng.target.select.foldEngage.tenseStep.modEng.sendWord)
    h.stick.stick.modEng.target.select.foldEngage.tenseStep.modEng.runPath)
theorem Sound.compSwap (h : Sound free b₀ s) {r : Fin 8} : Sound free b₀ (s.compSwap r) :=
  Sound.ite ((h.stick.clear.set (.each _ rfl)).modEng.logC (.none rfl)) h
theorem Sound.storeRefused (h : Sound free b₀ s) {r : Fin 8} {id : Nat} : Sound free b₀ (s.storeRefused r id) := h.mark.logC (.none rfl)
theorem Sound.storeWrite (h : Sound free b₀ s) {id : Nat} : Sound free b₀ (s.storeWrite id) :=
  h.putSet.onRails fun _ _ hx => Sound.ite hx.mark hx
theorem Sound.setStale (h : Sound free b₀ s) {b : Bool} : Sound free b₀ (s.setStale b) := h.onRails fun _ _ hx => hx.setB.setB
theorem Sound.vinSample (h : Sound free b₀ s) {sample : Nat} : Sound free b₀ (s.vinSample sample) :=
  Sound.ite h (Sound.ite (Sound.onRails (Sound.when (Sound.withParts (h.when fun _ hx => hx.clear)) fun _ hx => hx.onPhases fun _ _ hy =>
    hy.modPh) fun _ _ hx => hx.modFr) (Sound.setStale (Sound.onRails (Sound.onRails (Sound.when (Sound.withParts
        (h.when fun _ hx => hx.clear))
    fun _ hx => hx.onPhases fun _ _ hy => hy.modPh) fun _ _ hx => hx.modFr) fun _ _ hx => (hx.set (.each _ rfl)).modEng)))
theorem Sound.vinStale (h : Sound free b₀ s) : Sound free b₀ s.vinStale :=
  Sound.ite h (Sound.logC (h.withParts.setStale.onRails fun _ _ hx => hx.mark) (.none rfl))
theorem Sound.staleDerate (h : Sound free b₀ s) : Sound free b₀ s.staleDerate :=
  Sound.ite h (Sound.logF (h.onRails fun _ _ hx => hx.modEng) (.none rfl))

/-! ### Telemetry -/

theorem Sound.tlmAdd (h : Sound free b₀ s) {r : Fin 8} {sum : Int} : Sound free b₀ (s.tlmAdd r sum) := h.withParts
theorem Sound.windowClose (h : Sound free b₀ s) {k : Nat} : Sound free b₀ (s.windowClose k) :=
  Sound.ite h
    (by
      split
      · exact h.withParts.withParts
      · exact h.withParts.withParts.foldRange fun _ _ hi hx => hx.set (.below hi rfl)
      · exact h.withParts.withParts)

/-! ### Section -/

/-- Every field that the items of a section fill has at least `n` instances. -/
def itemsListed (l : List Item) (n : Nat) : Bool := l.all fun it => it.dst.all (·.listed n)
/-- The instance that the items of a section fill. -/
inductive ItemsInst (l : List Item) : Nat → Prop
  | one (hl : itemsListed l 1 = true) : ItemsInst l 0
  | each {n : Nat} (i : Fin n) (hl : itemsListed l n = true) : ItemsInst l i.val
  | below {n i : Nat} (hi : i < n) (hl : itemsListed l n = true) : ItemsInst l i
theorem ItemsInst.field {l : List Item} {i : Nat} (h : ItemsInst l i) {it : Item} (hit : it ∈ l) {f : Fld}
    (hf : it.dst = some f) : Inst f i := by
  have hlisted : ∀ n, itemsListed l n = true → f.listed n = true := fun n hn => by
    have := List.all_eq_true.1 hn it hit
    rwa [hf] at this
  cases h with
  | one hl => exact .one (hlisted 1 hl)
  | each i hl => exact .each i (hlisted _ hl)
  | below hi hl => exact .below hi (hlisted _ hl)
theorem Sound.loadItems (h : Sound free b₀ s) {l : List Item} {i : Nat} {b : List Byte}
    (hl : ItemsInst l i) : Sound free b₀ (s.loadItems l i b) :=
  h.foldlMem fun _ it hit hx => by
    split
    · next hf => exact hx.load (hl.field hit hf)
    · exact hx

/-! ### Phases -/

theorem Sound.phaseSample (h : Sound free b₀ s) {n : Fin 32} {adc : Int} : Sound free b₀ (s.phaseSample n adc) := Sound.ite h h.modPh
theorem Sound.cycleAverage (h : Sound free b₀ s) {n : Fin 32} : Sound free b₀ (s.cycleAverage n) := by
  unfold State.cycleAverage
  exact (Sound.ite (h.setI (.each _ rfl)) h).modPh
theorem Sound.observe (h : Sound free b₀ s) {n : Fin 32} : Sound free b₀ (s.observe n) :=
  Sound.ite (Sound.ite (h.modPh.mark.logF (.none rfl)) h.modPh) h.modPh
theorem Sound.failOne (h : Sound free b₀ s) {n : Fin 32} {cause : Nat} : Sound free b₀ (s.failOne n cause) :=
  Sound.ite h ((h.modPh.stopPhase.mark.inc (.each _ rfl)).journalChanged.modFr.logF (.none rfl))
theorem Sound.failPhase (h : Sound free b₀ s) {n : Fin 32} {cause : Nat} : Sound free b₀ (s.failPhase n cause) :=
  Sound.ite (Sound.checkMinLive (by
        split
        · exact Sound.ite h.failOne (Sound.ite h.failOne.failOne h.failOne.failOne)
        · exact h.failOne))
    (by
      split
      · exact Sound.ite h.failOne (Sound.ite h.failOne.failOne h.failOne.failOne)
      · exact h.failOne)
theorem Sound.senseRange (h : Sound free b₀ s) {n : Fin 32} : Sound free b₀ (s.senseRange n) :=
  Sound.ite (h.mark.logF (.none rfl)).failPhase h
theorem Sound.phaseFail (h : Sound free b₀ s) {n : Fin 32} : Sound free b₀ (s.phaseFail n) := Sound.ite h.failPhase h
theorem Sound.followup (h : Sound free b₀ s) {n : Fin 32} : Sound free b₀ (s.followup n) :=
  Sound.ite (Sound.checkMinLive (Sound.failAlert (Sound.logC (h.modFr.modEng.when fun _ hx => hx.noteRail) (.none rfl)))) h
theorem Sound.balance (h : Sound free b₀ s) {r : Fin 8} : Sound free b₀ (s.balance r) :=
  Sound.ite h (h.foldl fun _ _ hx => Sound.ite hx (Sound.ite (hx.modPh.setI (.each _ rfl)) (Sound.ite (hx.modPh.setI (.each _ rfl)) hx)))
theorem Sound.putEst (h : Sound free b₀ s) {m : Fin 4} : Sound free b₀ (s.putEst m) := h.setI (.each _ rfl)
theorem Sound.grant (h : Sound free b₀ s) {r : Fin 8} {cause k cost : Nat} : Sound free b₀ (s.grant r cause k cost) := by
  induction k generalizing s cost with
  | zero => exact h
  | succ k ih =>
    unfold State.grant
    split
    · exact h
    · exact ih h.withParts
theorem Sound.askDone (h : Sound free b₀ s) {r : Fin 8} : Sound free b₀ (s.askDone r) := h.clear.modEng.putHints
theorem Sound.arbitrateRail (h : Sound free b₀ s) {r : Fin 8} : Sound free b₀ (s.arbitrateRail r) :=
  Sound.ite h (Sound.ite h.askDone (Sound.ite h.grant.askDone (h.logC (.none rfl))))
theorem Sound.arbitrate (h : Sound free b₀ s) {m : Fin 4} : Sound free b₀ (s.arbitrate m) :=
  Sound.ite h (Sound.putEst (Sound.foldl (h.withParts.onPhases fun _ _ hx => Sound.ite hx hx.modPh) fun _ _ hx => hx.arbitrateRail))
theorem Sound.addPhase (h : Sound free b₀ s) {n : Fin 32} {rsv : Nat} : Sound free b₀ (s.addPhase n rsv) :=
  (h.setSw.modPh.setI (.each _ rfl)).place
theorem Sound.addRefused (h : Sound free b₀ s) {n : Fin 32} : Sound free b₀ (s.addRefused n) := h.emit
theorem Sound.keepOffAdded (h : Sound free b₀ s) {n : Fin 32} {cause : Nat} : Sound free b₀ (s.keepOffAdded n cause) :=
  h.when fun _ hx => hx.mark.logC (.none rfl)
theorem Sound.phaseAck (h : Sound free b₀ s) : Sound free b₀ s.phaseAck :=
  Sound.ite h
    (by
      split
      · exact h
      · exact by
            split
            · exact Sound.ite h.withParts.addRefused (Sound.ite h.withParts.keepOffAdded.addPhase h.withParts)
            · exact Sound.ite h.withParts.setSw.modPh h.withParts)
theorem Sound.phaseSettled (h : Sound free b₀ s) {n : Fin 32} : Sound free b₀ (s.phaseSettled n) := Sound.ite h.setSw.modPh h
theorem Sound.requestShed (h : Sound free b₀ s) {n : Fin 32} : Sound free b₀ (s.requestShed n) := h.withParts
theorem Sound.shedDwell (h : Sound free b₀ s) {r : Fin 8} : Sound free b₀ (s.shedDwell r) := by
  unfold State.shedDwell
  split
  · exact Sound.ite h.requestShed.modEng h
  · exact h
theorem Sound.shedDone (h : Sound free b₀ s) {n : Fin 32} : Sound free b₀ (s.shedDone n) := Sound.ite h.look.setSw.toLevel.place h
theorem Sound.deEntry (h : Sound free b₀ s) {r : Fin 8} : Sound free b₀ (s.deEntry r) := by
  unfold State.deEntry
  split
  · exact Sound.ite h.mark h
  · exact h
theorem Sound.foldStep (h : Sound free b₀ s) {r : Fin 8} : Sound free b₀ (s.foldStep r) :=
  Sound.ite h.foldEngage (Sound.ite h.modEng (Sound.ite (Sound.ite h.modEng.clear h.modEng) h))
theorem Sound.addRule (h : Sound free b₀ s) {r : Fin 8} : Sound free b₀ (s.addRule r) :=
  Sound.ite h.modEng.requestAdd (Sound.ite h.modEng.setB.modEng h.modEng)
theorem Sound.deExitRule (h : Sound free b₀ s) {r : Fin 8} : Sound free b₀ (s.deExitRule r) := Sound.ite h.modEng.endDe h.modEng
theorem Sound.dwells (h : Sound free b₀ s) {r : Fin 8} : Sound free b₀ (s.dwells r) := by
  unfold State.dwells
  exact h.modEng
theorem Sound.keepOffShed (h : Sound free b₀ s) {r : Fin 8} : Sound free b₀ (s.keepOffShed r) :=
  Sound.ite (by
      split
      · exact h.requestShed
      · exact h) h
theorem Sound.refresh (h : Sound free b₀ s) {r : Fin 8} : Sound free b₀ (s.refresh r) :=
  Sound.ite h.modFr.tlmAdd.modEng h.modFr.tlmAdd.modEng.modEng.foldStep.balance.addRule.deExitRule.dwells.keepOffShed.putEst

/-! ### Pwm -/

theorem Sound.pairAdjust (h : Sound free b₀ s) {n : Fin 32} : Sound free b₀ (s.pairAdjust n) := by
  unfold State.pairAdjust
  split
  · exact h
  · exact Sound.ite h.modPh (Sound.ite h.stick.modPh (h.stick.modPh.mark.logF (.none rfl)))
theorem Sound.triStart (h : Sound free b₀ s) {n : Fin 32} {z : Nat} : Sound free b₀ (s.triStart n z) := h.modPh.toLevelAt
theorem Sound.startAt (h : Sound free b₀ s) {n : Fin 32} {z : Nat} : Sound free b₀ (s.startAt n z) :=
  h.modPh.tonPhase.pairAdjust.modPh.toLevelAt.modPh.look
theorem Sound.periodStart (h : Sound free b₀ s) {n : Fin 32} : Sound free b₀ (s.periodStart n) :=
  Sound.ite h (Sound.ite h.look.triStart h.look.startAt)
theorem Sound.windowCount (h : Sound free b₀ s) {n : Fin 32} : Sound free b₀ (s.windowCount n) :=
  Sound.ite h (Sound.ite (h.inc (.each _ rfl)) (h.set (.each _ rfl)))
theorem Sound.fullCount (h : Sound free b₀ s) {n : Fin 32} : Sound free b₀ (s.fullCount n) :=
  Sound.ite (h.inc (.each _ rfl)) (h.set (.each _ rfl))
theorem Sound.switchedEnd (h : Sound free b₀ s) {n : Fin 32} : Sound free b₀ (s.switchedEnd n) := by
  unfold State.switchedEnd
  exact (((Sound.ite (h.cycleAverage.observe.windowCount.set (.each _ rfl)) h.cycleAverage.observe.windowCount).fullCount).set
      (.each _ rfl)).modPh
theorem Sound.periodEnd (h : Sound free b₀ s) {n : Fin 32} : Sound free b₀ (s.periodEnd n) :=
  Sound.ite h (Sound.ite h.cycleAverage (Sound.ite h h.look.switchedEnd))
theorem Sound.windowStop (h : Sound free b₀ s) {n : Fin 32} : Sound free b₀ (s.windowStop n) :=
  Sound.ite (Sound.ite (h.mark.stopPhase.logF (.none rfl)).checkMinLive (h.mark.stopPhase.logF (.none
      rfl)).noteRail.failAlert.checkMinLive) h
theorem Sound.bootRefresh (h : Sound free b₀ s) {n : Fin 32} : Sound free b₀ (s.bootRefresh n) :=
  Sound.ite ((h.set (.each _ rfl)).mark.modPh.logF (.none rfl)) h
theorem Sound.tfltRead (h : Sound free b₀ s) {n : Fin 32} {fault : Bool} : Sound free b₀ (s.tfltRead n fault) :=
  Sound.ite h (Sound.ite h.look.mark.modPh.cut h.look.clear.modPh)
theorem Sound.negPeak (h : Sound free b₀ s) {n : Fin 32} : Sound free b₀ (s.negPeak n) :=
  Sound.ite (h.look.modPh.toLevel.mark.logF (.none rfl)) h.look
theorem Sound.escalate (h : Sound free b₀ s) {n : Fin 32} : Sound free b₀ (s.escalate n) := Sound.ite h.retry h
theorem Sound.hiccupSen (h : Sound free b₀ s) {r : Fin 8} : Sound free b₀ (s.hiccupSen r) := Sound.ite h.setSen.modFr h
theorem Sound.latchTflt (h : Sound free b₀ s) {n : Fin 32} : Sound free b₀ (s.latchTflt n) :=
  Sound.ite h (((h.modPh.mark.mark.set (.each _ rfl)).stopPhase.modPh.toLevel.logF (.none rfl)).when fun _ hx => hx.logF (.none rfl))
theorem Sound.tfltLatch (h : Sound free b₀ s) {n : Fin 32} : Sound free b₀ (s.tfltLatch n) := Sound.ite h.latchTflt.checkMinLive h
theorem Sound.tfltRelease (h : Sound free b₀ s) {n : Fin 32} : Sound free b₀ (s.tfltRelease n) :=
  Sound.ite (h.clear.unstop.logF (.none rfl)) h
theorem Sound.enterRamp (h : Sound free b₀ s) {r : Fin 8} : Sound free b₀ (s.enterRamp r) :=
  Sound.foldl (Sound.foldl (Sound.modFr (Sound.modEng (Sound.clear (Sound.setRail (h.when fun _ hx => hx.set
      (.each _ rfl)))))) fun _ _ hx =>
    ((hx.set (.each _ rfl)).setI (.each _ rfl)).modPh) fun _ _ hx => hx.addPhase
theorem Sound.hicTflt (h : Sound free b₀ s) {r : Fin 8} : Sound free b₀ (s.hicTflt r) := h.foldl fun _ _ hx => Sound.ite hx.latchTflt hx
theorem Sound.hiccupRetry (h : Sound free b₀ s) {r : Fin 8} : Sound free b₀ (s.hiccupRetry r) :=
  Sound.ite h (Sound.ite h.hicTflt.enterRamp h.hicTflt.checkMinLive)
theorem Sound.retryClear (h : Sound free b₀ s) {r : Fin 8} : Sound free b₀ (s.retryClear r) := Sound.ite (h.set (.each _ rfl)) h
theorem Sound.startTurn (h : Sound free b₀ s) {r : Fin 8} : Sound free b₀ (s.startTurn r) :=
  Sound.ite (Sound.ite h.enterRamp h.checkMinLive) h
theorem Sound.rampStart (h : Sound free b₀ s) {r : Fin 8} {code : Nat} : Sound free b₀ (s.rampStart r code) :=
  Sound.ite (Sound.takeSet (Sound.place (h.modFr.modEng.modSp.foldl fun _ _ hx => hx.modPh))) h
theorem Sound.senLeadDone (h : Sound free b₀ s) {r : Fin 8} : Sound free b₀ (s.senLeadDone r) := Sound.ite h.modFr h
theorem Sound.senFall (h : Sound free b₀ s) {r : Fin 8} : Sound free b₀ (s.senFall r) := by
  unfold State.senFall
  dsimp only
  exact Sound.ite (by
        split
        · exact h.triRail.railOff
        · exact h.triRail.latchNow) h
theorem Sound.forceTri (h : Sound free b₀ s) {n : Fin 32} {b : Bool} : Sound free b₀ (s.forceTri n b) :=
  Sound.ite (Sound.ite h.mark.stopPhase.checkMinLive h.mark) (Sound.ite h.clear.unstop h.clear)
theorem Sound.overrideRefused (h : Sound free b₀ s) {n : Fin 32} {field : Nat} : Sound free b₀ (s.overrideRefused n field) :=
  h.mark.logF (.none rfl)
theorem Sound.rePeriod (h : Sound free b₀ s) {f : State → State} (hf : ∀ x, Sound free b₀ x → Sound free b₀ (f x)) : Sound free b₀
    (s.rePeriod f) :=
  (hf _ (h.foldl fun _ _ hx => hx.modFr)).foldl fun _ _ hx => hx.place
theorem Sound.syncGone (h : Sound free b₀ s) {cause : Nat} : Sound free b₀ (s.syncGone cause) :=
  Sound.logF (Sound.withParts (Sound.mark (Sound.clear (h.rePeriod fun _ hx => hx.clear)))) (.none rfl)
theorem Sound.syncMove (h : Sound free b₀ s) {edge : Nat} {r : Fin 8} : Sound free b₀ (s.syncMove edge r) := by
  unfold State.syncMove
  exact h.modFr
theorem Sound.syncGood (h : Sound free b₀ s) {edge m : Nat} : Sound free b₀ (s.syncGood edge m) :=
  Sound.foldl (Sound.ite (Sound.logF (Sound.mark (h.rePeriod fun _ hx => (hx.set (.one rfl)).mark)) (.none rfl)) (Sound.when
      (h.rePeriod fun _ hx => (hx.set (.one rfl)).mark)
    fun _ hx => hx.clear)) fun _ _ hx => hx.syncMove
theorem Sound.syncEdge (h : Sound free b₀ s) {sub off : Nat} : Sound free b₀ (s.syncEdge sub off) :=
  Sound.ite h (Sound.ite (Sound.withParts (h.when fun _ hx => hx.syncGone)) (Sound.ite (Sound.syncGood (Sound.withParts (h.when fun _ hx =>
    hx.syncGone))) (Sound.ite (Sound.syncGone (Sound.set (Sound.withParts (h.when fun _ hx => hx.syncGone)) (.one rfl))) (Sound.set
        (Sound.withParts
    (h.when fun _ hx => hx.syncGone)) (.one rfl)))))
theorem Sound.syncLost (h : Sound free b₀ s) {late : Bool} : Sound free b₀ (s.syncLost late) :=
  Sound.ite h (Sound.ite (h.when fun _ hx => hx.withParts.syncGone) (h.when fun _ hx => hx.syncGone))

/-! ### Setpoint -/

theorem Sound.spMoved (h : Sound free b₀ s) {r : Fin 8} {own : Option (Fin 2)} : Sound free b₀ (s.spMoved r own) :=
  h.foldl fun _ _ hx => Sound.ite hx.noteOn hx
theorem Sound.putTgt (h : Sound free b₀ s) {r : Fin 8} {code slew : Nat} : Sound free b₀ (s.putTgt r code slew) := h.modSp.set (.each _ rfl)
theorem Sound.spApply (h : Sound free b₀ s) {r : Fin 8} {q : SetPt} : Sound free b₀ (s.spApply r q) :=
  ((h.modSp.set (.each _ rfl)).set (.each _ rfl)).foldl fun _ _ hx => hx.putTgt.set (.each _ rfl)
theorem Sound.spAccept (h : Sound free b₀ s) {r : Fin 8} {src code slew : Nat} : Sound free b₀ (s.spAccept r src code slew) :=
  h.spApply.spMoved
theorem Sound.spRefusedRec (h : Sound free b₀ s) {r : Fin 8} {src reason code : Nat} : Sound free b₀ (s.spRefusedRec r src reason code) :=
  h.logC (.none rfl)
theorem Sound.spRefused (h : Sound free b₀ s) {r : Fin 8} {src reason code : Nat} : Sound free b₀ (s.spRefused r src reason code) :=
  h.mark.spRefusedRec
theorem Sound.winRec (h : Sound free b₀ s) {r : Fin 8} {lo hi person refused : Nat} : Sound free b₀ (s.winRec r lo hi person refused) :=
  h.logC (.none rfl)
theorem Sound.winWrite (h : Sound free b₀ s) {r : Fin 8} {lo hi person : Nat} : Sound free b₀ (s.winWrite r lo hi person) :=
  Sound.when (Sound.when (Sound.spApply (((h.set (.each _ rfl)).set (.each _ rfl)).winRec.noteRail.when fun _ hx => hx.mark.logC
      (.none rfl))) fun _ hx => hx.mark) fun _ hx =>
    hx.spMoved
theorem Sound.vselRail (h : Sound free b₀ s) {code : Nat} {r : Fin 8} : Sound free b₀ (s.vselRail code r) := by
  unfold State.vselRail
  dsimp only
  exact Sound.ite h
      (by
        split
        · exact h.spAccept
        · exact h.mark.logC (.none rfl))
theorem Sound.vselTake (h : Sound free b₀ s) {x : List Nat} : Sound free b₀ (s.vselTake x) := h.withParts.set (.one rfl)
theorem Sound.vselCommand (h : Sound free b₀ s) {code : Nat} : Sound free b₀ (s.vselCommand code) :=
  Sound.ite ((h.set (.one rfl)).mark.onRails fun _ _ hx => hx.vselRail) (h.set (.one rfl)).mark
theorem Sound.vselAccept (h : Sound free b₀ s) {x : List Nat} : Sound free b₀ (s.vselAccept x) := by
  unfold State.vselAccept
  dsimp only
  exact Sound.ite h
      (by
        split
        · exact Sound.ite h.vselTake h.vselTake.vselCommand
        · exact h.vselTake)
theorem Sound.vselInvalid (h : Sound free b₀ s) {x : List Nat} : Sound free b₀ (s.vselInvalid x) :=
  Sound.ite h (Sound.ite h.vselTake (h.vselTake.mark.withParts.logC (.none rfl)))
theorem Sound.loadSp (h : Sound free b₀ s) {r : Fin 8} {b : List Byte} {boot : Nat} : Sound free b₀ (s.loadSp r b boot) :=
  (((h.loadItems (.each _ rfl)).load (.each _ rfl)).modSp.set (.each _ rfl)).set (.each _ rfl)

/-! ### Tense -/

theorem Sound.sweep (h : Sound free b₀ s) {x : Nat} : Sound free b₀ (s.sweep x) := Sound.ite h.ctxRefill h
theorem Sound.hintTake (h : Sound free b₀ s) {r : Fin 8} {x word : Nat} : Sound free b₀ (s.hintTake r x word) := by
  unfold State.hintTake
  exact Sound.ite h (Sound.putHints h.putCtx.withParts)
theorem Sound.unhint (h : Sound free b₀ s) {r : Fin 8} {x : Nat} : Sound free b₀ (s.unhint r x) := h.ctxCheck.retire.unwindMiss.putF
theorem Sound.modHint (h : Sound free b₀ s) {r : Fin 8} {x k : Nat} {f : Hint → Hint} : Sound free b₀ (s.modHint r x k f) := h.putHints
theorem Sound.hintRequest (h : Sound free b₀ s) {r : Fin 8} {hint : Hint} : Sound free b₀ (s.hintRequest r hint) :=
  h.addEvent.modHint.when fun _ hx => hx.mark
theorem Sound.hintAsk (h : Sound free b₀ s) {r : Fin 8} {x k : Nat} : Sound free b₀ (s.hintAsk r x k) := by
  unfold State.hintAsk
  dsimp only
  split
  · exact h.ctxCheck
  · exact Sound.ite h.ctxCheck.modHint.hintRequest h.ctxCheck
theorem Sound.hintRise (h : Sound free b₀ s) {r : Fin 8} {x k : Nat} : Sound free b₀ (s.hintRise r x k) := by
  unfold State.hintRise
  dsimp only
  split
  · exact h.ctxCheck
  · exact Sound.ite (Sound.ite h.ctxCheck.modHint (Sound.ite h.ctxCheck.modHint.addEvent h.ctxCheck.modHint.hintRequest)) h.ctxCheck
theorem Sound.hintHoldEnd (h : Sound free b₀ s) {r : Fin 8} {x k : Nat} : Sound free b₀ (s.hintHoldEnd r x k) := by
  unfold State.hintHoldEnd
  split
  · exact h
  · exact Sound.ite h.modHint h
theorem Sound.hintScore (h : Sound free b₀ s) {r : Fin 8} {x k : Nat} : Sound free b₀ (s.hintScore r x k) := by
  unfold State.hintScore
  split
  · exact h
  · exact Sound.ite h.modHint.judge.retire h
theorem Sound.earlyMiss (h : Sound free b₀ s) {r : Fin 8} : Sound free b₀ (s.earlyMiss r) :=
  Sound.ite (h.mark.unwindMiss.logC (.none rfl)) h
theorem Sound.ctxCmd (h : Sound free b₀ s) {cmd x person : Nat} : Sound free b₀ (s.ctxCmd cmd x person) :=
  Sound.ite h (Sound.logC (Sound.ite h.ctxCheck.putCtx (Sound.ite (h.ctxCheck.putCtx.onRails fun _ _ hx => hx.putHints) (h.ctxCheck.onRails
    fun _ _ hx => hx.retire.putHints))) (.none rfl))

/-! ### Protect -/

theorem Sound.noteDac (h : Sound free b₀ s) {r : Fin 8} : Sound free b₀ (s.noteDac r) := by
  unfold State.noteDac
  split
  · exact h.modFr
  · exact Sound.ite h h.modFr
theorem Sound.lsEnd (h : Sound free b₀ s) {r : Fin 8} : Sound free b₀ (s.lsEnd r) :=
  Sound.redriveRail (h.lookRail.endLs.foldl fun _ _ hx => hx.modPh)
theorem Sound.lsTrip (h : Sound free b₀ s) {r : Fin 8} {under : Bool} : Sound free b₀ (s.lsTrip r under) :=
  Sound.ite (Sound.requestAdd (Sound.redriveRail (Sound.tripHints (Sound.addEvent (h.lookRail.modFr.mark.mark.foldl fun _ _ hx =>
      hx.modPh)))))
    (Sound.redriveRail (Sound.tripHints (Sound.addEvent (h.lookRail.modFr.mark.mark.foldl fun _ _ hx => hx.modPh))))
theorem Sound.lsSample (h : Sound free b₀ s) {r : Fin 8} : Sound free b₀ (s.lsSample r) := by
  unfold State.lsSample
  split
  · exact h
  · exact Sound.ite h.lsEnd h.redriveRail
  · exact Sound.ite h.lsEnd h
  · exact Sound.ite h.modFr.lsTrip (Sound.ite h.modFr.lsTrip h.modFr)
theorem Sound.windows (h : Sound free b₀ s) {r : Fin 8} {vs va : Int} : Sound free b₀ (s.windows r vs va) :=
  Sound.ite (((Sound.ite h.modFr.mark (Sound.ite h.modFr.clear h.modFr)).modFr).clear) (Sound.ite (Sound.ite ((Sound.ite h.modFr.mark
      (Sound.ite
    h.modFr.clear h.modFr)).modFr) ((((Sound.ite h.modFr.mark (Sound.ite h.modFr.clear h.modFr)).modFr).mark).modFr)) (Sound.ite
        (((Sound.ite
    h.modFr.mark (Sound.ite h.modFr.clear h.modFr)).modFr).clear) ((Sound.ite h.modFr.mark (Sound.ite h.modFr.clear h.modFr)).modFr)))
theorem Sound.frozenSample (h : Sound free b₀ s) {r : Fin 8} : Sound free b₀ (s.frozenSample r) := h.modFr
theorem Sound.crowbarLow (h : Sound free b₀ s) {r : Fin 8} {vs va : Int} : Sound free b₀ (s.crowbarLow r vs va) := by
  unfold State.crowbarLow
  exact h.modFr
theorem Sound.errorSample (h : Sound free b₀ s) {r : Fin 8} {vs va : Int} : Sound free b₀ (s.errorSample r vs va) :=
  Sound.ite h (Sound.ite (((Sound.ite h.noteDac.modFr.modFr.windows.crowbarLow.clear.modFr
    h.noteDac.modFr.modFr.windows.crowbarLow).frozenSample).lsSample) (Sound.ite h.noteDac.modFr.modFr.windows.crowbarLow.clear.modFr
    h.noteDac.modFr.modFr.windows.crowbarLow))
theorem Sound.lsMax (h : Sound free b₀ s) {r : Fin 8} : Sound free b₀ (s.lsMax r) := Sound.ite h.lsEnd.modFr h
theorem Sound.brakeRec (h : Sound free b₀ s) {r : Fin 8} {cause : Nat} : Sound free b₀ (s.brakeRec r cause) := h.mark.logF (.none rfl)
theorem Sound.brakeStart (h : Sound free b₀ s) {r : Fin 8} : Sound free b₀ (s.brakeStart r) :=
  Sound.ite h.modFr (Sound.ite (Sound.ite h.modFr h.modFr.brakeRec.modFr) (Sound.ite (Sound.modFr (Sound.brakeRec (Sound.mark
      (Sound.redriveRail
    (Sound.logF (Sound.mark (Sound.mark (h.modFr.modFr.lookRail.foldl fun _ _ hx => Sound.ite hx.modPh hx))) (.none rfl))))))
        (Sound.redriveRail (Sound.logF
    (Sound.mark (Sound.mark (h.modFr.modFr.lookRail.foldl fun _ _ hx => Sound.ite hx.modPh hx))) (.none rfl)))))
theorem Sound.brakeInhEnd (h : Sound free b₀ s) {r : Fin 8} : Sound free b₀ (s.brakeInhEnd r) := Sound.ite h.clear.modFr h
theorem Sound.pgLow (h : Sound free b₀ s) {r : Fin 8} : Sound free b₀ (s.pgLow r) := h.clear
theorem Sound.overvoltage (h : Sound free b₀ s) {r : Fin 8} : Sound free b₀ (s.overvoltage r) :=
  Sound.ite (Sound.redriveRail (h.lookRail.mark.endLs.mark.pgLow.modFr.foldl fun _ _ hx => hx.modPh)) h
theorem Sound.crowbarEnd (h : Sound free b₀ s) {r : Fin 8} : Sound free b₀ (s.crowbarEnd r) := 
  Sound.ite ((Sound.ite (h.logF (.unit (by decide) r.isLt)) (h.logF (.unit (by decide) r.isLt))).railLatch) h
theorem Sound.undervoltage (h : Sound free b₀ s) {r : Fin 8} : Sound free b₀ (s.undervoltage r) :=
  Sound.ite (h.mark.pgLow.logF (.unit (by decide) r.isLt)) h
theorem Sound.uvTimeout (h : Sound free b₀ s) {r : Fin 8} : Sound free b₀ (s.uvTimeout r) :=
  Sound.ite (h.logF (.unit (by decide) r.isLt)).retry h
theorem Sound.pgRelease (h : Sound free b₀ s) {r : Fin 8} : Sound free b₀ (s.pgRelease r) := Sound.ite h.mark.leftStart h
theorem Sound.overcurrent (h : Sound free b₀ s) {r : Fin 8} : Sound free b₀ (s.overcurrent r) := by
  unfold State.overcurrent
  split
  · exact Sound.ite (h.mark.logF (.unit (by decide) r.isLt)).retry.modFr h
  · exact h
theorem Sound.busOver (h : Sound free b₀ s) : Sound free b₀ s.busOver := Sound.ite (h.mark.logF (.none rfl)).deviceLatch h
theorem Sound.refinFault (h : Sound free b₀ s) {m : Fin 4} {mv : Nat} : Sound free b₀ (s.refinFault m mv) :=
  Sound.ite h (Sound.ite h.withParts (Sound.logF (h.withParts.mark.mark.onPhases fun _ _ hx => Sound.ite hx.modPh hx) (.none rfl)))
theorem Sound.refinEnd (h : Sound free b₀ s) {m : Fin 4} : Sound free b₀ (s.refinEnd m) := h.when fun _ hx => hx.clear
theorem Sound.openLoopStop (h : Sound free b₀ s) {r : Fin 8} : Sound free b₀ (s.openLoopStop r) := h.modEng.railLatch
theorem Sound.toAux (h : Sound free b₀ s) {r : Fin 8} {cause : Nat} : Sound free b₀ (s.toAux r cause) := (h.mark.set (.each _ rfl)).modFr
theorem Sound.senseOpen (h : Sound free b₀ s) {r : Fin 8} : Sound free b₀ (s.senseOpen r) :=
  Sound.ite (Sound.ite (h.mark.logF (.none rfl)).toAux (h.mark.logF (.none rfl)).openLoopStop) h
theorem Sound.frozenRequest (h : Sound free b₀ s) {r : Fin 8} : Sound free b₀ (s.frozenRequest r) := Sound.ite h.modFr.modEng h
theorem Sound.feedbackFrozen (h : Sound free b₀ s) {r : Fin 8} : Sound free b₀ (s.feedbackFrozen r) :=
  Sound.ite (Sound.ite (h.mark.logF (.none rfl)).toAux (h.mark.logF (.none rfl)).openLoopStop.modFr) h
theorem Sound.auxBad (h : Sound free b₀ s) {r : Fin 8} : Sound free b₀ (s.auxBad r) :=
  Sound.ite (h.mark.logF (.none rfl)).openLoopStop.modFr h
theorem Sound.showTrim (h : Sound free b₀ s) : Sound free b₀ s.showTrim := (h.setI (.one rfl)).setB
theorem Sound.transfer (h : Sound free b₀ s) {d : Devs} {old new : Nat} : Sound free b₀ (s.transfer d old new) :=
  Sound.showTrim (Sound.withParts (Sound.set (h.onRails fun _ _ hx => hx.modFr) (.one rfl)))
theorem Sound.refVote (h : Sound free b₀ s) {d : Devs} : Sound free b₀ (s.refVote d) := by
  unfold State.refVote
  dsimp only
  split
  · exact Sound.ite (Sound.withParts (Sound.ite (Sound.set (Sound.set ((((h.setI (.one rfl)).setI (.one rfl)).setI
      (.one rfl)).foldl fun _ _ hx => Sound.ite hx (hx.logF (.none rfl))) (.one rfl)) (.one rfl)) (Sound.set
      (Sound.set ((((h.setI (.one rfl)).setI (.one rfl)).setI (.one rfl)).foldl fun _ _ hx => Sound.ite hx (hx.logF (.none rfl)))
          (.one rfl)) (.one rfl)))) (Sound.ite (Sound.set (Sound.set ((((h.setI (.one rfl)).setI (.one rfl)).setI (.one rfl)).foldl
      fun _ _ hx => Sound.ite hx (hx.logF (.none rfl))) (.one rfl)) (.one rfl)) (Sound.set (Sound.set ((((h.setI (.one rfl)).setI
          (.one rfl)).setI (.one rfl)).foldl fun _ _ hx => Sound.ite hx (hx.logF (.none rfl))) (.one rfl)) (.one rfl)))
  · exact Sound.logF (Sound.ite (Sound.transfer (Sound.set (Sound.ite (Sound.withParts (Sound.ite (Sound.set (Sound.set ((((h.setI
      (.one rfl)).setI (.one rfl)).setI (.one rfl)).foldl
      fun _ _ hx => Sound.ite hx (hx.logF (.none rfl))) (.one rfl)) (.one rfl)) (Sound.set (Sound.set ((((h.setI (.one rfl)).setI
          (.one rfl)).setI (.one rfl)).foldl fun _ _ hx => Sound.ite hx (hx.logF (.none rfl))) (.one rfl)) (.one rfl)))) (Sound.ite
      (Sound.set (Sound.set ((((h.setI (.one rfl)).setI (.one rfl)).setI (.one rfl)).foldl fun _ _ hx => Sound.ite hx (hx.logF
          (.none rfl))) (.one rfl)) (.one rfl)) (Sound.set (Sound.set ((((h.setI (.one rfl)).setI (.one rfl)).setI (.one rfl)).foldl
      fun _ _ hx => Sound.ite hx (hx.logF (.none rfl))) (.one rfl)) (.one rfl)))) (.one rfl))) (Sound.set (Sound.ite (Sound.withParts
          (Sound.ite (Sound.set (Sound.set ((((h.setI (.one rfl)).setI (.one rfl)).setI (.one rfl)).foldl
      fun _ _ hx => Sound.ite hx (hx.logF (.none rfl))) (.one rfl)) (.one rfl)) (Sound.set (Sound.set ((((h.setI (.one rfl)).setI
          (.one rfl)).setI (.one rfl)).foldl fun _ _ hx => Sound.ite hx (hx.logF (.none rfl))) (.one rfl)) (.one rfl)))) (Sound.ite
      (Sound.set (Sound.set ((((h.setI (.one rfl)).setI (.one rfl)).setI (.one rfl)).foldl fun _ _ hx => Sound.ite hx (hx.logF
          (.none rfl))) (.one rfl)) (.one rfl)) (Sound.set (Sound.set ((((h.setI (.one rfl)).setI (.one rfl)).setI (.one rfl)).foldl
      fun _ _ hx => Sound.ite hx (hx.logF (.none rfl))) (.one rfl)) (.one rfl)))) (.one rfl))) (.none rfl)
theorem Sound.trimStep (h : Sound free b₀ s) : Sound free b₀ s.trimStep :=
  Sound.ite h (Sound.showTrim (h.withParts.onRails fun _ _ hx => hx.modFr))
theorem Sound.noVoteFault (h : Sound free b₀ s) : Sound free b₀ s.noVoteFault := (h.logF (.none rfl)).withParts.deviceLatch
theorem Sound.precheckVote (h : Sound free b₀ s) {d : Devs} : Sound free b₀ (s.precheckVote d) :=
  Sound.ite h (Sound.ite h.refVote.withParts h.refVote.noVoteFault)
theorem Sound.preFail (h : Sound free b₀ s) {r : Fin 8} {test : Nat} {reading : Int} : Sound free b₀ (s.preFail r test reading) :=
  h.mark.logF (.none rfl)
theorem Sound.preHold (h : Sound free b₀ s) {r : Fin 8} : Sound free b₀ (s.preHold r) := h.railOff.mark
theorem Sound.prePhase (h : Sound free b₀ s) {r : Fin 8} {n : Fin 32} {zero change : Int} : Sound free b₀ (s.prePhase r n zero change) :=
  Sound.ite ((h.set (.each _ rfl)).mark.logF (.none rfl)).failPhase (Sound.ite ((h.set (.each _ rfl)).mark.logF (.none rfl)).failPhase
      (h.set (.each _ rfl)))
theorem Sound.prestart (h : Sound free b₀ s) {r : Fin 8} {refin : Nat} {meas : List (Int × Int × Int)} {vsp vsn vsa rise : Int} :
    Sound free b₀ (s.prestart r refin meas vsp vsn vsa rise) :=
  Sound.ite h
    (Sound.ite (h.modFr.preFail.onRails fun _ _ hx => Sound.ite hx.preHold hx)
      (Sound.ite (Sound.deviceLatch (Sound.mark (Sound.logF (by
                split
                · exact Sound.set (Sound.foldl ((h.modFr.set (.each _ rfl)).foldl
                          fun _ _ hx =>
                            Sound.ite (hx.set (.each _ rfl)) (Sound.ite hx.prePhase (hx.set (.each _ rfl))))
                        fun _ _ hx =>
                          hx.preFail) (.each _ rfl)
                · exact Sound.foldl ((h.modFr.set (.each _ rfl)).foldl fun _ _ hx => Sound.ite (hx.set (.each _ rfl))
                    (Sound.ite hx.prePhase (hx.set (.each _ rfl))))
                      fun _ _ hx =>
                        hx.preFail) (.none rfl))))
        (Sound.ite (Sound.preHold (Sound.foldl ((h.modFr.set (.each _ rfl)).foldl
                fun _ _ hx =>
                  Sound.ite (hx.set (.each _ rfl)) (Sound.ite hx.prePhase (hx.set (.each _ rfl))))
              fun _ _ hx =>
                hx.preFail))
          (Sound.modFr (Sound.foldl ((h.modFr.set (.each _ rfl)).foldl fun _ _ hx => Sound.ite (hx.set (.each _ rfl))
              (Sound.ite hx.prePhase (hx.set (.each _ rfl))))
              fun _ _ hx =>
                hx.preFail)))))
theorem Sound.railClrRec (h : Sound free b₀ s) {r : Fin 8} {person refused : Nat} : Sound free b₀ (s.railClrRec r person refused) :=
  h.logF (.none rfl)
theorem Sound.railClr (h : Sound free b₀ s) {r : Fin 8} {person : Nat} : Sound free b₀ (s.railClr r person) :=
  ((Sound.ite h.railOff h).clear).railClrRec

/-! ### Wake -/

theorem Sound.shutRails (h : Sound free b₀ s) : Sound free b₀ s.shutRails := Sound.stopInOrder (h.onRails fun _ _ hx => hx.disarm)
theorem Sound.shutdown (h : Sound free b₀ s) : Sound free b₀ s.shutdown := by
  unfold State.shutdown
  dsimp only
  exact Sound.ite h
      (by
        split
        · exact h.mark
        · exact h.mark
        · exact h.mark
        · exact h.mark
        · exact h.mark
        · exact h.mark.shutRails)
theorem Sound.pend (h : Sound free b₀ s) {src : Nat} : Sound free b₀ (s.pend src) := h.mark.withParts
theorem Sound.supplyGood (h : Sound free b₀ s) {x : Supply} : Sound free b₀ (s.supplyGood x) := by
  unfold State.supplyGood
  split
  · exact h.mark
  · exact h.mark.withParts.when fun _ hx => hx.pend
  · exact h.when fun _ hx => hx.mark
  · exact Sound.ite h (h.mark.withParts.when fun _ hx => hx.controlBack)
  · exact Sound.ite h h.mark
theorem Sound.vddioMode (h : Sound free b₀ s) {mv : Nat} : Sound free b₀ (s.vddioMode mv) :=
  Sound.ite h (Sound.ite h.mark.mark.withParts (Sound.ite h.mark.clear.withParts h.clear))
theorem Sound.cold (h : Sound free b₀ s) (hm : free.mirror = true) : Sound free b₀ s.cold := (h.keep hm State.reset_wide).withParts
theorem Sound.padLoss (h : Sound free b₀ s) : Sound free b₀ s.padLoss := Sound.ite h (h.clear.logC (.none rfl))
theorem Sound.vddLoss (h : Sound free b₀ s) : Sound free b₀ s.vddLoss :=
  Sound.ite h
    (Sound.ite h.clear.padLoss
      (Sound.withParts (Sound.allOff (Sound.onRails (Sound.logF (h.clear.padLoss.when fun _ hx => hx.mark) (.none rfl))
            fun _ _ hx =>
              by
                split
                · exact hx
                · exact hx
                · exact hx.fastStop.railOff))))
theorem Sound.vcoreLoss (h : Sound free b₀ s) (hm : free.mirror = true) : Sound free b₀ s.vcoreLoss :=
  Sound.ite h (Sound.lose (Sound.withParts (Sound.logF (h.clear.when fun _ hx => hx.mark) (.none rfl))) hm)
theorem Sound.buckRestart (h : Sound free b₀ s) : Sound free b₀ s.buckRestart := Sound.ite h.withParts h
theorem strapField_listed (i : Nat) : (strapField i).listed 1 = true := by
  unfold strapField
  split <;> rfl
theorem Sound.strapTaken (h : Sound free b₀ s) {i : Nat} {c : Option Nat} : Sound free b₀ (s.strapTaken i c) :=
  ((((h.set (.one (strapField_listed i))).set (.one rfl)).set (.one rfl)).set (.one rfl)).withParts
theorem Sound.strapRead (h : Sound free b₀ s) {i a b : Nat} : Sound free b₀ (s.strapRead i a b) :=
  Sound.ite h
    (by
      split
      · exact Sound.ite h.withParts.strapTaken (Sound.ite h.withParts.strapTaken h.withParts)
      · exact Sound.ite h.withParts.strapTaken h.withParts)
theorem Sound.lfoscStart (h : Sound free b₀ s) : Sound free b₀ s.lfoscStart := h.mark.withParts
theorem Sound.wakeRise (h : Sound free b₀ s) : Sound free b₀ s.wakeRise :=
  Sound.ite h (Sound.ite h.withParts.pend (h.withParts.when fun _ hx => hx.set (.one rfl)))
theorem Sound.wakeLow (h : Sound free b₀ s) : Sound free b₀ s.wakeLow := Sound.ite h.withParts h.withParts.shutdown
theorem Sound.wakeTimer (h : Sound free b₀ s) : Sound free b₀ s.wakeTimer := h.when fun _ hx => hx.pend
theorem Sound.wakeAccept (h : Sound free b₀ s) (hm : free.mirror = true) : Sound free b₀ s.wakeAccept :=
  Sound.ite ((h.withParts.clear.set (.one rfl)).fromDormant.wakeEntry hm) h
theorem Sound.timedLimit (h : Sound free b₀ s) : Sound free b₀ s.timedLimit := h.when fun _ hx => hx.shutdown
theorem Sound.backupRun (h : Sound free b₀ s) : Sound free b₀ s.backupRun :=
  Sound.ite (by
      split
      · exact h
      · exact h
      · exact h.enterSafestop
      · exact h.deviceLatch) h
theorem Sound.xtalTimeout (h : Sound free b₀ s) : Sound free b₀ s.xtalTimeout := Sound.ite (h.mark.mark.logF (.none rfl)) h
theorem Sound.refFail (h : Sound free b₀ s) {departed : Bool} : Sound free b₀ (s.refFail departed) :=
  Sound.ite h (h.mark.mark.mark.clear.logF (.none rfl)).backupRun
theorem Sound.pllUnlock (h : Sound free b₀ s) {p : Pll} {err : Int} : Sound free b₀ (s.pllUnlock p err) :=
  Sound.ite h (Sound.ite (h.withParts.clear.mark.logF (.none rfl)).withParts.allOff.deviceLatch (h.withParts.clear.mark.logF (.none rfl)))
theorem Sound.pllRelock (h : Sound free b₀ s) {p : Pll} {err : Int} : Sound free b₀ (s.pllRelock p err) :=
  Sound.ite h ((h.withParts.mark.logF (.none rfl)).when fun _ hx => hx.withParts)
theorem Sound.wakeDone (h : Sound free b₀ s) : Sound free b₀ s.wakeDone :=
  Sound.ite (Sound.enterParse (Sound.withParts (h.setB.mark.mark.mark.controlBack.when fun _ hx => hx.logC (.none rfl)))) h
theorem Sound.dormantEntry (h : Sound free b₀ s) {n : Nat} : Sound free b₀ (s.dormantEntry n) := by
  unfold State.dormantEntry
  exact Sound.withParts (Sound.allOff (Sound.onRails h.endSession.dropMailbox.toDormant.enter.resetRegs.clear.clear.clear
    fun _ _ hx => hx.set (.each _ rfl)))
theorem Sound.wakeTimeout (h : Sound free b₀ s) : Sound free b₀ s.wakeTimeout :=
  Sound.ite ((h.inc (.one rfl)).logF (.none rfl)).dormantEntry h
theorem Sound.resetAssert (h : Sound free b₀ s) (hm : free.mirror = true) : Sound free b₀ s.resetAssert :=
  Sound.ite h (h.clearRecorder.endSession.controlReset.allOff.withParts.wakeEntry hm)
theorem Sound.goDormant (h : Sound free b₀ s) : Sound free b₀ s.goDormant := by
  unfold State.goDormant
  split
  · exact Sound.ite h.dormantEntry h
  · exact h
theorem Sound.regionOff (h : Sound free b₀ s) {m : Fin 4} : Sound free b₀ (s.regionOff m) := by
  unfold State.regionOff
  dsimp only
  exact h.withParts.onRails
      fun _ _ hx =>
        Sound.ite (by
            split
            · exact hx.clear.stopInOrder
            · exact hx.clear.stopInOrder
            · exact hx.clear.stopInOrder
            · exact hx.clear.railOff
            · exact hx.clear.railOff
            · exact hx.clear) hx

/-! ### Adopt -/

theorem Sound.pronounUpdate (h : Sound free b₀ s) {r : Fin 8} : Sound free b₀ (s.pronounUpdate r) :=
  Sound.ite h (Sound.ite (((((((Sound.ite h.fallStep h).modFr).set (.each _ rfl)).setB).setB).setI (.each _ rfl)).applyDuty)
      ((((((Sound.ite h.fallStep
    h).modFr).set (.each _ rfl)).setB).setB).setI (.each _ rfl)))
theorem Sound.portsAfresh (h : Sound free b₀ s) : Sound free b₀ s.portsAfresh :=
  h.foldl fun _ _ hx => ((hx.modPort.set (.each _ rfl)).set (.each _ rfl)).clear.clear
theorem Sound.portsTell (h : Sound free b₀ s) : Sound free b₀ s.portsTell := h.noteAll.onRails fun _ _ hx => Sound.ite hx.noteRail hx
theorem Sound.preload (h : Sound free b₀ s) {r : Fin 8} {u0 : Int} : Sound free b₀ (s.preload r u0) := by
  unfold State.preload
  exact h.stick.clear.modEng
theorem Sound.restoreRail (h : Sound free b₀ s) {r : Fin 8} : Sound free b₀ (s.restoreRail r) := Sound.ite h h.modSp.takeSet.preload.modFr
theorem Sound.giveBack (h : Sound free b₀ s) {r : Fin 8} : Sound free b₀ (s.giveBack r) := Sound.ite h h.modEng.modFr.setRail
theorem Sound.adopted (h : Sound free b₀ s) : Sound free b₀ s.adopted :=
  Sound.ite h (Sound.when (Sound.when (Sound.noteAll (Sound.enter (Sound.logC (Sound.inc (Sound.set (Sound.set (Sound.clear (Sound.withParts
    (h.onRails fun _ _ hx => hx.giveBack))) (.one rfl)) (.one rfl)) (.one rfl)) (.none rfl)))) fun _ hx => hx.stopInOrder) fun _ hx =>
        hx.shutRails)
theorem Sound.adoptCheck (h : Sound free b₀ s) (hm : free.mirror = true) {hashOk digestOk eccOk : Bool} : Sound free b₀
    (s.adoptCheck hashOk digestOk eccOk) :=
  Sound.ite h
    (Sound.ite h.controlBack
      (by
        split
        · exact h.controlBack.refuse
        · exact Sound.adopted ((h.controlBack.withMirror hm).portsAfresh.portsTell.clearValid.onRails
                fun _ _ hx =>
                  hx.restoreRail)))
theorem Sound.handover (h : Sound free b₀ s) {r : Fin 8} : Sound free b₀ (s.handover r) := Sound.ite h.modFr.applyDuty.adopted h
theorem Sound.handoverTimeout (h : Sound free b₀ s) {r : Fin 8} : Sound free b₀ (s.handoverTimeout r) := Sound.ite h.refuse h

/-! ### Pack -/

theorem Sound.capMeasure (h : Sound free b₀ s) {v : Nat} {i : Int} {rho : Nat} : Sound free b₀ (s.capMeasure v i rho) :=
  Sound.ite (by
      split
      · exact h.reading (by decide)
      · exact h)
    (Sound.modPk (Sound.setI (Sound.set (by
            split
            · exact h.reading (by decide)
            · exact h) (.one rfl)) (.one rfl)))
theorem Sound.floorCheck (h : Sound free b₀ s) : Sound free b₀ s.floorCheck := by
  unfold State.floorCheck
  exact h.modPk.when fun _ hx => hx.huTrip
theorem Sound.eodCheck (h : Sound free b₀ s) : Sound free b₀ s.eodCheck :=
  Sound.ite h.modPk (Sound.ite h.modPk.eod (Sound.ite h.modPk.eod (Sound.ite h.modPk.eod h.modPk)))
theorem Sound.capture (h : Sound free b₀ s) {v : Nat} {i : Int} {rho : Nat} : Sound free b₀ (s.capture v i rho) :=
  Sound.ite h (Sound.ite (h.capMeasure.modPk.floorCheck.presence.when fun _ hx => hx.setChg.modPk) (Sound.eodCheck (Sound.lrnCheck
    (Sound.disAccount (Sound.packEstimate (Sound.when (h.capMeasure.modPk.floorCheck.presence.when fun _ hx => hx.setChg.modPk) fun _ hx =>
    hx.firstEstimate))))))
theorem Sound.coulomb (h : Sound free b₀ s) {raw : Nat} : Sound free b₀ (s.coulomb raw) :=
  Sound.ite h ((h.setI (.one rfl)).modPk.when fun _ hx => hx.gauge)
theorem Sound.chgInput (h : Sound free b₀ s) {above : Nat} : Sound free b₀ (s.chgInput above) :=
  Sound.ite (Sound.ite (Sound.ite h.mark.modPk.setChg h.mark.modPk.setChg) h.clear.modPk) h
theorem Sound.chgRetry (h : Sound free b₀ s) : Sound free b₀ s.chgRetry := h.when fun _ hx => hx.modPk
theorem Sound.chgInLost (h : Sound free b₀ s) : Sound free b₀ s.chgInLost := h.clear.setChg.modPk
theorem Sound.chgPeriod (h : Sound free b₀ s) {sw demand : Nat} : Sound free b₀ (s.chgPeriod sw demand) :=
  Sound.ite h (Sound.ite (h.chgInLost.logC (.none rfl)) (Sound.ite h.modPk.chgInLost (Sound.ite h.modPk.setChg h.modPk)))
theorem Sound.chgTerm (h : Sound free b₀ s) : Sound free b₀ s.chgTerm := Sound.ite h.chgDone h
theorem Sound.chgAgain (h : Sound free b₀ s) : Sound free b₀ s.chgAgain := Sound.ite h.setChg.modPk h
theorem Sound.chgPreOver (h : Sound free b₀ s) : Sound free b₀ s.chgPreOver := Sound.ite h.chgFault.mark h
theorem Sound.chgTimerOver (h : Sound free b₀ s) : Sound free b₀ s.chgTimerOver := Sound.ite h.chgFault h
theorem Sound.chgOver (h : Sound free b₀ s) : Sound free b₀ s.chgOver := Sound.ite h.chgFault h
theorem Sound.pkClr (h : Sound free b₀ s) : Sound free b₀ s.pkClr := Sound.ite (h.setChg.set (.one rfl)) h
theorem Sound.insHoldEnd (h : Sound free b₀ s) : Sound free b₀ s.insHoldEnd := Sound.ite h.newPack h
theorem Sound.lossDeclared (h : Sound free b₀ s) : Sound free b₀ s.lossDeclared :=
  Sound.ite h.modPk.chargerRound
    (by
      split
      · exact (h.modPk.chargerRound.setGate.modPk.enter.mark.logC (.none rfl)).queuePack.when fun _ hx => hx.huTrip
      · exact (h.modPk.chargerRound.setGate.modPk.enter.mark.logC (.none rfl)).queuePack.when fun _ hx => hx.huTrip
      · exact (h.modPk.chargerRound.setGate.modPk.enter.mark.logC (.none rfl)).queuePack.when fun _ hx => hx.huTrip
      · exact (h.modPk.chargerRound.setGate.modPk.enter.mark.logC (.none rfl)).queuePack.when fun _ hx => hx.huTrip
      · exact h.modPk.chargerRound.setGate.modPk.when fun _ hx => hx.huTrip
      · exact h.modPk.chargerRound.setGate.modPk.when fun _ hx => hx.huTrip
      · exact h.modPk.chargerRound)
theorem Sound.probeFail (h : Sound free b₀ s) {drop : Nat} : Sound free b₀ (s.probeFail drop) := h.setGate.modPk.mark.logC (.none rfl)
theorem Sound.inputLoss (h : Sound free b₀ s) : Sound free b₀ s.inputLoss :=
  Sound.ite h (Sound.ite h.modPk (Sound.ite h.modPk.probeFail (Sound.ite h.modPk h.modPk.lossDeclared)))
theorem Sound.busGoodAgain (h : Sound free b₀ s) : Sound free b₀ s.busGoodAgain := Sound.ite h (Sound.ite h.modPk.withParts.modPk h.modPk)
theorem Sound.probeStart (h : Sound free b₀ s) {bus : Nat} {rev : Bool} : Sound free b₀ (s.probeStart bus rev) :=
  h.setGate.modPk.when fun _ hx => hx.probeFail
theorem Sound.probeDue (h : Sound free b₀ s) {bus : Nat} : Sound free b₀ (s.probeDue bus) := Sound.ite h.probeStart h
theorem Sound.restored (h : Sound free b₀ s) : Sound free b₀ s.restored :=
  Sound.ite (h.logC (.none rfl)).setGate.mark.withParts.modPk.queuePack.enter (h.logC (.none rfl)).setGate.mark.withParts.modPk.queuePack
theorem Sound.probeEnd (h : Sound free b₀ s) {bus : Nat} : Sound free b₀ (s.probeEnd bus) := Sound.ite h (Sound.ite h.restored h.probeFail)
theorem Sound.holdupOver (h : Sound free b₀ s) : Sound free b₀ s.holdupOver := Sound.ite h.eod h
theorem Sound.restEnd (h : Sound free b₀ s) : Sound free b₀ s.restEnd := Sound.ite h.modPk.ocvApply h
theorem Sound.testStart (h : Sound free b₀ s) : Sound free b₀ s.testStart := Sound.ite h.mark.setChg.modPk h
theorem Sound.testRested (h : Sound free b₀ s) : Sound free b₀ s.testRested := Sound.ite h.modPk.ocvApply.setChg h
theorem Sound.testMeasure (h : Sound free b₀ s) : Sound free b₀ s.testMeasure :=
  Sound.ite ((h.set (.one rfl)).logC (.none rfl)).clear.setChg.modPk.withParts.wear.queuePack h
theorem Sound.testAgain (h : Sound free b₀ s) : Sound free b₀ s.testAgain := Sound.ite h.testStart h
theorem Sound.recordHourly (h : Sound free b₀ s) : Sound free b₀ s.recordHourly := Sound.ite h.queuePack h
theorem Sound.loadPack (h : Sound free b₀ s) {b : Option (List Byte)} : Sound free b₀ (s.loadPack b) := by
  unfold State.loadPack
  split
  · exact (h.load (.one rfl)).modPk
  · exact ((h.loadItems (.one rfl)).load (.one rfl)).modPk.when fun _ hx => hx.packStart

/-! ### Thermal -/

theorem Sound.hkStart (h : Sound free b₀ s) : Sound free b₀ s.hkStart :=
  Sound.ite h.withParts (Sound.ite h (Sound.ite ((h.withParts.inc (.one rfl)).mark.logF (.none rfl)) (h.withParts.incWrap
      (.one rfl)).withParts))
theorem Sound.hkDemand (h : Sound free b₀ s) : Sound free b₀ s.hkDemand := Sound.ite h h.withParts
theorem Sound.tempChannel (h : Sound free b₀ s) {ch : Nat} (hc : ch < 47) {a b : Int} : Sound free b₀ (s.tempChannel ch a b) := by
  unfold State.tempChannel
  dsimp only
  exact Sound.ite (h.reading hc)
      (Sound.ite (h.reading hc)
        (by
          split
          · exact h
          · exact h.reading hc
          · exact h.reading hc
          · exact h.reading hc))
theorem Sound.refinChannel (h : Sound free b₀ s) {m : Fin 4} {a : Int} : Sound free b₀ (s.refinChannel m a) :=
  Sound.ite h.refinFault h.withParts
theorem Sound.selfCheck (h : Sound free b₀ s) {a b : Int} : Sound free b₀ (s.selfCheck a b) := Sound.ite h.withParts h.withParts.clear
theorem Sound.hkEnd (h : Sound free b₀ s) : Sound free b₀ s.hkEnd := h.withParts.thermEval.when fun _ hx => hx.packEstimate
theorem Sound.hkResult (h : Sound free b₀ s) {ch : Nat} (hc : ch < 47) {a b : Int} : Sound free b₀ (s.hkResult ch a b) :=
  Sound.ite (h.tempChannel hc) (Sound.ite (Sound.ite h h.refinChannel) (Sound.ite h.withParts (Sound.ite h.withParts (Sound.ite (Sound.ite h
    h.refVote) (Sound.ite (Sound.ite h (h.set (.one rfl))) (Sound.ite (Sound.ite h (h.set (.one rfl))) (Sound.ite (Sound.ite h (h.set
        (.one rfl))) (Sound.ite (Sound.ite h h.withParts)
    (Sound.ite (Sound.ite h h.withParts) (Sound.ite (Sound.ite h (h.set (.one rfl))) (Sound.ite h.selfCheck h)))))))))))
theorem Sound.hkSlot (h : Sound free b₀ s) {ch : Nat} (hc : ch < 47) {a b : Int} : Sound free b₀ (s.hkSlot ch a b) :=
  Sound.ite h (Sound.ite (Sound.ite h.withParts h) (Sound.ite h ((h.hkResult hc).withParts.when fun _ hx => hx.hkEnd)))
theorem Sound.selfFail (h : Sound free b₀ s) : Sound free b₀ s.selfFail := Sound.ite (h.mark.logF (.none rfl)) h
theorem Sound.sensorFail (h : Sound free b₀ s) {k : Nat} (hk : k < 47) : Sound free b₀ (s.sensorFail k) :=
  Sound.ite ((h.putTemp (sensReg_inst hk)).putSens.mark.logF (.none rfl)).windowsOf.thermEval h
theorem Sound.tfltScan (h : Sound free b₀ s) {n : Fin 32} {code : Nat} : Sound free b₀ (s.tfltScan n code) :=
  Sound.ite h
    (by
      split
      · exact Sound.ite h.withParts (Sound.thermEval (h.withParts.reading (by omega))))
theorem Sound.tshut (h : Sound free b₀ s) {cmp : Nat} : Sound free b₀ (s.tshut cmp) :=
  Sound.ite h (h.withParts.pkgShut.when fun _ hx => hx.deviceLatch)
theorem Sound.loadThermal (h : Sound free b₀ s) {b : List Byte} : Sound free b₀ (s.loadThermal b) :=
  Sound.withParts ((h.loadItems (.one rfl)).foldRange fun _ _ hm hx => hx.loadItems (.below hm rfl))

/-! ### Recorder -/

theorem Sound.foldBack (h : Sound free b₀ s) {e : Evt} : Sound free b₀ (s.foldBack e) := Sound.ite h.withParts h.withParts
theorem Sound.intake (h : Sound free b₀ s) : Sound free b₀ s.intake :=
  Sound.ite h
    (by
      split
      · exact h
      · exact Sound.ite h.withParts.withParts
            (Sound.ite h.withParts.foldBack
              (by
                split
                · exact (h.withParts.inc (.one rfl)).mark.withParts
                · exact (h.withParts.inc (.one rfl)).mark.when fun _ hx => hx.mark)))
theorem Sound.histQueue (h : Sound free b₀ s) {r : Record} : Sound free b₀ (s.histQueue r).1 := by
  unfold State.histQueue
  split
  · exact h.withJrn
  · dsimp only
    exact (h.inc (.one rfl)).mark.logC (.none rfl)
theorem Sound.makeRoom (h : Sound free b₀ s) {isSticky : Bool} : Sound free b₀ (s.makeRoom isSticky) :=
  Sound.ite (h.withParts.mark.logC (.none rfl)) (Sound.ite h.withParts.mark h)
theorem Sound.recordStore (h : Sound free b₀ s) : Sound free b₀ s.recordStore := by
  unfold State.recordStore
  refine Sound.ite h ?_
  split
  · exact h
  · rename_i e q _
    have hq : Sound free b₀ { s with rcd.intake := q } := h.withParts
    generalize ({ s with rcd.intake := q } : State) = x at hq
    have hr (c : Bool) (r : Record) : Sound free b₀ (if c then x.histQueue r else (x, r)).1 := by
      split
      · exact hq.histQueue
      · exact hq
    exact Sound.set (Sound.withParts (hr _ _).makeRoom) (.one rfl)
theorem Sound.windowEnd (h : Sound free b₀ s) {code unit : Nat} : Sound free b₀ (s.windowEnd code unit) := by
  unfold State.windowEnd
  split
  · exact h
  · exact Sound.ite h (Sound.ite h.withParts h.withParts.emit)
theorem Sound.commitDone (h : Sound free b₀ s) (hj : free.journal = true) {ok : Bool} {drop : Nat} : Sound free b₀
    (s.commitDone ok drop) := by
  unfold State.commitDone
  split
  · exact h
  · exact Sound.ite (Sound.when (h.clear.putJrn (.inl hj)) fun _ hx => hx.capMeasured) h.jrnAbandon.jrnDefer
theorem Sound.deferRetry (h : Sound free b₀ s) (hj : free.journal = true) {vs : Nat} : Sound free b₀ (s.deferRetry vs) := by
  unfold State.deferRetry
  exact Sound.ite (Sound.jrnEval (Sound.set (Sound.clear h.withJrn) (.one rfl)) hj) h
theorem Sound.fwJournal (h : Sound free b₀ s) {b : List Byte} : Sound free b₀ (s.fwJournal b) := by
  unfold State.fwJournal
  exact Sound.ite (Sound.journalChanged h.withJrn) h

/-! ### View -/

theorem Sound.putBank (h : Sound free b₀ s) {bus : Nat} {b : RecBank} : Sound free b₀ (s.putBank bus b) := Sound.ite h.withParts h.withParts
theorem Sound.recSel (h : Sound free b₀ s) {bus sel : Nat} : Sound free b₀ (s.recSel bus sel) := by
  unfold State.recSel
  dsimp only
  split <;> exact h.putBank
theorem Sound.denied (h : Sound free b₀ s) {w : Who} {a : Nat} {wr : Bool} : Sound free b₀ (s.denied w a wr) := h.mark.logC (.none rfl)
theorem Sound.readEffect (h : Sound free b₀ s) {w : Who} {a : Nat} : Sound free b₀ (s.readEffect w a) :=
  Sound.ite h.withParts (Sound.ite (Sound.ite ((Sound.ite h.mark.putBank h).recSel) (Sound.ite h.mark.putBank h)) (Sound.ite h.ctxCheck h))
theorem Sound.regRead (h : Sound free b₀ s) {w : Who} {a : Nat} : Sound free b₀ (s.regRead w a).2.2 := by
  unfold State.regRead
  dsimp only
  split
  · exact h.denied
  · split
    · exact h
    · split
      · exact h.denied
      · exact h.readEffect

/-! ### Access -/

theorem Sound.pmbClear (h : Sound free b₀ s) {pages : List (Fin 8)} : Sound free b₀ (s.pmbClear pages) :=
  Sound.withParts (Sound.clear (h.foldl fun _ _ hx => hx.foldl fun _ _ hy => hy.clear))
theorem Sound.recClear (h : Sound free b₀ s) {person : Nat} {all : Bool} : Sound free b₀ (s.recClear person all) :=
  h.withParts.logC (.none rfl)
theorem Sound.mboxPush (h : Sound free b₀ s) {x : Nat} : Sound free b₀ (s.mboxPush x) := h.withParts
theorem Sound.mboxGo (h : Sound free b₀ s) {bus : Nat} : Sound free b₀ (s.mboxGo bus) := h.withParts
theorem Sound.consent (h : Sound free b₀ s) {p : Fin 2} {mask minutes : Nat} : Sound free b₀ (s.consent p mask minutes) :=
  h.withParts.mark.logC (.none rfl)
theorem Inst.of_mem {f : Fld} {i : Nat} (hf : f ∈ allFields) (hi : i < f.count) : Inst f i :=
  .below hi (by
    simp only [Fld.listed, Bool.and_eq_true, List.contains_iff_mem]
    exact ⟨mem_chapter hf, Nat.ble_self_eq_true _⟩)
/-- The fields of a register are instances of the map. -/
theorem Inst.of_fieldsAt {a : Nat} {e : Fld × Nat} (he : e ∈ fieldsAt a) : Inst e.1 e.2 := by
  obtain ⟨f, hf, he⟩ := List.mem_flatMap.1 he
  split at he
  · split at he
    · obtain ⟨i, hi, rfl⟩ := List.mem_map.1 he
      exact .of_mem hf (List.mem_range.1 hi)
    · cases he
  · split at he
    · next hc =>
      obtain rfl := List.mem_singleton.1 he
      exact .of_mem hf hc.2.2
    · cases he
theorem Inst.of_writes {x : State} {w : Who} {a v : Nat} {e : Fld × Nat × Nat} (he : e ∈ actsLast (x.writes w a v)) : Inst e.1 e.2.1 := by
  have hw : e ∈ x.writes w a v := by
    unfold actsLast at he
    rcases List.mem_append.1 he with he | he
    · exact (List.mem_filter.1 he).1
    · exact (List.mem_filter.1 he).1
  have hfor := State.mem_fieldsFor_of_writes hw
  unfold State.fieldsFor at hfor
  split at hfor
  · cases hfor
  · exact .of_fieldsAt hfor
/-- What a write of one field does where it is more than to store the value. -/
theorem Sound.fieldAct (h : Sound free b₀ s) {w : Who} {nv : Fld → Nat → Nat} {e : Fld × Nat × Nat} {x : State} (he : Inst e.1 e.2.1)
    (hx : s.fieldAct w nv e = some x) : Sound free b₀ x := by
  have hi {c : Prop} [Decidable c] {a b : Option State} (ha : ∀ x, a = some x → Sound free b₀ x) (hb : ∀ x, b = some x → Sound free b₀ x) :
      ∀ x, (if c then a else b) = some x → Sound free b₀ x := by
    split
    · exact ha
    · exact hb
  have hs {y : State} (hy : Sound free b₀ y) : ∀ x, some y = some x → Sound free b₀ x := fun _ e => Option.some.inj e ▸ hy
  suffices ∀ x, s.fieldAct w nv e = some x → Sound free b₀ x from this _ hx
  unfold State.fieldAct
  exact hi (hs (h.set he)) <| hi (hs (Sound.ite h.withParts h)) <| hi (hs (h.when fun _ hx => hx.shutdown)) <| hi (hs (h.set he)) <|
    hi (hs ((h.load he).when fun _ hx => hx.journalChanged)) <| hi (hs h.storeWrite) <| hi (hs h.spAccept) <|
    hi (hs (Sound.ite h.winWrite h)) <| hi (hs (h.set he)) <| hi (hs (h.set he)) <| hi (hs h.ctxCmd) <| hi (hs h.forceTri) <|
    hi (hs (h.foldl fun _ _ hx => hx.railClr)) <| hi (hs h.testStart) <| hi (hs h.pkClr) <| hi (hs h.mboxGo) <|
    hi (hs h.endSession) <| hi (hs h.mboxPush) <| hi (hs h) <| hi (hs h.putBank) <| hi (hs h.putBank) <| hi (hs h.recClear) <|
    hi (hs h.recClear) <| hi (hs h.pmbClear) fun _ e => (Option.some_ne_none _ e.symm).elim
theorem Sound.fieldWrite (h : Sound free b₀ s) {w : Who} {nv : Fld → Nat → Nat} {e : Fld × Nat × Nat} (he : Inst e.1 e.2.1) :
    Sound free b₀ (s.fieldWrite w nv e) := by
  unfold State.fieldWrite
  cases hx : s.fieldAct w nv e with
  | none => exact h.set he
  | some x => exact h.fieldAct he hx
theorem Sound.selEffect (h : Sound free b₀ s) {w : Who} {a v : Nat} : Sound free b₀ (s.selEffect w a v) := Sound.ite h.recSel h
theorem Sound.consentEffect (h : Sound free b₀ s) {w : Who} {nv : Fld → Nat → Nat} {l : List (Fld × Nat × Nat)} :
    Sound free b₀ (s.consentEffect w nv l) := h.when fun _ hx => hx.consent
/-- The record of a refused write. -/
theorem Sound.fieldRule (h : Sound free b₀ s) {x : State} {w : Who} {a : Nat} {nv : Fld → Nat → Nat} {both : Bool} {e : Fld × Nat × Nat}
    {q : Refused} (hq : x.fieldRule w a nv both e = some q) : Sound free b₀ (q.act s) := by
  have hi {c : Prop} [Decidable c] {a b : Option Refused} (ha : ∀ q, a = some q → Sound free b₀ (q.act s))
      (hb : ∀ q, b = some q → Sound free b₀ (q.act s)) : ∀ q, (if c then a else b) = some q → Sound free b₀ (q.act s) := by
    split
    · exact ha
    · exact hb
  have hs {n : Nat} {f : State → State} (hf : Sound free b₀ (f s)) : ∀ q, some (Refused.mk n f) = some q → Sound free b₀ (q.act s) :=
    fun _ e => Option.some.inj e ▸ hf
  have hn : ∀ q, (none : Option Refused) = some q → Sound free b₀ (q.act s) := nofun
  suffices ∀ q, x.fieldRule w a nv both e = some q → Sound free b₀ (q.act s) from this _ hq
  unfold State.fieldRule
  refine hi (hs (h.logF (.none rfl))) <| hi (hs h) <| hi (hi hn (hs h)) <| hi (hi hn (hs h)) <| hi (hi hn (hs h)) <|
    hi (hi (hi hn (hs h)) (hs (h.logC (.none rfl)))) <| hi (hi hn (hs h.overrideRefused)) <| hi (hi hn (hs h.overrideRefused)) <|
    hi (hi hn (hs h.storeRefused)) <| hi ?_ <| hi (hi hn (hs h.winRec)) <|
    hi (hi hn (hs (h.foldl fun _ _ hx => Sound.ite hx hx.railClrRec))) <| hi (hi (hs h) hn) <| hi (hi hn (hs (h.logC (.none rfl)))) hn
  split
  · exact hn
  · exact hs h.spRefused
theorem Sound.regWrite (h : Sound free b₀ s) {w : Who} {a v : Nat} {both : Bool} : Sound free b₀ (s.regWrite w a v both).2 := by
  unfold State.regWrite
  dsimp only
  split
  · exact h.denied
  · split
    · exact h
    · split
      · rename_i q hq
        obtain ⟨e, -, he⟩ := List.exists_of_findSome?_eq_some hq
        exact h.fieldRule he
      · exact Sound.selEffect (Sound.consentEffect (h.foldlMem fun _ _ he hx => hx.fieldWrite (.of_writes he)))
theorem Sound.hostWrite (h : Sound free b₀ s) {p : Path} {a v : Nat} {both : Bool} : Sound free b₀ (s.hostWrite p a v both) :=
  Sound.ite h.regWrite h
theorem Sound.swapBoth (h : Sound free b₀ s) {path : Path} {n : Fin 32} {data : Nat} : Sound free b₀ (s.swapBoth path n data) :=
  Sound.ite h
    (by
      split
      · exact h.regWrite
      · exact Sound.ite (h.regWrite.set (.each _ rfl)) h.regWrite)
theorem Sound.packTest (h : Sound free b₀ s) {who : Option (Path × Word)} : Sound free b₀ (s.packTest who) := by
  unfold State.packTest
  split
  · exact h.hostWrite
  · exact Sound.ite h h.testStart
theorem Sound.hostRead (h : Sound free b₀ s) {p : Path} {a : Nat} : Sound free b₀ (s.hostRead p a).2.2 := by
  unfold State.hostRead
  split
  · exact h.regRead
  · exact h
theorem Sound.consentEnd (h : Sound free b₀ s) {r : Nat} : Sound free b₀ (s.consentEnd r) := Sound.ite h.withParts h

/-! ### Hostbus -/

theorem Sound.spiAnswer (h : Sound free b₀ s) : Sound free b₀ s.spiAnswer := by
  unfold State.spiAnswer
  split
  · exact h.withParts
  · exact by
        split
        · exact h.withParts
        · exact h.withParts
theorem Sound.spiDone (h : Sound free b₀ s) {op tag res data : Nat} : Sound free b₀ (s.spiDone op tag res data) := h.withParts
theorem Sound.issueRead (h : Sound free b₀ s) {w : Who} {a : Nat} : Sound free b₀ (s.issueRead w a).state := by
  unfold State.issueRead
  dsimp only
  split
  · exact h.withC4
  · exact h.regRead
theorem Sound.issueWrite (h : Sound free b₀ s) {w : Who} {a v : Nat} : Sound free b₀ (s.issueWrite w a v).state := by
  unfold State.issueWrite
  dsimp only
  split
  · exact h.withC4
  · exact h.regWrite
theorem Sound.issued {i : Issued} (h : Sound free b₀ i.state) {x : State} (e : i.state = x) : Sound free b₀ x := e ▸ h
theorem Sound.spiRun (h : Sound free b₀ s) {op tag : Nat} {f : State → Issued} (hf : ∀ x, Sound free b₀ x → Sound free b₀ (f x).state) :
    Sound free b₀ (s.spiRun op tag f) := by
  have hy := hf _ (h.spiAnswer.incWrap (f := F.SPI_STATUS_SPI_XCNT) (i := 0) (.one rfl))
  unfold State.spiRun
  refine Sound.ite h.withParts (Sound.ite h.spiAnswer (Sound.ite (h.spiAnswer.incWrap (.one rfl)) ?_))
  split
  · rename_i e
    exact (hy.issued (congrArg Issued.state e)).spiDone
  · rename_i e
    exact (hy.issued (congrArg Issued.state e)).withParts
theorem Sound.spiBad (h : Sound free b₀ s) {crc : Bool} {op tag : Nat} : Sound free b₀ (s.spiBad crc op tag) :=
  Sound.ite h.withParts (Sound.ite ((Sound.ite (h.spiAnswer.inc (.one rfl)) (h.spiAnswer.inc (.one rfl)).cml).logC (.none rfl))
      (((Sound.ite (h.spiAnswer.inc (.one rfl))
    (h.spiAnswer.inc (.one rfl)).cml).logC (.none rfl)).spiDone))
theorem Sound.spiError (h : Sound free b₀ s) {edges raw : Nat} : Sound free b₀ (s.spiError edges raw) := by
  unfold State.spiError
  split
  · exact h.spiBad
  · exact h

/-! ### Aedat -/

theorem Sound.credBack (h : Sound free b₀ s) {p : Fin 2} : Sound free b₀ (s.credBack p) := Sound.ite h.modPort (h.set (.each _ rfl))
theorem Sound.dropRead (h : Sound free b₀ s) {p : Fin 2} : Sound free b₀ (s.dropRead p) := h.modPort.withC4
theorem Sound.fixSlot (h : Sound free b₀ s) {p : Fin 2} : Sound free b₀ (s.fixSlot p) := h.modPort
theorem Sound.slotLeaves (h : Sound free b₀ s) {p : Fin 2} : Sound free b₀ (s.slotLeaves p).1 := by
  unfold State.slotLeaves
  dsimp only
  split
  · dsimp only
    exact h.modPort.modPort
  · dsimp only
    exact h.modPort
theorem Sound.portReset (h : Sound free b₀ s) {p : Fin 2} : Sound free b₀ (s.portReset p) :=
  (h.dropRead.modPort.set (.each _ rfl)).set (.each _ rfl)
theorem Sound.putAns (h : Sound free b₀ s) {p : Fin 2} {ack : Bool} {code : Nat} : Sound free b₀ (s.putAns p ack code) := by
  unfold State.putAns
  exact h.ctxCheck.modPort
theorem Sound.frameRefused (h : Sound free b₀ s) {p : Fin 2} {typ w why : Nat} : Sound free b₀ (s.frameRefused p typ w why) :=
  Sound.ite (h.inc (.each _ rfl)).spRefusedRec (Sound.ite (Sound.logC ((h.inc (.each _ rfl)).when fun _ hx => hx.mark) (.none rfl))
      (Sound.ite (h.inc (.each _ rfl)).regRead (Sound.ite (h.inc (.each _ rfl)).regWrite
    (h.inc (.each _ rfl)))))
theorem Sound.portRead (h : Sound free b₀ s) {p : Fin 2} {seq a : Nat} : Sound free b₀ (s.portRead p seq a) := by
  unfold State.portRead
  split
  · rename_i e
    exact (h.issueRead.issued (congrArg Issued.state e)).modPort
  · rename_i e
    exact (h.issueRead.issued (congrArg Issued.state e)).modPort
theorem Sound.portWrFail (h : Sound free b₀ s) {p : Fin 2} {a : Nat} : Sound free b₀ (s.portWrFail p a) := h.mark.logC (.none rfl)
theorem Sound.portWrite (h : Sound free b₀ s) {p : Fin 2} {v : Nat} : Sound free b₀ (s.portWrite p v) := by
  unfold State.portWrite
  dsimp only
  split
  · rename_i e
    exact Sound.credBack ((h.modPort.issueWrite.issued (congrArg Issued.state e)).when fun _ hx => hx.portWrFail)
  · rename_i e
    exact (h.modPort.issueWrite.issued (congrArg Issued.state e)).modPort
theorem Sound.frameAct (h : Sound free b₀ s) {p : Fin 2} {typ seq w : Nat} : Sound free b₀ (s.frameAct p typ seq w) := by
  unfold State.frameAct
  split
  · exact h.spAccept.credBack
  · exact h.set (.each _ rfl)
  · exact h.hintTake.credBack
  · exact h.unhint.credBack
  · exact h.portRead
  · exact h.modPort
  · exact h.portWrite
  · exact h.modPort
  · exact h.portReset
  · exact h
theorem Sound.goodFrame (h : Sound free b₀ s) {p : Fin 2} {typ seq w lead : Nat} : Sound free b₀ (s.goodFrame p typ seq w lead) := by
  unfold State.goodFrame
  dsimp only
  exact Sound.ite h.putAns.mark
      (by
        split
        · exact ((Sound.ite h.ctxRefill h).putAns).frameRefused
        · exact ((((Sound.ite ((Sound.ite h.ctxRefill h).set (.each _ rfl))
                      (Sound.ite h.ctxRefill h)).putAns).modPort).frameAct).when
              fun _ hx =>
                hx.logC (.none rfl))
theorem Sound.slotLost (h : Sound free b₀ s) {p : Fin 2} : Sound free b₀ (s.slotLost p) := Sound.ite h.slotLeaves.credBack h.slotLeaves
theorem Sound.frame (h : Sound free b₀ s) {p : Fin 2} {typ seq w lead : Nat} : Sound free b₀ (s.frame p typ seq w lead) :=
  Sound.ite h h.slotLost.goodFrame.clear.modPort
theorem Sound.badCrc (h : Sound free b₀ s) {p : Fin 2} : Sound free b₀ (s.badCrc p) :=
  Sound.ite h ((h.slotLost.putAns.inc (.each _ rfl)).logC (.none rfl))
theorem Sound.answerOnly (h : Sound free b₀ s) {p : Fin 2} {header w crc : Nat} : Sound free b₀ (s.answerOnly p header w crc) :=
  Sound.ite h.putAns
    (Sound.ite h.putAns
      (by
        split
        · exact h.putAns
        · exact h.putAns))
theorem Sound.rawFrame (h : Sound free b₀ s) {p : Fin 2} {header w crc : Nat} : Sound free b₀ (s.rawFrame p header w crc) :=
  Sound.ite h.frame h.badCrc
theorem Sound.cutShort (h : Sound free b₀ s) {p : Fin 2} {edges header w crc : Nat} : Sound free b₀ (s.cutShort p edges header w crc) :=
  h.slotLost.when fun _ hx => hx.answerOnly
theorem Sound.frameGap (h : Sound free b₀ s) {p : Fin 2} {edges header w crc : Nat} : Sound free b₀ (s.frameGap p edges header w crc) :=
  Sound.ite h ((Sound.ite h.modPort (Sound.ite h (Sound.ite (h.cutShort.mark.logC (.none rfl)) ((h.mark.inc (.each _ rfl)).logC
      (.none rfl))))).fixSlot)
theorem Sound.clkStuck (h : Sound free b₀ s) {p : Fin 2} {edges header w crc : Nat} : Sound free b₀ (s.clkStuck p edges header w crc) :=
  Sound.ite h (Sound.logC (Sound.mark (Sound.modPort (h.when fun _ hx => hx.cutShort))) (.none rfl))
theorem Sound.readLost (h : Sound free b₀ s) {p : Fin 2} : Sound free b₀ (s.readLost p) := by
  unfold State.readLost
  split
  · exact Sound.ite h h.modPort.modPort.mark.credBack
  · exact h
theorem Sound.bootRail (h : Sound free b₀ s) {p : Fin 2} {r : Fin 8} : Sound free b₀ (s.bootRail p r) :=
  Sound.ite h (h.putTgt.set (.each _ rfl)).modSp.spMoved
theorem Sound.portSilent (h : Sound free b₀ s) {p : Fin 2} : Sound free b₀ (s.portSilent p) :=
  Sound.ite h (Sound.ite ((h.mark.mark.logC (.none rfl)).portReset.onRails fun _ _ hx => hx.bootRail) (h.mark.mark.logC
      (.none rfl)).portReset)

/-! ### Pmbus -/

theorem Sound.pmbOut (h : Sound free b₀ s) {code : Nat} {b : List Byte} : Sound free b₀ (s.pmbOut code b) := h.withParts
theorem Sound.pmbInvalid (h : Sound free b₀ s) : Sound free b₀ s.pmbInvalid := h.cml
theorem Sound.pmbNack (h : Sound free b₀ s) : Sound free b₀ s.pmbNack := h.withParts
theorem Sound.pmbRun (h : Sound free b₀ s) {code : Nat} {x : Xfer} {rd : Option (State → State)} {wr : Option (List Byte → State → State)}
    (hrd : ∀ f ∈ rd, ∀ y, Sound free b₀ y → Sound free b₀ (f y)) (hwr : ∀ f ∈ wr, ∀ d y, Sound free b₀ y → Sound free b₀ (f d y)) :
    Sound free b₀ (s.pmbRun code x rd wr) := by
  unfold State.pmbRun
  refine Sound.ite h.pmbNack (Sound.ite h.pmbNack ?_)
  dsimp only
  split
  · split
    · exact hrd _ rfl _ h.withParts
    · exact h.withParts.pmbInvalid
  · refine Sound.ite (h.withParts.inc (.one rfl)).cml ?_
    split
    · exact hwr _ rfl _ _ h.withParts
    · exact h.withParts.pmbInvalid
/-- A PMBus command that only reads. -/
theorem Sound.pmbRunRead (h : Sound free b₀ s) {code : Nat} {x : Xfer} {f : State → State} (hf : ∀ y, Sound free b₀ y → Sound free b₀
    (f y)) :
    Sound free b₀ (s.pmbRun code x (some f) none) :=
  h.pmbRun (fun _ e => Option.some.inj e ▸ hf) nofun
/-- A PMBus command that only writes. -/
theorem Sound.pmbRunWrite (h : Sound free b₀ s) {code : Nat} {x : Xfer} {g : List Byte → State → State}
    (hg : ∀ d y, Sound free b₀ y → Sound free b₀ (g d y)) : Sound free b₀ (s.pmbRun code x none (some g)) :=
  h.pmbRun (nofun) fun _ e => Option.some.inj e ▸ hg
/-- A PMBus command that reads and writes. -/
theorem Sound.pmbRunBoth (h : Sound free b₀ s) {code : Nat} {x : Xfer} {f : State → State} {g : List Byte → State → State}
    (hf : ∀ y, Sound free b₀ y → Sound free b₀ (f y)) (hg : ∀ d y, Sound free b₀ y → Sound free b₀ (g d y)) :
    Sound free b₀ (s.pmbRun code x (some f) (some g)) :=
  h.pmbRun (fun _ e => Option.some.inj e ▸ hf) fun _ e => Option.some.inj e ▸ hg
theorem Sound.pageRead (h : Sound free b₀ s) {code k : Nat} {f : State → Fin 8 → Nat} : Sound free b₀ (s.pageRead code k f) :=
  Sound.ite h.pmbInvalid h.pmbOut
theorem Sound.pmbConst (h : Sound free b₀ s) {code : Nat} {x : Xfer} {b : Nat} : Sound free b₀ (s.pmbConst code x b) :=
  h.pmbRunRead fun _ hx => hx.pmbOut
theorem Sound.pmbPage (h : Sound free b₀ s) {x : Xfer} : Sound free b₀ (s.pmbPage x) :=
  h.pmbRunBoth (fun _ hx => hx.pmbOut) fun _ _ hx => by
    split
    · exact Sound.ite (hx.set (.one rfl)) hx.pmbInvalid
    · exact hx.pmbInvalid
theorem Sound.putMask (h : Sound free b₀ s) {k v : Nat} : Sound free b₀ { s with pmb.masks := s.pmb.masks.set k v } :=
  h.withParts
theorem Sound.pmbMask (h : Sound free b₀ s) {x : Xfer} : Sound free b₀ (s.pmbMask x) :=
  h.pmbRunBoth (fun _ hx => hx.pageRead) fun _ _ hx => by
    dsimp only
    split
    · exact Sound.ite (hx.withParts.foldl fun _ _ hy => hy.putMask) hx.pmbInvalid
    · exact hx.pmbInvalid
theorem Sound.voutSet (h : Sound free b₀ s) {n : Nat} : Sound free b₀ (s.voutSet n) :=
  Sound.ite h.pmbInvalid
    (by
      split
      · exact h.spAccept
      · exact h.spRefused.pmbInvalid)
theorem Sound.pmbVout (h : Sound free b₀ s) {x : Xfer} : Sound free b₀ (s.pmbVout x) :=
  h.pmbRunBoth (fun _ hx => hx.pageRead) fun _ _ hx => Sound.ite hx.voutSet hx.pmbInvalid
theorem Sound.pmbRail1 (h : Sound free b₀ s) {code k : Nat} {x : Xfer} {f : State → Fin 8 → Nat} : Sound free b₀ (s.pmbRail1 code k x f) :=
  h.pmbRunRead fun _ hx => hx.pageRead
theorem Sound.pmbText (h : Sound free b₀ s) {code : Nat} {x : Xfer} {f : State → List Byte} : Sound free b₀ (s.pmbText code x f) :=
  h.pmbRunRead fun _ hx => hx.pmbOut
theorem Sound.pmbReg (h : Sound free b₀ s) {code a : Nat} : Sound free b₀ (s.pmbReg code a) :=
  Sound.ite h.regRead.pmbOut h.regRead.pmbOut.cml
theorem Sound.pmbRegWrite (h : Sound free b₀ s) {a v : Nat} : Sound free b₀ (s.pmbRegWrite a v) :=
  Sound.ite h.regWrite h.regWrite.pmbInvalid
theorem Sound.pmbRegAddr (h : Sound free b₀ s) {a : Nat} : Sound free b₀ (s.pmbRegAddr a) := by
  unfold State.pmbRegAddr
  refine Sound.ite h.pmbInvalid ?_
  dsimp only
  split
  · rename_i e
    exact (h.withParts.issueRead.issued (congrArg Issued.state e)).withParts
  · rename_i e
    exact (h.withParts.issueRead.issued (congrArg Issued.state e)).withParts
theorem Sound.pmbRegAnswer (h : Sound free b₀ s) : Sound free b₀ s.pmbRegAnswer := by
  unfold State.pmbRegAnswer
  split
  · exact h.pmbOut
  · exact h.pmbOut.cml
theorem Sound.pmbRegData (h : Sound free b₀ s) {x : Xfer} : Sound free b₀ (s.pmbRegData x) :=
  h.pmbRunBoth (fun _ hx => Sound.ite hx.withParts hx.pmbRegAnswer) fun _ _ hx => by
    dsimp only
    split
    · refine Sound.ite hx.pmbInvalid ?_
      split
      · rename_i e
        exact (hx.issueWrite.issued (congrArg Issued.state e)).withParts.when fun _ hy => hy.pmbInvalid
      · rename_i e
        exact (hx.issueWrite.issued (congrArg Issued.state e)).withParts
    · exact hx.pmbInvalid
theorem Sound.mboxWords (h : Sound free b₀ s) {k : Nat} {b : List Byte} : Sound free b₀ (s.mboxWords k b) := by
  induction k generalizing s b with
  | zero => exact h
  | succ k ih => exact ih h.pmbRegWrite
theorem Sound.mboxPops (h : Sound free b₀ s) {k : Nat} {acc : List Byte} : Sound free b₀ (s.mboxPops k acc).1 := by
  induction k generalizing s acc with
  | zero => exact h
  | succ k ih => exact ih h.regRead
theorem Sound.pmbMbox (h : Sound free b₀ s) {x : Xfer} : Sound free b₀ (s.pmbMbox x) :=
  h.pmbRunBoth (fun _ hx => hx.mboxPops.pmbOut) fun _ _ hx => Sound.ite hx.mboxWords hx.pmbInvalid
theorem Sound.recWords (h : Sound free b₀ s) {k : Nat} {acc : List Byte} : Sound free b₀ (s.recWords k acc).1 := by
  induction k generalizing s acc with
  | zero => exact h
  | succ k ih => exact ih h.regRead
theorem Sound.pmbUnknown (h : Sound free b₀ s) {code : Nat} : Sound free b₀ (s.pmbUnknown code) :=
  Sound.ite h.pmbNack (Sound.ite h h.pmbNack.cml)
theorem Sound.alertResponse (h : Sound free b₀ s) : Sound free b₀ s.alertResponse := Sound.ite h.withParts h.pmbNack

/-! ### Session -/

theorem Sound.answer (h : Sound free b₀ s) {res : Nat} {b : List Byte} : Sound free b₀ (s.answer res b) := h.withParts
theorem Sound.reply (h : Sound free b₀ s) {res : Nat} {b : List Byte} : Sound free b₀ (s.reply res b) := by
  unfold State.reply
  split
  · exact h.answer
  · exact h.withParts.endSession
theorem Sound.attemptFailed (h : Sound free b₀ s) {bus res : Nat} : Sound free b₀ (s.attemptFailed bus res) :=
  Sound.logC (Sound.mark (h.when fun _ hx => hx.countFail)) (.none rfl)
theorem Sound.handshake (h : Sound free b₀ s) {m1 : List Byte} {sid nd eph k : Nat} : Sound free b₀ (s.handshake m1 sid nd eph k) :=
  h.withParts.answer
theorem Sound.hello (h : Sound free b₀ s) {sid nd eph k : Nat} : Sound free b₀ (s.hello sid nd eph k) :=
  Sound.ite h (Sound.ite h.handshake (Sound.answer (Sound.attemptFailed (h.when fun _ hx => hx.withParts.logC (.none rfl)))))
theorem Sound.openSession (h : Sound free b₀ s) {c : List Byte} : Sound free b₀ (s.openSession c) :=
  Sound.answer (Sound.logC (Sound.withParts ((h.set (.one rfl)).withOtp (OtpKept.failN _ _))) (.none rfl))
theorem Sound.auth (h : Sound free b₀ s) : Sound free b₀ s.auth := Sound.ite h (Sound.ite h.openSession h.attemptFailed.answer.withParts)
theorem Sound.handshakeTimeout (h : Sound free b₀ s) : Sound free b₀ s.handshakeTimeout := Sound.ite h.attemptFailed.withParts h
theorem Sound.tagFail (h : Sound free b₀ s) : Sound free b₀ s.tagFail := h.mark.endSession
theorem Sound.m6 (h : Sound free b₀ s) {stat addr cseq data : Nat} : Sound free b₀ (s.m6 stat addr cseq data) := h.reply
theorem Sound.m6Plain (h : Sound free b₀ s) {op stat addr : Nat} : Sound free b₀ (s.m6Plain op stat addr) := h.m6
theorem Sound.m8 (h : Sound free b₀ s) {kop res : Nat} : Sound free b₀ (s.m8 kop res) := h.reply
theorem Sound.sessionRun (h : Sound free b₀ s) {m op : Nat} {act : State → Nat → List Byte → State}
    (hf : ∀ x a pt, Sound free b₀ x → Sound free b₀ (act x a pt)) : Sound free b₀ (s.sessionRun m op act) := by
  unfold State.sessionRun
  refine Sound.ite h ?_
  split
  · exact h.tagFail
  · exact Sound.ite (hf _ _ _ h.withParts) (Sound.ite h.withParts.m6Plain h.withParts.m8)
theorem Sound.sessRead (h : Sound free b₀ s) {a : Nat} {pt : List Byte} : Sound free b₀ (s.sessRead a pt) := by
  unfold State.sessRead
  split
  · rename_i e
    exact (h.issueRead.issued (congrArg Issued.state e)).withParts
  · rename_i e
    have hx := h.issueRead.issued (congrArg Issued.state e)
    exact Sound.ite hx.m6 hx.m6Plain
theorem Sound.sessWrite (h : Sound free b₀ s) {a : Nat} {pt : List Byte} : Sound free b₀ (s.sessWrite a pt) := by
  unfold State.sessWrite
  split
  · rename_i e
    exact (h.issueWrite.issued (congrArg Issued.state e)).withParts
  · rename_i e
    exact (h.issueWrite.issued (congrArg Issued.state e)).m6Plain
theorem Sound.sessClose (h : Sound free b₀ s) {a : Nat} {x : List Byte} : Sound free b₀ (s.sessClose a x) := h.m6Plain.endSession
theorem Sound.sessService (h : Sound free b₀ s) {a : Nat} {x : List Byte} : Sound free b₀ (s.sessService a x) :=
  Sound.ite h.m6Plain (Sound.ite h.m6Plain h.withParts.enter.m6Plain)
theorem Sound.sessTap (h : Sound free b₀ s) {a : Nat} {x : List Byte} : Sound free b₀ (s.sessTap a x) :=
  Sound.ite h.m6Plain (Sound.ite h.m6Plain (h.mark.withParts.logC (.none rfl)).m6Plain)
theorem Sound.sessHealth (h : Sound free b₀ s) {a : Nat} {x : List Byte} : Sound free b₀ (s.sessHealth a x) := by
  unfold State.sessHealth
  split
  · exact h.m6Plain
  split
  · exact h.m6Plain
  split
  · exact h.m6Plain
  · next hn =>
    have hlt : a < 32 := by
      simp only [Bool.or_eq_true, decide_eq_true_eq, not_or] at hn
      omega
    exact (h.set (.below hlt rfl)).journalChanged.m6Plain
theorem Sound.keyRun (h : Sound free b₀ s) {kop : Nat} {pt : List Byte} {op : Otp → List Byte → KeyOut} {after : State → KeyOut → State}
    (ho : Gains op) (hf : ∀ x k, Sound free b₀ x → Sound free b₀ (after x k)) : Sound free b₀ (s.keyRun kop pt op after) := by
  unfold State.keyRun
  extract_lets x written followed
  have hx : OtpKept s.otp x.otp := by
    unfold x
    split
    · exact ho _ _
    · exact .refl _
  have hw : Sound free b₀ written := h.withOtp hx
  have hfollowed : Sound free b₀ followed := .ite (hf _ _ hw.mark) hw
  exact (hfollowed.logC (.none rfl)).m8
theorem Sound.noAfter (h : Sound free b₀ s) {x : KeyOut} : Sound free b₀ (noAfter s x) := h
theorem Sound.eraseEvents (h : Sound free b₀ s) (hj : free.journal = true) {k : KeyOut} : Sound free b₀ (s.eraseEvents k) := by
  unfold State.eraseEvents
  refine Sound.set ?_ (.one rfl)
  exact ⟨h.otp, .inl hj, h.mirror, h.wide⟩
theorem Sound.sessRetire (h : Sound free b₀ s) {pt : List Byte} : Sound free b₀ (s.sessRetire pt) :=
  Sound.when (h.keyRun (keyRetire_gains _) fun _ _ hx => hx.noAfter) fun _ hx => hx.endSession
theorem Sound.sessIdle (h : Sound free b₀ s) : Sound free b₀ s.sessIdle := Sound.ite h.endSession h
theorem Sound.sessLife (h : Sound free b₀ s) : Sound free b₀ s.sessLife := Sound.ite h.endSession h
theorem Sound.lockoutEnd (h : Sound free b₀ s) : Sound free b₀ s.lockoutEnd := Sound.ite h.withParts h
theorem Sound.tapInstr (h : Sound free b₀ s) {i : TapInstr} : Sound free b₀ (s.tapInstr i) := Sound.ite h.withParts h

/-! ### Answers -/

theorem Sound.pmbDone (h : Sound free b₀ s) {wr : Bool} {res data : Nat} : Sound free b₀ (s.pmbDone wr res data) :=
  Sound.ite h (Sound.ite (h.withParts.when fun _ hx => hx.pmbInvalid) (Sound.ite h.withParts.pmbRegAnswer h.withParts))
theorem Sound.sessDone (h : Sound free b₀ s) {res data : Nat} : Sound free b₀ (s.sessDone res data) := by
  unfold State.sessDone
  split
  · exact h
  · exact Sound.ite h.withParts.m6 h.withParts.m6Plain
theorem Sound.portDone (h : Sound free b₀ s) {p : Fin 2} {a : Access} {res data : Nat} : Sound free b₀ (s.portDone p a res data) :=
  Sound.ite (Sound.credBack (h.modPort.when fun _ hx => hx.portWrFail))
    (by
      split
      · exact h.modPort
      · exact h)
theorem Sound.deliver (h : Sound free b₀ s) {a : Access} {res data : Nat} : Sound free b₀ (s.deliver a res data) := by
  unfold State.deliver
  split
  · exact by
        split
        · exact h.spiDone
        · exact h
  · exact h.pmbDone
  · exact h.sessDone
  · exact h.portDone
  · exact h.portDone
  · exact h
theorem Sound.carryOut (h : Sound free b₀ s) {a : Access} : Sound free b₀ (s.carryOut a).2.2 := by
  unfold State.carryOut
  dsimp only
  split
  · exact h.regWrite
  · exact h.regRead
theorem Sound.popAccess (h : Sound free b₀ s) {l : List Access} : Sound free b₀ (s.popAccess l) := h.withParts
theorem Sound.regAnswer (h : Sound free b₀ s) : Sound free b₀ s.regAnswer :=
  Sound.ite h
    (by
      split
      · exact h
      · exact h.popAccess.carryOut.deliver)
theorem Sound.bridgeFault (h : Sound free b₀ s) {front : Bool} {cls : Nat} : Sound free b₀ (s.bridgeFault front cls) :=
  h.mark.raise (.none rfl)
theorem Sound.dropAccess (h : Sound free b₀ s) : Sound free b₀ s.dropAccess := by
  unfold State.dropAccess
  split
  · exact h
  · exact h.popAccess.bridgeFault.deliver
theorem Sound.dropAnswer (h : Sound free b₀ s) : Sound free b₀ s.dropAnswer := by
  unfold State.dropAnswer
  split
  · exact h
  · exact h.popAccess.carryOut.bridgeFault.deliver
theorem Sound.dropApply (h : Sound free b₀ s) : Sound free b₀ s.dropApply :=
  Sound.ite (h.bridgeFault.withParts.set (.one rfl)) (h.bridgeFault.logC (.none rfl)).withParts.enterSafestop
theorem Sound.resend (h : Sound free b₀ s) {k : Nat} : Sound free b₀ (s.resend k) :=
  Sound.ite h
    (by
      split
      · exact by
            split
            · exact h
            · exact Sound.ite h.withParts h.withParts.bridgeFault
      · exact Sound.ite h (Sound.ite h.withParts h.dropAccess)
      · exact Sound.ite h (Sound.ite h.withParts h.dropApply)
      · exact Sound.ite h (Sound.ite h.withParts h.dropAnswer))
theorem Sound.leaseEnd (h : Sound free b₀ s) {res : Nat} : Sound free b₀ (s.leaseEnd res) := by
  unfold State.leaseEnd
  split
  · exact h.jrnAbandon.jrnDefer
  · exact h.dropAccess
  · exact h.withParts
  · exact h.withParts
  · exact h
theorem leaseField_listed (res : Nat) : (leaseField res).listed 1 = true := by
  unfold leaseField
  split <;> rfl
theorem Sound.leaseExpiry (h : Sound free b₀ s) {res : Nat} : Sound free b₀ (s.leaseExpiry res) :=
  Sound.ite h (((h.leaseEnd.set (.one rfl)).inc (.one (leaseField_listed res))).logC (.none rfl))

/-! ### Conjunction -/

theorem Sound.cjIn (h : Sound free b₀ s) {typ src seq payload crc : Nat} {codeErr : Bool} {f : State → State}
    (hf : ∀ x, Sound free b₀ x → Sound free b₀ (f x)) : Sound free b₀ (s.cjIn typ src seq payload crc codeErr f) :=
  Sound.ite h (Sound.ite (h.inc (.one rfl)).mark.clear (Sound.ite (h.inc (.one rfl)).mark (hf _ h.mark)))
theorem Sound.putPeer (h : Sound free b₀ s) {c : Nat} {p : Peer} : Sound free b₀ (s.putPeer c p) := h.withParts
theorem Sound.peerAlert (h : Sound free b₀ s) : Sound free b₀ s.peerAlert := by
  unfold State.peerAlert
  split
  · exact h.pmbBits (.each _ rfl)
  · exact h.foldl fun _ _ hx => hx.pmbBits (.each _ rfl)
theorem Sound.heard (h : Sound free b₀ s) {c : Nat} : Sound free b₀ (s.heard c) :=
  Sound.ite (Sound.ite (h.putPeer.logC (.none rfl)) h.putPeer) ((Sound.ite (h.putPeer.logC (.none rfl)) h.putPeer).clear)
theorem Sound.leaderBack (h : Sound free b₀ s) : Sound free b₀ s.leaderBack := Sound.ite (h.withParts.logC (.none rfl)) h
theorem Sound.leaderHeard (h : Sound free b₀ s) {target : Bool} : Sound free b₀ (s.leaderHeard target) := h.withParts
theorem Sound.joinRamp (h : Sound free b₀ s) {r : Fin 8} : Sound free b₀ (s.joinRamp r) := h.setSen.enterRamp.modFr.modEng.takeSet
theorem Sound.joinReg (h : Sound free b₀ s) {r : Fin 8} : Sound free b₀ (s.joinReg r) := h.setRail.modFr
theorem Sound.joinStart (h : Sound free b₀ s) {r : Fin 8} : Sound free b₀ (s.joinStart r) :=
  Sound.ite (Sound.ite (Sound.joinRamp (h.when fun _ hx => hx.hicTflt)) (Sound.checkMinLive (h.when fun _ hx => hx.hicTflt))) h
theorem Sound.partOff (h : Sound free b₀ s) {r : Fin 8} : Sound free b₀ (s.partOff r) := by
  unfold State.partOff
  split
  · exact h.fastStop.railOff
  · exact h.fastStop.railOff
  · exact h.fastStop.railOff
  · exact h.fastStop.railOff
  · exact h.railOff
  · exact h.railOff
  · exact h
theorem Sound.partHiccup (h : Sound free b₀ s) {r : Fin 8} : Sound free b₀ (s.partHiccup r) := h.fastStop.setRail.modFr
theorem Sound.ownFall (h : Sound free b₀ s) {r : Fin 8} : Sound free b₀ (s.ownFall r) := Sound.ite h.modEng h
theorem Sound.takeRstate (h : Sound free b₀ s) {r : Fin 8} {code : Nat} : Sound free b₀ (s.takeRstate r code) := by
  unfold State.takeRstate
  split
  · exact Sound.ite h.ownFall h.partOff
  · exact Sound.ite h.ownFall h.partOff
  · exact h.joinStart
  · exact Sound.ite h.joinStart.joinReg h.joinStart
  · exact Sound.ite h.joinStart.joinReg h.joinStart
  · exact Sound.ite h.partHiccup h
  · exact Sound.ite h h.softStop
  · exact Sound.ite h.ownFall.softStop (Sound.ite h.railLatch h)
  · exact h
theorem Sound.memberF (h : Sound free b₀ s) {r : Fin 8} : Sound free b₀ (s.memberF r) := (h.setI (.each _ rfl)).modEng
theorem Sound.islandTarget (h : Sound free b₀ s) {r : Fin 8} {u : Int} : Sound free b₀ (s.islandTarget r u) :=
  Sound.ite (h.withParts.clear.logC (.none rfl)).modEng h.withParts
theorem Sound.targetIn (h : Sound free b₀ s) {src seq payload : Nat} : Sound free b₀ (s.targetIn src seq payload) := by
  unfold State.targetIn
  dsimp only
  exact Sound.ite h
      (by
        split
        · exact h.mark.leaderBack.leaderHeard.withParts
        · exact Sound.ite (Sound.ite h.mark.leaderBack.leaderHeard.withParts.islandTarget
                h.mark.leaderBack.leaderHeard.withParts)
              (((((Sound.ite h.mark.leaderBack.leaderHeard.withParts.islandTarget
                        h.mark.leaderBack.leaderHeard.withParts).withParts).modEng).modSp).memberF))
theorem Sound.infoRegs (h : Sound free b₀ s) {payload : Nat} : Sound free b₀ (s.infoRegs payload) :=
  (((h.set (.one rfl)).set (.one rfl)).set (.one rfl)).withParts
theorem Sound.infoPart (h : Sound free b₀ s) {r : Fin 8} {payload code : Nat} : Sound free b₀ (s.infoPart r payload code) :=
  Sound.ite ((((Sound.ite h (h.set (.each _ rfl)).memberF.takeRstate).withParts).addEvent).requestAdd) ((Sound.ite h (h.set
      (.each _ rfl)).memberF.takeRstate).withParts)
theorem Sound.infoIn (h : Sound free b₀ s) {src payload : Nat} : Sound free b₀ (s.infoIn src payload) :=
  Sound.ite h
    (by
      split
      · exact h.infoRegs
      · exact h.infoRegs.infoPart)
theorem Sound.evIn (h : Sound free b₀ s) {src payload : Nat} : Sound free b₀ (s.evIn src payload) :=
  Sound.ite h
    (by
      split
      · exact h
      · exact Sound.ite (Sound.ite (h.withParts.set (.each _ rfl)) (h.withParts.set (.each _ rfl)).partHiccup)
            (Sound.ite (Sound.ite (h.withParts.set (.each _ rfl)) (h.withParts.set (.each _ rfl)).railLatch) (h.withParts.set
                (.each _ rfl))))
theorem Sound.mstatIn (h : Sound free b₀ s) {src payload : Nat} : Sound free b₀ (s.mstatIn src payload) := Sound.ite h h.heard.putPeer
theorem Sound.pingIn (h : Sound free b₀ s) {src : Nat} : Sound free b₀ (s.pingIn src) :=
  Sound.ite (Sound.ite h.heard h) (Sound.ite h.leaderBack.leaderHeard h)
theorem Sound.joinIn (h : Sound free b₀ s) {src payload : Nat} : Sound free b₀ (s.joinIn src payload) :=
  Sound.ite h ((Sound.ite h.heard.putPeer h).withParts)
theorem Sound.welcomeIn (h : Sound free b₀ s) {src payload : Nat} : Sound free b₀ (s.welcomeIn src payload) := by
  unfold State.welcomeIn
  dsimp only
  exact Sound.ite h
      (Sound.ite (h.set (.one rfl)).withParts.mark
        (by
          split
          · exact ((h.set (.one rfl)).mark.clear.peerAlert.logC (.none rfl)).withParts.disarm
          · exact ((h.set (.one rfl)).mark.clear.peerAlert.logC (.none rfl)).withParts))
theorem Sound.joinRetry (h : Sound free b₀ s) : Sound free b₀ s.joinRetry := Sound.ite h h.withParts
theorem Sound.joinTimeout (h : Sound free b₀ s) : Sound free b₀ s.joinTimeout := Sound.ite h (h.withParts.logC (.none rfl))
theorem Sound.infoSent (h : Sound free b₀ s) {r : Fin 8} : Sound free b₀ (s.infoSent r) := ((h.set (.one rfl)).set (.one rfl)).withParts
theorem Sound.statFrame (h : Sound free b₀ s) {x : Nat × Nat} : Sound free b₀ (s.statFrame x).2 := by
  unfold State.statFrame
  split
  · exact h.withParts
  · exact h
theorem Sound.nextFrame (h : Sound free b₀ s) : Sound free b₀ s.nextFrame.2 := by
  unfold State.nextFrame
  split
  · exact h.withParts
  · split
    · split
      · exact h.infoSent
      · exact h
    · split
      · exact h.statFrame
      · exact h
    · exact h.statFrame
theorem Sound.sendOwn (h : Sound free b₀ s) : Sound free b₀ s.sendOwn := Sound.ite h.withParts h.nextFrame.withParts
theorem Sound.dupCtl (h : Sound free b₀ s) : Sound free b₀ s.dupCtl := Sound.ite h (h.mark.clear.withParts.logC (.none rfl))
theorem Sound.ownBack (h : Sound free b₀ s) {src seq : Nat} : Sound free b₀ (s.ownBack src seq) :=
  Sound.ite h.dupCtl (Sound.ite h.withParts.mark h)
theorem Sound.ownSlot (h : Sound free b₀ s) {typ src seq payload crc : Nat} {codeErr : Bool} :
    Sound free b₀ (s.ownSlot typ src seq payload crc codeErr) := Sound.ite h (Sound.sendOwn (h.cjIn fun _ hx => hx.ownBack))
theorem Sound.targetSend (h : Sound free b₀ s) : Sound free b₀ s.targetSend := Sound.ite h h.withParts
theorem Sound.island (h : Sound free b₀ s) {r : Fin 8} : Sound free b₀ (s.island r) :=
  Sound.ite (h.withParts.mark.mark.inc (.one rfl)).memberF.preload.modEng (h.withParts.mark.mark.inc (.one rfl)).memberF.preload
theorem Sound.leaderLost (h : Sound free b₀ s) : Sound free b₀ s.leaderLost :=
  Sound.ite h
    (by
      split
      · exact Sound.ite (Sound.ite h (h.logC (.none rfl)).mark.clear.clear.peerAlert.island)
            (Sound.ite h (h.logC (.none rfl)).mark.clear.clear.peerAlert.withParts)
      · exact Sound.ite h (h.logC (.none rfl)).mark.clear.clear.peerAlert.withParts)
theorem Sound.islandTimeout (h : Sound free b₀ s) : Sound free b₀ s.islandTimeout := by
  unfold State.islandTimeout
  split
  · exact Sound.ite h (h.softStop.logC (.none rfl))
  · exact h
theorem Sound.memberLost (h : Sound free b₀ s) {c : Nat} : Sound free b₀ (s.memberLost c) :=
  Sound.ite h
    (by
      split
      · exact (h.putPeer.mark.mark.peerAlert.discard.logC (.none rfl)).noteRail
      · exact h.putPeer.mark.mark.peerAlert.logC (.none rfl))
theorem Sound.ringDown (h : Sound free b₀ s) : Sound free b₀ s.ringDown := Sound.ite h (h.mark.clear.logC (.none rfl))
theorem Sound.loadLinks (h : Sound free b₀ s) {b : List Byte} {cfg2 cfg3 : Nat} : Sound free b₀ (s.loadLinks b cfg2 cfg3) :=
  Sound.withParts (((((h.loadItems (.one rfl)).load (.one rfl)).load (.one rfl)).load (.one rfl)).foldl fun _ _ hx => ((hx.load
      (.each _ rfl)).load (.each _ rfl)).load (.each _ rfl))

/-! ### Parser -/

theorem resField_listed (c : Nat) : (resField c).listed 1 = true := by
  unfold resField
  split <;> rfl
theorem Sound.setResult (h : Sound free b₀ s) {c v : Nat} : Sound free b₀ (s.set (resField c) 0 v) := h.set (.one (resField_listed c))
theorem Sound.rejectCopy (h : Sound free b₀ s) {c res : Nat} : Sound free b₀ (s.rejectCopy c res) := h.setResult.logC (.none rfl)
theorem Sound.noConfig (h : Sound free b₀ s) : Sound free b₀ s.noConfig := by
  unfold State.noConfig
  exact (h.logC (.none rfl)).withParts.enterSafestop
theorem Sound.takeProfile (h : Sound free b₀ s) {why : Nat} : Sound free b₀ (s.takeProfile why) :=
  Sound.logC (Sound.withParts (h.when fun _ hx => hx.logC (.none rfl))) (.none rfl)
theorem Sound.norDiscovery (h : Sound free b₀ s) {o : Option Sfdp} {density : Nat} {qe : Bool} : Sound free b₀
    (s.norDiscovery o density qe) :=
  Sound.ite h (Sound.ite h.withParts.noConfig ((h.withParts.withParts.set (.one rfl)).when fun _ hx => hx.mark.logC (.none rfl)))
theorem Sound.readCopy (h : Sound free b₀ s) {c : Nat} : Sound free b₀ (s.readCopy c) := h.withParts
theorem Sound.checkHdr (h : Sound free b₀ s) {c : Nat} : Sound free b₀ (s.checkHdr c) := Sound.ite h (Sound.ite h.setResult h.rejectCopy)
theorem Sound.headersRead (h : Sound free b₀ s) {a b : List Byte} : Sound free b₀ (s.headersRead a b) :=
  Sound.ite h (Sound.ite ((h.withParts.set (.one rfl)).set (.one rfl)).takeProfile (Sound.ite h.withParts.checkHdr.checkHdr.takeProfile
      (Sound.ite
    h.withParts.checkHdr.checkHdr.noConfig h.withParts.checkHdr.checkHdr.withParts.readCopy)))
theorem Sound.unread (h : Sound free b₀ s) : Sound free b₀ s.unread := by
  unfold State.unread
  exact Sound.noConfig (h.foldl fun _ _ hx => hx.rejectCopy)
theorem Sound.readFail (h : Sound free b₀ s) : Sound free b₀ s.readFail :=
  Sound.ite h.unread ((((h.inc (.one rfl)).set (.one rfl)).set (.one rfl)).logC (.none rfl)).withParts
theorem Sound.norFail (h : Sound free b₀ s) : Sound free b₀ s.norFail := Sound.ite h h.readFail
theorem Sound.vddioWait (h : Sound free b₀ s) : Sound free b₀ s.vddioWait := Sound.ite h h.unread
theorem Sound.vddioLoss (h : Sound free b₀ s) : Sound free b₀ s.vddioLoss :=
  Sound.ite h (Sound.norFail (Sound.when (Sound.dropTap (h.clear.withParts.when fun _ hx => hx.mark)) fun _ hx => hx.logF (.none rfl)))
theorem Sound.holdContent (h : Sound free b₀ s) {b : List Byte} : Sound free b₀ (s.holdContent b) := h.withParts
theorem Sound.copyChosen (h : Sound free b₀ s) {c : Nat} {b : List Byte} : Sound free b₀ (s.copyChosen c b) :=
  Sound.withParts (Sound.when (h.when fun _ hx => hx.setResult) fun _ hx => hx.logC (.none rfl))
theorem Sound.copyRead (h : Sound free b₀ s) {b : List Byte} : Sound free b₀ (s.copyRead b) := by
  unfold State.copyRead
  dsimp only
  exact Sound.ite h
      (Sound.ite h.readFail
        (by
          split
          · exact h.holdContent.copyChosen
          · exact Sound.ite h.holdContent.rejectCopy.withParts.readCopy h.holdContent.rejectCopy.noConfig))

/-! ### Apply -/

theorem Sound.applyDevice (h : Sound free b₀ s) {b : List Byte} : Sound free b₀ (s.applyDevice b) := (h.set (.one rfl)).withParts
theorem Sound.applyPersons (h : Sound free b₀ s) {b : List Byte} : Sound free b₀ (s.applyPersons b) :=
  ((((h.load (.one rfl)).load (.one rfl)).load (.one rfl)).load (.one rfl)).withParts
theorem Sound.applyLimits (h : Sound free b₀ s) {c : Conf} : Sound free b₀ (s.applyLimits c) :=
  Sound.onRails ((h.loadItems (.one rfl)).foldRange fun _ _ hi hx => hx.loadItems (.below hi rfl)) fun _ _ hx => (hx.loadItems
      (.each _ rfl)).modRail
theorem Sound.applyPhase (h : Sound free b₀ s) {c : Conf} {n : Fin 32} : Sound free b₀ (s.applyPhase c n) := by
  unfold State.applyPhase
  exact ((((h.setB.set (.each _ rfl)).setB.set (.each _ rfl)).loadItems (.each _ rfl)).load (.each _ rfl)).modPh
theorem Sound.applyPhRail (h : Sound free b₀ s) {c : Conf} {r : Fin 8} : Sound free b₀ (s.applyPhRail c r) := by
  unfold State.applyPhRail
  exact ((h.loadItems (.each _ rfl)).loadItems (.each _ rfl)).modRail
theorem Sound.applyPhases (h : Sound free b₀ s) {c : Conf} : Sound free b₀ (s.applyPhases c) :=
  Sound.onRails (h.loadJournal.onPhases fun _ _ hx => hx.applyPhase) fun _ _ hx => hx.applyPhRail
theorem Sound.applyRegion (h : Sound free b₀ s) {c : Conf} {m : Fin 4} : Sound free b₀ (s.applyRegion c m) := by
  unfold State.applyRegion
  split
  · exact (h.loadItems (.each _ rfl)).load (.each _ rfl)
  · exact (((h.load (.each _ rfl)).load (.each _ rfl)).load (.each _ rfl)).load (.each _ rfl)
theorem Sound.applyRail (h : Sound free b₀ s) {c : Conf} {r : Fin 8} : Sound free b₀ (s.applyRail c r) :=
  (h.modRail.loadItems (.each _ rfl)).loadSp
theorem Sound.applySets (h : Sound free b₀ s) {c : Conf} : Sound free b₀ (s.applySets c) := h.foldl fun _ _ hx => hx.putSet
theorem Sound.applyTense (h : Sound free b₀ s) {c : Conf} : Sound free b₀ (s.applyTense c) :=
  Sound.initCtxs (Sound.onRails (Sound.load (Sound.load ((h.loadItems (.one rfl)).onRails fun _ _ hx => hx.loadItems (.each _ rfl))
      (.one rfl)) (.one rfl)) fun _ _ hx => hx.putHints.putF)
theorem Sound.putDigest (h : Sound free b₀ s) {f : Fld} {w : Nat → Nat} (hf : f.listed 8 = true) : Sound free b₀ (s.putDigest f w) :=
  h.foldRange fun _ _ hi hx => hx.set (.below hi hf)
theorem Sound.applyFirmware (h : Sound free b₀ s) {c : Conf} : Sound free b₀ (s.applyFirmware c) :=
  ((h.putDigest rfl).putDigest rfl).withParts.withParts
/-- Thermometer bits programmed for the rollback counter. -/
theorem OtpKept.rollBits (o : Otp) (n : Nat) : OtpKept o { o with rbBits := o.rbBits ||| n } := by
  refine ⟨fun i h => ?_, fun _ h => h, fun h => h, fun h => h, rfl, fun h => h, rfl, rfl, fun _ _ => rfl, fun _ _ h => h⟩
  show (o.rbBits ||| n).testBit i = true
  rw [Nat.testBit_lor, h, Bool.true_or]
theorem Sound.advanceSvn (h : Sound free b₀ s) : Sound free b₀ s.advanceSvn :=
  Sound.ite ((h.withOtp (OtpKept.rollBits _ _)).mark.logC (.none rfl)) h
theorem Sound.applySteps (h : Sound free b₀ s) {c : Conf} : Sound free b₀ (s.applySteps c) :=
  Sound.loadLinks (Sound.applyTense (Sound.loadPack (Sound.loadThermal (Sound.applySets (Sound.onRails
    (h.applyPersons.applyLimits.applyPhases.foldl fun _ _ hx => hx.applyRegion) fun _ _ hx => hx.applyRail)))))
theorem Sound.phaseReady (h : Sound free b₀ s) {n : Fin 32} : Sound free b₀ (s.phaseReady n) :=
  Sound.when (Sound.setLevel (Sound.modPh (h.clear.when fun _ hx => hx.clear))) fun _ hx => hx.logC (.none rfl)
theorem Sound.railReady (h : Sound free b₀ s) {r : Fin 8} : Sound free b₀ (s.railReady r) :=
  h.clear.modEng.when fun _ hx => (hx.logC (.none rfl)).failAlert
theorem Sound.showImage (h : Sound free b₀ s) : Sound free b₀ s.showImage :=
  Sound.ite (h.set (.one rfl)).setB ((((h.set (.one rfl)).setB.set (.one rfl)).set (.one rfl)).set (.one rfl))
theorem Sound.parseDone (h : Sound free b₀ s) (hm : free.mirror = true) : Sound free b₀ s.parseDone :=
  Sound.portsTell (Sound.portsAfresh (Sound.withMirror (Sound.journalRequeue (Sound.enter (Sound.onRails
    (((h.showImage.mark.load (.one rfl)).set (.one rfl)).withParts.setB.onPhases fun _ _ hx => hx.phaseReady) fun _ _ hx => hx.railReady)))
        hm))
theorem Sound.configApply (h : Sound free b₀ s) (hm : free.mirror = true) : Sound free b₀ s.configApply := by
  have h0 : Sound free b₀ (if s.par.source = 0 && s.norMode = 3 then s.takeProfile 2 else s) := Sound.ite h.takeProfile h
  unfold State.configApply
  generalize (if s.par.source = 0 && s.norMode = 3 then s.takeProfile 2 else s) = x at h0 ⊢
  have hw (hr : x.regs.Wide) := hr.resetRegs fun f => f.img && f != F.PH_CAL_CAL_GAIN && f != F.PH_CAL_CAL_OFS
  dsimp only
  generalize Machine.resetRegs x.regs _ = m at hw ⊢
  refine Sound.ite h (Sound.ite h0 (Sound.ite (Sound.noConfig (Sound.applyDevice ?_))
    (Sound.parseDone (Sound.advanceSvn (Sound.set (Sound.applyFirmware (Sound.applySteps (Sound.applyDevice ?_))) (.one rfl))) hm)))
  all_goals exact (h0.withRegs hw).withParts

end Sys2Proof.Machine
end

section
namespace Sys2Proof.Machine

/-! ## Every command -/

/-- The commands that write the journal's memory: the commits, their deferral, a transfer of ownership. -/
def writesJournal : Instr → Bool
  | .journalCommitStart .. | .journalCommitComplete .. | .journalDeferRetry .. | .transfer .. => true
  | _ => false

/-- The commands that write the mirror beside its round: a comparison, a rewrite, an adoption, the end of PARSE, and the losses that
start both dies over. -/
def writesMirror : Instr → Bool
  | .loopPortFault .. | .heartbeatEchoReceive .. | .coherenceRewrite .. | .controlDieLost .. | .lockstepMismatch .. => true
  | .policyWatchdogExpiry .. | .vaonPowerOnReset .. | .vcoreLoss .. | .wakeEventAccept .. | .resetNAssert .. => true
  | .configApply .. | .adoptionCheck .. => true
  | _ => false

variable {s : State} {j m : Bool}

/-- A command's answer, where it is a next state, is that of an effect that writes the journal's memory and the mirror where it may. -/
def Effect (j m : Bool) (s : State) (o : Host.Outcome State Fault Refusal) : Prop :=
  ∀ u, o = .next u → ∃ t f, run t f s = .next u ∧ ∀ {free : Free} {b x : State}, (j = true → free.journal = true) →
    (m = true → free.mirror = true) → Sound free b x → Sound free b (f x)

theorem run_effect {t : Nat} {f : State → State} (hf : ∀ {free : Free} {b x : State}, (j = true → free.journal = true) →
    (m = true → free.mirror = true) → Sound free b x → Sound free b (f x)) : Effect j m s (run t f s) :=
  fun _ hu => ⟨t, f, hu, hf⟩
theorem testPortInstruction_effect {t : Nat} {i : TapInstr} : Effect j m s (execTestPortInstruction t i s) := by
  unfold execTestPortInstruction
  split
  · exact fun _ hu => Host.Outcome.noConfusion rfl rfl rfl (heq_of_eq hu)
  · exact run_effect fun _ _ h => h.tapInstr

/-- Every command of the table is the run of such an effect. -/
theorem exec_effect (i : Instr) : Effect (writesJournal i) (writesMirror i) s (exec i s) := by
  cases i with unfold exec
  | registerWrite => exact run_effect fun _ _ h => h.hostWrite
  | loopPortDutyWord => exact run_effect fun _ _ h => h.dutyWord
  | loopPortFault => exact run_effect fun _ hm h => h.loopFault (hm rfl)
  | bridgeFrameReceive => exact run_effect fun _ _ h => h.frameIn
  | bridgeResendTimeout => exact run_effect fun _ _ h => h.resend
  | protectionEventReceive => exact run_effect fun _ _ h => h.takeEvent
  | phaseStateAck => exact run_effect fun _ _ h => h.phaseAck
  | bridgeRegisterAnswer => exact run_effect fun _ _ h => h.regAnswer
  | heartbeatSend => exact run_effect fun _ _ h => h.beat
  | heartbeatReceive => exact run_effect fun _ _ h => h.beatIn
  | heartbeatEchoReceive => exact run_effect fun _ hm h => h.echoIn (hm rfl)
  | coherenceRewrite => exact run_effect fun _ hm h => h.rewrite (hm rfl)
  | controlDieLost => exact run_effect fun _ hm h => h.controlLost (hm rfl)
  | frontDieLost => exact run_effect fun _ _ h => h.frontLost
  | missingClock => exact run_effect fun _ _ h => h.clockMissing
  | lockstepMismatch => exact run_effect fun _ hm h => Sound.ite (h.lose (hm rfl)) h
  | policyWatchdogExpiry => exact run_effect fun _ hm h => Sound.ite (h.lose (hm rfl)) h
  | watchdogRestart => exact run_effect fun _ _ h => h.kick
  | regionArbitration => exact run_effect fun _ _ h => h.arbitrate
  | supplyGood => exact run_effect fun _ _ h => h.supplyGood
  | vddioModeSelect => exact run_effect fun _ _ h => h.vddioMode
  | vaonPowerOnReset => exact run_effect fun _ hm h => h.cold (hm rfl)
  | vdd33Loss => exact run_effect fun _ _ h => h.vddLoss
  | vcoreLoss => exact run_effect fun _ hm h => h.vcoreLoss (hm rfl)
  | coreBuckRestart => exact run_effect fun _ _ h => h.buckRestart
  | vddioLoss => exact run_effect fun _ _ h => h.vddioLoss
  | strapRead => exact run_effect fun _ _ h => h.strapRead
  | lfoscStart => exact run_effect fun _ _ h => h.lfoscStart
  | wakeBallRise => exact run_effect fun _ _ h => h.wakeRise
  | wakeBallLow => exact run_effect fun _ _ h => h.wakeLow
  | wakeTimerExpiry => exact run_effect fun _ _ h => h.wakeTimer
  | wakeEventAccept => exact run_effect fun _ hm h => h.wakeAccept (hm rfl)
  | timedWakeLimit => exact run_effect fun _ _ h => h.timedLimit
  | sleepReq => exact run_effect fun _ _ h => h.hostWrite
  | xtalStartTimeout => exact run_effect fun _ _ h => h.xtalTimeout
  | refClockFail => exact run_effect fun _ _ h => h.refFail
  | pllUnlock => exact run_effect fun _ _ h => h.pllUnlock
  | pllRelock => exact run_effect fun _ _ h => h.pllRelock
  | wakeComplete => exact run_effect fun _ _ h => h.wakeDone
  | wakeTimeout => exact run_effect fun _ _ h => h.wakeTimeout
  | resetNAssert => exact run_effect fun _ hm h => h.resetAssert (hm rfl)
  | resetNRelease => exact run_effect fun _ _ h => h.withParts
  | safestopClr => exact run_effect fun _ _ h => h.hostWrite
  | dormantEntry => exact run_effect fun _ _ h => h.goDormant
  | regionEnableOff => exact run_effect fun _ _ h => h.regionOff
  | regionEnableOn => exact run_effect fun _ _ h => Sound.ite h h.withParts
  | norDiscovery => exact run_effect fun _ _ h => Sound.ite h.norDiscovery h.norDiscovery
  | imageHeadersRead => exact run_effect fun _ _ h => h.headersRead
  | imageCopyVerified => exact run_effect fun _ _ h => h.copyRead
  | norReadFail => exact run_effect fun _ _ h => h.norFail
  | norVddioWaitTimeout => exact run_effect fun _ _ h => h.vddioWait
  | configApply => exact run_effect fun _ hm h => h.configApply (hm rfl)
  | railEngineUpdate => exact run_effect fun _ _ h => h.engineUpdate
  | errorSample => exact run_effect fun _ _ h => h.errorSample
  | lsMaxExpiry => exact run_effect fun _ _ h => h.lsMax
  | brakeStart => exact run_effect fun _ _ h => h.brakeStart
  | brakeInhibitEnd => exact run_effect fun _ _ h => h.brakeInhEnd
  | vinSample => exact run_effect fun _ _ h => h.vinSample
  | vinStale => exact run_effect fun _ _ h => h.vinStale
  | feedforwardStaleDerate => exact run_effect fun _ _ h => h.staleDerate
  | compensatorSwap => exact run_effect fun _ _ h => h.compSwap
  | storeWr => exact run_effect fun _ _ h => h.hostWrite
  | iSumRefresh => exact run_effect fun _ _ h => h.refresh
  | phaseCurrentSample => exact run_effect fun _ _ h => h.phaseSample
  | senseRange => exact run_effect fun _ _ h => h.senseRange
  | phasePeriodEnd => exact run_effect fun _ _ h => h.periodEnd
  | phaseFail => exact run_effect fun _ _ h => h.phaseFail
  | failureFollowup => exact run_effect fun _ _ h => h.followup
  | phaseSettled => exact run_effect fun _ _ h => h.phaseSettled
  | shedDwellExpiry => exact run_effect fun _ _ h => h.shedDwell
  | phaseShedComplete => exact run_effect fun _ _ h => h.shedDone
  | deEntry => exact run_effect fun _ _ h => h.deEntry
  | phasePeriodStart => exact run_effect fun _ _ h => h.periodStart
  | forceTri => exact run_effect fun _ _ h => h.hostWrite
  | overrideWrite => exact run_effect fun _ _ h => Sound.ite h.swapBoth h.hostWrite
  | bootstrapRefresh => exact run_effect fun _ _ h => h.bootRefresh
  | tfltFault => exact run_effect fun _ _ h => h.tfltRead
  | peakCurrentTrip => exact run_effect fun _ _ h => h.cut
  | negPeakTrip => exact run_effect fun _ _ h => h.negPeak
  | hiccupEscalation => exact run_effect fun _ _ h => h.escalate
  | hiccupSenRaise => exact run_effect fun _ _ h => h.hiccupSen
  | hiccupRetry => exact run_effect fun _ _ h => h.hiccupRetry
  | retryCntClear => exact run_effect fun _ _ h => h.retryClear
  | tfltLatch => exact run_effect fun _ _ h => h.tfltLatch
  | tfltLatchRelease => exact run_effect fun _ _ h => h.tfltRelease
  | senLeadElapsed => exact run_effect fun _ _ h => h.senLeadDone
  | softStopSenFall => exact run_effect fun _ _ h => h.senFall
  | synciEdge => exact run_effect fun _ _ h => h.syncEdge
  | synciLost => exact run_effect fun _ _ h => h.syncLost
  | railStartTurn => exact run_effect fun _ _ h => h.startTurn
  | rampStart => exact run_effect fun _ _ h => h.rampStart
  | spCmd => exact run_effect fun _ _ h => h.hostWrite
  | spWin => exact run_effect fun _ _ h => h.hostWrite
  | vselCodeAccept => exact run_effect fun _ _ h => h.vselAccept
  | vselInvalid => exact run_effect fun _ _ h => h.vselInvalid
  | aedatFrameGap => exact run_effect fun _ _ h => h.frameGap
  | clkStuck => exact run_effect fun _ _ h => h.clkStuck
  | nop => exact run_effect fun _ _ h => h.frame
  | setv => exact run_effect fun _ _ h => h.frame
  | ctx => exact run_effect fun _ _ h => h.frame
  | hint => exact run_effect fun _ _ h => h.frame
  | unhint => exact run_effect fun _ _ h => h.frame
  | read => exact run_effect fun _ _ h => h.frame
  | waddr => exact run_effect fun _ _ h => h.frame
  | wdata => exact run_effect fun _ _ h => h.frame
  | noteack => exact run_effect fun _ _ h => h.frame
  | preset => exact run_effect fun _ _ h => h.frame
  | readLost => exact run_effect fun _ _ h => h.readLost
  | aedatPortSilent => exact run_effect fun _ _ h => h.portSilent
  | tokenSweep => exact run_effect fun _ _ h => h.sweep
  | hintPhaseRequest => exact run_effect fun _ _ h => h.hintAsk
  | hintRise => exact run_effect fun _ _ h => h.hintRise
  | hintHoldEnd => exact run_effect fun _ _ h => h.hintHoldEnd
  | hintScore => exact run_effect fun _ _ h => h.hintScore
  | earlyMiss => exact run_effect fun _ _ h => h.earlyMiss
  | ctxResetWeight => exact run_effect fun _ _ h => h.hostWrite
  | ctxMute => exact run_effect fun _ _ h => h.hostWrite
  | ctxFlush => exact run_effect fun _ _ h => h.hostWrite
  | railOvervoltage => exact run_effect fun _ _ h => h.overvoltage
  | crowbarEnd => exact run_effect fun _ _ h => h.crowbarEnd
  | railUndervoltage => exact run_effect fun _ _ h => h.undervoltage
  | uvHiccupTimeout => exact run_effect fun _ _ h => h.uvTimeout
  | pgoodRelease => exact run_effect fun _ _ h => h.pgRelease
  | railOvercurrent => exact run_effect fun _ _ h => h.overcurrent
  | phaseWindowStop => exact run_effect fun _ _ h => h.windowStop
  | busOvervoltage => exact run_effect fun _ _ h => h.busOver
  | refinFault => exact run_effect fun _ _ h => h.refinFault
  | refinFaultEnd => exact run_effect fun _ _ h => h.refinEnd
  | senseOpen => exact run_effect fun _ _ h => h.senseOpen
  | frozenFeedbackRequest => exact run_effect fun _ _ h => h.frozenRequest
  | feedbackFrozen => exact run_effect fun _ _ h => h.feedbackFrozen
  | auxSenseImplausible => exact run_effect fun _ _ h => h.auxBad
  | refTrimStep => exact run_effect fun _ _ h => h.trimStep
  | noReferenceVote => exact run_effect fun _ _ h => Sound.ite h.noVoteFault h
  | precheckReferenceVote => exact run_effect fun _ _ h => h.precheckVote
  | prestartTest => exact run_effect fun _ _ h => h.prestart
  | leaseExpiry => exact run_effect fun _ _ h => h.leaseExpiry
  | railClr => exact run_effect fun _ _ h => h.hostWrite
  | faultHoldClear => exact run_effect fun _ _ h => h.hostWrite
  | pronounUpdate => exact run_effect fun _ _ h => h.pronounUpdate
  | caretakerTimeout => exact run_effect fun _ _ h => h.ctTimeout
  | caretakerStopComplete => exact run_effect fun _ _ h => h.ctStopped
  | adoptionCheck => exact run_effect fun _ hm h => h.adoptCheck (hm rfl)
  | railHandover => exact run_effect fun _ _ h => h.handover
  | adoptionHandoverTimeout => exact run_effect fun _ _ h => h.handoverTimeout
  | hkRoundStart => exact run_effect fun _ _ h => h.hkStart
  | hkSlotComplete => exact run_effect fun _ _ h => h.hkSlot (Nat.lt_trans (Fin.isLt _) (by decide))
  | hkDemandRequest => exact run_effect fun _ _ h => h.hkDemand
  | selfCheckFail => exact run_effect fun _ _ h => h.selfFail
  | sensorFailed => exact run_effect fun _ _ h => h.sensorFail (Fin.isLt _)
  | tfltScan => exact run_effect fun _ _ h => h.tfltScan
  | pkgTshutStrobe => exact run_effect fun _ _ h => h.tshut
  | packCapture => exact run_effect fun _ _ h => h.capture
  | coulombCounterUpdate => exact run_effect fun _ _ h => h.coulomb
  | chargerInputCheck => exact run_effect fun _ _ h => h.chgInput
  | chargerRetry => exact run_effect fun _ _ h => h.chgRetry
  | chargeTermination => exact run_effect fun _ _ h => h.chgTerm
  | chargerRecharge => exact run_effect fun _ _ h => h.chgAgain
  | chargerPreTimeout => exact run_effect fun _ _ h => h.chgPreOver
  | chargerTimerExpiry => exact run_effect fun _ _ h => h.chgTimerOver
  | chargerOvp => exact run_effect fun _ _ h => h.chgOver
  | pkClr => exact run_effect fun _ _ h => h.hostWrite
  | insertionHoldEnd => exact run_effect fun _ _ h => h.insHoldEnd
  | inputLoss => exact run_effect fun _ _ h => h.inputLoss
  | busGood => exact run_effect fun _ _ h => h.busGoodAgain
  | packOvercurrent => exact run_effect fun _ _ h => Sound.ite h.huTrip h
  | packReverseCurrent => exact run_effect fun _ _ h => Sound.ite h.probeStart h
  | holdupProbe => exact run_effect fun _ _ h => h.probeDue
  | probeEnd => exact run_effect fun _ _ h => h.probeEnd
  | holdupTimeLimit => exact run_effect fun _ _ h => h.holdupOver
  | recoveryRestEnd => exact run_effect fun _ _ h => h.restEnd
  | pkTest => exact run_effect fun _ _ h => h.packTest
  | packTestRestEnd => exact run_effect fun _ _ h => h.testRested
  | packTestMeasure => exact run_effect fun _ _ h => h.testMeasure
  | packTestRetry => exact run_effect fun _ _ h => h.testAgain
  | learnTimeout => exact run_effect fun _ _ h => Sound.ite h.lrnDisq h
  | packRecordHourly => exact run_effect fun _ _ h => h.recordHourly
  | hello => exact run_effect fun _ _ h => h.hello
  | auth => exact run_effect fun _ _ h => h.auth
  | sessionHandshakeTimeout => exact run_effect fun _ _ h => h.handshakeTimeout
  | sessionRead => exact run_effect fun _ _ h => h.sessionRun fun _ _ _ hx => hx.sessRead
  | sessionWrite => exact run_effect fun _ _ h => h.sessionRun fun _ _ _ hx => hx.sessWrite
  | close => exact run_effect fun _ _ h => h.sessionRun fun _ _ _ hx => hx.sessClose
  | service => exact run_effect fun _ _ h => h.sessionRun fun _ _ _ hx => hx.sessService
  | tapUnlock => exact run_effect fun _ _ h => h.sessionRun fun _ _ _ hx => hx.sessTap
  | clrHealth => exact run_effect fun _ _ h => h.sessionRun fun _ _ _ hx => hx.sessHealth
  | addKey => exact run_effect fun _ _ h => h.sessionRun fun _ _ _ hx => hx.keyRun keyAdd_gains fun _ _ hy => hy.noAfter
  | transfer => exact run_effect fun hj _ h => h.sessionRun fun _ _ _ hx => hx.keyRun (keyTransfer_gains _) fun _ _ hy => hy.eraseEvents (hj rfl)
  | retireKey => exact run_effect fun _ _ h => h.sessionRun fun _ _ _ hx => hx.sessRetire
  | addIek => exact run_effect fun _ _ h => h.sessionRun fun _ _ _ hx => hx.keyRun (keyAddIek_gains _) fun _ _ hy => hy.noAfter
  | retireIek => exact run_effect fun _ _ h => h.sessionRun fun _ _ _ hx => hx.keyRun (keyRetireIek_gains _) fun _ _ hy => hy.noAfter
  | tapDisable => exact run_effect fun _ _ h => h.sessionRun fun _ _ _ hx => hx.keyRun keyTapDis_gains fun _ _ hy => hy.noAfter
  | decommission => exact run_effect fun _ _ h => h.sessionRun fun _ _ _ hx => hx.keyRun keyDeco_gains fun _ _ hy => hy.noAfter
  | abort => exact run_effect fun _ _ h => h.hostWrite
  | sessionMboxPush => exact run_effect fun _ _ h => h.hostWrite
  | sessionMboxPop => exact run_effect fun _ _ h => h.hostRead
  | sessionIdleTimeout => exact run_effect fun _ _ h => h.sessIdle
  | sessionLifetimeExpiry => exact run_effect fun _ _ h => h.sessLife
  | lockoutEnd => exact run_effect fun _ _ h => h.lockoutEnd
  | loadConsent => exact run_effect fun _ _ h => h.hostWrite
  | consentExpiry => exact run_effect fun _ _ h => h.consentEnd
  | telemetryWindowEnd => exact run_effect fun _ _ h => h.windowClose
  | recordIntake => exact run_effect fun _ _ h => h.intake
  | recordStore => exact run_effect fun _ _ h => h.recordStore
  | recordRateWindowEnd => exact run_effect fun _ _ h => h.windowEnd
  | recSel => exact run_effect fun _ _ h => h.hostWrite
  | recAutoAdvance => exact run_effect fun _ _ h => h.hostRead
  | clr => exact run_effect fun _ _ h => h.hostWrite
  | clrSticky => exact run_effect fun _ _ h => h.hostWrite
  | journalCommitStart => exact run_effect fun hj _ h => h.jrnEval (hj rfl)
  | journalCommitComplete => exact run_effect fun hj _ h => h.commitDone (hj rfl)
  | journalDeferRetry => exact run_effect fun hj _ h => h.deferRetry (hj rfl)
  | fwJournalRequest => exact run_effect fun _ _ h => h.fwJournal
  | spiNop => exact run_effect fun _ _ h => h.spiRun fun _ hx => hx
  | spiRead => exact run_effect fun _ _ h => Sound.ite (h.spiRun fun _ hx => hx.issueRead) h.spiBad
  | spiWrite => exact run_effect fun _ _ h => Sound.ite (h.spiRun fun _ hx => hx.issueWrite) h.spiBad
  | spiFrameError => exact run_effect fun _ _ h => h.spiError
  | page => exact run_effect fun _ _ h => h.pmbPage
  | operation => exact run_effect fun _ _ h => h.pmbRunRead fun _ hx => hx.pageRead
  | onOffConfig => exact run_effect fun _ _ h => h.pmbConst
  | clearFaults => exact run_effect fun _ _ h => h.pmbRunWrite fun _ _ hx => Sound.ite hx.pmbClear hx.pmbInvalid
  | capability => exact run_effect fun _ _ h => h.pmbConst
  | smbalertMask => exact run_effect fun _ _ h => h.pmbMask
  | voutMode => exact run_effect fun _ _ h => h.pmbConst
  | voutCommand => exact run_effect fun _ _ h => h.pmbVout
  | statusByte => exact run_effect fun _ _ h => h.pmbRail1
  | statusWord => exact run_effect fun _ _ h => h.pmbRail1
  | statusVout => exact run_effect fun _ _ h => h.pmbRail1
  | statusIout => exact run_effect fun _ _ h => h.pmbRail1
  | statusInput => exact run_effect fun _ _ h => h.pmbRail1
  | statusTemperature => exact run_effect fun _ _ h => h.pmbRail1
  | statusCml => exact run_effect fun _ _ h => h.pmbRunRead fun _ hx => hx.pmbOut
  | statusMfrSpecific => exact run_effect fun _ _ h => h.pmbRail1
  | readVin => exact run_effect fun _ _ h => h.pmbRunRead fun _ hx => hx.pmbOut
  | readVout => exact run_effect fun _ _ h => h.pmbRail1
  | readIout => exact run_effect fun _ _ h => h.pmbRail1
  | readTemperature1 => exact run_effect fun _ _ h => h.pmbRail1
  | readTemperature2 => exact run_effect fun _ _ h => h.pmbRunRead fun _ hx => hx.pmbOut
  | readPout => exact run_effect fun _ _ h => h.pmbRail1
  | pmbusRevision => exact run_effect fun _ _ h => h.pmbConst
  | mfrId => exact run_effect fun _ _ h => h.pmbText
  | mfrModel => exact run_effect fun _ _ h => h.pmbText
  | mfrRevision => exact run_effect fun _ _ h => h.pmbText
  | mfrSerial => exact run_effect fun _ _ h => h.pmbText
  | mfrRegAddr => exact run_effect fun _ _ h => h.pmbRunWrite fun _ _ hx => Sound.ite hx.pmbRegAddr hx.pmbInvalid
  | mfrRegData => exact run_effect fun _ _ h => h.pmbRegData
  | mfrRegStatus => exact run_effect fun _ _ h => h.pmbRunRead fun _ hx => hx.pmbOut
  | mfrSessCtrl =>
    exact run_effect fun _ _ h => h.pmbRunBoth (fun _ hx => hx.pmbReg) fun _ _ hx => by
      split
      · exact hx.pmbRegWrite
      · exact hx.pmbInvalid
  | mfrSessStat => exact run_effect fun _ _ h => h.pmbRunRead fun _ hx => hx.pmbReg
  | mfrSessMbox => exact run_effect fun _ _ h => h.pmbMbox
  | mfrRecSel =>
    exact run_effect fun _ _ h => h.pmbRunWrite fun _ _ hx => by
      split
      · exact hx.pmbRegWrite
      · exact hx.pmbInvalid
  | mfrRecData => exact run_effect fun _ _ h => h.pmbRunRead fun _ hx => hx.recWords.pmbOut
  | mfrRecNewest => exact run_effect fun _ _ h => h.pmbRunRead fun _ hx => hx.pmbReg
  | mfrRailState => exact run_effect fun _ _ h => h.pmbRunRead fun _ hx => hx.pmbReg
  | mfrMode => exact run_effect fun _ _ h => h.pmbRunRead fun _ hx => hx.pmbReg
  | mfrPubSel =>
    exact run_effect fun _ _ h => h.pmbRunWrite fun _ _ hx => by
      split
      · exact Sound.ite hx.withParts hx.pmbInvalid
      · exact hx.pmbInvalid
  | mfrPubData => exact run_effect fun _ _ h => h.pmbRunRead fun _ hx => hx.pmbReg
  | pmbusInvalidCommand => exact run_effect fun _ _ h => h.pmbUnknown
  | alertResponse => exact run_effect fun _ _ h => h.alertResponse
  | pmbClr => exact run_effect fun _ _ h => h.hostWrite
  | cjOwnSlotReturn => exact run_effect fun _ _ h => h.ownSlot
  | target => exact run_effect fun _ _ h => h.cjIn fun _ hx => hx.targetIn
  | railinfo => exact run_effect fun _ _ h => h.cjIn fun _ hx => hx.infoIn
  | mstat => exact run_effect fun _ _ h => h.cjIn fun _ hx => hx.mstatIn
  | railev => exact run_effect fun _ _ h => h.cjIn fun _ hx => hx.evIn
  | join => exact run_effect fun _ _ h => h.cjIn fun _ hx => hx.joinIn
  | welcome => exact run_effect fun _ _ h => h.cjIn fun _ hx => hx.welcomeIn
  | ping => exact run_effect fun _ _ h => h.cjIn fun _ hx => hx.pingIn
  | joinRetry => exact run_effect fun _ _ h => h.joinRetry
  | joinTimeout => exact run_effect fun _ _ h => h.joinTimeout
  | leaderLost => exact run_effect fun _ _ h => h.leaderLost
  | islandTimeout => exact run_effect fun _ _ h => h.islandTimeout
  | memberLost => exact run_effect fun _ _ h => h.memberLost
  | ringDown => exact run_effect fun _ _ h => h.ringDown
  | aedatPadSupplyLoss => exact run_effect fun _ _ h => h.padLoss
  | chargerSwitchingPeriod => exact run_effect fun _ _ h => h.chgPeriod
  | targetSlotSend => exact run_effect fun _ _ h => h.targetSend
  | aedatReservedTypeFrame => exact run_effect fun _ _ h => h.rawFrame
  | testPortInstruction => exact testPortInstruction_effect
theorem exec_next_sound {i : Instr} {u : State} (hu : exec i s = .next u) : Sound ⟨writesJournal i, true⟩ s u := by
  obtain ⟨t, f, hrun, hf⟩ := exec_effect i u hu
  have h : Sound ⟨writesJournal i, true⟩ s (settle (s.at t) (f (s.at t))) := (hf id (fun _ => rfl) (Sound.refl s).at).settle rfl
  unfold run at hrun
  generalize settle (s.at t) (f (s.at t)) = x at h hrun
  obtain rfl := Host.Outcome.next.inj hrun
  exact h.withParts

/-! ## Thermometer items (R407) -/

theorem thermo_of_highest {n i : Nat} (hi : n.testBit i = true) (hj : ∀ j, i < j → n.testBit j = false) : thermo n = i + 1 := by
  have hn : n ≠ 0 := fun h => by
    rw [h, Nat.zero_testBit] at hi
    cases hi
  have hle : n.log2 ≤ i := by
    by_contra hlt
    have := hj _ (not_le.1 hlt)
    rw [Nat.testBit_log2 hn] at this
    cases this
  have hge : i ≤ n.log2 := (Nat.le_log2 hn).2 (Nat.ge_two_pow_of_testBit hi)
  unfold thermo
  rw [if_neg hn, Nat.le_antisymm hle hge]
/-- More bits do not lower the value. -/
theorem thermo_le_of_bits {n m : Nat} (h : ∀ i, n.testBit i = true → m.testBit i = true) : thermo n ≤ thermo m := by
  unfold thermo
  split
  · exact Nat.zero_le _
  · next hn =>
    have hbit := h _ (Nat.testBit_log2 hn)
    have hm : m ≠ 0 := fun h0 => by
      rw [h0, Nat.zero_testBit] at hbit
      cases hbit
    rw [if_neg hm]
    exact Nat.succ_le_succ ((Nat.le_log2 hm).2 (Nat.ge_two_pow_of_testBit hbit))

end Sys2Proof.Machine

open Sys2Proof Sys2Proof.Machine

/-- Settles O7: every command stays in the relation `Sound`. -/
theorem otpOnlyGains : Obligations.OtpOnlyGains := by
  intro c s u hu
  exact (exec_next_sound hu).otp

/-- Settles O8: the highest bit is `Nat.log2`, and commands only gain bits. -/
theorem thermometerItems : Obligations.ThermometerItems := by
  refine ⟨fun n i hi hj => thermo_of_highest hi hj, rfl, fun n m => thermo_le_of_bits fun i hi => ?_, fun c s u hu => ?_⟩
  · rw [Nat.testBit_lor, hi, Bool.true_or]
  · have h := (exec_next_sound hu).otp
    exact ⟨thermo_le_of_bits h.own, thermo_le_of_bits h.rb⟩

/-- Settles O14: every other command keeps the journal's memory. -/
theorem journalStoreWriters : Obligations.JournalStoreWriters := by
  intro c s u hu hne
  have hw : writesJournal c = true := (exec_next_sound hu).mram.resolve_right hne
  unfold writesJournal at hw
  split at hw
  · exact .inl ⟨_, _, rfl⟩
  · exact .inr (.inl ⟨_, _, _, rfl⟩)
  · exact .inr (.inr (.inl ⟨_, _, rfl⟩))
  · exact .inr (.inr (.inr ⟨_, rfl⟩))
  · cases hw

/-- Settles O5: a step is the front command, and each command keeps the widths. -/
theorem stepsKeepRegistersInWidth : Obligations.StepsKeepRegistersInWidth := by
  intro s u hs hu
  unfold step at hu
  split at hu
  · exact Host.Outcome.next.inj hu ▸ hs
  · exact (exec_next_sound hu).wide hs

end



section
/-!
O58: what a command on the charger, the pack and the hold-up may change. `Within` is the frame of such a command, closed under the
operations of the model that it uses; what the end of an update may write is always allowed (`Framed`).
-/
namespace Sys2Proof.Machine

/-- Beside the pack, what a command may change: the power part, the journal, the temperature inputs, and the register fields listed. -/
structure Room where
  pow : Bool
  jrn : Bool
  th : Bool
  fs : List Fld

/-- From `b` to `s` nothing changed but the pack, the room given and what the end of an update may write. -/
structure Within (w : Room) (b s : State) : Prop where
  rest : s.rest = { b.rest with pk := s.pk.rest, jrn := s.jrn, pow := s.rest.pow, th := s.th }
  pow : w.pow = true ∨ s.rest.pow = b.rest.pow
  jrn : w.jrn = true ∨ s.jrn = b.jrn
  th : w.th = true ∨ s.th = b.th
  regs : ∀ k, w.fs.any (fun f => f.hasKey k) = false → settleKey k = false → s.regs.get k = b.regs.get k
  calm : s.pow.wantSafestopClr = b.pow.wantSafestopClr

variable {w : Room} {b s : State}

theorem Within.refl (s : State) : Within w s s := ⟨rfl, .inr rfl, .inr rfl, .inr rfl, fun _ _ _ => rfl, rfl⟩
/-- What the end of an update may write is always allowed. -/
theorem Within.framed {x : State} (h : Within w b s) (hx : Framed s x) : Within w b x := by
  refine ⟨?_, h.pow.imp id ?_, h.jrn.imp id hx.jrn.trans, h.th.imp id hx.th.trans, fun k hk hs => (hx.regs k hs).trans (h.regs k hk hs),
    hx.calm.trans h.calm⟩
  · show x.rest = { b.rest with pk := x.rest.pk, jrn := x.rest.jrn, pow := x.rest.pow, th := x.rest.th }
    rw [hx.rest]
    exact h.rest
  · rw [hx.rest]
    exact id
theorem Within.modPk (h : Within w b s) {f : Pack → Pack} : Within w b (s.modPk f) :=
  ⟨congrArg (fun x : State => { x with pk := (f s.pk).rest }) h.rest, h.pow, h.jrn, h.th, h.regs, h.calm⟩
theorem Within.withJrn (h : Within w b s) (hw : w.jrn = true) {j : Journal} : Within w b { s with jrn := j } :=
  ⟨congrArg (fun x : State => { x with jrn := j }) h.rest, h.pow, .inl hw, h.th, h.regs, h.calm⟩
theorem Within.withTh (h : Within w b s) (hw : w.th = true) {t : Thermal} : Within w b { s with th := t } :=
  ⟨congrArg (fun x : State => { x with th := t }) h.rest, h.pow, h.jrn, .inl hw, h.regs, h.calm⟩
theorem Within.noArm (h : Within w b s) (hw : w.pow = true) {a : Bool} : Within w b { s with pow.noArm := a } :=
  ⟨congrArg (fun x : State => { x with pow := { x.pow with noArm := a } }) h.rest, .inl hw, h.jrn, h.th, h.regs, h.calm⟩
/-- A field of the room, of one instance. -/
theorem Within.set (h : Within w b s) {f : Fld} {v : Nat} (hf : f ∈ w.fs) (hk : f.hasKey (f.key 0) = true) : Within w b (s.set f 0 v) := by
  refine ⟨h.rest, h.pow, h.jrn, h.th, fun k hk' hs => (Store.get_set_of_ne _ _ ?_).trans (h.regs k hk' hs), h.calm⟩
  rintro rfl
  rw [List.any_eq_true.2 ⟨f, hf, hk⟩] at hk'
  cases hk'
theorem Within.logC (h : Within w b s) {code unit : Nat} {items : List (Nat × Int)} (hc : pageOk code unit = true) :
    Within w b (s.logC code unit items) := h.framed (State.logC_only _ _ hc)
theorem Within.ite {c : Prop} {d : Decidable c} {x y : State} (hx : Within w b x) (hy : Within w b y) : Within w b (@ite _ c d x y) := by
  split <;> assumption
theorem Within.when (h : Within w b s) {c : Bool} {f : State → State} (hf : ∀ x, Within w b x → Within w b (f x)) :
    Within w b (s.when c f) := .ite (hf _ h) h
theorem Within.setChg (h : Within w b s) {k : Nat} : Within w b (s.setChg k) := h.framed (State.setChg_framed k (.refl _))
theorem Within.setGate (h : Within w b s) {g : Bool} : Within w b (s.setGate g) := h.framed (State.setGate_framed g (.refl _))
theorem Within.testAbort (h : Within w b s) : Within w b s.testAbort := h.framed (State.testAbort_framed (.refl _))

/-- A command whose effect stays within the room does so with the end of its update. -/
theorem run_keepsWithin {t : Nat} {f : State → State} {u : State} (hc : s.Calm) (hf : ∀ x, Within w s x → Within w s (f x))
    (hu : run t f s = .next u) : Within w s u := by
  have hx : Within w s (f (s.at t)) := hf _ ⟨rfl, .inr rfl, .inr rfl, .inr rfl, fun _ _ _ => rfl, rfl⟩
  obtain ⟨v, hv, hframe, -, -⟩ := run_next t f s (hx.calm.trans hc)
  obtain rfl : v = u := Host.Outcome.next.inj (hv.symm.trans hu)
  exact hx.framed hframe
/-- The frame as the statement writes it. -/
theorem Within.changes {u : State} {ps : List Part} {p : Bool} (h : Within w s u)
    (hp : (State.puts u s ps).rest = { s.rest with
      phases := if p then u.rest.phases else s.rest.phases, pk := u.pk.rest, pow := if w.pow then u.rest.pow else s.rest.pow
      jrn := if w.jrn then u.jrn else s.jrn, th := if w.th then u.th else s.th }) : Changes ps w.fs s u := by
  have hphases : u.rest.phases = s.rest.phases := by
    have := congrArg State.phases h.rest
    exact this
  have hpow : (if w.pow then u.rest.pow else s.rest.pow) = u.rest.pow := by
    split
    · rfl
    · next hw => exact (h.pow.resolve_left hw).symm
  have hjrn : (if w.jrn then u.jrn else s.jrn) = u.jrn := by
    split
    · rfl
    · next hw => exact (h.jrn.resolve_left hw).symm
  have hth : (if w.th then u.th else s.th) = u.th := by
    split
    · rfl
    · next hw => exact (h.th.resolve_left hw).symm
  have hsame : (if p then u.rest.phases else s.rest.phases) = s.rest.phases := by
    rw [hphases, ite_self]
  refine ⟨?_, h.regs⟩
  rw [hp, hpow, hjrn, hth, hsame]
  exact h.rest

/-! ## The account of the pack (R374, R377 to R379, R385) -/

def gaugeFields : List Fld := [F.PK_QREM_QREM, F.PK_SOC_ASOC, F.PK_STATE_FULL]
theorem Within.gauge (h : Within w b s) (hw : gaugeFields ⊆ w.fs) : Within w b s.gauge :=
  Within.when ((h.set (hw (by decide)) rfl).set (hw (by decide)) rfl) fun _ hx => hx.set (hw (by decide)) rfl
theorem Within.setQrem (h : Within w b s) (hw : gaugeFields ⊆ w.fs) {q : Nat} : Within w b (s.setQrem q) := h.modPk.gauge hw
theorem Within.rsocJump (h : Within w b s) (hw : F.PK_SOC_RSOC ∈ w.fs) : Within w b s.rsocJump := (h.set hw rfl).modPk
theorem Within.rsocStep (h : Within w b s) (hw : F.PK_SOC_RSOC ∈ w.fs) {e : Bool} : Within w b (s.rsocStep e) :=
  .ite (h.set hw rfl) (h.set hw rfl).modPk
theorem Within.compVolt (h : Within w b s) (hw : F.PK_VOLT_V_COMP ∈ w.fs) : Within w b s.compVolt := by
  unfold State.compVolt
  exact (h.set hw rfl).modPk
theorem Within.queuePack (h : Within w b s) (hj : w.jrn = true) : Within w b s.queuePack := h.modPk.withJrn hj
def wearFields : List Fld := [F.PK_LIFE_SOH, F.PK_STATE_EOL, F.PK_STICKY_EOL_S]
theorem Within.wear (h : Within w b s) (hw : wearFields ⊆ w.fs) : Within w b s.wear := by
  have hsoh {v : Nat} : Within w b (s.set F.PK_LIFE_SOH 0 v) := h.set (hw (by decide)) rfl
  have htold {v : Nat} : Within w b (((s.set F.PK_LIFE_SOH 0 v).mark F.PK_STATE_EOL).mark F.PK_STICKY_EOL_S) :=
    (hsoh.set (hw (by decide)) rfl).set (hw (by decide)) rfl
  exact .ite (.ite htold (htold.modPk.logC rfl)) (hsoh.set (hw (by decide)) rfl)
theorem Within.disAccount (h : Within w b s) (hw : F.PK_CAP_CYC_CNT ∈ w.fs) : Within w b s.disAccount :=
  h.modPk.when fun _ hx => hx.set hw rfl

/-! ## Learning and open-circuit voltage (R380, R386 to R388) -/

def disqFields : List Fld := [F.PK_STATE_LRN_OPEN, F.PK_STATE_DISQ, F.PK_STICKY_LRN_DQ_S]
theorem Within.lrnDisq (h : Within w b s) (hw : disqFields ⊆ w.fs) (hj : w.jrn = true) {c : Nat} : Within w b (s.lrnDisq c) :=
  .ite (Within.queuePack (Within.logC (((h.set (hw (by decide)) rfl).set (hw (by decide)) rfl).set (hw (by decide)) rfl) rfl) hj) h
def pointFields : List Fld := gaugeFields ++ wearFields ++ disqFields ++ [F.PK_CAP_FCC, F.PK_STICKY_LRN_OK_S]
theorem Within.lrnPoint (h : Within w b s) (hw : pointFields ⊆ w.fs) (hj : w.jrn = true) {a : Nat} {c : Bool} : Within w b
    (s.lrnPoint a c) := by
  have hdisq : disqFields ⊆ w.fs := List.Subset.trans (by decide : disqFields ⊆ pointFields) hw
  have hgauge : gaugeFields ⊆ w.fs := List.Subset.trans (by decide : gaugeFields ⊆ pointFields) hw
  have hwear : wearFields ⊆ w.fs := List.Subset.trans (by decide : wearFields ⊆ pointFields) hw
  have hopen {x : State} (hx : Within w b x) : Within w b (x.lrnOpen a) := (hx.set (hw (by decide)) rfl).modPk
  refine hopen (.ite (.ite (h.lrnDisq hdisq hj) (.ite (h.lrnDisq hdisq hj) ?_)) h)
  have hset {v : Nat} : Within w b ((s.set F.PK_CAP_FCC 0 v).mark F.PK_STICKY_LRN_OK_S) := (h.set (hw (by decide)) rfl).set (hw
      (by decide)) rfl
  exact (((hset.setQrem hgauge).logC rfl).wear hwear).queuePack hj
theorem Within.lrnCheck (h : Within w b s) (hw : disqFields ⊆ w.fs) (hj : w.jrn = true) {n : Nat} : Within w b (s.lrnCheck n) :=
  .ite h (.ite (h.lrnDisq hw hj) (.ite (h.lrnDisq hw hj) (.ite (.ite (h.lrnDisq hw hj) h.modPk) h)))
def ocvFields : List Fld := pointFields ++ [F.PK_STATE_COARSE, F.PK_STICKY_OCV_S, F.PK_SOC_RSOC]
theorem Within.ocvApply (h : Within w b s) (hw : ocvFields ⊆ w.fs) (hj : w.jrn = true) {p : Nat} : Within w b (s.ocvApply p) := by
  have hgauge : gaugeFields ⊆ w.fs := List.Subset.trans (by decide : gaugeFields ⊆ ocvFields) hw
  have hpoint : pointFields ⊆ w.fs := List.Subset.trans (by decide : pointFields ⊆ ocvFields) hw
  unfold State.ocvApply
  refine .ite h ?_
  have hset {q : Nat} : Within w b (((s.setQrem q).clear F.PK_STATE_COARSE).mark F.PK_STICKY_OCV_S) :=
    ((h.setQrem hgauge).set (hw (by decide)) rfl).set (hw (by decide)) rfl
  exact (((hset.logC rfl).rsocJump (hw (by decide))).lrnPoint hpoint hj).queuePack hj

/-! ## Insertion and removal (R363, R381, R382) -/

def insertFields : List Fld := disqFields ++ [F.PK_STATE_PACK_DEAD, F.PK_STATE_CHG_FLT]
theorem Within.inserted (h : Within w b s) (hw : insertFields ⊆ w.fs) (hj : w.jrn = true) : Within w b s.inserted := by
  have hdisq : disqFields ⊆ w.fs := List.Subset.trans (by decide : disqFields ⊆ insertFields) hw
  exact Within.queuePack (Within.modPk (Within.when ((h.lrnDisq hdisq hj).set (hw (by decide)) rfl)
    fun _ hx => hx.setChg.set (hw (by decide)) rfl)) hj
def removeFields : List Fld := disqFields ++ [F.PK_STATE_HU_ARM]
theorem Within.removed (h : Within w b s) (hw : removeFields ⊆ w.fs) (hj : w.jrn = true) : Within w b s.removed := by
  have hdisq : disqFields ⊆ w.fs := List.Subset.trans (by decide : disqFields ⊆ removeFields) hw
  exact Within.queuePack (Within.lrnDisq (Within.logC (h.testAbort.setChg.set (hw (by decide)) rfl) rfl) hdisq hj) hj
def newFields : List Fld := wearFields ++ [F.PK_CAP_FCC, F.PK_CAP_CYC_CNT, F.PK_LIFE_RFACT]
theorem Within.newPack (h : Within w b s) (hw : newFields ⊆ w.fs) : Within w b s.newPack :=
  Within.wear (Within.modPk (((h.set (hw (by decide)) rfl).set (hw (by decide)) rfl).set (hw (by decide)) rfl))
    (List.Subset.trans (by decide : wearFields ⊆ newFields) hw)
def firstFields : List Fld := gaugeFields ++ [F.PK_STATE_COARSE, F.PK_SOC_RSOC]
theorem Within.firstEstimate (h : Within w b s) (hw : firstFields ⊆ w.fs) (hj : w.jrn = true) : Within w b s.firstEstimate := by
  have hgauge : gaugeFields ⊆ w.fs := List.Subset.trans (by decide : gaugeFields ⊆ firstFields) hw
  exact Within.queuePack (Within.rsocJump (Within.logC ((h.modPk.setQrem hgauge).set (hw (by decide)) rfl) rfl) (hw (by decide))) hj
def startFields : List Fld := ocvFields ++ insertFields ++ newFields
theorem Within.packStart (h : Within w b s) (hw : startFields ⊆ w.fs) (hj : w.jrn = true) : Within w b s.packStart := by
  have hinsert : insertFields ⊆ w.fs := List.Subset.trans (by decide : insertFields ⊆ startFields) hw
  have hgauge : gaugeFields ⊆ w.fs := List.Subset.trans (by decide : gaugeFields ⊆ startFields) hw
  have hwear : wearFields ⊆ w.fs := List.Subset.trans (by decide : wearFields ⊆ startFields) hw
  have hocv : ocvFields ⊆ w.fs := List.Subset.trans (by decide : ocvFields ⊆ startFields) hw
  unfold State.packStart
  split
  · exact h.inserted hinsert hj
  · extract_lets u fl record flags same taken known
    have hrecord : Within w b record := ((h.set (hw (by decide)) rfl).set (hw (by decide)) rfl).set (hw (by decide)) rfl
    have hflags : Within w b flags :=
      ((((hrecord.set (hw (by decide)) rfl).set (hw (by decide)) rfl).set (hw (by decide)) rfl).set (hw (by decide)) rfl).set (hw
          (by decide)) rfl
    have hknown : Within w b known := Within.wear (Within.gauge hflags.modPk hgauge) hwear
    exact .ite hknown (.ite (.ite (hknown.inserted hinsert hj) (hknown.ocvApply hocv hj)) hknown)
def presenceFields : List Fld := startFields ++ removeFields ++ [F.PK_STATE_PRESENT]
theorem Within.presence (h : Within w b s) (hw : presenceFields ⊆ w.fs) (hj : w.jrn = true) : Within w b s.presence := by
  have hinsert : insertFields ⊆ w.fs := List.Subset.trans (by decide : insertFields ⊆ presenceFields) hw
  have hstart : startFields ⊆ w.fs := List.Subset.trans (by decide : startFields ⊆ presenceFields) hw
  have hremove : removeFields ⊆ w.fs := List.Subset.trans (by decide : removeFields ⊆ presenceFields) hw
  have hmark {x : State} (hx : Within w b x) : Within w b (x.mark F.PK_STATE_PRESENT) := hx.set (hw (by decide)) rfl
  have hclear {x : State} (hx : Within w b x) : Within w b (x.clear F.PK_STATE_PRESENT) := hx.set (hw (by decide)) rfl
  exact .ite (.ite ((hmark h.modPk).inserted hinsert hj) ((hmark h.modPk).modPk.packStart hstart hj))
    (.ite ((hclear h.modPk).removed hremove hj) h.modPk)

/-! ## The charger (R364 to R367, R383) -/

def faultFields : List Fld := [F.PK_STATE_CHG_FLT, F.PK_STICKY_CHG_FLT_S]
theorem Within.chgFault (h : Within w b s) (hw : faultFields ⊆ w.fs) {c : Nat} : Within w b (s.chgFault c) :=
  Within.logC ((h.setChg.set (hw (by decide)) rfl).set (hw (by decide)) rfl) rfl
def doneFields : List Fld := pointFields ++ [F.PK_STATE_COARSE, F.PK_SOC_RSOC]
theorem Within.chgDone (h : Within w b s) (hw : doneFields ⊆ w.fs) (hj : w.jrn = true) : Within w b s.chgDone := by
  have hgauge : gaugeFields ⊆ w.fs := List.Subset.trans (by decide : gaugeFields ⊆ doneFields) hw
  have hpoint : pointFields ⊆ w.fs := List.Subset.trans (by decide : pointFields ⊆ doneFields) hw
  have hfull : Within w b (((s.setChg 5).mark F.PK_STATE_FULL).clear F.PK_STATE_COARSE) :=
    (h.setChg.set (hw (by decide)) rfl).set (hw (by decide)) rfl
  exact Within.queuePack (Within.lrnPoint (Within.rsocJump (Within.logC ((hfull.setQrem hgauge).set (hw (by decide)) rfl) rfl)
    (hw (by decide))) hpoint hj) hj
theorem Within.chgInLost (h : Within w b s) (hw : F.PK_STATE_CHG_IN ∈ w.fs) : Within w b s.chgInLost := (h.set hw rfl).setChg.modPk
theorem Within.chgInput (h : Within w b s) (hw : F.PK_STATE_CHG_IN ∈ w.fs) {a : Nat} : Within w b (s.chgInput a) :=
  .ite (.ite (.ite (h.set hw rfl).modPk.setChg (h.set hw rfl).modPk.setChg) (h.set hw rfl).modPk) h
theorem Within.chgPeriod (h : Within w b s) (hw : F.PK_STATE_CHG_IN ∈ w.fs) {v d : Nat} : Within w b (s.chgPeriod v d) :=
  .ite h (.ite ((h.chgInLost hw).logC rfl) (.ite (h.modPk.chgInLost hw) (.ite h.modPk.setChg h.modPk)))

/-! ## The end of a discharge, probes and the input (R368 to R375) -/

def eodFields : List Fld := [F.PK_STATE_EOD_CAUSE, F.PK_STICKY_EOD_S]
theorem stopInOrder_framed {m : Nat} : Framed s (s.stopInOrder m) := ⟨rfl, fun _ _ => rfl, List.prefix_rfl⟩
theorem Within.eod (h : Within w b s) (hw : eodFields ⊆ w.fs) (hj : w.jrn = true) (hp : w.pow = true) {c : Nat} : Within w b (s.eod c) := by
  have hstop {x : State} (hx : Within w b x) : Within w b ((x.onRails State.disarm).stopInOrder 255) :=
    (hx.framed (Framed.onRails (.refl _) _ fun _ r hy => State.disarm_framed r hy)).framed stopInOrder_framed
  have hset : Within w b ((s.set F.PK_STATE_EOD_CAUSE 0 c).mark F.PK_STICKY_EOD_S) := (h.set (hw (by decide)) rfl).set (hw (by decide)) rfl
  exact .ite h (Within.queuePack (Within.when ((hset.logC rfl).noArm hp) fun _ hx => hstop hx) hj)
theorem Within.huTrip (h : Within w b s) (hw : eodFields ⊆ w.fs) (hj : w.jrn = true) (hp : w.pow = true) {c : Nat} : Within w b
    (s.huTrip c) := by
  refine Within.eod (Within.setGate (h.framed (Framed.onRails (.refl _) _ fun x r hx => ?_))) hw hj hp
  have hstop : Framed s ((x.fastStop r).railOff r) := State.railOff_framed r (State.fastStop_framed r hx)
  split
  case h_8 => exact hx
  all_goals exact hstop
theorem Within.probeFail (h : Within w b s) (hw : F.PK_STICKY_PROBE_FAIL_S ∈ w.fs) {d : Nat} : Within w b (s.probeFail d) :=
  (h.setGate.modPk.set hw rfl).logC rfl
theorem Within.probeStart (h : Within w b s) (hw : F.PK_STICKY_PROBE_FAIL_S ∈ w.fs) {v : Nat} {r : Bool} : Within w b (s.probeStart v r) :=
  h.setGate.modPk.when fun _ hx => hx.probeFail hw
theorem Within.restored (h : Within w b s) (hw : F.PK_STICKY_RESTORE_S ∈ w.fs) (hj : w.jrn = true) (hp : w.pow = true) : Within w b
    s.restored := by
  unfold State.restored
  extract_lets drawn told gated power armed ended queued
  have htold : Within w b told := h.logC rfl
  have hgated : Within w b gated := htold.setGate.set hw rfl
  have hqueued : Within w b queued := (hgated.noArm hp).modPk.queuePack hj
  exact .ite (hqueued.framed (State.enter_framed 13 _ (.refl _))) hqueued
def lossFields : List Fld := eodFields ++ [F.PK_STICKY_HU_S]
theorem Within.lossDeclared (h : Within w b s) (hw : lossFields ⊆ w.fs) (hj : w.jrn = true) (hp : w.pow = true) : Within w b s.lossDeclared
    := by
  have heod : eodFields ⊆ w.fs := List.Subset.trans (by decide : eodFields ⊆ lossFields) hw
  have hround : Within w b (s.modPk fun p => { p with inLost := true }).chargerRound := h.modPk.framed (State.chargerRound_framed (.refl _))
  have hheld {a : Bool} {m : Mode} {f : Pack → Pack} {i : List (Nat × Int)} : Within w b (((((s.modPk fun p => { p with inLost := true
      }).chargerRound.setGate a).modPk f).enter 12 m).mark F.PK_STICKY_HU_S |>.logC 0x0D01 0 i) :=
    ((hround.setGate.modPk.framed (State.enter_framed 12 _ (.refl _))).set (hw (by decide)) rfl).logC rfl
  unfold State.lossDeclared
  dsimp only
  refine .ite hround ?_
  split
  case h_5 | h_6 => exact Within.when hround.setGate.modPk fun _ hx => hx.huTrip heod hj hp
  case h_7 => exact hround
  all_goals exact Within.when (hheld.queuePack hj) fun _ hx => hx.huTrip heod hj hp

end Sys2Proof.Machine
end

section
namespace Sys2Proof.Machine

variable {w : Room} {b s : State}

/-! ## A capture (R363, R372, R374, R376) -/

def batFields : List Fld :=
  [F.TEMP_PACK_HI_TEMP, F.TEMP_PACK_HI_STALE, F.TEMP_PACK_HI_FAILED, F.THERM_STATUS_CHG_OK]
/-- A reading of BAT_T, sensor 14 (R347, R356). -/
theorem Within.batReading (h : Within w b s) (hw : batFields ⊆ w.fs) (ht : w.th = true) {v : Option Int} : Within w b (s.reading 14 v) := by
  have hwindow {x : State} (hx : Within w b x) : Within w b (x.windowsOf 14) := (hx.withTh ht).set (hw (by decide)) rfl
  have hstale {x : State} (hx : Within w b x) : Within w b (x.mark (sensReg 14).stale (sensReg 14).i) := hx.set (hw (by decide)) rfl
  unfold State.reading
  dsimp only
  split
  · exact hwindow ((h.withTh ht).when fun _ hx => hstale hx)
  · have htemp {t : Int} : Within w b (s.putTemp (sensReg 14) (some t)) :=
      ((h.set (hw (by decide)) rfl).set (hw (by decide)) rfl).set (hw (by decide)) rfl
    exact .ite (h.withTh ht) (hwindow ((htemp.withTh ht).when fun _ hx => hx.framed (State.logF_only _ _ _ rfl)))
def measureFields : List Fld := batFields ++ [F.PK_VOLT_BAT_V, F.PK_CUR_BAT_I]
theorem Within.capMeasure (h : Within w b s) (hw : measureFields ⊆ w.fs) (ht : w.th = true) {v rho : Nat} {i : Int} :
    Within w b (s.capMeasure v i rho) := by
  have hbat : batFields ⊆ w.fs := List.Subset.trans (by decide : batFields ⊆ measureFields) hw
  unfold State.capMeasure
  extract_lets bad taken
  have htaken : Within w b taken := by
    unfold taken
    split
    · exact h.batReading hbat ht
    · exact h
  exact .ite htaken (Within.modPk ((htaken.set (hw (by decide)) rfl).set (hw (by decide)) rfl))
theorem Within.floorCheck (h : Within w b s) (hw : eodFields ⊆ w.fs) (hj : w.jrn = true) (hp : w.pow = true) : Within w b s.floorCheck := by
  unfold State.floorCheck
  exact Within.when h.modPk fun _ hx => hx.huTrip hw hj hp
theorem Within.eodCheck (h : Within w b s) (hw : eodFields ⊆ w.fs) (hj : w.jrn = true) (hp : w.pow = true) : Within w b s.eodCheck :=
  .ite h.modPk (.ite (h.modPk.eod hw hj hp) (.ite (h.modPk.eod hw hj hp) (.ite (h.modPk.eod hw hj hp) h.modPk)))
def estimateFields : List Fld := gaugeFields ++ [F.PK_VOLT_V_COMP, F.PK_SOC_RSOC, F.PK_STATE_HU_ARM]
theorem Within.packEstimate (h : Within w b s) (hw : estimateFields ⊆ w.fs) (hj : w.jrn = true) {e : Bool} : Within w b
    (s.packEstimate e) := by
  have hgauge : gaugeFields ⊆ w.fs := List.Subset.trans (by decide : gaugeFields ⊆ estimateFields) hw
  have hrated : Within w b (s.gauge.compVolt.rsocStep e) := ((h.gauge hgauge).compVolt (hw (by decide))).rsocStep (hw (by decide))
  exact .ite h (Within.when (hrated.set (hw (by decide)) rfl) fun _ hx => hx.queuePack hj)
def captureFields : List Fld := measureFields ++ eodFields ++ presenceFields ++ firstFields ++ estimateFields ++ disqFields ++
    [F.PK_CAP_CYC_CNT]
theorem Within.capture (h : Within w b s) (hw : captureFields ⊆ w.fs) (hj : w.jrn = true) (hp : w.pow = true)
    (ht : w.th = true) {v rho : Nat}
    {i : Int} : Within w b (s.capture v i rho) := by
  have hmeasure : measureFields ⊆ w.fs := List.Subset.trans (by decide : measureFields ⊆ captureFields) hw
  have heod : eodFields ⊆ w.fs := List.Subset.trans (by decide : eodFields ⊆ captureFields) hw
  have hpresence : presenceFields ⊆ w.fs := List.Subset.trans (by decide : presenceFields ⊆ captureFields) hw
  have hfirst : firstFields ⊆ w.fs := List.Subset.trans (by decide : firstFields ⊆ captureFields) hw
  have hestimate : estimateFields ⊆ w.fs := List.Subset.trans (by decide : estimateFields ⊆ captureFields) hw
  have hdisq : disqFields ⊆ w.fs := List.Subset.trans (by decide : disqFields ⊆ captureFields) hw
  unfold State.capture
  extract_lets ns measured present charging estimated
  have hpresent : Within w b present := ((h.capMeasure hmeasure ht).modPk.floorCheck heod hj hp).presence hpresence hj
  have hcharging : Within w b charging := hpresent.when fun _ hx => hx.setChg.modPk
  have hestimated : Within w b estimated := hcharging.when fun _ hx => hx.firstEstimate hfirst hj
  exact .ite h (.ite hcharging
    ((((hestimated.packEstimate hestimate hj).disAccount (hw (by decide))).lrnCheck hdisq hj).eodCheck heod hj hp))

/-! ## The other commands -/

theorem Within.coulomb (h : Within w b s) (hc : F.PK_CC_ACC_CC_ACC ∈ w.fs) (hw : gaugeFields ⊆ w.fs) {r : Nat} : Within w b (s.coulomb r) :=
  .ite h (Within.when (h.set hc rfl).modPk fun _ hx => hx.gauge hw)
theorem Within.inputLoss (h : Within w b s) (hw : lossFields ⊆ w.fs) (hf : F.PK_STICKY_PROBE_FAIL_S ∈ w.fs) (hj : w.jrn = true)
    (hp : w.pow = true) : Within w b s.inputLoss :=
  .ite h (.ite h.modPk (.ite (h.modPk.probeFail hf) (.ite h.modPk (h.modPk.lossDeclared hw hj hp))))
def measuredFields : List Fld := wearFields ++ [F.PK_LIFE_RFACT]
theorem Within.testMeasure (h : Within w b s) (hw : measuredFields ⊆ w.fs) (hj : w.jrn = true) : Within w b s.testMeasure := by
  have hwear : wearFields ⊆ w.fs := List.Subset.trans (by decide : wearFields ⊆ measuredFields) hw
  unfold State.testMeasure
  extract_lets dv i r open1 rmeas rf told cleared power ended
  have htold : Within w b told := Within.logC (h.set (hw (by decide)) rfl) rfl
  have hclear : Framed told (told.clear F.PK_STATE_TEST_ACT) := (Framed.refl _).clear (by decide)
  have hcleared : Within w b cleared := (htold.framed hclear).setChg.modPk
  exact .ite (((hcleared.framed (Framed.testEnd (.refl _) _)).wear hwear).queuePack hj) h
theorem Within.testStart (h : Within w b s) : Within w b s.testStart := by
  have hmark : Framed s (s.mark F.PK_STATE_TEST_ACT) := (Framed.refl _).mark (by decide)
  exact .ite (h.framed hmark).setChg.modPk h

theorem Within.chgRetry (h : Within w b s) : Within w b s.chgRetry := h.when fun _ hx => hx.modPk
theorem Within.chgTerm (h : Within w b s) (hw : doneFields ⊆ w.fs) (hj : w.jrn = true) : Within w b s.chgTerm := .ite (h.chgDone hw hj) h
theorem Within.chgAgain (h : Within w b s) : Within w b s.chgAgain := .ite h.setChg.modPk h
theorem Within.chgPreOver (h : Within w b s) (hw : faultFields ⊆ w.fs) (hd : F.PK_STATE_PACK_DEAD ∈ w.fs) : Within w b s.chgPreOver :=
  .ite ((h.chgFault hw).set hd rfl) h
theorem Within.chgTimerOver (h : Within w b s) (hw : faultFields ⊆ w.fs) : Within w b s.chgTimerOver := .ite (h.chgFault hw) h
theorem Within.chgOver (h : Within w b s) (hw : faultFields ⊆ w.fs) : Within w b s.chgOver := .ite (h.chgFault hw) h
theorem Within.insHoldEnd (h : Within w b s) (hw : newFields ⊆ w.fs) : Within w b s.insHoldEnd := .ite (h.newPack hw) h
theorem Within.busGoodAgain (h : Within w b s) (hp : w.pow = true) : Within w b s.busGoodAgain :=
  .ite h (.ite (h.modPk.noArm hp).modPk h.modPk)
theorem Within.probeDue (h : Within w b s) (hw : F.PK_STICKY_PROBE_FAIL_S ∈ w.fs) {v : Nat} : Within w b (s.probeDue v) :=
  .ite (h.probeStart hw) h
theorem Within.probeEnd (h : Within w b s) (hf : F.PK_STICKY_PROBE_FAIL_S ∈ w.fs) (hr : F.PK_STICKY_RESTORE_S ∈ w.fs) (hj : w.jrn = true)
    (hp : w.pow = true) {v : Nat} : Within w b (s.probeEnd v) := .ite h (.ite (h.restored hr hj hp) (h.probeFail hf))
theorem Within.holdupOver (h : Within w b s) (hw : eodFields ⊆ w.fs) (hj : w.jrn = true) (hp : w.pow = true) : Within w b s.holdupOver :=
  .ite (h.eod hw hj hp) h
theorem Within.restEnd (h : Within w b s) (hw : ocvFields ⊆ w.fs) (hj : w.jrn = true) : Within w b s.restEnd :=
  .ite (h.modPk.ocvApply hw hj) h
theorem Within.testRested (h : Within w b s) (hw : ocvFields ⊆ w.fs) (hj : w.jrn = true) : Within w b s.testRested :=
  .ite (h.modPk.ocvApply hw hj).setChg h
theorem Within.testAgain (h : Within w b s) : Within w b s.testAgain := .ite h.testStart h
theorem Within.lrnOver (h : Within w b s) (hw : disqFields ⊆ w.fs) (hj : w.jrn = true) :
    Within w b (if s.flag F.PK_STATE_LRN_OPEN && decide (s.pk.lrnAt + 172800000000000 ≤ s.now) then s.lrnDisq 3 else s) :=
  .ite (h.lrnDisq hw hj) h
theorem Within.recordHourly (h : Within w b s) (hj : w.jrn = true) : Within w b s.recordHourly := .ite (h.queuePack hj) h

end Sys2Proof.Machine

open Sys2Proof Sys2Proof.Machine

/-- Settles O58: each command's effect stays within its room (`Within`), and so does the end of the update (`run_keepsWithin`). -/
theorem frameOfPackCommands : Obligations.FrameOfPackCommands := by
  unfold Obligations.FrameOfPackCommands
  refine ⟨?_, ?_, ?_, ?_, ?_, ?_, ?_, ?_, ?_, ?_, ?_, ?_, ?_, ?_, ?_, ?_, ?_, ?_, ?_, ?_, ?_, ?_, ?_, ?_⟩
  · intro t v i rho s u hc hu
    have hfields : captureFields ⊆ (allFields.filter (fun f => (0x3808 ≤ f.base && f.base ≤ 0x3840) || f.base == 0x3880)) ++
      [F.PK_CAP_CYC_CNT, F.PK_CAP_FCC, F.PK_CUR_BAT_I, F.PK_LIFE_RFACT, F.PK_LIFE_SOH, F.PK_QREM_QREM, F.PK_SOC_ASOC,
        F.PK_SOC_RSOC, F.PK_STATE_CHG_FLT, F.PK_STATE_COARSE, F.PK_STATE_DISQ, F.PK_STATE_EOD_CAUSE, F.PK_STATE_EOL,
        F.PK_STATE_FULL, F.PK_STATE_HU_ARM, F.PK_STATE_LRN_OPEN, F.PK_STATE_PACK_DEAD, F.PK_STATE_PRESENT, F.PK_STICKY_EOD_S,
        F.PK_STICKY_EOL_S, F.PK_STICKY_LRN_DQ_S, F.PK_STICKY_LRN_OK_S, F.PK_STICKY_OCV_S, F.PK_VOLT_BAT_V, F.PK_VOLT_V_COMP] := by
      decide +kernel
    have h := run_keepsWithin (w := ⟨true, true, true, _⟩) hc (fun _ hx => hx.capture hfields rfl rfl rfl) hu
    exact h.changes (p := true) rfl
  · intro t raw s u hc hu
    exact (run_keepsWithin (w := ⟨false, false, false, _⟩) hc (fun _ hx => hx.coulomb (by decide) (by decide)) hu).changes (p := false) rfl
  · intro t above s u hc hu
    exact (run_keepsWithin (w := ⟨false, false, false, _⟩) hc (fun _ hx => hx.chgInput (by decide)) hu).changes (p := false) rfl
  · intro t s u hc hu
    exact (run_keepsWithin (w := ⟨false, false, false, _⟩) hc (fun _ hx => hx.chgRetry) hu).changes (p := false) rfl
  · intro t s u hc hu
    exact (run_keepsWithin (w := ⟨false, true, false, _⟩) hc (fun _ hx => hx.chgTerm (by decide) rfl) hu).changes (p := false) rfl
  · intro t s u hc hu
    exact (run_keepsWithin (w := ⟨false, false, false, _⟩) hc (fun _ hx => hx.chgAgain) hu).changes (p := false) rfl
  · intro t s u hc hu
    exact (run_keepsWithin (w := ⟨false, false, false, _⟩) hc (fun _ hx => hx.chgPreOver (by decide) (by decide)) hu).changes
      (p := false) rfl
  · intro t s u hc hu
    exact (run_keepsWithin (w := ⟨false, false, false, _⟩) hc (fun _ hx => hx.chgTimerOver (by decide)) hu).changes (p := false) rfl
  · intro t s u hc hu
    exact (run_keepsWithin (w := ⟨false, false, false, _⟩) hc (fun _ hx => hx.chgOver (by decide)) hu).changes (p := false) rfl
  · intro t s u hc hu
    exact (run_keepsWithin (w := ⟨false, false, false, _⟩) hc (fun _ hx => hx.insHoldEnd (by decide)) hu).changes (p := false) rfl
  · intro t s u hc hu
    exact (run_keepsWithin (w := ⟨true, true, false, _⟩) hc (fun _ hx => hx.inputLoss (by decide) (by decide) rfl rfl) hu).changes
        (p := false) rfl
  · intro t s u hc hu
    exact (run_keepsWithin (w := ⟨true, false, false, _⟩) hc (fun _ hx => hx.busGoodAgain rfl) hu).changes
      (p := false) rfl
  · intro t s u hc hu
    exact (run_keepsWithin (w := ⟨true, true, false, _⟩) hc (fun _ hx => .ite (hx.huTrip (by decide) rfl rfl) hx) hu).changes (p := false) rfl
  · intro t bus s u hc hu
    exact (run_keepsWithin (w := ⟨false, false, false, _⟩) hc (fun _ hx => .ite (hx.probeStart (by decide)) hx) hu).changes (p := false) rfl
  · intro t bus s u hc hu
    exact (run_keepsWithin (w := ⟨false, false, false, _⟩) hc (fun _ hx => hx.probeDue (by decide)) hu).changes (p := false) rfl
  · intro t bus s u hc hu
    exact (run_keepsWithin (w := ⟨true, true, false, _⟩) hc
      (fun _ hx => hx.probeEnd (by decide) (by decide) rfl rfl) hu).changes (p := false) rfl
  · intro t s u hc hu
    exact (run_keepsWithin (w := ⟨true, true, false, _⟩) hc (fun _ hx => hx.holdupOver (by decide) rfl rfl) hu).changes (p := false) rfl
  · intro t s u hc hu
    exact (run_keepsWithin (w := ⟨false, true, false, _⟩) hc (fun _ hx => hx.restEnd (by decide) rfl) hu).changes (p := true) rfl
  · intro t s u hc hu
    exact (run_keepsWithin (w := ⟨false, true, false, _⟩) hc (fun _ hx => hx.testRested (by decide) rfl) hu).changes
      (p := true) rfl
  · intro t s u hc hu
    exact (run_keepsWithin (w := ⟨true, true, false, _⟩) hc (fun _ hx => hx.testMeasure (by decide) rfl) hu).changes (p := false) rfl
  · intro t s u hc hu
    exact (run_keepsWithin (w := ⟨false, false, false, _⟩) hc (fun _ hx => hx.testAgain) hu).changes (p := false) rfl
  · intro t s u hc hu
    exact (run_keepsWithin (w := ⟨false, true, false, _⟩) hc (fun _ hx => hx.lrnOver (by decide) rfl) hu).changes (p := false) rfl
  · intro t s u hc hu
    exact (run_keepsWithin (w := ⟨false, true, false, _⟩) hc (fun _ hx => hx.recordHourly rfl) hu).changes (p := false) rfl
  · intro t sw demand s u hc hu
    exact (run_keepsWithin (w := ⟨false, false, false, _⟩) hc (fun _ hx => hx.chgPeriod (by decide)) hu).changes (p := false) rfl
end


section
/-!
O53: the end of an update with the Conjunction Link in use, where its round has no rail to latch (`State.Unled`): only the link's own part
changes in that round, and what follows is as without the link.
-/
namespace Sys2Proof.Machine

variable {b s : State} {r : Fin 8}

/-- The link's round latches no rail: this controller does not lead, or SYS_MIN_LIVE is 0. -/
def State.Unled (s : State) : Prop := s.flag F.CJ_CFG_LEADER = false ∨ s.get F.CJ_SPAN_SYS_MIN_LIVE = 0

theorem cjRound_unled (h : s.Unled) (s0 : State) : ∃ x q, State.cjRound s0 s = { s with cj := { s.cj with taken := x, txq := q } } := by
  have hlow (r : Fin 8) : (s.flag F.CJ_CFG_LEADER && ((s.st r).switching || s.st r == .hiccup) &&
      decide (s.sysLive r < s.get F.CJ_SPAN_SYS_MIN_LIVE)) = false := by
    rcases h with h | h
    · rw [h, Bool.false_and, Bool.false_and]
    · rw [h, decide_eq_false (Nat.not_lt_zero _), Bool.and_false]
  unfold State.cjRound
  split
  · exact ⟨s.cj.taken, s.cj.txq, rfl⟩
  · next r _ =>
    dsimp only
    rw [if_neg (by rw [hlow r]; decide)]
    exact ⟨_, _, rfl⟩

/-- What the end of an update keeps beside its frame: `EndKept`, and the state of a rail that neither arms nor stands in REG or SHED. -/
structure EndHeld (b s : State) : Prop where
  kept : EndKept b s
  st : ∀ r, b.mayArm r = false → b.st r ≠ .reg → b.st r ≠ .shed → s.st r = b.st r

theorem settle_unled (s0 : State) (hc : s.Calm) (hs : s.pow.stopSet = 0) (hl : s.Unled) : EndHeld s (settle s0 s) := by
  unfold settle
  rw [State.stopRound_self hs]
  have hcall : Framed s (State.cjRound s0 s) := State.cjRound_framed s0 (.refl s)
  have hlink : Plain s (State.cjRound s0 s) ∧ Held s (State.cjRound s0 s) := by
    obtain ⟨x, q, hcj⟩ := cjRound_unled hl s0
    rw [hcj]
    exact ⟨⟨rfl, fun _ => rfl, rfl, fun _ _ => rfl⟩, ⟨rfl, fun _ => rfl, rfl⟩⟩
  have hplain : Plain s (State.cjRound s0 s).packRound := State.packRound_plain hlink.1
  have hheld : Held s (State.cjRound s0 s).packRound := State.packRound_held hlink.2
  have hframed : Framed s (State.cjRound s0 s).packRound := State.packRound_framed hcall
  generalize (State.cjRound s0 s).packRound = y at hplain hheld hframed
  have hclr : y.clrRound = y := by
    unfold State.clrRound
    rw [hframed.calm.trans hc]
    rfl
  have hmay (r : Fin 8) (hr : s.mayArm r = false) : y.mayArm r = false :=
    (State.mayArm_congr r hframed hheld.mode (hheld.st r)).trans hr
  rw [hclr]
  have harm : ArmKept y y.armRound := State.armRound_kept
  have hst (r : Fin 8) (hr : s.mayArm r = false) : y.armRound.st r = s.st r := (State.armRound_st r (hmay r hr)).trans (hheld.st r)
  generalize y.armRound = z at harm hst
  have hshed (r : Fin 8) (hr : s.mayArm r = false) (hreg : s.st r ≠ .reg) (hsh : s.st r ≠ .shed) :
      z.precheckRound.shedRound.modeRound.hintRound.clampRound.st r = s.st r := by
    have hpre : z.precheckRound.st r = s.st r := (State.precheckRound_st r).trans (hst r hr)
    exact ((State.clampRound_held (State.hintRound_held (.refl _))).st r).trans ((State.modeRound_st r).trans
      ((State.shedRound_st r (hpre ▸ hreg) (hpre ▸ hsh)).trans hpre))
  have hrounds : Plain z z.precheckRound.shedRound.modeRound.hintRound.clampRound :=
    State.clampRound_plain (State.hintRound_plain (State.modeRound_plain (State.shedRound_plain (State.precheckRound_plain (.refl z)))))
  generalize z.precheckRound.shedRound.modeRound.hintRound.clampRound = v at hshed hrounds
  have hend := State.creditRound_plain (State.noteRound_plain s0 (State.mirrorRound_plain s0 (State.pmbRound_plain s0
    (State.wasRound_plain s0 hrounds))))
  have hlast := State.creditRound_held (State.noteRound_held s0 (State.mirrorRound_held s0 (State.pmbRound_held s0
    (State.wasRound_held s0 (.refl v)))))
  exact {
    kept := {
      pow := hend.pow.trans ((congrArg Power.now harm.pow).trans hplain.pow)
      regs := fun k hk => (hend.regs k hk).trans ((harm.regs k hk).trans (hplain.regs k hk))
      fr := fun r hr => (hend.fr r).trans ((congrArg Front.now (harm.fr r (hmay r hr))).trans (hplain.fr r))
      phases := fun hr => hend.phases.trans ((harm.phases fun r => hmay r (hr r)).trans hplain.phases) }
    st := fun r hr hreg hsh => (hlast.st r).trans (hshed r hr hreg hsh) }

/-- The same for a command's next state. -/
theorem run_unled {t : Nat} {f : State → State} {x u : State} (hx : f (s.at t) = x) (hu : run t f s = .next u) (hc : x.Calm)
    (hs : x.pow.stopSet = 0) (hl : x.Unled) : EndHeld x u := by
  subst hx
  have h := settle_unled (s.at t) hc hs hl
  obtain rfl := Host.Outcome.next.inj hu
  generalize settle (s.at t) (f (s.at t)) = y at h
  exact ⟨⟨h.kept.pow, h.kept.regs, h.kept.fr, h.kept.phases⟩, h.st⟩

end Sys2Proof.Machine
end

section
/-!
O53, R271 and R475: what a member takes as F and ff outlasts the end of the update, since only TARGET frames write them there
    (`State.putF`).
-/
namespace Sys2Proof.Machine

/-- A field apart from every rail's F and from LEADER. -/
def Fld.spares (f : Fld) : Bool := allRails.all (fun r => f.off (F.TN_STAT_F.key r)) && f.off (F.CJ_CFG_LEADER.key 0)

/-- The part stays a member's, with its F and ff. -/
structure Following (r : Fin 8) (b s : State) : Prop where
  member : s.isMember r = true
  f : s.get F.TN_STAT_F r = b.get F.TN_STAT_F r
  ff : (s.eng r).ff = (b.eng r).ff

variable {b s : State} {r : Fin 8}

/-- Parts apart from the rails and the registers. -/
theorem Following.of_parts {x : State} (h : Following r b s) (hrails : x.rails = s.rails) (hregs : x.regs = s.regs) : Following r b x := by
  refine ⟨?_, ?_, ?_⟩
  · unfold State.isMember State.cfg State.rail State.flag State.get
    rw [hrails, hregs]
    exact h.member
  · unfold State.get
    rw [hregs]
    exact h.f
  · unfold State.eng State.rail
    rw [hrails]
    exact h.ff
theorem Following.set (h : Following r b s) {f : Fld} {i v : Nat} (hf : f.spares = true) (hi : i < f.count) : Following r b
    (s.set f i v) := by
  simp only [Fld.spares, Bool.and_eq_true, List.all_eq_true] at hf
  obtain ⟨hF, hleader⟩ := hf
  refine ⟨?_, (State.get_set_of_ne _ _ _ _ _ _ (Fld.key_ne (hF r (List.mem_finRange r)) hi)).trans h.f, h.ff⟩
  have hflag : (s.set f i v).flag F.CJ_CFG_LEADER = s.flag F.CJ_CFG_LEADER := by
    unfold State.flag
    rw [State.get_set_of_ne _ _ _ _ _ _ (Fld.key_ne hleader hi)]
  unfold State.isMember
  rw [hflag]
  exact h.member
theorem Following.modRail (h : Following r b s) {q : Fin 8} {f : Rail → Rail} (hc : ∀ x, (f x).cfg = x.cfg) (hf : ∀ x,
    (f x).eng.ff = x.eng.ff) :
    Following r b (s.modRail q f) := by
  by_cases hq : r = q
  · subst hq
    refine ⟨?_, h.f, ?_⟩
    · show ((((s.modRail r f).rail r).cfg.spans) && !s.flag F.CJ_CFG_LEADER) = true
      rw [State.rail_modRail_self, hc]
      exact h.member
    · show ((s.modRail r f).rail r).eng.ff = _
      rw [State.rail_modRail_self, hf]
      exact h.ff
  · refine ⟨?_, h.f, ?_⟩
    · show ((((s.modRail q f).rail r).cfg.spans) && !s.flag F.CJ_CFG_LEADER) = true
      rw [State.rail_modRail_of_ne _ _ _ _ hq]
      exact h.member
    · show ((s.modRail q f).rail r).eng.ff = _
      rw [State.rail_modRail_of_ne _ _ _ _ hq]
      exact h.ff
theorem Following.modFr (h : Following r b s) {q : Fin 8} {f : Front → Front} : Following r b (s.modFr q f) :=
  h.modRail (fun _ => rfl) fun _ => rfl
theorem Following.withParts (h : Following r b s) {now pending cz mode img pow br par sets mirPh mirRail phases ports rcd spi pmb cj otp
    sec tlm jrn
    pk th ctx0 ctxs rings code entry} :
    Following r b ⟨now, pending, cz, mode, s.regs, img, pow, br, par, sets, mirPh, mirRail, phases, s.rails, ports, rcd, spi, pmb, cj, otp,
        sec,
      tlm, jrn, pk, th, ctx0, ctxs, rings, code, entry⟩ := h.of_parts rfl rfl
theorem Following.modPh (h : Following r b s) {n : Fin 32} {f : Phase → Phase} : Following r b (s.modPh n f) := h.withParts
theorem Following.modPort (h : Following r b s) {p : Fin 2} {f : Port → Port} : Following r b (s.modPort p f) := h.withParts
theorem Following.modPk (h : Following r b s) {f : Pack → Pack} : Following r b (s.modPk f) := h.withParts
theorem Following.pmbBits (h : Following r b s) {f : Fld} {i v : Nat} (hf : f.spares = true) (hi : i < f.count) :
    Following r b (s.pmbBits f i v) := h.set hf hi
theorem Following.ite {c : Prop} {d : Decidable c} {x y : State} (hx : Following r b x) (hy : Following r b y) :
    Following r b (@ite _ c d x y) := by
  split <;> assumption
theorem Following.when (h : Following r b s) {c : Bool} {f : State → State} (hf : ∀ x, Following r b x → Following r b (f x)) :
    Following r b (s.when c f) := .ite (hf _ h) h
theorem Following.foldl {α : Type} {f : State → α → State} {l : List α} (h : Following r b s)
    (hf : ∀ x a, Following r b x → Following r b (f x a)) : Following r b (l.foldl f s) := List.foldlRecOn l f h fun x hx a _ => hf x a hx
theorem Following.onRails (h : Following r b s) {f : State → Fin 8 → State} (hf : ∀ x q, Following r b x → Following r b (f x q)) :
    Following r b (s.onRails f) := h.foldl hf
/-- An event that sets no status byte of a page. -/
theorem Following.raise (h : Following r b s) {front : Bool} {code unit : Nat} {items : List (Nat × Int)} {react : React}
    (hc : statusCodes.contains code = false) : Following r b (s.raise front code unit items react) :=
  h.of_parts (State.raise_rails ..) (State.raise_regs _ _ _ _ _ hc)
theorem Following.logC (h : Following r b s) {code unit : Nat} {items : List (Nat × Int)} (hc : statusCodes.contains code = false) :
    Following r b (s.logC code unit items) := h.raise hc

/-! ## The operations of the rounds -/

theorem Following.noteOn (h : Following r b s) {p : Fin 2} {x : Notice} : Following r b (s.noteOn p x) :=
  .ite (h.modPort.when fun _ hx => .logC (hx.set (f := F.AL_STICKY_NOTE_LOST) (by decide) p.isLt) rfl) h
theorem Following.noteRail (h : Following r b s) {q : Fin 8} {kind word : Nat} : Following r b (s.noteRail q kind word) :=
  h.foldl fun _ _ hx => .ite hx.noteOn hx
theorem Following.noteAll (h : Following r b s) {kind word : Nat} : Following r b (s.noteAll kind word) := h.foldl fun _ _ hx => hx.noteOn
theorem Following.enter (h : Following r b s) {n : Nat} {m : Mode} : Following r b (s.enter n m) := by
  have hset : Following r b ((s.set F.MODE_STATUS_PREV_MODE 0 s.mode.code).set F.MODE_STATUS_LAST_TRANS 0 n) :=
    (h.set (by decide) (by decide)).set (by decide) (by decide)
  unfold State.enter
  exact hset.withParts.raise rfl
theorem Following.setRail (h : Following r b s) {q : Fin 8} {st : RailState} : Following r b (s.setRail q st) :=
  State.setRail_ind (P := Following r b) q st (h.modRail (fun _ => rfl) fun _ => rfl) (fun _ _ hx => hx.modFr) (fun _ _ _ hx => hx.modPh)
    (fun _ hx => hx.set (by decide) q.isLt) (fun _ hx => hx.set (by decide) q.isLt)
theorem Following.arm (h : Following r b s) {q : Fin 8} : Following r b (s.arm q) := by
  unfold State.arm
  exact (h.setRail.set (f := F.SEN_CFG_SEN_STATE) (by decide) q.isLt).modFr
theorem Following.putHints (h : Following r b s) {q : Fin 8} {l : List Hint} : Following r b (s.putHints q l) :=
  .set (f := F.TN_STAT_N_SCHED) (h.modRail (q := q) (f := fun x => { x with tn := l }) (fun _ => rfl) fun _ => rfl) (by decide) q.isLt
/-- A member's F stays; another rail's is kept under another key. -/
theorem Following.putF (h : Following r b s) {q : Fin 8} : Following r b (s.putF q) := by
  unfold State.putF
  by_cases hq : q = r
  · rw [if_pos (hq ▸ h.member)]
    exact h
  · extract_lets raw f stored
    have hkey : F.TN_STAT_F.key r ≠ F.TN_STAT_F.key q :=
      (by decide : ∀ q r : Fin 8, q ≠ r → F.TN_STAT_F.key r ≠ F.TN_STAT_F.key q) q r hq
    have hleader : F.CJ_CFG_LEADER.key 0 ≠ F.TN_STAT_F.key q := (by decide : ∀ q : Fin 8, F.CJ_CFG_LEADER.key 0 ≠ F.TN_STAT_F.key q) q
    have hset : Following r b (s.setI F.TN_STAT_F q f) := by
      refine ⟨?_, (State.get_set_of_ne _ _ _ _ _ _ hkey).trans h.f, h.ff⟩
      have hflag : (s.setI F.TN_STAT_F q f).flag F.CJ_CFG_LEADER = s.flag F.CJ_CFG_LEADER := by
        unfold State.flag
        rw [State.setI, State.get_set_of_ne _ _ _ _ _ _ hleader]
      unfold State.isMember
      rw [hflag]
      exact h.member
    have hstored : Following r b stored := by
      refine ⟨?_, hset.f, ?_⟩
      · show ((((s.setI F.TN_STAT_F q f).modRail q _).rail r).cfg.spans && !(s.setI F.TN_STAT_F q f).flag F.CJ_CFG_LEADER) = true
        rw [State.rail_modRail_of_ne _ _ _ _ (Ne.symm hq)]
        exact hset.member
      · show (((s.setI F.TN_STAT_F q f).modRail q _).rail r).eng.ff = _
        rw [State.rail_modRail_of_ne _ _ _ _ (Ne.symm hq)]
        exact hset.ff
    exact .ite h (.ite (hstored.set (f := F.TN_STAT_FF_CAP_S) (by decide) q.isLt) hstored)
theorem Following.ctxCheck (h : Following r b s) {x : Nat} : Following r b (s.ctxCheck x) :=
  .ite h (.logC (Following.onRails h.withParts fun _ _ hx => .ite hx.putHints.putF hx) rfl)
theorem Following.freeSlot (h : Following r b s) {hint : Hint} : Following r b (s.freeSlot hint) := h.ctxCheck.withParts
theorem Following.retire (h : Following r b s) {q : Fin 8} {p : Hint → Bool} : Following r b (s.retire q p) :=
  .putHints (h.foldl fun _ _ hx => hx.freeSlot)
theorem Following.discard (h : Following r b s) {q : Fin 8} {cause : Nat} : Following r b (s.discard q cause) :=
  .ite h (.logC (.noteRail (h.retire.putF.set (f := F.TN_STAT_DISCARD_S) (by decide) q.isLt)) rfl)
theorem Following.setChg (h : Following r b s) {k : Nat} : Following r b (s.setChg k) :=
  h.modPk.set (f := F.PK_STATE_CHG_ST) (by decide) (by decide)
theorem Following.testAbort (h : Following r b s) : Following r b s.testAbort :=
  .ite h (.logC (.when (.withParts (h.set (f := F.PK_STATE_TEST_ACT) (by decide) (by decide)).modPk) fun _ hx => hx.setChg) rfl)
theorem Following.setGate (h : Following r b s) {on : Bool} : Following r b (s.setGate on) :=
  h.modPk.set (f := F.PK_STATE_HU_ON) (by decide) (by decide)

/-! ## The rounds -/

theorem Following.packRound (h : Following r b s) : Following r b s.packRound := by
  have hround : Following r b s.chargerRound := by
    unfold State.chargerRound
    extract_lets aborted c
    have ha : Following r b aborted := h.when fun _ hx => hx.testAbort
    exact .ite h (.ite ha (.ite (ha.when fun _ hx => hx.setChg) (.ite (ha.when fun _ hx => hx.setChg) (.ite ha.setChg
        (.ite ha.setChg ha)))))
  exact .ite hround.setGate hround
theorem Following.armRound (h : Following r b s) : Following r b s.armRound := h.onRails fun _ _ hx => .ite hx.arm hx
theorem Following.precheckRound (h : Following r b s) : Following r b s.precheckRound := .ite (.ite h.enter h.enter) h
theorem Following.shedRound (h : Following r b s) : Following r b s.shedRound :=
  h.onRails fun _ _ hx => .ite (hx.modRail (fun _ => rfl) fun _ => rfl) hx
theorem Following.modeRound (h : Following r b s) : Following r b s.modeRound := by
  unfold State.modeRound
  split
  case h_5 => exact h
  all_goals exact .ite h h.enter
theorem Following.hintRound (h : Following r b s) : Following r b s.hintRound :=
  h.onRails fun _ _ hx => .ite hx (.ite hx.discard (.ite hx.discard (.ite hx.discard hx)))
theorem Following.clampRound (h : Following r b s) : Following r b s.clampRound := h.onRails fun _ _ hx => .ite hx.putF hx
theorem Following.wasRound (h : Following r b s) {s0 : State} : Following r b (State.wasRound s0 s) :=
  h.onRails fun _ _ hx => .ite hx hx.modFr
theorem Following.pmbRound (h : Following r b s) {s0 : State} : Following r b (State.pmbRound s0 s) := by
  have hrail {x : State} {q : Fin 8} (hx : Following r b x) : Following r b (State.pmbRail s0 x q) :=
    .ite hx ((((((hx.pmbBits (by decide) q.isLt).pmbBits (by decide) q.isLt).pmbBits (by decide) q.isLt).pmbBits (by decide) q.isLt).pmbBits
      (by decide) q.isLt).pmbBits (by decide) q.isLt)
  exact .ite h (.withParts (.when (h.onRails fun _ _ hx => hrail hx) fun _ hx => hx.pmbBits (by decide) (by decide)))
theorem Following.noteRound (h : Following r b s) {s0 : State} : Following r b (State.noteRound s0 s) :=
  .ite h (.onRails (h.when fun _ hx => hx.noteAll) fun _ _ hx => .when (by
    split
    · exact hx.noteRail
    · exact hx) fun _ hy => hy.noteRail)
theorem Following.creditRound (h : Following r b s) : Following r b s.creditRound :=
  .ite h (h.foldl fun _ p hx => .ite hx (hx.set (f := F.AL_STATUS_CRED) (by decide) p.isLt).modPort)

/-- The end of an update, where the link acts on no rail. -/
theorem run_following {t : Nat} {f : State → State} {x u : State} (hx : f (s.at t) = x) (hu : run t f s = .next u) (hc : x.Calm)
    (hs : x.pow.stopSet = 0) (hl : x.Unled) (hm : x.isMember r = true) : Following r x u := by
  subst hx
  have hcj : Following r (f (s.at t)) (State.cjRound (s.at t) (f (s.at t))) := by
    obtain ⟨y, q, h⟩ := cjRound_unled hl (s.at t)
    rw [h]
    exact Following.withParts ⟨hm, rfl, rfl⟩
  have hframed : Framed (f (s.at t)) (State.cjRound (s.at t) (f (s.at t))).packRound := State.packRound_framed (State.cjRound_framed _
      (.refl _))
  have h : Following r (f (s.at t)) (settle (s.at t) (f (s.at t))) := by
    unfold settle
    rw [State.stopRound_self hs]
    have hpack := hcj.packRound
    generalize (State.cjRound (s.at t) (f (s.at t))).packRound = y at hframed hpack
    have hclr : y.clrRound = y := by
      unfold State.clrRound
      rw [hframed.calm.trans hc]
      rfl
    rw [hclr]
    have hwas := hpack.armRound.precheckRound.shedRound.modeRound.hintRound.clampRound.wasRound (s0 := s.at t)
    exact .creditRound (.noteRound (.ite hwas.pmbRound.withParts hwas.pmbRound))
  obtain rfl := Host.Outcome.next.inj hu
  generalize settle (s.at t) (f (s.at t)) = y at h
  exact h.withParts

end Sys2Proof.Machine
end

section
/-!
O53: TARGET frames on a member (R475, R479). What a frame leaves before its effect on the part: `Tracked`.
-/
namespace Sys2Proof.Machine

variable {s z : State} {r : Fin 8}

theorem State.get_set_off {f g : Fld} {i j v : Nat} (hf : f.off (g.key j) = true) (hi : i < f.count) :
    (s.set f i v).get g j = s.get g j := State.get_set_of_ne _ _ _ _ _ _ (Fld.key_ne hf hi)
theorem State.flag_set_off {f g : Fld} {i j v : Nat} (hf : f.off (g.key j) = true) (hi : i < f.count) :
    (s.set f i v).flag g j = s.flag g j := congrArg (· != 0) (State.get_set_off hf hi)
theorem toS_ofS_toS (y : Nat) : toS 16 (ofS 16 (toS 16 y) % 2 ^ 16) = toS 16 y := by
  unfold toS ofS
  dsimp only
  split_ifs <;> omega
/-- A good frame marks the link as good and takes effect. -/
theorem State.cjIn_ok {typ src seq payload crc : Nat} (f : State → State) (hup : s.cjUp = true) (hcrc : cjCrc typ src seq payload = crc) :
    s.cjIn typ src seq payload crc false f = f (s.mark F.CJ_STATUS_LINK_OK) := by
  simp [State.cjIn, hup, hcrc]
theorem State.spanRail_spans (h : s.spanRail = some r) : (s.cfg r).spans = true := by
  unfold State.spanRail at h
  split at h
  · have := List.find?_some h
    simp only [Bool.and_eq_true] at this
    exact this.2
  · cases h
theorem State.cjIs_member (h : s.cjIs false = true) : s.flag F.CJ_STATUS_DUP_CTL = false ∧ s.flag F.CJ_CFG_LEADER = false := by
  simpa [State.cjIs, State.leads] using h
/-- A member counts the rail's phases by the last RAILINFO. -/
theorem State.nSys_member (h : s.cjIs false = true) : s.nSys r = s.get F.CJ_STATUS_N_SYS_SW := by
  unfold State.nSys
  rw [(State.cjIs_member h).2]
  rfl

/-- After a frame of the leader the link is good, and the rails, the power part and the count of good targets are as before. -/
structure Tracked (s z : State) : Prop where
  regs : z.regs = ((s.mark F.CJ_STATUS_LINK_OK).mark F.CJ_STATUS_RING_OK).regs
  rails : z.rails = s.rails
  pow : z.pow = s.pow
  run : z.cj.goodRun = s.cj.goodRun

theorem Tracked.get (h : Tracked s z) {g : Fld} {j : Nat} (hl : F.CJ_STATUS_LINK_OK.off (g.key j) = true)
    (hr : F.CJ_STATUS_RING_OK.off (g.key j) = true) : z.get g j = s.get g j := by
  unfold State.get
  rw [h.regs]
  exact (State.get_set_off hr (by decide)).trans (State.get_set_off hl (by decide))
theorem Tracked.flag (h : Tracked s z) {g : Fld} {j : Nat} (hl : F.CJ_STATUS_LINK_OK.off (g.key j) = true)
    (hr : F.CJ_STATUS_RING_OK.off (g.key j) = true) : z.flag g j = s.flag g j := congrArg (· != 0) (h.get hl hr)
theorem Tracked.linkOk (h : Tracked s z) : z.get F.CJ_STATUS_LINK_OK = 1 := by
  unfold State.get
  rw [h.regs]
  exact (State.get_set_off (by decide) (by decide)).trans (State.get_set_self ..)
theorem Tracked.ringOk (h : Tracked s z) : z.get F.CJ_STATUS_RING_OK = 1 := by
  unfold State.get
  rw [h.regs]
  exact State.get_set_self ..
theorem Tracked.rail (h : Tracked s z) (q : Fin 8) : z.rail q = s.rail q := congrArg (fun x : Vector Rail 8 => x[q]) h.rails
theorem Tracked.cjIs (h : Tracked s z) (l : Bool) : z.cjIs l = s.cjIs l := by
  unfold State.cjIs State.leads
  rw [h.flag (by decide) (by decide), h.flag (by decide) (by decide)]
theorem Tracked.spanRail (h : Tracked s z) : z.spanRail = s.spanRail := by
  have hcfg (q : Fin 8) : z.cfg q = s.cfg q := congrArg Rail.cfg (h.rail q)
  unfold State.spanRail
  simp only [h.flag (g := F.CJ_CFG_CJ_EN) (j := 0) (by decide) (by decide), h.flag (g := F.CJ_STATUS_DUP_CTL) (j := 0) (by decide)
      (by decide),
    hcfg]
theorem Tracked.isMember (h : Tracked s z) (hm : s.cjIs false = true) (hr : s.spanRail = some r) : z.isMember r = true := by
  unfold State.isMember
  rw [State.spanRail_spans (h.spanRail.trans hr), (State.cjIs_member ((h.cjIs false).trans hm)).2]
  rfl
theorem Tracked.unled (h : Tracked s z) (hm : s.cjIs false = true) : z.Unled := .inl (State.cjIs_member ((h.cjIs false).trans hm)).2
theorem State.leaderBack_rails : s.leaderBack.rails = s.rails := by
  unfold State.leaderBack
  split
  · exact State.raise_rails ..
  · rfl
theorem State.leaderBack_regs : s.leaderBack.regs = s.regs := by
  unfold State.leaderBack
  split
  · exact State.raise_regs _ _ _ _ _ rfl
  · rfl
theorem State.leaderBack_pow : s.leaderBack.pow = s.pow := by
  unfold State.leaderBack
  split
  · exact State.raise_pow ..
  · rfl
theorem State.leaderBack_run : s.leaderBack.cj.goodRun = s.cj.goodRun := by
  unfold State.leaderBack
  split
  · rw [State.logC, State.raise_cj]
  · rfl

/-- What a TARGET of the leader leaves before its effect on the part. -/
def State.tracked (s : State) (seq payload : Nat) : State :=
  let z := ((s.mark F.CJ_STATUS_LINK_OK).mark F.CJ_STATUS_RING_OK).leaderBack.leaderHeard true
  { z with cj := { z.cj with target := some ⟨1, 0, seq, payload⟩ } }
theorem State.tracked_is (s : State) (seq payload : Nat) : Tracked s (s.tracked seq payload) :=
  ⟨State.leaderBack_regs, State.leaderBack_rails, State.leaderBack_pow, State.leaderBack_run⟩

/-- The part takes the leader's code and target. -/
def State.targeted (s : State) (r : Fin 8) (payload : Nat) : State :=
  (State.modEng { s with cj := { s.cj with f := toS 16 (bits payload 0 16) } } r (fun g => { g with
    commonU := toS 16 (bits payload 16 16), dac := bits payload 33 12 })).modSp r (fun q => { q with acc := bits payload 33 12 * 128 })
/-- A TARGET that names the part. -/
theorem State.targetIn_part {seq payload : Nat} (hm : s.cjIs false = true) (hr : s.spanRail = some r) (hp : bits payload 45 3 = r.val) :
    (s.mark F.CJ_STATUS_LINK_OK).targetIn 0 seq payload =
      let z := s.tracked seq payload
      let y := if z.flag F.CJ_STATUS_ISLAND then z.islandTarget r (toS 16 (bits payload 16 16)) else z
      if y.flag F.CJ_STATUS_ISLAND then y else (y.targeted r payload).memberF r := by
  have hk := s.tracked_is seq payload
  have hm' : (s.mark F.CJ_STATUS_LINK_OK).cjIs false = true := by
    obtain ⟨hdup, hlead⟩ := State.cjIs_member hm
    unfold State.cjIs State.leads
    rw [State.mark_eq, State.flag_set_off (by decide) (by decide), State.flag_set_off (by decide) (by decide), hdup, hlead]
    rfl
  have hpart : (s.tracked seq payload).partOf payload = some r := by
    unfold State.partOf
    rw [hk.spanRail, hr]
    exact if_pos hp.symm
  unfold State.targetIn
  rw [if_neg (by rw [hm']; decide)]
  show (match (s.tracked seq payload).partOf payload with | none => _ | some r => _) = _
  rw [hpart]
  rfl

/-! ## What the part takes -/

theorem State.isMember_flag (h : s.isMember r = true) : s.flag F.CJ_CFG_LEADER = false := by
  unfold State.isMember at h
  simpa using (Bool.and_eq_true_iff.1 h).2
theorem State.memberF_eng (hm : s.isMember r = true) : (s.memberF r).eng r =
    { s.eng r with ff := satS 16 (trunc0 s.cj.f (max 1 (s.get F.CJ_STATUS_N_SYS_SW))) } := by
  have hsys : s.nSys r = s.get F.CJ_STATUS_N_SYS_SW := by
    unfold State.nSys
    rw [State.isMember_flag hm]
    rfl
  unfold State.memberF
  simp only [State.eng, State.modEng, State.setI, State.rail_modRail_self, hsys]
  rfl
theorem State.memberF_f (s : State) (r : Fin 8) : (s.memberF r).get F.TN_STAT_F r = ofS 16 s.cj.f % 2 ^ 16 := State.get_set_self ..
theorem State.memberF_get {g : Fld} {j : Nat} (hg : F.TN_STAT_F.off (g.key j) = true) : (s.memberF r).get g j = s.get g j :=
  State.get_set_off hg r.isLt
theorem State.targeted_eng (s : State) (r : Fin 8) (payload : Nat) : (s.targeted r payload).eng r =
    { s.eng r with commonU := toS 16 (bits payload 16 16), dac := bits payload 33 12 } := by
  unfold State.targeted
  simp only [State.eng, State.modEng, State.modSp, State.rail_modRail_self]
  rfl
theorem State.targeted_cfg (s : State) (r : Fin 8) (payload : Nat) : (s.targeted r payload).cfg r = s.cfg r := by
  unfold State.targeted
  simp only [State.cfg, State.modEng, State.modSp, State.rail_modRail_self]
  rfl

theorem State.memberF_isMember (s : State) (r : Fin 8) : (s.memberF r).isMember r = s.isMember r := by
  have hcfg : (s.memberF r).cfg r = s.cfg r := by
    unfold State.memberF
    simp only [State.cfg, State.modEng, State.rail_modRail_self]
    rfl
  unfold State.isMember State.flag
  rw [hcfg, State.memberF_get (by decide)]
theorem State.Unled.of_member (h : s.isMember r = true) : s.Unled := .inl (State.isMember_flag h)
theorem Framed.commonU (h : Framed s z) (r : Fin 8) : (z.eng r).commonU = (s.eng r).commonU := by
  have := congrArg Engine.commonU (h.eng r)
  exact this
theorem Framed.dac (h : Framed s z) (r : Fin 8) : (z.eng r).dac = (s.eng r).dac := by
  have := congrArg Engine.dac (h.eng r)
  exact this

/-! ## TARGET -/

/-- A frame of the leader, as an effect on the state. -/
def targetRun (q p c : Nat) (s : State) : State := s.cjIn 1 0 q p c false (fun s => s.targetIn 0 q p)
theorem exec_target (t : Nat) (q : BitVec 2) (p : BitVec 48) (c : BitVec 16) (s : State) :
    exec (.target t 0 q p c false) s = run t (targetRun q.toNat p.toNat c.toNat) s := rfl
theorem target_effect {t seq payload crc : Nat} (hup : s.cjUp = true) (hm : s.cjIs false = true) (hr : s.spanRail = some r)
    (hcrc : cjCrc 1 0 seq payload = crc) (hp : bits payload 45 3 = r.val) :
    targetRun seq payload crc (s.at t) =
      let z := (s.at t).tracked seq payload
      let y := if s.flag F.CJ_STATUS_ISLAND then z.islandTarget r (toS 16 (bits payload 16 16)) else z
      if y.flag F.CJ_STATUS_ISLAND then y else (y.targeted r payload).memberF r := by
  have hflag : ((s.at t).tracked seq payload).flag F.CJ_STATUS_ISLAND = s.flag F.CJ_STATUS_ISLAND :=
    ((s.at t).tracked_is seq payload).flag (by decide) (by decide)
  refine (State.cjIn_ok _ (show (s.at t).cjUp = true from hup) hcrc).trans ((State.targetIn_part (s := s.at t) hm hr hp).trans ?_)
  dsimp only
  rw [hflag]

theorem target_fields {p d x y : Nat} (r : Fin 8) (hd : d < 4096) (hx : x < 2 ^ 16) (hy : y < 2 ^ 16)
    (hp : p = r.val * 2 ^ 45 + d * 2 ^ 33 + x * 2 ^ 16 + y) :
    bits p 45 3 = r.val ∧ bits p 33 12 = d ∧ bits p 16 16 = x ∧ bits p 0 16 = y := by
  have hr8 := r.isLt
  unfold bits
  omega

theorem target_gives {t d x y : Nat} {q : BitVec 2} {p : BitVec 48} {c : BitVec 16} (hc : s.Calm) (hup : s.cjUp = true)
    (hs : s.pow.stopSet = 0) (hm : s.cjIs false = true) (hr : s.spanRail = some r) (hcrc : cjCrc 1 0 q.toNat p.toNat = c.toNat)
    (hd : d < 4096) (hx : x < 2 ^ 16) (hy : y < 2 ^ 16) (hp : p.toNat = r.val * 2 ^ 45 + d * 2 ^ 33 + x * 2 ^ 16 + y)
    (hi : s.flag F.CJ_STATUS_ISLAND = false) :
    Gives (.target t 0 q p c false) s (fun u => (u.eng r).commonU = toS 16 x ∧ (u.eng r).dac = d ∧ u.getI F.TN_STAT_F r = toS 16 y
      ∧ (u.eng r).ff = satS 16 (trunc0 (toS 16 y) (max 1 (s.nSys r))) ∧ u.get F.CJ_STATUS_RING_OK = 1 ∧ u.get F.CJ_STATUS_LINK_OK = 1) := by
  obtain ⟨hrail, hcode, hu, hf⟩ := target_fields r hd hx hy hp
  have hk := (s.at t).tracked_is q.toNat p.toNat
  have hmem : ((s.at t).tracked q.toNat p.toNat).isMember r = true := hk.isMember hm hr
  have heffect := target_effect (t := t) hup hm hr hcrc hrail
  rw [hi] at heffect
  dsimp only at heffect
  rw [if_neg Bool.false_ne_true, if_neg (by rw [hk.flag (by decide) (by decide)]; exact Bool.eq_false_iff.1 hi)] at heffect
  generalize (s.at t).tracked q.toNat p.toNat = z at hk hmem heffect
  have hmem' : (z.targeted r p.toNat).isMember r = true := by
    unfold State.isMember
    rw [State.targeted_cfg]
    exact hmem
  have hlast : ((z.targeted r p.toNat).memberF r).isMember r = true := (State.memberF_isMember _ r).trans hmem'
  have hcalm : ((z.targeted r p.toNat).memberF r).Calm := (congrArg Power.wantSafestopClr hk.pow).trans hc
  have heng : ((z.targeted r p.toNat).memberF r).eng r = { z.eng r with
      commonU := toS 16 x, dac := d, ff := satS 16 (trunc0 (toS 16 y) (max 1 (s.nSys r))) } := by
    have hsys : (z.targeted r p.toNat).get F.CJ_STATUS_N_SYS_SW = s.nSys r := (hk.get (by decide) (by decide)).trans
        (State.nSys_member hm).symm
    have hown : (z.targeted r p.toNat).cj.f = toS 16 (bits p.toNat 0 16) := rfl
    rw [State.memberF_eng hmem', State.targeted_eng, hsys, hown, hcode, hu, hf]
  have hflag {f : Fld} (hf : F.TN_STAT_F.off (f.key 0) = true) : ((z.targeted r p.toNat).memberF r).get f = z.get f := State.memberF_get hf
  refine run_gives (exec_target t q p c s) heffect hcalm fun u hrun hframe => ?_
  have hfollow := run_following heffect hrun hcalm ((congrArg Power.stopSet hk.pow).trans hs) (.of_member hlast) hlast
  refine ⟨?_, ?_, ?_, ?_, ?_, ?_⟩
  · rw [hframe.commonU r, heng]
  · rw [hframe.dac r, heng]
  · unfold State.getI
    rw [hfollow.f, State.memberF_f]
    show toS 16 (ofS 16 (toS 16 (bits p.toNat 0 16)) % 2 ^ 16) = _
    rw [toS_ofS_toS, hf]
  · rw [hfollow.ff, heng]
  · exact (hframe.get _ 0 (by decide)).trans ((hflag (by decide)).trans hk.ringOk)
  · exact (hframe.get _ 0 (by decide)).trans ((hflag (by decide)).trans hk.linkOk)

/-! ## A member that islands -/

/-- The fourth near target in a row, with no large-signal action: the island is over and the part takes the common target. -/
def State.rejoined (s : State) (r : Fin 8) (n : Nat) (u : Int) : State :=
  State.modEng (State.logC (State.clear { s with cj := { s.cj with goodRun := n } } F.CJ_STATUS_ISLAND) 0x1005 0
    [(1, 0), (2, s.usSince s.cj.islandAt)]) r (fun g => { g with commonU := u })
theorem State.islandTarget_near {u : Int} (hn : |u - (s.eng r).uDem| ≤ 64) (hrun : 3 ≤ s.cj.goodRun) (hls : (s.fr r).ls = .none) :
    s.islandTarget r u = s.rejoined r (s.cj.goodRun + 1) u := by
  unfold State.islandTarget
  rw [decide_eq_true hn]
  dsimp only
  rw [if_pos rfl, if_pos]
  · rfl
  · show (decide (4 ≤ s.cj.goodRun + 1) && (s.fr r).ls == .none) = true
    rw [hls, decide_eq_true (by omega)]
    rfl
theorem State.islandTarget_far {u : Int} (hn : 64 < |u - (s.eng r).uDem|) :
    s.islandTarget r u = { s with cj := { s.cj with goodRun := 0 } } := by
  unfold State.islandTarget
  rw [decide_eq_false (by omega)]
  exact if_neg (show ¬(false && _) = true from Bool.false_ne_true)
theorem State.rejoined_regs (s : State) (r : Fin 8) (n : Nat) (u : Int) : (s.rejoined r n u).regs = (s.clear F.CJ_STATUS_ISLAND).regs :=
  State.raise_regs _ _ _ _ _ rfl
theorem State.rejoined_pow (s : State) (r : Fin 8) (n : Nat) (u : Int) : (s.rejoined r n u).pow = s.pow := State.raise_pow ..
theorem State.rejoined_records (s : State) (r : Fin 8) (n : Nat) (u : Int) : (s.rejoined r n u).Records 0x1005 :=
  State.logC_records _ _ _ rfl
theorem State.rejoined_island (s : State) (r : Fin 8) (n : Nat) (u : Int) : (s.rejoined r n u).get F.CJ_STATUS_ISLAND = 0 := by
  unfold State.get
  rw [State.rejoined_regs]
  exact State.get_set_self ..

theorem target_rejoins {t : Nat} {q : BitVec 2} {p : BitVec 48} {c : BitVec 16} (hc : s.Calm) (hup : s.cjUp = true)
    (hm : s.cjIs false = true) (hr : s.spanRail = some r) (hcrc : cjCrc 1 0 q.toNat p.toNat = c.toNat) (hp : p.toNat / 2 ^ 45 = r.val)
    (hi : s.flag F.CJ_STATUS_ISLAND = true) (hrun : s.cj.goodRun = 3) (hls : (s.fr r).ls = .none)
    (hn : |toS 16 (p.toNat / 2 ^ 16 % 2 ^ 16) - (s.eng r).uDem| ≤ 64) :
    Gives (.target t 0 q p c false) s (fun u => u.get F.CJ_STATUS_ISLAND = 0 ∧ u.Records 0x1005
      ∧ (u.eng r).commonU = toS 16 (p.toNat / 2 ^ 16 % 2 ^ 16)) := by
  have hrail : bits p.toNat 45 3 = r.val := by
    unfold bits
    rw [hp]
    exact Nat.mod_eq_of_lt r.isLt
  have hk := (s.at t).tracked_is q.toNat p.toNat
  have heffect := target_effect (t := t) hup hm hr hcrc hrail
  rw [hi] at heffect
  dsimp only at heffect
  generalize (s.at t).tracked q.toNat p.toNat = z at hk heffect
  have hz : z.rail r = s.rail r := hk.rail r
  have hnear : z.islandTarget r (toS 16 (bits p.toNat 16 16)) = z.rejoined r (z.cj.goodRun + 1) (toS 16 (bits p.toNat 16 16)) := by
    refine State.islandTarget_near ?_ (hk.run.trans hrun).ge ?_
    · unfold State.eng
      rw [hz]
      exact hn
    · unfold State.fr
      rw [hz]
      exact hls
  have hisland := z.rejoined_island r (z.cj.goodRun + 1) (toS 16 (bits p.toNat 16 16))
  have hpow := z.rejoined_pow r (z.cj.goodRun + 1) (toS 16 (bits p.toNat 16 16))
  have hrec := z.rejoined_records r (z.cj.goodRun + 1) (toS 16 (bits p.toNat 16 16))
  rw [if_pos rfl, hnear] at heffect
  generalize z.rejoined r (z.cj.goodRun + 1) (toS 16 (bits p.toNat 16 16)) = y at hisland hpow hrec heffect
  rw [if_neg (by unfold State.flag; rw [hisland]; decide)] at heffect
  have hcommon : (((y.targeted r p.toNat).memberF r).eng r).commonU = toS 16 (bits p.toNat 16 16) := by
    have h : (((y.targeted r p.toNat).memberF r).eng r).commonU = ((y.targeted r p.toNat).eng r).commonU := by
      unfold State.memberF
      simp only [State.eng, State.modEng, State.rail_modRail_self]
      rfl
    rw [h, State.targeted_eng]
  refine run_gives (exec_target t q p c s) heffect
    (((congrArg Power.wantSafestopClr hpow).trans (congrArg Power.wantSafestopClr hk.pow)).trans hc) fun u _ hframe => ⟨?_, ?_, ?_⟩
  · exact (hframe.get _ 0 (by decide)).trans ((State.memberF_get (by decide)).trans hisland)
  · exact hframe.records hrec
  · exact (hframe.commonU r).trans hcommon

theorem target_far {t : Nat} {q : BitVec 2} {p : BitVec 48} {c : BitVec 16} (hc : s.Calm) (hup : s.cjUp = true)
    (hm : s.cjIs false = true) (hr : s.spanRail = some r) (hcrc : cjCrc 1 0 q.toNat p.toNat = c.toNat) (hp : p.toNat / 2 ^ 45 = r.val)
    (hi : s.flag F.CJ_STATUS_ISLAND = true) (hn : 64 < |toS 16 (p.toNat / 2 ^ 16 % 2 ^ 16) - (s.eng r).uDem|) :
    Gives (.target t 0 q p c false) s (fun u => u.get F.CJ_STATUS_ISLAND = s.get F.CJ_STATUS_ISLAND ∧ u.cj.goodRun = 0
      ∧ (u.eng r).dac = (s.eng r).dac) := by
  have hrail : bits p.toNat 45 3 = r.val := by
    unfold bits
    rw [hp]
    exact Nat.mod_eq_of_lt r.isLt
  have hk := (s.at t).tracked_is q.toNat p.toNat
  have heffect := target_effect (t := t) hup hm hr hcrc hrail
  rw [hi] at heffect
  dsimp only at heffect
  generalize (s.at t).tracked q.toNat p.toNat = z at hk heffect
  have hz : z.eng r = s.eng r := congrArg Rail.eng (hk.rail r)
  have hisland : z.get F.CJ_STATUS_ISLAND = s.get F.CJ_STATUS_ISLAND := hk.get (by decide) (by decide)
  rw [if_pos rfl, State.islandTarget_far (by rw [hz]; exact hn)] at heffect
  have hflag : z.flag F.CJ_STATUS_ISLAND = true := (congrArg (· != 0) hisland).trans hi
  replace heffect := heffect.trans (if_pos hflag)
  refine run_gives (exec_target t q p c s) heffect ((congrArg Power.wantSafestopClr hk.pow).trans hc) fun u _ hframe => ⟨?_, ?_, ?_⟩
  · exact (hframe.get _ 0 (by decide)).trans hisland
  · have := congrArg (fun x : State => x.cj.goodRun) hframe.rest
    exact this
  · exact (hframe.dac r).trans (congrArg Engine.dac hz)

end Sys2Proof.Machine
end

section
/-!
O53: RAILINFO on a member (R475, R476). What a part takes of the leader's state leaves the figures of the link as they are: `Figured`.
-/
namespace Sys2Proof.Machine

variable {b s z : State} {r : Fin 8}

/-- The figures of a RAILINFO, and whether this controller leads. -/
def linkFigures : List Fld := [F.CJ_STATUS_N_SYS_SW, F.CJ_ILIM_ILIM_SYS, F.CJ_STATUS_PEER_LOST, F.CJ_CFG_LEADER]
def Fld.figureOff (f : Fld) : Bool := linkFigures.all (fun g => f.off (g.key 0))

/-- The figures are as before, and a waiting SAFESTOP_CLR as well. -/
structure Figured (b s : State) : Prop where
  figure : ∀ g ∈ linkFigures, s.get g = b.get g
  calm : s.pow.wantSafestopClr = b.pow.wantSafestopClr

theorem Figured.refl (s : State) : Figured s s := ⟨fun _ _ => rfl, rfl⟩
theorem Figured.framed (h : Figured b s) (hz : Framed s z) : Figured b z :=
  ⟨fun g hg => (hz.get g 0 ((by decide : ∀ g ∈ linkFigures, settleKey (g.key 0) = false) g hg)).trans (h.figure g hg), hz.calm.trans h.calm⟩
theorem Figured.set (h : Figured b s) {f : Fld} {i v : Nat} (hf : f.figureOff = true) (hi : i < f.count) : Figured b (s.set f i v) :=
  ⟨fun g hg => (State.get_set_off (List.all_eq_true.1 hf g hg) hi).trans (h.figure g hg), h.calm⟩
theorem Figured.modRail (h : Figured b s) {q : Fin 8} {f : Rail → Rail} : Figured b (s.modRail q f) := ⟨h.figure, h.calm⟩
theorem Figured.modEng (h : Figured b s) {q : Fin 8} {f : Engine → Engine} : Figured b (s.modEng q f) := h.modRail
theorem Figured.modFr (h : Figured b s) {q : Fin 8} {f : Front → Front} : Figured b (s.modFr q f) := h.modRail
theorem Figured.modPh (h : Figured b s) {n : Fin 32} {f : Phase → Phase} : Figured b (s.modPh n f) := ⟨h.figure, h.calm⟩
theorem Figured.ite {c : Prop} {d : Decidable c} {x y : State} (hx : Figured b x) (hy : Figured b y) : Figured b (@ite _ c d x y) := by
  split <;> assumption
theorem Figured.when (h : Figured b s) {c : Bool} {f : State → State} (hf : ∀ x, Figured b x → Figured b (f x)) : Figured b (s.when c f) :=
  .ite (hf _ h) h
theorem Figured.foldl {α : Type} {f : State → α → State} {l : List α} (h : Figured b s) (hf : ∀ x a, Figured b x → Figured b (f x a)) :
    Figured b (l.foldl f s) := List.foldlRecOn l f h fun x hx a _ => hf x a hx
theorem Figured.logF (h : Figured b s) {code unit : Nat} {items : List (Nat × Int)} {react : React} (hc : pageOk code unit = true) :
    Figured b (s.logF code unit items react) := h.framed (State.logF_only _ _ _ hc)
theorem Figured.place (h : Figured b s) {q : Fin 8} : Figured b (s.place q) :=
  List.foldlRecOn (motive := fun x : State × Nat => Figured b x.1) _ _ h fun _ hx n _ =>
    (hx.set (f := F.PH_PLACE_OFFSET) (by decide) n.isLt).when fun _ hy => hy.modPh

/-! ## Starting the part -/

theorem Figured.addPhase (h : Figured b s) {n : Fin 32} {rsv : Nat} : Figured b (s.addPhase n rsv) :=
  .place (.set (f := F.PH_PLACE_TRIM) h.modPh.modPh (by decide) n.isLt)
theorem Figured.latchTflt (h : Figured b s) {n : Fin 32} : Figured b (s.latchTflt n) := by
  have hset {x : State} (hx : Figured b x) {k : Nat} : Figured b (((x.mark F.PWM_STATUS_TFLT_LATCH n).mark F.PWM_STICKY_TFLT_LATCH_S n).set
      F.PWM_STATUS_TFLT_LATCH_N n k) :=
    ((hx.set (by decide) n.isLt).set (by decide) n.isLt).set (by decide) n.isLt
  have hstop {x : State} (hx : Figured b x) : Figured b (x.stopPhase n) := Figured.place hx.modPh.modPh
  have htri {x : State} (hx : Figured b x) : Figured b (x.toLevel n .tri) := hx.framed (State.toLevel_framed _ _ (.refl _))
  exact .ite h (.when (.logF (htri (hstop (hset h.modPh)).modPh) rfl) fun _ hx => hx.logF rfl)
theorem Figured.hicTflt (h : Figured b s) {q : Fin 8} : Figured b (s.hicTflt q) := h.foldl fun _ _ hx => .ite hx.latchTflt hx
theorem Figured.setRail (h : Figured b s) {q : Fin 8} {st : RailState} : Figured b (s.setRail q st) :=
  h.framed (State.setRail_framed q st (.refl _))
theorem Figured.enterRamp (h : Figured b s) {q : Fin 8} : Figured b (s.enterRamp q) := by
  have hstart : Figured b (s.when (s.st q == .armed) (fun s => s.set F.HIC_STATUS_RETRY_CNT q 0)) :=
    h.when fun _ hx => hx.set (by decide) q.isLt
  have hramp {x : State} (hx : Figured b x) : Figured b ((x.setRail q .ramp).clear F.ENG_STATUS_CL_ACT q) := hx.setRail.set
      (by decide) q.isLt
  have hzero {x : State} {n : Fin 32} {f : Phase → Phase} (hx : Figured b x) :
      Figured b (((x.set F.PWM_STATUS_CUT_CNT n 0).setI F.PH_PLACE_TRIM n 0).modPh n f) :=
    ((hx.set (by decide) n.isLt).set (f := F.PH_PLACE_TRIM) (by decide) n.isLt).modPh
  exact .foldl (.foldl (hramp hstart).modEng.modFr fun _ _ hx => hzero hx) fun _ _ hx => hx.addPhase
theorem Figured.takeSet (h : Figured b s) {q : Fin 8} : Figured b (s.takeSet q) := by
  unfold State.takeSet
  exact (((h.set (f := F.ENG_STATUS_OP) (by decide) q.isLt).set (f := F.ENG_STATUS_ACT_SET) (by decide) q.isLt).set
      (f := F.ENG_STATUS_SWAP_PEND)
    (by decide) q.isLt).modEng
theorem Figured.setSen (h : Figured b s) {q : Fin 8} {c : Bool} : Figured b (s.setSen q c) :=
  h.set (f := F.SEN_CFG_SEN_STATE) (by decide) q.isLt
theorem Figured.joinRamp (h : Figured b s) {q : Fin 8} : Figured b (s.joinRamp q) := h.setSen.enterRamp.modFr.modEng.takeSet
theorem Figured.railLatch (h : Figured b s) {q : Fin 8} {cause : Nat} {fast : Bool} : Figured b (s.railLatch q cause fast) :=
  h.framed (State.railLatch_framed q cause fast (.refl _))
theorem Figured.checkMinLive (h : Figured b s) {q : Fin 8} : Figured b (s.checkMinLive q) := .ite (Figured.railLatch (h.logF rfl)) h
theorem Figured.joinStart (h : Figured b s) {q : Fin 8} : Figured b (s.joinStart q) := by
  have ht {c : Bool} : Figured b (s.when c fun s => s.hicTflt q) := h.when fun _ hx => hx.hicTflt
  exact .ite (.ite ht.joinRamp ht.checkMinLive) h

/-! ## The leader's state -/

theorem Figured.fastStop (h : Figured b s) {q : Fin 8} : Figured b (s.fastStop q) := h.framed (State.fastStop_framed q (.refl _))
theorem Figured.softStop (h : Figured b s) {q : Fin 8} {k : StopKind} {cause : Nat} : Figured b (s.softStop q k cause) :=
  h.framed (State.softStop_framed q k cause (.refl _))
theorem Figured.railOff (h : Figured b s) {q : Fin 8} : Figured b (s.railOff q) := h.framed (State.railOff_framed q (.refl _))
theorem Figured.partOff (h : Figured b s) {q : Fin 8} : Figured b (s.partOff q) := by
  unfold State.partOff
  split
  case h_1 | h_2 | h_3 | h_4 => exact h.fastStop.railOff
  case h_5 | h_6 => exact h.railOff
  case h_7 => exact h
theorem Figured.ownFall (h : Figured b s) {q : Fin 8} : Figured b (s.ownFall q) := .ite h.modEng h
theorem Figured.takeRstate (h : Figured b s) {q : Fin 8} {code : Nat} : Figured b (s.takeRstate q code) := by
  have hreg : Figured b ((s.joinStart q).joinReg q) := h.joinStart.setRail.modFr
  unfold State.takeRstate
  split
  case h_1 | h_2 => exact .ite h.ownFall h.partOff
  case h_3 => exact h.joinStart
  case h_4 | h_5 => exact .ite hreg h.joinStart
  case h_6 => exact .ite h.fastStop.setRail.modFr h
  case h_7 => exact .ite h h.softStop
  case h_8 => exact .ite h.ownFall.softStop (.ite h.railLatch h)
  case h_9 => exact h
theorem Figured.memberF (h : Figured b s) {q : Fin 8} : Figured b (s.memberF q) := (h.set (f := F.TN_STAT_F) (by decide) q.isLt).modEng

/-! ## RAILINFO -/

/-- A RAILINFO of the leader, as an effect on the state. -/
def infoRun (q p c : Nat) (s : State) : State := s.cjIn 2 0 q p c false (fun s => s.infoIn 0 p)
theorem exec_railinfo (t : Nat) (q : BitVec 2) (p : BitVec 48) (c : BitVec 16) (s : State) :
    exec (.railinfo t 0 q p c false) s = run t (infoRun q.toNat p.toNat c.toNat) s := rfl

/-- What a RAILINFO leaves before the part takes the leader's state. -/
def State.informed (s : State) (p : Nat) : State := (s.mark F.CJ_STATUS_LINK_OK).infoRegs p
/-- Every other register is as before. -/
theorem State.informed_get {p : Nat} {g : Fld} {j : Nat} (hl : F.CJ_STATUS_LINK_OK.off (g.key j) = true)
    (hn : F.CJ_STATUS_N_SYS_SW.off (g.key j) = true) (hi : F.CJ_ILIM_ILIM_SYS.off (g.key j) = true)
    (hp : F.CJ_STATUS_PEER_LOST.off (g.key j) = true) : (s.informed p).get g j = s.get g j :=
  (State.get_set_off hp (by decide)).trans ((State.get_set_off hi (by decide)).trans ((State.get_set_off hn (by decide)).trans
    (State.get_set_off hl (by decide))))
theorem State.informed_sys (s : State) (p : Nat) : (s.informed p).get F.CJ_STATUS_N_SYS_SW = bits p 33 8 % 2 ^ 8 :=
  (State.get_set_off (by decide) (by decide)).trans ((State.get_set_off (by decide) (by decide)).trans (State.get_set_self ..))
theorem State.informed_ilim (s : State) (p : Nat) : (s.informed p).get F.CJ_ILIM_ILIM_SYS = bits p 16 17 % 2 ^ 17 :=
  (State.get_set_off (by decide) (by decide)).trans (State.get_set_self ..)
theorem State.informed_lost (s : State) (p : Nat) : (s.informed p).get F.CJ_STATUS_PEER_LOST = bits p 11 1 % 2 ^ 1 := State.get_set_self ..

/-- The fields of a RAILINFO that asks for no phases. -/
structure InfoWord (r : Fin 8) (w n m y z p : Nat) : Prop where
  rail : bits p 45 3 = r.val
  state : bits p 41 4 = w
  sys : bits p 33 8 = n
  ilim : bits p 16 17 = m
  retry : bits p 12 4 = y
  lost : bits p 11 1 = z
  prepos : bits p 10 1 = 0
theorem infoWord {w n m y z p : Nat} (r : Fin 8) (hw : w < 16) (hn : n < 256) (hm : m < 2 ^ 17) (hy : y < 16) (hz : z < 2)
    (hp : p = r.val * 2 ^ 45 + w * 2 ^ 41 + n * 2 ^ 33 + m * 2 ^ 16 + y * 2 ^ 12 + z * 2 ^ 11) : InfoWord r w n m y z p := by
  have hr8 := r.isLt
  constructor <;> (unfold bits; omega)

/-- The part takes RETRY_CNT, F and the leader's state, or nothing as an island or before it joined. -/
def State.heeded (s : State) (r : Fin 8) (p w : Nat) : State :=
  if s.flag F.CJ_STATUS_ISLAND || !s.flag F.CJ_STATUS_JOINED then s
  else ((s.set F.HIC_STATUS_RETRY_CNT r (bits p 12 4)).memberF r).takeRstate r w
def State.followed (s : State) (r : Fin 8) (p w : Nat) : State :=
  { s.heeded r p w with cj := { (s.heeded r p w).cj with rstate := w } }
theorem info_effect {t q p c w n m y z : Nat} (hup : s.cjUp = true) (hm : s.cjIs false = true) (hr : s.spanRail = some r)
    (hcrc : cjCrc 2 0 q p = c) (hw : InfoWord r w n m y z p) (he : s.cj.evState = none) :
    infoRun q p c (s.at t) = ((s.at t).informed p).followed r p w := by
  have hm' : ((s.at t).mark F.CJ_STATUS_LINK_OK).cjIs false = true := by
    unfold State.cjIs State.leads
    rw [State.mark_eq, State.flag_set_off (by decide) (by decide), State.flag_set_off (by decide) (by decide)]
    exact hm
  have hspan : ((s.at t).mark F.CJ_STATUS_LINK_OK).spanRail = some r := by
    unfold State.spanRail
    rw [State.mark_eq, State.flag_set_off (by decide) (by decide), State.flag_set_off (by decide) (by decide)]
    exact hr
  have hpart : ((s.at t).mark F.CJ_STATUS_LINK_OK).partOf p = some r := by
    unfold State.partOf
    rw [hspan]
    exact if_pos hw.rail.symm
  refine (State.cjIn_ok _ (show (s.at t).cjUp = true from hup) hcrc).trans ?_
  unfold State.infoIn
  rw [hm', hpart]
  have hev : ((s.at t).mark F.CJ_STATUS_LINK_OK).cj.evState = none := he
  rw [hev, hw.state]
  refine (if_neg (by simp)).trans ?_
  show State.infoPart _ r p w = _
  unfold State.infoPart
  rw [hw.prepos]
  exact if_neg Bool.false_ne_true

theorem State.followed_figured (s : State) (r : Fin 8) (p w : Nat) : Figured s (s.followed r p w) := by
  have hset : Figured s (s.set F.HIC_STATUS_RETRY_CNT r (bits p 12 4)) := (Figured.refl s).set (by decide) r.isLt
  have h : Figured s (s.heeded r p w) := .ite (.refl s) hset.memberF.takeRstate
  exact ⟨h.figure, h.calm⟩

theorem railinfo_figures {t w n m y z : Nat} {q : BitVec 2} {p : BitVec 48} {c : BitVec 16} (hc : s.Calm) (hup : s.cjUp = true)
    (hm : s.cjIs false = true) (hr : s.spanRail = some r) (hcrc : cjCrc 2 0 q.toNat p.toNat = c.toNat)
    (hw : InfoWord r w n m y z p.toNat) (hn : n < 256) (hl : m < 2 ^ 17) (hz : z < 2) (he : s.cj.evState = none) :
    Gives (.railinfo t 0 q p c false) s (fun u => u.get F.CJ_STATUS_N_SYS_SW = n ∧ u.get F.CJ_ILIM_ILIM_SYS = m
      ∧ u.get F.CJ_STATUS_PEER_LOST = z) := by
  have hfig := ((s.at t).informed p.toNat).followed_figured r p.toNat w
  refine run_gives (exec_railinfo t q p c s) (info_effect hup hm hr hcrc hw he) (hfig.calm.trans hc) fun u _ hframe => ?_
  have hget {g : Fld} (hg : g ∈ linkFigures) : u.get g = ((s.at t).informed p.toNat).get g := ((Figured.framed hfig hframe).figure g hg)
  refine ⟨(hget (by decide)).trans ?_, (hget (by decide)).trans ?_, (hget (by decide)).trans ?_⟩
  · rw [State.informed_sys, hw.sys]
    exact Nat.mod_eq_of_lt hn
  · rw [State.informed_ilim, hw.ilim, Nat.mod_eq_of_lt hl]
  · rw [State.informed_lost, hw.lost]
    exact Nat.mod_eq_of_lt hz

/-- R478: an island keeps RETRY_CNT. -/
theorem railinfo_island {t w n m y z : Nat} {q : BitVec 2} {p : BitVec 48} {c : BitVec 16} (hc : s.Calm) (hup : s.cjUp = true)
    (hm : s.cjIs false = true) (hr : s.spanRail = some r) (hcrc : cjCrc 2 0 q.toNat p.toNat = c.toNat)
    (hw : InfoWord r w n m y z p.toNat) (he : s.cj.evState = none) (hi : s.flag F.CJ_STATUS_ISLAND = true) :
    Gives (.railinfo t 0 q p c false) s (fun u => u.get F.HIC_STATUS_RETRY_CNT r = s.get F.HIC_STATUS_RETRY_CNT r) := by
  have hfig := ((s.at t).informed p.toNat).followed_figured r p.toNat w
  refine run_gives (exec_railinfo t q p c s) (info_effect hup hm hr hcrc hw he) (hfig.calm.trans hc) fun u _ hframe => ?_
  have hflag : ((s.at t).informed p.toNat).flag F.CJ_STATUS_ISLAND = true :=
    (congrArg (· != 0) (State.informed_get (by decide) (by decide) (by decide) (by decide))).trans hi
  have hsame : ((s.at t).informed p.toNat).heeded r p.toNat w = (s.at t).informed p.toNat := if_pos (by rw [hflag]; rfl)
  have hregs : (((s.at t).informed p.toNat).followed r p.toNat w).get F.HIC_STATUS_RETRY_CNT r = s.get F.HIC_STATUS_RETRY_CNT r := by
    have hoff : ∀ r : Fin 8, F.CJ_STATUS_LINK_OK.off (F.HIC_STATUS_RETRY_CNT.key r) = true ∧
        F.CJ_STATUS_N_SYS_SW.off (F.HIC_STATUS_RETRY_CNT.key r) = true ∧ F.CJ_ILIM_ILIM_SYS.off (F.HIC_STATUS_RETRY_CNT.key r) = true ∧
          F.CJ_STATUS_PEER_LOST.off (F.HIC_STATUS_RETRY_CNT.key r) = true := by decide
    obtain ⟨h1, h2, h3, h4⟩ := hoff r
    show (((s.at t).informed p.toNat).heeded r p.toNat w).get F.HIC_STATUS_RETRY_CNT r = _
    rw [hsame]
    exact State.informed_get h1 h2 h3 h4
  exact (hframe.get _ _ ((by decide : ∀ r : Fin 8, settleKey (F.HIC_STATUS_RETRY_CNT.key r) = false) r)).trans hregs

/-! ## A joined member -/

/-- RETRY_CNT and F taken, before the leader's state. -/
def State.briefed (s : State) (r : Fin 8) (p : Nat) : State :=
  ((s.informed p).set F.HIC_STATUS_RETRY_CNT r (bits p 12 4)).memberF r
theorem State.followed_joined {p w : Nat} (hj : s.flag F.CJ_STATUS_JOINED = true) (hi : s.flag F.CJ_STATUS_ISLAND = false) :
    (s.informed p).followed r p w = { (s.briefed r p).takeRstate r w with
      cj := { ((s.briefed r p).takeRstate r w).cj with rstate := w } } := by
  have hisland : (s.informed p).flag F.CJ_STATUS_ISLAND = false :=
    (congrArg (· != 0) (State.informed_get (by decide) (by decide) (by decide) (by decide))).trans hi
  have hjoined : (s.informed p).flag F.CJ_STATUS_JOINED = true :=
    (congrArg (· != 0) (State.informed_get (by decide) (by decide) (by decide) (by decide))).trans hj
  have h : (s.informed p).heeded r p w = (s.briefed r p).takeRstate r w := if_neg (by rw [hisland, hjoined]; decide)
  unfold State.followed
  rw [h]
theorem State.briefed_get {p : Nat} {g : Fld} {j : Nat} (h : [F.CJ_STATUS_LINK_OK, F.CJ_STATUS_N_SYS_SW, F.CJ_ILIM_ILIM_SYS,
    F.CJ_STATUS_PEER_LOST, F.HIC_STATUS_RETRY_CNT, F.TN_STAT_F].all (fun f => f.off (g.key j)) = true) :
    (s.briefed r p).get g j = s.get g j := by
  simp only [List.all_cons, List.all_nil, Bool.and_eq_true, Bool.and_true] at h
  obtain ⟨h1, h2, h3, h4, h5, h6⟩ := h
  exact (State.memberF_get h6).trans ((State.get_set_off h5 r.isLt).trans (State.informed_get h1 h2 h3 h4))
theorem State.briefed_pow (s : State) (r : Fin 8) (p : Nat) : (s.briefed r p).pow = s.pow := by
  unfold State.briefed State.memberF State.informed State.infoRegs
  simp only [State.modEng, State.setI, State.modRail_pow, State.set_pow, State.mark]
theorem State.briefed_phases (s : State) (r : Fin 8) (p : Nat) : (s.briefed r p).phases = s.phases := by
  unfold State.briefed State.memberF State.informed State.infoRegs
  simp only [State.modEng, State.setI, State.modRail_phases, State.set_phases, State.mark]
theorem State.briefed_st (s : State) (r : Fin 8) (p : Nat) : (s.briefed r p).st r = s.st r := by
  have h : Held ((s.informed p).set F.HIC_STATUS_RETRY_CNT r (bits p 12 4)) (s.briefed r p) := by
    unfold State.briefed State.memberF
    exact ((Held.refl _).setI _ _ _).modEng _ _
  exact h.st r
theorem State.briefed_retry (s : State) (r : Fin 8) (p : Nat) : (s.briefed r p).get F.HIC_STATUS_RETRY_CNT r = bits p 12 4 % 2 ^ 4 :=
  (State.memberF_get ((by decide : ∀ r : Fin 8, F.TN_STAT_F.off (F.HIC_STATUS_RETRY_CNT.key r) = true) r)).trans (State.get_set_self ..)

/-- A soft stop of a rail that switches. -/
theorem State.softStop_running {k : StopKind} {cause : Nat} (h : s.st r = .ramp ∨ s.st r = .reg ∨ s.st r = .shed) :
    (s.softStop r k cause).st r = .rampdown ∧ ((s.softStop r k cause).fr r).stop = k ∧ (s.softStop r k cause).pow = s.pow := by
  have heq : s.softStop r k cause = (((s.setRail r .rampdown).clear F.PHC_STATUS_DE_ACT r).modEng r (fun e => { e with
      rampT0 := e.dac, rampK := 0 })).modFr r (fun f => { f with stop := k, stopCause := cause, fallAt := none }) := by
    unfold State.softStop
    rcases h with h | h | h <;> rw [h]
  rw [heq]
  refine ⟨?_, ?_, ?_⟩
  · have hh : Held (s.setRail r .rampdown) _ := ((((Held.refl (s.setRail r .rampdown)).clear F.PHC_STATUS_DE_ACT r).modEng r
      (fun e => { e with rampT0 := e.dac, rampK := 0 })).modFr r (fun f => { f with stop := k, stopCause := cause, fallAt := none }))
    exact (hh.st r).trans (State.setRail_st r .rampdown)
  · simp only [State.fr, State.modFr, State.rail_modRail_self]
  · exact State.setRail_pow r .rampdown

theorem mayArm_of_st {st : RailState} (h : s.st r = st) (hst : st ≠ .off) : s.mayArm r = false := by
  unfold State.mayArm
  rw [h]
  cases st with
  | off => exact absurd rfl hst
  | _ => rfl

/-- R476: the part follows the leader into RAMPDOWN. -/
theorem railinfo_rampdown {t w n m y z : Nat} {q : BitVec 2} {p : BitVec 48} {c : BitVec 16} (hc : s.Calm) (hup : s.cjUp = true)
    (hs : s.pow.stopSet = 0) (hm : s.cjIs false = true) (hr : s.spanRail = some r) (hcrc : cjCrc 2 0 q.toNat p.toNat = c.toNat)
    (hw : InfoWord r w n m y z p.toNat) (hy : y < 16) (he : s.cj.evState = none) (hcode : w = 6) (hj : s.flag F.CJ_STATUS_JOINED = true)
    (hi : s.flag F.CJ_STATUS_ISLAND = false) (hst : s.st r = .reg ∨ s.st r = .shed) :
    Gives (.railinfo t 0 q p c false) s (fun u => u.st r = .rampdown ∧ u.get F.HIC_STATUS_RETRY_CNT r = y) := by
  subst hcode
  have heffect := (info_effect (t := t) hup hm hr hcrc hw he).trans (State.followed_joined hj hi)
  have hbrief : ((s.at t).briefed r p.toNat).st r = s.st r := (s.at t).briefed_st r p.toNat
  have hretry : ((s.at t).briefed r p.toNat).get F.HIC_STATUS_RETRY_CNT r = y := by
    rw [State.briefed_retry, hw.retry]
    exact Nat.mod_eq_of_lt hy
  have hlead : ((s.at t).briefed r p.toNat).get F.CJ_CFG_LEADER = s.get F.CJ_CFG_LEADER := State.briefed_get (by decide)
  have hpow : ((s.at t).briefed r p.toNat).pow = s.pow := State.briefed_pow ..
  generalize (s.at t).briefed r p.toNat = v at heffect hbrief hretry hlead hpow
  have hstop : v.takeRstate r 6 = v.softStop r .toOff 0 := if_neg (by rw [hbrief]; rcases hst with h | h <;> rw [h] <;> decide)
  rw [hstop] at heffect
  obtain ⟨hdown, -, hkeep⟩ := State.softStop_running (k := .toOff) (cause := 0) (hbrief ▸ .inr hst : v.st r = .ramp ∨ v.st r = .reg ∨ v.st
      r = .shed)
  have hframed : Framed v (v.softStop r .toOff 0) := State.softStop_framed r .toOff 0 (.refl v)
  generalize v.softStop r .toOff 0 = x at heffect hdown hkeep hframed
  have hunled : State.Unled { x with cj := { x.cj with rstate := 6 } } := by
    have hflag : x.get F.CJ_CFG_LEADER = s.get F.CJ_CFG_LEADER := (hframed.get _ 0 (by decide)).trans hlead
    exact .inl ((congrArg (· != 0) hflag).trans (State.cjIs_member hm).2)
  have hcalm : x.Calm := (congrArg Power.wantSafestopClr (hkeep.trans hpow)).trans hc
  refine run_gives (exec_railinfo t q p c s) heffect hcalm fun u hu hframe => ?_
  have hend := run_unled heffect hu hcalm ((congrArg Power.stopSet (hkeep.trans hpow)).trans hs) hunled
  refine ⟨?_, ?_⟩
  · refine (hend.st r (mayArm_of_st hdown (by decide)) ?_ ?_).trans hdown
    · exact fun h => by cases hdown.symm.trans h
    · exact fun h => by cases hdown.symm.trans h
  · have hoff : settleKey (F.HIC_STATUS_RETRY_CNT.key r) = false := (by decide : ∀ r : Fin 8, settleKey
      (F.HIC_STATUS_RETRY_CNT.key r) = false) r
    exact (hframe.get _ _ hoff).trans ((hframed.get _ _ hoff).trans hretry)

end Sys2Proof.Machine
end

section
/-!
O53: the part starts with the leader (R476), RAILEV (R477), islands (R478).
-/
namespace Sys2Proof.Machine

variable {b s z : State} {r : Fin 8}

/-! ## Starting -/

theorem Held.place (h : Held b s) (q : Fin 8) : Held b (s.place q) :=
  List.foldlRecOn (motive := fun x : State × Nat => Held b x.1) _ _ h fun _ hx _ _ => (hx.set _ _ _).when _ _ fun _ hy => hy.modPh _ _
theorem Held.addPhase (h : Held b s) (n : Fin 32) (rsv : Nat) : Held b (s.addPhase n rsv) :=
  .place (.setI (.modPh (.modPh h n _) n _) _ _ _) _
/-- Entering RAMP begins with the state of the rail; the phases and the engine follow. -/
theorem State.enterRamp_held (s : State) (r : Fin 8) : ∃ x : State, Held x s ∧ Held (x.setRail r .ramp) (s.enterRamp r) := by
  refine ⟨s.when (s.st r == .armed) (fun s => s.set F.HIC_STATUS_RETRY_CNT r 0), ?_, ?_⟩
  · have h : Held s (s.when (s.st r == .armed) (fun s => s.set F.HIC_STATUS_RETRY_CNT r 0)) := (Held.refl s).when _ _ fun _ hx => hx.set _
      _ _
    exact ⟨h.mode.symm, fun q => (h.st q).symm, h.stop.symm⟩
  · exact .foldl _ _ _ (.foldl _ _ _ (.modFr (.modEng (.clear (.refl _) _ _) _ _) _ _)
      fun _ _ hx => ((hx.set _ _ _).setI _ _ _).modPh _ _) fun _ _ hx => hx.addPhase _ _
theorem State.enterRamp_st (s : State) (r : Fin 8) : (s.enterRamp r).st r = .ramp := by
  obtain ⟨x, -, h⟩ := s.enterRamp_held r
  exact (h.st r).trans (State.setRail_st r .ramp)
theorem State.enterRamp_stop (s : State) (r : Fin 8) : (s.enterRamp r).pow.stopSet = s.pow.stopSet := by
  obtain ⟨x, hx, h⟩ := s.enterRamp_held r
  exact h.stop.trans ((congrArg Power.stopSet (State.setRail_pow r .ramp)).trans hx.stop.symm)
/-- The part in RAMP on the common target, with no ramp of its own. -/
theorem State.joinRamp_held (s : State) (r : Fin 8) : Held ((s.setSen r true).enterRamp r) (s.joinRamp r) := by
  unfold State.joinRamp State.takeSet
  exact ((((((Held.refl _).modFr _ _).modEng _ _).set _ _ _).set _ _ _).clear _ _).modEng _ _
theorem State.modEng_fr (s : State) (r : Fin 8) (f : Engine → Engine) : (s.modEng r f).fr r = s.fr r := by
  simp only [State.fr, State.modEng, State.rail_modRail_self]
theorem State.takeSet_fr (s : State) (r : Fin 8) : (s.takeSet r).fr r = s.fr r := by
  unfold State.takeSet
  exact State.modEng_fr ..
theorem State.joinRamp_started (s : State) (r : Fin 8) : ((s.joinRamp r).fr r).started = true := by
  unfold State.joinRamp
  rw [State.takeSet_fr, State.modEng_fr]
  simp only [State.fr, State.modFr, State.rail_modRail_self]

theorem State.liveOf_congr (hph : z.phases = s.phases) (hreg : ∀ f ∈ liveFields, ∀ n : Fin 32, z.get f n = s.get f n)
    (hcoh : z.get F.COH_HOLD_HOLD = s.get F.COH_HOLD_HOLD) (r : Fin 8) : z.liveOf r = s.liveOf r := by
  simp only [liveFields, List.forall_mem_cons] at hreg
  obtain ⟨hassigned, hrail, hlatch, hstop, htri, -⟩ := hreg
  have hp (n : Fin 32) : z.ph n = s.ph n := by
    unfold State.ph
    rw [hph]
  have hon : z.onRail r = s.onRail r := funext fun n => by simp only [State.onRail, State.flag, State.railOf, hassigned, hrail]
  have hlive : z.live = s.live := funext fun n => by
    simp only [State.live, State.blocked, State.flag, hassigned, hlatch, hstop, htri, hcoh, hp]
  simp only [State.liveOf, State.phasesOf, hon, hlive]
theorem State.memberF_fr (s : State) (r : Fin 8) : (s.memberF r).fr r = s.fr r := State.modEng_fr ..
/-- The fields that a RAILINFO writes before the leader's state is taken. -/
def briefFields : List Fld := [F.CJ_STATUS_LINK_OK, F.CJ_STATUS_N_SYS_SW, F.CJ_ILIM_ILIM_SYS, F.CJ_STATUS_PEER_LOST,
  F.HIC_STATUS_RETRY_CNT, F.TN_STAT_F]
theorem briefFields_live : ∀ f ∈ liveFields, ∀ n : Fin 32, briefFields.all (fun g => g.off (f.key n)) = true := by decide
theorem State.briefed_liveOf (s : State) (r : Fin 8) (p : Nat) : (s.briefed r p).liveOf r = s.liveOf r := by
  have hreg (f : Fld) (hf : f ∈ liveFields) (n : Fin 32) : (s.briefed r p).get f n = s.get f n := State.briefed_get
      (briefFields_live f hf n)
  have hcoh : (s.briefed r p).get F.COH_HOLD_HOLD = s.get F.COH_HOLD_HOLD := State.briefed_get (by decide)
  exact State.liveOf_congr (State.briefed_phases ..) hreg hcoh r
theorem State.memberF_vinAt (s : State) (r : Fin 8) : ((s.memberF r).eng r).vinAt = (s.eng r).vinAt := by
  unfold State.memberF
  simp only [State.eng, State.modEng, State.rail_modRail_self]
  rfl
theorem State.briefed_ready (s : State) (r : Fin 8) (p : Nat) : (s.briefed r p).partReady r = s.partReady r := by
  have hfr : (s.briefed r p).fr r = s.fr r := State.memberF_fr ..
  have hvin : ((s.briefed r p).eng r).vinAt = (s.eng r).vinAt := State.memberF_vinAt ..
  unfold State.partReady
  rw [State.briefed_st, hfr, hvin]
theorem State.joinStart_ready (hp : s.partReady r = true) (hl : s.get F.PHC_CTRL_MIN_LIVE r ≤ (s.liveOf r).length) :
    s.joinStart r = s.joinRamp r := by
  have harmed : s.st r = .armed := by
    unfold State.partReady at hp
    simp only [Bool.and_eq_true, beq_iff_eq] at hp
    obtain ⟨⟨⟨h, -⟩, -⟩, -⟩ := hp
    exact h
  unfold State.joinStart
  rw [if_pos (by rw [hp]; rfl), harmed]
  exact if_pos hl

theorem railinfo_start {t w n m y z : Nat} {q : BitVec 2} {p : BitVec 48} {c : BitVec 16} (hc : s.Calm) (hup : s.cjUp = true)
    (hs : s.pow.stopSet = 0) (hm : s.cjIs false = true) (hr : s.spanRail = some r) (hcrc : cjCrc 2 0 q.toNat p.toNat = c.toNat)
    (hw : InfoWord r w n m y z p.toNat) (he : s.cj.evState = none) (hcode : w = 2) (hj : s.flag F.CJ_STATUS_JOINED = true)
    (hi : s.flag F.CJ_STATUS_ISLAND = false) (hready : s.partReady r = true) (hl : s.get F.PHC_CTRL_MIN_LIVE r ≤ (s.liveOf r).length) :
    Gives (.railinfo t 0 q p c false) s (fun u => u.st r = .ramp ∧ (u.fr r).started = true) := by
  subst hcode
  have heffect := (info_effect (t := t) hup hm hr hcrc hw he).trans (State.followed_joined hj hi)
  have hready' : ((s.at t).briefed r p.toNat).partReady r = true := (State.briefed_ready (s.at t) r p.toNat).trans hready
  have hmin : ((s.at t).briefed r p.toNat).get F.PHC_CTRL_MIN_LIVE r ≤ (((s.at t).briefed r p.toNat).liveOf r).length := by
    rw [State.briefed_liveOf, State.briefed_get ((by decide : ∀ r : Fin 8, ([F.CJ_STATUS_LINK_OK, F.CJ_STATUS_N_SYS_SW,
      F.CJ_ILIM_ILIM_SYS, F.CJ_STATUS_PEER_LOST, F.HIC_STATUS_RETRY_CNT, F.TN_STAT_F].all (fun g => g.off
          (F.PHC_CTRL_MIN_LIVE.key r)) = true)) r)]
    exact hl
  have hlead : ((s.at t).briefed r p.toNat).get F.CJ_CFG_LEADER = s.get F.CJ_CFG_LEADER := State.briefed_get (by decide)
  have hpow : ((s.at t).briefed r p.toNat).pow = s.pow := State.briefed_pow ..
  generalize (s.at t).briefed r p.toNat = v at heffect hready' hmin hlead hpow
  have hstart : v.takeRstate r 2 = v.joinRamp r := State.joinStart_ready hready' hmin
  rw [hstart] at heffect
  have hfig : Figured v (v.joinRamp r) := (Figured.refl v).joinRamp
  have hramp : (v.joinRamp r).st r = .ramp := ((v.joinRamp_held r).st r).trans (State.enterRamp_st _ r)
  have hstop : (v.joinRamp r).pow.stopSet = 0 :=
    (v.joinRamp_held r).stop.trans ((State.enterRamp_stop _ r).trans ((congrArg Power.stopSet hpow).trans hs))
  have hstarted := v.joinRamp_started r
  generalize v.joinRamp r = x at heffect hfig hramp hstop hstarted
  have hunled : State.Unled { x with cj := { x.cj with rstate := 2 } } := by
    have hflag : x.get F.CJ_CFG_LEADER = s.get F.CJ_CFG_LEADER := (hfig.figure _ (by decide)).trans hlead
    exact .inl ((congrArg (· != 0) hflag).trans (State.cjIs_member hm).2)
  have hcalm : x.Calm := hfig.calm.trans ((congrArg Power.wantSafestopClr hpow).trans hc)
  refine run_gives (exec_railinfo t q p c s) heffect hcalm fun u hu hframe => ?_
  have hend := run_unled heffect hu hcalm hstop hunled
  have hno := mayArm_of_st hramp (by decide)
  refine ⟨?_, ?_⟩
  · refine (hend.st r hno ?_ ?_).trans hramp
    · exact fun h => by cases hramp.symm.trans h
    · exact fun h => by cases hramp.symm.trans h
  · have := congrArg Front.started (hend.kept.fr r hno)
    exact this.trans hstarted

/-! ## Phases that no longer run -/

/-- The phases of a rail are parked, but for those that a detector stopped. -/
def State.park (s : State) (w : Sw) (l : List (Fin 32)) : State := l.foldl (fun s n => if (s.ph n).sw == .stopped then s else s.setSw n w) s
theorem State.ph_setSw_self (s : State) (n : Fin 32) (w : Sw) : ((s.setSw n w).ph n).sw = w := by
  simp [State.setSw, State.ph, State.modPh]
theorem State.ph_setSw_of_ne (s : State) {n m : Fin 32} (w : Sw) (h : m ≠ n) : ((s.setSw n w).ph m).sw = (s.ph m).sw := by
  have hne : (n : Nat) ≠ m := fun e => h (Fin.ext e.symm)
  simp [State.setSw, State.ph, State.modPh, hne]
theorem State.parkStep_idle {w : Sw} (hw : w ≠ .active) (s : State) {n m : Fin 32} (h : m = n ∨ (s.ph m).sw ≠ .active) :
    ((if (s.ph n).sw == .stopped then s else s.setSw n w).ph m).sw ≠ .active := by
  by_cases hmn : m = n
  · subst hmn
    by_cases hs : (s.ph m).sw = .stopped
    · rw [if_pos (by rw [hs]; rfl), hs]
      decide
    · rw [if_neg (by simpa using hs), State.ph_setSw_self]
      exact hw
  · have hm := h.resolve_left hmn
    split
    · exact hm
    · rw [State.ph_setSw_of_ne _ _ hmn]
      exact hm
theorem State.park_idle {w : Sw} (hw : w ≠ .active) {m : Fin 32} (l : List (Fin 32)) (s : State) (h : m ∈ l ∨ (s.ph m).sw ≠ .active) :
    ((s.park w l).ph m).sw ≠ .active := by
  induction l generalizing s with
  | nil => exact h.resolve_left List.not_mem_nil
  | cons n l ih =>
    refine ih _ ?_
    rcases h with h | h
    · exact (List.mem_cons.1 h).symm.imp id fun e => State.parkStep_idle hw s (.inl e)
    · exact .inr (State.parkStep_idle hw s (.inr h))
theorem State.setRail_hiccup_phases (s : State) (r : Fin 8) : (s.setRail r .hiccup).phases =
    ((s.modRail r (fun x => { x with st := .hiccup })).park .idle (s.phasesOf r)).phases := by
  unfold State.setRail
  rfl
theorem State.setRail_armed_phases (s : State) (r : Fin 8) : (s.setRail r .armed).phases =
    ((s.modRail r (fun x => { x with st := .armed })).park .unused (s.phasesOf r)).phases := by
  unfold State.setRail
  rfl
theorem State.arm_idle (s : State) (q : Fin 8) {m : Fin 32} (h : (s.ph m).sw ≠ .active) : ((s.arm q).ph m).sw ≠ .active := by
  have hph : (s.arm q).phases = (s.setRail q .armed).phases := rfl
  unfold State.ph
  rw [hph, State.setRail_armed_phases]
  exact State.park_idle (by decide) _ _ (.inr h)
/-- A phase that does not run stays so at the end of an update. -/
theorem run_idlePhase {t : Nat} {f : State → State} {x u : State} (hx : f (s.at t) = x) (hu : run t f s = .next u) (hc : x.Calm)
    (hs : x.pow.stopSet = 0) (hl : x.Unled) {m : Fin 32} (h : (x.ph m).sw ≠ .active) : (u.ph m).sw ≠ .active := by
  refine run_ind (P := fun y => (y.ph m).sw ≠ .active) (fun y v hv hy => ?_) (fun y q hy => State.arm_idle y q hy) hx hu hc ?_
  · unfold State.ph
    rw [hv.phases]
    exact hy
  · rw [State.stopRound_self hs]
    obtain ⟨y, q, hcj⟩ := cjRound_unled hl (s.at t)
    rw [hcj]
    exact h

/-! ## RAILEV -/

/-- A RAILEV, as an effect on the state. -/
def evRun (x q p c : Nat) (s : State) : State := s.cjIn 4 x q p c false (fun s => s.evIn x p)
theorem exec_railev (t : Nat) (x q : BitVec 2) (p : BitVec 48) (c : BitVec 16) (s : State) :
    exec (.railev t x q p c false) s = run t (evRun x.toNat q.toNat p.toNat c.toNat) s := rfl

/-- The fields of a RAILEV. -/
structure EvWord (r : Fin 8) (w y n p : Nat) : Prop where
  rail : bits p 45 3 = r.val
  state : bits p 41 4 = w
  cause : bits p 37 4 = y
  retry : bits p 33 4 = n
theorem evWord {w y n p : Nat} (r : Fin 8) (hw : w < 16) (hy : y < 16) (hn : n < 16)
    (hp : p = r.val * 2 ^ 45 + w * 2 ^ 41 + y * 2 ^ 37 + n * 2 ^ 33) : EvWord r w y n p := by
  have hr8 := r.isLt
  constructor <;> (unfold bits; omega)

/-- What a RAILEV leaves before the part takes the carried state. -/
def State.warned (s : State) (r : Fin 8) (w n : Nat) : State :=
  let z := s.mark F.CJ_STATUS_LINK_OK
  State.set { z with cj := { z.cj with taken := true, evState := if z.leads then none else some w } } F.HIC_STATUS_RETRY_CNT r n
theorem State.warned_get {w n : Nat} {g : Fld} {j : Nat} (hl : F.CJ_STATUS_LINK_OK.off (g.key j) = true)
    (hr : F.HIC_STATUS_RETRY_CNT.off (g.key j) = true) : (s.warned r w n).get g j = s.get g j := by
  have hlink : (s.mark F.CJ_STATUS_LINK_OK).get g j = s.get g j := State.get_set_off hl (by decide)
  exact (State.get_set_off hr r.isLt).trans hlink
theorem State.warned_retry (s : State) (r : Fin 8) (w n : Nat) : (s.warned r w n).get F.HIC_STATUS_RETRY_CNT r = n % 2 ^ 4 :=
  State.get_set_self ..
theorem State.warned_parts (s : State) (r : Fin 8) (w n : Nat) :
    (s.warned r w n).rails = s.rails ∧ (s.warned r w n).pow = s.pow ∧ (s.warned r w n).now = s.now := ⟨rfl, rfl, rfl⟩
theorem State.warned_phasesOf (s : State) (r : Fin 8) (w n : Nat) : (s.warned r w n).phasesOf r = s.phasesOf r := by
  have hoff : ∀ m : Fin 32, (F.CJ_STATUS_LINK_OK.off (F.PH_STATE_ASSIGNED.key m) = true ∧
      F.HIC_STATUS_RETRY_CNT.off (F.PH_STATE_ASSIGNED.key m) = true) ∧ F.CJ_STATUS_LINK_OK.off (F.PH_STATE_RAIL.key m) = true ∧
        F.HIC_STATUS_RETRY_CNT.off (F.PH_STATE_RAIL.key m) = true := by decide
  have hon : (s.warned r w n).onRail r = s.onRail r := funext fun m => by
    obtain ⟨⟨h1, h2⟩, h3, h4⟩ := hoff m
    simp only [State.onRail, State.flag, State.railOf, State.warned_get h1 h2, State.warned_get h3 h4]
  unfold State.phasesOf
  rw [hon]
theorem ev_effect {t x q p c w y n : Nat} (hup : s.cjUp = true) (hd : s.flag F.CJ_STATUS_DUP_CTL = false) (hx : x ≠ s.ctl)
    (hr : s.spanRail = some r) (hcrc : cjCrc 4 x q p = c) (hw : EvWord r w y n p) :
    evRun x q p c (s.at t) =
      let v := (s.at t).warned r w n
      if w = 5 then (if v.st r == .hiccup then v else v.partHiccup r)
      else if w = 7 then (if v.st r == .latched then v else v.railLatch r y true) else v := by
  have hspan : ((s.at t).mark F.CJ_STATUS_LINK_OK).spanRail = some r := by
    unfold State.spanRail
    rw [State.mark_eq, State.flag_set_off (by decide) (by decide), State.flag_set_off (by decide) (by decide)]
    exact hr
  have hpart : ((s.at t).mark F.CJ_STATUS_LINK_OK).partOf p = some r := by
    unfold State.partOf
    rw [hspan]
    exact if_pos hw.rail.symm
  have hdup : ((s.at t).mark F.CJ_STATUS_LINK_OK).flag F.CJ_STATUS_DUP_CTL = false := (State.flag_set_off (by decide) (by decide)).trans hd
  have hctl : ((s.at t).mark F.CJ_STATUS_LINK_OK).ctl = s.ctl := State.get_set_off (by decide) (by decide)
  refine (State.cjIn_ok _ (show (s.at t).cjUp = true from hup) hcrc).trans ?_
  unfold State.evIn
  rw [hdup, hctl, hpart, hw.state, hw.cause, hw.retry]
  exact if_neg (by simpa using hx)

theorem State.modFr_st (s : State) (r q : Fin 8) (f : Front → Front) : (s.modFr r f).st q = s.st q := ((Held.refl s).modFr r f).st q
theorem State.modFr_pow (s : State) (r : Fin 8) (f : Front → Front) : (s.modFr r f).pow = s.pow := rfl
theorem State.partHiccup_st (s : State) (r : Fin 8) : (s.partHiccup r).st r = .hiccup := by
  unfold State.partHiccup
  rw [State.modFr_st, State.setRail_st]
theorem State.partHiccup_stop (s : State) (r : Fin 8) : (s.partHiccup r).pow.stopSet = s.pow.stopSet := by
  unfold State.partHiccup
  rw [State.modFr_pow, State.setRail_pow, (s.fastStop_held r).stop]
theorem State.partHiccup_hicAt (s : State) (r : Fin 8) : ((s.partHiccup r).fr r).hicAt = s.now := by
  unfold State.partHiccup
  simp only [State.fr, State.modFr, State.rail_modRail_self]
/-- But for the instant of the fall, the end of an update may do the same. -/
theorem State.partHiccup_framed (s : State) (r : Fin 8) : ∃ x, Framed s x ∧ (s.partHiccup r).regs = x.regs ∧
    (s.partHiccup r).pow = x.pow := by
  have h : Framed s ((s.fastStop r).setRail r .hiccup) := State.setRail_framed r .hiccup (State.fastStop_framed r (.refl s))
  unfold State.partHiccup
  generalize (s.fastStop r).setRail r .hiccup = x at h
  exact ⟨x, h, rfl, rfl⟩
theorem State.partHiccup_get {g : Fld} {j : Nat} (hg : settleKey (g.key j) = false) : (s.partHiccup r).get g j = s.get g j := by
  obtain ⟨x, hx, hregs, -⟩ := s.partHiccup_framed r
  unfold State.get
  rw [hregs]
  exact hx.regs _ hg
theorem State.partHiccup_calm (s : State) (r : Fin 8) : (s.partHiccup r).pow.wantSafestopClr = s.pow.wantSafestopClr := by
  obtain ⟨x, hx, -, hpow⟩ := s.partHiccup_framed r
  rw [hpow]
  exact hx.calm
theorem State.partHiccup_idle (s : State) {r : Fin 8} {m : Fin 32} (hm : m ∈ s.phasesOf r) : ((s.partHiccup r).ph m).sw ≠ .active := by
  have hframed : Framed s (s.fastStop r) := State.fastStop_framed r (.refl s)
  have hkeys : ∀ n : Fin 32, settleKey (F.PH_STATE_ASSIGNED.key n) = false ∧ settleKey (F.PH_STATE_RAIL.key n) = false := by decide
  have hrail : (s.fastStop r).phasesOf r = s.phasesOf r := by
    unfold State.phasesOf State.onRail State.railOf State.flag
    simp only [hframed.get _ _ (hkeys _).1, hframed.get _ _ (hkeys _).2]
  have hph : (s.partHiccup r).phases = ((s.fastStop r).setRail r .hiccup).phases := by
    unfold State.partHiccup
    simp only [State.modFr, State.modRail_phases]
  unfold State.ph
  rw [hph, State.setRail_hiccup_phases, hrail]
  exact State.park_idle (by decide) _ _ (.inl hm)

theorem Framed.hicAt (h : Framed s z) (r : Fin 8) : (z.fr r).hicAt = (s.fr r).hicAt := by
  have := congrArg Front.hicAt (h.fr r)
  exact this
theorem railev_hiccup {t y n : Nat} {x q : BitVec 2} {p : BitVec 48} {c : BitVec 16} (hc : s.Calm) (hup : s.cjUp = true)
    (hs : s.pow.stopSet = 0) (hd : s.flag F.CJ_STATUS_DUP_CTL = false) (hx : x.toNat ≠ s.ctl) (hr : s.spanRail = some r)
    (hl : s.get F.CJ_SPAN_SYS_MIN_LIVE = 0) (hcrc : cjCrc 4 x.toNat q.toNat p.toNat = c.toNat) (hn : n < 16)
    (hw : EvWord r 5 y n p.toNat) (hst : s.st r = .reg ∨ s.st r = .ramp) :
    Gives (.railev t x q p c false) s (fun u => u.st r = .hiccup ∧ u.get F.HIC_STATUS_RETRY_CNT r = n
      ∧ (∀ m ∈ s.phasesOf r, (u.ph m).sw ≠ .active) ∧ (u.fr r).hicAt = (s.at t).now) := by
  have heffect := ev_effect (t := t) hup hd hx hr hcrc hw
  obtain ⟨hrails, hpow, hnow⟩ := (s.at t).warned_parts r 5 n
  have hstv : ((s.at t).warned r 5 n).st r = s.st r := congrArg (fun y : Vector Rail 8 => y[r].st) hrails
  have hretry : ((s.at t).warned r 5 n).get F.HIC_STATUS_RETRY_CNT r = n := ((s.at t).warned_retry r 5 n).trans (Nat.mod_eq_of_lt hn)
  have hmin : ((s.at t).warned r 5 n).get F.CJ_SPAN_SYS_MIN_LIVE = 0 := (State.warned_get (by decide) (by decide)).trans hl
  have hrail : ((s.at t).warned r 5 n).phasesOf r = s.phasesOf r := (s.at t).warned_phasesOf r 5 n
  generalize (s.at t).warned r 5 n = v at heffect hrails hstv hpow hnow hretry hmin hrail
  have heffect' : evRun x.toNat q.toNat p.toNat c.toNat (s.at t) = v.partHiccup r := heffect.trans ((if_pos rfl).trans (if_neg (by
    rw [hstv]
    rcases hst with h | h <;> rw [h] <;> decide)))
  have hcalm : (v.partHiccup r).Calm := (v.partHiccup_calm r).trans ((congrArg Power.wantSafestopClr hpow).trans hc)
  have hstop : (v.partHiccup r).pow.stopSet = 0 := (v.partHiccup_stop r).trans ((congrArg Power.stopSet hpow).trans hs)
  have hunled : (v.partHiccup r).Unled := .inr ((State.partHiccup_get (by decide)).trans hmin)
  have hin := v.partHiccup_st r
  refine run_gives (exec_railev t x q p c s) heffect' hcalm fun u hu hframe => ⟨?_, ?_, fun m hm => ?_, ?_⟩
  · refine ((run_unled heffect' hu hcalm hstop hunled).st r (mayArm_of_st hin (by decide)) ?_ ?_).trans hin
    · exact fun h => by cases hin.symm.trans h
    · exact fun h => by cases hin.symm.trans h
  · have hoff : settleKey (F.HIC_STATUS_RETRY_CNT.key r) = false := (by decide : ∀ r : Fin 8, settleKey
      (F.HIC_STATUS_RETRY_CNT.key r) = false) r
    exact (hframe.get _ _ hoff).trans ((State.partHiccup_get hoff).trans hretry)
  · exact run_idlePhase heffect' hu hcalm hstop hunled (v.partHiccup_idle (hrail ▸ hm))
  · exact (hframe.hicAt r).trans ((v.partHiccup_hicAt r).trans hnow)

/-- A rail that is not critical latches with its cause. -/
theorem State.railLatch_fast {cause : Nat} (h : (s.cfg r).critical = false) : s.railLatch r cause true =
    (s.fastStop r).latchNow r cause := by
  have hcfg : ((s.fastStop r).latchNow r cause).cfg r = s.cfg r :=
    (State.latchNow_framed r cause (State.fastStop_framed r (.refl s))).cfg r
  unfold State.railLatch State.when
  dsimp only
  rw [if_pos rfl, hcfg, h]
  exact if_neg Bool.false_ne_true
theorem State.railRest_held (s : State) (r : Fin 8) (st : RailState) : Held (s.setRail r st) (s.railRest r st) := by
  unfold State.railRest State.setSen
  exact (((Held.refl _).setB _ _ _).modEng _ _).modFr _ _
theorem State.latchNow_held (s : State) (r : Fin 8) (cause : Nat) : Held (s.setRail r .latched) (s.latchNow r cause) := by
  unfold State.latchNow
  exact State.logF_held _ _ _ _ ((s.railRest_held r .latched).set _ _ _)
theorem State.latchNow_st (s : State) (r : Fin 8) (cause : Nat) : (s.latchNow r cause).st r = .latched :=
  ((s.latchNow_held r cause).st r).trans (State.setRail_st r .latched)
theorem State.latchNow_stop (s : State) (r : Fin 8) (cause : Nat) : (s.latchNow r cause).pow.stopSet = s.pow.stopSet := by
  rw [(s.latchNow_held r cause).stop, State.setRail_pow]
theorem State.latchNow_cause (s : State) (r : Fin 8) (cause : Nat) : (s.latchNow r cause).get F.RP_STATUS_LATCH_CAUSE r = cause % 2 ^ 4 :=
    by
  unfold State.latchNow State.get
  rw [State.logF, State.raise_regs _ _ _ _ _ rfl]
  exact State.get_set_self ..

theorem railev_latched {t y n : Nat} {x q : BitVec 2} {p : BitVec 48} {c : BitVec 16} (hc : s.Calm) (hup : s.cjUp = true)
    (hs : s.pow.stopSet = 0) (hd : s.flag F.CJ_STATUS_DUP_CTL = false) (hx : x.toNat ≠ s.ctl) (hr : s.spanRail = some r)
    (hl : s.get F.CJ_SPAN_SYS_MIN_LIVE = 0) (hcrc : cjCrc 4 x.toNat q.toNat p.toNat = c.toNat) (hy : y < 16) (hn : n < 16)
    (hw : EvWord r 7 y n p.toNat) (hst : s.st r = .reg ∨ s.st r = .ramp) (hcr : (s.cfg r).critical = false) :
    Gives (.railev t x q p c false) s (fun u => u.st r = .latched ∧ u.get F.RP_STATUS_LATCH_CAUSE r = y
      ∧ u.get F.HIC_STATUS_RETRY_CNT r = n) := by
  have heffect := ev_effect (t := t) hup hd hx hr hcrc hw
  obtain ⟨hrails, hpow, -⟩ := (s.at t).warned_parts r 7 n
  have hstv : ((s.at t).warned r 7 n).st r = s.st r := congrArg (fun y : Vector Rail 8 => y[r].st) hrails
  have hcrv : (((s.at t).warned r 7 n).cfg r).critical = false := (congrArg (fun y : Vector Rail 8 => y[r].cfg.critical) hrails).trans hcr
  have hretry : ((s.at t).warned r 7 n).get F.HIC_STATUS_RETRY_CNT r = n := ((s.at t).warned_retry r 7 n).trans (Nat.mod_eq_of_lt hn)
  have hmin : ((s.at t).warned r 7 n).get F.CJ_SPAN_SYS_MIN_LIVE = 0 := (State.warned_get (by decide) (by decide)).trans hl
  generalize (s.at t).warned r 7 n = v at heffect hrails hstv hpow hcrv hretry hmin
  have heffect' : evRun x.toNat q.toNat p.toNat c.toNat (s.at t) = (v.fastStop r).latchNow r y := by
    refine heffect.trans ((if_neg (by decide)).trans ((if_pos rfl).trans ((if_neg (by
      rw [hstv]
      rcases hst with h | h <;> rw [h] <;> decide)).trans (State.railLatch_fast hcrv))))
  have hframed : Framed v ((v.fastStop r).latchNow r y) := State.latchNow_framed r y (State.fastStop_framed r (.refl v))
  have hstop : ((v.fastStop r).latchNow r y).pow.stopSet = 0 := by
    rw [State.latchNow_stop, (v.fastStop_held r).stop, hpow]
    exact hs
  have hin := (v.fastStop r).latchNow_st r y
  have hcause : ((v.fastStop r).latchNow r y).get F.RP_STATUS_LATCH_CAUSE r = y :=
    ((v.fastStop r).latchNow_cause r y).trans (Nat.mod_eq_of_lt hy)
  generalize (v.fastStop r).latchNow r y = z at heffect' hframed hstop hin hcause
  have hcalm : z.Calm := hframed.calm.trans ((congrArg Power.wantSafestopClr hpow).trans hc)
  have hunled : z.Unled := .inr ((hframed.get _ 0 (by decide)).trans hmin)
  refine run_gives (exec_railev t x q p c s) heffect' hcalm fun u hu hframe => ⟨?_, ?_, ?_⟩
  · refine ((run_unled heffect' hu hcalm hstop hunled).st r (mayArm_of_st hin (by decide)) ?_ ?_).trans hin
    · exact fun h => by cases hin.symm.trans h
    · exact fun h => by cases hin.symm.trans h
  · have hoff := (by decide : ∀ r : Fin 8, plainKey (F.RP_STATUS_LATCH_CAUSE.key r) = false) r
    exact ((run_unled heffect' hu hcalm hstop hunled).kept.regs _ hoff).trans hcause
  · have hoff := (by decide : ∀ r : Fin 8, settleKey (F.HIC_STATUS_RETRY_CNT.key r) = false) r
    exact (hframe.get _ _ hoff).trans ((hframed.get _ _ hoff).trans hretry)

end Sys2Proof.Machine
end

section
/-!
O53: the leader lost, islands and their end (R478).
-/
namespace Sys2Proof.Machine

variable {s z : State} {r : Fin 8}

/-- LOST_S and the link's status of a leader lost. -/
def State.lossMarked (s : State) : State :=
  (((s.logC 0x1003 0 [(1, 0), (2, 1), (1, s.get F.CJ_STATUS_N_SYS_SW)]).mark F.CJ_STICKY_LOST_S).clear F.CJ_STATUS_RING_OK).clear
    F.CJ_STATUS_LINK_OK
/-- With the alert on the page of the part. -/
def State.lossTold (s : State) (r : Fin 8) : State := s.lossMarked.pmbBits F.PMB_RSTAT2_STATUS_MFR r 8

/-- What the loss of the leader leaves of the other parts. -/
structure LossTold (s z : State) : Prop where
  rails : z.rails = s.rails
  pow : z.pow = s.pow
  cj : z.cj = s.cj
  now : z.now = s.now
  record : z.Records 0x1003
  lost : z.get F.CJ_STICKY_LOST_S = 1
  ring : z.get F.CJ_STATUS_RING_OK = 0
  island : z.get F.CJ_STATUS_ISLAND = s.get F.CJ_STATUS_ISLAND
  count : z.get F.CJ_COUNT_ISLAND_N = s.get F.CJ_COUNT_ISLAND_N
  leader : z.get F.CJ_CFG_LEADER = s.get F.CJ_CFG_LEADER
theorem State.lossMarked_get {g : Fld} (hr : F.CJ_STATUS_RING_OK.off (g.key 0) = true) (hl : F.CJ_STATUS_LINK_OK.off (g.key 0) = true)
    (hs : F.CJ_STICKY_LOST_S.off (g.key 0) = true) : s.lossMarked.get g = s.get g := by
  have hlog : (s.logC 0x1003 0 [(1, 0), (2, 1), (1, s.get F.CJ_STATUS_N_SYS_SW)]).get g = s.get g := by
    have h := State.raise_regs s false 0 [(1, 0), (2, 1), (1, s.get F.CJ_STATUS_N_SYS_SW)] .none (code := 0x1003) rfl
    exact congrArg (fun k => Store.get k (g.key 0)) h
  exact (State.get_set_off hl (by decide)).trans ((State.get_set_off hr (by decide)).trans ((State.get_set_off hs (by decide)).trans hlog))
theorem State.lossTold_get {g : Fld} (hg : F.PMB_RSTAT2_STATUS_MFR.off (g.key 0) = true) : (s.lossTold r).get g = s.lossMarked.get g :=
  State.get_set_off hg r.isLt
theorem State.lossTold_is (s : State) (r : Fin 8) : LossTold s (s.lossTold r) where
  rails := State.raise_rails ..
  pow := State.raise_pow ..
  cj := State.raise_cj ..
  now := State.raise_now ..
  record := State.logC_records _ _ _ rfl
  lost := (State.lossTold_get (by decide)).trans ((State.get_set_off (by decide) (by decide)).trans ((State.get_set_off (by decide)
    (by decide)).trans (State.get_set_self ..)))
  ring := (State.lossTold_get (by decide)).trans ((State.get_set_off (by decide) (by decide)).trans (State.get_set_self ..))
  island := (State.lossTold_get (by decide)).trans (State.lossMarked_get (by decide) (by decide) (by decide))
  count := (State.lossTold_get (by decide)).trans (State.lossMarked_get (by decide) (by decide) (by decide))
  leader := (State.lossTold_get (by decide)).trans (State.lossMarked_get (by decide) (by decide) (by decide))
theorem State.lossMarked_spanRail (s : State) : s.lossMarked.spanRail = s.spanRail := by
  have hflag {g : Fld} (hr : F.CJ_STATUS_RING_OK.off (g.key 0) = true) (hl : F.CJ_STATUS_LINK_OK.off (g.key 0) = true)
      (hs : F.CJ_STICKY_LOST_S.off (g.key 0) = true) : s.lossMarked.flag g = s.flag g := congrArg (· != 0) (State.lossMarked_get hr hl hs)
  have hrails : s.lossMarked.rails = s.rails := State.raise_rails ..
  have hcfg (q : Fin 8) : s.lossMarked.cfg q = s.cfg q := congrArg (fun y : Vector Rail 8 => y[q].cfg) hrails
  unfold State.spanRail
  rw [hflag (by decide) (by decide) (by decide), hflag (g := F.CJ_STATUS_DUP_CTL) (by decide) (by decide) (by decide)]
  simp only [hcfg]
theorem State.lossMarked_alert (hr : s.spanRail = some r) : s.lossMarked.peerAlert = s.lossTold r := by
  unfold State.peerAlert
  rw [State.lossMarked_spanRail, hr]
  rfl

/-- The leader is lost since an instant. -/
def State.declareLost (s : State) (t : Nat) : State := { s with cj := { s.cj with leaderLost := true, lostAt := t } }
/-- A member that has heard nothing of the leader for long enough (R478). -/
theorem State.leaderLost_eq (hup : s.cjUp = true) (hm : s.cjIs false = true) (hsil : s.leaderSilent = true) (hr : s.spanRail = some r) :
    s.leaderLost =
      if (s.st r).switching then (if s.flag F.CJ_STATUS_ISLAND then s else (s.lossTold r).island r)
      else if s.cj.leaderLost then s else (s.lossTold r).declareLost s.now := by
  unfold State.leaderLost
  rw [hup, hm, hsil, hr]
  show (if (s.st r).switching then (if s.flag F.CJ_STATUS_ISLAND then s else s.lossMarked.peerAlert.island r)
    else if s.cj.leaderLost then s else s.lossMarked.peerAlert.declareLost s.now) = _
  rw [State.lossMarked_alert hr]
/-- Silence goes on while the state stands. -/
theorem State.leaderSilent_at (t : Nat) (h : s.leaderSilent = true) : (s.at t).leaderSilent = true := by
  have hnow : s.now ≤ (s.at t).now := Nat.le_max_left ..
  unfold State.leaderSilent at h ⊢
  split at h
  next hany => exact (if_pos hany).trans (decide_eq_true ((of_decide_eq_true h).trans hnow))
  next hany => exact (if_neg hany).trans (decide_eq_true ((of_decide_eq_true h).trans hnow))
theorem State.leaderSilent_switching (hr : s.spanRail = some r) (hsw : (s.st r).switching = true) (ht : s.cj.targetAt + 1000 ≤ s.now) :
    s.leaderSilent = true := by
  unfold State.leaderSilent
  rw [hr]
  exact (if_pos hsw).trans (decide_eq_true ht)
theorem State.leaderSilent_resting (hr : s.spanRail = some r) (hsw : (s.st r).switching = false) (ht : s.cj.leaderAt + 5000 ≤ s.now) :
    s.leaderSilent = true := by
  unfold State.leaderSilent
  rw [hr]
  exact (if_neg (Bool.eq_false_iff.1 hsw)).trans (decide_eq_true ht)

theorem leaderLost_resting {t : Nat} (hc : s.Calm) (hup : s.cjUp = true) (hm : s.cjIs false = true) (hr : s.spanRail = some r)
    (hsw : (s.st r).switching = false) (hl : s.cj.leaderLost = false) (ht : s.cj.leaderAt + 5000 ≤ s.now) :
    Gives (.leaderLost t) s (fun u => u.cj.leaderLost = true ∧ u.cj.lostAt = (s.at t).now
      ∧ u.get F.CJ_STATUS_ISLAND = s.get F.CJ_STATUS_ISLAND ∧ u.Records 0x1003) := by
  have heffect : (s.at t).leaderLost = ((s.at t).lossTold r).declareLost (s.at t).now :=
    (State.leaderLost_eq (s := s.at t) hup hm (State.leaderSilent_at t (State.leaderSilent_resting hr hsw ht)) hr).trans
      ((if_neg (Bool.eq_false_iff.1 hsw)).trans (if_neg (Bool.eq_false_iff.1 hl)))
  have htold := (s.at t).lossTold_is r
  generalize (s.at t).lossTold r = z at heffect htold
  refine run_gives (f := State.leaderLost) rfl heffect ((congrArg Power.wantSafestopClr htold.pow).trans hc) fun u _ hframe => ⟨?_, ?_, ?_,
      ?_⟩
  · have := congrArg (fun x : State => x.cj.leaderLost) hframe.rest
    exact this
  · have := congrArg (fun x : State => x.cj.lostAt) hframe.rest
    exact this
  · exact (hframe.get _ 0 (by decide)).trans htold.island
  · exact hframe.records htold.record

/-! ## Islands -/

/-- What an island leaves of a part. -/
structure Islanded (r : Fin 8) (s x : State) : Prop where
  pow : x.pow = s.pow
  rcd : x.rcd = s.rcd
  f : x.cj.f = 0
  islandAt : x.cj.islandAt = s.now
  uDem : (x.eng r).uDem = (s.eng r).commonU
  island : x.get F.CJ_STATUS_ISLAND = 1
  sticky : x.get F.CJ_STICKY_ISLAND_S = 1
  count : x.get F.CJ_COUNT_ISLAND_N = incSat 8 (s.get F.CJ_COUNT_ISLAND_N) % 2 ^ 8
  lost : x.get F.CJ_STICKY_LOST_S = s.get F.CJ_STICKY_LOST_S
  ring : x.get F.CJ_STATUS_RING_OK = s.get F.CJ_STATUS_RING_OK
theorem State.preload_get {u0 : Int} {g : Fld} (h1 : F.ENG_STICKY_SWAP_CLAMP.off (g.key 0) = true) (h2 : F.ENG_STATUS_CL_ACT.off
    (g.key 0) = true) :
    (s.preload r u0).get g = s.get g := by
  have hstick (x : State) (c : Bool) : (x.stick F.ENG_STICKY_SWAP_CLAMP r c).get g = x.get g := by
    unfold State.stick
    split
    · exact State.get_set_off h1 r.isLt
    · rfl
  unfold State.preload
  extract_lets e c e1 raw i stuck
  have hstuck : stuck.get g = s.get g := (State.get_set_off h2 r.isLt).trans (hstick s (i != raw))
  exact (State.get_modRail ..).trans hstuck
/-- Beside the rails and the registers, the preload changes nothing. -/
theorem State.preload_parts (s : State) (r : Fin 8) (u0 : Int) :
    (s.preload r u0).pow = s.pow ∧ (s.preload r u0).rcd = s.rcd ∧ (s.preload r u0).cj = s.cj := by
  have hstick (c : Bool) : (s.stick F.ENG_STICKY_SWAP_CLAMP r c).pow = s.pow ∧ (s.stick F.ENG_STICKY_SWAP_CLAMP r c).rcd = s.rcd ∧
      (s.stick F.ENG_STICKY_SWAP_CLAMP r c).cj = s.cj := by
    unfold State.stick
    split <;> exact ⟨rfl, rfl, rfl⟩
  unfold State.preload
  exact hstick _
theorem State.preload_uDem (s : State) (r : Fin 8) (u0 : Int) : ((s.preload r u0).eng r).uDem = u0 := by
  unfold State.preload
  simp only [State.eng, State.modEng, State.rail_modRail_self]
/-- The part is on its own from now on. -/
def State.cutOff (s : State) : State :=
  (((State.mark { s with cj := { s.cj with f := 0, goodRun := 0, islandAt := s.now, prepos := false } } F.CJ_STATUS_ISLAND).mark
    F.CJ_STICKY_ISLAND_S).inc F.CJ_COUNT_ISLAND_N)
theorem State.island_preload (s : State) (r : Fin 8) : Islanded r s (((s.cutOff).memberF r).preload r (s.eng r).commonU) := by
  obtain ⟨hpow, hrcd, hcj⟩ := ((s.cutOff).memberF r).preload_parts r (s.eng r).commonU
  have hget {g : Fld} (h1 : F.ENG_STICKY_SWAP_CLAMP.off (g.key 0) = true) (h2 : F.ENG_STATUS_CL_ACT.off (g.key 0) = true)
      (hf : F.TN_STAT_F.off (g.key 0) = true) :
      (((s.cutOff).memberF r).preload r (s.eng r).commonU).get g = s.cutOff.get g := (State.preload_get h1 h2).trans (State.memberF_get hf)
  have hkeep {g : Fld} (hn : F.CJ_COUNT_ISLAND_N.off (g.key 0) = true) (ht : F.CJ_STICKY_ISLAND_S.off (g.key 0) = true)
      (hi : F.CJ_STATUS_ISLAND.off (g.key 0) = true) : s.cutOff.get g = s.get g :=
    (State.get_set_off hn (by decide)).trans ((State.get_set_off ht (by decide)).trans (State.get_set_off hi (by decide)))
  have hcount : s.cutOff.get F.CJ_COUNT_ISLAND_N = incSat 8 (s.get F.CJ_COUNT_ISLAND_N) % 2 ^ 8 := by
    refine (State.get_set_self ..).trans ?_
    rw [State.mark_eq, State.mark_eq, State.get_set_off (by decide) (by decide), State.get_set_off (by decide) (by decide)]
    rfl
  exact {
    pow := hpow, rcd := hrcd
    f := congrArg Cj.f hcj
    islandAt := congrArg Cj.islandAt hcj
    uDem := State.preload_uDem ..
    island := (hget (by decide) (by decide) (by decide)).trans ((State.get_set_off (by decide) (by decide)).trans ((State.get_set_off
        (by decide)
      (by decide)).trans (State.get_set_self ..)))
    sticky := (hget (by decide) (by decide) (by decide)).trans ((State.get_set_off (by decide) (by decide)).trans (State.get_set_self ..))
    count := (hget (by decide) (by decide) (by decide)).trans hcount
    lost := (hget (by decide) (by decide) (by decide)).trans (hkeep (by decide) (by decide) (by decide))
    ring := (hget (by decide) (by decide) (by decide)).trans (hkeep (by decide) (by decide) (by decide)) }
theorem State.island_is (s : State) (r : Fin 8) : Islanded r s (s.island r) := by
  have h := s.island_preload r
  have heq : s.island r = (fun y : State => if y.st r == .rampdown then y.modEng r (fun g => { g with rampT0 := g.dac, rampK := 0 }) else y)
    (((s.cutOff).memberF r).preload r (s.eng r).commonU) := rfl
  rw [heq]
  generalize ((s.cutOff).memberF r).preload r (s.eng r).commonU = y at h
  dsimp only
  split
  · refine ⟨h.pow, h.rcd, h.f, h.islandAt, ?_, h.island, h.sticky, h.count, h.lost, h.ring⟩
    rw [← h.uDem]
    simp only [State.eng, State.modEng, State.rail_modRail_self]
  · exact h
theorem incSat_byte (n : Nat) : incSat 8 n % 2 ^ 8 = min 255 (n + 1) := by
  unfold incSat
  split <;> omega

theorem leaderLost_island {t : Nat} (hc : s.Calm) (hup : s.cjUp = true) (hm : s.cjIs false = true) (hr : s.spanRail = some r)
    (hsw : (s.st r).switching = true) (hi : s.flag F.CJ_STATUS_ISLAND = false) (ht : s.cj.targetAt + 1000 ≤ s.now) :
    Gives (.leaderLost t) s (fun u => u.get F.CJ_STATUS_ISLAND = 1 ∧ u.get F.CJ_STICKY_ISLAND_S = 1 ∧ u.get F.CJ_STICKY_LOST_S = 1
      ∧ u.get F.CJ_COUNT_ISLAND_N = min 255 (s.get F.CJ_COUNT_ISLAND_N + 1) ∧ u.cj.islandAt = (s.at t).now ∧ u.cj.f = 0
      ∧ (u.eng r).uDem = (s.eng r).commonU ∧ u.get F.CJ_STATUS_RING_OK = 0 ∧ u.Records 0x1003) := by
  have heffect : (s.at t).leaderLost = ((s.at t).lossTold r).island r :=
    (State.leaderLost_eq (s := s.at t) hup hm (State.leaderSilent_at t (State.leaderSilent_switching hr hsw ht)) hr).trans
      ((if_pos hsw).trans (if_neg (Bool.eq_false_iff.1 hi)))
  have htold := (s.at t).lossTold_is r
  have his := ((s.at t).lossTold r).island_is r
  generalize (s.at t).lossTold r = z at heffect htold his
  generalize z.island r = x at heffect his
  have hcommon : (z.eng r).commonU = (s.eng r).commonU := congrArg (fun y : Vector Rail 8 => y[r].eng.commonU) htold.rails
  have hrecord : x.Records 0x1003 := by
    unfold State.Records
    rw [his.rcd]
    exact htold.record
  refine run_gives (f := State.leaderLost) rfl heffect ((congrArg Power.wantSafestopClr (his.pow.trans htold.pow)).trans hc) fun u _ hframe
      =>
    ⟨?_, ?_, ?_, ?_, ?_, ?_, ?_, ?_, hframe.records hrecord⟩
  · exact (hframe.get _ 0 (by decide)).trans his.island
  · exact (hframe.get _ 0 (by decide)).trans his.sticky
  · exact (hframe.get _ 0 (by decide)).trans (his.lost.trans htold.lost)
  · exact (hframe.get _ 0 (by decide)).trans (his.count.trans ((incSat_byte _).trans (congrArg (fun n => min 255 (n + 1)) htold.count)))
  · have := congrArg (fun x : State => x.cj.islandAt) hframe.rest
    exact this.trans (his.islandAt.trans htold.now)
  · have := congrArg (fun x : State => x.cj.f) hframe.rest
    exact this.trans his.f
  · have := congrArg Engine.uDem (hframe.eng r)
    exact this.trans (his.uDem.trans hcommon)
  · exact (hframe.get _ 0 (by decide)).trans (his.ring.trans htold.ring)

/-- ISLAND_MAX has passed on a part that runs. -/
theorem islandTimeout_stops {t : Nat} (hc : s.Calm) (hs : s.pow.stopSet = 0) (hr : s.spanRail = some r)
    (hi : s.flag F.CJ_STATUS_ISLAND = true)
    (ht : s.cj.islandAt + s.get F.CJ_SPAN_ISLAND_MAX * 1000000 ≤ s.now) (hl : s.get F.CJ_CFG_LEADER = 0)
    (hst : s.st r = .reg ∨ s.st r = .shed ∨ s.st r = .ramp) :
    Gives (.islandTimeout t) s (fun u => u.st r = .rampdown ∧ (u.fr r).stop = .toOff ∧ u.Records 0x1004) := by
  have hnow : s.now ≤ (s.at t).now := Nat.le_max_left ..
  have hruns : ((s.at t).st r == .ramp || (s.at t).st r == .reg || (s.at t).st r == .shed) = true := by
    show (s.st r == .ramp || s.st r == .reg || s.st r == .shed) = true
    rcases hst with h | h | h <;> rw [h] <;> rfl
  have hflag : (s.at t).flag F.CJ_STATUS_ISLAND = true := hi
  obtain ⟨items, heffect⟩ : ∃ items, (s.at t).islandTimeout = ((s.at t).softStop r .toOff 0).logC 0x1004 r items := by
    unfold State.islandTimeout
    rw [show (s.at t).spanRail = some r from hr]
    refine ⟨_, if_neg ?_⟩
    rw [hflag, hruns, decide_eq_false (by simpa using le_trans ht hnow)]
    decide
  obtain ⟨hdown, hstop, hpow⟩ := State.softStop_running (s := s.at t) (r := r) (k := .toOff) (cause := 0)
    (show s.st r = .ramp ∨ s.st r = .reg ∨ s.st r = .shed by
      rcases hst with h | h | h
      exacts [.inr (.inl h), .inr (.inr h), .inl h])
  have hframed : Framed (s.at t) ((s.at t).softStop r .toOff 0) := State.softStop_framed r .toOff 0 (.refl _)
  generalize (s.at t).softStop r .toOff 0 = v at heffect hdown hstop hpow hframed
  have htold : Framed v (v.logC 0x1004 r items) := State.logC_only _ _ rfl
  have hheld : Held v (v.logC 0x1004 r items) := State.logC_held _ _ _ (.refl v)
  have hrails : (v.logC 0x1004 r items).rails = v.rails := State.raise_rails ..
  have hrecord : (v.logC 0x1004 r items).Records 0x1004 := State.logC_records _ _ _ rfl
  generalize v.logC 0x1004 r items = x at heffect htold hheld hrails hrecord
  have hcalm : x.Calm := htold.calm.trans (hframed.calm.trans hc)
  have hno : x.pow.stopSet = 0 := hheld.stop.trans ((congrArg Power.stopSet hpow).trans hs)
  have hleader : x.get F.CJ_CFG_LEADER = s.get F.CJ_CFG_LEADER := (htold.get _ 0 (by decide)).trans (hframed.get _ 0 (by decide))
  have hunled : x.Unled := .inl ((congrArg (· != 0) (hleader.trans hl)).trans rfl)
  have hin : x.st r = .rampdown := (hheld.st r).trans hdown
  refine run_gives (f := State.islandTimeout) rfl heffect hcalm fun u hu hframe => ?_
  have hend := run_unled heffect hu hcalm hno hunled
  have harm := mayArm_of_st hin (by decide)
  refine ⟨?_, ?_, hframe.records hrecord⟩
  · refine (hend.st r harm ?_ ?_).trans hin
    · exact fun h => by cases hin.symm.trans h
    · exact fun h => by cases hin.symm.trans h
  · have hlast := congrArg Front.stop (hend.kept.fr r harm)
    have hkept : (x.fr r).stop = (v.fr r).stop := congrArg (fun y : Vector Rail 8 => y[r].fr.stop) hrails
    exact hlast.trans (hkept.trans hstop)
theorem islandTimeout_none {t : Nat} (hc : s.Calm) (hi : s.flag F.CJ_STATUS_ISLAND = false) :
    Gives (.islandTimeout t) s (Changes [.cj] [] s) := by
  have heffect : (s.at t).islandTimeout = s.at t := by
    have hflag : (s.at t).flag F.CJ_STATUS_ISLAND = false := hi
    unfold State.islandTimeout
    split
    · exact if_pos (by rw [hflag]; rfl)
    · rfl
  exact run_gives (f := State.islandTimeout) rfl heffect hc fun u _ hframe => (hframe.changes (Changes.refl ..)).of_at

end Sys2Proof.Machine
open Sys2Proof Sys2Proof.Machine

/-- Settles O53: TARGET and RAILINFO on a member, RAILEV, the leader lost and the end of an island, each from the state that its effect
leaves and from what the end of an update keeps where the link's round latches no rail. -/
theorem spanningRail : Obligations.SpanningRail := by
  unfold Obligations.SpanningRail
  refine ⟨?_, ?_, ?_, ?_, ?_, ?_, ?_, ?_, ?_, ?_, ?_, ?_, ?_⟩
  · intro t s r d x y q p c hc hup hs hm hr hcrc hd hx hy hp hi
    exact target_gives hc hup hs hm hr hcrc hd hx hy hp hi
  · intro t s r q p c hc hup _ hm hr hcrc hp hi hrun hls hn
    exact target_rejoins hc hup hm hr hcrc hp hi hrun hls hn
  · intro t s r q p c hc hup _ hm hr hcrc hp hi hn
    exact target_far hc hup hm hr hcrc hp hi hn
  · intro t s r w n m y z q p c hc hup _ hm hr hcrc hw hn hl hy hz hp he
    exact railinfo_figures hc hup hm hr hcrc (infoWord r hw hn hl hy hz hp) hn hl hz he
  · intro t s r w n m y z q p c hc hup hs hm hr hcrc hw hn hl hy hz hp he hcode hj hi hst
    exact railinfo_rampdown hc hup hs hm hr hcrc (infoWord r hw hn hl hy hz hp) hy he hcode hj hi hst
  · intro t s r w n m y z q p c hc hup hs hm hr hcrc hw hn hl hy hz hp he hcode hj hi hready hlive
    exact railinfo_start hc hup hs hm hr hcrc (infoWord r hw hn hl hy hz hp) he hcode hj hi hready hlive
  · intro t s r w n m y z q p c hc hup _ hm hr hcrc hw hn hl hy hz hp he hi
    exact railinfo_island hc hup hm hr hcrc (infoWord r hw hn hl hy hz hp) he hi
  · intro t s r y n x q p c hc hup hs hd hx hr hl hcrc hy hn hp hst
    exact railev_hiccup hc hup hs hd hx hr hl hcrc hn (evWord r (by decide) hy hn hp) hst
  · intro t s r y n x q p c hc hup hs hd hx hr hl hcrc hy hn hp hst hcr
    exact railev_latched hc hup hs hd hx hr hl hcrc hy hn (evWord r (by decide) hy hn hp) hst hcr
  · intro t s r hc hup _ hm hr hsw hi ht
    exact leaderLost_island hc hup hm hr hsw hi ht
  · intro t s r hc hup _ hm hr hsw hl ht
    exact leaderLost_resting hc hup hm hr hsw hl ht
  · intro t s r hc hs hr hi ht hl hst
    exact islandTimeout_stops hc hs hr hi ht hl hst
  · intro t s hc _ _ hi
    exact islandTimeout_none hc hi
end



section
/-!
O13: the Control die's mirror takes the changes of an update (R337). What the round of the mirror makes of an entry, and what it needs of a
command's effect.
-/
namespace Sys2Proof.Machine

variable {s x u : State}

/-! ## One entry -/

theorem follow_length {α : Type} [DecidableEq α] {old new mir : List α} (ho : old.length = mir.length) (hn : new.length = mir.length) :
    (follow old new mir).length = mir.length := by
  simp [follow, ho, hn]
/-- An entry that changed takes the new value, and one that did not stays. -/
theorem follow_get {α : Type} [DecidableEq α] {old new mir : List α} {i : Nat} {a b : α} (ho : old[i]? = some a) (hn : new[i]? = some b)
    (hl : i < mir.length) (hm : a = b → mir[i]? = some a) : (follow old new mir)[i]? = some b := by
  obtain ⟨m, hget⟩ : ∃ m, mir[i]? = some m := ⟨_, List.getElem?_eq_getElem hl⟩
  simp only [follow, List.getElem?_zipWith, List.zip, ho, hn, hget]
  by_cases hab : a = b
  · have := hm hab
    rw [hget] at this
    simp [hab, Option.some.inj this]
  · simp [hab]

/-! ## The end of an update up to the mirror -/

/-- The rounds of an update that precede the mirror's. -/
def State.rounds (s0 s : State) : State := State.pmbRound s0 (State.wasRound s0
  (State.cjRound s0 s.stopRound).packRound.clrRound.armRound.precheckRound.shedRound.modeRound.hintRound.clampRound)
theorem settle_rounds (s0 s : State) : settle s0 s = (State.noteRound s0 (State.mirrorRound s0 (State.rounds s0 s))).creditRound := rfl
theorem State.rounds_mirror (s0 s : State) : (State.rounds s0 s).mirPh = s.mirPh ∧ (State.rounds s0 s).mirRail = s.mirRail :=
  (Sound.rounds (free := ⟨true, false⟩) (Sound.refl s)).mirror.resolve_left Bool.false_ne_true
theorem State.entries_get (s : State) (n : Fin 32) : (s.phases.toList.map Phase.entry)[n.val]? = some (s.ph n).entry := by
  simp [State.ph]
theorem State.sts_get (s : State) (r : Fin 8) : (s.rails.toList.map Rail.st)[r.val]? = some (s.st r) := by
  simp [State.st, State.rail]

/-- The mirror agrees with the Front die wherever it did before. -/
structure Mirrored (s u : State) : Prop where
  rails : u.mirRail.length = 8
  phases : u.mirPh.length = 32
  rail : ∀ r : Fin 8, s.mirRail[r.val]? = some (s.st r) → u.mirRail[r.val]? = some (u.st r)
  phase : ∀ n : Fin 32, s.mirPh[n.val]? = some (s.ph n).entry → u.mirPh[n.val]? = some (u.ph n).entry

/-- What the mirror's round needs of an effect: where an entry that agreed is the same again at the round, it stands in the mirror. -/
structure Mirrors (s0 s x : State) : Prop where
  rails : x.mirRail.length = 8
  phases : x.mirPh.length = 32
  rail : ∀ r : Fin 8, s.mirRail[r.val]? = some (s.st r) → (State.rounds s0 x).st r = s.st r → x.mirRail[r.val]? = some (s.st r)
  phase : ∀ n : Fin 32, s.mirPh[n.val]? = some (s.ph n).entry → ((State.rounds s0 x).ph n).entry = (s.ph n).entry →
    x.mirPh[n.val]? = some (s.ph n).entry

theorem State.mirrorRound_mirrored {s0 y : State} (hup : y.pow.cdUp = true) (hct : y.mode ≠ .caretaker) (hr : y.mirRail.length = 8)
    (hp : y.mirPh.length = 32)
    (hrail : ∀ r : Fin 8, s0.mirRail[r.val]? = some (s0.st r) → y.st r = s0.st r → y.mirRail[r.val]? = some (s0.st r))
    (hphase : ∀ n : Fin 32, s0.mirPh[n.val]? = some (s0.ph n).entry → (y.ph n).entry = (s0.ph n).entry →
      y.mirPh[n.val]? = some (s0.ph n).entry) : Mirrored s0 (State.mirrorRound s0 y) := by
  have hcond : (y.pow.cdUp && y.mode != .caretaker) = true := by
    rw [hup]
    simpa using hct
  unfold State.mirrorRound
  rw [if_pos hcond]
  refine ⟨?_, ?_, fun r h => ?_, fun n h => ?_⟩
  · exact (follow_length (by rw [hr]; simp) (by rw [hr]; simp)).trans hr
  · exact (follow_length (by rw [hp]; simp) (by rw [hp]; simp)).trans hp
  · exact follow_get (s0.sts_get r) (y.sts_get r) (by rw [hr]; exact r.isLt) fun e => hrail r h e.symm
  · exact follow_get (s0.entries_get n) (y.entries_get n) (by rw [hp]; exact n.isLt) fun e => hphase n h e.symm

theorem State.mirrorRound_parts (s0 y : State) : (State.mirrorRound s0 y).phases = y.phases ∧ (State.mirrorRound s0 y).rails = y.rails ∧
    (State.mirrorRound s0 y).pow = y.pow ∧ (State.mirrorRound s0 y).mode = y.mode := by
  unfold State.mirrorRound
  split <;> exact ⟨rfl, rfl, rfl, rfl⟩
/-- The rounds that follow the mirror's change none of what it shows. -/
theorem State.lastRounds_kept (s0 z : State) :
    (State.noteRound s0 z).creditRound.phases = z.phases ∧ (∀ r, (State.noteRound s0 z).creditRound.st r = z.st r) ∧
      (State.noteRound s0 z).creditRound.mode = z.mode ∧ (State.noteRound s0 z).creditRound.pow.cdUp = z.pow.cdUp ∧
        (State.noteRound s0 z).creditRound.mirPh = z.mirPh ∧ (State.noteRound s0 z).creditRound.mirRail = z.mirRail := by
  have hp : Plain z (State.noteRound s0 z).creditRound := State.creditRound_plain (State.noteRound_plain _ (.refl z))
  have hh : Held z (State.noteRound s0 z).creditRound := State.creditRound_held (State.noteRound_held _ (.refl z))
  have hm : Sound ⟨true, false⟩ z (State.noteRound s0 z).creditRound := Sound.creditRound (Sound.noteRound (.refl z))
  obtain ⟨hmp, hmr⟩ := hm.mirror.resolve_left Bool.false_ne_true
  have hcd := congrArg Power.cdUp hp.pow
  exact ⟨hp.phases, hh.st, hh.mode, hcd, hmp, hmr⟩

/-- The end of an update. -/
theorem run_mirrored {t : Nat} {f : State → State} (hx : f (s.at t) = x) (hu : run t f s = .next u) (hup : u.pow.cdUp = true)
    (hct : u.mode ≠ .caretaker) (h : Mirrors (s.at t) s x) : Mirrored s u := by
  subst hx
  obtain ⟨hmp, hmr⟩ := State.rounds_mirror (s.at t) (f (s.at t))
  obtain ⟨hrl, hpl, hrail, hphase⟩ := h
  obtain rfl := Host.Outcome.next.inj hu
  have hset := settle_rounds (s.at t) (f (s.at t))
  have hend := State.lastRounds_kept (s.at t) (State.mirrorRound (s.at t) (State.rounds (s.at t) (f (s.at t))))
  rw [← hset] at hend
  generalize settle (s.at t) (f (s.at t)) = w at hend hup hct
  obtain ⟨hphases, hst, hmode, hcd, hwp, hwr⟩ := hend
  generalize State.rounds (s.at t) (f (s.at t)) = y at *
  obtain ⟨hph, hrails, hpow, hym⟩ := State.mirrorRound_parts (s.at t) y
  have hz : Mirrored (s.at t) (State.mirrorRound (s.at t) y) := by
    refine State.mirrorRound_mirrored ?_ ?_ (hmr ▸ hrl) (hmp ▸ hpl) (fun r hr he => hmr ▸ hrail r hr he) fun n hn he => hmp ▸ hphase n hn he
    · rw [← hpow, ← hcd]
      exact hup
    · rw [← hym, ← hmode]
      exact hct
  refine ⟨?_, ?_, fun r hr => ?_, fun n hn => ?_⟩
  · exact (congrArg List.length hwr).trans hz.rails
  · exact (congrArg List.length hwp).trans hz.phases
  · exact (congrArg (fun l : List RailState => l[r.val]?) hwr).trans ((hz.rail r hr).trans (congrArg some (hst r).symm))
  · refine (congrArg (fun l : List (Sw × Health × Nat × Nat) => l[n.val]?) hwp).trans ((hz.phase n hn).trans ?_)
    have hone : (w.ph n).entry = ((State.mirrorRound (s.at t) y).ph n).entry := by
      unfold State.ph
      rw [hphases]
    exact congrArg some hone.symm

end Sys2Proof.Machine
end

section
/-!
O13: the commands that keep the mirror, and the losses that start both dies over (R325, R487): those leave the Control die down.
-/
namespace Sys2Proof.Machine

variable {s x u : State}

/-! ## The mirror as it was -/

theorem mirrors_of_kept {t : Nat} (hr : s.mirRail.length = 8) (hp : s.mirPh.length = 32) (h : x.mirPh = s.mirPh ∧ x.mirRail = s.mirRail) :
    Mirrors (s.at t) s x := by
  obtain ⟨hph, hrail⟩ := h
  refine ⟨hrail ▸ hr, hph ▸ hp, fun r hr _ => ?_, fun n hn _ => ?_⟩
  · rw [hrail]
    exact hr
  · rw [hph]
    exact hn
/-- A command outside the list takes the changes in the mirror's round alone. -/
theorem exec_mirrored {i : Instr} (hw : writesMirror i = false) (hu : exec i s = .next u) (hup : u.pow.cdUp = true)
    (hct : u.mode ≠ .caretaker) (hr : s.mirRail.length = 8) (hp : s.mirPh.length = 32) : Mirrored s u := by
  obtain ⟨t, f, hrun, hf⟩ := exec_effect i u hu
  have h : Sound ⟨true, false⟩ s (f (s.at t)) :=
    hf (fun _ => rfl) (fun e => absurd (hw.symm.trans e) Bool.false_ne_true) (Sound.refl s).at
  exact run_mirrored rfl hrun hup hct (mirrors_of_kept hr hp (h.mirror.resolve_left Bool.false_ne_true))

/-! ## Losses -/

/-- The mirror is as it was, or the Control die is down and no SAFESTOP_CLR waits. -/
def Downed (s x : State) : Prop := (x.mirPh = s.mirPh ∧ x.mirRail = s.mirRail) ∨ x.pow.cdUp = false ∧ x.Calm

theorem Downed.of_sound (h : Sound ⟨true, false⟩ s x) : Downed s x := .inl (h.mirror.resolve_left Bool.false_ne_true)
theorem Downed.ite {c : Prop} {d : Decidable c} {y : State} (hx : Downed s x) (hy : Downed s y) : Downed s (@ite _ c d x y) := by
  split <;> assumption
theorem run_downed {t : Nat} {f : State → State} (hu : run t f s = .next u) (h : Downed s (f (s.at t))) (hup : u.pow.cdUp = true)
    (hct : u.mode ≠ .caretaker) (hr : s.mirRail.length = 8) (hp : s.mirPh.length = 32) : Mirrored s u := by
  rcases h with h | ⟨hdown, hc⟩
  · exact run_mirrored rfl hu hup hct (mirrors_of_kept hr hp h)
  · obtain ⟨v, hv, hframe, -, -⟩ := run_next t f s hc
    obtain rfl : v = u := Host.Outcome.next.inj (hv.symm.trans hu)
    rw [hframe.cdUp, hdown] at hup
    cases hup

theorem State.wakeEntry_down (s : State) (n : Nat) : (s.wakeEntry n).pow.cdUp = false ∧ (s.wakeEntry n).Calm := by
  unfold State.wakeEntry
  extract_lets s0 m held tflt wiped down p fresh kept told marked
  have htold : Rested fresh told := (Rested.refl fresh).keepMarked.dropWake.when fun _ hx =>
    hx.set (f := F.MODE_STATUS_SHUTDOWN_ACT) (i := 0) (by decide) (by decide)
  have hmarked : Rested fresh marked := htold.onPhases fun _ k hx => hx.when fun _ hy =>
    hy.set (f := F.PWM_STATUS_TFLT_FAULT) (by decide) k.isLt
  have hr : Rested fresh (marked.enter n .wake) := hmarked.enter
  exact ⟨by rw [hr.pow], by rw [State.Calm, hr.pow]⟩
theorem Downed.wakeEntry {y : State} {n : Nat} : Downed s (y.wakeEntry n) := .inr (y.wakeEntry_down n)
theorem Downed.lose (h : Sound ⟨true, false⟩ s x) {c : CtCause} : Downed s (x.lose c) := by
  have hd : Sound ⟨true, false⟩ s (x.onRails fun s r => s.discard r 1) := h.onRails fun _ _ hy => hy.discard
  unfold State.lose
  generalize (x.onRails fun s r => s.discard r 1) = y at hd ⊢
  dsimp only
  split
  case h_1 | h_2 => exact .of_sound hd
  case h_3 => exact .of_sound ((hd.controlReset.set (.one rfl)).onRails fun _ _ hy => Sound.ite hy.modFr hy)
  case h_4 => exact .of_sound ((hd.controlReset.set (.one rfl)).resetRegs.keepMarked.when fun _ hy => hy.controlBack)
  case h_5 => exact .wakeEntry
  case h_6 => exact .ite (.of_sound hd.controlReset.takeover) .wakeEntry
theorem Downed.loopFault (h : Sound ⟨true, false⟩ s x) {r : Fin 8} {clk : Bool} : Downed s (x.loopFault r clk) :=
  .ite (.of_sound h) (.lose (h.mark.logF (.none rfl)).modFr)
theorem Downed.controlLost (h : Sound ⟨true, false⟩ s x) {c : CtCause} : Downed s (x.controlLost c) :=
  .ite (.of_sound h) (.lose (h.when fun _ hx => hx.mark.logF (.none rfl)))
theorem Downed.vcoreLoss (h : Sound ⟨true, false⟩ s x) : Downed s x.vcoreLoss :=
  .ite (.of_sound h) (.lose (Sound.withParts (Sound.logF (h.clear.when fun _ hx => hx.mark) (.none rfl))))
theorem Downed.cold : Downed s x.cold := .inr ⟨rfl, rfl⟩
theorem Downed.wakeAccept (h : Sound ⟨true, false⟩ s x) : Downed s x.wakeAccept := .ite .wakeEntry (.of_sound h)
theorem Downed.resetAssert (h : Sound ⟨true, false⟩ s x) : Downed s x.resetAssert := .ite (.of_sound h) .wakeEntry

end Sys2Proof.Machine
end

section
/-!
O13: what the stops and the end of an update make of a phase entry (`Parks`): health and counts stay, and a phase that no detector stopped
    may
become UNUSED, nothing else.
-/
namespace Sys2Proof.Machine

variable {b s : State}

/-- The phase is as it was to the mirror, or UNUSED where no detector stopped it. -/
structure Parked (p q : Phase) : Prop where
  rest : q.entry.2 = p.entry.2
  sw : q.sw = p.sw ∨ q.sw = .unused ∧ p.sw ≠ .stopped
structure Parks (b s : State) : Prop where
  one : ∀ n, Parked (b.ph n) (s.ph n)

theorem Parks.of_phases (h : s.phases = b.phases) : Parks b s := ⟨fun n => by
  unfold State.ph
  rw [h]
  exact ⟨rfl, .inl rfl⟩⟩
theorem Parks.refl (s : State) : Parks s s := .of_phases rfl
theorem Parked.trans {p q r : Phase} (h : Parked p q) (g : Parked q r) : Parked p r := by
  obtain ⟨hr, hs⟩ := h
  obtain ⟨gr, gs⟩ := g
  refine ⟨gr.trans hr, ?_⟩
  rcases gs with gs | ⟨gs, gn⟩
  · exact hs.imp gs.trans fun ⟨h, hn⟩ => ⟨gs.trans h, hn⟩
  · refine .inr ⟨gs, fun e => ?_⟩
    rcases hs with hs | ⟨-, hn⟩
    · exact gn (hs.trans e)
    · exact hn e
theorem Parks.trans {a : State} (h : Parks a b) (g : Parks b s) : Parks a s := ⟨fun n => (h.one n).trans (g.one n)⟩
/-- The phases are as they were. -/
theorem Parks.step (h : Parks b s) {x : State} (hx : x.phases = s.phases) : Parks b x := h.trans (.of_phases hx)
/-- Parts beside the phases change. -/
theorem Parks.withParts (h : Parks b s) {now pending cz mode regs img pow br par sets mirPh mirRail rails ports rcd spi pmb cj otp sec tlm
    jrn
    pk th ctx0 ctxs rings code entry} :
    Parks b ⟨now, pending, cz, mode, regs, img, pow, br, par, sets, mirPh, mirRail, s.phases, rails, ports, rcd, spi, pmb, cj,
      otp, sec, tlm, jrn, pk, th, ctx0, ctxs, rings, code, entry⟩ := h.step rfl
theorem Parks.set (h : Parks b s) {f : Fld} {i v : Nat} : Parks b (s.set f i v) := h.step rfl
theorem Parks.modRail (h : Parks b s) {r : Fin 8} {f : Rail → Rail} : Parks b (s.modRail r f) := h.step rfl
theorem Parks.modEng (h : Parks b s) {r : Fin 8} {f : Engine → Engine} : Parks b (s.modEng r f) := h.step rfl
theorem Parks.modFr (h : Parks b s) {r : Fin 8} {f : Front → Front} : Parks b (s.modFr r f) := h.step rfl
theorem Parks.raise (h : Parks b s) {front : Bool} {code unit : Nat} {items : List (Nat × Int)} {react : React} :
    Parks b (s.raise front code unit items react) := h.step (State.raise_phases ..)
theorem Parks.clear (h : Parks b s) {f : Fld} {i : Nat} : Parks b (s.clear f i) := h.step rfl
theorem Parks.mark (h : Parks b s) {f : Fld} {i : Nat} : Parks b (s.mark f i) := h.step rfl
theorem Parks.inc (h : Parks b s) {f : Fld} {i : Nat} : Parks b (s.inc f i) := h.step rfl
theorem Parks.setSen (h : Parks b s) {r : Fin 8} {v : Bool} : Parks b (s.setSen r v) := h.step rfl
theorem Parks.setLevel (h : Parks b s) {n : Fin 32} {l : Level} : Parks b (s.setLevel n l) := h.step rfl
theorem Parks.logF (h : Parks b s) {code unit : Nat} {items : List (Nat × Int)} {react : React} : Parks b (s.logF code unit items react) :=
  h.raise
theorem Parks.logC (h : Parks b s) {code unit : Nat} {items : List (Nat × Int)} : Parks b (s.logC code unit items) := h.raise
theorem Parks.modPh (h : Parks b s) {m : Fin 32} {f : Phase → Phase} (hf : ∀ p, (f p).entry = p.entry) : Parks b (s.modPh m f) := by
  refine h.trans ⟨fun n => ?_⟩
  by_cases hn : n = m
  · subst hn
    have hph : (s.modPh n f).ph n = f (s.ph n) := by simp [State.ph, State.modPh]
    rw [hph]
    exact ⟨congrArg Prod.snd (hf _), .inl (congrArg Prod.fst (hf _))⟩
  · have hne : (m : Nat) ≠ n := fun e => hn (Fin.ext e.symm)
    have hph : (s.modPh m f).ph n = s.ph n := by simp [State.ph, State.modPh, hne]
    rw [hph]
    exact ⟨rfl, .inl rfl⟩
theorem Parks.ite {c : Prop} {d : Decidable c} {x y : State} (hx : Parks b x) (hy : Parks b y) : Parks b (@ite _ c d x y) := by
  split <;> assumption
theorem Parks.when (h : Parks b s) {c : Bool} {f : State → State} (hf : ∀ x, Parks b x → Parks b (f x)) : Parks b (s.when c f) :=
  .ite (hf _ h) h
theorem Parks.foldl {α : Type} {f : State → α → State} {l : List α} (h : Parks b s) (hf : ∀ x a, Parks b x → Parks b (f x a)) :
    Parks b (l.foldl f s) := List.foldlRecOn l f h fun x hx a _ => hf x a hx
theorem Parks.onRails (h : Parks b s) {f : State → Fin 8 → State} (hf : ∀ x r, Parks b x → Parks b (f x r)) : Parks b (s.onRails f) :=
  h.foldl hf

/-! ## Stops -/

/-- A phase becomes UNUSED, unless a detector stopped it. -/
theorem Parks.unuse (h : Parks b s) {m : Fin 32} : Parks b (if (s.ph m).sw == .stopped then s else s.setSw m .unused) := by
  split
  · exact h
  next hs =>
    refine h.trans ⟨fun n => ?_⟩
    by_cases hn : n = m
    · subst hn
      have hph : (s.setSw n .unused).ph n = { s.ph n with sw := .unused } := by simp [State.setSw, State.ph, State.modPh]
      rw [hph]
      exact ⟨rfl, .inr ⟨rfl, by simpa using hs⟩⟩
    · have hne : (m : Nat) ≠ n := fun e => hn (Fin.ext e.symm)
      have hph : (s.setSw m .unused).ph n = s.ph n := by simp [State.setSw, State.ph, State.modPh, hne]
      rw [hph]
      exact ⟨rfl, .inl rfl⟩
/-- A rail takes a state other than HICCUP. -/
theorem Parks.setRail (h : Parks b s) {r : Fin 8} {st : RailState} (hst : st ≠ .hiccup) : Parks b (s.setRail r st) := by
  unfold State.setRail
  extract_lets moved left parked low
  have hm : Parks b moved := h.modRail
  have hl : Parks b left := .ite hm.modFr hm
  have hp : Parks b parked := by
    have hne : ¬(st == .hiccup) = true := by simpa using hst
    dsimp only [parked]
    rw [if_neg hne]
    exact .ite (hl.foldl fun _ _ hx => hx.unuse) hl
  have hlow : Parks b low := .ite hp hp.set.set.modFr
  exact .ite hlow hlow.modFr
theorem Parks.toLevel (h : Parks b s) {n : Fin 32} {l : Level} : Parks b (s.toLevel n l) := by
  unfold State.toLevel State.toLevelAt
  extract_lets old moved
  have hm : Parks b moved := h.modPh fun _ => rfl
  exact .ite h hm.setLevel
theorem Parks.triRail (h : Parks b s) {r : Fin 8} : Parks b (s.triRail r) := h.foldl fun _ _ hx => hx.toLevel
theorem Parks.endLs (h : Parks b s) {r : Fin 8} : Parks b (s.endLs r) := by
  unfold State.endLs
  extract_lets f told ended freed
  have ht : Parks b told := h.when fun _ hx => hx.logF
  have he : Parks b ended := ht.modFr
  have hf : Parks b freed := he.foldl fun _ _ hx => hx.modPh fun _ => rfl
  exact hf.clear.clear.clear.clear
theorem Parks.fastStop (h : Parks b s) {r : Fin 8} : Parks b (s.fastStop r) := by
  unfold State.fastStop
  extract_lets low
  have hl : Parks b low := h.endLs.triRail.setSen
  exact hl.modFr.clear
theorem Parks.railRest (h : Parks b s) {r : Fin 8} {st : RailState} (hst : st ≠ .hiccup) : Parks b (s.railRest r st) := by
  unfold State.railRest
  extract_lets moved
  have hm : Parks b moved := (h.setRail hst).setSen.modEng
  exact hm.modFr
theorem Parks.railOff (h : Parks b s) {r : Fin 8} : Parks b (s.railOff r) := (h.railRest (by decide)).clear.clear.modEng
theorem Parks.latchNow (h : Parks b s) {r : Fin 8} {cause : Nat} : Parks b (s.latchNow r cause) := by
  unfold State.latchNow
  exact (h.railRest (by decide)).set.logF
theorem Parks.softStop (h : Parks b s) {r : Fin 8} {k : StopKind} {cause : Nat} : Parks b (s.softStop r k cause) := by
  unfold State.softStop
  split
  case h_1 | h_2 | h_3 | h_4 => exact (h.setRail (by decide)).clear.modEng.modFr
  case h_5 => exact h.modFr
  case h_6 => exact h
theorem Parks.disarm (h : Parks b s) {r : Fin 8} : Parks b (s.disarm r) := by
  unfold State.disarm
  split
  case h_1 | h_2 => exact h.railOff
  case h_3 => exact h
theorem Parks.enter (h : Parks b s) {n : Nat} {m : Mode} : Parks b (s.enter n m) := by
  unfold State.enter
  exact h.set.set.withParts.raise
theorem Parks.enterSafestop (h : Parks b s) {n : Nat} : Parks b (s.enterSafestop n) := by
  have hd : Parks b ((s.mark F.FAULT_HOLD_FAULT_HOLD).onRails State.disarm) := h.mark.onRails fun _ _ hx => hx.disarm
  unfold State.enterSafestop
  exact hd.enter
theorem Parks.dlStop (h : Parks b s) {cause : Nat} : Parks b (s.dlStop cause) := by
  refine h.onRails fun x r hx => .ite hx.softStop ?_
  split
  case h_8 => exact hx
  all_goals exact hx.fastStop.railOff
theorem Parks.refuse (h : Parks b s) {res rail : Nat} : Parks b (s.refuse res rail) :=
  Parks.ite h (h.set.inc.withParts.logF.onRails fun _ _ hx => Parks.ite hx.softStop.modFr hx)
theorem Parks.deviceLatch (h : Parks b s) {cause : Nat} : Parks b (s.deviceLatch cause) := by
  unfold State.deviceLatch
  dsimp only
  refine .ite h ?_
  split
  · exact h.set.mark.raise
  · exact h.set.mark.raise
  · exact h.set.mark.raise.enterSafestop
  · exact h.set.mark.raise.dlStop
  · exact h.set.mark.raise.dlStop.withParts.refuse
  · exact h.set.mark.raise.dlStop.enterSafestop
theorem Parks.railLatch (h : Parks b s) {r : Fin 8} {cause : Nat} {fast : Bool} : Parks b (s.railLatch r cause fast) :=
  .when (.ite h.fastStop.latchNow h.softStop) fun _ hx => hx.deviceLatch
theorem Parks.checkMinLive (h : Parks b s) {r : Fin 8} : Parks b (s.checkMinLive r) := .ite (Parks.railLatch h.raise) h
theorem Parks.place (h : Parks b s) {r : Fin 8} : Parks b (s.place r) := by
  unfold State.place
  refine List.foldlRecOn (motive := fun x : State × Nat => Parks b x.1) _ _ h fun _ hx _ _ => ?_
  dsimp only
  exact hx.set.when fun _ hy => hy.modPh fun _ => rfl

/-! ## The end of an update -/

theorem Parks.plain (h : Parks b s) {x : State} (hx : Plain s x) : Parks b x := h.step hx.phases
theorem Parks.stopRound (h : Parks b s) : Parks b s.stopRound := by
  unfold State.stopRound
  dsimp only
  split
  · exact Parks.ite h.withParts h.withParts.softStop
  · exact h.withParts
theorem Parks.cjRound (h : Parks b s) {s0 : State} : Parks b (State.cjRound s0 s) := by
  unfold State.cjRound
  split
  · exact h
  · extract_lets low stopped ev
    have hs : Parks b stopped := .ite h.railLatch h
    exact hs.step rfl
theorem Parks.enterParse (h : Parks b s) {n : Nat} : Parks b (s.enterParse n) := by
  unfold State.enterParse
  refine Parks.when (Parks.enter (Parks.withParts (Parks.set (Parks.clear (Parks.clear ?_))))) fun _ hx => hx.enterSafestop
  exact (h.withParts.onRails fun _ _ hx => Parks.ite hx.railOff hx).withParts
theorem Parks.clrRound (h : Parks b s) : Parks b s.clrRound := Parks.ite (Parks.ite h.withParts h.withParts.clear.enterParse) h
theorem Parks.arm (h : Parks b s) {r : Fin 8} : Parks b (s.arm r) := by
  unfold State.arm
  exact (h.setRail (by decide)).setSen.modFr
theorem Parks.armRound (h : Parks b s) : Parks b s.armRound := h.onRails fun _ _ hx => .ite hx.arm hx
theorem Parks.rounds (h : Parks b s) {s0 : State} : Parks b (State.rounds s0 s) := by
  have hclr := (Parks.plain h.stopRound.cjRound (State.packRound_plain (.refl (State.cjRound s0 s.stopRound)))).clrRound.armRound
  exact hclr.plain (State.pmbRound_plain s0 (State.wasRound_plain s0 (State.clampRound_plain (State.hintRound_plain (State.modeRound_plain
    (State.shedRound_plain (State.precheckRound_plain (.refl _))))))))

end Sys2Proof.Machine
end

section
/-!
O13: what the stops and the end of an update make of the rail states (`Falls`): a rail that leaves its state goes down, so that it is not in
that state again before the mirror's round.
-/
namespace Sys2Proof.Machine

variable {b s x : State} {r : Fin 8}

/-! ## The order of the rail states -/

/-- How far from rest a rail is. OFF is the lowest where the rail may not arm. -/
def Mode.tier (m : Mode) : RailState → Nat
  | .caretaken | .ramp | .reg | .shed | .hiccup => 4
  | .rampdown => 3
  | .armed => 2
  | .latched => 1
  | .off => if m = .safestop ∨ m = .parse then 0 else 2
theorem Mode.tier_stopped {m n : Mode} (hm : m = .safestop ∨ m = .parse) (st : RailState) : m.tier st ≤ n.tier st := by
  cases st
  case off => simp [Mode.tier, hm]
  all_goals exact le_rfl
theorem Mode.tier_off {m n : Mode} {st : RailState} (hst : st ≠ .off) : m.tier st = n.tier st := by
  cases st
  case off => exact absurd rfl hst
  all_goals rfl
/-- The height of a rail. -/
def State.tier (s : State) (r : Fin 8) : Nat := s.mode.tier (s.st r)

/-- No rail rises, and one that left its state, not OFF, is lower. -/
structure Falls (b s : State) : Prop where
  tier : ∀ r, s.tier r ≤ b.tier r
  left : ∀ r, s.st r ≠ b.st r → b.st r ≠ .off ∧ s.tier r < b.tier r

theorem Falls.refl (s : State) : Falls s s := ⟨fun _ => le_rfl, fun _ h => absurd rfl h⟩
theorem Falls.trans {a : State} (h : Falls a b) (g : Falls b s) : Falls a s where
  tier r := (g.tier r).trans (h.tier r)
  left r hr := by
    by_cases hb : b.st r = a.st r
    · obtain ⟨hoff, hlt⟩ := g.left r (hb ▸ hr)
      exact ⟨hb ▸ hoff, hlt.trans_le (h.tier r)⟩
    · obtain ⟨hoff, hlt⟩ := h.left r hb
      exact ⟨hoff, (g.tier r).trans_lt hlt⟩
theorem Falls.of_held (h : Held b s) : Falls b s :=
  ⟨fun r => (congrArg₂ Mode.tier h.mode (h.st r)).le, fun r hr => absurd (h.st r) hr⟩
theorem Falls.held (h : Falls b s) (hx : Held s x) : Falls b x := h.trans (.of_held hx)
theorem Falls.keep (h : Falls b s) (hm : x.mode = s.mode) (hr : x.rails = s.rails) : Falls b x :=
  h.trans ⟨fun r => by simp [State.tier, State.st, State.rail, hm, hr], fun r hne => absurd (by simp [State.st, State.rail, hr]) hne⟩
/-- Parts beside the mode and the rails change. -/
theorem Falls.withParts (h : Falls b s) {now pending cz regs img pow br par sets mirPh mirRail phases ports rcd spi pmb cj otp sec tlm jrn
    pk th ctx0 ctxs rings code entry} :
    Falls b ⟨now, pending, cz, s.mode, regs, img, pow, br, par, sets, mirPh, mirRail, phases, s.rails, ports, rcd, spi, pmb, cj,
      otp, sec, tlm, jrn, pk, th, ctx0, ctxs, rings, code, entry⟩ := h.keep rfl rfl
/-- One rail goes down. -/
theorem Falls.move (h : Falls b s) (hm : x.mode = s.mode) (ho : ∀ q, q ≠ r → x.st q = s.st q)
    (hr : x.st r = s.st r ∨ s.st r ≠ .off ∧ s.mode.tier (x.st r) < s.tier r) : Falls b x := by
  have hsame : ∀ q, x.st q = s.st q → x.tier q ≤ s.tier q := fun q e => (congrArg₂ Mode.tier hm e).le
  have hlow : x.st r ≠ s.st r → s.st r ≠ .off ∧ x.tier r < s.tier r := fun e => by
    obtain ⟨hoff, hlt⟩ := hr.resolve_left e
    exact ⟨hoff, by unfold State.tier at hlt ⊢; rwa [hm]⟩
  refine h.trans ⟨fun q => ?_, fun q hq => ?_⟩
  · by_cases e : x.st q = s.st q
    · exact hsame q e
    · by_cases hqr : q = r
      · subst hqr
        exact (hlow e).2.le
      · exact hsame q (ho q hqr)
  · by_cases hqr : q = r
    · subst hqr
      exact hlow hq
    · exact absurd (ho q hqr) hq
theorem Falls.ite {c : Prop} {d : Decidable c} {y : State} (hx : c → Falls b x) (hy : ¬c → Falls b y) : Falls b (@ite _ c d x y) := by
  split
  next hc => exact hx hc
  next hc => exact hy hc
theorem Falls.foldl {α : Type} {f : State → α → State} {l : List α} (h : Falls b s) (hf : ∀ x a, Falls b x → Falls b (f x a)) :
    Falls b (l.foldl f s) := List.foldlRecOn l f h fun x hx a _ => hf x a hx
theorem Falls.onRails (h : Falls b s) {f : State → Fin 8 → State} (hf : ∀ x r, Falls b x → Falls b (f x r)) : Falls b (s.onRails f) :=
  h.foldl hf

/-! ## Stops -/

theorem Falls.softStop (h : Falls b s) {k : StopKind} {cause : Nat} : Falls b (s.softStop r k cause) := by
  have hdown : (4 ≤ s.tier r) → s.st r ≠ .off → Falls b (s.setRail r .rampdown) := fun ht hoff =>
    h.move (State.setRail_mode r .rampdown) (fun q hq => State.setRail_st_other r q .rampdown hq)
      (.inr ⟨hoff, by rw [State.setRail_st]; exact lt_of_lt_of_le (by decide : 3 < 4) ht⟩)
  have hrest : ∀ {y : State} {f : Engine → Engine} {g : Front → Front}, Falls b y →
      Falls b (((y.clear F.PHC_STATUS_DE_ACT r).modEng r f).modFr r g) := fun {y f g} hy =>
    hy.held ((((Held.refl y).clear _ _).modEng _ _).modFr _ _)
  unfold State.softStop
  split
  case h_1 e | h_2 e | h_3 e | h_4 e => exact hrest (hdown (by simp [State.tier, e, Mode.tier]) (by rw [e]; decide))
  case h_5 => exact h.held ((Held.refl s).modFr _ _)
  case h_6 => exact h
theorem Falls.latchNow (h : Falls b s) {cause : Nat} (hr : 2 ≤ s.tier r) (hoff : s.st r ≠ .off) : Falls b (s.latchNow r cause) := by
  have hl : Falls b (s.setRail r .latched) :=
    h.move (State.setRail_mode r .latched) (fun q hq => State.setRail_st_other r q .latched hq)
      (.inr ⟨hoff, by rw [State.setRail_st]; exact lt_of_lt_of_le (by decide : 1 < 2) hr⟩)
  exact hl.held (s.latchNow_held r cause)
/-- In SAFESTOP and PARSE a rail goes to OFF from any state. -/
theorem Falls.railOff (h : Falls b s) (hm : s.mode = .safestop ∨ s.mode = .parse) (hst : s.st r ≠ .off) : Falls b (s.railOff r) := by
  refine h.move (State.railOff_mode r) (fun q hq => State.railOff_st_other r q hq) (.inr ⟨hst, ?_⟩)
  rw [State.railOff_st]
  unfold State.tier
  generalize s.st r = st at hst
  cases st
  case off => exact absurd rfl hst
  all_goals simp [Mode.tier, hm]
theorem Falls.raise (h : Falls b s) {front : Bool} {code unit : Nat} {items : List (Nat × Int)} {react : React} :
    Falls b (s.raise front code unit items react) := h.held (State.raise_held _ _ _ _ _ (.refl s))
/-- The device enters SAFESTOP or PARSE. -/
theorem Falls.enter (h : Falls b s) {n : Nat} {m : Mode} (hm : m = .safestop ∨ m = .parse) : Falls b (s.enter n m) := by
  refine h.trans ⟨fun r => ?_, fun r hr => absurd (State.enter_st n m r) hr⟩
  unfold State.tier
  rw [State.enter_mode, State.enter_st]
  exact Mode.tier_stopped hm _

/-- What the ARMED and the HICCUP rails do on the way to SAFESTOP. -/
theorem State.disarmed_st (s : State) : (s.onRails State.disarm).mode = s.mode ∧
    ∀ q, (s.onRails State.disarm).st q = s.st q ∨ (s.onRails State.disarm).st q = .off ∧ (s.st q = .armed ∨ s.st q = .hiccup) := by
  refine List.foldlRecOn allRails State.disarm (motive := fun x => x.mode = s.mode ∧ ∀ q, x.st q = s.st q ∨ x.st q = .off ∧
    (s.st q = .armed ∨ s.st q = .hiccup)) ⟨rfl, fun _ => .inl rfl⟩ fun x hx a _ => ?_
  obtain ⟨hm, hst⟩ := hx
  refine ⟨(State.disarm_mode a).trans hm, fun q => ?_⟩
  by_cases hq : x.st q ≠ .armed ∧ x.st q ≠ .hiccup ∨ q ≠ a
  · rw [State.disarm_st a q hq]
    exact hst q
  · obtain ⟨hon, hqa⟩ := not_or.mp hq
    obtain rfl : q = a := not_not.mp hqa
    have hone : x.st q = .armed ∨ x.st q = .hiccup := by
      by_contra hc
      exact hon (not_or.mp hc)
    have hkept : x.st q = s.st q := (hst q).resolve_right fun ⟨hoff, _⟩ => by simp [hoff] at hone
    refine .inr ⟨?_, hkept ▸ hone⟩
    unfold State.disarm
    rcases hone with e | e <;> rw [e] <;> exact State.railOff_st x q
theorem Falls.enterSafestop (h : Falls b s) {n : Nat} : Falls b (s.enterSafestop n) := by
  unfold State.enterSafestop
  obtain ⟨-, hst⟩ := (s.mark F.FAULT_HOLD_FAULT_HOLD).disarmed_st
  have hmark : ∀ r, (s.mark F.FAULT_HOLD_FAULT_HOLD).st r = s.st r := fun _ => rfl
  generalize (s.mark F.FAULT_HOLD_FAULT_HOLD).onRails State.disarm = y at hst
  have htier : ∀ r, (y.enter n .safestop).tier r = Mode.safestop.tier (y.st r) := fun r => by
    unfold State.tier
    rw [State.enter_mode, State.enter_st]
  have hoff : Mode.safestop.tier .off = 0 := rfl
  refine h.trans ⟨fun r => ?_, fun r hr => ?_⟩
  · rw [htier]
    rcases hst r with e | ⟨e, -⟩
    · rw [e, hmark]
      exact Mode.tier_stopped (.inl rfl) _
    · rw [e, hoff]
      exact Nat.zero_le _
  · rw [State.enter_st] at hr
    obtain ⟨e, hone⟩ := (hst r).resolve_left hr
    rw [htier, e, hoff]
    rw [hmark] at hone
    rcases hone with e | e <;> simp [State.tier, e, Mode.tier]

/-- Device-latch cause 6 stops every rail by its ramp. -/
theorem Falls.dlStop (h : Falls b s) : Falls b (s.dlStop 6) := h.onRails fun _ _ hx => by
  rw [if_pos (by decide)]
  exact hx.softStop
theorem Falls.set (h : Falls b s) {f : Fld} {i v : Nat} : Falls b (s.set f i v) := h.withParts
theorem Falls.clear (h : Falls b s) {f : Fld} {i : Nat} : Falls b (s.clear f i) := h.withParts
theorem Falls.when (h : Falls b s) {c : Bool} {f : State → State} (hf : ∀ x, Falls b x → Falls b (f x)) : Falls b (s.when c f) :=
  .ite (fun _ => hf _ h) fun _ => h
theorem Falls.refuse (h : Falls b s) {res rail : Nat} : Falls b (s.refuse res rail) := by
  have hraise : ∀ {y : State}, Falls b y → Falls b ((y.logF 0x0B03 0 [(1, res), (1, rail)]).onRails fun x r =>
      if x.st r == .caretaken then (x.softStop r .toOff 0).modFr r (fun f => { f with handed := false }) else x) := fun hy =>
    Falls.onRails (.raise hy) fun _ _ hx => .ite (fun _ => hx.softStop.held ((Held.refl _).modFr _ _)) fun _ => hx
  exact .ite (fun _ => h) fun _ => hraise h.set.set.withParts
theorem Falls.deviceLatch (h : Falls b s) : Falls b (s.deviceLatch 6) := by
  unfold State.deviceLatch
  dsimp only
  refine .ite (fun _ => h) fun _ => ?_
  split
  · exact h.set.set.raise
  · exact h.set.set.raise
  · exact h.set.set.raise.enterSafestop
  · exact h.set.set.raise.dlStop
  · exact h.set.set.raise.dlStop.withParts.refuse
  · exact h.set.set.raise.dlStop.enterSafestop
/-- A rail that is latched at once runs or is ARMED. -/
theorem Falls.railLatch (h : Falls b s) {cause : Nat} {fast : Bool} (hr : fast = true → 2 ≤ s.tier r ∧ s.st r ≠ .off) :
    Falls b (s.railLatch r cause fast) := by
  have hstop : Falls b (if fast then (s.fastStop r).latchNow r cause else s.softStop r .toLatched cause) := by
    refine .ite (fun hf => ?_) fun _ => h.softStop
    obtain ⟨htier, hoff⟩ := hr hf
    have hfast := s.fastStop_held r
    refine (h.held hfast).latchNow ?_ ?_
    · exact htier.trans (congrArg₂ Mode.tier hfast.mode (hfast.st r)).ge
    · rw [hfast.st]
      exact hoff
  exact .ite (fun _ => hstop.deviceLatch) fun _ => hstop
theorem Falls.checkMinLive (h : Falls b s) : Falls b (s.checkMinLive r) := by
  unfold State.checkMinLive
  extract_lets still used logged
  refine .ite (fun _ => ?_) fun _ => h
  have hheld : Held s logged := State.logF_held _ _ _ _ (.refl s)
  refine (h.held hheld).railLatch fun hstill => ?_
  have hst : s.st r = .hiccup ∨ s.st r = .armed := by
    simp only [still, Bool.or_eq_true, Bool.and_eq_true, beq_iff_eq] at hstill
    exact hstill.imp_right And.left
  unfold State.tier
  rw [hheld.st, hheld.mode]
  rcases hst with e | e <;> simp [e, Mode.tier]

/-! ## The end of an update -/

theorem Falls.stopRound (h : Falls b s) : Falls b s.stopRound := by
  unfold State.stopRound
  dsimp only
  split
  · exact Falls.ite (fun _ => h.withParts) fun _ => h.withParts.softStop
  · exact h.withParts
theorem Falls.cjRound (h : Falls b s) {s0 : State} : Falls b (State.cjRound s0 s) := by
  unfold State.cjRound
  split
  · exact h
  next r _ =>
    extract_lets low stopped ev
    have hs : Falls b stopped := by
      refine .ite (fun hlow => h.railLatch fun _ => ?_) fun _ => h
      have hon : (s.st r).switching = true ∨ s.st r = .hiccup := by
        simp only [low, Bool.and_eq_true, Bool.or_eq_true, beq_iff_eq] at hlow
        exact hlow.1.2
      unfold State.tier
      generalize s.st r = st at hon
      cases st <;> simp_all [Mode.tier, RailState.switching]
    exact hs.keep rfl rfl
theorem Falls.enterParse (h : Falls b s) {n : Nat} (hm : s.mode = .safestop) : Falls b (s.enterParse n) := by
  have hoffs : ∀ {y : State}, Falls b y → y.mode = .safestop →
      Falls b (y.onRails fun s r => if s.st r == .latched || s.st r == .armed || s.st r == .hiccup then s.railOff r else s) := fun hy hmy
          => by
    refine (List.foldlRecOn (motive := fun x : State => Falls b x ∧ x.mode = .safestop) allRails _ ⟨hy, hmy⟩ fun x hx r _ => ?_).1
    obtain ⟨hf, hx⟩ := hx
    split
    next hon => exact ⟨hf.railOff (.inl hx) (fun e => by simp [e] at hon), (State.railOff_mode r).trans hx⟩
    · exact ⟨hf, hx⟩
  unfold State.enterParse
  refine Falls.when (Falls.enter (Falls.withParts (Falls.set (Falls.clear (Falls.clear ?_)))) (.inr rfl)) fun _ hx => hx.enterSafestop
  have hwiped : Falls b { s with regs := resetRegs s.regs (fun f => f.dom == .p) } := h.withParts
  exact (hoffs hwiped hm).withParts
theorem Falls.clrRound (h : Falls b s) : Falls b s.clrRound := by
  unfold State.clrRound
  dsimp only
  split
  next hc =>
    simp only [Bool.and_eq_true, beq_iff_eq] at hc
    exact Falls.ite (fun _ => h.withParts) fun _ => h.withParts.set.enterParse hc.1.2
  · exact h

/-- A rail arms outside SAFESTOP and PARSE alone. -/
theorem State.armRound_tier (s : State) (r : Fin 8) : s.armRound.tier r ≤ s.tier r := by
  unfold State.armRound State.onRails
  refine List.foldlRecOn (motive := fun x : State => x.tier r ≤ s.tier r) allRails _ le_rfl fun x hx a _ => ?_
  split
  next harm =>
    refine le_trans ?_ hx
    by_cases hr : r = a
    · subst hr
      have hoff : x.st r = .off ∧ ¬(x.mode = .safestop ∨ x.mode = .parse) := by
        simp only [State.mayArm, Bool.and_eq_true, beq_iff_eq] at harm
        refine ⟨harm.1.1.1.1.1.1.1.1.1, fun e => ?_⟩
        rcases e with e | e <;> simp [e, Mode.running] at harm
      obtain ⟨hst, hmode⟩ := hoff
      unfold State.tier
      rw [x.arm_st, hst]
      simp [Mode.tier, hmode]
    · exact (congrArg₂ Mode.tier (State.arm_mode a) (State.arm_st_other a r hr)).le
  · exact hx
theorem State.shedRound_tier (s : State) (r : Fin 8) : s.shedRound.tier r ≤ s.tier r := by
  unfold State.shedRound State.onRails
  refine List.foldlRecOn (motive := fun x : State => x.tier r ≤ s.tier r) allRails _ le_rfl fun x hx a _ => ?_
  dsimp only
  have hwant : ∀ m : Mode, m.tier (if (!(x.idleOf a).isEmpty || x.flag F.PHC_STATUS_DE_ACT a) = true then .shed else .reg) = 4 := fun m =>
      by
    split <;> rfl
  generalize (if (!(x.idleOf a).isEmpty || x.flag F.PHC_STATUS_DE_ACT a) = true then RailState.shed else .reg) = want at hwant ⊢
  split
  next hon =>
    refine le_trans ?_ hx
    by_cases hr : r = a
    · subst hr
      have hnow : x.st r = .reg ∨ x.st r = .shed := by
        simp only [Bool.and_eq_true, Bool.or_eq_true, beq_iff_eq] at hon
        exact hon.1
      have hst : (x.modRail r fun y => { y with st := want }).st r = want := by simp [State.st]
      unfold State.tier
      rw [hst]
      refine (hwant _).trans_le ?_
      rcases hnow with e | e <;> rw [e] <;> exact le_rfl
    · exact (congrArg x.mode.tier (show _ = x.st r by simp only [State.st, State.rail_modRail_of_ne _ _ _ _ hr])).le
  · exact hx

theorem Falls.rounds_clear (s0 s : State) : Falls s (State.cjRound s0 s.stopRound).packRound.clrRound :=
  Falls.clrRound (((Falls.refl s).stopRound.cjRound).held (State.packRound_held (.refl _)))
/-- The rest of the rounds raises no rail. -/
theorem State.lateRounds_tier (s0 y : State) (r : Fin 8) (hoff : (State.pmbRound s0 (State.wasRound s0
    y.armRound.precheckRound.shedRound.modeRound.hintRound.clampRound)).st r ≠ .off) : (State.pmbRound s0 (State.wasRound s0
    y.armRound.precheckRound.shedRound.modeRound.hintRound.clampRound)).tier r ≤ y.tier r := by
  have hlast := (State.pmbRound_held s0 (State.wasRound_held s0 (State.clampRound_held (State.hintRound_held
    (.refl y.armRound.precheckRound.shedRound.modeRound))))).st r
  generalize State.pmbRound s0 (State.wasRound s0 y.armRound.precheckRound.shedRound.modeRound.hintRound.clampRound) = w at hoff hlast
  rw [State.modeRound_st] at hlast
  have hpre : y.armRound.precheckRound.st r = y.armRound.st r := State.precheckRound_st r
  generalize y.armRound.precheckRound = p at hlast hpre
  have hshed := p.shedRound_tier r
  have hw : w.tier r = p.shedRound.tier r := by
    unfold State.tier
    rw [hlast]
    exact Mode.tier_off (hlast ▸ hoff)
  rw [hw]
  refine hshed.trans (le_trans ?_ (y.armRound_tier r))
  unfold State.tier
  rw [← hpre]
  refine (Mode.tier_off fun e => hoff ?_).le
  rw [hlast, State.shedRound_st r (by rw [e]; decide) (by rw [e]; decide), e]
/-- A rail that left its state does not return to it by the end of the update. -/
theorem Falls.rounds (h : Falls b s) {s0 : State} (hr : s.st r ≠ b.st r) : (State.rounds s0 s).st r ≠ b.st r := by
  intro hback
  obtain ⟨hoff, hlt⟩ := h.left r hr
  have hclr := (Falls.rounds_clear s0 s).tier r
  have hlate := State.lateRounds_tier s0 (State.cjRound s0 s.stopRound).packRound.clrRound r (hback ▸ hoff)
  have hend : (State.rounds s0 s).tier r ≤ s.tier r := hlate.trans hclr
  have hsame : (State.rounds s0 s).tier r = b.tier r := by
    unfold State.tier
    rw [hback]
    exact Mode.tier_off hoff
  omega

end Sys2Proof.Machine
end

section
/-!
O13: the coherence check of the mirror (R338 to R340) and a rewrite of one entry (R339).
-/
namespace Sys2Proof.Machine

variable {b s x : State} {n : Fin 32} {r : Fin 8}

/-! ## One coherence fault -/

/-- The phases are parked, phase `n` alone apart where it switches. -/
structure Drops (n : Fin 32) (b s : State) : Prop where
  one : ∀ q, q ≠ n ∨ (b.ph n).sw.switching = false → Parked (b.ph q) (s.ph q)

theorem Drops.step (h : Drops n b s) (hx : Parks s x) : Drops n b x := ⟨fun q hq => (h.one q hq).trans (hx.one q)⟩
theorem State.ph_modPh_other (s : State) {q : Fin 32} (hq : q ≠ n) (f : Phase → Phase) : (s.modPh n f).ph q = s.ph q := by
  have hne : (n : Nat) ≠ q := fun e => hq (Fin.ext e.symm)
  simp [State.ph, State.modPh, hne]

theorem Parks.setI (h : Parks b s) {f : Fld} {i : Nat} {v : Int} : Parks b (s.setI f i v) := h.set
/-- A coherence fault stops its own phase where it switches, and parks others. -/
theorem State.cohPhase_drops (s : State) (n : Fin 32) (mir : Sw × Health × Nat × Nat) : Drops n s (s.cohPhase n mir) := by
  unfold State.cohPhase
  extract_lets p mirrored held idled times kept trimmed counted told stuck placed
  have hheld : Parks s held := (Parks.refl s).withParts.set
  have hidled : Drops n s idled := by
    refine ⟨fun q hq => ?_⟩
    by_cases hsw : p.sw.switching = true
    · have hqn : q ≠ n := hq.resolve_right fun e => Bool.false_ne_true (e.symm.trans hsw)
      have hsame : idled.ph q = held.ph q := by
        dsimp only [idled]
        rw [if_pos hsw]
        exact (State.ph_modPh_other _ hqn _).trans (State.ph_modPh_other _ hqn _)
      rw [hsame]
      exact hheld.one q
    · have hsame : idled = held := if_neg hsw
      rw [hsame]
      exact hheld.one q
  have hkept : Parks idled kept := (Parks.refl _).modPh fun _ => rfl
  have hcounted : Parks idled counted := hkept.setI.mark.inc.set
  have hstep : ∀ y, Parks idled y → Parks idled ((y.modPh n fun q => { q with cohStuck := true }).logC 0x0B07 n
      [(1, n.val), (2, times.length)]) := fun y hy => by
    have hp : Parks idled (y.modPh n fun q => { q with cohStuck := true }) := hy.modPh fun _ => rfl
    exact hp.logC
  have htold : Parks idled told := hcounted.logC
  have hstuck : Parks idled stuck := htold.when hstep
  have hplaced : Parks idled placed := .ite hstuck.place.checkMinLive hstuck
  exact hidled.step hplaced.withParts
theorem Falls.modPh (h : Falls b s) {f : Phase → Phase} : Falls b (s.modPh n f) := h.withParts
theorem Falls.place (h : Falls b s) : Falls b (s.place r) := by
  have hk : (s.place r).mode = s.mode ∧ (s.place r).rails = s.rails := by
    unfold State.place
    refine List.foldlRecOn (motive := fun x : State × Nat => x.1.mode = s.mode ∧ x.1.rails = s.rails) _ _ ⟨rfl, rfl⟩ fun x hx a _ => ?_
    dsimp only
    unfold State.when
    split <;> exact hx
  exact h.keep hk.1 hk.2
theorem Falls.cohPhase (h : Falls b s) {mir : Sw × Health × Nat × Nat} : Falls b (s.cohPhase n mir) := by
  unfold State.cohPhase
  extract_lets p mirrored held idled times kept trimmed counted told stuck placed
  have hheld : Falls b held := h.withParts.set
  have hidled : Falls b idled := .ite (fun _ => hheld.modPh.modPh) fun _ => hheld
  have hcounted : Falls b counted := hidled.modPh.set.set.set.set
  have hstuck : Falls b stuck := Falls.when hcounted.raise fun _ hx => hx.modPh.raise
  have hplaced : Falls b placed := .ite (fun _ => hstuck.place.checkMinLive) fun _ => hstuck
  exact hplaced.withParts
theorem State.cohPhase_marked {y : State} (hy : y = { s with mirPh := s.mirPh.set n.val (s.ph n).entry })
    {mir : Sw × Health × Nat × Nat} : Sound ⟨true, false⟩ y (s.cohPhase n mir) := by
  unfold State.cohPhase
  extract_lets p mirrored held idled times kept trimmed counted told stuck placed
  have hmirrored : Sound ⟨true, false⟩ y mirrored := by
    rw [show mirrored = y from hy.symm]
    exact .refl y
  have hheld : Sound ⟨true, false⟩ y held := hmirrored.set (.one rfl)
  have hidled : Sound ⟨true, false⟩ y idled := .ite hheld.setSw.modPh hheld
  have hcounted : Sound ⟨true, false⟩ y counted := ((hidled.modPh.setI (.each _ rfl)).mark.inc (.one rfl)).set (.one rfl)
  have hstuck : Sound ⟨true, false⟩ y stuck := (hcounted.logC (.none rfl)).when fun _ hx => hx.modPh.logC (.none rfl)
  have hplaced : Sound ⟨true, false⟩ y placed := .ite hstuck.place.checkMinLive hstuck
  exact hplaced.withParts
theorem State.cohPhase_mirror (s : State) (n : Fin 32) (mir : Sw × Health × Nat × Nat) :
    (s.cohPhase n mir).mirPh = s.mirPh.set n.val (s.ph n).entry ∧ (s.cohPhase n mir).mirRail = s.mirRail := by
  obtain ⟨y, hy⟩ : ∃ y : State, y = { s with mirPh := s.mirPh.set n.val (s.ph n).entry } := ⟨_, rfl⟩
  obtain ⟨hph, hrail⟩ := (State.cohPhase_marked hy (mir := mir)).mirror.resolve_left Bool.false_ne_true
  exact ⟨hph.trans (by rw [hy]), hrail.trans (by rw [hy])⟩

/-! ## The whole check -/

/-- What the check of the phases has made of a mirror that agreed with the Front die in places. -/
structure PhasesEchoed (b s : State) : Prop where
  falls : Falls b s
  rails : s.mirRail = b.mirRail
  length : s.mirPh.length = b.mirPh.length
  phase : ∀ q : Fin 32, b.mirPh[q.val]? = some (b.ph q).entry → Parked (b.ph q) (s.ph q) ∧
    (s.mirPh[q.val]? = some (b.ph q).entry ∨ (s.ph q).sw ≠ (b.ph q).sw)

/-- A phase that left its entry is UNUSED. -/
theorem Parked.unused {p q : Phase} (h : Parked p q) (hne : q.sw ≠ p.sw) : q.sw = .unused := (h.sw.resolve_left hne).1
theorem Parked.left_trans {p q u : Phase} (h : Parked q u) (hp : Parked p q) (hne : q.sw ≠ p.sw) : u.sw ≠ p.sw := by
  have hq := hp.unused hne
  have hu : u.sw = .unused := h.sw.elim (·.trans hq) And.left
  rw [hu, ← hq]
  exact hne
theorem PhasesEchoed.cohPhase (h : PhasesEchoed b s) {mir : Sw × Health × Nat × Nat} (hm : s.mirPh[n.val]? = some mir)
    (hdiff : (mir.1 == (s.ph n).sw && mir.2.1 == (s.ph n).health) = false) : PhasesEchoed b (s.cohPhase n mir) := by
  obtain ⟨hph, hrail⟩ := s.cohPhase_mirror n mir
  have hd := s.cohPhase_drops n mir
  have hf : Falls b (s.cohPhase n mir) := h.falls.cohPhase
  generalize s.cohPhase n mir = u at hph hrail hd hf
  refine ⟨hf, hrail.trans h.rails, by rw [hph, List.length_set, h.length], fun q hq => ?_⟩
  obtain ⟨hp, hmir⟩ := h.phase q hq
  by_cases hqn : q = n
  · subst hqn
    have hleft : (s.ph q).sw ≠ (b.ph q).sw := hmir.elim (fun hsame hsw => by
      obtain rfl : mir = (b.ph q).entry := Option.some.inj (hm.symm.trans hsame)
      have hhealth : (s.ph q).health = (b.ph q).health := congrArg Prod.fst hp.rest
      simp [Phase.entry, hsw, hhealth] at hdiff) id
    have hu : Parked (s.ph q) (u.ph q) := hd.one q (.inr (by rw [hp.unused hleft]; rfl))
    exact ⟨hp.trans hu, .inr (hu.left_trans hp hleft)⟩
  · have hu : Parked (s.ph q) (u.ph q) := hd.one q (.inl hqn)
    refine ⟨hp.trans hu, hmir.imp (fun hsame => ?_) (hu.left_trans hp)⟩
    have hne : n.val ≠ q.val := fun e => hqn (Fin.ext e.symm)
    rw [hph, List.getElem?_set_ne hne]
    exact hsame
/-- The check of the phases. -/
def State.phaseCheck (s : State) : State := s.onPhases (fun s n => match s.mirPh[n.val]? with
  | some m => if m.1 == (s.ph n).sw && m.2.1 == (s.ph n).health then s else s.cohPhase n m
  | none => s)
theorem State.phaseCheck_echoed (s : State) : PhasesEchoed s s.phaseCheck := by
  have hinit : PhasesEchoed s s := ⟨.refl s, rfl, rfl, fun _ hq => ⟨⟨rfl, .inl rfl⟩, .inl hq⟩⟩
  unfold State.phaseCheck State.onPhases
  refine List.foldlRecOn allPhases _ hinit fun x hx n _ => ?_
  split
  next m hm =>
    by_cases hsame : (m.1 == (x.ph n).sw && m.2.1 == (x.ph n).health) = true
    · rw [if_pos hsame]
      exact hx
    · rw [if_neg hsame]
      exact hx.cohPhase hm (Bool.eq_false_iff.mpr hsame)
  · exact hx

/-- What the check of the rails makes of the state after that of the phases. -/
structure RailsEchoed (b s : State) : Prop where
  phases : s.phases = b.phases
  rails : s.rails = b.rails
  mode : s.mode = b.mode
  mirPh : s.mirPh = b.mirPh
  length : s.mirRail.length = b.mirRail.length
  rail : ∀ r : Fin 8, b.mirRail[r.val]? = some (b.st r) → s.mirRail[r.val]? = some (b.st r)

theorem RailsEchoed.cohRail (h : RailsEchoed b s) {mir : RailState} (hm : s.mirRail[r.val]? = some mir) (hdiff : mir ≠ s.st r) :
    RailsEchoed b (s.cohRail r mir) := by
  have hst : s.st r = b.st r := by
    unfold State.st State.rail
    rw [h.rails]
  have hrail : (s.cohRail r mir).mirRail = s.mirRail.set r.val (s.st r) := by simp [State.cohRail, State.logC, State.mark]
  refine ⟨?_, ?_, ?_, ?_, by rw [hrail, List.length_set, h.length], fun q hq => ?_⟩
  · exact Eq.trans (by simp [State.cohRail, State.logC, State.mark]) h.phases
  · exact Eq.trans (by simp [State.cohRail, State.logC, State.mark]) h.rails
  · exact Eq.trans (by simp [State.cohRail, State.logC, State.mark]) h.mode
  · exact Eq.trans (by simp [State.cohRail, State.logC, State.mark]) h.mirPh
  · have hsame := h.rail q hq
    by_cases hqr : q = r
    · subst hqr
      exact absurd ((Option.some.inj (hm.symm.trans hsame)).trans hst.symm) hdiff
    · rw [hrail, List.getElem?_set_ne fun e => hqr (Fin.ext e.symm)]
      exact hsame
/-- The check of the rails. -/
def State.railCheck (s : State) : State := s.onRails (fun s r => match s.mirRail[r.val]? with
  | some m => if m == s.st r then s else s.cohRail r m
  | none => s)
theorem State.coherence_eq (s : State) : s.coherence = s.phaseCheck.railCheck := rfl
theorem State.railCheck_echoed (s : State) : RailsEchoed s s.railCheck := by
  unfold State.railCheck State.onRails
  refine List.foldlRecOn (motive := RailsEchoed s) allRails _ ⟨rfl, rfl, rfl, rfl, rfl, fun _ => id⟩ fun x hx r _ => ?_
  split
  next m hm =>
    by_cases hsame : (m == x.st r) = true
    · rw [if_pos hsame]
      exact hx
    · rw [if_neg hsame]
      exact hx.cohRail hm (by simpa using hsame)
  · exact hx

/-- The parts of the state that the mirror's round compares, as they were. -/
structure Seen (b s : State) : Prop where
  phases : s.phases = b.phases
  st : ∀ r, s.st r = b.st r
theorem Seen.ph (h : Seen b s) (n : Fin 32) : s.ph n = b.ph n := by
  unfold State.ph
  rw [h.phases]

/-- What agreed before the check agrees after it, or the Front die has left it for good. -/
theorem State.coherence_mirrors {t : Nat} (hx : Seen s x) (hph : x.mirPh = s.mirPh) (hrail : x.mirRail = s.mirRail)
    (hr : s.mirRail.length = 8) (hp : s.mirPh.length = 32) : Mirrors (s.at t) s x.coherence := by
  have hpe := x.phaseCheck_echoed
  have hre := x.phaseCheck.railCheck_echoed
  rw [State.coherence_eq]
  generalize x.phaseCheck = y at hpe hre
  generalize y.railCheck = z at hre
  have hst : ∀ r, z.st r = y.st r := fun r => by
    unfold State.st State.rail
    rw [hre.rails]
  refine ⟨?_, ?_, fun r hsame hback => ?_, fun n hsame hback => ?_⟩
  · rw [hre.length, hpe.rails, hrail, hr]
  · rw [hre.mirPh, hpe.length, hph, hp]
  · have hkept : y.st r = s.st r := by
      by_contra hne
      exact (hpe.falls.keep hre.mode hre.rails).rounds (s0 := s.at t) (by rwa [hst, hx.st]) (hback.trans (hx.st r).symm)
    rw [← hkept] at hsame ⊢
    exact hre.rail r (by rwa [hpe.rails, hrail])
  · rw [← hph, ← hx.ph] at hsame
    rw [hre.mirPh, ← hx.ph]
    obtain ⟨hpark, hmir⟩ := hpe.phase n hsame
    refine hmir.resolve_right fun hleft => ?_
    have hend : Parked (y.ph n) ((State.rounds (s.at t) z).ph n) := ((Parks.of_phases hre.phases).rounds).one n
    exact hend.left_trans hpark hleft (by rw [hx.ph]; exact congrArg Prod.fst hback)
theorem State.echoIn_mirrors {t : Nat} (hr : s.mirRail.length = 8) (hp : s.mirPh.length = 32) :
    Mirrors (s.at t) s (s.at t).echoIn := by
  have hkept : ∀ x : State, x.mirPh = s.mirPh → x.mirRail = s.mirRail → Mirrors (s.at t) s x := fun x h1 h2 =>
    mirrors_of_kept hr hp ⟨h1, h2⟩
  unfold State.echoIn
  split
  · exact hkept _ rfl rfl
  · split
    · exact hkept _ rfl rfl
    · extract_lets y
      split
      · exact hkept _ rfl rfl
      · split
        · exact hkept _ rfl rfl
        · split
          · exact hkept _ rfl rfl
          · exact State.coherence_mirrors ⟨rfl, fun _ => rfl⟩ rfl rfl hr hp

/-! ## A rewrite -/

theorem State.rewrite_mirrors {t : Nat} (hr : s.mirRail.length = 8) (hp : s.mirPh.length = 32) :
    Mirrors (s.at t) s ((s.at t).rewrite n) := by
  unfold State.rewrite
  split
  · have hph : ∀ x : State, x.mirPh = s.mirPh.set n.val (s.ph n).entry → x.mirRail = s.mirRail → Mirrors (s.at t) s x := fun x h1 h2 => by
      refine ⟨h2 ▸ hr, by rw [h1, List.length_set, hp], fun r hsame _ => h2 ▸ hsame, fun q hsame _ => ?_⟩
      by_cases hq : q = n
      · subst hq
        rw [h1, List.getElem?_set_self (by rw [hp]; exact q.isLt)]
      · rw [h1, List.getElem?_set_ne fun e => hq (Fin.ext e.symm)]
        exact hsame
    exact hph _ (by simp [State.logC]; rfl) (by simp [State.logC])
  · exact mirrors_of_kept hr hp ⟨rfl, rfl⟩

end Sys2Proof.Machine
end

section
/-!
O13: warm adoption takes the phase entries and the rail states of the Front die (R334), before it hands anything back.
-/
namespace Sys2Proof.Machine

variable {b s x : State}

/-- The mirror took the entries and the states as they were before the command. -/
theorem mirrors_of_taken {t : Nat} (hph : x.mirPh = s.phases.toList.map Phase.entry) (hrail : x.mirRail = s.rails.toList.map Rail.st) :
    Mirrors (s.at t) s x where
  rails := by simp [hrail]
  phases := by simp [hph]
  rail r _ _ := by
    rw [hrail]
    exact s.sts_get r
  phase n _ _ := by
    rw [hph]
    exact s.entries_get n

/-- Nothing that the mirror shows changed. -/
structure SameView (b s : State) : Prop where
  phases : s.phases = b.phases
  rails : s.rails = b.rails
theorem SameView.refl (s : State) : SameView s s := ⟨rfl, rfl⟩
theorem SameView.withParts (h : SameView b s) {now pending cz mode regs img pow br par sets mirPh mirRail ports rcd spi pmb cj otp sec tlm
    jrn
    pk th ctx0 ctxs rings code entry} :
    SameView b ⟨now, pending, cz, mode, regs, img, pow, br, par, sets, mirPh, mirRail, s.phases, s.rails, ports, rcd, spi, pmb, cj,
      otp, sec, tlm, jrn, pk, th, ctx0, ctxs, rings, code, entry⟩ := ⟨h.phases, h.rails⟩
theorem SameView.set (h : SameView b s) {f : Fld} {i v : Nat} : SameView b (s.set f i v) := h.withParts
theorem SameView.logC (h : SameView b s) {code unit : Nat} {items : List (Nat × Int)} : SameView b (s.logC code unit items) := by
  unfold State.logC
  exact ⟨(State.raise_phases ..).trans h.phases, (State.raise_rails ..).trans h.rails⟩
theorem SameView.when (h : SameView b s) {c : Bool} {f : State → State} (hf : ∀ x, SameView b x → SameView b (f x)) :
    SameView b (s.when c f) := by
  unfold State.when
  split
  · exact hf _ h
  · exact h
theorem SameView.controlBack (h : SameView b s) : SameView b s.controlBack := by
  have hmark : SameView b (s.cjAfresh.mark F.BRIDGE_STATUS_LINK_UP) := h.withParts.set
  unfold State.controlBack
  exact SameView.withParts (SameView.when (SameView.when (SameView.withParts (hmark.when fun _ hx => hx.set)) fun _ hx => hx.logC)
    fun _ hx => hx.withParts)

theorem State.adoptCheck_mirrors {t : Nat} (hr : s.mirRail.length = 8) (hp : s.mirPh.length = 32) {h d e : Bool} :
    Mirrors (s.at t) s ((s.at t).adoptCheck h d e) := by
  have hkept : ∀ {x : State}, Sound ⟨true, false⟩ s x → Mirrors (s.at t) s x := fun hx =>
    mirrors_of_kept hr hp (hx.mirror.resolve_left Bool.false_ne_true)
  have hat : Sound ⟨true, false⟩ s (s.at t) := (Sound.refl s).at
  have hback : SameView s (s.at t).controlBack := SameView.controlBack ⟨rfl, rfl⟩
  have hsound : Sound ⟨true, false⟩ s (s.at t).controlBack := hat.controlBack
  have hend : ∀ {w : State}, w.mirPh = s.phases.toList.map Phase.entry → w.mirRail = s.rails.toList.map Rail.st →
      Mirrors (s.at t) s (w.portsAfresh.portsTell.clearValid.onRails State.restoreRail).adopted := fun {w} h1 h2 => by
    have hw : Sound ⟨true, false⟩ w (w.portsAfresh.portsTell.clearValid.onRails State.restoreRail).adopted :=
      Sound.adopted ((Sound.refl w).portsAfresh.portsTell.clearValid.onRails fun _ _ hx => hx.restoreRail)
    obtain ⟨hph, hrail⟩ := hw.mirror.resolve_left Bool.false_ne_true
    exact mirrors_of_taken (hph.trans h1) (hrail.trans h2)
  unfold State.adoptCheck
  split
  · exact hkept hat
  · dsimp only
    generalize (s.at t).controlBack = y at hback hsound
    split
    · exact hkept hsound
    · split
      · exact hkept hsound.refuse
      · exact hend (congrArg (fun l => l.toList.map Phase.entry) hback.phases) (congrArg (fun l => l.toList.map Rail.st) hback.rails)

end Sys2Proof.Machine
end

section
/-!
O13: applying a configuration leaves the rail states (Table 4.8), up to the mirror it takes at the end of PARSE.
-/
namespace Sys2Proof.Machine

variable {b s x : State}

/-- The rail states are as they were. -/
structure SameSt (b s : State) : Prop where
  st : ∀ r, s.st r = b.st r

theorem SameSt.refl (s : State) : SameSt s s := ⟨fun _ => rfl⟩
theorem SameSt.of_rails (h : SameSt b s) (hx : x.rails = s.rails) : SameSt b x := ⟨fun r => by
  rw [← h.st r]
  unfold State.st State.rail
  rw [hx]⟩
theorem SameSt.withParts (h : SameSt b s) {now pending cz mode regs img pow br par sets mirPh mirRail phases ports rcd spi pmb cj otp sec
    tlm jrn pk th ctx0 ctxs rings code entry} :
    SameSt b ⟨now, pending, cz, mode, regs, img, pow, br, par, sets, mirPh, mirRail, phases, s.rails, ports, rcd, spi, pmb, cj,
      otp, sec, tlm, jrn, pk, th, ctx0, ctxs, rings, code, entry⟩ := h.of_rails rfl
theorem SameSt.modRail (h : SameSt b s) {r : Fin 8} {f : Rail → Rail} (hf : ∀ y, (f y).st = y.st) : SameSt b (s.modRail r f) := by
  refine ⟨fun q => ?_⟩
  rw [← h.st q]
  by_cases hq : q = r
  · subst hq
    simp [State.st, hf]
  · simp only [State.st, State.rail_modRail_of_ne _ _ _ _ hq]
theorem SameSt.set (h : SameSt b s) {f : Fld} {i v : Nat} : SameSt b (s.set f i v) := h.withParts
theorem SameSt.setB (h : SameSt b s) {f : Fld} {i : Nat} {v : Bool} : SameSt b (s.setB f i v) := h.withParts
theorem SameSt.setI (h : SameSt b s) {f : Fld} {i : Nat} {v : Int} : SameSt b (s.setI f i v) := h.withParts
theorem SameSt.clear (h : SameSt b s) {f : Fld} {i : Nat} : SameSt b (s.clear f i) := h.withParts
theorem SameSt.mark (h : SameSt b s) {f : Fld} {i : Nat} : SameSt b (s.mark f i) := h.withParts
theorem SameSt.load (h : SameSt b s) {f : Fld} {i v : Nat} : SameSt b (s.load f i v) := h.withParts
theorem SameSt.modPh (h : SameSt b s) {n : Fin 32} {f : Phase → Phase} : SameSt b (s.modPh n f) := h.withParts
theorem SameSt.modPk (h : SameSt b s) {f : Pack → Pack} : SameSt b (s.modPk f) := h.withParts
theorem SameSt.modEng (h : SameSt b s) {r : Fin 8} {f : Engine → Engine} : SameSt b (s.modEng r f) := h.modRail fun _ => rfl
theorem SameSt.modSp (h : SameSt b s) {r : Fin 8} {f : SetPt → SetPt} : SameSt b (s.modSp r f) := h.modRail fun _ => rfl
theorem SameSt.logC (h : SameSt b s) {code unit : Nat} {items : List (Nat × Int)} : SameSt b (s.logC code unit items) :=
  h.of_rails (State.raise_rails ..)
theorem SameSt.ite {c : Prop} {d : Decidable c} {y : State} (hx : SameSt b x) (hy : SameSt b y) : SameSt b (@ite _ c d x y) := by
  split <;> assumption
theorem SameSt.when (h : SameSt b s) {c : Bool} {f : State → State} (hf : ∀ x, SameSt b x → SameSt b (f x)) :
    SameSt b (s.when c f) := .ite (hf _ h) h
theorem SameSt.foldl {α : Type} {f : State → α → State} {l : List α} (h : SameSt b s) (hf : ∀ x a, SameSt b x → SameSt b (f x a)) :
    SameSt b (l.foldl f s) := List.foldlRecOn l f h fun x hx a _ => hf x a hx
theorem SameSt.onRails (h : SameSt b s) {f : State → Fin 8 → State} (hf : ∀ x r, SameSt b x → SameSt b (f x r)) :
    SameSt b (s.onRails f) := h.foldl hf
theorem SameSt.onPhases (h : SameSt b s) {f : State → Fin 32 → State} (hf : ∀ x n, SameSt b x → SameSt b (f x n)) :
    SameSt b (s.onPhases f) := h.foldl hf
theorem SameSt.loadItems (h : SameSt b s) {l : List Item} {i : Nat} {c : List Byte} : SameSt b (s.loadItems l i c) :=
  h.foldl fun _ _ hx => by
    split
    · exact hx.load
    · exact hx

/-! ## The pack and the journal -/

theorem SameSt.journalChanged (h : SameSt b s) {k : Nat} : SameSt b (s.journalChanged k) := h.withParts
theorem SameSt.journalRequeue (h : SameSt b s) : SameSt b s.journalRequeue := h.foldl fun _ _ hx => .ite hx.journalChanged hx
theorem SameSt.queuePack (h : SameSt b s) : SameSt b s.queuePack := h.modPk.journalChanged
theorem SameSt.gauge (h : SameSt b s) : SameSt b s.gauge := h.set.set.when fun _ hx => hx.clear
theorem SameSt.setQrem (h : SameSt b s) {q : Nat} : SameSt b (s.setQrem q) := h.modPk.gauge
theorem SameSt.rsocJump (h : SameSt b s) : SameSt b s.rsocJump := h.set.modPk
theorem SameSt.wear (h : SameSt b s) : SameSt b s.wear :=
  .ite (.ite h.set.mark.mark h.set.mark.mark.modPk.logC) h.set.clear
theorem SameSt.lrnDisq (h : SameSt b s) {cause : Nat} : SameSt b (s.lrnDisq cause) := .ite h.clear.set.mark.logC.queuePack h
theorem SameSt.lrnPoint (h : SameSt b s) {asoc : Nat} {coarse : Bool} : SameSt b (s.lrnPoint asoc coarse) := by
  have hl : ∀ {y : State}, SameSt b y → SameSt b (y.lrnOpen asoc) := fun hy => hy.mark.modPk
  exact hl (.ite (.ite h.lrnDisq (.ite h.lrnDisq h.set.mark.setQrem.logC.wear.queuePack)) h)
theorem SameSt.ocvApply (h : SameSt b s) {place : Nat} : SameSt b (s.ocvApply place) := by
  unfold State.ocvApply
  dsimp only
  exact .ite h h.setQrem.clear.mark.logC.rsocJump.lrnPoint.queuePack
theorem SameSt.setChg (h : SameSt b s) {k : Nat} : SameSt b (s.setChg k) := h.modPk.set
theorem SameSt.inserted (h : SameSt b s) : SameSt b s.inserted :=
  .queuePack (.modPk (h.lrnDisq.clear.when fun _ hx => hx.setChg.set))
theorem SameSt.packStart (h : SameSt b s) : SameSt b s.packStart := by
  unfold State.packStart
  split
  · exact h.inserted
  · have hw : ∀ {f : Pack → Pack} {y : State}, SameSt b y → SameSt b ((y.modPk f).gauge.wear) := fun hy => hy.modPk.gauge.wear
    refine .ite (hw h.set.set.set.setB.setB.setB.setB.set) ?_
    split
    exact .ite (.ite (SameSt.inserted (hw h.set.set.set.setB.setB.setB.setB.set)) (.ocvApply (hw h.set.set.set.setB.setB.setB.setB.set)))
      (hw h.set.set.set.setB.setB.setB.setB.set)
theorem SameSt.slotReport (h : SameSt b s) {k which : Nat} : SameSt b (s.slotReport k which) := .ite h.mark.logC h
theorem SameSt.takePayload (h : SameSt b s) {k : Nat} {c : List Byte} : SameSt b (s.takePayload k c) := by
  unfold State.takePayload
  split
  · exact h.withParts
  · exact h.foldl fun _ _ hx => hx.set
  · exact h.foldl fun _ _ hx => hx.load.load
  · exact h.set.withParts
  · exact h.withParts
theorem SameSt.noPayload (h : SameSt b s) {k : Nat} : SameSt b (s.noPayload k) := by
  unfold State.noPayload
  dsimp only
  split
  · exact h.logC.withParts
  · exact h.logC.foldl fun _ _ hx => hx.set
  · exact h.logC.foldl fun _ _ hx => hx.load.load
  · exact h.logC.set.withParts
  · exact h.logC.withParts
theorem SameSt.loadType (h : SameSt b s) {k : Nat} : SameSt b (s.loadType k) :=
  .ite h.slotReport.slotReport.set (.ite h.slotReport.slotReport.set.noPayload h.slotReport.slotReport.set.takePayload)
theorem SameSt.loadJournal (h : SameSt b s) : SameSt b s.loadJournal := by
  unfold State.loadJournal
  exact .set (.set (.withParts (h.set.foldl fun _ _ hx => hx.loadType)))

/-! ## The steps of an apply -/

theorem SameSt.initCtxs (h : SameSt b s) : SameSt b s.initCtxs := by
  unfold State.initCtxs
  generalize s.ctxInit.word = n
  exact h.withParts
theorem SameSt.putF (h : SameSt b s) {r : Fin 8} : SameSt b (s.putF r) := .ite h (.ite h.setI.modEng.mark h.setI.modEng)
theorem SameSt.putHints (h : SameSt b s) {r : Fin 8} {l : List Hint} : SameSt b (s.putHints r l) := by
  have ht : SameSt b (s.modRail r fun y => { y with tn := l }) := h.modRail fun _ => rfl
  exact ht.set
theorem SameSt.loadSp (h : SameSt b s) {r : Fin 8} {c : List Byte} {boot : Nat} : SameSt b (s.loadSp r c boot) :=
  h.loadItems.load.modSp.set.set
theorem SameSt.loadPack (h : SameSt b s) {c : Option (List Byte)} : SameSt b (s.loadPack c) := by
  unfold State.loadPack
  split
  · exact h.load.modPk
  · exact h.loadItems.load.modPk.when fun _ hx => hx.packStart
theorem SameSt.loadThermal (h : SameSt b s) {c : List Byte} : SameSt b (s.loadThermal c) := by
  unfold State.loadThermal
  exact SameSt.withParts (h.loadItems.foldl fun _ _ hx => hx.loadItems)
theorem SameSt.loadLinks (h : SameSt b s) {c : List Byte} {cfg2 cfg3 : Nat} : SameSt b (s.loadLinks c cfg2 cfg3) := by
  unfold State.loadLinks
  exact SameSt.withParts (h.loadItems.load.load.load.foldl fun _ _ hx => hx.load.load.load)
theorem SameSt.takeProfile (h : SameSt b s) {why : Nat} : SameSt b (s.takeProfile why) := by
  unfold State.takeProfile
  exact SameSt.logC (SameSt.withParts (h.when fun _ hx => hx.logC))
theorem SameSt.applyDevice (h : SameSt b s) {c : List Byte} : SameSt b (s.applyDevice c) := h.set.withParts
theorem SameSt.applyPersons (h : SameSt b s) {c : List Byte} : SameSt b (s.applyPersons c) := h.load.load.load.load.withParts
theorem SameSt.applyLimits (h : SameSt b s) {c : Conf} : SameSt b (s.applyLimits c) :=
  .onRails (h.loadItems.foldl fun _ _ hx => hx.loadItems) fun _ _ hx => hx.loadItems.modRail fun _ => rfl
theorem SameSt.applyPhase (h : SameSt b s) {c : Conf} {n : Fin 32} : SameSt b (s.applyPhase c n) := by
  unfold State.applyPhase
  exact h.setB.set.setB.set.loadItems.load.modPh
theorem SameSt.applyPhRail (h : SameSt b s) {c : Conf} {r : Fin 8} : SameSt b (s.applyPhRail c r) := by
  unfold State.applyPhRail
  exact h.loadItems.loadItems.modRail fun _ => rfl
theorem SameSt.applyPhases (h : SameSt b s) {c : Conf} : SameSt b (s.applyPhases c) :=
  .onRails (h.loadJournal.onPhases fun _ _ hx => hx.applyPhase) fun _ _ hx => hx.applyPhRail
theorem SameSt.applyRegion (h : SameSt b s) {c : Conf} {m : Fin 4} : SameSt b (s.applyRegion c m) := by
  unfold State.applyRegion
  split
  · exact h.loadItems.load
  · exact h.load.load.load.load
theorem SameSt.applyRail (h : SameSt b s) {c : Conf} {r : Fin 8} : SameSt b (s.applyRail c r) := by
  unfold State.applyRail
  extract_lets o c used
  have hu : SameSt b used := h.modRail fun _ => rfl
  exact hu.loadItems.loadSp
theorem SameSt.applySets (h : SameSt b s) {c : Conf} : SameSt b (s.applySets c) := h.foldl fun _ _ hx => hx.withParts
theorem SameSt.applyTense (h : SameSt b s) {c : Conf} : SameSt b (s.applyTense c) := by
  unfold State.applyTense
  exact SameSt.initCtxs (SameSt.onRails (SameSt.load (SameSt.load (h.loadItems.onRails fun _ _ hx => hx.loadItems)))
    fun _ _ hx => hx.putHints.putF)
theorem SameSt.applySteps (h : SameSt b s) {c : Conf} : SameSt b (s.applySteps c) :=
  .loadLinks (.applyTense (.loadPack (.loadThermal (.applySets (.onRails
    (h.applyPersons.applyLimits.applyPhases.foldl fun _ _ hx => hx.applyRegion) fun _ _ hx => hx.applyRail)))))
theorem SameSt.putDigest (h : SameSt b s) {f : Fld} {w : Nat → Nat} : SameSt b (s.putDigest f w) := h.foldl fun _ _ hx => hx.set
theorem SameSt.applyFirmware (h : SameSt b s) {c : Conf} : SameSt b (s.applyFirmware c) := h.putDigest.putDigest.withParts.withParts
theorem SameSt.advanceSvn (h : SameSt b s) : SameSt b s.advanceSvn := .ite h.withParts.mark.logC h

/-! ## The end of PARSE -/

theorem SameSt.enter (h : SameSt b s) {n : Nat} {m : Mode} : SameSt b (s.enter n m) := ⟨fun r => (State.enter_st n m r).trans (h.st r)⟩
theorem SameSt.phaseReady (h : SameSt b s) {n : Fin 32} : SameSt b (s.phaseReady n) :=
  .when (.set (.modPh (h.clear.when fun _ hx => hx.clear))) fun _ hx => hx.logC
theorem SameSt.railReady (h : SameSt b s) {r : Fin 8} : SameSt b (s.railReady r) := h.clear.modEng.when fun _ hx => hx.logC.set
theorem SameSt.showImage (h : SameSt b s) : SameSt b s.showImage := .ite h.set.setB h.set.setB.set.set.set

end Sys2Proof.Machine
end

section
/-!
O13: CONFIG_APPLY takes the mirror when every phase is at rest (T5), so that no entry changes in the rounds that follow. The obligation.
-/
namespace Sys2Proof.Machine

variable {b s x : State} {n : Fin 32}

/-! ## Phases at rest -/

/-- No rail drives the phase. -/
def Phase.AtRest (p : Phase) : Prop := p.sw = .stopped ∨ p.sw = .unused

theorem Parked.atRest {p q : Phase} (h : Parked p q) (hp : p.AtRest) : q.AtRest := by
  rcases h.sw with e | ⟨e, -⟩
  · exact hp.imp e.trans e.trans
  · exact .inr e
theorem Parked.entry_eq {p q : Phase} (h : Parked p q) (hp : p.AtRest) : q.entry = p.entry := by
  refine Prod.ext ?_ h.rest
  rcases h.sw with e | ⟨e, hne⟩
  · exact e
  · exact e.trans (hp.resolve_left hne).symm
theorem State.phaseReady_parts (s : State) (n : Fin 32) :
    ((s.phaseReady n).ph n).AtRest ∧ ∀ q, q ≠ n → (s.phaseReady n).ph q = s.ph q := by
  unfold State.phaseReady
  extract_lets asg rn gone held freed stay ready low
  have hfreed : ∀ q, freed.ph q = s.ph q := fun q => by
    dsimp only [freed, State.when]
    split <;> rfl
  have hend : ∀ q, (low.when gone fun s => s.logC 0x0605 n [(1, n.val), (1, s.get F.PH_STATE_FAIL_CNT n)]).ph q = ready.ph q := fun q => by
    have hlow : low.ph q = ready.ph q := rfl
    rw [← hlow]
    unfold State.when State.logC
    split
    · simp [State.ph]
    · rfl
  refine ⟨?_, fun q hq => ?_⟩
  · rw [hend]
    have hready : (ready.ph n).sw = if stay then .stopped else .unused := by simp [ready, State.ph, State.modPh]
    unfold Phase.AtRest
    rw [hready]
    split
    · exact .inl rfl
    · exact .inr rfl
  · exact (hend q).trans ((State.ph_modPh_other freed hq _).trans (hfreed q))
theorem State.phasesReady (s : State) (n : Fin 32) : ((s.onPhases State.phaseReady).ph n).AtRest := by
  have hl : ∀ (l : List (Fin 32)) (x : State), n ∈ l ∨ (x.ph n).AtRest → ((l.foldl State.phaseReady x).ph n).AtRest := fun l => by
    induction l with
    | nil => exact fun x hx => hx.resolve_left (List.not_mem_nil)
    | cons a l ih =>
      refine fun x hx => ih _ ?_
      obtain ⟨hone, hother⟩ := x.phaseReady_parts a
      by_cases hn : n = a
      · exact .inr (hn ▸ hone)
      · rw [hother n hn]
        exact hx.imp_left fun hm => (List.mem_cons.mp hm).resolve_left hn
  exact hl _ _ (.inl (List.mem_finRange n))

/-! ## The end of PARSE -/

theorem Parks.railReady (h : Parks b s) {r : Fin 8} : Parks b (s.railReady r) := h.clear.modEng.when fun _ hx => hx.logC.set
theorem Parks.journalRequeue (h : Parks b s) : Parks b s.journalRequeue := h.foldl fun _ _ hx => .ite hx.withParts hx
theorem Parks.noteOn (h : Parks b s) {p : Fin 2} {x : Notice} : Parks b (s.noteOn p x) := by
  unfold State.noteOn
  exact .ite (Parks.when h.withParts fun _ hx => hx.mark.logC) h
theorem Parks.portsAfresh (h : Parks b s) : Parks b s.portsAfresh := by
  refine h.foldl fun y p hy => ?_
  have hp : Parks b (y.modPort p fun q => { nseq := q.nseq, goodAt := y.now }) := hy.step rfl
  exact hp.set.set.clear.clear
theorem Parks.portsTell (h : Parks b s) : Parks b s.portsTell := by
  have hn : ∀ {y : State}, Parks b y → Parks b (y.noteAll 4 s.mode.code) := fun hy => hy.foldl fun _ _ hx => hx.noteOn
  exact (hn h).onRails fun _ _ hx => .ite (hx.foldl fun _ _ hy => .ite hy.noteOn hy) hx

/-- The mirror was taken from a state with the rails as before the command and every phase at rest. -/
theorem mirrors_of_parsed {t : Nat} {y w : State} (hst : SameSt s y) (hrest : ∀ n, (y.ph n).AtRest)
    (hph : w.mirPh = y.phases.toList.map Phase.entry) (hrail : w.mirRail = y.rails.toList.map Rail.st) (hp : Parks y w) :
    Mirrors (s.at t) s w where
  rails := by simp [hrail]
  phases := by simp [hph]
  rail r _ _ := by
    rw [hrail, ← hst.st]
    exact y.sts_get r
  phase n _ hback := by
    have hend : Parked (y.ph n) ((State.rounds (s.at t) w).ph n) := (hp.rounds).one n
    rw [hph, ← hback, hend.entry_eq (hrest n)]
    exact y.entries_get n
theorem SameSt.parseDone {t : Nat} (h : SameSt s x) : Mirrors (s.at t) s x.parseDone := by
  have hready : ∀ {y : State} {k : Nat} {m : Mode}, SameSt s y →
      SameSt s (((y.onPhases State.phaseReady).onRails State.railReady).enter k m).journalRequeue ∧
        ∀ n, ((((y.onPhases State.phaseReady).onRails State.railReady).enter k m).journalRequeue.ph n).AtRest := fun {y k m} hy => by
    have hp : Parks (y.onPhases State.phaseReady) (((y.onPhases State.phaseReady).onRails State.railReady).enter k m).journalRequeue :=
      ((Parks.refl _).onRails fun _ _ hx => hx.railReady).enter.journalRequeue
    exact ⟨((hy.onPhases fun _ _ hx => hx.phaseReady).onRails fun _ _ hx => hx.railReady).enter.journalRequeue,
      fun n => (hp.one n).atRest (y.phasesReady n)⟩
  have hend : ∀ {y : State}, SameSt s y → (∀ n, (y.ph n).AtRest) → Mirrors (s.at t) s
      (State.portsTell (State.portsAfresh { y with
        mirPh := y.phases.toList.map Phase.entry, mirRail := y.rails.toList.map Rail.st })) := fun {y} hst hrest => by
    have hw : ∀ {z : State}, z.mirPh = y.phases.toList.map Phase.entry → z.mirRail = y.rails.toList.map Rail.st → Parks y z →
        Mirrors (s.at t) s z.portsAfresh.portsTell := fun {z} h1 h2 hz => by
      have hsound : Sound ⟨true, false⟩ z z.portsAfresh.portsTell := (Sound.refl z).portsAfresh.portsTell
      obtain ⟨hph, hrail⟩ := hsound.mirror.resolve_left Bool.false_ne_true
      exact mirrors_of_parsed hst hrest (hph.trans h1) (hrail.trans h2) hz.portsAfresh.portsTell
    exact hw rfl rfl (.of_phases rfl)
  unfold State.parseDone
  extract_lets l key shown p sc cjv told joined readied moved taken
  have hj : SameSt s joined := (h.showImage.mark.load.set).withParts.setB
  clear_value joined
  obtain ⟨hst, hrest⟩ := hready (k := 5) (m := .precheck) hj
  exact hend hst hrest
theorem State.configApply_mirrors {t : Nat} (hr : s.mirRail.length = 8) (hp : s.mirPh.length = 32) :
    Mirrors (s.at t) s (s.at t).configApply := by
  have hkept : ∀ {x : State}, Sound ⟨true, false⟩ s x → Mirrors (s.at t) s x := fun hx =>
    mirrors_of_kept hr hp (hx.mirror.resolve_left Bool.false_ne_true)
  suffices h : ∀ z : State, Sound ⟨true, false⟩ s z → SameSt s z → Mirrors (s.at t) s z.configApply from
    h _ (Sound.refl s).at ⟨fun _ => rfl⟩
  intro z hat hst
  have hsound : Sound ⟨true, false⟩ s (if z.par.source = 0 && z.norMode = 3 then z.takeProfile 2 else z) := .ite hat.takeProfile hat
  have hsame : SameSt s (if z.par.source = 0 && z.norMode = 3 then z.takeProfile 2 else z) := .ite hst.takeProfile hst
  unfold State.configApply
  split
  · exact hkept hat
  · generalize (if z.par.source = 0 && z.norMode = 3 then z.takeProfile 2 else z) = y at hsound hsame ⊢
    dsimp only
    split
    · exact hkept hsound
    · have hw (hy : y.regs.Wide) := hy.resetRegs fun f => f.img && f != F.PH_CAL_CAL_GAIN && f != F.PH_CAL_CAL_OFS
      generalize Machine.resetRegs y.regs _ = m at hw ⊢
      split
      · exact hkept (Sound.noConfig (Sound.applyDevice (hsound.withRegs hw).withParts))
      · exact SameSt.parseDone hsame.withParts.applyDevice.applySteps.applyFirmware.set.advanceSvn

/-! ## The obligation -/

/-- Every command takes its changes of rail states and phase entries in the mirror. -/
theorem exec_mirrors {i : Instr} {u : State} (hu : exec i s = .next u) (hup : u.pow.cdUp = true) (hct : u.mode ≠ .caretaker)
    (hr : s.mirRail.length = 8) (hp : s.mirPh.length = 32) : Mirrored s u := by
  have hk : ∀ t : Nat, Sound ⟨true, false⟩ s (s.at t) := fun t => (Sound.refl s).at
  cases i
  case loopPortFault t r clk => exact run_downed (t := t) (f := (·.loopFault r clk)) hu (.loopFault (hk t)) hup hct hr hp
  case heartbeatEchoReceive t => exact run_mirrored (t := t) (f := State.echoIn) rfl hu hup hct (State.echoIn_mirrors hr hp)
  case coherenceRewrite t n => exact run_mirrored (t := t) (f := (·.rewrite n)) rfl hu hup hct (State.rewrite_mirrors hr hp)
  case controlDieLost t c => exact run_downed (t := t) (f := (·.controlLost c)) hu (.controlLost (hk t)) hup hct hr hp
  case lockstepMismatch t =>
    exact run_downed (t := t) (f := fun s => if s.coresRun then s.lose .lockstep else s) hu (.ite (.lose (hk t)) (.of_sound (hk t)))
      hup hct hr hp
  case policyWatchdogExpiry t =>
    exact run_downed (t := t) (f := fun s => if s.coresRun && s.wdogDue then s.lose .watchdog else s) hu
      (.ite (.lose (hk t)) (.of_sound (hk t))) hup hct hr hp
  case vaonPowerOnReset t => exact run_downed (t := t) (f := State.cold) hu .cold hup hct hr hp
  case vcoreLoss t => exact run_downed (t := t) (f := State.vcoreLoss) hu (.vcoreLoss (hk t)) hup hct hr hp
  case wakeEventAccept t => exact run_downed (t := t) (f := State.wakeAccept) hu (.wakeAccept (hk t)) hup hct hr hp
  case resetNAssert t => exact run_downed (t := t) (f := State.resetAssert) hu (.resetAssert (hk t)) hup hct hr hp
  case configApply t => exact run_mirrored (t := t) (f := State.configApply) rfl hu hup hct (State.configApply_mirrors hr hp)
  case adoptionCheck t h d e =>
    exact run_mirrored (t := t) (f := fun s => s.adoptCheck h d e) rfl hu hup hct (State.adoptCheck_mirrors hr hp)
  all_goals exact exec_mirrored rfl hu hup hct hr hp

end Sys2Proof.Machine

open Sys2Proof Sys2Proof.Machine

/-- Settles O13: outside the commands that write the mirror themselves, the mirror's round takes every change of the update; a loss of the
Control die leaves it down; the coherence check, a rewrite, a configuration and a warm adoption take the entries from the Front die, and
what they took is still there, or has changed for good, when the round comes. -/
theorem mirrorFollowsTheFrontDie : Obligations.MirrorFollowsTheFrontDie := by
  unfold Obligations.MirrorFollowsTheFrontDie
  intro c s u hu hup hct hr hp
  obtain ⟨hrl, hpl, hrail, hphase⟩ := exec_mirrors hu hup hct hr hp
  exact ⟨hrl, hpl, hrail, hphase⟩

end
